-- ==== Sys2Proof/Word.lean ====
section
/-! DEFINITION. The word types, the access codes of R42 and the shape of a register map's rows. -/

namespace Sys2Proof

/-- A register word (R36). -/
abbrev Word := BitVec 32

/-- A byte of a memory. -/
abbrev Byte := BitVec 8

/-- An instant, in picoseconds of uptime (the model's unit of time; R482 counts uptime from VDD_AON). -/
abbrev Instant := Nat

/-- R42: the access codes, without the P prefix. -/
inductive Acc where
  | rw | ro | wo | t | st | lv
  deriving DecidableEq, Repr

/-- One field of a register map: the active plain address of its (low) word, its lowest bit, its width, and
whether it is tuned (T, PT). A field wider than 32 bits runs on in the next word (R51). -/
structure Field where
  /-- R37: active plain address -/
  addr : Nat
  /-- lowest bit -/
  lo : Nat
  /-- bits -/
  width : Nat
  /-- R42: access code T or PT -/
  tuned : Bool
  deriving DecidableEq, Repr

/-- One field of one register word, as its map gives it. -/
structure RegField where
  /-- lowest bit -/
  lo : Nat
  /-- bits -/
  width : Nat
  /-- R42 -/
  acc : Acc
  /-- R42: P prefix -/
  priv : Bool
  /-- R46: seal-locked -/
  sealed : Bool
  /-- Reset column -/
  reset : Nat
  deriving DecidableEq, Repr

/-- One register word, or an array of like words. -/
structure RegRow where
  /-- active plain address of the first word -/
  base : Nat
  /-- (stride, count) of each index -/
  dims : List (Nat × Nat)
  /-- R42: its fields are tuned -/
  tuned : Bool
  /-- R51: 0 a 32-bit register, 1 the low word and 2 the high word of a 64-bit register -/
  half : Nat
  /-- its fields; bits of no field are reserved (R5) -/
  fields : List RegField
  deriving DecidableEq, Repr

/-- Two's complement: the value of the low `w` bits of `n`, signed. -/
def signed (w n : Nat) : Int := if n % 2 ^ w < 2 ^ (w - 1) then (n % 2 ^ w : Nat) else (n % 2 ^ w : Nat) - (2 ^ w : Nat)

/-- Two's complement: the `w` low bits of `i`. -/
def wrapN (w : Nat) (i : Int) : Nat := (i % (2 ^ w : Nat)).toNat

/-- `i` held to the range of a signed `w`-bit number. -/
def clampS (w : Nat) (i : Int) : Int := max (-(2 ^ (w - 1) : Nat)) (min ((2 ^ (w - 1) : Nat) - 1) i)

end Sys2Proof
end

