-- ==== Sys2Proof/Syntax.lean ====
section
/-! DEFINITION. The commands of spec/opcode_table.json, one constructor per row, with the operands the spec gives each step. -/

namespace Sys2Proof

/-- R7 (01): the blocks. -/
inductive Block where
  | chp | psq | psy | src | occ | crx | rmx | cal | gda | chn | pcm | phs | pfl | dts | aar | zon
  | dmc | rng | cmp | cvu | lan | eth | kpe | mgc | sns | ref | tiu | evr | tim | upd | gdb
  deriving DecidableEq, Repr

/-- R43, R51 (02): the masters that make register accesses. -/
inductive Master where
  | morsen | session (n : Nat) | jtag
  deriving DecidableEq, Repr

/-- The two polarisations (R136, 05). -/
inductive Pol where
  | x | y
  deriving DecidableEq, Repr

/-- R433 (15): a path: MAC 0 to 3 or 4 for the Peer Link, source IP, UDP port and Ethernet address. -/
structure KpPath where
  mac : Nat
  ip : Nat
  port : Nat
  eth : Nat
  deriving DecidableEq, Repr

/-- R448 (15): a command's arguments, as parsed. -/
inductive KpArgs where
  | nop
  | regRead (addrs : List Nat)
  | regWrite (pairs : List (Nat × BitVec 32))
  | memRead (space addr len : Nat)
  | memWrite (space addr : Nat) (data : List (BitVec 8))
  | load (addr len : Nat)
  | subscribe (kind preset pred first last maxUs : Nat)
  | unsubscribe (sub : Nat)
  | flush (sub : Nat)
  | capArm (trigger first last pre post mode : Nat)
  | capRead (num start count first last pred : Nat)
  | capAbort (num : Nat)
  | capRelease (num : Nat)
  | ringRead (row count first last pred : Nat)
  | logRead (start count : Nat)
  | update (subop flags offset len : Nat) (data : List (BitVec 8))
  | mode (m : Nat)
  | abort (tag : Nat)
  deriving DecidableEq, Repr

/-- The two guards (10). -/
inductive GuardId where
  | a | b
  deriving DecidableEq, Repr

/-- R427 to R429 (15): a KP packet as received, its header fields and its payload. -/
structure KpPacket where
  magic : Nat
  version : Nat
  type : Nat
  session : Nat
  unit : Nat
  flags : Nat
  cookie : BitVec 32
  seq : Nat
  ack : Nat
  length : Nat
  time : Nat
  payload : List (BitVec 8)
  /-- the trailer CHK -/
  chk : BitVec 32
  deriving DecidableEq, Repr


/-- R404 (14): the destination address of a received frame: the MAC's own, broadcast, 01:00:5E:00:01:81, or another. -/
inductive RxDest where
  | own | broadcast | ptp | other
  deriving DecidableEq, Repr

/-- R403, R404 (14): what a received frame carries. -/
inductive RxBody where
  /-- an ARP request: the sender's and the wanted IP address -/
  | arp (ip target : Nat)
  /-- an ICMP echo request: source and destination, whether the header is plain (no options, no fragment), and its checksum right -/
  | echo (ip dst : Nat) (plain headerOk : Bool) (data : List (BitVec 8))
  /-- a UDP datagram: source and destination, ports, its header as above, and whether its checksum is zero or right -/
  | udp (ip dst sport dport : Nat) (plain headerOk sumOk : Bool) (payload : List (BitVec 8))
  /-- a MAC control frame, or anything else -/
  | other
  deriving DecidableEq, Repr

/-- R403, R404 (14): a frame as received. -/
structure RxFrame where
  /-- the FCS is right -/
  fcsOk : Bool
  /-- bytes from destination address to FCS, tag included -/
  len : Nat
  /-- the VLAN identifier of a tagged frame -/
  vid : Option Nat
  dest : RxDest
  /-- source Ethernet address -/
  eth : Nat
  body : RxBody
  deriving DecidableEq, Repr

/-- R413, R414 (14): a flit as received. -/
structure RxFlit where
  /-- both codewords decode, and the CRC is right -/
  ok : Bool
  type : Nat
  seq : Nat
  ack : Nat
  crd : Nat
  /-- bit 31 of the header -/
  top : Bool
  /-- 240 bytes -/
  payload : List (BitVec 8)
  deriving DecidableEq, Repr

/-- The commands (spec/opcode_table.json); each constructor's docstring names its row and rule. -/
inductive Instr where
  /-- REGISTER_WRITE, R42: A plain write to a register that has no row of its own takes effect according to its access code. -/
  | registerWrite (m : Master) (addr : Nat) (v : Word) (t : Instant)
  /-- BRIDGE_TIMEOUT, R9: A register access that its target block has not answered within 2 µs completes with BUS_ERROR, and the block is charged with the cause. -/
  | bridgeTimeout (m : Master) (addr : Nat) (t : Instant)
  /-- SET_WRITE, R38: A write through the SET alias ORs the value into the RW or T fields of the addressed register. -/
  | setWrite (m : Master) (addr : Nat) (v : Word) (t : Instant)
  /-- CLEAR_WRITE, R38: A write through the CLEAR alias clears the written bits of the RW or T fields. -/
  | clearWrite (m : Master) (addr : Nat) (v : Word) (t : Instant)
  /-- TOGGLE_WRITE, R38: A write through the TOGGLE alias XORs the value into the RW or T fields. -/
  | toggleWrite (m : Master) (addr : Nat) (v : Word) (t : Instant)
  /-- STATUS_CLEAR_WRITE, R48: A plain write to an ST register clears the flags written as one if its sequence number matches, and otherwise counts a stale write. -/
  | statusClearWrite (m : Master) (addr : Nat) (v : Word) (t : Instant)
  /-- LOW_WORD_READ, R51: A read of the low word of a 64-bit register latches the high word into the master's shadow. -/
  | lowWordRead (m : Master) (addr : Nat) (t : Instant)
  /-- LOW_WORD_WRITE, R51: A write of the low word of a 64-bit register holds the value in the master's shadow. -/
  | lowWordWrite (m : Master) (addr : Nat) (v : Word) (t : Instant)
  /-- HIGH_WORD_READ, R51: A read of the high word of a 64-bit register returns the latched shadow or the current high word, and empties the shadow. -/
  | highWordRead (m : Master) (addr : Nat) (t : Instant)
  /-- HIGH_WORD_WRITE, R51: A write of the high word of a 64-bit register commits both halves, or the high half alone, and empties the shadow. -/
  | highWordWrite (m : Master) (addr : Nat) (v : Word) (t : Instant)
  /-- STAGE_WRITE, R59: A stage-view or memory-window write to a tuned field moves the stage state to DIRTY, or is refused and counted. -/
  | stageWrite (m : Master) (addr : Nat) (v : Word) (t : Instant)
  /-- CELL_ERROR_DETECTED, R18: A cell detects an SRAM or parity error, corrects single-bit errors, and reports the error to its block. -/
  | cellErrorDetected (b : Block) (u : Option Nat) (cause : Nat) (cell : Nat) (mem : Option Nat) (t : Instant)
  /-- BLOCK_FAULT, R19: A block detects a fault, marks the affected outputs invalid, stops writing shared state and reports the code to its region supervisor. -/
  | blockFault (b : Block) (u : Option Nat) (cause : Nat) (detail : Nat) (t : Instant)
  /-- BLOCK_RESTART_READY, R22: A restarting block or unit reports ready, and its data path resumes as its restart row lays down. -/
  | blockRestartReady (b : Block) (u : Option Nat) (t : Instant)
  /-- RESTART_FAILED, R21: A restart that has not reported ready within the block's restart time raises RESTART_FAILED and escalates. -/
  | restartFailed (b : Block) (u : Option Nat) (t : Instant)
  /-- SAFE_CLEAR, R25: The firmware or boot ROM clears SAFE when no block is isolated without restart and every restart has reported ready. -/
  | safeClear (t : Instant)
  /-- SAFE_TIMEOUT, R25: SAFE not cleared within 1 s of entry moves the device to RECOVERY. -/
  | safeTimeout (t : Instant)
  /-- WATCHDOG_EXPIRY, R26: The MGC watchdog expires: WATCHDOG is escalated to CHP, SAFE is entered and the Morsen core restarts in RECOVERY. -/
  | watchdogExpiry (t : Instant)
  /-- MODE_REQUEST, R31: A write of CHP.MODE.REQ by a SECURE or PRIVILEGED master changes the mode along a permitted path, or is refused and counted. -/
  | modeRequest (m : Master) (req : Nat) (t : Instant)
  /-- INJECT_GO, R72: A write of CHP.INJECT.GO in TEST injects CODE at the block it names, or sets BAD if it names no block. -/
  | injectGo (m : Master) (code : Nat) (t : Instant)
  /-- INJECTION_TAKEN, R20: The named block takes an injected error with cause INJECTED and handles it as its own fault. -/
  | injectionTaken (u : Option Nat) (t : Instant)
  /-- SNAPSHOT_REQUEST, R53: A write of one to CHP.SNAP_CTL.REQ requests a snapshot, kept pending while one is held. -/
  | snapshotRequest (m : Master) (t : Instant)
  /-- SNAPSHOT_PERIOD, R56: PERIOD sweeps after the previous snapshot, CHP requests a snapshot by itself. -/
  | snapshotPeriod (t : Instant)
  /-- SNAPSHOT_TAKE, R53: At the first qualifying sweep boundary, or 10 µs after the request with no tab running, every unit latches its counters into the shadows. -/
  | snapshotTake (t : Instant)
  /-- SNAPSHOT_COMPLETE, R54: When every unit has latched, CHP.SNAP_SEQ becomes even and the snapshot is held. -/
  | snapshotComplete (t : Instant)
  /-- SNAP_TIMEOUT, R56: A snapshot not complete within 10 µs of its boundary raises SNAP_TIMEOUT. -/
  | snapTimeout (t : Instant)
  /-- SNAPSHOT_RELEASE, R55: A write of the current SNAP_SEQ to CHP.SNAP_REL releases the held snapshot. -/
  | snapshotRelease (m : Master) (v : Word) (t : Instant)
  /-- SNAPSHOT_HOLD_EXPIRY, R55: SNAP_HOLD milliseconds after completion the held snapshot expires, and a pending request proceeds. -/
  | snapshotHoldExpiry (t : Instant)
  /-- CHK, R63: The CHK command starts the consistency check, moving the stage state to CHECKING. -/
  | chk (m : Master) (t : Instant)
  /-- CHECK_COMPLETE, R63: The consistency check ends, setting CHECKED or FAILED and writing CHP.CKRES. -/
  | checkComplete (t : Instant)
  /-- OCC_PRELOAD, R129: When CHK begins and any frame in progress has finished, OCC shifts and verifies the staged image. -/
  | occPreload (t : Instant)
  /-- APPLY_NEXT, R66: APPLY_NEXT arms a Retune at the first sweep boundary at least 2 µs after acceptance, or is refused. -/
  | applyNext (m : Master) (t : Instant)
  /-- APPLY_AT, R66: APPLY_AT arms a Retune at the sweep named in CHP.APPLY_AT, or is refused with APPLY_LATE or another refusal. -/
  | applyAt (m : Master) (t : Instant)
  /-- CANCEL, R70: CANCEL returns a PENDING stage to CHECKED and sets APPLY_CANCELLED. -/
  | cancel (m : Master) (t : Instant)
  /-- DISCARD, R59: DISCARD moves the stage state to COPYBACK, aborting any check. -/
  | discard (m : Master) (t : Instant)
  /-- RETUNE_APPLY, R67: At the armed sweep boundary the tuning switches, LAST_APPLY and APPLY_CNT update, and the stage goes to COPYBACK. -/
  | retuneApply (t : Instant)
  /-- APPLY_SKEW, R71: A block or affected AAR core that has not confirmed by its deadline raises APPLY_SKEW and escalates. -/
  | applySkew (t : Instant)
  /-- COPYBACK_DONE, R61: Copy-back of the active tuning into the stage bank completes and the state becomes CLEAN. -/
  | copybackDone (t : Instant)
  /-- STAGE_COPY_FAULT, R72: Copy-back not complete within 3 ms raises STAGE_COPY_FAULT. -/
  | stageCopyFault (t : Instant)
  /-- START, R92: START in IDLE or HALTED starts the tab at ENTRY.START, or switches to a pending Retune first; otherwise it is refused. -/
  | start (m : Master) (t : Instant)
  /-- HALT_SWEEP, R94: HALT_SWEEP stops the tab at the next SWB once the sweep timer reaches PERIOD. -/
  | haltSweep (m : Master) (t : Instant)
  /-- HALT_NOW, R93: HALT_NOW stops the tab at the next instruction fetch, mid-sweep, marking looks PARTIAL where needed. -/
  | haltNow (m : Master) (t : Instant)
  /-- NOP, R81: The tab instruction NOP issues for one tick. -/
  | tabNop
  /-- WAIT, R81: The tab instruction WAIT holds issue for max(N, 1) ticks. -/
  | tabWait (n : Nat)
  /-- WAITU, R83: The tab instruction WAITU holds until sweep tick T, or marks the sweep LATE if the timer has passed T. -/
  | tabWaitu (target : Nat)
  /-- FIRE, R84: The tab instruction FIRE starts a probe of SHAPE in SLOT and opens a look, or is ignored for an inactive or busy slot. -/
  | tabFire (slot : Nat) (shape : Nat) (sub : Nat)
  /-- GATE, R85: The tab instruction GATE opens the tab gate at its instant for WIDTH DAC samples. -/
  | tabGate (sub : Nat) (width : Nat)
  /-- RAMAN, R86: The tab instruction RAMAN triggers the Raman pulse laser, or is ignored as RAMAN_EXTRA after the first in a sweep. -/
  | tabRaman (sub : Nat)
  /-- SWB, R88: The tab instruction SWB waits for the sweep boundary, naming the PAT of the sweep that begins. -/
  | tabSwb (pat : Nat)
  /-- SETC, R87: The tab instruction SETC writes N to a loop counter. -/
  | tabSetc (k : Nat) (n : Nat)
  /-- DJNZ, R87: The tab instruction DJNZ decrements a loop counter and branches while it is not zero. -/
  | tabDjnz (k : Nat) (target : Nat)
  /-- JMP, R81: The tab instruction JMP branches to ADDR. -/
  | tabJmp (target : Nat)
  /-- EVT, R87: The tab instruction EVT sets TAB_EVT, writes EVT_CODE and increments EVT_CNT. -/
  | tabEvt (code : Nat)
  /-- HALT, R93: The tab instruction HALT with B = 0 stops the tab at issue. -/
  | tabHalt
  /-- HALT_WAIT_PERIOD, R94: The tab instruction HALT with B = 1 stops the tab when the sweep timer reaches PERIOD, ending the sweep whole. -/
  | haltWaitPeriod (t : Instant)
  /-- UNDEF_FETCH, R82: PSQ fetches an undefined encoding at run time and raises UNDEF_FETCH. -/
  | undefFetch
  /-- SWEEP_BOUNDARY, R88: The sweep timer reaches PERIOD at a pending SWB, or has already passed it, and a new sweep begins with its PAT sent to the guards. -/
  | sweepBoundary (t : Instant)
  /-- SYNC_IN_EDGE, R90: A rising edge on SYNC_IN_P/M in follower mode sets the sweep boundary and writes the residue to PSQ.SYNC_RES. -/
  | syncInEdge (t : Instant)
  /-- SYNC_MISS, R90: With no SYNC_IN edge by PERIOD + 320 ticks, the follower takes the boundary there and counts a miss. -/
  | syncMiss (t : Instant)
  /-- PROBE_EMISSION_END, R84: A probe's last DAC sample is emitted and its slot becomes free. -/
  | probeEmissionEnd (slot : Nat) (t : Instant)
  /-- TAB_GATE_CLOSE, R85: The tab gate closes at its latest closing instant. -/
  | tabGateClose (t : Instant)
  /-- LOOK_WINDOW_END, R75: A look's window of PERIOD from its fire instant ends. -/
  | lookWindowEnd (slot : Nat) (t : Instant)
  /-- PLUCK_GO, R102: A write of 1 to PSQ.PLUCK.GO requests a pluck, which is accepted or refused with a code in PSQ.PLUCK_RES. -/
  | pluckGo (m : Master) (slot : Nat) (shape : Nat) (scale : Nat) (t : Instant)
  /-- PLUCK_FIRE, R103: LEAD ticks after the pluck gate opens, the pluck's probe fires and its look opens with PAT 15 and the PLUCK flag. -/
  | pluckFire (t : Instant)
  /-- PLUCK_DONE, R102: An accepted pluck's window closes, setting PLUCK_DONE and incrementing PLUCK_CNT. -/
  | pluckDone (t : Instant)
  /-- CARRIER_PERIOD_START, R110: At the start of each carrier period a stage computes its on-time, with proof pulse, debt, DMAX cut and current loop. -/
  | carrierPeriodStart (k : Nat) (sense : Nat) (t : Instant)
  /-- ILIM_TRIP, R112: The sensed current exceeds ILIM and the comparator ends the on-time, declaring OVERCURRENT after 16 consecutive periods. -/
  | ilimTrip (k : Nat) (steps : Nat) (t : Instant)
  /-- DIAG_SAMPLE, R118: 250 ns into a qualifying on-time the stage compares the sensed current with OPEN_TH and SHORT_TH. -/
  | diagSample (k : Nat) (current : Nat) (t : Instant)
  /-- PROOF_WINDOW_END, R120: A window of 1 024 carrier periods ends, and the stage reports HEALTHY or DIAG_BLIND. -/
  | proofWindowEnd (k : Nat) (t : Instant)
  /-- CLR, R123: A write of 1 to STGk_CMD.CLR clears a stage's fault state and restarts it under its ramp. -/
  | clr (m : Master) (k : Nat) (t : Instant)
  /-- OCC_LIVE_WRITE, R130: A write to LIVE_VALw starts a chain frame, or is held while the stage is CHECKED or PENDING. -/
  | occLiveWrite (m : Master) (w : Nat) (v : Word) (t : Instant)
  /-- OCC_REFRESH, R128: REFRESH sweeps after the last latch, OCC sends a refresh frame. -/
  | occRefresh (t : Instant)
  /-- OCC_FRAME_COMPLETE, R127: A chain frame finishes shifting and OCC checks the marker and the returned contents. -/
  | occFrameComplete (marker : Bool) (returned : List (BitVec 16)) (t : Instant)
  /-- OCC_LATCH, R128: OCC pulses OCC_LAT at a sweep boundary, or 4 µs after a frame with no tab running, copying the verified frame to the outputs. -/
  | occLatch (t : Instant)
  /-- GAIN_BIN_START, R138: At the first sample of a schedule bin whose working code differs, the front-end gain code changes. -/
  | gainBinStart (bin : Nat) (t : Instant)
  /-- OVERLOAD_STEP_DOWN, R139: The fourth clipped sample in a bin under AUTO steps the gain code down and decrements the bin's working entry. -/
  | overloadStepDown (ch : Nat) (t : Instant)
  /-- GAIN_STEP_UP, R140: After 64 clean sweeps a working entry below its tuned entry increments at the sweep boundary. -/
  | gainStepUp (clipped : List (Pol × Nat)) (t : Instant)
  /-- CAL_BLOCK_END, R144: A CAL estimation block of 2^20 samples ends and the factors update, or the channel is marked STARVED. -/
  | calBlockEnd (ch : Nat) (skipped : Nat) (level : Int) (off : List Int) (gain : List Int) (skew : List Int) (t : Instant)
  /-- CAL_FACTOR_WRITE, R146: A write of a CAL factor takes effect from the next sample and restarts the channel's estimation block. -/
  | calFactorWrite (m : Master) (addr : Nat) (v : Word) (t : Instant)
  /-- SKEW_CAL, R147: A write of CAL.CMD.SKEW_CAL in PREP or TEST starts the inter-channel skew calibration, or is refused. -/
  | skewCal (m : Master) (t : Instant)
  /-- SKEW_CAL_DONE, R147: The skew calibration finishes, writing CHSKEW or setting TONE_FAIL. -/
  | skewCalDone (ok : Bool) (delays : List Int) (t : Instant)
  /-- PILOT_BLOCK_END, R148: A pilot block ends and CHSKEWc moves by one eighth of the measured skew. -/
  | pilotBlockEnd (clipped : Nat) (skews : List Int) (t : Instant)
  /-- SLOT_LANE_SAMPLE, R149: A slot lane mixes, filters and resamples one slot sample, clamping and counting saturations. -/
  | slotLaneSample (sweep : Nat) (slot : Nat) (p : Nat) (pluck : Bool) (xr : Int) (xi : Int) (yr : Int) (yi : Int) (clipped : Bool) (lost : Bool) (t : Instant)
  /-- PCM_LOOK_COMPRESS, R152: PCM compresses a chirped look by overlap-save, marking edge positions invalid. -/
  | pcmLookCompress (sweep : Nat) (slot : Nat) (pluck : Bool) (outs : List (Int × Int × Int × Int)) (t : Instant)
  /-- BLOCK_LATE, R171: A PCM block not complete within its latency bound raises BLOCK_LATE. -/
  | blockLate (t : Instant)
  /-- PHS_POSITION_SAMPLE, R162: PHS combines, differences and tracks one look at one position and emits a phase increment. -/
  | phsPositionSample (sweep : Nat) (slot : Nat) (p : Nat) (pluck : Bool) (t : Instant)
  /-- PFL_LOOK_INPUT, R178: PFL takes a non-pluck look, advances LOOK_CNT and its filter chain, and emits the presets that complete on it. -/
  | pflLookInput (t : Instant)
  /-- MEDIAN_FLUSH, R572: Once a halt is reported and all earlier looks have arrived, pending median outputs are formed and delivered. -/
  | medianFlush (t : Instant)
  /-- RAMAN_SWEEP_ACCUMULATE, R195: At the end of a sweep's last Raman bin, the sweep is added into the accumulators or skipped for its reason. -/
  | ramanSweepAccumulate (sweep : Nat) (bins0 : List Int) (bins1 : List Int) (base0 : List Int) (base1 : List Int) (lost : Bool) (t : Instant)
  /-- DTS_BLOCK_CLOSE, R196: At the first sweep boundary into the next block, the accumulation block closes and the unload pass begins. -/
  | dtsBlockClose (t : Instant)
  /-- UNLOAD_LATE, R212: An unload not finished within its time raises UNLOAD_LATE. -/
  | unloadLate (t : Instant)
  /-- PROFILE_COMPLETE, R202: A profile's conversion completes, it is stored, and its features are delivered to ZON. -/
  | profileComplete (t : Instant)
  /-- FRAME_READY, R223: Frame k of a core's source becomes ready at R_k and the feeder writes its header. -/
  | frameReady (n : Nat) (t : Instant)
  /-- TILE_WRITTEN, R225: The feeder finishes writing a tile into its buffer. -/
  | tileWritten (n : Nat) (bad : List (Nat × Nat)) (t : Instant)
  /-- RUN_START, R218: A core starts an INIT, TILE or FEND run at its entry, with S1 and S2 preset. -/
  | runStart (n : Nat) (t : Instant)
  /-- AAR_NOP, R228: The vector instruction NOP does nothing for one cycle. -/
  | aarNop (n : Nat) (w : BitVec 64) (stall : Nat)
  /-- DONE, R218: The vector instruction DONE ends the run, ending tile delivery with SKIP. -/
  | aarDone (n : Nat) (w : BitVec 64) (stall : Nat)
  /-- AAR_JMP, R228: The vector instruction JMP goes to TARGET. -/
  | aarJmp (n : Nat) (w : BitVec 64) (stall : Nat)
  /-- BR, R228: The vector instruction BR branches if the comparison holds. -/
  | aarBr (n : Nat) (w : BitVec 64) (stall : Nat)
  /-- LOOP, R231: The vector instruction LOOP runs its body a counted number of times. -/
  | aarLoop (n : Nat) (w : BitVec 64) (stall : Nat)
  /-- SLI, R228: The vector instruction SLI loads an immediate into a scalar register. -/
  | aarSli (n : Nat) (w : BitVec 64) (stall : Nat)
  /-- SADD, R228: The vector instruction SADD adds, wrapping modulo 2^32. -/
  | aarSadd (n : Nat) (w : BitVec 64) (stall : Nat)
  /-- SSUB, R228: The vector instruction SSUB subtracts, wrapping modulo 2^32. -/
  | aarSsub (n : Nat) (w : BitVec 64) (stall : Nat)
  /-- SMUL, R228: The vector instruction SMUL writes the low 32 bits of a product. -/
  | aarSmul (n : Nat) (w : BitVec 64) (stall : Nat)
  /-- SMULQ, R228: The vector instruction SMULQ writes a saturated Q16 product. -/
  | aarSmulq (n : Nat) (w : BitVec 64) (stall : Nat)
  /-- SSHL, R228: The vector instruction SSHL shifts left. -/
  | aarSshl (n : Nat) (w : BitVec 64) (stall : Nat)
  /-- SSHR, R228: The vector instruction SSHR shifts right arithmetically. -/
  | aarSshr (n : Nat) (w : BitVec 64) (stall : Nat)
  /-- SAND, R228: The vector instruction SAND forms a bitwise AND. -/
  | aarSand (n : Nat) (w : BitVec 64) (stall : Nat)
  /-- SOR, R228: The vector instruction SOR forms a bitwise OR. -/
  | aarSor (n : Nat) (w : BitVec 64) (stall : Nat)
  /-- SMIN, R228: The vector instruction SMIN takes the signed minimum. -/
  | aarSmin (n : Nat) (w : BitVec 64) (stall : Nat)
  /-- SMAX, R228: The vector instruction SMAX takes the signed maximum. -/
  | aarSmax (n : Nat) (w : BitVec 64) (stall : Nat)
  /-- SLD, R228: The vector instruction SLD loads a word from data memory. -/
  | aarSld (n : Nat) (w : BitVec 64) (stall : Nat)
  /-- SST, R228: The vector instruction SST stores a word to data memory. -/
  | aarSst (n : Nat) (w : BitVec 64) (stall : Nat)
  /-- SRD, R228: The vector instruction SRD reads a special register, optionally clearing ICNT. -/
  | aarSrd (n : Nat) (w : BitVec 64) (stall : Nat)
  /-- VLD, R228: The vector instruction VLD loads a vector and post-increments its address. -/
  | aarVld (n : Nat) (w : BitVec 64) (stall : Nat)
  /-- VST, R228: The vector instruction VST stores a vector and post-increments its address. -/
  | aarVst (n : Nat) (w : BitVec 64) (stall : Nat)
  /-- VMUL, R215: The vector instruction VMUL multiplies complex lanes with shift and saturation. -/
  | aarVmul (n : Nat) (w : BitVec 64) (stall : Nat)
  /-- VCMUL, R228: The vector instruction VCMUL multiplies by the conjugate. -/
  | aarVcmul (n : Nat) (w : BitVec 64) (stall : Nat)
  /-- VADD, R228: The vector instruction VADD adds lanes with shift and saturation. -/
  | aarVadd (n : Nat) (w : BitVec 64) (stall : Nat)
  /-- VSUB, R228: The vector instruction VSUB subtracts lanes with shift and saturation. -/
  | aarVsub (n : Nat) (w : BitVec 64) (stall : Nat)
  /-- VMAC, R215: The vector instruction VMAC accumulates complex products into the accumulators. -/
  | aarVmac (n : Nat) (w : BitVec 64) (stall : Nat)
  /-- VMACC, R215: The vector instruction VMACC accumulates conjugate products into the accumulators. -/
  | aarVmacc (n : Nat) (w : BitVec 64) (stall : Nat)
  /-- ACLR, R228: The vector instruction ACLR clears the accumulators. -/
  | aarAclr (n : Nat) (w : BitVec 64) (stall : Nat)
  /-- AMOV, R215: The vector instruction AMOV sums the accumulator lanes into a scalar register. -/
  | aarAmov (n : Nat) (w : BitVec 64) (stall : Nat)
  /-- FOUT, R234: The vector instruction FOUT writes a feature to the buffer, or is dropped for a zone or index out of scope. -/
  | aarFout (n : Nat) (w : BitVec 64) (stall : Nat)
  /-- BWIN, R229: The block instruction BWIN multiplies an array by a window. -/
  | aarBwin (n : Nat) (w : BitVec 64) (stall : Nat)
  /-- BFFT, R229: The block instruction BFFT computes a complex transform. -/
  | aarBfft (n : Nat) (w : BitVec 64) (stall : Nat)
  /-- BRFFT, R229: The block instruction BRFFT computes a real transform. -/
  | aarBrfft (n : Nat) (w : BitVec 64) (stall : Nat)
  /-- BPWR, R229: The block instruction BPWR computes or accumulates power of a complex array. -/
  | aarBpwr (n : Nat) (w : BitVec 64) (stall : Nat)
  /-- BSUM, R229: The block instruction BSUM sums an array into a scalar. -/
  | aarBsum (n : Nat) (w : BitVec 64) (stall : Nat)
  /-- BMAX, R229: The block instruction BMAX finds the largest element and its index. -/
  | aarBmax (n : Nat) (w : BitVec 64) (stall : Nat)
  /-- BMIN, R229: The block instruction BMIN finds the smallest element and its index. -/
  | aarBmin (n : Nat) (w : BitVec 64) (stall : Nat)
  /-- BSTAT, R229: The block instruction BSTAT computes sum, sum of squares and count. -/
  | aarBstat (n : Nat) (w : BitVec 64) (stall : Nat)
  /-- BMOV, R229: The block instruction BMOV copies bytes in ascending order. -/
  | aarBmov (n : Nat) (w : BitVec 64) (stall : Nat)
  /-- FRAME_OVERRUN, R241: A core that has not committed frame k by its deadline aborts the run and delivers OVERRUN records. -/
  | frameOverrun (n : Nat) (t : Instant)
  /-- CORE_SWITCH, R244: An affected core switches at a Retune, abandoning its frame and starting its constant copy. -/
  | coreSwitch (n : Nat) (t : Instant)
  /-- CONST_COPY_DONE, R244: An affected core's constant copy completes, and INIT precedes its next frame. -/
  | constCopyDone (n : Nat) (t : Instant)
  /-- CONST_RELOAD_DONE, R245: A restarted core's constant reload completes and the core runs INIT. -/
  | constReloadDone (n : Nat) (t : Instant)
  /-- RELOAD_FAIL, R245: A constant reload not complete within 2 ms raises RELOAD_FAIL. -/
  | reloadFail (n : Nat) (t : Instant)
  /-- FEATURE_RECORD_ARRIVAL, R252: An AAR or DTS feature record reaches a zone unit, replacing an unlatched one with FEAT_OVW. -/
  | featureRecordArrival (t : Instant)
  /-- ZONE_STEP, R264: At the latch instant of a sweep each enabled unit latches inputs, evaluates its conditions and takes at most one transition. -/
  | zoneStep (t : Instant)
  /-- IDLE_STEP, R256: While the tab is not running, units make an idle step every 1 000 µs. -/
  | idleStep (t : Instant)
  /-- ZONE_TIMER_EXPIRE, R263: A running zone timer reaches LIMIT and becomes EXPIRED. -/
  | zoneTimerExpire (zone : Nat) (timer : Nat) (t : Instant)
  /-- EVENT_ENQUEUE, R267: Once its CAPTURE field is known, an event record enters the queue to KPE, or is dropped. -/
  | eventEnqueue (t : Instant)
  /-- ARM_ON, R274: ZON.MU_CMD.ARM_ON makes a MASTER assert ARM, or is suppressed elsewhere. -/
  | armOn (m : Master) (t : Instant)
  /-- ARM_OFF, R274: ZON.MU_CMD.ARM_OFF makes a MASTER release ARM, or is suppressed elsewhere. -/
  | armOff (m : Master) (t : Instant)
  /-- MU_FIRE, R276: ZON.MU_CMD.FIRE pulls FIRE for FIRE_W µs if the unit is armed MASTER or MEMBER, or is suppressed. -/
  | muFire (m : Master) (t : Instant)
  /-- CAL_FIRE, R280: ZON.MU_CMD.CAL_FIRE on the MASTER pulls FIRE for calibration regardless of ARM. -/
  | calFire (m : Master) (t : Instant)
  /-- FIRE_PULSE_END, R276: FIRE_W µs after asserting FIRE, the unit releases it. -/
  | firePulseEnd (t : Instant)
  /-- FIRE_EDGE, R277: A falling edge on the FIRE pin is timestamped in device time. -/
  | fireEdge (ext : Bool) (cal : Bool) (t : Instant)
  /-- FIRE_EDGE_ACCEPT, R277: 500 ns after the edge, the unit accepts or rejects it, converts accepted edges and makes a bus request. -/
  | fireEdgeAccept (t : Instant)
  /-- ARM_BUS_CHANGE, R273: The ARM bus level changes at the unit's pin, arming or disarming it. -/
  | armBusChange (ext : Bool) (t : Instant)
  /-- ARM_FOREIGN, R275: A MASTER sees ARM asserted by another driver for more than 1 µs and declares ARM_FOREIGN. -/
  | armForeign (t : Instant)
  /-- FIRE_STUCK, R281: A FIRE bus low for more than 10 ms sets FIRE_STUCK and enqueues a bus event. -/
  | fireStuck (t : Instant)
  /-- POWER_BIN, R291: GDA closes a power bin of 64 instants and checks it against LO and HI of the profile. -/
  | powerBin (adc : List (List Int)) (t : Instant)
  /-- MONTX_SAMPLE, R292: GDA samples MONTX and trips TX_HIGH or TX_LEAK after TX_CONFIRM violating samples. -/
  | montxSample (code : Nat) (t : Instant)
  /-- MONRX_SAMPLE, R293: GDB samples its comparators and trips RX_HIGH or RX_LOW after CONFIRM violating samples. -/
  | monrxSample (code : Nat) (conv : Bool) (t : Instant)
  /-- INTLK_CHANGE, R294: INTLK_N changes level at the pin. -/
  | intlkChange (high : Bool) (t : Instant)
  /-- INTLK_TRIP, R294: INTLK_N high for 200 ns trips GDB with cause INTLK. -/
  | intlkTrip (t : Instant)
  /-- INTLK_CLOSED, R294: INTLK_N low for 100 ms makes the interlock count as closed. -/
  | intlkClosed (t : Instant)
  /-- PEER_STATUS, R289: A guard receives the other's state and trips with cause FOLLOW if the other entered TRIPPED. -/
  | peerStatus (g : GuardId) (t : Instant)
  /-- PEER_LOST, R289: No alive toggle from the other guard for 10 µs trips with cause PEER_LOST. -/
  | peerLost (g : GuardId) (t : Instant)
  /-- ENABLE_CLOCK_STOP, R285: A guard's clock stops or GDB's clock switches source, and its enable lines drop within 1 µs. -/
  | enableClockStop (g : GuardId) (t : Instant)
  /-- TRIP, R288: A write of GDx.CMD.TRIP trips the guard with cause CMD. -/
  | trip (m : Master) (g : GuardId) (t : Instant)
  /-- SELFTEST, R307: A write of GDx.CMD.SELFTEST in IDLE or TRIPPED starts the guard's self-test, or is refused. -/
  | selftest (m : Master) (g : GuardId) (t : Instant)
  /-- SELFTEST_DONE, R307: A guard's self-test ends, setting ST_OK or raising SELFTEST_FAIL. -/
  | selftestDone (g : GuardId) (ok : Bool) (t : Instant)
  /-- LEARN, R299: A write of GDx.CMD.LEARN starts learning of a pattern, or is refused. -/
  | learn (m : Master) (g : GuardId) (t : Instant)
  /-- LEARN_COMPLETE, R299: After 2^LOG2S sweeps of the pattern, the guard writes its learned profile into the stage bank. -/
  | learnComplete (g : GuardId) (t : Instant)
  /-- LEARN_ABORT, R300: A write of GDx.CMD.LEARN_ABORT cancels a running learning. -/
  | learnAbort (m : Master) (g : GuardId) (t : Instant)
  /-- RESTART, R302: A write of GDB.CMD.RESTART starts a restart attempt if R302 holds, or sets CMD_REFUSED. -/
  | restart (m : Master) (t : Instant)
  /-- TIMED_RESTART, R305: INTERVAL seconds after GDB's trip or the previous attempt, with AUTO set, GDB starts an attempt. -/
  | timedRestart (t : Instant)
  /-- RESTART_PLUCK, R303: At its scheduled time GDA fires a restart pluck, or fails the attempt if it cannot. -/
  | restartPluck (t : Instant)
  /-- RESTART_PLUCK_WINDOW_END, R304: A restart pluck's window closes; after the last clean one GDA enters ARMED. -/
  | restartPluckWindowEnd (t : Instant)
  /-- ROW_COMMIT, R315: The last line of a ring row is written, WROW advances, and captures waiting on it progress. -/
  | rowCommit (t : Instant)
  /-- CAPTURE_REQUEST, R321: RNG takes a capture request, fixes its window and takes a descriptor, or refuses it with a code. -/
  | captureRequest (t : Instant)
  /-- ROW_HANDOVER, R325: A stream capture's row is handed over to KPE once every subscriber's packet holding it has been formed. -/
  | rowHandover (d : Nat) (t : Instant)
  /-- CAPTURE_ABORT, R328: A descriptor OP write of ABORT closes a WAIT or STREAM capture ABORTED through the sequencer. -/
  | captureAbort (m : Master) (d : Nat) (num24 : Nat) (t : Instant)
  /-- CAPTURE_RELEASE, R328: A descriptor OP write of RELEASE frees a CLOSED capture. -/
  | captureRelease (m : Master) (d : Nat) (num24 : Nat) (t : Instant)
  /-- CMP_FLUSH_TIMEOUT, R335: FLUSH_US after a block's first sample the block closes with FLUSH. -/
  | cmpFlushTimeout (c : Nat) (t : Instant)
  /-- CMP_BLOCK_RELEASE, R336: A closed block is verified and released, or released STORED with VERIFY_FAIL. -/
  | cmpBlockRelease (ok : Bool) (t : Instant)
  /-- CVU_START, R340: CVU CMD START initialises RUN and COUNT, takes the prefix and enters RUNNING. -/
  | cvuStart (m : Master) (u : Nat) (t : Instant)
  /-- CVU_FINISH, R341: CVU CMD FINISH sets RESULT, enters DONE and compares with EXPECT. -/
  | cvuFinish (m : Master) (u : Nat) (t : Instant)
  /-- CVU_RESET, R341: CVU CMD RESET returns the unit to IDLE. -/
  | cvuReset (m : Master) (u : Nat) (t : Instant)
  /-- FEED, R339: A write to a unit's FEED adds 4 bytes to its computation. -/
  | feed (m : Master) (u : Nat) (v : Word) (t : Instant)
  /-- RUN_WRITE, R340: A write to a unit's RUN restores a saved value and enters RUNNING without a prefix. -/
  | runWrite (m : Master) (u : Nat) (v : BitVec 64) (t : Instant)
  /-- CVU_DRAM_DONE, R341: The end of a CVU DRAM range sets RESULT and enters DONE. -/
  | cvuDramDone (u : Nat) (t : Instant)
  /-- DRAM_REQUEST, R351: A requester's DRAM request arrives at DMC and is scheduled, tracked for row disturbance and served. -/
  | dramRequest (id : Nat) (addr : Nat) (data : Option (List (BitVec 8))) (t : Instant)
  /-- DRAM_READ_RETURN, R348: A DRAM read returns, corrected and written back or marked POISON and reported. -/
  | dramReadReturn (sub : Nat) (err : Nat) (t : Instant)
  /-- REQUEST_AGE, R351: A class 2 to 4 request that has waited 10 µs rises to class 1. -/
  | requestAge (t : Instant)
  /-- ROW_IDLE_CLOSE, R351: An open row idle for 1 µs is closed. -/
  | rowIdleClose (t : Instant)
  /-- REFRESH_INTERVAL, R355: A refresh interval elapses and adds one to the rank's debt, issuing a refresh when due. -/
  | refreshInterval (sub : Nat) (rank : Nat) (t : Instant)
  /-- MR4_POLL, R356: Every 16 ms or 2 ms DMC reads MR4 of every rank. -/
  | mr4Poll (t : Instant)
  /-- MR4_RESULT, R357: An MR4 read returns and sets the rank's refresh rate, starting a catch-up burst on a higher rate. -/
  | mr4Result (sub : Nat) (rank : Nat) (code : Nat) (ok : Bool) (t : Instant)
  /-- REFRESH_COMPLETE, R357: A refresh completes, and a catch-up burst issues the next or ends. -/
  | refreshComplete (sub : Nat) (rank : Nat) (t : Instant)
  /-- RH_WINDOW_END, R353: At each refresh window boundary the row trackers clear and throttling ends. -/
  | rhWindowEnd (sub : Nat) (rank : Nat) (t : Instant)
  /-- POWER_DOWN_ENTRY, R359: A rank idle for 64 DRAM clocks enters power-down. -/
  | powerDownEntry (sub : Nat) (rank : Nat) (t : Instant)
  /-- SELF_REFRESH_ENTRY, R360: A sub-channel idle for IDLE_US enters self-refresh with partial-array masking. -/
  | selfRefreshEntry (sub : Nat) (t : Instant)
  /-- SCRUB_READ, R349: Scrub reads the next line of the usable space and corrects it. -/
  | scrubRead (err : Nat) (t : Instant)
  /-- TRAIN, R364: A write of DMC.CMD.TRAIN in TEST retrains every sub-channel. -/
  | train (m : Master) (t : Instant)
  /-- TRAIN_DONE, R364: DRAM training completes, or raises TRAIN_FAIL. -/
  | trainDone (sub : Nat) (res : Nat) (t : Instant)
  /-- RETRAIN, R365: A periodic or rate-change retraining of a rank measures drift and updates the write eye. -/
  | retrain (sub : Nat) (rank : Nat) (drift : Nat) (ok : Bool) (t : Instant)
  /-- ZQ_CALIBRATION, R365: Every 64 ms ZQ calibration starts on each rank. -/
  | zqCalibration (sub : Nat) (rank : Nat) (t : Instant)
  /-- SEQUENCE_CYCLE_START, R377: The regular REF sequence begins a new cycle at entry 0. -/
  | sequenceCycleStart (t : Instant)
  /-- CONVERSION_END, R374: A REF conversion slot ends and publishes its result, with ranging, median, windows and switches. -/
  | conversionEnd (sum : Int) (high : Nat) (low : Nat) (t : Instant)
  /-- INJ, R378: A write of REF.CMD.INJ triggers the injected sequence, preempting a regular conversion or aborting a calibration. -/
  | refInj (m : Master) (t : Instant)
  /-- INJ_TRIGGER, R378: A TACH edge or the DIV-th sweep boundary triggers the injected sequence. -/
  | injTrigger (t : Instant)
  /-- CAL, R381: A write of REF.CMD.CAL starts a REF self-calibration. -/
  | refCal (m : Master) (t : Instant)
  /-- REF_CAL_PERIOD, R381: Every CAL_CTL.PERIOD_S seconds a REF self-calibration starts. -/
  | refCalPeriod (t : Instant)
  /-- REF_CAL_DONE, R381: A REF self-calibration completes and writes its factors. -/
  | refCalDone (off : List (Option Nat)) (gain : List (Option Nat)) (iexc : List (Option Nat)) (t : Instant)
  /-- REF_FACTOR_WRITE, R381: A write of a REF calibration factor is used from the next conversion. -/
  | refFactorWrite (m : Master) (addr : Nat) (v : Word) (t : Instant)
  /-- COMPLIANCE_OPEN, R383: A compliance monitor flags OPEN and REF publishes a result with REASON OPEN. -/
  | complianceOpen (c : Nat) (on : Bool) (t : Instant)
  /-- TACH_EDGE, R392: An edge on TACHn is sampled and timed, ending or starting TIU intervals and publishing rates. -/
  | tachEdge (n : Nat) (rising : Bool) (t : Instant)
  /-- TIU_OVERFLOW, R395: An interval reaching 2^32 counts ends as an overflow. -/
  | tiuOverflow (u : Nat) (t : Instant)
  /-- RATE_TIMEOUT, R396: No accepted edge for TIMEOUT ms makes the rate invalid and sets STALE. -/
  | rateTimeout (u : Nat) (t : Instant)
  /-- ARM, R393: A write of ARM puts an INTERVAL unit in ARMED. -/
  | tiuArm (m : Master) (u : Nat) (t : Instant)
  /-- DISARM, R393: A write of DISARM returns an INTERVAL unit to IDLE. -/
  | tiuDisarm (m : Master) (u : Nat) (t : Instant)
  /-- FRAME_RECEIVE, R404: A MAC receives an Ethernet frame and answers, passes on or drops it. -/
  | frameReceive (mac : Nat) (f : RxFrame) (t : Instant)
  /-- MAC_DOWN, R407: A lane or FEC failure takes a MAC down, discards its queue and tells KPE. -/
  | macDown (mac : Nat) (hiSer : Bool) (t : Instant)
  /-- MAC_UP, R407: A MAC completes bring-up, sends a gratuitous ARP and tells KPE. -/
  | macUp (mac : Nat) (preTx : Bool) (taps : List (BitVec 32)) (t : Instant)
  /-- TS_POP, R406: A write of TS_POP removes the head of a MAC's transmit timestamp FIFO. -/
  | tsPop (m : Master) (mac : Nat) (t : Instant)
  /-- PL_DETECT_PROBE, R409: Every 1 ms in DETECT each transmitter probes for a far-end termination. -/
  | plDetectProbe (lane : Nat) (found : Bool) (t : Instant)
  /-- PL_TRAIN_START, R409: 1 ms after the first lane is found the course enters TRAIN. -/
  | plTrainStart (t : Instant)
  /-- PL_TRAINING_FRAME, R410: A training frame is received and its tap requests and RX_READY are acted on. -/
  | plTrainingFrame (lane : Nat) (control : Nat) (status : Nat) (ready : Bool) (t : Instant)
  /-- PL_TRAIN_TIMEOUT, R408: TRAIN not finished within 100 ms returns the course to DETECT. -/
  | plTrainTimeout (t : Instant)
  /-- PL_CODEWORD, R412: A codeword is received and decoded, locking lanes and deskewing in LOCK. -/
  | plCodeword (lane : Nat) (ok : Bool) (spare : Bool) (flags : Nat) (index : Nat) (corrected : Nat) (t : Instant)
  /-- PL_LOCK_TIMEOUT, R408: LOCK not finished within 1 ms returns the course to TRAIN. -/
  | plLockTimeout (t : Instant)
  /-- PL_CAPS_SEND, R416: Every 1 µs in CAPS each end sends a CAPS flit. -/
  | plCapsSend (t : Instant)
  /-- PL_CAPS_TIMEOUT, R408: CAPS not finished within 10 ms returns the course to DETECT. -/
  | plCapsTimeout (t : Instant)
  /-- PL_DOWN_HOLD_END, R408: 1 s after a version mismatch the course returns to DETECT. -/
  | plDownHoldEnd (t : Instant)
  /-- PL_FLIT_SEND, R417: A sender sends a flit within its credits and retry buffer. -/
  | plFlitSend (t : Instant)
  /-- PL_FLIT_RECEIVE, R418: A flit is received and accepted, or discarded with a NAK. -/
  | plFlitReceive (f : RxFlit) (t : Instant)
  /-- PL_REPLAY_TIMEOUT, R418: No ACK advance for 4 µs replays all unacknowledged flits, retraining after 16 replays. -/
  | plReplayTimeout (t : Instant)
  /-- PL_LANE_LOST, R420: A lane of an ACTIVE course is lost and the course degrades to width 1. -/
  | plLaneLost (lane : Nat) (t : Instant)
  /-- PL_WIDTH_RESTORE, R421: A sender returns to width 2 at the first flit boundary after LANE_LOCKED. -/
  | plWidthRestore (t : Instant)
  /-- PL_QUIET_ENTRY, R422: A sender idle for QUIET_US sends CTRL QUIET and idles its lanes. -/
  | plQuietEntry (t : Instant)
  /-- SLEEP, R423: A write of LAN.PL_CTL.SLEEP sends DORMANT_REQ. -/
  | plSleep (m : Master) (t : Instant)
  /-- WAKE, R423: A write of LAN.PL_CTL.WAKE leaves DORMANT for DETECT. -/
  | plWake (m : Master) (t : Instant)
  /-- PL_WAKE_DETECT, R423: The low-power detector sees the peer transmit and the course leaves DORMANT. -/
  | plWakeDetect (t : Instant)
  /-- OPEN, R431: A host OPEN packet opens a session at observer rank, or is refused FULL or RATE. -/
  | kpOpen (path : KpPath) (p : KpPacket) (t : Instant)
  /-- COMMAND, R444: A host COMMAND packet is taken, checked against limits and the replay cache, and started. -/
  | kpCommand (path : KpPath) (p : KpPacket) (t : Instant)
  /-- ACK, R438: A host ACK packet acknowledges device control packets cumulatively. -/
  | kpAck (path : KpPath) (p : KpPacket) (t : Instant)
  /-- CLOSE, R436: A host CLOSE packet closes the session. -/
  | kpClose (path : KpPath) (p : KpPacket) (t : Instant)
  /-- CLAIM, R442: A host CLAIM packet requests or drops operator rank. -/
  | kpClaim (path : KpPath) (p : KpPacket) (t : Instant)
  /-- PRESS, R443: A press of PRESENCE_N grants the pending CLAIM, or is counted. -/
  | press (high : Bool) (t : Instant)
  /-- CLAIM_TIMEOUT, R442: No press within 60 s of a CLAIM completes it with TIMEOUT. -/
  | claimTimeout (t : Instant)
  /-- KP_NOP, R448: The KP command NOP completes. -/
  | kpNop (session : Nat) (tag : Nat) (t : Instant)
  /-- REG_READ, R451: The KP command REG_READ performs N register reads in order. -/
  | regRead (session : Nat) (tag : Nat) (t : Instant)
  /-- REG_WRITE, R451: The KP command REG_WRITE performs N register writes in order. -/
  | regWrite (session : Nat) (tag : Nat) (t : Instant)
  /-- MEM_READ, R452: The KP command MEM_READ transfers register or DRAM space to the host. -/
  | memRead (session : Nat) (tag : Nat) (t : Instant)
  /-- MEM_WRITE, R452: The KP command MEM_WRITE writes register space or the DRAM upload area. -/
  | memWrite (session : Nat) (tag : Nat) (t : Instant)
  /-- LOAD, R453: The KP command LOAD writes a Porhorn image from the upload area into the stage bank. -/
  | kpLoad (session : Nat) (tag : Nat) (t : Instant)
  /-- SUBSCRIBE, R461: The KP command SUBSCRIBE creates a stream subscription, or is refused. -/
  | subscribe (session : Nat) (tag : Nat) (t : Instant)
  /-- UNSUBSCRIBE, R448: The KP command UNSUBSCRIBE removes a subscription. -/
  | unsubscribe (session : Nat) (tag : Nat) (t : Instant)
  /-- FLUSH, R467: The KP command FLUSH closes a subscription's open block. -/
  | kpFlush (session : Nat) (tag : Nat) (t : Instant)
  /-- CAP_ARM, R454: The KP command CAP_ARM requests a capture of RNG. -/
  | capArm (session : Nat) (tag : Nat) (t : Instant)
  /-- CAP_READ, R455: The KP command CAP_READ delivers rows of a capture. -/
  | capRead (session : Nat) (tag : Nat) (t : Instant)
  /-- CAP_ABORT, R457: The KP command CAP_ABORT aborts a capture through RNG's sequencer. -/
  | capAbort (session : Nat) (tag : Nat) (t : Instant)
  /-- CAP_RELEASE, R457: The KP command CAP_RELEASE frees a CLOSED capture. -/
  | capRelease (session : Nat) (tag : Nat) (t : Instant)
  /-- RING_READ, R455: The KP command RING_READ delivers absolute ring rows. -/
  | ringRead (session : Nat) (tag : Nat) (t : Instant)
  /-- LOG_READ, R498: The KP command LOG_READ delivers event records in SEQ order. -/
  | logRead (session : Nat) (tag : Nat) (t : Instant)
  /-- MODE, R457: The KP command MODE writes CHP.MODE.REQ for the session. -/
  | kpMode (session : Nat) (tag : Nat) (t : Instant)
  /-- ABORT, R458: The KP command ABORT ends a command in flight at the ordering point. -/
  | kpAbort (session : Nat) (tag : Nat) (t : Instant)
  /-- BEGIN, R502: The UPDATE subop BEGIN erases the inactive slot. -/
  | updBegin (session : Nat) (tag : Nat) (ok : Bool) (t : Instant)
  /-- WRITE, R502: The UPDATE subop WRITE programs bytes into the inactive slot in order. -/
  | updWrite (session : Nat) (tag : Nat) (ok : Bool) (t : Instant)
  /-- VERIFY, R502: The UPDATE subop VERIFY checks the inactive slot's image. -/
  | updVerify (session : Nat) (tag : Nat) (t : Instant)
  /-- ACTIVATE, R502: The UPDATE subop ACTIVATE makes the verified slot active in TRIAL. -/
  | updActivate (session : Nat) (tag : Nat) (t : Instant)
  /-- COMMIT, R502: The UPDATE subop COMMIT clears TRIAL and raises the rollback count. -/
  | updCommit (session : Nat) (tag : Nat) (t : Instant)
  /-- REVERT, R502: The UPDATE subop REVERT makes the other valid slot active. -/
  | updRevert (session : Nat) (tag : Nat) (t : Instant)
  /-- STATUS, R502: The UPDATE subop STATUS returns slot and rollback information. -/
  | updStatus (session : Nat) (tag : Nat) (t : Instant)
  /-- ATTEST, R505: The UPDATE subop ATTEST signs an attestation report with a nonce. -/
  | updAttest (session : Nat) (tag : Nat) (t : Instant)
  /-- LOG_SIGN, R502: The UPDATE subop LOG_SIGN signs the hash of a range of records. -/
  | updLogSign (session : Nat) (tag : Nat) (t : Instant)
  /-- UPDATE_RESET, R502: 100 ms after an ACTIVATE completion with FLAGS bit 0, the device resets with cause UPDATE. -/
  | updateReset (t : Instant)
  /-- COMMAND_COMPLETE, R458: A command's completion passes the session's ordering point and is queued as a COMPLETION. -/
  | commandComplete (session : Nat) (tag : Nat) (t : Instant)
  /-- CONTROL_PACKET_SEND, R438: A queued control packet is sent once the window has room. -/
  | controlPacketSend (session : Nat) (t : Instant)
  /-- RTO_EXPIRY, R439: No ACK advance for RTO ms resends every unacknowledged packet, suspending after 8 rounds. -/
  | rtoExpiry (session : Nat) (t : Instant)
  /-- KEEPALIVE_EXPIRY, R435: No valid packet for KEEPALIVE seconds closes the session with reason KEEPALIVE. -/
  | keepaliveExpiry (session : Nat) (t : Instant)
  /-- STREAM_PACKET_FORM, R466: A stream packet is formed when full with whole rows or records. -/
  | streamPacketForm (sub : Nat) (accepts : Bool) (t : Instant)
  /-- STREAM_FILL_TIMEOUT, R466: MAX_US after its first row a partly filled stream packet is sent. -/
  | streamFillTimeout (sub : Nat) (accepts : Bool) (t : Instant)
  /-- STREAM_PACKET_DROP, R468: A stream packet the path cannot accept within 100 µs is dropped. -/
  | streamPacketDrop (sub : Nat) (t : Instant)
  /-- KICK, R475: A write of 0xC0DE to MGC.KICK restarts the watchdog. -/
  | kick (m : Master) (v : Word) (t : Instant)
  /-- SNS_CONVERSION, R479: SNS converts the die sites and rails every 1 ms and checks their limits. -/
  | snsConversion (temps : List Nat) (mv : List Nat) (t : Instant)
  /-- RAIL_FAULT, R481: A rail outside ±8 % for 100 µs raises RAIL_FAULT. -/
  | railFault (r : Nat) (t : Instant)
  /-- TIM_SET, R484: A committed write of TIM.SET requests a step of device time, or is refused in MODE 1. -/
  | timSet (m : Master) (v : BitVec 64) (servo : Bool) (t : Instant)
  /-- TIME_STEP, R484: At the next 1 µs re-alignment device time steps and a CLOCK_SET record is written. -/
  | timeStep (t : Instant)
  /-- PTP_SYNC, R487: A PTP Sync is processed by the servo, slewing or stepping device time and tracking lock. -/
  | ptpSync (d : Int) (t : Instant)
  /-- PPS_EDGE, R486: A PPS rising edge is timestamped and corrects device time in MODE 2. -/
  | ppsEdge (t : Instant)
  /-- PTP_HOLDOVER, R487: No Sync for HOLD_S seconds loses lock and enters HOLDOVER. -/
  | ptpHoldover (t : Instant)
  /-- RATE_LIMIT_SECOND, R492: At each whole second of uptime the rate limits reset and RATE_LIMITED records are formed. -/
  | rateLimitSecond (t : Instant)
  /-- FLUSH_TIMEOUT, R493: 1 s after the oldest waiting record was formed, EVR flushes a page. -/
  | flushTimeout (t : Instant)
  /-- PAGE_PROGRAMMED, R494: A flash page program completes and is read back, sealing the log on failure. -/
  | pageProgrammed (result : Nat) (t : Instant)
  /-- ERASE, R494: A write of EVR.CMD.ERASE erases the whole log in the background. -/
  | evrErase (m : Master) (t : Instant)
  /-- LOG_ERASED, R494: The log erase completes and LOG_ERASED is written. -/
  | logErased (t : Instant)
  /-- OTP_PROGRAM, R504: A write of OTP_VAL burns ones into the selected OTP word, or is denied. -/
  | otpProgram (m : Master) (v : Word) (t : Instant)
  /-- POWER_ON, R516: VDD_AON entering tolerance resets everything. -/
  | powerOn (t : Instant)
  /-- PIN_RESET, R518: RESET_N low for 1 µs drops the guard enables and resets the chip. -/
  | pinReset (low : Bool) (t : Instant)
  /-- JTAG_RESET, R516: The JTAG reset instruction resets the chip. -/
  | jtagReset (t : Instant)
  /-- RAIL_RESET, R516: A rail below 85 % for 2 µs resets the chip. -/
  | railReset (t : Instant)
  /-- REF_CLOCK_LOST, R514: The clock monitor declares CREF, SYSCLK or LREF lost, with its effects. -/
  | refClockLost (k : Nat) (t : Instant)
  /-- REF_CLOCK_PRESENT, R513: A lost reference is declared present after 1 ms without loss. -/
  | refClockPresent (k : Nat) (t : Instant)
  /-- CLOCK_RESET, R514: 10 µs after loss of CREF or SYSCLK, a chip reset of cause CLOCK follows. -/
  | clockReset (t : Instant)
  /-- CRYSTAL_FAIL, R515: The crystal fails and the always-on clock switches to the fallback, tripping GDB. -/
  | crystalFail (t : Instant)
  /-- RESET_RELEASE, R518: 1 ms after rails and RESET_N are good the internal reset is released into BOOT. -/
  | resetRelease (testen : Bool) (bootsel : BitVec 2) (t : Instant)
  /-- BOOT_COMPLETE, R520: The boot ROM finishes image selection and verification, forms the BOOT record and enters PREP or RECOVERY. -/
  | bootComplete (t : Instant)
  /-- PREP_STEPS, R521: On entry to PREP the firmware runs the PREP steps in order, failing to RECOVERY on any failure. -/
  | prepSteps (sramOk : Bool) (t : Instant)
  /-- BOOT_TUNING, R523: After the PREP steps the firmware applies the boot tuning's live writes, loads its image and runs CHK. -/
  | bootTuning (writes : List (Nat × Word)) (porhorn : List (BitVec 8)) (service : Bool) (light : Bool) (start : Bool) (t : Instant)
  /-- AUTO_SERVICE, R523: When the boot tuning's CHK passes with AUTO_SERVICE, the firmware requests SERVICE. -/
  | autoService (t : Instant)
  /-- AUTO_LIGHT, R523: In SERVICE the firmware writes GDB.CMD.RESTART once R302 holds or 10 s after entry. -/
  | autoLight (t : Instant)
  /-- AUTO_START, R523: When both guards are first ARMED after SERVICE entry, the firmware writes START. -/
  | autoStart (t : Instant)
  /-- PFAIL_LOW, R525: PFAIL_N low for 1 µs trips both guards, halts the tab and starts the power-fail flush. -/
  | pfailLow (t : Instant)
  /-- PFAIL_RISE, R526: PFAIL_N rising again while rails hold undoes nothing and releases waiting boot-record writes. -/
  | pfailRise (t : Instant)
  /-- FIRE_BUS_RELEASE, R281: The wired FIRE bus rises at the unit's pin, ending a stuck condition and starting the 1 ms high time before edges are accepted again. -/
  | fireBusRelease (t : Instant)
  /-- PLUCK_GATE_CLOSE, R103: TAIL ticks after a pluck probe's last sample, the pluck gate closes and SOA_GATE_P/M closes. -/
  | pluckGateClose (t : Instant)
  /-- TIME_SLEW_END, R486: A slew of device time removes the measured offset, the rate correction ends and STATE.SLEWING clears. -/
  | timeSlewEnd (t : Instant)
  /-- SECTOR_ERASE_DONE, R494: EVR's background erase of the next flash sector, or of the oldest sector under WRAP, completes or reports failure and seals the log. -/
  | sectorEraseDone (ok : Bool) (t : Instant)
  /-- PTP_FRAME_SEND, R406: A PTP frame the firmware sends leaves the MAC, and its sequenceId, messageType and transmit time enter the MAC's timestamp FIFO, or TS_OVF is set. -/
  | ptpFrameSend (mac : Nat) (seqId : Nat) (mtype : Nat) (t : Instant)
  /-- POWER_DOWN, R511: VDD_AON leaves tolerance, losing the retained buffer, uptime and all state, with guard enables undefined if other rails remain. -/
  | powerDown (others : Bool) (t : Instant)
  /-- SEAL_N_CHANGE, R46: SEAL_N changes level, so CHP.GRADE.SEALED follows and seal-locked fields become writable or locked. -/
  | sealNChange (high : Bool) (t : Instant)
  deriving DecidableEq, Repr

end Sys2Proof
end

