-- ==== Sys2Proof/Decode.lean ====
section
/-! DEFINITION. The command that a word spells by the bits of spec/opcode_table.json: the table gives no row any
bits, so a word spells none. -/

namespace Sys2Proof

/-- The rows of the table that have bits, with the command each spells: none of its 317 rows gives a field. -/
def tableRows : List (Nat × Nat × Nat × Instr) := []

/-- The command that `w`, of `nbits` bits, spells: the row of that length whose fixed bits it has. -/
def decodeTableWord (nbits w : Nat) : Option Instr :=
  (tableRows.find? (fun r => r.1 == nbits && w &&& r.2.1 == r.2.2.1)).map (fun r => r.2.2.2)

end Sys2Proof
end

