-- ==== Sys2Proof/Config.lean ====
section
/-! DEFINITION. The free values: constants with no body, so that nothing can be proved of what they are. Each is named in
the assumption log. -/

namespace Sys2Proof.Config

/-- Log entry 10. R156 (05): the phase of a sum, in turns of 16 bits, where the argument is not exact. -/
opaque arg16 : Int → Int → BitVec 16

/-- Log entry 10. R177 (06): coefficient i of FIR set A, signed; coefficient 30 − i equals coefficient i. -/
opaque coefA : Nat → Int

/-- Log entry 10. R177 (06): coefficient i of FIR set B. -/
opaque coefB : Nat → Int

/-- Log entry 10. R79 (03): sample i of the raised-cosine parts of window number w over N samples. -/
opaque windowSample : Nat → Nat → Nat → BitVec 16

/-- Log entry 10. R100 (03): the cosine, signed Q1.15, of a phase in units of 2⁻²⁰ turn. -/
opaque cosQ15 : Nat → BitVec 16

/-- Log entry 10. R100 (03): the sine, signed Q1.15, of a phase in units of 2⁻²⁰ turn. -/
opaque sinQ15 : Nat → BitVec 16

/-- Log entry 10. R156 (05): a complex number rotated by a phase of 16 bits of a turn. -/
opaque rot16 : Int → Int → BitVec 16 → Int × Int

/-- Log entry 10. R199 (07): the natural logarithm of a positive number, signed Q8.24. -/
opaque lnQ24 : Int → Int

/-- Log entry 10. R205 (07): whether a quotient that is not exact is rounded up; the spec states no rounding. -/
opaque roundUp : Int → Nat → Bool

/-- Log entry 10. R205 (07): the quotient of a number by zero. -/
opaque divByZero : Int → Int

/-- Log entry 10. R210 (07): RISE where the difference lies outside the 16-bit format. -/
opaque riseBeyond : Int → BitVec 16

/-- Log entry 10. R229 (08): 16-bit word i of a BFFT (false) or BRFFT (true): inverse, SH and the input's words. -/
opaque fftWord : Bool → Bool → Nat → List (BitVec 16) → Nat → BitVec 16

/-- Log entry 10. R215, R229 (08): how many saturations a BFFT or BRFFT counts. -/
opaque fftSat : Bool → Bool → Nat → List (BitVec 16) → Nat

/-- Log entry 10. R229 (08): byte i of the last 16 that BMOV copies where n is no multiple of 16: n, i, A's byte and D's. -/
opaque bmovTail : Nat → Nat → BitVec 8 → BitVec 8 → BitVec 8

/-- Log entry 10. R362, R363 (12): a byte of DRAM whose contents are undefined: the draw and the system address. -/
opaque dramByte : Nat → Nat → BitVec 8

/-- Log entry 10. R372 (13): RAW of a conversion whose factors are not the reset ones: the sum of its codes, N, OFF and GAIN. -/
opaque refRaw : Int → Nat → Nat → Nat → BitVec 24

/-- Log entry 10. R387 (13): LIN of a temperature curve: the curve (12: the die sensor), RAW, the gain code, the current in pA, PARAM0,
PARAM1 and the cold junction's LIN. -/
opaque refLin : Nat → Int → Nat → Nat → Nat → Nat → Int → BitVec 32

/-- Log entry 10. R387, R388 (13): a value of LIN or RAW that the spec gives no meaning, by the draw. -/
opaque refOpen : Nat → BitVec 32

/-- Log entry 14. R427 (15): the trailer of a device packet that carries NOCHK, by its header and payload. -/
opaque noChk : List (BitVec 8) → BitVec 32

/-- Log entry 14. R426, R428 (15): SEQ of an unsequenced device packet, by the draw. -/
opaque unseqSeq : Nat → BitVec 32

/-- Log entry 10. R410 (14): the preset of a transmitter tap. -/
opaque tapPreset : Nat → BitVec 8

/-- Log entry 10. R430, R432 (15): byte i of COOKIE, KEEPALIVE, RTO and WINDOW of an OPEN_REPLY that refuses, by the draw. -/
opaque refusedReply : Nat → Nat → BitVec 8

/-- Log entry 10. R430 (15): a session's cookie, drawn from the device's random source; 0 is taken as 1. -/
opaque cookie : Nat → BitVec 32

/-- Log entry 10. R511 (17): an enable line (guard B or A, and its number) after VDD_AON has left tolerance first, by the draw. -/
opaque enableLine : Nat → Bool → Nat → Bool

/-- Log entry 10. R476 (16): the level driven from outside on GPIO pin n at an instant. -/
opaque gpioLevel : Nat → Nat → Bool

/-- Log entry 10. R500 (16): SHA-256 of bytes, as a little-endian number; the spec names the function and does not define it. -/
opaque sha256 : List (BitVec 8) → BitVec 256

/-- Log entry 10. R500, R502 (16): SHA-512 of bytes, as a little-endian number. -/
opaque sha512 : List (BitVec 8) → BitVec 512

/-- Log entry 10. R500 (16): whether an Ed25519 signature verifies: public key, message and signature. -/
opaque signatureOk : List (BitVec 8) → List (BitVec 8) → List (BitVec 8) → Bool

/-- Log entry 10. R502, R505 (16): byte i of the Ed25519 signature of a message under the device's identity key. -/
opaque idSign : BitVec 256 → List (BitVec 8) → Nat → BitVec 8

/-- Log entry 10. R505 (16): word i of the public key of the device's identity key. -/
opaque idPublic : BitVec 256 → Nat → BitVec 32

/-- Log entry 10. R8, CK23 (01, 02): the stream reservations of the tuning with these register words and memories exceed the capacity of
a region's bridge. -/
opaque bridgeOver : Nat → List (Nat × BitVec 32) → List (Nat × BitVec 8) → Bool

end Sys2Proof.Config
end

