-- ==== Sys2Proof/Machine/RegTable.lean ====
section
/-! DEFINITION. The register maps of spec/02 to spec/16, word by word: one Field per field of a map (its address in the active view, its bits), and one row per register word with the access code, the class and the reset value of each field (R36, R37, R42). -/

namespace Sys2Proof.Machine.Reg

/-! ### CHP: R42 to R72 (02) -/
def CHP_IDENT_PART : Field := ⟨0x0, 16, 16, false⟩
def CHP_IDENT_FAMILY : Field := ⟨0x0, 8, 8, false⟩
def CHP_IDENT_STEP : Field := ⟨0x0, 0, 8, false⟩
def CHP_GRADE_EXT : Field := ⟨0x4, 0, 1, false⟩
def CHP_GRADE_JTAG_LOCKED : Field := ⟨0x4, 1, 1, false⟩
def CHP_GRADE_SEALED : Field := ⟨0x4, 2, 1, false⟩
def CHP_MODE_CUR : Field := ⟨0x10, 0, 3, false⟩
def CHP_MODE_REQ : Field := ⟨0x10, 4, 3, false⟩
def CHP_CHIP_STAT_SEQ : Field := ⟨0x14, 24, 8, false⟩
def CHP_CHIP_STAT_SAFE : Field := ⟨0x14, 0, 1, false⟩
def CHP_CHIP_STAT_ESCALATION : Field := ⟨0x14, 1, 1, false⟩
def CHP_CHIP_STAT_MODE_REFUSED : Field := ⟨0x14, 2, 1, false⟩
def CHP_CHIP_STAT_APPLY_DONE : Field := ⟨0x14, 3, 1, false⟩
def CHP_CHIP_STAT_CHECK_DONE : Field := ⟨0x14, 4, 1, false⟩
def CHP_CHIP_STAT_SNAP_DONE : Field := ⟨0x14, 5, 1, false⟩
def CHP_CHIP_STAT_DENIED : Field := ⟨0x14, 6, 1, false⟩
def CHP_CHIP_STAT_APPLY_CANCELLED : Field := ⟨0x14, 7, 1, false⟩
def CHP_TCMD_CMD : Field := ⟨0x20, 0, 4, false⟩
def CHP_TSTAT_STATE : Field := ⟨0x24, 0, 3, false⟩
def CHP_TSTAT_LOAD_BAD : Field := ⟨0x24, 3, 1, false⟩
def CHP_TSTAT_REFUSAL : Field := ⟨0x24, 8, 4, false⟩
def CHP_CKRES_CODE : Field := ⟨0x28, 0, 8, false⟩
def CHP_CKRES_ITEM : Field := ⟨0x28, 8, 16, false⟩
def CHP_APPLY_AT_SWEEP : Field := ⟨0x30, 0, 48, false⟩
def CHP_LAST_APPLY_SWEEP : Field := ⟨0x38, 0, 48, false⟩
def CHP_TUNING_ID_ID : Field := ⟨0x40, 0, 32, true⟩
def CHP_APPLY_CNT_COUNT : Field := ⟨0x44, 0, 32, false⟩
def CHP_SNAP_CTL_REQ : Field := ⟨0x50, 0, 1, false⟩
def CHP_SNAP_CTL_PERIOD : Field := ⟨0x50, 8, 16, false⟩
def CHP_SNAP_HOLD_MS : Field := ⟨0x54, 0, 16, false⟩
def CHP_SNAP_SEQ_SEQ : Field := ⟨0x58, 0, 32, false⟩
def CHP_SNAP_REL_SEQ : Field := ⟨0x5c, 0, 32, false⟩
def CHP_SNAP_SWEEP_SWEEP : Field := ⟨0x60, 0, 48, false⟩
def CHP_ERR_FIRST_CODE : Field := ⟨0x70, 0, 16, false⟩
def CHP_ERR_COUNT_COUNT : Field := ⟨0x74, 0, 16, false⟩
def CHP_DENY_CNT_PRIV : Field := ⟨0x80, 0, 16, false⟩
def CHP_DENY_CNT_SEAL : Field := ⟨0x80, 16, 16, false⟩
def CHP_STALE_CNT_COUNT : Field := ⟨0x84, 0, 32, false⟩
def CHP_STAGE_CNT_REFUSED : Field := ⟨0x88, 0, 16, false⟩
def CHP_STAGE_CNT_MISS : Field := ⟨0x88, 16, 16, false⟩
def CHP_BUSERR_CNT_COUNT : Field := ⟨0x8c, 0, 32, false⟩
def CHP_INJECT_CODE : Field := ⟨0x90, 0, 16, false⟩
def CHP_INJECT_GO : Field := ⟨0x90, 16, 1, false⟩
def CHP_INJECT_BAD : Field := ⟨0x90, 17, 1, false⟩
def CHP_MODE_REFUSE_CNT_COUNT : Field := ⟨0x94, 0, 32, false⟩
/-! ### PSQ: R105 (03) -/
def PSQ_CTL_CMD : Field := ⟨0x100000, 0, 3, false⟩
def PSQ_STATE_STATE : Field := ⟨0x100004, 0, 2, false⟩
def PSQ_STATE_HALT_CAUSE : Field := ⟨0x100004, 4, 4, false⟩
def PSQ_STATE_PC : Field := ⟨0x100004, 16, 12, false⟩
def PSQ_STAT_SEQ : Field := ⟨0x100008, 24, 8, false⟩
def PSQ_STAT_LATE : Field := ⟨0x100008, 0, 1, false⟩
def PSQ_STAT_SLOT_BUSY : Field := ⟨0x100008, 1, 1, false⟩
def PSQ_STAT_FIRE_INACTIVE : Field := ⟨0x100008, 2, 1, false⟩
def PSQ_STAT_RAMAN_EXTRA : Field := ⟨0x100008, 3, 1, false⟩
def PSQ_STAT_SWEEP_LONG : Field := ⟨0x100008, 4, 1, false⟩
def PSQ_STAT_SYNC_MISS : Field := ⟨0x100008, 5, 1, false⟩
def PSQ_STAT_TAB_EVT : Field := ⟨0x100008, 6, 1, false⟩
def PSQ_STAT_CMD_REFUSED : Field := ⟨0x100008, 7, 1, false⟩
def PSQ_STAT_COLLIDE : Field := ⟨0x100008, 8, 1, false⟩
def PSQ_STAT_PLUCK_DONE : Field := ⟨0x100008, 9, 1, false⟩
def PSQ_STAT_PLUCK_REFUSED : Field := ⟨0x100008, 10, 1, false⟩
def PSQ_EVT_CODE_CODE : Field := ⟨0x10000c, 0, 8, false⟩
def PSQ_PERIOD_TICKS : Field := ⟨0x100010, 0, 20, true⟩
def PSQ_ENTRY_START : Field := ⟨0x100014, 0, 12, true⟩
def PSQ_ENTRY_RESUME : Field := ⟨0x100014, 16, 12, true⟩
def PSQ_TABLEN_LEN : Field := ⟨0x100018, 0, 13, true⟩
def PSQ_SYNC_MODE : Field := ⟨0x10001c, 0, 2, true⟩
def PSQ_SYNC_RES_SUB : Field := ⟨0x100020, 0, 3, false⟩
def PSQ_TIMER_TICK : Field := ⟨0x100024, 0, 20, false⟩
def PSQ_SWEEP_SWEEP : Field := ⟨0x100028, 0, 48, false⟩
def PSQ_PLUCK_SLOT : Field := ⟨0x100030, 0, 3, false⟩
def PSQ_PLUCK_SHAPE : Field := ⟨0x100030, 4, 4, false⟩
def PSQ_PLUCK_SCALE : Field := ⟨0x100030, 8, 8, false⟩
def PSQ_PLUCK_GO : Field := ⟨0x100030, 31, 1, false⟩
def PSQ_PLUCK_GATE_LEAD : Field := ⟨0x100034, 0, 8, false⟩
def PSQ_PLUCK_GATE_TAIL : Field := ⟨0x100034, 8, 8, false⟩
def PSQ_PLUCK_RES_CODE : Field := ⟨0x100038, 0, 3, false⟩
def PSQ_LATE_CNT : Field := ⟨0x100040, 0, 32, false⟩
def PSQ_BUSY_CNT : Field := ⟨0x100044, 0, 32, false⟩
def PSQ_INACTIVE_CNT : Field := ⟨0x100048, 0, 32, false⟩
def PSQ_RAMAN_X_CNT : Field := ⟨0x10004c, 0, 32, false⟩
def PSQ_LONG_CNT : Field := ⟨0x100050, 0, 32, false⟩
def PSQ_SYNC_MISS_CNT : Field := ⟨0x100054, 0, 32, false⟩
def PSQ_COLLIDE_CNT : Field := ⟨0x100058, 0, 32, false⟩
def PSQ_PLUCK_CNT : Field := ⟨0x10005c, 0, 32, false⟩
def PSQ_EVT_CNT : Field := ⟨0x100060, 0, 32, false⟩
def PSQ_FIRE_CNT_COUNT (k : Nat) : Field := ⟨0x100080 + 4 * k, 0, 32, false⟩
/-! ### PSY: R105 (03) -/
def PSY_SLOT_OFFSET (k : Nat) : Field := ⟨0x110000 + 4 * k, 0, 20, true⟩
def PSY_SLOT_EN (k : Nat) : Field := ⟨0x110000 + 4 * k, 31, 1, true⟩
def PSY_IQ_GAIN_Q : Field := ⟨0x110040, 0, 16, true⟩
def PSY_IQ_PHASE_Q : Field := ⟨0x110040, 16, 16, true⟩
def PSY_DC_DC_I : Field := ⟨0x110044, 0, 14, true⟩
def PSY_DC_DC_Q : Field := ⟨0x110044, 16, 14, true⟩
def PSY_RAMAN_WIDTH : Field := ⟨0x110048, 0, 8, true⟩
def PSY_OUT_DAC_EN : Field := ⟨0x11004c, 0, 1, false⟩
def PSY_STAT_SEQ : Field := ⟨0x110050, 24, 8, false⟩
def PSY_STAT_CLIP : Field := ⟨0x110050, 0, 1, false⟩
def PSY_CLIP_CNT_COUNT : Field := ⟨0x110054, 0, 32, false⟩
/-! ### SRC: R133 (04) -/
def SRC_STAT_SEQ : Field := ⟨0x120000, 24, 8, false⟩
def SRC_STAT_FAULT : Field := ⟨0x120000, 0, 5, false⟩
def SRC_STAT_BLIND : Field := ⟨0x120000, 5, 1, false⟩
def SRC_STAT_DERATE_INVALID : Field := ⟨0x120000, 6, 1, false⟩
def SRC_DERATE_CFG_CH : Field := ⟨0x120010, 0, 4, true⟩
def SRC_DERATE_CFG_MIN_FRAC : Field := ⟨0x120010, 8, 9, true⟩
def SRC_DERATE_CFG_STAGES : Field := ⟨0x120010, 24, 5, true⟩
def SRC_DERATE_T_T_START : Field := ⟨0x120014, 0, 16, true⟩
def SRC_DERATE_T_T_END : Field := ⟨0x120014, 16, 16, true⟩
def SRC_DERATE_NOW_F : Field := ⟨0x120018, 0, 9, false⟩
def SRC_STG_CTL_EN (k : Nat) : Field := ⟨0x120100 + 64 * k, 0, 1, true⟩
def SRC_STG_CTL_MODE (k : Nat) : Field := ⟨0x120100 + 64 * k, 1, 1, true⟩
def SRC_STG_CTL_PROOF_EN (k : Nat) : Field := ⟨0x120100 + 64 * k, 2, 1, true⟩
def SRC_STG_CTL_BITS (k : Nat) : Field := ⟨0x120100 + 64 * k, 3, 5, true⟩
def SRC_STG_CTL_DEAD (k : Nat) : Field := ⟨0x120100 + 64 * k, 8, 6, true⟩
def SRC_STG_CARRIER_PER (k : Nat) : Field := ⟨0x120104 + 64 * k, 0, 14, true⟩
def SRC_STG_LEVEL_LEVEL (k : Nat) : Field := ⟨0x120108 + 64 * k, 0, 16, true⟩
def SRC_STG_ISET_ISET (k : Nat) : Field := ⟨0x12010c + 64 * k, 0, 12, true⟩
def SRC_STG_ISET_RAMP (k : Nat) : Field := ⟨0x12010c + 64 * k, 16, 8, true⟩
def SRC_STG_ISET_KI (k : Nat) : Field := ⟨0x12010c + 64 * k, 24, 8, true⟩
def SRC_STG_LIM_ILIM (k : Nat) : Field := ⟨0x120110 + 64 * k, 0, 12, true⟩
def SRC_STG_LIM_DMAX (k : Nat) : Field := ⟨0x120110 + 64 * k, 16, 16, true⟩
def SRC_STG_DIAG_OPEN_TH (k : Nat) : Field := ⟨0x120114 + 64 * k, 0, 12, true⟩
def SRC_STG_DIAG_SHORT_TH (k : Nat) : Field := ⟨0x120114 + 64 * k, 16, 12, true⟩
def SRC_STG_SEAL_ISET_MAX (k : Nat) : Field := ⟨0x120118 + 64 * k, 0, 12, false⟩
def SRC_STG_SEAL_ILIM_MAX (k : Nat) : Field := ⟨0x120118 + 64 * k, 16, 12, false⟩
def SRC_STG_SEAL_DMAX_MAX (k : Nat) : Field := ⟨0x12011c + 64 * k, 0, 16, false⟩
def SRC_STG_CMD_CLR (k : Nat) : Field := ⟨0x120120 + 64 * k, 0, 1, false⟩
def SRC_STG_STATE_STATE (k : Nat) : Field := ⟨0x120124 + 64 * k, 0, 3, false⟩
def SRC_STG_STATE_FAULT (k : Nat) : Field := ⟨0x120124 + 64 * k, 4, 2, false⟩
def SRC_STG_MEAS_CURRENT (k : Nat) : Field := ⟨0x120128 + 64 * k, 0, 12, false⟩
def SRC_STG_MEAS_DUTY (k : Nat) : Field := ⟨0x120128 + 64 * k, 16, 16, false⟩
def SRC_STG_FAULT_CNT (k : Nat) : Field := ⟨0x12012c + 64 * k, 0, 32, false⟩
def SRC_STG_PROOF_CNT (k : Nat) : Field := ⟨0x120130 + 64 * k, 0, 32, false⟩
def SRC_STG_ILIM_CNT (k : Nat) : Field := ⟨0x120134 + 64 * k, 0, 32, false⟩
/-! ### OCC: R133 (04) -/
def OCC_CTL_LEN : Field := ⟨0x130000, 0, 6, true⟩
def OCC_CTL_DIV : Field := ⟨0x130000, 8, 4, true⟩
def OCC_CTL_REFRESH : Field := ⟨0x130000, 16, 16, true⟩
def OCC_STAT_SEQ : Field := ⟨0x130004, 24, 8, false⟩
def OCC_STAT_MISMATCH : Field := ⟨0x130004, 0, 1, false⟩
def OCC_STAT_LATCHED : Field := ⟨0x130004, 1, 1, false⟩
def OCC_STAT_LIVE_HELD : Field := ⟨0x130004, 2, 1, false⟩
def OCC_STAT_LATE_LATCH : Field := ⟨0x130004, 3, 1, false⟩
def OCC_STATE_STATE : Field := ⟨0x130008, 0, 2, false⟩
def OCC_STATE_OE : Field := ⟨0x130008, 4, 1, false⟩
def OCC_FRAME_CNT : Field := ⟨0x130010, 0, 32, false⟩
def OCC_MISMATCH_CNT : Field := ⟨0x130014, 0, 32, false⟩
def OCC_BREAK_CNT : Field := ⟨0x130018, 0, 32, false⟩
def OCC_IMAGE (k : Nat) : Field := ⟨0x130040 + 4 * k, 0, 32, true⟩
def OCC_LIVE_MASK (k : Nat) : Field := ⟨0x130080 + 4 * k, 0, 32, true⟩
def OCC_LIVE_VAL (k : Nat) : Field := ⟨0x1300c0 + 4 * k, 0, 32, false⟩
def OCC_RB (k : Nat) : Field := ⟨0x130100 + 4 * k, 0, 32, false⟩
/-! ### CRX: R172 (05) -/
def CRX_CTL_AUTO : Field := ⟨0x140000, 0, 1, true⟩
def CRX_STAT_SEQ : Field := ⟨0x140004, 24, 8, false⟩
def CRX_STAT_CLIP : Field := ⟨0x140004, 0, 4, false⟩
def CRX_STAT_STEP_DOWN : Field := ⟨0x140004, 4, 1, false⟩
def CRX_STAT_STEP_UP : Field := ⟨0x140004, 5, 1, false⟩
def CRX_GAIN_NOW_GX : Field := ⟨0x140008, 0, 3, false⟩
def CRX_GAIN_NOW_GY : Field := ⟨0x140008, 4, 3, false⟩
def CRX_CLIP_CNT (k : Nat) : Field := ⟨0x140010 + 4 * k, 0, 32, false⟩
def CRX_DOWN_CNT : Field := ⟨0x140020, 0, 32, false⟩
def CRX_UP_CNT : Field := ⟨0x140024, 0, 32, false⟩
def CRX_SCHED_CODE (k j : Nat) : Field := ⟨0x141000 + 4 * k, 4 * j, 3, true⟩
/-! ### CAL: R172 (05) -/
def CAL_CTL_RUN : Field := ⟨0x160000, 0, 1, false⟩
def CAL_CTL_PILOT : Field := ⟨0x160000, 1, 1, false⟩
def CAL_CMD_SKEW_CAL : Field := ⟨0x160004, 0, 1, false⟩
def CAL_WIN_LO : Field := ⟨0x160008, 0, 8, false⟩
def CAL_WIN_HI : Field := ⟨0x160008, 8, 8, false⟩
def CAL_STAT_SEQ : Field := ⟨0x16000c, 24, 8, false⟩
def CAL_STAT_STARVED : Field := ⟨0x16000c, 0, 1, false⟩
def CAL_STAT_TONE_FAIL : Field := ⟨0x16000c, 1, 1, false⟩
def CAL_STAT_CMD_REFUSED : Field := ⟨0x16000c, 2, 1, false⟩
def CAL_STAT_SKEW_DONE : Field := ⟨0x16000c, 3, 1, false⟩
def CAL_STATE_STARVED : Field := ⟨0x160010, 0, 4, false⟩
def CAL_STATE_NOMINAL : Field := ⟨0x160010, 4, 4, false⟩
def CAL_UPD_CNT (k : Nat) : Field := ⟨0x160100 + 128 * k, 0, 32, false⟩
def CAL_SKEW_CNT (k : Nat) : Field := ⟨0x160104 + 128 * k, 0, 32, false⟩
def CAL_LAST_TIME (k : Nat) : Field := ⟨0x160108 + 128 * k, 0, 64, false⟩
def CAL_CHSKEW (k : Nat) : Field := ⟨0x160110 + 128 * k, 0, 16, false⟩
def CAL_OFF (k j : Nat) : Field := ⟨0x160140 + 128 * k + 8 * j, 0, 16, false⟩
def CAL_SKEW (k j : Nat) : Field := ⟨0x160140 + 128 * k + 8 * j, 16, 16, false⟩
def CAL_GAIN (k j : Nat) : Field := ⟨0x160144 + 128 * k + 8 * j, 0, 16, false⟩
/-! ### CHN: R172 (05) -/
def CHN_IQ_GAIN (k : Nat) : Field := ⟨0x200000 + 4 * k, 0, 16, true⟩
def CHN_IQ_PHASE (k : Nat) : Field := ⟨0x200000 + 4 * k, 16, 16, true⟩
def CHN_ZERO_DELAY : Field := ⟨0x200008, 0, 16, true⟩
def CHN_STAT_SEQ : Field := ⟨0x20000c, 24, 8, false⟩
def CHN_STAT_SAT : Field := ⟨0x20000c, 0, 1, false⟩
def CHN_LOOK_CNT (k : Nat) : Field := ⟨0x200100 + 16 * k, 0, 32, false⟩
def CHN_SAT_CNT (k : Nat) : Field := ⟨0x200104 + 16 * k, 0, 32, false⟩
/-! ### PCM: R172 (05) -/
def PCM_SLOT_NFFT (k : Nat) : Field := ⟨0x210000 + 4 * k, 0, 2, true⟩
def PCM_LOAD_MCPS : Field := ⟨0x210020, 0, 16, false⟩
def PCM_STAT_SEQ : Field := ⟨0x210024, 24, 8, false⟩
def PCM_STAT_EDGE : Field := ⟨0x210024, 0, 1, false⟩
def PCM_BLOCK_CNT : Field := ⟨0x210030, 0, 32, false⟩
def PCM_EDGE_CNT : Field := ⟨0x210034, 0, 32, false⟩
/-! ### PHS: R172 (05) -/
def PHS_RANGE_CAPO : Field := ⟨0x220000, 0, 16, true⟩
def PHS_RANGE_END : Field := ⟨0x220000, 16, 16, true⟩
def PHS_GAUGE_G : Field := ⟨0x220004, 0, 8, true⟩
def PHS_NG_NG : Field := ⟨0x220008, 0, 18, true⟩
def PHS_TRACK_SHIFT : Field := ⟨0x22000c, 0, 4, true⟩
def PHS_TRACK_MSHIFT : Field := ⟨0x22000c, 8, 4, true⟩
def PHS_TRACK_TH_SHIFT : Field := ⟨0x22000c, 16, 4, true⟩
def PHS_FADE_FLOOR : Field := ⟨0x220010, 0, 16, true⟩
def PHS_STAT_SEQ : Field := ⟨0x220014, 24, 8, false⟩
def PHS_STAT_SETTLE : Field := ⟨0x220014, 0, 1, false⟩
def PHS_STAT_FADE_ALL : Field := ⟨0x220014, 1, 1, false⟩
def PHS_STAT_REACQ : Field := ⟨0x220014, 2, 1, false⟩
def PHS_STAT_DARK : Field := ⟨0x220014, 3, 1, false⟩
def PHS_STAT_RESEAT : Field := ⟨0x220014, 4, 1, false⟩
def PHS_INV_SETTLE_CNT : Field := ⟨0x220020, 0, 32, false⟩
def PHS_INV_FADE_CNT : Field := ⟨0x220024, 0, 32, false⟩
def PHS_INV_DARK_CNT : Field := ⟨0x220028, 0, 32, false⟩
def PHS_INV_COLLIDE_CNT : Field := ⟨0x22002c, 0, 32, false⟩
def PHS_INV_RESEAT_CNT : Field := ⟨0x220030, 0, 32, false⟩
def PHS_FADE_CNT (k : Nat) : Field := ⟨0x220080 + 4 * k, 0, 32, false⟩
def PHS_REACQ_CNT (k : Nat) : Field := ⟨0x2200a0 + 4 * k, 0, 32, false⟩
def PHS_PROBE_POS : Field := ⟨0x220100, 0, 16, false⟩
def PHS_PROBE_SLOT : Field := ⟨0x220100, 16, 3, false⟩
def PHS_PROBE_OFFSET : Field := ⟨0x220104, 0, 24, false⟩
def PHS_PROBE_MEAN : Field := ⟨0x220108, 0, 32, false⟩
def PHS_PROBE_TH : Field := ⟨0x22010c, 0, 16, false⟩
def PHS_PROBE_FAST : Field := ⟨0x22010c, 16, 7, false⟩
/-! ### PFL: R190 (06) -/
def PFL_CTL_MEDIAN : Field := ⟨0x230000, 0, 2, true⟩
def PFL_CTL_BRIDGE : Field := ⟨0x230000, 4, 1, true⟩
def PFL_CTL_BRIDGE_MAX : Field := ⟨0x230000, 8, 8, true⟩
def PFL_TAP_RING : Field := ⟨0x230004, 0, 3, true⟩
def PFL_TAP_AAR_A : Field := ⟨0x230004, 4, 3, true⟩
def PFL_TAP_AAR_B : Field := ⟨0x230004, 8, 3, true⟩
def PFL_STAT_SEQ : Field := ⟨0x230008, 24, 8, false⟩
def PFL_STAT_SAT : Field := ⟨0x230008, 0, 1, false⟩
def PFL_STAT_BREAK : Field := ⟨0x230008, 1, 1, false⟩
def PFL_STAT_RESET_ALL : Field := ⟨0x230008, 2, 1, false⟩
def PFL_STAT_RUN_LONG : Field := ⟨0x230008, 3, 1, false⟩
def PFL_LOOK_CNT_COUNT : Field := ⟨0x230010, 0, 48, false⟩
def PFL_INV_IN_CNT : Field := ⟨0x230020, 0, 32, false⟩
def PFL_SUBST_CNT : Field := ⟨0x230024, 0, 32, false⟩
def PFL_LONG_RUN_CNT : Field := ⟨0x230028, 0, 32, false⟩
def PFL_BREAK_CNT : Field := ⟨0x23002c, 0, 32, false⟩
def PFL_INV_OUT_CNT (k : Nat) : Field := ⟨0x230030 + 4 * k, 0, 32, false⟩
def PFL_SAT_CNT (k : Nat) : Field := ⟨0x230050 + 4 * k, 0, 32, false⟩
def PFL_PROBE_POS : Field := ⟨0x230100, 0, 16, false⟩
def PFL_PROBE_ACC : Field := ⟨0x230104, 0, 32, false⟩
def PFL_PROBE_HOLD : Field := ⟨0x230108, 0, 16, false⟩
def PFL_PROBE_VALID : Field := ⟨0x23010c, 0, 5, false⟩
def PFL_COEFA (k : Nat) : Field := ⟨0x230200 + 4 * k, 0, 18, false⟩
def PFL_COEFB (k : Nat) : Field := ⟨0x230280 + 4 * k, 0, 18, false⟩
/-! ### RMX: R213 (07) -/
def RMX_CTL_EN : Field := ⟨0x150000, 0, 1, true⟩
def RMX_ZERO_DELAY : Field := ⟨0x150004, 0, 16, true⟩
def RMX_BASE_LEN : Field := ⟨0x150008, 0, 3, true⟩
def RMX_BASE_GAP : Field := ⟨0x150008, 8, 8, true⟩
def RMX_STAT_SEQ : Field := ⟨0x15000c, 24, 8, false⟩
def RMX_STAT_SKIP : Field := ⟨0x15000c, 0, 1, false⟩
def RMX_STAT_CLIP : Field := ⟨0x15000c, 1, 1, false⟩
def RMX_GOOD_CNT : Field := ⟨0x150010, 0, 32, false⟩
def RMX_SKIP_NO_RAMAN_CNT : Field := ⟨0x150014, 0, 32, false⟩
def RMX_SKIP_DARK_CNT : Field := ⟨0x150018, 0, 32, false⟩
def RMX_SKIP_APD_CNT : Field := ⟨0x15001c, 0, 32, false⟩
def RMX_SKIP_CLIP_CNT : Field := ⟨0x150020, 0, 32, false⟩
def RMX_SKIP_OVERLAP_CNT : Field := ⟨0x150024, 0, 32, false⟩
def RMX_CLIP_CNT (k : Nat) : Field := ⟨0x150028 + 4 * k, 0, 32, false⟩
/-! ### DTS: R213 (07) -/
def DTS_CTL_EN : Field := ⟨0x240000, 0, 1, true⟩
def DTS_CTL_ACC_LOG2 : Field := ⟨0x240000, 8, 5, true⟩
def DTS_GAMMA : Field := ⟨0x240004, 0, 32, true⟩
def DTS_C0 : Field := ⟨0x240008, 0, 32, true⟩
def DTS_DALPHA : Field := ⟨0x24000c, 0, 32, true⟩
def DTS_MIN_SIG : Field := ⟨0x240010, 0, 16, true⟩
def DTS_COIL_FIRST (k : Nat) : Field := ⟨0x240020 + 8 * k, 0, 16, true⟩
def DTS_COIL_LAST (k : Nat) : Field := ⟨0x240020 + 8 * k, 16, 16, true⟩
def DTS_COIL_REF (k : Nat) : Field := ⟨0x240024 + 8 * k, 0, 4, true⟩
def DTS_COIL_EN (k : Nat) : Field := ⟨0x240024 + 8 * k, 8, 1, true⟩
def DTS_DRONE_MODE : Field := ⟨0x240030, 0, 2, true⟩
def DTS_DRONE_SHIFT : Field := ⟨0x240030, 4, 4, true⟩
def DTS_DRONE_MIN_DT : Field := ⟨0x240030, 8, 16, true⟩
def DTS_DRONE_LIM_SPAN : Field := ⟨0x240034, 0, 24, true⟩
def DTS_RISE_SPAN : Field := ⟨0x240038, 0, 4, true⟩
def DTS_STAT_SEQ : Field := ⟨0x240040, 24, 8, false⟩
def DTS_STAT_PROFILE : Field := ⟨0x240040, 0, 1, false⟩
def DTS_STAT_INVALID : Field := ⟨0x240040, 1, 1, false⟩
def DTS_STAT_DRONE_HELD : Field := ⟨0x240040, 2, 1, false⟩
def DTS_STAT_DRONE_LIMIT : Field := ⟨0x240040, 3, 1, false⟩
def DTS_STAT_DRONE_SLOPE_SKIP : Field := ⟨0x240040, 4, 1, false⟩
def DTS_DRONE_NOW_C0 : Field := ⟨0x240044, 0, 32, false⟩
def DTS_DRONE_NOW_GAMMA : Field := ⟨0x240048, 0, 32, false⟩
def DTS_PROF_SEQ : Field := ⟨0x240050, 0, 32, false⟩
def DTS_PROF_M : Field := ⟨0x240054, 0, 21, false⟩
def DTS_PROF_FLAGS : Field := ⟨0x240054, 24, 8, false⟩
def DTS_PROF_BLOCK : Field := ⟨0x240058, 0, 48, false⟩
def DTS_HOT_TEMP : Field := ⟨0x240060, 0, 16, false⟩
def DTS_HOT_POS : Field := ⟨0x240060, 16, 16, false⟩
def DTS_COIL_T0 : Field := ⟨0x240064, 0, 16, false⟩
def DTS_COIL_T1 : Field := ⟨0x240064, 16, 16, false⟩
def DTS_PROF_CNT : Field := ⟨0x240070, 0, 32, false⟩
def DTS_INV_PROF_CNT : Field := ⟨0x240074, 0, 32, false⟩
def DTS_HOLD_CNT : Field := ⟨0x240078, 0, 32, false⟩
def DTS_LIMIT_CNT : Field := ⟨0x24007c, 0, 32, false⟩
def DTS_PROBE_POS : Field := ⟨0x240100, 0, 16, false⟩
def DTS_PROBE_AS : Field := ⟨0x240104, 0, 40, false⟩
def DTS_PROBE_ST : Field := ⟨0x24010c, 0, 40, false⟩
def DTS_PROBE_TEMP : Field := ⟨0x240114, 0, 16, false⟩
/-! ### AAR: R247 (08) -/
def AAR_TAP_LOG2L (k : Nat) : Field := ⟨0x250000 + 4 * k, 0, 4, true⟩
def AAR_TAP_HALF (k : Nat) : Field := ⟨0x250000 + 4 * k, 4, 1, true⟩
def AAR_STAT_SEQ : Field := ⟨0x250008, 24, 8, false⟩
def AAR_STAT_OVERRUN : Field := ⟨0x250008, 0, 1, false⟩
def AAR_STAT_CLAMP : Field := ⟨0x250008, 1, 1, false⟩
def AAR_STAT_FZONE : Field := ⟨0x250008, 2, 1, false⟩
def AAR_STAT_SAT : Field := ⟨0x250008, 3, 1, false⟩
def AAR_STAT_ECC : Field := ⟨0x250008, 4, 1, false⟩
def AAR_STAT_ALIAS : Field := ⟨0x250008, 5, 1, false⟩
def AAR_LOAD_PERMILLE : Field := ⟨0x25000c, 0, 10, false⟩
def AAR_LOAD_CORE : Field := ⟨0x25000c, 16, 5, false⟩
def AAR_ECC_CNT_COUNT : Field := ⟨0x250010, 0, 32, false⟩
def AAR_C_CTL_EN (k : Nat) : Field := ⟨0x250400 + 64 * k, 0, 1, true⟩
def AAR_C_CTL_SRC (k : Nat) : Field := ⟨0x250400 + 64 * k, 1, 2, true⟩
def AAR_C_CTL_TG (k : Nat) : Field := ⟨0x250400 + 64 * k, 8, 7, true⟩
def AAR_C_PATCH_FIRST (k : Nat) : Field := ⟨0x250404 + 64 * k, 0, 11, true⟩
def AAR_C_PATCH_LAST (k : Nat) : Field := ⟨0x250404 + 64 * k, 16, 11, true⟩
def AAR_C_ZONES_FIRST (k : Nat) : Field := ⟨0x250408 + 64 * k, 0, 8, true⟩
def AAR_C_ZONES_LAST (k : Nat) : Field := ⟨0x250408 + 64 * k, 8, 8, true⟩
def AAR_C_ZONES_FMASK (k : Nat) : Field := ⟨0x250408 + 64 * k, 16, 8, true⟩
def AAR_C_ENTRY_INIT (k : Nat) : Field := ⟨0x25040c + 64 * k, 0, 12, true⟩
def AAR_C_ENTRY_TILE (k : Nat) : Field := ⟨0x25040c + 64 * k, 16, 12, true⟩
def AAR_C_ENTRY2_FEND (k : Nat) : Field := ⟨0x250410 + 64 * k, 0, 12, true⟩
def AAR_C_BUF_BUF0 (k : Nat) : Field := ⟨0x250414 + 64 * k, 0, 12, true⟩
def AAR_C_BUF_BUF1 (k : Nat) : Field := ⟨0x250414 + 64 * k, 16, 12, true⟩
def AAR_C_HDR_HDR (k : Nat) : Field := ⟨0x250418 + 64 * k, 0, 12, true⟩
def AAR_C_CONST_BASE (k j : Nat) : Field := ⟨0x250420 + 64 * k + 4 * j, 0, 12, true⟩
def AAR_C_CONST_LEN (k j : Nat) : Field := ⟨0x250420 + 64 * k + 4 * j, 16, 13, true⟩
def AAR_C_STATE_STATE (k : Nat) : Field := ⟨0x250430 + 64 * k, 0, 2, false⟩
def AAR_C_STATE_RUN (k : Nat) : Field := ⟨0x250430 + 64 * k, 2, 2, false⟩
def AAR_C_STATE_PC (k : Nat) : Field := ⟨0x250430 + 64 * k, 16, 12, false⟩
def AAR_C_FRAME_K (k : Nat) : Field := ⟨0x250434 + 64 * k, 0, 32, false⟩
def AAR_C_BUDGET_B (k : Nat) : Field := ⟨0x250438 + 64 * k, 0, 32, false⟩
def AAR_C_FRAME_CNT (k : Nat) : Field := ⟨0x250c00 + 32 * k, 0, 32, false⟩
def AAR_C_OVR_CNT (k : Nat) : Field := ⟨0x250c04 + 32 * k, 0, 32, false⟩
def AAR_C_CYC_LAST (k : Nat) : Field := ⟨0x250c08 + 32 * k, 0, 32, false⟩
def AAR_C_CYC_MAX (k : Nat) : Field := ⟨0x250c0c + 32 * k, 0, 32, false⟩
def AAR_C_DROP_CNT (k : Nat) : Field := ⟨0x250c10 + 32 * k, 0, 32, false⟩
def AAR_C_CLAMP_CNT (k : Nat) : Field := ⟨0x250c14 + 32 * k, 0, 32, false⟩
def AAR_C_SAT_CNT (k : Nat) : Field := ⟨0x250c18 + 32 * k, 0, 32, false⟩
def AAR_C_INV_CNT (k : Nat) : Field := ⟨0x250c1c + 32 * k, 0, 32, false⟩
/-! ### ZON: R283 (09) -/
def ZON_CTL_EN : Field := ⟨0x260000, 0, 1, true⟩
def ZON_STAT_SEQ : Field := ⟨0x260004, 24, 8, false⟩
def ZON_STAT_EVENT : Field := ⟨0x260004, 0, 1, false⟩
def ZON_STAT_EVT_DROP : Field := ⟨0x260004, 1, 1, false⟩
def ZON_STAT_FEAT_OVW : Field := ⟨0x260004, 2, 1, false⟩
def ZON_STAT_CAP_REFUSED : Field := ⟨0x260004, 3, 1, false⟩
def ZON_STAT_ARM_FOREIGN : Field := ⟨0x260004, 4, 1, false⟩
def ZON_STAT_ARM_IGN : Field := ⟨0x260004, 5, 1, false⟩
def ZON_STAT_FIRE_SUPP : Field := ⟨0x260004, 6, 1, false⟩
def ZON_STAT_FIRE_EDGE : Field := ⟨0x260004, 7, 1, false⟩
def ZON_EVT_CNT : Field := ⟨0x260040, 0, 32, false⟩
def ZON_EVT_DROP_CNT : Field := ⟨0x260044, 0, 32, false⟩
def ZON_CAP_REQ_CNT : Field := ⟨0x260048, 0, 32, false⟩
def ZON_MERGE_CNT : Field := ⟨0x26004c, 0, 32, false⟩
def ZON_HOLDOFF_CNT : Field := ⟨0x260050, 0, 32, false⟩
def ZON_REFUSED_CNT : Field := ⟨0x260054, 0, 32, false⟩
def ZON_FEAT_OVW_CNT : Field := ⟨0x260058, 0, 32, false⟩
def ZON_FIRE_SUPP_CNT : Field := ⟨0x26005c, 0, 32, false⟩
def ZON_ARM_IGN_CNT : Field := ⟨0x260060, 0, 32, false⟩
def ZON_FIRE_EDGE_CNT : Field := ⟨0x260064, 0, 32, false⟩
def ZON_FIRE_REJ_CNT : Field := ⟨0x260068, 0, 32, false⟩
def ZON_ARM_FOREIGN_CNT : Field := ⟨0x26006c, 0, 32, false⟩
def ZON_CAPP_PRE (k : Nat) : Field := ⟨0x260100 + 8 * k, 0, 16, true⟩
def ZON_CAPP_POST (k : Nat) : Field := ⟨0x260100 + 8 * k, 16, 16, true⟩
def ZON_CAPP_MARGIN (k : Nat) : Field := ⟨0x260104 + 8 * k, 0, 12, true⟩
def ZON_CAPP_MODE (k : Nat) : Field := ⟨0x260104 + 8 * k, 12, 1, true⟩
def ZON_CAPP_HOLDOFF (k : Nat) : Field := ⟨0x260104 + 8 * k, 13, 19, true⟩
def ZON_MU_ROLE : Field := ⟨0x260200, 0, 2, true⟩
def ZON_MU_AUTO_DISARM : Field := ⟨0x260200, 4, 1, true⟩
def ZON_MU_BUSCAP : Field := ⟨0x260200, 5, 1, true⟩
def ZON_MU_CAPP : Field := ⟨0x260200, 8, 3, true⟩
def ZON_MU_FIRE_W : Field := ⟨0x260200, 16, 8, true⟩
def ZON_MU_SPAN_FIRST : Field := ⟨0x260204, 0, 16, true⟩
def ZON_MU_SPAN_LAST : Field := ⟨0x260204, 16, 16, true⟩
def ZON_MU_HOLD_US : Field := ⟨0x260208, 0, 20, true⟩
def ZON_MU_SKEW_SKEW : Field := ⟨0x26020c, 0, 16, false⟩
def ZON_MU_CMD_ARM_ON : Field := ⟨0x260210, 0, 1, false⟩
def ZON_MU_CMD_ARM_OFF : Field := ⟨0x260210, 1, 1, false⟩
def ZON_MU_CMD_CAL_FIRE : Field := ⟨0x260210, 2, 1, false⟩
def ZON_MU_CMD_FIRE : Field := ⟨0x260210, 3, 1, false⟩
def ZON_MU_STATE_ARM_PIN : Field := ⟨0x260214, 0, 1, false⟩
def ZON_MU_STATE_FIRE_PIN : Field := ⟨0x260214, 1, 1, false⟩
def ZON_MU_STATE_ARM_DRIVEN : Field := ⟨0x260214, 2, 1, false⟩
def ZON_MU_STATE_FIRE_DRIVEN : Field := ⟨0x260214, 3, 1, false⟩
def ZON_MU_STATE_FIRE_STUCK : Field := ⟨0x260214, 4, 1, false⟩
def ZON_MU_FIRE_SWEEP : Field := ⟨0x260220, 0, 48, false⟩
def ZON_MU_FIRE_ST : Field := ⟨0x260228, 0, 32, false⟩
def ZON_MU_FIRE_RAW : Field := ⟨0x26022c, 0, 32, false⟩
def ZON_MU_FIRE_TIME : Field := ⟨0x260230, 0, 64, false⟩
def ZON_PROBE_ZONE : Field := ⟨0x260300, 0, 8, false⟩
def ZON_PROBE_SRC : Field := ⟨0x260300, 8, 4, false⟩
def ZON_PROBE_VALUE : Field := ⟨0x260304, 0, 32, false⟩
def ZON_PROBE_VALID : Field := ⟨0x260308, 0, 1, false⟩
def ZON_PROBE_OVERRUN : Field := ⟨0x260308, 1, 1, false⟩
def ZON_PROBE_FRESH : Field := ⟨0x260308, 2, 1, false⟩
def ZON_PROBE_FRAME : Field := ⟨0x260308, 16, 16, false⟩
def ZON_U_C0 (k : Nat) : Field := ⟨0x261000 + 16 * k, 0, 16, false⟩
def ZON_U_C1 (k : Nat) : Field := ⟨0x261000 + 16 * k, 16, 16, false⟩
def ZON_U_C2 (k : Nat) : Field := ⟨0x261004 + 16 * k, 0, 16, false⟩
def ZON_U_C3 (k : Nat) : Field := ⟨0x261004 + 16 * k, 16, 16, false⟩
def ZON_U_STATE (k : Nat) : Field := ⟨0x261008 + 16 * k, 0, 4, false⟩
def ZON_U_ZSEQ (k : Nat) : Field := ⟨0x261008 + 16 * k, 16, 16, false⟩
def ZON_U_TSTATE (k : Nat) : Field := ⟨0x26100c + 16 * k, 0, 8, false⟩
/-! ### GDA: R311 (10) -/
def GDA_CTL_CONFIRM : Field := ⟨0x170000, 0, 4, true⟩
def GDA_CTL_TX_CONFIRM : Field := ⟨0x170000, 8, 4, true⟩
def GDA_CTL_LOW_EN : Field := ⟨0x170000, 16, 1, true⟩
def GDA_TX_TX_MAX : Field := ⟨0x170004, 0, 10, true⟩
def GDA_TX_TX_DARK : Field := ⟨0x170004, 16, 10, true⟩
def GDA_PVALID_VALID : Field := ⟨0x170008, 0, 16, true⟩
def GDA_STATE_STATE : Field := ⟨0x170010, 0, 2, false⟩
def GDA_STATE_PEER : Field := ⟨0x170010, 2, 1, false⟩
def GDA_STATE_ST_OK : Field := ⟨0x170010, 3, 1, false⟩
def GDA_STATE_CAUSE : Field := ⟨0x170010, 8, 8, false⟩
def GDA_STAT_SEQ : Field := ⟨0x170014, 24, 8, false⟩
def GDA_STAT_TRIP : Field := ⟨0x170014, 0, 1, false⟩
def GDA_STAT_ARMED : Field := ⟨0x170014, 1, 1, false⟩
def GDA_STAT_RESTART_FAIL : Field := ⟨0x170014, 2, 1, false⟩
def GDA_STAT_LEARN_DONE : Field := ⟨0x170014, 3, 1, false⟩
def GDA_STAT_LEARN_CANCEL : Field := ⟨0x170014, 4, 1, false⟩
def GDA_STAT_SELFTEST_DONE : Field := ⟨0x170014, 5, 1, false⟩
def GDA_STAT_CMD_REFUSED : Field := ⟨0x170014, 6, 1, false⟩
def GDA_CMD_TRIP : Field := ⟨0x170018, 0, 1, false⟩
def GDA_CMD_SELFTEST : Field := ⟨0x170018, 1, 1, false⟩
def GDA_CMD_LEARN : Field := ⟨0x170018, 2, 1, false⟩
def GDA_CMD_LEARN_ABORT : Field := ⟨0x170018, 3, 1, false⟩
def GDA_LEARN_PAT : Field := ⟨0x17001c, 0, 4, false⟩
def GDA_LEARN_LOG2S : Field := ⟨0x17001c, 8, 4, false⟩
def GDA_LEARN_MLO : Field := ⟨0x17001c, 16, 8, false⟩
def GDA_LEARN_MHI : Field := ⟨0x17001c, 24, 8, false⟩
def GDA_RST_SLOT : Field := ⟨0x170020, 0, 3, false⟩
def GDA_RST_SHAPE : Field := ⟨0x170020, 4, 4, false⟩
def GDA_RST_SCALE : Field := ⟨0x170020, 8, 8, false⟩
def GDA_RST_COUNT : Field := ⟨0x170020, 16, 4, false⟩
def GDA_RST_SPACE : Field := ⟨0x170020, 24, 8, false⟩
def GDA_RST_SETTLE : Field := ⟨0x170024, 0, 8, false⟩
def GDA_MON_PC : Field := ⟨0x170028, 0, 13, false⟩
def GDA_MON_TX : Field := ⟨0x170028, 16, 10, false⟩
def GDA_TRIP_CNT : Field := ⟨0x170040, 0, 32, false⟩
def GDA_LOW_CNT : Field := ⟨0x170044, 0, 32, false⟩
def GDA_HIGH_CNT : Field := ⟨0x170048, 0, 32, false⟩
def GDA_TX_CNT : Field := ⟨0x17004c, 0, 32, false⟩
def GDA_RFAIL_CNT : Field := ⟨0x170050, 0, 32, false⟩
/-! ### GDB: R311 (10) -/
def GDB_CTL_CONFIRM : Field := ⟨0x570000, 0, 5, true⟩
def GDB_PVALID_VALID : Field := ⟨0x570004, 0, 16, true⟩
def GDB_STATE_STATE : Field := ⟨0x570010, 0, 2, false⟩
def GDB_STATE_PEER : Field := ⟨0x570010, 2, 1, false⟩
def GDB_STATE_ST_OK : Field := ⟨0x570010, 3, 1, false⟩
def GDB_STATE_INTLK : Field := ⟨0x570010, 4, 1, false⟩
def GDB_STATE_CLKSRC : Field := ⟨0x570010, 5, 1, false⟩
def GDB_STATE_CAUSE : Field := ⟨0x570010, 8, 8, false⟩
def GDB_STAT_SEQ : Field := ⟨0x570014, 24, 8, false⟩
def GDB_STAT_TRIP : Field := ⟨0x570014, 0, 1, false⟩
def GDB_STAT_ARMED : Field := ⟨0x570014, 1, 1, false⟩
def GDB_STAT_RESTART_FAIL : Field := ⟨0x570014, 2, 1, false⟩
def GDB_STAT_LEARN_DONE : Field := ⟨0x570014, 3, 1, false⟩
def GDB_STAT_LEARN_CANCEL : Field := ⟨0x570014, 4, 1, false⟩
def GDB_STAT_SELFTEST_DONE : Field := ⟨0x570014, 5, 1, false⟩
def GDB_STAT_CMD_REFUSED : Field := ⟨0x570014, 6, 1, false⟩
def GDB_STAT_APD_FAULT : Field := ⟨0x570014, 7, 1, false⟩
def GDB_CMD_TRIP : Field := ⟨0x570018, 0, 1, false⟩
def GDB_CMD_RESTART : Field := ⟨0x570018, 1, 1, false⟩
def GDB_CMD_SELFTEST : Field := ⟨0x570018, 2, 1, false⟩
def GDB_CMD_LEARN : Field := ⟨0x570018, 3, 1, false⟩
def GDB_CMD_LEARN_ABORT : Field := ⟨0x570018, 4, 1, false⟩
def GDB_LEARN_PAT : Field := ⟨0x57001c, 0, 4, false⟩
def GDB_LEARN_LOG2S : Field := ⟨0x57001c, 8, 4, false⟩
def GDB_LEARN_MLO : Field := ⟨0x57001c, 16, 8, false⟩
def GDB_LEARN_MHI : Field := ⟨0x57001c, 24, 8, false⟩
def GDB_RST_AUTO : Field := ⟨0x570020, 0, 1, false⟩
def GDB_RST_INTERVAL : Field := ⟨0x570020, 16, 16, false⟩
def GDB_MON_RX : Field := ⟨0x570024, 0, 10, false⟩
def GDB_TRIP_CNT : Field := ⟨0x570040, 0, 32, false⟩
def GDB_RX_CNT : Field := ⟨0x570044, 0, 32, false⟩
def GDB_INTLK_CNT : Field := ⟨0x570048, 0, 32, false⟩
def GDB_STAGE_CNT : Field := ⟨0x57004c, 0, 32, false⟩
def GDB_APD_CNT : Field := ⟨0x570050, 0, 32, false⟩
def GDB_ATTEMPT_CNT : Field := ⟨0x570054, 0, 32, false⟩
def GDB_RFAIL_CNT : Field := ⟨0x570058, 0, 32, false⟩
/-! ### RNG: R343 (11) -/
def RNG_CTL_SIZE : Field := ⟨0x310000, 0, 16, true⟩
def RNG_CTL_FORCE_RING : Field := ⟨0x310000, 16, 1, true⟩
def RNG_STAT_SEQ : Field := ⟨0x310004, 24, 8, false⟩
def RNG_STAT_CAP_DONE : Field := ⟨0x310004, 0, 1, false⟩
def RNG_STAT_REFUSED : Field := ⟨0x310004, 1, 1, false⟩
def RNG_STAT_TRUNCATED : Field := ⟨0x310004, 2, 1, false⟩
def RNG_STAT_OVERWRITTEN : Field := ⟨0x310004, 3, 1, false⟩
def RNG_STAT_ECC : Field := ⟨0x310004, 4, 1, false⟩
def RNG_STAT_FORMAT : Field := ⟨0x310004, 5, 1, false⟩
def RNG_STAT_EXPIRED : Field := ⟨0x310004, 6, 1, false⟩
def RNG_LPR : Field := ⟨0x310008, 0, 12, false⟩
def RNG_NS : Field := ⟨0x31000c, 0, 32, false⟩
def RNG_WROW : Field := ⟨0x310010, 0, 48, false⟩
def RNG_RETAINED : Field := ⟨0x310018, 0, 32, false⟩
def RNG_GUARD_ROWS : Field := ⟨0x31001c, 0, 32, false⟩
def RNG_AVAIL : Field := ⟨0x310020, 0, 16, false⟩
def RNG_REFUSE_CODE : Field := ⟨0x310024, 0, 4, false⟩
def RNG_CAP_CNT : Field := ⟨0x310040, 0, 32, false⟩
def RNG_REFUSE_CNT : Field := ⟨0x310044, 0, 32, false⟩
def RNG_TRUNC_CNT : Field := ⟨0x310048, 0, 32, false⟩
def RNG_OVW_CNT : Field := ⟨0x31004c, 0, 32, false⟩
def RNG_ECC_CNT : Field := ⟨0x310050, 0, 32, false⟩
def RNG_EXPIRE_CNT : Field := ⟨0x310054, 0, 32, false⟩
def RNG_ABORT_CNT : Field := ⟨0x310058, 0, 32, false⟩
def RNG_D_NUM (k : Nat) : Field := ⟨0x310400 + 64 * k, 0, 32, false⟩
def RNG_D_STATE (k : Nat) : Field := ⟨0x310404 + 64 * k, 0, 2, false⟩
def RNG_D_MODE (k : Nat) : Field := ⟨0x310404 + 64 * k, 2, 1, false⟩
def RNG_D_RESULT (k : Nat) : Field := ⟨0x310404 + 64 * k, 4, 3, false⟩
def RNG_D_SOURCE (k : Nat) : Field := ⟨0x310404 + 64 * k, 8, 2, false⟩
def RNG_D_ZONE (k : Nat) : Field := ⟨0x310404 + 64 * k, 16, 8, false⟩
def RNG_D_MAPN (k : Nat) : Field := ⟨0x310404 + 64 * k, 24, 4, false⟩
def RNG_D_FIRST (k : Nat) : Field := ⟨0x310408 + 64 * k, 0, 16, false⟩
def RNG_D_LAST (k : Nat) : Field := ⟨0x310408 + 64 * k, 16, 16, false⟩
def RNG_D_PRE_ROWS (k : Nat) : Field := ⟨0x31040c + 64 * k, 0, 32, false⟩
def RNG_D_POST_ROWS (k : Nat) : Field := ⟨0x310410 + 64 * k, 0, 32, false⟩
def RNG_D_T_ROW (k : Nat) : Field := ⟨0x310418 + 64 * k, 0, 48, false⟩
def RNG_D_NEXT_ROW (k : Nat) : Field := ⟨0x310420 + 64 * k, 0, 48, false⟩
def RNG_D_ROWS (k : Nat) : Field := ⟨0x310428 + 64 * k, 0, 32, false⟩
def RNG_D_OP (k : Nat) : Field := ⟨0x31043c + 64 * k, 0, 2, false⟩
def RNG_D_NUM24 (k : Nat) : Field := ⟨0x31043c + 64 * k, 8, 24, false⟩
def RNG_MAP_ENTRY (k j : Nat) : Field := ⟨0x312000 + 64 * k + 8 * j, 0, 64, false⟩
/-! ### CMP: R343 (11) -/
def CMP_CTL_VERIFY : Field := ⟨0x320000, 0, 1, false⟩
def CMP_CTL_FLUSH_US : Field := ⟨0x320000, 16, 16, false⟩
def CMP_STAT_SEQ : Field := ⟨0x320004, 24, 8, false⟩
def CMP_STAT_STORED : Field := ⟨0x320004, 0, 1, false⟩
def CMP_STAT_VERIFY_FAIL : Field := ⟨0x320004, 1, 1, false⟩
def CMP_STAT_NO_CONTEXT : Field := ⟨0x320004, 2, 1, false⟩
def CMP_BLK_CNT : Field := ⟨0x320040, 0, 32, false⟩
def CMP_STORED_CNT : Field := ⟨0x320044, 0, 32, false⟩
def CMP_VFAIL_CNT : Field := ⟨0x320048, 0, 32, false⟩
def CMP_IN_KIB : Field := ⟨0x32004c, 0, 32, false⟩
def CMP_OUT_KIB : Field := ⟨0x320050, 0, 32, false⟩
def CMP_CTX_USED : Field := ⟨0x320054, 0, 32, false⟩
def CMP_X_PRED (k : Nat) : Field := ⟨0x320400 + 16 * k, 0, 2, false⟩
def CMP_X_BUSY (k : Nat) : Field := ⟨0x320400 + 16 * k, 8, 1, false⟩
def CMP_X_STRIDE (k : Nat) : Field := ⟨0x320404 + 16 * k, 0, 17, false⟩
def CMP_X_SEQ (k : Nat) : Field := ⟨0x320408 + 16 * k, 0, 32, false⟩
/-! ### CVU: R343 (11) -/
def CVU_STAT_SEQ : Field := ⟨0x330000, 24, 8, false⟩
def CVU_STAT_MISMATCH : Field := ⟨0x330000, 0, 8, false⟩
def CVU_STAT_DONE : Field := ⟨0x330000, 8, 8, false⟩
def CVU_OWN_UNITS : Field := ⟨0x330004, 0, 8, false⟩
def CVU_U_POLY (k : Nat) : Field := ⟨0x330100 + 128 * k, 0, 1, false⟩
def CVU_U_FOLD (k : Nat) : Field := ⟨0x330100 + 128 * k, 1, 2, false⟩
def CVU_U_SRC (k : Nat) : Field := ⟨0x330100 + 128 * k, 3, 2, false⟩
def CVU_U_CMP_EN (k : Nat) : Field := ⟨0x330100 + 128 * k, 5, 1, false⟩
def CVU_U_IRQ_EN (k : Nat) : Field := ⟨0x330100 + 128 * k, 6, 1, false⟩
def CVU_U_CMD (k : Nat) : Field := ⟨0x330104 + 128 * k, 0, 3, false⟩
def CVU_U_STATE (k : Nat) : Field := ⟨0x330108 + 128 * k, 0, 2, false⟩
def CVU_U_MISMATCH (k : Nat) : Field := ⟨0x330108 + 128 * k, 2, 1, false⟩
def CVU_U_FEED (k : Nat) : Field := ⟨0x33010c + 128 * k, 0, 32, false⟩
def CVU_U_SEQ (k : Nat) : Field := ⟨0x330110 + 128 * k, 0, 64, false⟩
def CVU_U_BASE (k : Nat) : Field := ⟨0x330118 + 128 * k, 0, 64, false⟩
def CVU_U_LEN (k : Nat) : Field := ⟨0x330120 + 128 * k, 0, 32, false⟩
def CVU_U_RUN (k : Nat) : Field := ⟨0x330128 + 128 * k, 0, 64, false⟩
def CVU_U_COUNT (k : Nat) : Field := ⟨0x330130 + 128 * k, 0, 32, false⟩
def CVU_U_EXPECT (k : Nat) : Field := ⟨0x330138 + 128 * k, 0, 64, false⟩
def CVU_U_RESULT (k : Nat) : Field := ⟨0x330140 + 128 * k, 0, 64, false⟩
def CVU_U_MIS_CNT (k : Nat) : Field := ⟨0x330148 + 128 * k, 0, 32, false⟩
/-! ### DMC: R368 (12) -/
def DMC_CFG_GRADE : Field := ⟨0x300000, 0, 2, false⟩
def DMC_CFG_DENS : Field := ⟨0x300000, 2, 2, false⟩
def DMC_CFG_RANKS : Field := ⟨0x300000, 4, 1, false⟩
def DMC_STATE_SUB (k : Nat) : Field := ⟨0x300004, 4 * k, 3, false⟩
def DMC_STAT_SEQ : Field := ⟨0x300008, 24, 8, false⟩
def DMC_STAT_CE : Field := ⟨0x300008, 0, 1, false⟩
def DMC_STAT_UE : Field := ⟨0x300008, 1, 1, false⟩
def DMC_STAT_NREF : Field := ⟨0x300008, 2, 1, false⟩
def DMC_STAT_THROTTLE : Field := ⟨0x300008, 3, 1, false⟩
def DMC_STAT_RATE_UP : Field := ⟨0x300008, 4, 1, false⟩
def DMC_STAT_RATE_DOWN : Field := ⟨0x300008, 5, 1, false⟩
def DMC_STAT_COLD : Field := ⟨0x300008, 6, 1, false⟩
def DMC_STAT_PASR_LOST : Field := ⟨0x300008, 7, 1, false⟩
def DMC_STAT_TRAIN_DONE : Field := ⟨0x300008, 8, 1, false⟩
def DMC_CMD_TRAIN : Field := ⟨0x30000c, 0, 1, false⟩
def DMC_TEMP_CH : Field := ⟨0x300010, 0, 4, false⟩
def DMC_TEMP_EN : Field := ⟨0x300010, 4, 1, false⟩
def DMC_TEMP_TLIM1 : Field := ⟨0x300010, 8, 8, false⟩
def DMC_TEMP_TLIM2 : Field := ⟨0x300010, 16, 8, false⟩
def DMC_RATE_RATE (k : Nat) : Field := ⟨0x300014, 2 * k, 2, false⟩
def DMC_RATE_LAST_MR4 : Field := ⟨0x300014, 16, 3, false⟩
def DMC_SR_EN : Field := ⟨0x300018, 0, 1, false⟩
def DMC_SR_PD_EN : Field := ⟨0x300018, 1, 1, false⟩
def DMC_SR_IDLE_US : Field := ⟨0x300018, 16, 16, false⟩
def DMC_PASR_EN : Field := ⟨0x30001c, 0, 1, false⟩
def DMC_PASR_RING : Field := ⟨0x30001c, 1, 1, false⟩
def DMC_SCRUB_EN : Field := ⟨0x300020, 0, 1, false⟩
def DMC_SCRUB_HOURS : Field := ⟨0x300020, 8, 8, false⟩
def DMC_RH_TH : Field := ⟨0x300024, 0, 12, false⟩
def DMC_RH_NR_MAX : Field := ⟨0x300024, 12, 8, false⟩
def DMC_RH_THR_NS : Field := ⟨0x300024, 20, 12, false⟩
def DMC_RETRAIN_PERIOD_MS : Field := ⟨0x300028, 0, 16, false⟩
def DMC_RETRAIN_DRIFT_PS : Field := ⟨0x300028, 16, 8, false⟩
def DMC_TRAIN_RES (k : Nat) : Field := ⟨0x30002c, 4 * k, 4, false⟩
def DMC_UE_ADDR_ADDR : Field := ⟨0x300030, 0, 64, false⟩
def DMC_UE_REQ_ID : Field := ⟨0x300038, 0, 4, false⟩
def DMC_THROTTLED_IDS : Field := ⟨0x30003c, 0, 11, false⟩
def DMC_RD_CNT (k : Nat) : Field := ⟨0x300100 + 64 * k, 0, 32, false⟩
def DMC_WR_CNT (k : Nat) : Field := ⟨0x300104 + 64 * k, 0, 32, false⟩
def DMC_ACT_CNT (k : Nat) : Field := ⟨0x300108 + 64 * k, 0, 32, false⟩
def DMC_REF_CNT (k : Nat) : Field := ⟨0x30010c + 64 * k, 0, 32, false⟩
def DMC_CE_CNT (k : Nat) : Field := ⟨0x300110 + 64 * k, 0, 32, false⟩
def DMC_UE_CNT (k : Nat) : Field := ⟨0x300114 + 64 * k, 0, 32, false⟩
def DMC_NREF_CNT (k : Nat) : Field := ⟨0x300118 + 64 * k, 0, 32, false⟩
def DMC_THR_CNT (k : Nat) : Field := ⟨0x30011c + 64 * k, 0, 32, false⟩
def DMC_CATCHUP_CNT (k : Nat) : Field := ⟨0x300120 + 64 * k, 0, 32, false⟩
def DMC_MAX_STALL_NS (k : Nat) : Field := ⟨0x300124 + 64 * k, 0, 32, false⟩
def DMC_SR_CNT (k : Nat) : Field := ⟨0x300128 + 64 * k, 0, 32, false⟩
def DMC_SR_CANCEL_CNT (k : Nat) : Field := ⟨0x30012c + 64 * k, 0, 32, false⟩
/-! ### REF: R398 (13) -/
def REF_CTL_EN : Field := ⟨0x520000, 0, 1, true⟩
def REF_STAT_SEQ : Field := ⟨0x520004, 24, 8, false⟩
def REF_STAT_OPEN : Field := ⟨0x520004, 0, 1, false⟩
def REF_STAT_RECONNECT : Field := ⟨0x520004, 1, 1, false⟩
def REF_STAT_OVER : Field := ⟨0x520004, 2, 1, false⟩
def REF_STAT_RANGE_STEP : Field := ⟨0x520004, 3, 1, false⟩
def REF_STAT_WINDOW : Field := ⟨0x520004, 4, 1, false⟩
def REF_STAT_SWITCH : Field := ⟨0x520004, 5, 1, false⟩
def REF_STAT_CAL_DONE : Field := ⟨0x520004, 6, 1, false⟩
def REF_STAT_INJ_DONE : Field := ⟨0x520004, 7, 1, false⟩
def REF_STAT_INJ_MISS : Field := ⟨0x520004, 8, 1, false⟩
def REF_STAT_INJ_DELAYED : Field := ⟨0x520004, 9, 1, false⟩
def REF_SEQ_CTL_LEN : Field := ⟨0x520008, 0, 5, true⟩
def REF_SEQ_CTL_PERIOD_US : Field := ⟨0x520008, 8, 24, true⟩
def REF_INJ_CTL_LEN : Field := ⟨0x52000c, 0, 3, true⟩
def REF_INJ_CTL_TRIG : Field := ⟨0x52000c, 4, 3, true⟩
def REF_INJ_CTL_DIV : Field := ⟨0x52000c, 16, 16, true⟩
def REF_PAIR_PAIR : Field := ⟨0x520010, 0, 6, true⟩
def REF_CMD_CAL : Field := ⟨0x520014, 0, 1, false⟩
def REF_CMD_INJ : Field := ⟨0x520014, 1, 1, false⟩
def REF_CAL_CTL_PERIOD_S : Field := ⟨0x520018, 0, 16, false⟩
def REF_STATE_ACT : Field := ⟨0x52001c, 0, 2, false⟩
def REF_STATE_ENTRY : Field := ⟨0x52001c, 4, 4, false⟩
def REF_STATE_RESTARTS : Field := ⟨0x52001c, 8, 4, false⟩
def REF_STATE_INJ_PENDING : Field := ⟨0x52001c, 12, 1, false⟩
def REF_OPEN_OPEN : Field := ⟨0x520020, 0, 12, false⟩
def REF_WIN_ABOVE : Field := ⟨0x520024, 0, 16, false⟩
def REF_WIN_BELOW : Field := ⟨0x520024, 16, 16, false⟩
def REF_SW_STATE_ON : Field := ⟨0x520028, 0, 8, false⟩
def REF_SW_STATE_FAULT : Field := ⟨0x520028, 8, 8, false⟩
def REF_SEQ_CH (k : Nat) : Field := ⟨0x520040 + 4 * k, 0, 4, true⟩
def REF_INJ_CH (k : Nat) : Field := ⟨0x520080 + 4 * k, 0, 4, true⟩
def REF_SEQ_PRESET (k : Nat) : Field := ⟨0x520040 + 4 * k, 4, 2, true⟩
def REF_INJ_PRESET (k : Nat) : Field := ⟨0x520080 + 4 * k, 4, 2, true⟩
def REF_SEQ_EN (k : Nat) : Field := ⟨0x520040 + 4 * k, 7, 1, true⟩
def REF_INJ_EN (k : Nat) : Field := ⟨0x520080 + 4 * k, 7, 1, true⟩
def REF_CAL_CNT : Field := ⟨0x520090, 0, 32, false⟩
def REF_CAL_RESTART_CNT : Field := ⟨0x520094, 0, 32, false⟩
def REF_INJ_CNT : Field := ⟨0x520098, 0, 32, false⟩
def REF_INJ_MISS_CNT : Field := ⟨0x52009c, 0, 32, false⟩
def REF_INJ_DELAY_CNT : Field := ⟨0x5200a0, 0, 32, false⟩
def REF_SKIP_CNT : Field := ⟨0x5200a4, 0, 32, false⟩
def REF_C_CURVE (k : Nat) : Field := ⟨0x520100 + 64 * k, 0, 4, true⟩
def REF_C_EXC (k : Nat) : Field := ⟨0x520100 + 64 * k, 4, 4, true⟩
def REF_C_GAIN (k : Nat) : Field := ⟨0x520100 + 64 * k, 8, 3, true⟩
def REF_C_AUTO (k : Nat) : Field := ⟨0x520100 + 64 * k, 11, 1, true⟩
def REF_C_MED (k : Nat) : Field := ⟨0x520100 + 64 * k, 12, 2, true⟩
def REF_C_BURNOUT (k : Nat) : Field := ⟨0x520100 + 64 * k, 14, 1, true⟩
def REF_C_CJ (k : Nat) : Field := ⟨0x520100 + 64 * k, 16, 4, true⟩
def REF_C_PARAM0 (k : Nat) : Field := ⟨0x520104 + 64 * k, 0, 32, true⟩
def REF_C_PARAM1 (k : Nat) : Field := ⟨0x520108 + 64 * k, 0, 32, true⟩
def REF_C_WLO (k : Nat) : Field := ⟨0x52010c + 64 * k, 0, 32, true⟩
def REF_C_WHI (k : Nat) : Field := ⟨0x520110 + 64 * k, 0, 32, true⟩
def REF_C_RAW (k : Nat) : Field := ⟨0x520114 + 64 * k, 0, 24, false⟩
def REF_C_G (k : Nat) : Field := ⟨0x520114 + 64 * k, 24, 3, false⟩
def REF_C_LIN (k : Nat) : Field := ⟨0x520118 + 64 * k, 0, 32, false⟩
def REF_C_REASON (k : Nat) : Field := ⟨0x52011c + 64 * k, 0, 3, false⟩
def REF_C_INJ (k : Nat) : Field := ⟨0x52011c + 64 * k, 3, 1, false⟩
def REF_C_GOOD (k : Nat) : Field := ⟨0x52011c + 64 * k, 4, 3, false⟩
def REF_C_RSEQ (k : Nat) : Field := ⟨0x52011c + 64 * k, 16, 16, false⟩
def REF_C_TIME (k : Nat) : Field := ⟨0x520120 + 64 * k, 0, 64, false⟩
def REF_C_CONV_CNT (k : Nat) : Field := ⟨0x520128 + 64 * k, 0, 32, false⟩
def REF_C_OPEN_CNT (k : Nat) : Field := ⟨0x52012c + 64 * k, 0, 32, false⟩
def REF_C_OVER_CNT (k : Nat) : Field := ⟨0x520130 + 64 * k, 0, 32, false⟩
def REF_C_RANGE_CNT (k : Nat) : Field := ⟨0x520134 + 64 * k, 0, 32, false⟩
def REF_SW_CH (k : Nat) : Field := ⟨0x520600 + 16 * k, 0, 4, true⟩
def REF_SW_POL (k : Nat) : Field := ⟨0x520600 + 16 * k, 4, 1, true⟩
def REF_SW_FSTATE (k : Nat) : Field := ⟨0x520600 + 16 * k, 5, 2, true⟩
def REF_SW_EN (k : Nat) : Field := ⟨0x520600 + 16 * k, 7, 1, true⟩
def REF_SW_THR (k : Nat) : Field := ⟨0x520604 + 16 * k, 0, 32, true⟩
def REF_SW_HYST (k : Nat) : Field := ⟨0x520608 + 16 * k, 0, 32, true⟩
def REF_OFF (k : Nat) : Field := ⟨0x520800 + 4 * k, 0, 24, false⟩
def REF_GAIN (k : Nat) : Field := ⟨0x520820 + 4 * k, 0, 24, false⟩
def REF_IEXC (k : Nat) : Field := ⟨0x520840 + 4 * k, 0, 32, false⟩
/-! ### TIU: R398 (13) -/
def TIU_STAT_SEQ : Field := ⟨0x530000, 24, 8, false⟩
def TIU_STAT_DONE : Field := ⟨0x530000, 0, 4, false⟩
def TIU_STAT_OVF : Field := ⟨0x530000, 4, 4, false⟩
def TIU_STAT_SUBRES : Field := ⟨0x530000, 8, 4, false⟩
def TIU_STAT_EARLY : Field := ⟨0x530000, 12, 4, false⟩
def TIU_STAT_STALE : Field := ⟨0x530000, 16, 4, false⟩
def TIU_IN_HYST (k : Nat) : Field := ⟨0x530010 + 4 * k, 0, 3, true⟩
def TIU_IN_HOLDOFF (k : Nat) : Field := ⟨0x530010 + 4 * k, 16, 16, true⟩
def TIU_U_EN (k : Nat) : Field := ⟨0x530100 + 64 * k, 0, 1, true⟩
def TIU_U_MODE (k : Nat) : Field := ⟨0x530100 + 64 * k, 1, 1, true⟩
def TIU_U_START (k : Nat) : Field := ⟨0x530100 + 64 * k, 2, 3, true⟩
def TIU_U_STOP (k : Nat) : Field := ⟨0x530100 + 64 * k, 5, 3, true⟩
def TIU_U_CONT (k : Nat) : Field := ⟨0x530100 + 64 * k, 8, 1, true⟩
def TIU_U_NAVG (k : Nat) : Field := ⟨0x530100 + 64 * k, 16, 8, true⟩
def TIU_U_TIMEOUT (k : Nat) : Field := ⟨0x530104 + 64 * k, 0, 16, true⟩
def TIU_U_ARM (k : Nat) : Field := ⟨0x530108 + 64 * k, 0, 1, false⟩
def TIU_U_DISARM (k : Nat) : Field := ⟨0x530108 + 64 * k, 1, 1, false⟩
def TIU_U_STATE (k : Nat) : Field := ⟨0x53010c + 64 * k, 0, 2, false⟩
def TIU_U_RATE_VALID (k : Nat) : Field := ⟨0x53010c + 64 * k, 4, 1, false⟩
def TIU_U_RESULT (k : Nat) : Field := ⟨0x530110 + 64 * k, 0, 32, false⟩
def TIU_U_SUB_RES (k : Nat) : Field := ⟨0x530114 + 64 * k, 0, 1, false⟩
def TIU_U_OVF (k : Nat) : Field := ⟨0x530114 + 64 * k, 1, 1, false⟩
def TIU_U_RATE_SAT (k : Nat) : Field := ⟨0x530114 + 64 * k, 2, 1, false⟩
def TIU_U_RATE (k : Nat) : Field := ⟨0x530118 + 64 * k, 0, 32, false⟩
def TIU_U_START_TIME (k : Nat) : Field := ⟨0x530120 + 64 * k, 0, 64, false⟩
def TIU_U_STOP_TIME (k : Nat) : Field := ⟨0x530128 + 64 * k, 0, 64, false⟩
def TIU_U_MEAS_CNT (k : Nat) : Field := ⟨0x530130 + 64 * k, 0, 32, false⟩
def TIU_U_OVF_CNT (k : Nat) : Field := ⟨0x530134 + 64 * k, 0, 32, false⟩
def TIU_U_SUBRES_CNT (k : Nat) : Field := ⟨0x530138 + 64 * k, 0, 32, false⟩
def TIU_U_EARLY_CNT (k : Nat) : Field := ⟨0x53013c + 64 * k, 0, 32, false⟩
/-! ### LAN: R425 (14) -/
def LAN_CFG_C1_PEER : Field := ⟨0x400000, 0, 1, false⟩
def LAN_STAT_SEQ : Field := ⟨0x400004, 24, 8, false⟩
def LAN_STAT_LOSS : Field := ⟨0x400004, 0, 4, false⟩
def LAN_STAT_DEGRADE : Field := ⟨0x400004, 4, 1, false⟩
def LAN_STAT_RESTORE : Field := ⟨0x400004, 5, 1, false⟩
def LAN_STAT_PL_ACTIVE : Field := ⟨0x400004, 6, 1, false⟩
def LAN_STAT_PL_LEFT : Field := ⟨0x400004, 7, 1, false⟩
def LAN_STAT_CAPS_FAIL : Field := ⟨0x400004, 8, 1, false⟩
def LAN_STAT_RETRY_EXH : Field := ⟨0x400004, 9, 1, false⟩
def LAN_STAT_PEER_CHANGED : Field := ⟨0x400004, 10, 1, false⟩
def LAN_LANE_STATE (k : Nat) : Field := ⟨0x400010 + 4 * k, 0, 3, false⟩
def LAN_LANE_PRE_TX (k : Nat) : Field := ⟨0x400010 + 4 * k, 4, 1, false⟩
def LAN_LANE_PRE_RX (k : Nat) : Field := ⟨0x400010 + 4 * k, 5, 1, false⟩
def LAN_LANE_SIGNAL (k : Nat) : Field := ⟨0x400010 + 4 * k, 6, 1, false⟩
def LAN_TXEQ (k : Nat) : Field := ⟨0x400020 + 4 * k, 0, 32, false⟩
def LAN_PL_CTL_EN : Field := ⟨0x400040, 0, 1, false⟩
def LAN_PL_CTL_QUIET_EN : Field := ⟨0x400040, 1, 1, false⟩
def LAN_PL_CTL_PRECODE_REQ : Field := ⟨0x400040, 2, 1, false⟩
def LAN_PL_CTL_DORMANT_OK : Field := ⟨0x400040, 3, 1, false⟩
def LAN_PL_CTL_SLEEP : Field := ⟨0x400040, 4, 1, false⟩
def LAN_PL_CTL_WAKE : Field := ⟨0x400040, 5, 1, false⟩
def LAN_PL_CTL_QUIET_US : Field := ⟨0x400040, 8, 8, false⟩
def LAN_PL_STATE_STATE : Field := ⟨0x400044, 0, 3, false⟩
def LAN_PL_STATE_WIDTH : Field := ⟨0x400044, 4, 2, false⟩
def LAN_PL_STATE_TX_QUIET : Field := ⟨0x400044, 6, 1, false⟩
def LAN_PL_STATE_RX_QUIET : Field := ⟨0x400044, 7, 1, false⟩
def LAN_PL_STATE_UNACKED : Field := ⟨0x400044, 16, 10, false⟩
def LAN_PL_PEER_SERIAL : Field := ⟨0x400048, 0, 64, false⟩
def LAN_PL_PEER_CREDITS : Field := ⟨0x400050, 0, 16, false⟩
def LAN_TX_DATA_CNT : Field := ⟨0x400080, 0, 32, false⟩
def LAN_RX_DATA_CNT : Field := ⟨0x400084, 0, 32, false⟩
def LAN_NAK_CNT : Field := ⟨0x400088, 0, 32, false⟩
def LAN_REPLAY_CNT : Field := ⟨0x40008c, 0, 32, false⟩
def LAN_DEGRADE_CNT : Field := ⟨0x400090, 0, 32, false⟩
def LAN_RESTORE_CNT : Field := ⟨0x400094, 0, 32, false⟩
def LAN_RETRY_EXH_CNT : Field := ⟨0x400098, 0, 32, false⟩
def LAN_LOST_CNT : Field := ⟨0x40009c, 0, 32, false⟩
def LAN_CRC_CNT : Field := ⟨0x4000a0, 0, 32, false⟩
def LAN_LOCK_LOSS_CNT (k : Nat) : Field := ⟨0x400100 + 32 * k, 0, 32, false⟩
def LAN_CORR_CNT (k : Nat) : Field := ⟨0x400104 + 32 * k, 0, 32, false⟩
def LAN_UNCORR_CNT (k : Nat) : Field := ⟨0x400108 + 32 * k, 0, 32, false⟩
def LAN_TRAIN_CNT (k : Nat) : Field := ⟨0x40010c + 32 * k, 0, 32, false⟩
def LAN_TRAIN_FAIL_CNT (k : Nat) : Field := ⟨0x400110 + 32 * k, 0, 32, false⟩
/-! ### ETH: R425 (14) -/
def ETH_CFG_MODE (k : Nat) : Field := ⟨0x410000, 8 * k, 1, false⟩
def ETH_CFG_MEDIA (k : Nat) : Field := ⟨0x410000, 1 + 8 * k, 1, false⟩
def ETH_CFG_AN_EN (k : Nat) : Field := ⟨0x410000, 2 + 8 * k, 1, false⟩
def ETH_CFG_PRECODE (k : Nat) : Field := ⟨0x410000, 3 + 8 * k, 1, false⟩
def ETH_STAT_SEQ : Field := ⟨0x410004, 24, 8, false⟩
def ETH_STAT_UP : Field := ⟨0x410004, 0, 4, false⟩
def ETH_STAT_DOWN : Field := ⟨0x410004, 4, 4, false⟩
def ETH_STAT_TS_OVF : Field := ⟨0x410004, 8, 1, false⟩
def ETH_STAT_PTP_DROP : Field := ⟨0x410004, 9, 1, false⟩
def ETH_KP_PORT : Field := ⟨0x410008, 0, 16, false⟩
def ETH_PTP_EN : Field := ⟨0x41000c, 0, 1, false⟩
def ETH_M_ADDR (k : Nat) : Field := ⟨0x410100 + 64 * k, 0, 48, false⟩
def ETH_M_IP (k : Nat) : Field := ⟨0x410108 + 64 * k, 0, 32, false⟩
def ETH_M_VID (k : Nat) : Field := ⟨0x41010c + 64 * k, 0, 12, false⟩
def ETH_M_PCP (k : Nat) : Field := ⟨0x41010c + 64 * k, 12, 3, false⟩
def ETH_M_TAG (k : Nat) : Field := ⟨0x41010c + 64 * k, 15, 1, false⟩
def ETH_M_DSCP (k : Nat) : Field := ⟨0x41010c + 64 * k, 16, 6, false⟩
def ETH_M_MAX_FRAME (k : Nat) : Field := ⟨0x410110 + 64 * k, 0, 14, false⟩
def ETH_M_STATE (k : Nat) : Field := ⟨0x410114 + 64 * k, 0, 3, false⟩
def ETH_M_HI_SER (k : Nat) : Field := ⟨0x410114 + 64 * k, 4, 1, false⟩
def ETH_M_TXLAT (k : Nat) : Field := ⟨0x410118 + 64 * k, 0, 16, false⟩
def ETH_M_RXLAT (k : Nat) : Field := ⟨0x410118 + 64 * k, 16, 16, false⟩
def ETH_M_ASYM (k : Nat) : Field := ⟨0x41011c + 64 * k, 0, 32, false⟩
def ETH_M_TS_SEQID (k : Nat) : Field := ⟨0x410120 + 64 * k, 0, 16, false⟩
def ETH_M_TS_TYPE (k : Nat) : Field := ⟨0x410120 + 64 * k, 16, 4, false⟩
def ETH_M_TS_VALID (k : Nat) : Field := ⟨0x410120 + 64 * k, 31, 1, false⟩
def ETH_M_TS_POP (k : Nat) : Field := ⟨0x410124 + 64 * k, 0, 1, false⟩
def ETH_M_TS_TIME (k : Nat) : Field := ⟨0x410128 + 64 * k, 0, 64, false⟩
def ETH_M_RX_FRAME_CNT (k : Nat) : Field := ⟨0x410400 + 64 * k, 0, 32, false⟩
def ETH_M_TX_FRAME_CNT (k : Nat) : Field := ⟨0x410404 + 64 * k, 0, 32, false⟩
def ETH_M_RX_FILTER_CNT (k : Nat) : Field := ⟨0x410408 + 64 * k, 0, 32, false⟩
def ETH_M_RX_ERR_CNT (k : Nat) : Field := ⟨0x41040c + 64 * k, 0, 32, false⟩
def ETH_M_TX_DISCARD_CNT (k : Nat) : Field := ⟨0x410410 + 64 * k, 0, 32, false⟩
def ETH_M_LINK_DOWN_CNT (k : Nat) : Field := ⟨0x410414 + 64 * k, 0, 32, false⟩
def ETH_M_FEC_CORR_CNT (k : Nat) : Field := ⟨0x410418 + 64 * k, 0, 32, false⟩
def ETH_M_FEC_UNCORR_CNT (k : Nat) : Field := ⟨0x41041c + 64 * k, 0, 32, false⟩
def ETH_M_ICMP_DROP_CNT (k : Nat) : Field := ⟨0x410420 + 64 * k, 0, 32, false⟩
def ETH_M_PTP_DROP_CNT (k : Nat) : Field := ⟨0x410424 + 64 * k, 0, 32, false⟩
/-! ### KPE: R473 (15) -/
def KPE_CTL_EN : Field := ⟨0x420000, 0, 1, false⟩
def KPE_CTL_EVICT : Field := ⟨0x420000, 1, 1, false⟩
def KPE_CTL_OPEN_RATE : Field := ⟨0x420000, 8, 8, false⟩
def KPE_STAT_SEQ : Field := ⟨0x420004, 24, 8, false⟩
def KPE_STAT_OPENED : Field := ⟨0x420004, 0, 1, false⟩
def KPE_STAT_CLOSED : Field := ⟨0x420004, 1, 1, false⟩
def KPE_STAT_FULL : Field := ⟨0x420004, 2, 1, false⟩
def KPE_STAT_EVICTED : Field := ⟨0x420004, 3, 1, false⟩
def KPE_STAT_GRANTED : Field := ⟨0x420004, 4, 1, false⟩
def KPE_STAT_SUSPENDED : Field := ⟨0x420004, 5, 1, false⟩
def KPE_STAT_FAILOVER : Field := ⟨0x420004, 6, 1, false⟩
def KPE_STATE_SESSIONS : Field := ⟨0x420008, 0, 8, false⟩
def KPE_STATE_OPERATORS : Field := ⟨0x420008, 8, 3, false⟩
def KPE_STATE_INFLIGHT : Field := ⟨0x420008, 16, 8, false⟩
def KPE_STATE_SUBS_HI : Field := ⟨0x420008, 24, 8, false⟩
def KPE_CLAIM_SESSION : Field := ⟨0x42000c, 0, 8, false⟩
def KPE_CLAIM_REMAIN : Field := ⟨0x42000c, 16, 16, false⟩
def KPE_RX_PKT_CNT : Field := ⟨0x420040, 0, 32, false⟩
def KPE_TX_PKT_CNT : Field := ⟨0x420044, 0, 32, false⟩
def KPE_RX_BAD_CNT : Field := ⟨0x420048, 0, 32, false⟩
def KPE_OPEN_CNT : Field := ⟨0x42004c, 0, 32, false⟩
def KPE_FULL_CNT : Field := ⟨0x420050, 0, 32, false⟩
def KPE_EVICT_CNT : Field := ⟨0x420054, 0, 32, false⟩
def KPE_PRESS_CNT : Field := ⟨0x420058, 0, 32, false⟩
def KPE_PEER_DROP_CNT : Field := ⟨0x42005c, 0, 32, false⟩
def KPE_BUSY_CNT : Field := ⟨0x420060, 0, 32, false⟩
def KPE_S_STATE (k : Nat) : Field := ⟨0x421000 + 32 * k, 0, 2, false⟩
def KPE_S_OPERATOR (k : Nat) : Field := ⟨0x421000 + 32 * k, 2, 1, false⟩
def KPE_S_DUAL (k : Nat) : Field := ⟨0x421000 + 32 * k, 3, 1, false⟩
def KPE_S_PATH (k : Nat) : Field := ⟨0x421000 + 32 * k, 4, 3, false⟩
def KPE_S_INFLIGHT (k : Nat) : Field := ⟨0x421000 + 32 * k, 8, 8, false⟩
def KPE_S_SUBS (k : Nat) : Field := ⟨0x421000 + 32 * k, 16, 7, false⟩
def KPE_S_KEEPALIVE (k : Nat) : Field := ⟨0x421004 + 32 * k, 0, 16, false⟩
def KPE_S_RTO (k : Nat) : Field := ⟨0x421004 + 32 * k, 16, 10, false⟩
def KPE_S_WINDOW (k : Nat) : Field := ⟨0x421008 + 32 * k, 0, 9, false⟩
def KPE_S_NMASK (k : Nat) : Field := ⟨0x421008 + 32 * k, 16, 8, false⟩
def KPE_S_REMOTE_IP (k : Nat) : Field := ⟨0x42100c + 32 * k, 0, 32, false⟩
def KPE_S_RX_CMD_CNT (k : Nat) : Field := ⟨0x421010 + 32 * k, 0, 32, false⟩
def KPE_S_RETX_CNT (k : Nat) : Field := ⟨0x421014 + 32 * k, 0, 32, false⟩
def KPE_S_DUP_CNT (k : Nat) : Field := ⟨0x421018 + 32 * k, 0, 32, false⟩
def KPE_S_STREAM_DROP_CNT (k : Nat) : Field := ⟨0x42101c + 32 * k, 0, 32, false⟩
/-! ### MGC: R508 (16) -/
def MGC_PERIOD_MS : Field := ⟨0x500000, 0, 16, false⟩
def MGC_KICK : Field := ⟨0x500004, 0, 16, false⟩
def MGC_SEL (k : Nat) : Field := ⟨0x500010 + 4 * k, 0, 4, false⟩
def MGC_DIR (k : Nat) : Field := ⟨0x500010 + 4 * k, 4, 1, false⟩
def MGC_OUT (k : Nat) : Field := ⟨0x500010 + 4 * k, 5, 1, false⟩
def MGC_GPIO_IN : Field := ⟨0x500030, 0, 8, false⟩
def MGC_ALERT_SRC : Field := ⟨0x500040, 0, 6, false⟩
def MGC_ALERT_MASK : Field := ⟨0x500040, 16, 6, false⟩
def MGC_SLOT : Field := ⟨0x500050, 0, 2, false⟩
def MGC_TRIAL : Field := ⟨0x500050, 2, 1, false⟩
def MGC_TRIES : Field := ⟨0x500050, 4, 2, false⟩
def MGC_BOOTSEL : Field := ⟨0x500050, 8, 2, false⟩
def MGC_ROM_RECOVERY : Field := ⟨0x500050, 12, 1, false⟩
/-! ### SNS: R508 (16) -/
def SNS_STAT_SEQ : Field := ⟨0x510000, 24, 8, false⟩
def SNS_STAT_TWARN : Field := ⟨0x510000, 0, 8, false⟩
def SNS_STAT_RAIL_WARN : Field := ⟨0x510000, 8, 1, false⟩
def SNS_TWARN : Field := ⟨0x510004, 0, 16, false⟩
def SNS_HOT_TEMP : Field := ⟨0x510008, 0, 16, false⟩
def SNS_HOT_SITE : Field := ⟨0x510008, 16, 3, false⟩
def SNS_TEMP (k : Nat) : Field := ⟨0x510010 + 4 * k, 0, 16, false⟩
def SNS_MV (k : Nat) : Field := ⟨0x510040 + 4 * k, 0, 16, false⟩
def SNS_WARN (k : Nat) : Field := ⟨0x510040 + 4 * k, 16, 1, false⟩
def SNS_TWARN_CNT : Field := ⟨0x510080, 0, 32, false⟩
def SNS_RAIL_WARN_CNT : Field := ⟨0x510084, 0, 32, false⟩
/-! ### EVR: R508 (16) -/
def EVR_LOG_SECTORS : Field := ⟨0x540000, 0, 10, false⟩
def EVR_WRAP : Field := ⟨0x540000, 12, 1, false⟩
def EVR_RLIM_N : Field := ⟨0x540000, 16, 8, false⟩
def EVR_STAT_SEQ : Field := ⟨0x540004, 24, 8, false⟩
def EVR_STAT_MEDIA_FAULT : Field := ⟨0x540004, 0, 1, false⟩
def EVR_STAT_LOG_FULL : Field := ⟨0x540004, 1, 1, false⟩
def EVR_STAT_SRAM_FULL : Field := ⟨0x540004, 2, 1, false⟩
def EVR_STAT_RATE_LIMITED : Field := ⟨0x540004, 3, 1, false⟩
def EVR_STAT_ERASE_DONE : Field := ⟨0x540004, 4, 1, false⟩
def EVR_STATE_SEALED : Field := ⟨0x540008, 0, 1, false⟩
def EVR_STATE_ERASING : Field := ⟨0x540008, 1, 1, false⟩
def EVR_STATE_WAITING : Field := ⟨0x540008, 16, 12, false⟩
def EVR_ERASE : Field := ⟨0x54000c, 0, 1, false⟩
def EVR_NEXT_SEQ : Field := ⟨0x540010, 0, 32, false⟩
def EVR_OLDEST_SEQ : Field := ⟨0x540014, 0, 32, false⟩
def EVR_LW (k : Nat) : Field := ⟨0x540040 + 4 * k, 0, 32, false⟩
def EVR_REC_CNT : Field := ⟨0x540080, 0, 32, false⟩
def EVR_SUPP_CNT : Field := ⟨0x540084, 0, 32, false⟩
def EVR_DROP_CNT : Field := ⟨0x540088, 0, 32, false⟩
def EVR_PAGE_CNT : Field := ⟨0x54008c, 0, 32, false⟩
/-! ### TIM: R508 (16) -/
def TIM_MODE : Field := ⟨0x550000, 0, 2, false⟩
def TIM_SLEW_PPM : Field := ⟨0x550000, 8, 8, false⟩
def TIM_STEP_NS : Field := ⟨0x550004, 0, 32, false⟩
def TIM_LOCK_NS : Field := ⟨0x550008, 0, 16, false⟩
def TIM_HOLD_S : Field := ⟨0x550008, 16, 8, false⟩
def TIM_STATE_STATE : Field := ⟨0x55000c, 0, 2, false⟩
def TIM_STATE_TIME_SET : Field := ⟨0x55000c, 4, 1, false⟩
def TIM_STATE_SLEWING : Field := ⟨0x55000c, 5, 1, false⟩
def TIM_STAT_SEQ : Field := ⟨0x550010, 24, 8, false⟩
def TIM_STAT_CLOCK_SET : Field := ⟨0x550010, 0, 1, false⟩
def TIM_STAT_LOCK : Field := ⟨0x550010, 1, 1, false⟩
def TIM_STAT_LOST : Field := ⟨0x550010, 2, 1, false⟩
def TIM_STAT_SET_REFUSED : Field := ⟨0x550010, 3, 1, false⟩
def TIM_TIME : Field := ⟨0x550020, 0, 64, false⟩
def TIM_UPTIME : Field := ⟨0x550028, 0, 64, false⟩
def TIM_SET : Field := ⟨0x550030, 0, 64, false⟩
def TIM_ADJ : Field := ⟨0x550038, 0, 32, false⟩
def TIM_PPS_TIME : Field := ⟨0x550040, 0, 64, false⟩
def TIM_OFFSET : Field := ⟨0x550048, 0, 32, false⟩
def TIM_STEP_CNT : Field := ⟨0x550080, 0, 32, false⟩
def TIM_LOST_CNT : Field := ⟨0x550084, 0, 32, false⟩
def TIM_SET_REFUSED_CNT : Field := ⟨0x550088, 0, 32, false⟩
/-! ### UPD: R508 (16) -/
def UPD_STAT_SEQ : Field := ⟨0x560000, 24, 8, false⟩
def UPD_STAT_OTP_DONE : Field := ⟨0x560000, 0, 1, false⟩
def UPD_STAT_OTP_DENIED : Field := ⟨0x560000, 1, 1, false⟩
def UPD_STAT_SIGN_DONE : Field := ⟨0x560000, 2, 1, false⟩
def UPD_OTP_PROG_WORD : Field := ⟨0x560010, 0, 6, false⟩
def UPD_OTP_VAL : Field := ⟨0x560014, 0, 32, false⟩
def UPD_ROLLBACK : Field := ⟨0x560018, 0, 8, false⟩
def UPD_IDPUB (k : Nat) : Field := ⟨0x560040 + 4 * k, 0, 32, false⟩
def UPD_OTP (k : Nat) : Field := ⟨0x560100 + 4 * k, 0, 32, false⟩

/-! ### The rows of the maps -/

/-- R42 to R72 (02): the register words of CHP. -/
def rowsCHP : List RegRow := [
  ⟨0x0, [], false, 0, [⟨16, 16, .ro, false, false, 0x5064⟩, ⟨8, 8, .ro, false, false, 1⟩, ⟨0, 8, .ro, false, false, 0x10⟩]⟩,
  ⟨0x4, [], false, 0, [⟨0, 1, .ro, false, false, 0⟩, ⟨1, 1, .ro, false, false, 0⟩, ⟨2, 1, .lv, false, false, 0⟩]⟩,
  ⟨0x10, [], false, 0, [⟨0, 3, .ro, false, false, 0⟩, ⟨4, 3, .wo, true, false, 0⟩]⟩,
  ⟨0x14, [], false, 0, [⟨24, 8, .st, false, false, 0⟩, ⟨0, 1, .st, false, false, 0⟩, ⟨1, 1, .st, false, false, 0⟩, ⟨2, 1, .st, false, false, 0⟩, ⟨3, 1, .st, false, false, 0⟩, ⟨4, 1, .st, false, false, 0⟩, ⟨5, 1, .st, false, false, 0⟩, ⟨6, 1, .st, false, false, 0⟩, ⟨7, 1, .st, false, false, 0⟩]⟩,
  ⟨0x20, [], false, 0, [⟨0, 4, .wo, true, false, 0⟩]⟩,
  ⟨0x24, [], false, 0, [⟨0, 3, .lv, false, false, 0⟩, ⟨3, 1, .lv, false, false, 0⟩, ⟨8, 4, .ro, false, false, 0⟩]⟩,
  ⟨0x28, [], false, 0, [⟨0, 8, .ro, false, false, 0⟩, ⟨8, 16, .ro, false, false, 0⟩]⟩,
  ⟨0x30, [], false, 1, [⟨0, 32, .rw, true, false, 0⟩]⟩,
  ⟨0x34, [], false, 2, [⟨0, 16, .rw, true, false, 0⟩]⟩,
  ⟨0x38, [], false, 1, [⟨0, 32, .ro, false, false, 0⟩]⟩,
  ⟨0x3c, [], false, 2, [⟨0, 16, .ro, false, false, 0⟩]⟩,
  ⟨0x40, [], true, 0, [⟨0, 32, .t, false, false, 0⟩]⟩,
  ⟨0x44, [], false, 0, [⟨0, 32, .ro, false, false, 0⟩]⟩,
  ⟨0x50, [], false, 0, [⟨0, 1, .wo, false, false, 0⟩, ⟨8, 16, .rw, false, false, 0⟩]⟩,
  ⟨0x54, [], false, 0, [⟨0, 16, .rw, false, false, 0x3e8⟩]⟩,
  ⟨0x58, [], false, 0, [⟨0, 32, .ro, false, false, 0⟩]⟩,
  ⟨0x5c, [], false, 0, [⟨0, 32, .wo, false, false, 0⟩]⟩,
  ⟨0x60, [], false, 1, [⟨0, 32, .ro, false, false, 0⟩]⟩,
  ⟨0x64, [], false, 2, [⟨0, 16, .ro, false, false, 0⟩]⟩,
  ⟨0x70, [], false, 0, [⟨0, 16, .ro, false, false, 0⟩]⟩,
  ⟨0x74, [], false, 0, [⟨0, 16, .ro, false, false, 0⟩]⟩,
  ⟨0x80, [], false, 0, [⟨0, 16, .ro, false, false, 0⟩, ⟨16, 16, .ro, false, false, 0⟩]⟩,
  ⟨0x84, [], false, 0, [⟨0, 32, .ro, false, false, 0⟩]⟩,
  ⟨0x88, [], false, 0, [⟨0, 16, .ro, false, false, 0⟩, ⟨16, 16, .ro, false, false, 0⟩]⟩,
  ⟨0x8c, [], false, 0, [⟨0, 32, .ro, false, false, 0⟩]⟩,
  ⟨0x90, [], false, 0, [⟨0, 16, .rw, true, false, 0⟩, ⟨16, 1, .wo, true, false, 0⟩, ⟨17, 1, .ro, false, false, 0⟩]⟩,
  ⟨0x94, [], false, 0, [⟨0, 32, .ro, false, false, 0⟩]⟩]

/-- R105 (03): the register words of PSQ. -/
def rowsPSQ : List RegRow := [
  ⟨0x100000, [], false, 0, [⟨0, 3, .wo, true, false, 0⟩]⟩,
  ⟨0x100004, [], false, 0, [⟨0, 2, .lv, false, false, 0⟩, ⟨4, 4, .ro, false, false, 0⟩, ⟨16, 12, .ro, false, false, 0⟩]⟩,
  ⟨0x100008, [], false, 0, [⟨24, 8, .st, false, false, 0⟩, ⟨0, 1, .st, false, false, 0⟩, ⟨1, 1, .st, false, false, 0⟩, ⟨2, 1, .st, false, false, 0⟩, ⟨3, 1, .st, false, false, 0⟩, ⟨4, 1, .st, false, false, 0⟩, ⟨5, 1, .st, false, false, 0⟩, ⟨6, 1, .st, false, false, 0⟩, ⟨7, 1, .st, false, false, 0⟩, ⟨8, 1, .st, false, false, 0⟩, ⟨9, 1, .st, false, false, 0⟩, ⟨10, 1, .st, false, false, 0⟩]⟩,
  ⟨0x10000c, [], false, 0, [⟨0, 8, .ro, false, false, 0⟩]⟩,
  ⟨0x100010, [], true, 0, [⟨0, 20, .t, false, false, 0⟩]⟩,
  ⟨0x100014, [], true, 0, [⟨0, 12, .t, false, false, 0⟩, ⟨16, 12, .t, false, false, 0⟩]⟩,
  ⟨0x100018, [], true, 0, [⟨0, 13, .t, false, false, 0⟩]⟩,
  ⟨0x10001c, [], true, 0, [⟨0, 2, .t, false, false, 0⟩]⟩,
  ⟨0x100020, [], false, 0, [⟨0, 3, .ro, false, false, 0⟩]⟩,
  ⟨0x100024, [], false, 0, [⟨0, 20, .ro, false, false, 0⟩]⟩,
  ⟨0x100028, [], false, 1, [⟨0, 32, .ro, false, false, 0⟩]⟩,
  ⟨0x10002c, [], false, 2, [⟨0, 16, .ro, false, false, 0⟩]⟩,
  ⟨0x100030, [], false, 0, [⟨0, 3, .rw, true, false, 0⟩, ⟨4, 4, .rw, true, false, 0⟩, ⟨8, 8, .rw, true, false, 0⟩, ⟨31, 1, .wo, true, false, 0⟩]⟩,
  ⟨0x100034, [], false, 0, [⟨0, 8, .rw, true, false, 2⟩, ⟨8, 8, .rw, true, false, 2⟩]⟩,
  ⟨0x100038, [], false, 0, [⟨0, 3, .ro, false, false, 0⟩]⟩,
  ⟨0x100040, [], false, 0, [⟨0, 32, .ro, false, false, 0⟩]⟩,
  ⟨0x100044, [], false, 0, [⟨0, 32, .ro, false, false, 0⟩]⟩,
  ⟨0x100048, [], false, 0, [⟨0, 32, .ro, false, false, 0⟩]⟩,
  ⟨0x10004c, [], false, 0, [⟨0, 32, .ro, false, false, 0⟩]⟩,
  ⟨0x100050, [], false, 0, [⟨0, 32, .ro, false, false, 0⟩]⟩,
  ⟨0x100054, [], false, 0, [⟨0, 32, .ro, false, false, 0⟩]⟩,
  ⟨0x100058, [], false, 0, [⟨0, 32, .ro, false, false, 0⟩]⟩,
  ⟨0x10005c, [], false, 0, [⟨0, 32, .ro, false, false, 0⟩]⟩,
  ⟨0x100060, [], false, 0, [⟨0, 32, .ro, false, false, 0⟩]⟩,
  ⟨0x100080, [(4, 8)], false, 0, [⟨0, 32, .ro, false, false, 0⟩]⟩]

/-- R105 (03): the register words of PSY. -/
def rowsPSY : List RegRow := [
  ⟨0x110040, [], true, 0, [⟨0, 16, .t, false, false, 0x8000⟩, ⟨16, 16, .t, false, false, 0⟩]⟩,
  ⟨0x110044, [], true, 0, [⟨0, 14, .t, false, false, 0⟩, ⟨16, 14, .t, false, false, 0⟩]⟩,
  ⟨0x110048, [], true, 0, [⟨0, 8, .t, false, false, 0x19⟩]⟩,
  ⟨0x11004c, [], false, 0, [⟨0, 1, .rw, true, false, 0⟩]⟩,
  ⟨0x110050, [], false, 0, [⟨24, 8, .st, false, false, 0⟩, ⟨0, 1, .st, false, false, 0⟩]⟩,
  ⟨0x110054, [], false, 0, [⟨0, 32, .ro, false, false, 0⟩]⟩,
  ⟨0x110000, [(4, 8)], true, 0, [⟨0, 20, .t, false, false, 0⟩, ⟨31, 1, .t, false, false, 0⟩]⟩]

/-- R133 (04): the register words of SRC. -/
def rowsSRC : List RegRow := [
  ⟨0x120000, [], false, 0, [⟨24, 8, .st, false, false, 0⟩, ⟨0, 5, .st, false, false, 0⟩, ⟨5, 1, .st, false, false, 0⟩, ⟨6, 1, .st, false, false, 0⟩]⟩,
  ⟨0x120010, [], true, 0, [⟨0, 4, .t, false, false, 0⟩, ⟨8, 9, .t, true, true, 0x100⟩, ⟨24, 5, .t, false, false, 0⟩]⟩,
  ⟨0x120014, [], true, 0, [⟨0, 16, .t, true, true, 0xf00⟩, ⟨16, 16, .t, true, true, 0x1400⟩]⟩,
  ⟨0x120018, [], false, 0, [⟨0, 9, .ro, false, false, 0x100⟩]⟩,
  ⟨0x120100, [(64, 5)], true, 0, [⟨0, 1, .t, false, false, 0⟩, ⟨1, 1, .t, false, false, 0⟩, ⟨2, 1, .t, false, false, 1⟩, ⟨3, 5, .t, false, false, 0xc⟩, ⟨8, 6, .t, false, false, 0xa⟩]⟩,
  ⟨0x120104, [(64, 5)], true, 0, [⟨0, 14, .t, false, false, 0x9c4⟩]⟩,
  ⟨0x120108, [(64, 5)], true, 0, [⟨0, 16, .t, false, false, 0⟩]⟩,
  ⟨0x12010c, [(64, 5)], true, 0, [⟨0, 12, .t, false, false, 0⟩, ⟨16, 8, .t, false, false, 0x10⟩, ⟨24, 8, .t, false, false, 8⟩]⟩,
  ⟨0x120110, [(64, 5)], true, 0, [⟨0, 12, .t, true, false, 0⟩, ⟨16, 16, .t, true, false, 0⟩]⟩,
  ⟨0x120114, [(64, 5)], true, 0, [⟨0, 12, .t, true, false, 0x28⟩, ⟨16, 12, .t, true, false, 0xfa0⟩]⟩,
  ⟨0x120118, [(64, 5)], false, 0, [⟨0, 12, .rw, true, true, 0⟩, ⟨16, 12, .rw, true, true, 0⟩]⟩,
  ⟨0x12011c, [(64, 5)], false, 0, [⟨0, 16, .rw, true, true, 0⟩]⟩,
  ⟨0x120120, [(64, 5)], false, 0, [⟨0, 1, .wo, true, false, 0⟩]⟩,
  ⟨0x120124, [(64, 5)], false, 0, [⟨0, 3, .lv, false, false, 0⟩, ⟨4, 2, .ro, false, false, 0⟩]⟩,
  ⟨0x120128, [(64, 5)], false, 0, [⟨0, 12, .ro, false, false, 0⟩, ⟨16, 16, .ro, false, false, 0⟩]⟩,
  ⟨0x12012c, [(64, 5)], false, 0, [⟨0, 32, .ro, false, false, 0⟩]⟩,
  ⟨0x120130, [(64, 5)], false, 0, [⟨0, 32, .ro, false, false, 0⟩]⟩,
  ⟨0x120134, [(64, 5)], false, 0, [⟨0, 32, .ro, false, false, 0⟩]⟩]

/-- R133 (04): the register words of OCC. -/
def rowsOCC : List RegRow := [
  ⟨0x130000, [], true, 0, [⟨0, 6, .t, false, false, 0⟩, ⟨8, 4, .t, false, false, 0⟩, ⟨16, 16, .t, false, false, 0x800⟩]⟩,
  ⟨0x130004, [], false, 0, [⟨24, 8, .st, false, false, 0⟩, ⟨0, 1, .st, false, false, 0⟩, ⟨1, 1, .st, false, false, 0⟩, ⟨2, 1, .st, false, false, 0⟩, ⟨3, 1, .st, false, false, 0⟩]⟩,
  ⟨0x130008, [], false, 0, [⟨0, 2, .lv, false, false, 0⟩, ⟨4, 1, .lv, false, false, 0⟩]⟩,
  ⟨0x130010, [], false, 0, [⟨0, 32, .ro, false, false, 0⟩]⟩,
  ⟨0x130014, [], false, 0, [⟨0, 32, .ro, false, false, 0⟩]⟩,
  ⟨0x130018, [], false, 0, [⟨0, 32, .ro, false, false, 0⟩]⟩,
  ⟨0x130040, [(4, 16)], true, 0, [⟨0, 32, .t, false, false, 0⟩]⟩,
  ⟨0x130080, [(4, 16)], true, 0, [⟨0, 32, .t, false, false, 0⟩]⟩,
  ⟨0x1300c0, [(4, 16)], false, 0, [⟨0, 32, .rw, false, false, 0⟩]⟩,
  ⟨0x130100, [(4, 16)], false, 0, [⟨0, 32, .ro, false, false, 0⟩]⟩]

/-- R172 (05): the register words of CRX. -/
def rowsCRX : List RegRow := [
  ⟨0x140000, [], true, 0, [⟨0, 1, .t, false, false, 1⟩]⟩,
  ⟨0x140004, [], false, 0, [⟨24, 8, .st, false, false, 0⟩, ⟨0, 4, .st, false, false, 0⟩, ⟨4, 1, .st, false, false, 0⟩, ⟨5, 1, .st, false, false, 0⟩]⟩,
  ⟨0x140008, [], false, 0, [⟨0, 3, .ro, false, false, 0⟩, ⟨4, 3, .ro, false, false, 0⟩]⟩,
  ⟨0x140020, [], false, 0, [⟨0, 32, .ro, false, false, 0⟩]⟩,
  ⟨0x140024, [], false, 0, [⟨0, 32, .ro, false, false, 0⟩]⟩,
  ⟨0x140010, [(4, 4)], false, 0, [⟨0, 32, .ro, false, false, 0⟩]⟩,
  ⟨0x141000, [(4, 1024)], true, 0, [⟨0, 3, .t, false, false, 0⟩, ⟨4, 3, .t, false, false, 0⟩, ⟨8, 3, .t, false, false, 0⟩, ⟨12, 3, .t, false, false, 0⟩, ⟨16, 3, .t, false, false, 0⟩, ⟨20, 3, .t, false, false, 0⟩, ⟨24, 3, .t, false, false, 0⟩, ⟨28, 3, .t, false, false, 0⟩]⟩]

/-- R172 (05): the register words of CAL. -/
def rowsCAL : List RegRow := [
  ⟨0x160000, [], false, 0, [⟨0, 1, .rw, false, false, 1⟩, ⟨1, 1, .rw, false, false, 1⟩]⟩,
  ⟨0x160004, [], false, 0, [⟨0, 1, .wo, true, false, 0⟩]⟩,
  ⟨0x160008, [], false, 0, [⟨0, 8, .rw, false, false, 0x28⟩, ⟨8, 8, .rw, false, false, 3⟩]⟩,
  ⟨0x16000c, [], false, 0, [⟨24, 8, .st, false, false, 0⟩, ⟨0, 1, .st, false, false, 0⟩, ⟨1, 1, .st, false, false, 0⟩, ⟨2, 1, .st, false, false, 0⟩, ⟨3, 1, .st, false, false, 0⟩]⟩,
  ⟨0x160010, [], false, 0, [⟨0, 4, .lv, false, false, 0⟩, ⟨4, 4, .lv, false, false, 0xf⟩]⟩,
  ⟨0x160100, [(128, 4)], false, 0, [⟨0, 32, .ro, false, false, 0⟩]⟩,
  ⟨0x160104, [(128, 4)], false, 0, [⟨0, 32, .ro, false, false, 0⟩]⟩,
  ⟨0x160108, [(128, 4)], false, 1, [⟨0, 32, .ro, false, false, 0⟩]⟩,
  ⟨0x16010c, [(128, 4)], false, 2, [⟨0, 32, .ro, false, false, 0⟩]⟩,
  ⟨0x160110, [(128, 4)], false, 0, [⟨0, 16, .rw, false, false, 0⟩]⟩,
  ⟨0x160140, [(128, 4), (8, 8)], false, 0, [⟨0, 16, .rw, false, false, 0⟩, ⟨16, 16, .rw, false, false, 0⟩]⟩,
  ⟨0x160144, [(128, 4), (8, 8)], false, 0, [⟨0, 16, .rw, false, false, 0x8000⟩]⟩]

/-- R172 (05): the register words of CHN. -/
def rowsCHN : List RegRow := [
  ⟨0x200008, [], true, 0, [⟨0, 16, .t, false, false, 0⟩]⟩,
  ⟨0x20000c, [], false, 0, [⟨24, 8, .st, false, false, 0⟩, ⟨0, 1, .st, false, false, 0⟩]⟩,
  ⟨0x200000, [(4, 2)], true, 0, [⟨0, 16, .t, false, false, 0x8000⟩, ⟨16, 16, .t, false, false, 0⟩]⟩,
  ⟨0x200100, [(16, 8)], false, 0, [⟨0, 32, .ro, false, false, 0⟩]⟩,
  ⟨0x200104, [(16, 8)], false, 0, [⟨0, 32, .ro, false, false, 0⟩]⟩]

/-- R172 (05): the register words of PCM. -/
def rowsPCM : List RegRow := [
  ⟨0x210020, [], false, 0, [⟨0, 16, .ro, false, false, 0⟩]⟩,
  ⟨0x210024, [], false, 0, [⟨24, 8, .st, false, false, 0⟩, ⟨0, 1, .st, false, false, 0⟩]⟩,
  ⟨0x210030, [], false, 0, [⟨0, 32, .ro, false, false, 0⟩]⟩,
  ⟨0x210034, [], false, 0, [⟨0, 32, .ro, false, false, 0⟩]⟩,
  ⟨0x210000, [(4, 8)], true, 0, [⟨0, 2, .t, false, false, 2⟩]⟩]

/-- R172 (05): the register words of PHS. -/
def rowsPHS : List RegRow := [
  ⟨0x220000, [], true, 0, [⟨0, 16, .t, false, false, 0⟩, ⟨16, 16, .t, false, false, 0⟩]⟩,
  ⟨0x220004, [], true, 0, [⟨0, 8, .t, false, false, 1⟩]⟩,
  ⟨0x220008, [], true, 0, [⟨0, 18, .t, false, false, 0x177dc⟩]⟩,
  ⟨0x22000c, [], true, 0, [⟨0, 4, .t, false, false, 0xa⟩, ⟨8, 4, .t, false, false, 8⟩, ⟨16, 4, .t, false, false, 6⟩]⟩,
  ⟨0x220010, [], true, 0, [⟨0, 16, .t, false, false, 0⟩]⟩,
  ⟨0x220014, [], false, 0, [⟨24, 8, .st, false, false, 0⟩, ⟨0, 1, .st, false, false, 0⟩, ⟨1, 1, .st, false, false, 0⟩, ⟨2, 1, .st, false, false, 0⟩, ⟨3, 1, .st, false, false, 0⟩, ⟨4, 1, .st, false, false, 0⟩]⟩,
  ⟨0x220020, [], false, 0, [⟨0, 32, .ro, false, false, 0⟩]⟩,
  ⟨0x220024, [], false, 0, [⟨0, 32, .ro, false, false, 0⟩]⟩,
  ⟨0x220028, [], false, 0, [⟨0, 32, .ro, false, false, 0⟩]⟩,
  ⟨0x22002c, [], false, 0, [⟨0, 32, .ro, false, false, 0⟩]⟩,
  ⟨0x220030, [], false, 0, [⟨0, 32, .ro, false, false, 0⟩]⟩,
  ⟨0x220100, [], false, 0, [⟨0, 16, .rw, false, false, 0⟩, ⟨16, 3, .rw, false, false, 0⟩]⟩,
  ⟨0x220104, [], false, 0, [⟨0, 24, .ro, false, false, 0⟩]⟩,
  ⟨0x220108, [], false, 0, [⟨0, 32, .ro, false, false, 0⟩]⟩,
  ⟨0x22010c, [], false, 0, [⟨0, 16, .ro, false, false, 0⟩, ⟨16, 7, .ro, false, false, 0⟩]⟩,
  ⟨0x220080, [(4, 8)], false, 0, [⟨0, 32, .ro, false, false, 0⟩]⟩,
  ⟨0x2200a0, [(4, 8)], false, 0, [⟨0, 32, .ro, false, false, 0⟩]⟩]

/-- R190 (06): the register words of PFL. -/
def rowsPFL : List RegRow := [
  ⟨0x230000, [], true, 0, [⟨0, 2, .t, false, false, 0⟩, ⟨4, 1, .t, false, false, 0⟩, ⟨8, 8, .t, false, false, 2⟩]⟩,
  ⟨0x230004, [], true, 0, [⟨0, 3, .t, false, false, 0⟩, ⟨4, 3, .t, false, false, 7⟩, ⟨8, 3, .t, false, false, 7⟩]⟩,
  ⟨0x230008, [], false, 0, [⟨24, 8, .st, false, false, 0⟩, ⟨0, 1, .st, false, false, 0⟩, ⟨1, 1, .st, false, false, 0⟩, ⟨2, 1, .st, false, false, 0⟩, ⟨3, 1, .st, false, false, 0⟩]⟩,
  ⟨0x230010, [], false, 1, [⟨0, 32, .ro, false, false, 0⟩]⟩,
  ⟨0x230014, [], false, 2, [⟨0, 16, .ro, false, false, 0⟩]⟩,
  ⟨0x230020, [], false, 0, [⟨0, 32, .ro, false, false, 0⟩]⟩,
  ⟨0x230024, [], false, 0, [⟨0, 32, .ro, false, false, 0⟩]⟩,
  ⟨0x230028, [], false, 0, [⟨0, 32, .ro, false, false, 0⟩]⟩,
  ⟨0x23002c, [], false, 0, [⟨0, 32, .ro, false, false, 0⟩]⟩,
  ⟨0x230100, [], false, 0, [⟨0, 16, .rw, false, false, 0⟩]⟩,
  ⟨0x230104, [], false, 0, [⟨0, 32, .ro, false, false, 0⟩]⟩,
  ⟨0x230108, [], false, 0, [⟨0, 16, .ro, false, false, 0⟩]⟩,
  ⟨0x23010c, [], false, 0, [⟨0, 5, .ro, false, false, 0⟩]⟩,
  ⟨0x230030, [(4, 5)], false, 0, [⟨0, 32, .ro, false, false, 0⟩]⟩,
  ⟨0x230050, [(4, 5)], false, 0, [⟨0, 32, .ro, false, false, 0⟩]⟩,
  ⟨0x230200, [(4, 16)], false, 0, [⟨0, 18, .ro, false, false, 0⟩]⟩,
  ⟨0x230280, [(4, 16)], false, 0, [⟨0, 18, .ro, false, false, 0⟩]⟩]

/-- R213 (07): the register words of RMX. -/
def rowsRMX : List RegRow := [
  ⟨0x150000, [], true, 0, [⟨0, 1, .t, false, false, 0⟩]⟩,
  ⟨0x150004, [], true, 0, [⟨0, 16, .t, false, false, 0⟩]⟩,
  ⟨0x150008, [], true, 0, [⟨0, 3, .t, false, false, 3⟩, ⟨8, 8, .t, false, false, 0x14⟩]⟩,
  ⟨0x15000c, [], false, 0, [⟨24, 8, .st, false, false, 0⟩, ⟨0, 1, .st, false, false, 0⟩, ⟨1, 1, .st, false, false, 0⟩]⟩,
  ⟨0x150010, [], false, 0, [⟨0, 32, .ro, false, false, 0⟩]⟩,
  ⟨0x150014, [], false, 0, [⟨0, 32, .ro, false, false, 0⟩]⟩,
  ⟨0x150018, [], false, 0, [⟨0, 32, .ro, false, false, 0⟩]⟩,
  ⟨0x15001c, [], false, 0, [⟨0, 32, .ro, false, false, 0⟩]⟩,
  ⟨0x150020, [], false, 0, [⟨0, 32, .ro, false, false, 0⟩]⟩,
  ⟨0x150024, [], false, 0, [⟨0, 32, .ro, false, false, 0⟩]⟩,
  ⟨0x150028, [(4, 2)], false, 0, [⟨0, 32, .ro, false, false, 0⟩]⟩]

/-- R213 (07): the register words of DTS. -/
def rowsDTS : List RegRow := [
  ⟨0x240000, [], true, 0, [⟨0, 1, .t, false, false, 0⟩, ⟨8, 5, .t, false, false, 0xe⟩]⟩,
  ⟨0x240004, [], true, 0, [⟨0, 32, .t, false, false, 0x2790000⟩]⟩,
  ⟨0x240008, [], true, 0, [⟨0, 32, .t, false, false, 0x1000000⟩]⟩,
  ⟨0x24000c, [], true, 0, [⟨0, 32, .t, false, false, 0⟩]⟩,
  ⟨0x240010, [], true, 0, [⟨0, 16, .t, false, false, 0x10⟩]⟩,
  ⟨0x240030, [], true, 0, [⟨0, 2, .t, false, false, 0⟩, ⟨4, 4, .t, false, false, 2⟩, ⟨8, 16, .t, false, false, 0x140⟩]⟩,
  ⟨0x240034, [], true, 0, [⟨0, 24, .t, true, true, 0x400000⟩]⟩,
  ⟨0x240038, [], true, 0, [⟨0, 4, .t, false, false, 1⟩]⟩,
  ⟨0x240040, [], false, 0, [⟨24, 8, .st, false, false, 0⟩, ⟨0, 1, .st, false, false, 0⟩, ⟨1, 1, .st, false, false, 0⟩, ⟨2, 1, .st, false, false, 0⟩, ⟨3, 1, .st, false, false, 0⟩, ⟨4, 1, .st, false, false, 0⟩]⟩,
  ⟨0x240044, [], false, 0, [⟨0, 32, .ro, false, false, 0x1000000⟩]⟩,
  ⟨0x240048, [], false, 0, [⟨0, 32, .ro, false, false, 0x2790000⟩]⟩,
  ⟨0x240050, [], false, 0, [⟨0, 32, .ro, false, false, 0⟩]⟩,
  ⟨0x240054, [], false, 0, [⟨0, 21, .ro, false, false, 0⟩, ⟨24, 8, .ro, false, false, 0⟩]⟩,
  ⟨0x240058, [], false, 1, [⟨0, 32, .ro, false, false, 0⟩]⟩,
  ⟨0x24005c, [], false, 2, [⟨0, 16, .ro, false, false, 0⟩]⟩,
  ⟨0x240060, [], false, 0, [⟨0, 16, .ro, false, false, 0x8000⟩, ⟨16, 16, .ro, false, false, 0⟩]⟩,
  ⟨0x240064, [], false, 0, [⟨0, 16, .ro, false, false, 0x8000⟩, ⟨16, 16, .ro, false, false, 0x8000⟩]⟩,
  ⟨0x240070, [], false, 0, [⟨0, 32, .ro, false, false, 0⟩]⟩,
  ⟨0x240074, [], false, 0, [⟨0, 32, .ro, false, false, 0⟩]⟩,
  ⟨0x240078, [], false, 0, [⟨0, 32, .ro, false, false, 0⟩]⟩,
  ⟨0x24007c, [], false, 0, [⟨0, 32, .ro, false, false, 0⟩]⟩,
  ⟨0x240100, [], false, 0, [⟨0, 16, .rw, false, false, 0⟩]⟩,
  ⟨0x240104, [], false, 1, [⟨0, 32, .ro, false, false, 0⟩]⟩,
  ⟨0x240108, [], false, 2, [⟨0, 8, .ro, false, false, 0⟩]⟩,
  ⟨0x24010c, [], false, 1, [⟨0, 32, .ro, false, false, 0⟩]⟩,
  ⟨0x240110, [], false, 2, [⟨0, 8, .ro, false, false, 0⟩]⟩,
  ⟨0x240114, [], false, 0, [⟨0, 16, .ro, false, false, 0x8000⟩]⟩,
  ⟨0x240020, [(8, 2)], true, 0, [⟨0, 16, .t, false, false, 0⟩, ⟨16, 16, .t, false, false, 0⟩]⟩,
  ⟨0x240024, [(8, 2)], true, 0, [⟨0, 4, .t, false, false, 0⟩, ⟨8, 1, .t, false, false, 0⟩]⟩]

/-- R247 (08): the register words of AAR. -/
def rowsAAR : List RegRow := [
  ⟨0x250008, [], false, 0, [⟨24, 8, .st, false, false, 0⟩, ⟨0, 1, .st, false, false, 0⟩, ⟨1, 1, .st, false, false, 0⟩, ⟨2, 1, .st, false, false, 0⟩, ⟨3, 1, .st, false, false, 0⟩, ⟨4, 1, .st, false, false, 0⟩, ⟨5, 1, .st, false, false, 0⟩]⟩,
  ⟨0x25000c, [], false, 0, [⟨0, 10, .ro, false, false, 0⟩, ⟨16, 5, .ro, false, false, 0⟩]⟩,
  ⟨0x250010, [], false, 0, [⟨0, 32, .ro, false, false, 0⟩]⟩,
  ⟨0x250000, [(4, 2)], true, 0, [⟨0, 4, .t, false, false, 0xa⟩, ⟨4, 1, .t, false, false, 1⟩]⟩,
  ⟨0x250400, [(64, 32)], true, 0, [⟨0, 1, .t, false, false, 0⟩, ⟨1, 2, .t, false, false, 0⟩, ⟨8, 7, .t, false, false, 1⟩]⟩,
  ⟨0x250404, [(64, 32)], true, 0, [⟨0, 11, .t, false, false, 0⟩, ⟨16, 11, .t, false, false, 0⟩]⟩,
  ⟨0x250408, [(64, 32)], true, 0, [⟨0, 8, .t, false, false, 0⟩, ⟨8, 8, .t, false, false, 0⟩, ⟨16, 8, .t, false, false, 0⟩]⟩,
  ⟨0x25040c, [(64, 32)], true, 0, [⟨0, 12, .t, false, false, 0⟩, ⟨16, 12, .t, false, false, 0⟩]⟩,
  ⟨0x250410, [(64, 32)], true, 0, [⟨0, 12, .t, false, false, 0⟩]⟩,
  ⟨0x250414, [(64, 32)], true, 0, [⟨0, 12, .t, false, false, 0⟩, ⟨16, 12, .t, false, false, 0⟩]⟩,
  ⟨0x250418, [(64, 32)], true, 0, [⟨0, 12, .t, false, false, 0⟩]⟩,
  ⟨0x250420, [(64, 32), (4, 4)], true, 0, [⟨0, 12, .t, false, false, 0⟩, ⟨16, 13, .t, false, false, 0⟩]⟩,
  ⟨0x250430, [(64, 32)], false, 0, [⟨0, 2, .lv, false, false, 0⟩, ⟨2, 2, .lv, false, false, 0⟩, ⟨16, 12, .ro, false, false, 0⟩]⟩,
  ⟨0x250434, [(64, 32)], false, 0, [⟨0, 32, .ro, false, false, 0⟩]⟩,
  ⟨0x250438, [(64, 32)], false, 0, [⟨0, 32, .ro, false, false, 0⟩]⟩,
  ⟨0x250c00, [(32, 32)], false, 0, [⟨0, 32, .ro, false, false, 0⟩]⟩,
  ⟨0x250c04, [(32, 32)], false, 0, [⟨0, 32, .ro, false, false, 0⟩]⟩,
  ⟨0x250c08, [(32, 32)], false, 0, [⟨0, 32, .ro, false, false, 0⟩]⟩,
  ⟨0x250c0c, [(32, 32)], false, 0, [⟨0, 32, .ro, false, false, 0⟩]⟩,
  ⟨0x250c10, [(32, 32)], false, 0, [⟨0, 32, .ro, false, false, 0⟩]⟩,
  ⟨0x250c14, [(32, 32)], false, 0, [⟨0, 32, .ro, false, false, 0⟩]⟩,
  ⟨0x250c18, [(32, 32)], false, 0, [⟨0, 32, .ro, false, false, 0⟩]⟩,
  ⟨0x250c1c, [(32, 32)], false, 0, [⟨0, 32, .ro, false, false, 0⟩]⟩]

/-- R283 (09): the register words of ZON. -/
def rowsZON : List RegRow := [
  ⟨0x260000, [], true, 0, [⟨0, 1, .t, false, false, 0⟩]⟩,
  ⟨0x260004, [], false, 0, [⟨24, 8, .st, false, false, 0⟩, ⟨0, 1, .st, false, false, 0⟩, ⟨1, 1, .st, false, false, 0⟩, ⟨2, 1, .st, false, false, 0⟩, ⟨3, 1, .st, false, false, 0⟩, ⟨4, 1, .st, false, false, 0⟩, ⟨5, 1, .st, false, false, 0⟩, ⟨6, 1, .st, false, false, 0⟩, ⟨7, 1, .st, false, false, 0⟩]⟩,
  ⟨0x260040, [], false, 0, [⟨0, 32, .ro, false, false, 0⟩]⟩,
  ⟨0x260044, [], false, 0, [⟨0, 32, .ro, false, false, 0⟩]⟩,
  ⟨0x260048, [], false, 0, [⟨0, 32, .ro, false, false, 0⟩]⟩,
  ⟨0x26004c, [], false, 0, [⟨0, 32, .ro, false, false, 0⟩]⟩,
  ⟨0x260050, [], false, 0, [⟨0, 32, .ro, false, false, 0⟩]⟩,
  ⟨0x260054, [], false, 0, [⟨0, 32, .ro, false, false, 0⟩]⟩,
  ⟨0x260058, [], false, 0, [⟨0, 32, .ro, false, false, 0⟩]⟩,
  ⟨0x26005c, [], false, 0, [⟨0, 32, .ro, false, false, 0⟩]⟩,
  ⟨0x260060, [], false, 0, [⟨0, 32, .ro, false, false, 0⟩]⟩,
  ⟨0x260064, [], false, 0, [⟨0, 32, .ro, false, false, 0⟩]⟩,
  ⟨0x260068, [], false, 0, [⟨0, 32, .ro, false, false, 0⟩]⟩,
  ⟨0x26006c, [], false, 0, [⟨0, 32, .ro, false, false, 0⟩]⟩,
  ⟨0x260200, [], true, 0, [⟨0, 2, .t, false, false, 0⟩, ⟨4, 1, .t, false, false, 0⟩, ⟨5, 1, .t, false, false, 0⟩, ⟨8, 3, .t, false, false, 0⟩, ⟨16, 8, .t, false, false, 0xa⟩]⟩,
  ⟨0x260204, [], true, 0, [⟨0, 16, .t, false, false, 0⟩, ⟨16, 16, .t, false, false, 0⟩]⟩,
  ⟨0x260208, [], true, 0, [⟨0, 20, .t, false, false, 0x3e8⟩]⟩,
  ⟨0x26020c, [], false, 0, [⟨0, 16, .rw, false, false, 0⟩]⟩,
  ⟨0x260210, [], false, 0, [⟨0, 1, .wo, true, false, 0⟩, ⟨1, 1, .wo, true, false, 0⟩, ⟨2, 1, .wo, true, false, 0⟩, ⟨3, 1, .wo, true, false, 0⟩]⟩,
  ⟨0x260214, [], false, 0, [⟨0, 1, .lv, false, false, 0⟩, ⟨1, 1, .lv, false, false, 0⟩, ⟨2, 1, .lv, false, false, 0⟩, ⟨3, 1, .lv, false, false, 0⟩, ⟨4, 1, .lv, false, false, 0⟩]⟩,
  ⟨0x260220, [], false, 1, [⟨0, 32, .ro, false, false, 0⟩]⟩,
  ⟨0x260224, [], false, 2, [⟨0, 16, .ro, false, false, 0⟩]⟩,
  ⟨0x260228, [], false, 0, [⟨0, 32, .ro, false, false, 0⟩]⟩,
  ⟨0x26022c, [], false, 0, [⟨0, 32, .ro, false, false, 0⟩]⟩,
  ⟨0x260230, [], false, 1, [⟨0, 32, .ro, false, false, 0⟩]⟩,
  ⟨0x260234, [], false, 2, [⟨0, 32, .ro, false, false, 0⟩]⟩,
  ⟨0x260300, [], false, 0, [⟨0, 8, .rw, false, false, 0⟩, ⟨8, 4, .rw, false, false, 0⟩]⟩,
  ⟨0x260304, [], false, 0, [⟨0, 32, .ro, false, false, 0⟩]⟩,
  ⟨0x260308, [], false, 0, [⟨0, 1, .ro, false, false, 0⟩, ⟨1, 1, .ro, false, false, 0⟩, ⟨2, 1, .ro, false, false, 0⟩, ⟨16, 16, .ro, false, false, 0⟩]⟩,
  ⟨0x260100, [(8, 8)], true, 0, [⟨0, 16, .t, false, false, 0⟩, ⟨16, 16, .t, false, false, 0⟩]⟩,
  ⟨0x260104, [(8, 8)], true, 0, [⟨0, 12, .t, false, false, 0⟩, ⟨12, 1, .t, false, false, 0⟩, ⟨13, 19, .t, false, false, 0⟩]⟩,
  ⟨0x261000, [(16, 256)], false, 0, [⟨0, 16, .ro, false, false, 0⟩, ⟨16, 16, .ro, false, false, 0⟩]⟩,
  ⟨0x261004, [(16, 256)], false, 0, [⟨0, 16, .ro, false, false, 0⟩, ⟨16, 16, .ro, false, false, 0⟩]⟩,
  ⟨0x261008, [(16, 256)], false, 0, [⟨0, 4, .ro, false, false, 0⟩, ⟨16, 16, .ro, false, false, 0⟩]⟩,
  ⟨0x26100c, [(16, 256)], false, 0, [⟨0, 8, .ro, false, false, 0⟩]⟩]

/-- R311 (10): the register words of GDA. -/
def rowsGDA : List RegRow := [
  ⟨0x170000, [], true, 0, [⟨0, 4, .t, true, true, 2⟩, ⟨8, 4, .t, true, true, 4⟩, ⟨16, 1, .t, true, true, 1⟩]⟩,
  ⟨0x170004, [], true, 0, [⟨0, 10, .t, true, true, 0⟩, ⟨16, 10, .t, true, true, 0⟩]⟩,
  ⟨0x170008, [], true, 0, [⟨0, 16, .t, true, true, 0⟩]⟩,
  ⟨0x170010, [], false, 0, [⟨0, 2, .lv, false, false, 0⟩, ⟨2, 1, .lv, false, false, 0⟩, ⟨3, 1, .lv, false, false, 0⟩, ⟨8, 8, .ro, false, false, 0⟩]⟩,
  ⟨0x170014, [], false, 0, [⟨24, 8, .st, false, false, 0⟩, ⟨0, 1, .st, false, false, 0⟩, ⟨1, 1, .st, false, false, 0⟩, ⟨2, 1, .st, false, false, 0⟩, ⟨3, 1, .st, false, false, 0⟩, ⟨4, 1, .st, false, false, 0⟩, ⟨5, 1, .st, false, false, 0⟩, ⟨6, 1, .st, false, false, 0⟩]⟩,
  ⟨0x170018, [], false, 0, [⟨0, 1, .wo, true, false, 0⟩, ⟨1, 1, .wo, true, false, 0⟩, ⟨2, 1, .wo, true, false, 0⟩, ⟨3, 1, .wo, true, false, 0⟩]⟩,
  ⟨0x17001c, [], false, 0, [⟨0, 4, .rw, true, false, 0⟩, ⟨8, 4, .rw, true, false, 0xc⟩, ⟨16, 8, .rw, true, false, 0x18⟩, ⟨24, 8, .rw, true, false, 0x18⟩]⟩,
  ⟨0x170020, [], false, 0, [⟨0, 3, .rw, true, false, 0⟩, ⟨4, 4, .rw, true, false, 0⟩, ⟨8, 8, .rw, true, true, 0⟩, ⟨16, 4, .rw, true, false, 4⟩, ⟨24, 8, .rw, true, false, 0xa⟩]⟩,
  ⟨0x170024, [], false, 0, [⟨0, 8, .rw, true, false, 0x32⟩]⟩,
  ⟨0x170028, [], false, 0, [⟨0, 13, .ro, false, false, 0⟩, ⟨16, 10, .ro, false, false, 0⟩]⟩,
  ⟨0x170040, [], false, 0, [⟨0, 32, .ro, false, false, 0⟩]⟩,
  ⟨0x170044, [], false, 0, [⟨0, 32, .ro, false, false, 0⟩]⟩,
  ⟨0x170048, [], false, 0, [⟨0, 32, .ro, false, false, 0⟩]⟩,
  ⟨0x17004c, [], false, 0, [⟨0, 32, .ro, false, false, 0⟩]⟩,
  ⟨0x170050, [], false, 0, [⟨0, 32, .ro, false, false, 0⟩]⟩]

/-- R311 (10): the register words of GDB. -/
def rowsGDB : List RegRow := [
  ⟨0x570000, [], true, 0, [⟨0, 5, .t, true, true, 8⟩]⟩,
  ⟨0x570004, [], true, 0, [⟨0, 16, .t, true, true, 0⟩]⟩,
  ⟨0x570010, [], false, 0, [⟨0, 2, .lv, false, false, 0⟩, ⟨2, 1, .lv, false, false, 0⟩, ⟨3, 1, .lv, false, false, 0⟩, ⟨4, 1, .lv, false, false, 0⟩, ⟨5, 1, .lv, false, false, 0⟩, ⟨8, 8, .ro, false, false, 0⟩]⟩,
  ⟨0x570014, [], false, 0, [⟨24, 8, .st, false, false, 0⟩, ⟨0, 1, .st, false, false, 0⟩, ⟨1, 1, .st, false, false, 0⟩, ⟨2, 1, .st, false, false, 0⟩, ⟨3, 1, .st, false, false, 0⟩, ⟨4, 1, .st, false, false, 0⟩, ⟨5, 1, .st, false, false, 0⟩, ⟨6, 1, .st, false, false, 0⟩, ⟨7, 1, .st, false, false, 0⟩]⟩,
  ⟨0x570018, [], false, 0, [⟨0, 1, .wo, true, false, 0⟩, ⟨1, 1, .wo, true, false, 0⟩, ⟨2, 1, .wo, true, false, 0⟩, ⟨3, 1, .wo, true, false, 0⟩, ⟨4, 1, .wo, true, false, 0⟩]⟩,
  ⟨0x57001c, [], false, 0, [⟨0, 4, .rw, true, false, 0⟩, ⟨8, 4, .rw, true, false, 0xc⟩, ⟨16, 8, .rw, true, false, 0x10⟩, ⟨24, 8, .rw, true, false, 0x10⟩]⟩,
  ⟨0x570020, [], false, 0, [⟨0, 1, .rw, true, false, 0⟩, ⟨16, 16, .rw, true, true, 0x64⟩]⟩,
  ⟨0x570024, [], false, 0, [⟨0, 10, .ro, false, false, 0⟩]⟩,
  ⟨0x570040, [], false, 0, [⟨0, 32, .ro, false, false, 0⟩]⟩,
  ⟨0x570044, [], false, 0, [⟨0, 32, .ro, false, false, 0⟩]⟩,
  ⟨0x570048, [], false, 0, [⟨0, 32, .ro, false, false, 0⟩]⟩,
  ⟨0x57004c, [], false, 0, [⟨0, 32, .ro, false, false, 0⟩]⟩,
  ⟨0x570050, [], false, 0, [⟨0, 32, .ro, false, false, 0⟩]⟩,
  ⟨0x570054, [], false, 0, [⟨0, 32, .ro, false, false, 0⟩]⟩,
  ⟨0x570058, [], false, 0, [⟨0, 32, .ro, false, false, 0⟩]⟩]

/-- R343 (11): the register words of RNG. -/
def rowsRNG : List RegRow := [
  ⟨0x310000, [], true, 0, [⟨0, 16, .t, false, false, 0⟩, ⟨16, 1, .t, false, false, 0⟩]⟩,
  ⟨0x310004, [], false, 0, [⟨24, 8, .st, false, false, 0⟩, ⟨0, 1, .st, false, false, 0⟩, ⟨1, 1, .st, false, false, 0⟩, ⟨2, 1, .st, false, false, 0⟩, ⟨3, 1, .st, false, false, 0⟩, ⟨4, 1, .st, false, false, 0⟩, ⟨5, 1, .st, false, false, 0⟩, ⟨6, 1, .st, false, false, 0⟩]⟩,
  ⟨0x310008, [], false, 0, [⟨0, 12, .ro, false, false, 0⟩]⟩,
  ⟨0x31000c, [], false, 0, [⟨0, 32, .ro, false, false, 0⟩]⟩,
  ⟨0x310010, [], false, 1, [⟨0, 32, .ro, false, false, 0⟩]⟩,
  ⟨0x310014, [], false, 2, [⟨0, 16, .ro, false, false, 0⟩]⟩,
  ⟨0x310018, [], false, 0, [⟨0, 32, .ro, false, false, 0⟩]⟩,
  ⟨0x31001c, [], false, 0, [⟨0, 32, .ro, false, false, 0⟩]⟩,
  ⟨0x310020, [], false, 0, [⟨0, 16, .ro, false, false, 0⟩]⟩,
  ⟨0x310024, [], false, 0, [⟨0, 4, .ro, false, false, 0⟩]⟩,
  ⟨0x310040, [], false, 0, [⟨0, 32, .ro, false, false, 0⟩]⟩,
  ⟨0x310044, [], false, 0, [⟨0, 32, .ro, false, false, 0⟩]⟩,
  ⟨0x310048, [], false, 0, [⟨0, 32, .ro, false, false, 0⟩]⟩,
  ⟨0x31004c, [], false, 0, [⟨0, 32, .ro, false, false, 0⟩]⟩,
  ⟨0x310050, [], false, 0, [⟨0, 32, .ro, false, false, 0⟩]⟩,
  ⟨0x310054, [], false, 0, [⟨0, 32, .ro, false, false, 0⟩]⟩,
  ⟨0x310058, [], false, 0, [⟨0, 32, .ro, false, false, 0⟩]⟩,
  ⟨0x310400, [(64, 64)], false, 0, [⟨0, 32, .ro, false, false, 0⟩]⟩,
  ⟨0x310404, [(64, 64)], false, 0, [⟨0, 2, .lv, false, false, 0⟩, ⟨2, 1, .ro, false, false, 0⟩, ⟨4, 3, .ro, false, false, 0⟩, ⟨8, 2, .ro, false, false, 0⟩, ⟨16, 8, .ro, false, false, 0⟩, ⟨24, 4, .ro, false, false, 0⟩]⟩,
  ⟨0x310408, [(64, 64)], false, 0, [⟨0, 16, .ro, false, false, 0⟩, ⟨16, 16, .ro, false, false, 0⟩]⟩,
  ⟨0x31040c, [(64, 64)], false, 0, [⟨0, 32, .ro, false, false, 0⟩]⟩,
  ⟨0x310410, [(64, 64)], false, 0, [⟨0, 32, .ro, false, false, 0⟩]⟩,
  ⟨0x310418, [(64, 64)], false, 1, [⟨0, 32, .ro, false, false, 0⟩]⟩,
  ⟨0x31041c, [(64, 64)], false, 2, [⟨0, 16, .ro, false, false, 0⟩]⟩,
  ⟨0x310420, [(64, 64)], false, 1, [⟨0, 32, .ro, false, false, 0⟩]⟩,
  ⟨0x310424, [(64, 64)], false, 2, [⟨0, 16, .ro, false, false, 0⟩]⟩,
  ⟨0x310428, [(64, 64)], false, 0, [⟨0, 32, .ro, false, false, 0⟩]⟩,
  ⟨0x31043c, [(64, 64)], false, 0, [⟨0, 2, .wo, true, false, 0⟩, ⟨8, 24, .wo, true, false, 0⟩]⟩,
  ⟨0x312000, [(64, 64), (8, 8)], false, 1, [⟨0, 32, .ro, false, false, 0⟩]⟩,
  ⟨0x312004, [(64, 64), (8, 8)], false, 2, [⟨0, 32, .ro, false, false, 0⟩]⟩]

/-- R343 (11): the register words of CMP. -/
def rowsCMP : List RegRow := [
  ⟨0x320000, [], false, 0, [⟨0, 1, .rw, false, false, 1⟩, ⟨16, 16, .rw, false, false, 0x3e8⟩]⟩,
  ⟨0x320004, [], false, 0, [⟨24, 8, .st, false, false, 0⟩, ⟨0, 1, .st, false, false, 0⟩, ⟨1, 1, .st, false, false, 0⟩, ⟨2, 1, .st, false, false, 0⟩]⟩,
  ⟨0x320040, [], false, 0, [⟨0, 32, .ro, false, false, 0⟩]⟩,
  ⟨0x320044, [], false, 0, [⟨0, 32, .ro, false, false, 0⟩]⟩,
  ⟨0x320048, [], false, 0, [⟨0, 32, .ro, false, false, 0⟩]⟩,
  ⟨0x32004c, [], false, 0, [⟨0, 32, .ro, false, false, 0⟩]⟩,
  ⟨0x320050, [], false, 0, [⟨0, 32, .ro, false, false, 0⟩]⟩,
  ⟨0x320054, [], false, 0, [⟨0, 32, .ro, false, false, 0⟩]⟩,
  ⟨0x320400, [(16, 64)], false, 0, [⟨0, 2, .ro, false, false, 0⟩, ⟨8, 1, .lv, false, false, 0⟩]⟩,
  ⟨0x320404, [(16, 64)], false, 0, [⟨0, 17, .ro, false, false, 0⟩]⟩,
  ⟨0x320408, [(16, 64)], false, 0, [⟨0, 32, .ro, false, false, 0⟩]⟩]

/-- R343 (11): the register words of CVU. -/
def rowsCVU : List RegRow := [
  ⟨0x330000, [], false, 0, [⟨24, 8, .st, false, false, 0⟩, ⟨0, 8, .st, false, false, 0⟩, ⟨8, 8, .st, false, false, 0⟩]⟩,
  ⟨0x330004, [], false, 0, [⟨0, 8, .rw, true, false, 0x3f⟩]⟩,
  ⟨0x330100, [(128, 8)], false, 0, [⟨0, 1, .rw, true, false, 0⟩, ⟨1, 2, .rw, true, false, 0⟩, ⟨3, 2, .rw, true, false, 0⟩, ⟨5, 1, .rw, true, false, 0⟩, ⟨6, 1, .rw, true, false, 0⟩]⟩,
  ⟨0x330104, [(128, 8)], false, 0, [⟨0, 3, .wo, true, false, 0⟩]⟩,
  ⟨0x330108, [(128, 8)], false, 0, [⟨0, 2, .lv, false, false, 0⟩, ⟨2, 1, .lv, false, false, 0⟩]⟩,
  ⟨0x33010c, [(128, 8)], false, 0, [⟨0, 32, .wo, false, false, 0⟩]⟩,
  ⟨0x330110, [(128, 8)], false, 1, [⟨0, 32, .rw, true, false, 0⟩]⟩,
  ⟨0x330114, [(128, 8)], false, 2, [⟨0, 32, .rw, true, false, 0⟩]⟩,
  ⟨0x330118, [(128, 8)], false, 1, [⟨0, 32, .rw, true, false, 0⟩]⟩,
  ⟨0x33011c, [(128, 8)], false, 2, [⟨0, 32, .rw, true, false, 0⟩]⟩,
  ⟨0x330120, [(128, 8)], false, 0, [⟨0, 32, .rw, true, false, 0⟩]⟩,
  ⟨0x330128, [(128, 8)], false, 1, [⟨0, 32, .rw, true, false, 0⟩]⟩,
  ⟨0x33012c, [(128, 8)], false, 2, [⟨0, 32, .rw, true, false, 0⟩]⟩,
  ⟨0x330130, [(128, 8)], false, 0, [⟨0, 32, .rw, true, false, 0⟩]⟩,
  ⟨0x330138, [(128, 8)], false, 1, [⟨0, 32, .rw, true, false, 0⟩]⟩,
  ⟨0x33013c, [(128, 8)], false, 2, [⟨0, 32, .rw, true, false, 0⟩]⟩,
  ⟨0x330140, [(128, 8)], false, 1, [⟨0, 32, .ro, false, false, 0⟩]⟩,
  ⟨0x330144, [(128, 8)], false, 2, [⟨0, 32, .ro, false, false, 0⟩]⟩,
  ⟨0x330148, [(128, 8)], false, 0, [⟨0, 32, .ro, false, false, 0⟩]⟩]

/-- R368 (12): the register words of DMC. -/
def rowsDMC : List RegRow := [
  ⟨0x300000, [], false, 0, [⟨0, 2, .rw, true, false, 0⟩, ⟨2, 2, .rw, true, false, 2⟩, ⟨4, 1, .rw, true, false, 1⟩]⟩,
  ⟨0x300004, [], false, 0, [⟨0, 3, .lv, false, false, 0⟩, ⟨4, 3, .lv, false, false, 0⟩, ⟨8, 3, .lv, false, false, 0⟩, ⟨12, 3, .lv, false, false, 0⟩]⟩,
  ⟨0x300008, [], false, 0, [⟨24, 8, .st, false, false, 0⟩, ⟨0, 1, .st, false, false, 0⟩, ⟨1, 1, .st, false, false, 0⟩, ⟨2, 1, .st, false, false, 0⟩, ⟨3, 1, .st, false, false, 0⟩, ⟨4, 1, .st, false, false, 0⟩, ⟨5, 1, .st, false, false, 0⟩, ⟨6, 1, .st, false, false, 0⟩, ⟨7, 1, .st, false, false, 0⟩, ⟨8, 1, .st, false, false, 0⟩]⟩,
  ⟨0x30000c, [], false, 0, [⟨0, 1, .wo, true, false, 0⟩]⟩,
  ⟨0x300010, [], false, 0, [⟨0, 4, .rw, true, false, 0⟩, ⟨4, 1, .rw, true, false, 0⟩, ⟨8, 8, .rw, true, false, 0x55⟩, ⟨16, 8, .rw, true, false, 0x69⟩]⟩,
  ⟨0x300014, [], false, 0, [⟨0, 2, .lv, false, false, 0⟩, ⟨2, 2, .lv, false, false, 0⟩, ⟨4, 2, .lv, false, false, 0⟩, ⟨6, 2, .lv, false, false, 0⟩, ⟨8, 2, .lv, false, false, 0⟩, ⟨10, 2, .lv, false, false, 0⟩, ⟨12, 2, .lv, false, false, 0⟩, ⟨14, 2, .lv, false, false, 0⟩, ⟨16, 3, .ro, false, false, 0⟩]⟩,
  ⟨0x300018, [], false, 0, [⟨0, 1, .rw, true, false, 1⟩, ⟨1, 1, .rw, true, false, 1⟩, ⟨16, 16, .rw, true, false, 0x64⟩]⟩,
  ⟨0x30001c, [], false, 0, [⟨0, 1, .rw, true, false, 0⟩, ⟨1, 1, .rw, true, false, 0⟩]⟩,
  ⟨0x300020, [], false, 0, [⟨0, 1, .rw, true, false, 1⟩, ⟨8, 8, .rw, true, false, 8⟩]⟩,
  ⟨0x300024, [], false, 0, [⟨0, 12, .rw, true, false, 0x800⟩, ⟨12, 8, .rw, true, false, 0x10⟩, ⟨20, 12, .rw, true, false, 0xc8⟩]⟩,
  ⟨0x300028, [], false, 0, [⟨0, 16, .rw, true, false, 0x64⟩, ⟨16, 8, .rw, true, false, 6⟩]⟩,
  ⟨0x30002c, [], false, 0, [⟨0, 4, .ro, false, false, 0⟩, ⟨4, 4, .ro, false, false, 0⟩, ⟨8, 4, .ro, false, false, 0⟩, ⟨12, 4, .ro, false, false, 0⟩]⟩,
  ⟨0x300030, [], false, 1, [⟨0, 32, .ro, false, false, 0⟩]⟩,
  ⟨0x300034, [], false, 2, [⟨0, 32, .ro, false, false, 0⟩]⟩,
  ⟨0x300038, [], false, 0, [⟨0, 4, .ro, false, false, 0⟩]⟩,
  ⟨0x30003c, [], false, 0, [⟨0, 11, .lv, false, false, 0⟩]⟩,
  ⟨0x300100, [(64, 4)], false, 0, [⟨0, 32, .ro, false, false, 0⟩]⟩,
  ⟨0x300104, [(64, 4)], false, 0, [⟨0, 32, .ro, false, false, 0⟩]⟩,
  ⟨0x300108, [(64, 4)], false, 0, [⟨0, 32, .ro, false, false, 0⟩]⟩,
  ⟨0x30010c, [(64, 4)], false, 0, [⟨0, 32, .ro, false, false, 0⟩]⟩,
  ⟨0x300110, [(64, 4)], false, 0, [⟨0, 32, .ro, false, false, 0⟩]⟩,
  ⟨0x300114, [(64, 4)], false, 0, [⟨0, 32, .ro, false, false, 0⟩]⟩,
  ⟨0x300118, [(64, 4)], false, 0, [⟨0, 32, .ro, false, false, 0⟩]⟩,
  ⟨0x30011c, [(64, 4)], false, 0, [⟨0, 32, .ro, false, false, 0⟩]⟩,
  ⟨0x300120, [(64, 4)], false, 0, [⟨0, 32, .ro, false, false, 0⟩]⟩,
  ⟨0x300124, [(64, 4)], false, 0, [⟨0, 32, .ro, false, false, 0⟩]⟩,
  ⟨0x300128, [(64, 4)], false, 0, [⟨0, 32, .ro, false, false, 0⟩]⟩,
  ⟨0x30012c, [(64, 4)], false, 0, [⟨0, 32, .ro, false, false, 0⟩]⟩]

/-- R398 (13): the register words of REF. -/
def rowsREF : List RegRow := [
  ⟨0x520000, [], true, 0, [⟨0, 1, .t, false, false, 0⟩]⟩,
  ⟨0x520004, [], false, 0, [⟨24, 8, .st, false, false, 0⟩, ⟨0, 1, .st, false, false, 0⟩, ⟨1, 1, .st, false, false, 0⟩, ⟨2, 1, .st, false, false, 0⟩, ⟨3, 1, .st, false, false, 0⟩, ⟨4, 1, .st, false, false, 0⟩, ⟨5, 1, .st, false, false, 0⟩, ⟨6, 1, .st, false, false, 0⟩, ⟨7, 1, .st, false, false, 0⟩, ⟨8, 1, .st, false, false, 0⟩, ⟨9, 1, .st, false, false, 0⟩]⟩,
  ⟨0x520008, [], true, 0, [⟨0, 5, .t, false, false, 1⟩, ⟨8, 24, .t, false, false, 0⟩]⟩,
  ⟨0x52000c, [], true, 0, [⟨0, 3, .t, false, false, 1⟩, ⟨4, 3, .t, false, false, 0⟩, ⟨16, 16, .t, false, false, 1⟩]⟩,
  ⟨0x520010, [], true, 0, [⟨0, 6, .t, false, false, 0⟩]⟩,
  ⟨0x520014, [], false, 0, [⟨0, 1, .wo, true, false, 0⟩, ⟨1, 1, .wo, false, false, 0⟩]⟩,
  ⟨0x520018, [], false, 0, [⟨0, 16, .rw, true, false, 0⟩]⟩,
  ⟨0x52001c, [], false, 0, [⟨0, 2, .lv, false, false, 0⟩, ⟨4, 4, .lv, false, false, 0⟩, ⟨8, 4, .lv, false, false, 0⟩, ⟨12, 1, .lv, false, false, 0⟩]⟩,
  ⟨0x520020, [], false, 0, [⟨0, 12, .lv, false, false, 0⟩]⟩,
  ⟨0x520024, [], false, 0, [⟨0, 16, .lv, false, false, 0⟩, ⟨16, 16, .lv, false, false, 0⟩]⟩,
  ⟨0x520028, [], false, 0, [⟨0, 8, .lv, false, false, 0⟩, ⟨8, 8, .lv, false, false, 0⟩]⟩,
  ⟨0x520090, [], false, 0, [⟨0, 32, .ro, false, false, 0⟩]⟩,
  ⟨0x520094, [], false, 0, [⟨0, 32, .ro, false, false, 0⟩]⟩,
  ⟨0x520098, [], false, 0, [⟨0, 32, .ro, false, false, 0⟩]⟩,
  ⟨0x52009c, [], false, 0, [⟨0, 32, .ro, false, false, 0⟩]⟩,
  ⟨0x5200a0, [], false, 0, [⟨0, 32, .ro, false, false, 0⟩]⟩,
  ⟨0x5200a4, [], false, 0, [⟨0, 32, .ro, false, false, 0⟩]⟩,
  ⟨0x520040, [(4, 16)], true, 0, [⟨0, 4, .t, false, false, 0⟩, ⟨4, 2, .t, false, false, 0⟩, ⟨7, 1, .t, false, false, 0⟩]⟩,
  ⟨0x520080, [(4, 4)], true, 0, [⟨0, 4, .t, false, false, 0⟩, ⟨4, 2, .t, false, false, 0⟩, ⟨7, 1, .t, false, false, 0⟩]⟩,
  ⟨0x520100, [(64, 16)], true, 0, [⟨0, 4, .t, false, false, 0⟩, ⟨4, 4, .t, false, false, 0⟩, ⟨8, 3, .t, false, false, 0⟩, ⟨11, 1, .t, false, false, 0⟩, ⟨12, 2, .t, false, false, 0⟩, ⟨14, 1, .t, false, false, 0⟩, ⟨16, 4, .t, false, false, 0xc⟩]⟩,
  ⟨0x520104, [(64, 16)], true, 0, [⟨0, 32, .t, false, false, 0⟩]⟩,
  ⟨0x520108, [(64, 16)], true, 0, [⟨0, 32, .t, false, false, 0⟩]⟩,
  ⟨0x52010c, [(64, 16)], true, 0, [⟨0, 32, .t, false, false, 0x80000000⟩]⟩,
  ⟨0x520110, [(64, 16)], true, 0, [⟨0, 32, .t, false, false, 0x7fffffff⟩]⟩,
  ⟨0x520114, [(64, 16)], false, 0, [⟨0, 24, .ro, false, false, 0⟩, ⟨24, 3, .ro, false, false, 0⟩]⟩,
  ⟨0x520118, [(64, 16)], false, 0, [⟨0, 32, .ro, false, false, 0⟩]⟩,
  ⟨0x52011c, [(64, 16)], false, 0, [⟨0, 3, .ro, false, false, 1⟩, ⟨3, 1, .ro, false, false, 0⟩, ⟨4, 3, .ro, false, false, 0⟩, ⟨16, 16, .ro, false, false, 0⟩]⟩,
  ⟨0x520120, [(64, 16)], false, 1, [⟨0, 32, .ro, false, false, 0⟩]⟩,
  ⟨0x520124, [(64, 16)], false, 2, [⟨0, 32, .ro, false, false, 0⟩]⟩,
  ⟨0x520128, [(64, 16)], false, 0, [⟨0, 32, .ro, false, false, 0⟩]⟩,
  ⟨0x52012c, [(64, 16)], false, 0, [⟨0, 32, .ro, false, false, 0⟩]⟩,
  ⟨0x520130, [(64, 16)], false, 0, [⟨0, 32, .ro, false, false, 0⟩]⟩,
  ⟨0x520134, [(64, 16)], false, 0, [⟨0, 32, .ro, false, false, 0⟩]⟩,
  ⟨0x520600, [(16, 8)], true, 0, [⟨0, 4, .t, false, false, 0⟩, ⟨4, 1, .t, false, false, 0⟩, ⟨5, 2, .t, false, false, 0⟩, ⟨7, 1, .t, false, false, 0⟩]⟩,
  ⟨0x520604, [(16, 8)], true, 0, [⟨0, 32, .t, false, false, 0⟩]⟩,
  ⟨0x520608, [(16, 8)], true, 0, [⟨0, 32, .t, false, false, 0⟩]⟩,
  ⟨0x520800, [(4, 8)], false, 0, [⟨0, 24, .rw, false, false, 0⟩]⟩,
  ⟨0x520820, [(4, 8)], false, 0, [⟨0, 24, .rw, false, false, 0x400000⟩]⟩,
  ⟨0x520840, [(4, 12)], false, 0, [⟨0, 32, .rw, false, false, 0⟩]⟩]

/-- R398 (13): the register words of TIU. -/
def rowsTIU : List RegRow := [
  ⟨0x530000, [], false, 0, [⟨24, 8, .st, false, false, 0⟩, ⟨0, 4, .st, false, false, 0⟩, ⟨4, 4, .st, false, false, 0⟩, ⟨8, 4, .st, false, false, 0⟩, ⟨12, 4, .st, false, false, 0⟩, ⟨16, 4, .st, false, false, 0⟩]⟩,
  ⟨0x530010, [(4, 4)], true, 0, [⟨0, 3, .t, false, false, 1⟩, ⟨16, 16, .t, false, false, 0⟩]⟩,
  ⟨0x530100, [(64, 4)], true, 0, [⟨0, 1, .t, false, false, 0⟩, ⟨1, 1, .t, false, false, 0⟩, ⟨2, 3, .t, false, false, 0⟩, ⟨5, 3, .t, false, false, 0⟩, ⟨8, 1, .t, false, false, 0⟩, ⟨16, 8, .t, false, false, 1⟩]⟩,
  ⟨0x530104, [(64, 4)], true, 0, [⟨0, 16, .t, false, false, 0x3e8⟩]⟩,
  ⟨0x530108, [(64, 4)], false, 0, [⟨0, 1, .wo, false, false, 0⟩, ⟨1, 1, .wo, false, false, 0⟩]⟩,
  ⟨0x53010c, [(64, 4)], false, 0, [⟨0, 2, .lv, false, false, 0⟩, ⟨4, 1, .lv, false, false, 0⟩]⟩,
  ⟨0x530110, [(64, 4)], false, 0, [⟨0, 32, .ro, false, false, 0⟩]⟩,
  ⟨0x530114, [(64, 4)], false, 0, [⟨0, 1, .ro, false, false, 0⟩, ⟨1, 1, .ro, false, false, 0⟩, ⟨2, 1, .ro, false, false, 0⟩]⟩,
  ⟨0x530118, [(64, 4)], false, 0, [⟨0, 32, .ro, false, false, 0⟩]⟩,
  ⟨0x530120, [(64, 4)], false, 1, [⟨0, 32, .ro, false, false, 0⟩]⟩,
  ⟨0x530124, [(64, 4)], false, 2, [⟨0, 32, .ro, false, false, 0⟩]⟩,
  ⟨0x530128, [(64, 4)], false, 1, [⟨0, 32, .ro, false, false, 0⟩]⟩,
  ⟨0x53012c, [(64, 4)], false, 2, [⟨0, 32, .ro, false, false, 0⟩]⟩,
  ⟨0x530130, [(64, 4)], false, 0, [⟨0, 32, .ro, false, false, 0⟩]⟩,
  ⟨0x530134, [(64, 4)], false, 0, [⟨0, 32, .ro, false, false, 0⟩]⟩,
  ⟨0x530138, [(64, 4)], false, 0, [⟨0, 32, .ro, false, false, 0⟩]⟩,
  ⟨0x53013c, [(64, 4)], false, 0, [⟨0, 32, .ro, false, false, 0⟩]⟩]

/-- R425 (14): the register words of LAN. -/
def rowsLAN : List RegRow := [
  ⟨0x400000, [], false, 0, [⟨0, 1, .rw, true, false, 0⟩]⟩,
  ⟨0x400004, [], false, 0, [⟨24, 8, .st, false, false, 0⟩, ⟨0, 4, .st, false, false, 0⟩, ⟨4, 1, .st, false, false, 0⟩, ⟨5, 1, .st, false, false, 0⟩, ⟨6, 1, .st, false, false, 0⟩, ⟨7, 1, .st, false, false, 0⟩, ⟨8, 1, .st, false, false, 0⟩, ⟨9, 1, .st, false, false, 0⟩, ⟨10, 1, .st, false, false, 0⟩]⟩,
  ⟨0x400040, [], false, 0, [⟨0, 1, .rw, true, false, 1⟩, ⟨1, 1, .rw, true, false, 1⟩, ⟨2, 1, .rw, true, false, 0⟩, ⟨3, 1, .rw, true, false, 0⟩, ⟨4, 1, .wo, true, false, 0⟩, ⟨5, 1, .wo, true, false, 0⟩, ⟨8, 8, .rw, true, false, 0xa⟩]⟩,
  ⟨0x400044, [], false, 0, [⟨0, 3, .lv, false, false, 0⟩, ⟨4, 2, .lv, false, false, 0⟩, ⟨6, 1, .lv, false, false, 0⟩, ⟨7, 1, .lv, false, false, 0⟩, ⟨16, 10, .ro, false, false, 0⟩]⟩,
  ⟨0x400048, [], false, 1, [⟨0, 32, .ro, false, false, 0⟩]⟩,
  ⟨0x40004c, [], false, 2, [⟨0, 32, .ro, false, false, 0⟩]⟩,
  ⟨0x400050, [], false, 0, [⟨0, 16, .ro, false, false, 0⟩]⟩,
  ⟨0x400080, [], false, 0, [⟨0, 32, .ro, false, false, 0⟩]⟩,
  ⟨0x400084, [], false, 0, [⟨0, 32, .ro, false, false, 0⟩]⟩,
  ⟨0x400088, [], false, 0, [⟨0, 32, .ro, false, false, 0⟩]⟩,
  ⟨0x40008c, [], false, 0, [⟨0, 32, .ro, false, false, 0⟩]⟩,
  ⟨0x400090, [], false, 0, [⟨0, 32, .ro, false, false, 0⟩]⟩,
  ⟨0x400094, [], false, 0, [⟨0, 32, .ro, false, false, 0⟩]⟩,
  ⟨0x400098, [], false, 0, [⟨0, 32, .ro, false, false, 0⟩]⟩,
  ⟨0x40009c, [], false, 0, [⟨0, 32, .ro, false, false, 0⟩]⟩,
  ⟨0x4000a0, [], false, 0, [⟨0, 32, .ro, false, false, 0⟩]⟩,
  ⟨0x400010, [(4, 4)], false, 0, [⟨0, 3, .lv, false, false, 0⟩, ⟨4, 1, .lv, false, false, 0⟩, ⟨5, 1, .lv, false, false, 0⟩, ⟨6, 1, .lv, false, false, 0⟩]⟩,
  ⟨0x400020, [(4, 4)], false, 0, [⟨0, 32, .ro, false, false, 0⟩]⟩,
  ⟨0x400100, [(32, 4)], false, 0, [⟨0, 32, .ro, false, false, 0⟩]⟩,
  ⟨0x400104, [(32, 4)], false, 0, [⟨0, 32, .ro, false, false, 0⟩]⟩,
  ⟨0x400108, [(32, 4)], false, 0, [⟨0, 32, .ro, false, false, 0⟩]⟩,
  ⟨0x40010c, [(32, 4)], false, 0, [⟨0, 32, .ro, false, false, 0⟩]⟩,
  ⟨0x400110, [(32, 4)], false, 0, [⟨0, 32, .ro, false, false, 0⟩]⟩]

/-- R425 (14): the register words of ETH. -/
def rowsETH : List RegRow := [
  ⟨0x410000, [], false, 0, [⟨0, 1, .rw, true, false, 0⟩, ⟨8, 1, .rw, true, false, 0⟩, ⟨1, 1, .rw, true, false, 0⟩, ⟨9, 1, .rw, true, false, 0⟩, ⟨2, 1, .rw, true, false, 1⟩, ⟨10, 1, .rw, true, false, 1⟩, ⟨3, 1, .rw, true, false, 0⟩, ⟨11, 1, .rw, true, false, 0⟩]⟩,
  ⟨0x410004, [], false, 0, [⟨24, 8, .st, false, false, 0⟩, ⟨0, 4, .st, false, false, 0⟩, ⟨4, 4, .st, false, false, 0⟩, ⟨8, 1, .st, false, false, 0⟩, ⟨9, 1, .st, false, false, 0⟩]⟩,
  ⟨0x410008, [], false, 0, [⟨0, 16, .rw, true, false, 0xb9f0⟩]⟩,
  ⟨0x41000c, [], false, 0, [⟨0, 1, .rw, true, false, 0⟩]⟩,
  ⟨0x410100, [(64, 4)], false, 1, [⟨0, 32, .rw, true, false, 0⟩]⟩,
  ⟨0x410104, [(64, 4)], false, 2, [⟨0, 16, .rw, true, false, 0⟩]⟩,
  ⟨0x410108, [(64, 4)], false, 0, [⟨0, 32, .rw, true, false, 0⟩]⟩,
  ⟨0x41010c, [(64, 4)], false, 0, [⟨0, 12, .rw, true, false, 0⟩, ⟨12, 3, .rw, true, false, 0⟩, ⟨15, 1, .rw, true, false, 0⟩, ⟨16, 6, .rw, true, false, 0⟩]⟩,
  ⟨0x410110, [(64, 4)], false, 0, [⟨0, 14, .rw, true, false, 0x5ee⟩]⟩,
  ⟨0x410114, [(64, 4)], false, 0, [⟨0, 3, .lv, false, false, 0⟩, ⟨4, 1, .lv, false, false, 0⟩]⟩,
  ⟨0x410118, [(64, 4)], false, 0, [⟨0, 16, .rw, true, false, 0⟩, ⟨16, 16, .rw, true, false, 0⟩]⟩,
  ⟨0x41011c, [(64, 4)], false, 0, [⟨0, 32, .rw, true, false, 0⟩]⟩,
  ⟨0x410120, [(64, 4)], false, 0, [⟨0, 16, .ro, false, false, 0⟩, ⟨16, 4, .ro, false, false, 0⟩, ⟨31, 1, .lv, false, false, 0⟩]⟩,
  ⟨0x410124, [(64, 4)], false, 0, [⟨0, 1, .wo, false, false, 0⟩]⟩,
  ⟨0x410128, [(64, 4)], false, 1, [⟨0, 32, .ro, false, false, 0⟩]⟩,
  ⟨0x41012c, [(64, 4)], false, 2, [⟨0, 32, .ro, false, false, 0⟩]⟩,
  ⟨0x410400, [(64, 4)], false, 0, [⟨0, 32, .ro, false, false, 0⟩]⟩,
  ⟨0x410404, [(64, 4)], false, 0, [⟨0, 32, .ro, false, false, 0⟩]⟩,
  ⟨0x410408, [(64, 4)], false, 0, [⟨0, 32, .ro, false, false, 0⟩]⟩,
  ⟨0x41040c, [(64, 4)], false, 0, [⟨0, 32, .ro, false, false, 0⟩]⟩,
  ⟨0x410410, [(64, 4)], false, 0, [⟨0, 32, .ro, false, false, 0⟩]⟩,
  ⟨0x410414, [(64, 4)], false, 0, [⟨0, 32, .ro, false, false, 0⟩]⟩,
  ⟨0x410418, [(64, 4)], false, 0, [⟨0, 32, .ro, false, false, 0⟩]⟩,
  ⟨0x41041c, [(64, 4)], false, 0, [⟨0, 32, .ro, false, false, 0⟩]⟩,
  ⟨0x410420, [(64, 4)], false, 0, [⟨0, 32, .ro, false, false, 0⟩]⟩,
  ⟨0x410424, [(64, 4)], false, 0, [⟨0, 32, .ro, false, false, 0⟩]⟩]

/-- R473 (15): the register words of KPE. -/
def rowsKPE : List RegRow := [
  ⟨0x420000, [], false, 0, [⟨0, 1, .rw, true, false, 1⟩, ⟨1, 1, .rw, true, false, 1⟩, ⟨8, 8, .rw, true, false, 0x40⟩]⟩,
  ⟨0x420004, [], false, 0, [⟨24, 8, .st, false, false, 0⟩, ⟨0, 1, .st, false, false, 0⟩, ⟨1, 1, .st, false, false, 0⟩, ⟨2, 1, .st, false, false, 0⟩, ⟨3, 1, .st, false, false, 0⟩, ⟨4, 1, .st, false, false, 0⟩, ⟨5, 1, .st, false, false, 0⟩, ⟨6, 1, .st, false, false, 0⟩]⟩,
  ⟨0x420008, [], false, 0, [⟨0, 8, .lv, false, false, 0⟩, ⟨8, 3, .lv, false, false, 0⟩, ⟨16, 8, .lv, false, false, 0⟩, ⟨24, 8, .lv, false, false, 0⟩]⟩,
  ⟨0x42000c, [], false, 0, [⟨0, 8, .lv, false, false, 0xff⟩, ⟨16, 16, .lv, false, false, 0⟩]⟩,
  ⟨0x420040, [], false, 0, [⟨0, 32, .ro, false, false, 0⟩]⟩,
  ⟨0x420044, [], false, 0, [⟨0, 32, .ro, false, false, 0⟩]⟩,
  ⟨0x420048, [], false, 0, [⟨0, 32, .ro, false, false, 0⟩]⟩,
  ⟨0x42004c, [], false, 0, [⟨0, 32, .ro, false, false, 0⟩]⟩,
  ⟨0x420050, [], false, 0, [⟨0, 32, .ro, false, false, 0⟩]⟩,
  ⟨0x420054, [], false, 0, [⟨0, 32, .ro, false, false, 0⟩]⟩,
  ⟨0x420058, [], false, 0, [⟨0, 32, .ro, false, false, 0⟩]⟩,
  ⟨0x42005c, [], false, 0, [⟨0, 32, .ro, false, false, 0⟩]⟩,
  ⟨0x420060, [], false, 0, [⟨0, 32, .ro, false, false, 0⟩]⟩,
  ⟨0x421000, [(32, 128)], false, 0, [⟨0, 2, .lv, false, false, 0⟩, ⟨2, 1, .lv, false, false, 0⟩, ⟨3, 1, .ro, false, false, 0⟩, ⟨4, 3, .ro, false, false, 0⟩, ⟨8, 8, .ro, false, false, 0⟩, ⟨16, 7, .ro, false, false, 0⟩]⟩,
  ⟨0x421004, [(32, 128)], false, 0, [⟨0, 16, .rw, false, false, 0xa⟩, ⟨16, 10, .rw, false, false, 0x14⟩]⟩,
  ⟨0x421008, [(32, 128)], false, 0, [⟨0, 9, .rw, false, false, 0x40⟩, ⟨16, 8, .rw, false, false, 0x1f⟩]⟩,
  ⟨0x42100c, [(32, 128)], false, 0, [⟨0, 32, .ro, false, false, 0⟩]⟩,
  ⟨0x421010, [(32, 128)], false, 0, [⟨0, 32, .ro, false, false, 0⟩]⟩,
  ⟨0x421014, [(32, 128)], false, 0, [⟨0, 32, .ro, false, false, 0⟩]⟩,
  ⟨0x421018, [(32, 128)], false, 0, [⟨0, 32, .ro, false, false, 0⟩]⟩,
  ⟨0x42101c, [(32, 128)], false, 0, [⟨0, 32, .ro, false, false, 0⟩]⟩]

/-- R508 (16): the register words of MGC. -/
def rowsMGC : List RegRow := [
  ⟨0x500000, [], false, 0, [⟨0, 16, .rw, true, false, 0x7d0⟩]⟩,
  ⟨0x500004, [], false, 0, [⟨0, 16, .wo, true, false, 0⟩]⟩,
  ⟨0x500030, [], false, 0, [⟨0, 8, .lv, false, false, 0⟩]⟩,
  ⟨0x500040, [], false, 0, [⟨0, 6, .lv, false, false, 0⟩, ⟨16, 6, .rw, false, false, 0x3f⟩]⟩,
  ⟨0x500050, [], false, 0, [⟨0, 2, .ro, false, false, 0⟩, ⟨2, 1, .ro, false, false, 0⟩, ⟨4, 2, .ro, false, false, 0⟩, ⟨8, 2, .lv, false, false, 0⟩, ⟨12, 1, .ro, false, false, 0⟩]⟩,
  ⟨0x500010, [(4, 8)], false, 0, [⟨0, 4, .rw, false, false, 0⟩, ⟨4, 1, .rw, false, false, 0⟩, ⟨5, 1, .rw, false, false, 0⟩]⟩]

/-- R508 (16): the register words of SNS. -/
def rowsSNS : List RegRow := [
  ⟨0x510000, [], false, 0, [⟨24, 8, .st, false, false, 0⟩, ⟨0, 8, .st, false, false, 0⟩, ⟨8, 1, .st, false, false, 0⟩]⟩,
  ⟨0x510004, [], false, 0, [⟨0, 16, .rw, true, false, 0x1540⟩]⟩,
  ⟨0x510008, [], false, 0, [⟨0, 16, .ro, false, false, 0x8000⟩, ⟨16, 3, .ro, false, false, 0⟩]⟩,
  ⟨0x510080, [], false, 0, [⟨0, 32, .ro, false, false, 0⟩]⟩,
  ⟨0x510084, [], false, 0, [⟨0, 32, .ro, false, false, 0⟩]⟩,
  ⟨0x510010, [(4, 8)], false, 0, [⟨0, 16, .ro, false, false, 0x8000⟩]⟩,
  ⟨0x510040, [(4, 12)], false, 0, [⟨0, 16, .ro, false, false, 0⟩, ⟨16, 1, .lv, false, false, 0⟩]⟩]

/-- R508 (16): the register words of EVR. -/
def rowsEVR : List RegRow := [
  ⟨0x540000, [], false, 0, [⟨0, 10, .rw, true, false, 0x200⟩, ⟨12, 1, .rw, true, false, 0⟩, ⟨16, 8, .rw, true, false, 0xa⟩]⟩,
  ⟨0x540004, [], false, 0, [⟨24, 8, .st, false, false, 0⟩, ⟨0, 1, .st, false, false, 0⟩, ⟨1, 1, .st, false, false, 0⟩, ⟨2, 1, .st, false, false, 0⟩, ⟨3, 1, .st, false, false, 0⟩, ⟨4, 1, .st, false, false, 0⟩]⟩,
  ⟨0x540008, [], false, 0, [⟨0, 1, .lv, false, false, 0⟩, ⟨1, 1, .lv, false, false, 0⟩, ⟨16, 12, .lv, false, false, 0⟩]⟩,
  ⟨0x54000c, [], false, 0, [⟨0, 1, .wo, true, false, 0⟩]⟩,
  ⟨0x540010, [], false, 0, [⟨0, 32, .ro, false, false, 1⟩]⟩,
  ⟨0x540014, [], false, 0, [⟨0, 32, .ro, false, false, 1⟩]⟩,
  ⟨0x540080, [], false, 0, [⟨0, 32, .ro, false, false, 0⟩]⟩,
  ⟨0x540084, [], false, 0, [⟨0, 32, .ro, false, false, 0⟩]⟩,
  ⟨0x540088, [], false, 0, [⟨0, 32, .ro, false, false, 0⟩]⟩,
  ⟨0x54008c, [], false, 0, [⟨0, 32, .ro, false, false, 0⟩]⟩,
  ⟨0x540040, [(4, 4)], false, 0, [⟨0, 32, .ro, false, false, 0⟩]⟩]

/-- R508 (16): the register words of TIM. -/
def rowsTIM : List RegRow := [
  ⟨0x550000, [], false, 0, [⟨0, 2, .rw, true, false, 0⟩, ⟨8, 8, .rw, true, false, 0xc8⟩]⟩,
  ⟨0x550004, [], false, 0, [⟨0, 32, .rw, true, false, 0xf4240⟩]⟩,
  ⟨0x550008, [], false, 0, [⟨0, 16, .rw, true, false, 0x64⟩, ⟨16, 8, .rw, true, false, 3⟩]⟩,
  ⟨0x55000c, [], false, 0, [⟨0, 2, .lv, false, false, 0⟩, ⟨4, 1, .lv, false, false, 0⟩, ⟨5, 1, .lv, false, false, 0⟩]⟩,
  ⟨0x550010, [], false, 0, [⟨24, 8, .st, false, false, 0⟩, ⟨0, 1, .st, false, false, 0⟩, ⟨1, 1, .st, false, false, 0⟩, ⟨2, 1, .st, false, false, 0⟩, ⟨3, 1, .st, false, false, 0⟩]⟩,
  ⟨0x550020, [], false, 1, [⟨0, 32, .ro, false, false, 0⟩]⟩,
  ⟨0x550024, [], false, 2, [⟨0, 32, .ro, false, false, 0⟩]⟩,
  ⟨0x550028, [], false, 1, [⟨0, 32, .ro, false, false, 0⟩]⟩,
  ⟨0x55002c, [], false, 2, [⟨0, 32, .ro, false, false, 0⟩]⟩,
  ⟨0x550030, [], false, 1, [⟨0, 32, .wo, true, false, 0⟩]⟩,
  ⟨0x550034, [], false, 2, [⟨0, 32, .wo, true, false, 0⟩]⟩,
  ⟨0x550038, [], false, 0, [⟨0, 32, .rw, true, false, 0⟩]⟩,
  ⟨0x550040, [], false, 1, [⟨0, 32, .ro, false, false, 0⟩]⟩,
  ⟨0x550044, [], false, 2, [⟨0, 32, .ro, false, false, 0⟩]⟩,
  ⟨0x550048, [], false, 0, [⟨0, 32, .ro, false, false, 0⟩]⟩,
  ⟨0x550080, [], false, 0, [⟨0, 32, .ro, false, false, 0⟩]⟩,
  ⟨0x550084, [], false, 0, [⟨0, 32, .ro, false, false, 0⟩]⟩,
  ⟨0x550088, [], false, 0, [⟨0, 32, .ro, false, false, 0⟩]⟩]

/-- R508 (16): the register words of UPD. -/
def rowsUPD : List RegRow := [
  ⟨0x560000, [], false, 0, [⟨24, 8, .st, false, false, 0⟩, ⟨0, 1, .st, false, false, 0⟩, ⟨1, 1, .st, false, false, 0⟩, ⟨2, 1, .st, false, false, 0⟩]⟩,
  ⟨0x560010, [], false, 0, [⟨0, 6, .rw, true, true, 0⟩]⟩,
  ⟨0x560014, [], false, 0, [⟨0, 32, .wo, true, true, 0⟩]⟩,
  ⟨0x560018, [], false, 0, [⟨0, 8, .ro, false, false, 0⟩]⟩,
  ⟨0x560040, [(4, 8)], false, 0, [⟨0, 32, .ro, false, false, 0⟩]⟩,
  ⟨0x560100, [(4, 64)], false, 0, [⟨0, 32, .ro, false, false, 0⟩]⟩]

/-- R7, R37: the rows of the window that holds the active address `a`. -/
def rowsAt (a : Nat) : List RegRow :=
  match a / 0x10000 with
  | 0 => rowsCHP
  | 16 => rowsPSQ
  | 17 => rowsPSY
  | 18 => rowsSRC
  | 19 => rowsOCC
  | 20 => rowsCRX
  | 22 => rowsCAL
  | 32 => rowsCHN
  | 33 => rowsPCM
  | 34 => rowsPHS
  | 35 => rowsPFL
  | 21 => rowsRMX
  | 36 => rowsDTS
  | 37 => rowsAAR
  | 38 => rowsZON
  | 23 => rowsGDA
  | 87 => rowsGDB
  | 49 => rowsRNG
  | 50 => rowsCMP
  | 51 => rowsCVU
  | 48 => rowsDMC
  | 82 => rowsREF
  | 83 => rowsTIU
  | 64 => rowsLAN
  | 65 => rowsETH
  | 66 => rowsKPE
  | 80 => rowsMGC
  | 81 => rowsSNS
  | 84 => rowsEVR
  | 85 => rowsTIM
  | 86 => rowsUPD
  | _ => []

/-- A row of one register, of an array, or of an array of arrays covers the address `a`. -/
def covers (r : RegRow) (a : Nat) : Bool :=
  match r.dims with
  | [] => a == r.base
  | [(st, n)] => r.base ≤ a && (a - r.base) % st == 0 && (a - r.base) / st < n
  | (st, n) :: (st2, n2) :: _ =>
    r.base ≤ a && (a - r.base) / st < n && (a - r.base) % st % st2 == 0 && (a - r.base) % st / st2 < n2

/-- R37: the row of the active plain address `a`; none: the block defines no register there. -/
def rowAt (a : Nat) : Option RegRow := (rowsAt a).find? (fun r => covers r a)

/-- The reset word of a row (R42 and the maps' Reset column). -/
def rowReset (r : RegRow) : BitVec 32 :=
  r.fields.foldl (fun w f => w ||| BitVec.ofNat 32 ((f.reset % 2 ^ f.width) <<< f.lo)) 0

/-- The reset word at the active plain address `a` (R58); 0 where no register stands. -/
def resetWord (a : Nat) : BitVec 32 := ((rowAt a).map rowReset).getD 0

end Sys2Proof.Machine.Reg
end

