-- ==== Sys2Proof/Machine/State.lean ====
section
/-! DEFINITION. The machine's state as plain data: the register words, the memories, and what each block holds
beside them (chapters 01 to 17), with State.reset: every field at the value the spec gives for reset, or at the
value that the assumption log names. -/

namespace Sys2Proof.Machine

/-- A sparse store of words by address in its canonical form: addresses strictly rising, no zero word; an address
not listed holds zero. -/
abbrev Store (w : Nat) := List (Nat × BitVec w)

/-- R36 to R62 (02): the register words. Each store holds, by active plain address, the difference (exclusive or)
from the word's reset value, so an empty store is the state after reset (R58). -/
structure Regs where
  /-- R42 (02): live fields: RW and RO fields, counters and status words -/
  live : Store 32 := []
  /-- R57, R58 (02): the active tuning's T and PT fields -/
  tuned : Store 32 := []
  /-- R57, R58 (02): the stage bank's T and PT fields -/
  stage : Store 32 := []
  /-- R12 (01): the tuning that was active before the latest switch, for items tagged before it -/
  prev : Store 32 := []
  /-- R53 (02): the snapshot shadows, by the plain address of the counter; this store holds the words themselves -/
  snap : Store 32 := []
  /-- R49 (02): by the address of a status word, the flags whose cause stands now; the words themselves -/
  causes : Store 32 := []
  deriving DecidableEq, Repr

/-- R40, R41 (02): the memories behind the windows, by the active address of slot and offset; a byte not listed
reads 0 (DESIGN CHOICE, log entry 6: R58 gives no contents). AAR data memory stands in each core. -/
structure Mems where
  /-- R40 (02): active copies -/
  act : List Host.Cell := []
  /-- R12 (01): the copies active before the latest switch -/
  prev : List Host.Cell := []
  /-- R40, R41 (02): stage copies -/
  stage : List Host.Cell := []
  /-- R344, R362 (12): DRAM by system address -/
  dram : List Host.Cell := []
  deriving DecidableEq, Repr

/-- R9, R36, R44, R51 (01, 02): what the latest bus access answered its master: the word read and BUS_ERROR. -/
structure Bus where
  /-- R36 (02): the word that the latest read returned; 0 -/
  data : BitVec 32 := 0
  /-- R36 (02): the latest access completed with BUS_ERROR -/
  error : Bool := false
  deriving DecidableEq, Repr

/-- R28 (01): the operating mode. -/
inductive Mode where
  | boot | prep | service | test | recovery
  deriving DecidableEq, Repr

/-- R59 (02): the states of the stage bank. -/
inductive StageState where
  | clean | dirty | checking | checked | failed | pending | copyback
  deriving DecidableEq, Repr

/-- R51 (02): how a 64-bit shadow was filled. -/
inductive ShadowKind where
  | read | write
  deriving DecidableEq, Repr

/-- R51 (02): one master's shadow; a master not listed has an empty one. -/
structure Shadow where
  /-- the master whose shadow this is -/
  master : Master
  /-- the tag: the low word's address of the 64-bit register -/
  tag : Nat
  /-- how it was filled -/
  kind : ShadowKind
  /-- the 32 bits held -/
  value : BitVec 32
  deriving DecidableEq, Repr

/-- R20 (01): an isolated block, or one isolated unit of it. -/
structure Isolation where
  /-- the block -/
  block : Block
  /-- the unit, when it is one unit (R20) -/
  unit : Option Nat
  /-- R22: the instant its restart must be ready by; none: isolated without restart -/
  deadline : Option Nat
  deriving DecidableEq, Repr

/-- R66 (02): what a pending Retune waits for. -/
inductive Armed where
  /-- APPLY_NEXT: the first boundary at or after this instant -/
  | next (notBefore : Nat)
  /-- APPLY_AT: the start of this sweep, or of the first one after it (R70) -/
  | atSweep (sweep : Nat)
  deriving DecidableEq, Repr

/-- R71 (02): a confirmation of the switch that CHP still waits for. -/
structure Confirm where
  block : Block
  /-- the sweep whose end is the deadline; an affected core's is known at its switch -/
  lastSweep : Option Nat
  deriving DecidableEq, Repr

/-- CHP (01, 02): what the chip level holds beside its register words. -/
structure Chp where
  /-- R28 (01): CHP.MODE.CUR; reset BOOT (0) -/
  mode : Mode := .boot
  /-- R23 (01): SAFE is set; reset clear -/
  safe : Bool := false
  /-- R25 (01): the instant SAFE was entered -/
  safeSince : Nat := 0
  /-- R27 (01): a code has been recorded in ERR_FIRST since SAFE was last cleared -/
  errSeen : Bool := false
  /-- R20 (01): what is isolated -/
  isolated : List Isolation := []
  /-- R21 (01): the instants of the uncorrectable faults of the last 10 s, by block -/
  faults : List (Block × Nat) := []
  /-- R59 (02): the stage bank's state; reset CLEAN -/
  stage : StageState := .clean
  /-- R65 (02): CHP.TSTAT.LOAD_BAD; reset 0 -/
  loadBad : Bool := false
  /-- R63 (02): the instant CHK was taken -/
  checkSince : Nat := 0
  /-- R18 (01): single-bit errors corrected, by block -/
  corrected : List (Block × Nat) := []
  /-- R63 (02): the stage memory slots with an uncorrectable error -/
  stageBad : List Nat := []
  /-- R66 (02): the armed Retune -/
  armed : Option Armed := none
  /-- R67 (02): a Retune is due at the boundary taken at this instant -/
  retuneDue : Option Nat := none
  /-- R12 (01): the sweep at which the tuned bank last switched; tags below it use the former tuning -/
  ownsFrom : Nat := 0
  /-- R71 (02): confirmations outstanding -/
  confirms : List Confirm := []
  /-- R61 (02): the instant copy-back began -/
  copybackSince : Nat := 0
  /-- R72 (02): STAGE_COPY_FAULT has been raised for this copy-back -/
  copyFault : Bool := false
  /-- R53 (02): a snapshot is requested, since this instant -/
  snapReq : Option Nat := none
  /-- R54 (02): a snapshot is being written, since this boundary instant -/
  snapBusy : Option Nat := none
  /-- R55 (02): the completed snapshot is held, since this instant -/
  snapHeld : Option Nat := none
  /-- R56 (02): the sweep of the previous snapshot -/
  snapFrom : Nat := 0
  /-- R51 (02): the 64-bit shadows -/
  shadows : List Shadow := []
  /-- R31, R72 (01, 02): an INJECT.GO its block has not yet taken -/
  inject : Option Nat := none
  deriving DecidableEq, Repr

/-- R105, PSQ.STATE.STATE (03): the tab's state. -/
inductive TabState where
  | idle | running | halted
  deriving DecidableEq, Repr

/-- PSQ.STATE.HALT_CAUSE (03, R95): what stopped the tab. -/
inductive HaltCause where
  | none | halt0 | halt1 | sweepCmd | nowCmd | modeChange | safe | powerFail
  deriving DecidableEq, Repr

/-- R75 (03): a look that is open, with its tag. -/
structure Look where
  /-- SWEEP -/
  sweep : Nat
  /-- SLOT -/
  slot : Nat
  /-- SHAPE -/
  shape : Nat
  /-- PAT -/
  pat : Nat
  /-- FIRE_T: tick × 8 + SUB from the sweep boundary -/
  fireT : Nat
  /-- PARTIAL (R93) -/
  isPartial : Bool := false
  /-- DARK (R96, R167): the instant at which the light was first found removed within the window -/
  darkAt : Option Nat := none
  /-- LATE (R83) -/
  late : Bool := false
  /-- COLLIDED (R98): the span of the window it holds for -/
  collided : Option (Nat × Nat) := none
  /-- NO_RAMAN (R86) -/
  noRaman : Bool := false
  /-- PLUCK (R103) -/
  pluck : Bool := false
  /-- the fire instant at the pin (R74) -/
  fireAt : Nat
  /-- the end of the window (R75) -/
  windowEnd : Nat
  /-- the slot's offset in kHz when it was fired (R98) -/
  offset : Int
  /-- the end of the probe's emission (R167) -/
  emitEnd : Nat
  /-- the window has ended; the tag stays for the samples still in the signal region -/
  ended : Bool := false
  deriving DecidableEq, Repr

/-- R79, R84 (03): a probe being emitted, with the shape it was fired with (R97). -/
structure Probe where
  slot : Nat
  /-- fired as a pluck (R103, R303) -/
  pluck : Bool
  /-- the five words of the shape entry (R78) and its CUSTOM window's bytes -/
  kindWord : Nat
  width : Nat
  len : Nat
  bw : Nat
  amp : Nat
  phase : Nat
  wtab : List Nat
  /-- envelope scale of a pluck, in 1/256 (R102); 256 for the tab -/
  scale : Nat
  /-- first DAC sample -/
  fireAt : Nat
  /-- the instant after the last DAC sample -/
  endAt : Nat
  deriving DecidableEq, Repr

/-- R88, R90, R94 (03): an SWB that has issued and waits. -/
structure SwbWait where
  /-- PAT of the sweep that begins -/
  pat : Nat
  /-- the tick at which the boundary is taken, in free-running and master operation or when it has passed -/
  tick : Nat
  /-- it waits for a SYNC_IN edge (follower) -/
  follower : Bool
  deriving DecidableEq, Repr

/-- R102, R103, R303 (03, 10): a pluck in progress. -/
structure Pluck where
  slot : Nat
  shape : Nat
  scale : Nat
  /-- the pluck gate opens (pin) -/
  gateAt : Nat
  /-- the probe fires (pin) -/
  fireAt : Nat
  /-- the pluck gate closes (pin) -/
  closeAt : Nat
  /-- the window closes -/
  windowEnd : Nat
  /-- the probe has fired -/
  fired : Bool := false
  /-- the gate has closed -/
  gateClosed : Bool := false
  /-- a guard restart pluck (R303) -/
  restart : Bool := false
  deriving DecidableEq, Repr

/-- PSQ (03). -/
structure Psq where
  /-- PSQ.STATE.STATE (R105); reset IDLE -/
  state : TabState := .idle
  /-- PSQ.STATE.HALT_CAUSE (R95); reset none -/
  haltCause : HaltCause := .none
  /-- PSQ.STATE.PC, 12 bits (R105); reset 0 -/
  pc : Nat := 0
  /-- R92, R88: the instant of timer tick 0 -/
  tick0 : Nat := 0
  /-- R81: the timer tick at which the next instruction issues -/
  issue : Nat := 0
  /-- R88: no SWB has taken its boundary since START -/
  first : Bool := false
  /-- R88: the SWB that waits for its boundary -/
  wait : Option SwbWait := none
  /-- R94, R95: a halt that waits for the next SWB -/
  haltAtSwb : Option HaltCause := none
  /-- R93, R95: a halt that waits for the next instruction fetch -/
  haltAtFetch : Option HaltCause := none
  /-- R87: the loop counters C0 to C3, 16 bits each; cleared at START and at a Retune -/
  loops : List (BitVec 16) := [0, 0, 0, 0]
  /-- R88: PAT of the current sweep -/
  pat : Nat := 0
  /-- R97: the PERIOD of the current sweep in ticks -/
  period : Nat := 0
  /-- R83: a WAITU of this sweep was late -/
  late : Bool := false
  /-- R86: the sweep has fired its Raman trigger -/
  raman : Bool := false
  /-- R86: the end of the Raman trigger pulse at the pin -/
  ramanEnd : Nat := 0
  /-- R93: the slots fired in this sweep -/
  fired : List Nat := []
  /-- R85: the tab gate's opening and latest closing instants at the pin -/
  gate : Option (Nat × Nat) := none
  /-- R84: the probes being emitted -/
  probes : List Probe := []
  /-- R75: the looks whose windows are open -/
  looks : List Look := []
  /-- R99: the latest instant at which a gate that is no longer held here has closed -/
  gateShut : Nat := 0
  /-- R90: a SYNC_IN edge seen since the timer reached PERIOD − 320: its instant -/
  syncEdge : Option Nat := none
  /-- R90: the boundary whose SYNC_OUT pulse is given in master mode -/
  syncOutAt : Option Nat := none
  /-- R102, R103: the pluck in progress -/
  pluck : Option Pluck := none
  deriving DecidableEq, Repr

/-- PSY (03). -/
structure Psy where
  /-- R76: the instants at which the slots' accumulators were zero last -/
  ncoFrom : List Nat := List.replicate 8 0
  /-- R100: the instant up to which the DAC samples have been looked at for CLIP -/
  dacFrom : Nat := 0
  deriving DecidableEq, Repr

/-- STGk_STATE.STATE (04, R107, R120). -/
inductive StageRun where
  | off | disabled | ramp | healthy | blind | fault
  deriving DecidableEq, Repr

/-- STGk_STATE.FAULT (04, R122). -/
inductive StageFault where
  | none | openLoad | short | overcurrent
  deriving DecidableEq, Repr

/-- One source drive stage (R106, 04). -/
structure SrcStage where
  /-- R110: the carried remainder, 24 bits; cleared at start -/
  e : Nat := 0
  /-- R110: the debt of on-time steps, 16 bits; cleared at start -/
  debt : Nat := 0
  /-- R111: the loop accumulator, 24 bits -/
  acc : Nat := 0
  /-- R111: the level, 16 bits -/
  lvl : Nat := 0
  /-- R115: the ramped setpoint, in ISET or LEVEL codes -/
  setpoint : Nat := 0
  /-- the stage is switching (R107) -/
  running : Bool := false
  /-- R110: the on-time of the period in progress, in steps -/
  onTime : Nat := 0
  /-- R111: the period in progress is a proof pulse -/
  proof : Bool := false
  /-- R111: steps by which debt, DMAX or ILIM shortened the period -/
  cut : Nat := 0
  /-- the instant the period began -/
  periodAt : Nat := 0
  /-- R114: the carrier period PER of the period in progress, in steps -/
  per : Nat := 2500
  /-- R114: BITS of the period in progress -/
  bits : Nat := 12
  /-- R119: periods begun in the window, 0 to 1 024 -/
  winCount : Nat := 0
  /-- R119: an on-time of at least 625 steps since the previous window began -/
  winLong : Bool := false
  /-- R120: the window held a qualifying on-time that passed -/
  winProven : Bool := false
  /-- R120: the most recent complete window was proven -/
  proven : Bool := false
  /-- R120: a complete window has ended since the stage started -/
  winEnded : Bool := false
  /-- R112: consecutive periods ended by ILIM -/
  ilimRun : Nat := 0
  /-- R118: the period's on-time was ended by ILIM -/
  ilimHit : Bool := false
  /-- R122: the fault state; reset none -/
  fault : StageFault := .none
  /-- STGk_MEAS: sum and number of the midpoint samples of the window -/
  curSum : Nat := 0
  curCount : Nat := 0
  /-- STGk_MEAS: delivered steps and total steps of the window -/
  dutySum : Nat := 0
  dutyTotal : Nat := 0
  deriving DecidableEq, Repr

/-- SRC (04). -/
structure Src where
  /-- the five stages (R106) -/
  stages : List SrcStage := List.replicate 5 {}
  /-- R116: the factor computed and waiting for the next sweep boundary -/
  fNext : Option Nat := none
  deriving DecidableEq, Repr

/-- R128, R129 (04): why a frame is shifted. -/
inductive FrameKind where
  | preload | refresh | live | afterRetune
  deriving DecidableEq, Repr

/-- OCC (04). -/
structure Occ where
  /-- R127: the frame being shifted, driver values 0 first, and its kind -/
  shifting : Option (FrameKind × List (BitVec 16)) := none
  /-- the instant the frame began -/
  frameAt : Nat := 0
  /-- R127: the contents of the shift registers, driver 0 first: the last frame sent; none before the first -/
  shifted : Option (List (BitVec 16)) := none
  /-- R128: the frame in the shift registers is verified and may be latched -/
  verified : Option FrameKind := none
  /-- the instant the verified frame completed -/
  doneAt : Nat := 0
  /-- R128: the driver outputs -/
  outputs : List (BitVec 16) := []
  /-- R131: OCC_OE_N is low; reset high -/
  oe : Bool := false
  /-- R130: live writes are held -/
  held : Bool := false
  /-- R129: a preload is wanted once the frame in progress has finished -/
  preloadWanted : Bool := false
  /-- R128: a live write's frame is wanted once the frame in progress has finished -/
  liveWanted : Bool := false
  /-- R128: sweeps since the last latch -/
  sinceLatch : Nat := 0
  /-- R127: consecutive mismatching frames -/
  streak : Nat := 0
  /-- R132: the new active image awaits a latch after a restart -/
  lateLatch : Bool := false
  /-- R22: after a restart the outputs' image is resent at the next sweep boundary -/
  resendDue : Bool := false
  /-- R128: the preload's tuning has become active, so that the preload may be latched -/
  retuned : Bool := false
  deriving DecidableEq, Repr

/-- R137, R140 (05): a working-schedule entry below its tuned entry. -/
structure LoweredBin where
  pol : Pol
  /-- 0 to 4 095 -/
  bin : Nat
  /-- the working code -/
  code : Nat
  /-- consecutive sweeps with no clipped sample -/
  clean : Nat
  deriving DecidableEq, Repr

/-- CRX (05). -/
structure Crx where
  /-- R136: the code in force of XI and XQ -/
  gx : Nat := 0
  /-- R136: the code in force of YI and YQ -/
  gy : Nat := 0
  /-- R137: working entries that differ from the tuned schedule -/
  lowered : List LoweredBin := []
  /-- R138: recent code changes, latest first: polarisation, the instant of the first settling sample and the code before -/
  changes : List (Pol × Nat × Nat) := []
  deriving DecidableEq, Repr

/-- CAL (05). -/
structure Cal where
  /-- CAL.STATE.STARVED; reset 0 -/
  starved : List Bool := [false, false, false, false]
  /-- CAL.STATE.NOMINAL; reset 0xF -/
  nominal : List Bool := [true, true, true, true]
  /-- R144, R146: the instant each channel's estimation block began -/
  blockAt : List Nat := [0, 0, 0, 0]
  /-- R144: the latest instant at which a guard enable was absent -/
  darkAt : Nat := 0
  /-- R148: the instant the pilot block began -/
  pilotAt : Nat := 0
  /-- R147: a skew calibration runs, since this instant -/
  skewCal : Option Nat := none
  /-- R147, R141: the spans of past skew calibrations, whose samples are settling samples -/
  skewSpan : Option (Nat × Nat) := none
  /-- R147, R521: the latest skew calibration found its tone -/
  skewOk : Bool := false
  deriving DecidableEq, Repr

/-- R149 (05): one slot sample of a look: both polarisations, their gain codes and whether it is touched (R141). -/
structure SlotSample where
  sweep : Nat
  slot : Nat
  /-- R103: of a pluck's look -/
  pluck : Bool := false
  /-- R155, R171: the instant it came to its block -/
  arrivedAt : Nat := 0
  /-- slot sample index p -/
  p : Nat
  xr : Int
  xi : Int
  yr : Int
  yi : Int
  gx : Nat
  gy : Nat
  touched : Bool
  /-- R152: invalid by PCM (p + LEN > W) -/
  edge : Bool := false
  /-- R157: the polarisation is absent -/
  noX : Bool := false
  noY : Bool := false
  /-- R167, R98: the sample falls in a DARK or COLLIDED span -/
  dark : Bool := false
  collided : Bool := false
  deriving DecidableEq, Repr

/-- CHN (05): slot samples on their way to PCM. -/
structure Chn where
  /-- R76, R149: the instants at which the lanes' oscillators were zero last -/
  ncoFrom : List Nat := List.replicate 8 0
  /-- samples of chirped looks awaiting compression -/
  samples : List SlotSample := []
  deriving DecidableEq, Repr

/-- PCM (05). -/
structure Pcm where
  /-- samples delivered to PHS (R152) -/
  outs : List SlotSample := []
  deriving DecidableEq, Repr

/-- R162 (05): the state of one slot at one position. -/
structure SlotState where
  /-- o_k, int24 -/
  o : Int := 0
  /-- s_k, uint16 -/
  sk : BitVec 16 := 0
  /-- m_k, uint32 (R160) -/
  m : Nat := 0
  /-- th, uint16 turns (R156) -/
  th : BitVec 16 := 0
  /-- R164: the slot is seeded -/
  seeded : Bool := false
  /-- R163: fast-acquisition looks remaining -/
  fast : Nat := 0
  /-- R165: consecutive valid looks with w < 4 -/
  faded : Nat := 0
  deriving DecidableEq, Repr

/-- R162 (05): the state of one position. -/
structure PosState where
  pos : Nat
  /-- the running series value, uint16 turns -/
  s : BitVec 16 := 0
  /-- s has been seeded (R164) -/
  seeded : Bool := false
  /-- the previous output, int16 -/
  inc : Int := 0
  /-- consecutive looks that were bad or had w = 0 -/
  run : Nat := 0
  /-- R68, R168: outputs are INV up to this sweep, inclusive -/
  invTo : Option Nat := none
  /-- R186: no sample has been given since the position was seated -/
  fresh : Bool := true
  slots : List SlotState := List.replicate 8 {}
  deriving DecidableEq, Repr

/-- R169 (05): a position sample on its way to PFL; none is the invalid code. -/
structure PosSample where
  sweep : Nat
  slot : Nat
  pos : Nat
  fireT : Nat
  /-- 16-bit increment, 0x8000 when invalid -/
  value : BitVec 16
  /-- R186: the position was re-seeded or re-seated -/
  reset : Bool
  dark : Bool
  isPartial : Bool
  late : Bool
  collided : Bool
  deriving DecidableEq, Repr

/-- PHS (05). -/
structure Phs where
  /-- R162: position state, one entry for each position that holds any -/
  pos : List PosState := []
  /-- R168: a re-seat of every position awaits the next sweep boundary -/
  reseatDue : Bool := false
  /-- R168: every position re-seated at this sweep -/
  reseatAt : Option Nat := none
  /-- R22: positions are invalid while the chain restarts -/
  restarting : Bool := false
  /-- R167: the instant the enable was removed last -/
  darkAt : Option Nat := none
  /-- R158: ph of positions whose difference at p + G is still to come: sweep, slot, position, ph -/
  phases : List (Nat × Nat × Nat × BitVec 16) := []
  /-- samples produced for PFL, oldest first (R169) -/
  out : List PosSample := []
  deriving DecidableEq, Repr

/-- R177, R181 (06): one filter stage at one position. -/
structure FilterStage where
  /-- the integrators, 44 bits -/
  i1 : BitVec 44 := 0
  i2 : BitVec 44 := 0
  i3 : BitVec 44 := 0
  /-- comb3: the latest inputs of its three differences -/
  d1 : BitVec 44 := 0
  d2 : BitVec 44 := 0
  d3 : BitVec 44 := 0
  /-- hist[0..30], latest first -/
  hist : List (BitVec 44) := List.replicate 31 0
  /-- taint count -/
  taint : Nat := 0
  /-- substitution count -/
  subst : Nat := 0
  deriving DecidableEq, Repr

/-- R178, R179 (06): a look that PFL has taken: its count in LOOK_CNT, its tag and its flags. -/
structure PflLook where
  count : Nat
  sweep : Nat
  slot : Nat
  fireT : Nat
  /-- its fire instant at the pin -/
  firedAt : Nat
  isPartial : Bool
  late : Bool
  dark : Bool
  /-- R572: the FULL output of this look has been formed -/
  formed : Bool := false
  deriving DecidableEq, Repr

/-- R179, R572 (06): one position's entry of the median window. -/
structure PflIn where
  value : BitVec 16
  /-- R186: it is from before a reset of the position -/
  stale : Bool := false
  /-- R572: its output, formed at the reset -/
  early : BitVec 16 := 0x8000
  deriving DecidableEq, Repr

/-- PFL's state at one position (R177 to R186, 06). -/
structure PflPos where
  pos : Nat
  /-- R179: the median window, latest first, at most 5, look by look as Pfl.looks -/
  window : List PflIn := []
  /-- R180: the hold value, int16 -/
  hold : BitVec 16 := 0
  /-- R181: length of the present run of 0x8000 inputs at S1 -/
  run : Nat := 0
  /-- S1 to S4; R186: after a reset every taint count stands at its support -/
  st : List FilterStage :=
    [⟨0, 0, 0, 0, 0, 0, List.replicate 31 0, 64, 0⟩, ⟨0, 0, 0, 0, 0, 0, List.replicate 31 0, 64, 0⟩,
     ⟨0, 0, 0, 0, 0, 0, List.replicate 31 0, 64, 0⟩, ⟨0, 0, 0, 0, 0, 0, List.replicate 31 0, 262, 0⟩]
  /-- R184: the accumulator, 40 bits, 1/256 LSB -/
  acc : BitVec 40 := 0
  /-- PFL.PROBE.VALID: bit p: the latest output of preset p was valid -/
  valid : BitVec 5 := 0
  deriving DecidableEq, Repr

/-- R178, R181, R184 (06): one position's sample of an output row. -/
structure PflSample where
  pos : Nat
  value : BitVec 16
  subst : Bool
  sat : Bool
  /-- R184: ACC, with DRIFT -/
  acc : BitVec 32
  deriving DecidableEq, Repr

/-- R178, R187 (06): one output row of a preset: a decimated look at every position. -/
structure PflRow where
  preset : Nat
  sweep : Nat
  slot : Nat
  fireT : Nat
  /-- the fire instant of the completing look at the pin -/
  firedAt : Nat
  isPartial : Bool
  late : Bool
  dark : Bool
  /-- the output index j of its preset (R221) -/
  index : Nat
  samples : List PflSample
  deriving DecidableEq, Repr

/-- PFL (06). -/
structure Pfl where
  /-- R179: the latest looks, latest first, at most 5 -/
  looks : List PflLook := []
  /-- per-position state; a position not listed is as after a reset -/
  pos : List PflPos := []
  /-- R178: PARTIAL, LATE, DARK since each preset's previous output -/
  flagsOr : List (Bool × Bool × Bool) := List.replicate 5 (false, false, false)
  /-- R186: a reset of all positions at the first look after START -/
  resetAtLook : Bool := false
  /-- R186: a reset of all positions at the first item tagged with this sweep -/
  resetAtSweep : Option Nat := none
  /-- R186: a reset of all positions at the next sweep boundary after a restart -/
  resetAtBoundary : Bool := false
  /-- R572: PSQ has reported a halt -/
  haltReported : Bool := false
  deriving DecidableEq, Repr

/-- A block of accumulated sweeps (R194, R195, 07). -/
structure DtsBlock where
  /-- the block index -/
  block : Nat := 0
  /-- accumulators by raw bin, int32 -/
  acc0 : List Int := []
  acc1 : List Int := []
  /-- baseline sums, int48 -/
  bsum0 : Int := 0
  bsum1 : Int := 0
  /-- M: sweeps accumulated -/
  m : Nat := 0
  /-- the first and last accumulated sweep, with their instants (R204) -/
  first : Option (Nat × Nat) := none
  last : Option (Nat × Nat) := none
  /-- DTS.PROF flags collected: 1 HALTED, 2 RETUNED, 5 CLIPPED, 6 APD, 7 RESTARTED -/
  halted : Bool := false
  retuned : Bool := false
  clipped : Bool := false
  apd : Bool := false
  restarted : Bool := false
  deriving DecidableEq, Repr

/-- R196, R202 (07): a closed block on its way to a profile. -/
structure DtsUnload where
  blk : DtsBlock
  /-- A under which it was accumulated -/
  a : Nat
  /-- converted under the tuning before the latest Retune (R202) -/
  old : Bool
  /-- γ and C0 in force when the unload began -/
  gamma : Int
  c0 : Int
  /-- the last sweep of the block (R202) -/
  lastSweep : Nat
  /-- the instant by which the unload must be done -/
  deadline : Nat
  /-- R208: a Retune has reset the drone since the block's last sweep -/
  droneReset : Bool := false
  deriving DecidableEq, Repr

/-- R209 (07): a stored profile. -/
structure DtsProfile where
  seq : Nat
  block : Nat
  m : Nat
  flags : Nat
  /-- R227: the last sweep of its block -/
  lastSweep : Nat
  /-- R223: the instant of its completion -/
  doneAt : Nat
  /-- R243: converted under the tuning before the latest switch -/
  old : Bool
  /-- temperatures of positions 0 to END, 1/64 °C, 0x8000 invalid -/
  temps : List (BitVec 16)
  deriving DecidableEq, Repr

/-- R204 (07): a result of a coil's reference channel. -/
structure CoilResult where
  chan : Nat
  time : Nat
  valid : Bool
  /-- 1/64 °C -/
  value : Int
  deriving DecidableEq, Repr

/-- RMX (07): it holds no state of its own between sweeps but its registers and this. -/
structure Rmx where
  /-- R193: the instant at which a guard enable was absent last -/
  darkAt : Option Nat := none
  /-- R193: the instant at which the APD stage was not HEALTHY last -/
  apdAt : Option Nat := none
  /-- R191, R193: the pin instants of the latest Raman triggers with their sweeps, latest first -/
  triggers : List (Nat × Nat) := []
  /-- R193: the latest sweep that has been accumulated or skipped -/
  treated : Option Nat := none
  deriving DecidableEq, Repr

/-- DTS (07). -/
structure Dts where
  /-- the accumulation in progress -/
  blk : DtsBlock := {}
  /-- R196: accumulation has begun for this block -/
  active : Bool := false
  /-- R197: sweeps of this block are skipped until the next one begins -/
  skipBlock : Option Nat := none
  /-- R196: closed blocks being unloaded and converted, oldest first -/
  unload : List DtsUnload := []
  /-- R208: the drone's C0, signed Q8.24; reset DTS.C0 = 0x0100_0000 -/
  c0 : Int := 0x01000000
  /-- R208: the drone's γ, Q16.16; reset DTS.GAMMA = 0x0279_0000 -/
  gamma : Int := 0x02790000
  /-- R206: values have been held since an earlier profile -/
  held : Bool := false
  /-- R204: results of the coils' channels since the block began -/
  coilRes : List CoilResult := []
  /-- R209: the latest 16 profiles, latest first -/
  profiles : List DtsProfile := []
  deriving DecidableEq, Repr

/-- AAR.Cn_STATE.STATE (08). -/
inductive CoreState where
  | off | waiting | running | restarting
  deriving DecidableEq, Repr

/-- AAR.Cn_STATE.RUN (08, R218). -/
inductive RunKind where
  | init | tile | fend
  deriving DecidableEq, Repr

/-- R231 (08): a counted loop in progress. -/
structure LoopFrame where
  first : Nat
  last : Nat
  /-- iterations left, this one included -/
  left : Nat
  deriving DecidableEq, Repr

/-- R234 (08): a feature in the buffer. -/
structure Feature where
  zone : Nat
  index : Nat
  value : BitVec 32
  invalid : Bool
  deriving DecidableEq, Repr

/-- R223, R236 (08): a frame that has become ready. -/
structure FrameRef where
  k : Nat
  /-- R_k -/
  readyAt : Nat
  /-- R227: device time at R_k, and the rates of the time-interval units with their validity -/
  time : Nat
  rates : List Nat
  rateValid : Nat
  deriving DecidableEq, Repr

/-- R244, R245 (08): whether a core's frame is run, or waits for its deadline only. -/
inductive FrameFate where
  | run | copying | reloading
  deriving DecidableEq, Repr

/-- One lane of a vector register: I and Q (R214). -/
abbrev Lane := BitVec 16 × BitVec 16

/-- An analysis core (R214 to R245, 08). -/
structure AarCore where
  /-- reset OFF -/
  state : CoreState := .off
  run : RunKind := .init
  /-- program counter, 12 bits -/
  pc : Nat := 0
  /-- S0 to S15; reset 0 (DESIGN CHOICE, log entry 4: R219 zeroes them at INIT) -/
  s : List (BitVec 32) := List.replicate 16 0
  /-- V0 to V15, four lanes each -/
  v : List (List Lane) := List.replicate 16 (List.replicate 4 (0, 0))
  /-- the accumulators, 48 bits, one per lane -/
  accRe : List Int := [0, 0, 0, 0]
  accIm : List Int := [0, 0, 0, 0]
  /-- ICNT, 32 bits, saturating (R230) -/
  icnt : Nat := 0
  /-- R231: loops in progress, innermost first -/
  loops : List LoopFrame := []
  /-- core cycles since R_k at which the next instruction can issue (R214) -/
  cyc : Nat := 0
  /-- R228: cycles at which each scalar register's result is ready -/
  sReady : List Nat := List.replicate 16 0
  /-- R228: cycles at which each vector register's result is ready -/
  vReady : List Nat := List.replicate 16 0
  /-- R228: cycle at which the accumulators are ready for AMOV -/
  accReady : Nat := 0
  /-- data memory (R216), 256 KiB; an unlisted byte reads 0 -/
  mem : List Host.Cell := []
  /-- the active constant image (R244) -/
  constImage : List Host.Cell := []
  /-- the frame being run, or waiting for its deadline -/
  frame : Option FrameRef := none
  fate : FrameFate := .run
  /-- R218: TILE runs made in the frame -/
  tilesRun : Nat := 0
  /-- R225: tiles fully written in the frame -/
  tilesWritten : Nat := 0
  /-- R218: a DONE with SKIP ended tile delivery -/
  skipped : Bool := false
  /-- R219: an INIT run is required before the next frame -/
  needInit : Bool := true
  /-- R227: the header flags FIRST, PREV_OVERRUN and GAP of the next frame -/
  first : Bool := true
  prevOverrun : Bool := false
  gap : Bool := false
  /-- R234: the feature buffer -/
  features : List Feature := []
  /-- R242, R223: the latest frame that became ready -/
  lastReady : Option FrameRef := none
  /-- R243: affected by a Retune and not yet switched -/
  affected : Bool := false
  /-- R71, R243: the sweep of its switch instant, once that has come -/
  switchDue : Option Nat := none
  /-- R71: APPLY_SKEW has been raised for it -/
  skewed : Bool := false
  /-- R244: the constant copy runs, since this instant -/
  copySince : Option Nat := none
  /-- R245: the constant reload runs, since this instant -/
  reloadSince : Option Nat := none
  deriving DecidableEq, Repr

/-- R222 (08): a staged row of a PFL tap. -/
structure StagedRow where
  /-- the output index j -/
  j : Nat
  sweep : Nat
  isPartial : Bool
  late : Bool
  dark : Bool
  /-- samples by position, with ACC for tap code 5 -/
  samples : List (Nat × BitVec 16 × BitVec 32)
  deriving DecidableEq, Repr

/-- R252 (09): the latest AAR record at one index. -/
structure FeatureInput where
  value : BitVec 32 := 0
  /-- carried INVALID, or none has arrived since the unit was reset -/
  invalid : Bool := true
  overrun : Bool := false
  frame : Nat := 0
  fresh : Bool := false
  /-- R235: the source and the core -/
  source : Nat := 0
  core : Nat := 0
  deriving DecidableEq, Repr

/-- AAR (08). -/
structure Aar where
  /-- the 32 cores (R6) -/
  cores : List AarCore := List.replicate 32 {}
  /-- R222: the staging rings of taps A and B, latest row first -/
  stageA : List StagedRow := []
  stageB : List StagedRow := []
  /-- R223: the staging of taps A and B restarts with the first row of this sweep or a later one -/
  restageA : Option Nat := none
  restageB : Option Nat := none
  /-- R235: committed records on their way to ZON, one list a commit, oldest first: zone, index and record -/
  arriving : List (List (Nat × Nat × FeatureInput)) := []
  deriving DecidableEq, Repr

/-- R263 (09): a timer's state. -/
inductive TimerState where
  | stopped | running | expired
  deriving DecidableEq, Repr

/-- R263 (09): a timer of a zone unit. -/
structure ZoneTimer where
  state : TimerState := .stopped
  count : Nat := 0
  /-- the instant of its start -/
  startAt : Nat := 0
  deriving DecidableEq, Repr

/-- R252 (09): the latest DTS features of a unit. -/
structure DtsInput where
  tmax : BitVec 16 := 0x8000
  rise : BitVec 16 := 0x8000
  pos : BitVec 16 := 0
  arrived : Bool := false
  fresh : Bool := false
  deriving DecidableEq, Repr

/-- A zone unit (R248 to R272, 09). -/
structure ZoneUnit where
  /-- current state, 4 bits; reset 0 -/
  state : Nat := 0
  /-- C0 to C3, 16 bits, saturating -/
  c : List Nat := [0, 0, 0, 0]
  /-- T0 to T3 -/
  t : List ZoneTimer := List.replicate 4 {}
  /-- F0 to F7 -/
  f : List FeatureInput := List.replicate 8 {}
  dts : DtsInput := {}
  /-- R269: the sweep of the previous capture request passed to RNG -/
  lastReq : Option Nat := none
  /-- R266: zone events since reset, modulo 65 536 -/
  zseq : Nat := 0
  /-- ZON.PROBE: the unit as latched at its latest step -/
  latchF : List FeatureInput := List.replicate 8 {}
  latchDts : DtsInput := {}
  latchSpd : Nat := 0
  latchSpdOk : Bool := false
  deriving DecidableEq, Repr

/-- R266 (09): what is known of a record's CAPTURE field. -/
inductive CaptureField where
  | none | refused | heldOff | noSweep
  /-- waits for the request with this tag -/
  | waiting (req : Nat)
  | number (n : Nat)
  deriving DecidableEq, Repr

/-- R266 (09): an event record. -/
structure EventRec where
  bus : Bool
  zone : Nat
  code : Nat
  before : Nat
  after : Nat
  /-- COND [5:0] -/
  cond : Nat
  lost : Bool := false
  info : Nat
  zseq : Nat
  sweep : Nat
  time : Nat
  value : BitVec 32
  capture : CaptureField
  /-- the zone's LOG bit -/
  log : Bool
  deriving DecidableEq, Repr

/-- R268, R270 (09): a capture request on its way to RNG. -/
structure CapRequest where
  tag : Nat
  /-- the requesting zone, the lowest of a merged request; 256 for a bus request, 257 for a KP command -/
  zone : Nat
  /-- the trigger instant, in uptime -/
  trigAt : Nat
  /-- R454: the session and tag of a KP command -/
  cmd : Option (Nat × Nat) := none
  /-- PRE and POST in sweeps -/
  pre : Nat
  post : Nat
  first : Nat
  last : Nat
  stream : Bool
  /-- members absorbed -/
  members : List Nat
  deriving DecidableEq, Repr

/-- R278 (09): an edge on a bus, with what its conversion into the sweep grid needs: the boundary at or before it. -/
structure BusEdge where
  /-- uptime of the edge -/
  edgeAt : Nat
  /-- device time of the edge, ns, to 4 ns -/
  time : Nat
  /-- the sweep, the uptime and the device time of that boundary, and PERIOD in ticks -/
  sweep : Nat
  boundAt : Nat
  boundTime : Nat
  period : Nat
  /-- S -/
  res : Nat
  deriving DecidableEq, Repr

/-- R277 (09): a falling edge on FIRE that waits for acceptance. -/
structure FireEdge where
  edge : BusEdge
  armed : Bool
  running : Bool
  /-- of a calibration pulse (R280) -/
  cal : Bool
  /-- the bus has risen since -/
  rose : Bool := false
  deriving DecidableEq, Repr

/-- ZON (09). -/
structure Zon where
  /-- the 256 units (R6) -/
  units : List ZoneUnit := List.replicate 256 {}
  /-- R256: the instant of the previous step -/
  lastStep : Nat := 0
  /-- R255: the sweep of the latest step -/
  stepSweep : Nat := 0
  /-- R255: the step of this sweep is due: the boundary's instant -/
  stepDue : Option Nat := none
  /-- R272: units reset at the next step -/
  resetUnits : List Nat := []
  /-- R266: records whose CAPTURE is not yet known or that have not been enqueued, oldest first -/
  waiting : List EventRec := []
  /-- R267: the queue to KPE, at most 512, oldest first -/
  queue : List EventRec := []
  /-- R267: the next record carries LOST -/
  lostNext : Bool := false
  /-- R270, R271: requests on their way to RNG, oldest first -/
  requests : List CapRequest := []
  /-- tag of the next request -/
  nextTag : Nat := 0
  /-- R273, R274: this unit pulls ARM -/
  armDriven : Bool := false
  /-- R276: this unit pulls FIRE until this instant -/
  fireUntil : Option Nat := none
  /-- the pulse of FIRE is a calibration pulse (R280) -/
  fireCal : Bool := false
  /-- another unit pulls ARM -/
  armExt : Bool := false
  /-- another unit pulls FIRE -/
  fireExt : Bool := false
  /-- R275: ARM has been asserted by another driver since this instant -/
  armForeignSince : Option BusEdge := none
  /-- R275: ARM_FOREIGN has been declared for this assertion -/
  foreignDeclared : Bool := false
  /-- R277: an edge awaiting acceptance -/
  edge : Option FireEdge := none
  /-- R277: the instant of the last accepted edge -/
  lastEdge : Option Nat := none
  /-- R277: FIRE_SEEN for the next step -/
  fireSeen : Bool := false
  /-- R281: FIRE is low since this edge -/
  fireLowSince : Option BusEdge := none
  /-- R281: MU_STATE.FIRE_STUCK -/
  fireStuck : Bool := false
  /-- R281: no edge is accepted until this instant -/
  fireQuietUntil : Nat := 0
  /-- R279: the bus requests that join the next step's merging, oldest first -/
  busReq : List CapRequest := []
  /-- R278: the device time of the latest sweep boundary -/
  boundTime : Nat := 0
  /-- R266: bus events since reset, modulo 65 536 -/
  busSeq : Nat := 0
  deriving DecidableEq, Repr

/-- R286 (10): a guard's state. -/
inductive GuardState where
  | idle | tripped | restart | armed
  deriving DecidableEq, Repr

/-- R288 (10): the trip causes; none before any trip. -/
inductive TripCause where
  | none | powerUp | low | high | txHigh | txLeak | rxLow | rxHigh | intlk | stage | follow | safe
  | cmd | peerLost | restartFail | clock | selfFault | refClock | powerFail
  deriving DecidableEq, Repr

/-- R299 (10): a learning in progress. -/
structure Learning where
  pat : Nat
  /-- sweeps of the pattern still to count -/
  left : Nat
  /-- least and greatest value by bin index used (GDA), or at index 0 (GDB) -/
  bins : List (Nat × Nat × Nat) := []
  /-- the present sweep of the pattern carries DARK -/
  dark : Bool := false
  deriving DecidableEq, Repr

/-- One guard (R286 to R307, 10). -/
structure Guard where
  /-- GDx.STATE.STATE; reset IDLE -/
  state : GuardState := .idle
  /-- GDx.STATE.CAUSE; reset 0 -/
  cause : TripCause := .none
  /-- GDx.STATE.ST_OK (R307) -/
  stOk : Bool := false
  /-- R289: the other guard's state as last received -/
  peer : GuardState := .idle
  /-- R289: the instant of the last alive toggle from the other guard -/
  aliveAt : Nat := 0
  /-- R305: the instant it entered TRIPPED -/
  trippedAt : Nat := 0
  /-- R285: its clock has stopped -/
  stopped : Bool := false
  /-- R307: a self-test runs, since this instant -/
  selfTest : Option Nat := none
  /-- R299: a learning runs -/
  learning : Option Learning := none
  /-- R291, R293: consecutive violating bins, or samples above HI -/
  run : Nat := 0
  /-- R293: consecutive samples below LO -/
  runLow : Nat := 0
  /-- R292: consecutive samples above TX_MAX -/
  runTx : Nat := 0
  /-- R292: consecutive samples above TX_DARK with the gate closed -/
  runLeak : Nat := 0
  deriving DecidableEq, Repr

/-- What both guards share in a restart attempt, and the inputs at the pins (10). -/
structure GuardShared where
  /-- R302: the instant the attempt in progress started -/
  attemptAt : Option Nat := none
  /-- R305, R302: the instant the previous attempt started -/
  lastAttempt : Option Nat := none
  /-- R303: restart plucks fired in the attempt -/
  plucks : Nat := 0
  /-- R294: INTLK_N is high at the pin; pulled up, so open at reset -/
  intlkHigh : Bool := true
  /-- R294: the instant INTLK_N last changed -/
  intlkAt : Nat := 0
  /-- R294: GDB.STATE.INTLK: the interlock counts as closed -/
  intlkClosed : Bool := false
  /-- R295: the boundary of the last sweep that ran, its PAT, its PERIOD in ticks and its sweep number -/
  lastBoundary : Option (Nat × Nat × Nat × Nat) := none
  /-- R295: a sweep runs -/
  inSweep : Bool := false
  /-- R96, R99, R292: either guard's EN_SOA has been absent since this instant; none while both are present; reset 0 -/
  darkSince : Option Nat := some 0
  deriving DecidableEq, Repr

/-- R320 (11): a capture descriptor's state. -/
inductive DescState where
  | free | wait | stream | closed
  deriving DecidableEq, Repr

/-- RESULT of a descriptor (11, R328). -/
inductive CapResult where
  | none | complete | aborted | truncated | overwritten
  deriving DecidableEq, Repr

/-- R327 (11): a span of the capture map. -/
structure MapEntry where
  first : Nat
  count : Nat
  /-- 1 NOT_HELD, 2 OVERWRITTEN, 3 ECC, 4 TRUNCATED, 5 ABORTED, 6 MIXED -/
  kind : Nat
  deriving DecidableEq, Repr

/-- R320, R321 (11): a capture descriptor. -/
structure Desc where
  num : Nat := 0
  state : DescState := .free
  stream : Bool := false
  result : CapResult := .none
  /-- 0 zone, 1 bus, 2 KP -/
  source : Nat := 0
  zone : Nat := 0
  first : Nat := 0
  last : Nat := 0
  pre : Nat := 0
  post : Nat := 0
  /-- trigger row; none until known (R321) -/
  trow : Option Nat := none
  /-- R321: the trigger instant, in uptime -/
  trigAt : Nat := 0
  /-- R324: the oldest row retained at acceptance -/
  oldest : Nat := 0
  /-- R325: the next row to enter the subscribers' packets -/
  given : Nat := 0
  /-- R328: the session that armed it -/
  session : Option Nat := none
  /-- next row to commit (WAIT) or hand over (STREAM) -/
  next : Nat := 0
  rows : Nat := 0
  map : List MapEntry := []
  deriving DecidableEq, Repr

/-- R312 (11): a retained ring row. -/
structure RingRow where
  num : Nat
  /-- the slot that holds it -/
  slot : Nat
  sweep : Nat
  /-- the fire instant of the completing look, in uptime -/
  firedAt : Nat
  deriving DecidableEq, Repr

/-- RNG (11). -/
structure Rng where
  /-- RNG.LPR: lines per row -/
  lpr : Nat := 0
  /-- R312: the first position of a row, in the format in force -/
  capo : Nat := 0
  /-- RNG.NS: rows in the ring -/
  ns : Nat := 0
  /-- RNG.GUARD_ROWS -/
  guardRows : Nat := 0
  /-- RNG.WROW, 48 bits (R315) -/
  wrow : Nat := 0
  /-- the slot the next row takes -/
  wslot : Nat := 0
  /-- R316: a length change awaits the wrap -/
  nsNext : Option Nat := none
  /-- rows retained, oldest first -/
  rows : List RingRow := []
  /-- R317: the row format changes at the first row of this sweep -/
  formatAt : Option Nat := none
  /-- R320: the 64 descriptors -/
  desc : List Desc := List.replicate 64 {}
  /-- R320: the next capture number -/
  nextNum : Nat := 1
  /-- R318: KP ring reads in progress: session, tag and the row being read -/
  reads : List (Nat × Nat × Nat) := []
  /-- R312, R342: output rows of the ring preset that await storing, oldest first -/
  queue : List PflRow := []
  deriving DecidableEq, Repr

/-- R330 (11): a flow that owns a compression context. -/
inductive FlowRef where
  | sub (n : Nat) | read (session tag : Nat)
  deriving DecidableEq, Repr

/-- R463 to R465 (15): a row waiting to be packed into a stream packet. -/
structure StreamRow where
  index : Nat
  sweep : Nat
  /-- the instant it was formed -/
  formedAt : Nat
  /-- R464: the row follows a Retune that changed the stream's content -/
  retuned : Bool := false
  /-- QFLAGS PARTIAL, LATE, DARK, SUBST, SAT of the row, with SAFE -/
  qflags : Nat
  data : List (BitVec 8)
  deriving DecidableEq, Repr

/-- R330 (11): a compression context. -/
structure CmpContext where
  flow : Option FlowRef := none
  pred : Nat := 0
  stride : Nat := 0
  /-- next block number -/
  seq : Nat := 0
  /-- samples of the open block, in order, and the rows they came in -/
  samples : List (BitVec 16) := []
  rows : List StreamRow := []
  /-- the instant of its first sample -/
  openAt : Nat := 0
  deriving DecidableEq, Repr

/-- R335 (11): a block that has closed and awaits release. -/
structure CmpBlock where
  ctx : Nat
  flow : FlowRef
  pred : Nat
  stride : Nat
  seq : Nat
  flush : Bool
  error : Bool
  last : Bool
  samples : List (BitVec 16)
  /-- the rows whose samples it holds, for its packet (R456, R467) -/
  rows : List StreamRow
  deriving DecidableEq, Repr

/-- CMP (11). -/
structure Cmp where
  ctxs : List CmpContext := List.replicate 64 {}
  /-- closed blocks awaiting R336, oldest first -/
  closed : List CmpBlock := []
  /-- bytes of input and output not yet counted as a KiB -/
  inBytes : Nat := 0
  outBytes : Nat := 0
  deriving DecidableEq, Repr

/-- CVU unit states (11). -/
inductive CvuState where
  | idle | running | done
  deriving DecidableEq, Repr

/-- A CVU unit (R337 to R341, 11). -/
structure CvuUnit where
  state : CvuState := .idle
  mismatch : Bool := false
  /-- RUN, the running value before the final XOR -/
  run : BitVec 64 := 0
  /-- COUNT -/
  count : Nat := 0
  result : BitVec 64 := 0
  /-- a DRAM range is being read -/
  dram : Bool := false
  deriving DecidableEq, Repr

/-- CVU (11). -/
structure Cvu where
  units : List CvuUnit := List.replicate 8 {}
  deriving DecidableEq, Repr

/-- DMC.STATE.SUBs (12). -/
inductive SubState where
  | untrained | training | active | powerDown | srEntry | selfRefresh | retrain | failed
  deriving DecidableEq, Repr

/-- R353 (12): a tracked row of a bank. -/
structure TrackedRow where
  rank : Nat
  bank : Nat
  row : Nat
  count : Nat
  deriving DecidableEq, Repr

/-- A rank's refresh state (R353, R355 to R359, R365, 12). -/
structure DramRank where
  /-- DMC.RATE.RATEi: 0 normal, 1 twice, 2 four times, 3 four times derated -/
  rate : Nat := 0
  /-- R357: a lower rate that takes effect at the next interval -/
  rateNext : Option Nat := none
  debt : Nat := 0
  /-- R355: the instant of the last interval -/
  intervalAt : Nat := 0
  /-- R357: a catch-up burst runs, since this instant -/
  catchUp : Option Nat := none
  /-- R357: the refresh in progress brought the debt to zero, and ends the burst -/
  lastOfBurst : Bool := false
  /-- a refresh is in progress, since this instant -/
  refreshAt : Option Nat := none
  /-- R359: the rank is in power-down -/
  powerDown : Bool := false
  /-- R356: an MR4 read of the rank is awaited -/
  mr4Due : Bool := false
  /-- R365: the instant the next periodic retraining is due, and one is due at once after a change of rate -/
  retrainAt : Nat := 0
  retrainDue : Bool := false
  /-- R365: the rank is in a retraining until this instant -/
  retrainTo : Nat := 0
  /-- R359: the instant of the last request -/
  usedAt : Nat := 0
  /-- R365: the instant ZQ calibration last started -/
  zqAt : Nat := 0
  /-- R353: the instant the refresh window began -/
  windowAt : Nat := 0
  deriving DecidableEq, Repr

/-- R351 (12): a read waiting or served. -/
structure DramReq where
  /-- acceptance number -/
  seq : Nat
  /-- requester of R350 -/
  id : Nat
  addr : Nat
  /-- present priority class -/
  cls : Nat
  time : Nat
  /-- the line's bytes at acceptance (R352), and whether it carried the poison pattern (R347) -/
  data : List (BitVec 8)
  bad : Bool
  /-- served, and waiting for older reads of its requester (R352); with an uncorrectable error -/
  served : Bool := false
  ue : Bool := false
  /-- R348: a write to the line was accepted after it -/
  newer : Bool := false
  deriving DecidableEq, Repr

/-- A sub-channel (R346 to R365, 12). -/
structure SubChannel where
  state : SubState := .untrained
  ranks : List DramRank := [{}, {}]
  /-- R351: the open row of each bank: rank, bank, row and the instant of its last access -/
  openRows : List (Nat × Nat × Nat × Nat) := []
  /-- R351: row hits served past an older request, by rank and bank -/
  hits : List (Nat × Nat × Nat) := []
  /-- reads in acceptance order -/
  queue : List DramReq := []
  /-- R353: the trackers -/
  tracked : List TrackedRow := []
  /-- R354: neighbour refreshes in the window by rank and bank -/
  nrefs : List (Nat × Nat × Nat) := []
  /-- R354: activates in the window by rank, bank and requester -/
  acts : List (Nat × Nat × Nat × Nat) := []
  /-- R354: requesters throttled here, each with the rank whose window it lasts for -/
  throttled : List (Nat × Nat) := []
  /-- R354: the instant of each requester's last activate -/
  lastAct : List (Nat × Nat) := []
  /-- the instant of the last request (R360) -/
  lastReq : Nat := 0
  /-- R360: the instant at which the self-refresh entry command is issued -/
  entryAt : Nat := 0
  /-- R363: segments masked at self-refresh entry -/
  masked : List Nat := []
  deriving DecidableEq, Repr

/-- R362, R363 (12): a range of system addresses whose contents are undefined, all of it or the lines of one sub-channel, with the
number of the draw that its bytes come from. -/
structure LostRange where
  lo : Nat
  hi : Nat
  sub : Option Nat
  draw : Nat
  deriving DecidableEq, Repr

/-- R352 (12): a read's response: requester, address, bytes and the POISON mark (R348). -/
structure DramResp where
  id : Nat
  addr : Nat
  data : List (BitVec 8)
  poison : Bool
  deriving DecidableEq, Repr

/-- DMC (12). -/
structure Dmc where
  /-- the four sub-channels (R6) -/
  subs : List SubChannel := List.replicate 4 {}
  /-- the acceptance number of the next read -/
  nextSeq : Nat := 0
  /-- R352: the responses that the latest command delivered (the model's own field, log entry 3) -/
  resp : List DramResp := []
  /-- R349: the next line scrub reads, and the instant of the last one -/
  scrubLine : Nat := 0
  scrubAt : Nat := 0
  /-- R347: lines that carry the poison pattern or an uncorrectable error, by line number -/
  poison : List Nat := []
  /-- R362, R363: contents that are undefined -/
  lost : List LostRange := []
  /-- R356: the instant of the last MR4 poll -/
  pollAt : Nat := 0
  /-- R361: RECOVERY: no request is accepted -/
  closed : Bool := false
  deriving DecidableEq, Repr

/-- REF.STATE.ACT (13). -/
inductive RefAct where
  | idle | regular | injected | calibrating
  deriving DecidableEq, Repr

/-- RSTAT.REASON (13, R388). -/
inductive Reason where
  | valid | none | openWire | overRange | range | cj
  deriving DecidableEq, Repr

/-- A reference-input channel (R369 to R389, 13). -/
structure RefChan where
  /-- R375: the gain code in force; none before its first conversion: CFG.GAIN -/
  gain : Option Nat := none
  /-- R375: consecutive valid conversions below 3/8 of full scale -/
  lowRun : Nat := 0
  /-- R376: the median history, latest first -/
  history : List Int := []
  /-- R383: OPEN stands -/
  openWire : Bool := false
  /-- R383, R385: the compliance monitor flags OPEN now -/
  compliance : Bool := false
  /-- R385: the latest instant at which the compliance monitor was raised or cleared -/
  complianceAt : Nat := 0
  /-- R385: RSTAT.GOOD -/
  good : Nat := 0
  /-- R388: RSTAT.REASON; reset NONE -/
  reason : Reason := .none
  /-- LIN of the latest result -/
  lin : Int := 0
  /-- R383: the conversion in progress was discarded by OPEN -/
  discard : Bool := false
  deriving DecidableEq, Repr

/-- R374 (13): the conversion in progress. -/
structure Conversion where
  chan : Nat
  preset : Nat
  injected : Bool
  startAt : Nat
  endAt : Nat
  gain : Nat
  deriving DecidableEq, Repr

/-- REF (13). -/
structure Ref where
  act : RefAct := .idle
  /-- REF.STATE.ENTRY -/
  entry : Nat := 0
  /-- the injected entry running -/
  injEntry : Nat := 0
  /-- REF.STATE.RESTARTS -/
  restarts : Nat := 0
  /-- REF.STATE.INJ_PENDING -/
  injPending : Bool := false
  /-- R382: a calibration waits for the injected sequence -/
  calPending : Bool := false
  /-- R381: the instant the calibration began -/
  calAt : Nat := 0
  /-- R381: the instant the latest periodic calibration was started -/
  calPeriodAt : Nat := 0
  /-- R381, R521: the latest self-calibration found every value within its limit -/
  calOk : Bool := false
  conv : Option Conversion := none
  /-- R377: the instant the present cycle began -/
  cycleAt : Nat := 0
  /-- R377: the cycle has ended and the next waits for its period -/
  cycleDone : Bool := true
  chans : List RefChan := List.replicate 16 {}
  /-- REF.WIN.ABOVE and BELOW (R389) -/
  above : BitVec 16 := 0
  below : BitVec 16 := 0
  /-- REF.SW_STATE.ON and FAULT (R390, R391) -/
  swOn : BitVec 8 := 0
  swFault : BitVec 8 := 0
  /-- R378: sweep boundaries since the last trigger of TRIG 5 -/
  sweeps : Nat := 0
  /-- R378: an accepted edge on the input of TRIG 1 to 4 awaits its trigger -/
  tachDue : Bool := false
  /-- R377: the instant at which the converter was last free -/
  freeAt : Nat := 0
  /-- R22, R397: REF restarts -/
  restarting : Bool := false
  deriving DecidableEq, Repr

/-- TIU unit states (13). -/
inductive TiuState where
  | off | idle | armed | running
  deriving DecidableEq, Repr

/-- A time-interval unit (R393 to R396, 13). -/
structure TiuUnit where
  state : TiuState := .off
  rateValid : Bool := false
  rate : Nat := 0
  /-- the start edge's 4 ns count and device time -/
  startCount : Nat := 0
  startTime : Nat := 0
  /-- R394: the count of a stop edge seen while ARMED, which a start edge of the same count would follow -/
  earlyCount : Option Nat := none
  /-- R396: RESULT values since the rate became invalid, latest first -/
  results : List Nat := []
  deriving DecidableEq, Repr

/-- TIU (13). -/
structure Tiu where
  units : List TiuUnit := List.replicate 4 {}
  /-- R392: the 4 ns count of the last accepted edge of each input -/
  lastEdge : List (Option Nat) := [none, none, none, none]
  deriving DecidableEq, Repr

/-- LAN.LANEn.STATE (14). -/
inductive LaneState where
  | off | detect | train | lock | active | quiet | lost | dormant
  deriving DecidableEq, Repr

/-- R408 (14): the course's state. -/
inductive CourseState where
  | down | detect | train | lock | caps | active | dormant
  deriving DecidableEq, Repr

/-- A serial lane (R400, R401, R410, R412, R420, 14). -/
structure LanLane where
  state : LaneState := .off
  /-- the instant the state was entered -/
  since : Nat := 0
  preTx : Bool := false
  preRx : Bool := false
  signal : Bool := false
  /-- c(−2), c(−1), c(0), c(1), signed 8-bit -/
  taps : List (BitVec 8) := [0, 0, 0, 0]
  /-- R409: a far-end termination has been found -/
  found : Bool := false
  /-- R410: consecutive frames with RX_READY received -/
  readyRun : Nat := 0
  /-- R410: consecutive frames with RX_READY sent -/
  readyTx : Nat := 0
  /-- R412: consecutive valid codewords in LOCK -/
  goodRun : Nat := 0
  /-- R412: this receiver has locked the lane -/
  locked : Bool := false
  /-- R412: the index of the latest SPARE codeword -/
  spareIdx : Nat := 0
  /-- R411: LANE_LOCKED received from the peer -/
  peerLocked : Bool := false
  /-- R420: consecutive uncorrectable codewords -/
  badRun : Nat := 0
  /-- R420: instants of the uncorrectable codewords of the last 100 µs, latest first -/
  badAt : List Nat := []
  deriving DecidableEq, Repr

/-- R414, R415 (14): a DATA flit: its sequence number and its segments: LEN bytes, SOP, EOP, CH. -/
structure Flit where
  seq : Nat
  segs : List (List (BitVec 8) × Bool × Bool × Nat)
  deriving DecidableEq, Repr

/-- The Peer Link course (R408 to R423, 14). -/
structure Course where
  state : CourseState := .down
  /-- the instant the state was entered -/
  since : Nat := 0
  /-- R409: the instant the first lane was found -/
  foundAt : Option Nat := none
  /-- LAN.PL_STATE.WIDTH: transmit width -/
  width : Nat := 0
  /-- receive width -/
  rxWidth : Nat := 0
  txQuiet : Bool := false
  rxQuiet : Bool := false
  /-- R411: RX_LOCKED received from the peer -/
  peerRxLocked : Bool := false
  /-- LAN.PL_PEER.SERIAL -/
  serial : Nat := 0
  /-- R419: a peer has been seen since reset -/
  peerKnown : Bool := false
  /-- R416: the peer's CAPS has been received, one with ACKED received, and one with ACKED sent -/
  capsRx : Bool := false
  capsAcked : Bool := false
  capsSentAcked : Bool := false
  /-- R408: a version mismatch holds the course DOWN -/
  hold : Bool := false
  /-- R417: credits held -/
  credits : Nat := 0
  /-- R417: the retry buffer, oldest first, at most 512 -/
  retry : List Flit := []
  /-- R415, R417: packets of CH 0 waiting to be sent, oldest first; the first may have begun -/
  txQueue : List (List (BitVec 8)) := []
  /-- R415: the first waiting packet has begun -/
  txStarted : Bool := false
  /-- R418: next SEQ to send and next expected, modulo 4 096 -/
  nextTx : Nat := 0
  nextRx : Nat := 0
  /-- R418: a NAK has been sent and the expected SEQ has not arrived -/
  nakSent : Bool := false
  /-- R418: consecutive replays without an advance -/
  replays : Nat := 0
  /-- R418: the instant ACK last advanced -/
  ackAt : Nat := 0
  /-- R418: flits of the retry buffer still to be replayed, the latest ones -/
  replayLeft : Nat := 0
  /-- an acknowledgement is owed, and receive-buffer flits to return -/
  ackOwed : Bool := false
  crdOwed : Nat := 0
  /-- R415: bytes of the CH 0 packet being assembled; none: no packet has begun -/
  rxPartial : Option (List (BitVec 8)) := none
  /-- R422: the instant of the last flit sent other than IDLE -/
  busyAt : Nat := 0
  /-- R423: DORMANT_REQ has been sent -/
  dormantReq : Bool := false
  /-- the flits other than DATA sent to the peer, the latest of each TYPE and code: type, ACK, payload -/
  ctrlTx : List (Nat × Nat × List (BitVec 8)) := []
  deriving DecidableEq, Repr

/-- LAN (14). -/
structure Lan where
  lanes : List LanLane := List.replicate 4 {}
  course : Course := {}
  deriving DecidableEq, Repr

/-- ETH MAC states (14). -/
inductive MacState where
  | disabled | an | train | align | up
  deriving DecidableEq, Repr

/-- What a MAC sends (R404, R405, R440, 14). -/
inductive TxFrame where
  /-- ARP reply to this Ethernet address for this IP -/
  | arpReply (eth ip : Nat)
  /-- gratuitous ARP (R405) -/
  | gratuitousArp
  /-- ICMP echo reply -/
  | echoReply (eth ip : Nat) (data : List (BitVec 8))
  /-- UDP datagram of KP: destination, source port KP_PORT, payload -/
  | kp (eth ip port : Nat) (payload : List (BitVec 8))
  deriving DecidableEq, Repr

/-- A MAC (R402 to R407, 14). -/
structure EthMac where
  state : MacState := .disabled
  hiSer : Bool := false
  /-- transmit queue, the frame being sent first, each with whether it is a control packet (R440) -/
  tx : List (TxFrame × Bool) := []
  /-- the instant the frame being sent ends -/
  txEnd : Nat := 0
  /-- R406: received PTP frames with their receive timestamps, at most 32 -/
  ptpRx : List (List (BitVec 8) × Int) := []
  /-- R406: sequenceId, messageType, transmit time, at most 16 -/
  ts : List (Nat × Nat × Nat) := []
  /-- R404: echo replies of the present second, and that second -/
  icmpCount : Nat := 0
  icmpSec : Nat := 0
  deriving DecidableEq, Repr

/-- ETH (14). -/
structure Eth where
  macs : List EthMac := List.replicate 4 {}
  deriving DecidableEq, Repr

/-- Session states (15). -/
inductive SessState where
  | free | active | suspended
  deriving DecidableEq, Repr

/-- R449 (15): status codes of KP; UPDATE's own are R502's. -/
inductive Status where
  | complete | aborted | notFound | rank | wrongMode | badRequest | badOpcode | busy | tagConflict
  | busError | poisoned | range | imageBad | stageRefused | refused | dataOverwritten | noResource
  | noBandwidth | captureOpen | alreadyClosed | full | rate
  /-- 0x0100 to 0x01FF (R502) -/
  | update (code : Nat)
  deriving DecidableEq, Repr

/-- R458 (15): how an in-flight command stands. -/
inductive CmdOutcome where
  | running
  | ended (status : Status) (detail : Nat) (result : List (BitVec 8))
  deriving DecidableEq, Repr

/-- R444, R445 (15): a command in flight. -/
structure InFlight where
  tag : Nat
  op : Nat
  args : KpArgs
  outcome : CmdOutcome := .running
  /-- R447: it has begun -/
  begun : Bool := false
  /-- R459: bytes committed -/
  bytes : Nat := 0
  /-- R444: CRC-64 of the bytes delivered -/
  crc : BitVec 64 := 0
  /-- of a read: the next byte, row offset or SEQ to deliver -/
  next : Nat := 0
  /-- of a read: where it ends; of LOG_READ: the records left -/
  stop : Nat := 0
  /-- bytes delivered of a row that does not fit a packet; of LOG_READ: the DETAIL -/
  part : Nat := 0
  /-- of a row read: the oldest row retained at acceptance; of LOG_READ: the records formed -/
  mark : Nat := 0
  /-- R452: a poisoned line was met, at this offset in 64-byte units -/
  poisonAt : Option Nat := none
  /-- every DATA packet has been formed, and the command ends so -/
  final : Option (Status × Nat) := none
  /-- the CMP context it holds (R456) -/
  ctx : Option Nat := none
  deriving DecidableEq, Repr

/-- R438, R444, R456, R471 (15): a control packet. -/
inductive CtlPayload where
  | completion (tag op : Nat) (status : Status) (detail bytes : Nat) (crc : BitVec 64)
      (lw : List (BitVec 32)) (result : List (BitVec 8))
  /-- `plain`: the bytes of the transfer that the packet carries, before compression -/
  | data (tag dflags rows offset : Nat) (bytes plain : List (BitVec 8))
  | notify (code count : Nat) (detail : List Nat) (lw : List (BitVec 32))
  deriving DecidableEq, Repr

/-- R438 (15): a control packet with its SEQ. -/
structure CtlPacket where
  seq : Nat
  payload : CtlPayload
  deriving DecidableEq, Repr

/-- R446 (15): a cached completion. -/
structure Cached where
  tag : Nat
  op : Nat
  time : Nat
  payload : CtlPayload
  deriving DecidableEq, Repr

/-- A session context (R430 to R446, 15). -/
structure Session where
  state : SessState := .free
  operator : Bool := false
  dual : Bool := false
  /-- the sending path first, then the others of a DUAL session -/
  paths : List KpPath := []
  nonce : Nat := 0
  cookie : BitVec 32 := 0
  /-- the instant the OPEN was granted (R431) -/
  openedAt : Nat := 0
  /-- the instant of the last valid packet (R435) -/
  lastAt : Nat := 0
  /-- the instant it became SUSPENDED (R432, R434) -/
  suspendedAt : Nat := 0
  /-- next control SEQ; starts at 1 (R431) -/
  nextSeq : Nat := 1
  /-- sent and unacknowledged, oldest first -/
  unacked : List CtlPacket := []
  /-- waiting for the window, oldest first (R438) -/
  waiting : List CtlPayload := []
  /-- the instant ACK last advanced or a resend round began (R439) -/
  ackAt : Nat := 0
  /-- consecutive resend rounds (R439) -/
  rounds : Nat := 0
  inflight : List InFlight := []
  cache : List Cached := []
  /-- R437: reached over the Peer Link -/
  unit : Nat := 0
  deriving DecidableEq, Repr

/-- R461 (15): the five stream kinds. -/
inductive StreamKind where
  | phase | temp | event | pluck | capture
  deriving DecidableEq, Repr

/-- A stream subscription (R461 to R470, 15). -/
structure Subscription where
  session : Nat
  kind : StreamKind
  preset : Nat
  /-- 0 to 3, or 0xFF uncompressed -/
  pred : Nat
  first : Nat
  last : Nat
  maxUs : Nat
  /-- packets formed (R468) -/
  seq : Nat := 0
  /-- rows held for the packets to come, oldest first; a compressed flow's stand in its CMP context -/
  rows : List StreamRow := []
  /-- R466: event records held, at most 256, each with the instant it was taken -/
  events : List (EventRec × Nat) := []
  /-- records formed before (R463) -/
  formed : Nat := 0
  /-- the next packet carries GAP -/
  gap : Bool := false
  /-- the next row follows a Retune that changed the content (R464) -/
  retuned : Bool := false
  /-- the CMP context held -/
  ctx : Option Nat := none
  /-- compression was asked for and no context was free -/
  noContext : Bool := false
  deriving DecidableEq, Repr

/-- R463 (15): a formed stream packet waiting to be sent. -/
structure StreamPacket where
  sub : Nat
  session : Nat
  seq : Nat
  time : Nat
  kind : StreamKind
  preset : Nat
  qflags : Nat
  pos0 : Nat
  npos : Nat
  nrows : Nat
  kflags : Nat
  index : Nat
  sweep : Nat
  data : List (BitVec 8)
  /-- the instant it was formed (R468) -/
  formedAt : Nat
  deriving DecidableEq, Repr

/-- R442 (15): the pending CLAIM. -/
structure Claim where
  session : Nat
  time : Nat
  deriving DecidableEq, Repr

/-- R437 (15): a relay record: the partner's SESSION or the OPEN's NONCE, and the path. -/
structure Relay where
  session : Option Nat
  nonce : Nat
  path : KpPath
  deriving DecidableEq, Repr

/-- R431 (15): a granted OPEN of the last 10 s, with its OPEN_REPLY. -/
structure Grant where
  path : KpPath
  nonce : Nat
  session : Nat
  cookie : BitVec 32
  payload : List (BitVec 8)
  time : Nat
  deriving DecidableEq, Repr

/-- KPE (15). -/
structure Kpe where
  sessions : List Session := List.replicate 128 {}
  /-- subscriptions 0 to 511 -/
  subs : List (Option Subscription) := List.replicate 512 none
  grants : List Grant := []
  claim : Option Claim := none
  /-- R432: OPENs in the present second of uptime, and that second -/
  openCount : Nat := 0
  openSec : Nat := 0
  /-- R443: PRESENCE_N: level, the instant of its last change, and whether it was high 20 ms before it fell -/
  presHigh : Bool := true
  presAt : Nat := 0
  presValid : Bool := false
  relays : List Relay := []
  /-- R466: formed stream packets waiting for their path, oldest first -/
  stream : List StreamPacket := []
  /-- R469: the CRC-64 of the rows of each stream capture delivered to subscribers -/
  capCrc : List (Nat × BitVec 64) := []
  /-- R167, R465: pluck samples waiting: sweep, position, pw and ph -/
  pluckRows : List (Nat × Nat × Nat × BitVec 16) := []
  deriving DecidableEq, Repr

/-- MGC.0x0050 (16), R501, R519, R26: what runs on the Morsen core. -/
inductive MorsenRun where
  | bootRom | firmware | romRecovery
  deriving DecidableEq, Repr

/-- MGC (16). -/
structure Mgc where
  /-- R475 (16): the instant the watchdog's period last began; reset 0 -/
  kickAt : Nat := 0
  /-- R501 (16): BOOTSEL1:0 at the pins as the latest reset release found them; reset 0 (DESIGN CHOICE, log entry 4) -/
  bootsel : BitVec 2 := 0
  /-- R501 (16): what the Morsen core runs; reset boot ROM (R519) -/
  runs : MorsenRun := .bootRom
  /-- R43 (02): the Morsen core applies the signed boot tuning and its accesses are SECURE -/
  secure : Bool := false
  deriving DecidableEq, Repr

/-- SNS (16). -/
structure Sns where
  /-- R480 (16): sites above TCRIT at their latest conversion, one Bool a site; reset none -/
  hot : List Bool := List.replicate 8 false
  /-- R480 (16): sites above TWARN at their latest conversion, one Bool a site; reset none -/
  warm : List Bool := List.replicate 8 false
  /-- R481 (16): rails outside ±4 % at their latest conversion; reset none -/
  railWarn : List Bool := List.replicate 12 false
  deriving DecidableEq, Repr

/-- TIM.STATE (16, R487). -/
inductive ServoState where
  | free | acquiring | locked | holdover
  deriving DecidableEq, Repr

/-- TIM (16). -/
structure Tim where
  /-- R482 (16): device time at `baseAt`, ns; 64 bits; 0 at power-on (DESIGN CHOICE, log entry 4); kept by a chip reset (R517) -/
  base : Nat := 0
  /-- R482 (16): the uptime (ps) at which device time was `base` -/
  baseAt : Nat := 0
  /-- R482 (16): TIM.STATE.TIME_SET; reset 0; kept by a chip reset (R517) -/
  timeSet : Bool := false
  /-- R487 (16): TIM.STATE.STATE; reset FREE (0) -/
  state : ServoState := .free
  /-- R486 (16): the offset being slewed away: ns left and the instant its removal ends -/
  slew : Option (Int × Nat) := none
  /-- R484, R486 (16): the new device time (ns) that the next 1 µs re-alignment takes, and that instant -/
  step : Option (Nat × Nat) := none
  /-- R51 (02): the low word of SET as last committed is kept in the register file; R487 (16): consecutive Sync messages with |d| < LOCK_NS -/
  good : Nat := 0
  /-- R487 (16): consecutive offsets above 4 × LOCK_NS -/
  bad : Nat := 0
  /-- R487 (16): the instant of the last accepted Sync -/
  syncAt : Nat := 0
  deriving DecidableEq, Repr

/-- R489, R490 (16): an event record. -/
structure EvRec where
  /-- R491 (16) -/
  seq : Nat
  /-- 0 ERROR, 1 EVENT -/
  kind : Nat
  /-- [0] ESCALATED, [1] TIME_UNSET, [2] HOLDOVER -/
  flags : Nat
  code : Nat
  /-- TIM.UPTIME, ns -/
  uptime : Nat
  /-- device time, ns -/
  time : Nat
  detail : Nat
  deriving DecidableEq, Repr

/-- R492 (16): a rate-limit key's count in its second. -/
structure RlimKey where
  kind : Nat
  code : Nat
  zone : Nat
  /-- records formed in the second -/
  formed : Nat
  /-- records suppressed in the second -/
  supp : Nat
  deriving DecidableEq, Repr

/-- R494 (16): a programmed page of the flash log. -/
structure LogPage where
  /-- sector 0 to 511 -/
  sector : Nat
  /-- page 0 to 255 -/
  page : Nat
  recs : List EvRec
  deriving DecidableEq, Repr

/-- EVR (16). -/
structure Evr where
  /-- R493 (16): the retained buffer, oldest first, each record with its FLUSHED mark; at most 2 048; reset empty at POWER_ON, kept by a chip reset (R517) -/
  buf : List (EvRec × Bool) := []
  /-- R494 (16): the pages of the flash log, in the order programmed; flash keeps them through every reset; DESIGN CHOICE, log entry 4: none at the first power-on -/
  log : List LogPage := []
  /-- R494 (16): where the next page is programmed: sector and page -/
  writeAt : Nat × Nat := (0, 0)
  /-- R493, R495 (16): the records of the page being programmed -/
  page : Option (List EvRec) := none
  /-- R493, R495 (16): pages wanted at once, at top priority (SAFE entry, PFAIL_N, the 1 s limit) -/
  urgent : Nat := 0
  /-- R495 (16): the POWER_FAIL record that leads the next page -/
  pfailFirst : Option EvRec := none
  /-- R492 (16): the second of uptime counted -/
  sec : Nat := 0
  /-- R492 (16): the keys of that second, at most 128 -/
  keys : List RlimKey := []
  /-- R492 (16): the shared key of that second: formed and suppressed -/
  shared : Nat × Nat := (0, 0)
  /-- R492 (16): keys suppressed in seconds that have ended, whose RATE_LIMITED record is owed -/
  due : List RlimKey := []
  /-- R496 (16): EVR.STATE.SEALED; reset 0 -/
  sealed : Bool := false
  /-- R494 (16): EVR.STATE.ERASING; reset 0 -/
  erasing : Bool := false
  /-- R494 (16): an ERASE waits for the page being programmed -/
  erasePending : Bool := false
  /-- R494 (16): the sector being erased, ahead of the write point or by ERASE -/
  eraseSector : Option Nat := none
  /-- R494 (16): sectors that ERASE has erased -/
  erased : Nat := 0
  /-- R497 (16): LW0 to LW3 hold a LOG_MEDIA_FAULT -/
  lwMedia : Bool := false
  deriving DecidableEq, Repr

/-- R501 (16): a boot-record copy. -/
structure BootCopy where
  generation : Nat := 0
  /-- 0 slot A, 1 slot B -/
  active : Nat := 0
  trial : Bool := false
  tries : Nat := 0
  /-- its CRC-32C is right -/
  valid : Bool := false
  deriving DecidableEq, Repr

/-- UPD (16). -/
structure Upd where
  /-- R499 (16): the bytes of slots A and B that have been programmed; an unlisted byte reads 0 (DESIGN CHOICE, log entry 4), flash keeps them -/
  flash : List Host.Cell := []
  /-- R501 (16): the two boot-record copies; DESIGN CHOICE, log entry 4: copy 0 valid, slot A -/
  boot : List BootCopy := [{ valid := true }, {}]
  /-- R502 (16): the end of the previous WRITE since BEGIN; none before a BEGIN -/
  next : Option Nat := none
  /-- R502 (16): a passing VERIFY with no WRITE since -/
  verified : Bool := false
  /-- R502 (16): an ACTIVATE asked for the reset; the instant it comes, once its completion is sent -/
  resetAt : Option Nat := none
  /-- R502 (16): the ACTIVATE's completion has not been sent: its session and tag -/
  resetWaits : Option (Nat × Nat) := none
  /-- R504 (16): the OTP words; DESIGN CHOICE, log entry 4: all 0 -/
  otp : List (BitVec 32) := List.replicate 64 0
  /-- R501, R505 (16): the running image's slot, whether it runs in TRIAL, and its BODY_HASH -/
  runSlot : Nat := 0
  runTrial : Bool := false
  runHash : BitVec 512 := 0
  deriving DecidableEq, Repr

/-- R516 (17): the reset causes. -/
inductive ResetCause where
  | powerOn | pin | clock | jtag | update | mode | rail | watchdog
  deriving DecidableEq, Repr

/-- R523 (17): the boot tuning of the running image, and how far its flags have come. -/
structure BootTuning where
  /-- the live register writes: address and value, in list order -/
  writes : List (Nat × BitVec 32) := []
  /-- the Porhorn image's bytes -/
  porhorn : List (BitVec 8) := []
  autoService : Bool := false
  autoLight : Bool := false
  autoStart : Bool := false
  deriving DecidableEq, Repr

/-- R523 (17): the step of the boot tuning that comes next. -/
inductive BootAct where
  | none | checking | service | light | start
  deriving DecidableEq, Repr

/-- Power, clocks, resets and the start-up pins (17). -/
structure Pwr where
  /-- R516 (17): VDD_AON is within tolerance; DESIGN CHOICE, log entry 4: true, State.reset stands after POWER_ON -/
  aonUp : Bool := true
  /-- R518 (17): the internal reset is asserted; DESIGN CHOICE, log entry 4: true at State.reset -/
  inReset : Bool := true
  /-- R516 (17): the cause of the latest reset; POWER_ON at State.reset -/
  cause : ResetCause := .powerOn
  /-- R509, R516 (17): every rail is within tolerance, since this instant; none: some rail is not; DESIGN CHOICE, log entry 4: 0 -/
  railsSince : Option Nat := some 0
  /-- R518 (17): RESET_N is high, since this instant; none: low; DESIGN CHOICE, log entry 4: 0 -/
  resetNHigh : Option Nat := some 0
  /-- R513 (17): CREF, SYSCLK and LREF are present; DESIGN CHOICE, log entry 4: present -/
  clocks : List Bool := [true, true, true]
  /-- R513 (17): the instants they were lost -/
  lostAt : List Nat := [0, 0, 0]
  /-- R514 (17): the instant of the chip reset of cause CLOCK -/
  clockResetAt : Option Nat := none
  /-- R515 (17): the always-on clock runs from the fallback oscillator; reset false -/
  fallback : Bool := false
  /-- R525 (17): PFAIL_N is taken as low; DESIGN CHOICE, log entry 4: high -/
  pfailLow : Bool := false
  /-- R46 (02): SEAL_N is high (the seal is open); DESIGN CHOICE, log entry 4: false (sealed) -/
  sealOpen : Bool := false
  /-- R564 (19): TESTEN was high at the latest reset release; DESIGN CHOICE, log entry 4: low -/
  testen : Bool := false
  /-- R511 (17): VDD_AON has left tolerance and other rails have not fallen: the enable lines are undefined; the number of the draw
  that they come from -/
  enablesOpen : Option Nat := none
  /-- R521 (17): the PREP steps that have passed, 0 to 7 -/
  prepPassed : Nat := 0
  /-- R521 (17): the action of the next PREP step has begun -/
  prepBegun : Bool := false
  /-- R521 (17): the instant PREP was entered -/
  prepAt : Nat := 0
  /-- R523 (17): the boot tuning of the running image -/
  tuning : BootTuning := {}
  /-- R523 (17): the boot tuning has been applied since the latest boot -/
  bootTuned : Bool := false
  /-- R523 (17): what the boot tuning does next -/
  bootAct : BootAct := .none
  /-- R523 (17): the instant SERVICE was entered -/
  serviceAt : Nat := 0
  deriving DecidableEq, Repr

/-- Who raises it: no command of this block; the spec gives every row of the table an effect, and an error is an effect
on the state (R16 to R27). The one name is here so that the type is inhabited. -/
inductive Fault where
  /-- Raised by nothing; safe: no step stops with it. -/
  | none
  deriving DecidableEq, Repr

/-- Why a command has no meaning. -/
inductive Refusal where
  /-- Raised by an arm of exec whose command has no meaning yet, under the command's mnemonic; safe: nothing is proved of
  such a command. -/
  | notModelled (mnemonic : String)
  deriving DecidableEq, Repr

/-- The machine. -/
structure State where
  /-- R482 (16): the present instant, ps of uptime; 0 when VDD_AON comes up -/
  now : Instant := 0
  /-- R36 to R62 (02): the register words -/
  regs : Regs := {}
  /-- R40 (02): the memories -/
  mems : Mems := {}
  /-- R36 (02): the answer to the latest bus access (the model's own field, DESIGN CHOICE, log entry 3) -/
  bus : Bus := {}
  /-- R16 to R72 (01, 02): CHP -/
  chp : Chp := {}
  /-- R73 to R105 (03): PSQ -/
  psq : Psq := {}
  /-- R76, R84 (03): PSY -/
  psy : Psy := {}
  /-- R106 to R123 (04): SRC -/
  src : Src := {}
  /-- R125 to R132 (04): OCC -/
  occ : Occ := {}
  /-- R134 to R141 (05): CRX -/
  crx : Crx := {}
  /-- R143 to R148 (05): CAL -/
  cal : Cal := {}
  /-- R149 to R151 (05): CHN -/
  chn : Chn := {}
  /-- R152 to R155 (05): PCM -/
  pcm : Pcm := {}
  /-- R156 to R169 (05): PHS -/
  phs : Phs := {}
  /-- R173 to R187, R572 (06): PFL -/
  pfl : Pfl := {}
  /-- R191 to R193 (07): RMX -/
  rmx : Rmx := {}
  /-- R194 to R210 (07): DTS -/
  dts : Dts := {}
  /-- R214 to R245 (08): AAR -/
  aar : Aar := {}
  /-- R248 to R281 (09): ZON -/
  zon : Zon := {}
  /-- R284 to R307 (10): GDA -/
  gda : Guard := {}
  /-- R284 to R307 (10): GDB -/
  gdb : Guard := {}
  /-- R294, R302 (10): what the guards share, and their pins -/
  guards : GuardShared := {}
  /-- R312 to R328 (11): RNG -/
  rng : Rng := {}
  /-- R330 to R336 (11): CMP -/
  cmp : Cmp := {}
  /-- R337 to R341 (11): CVU -/
  cvu : Cvu := {}
  /-- R344 to R365 (12): DMC -/
  dmc : Dmc := {}
  /-- R369 to R391 (13): REF -/
  ref : Ref := {}
  /-- R392 to R396 (13): TIU -/
  tiu : Tiu := {}
  /-- R400 to R423 (14): LAN -/
  lan : Lan := {}
  /-- R402 to R407 (14): ETH -/
  eth : Eth := {}
  /-- R426 to R471 (15): KPE -/
  kpe : Kpe := {}
  /-- R474 to R478 (16): MGC -/
  mgc : Mgc := {}
  /-- R479 to R481 (16): SNS -/
  sns : Sns := {}
  /-- R489 to R498, R574 (16): EVR -/
  evr : Evr := {}
  /-- R482 to R488 (16): TIM -/
  tim : Tim := {}
  /-- R499 to R505 (16): UPD -/
  upd : Upd := {}
  /-- R509 to R526 (17): power, clocks, resets and start-up -/
  pwr : Pwr := {}
  /-- The model's own field: how many free values the machine has drawn (DESIGN CHOICE, log entry 10) -/
  fresh : Nat := 0
  /-- The commands that wait, first in, first out (the model's own field, log entry 2) -/
  pending : List Instr := []
  deriving DecidableEq, Repr

/-- The machine right after a reset of cause POWER_ON (R516 to R518, R58): every field at its reset value, no command waiting. The three
words listed are the MACs' addresses, MAC_BASE + m (R504). -/
def State.reset : State := { regs := { live := [(0x410140, 1), (0x410180, 2), (0x4101C0, 3)] } }

end Sys2Proof.Machine
end

