-- ==== Sys2Proof/Machine/Ops.lean ====
section
/-! DEFINITION. The named operations every meaning is built from: sparse stores, register words and fields, time, masters
and their classes. -/

namespace Sys2Proof

/-- The number that a field holds in the words `g`. -/
def Field.read (g : Nat → Word) (f : Field) : Nat :=
  if f.lo + f.width ≤ 32 then (g f.addr).toNat / 2 ^ f.lo % 2 ^ f.width
  else ((g f.addr).toNat + (g (f.addr + 4)).toNat * 2 ^ 32) / 2 ^ f.lo % 2 ^ f.width

/-- The bits of a field in its (low) word. -/
def Field.mask (f : Field) : Word := BitVec.ofNat 32 ((2 ^ f.width - 1) * 2 ^ f.lo)

/-- One bit of a field that holds a flag for each of several units. -/
def Field.bit (f : Field) (k : Nat) : Field := { f with lo := f.lo + k, width := 1 }

/-- `w` with the field's bits set to `v`. -/
def Field.put (f : Field) (w : Word) (v : Nat) : Word :=
  (w &&& ~~~f.mask) ||| BitVec.ofNat 32 ((v % 2 ^ f.width) * 2 ^ f.lo)

/-- R7 (01): region number and block index. -/
def Block.place (b : Block) : Nat × Nat :=
  match b with
  | .chp => (0, 0)
  | .psq => (1, 0) | .psy => (1, 1) | .src => (1, 2) | .occ => (1, 3) | .crx => (1, 4) | .rmx => (1, 5)
  | .cal => (1, 6) | .gda => (1, 7)
  | .chn => (2, 0) | .pcm => (2, 1) | .phs => (2, 2) | .pfl => (2, 3) | .dts => (2, 4) | .aar => (2, 5) | .zon => (2, 6)
  | .dmc => (3, 0) | .rng => (3, 1) | .cmp => (3, 2) | .cvu => (3, 3)
  | .lan => (4, 0) | .eth => (4, 1) | .kpe => (4, 2)
  | .mgc => (5, 0) | .sns => (5, 1) | .ref => (5, 2) | .tiu => (5, 3) | .evr => (5, 4) | .tim => (5, 5)
  | .upd => (5, 6) | .gdb => (5, 7)

end Sys2Proof

namespace Sys2Proof.Machine

/-! ### One update for each part of the state -/

/-- chp changed by `f`. -/
def State.mapChp (s : State) (f : Chp → Chp) : State := { s with chp := f s.chp }

/-- psq changed by `f`. -/
def State.mapPsq (s : State) (f : Psq → Psq) : State := { s with psq := f s.psq }

/-- psy changed by `f`. -/
def State.mapPsy (s : State) (f : Psy → Psy) : State := { s with psy := f s.psy }

/-- src changed by `f`. -/
def State.mapSrc (s : State) (f : Src → Src) : State := { s with src := f s.src }

/-- occ changed by `f`. -/
def State.mapOcc (s : State) (f : Occ → Occ) : State := { s with occ := f s.occ }

/-- crx changed by `f`. -/
def State.mapCrx (s : State) (f : Crx → Crx) : State := { s with crx := f s.crx }

/-- cal changed by `f`. -/
def State.mapCal (s : State) (f : Cal → Cal) : State := { s with cal := f s.cal }

/-- chn changed by `f`. -/
def State.mapChn (s : State) (f : Chn → Chn) : State := { s with chn := f s.chn }

/-- pcm changed by `f`. -/
def State.mapPcm (s : State) (f : Pcm → Pcm) : State := { s with pcm := f s.pcm }

/-- phs changed by `f`. -/
def State.mapPhs (s : State) (f : Phs → Phs) : State := { s with phs := f s.phs }

/-- pfl changed by `f`. -/
def State.mapPfl (s : State) (f : Pfl → Pfl) : State := { s with pfl := f s.pfl }

/-- rmx changed by `f`. -/
def State.mapRmx (s : State) (f : Rmx → Rmx) : State := { s with rmx := f s.rmx }

/-- dts changed by `f`. -/
def State.mapDts (s : State) (f : Dts → Dts) : State := { s with dts := f s.dts }

/-- aar changed by `f`. -/
def State.mapAar (s : State) (f : Aar → Aar) : State := { s with aar := f s.aar }

/-- zon changed by `f`. -/
def State.mapZon (s : State) (f : Zon → Zon) : State := { s with zon := f s.zon }

/-- gda changed by `f`. -/
def State.mapGda (s : State) (f : Guard → Guard) : State := { s with gda := f s.gda }

/-- gdb changed by `f`. -/
def State.mapGdb (s : State) (f : Guard → Guard) : State := { s with gdb := f s.gdb }

/-- guards changed by `f`. -/
def State.mapGuards (s : State) (f : GuardShared → GuardShared) : State := { s with guards := f s.guards }

/-- rng changed by `f`. -/
def State.mapRng (s : State) (f : Rng → Rng) : State := { s with rng := f s.rng }

/-- cmp changed by `f`. -/
def State.mapCmp (s : State) (f : Cmp → Cmp) : State := { s with cmp := f s.cmp }

/-- cvu changed by `f`. -/
def State.mapCvu (s : State) (f : Cvu → Cvu) : State := { s with cvu := f s.cvu }

/-- dmc changed by `f`. -/
def State.mapDmc (s : State) (f : Dmc → Dmc) : State := { s with dmc := f s.dmc }

/-- ref changed by `f`. -/
def State.mapRef (s : State) (f : Ref → Ref) : State := { s with ref := f s.ref }

/-- tiu changed by `f`. -/
def State.mapTiu (s : State) (f : Tiu → Tiu) : State := { s with tiu := f s.tiu }

/-- lan changed by `f`. -/
def State.mapLan (s : State) (f : Lan → Lan) : State := { s with lan := f s.lan }

/-- eth changed by `f`. -/
def State.mapEth (s : State) (f : Eth → Eth) : State := { s with eth := f s.eth }

/-- kpe changed by `f`. -/
def State.mapKpe (s : State) (f : Kpe → Kpe) : State := { s with kpe := f s.kpe }

/-- mgc changed by `f`. -/
def State.mapMgc (s : State) (f : Mgc → Mgc) : State := { s with mgc := f s.mgc }

/-- sns changed by `f`. -/
def State.mapSns (s : State) (f : Sns → Sns) : State := { s with sns := f s.sns }

/-- evr changed by `f`. -/
def State.mapEvr (s : State) (f : Evr → Evr) : State := { s with evr := f s.evr }

/-- tim changed by `f`. -/
def State.mapTim (s : State) (f : Tim → Tim) : State := { s with tim := f s.tim }

/-- upd changed by `f`. -/
def State.mapUpd (s : State) (f : Upd → Upd) : State := { s with upd := f s.upd }

/-- pwr changed by `f`. -/
def State.mapPwr (s : State) (f : Pwr → Pwr) : State := { s with pwr := f s.pwr }

/-- regs changed by `f`. -/
def State.mapRegs (s : State) (f : Regs → Regs) : State := { s with regs := f s.regs }

/-- mems changed by `f`. -/
def State.mapMems (s : State) (f : Mems → Mems) : State := { s with mems := f s.mems }

/-! ### Sparse stores -/

/-- The word that a store holds at `a`; zero where nothing is listed. -/
def Store.get {w : Nat} (st : Store w) (a : Nat) : BitVec w :=
  match st with
  | [] => 0
  | (b, v) :: r => if a < b then 0 else if a = b then v else Store.get r a

/-- `st` with `v` at `a`, in canonical form: a zero word is not listed. -/
def Store.set {w : Nat} (st : Store w) (a : Nat) (v : BitVec w) : Store w :=
  match st with
  | [] => if v = 0 then [] else [(a, v)]
  | (b, x) :: r =>
    if a < b then (if v = 0 then (b, x) :: r else (a, v) :: (b, x) :: r)
    else if a = b then (if v = 0 then r else (a, v) :: r)
    else (b, x) :: Store.set r a v

/-- R4 (00): the 32-bit little-endian word at `a` of a byte store. -/
def Store.word (st : Store 8) (a : Nat) : Word :=
  BitVec.ofNat 32 ((Store.get st a).toNat + (Store.get st (a + 1)).toNat * 2 ^ 8
    + (Store.get st (a + 2)).toNat * 2 ^ 16 + (Store.get st (a + 3)).toNat * 2 ^ 24)

/-- `st` with the bytes of `bs` from `a` on. -/
def Store.setBytes (st : Store 8) (a : Nat) (bs : List Byte) : Store 8 :=
  match bs with
  | [] => st
  | b :: r => Store.setBytes (Store.set st a b) (a + 1) r

/-- The `n` bytes from `a` on. -/
def Store.bytes (st : Store 8) (a n : Nat) : List Byte := (List.range n).map (fun i => Store.get st (a + i))

/-- R4 (00): the bytes of `n`, little-endian, `k` of them. -/
def leBytes (k n : Nat) : List Byte := (List.range k).map (fun i => BitVec.ofNat 8 (n / 2 ^ (8 * i)))

/-- R4 (00): the little-endian number of the bytes. -/
def leNat (bs : List Byte) : Nat :=
  match bs with
  | [] => 0
  | b :: r => b.toNat + 256 * leNat r

/-- `st` with the 32-bit word `v` at `a`. -/
def Store.setWord (st : Store 8) (a : Nat) (v : Word) : Store 8 := Store.setBytes st a (leBytes 4 v.toNat)

/-- The entries of `st` outside the addresses `lo` to `hi − 1`. -/
def Store.drop {w : Nat} (st : Store w) (lo hi : Nat) : Store w := st.filter (fun c => c.1 < lo || hi ≤ c.1)

/-- The entries of `st` at the addresses `lo` to `hi − 1`. -/
def Store.within {w : Nat} (st : Store w) (lo hi : Nat) : Store w := st.filter (fun c => lo ≤ c.1 && c.1 < hi)

/-! ### Lists by index -/

/-- `xs` with the entry at `i` changed by `f`; `xs` itself where there is no such entry. -/
def modAt {α : Type} (xs : List α) (i : Nat) (f : α → α) : List α :=
  match xs, i with
  | [], _ => []
  | x :: r, 0 => f x :: r
  | x :: r, i + 1 => x :: modAt r i f

/-! ### Register words and fields -/

/-- R42 (02): the live word at `a`. -/
def State.live (s : State) (a : Nat) : Word := Store.get s.regs.live a ^^^ Reg.resetWord a

/-- R57 (02): the active tuning's word at `a`. -/
def State.tuned (s : State) (a : Nat) : Word := Store.get s.regs.tuned a ^^^ Reg.resetWord a

/-- R57 (02): the stage bank's word at `a`. -/
def State.stageWord (s : State) (a : Nat) : Word := Store.get s.regs.stage a ^^^ Reg.resetWord a

/-- R12 (01): the word at `a` of the tuning before the latest switch. -/
def State.prevWord (s : State) (a : Nat) : Word := Store.get s.regs.prev a ^^^ Reg.resetWord a

/-- The live word at `a` written. -/
def State.setLive (s : State) (a : Nat) (v : Word) : State :=
  { s with regs := { s.regs with live := Store.set s.regs.live a (v ^^^ Reg.resetWord a) } }

/-- The stage word at `a` written. -/
def State.setStage (s : State) (a : Nat) (v : Word) : State :=
  { s with regs := { s.regs with stage := Store.set s.regs.stage a (v ^^^ Reg.resetWord a) } }

/-- The number a field of the active view holds. -/
def State.rd (s : State) (f : Field) : Nat := if f.tuned then f.read s.tuned else f.read s.live

/-- The number a field of the stage bank holds. -/
def State.rdStage (s : State) (f : Field) : Nat := if f.tuned then f.read s.stageWord else f.read s.live

/-- R12 (01): the number a field holds for an item of this sweep: the former tuning's before the latest switch. -/
def State.rdFor (s : State) (sweep : Nat) (f : Field) : Nat :=
  if f.tuned && sweep < s.chp.ownsFrom then f.read s.prevWord else s.rd f

/-- A one-bit field of the active view. -/
def State.on (s : State) (f : Field) : Bool := s.rd f != 0

/-- A field of the live view written by the part itself. -/
def State.wr (s : State) (f : Field) (v : Nat) : State :=
  if f.lo + f.width ≤ 32 then s.setLive f.addr (f.put (s.live f.addr) v)
  else (s.setLive f.addr (BitVec.ofNat 32 v)).setLive (f.addr + 4) (BitVec.ofNat 32 (v / 2 ^ 32 % 2 ^ (f.width - 32)))

/-- R508 and the maps: a counter goes up by `n` and saturates at its maximum. -/
def State.bumpBy (s : State) (f : Field) (n : Nat) : State := s.wr f (min (s.rd f + n) (2 ^ f.width - 1))

/-- A counter goes up by one and saturates. -/
def State.bump (s : State) (f : Field) : State := s.bumpBy f 1

/-! ### Time -/

/-- The present instant moves on to `t`; time never runs back. -/
def State.advance (s : State) (t : Instant) : State := { s with now := max s.now t }

/-- One microsecond, millisecond and second in picoseconds. -/
def us : Nat := 1000000
/-- one millisecond -/
def ms : Nat := 1000000000
/-- one second -/
def sec : Nat := 1000000000000
/-- R73 (03): one tick of the sweep timer, 3.2 ns -/
def tick : Nat := 3200
/-- R74 (03): one sub-tick, 0.4 ns -/
def subTick : Nat := 400

/-- R485 (16): the rate correction of TIM.ADJ in ns for `e` ns, clamped to ±SLEW_PPM parts per million. -/
def State.adjNs (s : State) (e : Nat) : Int :=
  let ppm : Int := max 1 (s.rd Reg.TIM_SLEW_PPM)
  let a : Int := signed 32 (s.rd Reg.TIM_ADJ)
  let lim : Int := ppm * 2 ^ 40 / 1000000
  (e : Int) * max (-lim) (min lim a) / 2 ^ 40

/-- R486 (16): what of the slew has been added since device time was last set down, in ns. -/
def State.slewNs (s : State) : Int :=
  match s.tim.slew with
  | none => 0
  | some (d, endAt) =>
    let ppm : Int := max 1 (s.rd Reg.TIM_SLEW_PPM)
    let m : Int := (((s.now - s.tim.baseAt) / 1000 : Nat) : Int) * ppm / 1000000
    if endAt ≤ s.now then d else if d < 0 then max d (-m) else min d m

/-- R482, R485, R486 (16): device time in ns at the present instant: time since it was last set down, at the rate of
the always-on clock, with TIM.ADJ and the slew that is in progress. -/
def State.devTime (s : State) : Nat :=
  let e := (s.now - s.tim.baseAt) / 1000
  (((s.tim.base : Int) + e + s.adjNs e + s.slewNs) % 2 ^ 64).toNat

/-- R482 (16): uptime in ns. -/
def State.uptimeNs (s : State) : Nat := s.now / 1000

/-- Device time set down anew at the present instant, so that its rate may change from here on. -/
def State.rebaseTime (s : State) : State :=
  { s with tim := { s.tim with
    base := s.devTime, baseAt := s.now, slew := s.tim.slew.map (fun x => (x.1 - s.slewNs, x.2)) } }

/-! ### Masters (R43 to R46, 02) -/

/-- R43 (02): the master classes. -/
inductive MasterClass where
  | secure | privileged | open_
  deriving DecidableEq, Repr

/-- A session's entry; out of range: a free one. -/
def State.sess (s : State) (n : Nat) : Session := s.kpe.sessions.getD n {}

/-- R504 (16): an OTP word. -/
def State.otpWord (s : State) (w : Nat) : BitVec 32 := s.upd.otp.getD w 0

/-- R504 (16): OTP word 25 bit 0: the E grade (the order of the two bits is DEDUCED from CHP.GRADE, log entry 26). -/
def State.extGrade (s : State) : Bool := (s.otpWord 25).toNat % 2 = 1

/-- R478, R504 (16): OTP word 25 bit 1: JTAG is locked. -/
def State.jtagLocked (s : State) : Bool := (s.otpWord 25).toNat / 2 % 2 = 1

/-- R43 (02): the class of a master now. -/
def State.classOf (s : State) (m : Master) : MasterClass :=
  match m with
  | .morsen =>
    if (s.chp.mode = .boot && s.mgc.runs = .bootRom) || (s.chp.mode = .prep && s.mgc.secure) then .secure
    else .privileged
  | .session n => if (s.sess n).operator then .privileged else .open_
  | .jtag => if s.jtagLocked then .open_ else .privileged

/-- R42 (02): the master may write P fields. -/
def State.mayPriv (s : State) (m : Master) : Bool := s.classOf m != .open_

/-- R46 (02): the master may write seal-locked fields. -/
def State.maySeal (s : State) (m : Master) : Bool := s.classOf m == .secure || s.pwr.sealOpen

/-! ### Blocks and isolation (R7, R20, 01) -/

/-- R7 (01): every block. -/
def allBlocks : List Block :=
  [.chp, .psq, .psy, .src, .occ, .crx, .rmx, .cal, .gda, .chn, .pcm, .phs, .pfl, .dts, .aar, .zon,
   .dmc, .rng, .cmp, .cvu, .lan, .eth, .kpe, .mgc, .sns, .ref, .tiu, .evr, .tim, .upd, .gdb]

/-- R7 (01): the block of a region and an index; none: no block stands there. -/
def blockAt (region index : Nat) : Option Block := allBlocks.find? (fun b => Block.place b == (region, index))

/-- R16 (01): an error code. -/
def errCode (b : Block) (cause : Nat) : Nat := (Block.place b).1 * 2 ^ 13 + (Block.place b).2 * 2 ^ 8 + cause % 2 ^ 8

/-- R20 (01): the block as a whole, or this unit of it, is isolated. -/
def State.isolatedAt (s : State) (b : Block) (u : Option Nat) : Bool :=
  s.chp.isolated.any (fun i => i.block == b && (i.unit == none || i.unit == u))

/-- R20 (01): the block as a whole is isolated. -/
def State.isolated (s : State) (b : Block) : Bool := s.isolatedAt b none

/-! ### Answers of the bus (R9, R36, 01 and 02) -/

/-- R36 (02): the access completes with BUS_ERROR; a read returns zero. -/
def State.busErr (s : State) : State :=
  ({ s with bus := { data := 0, error := true } }).bump Reg.CHP_BUSERR_CNT_COUNT

/-- An access completes and returns `v`. -/
def State.answer (s : State) (v : Word) : State := { s with bus := { data := v, error := false } }

/-- An access completes. -/
def State.done (s : State) : State := s.answer 0

end Sys2Proof.Machine
end

