-- ==== Sys2Proof/Machine/Crc.lean ====
section
/-! DEFINITION. The check codes of R337 (11): CRC-32C and CRC-64 (ECMA-182), with the prefix of R338. -/

namespace Sys2Proof.Machine

/-- One bit of CRC-32C, reflected in and out (R337). -/
def crc32Bit (c : BitVec 32) : BitVec 32 := if c &&& 1 = 1 then (c >>> 1) ^^^ 0x82F63B78 else c >>> 1

/-- One bit of CRC-64, not reflected (R337). -/
def crc64Bit (c : BitVec 64) : BitVec 64 :=
  if c &&& 0x8000000000000000 = 0 then c <<< 1 else (c <<< 1) ^^^ 0x42F0E1EBA9EA3693

/-- CRC-32C: the running value after one more byte. -/
def crc32Byte (c : BitVec 32) (b : Byte) : BitVec 32 :=
  crc32Bit (crc32Bit (crc32Bit (crc32Bit (crc32Bit (crc32Bit (crc32Bit (crc32Bit (c ^^^ b.setWidth 32))))))))

/-- CRC-64: the running value after one more byte. -/
def crc64Byte (c : BitVec 64) (b : Byte) : BitVec 64 :=
  crc64Bit (crc64Bit (crc64Bit (crc64Bit (crc64Bit (crc64Bit (crc64Bit (crc64Bit (c ^^^ (b.setWidth 64 <<< 56)))))))))

/-- R337 (11): CRC-32C of a byte sequence, from the lowest address up. -/
def crc32c (bs : List Byte) : BitVec 32 := (bs.foldl crc32Byte 0xFFFFFFFF) ^^^ 0xFFFFFFFF

/-- R337 (11): CRC-64 of a byte sequence, carried on from `c`. -/
def crc64From (c : BitVec 64) (bs : List Byte) : BitVec 64 := bs.foldl crc64Byte c

/-- R339 (11): some unit is marked in CVU.OWN, so flows have check values (R427). -/
def State.ownsCvu (s : State) : Bool := s.rd Reg.CVU_OWN_UNITS != 0

end Sys2Proof.Machine
end

