-- ==== Sys2Proof/Machine/Flags.lean ====
section
/-! DEFINITION. Every status-flag computation: events of ST registers (R47), flags that follow a standing cause (R49),
the sequence-checked clearing write (R48) and the mode change (R49). -/

namespace Sys2Proof.Machine

/-- The bits of several flags of one status word. -/
def flagMask (fs : List Field) : Word := fs.foldl (fun w f => w ||| f.mask) 0

/-- R47 (02): the status word after an event that sets the bits `m`: the sequence number one up, modulo 256. -/
def stBump (w : Word) (m : Word) : Word :=
  BitVec.ofNat 32 (((w.toNat / 2 ^ 24 + 1) % 256) * 2 ^ 24) ||| (w &&& 0xFFFFFF) ||| (m &&& 0xFFFFFF)

/-- R48, R49 (02): flags stand until they are cleared only in SERVICE; elsewhere they follow their cause. -/
def State.bySequence (s : State) : Bool := s.chp.mode == .service

/-- The flags of the status word at `a` whose cause stands. -/
def State.setCauses (s : State) (a : Nat) (m : Word) : State :=
  { s with regs := { s.regs with causes := Store.set s.regs.causes a m } }

/-- R47 (02): an event with no standing cause sets flags of one status word; outside SERVICE the flags, whose cause is
gone at once, stay clear (R49, DEDUCED, log entry 5), and the sequence number counts the event. -/
def State.event (s : State) (fs : List Field) : State :=
  match fs with
  | [] => s
  | f :: _ => s.setLive f.addr (stBump (s.live f.addr) (if s.bySequence then flagMask fs else 0))

/-- R47, R49 (02): an event whose cause stands from now on sets flags of one status word. -/
def State.eventStands (s : State) (fs : List Field) : State :=
  match fs with
  | [] => s
  | f :: _ =>
    let s := s.setLive f.addr (stBump (s.live f.addr) (flagMask fs))
    s.setCauses f.addr (Store.get s.regs.causes f.addr ||| flagMask fs)

/-- R49 (02): the cause of these flags is gone: outside SERVICE they clear. -/
def State.causeGone (s : State) (fs : List Field) : State :=
  match fs with
  | [] => s
  | f :: _ =>
    let s := s.setCauses f.addr (Store.get s.regs.causes f.addr &&& ~~~(flagMask fs))
    if s.bySequence then s else s.setLive f.addr (s.live f.addr &&& ~~~(flagMask fs))

/-- R48, R49 (02): a plain write of `v` to the ST fields of the word at `a`: in SERVICE the flags written as one clear if
bits [31:24] are the current sequence number, and any other write counts as stale; in another mode nothing happens. -/
def State.statusWrite (s : State) (a : Nat) (v : Word) : State :=
  if s.bySequence then
    if v.toNat / 2 ^ 24 = (s.live a).toNat / 2 ^ 24 then s.setLive a (s.live a &&& ~~~(v &&& 0xFFFFFF))
    else s.bump Reg.CHP_STALE_CNT_COUNT
  else s

/-- Whether the map gives the word ST fields. -/
def isStatusRow (r : RegRow) : Bool := r.fields.any (fun f => f.acc == .st)

/-- R49 (02): the addresses of the status words. -/
def statusAddrs : List Nat :=
  ((List.range 0x58).flatMap (fun b => (Reg.rowsAt (b * 0x10000)).filter isStatusRow)).map (fun r => r.base)

/-- R49 (02): at a mode change the flags whose cause is gone clear, and the sequence numbers are kept. -/
def State.dropStaleFlags (s : State) : State :=
  statusAddrs.foldl (fun s a => s.setLive a (s.live a &&& (0xFF000000 ||| Store.get s.regs.causes a))) s

end Sys2Proof.Machine
end

