-- ==== Sys2Proof/Machine/Recorder.lean ====
section
/-! DEFINITION. The event recorder (R489 to R498, R574, 16): forming a record, rate limiting, the retained buffer, the
flash log and its seal. -/

namespace Sys2Proof.Machine

/-- R494 (16): sectors of the flash log; above 512 is taken as 512. -/
def State.logSectors (s : State) : Nat := min 512 (s.rd Reg.EVR_LOG_SECTORS)

/-- R493 (16): records of the retained buffer that have not been flushed, oldest first. -/
def Evr.waiting (e : Evr) : List EvRec := (e.buf.filter (fun r => !r.2)).map (fun r => r.1)

/-- R498 (16): every record held, in flash or in the retained buffer, in SEQ order. -/
def Evr.held (e : Evr) : List EvRec :=
  let fl := e.log.flatMap (fun p => p.recs)
  let both := fl ++ ((e.buf.map (fun r => r.1)).filter (fun r => !(fl.any (fun x => x.seq == r.seq))))
  both.mergeSort (fun a b => a.seq ≤ b.seq)

/-- EVR.OLDEST_SEQ (16): SEQ of the oldest record held; the next SEQ where none is held. -/
def State.oldestSeq (s : State) : Nat :=
  match s.evr.held with
  | [] => s.rd Reg.EVR_NEXT_SEQ
  | r :: _ => r.seq

/-- R489 (16): the 32 bytes of a record. -/
def EvRec.bytes (r : EvRec) : List Byte :=
  leBytes 4 r.seq ++ leBytes 1 r.kind ++ leBytes 1 r.flags ++ leBytes 2 r.code ++ leBytes 8 r.uptime ++ leBytes 8 r.time
    ++ leBytes 8 r.detail

/-- R497 (16): the last-word registers take bytes 0 to 7 and 24 to 31 of a record. -/
def State.setLastWords (s : State) (r : EvRec) : State :=
  (((s.wr (Reg.EVR_LW 0) r.seq).wr (Reg.EVR_LW 1) (r.kind + r.flags * 2 ^ 8 + r.code * 2 ^ 16)).wr (Reg.EVR_LW 2)
    (r.detail % 2 ^ 32)).wr (Reg.EVR_LW 3) (r.detail / 2 ^ 32 % 2 ^ 32)

/-- R497 (16): LW0 to LW3, as KP carries them. -/
def State.lastWords (s : State) : List Word := (List.range 4).map (fun i => s.live (Reg.EVR_LW i).addr)

/-- R490 (16): the EVENT codes. -/
def evBoot : Nat := 1
/-- MODE -/
def evMode : Nat := 2
/-- CLOCK_SET -/
def evClockSet : Nat := 3
/-- PTP_LOCK -/
def evPtpLock : Nat := 4
/-- PTP_LOST -/
def evPtpLost : Nat := 5
/-- GUARD -/
def evGuard : Nat := 6
/-- APPLY -/
def evApply : Nat := 7
/-- CLAIM -/
def evClaim : Nat := 8
/-- UPDATE -/
def evUpdate : Nat := 9
/-- LOG_MEDIA_FAULT -/
def evMediaFault : Nat := 10
/-- POWER_FAIL -/
def evPowerFail : Nat := 11
/-- SENSOR -/
def evSensor : Nat := 12
/-- DRAM_UE -/
def evDramUe : Nat := 13
/-- CVU_MISMATCH -/
def evCvuMismatch : Nat := 14
/-- ZONE_EVENT -/
def evZone : Nat := 15
/-- RATE_LIMITED -/
def evRateLimited : Nat := 16
/-- LOG_ERASED -/
def evLogErased : Nat := 17

/-- R490 (16): the EVENT codes that are never rate-limited. -/
def exemptCodes : List Nat := [1, 3, 9, 10, 11, 16, 17]

/-- R494, R495 (16): the records of the next page: POWER_FAIL first where it leads, then the waiting ones, oldest first. -/
def Evr.nextPage (e : Evr) : List EvRec :=
  match e.pfailFirst with
  | some r => (r :: e.waiting.filter (fun x => x.seq != r.seq)).take 8
  | none => e.waiting.take 8

/-- R493, R494 (16): a page program begins where one is wanted and the log can take it: a log exists, it is not sealed,
not full, not being erased, and no page is being programmed. -/
def State.startPage (s : State) : State :=
  let e := s.evr
  if s.logSectors = 0 || e.sealed || e.erasing || e.erasePending || e.page.isSome || e.waiting.isEmpty then s
  else if e.urgent = 0 && e.waiting.length < 8 then s
  else if s.logSectors ≤ e.writeAt.1 then
    if s.on Reg.EVR_WRAP then
      (s.causeGone [Reg.EVR_STAT_LOG_FULL]).mapEvr (fun e => { e with writeAt := (0, 0), eraseSector := some 0 })
    else if (Store.get s.regs.causes Reg.EVR_STAT_LOG_FULL.addr &&& Reg.EVR_STAT_LOG_FULL.mask) = 0 then
      s.eventStands [Reg.EVR_STAT_LOG_FULL]
    else s
  else if e.eraseSector = some e.writeAt.1 then s
  else s.mapEvr (fun e => { e with page := some e.nextPage, pfailFirst := none, urgent := e.urgent - 1 })

/-- R493, R574 (16): a record enters the retained buffer, in the slot of the oldest flushed record (or, with no flash
log, of the oldest) when the buffer is full. -/
def Evr.enter (e : Evr) (noLog : Bool) (r : EvRec) : Evr :=
  if e.buf.length < 2048 then { e with buf := e.buf ++ [(r, false)] }
  else if noLog then { e with buf := e.buf.drop 1 ++ [(r, false)] }
  else { e with buf := e.buf.eraseP (fun x => x.2) ++ [(r, false)] }

/-- R489, R491, R493, R497 (16): a record is formed: it takes the next SEQ and the present times and enters the
buffer; 2 048 waiting records drop it. -/
def State.enterRecord (s : State) (kind code detail : Nat) (esc : Bool) : State :=
  if s.logSectors ≠ 0 && 2048 ≤ s.evr.waiting.length then
    ((s.bump Reg.EVR_DROP_CNT).eventStands [Reg.EVR_STAT_SRAM_FULL])
  else
    let flags := (if esc then 1 else 0) + (if s.tim.timeSet then 0 else 2) + (if s.tim.state = .holdover then 4 else 0)
    let r : EvRec :=
      { seq := s.rd Reg.EVR_NEXT_SEQ, kind := kind, flags := flags, code := code
        uptime := s.uptimeNs, time := s.devTime, detail := detail % 2 ^ 64 }
    let s := s.mapEvr (fun e => e.enter (s.logSectors = 0) r)
    let s := (s.bump Reg.EVR_REC_CNT).wr Reg.EVR_NEXT_SEQ ((r.seq + 1) % 2 ^ 32)
    let media := kind = 1 && code = evMediaFault
    let s := if (kind = 0 && esc) || (kind = 1 && code = evPowerFail && !s.evr.lwMedia) || media then
        (if s.evr.lwMedia && !media then s else s.setLastWords r) else s
    if media then s.mapEvr (fun e => { e with lwMedia := true }) else s

/-- R493 (16): a record is formed, and a page is begun where one is due. -/
def State.form (s : State) (kind code detail : Nat) (esc : Bool) : State := (s.enterRecord kind code detail esc).startPage

/-- R492 (16): a second of uptime that has ended leaves its suppressed keys owed. -/
def State.rollSecond (s : State) : State :=
  let now := s.now / sec
  if s.evr.sec = now then s
  else s.mapEvr (fun e =>
    let sh : List RlimKey := if e.shared.2 = 0 then [] else
      [{ kind := 0xFF, code := 0, zone := 0, formed := e.shared.1, supp := e.shared.2 }]
    { e with sec := now, keys := [], shared := (0, 0), due := e.due ++ e.keys.filter (fun k => k.supp != 0) ++ sh })

/-- R492 (16): whether a record of this key may be formed now, and EVR with it counted. -/
def Evr.limit (e : Evr) (n kind code zone : Nat) : Bool × Evr :=
  let same (k : RlimKey) : Bool := k.kind == kind && k.code == code && k.zone == zone
  match e.keys.find? same with
  | some k =>
    if k.formed < n then
      (true, { e with keys := e.keys.map (fun k => if same k then { k with formed := k.formed + 1 } else k) })
    else (false, { e with keys := e.keys.map (fun k => if same k then { k with supp := k.supp + 1 } else k) })
  | none =>
    if e.keys.length < 128 then
      (true, { e with keys := e.keys ++ [{ kind := kind, code := code, zone := zone, formed := 1, supp := 0 }] })
    else if e.shared.1 < n then (true, { e with shared := (e.shared.1 + 1, e.shared.2) })
    else (false, { e with shared := (e.shared.1, e.shared.2 + 1) })

/-- R489 to R493 (16): an event record is formed, unless its key has had its share of this second. -/
def State.record (s : State) (kind code detail : Nat) (zone : Nat := 0) (esc : Bool := false) : State :=
  let s := s.rollSecond
  if (kind = 1 && exemptCodes.contains code) || (kind = 0 && esc) || s.rd Reg.EVR_RLIM_N = 0 then
    s.form kind code detail esc
  else
    let z := if kind = 1 && code = evZone then zone else 0
    let r := s.evr.limit (s.rd Reg.EVR_RLIM_N) kind code z
    let s := { s with evr := r.2 }
    if r.1 then s.form kind code detail esc
    else (s.bump Reg.EVR_SUPP_CNT).event [Reg.EVR_STAT_RATE_LIMITED]

/-- R493 (16): every waiting record is wanted in flash at once. -/
def State.flushAll (s : State) : State :=
  (s.mapEvr (fun e => { e with urgent := max e.urgent ((e.waiting.length + 7) / 8) })).startPage

/-- R494, R499 (16): the flash address of a page of the log. -/
def logAddr (p : Nat × Nat) : Nat := 0x2000000 + p.1 * 0x10000 + p.2 * 256

/-- R496 (16): a flash failure (1 program, 2 erase, 3 readback) at an address seals the log. -/
def State.sealLog (s : State) (addr kind : Nat) : State :=
  let s := s.mapEvr (fun e => { e with sealed := true, erasing := false, erasePending := false, eraseSector := none, urgent := 0 })
  (s.eventStands [Reg.EVR_STAT_MEDIA_FAULT]).record 1 evMediaFault (addr + kind * 2 ^ 32)

/-- R494 (16): the whole-log erase begins with sector 0. -/
def State.beginErase (s : State) : State :=
  s.mapEvr (fun e => { e with erasing := true, erasePending := false, erased := 0, eraseSector := some 0 })

/-- R493, R494 (16): a page has been programmed and read back right: its records count as flushed, the write point moves
on, and with WRAP the sector ahead of it is erased. -/
def State.pageDone (s : State) (recs : List EvRec) : State :=
  let n := s.logSectors
  let p := s.evr.writeAt
  let pg : LogPage := { sector := p.1, page := p.2, recs := recs }
  let full := p.2 = 255
  let sc := if full then (if s.on Reg.EVR_WRAP then (p.1 + 1) % max 1 n else p.1 + 1) else p.1
  let ahead := (sc + 1) % max 1 n
  let s := s.mapEvr (fun e => { e with
    page := none
    log := e.log ++ [pg]
    writeAt := (sc, if full then 0 else p.2 + 1)
    eraseSector :=
      if full && s.on Reg.EVR_WRAP && e.log.any (fun x => x.sector == ahead) then some ahead else e.eraseSector
    buf := e.buf.map (fun x => if recs.any (fun r => r.seq == x.1.seq) then (x.1, true) else x) })
  let s := (s.bump Reg.EVR_PAGE_CNT).causeGone [Reg.EVR_STAT_SRAM_FULL]
  let s := if n ≤ s.evr.writeAt.1 then s.eventStands [Reg.EVR_STAT_LOG_FULL] else s
  if s.evr.erasePending then s.beginErase else s.startPage

/-- R494 (16): the write of EVR.CMD.ERASE: ignored while an erase runs; it waits for a page being programmed. -/
def State.eraseCmd (s : State) : State :=
  if s.evr.erasing || s.logSectors = 0 then s
  else if s.evr.page.isSome then s.mapEvr (fun e => { e with erasePending := true })
  else s.beginErase

end Sys2Proof.Machine
end

