-- ==== Sys2Proof/Machine/Notify.lean ====
section
/-! DEFINITION. The sessions' control queues and notifications (R438, R471, 15), which every block that notifies calls. -/

namespace Sys2Proof.Machine

/-- Session `n` changed by `f`. -/
def State.mapSess (s : State) (n : Nat) (f : Session → Session) : State :=
  s.mapKpe (fun k => { k with sessions := modAt k.sessions n f })

/-- R438 (15): a control packet joins the end of the session's queue; a free session has none. -/
def State.queueCtl (s : State) (n : Nat) (p : CtlPayload) : State :=
  s.mapSess n (fun x => if x.state = .free then x else { x with waiting := x.waiting ++ [p] })

/-- A NOTIFY of this code. -/
def CtlPayload.isNotify (code : Nat) (p : CtlPayload) : Bool :=
  match p with
  | .notify c _ _ _ => c == code
  | _ => false

/-- R471 (15): the queue after a NOTIFY: one of the same code that still waits is replaced, its COUNT one higher; else it
joins the end with COUNT 1. -/
def noteIn (ws : List CtlPayload) (code : Nat) (detail : List Nat) (lw : List (BitVec 32)) : List CtlPayload :=
  if ws.any (CtlPayload.isNotify code) then
    ws.map (fun p => match p with
      | .notify c n d l => if c = code then .notify c (n + 1) detail lw else .notify c n d l
      | p => p)
  else ws ++ [.notify code 1 detail lw]

/-- R471 (15): a NOTIFY to one session. -/
def State.notifyOne (s : State) (n code : Nat) (detail : List Nat) : State :=
  let lw := s.lastWords
  s.mapSess n (fun x => if x.state = .free then x else { x with waiting := noteIn x.waiting code detail lw })

/-- R471 (15): the codes. -/
def ntMode : Nat := 1
/-- SAFE -/
def ntSafe : Nat := 2
/-- GUARD -/
def ntGuard : Nat := 3
/-- APPLY -/
def ntApply : Nat := 4
/-- CAP_CLOSED -/
def ntCapClosed : Nat := 5
/-- PATH -/
def ntPath : Nat := 6
/-- CLAIM -/
def ntClaim : Nat := 7

/-- The numbers of the sessions that are not free. -/
def State.usedSessions (s : State) : List Nat :=
  (List.range 128).filter (fun n => (s.sess n).state != .free)

/-- R471 (15): a NOTIFY to every session whose NMASK sets its code. -/
def State.notify (s : State) (code : Nat) (detail : List Nat) : State :=
  s.usedSessions.foldl (fun s n => if s.rd (Reg.KPE_S_NMASK n) / 2 ^ code % 2 = 1 then s.notifyOne n code detail else s) s

end Sys2Proof.Machine
end

