-- ==== Sys2Proof/Machine/Light.lean ====
section
/-! DEFINITION. The shared operations on the light: the guards' states and enables (R284 to R290, R573), what a removed
enable does to looks and stages (R96, R108), halting the tab (R93 to R95), closing an accumulation (R196, R197),
cancelling a Retune (R70), and SAFE (R23, R27). -/

namespace Sys2Proof.Machine

/-! ### Guards -/

/-- The guard named. -/
def State.guard (s : State) (g : GuardId) : Guard :=
  match g with
  | .a => s.gda
  | .b => s.gdb

/-- The guard named, changed by `f`. -/
def State.mapGuard (s : State) (g : GuardId) (f : Guard → Guard) : State :=
  match g with
  | .a => s.mapGda f
  | .b => s.mapGdb f

/-- The other guard. -/
def otherGuard (g : GuardId) : GuardId :=
  match g with
  | .a => .b
  | .b => .a

/-- GDx.STATE.STATE (R311). -/
def GuardState.code (x : GuardState) : Nat :=
  match x with
  | .idle => 0 | .tripped => 1 | .restart => 2 | .armed => 3

/-- R288 (10): the code of a trip cause; 0 before any. -/
def TripCause.code (c : TripCause) : Nat :=
  match c with
  | .none => 0 | .powerUp => 1 | .low => 2 | .high => 3 | .txHigh => 4 | .txLeak => 5 | .rxLow => 6 | .rxHigh => 7
  | .intlk => 8 | .stage => 9 | .follow => 10 | .safe => 11 | .cmd => 12 | .peerLost => 13 | .restartFail => 14
  | .clock => 15 | .selfFault => 16 | .refClock => 17 | .powerFail => 18

/-- R286 (10): the enable lines. -/
inductive EnLine where
  | soa | seed | pumpA | pumpB | raman
  deriving DecidableEq, Repr

/-- R103, R303 (03, 10): a restart pluck's gate is open at the present instant. -/
def State.restartGateOpen (s : State) : Bool :=
  match s.psq.pluck with
  | some p => p.restart && p.gateAt ≤ s.now && !p.gateClosed
  | none => false

/-- The number of an enable line. -/
def EnLine.code (l : EnLine) : Nat :=
  match l with
  | .soa => 0 | .seed => 1 | .pumpA => 2 | .pumpB => 3 | .raman => 4

/-- R285, R286, R511, R515 (10, 17): the guard presents the line: all five when ARMED; in RESTART GDA its EN_SEED, and EN_SOA only
while a restart pluck's gate is open, and GDB its EN_SEED and EN_SOA; nothing when its clock has stopped, nor GDB's
lines on the fallback oscillator. After a power-down with VDD_AON first the lines are undefined. -/
def State.presents (s : State) (g : GuardId) (l : EnLine) : Bool :=
  let x := s.guard g
  match s.pwr.enablesOpen with
  | some n => Config.enableLine n (g == .b) l.code
  | none =>
  !x.stopped && !(g = .b && s.pwr.fallback) &&
    match x.state with
    | .armed => true
    | .restart =>
      match l with
      | .seed => true
      | .soa => if g = .a then s.restartGateOpen else true
      | _ => false
    | _ => false

/-- R284 (10): both guards present the line. -/
def State.enabled (s : State) (l : EnLine) : Bool := s.presents .a l && s.presents .b l

/-- R284 (10): the line that a source stage takes; none: the APD stage is not gated (R107). -/
def stageLine (k : Nat) : Option EnLine :=
  match k with
  | 0 => some .seed
  | 1 => some .pumpA
  | 2 => some .pumpB
  | 3 => some .raman
  | _ => none

/-- R107 (04): the guards let stage `k` switch. -/
def State.stageEnabled (s : State) (k : Nat) : Bool :=
  match stageLine k with
  | some l => s.enabled l
  | none => true

/-- R108, R115 (04): a stage that stops holds its gates low, and starts again from a setpoint of zero. -/
def SrcStage.stopped (x : SrcStage) : SrcStage := { x with running := false, setpoint := 0, onTime := 0 }

/-- R108 (04): the stages whose enable is absent stop. -/
def State.stopDarkStages (s : State) : State :=
  (List.range 5).foldl (fun s k => if s.stageEnabled k then s
    else s.mapSrc (fun x => { x with stages := modAt x.stages k SrcStage.stopped })) s

/-- R96 (03): every open look's window has now seen the light removed. -/
def State.darken (s : State) : State :=
  s.mapPsq (fun p => { p with looks := p.looks.map (fun l =>
    if l.pluck || l.ended || l.darkAt.isSome then l else { l with darkAt := some s.now }) })

/-- R96, R108, R145, R167, R193: the state follows the enables after a guard has moved: where either guard's EN_SOA is
absent, the open looks are DARK, and the instant is kept for the receiver, the phase engine and the Raman sampler. -/
def State.followEnables (s : State) : State :=
  let s := s.stopDarkStages
  if s.enabled .soa && s.gda.state = .armed && s.gdb.state = .armed then
    let s := s.mapPsq (fun p => { p with looks := p.looks.map (fun l =>
      if s.now < l.fireAt && !l.pluck then { l with darkAt := none } else l) })
    let s := if s.guards.darkSince.isSome then
        (s.mapCal (fun c => { c with darkAt := s.now })).mapRmx (fun c => { c with darkAt := some s.now })
      else s
    s.mapGuards (fun g => { g with darkSince := none })
  else
    let s := s.darken
    let s := s.mapGuards (fun g => { g with darkSince := if g.darkSince.isSome then g.darkSince else some s.now })
    let s := s.mapCal (fun c => { c with darkAt := s.now })
    let s := s.mapPhs (fun c => { c with darkAt := some s.now })
    s.mapRmx (fun c => { c with darkAt := some s.now })

/-- The flags of GDx.STAT by name (R311). -/
def guardStat (g : GuardId) (fa fb : Field) : Field := if g = .a then fa else fb

/-- R300 (10): a learning in progress is cancelled, and nothing is written. -/
def State.cancelLearn (s : State) (g : GuardId) : State :=
  match (s.guard g).learning with
  | none => s
  | some _ =>
    (s.mapGuard g (fun x => { x with learning := none })).event
      [guardStat g Reg.GDA_STAT_LEARN_CANCEL Reg.GDB_STAT_LEARN_CANCEL]

/-- R287, R490 (10, 16): a guard enters a state, and the recorder a GUARD record; entering TRIPPED takes the cause, counts
and cancels a learning (R300). A guard whose clock has stopped keeps its state and CAUSE (R290, R514). -/
def State.guardEnter (s : State) (g : GuardId) (st : GuardState) (c : TripCause) : State :=
  if (s.guard g).stopped then s else
  let s := s.mapGuard g (fun x => { x with
    state := st
    cause := if st = .tripped then c else x.cause
    trippedAt := if st = .tripped then s.now else x.trippedAt })
  let s := if st = .tripped then
      ((s.event [guardStat g Reg.GDA_STAT_TRIP Reg.GDB_STAT_TRIP]).bump
        (guardStat g Reg.GDA_TRIP_CNT Reg.GDB_TRIP_CNT)).cancelLearn g
    else if st = .armed then s.event [guardStat g Reg.GDA_STAT_ARMED Reg.GDB_STAT_ARMED]
    else s
  let s := s.record 1 evGuard ((if g = .a then 0 else 1) + st.code * 2 ^ 8 + (s.guard g).cause.code * 2 ^ 16)
  let s := s.notify ntGuard [if g = .a then 0 else 1, st.code, (s.guard g).cause.code]
  s.followEnables

/-- R303, R304 (10): the attempt in progress is over: the remaining plucks are cancelled. -/
def State.endAttempt (s : State) : State :=
  let s := s.mapGuards (fun g => { g with attemptAt := none, plucks := 0 })
  if s.psq.pluck.any (fun x => x.restart) then
    s.mapPsq (fun p => { p with
      pluck := none
      gateShut := if p.pluck.any (fun x => decide (x.gateAt ≤ s.now)) then max p.gateShut s.now else p.gateShut })
  else s

/-- The counter that a trip of this cause moves beside TRIP_CNT (R311). -/
def tripCounter (g : GuardId) (c : TripCause) : Option Field :=
  match g, c with
  | .a, .txHigh => some Reg.GDA_TX_CNT
  | .a, .txLeak => some Reg.GDA_TX_CNT
  | .a, .restartFail => some Reg.GDA_RFAIL_CNT
  | .b, .rxLow => some Reg.GDB_RX_CNT
  | .b, .rxHigh => some Reg.GDB_RX_CNT
  | .b, .intlk => some Reg.GDB_INTLK_CNT
  | .b, .stage => some Reg.GDB_STAGE_CNT
  | .b, .restartFail => some Reg.GDB_RFAIL_CNT
  | _, _ => none

/-- GUARD_TRIP (R287, R573): a trip cause moves a guard in RESTART or ARMED to TRIPPED; in IDLE and TRIPPED it changes
nothing. A trip in RESTART ends the attempt (R304). -/
def State.trip (s : State) (g : GuardId) (c : TripCause) : State :=
  if (s.guard g).stopped then s else
  match (s.guard g).state with
  | .idle => s
  | .tripped => s
  | st =>
    let s := match tripCounter g c with
      | some f => s.bump f
      | none => s
    let s := if c = .restartFail then
        s.event [guardStat g Reg.GDA_STAT_RESTART_FAIL Reg.GDB_STAT_RESTART_FAIL] else s
    let s := s.guardEnter g .tripped c
    if st = .restart then s.endAttempt else s

/-- R304 (10): the attempt fails: both guards enter TRIPPED with cause RESTART_FAIL. -/
def State.failAttempt (s : State) : State :=
  (((s.trip .a .restartFail).trip .b .restartFail)).endAttempt

/-- A trip of both guards. -/
def State.tripBoth (s : State) (c : TripCause) : State := (s.trip .a c).trip .b c

/-- R287 (10): the mode enters SERVICE or TEST: an IDLE guard enters TRIPPED, cause POWER_UP. -/
def State.guardsEnterService (s : State) : State :=
  [GuardId.a, GuardId.b].foldl (fun s g =>
    if (s.guard g).state = .idle then s.guardEnter g .tripped .powerUp else s) s

/-- R32, R287 (01, 10): the mode leaves SERVICE or TEST: every guard enters IDLE, which removes the light. -/
def State.guardsIdle (s : State) : State :=
  ([GuardId.a, GuardId.b].foldl (fun s g =>
    if (s.guard g).state = .idle then s else s.guardEnter g .idle (s.guard g).cause) s).endAttempt

/-! ### Halting the tab -/

/-- R76 (03): the slots whose EN is 1. -/
def State.activeSlots (s : State) : List Nat := (List.range 8).filter (fun k => s.on (Reg.PSY_SLOT_EN k))

/-- PSQ.SWEEP (R73, 03): the present sweep number. -/
def State.sweep (s : State) : Nat := s.rd Reg.PSQ_SWEEP_SWEEP

/-- R196, R197 (07): the accumulation in progress closes, and its unload begins. -/
def State.closeBlock (s : State) (halted retuned old : Bool) (last deadline : Nat) : State :=
  if s.dts.active then
    s.mapDts (fun d => { d with
      unload := d.unload ++ [{
        blk := { d.blk with halted := d.blk.halted || halted, retuned := d.blk.retuned || retuned }
        a := s.rd Reg.DTS_CTL_ACC_LOG2
        old := old
        gamma := d.gamma
        c0 := d.c0
        lastSweep := last
        deadline := deadline }]
      blk := {}
      active := false })
  else s

/-- R197 (07): the tab has halted: the accumulation closes with the last sweep accumulated, and after START the rest of
its block is skipped. -/
def State.haltBlock (s : State) : State :=
  if s.dts.active then
    let b := s.dts.blk.block
    (s.closeBlock true false false ((s.dts.blk.last.map (fun x => x.1)).getD s.sweep) (s.now + 655360000)).mapDts (fun d => { d with skipBlock := some b })
  else s

/-- R93, R94 (03): the tab stops with this cause. In the middle of a sweep that has not fired every active slot, every look
of that sweep carries PARTIAL. The guards get the halt event (R295), the accumulation closes (R197), and PFL learns
of the halt (R572). -/
def State.haltTab (s : State) (c : HaltCause) (mid : Bool) : State :=
  let part := mid && !s.psq.first && !(s.activeSlots.all (fun k => s.psq.fired.contains k))
  let sw := s.sweep
  let s := s.wr Reg.PSQ_TIMER_TICK ((s.now - s.psq.tick0) / tick)
  let s := s.mapPsq (fun p => { p with
    state := .halted
    haltCause := c
    wait := none
    haltAtSwb := none
    haltAtFetch := none
    looks := p.looks.map (fun l => if part && l.sweep = sw && !l.pluck then { l with isPartial := true } else l) })
  let s := s.mapGuards (fun g => { g with inSweep := false })
  let s := s.haltBlock
  s.mapPfl (fun p => { p with haltReported := true })

/-- R81 (03): the instant of the next instruction fetch; none: the tab is not running, or waits in an SWB. -/
def State.nextFetch (s : State) : Option Instant :=
  if s.psq.state = .running && s.psq.wait.isNone then some (s.psq.tick0 + s.psq.issue * tick) else none

/-- R94 (03): a HALT with B = 1 has been fetched and waits for PERIOD: no later instruction is fetched. -/
def State.inWholeHalt (s : State) : Bool :=
  (Store.word s.mems.act (0x01000000 + 4 * s.psq.pc)).toNat = 0xFC000001
    && s.nextFetch.any (fun f => f < s.now)

/-- R93, R95 (03): HALT_NOW acts at the next instruction fetch; a HALT with B = 1 that waits stops the tab first. -/
def State.haltNow (s : State) (c : HaltCause) : State :=
  if s.psq.state = .running && !s.inWholeHalt then
    match s.nextFetch with
    | some t => if t ≤ s.now then s.haltTab c true else s.mapPsq (fun p => { p with haltAtFetch := some c })
    | none => s.mapPsq (fun p => { p with haltAtFetch := some c })
  else s

/-- R94 (03): HALT_SWEEP acts at the next SWB. -/
def State.haltSweepEnd (s : State) (c : HaltCause) : State :=
  if s.psq.state = .running then s.mapPsq (fun p => { p with haltAtSwb := some c }) else s

/-! ### SAFE -/

/-- R70 (02): a pending Retune is cancelled: the stage state returns to CHECKED. -/
def State.cancelApply (s : State) : State :=
  if s.chp.stage = .pending then
    (s.mapChp (fun c => { c with stage := .checked, armed := none, retuneDue := none })).event [Reg.CHP_CHIP_STAT_APPLY_CANCELLED]
  else s

/-- SAFE_ENTRY (R23, R95, R493): both guards trip, the streams are flagged SAFE (by `chp.safe`), a pending APPLY is
cancelled, PSQ performs HALT_NOW, and the recorder flushes at once. -/
def State.enterSafe (s : State) : State :=
  if s.chp.safe then s
  else
    let s := s.mapChp (fun c => { c with safe := true, safeSince := s.now })
    let s := s.eventStands [Reg.CHP_CHIP_STAT_SAFE]
    let s := s.tripBoth .safe
    let s := s.cancelApply
    let s := s.haltNow .safe
    let s := s.flushAll
    s.notify ntSafe [s.rd Reg.CHP_ERR_FIRST_CODE]

/-- ESCALATION (R23, R27): CHP records the first code since SAFE was last cleared, or counts it, forms its ERROR record with
ESCALATED, and enters SAFE. -/
def State.escalate (s : State) (code detail : Nat) : State :=
  let s := if s.chp.errSeen then s.bump Reg.CHP_ERR_COUNT_COUNT
    else (s.wr Reg.CHP_ERR_FIRST_CODE code).mapChp (fun c => { c with errSeen := true })
  let s := s.event [Reg.CHP_CHIP_STAT_ESCALATION]
  let s := s.record 0 code detail 0 true
  s.enterSafe

end Sys2Proof.Machine
end

