-- ==== Sys2Proof/Machine/DramOps.lean ====
section
/-! DEFINITION. DRAM as its requesters see it (R344 to R347, R362, R363, 12): the fitted memory, the address mapping, contents that
are undefined, and poisoned lines. -/

namespace Sys2Proof.Machine

/-! ### Fitted memory and mapping (R344, R346) -/

/-- R344 (12): DENS, 0 to 2. -/
def State.dens (s : State) : Nat := min 2 (s.rd Reg.DMC_CFG_DENS)

/-- R344 (12): the ranks fitted. -/
def State.ranksFitted (s : State) : Nat := s.rd Reg.DMC_CFG_RANKS + 1

/-- R344 (12): fitted GiB; R344 supports 4, 8 and 16. -/
def State.fittedGiB (s : State) : Nat := 2 ^ (s.dens + 1) * s.ranksFitted

/-- R344 (12): the usable bytes after ECC. -/
def State.usableBytes (s : State) : Nat := s.fittedGiB * 2 ^ 30 / 8 * 7

/-- R314, R344 (11, 12): RNG.AVAIL in MiB: usable less the 2 GiB reservation, at most 12 GiB (R34). -/
def State.ringAvail (s : State) : Nat := min 12288 (s.usableBytes / 2 ^ 20 - 2048)

/-- R344 (12): tRFCab in ps. -/
def State.tRfc (s : State) : Nat :=
  match s.dens with
  | 0 => 180000 | 1 => 280000 | _ => 380000

/-- R345 (12): the data rate in MT/s. -/
def State.dramRate (s : State) : Nat :=
  match s.rd Reg.DMC_CFG_GRADE with
  | 0 => 4266 | 1 => 3733 | _ => 3200

/-- R346 (12): where a line stands. -/
structure LinePlace where
  sub : Nat
  rank : Nat
  bank : Nat
  row : Nat
  /-- the column line -/
  col : Nat
  deriving DecidableEq, Repr

/-- R346 (12): the place of the line of a system address, with `r` ranks. -/
def linePlace (r a : Nat) : LinePlace :=
  let l := a / 64
  let c := l / 28
  let row := c / (32 * r)
  { sub := c % 4, rank := c / 32 % r, bank := ((c / 4 % 8) ^^^ (row % 8)), row := row, col := l % 28 }

/-- R344, R346 (12): the system address at which the ring begins, after the 2 GiB reservation. -/
def ringBase : Nat := 0x80000000

/-! ### Contents (R347, R362, R363) -/

/-- A byte of the range. -/
def LostRange.holds (x : LostRange) (a : Nat) : Bool :=
  decide (x.lo ≤ a) && decide (a < x.hi) && x.sub.all (fun k => decide (a / 1792 % 4 = k))

/-- A byte of DRAM: a free value where its contents are undefined. -/
def State.dramByte (s : State) (a : Nat) : Byte :=
  match s.dmc.lost.find? (fun x => x.holds a) with
  | some x => Config.dramByte x.draw a
  | none => Store.get s.mems.dram a

/-- The `n` bytes from `a` on. -/
def State.dramBytes (s : State) (a n : Nat) : List Byte := (List.range n).map (fun i => s.dramByte (a + i))

/-- A range without the addresses `lo` to `hi` − 1. -/
def LostRange.cut (x : LostRange) (lo hi : Nat) : List LostRange :=
  if hi ≤ x.lo || x.hi ≤ lo then [x]
  else (if x.lo < lo then [{ x with hi := lo }] else []) ++ (if hi < x.hi then [{ x with lo := hi }] else [])

/-- R347 (12): bytes are written: they are defined from now on, and a line written whole loses the poison pattern. -/
def State.dramWrite (s : State) (a : Nat) (bs : List Byte) : State :=
  let hi := a + bs.length
  let s := s.mapMems (fun m => { m with dram := Store.setBytes m.dram a bs })
  { s with dmc := { s.dmc with
    lost := s.dmc.lost.flatMap (fun x => x.cut a hi)
    poison := s.dmc.poison.filter (fun l => !(decide (a ≤ 64 * l) && decide (64 * l + 64 ≤ hi))) } }

/-- R362, R363 (12): the contents of a range, or of one sub-channel's lines of it, are lost. -/
def State.loseDram (s : State) (lo hi : Nat) (sub : Option Nat) : State :=
  let s1 := s.mapMems (fun m => { m with dram := if sub.isNone then Store.drop m.dram lo hi else m.dram })
  { s1 with
    dmc := { s.dmc with lost := { lo := lo, hi := hi, sub := sub, draw := s.fresh } :: s.dmc.lost }
    fresh := s.fresh + 1 }

end Sys2Proof.Machine
end

