-- ==== Sys2Proof/Machine/RingOps.lean ====
section
/-! DEFINITION. The ring's shared operations (R312 to R328, 11): its geometry, the capture map, closing, aborting and
releasing a descriptor, and the loss of rows. -/

namespace Sys2Proof.Machine

/-- ceil(a / b); 0 for b = 0. -/
def ceilDiv (a b : Nat) : Nat := if b = 0 then 0 else (a + b - 1) / b

/-- R312 (11): positions of a row. -/
def State.rowPositions (s : State) : Nat := s.rd Reg.PHS_RANGE_END + 1 - s.rd Reg.PHS_RANGE_CAPO

/-- R187, R314 (06, 11): the ring tap of the active tuning is not off. -/
def State.ringOn (s : State) : Bool := s.rd Reg.PFL_TAP_RING < 5

/-- R312, R314 (11): lines per row, rows and guard rows of the active tuning; all 0 while the tap is off. -/
def State.ringGeometry (s : State) : Nat × Nat × Nat :=
  if s.ringOn then
    let lpr := ceilDiv s.rowPositions 30
    (lpr, s.rd Reg.RNG_CTL_SIZE * 2 ^ 20 / (64 * lpr), ceilDiv (2 ^ 26) (64 * lpr))
  else (0, 0, 0)

/-- The descriptor; out of range: a free one. -/
def State.desc (s : State) (i : Nat) : Desc := s.rng.desc.getD i {}

/-- Descriptor `i` changed by `f`. -/
def State.mapDesc (s : State) (i : Nat) (f : Desc → Desc) : State :=
  s.mapRng (fun r => { r with desc := modAt r.desc i f })

/-- RESULT's code (R320). -/
def CapResult.code (r : CapResult) : Nat :=
  match r with
  | .none => 0 | .complete => 1 | .aborted => 2 | .truncated => 3 | .overwritten => 4

/-- The first row of the window, once the trigger row is known; rows before row 0 do not exist. -/
def Desc.start (d : Desc) : Nat := d.trow.getD 0 - d.pre

/-- The row after the window. -/
def Desc.stop (d : Desc) : Nat := d.trow.getD 0 + d.post

/-- The offset of row `r` from t − pre_rows. -/
def Desc.offset (d : Desc) (r : Nat) : Nat := r + d.pre - d.trow.getD 0

/-- R327 (11): the map after a span of `count` rows from offset `first`: adjacent spans of one kind merge; a ninth span
turns entry 7 into MIXED, to the end of the window. -/
def Desc.mark (d : Desc) (first count kind : Nat) : Desc :=
  if count = 0 then d
  else
    let ends (e : MapEntry) : Bool := e.kind == kind && e.first + e.count == first
    if d.map.any ends then
      { d with map := d.map.map (fun e => if ends e then { e with count := e.count + count } else e) }
    else if d.map.length < 8 then { d with map := d.map ++ [{ first := first, count := count, kind := kind }] }
    else { d with map := modAt d.map 7 (fun e => { e with count := d.pre + d.post - e.first, kind := 6 }) }

/-- R327 (11): the 64-bit word of a map entry. -/
def MapEntry.word (e : MapEntry) : BitVec 64 :=
  BitVec.ofNat 64 (e.first % 2 ^ 32 + e.count % 2 ^ 24 * 2 ^ 32 + e.kind % 16 * 2 ^ 56)

/-- R320, R324, R328 (11): a descriptor closes with its one result, and KPE notifies CAP_CLOSED (R471). -/
def State.closeDesc (s : State) (i : Nat) (r : CapResult) : State :=
  let s := s.mapDesc i (fun d => { d with state := .closed, result := r })
  (s.event [Reg.RNG_STAT_CAP_DONE]).notify ntCapClosed [(s.desc i).num, r.code]

/-- R320 (11): a descriptor is freed; its registers keep what they report until the next acceptance. -/
def State.freeDesc (s : State) (i : Nat) : State := s.mapDesc i (fun d => { d with state := .free })

/-- R312 (11): the system address of the row's line `i`. -/
def State.lineAddr (s : State) (r : RingRow) (i : Nat) : Nat := ringBase + (r.slot * s.rng.lpr + i) * 64

/-- R313 (11): the trailer word of the row's line `i`. -/
def State.lineTrailer (s : State) (r : RingRow) (i : Nat) : Nat := leNat (s.dramBytes (s.lineAddr r i + 60) 4)

/-- R326, R347 (11, 12): the row's lines that the poison list names, in line numbers of the row. -/
def State.badLines (s : State) (r : RingRow) : List Nat :=
  let base := ringBase / 64 + r.slot * s.rng.lpr
  (List.range s.rng.lpr).filter (fun i => s.dmc.poison.contains (base + i))

/-- R326, R455 (11, 15): the samples of positions FIRST to LAST as delivered: 0x8000 for a line with an uncorrectable
error; 0x8000 outside the row. -/
def State.rowSamples (s : State) (r : RingRow) (first last : Nat) : List (BitVec 16) :=
  let bad := s.badLines r
  let capo := s.rng.capo
  (List.range (last + 1 - first)).map (fun i =>
    let p := first + i
    let k := p - capo
    if p < capo || bad.contains (k / 30) then 0x8000
    else BitVec.ofNat 16 (leNat (s.dramBytes (s.lineAddr r (k / 30) + 2 * (k % 30)) 2)))

/-- R326 (11): the lines of FIRST to LAST that would be delivered as 0x8000. -/
def State.badIn (s : State) (r : RingRow) (first last : Nat) : Nat :=
  let capo := s.rng.capo
  ((s.badLines r).filter (fun i => (first - capo) / 30 ≤ i && i ≤ (last - capo) / 30)).length

/-- R313, R464 (11, 15): a row's flags, as QFLAGS bits PARTIAL, LATE, DARK, SUBST, SAT. -/
def State.rowFlags (s : State) (r : RingRow) : Nat :=
  let ts := (List.range s.rng.lpr).map (fun i => s.lineTrailer r i)
  let any (k : Nat) : Bool := ts.any (fun t => t / 2 ^ k % 2 == 1)
  ts.getD 0 0 / 2 ^ 25 % 8 + (if any 28 then 8 else 0) + (if any 29 then 16 else 0)

/-- The 16-bit words of bytes, for the compressor. -/
def wordsOf (bs : List Byte) : List (BitVec 16) :=
  match bs with
  | a :: b :: r => BitVec.ofNat 16 (a.toNat + 256 * b.toNat) :: wordsOf r
  | _ => []

/-- The little-endian bytes of samples. -/
def sampleBytes (xs : List (BitVec 16)) : List Byte := xs.flatMap (fun x => leBytes 2 x.toNat)

/-- The retained row of a number. -/
def State.ringRow (s : State) (n : Nat) : Option RingRow := s.rng.rows.find? (fun r => r.num == n)

/-- R325, R469 (11, 15): the row in hand-over of a stream capture is handed over: it is counted, and its bytes enter the
capture's CRC-64. -/
def State.handRow (s : State) (i : Nat) : State :=
  let d := s.desc i
  let bs := match s.ringRow d.next with
    | some r => sampleBytes (s.rowSamples r d.first d.last)
    | none => []
  let s := s.mapKpe (fun k => { k with capCrc := k.capCrc.map (fun c => if c.1 = d.num then (c.1, crc64From c.2 bs) else c) })
  s.mapDesc i (fun d => { d with next := d.next + 1, rows := d.rows + 1 })

/-- The rows of a capture from an offset on, that have been given but are in no packet, are taken back (R325). -/
def State.dropGiven (s : State) (num off : Nat) : State :=
  let keep (r : StreamRow) : Bool := !(r.index / 2 ^ 32 == num && decide (off ≤ r.index % 2 ^ 32))
  let capSub (f : Option FlowRef) : Bool := match f with
    | some (.sub n) => (s.kpe.subs.getD n none).any (fun x => x.kind == .capture)
    | _ => false
  let s := s.mapKpe (fun k => { k with subs := k.subs.map (fun o => o.map (fun x =>
    if x.kind = .capture then { x with rows := x.rows.filter keep } else x)) })
  s.mapCmp (fun m => { m with ctxs := m.ctxs.map (fun c =>
    if capSub c.flow then
      { c with rows := c.rows.filter keep, samples := (c.rows.filter keep).flatMap (fun r => wordsOf r.data) }
    else c) })

/-- R328 (11): an abort taken by the sequencer: a WAIT or STREAM capture closes ABORTED, the rest of its window mapped so.
Before its trigger row is known, the whole window is the rest (log entry 12). Stream rows in hand-over complete it. -/
def State.abortDesc (s : State) (i : Nat) : State :=
  let d := s.desc i
  if d.state = .wait || d.state = .stream then
    let s := if d.state = .stream then (List.range (d.given - d.next)).foldl (fun s _ => s.handRow i) s else s
    let d := s.desc i
    let from_ := match d.trow with
      | none => 0
      | some _ => d.offset (if d.state = .stream then d.next else max d.start s.rng.wrow)
    let s := s.mapDesc i (fun d => d.mark from_ (d.pre + d.post - from_) 5)
    (s.bump Reg.RNG_ABORT_CNT).closeDesc i .aborted
  else s

/-- R328 (11): a release taken by the sequencer: a CLOSED capture is freed. -/
def State.releaseDesc (s : State) (i : Nat) : State := if (s.desc i).state = .closed then s.freeDesc i else s

/-- R328, R436, R469: the stream-mode captures that `p` picks are aborted. -/
def State.abortStreams (s : State) (p : Desc → Bool) : State :=
  (List.range 64).foldl (fun s i => if (s.desc i).state = .stream && p (s.desc i) then s.abortDesc i else s) s

/-- The oldest retained row; WROW where none is. -/
def Rng.oldestRow (r : Rng) : Nat :=
  match r.rows with
  | [] => r.wrow
  | x :: _ => x.num

/-- R319, R327 (11): descriptor `i` loses the rows of its window from `old` (the oldest retained) to `r` − 1: a span
OVERWRITTEN, and DATA_OVERWRITTEN where it has not closed; a CLOSED store capture with every row gone is freed. -/
def State.loseDesc (s : State) (i old r : Nat) : State :=
  let d := s.desc i
  if d.state = .free || d.trow.isNone || (d.state = .closed && d.stream) then s
  else
    let lo := max old (if d.state = .stream then max d.start d.next else d.start)
    let hi := min r d.stop
    let s := if lo < hi then
        let s := if d.map.any (fun e => e.kind == 2) then s else s.bump Reg.RNG_OVW_CNT
        let s := (s.mapDesc i (fun d => d.mark (d.offset lo) (hi - lo) 2)).event [Reg.RNG_STAT_OVERWRITTEN]
        let s := if d.state = .stream then s.dropGiven d.num (d.offset d.next) else s
        if d.state = .closed then s else s.closeDesc i .overwritten
      else s
    if (s.desc i).state = .closed && !d.stream && d.stop ≤ r then
      ((s.bump Reg.RNG_EXPIRE_CNT).event [Reg.RNG_STAT_EXPIRED]).freeDesc i
    else s

/-- R315, R319 (11): every row below `r` is released, and the holders lose what they needed of it. -/
def State.releaseRows (s : State) (r : Nat) : State :=
  let old := s.rng.oldestRow
  let s := (List.range 64).foldl (fun s i => s.loseDesc i old r) s
  s.mapRng (fun g => { g with rows := g.rows.filter (fun x => r ≤ x.num) })

/-- R317 (11): RNG's switch to a new row format: every retained row is released, and the next row goes to slot 0. -/
def State.ringFormat (s : State) : State :=
  let s := s.releaseRows s.rng.wrow
  let g := s.ringGeometry
  let capo := s.rd Reg.PHS_RANGE_CAPO
  let s := s.mapRng (fun r =>
    { r with lpr := g.1, capo := capo, ns := g.2.1, guardRows := g.2.2, wslot := 0, nsNext := none, formatAt := none })
  s.event [Reg.RNG_STAT_FORMAT]

/-- R317 (11): with the ring tap off there is no first row of the new format: RNG switches once the first look of the sweep has
passed PFL and every earlier row is stored. -/
def State.ringSettle (s : State) : State :=
  match s.rng.formatAt with
  | some n =>
    if !s.ringOn && s.rng.queue.isEmpty && s.pfl.looks.any (fun l => l.formed && decide (n ≤ l.sweep)) then s.ringFormat else s
  | none => s

/-- R315, R316 (11): the slot after the one just finished, with a growth or a shrink taken when its slot is reached. -/
def State.nextSlot (s : State) : State :=
  let w := s.rng.wslot + 1
  match s.rng.nsNext with
  | some m =>
    if s.rng.ns < m then
      if s.rng.ns ≤ w then s.mapRng (fun r => { r with ns := m, nsNext := none, wslot := w })
      else s.mapRng (fun r => { r with wslot := w })
    else if w = m then
      let s := s.releaseRows (s.rng.wrow - m)
      s.mapRng (fun r => { r with ns := m, nsNext := none, wslot := 0 })
    else s.mapRng (fun r => { r with wslot := if r.ns ≤ w then 0 else w })
  | none => s.mapRng (fun r => { r with wslot := if r.ns ≤ w then 0 else w })

/-- R328 (11): the descriptor that holds capture `num`; none: the number is unknown or its descriptor is free. -/
def State.capture (s : State) (num : Nat) : Option Nat :=
  (List.range 64).find? (fun i => (s.desc i).state != .free && (s.desc i).num == num)

end Sys2Proof.Machine
end

