-- ==== Sys2Proof/Machine/CmpOps.lean ====
section
/-! DEFINITION. Compression (R330 to R336, 11): contexts, prediction, the residual code and the block format. -/

namespace Sys2Proof.Machine

/-- R330 (11): context `i`; out of range: a free one. -/
def State.ctx (s : State) (i : Nat) : CmpContext := s.cmp.ctxs.getD i {}

/-- Context `i` changed by `f`. -/
def State.mapCtx (s : State) (i : Nat) (f : CmpContext → CmpContext) : State :=
  s.mapCmp (fun c => { c with ctxs := modAt c.ctxs i f })

/-- R332 (11): the residuals of the samples, zigzag coded. -/
def cmpResiduals (pred stride : Nat) (xs : List (BitVec 16)) : List (BitVec 16) :=
  let back (k : Nat) : List (BitVec 16) := List.replicate k 0 ++ xs
  let ps : List (BitVec 16) :=
    if pred % 4 = 0 then xs.map (fun _ => 0)
    else if pred % 4 = 1 then back 1
    else if pred % 4 = 2 then back stride
    else List.zipWith (fun a b => a - b) (List.zipWith (fun a b => a + b) (back 1) (back stride)) (back (stride + 1))
  (List.zipWith (fun (x p : BitVec 16) => x - p) xs ps).map (fun (r : BitVec 16) => (r <<< 1) ^^^ (if r.toNat < 2 ^ 15 then 0 else 0xFFFF))

/-- The `n` bits of `v`, most significant first. -/
def bitsOf (n v : Nat) : List Bool := (List.range n).map (fun i => v / 2 ^ (n - 1 - i) % 2 == 1)

/-- R333 (11): the code of one residual under parameter `k`. -/
def cmpCode (k : Nat) (u : BitVec 16) : List Bool :=
  if k = 15 then bitsOf 16 u.toNat
  else if u.toNat / 2 ^ k < 24 then List.replicate (u.toNat / 2 ^ k) true ++ [false] ++ bitsOf k (u.toNat % 2 ^ k)
  else List.replicate 24 true ++ bitsOf 16 u.toNat

/-- R333 (11): the bits of a group under parameter `k`. -/
def cmpGroupBits (k : Nat) (us : List (BitVec 16)) : List Bool := us.flatMap (cmpCode k)

/-- R333 (11): the lowest parameter that gives the fewest bits. -/
def cmpBestK (us : List (BitVec 16)) : Nat :=
  (List.range 16).foldl (fun b k => if (cmpGroupBits k us).length < (cmpGroupBits b us).length then k else b) 0

/-- R333 (11): the code of the residuals, in groups of 16; `n` bounds the groups. -/
def cmpGroups (n : Nat) (us : List (BitVec 16)) : List Bool :=
  match n with
  | 0 => []
  | n + 1 =>
    if us.isEmpty then []
    else
      let g := us.take 16
      let k := cmpBestK g
      bitsOf 4 k ++ cmpGroupBits k g ++ cmpGroups n (us.drop 16)

/-- R333 (11): bits packed from the most significant bit of each byte, the last byte filled with zeros; `n` bounds the
bytes. -/
def packBits (n : Nat) (bs : List Bool) : List Byte :=
  match n with
  | 0 => []
  | n + 1 =>
    if bs.isEmpty then []
    else BitVec.ofNat 8 ((List.range 8).foldl (fun a i => 2 * a + (if bs.getD i false then 1 else 0)) 0)
      :: packBits n (bs.drop 8)

/-- R332, R333 (11): the payload of a block's samples. -/
def cmpPayload (pred stride : Nat) (xs : List (BitVec 16)) : List Byte :=
  let b := cmpGroups (xs.length / 16 + 1) (cmpResiduals pred stride xs)
  packBits (b.length / 8 + 1) b

/-- R334 (11): the block is stored raw: its payload would reach 2 × NIN bytes. -/
def CmpBlock.stored (b : CmpBlock) : Bool := !b.error && 2 * b.samples.length ≤ (cmpPayload b.pred b.stride b.samples).length

/-- R331, R334 (11): the bytes of a released block; `raw` forces STORED. -/
def CmpBlock.bytes (b : CmpBlock) (raw : Bool) : List Byte :=
  let st := raw || b.stored
  let pay := if b.error then [] else if st then sampleBytes b.samples else cmpPayload b.pred b.stride b.samples
  let fl := b.pred % 4 + (if b.flush then 4 else 0) + (if b.error then 8 else 0) + (if b.last then 16 else 0)
    + (if st then 32 else 0)
  leBytes 2 0x5A43 ++ leBytes 1 1 ++ leBytes 1 fl ++ leBytes 4 b.samples.length ++ leBytes 4 b.stride ++ leBytes 4 b.seq
    ++ pay ++ List.replicate ((4 - pay.length % 4) % 4) 0 ++ leBytes 4 pay.length
    ++ leBytes 4 (crc32c (sampleBytes b.samples)).toNat

/-- R330 (11): a flow takes the lowest free context; none is free: CMP.STAT.NO_CONTEXT. -/
def State.takeCtx (s : State) (f : FlowRef) (pred stride : Nat) : State × Option Nat :=
  match (List.range 64).find? (fun i => (s.ctx i).flow.isNone) with
  | some i => (s.mapCtx i (fun _ => { flow := some f, pred := pred, stride := stride }), some i)
  | none => (s.event [Reg.CMP_STAT_NO_CONTEXT], none)

/-- R335 (11): the open block of context `i` closes; with no sample there is no block (NIN is at least 1). -/
def State.closeCtxBlock (s : State) (i : Nat) (flush error last : Bool) : State :=
  let c := s.ctx i
  match c.flow with
  | none => s
  | some f =>
    if c.samples.isEmpty then s
    else
      let b : CmpBlock :=
        { ctx := i, flow := f, pred := c.pred, stride := c.stride, seq := c.seq, flush := flush, error := error
          last := last, samples := c.samples, rows := c.rows }
      (s.mapCmp (fun m => { m with closed := m.closed ++ [b] })).mapCtx i (fun c =>
        { c with seq := (c.seq + 1) % 2 ^ 32, samples := [], rows := [] })

/-- R335 (11): the flow of context `i` ends: its block closes with LAST and the context is free. -/
def State.endCtx (s : State) (i : Nat) : State :=
  (s.closeCtxBlock i false false true).mapCtx i (fun _ => {})

/-- R331, R335 (11): the samples of one row enter the open block of context `i`, which closes when it holds 32 768. -/
def State.feedCtx (s : State) (i : Nat) (row : StreamRow) (xs : List (BitVec 16)) : State :=
  let s := s.mapCtx i (fun c => { c with
    openAt := if c.samples.isEmpty then s.now else c.openAt
    samples := c.samples ++ xs
    rows := c.rows ++ [row] })
  let kib (n : Nat) : Nat := n / 1024
  let n := s.cmp.inBytes + 2 * xs.length
  let s := (s.bumpBy Reg.CMP_IN_KIB (kib n)).mapCmp (fun c => { c with inBytes := n % 1024 })
  if 32768 ≤ (s.ctx i).samples.length then s.closeCtxBlock i false false false else s

/-- R22, R335 (01, 11): CMP restarts: every open block closes with ERROR. -/
def State.cmpRestart (s : State) : State := (List.range 64).foldl (fun s i => s.closeCtxBlock i false true false) s

end Sys2Proof.Machine
end

