-- ==== Sys2Proof/Machine/LinkOps.lean ====
section
/-! DEFINITION. What the MACs and the Peer Link send (R402 to R406, R415, 14) and the packets of KP (R426, R427, 15). -/

namespace Sys2Proof.Machine

/-- A MAC's entry; out of range: a disabled one. -/
def State.mac (s : State) (m : Nat) : EthMac := s.eth.macs.getD m {}

/-- MAC `m` changed by `f`. -/
def State.mapMac (s : State) (m : Nat) (f : EthMac → EthMac) : State :=
  s.mapEth (fun e => { e with macs := modAt e.macs m f })

/-- R402 (14): port p of ETH.CFG is two 50 Gb/s ports. -/
def State.split (s : State) (m : Nat) : Bool := s.on (Reg.ETH_CFG_MODE (m / 2))

/-- R399, R402 (14): the mode uses MAC `m`. -/
def State.macUsed (s : State) (m : Nat) : Bool :=
  m < 4 && (m % 2 = 0 || s.split m) && !(2 ≤ m && s.on Reg.LAN_CFG_C1_PEER)

/-- R403 (14): MAX_FRAME, taken within 1 518 to 9 216. -/
def State.maxFrame (s : State) (m : Nat) : Nat := max 1518 (min 9216 (s.rd (Reg.ETH_M_MAX_FRAME m)))

/-- The bytes of a frame from destination address to FCS, before a tag (R403). -/
def TxFrame.len (f : TxFrame) : Nat :=
  match f with
  | .arpReply _ _ => 64
  | .gratuitousArp => 64
  | .echoReply _ _ data => max 64 (18 + 20 + 8 + data.length)
  | .kp _ _ _ payload => max 64 (18 + 20 + 8 + payload.length)

/-- The time a frame takes on the line, with preamble and gap, at 100 Gb/s or 50 Gb/s (R402). -/
def State.frameTime (s : State) (m : Nat) (f : TxFrame) : Nat :=
  (f.len + (if s.on (Reg.ETH_M_TAG m) then 4 else 0) + 20) * (if s.split m then 160 else 80)

/-- The frames of MAC `m` that have ended by now have been sent; `n` bounds them. -/
def State.drainMac (s : State) (m n : Nat) : State :=
  match n with
  | 0 => s
  | n + 1 =>
    let x := s.mac m
    match x.tx with
    | [] => s
    | _ :: r =>
      if x.txEnd ≤ s.now then
        let e := match r with
          | [] => x.txEnd
          | f :: _ => x.txEnd + s.frameTime m f.1
        ((s.bump (Reg.ETH_M_TX_FRAME_CNT m)).mapMac m (fun x => { x with tx := r, txEnd := e })).drainMac m n
      else s

/-- R440 (15): a queue with a frame added: a control frame goes before every stream frame that has not begun. -/
def txInsert (q : List (TxFrame × Bool)) (f : TxFrame) (ctl : Bool) : List (TxFrame × Bool) :=
  match q with
  | [] => [(f, ctl)]
  | h :: r =>
    if ctl then h :: (r.filter (fun x => x.2) ++ (f, true) :: r.filter (fun x => !x.2)) else h :: (r ++ [(f, false)])

/-- ETH (14): a frame joins the transmit queue of a MAC that is UP. -/
def State.macSend (s : State) (m : Nat) (f : TxFrame) (ctl : Bool) : State :=
  if (s.mac m).state = .up then
    let s := s.drainMac m (s.mac m).tx.length
    s.mapMac m (fun x => { x with
      tx := txInsert x.tx f ctl
      txEnd := if x.tx.isEmpty then s.now + s.frameTime m f else x.txEnd })
  else s

/-- R407, R408 (14): the path's MAC is up; for 4, the Peer Link is ACTIVE. -/
def State.pathUp (s : State) (m : Nat) : Bool :=
  if m < 4 then (s.mac m).state == .up else s.lan.course.state == .active

/-- R415, R423, R437 (14, 15): a KP packet queued for the peer on CH 0; it takes a DORMANT course to DETECT. -/
def State.plQueue (s : State) (bytes : List Byte) : State :=
  let s := s.mapLan (fun l => { l with course := { l.course with txQueue := l.course.txQueue ++ [bytes] } })
  if s.lan.course.state = .dormant then
    s.mapLan (fun l => { l with
      lanes := l.lanes.zipIdx.map (fun (x, n) => if 2 ≤ n then { x with state := .detect, since := s.now } else x)
      course := { l.course with state := .detect, since := s.now, foundAt := none } })
  else s

/-- R405, R433 (14, 15): a KP packet goes out on a path. -/
def State.sendOn (s : State) (p : KpPath) (ctl : Bool) (bytes : List Byte) : State :=
  let s := s.bump Reg.KPE_TX_PKT_CNT
  if p.mac < 4 then s.macSend p.mac (.kp p.eth p.ip p.port bytes) ctl else s.plQueue bytes

/-- R426, R463 (15): the payload bytes that a packet of the path can carry. -/
def State.kpRoom (s : State) (m : Nat) : Nat :=
  if m < 4 then s.maxFrame m - (if s.on (Reg.ETH_M_TAG m) then 4 else 0) - 18 - 20 - 8 - 36 else 9216 - 36

/-- R426, R427 (15): the bytes of a device packet. With no unit in CVU.OWN it carries NOCHK, and its trailer is a free value
(log entry 14). -/
def State.kpPacket (s : State) (type session unit : Nat) (cookie : BitVec 32) (seq : Nat) (payload : List Byte) :
    List Byte :=
  let chk := s.ownsCvu
  let head := leBytes 2 0x504B ++ leBytes 1 1 ++ leBytes 1 type ++ leBytes 2 session ++ leBytes 1 unit
    ++ leBytes 1 (if chk then 0 else 1) ++ leBytes 4 cookie.toNat ++ leBytes 4 seq ++ leBytes 4 0
    ++ leBytes 4 payload.length ++ leBytes 8 s.devTime
  let body := head ++ payload
  body ++ leBytes 4 (if chk then (crc32c (leBytes 8 (seq + session * 2 ^ 32) ++ body)).toNat else (Config.noChk body).toNat)

end Sys2Proof.Machine
end

