-- ==== Sys2Proof/Machine/KpOps.lean ====
section
/-! DEFINITION. The shared operations of KPE (15): control packets on the wire, completions, subscriptions and stream
packets, suspension, failover and closing. -/

namespace Sys2Proof.Machine

/-- R449, R502 (15, 16): a status code's number. -/
def Status.code (x : Status) : Nat :=
  match x with
  | .complete => 0 | .aborted => 1 | .notFound => 2 | .rank => 3 | .wrongMode => 4 | .badRequest => 5 | .badOpcode => 6
  | .busy => 7 | .tagConflict => 8 | .busError => 9 | .poisoned => 10 | .range => 11 | .imageBad => 12
  | .stageRefused => 13 | .refused => 14 | .dataOverwritten => 15 | .noResource => 16 | .noBandwidth => 17
  | .captureOpen => 18 | .alreadyClosed => 19 | .full => 20 | .rate => 21
  | .update c => c

/-! ### Settings of a session -/

/-- R430 (15): a session's KEEPALIVE in seconds, outside its range the nearer limit. -/
def State.keepalive (s : State) (n : Nat) : Nat := max 1 (min 600 (s.rd (Reg.KPE_S_KEEPALIVE n)))

/-- R430 (15): a session's RTO in milliseconds. -/
def State.rto (s : State) (n : Nat) : Nat := max 1 (min 1000 (s.rd (Reg.KPE_S_RTO n)))

/-- R430 (15): a session's WINDOW in packets. -/
def State.window (s : State) (n : Nat) : Nat := max 8 (min 256 (s.rd (Reg.KPE_S_WINDOW n)))

/-- R433 (15): the sending path. -/
def Session.path (x : Session) : Option KpPath := x.paths.head?

/-! ### Control packets -/

/-- R471 (15): the width of each item of a NOTIFY's DETAIL in bytes (DESIGN CHOICE, log entry 15). -/
def noteWidths (code : Nat) : List Nat :=
  match code with
  | 2 => [2]
  | 3 => [1, 1, 1]
  | 4 => [8, 4]
  | 5 => [4, 1]
  | _ => [1]

/-- The TYPE and the payload bytes of a control packet (R428, R444, R456, R471). -/
def CtlPayload.wire (p : CtlPayload) : Nat × List Byte :=
  match p with
  | .completion tag op st detail bytes crc lw result =>
    (4, leBytes 2 tag ++ leBytes 2 op ++ leBytes 2 st.code ++ leBytes 2 detail ++ leBytes 8 bytes ++ leBytes 8 crc.toNat
      ++ lw.flatMap (fun w => leBytes 4 w.toNat) ++ result)
  | .data tag dflags rows offset bytes _ =>
    (6, leBytes 2 tag ++ leBytes 2 dflags ++ leBytes 4 rows ++ leBytes 8 offset ++ bytes)
  | .notify code count detail lw =>
    let d := (List.zip (noteWidths code) detail).flatMap (fun x => leBytes x.1 x.2)
    (7, leBytes 2 code ++ leBytes 2 count ++ leBytes 4 0 ++ (d ++ List.replicate 16 0).take 16
      ++ lw.flatMap (fun w => leBytes 4 w.toNat))

/-- R438 (15): a numbered control packet goes out on the session's sending path. -/
def State.sendCtl (s : State) (n : Nat) (p : CtlPacket) : State :=
  let x := s.sess n
  match x.path with
  | none => s
  | some k => s.sendOn k true (s.kpPacket p.payload.wire.1 n x.unit x.cookie p.seq p.payload.wire.2)

/-- R439, R434 (15): every unacknowledged packet is sent again, from the oldest. -/
def State.resendAll (s : State) (n : Nat) : State :=
  (s.sess n).unacked.foldl (fun s p => (s.sendCtl n p).bump (Reg.KPE_S_RETX_CNT n)) s

/-- R428 (15): an unsequenced device packet goes out on a path; the spec gives its SEQ no value (log entry 14). -/
def State.sendUnseq (s : State) (k : KpPath) (type session unit : Nat) (cookie : BitVec 32) (payload : List Byte) : State :=
  let bytes := s.kpPacket type session unit cookie (Config.unseqSeq s.fresh).toNat payload
  { s with fresh := s.fresh + 1 }.sendOn k true bytes

/-- R438 (15): the oldest waiting packet takes the next SEQ and is sent, if the session is ACTIVE and its window has room. -/
def State.pumpOne (s : State) (n : Nat) : State :=
  let x := s.sess n
  match x.waiting with
  | [] => s
  | p :: r =>
    if x.state = .active && x.unacked.length < s.window n then
      let k : CtlPacket := { seq := x.nextSeq, payload := p }
      let s := s.mapSess n (fun x => { x with
        waiting := r
        unacked := x.unacked ++ [k]
        nextSeq := (x.nextSeq + 1) % 2 ^ 32
        ackAt := if x.unacked.isEmpty then s.now else x.ackAt })
      s.sendCtl n k
    else s

/-! ### Commands in flight -/

/-- A command of session `n` in flight, by its tag. -/
def State.cmd (s : State) (n tag : Nat) : Option InFlight := (s.sess n).inflight.find? (fun c => c.tag == tag)

/-- The command in flight, changed by `f`. -/
def State.mapCmd (s : State) (n tag : Nat) (f : InFlight → InFlight) : State :=
  s.mapSess n (fun x => { x with inflight := x.inflight.map (fun c => if c.tag = tag then f c else c) })

/-- R458 (15): a command has ended, with this outcome, and comes to its session's ordering point. -/
def State.endCmd (s : State) (n tag : Nat) (st : Status) (detail : Nat) (result : List Byte) : State :=
  s.mapCmd n tag (fun c => match c.outcome with
    | .running => { c with outcome := .ended st detail result }
    | .ended .. => c)

/-- R436, R458 (15): what a command that is cut short holds goes with it: its context with the blocks that KPE no longer takes, its
DATA packets that have no SEQ, its ring read (R318) and its capture request. -/
def State.dropCmd (s : State) (n tag : Nat) : State :=
  let s := match (s.cmd n tag).bind (fun c => c.ctx) with
    | some i => (s.mapCtx i (fun _ => {})).mapCmd n tag (fun c => { c with ctx := none })
    | none => s
  let s := s.mapCmp (fun m => { m with closed := m.closed.filter (fun b => b.flow != .read n tag) })
  let s := s.mapRng (fun r => { r with reads := r.reads.filter (fun y => !(y.1 == n && y.2.1 == tag)) })
  let s := s.mapZon (fun z => { z with requests := z.requests.filter (fun q => q.cmd != some (n, tag)) })
  s.mapSess n (fun x => { x with waiting := x.waiting.filter (fun p => match p with
    | .data g .. => g != tag
    | _ => true) })

/-! ### Subscriptions -/

/-- Subscription `i`. -/
def State.sub (s : State) (i : Nat) : Option Subscription := (s.kpe.subs.getD i none)

/-- Subscription `i` changed by `f`. -/
def State.mapSub (s : State) (i : Nat) (f : Subscription → Subscription) : State :=
  s.mapKpe (fun k => { k with subs := modAt k.subs i (fun o => o.map f) })

/-- The numbers of the subscriptions that `p` picks, rising. -/
def State.subsWhere (s : State) (p : Subscription → Bool) : List Nat :=
  (s.kpe.subs.zipIdx.filter (fun x => x.1.any p)).map (fun x => x.2)

/-- R448, R436, R469 (15): subscription `i` ends: its compression flow ends (R335), and with the last CAPTURE subscription
every stream-mode capture is aborted. -/
def State.endSub (s : State) (i : Nat) : State :=
  match s.sub i with
  | none => s
  | some x =>
    let s := match x.ctx with
      | some c => s.endCtx c
      | none => s
    let s := s.mapCmp (fun m => { m with closed := m.closed.filter (fun b => b.flow != .sub i) })
    let s := s.mapKpe (fun k => { k with
      subs := modAt k.subs i (fun _ => none), stream := k.stream.filter (fun p => p.sub != i) })
    if x.kind = .capture && (s.subsWhere (fun y => y.kind == .capture)).isEmpty then s.abortStreams (fun _ => true) else s

/-- R450, R468, R470 (15): subscription `x` forms data now. -/
def State.forms (s : State) (x : Subscription) : Bool :=
  (s.chp.mode == .service || s.chp.mode == .test) && (s.sess x.session).state == .active

/-- R468 (15): data of a subscription are lost: its next packet carries GAP. -/
def State.lost (s : State) (i : Nat) : State := s.mapSub i (fun x => { x with gap := true })

/-- R466 (15): QFLAGS bits that a packet's rows share: PARTIAL, LATE, DARK and SAFE. -/
def shared (q : Nat) : Nat := q % 8 + (q / 32 % 2) * 32

/-- R463 (15): room for data in a stream packet of the session's path. -/
def State.streamRoom (s : State) (n : Nat) : Nat :=
  match (s.sess n).path with
  | some k => s.kpRoom k.mac - 32
  | none => 0

/-- R331, R334 (11): the bytes of a block of `n` samples in STORED form. -/
def storedSize (n : Nat) : Nat := (2 * n + 3) / 4 * 4 + 24

/-- R466, R467 (15): a row is formed for subscription `i`: it waits for its packet, or enters its flow's open block, which
closes first where the row would not fit a packet in STORED form, or its flags differ. A row that fits no packet as a block goes
uncompressed. -/
def State.giveRow (s : State) (i : Nat) (row : StreamRow) : State :=
  match s.sub i with
  | none => s
  | some x =>
    if !s.forms x then s.lost i
    else
      let row := { row with qflags := row.qflags + (if s.chp.safe then 32 else 0), retuned := x.retuned }
      let s := s.mapSub i (fun x => { x with retuned := false })
      match x.ctx with
      | none => s.mapSub i (fun x => { x with rows := x.rows ++ [row] })
      | some c =>
        let k := s.ctx c
        let room := s.streamRoom x.session
        let words := row.data.length / 2
        let cap := x.kind == .capture
        let other := k.rows.any (fun r => (cap && r.index / 2 ^ 32 != row.index / 2 ^ 32) || shared r.qflags != shared row.qflags)
        let next := (k.rows.getLast?).all (fun r => r.index + 1 == row.index)
        let s := if room < storedSize (k.samples.length + words) || other || !next || row.retuned || x.kind = .temp then
            s.closeCtxBlock c false false false
          else s
        if room < storedSize words then s.mapSub i (fun x => { x with rows := x.rows ++ [row] })
        else
          let s := if cap then s.mapCtx c (fun k => { k with stride := words }) else s
          s.feedCtx c row (wordsOf row.data)

/-- R463, R464 (15): the stream packet of some rows or records of subscription `i` is formed. -/
def State.formPacket (s : State) (i : Nat) (rows : List StreamRow) (data : List Byte) (extra kflags pos0 npos : Nat) : State :=
  match s.sub i, rows with
  | some x, r :: _ =>
    let q := rows.foldl (fun q r => q ||| r.qflags) 0
    let qf := q ||| (if x.gap then 64 else 0) ||| extra ||| (if r.retuned then 512 else 0)
      ||| (if x.noContext then 256 else 0)
    let p : StreamPacket :=
      { sub := i, session := x.session, seq := x.seq, time := s.devTime, kind := x.kind, preset := x.preset
        qflags := qf, pos0 := pos0, npos := npos, nrows := rows.length, kflags := kflags, index := r.index
        sweep := r.sweep, data := data, formedAt := s.now }
    (s.mapKpe (fun k => { k with stream := k.stream ++ [p] })).mapSub i (fun x =>
      { x with seq := (x.seq + 1) % 2 ^ 32, gap := false })
  | _, _ => s

/-- R461 (15): KIND's number. -/
def StreamKind.code (k : StreamKind) : Nat :=
  match k with
  | .phase => 0 | .temp => 1 | .event => 2 | .pluck => 3 | .capture => 4

/-- R463 (15): the payload bytes of a stream packet. -/
def StreamPacket.payload (p : StreamPacket) : List Byte :=
  leBytes 2 p.sub ++ leBytes 1 p.kind.code ++ leBytes 1 p.preset ++ leBytes 2 p.qflags ++ leBytes 2 p.pos0
    ++ leBytes 2 p.npos ++ leBytes 2 p.nrows ++ leBytes 1 p.kflags ++ leBytes 3 0 ++ leBytes 8 p.index
    ++ leBytes 8 p.sweep ++ p.data

/-- R466 (15): the formed packets of subscription `i` are sent in order, where its session is ACTIVE on a path that is up. -/
def State.sendStreams (s : State) (i : Nat) : State :=
  (s.kpe.stream.filter (fun p => p.sub == i)).foldl (fun s p =>
    let x := s.sess p.session
    match x.path with
    | some k =>
      if x.state = .active && s.pathUp k.mac then
        let s := s.mapKpe (fun e => { e with stream := e.stream.filter (fun q => !(q.sub == p.sub && q.seq == p.seq)) })
        s.sendOn k false (s.kpPacket 9 p.session x.unit x.cookie p.seq p.payload)
      else s
    | none => s) s

/-- R470 (15): the mode is no longer SERVICE or TEST: rows and records that no packet holds are lost, and the first packet afterwards
carries GAP. -/
def State.streamsCease (s : State) : State :=
  (s.mapKpe (fun k => { k with subs := k.subs.map (fun o => o.map (fun x => { x with gap := true, rows := [], events := [] })) })).mapCmp
    (fun m => { m with ctxs := m.ctxs.map (fun c => match c.flow with
      | some (.sub _) => { c with samples := [], rows := [] }
      | _ => c) })

/-! ### Suspension, failover and closing -/

/-- R434, R439 (15): an ACTIVE session becomes SUSPENDED. -/
def State.suspend (s : State) (n : Nat) : State :=
  if (s.sess n).state = .active then
    (s.mapSess n (fun x => { x with state := .suspended, suspendedAt := s.now })).event [Reg.KPE_STAT_SUSPENDED]
  else s

/-- FAILOVER (R434): MAC `m` (4: the Peer Link) is down: each ACTIVE session that sends on it moves to another path that is
up, resends and notifies PATH, or is suspended. -/
def State.failover (s : State) (m : Nat) : State :=
  s.usedSessions.foldl (fun s n =>
    let x := s.sess n
    if x.state = .active && x.path.any (fun k => k.mac == m) then
      let alt := if x.dual then x.paths.find? (fun k => k.mac != m && s.pathUp k.mac) else none
      match alt with
      | some k =>
        let s := s.mapSess n (fun x => { x with paths := k :: x.paths.filter (fun j => j.mac != k.mac), ackAt := s.now })
        let s := s.event [Reg.KPE_STAT_FAILOVER]
        (s.resendAll n).notifyOne n ntPath [k.mac]
      | none => s.suspend n
    else s) s

/-- R436 (15): session `n` closes with a reason: commands in flight end without completion, subscriptions and flows end,
rank and CLAIM lapse, its stream-mode captures are aborted, its ring reads cease, and one CLOSE is sent. -/
def State.closeSession (s : State) (n reason : Nat) : State :=
  let x := s.sess n
  if x.state = .free then s
  else
    let s := x.inflight.foldl (fun s c => s.dropCmd n c.tag) s
    let s := s.mapUpd (fun u => { u with resetWaits := if u.resetWaits.any (fun w => w.1 == n) then none else u.resetWaits })
    let s := (s.subsWhere (fun y => y.session == n)).foldl (fun s i => s.endSub i) s
    let s := s.abortStreams (fun d => d.session == some n)
    let s := s.mapKpe (fun k => { k with claim := if k.claim.any (fun c => c.session == n) then none else k.claim })
    let s := s.mapSess n (fun _ => {})
    let s := s.event [Reg.KPE_STAT_CLOSED]
    match x.path with
    | some k => s.sendUnseq k 10 n x.unit x.cookie (leBytes 1 reason)
    | none => s

/-- R436 (15): every session closes with a reason. -/
def State.closeAllSessions (s : State) (reason : Nat) : State :=
  s.usedSessions.foldl (fun s n => s.closeSession n reason) s

/-- Sessions of operator rank (R441). -/
def State.operators (s : State) : Nat := (s.kpe.sessions.filter (fun x => x.state != .free && x.operator)).length

end Sys2Proof.Machine
end

