-- ==== Sys2Proof/Machine/LaneOps.lean ====
section
/-! DEFINITION. MACs and lanes that go down and come up (R407), and the states of the Peer Link course (R408 to R423, 14). -/

namespace Sys2Proof.Machine

/-- R504 (16): the device's serial number. -/
def State.serial (s : State) : Nat := (s.otpWord 0).toNat + (s.otpWord 1).toNat * 2 ^ 32

/-- R402 (14): the lanes of a MAC. -/
def State.macLanes (s : State) (m : Nat) : List Nat := if s.split m then [m] else [m, m + 1]

/-- MAC_DOWN (R407): what has not been sent is discarded and counted, the MAC starts auto-negotiation (or training, with
AN_EN 0) again, and KPE moves or suspends its sessions. -/
def State.macDown (s : State) (m : Nat) : State :=
  if (s.mac m).state = .up then
    let s := s.drainMac m (s.mac m).tx.length
    let s := s.bumpBy (Reg.ETH_M_TX_DISCARD_CNT m) (s.mac m).tx.length
    let s := (s.bump (Reg.ETH_M_LINK_DOWN_CNT m)).event [Reg.ETH_STAT_DOWN.bit m]
    let st := if s.on (Reg.ETH_CFG_AN_EN (m / 2)) then MacState.an else MacState.train
    let on := s.macLanes m
    let s := s.mapLan (fun l => { l with lanes := l.lanes.zipIdx.map (fun (x, n) =>
      if on.contains n then { x with state := .detect, since := s.now, signal := false } else x) })
    (s.mapMac m (fun x => { x with state := st, tx := [] })).failover m
  else s

/-! ### The course -/

/-- The course changed by `f`. -/
def State.mapCourse (s : State) (f : Course → Course) : State := s.mapLan (fun l => { l with course := f l.course })

/-- A lane; out of range: one that is off. -/
def State.lane (s : State) (n : Nat) : LanLane := s.lan.lanes.getD n {}

/-- Lane `n` changed by `f`. -/
def State.mapLane (s : State) (n : Nat) (f : LanLane → LanLane) : State :=
  s.mapLan (fun l => { l with lanes := modAt l.lanes n f })

/-- R399 (14): the lanes of course 1. -/
def courseLanes : List Nat := [2, 3]

/-- The lanes of the course that are in a state. -/
def State.lanesIn (s : State) (st : LaneState) : List Nat := courseLanes.filter (fun n => (s.lane n).state == st)

/-- A lane enters a state, with its counts begun anew. -/
def State.laneTo (s : State) (n : Nat) (st : LaneState) : State :=
  s.mapLane n (fun l => { l with
    state := st, since := s.now, signal := l.signal && st != .detect && st != .lost && st != .off && st != .dormant
    readyRun := 0, readyTx := 0, goodRun := 0, locked := false, peerLocked := false, badRun := 0
    badAt := [], found := l.found && st != .detect && st != .lost && st != .off && st != .dormant })

/-- The course enters a state; leaving ACTIVE is reported, and the sessions reached over it are moved or suspended (R434). -/
def State.courseTo (s : State) (st : CourseState) : State :=
  let was := s.lan.course.state
  let s := s.mapCourse (fun c => { c with
    state := st
    since := s.now
    foundAt := if st = .detect then none else c.foundAt
    peerRxLocked := if st = .lock then false else c.peerRxLocked
    capsRx := if st = .caps then false else c.capsRx
    capsAcked := if st = .caps then false else c.capsAcked
    capsSentAcked := if st = .caps then false else c.capsSentAcked
    width := if st = .active then c.width else 0
    rxWidth := if st = .active then c.rxWidth else 0
    txQuiet := false
    rxQuiet := false
    dormantReq := false })
  if was = .active && st != .active then (s.event [Reg.LAN_STAT_PL_LEFT]).failover 4 else s

/-- R408, R409 (14): the course returns to DETECT with every lane probing. -/
def State.courseDetect (s : State) : State :=
  courseLanes.foldl (fun s n => s.laneTo n .detect) (s.courseTo .detect)

/-- R408 (14): the course enters TRAIN with the lanes found. -/
def State.courseTrain (s : State) : State :=
  courseLanes.foldl (fun s n => if (s.lane n).found then s.laneTo n .train else s) (s.courseTo .train)

/-- R514, R521 (17): lanes may run: LREF is present, and bring-up has begun in PREP. -/
def State.lanesRun (s : State) : Bool :=
  s.pwr.clocks.getD 2 true && s.chp.mode != .boot && (s.chp.mode != .prep || decide (7 ≤ s.pwr.prepPassed))

/-- R399, R408 (14): the Peer Link may run: course 1 is the Peer Link, EN is set and the mode is not BOOT. -/
def State.plEnabled (s : State) : Bool := s.on Reg.LAN_CFG_C1_PEER && s.on Reg.LAN_PL_CTL_EN && s.lanesRun

/-- R408 (14): the course follows C1_PEER, EN and the mode: DOWN without them, DETECT from DOWN with them. -/
def State.courseFollow (s : State) : State :=
  if s.plEnabled then
    if s.lan.course.state = .down && !s.lan.course.hold then s.courseDetect else s
  else if s.lan.course.state = .down then s
  else courseLanes.foldl (fun s n => s.laneTo n .off) ((s.courseTo .down).mapCourse (fun c => { c with hold := false }))

/-- R417, R418 (14): every unacknowledged DATA flit is to be replayed. -/
def State.replayAll (s : State) : State := s.mapCourse (fun c => { c with replayLeft := c.retry.length })

/-- PL_LANE_LOST (R420): a lane of an ACTIVE course is lost: width 1 on the other lane with a replay; with no lane left, DETECT.
-/
def State.laneLost (s : State) (n : Nat) : State :=
  let s := (s.bump (Reg.LAN_LOCK_LOSS_CNT n)).event [Reg.LAN_STAT_LOSS.bit n]
  if s.lan.course.state = .active && courseLanes.contains n then
    let s := s.laneTo n .lost
    if (s.lanesIn .active).isEmpty && (s.lanesIn .quiet).isEmpty then s.courseDetect
    else
      let s := ((s.bump Reg.LAN_DEGRADE_CNT).event [Reg.LAN_STAT_DEGRADE]).replayAll
      s.mapCourse (fun c => { c with width := min 1 c.width, rxWidth := min 1 c.rxWidth })
  else s

/-- R402, R407 (14): the MACs that a lane of an Ethernet course carries go down. -/
def State.laneDown (s : State) (n : Nat) : State :=
  if courseLanes.contains n && s.on Reg.LAN_CFG_C1_PEER then s.laneLost n
  else
    let s := (s.bump (Reg.LAN_LOCK_LOSS_CNT n)).event [Reg.LAN_STAT_LOSS.bit n]
    s.macDown (if s.split n then n else n / 2 * 2)

/-- R419, R424 (14): a fault of the Peer Link layer itself: the course restarts from DETECT, both buffers discarded, the
flits counted. -/
def State.courseFault (s : State) : State :=
  let s := s.bumpBy Reg.LAN_LOST_CNT s.lan.course.retry.length
  let s := s.mapCourse (fun c => { c with retry := [], replayLeft := 0, rxPartial := none, txStarted := false })
  s.courseDetect

end Sys2Proof.Machine
end

