-- ==== Sys2Proof/Machine/Faults.lean ====
section
/-! DEFINITION. Fault containment (R18 to R23, 01): the restart table of R22 with its effects, isolation, RESTART_LIMIT and
escalation. -/

namespace Sys2Proof.Machine

/-- R22 (01): the restart time of a block that restarts as a whole. -/
def blockRestart (b : Block) : Option Nat :=
  match b with
  | .occ => some (100 * us) | .rmx => some (100 * us) | .cal => some (10 * us)
  | .chn => some (100 * us) | .pcm => some (100 * us) | .phs => some (100 * us) | .pfl => some (100 * us)
  | .dts => some (100 * us) | .cmp => some (50 * us)
  | .sns => some (2 * ms) | .ref => some (2 * ms) | .tiu => some (2 * ms)
  | _ => none

/-- R22 (01): the restart time of one unit of a block. -/
def unitRestart (b : Block) : Option Nat :=
  match b with
  | .crx => some (1 * ms) | .aar => some (10 * us) | .zon => some (1 * us) | .cvu => some (1 * us)
  | .eth => some (5 * ms) | .kpe => some (10 * us)
  | _ => none

/-- R22 (01): the restart time that a fault of a block, or of one unit of it, has; none: it is handled at chip level. -/
def restartTime (b : Block) (u : Option Nat) : Option Nat :=
  match u with
  | none => blockRestart b
  | some _ => (unitRestart b).or (blockRestart b)

/-- R282, R472, R507 (09, 15, 16): causes of a restartable block that escalate all the same. -/
def escalates (b : Block) (cause : Nat) : Bool :=
  match b with
  | .zon => cause == 3
  | .kpe => cause == 2
  | .sns => cause == 1 || cause == 2
  | _ => false

/-- R272 (09): a zone unit reset: state 0, counters and timers cleared, inputs invalid and not fresh, hold-off cleared. -/
def ZoneUnit.cleared (z : ZoneUnit) : ZoneUnit :=
  { z with state := 0, c := [0, 0, 0, 0], t := List.replicate 4 {}, f := List.replicate 8 {}, dts := {}, lastReq := none }

/-- R195, R197 (07): the sweeps accumulated so far are discarded, and accumulation resumes in the same block. -/
def State.discardBlock (s : State) : State :=
  s.mapDts (fun d => { d with blk := { block := d.blk.block, restarted := true } })

/-- R390, R391 (13): switch `k` takes its FSTATE while its channel is invalid. -/
def State.switchFallback (s : State) (k : Nat) : State :=
  let was := s.ref.swOn
  let s := s.mapRef (fun r => { r with
    swFault := r.swFault ||| BitVec.ofNat 8 (2 ^ k)
    swOn := if s.rd (Reg.REF_SW_FSTATE k) = 1 then r.swOn ||| BitVec.ofNat 8 (2 ^ k)
      else if 2 ≤ s.rd (Reg.REF_SW_FSTATE k) then r.swOn
      else r.swOn &&& ~~~(BitVec.ofNat 8 (2 ^ k)) })
  if s.ref.swOn = was then s else s.event [Reg.REF_STAT_SWITCH]

/-- R22, R397 (01, 13): REF restarts: every result is NONE and the switches take their FSTATE. -/
def State.refRestart (s : State) : State :=
  let s := s.mapRef (fun r => { r with
    restarting := true, act := .idle, conv := none, injPending := false, calPending := false
    chans := r.chans.map (fun c => { c with reason := .none, history := [], gain := none, lowRun := 0 })
    above := 0, below := 0 })
  (List.range 8).foldl (fun s k => if s.on (Reg.REF_SW_EN k) then s.switchFallback k else s) s

/-- R22, R245 (01, 08): an AAR core restarts: its run ends, its features are dropped, and its frame waits for its deadline. -/
def AarCore.restarted (c : AarCore) : AarCore :=
  { c with
    state := .restarting, fate := .reloading, loops := [], features := [], needInit := true, copySince := none
    reloadSince := none, skipped := false }

/-- R22 (01): what a fault does at once to the outputs of a block or unit that restarts. -/
def State.restartEffect (s : State) (b : Block) (u : Option Nat) : State :=
  match b with
  | .occ => s.mapOcc (fun o => { o with
      shifting := none, preloadWanted := false, verified := none, streak := 0, lateLatch := o.lateLatch })
  | .rmx => s.discardBlock
  | .dts => (s.discardBlock.mapDts (fun d => { d with unload := [] })).wr Reg.DTS_HOT_TEMP 0x8000
  | .chn => s.mapPhs (fun p => { p with restarting := true })
  | .pcm => s.mapPhs (fun p => { p with restarting := true })
  | .phs => s.mapPhs (fun p => { p with restarting := true })
  | .pfl => s.mapPhs (fun p => { p with restarting := true })
  | .aar => s.mapAar (fun a => { a with cores := modAt a.cores (u.getD 0) AarCore.restarted })
  | .zon => s.mapZon (fun z => { z with units := modAt z.units (u.getD 0) ZoneUnit.cleared })
  | .cmp => s.cmpRestart
  | .cvu => s.mapCvu (fun c => { c with units := modAt c.units (u.getD 0) (fun x =>
      { x with state := .idle, run := 0, count := 0, dram := false }) })
  | .eth => (s.macDown (2 * u.getD 0)).macDown (2 * u.getD 0 + 1)
  | .kpe => s.closeSession (u.getD 0) 4
  | .sns =>
    let s := (List.range 8).foldl (fun s n => s.wr (Reg.SNS_TEMP n) 0x8000) s
    let s := (List.range 12).foldl (fun s n => s.wr (Reg.SNS_MV n) 0x8000) s
    s.mapSns (fun x => { x with hot := List.replicate 8 false, warm := List.replicate 8 false, railWarn := List.replicate 12 false })
  | .ref => s.refRestart
  | .tiu => s.mapTiu (fun t => { t with units := t.units.map (fun x =>
      { x with rateValid := false, results := [], state := if x.state = .off then .off else .idle }) })
  | _ => s

/-- ISOLATE (R20): the region supervisor isolates a block or a unit, with a deadline where it restarts it. -/
def State.isolate (s : State) (b : Block) (u deadline : Option Nat) : State :=
  s.mapChp (fun c => { c with
    isolated := c.isolated.filter (fun i => !(i.block == b && (i.unit == u || deadline.isNone)))
      ++ [{ block := b, unit := u, deadline := deadline }] })

/-- R20, R27, R310 (01, 10): a fault handled at chip level: the block is isolated without restart, a guard trips first, and
the code escalates. -/
def State.escalateFault (s : State) (b : Block) (cause detail : Nat) : State :=
  let s := if b = .gda then s.trip .a .selfFault else if b = .gdb then s.trip .b .selfFault else s
  let s := if b = .chp then s else s.isolate b none none
  s.escalate (errCode b cause) detail

/-- BLOCK_FAULT (R19 to R22): an uncorrectable fault of a block, or of one unit of it, reported to the region supervisor: it
is restarted under R22, or at the third fault in 10 s raises RESTART_LIMIT, or escalates. A fault that is contained forms an
ERROR record without ESCALATED (DEDUCED, log entry 16). -/
def State.blockFault (s : State) (b : Block) (u : Option Nat) (cause detail : Nat) : State :=
  if b = .lan then
    let s := s.record 0 (errCode b cause) detail
    if cause = 2 || cause = 3 then s.courseFault else s.laneDown (u.getD 0)
  else
    match restartTime b u with
    | none => s.escalateFault b cause detail
    | some dt =>
      if escalates b cause then s.escalateFault b cause detail
      else
        let recent := (s.chp.faults.filter (fun f => s.now < f.2 + 10 * sec)) ++ [(b, s.now)]
        let s := s.mapChp (fun c => { c with faults := recent })
        if 3 ≤ (recent.filter (fun f => f.1 == b)).length then s.escalateFault b 0xF6 detail
        else
          let s := s.record 0 (errCode b cause) detail
          let s := s.isolate b (if (blockRestart b).isSome then none else u) (some (s.now + dt))
          s.restartEffect b u

/-- BLOCK_RESTART_READY (R22): what comes about when a restarted block or unit reports ready. -/
def State.readyEffect (s : State) (b : Block) (u : Option Nat) : State :=
  match b with
  | .occ => s.mapOcc (fun o => { o with resendDue := true })
  | .chn => s.mapPhs (fun p => { p with reseatDue := true })
  | .pcm => s.mapPhs (fun p => { p with reseatDue := true })
  | .phs => s.mapPhs (fun p => { p with reseatDue := true })
  | .pfl => (s.mapPfl (fun p => { p with resetAtBoundary := true })).mapPhs (fun p => { p with reseatDue := true })
  | .aar => s.mapAar (fun a => { a with cores := modAt a.cores (u.getD 0) (fun c =>
      { c with reloadSince := some s.now }) })
  | .ref => s.mapRef (fun r => { r with restarting := false, cycleDone := true, freeAt := s.now })
  | _ => s

end Sys2Proof.Machine
end

