-- ==== Sys2Proof/Machine/Access.lean ====
section
/-! DEFINITION. What every command shares: the instant it comes at, and the checks of a write that acts as a command
(R20, R44, R46). -/

namespace Sys2Proof.Machine

/-- R93, R95 (03): a HALT_NOW that waits for the next instruction fetch has been reached. -/
def State.settleHalt (s : State) : State :=
  match s.psq.haltAtFetch, s.nextFetch with
  | some c, some f => if f ≤ s.now then (s.haltTab c true).wr Reg.PSQ_TIMER_TICK ((f - s.psq.tick0) / tick) else s
  | _, _ => s

/-- R394 (13): a stop edge that an ARMED unit saw in a count now past was early. -/
def State.settleEarly (s : State) (u : Nat) : State :=
  match (s.tiu.units.getD u {}).earlyCount with
  | some c =>
    if c < s.now / 4000 then
      let s := s.mapTiu (fun x => { x with units := modAt x.units u (fun y => { y with earlyCount := none }) })
      (s.event [Reg.TIU_STAT_EARLY.bit u]).bump (Reg.TIU_U_EARLY_CNT u)
    else s
  | none => s

/-- The machine at the instant of a command: time has moved on, a halt that was due has come, early stop edges are counted, and
frames that have ended have left their MACs. -/
def State.atT (s : State) (t : Instant) : State :=
  let s := (List.range 4).foldl (fun s u => s.settleEarly u) (s.advance t).settleHalt
  (List.range 4).foldl (fun s m => if (s.mac m).tx.isEmpty then s else s.drainMac m (s.mac m).tx.length) s

/-- R44, R45 (02): a write denied by privilege. -/
def State.denyPriv (s : State) : State := (s.bump Reg.CHP_DENY_CNT_PRIV).event [Reg.CHP_CHIP_STAT_DENIED]

/-- R46 (02): a write denied by the seal. -/
def State.denySeal (s : State) : State := (s.bump Reg.CHP_DENY_CNT_SEAL).event [Reg.CHP_CHIP_STAT_DENIED]

/-- R20, R44, R46, R571: a write by master `m` to a privileged command field of block `b` (unit `u`): BUS_ERROR while it is
isolated, denied to an OPEN master, denied where the field is sealed; else the command `f` acts. -/
def State.strobe (s : State) (m : Master) (b : Block) (u : Option Nat) (sealed : Bool) (f : State → State) : State :=
  if s.isolatedAt b u then s.busErr
  else if !s.mayPriv m then s.denyPriv.done
  else if sealed && !s.maySeal m then s.denySeal.done
  else (f s).done

/-- R20, R45: a write to a field that an OPEN master may write too, of block `b` (unit `u`): BUS_ERROR while it is isolated. -/
def State.poke (s : State) (b : Block) (u : Option Nat) (f : State → State) : State :=
  if s.isolatedAt b u then s.busErr else (f s).done

end Sys2Proof.Machine
end

