-- ==== Sys2Proof/Machine/Tuning.lean ====
section
/-! DEFINITION. The switch to the staged tuning (R12, R30, R67, 01 and 02) with what it does in each block, the chain frames
of OCC (R126 to R130, 04) that go with the stage state, and the stage state's changes (R59). -/

namespace Sys2Proof.Machine

/-! ### Memories (R40) -/

/-- R40 (02): slot bases. -/
def tabBase : Nat := 0x01000000
/-- shape table -/
def shapeBase : Nat := 0x02000000
/-- guard profiles -/
def profileBase : Nat := 0x03000000
/-- DTS correction table -/
def dtsBase : Nat := 0x04000000
/-- AAR instruction memory -/
def codeBase : Nat := 0x05000000
/-- AAR data memory -/
def dataBase : Nat := 0x06000000
/-- zone state tables -/
def zoneBase : Nat := 0x07000000
/-- fret table -/
def fretBase : Nat := 0x08000000

/-- A word of an active copy. -/
def State.memWord (s : State) (a : Nat) : Nat := (Store.word s.mems.act a).toNat

/-- A word of the copy active before the latest switch. -/
def State.prevMem (s : State) (a : Nat) : Nat := (Store.word s.mems.prev a).toNat

/-- R12, R69: the word of an active copy for an item of this sweep. -/
def State.memFor (s : State) (sweep a : Nat) : Nat := if sweep < s.chp.ownsFrom then s.prevMem a else s.memWord a

/-- A tuned register word at `lo` to `hi` − 1 differs between the stage bank and the active tuning. -/
def State.tunedDiffers (s : State) (lo hi : Nat) : Bool :=
  Store.within s.regs.stage lo hi != Store.within s.regs.tuned lo hi

/-- A memory's stage and active copies differ at `lo` to `hi` − 1. -/
def State.memDiffers (s : State) (lo hi : Nat) : Bool :=
  Store.within s.mems.stage lo hi != Store.within s.mems.act lo hi

/-- A field differs between the stage bank and the active tuning. -/
def State.fieldDiffers (s : State) (f : Field) : Bool := s.rdStage f != s.rd f

/-! ### The optics control chain (R126 to R130) -/

/-- R125 (04): drivers in the chain; above 32 is taken as 32. -/
def State.occLen (s : State) : Nat := min 32 (s.rd Reg.OCC_CTL_LEN)

/-- R126 (04): the value of driver `d`, from the tuned words `g`. -/
def State.driver (s : State) (g : Nat → Word) (d : Nat) : BitVec 16 :=
  let w := d / 2
  let img := g (Reg.OCC_IMAGE w).addr
  let mask := g (Reg.OCC_LIVE_MASK w).addr
  let v := (img &&& ~~~mask) ||| (s.live (Reg.OCC_LIVE_VAL w).addr &&& mask)
  BitVec.ofNat 16 (v.toNat / 2 ^ (16 * (d % 2)))

/-- R126 (04): the drivers' values of a frame: the staged image for a preload, else the active one, with the live bits. -/
def State.occFrame (s : State) (k : FrameKind) : List (BitVec 16) :=
  let n := if k = .preload then min 32 (s.rdStage Reg.OCC_CTL_LEN) else s.occLen
  (List.range n).map (fun d => s.driver (if k = .preload then s.stageWord else s.tuned) d)

/-- R127 (04): a frame begins; while one is being shifted nothing else begins. -/
def State.occStart (s : State) (k : FrameKind) : State :=
  if s.occ.shifting.isSome || s.isolated .occ then s
  else s.mapOcc (fun o => { o with
    shifting := some (k, s.occFrame k), frameAt := s.now, verified := none, resendDue := false })

/-- R129, R130 (04): the stage leaves CHECKED and PENDING without a Retune: the preload is no longer to be latched, and a held
live write goes out. -/
def State.occRelease (s : State) : State :=
  let s := s.mapOcc (fun o => { o with
    verified := if o.verified = some .preload then none else o.verified, preloadWanted := false })
  if s.occ.held then (s.mapOcc (fun o => { o with held := false })).occStart .live else s

/-! ### The stage state (R59) -/

/-- R130 (04): the stage states in which the chain is kept for a preload. -/
def keepsChain (x : StageState) : Bool := x == .checking || x == .checked || x == .pending

/-- R59, R130, R300: the stage state changes; leaving CHECKING, CHECKED and PENDING frees the chain, and entering PENDING or
COPYBACK cancels the learnings. -/
def State.stageTo (s : State) (x : StageState) : State :=
  let was := s.chp.stage
  let s := s.mapChp (fun c => { c with stage := x, armed := if x = .pending then c.armed else none })
  let s := if x = .pending || x = .copyback then (s.cancelLearn .a).cancelLearn .b else s
  if keepsChain was && !keepsChain x then s.occRelease else s

/-- R59 (02): the refusal codes of TSTAT.REFUSAL. -/
def State.refuse (s : State) (code : Nat) : State := s.wr Reg.CHP_TSTAT_REFUSAL code

/-! ### The switch -/

/-- The words of shape `k`'s entry, R78 (03), from a memory. -/
def shapeWords (m : List Host.Cell) (k : Nat) : List Host.Cell :=
  (Store.within m (shapeBase + k * 0x1000) (shapeBase + (k + 1) * 0x1000)).map (fun c => (c.1 - shapeBase - k * 0x1000, c.2))

/-- R81 (03): the slots and shapes that the FIREs of a tab of `len` words name. -/
def firePairs (m : List Host.Cell) (len : Nat) : List (Nat × Nat) :=
  (List.range (min len 4096)).filterMap (fun i =>
    let w := (Store.word m (tabBase + 4 * i)).toNat
    if w / 2 ^ 26 = 4 then some (w / 2 ^ 23 % 8, w / 2 ^ 19 % 16) else none)

/-- R168 (05): the shape fired in slot `k` differs between the two tunings. -/
def State.firedDiffers (s : State) (k : Nat) : Bool :=
  let old := ((firePairs s.mems.act (s.rd Reg.PSQ_TABLEN_LEN)).filter (fun p => p.1 == k)).map (fun p => p.2)
  let new := ((firePairs s.mems.stage (s.rdStage Reg.PSQ_TABLEN_LEN)).filter (fun p => p.1 == k)).map (fun p => p.2)
  old != new || new.any (fun p => shapeWords s.mems.act p != shapeWords s.mems.stage p)

/-- R168 (05): every position re-seats: G, a slot's EN or OFFSET, a fired shape or an NFFT changes. -/
def State.reseatsAll (s : State) : Bool :=
  s.fieldDiffers Reg.PHS_GAUGE_G
    || (List.range 8).any (fun k => s.fieldDiffers (Reg.PSY_SLOT_EN k) || s.fieldDiffers (Reg.PSY_SLOT_OFFSET k)
      || s.fieldDiffers (Reg.PCM_SLOT_NFFT k) || s.firedDiffers k)

/-- R168 (05): a position of new state whose outputs are INV up to sweep `n` + 1. -/
def seatAt (p n : Nat) : PosState := { pos := p, invTo := some (n + 1) }

/-- RESEAT (R168): position state at a switch at sweep `n`. -/
def State.reseat (s : State) (n : Nat) : State :=
  if s.reseatsAll then
    (s.mapPhs (fun p => { p with pos := [], reseatAt := some n })).event [Reg.PHS_STAT_RESEAT]
  else
    let lo := s.rdStage Reg.PHS_RANGE_CAPO
    let hi := s.rdStage Reg.PHS_RANGE_END
    let lo0 := s.rd Reg.PHS_RANGE_CAPO
    let hi0 := s.rd Reg.PHS_RANGE_END
    if lo = lo0 && hi = hi0 then s
    else
      let kept := s.phs.pos.filter (fun p => lo ≤ p.pos && p.pos ≤ hi)
      let new := (List.range (hi + 1)).filter (fun p => lo ≤ p && (p < lo0 || hi0 < p))
      let s := s.mapPhs (fun x => { x with pos := kept ++ new.map (fun p => seatAt p n) })
      if new.isEmpty then s else s.event [Reg.PHS_STAT_RESEAT]

/-- R272 (09): zone units whose state table, fret entry or capture profile changes. -/
def State.zonesChanged (s : State) : List Nat :=
  (List.range 256).filter (fun z =>
    let capp := (Store.word s.mems.stage (fretBase + 8 * z + 4)).toNat / 16 % 8
    s.memDiffers (zoneBase + z * 0x400) (zoneBase + (z + 1) * 0x400)
      || s.memDiffers (fretBase + 8 * z) (fretBase + 8 * z + 8)
      || s.tunedDiffers (Reg.ZON_CAPP_PRE capp).addr ((Reg.ZON_CAPP_PRE capp).addr + 8))

/-- R216, R244 (08): AAR.Cn_CONSTi: a constant region of core `n`, its first byte and its bytes, from the words `g`. -/
def constRegion (g : Nat → Word) (n i : Nat) : Nat × Nat :=
  ((Reg.AAR_C_CONST_BASE n i).read g * 64, (Reg.AAR_C_CONST_LEN n i).read g * 64)

/-- R243 (08): the constant bytes of core `n` in the stage copy differ from its active constant image. -/
def State.constDiffers (s : State) (n : Nat) : Bool :=
  (List.range 4).any (fun i =>
    let r := constRegion s.stageWord n i
    let b := dataBase + n * 0x40000
    (Store.within s.mems.stage (b + r.1) (b + r.1 + r.2)).map (fun c => (c.1 - b, c.2))
      != Store.within (s.aar.cores.getD n {}).constImage r.1 (r.1 + r.2))

/-- R243 (08): the tap that core `n`'s source names: 0 tap A, 1 tap B, 2 DTS. -/
def State.coreSource (s : State) (n : Nat) : Nat := s.rd (Reg.AAR_C_CTL_SRC n)

/-- R243 (08): the switch affects core `n`. -/
def State.affects (s : State) (n : Nat) : Bool :=
  let tap (k : Nat) : Bool :=
    (k == 0 && (s.tunedDiffers 0x250000 0x250004 || s.fieldDiffers Reg.PFL_TAP_AAR_A))
      || (k == 1 && (s.tunedDiffers 0x250004 0x250008 || s.fieldDiffers Reg.PFL_TAP_AAR_B))
  s.memDiffers (codeBase + n * 0x8000) (codeBase + (n + 1) * 0x8000) || s.constDiffers n
    || s.tunedDiffers (0x250400 + 0x40 * n) (0x250440 + 0x40 * n)
    || tap (s.coreSource n) || tap (s.rdStage (Reg.AAR_C_CTL_SRC n))
    || s.tunedDiffers 0x220000 0x220004

/-- R223 (08): the switch restarts the staging of tap `k` (0 A, 1 B). -/
def State.restages (s : State) (k : Nat) : Bool :=
  s.tunedDiffers (0x250000 + 4 * k) (0x250004 + 4 * k) || s.tunedDiffers 0x220000 0x220004
    || s.fieldDiffers (if k = 0 then Reg.PFL_TAP_AAR_A else Reg.PFL_TAP_AAR_B)

/-- R243 (08): core `n` is disabled before or after the switch, or its source gives nothing. -/
def State.switchesNow (s : State) (n : Nat) : Bool :=
  let off (f : Field) : Bool := decide (5 < s.rd f)
  s.rd (Reg.AAR_C_CTL_EN n) = 0 || s.rdStage (Reg.AAR_C_CTL_EN n) = 0
    || (s.coreSource n = 0 && off Reg.PFL_TAP_AAR_A) || (s.coreSource n = 1 && off Reg.PFL_TAP_AAR_B)
    || (s.coreSource n = 2 && s.rd Reg.DTS_CTL_EN = 0) || s.coreSource n = 3

/-- R223, R243 (08): the array at the switch at sweep `n`: the cores that it affects keep the former tuning until they switch. -/
def State.aarSwitch (s : State) (n : Nat) (cores : List Nat) : State :=
  let now := (List.range 32).filter s.switchesNow
  s.mapAar (fun a => { a with
    cores := a.cores.zipIdx.map (fun (c, i) =>
      if cores.contains i then { c with affected := true, skewed := false, switchDue := if now.contains i then some n else none } else c)
    restageA := if s.restages 0 then some n else a.restageA
    restageB := if s.restages 1 then some n else a.restageB })

/-- R380, R382 (13): REF at a switch that changes some REF field: the conversion in progress is cut, a calibration that waited for an
injected sequence begins, and the regular sequence starts anew. -/
def State.refSwitch (s : State) : State :=
  if !s.tunedDiffers 0x520000 0x530000 then s
  else
    let changed (c : Nat) : Bool := s.tunedDiffers (0x520100 + 64 * c) (0x52010c + 64 * c)
    let config (c : Nat) : Bool := s.tunedDiffers (0x520100 + 64 * c) (0x520104 + 64 * c)
    let exc := (List.range 12).filter (fun c => s.fieldDiffers (Reg.REF_C_EXC c))
    let begins := s.ref.calPending && s.ref.act != .calibrating
    let s := s.mapRef (fun r => { r with
      conv := none
      act := if r.act = .calibrating || begins then .calibrating else .idle
      calAt := if begins then s.now else r.calAt
      calPending := r.calPending && !begins
      entry := 0, cycleDone := true, freeAt := s.now, sweeps := 0, tachDue := false
      chans := r.chans.zipIdx.map (fun (c, i) =>
        let c := if config i then { c with gain := none, lowRun := 0 } else c
        if changed i then { c with reason := .none, history := [] } else c) })
    exc.foldl (fun s c => s.wr (Reg.REF_IEXC c) 0) s

/-- R393, R396 (13): a TIU unit at a switch: off while EN is 0; idle, its rate invalid, after EN comes or MODE changes. -/
def State.tiuSwitch (s : State) : State :=
  s.mapTiu (fun x => { x with units := x.units.zipIdx.map (fun (y, u) =>
    if s.rdStage (Reg.TIU_U_EN u) = 0 then
      { y with state := .off, rateValid := false, results := [], earlyCount := none }
    else if y.state = .off || s.fieldDiffers (Reg.TIU_U_MODE u) then
      { y with state := .idle, rateValid := false, results := [], earlyCount := none }
    else y) })

/-- R316, R317 (11): what the switch at sweep `n` asks of the ring. -/
def State.ringSwitch (s : State) (n : Nat) : State :=
  if s.fieldDiffers Reg.PHS_RANGE_CAPO || s.fieldDiffers Reg.PHS_RANGE_END || s.fieldDiffers Reg.PFL_TAP_RING then
    s.mapRng (fun r => { r with formatAt := some n })
  else if s.fieldDiffers Reg.RNG_CTL_SIZE && s.ringOn then
    let ns := s.rdStage Reg.RNG_CTL_SIZE * 2 ^ 20 / (64 * s.rng.lpr)
    s.mapRng (fun r => { r with nsNext := if ns = r.ns then none else some ns })
  else s

/-- R197 (07): the switch closes the accumulation early. -/
def State.dtsCloses (s : State) : Bool :=
  s.fieldDiffers Reg.DTS_CTL_ACC_LOG2 || s.tunedDiffers 0x150000 0x160000 || s.fieldDiffers Reg.PHS_RANGE_END
    || s.fieldDiffers Reg.PSQ_ENTRY_START || s.fieldDiffers Reg.PSQ_ENTRY_RESUME
    || s.memDiffers tabBase (tabBase + 0x4000)

/-- R196, R197, R202, R208 (07): DTS at the switch at sweep `n`: a block that ends here or closes early, blocks that stay with
the old tuning, and the drone. -/
def State.dtsSwitch (s : State) (n : Nat) : State :=
  let drone := s.tunedDiffers 0x240004 0x240010 || s.tunedDiffers 0x240020 0x240038
  let stop := s.now + s.psq.period * tick
  let s := if s.dts.blk.block != n / 2 ^ s.rd Reg.DTS_CTL_ACC_LOG2 then s.closeBlock false false true (n - 1) stop else s
  let s := if s.dtsCloses then s.closeBlock false true true (n - 1) stop else s
  let s := s.mapDts (fun d => { d with
    unload := d.unload.map (fun u => { u with old := true, droneReset := u.droneReset || drone })
    profiles := d.profiles.map (fun p => { p with old := true })
    skipBlock := if s.dtsCloses then none else d.skipBlock })
  if drone then
    s.mapDts (fun d => { d with
      held := false
      c0 := signed 32 (s.rdStage Reg.DTS_C0), gamma := (s.rdStage Reg.DTS_GAMMA : Nat) })
  else s

/-- R464 (15): the subscriptions whose stream's content the switch changes: their next row carries RETUNED (log entry 17). -/
def State.markRetuned (s : State) : State :=
  let opt := s.tunedDiffers 0x100000 0x150000 || s.tunedDiffers 0x200000 0x240000 || s.memDiffers tabBase profileBase
  let temp := s.tunedDiffers 0x150000 0x160000 || s.tunedDiffers 0x240000 0x250000 || s.memDiffers dtsBase codeBase
  s.mapKpe (fun k => { k with subs := k.subs.map (fun o => o.map (fun x =>
    match x.kind with
    | .phase => { x with retuned := x.retuned || opt }
    | .capture => { x with retuned := x.retuned || opt }
    | .temp => { x with retuned := x.retuned || temp }
    | _ => x)) })

/-- R12, R30, R67 (01, 02): every tuned register and memory switches to the staged tuning; items tagged below sweep `n` keep
the former one. Position state is left to `reseat`. -/
def State.takeStage (s : State) (n : Nat) : State :=
  let zones := s.zonesChanged
  let cores := (List.range 32).filter s.affects
  let nco := (List.range 8).filter (fun k => s.fieldDiffers (Reg.PSY_SLOT_OFFSET k))
  let restart (xs : List Nat) : List Nat := xs.zipIdx.map (fun (x, i) => if nco.contains i then s.now else x)
  let pfl := s.tunedDiffers 0x230000 0x230004 || s.tunedDiffers 0x230008 0x240000
  let s := s.refSwitch.tiuSwitch
  let s := s.ringSwitch n
  let s := s.dtsSwitch n
  let s := s.markRetuned
  let s := s.mapPsy (fun p => { p with ncoFrom := restart p.ncoFrom })
  let s := s.mapChn (fun p => { p with ncoFrom := restart p.ncoFrom })
  let s := s.mapCrx (fun c => { c with lowered := [] })
  let s := s.mapPfl (fun p => { p with resetAtSweep := if pfl then some n else p.resetAtSweep })
  let s := s.mapZon (fun z => { z with resetUnits := (z.resetUnits.filter (fun u => !zones.contains u)) ++ zones })
  let s := s.aarSwitch n cores
  let s := s.mapOcc (fun o => { o with
    retuned := o.verified = some .preload
    lateLatch := o.lateLatch || (o.verified != some .preload && s.rdStage Reg.OCC_CTL_LEN != 0) })
  let s := s.mapRegs (fun r => { r with prev := r.tuned, tuned := r.stage })
  let s := s.mapMems (fun m => { m with prev := m.act, act := m.stage })
  let s := s.mapChp (fun c => { c with
    stage := .copyback, copybackSince := s.now, copyFault := false, armed := none, retuneDue := none, ownsFrom := n
    confirms := (if s.phs.restarting then [] else [{ block := .chn, lastSweep := some (n + 1) },
      { block := .phs, lastSweep := some (n + 1) }, { block := .pfl, lastSweep := some (n + 1) }]) })
  let s := if s.occ.lateLatch then s.occStart .afterRetune else s
  if s.occ.held then s.mapOcc (fun o => { o with held := false, resendDue := true }) else s

/-- R67, R168 (02, 05): the switch at a sweep boundary. -/
def State.switchTuning (s : State) (n : Nat) : State := (s.reseat n).takeStage n

/-- RETUNE_APPLY (R67, R97): the armed Retune takes effect with sweep `n`, whose first instruction is at `entry`. -/
def State.retune (s : State) (n entry : Nat) : State :=
  let s := s.switchTuning n
  let s := (s.wr Reg.CHP_LAST_APPLY_SWEEP n).bump Reg.CHP_APPLY_CNT_COUNT
  let s := s.event [Reg.CHP_CHIP_STAT_APPLY_DONE]
  let s := s.mapPsq (fun p => { p with pc := entry, loops := [0, 0, 0, 0] })
  let p := s.rd Reg.PSQ_PERIOD_TICKS
  let s := s.mapPsq (fun q => { q with period := p })
  let s := s.mapGuards (fun g => { g with
    lastBoundary := if g.inSweep then g.lastBoundary.map (fun b => (b.1, b.2.1, p, b.2.2.2)) else g.lastBoundary })
  let s := s.record 1 evApply (n % 2 ^ 48 + s.rd Reg.CHP_TUNING_ID_ID % 2 ^ 16 * 2 ^ 48)
  s.notify ntApply [n, s.rd Reg.CHP_TUNING_ID_ID]

/-- R67 (02): the Retune that is due at the boundary just taken, if there is one. -/
def State.retuneIfDue (s : State) : State :=
  match s.chp.retuneDue with
  | some _ => s.retune s.sweep (s.rdStage Reg.PSQ_ENTRY_RESUME)
  | none => s

/-- R71 (02): a block confirms the switch when it has processed an item tagged `sweep`. -/
def State.confirm (s : State) (b : Block) (sweep : Nat) : State :=
  if s.chp.ownsFrom ≤ sweep then
    s.mapChp (fun c => { c with confirms := c.confirms.filter (fun x => x.block != b) })
  else s

end Sys2Proof.Machine
end

