-- ==== Sys2Proof/Machine/Sequence.lean ====
section
/-! DEFINITION. What the sequencer's rows share (R73 to R103, 03): shapes and probes, the DAC samples with CLIP, the issue of a
tab instruction, looks, and the sweep boundary. -/

namespace Sys2Proof.Machine

/-! ### Shapes (R78 to R80) -/

/-- A word of shape `k`'s entry in a memory. -/
def shapeWord (m : List Host.Cell) (k off : Nat) : Nat := (Store.word m (shapeBase + k * 0x1000 + off)).toNat

/-- R78 (03): KIND. -/
def shapeKind (m : List Host.Cell) (k : Nat) : Nat := shapeWord m k 0 % 4

/-- R80 (03): the entry fails the tests of CK08. -/
def shapeBad (m : List Host.Cell) (k : Nat) : Bool :=
  let kind := shapeKind m k
  let len := shapeWord m k 8 % 2 ^ 11
  let bw := shapeWord m k 0xC % 2 ^ 17
  kind == 3 || decide (4 < shapeWord m k 0 / 16 % 8) || (kind == 0 && decide (shapeWord m k 4 % 2 ^ 16 < 5))
    || ((kind == 1 || kind == 2) && (decide (len < 16 || 1024 < len) || decide (bw = 0 || 80000 < bw)))

/-- R79 (03): N, the probe's DAC samples. -/
def shapeSamples (m : List Host.Cell) (k : Nat) : Nat :=
  if shapeKind m k = 0 then shapeWord m k 4 % 2 ^ 16 else 25 * (shapeWord m k 8 % 2 ^ 11)

/-- R84, R103 (03): the probe of shape `k` fired in a slot, of the active shape table. -/
def State.probe (s : State) (slot k scale fireAt : Nat) (pluck : Bool) : Probe :=
  let m := s.mems.act
  { slot := slot, pluck := pluck, kindWord := shapeWord m k 0, width := shapeWord m k 4, len := shapeWord m k 8
    bw := shapeWord m k 0xC, amp := shapeWord m k 0x10 % 2 ^ 16, phase := shapeWord m k 0x14 % 2 ^ 16
    wtab := if shapeWord m k 0 / 16 % 8 = 4 then (List.range 512).map (fun i => shapeWord m k (0x800 + 4 * i)) else []
    scale := scale, fireAt := fireAt, endAt := fireAt + shapeSamples m k * subTick }

/-- R79 (03): N. -/
def Probe.samples (p : Probe) : Nat := (p.endAt - p.fireAt) / subTick

/-- R79 (03): w(i); the raised-cosine parts are free values. -/
def Probe.window (p : Probe) (i : Nat) : Nat :=
  let n := p.samples
  let tukey (d : Nat) : Nat :=
    if i * d < n || n * d < n + (i + 1) * d then (Config.windowSample d i n).toNat else 65535
  match p.kindWord / 16 % 8 with
  | 0 => 65535
  | 1 => tukey 20
  | 2 => tukey 8
  | 3 => (Config.windowSample 0 i n).toNat
  | 4 =>
    let e := i * 1024 / n
    p.wtab.getD (e / 2) 0 / 2 ^ (16 * (e % 2)) % 2 ^ 16
  | _ => 0

/-- R79 (03): the chirp's phase at sample i, 20 bits of a turn. -/
def Probe.chirp (p : Probe) (i : Nat) : Nat :=
  let n : Int := p.samples
  let num : Int := (p.bw % 2 ^ 17 : Nat) * ((i : Int) * i - i * n) * 2 ^ 20
  let den : Int := 5000000 * max 1 n
  if p.kindWord % 4 = 1 then wrapN 20 (num / den) else if p.kindWord % 4 = 2 then wrapN 20 (-num / den) else 0

/-! ### The DACs (R76, R100, R101) -/

/-- R76 (03): the accumulator of slot `k`'s oscillator at an instant. -/
def State.nco (s : State) (k : Nat) (at_ : Nat) : Nat :=
  let off := signed 20 (s.rd (Reg.PSY_SLOT_OFFSET k))
  let step : Int := if off < 0 then 2500000 + off else off
  let n : Int := ((at_ - s.psy.ncoFrom.getD k 0) / subTick : Nat)
  ((n * step) % 2500000).toNat

/-- R303 (10): a restart pluck's gate is open at an instant, and the tab's probes are left out. -/
def State.tabMuted (s : State) (at_ : Nat) : Bool :=
  s.psq.pluck.any (fun p => p.restart && decide (p.gateAt ≤ at_) && decide (at_ < p.closeAt))

/-- R100 (03): acc_i and acc_q at an instant. -/
def State.dacSum (s : State) (at_ : Nat) : Int × Int :=
  s.psq.probes.foldl (fun a p =>
    if at_ < p.fireAt || p.endAt ≤ at_ || (!p.pluck && s.tabMuted at_) then a
    else
      let i := (at_ - p.fireAt) / subTick
      let ph := (s.nco p.slot at_ * 2 ^ 20 / 2500000 + p.chirp i + p.phase * 16) % 2 ^ 20
      let env : Int := p.amp * p.window i / 65536 * p.scale / 256
      (a.1 + env * (Config.cosQ15 ph).toInt / 2 ^ 18, a.2 + env * (Config.sinQ15 ph).toInt / 2 ^ 18)) (0, 0)

/-- R100 (03): the DAC sample at an instant, and whether it saturated anywhere. -/
def State.dacSample (s : State) (at_ : Nat) : (Int × Int) × Bool :=
  let a := s.dacSum at_
  let q := signed 16 (s.rd Reg.PSY_IQ_PHASE_Q)
  let g : Int := s.rd Reg.PSY_IQ_GAIN_Q
  let x := g * a.2 / 2 ^ 15 + q * a.1 / 2 ^ 15
  let i14 := clampS 14 a.1
  let q14 := clampS 14 x
  let di := i14 + signed 14 (s.rd Reg.PSY_DC_DC_I)
  let dq := q14 + signed 14 (s.rd Reg.PSY_DC_DC_Q)
  ((clampS 14 di, clampS 14 dq), i14 != a.1 || q14 != x || clampS 14 di != di || clampS 14 dq != dq)

/-- CLIP (R100): the DAC samples up to the present that saturated are counted. -/
def State.clipToNow (s : State) : State :=
  let s' := s.mapPsy (fun p => { p with dacFrom := s.now / subTick * subTick })
  if s.psq.probes.isEmpty || !s.on Reg.PSY_OUT_DAC_EN then s'
  else
    let first := s.psq.probes.foldl (fun a p => min a p.fireAt) s.now
    let lo := (max s.psy.dacFrom first + subTick - 1) / subTick
    let n := ((List.range (s.now / subTick - lo)).filter (fun i => (s.dacSample ((lo + i) * subTick)).2)).length
    (List.range n).foldl (fun s _ => (s.event [Reg.PSY_STAT_CLIP]).bump Reg.PSY_CLIP_CNT_COUNT) s'

/-- RETUNE_APPLY (R67, R76, R97): the Retune that is due; the samples before it are those of the former tuning. -/
def State.tuneIfDue (s : State) : State := if s.chp.retuneDue.isSome then s.clipToNow.retuneIfDue else s

/-! ### Issuing a tab instruction (R81) -/

/-- R81 (03): the fields of each opcode, as a mask; none: the opcode is undefined. -/
def tabMask (op : Nat) : Option Nat :=
  match op with
  | 0x00 => some 0
  | 0x01 => some 0xFFFFF
  | 0x02 => some 0xFFFFF
  | 0x04 => some 0x3FF0000
  | 0x05 => some 0x7FFFF
  | 0x06 => some 0x70000
  | 0x08 => some 0xF
  | 0x10 => some 0x3FFFF
  | 0x11 => some 0x30FFF
  | 0x12 => some 0xFFF
  | 0x18 => some 0xFF
  | 0x3F => some 1
  | _ => none

/-- R82 (03): the word is a defined encoding. -/
def tabDefined (w : Nat) : Bool :=
  match tabMask (w / 2 ^ 26) with
  | some m => (BitVec.ofNat 26 w &&& ~~~(BitVec.ofNat 26 m)) == 0
  | none => false

/-- The word at PSQ's program counter. -/
def State.tabWord (s : State) : Nat := s.memWord (tabBase + 4 * s.psq.pc)

/-- R81 (03): an instruction whose operands fit their fields issues at its tick, after a Retune that is due has switched the tab,
if the word fetched is the one that it encodes; else nothing happens. -/
def State.tabStep (s : State) (fits : Bool) (w : Nat) (f : State → State) : State :=
  if !fits then s
  else match s.nextFetch with
  | none => s
  | some t =>
    let s := (s.atT t).tuneIfDue
    if s.psq.state = .running && s.tabWord = w then f s else s

/-- The next instruction in order issues `n` ticks on. -/
def State.tabNext (s : State) (n : Nat) : State :=
  s.mapPsq (fun p => { p with pc := (p.pc + 1) % 4096, issue := p.issue + n })

/-- A branch to `a`, one tick on. -/
def State.tabBranch (s : State) (a : Nat) : State := s.mapPsq (fun p => { p with pc := a, issue := p.issue + 1 })

/-- R74 (03): the pin instant of an instruction that issues now, at a sub-tick. -/
def State.pinAt (s : State) (sub : Nat) : Nat := s.psq.tick0 + (s.psq.issue + 64) * tick + sub * subTick

/-- R73 (03): the instant of the first tick that starts at or after `t`, on the tab clock. -/
def tickUp (t : Nat) : Nat := (t + tick - 1) / tick * tick

/-! ### Looks (R75, R84, R98) -/

/-- R98 (03): the union of two spans. -/
def joinSpan (a : Option (Nat × Nat)) (lo hi : Nat) : Option (Nat × Nat) :=
  match a with
  | none => some (lo, hi)
  | some (x, y) => some (min x lo, max y hi)

/-- R98 (03): the look's offset lies within 100 MHz of a new probe's, and it is not the same slot at the same offset. -/
def Look.collides (l : Look) (slot : Nat) (off : Int) : Bool :=
  decide ((off - l.offset).natAbs < 100000) && (l.slot != slot || l.offset != off)

/-- FIRE (R84, R98): a probe starts and its look opens; in the first sweep of a Retune the looks of the sweep before that
collide are marked with it. -/
def State.openLook (s : State) (slot shape sub : Nat) : State :=
  let pin := s.pinAt sub
  let off := signed 20 (s.rd (Reg.PSY_SLOT_OFFSET slot))
  let hit (l : Look) : Bool := !l.pluck && l.sweep + 1 == s.sweep && decide (pin < l.windowEnd) && l.collides slot off
  let atRetune := s.rd Reg.CHP_APPLY_CNT_COUNT != 0 && s.rd Reg.CHP_LAST_APPLY_SWEEP == s.sweep
  let hits := if atRetune then s.psq.looks.filter hit else []
  let look : Look :=
    { sweep := s.sweep, slot := slot, shape := shape, pat := s.psq.pat, fireT := s.psq.issue * 8 + sub
      darkAt := if s.guards.darkSince.isSome then some s.now else none, late := s.psq.late, fireAt := pin
      windowEnd := pin + s.psq.period * tick, emitEnd := pin + shapeSamples s.mems.act shape * subTick, offset := off
      collided := hits.foldl (fun c l => joinSpan c pin l.windowEnd) none }
  let s := s.mapPsq (fun p => { p with
    probes := p.probes ++ [s.probe slot shape 256 pin false]
    fired := p.fired ++ [slot]
    looks := p.looks.map (fun l =>
      if atRetune && hit l then { l with collided := joinSpan l.collided pin l.windowEnd } else l) ++ [look] })
  let s := s.bump (Reg.PSQ_FIRE_CNT_COUNT slot)
  if hits.isEmpty then s else (s.event [Reg.PSQ_STAT_COLLIDE]).bump Reg.PSQ_COLLIDE_CNT

/-! ### The sweep boundary (R88 to R90) -/

/-- R299 (10): the sweep that has ended counts for a learning of its pattern, if the light was there throughout. -/
def State.learnSweep (s : State) : State :=
  match s.guards.lastBoundary, s.guards.inSweep with
  | some b, true =>
    [GuardId.a, GuardId.b].foldl (fun s g => s.mapGuard g (fun x => { x with
      learning := x.learning.map (fun l =>
        if l.pat = b.2.1 then
          { l with left := if l.dark then l.left else l.left - 1, dark := s.guards.darkSince.isSome }
        else l) })) s
  | _, _ => s

/-- R116, R128, R132, R168, R186, R255: what a new sweep brings in the other blocks. -/
def State.sweepBegins (s : State) (inst : Nat) : State :=
  let n := s.sweep
  let s := match s.src.fNext with
    | some f => (s.wr Reg.SRC_DERATE_NOW_F f).mapSrc (fun x => { x with fNext := none })
    | none => s
  let s := s.mapOcc (fun o => { o with sinceLatch := o.sinceLatch + 1 })
  let s := if s.occ.resendDue then s.occStart .afterRetune else s
  let s := if s.phs.reseatDue then
      (s.mapPhs (fun p => { p with
        pos := [], reseatAt := some n, reseatDue := false, restarting := false })).event [Reg.PHS_STAT_RESEAT]
    else s
  let s := s.mapPfl (fun p => { p with
    resetAtSweep := if p.resetAtBoundary then some n else p.resetAtSweep, resetAtBoundary := false })
  let s := s.mapRef (fun r => { r with sweeps := r.sweeps + 1 })
  s.mapZon (fun z => { z with stepDue := some inst, boundTime := s.devTime })

/-- R66 (02): the Retune that is armed is due at a boundary that starts sweep `n` at `inst`. -/
def State.retuneIsDue (s : State) (n inst : Nat) : Bool :=
  s.chp.stage = .pending && match s.chp.armed with
    | some (.next nb) => decide (nb ≤ inst)
    | some (.atSweep m) => decide (m ≤ n)
    | none => false

/-- SWEEP_BOUNDARY (R73, R88, R90, R94): the boundary for the SWB that waits is taken at `inst`: the sweep that ends gives its
looks NO_RAMAN, a halt at the SWB stops the tab, and otherwise the next sweep begins. -/
def State.takeBoundary (s : State) (w : SwbWait) (inst : Nat) : State :=
  let sw := s.sweep
  let s := s.mapPsq (fun p => { p with
    looks := p.looks.map (fun l => if l.sweep = sw && !l.pluck && !p.raman then { l with noRaman := true } else l) })
  let s := s.learnSweep
  match s.psq.haltAtSwb with
  | some c => s.haltTab c false
  | none =>
    let n := (sw + 1) % 2 ^ 48
    let due := s.retuneIsDue n inst
    let s := s.wr Reg.PSQ_SWEEP_SWEEP n
    let s := s.mapPsq (fun p => { p with
      tick0 := inst, issue := 0, pc := (p.pc + 1) % 4096, first := false, wait := none, pat := w.pat, late := false
      raman := false, fired := [], syncEdge := none
      syncOutAt := if s.rd Reg.PSQ_SYNC_MODE = 1 then some (inst + 64 * tick) else none })
    let s := s.mapGuards (fun g => { g with lastBoundary := some (inst, w.pat, s.psq.period, n), inSweep := true })
    let s := if due then s.mapChp (fun c => { c with retuneDue := some inst }) else s
    s.sweepBegins inst

/-- R90 (03): the follower's SWB waits for a SYNC_IN edge. -/
def State.following (s : State) : Bool := s.rd Reg.PSQ_SYNC_MODE == 2

/-- The instant at which a boundary whose SWB waits for the timer is taken: a halt at the SWB waits for PERIOD (R94). -/
def State.boundaryAt (s : State) (w : SwbWait) : Nat :=
  s.psq.tick0 + (if s.psq.haltAtSwb.isSome then max w.tick s.psq.period else w.tick) * tick

/-! ### Plucks (R102, R103, R303) -/

/-- R103 (03): a pluck's gate opens at the first tick from now on, and its probe and the closing follow; the pin events come
64 ticks later (R74). -/
def State.beginPluck (s : State) (slot shape scale : Nat) (restart : Bool) : State :=
  let gate := tickUp s.now + 64 * tick
  let fire := gate + s.rd Reg.PSQ_PLUCK_GATE_LEAD * tick
  let stop := fire + shapeSamples s.mems.act shape * subTick
  s.mapPsq (fun p => { p with pluck := some {
    slot := slot, shape := shape, scale := scale, gateAt := gate, fireAt := fire
    closeAt := stop + s.rd Reg.PSQ_PLUCK_GATE_TAIL * tick
    windowEnd := fire + s.rd Reg.PSQ_PERIOD_TICKS * tick, restart := restart } })

/-- R102, R306: the code that refuses a user's pluck; 0: none does. -/
def State.pluckCode (s : State) (slot shape scale : Nat) : Nat :=
  if s.psq.state = .running then 1
  else if s.chp.mode != .service && s.chp.mode != .test then 2
  else if s.chp.safe then 3
  else if !s.on (Reg.PSY_SLOT_EN slot) then 4
  else if s.psq.pluck.isSome then 5
  else if s.gda.state != .armed || s.gdb.state != .armed then 6
  else if scale = 0 || shapeBad s.mems.act shape then 7
  else 0

/-- PLUCK_FIRE (R103): the pluck's probe fires and its look opens with PAT 15 and the PLUCK flag. -/
def State.firePluck (s : State) (k : Pluck) : State :=
  let look : Look :=
    { sweep := s.sweep, slot := k.slot, shape := k.shape, pat := 15
      fireT := (k.fireAt - 64 * tick - s.psq.tick0) / subTick % 2 ^ 23, pluck := true, fireAt := k.fireAt
      windowEnd := k.windowEnd, emitEnd := k.fireAt + shapeSamples s.mems.act k.shape * subTick
      offset := signed 20 (s.rd (Reg.PSY_SLOT_OFFSET k.slot)) }
  let s := s.mapPsq (fun p => { p with
    probes := p.probes ++ [s.probe k.slot k.shape k.scale k.fireAt true], looks := p.looks ++ [look]
    pluck := some { k with fired := true } })
  s.bump (Reg.PSQ_FIRE_CNT_COUNT k.slot)

/-- R84 (03): the earliest probe of a slot whose last sample has been emitted is over. -/
def dropProbe (ps : List Probe) (slot now : Nat) : List Probe :=
  ps.eraseP (fun p => p.slot == slot && decide (p.endAt ≤ now))

end Sys2Proof.Machine
end

