-- ==== Sys2Proof/Machine/TabCheck.lean ====
section
/-! DEFINITION. The consistency checks CK02 to CK13 over the stage bank (R63, 02; R77, R80, R82, R89, R91, 03; R113, R125, 04;
R135, R154, R158, 05): each answers the ITEM of its first failure. -/

namespace Sys2Proof.Machine

/-- The staged word at tab address `a`. -/
def State.stageTab (s : State) (a : Nat) : Nat := (Store.word s.mems.stage (tabBase + 4 * a)).toNat

/-- R82 (03): LEN of the staged tab. -/
def State.stageLen (s : State) : Nat := s.rdStage Reg.PSQ_TABLEN_LEN

/-- R82 (03): where the instruction `w` at `a` can pass control. -/
def tabSucc (w a : Nat) : List Nat :=
  match w / 2 ^ 26 with
  | 0x12 => [w % 2 ^ 12]
  | 0x11 => [w % 2 ^ 12, a + 1]
  | 0x3F => []
  | _ => [a + 1]

/-- The nodes that can be reached from `todo`, below `n`, with `fuel` steps of a depth-first search. -/
def reach (succ : Nat → List Nat) (n fuel : Nat) (todo seen : List Nat) : List Nat :=
  match fuel with
  | 0 => seen
  | fuel + 1 =>
    match todo with
    | [] => seen
    | a :: r => if n ≤ a || seen.contains a then reach succ n fuel r seen else reach succ n fuel (succ a ++ r) (a :: seen)

/-- The SWBs of the staged tab: address and PAT, rising. -/
def State.stageSwbs (s : State) : List (Nat × Nat) :=
  (List.range s.stageLen).filterMap (fun a =>
    let w := s.stageTab a
    if w / 2 ^ 26 = 8 then some (a, w % 16) else none)

/-- CK02 (R82). -/
def State.ck02 (s : State) : Option Nat :=
  let n := s.stageLen
  if 4096 < n then some 4096
  else
    let bad := (List.range n).find? (fun a => !tabDefined (s.stageTab a))
    let far := (List.range n).find? (fun a =>
      let w := s.stageTab a
      (w / 2 ^ 26 == 0x11 || w / 2 ^ 26 == 0x12) && decide (n ≤ w % 2 ^ 12))
    let e1 := s.rdStage Reg.PSQ_ENTRY_START
    let e2 := s.rdStage Reg.PSQ_ENTRY_RESUME
    let lo := min e1 e2
    let hi := max e1 e2
    let entry := if n ≤ lo then some lo else if n ≤ hi then some hi else none
    let live := reach (fun a => tabSucc (s.stageTab a) a) n (4 * n + 8) (e1 :: e2 :: s.stageSwbs.map (fun x => x.1 + 1)) []
    let last := s.stageTab (n - 1) / 2 ^ 26
    let off := if live.contains (n - 1) && last != 0x12 && last != 0x3F then some (n - 1) else none
    bad.or (far.or (entry.or off))

/-- R91 (03): a FIRE on a path: its address, and what it fires: slot, shape, tick and sub-tick. -/
structure PathFire where
  addr : Nat
  slot : Nat
  shape : Nat
  tick : Nat
  sub : Nat
  deriving DecidableEq, Repr

/-- R91 (03): a path: its FIREs, the address of the SWB or HALT that ends it, and whether that is a HALT with B = 0. -/
structure TabPath where
  fires : List PathFire
  stop : Nat
  halt0 : Bool
  deriving DecidableEq, Repr

/-- R91 (03): the paths of the tab from `a`, whose first instruction issues at tick `u`; `fuel` bounds their length. -/
def State.tabPaths (s : State) (fuel a u : Nat) (fires : List PathFire) : List TabPath :=
  match fuel with
  | 0 => []
  | fuel + 1 =>
    let w := s.stageTab a
    match w / 2 ^ 26 with
    | 0x08 => [{ fires := fires, stop := a, halt0 := false }]
    | 0x3F => [{ fires := fires, stop := a, halt0 := w % 2 == 0 }]
    | 0x01 => s.tabPaths fuel (a + 1) (u + max (w % 2 ^ 20) 1) fires
    | 0x02 => s.tabPaths fuel (a + 1) (max (w % 2 ^ 20) (u + 1)) fires
    | 0x04 =>
      s.tabPaths fuel (a + 1) (u + 1) (fires ++ [{
        addr := a, slot := w / 2 ^ 23 % 8, shape := w / 2 ^ 19 % 16, tick := u, sub := w / 2 ^ 16 % 8 }])
    | 0x11 => s.tabPaths fuel (w % 2 ^ 12) (u + 1) fires ++ s.tabPaths fuel (a + 1) (u + 1) fires
    | 0x12 => s.tabPaths fuel (w % 2 ^ 12) (u + 1) fires
    | _ => s.tabPaths fuel (a + 1) (u + 1) fires

/-- The slots whose staged EN is 1. -/
def State.stageSlots (s : State) : List Nat := (List.range 8).filter (fun k => s.rdStage (Reg.PSY_SLOT_EN k) == 1)

/-- R91 (03): the addresses at which a path of a sweep breaks the exactly-once rule for the active slots. -/
def TabPath.onceBad (p : TabPath) (active : List Nat) : List Nat :=
  if p.halt0 then []
  else
    active.flatMap (fun k =>
      match p.fires.filter (fun f => f.slot == k) with
      | [] => [p.stop]
      | [_] => []
      | _ :: f :: _ => [f.addr])

/-- R91 (03): the addresses at which two paths of one PAT differ. -/
def pathsDiffer (a b : List PathFire) (sa sb : Nat) : List Nat :=
  match a, b with
  | [], [] => []
  | [], _ :: _ => [sa]
  | _ :: _, [] => [sb]
  | x :: r, y :: q =>
    if x.slot = y.slot && x.shape = y.shape && x.tick = y.tick && x.sub = y.sub then pathsDiffer r q sa sb
    else [x.addr, y.addr]

/-- The least of a list. -/
def leastOf (xs : List Nat) : Option Nat :=
  match xs with
  | [] => none
  | x :: r => some (r.foldl min x)

/-- CK03 (R91). -/
def State.ck03 (s : State) : Option Nat :=
  let n := s.stageLen
  let succ (a : Nat) : List Nat := if s.stageTab a / 2 ^ 26 = 8 then [] else tabSucc (s.stageTab a) a
  match (List.range n).find? (fun a => (reach succ n (4 * n + 8) (succ a) []).contains a) with
  | some a => some a
  | none =>
    let active := s.stageSlots
    let start := s.tabPaths (n + 1) (s.rdStage Reg.PSQ_ENTRY_START) 0 []
    let resume := s.tabPaths (n + 1) (s.rdStage Reg.PSQ_ENTRY_RESUME) 0 []
    let ofPat := s.stageSwbs.map (fun x => (x.2, s.tabPaths (n + 1) (x.1 + 1) 0 []))
    let once := (resume ++ ofPat.flatMap (fun x => x.2)).flatMap (fun p => p.onceBad active)
    let pats := (List.range 16).flatMap (fun k =>
      let ps := (ofPat.filter (fun x => x.1 == k)).flatMap (fun x => x.2)
      ps.flatMap (fun p => ps.flatMap (fun q => pathsDiffer p.fires q.fires p.stop q.stop)))
    leastOf (start.flatMap (fun p => p.fires.map (fun f => f.addr)) ++ once ++ pats)

/-- CK04 (R89): PERIOD × 3.2 ns < END × 10 ns + 2 000 ns. -/
def State.ck04 (s : State) : Option Nat :=
  if s.rdStage Reg.PSQ_PERIOD_TICKS * 3200 < s.rdStage Reg.PHS_RANGE_END * 10000 + 2000000 then some 0 else none

/-- CK05 (R135). -/
def State.ck05 (s : State) : Option Nat :=
  if s.rdStage Reg.PHS_RANGE_END < s.rdStage Reg.PHS_RANGE_CAPO then some 0 else none

/-- The staged offset of a slot in kHz. -/
def State.stageOffset (s : State) (k : Nat) : Int := signed 20 (s.rdStage (Reg.PSY_SLOT_OFFSET k))

/-- CK06 (R77). -/
def State.ck06 (s : State) : Option Nat := s.stageSlots.find? (fun k => decide (500000 < (s.stageOffset k).natAbs))

/-- CK07 (R77): the lower slot of the first pair. -/
def State.ck07 (s : State) : Option Nat :=
  s.stageSlots.find? (fun j => s.stageSlots.any (fun k =>
    decide (j < k) && decide ((s.stageOffset j - s.stageOffset k).natAbs < 100000)))

/-- The slots and shapes that the staged tab fires. -/
def State.stageFires (s : State) : List (Nat × Nat) := firePairs s.mems.stage s.stageLen

/-- CK08 (R80). -/
def State.ck08 (s : State) : Option Nat :=
  (List.range 16).find? (fun k => s.stageFires.any (fun f => f.2 == k) && shapeBad s.mems.stage k)

/-- CK09 (R158). -/
def State.ck09 (s : State) : Option Nat :=
  let g := s.rdStage Reg.PHS_GAUGE_G
  if g = 0 || 128 < g then some 0 else none

/-- R154 (05): a slot's cost per output, a fraction: 0 where it fires no chirp, none where it is unbounded; `m` is the shape
memory, `fires` the slots and shapes of the tab, `code` the slot's NFFT. -/
def pcmCost (m : List Host.Cell) (fires : List (Nat × Nat)) (code k : Nat) : Option (Nat × Nat) :=
  let lens := (fires.filter (fun f => f.1 == k && (shapeKind m f.2 == 1 || shapeKind m f.2 == 2))).map (fun f =>
    shapeWord m f.2 8 % 2 ^ 11)
  match lens with
  | [] => some (0, 1)
  | _ =>
    let len := lens.foldl max 0
    let n := 2 ^ (10 + code)
    if n ≤ len then none else some (n * (10 + code) + n, n - len + 1)

/-- A sum of fractions; none where a part is unbounded. -/
def sumCosts (xs : List (Option (Nat × Nat))) : Option (Nat × Nat) :=
  xs.foldl (fun a x => match a, x with
    | some (p, q), some (u, v) => some (p * v + u * q, q * v)
    | _, _ => none) (some (0, 1))

/-- CK10 (R154): 2 × 100 M × the cost exceeds 32 G, or an NFFT code is 3. -/
def State.ck10 (s : State) : Option Nat :=
  let code (k : Nat) : Nat := s.rdStage (Reg.PCM_SLOT_NFFT k)
  if (List.range 8).any (fun k => code k == 3) then some 0
  else
    match sumCosts (s.stageSlots.map (fun k => pcmCost s.mems.stage s.stageFires (code k) k)) with
    | none => some 0
    | some (p, q) => if 160 * q < p then some 0 else none

/-- CK11: a PAT of an SWB whose bit is clear in a staged PVALID. -/
def State.ck11 (s : State) : Option Nat :=
  let v := s.rdStage Reg.GDA_PVALID_VALID
  let w := s.rdStage Reg.GDB_PVALID_VALID
  (List.range 16).find? (fun p => s.stageSwbs.any (fun x => x.2 == p) && !(v / 2 ^ p % 2 == 1 && w / 2 ^ p % 2 == 1))

/-- CK12 (R113). -/
def State.ck12 (s : State) : Option Nat :=
  (List.range 5).find? (fun k =>
    decide (s.rd (Reg.SRC_STG_SEAL_ISET_MAX k) < s.rdStage (Reg.SRC_STG_ISET_ISET k))
      || decide (s.rd (Reg.SRC_STG_SEAL_ILIM_MAX k) < s.rdStage (Reg.SRC_STG_LIM_ILIM k))
      || decide (s.rd (Reg.SRC_STG_SEAL_DMAX_MAX k) < s.rdStage (Reg.SRC_STG_LIM_DMAX k)))

/-- CK13 (R125). -/
def State.ck13 (s : State) : Option Nat := if 32 < s.rdStage Reg.OCC_CTL_LEN then some 0 else none

/-- R154 (05): PCM.LOAD of the active tuning, in millions of complex multiplies per second, its register's range holding it. -/
def State.pcmLoad (s : State) : Nat :=
  let fires := firePairs s.mems.act (s.rd Reg.PSQ_TABLEN_LEN)
  match sumCosts (s.activeSlots.map (fun k => pcmCost s.mems.act fires (s.rd (Reg.PCM_SLOT_NFFT k)) k)) with
  | none => 0xFFFF
  | some (p, q) => min 0xFFFF (200 * p / max 1 q)

end Sys2Proof.Machine
end

