-- ==== Sys2Proof/Machine/Source.lean ====
section
/-! DEFINITION. The rows of SRC and OCC (04): the drive stages' carrier periods, diagnosis and derating, and the optics control
chain. -/

namespace Sys2Proof.Machine

/-- Stage `k`; out of range: one that is off. -/
def State.stg (s : State) (k : Nat) : SrcStage := s.src.stages.getD k {}

/-- Stage `k` changed by `f`. -/
def State.mapStg (s : State) (k : Nat) (f : SrcStage → SrcStage) : State :=
  s.mapSrc (fun x => { x with stages := modAt x.stages k f })

/-- R107 (04): stage `k` may switch. -/
def State.stageMay (s : State) (k : Nat) : Bool :=
  s.on (Reg.SRC_STG_CTL_EN k) && (s.stg k).fault == .none && !s.chp.safe && s.stageEnabled k
    && (s.chp.mode == .service || s.chp.mode == .test || (k == 4 && s.chp.mode == .prep))

/-- SRC.STGk_STATE.STATE (R107, R120): before its first window has ended a stage that runs is in RAMP (log entry 20). -/
def State.stageRun (s : State) (k : Nat) : StageRun :=
  let x := s.stg k
  if x.fault != .none then .fault
  else if !s.on (Reg.SRC_STG_CTL_EN k) then .off
  else if !x.running || !s.stageMay k then .disabled
  else if !x.winEnded then .ramp
  else if x.proven then .healthy
  else .blind

/-- R109 (04): the carrier period in steps. -/
def State.carrierPer (s : State) (k : Nat) : Nat := max 1250 (min 10000 (s.rd (Reg.SRC_STG_CARRIER_PER k)))

/-- R109 (04): the level resolution. -/
def State.carrierBits (s : State) (k : Nat) : Nat := max 8 (min 16 (s.rd (Reg.SRC_STG_CTL_BITS k)))

/-- R115, R116 (04): the target setpoint, derated. -/
def State.stageTarget (s : State) (k : Nat) : Nat :=
  let raw := if s.rd (Reg.SRC_STG_CTL_MODE k) = 1 then s.rd (Reg.SRC_STG_ISET_ISET k)
    else s.rd (Reg.SRC_STG_LEVEL_LEVEL k) % 2 ^ s.carrierBits k
  if s.rd Reg.SRC_DERATE_CFG_STAGES / 2 ^ k % 2 = 1 then raw * s.rd Reg.SRC_DERATE_NOW_F / 256 else raw

/-- R115 (04): one step of the ramp. -/
def rampTo (now target step : Nat) : Nat :=
  if now < target then min target (now + step) else max target (now - step)

/-- R193, R122: the instant at which the APD stage was last not HEALTHY. -/
def State.noteApd (s : State) : State :=
  if s.stageRun 4 = .healthy then s else s.mapRmx (fun r => { r with apdAt := some s.now })

/-- STAGE_FAULT (R122): a stage enters its fault state. -/
def State.stageFault (s : State) (k : Nat) (f : StageFault) : State :=
  let s := s.mapStg k (fun x => { x.stopped with fault := f })
  let s := (s.bump (Reg.SRC_STG_FAULT_CNT k)).event [Reg.SRC_STAT_FAULT.bit k]
  if k < 4 then s.trip .b .stage
  else ((s.event [Reg.GDB_STAT_APD_FAULT]).bump Reg.GDB_APD_CNT).noteApd

/-- R120 (04): a window of 1 024 periods ends. -/
def State.windowEnds (s : State) (k : Nat) : State :=
  let x := s.stg k
  let was := s.stageRun k
  let s := s.wr (Reg.SRC_STG_MEAS_CURRENT k) (x.curSum / max 1 x.curCount)
  let s := s.wr (Reg.SRC_STG_MEAS_DUTY k) (min 0xFFFF (x.dutySum * 65536 / max 1 x.dutyTotal))
  let s := s.mapStg k (fun x => { x with
    proven := x.winProven, winEnded := true, winProven := false, winCount := 0
    curSum := 0, curCount := 0, dutySum := 0, dutyTotal := 0 })
  let s := if s.stageRun k = .blind && was != .blind then s.event [Reg.SRC_STAT_BLIND] else s
  if k = 4 && was != .healthy then s.mapRmx (fun r => { r with apdAt := some s.now }) else if k = 4 then s.noteApd else s

/-- R108, R110 (04): a stage that starts: counters, e and debt are clear. -/
def SrcStage.started (x : SrcStage) : SrcStage := { fault := x.fault, running := true }

/-- R111 (04): the loop's accumulator after a period with the sensed value `sense`. -/
def loopAcc (x : SrcStage) (bits ki iset sense : Nat) : Nat :=
  if 125 ≤ x.onTime && !x.proof && x.cut = 0 then
    let a : Int := (x.acc : Int) + ((iset : Int) - sense) * ki
    (max 0 (min a ((2 ^ (bits + 8) - 1 : Nat) : Int))).toNat
  else x.acc

/-- CARRIER_PERIOD_START (R110 to R115, R119): the period's on-time. `sense` is the sense ADC's midpoint sample of the period
that has ended. -/
def State.carrierPeriod (s : State) (k sense at_ : Nat) : State :=
  let s := if (s.stg k).running && 1024 ≤ (s.stg k).winCount then s.windowEnds k else s
  let x := s.stg k
  let per := s.carrierPer k
  let bits := s.carrierBits k
  let x := if x.running then
      { x with
        curSum := if x.onTime = 0 then x.curSum else x.curSum + sense
        curCount := if x.onTime = 0 then x.curCount else x.curCount + 1
        dutySum := x.dutySum + x.onTime, dutyTotal := x.dutyTotal + x.per
        ilimRun := if x.ilimHit then x.ilimRun else 0 }
    else { x.started with per := per, bits := bits }
  let x := if x.per = per && x.bits = bits then x else
    { x with e := 0, debt := 0, winCount := 0, winLong := false, winProven := false }
  let sp := rampTo x.setpoint (s.stageTarget k) (max 1 (s.rd (Reg.SRC_STG_ISET_RAMP k)))
  let current := s.rd (Reg.SRC_STG_CTL_MODE k) = 1
  let acc := if current then loopAcc x bits (s.rd (Reg.SRC_STG_ISET_KI k)) sp sense else x.acc
  let lvl := if current then acc / 256 else sp
  let raw := lvl * per + x.e
  let nat := raw / 2 ^ bits
  let due := s.on (Reg.SRC_STG_CTL_PROOF_EN k) && x.winCount = 0 && !x.winLong && x.debt = 0
    && decide (625 * 2 ^ bits ≤ lvl * per * 1024)
  let pay := min nat x.debt
  let t := if due then 625 else nat - pay
  let dmax := s.rd (Reg.SRC_STG_LIM_DMAX k) * per / 65536
  let on_ := if due then t else min t dmax
  let s := if due then s.bump (Reg.SRC_STG_PROOF_CNT k) else s
  s.mapStg k (fun _ => { x with
    e := raw % 2 ^ bits, debt := if due then x.debt + (625 - nat) else x.debt - pay
    acc := acc, lvl := lvl, setpoint := sp, onTime := on_, proof := due, cut := nat - on_, periodAt := at_
    per := per, bits := bits, ilimHit := false, winCount := x.winCount + 1
    winLong := (x.winLong && x.winCount != 0) || (!due && decide (625 ≤ on_)) })

/-- CARRIER_PERIOD_START, R110. -/
def execCarrierPeriodStart (k : Nat) (sense : Nat) (t : Instant) (s : State) : Host.Outcome State Fault Refusal :=
  let s := s.atT t
  let x := s.stg k
  if 4 < k then .next s
  else if !s.stageMay k then
    let s := s.mapStg k SrcStage.stopped
    .next (if k = 4 then s.noteApd else s)
  else if x.running then
    let b := x.periodAt + x.per * subTick
    if b ≤ s.now then .next (s.carrierPeriod k (sense % 4096) b) else .next s
  else .next (s.carrierPeriod k (sense % 4096) s.now)

/-- ILIM_TRIP, R112, R118: the comparator ends the on-time after `steps` steps. -/
def execIlimTrip (k : Nat) (steps : Nat) (t : Instant) (s : State) : Host.Outcome State Fault Refusal :=
  let s := s.atT t
  let x := s.stg k
  if x.running && steps < x.onTime then
    let s := s.bump (Reg.SRC_STG_ILIM_CNT k)
    let s := s.mapStg k (fun x => { x with
      onTime := steps, cut := x.cut + (x.onTime - steps), ilimHit := true, ilimRun := x.ilimRun + 1 })
    if 625 ≤ x.onTime && steps < 625 then .next (s.stageFault k .short)
    else if 16 ≤ x.ilimRun + 1 then .next (s.stageFault k .overcurrent)
    else .next s
  else .next s

/-- DIAG_SAMPLE, R118. -/
def execDiagSample (k : Nat) (current : Nat) (t : Instant) (s : State) : Host.Outcome State Fault Refusal :=
  let s := s.atT t
  let x := s.stg k
  if x.running && 625 ≤ x.onTime && x.periodAt + 625 * subTick ≤ s.now then
    if current < s.rd (Reg.SRC_STG_DIAG_OPEN_TH k) then .next (s.stageFault k .openLoad)
    else if s.rd (Reg.SRC_STG_DIAG_SHORT_TH k) < current then .next (s.stageFault k .short)
    else .next (s.mapStg k (fun x => { x with winProven := true }))
  else .next s

/-- PROOF_WINDOW_END, R120. -/
def execProofWindowEnd (k : Nat) (t : Instant) (s : State) : Host.Outcome State Fault Refusal :=
  let s := s.atT t
  let x := s.stg k
  if x.running && 1024 ≤ x.winCount && x.periodAt + x.per * subTick ≤ s.now then .next (s.windowEnds k) else .next s

/-- R123 (04): CLR. -/
def State.clearFault (s : State) (k : Nat) : State :=
  if (s.stg k).fault = .none then s else s.mapStg k (fun x => { x.stopped with fault := .none })

/-- CLR, R123: a fault state clears, and the stage restarts under its ramp; without a fault it has no effect. -/
def execClr (m : Master) (k : Nat) (t : Instant) (s : State) : Host.Outcome State Fault Refusal :=
  .next ((s.atT t).strobe m .src none false (fun s => s.clearFault k))

/-! ### Derating (R116, R117) -/

/-- R116, R117 (04): the factor for a temperature in 1/64 °C; none: the result is invalid. -/
def State.derateOf (s : State) (lin : Option Int) : Nat :=
  let least := min 256 (s.rd Reg.SRC_DERATE_CFG_MIN_FRAC)
  let a := signed 16 (s.rd Reg.SRC_DERATE_T_T_START)
  let b := signed 16 (s.rd Reg.SRC_DERATE_T_T_END)
  match lin with
  | none => least
  | some x =>
    if x ≤ a then 256
    else if b ≤ x || b ≤ a then least
    else ((256 * (b - a) - (256 - (least : Int)) * (x - a)) / (b - a)).toNat

/-- DERATE_FACTOR (R116, R117): a new result of channel `c`, at once where no tab runs, else at the next boundary. -/
def State.derate (s : State) (c : Nat) (lin : Option Int) : State :=
  if s.rd Reg.SRC_DERATE_CFG_STAGES = 0 || s.rd Reg.SRC_DERATE_CFG_CH != c then s
  else
    let f := s.derateOf lin
    let s := if lin.isNone then s.eventStands [Reg.SRC_STAT_DERATE_INVALID] else s.causeGone [Reg.SRC_STAT_DERATE_INVALID]
    if s.psq.state = .running then s.mapSrc (fun x => { x with fNext := some f })
    else (s.wr Reg.SRC_DERATE_NOW_F f).mapSrc (fun x => { x with fNext := none })

/-! ### The optics control chain (R125 to R132) -/

/-- R129, R130 (04): the stage state keeps the chain for its preload. -/
def State.occKept (s : State) : Bool := s.chp.stage == .checked || s.chp.stage == .pending

/-- OCC_PRELOAD, R129: CHK has begun, and no frame is in progress: the staged image is shifted. -/
def execOccPreload (t : Instant) (s : State) : Host.Outcome State Fault Refusal :=
  let s := s.atT t
  if s.occ.preloadWanted && s.chp.stage = .checking && s.occ.shifting.isNone && !s.isolated .occ then
    if s.rdStage Reg.OCC_CTL_LEN = 0 then .next (s.mapOcc (fun o => { o with preloadWanted := false }))
    else .next ((s.occStart .preload).mapOcc (fun o => { o with preloadWanted := false }))
  else .next s

/-- R128, R130 (04): a live write's frame: held while the chain is kept, after the frame in progress, or at once. -/
def State.occLive (s : State) : State :=
  if s.occKept then (s.mapOcc (fun o => { o with held := true })).event [Reg.OCC_STAT_LIVE_HELD]
  else if s.chp.stage = .checking then s.mapOcc (fun o => { o with held := true })
  else if s.occLen = 0 then s
  else if s.occ.shifting.isSome then s.mapOcc (fun o => { o with liveWanted := true })
  else s.occStart .live

/-- R130 (04): a write of LIVE_VALw. -/
def State.liveValue (s : State) (w : Nat) (v : Word) : State :=
  if w < 16 then (s.wr (Reg.OCC_LIVE_VAL w) v.toNat).occLive else s

/-- OCC_LIVE_WRITE, R130. -/
def execOccLiveWrite (m : Master) (w : Nat) (v : Word) (t : Instant) (s : State) : Host.Outcome State Fault Refusal :=
  let _ := m
  .next ((s.atT t).strobe m .occ none false (fun s => s.liveValue w v))

/-- OCC_REFRESH, R128: REFRESH sweeps since the last latch; nothing else while the chain is kept. -/
def execOccRefresh (t : Instant) (s : State) : Host.Outcome State Fault Refusal :=
  let s := s.atT t
  let r := s.rd Reg.OCC_CTL_REFRESH
  if r != 0 && r ≤ s.occ.sinceLatch && s.occLen != 0 && !s.occKept && s.chp.stage != .checking && s.occ.verified.isNone then
    .next (s.occStart .refresh)
  else .next s

/-- R126 (04): the time that a frame of `n` drivers takes. -/
def State.occTime (s : State) (n : Nat) : Nat := 16 * (n + 1) * (s.rd Reg.OCC_CTL_DIV + 1) * 40000

/-- R127 (04): the returned contents of a mismatching frame, two drivers a word. -/
def State.occReturned (s : State) (xs : List (BitVec 16)) : State :=
  (List.range 16).foldl (fun s w =>
    s.wr (Reg.OCC_RB w) ((xs.getD (2 * w) 0).toNat + (xs.getD (2 * w + 1) 0).toNat * 2 ^ 16)) s

/-- OCC_FRAME_COMPLETE, R127: `marker`: the marker came back at its bit; `returned`: the contents that came back. A frame
whose contents and marker are right is verified; the first one after reset is not compared. -/
def execOccFrameComplete (marker : Bool) (returned : List (BitVec 16)) (t : Instant) (s : State) :
    Host.Outcome State Fault Refusal :=
  let s := s.atT t
  match s.occ.shifting with
  | none => .next s
  | some (k, frame) =>
    if s.now < s.occ.frameAt + s.occTime frame.length then .next s
    else
      let good := s.occ.shifted.all (fun x => x == returned)
      let s := (s.bump Reg.OCC_FRAME_CNT).mapOcc (fun o => { o with
        shifting := none, shifted := some frame, doneAt := s.now })
      if !marker then .next ((s.bump Reg.OCC_BREAK_CNT).blockFault .occ none 1 0)
      else if !good then
        let s := ((s.event [Reg.OCC_STAT_MISMATCH]).bump Reg.OCC_MISMATCH_CNT).occReturned returned
        let s := s.mapOcc (fun o => { o with streak := o.streak + 1, preloadWanted := k = .preload })
        if 3 ≤ s.occ.streak then .next (s.blockFault .occ none 2 0) else .next s
      else
        let s := s.mapOcc (fun o => { o with streak := 0, verified := some k })
        if s.occ.liveWanted && k != .preload then
          .next ((s.mapOcc (fun o => { o with liveWanted := false })).occLive)
        else .next s

/-- R128 (04): the instants at which a verified frame may be latched. -/
def State.mayLatch (s : State) (k : FrameKind) : Bool :=
  let quiet := s.psq.state != .running && decide (s.occ.doneAt + 4 * us ≤ s.now)
  if k = .preload then s.occ.retuned
  else quiet || (s.psq.state == .running && s.guards.lastBoundary.any (fun b => decide (s.occ.doneAt ≤ b.1)))

/-- OCC_LATCH, R128, R131, R132: the verified frame becomes the outputs. -/
def execOccLatch (t : Instant) (s : State) : Host.Outcome State Fault Refusal :=
  let s := s.atT t
  match s.occ.verified with
  | none => .next s
  | some k =>
    if s.mayLatch k then
      let late := s.occ.lateLatch && k = .afterRetune
      let s := s.mapOcc (fun o => { o with
        outputs := o.shifted.getD [], oe := true, verified := none, sinceLatch := 0, retuned := false
        lateLatch := o.lateLatch && k != .afterRetune })
      .next (s.event ([Reg.OCC_STAT_LATCHED] ++ if late then [Reg.OCC_STAT_LATE_LATCH] else []))
    else .next s

end Sys2Proof.Machine
end

