-- ==== Sys2Proof/Machine/Receiver.lean ====
section
/-! DEFINITION. The rows of CRX and CAL (05): the gain schedule with its working entries, and the calibrations. -/

namespace Sys2Proof.Machine

/-! ### The gain schedule (R136 to R141) -/

/-- R136 (05): the tuned code of a bin. -/
def State.tunedCode (s : State) (p : Pol) (bin : Nat) : Nat :=
  s.rd (Reg.CRX_SCHED_CODE ((if p = .x then 0 else 512) + bin / 8) (bin % 8))

/-- R137 (05): the working code of a bin. -/
def State.workingCode (s : State) (p : Pol) (bin : Nat) : Nat :=
  match s.crx.lowered.find? (fun l => l.pol == p && l.bin == bin) with
  | some l => if s.on Reg.CRX_CTL_AUTO then l.code else s.tunedCode p bin
  | none => s.tunedCode p bin

/-- R136 (05): the code in force. -/
def State.gainCode (s : State) (p : Pol) : Nat := if p = .x then s.crx.gx else s.crx.gy

/-- R138 (05): a code takes effect now; the samples that follow are settling samples. -/
def State.setGain (s : State) (p : Pol) (g : Nat) : State :=
  if g = s.gainCode p then s
  else
    let s := s.mapCrx (fun c => { c with
      gx := if p = .x then g else c.gx, gy := if p = .y then g else c.gy
      changes := ((p, s.now, if p = .x then c.gx else c.gy) :: c.changes).take 64 })
    (s.wr Reg.CRX_GAIN_NOW_GX s.crx.gx).wr Reg.CRX_GAIN_NOW_GY s.crx.gy

/-- R136 (05): the schedule bin of the present instant: the microsecond since the boundary of the last sweep. -/
def State.gainBin (s : State) : Option Nat := s.guards.lastBoundary.map (fun b => (s.now - b.1) / us)

/-- GAIN_BIN_START, R138. -/
def execGainBinStart (bin : Nat) (t : Instant) (s : State) : Host.Outcome State Fault Refusal :=
  let s := s.atT t
  if s.gainBin = some bin && bin < 4096 then
    .next ((s.setGain .x (s.workingCode .x bin)).setGain .y (s.workingCode .y bin))
  else .next s

/-- OVERLOAD_STEP_DOWN, R139: the fourth clipped sample of the bin on channel `ch`'s polarisation. -/
def execOverloadStepDown (ch : Nat) (t : Instant) (s : State) : Host.Outcome State Fault Refusal :=
  let s := s.atT t
  let p : Pol := if ch < 2 then .x else .y
  let g := s.gainCode p
  if s.on Reg.CRX_CTL_AUTO && g != 0 then
    let s := ((s.setGain p (g - 1)).bump Reg.CRX_DOWN_CNT).event [Reg.CRX_STAT_STEP_DOWN]
    match s.gainBin with
    | some b =>
      if b < 4096 then
        let e : LoweredBin := { pol := p, bin := b, code := s.workingCode p b - 1, clean := 0 }
        .next (s.mapCrx (fun c => { c with
          lowered := c.lowered.filter (fun l => !(l.pol == p && l.bin == b)) ++ [e] }))
      else .next s
    | none => .next s
  else .next s

/-- R140 (05): one working entry after a sweep boundary, and whether it has stepped up. -/
def stepUpEntry (l : LoweredBin) (clipped : Bool) : LoweredBin × Bool :=
  if clipped then ({ l with clean := 0 }, false)
  else if 63 ≤ l.clean then ({ l with code := l.code + 1, clean := 0 }, true)
  else ({ l with clean := l.clean + 1 }, false)

/-- GAIN_STEP_UP, R140: `clipped` names the bins of the sweep that ended with a clipped sample. -/
def execGainStepUp (clipped : List (Pol × Nat)) (t : Instant) (s : State) : Host.Outcome State Fault Refusal :=
  let s := s.atT t
  if s.on Reg.CRX_CTL_AUTO then
    let r := s.crx.lowered.map (fun l => stepUpEntry l (clipped.contains (l.pol, l.bin)))
    let n := (r.filter (fun x => x.2)).length
    let keep := (r.map (fun x => x.1)).filter (fun l => l.code < s.tunedCode l.pol l.bin)
    let s := s.mapCrx (fun c => { c with lowered := keep })
    .next ((List.range n).foldl (fun s _ => (s.bump Reg.CRX_UP_CNT).event [Reg.CRX_STAT_STEP_UP]) s)
  else .next s

/-! ### Calibration (R143 to R148) -/

/-- R144 (05): the time of a block of 2²⁰ samples. -/
def calBlock : Nat := 838860800

/-- R144 (05): a factor moves towards its estimate by an eighth of the difference, truncated. -/
def moveEighth (now est : Int) : Int := now + (est - now).tdiv 8

/-- A signed 16-bit field. -/
def State.rdS16 (s : State) (f : Field) : Int := signed 16 (s.rd f)

/-- R144 (05): channel `c`'s factors at the end of a qualifying block. -/
def State.calUpdate (s : State) (c : Nat) (off gain skew : List Int) : State :=
  let s := (List.range 8).foldl (fun s j =>
    let s := s.wr (Reg.CAL_OFF c j) (wrapN 16 (moveEighth (s.rdS16 (Reg.CAL_OFF c j)) (off.getD j 0)))
    let s := s.wr (Reg.CAL_GAIN c j) (wrapN 16 (moveEighth (s.rd (Reg.CAL_GAIN c j)) (gain.getD j 0)))
    s.wr (Reg.CAL_SKEW c j) (wrapN 16 (moveEighth (s.rdS16 (Reg.CAL_SKEW c j)) (skew.getD j 0)))) s
  (s.bump (Reg.CAL_UPD_CNT c)).wr (Reg.CAL_LAST_TIME c) s.devTime

/-- R144 (05): the block of channel `c` qualifies: few samples were skipped, the level (in 1/256 dBFS) lies in the window,
and both enables were there throughout. -/
def State.calQualifies (s : State) (c skipped : Nat) (level : Int) : Bool :=
  decide (16 * skipped ≤ 2 ^ 20) && decide (-256 * (s.rd Reg.CAL_WIN_LO : Int) ≤ level)
    && decide (level ≤ -256 * (s.rd Reg.CAL_WIN_HI : Int))
    && s.guards.darkSince.isNone && decide (s.cal.darkAt ≤ s.cal.blockAt.getD c 0)

/-- CAL_BLOCK_END, R144, R145: the estimates are the channel's own, as measured. -/
def execCalBlockEnd (ch : Nat) (skipped : Nat) (level : Int) (off : List Int) (gain : List Int) (skew : List Int)
    (t : Instant) (s : State) : Host.Outcome State Fault Refusal :=
  let s := s.atT t
  if ch < 4 && s.on Reg.CAL_CTL_RUN && s.cal.blockAt.getD ch 0 + calBlock ≤ s.now && !s.isolated .cal
      && !s.isolatedAt .crx (some ch) then
    let ok := s.calQualifies ch skipped level
    let s := s.mapCal (fun c => { c with
      blockAt := modAt c.blockAt ch (fun _ => s.now), starved := modAt c.starved ch (fun _ => !ok)
      nominal := if ok then modAt c.nominal ch (fun _ => false) else c.nominal })
    if ok then .next (s.calUpdate ch off gain skew) else .next (s.event [Reg.CAL_STAT_STARVED])
  else .next s

/-- The RW bits of a CAL factor word at offset `o` of its channel: CHSKEW, OFF with SKEW, and GAIN; none: no factor. -/
def calFactorMask (o : Nat) : Option Word :=
  if o = 0x10 then some 0xFFFF
  else if 0x40 ≤ o && o < 0x80 then (if o % 8 = 0 then some 0xFFFFFFFF else if o % 8 = 4 then some 0xFFFF else none)
  else none

/-- R146 (05): a factor word is written, from the next sample of its channel on. -/
def State.calFactor (s : State) (addr : Nat) (v : Word) : State :=
  let c := addr / 0x80 - 0x2C02
  match calFactorMask (addr % 0x80) with
  | some k =>
    if 0x160100 ≤ addr && c < 4 then
      (s.setLive addr ((s.live addr &&& ~~~k) ||| (v &&& k))).mapCal (fun x => { x with
        blockAt := modAt x.blockAt c (fun _ => s.now), nominal := modAt x.nominal c (fun _ => false) })
    else s
  | none => s

/-- CAL_FACTOR_WRITE, R146. -/
def execCalFactorWrite (m : Master) (addr : Nat) (v : Word) (t : Instant) (s : State) :
    Host.Outcome State Fault Refusal :=
  .next ((s.atT t).strobe m .cal none false (fun s => s.calFactor addr v))

/-- R147 (05): SKEW_CAL starts in PREP and TEST, and is refused elsewhere. -/
def State.skewCalCmd (s : State) : State :=
  if s.chp.mode = .prep || s.chp.mode = .test then
    s.mapCal (fun c => { c with skewCal := c.skewCal.or (some s.now) })
  else s.event [Reg.CAL_STAT_CMD_REFUSED]

/-- SKEW_CAL, R147. -/
def execSkewCal (m : Master) (t : Instant) (s : State) : Host.Outcome State Fault Refusal :=
  .next ((s.atT t).strobe m .cal none false State.skewCalCmd)

/-- SKEW_CAL_DONE, R147: `ok`: the tone was strong enough on every channel; `delays`: channels 1 to 3 against channel 0. -/
def execSkewCalDone (ok : Bool) (delays : List Int) (t : Instant) (s : State) : Host.Outcome State Fault Refusal :=
  let s := s.atT t
  match s.cal.skewCal with
  | some t0 =>
    if t0 + 2 * ms ≤ s.now then
      let s := s.mapCal (fun c => { c with skewCal := none, skewSpan := some (t0, s.now), skewOk := ok })
      if ok then
        let s := s.wr (Reg.CAL_CHSKEW 0) 0
        let s := [1, 2, 3].foldl (fun s c => s.wr (Reg.CAL_CHSKEW c) (wrapN 16 (delays.getD (c - 1) 0))) s
        .next (s.event [Reg.CAL_STAT_SKEW_DONE])
      else .next (s.event [Reg.CAL_STAT_TONE_FAIL])
    else .next s
  | none => .next s

/-- PILOT_BLOCK_END, R148: `skews`: the channels' skews against channel 0 as the pilot shows them. -/
def execPilotBlockEnd (clipped : Nat) (skews : List Int) (t : Instant) (s : State) :
    Host.Outcome State Fault Refusal :=
  let s := s.atT t
  if s.on Reg.CAL_CTL_PILOT && s.cal.pilotAt + calBlock ≤ s.now && !s.isolated .cal then
    let s := s.mapCal (fun c => { c with pilotAt := s.now })
    if 2 ^ 20 < 16 * clipped then .next s
    else .next ((List.range 4).foldl (fun s c =>
      let d := if c = 0 then 0 else (skews.getD c 0).tdiv 8
      (s.wr (Reg.CAL_CHSKEW c) (wrapN 16 (s.rdS16 (Reg.CAL_CHSKEW c) + d))).bump (Reg.CAL_SKEW_CNT c)) s)
  else .next s

end Sys2Proof.Machine
end

