-- ==== Sys2Proof/Machine/Streams.lean ====
section
/-! DEFINITION. The rows of CHN, PCM and PHS (05): slot samples, compressed looks and the position engine. -/

namespace Sys2Proof.Machine

/-! ### Looks and their samples (R134, R141, R149 to R152) -/

/-- The latest look of a sweep and a slot, a pluck's or the tab's, with its tag. -/
def State.lookOf (s : State) (sweep slot : Nat) (pluck : Bool) : Option Look :=
  s.psq.looks.reverse.find? (fun l => l.sweep == sweep && l.slot == slot && l.pluck == pluck)

/-- R12, R153: the shape memory that an item of this sweep is processed under. -/
def State.shapesFor (s : State) (sweep : Nat) : List Host.Cell :=
  if sweep < s.chp.ownsFrom then s.mems.prev else s.mems.act

/-- R134 (05): W, the slot samples of a look of this sweep. -/
def State.lookSamples (s : State) (sweep : Nat) : Nat := s.rdFor sweep Reg.PSQ_PERIOD_TICKS * 32 / 100

/-- R134 (05): the instant of slot sample p of a look. -/
def State.sampleAt (s : State) (l : Look) (p : Nat) : Nat :=
  l.fireAt + s.rdFor l.sweep Reg.CHN_ZERO_DELAY * 25 + p * 10000

/-- R138, R141, R147 (05): a settling sample lies within 40 ns of an instant. -/
def State.settlingNear (s : State) (at_ : Nat) : Bool :=
  s.crx.changes.any (fun c => decide (c.2.1 ≤ at_ + 40000) && decide (at_ ≤ c.2.1 + 12000 + 40000))
    || s.cal.skewSpan.any (fun c => decide (c.1 ≤ at_ + 40000) && decide (at_ ≤ c.2 + 40000))
    || s.cal.skewCal.any (fun c => decide (c ≤ at_ + 40000))

/-- R167 (05): a sample of a look at an instant is dark. -/
def Look.darkFrom (l : Look) (at_ : Nat) : Bool := l.darkAt.any (fun d => decide (d < l.emitEnd) || decide (d ≤ at_))

/-- R98 (03): a sample at an instant lies in the COLLIDED span. -/
def Look.collidedAt (l : Look) (at_ : Nat) : Bool := l.collided.any (fun c => decide (c.1 ≤ at_) && decide (at_ < c.2))

/-- R157 (05): a front end of the pair restarts. -/
def State.polAbsent (s : State) (p : Pol) : Bool :=
  let c := if p = .x then 0 else 2
  s.isolatedAt .crx (some c) || s.isolatedAt .crx (some (c + 1))

/-- R149 to R151 (05): the slot sample that a lane gives: its 16-bit values, with its flags. -/
def State.slotSample (s : State) (l : Look) (p : Nat) (xr xi yr yi : Int) (clipped lost : Bool) : SlotSample :=
  let at_ := s.sampleAt l p
  let c := clampS 16
  let sat := c xr != xr || c xi != xi || c yr != yr || c yi != yi
  { sweep := l.sweep, slot := l.slot, pluck := l.pluck, p := p, xr := c xr, xi := c xi, yr := c yr, yi := c yi
    gx := s.crx.gx, gy := s.crx.gy, touched := clipped || lost || sat || s.settlingNear at_
    noX := s.polAbsent .x, noY := s.polAbsent .y, dark := l.darkFrom at_, collided := l.collidedAt at_
    arrivedAt := s.now }

/-- SLOT_LANE_SAMPLE, R149, R151, R15: the lane's filtered sample (the filters' taps are no rule of the spec, so that the
values before the clamp are the step's operands, log entry 22); `lost`: the crossing's queue overflowed. -/
def execSlotLaneSample (sweep : Nat) (slot : Nat) (p : Nat) (pluck : Bool) (xr : Int) (xi : Int) (yr : Int) (yi : Int)
    (clipped : Bool) (lost : Bool) (t : Instant) (s : State) : Host.Outcome State Fault Refusal :=
  let s := s.atT t
  match s.lookOf sweep slot pluck with
  | none => .next s
  | some l =>
    let w := s.lookSamples sweep
    if p < w && !s.isolated .chn then
      let x := s.slotSample l p xr xi yr yi clipped lost
      let sat := x.xr != xr || x.xi != xi || x.yr != yr || x.yi != yi
      let s := if sat then (s.event [Reg.CHN_STAT_SAT]).bump (Reg.CHN_SAT_CNT slot) else s
      let s := if p + 1 = w then s.bump (Reg.CHN_LOOK_CNT slot) else s
      let s := if pluck then s else s.confirm .chn sweep
      let s := if shapeKind (s.shapesFor sweep) l.shape = 0 then
          s.mapPcm (fun m => { m with outs := m.outs ++ [x] })
        else s.mapChn (fun m => { m with samples := m.samples ++ [x] })
      if lost then .next (s.blockFault .chn none 0xF4 0) else .next s
    else .next s

/-- R154 (05): log2 of N of a slot. -/
def State.nfftLog (s : State) (sweep slot : Nat) : Nat := 10 + s.rdFor sweep (Reg.PCM_SLOT_NFFT slot)

/-- R141, R152 (05): position p of a compressed look: touched where any of its LEN samples is, at the edge where they run past W.
-/
def compressed (xs : List SlotSample) (len w : Nat) (x : SlotSample) (o : Int × Int × Int × Int) : SlotSample :=
  let span := xs.filter (fun y => x.p ≤ y.p && y.p < x.p + len)
  { x with
    xr := clampS 16 o.1, xi := clampS 16 o.2.1, yr := clampS 16 o.2.2.1, yi := clampS 16 o.2.2.2
    touched := span.any (fun y => y.touched), edge := w < x.p + len
    noX := span.any (fun y => y.noX), noY := span.any (fun y => y.noY) }

/-- PCM_LOOK_COMPRESS, R152: the samples of a chirped look are compressed. `outs` holds out[p] before the output's saturation,
for both polarisations (the transforms' rounding is no rule of the spec, log entry 22). -/
def execPcmLookCompress (sweep : Nat) (slot : Nat) (pluck : Bool) (outs : List (Int × Int × Int × Int)) (t : Instant)
    (s : State) : Host.Outcome State Fault Refusal :=
  let s := s.atT t
  match s.lookOf sweep slot pluck with
  | none => .next s
  | some l =>
    let mine (y : SlotSample) : Bool := y.sweep == sweep && y.slot == slot && y.pluck == pluck
    let xs := s.chn.samples.filter mine
    if xs.isEmpty || s.isolated .pcm then .next s
    else
      let len := shapeWord (s.shapesFor sweep) l.shape 8 % 2 ^ 11
      let w := s.lookSamples sweep
      let ys := xs.map (fun x => { compressed xs len w x (outs.getD x.p (0, 0, 0, 0)) with arrivedAt := s.now })
      let edges := (ys.filter (fun y => y.edge)).length
      let n := 2 ^ s.nfftLog sweep slot
      let s := s.mapChn (fun m => { m with samples := m.samples.filter (fun y => !mine y) })
      let s := s.mapPcm (fun m => { m with outs := m.outs ++ ys })
      let s := s.bumpBy Reg.PCM_BLOCK_CNT (ceilDiv w (n + 1 - len))
      .next (if edges = 0 then s else (s.bumpBy Reg.PCM_EDGE_CNT edges).event [Reg.PCM_STAT_EDGE])

/-- BLOCK_LATE, R155, R171: a chirped sample has waited beyond its bound. -/
def execBlockLate (t : Instant) (s : State) : Host.Outcome State Fault Refusal :=
  let s := s.atT t
  if s.chn.samples.any (fun x => decide (x.arrivedAt + 2 ^ s.nfftLog x.sweep x.slot * 10000 + 4 * us < s.now)) then
    .next (s.blockFault .pcm none 2 0)
  else .next s

/-! ### The position engine (R156 to R168) -/

/-- The floor of the square root, for numbers below 2⁶⁸. -/
def isqrt (n : Nat) : Nat :=
  (List.range 34).foldl (fun r i => if (r + 2 ^ (33 - i)) * (r + 2 ^ (33 - i)) ≤ n then r + 2 ^ (33 - i) else r) 0

/-- R156 (05): mag, truncated. -/
def magOf (a b : Int) : Nat := isqrt (a * a + b * b).toNat

/-- R156 (05): what a sample gives before th moves: pw, the cross-product's angle, whether th may move, and both
polarisations with their gain taken out. -/
structure Combined where
  pw : Nat
  angle : BitVec 16
  close : Bool
  xr : Int
  xi : Int
  yr : Int
  yi : Int
  deriving DecidableEq, Repr

/-- R156, R157 (05): the polarisations combined, an absent one as zero. -/
def SlotSample.combine (x : SlotSample) : Combined :=
  let gx : Int := if x.noX then 0 else 2 ^ (7 - x.gx)
  let gy : Int := if x.noY then 0 else 2 ^ (7 - x.gy)
  let xr := x.xr * gx
  let xi := x.xi * gx
  let yr := x.yr * gy
  let yi := x.yi * gy
  let mx := magOf xr xi
  let my := magOf yr yi
  { pw := ((xr * xr + xi * xi + yr * yr + yi * yi) / 2 ^ 16).toNat
    angle := Config.arg16 (yr * xr + yi * xi) (yi * xr - yr * xi)
    close := decide (max mx my / 4 ≤ min mx my) && !x.noX && !x.noY
    xr := xr, xi := xi, yr := yr, yi := yi }

/-- R156 (05): ph for a polarisation angle th. -/
def Combined.phase (c : Combined) (th : BitVec 16) : BitVec 16 :=
  let r := Config.rot16 c.yr c.yi (0 - th)
  let mx : Int := magOf c.xr c.xi / 128
  let my : Int := magOf c.yr c.yi / 128
  Config.arg16 (c.xr * mx + r.1 * my) (c.xi * mx + r.2 * my)

/-- Position `p`'s state; none held: as after a re-seat. -/
def State.posState (s : State) (p : Nat) : PosState :=
  match s.phs.pos.find? (fun x => x.pos == p) with
  | some x => x
  | none => { pos := p }

/-- Position state put back. -/
def State.setPos (s : State) (x : PosState) : State :=
  s.mapPhs (fun h => { h with
    pos := if h.pos.any (fun y => y.pos == x.pos) then h.pos.map (fun y => if y.pos = x.pos then x else y)
      else h.pos ++ [x] })

/-- R160 (05): the weight of a valid look in quarters. -/
def weight (pw m floor : Nat) (seeded : Bool) : Nat :=
  if !seeded || pw < floor || 64 * pw < m then 0
  else if m ≤ 4 * pw then 4
  else if m ≤ 16 * pw then 2
  else 1

/-- R160 to R165 (05): the settings of PHS that a look of a sweep is processed under. -/
structure PhsTuning where
  /-- active slots -/
  n : Nat
  shift : Nat
  mshift : Nat
  floor : Nat
  deriving DecidableEq, Repr

/-- The result of R162 for one look at one position. -/
structure PhsOut where
  ps : PosState
  out : BitVec 16
  /-- weight below 4 at a valid look -/
  faded : Bool := false
  /-- R165 -/
  reacq : Bool := false
  /-- INV under R166 -/
  invFade : Bool := false
  /-- the position was re-seeded -/
  reseed : Bool := false
  deriving DecidableEq, Repr

/-- R163 (05): one look of the slot has passed. -/
def SlotState.aged (x : SlotState) : SlotState := { x with fast := x.fast - 1 }

/-- R162 (05): a bad look of slot `k`. -/
def PosState.bad (ps : PosState) (k : Nat) : PhsOut :=
  { ps := { ps with run := ps.run + 1, s := ps.s + BitVec.ofInt 16 ps.inc, slots := modAt ps.slots k SlotState.aged }
    out := 0x8000 }

/-- R160, R162 to R165 (05): a valid look of slot `k` with power `pw` and difference `d`; `cap`: one polarisation is absent
(R157). th has been dealt with. -/
def PosState.valid (ps : PosState) (k pw : Nat) (d : BitVec 16) (cap : Bool) (u : PhsTuning) : PhsOut :=
  let sl := ps.slots.getD k {}
  let seedS := !ps.seeded && !sl.seeded
  let s0 : BitVec 16 := if seedS then d else ps.s
  let seedO : Int := if ps.seeded then (d - s0).toInt * 256 else 0
  let w0 := weight pw sl.m u.floor sl.seeded
  let w := if cap then min 2 w0 else w0
  let reacq := sl.seeded && w == 4 && decide (256 ≤ sl.faded)
  let seed := !sl.seeded || reacq
  let o := if seed then seedO else sl.o
  let fast := if seed then 64 else sl.fast
  let m := if sl.seeded then wrapN 32 ((sl.m : Int) + ((pw : Int) - sl.m) / 2 ^ u.mshift) else pw
  let uu : BitVec 16 := d - BitVec.ofInt 16 (o / 256)
  let e := (uu - s0).toInt
  let run := if w = 0 then ps.run + 1 else ps.run
  let step := max (((w : Int) * e + (4 - (w : Int)) * ps.inc) / 4) (-0x7FFF)
  let beyond := decide (u.n ≤ run)
  let s1 : BitVec 16 := if beyond && w != 0 then uu else if beyond || w = 0 then s0 + BitVec.ofInt 16 ps.inc
    else s0 + BitVec.ofInt 16 step
  let inc : Int := if beyond && w != 0 then 0 else if beyond || w = 0 then ps.inc else (BitVec.ofInt 16 step).toInt
  let run1 := if w = 0 then run else 0
  let out : BitVec 16 := if beyond then 0x8000 else if w = 0 then BitVec.ofInt 16 ps.inc else BitVec.ofInt 16 step
  let track := w == 4 && decide (1 < u.n) && run1 == 0
  let a := (s0 - sl.sk).toInt.tdiv ((u.n : Int) - 1)
  let sh := if fast = 0 then u.shift else 4
  let o1 := if track then signed 24 (wrapN 24 (o + (e - a) * 256 / 2 ^ sh)) else o
  let sl1 : SlotState :=
    { sl with
      o := o1, sk := s1, m := m, seeded := true, fast := fast - 1
      faded := if w = 4 then 0 else sl.faded + 1 }
  { ps := { ps with s := s1, seeded := true, inc := inc, run := run1, slots := modAt ps.slots k (fun _ => sl1) }
    out := out, faded := w != 4, reacq := reacq, invFade := beyond, reseed := beyond && w != 0 }

/-- R163 (05): the settings for a sweep, held to their limits. -/
def State.phsTuning (s : State) (sweep : Nat) : PhsTuning :=
  let r := s.rdFor sweep
  { n := ((List.range 8).filter (fun k => r (Reg.PSY_SLOT_EN k) == 1)).length
    shift := max 6 (min 15 (r Reg.PHS_TRACK_SHIFT)), mshift := max 4 (min 15 (r Reg.PHS_TRACK_MSHIFT))
    floor := r Reg.PHS_FADE_FLOOR * 256 }

/-- R68, R168 (05): a look of this sweep carries INV for a re-seat. -/
def State.reseating (s : State) (ps : PosState) (sweep : Nat) : Bool :=
  ps.invTo.any (fun n => decide (sweep ≤ n)) || s.phs.reseatAt.any (fun n => decide (sweep ≤ n + 1))

/-- The sample and the phase leave the look's stores. -/
def State.phsDone (s : State) (x : SlotSample) (g : Nat) (ph : BitVec 16) : State :=
  let s := s.mapPcm (fun m => { m with
    outs := m.outs.eraseP (fun y => y.sweep == x.sweep && y.slot == x.slot && y.p == x.p && y.pluck == x.pluck) })
  if x.pluck then s
  else s.mapPhs (fun h => { h with
    phases := h.phases.filter (fun y => !(y.1 == x.sweep && y.2.1 == x.slot && y.2.2.1 + g == x.p))
      ++ [(x.sweep, x.slot, x.p, ph)] })

/-- PHS.PROBE takes the state of the look it selects. -/
def State.phsProbe (s : State) (p k : Nat) (sl : SlotState) : State :=
  if s.rd Reg.PHS_PROBE_POS = p && s.rd Reg.PHS_PROBE_SLOT = k then
    (((s.wr Reg.PHS_PROBE_OFFSET (wrapN 24 sl.o)).wr Reg.PHS_PROBE_MEAN sl.m).wr Reg.PHS_PROBE_TH sl.th.toNat).wr
      Reg.PHS_PROBE_FAST sl.fast
  else s

/-- PHS counters and flags of one position sample. -/
def State.phsCount (s : State) (x : SlotSample) (r : PhsOut) (valid wasOver reseat : Bool) (n : Nat) : State :=
  let s := if x.touched then (s.bump Reg.PHS_INV_SETTLE_CNT).event [Reg.PHS_STAT_SETTLE] else s
  let s := if x.dark then (s.bump Reg.PHS_INV_DARK_CNT).event [Reg.PHS_STAT_DARK] else s
  let s := if x.collided then s.bump Reg.PHS_INV_COLLIDE_CNT else s
  let s := if reseat then s.bump Reg.PHS_INV_RESEAT_CNT else s
  let s := if valid && r.invFade then s.bump Reg.PHS_INV_FADE_CNT else s
  let s := if valid && r.faded then s.bump (Reg.PHS_FADE_CNT x.slot) else s
  let s := if r.reacq then (s.bump (Reg.PHS_REACQ_CNT x.slot)).event [Reg.PHS_STAT_REACQ] else s
  if !wasOver && (decide (n ≤ r.ps.run) || r.reseed) then s.event [Reg.PHS_STAT_FADE_ALL] else s

/-- R161, R167 (05): the sample is bad at its position, for a gauge `g`. -/
def SlotSample.isBad (x : SlotSample) (g : Nat) : Bool :=
  x.touched || decide (x.p < g) || x.edge || (x.noX && x.noY) || x.dark || x.collided

/-- PHS_POSITION_SAMPLE (R156 to R168): one look of the series at one position, with the phase at p − G where the look has one.
-/
def State.phsLook (s : State) (x : SlotSample) (l : Look) (before : BitVec 16) : State :=
  let r := s.rdFor x.sweep
  let g := r Reg.PHS_GAUGE_G
  let u := s.phsTuning x.sweep
  let ps := s.posState x.p
  let sl := ps.slots.getD x.slot {}
  let bad := x.isBad g
  let c := x.combine
  let sh := max 2 (min 12 (r Reg.PHS_TRACK_TH_SHIFT))
  let th : BitVec 16 :=
    if bad || x.noX || x.noY then sl.th
    else if !sl.seeded then c.angle
    else if c.close then sl.th + BitVec.ofInt 16 ((c.angle - sl.th).toInt / 2 ^ sh)
    else sl.th
  let ph := c.phase th
  let s := s.phsDone x g ph
  let thed (p : PosState) : PosState := { p with slots := modAt p.slots x.slot (fun y => { y with th := th }) }
  if x.p < r Reg.PHS_RANGE_CAPO then
    s.setPos { thed ps with
      slots := modAt (thed ps).slots x.slot (fun y => { y with seeded := y.seeded || !bad }) }
  else if r Reg.PHS_RANGE_END < x.p then s
  else if s.phs.restarting then
    s.mapPhs (fun h => { h with out := h.out ++ [{
      sweep := x.sweep, slot := x.slot, pos := x.p, fireT := l.fireT, value := 0x8000, reset := false
      dark := l.darkAt.isSome, isPartial := l.isPartial, late := l.late, collided := l.collided.isSome }] })
  else
    let q := if bad then (thed ps).bad x.slot else (thed ps).valid x.slot c.pw (ph - before) (x.noX || x.noY) u
    let reseat := s.reseating ps x.sweep
    let out : BitVec 16 := if reseat then 0x8000 else q.out
    let s := s.phsCount x q (!bad) (decide (u.n ≤ ps.run)) reseat u.n
    let s := s.setPos { q.ps with fresh := false }
    let s := s.phsProbe x.p x.slot (q.ps.slots.getD x.slot {})
    (s.mapPhs (fun h => { h with out := h.out ++ [{
      sweep := x.sweep, slot := x.slot, pos := x.p, fireT := l.fireT, value := out, reset := q.reseed || ps.fresh
      dark := l.darkAt.isSome, isPartial := l.isPartial, late := l.late, collided := l.collided.isSome }] })).confirm .phs
      x.sweep

/-- R465 (15): once every position of a pluck has come, its row goes to the PLUCK subscriptions. -/
def State.givePluck (s : State) (sweep : Nat) (l : Look) : State :=
  let lo := s.rd Reg.PHS_RANGE_CAPO
  let n := s.rd Reg.PHS_RANGE_END + 1 - lo
  if s.kpe.pluckRows.length < n then s
  else
    let at_ (i : Nat) : Nat × BitVec 16 :=
      match s.kpe.pluckRows.find? (fun y => y.2.1 == lo + i) with
      | some y => (y.2.2.1, y.2.2.2)
      | none => (0, 0x8000)
    let row : StreamRow :=
      { index := 0, sweep := sweep, formedAt := s.now, qflags := if l.darkAt.isSome then 4 else 0
        data := (List.range n).flatMap (fun i => leBytes 4 (at_ i).1 ++ leBytes 2 (at_ i).2.toNat) }
    let s := s.mapKpe (fun k => { k with pluckRows := [] })
    (s.subsWhere (fun x => x.kind == .pluck)).foldl (fun s i => s.giveRow i row) s

/-- R167 (05): a pluck's sample gives pw and ph to the pluck stream, and updates no state. -/
def State.phsPluck (s : State) (x : SlotSample) (l : Look) : State :=
  let s := s.phsDone x 0 0
  if x.p < s.rd Reg.PHS_RANGE_CAPO || s.rd Reg.PHS_RANGE_END < x.p then s
  else
    let c := x.combine
    let th := ((s.posState x.p).slots.getD x.slot {}).th
    let ph : BitVec 16 := if x.isBad 0 then 0x8000 else c.phase th
    let keep (y : Nat × Nat × Nat × BitVec 16) : Bool := y.1 == x.sweep && y.2.1 != x.p
    (s.mapKpe (fun k => { k with pluckRows := k.pluckRows.filter keep ++ [(x.sweep, x.p, c.pw, ph)] })).givePluck x.sweep l

/-- R159 (05): no look fired earlier waits at the position. -/
def State.phsInOrder (s : State) (l : Look) (p : Nat) : Bool :=
  !((s.pcm.outs ++ s.chn.samples).any (fun y => y.p == p && !y.pluck
    && (s.lookOf y.sweep y.slot false).any (fun k => decide (k.fireAt < l.fireAt))))

/-- PHS_POSITION_SAMPLE, R162. -/
def execPhsPositionSample (sweep : Nat) (slot : Nat) (p : Nat) (pluck : Bool) (t : Instant) (s : State) :
    Host.Outcome State Fault Refusal :=
  let s := s.atT t
  match s.pcm.outs.find? (fun y => y.sweep == sweep && y.slot == slot && y.p == p && y.pluck == pluck),
      s.lookOf sweep slot pluck with
  | some x, some l =>
    if s.isolated .phs then .next s
    else if pluck then .next (s.phsPluck x l)
    else if !s.phsInOrder l p then .next s
    else
      let g := s.rdFor sweep Reg.PHS_GAUGE_G
      let before := s.phs.phases.find? (fun y => y.1 == sweep && y.2.1 == slot && y.2.2.1 + g == p)
      if p < g then .next (s.phsLook x l 0)
      else
        match before with
        | some b => .next (s.phsLook x l b.2.2.2)
        | none => .next s
  | _, _ => .next s

end Sys2Proof.Machine
end

