-- ==== Sys2Proof/Machine/Filters.lean ====
section
/-! DEFINITION. The rows of PFL (06): the median, the chain of filter stages, resets, and the delivery of output rows to the ring,
the array's staging and the streams. -/

namespace Sys2Proof.Machine

/-! ### Delivery (R187, R222, R465) -/

/-- R187 (06): a staged row of a tap of `n` rows' length joins its staging ring of twice that. -/
def stageRow (xs : List StagedRow) (r : StagedRow) (n : Nat) : List StagedRow := (r :: xs).take (2 * n)

/-- R187, R222 (06, 08): the row as a tap stages it. -/
def PflRow.staged (r : PflRow) : StagedRow :=
  { j := r.index, sweep := r.sweep, isPartial := r.isPartial, late := r.late, dark := r.dark
    samples := r.samples.map (fun x => (x.pos, x.value, x.acc)) }

/-- R71, R243 (08): the first staged row of the new tuning is the switch instant of the affected cores that take the tap. -/
def State.tapDue (s : State) (k sweep : Nat) : State :=
  if sweep < s.chp.ownsFrom then s
  else s.mapAar (fun a => { a with
    cores := a.cores.zipIdx.map (fun (c, i) =>
      if c.affected && c.switchDue.isNone && Field.read s.prevWord (Reg.AAR_C_CTL_SRC i) = k then
        { c with switchDue := some s.sweep } else c) })

/-- R187, R222, R223 (06, 08): a tap (0 A, 1 B) that takes this preset stages the row. -/
def State.tapRow (s : State) (r : PflRow) (k : Nat) : State :=
  let c := s.rdFor r.sweep (if k = 1 then Reg.PFL_TAP_AAR_B else Reg.PFL_TAP_AAR_A)
  let n := 2 ^ min 10 (s.rdFor r.sweep (Reg.AAR_TAP_LOG2L k))
  if c = r.preset || (c = 5 && r.preset = 4) then
    let s := s.tapDue k r.sweep
    let fresh (x : Option Nat) : Bool := x.any (fun m => decide (m ≤ r.sweep))
    if k = 1 then
      s.mapAar (fun a => { a with
        stageB := stageRow (if fresh a.restageB then [] else a.stageB) r.staged n
        restageB := if fresh a.restageB then none else a.restageB })
    else
      s.mapAar (fun a => { a with
        stageA := stageRow (if fresh a.restageA then [] else a.stageA) r.staged n
        restageA := if fresh a.restageA then none else a.restageA })
  else s

/-- R464 (15): the QFLAGS of a row over positions FIRST to LAST. -/
def PflRow.qflags (r : PflRow) (first last : Nat) : Nat :=
  let xs := r.samples.filter (fun x => first ≤ x.pos && x.pos ≤ last)
  (if r.isPartial then 1 else 0) + (if r.late then 2 else 0) + (if r.dark then 4 else 0)
    + (if xs.any (fun x => x.subst) then 8 else 0) + (if xs.any (fun x => x.sat) then 16 else 0)

/-- R465 (15): the data of a PHASE row over positions FIRST to LAST, with ACC where `acc`. -/
def PflRow.bytes (r : PflRow) (first last : Nat) (acc : Bool) : List Byte :=
  let at_ (p : Nat) : Option PflSample := r.samples.find? (fun x => x.pos == p)
  let ps := (List.range (last + 1 - first)).map (fun i => first + i)
  ps.flatMap (fun p => leBytes 2 (((at_ p).map (fun x => x.value.toNat)).getD 0x8000))
    ++ (if acc then ps.flatMap (fun p => leBytes 4 (((at_ p).map (fun x => x.acc.toNat)).getD 0)) else [])

/-- R187 (06): an output row goes to the ring's queue, the array's taps and the PHASE subscriptions that take its preset. More
than 4 rows that wait for the ring raise WRITE_OVERFLOW (R342). -/
def State.deliver (s : State) (r : PflRow) : State :=
  let s := if s.rdFor r.sweep Reg.PFL_TAP_RING = r.preset then
      let s := s.mapRng (fun g => { g with queue := g.queue ++ [r] })
      if 4 < s.rng.queue.length then s.blockFault .rng none 2 0 else s
    else s.ringSettle
  let s := (s.tapRow r 0).tapRow r 1
  (s.subsWhere (fun x => x.kind == .phase && (x.preset == r.preset || (x.preset == 5 && r.preset == 4)))).foldl
    (fun s i => match s.sub i with
      | some x => s.giveRow i {
          index := r.index, sweep := r.sweep, formedAt := s.now, qflags := r.qflags x.first x.last
          data := r.bytes x.first x.last (x.preset == 5) }
      | none => s) s

/-! ### One stage (R177, R181) -/

/-- What a stage gives: its unclamped value, whether it is invalid, and SUBST. -/
structure StageOut where
  value : Int
  invalid : Bool
  subst : Bool
  deriving DecidableEq, Repr

/-- R177 (06): the FIR sum over hist, with coefficient set A or B. -/
def firSum (b : Bool) (h : List (BitVec 44)) : Int :=
  (h.zipIdx).foldl (fun a (x, k) => a + (if b then Config.coefB k else Config.coefA k) * x.toInt) 0

/-- R177, R181 (06): one input `x` (1/256 LSB) of a stage with CIC ratio `r`, shift `sh` and support `sup`; `i` is the input's
number in the decimation phase; `taint` and `subst` say what the input sets. -/
def FilterStage.step (f : FilterStage) (b : Bool) (r sh sup i : Nat) (x : Int) (taint subst : Bool) :
    FilterStage × Option StageOut :=
  let i1 := f.i1 + BitVec.ofInt 44 x
  let i2 := f.i2 + i1
  let i3 := f.i3 + i2
  let t := if taint then sup else f.taint - 1
  let u := if subst then sup else f.subst - 1
  let g := { f with i1 := i1, i2 := i2, i3 := i3, taint := t, subst := u }
  if i % r = r - 1 then
    let c1 := i3 - f.d1
    let c2 := c1 - f.d2
    let c := c2 - f.d3
    let h := (c :: f.hist).take 31
    let g := { g with d1 := i3, d2 := c1, d3 := c2, hist := h }
    if i / r % 2 = 1 then (g, some { value := (firSum b h + 2 ^ (sh - 1)) / 2 ^ sh, invalid := t != 0, subst := u != 0 })
    else (g, none)
  else (g, none)

/-- R175 (06): the 16-bit output of a value: clamped, and whether it was. -/
def clampOut (v : Int) : Int × Bool :=
  let o := (v + 128) / 256
  let c := max (-0x7FFF) (min 0x7FFF o)
  (c, c != o)

/-- What one position gives at one FULL output: its samples by preset, and what is counted. -/
structure PosOut where
  ps : PflPos
  samples : List (Nat × PflSample) := []
  invIn : Nat := 0
  substIn : Nat := 0
  longRun : Nat := 0
  deriving DecidableEq, Repr

/-- R178, R181 (06): the filtered presets' decimation. -/
def presetD (p : Nat) : Nat :=
  match p with
  | 0 => 1 | 1 => 4 | 2 => 16 | 3 => 64 | _ => 1024

/-- The bit of preset `p` in VALID. -/
def setValid (v : BitVec 5) (p : Nat) (ok : Bool) : BitVec 5 :=
  if ok then v ||| BitVec.ofNat 5 (2 ^ p) else v &&& ~~~(BitVec.ofNat 5 (2 ^ p))

/-- R175, R181, R184 (06): the sample that a stage's output gives at preset `p`. -/
def PflPos.emit (ps : PflPos) (p : Nat) (o : StageOut) : PflPos × (Nat × PflSample) :=
  let c := clampOut o.value
  let acc := if p = 4 then ps.acc + BitVec.ofInt 40 o.value else ps.acc
  let x : PflSample :=
    { pos := ps.pos, value := if o.invalid then 0x8000 else BitVec.ofInt 16 c.1, subst := o.subst && !o.invalid
      sat := c.2 && !o.invalid, acc := if p = 4 then BitVec.ofNat 32 (acc.toNat / 256) else 0 }
  ({ ps with acc := acc, valid := setValid ps.valid p (!o.invalid) }, (p, x))

/-- R177 (06): input `x` of stage `k` (0 is S1), number `i`, and on through the later stages while they emit; `n` bounds
the stages. -/
def PflPos.chain (ps : PflPos) (n k i : Nat) (x : Int) (taint subst : Bool) : PflPos × List (Nat × PflSample) :=
  match n with
  | 0 => (ps, [])
  | n + 1 =>
    let last := k == 3
    let r := (ps.st.getD k { }).step last (if last then 8 else 2) (if last then 22 else 18) (if last then 262 else 64) i x
      taint subst
    let ps := { ps with st := modAt ps.st k (fun _ => r.1) }
    match r.2 with
    | none => (ps, [])
    | some o =>
      let e := ps.emit (k + 1) o
      let q := e.1.chain n (k + 1) (i / (if last then 16 else 4)) o.value o.invalid o.subst
      (q.1, e.2 :: q.2)

/-- R180, R181 (06): a FULL value enters S1. -/
def PflPos.feed (ps : PflPos) (i : Nat) (v : BitVec 16) (bridge : Bool) (most : Nat) : PosOut :=
  let inv := v == 0x8000
  let run := if inv then ps.run + 1 else 0
  let sub := inv && bridge && decide (run ≤ most)
  let x : Int := (if inv then ps.hold.toInt else v.toInt) * 256
  let ps := { ps with run := run, hold := if inv then ps.hold else v }
  let r := ps.chain 4 0 i x (inv && !sub) sub
  { ps := r.1, samples := r.2, invIn := if inv then 1 else 0, substIn := if sub then 1 else 0
    longRun := if inv && run = most + 1 then 1 else 0 }

/-- R572 (06): an output that does not enter the chain: the presets due at this number carry 0x8000. -/
def PflPos.skip (ps : PflPos) (i : Nat) : PosOut :=
  { ps := ps
    samples := ([1, 2, 3, 4].filter (fun p => i % presetD p == presetD p - 1)).map (fun p =>
      (p, { pos := ps.pos, value := 0x8000, subst := false, sat := false, acc := BitVec.ofNat 32 (ps.acc.toNat / 256) })) }

/-! ### The median (R179, R572) -/

/-- R179 (06): the median of the valid values. -/
def medianOf (xs : List Int) : Int :=
  let ys := xs.mergeSort (fun a b => a ≤ b)
  let n := ys.length
  if n % 2 = 1 then ys.getD (n / 2) 0 else (ys.getD (n / 2 - 1) 0 + ys.getD (n / 2) 0) / 2

/-- R179 (06): the output of the entry `i` from the latest, with `m` entries either side; missing and stale ones are invalid. -/
def medianAt (w : List PflIn) (i m : Nat) : BitVec 16 :=
  match w[i]? with
  | none => 0x8000
  | some c =>
    if c.value = 0x8000 then 0x8000
    else
      let win := (w.drop (i - m)).take (min i m + 1 + m)
      let vs := (win.filter (fun x => x.value != 0x8000 && !x.stale)).map (fun x => x.value.toInt)
      if m = 0 then c.value else BitVec.ofInt 16 (medianOf vs)

/-- R186 (06): the position is reset; the outputs that its window still owes are formed first. -/
def PflPos.reset (ps : PflPos) (m : Nat) : PflPos :=
  { pos := ps.pos
    window := ps.window.zipIdx.map (fun (x, i) =>
      if x.stale then x else { x with stale := true, early := medianAt ps.window i m }) }

/-! ### The whole of a FULL output -/

/-- R179 (06): the half width of the median for a sweep. -/
def State.medianHalf (s : State) (sweep : Nat) : Nat :=
  match s.rdFor sweep Reg.PFL_CTL_MEDIAN with
  | 1 => 1
  | 2 => 2
  | _ => 0

/-- The state of a position. -/
def State.pflPos (s : State) (p : Nat) : PflPos := (s.pfl.pos.find? (fun x => x.pos == p)).getD { pos := p }

/-- The positions of a look's sweep. -/
def State.positions (s : State) (sweep : Nat) : List Nat :=
  let lo := s.rdFor sweep Reg.PHS_RANGE_CAPO
  (List.range (s.rdFor sweep Reg.PHS_RANGE_END + 1 - lo)).map (fun i => lo + i)

/-- `n` events of one kind. -/
def State.events (s : State) (n : Nat) (f : Field) : State := (List.range n).foldl (fun s _ => s.event [f]) s

/-- R175, R181 (06): the counters of the samples and inputs of one FULL output. -/
def State.pflCount (s : State) (xs : List PosOut) (full : List PflSample) : State :=
  let sum (f : PosOut → Nat) : Nat := xs.foldl (fun a x => a + f x) 0
  let s := s.bumpBy Reg.PFL_INV_IN_CNT (sum (fun x => x.invIn))
  let s := s.bumpBy Reg.PFL_SUBST_CNT (sum (fun x => x.substIn))
  let s := (s.bumpBy Reg.PFL_LONG_RUN_CNT (sum (fun x => x.longRun))).events (sum (fun x => x.longRun)) Reg.PFL_STAT_RUN_LONG
  let out := xs.flatMap (fun x => x.samples)
  let s := s.bumpBy (Reg.PFL_INV_OUT_CNT 0) (full.filter (fun x => x.value == 0x8000)).length
  [1, 2, 3, 4].foldl (fun s p =>
    let ys := out.filter (fun x => x.1 == p)
    let sat := (ys.filter (fun x => x.2.sat)).length
    ((s.bumpBy (Reg.PFL_INV_OUT_CNT p) (ys.filter (fun x => x.2.value == 0x8000)).length).bumpBy (Reg.PFL_SAT_CNT p)
      sat).events sat Reg.PFL_STAT_SAT) s

/-- PFL.PROBE at a DRIFT output. -/
def State.pflProbe (s : State) (xs : List PosOut) : State :=
  match xs.find? (fun x => x.ps.pos == s.rd Reg.PFL_PROBE_POS && x.samples.any (fun y => y.1 == 4)) with
  | some x =>
    ((s.wr Reg.PFL_PROBE_ACC (x.ps.acc.toNat / 256)).wr Reg.PFL_PROBE_HOLD x.ps.hold.toNat).wr Reg.PFL_PROBE_VALID
      x.ps.valid.toNat
  | none => s

/-- R178 (06): the flags since each preset's previous output, with a look's own. -/
def orFlags (xs : List (Bool × Bool × Bool)) (l : PflLook) : List (Bool × Bool × Bool) :=
  xs.map (fun f => (f.1 || l.isPartial, f.2.1 || l.late, f.2.2 || l.dark))

/-- R178, R179 (06): the FULL output of look `i` from the latest is formed and delivered, and, where `feed`, enters the chain,
whose presets that are due at its count are delivered too. -/
def State.pflForm (s : State) (i : Nat) (feed : Bool) : State :=
  match s.pfl.looks[i]? with
  | none => s
  | some l =>
    if l.formed then s
    else
      let m := s.medianHalf l.sweep
      let bridge := s.rdFor l.sweep Reg.PFL_CTL_BRIDGE == 1
      let most := max 1 (s.rdFor l.sweep Reg.PFL_CTL_BRIDGE_MAX)
      let ps := (s.positions l.sweep).map (fun p => s.pflPos p)
      let val (x : PflPos) : BitVec 16 :=
        match x.window[i]? with
        | some e => if e.stale then e.early else medianAt x.window i m
        | none => 0x8000
      let full : List PflSample := ps.map (fun x => { pos := x.pos, value := val x, subst := false, sat := false, acc := 0 })
      let outs : List PosOut := if feed then
          ps.map (fun x => if (x.window[i]?).all (fun e => e.stale) then x.skip l.count else x.feed l.count (val x) bridge most)
        else []
      let flags := orFlags s.pfl.flagsOr l
      let due (p : Nat) : Bool := p == 0 || (feed && l.count % presetD p == presetD p - 1)
      let row (p : Nat) (xs : List PflSample) : PflRow :=
        let f := flags.getD p (false, false, false)
        { preset := p, sweep := l.sweep, slot := l.slot, fireT := l.fireT, firedAt := l.firedAt, isPartial := f.1
          late := f.2.1, dark := f.2.2, index := l.count / presetD p, samples := xs }
      let s := s.mapPfl (fun q => { q with
        looks := modAt q.looks i (fun x => { x with formed := true })
        flagsOr := flags.zipIdx.map (fun (f, p) => if due p then (false, false, false) else f)
        pos := if feed then q.pos.filter (fun x => !(outs.any (fun o => o.ps.pos == x.pos))) ++ outs.map (fun o => o.ps)
          else q.pos })
      let s := s.pflCount outs full
      let s := s.pflProbe outs
      [0, 1, 2, 3, 4].foldl (fun s p =>
        if due p then
          s.deliver (row p (if p = 0 then full
            else (outs.flatMap (fun o => o.samples)).filterMap (fun x => if x.1 = p then some x.2 else none)))
        else s) s

/-- R186, R572 (06): every position is reset: what is owed is delivered to the FULL consumers first. -/
def State.pflResetAll (s : State) : State :=
  let s := (List.range 5).foldl (fun s k => s.pflForm (4 - k) false) s
  (s.mapPfl (fun q => { q with looks := [], pos := [], resetAtLook := false, resetAtSweep := none })).event
    [Reg.PFL_STAT_RESET_ALL]

/-- R178 to R186 (06): a look's samples enter PFL. -/
def State.pflTake (s : State) (x : PosSample) (xs : List PosSample) : State :=
  let s := if s.pfl.resetAtLook || s.pfl.resetAtSweep.any (fun n => decide (n ≤ x.sweep)) then s.pflResetAll else s
  let m := s.medianHalf x.sweep
  let c := s.rd Reg.PFL_LOOK_CNT_COUNT
  let s := s.wr Reg.PFL_LOOK_CNT_COUNT ((c + 1) % 2 ^ 48)
  let firedAt := ((s.lookOf x.sweep x.slot false).map (fun l => l.fireAt)).getD 0
  let breaks := xs.filter (fun y => y.reset)
  let s := (s.bumpBy Reg.PFL_BREAK_CNT breaks.length).events breaks.length Reg.PFL_STAT_BREAK
  let look : PflLook :=
    { count := c, sweep := x.sweep, slot := x.slot, fireT := x.fireT, firedAt := firedAt, isPartial := x.isPartial
      late := x.late, dark := x.dark }
  let ps := xs.map (fun y =>
    let p := s.pflPos y.pos
    let p := if y.reset then p.reset m else p
    { p with window := ({ value := y.value } :: p.window).take 5 })
  let s := s.mapPfl (fun q => { q with
    looks := (look :: q.looks).take 5
    pos := q.pos.filter (fun z => !(ps.any (fun p => p.pos == z.pos))) ++ ps })
  (s.pflForm m true).confirm .pfl x.sweep

/-- PFL_LOOK_INPUT, R178: the look at the front has reached PFL at every position. -/
def execPflLookInput (t : Instant) (s : State) : Host.Outcome State Fault Refusal :=
  let s := s.atT t
  match s.phs.out with
  | [] => .next s
  | x :: _ =>
    let mine (y : PosSample) : Bool := y.sweep == x.sweep && y.slot == x.slot && y.fireT == x.fireT
    let xs := s.phs.out.filter mine
    if xs.length = (s.positions x.sweep).length then
      let s := s.mapPhs (fun h => { h with out := h.out.filter (fun y => !mine y) })
      if s.isolated .pfl then .next s else .next (s.pflTake x xs)
    else .next s

/-- R572 (06): every look fired before the halt has reached PFL. -/
def State.allArrived (s : State) : Bool :=
  s.phs.out.isEmpty && !(s.pcm.outs ++ s.chn.samples).any (fun y => !y.pluck)
    && !(s.psq.looks.any (fun l => !l.pluck && !l.ended))

/-- MEDIAN_FLUSH, R572. -/
def execMedianFlush (t : Instant) (s : State) : Host.Outcome State Fault Refusal :=
  let s := s.atT t
  if s.pfl.haltReported && s.allArrived then
    let s := (List.range 5).foldl (fun s k => s.pflForm (4 - k) true) s
    .next (s.mapPfl (fun q => { q with haltReported := false }))
  else .next s

end Sys2Proof.Machine
end

