-- ==== Sys2Proof/Machine/Raman.lean ====
section
/-! DEFINITION. The rows of RMX and DTS (07): accumulation of Raman sweeps, blocks, conversion to temperatures, the drone,
profiles and their features, and the checks CK18 and CK19's coils. -/

namespace Sys2Proof.Machine

/-! ### Sampling a sweep (R191 to R193) -/

/-- R191 (07): raw bins of a sweep: 0 to 2 × END + 1. -/
def State.ramanBins (s : State) (n : Nat) : Nat := 2 * s.rdFor n Reg.PHS_RANGE_END + 2

/-- R192 (07): log2 of the baseline's samples. -/
def State.baseLog (s : State) (n : Nat) : Nat := 6 + min 4 (s.rdFor n Reg.RMX_BASE_LEN)

/-- R191 (07): the end of the last bin for a trigger at `r`. -/
def State.ramanEnd (s : State) (n r : Nat) : Nat := r + s.rdFor n Reg.RMX_ZERO_DELAY * 25 + s.ramanBins n * 5000

/-- R192 (07): the start of the baseline window for a trigger at `r`. -/
def State.ramanStart (s : State) (n r : Nat) : Nat :=
  r - s.rdFor n Reg.RMX_BASE_GAP * 5000 - 2 ^ s.baseLog n * 5000

/-- R191 (07): a 14-bit sample at either end of the range is clipped. -/
def clippedSample (x : Int) : Bool := decide (x ≤ -8192) || decide (8191 ≤ x)

/-- R193 (07): why a sweep is skipped. -/
inductive SkipReason where
  | noRaman | dark | apd | clip | overlap
  deriving DecidableEq, Repr

/-- R193 (07): the counter of a reason. -/
def SkipReason.counter (r : SkipReason) : Field :=
  match r with
  | .noRaman => Reg.RMX_SKIP_NO_RAMAN_CNT
  | .dark => Reg.RMX_SKIP_DARK_CNT
  | .apd => Reg.RMX_SKIP_APD_CNT
  | .clip => Reg.RMX_SKIP_CLIP_CNT
  | .overlap => Reg.RMX_SKIP_OVERLAP_CNT

/-- R193 (07): either guard enable was absent at some time from `a` to `b`. -/
def State.darkWithin (s : State) (a b : Nat) : Bool :=
  match s.guards.darkSince with
  | some d => decide (d ≤ b)
  | none => s.rmx.darkAt.any (fun d => decide (a ≤ d))

/-- R193 (07): the APD stage was not HEALTHY at some time from `a` on. -/
def State.apdWithin (s : State) (a : Nat) : Bool :=
  s.stageRun 4 != .healthy || s.rmx.apdAt.any (fun d => decide (a ≤ d))

/-- R193 (07): why sweep `n` is skipped, the first reason in the order of the table that holds; none: it is accumulated. -/
def State.skipReason (s : State) (n : Nat) (clip : Bool) : Option SkipReason :=
  match s.rmx.triggers.find? (fun x => x.2 == n) with
  | none => some .noRaman
  | some x =>
    let a := s.ramanStart n x.1
    let b := s.ramanEnd n x.1
    if s.darkWithin a b then some .dark
    else if s.apdWithin a then some .apd
    else if clip then some .clip
    else if s.rmx.triggers.any (fun y => n < y.2 && y.1 < b) then some .overlap
    else none

/-- R193 (07): what decides about sweep `n` is known: its bins have ended, or it has ended without a trigger. -/
def State.ramanReady (s : State) (n : Nat) : Bool :=
  s.rmx.treated.all (fun m => decide (m < n)) && decide (n ≤ s.sweep) &&
    match s.rmx.triggers.find? (fun x => x.2 == n) with
    | some x => decide (s.ramanEnd n x.1 ≤ s.now) || s.rmx.triggers.any (fun y => n < y.2 && y.1 < s.ramanEnd n x.1)
    | none => decide (n < s.sweep) || s.psq.state != .running

/-! ### Accumulation (R194 to R197) -/

/-- R195 (07): a sample as it enters an accumulator. -/
def shiftIn (a : Nat) (x : Int) : Int :=
  let s := a - 17
  if s = 0 then x else (x + 2 ^ (s - 1)) / 2 ^ s

/-- R195 (07): one sweep into the accumulators of a channel; the first one replaces. -/
def addBins (acc xs : List Int) : List Int := if acc.isEmpty then xs else List.zipWith (fun x y => x + y) acc xs

/-- R195 (07): what sweep `n` adds to a block. -/
def DtsBlock.add (b : DtsBlock) (a n from_ to_ : Nat) (x0 x1 y0 y1 : List Int) : DtsBlock :=
  let sum (ys : List Int) : Int := (ys.map (fun y => shiftIn a y)).foldl (fun p q => p + q) 0
  { b with
    acc0 := addBins b.acc0 (x0.map (fun x => shiftIn a x))
    acc1 := addBins b.acc1 (x1.map (fun x => shiftIn a x))
    bsum0 := b.bsum0 + sum y0, bsum1 := b.bsum1 + sum y1, m := b.m + 1
    first := if b.first.isSome then b.first else some (n, from_), last := some (n, to_) }

/-- R193 (07): a skipped sweep leaves its mark on the profile's flags. -/
def DtsBlock.skip (b : DtsBlock) (r : SkipReason) : DtsBlock :=
  { b with clipped := b.clipped || r == .clip, apd := b.apd || r == .apd }

/-- R196 (07): the block in progress closes at a boundary into a later block; sweep `n` has begun. -/
def State.closeIfOver (s : State) (n : Nat) : State :=
  let a := s.rd Reg.DTS_CTL_ACC_LOG2
  let b := s.dts.blk.block
  if s.dts.active && n / 2 ^ a != b then
    s.closeBlock false false (decide ((b + 1) * 2 ^ a - 1 < s.chp.ownsFrom)) ((b + 1) * 2 ^ a - 1)
      (s.psq.tick0 + s.psq.period * tick)
  else s

/-- R204 (07): the start and the end of sweep `n`, at or after which it is treated. -/
def State.sweepSpan (s : State) (n : Nat) : Nat × Nat :=
  match s.guards.lastBoundary with
  | some b =>
    if b.2.2.2 = n then (b.1, b.1 + b.2.2.1 * tick)
    else
      (((s.rmx.triggers.find? (fun x => x.2 == n)).map (fun x => x.1)).getD b.1, b.1)
  | none => (s.now, s.now)

/-- R194 to R197 (07): `f` changes the block that sweep `n` belongs to: the one in progress, which begins with the first sweep
of its block; or a closed one whose last sweep has come only now; a block cut by a halt takes none. -/
def State.intoBlock (s : State) (n : Nat) (f : DtsBlock → DtsBlock) : State :=
  let b := n / 2 ^ s.rdFor n Reg.DTS_CTL_ACC_LOG2
  if s.dts.skipBlock = some b then s
  else if s.dts.unload.any (fun u => u.blk.block == b && n ≤ u.lastSweep && !u.blk.halted) && n < s.sweep
      && !(s.dts.active && s.dts.blk.block = b && s.chp.ownsFrom ≤ n) then
    s.mapDts (fun d => { d with unload := d.unload.map (fun u => if u.blk.block = b then { u with blk := f u.blk } else u) })
  else
    let s := s.closeIfOver n
    s.mapDts (fun d => { d with
      blk := f (if d.active || d.blk.restarted then { d.blk with block := b } else { block := b })
      active := true, skipBlock := none })

/-- R193, R195 (07): the sweep of a halted block after START is skipped and not counted. -/
def State.skipped (s : State) (n : Nat) : Bool :=
  s.dts.skipBlock == some (n / 2 ^ s.rdFor n Reg.DTS_CTL_ACC_LOG2)

/-- RAMAN_SWEEP_ACCUMULATE, R191 to R195, R15: sweep `n`'s raw bins and baseline samples of both channels, as digitised;
`lost`: the crossing's queue overflowed. -/
def execRamanSweepAccumulate (sweep : Nat) (bins0 : List Int) (bins1 : List Int) (base0 : List Int) (base1 : List Int)
    (lost : Bool) (t : Instant) (s : State) : Host.Outcome State Fault Refusal :=
  let s := s.atT t
  if s.rdFor sweep Reg.RMX_CTL_EN = 0 then .next s
  else if !s.ramanReady sweep || s.isolated .rmx || s.isolated .dts then .next s
  else if lost then .next ((s.mapRmx (fun r => { r with treated := some sweep })).blockFault .dts none 0xF4 0)
  else
    let take (k : Nat) (xs : List Int) : List Int := (List.range k).map (fun i => clampS 14 (xs.getD i 0))
    let nb := s.ramanBins sweep
    let nl := 2 ^ s.baseLog sweep
    let c (xs ys : List Int) : Nat := ((take nb xs ++ take nl ys).filter clippedSample).length
    let c0 := c bins0 base0
    let c1 := c bins1 base1
    let sampled := s.rmx.triggers.any (fun x => x.2 == sweep)
    let clip := sampled && c0 + c1 != 0
    let why := s.skipReason sweep clip
    let span := s.sweepSpan sweep
    let s := s.mapRmx (fun r => { r with treated := some sweep })
    let s := if clip then
        ((s.bumpBy (Reg.RMX_CLIP_CNT 0) c0).bumpBy (Reg.RMX_CLIP_CNT 1) c1).event [Reg.RMX_STAT_CLIP] else s
    if s.skipped sweep then .next s
    else
      match why with
      | some r =>
        let s := (s.event [Reg.RMX_STAT_SKIP]).bump r.counter
        .next (s.intoBlock sweep (fun b => b.skip r))
      | none =>
        let s := s.bump Reg.RMX_GOOD_CNT
        let a := s.rdFor sweep Reg.DTS_CTL_ACC_LOG2
        .next (s.intoBlock sweep (fun b =>
          b.add a sweep span.1 span.2 (take nb bins0) (take nb bins1) (take nl base0) (take nl base1)))

/-- DTS_BLOCK_CLOSE, R196: the first sweep boundary into the next block has come. -/
def execDtsBlockClose (t : Instant) (s : State) : Host.Outcome State Fault Refusal :=
  let s := s.atT t
  .next (s.closeIfOver s.sweep)

/-- UNLOAD_LATE, R212: an unload has not finished within its time. -/
def execUnloadLate (t : Instant) (s : State) : Host.Outcome State Fault Refusal :=
  let s := s.atT t
  if s.dts.unload.any (fun u => decide (u.deadline < s.now)) && !s.isolated .dts then .next (s.blockFault .dts none 2 0)
  else .next s

/-! ### Conversion (R198 to R201) -/

/-- R202 (07): a field under the tuning that owns the block's last sweep. -/
def State.rdOwn (s : State) (old : Bool) (f : Field) : Nat := if old && f.tuned then f.read s.prevWord else s.rd f

/-- R201 (07): the correction entry of position `p` under that tuning. -/
def State.corOwn (s : State) (old : Bool) (p : Nat) : Nat :=
  let a := dtsBase + 4 * p
  if old then s.prevMem a else s.memWord a

/-- One position's conversion: as, st, l0 and the output. -/
structure Converted where
  as_ : Int
  st : Int
  l0 : Int
  temp : BitVec 16
  deriving DecidableEq, Repr

/-- R199 (07): position `p`; the logarithm is a free value. -/
def State.convert (s : State) (u : DtsUnload) (p : Nat) : Converted :=
  let k := 6 + min 4 (s.rdOwn u.old Reg.RMX_BASE_LEN)
  let raw (acc : List Int) (bsum : Int) : Int := acc.getD (2 * p) 0 + acc.getD (2 * p + 1) 0 - 2 * (bsum / 2 ^ k)
  let as_ := raw u.blk.acc0 u.blk.bsum0
  let st := raw u.blk.acc1 u.blk.bsum1
  let cor := s.corOwn u.old p
  let least : Int := (s.rdOwn u.old Reg.DTS_MIN_SIG * u.blk.m : Nat)
  let dalpha := signed 32 (s.rdOwn u.old Reg.DTS_DALPHA)
  let lnr := Config.lnQ24 st - Config.lnQ24 as_
  let l0 := lnr - dalpha * p / 2 ^ 8 + signed 20 cor * 16
  let l := l0 + u.c0
  let tq := u.gamma * 2 ^ 24 / l
  let t64 := (tq - 17901158 + 512) / 2 ^ 10
  let bad := cor / 2 ^ 31 % 2 = 1 || as_ < least || st < least || l ≤ 0 || u.blk.m < 2 ^ (u.a - 1)
  { as_ := as_, st := st, l0 := l0, temp := if bad then 0x8000 else BitVec.ofInt 16 (max (-0x7FFF) (min 0x7FFF t64)) }

/-! ### The drone (R203 to R208) -/

/-- An exact fraction: numerator and denominator; denominator 0: a quotient by zero. -/
structure Frac where
  num : Int
  den : Nat
  deriving DecidableEq, Repr

/-- difference -/
def Frac.sub (a b : Frac) : Frac := { num := a.num * b.den - b.num * a.den, den := a.den * b.den }

/-- sum -/
def Frac.add (a b : Frac) : Frac := { num := a.num * b.den + b.num * a.den, den := a.den * b.den }

/-- quotient -/
def Frac.div (a b : Frac) : Frac := { num := a.num * b.den * b.num.sign, den := a.den * b.num.natAbs }

/-- The fraction as a number: where it is not exact, the spec states no rounding, and the choice of the two nearest numbers is
a free value. -/
def Frac.round (a : Frac) : Int :=
  if a.den = 0 then Config.divByZero a.num
  else if a.num % a.den = 0 then a.num / a.den
  else a.num / a.den + (if Config.roundUp a.num a.den then 1 else 0)

/-- R204 (07): a usable coil: T_c in 1/64 °C and L_c in Q8.24. -/
structure Coil where
  t : Frac
  l : Frac
  deriving DecidableEq, Repr

/-- R204 (07): coil `c` for this profile; none: it is not enabled, or unusable. -/
def State.coil (s : State) (u : DtsUnload) (conv : List Converted) (c : Nat) : Option Coil :=
  let lo := s.rdOwn u.old (Reg.DTS_COIL_FIRST c)
  let hi := s.rdOwn u.old (Reg.DTS_COIL_LAST c)
  let chan := s.rdOwn u.old (Reg.DTS_COIL_REF c)
  let all := (conv.drop lo).take (hi + 1 - lo)
  let ok := all.filter (fun x => x.temp != 0x8000)
  match u.blk.first, u.blk.last with
  | some a, some b =>
    let rs := s.dts.coilRes.filter (fun r => r.chan == chan && decide (a.2 ≤ r.time) && decide (r.time ≤ b.2))
    if s.rdOwn u.old (Reg.DTS_COIL_EN c) = 0 || rs.isEmpty || rs.any (fun r => !r.valid) || ok.isEmpty
        || 2 * ok.length < hi + 1 - lo || u.blk.m < 2 ^ (u.a - 1) then none
    else some {
      t := { num := (rs.map (fun r => r.value)).foldl (fun x y => x + y) 0, den := rs.length }
      l := { num := (ok.map (fun x => x.l0)).foldl (fun x y => x + y) 0, den := ok.length } }
  | _, _ => none

/-- R205 (07): K_c in kelvin. -/
def Coil.kelvin (c : Coil) : Frac := ({ num := c.t.num, den := c.t.den * 64 } : Frac).add { num := 27315, den := 100 }

/-- R205 (07): g / K − L for a γ in Q16.16, in Q8.24. -/
def coilTarget (g : Frac) (c : Coil) : Frac :=
  (({ num := g.num * 2 ^ 8, den := g.den } : Frac).div c.kelvin).sub c.l

/-- R205 (07): MODE of the drone under the profile's tuning. -/
def State.droneMode (s : State) (u : DtsUnload) : Nat := s.rdOwn u.old Reg.DTS_DRONE_MODE

/-- R205 (07): the targets: c0_req and, in SLOPE mode with both coils apart enough, g_req; none: no coil is usable. -/
def State.droneTarget (s : State) (u : DtsUnload) (c0 c1 : Option Coil) : Option (Frac × Option Frac) :=
  let g : Frac := { num := u.gamma, den := 1 }
  let mean : Option (Frac × Option Frac) :=
    match c0, c1 with
    | some a, some b =>
      let x := (coilTarget g a).add (coilTarget g b)
      some ({ num := x.num, den := x.den * 2 }, none)
    | some a, none => some (coilTarget g a, none)
    | none, some b => some (coilTarget g b, none)
    | none, none => none
  match s.droneMode u with
  | 1 => c0.map (fun a => (coilTarget g a, none))
  | 2 => mean
  | 3 =>
    match c0, c1 with
    | some a, some b =>
      let d := a.t.sub b.t
      if d.num.natAbs < s.rdOwn u.old Reg.DTS_DRONE_MIN_DT * d.den then mean
      else
        let one : Frac := { num := 1, den := 1 }
        let dl := a.l.sub b.l
        let q := ({ num := dl.num, den := dl.den * 2 ^ 8 } : Frac).div ((one.div a.kelvin).sub (one.div b.kelvin))
        some (coilTarget q a, some q)
    | _, _ => mean
  | _ => none

/-- R205 (07): DRONE_SLOPE_SKIP: SLOPE acts as MEAN. -/
def State.slopeSkip (s : State) (u : DtsUnload) (x : Option (Frac × Option Frac)) : Bool :=
  s.droneMode u == 3 && x.all (fun y => y.2.isNone)

/-- R207 (07): a value held within ±`span` of its tuned value, and whether it would have crossed. -/
def heldWithin (v base span : Int) : Int × Bool :=
  let c := max (base - span) (min (base + span) v)
  (c, c != v)

/-- DRONE_UPDATE (R205 to R207): the drone after a profile: the values for the next one, with what the profile carries: CAL_HELD
and DRONE_LIMIT. -/
def State.droneUpdate (s : State) (u : DtsUnload) (c0 c1 : Option Coil) : State × Bool × Bool :=
  let was := s.dts.held
  let tgt := s.droneTarget u c0 c1
  let s := if s.slopeSkip u tgt then s.event [Reg.DTS_STAT_DRONE_SLOPE_SKIP] else s
  match tgt with
  | none =>
    if s.droneMode u = 0 then (s, was, false)
    else
      (((s.event [Reg.DTS_STAT_DRONE_HELD]).bump Reg.DTS_HOLD_CNT).mapDts (fun d => { d with held := true }), true, false)
  | some (creq, greq) =>
    if u.droneReset then (s, was, false)
    else
      let sh := min 8 (s.rdOwn u.old Reg.DTS_DRONE_SHIFT)
      let base := s.rdOwn u.old Reg.DTS_GAMMA
      let c := heldWithin (s.dts.c0 + (creq.round - s.dts.c0) / 2 ^ sh) (signed 32 (s.rdOwn u.old Reg.DTS_C0))
        (s.rdOwn u.old Reg.DTS_DRONE_LIM_SPAN)
      let g := match greq with
        | some q => heldWithin (s.dts.gamma + (q.round - s.dts.gamma) / 2 ^ sh) base (base / 16 : Nat)
        | none => (s.dts.gamma, false)
      let s := s.mapDts (fun d => { d with c0 := c.1, gamma := g.1, held := false })
      let hits := (if c.2 then 1 else 0) + (if g.2 then 1 else 0)
      let s := (s.events hits Reg.DTS_STAT_DRONE_LIMIT).bumpBy Reg.DTS_LIMIT_CNT hits
      (s, was, hits != 0)

/-! ### Profiles and features (R209, R210) -/

/-- R210 (07): the highest valid temperature of some positions, and the lowest position that holds it. -/
def hottest (ts : List (BitVec 16)) (lo hi : Nat) : Option (Int × Nat) :=
  (List.range (hi + 1 - lo)).foldl (fun a i =>
    let x := ts.getD (lo + i) 0x8000
    if x = 0x8000 then a
    else match a with
      | some (m, p) => if m < x.toInt then some (x.toInt, lo + i) else some (m, p)
      | none => some (x.toInt, lo + i)) none

/-- R210 (07): RISE over some positions: the greatest growth since the earlier profile. -/
def riseOver (now old : List (BitVec 16)) (lo hi : Nat) : BitVec 16 :=
  let m : Option Int := (List.range (hi + 1 - lo)).foldl (fun a i =>
    let x := now.getD (lo + i) 0x8000
    let y := old.getD (lo + i) 0x8000
    if x = 0x8000 || y = 0x8000 then a
    else match a with
      | some m => some (max m (x.toInt - y.toInt))
      | none => some (x.toInt - y.toInt)) none
  match m with
  | none => 0x8000
  | some d => if -0x7FFF ≤ d ∧ d ≤ 0x7FFF then BitVec.ofInt 16 d else Config.riseBeyond d

/-- R252 (09): DTS features reach a zone unit; those not yet latched are replaced and counted once. -/
def State.giveDts (s : State) (z : Nat) (x : DtsInput) : State :=
  let was := ((s.zon.units.getD z {}).dts).fresh
  let s := s.mapZon (fun q => { q with units := modAt q.units z (fun u => { u with dts := x }) })
  if was then (s.event [Reg.ZON_STAT_FEAT_OVW]).bump Reg.ZON_FEAT_OVW_CNT else s

/-- R210, R250 (07, 09): the features of every zone of the fret table. -/
def State.giveFeatures (s : State) (temps : List (BitVec 16)) (before : Option (List (BitVec 16))) (old : Bool) : State :=
  let capo := s.rdOwn old Reg.PHS_RANGE_CAPO
  let stop := s.rdOwn old Reg.PHS_RANGE_END
  (List.range 256).foldl (fun s z =>
    let w0 := s.memWord (fretBase + 8 * z)
    let w1 := s.memWord (fretBase + 8 * z + 4)
    if w1 % 2 = 0 || s.isolatedAt .zon (some z) then s
    else
      let lo := max capo (w0 % 2 ^ 16)
      let hi := min stop (w0 / 2 ^ 16)
      let hot := hottest temps lo hi
      s.giveDts z {
        tmax := (hot.map (fun h => BitVec.ofInt 16 h.1)).getD 0x8000
        pos := (hot.map (fun h => BitVec.ofNat 16 h.2)).getD 0x8000
        rise := (before.map (fun b => riseOver temps b lo hi)).getD 0x8000
        arrived := true, fresh := true }) s

/-- R465 (15): a TEMP row for every TEMP subscription. -/
def State.giveTemps (s : State) (p : DtsProfile) (capo stop : Nat) : State :=
  (s.subsWhere (fun x => x.kind == .temp)).foldl (fun s i => match s.sub i with
    | some x =>
      let at_ (k : Nat) : BitVec 16 := if capo ≤ k ∧ k ≤ stop then p.temps.getD k 0x8000 else 0x8000
      s.giveRow i {
        index := p.seq, sweep := p.lastSweep, formedAt := s.now, qflags := 0
        data := (List.range (x.last + 1 - x.first)).flatMap (fun k => leBytes 2 (at_ (x.first + k)).toNat) }
    | none => s) s

/-- The bits of DTS.PROF.FLAGS. -/
def profFlags (b : DtsBlock) (short held limit : Bool) : Nat :=
  let bit (k : Nat) (x : Bool) : Nat := if x then 2 ^ k else 0
  bit 0 short + bit 1 b.halted + bit 2 b.retuned + bit 3 held + bit 4 limit + bit 5 b.clipped + bit 6 b.apd
    + bit 7 b.restarted

/-- A coil's temperature as reported; invalid where the coil is unusable. -/
def coilReport (c : Option Coil) : Nat := (c.map (fun x => wrapN 16 (clampS 16 x.t.round))).getD 0x8000

/-- PROFILE_COMPLETE (R198 to R210) for an unloaded block. -/
def State.profile (s : State) (u : DtsUnload) : State :=
  let capo := s.rdOwn u.old Reg.PHS_RANGE_CAPO
  let stop := s.rdOwn u.old Reg.PHS_RANGE_END
  let conv := (List.range (stop + 1)).map (fun p => s.convert u p)
  let temps := conv.map (fun x => x.temp)
  let short := decide (u.blk.m < 2 ^ (u.a - 1))
  let c0 := s.coil u conv 0
  let c1 := s.coil u conv 1
  let r := s.droneUpdate u c0 c1
  let flags := profFlags u.blk short r.2.1 r.2.2
  let s := r.1.bump Reg.DTS_PROF_CNT
  let s := s.wr Reg.DTS_PROF_SEQ (s.rd Reg.DTS_PROF_SEQ + 1)
  let s := (s.wr Reg.DTS_PROF_M u.blk.m).wr Reg.DTS_PROF_FLAGS flags
  let s := s.wr Reg.DTS_PROF_BLOCK u.blk.block
  let s := (s.wr Reg.DTS_COIL_T0 (coilReport c0)).wr Reg.DTS_COIL_T1 (coilReport c1)
  let hot := hottest temps capo stop
  let s := s.wr Reg.DTS_HOT_TEMP ((hot.map (fun h => wrapN 16 h.1)).getD 0x8000)
  let s := s.wr Reg.DTS_HOT_POS ((hot.map (fun h => h.2)).getD 0x8000)
  let x := conv.getD (s.rd Reg.DTS_PROBE_POS) { as_ := 0, st := 0, l0 := 0, temp := 0x8000 }
  let s := (s.wr Reg.DTS_PROBE_AS (wrapN 40 x.as_)).wr Reg.DTS_PROBE_ST (wrapN 40 x.st)
  let s := s.wr Reg.DTS_PROBE_TEMP x.temp.toNat
  let s := s.event [Reg.DTS_STAT_PROFILE]
  let s := if short then (s.event [Reg.DTS_STAT_INVALID]).bump Reg.DTS_INV_PROF_CNT else s
  let before := (s.dts.profiles[max 1 (s.rdOwn u.old Reg.DTS_RISE_SPAN) - 1]?).map (fun p => p.temps)
  let p : DtsProfile :=
    { seq := s.rd Reg.DTS_PROF_SEQ, block := u.blk.block, m := u.blk.m, flags := flags, lastSweep := u.lastSweep
      doneAt := s.now, old := u.old, temps := temps }
  let s := s.mapDts (fun d => { d with profiles := (p :: d.profiles).take 16 })
  let s := if u.old then s else s.tapDue 2 s.chp.ownsFrom
  (s.giveFeatures temps before u.old).giveTemps p capo stop

/-- PROFILE_COMPLETE, R202: the oldest unloaded block has been converted. -/
def execProfileComplete (t : Instant) (s : State) : Host.Outcome State Fault Refusal :=
  let s := s.atT t
  match s.dts.unload with
  | [] => .next s
  | u :: rest =>
    let s := s.mapDts (fun d => { d with
      unload := rest
      coilRes := d.coilRes.filter (fun r => rest != [] || d.blk.first.any (fun f => decide (f.2 ≤ r.time))
        || u.blk.first.any (fun f => decide (f.2 ≤ r.time))) })
    if s.rdOwn u.old Reg.DTS_CTL_EN = 1 then .next (s.profile u) else .next s

/-! ### Checks -/

/-- CK18 (R194). -/
def State.ck18 (s : State) : Option Nat :=
  let a := s.rdStage Reg.DTS_CTL_ACC_LOG2
  if a < 10 || 20 < a then some 0 else none

end Sys2Proof.Machine
end

