-- ==== Sys2Proof/Machine/ArrayOps.lean ====
section
/-! DEFINITION. What AAR's rows share (08): instruction words and their timing (R228 to R232), a core's registers and memory,
frames, tiles and features (R218 to R235), the static budget (R237 to R239) and the checks CK16 and CK17. -/

namespace Sys2Proof.Machine

/-! ### Instruction words (R228, R229, R232) -/

/-- R228 (08): the fields of an instruction word. -/
structure AarWord where
  op : Nat
  /-- bits [55:52] -/
  d : Nat
  /-- bits [51:48] -/
  a : Nat
  /-- bits [47:44] -/
  b : Nat
  /-- bits [43:40] -/
  c : Nat
  mode : Nat
  sh : Nat
  /-- bits [31:16] -/
  hi : Nat
  /-- bits [15:0] -/
  lo : Nat
  deriving DecidableEq, Repr

/-- The fields of a word. -/
def aarFields (w : BitVec 64) : AarWord :=
  let f (lo n : Nat) : Nat := w.toNat / 2 ^ lo % 2 ^ n
  { op := f 56 8, d := f 52 4, a := f 48 4, b := f 44 4, c := f 40 4, mode := f 36 4, sh := f 32 4, hi := f 16 16
    lo := f 0 16 }

/-- IMM. -/
def AarWord.imm (w : AarWord) : BitVec 32 := BitVec.ofNat 32 (w.hi * 2 ^ 16 + w.lo)

/-- TARGET. -/
def AarWord.target (w : AarWord) : Nat := w.lo % 2 ^ 12

/-- R228, R229 (08): the bits that each opcode uses; none: the opcode is not in the tables. -/
def aarMask (op : Nat) : Option Nat :=
  match op with
  | 0x00 => some 0
  | 0x01 => some 0x1000
  | 0x02 => some 0xFFF
  | 0x03 => some 0x00FFF00000000FFF
  | 0x04 => some 0x00F00000FFFF0FFF
  | 0x10 => some 0x00F00000FFFFFFFF
  | 0x11 => some 0x00FFF000FFFFFFFF
  | 0x12 => some 0x00FFF000FFFFFFFF
  | 0x13 => some 0x00FFF000FFFFFFFF
  | 0x14 => some 0x00FFF000FFFFFFFF
  | 0x15 => some 0x00FF0000FFFFFFFF
  | 0x16 => some 0x00FF0000FFFFFFFF
  | 0x17 => some 0x00FFF000FFFFFFFF
  | 0x18 => some 0x00FFF000FFFFFFFF
  | 0x19 => some 0x00FFF000FFFFFFFF
  | 0x1A => some 0x00FFF000FFFFFFFF
  | 0x1B => some 0x00FF0000FFFFFFFF
  | 0x1C => some 0x000FF000FFFFFFFF
  | 0x1D => some 0x00F000000000010F
  | 0x20 => some 0x00F00FF0FFFFFFFF
  | 0x21 => some 0x00F00FF0FFFFFFFF
  | 0x22 => some 0x00FFF00F00000000
  | 0x23 => some 0x00FFF00F00000000
  | 0x24 => some 0x00FFF00F00000000
  | 0x25 => some 0x00FFF00F00000000
  | 0x26 => some 0x000FF00000000000
  | 0x27 => some 0x000FF00000000000
  | 0x28 => some 0
  | 0x29 => some 0x00F000FF00000000
  | 0x30 => some 0x00FFFFFFFFFF0000
  | 0x31 => some 0x00FF0FFFFFFF0000
  | 0x32 => some 0x00FF0F0FFFFF0000
  | 0x33 => some 0x00FF0FFFFFFF0000
  | 0x34 => some 0x00FF0FFFFFFF0000
  | 0x35 => some 0x00FF0FF0FFFF0000
  | 0x36 => some 0x00FF0FF0FFFF0000
  | 0x37 => some 0x00FF0FFFFFFF0000
  | 0x38 => some 0x00FF0F00FFFF0000
  | 0x3F => some 0x000FFF00FFFFFFFF
  | _ => none

/-- A power of two from 2^lo to 2^12. -/
def fftPoints (lo n : Nat) : Bool := (List.range 13).any (fun k => decide (lo ≤ k) && n == 2 ^ k)

/-- R232 (08): what the values of the used fields must meet. -/
def aarValues (w : AarWord) : Bool :=
  let sumMode : Bool := w.mode == 0 || w.mode == 1 || w.mode == 2 || w.mode == 4
  match w.op with
  | 0x03 => decide (w.b < 6)
  | 0x1D => decide (w.lo % 16 < 4)
  | 0x20 => decide (w.mode ≤ 2)
  | 0x21 => decide (w.mode ≤ 1)
  | 0x29 => decide (w.mode ≤ 1)
  | 0x30 => decide (w.mode ≤ 3)
  | 0x31 => decide (w.mode ≤ 1) && w.c == 0 && fftPoints 6 w.hi
  | 0x32 => w.c == 0 && fftPoints 7 w.hi
  | 0x33 => decide (w.mode ≤ 1)
  | 0x34 => sumMode
  | 0x35 => sumMode && w.d != 15
  | 0x36 => sumMode && w.d != 15
  | 0x37 => (w.mode == 0 || w.mode == 4) && decide (w.d ≤ 13)
  | _ => true

/-- R232 (08): a defined encoding, taken by itself. -/
def aarDefined (w : BitVec 64) : Bool :=
  match aarMask (w.toNat / 2 ^ 56) with
  | none => false
  | some m => ((w &&& 0x00FFFFFFFFFFFFFF) &&& ~~~(BitVec.ofNat 64 m)) == 0 && aarValues (aarFields w)

/-! ### Timing (R228, R229) -/

/-- ceil(log2 n) for n ≥ 1, by trial. -/
def log2Up (n : Nat) : Nat := ((List.range 17).find? (fun k => decide (n ≤ 2 ^ k))).getD 17

/-- R229 (08): F(m). -/
def fftCycles (m : Nat) : Nat := (log2Up m + 1) / 2 * (m / 4 + 12) + 20

/-- R228, R229 (08): the cycles of an instruction; `n` is its count; a branch is taken here as not taken. -/
def aarCycles (w : AarWord) (n : Nat) : Nat :=
  let sum : Nat := if w.mode % 4 = 0 then ceilDiv n 16 + 8 else ceilDiv n 8 + 8
  match w.op with
  | 0x02 => 2
  | 0x30 => if w.mode % 2 = 1 then ceilDiv (5 * n) 16 + 8 else ceilDiv (3 * n) 16 + 8
  | 0x31 => fftCycles w.hi
  | 0x32 => fftCycles (w.hi / 2) + w.hi / 8 + 16
  | 0x33 => if w.mode % 2 = 1 then ceilDiv (3 * n) 8 + 8 else ceilDiv n 4 + 8
  | 0x34 => sum
  | 0x35 => sum + 2
  | 0x36 => sum + 2
  | 0x37 => ceilDiv n 16 + 12
  | 0x38 => ceilDiv n 16 + 6
  | _ => 1

/-- R228 (08): what an instruction reads and writes, with the latencies of its results. -/
structure AarUse where
  sRead : List Nat := []
  vRead : List Nat := []
  accRead : Bool := false
  sWrite : List (Nat × Nat) := []
  vWrite : List (Nat × Nat) := []
  accWrite : Option Nat := none
  deriving DecidableEq, Repr

/-- R228, R229 (08): the uses of an instruction of `cy` cycles. -/
def aarUse (w : AarWord) (cy : Nat) : AarUse :=
  let bin (lat : Nat) : AarUse := { sRead := [w.a, w.b], sWrite := [(w.d, lat)] }
  match w.op with
  | 0x03 => { sRead := [w.d, w.a] }
  | 0x04 => { sRead := [w.d] }
  | 0x10 => { sWrite := [(w.d, 1)] }
  | 0x11 => bin 1
  | 0x12 => bin 1
  | 0x13 => bin 3
  | 0x14 => bin 3
  | 0x15 => { sRead := [w.a], sWrite := [(w.d, 1)] }
  | 0x16 => { sRead := [w.a], sWrite := [(w.d, 1)] }
  | 0x17 => bin 1
  | 0x18 => bin 1
  | 0x19 => bin 1
  | 0x1A => bin 1
  | 0x1B => { sRead := [w.a], sWrite := [(w.d, 3)] }
  | 0x1C => { sRead := [w.a, w.b] }
  | 0x1D => { sWrite := [(w.d, 3)] }
  | 0x20 => { sRead := [w.c], sWrite := [(w.c, 3)], vWrite := [(w.d, 3)] }
  | 0x21 => { sRead := [w.c], vRead := [w.d], sWrite := [(w.c, 1)] }
  | 0x22 => { vRead := [w.a, w.b], vWrite := [(w.d, 3)] }
  | 0x23 => { vRead := [w.a, w.b], vWrite := [(w.d, 3)] }
  | 0x24 => { vRead := [w.a, w.b], vWrite := [(w.d, 3)] }
  | 0x25 => { vRead := [w.a, w.b], vWrite := [(w.d, 3)] }
  | 0x26 => { vRead := [w.a, w.b], accWrite := some 4 }
  | 0x27 => { vRead := [w.a, w.b], accWrite := some 4 }
  | 0x28 => { accWrite := some 1 }
  | 0x29 => { accRead := true, sWrite := [(w.d, 3)] }
  | 0x30 => { sRead := [w.d, w.a, w.b, w.c] }
  | 0x31 => { sRead := [w.d, w.a] }
  | 0x32 => { sRead := [w.d, w.a] }
  | 0x33 => { sRead := [w.d, w.a, w.c] }
  | 0x34 => { sRead := [w.a, w.c], sWrite := [(w.d, cy)] }
  | 0x35 => { sRead := [w.a, w.c], sWrite := [(w.d, cy), (w.d + 1, cy)] }
  | 0x36 => { sRead := [w.a, w.c], sWrite := [(w.d, cy), (w.d + 1, cy)] }
  | 0x37 => { sRead := [w.a, w.c], sWrite := [(w.d, cy), (w.d + 1, cy), (w.d + 2, cy)] }
  | 0x38 => { sRead := [w.d, w.a, w.c] }
  | 0x3F => { sRead := [w.a, w.b, w.c] }
  | _ => {}

/-- R214 (08): the cycle at which an instruction that may issue at `cyc` has its operands. -/
def issueAt (u : AarUse) (cyc : Nat) (sr vr : List Nat) (ar : Nat) : Nat :=
  let x := u.sRead.foldl (fun m r => if r = 0 then m else max m (sr.getD r 0)) cyc
  let x := u.vRead.foldl (fun m r => max m (vr.getD r 0)) x
  if u.accRead then max x ar else x

/-- The cycles at which results are ready, after writes by an instruction that issued at `at_`. -/
def markReady (xs : List Nat) (ws : List (Nat × Nat)) (at_ : Nat) : List Nat :=
  ws.foldl (fun xs w => modAt xs w.1 (fun _ => at_ + w.2)) xs

/-- R231 (08): what follows the instruction at `pc`: the loops left and the next address. -/
def nextPc (ls : List LoopFrame) (pc : Nat) : List LoopFrame × Nat :=
  match ls with
  | [] => ([], pc + 1)
  | f :: r =>
    if pc = f.last then
      if 1 < f.left then ({ f with left := f.left - 1 } :: r, f.first) else nextPc r pc
    else (f :: r, pc + 1)

/-! ### Registers and memory of a core (R214 to R216) -/

/-- Core `n`; out of range: one that is off. -/
def State.core (s : State) (n : Nat) : AarCore := s.aar.cores.getD n {}

/-- Core `n` changed by `f`. -/
def State.mapCore (s : State) (n : Nat) (f : AarCore → AarCore) : State :=
  s.mapAar (fun a => { a with cores := modAt a.cores n f })

/-- R12, R243 (01, 08): a field as core `n` has it: an affected core keeps the former tuning until its switch. -/
def State.coreRd (s : State) (n : Nat) (f : Field) : Nat :=
  if (s.core n).affected && f.tuned then f.read s.prevWord else s.rd f

/-- R214 (08): the instruction word of core `n` at an address. -/
def State.coreWord (s : State) (n pc : Nat) : BitVec 64 :=
  let m := if (s.core n).affected then s.mems.prev else s.mems.act
  BitVec.ofNat 64 (leNat (Store.bytes m (codeBase + n * 0x8000 + 8 * pc) 8))

/-- R214 (08): a scalar register; S0 reads as zero. -/
def AarCore.sr (c : AarCore) (r : Nat) : BitVec 32 := if r = 0 then 0 else c.s.getD r 0

/-- R214 (08): a scalar register written; writes to S0 are ignored. -/
def AarCore.setS (c : AarCore) (r : Nat) (v : BitVec 32) : AarCore :=
  if r = 0 then c else { c with s := modAt c.s r (fun _ => v) }

/-- A vector register. -/
def AarCore.vr (c : AarCore) (r : Nat) : List Lane := c.v.getD r (List.replicate 4 (0, 0))

/-- A vector register written. -/
def AarCore.setV (c : AarCore) (r : Nat) (v : List Lane) : AarCore := { c with v := modAt c.v r (fun _ => v) }

/-- R216 (08): an address, wrapped and aligned down to its access size. -/
def aarAddr (a size : Nat) : Nat := a % 2 ^ 18 / size * size

/-- The 16-bit word at an address of data memory. -/
def AarCore.rd16 (c : AarCore) (a : Nat) : BitVec 16 := BitVec.ofNat 16 (leNat (Store.bytes c.mem (a % 2 ^ 18) 2))

/-- The 32-bit word at an address of data memory. -/
def AarCore.rd32 (c : AarCore) (a : Nat) : BitVec 32 := BitVec.ofNat 32 (leNat (Store.bytes c.mem (a % 2 ^ 18) 4))

/-- Bytes written to data memory; addresses wrap. -/
def AarCore.setMem (c : AarCore) (a : Nat) (bs : List Byte) : AarCore :=
  { c with mem := bs.zipIdx.foldl (fun m (b, i) => Store.set m ((a + i) % 2 ^ 18) b) c.mem }

/-- 16-bit words written to consecutive places. -/
def AarCore.set16s (c : AarCore) (a : Nat) (xs : List (BitVec 16)) : AarCore :=
  c.setMem a (xs.flatMap (fun x => leBytes 2 x.toNat))

/-- 32-bit words written to consecutive places. -/
def AarCore.set32s (c : AarCore) (a : Nat) (xs : List (BitVec 32)) : AarCore :=
  c.setMem a (xs.flatMap (fun x => leBytes 4 x.toNat))

/-- R215 (08): a value narrowed to 16 bits, and 1 where it saturated. -/
def sat16 (x : Int) : BitVec 16 × Nat := (BitVec.ofInt 16 (clampS 16 x), if clampS 16 x = x then 0 else 1)

/-- R215 (08): a value narrowed to 32 bits, signed. -/
def sat32 (x : Int) : BitVec 32 × Nat := (BitVec.ofInt 32 (clampS 32 x), if clampS 32 x = x then 0 else 1)

/-- R229 (08): a value narrowed to 32 bits, unsigned. -/
def satU32 (x : Int) : BitVec 32 × Nat :=
  let y := max 0 (min x (2 ^ 32 - 1))
  (BitVec.ofInt 32 y, if y = x then 0 else 1)

/-- R215 (08): an accumulator, which saturates at ±(2⁴⁷ − 1). -/
def sat48 (x : Int) : Int × Nat :=
  let y := max (-(2 ^ 47 - 1)) (min x (2 ^ 47 - 1))
  (y, if y = x then 0 else 1)

/-- What an instruction counts. -/
structure AarEv where
  sat : Nat := 0
  inv : Nat := 0
  clamp : Nat := 0
  alias_ : Nat := 0
  drop : Nat := 0
  deriving DecidableEq, Repr

/-- R215, R229 to R231, R234 (08): the counters and flags of what an instruction counted. -/
def State.aarCount (s : State) (n : Nat) (e : AarEv) : State :=
  let s := (s.bumpBy (Reg.AAR_C_SAT_CNT n) e.sat).events e.sat Reg.AAR_STAT_SAT
  let s := s.bumpBy (Reg.AAR_C_INV_CNT n) e.inv
  let s := (s.bumpBy (Reg.AAR_C_CLAMP_CNT n) e.clamp).events e.clamp Reg.AAR_STAT_CLAMP
  let s := (s.bumpBy (Reg.AAR_C_DROP_CNT n) e.drop).events e.drop Reg.AAR_STAT_FZONE
  s.events e.alias_ Reg.AAR_STAT_ALIAS

/-- R230 (08): INV inputs also count in ICNT, which saturates. -/
def AarCore.addInv (c : AarCore) (n : Nat) : AarCore := { c with icnt := min (c.icnt + n) (2 ^ 32 - 1) }

/-- R231 (08): the count of an instruction, and whether it was capped. -/
def AarCore.count (c : AarCore) (r nmax : Nat) : Nat × Nat :=
  if r = 0 then (nmax, 0)
  else if nmax < (c.sr r).toNat then (nmax, 1) else ((c.sr r).toNat, 0)

/-! ### One instruction -/

/-- R529, R237 (18, 08): the period of the core clock in picoseconds. -/
def State.corePs (s : State) : Nat := if s.extGrade then 1250 else 1000

/-- R236 (08): the deadline of a core's frame: the instant at which a further frame became ready. -/
def AarCore.deadline (c : AarCore) : Option Nat :=
  match c.frame, c.lastReady with
  | some f, some g => if g.k = f.k then none else some g.readyAt
  | _, _ => none

/-- R214, R217, R228 (08): core `n` issues the instruction `w` if it is the one that its program counter fetches, before its
frame's deadline; `op` is the row's opcode; `stall`: the cycles that forced slots cost it. `f` gives the effect, after the
program counter, the loops and the cycles have moved on. -/
def State.aarStep (s : State) (n : Nat) (w : BitVec 64) (op stall : Nat)
    (f : AarWord → AarCore → AarCore × AarEv) : State :=
  let c := s.core n
  let x := aarFields w
  match c.frame with
  | none => s
  | some fr =>
    let cy := aarCycles x (c.count x.c x.hi).1
    let u := aarUse x cy
    let i := issueAt u c.cyc c.sReady c.vReady c.accReady
    let at_ := fr.readyAt + i * s.corePs
    if c.state = .running && c.fate = .run && n < 32 && s.coreWord n c.pc = w && x.op = op && aarDefined w
        && c.deadline.all (fun d => decide (at_ < d)) && !s.isolatedAt .aar (some n) then
      let s := s.atT at_
      let p := nextPc c.loops c.pc
      let c := { c with
        loops := p.1, pc := p.2, cyc := i + cy + stall, sReady := markReady c.sReady u.sWrite i
        vReady := markReady c.vReady u.vWrite i, accReady := (u.accWrite.map (fun l => i + l)).getD c.accReady }
      let r := f x c
      (s.mapCore n (fun _ => r.1)).aarCount n r.2
    else s

/-! ### Frames (R221 to R227) -/

/-- R187, R221 (06, 08): the tap code of core `n`'s source; above 5: off. -/
def State.coreTap (s : State) (n : Nat) : Nat :=
  if s.coreRd n (Reg.AAR_C_CTL_SRC n) = 1 then s.coreRd n Reg.PFL_TAP_AAR_B else s.coreRd n Reg.PFL_TAP_AAR_A

/-- R221 (08): L of core `n`'s source. -/
def State.coreL (s : State) (n : Nat) : Nat :=
  let k := s.coreRd n (Reg.AAR_C_CTL_SRC n)
  if 1 < k then 1 else 2 ^ min 10 (s.coreRd n (Reg.AAR_TAP_LOG2L k))

/-- R221 (08): H of core `n`'s source. -/
def State.coreH (s : State) (n : Nat) : Nat :=
  let k := s.coreRd n (Reg.AAR_C_CTL_SRC n)
  let l := s.coreL n
  if 1 < k then 1 else if s.coreRd n (Reg.AAR_TAP_HALF k) = 1 then max 1 (l / 2) else l

/-- R221 (08): the decimation of a tap code. -/
def tapD (code : Nat) : Nat := if code = 5 then 1024 else presetD code

/-- R184, R221 (06, 08): the frame carries ACC. -/
def State.coreAcc (s : State) (n : Nat) : Bool := decide (s.coreRd n (Reg.AAR_C_CTL_SRC n) < 2) && s.coreTap n == 5

/-- The staged rows of core `n`'s tap, latest first. -/
def State.coreRows (s : State) (n : Nat) : List StagedRow :=
  if s.coreRd n (Reg.AAR_C_CTL_SRC n) = 1 then s.aar.stageB else s.aar.stageA

/-- R224 (08): TG. -/
def State.coreTG (s : State) (n : Nat) : Nat := max 1 (min 64 (s.coreRd n (Reg.AAR_C_CTL_TG n)))

/-- R224 (08): the groups of the patch. -/
def State.coreGroups (s : State) (n : Nat) : Nat :=
  s.coreRd n (Reg.AAR_C_PATCH_LAST n) + 1 - s.coreRd n (Reg.AAR_C_PATCH_FIRST n)

/-- R224 (08): T. -/
def State.coreT (s : State) (n : Nat) : Nat := ceilDiv (s.coreGroups n) (s.coreTG n)

/-- R221 (08): the rows of frame `k` that are staged. -/
def State.frameRows (s : State) (n k : Nat) : List StagedRow :=
  let lo := k * s.coreH n
  (s.coreRows n).filter (fun r => lo ≤ r.j && r.j < lo + s.coreL n)

/-- The profile of frame `k` of a DTS source. -/
def State.frameProfile (s : State) (k : Nat) : Option DtsProfile := s.dts.profiles.find? (fun p => p.seq == k)

/-- R223 (08): the latest frame of core `n` whose rows are all staged. -/
def State.newestFrame (s : State) (n : Nat) : Option Nat :=
  if s.coreRd n (Reg.AAR_C_CTL_SRC n) = 2 then
    match s.dts.profiles with
    | p :: _ => if p.old && !(s.core n).affected then none else some p.seq
    | [] => none
  else if 5 < s.coreTap n then none
  else
    match s.coreRows n with
    | [] => none
    | r :: _ =>
      let l := s.coreL n
      if r.j + 1 < l then none
      else
        let k := (r.j + 1 - l) / s.coreH n
        if (s.frameRows n k).length = l then some k else none

/-- R227 (08): the header's bytes for a frame of core `n`. -/
def State.frameHeader (s : State) (n : Nat) (f : FrameRef) : List Byte :=
  let c := s.core n
  let rows := s.frameRows n f.k
  let dts := s.coreRd n (Reg.AAR_C_CTL_SRC n) = 2
  let p := s.frameProfile f.k
  let any (g : StagedRow → Bool) (k : Nat) : Nat := if rows.any g then 2 ^ k else 0
  let own := (if c.first then 1 else 0) + (if c.prevOverrun then 2 else 0) + (if c.gap then 4 else 0)
  let flags := own + (if dts then ((p.map (fun p => p.flags)).getD 0) * 2 ^ 8
    else any (fun r => r.isPartial) 3 + any (fun r => r.late) 4 + any (fun r => r.dark) 5)
  let last := rows.head?
  let look := if dts then 0 else ((last.map (fun r => (r.j + 1) * tapD (s.coreTap n) - 1)).getD 0)
  let sweep := if dts then (p.map (fun p => p.lastSweep)).getD 0 else (last.map (fun r => r.sweep)).getD 0
  leBytes 4 f.k ++ leBytes 4 flags ++ leBytes 8 look ++ leBytes 8 sweep ++ leBytes 8 f.time
    ++ f.rates.flatMap (fun r => leBytes 4 r) ++ leBytes 4 f.rateValid ++ leBytes 4 (s.coreT n)
    ++ leBytes 4 (32 * s.coreRd n (Reg.AAR_C_PATCH_FIRST n)) ++ leBytes 4 0

/-- The byte address of core `n`'s header. -/
def State.coreHdr (s : State) (n : Nat) : Nat := s.coreRd n (Reg.AAR_C_HDR_HDR n) * 64

/-- R218, R227, R244, R245 (08): core `n` turns to a frame: while its constants are copied or reloaded the frame only waits for its
deadline; else the feeder writes its header. -/
def State.beginFrame (s : State) (n : Nat) (f : FrameRef) : State :=
  let c := s.core n
  let fate : FrameFate := if c.copySince.isSome then .copying
    else if c.reloadSince.isSome || c.state = .restarting then .reloading else .run
  let s := s.mapCore n (fun c => { c with
    frame := some f, fate := fate, tilesRun := 0, tilesWritten := 0, skipped := false, loops := []
    features := [], cyc := 0, sReady := List.replicate 16 0, vReady := List.replicate 16 0, accReady := 0 })
  if fate = .run then
    let h := s.frameHeader n f
    s.mapCore n (fun c => { c.setMem (s.coreHdr n) h with first := false, prevOverrun := false, gap := false })
  else s

/-! ### Features (R233 to R235, R241, R244) -/

/-- R233 (08): the core that owns zone `z`: the lowest-numbered enabled one whose range holds it. -/
def State.zoneOwner (s : State) (z : Nat) : Option Nat :=
  (List.range 32).find? (fun n => s.coreRd n (Reg.AAR_C_CTL_EN n) == 1 && decide (s.coreRd n (Reg.AAR_C_ZONES_FIRST n) ≤ z)
    && decide (z ≤ s.coreRd n (Reg.AAR_C_ZONES_LAST n)))

/-- R235 (08): the places that core `n` delivers to. -/
def State.corePlaces (s : State) (n : Nat) : List (Nat × Nat) :=
  ((List.range 256).filter (fun z => s.zoneOwner z == some n)).flatMap (fun z =>
    ((List.range 8).filter (fun i => s.coreRd n (Reg.AAR_C_ZONES_FMASK n) / 2 ^ i % 2 == 1)).map (fun i => (z, i)))

/-- R235, R241, R244 (08): a frame's records leave for ZON: the values written, or 0 and invalid; the buffer is cleared. -/
def State.deliverFrame (s : State) (n : Nat) (f : FrameRef) (written overrun : Bool) : State :=
  let c := s.core n
  let rec_ (z i : Nat) : FeatureInput :=
    let x := if written then c.features.find? (fun x => x.zone == z && x.index == i) else none
    { value := (x.map (fun x => x.value)).getD 0, invalid := (x.map (fun x => x.invalid)).getD true, overrun := overrun
      frame := f.k, fresh := true, source := s.coreRd n (Reg.AAR_C_CTL_SRC n), core := n }
  let recs := (s.corePlaces n).map (fun p => (p.1, p.2, rec_ p.1 p.2))
  let s := s.mapAar (fun a => { a with arriving := if recs.isEmpty then a.arriving else a.arriving ++ [recs] })
  s.mapCore n (fun c => { c with features := [] })

/-- A core that is not running waits, or is off (R220). -/
def State.coreIdle (s : State) (n : Nat) : State :=
  s.mapCore n (fun c => { c with
    state := if s.coreRd n (Reg.AAR_C_CTL_EN n) = 1 then .waiting else .off, loops := [] })

/-- FRAME_COMMIT (R235, R242): the FEND run's DONE, and on to the next frame that is ready. -/
def State.commitFrame (s : State) (n : Nat) (f : FrameRef) : State :=
  let cyc := min (2 ^ 32 - 1) (s.core n).cyc
  let s := s.deliverFrame n f true false
  let s := (s.bump (Reg.AAR_C_FRAME_CNT n)).wr (Reg.AAR_C_FRAME_K n) (f.k % 2 ^ 32)
  let s := s.wr (Reg.AAR_C_CYC_LAST n) cyc
  let s := s.wr (Reg.AAR_C_CYC_MAX n) (max cyc (s.rd (Reg.AAR_C_CYC_MAX n)))
  let s := s.mapCore n (fun c => { c with frame := none })
  match (s.core n).lastReady with
  | some g => if g.k = f.k then s else s.beginFrame n g
  | none => s

/-- FRAME_OVERRUN (R241, R244, R245): the deadline of a frame that has not been committed. -/
def State.overrunFrame (s : State) (n : Nat) (f g : FrameRef) : State :=
  let fate := (s.core n).fate
  let s := s.deliverFrame n f false (fate != .copying)
  let s := if fate = .copying then s.mapCore n (fun c => { c with gap := true })
    else
      let s := (s.bump (Reg.AAR_C_OVR_CNT n)).event [Reg.AAR_STAT_OVERRUN]
      s.mapCore n (fun c => { c with prevOverrun := true, gap := c.gap || fate = .reloading })
  let s := if (s.core n).state = .restarting then s else s.coreIdle n
  s.beginFrame n g

/-! ### Budgets (R237 to R239) -/

/-- Where a path through a program stands. -/
structure PathAt where
  pc : Nat
  cyc : Nat := 0
  loops : List LoopFrame := []
  sReady : List Nat := List.replicate 16 0
  vReady : List Nat := List.replicate 16 0
  accReady : Nat := 0
  deriving DecidableEq, Repr

/-- R238 (08): the most cycles to the end of a run from here: each branch both ways, each loop and each block instruction at
NMAX, with the waits of R228; `fuel` bounds the path. -/
def worstCycles (code : Nat → BitVec 64) (fuel : Nat) (p : PathAt) : Nat :=
  match fuel with
  | 0 => p.cyc
  | fuel + 1 =>
    let w := aarFields (code p.pc)
    let cy := aarCycles w w.hi
    let u := aarUse w cy
    let i := issueAt u p.cyc p.sReady p.vReady p.accReady
    let n := nextPc p.loops p.pc
    let q : PathAt :=
      { pc := n.2, cyc := i + cy, loops := n.1, sReady := markReady p.sReady u.sWrite i
        vReady := markReady p.vReady u.vWrite i, accReady := (u.accWrite.map (fun l => i + l)).getD p.accReady }
    match w.op with
    | 0x01 => q.cyc
    | 0x02 => worstCycles code fuel { q with pc := w.target }
    | 0x03 => max (worstCycles code fuel q) (worstCycles code fuel { q with pc := w.target, cyc := q.cyc + 1 })
    | 0x04 =>
      if w.hi = 0 then
        let z := nextPc p.loops w.target
        worstCycles code fuel { q with pc := z.2, loops := z.1 }
      else worstCycles code fuel { q with loops := { first := p.pc + 1, last := w.target, left := w.hi } :: p.loops }
    | _ => worstCycles code fuel q

/-- A tuning as the budget reads it: its register words and its memories. -/
structure TuningView where
  g : Nat → Word
  m : List Host.Cell

/-- The staged tuning. -/
def State.stageView (s : State) : TuningView := { g := s.stageWord, m := s.mems.stage }

/-- The active tuning. -/
def State.activeView (s : State) : TuningView := { g := s.tuned, m := s.mems.act }

/-- A field of a tuning. -/
def TuningView.rd (v : TuningView) (f : Field) : Nat := f.read v.g

/-- Core `n`'s instruction word in a tuning. -/
def TuningView.word (v : TuningView) (n pc : Nat) : BitVec 64 :=
  BitVec.ofNat 64 (leNat (Store.bytes v.m (codeBase + n * 0x8000 + 8 * pc) 8))

/-- The cores that a tuning enables. -/
def TuningView.enabled (v : TuningView) : List Nat := (List.range 32).filter (fun n => v.rd (Reg.AAR_C_CTL_EN n) == 1)

/-- R221 (08): tap code, L and H of core `n` in a tuning. -/
def TuningView.tap (v : TuningView) (n : Nat) : Nat × Nat × Nat :=
  let k := v.rd (Reg.AAR_C_CTL_SRC n)
  let l := if 1 < k then 1 else 2 ^ min 10 (v.rd (Reg.AAR_TAP_LOG2L k))
  let h := if 1 < k then 1 else if v.rd (Reg.AAR_TAP_HALF k) = 1 then max 1 (l / 2) else l
  (if k = 1 then v.rd Reg.PFL_TAP_AAR_B else v.rd Reg.PFL_TAP_AAR_A, l, h)

/-- R224 (08): the bytes of a full tile. -/
def TuningView.tileBytes (v : TuningView) (n : Nat) : Nat :=
  let t := v.tap n
  let acc := v.rd (Reg.AAR_C_CTL_SRC n) < 2 && t.1 = 5
  max 1 (min 64 (v.rd (Reg.AAR_C_CTL_TG n))) * 32 * t.2.1 * (if acc then 6 else 2)

/-- R239 (08): the regions of core `n`: first byte and length. -/
def TuningView.regions (v : TuningView) (n : Nat) : List (Nat × Nat) :=
  let tb := v.tileBytes n
  [(v.rd (Reg.AAR_C_BUF_BUF0 n) * 64, tb), (v.rd (Reg.AAR_C_BUF_BUF1 n) * 64, tb), (v.rd (Reg.AAR_C_HDR_HDR n) * 64, 64)]
    ++ ((List.range 4).map (fun i => constRegion v.g n i)).filter (fun r => r.2 != 0)

/-- Two regions share a byte. -/
def overlap (a b : Nat × Nat) : Bool := decide (a.1 < b.1 + b.2) && decide (b.1 < a.1 + a.2)

/-- Some two of the regions share a byte. -/
def anyOverlap (rs : List (Nat × Nat)) : Bool :=
  match rs with
  | [] => false
  | r :: q => q.any (overlap r) || anyOverlap q

/-- R239 (08): the static budget of core `n`; none: it is unbounded. -/
def TuningView.budget (v : TuningView) (n : Nat) : Option Nat :=
  let rs := v.regions n
  if anyOverlap rs || rs.any (fun r => decide (2 ^ 18 < r.1 + r.2)) then none
  else
    let run (e : Field) : Nat := worstCycles (v.word n) (2 ^ 80) { pc := v.rd e }
    let tb := v.tileBytes n
    let sharing := (v.enabled.filter (fun m => v.rd (Reg.AAR_C_CTL_SRC m) == v.rd (Reg.AAR_C_CTL_SRC n))).length
    let ft := tb * sharing / 4
    let groups := v.rd (Reg.AAR_C_PATCH_LAST n) + 1 - v.rd (Reg.AAR_C_PATCH_FIRST n)
    let tiles := ceilDiv groups (max 1 (min 64 (v.rd (Reg.AAR_C_CTL_TG n))))
    some (run (Reg.AAR_C_ENTRY_INIT n) + ft + tiles * max (run (Reg.AAR_C_ENTRY_TILE n) + tb / 16) ft
      + run (Reg.AAR_C_ENTRY2_FEND n))

/-- R237 (08): the frame period in core cycles, as a fraction; `ps` is the core clock's period. -/
def TuningView.framePeriod (v : TuningView) (n ps : Nat) : Nat × Nat :=
  let t := v.tap n
  let per := v.rd Reg.PSQ_PERIOD_TICKS * tick
  let slots := ((List.range 8).filter (fun k => v.rd (Reg.PSY_SLOT_EN k) == 1)).length
  if v.rd (Reg.AAR_C_CTL_SRC n) = 2 then (2 ^ v.rd Reg.DTS_CTL_ACC_LOG2 * per, ps)
  else (t.2.2 * tapD t.1 * per, ps * slots)

/-- AAR.Cn_BUDGET (R239): B of the active tuning, 0 for a core that is disabled. -/
def State.budgetOf (s : State) (n : Nat) : Nat :=
  if s.activeView.enabled.contains n then
    match s.activeView.budget n with
    | some b => min (2 ^ 32 - 1) b
    | none => 2 ^ 32 - 1
  else 0

/-- AAR.LOAD: the largest B / P in 1/1 000 over the enabled cores, and the core. -/
def State.aarLoad (s : State) : Nat × Nat :=
  s.activeView.enabled.foldl (fun a n =>
    let p := s.activeView.framePeriod n s.corePs
    let x := min 1023 (s.budgetOf n * 1000 * p.2 / max 1 p.1)
    if a.1 < x then (x, n) else a) (0, 0)

/-! ### CK16 and CK17 -/

/-- R232 (08): the addresses that can follow the instruction at `a`. -/
def successors (w : AarWord) (a : Nat) : List Nat :=
  match w.op with
  | 0x01 => []
  | 0x02 => [w.target]
  | 0x03 => [a + 1, w.target]
  | 0x04 => [a + 1, w.target + 1]
  | _ => [a + 1]

/-- R232 (08): the reachable addresses of core `n`'s program: every step goes forward, so that one pass finds them. -/
def TuningView.reachable (v : TuningView) (n : Nat) : List Nat :=
  let from_ := [v.rd (Reg.AAR_C_ENTRY_INIT n), v.rd (Reg.AAR_C_ENTRY_TILE n), v.rd (Reg.AAR_C_ENTRY2_FEND n)]
  (List.range 4096).foldl (fun r a =>
    if r.contains a then r ++ (successors (aarFields (v.word n a)) a).filter (fun b => !r.contains b) else r) from_

/-- R232 (08): core `n`'s program holds a reachable undefined encoding. -/
def TuningView.programBad (v : TuningView) (n : Nat) : Bool :=
  let rs := (v.reachable n).filter (fun a => a < 4096)
  let at_ (a : Nat) : AarWord := aarFields (v.word n a)
  let loops := (rs.filter (fun a => (at_ a).op == 4)).map (fun a => (a, (at_ a).target))
  let inside (l : Nat × Nat) (a : Nat) : Bool := decide (l.1 < a) && decide (a ≤ l.2)
  rs.any (fun a => !aarDefined (v.word n a))
    || rs.any (fun a => ((at_ a).op == 2 || (at_ a).op == 3 || (at_ a).op == 4) && decide ((at_ a).target ≤ a))
    || rs.any (fun a => ((at_ a).op == 2 || (at_ a).op == 3)
        && loops.any (fun l => inside l a != inside l (at_ a).target))
    || loops.any (fun l => loops.any (fun k => inside l k.1 && decide (l.2 < k.2)))
    || loops.any (fun l => decide (4 < (loops.filter (fun k => k == l || inside k l.1)).length))
    || rs.any (fun a => a == 4095 && (at_ a).op != 1)

/-- CK16 (R232). -/
def State.ck16 (s : State) : Option Nat :=
  let v := s.stageView
  v.enabled.find? (fun n => v.rd (Reg.AAR_C_CTL_SRC n) == 3 || v.programBad n)

/-- CK17 (R239). -/
def State.ck17 (s : State) : Option Nat :=
  let v := s.stageView
  v.enabled.find? (fun n => match v.budget n with
    | none => true
    | some b =>
      let p := v.framePeriod n s.corePs
      decide (95 * p.1 < 100 * b * p.2))

end Sys2Proof.Machine
end

