-- ==== Sys2Proof/Machine/Array.lean ====
section
/-! DEFINITION. The rows of AAR (08): frames, tiles and runs, the vector instructions, switches, constants, and features on
their way to ZON. -/

namespace Sys2Proof.Machine

/-! ### Frames and runs -/

/-- FRAME_READY, R223, R227, R236: the core's next frame is ready; it begins at once unless the frame before it has not been
committed, whose deadline this is. -/
def execFrameReady (n : Nat) (t : Instant) (s : State) : Host.Outcome State Fault Refusal :=
  let s := s.atT t
  let c := s.core n
  if s.coreRd n (Reg.AAR_C_CTL_EN n) = 0 || 32 ≤ n || c.deadline.isSome then .next s
  else
    match s.newestFrame n with
    | none => .next s
    | some k =>
      if c.lastReady.any (fun g => decide (k ≤ g.k)) then .next s
      else
        let rates := s.tiu.units.map (fun u => u.rate)
        let ok := s.tiu.units.zipIdx.foldl (fun a (u, i) => if u.rateValid then a + 2 ^ i else a) 0
        let f : FrameRef := { k := k, readyAt := s.now, time := s.devTime, rates := rates, rateValid := ok }
        let gap := c.lastReady.any (fun g => decide (g.k + 1 < k))
        let s := s.mapCore n (fun c => { c with lastReady := some f, gap := c.gap || gap })
        .next (if c.frame.isNone then s.beginFrame n f else s)

/-- R224 (08): the samples that a tile of core `n` holds: local position q at time t. -/
def State.tileSample (s : State) (n k g t q : Nat) (bad : List (Nat × Nat)) : BitVec 16 × BitVec 32 :=
  let group := s.coreRd n (Reg.AAR_C_PATCH_FIRST n) + g + q / 32
  let pos := 32 * (s.coreRd n (Reg.AAR_C_PATCH_FIRST n) + g) + q
  if bad.contains (t, group) then (0x8000, 0)
  else if s.coreRd n (Reg.AAR_C_CTL_SRC n) = 2 then
    let lo := s.coreRd n Reg.PHS_RANGE_CAPO
    let hi := s.coreRd n Reg.PHS_RANGE_END
    if lo / 32 ≤ group ∧ group ≤ hi / 32 then (((s.frameProfile k).map (fun p => p.temps.getD pos 0x8000)).getD 0x8000, 0)
    else (0x8000, 0)
  else
    match (s.frameRows n k).find? (fun r => r.j == k * s.coreH n + t) with
    | some r => ((r.samples.find? (fun x => x.1 == pos)).map (fun x => x.2)).getD (0x8000, 0)
    | none => (0x8000, 0)

/-- TILE_WRITTEN, R224 to R226: the feeder has written the core's next tile; `bad`: the staged lines (time, group) that carried
an uncorrectable error. A buffer is written only after the run that used it. -/
def execTileWritten (n : Nat) (bad : List (Nat × Nat)) (t : Instant) (s : State) : Host.Outcome State Fault Refusal :=
  let s := s.atT t
  let c := s.core n
  match c.frame with
  | none => .next s
  | some f =>
    let i := c.tilesWritten
    if c.fate != .run || c.skipped || s.coreT n ≤ i || c.tilesRun + 2 ≤ i || c.deadline.isSome
        || s.isolatedAt .aar (some n) then .next s
    else
      let tg := s.coreTG n
      let l := s.coreL n
      let g := i * tg
      let size := min tg (s.coreGroups n - g)
      let base := s.coreRd n (if i % 2 = 0 then Reg.AAR_C_BUF_BUF0 n else Reg.AAR_C_BUF_BUF1 n) * 64
      let lines := bad.filter (fun b => b.1 < l && (let k := s.coreRd n (Reg.AAR_C_PATCH_FIRST n) + g
        k ≤ b.2 && b.2 < k + size))
      let cells := (List.range (32 * size)).flatMap (fun q => (List.range l).map (fun u => s.tileSample n f.k g u q lines))
      let acc := s.coreAcc n
      let s := s.mapCore n (fun c =>
        let c := c.set16s base (cells.map (fun x => x.1))
        let c := if acc then c.set32s (base + 64 * tg * l) (cells.map (fun x => x.2)) else c
        let h := s.coreHdr n + 4
        let c := if lines.isEmpty then c else c.set32s h [c.rd32 h ||| 0x40]
        { c with tilesWritten := i + 1 })
      .next ((s.bumpBy Reg.AAR_ECC_CNT_COUNT lines.length).events lines.length Reg.AAR_STAT_ECC)

/-- R218, R219 (08): a run starts at its entry with S1 and S2 preset. -/
def AarCore.startRun (c : AarCore) (r : RunKind) (entry s1 s2 cyc : Nat) : AarCore :=
  let c := if r = .init then
      { c with
        s := List.replicate 16 0, v := List.replicate 16 (List.replicate 4 (0, 0)), accRe := [0, 0, 0, 0]
        accIm := [0, 0, 0, 0], icnt := 0 }
    else c
  { (c.setS 1 (BitVec.ofNat 32 s1)).setS 2 (BitVec.ofNat 32 s2) with
    state := .running, run := r, pc := entry, loops := [], cyc := max c.cyc cyc }

/-- RUN_START, R218, R219, R225: the core's next run: INIT where it is required, then a TILE run for each tile that is written,
then FEND. -/
def execRunStart (n : Nat) (t : Instant) (s : State) : Host.Outcome State Fault Refusal :=
  let s := s.atT t
  let c := s.core n
  match c.frame with
  | none => .next s
  | some f =>
    if c.fate != .run || c.state != .waiting || c.deadline.isSome || s.isolatedAt .aar (some n) then .next s
    else
      let cyc := (s.now - f.readyAt + s.corePs - 1) / s.corePs
      let hdr := s.coreHdr n
      if c.needInit then
        .next (s.mapCore n (fun c => c.startRun .init (s.coreRd n (Reg.AAR_C_ENTRY_INIT n)) 0 hdr cyc))
      else if c.tilesRun < s.coreT n && !c.skipped then
        if c.tilesRun < c.tilesWritten then
          let buf := s.coreRd n (if c.tilesRun % 2 = 0 then Reg.AAR_C_BUF_BUF0 n else Reg.AAR_C_BUF_BUF1 n) * 64
          .next (s.mapCore n (fun c => c.startRun .tile (s.coreRd n (Reg.AAR_C_ENTRY_TILE n)) c.tilesRun buf cyc))
        else .next s
      else .next (s.mapCore n (fun c => c.startRun .fend (s.coreRd n (Reg.AAR_C_ENTRY2_FEND n)) c.tilesRun hdr cyc))

/-- FRAME_OVERRUN, R241, R244, R245: a frame that has not been committed by its deadline. -/
def execFrameOverrun (n : Nat) (t : Instant) (s : State) : Host.Outcome State Fault Refusal :=
  let s := s.atT t
  let c := s.core n
  match c.frame, c.lastReady with
  | some f, some g => if c.deadline.isSome then .next (s.overrunFrame n f g) else .next s
  | _, _ => .next s

/-! ### Switches, constants and restarts (R243 to R245) -/

/-- R244, R245 (08): data memory and its constant image with the constant regions `rs` taken from `src`, whose addresses are
the core's plus `off`. -/
def AarCore.loadConst (c : AarCore) (rs : List (Nat × Nat)) (src : List Host.Cell) (off : Nat) : AarCore :=
  rs.foldl (fun c r =>
    let bs := Store.bytes src (off + r.1) r.2
    { c with
      mem := Store.setBytes (Store.drop c.mem r.1 (r.1 + r.2)) r.1 bs
      constImage := Store.setBytes (Store.drop c.constImage r.1 (r.1 + r.2)) r.1 bs }) c

/-- The constant regions of core `n` in the active tuning. -/
def State.constRegions (s : State) (n : Nat) : List (Nat × Nat) := (List.range 4).map (fun i => constRegion s.tuned n i)

/-- R243 (08): the frame in progress of a core that switches is abandoned. -/
def State.abandonFrame (s : State) (n : Nat) : State :=
  match (s.core n).frame with
  | some f => s.deliverFrame n f false ((s.core n).fate == .reloading)
  | none => s

/-- CORE_SWITCH, R243, R244: an affected core switches: its frame in progress is abandoned, and its constants are copied. -/
def execCoreSwitch (n : Nat) (t : Instant) (s : State) : Host.Outcome State Fault Refusal :=
  let s := s.atT t
  let c := s.core n
  if c.affected && c.switchDue.isSome then
    let s := s.abandonFrame n
    let s := s.mapCore n (fun c => { c with
      affected := false, switchDue := none, frame := none, lastReady := none, needInit := true, first := true, gap := true
      features := [], copySince := some s.now })
    .next (if (s.core n).state = .restarting then s else s.coreIdle n)
  else .next s

/-- CONST_COPY_DONE, R244: the constant regions of the stage copy stand in data memory and in the active constant image. -/
def execConstCopyDone (n : Nat) (t : Instant) (s : State) : Host.Outcome State Fault Refusal :=
  let s := s.atT t
  if (s.core n).copySince.isSome then
    .next (s.mapCore n (fun c => { (c.loadConst (s.constRegions n) s.mems.stage (dataBase + n * 0x40000)) with copySince := none }))
  else .next s

/-- CONST_RELOAD_DONE, R245: the constants come from the active constant image, and the core waits. -/
def execConstReloadDone (n : Nat) (t : Instant) (s : State) : Host.Outcome State Fault Refusal :=
  let s := s.atT t
  if (s.core n).reloadSince.isSome then
    .next ((s.mapCore n (fun c => { (c.loadConst (s.constRegions n) c.constImage 0) with
      reloadSince := none, needInit := true, first := true })).coreIdle n)
  else .next s

/-- RELOAD_FAIL, R245, R246. -/
def execReloadFail (n : Nat) (t : Instant) (s : State) : Host.Outcome State Fault Refusal :=
  let s := s.atT t
  if (s.core n).reloadSince.any (fun r => decide (r + 2 * ms < s.now)) then .next (s.blockFault .aar (some n) 3 0)
  else .next s

/-- R252 (09): one record reaches its zone unit; one not yet latched is replaced and counted. -/
def State.giveFeature (s : State) (z i : Nat) (x : FeatureInput) : State :=
  if s.isolatedAt .zon (some z) then s
  else
    let was := (((s.zon.units.getD z {}).f).getD i {}).fresh
    let s := s.mapZon (fun q => { q with units := modAt q.units z (fun u => { u with f := modAt u.f i (fun _ => x) }) })
    if was then (s.event [Reg.ZON_STAT_FEAT_OVW]).bump Reg.ZON_FEAT_OVW_CNT else s

/-- FEATURE_RECORD_ARRIVAL, R235, R252: the oldest commit's records reach their zone units together. -/
def execFeatureRecordArrival (t : Instant) (s : State) : Host.Outcome State Fault Refusal :=
  let s := s.atT t
  match s.aar.arriving with
  | [] => .next s
  | b :: r => .next (b.foldl (fun s x => s.giveFeature x.1 x.2.1 x.2.2) (s.mapAar (fun a => { a with arriving := r })))

/-! ### Control instructions (R218, R228, R231) -/

/-- NOP, R228. -/
def execAarNop (n : Nat) (w : BitVec 64) (stall : Nat) (s : State) : Host.Outcome State Fault Refusal :=
  .next (s.aarStep n w 0x00 stall (fun x c =>
    let _ := x
    (c, {})))

/-- R218, R235 (08): the end of a run. -/
def State.endRun (s : State) (n : Nat) (skip : Bool) : State :=
  let c := s.core n
  let s := s.mapCore n (fun c => { c with
    state := .waiting, loops := []
    needInit := if c.run = .init then false else c.needInit
    tilesRun := if c.run = .tile then c.tilesRun + 1 else c.tilesRun
    skipped := c.skipped || (skip && c.run = .tile) })
  match c.run, c.frame with
  | .fend, some f => s.commitFrame n f
  | _, _ => s

/-- DONE, R218, R235: it ends the run; in FEND it commits the frame. -/
def execAarDone (n : Nat) (w : BitVec 64) (stall : Nat) (s : State) : Host.Outcome State Fault Refusal :=
  let s' := s.aarStep n w 0x01 stall (fun _ c => ({ c with state := .waiting }, {}))
  if (s.core n).state = .running && (s'.core n).state = .waiting then .next (s'.endRun n ((aarFields w).lo / 2 ^ 12 % 2 = 1))
  else .next s'

/-- JMP, R228. -/
def execAarJmp (n : Nat) (w : BitVec 64) (stall : Nat) (s : State) : Host.Outcome State Fault Refusal :=
  .next (s.aarStep n w 0x02 stall (fun x c =>
    ({ c with pc := x.target }, {})))

/-- R228 (08): a branch's condition. -/
def branchTaken (cond : Nat) (a b : BitVec 32) : Bool :=
  match cond with
  | 0 => a == b
  | 1 => a != b
  | 2 => a.slt b
  | 3 => !a.slt b
  | 4 => a.ult b
  | _ => !a.ult b

/-- BR, R228: taken, it costs one cycle more. -/
def execAarBr (n : Nat) (w : BitVec 64) (stall : Nat) (s : State) : Host.Outcome State Fault Refusal :=
  .next (s.aarStep n w 0x03 stall (fun x c =>
    (if branchTaken x.b (c.sr x.d) (c.sr x.a) then { c with pc := x.target, cyc := c.cyc + 1 } else c, {})))

/-- LOOP, R231: the body runs count times; a count of 0 resumes after it. -/
def execAarLoop (n : Nat) (w : BitVec 64) (stall : Nat) (s : State) : Host.Outcome State Fault Refusal :=
  .next (s.aarStep n w 0x04 stall (fun x c =>
    let k := c.count x.d x.hi
    if k.1 = 0 then
      let z := nextPc c.loops x.target
      ({ c with pc := z.2, loops := z.1 }, { clamp := k.2 })
    else ({ c with loops := { first := c.pc, last := x.target, left := k.1 } :: c.loops }, { clamp := k.2 })))

/-! ### Scalar instructions (R215, R228) -/

/-- SLI, R228. -/
def execAarSli (n : Nat) (w : BitVec 64) (stall : Nat) (s : State) : Host.Outcome State Fault Refusal :=
  .next (s.aarStep n w 0x10 stall (fun x c =>
    (c.setS x.d x.imm, {})))

/-- R228 (08): B of format S. -/
def AarCore.opB (c : AarCore) (x : AarWord) : BitVec 32 := c.sr x.b + x.imm

/-- SADD, R215: it wraps modulo 2³². -/
def execAarSadd (n : Nat) (w : BitVec 64) (stall : Nat) (s : State) : Host.Outcome State Fault Refusal :=
  .next (s.aarStep n w 0x11 stall (fun x c =>
    (c.setS x.d (c.sr x.a + c.opB x), {})))

/-- SSUB, R215: it wraps modulo 2³². -/
def execAarSsub (n : Nat) (w : BitVec 64) (stall : Nat) (s : State) : Host.Outcome State Fault Refusal :=
  .next (s.aarStep n w 0x12 stall (fun x c =>
    (c.setS x.d (c.sr x.a - c.opB x), {})))

/-- SMUL, R215: the low 32 bits. -/
def execAarSmul (n : Nat) (w : BitVec 64) (stall : Nat) (s : State) : Host.Outcome State Fault Refusal :=
  .next (s.aarStep n w 0x13 stall (fun x c =>
    (c.setS x.d (c.sr x.a * c.opB x), {})))

/-- SMULQ, R215: it saturates. -/
def execAarSmulq (n : Nat) (w : BitVec 64) (stall : Nat) (s : State) : Host.Outcome State Fault Refusal :=
  .next (s.aarStep n w 0x14 stall (fun x c =>
    let r := sat32 ((c.sr x.a).toInt * (c.opB x).toInt / 2 ^ 16)
    (c.setS x.d r.1, { sat := r.2 })))

/-- SSHL, R215. -/
def execAarSshl (n : Nat) (w : BitVec 64) (stall : Nat) (s : State) : Host.Outcome State Fault Refusal :=
  .next (s.aarStep n w 0x15 stall (fun x c =>
    (c.setS x.d (c.sr x.a <<< (x.lo % 32)), {})))

/-- SSHR, R215: arithmetic. -/
def execAarSshr (n : Nat) (w : BitVec 64) (stall : Nat) (s : State) : Host.Outcome State Fault Refusal :=
  .next (s.aarStep n w 0x16 stall (fun x c =>
    (c.setS x.d ((c.sr x.a).sshiftRight (x.lo % 32)), {})))

/-- SAND, R228. -/
def execAarSand (n : Nat) (w : BitVec 64) (stall : Nat) (s : State) : Host.Outcome State Fault Refusal :=
  .next (s.aarStep n w 0x17 stall (fun x c =>
    (c.setS x.d (c.sr x.a &&& c.opB x), {})))

/-- SOR, R228. -/
def execAarSor (n : Nat) (w : BitVec 64) (stall : Nat) (s : State) : Host.Outcome State Fault Refusal :=
  .next (s.aarStep n w 0x18 stall (fun x c =>
    (c.setS x.d (c.sr x.a ||| c.opB x), {})))

/-- SMIN, R228: signed. -/
def execAarSmin (n : Nat) (w : BitVec 64) (stall : Nat) (s : State) : Host.Outcome State Fault Refusal :=
  .next (s.aarStep n w 0x19 stall (fun x c =>
    (c.setS x.d (if (c.sr x.a).slt (c.opB x) then c.sr x.a else c.opB x), {})))

/-- SMAX, R228: signed. -/
def execAarSmax (n : Nat) (w : BitVec 64) (stall : Nat) (s : State) : Host.Outcome State Fault Refusal :=
  .next (s.aarStep n w 0x1A stall (fun x c =>
    (c.setS x.d (if (c.sr x.a).slt (c.opB x) then c.opB x else c.sr x.a), {})))

/-- SLD, R216, R228. -/
def execAarSld (n : Nat) (w : BitVec 64) (stall : Nat) (s : State) : Host.Outcome State Fault Refusal :=
  .next (s.aarStep n w 0x1B stall (fun x c =>
    (c.setS x.d (c.rd32 (aarAddr ((c.sr x.a) + x.imm).toNat 4)), {})))

/-- SST, R216, R228. -/
def execAarSst (n : Nat) (w : BitVec 64) (stall : Nat) (s : State) : Host.Outcome State Fault Refusal :=
  .next (s.aarStep n w 0x1C stall (fun x c =>
    (c.set32s (aarAddr ((c.sr x.a) + x.imm).toNat 4) [c.sr x.b], {})))

/-- SRD, R228: the special registers; the cycles since R_k are those at issue, saturating. -/
def execAarSrd (n : Nat) (w : BitVec 64) (stall : Nat) (s : State) : Host.Outcome State Fault Refusal :=
  let issue := issueAt (aarUse (aarFields w) 1) (s.core n).cyc (s.core n).sReady (s.core n).vReady (s.core n).accReady
  .next (s.aarStep n w 0x1D stall (fun x c =>
    let v : Nat := match x.lo % 16 with
      | 0 => c.icnt
      | 1 => n
      | 2 => min issue (2 ^ 32 - 1)
      | _ => ((c.frame.map (fun f => f.k)).getD 0) % 2 ^ 32
    let c := if x.lo / 2 ^ 8 % 2 = 1 then { c with icnt := 0 } else c
    (c.setS x.d (BitVec.ofNat 32 v), {})))

/-- FOUT, R234: the feature buffer's entry, or dropped. -/
def execAarFout (n : Nat) (w : BitVec 64) (stall : Nat) (s : State) : Host.Outcome State Fault Refusal :=
  let places := s.corePlaces n
  .next (s.aarStep n w 0x3F stall (fun x c =>
    let z := (c.sr x.a).toNat
    let i := x.lo % 8
    if places.contains (z, i) then
      let y : Feature :=
        { zone := z, index := i, value := c.sr x.b, invalid := x.lo / 2 ^ 8 % 2 = 1 || c.sr x.c != 0 }
      ({ c with features := c.features.filter (fun f => !(f.zone == z && f.index == i)) ++ [y] }, {})
    else (c, { drop := 1 })))

/-! ### Vector instructions (R215, R228) -/

/-- R228, R230 (08): four real words as lanes, 0x8000 taken as 0 and counted under INV. -/
def AarCore.loadReal (c : AarCore) (a : Nat) (inv : Bool) : List Lane × Nat :=
  let xs := (List.range 4).map (fun i => c.rd16 (a + 2 * i))
  (xs.map (fun v => (if inv && v == 0x8000 then 0 else v, 0)), if inv then (xs.filter (fun v => v == 0x8000)).length else 0)

/-- R228 (08): S[SA] moves on by INC after the access. -/
def AarCore.step (c : AarCore) (x : AarWord) : AarCore := c.setS x.c (c.sr x.c + BitVec.ofInt 32 (signed 16 x.lo))

/-- R216, R228 (08): the address of a vector access. -/
def AarCore.vecAddr (c : AarCore) (x : AarWord) (size : Nat) : Nat :=
  aarAddr ((c.sr x.c) + BitVec.ofInt 32 (signed 16 x.hi)).toNat size

/-- VLD, R216, R228, R230. -/
def execAarVld (n : Nat) (w : BitVec 64) (stall : Nat) (s : State) : Host.Outcome State Fault Refusal :=
  .next (s.aarStep n w 0x20 stall (fun x c =>
    if x.mode = 0 then
      let a := c.vecAddr x 16
      ((c.setV x.d ((List.range 4).map (fun i => (c.rd16 (a + 4 * i), c.rd16 (a + 4 * i + 2))))).step x, {})
    else
      let r := c.loadReal (c.vecAddr x 8) (x.mode == 2)
      (((c.setV x.d r.1).addInv r.2).step x, { inv := r.2 })))

/-- VST, R216, R228. -/
def execAarVst (n : Nat) (w : BitVec 64) (stall : Nat) (s : State) : Host.Outcome State Fault Refusal :=
  .next (s.aarStep n w 0x21 stall (fun x c =>
    let v := c.vr x.d
    let c := if x.mode = 0 then c.set16s (c.vecAddr x 16) (v.flatMap (fun l => [l.1, l.2]))
      else c.set16s (c.vecAddr x 8) (v.map (fun l => l.1))
    (c.step x, {})))

/-- R215 (08): the exact complex product of two lanes, the second conjugated where `conj`. -/
def laneMul (a b : Lane) (conj : Bool) : Int × Int :=
  let bi := if conj then -b.2.toInt else b.2.toInt
  (a.1.toInt * b.1.toInt - a.2.toInt * bi, a.1.toInt * bi + a.2.toInt * b.1.toInt)

/-- Lanes from exact values, each part narrowed to 16 bits, with the saturations. -/
def narrow (xs : List (Int × Int)) : List Lane × Nat :=
  (xs.map (fun p => ((sat16 p.1).1, (sat16 p.2).1)), xs.foldl (fun k p => k + (sat16 p.1).2 + (sat16 p.2).2) 0)

/-- VMUL and VCMUL, R215. -/
def AarCore.vmul (c : AarCore) (x : AarWord) (conj : Bool) : AarCore × AarEv :=
  let r := narrow ((List.zip (c.vr x.a) (c.vr x.b)).map (fun p =>
    let q := laneMul p.1 p.2 conj
    (q.1 / 2 ^ (15 + x.sh), q.2 / 2 ^ (15 + x.sh))))
  (c.setV x.d r.1, { sat := r.2 })

/-- VADD and VSUB, R215, R228: `k` is 1 or −1. -/
def AarCore.vadd (c : AarCore) (x : AarWord) (k : Int) : AarCore × AarEv :=
  let r := narrow ((List.zip (c.vr x.a) (c.vr x.b)).map (fun p =>
    ((p.1.1.toInt + k * p.2.1.toInt) / 2 ^ x.sh, (p.1.2.toInt + k * p.2.2.toInt) / 2 ^ x.sh)))
  (c.setV x.d r.1, { sat := r.2 })

/-- VMAC and VMACC, R215. -/
def AarCore.vmac (c : AarCore) (x : AarWord) (conj : Bool) : AarCore × AarEv :=
  let ps := (List.zip (c.vr x.a) (c.vr x.b)).map (fun p => laneMul p.1 p.2 conj)
  let re := (List.zip c.accRe ps).map (fun y => sat48 (y.1 + y.2.1))
  let im := (List.zip c.accIm ps).map (fun y => sat48 (y.1 + y.2.2))
  ({ c with accRe := re.map (fun y => y.1), accIm := im.map (fun y => y.1) },
    { sat := (re ++ im).foldl (fun k y => k + y.2) 0 })

/-- VMUL, R215, R228. -/
def execAarVmul (n : Nat) (w : BitVec 64) (stall : Nat) (s : State) : Host.Outcome State Fault Refusal :=
  .next (s.aarStep n w 0x22 stall (fun x c =>
    c.vmul x false))

/-- VCMUL, R215, R228. -/
def execAarVcmul (n : Nat) (w : BitVec 64) (stall : Nat) (s : State) : Host.Outcome State Fault Refusal :=
  .next (s.aarStep n w 0x23 stall (fun x c =>
    c.vmul x true))

/-- VADD, R228. -/
def execAarVadd (n : Nat) (w : BitVec 64) (stall : Nat) (s : State) : Host.Outcome State Fault Refusal :=
  .next (s.aarStep n w 0x24 stall (fun x c =>
    c.vadd x 1))

/-- VSUB, R228. -/
def execAarVsub (n : Nat) (w : BitVec 64) (stall : Nat) (s : State) : Host.Outcome State Fault Refusal :=
  .next (s.aarStep n w 0x25 stall (fun x c =>
    c.vadd x (-1)))

/-- VMAC, R215. -/
def execAarVmac (n : Nat) (w : BitVec 64) (stall : Nat) (s : State) : Host.Outcome State Fault Refusal :=
  .next (s.aarStep n w 0x26 stall (fun x c =>
    c.vmac x false))

/-- VMACC, R215. -/
def execAarVmacc (n : Nat) (w : BitVec 64) (stall : Nat) (s : State) : Host.Outcome State Fault Refusal :=
  .next (s.aarStep n w 0x27 stall (fun x c =>
    c.vmac x true))

/-- ACLR, R228. -/
def execAarAclr (n : Nat) (w : BitVec 64) (stall : Nat) (s : State) : Host.Outcome State Fault Refusal :=
  .next (s.aarStep n w 0x28 stall (fun x c =>
    let _ := x
    ({ c with accRe := [0, 0, 0, 0], accIm := [0, 0, 0, 0] }, {})))

/-- AMOV, R215. -/
def execAarAmov (n : Nat) (w : BitVec 64) (stall : Nat) (s : State) : Host.Outcome State Fault Refusal :=
  .next (s.aarStep n w 0x29 stall (fun x c =>
    let r := sat32 ((if x.mode = 1 then c.accIm else c.accRe).foldl (fun a b => a + b) 0 / 2 ^ x.sh)
    (c.setS x.d r.1, { sat := r.2 })))

/-! ### Block instructions (R229, R230) -/

/-- R229 (08): an array's start. -/
def AarCore.array (c : AarCore) (r : Nat) : Nat := aarAddr (c.sr r).toNat 16

/-- R216, R229 (08): two arrays share a byte; addresses wrap. -/
def arraysMeet (a la b lb : Nat) : Bool :=
  la != 0 && lb != 0 && (decide ((b + 2 ^ 18 - a) % 2 ^ 18 < la) || decide ((a + 2 ^ 18 - b) % 2 ^ 18 < lb))

/-- `n` 16-bit words of an array. -/
def AarCore.get16s (c : AarCore) (a n : Nat) : List (BitVec 16) := (List.range n).map (fun i => c.rd16 (a + 2 * i))

/-- `n` 32-bit words of an array. -/
def AarCore.get32s (c : AarCore) (a n : Nat) : List (BitVec 32) := (List.range n).map (fun i => c.rd32 (a + 4 * i))

/-- BWIN, R229, R230: the window is real; an INV input of A is taken as 0. -/
def AarCore.bwin (c : AarCore) (x : AarWord) : AarCore × AarEv :=
  let k := c.count x.c x.hi
  let n := k.1
  let per := if x.mode % 2 = 1 then 2 else 1
  let d := c.array x.d
  let a := c.array x.a
  let b := c.array x.b
  if arraysMeet d (2 * n * per) b (2 * n) || (d != a && arraysMeet d (2 * n * per) a (2 * n * per)) then
    (c, { clamp := k.2, alias_ := 1 })
  else
    let inv := x.mode / 2 = 1
    let xs := c.get16s a (n * per)
    let ws := c.get16s b n
    let ys := xs.zipIdx.map (fun (v, i) =>
      sat16 ((if inv && v == 0x8000 then 0 else v.toInt) * (ws.getD (i / per) 0).toInt / 2 ^ (15 + x.sh)))
    let bad := if inv then (xs.filter (fun v => v == 0x8000)).length else 0
    ((c.set16s d (ys.map (fun y => y.1))).addInv bad,
      { clamp := k.2, inv := bad, sat := ys.foldl (fun m y => m + y.2) 0 })

/-- BFFT and BRFFT, R229: the transform's words are free values, for the spec states no twiddle factors. -/
def AarCore.bfft (c : AarCore) (x : AarWord) (real : Bool) : AarCore × AarEv :=
  let words := if real then x.hi else 2 * x.hi
  let d := c.array x.d
  let a := c.array x.a
  if arraysMeet d (2 * words) a (2 * words) && (real || d != a) then (c, { alias_ := 1 })
  else
    let xs := c.get16s a words
    let inverse := x.mode % 2 = 1
    (c.set16s d ((List.range words).map (fun i => Config.fftWord real inverse x.sh xs i)),
      { sat := Config.fftSat real inverse x.sh xs })

/-- BPWR, R229. -/
def AarCore.bpwr (c : AarCore) (x : AarWord) : AarCore × AarEv :=
  let k := c.count x.c x.hi
  let n := k.1
  let d := c.array x.d
  let a := c.array x.a
  if d != a && arraysMeet d (4 * n) a (4 * n) then (c, { clamp := k.2, alias_ := 1 })
  else
    let xs := c.get16s a (2 * n)
    let ys := (List.range n).map (fun i =>
      let re := (xs.getD (2 * i) 0).toInt
      let im := (xs.getD (2 * i + 1) 0).toInt
      let p := satU32 ((re * re + im * im) / 2 ^ x.sh)
      if x.mode = 1 then
        let q := satU32 ((c.rd32 (d + 4 * i)).toNat + (p.1.toNat : Int))
        (q.1, p.2 + q.2)
      else p)
    (c.set32s d (ys.map (fun y => y.1)), { clamp := k.2, sat := ys.foldl (fun m y => m + y.2) 0 })

/-- R229, R230 (08): the elements that BSUM, BMAX, BMIN and BSTAT use, with their indices, and the INV inputs skipped. -/
def AarCore.elems (c : AarCore) (x : AarWord) (n : Nat) : List (Int × Nat) × Nat :=
  let a := c.array x.a
  if x.mode % 4 = 0 then
    let xs := (c.get16s a n).zipIdx
    if x.mode / 4 = 1 then
      let ys := xs.filter (fun y => y.1 != 0x8000)
      (ys.map (fun y => (y.1.toInt, y.2)), n - ys.length)
    else (xs.map (fun y => (y.1.toInt, y.2)), 0)
  else
    let xs := (c.get32s a n).zipIdx
    (xs.map (fun y => (if x.mode % 4 = 1 then (y.1.toNat : Int) else y.1.toInt, y.2)), 0)

/-- BSUM, R229. -/
def AarCore.bsum (c : AarCore) (x : AarWord) : AarCore × AarEv :=
  let k := c.count x.c x.hi
  let e := c.elems x k.1
  let v := (e.1.foldl (fun s y => s + y.1) 0) / 2 ^ x.sh
  let r := if x.mode % 4 = 1 then satU32 v else sat32 v
  ((c.setS x.d r.1).addInv e.2, { clamp := k.2, inv := e.2, sat := r.2 })

/-- BMAX and BMIN, R229: the lowest index on ties; with no element, index 0xFFFF_FFFF and the type's end. -/
def AarCore.bext (c : AarCore) (x : AarWord) (least : Bool) : AarCore × AarEv :=
  let k := c.count x.c x.hi
  let e := c.elems x k.1
  let best := e.1.foldl (fun (m : Option (Int × Nat)) y => match m with
    | none => some y
    | some b => if (if least then y.1 < b.1 else b.1 < y.1) then some y else some b) none
  let none_ : BitVec 32 := if x.mode % 4 = 1 then (if least then 0xFFFFFFFF else 0) else if least then 0x7FFFFFFF else 0x80000000
  let c := match best with
    | some b => (c.setS x.d (BitVec.ofInt 32 b.1)).setS (x.d + 1) (BitVec.ofNat 32 b.2)
    | none => (c.setS x.d none_).setS (x.d + 1) 0xFFFFFFFF
  (c.addInv e.2, { clamp := k.2, inv := e.2 })

/-- BSTAT, R229. -/
def AarCore.bstat (c : AarCore) (x : AarWord) : AarCore × AarEv :=
  let k := c.count x.c x.hi
  let e := c.elems x k.1
  let p := sat32 (e.1.foldl (fun s y => s + y.1) 0)
  let q := sat32 ((e.1.foldl (fun s y => s + y.1 * y.1) 0) / 2 ^ x.sh)
  ((((c.setS x.d p.1).setS (x.d + 1) q.1).setS (x.d + 2) (BitVec.ofNat 32 e.1.length)).addInv e.2,
    { clamp := k.2, inv := e.2, sat := p.2 + q.2 })

/-- R229 (08): one block of 16 bytes copied. -/
def AarCore.copy16 (c : AarCore) (d a : Nat) : AarCore :=
  c.setMem d ((List.range 16).map (fun i => Store.get c.mem ((a + i) % 2 ^ 18)))

/-- BMOV, R229: blocks of 16 bytes in ascending order; where n is no multiple of 16, the last block's bytes are free values. -/
def AarCore.bmov (c : AarCore) (x : AarWord) : AarCore × AarEv :=
  let k := c.count x.c x.hi
  let n := k.1
  let d := c.array x.d
  let a := c.array x.a
  let c := (List.range (n / 16)).foldl (fun c i => c.copy16 (d + 16 * i) (a + 16 * i)) c
  let at_ := n / 16 * 16
  let c := if n % 16 = 0 then c
    else c.setMem (d + at_) ((List.range 16).map (fun i =>
      Config.bmovTail n i (Store.get c.mem ((a + at_ + i) % 2 ^ 18)) (Store.get c.mem ((d + at_ + i) % 2 ^ 18))))
  (c, { clamp := k.2 })

/-- BWIN, R229, R230. -/
def execAarBwin (n : Nat) (w : BitVec 64) (stall : Nat) (s : State) : Host.Outcome State Fault Refusal :=
  .next (s.aarStep n w 0x30 stall (fun x c =>
    c.bwin x))

/-- BFFT, R229. -/
def execAarBfft (n : Nat) (w : BitVec 64) (stall : Nat) (s : State) : Host.Outcome State Fault Refusal :=
  .next (s.aarStep n w 0x31 stall (fun x c =>
    c.bfft x false))

/-- BRFFT, R229. -/
def execAarBrfft (n : Nat) (w : BitVec 64) (stall : Nat) (s : State) : Host.Outcome State Fault Refusal :=
  .next (s.aarStep n w 0x32 stall (fun x c =>
    c.bfft x true))

/-- BPWR, R229. -/
def execAarBpwr (n : Nat) (w : BitVec 64) (stall : Nat) (s : State) : Host.Outcome State Fault Refusal :=
  .next (s.aarStep n w 0x33 stall (fun x c =>
    c.bpwr x))

/-- BSUM, R229, R230. -/
def execAarBsum (n : Nat) (w : BitVec 64) (stall : Nat) (s : State) : Host.Outcome State Fault Refusal :=
  .next (s.aarStep n w 0x34 stall (fun x c =>
    c.bsum x))

/-- BMAX, R229, R230. -/
def execAarBmax (n : Nat) (w : BitVec 64) (stall : Nat) (s : State) : Host.Outcome State Fault Refusal :=
  .next (s.aarStep n w 0x35 stall (fun x c =>
    c.bext x false))

/-- BMIN, R229, R230. -/
def execAarBmin (n : Nat) (w : BitVec 64) (stall : Nat) (s : State) : Host.Outcome State Fault Refusal :=
  .next (s.aarStep n w 0x36 stall (fun x c =>
    c.bext x true))

/-- BSTAT, R229, R230. -/
def execAarBstat (n : Nat) (w : BitVec 64) (stall : Nat) (s : State) : Host.Outcome State Fault Refusal :=
  .next (s.aarStep n w 0x37 stall (fun x c =>
    c.bstat x))

/-- BMOV, R229. -/
def execAarBmov (n : Nat) (w : BitVec 64) (stall : Nat) (s : State) : Host.Outcome State Fault Refusal :=
  .next (s.aarStep n w 0x38 stall (fun x c =>
    c.bmov x))

end Sys2Proof.Machine
end

