-- ==== Sys2Proof/Machine/ZoneOps.lean ====
section
/-! DEFINITION. What ZON's rows share (09): a zone unit's inputs, conditions and actions (R251 to R265), capture requests and
their merging (R268 to R271), events (R266, R267), the ARM and FIRE buses (R273 to R281), and the checks CK14, CK15
and CK19's time-interval units. -/

namespace Sys2Proof.Machine

/-- Zone unit `z`; out of range: one as after a reset. -/
def State.unit (s : State) (z : Nat) : ZoneUnit := s.zon.units.getD z {}

/-- Zone unit `z` changed by `f`. -/
def State.mapUnit (s : State) (z : Nat) (f : ZoneUnit → ZoneUnit) : State :=
  s.mapZon (fun q => { q with units := modAt q.units z f })

/-! ### Tables (R248, R257) -/

/-- Word 1 of a zone's fret entry, in a memory. -/
def fretWord1 (m : List Host.Cell) (z : Nat) : Nat := (Store.word m (fretBase + 8 * z + 4)).toNat

/-- R248 (09): FIRST and LAST of a zone. -/
def fretSpan (m : List Host.Cell) (z : Nat) : Nat × Nat :=
  let w := (Store.word m (fretBase + 8 * z)).toNat
  (w % 2 ^ 16, w / 2 ^ 16)

/-- R248 (09): EN. -/
def fretEn (m : List Host.Cell) (z : Nat) : Bool := fretWord1 m z % 2 == 1
/-- TIU -/
def fretTiu (m : List Host.Cell) (z : Nat) : Nat := fretWord1 m z / 2 % 4
/-- SPD_EN -/
def fretSpd (m : List Host.Cell) (z : Nat) : Bool := fretWord1 m z / 8 % 2 == 1
/-- CAPP -/
def fretCapp (m : List Host.Cell) (z : Nat) : Nat := fretWord1 m z / 16 % 8
/-- LOG -/
def fretLog (m : List Host.Cell) (z : Nat) : Bool := fretWord1 m z / 128 % 2 == 1

/-- R257 (09): a 32-bit word of unit `z`'s state table. -/
def zoneWord (m : List Host.Cell) (z off : Nat) : Nat := (Store.word m (zoneBase + z * 0x400 + off)).toNat

/-- R257 (09): condition word `j` of state `st`. -/
def condWord (m : List Host.Cell) (z st j : Nat) : Nat :=
  zoneWord m z (0x20 * st + 8 * j) + zoneWord m z (0x20 * st + 8 * j + 4) * 2 ^ 32

/-- R257 (09): action word `j` of state `st`. -/
def actWord (m : List Host.Cell) (z st j : Nat) : Nat := zoneWord m z (0x200 + 0x10 * st + 4 * j)

/-- `n` bits of a word from bit `lo` on. -/
def bits (w lo n : Nat) : Nat := w / 2 ^ lo % 2 ^ n

/-! ### Inputs (R251 to R254) -/

/-- An input of a condition: its value, whether it is valid and fresh, OVERRUN, and the frame number. -/
structure ZoneInput where
  value : BitVec 32
  valid : Bool
  fresh : Bool
  overrun : Bool := false
  frame : Nat := 0
  deriving DecidableEq, Repr

/-- R251 (09): the input with source code `src` of a latched unit. -/
def zoneInput (u : ZoneUnit) (armed fireSeen : Bool) (src : Nat) : ZoneInput :=
  let now (v : Nat) : ZoneInput := { value := BitVec.ofNat 32 v, valid := true, fresh := true }
  let d := u.latchDts
  let dts (x : BitVec 32) (inv : Bool) : ZoneInput :=
    { value := x, valid := d.arrived && !inv, fresh := d.fresh }
  if src < 8 then
    let x := u.latchF.getD src {}
    { value := x.value, valid := !x.invalid, fresh := x.fresh, overrun := x.overrun, frame := x.frame }
  else if src = 8 then dts (d.tmax.signExtend 32) (d.tmax == 0x8000)
  else if src = 9 then dts (d.rise.signExtend 32) (d.rise == 0x8000)
  else if src = 10 then dts (d.pos.zeroExtend 32) (d.tmax == 0x8000)
  else if src = 11 then { value := BitVec.ofNat 32 u.latchSpd, valid := u.latchSpdOk, fresh := true }
  else if src < 16 then now (u.c.getD (src - 12) 0)
  else if src < 20 then now (u.t.getD (src - 16) {}).count
  else if src < 24 then now (if (u.t.getD (src - 20) {}).state = .expired then 1 else 0)
  else if src = 24 then now (if armed then 1 else 0)
  else if src = 25 then now (if fireSeen then 1 else 0)
  else now 1

/-- R254 (09): a threshold scaled by the speed. -/
def scaleBy (y : Int) (spd snom scale : Nat) : Int :=
  let r : Int := (min (spd * 2 ^ 16 / snom) 0x100000 : Nat)
  let once (y : Int) : Int := clampS 32 (y * r / 2 ^ 16)
  match scale with
  | 1 => once y
  | 2 => once (once y)
  | _ => y

/-- R259 (09): an outcome; none: IDLE. -/
def outcome (m : List Host.Cell) (z : Nat) (u : ZoneUnit) (w : Nat) (x : ZoneInput) : Option Bool :=
  let op := bits w 53 4
  let scale := bits w 50 2
  if bits w 62 1 = 1 && !x.fresh then none
  else if op = 6 then some (!x.valid)
  else if op = 7 then some x.overrun
  else if op = 8 then some x.fresh
  else if !x.valid || (scale != 0 && !u.latchSpdOk) then none
  else
    let right : Int := if bits w 52 1 = 1 then signed 16 w else signed 32 (zoneWord m z (0x300 + 4 * bits w 46 4))
    let y := scaleBy right u.latchSpd (zoneWord m z 0x350) scale
    let v := x.value.toInt
    some (match op with
      | 0 => decide (y < v)
      | 1 => decide (y ≤ v)
      | 2 => decide (v < y)
      | 3 => decide (v ≤ y)
      | 4 => v == y
      | _ => v != y)

/-! ### Effects and actions (R260, R261, R263) -/

/-- R260 (09): an effect on a counter. -/
def effectC (c code : Nat) : Nat :=
  match code with
  | 1 => min (c + 1) 65535
  | 2 => c - 1
  | 3 => 0
  | _ => c

/-- R260 (09): an effect on a timer. -/
def effectT (t : ZoneTimer) (code now : Nat) : ZoneTimer :=
  match code with
  | 1 => if t.state = .running then t else { state := .running, count := 0, startAt := now }
  | 2 => { t with state := .stopped }
  | 3 => { state := .running, count := 0, startAt := now }
  | _ => t

/-- R260 (09): an effect on its target. -/
def ZoneUnit.effect (u : ZoneUnit) (target code now : Nat) : ZoneUnit :=
  if target < 4 then { u with c := modAt u.c target (fun c => effectC c code) }
  else { u with t := modAt u.t (target - 4) (fun t => effectT t code now) }

/-- R263 (09): a RUNNING timer at a step's latch; `cfg` is its TCFG. -/
def latchTimer (t : ZoneTimer) (cfg now : Nat) (idle : Bool) : ZoneTimer :=
  if t.state = .running then
    let n := if cfg / 2 ^ 24 % 2 = 1 then min ((now - t.startAt) / us) (2 ^ 32 - 1) else if idle then t.count else t.count + 1
    { t with count := n, state := if max 1 (cfg % 2 ^ 24) ≤ n then .expired else .running }
  else t

/-- R252, R253, R263, R264 (09): the latch: inputs with their freshness, the speed, and the timers. -/
def ZoneUnit.latch (u : ZoneUnit) (m : List Host.Cell) (z spd : Nat) (spdOk idle : Bool) (now : Nat) : ZoneUnit :=
  { u with
    latchF := u.f, latchDts := u.dts, latchSpd := spd, latchSpdOk := spdOk
    f := u.f.map (fun x => { x with fresh := false }), dts := { u.dts with fresh := false }
    t := u.t.zipIdx.map (fun (t, i) => latchTimer t (zoneWord m z (0x340 + 4 * i)) now idle) }

/-- R261 (09): counters cleared, timers stopped and restarted, and the state entered, by an action. -/
def ZoneUnit.act (u : ZoneUnit) (a now : Nat) : ZoneUnit :=
  { u with
    c := u.c.zipIdx.map (fun (c, i) => if bits a (8 + i) 1 = 1 then 0 else c)
    t := u.t.zipIdx.map (fun (t, i) =>
      if bits a (12 + i) 1 = 1 then effectT t 3 now else if bits a (16 + i) 1 = 1 then effectT t 2 now else t)
    state := bits a 0 4 }

/-! ### The buses (R273 to R281) -/

/-- R272 (09): a field of ZON.MU, which takes effect at the step of a Retune's sweep. -/
def State.muRd (s : State) (f : Field) : Nat := s.rdFor s.zon.stepSweep f

/-- R273 (09): ROLE: 0 SOLO, 1 MASTER, 2 MEMBER; 3 is taken as SOLO. -/
def State.muRole (s : State) : Nat := s.muRd Reg.ZON_MU_ROLE % 3

/-- R273 (09): the ARM bus is asserted at the pin. -/
def State.armPin (s : State) : Bool := s.zon.armDriven || s.zon.armExt

/-- R281 (09): the FIRE bus is low at the pin. -/
def State.firePin (s : State) : Bool := s.zon.fireUntil.isSome || s.zon.fireExt

/-- R278 (09): an edge at the present instant. -/
def State.busEdge (s : State) : BusEdge :=
  let b := s.guards.lastBoundary.getD (0, 0, s.rd Reg.PSQ_PERIOD_TICKS, s.sweep)
  { edgeAt := s.now, time := s.devTime / 4 * 4, sweep := s.sweep, boundAt := b.1, boundTime := s.zon.boundTime
    period := b.2.2.1, res := if s.rd Reg.PSQ_SYNC_MODE = 2 then s.rd Reg.PSQ_SYNC_RES_SUB else 0 }

/-- R278 (09): raw. -/
def BusEdge.raw (e : BusEdge) : Int := ((e.time : Int) - e.boundTime) * 5 / 2 + ((8 - e.res) % 8 : Nat)

/-- R278 (09): the sweep and the corrected sweep time. -/
def State.convertEdge (s : State) (e : BusEdge) : Nat × Int :=
  let st := e.raw - signed 16 (s.rd Reg.ZON_MU_SKEW_SKEW)
  let before : Int := 8 * (s.rdFor (e.sweep - 1) Reg.PSQ_PERIOD_TICKS : Nat)
  let n := if st < 0 then e.sweep - 1 else e.sweep
  let p : Int := if st < 0 then before else 8 * (e.period : Int)
  let st := if st < 0 then st + before else st
  if p ≤ st then (n + 1, st - p) else (n, st)

/-- R266, R267 (09): a record joins those that wait for their CAPTURE. -/
def State.emit (s : State) (e : EventRec) : State :=
  (s.mapZon (fun q => { q with waiting := q.waiting ++ [e] })).bump Reg.ZON_EVT_CNT

/-- R266 (09): a bus event of an edge. -/
def State.busEvent (s : State) (code : Nat) (e : BusEdge) (capture : CaptureField) : State :=
  let c := s.convertEdge e
  let n := (s.zon.busSeq + 1) % 2 ^ 16
  let s := s.mapZon (fun q => { q with busSeq := n })
  s.emit {
    bus := true, zone := 0, code := code, before := 0, after := 0, cond := 0, info := 0, zseq := n, sweep := c.1
    time := e.time, value := BitVec.ofInt 32 c.2, capture := capture, log := false }

/-- R274 (09): ARM is asserted by this unit. -/
def State.armAssert (s : State) : State := s.mapZon (fun q => { q with armDriven := true, armForeignSince := none })

/-- R274, R275 (09): ARM is released by this unit; another driver is seen from now on. -/
def State.armRelease (s : State) : State :=
  if s.zon.armDriven then
    s.mapZon (fun q => { q with
      armDriven := false, foreignDeclared := false, armForeignSince := if q.armExt then some s.busEdge else none })
  else s

/-- R274 (09): an ARM action or command outside a MASTER. -/
def State.armIgnored (s : State) : State := (s.event [Reg.ZON_STAT_ARM_IGN]).bump Reg.ZON_ARM_IGN_CNT

/-- R276 (09): FIRE is pulled for FIRE_W µs. -/
def State.firePull (s : State) (cal : Bool) : State :=
  let stop := s.now + max 1 (s.muRd Reg.ZON_MU_FIRE_W) * us
  s.mapZon (fun q => { q with
    fireUntil := some (max stop (q.fireUntil.getD 0)), fireCal := if q.fireUntil.isSome then q.fireCal else cal })

/-- R276 (09): a FIRE action or command that may not pull the bus. -/
def State.fireSuppressed (s : State) : State := (s.event [Reg.ZON_STAT_FIRE_SUPP]).bump Reg.ZON_FIRE_SUPP_CNT

/-- R273 (09): both pins are released: at reset, and on leaving SERVICE or TEST. -/
def State.releaseBuses (s : State) : State := s.armRelease.mapZon (fun q => { q with fireUntil := none })

/-! ### One unit's step (R264) -/

/-- R269 (09): the unit is within its hold-off. -/
def ZoneUnit.heldOff (u : ZoneUnit) (hold sweep : Nat) : Bool :=
  hold != 0 && u.lastReq.any (fun n => decide (sweep - n < hold))

/-- R261 to R269 (09): what the taken action does beside the unit's own state. -/
def State.zoneAction (s : State) (z j a before : Nat) (x : ZoneInput) (idle armed : Bool) (reqs : List CapRequest) :
    State × List CapRequest :=
  let m := s.mems.act
  let u := s.unit z
  let n := s.sweep
  let capp := fretCapp m z
  let cap := bits a 5 1 = 1
  let held := cap && !idle && u.heldOff (s.rd (Reg.ZON_CAPP_HOLDOFF capp)) n
  let asks := cap && !idle && !held
  let s := if held then s.bump Reg.ZON_HOLDOFF_CNT else s
  let tag := s.zon.nextTag
  let span := fretSpan m z
  let margin := s.rd (Reg.ZON_CAPP_MARGIN capp)
  let req : CapRequest :=
    { tag := tag, zone := z, trigAt := s.psq.tick0, pre := s.rd (Reg.ZON_CAPP_PRE capp), post := s.rd (Reg.ZON_CAPP_POST capp)
      first := max (s.rd Reg.PHS_RANGE_CAPO) (span.1 - margin), last := min (s.rd Reg.PHS_RANGE_END) (span.2 + margin)
      stream := s.rd (Reg.ZON_CAPP_MODE capp) = 1, members := [z] }
  let s := if asks then
      (s.mapUnit z (fun u => { u with lastReq := some n })).mapZon (fun q => { q with nextTag := q.nextTag + 1 })
    else s
  let field : CaptureField := if !cap then .none else if idle then .noSweep else if held then .heldOff else .waiting tag
  let bus := bits a 6 2
  let may := if bus = 1 then s.muRole != 0 && armed else s.muRole = 1
  let s := match bus with
    | 1 => if may then s.firePull false else s.fireSuppressed
    | 2 => if may then s.armAssert else s.armIgnored
    | 3 => if may then s.armRelease else s.armIgnored
    | _ => s
  let bit (k : Nat) (b : Bool) : Nat := if b then 2 ^ k else 0
  let s := if bits a 4 1 = 1 then
      let seq := (u.zseq + 1) % 2 ^ 16
      let s := s.mapUnit z (fun u => { u with zseq := seq })
      let e : EventRec :=
        { bus := false, zone := z, code := bits a 20 8, before := before, after := bits a 0 4
          cond := j + bit 2 cap + bit 3 (bus != 0 && may) + bit 4 (bus != 0 && !may) + bit 5 idle
          info := bit 0 u.latchSpdOk + bit 1 x.fresh, zseq := seq, sweep := n, time := s.devTime, value := x.value
          capture := field, log := fretLog m z }
      (s.emit e).event [Reg.ZON_STAT_EVENT]
    else s
  (s, if asks then reqs ++ [req] else reqs)

/-- R264, R265 (09): the action of the condition whose number is given, if any, is taken; `ins` is the input of each condition. -/
def State.zoneTakes (s : State) (z st : Nat) (pick : Option Nat) (ins : Nat → ZoneInput) (idle armed : Bool) (reqs : List CapRequest) :
    State × List CapRequest :=
  match pick with
  | none => (s, reqs)
  | some j =>
    let a := actWord s.mems.act z st j
    (s.mapUnit z (fun u => u.act a s.now)).zoneAction z j a st (ins j) idle armed reqs

/-- R264, R265 (09): the step of an enabled unit. -/
def State.zoneUnitStep (s : State) (z : Nat) (idle armed fireSeen : Bool) (reqs : List CapRequest) :
    State × List CapRequest :=
  let m := s.mems.act
  let tiu := s.tiu.units.getD (fretTiu m z) {}
  let spdOk := fretSpd m z && tiu.rateValid && !s.pwr.fallback
  let u := (s.unit z).latch m z tiu.rate spdOk idle s.now
  let st := u.state
  let conds := (List.range 4).map (fun j => condWord m z st j)
  let ins := conds.map (fun w => zoneInput u armed fireSeen (bits w 57 5))
  let outs : List (Option Bool) := (List.zip conds ins).map (fun p =>
    if bits p.1 63 1 = 1 then outcome m z u p.1 p.2 else none)
  let v := (List.zip conds outs).foldl (fun v p => match p.2 with
    | some true => v.effect (bits p.1 43 3) (bits p.1 41 2) s.now
    | some false => v.effect (bits p.1 43 3) (bits p.1 39 2) s.now
    | none => v) u
  (s.mapUnit z (fun _ => v)).zoneTakes z st ((List.range 4).find? (fun j => outs.getD j none == some true && bits (actWord m z st j) 31 1 == 1))
    (fun j => ins.getD j (zoneInput u armed fireSeen 31)) idle armed reqs

/-! ### Merging (R270, R271) -/

/-- A request's window in instants; `per` is the sweep's length. -/
def CapRequest.window (r : CapRequest) (per : Nat) : Int × Int :=
  ((r.trigAt : Int) - r.pre * per, (r.trigAt : Int) + r.post * per)

/-- R270 (09): two requests merge. -/
def CapRequest.meets (a b : CapRequest) (per : Nat) : Bool :=
  let x := a.window per
  let y := b.window per
  a.stream == b.stream && decide (x.1 ≤ y.2) && decide (y.1 ≤ x.2) && decide (a.first ≤ b.last + 1)
    && decide (b.first ≤ a.last + 1)

/-- R270 (09): the requests in groups: a request joins every group that holds one it merges with. -/
def groupReqs (per : Nat) (rs : List CapRequest) : List (List CapRequest) :=
  rs.foldl (fun gs r =>
    let hit (g : List CapRequest) : Bool := g.any (fun q => q.meets r per)
    gs.filter (fun g => !hit g) ++ [(gs.filter hit).flatten ++ [r]]) []

/-- R270 (09): the merged request of a group: the bus trigger where there is one, PRE and POST about it. -/
def mergeGroup (per : Nat) (g : List CapRequest) : Option CapRequest :=
  match g with
  | [] => none
  | r :: _ =>
    let lead := (g.find? (fun q => q.zone == 256)).getD r
    let lo := g.foldl (fun m q => min m (q.window per).1) (r.window per).1
    let hi := g.foldl (fun m q => max m (q.window per).2) (r.window per).2
    let up (x : Int) : Nat := ceilDiv x.toNat per
    some { lead with
      zone := g.foldl (fun m q => min m q.zone) r.zone
      pre := up ((lead.trigAt : Int) - lo), post := up (hi - lead.trigAt)
      first := g.foldl (fun m q => min m q.first) r.first, last := g.foldl (fun m q => max m q.last) r.last
      members := g.flatMap (fun q => q.members) }

/-- A record's tag follows its request into the merged one. -/
def EventRec.retag (e : EventRec) (tags : List Nat) (tag : Nat) : EventRec :=
  match e.capture with
  | .waiting r => if tags.contains r then { e with capture := .waiting tag } else e
  | _ => e

/-- CAPTURE_MERGE (R270, R271): the requests of a step are merged, and each goes to RNG. -/
def State.mergeRequests (s : State) (reqs : List CapRequest) : State :=
  let per := max 1 (s.psq.period * tick)
  let gs := (groupReqs per (reqs.mergeSort (fun a b => a.zone ≤ b.zone)))
  let ms := (gs.filterMap (fun g => (mergeGroup per g).map (fun r => (r, g.map (fun q => q.tag))))).mergeSort
    (fun a b => a.1.zone ≤ b.1.zone)
  ms.foldl (fun s p =>
    let s := s.mapZon (fun q => { q with
      requests := q.requests ++ [p.1], waiting := q.waiting.map (fun e => e.retag p.2 p.1.tag) })
    (s.bump Reg.ZON_CAP_REQ_CNT).bumpBy Reg.ZON_MERGE_CNT (p.2.length - 1)) s

/-! ### A step of all units (R255, R256, R272) -/

/-- R255, R256, R264, R272 (09): a step at the present instant. -/
def State.zoneSteps (s : State) (idle : Bool) : State :=
  let s := s.mapZon (fun q => { q with stepSweep := s.sweep, lastStep := s.now, stepDue := none })
  let s := if s.muRole != 1 then s.armRelease else s
  let s := s.zon.resetUnits.foldl (fun s z => s.mapUnit z ZoneUnit.cleared) s
  let s := s.mapZon (fun q => { q with resetUnits := [] })
  let armed := s.armPin
  let seen := s.zon.fireSeen
  let units := if s.on Reg.ZON_CTL_EN && !s.isolated .zon then
      (List.range 256).filter (fun z => fretEn s.mems.act z && !s.isolatedAt .zon (some z)) else []
  let r := units.foldl (fun p z => State.zoneUnitStep p.1 z idle armed seen p.2) (s, [])
  let bus := if idle then [] else s.zon.busReq
  let s := r.1.mapZon (fun q => { q with
    fireSeen := false, busReq := []
    waiting := if idle then
        q.waiting.map (fun e => match e.capture with
          | .waiting t => if s.zon.busReq.any (fun b => b.tag == t) then { e with capture := .noSweep } else e
          | _ => e)
      else q.waiting })
  s.mergeRequests (r.2 ++ bus)

/-! ### Records on their way to KPE (R266, R267) -/

/-- R266 (09): the code of a CAPTURE field; none: not yet known. -/
def CaptureField.code (c : CaptureField) : Option Nat :=
  match c with
  | .none => some 0xFFFFFFFF
  | .refused => some 0xFFFFFFFE
  | .heldOff => some 0xFFFFFFFD
  | .noSweep => some 0xFFFFFFFC
  | .number n => some n
  | .waiting _ => Option.none

/-- R266 (09): a record's 32 bytes. -/
def EventRec.bytes (e : EventRec) : List Byte :=
  leBytes 1 (if e.bus then 2 else 1) ++ leBytes 1 e.zone ++ leBytes 1 e.code ++ leBytes 1 (e.before * 16 + e.after)
    ++ leBytes 1 (e.cond + if e.lost then 64 else 0) ++ leBytes 1 e.info ++ leBytes 2 e.zseq ++ leBytes 8 e.sweep
    ++ leBytes 8 e.time ++ leBytes 4 e.value.toNat ++ leBytes 4 (e.capture.code.getD 0xFFFFFFFF)

/-- R466, R468 (15): an EVENT subscription takes a record, or loses it. -/
def State.giveEvent (s : State) (i : Nat) (e : EventRec) : State :=
  match s.sub i with
  | none => s
  | some x =>
    if s.forms x && x.events.length < 256 then s.mapSub i (fun x => { x with events := x.events ++ [(e, s.now)] })
    else s.lost i

/-- R466 (15): every EVENT subscription takes the queue's records, which leave it. -/
def State.takeEvents (s : State) : State :=
  let is := s.subsWhere (fun x => x.kind == .event)
  let q := s.zon.queue
  let s := q.foldl (fun s e => is.foldl (fun s i => s.giveEvent i e) s) s
  s.mapZon (fun z => { z with queue := [] })

/-! ### Checks -/

/-- The enabled zones of the stage copy. -/
def State.stageZones (s : State) : List Nat := (List.range 256).filter (fun z => fretEn s.mems.stage z)

/-- CK14 (R249). -/
def State.ck14 (s : State) : Option Nat :=
  s.stageZones.find? (fun z =>
    let p := fretSpan s.mems.stage z
    decide (p.2 < p.1) || decide (4096 < p.2 + 1 - p.1) || decide (p.1 < s.rdStage Reg.PHS_RANGE_CAPO)
      || decide (s.rdStage Reg.PHS_RANGE_END < p.2))

/-- R258, R262 (09): a condition word breaks the rules. -/
def condBad (w : Nat) (spdEn : Bool) (snom : Nat) : Bool :=
  if bits w 63 1 = 0 then w != 0
  else
    let src := bits w 57 5
    let scale := bits w 50 2
    decide (26 ≤ src && src ≤ 30) || decide (8 < bits w 53 4) || scale == 3 || bits w 16 23 != 0
      || (if bits w 52 1 = 1 then bits w 46 4 != 0 else bits w 0 16 != 0) || (scale != 0 && (!spdEn || snom == 0))

/-- R261, R262 (09): an action word breaks the rules; `present`: its condition is. -/
def actBad (w : Nat) (present : Bool) : Bool :=
  if bits w 31 1 = 0 then w != 0
  else !present || bits w 28 3 != 0 || (bits w 4 1 == 0 && bits w 20 8 != 0)
    || (List.range 4).any (fun i => bits w (16 + i) 1 == 1 && bits w (12 + i) 1 == 1)

/-- CK15 (R249, R262). -/
def State.ck15 (s : State) : Option Nat :=
  let m := s.mems.stage
  s.stageZones.find? (fun z =>
    decide (256 ≤ fretWord1 m z)
      || (List.range 16).any (fun st => (List.range 4).any (fun j =>
        condBad (condWord m z st j) (fretSpd m z) (zoneWord m z 0x350)
          || actBad (actWord m z st j) (bits (condWord m z st j) 63 1 == 1)))
      || (List.range 4).any (fun i => decide (2 ^ 25 ≤ zoneWord m z (0x340 + 4 * i)))
      || !(Store.within m (zoneBase + z * 0x400 + 0x354) (zoneBase + (z + 1) * 0x400)).isEmpty)

/-- CK19 (R253): the time-interval unit of an enabled zone with SPD_EN is not enabled. -/
def State.ck19Tiu (s : State) : Option Nat :=
  (List.range 4).find? (fun k => s.rdStage (Reg.TIU_U_EN k) == 0
    && s.stageZones.any (fun z => fretSpd s.mems.stage z && fretTiu s.mems.stage z == k))

end Sys2Proof.Machine
end

