-- ==== Sys2Proof/Machine/Zone.lean ====
section
/-! DEFINITION. The rows of ZON (09). -/

namespace Sys2Proof.Machine

/-- ZONE_STEP, R255, R264, R272: the step of the sweep whose boundary has been taken. -/
def execZoneStep (t : Instant) (s : State) : Host.Outcome State Fault Refusal :=
  let s := s.atT t
  if s.zon.stepDue.any (fun b => decide (b ≤ s.now)) then .next (s.tuneIfDue.zoneSteps false) else .next s

/-- R256 (09): an idle step is due. -/
def State.idleDue (s : State) : Bool :=
  s.psq.state != .running && s.on Reg.ZON_CTL_EN && decide (s.zon.lastStep + 1000 * us ≤ s.now) && s.zon.stepDue.isNone

/-- IDLE_STEP, R256. -/
def execIdleStep (t : Instant) (s : State) : Host.Outcome State Fault Refusal :=
  let s := s.atT t
  if s.idleDue then .next (s.zoneSteps true) else .next s

/-- ZONE_TIMER_EXPIRE, R263: at the latch of the step that is due, a RUNNING timer's count reaches LIMIT. -/
def execZoneTimerExpire (zone : Nat) (timer : Nat) (t : Instant) (s : State) : Host.Outcome State Fault Refusal :=
  let s := s.atT t
  let m := s.mems.act
  let idle := s.zon.stepDue.isNone
  let x := latchTimer ((s.unit zone).t.getD timer {}) (zoneWord m zone (0x340 + 4 * timer)) s.now idle
  if (s.zon.stepDue.isSome || s.idleDue) && fretEn m zone && s.on Reg.ZON_CTL_EN && x.state = .expired && timer < 4
      && !s.isolatedAt .zon (some zone) && !s.zon.resetUnits.contains zone then
    .next (s.mapUnit zone (fun u => { u with t := modAt u.t timer (fun _ => x) }))
  else .next s

/-- EVENT_ENQUEUE, R266, R267: the oldest record whose CAPTURE is known enters the queue, or is dropped. -/
def execEventEnqueue (t : Instant) (s : State) : Host.Outcome State Fault Refusal :=
  let s := s.atT t
  match s.zon.waiting with
  | [] => .next s
  | e :: r =>
    match e.capture.code with
    | none => .next s
    | some c =>
      let s := s.mapZon (fun q => { q with waiting := r })
      let full := decide (512 ≤ s.zon.queue.length)
      let e := { e with lost := s.zon.lostNext && !full }
      let s := if full then
          ((s.event [Reg.ZON_STAT_EVT_DROP]).bump Reg.ZON_EVT_DROP_CNT).mapZon (fun q => { q with lostNext := true })
        else (s.mapZon (fun q => { q with queue := q.queue ++ [e], lostNext := false })).takeEvents
      if e.log then
        let states := e.before * 16 + e.after
        .next (s.record 1 evZone (e.zone + e.code * 2 ^ 8 + states * 2 ^ 16
          + (e.cond + if e.lost then 64 else 0) * 2 ^ 24 + c * 2 ^ 32) e.zone)
      else .next s

/-! ### Commands of ZON.MU_CMD (R274, R276, R280) -/

/-- R274 (09): ARM_ON and ARM_OFF, on the MASTER only. -/
def State.armCmd (s : State) (on : Bool) : State :=
  if s.muRole = 1 then (if on then s.armAssert else s.armRelease) else s.armIgnored

/-- R276 (09): FIRE. -/
def State.muFire (s : State) : State := if s.muRole != 0 && s.armPin then s.firePull false else s.fireSuppressed

/-- R280 (09): CAL_FIRE, on the MASTER only. -/
def State.calFire (s : State) : State := if s.muRole = 1 then s.firePull true else s

/-- ARM_ON, R274. -/
def execArmOn (m : Master) (t : Instant) (s : State) : Host.Outcome State Fault Refusal :=
  .next ((s.atT t).strobe m .zon none false (fun s => s.armCmd true))

/-- ARM_OFF, R274. -/
def execArmOff (m : Master) (t : Instant) (s : State) : Host.Outcome State Fault Refusal :=
  .next ((s.atT t).strobe m .zon none false (fun s => s.armCmd false))

/-- MU_FIRE, R276. -/
def execMuFire (m : Master) (t : Instant) (s : State) : Host.Outcome State Fault Refusal :=
  .next ((s.atT t).strobe m .zon none false State.muFire)

/-- CAL_FIRE, R280: on the MASTER only. -/
def execCalFire (m : Master) (t : Instant) (s : State) : Host.Outcome State Fault Refusal :=
  .next ((s.atT t).strobe m .zon none false State.calFire)

/-! ### The pins (R273 to R281) -/

/-- FIRE_PULSE_END, R276. -/
def execFirePulseEnd (t : Instant) (s : State) : Host.Outcome State Fault Refusal :=
  let s := s.atT t
  if s.zon.fireUntil.any (fun e => decide (e ≤ s.now)) then .next (s.mapZon (fun q => { q with fireUntil := none }))
  else .next s

/-- FIRE_EDGE, R277, R280: the wired FIRE bus falls: another unit pulls it (`ext`), or this one does; `cal`: the edge is of a
MASTER's calibration pulse. An edge that still waits has been cut short and is rejected. -/
def execFireEdge (ext : Bool) (cal : Bool) (t : Instant) (s : State) : Host.Outcome State Fault Refusal :=
  let s := s.atT t
  let low := s.zon.fireLowSince.isSome
  let own := s.zon.fireUntil.isSome
  if !ext && !own then .next s
  else
    let s := s.mapZon (fun q => { q with fireExt := q.fireExt || ext })
    if low then .next s
    else
      let e := s.busEdge
      let f : FireEdge :=
        { edge := e, armed := s.armPin, running := s.psq.state = .running, cal := if own then s.zon.fireCal else cal }
      let s := if s.muRole != 0 && s.zon.edge.isSome then s.bump Reg.ZON_FIRE_REJ_CNT else s
      .next (s.mapZon (fun q => { q with
        fireLowSince := some e, edge := if s.muRole = 0 then q.edge else some f }))

/-- R277 (09): an edge is accepted. -/
def State.edgeOk (s : State) (f : FireEdge) : Bool :=
  !f.rose && (f.cal || (f.armed && f.running
    && s.zon.lastEdge.all (fun l => decide (l + s.rd Reg.ZON_MU_HOLD_US * us ≤ f.edge.edgeAt))))
    && decide (s.zon.fireQuietUntil ≤ f.edge.edgeAt) && !s.zon.fireStuck

/-- R278 (09): ZON.MU_FIRE records an edge. -/
def State.recordEdge (s : State) (e : BusEdge) : State :=
  let c := s.convertEdge e
  (((s.wr Reg.ZON_MU_FIRE_SWEEP c.1).wr Reg.ZON_MU_FIRE_ST (wrapN 32 c.2)).wr Reg.ZON_MU_FIRE_RAW
    (wrapN 32 e.raw)).wr Reg.ZON_MU_FIRE_TIME e.time

/-- R279 (09): the bus request of an accepted edge. -/
def State.busRequest (s : State) (e : BusEdge) : CapRequest :=
  let k := s.muRd Reg.ZON_MU_CAPP
  let st := e.raw - signed 16 (s.rd Reg.ZON_MU_SKEW_SKEW)
  { tag := s.zon.nextTag, zone := 256, trigAt := ((e.boundAt : Int) + st * subTick).toNat
    pre := s.rd (Reg.ZON_CAPP_PRE k), post := s.rd (Reg.ZON_CAPP_POST k)
    first := max (s.rd Reg.PHS_RANGE_CAPO) (s.rd Reg.ZON_MU_SPAN_FIRST)
    last := min (s.rd Reg.PHS_RANGE_END) (s.rd Reg.ZON_MU_SPAN_LAST), stream := s.rd (Reg.ZON_CAPP_MODE k) = 1
    members := [256] }

/-- FIRE_EDGE_ACCEPT, R277 to R280: the decision 500 ns after the edge. -/
def execFireEdgeAccept (t : Instant) (s : State) : Host.Outcome State Fault Refusal :=
  let s := s.atT t
  match s.zon.edge with
  | none => .next s
  | some f =>
    if s.now < f.edge.edgeAt + 500000 then .next s
    else
      let s' := s.mapZon (fun q => { q with edge := none })
      if !s.edgeOk f then .next (s'.bump Reg.ZON_FIRE_REJ_CNT)
      else
        let s := s'.recordEdge f.edge
        if f.cal then .next (s.busEvent 4 f.edge .none)
        else
          let s := (s.event [Reg.ZON_STAT_FIRE_EDGE]).bump Reg.ZON_FIRE_EDGE_CNT
          let s := s.mapZon (fun q => { q with fireSeen := true, lastEdge := some f.edge.edgeAt })
          let s := if s.muRd Reg.ZON_MU_BUSCAP = 1 then
              let r := s.busRequest f.edge
              (s.busEvent 1 f.edge (.waiting r.tag)).mapZon (fun q => { q with
                busReq := q.busReq ++ [r], nextTag := q.nextTag + 1 })
            else s.busEvent 1 f.edge .none
          .next (if s.muRole = 1 && s.muRd Reg.ZON_MU_AUTO_DISARM = 1 then s.armRelease else s)

/-- ARM_BUS_CHANGE, R273, R275: other units pull ARM, or none does any more. -/
def execArmBusChange (ext : Bool) (t : Instant) (s : State) : Host.Outcome State Fault Refusal :=
  let s := s.atT t
  if ext = s.zon.armExt then .next s
  else
    let e := s.busEdge
    .next (s.mapZon (fun q => { q with
      armExt := ext, foreignDeclared := false, armForeignSince := if ext && !q.armDriven then some e else none }))

/-- ARM_FOREIGN, R275. -/
def execArmForeign (t : Instant) (s : State) : Host.Outcome State Fault Refusal :=
  let s := s.atT t
  match s.zon.armForeignSince with
  | none => .next s
  | some e =>
    if s.muRole = 1 && !s.zon.armDriven && s.zon.armExt && !s.zon.foreignDeclared && e.edgeAt + 1 * us < s.now then
      let s := ((s.event [Reg.ZON_STAT_ARM_FOREIGN]).bump Reg.ZON_ARM_FOREIGN_CNT).mapZon (fun q => { q with foreignDeclared := true })
      .next (s.busEvent 2 e .none)
    else .next s

/-- FIRE_STUCK, R281. -/
def execFireStuck (t : Instant) (s : State) : Host.Outcome State Fault Refusal :=
  let s := s.atT t
  match s.zon.fireLowSince with
  | none => .next s
  | some e =>
    if !s.zon.fireStuck && e.edgeAt + 10 * ms < s.now then
      .next ((s.mapZon (fun q => { q with fireStuck := true })).busEvent 3 e .none)
    else .next s

/-- FIRE_BUS_RELEASE, R277, R281: nobody pulls FIRE any more, and the bus rises. -/
def execFireBusRelease (t : Instant) (s : State) : Host.Outcome State Fault Refusal :=
  let s := s.atT t
  if s.zon.fireUntil.isSome || s.zon.fireLowSince.isNone then .next s
  else
    .next (s.mapZon (fun q => { q with
      fireExt := false, fireLowSince := none, fireStuck := false
      fireQuietUntil := if q.fireStuck || s.now < q.fireQuietUntil then s.now + 1 * ms else q.fireQuietUntil
      edge := q.edge.map (fun f => { f with rose := f.rose || decide (s.now < f.edge.edgeAt + 500000) }) }))

end Sys2Proof.Machine
end

