-- ==== Sys2Proof/Machine/Guard.lean ====
section
/-! DEFINITION. The rows of GDA and GDB (10): power bins and the monitors, profiles across sweeps and halts, the interlock, the
guards' status to each other, self-test, LEARN and restart. -/

namespace Sys2Proof.Machine

/-! ### Pins (R99, R290) -/

/-- R290, R514 (10, 17): TRIP_A_N or TRIP_B_N is high. -/
def State.tripPin (s : State) (g : GuardId) : Bool := (s.guard g).state == .armed && !(s.guard g).stopped

/-- R290 (10): HBEAT carries its 10 kHz square wave; else it is held low. -/
def State.hbeatRuns (s : State) : Bool := s.tripPin .b

/-- R99 (03): SOA_GATE_P/M is high. -/
def State.soaGate (s : State) : Bool :=
  (s.psq.gate.any (fun g => decide (g.1 ≤ s.now) && decide (s.now < g.2))
    || s.psq.pluck.any (fun p => decide (p.gateAt ≤ s.now) && !p.gateClosed && decide (s.now < p.closeAt)))
  && s.enabled .soa

/-- R292 (10): SOA_GATE_P/M has been closed for at least 200 ns: no gate was open in that time, or the tab's gate had no enable. -/
def State.soaShut (s : State) : Bool :=
  let d := 200000
  let old (c : Nat) : Bool := decide (c + d ≤ s.now)
  let tab := match s.psq.gate with
    | some g => decide (s.now < g.1) || old g.2
    | none => true
  let pluck := match s.psq.pluck with
    | some p => decide (s.now < p.gateAt) || old p.closeAt
    | none => true
  (tab || s.guards.darkSince.any old) && pluck && (old s.psq.gateShut || s.guards.darkSince.any old)

/-! ### Guard A's power bins (R291) -/

/-- R136, R138 (05): the code in force at an instant. -/
def State.gainAt (s : State) (p : Pol) (at_ : Nat) : Nat :=
  match (s.crx.changes.filter (fun c => c.1 == p && decide (at_ < c.2.1))).getLast? with
  | some c => c.2.2
  | none => s.gainCode p

/-- R138 (05): the sample at an instant is a settling sample: within 16 samples of a change. -/
def State.settlingAt (s : State) (p : Pol) (at_ : Nat) : Bool :=
  s.crx.changes.any (fun c => c.1 == p && decide (c.2.1 ≤ at_) && decide (at_ < c.2.1 + 16 * 800))

/-- R291 (10): the largest p with 10^(p/640) ≤ s / n, found bit by bit. -/
def logPower (s n : Nat) : Nat :=
  (List.range 13).foldl (fun p i =>
    let q := p + 2 ^ (12 - i)
    if 10 ^ q * n ^ 640 ≤ s ^ 640 then q else p) 0

/-- R291 (10): pc from the sum of squares and the number of samples. -/
def powerCode (s n : Nat) : Nat := if n = 0 || s < n then 0 else logPower s n

/-- One sample of a power bin: its polarisation, instant and code. -/
structure BinSample where
  chan : Nat
  pol : Pol
  at_ : Nat
  code : Int
  deriving DecidableEq, Repr

/-- R291 (10): the 64 instants of the bin whose last sample is at `t`, on each channel. -/
def binSamples (adc : List (List Int)) (t : Nat) : List BinSample :=
  (List.range 4).flatMap (fun c => (List.range 64).map (fun i =>
    { chan := c, pol := if c < 2 then .x else .y, at_ := t - (63 - i) * 800, code := clampS 12 ((adc.getD c []).getD i 0) }))

/-- R138 (05): a clipped sample. -/
def BinSample.clipped (b : BinSample) : Bool := b.code == -2048 || b.code == 2047

/-- R291 (10): s and n of a bin. -/
def State.binPower (s : State) (bs : List BinSample) : Nat × Nat :=
  bs.foldl (fun a b =>
    if s.settlingAt b.pol b.at_ then a
    else
      let v := b.code.natAbs * 2 ^ (7 - s.gainAt b.pol b.at_)
      (a.1 + v * v, a.2 + 1)) (0, 0)

/-- CRX.STAT, CRX.CLIP_CNTc (05): the clipped samples of a bin. -/
def State.countClips (s : State) (bs : List BinSample) : State :=
  (bs.filter BinSample.clipped).foldl (fun s b =>
    (s.event [Reg.CRX_STAT_CLIP.bit b.chan]).bump (Reg.CRX_CLIP_CNT b.chan)) s

/-! ### Which entry applies (R295) -/

/-- A profile entry that applies: its pattern, its index (GDA), the sweep whose tuning owns it, and whether LO is checked. -/
structure Entry where
  pat : Nat
  index : Nat
  owner : Nat
  lo : Bool
  deriving DecidableEq, Repr

/-- R295 (10): the pluck whose look's window holds the instant. -/
def State.pluckWindow (s : State) (t : Nat) : Option Pluck :=
  s.psq.pluck.bind (fun p => if p.fireAt ≤ t && t < p.windowEnd then some p else none)

/-- R304 (10): the instant lies in the window of a restart pluck. -/
def State.inRestartWindow (s : State) (t : Nat) : Bool := (s.pluckWindow t).any (fun p => p.restart)

/-- R295, R291 (10): GDA's entry for a bin that ends at `t`. LO is checked while GDA is ARMED, and in RESTART within the windows of
its plucks; while no sweep runs only within a pluck's window. -/
def State.entryA (s : State) (t : Nat) : Entry :=
  match s.pluckWindow t with
  | some p =>
    { pat := 15, index := min ((t - p.fireAt) / us) 1023, owner := s.sweep
      lo := s.gda.state == .armed || (s.gda.state == .restart && p.restart) }
  | none =>
    match s.guards.lastBoundary with
    | some b =>
      if s.guards.inSweep || t < b.1 + b.2.2.1 * tick then
        { pat := b.2.1, index := min ((t - b.1) / us) 1023, owner := b.2.2.2
          lo := s.guards.inSweep && s.gda.state == .armed }
      else { pat := 15, index := 1023, owner := s.sweep, lo := false }
    | none => { pat := 15, index := 1023, owner := s.sweep, lo := false }

/-- R295, R293 (10): GDB's entry for a sample at `t`. -/
def State.entryB (s : State) (t : Nat) : Entry :=
  match s.pluckWindow t, s.guards.inSweep, s.guards.lastBoundary with
  | none, true, some b =>
    { pat := b.2.1, index := 0, owner := b.2.2.2
      lo := s.gdb.state == .armed && decide (b.1 + 10 * us ≤ t) && decide (t < b.1 + b.2.2.1 * tick) }
  | _, _, _ => { pat := 15, index := 0, owner := s.sweep, lo := false }

/-- R311 (10): GDA's entry: LO and HI. -/
def State.profileA (s : State) (e : Entry) : Nat × Nat :=
  let w := s.memFor e.owner (profileBase + 0x1000 * e.pat + 4 * e.index)
  (w % 2 ^ 16, w / 2 ^ 16)

/-- R311 (10): GDB's entry: LO and HI. -/
def State.profileB (s : State) (e : Entry) : Nat × Nat :=
  let w := s.memFor e.owner (profileBase + 0x10000 + 4 * e.pat)
  (w % 2 ^ 10, w / 2 ^ 16 % 2 ^ 10)

/-- R291, R293, R304 (10): a violation seen by a guard: within a restart pluck's window it fails the attempt, else it trips. -/
def State.violation (s : State) (g : GuardId) (c : TripCause) (t : Nat) : State :=
  if s.inRestartWindow t && s.guards.attemptAt.isSome then s.failAttempt else s.trip g c

/-- R299 (10): the least and the greatest value at an index. -/
def noteBin (bins : List (Nat × Nat × Nat)) (i v : Nat) : List (Nat × Nat × Nat) :=
  if bins.any (fun b => b.1 == i) then
    bins.map (fun b => if b.1 = i then (i, min b.2.1 v, max b.2.2 v) else b)
  else bins ++ [(i, v, v)]

/-- R299 (10): a value of a sweep of the pattern that is being learned. -/
def State.learnValue (s : State) (g : GuardId) (i v : Nat) : State :=
  if !s.guards.inSweep then s
  else
    s.mapGuard g (fun x => { x with learning := x.learning.map (fun l =>
      if !l.dark && s.guards.lastBoundary.any (fun b => b.2.1 == l.pat) then { l with bins := noteBin l.bins i v } else l) })

/-- R291 (10): the run of violating bins after one more bin. -/
def State.checkBin (s : State) (pc : Nat) (overload : Bool) (t : Nat) : State :=
  let e := s.entryA t
  let p := s.profileA e
  let low := e.lo && s.on Reg.GDA_CTL_LOW_EN && decide (p.1 != 0 && pc < p.1)
  let high := decide (p.2 < pc) || overload
  let s := if low then s.bump Reg.GDA_LOW_CNT else s
  let s := if high then s.bump Reg.GDA_HIGH_CNT else s
  let n := if low || high then s.gda.run + 1 else 0
  let s := s.mapGda (fun g => { g with run := n })
  let s := s.learnValue .a e.index pc
  if (low || high) && max 1 (s.rd Reg.GDA_CTL_CONFIRM) ≤ n then s.violation .a (if high then .high else .low) t else s

/-- POWER_BIN, R291, R297, R573: `adc` holds the 64 codes of the bin on each channel, `t` is the instant of its last sample. A
bin with no sample neither violates nor breaks the run. A bin that violates both limits counts as HIGH (log entry 23). -/
def execPowerBin (adc : List (List Int)) (t : Instant) (s : State) : Host.Outcome State Fault Refusal :=
  let s := s.atT t
  if s.gda.stopped then .next s
  else
    let bs := binSamples adc t
    let r := s.binPower bs
    let pc := powerCode r.1 r.2
    let heavy (c : Nat) : Bool :=
      decide (4 ≤ (bs.filter (fun b => b.chan == c && b.clipped && s.gainAt b.pol b.at_ == 0)).length)
    let heavyBin := (List.range 4).any heavy
    let s := (s.countClips bs).wr Reg.GDA_MON_PC pc
    .next (if r.2 = 0 then s else s.checkBin pc heavyBin t)

/-- MONTX_SAMPLE, R292. -/
def execMontxSample (code : Nat) (t : Instant) (s : State) : Host.Outcome State Fault Refusal :=
  let s := s.atT t
  if s.gda.stopped then .next s
  else
    let code := code % 1024
    let s := s.wr Reg.GDA_MON_TX code
    let hi := decide (s.rd Reg.GDA_TX_TX_MAX < code)
    let leak := s.soaShut && decide (s.rd Reg.GDA_TX_TX_DARK < code)
    let s := s.mapGda (fun g => { g with
      runTx := if hi then g.runTx + 1 else 0, runLeak := if leak then g.runLeak + 1 else 0 })
    let n := max 1 (s.rd Reg.GDA_CTL_TX_CONFIRM)
    if hi && n ≤ s.gda.runTx then .next (s.trip .a .txHigh)
    else if leak && n ≤ s.gda.runLeak then .next (s.trip .a .txLeak)
    else .next s

/-- MONRX_SAMPLE, R293, R298, R573: `code` is the filtered MONRX in codes of the threshold DACs; `conv`: a 1 MS/s conversion for
GDB.MON falls on this sample. -/
def execMonrxSample (code : Nat) (conv : Bool) (t : Instant) (s : State) : Host.Outcome State Fault Refusal :=
  let s := s.atT t
  if s.gdb.stopped then .next s
  else
    let code := code % 1024
    let s := if conv then s.wr Reg.GDB_MON_RX code else s
    let s := match s.guards.lastBoundary with
      | some b => if b.1 + 10 * us ≤ t && (t - b.1) % us < 10000 then s.learnValue .b 0 code else s
      | none => s
    let e := s.entryB t
    let p := s.profileB e
    let high := decide (p.2 < code)
    let low := e.lo && decide (p.1 != 0 && code < p.1)
    let s := s.mapGdb (fun g => { g with
      run := if high then g.run + 1 else 0, runLow := if low then g.runLow + 1 else 0 })
    let n := max 1 (min 16 (s.rd Reg.GDB_CTL_CONFIRM))
    if high && n ≤ s.gdb.run then .next (s.violation .b .rxHigh t)
    else if low && n ≤ s.gdb.runLow then .next (s.violation .b .rxLow t)
    else .next s

/-! ### The interlock (R294) -/

/-- INTLK_CHANGE, R294: a rise ends the closure. -/
def execIntlkChange (high : Bool) (t : Instant) (s : State) : Host.Outcome State Fault Refusal :=
  let s := s.atT t
  if s.guards.intlkHigh = high then .next s
  else .next (s.mapGuards (fun g => { g with
    intlkHigh := high, intlkAt := s.now, intlkClosed := if high then false else g.intlkClosed }))

/-- INTLK_TRIP, R294: high for 200 ns. -/
def execIntlkTrip (t : Instant) (s : State) : Host.Outcome State Fault Refusal :=
  let s := s.atT t
  if s.guards.intlkHigh && s.guards.intlkAt + 200000 ≤ s.now then .next (s.trip .b .intlk) else .next s

/-- INTLK_CLOSED, R294: low for 100 ms. -/
def execIntlkClosed (t : Instant) (s : State) : Host.Outcome State Fault Refusal :=
  let s := s.atT t
  if !s.guards.intlkHigh && s.guards.intlkAt + 100 * ms ≤ s.now then
    .next (s.mapGuards (fun g => { g with intlkClosed := true }))
  else .next s

/-! ### The guards' status to each other (R289, R301, R304) and their clocks (R285) -/

/-- PEER_STATUS, R289, R301, R304: guard `g` receives the other's state: it follows an entry into TRIPPED; GDA joins the attempt
that GDB has started, and GDB enters ARMED once it sees GDA ARMED. -/
def execPeerStatus (g : GuardId) (t : Instant) (s : State) : Host.Outcome State Fault Refusal :=
  let s := s.atT t
  let was := (s.guard g).peer
  let now := (s.guard (otherGuard g)).state
  let s := s.mapGuard g (fun x => { x with peer := now })
  if now = .tripped && was != .tripped then .next (s.trip g .follow)
  else if g = .a && now = .restart && s.gda.state = .tripped && s.guards.attemptAt.isSome then
    .next (s.guardEnter .a .restart .none)
  else if g = .b && now = .armed && s.gdb.state = .restart then .next (s.guardEnter .b .armed .none)
  else .next s

/-- PEER_LOST, R289: no alive toggle of the other guard, whose clock has stopped, for 10 µs. -/
def execPeerLost (g : GuardId) (t : Instant) (s : State) : Host.Outcome State Fault Refusal :=
  let s := s.atT t
  if (s.guard (otherGuard g)).stopped && (s.guard g).aliveAt + 10 * us ≤ s.now then .next (s.trip g .peerLost) else .next s

/-- R285, R290 (10): a guard's clock stops: its enables and its pin drop, and its registers keep their values. -/
def State.stopGuard (s : State) (g : GuardId) : State :=
  if (s.guard g).stopped then s
  else
    let s := (s.mapGuard g (fun x => { x with stopped := true })).mapGuard (otherGuard g) (fun x => { x with aliveAt := s.now })
    s.followEnables

/-- ENABLE_CLOCK_STOP, R285, R290: the guard's clock stops; GDB's clock that has switched source goes on, and its lines drop. -/
def execEnableClockStop (g : GuardId) (t : Instant) (s : State) : Host.Outcome State Fault Refusal :=
  let s := s.atT t
  if g = .b && s.pwr.fallback then .next s.followEnables else .next (s.stopGuard g)

/-! ### Commands (R288, R299, R300, R307) -/

/-- The block of a guard. -/
def guardBlock (g : GuardId) : Block := if g = .a then .gda else .gdb

/-- A guard's command is refused. -/
def State.guardRefuses (s : State) (g : GuardId) : State :=
  s.event [guardStat g Reg.GDA_STAT_CMD_REFUSED Reg.GDB_STAT_CMD_REFUSED]

/-- TRIP, R288. -/
def execTrip (m : Master) (g : GuardId) (t : Instant) (s : State) : Host.Outcome State Fault Refusal :=
  .next ((s.atT t).strobe m (guardBlock g) none false (fun s => s.trip g .cmd))

/-- SELFTEST (R307): accepted in IDLE or TRIPPED, with none running. -/
def State.beginSelfTest (s : State) (g : GuardId) : State :=
  let x := s.guard g
  if (x.state = .idle || x.state = .tripped) && x.selfTest.isNone then
    s.mapGuard g (fun x => { x with selfTest := some s.now })
  else s.guardRefuses g

/-- SELFTEST, R307. -/
def execSelftest (m : Master) (g : GuardId) (t : Instant) (s : State) : Host.Outcome State Fault Refusal :=
  .next ((s.atT t).strobe m (guardBlock g) none false (fun s => s.beginSelfTest g))

/-- R307 (10): how long a self-test lasts. -/
def selfTestTime (g : GuardId) : Nat := if g = .a then 20 * us else 500 * us

/-- SELFTEST_DONE, R307, R310. -/
def execSelftestDone (g : GuardId) (ok : Bool) (t : Instant) (s : State) : Host.Outcome State Fault Refusal :=
  let s := s.atT t
  match (s.guard g).selfTest with
  | some at_ =>
    if s.now < at_ + selfTestTime g || (s.guard g).stopped then .next s
    else
      let s := s.mapGuard g (fun x => { x with selfTest := none, stOk := x.stOk || ok })
      let s := s.event [guardStat g Reg.GDA_STAT_SELFTEST_DONE Reg.GDB_STAT_SELFTEST_DONE]
      .next (if ok then s else s.blockFault (guardBlock g) none 3 0)
  | none => .next s

/-- R300 (10): LEARN is refused. -/
def State.learnRefused (s : State) (g : GuardId) : Bool :=
  (s.guard g).state != .armed || !s.pwr.sealOpen || s.chp.stage == .pending || s.chp.stage == .copyback
    || (s.guard g).learning.isSome

/-- LEARN (R299, R300, R568): the sweep in progress does not count. -/
def State.beginLearn (s : State) (g : GuardId) : State :=
  if s.learnRefused g then s.guardRefuses g
  else
    let pat := s.rd (if g = .a then Reg.GDA_LEARN_PAT else Reg.GDB_LEARN_PAT)
    let n := max 6 (min 16 (s.rd (if g = .a then Reg.GDA_LEARN_LOG2S else Reg.GDB_LEARN_LOG2S)))
    let part := s.guards.inSweep && s.guards.lastBoundary.any (fun b => b.2.1 == pat)
    s.mapGuard g (fun x => { x with learning := some { pat := pat, left := 2 ^ n, dark := part } })

/-- LEARN, R299. -/
def execLearn (m : Master) (g : GuardId) (t : Instant) (s : State) : Host.Outcome State Fault Refusal :=
  .next ((s.atT t).strobe m (guardBlock g) none false (fun s => s.beginLearn g))

/-- R299 (10): GDA's learned words, 1 024 of them: each used index's, the last one copied upwards; none for an index below that
was not used. -/
def learnedWords (bins : List (Nat × Nat × Nat)) (mlo mhi : Nat) : List (Nat × Word) :=
  let word (b : Nat × Nat × Nat) : Word :=
    BitVec.ofNat 32 (max 1 (b.2.1 - 8 * mlo) + min 0xFFFF (b.2.2 + 8 * mhi) * 2 ^ 16)
  let last := bins.foldl (fun a b => max a b.1) 0
  match bins.find? (fun b => b.1 == last) with
  | some top =>
    bins.map (fun b => (b.1, word b)) ++ (List.range (1023 - last)).map (fun i => (last + 1 + i, word top))
  | none => []

/-- R299 (10): the profile that a guard writes into the stage bank, with its PVALID bit. -/
def State.writeLearned (s : State) (g : GuardId) (l : Learning) : State :=
  let put (m : List Host.Cell) (w : Nat × Word) : List Host.Cell := Store.setWord m w.1 w.2
  match g with
  | .a =>
    let ws := (learnedWords l.bins (s.rd Reg.GDA_LEARN_MLO) (s.rd Reg.GDA_LEARN_MHI)).map
      (fun w => (profileBase + 0x1000 * l.pat + 4 * w.1, w.2))
    let s := s.mapMems (fun m => { m with stage := ws.foldl put m.stage })
    let f := Reg.GDA_PVALID_VALID
    s.setStage f.addr (s.stageWord f.addr ||| (f.bit l.pat).mask)
  | .b =>
    let s := match l.bins with
      | b :: _ =>
        let lo := b.2.1 - s.rd Reg.GDB_LEARN_MLO
        let hi := min 1023 (b.2.2 + s.rd Reg.GDB_LEARN_MHI)
        s.mapMems (fun m => { m with
          stage := put m.stage (profileBase + 0x10000 + 4 * l.pat, BitVec.ofNat 32 (lo + hi * 2 ^ 16)) })
      | [] => s
    let f := Reg.GDB_PVALID_VALID
    s.setStage f.addr (s.stageWord f.addr ||| (f.bit l.pat).mask)

/-- LEARN_COMPLETE, R299: the count is reached, and the stage takes the profile as a stage write (R59). -/
def execLearnComplete (g : GuardId) (t : Instant) (s : State) : Host.Outcome State Fault Refusal :=
  let s := s.atT t
  match (s.guard g).learning with
  | some l =>
    if l.left = 0 then
      let s := (s.writeLearned g l).stageTo .dirty
      let s := s.mapGuard g (fun x => { x with learning := none })
      .next (s.event [guardStat g Reg.GDA_STAT_LEARN_DONE Reg.GDB_STAT_LEARN_DONE])
    else .next s
  | none => .next s

/-- LEARN_ABORT, R300. -/
def execLearnAbort (m : Master) (g : GuardId) (t : Instant) (s : State) : Host.Outcome State Fault Refusal :=
  .next ((s.atT t).strobe m (guardBlock g) none false (fun s => s.cancelLearn g))

/-! ### Restart (R301 to R306) -/

/-- R304, R80 (10, 03): a restart pluck cannot fire under the active tuning. -/
def State.restartUnable (s : State) : Bool :=
  s.rd Reg.GDA_RST_SCALE == 0 || shapeBad s.mems.act (s.rd Reg.GDA_RST_SHAPE)
    || !s.on (Reg.PSY_SLOT_EN (s.rd Reg.GDA_RST_SLOT))

/-- R302 (10): an attempt may start. -/
def State.mayRestart (s : State) : Bool :=
  s.gda.state == .tripped && s.gdb.state == .tripped && (s.chp.mode == .service || s.chp.mode == .test) && !s.chp.safe
    && s.guards.intlkClosed && (s.src.stages.take 4).all (fun x => x.fault == .none) && s.gda.stOk && s.gdb.stOk
    && s.on (Reg.GDA_PVALID_VALID.bit 15) && s.on (Reg.GDB_PVALID_VALID.bit 15) && !s.restartUnable && !s.pwr.fallback

/-- R301, R302 (10): GDB starts an attempt and enters RESTART. -/
def State.startAttempt (s : State) : State :=
  let s := s.mapGuards (fun g => { g with attemptAt := some s.now, lastAttempt := some s.now, plucks := 0 })
  (s.bump Reg.GDB_ATTEMPT_CNT).guardEnter .b .restart .none

/-- R302 (10): RESTART starts an attempt, at least 1 s after the previous one. -/
def State.restartHolds (s : State) : Bool := s.mayRestart && s.guards.lastAttempt.all (fun a => decide (a + sec ≤ s.now))

/-- RESTART (R302): an attempt starts, or the write is refused. -/
def State.restartCmd (s : State) : State :=
  if s.restartHolds then s.startAttempt
  else s.guardRefuses .b

/-- RESTART, R302. -/
def execRestart (m : Master) (t : Instant) (s : State) : Host.Outcome State Fault Refusal :=
  .next ((s.atT t).strobe m .gdb none false State.restartCmd)

/-- R288 (10): the causes that a timed restart may follow. -/
def TripCause.timed (c : TripCause) : Bool :=
  match c with
  | .low => true | .high => true | .rxLow => true | .rxHigh => true | .restartFail => true
  | _ => false

/-- R288, R305 (10): the guard's CAUSE allows a timed restart; FOLLOW as the other's. -/
def State.timedCause (s : State) (g : GuardId) : Bool :=
  if (s.guard g).cause = .follow then (s.guard (otherGuard g)).cause.timed else (s.guard g).cause.timed

/-- TIMED_RESTART, R305. -/
def execTimedRestart (t : Instant) (s : State) : Host.Outcome State Fault Refusal :=
  let s := s.atT t
  let from_ := max s.gdb.trippedAt (s.guards.lastAttempt.getD 0)
  if s.on Reg.GDB_RST_AUTO && s.timedCause .a && s.timedCause .b && s.mayRestart
      && from_ + max 1 (s.rd Reg.GDB_RST_INTERVAL) * sec ≤ s.now then
    .next s.startAttempt
  else .next s

/-- R303 (10): COUNT. -/
def State.restartCount (s : State) : Nat := max 1 (s.rd Reg.GDA_RST_COUNT)

/-- R303 (10): the instant of the next restart pluck; none: no attempt, or all have been fired. -/
def State.nextRestartPluck (s : State) : Option Nat :=
  match s.guards.attemptAt with
  | some a =>
    if s.guards.plucks < s.restartCount then
      some (a + max 1 (s.rd Reg.GDA_RST_SETTLE) * ms + s.guards.plucks * max 4 (s.rd Reg.GDA_RST_SPACE) * ms)
    else none
  | none => none

/-- RESTART_PLUCK, R303, R304, R306: GDA fires a restart pluck at its scheduled time, or fails the attempt. -/
def execRestartPluck (t : Instant) (s : State) : Host.Outcome State Fault Refusal :=
  let s := s.atT t
  match s.nextRestartPluck with
  | some at_ =>
    if s.gda.state != .restart || s.now < at_ then .next s
    else if s.restartUnable then .next s.failAttempt
    else
      let s := s.mapGuards (fun g => { g with plucks := g.plucks + 1 })
      .next (s.beginPluck (s.rd Reg.GDA_RST_SLOT) (s.rd Reg.GDA_RST_SHAPE) (s.rd Reg.GDA_RST_SCALE) true)
  | none => .next s

/-- RESTART_PLUCK_WINDOW_END, R304: after the last window GDA enters ARMED; GDB follows when it sees it (PEER_STATUS). -/
def execRestartPluckWindowEnd (t : Instant) (s : State) : Host.Outcome State Fault Refusal :=
  let s := s.atT t
  match s.psq.pluck with
  | some p =>
    if p.restart && p.fired && p.windowEnd ≤ s.now then
      let s := s.mapPsq (fun q => { q with pluck := none, gateShut := max q.gateShut p.closeAt })
      if s.restartCount ≤ s.guards.plucks && s.guards.attemptAt.isSome && s.gda.state = .restart then
        .next ((s.mapGuards (fun g => { g with attemptAt := none, plucks := 0 })).guardEnter .a .armed .none)
      else .next s
    else .next s
  | none => .next s

end Sys2Proof.Machine
end

