-- ==== Sys2Proof/Machine/Ring.lean ====
section
/-! DEFINITION. The rows of RNG, CMP and CVU (11): row commits, capture requests and hand-overs, blocks and check values. -/

namespace Sys2Proof.Machine

/-! ### Captures (R320 to R328) -/

/-- R322, R461 (11, 15): the CAPTURE subscriptions. -/
def State.captureSubs (s : State) : List Nat := s.subsWhere (fun x => x.kind == .capture)

/-- R321, R187 (11, 06): a number of sweeps in rows of the ring preset. -/
def State.sweepsToRows (s : State) (n : Nat) : Nat := ceilDiv (n * s.activeSlots.length) (presetD (s.rd Reg.PFL_TAP_RING))

/-- R322 (11): the first code that refuses a request; 0: none does. -/
def State.refusal (s : State) (q : CapRequest) : Nat :=
  let pre := s.sweepsToRows q.pre
  let post := s.sweepsToRows q.post
  let room := s.rng.ns - s.rng.guardRows
  if s.chp.mode != .service && s.chp.mode != .test then 8
  else if !s.ringOn then 3
  else if q.last < q.first || q.first < s.rd Reg.PHS_RANGE_CAPO || s.rd Reg.PHS_RANGE_END < q.last then 6
  else if q.pre + q.post = 0 then 7
  else if s.rng.rows.head?.any (fun r => decide (q.trigAt < r.firedAt)) then 9
  else if !q.stream && room < pre + post then 1
  else if q.stream && room < pre then 5
  else if q.stream && s.captureSubs.isEmpty then 4
  else if !((List.range 64).any (fun i => (s.desc i).state == .free)) then 2
  else 0

/-- R326, R469 (11, 15): a committed row of a stream capture is read once and given to every CAPTURE subscription; its lines with
an uncorrectable error are counted and mapped. -/
def State.giveCapture (s : State) (i : Nat) (r : RingRow) : State :=
  let d := s.desc i
  let bad := s.badIn r d.first d.last
  let s := if bad = 0 then s
    else ((s.mapDesc i (fun d => d.mark (d.offset r.num) 1 3)).bumpBy Reg.RNG_ECC_CNT bad).event [Reg.RNG_STAT_ECC]
  let row : StreamRow :=
    { index := d.offset r.num % 2 ^ 32 + d.num * 2 ^ 32, sweep := r.sweep, formedAt := s.now, qflags := s.rowFlags r
      data := sampleBytes (s.rowSamples r d.first d.last) }
  let s := s.captureSubs.foldl (fun s k => s.giveRow k row) s
  s.mapDesc i (fun d => { d with given := r.num + 1 })

/-- R325 (11): the rows of a stream capture that are committed and not yet given. -/
def State.giveCommitted (s : State) (i : Nat) : State :=
  let d := s.desc i
  if d.state = .stream && d.trow.isSome then
    (s.rng.rows.filter (fun r => d.given ≤ r.num && r.num < d.stop)).foldl (fun s r => s.giveCapture i r) s
  else s

/-- R324, R325 (11): a capture whose window is over closes COMPLETE. -/
def State.settleDesc (s : State) (i : Nat) : State :=
  let d := s.desc i
  if d.trow.isSome && ((d.state = .wait && d.stop ≤ s.rng.wrow) || (d.state = .stream && d.stop ≤ d.next)) then
    s.closeDesc i .complete
  else s

/-- R321, R324 (11): the trigger row of a capture becomes known: the window is fixed, and its rows before the oldest one retained
at acceptance are NOT_HELD. -/
def State.fixWindow (s : State) (i t : Nat) : State :=
  let d := { s.desc i with trow := some t }
  let lo := max d.start d.oldest
  let d := d.mark 0 (min d.oldest d.stop + d.pre - t) 1
  let d := if d.state = .stream then { d with next := lo, given := lo }
    else { d with next := max lo s.rng.wrow, rows := min s.rng.wrow d.stop - lo }
  let s := s.mapDesc i (fun _ => d)
  let s := if d.oldest < s.rng.oldestRow then s.loseDesc i d.oldest s.rng.oldestRow else s
  (s.giveCommitted i).settleDesc i

/-- R320 (11): the capture number after `n`: 0 and 0xFFFF_FFFC upwards are skipped. -/
def nextCapNum (n : Nat) : Nat := if 0xFFFFFFFC ≤ n + 1 then 1 else n + 1

/-- R320, R321 (11): an accepted request takes the lowest free descriptor and a number. -/
def State.acceptCapture (s : State) (q : CapRequest) : State × Nat :=
  let num := s.rng.nextNum
  match (List.range 64).find? (fun i => (s.desc i).state == .free) with
  | none => (s, 0)
  | some i =>
    let d : Desc :=
      { num := num, state := if q.stream then .stream else .wait, stream := q.stream
        source := if q.zone = 256 then 1 else if q.zone = 257 then 2 else 0, zone := if q.zone < 256 then q.zone else 0
        first := q.first, last := q.last, pre := s.sweepsToRows q.pre, post := s.sweepsToRows q.post
        trigAt := q.trigAt, oldest := s.rng.oldestRow, session := q.cmd.map (fun c => c.1) }
    let s := (s.mapRng (fun r => { r with nextNum := nextCapNum num })).mapDesc i (fun _ => d)
    let s := s.bump Reg.RNG_CAP_CNT
    let s := if q.stream then s.mapKpe (fun k => { k with capCrc := k.capCrc.filter (fun c => c.1 != num) ++ [(num, 0)] })
      else s
    match s.rng.rows.find? (fun r => decide (q.trigAt ≤ r.firedAt)) with
    | some r => (s.fixWindow i r.num, num)
    | none => (s, num)

/-- R266, R271 (09): the records that wait for a request learn its outcome. -/
def State.resolveRequest (s : State) (tag : Nat) (c : CaptureField) : State :=
  s.mapZon (fun z => { z with waiting := z.waiting.map (fun e =>
    if e.capture = .waiting tag then { e with capture := c } else e) })

/-- CAPTURE_REQUEST, R321, R322, R454: RNG takes the oldest request. -/
def execCaptureRequest (t : Instant) (s : State) : Host.Outcome State Fault Refusal :=
  let s := s.atT t
  match s.zon.requests with
  | [] => .next s
  | q :: r =>
    let s := s.mapZon (fun z => { z with requests := r })
    let c := s.refusal q
    if c = 0 then
      let a := s.acceptCapture q
      let s := a.1.resolveRequest q.tag (.number a.2)
      match q.cmd with
      | some k => .next (s.endCmd k.1 k.2 .complete 0 (leBytes 4 a.2))
      | none => .next s
    else
      let s := ((s.wr Reg.RNG_REFUSE_CODE c).bump Reg.RNG_REFUSE_CNT).event [Reg.RNG_STAT_REFUSED]
      match q.cmd with
      | some k => .next (s.endCmd k.1 k.2 .refused c [])
      | none =>
        let s := s.resolveRequest q.tag .refused
        .next ((s.bump Reg.ZON_REFUSED_CNT).event [Reg.ZON_STAT_CAP_REFUSED])

/-! ### Rows (R312 to R319) -/

/-- R312, R313 (11): the bytes of an output row's lines, 30 samples and the trailer word each. -/
def State.rowBytes (s : State) (r : PflRow) : List Byte :=
  let capo := s.rdFor r.sweep Reg.PHS_RANGE_CAPO
  let end_ := s.rdFor r.sweep Reg.PHS_RANGE_END
  let b (v : Bool) (k : Nat) : Nat := if v then 2 ^ k else 0
  (List.range s.rng.lpr).flatMap (fun i =>
    let xs := (List.range 30).map (fun k =>
      let p := capo + 30 * i + k
      if end_ < p then none else r.samples.find? (fun x => x.pos == p))
    let any (f : PflSample → Bool) : Bool := xs.any (fun o => o.any f)
    xs.flatMap (fun o => leBytes 2 ((o.map (fun x => x.value.toNat)).getD 0x8000))
      ++ leBytes 4 (r.sweep % 2 ^ 22 + r.slot % 8 * 2 ^ 22 + b r.isPartial 25 + b r.late 26 + b r.dark 27
        + b (any (fun x => x.subst)) 28 + b (any (fun x => x.sat)) 29))

/-- CAPTURE_CUT (R325): the stream captures whose drain row lies NS − GUARD_ROWS behind the row about to be written. -/
def State.cutStreams (s : State) : State :=
  (List.range 64).foldl (fun s i =>
    let d := s.desc i
    if d.state = .stream && d.trow.isSome && d.next + (s.rng.ns - s.rng.guardRows) ≤ s.rng.wrow then
      let s := s.dropGiven d.num (d.offset d.next)
      let s := s.mapDesc i (fun d => d.mark (d.offset d.next) (d.stop - d.next) 4)
      ((s.bump Reg.RNG_TRUNC_CNT).event [Reg.RNG_STAT_TRUNCATED]).closeDesc i .truncated
    else s) s

/-- R319 (11): the row whose space the next one takes is released. -/
def State.reuseSlot (s : State) : State :=
  match s.rng.rows.find? (fun r => r.slot == s.rng.wslot) with
  | some r => s.releaseRows (r.num + 1)
  | none => s

/-- R324, R325 (11): what a commit of row `w`, fired at `f`, brings to descriptor `i`. -/
def State.commitDesc (s : State) (w f i : Nat) : State :=
  let d := s.desc i
  if d.state != .wait && d.state != .stream then s
  else
    match d.trow with
    | none => if d.trigAt ≤ f then s.fixWindow i w else s
    | some _ =>
      let s := if d.state = .wait && d.start ≤ w && w < d.stop then
          s.mapDesc i (fun d => { d with rows := d.rows + 1, next := w + 1 })
        else s
      (s.giveCommitted i).settleDesc i

/-- ROW_COMMIT, R312 to R319, R324: the oldest row that waits is written and committed; at the first row of a sweep that changes
the format the ring switches first. -/
def execRowCommit (t : Instant) (s : State) : Host.Outcome State Fault Refusal :=
  let s := s.atT t
  match s.rng.queue with
  | [] => .next s
  | r :: rest =>
    if s.isolated .rng then .next s
    else
      let s := if s.rng.formatAt.any (fun n => decide (n ≤ r.sweep)) then s.ringFormat else s
      let s := s.mapRng (fun g => { g with queue := rest })
      if s.rng.ns = 0 then .next s
      else
        let s := s.cutStreams.reuseSlot
        let row : RingRow := { num := s.rng.wrow, slot := s.rng.wslot, sweep := r.sweep, firedAt := r.firedAt }
        let s := s.dramWrite (s.lineAddr row 0) (s.rowBytes r)
        let w := s.rng.wrow
        let s := s.mapRng (fun g => { g with rows := g.rows ++ [row], wrow := (w + 1) % 2 ^ 48 })
        let s := s.nextSlot
        let s := (List.range 64).foldl (fun s i => s.commitDesc w r.firedAt i) s
        .next s.ringSettle

/-- The rows of capture `num` that some CAPTURE subscription still holds, in a row list, an open block or a closed one, from
offset `off` on. -/
def State.heldRows (s : State) (num : Nat) (p : Nat → Bool) : Bool :=
  let hit (r : StreamRow) : Bool := r.index / 2 ^ 32 == num && p (r.index % 2 ^ 32)
  let sub (f : FlowRef) : Bool := match f with
    | .sub n => (s.sub n).any (fun x => x.kind == .capture)
    | _ => false
  s.captureSubs.any (fun k => (s.sub k).any (fun x => x.rows.any hit))
    || s.cmp.ctxs.any (fun c => c.flow.any sub && c.rows.any hit)
    || s.cmp.closed.any (fun b => sub b.flow && b.rows.any hit)

/-- R469, R327 (15, 11): the data of a capture's final packet. -/
def State.lastData (s : State) (i : Nat) : List Byte :=
  let d := s.desc i
  let crc := ((s.kpe.capCrc.find? (fun c => c.1 == d.num)).map (fun c => c.2)).getD 0
  d.map.flatMap (fun e => leBytes 8 e.word.toNat) ++ leBytes 8 crc.toNat

/-- ROW_HANDOVER, R325, R469, R320: the row that descriptor `d` hands over is in every subscriber's packets; or, of a CLOSED
stream capture, the completion record is handed over: each subscription forms its final packet, and the descriptor is FREE. -/
def execRowHandover (d : Nat) (t : Instant) (s : State) : Host.Outcome State Fault Refusal :=
  let s := s.atT t
  let x := s.desc d
  if x.state = .stream && x.trow.isSome && x.next < x.given && !s.heldRows x.num (fun o => o == x.offset x.next) then
    .next ((s.handRow d).settleDesc d)
  else if x.state = .closed && x.stream && !s.heldRows x.num (fun _ => true) then
    let row : StreamRow :=
      { index := x.offset x.next % 2 ^ 32 + x.num * 2 ^ 32, sweep := s.sweep, formedAt := s.now
        qflags := if s.chp.safe then 32 else 0, data := [] }
    let data := s.lastData d
    let s := s.captureSubs.foldl (fun s k =>
      if (s.sub k).any (fun y => s.forms y) then s.formPacket k [row] data 1024 x.result.code x.first (x.last + 1 - x.first)
      else s.lost k) s
    let s := s.mapKpe (fun k => { k with capCrc := k.capCrc.filter (fun c => c.1 != x.num) })
    .next (s.freeDesc d)
  else .next s

/-- R328 (11): a write of OP with NUM24; where that is not NUM[23:0] it is ignored. -/
def State.captureOp (s : State) (d op num24 : Nat) : State :=
  if (s.desc d).num % 2 ^ 24 != num24 then s
  else if op = 1 then s.abortDesc d
  else if op = 2 then s.releaseDesc d
  else s

/-- CAPTURE_ABORT, R328: NUM24 must equal NUM[23:0], otherwise the write is ignored. -/
def execCaptureAbort (m : Master) (d : Nat) (num24 : Nat) (t : Instant) (s : State) : Host.Outcome State Fault Refusal :=
  .next ((s.atT t).strobe m .rng none false (fun s => s.captureOp d 1 num24))

/-- CAPTURE_RELEASE, R328. -/
def execCaptureRelease (m : Master) (d : Nat) (num24 : Nat) (t : Instant) (s : State) : Host.Outcome State Fault Refusal :=
  .next ((s.atT t).strobe m .rng none false (fun s => s.captureOp d 2 num24))

/-! ### Compression (R335, R336) -/

/-- CMP_FLUSH_TIMEOUT, R335. -/
def execCmpFlushTimeout (c : Nat) (t : Instant) (s : State) : Host.Outcome State Fault Refusal :=
  let s := s.atT t
  let x := s.ctx c
  let n := s.rd Reg.CMP_CTL_FLUSH_US
  if n != 0 && !x.samples.isEmpty && x.openAt + n * us ≤ s.now && !s.isolated .cmp then
    .next (s.closeCtxBlock c true false false)
  else .next s

/-- R463 (15): POS0 and NPOS of a packet of subscription `x` whose first row is `r`. -/
def State.packetSpan (s : State) (x : Subscription) (r : StreamRow) : Nat × Nat :=
  match x.kind with
  | .phase => (x.first, x.last + 1 - x.first)
  | .temp => (x.first, x.last + 1 - x.first)
  | .event => (0, 0)
  | .pluck => (s.rd Reg.PHS_RANGE_CAPO, r.data.length / 6)
  | .capture =>
    match s.rng.desc.find? (fun d => d.num == r.index / 2 ^ 32) with
    | some d => (d.first, d.last + 1 - d.first)
    | none => (0, r.data.length / 2)

/-- R463 (15): KFLAGS of a TEMP packet: the flags of its profile; otherwise 0. -/
def State.profileFlags (s : State) (x : Subscription) (index : Nat) : Nat :=
  if x.kind = .temp then ((s.dts.profiles.find? (fun p => p.seq == index)).map (fun p => p.flags)).getD 0 else 0

/-- R456, R467 (15): a released block becomes the packet of its flow: a stream packet, or a DATA packet of its command. -/
def State.blockToFlow (s : State) (b : CmpBlock) (bytes : List Byte) : State :=
  match b.flow with
  | .sub i =>
    match s.sub i, b.rows with
    | some x, r :: _ =>
      let sp := s.packetSpan x r
      s.formPacket i b.rows bytes 128 (s.profileFlags x r.index) sp.1 sp.2
    | _, _ => s
  | .read n tag =>
    match b.rows with
    | r :: _ => s.queueCtl n (.data tag 1 b.rows.length (r.index * b.stride * 2) bytes (if b.error then [] else sampleBytes b.samples))
    | [] => s

/-- CMP_BLOCK_RELEASE, R331 to R336: the oldest closed block is released; with VERIFY set `ok` says that the decompressor's
result agrees with DCRC, and a block that disagrees is released STORED. -/
def execCmpBlockRelease (ok : Bool) (t : Instant) (s : State) : Host.Outcome State Fault Refusal :=
  let s := s.atT t
  match s.cmp.closed with
  | [] => .next s
  | b :: r =>
    let fails := !ok && s.on Reg.CMP_CTL_VERIFY && !b.stored && !b.error
    let bytes := b.bytes fails
    let s := s.mapCmp (fun c => { c with closed := r })
    let s := s.bump Reg.CMP_BLK_CNT
    let s := if b.stored || fails then (s.bump Reg.CMP_STORED_CNT).event [Reg.CMP_STAT_STORED] else s
    let n := s.cmp.outBytes + bytes.length
    let s := (s.bumpBy Reg.CMP_OUT_KIB (n / 1024)).mapCmp (fun c => { c with outBytes := n % 1024 })
    let s := s.blockToFlow b bytes
    if fails then
      .next (((s.bump Reg.CMP_VFAIL_CNT).event [Reg.CMP_STAT_VERIFY_FAIL]).blockFault .cmp none 1 0)
    else .next s

/-! ### Check values (R337 to R341) -/

/-- CVU unit `u`; out of range: one that is idle. -/
def State.cvuUnit (s : State) (u : Nat) : CvuUnit := s.cvu.units.getD u {}

/-- CVU unit `u` changed by `f`. -/
def State.mapCvuUnit (s : State) (u : Nat) (f : CvuUnit → CvuUnit) : State :=
  s.mapCvu (fun c => { c with units := modAt c.units u f })

/-- R339 (11): unit `u` serves flows, and a master's writes to it are ignored. -/
def State.cvuOwned (s : State) (u : Nat) : Bool := s.on (Reg.CVU_OWN_UNITS.bit u)

/-- R337, R340 (11): the running value after bytes. -/
def cvuRun (poly : Nat) (run : BitVec 64) (bs : List Byte) : BitVec 64 :=
  if poly = 1 then bs.foldl crc64Byte run else (bs.foldl crc32Byte (run.setWidth 32)).setWidth 64

/-- START (R340, R338): RUN takes the initial value and the prefix, COUNT is 0, and with SRC DRAM the range is read. -/
def State.cvuBegin (s : State) (u : Nat) : State :=
  let poly := s.rd (Reg.CVU_U_POLY u)
  let fold := s.rd (Reg.CVU_U_FOLD u)
  let pre := if fold = 1 then leBytes 8 (s.rd (Reg.CVU_U_BASE u))
    else if fold = 2 then leBytes 8 (s.rd (Reg.CVU_U_SEQ u)) else []
  s.mapCvuUnit u (fun x => { x with
    state := .running, run := cvuRun poly (if poly = 1 then 0 else 0xFFFFFFFF) pre, count := 0
    dram := s.rd (Reg.CVU_U_SRC u) == 1 })

/-- R341 (11): RESULT, DONE, and the comparison with EXPECT. -/
def State.cvuEnd (s : State) (u : Nat) : State :=
  let x := s.cvuUnit u
  let r : BitVec 64 := if s.rd (Reg.CVU_U_POLY u) = 1 then x.run else (x.run ^^^ 0xFFFFFFFF).setWidth 32 |>.setWidth 64
  let s := (s.mapCvuUnit u (fun x => { x with result := r, state := .done, dram := false })).event
    [Reg.CVU_STAT_DONE.bit u]
  if !s.on (Reg.CVU_U_CMP_EN u) then s
  else if r.toNat = s.rd (Reg.CVU_U_EXPECT u) then s.mapCvuUnit u (fun x => { x with mismatch := false })
  else
    let s := ((s.mapCvuUnit u (fun x => { x with mismatch := true })).event [Reg.CVU_STAT_MISMATCH.bit u]).bump
      (Reg.CVU_U_MIS_CNT u)
    if s.on (Reg.CVU_U_IRQ_EN u) then s.record 1 evCvuMismatch u else s

/-- R341 (11): RESET. -/
def State.cvuIdle (s : State) (u : Nat) : State := s.mapCvuUnit u (fun x => { x with state := .idle, dram := false })

/-- R339 (11): a command for a unit, ignored where the unit is owned. -/
def State.cvuCmd (s : State) (u : Nat) (f : State → State) : State := if s.cvuOwned u then s else f s

/-- CVU_START, R340. -/
def execCvuStart (m : Master) (u : Nat) (t : Instant) (s : State) : Host.Outcome State Fault Refusal :=
  .next ((s.atT t).strobe m .cvu (some u) false (fun s => s.cvuCmd u (fun s => s.cvuBegin u)))

/-- CVU_FINISH, R341. -/
def execCvuFinish (m : Master) (u : Nat) (t : Instant) (s : State) : Host.Outcome State Fault Refusal :=
  .next ((s.atT t).strobe m .cvu (some u) false (fun s => s.cvuCmd u (fun s => s.cvuEnd u)))

/-- CVU_RESET, R341. -/
def execCvuReset (m : Master) (u : Nat) (t : Instant) (s : State) : Host.Outcome State Fault Refusal :=
  .next ((s.atT t).strobe m .cvu (some u) false (fun s => s.cvuCmd u (fun s => s.cvuIdle u)))

/-- FEED (R339): 4 bytes, low byte first, of a unit that runs with SRC REGISTER. -/
def State.cvuFeed (s : State) (u : Nat) (v : Word) : State :=
  let src := s.rd (Reg.CVU_U_SRC u)
  if (s.cvuUnit u).state = .running && (src = 0 || src = 3) then
    s.mapCvuUnit u (fun x => { x with
      run := cvuRun (s.rd (Reg.CVU_U_POLY u)) x.run (leBytes 4 v.toNat), count := (x.count + 4) % 2 ^ 32 })
  else s

/-- FEED, R339. -/
def execFeed (m : Master) (u : Nat) (v : Word) (t : Instant) (s : State) : Host.Outcome State Fault Refusal :=
  let _ := m
  .next ((s.atT t).strobe m .cvu (some u) false (fun s => s.cvuCmd u (fun s => s.cvuFeed u v)))

/-- R340 (11): a write of RUN. -/
def State.cvuLoad (s : State) (u : Nat) (v : BitVec 64) : State := s.mapCvuUnit u (fun x => { x with state := .running, run := v })

/-- RUN_WRITE, R340: RUNNING with that value, no prefix. -/
def execRunWrite (m : Master) (u : Nat) (v : BitVec 64) (t : Instant) (s : State) : Host.Outcome State Fault Refusal :=
  .next ((s.atT t).strobe m .cvu (some u) false (fun s => s.cvuCmd u (fun s => s.cvuLoad u v)))

/-- CVU_DRAM_DONE, R339, R341: the range has been read through DMC. -/
def execCvuDramDone (u : Nat) (t : Instant) (s : State) : Host.Outcome State Fault Refusal :=
  let s := s.atT t
  let x := s.cvuUnit u
  if x.state = .running && x.dram && !s.isolatedAt .cvu (some u) then
    let n := s.rd (Reg.CVU_U_LEN u)
    let bs := s.dramBytes (s.rd (Reg.CVU_U_BASE u)) n
    .next ((s.mapCvuUnit u (fun x => { x with run := cvuRun (s.rd (Reg.CVU_U_POLY u)) x.run bs, count := n })).cvuEnd u)
  else .next s

end Sys2Proof.Machine
end

