-- ==== Sys2Proof/Machine/Dram.lean ====
section
/-! DEFINITION. DMC (R344 to R368, 12): requests and their scheduling, row-disturbance protection, refresh, power-down and
self-refresh, scrub, training and retraining. -/

namespace Sys2Proof.Machine

/-! ### Sub-channels and ranks -/

/-- Sub-channel `k`. -/
def State.subCh (s : State) (k : Nat) : SubChannel := s.dmc.subs.getD k {}

/-- Sub-channel `k` changed by `f`. -/
def State.mapSubCh (s : State) (k : Nat) (f : SubChannel → SubChannel) : State :=
  s.mapDmc (fun d => { d with subs := modAt d.subs k f })

/-- Rank `r` of sub-channel `k`. -/
def State.rank (s : State) (k r : Nat) : DramRank := (s.subCh k).ranks.getD r {}

/-- Rank `r` of sub-channel `k` changed by `f`. -/
def State.mapRank (s : State) (k r : Nat) (f : DramRank → DramRank) : State :=
  s.mapSubCh k (fun c => { c with ranks := modAt c.ranks r f })

/-- The sub-channel has been trained and is not in training (R360, R361). -/
def SubChannel.trained (c : SubChannel) : Bool :=
  c.state != .untrained && c.state != .training && c.state != .failed

/-- R346 (12): the place of a system address in the fitted memory. -/
def State.place (s : State) (a : Nat) : LinePlace := linePlace s.ranksFitted a

/-- R356 (12): the refresh factor of a rate. -/
def rateFactor (r : Nat) : Nat :=
  match r with
  | 0 => 1 | 1 => 2 | _ => 4

/-- R355 (12): the refresh interval at a rate. -/
def rateInterval (r : Nat) : Nat := 3904000 / rateFactor r

/-- R355 (12): the allowance at a rate. -/
def rateAllowance (r : Nat) : Nat := 8 / rateFactor r

/-- R353 (12): the refresh window at a rate. -/
def rateWindow (r : Nat) : Nat := 32 * ms / rateFactor r

/-- R355 (12): the rank has requests waiting. -/
def State.rankWaits (s : State) (k r : Nat) : Bool :=
  (s.subCh k).queue.any (fun q => !q.served && (s.place q.addr).rank == r)

/-! ### Refresh (R355 to R358) -/

/-- All banks of a rank are precharged. -/
def State.precharge (s : State) (k r : Nat) : State :=
  s.mapSubCh k (fun c => { c with openRows := c.openRows.filter (fun o => o.1 != r) })

/-- R355 (12): a refresh of the rank is issued at `t`; it pays one of the debt. -/
def State.issueRefresh (s : State) (k r t : Nat) : State :=
  ((s.precharge k r).mapRank k r (fun x => { x with
    debt := x.debt - 1, refreshAt := some t, powerDown := false, lastOfBurst := x.catchUp.isSome && x.debt ≤ 1 })).bump
    (Reg.DMC_REF_CNT k)

/-- R355 (12): a refresh is issued now where debt stands, and no request waits or the debt is at the allowance. -/
def State.payDebt (s : State) (k r t : Nat) : State :=
  let x := s.rank k r
  if x.refreshAt.isNone && x.catchUp.isNone && x.debt != 0 && (!s.rankWaits k r || rateAllowance x.rate ≤ x.debt) then
    s.issueRefresh k r t
  else s

/-- REFRESH_INTERVAL (R355, R357, R367): an interval of the rank has elapsed: its debt rises by one, a lower rate takes effect, and a
refresh is issued where one is due. -/
def execRefreshInterval (sub rank : Nat) (t : Instant) (s : State) : Host.Outcome State Fault Refusal :=
  let s := s.atT t
  let x := s.rank sub rank
  let c := s.subCh sub
  let due := x.intervalAt + rateInterval x.rate
  if (c.state = .active || c.state = .srEntry) && due ≤ s.now && rank < s.ranksFitted then
    let s := match x.rateNext with
      | some r => (s.mapRank sub rank (fun y => { y with rate := r, rateNext := none, retrainDue := true })).event
          [Reg.DMC_STAT_RATE_DOWN]
      | none => s
    let s := s.mapRank sub rank (fun y => { y with debt := y.debt + 1, intervalAt := due })
    let y := s.rank sub rank
    let s := if y.catchUp.isNone && rateAllowance y.rate + 1 < y.debt then s.blockFault .dmc none 5 0 else s
    .next (s.payDebt sub rank s.now)
  else .next s

/-- REFRESH_COMPLETE (R355, R357): the refresh of a rank is over. A catch-up burst issues its next refresh at that instant, or ends
with the refresh that brought the debt to zero. -/
def execRefreshComplete (sub rank : Nat) (t : Instant) (s : State) : Host.Outcome State Fault Refusal :=
  let s := s.atT t
  let x := s.rank sub rank
  match x.refreshAt with
  | some a =>
    let end_ := a + s.tRfc
    if end_ ≤ s.now then
      let s := s.mapRank sub rank (fun y => { y with refreshAt := none })
      let s := if (s.subCh sub).state = .srEntry then s.mapSubCh sub (fun c => { c with entryAt := end_ + 21000 }) else s
      match x.catchUp with
      | some c =>
        if x.lastOfBurst || x.debt = 0 then
          let s := s.mapRank sub rank (fun y => { y with catchUp := none, lastOfBurst := false })
          let s := s.wr (Reg.DMC_MAX_STALL_NS sub) (max (s.rd (Reg.DMC_MAX_STALL_NS sub)) (min ((end_ - c) / 1000) (2 ^ 32 - 1)))
          .next (s.payDebt sub rank s.now)
        else .next (s.issueRefresh sub rank end_)
      | none => .next (s.payDebt sub rank s.now)
    else .next s
  | none => .next s

/-- R356 (12): the reference channel of DMC.TEMP.CH asks for the fast poll: the function is off, its result is invalid, or it lies
within 5 °C of a limit. -/
def State.fastPoll (s : State) : Bool :=
  let c := s.ref.chans.getD (s.rd Reg.DMC_TEMP_CH) {}
  let v := c.lin / 1024
  let near (l : Nat) : Bool := decide (v - 64 * (l : Int) ≤ 320) && decide (64 * (l : Int) - v ≤ 320)
  !s.on Reg.DMC_TEMP_EN || c.reason != .valid || near (s.rd Reg.DMC_TEMP_TLIM1) || near (s.rd Reg.DMC_TEMP_TLIM2)

/-- MR4_POLL (R356): every 16 ms, or every 2 ms, DMC reads MR4 of every rank; a sub-channel in self-refresh has none read. -/
def execMr4Poll (t : Instant) (s : State) : Host.Outcome State Fault Refusal :=
  let s := s.atT t
  if s.dmc.pollAt + (if s.fastPoll then 2 * ms else 16 * ms) ≤ s.now then
    .next (s.mapDmc (fun d => { d with
      pollAt := s.now
      subs := d.subs.map (fun c =>
        if c.state = .active || c.state = .srEntry then
          { c with ranks := (c.ranks.take s.ranksFitted).map (fun x => { x with mr4Due := true }) ++ c.ranks.drop s.ranksFitted }
        else c) }))
  else .next s

/-- R356 (12): the rate of an MR4 code. -/
def mr4Rate (code : Nat) : Nat :=
  match code with
  | 4 => 1 | 5 => 2 | 6 => 3 | 7 => 3 | _ => 0

/-- R357 (12): a higher rate has been read: the catch-up burst begins, its first refresh 21 ns after the read. -/
def State.catchUp (s : State) (k r rate : Nat) : State :=
  let s := s.mapRank k r (fun x => { x with rate := rate, rateNext := none, retrainDue := true })
  let s := ((s.precharge k r).bump (Reg.DMC_CATCHUP_CNT k)).event [Reg.DMC_STAT_RATE_UP]
  let x := s.rank k r
  if x.debt = 0 then s
  else
    let s := s.mapRank k r (fun x => { x with catchUp := some s.now, lastOfBurst := false })
    if x.refreshAt.isSome then s else s.issueRefresh k r (s.now + 21000)

/-- MR4_RESULT (R356, R357, R367): an MR4 read of a rank returns its rate code, or no valid data. A higher rate starts a catch-up
burst, a lower one takes effect at the next interval; four times with and without derating differ in timings alone. -/
def execMr4Result (sub rank code : Nat) (ok : Bool) (t : Instant) (s : State) : Host.Outcome State Fault Refusal :=
  let s := s.atT t
  let x := s.rank sub rank
  if x.mr4Due then
    let s := s.mapRank sub rank (fun y => { y with mr4Due := false })
    if !ok then .next (s.blockFault .dmc none 3 0)
    else
      let s := s.wr Reg.DMC_RATE_LAST_MR4 code
      let s := if code = 0 then s.event [Reg.DMC_STAT_COLD] else s
      let r := mr4Rate code
      let s := if rateFactor x.rate < rateFactor r then s.catchUp sub rank r
        else if rateFactor r < rateFactor x.rate then s.mapRank sub rank (fun y => { y with rateNext := some r })
        else s.mapRank sub rank (fun y => { y with rate := r, rateNext := none })
      .next (if code = 7 then s.blockFault .dmc none 2 0 else s)
  else .next s

/-! ### Bank access and row-disturbance protection (R351, R353, R354) -/

/-- R346 (12): rows of a bank by density. -/
def State.bankRows (s : State) : Nat := 2 ^ (15 + s.dens)

/-- R353 (12): the trackers after an activate of a row: its count, or the lowest of 16 replaced with one more. -/
def trackRow (ts : List TrackedRow) (p : LinePlace) : List TrackedRow × Nat :=
  let here (x : TrackedRow) : Bool := x.rank == p.rank && x.bank == p.bank
  let mine := ts.filter here
  match mine.find? (fun x => x.row == p.row) with
  | some x =>
    (ts.map (fun y => if here y && y.row = p.row then { y with count := y.count + 1 } else y), x.count + 1)
  | none =>
    if mine.length < 16 then (ts ++ [{ rank := p.rank, bank := p.bank, row := p.row, count := 1 }], 1)
    else
      let low := mine.foldl (fun m x => min m x.count) (mine.headD { rank := 0, bank := 0, row := 0, count := 0 }).count
      let i := ts.findIdx (fun x => here x && x.count == low)
      (modAt ts i (fun _ => { rank := p.rank, bank := p.bank, row := p.row, count := low + 1 }), low + 1)

/-- A count by rank, bank and requester, one up. -/
def actUp (xs : List (Nat × Nat × Nat × Nat)) (r b id : Nat) : List (Nat × Nat × Nat × Nat) :=
  if xs.any (fun x => x.1 == r && x.2.1 == b && x.2.2.1 == id) then
    xs.map (fun x => if x.1 = r && x.2.1 = b && x.2.2.1 = id then (r, b, id, x.2.2.2 + 1) else x)
  else xs ++ [(r, b, id, 1)]

/-- A count by rank and bank, one up. -/
def bankUp (xs : List (Nat × Nat × Nat)) (r b : Nat) : List (Nat × Nat × Nat) :=
  if xs.any (fun x => x.1 == r && x.2.1 == b) then
    xs.map (fun x => if x.1 = r && x.2.1 = b then (r, b, x.2.2 + 1) else x)
  else xs ++ [(r, b, 1)]

/-- The count of a rank and bank. -/
def bankGet (xs : List (Nat × Nat × Nat)) (r b : Nat) : Nat :=
  ((xs.find? (fun x => x.1 == r && x.2.1 == b)).map (fun x => x.2.2)).getD 0

/-- R354 (12): the requester to throttle: the heaviest activator of the bank among IDs 5 to 10. -/
def heaviest (xs : List (Nat × Nat × Nat × Nat)) (r b : Nat) : Option Nat :=
  (xs.filter (fun x => x.1 == r && x.2.1 == b && 5 ≤ x.2.2.1)).foldl (fun (m : Option (Nat × Nat)) x =>
    match m with
    | some (i, n) => if n < x.2.2.2 then some (x.2.2.1, x.2.2.2) else some (i, n)
    | none => some (x.2.2.1, x.2.2.2)) none |>.map (fun x => x.1)

/-- R354 (12): a bank needs more neighbour refreshes than NR_MAX: the requester is throttled to the end of the window. -/
def State.throttle (s : State) (k : Nat) (p : LinePlace) : State :=
  if s.rd Reg.DMC_RH_NR_MAX < bankGet (s.subCh k).nrefs p.rank p.bank then
    match heaviest (s.subCh k).acts p.rank p.bank with
    | some id =>
      if (s.subCh k).throttled.contains (p.rank, id) then s
      else ((s.mapSubCh k (fun c => { c with throttled := c.throttled ++ [(p.rank, id)] })).bump (Reg.DMC_THR_CNT k)).event
        [Reg.DMC_STAT_THROTTLE]
    | none => s
  else s

/-- R353 (12): the neighbours of a row whose count has reached DMC.RH.TH are refreshed, and its entry is cleared; its bank is
closed by it. -/
def State.neighbourRefresh (s : State) (k : Nat) (p : LinePlace) : State :=
  let n := min 2 p.row + min 2 (s.bankRows - 1 - p.row)
  let s := s.mapSubCh k (fun c => { c with
    tracked := c.tracked.filter (fun x => !(x.rank == p.rank && x.bank == p.bank && x.row == p.row))
    nrefs := bankUp c.nrefs p.rank p.bank
    openRows := c.openRows.filter (fun o => !(o.1 == p.rank && o.2.1 == p.bank)) })
  let s := ((s.bump (Reg.DMC_NREF_CNT k)).bumpBy (Reg.DMC_ACT_CNT k) n).event [Reg.DMC_STAT_NREF]
  s.throttle k p

/-- R351 (12): the row of a place is open. -/
def SubChannel.rowOpen (c : SubChannel) (p : LinePlace) : Bool :=
  c.openRows.any (fun o => o.1 == p.rank && o.2.1 == p.bank && o.2.2.1 == p.row)

/-- R350 (12): the page hint CLOSE. -/
def hintClose (id : Nat) : Bool := id == 6 || id == 7

/-- R351, R353, R354 (12): a burst at a place: the row is activated where it is not open, and the hint closes it or leaves it open. -/
def State.bankAccess (s : State) (id : Nat) (p : LinePlace) : State :=
  let k := p.sub
  let was := (s.subCh k).rowOpen p
  let s := s.mapSubCh k (fun c => { c with
    openRows := (c.openRows.filter (fun o => !(o.1 == p.rank && o.2.1 == p.bank)))
      ++ (if hintClose id then [] else [(p.rank, p.bank, p.row, s.now)]) })
  if was then s
  else
    let tr := trackRow (s.subCh k).tracked p
    let s := s.mapSubCh k (fun c => { c with
      tracked := tr.1
      acts := actUp c.acts p.rank p.bank id
      lastAct := c.lastAct.filter (fun x => x.1 != id) ++ [(id, s.now)] })
    let s := s.bump (Reg.DMC_ACT_CNT k)
    if max 256 (s.rd Reg.DMC_RH_TH) ≤ tr.2 then s.neighbourRefresh k p else s

/-- RH_WINDOW_END (R353, R354): the refresh window of a rank ends: its trackers clear and its throttling ends. -/
def execRhWindowEnd (sub rank : Nat) (t : Instant) (s : State) : Host.Outcome State Fault Refusal :=
  let s := s.atT t
  let x := s.rank sub rank
  let due := x.windowAt + rateWindow x.rate
  if (s.subCh sub).trained && due ≤ s.now then
    let s := s.mapSubCh sub (fun c => { c with
      tracked := c.tracked.filter (fun y => y.rank != rank)
      nrefs := c.nrefs.filter (fun y => y.1 != rank)
      acts := c.acts.filter (fun y => y.1 != rank)
      throttled := c.throttled.filter (fun y => y.1 != rank) })
    .next (s.mapRank sub rank (fun y => { y with windowAt := due }))
  else .next s

/-! ### Self-refresh (R360, R361, R363) -/

/-- R363 (12): the first and the last system address but one of segment `j`. -/
def State.segment (s : State) (j : Nat) : Nat × Nat := (j * s.usableBytes / 8, (j + 1) * s.usableBytes / 8)

/-- R363 (12): the segment holds rows of the ring. -/
def State.ringSegment (s : State) (j : Nat) : Bool :=
  decide (ringBase < (s.segment j).2) && decide ((s.segment j).1 < ringBase + s.rng.ns * s.rng.lpr * 64)

/-- R318 (11): RNG has no holder: no descriptor is in use and no KP ring read runs. -/
def State.noHolder (s : State) : Bool := s.rng.desc.all (fun d => d.state == .free) && s.rng.reads.isEmpty

/-- R363 (12): the segments masked at self-refresh entry. -/
def State.maskedSegments (s : State) : List Nat :=
  (List.range 8).filter (fun j => s.on Reg.DMC_PASR_EN && decide (ringBase ≤ (s.segment j).1)
    && (!s.ringSegment j || (s.on Reg.DMC_PASR_RING && s.noHolder)))

/-- R360, R363 (12): the self-refresh entry command is issued: masked segments of the sub-channel lose their data. -/
def State.enterSelfRefresh (s : State) (k : Nat) : State :=
  let mask := s.maskedSegments
  let s := mask.foldl (fun s j => s.loseDram (s.segment j).1 (s.segment j).2 (some k)) s
  (s.mapSubCh k (fun c => { c with
    state := .selfRefresh, masked := mask, openRows := []
    ranks := c.ranks.map (fun x => { x with debt := 0, refreshAt := none, catchUp := none, lastOfBurst := false
                                            mr4Due := false, powerDown := false }) })).bump (Reg.DMC_SR_CNT k)

/-- R360, R363 (12): a request wakes a sub-channel from self-refresh: one refresh goes to each rank, and where rows of the ring were
masked RNG releases every retained row. -/
def State.exitSelfRefresh (s : State) (k : Nat) : State :=
  let lost := (s.subCh k).masked.any (fun j => s.ringSegment j)
  let s := s.mapSubCh k (fun c => { c with
    state := .active, masked := []
    ranks := (c.ranks.take s.ranksFitted).map (fun x => { x with refreshAt := some s.now, intervalAt := s.now })
      ++ c.ranks.drop s.ranksFitted })
  let s := s.bumpBy (Reg.DMC_REF_CNT k) s.ranksFitted
  if lost then ((s.releaseRows s.rng.wrow).mapRng (fun r => { r with wslot := 0 })).event [Reg.DMC_STAT_PASR_LOST] else s

/-- R359, R360 (12): what a request to a rank does to the sub-channel's power state. -/
def State.wakeDram (s : State) (k r : Nat) : State :=
  let s := match (s.subCh k).state with
    | .srEntry => (s.mapSubCh k (fun c => { c with state := .active })).bump (Reg.DMC_SR_CANCEL_CNT k)
    | .selfRefresh => s.exitSelfRefresh k
    | _ => s
  (s.mapSubCh k (fun c => { c with lastReq := s.now })).mapRank k r (fun x => { x with powerDown := false, usedAt := s.now })

/-- R361 (12): RECOVERY is entered: every trained sub-channel goes to self-refresh, and no request is accepted. -/
def State.closeDram (s : State) : State :=
  let s := (List.range 4).foldl (fun s k =>
    if (s.subCh k).trained && (s.subCh k).state != .selfRefresh then s.enterSelfRefresh k else s) s
  s.mapDmc (fun d => { d with closed := true, resp := [], subs := d.subs.map (fun c => { c with queue := [] }) })

/-- POWER_DOWN_ENTRY (R359): a rank with no request and no refresh due for 64 DRAM clocks enters power-down. -/
def execPowerDownEntry (sub rank : Nat) (t : Instant) (s : State) : Host.Outcome State Fault Refusal :=
  let s := s.atT t
  let x := s.rank sub rank
  if s.on Reg.DMC_SR_PD_EN && (s.subCh sub).state = .active && rank < s.ranksFitted && x.debt = 0 && x.refreshAt.isNone
      && x.catchUp.isNone && !s.rankWaits sub rank && x.usedAt + 128000000 / s.dramRate ≤ s.now then
    .next ((s.precharge sub rank).mapRank sub rank (fun y => { y with powerDown := true }))
  else .next s

/-- SELF_REFRESH_ENTRY (R360, R363): a sub-channel with no request for IDLE_US begins its entry; once every rank's debt is paid and
its banks are precharged, the entry command is issued. -/
def execSelfRefreshEntry (sub : Nat) (t : Instant) (s : State) : Host.Outcome State Fault Refusal :=
  let s := s.atT t
  let c := s.subCh sub
  let idle := c.queue.all (fun q => q.served)
  if c.state = .active then
    if s.on Reg.DMC_SR_EN && idle && c.lastReq + max 1 (s.rd Reg.DMC_SR_IDLE_US) * us ≤ s.now then
      let s := s.mapSubCh sub (fun c => { c with state := .srEntry, entryAt := s.now + 21000, openRows := [] })
      .next ((List.range s.ranksFitted).foldl (fun s r => s.payDebt sub r s.now) s)
    else .next s
  else if c.state = .srEntry then
    if c.entryAt ≤ s.now && (c.ranks.take s.ranksFitted).all (fun x => x.debt == 0 && x.refreshAt.isNone) then
      .next (s.enterSelfRefresh sub)
    else .next s
  else .next s

/-! ### Requests (R347, R348, R350 to R352) -/

/-- R350 (12): the starting priority class of a requester. -/
def startClass (id : Nat) : Nat :=
  if id ≤ 2 then 0 else if id ≤ 4 then 1 else if id ≤ 8 then 2 else if id = 9 then 3 else 4

/-- R347 (12): the line carries the poison pattern or an uncorrectable error. -/
def State.lineBad (s : State) (a : Nat) : Bool := s.dmc.poison.contains (a / 64)

/-- DMC takes a request at this address now (R344, R361, R364). -/
def State.dramTakes (s : State) (a : Nat) : Bool :=
  !s.dmc.closed && !s.isolated .dmc && decide (a < s.usableBytes) && (s.subCh (s.place a).sub).trained

/-- R351 (12): a write to the line of `a` notes itself on the reads that wait. -/
def State.noteWrite (s : State) (a : Nat) : State :=
  s.mapSubCh (s.place a).sub (fun c => { c with
    queue := c.queue.map (fun q => if q.addr / 64 = a / 64 then { q with newer := true } else q) })

/-- DRAM_REQUEST (R346, R347, R350 to R354, R360, R361): a request of requester `id` for bytes of one line arrives. A write is accepted
and takes effect, whole or by read-modify-write; a read waits with the data of the writes accepted before it. -/
def execDramRequest (id addr : Nat) (data : Option (List (BitVec 8))) (t : Instant) (s : State) :
    Host.Outcome State Fault Refusal :=
  let s := s.atT t
  let s := s.mapDmc (fun d => { d with resp := [] })
  if s.dramTakes addr then
    let p := s.place addr
    let s := s.wakeDram p.sub p.rank
    match data with
    | some bs =>
      let bs := bs.take (64 - addr % 64)
      let s := if bs.length < 64 then s.bump (Reg.DMC_RD_CNT p.sub) else s
      .next ((((s.noteWrite addr).dramWrite addr bs).bankAccess id p).bump (Reg.DMC_WR_CNT p.sub)).done
    | none =>
      let a := addr / 64 * 64
      let q : DramReq :=
        { seq := s.dmc.nextSeq, id := id, addr := a, cls := startClass id, time := s.now, data := s.dramBytes a 64
          bad := s.lineBad a }
      .next ((s.mapSubCh p.sub (fun c => { c with queue := c.queue ++ [q] })).mapDmc (fun d =>
        { d with nextSeq := d.nextSeq + 1 })).done
  else .next s.busErr

/-- R354 (12): a throttled requester's next activate is not yet due. -/
def State.heldBack (s : State) (k : Nat) (q : DramReq) : Bool :=
  let c := s.subCh k
  c.throttled.any (fun x => x.2 == q.id) && !c.rowOpen (s.place q.addr)
    && c.lastAct.any (fun x => x.1 == q.id && s.now < x.2 + s.rd Reg.DMC_RH_THR_NS * 1000)

/-- R351, R354, R355, R357, R365 (12): the request can be served now: its rank is not in a refresh, a catch-up burst or a retraining, and
its requester is not held back. -/
def State.servable (s : State) (k : Nat) (q : DramReq) : Bool :=
  let x := s.rank k (s.place q.addr).rank
  !q.served && x.refreshAt.isNone && x.catchUp.isNone && decide (x.retrainTo ≤ s.now) && !s.heldBack k q

/-- R351 (12): the read that the sub-channel serves next, and the row hits of its bank after it. -/
def State.pickRead (s : State) (k : Nat) : Option (DramReq × List (Nat × Nat × Nat)) :=
  let c := s.subCh k
  let qs := c.queue.filter (fun q => s.servable k q)
  let cls := qs.foldl (fun m q => min m q.cls) 99
  match qs.find? (fun q => q.cls == cls) with
  | some q =>
    let p := s.place q.addr
    let rest := c.hits.filter (fun h => !(h.1 == p.rank && h.2.1 == p.bank))
    let n := bankGet c.hits p.rank p.bank
    if c.rowOpen p then some (q, rest)
    else
      match qs.find? (fun r => r.cls == cls && (s.place r.addr).rank == p.rank && (s.place r.addr).bank == p.bank
          && c.rowOpen (s.place r.addr)) with
      | some r => if n < 16 then some (r, rest ++ [(p.rank, p.bank, n + 1)]) else some (q, rest)
      | none => some (q, rest)
  | none => none

/-- R352 (12): the oldest undelivered read of a requester, over every sub-channel. -/
def State.oldestRead (s : State) (id : Nat) : Option DramReq :=
  (s.dmc.subs.flatMap (fun c => c.queue.filter (fun q => q.id == id))).foldl (fun (m : Option DramReq) q =>
    match m with
    | some x => if q.seq < x.seq then some q else some x
    | none => some q) none

/-- R352 (12): responses to one requester return in the order of acceptance: those that are served and have no older one waiting. -/
def State.deliverReads (s : State) (id n : Nat) : State :=
  match n with
  | 0 => s
  | n + 1 =>
    match s.oldestRead id with
    | some q =>
      if q.served then
        (s.mapDmc (fun d => { d with
          resp := d.resp ++ [{ id := id, addr := q.addr, data := q.data, poison := q.ue }]
          subs := d.subs.map (fun c => { c with queue := c.queue.filter (fun x => x.seq != q.seq) }) })).deliverReads id n
      else s
    | none => s

/-- R348 (12): a corrected line: it is counted and written back, unless a write to it was accepted after the read. -/
def State.correctedLine (s : State) (k : Nat) (newer : Bool) : State :=
  let s := (s.bump (Reg.DMC_CE_CNT k)).event [Reg.DMC_STAT_CE]
  if newer then s else s.bump (Reg.DMC_WR_CNT k)

/-- R348 (12): an uncorrectable line, reported to the Morsen core, which writes an event record. -/
def State.badLine (s : State) (k id a : Nat) : State :=
  let s := ((s.bump (Reg.DMC_UE_CNT k)).event [Reg.DMC_STAT_UE]).wr Reg.DMC_UE_ADDR_ADDR a
  (s.wr Reg.DMC_UE_REQ_ID id).record 1 evDramUe a

/-- R347, R348 (12): a line found with an uncorrectable error reads so until it is written whole. -/
def State.markBad (s : State) (a : Nat) : State :=
  if s.lineBad a then s else s.mapDmc (fun d => { d with poison := d.poison ++ [a / 64] })

/-- DRAM_READ_RETURN (R348, R351 to R354): the read that a sub-channel's scheduler picks is served, and returns with no error (0), a
corrected one (1) or an uncorrectable one (2); a poisoned line always returns the last. -/
def execDramReadReturn (sub err : Nat) (t : Instant) (s : State) : Host.Outcome State Fault Refusal :=
  let s := s.atT t
  let s := s.mapDmc (fun d => { d with resp := [] })
  match (if (s.subCh sub).state = .active then s.pickRead sub else none) with
  | some (q, hits) =>
    let ue := q.bad || err = 2
    let s := (s.mapSubCh sub (fun c => { c with hits := hits })).bankAccess q.id (s.place q.addr)
    let s := s.bump (Reg.DMC_RD_CNT sub)
    let s := if ue then (if q.newer then s else s.markBad q.addr).badLine sub q.id q.addr
      else if err = 1 then s.correctedLine sub q.newer else s
    let s := s.mapSubCh sub (fun c => { c with
      lastReq := s.now
      queue := c.queue.map (fun x => if x.seq = q.seq then { x with served := true, ue := ue } else x) })
    .next (s.deliverReads q.id ((s.dmc.subs.map (fun c => c.queue.length)).foldl (· + ·) 0))
  | none => .next s

/-- REQUEST_AGE (R351): requests of class 2 to 4 that have waited 10 µs rise to class 1. -/
def execRequestAge (t : Instant) (s : State) : Host.Outcome State Fault Refusal :=
  let s := s.atT t
  .next (s.mapDmc (fun d => { d with subs := d.subs.map (fun c => { c with
    queue := c.queue.map (fun q => if 2 ≤ q.cls && q.time + 10 * us ≤ s.now then { q with cls := 1 } else q) }) }))

/-- ROW_IDLE_CLOSE (R351): open rows that have had no access for 1 µs close. -/
def execRowIdleClose (t : Instant) (s : State) : Host.Outcome State Fault Refusal :=
  let s := s.atT t
  .next (s.mapDmc (fun d => { d with subs := d.subs.map (fun c => { c with
    openRows := c.openRows.filter (fun o => s.now < o.2.2.2 + us) }) }))

/-! ### Scrub (R349) -/

/-- SCRUB_READ (R349): at its pace scrub reads the next line of the usable space as requester 9, corrects it, and reports no poison; a
line of a sub-channel in self-refresh is passed over. -/
def execScrubRead (err : Nat) (t : Instant) (s : State) : Host.Outcome State Fault Refusal :=
  let s := s.atT t
  let lines := s.usableBytes / 64
  let pace := max 1 (s.rd Reg.DMC_SCRUB_HOURS) * 3600 * sec / lines
  if s.on Reg.DMC_SCRUB_EN && !s.dmc.closed && s.dmc.scrubAt + pace ≤ s.now then
    let a := s.dmc.scrubLine * 64
    let p := s.place a
    let s := s.mapDmc (fun d => { d with scrubAt := s.now, scrubLine := (d.scrubLine + 1) % lines })
    if (s.subCh p.sub).trained && (s.subCh p.sub).state != .selfRefresh && !s.isolated .dmc then
      let s := ((s.wakeDram p.sub p.rank).bankAccess 9 p).bump (Reg.DMC_RD_CNT p.sub)
      .next (if err = 1 && !s.lineBad a then s.correctedLine p.sub false else if err = 2 then s.markBad a else s)
    else .next s
  else .next s

/-! ### Training and retraining (R362, R364, R365) -/

/-- R364 (12): training of every sub-channel begins. -/
def State.beginTraining (s : State) : State :=
  s.mapDmc (fun d => { d with subs := d.subs.map (fun _ => { state := .training }) })

/-- R364 (12): TRAIN. -/
def State.trainCmd (s : State) : State := if s.chp.mode = .test then s.beginTraining else s

/-- TRAIN (R364): a write of DMC.CMD.TRAIN retrains every sub-channel in TEST, and is ignored in other modes. -/
def execTrain (m : Master) (t : Instant) (s : State) : Host.Outcome State Fault Refusal :=
  .next ((s.atT t).strobe m .dmc none false State.trainCmd)

/-- R365 (12): RETRAIN.PERIOD_MS. -/
def State.retrainPeriod (s : State) : Nat := max 1 (s.rd Reg.DMC_RETRAIN_PERIOD_MS) * ms

/-- R365 (12): the ranks of a sub-channel as training leaves them, their retrainings staggered evenly over the period. -/
def State.freshRanks (s : State) (k : Nat) : List DramRank :=
  (List.range 2).map (fun r =>
    { intervalAt := s.now, zqAt := s.now, windowAt := s.now, usedAt := s.now
      retrainAt := s.now + s.retrainPeriod * (k * s.ranksFitted + r + 1) / (4 * s.ranksFitted) })

/-- TRAIN_DONE (R362, R364, R367): the training of a sub-channel ends with its result. With the last of them DRAM's contents are
undefined; a failure raises TRAIN_FAIL, except in PREP, where PREP's step fails (PREP_STEPS). -/
def execTrainDone (sub res : Nat) (t : Instant) (s : State) : Host.Outcome State Fault Refusal :=
  let s := s.atT t
  if (s.subCh sub).state = .training then
    let ranks := s.freshRanks sub
    let s := s.mapSubCh sub (fun c => { c with state := if res = 1 then .active else .failed, ranks := ranks, lastReq := s.now })
    let s := s.wr (Reg.DMC_TRAIN_RES sub) res
    if s.dmc.subs.any (fun c => c.state == .training) then .next s
    else
      let s := (s.mapDmc (fun d => { d with lost := [], poison := [] })).loseDram 0 s.usableBytes none
      if s.dmc.subs.any (fun c => c.state == .failed) then
        .next (if s.chp.mode = .prep then s else s.blockFault .dmc none 1 0)
      else .next (s.event [Reg.DMC_STAT_TRAIN_DONE])
  else .next s

/-- RETRAIN (R365): in SERVICE and TEST, when its period or a change of rate calls for it, a rank is retrained: closed for 400 ns, and
2 µs more where the drift exceeds DRIFT_PS. A failure raises TRAIN_FAIL. -/
def execRetrain (sub rank drift : Nat) (ok : Bool) (t : Instant) (s : State) : Host.Outcome State Fault Refusal :=
  let s := s.atT t
  let x := s.rank sub rank
  if (s.chp.mode = .service || s.chp.mode = .test) && (s.subCh sub).state = .active && rank < s.ranksFitted
      && (x.retrainDue || x.retrainAt ≤ s.now) then
    let p := s.retrainPeriod
    let next := if s.now < x.retrainAt then x.retrainAt else if x.retrainAt + p ≤ s.now then s.now + p else x.retrainAt + p
    let close := if s.rd Reg.DMC_RETRAIN_DRIFT_PS < drift then 2400000 else 400000
    let s := (s.precharge sub rank).mapRank sub rank (fun y =>
      { y with retrainDue := false, retrainAt := next, retrainTo := s.now + close, powerDown := false })
    .next (if ok then s else s.blockFault .dmc none 1 0)
  else .next s

/-- ZQ_CALIBRATION (R365): every 64 ms ZQ calibration starts on a rank. -/
def execZqCalibration (sub rank : Nat) (t : Instant) (s : State) : Host.Outcome State Fault Refusal :=
  let s := s.atT t
  let x := s.rank sub rank
  if (s.chp.mode = .service || s.chp.mode = .test) && (s.subCh sub).state = .active && x.zqAt + 64 * ms ≤ s.now then
    .next (s.mapRank sub rank (fun y => { y with zqAt := s.now }))
  else .next s

end Sys2Proof.Machine
end

