-- ==== Sys2Proof/Machine/Reference.lean ====
section
/-! DEFINITION. REF and TIU (R369 to R398, 13): sequences, conversions, self-calibration, open wires, linearisation, window comparators
and switches, and the time-interval units. -/

namespace Sys2Proof.Machine

/-! ### Sequences (R370, R373, R377 to R379) -/

/-- R482 (16): device time at an instant. -/
def State.devTimeAt (s : State) (t : Nat) : Nat := { s with now := t }.devTime

/-- A channel's state. -/
def State.refChan (s : State) (c : Nat) : RefChan := s.ref.chans.getD c {}

/-- Channel `c` changed by `f`. -/
def State.mapRefChan (s : State) (c : Nat) (f : RefChan → RefChan) : State :=
  s.mapRef (fun r => { r with chans := modAt r.chans c f })

/-- R373 (13): samples of a preset, and its conversion time. -/
def presetConv (p : Nat) : Nat × Nat :=
  match p with
  | 0 => (16, 20 * us) | 1 => (256, 276 * us) | 2 => (20000, 20200 * us) | _ => (100000, 101000 * us)

/-- R370 (13): the channel is the second of a four-wire pair; pairing of internal channels is ignored. -/
def State.pairedOdd (s : State) (c : Nat) : Bool := c % 2 == 1 && decide (c < 12) && s.on (Reg.REF_PAIR_PAIR.bit (c / 2))

/-- R375 (13): the gain code of a channel's next conversion. -/
def State.gainOf (s : State) (c : Nat) : Nat :=
  if s.on (Reg.REF_C_AUTO c) then min (s.rd (Reg.REF_C_GAIN c)) ((s.refChan c).gain.getD (s.rd (Reg.REF_C_GAIN c)))
  else s.rd (Reg.REF_C_GAIN c)

/-- R374 (13): a conversion of a channel begins at `t`. -/
def State.beginConversion (s : State) (c preset : Nat) (injected : Bool) (t : Nat) : State :=
  let g := s.gainOf c
  (s.mapRefChan c (fun x => { x with discard := false })).mapRef (fun r => { r with
    act := if injected then .injected else .regular
    conv := some { chan := c, preset := preset, injected := injected, startAt := t, endAt := t + (presetConv preset).2, gain := g } })

/-- R377 (13): SEQ_CTL.LEN. -/
def State.seqLen (s : State) : Nat := max 1 (min 16 (s.rd Reg.REF_SEQ_CTL_LEN))

/-- R378 (13): INJ_CTL.LEN. -/
def State.injLen (s : State) : Nat := max 1 (min 4 (s.rd Reg.REF_INJ_CTL_LEN))

/-- R370, R377 (13): the regular sequence goes on with the first of `n` entries from `e` that runs, at `t`; none: the cycle ends. -/
def State.regularFrom (s : State) (e t n : Nat) : State :=
  match n with
  | 0 => s.mapRef (fun r => { r with act := .idle, conv := none, entry := 0, cycleDone := true, freeAt := t })
  | n + 1 =>
    if !s.on (Reg.REF_SEQ_EN e) then s.regularFrom (e + 1) t n
    else if s.pairedOdd (s.rd (Reg.REF_SEQ_CH e)) then (s.bump Reg.REF_SKIP_CNT).regularFrom (e + 1) t n
    else (s.mapRef (fun r => { r with entry := e })).beginConversion (s.rd (Reg.REF_SEQ_CH e)) (s.rd (Reg.REF_SEQ_PRESET e)) false t

/-- R379 (13): the converter is free at `t`: the regular sequence resumes at the entry that was interrupted, or waits for its cycle. -/
def State.resumeRegular (s : State) (t : Nat) : State :=
  if s.on Reg.REF_CTL_EN && !s.ref.cycleDone then s.regularFrom s.ref.entry t (s.seqLen - s.ref.entry)
  else s.mapRef (fun r => { r with act := .idle, conv := none, freeAt := t })

/-- R381, R382 (13): a calibration begins at `t`. -/
def State.beginCal (s : State) (t : Nat) : State :=
  s.mapRef (fun r => { r with act := .calibrating, conv := none, calPending := false, calAt := t })

/-- R378, R382 (13): the injected sequence goes on with the first of `n` entries from `e` that runs; none: it ends, and a calibration
that waits, or the regular sequence, follows. -/
def State.injectedFrom (s : State) (e t n : Nat) : State :=
  match n with
  | 0 =>
    let s := (s.event [Reg.REF_STAT_INJ_DONE]).bump Reg.REF_INJ_CNT
    if s.ref.calPending then s.beginCal t else s.resumeRegular t
  | n + 1 =>
    if !s.on (Reg.REF_INJ_EN e) then s.injectedFrom (e + 1) t n
    else if s.pairedOdd (s.rd (Reg.REF_INJ_CH e)) then (s.bump Reg.REF_SKIP_CNT).injectedFrom (e + 1) t n
    else (s.mapRef (fun r => { r with injEntry := e })).beginConversion (s.rd (Reg.REF_INJ_CH e)) (s.rd (Reg.REF_INJ_PRESET e)) true t

/-- R378 (13): the injected sequence begins at `t`. -/
def State.beginInjected (s : State) (t : Nat) : State :=
  (s.mapRef (fun r => { r with injPending := false })).injectedFrom 0 t s.injLen

/-- R378, R382 (13): the next boundary of steps of `d` after `a`, at or after the present instant. -/
def State.stepBoundary (s : State) (a d : Nat) : Nat := a + ceilDiv (s.now - a) d * d

/-- R378 (13): the instant at which a regular conversion can be preempted: the next sample boundary. -/
def State.preemptAt (s : State) : Nat :=
  match s.ref.conv with
  | some c => s.stepBoundary c.startAt us
  | none => s.now

/-- R378, R382 (13): a trigger of the injected sequence. -/
def State.injTrigger (s : State) : State :=
  let r := s.ref
  if r.restarting || !s.on Reg.REF_CTL_EN then s
  else if r.act = .injected || r.injPending then (s.event [Reg.REF_STAT_INJ_MISS]).bump Reg.REF_INJ_MISS_CNT
  else if r.act = .calibrating then
    if r.restarts < 8 then
      let at_ := s.stepBoundary r.calAt (2 * us)
      let s := (s.bump Reg.REF_CAL_RESTART_CNT).mapRef (fun r => { r with restarts := r.restarts + 1, calPending := true })
      s.beginInjected at_
    else
      ((s.mapRef (fun r => { r with injPending := true })).event [Reg.REF_STAT_INJ_DELAYED]).bump Reg.REF_INJ_DELAY_CNT
  else s.beginInjected s.preemptAt

/-- R381, R382 (13): a calibration is started by a command or its period. -/
def State.startCal (s : State) : State :=
  let r := s.ref
  if r.restarting || r.act = .calibrating || r.calPending then s
  else
    let s := s.mapRef (fun r => { r with restarts := 0 })
    if r.act = .injected then s.mapRef (fun r => { r with calPending := true }) else s.beginCal s.preemptAt

/-- SEQUENCE_CYCLE_START (R377): the next cycle of the regular sequence begins, back to back or at its period. -/
def execSequenceCycleStart (t : Instant) (s : State) : Host.Outcome State Fault Refusal :=
  let s := s.atT t
  let r := s.ref
  let p := s.rd Reg.REF_SEQ_CTL_PERIOD_US
  let due := if p = 0 then r.freeAt else max r.freeAt (r.cycleAt + p * us)
  if s.on Reg.REF_CTL_EN && !r.restarting && r.cycleDone && r.act = .idle && due ≤ s.now then
    let s := s.mapRef (fun r => { r with cycleAt := due, cycleDone := false, entry := 0 })
    .next (s.regularFrom 0 due s.seqLen)
  else .next s

/-- R378 (13): REF.CMD.INJ. -/
def State.refInj (s : State) : State :=
  if s.rd Reg.REF_INJ_CTL_TRIG = 0 || 6 ≤ s.rd Reg.REF_INJ_CTL_TRIG then s.injTrigger else s

/-- INJ (R378, R382): a write of REF.CMD.INJ triggers the injected sequence where TRIG selects the command. -/
def execRefInj (m : Master) (t : Instant) (s : State) : Host.Outcome State Fault Refusal :=
  .next ((s.atT t).strobe m .ref none false State.refInj)

/-- INJ_TRIGGER (R378, R382): the trigger of TRIG 1 to 5: an accepted edge on its TACH input, or the DIV-th sweep boundary. -/
def execInjTrigger (t : Instant) (s : State) : Host.Outcome State Fault Refusal :=
  let s := s.atT t
  let g := s.rd Reg.REF_INJ_CTL_TRIG
  if g = 5 then
    if max 1 (s.rd Reg.REF_INJ_CTL_DIV) ≤ s.ref.sweeps then .next (s.mapRef (fun r => { r with sweeps := 0 })).injTrigger
    else .next s
  else if 1 ≤ g && g ≤ 4 && s.ref.tachDue then .next (s.mapRef (fun r => { r with tachDue := false })).injTrigger
  else .next s

/-! ### Self-calibration (R381, R382) -/

/-- CAL (R381): a write of REF.CMD.CAL starts a self-calibration. -/
def execRefCal (m : Master) (t : Instant) (s : State) : Host.Outcome State Fault Refusal :=
  .next ((s.atT t).strobe m .ref none false (fun s => s.startCal))

/-- REF_CAL_PERIOD (R381): a self-calibration starts every CAL_CTL.PERIOD_S seconds. -/
def execRefCalPeriod (t : Instant) (s : State) : Host.Outcome State Fault Refusal :=
  let s := s.atT t
  let p := s.rd Reg.REF_CAL_CTL_PERIOD_S
  if p != 0 && s.ref.calPeriodAt + p * sec ≤ s.now && !s.isolated .ref then
    .next (s.mapRef (fun r => { r with calPeriodAt := s.now })).startCal
  else .next s

/-- R371 (13): the excitation source of an external channel runs. -/
def State.excited (s : State) (c : Nat) : Bool :=
  s.on Reg.REF_CTL_EN && s.chp.mode != .boot && decide (c < 12) && s.rd (Reg.REF_C_EXC c) != 0

/-- REF_CAL_DONE (R381, R382): a self-calibration ends: the offsets and gains of the eight gain codes and the currents of the running
sources are written; one outside its limit (none) is not written and raises CAL_RANGE. A held injected sequence follows, or the regular
one resumes. -/
def execRefCalDone (off gain iexc : List (Option Nat)) (t : Instant) (s : State) : Host.Outcome State Fault Refusal :=
  let s := s.atT t
  let end_ := s.ref.calAt + 1536 * us
  if s.ref.act = .calibrating && end_ ≤ s.now then
    let put (f : Nat → Field) (xs : List (Option Nat)) (s : State) (k : Nat) : State :=
      match xs.getD k none with
      | some v => s.wr (f k) v
      | none => s
    let src := (List.range 12).filter (fun c => s.excited c)
    let bad := (List.range 8).any (fun g => (off.getD g none).isNone || (gain.getD g none).isNone)
      || src.any (fun c => (iexc.getD c none).isNone)
    let s := (List.range 8).foldl (put Reg.REF_OFF off) s
    let s := (List.range 8).foldl (put Reg.REF_GAIN gain) s
    let s := src.foldl (put Reg.REF_IEXC iexc) s
    let s := (s.bump Reg.REF_CAL_CNT).event [Reg.REF_STAT_CAL_DONE]
    let s := s.mapRef (fun r => { r with act := .idle, calOk := !bad })
    let s := if s.ref.injPending then s.beginInjected end_ else s.resumeRegular end_
    .next (if bad then s.blockFault .ref none 3 0 else s)
  else .next s

/-- R381, R398 (13): the bits of a calibration factor's word at an address; none: no factor stands there. -/
def factorMask (addr : Nat) : Option Word :=
  if addr % 4 ≠ 0 then none
  else if 0x520800 ≤ addr && addr < 0x520840 then some 0xFFFFFF
  else if 0x520840 ≤ addr && addr < 0x520870 then some 0xFFFFFFFF
  else none

/-- R381 (13): a factor word is written. -/
def State.refFactor (s : State) (addr : Nat) (v : Word) : State :=
  match factorMask addr with
  | some k => s.setLive addr (v &&& k)
  | none => s

/-- REF_FACTOR_WRITE (R381): a written factor is used from the next conversion. -/
def execRefFactorWrite (m : Master) (addr : Nat) (v : Word) (t : Instant) (s : State) : Host.Outcome State Fault Refusal :=
  .next ((s.atT t).strobe m .ref none false (fun s => s.refFactor addr v))

/-! ### Linearisation (R387) -/

/-- R371 (13): the nominal excitation current in pA; 0: off. -/
def nominalPa (exc : Nat) : Nat :=
  match exc with
  | 0 => 0 | 1 => 10000000 | 2 => 20000000 | 3 => 40000000 | 4 => 80000000 | 5 => 160000000 | 6 => 320000000 | 7 => 640000000
  | _ => 1000000000

/-- R381 (13): the current of a channel's source in pA. -/
def State.excPa (s : State) (c : Nat) : Nat :=
  if s.rd (Reg.REF_IEXC c) = 0 then nominalPa (s.rd (Reg.REF_C_EXC c)) else s.rd (Reg.REF_IEXC c)

/-- R369, R387 (13): the curve of a channel; 12 stands for the die sensor's. -/
def State.curveOf (s : State) (c : Nat) : Nat :=
  if c = 12 then 12 else if 13 ≤ c then 0 else if 10 ≤ s.rd (Reg.REF_C_CURVE c) then 0 else s.rd (Reg.REF_C_CURVE c)

/-- R387 (13): the range of a temperature curve in °C; none: not a temperature curve. -/
def curveRange (k : Nat) : Option (Int × Int) :=
  match k with
  | 2 => some (-200, 850) | 3 => some (-60, 180) | 4 => some (-270, 1372) | 5 => some (-210, 1200) | 6 => some (-270, 400)
  | 7 => some (-270, 1300) | 8 => some (-270, 1000) | 9 => some (-55, 200) | 12 => some (-200, 850)
  | _ => none

/-- R387 (13): a resistance curve. -/
def isResistance (k : Nat) : Bool := k == 1 || k == 2 || k == 3 || k == 9

/-- R387 (13): a thermocouple curve. -/
def isThermocouple (k : Nat) : Bool := 4 ≤ k && k ≤ 8

/-- A quotient whose rounding the spec does not state: the floor, or one more where it is not exact (log entry 10). -/
def openQuotient (n : Int) (d : Nat) : Int :=
  n / (d : Int) + (if n % (d : Int) = 0 then 0 else if Config.roundUp n d then 1 else 0)

/-- R387 (13): LIN and REASON of a RAW value: nV for VOLT, mΩ for OHM, °C in Q16.16 for a temperature curve. -/
def State.linearise (s : State) (c : Nat) (raw : Int) (g : Nat) : Int × Reason :=
  let k := s.curveOf c
  if isResistance k && s.rd (Reg.REF_C_EXC c) = 0 then (signed 32 (Config.refOpen s.fresh).toNat, .range)
  else if k = 0 then (signed 32 (wrapN 32 (openQuotient (raw * 1250000000) (2 ^ (23 + g)))), .valid)
  else if k = 1 then
    let r := openQuotient (raw * 1250000000000000) (2 ^ (23 + g) * s.excPa c)
    if 0 ≤ r && r < 2 ^ 32 then (signed 32 r.toNat, .valid) else (signed 32 (Config.refOpen s.fresh).toNat, .valid)
  else
    let j := s.rd (Reg.REF_C_CJ c)
    let cj := s.refChan j
    if isThermocouple k && (cj.reason != .valid || (curveRange (s.curveOf j)).isNone) then
      (signed 32 (Config.refOpen s.fresh).toNat, .cj)
    else
      let v := signed 32 (Config.refLin k raw g (s.excPa c) (s.rd (Reg.REF_C_PARAM0 c)) (s.rd (Reg.REF_C_PARAM1 c))
        (if isThermocouple k then cj.lin else 0)).toNat
      match curveRange k with
      | some (lo, hi) => (v, if lo * 65536 ≤ v && v ≤ hi * 65536 then .valid else .range)
      | none => (v, .valid)

/-! ### Publishing a result (R376, R383 to R391) -/

/-- R388 (13): REASON's code. -/
def Reason.code (r : Reason) : Nat :=
  match r with
  | .valid => 0 | .none => 1 | .openWire => 2 | .overRange => 3 | .range => 4 | .cj => 5

/-- R389 (13): the window flags of a channel after a result. -/
def State.windows (s : State) (c : Nat) (lin : Option Int) : State :=
  let put (w : BitVec 16) (b : Bool) : BitVec 16 := if b then w ||| BitVec.ofNat 16 (2 ^ c) else w &&& ~~~(BitVec.ofNat 16 (2 ^ c))
  let up := lin.any (fun l => decide (signed 32 (s.rd (Reg.REF_C_WHI c)) < l))
  let down := lin.any (fun l => decide (l < signed 32 (s.rd (Reg.REF_C_WLO c))))
  let r := s.ref
  let s1 := s.mapRef (fun r => { r with above := put r.above up, below := put r.below down })
  if s1.ref.above = r.above && s1.ref.below = r.below then s1 else s1.event [Reg.REF_STAT_WINDOW]

/-- R390 (13): the state of switch `k` after a VALID result. -/
def State.switchState (s : State) (k : Nat) (lin : Int) : Bool :=
  let thr := signed 32 (s.rd (Reg.REF_SW_THR k))
  let hyst : Int := s.rd (Reg.REF_SW_HYST k)
  let on := s.ref.swOn.getLsbD k
  if s.rd (Reg.REF_SW_POL k) = 0 then (if thr < lin then true else if lin < thr - hyst then false else on)
  else (if lin < thr then true else if thr + hyst < lin then false else on)

/-- R390, R391 (13): switch `k` at a result of its channel. -/
def State.switchResult (s : State) (k : Nat) (lin : Option Int) : State :=
  match lin with
  | none => s.switchFallback k
  | some l =>
    let b := BitVec.ofNat 8 (2 ^ k)
    let on := s.switchState k l
    let was := s.ref.swOn
    let s := s.mapRef (fun r => { r with
      swFault := r.swFault &&& ~~~b, swOn := if on then r.swOn ||| b else r.swOn &&& ~~~b })
    if s.ref.swOn = was then s else s.event [Reg.REF_STAT_SWITCH]

/-- R374, R386, R388 to R391 (13): channel `c` publishes a result whose slot ended at `t`: its registers, the window flags, the switches,
and what the consumers take. -/
def State.publish (s : State) (c : Nat) (reason : Reason) (lin : Int) (injected : Bool) (t : Nat) : State :=
  let s := s.mapRefChan c (fun x => { x with reason := reason, lin := lin })
  let s := ((s.wr (Reg.REF_C_LIN c) (wrapN 32 lin)).wr (Reg.REF_C_INJ c) (if injected then 1 else 0)).wr (Reg.REF_C_RSEQ c)
    ((s.rd (Reg.REF_C_RSEQ c) + 1) % 65536)
  let s := s.wr (Reg.REF_C_TIME c) (s.devTimeAt t)
  let ok : Option Int := if reason = .valid then some lin else Option.none
  let s := s.windows c ok
  let s := (List.range 8).foldl (fun s k =>
    if s.on (Reg.REF_SW_EN k) && s.rd (Reg.REF_SW_CH k) = c then s.switchResult k ok else s) s
  let s := s.mapDts (fun d => { d with
    coilRes := d.coilRes ++ [{ chan := c, time := t, valid := reason == .valid, value := lin / 1024 }] })
  s.derate c (ok.map (fun l => l / 1024))

/-- R383 (13): OPEN is raised on a channel. -/
def State.raiseOpen (s : State) (c : Nat) : State :=
  if (s.refChan c).openWire then s.mapRefChan c (fun x => { x with good := 0 })
  else
    let s := s.mapRefChan c (fun x => { x with openWire := true, history := [], good := 0 })
    (s.eventStands [Reg.REF_STAT_OPEN]).bump (Reg.REF_C_OPEN_CNT c)

/-- A result that carries REASON OPEN; LIN has no meaning. -/
def State.publishOpen (s : State) (c : Nat) (injected : Bool) (t : Nat) : State :=
  let v := signed 32 (Config.refOpen s.fresh).toNat
  { s with fresh := s.fresh + 1 }.publish c .openWire v injected t

/-- COMPLIANCE_OPEN (R371, R383, R385): the compliance monitor of a running source flags OPEN, or no longer does. -/
def execComplianceOpen (c : Nat) (on : Bool) (t : Instant) (s : State) : Host.Outcome State Fault Refusal :=
  let s := s.atT t
  if on && s.excited c && !s.pairedOdd c && !(s.refChan c).compliance then
    let s := (s.mapRefChan c (fun x => { x with compliance := true, complianceAt := s.now })).raiseOpen c
    if s.ref.restarting then .next s
    else if s.ref.conv.any (fun x => x.chan == c) then .next (s.mapRefChan c (fun x => { x with discard := true }))
    else .next (s.publishOpen c false s.now)
  else if !on && (s.refChan c).compliance then
    .next (s.mapRefChan c (fun x => { x with compliance := false, complianceAt := s.now }))
  else .next s

/-- R376 (13): values held for the median. -/
def State.medianLen (s : State) (c : Nat) : Nat :=
  match s.rd (Reg.REF_C_MED c) with
  | 1 => 3 | 2 => 5 | _ => 0

/-- R376 (13): the median of the values held; of an even number the mean of the two middle ones, truncated towards minus infinity. -/
def refMedian (xs : List Int) : Int :=
  let ys := xs.mergeSort (fun a b => a ≤ b)
  let n := ys.length
  if n % 2 = 1 then ys.getD (n / 2) 0 else (ys.getD (n / 2 - 1) 0 + ys.getD (n / 2) 0) / 2

/-- R376 (13): a held value on the scale of a new gain code. -/
def rescale (from_ to_ : Nat) (v : Int) : Int :=
  let m : Int := 2 ^ 23 - 1
  if from_ ≤ to_ then max (-m) (min m (v * 2 ^ (to_ - from_))) else v / 2 ^ (from_ - to_)

/-- R375, R376 (13): the gain code of a channel's next conversion changes. -/
def State.changeGain (s : State) (c g to_ : Nat) : State :=
  if g = to_ then s.mapRefChan c (fun x => { x with gain := some g })
  else
    let s := s.mapRefChan c (fun x => { x with gain := some to_, lowRun := 0, history := x.history.map (rescale g to_) })
    (s.event [Reg.REF_STAT_RANGE_STEP]).bump (Reg.REF_C_RANGE_CNT c)

/-- R375 (13): ranging after a conversion at code `g`: OVER, or its RAW; none where the conversion carries OPEN. -/
def State.autoRange (s : State) (c g : Nat) (beyond : Bool) (raw : Option Int) : State :=
  if !s.on (Reg.REF_C_AUTO c) then s.mapRefChan c (fun x => { x with gain := some (s.rd (Reg.REF_C_GAIN c)), lowRun := 0 })
  else if beyond then (s.mapRefChan c (fun x => { x with lowRun := 0 })).changeGain c g 0
  else
    match raw with
    | none => s.mapRefChan c (fun x => { x with lowRun := 0 })
    | some v =>
      if 7340032 < v.natAbs then (s.mapRefChan c (fun x => { x with lowRun := 0 })).changeGain c g (g - 1)
      else if v.natAbs < 3145728 then
        if 4 ≤ (s.refChan c).lowRun + 1 then
          (s.mapRefChan c (fun x => { x with lowRun := 0 })).changeGain c g (min (g + 1) (s.rd (Reg.REF_C_GAIN c)))
        else s.mapRefChan c (fun x => { x with lowRun := x.lowRun + 1 })
      else s.mapRefChan c (fun x => { x with lowRun := 0 })

/-- R372, R381 (13): RAW of the sum of a conversion's codes: corrected by the factors of its gain code, truncated towards zero. -/
def State.rawOf (s : State) (g n : Nat) (sum : Int) : Int :=
  let off := s.rd (Reg.REF_OFF g)
  let gain := s.rd (Reg.REF_GAIN g)
  if off = 0 && gain = 0x400000 then Int.tdiv (sum * 64) n else signed 24 (Config.refRaw sum n off gain).toNat

/-- R372, R374 to R376, R383 to R388 (13): the slot of a conversion ends, with the sum of its codes and the samples that clipped at each
limit: its result is published. -/
def State.endConversion (s : State) (v : Conversion) (sum : Int) (high low : Nat) : State :=
  let c := v.chan
  let n := (presetConv v.preset).1
  let x := s.refChan c
  if x.discard then ((s.mapRefChan c (fun x => { x with discard := false, good := 0 })).publishOpen c v.injected v.endAt)
  else
    let beyond := high + low != 0
    let burn := c < 12 && s.on (Reg.REF_C_BURNOUT c) && v.gain = 0 && n < 2 * high
    let s := if beyond then (s.event [Reg.REF_STAT_OVER]).bump (Reg.REF_C_OVER_CNT c) else s
    let s := if burn then s.raiseOpen c else s
    let x := s.refChan c
    let clear := !x.compliance && x.complianceAt ≤ v.startAt
    let good := x.openWire && clear && !beyond && !burn
    let mends := good && x.good = 3
    let s := s.mapRefChan c (fun x => { x with
      good := if mends || !x.openWire then 0 else if good then x.good + 1 else 0, openWire := x.openWire && !mends })
    let s := if mends then
        let s := s.event [Reg.REF_STAT_RECONNECT]
        if s.ref.chans.any (fun y => y.openWire) then s else s.causeGone [Reg.REF_STAT_OPEN]
      else s
    let raw := s.rawOf v.gain n sum
    let k := s.medianLen c
    let holds := !beyond && (!x.openWire || good)
    let s := if holds then s.mapRefChan c (fun x => { x with history := (raw :: x.history).take (max 1 k) }) else s
    let hist := (s.refChan c).history
    let med := if k = 0 || hist.isEmpty then raw else refMedian (hist.take k)
    let s := (s.wr (Reg.REF_C_RAW c) (wrapN 24 med)).wr (Reg.REF_C_G c) v.gain
    let s := s.bump (Reg.REF_C_CONV_CNT c)
    let openNow := (s.refChan c).openWire
    let s := if openNow then s.publishOpen c v.injected v.endAt
      else
        let r := if beyond then (signed 32 (Config.refOpen s.fresh).toNat, Reason.overRange) else s.linearise c med v.gain
        { s with fresh := s.fresh + 1 }.publish c r.2 r.1 v.injected v.endAt
    s.autoRange c v.gain beyond (if openNow then none else some raw)

/-- CONVERSION_END (R372 to R379, R383 to R391): the slot of the conversion in progress ends and its result is published; the sequence
goes on at that instant. -/
def execConversionEnd (sum : Int) (high low : Nat) (t : Instant) (s : State) : Host.Outcome State Fault Refusal :=
  let s := s.atT t
  match s.ref.conv with
  | some v =>
    if v.endAt ≤ s.now then
      let s := s.endConversion v sum high low
      if v.injected then
        let e := s.ref.injEntry + 1
        .next (s.injectedFrom e v.endAt (s.injLen - e))
      else if s.on Reg.REF_CTL_EN then
        let e := s.ref.entry + 1
        .next (s.regularFrom e v.endAt (s.seqLen - e))
      else .next (s.mapRef (fun r => { r with act := .idle, conv := none, entry := 0, cycleDone := true, freeAt := v.endAt }))
    else .next s
  | none => .next s

/-! ### Time-interval units (R392 to R396) -/

/-- Unit `u`. -/
def State.tiuUnit (s : State) (u : Nat) : TiuUnit := s.tiu.units.getD u {}

/-- Unit `u` changed by `f`. -/
def State.mapTiuUnit (s : State) (u : Nat) (f : TiuUnit → TiuUnit) : State :=
  s.mapTiu (fun x => { x with units := modAt x.units u f })

/-- R393 (13): the unit works in INTERVAL mode. -/
def State.tiuInterval (s : State) (u : Nat) : Bool := s.on (Reg.TIU_U_MODE u)

/-- R393 (13): the state an INTERVAL unit returns to. -/
def State.tiuRest (s : State) (u : Nat) : TiuState := if s.on (Reg.TIU_U_CONT u) then .armed else .idle

/-- R395, R396 (13): the unit's interval has reached 2³² counts. -/
def State.tiuOverflow (s : State) (u : Nat) : State :=
  let s := ((s.wr (Reg.TIU_U_RESULT u) 0xFFFFFFFF).wr (Reg.TIU_U_OVF u) 1).wr (Reg.TIU_U_SUB_RES u) 0
  let s := (s.event [Reg.TIU_STAT_OVF.bit u]).bump (Reg.TIU_U_OVF_CNT u)
  let rest := if s.tiuInterval u then s.tiuRest u else .idle
  s.mapTiuUnit u (fun x => { x with state := rest, rateValid := false, results := [] })

/-- R396, R515 (13, 17): the rate after a completed interval of a PERIOD unit; on the fallback oscillator it stays invalid. -/
def State.tiuRate (s : State) (u result : Nat) : State :=
  let n := max 1 (s.rd (Reg.TIU_U_NAVG u))
  let rs := (result :: (s.tiuUnit u).results).take 255
  let k := min n rs.length
  let c := (rs.take k).foldl (· + ·) 0
  let q := if c = 0 then 2 ^ 32 else k * 250000000 * 65536 / c
  let rate := min q 0xFFFFFFFF
  let ok := decide (q ≤ 0xFFFFFFFF) && !s.pwr.fallback
  let s := (s.wr (Reg.TIU_U_RATE u) rate).wr (Reg.TIU_U_RATE_SAT u) (if q ≤ 0xFFFFFFFF then 0 else 1)
  s.mapTiuUnit u (fun x => { x with rate := rate, rateValid := ok, results := if ok then rs else [] })

/-- R393, R394, R396 (13): the unit's interval ends at count `c`. -/
def State.tiuComplete (s : State) (u c : Nat) (sub : Bool) : State :=
  let x := s.tiuUnit u
  let result := c - x.startCount
  let s := ((s.wr (Reg.TIU_U_RESULT u) result).wr (Reg.TIU_U_START_TIME u) x.startTime).wr (Reg.TIU_U_STOP_TIME u) s.devTime
  let s := (s.wr (Reg.TIU_U_OVF u) 0).wr (Reg.TIU_U_SUB_RES u) (if sub then 1 else 0)
  let s := if sub then (s.event [Reg.TIU_STAT_DONE.bit u, Reg.TIU_STAT_SUBRES.bit u]).bump (Reg.TIU_U_SUBRES_CNT u)
    else s.event [Reg.TIU_STAT_DONE.bit u]
  s.bump (Reg.TIU_U_MEAS_CNT u)

/-- R393 (13): an interval starts at count `c`. -/
def State.tiuStart (s : State) (u c : Nat) : State :=
  let d := s.devTime
  s.mapTiuUnit u (fun x => { x with state := .running, startCount := c, startTime := d, earlyCount := none })

/-- R393, R395 (13): an accepted edge that is the unit's start edge. -/
def State.tiuStartEdge (s : State) (u c : Nat) : State :=
  let x := s.tiuUnit u
  if s.tiuInterval u then
    if x.state = .armed then
      let s1 := s.tiuStart u c
      if x.earlyCount = some c then
        (s1.tiuComplete u c true).mapTiuUnit u (fun y => { y with state := s.tiuRest u })
      else s1
    else s
  else if x.state = .running then
    let s := s.tiuComplete u c false
    (s.tiuRate u (c - x.startCount)).tiuStart u c
  else s.tiuStart u c

/-- R393, R394 (13): an accepted edge that is an INTERVAL unit's stop edge. -/
def State.tiuStopEdge (s : State) (u c : Nat) : State :=
  let x := s.tiuUnit u
  match x.state with
  | .running => (s.tiuComplete u c (c == x.startCount)).mapTiuUnit u (fun y => { y with state := s.tiuRest u })
  | .armed => s.mapTiuUnit u (fun y => { y with earlyCount := some c })
  | .idle => (s.event [Reg.TIU_STAT_EARLY.bit u]).bump (Reg.TIU_U_EARLY_CNT u)
  | .off => s

/-- R393 (13): whether an edge is the one a START or STOP field names. -/
def edgeIs (field n : Nat) (rising : Bool) : Bool := field % 4 == n && (decide (field / 4 = 0) == rising)

/-- R392 to R396 (13): what an accepted edge does to unit `u`. -/
def State.tiuEdge (s : State) (n : Nat) (rising : Bool) (c u : Nat) : State :=
  let x := s.tiuUnit u
  if x.state = .off then s
  else
    let s := if x.state = .running && x.startCount + 2 ^ 32 ≤ c then s.tiuOverflow u else s
    let isStart := edgeIs (s.rd (Reg.TIU_U_START u)) n rising
    let isStop := s.tiuInterval u && edgeIs (s.rd (Reg.TIU_U_STOP u)) n rising
    let was := (s.tiuUnit u).state
    let s := if isStart then s.tiuStartEdge u c else s
    if isStop && !(isStart && was = .armed && (s.tiuUnit u).state != .running) then s.tiuStopEdge u c else s

/-- TACH_EDGE (R392 to R396): an edge on TACHn is sampled. Within the hold-off of the last accepted edge, or in its count, it is ignored;
else every unit takes it, and it may trigger the injected sequence. -/
def execTachEdge (n : Nat) (rising : Bool) (t : Instant) (s : State) : Host.Outcome State Fault Refusal :=
  let s := s.atT t
  let c := s.now / 4000
  let blocked := match s.tiu.lastEdge.getD n none with
    | some l => c ≤ l || c < l + s.rd (Reg.TIU_IN_HOLDOFF n)
    | none => false
  if blocked || s.isolated .tiu || 4 ≤ n then .next s
  else
    let s := s.mapTiu (fun x => { x with lastEdge := modAt x.lastEdge n (fun _ => some c) })
    let s := if s.rd Reg.REF_INJ_CTL_TRIG = n + 1 then s.mapRef (fun r => { r with tachDue := true }) else s
    .next ((List.range 4).foldl (fun s u => s.tiuEdge n rising c u) s)

/-- TIU_OVERFLOW (R395): an interval that has reached 2³² counts ends as an overflow. -/
def execTiuOverflow (u : Nat) (t : Instant) (s : State) : Host.Outcome State Fault Refusal :=
  let s := s.atT t
  let x := s.tiuUnit u
  if x.state = .running && x.startCount + 2 ^ 32 ≤ s.now / 4000 && !s.isolated .tiu then .next (s.tiuOverflow u) else .next s

/-- RATE_TIMEOUT (R396): no edge has been accepted on a PERIOD unit's input for TIMEOUT ms: its rate becomes invalid. -/
def execRateTimeout (u : Nat) (t : Instant) (s : State) : Host.Outcome State Fault Refusal :=
  let s := s.atT t
  let stale := match s.tiu.lastEdge.getD (s.rd (Reg.TIU_U_START u) % 4) none with
    | some l => l * 4000 + max 1 (s.rd (Reg.TIU_U_TIMEOUT u)) * ms ≤ s.now
    | none => false
  if (s.tiuUnit u).rateValid && stale && !s.isolated .tiu then
    .next ((s.mapTiuUnit u (fun x => { x with rateValid := false, results := [] })).event [Reg.TIU_STAT_STALE.bit u])
  else .next s

/-- R393 (13): an INTERVAL unit that is on goes to this state. -/
def State.tiuTo (s : State) (u : Nat) (st : TiuState) : State :=
  if s.tiuInterval u && (s.tiuUnit u).state != .off then
    s.mapTiuUnit u (fun x => { x with state := st, earlyCount := none })
  else s

/-- ARM (R393): an INTERVAL unit goes to ARMED. -/
def execTiuArm (m : Master) (u : Nat) (t : Instant) (s : State) : Host.Outcome State Fault Refusal :=
  .next ((s.atT t).strobe m .tiu none false (fun s => s.tiuTo u .armed))

/-- DISARM (R393): an INTERVAL unit returns to IDLE. -/
def execTiuDisarm (m : Master) (u : Nat) (t : Instant) (s : State) : Host.Outcome State Fault Refusal :=
  .next ((s.atT t).strobe m .tiu none false (fun s => s.tiuTo u .idle))

end Sys2Proof.Machine
end

