-- ==== Sys2Proof/Machine/Link.lean ====
section
/-! DEFINITION. ETH's ports (R402 to R407) and the Peer Link (R408 to R423, 14). -/

namespace Sys2Proof.Machine

/-! ### Ethernet (R403 to R407) -/

/-- R403, R404 (14): a frame or datagram is dropped. -/
def State.rxFilter (s : State) (m : Nat) : State := s.bump (Reg.ETH_M_RX_FILTER_CNT m)

/-- R404 (14): a frame or datagram with a bad FCS, length or checksum is dropped. -/
def State.rxError (s : State) (m : Nat) : State := s.bump (Reg.ETH_M_RX_ERR_CNT m)

/-- R403, R404 (14): the frame has the MAC's VLAN state. -/
def State.vlanOk (s : State) (m : Nat) (f : RxFrame) : Bool :=
  match f.vid with
  | some v => s.on (Reg.ETH_M_TAG m) && s.rd (Reg.ETH_M_VID m) == v
  | none => !s.on (Reg.ETH_M_TAG m)

/-- R404 (14): an ICMP echo request to the MAC's IP is answered, at most 1 000 a second. -/
def State.echo (s : State) (m eth ip : Nat) (data : List Byte) : State :=
  let x := s.mac m
  let n := if x.icmpSec = s.now / sec then x.icmpCount else 0
  if n < 1000 then
    (s.mapMac m (fun x => { x with icmpSec := s.now / sec, icmpCount := n + 1 })).macSend m (.echoReply eth ip data) false
  else s.bump (Reg.ETH_M_ICMP_DROP_CNT m)

/-- R406 (14): an accepted PTP frame enters its queue with its receive timestamp. -/
def State.ptpReceive (s : State) (m : Nat) (payload : List Byte) : State :=
  if 32 ≤ (s.mac m).ptpRx.length then (s.bump (Reg.ETH_M_PTP_DROP_CNT m)).event [Reg.ETH_STAT_PTP_DROP]
  else
    let at_ : Int := (s.devTime : Int) - s.rd (Reg.ETH_M_RXLAT m)
    s.mapMac m (fun x => { x with ptpRx := x.ptpRx ++ [(payload, at_)] })

/-- R404 to R406 (14): what an accepted frame carries is answered, passed on or dropped. A datagram to KPE is its own command's. -/
def State.rxBody (s : State) (m : Nat) (f : RxFrame) : State :=
  let ip := s.rd (Reg.ETH_M_IP m)
  match f.body with
  | .arp asker target =>
    if f.dest = .ptp || ip = 0 || target ≠ ip then s.rxFilter m else s.macSend m (.arpReply f.eth asker) false
  | .echo src dst plain ok data =>
    if f.dest ≠ .own || ip = 0 || dst ≠ ip || !plain then s.rxFilter m
    else if !ok then s.rxError m
    else s.echo m f.eth src data
  | .udp _ dst _ port plain ok sumOk payload =>
    if !plain then s.rxFilter m
    else if !ok || !sumOk then s.rxError m
    else if f.dest = .own && ip ≠ 0 && dst = ip && port = s.rd Reg.ETH_KP_PORT then s
    else if f.dest = .ptp && dst = 0xE0000181 && (port = 319 || port = 320) && s.on Reg.ETH_PTP_EN then s.ptpReceive m payload
    else s.rxFilter m
  | .other => s.rxFilter m

/-- FRAME_RECEIVE (R403 to R406): a MAC that is UP receives a frame, and answers, passes on or drops it. -/
def execFrameReceive (mac : Nat) (f : RxFrame) (t : Instant) (s : State) : Host.Outcome State Fault Refusal :=
  let s := s.atT t
  if (s.mac mac).state ≠ .up then .next s
  else if !f.fcsOk || f.len < 64 || s.maxFrame mac < f.len then .next (s.rxError mac)
  else if !s.vlanOk mac f || f.dest = .other then .next (s.rxFilter mac)
  else .next ((s.bump (Reg.ETH_M_RX_FRAME_CNT mac)).rxBody mac f)

/-- MAC_DOWN (R407): a lane or FEC failure takes a MAC down. -/
def execMacDown (mac : Nat) (hiSer : Bool) (t : Instant) (s : State) : Host.Outcome State Fault Refusal :=
  .next (((s.atT t).macDown mac).mapMac mac (fun x => { x with hiSer := hiSer }))

/-- MAC_UP (R400, R401, R405, R407): a MAC that the mode uses completes bring-up, with the precoding and the taps its lanes were trained
to; it sends a gratuitous ARP. -/
def execMacUp (mac : Nat) (preTx : Bool) (taps : List (BitVec 32)) (t : Instant) (s : State) :
    Host.Outcome State Fault Refusal :=
  let s := s.atT t
  if s.macUsed mac && s.lanesRun && (s.mac mac).state ≠ .up && !s.isolatedAt .eth (some (mac / 2)) then
    let on := s.macLanes mac
    let preRx := s.on (Reg.ETH_CFG_PRECODE (mac / 2))
    let s := on.zipIdx.foldl (fun s (n, i) => ((s.laneTo n .active).bump (Reg.LAN_TRAIN_CNT n)).wr (Reg.LAN_TXEQ n)
      (taps.getD i 0).toNat) s
    let s := s.mapLan (fun l => { l with lanes := l.lanes.zipIdx.map (fun (x, n) =>
      if on.contains n then { x with signal := true, preTx := preTx, preRx := preRx } else x) })
    let s := (s.mapMac mac (fun x => { x with state := .up, hiSer := false })).event [Reg.ETH_STAT_UP.bit mac]
    .next (if s.rd (Reg.ETH_M_IP mac) = 0 then s else s.macSend mac .gratuitousArp false)
  else .next s

/-- R406 (14): the head of a MAC's transmit timestamp FIFO leaves it. -/
def State.tsPop (s : State) (mac : Nat) : State := s.mapMac mac (fun x => { x with ts := x.ts.drop 1 })

/-- TS_POP (R406): the head of a MAC's transmit timestamp FIFO is removed. -/
def execTsPop (m : Master) (mac : Nat) (t : Instant) (s : State) : Host.Outcome State Fault Refusal :=
  .next ((s.atT t).strobe m .eth (some (mac / 2)) false (fun s => s.tsPop mac))

/-- PTP_FRAME_SEND (R406): a PTP frame of the firmware leaves the MAC, and its timestamp enters the FIFO of 16. -/
def execPtpFrameSend (mac seqId mtype : Nat) (t : Instant) (s : State) : Host.Outcome State Fault Refusal :=
  let s := s.atT t
  if (s.mac mac).state = .up && s.on Reg.ETH_PTP_EN then
    let s := s.bump (Reg.ETH_M_TX_FRAME_CNT mac)
    if 16 ≤ (s.mac mac).ts.length then .next (s.event [Reg.ETH_STAT_TS_OVF])
    else
      let at_ := s.devTime + s.rd (Reg.ETH_M_TXLAT mac)
      .next (s.mapMac mac (fun x => { x with ts := x.ts ++ [(seqId % 2 ^ 16, mtype % 16, at_)] }))
  else .next s

/-! ### DETECT, TRAIN and LOCK (R408 to R412, R420, R421) -/

/-- The lane belongs to the Peer Link. -/
def State.plLane (s : State) (n : Nat) : Bool := courseLanes.contains n && s.on Reg.LAN_CFG_C1_PEER

/-- PL_DETECT_PROBE (R409, R421): a lane in DETECT, or one that an ACTIVE course is without, is probed for a far-end termination; a lost
lane that is found is trained alone. -/
def execPlDetectProbe (lane : Nat) (found : Bool) (t : Instant) (s : State) : Host.Outcome State Fault Refusal :=
  let s := s.atT t
  let st := (s.lane lane).state
  if !found || !s.plLane lane then .next s
  else if s.lan.course.state = .detect && st = .detect then
    .next ((s.mapLane lane (fun l => { l with found := true })).mapCourse (fun c =>
      { c with foundAt := c.foundAt.or (some s.now) }))
  else if s.lan.course.state = .active && (st = .lost || st = .detect) then
    .next ((s.laneTo lane .train).mapLane lane (fun l => { l with found := true }))
  else .next s

/-- PL_TRAIN_START (R409): 1 ms after the first lane was found the course enters TRAIN with the lanes found by then. -/
def execPlTrainStart (t : Instant) (s : State) : Host.Outcome State Fault Refusal :=
  let s := s.atT t
  if s.lan.course.state = .detect && s.lan.course.foundAt.any (fun f => decide (f + ms ≤ s.now)) then .next s.courseTrain
  else .next s

/-- R410 (14): a tap after a request: 1 increment, 2 decrement, and else hold. -/
def tapStep (tap : BitVec 8) (req : Nat) : BitVec 8 :=
  if req = 1 then (if tap = 0x7F then tap else tap + 1) else if req = 2 then (if tap = 0x80 then tap else tap - 1) else tap

/-- R410 (14): the taps after a control field. -/
def tapsAfter (taps : List (BitVec 8)) (control : Nat) : List (BitVec 8) :=
  if control.testBit 8 then (List.range 4).map (fun i => Config.tapPreset i)
  else taps.zipIdx.map (fun (x, i) => tapStep x (control / 4 ^ i % 4))

/-- R410 (14): the lane is ready: each end has seen RX_READY in 8 consecutive frames. -/
def LanLane.ready (l : LanLane) : Bool := decide (8 ≤ l.readyRun) && decide (8 ≤ l.readyTx)

/-- R408, R410 (14): a trained lane goes to LOCK; in TRAIN the course follows with the last of them. -/
def State.trainedLanes (s : State) : State :=
  let ready := courseLanes.filter (fun n => (s.lane n).state == .train && (s.lane n).ready)
  if s.lan.course.state = .train then
    if courseLanes.all (fun n => (s.lane n).state != .train || (s.lane n).ready) && !ready.isEmpty then
      ready.foldl (fun s n => (s.laneTo n .lock).bump (Reg.LAN_TRAIN_CNT n)) (s.courseTo .lock)
    else s
  else if s.lan.course.state = .active then
    ready.foldl (fun s n => (s.laneTo n .lock).bump (Reg.LAN_TRAIN_CNT n)) s
  else s

/-- PL_TRAINING_FRAME (R400, R401, R410, R421): a training frame is received on a lane in TRAIN: its tap, preset and precoding requests
are acted on, and RX_READY counts in both directions; `ready` is the RX_READY that this end sends. -/
def execPlTrainingFrame (lane control status : Nat) (ready : Bool) (t : Instant) (s : State) : Host.Outcome State Fault Refusal :=
  let s := s.atT t
  if s.plLane lane && (s.lane lane).state = .train then
    let taps := tapsAfter (s.lane lane).taps control
    let s := s.mapLane lane (fun l => { l with
      taps := taps, signal := true, preTx := control.testBit 9, preRx := status.testBit 8
      readyRun := if control.testBit 10 then l.readyRun + 1 else 0
      readyTx := if ready then l.readyTx + 1 else 0 })
    .next (s.wr (Reg.LAN_TXEQ lane) (leNat taps)).trainedLanes
  else .next s

/-- PL_TRAIN_TIMEOUT (R408, R410): training has not finished within 100 ms: the course returns to DETECT; a lane trained alone is LOST
again. -/
def execPlTrainTimeout (t : Instant) (s : State) : Host.Outcome State Fault Refusal :=
  let s := s.atT t
  let c := s.lan.course
  let late := (s.lanesIn .train).filter (fun n => decide ((s.lane n).since + 100 * ms ≤ s.now))
  if c.state = .train && c.since + 100 * ms ≤ s.now then
    .next ((s.lanesIn .train).foldl (fun s n => s.bump (Reg.LAN_TRAIN_FAIL_CNT n)) s).courseDetect
  else if c.state = .active then
    .next (late.foldl (fun s n => (s.laneTo n .lost).bump (Reg.LAN_TRAIN_FAIL_CNT n)) s)
  else .next s

/-- R408, R412 (14): both ends have locked: the course enters CAPS. -/
def State.lockedCourse (s : State) : State :=
  let on := s.lanesIn .lock
  if s.lan.course.state = .lock && !on.isEmpty && on.all (fun n => (s.lane n).locked) && s.lan.course.peerRxLocked then
    s.courseTo .caps
  else s

/-- PL_CODEWORD (R411, R412, R420, R421): a codeword is received on a lane and decoded, with the symbols corrected; a SPARE codeword
brings its flags and index. In LOCK it locks the lane; on an ACTIVE lane too many uncorrectable ones lose it; data on a restored lane
show that the peer sends at width 2. -/
def execPlCodeword (lane : Nat) (ok spare : Bool) (flags index corrected : Nat) (t : Instant) (s : State) :
    Host.Outcome State Fault Refusal :=
  let s := s.atT t
  let st := (s.lane lane).state
  if !s.plLane lane || !(st = .lock || st = .active || st = .quiet) then .next s
  else
    let s := if ok then s.bumpBy (Reg.LAN_CORR_CNT lane) corrected else s.bump (Reg.LAN_UNCORR_CNT lane)
    let s := s.mapLane lane (fun l => { l with
      signal := true
      peerLocked := if ok && spare then flags.testBit 1 else l.peerLocked
      spareIdx := if ok && spare then index % 256 else l.spareIdx
      goodRun := if ok then l.goodRun + 1 else 0
      badRun := if ok then 0 else l.badRun + 1
      badAt := if ok then l.badAt else s.now :: l.badAt.filter (fun a => s.now < a + 100 * us) })
    let s := if ok && spare then s.mapCourse (fun c => { c with peerRxLocked := flags.testBit 0 }) else s
    if st = .lock then
      let s := s.mapLane lane (fun l => { l with locked := l.locked || decide (8 ≤ l.goodRun) })
      if s.lan.course.state = .active && ok && !spare && (s.lane lane).locked then
        let s := s.mapCourse (fun c => { c with rxWidth := 2 })
        .next (if s.lan.course.width = 2 then s.laneTo lane .active else s)
      else .next s.lockedCourse
    else
      let l := s.lane lane
      if s.lan.course.state = .active && (4 ≤ l.badRun || 64 ≤ l.badAt.length) then .next (s.laneLost lane) else .next s

/-- PL_LOCK_TIMEOUT (R408): LOCK has not finished within 1 ms: the course returns to TRAIN. -/
def execPlLockTimeout (t : Instant) (s : State) : Host.Outcome State Fault Refusal :=
  let s := s.atT t
  if s.lan.course.state = .lock && s.lan.course.since + ms ≤ s.now then .next s.courseTrain else .next s

/-! ### CAPS (R416, R419) -/

/-- A flit that carries no DATA is sent, with what its header returns to the peer (R414, R417, R418). -/
def State.sendCtrlFlit (s : State) (type : Nat) (payload : List Byte) : State :=
  s.mapCourse (fun c => { c with
    ctrlTx := (c.ctrlTx.filter (fun x => !(x.1 == type && x.2.2.head? == payload.head?)))
      ++ [(type, (c.nextRx + 4095) % 4096, payload)]
    ackOwed := false, crdOwed := c.crdOwed - min 15 c.crdOwed
    busyAt := if type = 0 then c.busyAt else s.now })

/-- R416 (14): the bytes of this end's CAPS. -/
def State.capsBytes (s : State) : List Byte :=
  leBytes 1 1 ++ leBytes 1 1 ++ leBytes 2 0x5064 ++ leBytes 8 s.serial ++ leBytes 2 1024
    ++ leBytes 1 (if s.lan.course.capsRx then 1 else 0) ++ leBytes 1 0 ++ leBytes 2 s.lan.course.nextRx

/-- R408, R416 (14): both ends have sent and received a CAPS with ACKED: the course enters ACTIVE. -/
def State.capsDone (s : State) : State :=
  let c := s.lan.course
  if c.state = .caps && c.capsAcked && c.capsSentAcked then
    let on := s.lanesIn .lock
    let s := on.foldl (fun s n => s.laneTo n .active) (s.courseTo .active)
    (s.mapCourse (fun c => { c with
      width := on.length, rxWidth := on.length, busyAt := s.now, ackAt := s.now, replays := 0, nakSent := false })).event
      [Reg.LAN_STAT_PL_ACTIVE]
  else s

/-- PL_CAPS_SEND (R416): in CAPS this end sends its CAPS flit. -/
def execPlCapsSend (t : Instant) (s : State) : Host.Outcome State Fault Refusal :=
  let s := s.atT t
  if s.lan.course.state = .caps then
    let s := s.sendCtrlFlit 3 s.capsBytes
    .next (s.mapCourse (fun c => { c with capsSentAcked := c.capsSentAcked || c.capsRx })).capsDone
  else .next s

/-- PL_CAPS_TIMEOUT (R408): CAPS has not finished within 10 ms: the course returns to DETECT. -/
def execPlCapsTimeout (t : Instant) (s : State) : Host.Outcome State Fault Refusal :=
  let s := s.atT t
  if s.lan.course.state = .caps && s.lan.course.since + 10 * ms ≤ s.now then .next s.courseDetect else .next s

/-- PL_DOWN_HOLD_END (R408): 1 s after a version mismatch the course returns to DETECT. -/
def execPlDownHoldEnd (t : Instant) (s : State) : Host.Outcome State Fault Refusal :=
  let s := s.atT t
  if s.lan.course.hold && s.lan.course.since + sec ≤ s.now then
    .next (s.mapCourse (fun c => { c with hold := false })).courseFollow
  else .next s

/-- R419 (14): the peer's CAPS at this entry of CAPS: another peer's discards the retry buffer and restarts both sequences; the same
peer's resumes sending at its RX_NEXT. -/
def State.meetPeer (s : State) (serial credits rxNext : Nat) : State :=
  let c := s.lan.course
  if c.peerKnown && c.serial ≠ serial then
    let s := (s.bumpBy Reg.LAN_LOST_CNT c.retry.length).event [Reg.LAN_STAT_PEER_CHANGED]
    s.mapCourse (fun c => { c with
      serial := serial, retry := [], replayLeft := 0, nextTx := 0, nextRx := 0, rxPartial := none, credits := credits
      txQueue := if c.txStarted then c.txQueue.drop 1 else c.txQueue, txStarted := false })
  else
    let keep := c.retry.filter (fun f => decide ((f.seq + 4096 - rxNext) % 4096 < 2048))
    s.mapCourse (fun c => { c with
      serial := serial, peerKnown := true, retry := keep, replayLeft := keep.length, credits := credits })

/-- R408, R416, R419 (14): a CAPS flit is received in CAPS. -/
def State.capsReceive (s : State) (p : List Byte) : State :=
  let at_ (i n : Nat) : Nat := leNat ((p.drop i).take n)
  if s.lan.course.state ≠ .caps then s
  else if at_ 1 1 ≠ 1 then
    let s := courseLanes.foldl (fun s n => s.laneTo n .off) (s.courseTo .down)
    (s.mapCourse (fun c => { c with hold := true })).event [Reg.LAN_STAT_CAPS_FAIL]
  else
    let s := if s.lan.course.capsRx then s else s.meetPeer (at_ 4 8) (at_ 12 2) (at_ 16 2)
    (s.mapCourse (fun c => { c with capsRx := true, capsAcked := c.capsAcked || at_ 14 1 % 2 == 1 })).capsDone

/-! ### Flits (R413 to R418) -/

/-- R415 (14): segments of the waiting packets for a payload with `room` bytes left: the segments, the packets left and whether the first
of them has begun. -/
def packSegs (n room : Nat) (q : List (List Byte)) (begun : Bool) :
    List (List Byte × Bool × Bool × Nat) × List (List Byte) × Bool :=
  match n, q with
  | 0, _ => ([], q, begun)
  | _, [] => ([], [], false)
  | n + 1, p :: r =>
    if room < 3 then ([], p :: r, begun)
    else
      let k := min (room - 2) (min 238 p.length)
      let whole := k = p.length
      let x := packSegs n (room - 2 - k) (if whole then r else p.drop k :: r) (!whole)
      ((p.take k, !begun, whole, 0) :: x.1, x.2)

/-- PL_FLIT_SEND (R413, R417, R418, R422): the sender sends a flit: one to be replayed, a new DATA flit within its credits and the
retry buffer of 512, or IDLE. DATA leaves QUIET. -/
def execPlFlitSend (t : Instant) (s : State) : Host.Outcome State Fault Refusal :=
  let s := s.atT t
  let c := s.lan.course
  if c.state ≠ .active then .next s
  else
    let returns (c : Course) : Course :=
      { c with ackOwed := false, crdOwed := c.crdOwed - min 15 c.crdOwed, busyAt := s.now, txQuiet := false }
    let wake (s : State) : State := if c.txQuiet then (s.lanesIn .quiet).foldl (fun s n => s.laneTo n .active) s else s
    if c.replayLeft ≠ 0 then
      .next ((wake s).bump Reg.LAN_REPLAY_CNT |>.mapCourse (fun c => { returns c with replayLeft := c.replayLeft - 1 }))
    else if !c.txQueue.isEmpty && c.credits ≠ 0 && c.retry.length < 512 then
      let x := packSegs 80 240 c.txQueue c.txStarted
      .next ((wake s).bump Reg.LAN_TX_DATA_CNT |>.mapCourse (fun c => { returns c with
        retry := c.retry ++ [{ seq := c.nextTx, segs := x.1 }], nextTx := (c.nextTx + 1) % 4096, credits := c.credits - 1
        txQueue := x.2.1, txStarted := x.2.2, ackAt := if c.retry.isEmpty then s.now else c.ackAt }))
    else if c.txQuiet then .next s
    else .next (s.sendCtrlFlit 0 [])

/-- R415 (14): the segments of a DATA payload; none: a malformed run. -/
def readSegs (n : Nat) (p : List Byte) : Option (List (List Byte × Bool × Bool × Nat)) :=
  match n, p with
  | n + 1, a :: b :: r =>
    let h := a.toNat + 256 * b.toNat
    let len := h % 2048
    if h = 0 then (if r.all (fun x => x == 0) then some [] else none)
    else if len = 0 || 238 < len || r.length < len then none
    else (readSegs n (r.drop len)).map (fun xs => (r.take len, h.testBit 11, h.testBit 12, h / 8192) :: xs)
  | _, p => if p.all (fun x => x == 0) then some [] else none

/-- R437 (15): a packet that the partner's unit sends for a host beyond this unit goes on the path recorded for its session, or for the
NONCE of an OPEN_REPLY; with no record it is dropped. A CLOSE ends the session's record (DESIGN CHOICE, log entry 27). -/
def State.relayDown (s : State) (bytes : List Byte) : State :=
  let type := leNat ((bytes.drop 3).take 1)
  let session := leNat ((bytes.drop 4).take 2)
  let unit := leNat ((bytes.drop 6).take 1)
  let nonce := leNat ((bytes.drop 32).take 8)
  let granted := leNat ((bytes.drop 42).take 2)
  let mine (r : Relay) : Bool := if type = 2 then r.session.isNone && r.nonce == nonce else r.session == some session
  match s.kpe.relays.find? mine with
  | some r =>
    if unit = 1 then
      let s := if type = 2 && granted < 128 then
          s.mapKpe (fun k => { k with relays := k.relays.map (fun x => if mine x then { x with session := some granted } else x) })
        else s
      let s := s.sendOn r.path (type != 9) bytes
      if type = 10 then s.mapKpe (fun k => { k with relays := k.relays.filter (fun x => !mine x) }) else s
    else s.bump Reg.KPE_PEER_DROP_CNT
  | none => s.bump Reg.KPE_PEER_DROP_CNT

/-- R415, R437 (14, 15): a whole CH 0 packet: one of a type that a device sends is relayed; a host's packet is its own command's. -/
def State.peerPacket (s : State) (bytes : List Byte) : State :=
  let type := leNat ((bytes.drop 3).take 1)
  let session := leNat ((bytes.drop 4).take 2)
  let device := type = 2 || type = 4 || type = 5 || type = 6 || type = 7 || type = 9
    || (type = 10 && s.kpe.relays.any (fun r => r.session == some session))
  if device then s.relayDown bytes else s

/-- R415 (14): one segment is taken. -/
def State.takeSegment (s : State) (g : List Byte × Bool × Bool × Nat) : State :=
  let drop (s : State) : State := (s.bump Reg.LAN_CRC_CNT).mapCourse (fun c => { c with rxPartial := none })
  if g.2.2.2 ≠ 0 then (if g.2.1 then s.bump Reg.LAN_CRC_CNT else s)
  else
    match s.lan.course.rxPartial, g.2.1 with
    | some _, true => drop s
    | none, false => drop s
    | p, _ =>
      let bs := p.getD [] ++ g.1
      if 9216 < bs.length then drop s
      else if g.2.2.1 then (s.mapCourse (fun c => { c with rxPartial := none })).peerPacket bs
      else s.mapCourse (fun c => { c with rxPartial := some bs })

/-- R417, R418 (14): the ACK and CRD of a good flit: acknowledged flits leave the retry buffer, and credits return. -/
def State.takeAck (s : State) (ack crd : Nat) : State :=
  s.mapCourse (fun c =>
    let keep := c.retry.filter (fun f => decide ((f.seq + 4096 - (ack + 1)) % 4096 < 2048))
    let moved := keep.length < c.retry.length
    { c with
      retry := keep, credits := c.credits + crd, replayLeft := min c.replayLeft keep.length
      replays := if moved then 0 else c.replays, ackAt := if moved then s.now else c.ackAt })

/-- R418 (14): the first bad or out-of-order flit is answered with one NAK. -/
def State.nak (s : State) : State :=
  if s.lan.course.nakSent || s.lan.course.state ≠ .active then s
  else ((s.sendCtrlFlit 2 []).bump Reg.LAN_NAK_CNT).mapCourse (fun c => { c with nakSent := true })

/-- R418 (14): another replay of every unacknowledged flit; after 16 without an advance the course goes to TRAIN. -/
def State.replay (s : State) : State :=
  if 16 ≤ s.lan.course.replays then
    ((((s.bump Reg.LAN_RETRY_EXH_CNT).event [Reg.LAN_STAT_RETRY_EXH]).courseTrain).mapCourse (fun c =>
      { c with replays := 0, replayLeft := 0 }))
  else s.replayAll.mapCourse (fun c => { c with replays := c.replays + 1, ackAt := s.now })

/-- R418 (14): a good DATA flit: the expected one is accepted, a duplicate is discarded, another draws a NAK. -/
def State.dataFlit (s : State) (f : RxFlit) : State :=
  let c := s.lan.course
  if c.state ≠ .active then s
  else if f.seq = c.nextRx then
    let s := (s.bump Reg.LAN_RX_DATA_CNT).mapCourse (fun c => { c with
      nextRx := (c.nextRx + 1) % 4096, nakSent := false, ackOwed := true, crdOwed := c.crdOwed + 1 })
    match readSegs 121 f.payload with
    | some gs => gs.foldl (fun s g => s.takeSegment g) s
    | none => (s.bump Reg.LAN_CRC_CNT).mapCourse (fun c => { c with rxPartial := none })
  else if (c.nextRx + 4095 - f.seq) % 4096 < 2048 then s.mapCourse (fun c => { c with ackOwed := true })
  else s.nak

/-- R423 (14): the course goes to DORMANT. -/
def State.courseDormant (s : State) : State := courseLanes.foldl (fun s n => s.laneTo n .dormant) (s.courseTo .dormant)

/-- R416, R422, R423 (14): a CTRL flit. -/
def State.ctrlFlit (s : State) (p : List Byte) : State :=
  let c := s.lan.course
  match (p.headD 0).toNat with
  | 1 => s.capsReceive p
  | 2 => if c.state = .active then s.mapCourse (fun c => { c with rxQuiet := true }) else s
  | 3 =>
    if c.state ≠ .active then s
    else if s.on Reg.LAN_PL_CTL_DORMANT_OK && c.retry.isEmpty then (s.sendCtrlFlit 3 [4]).courseDormant
    else s.sendCtrlFlit 3 [5]
  | 4 => if c.state = .active && c.dormantReq then s.courseDormant else s
  | 5 => s.mapCourse (fun c => { c with dormantReq := false })
  | _ => s

/-- PL_FLIT_RECEIVE (R413 to R419, R422, R423): a flit is received in CAPS or ACTIVE. -/
def execPlFlitReceive (f : RxFlit) (t : Instant) (s : State) : Host.Outcome State Fault Refusal :=
  let s := s.atT t
  let st := s.lan.course.state
  if !(st = .caps || st = .active) then .next s
  else if !f.ok || 4 ≤ f.type || f.top then .next (s.bump Reg.LAN_CRC_CNT).nak
  else
    let s := s.mapCourse (fun c => { c with rxQuiet := false })
    let s := if st = .active then s.takeAck f.ack f.crd else s
    match f.type with
    | 1 => .next (s.dataFlit f)
    | 2 => .next (if st = .active then s.replay else s)
    | 3 => .next (s.ctrlFlit f.payload)
    | _ => .next s

/-- PL_REPLAY_TIMEOUT (R418): no advance of ACK for 4 µs while flits are unacknowledged: all of them are replayed. -/
def execPlReplayTimeout (t : Instant) (s : State) : Host.Outcome State Fault Refusal :=
  let s := s.atT t
  let c := s.lan.course
  if c.state = .active && !c.retry.isEmpty && c.ackAt + 4 * us ≤ s.now then .next s.replay else .next s

/-! ### Width, QUIET and DORMANT (R420 to R423) -/

/-- PL_LANE_LOST (R420): a lane of an ACTIVE course has lost its signal for 1 µs; the idle of a quiet direction is no loss (R422). -/
def execPlLaneLost (lane : Nat) (t : Instant) (s : State) : Host.Outcome State Fault Refusal :=
  let s := s.atT t
  let st := (s.lane lane).state
  if s.plLane lane && s.lan.course.state = .active && !s.lan.course.rxQuiet && (st = .active || st = .quiet) then
    .next (s.laneLost lane)
  else .next s

/-- PL_WIDTH_RESTORE (R421): the sender has received LANE_LOCKED for the lane that came back, and returns to width 2. -/
def execPlWidthRestore (t : Instant) (s : State) : Host.Outcome State Fault Refusal :=
  let s := s.atT t
  match (s.lanesIn .lock).find? (fun n => (s.lane n).peerLocked) with
  | some n =>
    if s.lan.course.state = .active && s.lan.course.width = 1 then
      let s := (s.mapCourse (fun c => { c with width := 2 })).bump Reg.LAN_RESTORE_CNT
      let s := s.event [Reg.LAN_STAT_RESTORE]
      .next (if s.lan.course.rxWidth = 2 then s.laneTo n .active else s)
    else .next s
  | none => .next s

/-- PL_QUIET_ENTRY (R422): the sender has sent only IDLE flits for QUIET_US, holds no unacknowledged flit and owes nothing: it sends CTRL
QUIET and idles its lanes. -/
def execPlQuietEntry (t : Instant) (s : State) : Host.Outcome State Fault Refusal :=
  let s := s.atT t
  let c := s.lan.course
  if c.state = .active && s.on Reg.LAN_PL_CTL_QUIET_EN && !c.txQuiet && c.retry.isEmpty && c.txQueue.isEmpty && !c.ackOwed
      && c.busyAt + max 1 (s.rd Reg.LAN_PL_CTL_QUIET_US) * us ≤ s.now then
    let s := (s.sendCtrlFlit 3 [2]).mapCourse (fun c => { c with txQuiet := true })
    .next ((s.lanesIn .active).foldl (fun s n => s.laneTo n .quiet) s)
  else .next s

/-- R423 (14): SLEEP. -/
def State.plSleep (s : State) : State :=
  if s.lan.course.state = .active then (s.sendCtrlFlit 3 [3]).mapCourse (fun c => { c with dormantReq := true }) else s

/-- R423 (14): WAKE. -/
def State.plWake (s : State) : State := if s.lan.course.state = .dormant then s.courseDetect else s

/-- SLEEP (R423): an ACTIVE course sends DORMANT_REQ. -/
def execPlSleep (m : Master) (t : Instant) (s : State) : Host.Outcome State Fault Refusal :=
  .next ((s.atT t).strobe m .lan none false State.plSleep)

/-- WAKE (R423): a DORMANT course goes to DETECT. -/
def execPlWake (m : Master) (t : Instant) (s : State) : Host.Outcome State Fault Refusal :=
  .next ((s.atT t).strobe m .lan none false State.plWake)

/-- PL_WAKE_DETECT (R423): the detector of a DORMANT course sees the peer transmit. -/
def execPlWakeDetect (t : Instant) (s : State) : Host.Outcome State Fault Refusal :=
  let s := s.atT t
  if s.lan.course.state = .dormant then .next s.courseDetect else .next s

end Sys2Proof.Machine
end

