-- ==== Sys2Proof/Machine/Management.lean ====
section
/-! DEFINITION. The rows of MGC, SNS, TIM, EVR and OTP (R475 to R497, R504, 16). -/

namespace Sys2Proof.Machine

/-! ### MGC and SNS (R475, R479 to R481) -/

/-- R475 (16): a write of KICK. -/
def State.kick (s : State) (v : Word) : State :=
  if v.toNat % 2 ^ 16 = 0xC0DE then s.mapMgc (fun x => { x with kickAt := s.now }) else s

/-- KICK (R475): a write of 0xC0DE restarts the watchdog; any other value is ignored. -/
def execKick (m : Master) (v : Word) (t : Instant) (s : State) : Host.Outcome State Fault Refusal :=
  .next ((s.atT t).strobe m .mgc none false (fun s => s.kick v))

/-- R480 (16): TCRIT, fixed by the grade, in 1/64 °C. -/
def State.tcrit (s : State) : Int := if s.extGrade then 7680 else 7040

/-- R480 (16): a conversion of site `n`. Rising above TWARN warns; a second one above TCRIT raises OVERTEMP. -/
def State.siteConversion (s : State) (n v : Nat) : State :=
  let t := signed 16 v
  let warm := decide (signed 16 (s.rd Reg.SNS_TWARN) < t)
  let was := s.sns.warm.getD n false
  let hot := decide (s.tcrit < t)
  let twice := hot && s.sns.hot.getD n false
  let s := (s.wr (Reg.SNS_TEMP n) (v % 2 ^ 16)).mapSns (fun x => { x with
    hot := modAt x.hot n (fun _ => hot), warm := modAt x.warm n (fun _ => warm) })
  let s := if warm && !was then
      ((s.eventStands [Reg.SNS_STAT_TWARN.bit n]).bump Reg.SNS_TWARN_CNT).record 1 evSensor (n + v % 2 ^ 16 * 2 ^ 16)
    else if was && !warm then s.causeGone [Reg.SNS_STAT_TWARN.bit n] else s
  if twice then s.blockFault .sns none 1 0 else s

/-- R509 (17): the nominal value of rail `r` in units of 0.5 mV. -/
def railNominal (r : Nat) : Nat :=
  [1600, 1500, 1600, 1800, 1500, 1500, 3600, 2200, 2400, 3600, 1200, 6600].getD r 0

/-- R481 (16): a conversion of rail `r`: leaving ±4 % of its nominal value warns. -/
def State.railConversion (s : State) (r v : Nat) : State :=
  let nom := railNominal r
  let out := decide (nom < 25 * (v - nom)) || decide (nom < 25 * (nom - v))
  let was := s.sns.railWarn.getD r false
  let s := (s.wr (Reg.SNS_MV r) (v % 2 ^ 16)).mapSns (fun x => { x with railWarn := modAt x.railWarn r (fun _ => out) })
  if out && !was then
    ((s.eventStands [Reg.SNS_STAT_RAIL_WARN]).bump Reg.SNS_RAIL_WARN_CNT).record 1 evSensor (r + 16 + v % 2 ^ 16 * 2 ^ 16)
  else if was && !out && !s.sns.railWarn.any (fun b => b) then s.causeGone [Reg.SNS_STAT_RAIL_WARN]
  else s

/-- SNS_CONVERSION (R479 to R481): the eight die sites and the twelve rails are converted and held against their limits; during an SNS
restart neither limit is evaluated. -/
def execSnsConversion (temps mv : List Nat) (t : Instant) (s : State) : Host.Outcome State Fault Refusal :=
  let s := s.atT t
  if s.isolated .sns then .next s
  else
    let hot := (List.range 8).foldl (fun b n =>
      if signed 16 (temps.getD b 0) < signed 16 (temps.getD n 0) then n else b) 0
    let s := (s.wr Reg.SNS_HOT_TEMP (temps.getD hot 0 % 2 ^ 16)).wr Reg.SNS_HOT_SITE hot
    let s := (List.range 12).foldl (fun s r => s.railConversion r (mv.getD r 0)) s
    .next ((List.range 8).foldl (fun s n => s.siteConversion n (temps.getD n 0)) s)

/-- RAIL_FAULT (R481): a rail has been outside ±8 % for 100 µs. -/
def execRailFault (r : Nat) (t : Instant) (s : State) : Host.Outcome State Fault Refusal :=
  let s := s.atT t
  let _ := r
  if s.isolated .sns then .next s else .next (s.blockFault .sns none 2 0)

/-- SEAL_N_CHANGE (R46): SEAL_N changes level. -/
def execSealNChange (high : Bool) (t : Instant) (s : State) : Host.Outcome State Fault Refusal :=
  .next ((s.atT t).mapPwr (fun p => { p with sealOpen := high }))

/-! ### Time (R482 to R488) -/

/-- R484 (16): the next 1 µs re-alignment. -/
def State.realign (s : State) : Nat := (s.now / us + 1) * us

/-- R484 (16): a write of TIM.SET: device time will step, or in MODE 1 a write by another master than the servo is refused. -/
def State.setTime (s : State) (v : Nat) (servo : Bool) : State :=
  if s.rd Reg.TIM_MODE = 1 && !servo then (s.event [Reg.TIM_STAT_SET_REFUSED]).bump Reg.TIM_SET_REFUSED_CNT
  else s.mapTim (fun x => { x with step := some (v, s.realign) })

/-- TIM_SET (R484): a committed write of TIM.SET. -/
def execTimSet (m : Master) (v : BitVec 64) (servo : Bool) (t : Instant) (s : State) : Host.Outcome State Fault Refusal :=
  .next ((s.atT t).strobe m .tim none false (fun s => s.setTime v.toNat servo))

/-- TIME_STEP (R484): at the 1 µs re-alignment device time steps, and CLOCK_SET is written with the new time and the old one. -/
def execTimeStep (t : Instant) (s : State) : Host.Outcome State Fault Refusal :=
  let s := s.atT t
  match s.tim.step with
  | some (v, at_) =>
    if at_ ≤ s.now then
      let old := s.devTimeAt at_
      let s := s.mapTim (fun x => { x with base := v, baseAt := at_, slew := none, step := none, timeSet := true })
      let s := (s.bump Reg.TIM_STEP_CNT).event [Reg.TIM_STAT_CLOCK_SET]
      .next (s.record 1 evClockSet old)
    else .next s
  | none => .next s

/-- R486 (16): a measured offset `d`, what device time lacks, is corrected: slewed away, or stepped. -/
def State.correctTime (s : State) (d : Int) : State :=
  if d.natAbs < s.rd Reg.TIM_STEP_NS then
    let s := s.rebaseTime
    let ppm := max 1 (s.rd Reg.TIM_SLEW_PPM)
    s.mapTim (fun x => { x with slew := if d = 0 then none else some (d, s.now + d.natAbs * 1000000000 / ppm) })
  else
    let at_ := s.realign
    let v := (((s.devTimeAt at_ : Nat) : Int) + d) % 2 ^ 64
    s.mapTim (fun x => { x with step := some (v.toNat, at_) })

/-- R487 (16): the servo loses lock, for want of Sync (1) or by its offsets (2). -/
def State.loseLock (s : State) (why : Nat) : State :=
  let s := s.mapTim (fun x => { x with state := .holdover, good := 0, bad := 0 })
  ((s.event [Reg.TIM_STAT_LOST]).bump Reg.TIM_LOST_CNT).record 1 evPtpLost why

/-- PTP_SYNC (R486, R487): in MODE 1 the servo takes the offset `d` of a Sync message: 16 in a row below LOCK_NS lock it, 4 in a row above
4 × LOCK_NS lose the lock; in HOLDOVER nothing is corrected before it relocks. -/
def execPtpSync (d : Int) (t : Instant) (s : State) : Host.Outcome State Fault Refusal :=
  let s := s.atT t
  if s.rd Reg.TIM_MODE ≠ 1 then .next s
  else
    let lim := s.rd Reg.TIM_LOCK_NS
    let s := s.wr Reg.TIM_OFFSET (wrapN 32 d)
    let s := s.mapTim (fun x => { x with
      state := if x.state = .free then .acquiring else x.state, syncAt := s.now
      good := if d.natAbs < lim then x.good + 1 else 0
      bad := if 4 * lim < d.natAbs then x.bad + 1 else 0 })
    if s.tim.state = .locked then
      if 4 ≤ s.tim.bad then .next (s.loseLock 2) else .next (s.correctTime d)
    else if 16 ≤ s.tim.good then
      let s := (s.mapTim (fun x => { x with state := .locked })).event [Reg.TIM_STAT_LOCK]
      .next ((s.record 1 evPtpLock (wrapN 64 d)).correctTime d)
    else if s.tim.state = .holdover then .next s
    else .next (s.correctTime d)

/-- PTP_HOLDOVER (R487): no Sync has been accepted for HOLD_S seconds. -/
def execPtpHoldover (t : Instant) (s : State) : Host.Outcome State Fault Refusal :=
  let s := s.atT t
  if s.rd Reg.TIM_MODE = 1 && s.tim.state = .locked && s.tim.syncAt + max 1 (s.rd Reg.TIM_HOLD_S) * sec ≤ s.now then
    .next (s.loseLock 1)
  else .next s

/-- PPS_EDGE (R486): a rising edge of PPS is timestamped, and in MODE 2 corrects device time to the nearest whole second. -/
def execPpsEdge (t : Instant) (s : State) : Host.Outcome State Fault Refusal :=
  let s := s.atT t
  let ts := s.devTime
  let s := s.wr Reg.TIM_PPS_TIME ts
  if s.rd Reg.TIM_MODE = 2 then
    let whole := (ts + 500000000) / 1000000000 * 1000000000
    let d : Int := (whole : Int) - ts
    .next ((s.wr Reg.TIM_OFFSET (wrapN 32 d)).correctTime d)
  else .next s

/-- TIME_SLEW_END (R486): the offset has been slewed away. -/
def execTimeSlewEnd (t : Instant) (s : State) : Host.Outcome State Fault Refusal :=
  let s := s.atT t
  match s.tim.slew with
  | some (_, end_) =>
    if end_ ≤ s.now then .next (s.rebaseTime.mapTim (fun x => { x with slew := none })) else .next s
  | none => .next s

/-! ### The event recorder (R492 to R496) -/

/-- RATE_LIMIT_SECOND (R492): after a second in which keys were suppressed, one RATE_LIMITED record for each. -/
def execRateLimitSecond (t : Instant) (s : State) : Host.Outcome State Fault Refusal :=
  let s := (s.atT t).rollSecond
  let due := s.evr.due
  let s := s.mapEvr (fun e => { e with due := [] })
  .next (due.foldl (fun s k => s.record 1 evRateLimited
    (k.code % 2 ^ 16 + (k.kind % 2 ^ 8) * 2 ^ 16 + (k.zone % 2 ^ 8) * 2 ^ 24 + (k.supp % 2 ^ 32) * 2 ^ 32)) s)

/-- FLUSH_TIMEOUT (R493): 1 s after the oldest waiting record was formed, it is flushed. -/
def execFlushTimeout (t : Instant) (s : State) : Host.Outcome State Fault Refusal :=
  let s := s.atT t
  match s.evr.waiting with
  | [] => .next s
  | r :: _ =>
    if r.uptime * 1000 + sec ≤ s.now then .next (s.mapEvr (fun e => { e with urgent := max 1 e.urgent })).startPage
    else .next s

/-- PAGE_PROGRAMMED (R494, R496): a page program completes and is read back (0), fails (1), or reads back differently
(any other result). -/
def execPageProgrammed (result : Nat) (t : Instant) (s : State) : Host.Outcome State Fault Refusal :=
  let s := s.atT t
  match s.evr.page with
  | none => .next s
  | some recs =>
    if result = 0 then .next (s.pageDone recs)
    else
      let er := s.evr.erasePending
      let s := (s.mapEvr (fun e => { e with page := none })).sealLog (logAddr s.evr.writeAt) (if result = 1 then 1 else 3)
      .next (if er then s.beginErase else s)

/-- SECTOR_ERASE_DONE (R494, R496): the erase of a sector ends: its records are lost; a failure seals the log. -/
def execSectorEraseDone (ok : Bool) (t : Instant) (s : State) : Host.Outcome State Fault Refusal :=
  let s := s.atT t
  match s.evr.eraseSector with
  | none => .next s
  | some k =>
    if !ok then .next (s.sealLog (logAddr (k, 0)) 2)
    else
      let s := s.mapEvr (fun e => { e with log := e.log.filter (fun p => p.sector != k), eraseSector := none })
      if s.evr.erasing then
        let nxt := if k + 1 < s.logSectors then some (k + 1) else none
        .next (s.mapEvr (fun e => { e with erased := e.erased + 1, eraseSector := nxt }))
      else .next s.startPage

/-- LOG_ERASED (R494): the whole log is erased: the seal and its flags end, and the LOG_ERASED record is formed. -/
def execLogErased (t : Instant) (s : State) : Host.Outcome State Fault Refusal :=
  let s := s.atT t
  if s.evr.erasing && s.evr.eraseSector.isNone then
    let n := s.evr.erased
    let s := s.mapEvr (fun e => { e with erasing := false, sealed := false, lwMedia := false, log := [], writeAt := (0, 0) })
    let s := (s.causeGone [Reg.EVR_STAT_MEDIA_FAULT, Reg.EVR_STAT_LOG_FULL]).event [Reg.EVR_STAT_ERASE_DONE]
    .next (s.record 1 evLogErased n).startPage
  else .next s

/-- ERASE (R494): a write of EVR.CMD.ERASE. -/
def execEvrErase (m : Master) (t : Instant) (s : State) : Host.Outcome State Fault Refusal :=
  .next ((s.atT t).strobe m .evr none false (fun s => s.eraseCmd))

/-! ### OTP (R504) -/

/-- R504 (16): the bits of an OTP word that can be programmed in the field. -/
def otpMask (w : Nat) : BitVec 32 := if 4 ≤ w && w ≤ 19 then 0xFFFFFFFF else if w = 20 then 3 else 0

/-- R504 (16): ones are burned into the word that OTP_PROG selects. -/
def State.burnOtp (s : State) (v : Word) : State :=
  let w := s.rd Reg.UPD_OTP_PROG_WORD
  if otpMask w = 0 then s.event [Reg.UPD_STAT_OTP_DENIED]
  else
    (s.mapUpd (fun u => { u with otp := modAt u.otp w (fun x => x ||| (v &&& otpMask w)) })).event [Reg.UPD_STAT_OTP_DONE]

/-- OTP_PROGRAM (R46, R504): a write of OTP_VAL, sealed. -/
def execOtpProgram (m : Master) (v : Word) (t : Instant) (s : State) : Host.Outcome State Fault Refusal :=
  .next ((s.atT t).strobe m .upd none true (fun s => s.burnOtp v))

end Sys2Proof.Machine
end

