-- ==== Sys2Proof/Machine/Power.lean ====
section
/-! DEFINITION. Images and the boot record (R500, R501, 16), resets (R516 to R519), the change of the operating mode (R28 to R32,
01; R524, 17), and the rows of chapter 17 up to PREP. -/

namespace Sys2Proof.Machine

/-! ### Images (R499, R500) -/

/-- R499 (16): the flash address of slot A (0) or B (1). -/
def slotBase (slot : Nat) : Nat := 0x10000 + slot * 0x800000

/-- R499, R500 (16): `n` bytes of a slot from an offset on. -/
def State.slotBytes (s : State) (slot off n : Nat) : List Byte := Store.bytes s.upd.flash (slotBase slot + off) n

/-- R500 (16): a header field of a slot's image. -/
def State.header (s : State) (slot off n : Nat) : Nat := leNat (s.slotBytes slot off n)

/-- R500 (16): LENGTH. -/
def State.imageLength (s : State) (slot : Nat) : Nat := s.header slot 16 4

/-- R500 (16): the fixed fields are as the table states. -/
def State.imageFields (s : State) (slot : Nat) : Bool :=
  s.header slot 0 4 == 0x4D495443 && s.header slot 4 2 == 1 && s.header slot 6 2 == 0x5064
    && decide (s.header slot 12 2 ≤ 128) && decide (s.header slot 14 1 ≤ 1) && s.header slot 15 1 == 0
    && decide (1 ≤ s.imageLength slot) && decide (s.imageLength slot ≤ 8388352)
    && s.header slot 20 44 == 0 && s.header slot 160 32 == 0

/-- R504 (16): KEYHASHk, words 4 to 11 or 12 to 19, as a little-endian number. -/
def State.keyHash (s : State) (k : Nat) : Nat :=
  ((List.range 8).map (fun i => (s.otpWord (4 + 8 * k + i)).toNat * 2 ^ (32 * i))).foldl (· + ·) 0

/-- R500 (16): the key is the one of KEYSLOT, and that slot is not revoked. -/
def State.imageKey (s : State) (slot : Nat) : Bool :=
  let k := s.header slot 14 1
  (Config.sha256 (s.slotBytes slot 64 32)).toNat == s.keyHash k && (s.otpWord 20).toNat / 2 ^ k % 2 == 0

/-- R500 (16): the signature verifies, and BODY_HASH matches the body. -/
def State.imageSigned (s : State) (slot : Nat) : Bool :=
  Config.signatureOk (s.slotBytes slot 64 32) (s.slotBytes slot 0 192) (s.slotBytes slot 192 64)
    && (Config.sha512 (s.slotBytes slot 256 (s.imageLength slot))).toNat == s.header slot 96 64

/-- R504 (16): the rollback count: the ones of words 21 to 24. -/
def State.rollback (s : State) : Nat :=
  ((List.range 128).filter (fun i => (s.otpWord (21 + i / 32)).toNat / 2 ^ (i % 32) % 2 == 1)).length

/-- R502 (16): the first test of R500 that a slot's image fails, as its status; none: the image is valid. -/
def State.imageFault (s : State) (slot : Nat) : Option Nat :=
  if !s.imageFields slot then some 0x0102
  else if !s.imageKey slot then some 0x0103
  else if !s.imageSigned slot then some 0x0104
  else if s.header slot 12 2 < s.rollback then some 0x0105
  else none

/-- R500 (16): the slot holds a valid image. -/
def State.imageValid (s : State) (slot : Nat) : Bool := (s.imageFault slot).isNone

/-! ### The boot record (R501) -/

/-- R501 (16): which copy of the boot record is used: the valid one with the higher generation. -/
def State.recordAt (s : State) : Nat :=
  let a := s.upd.boot.getD 0 {}
  let b := s.upd.boot.getD 1 {}
  if b.valid && (!a.valid || a.generation < b.generation) then 1 else 0

/-- R501 (16): the boot record in force. -/
def State.bootRecord (s : State) : BootCopy := s.upd.boot.getD s.recordAt {}

/-- R501 (16): a change writes the other copy, with the generation one up. -/
def State.writeBootRecord (s : State) (f : BootCopy → BootCopy) : State :=
  let r := s.bootRecord
  s.mapUpd (fun u => { u with boot := modAt u.boot (1 - s.recordAt) (fun _ =>
    { f r with generation := r.generation + 1, valid := true }) })

/-- R516 (17): the code of a reset cause. -/
def ResetCause.code (c : ResetCause) : Nat :=
  match c with
  | .powerOn => 1 | .pin => 2 | .clock => 3 | .jtag => 4 | .update => 5 | .mode => 6 | .rail => 7 | .watchdog => 8

/-- R490, R520 (16, 17): the BOOT record. -/
def State.recordBoot (s : State) (slot : Nat) (trial : Bool) (tries : Nat) (c : ResetCause) : State :=
  s.record 1 evBoot (slot % 4 + (if trial then 4 else 0) + tries % 4 * 16 + c.code * 256)

/-! ### Resets (R516 to R518) -/

/-- R491 (16): SEQ of the next record: one more than the highest found in the flash log and the retained buffer; 1 with neither. -/
def Evr.bootSeq (e : Evr) : Nat :=
  match e.held.getLast? with
  | some r => (r.seq + 1) % 2 ^ 32
  | none => 1

/-- R504, R425 (14, 16): the MACs' addresses after reset: MAC_BASE + m. -/
def State.otpMacs (s : State) : State :=
  let base := (s.otpWord 2).toNat + (s.otpWord 3).toNat % 2 ^ 16 * 2 ^ 32
  (List.range 4).foldl (fun s m => s.wr (Reg.ETH_M_ADDR m) ((base + m) % 2 ^ 48)) s

/-- R517 (17): everything but the always-on state at its reset value: TIM.TIME, UPTIME and TIME_SET go on, the retained buffer and its
records stay, flash, boot record, OTP and the levels at the pins are no part of a reset. -/
def State.chipState (s : State) (c : ResetCause) : State :=
  let s := s.rebaseTime
  let evr : Evr := { buf := s.evr.buf, log := s.evr.log, writeAt := s.evr.writeAt }
  let r : State := {
    now := s.now
    bus := s.bus
    mems := { dram := s.mems.dram }
    gda := { stopped := !s.pwr.clocks.getD 0 true }
    guards := { intlkHigh := s.guards.intlkHigh, intlkAt := s.guards.intlkAt, darkSince := some s.now }
    zon := { armExt := s.zon.armExt, fireExt := s.zon.fireExt }
    kpe := { presHigh := s.kpe.presHigh, presAt := s.kpe.presAt }
    evr := evr
    tim := { base := s.tim.base, baseAt := s.tim.baseAt, timeSet := s.tim.timeSet }
    upd := { flash := s.upd.flash, boot := s.upd.boot, otp := s.upd.otp }
    pwr := { s.pwr with
      inReset := true, cause := c, clockResetAt := none, testen := false, prepPassed := 0, prepBegun := false, prepAt := 0
      tuning := {}, bootTuned := false, bootAct := .none, serviceAt := 0 }
    fresh := s.fresh
    pending := s.pending }
  (r.wr Reg.EVR_NEXT_SEQ evr.bootSeq).otpMacs

/-- R436, R516 to R518 (15, 17): a reset of reach "chip": both guards have dropped every line, the sessions close with reason BOOT, and
every block is reset; the mode is BOOT when the internal reset is released. -/
def State.chipReset (s : State) (c : ResetCause) : State := (s.closeAllSessions 5).chipState c

/-- R516, R517 (17): a reset of cause POWER_ON: uptime starts, and the retained buffer is lost. -/
def State.powerReset (s : State) : State :=
  let s := { s with now := 0, evr := { s.evr with buf := [] }, tim := {} }
  let s := s.mapGuards (fun g => { g with intlkAt := 0 })
  let s := s.mapKpe (fun k => { k with presAt := 0 })
  (s.mapPwr (fun p => { p with
    aonUp := true, fallback := false, enablesOpen := none, railsSince := some 0, lostAt := [0, 0, 0]
    resetNHigh := p.resetNHigh.map (fun _ => 0) })).chipState .powerOn

/-! ### Lanes and MACs that come up (R402, R407, R514, R521) -/

/-- R407, R514, R521 (14, 17): the bring-up of every MAC that the mode uses starts, where lanes may run; a MAC no longer used is off; the
course follows. -/
def State.linksFollow (s : State) : State :=
  let s := (List.range 4).foldl (fun s m =>
    let x := s.mac m
    let on := s.macLanes m
    if s.macUsed m && s.lanesRun then
      if x.state = .disabled then
        (s.mapMac m (fun x => { x with
          state := if s.on (Reg.ETH_CFG_AN_EN (m / 2)) then .an else .train })).mapLan (fun l => { l with
            lanes := l.lanes.zipIdx.map (fun (y, n) => if on.contains n then { y with state := .detect, since := s.now } else y) })
      else s
    else if x.state = .disabled then s
    else
      ((s.macDown m).mapMac m (fun x => { x with state := .disabled })).mapLan (fun l => { l with
        lanes := l.lanes.zipIdx.map (fun (y, n) => if on.contains n then { y with state := .off, signal := false } else y) })) s
  s.courseFollow

/-! ### The operating mode (R28 to R32) -/

/-- CHP.MODE.CUR's code (R28). -/
def Mode.code (m : Mode) : Nat :=
  match m with
  | .boot => 0 | .prep => 1 | .service => 2 | .test => 3 | .recovery => 4

/-- R28, R32 (01): SERVICE and TEST. -/
def Mode.light (m : Mode) : Bool := m == .service || m == .test

/-- LEAVE_SERVICE (R32, R70, R95, R273, R470): the light is removed, the tab stops at the end of the sweep, a pending Retune is cancelled,
the buses are released and the streams cease. -/
def State.leaveService (s : State) : State :=
  (((s.guardsIdle.haltSweepEnd .modeChange).cancelApply).releaseBuses).streamsCease

/-- R28 to R32, R49, R287, R361, R523 (01, 02, 10, 12, 17): the mode becomes `m`, which is another one. -/
def State.setMode (s : State) (m : Mode) : State :=
  let was := s.chp.mode
  let s := if was.light && !m.light then s.leaveService else s
  let s := s.mapChp (fun c => { c with mode := m })
  let s := s.dropStaleFlags
  let s := if m.light && !was.light then (s.guardsEnterService).mapPwr (fun p => { p with serviceAt := s.now }) else s
  let s := if was = .test && m = .service then
      (s.wr Reg.CHP_INJECT_CODE 0).mapChp (fun c => { c with inject := none })
    else s
  let s := if m = .recovery then s.closeDram else s
  let s := s.mapMgc (fun g => { g with secure := false })
  let s := if was = .service then s.mapPwr (fun p => { p with bootAct := .none }) else s
  let s := s.linksFollow
  let s := s.record 1 evMode m.code
  s.notify ntMode [m.code]

/-- R30, R524 (01, 17): the staged tuning becomes active with the change from PREP to SERVICE: no boundary carries the switch, so
nothing is counted and no confirmation is awaited, and no position has state that could re-seat. -/
def State.activateStaged (s : State) : State :=
  ((s.takeStage 0).mapChp (fun c => { c with confirms := [] })).mapPhs (fun p => { p with pos := [] })

/-- R522 (17): the PREP steps count as complete for a request for SERVICE. -/
def State.prepComplete (s : State) : Bool := s.pwr.prepPassed == 7 && s.chp.stage == .checked && !s.pwr.pfailLow

/-- R31 (01): a request for another mode is refused. -/
def State.modeRefused (s : State) : State :=
  (s.bump Reg.CHP_MODE_REFUSE_CNT_COUNT).event [Reg.CHP_CHIP_STAT_MODE_REFUSED]

/-- MODE_REQUEST (R30, R31, R516): a request changes the mode along the paths of R31, or is refused. -/
def State.requestMode (s : State) (req : Nat) : State :=
  match s.chp.mode, req with
  | .prep, 2 => if s.prepComplete then s.activateStaged.setMode .service else s.modeRefused
  | .service, 3 => s.setMode .test
  | .test, 2 => s.setMode .service
  | .service, 4 => s.setMode .recovery
  | .test, 4 => s.setMode .recovery
  | .recovery, 0 => s.chipReset .mode
  | _, _ => s.modeRefused

/-- MODE_REQUEST (R31, R44): a write of CHP.MODE.REQ. -/
def execModeRequest (m : Master) (req : Nat) (t : Instant) (s : State) : Host.Outcome State Fault Refusal :=
  .next ((s.atT t).strobe m .chp none false (fun s => s.requestMode (req % 8)))

/-! ### Rows of resets (R511, R516 to R518) -/

/-- POWER_ON (R516, R517): VDD_AON enters tolerance, and everything is reset; uptime begins. -/
def execPowerOn (t : Instant) (s : State) : Host.Outcome State Fault Refusal :=
  let _ := t
  .next s.powerReset

/-- PIN_RESET (R516, R518): RESET_N has been low for 1 µs, and the chip is reset with the clocks back on the crystal (R515); or RESET_N
has risen, from which the release counts its 1 ms. -/
def execPinReset (low : Bool) (t : Instant) (s : State) : Host.Outcome State Fault Refusal :=
  let s := s.atT t
  if low then
    .next ((s.chipReset .pin).mapPwr (fun p => { p with fallback := false, resetNHigh := none }))
  else .next (s.mapPwr (fun p => { p with resetNHigh := p.resetNHigh.or (some s.now) }))

/-- JTAG_RESET (R478, R516): also on a debug-locked part. -/
def execJtagReset (t : Instant) (s : State) : Host.Outcome State Fault Refusal := .next ((s.atT t).chipReset .jtag)

/-- RAIL_RESET (R516): a rail other than VDD_AON has been below 85 % for 2 µs; the release waits for every rail. -/
def execRailReset (t : Instant) (s : State) : Host.Outcome State Fault Refusal :=
  .next (((s.atT t).chipReset .rail).mapPwr (fun p => { p with railsSince := none, enablesOpen := none }))

/-- UPDATE_RESET (R502): 100 ms after the completion of an ACTIVATE with FLAGS bit 0 was sent. -/
def execUpdateReset (t : Instant) (s : State) : Host.Outcome State Fault Refusal :=
  let s := s.atT t
  if s.upd.resetAt.any (fun a => decide (a ≤ s.now)) then .next (s.chipReset .update) else .next s

/-- POWER_DOWN (R511): VDD_AON leaves tolerance: the retained buffer, uptime and all state are lost. Where it leaves first (`others`), the
enable lines are undefined until the other rails fall: a free value. -/
def execPowerDown (others : Bool) (t : Instant) (s : State) : Host.Outcome State Fault Refusal :=
  let _ := t
  let n := s.fresh
  .next ({ s.powerReset with fresh := n + 1 }.mapPwr (fun p => { p with
    aonUp := false, railsSince := none, enablesOpen := if others then some n else none }))

/-- RESET_RELEASE (R371, R475, R493, R518, R564): 1 ms after every rail is within tolerance and RESET_N is high the internal reset is
released into BOOT, unless TESTEN is high: then the device stays in reset. The watchdog and the interlock are timed from here, and
waiting records of the retained buffer are flushed. -/
def execResetRelease (testen : Bool) (bootsel : BitVec 2) (t : Instant) (s : State) : Host.Outcome State Fault Refusal :=
  let s := s.atT t
  let rails := s.pwr.railsSince.all (fun a => decide (a + ms ≤ s.now))
  let pin := s.pwr.resetNHigh.any (fun a => decide (a + ms ≤ s.now))
  if s.pwr.inReset && s.pwr.aonUp && rails && pin && !s.pwr.testen then
    if testen then .next (s.mapPwr (fun p => { p with testen := true }))
    else
      let s := s.mapPwr (fun p => { p with inReset := false, railsSince := p.railsSince.or (some (s.now - ms)) })
      let s := s.mapMgc (fun g => { g with kickAt := s.now, bootsel := bootsel, runs := .bootRom })
      let s := s.mapGuards (fun g => { g with intlkAt := max g.intlkAt s.now })
      let s := [GuardId.a, GuardId.b].foldl (fun s g => s.mapGuard g (fun x => { x with aliveAt := s.now })) s
      .next s.flushAll
  else .next s

/-! ### Clocks (R513 to R515) -/

/-- REF_CLOCK_LOST (R290, R514): CREF (0), SYSCLK (1) or LREF (2) is declared lost. -/
def execRefClockLost (k : Nat) (t : Instant) (s : State) : Host.Outcome State Fault Refusal :=
  let s := s.atT t
  if !s.pwr.clocks.getD k false then .next s
  else
    let s := s.mapPwr (fun p => { p with
      clocks := modAt p.clocks k (fun _ => false), lostAt := modAt p.lostAt k (fun _ => s.now)
      clockResetAt := if k < 2 then p.clockResetAt.or (some (s.now + 10 * us)) else p.clockResetAt })
    match k with
    | 0 => .next ((s.stopGuard .a).trip .b .refClock)
    | 1 => .next (s.tripBoth .refClock)
    | _ => .next (s.linksFollow)

/-- REF_CLOCK_PRESENT (R513, R514): 1 ms without loss: the reference is present again; GDA's clock runs again with CREF, and bring-up
restarts with LREF. -/
def execRefClockPresent (k : Nat) (t : Instant) (s : State) : Host.Outcome State Fault Refusal :=
  let s := s.atT t
  if s.pwr.clocks.getD k true || s.now < s.pwr.lostAt.getD k 0 + ms then .next s
  else
    let s := s.mapPwr (fun p => { p with clocks := modAt p.clocks k (fun _ => true) })
    match k with
    | 0 => .next ((s.mapGda (fun g => { g with stopped := false })).followEnables)
    | 1 => .next s
    | _ => .next s.linksFollow

/-- CLOCK_RESET (R514): 10 µs after the loss of CREF or SYSCLK. -/
def execClockReset (t : Instant) (s : State) : Host.Outcome State Fault Refusal :=
  let s := s.atT t
  if s.pwr.clockResetAt.any (fun a => decide (a ≤ s.now)) then .next (s.chipReset .clock) else .next s

/-- CRYSTAL_FAIL (R515): the always-on clock switches to the fallback oscillator: GDB trips with cause CLOCK, its lines stay dropped, and
every TIU rate is invalid. -/
def execCrystalFail (t : Instant) (s : State) : Host.Outcome State Fault Refusal :=
  let s := s.atT t
  if s.pwr.fallback then .next s
  else
    let s := s.mapPwr (fun p => { p with fallback := true })
    let s := s.mapTiu (fun x => { x with units := x.units.map (fun u => { u with rateValid := false, results := [] }) })
    .next ((s.trip .b .clock).followEnables)

/-! ### BOOT (R501, R520) -/

/-- R501 (16): the boot ROM's selection: the slot to run (none: its recovery service), whether in TRIAL, the boot records that it
writes in order, and whether one of them is the revert of step 2. -/
def State.bootChoice (s : State) : Option Nat × Bool × List BootCopy × Bool :=
  let r := s.bootRecord
  let sel := s.mgc.bootsel.toNat
  if sel = 3 then (none, false, [], false)
  else
    let forced := sel != 0
    let revert := !forced && r.trial && r.tries == 3
    let r1 : BootCopy := if forced then r else if revert then { r with active := 1 - r.active, trial := false }
      else if r.trial then { r with tries := r.tries + 1 } else r
    let slot := if forced then sel - 1 else r1.active
    let w1 := if r1 = r then [] else [r1]
    if s.imageValid slot then (some slot, !forced && r1.trial, w1, revert)
    else if s.imageValid (1 - slot) then
      (some (1 - slot), false, w1 ++ [{ r1 with active := 1 - slot, trial := false }], revert)
    else (none, false, w1, revert)

/-- R501, R519, R520 (16, 17): the image of a slot runs, or the boot ROM's recovery service. -/
def State.runImage (s : State) (slot : Option Nat) (trial : Bool) : State :=
  match slot with
  | some k =>
    (s.mapMgc (fun g => { g with runs := .firmware })).mapUpd (fun u => { u with
      runSlot := k, runTrial := trial, runHash := BitVec.ofNat 512 (s.header k 96 64) })
  | none =>
    (s.mapMgc (fun g => { g with runs := .romRecovery })).mapUpd (fun u => { u with runTrial := false, runHash := 0 })

/-- BOOT_COMPLETE (R491, R501, R520): the boot ROM has selected and verified an image: the boot record is written as far as it changes
(while PFAIL_N is low the boot ROM waits), the BOOT record is formed, and the mode becomes PREP, or RECOVERY. -/
def execBootComplete (t : Instant) (s : State) : Host.Outcome State Fault Refusal :=
  let s := s.atT t
  if s.pwr.inReset || s.chp.mode != .boot then .next s
  else
    let c := s.bootChoice
    if !c.2.2.1.isEmpty && s.pwr.pfailLow then .next s
    else
      let s := c.2.2.1.foldl (fun s r => s.writeBootRecord (fun _ => r)) s
      let s := if c.2.2.2 then s.record 1 evUpdate 0xFF else s
      let r := s.bootRecord
      let s := s.runImage c.1 c.2.1
      let s := s.recordBoot (c.1.getD r.active) (if c.1.isSome then c.2.1 else r.trial) r.tries s.pwr.cause
      match c.1 with
      | some _ => .next ((s.mapPwr (fun p => { p with prepAt := s.now, prepPassed := 0, prepBegun := false })).setMode .prep)
      | none => .next (s.setMode .recovery)

/-! ### PREP (R521) -/

/-- R521 (17): a PREP step has passed. -/
def State.prepPass (s : State) : State :=
  s.mapPwr (fun p => { p with prepPassed := p.prepPassed + 1, prepBegun := false })

/-- R521 (17): the action of a PREP step has begun. -/
def State.prepBegin (s : State) : State := s.mapPwr (fun p => { p with prepBegun := true })

/-- R521 (17): a step ends: it passes, or PREP ends in RECOVERY. -/
def State.prepEnd (s : State) (ok : Bool) : State := if ok then s.prepPass else s.setMode .recovery

/-- R521 (17): the next PREP step, as far as it has come: it passes, fails, begins, or goes on with an action whose end is a command of
its own (TRAIN_DONE, SKEW_CAL_DONE, REF_CAL_DONE, SELFTEST_DONE). -/
def State.prepStep (s : State) (sramOk : Bool) : State :=
  let begun := s.pwr.prepBegun
  match s.pwr.prepPassed with
  | 0 => s.prepEnd (s.pwr.clocks.getD 0 true && s.pwr.clocks.getD 1 true)
  | 1 => s.prepEnd sramOk
  | 2 =>
    if !begun then s.beginTraining.prepBegin
    else if s.dmc.subs.any (fun c => c.state == .training) then s
    else s.prepEnd (!s.dmc.subs.any (fun c => c.state == .failed))
  | 3 =>
    if !begun then (s.mapCal (fun c => { c with skewCal := some s.now })).prepBegin
    else if s.cal.skewCal.isSome then s else s.prepEnd s.cal.skewOk
  | 4 =>
    if !begun then s.startCal.prepBegin
    else if s.ref.act = .calibrating || s.ref.calPending then s else s.prepEnd s.ref.calOk
  | 5 =>
    if !begun then ((s.beginSelfTest .a).beginSelfTest .b).prepBegin
    else if s.gda.selfTest.isSome || s.gdb.selfTest.isSome then s else s.prepEnd (s.gda.stOk && s.gdb.stOk)
  | 6 => s.prepPass.linksFollow
  | _ => s

/-- PREP_STEPS (R31, R364, R521): the firmware carries the PREP steps on as far as they go now; `sramOk`: no word is uncorrectable
on read-back. -/
def execPrepSteps (sramOk : Bool) (t : Instant) (s : State) : Host.Outcome State Fault Refusal :=
  let s := s.atT t
  .next ((List.range 7).foldl (fun s _ => if s.chp.mode = .prep then s.prepStep sramOk else s) s)

/-! ### Power failure (R495, R525, R526) -/

/-- POWER_FAIL (R495): the record is formed, and up to 8 pages are flushed at top priority, the first led by it. -/
def State.recordPowerFail (s : State) : State :=
  let n := s.evr.waiting.length
  let seq := s.rd Reg.EVR_NEXT_SEQ
  let s := s.enterRecord 1 evPowerFail (n % 2 ^ 16) false
  let r := s.evr.waiting.find? (fun x => x.seq == seq && x.code == evPowerFail)
  (s.mapEvr (fun e => { e with pfailFirst := r, urgent := min 8 ((e.waiting.length + 7) / 8) })).startPage

/-- PFAIL_LOW (R525): PFAIL_N has been low for 1 µs. -/
def execPfailLow (t : Instant) (s : State) : Host.Outcome State Fault Refusal :=
  let s := s.atT t
  if s.pwr.pfailLow then .next s
  else
    let s := s.mapPwr (fun p => { p with pfailLow := true })
    .next (((s.tripBoth .powerFail).haltNow .powerFail).recordPowerFail)

/-- PFAIL_RISE (R520, R526): nothing is undone; the boot ROM may write the boot record again. -/
def execPfailRise (t : Instant) (s : State) : Host.Outcome State Fault Refusal :=
  .next ((s.atT t).mapPwr (fun p => { p with pfailLow := false }))

end Sys2Proof.Machine
end

