-- ==== Sys2Proof/Machine/Check.lean ====
section
/-! DEFINITION. The stage bank (R57 to R65, 02): the stage writes and their refusals, the loading of a Porhorn image, the
consistency check with CK19 to CK24 (R8, R35, R203, R314, R318, R323), and the stage commands of CHP.TCMD (R59, R66, R70). -/

namespace Sys2Proof.Machine

/-! ### The memories' windows (R40) -/

/-- R40 (02): the bytes of the memory in a slot; 0: no memory. -/
def slotSize (slot : Nat) : Nat :=
  match slot with
  | 1 => 0x4000 | 2 => 0x10000 | 3 => 0x20000 | 4 => 0x40000 | 5 => 0x100000 | 6 => 0x800000 | 7 => 0x40000 | 8 => 0x800
  | _ => 0

/-- R20, R40 (01, 02): the block, and its unit where it restarts by unit, that holds the byte at an offset of a slot's memory. -/
def slotBlock (slot off : Nat) : Block × Option Nat :=
  match slot with
  | 1 => (.psq, none)
  | 2 => (.psy, none)
  | 3 => if off < 0x10000 then (.gda, none) else (.gdb, none)
  | 4 => (.dts, none)
  | 5 => (.aar, some (off / 0x8000))
  | 6 => (.aar, some (off / 0x40000))
  | 7 => (.zon, some (off / 0x400))
  | _ => (.zon, some (off / 8))

/-- R41, R361, R364 (02, 12): DRAM takes no access now, so that the stage copy of the AAR data memory cannot be reached. -/
def State.stageDramGone (s : State) : Bool := s.dmc.closed || !((List.range 4).all (fun k => (s.subCh k).trained))

/-- R20, R41, R570: an access to the stage copy of a slot's memory at an offset completes with BUS_ERROR. -/
def State.stageMemGone (s : State) (slot off : Nat) : Bool :=
  let b := slotBlock slot off
  s.isolatedAt b.1 b.2 || (slot == 6 && s.stageDramGone)

/-! ### Stage writes (R44, R46, R59, R60) -/

/-- R59 (02): the refusal of a stage write, or of the start of a LOAD: WRONG_MODE, STAGE_FROZEN or STAGE_BUSY. -/
def State.stageRefusal (s : State) : Option Nat :=
  if s.chp.mode = .boot || s.chp.mode = .recovery then some 4
  else
    match s.chp.stage with
    | .pending => some 7
    | .copyback => some 6
    | _ => none

/-- R59, R60 (02): a stage write moves the stage to DIRTY, which aborts a check, or is refused and counted. -/
def State.stageTake (s : State) (f : State → State) : State :=
  match s.stageRefusal with
  | some c => (s.refuse c).bump Reg.CHP_STAGE_CNT_REFUSED
  | none => f (s.stageTo .dirty)

/-- The bits of a row's fields that `p` picks. -/
def RegRow.maskOf (r : RegRow) (p : RegField → Bool) : Word :=
  r.fields.foldl (fun w f => if p f then w ||| BitVec.ofNat 32 ((2 ^ f.width - 1) * 2 ^ f.lo) else w) 0

/-- The master may write the field: R42 and R44 for a P field, R46 for a sealed one. -/
def State.mayField (s : State) (m : Master) (f : RegField) : Bool := s.mayPriv m && (!f.sealed || s.maySeal m)

/-- R44 to R46, R571 (02): the denial that a write to the fields of a row counts, once, by privilege before the seal. -/
def State.denyRow (s : State) (m : Master) (r : RegRow) : State :=
  if !s.mayPriv m then s.denyPriv
  else if r.fields.any (fun f => f.sealed) && !s.maySeal m then s.denySeal
  else s

/-- STAGE_WRITE (R42, R59): a write to the T and PT fields of the register at the active address `a`; `op` gives the new word
from the staged one. -/
def State.stageReg (s : State) (m : Master) (r : RegRow) (a : Nat) (op : Word → Word) : State :=
  let k := RegRow.maskOf r (fun f => f.acc == .t && s.mayField m f)
  let s := s.denyRow m r
  if k = 0 then s
  else s.stageTake (fun s => s.setStage a ((s.stageWord a &&& ~~~k) ||| (op (s.stageWord a) &&& k)))

/-- R300 (10): a stage write to a guard's profile of the pattern being learned cancels the learning. -/
def State.profileWritten (s : State) (a : Nat) : State :=
  if a / 0x1000000 != 3 then s
  else
    let off := a % 0x800000
    let hits (g : GuardId) (pat : Nat) : Bool := (s.guard g).learning.any (fun l => l.pat == pat)
    if off < 0x10000 then (if hits .a (off / 0x1000) then s.cancelLearn .a else s)
    else if hits .b ((off - 0x10000) / 4) then s.cancelLearn .b
    else s

/-- STAGE_WRITE (R40, R59): a word written into the stage copy of a memory, named by its active address. -/
def State.stageMem (s : State) (m : Master) (a : Nat) (v : Word) : State :=
  if !s.mayPriv m then s.denyPriv
  else if a / 0x1000000 = 3 && !s.maySeal m then s.denySeal
  else s.stageTake (fun s => (s.mapMems (fun x => { x with stage := Store.setWord x.stage a v })).profileWritten a)

/-! ### Porhorn images (R64, R65) -/

/-- A little-endian number in an image. -/
def imgNat (bs : List Byte) (off n : Nat) : Nat := leNat ((bs.drop off).take n)

/-- R64 (02): the header of an image whose first `len` bytes were given. -/
def headerOk (bs : List Byte) : Bool :=
  let len := imgNat bs 12 4
  let n := imgNat bs 16 2
  decide (64 ≤ bs.length) && imgNat bs 0 4 == 0x4E545443 && imgNat bs 4 2 == 1 && imgNat bs 6 2 == 0x5064
    && decide (len ≤ bs.length) && decide (64 + 16 * n ≤ len) && decide (1 ≤ n) && decide (n ≤ 4096)
    && decide (imgNat bs 18 2 < 2) && ((bs.drop 20).take 40).all (fun b => b == 0)
    && imgNat bs 60 4 == (crc32c (bs.take 60)).toNat

/-- R64 (02): a section of an image: its TYPE, TARGET and payload; none: the descriptor or its CRC is wrong. -/
def sectionAt (bs : List Byte) (d off : Nat) : Option (Nat × Nat × List Byte) :=
  let type := imgNat bs d 2
  let target := imgNat bs (d + 4) 4
  let size := imgNat bs (d + 8) 4
  let body := (bs.drop off).take size
  let ok := imgNat bs (d + 2) 2 == 0 && decide (off + size ≤ imgNat bs 12 4) && (crc32c body).toNat == imgNat bs (d + 12) 4
  if ok && ((type = 1 && size % 4 = 0) || (type = 2 && size % 8 = 0 && target = 0)) then some (type, target, body) else none

/-- The 32-bit words of a payload. -/
def payloadWords (bs : List Byte) : List Word :=
  (List.range (bs.length / 4)).map (fun i => BitVec.ofNat 32 (imgNat bs (4 * i) 4))

/-- R65 (02): a MEMORY section's addresses lie in the active copy of one memory. -/
def memTargetOk (target size : Nat) : Bool :=
  target % 4 == 0 && decide (target % 0x1000000 < 0x800000) && decide (0 < slotSize (target / 0x1000000))
    && decide (target % 0x1000000 + size ≤ slotSize (target / 0x1000000))

/-- The pairs of a REGISTERS section. -/
def regPairs (ws : List Word) : List (Nat × Word) :=
  match ws with
  | a :: v :: r => (a.toNat, v) :: regPairs r
  | _ => []

/-- How a LOAD ends (R65, R449, R453). -/
inductive LoadEnd where
  | done | bad | busError | refused
  deriving DecidableEq, Repr

/-- R65, R571 (02): a MEMORY section is written, as one access. -/
def State.loadMemory (s : State) (m : Master) (target : Nat) (ws : List Word) : State × Bool :=
  let slot := target / 0x1000000
  let off := target % 0x1000000
  if ws.zipIdx.any (fun x => s.stageMemGone slot (off + 4 * x.2)) then (s.bump Reg.CHP_BUSERR_CNT_COUNT, false)
  else if slot = 3 && !s.maySeal m then (s.denySeal, true)
  else
    (ws.zipIdx.foldl (fun s x =>
      (s.mapMems (fun y => { y with stage := Store.setWord y.stage (target + 4 * x.2) x.1 })).profileWritten (target + 4 * x.2)) s,
      true)

/-- R65, R571 (02): a pair of a REGISTERS section is written, as one access. -/
def State.loadRegister (s : State) (m : Master) (a : Nat) (v : Word) : State × Bool :=
  match Reg.rowAt a, blockAt (a / 0x100000) (a / 0x10000 % 16) with
  | some r, some b =>
    if s.isolated b then (s.bump Reg.CHP_BUSERR_CNT_COUNT, false) else (s.stageReg m r a (fun _ => v), true)
  | _, _ => (s, true)

/-- R64, R459 (02, 15): the payload bytes of the first `k` sections of an image. -/
def payloadBytes (bs : List Byte) (k : Nat) : Nat :=
  ((List.range k).map (fun i => imgNat bs (64 + 16 * i + 8) 4)).foldl (· + ·) 0

/-- R65 (02): the section whose descriptor stands at `d` and whose payload stands at `off` is checked and then written; `k`
sections are left; with how many are left in the end. -/
def State.loadSections (s : State) (m : Master) (bs : List Byte) (d off k : Nat) : State × LoadEnd × Nat :=
  match k with
  | 0 => (s, .done, 0)
  | k + 1 =>
    match sectionAt bs d off with
    | none => (s, .bad, k + 1)
    | some (type, target, body) =>
      let ws := payloadWords body
      if type = 1 then
        if !memTargetOk target body.length then (s, .bad, k + 1)
        else
          let r := s.loadMemory m target ws
          if r.2 then r.1.loadSections m bs (d + 16) (off + body.length) k else (r.1, .busError, k + 1)
      else
        let ps := regPairs ws
        if !(ps.all (fun p => (Reg.rowAt p.1).any (fun r => r.tuned))) then (s, .bad, k + 1)
        else
          let r := ps.foldl (fun r p => if r.2 then r.1.loadRegister m p.1 p.2 else r) (s, true)
          if r.2 then r.1.loadSections m bs (d + 16) (off + body.length) k else (r.1, .busError, k + 1)

/-- The instances of a row. -/
def RegRow.instances (r : RegRow) : Nat := r.dims.foldl (fun n d => n * d.2) 1

/-- R65 (02): the tuned fields that are sealed, every instance counted. -/
def sealedTuned : Nat :=
  ((List.range 0x58).flatMap (fun b => Reg.rowsAt (b * 0x10000))).foldl (fun n r =>
    if r.tuned then n + RegRow.instances r * (r.fields.filter (fun f => f.sealed)).length else n) 0

/-- R65 (02): the sealed bits of the tuned word at `a`. -/
def sealedMask (a : Nat) : Word :=
  match Reg.rowAt a with
  | some r => RegRow.maskOf r (fun f => f.sealed)
  | none => 0

/-- CLEAR_STAGE (R64, R65, R300, R569): every tuned field and memory of the stage bank takes its reset value, but for what the seal
keeps: each such field, and the guard profiles' memory, is counted once. -/
def State.clearStage (s : State) (m : Master) : State :=
  let s := (s.cancelLearn .a).cancelLearn .b
  let s := s.mapChp (fun c => { c with stageBad := [] })
  if s.maySeal m then (s.mapRegs (fun r => { r with stage := [] })).mapMems (fun x => { x with stage := [] })
  else
    let s := s.mapRegs (fun r => { r with
      stage := r.stage.filterMap (fun c => if c.2 &&& sealedMask c.1 = 0 then none else some (c.1, c.2 &&& sealedMask c.1)) })
    let s := s.mapMems (fun x => { x with stage := Store.within x.stage profileBase (profileBase + 0x20000) })
    (List.range (sealedTuned + 1)).foldl (fun s _ => s.denySeal) s

/-- R65, R453, R459 (02, 15): a LOAD of the image whose given bytes are `bs`, with the payload bytes written. -/
def State.loadImage (s : State) (m : Master) (bs : List Byte) : State × LoadEnd × Nat :=
  match s.stageRefusal with
  | some c => (s.refuse c, .refused, 0)
  | none =>
    let s := s.stageTo .dirty
    let bad (s : State) : State := s.mapChp (fun c => { c with loadBad := true })
    if !headerOk bs then (bad s, .bad, 0)
    else
      let s := if imgNat bs 18 2 % 2 = 1 then s.clearStage m else s
      let s := s.setStage Reg.CHP_TUNING_ID_ID.addr (BitVec.ofNat 32 (imgNat bs 8 4))
      let n := imgNat bs 16 2
      let r := s.loadSections m bs 64 (64 + 16 * n) n
      let done := payloadBytes bs (n - r.2.2)
      if r.2.1 = .done then (r.1.mapChp (fun c => { c with loadBad := false }), .done, done) else (bad r.1, r.2.1, done)

/-! ### CK19 to CK24 -/

/-- R203 (07): the regular sequence of the staged tuning converts channel `c`. -/
def State.stageConverts (s : State) (c : Nat) : Bool :=
  let len := max 1 (min 16 (s.rdStage Reg.REF_SEQ_CTL_LEN))
  let paired := c % 2 == 1 && decide (c < 12) && s.rdStage (Reg.REF_PAIR_PAIR.bit (c / 2)) == 1
  !paired && (List.range len).any (fun e => s.rdStage (Reg.REF_SEQ_EN e) == 1 && s.rdStage (Reg.REF_SEQ_CH e) == c)

/-- CK19 (R203, R253): a time-interval unit first, then a coil's channel. -/
def State.ck19 (s : State) : Option Nat :=
  s.ck19Tiu.or (((List.range 2).filter (fun c => s.rdStage (Reg.DTS_COIL_EN c) == 1)).map (fun c =>
    s.rdStage (Reg.DTS_COIL_REF c)) |>.find? (fun c => !s.stageConverts c))

/-- R187, R314 (06, 11): the ring tap of the staged tuning is not off. -/
def State.stageRingOn (s : State) : Bool := s.rdStage Reg.PFL_TAP_RING < 5

/-- R312, R314 (11): lines per row, NS and GUARD_ROWS of the staged tuning. -/
def State.stageGeometry (s : State) : Nat × Nat × Nat :=
  if s.stageRingOn then
    let lpr := ceilDiv (s.rdStage Reg.PHS_RANGE_END + 1 - s.rdStage Reg.PHS_RANGE_CAPO) 30
    (lpr, s.rdStage Reg.RNG_CTL_SIZE * 2 ^ 20 / (64 * lpr), ceilDiv (2 ^ 26) (64 * lpr))
  else (0, 0, 0)

/-- CK20 (R314). -/
def State.ck20 (s : State) : Option Nat :=
  let size := s.rdStage Reg.RNG_CTL_SIZE
  if s.stageRingOn && (s.ringAvail < size || size < 128) then some 0 else none

/-- R318 (11): the oldest row that a descriptor needs; none: it needs none. -/
def State.oldestNeeded (s : State) (d : Desc) : Option Nat :=
  match d.state with
  | .free => none
  | .stream => some d.next
  | _ =>
    let first := max d.start s.rng.oldestRow
    if d.trow.isSome && first < d.stop then some first else none

/-- CK21 (R318). -/
def State.ck21 (s : State) : Option Nat :=
  let ns := s.stageGeometry.2.1
  let format := s.fieldDiffers Reg.PHS_RANGE_CAPO || s.fieldDiffers Reg.PHS_RANGE_END || s.fieldDiffers Reg.PFL_TAP_RING
  let shrinks := decide (ns < s.rng.ns)
  let early (o : Option Nat) : Bool := o.any (fun r => decide (r + ns < s.rng.wrow))
  if s.rdStage Reg.RNG_CTL_FORCE_RING = 1 then none
  else
    match (List.range 64).find? (fun i =>
      (format && (s.desc i).state != .free) || (shrinks && early (s.oldestNeeded (s.desc i)))) with
    | some i => some i
    | none => if (format && !s.rng.reads.isEmpty) || (shrinks && s.rng.reads.any (fun r => early (some r.2.2))) then some 64 else none

/-- R322, R323 (11): capture profile `k` would be refused with code 1, 3, 5 or 7 under the staged tuning. -/
def State.profileIllegal (s : State) (k : Nat) : Bool :=
  let g := s.stageGeometry
  let rows (n : Nat) : Nat := ceilDiv (n * s.stageSlots.length) (presetD (s.rdStage Reg.PFL_TAP_RING))
  let pre := s.rdStage (Reg.ZON_CAPP_PRE k)
  let post := s.rdStage (Reg.ZON_CAPP_POST k)
  !s.stageRingOn || pre + post == 0
    || (if s.rdStage (Reg.ZON_CAPP_MODE k) = 0 then decide (g.2.1 - g.2.2 < rows pre + rows post)
      else decide (g.2.1 - g.2.2 < rows pre))

/-- CK22 (R268, R323). -/
def State.ck22 (s : State) : Option Nat :=
  let m := s.mems.stage
  let asks (z : Nat) : Bool := (List.range 16).any (fun st => (List.range 4).any (fun j =>
    bits (actWord m z st j) 31 1 == 1 && bits (actWord m z st j) 5 1 == 1))
  match s.stageZones.find? (fun z => asks z && s.profileIllegal (fretCapp m z)) with
  | some z => some z
  | none =>
    if s.rdStage Reg.ZON_MU_BUSCAP = 1 && s.profileIllegal (s.rdStage Reg.ZON_MU_CAPP) then some 256 else none

/-- CK23 (R8): the reservations of the staged tuning exceed a bridge's capacity; the spec gives neither (free values). -/
def State.ck23 (s : State) : Option Nat :=
  [1, 2, 3, 4, 5].find? (fun r => Config.bridgeOver r s.regs.stage s.mems.stage)

/-- R34, R35 (01): a flow of `bytes` bytes for each output of decimation `d` of the staged tuning, with ECC, in bytes/s: a fraction. -/
def State.outputTraffic (s : State) (bytes d : Nat) : Nat × Nat :=
  (bytes * 9 * s.stageSlots.length * sec, 8 * s.rdStage Reg.PSQ_PERIOD_TICKS * tick * d)

/-- R222 (08): the bytes of one staged row, or of a core's patch of it, of `groups` groups. -/
def groupBytes (code groups : Nat) : Nat := groups * 64 * (if code = 5 then 3 else 1)

/-- CK24 (R34, R35, R222): ring writes and reads, staging writes, frame reads and the fixed share against 10 GB/s. -/
def State.ck24 (s : State) : Option Nat :=
  let v := s.stageView
  let ring := s.outputTraffic (128 * s.stageGeometry.1) (presetD (s.rdStage Reg.PFL_TAP_RING))
  let groups := s.rdStage Reg.PHS_RANGE_END / 32 + 1 - s.rdStage Reg.PHS_RANGE_CAPO / 32
  let taps := [s.rdStage Reg.PFL_TAP_AAR_A, s.rdStage Reg.PFL_TAP_AAR_B].filter (fun c => decide (c < 6))
  let reads := (v.enabled.filter (fun n => decide (v.rd (Reg.AAR_C_CTL_SRC n) < 2) && decide ((v.tap n).1 < 6))).map (fun n =>
    let t := v.tap n
    let patch := v.rd (Reg.AAR_C_PATCH_LAST n) + 1 - v.rd (Reg.AAR_C_PATCH_FIRST n)
    s.outputTraffic (groupBytes t.1 patch * t.2.1) (tapD t.1 * t.2.2))
  let flows := (if s.stageRingOn then [ring] else []) ++ taps.map (fun c => s.outputTraffic (groupBytes c groups) (tapD c)) ++ reads
  match sumCosts (flows.map some) with
  | some (p, q) => if 9700000000 * q < p then some 0 else none
  | none => some 0

/-- CK01 (R63): LOAD_BAD first, then the lowest stage memory with an uncorrectable error. -/
def State.ck01 (s : State) : Option Nat := if s.chp.loadBad then some 0xFFFF else leastOf s.chp.stageBad

/-- R63 (02): the checks in the order of their codes. -/
def checkList : List (Nat × (State → Option Nat)) :=
  [(1, State.ck01), (2, State.ck02), (3, State.ck03), (4, State.ck04), (5, State.ck05), (6, State.ck06), (7, State.ck07),
   (8, State.ck08), (9, State.ck09), (10, State.ck10), (11, State.ck11), (12, State.ck12), (13, State.ck13), (14, State.ck14),
   (15, State.ck15), (16, State.ck16), (17, State.ck17), (18, State.ck18), (19, State.ck19), (20, State.ck20), (21, State.ck21),
   (22, State.ck22), (23, State.ck23), (24, State.ck24)]

/-- R63 (02): the first of the checks that fails: its code and ITEM. -/
def firstFailure (s : State) (cs : List (Nat × (State → Option Nat))) : Option (Nat × Nat) :=
  match cs with
  | [] => none
  | (code, f) :: r =>
    match f s with
    | some item => some (code, item)
    | none => firstFailure s r

/-! ### The stage commands (R59, R63, R66, R70) -/

/-- CHK (R59, R63, R129): the check begins, or begins again at CK01; OCC is to shift the staged image. -/
def State.startCheck (s : State) : State :=
  match s.stageRefusal with
  | some c => s.refuse c
  | none =>
    let s := (s.stageTo .checking).mapChp (fun c => { c with checkSince := s.now })
    s.mapOcc (fun o => { o with preloadWanted := s.rdStage Reg.OCC_CTL_LEN != 0 && !s.isolated .occ })

/-- CHK, R63. -/
def execChk (m : Master) (t : Instant) (s : State) : Host.Outcome State Fault Refusal :=
  .next ((s.atT t).tuneIfDue.strobe m .chp none false State.startCheck)

/-- R129 (04): the preload of the check that runs is not done. -/
def State.preloading (s : State) : Bool := s.occ.preloadWanted || s.occ.shifting.any (fun x => x.1 == .preload)

/-- CHECK_COMPLETE, R63: CHECKED, or FAILED with the code and the item, and CHECK_DONE. -/
def execCheckComplete (t : Instant) (s : State) : Host.Outcome State Fault Refusal :=
  let s := s.atT t
  if s.chp.stage = .checking && !s.preloading then
    let r := firstFailure s checkList
    let s := (s.wr Reg.CHP_CKRES_CODE ((r.map (fun x => x.1)).getD 0)).wr Reg.CHP_CKRES_ITEM ((r.map (fun x => x.2)).getD 0)
    let s := s.stageTo (if r.isNone then .checked else .failed)
    .next (s.event [Reg.CHP_CHIP_STAT_CHECK_DONE])
  else .next s

/-- R88, R90 (02, 03): the earliest instant at which the next sweep can begin; none: it is not fixed. -/
def State.earliestNext (s : State) : Option Instant :=
  if s.psq.state = .running && !s.psq.first then
    some (s.psq.tick0 + (s.psq.period - (if s.following then 320 else 0)) * tick)
  else none

/-- R66 (02): APPLY_AT of sweep `n` comes too late. -/
def State.applyLate (s : State) (n : Nat) : Bool :=
  decide (n ≤ s.sweep) || (n == s.sweep + 1 && s.earliestNext.any (fun b => decide (b < s.now + 2 * us)))

/-- APPLY_NEXT and APPLY_AT (R59, R66): the refusals in their order, or the Retune is armed. -/
def State.applyCmd (s : State) (armed : Armed) (late : Bool) : State :=
  if s.chp.mode != .service && s.chp.mode != .test then s.refuse 4
  else if s.chp.safe then s.refuse 5
  else if s.chp.stage = .pending then s.refuse 1
  else if s.chp.stage != .checked then s.refuse 2
  else if late then s.refuse 3
  else (s.stageTo .pending).mapChp (fun c => { c with armed := some armed })

/-- APPLY_NEXT (R66): the first boundary that begins at least 2 µs from now. -/
def State.applyNext (s : State) : State := s.applyCmd (.next (s.now + 2 * us)) false

/-- APPLY_AT (R66): the sweep that CHP.APPLY_AT names. -/
def State.applyAt (s : State) : State :=
  let n := s.rd Reg.CHP_APPLY_AT_SWEEP
  s.applyCmd (.atSweep n) (s.applyLate n)

/-- APPLY_NEXT, R66. -/
def execApplyNext (m : Master) (t : Instant) (s : State) : Host.Outcome State Fault Refusal :=
  .next ((s.atT t).tuneIfDue.strobe m .chp none false State.applyNext)

/-- APPLY_AT, R66. -/
def execApplyAt (m : Master) (t : Instant) (s : State) : Host.Outcome State Fault Refusal :=
  .next ((s.atT t).tuneIfDue.strobe m .chp none false State.applyAt)

/-- CANCEL, R59, R70: from PENDING back to CHECKED; no effect in another state. -/
def execCancel (m : Master) (t : Instant) (s : State) : Host.Outcome State Fault Refusal :=
  .next ((s.atT t).tuneIfDue.strobe m .chp none false State.cancelApply)

/-- DISCARD (R59, R300): the stage goes to COPYBACK; no effect there, and refused when PENDING. -/
def State.discard (s : State) : State :=
  if s.chp.mode = .boot || s.chp.mode = .recovery then s.refuse 4
  else
    match s.chp.stage with
    | .pending => s.refuse 7
    | .copyback => s
    | _ => (s.stageTo .copyback).mapChp (fun c => { c with copybackSince := s.now, copyFault := false })

/-- DISCARD, R59. -/
def execDiscard (m : Master) (t : Instant) (s : State) : Host.Outcome State Fault Refusal :=
  .next ((s.atT t).tuneIfDue.strobe m .chp none false State.discard)

/-- RETUNE_APPLY, R67: the Retune of the boundary just taken. -/
def execRetuneApply (t : Instant) (s : State) : Host.Outcome State Fault Refusal := .next (s.atT t).tuneIfDue

/-- COPYBACK_DONE, R61: the stage equals the active tuning; LOAD_BAD clears (R65). -/
def execCopybackDone (t : Instant) (s : State) : Host.Outcome State Fault Refusal :=
  let s := s.atT t
  if s.chp.stage = .copyback then
    let s := (s.mapRegs (fun r => { r with stage := r.tuned })).mapMems (fun x => { x with stage := x.act })
    .next (s.mapChp (fun c => { c with stage := .clean, loadBad := false, stageBad := [] }))
  else .next s

/-- STAGE_COPY_FAULT, R61, R72: copy-back has not completed within 3 ms; raised once. -/
def execStageCopyFault (t : Instant) (s : State) : Host.Outcome State Fault Refusal :=
  let s := s.atT t
  if s.chp.stage = .copyback && !s.chp.copyFault && s.chp.copybackSince + 3 * ms ≤ s.now then
    .next ((s.mapChp (fun c => { c with copyFault := true })).escalate (errCode .chp 4) 0)
  else .next s

/-- R71 (02): a block's confirmation is overdue. -/
def State.blockSkewed (s : State) (c : Confirm) : Bool := c.lastSweep.any (fun n => decide (n < s.sweep))

/-- R71 (02): an affected core's confirmation is overdue. -/
def State.coreSkewed (s : State) (c : AarCore) : Bool :=
  c.affected && !c.skewed && c.switchDue.any (fun m => decide (m + 1 < s.sweep))

/-- APPLY_SKEW, R71, R72: what is overdue escalates, once. -/
def execApplySkew (t : Instant) (s : State) : Host.Outcome State Fault Refusal :=
  let s := s.atT t
  if s.chp.confirms.any s.blockSkewed || s.aar.cores.any s.coreSkewed then
    let s := s.mapAar (fun a => { a with cores := a.cores.map (fun c => { c with skewed := c.skewed || s.coreSkewed c }) })
    .next ((s.mapChp (fun c => { c with confirms := c.confirms.filter (fun x => !s.blockSkewed x) })).escalate (errCode .chp 3) 0)
  else .next s

end Sys2Proof.Machine
end

