-- ==== Sys2Proof/Machine/View.lean ====
section
/-! DEFINITION. What a read returns (R42, R137, R476, R477 and the register maps): the word as stored, and over it the fields
that stand elsewhere in the state. -/

namespace Sys2Proof.Machine

/-- A flag as a number. -/
def flag (b : Bool) : Nat := if b then 1 else 0

/-! ### Codes of the maps -/

/-- CHP.TSTAT.STATE (02). -/
def StageState.code (x : StageState) : Nat :=
  match x with
  | .clean => 0 | .dirty => 1 | .checking => 2 | .checked => 3 | .failed => 4 | .pending => 5 | .copyback => 6

/-- PSQ.STATE.STATE (03). -/
def TabState.code (x : TabState) : Nat :=
  match x with
  | .idle => 0 | .running => 1 | .halted => 2

/-- PSQ.STATE.HALT_CAUSE (03). -/
def HaltCause.code (x : HaltCause) : Nat :=
  match x with
  | .none => 0 | .halt0 => 1 | .halt1 => 2 | .sweepCmd => 3 | .nowCmd => 4 | .modeChange => 5 | .safe => 6
  | .powerFail => 7

/-- SRC.STGk_STATE.STATE (04). -/
def StageRun.code (x : StageRun) : Nat :=
  match x with
  | .off => 0 | .disabled => 1 | .ramp => 2 | .healthy => 3 | .blind => 4 | .fault => 5

/-- SRC.STGk_STATE.FAULT (04). -/
def StageFault.code (x : StageFault) : Nat :=
  match x with
  | .none => 0 | .openLoad => 1 | .short => 2 | .overcurrent => 3

/-- AAR.Cn_STATE.STATE (08). -/
def CoreState.code (x : CoreState) : Nat :=
  match x with
  | .off => 0 | .waiting => 1 | .running => 2 | .restarting => 3

/-- AAR.Cn_STATE.RUN (08). -/
def RunKind.code (x : RunKind) : Nat :=
  match x with
  | .init => 0 | .tile => 1 | .fend => 2

/-- A timer's state in TSTATE (09). -/
def TimerState.code (x : TimerState) : Nat :=
  match x with
  | .stopped => 0 | .running => 1 | .expired => 2

/-- STATE of a descriptor (11). -/
def DescState.code (x : DescState) : Nat :=
  match x with
  | .free => 0 | .wait => 1 | .stream => 2 | .closed => 3

/-- DMC.STATE.SUBs (12). -/
def SubState.code (x : SubState) : Nat :=
  match x with
  | .untrained => 0 | .training => 1 | .active => 2 | .powerDown => 3 | .srEntry => 4 | .selfRefresh => 5
  | .retrain => 6 | .failed => 7

/-- REF.STATE.ACT (13). -/
def RefAct.code (x : RefAct) : Nat :=
  match x with
  | .idle => 0 | .regular => 1 | .injected => 2 | .calibrating => 3

/-- TIU unit's STATE (13). -/
def TiuState.code (x : TiuState) : Nat :=
  match x with
  | .off => 0 | .idle => 1 | .armed => 2 | .running => 3

/-- LAN.LANEn.STATE (14). -/
def LaneState.code (x : LaneState) : Nat :=
  match x with
  | .off => 0 | .detect => 1 | .train => 2 | .lock => 3 | .active => 4 | .quiet => 5 | .lost => 6 | .dormant => 7

/-- LAN.PL_STATE.STATE (14). -/
def CourseState.code (x : CourseState) : Nat :=
  match x with
  | .down => 0 | .detect => 1 | .train => 2 | .lock => 3 | .caps => 4 | .active => 5 | .dormant => 6

/-- ETH MAC's STATE (14). -/
def MacState.code (x : MacState) : Nat :=
  match x with
  | .disabled => 0 | .an => 1 | .train => 2 | .align => 3 | .up => 4

/-- KPE session's STATE (15). -/
def SessState.code (x : SessState) : Nat :=
  match x with
  | .free => 0 | .active => 1 | .suspended => 2

/-- TIM.STATE (16). -/
def ServoState.code (x : ServoState) : Nat :=
  match x with
  | .free => 0 | .acquiring => 1 | .locked => 2 | .holdover => 3

/-! ### Pins and states that are computed -/

/-- SRC.STGk_STATE.STATE (R107, R120, 04) of stage `k`. -/
def State.stageCode (s : State) (k : Nat) : Nat := (s.stageRun k).code

/-- R477 (16): ALERT.SRC. -/
def State.alertSrc (s : State) : Nat :=
  let full := Store.get s.regs.causes Reg.EVR_STAT_LOG_FULL.addr
    &&& (Reg.EVR_STAT_LOG_FULL.mask ||| Reg.EVR_STAT_SRAM_FULL.mask)
  flag s.chp.safe
    + 2 * flag (s.chp.mode == .service && (s.gda.state != .armed || s.gdb.state != .armed))
    + 4 * flag (s.sns.hot.any id || s.sns.warm.any id || s.sns.railWarn.any id)
    + 8 * flag (s.evr.sealed || full != 0)
    + 16 * flag (s.chp.mode == .recovery)
    + 32 * flag (s.tim.state == .holdover)

/-- R477 (16): ALERT_N is pulled low. -/
def State.alertLow (s : State) : Bool :=
  (BitVec.ofNat 6 s.alertSrc &&& BitVec.ofNat 6 (s.rd Reg.MGC_ALERT_MASK)) != 0

/-- R476 (16): the level of GPIO pin `n`; one that the part does not drive has the level driven from outside, a free value. -/
def State.gpioPin (s : State) (n : Nat) : Bool :=
  let sel := s.rd (Reg.MGC_SEL n)
  if 1 ≤ sel && sel ≤ 8 then (s.ref.swOn.toNat / 2 ^ (sel - 1)) % 2 == 1
  else if sel = 9 then !s.alertLow
  else if sel = 10 then s.gdb.state == .armed
  else if s.on (Reg.MGC_DIR n) then s.on (Reg.MGC_OUT n)
  else Config.gpioLevel n s.now

/-- DMC.STATE.SUBs (R359, R365, 12): RETRAIN while a rank is in a retraining, POWER_DOWN while every fitted rank is in power-down. -/
def State.subCode (s : State) (k : Nat) : Nat :=
  let x := s.subCh k
  let rs := x.ranks.take s.ranksFitted
  match x.state with
  | .active =>
    if rs.any (fun r => decide (s.now < r.retrainTo)) then 6
    else if rs.all (fun r => r.powerDown) then 3
    else 2
  | y => y.code

/-- A field of `n` bits: bit `i` set where `p` holds of entry `i`. -/
def bitsWhere (n : Nat) (p : Nat → Bool) : Nat := (List.range n).foldl (fun a i => a + flag (p i) * 2 ^ i) 0

/-! ### The fields that stand elsewhere, window by window -/

/-- CHP (02). -/
def State.levelsChp (s : State) : List (Field × Nat) :=
  [(Reg.CHP_GRADE_EXT, flag s.extGrade), (Reg.CHP_GRADE_JTAG_LOCKED, flag s.jtagLocked),
   (Reg.CHP_GRADE_SEALED, flag (!s.pwr.sealOpen)), (Reg.CHP_MODE_CUR, s.chp.mode.code),
   (Reg.CHP_TSTAT_STATE, s.chp.stage.code), (Reg.CHP_TSTAT_LOAD_BAD, flag s.chp.loadBad)]

/-- PSQ (03). -/
def State.levelsPsq (s : State) : List (Field × Nat) :=
  [(Reg.PSQ_STATE_STATE, s.psq.state.code), (Reg.PSQ_STATE_HALT_CAUSE, s.psq.haltCause.code),
   (Reg.PSQ_STATE_PC, s.psq.pc)]
    ++ (if s.psq.state = .running then [(Reg.PSQ_TIMER_TICK, (s.now - s.psq.tick0) / tick)] else [])

/-- SRC (04), at the address `a`. -/
def State.levelsSrc (s : State) (a : Nat) : List (Field × Nat) :=
  let k := (a - 0x120100) / 64
  if a < 0x120100 then []
  else [(Reg.SRC_STG_STATE_STATE k, s.stageCode k), (Reg.SRC_STG_STATE_FAULT k, (s.src.stages.getD k {}).fault.code)]

/-- OCC (04). -/
def State.levelsOcc (s : State) : List (Field × Nat) :=
  [(Reg.OCC_STATE_STATE, if s.isolated .occ then 3 else if s.occ.shifting.isSome then 1
      else if s.occ.verified = some .preload then 2 else 0),
   (Reg.OCC_STATE_OE, flag s.occ.oe)]

/-- CRX (R137, 05): the gain codes in force and the working schedule. -/
def State.levelsCrx (s : State) (a : Nat) : List (Field × Nat) :=
  if a < 0x141000 then [(Reg.CRX_GAIN_NOW_GX, s.crx.gx), (Reg.CRX_GAIN_NOW_GY, s.crx.gy)]
  else
    let k := (a - 0x141000) / 4
    (List.range 8).map (fun j =>
      (Reg.CRX_SCHED_CODE k j,
        if k < 512 then s.workingCode .x (8 * k + j) else s.workingCode .y (8 * (k - 512) + j)))

/-- CAL (05). -/
def State.levelsCal (s : State) : List (Field × Nat) :=
  [(Reg.CAL_STATE_STARVED, bitsWhere 4 (fun c => s.cal.starved.getD c false)),
   (Reg.CAL_STATE_NOMINAL, bitsWhere 4 (fun c => s.cal.nominal.getD c true))]

/-- PFL (R177, 06): the coefficients, 18 bits. -/
def State.levelsPfl (_s : State) (a : Nat) : List (Field × Nat) :=
  if a < 0x230200 then []
  else if a < 0x230280 then [(Reg.PFL_COEFA ((a - 0x230200) / 4), wrapN 18 (Config.coefA ((a - 0x230200) / 4)))]
  else [(Reg.PFL_COEFB ((a - 0x230280) / 4), wrapN 18 (Config.coefB ((a - 0x230280) / 4)))]

/-- DTS (R208, 07). -/
def State.levelsDts (s : State) : List (Field × Nat) :=
  [(Reg.DTS_DRONE_NOW_C0, wrapN 32 s.dts.c0), (Reg.DTS_DRONE_NOW_GAMMA, wrapN 32 s.dts.gamma)]

/-- AAR (08). -/
def State.levelsAar (s : State) (a : Nat) : List (Field × Nat) :=
  if a = 0x25000C then [(Reg.AAR_LOAD_PERMILLE, s.aarLoad.1), (Reg.AAR_LOAD_CORE, s.aarLoad.2)]
  else if 0x250400 ≤ a && a < 0x250C00 then
    let n := (a - 0x250400) / 64
    let c := s.core n
    if a % 64 = 0x38 then [(Reg.AAR_C_BUDGET_B n, s.budgetOf n)]
    else
      [(Reg.AAR_C_STATE_STATE n, c.state.code), (Reg.AAR_C_STATE_RUN n, c.run.code), (Reg.AAR_C_STATE_PC n, c.pc)]
  else []

/-- ZON (09). -/
def State.levelsZon (s : State) (a : Nat) : List (Field × Nat) :=
  if a = 0x260214 then
    [(Reg.ZON_MU_STATE_ARM_PIN, flag s.armPin), (Reg.ZON_MU_STATE_FIRE_PIN, flag s.firePin),
     (Reg.ZON_MU_STATE_ARM_DRIVEN, flag s.zon.armDriven), (Reg.ZON_MU_STATE_FIRE_DRIVEN, flag s.zon.fireUntil.isSome),
     (Reg.ZON_MU_STATE_FIRE_STUCK, flag s.zon.fireStuck)]
  else if a = 0x260304 || a = 0x260308 then
    let x := zoneInput (s.unit (s.rd Reg.ZON_PROBE_ZONE)) false false (s.rd Reg.ZON_PROBE_SRC)
    [(Reg.ZON_PROBE_VALUE, x.value.toNat), (Reg.ZON_PROBE_VALID, flag x.valid), (Reg.ZON_PROBE_OVERRUN, flag x.overrun),
     (Reg.ZON_PROBE_FRESH, flag x.fresh), (Reg.ZON_PROBE_FRAME, x.frame % 2 ^ 16)]
  else if 0x261000 ≤ a && a < 0x262000 then
    let n := (a - 0x261000) / 16
    let u := s.unit n
    [(Reg.ZON_U_C0 n, u.c.getD 0 0), (Reg.ZON_U_C1 n, u.c.getD 1 0), (Reg.ZON_U_C2 n, u.c.getD 2 0),
     (Reg.ZON_U_C3 n, u.c.getD 3 0), (Reg.ZON_U_STATE n, u.state), (Reg.ZON_U_ZSEQ n, u.zseq),
     (Reg.ZON_U_TSTATE n, u.t.zipIdx.foldl (fun w x => w + x.1.state.code * 4 ^ x.2) 0)]
  else []

/-- GDA and GDB (10). -/
def State.levelsGuard (s : State) (b : Bool) : List (Field × Nat) :=
  if b then
    [(Reg.GDB_STATE_STATE, s.gdb.state.code), (Reg.GDB_STATE_PEER, flag (s.gdb.peer == .armed)),
     (Reg.GDB_STATE_ST_OK, flag s.gdb.stOk), (Reg.GDB_STATE_INTLK, flag s.guards.intlkClosed),
     (Reg.GDB_STATE_CLKSRC, flag s.pwr.fallback), (Reg.GDB_STATE_CAUSE, s.gdb.cause.code)]
  else
    [(Reg.GDA_STATE_STATE, s.gda.state.code), (Reg.GDA_STATE_PEER, flag (s.gda.peer == .armed)),
     (Reg.GDA_STATE_ST_OK, flag s.gda.stOk), (Reg.GDA_STATE_CAUSE, s.gda.cause.code)]

/-- RNG (11). -/
def State.levelsRng (s : State) (a : Nat) : List (Field × Nat) :=
  if a < 0x310400 then
    [(Reg.RNG_LPR, s.rng.lpr), (Reg.RNG_NS, s.rng.ns), (Reg.RNG_WROW, s.rng.wrow), (Reg.RNG_RETAINED, s.rng.rows.length),
     (Reg.RNG_GUARD_ROWS, s.rng.guardRows), (Reg.RNG_AVAIL, s.ringAvail)]
  else if a < 0x312000 then
    let k := (a - 0x310400) / 64
    let d := s.desc k
    [(Reg.RNG_D_NUM k, d.num), (Reg.RNG_D_STATE k, d.state.code), (Reg.RNG_D_MODE k, flag d.stream),
     (Reg.RNG_D_RESULT k, d.result.code), (Reg.RNG_D_SOURCE k, d.source), (Reg.RNG_D_ZONE k, d.zone % 256),
     (Reg.RNG_D_MAPN k, d.map.length), (Reg.RNG_D_FIRST k, d.first), (Reg.RNG_D_LAST k, d.last),
     (Reg.RNG_D_PRE_ROWS k, d.pre), (Reg.RNG_D_POST_ROWS k, d.post),
     (Reg.RNG_D_T_ROW k, if d.state = .free then 0 else d.trow.getD (2 ^ 48 - 1)), (Reg.RNG_D_NEXT_ROW k, d.next),
     (Reg.RNG_D_ROWS k, d.rows)]
  else
    let k := (a - 0x312000) / 64
    let j := (a - 0x312000) % 64 / 8
    match (s.desc k).map[j]? with
    | some e => [(Reg.RNG_MAP_ENTRY k j, e.word.toNat)]
    | none => []

/-- CMP (11). -/
def State.levelsCmp (s : State) (a : Nat) : List (Field × Nat) :=
  if a < 0x320400 then [(Reg.CMP_CTX_USED, (s.cmp.ctxs.filter (fun c => c.flow.isSome)).length)]
  else
    let k := (a - 0x320400) / 16
    let c := s.ctx k
    [(Reg.CMP_X_PRED k, c.pred), (Reg.CMP_X_BUSY k, flag c.flow.isSome), (Reg.CMP_X_STRIDE k, c.stride), (Reg.CMP_X_SEQ k, c.seq)]

/-- CVU (R339, 11). -/
def State.levelsCvu (s : State) (a : Nat) : List (Field × Nat) :=
  if a < 0x330100 then []
  else
    let k := (a - 0x330100) / 128
    let u := s.cvuUnit k
    let owned := s.rd Reg.CVU_OWN_UNITS / 2 ^ k % 2 == 1
    [(Reg.CVU_U_STATE k, if owned then 3 else match u.state with
        | .idle => 0 | .running => 1 | .done => 2),
     (Reg.CVU_U_MISMATCH k, flag u.mismatch), (Reg.CVU_U_RUN k, u.run.toNat), (Reg.CVU_U_COUNT k, u.count),
     (Reg.CVU_U_RESULT k, u.result.toNat)]

/-- DMC (12). -/
def State.levelsDmc (s : State) (a : Nat) : List (Field × Nat) :=
  if a = 0x300004 then (List.range 4).map (fun k => (Reg.DMC_STATE_SUB k, s.subCode k))
  else if a = 0x300014 then (List.range 8).map (fun i => (Reg.DMC_RATE_RATE i, ((s.subCh (i / 2)).ranks.getD (i % 2) {}).rate))
  else if a = 0x30003C then
    [(Reg.DMC_THROTTLED_IDS, bitsWhere 11 (fun i => s.dmc.subs.any (fun x => x.throttled.any (fun t => t.1 == i))))]
  else []

/-- REF (13). -/
def State.levelsRef (s : State) (a : Nat) : List (Field × Nat) :=
  if a < 0x520100 then
    [(Reg.REF_STATE_ACT, s.ref.act.code), (Reg.REF_STATE_ENTRY, s.ref.entry), (Reg.REF_STATE_RESTARTS, s.ref.restarts),
     (Reg.REF_STATE_INJ_PENDING, flag s.ref.injPending), (Reg.REF_OPEN_OPEN, bitsWhere 12 (fun c => (s.refChan c).openWire)),
     (Reg.REF_WIN_ABOVE, s.ref.above.toNat), (Reg.REF_WIN_BELOW, s.ref.below.toNat), (Reg.REF_SW_STATE_ON, s.ref.swOn.toNat),
     (Reg.REF_SW_STATE_FAULT, s.ref.swFault.toNat)]
  else if a < 0x520600 then
    let c := (a - 0x520100) / 64
    [(Reg.REF_C_REASON c, (s.refChan c).reason.code), (Reg.REF_C_GOOD c, (s.refChan c).good)]
  else []

/-- TIU (13). -/
def State.levelsTiu (s : State) (a : Nat) : List (Field × Nat) :=
  if a < 0x530100 then []
  else
    let u := (a - 0x530100) / 64
    [(Reg.TIU_U_STATE u, (s.tiuUnit u).state.code), (Reg.TIU_U_RATE_VALID u, flag (s.tiuUnit u).rateValid)]

/-- LAN (14). -/
def State.levelsLan (s : State) : List (Field × Nat) :=
  let c := s.lan.course
  (List.range 4).flatMap (fun n =>
      [(Reg.LAN_LANE_STATE n, (s.lane n).state.code), (Reg.LAN_LANE_PRE_TX n, flag (s.lane n).preTx),
       (Reg.LAN_LANE_PRE_RX n, flag (s.lane n).preRx), (Reg.LAN_LANE_SIGNAL n, flag (s.lane n).signal)])
    ++ [(Reg.LAN_PL_STATE_STATE, c.state.code), (Reg.LAN_PL_STATE_WIDTH, c.width), (Reg.LAN_PL_STATE_TX_QUIET, flag c.txQuiet),
        (Reg.LAN_PL_STATE_RX_QUIET, flag c.rxQuiet), (Reg.LAN_PL_STATE_UNACKED, c.retry.length),
        (Reg.LAN_PL_PEER_SERIAL, c.serial), (Reg.LAN_PL_PEER_CREDITS, c.credits)]

/-- ETH (R406, 14): the MACs, and the heads of their transmit timestamp FIFOs. -/
def State.levelsEth (s : State) (a : Nat) : List (Field × Nat) :=
  if a < 0x410100 then []
  else
    let m := (a - 0x410100) / 64
    let x := s.mac m
    let h := x.ts.headD (0, 0, 0)
    [(Reg.ETH_M_STATE m, x.state.code), (Reg.ETH_M_HI_SER m, flag x.hiSer), (Reg.ETH_M_TS_SEQID m, h.1),
     (Reg.ETH_M_TS_TYPE m, h.2.1), (Reg.ETH_M_TS_VALID m, flag (!x.ts.isEmpty)), (Reg.ETH_M_TS_TIME m, h.2.2)]

/-- KPE (15). -/
def State.levelsKpe (s : State) (a : Nat) : List (Field × Nat) :=
  if a = 0x420008 then
    [(Reg.KPE_STATE_SESSIONS, s.usedSessions.length), (Reg.KPE_STATE_OPERATORS, s.operators),
     (Reg.KPE_STATE_INFLIGHT, min 255 (s.kpe.sessions.foldl (fun n x => n + x.inflight.length) 0)),
     (Reg.KPE_STATE_SUBS_HI, (s.kpe.subs.filter (fun o => o.isSome)).length / 4)]
  else if a = 0x42000C then
    match s.kpe.claim with
    | some c => [(Reg.KPE_CLAIM_SESSION, c.session), (Reg.KPE_CLAIM_REMAIN, (c.time + 60 * sec - s.now) / sec)]
    | none => []
  else if 0x421000 ≤ a && a < 0x422000 then
    let n := (a - 0x421000) / 32
    let x := s.sess n
    let p := x.path
    [(Reg.KPE_S_STATE n, x.state.code), (Reg.KPE_S_OPERATOR n, flag x.operator), (Reg.KPE_S_DUAL n, flag x.dual),
     (Reg.KPE_S_PATH n, (p.map (fun k => k.mac)).getD 0), (Reg.KPE_S_INFLIGHT n, x.inflight.length),
     (Reg.KPE_S_SUBS n, if x.state = .free then 0 else (s.subsWhere (fun y => y.session == n)).length),
     (Reg.KPE_S_REMOTE_IP n, (p.map (fun k => k.ip)).getD 0)]
  else []

/-- MGC (16). -/
def State.levelsMgc (s : State) (a : Nat) : List (Field × Nat) :=
  if a = 0x500030 then [(Reg.MGC_GPIO_IN, bitsWhere 8 s.gpioPin)]
  else
    [(Reg.MGC_ALERT_SRC, s.alertSrc), (Reg.MGC_SLOT, s.upd.runSlot), (Reg.MGC_TRIAL, flag s.upd.runTrial),
     (Reg.MGC_TRIES, s.bootRecord.tries), (Reg.MGC_BOOTSEL, s.mgc.bootsel.toNat),
     (Reg.MGC_ROM_RECOVERY, flag (s.mgc.runs == .romRecovery))]

/-- SNS (R481, 16). -/
def State.levelsSns (s : State) : List (Field × Nat) :=
  (List.range 12).map (fun n => (Reg.SNS_WARN n, flag (s.sns.railWarn.getD n false)))

/-- EVR (16). -/
def State.levelsEvr (s : State) : List (Field × Nat) :=
  [(Reg.EVR_STATE_SEALED, flag s.evr.sealed), (Reg.EVR_STATE_ERASING, flag s.evr.erasing),
   (Reg.EVR_STATE_WAITING, s.evr.waiting.length), (Reg.EVR_OLDEST_SEQ, s.oldestSeq)]

/-- TIM (16). -/
def State.levelsTim (s : State) : List (Field × Nat) :=
  [(Reg.TIM_STATE_STATE, s.tim.state.code), (Reg.TIM_STATE_TIME_SET, flag s.tim.timeSet),
   (Reg.TIM_STATE_SLEWING, flag (s.tim.slew.any (fun x => decide (s.now < x.2)))), (Reg.TIM_TIME, s.devTime),
   (Reg.TIM_UPTIME, s.uptimeNs)]

/-- R504, R505 (16): the device's identity key, OTP words 32 to 39. -/
def State.idKey (s : State) : BitVec 256 :=
  BitVec.ofNat 256 ((List.range 8).foldl (fun n i => n + (s.otpWord (32 + i)).toNat * 2 ^ (32 * i)) 0)

/-- UPD (R504, R505, 16): the identity key's words read 0. -/
def State.levelsUpd (s : State) (a : Nat) : List (Field × Nat) :=
  if a < 0x560040 then [(Reg.UPD_ROLLBACK, s.rollback)]
  else if a < 0x560100 then
    let k := (a - 0x560040) / 4
    [(Reg.UPD_IDPUB k, (Config.idPublic s.idKey k).toNat)]
  else
    let k := (a - 0x560100) / 4
    [(Reg.UPD_OTP k, if 32 ≤ k && k < 40 then 0 else (s.otpWord k).toNat)]

/-- The fields of the window that holds `a` whose value stands outside the register words. -/
def State.levels (s : State) (a : Nat) : List (Field × Nat) :=
  match a / 0x10000 with
  | 0 => s.levelsChp
  | 16 => s.levelsPsq
  | 18 => s.levelsSrc a
  | 19 => s.levelsOcc
  | 20 => s.levelsCrx a
  | 22 => s.levelsCal
  | 23 => s.levelsGuard false
  | 33 => [(Reg.PCM_LOAD_MCPS, s.pcmLoad)]
  | 35 => s.levelsPfl a
  | 36 => s.levelsDts
  | 37 => s.levelsAar a
  | 38 => s.levelsZon a
  | 48 => s.levelsDmc a
  | 49 => s.levelsRng a
  | 50 => s.levelsCmp a
  | 51 => s.levelsCvu a
  | 64 => s.levelsLan
  | 65 => s.levelsEth a
  | 66 => s.levelsKpe a
  | 80 => s.levelsMgc a
  | 81 => s.levelsSns
  | 82 => s.levelsRef a
  | 83 => s.levelsTiu a
  | 84 => s.levelsEvr
  | 85 => s.levelsTim
  | 86 => s.levelsUpd a
  | 87 => s.levelsGuard true
  | _ => []

/-- The word at `a` with a field's value put over it. -/
def overlay (a : Nat) (w : Word) (x : Field × Nat) : Word :=
  if x.1.lo + x.1.width ≤ 32 then (if x.1.addr = a then x.1.put w x.2 else w)
  else if x.1.addr = a then BitVec.ofNat 32 x.2
  else if x.1.addr + 4 = a then BitVec.ofNat 32 (x.2 / 2 ^ 32 % 2 ^ (x.1.width - 32))
  else w

/-- R42 (02): the word that the register at the active plain address `a` holds, whoever reads it. -/
def State.word (s : State) (r : RegRow) (a : Nat) : Word :=
  (s.levels a).foldl (overlay a) (if r.tuned then s.tuned a else s.live a)

/-- R42, R44 (02): the word that a master reads: WO fields, and P fields for an OPEN master, read zero. -/
def State.readFields (s : State) (m : Master) (r : RegRow) (w : Word) : Word :=
  w &&& ~~~(RegRow.maskOf r (fun f => f.acc == .wo || (f.priv && !s.mayPriv m)))

/-! ### Snapshot shadows (R53, 02) -/

/-- R53 (02): the offsets of a window at which its counters are shadowed, by offset 0x3000 up; none: no shadow stands there. The
list of counters is each chapter's; a shadow stands at 0x3000 plus the counter's own offset. -/
def shadowOf (off : Nat) (block : Block) : Nat :=
  match block with
  | .zon =>
    if off < 0x3C40 then 0x1000 + (off - 0x3000) / 12 * 16 + (off - 0x3000) % 12
    else off - 0x3C00
  | .kpe =>
    if off < 0x3800 then 0x1010 + (off - 0x3000) / 16 * 32 + (off - 0x3000) % 16
    else off - 0x3800 + 0x40
  | _ => off - 0x3000

/-- The counters of a window that the snapshot copies: first offset, words, and the array they repeat in. -/
def counterSpans (b : Block) : List (Nat × Nat × Nat × Nat) :=
  match b with
  | .chp => [(0x44, 1, 0, 1), (0x74, 1, 0, 1), (0x80, 4, 0, 1), (0x94, 1, 0, 1)]
  | .psq => [(0x40, 9, 0, 1), (0x80, 8, 0, 1)]
  | .psy => [(0x54, 1, 0, 1)]
  | .src => [(0x12C, 3, 64, 5)]
  | .occ => [(0x10, 3, 0, 1)]
  | .crx => [(0x10, 6, 0, 1)]
  | .cal => [(0x100, 2, 128, 4)]
  | .chn => [(0x100, 2, 16, 8)]
  | .pcm => [(0x30, 2, 0, 1)]
  | .phs => [(0x20, 5, 0, 1), (0x80, 16, 0, 1)]
  | .pfl => [(0x10, 2, 0, 1), (0x20, 4, 0, 1), (0x30, 5, 0, 1), (0x50, 5, 0, 1)]
  | .rmx => [(0x10, 8, 0, 1)]
  | .dts => [(0x70, 4, 0, 1)]
  | .aar => [(0x10, 1, 0, 1), (0xC00, 8, 32, 32)]
  | .zon => [(0x40, 12, 0, 1), (0x1000, 3, 16, 256)]
  | .gda => [(0x40, 5, 0, 1)]
  | .gdb => [(0x40, 7, 0, 1)]
  | .rng => [(0x40, 7, 0, 1)]
  | .cmp => [(0x40, 6, 0, 1)]
  | .cvu => [(0x148, 1, 128, 8)]
  | .dmc => [(0x100, 12, 64, 4)]
  | .ref => [(0x90, 6, 0, 1), (0x128, 4, 64, 16)]
  | .tiu => [(0x130, 4, 64, 4)]
  | .lan => [(0x80, 9, 0, 1), (0x100, 5, 32, 4)]
  | .eth => [(0x400, 10, 64, 4)]
  | .kpe => [(0x40, 9, 0, 1), (0x1010, 4, 32, 128)]
  | .sns => [(0x80, 2, 0, 1)]
  | .evr => [(0x80, 4, 0, 1)]
  | .tim => [(0x80, 3, 0, 1)]
  | _ => []

/-- The snapshot copies the word at this offset of a block's window. -/
def isCounter (b : Block) (off : Nat) : Bool :=
  off % 4 == 0 && (counterSpans b).any (fun x =>
    if x.2.2.1 = 0 then decide (x.1 ≤ off) && decide (off < x.1 + 4 * x.2.1)
    else decide (x.1 ≤ off) && decide ((off - x.1) / x.2.2.1 < x.2.2.2) && decide ((off - x.1) % x.2.2.1 < 4 * x.2.1))

/-- The offset of the counter whose shadow stands at an offset from 0x3000 to 0x3FFF; none: no shadow stands there. -/
def shadowed (b : Block) (off : Nat) : Option Nat :=
  let k := shadowOf off b
  if isCounter b k then some k else none

/-- Every counter address that the snapshot copies. -/
def counterAddrs : List Nat :=
  allBlocks.flatMap (fun b =>
    let base := (Block.place b).1 * 0x100000 + (Block.place b).2 * 0x10000
    (counterSpans b).flatMap (fun x =>
      (List.range x.2.2.2).flatMap (fun i => (List.range x.2.1).map (fun j => base + x.1 + i * x.2.2.1 + 4 * j))))

/-- The counter at `a` copied into the shadows `st`. -/
def State.latchWord (s : State) (st : Store 32) (a : Nat) : Store 32 :=
  match Reg.rowAt a with
  | some r => Store.set st a (s.word r a)
  | none => st

/-- R53 (02): every counter is copied into its shadow. -/
def State.latchCounters (s : State) : State :=
  s.mapRegs (fun g => { g with snap := counterAddrs.foldl s.latchWord g.snap })

end Sys2Proof.Machine
end

