-- ==== Sys2Proof/Machine/Chip.lean ====
section
/-! DEFINITION. The chip level's rows (01, 02): cell errors and block faults (R18 to R22), SAFE (R25), the watchdog (R26, R519),
injection (R72) and the snapshot (R53 to R56). -/

namespace Sys2Proof.Machine

/-! ### Errors and restarts (R18 to R22) -/

/-- R18 (01): one more single-bit error corrected in a block. -/
def countCorrected (xs : List (Block × Nat)) (b : Block) : List (Block × Nat) :=
  if xs.any (fun x => x.1 == b) then xs.map (fun x => if x.1 = b then (b, x.2 + 1) else x) else xs ++ [(b, 1)]

/-- CELL_ERROR_DETECTED (R18, R63): a corrected error is counted; one that is not corrected is a fault of the block, and one in the stage
copy of memory slot `mem` is kept for CK01. -/
def execCellErrorDetected (b : Block) (u : Option Nat) (cause : Nat) (cell : Nat) (mem : Option Nat) (t : Instant) (s : State) :
    Host.Outcome State Fault Refusal :=
  let s := s.atT t
  if cause = 0xF0 then .next (s.mapChp (fun c => { c with corrected := countCorrected c.corrected b }))
  else
    let s := match mem with
      | some k => s.mapChp (fun c => { c with stageBad := if c.stageBad.contains k then c.stageBad else c.stageBad ++ [k] })
      | none => s
    .next (s.blockFault b u cause (cell % 2 ^ 16))

/-- BLOCK_FAULT (R19 to R23). -/
def execBlockFault (b : Block) (u : Option Nat) (cause : Nat) (detail : Nat) (t : Instant) (s : State) :
    Host.Outcome State Fault Refusal :=
  .next ((s.atT t).blockFault b u cause detail)

/-- R20, R22 (01): the isolation of a block or unit that restarts. -/
def State.restarting (s : State) (b : Block) (u : Option Nat) : Option Nat :=
  (s.chp.isolated.find? (fun i => i.block == b && i.unit == u)).bind (fun i => i.deadline)

/-- BLOCK_RESTART_READY (R22): a restarting block or unit is ready within its restart time: its isolation ends. -/
def execBlockRestartReady (b : Block) (u : Option Nat) (t : Instant) (s : State) : Host.Outcome State Fault Refusal :=
  let s := s.atT t
  match s.restarting b u with
  | some d =>
    if s.now ≤ d then
      let s := s.mapChp (fun c => { c with isolated := c.isolated.filter (fun i => !(i.block == b && i.unit == u)) })
      .next (s.readyEffect b u)
    else .next s
  | none => .next s

/-- RESTART_FAILED (R21): no ready within the restart time: the block stays isolated without restart, and the code escalates. -/
def execRestartFailed (b : Block) (u : Option Nat) (t : Instant) (s : State) : Host.Outcome State Fault Refusal :=
  let s := s.atT t
  match s.restarting b u with
  | some d =>
    if d < s.now then
      let s := s.mapChp (fun c => { c with
        isolated := c.isolated.map (fun i => if i.block = b && i.unit = u then { i with deadline := none } else i) })
      .next (s.escalate (errCode b 0xF5) 0)
    else .next s
  | none => .next s

/-! ### SAFE (R25) -/

/-- SAFE_CLEAR (R25, R27): within 1 s of entry, or in RECOVERY, and with nothing isolated; the light does not return. -/
def execSafeClear (t : Instant) (s : State) : Host.Outcome State Fault Refusal :=
  let s := s.atT t
  if s.chp.safe && s.chp.isolated.isEmpty && (s.now ≤ s.chp.safeSince + sec || s.chp.mode = .recovery) then
    let s := s.mapChp (fun c => { c with safe := false, errSeen := false })
    .next (((s.causeGone [Reg.CHP_CHIP_STAT_SAFE]).wr Reg.CHP_ERR_FIRST_CODE 0).wr Reg.CHP_ERR_COUNT_COUNT 0)
  else .next s

/-- R519, R520 (17): the mode goes to RECOVERY; out of BOOT, where no image runs, under the boot ROM's recovery service. -/
def State.toRecovery (s : State) : State :=
  if s.chp.mode = .recovery then s
  else if s.chp.mode = .boot then
    let r := s.bootRecord
    ((s.runImage none false).recordBoot r.active r.trial r.tries s.pwr.cause).setMode .recovery
  else s.setMode .recovery

/-- SAFE_TIMEOUT (R25): SAFE has not been cleared within 1 s of its entry. -/
def execSafeTimeout (t : Instant) (s : State) : Host.Outcome State Fault Refusal :=
  let s := s.atT t
  if s.chp.safe && s.chp.safeSince + sec < s.now then .next s.toRecovery else .next s

/-! ### The watchdog (R26, R475, R519) -/

/-- R475 (16): the watchdog's period. -/
def State.watchdogPeriod (s : State) : Nat := (if s.chp.mode = .boot then 2000 else max 1 (s.rd Reg.MGC_PERIOD_MS)) * ms

/-- R516 (17): the Morsen core and MGC are reset. -/
def State.resetMorsen (s : State) : State :=
  let s := s.mapRegs (fun r => { r with
    live := Store.drop r.live 0x500000 0x510000, causes := Store.drop r.causes 0x500000 0x510000 })
  let s := s.mapMgc (fun g => { g with kickAt := s.now, runs := .bootRom, secure := false })
  s.mapPwr (fun p => { p with bootAct := .none })

/-- R519 (17): the boot ROM runs the slot that was running, or the other, or its recovery service, and changes no boot record; the BOOT
record carries cause 8. -/
def State.watchdogBoot (s : State) : State :=
  let k := s.upd.runSlot
  let r := s.bootRecord
  let s := if s.chp.mode = .recovery then s else s.setMode .recovery
  if s.imageValid k then (s.runImage (some k) s.upd.runTrial).recordBoot k r.trial r.tries .watchdog
  else if s.imageValid (1 - k) then (s.runImage (some (1 - k)) false).recordBoot (1 - k) r.trial r.tries .watchdog
  else (s.runImage none false).recordBoot r.active r.trial r.tries .watchdog

/-- WATCHDOG_EXPIRY (R26, R519): the code 0xA0F7 escalates, and the Morsen core restarts in RECOVERY. -/
def execWatchdogExpiry (t : Instant) (s : State) : Host.Outcome State Fault Refusal :=
  let s := s.atT t
  if !s.pwr.inReset && s.mgc.kickAt + s.watchdogPeriod ≤ s.now then
    .next ((s.escalate (errCode .mgc 0xF7) 0).resetMorsen.watchdogBoot)
  else .next s

/-! ### Injection (R31, R72) -/

/-- CHP.INJECT (02): a write of CODE, and of GO: in TEST only, elsewhere counted as denied. -/
def State.injectWrite (s : State) (code : Nat) (go : Bool) : State :=
  if s.chp.mode != .test then s.denyPriv
  else
    let s := s.wr Reg.CHP_INJECT_CODE code
    let c := code % 2 ^ 16
    if !go then s
    else if (blockAt (c / 2 ^ 13) (c / 2 ^ 8 % 32)).isSome then
      (s.wr Reg.CHP_INJECT_BAD 0).mapChp (fun x => { x with inject := some c })
    else s.wr Reg.CHP_INJECT_BAD 1

/-- INJECT_GO (R72). -/
def execInjectGo (m : Master) (code : Nat) (t : Instant) (s : State) : Host.Outcome State Fault Refusal :=
  .next ((s.atT t).strobe m .chp none false (fun s => s.injectWrite code true))

/-- INJECTION_TAKEN (R20, R31, R72): the block takes the error as its own, with cause INJECTED; `u`: the unit that takes it, in a block that
restarts by unit. -/
def execInjectionTaken (u : Option Nat) (t : Instant) (s : State) : Host.Outcome State Fault Refusal :=
  let s := s.atT t
  match s.chp.inject with
  | some c =>
    let s := s.mapChp (fun x => { x with inject := none })
    match blockAt (c / 2 ^ 13) (c / 2 ^ 8 % 32) with
    | some b => .next (s.blockFault b u 0xFE 0)
    | none => .next s
  | none => .next s

/-! ### The snapshot (R53 to R56) -/

/-- R53, R55 (02): a snapshot is requested; requests merge. -/
def State.snapRequest (s : State) : State := s.mapChp (fun c => { c with snapReq := c.snapReq.or (some s.now) })

/-- SNAPSHOT_REQUEST (R45, R53): a write of one to SNAP_CTL.REQ, by any master. -/
def execSnapshotRequest (m : Master) (t : Instant) (s : State) : Host.Outcome State Fault Refusal :=
  let s := s.atT t
  let s := if s.mayPriv m then s else s.denyPriv
  .next (s.poke .chp none State.snapRequest)

/-- SNAPSHOT_PERIOD (R56): PERIOD sweeps after the previous snapshot's. -/
def execSnapshotPeriod (t : Instant) (s : State) : Host.Outcome State Fault Refusal :=
  let s := s.atT t
  let p := s.rd Reg.CHP_SNAP_CTL_PERIOD
  if p != 0 && s.chp.snapFrom + p ≤ s.sweep && s.chp.snapBusy.isNone then .next s.snapRequest else .next s

/-- R53 (02): the boundary at which a request of instant `r` is taken now: the latest one, at least 2 µs after it and at most 1 µs ago; with
no tab running, now. -/
def State.snapBoundary (s : State) (r : Nat) : Option Nat :=
  if s.psq.state = .running then
    match s.guards.lastBoundary with
    | some b => if r + 2 * us ≤ b.1 && b.1 ≤ s.now && s.now ≤ b.1 + us then some b.1 else none
    | none => none
  else some s.now

/-- SNAPSHOT_TAKE (R53 to R55): the shadows take the counters; SNAP_SEQ is odd from here. -/
def execSnapshotTake (t : Instant) (s : State) : Host.Outcome State Fault Refusal :=
  let s := s.atT t
  if s.chp.snapHeld.isSome || s.chp.snapBusy.isSome then .next s
  else
    match s.chp.snapReq.bind s.snapBoundary with
    | some b =>
      let q := s.rd Reg.CHP_SNAP_SEQ_SEQ
      let s := (s.wr Reg.CHP_SNAP_SEQ_SEQ (if q % 2 = 0 then (q + 1) % 2 ^ 32 else q)).wr Reg.CHP_SNAP_SWEEP_SWEEP s.sweep
      let s := s.mapChp (fun c => { c with snapReq := none, snapBusy := some b, snapFrom := s.sweep })
      .next s.latchCounters
    | none => .next s

/-- SNAPSHOT_COMPLETE (R54): every unit has latched, within 10 µs of the boundary: SNAP_SEQ is even, and the snapshot is held. -/
def execSnapshotComplete (t : Instant) (s : State) : Host.Outcome State Fault Refusal :=
  let s := s.atT t
  match s.chp.snapBusy with
  | some b =>
    if s.now < b + 10 * us then
      let s := s.wr Reg.CHP_SNAP_SEQ_SEQ ((s.rd Reg.CHP_SNAP_SEQ_SEQ + 1) % 2 ^ 32)
      .next ((s.mapChp (fun c => { c with snapBusy := none, snapHeld := some s.now })).event [Reg.CHP_CHIP_STAT_SNAP_DONE])
    else .next s
  | none => .next s

/-- SNAP_TIMEOUT (R56, R72): not complete within 10 µs of its boundary: SNAP_SEQ stays odd. -/
def execSnapTimeout (t : Instant) (s : State) : Host.Outcome State Fault Refusal :=
  let s := s.atT t
  match s.chp.snapBusy with
  | some b =>
    if b + 10 * us ≤ s.now then
      .next ((s.mapChp (fun c => { c with snapBusy := none })).escalateFault .chp 2 0)
    else .next s
  | none => .next s

/-- R55 (02): the snapshot is held no longer: a pending request is taken at the first boundary from now on. -/
def State.snapFree (s : State) : State :=
  s.mapChp (fun c => { c with snapHeld := none, snapReq := c.snapReq.map (fun r => max r (s.now - 2 * us)) })

/-- R55 (02): a write of SNAP_REL. -/
def State.snapRelease (s : State) (v : Word) : State :=
  if s.chp.snapHeld.isSome && v.toNat = s.rd Reg.CHP_SNAP_SEQ_SEQ then s.snapFree else s

/-- SNAPSHOT_RELEASE (R45, R55): by any master. -/
def execSnapshotRelease (m : Master) (v : Word) (t : Instant) (s : State) : Host.Outcome State Fault Refusal :=
  let _ := m
  .next ((s.atT t).poke .chp none (fun s => s.snapRelease v))

/-- SNAPSHOT_HOLD_EXPIRY (R55). -/
def execSnapshotHoldExpiry (t : Instant) (s : State) : Host.Outcome State Fault Refusal :=
  let s := s.atT t
  match s.chp.snapHeld with
  | some h => if h + max 1 (s.rd Reg.CHP_SNAP_HOLD_MS) * ms ≤ s.now then .next s.snapFree else .next s
  | none => .next s

end Sys2Proof.Machine
end

