-- ==== Sys2Proof/Machine/Sequencer.lean ====
section
/-! DEFINITION. The rows of PSQ and PSY (03). -/

namespace Sys2Proof.Machine

/-- START (R92, R87, R70, R186): refused while RUNNING, outside SERVICE and TEST and in SAFE; else the tab starts at
ENTRY.START, after a pending Retune that is due at the next sweep has switched. -/
def State.startTab (s : State) : State :=
  if s.psq.state = .running || (s.chp.mode != .service && s.chp.mode != .test) || s.chp.safe then
    s.event [Reg.PSQ_STAT_CMD_REFUSED]
  else
    let n := (s.sweep + 1) % 2 ^ 48
    let s := if s.retuneIsDue n s.now then s.clipToNow.retune n 0 else s
    let entry := s.rd Reg.PSQ_ENTRY_START
    let period := s.rd Reg.PSQ_PERIOD_TICKS
    let s := s.mapPsq (fun p => { p with
      state := .running, haltCause := .none, pc := entry, tick0 := tickUp s.now, issue := 0, first := true
      wait := none, haltAtSwb := none, haltAtFetch := none, loops := [0, 0, 0, 0], pat := 0, period := period
      late := false, raman := false, fired := [], syncEdge := none })
    s.mapPfl (fun p => { p with resetAtLook := true, haltReported := false })

/-- START, R92. -/
def execStart (m : Master) (t : Instant) (s : State) : Host.Outcome State Fault Refusal :=
  .next ((s.atT t).strobe m .psq none false State.startTab)

/-- HALT_SWEEP, R94. -/
def execHaltSweep (m : Master) (t : Instant) (s : State) : Host.Outcome State Fault Refusal :=
  .next ((s.atT t).strobe m .psq none false (fun s => s.haltSweepEnd .sweepCmd))

/-- HALT_NOW, R93. -/
def execHaltNow (m : Master) (t : Instant) (s : State) : Host.Outcome State Fault Refusal :=
  .next ((s.atT t).strobe m .psq none false (fun s => s.haltNow .nowCmd))

/-! ### Tab instructions (R81 to R88) -/

/-- NOP, R81. -/
def execTabNop (s : State) : Host.Outcome State Fault Refusal := .next (s.tabStep true 0 (fun s => s.tabNext 1))

/-- WAIT, R81: max(N, 1) ticks. -/
def execTabWait (n : Nat) (s : State) : Host.Outcome State Fault Refusal :=
  .next (s.tabStep (n < 2 ^ 20) (2 ^ 26 + n) (fun s => s.tabNext (max n 1)))

/-- WAITU, R83. -/
def execTabWaitu (target : Nat) (s : State) : Host.Outcome State Fault Refusal :=
  .next (s.tabStep (target < 2 ^ 20) (2 * 2 ^ 26 + target) (fun s =>
    let u := s.psq.issue
    let s := s.tabNext (if u < target then target - u else 1)
    if target < u then
      ((s.mapPsq (fun p => { p with late := true })).event [Reg.PSQ_STAT_LATE]).bump Reg.PSQ_LATE_CNT
    else s))

/-- FIRE, R84. -/
def execTabFire (slot : Nat) (shape : Nat) (sub : Nat) (s : State) : Host.Outcome State Fault Refusal :=
  .next (s.tabStep (slot < 8 && shape < 16 && sub < 8) (4 * 2 ^ 26 + slot * 2 ^ 23 + shape * 2 ^ 19 + sub * 2 ^ 16) (fun s =>
    let s := if !s.on (Reg.PSY_SLOT_EN slot) then (s.event [Reg.PSQ_STAT_FIRE_INACTIVE]).bump Reg.PSQ_INACTIVE_CNT
      else if s.psq.probes.any (fun p => p.slot == slot && decide (s.pinAt sub < p.endAt)) then
        (s.event [Reg.PSQ_STAT_SLOT_BUSY]).bump Reg.PSQ_BUSY_CNT
      else s.openLook slot shape sub
    s.tabNext 1))

/-- GATE, R85: the gate opens, or stays open to the later closing; WIDTH 0 closes it. -/
def execTabGate (sub : Nat) (width : Nat) (s : State) : Host.Outcome State Fault Refusal :=
  .next (s.tabStep (sub < 8 && width < 2 ^ 16) (5 * 2 ^ 26 + sub * 2 ^ 16 + width) (fun s =>
    let pin := s.pinAt sub
    let stop := pin + width * subTick
    let s := s.mapPsq (fun p => { p with
      gate := match p.gate with
        | some (o, c) =>
          if pin < c then (if width = 0 then some (o, pin) else some (o, max c stop))
          else if width = 0 then none else some (pin, stop)
        | none => if width = 0 then none else some (pin, stop) })
    s.tabNext 1))

/-- RAMAN, R86. -/
def execTabRaman (sub : Nat) (s : State) : Host.Outcome State Fault Refusal :=
  .next (s.tabStep (sub < 8) (6 * 2 ^ 26 + sub * 2 ^ 16) (fun s =>
    let pin := s.pinAt sub
    let s := if s.psq.raman then (s.event [Reg.PSQ_STAT_RAMAN_EXTRA]).bump Reg.PSQ_RAMAN_X_CNT
      else
        let w := max 1 (s.rd Reg.PSY_RAMAN_WIDTH)
        let s := s.mapPsq (fun p => { p with raman := true, ramanEnd := pin + w * subTick })
        s.mapRmx (fun r => { r with triggers := ((pin, s.sweep) :: r.triggers).take 8 })
    s.tabNext 1))

/-- SWB, R88, R90: it waits for its boundary; a timer that has passed PERIOD is a long sweep. -/
def execTabSwb (pat : Nat) (s : State) : Host.Outcome State Fault Refusal :=
  .next (s.tabStep (pat < 16) (8 * 2 ^ 26 + pat) (fun s =>
    let u := s.psq.issue
    let per := s.psq.period
    if s.following then
      match s.psq.syncEdge with
      | some e =>
        let k := (e - s.psq.tick0 + tick - 1) / tick
        s.mapPsq (fun p => { p with wait := some { pat := pat, tick := max u k, follower := false } })
      | none => s.mapPsq (fun p => { p with wait := some { pat := pat, tick := u, follower := true } })
    else if s.psq.first then
      s.mapPsq (fun p => { p with wait := some { pat := pat, tick := u, follower := false } })
    else
      let s := if per < u then (s.event [Reg.PSQ_STAT_SWEEP_LONG]).bump Reg.PSQ_LONG_CNT else s
      s.mapPsq (fun p => { p with wait := some { pat := pat, tick := max u per, follower := false } })))

/-- SETC, R87. -/
def execTabSetc (k : Nat) (n : Nat) (s : State) : Host.Outcome State Fault Refusal :=
  .next (s.tabStep (k < 4 && n < 2 ^ 16) (0x10 * 2 ^ 26 + k * 2 ^ 16 + n) (fun s =>
    (s.mapPsq (fun p => { p with loops := modAt p.loops k (fun _ => BitVec.ofNat 16 n) })).tabNext 1))

/-- DJNZ, R87. -/
def execTabDjnz (k : Nat) (target : Nat) (s : State) : Host.Outcome State Fault Refusal :=
  .next (s.tabStep (k < 4 && target < 4096) (0x11 * 2 ^ 26 + k * 2 ^ 16 + target) (fun s =>
    let c : BitVec 16 := s.psq.loops.getD k 0 - 1
    let s := s.mapPsq (fun p => { p with loops := modAt p.loops k (fun _ => c) })
    if c = 0 then s.tabNext 1 else s.tabBranch target))

/-- JMP, R81. -/
def execTabJmp (target : Nat) (s : State) : Host.Outcome State Fault Refusal :=
  .next (s.tabStep (target < 4096) (0x12 * 2 ^ 26 + target) (fun s => s.tabBranch target))

/-- EVT, R87. -/
def execTabEvt (code : Nat) (s : State) : Host.Outcome State Fault Refusal :=
  .next (s.tabStep (code < 256) (0x18 * 2 ^ 26 + code) (fun s =>
    (((s.wr Reg.PSQ_EVT_CODE_CODE code).event [Reg.PSQ_STAT_TAB_EVT]).bump Reg.PSQ_EVT_CNT).tabNext 1))

/-- HALT with B = 0, R93: it stops the tab at issue. -/
def execTabHalt (s : State) : Host.Outcome State Fault Refusal :=
  .next (s.tabStep true (0x3F * 2 ^ 26) (fun s => s.haltTab .halt0 true))

/-- HALT with B = 1, R94: once the sweep timer has reached PERIOD the tab stops, and the sweep has ended whole. -/
def execHaltWaitPeriod (t : Instant) (s : State) : Host.Outcome State Fault Refusal :=
  let s := s.tabStep true (0x3F * 2 ^ 26 + 1) (fun s => s)
  let stop := s.psq.tick0 + max s.psq.issue s.psq.period * tick
  if s.psq.state = .running && s.psq.wait.isNone && s.tabWord = 0x3F * 2 ^ 26 + 1 && stop ≤ t then
    .next ((s.advance stop).learnSweep.haltTab .halt1 false)
  else .next s

/-- UNDEF_FETCH, R82, R104. -/
def execUndefFetch (s : State) : Host.Outcome State Fault Refusal :=
  match s.nextFetch with
  | none => .next s
  | some t =>
    let s := (s.atT t).tuneIfDue
    if s.psq.state = .running && !tabDefined s.tabWord then .next (s.blockFault .psq none 1 0) else .next s

/-! ### Boundaries, probes, gates and plucks -/

/-- SWEEP_BOUNDARY, R88: the timer has reached the tick of the SWB that waits. -/
def execSweepBoundary (t : Instant) (s : State) : Host.Outcome State Fault Refusal :=
  match s.psq.wait with
  | some w =>
    let b := s.boundaryAt w
    if s.psq.state = .running && (!w.follower || s.psq.haltAtSwb.isSome) && b ≤ t then
      .next ((s.atT b).takeBoundary w b)
    else .next (s.atT t)
  | none => .next (s.atT t)

/-- SYNC_IN_EDGE, R90: the first edge from PERIOD − 320 on sets the boundary and the residue. -/
def execSyncInEdge (t : Instant) (s : State) : Host.Outcome State Fault Refusal :=
  let s := s.atT t
  if s.psq.state = .running && s.following && s.psq.syncEdge.isNone
      && s.psq.tick0 + (s.psq.period - 320) * tick ≤ t then
    let e := t - s.psq.tick0
    let s := (s.wr Reg.PSQ_SYNC_RES_SUB (e % tick / subTick)).mapPsq (fun p => { p with syncEdge := some t })
    .next (s.mapPsq (fun p => { p with
      wait := p.wait.map (fun w => if w.follower then
        { w with tick := max w.tick ((e + tick - 1) / tick), follower := false } else w) }))
  else .next s

/-- SYNC_MISS, R90: no edge has come by PERIOD + 320 ticks: the boundary is taken there, or at issue where the SWB came
later. -/
def execSyncMiss (t : Instant) (s : State) : Host.Outcome State Fault Refusal :=
  match s.psq.wait with
  | some w =>
    let b := s.psq.tick0 + max w.tick (s.psq.period + 320) * tick
    if s.psq.state = .running && w.follower && s.psq.haltAtSwb.isNone && b ≤ t then
      let s := ((s.atT b).event [Reg.PSQ_STAT_SYNC_MISS]).bump Reg.PSQ_SYNC_MISS_CNT
      .next (s.takeBoundary w b)
    else .next (s.atT t)
  | none => .next (s.atT t)

/-- PROBE_EMISSION_END, R84, R100. -/
def execProbeEmissionEnd (slot : Nat) (t : Instant) (s : State) : Host.Outcome State Fault Refusal :=
  let s := s.atT t
  if s.psq.probes.any (fun p => p.slot == slot && decide (p.endAt ≤ s.now)) then
    let s := s.clipToNow
    .next (s.mapPsq (fun p => { p with probes := dropProbe p.probes slot s.now }))
  else .next s

/-- TAB_GATE_CLOSE, R85. -/
def execTabGateClose (t : Instant) (s : State) : Host.Outcome State Fault Refusal :=
  let s := s.atT t
  .next (s.mapPsq (fun p => { p with
    gate := p.gate.bind (fun g => if g.2 ≤ s.now then none else some g)
    gateShut := match p.gate with
      | some g => if g.2 ≤ s.now then max p.gateShut g.2 else p.gateShut
      | none => p.gateShut }))

/-- R75 (03): the earliest open look of a slot whose window has ended is over; its tag stays for 10 ms for the samples that are
still in the signal region (the model's own bound, log entry 21). -/
def endLook (ls : List Look) (slot now : Nat) : List Look :=
  match ls with
  | [] => []
  | l :: r =>
    if l.slot = slot && !l.ended && l.windowEnd ≤ now then { l with ended := true } :: r else l :: endLook r slot now

/-- LOOK_WINDOW_END, R75. -/
def execLookWindowEnd (slot : Nat) (t : Instant) (s : State) : Host.Outcome State Fault Refusal :=
  let s := s.atT t
  .next (s.mapPsq (fun p => { p with
    looks := (endLook p.looks slot s.now).filter (fun l => !(l.ended && l.windowEnd + 10 * ms ≤ s.now)) }))

/-- R102 (03): a pluck request, accepted or refused with its code. -/
def State.pluckRequest (s : State) (slot shape scale : Nat) : State :=
  let c := s.pluckCode slot shape scale
  let s := s.wr Reg.PSQ_PLUCK_RES_CODE c
  if c = 0 then s.beginPluck slot shape scale false else s.event [Reg.PSQ_STAT_PLUCK_REFUSED]

/-- R102 (03): a write of PSQ.PLUCK with GO: SLOT, SHAPE and SCALE are stored. -/
def State.pluckGo (s : State) (slot shape scale : Nat) : State :=
  (((s.wr Reg.PSQ_PLUCK_SLOT slot).wr Reg.PSQ_PLUCK_SHAPE shape).wr Reg.PSQ_PLUCK_SCALE scale).pluckRequest slot shape scale

/-- PLUCK_GO, R102: the request is accepted or refused with its code; a write stores SLOT, SHAPE and SCALE. -/
def execPluckGo (m : Master) (slot : Nat) (shape : Nat) (scale : Nat) (t : Instant) (s : State) :
    Host.Outcome State Fault Refusal :=
  .next ((s.atT t).strobe m .psq none false (fun s => s.pluckGo (slot % 8) (shape % 16) (scale % 256)))

/-- PLUCK_FIRE, R103. -/
def execPluckFire (t : Instant) (s : State) : Host.Outcome State Fault Refusal :=
  let s := s.atT t
  match s.psq.pluck with
  | some k => if !k.fired && k.fireAt ≤ s.now then .next (s.firePluck k) else .next s
  | none => .next s

/-- PLUCK_GATE_CLOSE, R103. -/
def execPluckGateClose (t : Instant) (s : State) : Host.Outcome State Fault Refusal :=
  let s := s.atT t
  match s.psq.pluck with
  | some k =>
    if k.closeAt ≤ s.now then .next (s.mapPsq (fun p => { p with
      pluck := some { k with gateClosed := true }, gateShut := max p.gateShut k.closeAt }))
    else .next s
  | none => .next s

/-- PLUCK_DONE, R102. -/
def execPluckDone (t : Instant) (s : State) : Host.Outcome State Fault Refusal :=
  let s := s.atT t
  match s.psq.pluck with
  | some k =>
    if !k.restart && k.fired && k.windowEnd ≤ s.now then
      .next (((s.mapPsq (fun p => { p with pluck := none })).event [Reg.PSQ_STAT_PLUCK_DONE]).bump Reg.PSQ_PLUCK_CNT)
    else .next s
  | none => .next s

end Sys2Proof.Machine
end

