-- ==== Sys2Proof/Machine/Bus.lean ====
section
/-! DEFINITION. The register space as its masters see it (R36 to R52, R59, R62, R570, R571, 01 and 02): addresses, reads, plain and
flavoured writes, 64-bit shadows, stage-view and memory accesses; and the rows that access it. -/

namespace Sys2Proof.Machine

/-! ### Addresses (R36, R37, R40) -/

/-- What stands at a bus address. -/
inductive Place where
  /-- a register: its row, its active plain address, its block, the access flavour, and whether by the stage view -/
  | reg (r : RegRow) (a : Nat) (b : Block) (flavour : Nat) (stage : Bool)
  /-- a snapshot shadow: the counter's active plain address -/
  | shadow (a : Nat) (b : Block) (flavour : Nat) (stage : Bool)
  /-- a byte address of a memory: slot and offset, and whether of the stage copy -/
  | mem (slot off : Nat) (stage : Bool)
  deriving DecidableEq, Repr

/-- R37 (02): the register or shadow at an address of the active windows, through any alias. -/
def regPlace (x : Nat) (stage : Bool) : Option Place :=
  match blockAt (x / 0x100000) (x / 0x10000 % 16) with
  | none => none
  | some b =>
    let base := x / 0x10000 * 0x10000
    let off := x % 0x4000
    let fl := x % 0x10000 / 0x4000
    if 0x3000 ≤ off then (shadowed b off).map (fun o => .shadow (base + o) b fl stage)
    else (Reg.rowAt (base + off)).map (fun r => .reg r (base + off) b fl stage)

/-- R36, R40 (02): what stands at a bus address; none: the access completes with BUS_ERROR. -/
def placeOf (addr : Nat) : Option Place :=
  if addr % 4 != 0 then none
  else if addr < 0x580000 then regPlace addr false
  else if 0x800000 ≤ addr && addr < 0xD80000 then regPlace (addr - 0x800000) true
  else if 0x1000000 ≤ addr && addr < 0x9000000 then
    let off := addr % 0x800000
    let slot := addr / 0x1000000
    if off < slotSize slot then some (.mem slot off (addr % 0x1000000 != off)) else none
  else none

/-- R20, R22 (01): the unit whose own register stands at the active plain address `a`, in a block that restarts by unit. -/
def regUnit (a : Nat) : Option Nat :=
  match a / 0x10000 with
  | 20 => if 0x140010 ≤ a && a < 0x140020 then some ((a - 0x140010) / 4) else none
  | 37 => if 0x250C00 ≤ a then some ((a - 0x250C00) / 32) else if 0x250400 ≤ a then some ((a - 0x250400) / 64) else none
  | 38 => if 0x261000 ≤ a then some ((a - 0x261000) / 16) else none
  | 51 => if 0x330100 ≤ a then some ((a - 0x330100) / 128) else none
  | 65 => if 0x410400 ≤ a then some ((a - 0x410400) / 128) else if 0x410100 ≤ a then some ((a - 0x410100) / 128) else none
  | 66 => if 0x421000 ≤ a then some ((a - 0x421000) / 32) else none
  | _ => none

/-- R570 (01): every field of the register has access code ST, LV or RO. -/
def statusOnly (r : RegRow) : Bool := r.fields.all (fun f => f.acc == .st || f.acc == .lv || f.acc == .ro)

/-- R20, R570 (01): the access is refused because its block or unit is isolated. -/
def State.placeGone (s : State) (p : Place) (write : Bool) : Bool :=
  match p with
  | .reg r a b fl stage =>
    s.isolatedAt b (regUnit a) && (!statusOnly r || stage || (write && (fl != 0 || !isStatusRow r)))
  | .shadow _ b _ stage => s.isolated b && (stage || write)
  | .mem slot off stage =>
    s.isolatedAt (slotBlock slot off).1 (slotBlock slot off).2 || ((stage || write) && s.stageMemGone slot off)

/-! ### 64-bit shadows (R51, R52) -/

/-- R51 (02): a master's shadow. -/
def State.shadowAt (s : State) (m : Master) : Option Shadow := s.chp.shadows.find? (fun x => x.master == m)

/-- R51 (02): a master's shadow filled, or left empty. -/
def State.setShadow (s : State) (m : Master) (x : Option Shadow) : State :=
  s.mapChp (fun c => { c with shadows := c.shadows.filter (fun y => y.master != m) ++ x.toList })

/-- R51 (02): the value that a master's shadow holds of this kind for the register whose low word is at `a`. -/
def State.shadowOf (s : State) (m : Master) (a : Nat) (k : ShadowKind) : Option Word :=
  (s.shadowAt m).bind (fun x => if x.tag = a && x.kind = k then some x.value else none)

/-! ### Reads (R42, R44, R51, R62) -/

/-- R478 (16): JTAG on a debug-locked part. -/
def State.jtagShut (s : State) (m : Master) : Bool := m == .jtag && s.jtagLocked

/-- R42, R44 (02): what a read of the register at `a` returns its master. -/
def State.seen (s : State) (m : Master) (a : Nat) : Word :=
  match Reg.rowAt a with
  | some r => s.readFields m r (s.word r a)
  | none => 0

/-- R51 (02): a read of a register in the active view. -/
def State.readReg (s : State) (m : Master) (r : RegRow) (a : Nat) : State :=
  let w := s.readFields m r (s.word r a)
  if r.half = 1 then (s.setShadow m (some { master := m, tag := a, kind := .read, value := s.seen m (a + 4) })).answer w
  else if r.half = 2 then (s.setShadow m none).answer ((s.shadowOf m (a - 4) .read).getD w)
  else s.answer w

/-- R62 (02): a stage-view access to a register that is not tuned is counted. -/
def State.stageMiss (s : State) : State := s.bump Reg.CHP_STAGE_CNT_MISS

/-- R42, R62 (02): a read of a register through the stage view. -/
def State.readStage (s : State) (m : Master) (r : RegRow) (a : Nat) : State :=
  if r.tuned then s.answer (s.readFields m r (s.stageWord a)) else s.stageMiss.answer 0

/-- R40, R41, R44 (02): a read of a memory word. -/
def State.readMem (s : State) (m : Master) (slot off : Nat) (stage : Bool) : State :=
  if slot = 3 && !s.mayPriv m then s.answer 0
  else if stage then s.answer (Store.word s.mems.stage (slot * 0x1000000 + off))
  else if slot = 6 then s.answer (Store.word (s.core (off / 0x40000)).mem (off % 0x40000))
  else s.answer (Store.word s.mems.act (slot * 0x1000000 + off))

/-- R36 (02): a read of the word at a bus address by a master. -/
def State.readWord (s : State) (m : Master) (addr : Nat) : State :=
  match placeOf addr with
  | none => s.busErr
  | some p =>
    if s.placeGone p false then s.busErr
    else if s.jtagShut m then s.answer 0
    else
      match p with
      | .reg r a _ _ stage => if stage then s.readStage m r a else s.readReg m r a
      | .shadow a _ _ stage => if stage then s.stageMiss.answer 0 else s.answer (Store.get s.regs.snap a)
      | .mem slot off stage => s.readMem m slot off stage

/-! ### What a write brings about (the maps' WO fields, and RW fields that act) -/

/-- Bit `n` of a word. -/
def hasBit (v : Word) (n : Nat) : Bool := v.toNat / 2 ^ n % 2 == 1

/-- The commands of a word, one for each bit that is set, in bit order. -/
def State.eachBit (s : State) (v : Word) (cs : List (Nat × (State → State))) : State :=
  cs.foldl (fun s c => if hasBit v c.1 then c.2 s else s) s

/-- What comes before a write to the register at `a`: the DACs' samples up to now are counted with the present DAC_EN (R101), device
time is set down before its rate changes (R485), and the low half of a CVU unit's RUN is the running value's. -/
def State.beforeWrite (s : State) (a : Nat) : State :=
  if a = 0x11004C then s.clipToNow
  else if a = 0x550000 || a = 0x550038 then s.rebaseTime
  else if a / 0x10000 = 51 && 0x330100 ≤ a && a % 128 = 0x2C then
    s.setLive (a - 4) ((s.cvuUnit ((a - 0x330100) / 128)).run.setWidth 32)
  else s

/-- R485 to R487 (16): after a write of MODE and SLEW_PPM: what is left of a slew goes at the new rate, and with a change of MODE the
servo acquires in MODE 1, and elsewhere device time is free. -/
def State.timMode (s : State) (was : Nat) : State :=
  let ppm := max 1 (s.rd Reg.TIM_SLEW_PPM)
  let s := s.mapTim (fun t => { t with slew := t.slew.map (fun x => (x.1, s.now + x.1.natAbs * 1000000000 / ppm)) })
  if s.rd Reg.TIM_MODE = was then s
  else s.mapTim (fun t => { t with state := if s.rd Reg.TIM_MODE = 1 then .acquiring else .free, good := 0, bad := 0 })

/-- CHP (02): `v` is what was written to the fields that act. -/
def State.wroteChp (s : State) (m : Master) (a : Nat) (v : Word) : State :=
  match a with
  | 0x10 => s.requestMode (v.toNat / 16 % 8)
  | 0x20 =>
    match v.toNat % 16 with
    | 1 => s.startCheck
    | 2 => s.applyNext
    | 3 => s.applyAt
    | 4 => s.cancelApply
    | 5 => s.discard
    | _ => s
  | 0x50 => if hasBit v 0 then s.snapRequest else s
  | 0x5C => s.snapRelease v
  | 0x90 => s.injectWrite (s.rd Reg.CHP_INJECT_CODE) (hasBit v 16)
  | _ => let _ := m; s

/-- PSQ (03). -/
def State.wrotePsq (s : State) (a : Nat) (v : Word) : State :=
  if a = 0x100000 then
    match v.toNat % 8 with
    | 1 => s.startTab
    | 2 => s.haltSweepEnd .sweepCmd
    | 3 => s.haltNow .nowCmd
    | _ => s
  else if a = 0x100030 && hasBit v 31 then
    s.pluckRequest (s.rd Reg.PSQ_PLUCK_SLOT) (s.rd Reg.PSQ_PLUCK_SHAPE) (s.rd Reg.PSQ_PLUCK_SCALE)
  else s

/-- CVU (11): unit `u`, at offset `o` of its registers. -/
def State.wroteCvu (s : State) (u o : Nat) (v : Word) : State :=
  match o with
  | 0x04 =>
    match v.toNat % 8 with
    | 1 => s.cvuBegin u
    | 2 => s.cvuEnd u
    | 4 => s.cvuIdle u
    | _ => s
  | 0x0C => s.cvuFeed u v
  | 0x2C => s.cvuLoad u (s.live (0x330100 + 128 * u + 0x2C) ++ s.live (0x330100 + 128 * u + 0x28))
  | 0x30 => s.mapCvuUnit u (fun x => { x with count := s.rd (Reg.CVU_U_COUNT u) })
  | _ => s

/-- The blocks of the management region and the links (14, 16), and GDB. -/
def State.wroteMgmt (s : State) (a : Nat) (v : Word) : State :=
  match a with
  | 0x400000 => s.linksFollow
  | 0x400040 => s.courseFollow.eachBit v [(4, State.plSleep), (5, State.plWake)]
  | 0x410000 => s.linksFollow
  | 0x500004 => s.kick v
  | 0x520014 => s.eachBit v [(0, State.startCal), (1, State.refInj)]
  | 0x540000 => s.startPage
  | 0x54000C => if hasBit v 0 then s.eraseCmd else s
  | 0x550034 => s.setTime ((s.live 0x550030).toNat + (s.live 0x550034).toNat * 2 ^ 32) false
  | 0x560014 => s.burnOtp v
  | 0x570018 =>
    s.eachBit v [(0, fun s => s.trip .b .cmd), (1, State.restartCmd), (2, fun s => s.beginSelfTest .b),
      (3, fun s => s.beginLearn .b), (4, fun s => s.cancelLearn .b)]
  | _ => s

/-- What a write of `v` to the fields that act of the register at `a` brings about, once its RW fields are stored. -/
def State.wrote (s : State) (m : Master) (a : Nat) (v : Word) : State :=
  match a / 0x10000 with
  | 0 => s.wroteChp m a v
  | 16 => s.wrotePsq a v
  | 18 => if 0x120100 ≤ a && a % 64 = 0x20 && hasBit v 0 then s.clearFault ((a - 0x120100) / 64) else s
  | 19 => if 0x1300C0 ≤ a && a < 0x130100 then s.occLive else s
  | 22 => if a = 0x160004 then (if hasBit v 0 then s.skewCalCmd else s) else s.calFactor a (s.live a)
  | 23 =>
    if a = 0x170018 then
      s.eachBit v [(0, fun s => s.trip .a .cmd), (1, fun s => s.beginSelfTest .a), (2, fun s => s.beginLearn .a),
        (3, fun s => s.cancelLearn .a)]
    else s
  | 38 =>
    if a = 0x260210 then
      s.eachBit v [(0, fun s => s.armCmd true), (1, fun s => s.armCmd false), (2, State.calFire), (3, State.muFire)]
    else s
  | 48 => if a = 0x30000C && hasBit v 0 then s.trainCmd else s
  | 49 => if 0x310400 ≤ a && a % 64 = 0x3C then s.captureOp ((a - 0x310400) / 64) (v.toNat % 4) (v.toNat / 2 ^ 8) else s
  | 51 => if 0x330100 ≤ a then s.wroteCvu ((a - 0x330100) / 128) (a % 128) v else s
  | 65 => if a % 64 = 0x24 && hasBit v 0 then s.tsPop ((a - 0x410100) / 64) else s.wroteMgmt a v
  | 83 =>
    if a % 64 = 0x08 then
      s.eachBit v [(0, fun s => s.tiuTo ((a - 0x530100) / 64) .armed), (1, fun s => s.tiuTo ((a - 0x530100) / 64) .idle)]
    else s
  | _ => s.wroteMgmt a v

/-! ### Writes (R38, R39, R42 to R49, R51, R571) -/

/-- R339 (11): a write to CTL, CMD, FEED, RUN or COUNT of an owned CVU unit, which is ignored. -/
def State.cvuShut (s : State) (a : Nat) : Bool :=
  a / 0x10000 == 51 && decide (0x330100 ≤ a) && [0x00, 0x04, 0x0C, 0x28, 0x2C, 0x30].contains (a % 128)
    && s.cvuOwned ((a - 0x330100) / 128)

/-- R31, R344, R399 (01, 12, 14): the mode does not let the register at `a` be written. -/
def State.modeShut (s : State) (a : Nat) : Bool :=
  if a = 0x90 then s.chp.mode != .test
  else if a = 0x400000 || a = 0x410000 || a = 0x300000 then s.chp.mode != .boot && s.chp.mode != .prep
  else false

/-- R45, R473 (02, 15): the two registers whose writes are open to every master, and a session's own words. -/
def openTo (m : Master) (a : Nat) : Bool :=
  a == 0x5C || (match m with
    | .session n => a == 0x421000 + 32 * n + 4 || a == 0x421000 + 32 * n + 8
    | _ => false)

/-- The bits of a register that the master's write reaches: RW fields, and WO fields (which hold a value only in a 64-bit register). -/
def State.reach (s : State) (m : Master) (r : RegRow) (p : RegField → Bool) : Word :=
  RegRow.maskOf r (fun f => p f && (!f.sealed || s.maySeal m))

/-- R42 (02): the RW fields of the register at `a` take what `op` gives. -/
def State.store (s : State) (m : Master) (r : RegRow) (a : Nat) (op : Word → Word) : State :=
  let k := s.reach m r (fun f => f.acc == .rw || (f.acc == .wo && r.half != 0))
  if k = 0 then s else s.setLive a ((s.live a &&& ~~~k) ||| (op (s.live a) &&& k))

/-- R42, R51 (02): a write that is let in: the RW fields are stored (both halves, where the shadow of a 64-bit register holds the low
one), and the fields that act do so. -/
def State.letIn (s : State) (m : Master) (r : RegRow) (a : Nat) (v : Word) (op : Word → Word) : State :=
  let was := s.rd Reg.TIM_MODE
  let s := s.beforeWrite a
  let s := match s.shadowOf m (a - 4) .write, Reg.rowAt (a - 4) with
    | some low, some lo => if r.half = 2 then s.store m lo (a - 4) (fun _ => low) else s
    | _, _ => s
  let k := s.reach m r (fun f => f.acc == .rw || f.acc == .wo)
  let s := s.store m r a op
  if k = 0 then s else if a = 0x550000 then s.timMode was else s.wrote m a (v &&& k)

/-- R44 to R46, R571 (02): the plain write to a register that is not tuned; one denial is counted for one access. -/
def State.writeLive (s : State) (m : Master) (r : RegRow) (a : Nat) (v : Word) (op : Word → Word) : State :=
  if !s.mayPriv m && !openTo m a then
    if a = 0x50 && hasBit v 0 then s.denyPriv.snapRequest else s.denyPriv
  else if s.modeShut a then s.denyPriv
  else if s.cvuShut a then s
  else if isStatusRow r then s.statusWrite a v
  else
    let s := if r.fields.any (fun f => f.sealed) && !s.maySeal m then s.denySeal else s
    s.letIn m r a v op

/-- R38, R51 (02): a plain write to a register in the active view. -/
def State.writePlain (s : State) (m : Master) (r : RegRow) (a : Nat) (v : Word) : State :=
  if r.tuned then s.stageReg m r a (fun _ => v)
  else if r.half = 1 then s.setShadow m (some { master := m, tag := a, kind := .write, value := v })
  else
    let s := s.writeLive m r a v (fun _ => v)
    if r.half = 2 then s.setShadow m none else s

/-- R38 (02): what a flavour makes of a word. -/
def flavourOp (fl : Nat) (v x : Word) : Word :=
  match fl with
  | 1 => x ||| v
  | 2 => x &&& ~~~v
  | 3 => x ^^^ v
  | _ => v

/-- R39, R52 (02): registers that take no flavoured write: WO, ST and 64-bit ones. -/
def flavourStale (r : RegRow) : Bool := isStatusRow r || r.half != 0 || r.fields.all (fun f => f.acc == .wo)

/-- R38, R39 (02): a flavoured write: RW and T fields only. -/
def State.writeFlavoured (s : State) (m : Master) (r : RegRow) (a fl : Nat) (v : Word) : State :=
  if flavourStale r then s.bump Reg.CHP_STALE_CNT_COUNT
  else if r.tuned then s.stageReg m r a (flavourOp fl v)
  else s.writeLive m { r with fields := r.fields.filter (fun f => f.acc != .wo) } a 0 (flavourOp fl v)

/-- R59, R62 (02): a write through the stage view. -/
def State.writeStage (s : State) (m : Master) (r : RegRow) (a fl : Nat) (v : Word) : State :=
  if !r.tuned then (if s.mayPriv m then s.stageMiss else s.stageMiss.denyPriv)
  else s.stageReg m r a (flavourOp fl v)

/-- R36 (02): a write of the word at a bus address by a master. -/
def State.writeWord (s : State) (m : Master) (addr : Nat) (v : Word) : State :=
  match placeOf addr with
  | none => s.busErr
  | some p =>
    if s.placeGone p true then s.busErr
    else if s.jtagShut m then s.denyPriv.done
    else
      match p with
      | .reg r a _ fl stage =>
        if stage then (s.writeStage m r a fl v).done
        else if fl = 0 then (s.writePlain m r a v).done
        else (s.writeFlavoured m r a fl v).done
      | .shadow _ _ _ stage =>
        let s := if stage then s.stageMiss else s
        if s.mayPriv m then s.done else s.denyPriv.done
      | .mem slot off _ => (s.stageMem m (slot * 0x1000000 + off) v).done

/-! ### The rows -/

/-- R38 (02): the same register through flavour alias `fl`, in a register window. -/
def aliasOf (fl addr : Nat) : Nat :=
  if addr < 0x1000000 then addr / 0x10000 * 0x10000 + fl * 0x4000 + addr % 0x4000 else 0xFFFFFFFF

/-- REGISTER_WRITE (R36, R42, R44 to R46). -/
def execRegisterWrite (m : Master) (addr : Nat) (v : Word) (t : Instant) (s : State) : Host.Outcome State Fault Refusal :=
  .next ((s.atT t).tuneIfDue.writeWord m addr v)

/-- SET_WRITE (R38, R39): through the SET alias of the register. -/
def execSetWrite (m : Master) (addr : Nat) (v : Word) (t : Instant) (s : State) : Host.Outcome State Fault Refusal :=
  .next ((s.atT t).tuneIfDue.writeWord m (aliasOf 1 addr) v)

/-- CLEAR_WRITE (R38, R39). -/
def execClearWrite (m : Master) (addr : Nat) (v : Word) (t : Instant) (s : State) : Host.Outcome State Fault Refusal :=
  .next ((s.atT t).tuneIfDue.writeWord m (aliasOf 2 addr) v)

/-- TOGGLE_WRITE (R38, R39). -/
def execToggleWrite (m : Master) (addr : Nat) (v : Word) (t : Instant) (s : State) : Host.Outcome State Fault Refusal :=
  .next ((s.atT t).tuneIfDue.writeWord m (aliasOf 3 addr) v)

/-- STATUS_CLEAR_WRITE (R48, R49). -/
def execStatusClearWrite (m : Master) (addr : Nat) (v : Word) (t : Instant) (s : State) : Host.Outcome State Fault Refusal :=
  .next ((s.atT t).tuneIfDue.writeWord m addr v)

/-- LOW_WORD_READ (R51). -/
def execLowWordRead (m : Master) (addr : Nat) (t : Instant) (s : State) : Host.Outcome State Fault Refusal :=
  .next ((s.atT t).tuneIfDue.readWord m addr)

/-- LOW_WORD_WRITE (R51). -/
def execLowWordWrite (m : Master) (addr : Nat) (v : Word) (t : Instant) (s : State) : Host.Outcome State Fault Refusal :=
  .next ((s.atT t).tuneIfDue.writeWord m addr v)

/-- HIGH_WORD_READ (R51). -/
def execHighWordRead (m : Master) (addr : Nat) (t : Instant) (s : State) : Host.Outcome State Fault Refusal :=
  .next ((s.atT t).tuneIfDue.readWord m addr)

/-- HIGH_WORD_WRITE (R51). -/
def execHighWordWrite (m : Master) (addr : Nat) (v : Word) (t : Instant) (s : State) : Host.Outcome State Fault Refusal :=
  .next ((s.atT t).tuneIfDue.writeWord m addr v)

/-- STAGE_WRITE (R59, R60, R62). -/
def execStageWrite (m : Master) (addr : Nat) (v : Word) (t : Instant) (s : State) : Host.Outcome State Fault Refusal :=
  .next ((s.atT t).tuneIfDue.writeWord m addr v)

/-- R9 (01): the block and unit that an access to a bus address goes to. -/
def targetOf (addr : Nat) : Option (Block × Option Nat) :=
  (placeOf addr).map (fun p => match p with
    | .reg _ a b _ _ => (b, regUnit a)
    | .shadow _ b _ _ => (b, none)
    | .mem slot off _ => slotBlock slot off)

/-- BRIDGE_TIMEOUT (R9, R17): the access completes with BUS_ERROR, and the block is charged with cause 0xF3. -/
def execBridgeTimeout (m : Master) (addr : Nat) (t : Instant) (s : State) : Host.Outcome State Fault Refusal :=
  let _ := m
  let s := (s.atT t).busErr
  match targetOf addr with
  | some p => .next (s.blockFault p.1 p.2 0xF3 0)
  | none => .next s

end Sys2Proof.Machine
end

