-- ==== Sys2Proof/Machine/Startup.lean ====
section
/-! DEFINITION. The boot tuning and its flags (R523, 17). -/

namespace Sys2Proof.Machine

/-- R43, R65, R523 (02, 17): the boot tuning is applied as a SECURE master: the live writes in list order, the load of the Porhorn image,
and CHK. -/
def State.applyBootTuning (s : State) (b : BootTuning) : State :=
  let s := (s.mapMgc (fun g => { g with secure := true })).mapPwr (fun p => { p with
    tuning := b, bootTuned := true, bootAct := .checking })
  let s := b.writes.foldl (fun s w => s.writeWord .morsen w.1 w.2) s
  let s := ((s.loadImage .morsen b.porhorn).1).startCheck
  s.mapMgc (fun g => { g with secure := false })

/-- BOOT_TUNING (R523): after PREP step 7 the firmware applies the boot tuning of the running image, once; the operands are what the
signed body holds (its layout in the body is not in the spec). -/
def execBootTuning (writes : List (Nat × Word)) (porhorn : List Byte) (service light start : Bool) (t : Instant) (s : State) :
    Host.Outcome State Fault Refusal :=
  let s := s.atT t
  if s.chp.mode = .prep && s.pwr.prepPassed = 7 && s.mgc.runs = .firmware && !s.pwr.bootTuned then
    .next (s.applyBootTuning { writes := writes, porhorn := porhorn, autoService := service, autoLight := light, autoStart := start })
  else .next s

/-- R523 (17): the step of the boot tuning that comes next. -/
def State.bootNext (s : State) (a : BootAct) : State := s.mapPwr (fun p => { p with bootAct := a })

/-- AUTO_SERVICE (R523): once the check has ended, SERVICE is requested where it passed and the flag is set; the steps go on where the
mode becomes SERVICE. -/
def execAutoService (t : Instant) (s : State) : Host.Outcome State Fault Refusal :=
  let s := s.atT t
  if s.pwr.bootAct != .checking || s.chp.stage = .checking then .next s
  else if s.chp.mode = .prep && s.chp.stage = .checked && s.pwr.tuning.autoService then
    let s := (s.bootNext .none).writeWord .morsen Reg.CHP_MODE_REQ.addr (Reg.CHP_MODE_REQ.put 0 2)
    .next (if s.chp.mode = .service && s.pwr.tuning.autoLight then s.bootNext .light else s)
  else .next (s.bootNext .none)

/-- AUTO_LIGHT (R302, R523): in SERVICE GDB.CMD.RESTART is written once, as soon as an attempt may start, or 10 s after SERVICE entry;
the steps go on where that write starts an attempt. -/
def execAutoLight (t : Instant) (s : State) : Host.Outcome State Fault Refusal :=
  let s := s.atT t
  if s.pwr.bootAct = .light && s.chp.mode = .service && (s.restartHolds || decide (s.pwr.serviceAt + 10 * sec ≤ s.now)) then
    let was := s.guards.lastAttempt
    let s := (s.bootNext .none).writeWord .morsen Reg.GDB_CMD_RESTART.addr Reg.GDB_CMD_RESTART.mask
    .next (if s.guards.lastAttempt != was && s.pwr.tuning.autoStart then s.bootNext .start else s)
  else .next s

/-- AUTO_START (R92, R523): when both guards are ARMED for the first time, START is written once. -/
def execAutoStart (t : Instant) (s : State) : Host.Outcome State Fault Refusal :=
  let s := s.atT t
  if s.pwr.bootAct = .start && s.chp.mode = .service && s.gda.state = .armed && s.gdb.state = .armed then
    .next ((s.bootNext .none).writeWord .morsen Reg.PSQ_CTL_CMD.addr (Reg.PSQ_CTL_CMD.put 0 1))
  else .next s

end Sys2Proof.Machine
end

