-- ==== Sys2Proof/Machine/Kanas.lean ====
section
/-! DEFINITION. Sessions of the Kanas protocol (R426 to R447, R458, 15): what a host's packets do, ranks and presses, commands as they
come and complete, and the control flow. -/

namespace Sys2Proof.Machine

/-! ### Packets as received (R426 to R429, R437) -/

/-- R426 (15): the header's bytes. -/
def kpHeader (p : KpPacket) : List Byte :=
  leBytes 2 p.magic ++ leBytes 1 p.version ++ leBytes 1 p.type ++ leBytes 2 p.session ++ leBytes 1 p.unit ++ leBytes 1 p.flags
    ++ leBytes 4 p.cookie.toNat ++ leBytes 4 p.seq ++ leBytes 4 p.ack ++ leBytes 4 p.length ++ leBytes 8 p.time

/-- R427 (15): the CHK that the packet should carry. -/
def kpChk (p : KpPacket) : BitVec 32 := crc32c (leBytes 8 (p.seq + p.session * 2 ^ 32) ++ kpHeader p ++ p.payload)

/-- R426 (15): the packet as it stands in a datagram. -/
def kpBytes (p : KpPacket) : List Byte := kpHeader p ++ p.payload ++ leBytes 4 p.chk.toNat

/-- R428 (15): the types that a host sends. -/
def hostTypes : List Nat := [1, 3, 8, 10, 11]

/-- R429 (15): MAGIC, VERSION, LENGTH and TYPE are a host packet's. -/
def kpFormed (p : KpPacket) : Bool :=
  p.magic == 0x504B && p.version == 1 && p.length == p.payload.length && hostTypes.contains p.type

/-- R429 (15): the fixed fields of a TYPE in bytes. -/
def kpFixed (type : Nat) : Nat :=
  match type with
  | 1 => 32 | 3 => 4 | 11 => 1 | _ => 0

/-- R429 (15): the packet is one of this TYPE that KPE does not drop. -/
def State.kpGood (s : State) (p : KpPacket) (type : Nat) : Bool :=
  kpFormed p && p.type == type && p.chk == kpChk p && decide (kpFixed type ≤ p.payload.length)
    && (if type = 1 then p.session == 0xFFFF
        else decide (p.session < 128) && (s.sess p.session).state != .free && (s.sess p.session).cookie == p.cookie)

/-- R404, R437, R450 (14, 15): KPE takes packets from the path: it is enabled and not isolated, the mode is not BOOT, and the MAC (or the
Peer Link) is up. -/
def State.kpServes (s : State) (k : KpPath) : Bool :=
  s.on Reg.KPE_CTL_EN && s.chp.mode != .boot && !s.isolated .kpe && s.pathUp k.mac

/-- PEER_FORWARD (R437): a host packet for the partner is forwarded unchanged, its path recorded against its SESSION, or the NONCE of an
OPEN; without an ACTIVE Peer Link or a record to spare it is dropped. -/
def State.peerForward (s : State) (k : KpPath) (p : KpPacket) : State :=
  let nonce := leNat (p.payload.take 8)
  let mine (r : Relay) : Bool := if p.type = 1 then r.session.isNone && r.nonce == nonce else r.session == some p.session
  if !kpFormed p then s.bump Reg.KPE_RX_BAD_CNT
  else if s.pathUp 4 && (s.kpe.relays.any mine || decide (s.kpe.relays.length < 128)) then
    let r : Relay := { session := if p.type = 1 then none else some p.session, nonce := nonce, path := k }
    (s.mapKpe (fun e => { e with
      relays := if e.relays.any mine then e.relays.map (fun x => if mine x then { x with path := k } else x)
        else e.relays ++ [r] })).plQueue (kpBytes p)
  else s.bump Reg.KPE_PEER_DROP_CNT

/-- R429, R437 (15): a host packet of a TYPE comes in on a path; `f` is what a valid one does. -/
def State.kpTake (s : State) (k : KpPath) (p : KpPacket) (type : Nat) (f : State → State) : State :=
  if !s.kpServes k then s
  else if p.unit = 1 && k.mac < 4 then s.peerForward k p
  else if p.unit != (if k.mac < 4 then 0 else 1) then s.bump Reg.KPE_PEER_DROP_CNT
  else if !s.kpGood p type then s.bump Reg.KPE_RX_BAD_CNT
  else f (s.bump Reg.KPE_RX_PKT_CNT)

/-! ### What every valid packet of a session does (R433 to R435, R438) -/

/-- R438 (15): the SEQ stands before the host's ACK, modulo 2³². -/
def acked (ack seq : Nat) : Bool :=
  let d := (ack + 2 ^ 32 - seq) % 2 ^ 32
  decide (0 < d) && decide (d < 2 ^ 31)

/-- R438, R439 (15): the packets before ACK are acknowledged. -/
def State.ackCtl (s : State) (n ack : Nat) : State :=
  s.mapSess n (fun x =>
    if x.unacked.any (fun p => acked ack p.seq) then
      { x with unacked := x.unacked.filter (fun p => !acked ack p.seq), ackAt := s.now, rounds := 0 }
    else x)

/-- R433 to R435, R438 (15): a valid packet records its path, which is the sending one now, acknowledges, and makes a SUSPENDED session
ACTIVE, whose unacknowledged packets are resent. -/
def State.heard (s : State) (k : KpPath) (p : KpPacket) : State :=
  let n := p.session
  let was := (s.sess n).state
  let s := s.mapSess n (fun x => { x with
    paths := if x.dual then k :: x.paths.filter (fun j => j.mac != k.mac) else [k], lastAt := s.now, unit := p.unit })
  let s := s.ackCtl n p.ack
  if was = .suspended then (s.mapSess n (fun x => { x with state := .active, rounds := 0, ackAt := s.now })).resendAll n else s

/-! ### OPEN (R430 to R432) -/

/-- R430 (15): the payload of an OPEN_REPLY: NONCE, STATUS, SESSION, the ten bytes from COOKIE to WINDOW, SERIAL and the last words. -/
def State.openReply (s : State) (nonce : List Byte) (st : Status) (session : Nat) (mid : List Byte) : List Byte :=
  nonce ++ leBytes 2 st.code ++ leBytes 2 session ++ mid ++ leBytes 2 0 ++ leBytes 4 (s.otpWord 0).toNat
    ++ leBytes 4 (s.otpWord 1).toNat ++ s.lastWords.flatMap (fun w => leBytes 4 w.toNat)

/-- R432 (15): an OPEN is refused FULL or RATE. -/
def State.openRefuse (s : State) (k : KpPath) (p : KpPacket) (st : Status) : State :=
  let mid := (List.range 10).map (fun i => Config.refusedReply s.fresh i)
  let bytes := s.openReply (p.payload.take 8) st 0xFFFF mid
  let s := { s with fresh := s.fresh + 1 }
  ((s.bump Reg.KPE_FULL_CNT).event [Reg.KPE_STAT_FULL]).sendUnseq k 2 0xFFFF p.unit 0 bytes

/-- R430, R431 (15): the OPEN is granted in context `n`, with the settings held to their ranges. -/
def State.openGrant (s : State) (k : KpPath) (p : KpPacket) (n : Nat) : State :=
  let arg (o : Nat) : Nat := leNat ((p.payload.drop o).take 2)
  let ka := max 1 (min 600 (arg 8))
  let rto := max 1 (min 1000 (arg 10))
  let win := max 8 (min 256 (arg 12))
  let c := Config.cookie s.fresh
  let cookie := if c = 0 then 1 else c
  let s := { s with fresh := s.fresh + 1 }
  let s := (((s.wr (Reg.KPE_S_KEEPALIVE n) ka).wr (Reg.KPE_S_RTO n) rto).wr (Reg.KPE_S_WINDOW n) win).wr (Reg.KPE_S_NMASK n) 0x1F
  let s := s.mapSess n (fun _ => {
    state := .active, dual := arg 14 % 2 == 1, paths := [k], nonce := leNat (p.payload.take 8), cookie := cookie
    openedAt := s.now, lastAt := s.now, unit := p.unit })
  let s := (s.bump Reg.KPE_OPEN_CNT).event [Reg.KPE_STAT_OPENED]
  let bytes := s.openReply (p.payload.take 8) .complete n
    (leBytes 4 cookie.toNat ++ leBytes 2 ka ++ leBytes 2 rto ++ leBytes 2 win)
  let g : Grant :=
    { path := k, nonce := leNat (p.payload.take 8), session := n, cookie := cookie, payload := bytes, time := s.now }
  (s.mapKpe (fun e => { e with grants := e.grants ++ [g] })).sendUnseq k 2 n p.unit cookie bytes

/-- R431 (15): a free context that is not restarting; the lowest (DESIGN CHOICE, log entry 27). -/
def State.freeSession (s : State) : Option Nat :=
  (List.range 128).find? (fun n => (s.sess n).state == .free && !s.isolatedAt .kpe (some n))

/-- R432 (15): the observer session that has been SUSPENDED longest. -/
def State.evictable (s : State) : Option Nat :=
  let xs := (List.range 128).filter (fun n => (s.sess n).state == .suspended && !(s.sess n).operator)
  match xs with
  | [] => none
  | n :: r => some (r.foldl (fun b n => if (s.sess n).suspendedAt < (s.sess b).suspendedAt then n else b) n)

/-- R432 (15): the context for a new session: a free one, or with EVICT that of the session evicted. -/
def State.openPlace (s : State) : State × Option Nat :=
  match s.freeSession with
  | some n => (s, some n)
  | none =>
    match (if s.on Reg.KPE_CTL_EVICT then s.evictable else none) with
    | some n => (((s.closeSession n 3).bump Reg.KPE_EVICT_CNT).event [Reg.KPE_STAT_EVICTED], some n)
    | none => (s, none)

/-- R431, R432 (15): a valid OPEN: a repeated one has its reply again; beyond the rate it is refused; else it takes a context. -/
def State.openPacket (s : State) (k : KpPath) (p : KpPacket) : State :=
  let nonce := leNat (p.payload.take 8)
  let s := s.mapKpe (fun e => { e with grants := e.grants.filter (fun g => decide (s.now < g.time + 10 * sec)) })
  match s.kpe.grants.find? (fun g => g.nonce == nonce && g.path.ip == k.ip && g.path.port == k.port) with
  | some g => s.sendUnseq k 2 g.session p.unit g.cookie g.payload
  | none =>
    let n := (if s.kpe.openSec = s.now / sec then s.kpe.openCount else 0) + 1
    let s := s.mapKpe (fun e => { e with openSec := s.now / sec, openCount := n })
    if max 1 (s.rd Reg.KPE_CTL_OPEN_RATE) < n then s.openRefuse k p .rate
    else
      let r := s.openPlace
      match r.2 with
      | some n => r.1.openGrant k p n
      | none => r.1.openRefuse k p .full

/-- OPEN (R429 to R432). -/
def execKpOpen (path : KpPath) (p : KpPacket) (t : Instant) (s : State) : Host.Outcome State Fault Refusal :=
  .next ((s.atT t).kpTake path p 1 (fun s => s.openPacket path p))

/-! ### ACK and CLOSE -/

/-- ACK (R433, R434, R438). -/
def execKpAck (path : KpPath) (p : KpPacket) (t : Instant) (s : State) : Host.Outcome State Fault Refusal :=
  .next ((s.atT t).kpTake path p 8 (fun s => s.heard path p))

/-- CLOSE (R436): reason HOST. -/
def execKpClose (path : KpPath) (p : KpPacket) (t : Instant) (s : State) : Host.Outcome State Fault Refusal :=
  .next ((s.atT t).kpTake path p 10 (fun s => (s.heard path p).closeSession p.session 1))

/-! ### Ranks (R441 to R443) -/

/-- R442, R490 (15, 16): a result of R442: the record, and NOTIFY CLAIM. -/
def State.claimResult (s : State) (n r : Nat) : State := (s.record 1 evClaim (n + r * 2 ^ 8)).notifyOne n ntClaim [r]

/-- R442 (15): a CLAIM; a session that is an operator or pending has its present result again, and nothing else. -/
def State.claimPacket (s : State) (n : Nat) : State :=
  if (s.sess n).operator then s.notifyOne n ntClaim [1]
  else
    match s.kpe.claim with
    | some c => if c.session = n then s.notifyOne n ntClaim [0] else s.claimResult n 3
    | none =>
      if 4 ≤ s.operators then s.claimResult n 4
      else (s.mapKpe (fun k => { k with claim := some { session := n, time := s.now } })).claimResult n 0

/-- R442 (15): a DROP cancels a pending CLAIM and removes the rank. -/
def State.dropPacket (s : State) (n : Nat) : State :=
  let s := s.mapKpe (fun k => { k with claim := if k.claim.any (fun c => c.session == n) then none else k.claim })
  (s.mapSess n (fun x => { x with operator := false })).claimResult n 5

/-- CLAIM (R442). -/
def execKpClaim (path : KpPath) (p : KpPacket) (t : Instant) (s : State) : Host.Outcome State Fault Refusal :=
  .next ((s.atT t).kpTake path p 11 (fun s =>
    let s := s.heard path p
    match (p.payload.headD 0).toNat with
    | 0 => s.claimPacket p.session
    | 1 => s.dropPacket p.session
    | _ => s))

/-- R443 (15): a press takes effect. -/
def State.pressed (s : State) : State :=
  match s.kpe.claim with
  | none => s.bump Reg.KPE_PRESS_CNT
  | some c =>
    let s := s.mapKpe (fun k => { k with claim := none })
    if s.operators < 4 then
      ((s.mapSess c.session (fun x => { x with operator := true })).event [Reg.KPE_STAT_GRANTED]).claimResult c.session 1
    else s.claimResult c.session 4

/-- PRESS (R443): PRESENCE_N is at this level: a change is noted, and a fall after 20 ms high counts as a press once it has been low for
20 ms. -/
def execPress (high : Bool) (t : Instant) (s : State) : Host.Outcome State Fault Refusal :=
  let s := s.atT t
  if s.kpe.presHigh != high then
    .next (s.mapKpe (fun k => { k with
      presHigh := high, presAt := s.now, presValid := !high && decide (k.presAt + 20 * ms ≤ s.now) }))
  else if !high && s.kpe.presValid && decide (s.kpe.presAt + 20 * ms ≤ s.now) then
    .next ((s.mapKpe (fun k => { k with presValid := false })).pressed)
  else .next s

/-- CLAIM_TIMEOUT (R442): no press within 60 s. -/
def execClaimTimeout (t : Instant) (s : State) : Host.Outcome State Fault Refusal :=
  let s := s.atT t
  match s.kpe.claim with
  | some c =>
    if c.time + 60 * sec ≤ s.now then .next ((s.mapKpe (fun k => { k with claim := none })).claimResult c.session 2) else .next s
  | none => .next s

/-! ### Commands as they come (R444 to R450) -/

/-- A little-endian number in ARGS. -/
def argNat (a : List Byte) (off n : Nat) : Nat := leNat ((a.drop off).take n)

/-- R332, R461 (11, 15): a PRED that a row flow may have. -/
def predOk (p : Nat) : Bool := decide (p < 4) || p == 0xFF

/-- R461 (15): the ARGS of SUBSCRIBE. -/
def parseSubscribe (a : List Byte) : Option KpArgs :=
  let kind := argNat a 0 1
  let preset := argNat a 1 1
  let pred := argNat a 2 1
  let rows := kind == 0 || kind == 1
  let ok := decide (12 ≤ a.length) && decide (kind < 5) && decide (preset ≤ if kind = 0 then 5 else 0)
    && (!(rows || kind == 4) || predOk pred) && (!rows || decide (argNat a 4 2 ≤ argNat a 6 2))
  if ok then
    some (.subscribe kind preset (if rows || kind = 4 then pred else 0xFF) (argNat a 4 2) (argNat a 6 2) (argNat a 8 4))
  else none

/-- R502 (16): the ARGS of UPDATE. -/
def parseUpdate (a : List Byte) : Option KpArgs :=
  let op := argNat a 0 1
  let len := argNat a 8 4
  let ok := decide (12 ≤ a.length) && decide (1 ≤ op) && decide (op ≤ 9)
    && (op != 2 || (decide (1 ≤ len) && decide (len ≤ 8192))) && (op != 8 || len == 32)
    && (!(op == 2 || op == 8) || decide (12 + len ≤ a.length))
  if ok then some (.update op (argNat a 1 1) (argNat a 4 4) len ((a.drop 12).take len)) else none

/-- R448, R452, R455 (15): the ARGS of the memory and row reads and of LOAD. -/
def parseMemory (op : Nat) (a : List Byte) : Option KpArgs :=
  let space := argNat a 0 1
  let addr := argNat a 8 8
  let len := argNat a 16 4
  let place (lim : Nat) : Bool := decide (20 ≤ a.length) && decide (space < 2) && decide (4 ≤ len) && decide (len ≤ lim)
    && (space != 0 || (addr % 4 == 0 && len % 4 == 0))
  match op with
  | 0x04 => if place (2 ^ 30) then some (.memRead space addr len) else none
  | 0x05 => if place 8192 && decide (20 + len ≤ a.length) then some (.memWrite space addr ((a.drop 20).take len)) else none
  | 0x06 => if 12 ≤ a.length then some (.load (argNat a 0 8) (argNat a 8 4)) else none
  | 0x0B =>
    if 17 ≤ a.length && predOk (argNat a 16 1) && argNat a 12 2 ≤ argNat a 14 2 then
      some (.capRead (argNat a 0 4) (argNat a 4 4) (argNat a 8 4) (argNat a 12 2) (argNat a 14 2) (argNat a 16 1))
    else none
  | 0x0E =>
    if 17 ≤ a.length && predOk (argNat a 16 1) && argNat a 12 2 ≤ argNat a 14 2 && 1 ≤ argNat a 8 4 && argNat a 8 4 ≤ 2 ^ 24 then
      some (.ringRead (argNat a 0 8) (argNat a 8 4) (argNat a 12 2) (argNat a 14 2) (argNat a 16 1))
    else none
  | _ =>
    if 8 ≤ a.length && 1 ≤ argNat a 4 4 && argNat a 4 4 ≤ 1048576 then some (.logRead (argNat a 0 4) (argNat a 4 4)) else none

/-- R448 (15): a command's ARGS; none: they are malformed or outside the ranges given. Bytes beyond them are ignored. -/
def parseArgs (op : Nat) (a : List Byte) : Option KpArgs :=
  let n := argNat a 0 2
  match op with
  | 0x01 => some .nop
  | 0x02 =>
    if 2 ≤ a.length && 1 ≤ n && n ≤ 512 && 4 + 4 * n ≤ a.length then
      some (.regRead ((List.range n).map (fun i => argNat a (4 + 4 * i) 4)))
    else none
  | 0x03 =>
    if 2 ≤ a.length && 1 ≤ n && n ≤ 512 && 4 + 8 * n ≤ a.length then
      some (.regWrite ((List.range n).map (fun i => (argNat a (4 + 8 * i) 4, BitVec.ofNat 32 (argNat a (8 + 8 * i) 4)))))
    else none
  | 0x07 => parseSubscribe a
  | 0x08 => if 2 ≤ a.length then some (.unsubscribe n) else none
  | 0x09 => if 2 ≤ a.length then some (.flush n) else none
  | 0x0A =>
    if 21 ≤ a.length && argNat a 20 1 ≤ 1 then
      some (.capArm (argNat a 0 8) (argNat a 8 2) (argNat a 10 2) (argNat a 12 4) (argNat a 16 4) (argNat a 20 1))
    else none
  | 0x0C => if 4 ≤ a.length then some (.capAbort (argNat a 0 4)) else none
  | 0x0D => if 4 ≤ a.length then some (.capRelease (argNat a 0 4)) else none
  | 0x10 => parseUpdate a
  | 0x11 => if 1 ≤ a.length && argNat a 0 1 < 8 then some (.mode (argNat a 0 1)) else none
  | 0x12 => if 2 ≤ a.length then some (.abort n) else none
  | op => parseMemory op a

/-- R448 (15): the OPs of rank P. -/
def rankP : List Nat := [0x05, 0x06, 0x0A, 0x0C, 0x0D, 0x10, 0x11]

/-- R450 (15): the OPs served in RECOVERY. -/
def inRecovery : List Nat := [0x02, 0x0F, 0x10, 0x11]

/-- R448 to R450 (15): the status with which a command is turned away, in the order BAD_OPCODE, WRONG_MODE, RANK, BAD_REQUEST
(DEDUCED, log entry 27). -/
def State.turnedAway (s : State) (n op : Nat) (args : Option KpArgs) : Option Status :=
  if op = 0 || 0x12 < op then some .badOpcode
  else if s.chp.mode = .recovery && !inRecovery.contains op then some .wrongMode
  else if rankP.contains op && !(s.sess n).operator then some .rank
  else if args.isNone then some .badRequest
  else none

/-- R444, R445 (15): a completion that is not kept in the replay cache. -/
def State.answerNow (s : State) (n tag op : Nat) (st : Status) : State :=
  s.queueCtl n (.completion tag op st 0 0 0 s.lastWords [])

/-- R446 (15): the cached completion of a tag, if it is not 60 s old. -/
def State.cachedTag (s : State) (n tag : Nat) : Option Cached :=
  (s.sess n).cache.find? (fun c => c.tag == tag && decide (s.now < c.time + 60 * sec))

/-- R445 (15): the commands in flight in the device. -/
def State.inFlight (s : State) : Nat := s.kpe.sessions.foldl (fun n x => n + x.inflight.length) 0

/-- R444 to R450 (15): a command is taken: answered from flight or cache, turned away, or in flight from now on. -/
def State.commandPacket (s : State) (n tag op : Nat) (args : List Byte) : State :=
  if tag = 0xFFFF then s.answerNow n tag op .badRequest
  else
    match s.cmd n tag, s.cachedTag n tag with
    | some c, _ =>
      let s := s.bump (Reg.KPE_S_DUP_CNT n)
      let x := s.sess n
      if c.op != op then s.answerNow n tag op .tagConflict
      else
        match x.path with
        | some k => s.sendUnseq k 5 n x.unit x.cookie (leBytes 2 tag ++ leBytes 2 op)
        | none => s
    | none, some c =>
      let s := s.bump (Reg.KPE_S_DUP_CNT n)
      if c.op != op then s.answerNow n tag op .tagConflict else s.queueCtl n c.payload
    | none, none =>
      if 32 ≤ (s.sess n).inflight.length || 128 ≤ s.inFlight then (s.bump Reg.KPE_BUSY_CNT).answerNow n tag op .busy
      else
        let a := parseArgs op args
        let c : InFlight :=
          { tag := tag, op := op, args := a.getD .nop
            outcome := match s.turnedAway n op a with
              | some st => .ended st 0 []
              | none => .running }
        (s.bump (Reg.KPE_S_RX_CMD_CNT n)).mapSess n (fun x => { x with inflight := x.inflight ++ [c] })

/-- COMMAND (R444 to R450). -/
def execKpCommand (path : KpPath) (p : KpPacket) (t : Instant) (s : State) : Host.Outcome State Fault Refusal :=
  .next ((s.atT t).kpTake path p 3 (fun s =>
    (s.heard path p).commandPacket p.session (argNat p.payload 0 2) (argNat p.payload 2 2) (p.payload.drop 4)))

/-! ### Completions and the control flow (R438, R439, R458, R459) -/

/-- R446 (15): the replay cache with one more completion: the 64 latest. -/
def cacheIn (xs : List Cached) (c : Cached) : List Cached :=
  let ys := xs.filter (fun x => x.tag != c.tag) ++ [c]
  ys.drop (ys.length - 64)

/-- R458 (15): the target of an ABORT has not completed yet, so that the ABORT's own completion waits. -/
def State.targetFirst (s : State) (n : Nat) (c : InFlight) : Bool :=
  match c.args with
  | .abort g => g != c.tag && (s.cmd n g).isSome
  | _ => false

/-- COMMAND_COMPLETE (R444, R446, R458): a command that has ended passes its session's ordering point: its COMPLETION is queued and
cached. -/
def execCommandComplete (session tag : Nat) (t : Instant) (s : State) : Host.Outcome State Fault Refusal :=
  let s := s.atT t
  match s.cmd session tag with
  | some c =>
    match c.outcome with
    | .ended st detail result =>
      if s.targetFirst session c then .next s
      else
        let p : CtlPayload := .completion tag c.op st detail c.bytes (if s.ownsCvu then c.crc else 0) s.lastWords result
        let s := s.mapSess session (fun x => { x with
          inflight := x.inflight.filter (fun y => y.tag != tag)
          cache := cacheIn x.cache { tag := tag, op := c.op, time := s.now, payload := p } })
        .next (s.queueCtl session p)
    | .running => .next s
  | none => .next s

/-- R459, R502 (15, 16): what comes of a control packet's SEQ: DATA commits its bytes, and the reset that an ACTIVATE asked for is timed
from its completion. -/
def State.numbered (s : State) (n : Nat) (p : CtlPayload) : State :=
  match p with
  | .data tag _ _ _ _ plain =>
    s.mapCmd n tag (fun c => { c with bytes := c.bytes + plain.length, crc := crc64From c.crc plain })
  | .completion tag .. =>
    if s.upd.resetWaits = some (n, tag) then
      s.mapUpd (fun u => { u with resetWaits := none, resetAt := some (s.now + 100 * ms) })
    else s
  | _ => s

/-- CONTROL_PACKET_SEND (R438, R459): the oldest waiting control packet takes its SEQ and is sent, once the window has room. -/
def execControlPacketSend (session : Nat) (t : Instant) (s : State) : Host.Outcome State Fault Refusal :=
  let s := s.atT t
  let x := s.sess session
  if s.isolated .kpe then .next s
  else
    match x.waiting with
    | p :: _ =>
      let s' := s.pumpOne session
      .next (if (s'.sess session).nextSeq != x.nextSeq then s'.numbered session p else s')
    | [] => .next s

/-- RTO_EXPIRY (R439): no ACK has advanced for RTO: every unacknowledged packet is resent; at the expiry after 8 such rounds the session
is SUSPENDED (DEDUCED, log entry 27). -/
def execRtoExpiry (session : Nat) (t : Instant) (s : State) : Host.Outcome State Fault Refusal :=
  let s := s.atT t
  let x := s.sess session
  if x.state = .active && !x.unacked.isEmpty && x.ackAt + s.rto session * ms ≤ s.now && !s.isolated .kpe then
    if 8 ≤ x.rounds then .next (s.suspend session)
    else .next ((s.mapSess session (fun x => { x with rounds := x.rounds + 1, ackAt := s.now })).resendAll session)
  else .next s

/-- KEEPALIVE_EXPIRY (R434, R435): KEEPALIVE seconds without a valid packet, or SUSPENDED, close the session. -/
def execKeepaliveExpiry (session : Nat) (t : Instant) (s : State) : Host.Outcome State Fault Refusal :=
  let s := s.atT t
  let x := s.sess session
  let from_ := if x.state = .suspended then x.suspendedAt else x.lastAt
  if x.state != .free && from_ + s.keepalive session * sec ≤ s.now then .next (s.closeSession session 2) else .next s

end Sys2Proof.Machine
end

