-- ==== Sys2Proof/Machine/Commands.lean ====
section
/-! DEFINITION. The rows of KP's commands (R447 to R460, R498, 15 and 16), but for streams and UPDATE. A row acts on a session's command
in flight, named by its tag; a read makes one DATA packet at a time, and goes on while it is commanded again. -/

namespace Sys2Proof.Machine

/-! ### Beginning (R447) -/

/-- The command has not ended. -/
def InFlight.running (c : InFlight) : Bool :=
  match c.outcome with
  | .running => true
  | .ended .. => false

/-- R447 (15): the command uses the register path. -/
def InFlight.registerPath (c : InFlight) : Bool :=
  match c.args with
  | .regRead _ => true
  | .regWrite _ => true
  | .memRead space _ _ => space == 0
  | .memWrite space _ _ => space == 0
  | _ => false

/-- R447 (15): the commands of the session that came before have begun, and those on the register path have ended if this one uses it. -/
def State.kpTurn (s : State) (n : Nat) (c : InFlight) : Bool :=
  ((s.sess n).inflight.takeWhile (fun d => d.tag != c.tag)).all (fun d =>
    !d.running || (d.begun && !(c.registerPath && d.registerPath)))

/-- R447 (15): the command acts now, as `f` says: it is in flight, it has not ended, and its turn has come. -/
def State.kpAct (s : State) (n tag : Nat) (f : InFlight → State → State) : State :=
  match s.cmd n tag with
  | some c =>
    if c.running && s.kpTurn n c && !s.isolated .kpe then f c (s.mapCmd n tag (fun c => { c with begun := true })) else s
  | none => s

/-- R459 (15): the command has committed bytes. -/
def State.commit (s : State) (n tag bytes : Nat) : State := s.mapCmd n tag (fun c => { c with bytes := c.bytes + bytes })

/-! ### NOP, REG_READ and REG_WRITE (R448, R451) -/

/-- KP_NOP (R448). -/
def execKpNop (session tag : Nat) (t : Instant) (s : State) : Host.Outcome State Fault Refusal :=
  .next ((s.atT t).kpAct session tag (fun c s => match c.args with
    | .nop => s.endCmd session tag .complete 0 []
    | _ => s))

/-- R448 (15): bit i of the bitmap is 1 if access i ended in BUS_ERROR. -/
def errBitmap (xs : List Bool) : List Byte :=
  (List.range ((xs.length + 7) / 8)).map (fun b =>
    BitVec.ofNat 8 ((List.range 8).foldl (fun a i => if xs.getD (8 * b + i) false then a + 2 ^ i else a) 0))

/-- R451 (15): the words read at the addresses in order, and which accesses ended in BUS_ERROR. -/
def State.readMany (s : State) (m : Master) (as : List Nat) : State × List Word × List Bool :=
  as.foldl (fun r a =>
    let s := r.1.readWord m a
    (s, r.2.1 ++ [s.bus.data], r.2.2 ++ [s.bus.error])) (s, [], [])

/-- REG_READ (R451). -/
def execRegRead (session tag : Nat) (t : Instant) (s : State) : Host.Outcome State Fault Refusal :=
  .next ((s.atT t).tuneIfDue.kpAct session tag (fun c s => match c.args with
    | .regRead as =>
      let r := s.readMany (.session session) as
      (r.1.commit session tag (4 * as.length)).endCmd session tag .complete 0
        (r.2.1.flatMap (fun w => leBytes 4 w.toNat) ++ errBitmap r.2.2)
    | _ => s))

/-- R451 (15): the pairs are written in order; which accesses ended in BUS_ERROR. Where a write brings a reset that ends the command, the
rest is not performed. -/
def State.writeMany (s : State) (n tag : Nat) (ps : List (Nat × Word)) : State × List Bool :=
  ps.foldl (fun r p =>
    if (r.1.cmd n tag).isSome then
      let s := r.1.writeWord (.session n) p.1 p.2
      (s, r.2 ++ [s.bus.error])
    else r) (s, [])

/-- REG_WRITE (R451). -/
def execRegWrite (session tag : Nat) (t : Instant) (s : State) : Host.Outcome State Fault Refusal :=
  .next ((s.atT t).tuneIfDue.kpAct session tag (fun c s => match c.args with
    | .regWrite ps =>
      let r := s.writeMany session tag ps
      (r.1.commit session tag (8 * ps.length)).endCmd session tag .complete 0 (errBitmap r.2)
    | _ => s))

/-! ### DATA (R456, R458, R459) -/

/-- R456 (15): the bytes of data that a DATA packet of the session's path can carry. -/
def State.dataRoom (s : State) (n : Nat) : Nat :=
  match (s.sess n).path with
  | some k => s.kpRoom k.mac - 16
  | none => 0

/-- R456, R459 (15): a DATA packet of the command has no SEQ yet, or a block of its flow has not been released. -/
def State.dataWaits (s : State) (n tag : Nat) : Bool :=
  (s.sess n).waiting.any (fun p => match p with
    | .data g .. => g == tag
    | _ => false) || s.cmp.closed.any (fun b => b.flow == .read n tag)

/-- R456 (15): a DATA packet of plain bytes is formed. -/
def State.formData (s : State) (n tag flags rows offset : Nat) (bytes : List Byte) : State :=
  if bytes.isEmpty then s else s.queueCtl n (.data tag flags rows offset bytes bytes)

/-- R458 (15): all DATA of a read has been formed: it ends with this status once every byte is committed. -/
def State.finishRead (s : State) (n tag : Nat) (st : Status) (detail : Nat) : State :=
  let s := s.mapRng (fun r => { r with reads := r.reads.filter (fun y => !(y.1 == n && y.2.1 == tag)) })
  let s := match (s.cmd n tag).bind (fun c => c.ctx) with
    | some i => s.endCtx i
    | none => s
  s.mapCmd n tag (fun c => { c with final := some (st, detail), ctx := none })

/-- R448, R455 (15): the RESULT of a CAP_READ: the capture's RESULT, and its map. -/
def State.readResult (s : State) (c : InFlight) : List Byte :=
  match c.args with
  | .capRead num .. =>
    match s.rng.desc.find? (fun d => d.num == num) with
    | some d => leBytes 1 d.result.code ++ leBytes 1 d.map.length ++ leBytes 6 0 ++ d.map.flatMap (fun e => leBytes 8 e.word.toNat)
    | none => []
  | _ => []

/-- R458 (15): a read whose bytes have all been committed ends. -/
def State.endRead (s : State) (n tag : Nat) (c : InFlight) : State :=
  match c.final with
  | some (st, d) =>
    if s.dataWaits n tag then s else s.endCmd n tag st d (if st = .complete then s.readResult c else [])
  | none => s

/-- A read makes its next DATA packet as `f` says, or waits for the one before to have its SEQ, or ends. -/
def State.readStep (s : State) (n tag : Nat) (c : InFlight) (f : State → State) : State :=
  if c.final.isSome then s.endRead n tag c else if s.dataWaits n tag then s else f s

/-! ### MEM_READ, MEM_WRITE and LOAD (R452, R453) -/

/-- R452 (15): the words from an address on, up to `k` of them, up to the first BUS_ERROR. -/
def State.readRun (s : State) (m : Master) (a k : Nat) : State × List Byte × Bool :=
  (List.range k).foldl (fun r i =>
    if r.2.2 then r
    else
      let s := r.1.readWord m (a + 4 * i)
      if s.bus.error then (s, r.2.1, true) else (s, r.2.1 ++ leBytes 4 s.bus.data.toNat, false)) (s, [], false)

/-- MEM_READ (R452) of SPACE 0: the next packet. -/
def State.memReadWords (s : State) (n tag : Nat) (c : InFlight) (addr len : Nat) : State :=
  let r := s.readRun (.session n) (addr + c.next) (min (s.dataRoom n / 4) ((len - c.next) / 4))
  let next := c.next + r.2.1.length
  let s := (r.1.formData n tag 0 0 c.next r.2.1).mapCmd n tag (fun c => { c with next := next })
  if r.2.2 then s.finishRead n tag .busError 0 else if len ≤ next then s.finishRead n tag .complete 0 else s

/-- R452 (15): how many bytes from an address on DMC delivers, up to `k`. -/
def State.dramRun (s : State) (a k : Nat) : Nat := ((List.range k).takeWhile (fun i => s.dramTakes (a + i))).length

/-- R452 (15): the offset of the first poisoned byte of a range in a transfer that begins at `base`, in 64-byte units. -/
def State.firstPoison (s : State) (base a k : Nat) : Option Nat :=
  ((List.range (k / 64 + 2)).map (fun i => a / 64 + i)).find? (fun l => decide (64 * l < a + k) && s.lineBad (64 * l))
    |>.map (fun l => (max (64 * l) base - base) / 64)

/-- MEM_READ (R452) of SPACE 1: the next packet; a poisoned line is delivered as read and marks its packet. -/
def State.memReadDram (s : State) (n tag : Nat) (c : InFlight) (addr len : Nat) : State :=
  let want := min (s.dataRoom n / 4 * 4) (len - c.next)
  let k := s.dramRun (addr + c.next) want
  let bad := s.firstPoison addr (addr + c.next) k
  let poison := c.poisonAt.or bad
  let s := (s.formData n tag (if bad.isSome then 2 else 0) 0 c.next (s.dramBytes (addr + c.next) k)).mapCmd n tag (fun c =>
    { c with next := c.next + k, poisonAt := poison })
  if k < want then s.finishRead n tag .busError 0
  else if len ≤ c.next + k then
    match poison with
    | some u => s.finishRead n tag .poisoned (u % 2 ^ 16)
    | none => s.finishRead n tag .complete 0
  else s

/-- MEM_READ (R452). -/
def execMemRead (session tag : Nat) (t : Instant) (s : State) : Host.Outcome State Fault Refusal :=
  .next ((s.atT t).tuneIfDue.kpAct session tag (fun c s => match c.args with
    | .memRead space addr len =>
      s.readStep session tag c (fun s => if space = 0 then s.memReadWords session tag c addr len else s.memReadDram session tag c addr len)
    | _ => s))

/-- R452 (15): the range lies in the upload area. -/
def inUpload (a n : Nat) : Bool := decide (0x70000000 ≤ a) && decide (a + n ≤ 0x80000000)

/-- R452 (15): the words of the data are written from an address on, up to the first BUS_ERROR; how many were. -/
def State.writeRun (s : State) (n tag a : Nat) (ws : List Word) : State × Nat × Bool :=
  ws.zipIdx.foldl (fun r w =>
    if r.2.2 || (r.1.cmd n tag).isNone then r
    else
      let s := r.1.writeWord (.session n) (a + 4 * w.2) w.1
      (s, if s.bus.error then r.2.1 else r.2.1 + 1, s.bus.error)) (s, 0, false)

/-- MEM_WRITE (R452). -/
def State.memWriteTo (s : State) (n tag space addr : Nat) (bs : List Byte) : State :=
  if space = 0 then
    let r := s.writeRun n tag addr (payloadWords bs)
    (r.1.commit n tag (4 * r.2.1)).endCmd n tag (if r.2.2 then .busError else .complete) 0 []
  else if !inUpload addr bs.length then s.endCmd n tag .range 0 []
  else
    let k := s.dramRun addr bs.length
    let s := if k = 0 then s else s.dramWrite addr (bs.take k)
    (s.commit n tag k).endCmd n tag (if k < bs.length then .busError else .complete) 0 []

/-- MEM_WRITE (R452). -/
def execMemWrite (session tag : Nat) (t : Instant) (s : State) : Host.Outcome State Fault Refusal :=
  .next ((s.atT t).tuneIfDue.kpAct session tag (fun c s => match c.args with
    | .memWrite space addr bs => s.memWriteTo session tag space addr bs
    | _ => s))

/-- LOAD (R453, R348): how many of the given bytes are read: those of the header, and with a length that fits those of the image. -/
def State.loadSpan (s : State) (addr len : Nat) : Nat :=
  let n := imgNat (s.dramBytes addr (min len 64)) 12 4
  if len < 64 || len < n then min len 64 else max 64 n

/-- LOAD (R65, R348, R453): the image in the upload area is loaded under the session's class; a poisoned line in it is an uncorrectable
error of the session's context. -/
def State.loadFrom (s : State) (n tag addr len : Nat) : State :=
  let k := s.loadSpan addr len
  if !inUpload addr len then s.endCmd n tag .range 0 []
  else if s.dramRun addr k < k then s.endCmd n tag .busError 0 []
  else if (s.firstPoison addr addr k).isSome then s.blockFault .kpe (some n) 0xF1 0
  else
    let r := s.loadImage (.session n) (s.dramBytes addr k)
    let s := r.1.commit n tag r.2.2
    match r.2.1 with
    | .done => s.endCmd n tag .complete 0 []
    | .bad => s.endCmd n tag .imageBad 0 []
    | .busError => s.endCmd n tag .busError 0 []
    | .refused => s.endCmd n tag .stageRefused (s.rd Reg.CHP_TSTAT_REFUSAL) []

/-- LOAD (R453). -/
def execKpLoad (session tag : Nat) (t : Instant) (s : State) : Host.Outcome State Fault Refusal :=
  .next ((s.atT t).tuneIfDue.kpAct session tag (fun c s => match c.args with
    | .load addr len => s.loadFrom session tag addr len
    | _ => s))

/-! ### Captures (R454, R457) -/

/-- CAP_ARM (R454): the request goes to RNG, whose answer ends the command (CAPTURE_REQUEST). -/
def State.armCapture (s : State) (n tag trigger first last pre post mode : Nat) : State :=
  let now := s.devTime
  if now + 10000000000 < trigger then s.endCmd n tag .badRequest 0 []
  else
    let trig : Int := if trigger = 0 then 0 else ((trigger : Int) - now) * 1000
    let q : CapRequest :=
      { tag := s.zon.nextTag, zone := 257, trigAt := ((s.now : Int) + trig).toNat, cmd := some (n, tag), pre := pre, post := post
        first := first, last := last, stream := mode == 1, members := [] }
    s.mapZon (fun z => { z with requests := z.requests ++ [q], nextTag := z.nextTag + 1 })

/-- CAP_ARM (R454). -/
def execCapArm (session tag : Nat) (t : Instant) (s : State) : Host.Outcome State Fault Refusal :=
  .next ((s.atT t).kpAct session tag (fun c s => match c.args with
    | .capArm trigger first last pre post mode => if c.begun then s else s.armCapture session tag trigger first last pre post mode
    | _ => s))

/-- CAP_ABORT (R328, R457). -/
def execCapAbort (session tag : Nat) (t : Instant) (s : State) : Host.Outcome State Fault Refusal :=
  .next ((s.atT t).kpAct session tag (fun c s => match c.args with
    | .capAbort num =>
      match s.capture num with
      | none => s.endCmd session tag .notFound 0 []
      | some i =>
        if (s.desc i).state = .closed then s.endCmd session tag .alreadyClosed 0 []
        else (s.abortDesc i).endCmd session tag .complete 0 []
    | _ => s))

/-- CAP_RELEASE (R328, R457). -/
def execCapRelease (session tag : Nat) (t : Instant) (s : State) : Host.Outcome State Fault Refusal :=
  .next ((s.atT t).kpAct session tag (fun c s => match c.args with
    | .capRelease num =>
      match s.capture num with
      | none => s.endCmd session tag .notFound 0 []
      | some i =>
        if (s.desc i).state = .closed then (s.releaseDesc i).endCmd session tag .complete 0 []
        else s.endCmd session tag .captureOpen 0 []
    | _ => s))

/-! ### Row reads (R455, R456) -/

/-- What a row read finds at an offset. -/
inductive RowFate where
  /-- no row to deliver there -/
  | skip
  | ready (r : RingRow)
  /-- R455: not yet committed -/
  | wait
  /-- R319: released -/
  | lost
  deriving DecidableEq, Repr

/-- R315, R455 (11, 15): what a RING_READ of rows from `row` on finds at offset `o`. -/
def State.ringFate (s : State) (row o : Nat) : RowFate :=
  match s.ringRow (row + o) with
  | some r => .ready r
  | none => if s.rng.wrow ≤ row + o then .wait else .lost

/-- R327 (11): the kind of the map's span that holds the offset. -/
def Desc.spanKind (d : Desc) (o : Nat) : Option Nat :=
  (d.map.find? (fun e => decide (e.first ≤ o) && decide (o < e.first + e.count))).map (fun e => e.kind)

/-- R327, R455 (11, 15): what a CAP_READ finds at offset `o` from t − pre_rows; `mark`: the oldest row retained at acceptance. -/
def State.capFate (s : State) (num mark o : Nat) : RowFate :=
  match s.rng.desc.find? (fun d => d.num == num) with
  | none => .lost
  | some d =>
    let k := d.spanKind o
    if k = some 1 || k = some 4 || k = some 5 then .skip
    else
      match d.trow with
      | none => .wait
      | some t =>
        if o + t < d.pre then .skip
        else
          match s.ringRow (o + t - d.pre) with
          | some r => if k = some 2 then .skip else .ready r
          | none =>
            if s.rng.wrow ≤ o + t - d.pre then (if d.state = .wait then .wait else .skip)
            else if o + t - d.pre < mark then .skip else .lost

/-- The first offset from `o` on, within `n`, that is not to be skipped. -/
def pastSkips (fate : Nat → RowFate) (n o : Nat) : Nat :=
  match n with
  | 0 => o
  | n + 1 => match fate o with
    | .skip => pastSkips fate n (o + 1)
    | _ => o

/-- The consecutive rows from offset `o` on, at most `n`, that can be delivered. -/
def readyRows (fate : Nat → RowFate) (n o : Nat) : List RingRow :=
  match n with
  | 0 => []
  | n + 1 => match fate o with
    | .ready r => r :: readyRows fate n (o + 1)
    | _ => []

/-- R326 (11): a row is read for delivery: its lines with an uncorrectable error are counted, and mapped in the capture. -/
def State.readLines (s : State) (num : Option Nat) (o : Nat) (r : RingRow) (first last : Nat) : State :=
  let bad := s.badIn r first last
  if bad = 0 then s
  else
    let s := s.mapRng (fun g => { g with desc := g.desc.map (fun d =>
      if num = some d.num && d.spanKind o != some 3 then d.mark o 1 3 else d) })
    (s.bumpBy Reg.RNG_ECC_CNT bad).event [Reg.RNG_STAT_ECC]

/-- R456 (15): one more row enters the read's block, which closes first where the row would not fit or is not the next one. -/
def State.feedRow (s : State) (i base o first last : Nat) (r : RingRow) (room : Nat) : State :=
  let k := s.ctx i
  let xs := s.rowSamples r first last
  let next := (k.rows.getLast?).all (fun y => y.index + 1 == o - base)
  let s := if room < storedSize (k.samples.length + xs.length) || !next then s.closeCtxBlock i false false false else s
  s.feedCtx i { index := o - base, sweep := r.sweep, formedAt := s.now, qflags := 0, data := [] } xs

/-- R456 (15): the next DATA packet of an uncompressed row read: whole rows, or a part of a row that fits no packet. -/
def State.formRows (s : State) (n tag : Nat) (c : InFlight) (rows : List RingRow) (o base first last room : Nat) : State :=
  let width := 2 * (last + 1 - first)
  if width ≤ room then
    let bytes := rows.flatMap (fun r => sampleBytes (s.rowSamples r first last))
    (s.formData n tag 0 rows.length ((o - base) * width) bytes).mapCmd n tag (fun c => { c with next := o + rows.length, part := 0 })
  else
    match rows with
    | [] => s
    | r :: _ =>
      let bytes := ((sampleBytes (s.rowSamples r first last)).drop c.part).take (room / 2 * 2)
      let part := c.part + bytes.length
      (s.formData n tag 0 1 ((o - base) * width + c.part) bytes).mapCmd n tag (fun c =>
        if width ≤ part then { c with next := o + 1, part := 0 } else { c with part := part })

/-- R455, R456 (15): a row read goes on from its next offset: one row into its block, or one DATA packet; it ends at `stop`, or where the
row that it needs has been released. -/
def State.rowStep (s : State) (n tag : Nat) (c : InFlight) (num : Option Nat) (base first last : Nat)
    (fateOf : State → Nat → RowFate) : State :=
  let room := s.dataRoom n
  let width := 2 * (last + 1 - first)
  let o := pastSkips (fateOf s) (c.stop - c.next) c.next
  if c.stop ≤ o then s.finishRead n tag .complete 0
  else
    match fateOf s o with
    | .lost => s.finishRead n tag .dataOverwritten 0
    | .ready r =>
      let rows := match c.ctx with
        | some _ => [r]
        | none => readyRows (fateOf s) (min (c.stop - o) (max 1 (room / width))) o
      let s := rows.zipIdx.foldl (fun s x => s.readLines num (o + x.2) x.1 first last) s
      let s := match c.ctx with
        | some i => (s.feedRow i base o first last r room).mapCmd n tag (fun c => { c with next := o + 1 })
        | none => s.formRows n tag c rows o base first last room
      match s.cmd n tag with
      | some d => if d.stop ≤ pastSkips (fateOf s) (d.stop - d.next) d.next then s.finishRead n tag .complete 0 else s
      | none => s
    | _ => s

/-- R456 (15): a row read takes a context, where it asks for compression and a row fits a packet as a block. -/
def State.readCtx (s : State) (n tag pred width : Nat) : State :=
  if pred = 0xFF || s.dataRoom n < storedSize width then s
  else
    let r := s.takeCtx (.read n tag) pred width
    r.1.mapCmd n tag (fun c => { c with ctx := r.2 })

/-- CAP_READ (R455): acceptance. -/
def State.capReadBegin (s : State) (n tag num from_ count first last pred : Nat) : State :=
  match s.capture num with
  | none => s.endCmd n tag .notFound 0 []
  | some i =>
    let d := s.desc i
    if d.stream || first < d.first || d.last < last then s.endCmd n tag .badRequest 0 []
    else
      let w := d.pre + d.post
      let stop := if count = 0 then w else min w (from_ + count)
      (s.mapCmd n tag (fun c => { c with next := from_, stop := stop, mark := s.rng.oldestRow })).readCtx n tag pred (last + 1 - first)

/-- CAP_READ (R455, R456). -/
def execCapRead (session tag : Nat) (t : Instant) (s : State) : Host.Outcome State Fault Refusal :=
  .next ((s.atT t).kpAct session tag (fun c s => match c.args with
    | .capRead num from_ count first last pred =>
      if c.begun then
        s.readStep session tag c (fun s => s.rowStep session tag c (some num) from_ first last (fun s o => s.capFate num c.mark o))
      else s.capReadBegin session tag num from_ count first last pred
    | _ => s))

/-- R318 (11): the row that a ring read needs next. -/
def State.noteRead (s : State) (n tag row : Nat) : State :=
  match s.cmd n tag with
  | some c =>
    if c.final.isSome then s
    else s.mapRng (fun r => { r with
      reads := r.reads.filter (fun y => !(y.1 == n && y.2.1 == tag)) ++ [(n, tag, row + c.next)] })
  | none => s

/-- RING_READ (R455): acceptance. -/
def State.ringReadBegin (s : State) (n tag row count first last pred : Nat) : State :=
  if first < s.rd Reg.PHS_RANGE_CAPO || s.rd Reg.PHS_RANGE_END < last then s.endCmd n tag .badRequest 0 []
  else if s.ringFate row 0 = .lost then s.endCmd n tag .dataOverwritten 0 []
  else
    ((s.mapCmd n tag (fun c => { c with next := 0, stop := count })).readCtx n tag pred (last + 1 - first)).noteRead n tag row

/-- RING_READ (R318, R455, R456). -/
def execRingRead (session tag : Nat) (t : Instant) (s : State) : Host.Outcome State Fault Refusal :=
  .next ((s.atT t).kpAct session tag (fun c s => match c.args with
    | .ringRead row count first last pred =>
      if c.begun then
        s.readStep session tag c (fun s =>
          (s.rowStep session tag c none 0 first last (fun s o => s.ringFate row o)).noteRead session tag row)
      else s.ringReadBegin session tag row count first last pred
    | _ => s))

/-! ### LOG_READ (R498) -/

/-- R498 (16): the next DATA packet of records, in SEQ order; DETAIL is 1 where records before the first one were erased. -/
def State.logStep (s : State) (n tag : Nat) (c : InFlight) : State :=
  let recs := (s.evr.held.filter (fun r => decide (c.next ≤ r.seq))).take (min c.stop (s.dataRoom n / 32))
  let gone := match recs with
    | r :: _ => c.mark == 0 && decide (max 1 c.next < r.seq)
    | [] => false
  let detail := if gone then 1 else c.part
  match recs.getLast? with
  | none => s.finishRead n tag .complete detail
  | some r =>
    let s := (s.formData n tag 0 recs.length (32 * c.mark) (recs.flatMap EvRec.bytes)).mapCmd n tag (fun c =>
      { c with next := r.seq + 1, stop := c.stop - recs.length, part := detail, mark := c.mark + recs.length })
    if c.stop ≤ recs.length || !s.evr.held.any (fun x => decide (r.seq < x.seq)) then s.finishRead n tag .complete detail else s

/-- LOG_READ (R455, R498). -/
def execLogRead (session tag : Nat) (t : Instant) (s : State) : Host.Outcome State Fault Refusal :=
  .next ((s.atT t).kpAct session tag (fun c s => match c.args with
    | .logRead start count =>
      if c.begun then s.readStep session tag c (fun s => s.logStep session tag c)
      else s.mapCmd session tag (fun c => { c with next := start, stop := count })
    | _ => s))

/-! ### MODE and ABORT (R457, R458) -/

/-- MODE (R31, R457): CHP.MODE.REQ is written for the session. -/
def execKpMode (session tag : Nat) (t : Instant) (s : State) : Host.Outcome State Fault Refusal :=
  .next ((s.atT t).tuneIfDue.kpAct session tag (fun c s => match c.args with
    | .mode m =>
      let was := s.chp.mode
      let s := s.writeWord (.session session) Reg.CHP_MODE_REQ.addr (Reg.CHP_MODE_REQ.put 0 m)
      let cur := s.chp.mode.code
      if s.chp.mode != was && cur = m then s.endCmd session tag .complete 0 (leBytes 1 cur)
      else s.endCmd session tag .refused cur (leBytes 1 cur)
    | _ => s))

/-- R458 (15): an ABORT at the session's ordering point: a target whose last byte is committed completes; another one in flight ends
ABORTED, keeping what it committed; a finished or unknown tag, or the ABORT's own, is NOT_FOUND. -/
def State.abortCmd (s : State) (n tag target : Nat) : State :=
  match s.cmd n target with
  | none => s.endCmd n tag .notFound 0 []
  | some c =>
    if target = tag || !c.running then s.endCmd n tag .notFound 0 []
    else if c.final.isSome && !s.dataWaits n target then (s.endRead n target c).endCmd n tag .notFound 0 []
    else ((s.dropCmd n target).endCmd n target .aborted 0 []).endCmd n tag .complete 0 []

/-- ABORT (R458 to R460): it does not wait for its turn. -/
def execKpAbort (session tag : Nat) (t : Instant) (s : State) : Host.Outcome State Fault Refusal :=
  let s := s.atT t
  match s.cmd session tag with
  | some c =>
    match c.args with
    | .abort target => if c.running && !s.isolated .kpe then .next (s.abortCmd session tag target) else .next s
    | _ => .next s
  | none => .next s

end Sys2Proof.Machine
end

