-- ==== Sys2Proof/Machine/Subscribe.lean ====
section
/-! DEFINITION. Stream subscriptions and their packets (R461 to R470, 15): SUBSCRIBE, UNSUBSCRIBE, FLUSH, and the rows by which a stream
packet is formed, sent or dropped. -/

namespace Sys2Proof.Machine

/-! ### SUBSCRIBE (R461, R462) -/

/-- R461 (15): the kind of a code. -/
def kindOf (k : Nat) : StreamKind :=
  match k with
  | 0 => .phase | 1 => .temp | 2 => .event | 3 => .pluck | _ => .capture

/-- R462 (15): a subscription's rate in bytes/s, as a fraction: only PHASE and CAPTURE have one. -/
def State.subRate (s : State) (x : Subscription) : Nat × Nat :=
  let per (bytes d : Nat) : Nat × Nat :=
    (bytes * s.activeSlots.length * sec, max 1 (s.rd Reg.PSQ_PERIOD_TICKS * tick * d))
  match x.kind with
  | .phase => per ((x.last + 1 - x.first) * 2 * (if x.preset = 5 then 3 else 1)) (presetD x.preset)
  | .capture => if s.ringOn then per (64 * s.ringGeometry.1) (presetD (s.rd Reg.PFL_TAP_RING)) else (0, 1)
  | _ => (0, 1)

/-- R400, R402, R462 (14, 15): the line rate of a path in bits/s; the Peer Link counts at width 2. -/
def State.lineRate (s : State) (m : Nat) : Nat :=
  if m < 4 then (if s.split m then 50000000000 else 100000000000) else 106250000000

/-- R462 (15): with `x` the rates of all subscriptions sending on MAC `m` would exceed 90 % of its line rate. -/
def State.overBand (s : State) (m : Nat) (x : Subscription) : Bool :=
  let mine := (s.subsWhere (fun y => (s.sess y.session).path.any (fun k => k.mac == m))).filterMap s.sub
  match sumCosts ((x :: mine).map (fun y => some (s.subRate y))) with
  | some (p, q) => decide (9 * s.lineRate m * q < 80 * p)
  | none => true

/-- R461, R467, R470 (15): the subscription takes the lowest free number, and a context where it asks for compression. -/
def State.subscribeTo (s : State) (i : Nat) (x : Subscription) : State :=
  let s := s.mapKpe (fun k => { k with subs := modAt k.subs i (fun _ => some x) })
  if x.pred = 0xFF then s
  else
    let r := s.takeCtx (.sub i) x.pred (if x.kind = .capture then 0 else x.last + 1 - x.first)
    r.1.mapSub i (fun x => { x with ctx := r.2, noContext := r.2.isNone })

/-- SUBSCRIBE (R461, R462). -/
def execSubscribe (session tag : Nat) (t : Instant) (s : State) : Host.Outcome State Fault Refusal :=
  .next ((s.atT t).kpAct session tag (fun c s => match c.args with
    | .subscribe kind preset pred first last maxUs =>
      let x : Subscription :=
        { session := session, kind := kindOf kind, preset := preset, pred := pred, first := first, last := last
          maxUs := max 100 (min 1000000 maxUs), gap := !s.chp.mode.light }
      match (List.range 512).find? (fun i => (s.sub i).isNone) with
      | some i =>
        if 64 ≤ (s.subsWhere (fun y => y.session == session)).length then s.endCmd session tag .noResource 0 []
        else if (s.sess session).path.any (fun k => s.overBand k.mac x) then s.endCmd session tag .noBandwidth 0 []
        else (s.subscribeTo i x).endCmd session tag .complete 0 (leBytes 2 i)
      | none => s.endCmd session tag .noResource 0 []
    | _ => s))

/-- R448 (15): the session's own subscription of a number. -/
def State.ownSub (s : State) (n i : Nat) : Bool := (s.sub i).any (fun x => x.session == n)

/-- UNSUBSCRIBE (R448, R469). -/
def execUnsubscribe (session tag : Nat) (t : Instant) (s : State) : Host.Outcome State Fault Refusal :=
  .next ((s.atT t).kpAct session tag (fun c s => match c.args with
    | .unsubscribe i =>
      if s.ownSub session i then (s.endSub i).endCmd session tag .complete 0 [] else s.endCmd session tag .notFound 0 []
    | _ => s))

/-! ### Packets of rows and records (R463 to R466) -/

/-- R465 (15): bytes of one position in a row. -/
def entrySize (x : Subscription) : Nat :=
  if x.kind = .pluck || (x.kind = .phase && x.preset = 5) then 6 else 2

/-- R465, R466 (15): the data of positions `a` to `a + n − 1` of a row: with ACC the increments come first, then the ACC values. -/
def runData (x : Subscription) (data : List Byte) (a n : Nat) : List Byte :=
  if x.kind = .phase && x.preset = 5 then
    let w := data.length / 6
    ((data.drop (2 * a)).take (2 * n)) ++ ((data.drop (2 * w + 4 * a)).take (4 * n))
  else (data.drop (entrySize x * a)).take (entrySize x * n)

/-- R466 (15): the rows after `r` that may share its packet. -/
def sharing (x : Subscription) (r : StreamRow) (rows : List StreamRow) : List StreamRow :=
  match rows with
  | [] => []
  | y :: rest =>
    if (x.kind = .phase || x.kind = .capture) && y.index = r.index + 1 && shared y.qflags = shared r.qflags && !y.retuned
        && y.data.length = r.data.length then y :: sharing x y rest
    else []

/-- R466 (15): a row that fits no packet goes in packets of position runs. -/
def State.formRuns (s : State) (i : Nat) (x : Subscription) (r : StreamRow) (room : Nat) : State :=
  let n := r.data.length / entrySize x
  let k := max 1 (room / entrySize x)
  let sp := s.packetSpan x r
  let s := s.mapSub i (fun x => { x with rows := x.rows.drop 1 })
  (List.range (ceilDiv n k)).foldl (fun s j =>
    let w := min k (n - j * k)
    s.formPacket i [r] (runData x r.data (j * k) w) 0 (s.profileFlags x r.index) (sp.1 + j * k) w) s

/-- R463 to R466 (15): the next packet of subscription `i`'s rows, where it is full, or `due`: it is to go as it is. -/
def State.formRowPacket (s : State) (i : Nat) (x : Subscription) (due : Bool) : State :=
  match x.rows with
  | [] => s
  | r :: rest =>
    let room := s.streamRoom x.session
    if room < r.data.length then s.formRuns i x r room
    else
      let same := r :: sharing x r rest
      let k := max 1 (room / max 1 r.data.length)
      let rows := same.take k
      let full := decide (k ≤ same.length) || decide (same.length < x.rows.length) || x.kind = .temp || x.kind = .pluck
      if !full && !due then s
      else
        let sp := s.packetSpan x r
        (s.formPacket i rows (rows.flatMap (fun y => y.data)) 0 (s.profileFlags x r.index) sp.1 sp.2).mapSub i (fun x =>
          { x with rows := x.rows.drop rows.length })

/-- R463 to R466 (15): the next packet of subscription `i`'s event records, where it is full or due. -/
def State.formEvents (s : State) (i : Nat) (x : Subscription) (due : Bool) : State :=
  let k := max 1 (s.streamRoom x.session / 32)
  if x.events.isEmpty || (!due && x.events.length < k) then s
  else
    let es := x.events.take k
    let rows := es.map (fun e => ({
      index := x.formed % 2 ^ 64, sweep := e.1.sweep, formedAt := e.2, qflags := if s.chp.safe then 32 else 0
      data := e.1.bytes } : StreamRow))
    (s.formPacket i rows (rows.flatMap (fun r => r.data)) 0 0 0 0).mapSub i (fun x =>
      { x with events := x.events.drop es.length, formed := x.formed + es.length })

/-- R468 (15): rows and records that wait while nothing is formed are lost. -/
def State.loseWaiting (s : State) (i : Nat) (x : Subscription) : State :=
  if x.rows.isEmpty && x.events.isEmpty then s
  else s.mapSub i (fun x => { x with rows := [], events := [], gap := true })

/-- R466, R468, R470 (15): one packet of subscription `i` is formed, where there is one to form. -/
def State.formNext (s : State) (i : Nat) (due : Bool) : State :=
  match s.sub i with
  | none => s
  | some x =>
    if !s.forms x then s.loseWaiting i x
    else if x.kind = .event then s.formEvents i x due
    else s.formRowPacket i x due

/-- STREAM_PACKET_FORM (R463 to R466): a packet of the subscription is formed once it is full; where the path accepts, the packets that
have been formed are sent. -/
def execStreamPacketForm (sub : Nat) (accepts : Bool) (t : Instant) (s : State) : Host.Outcome State Fault Refusal :=
  let s := s.atT t
  if s.isolated .kpe then .next s
  else
    let s := s.formNext sub false
    .next (if accepts then s.sendStreams sub else s)

/-- R466, R467 (15): MAX_US has passed since the first row of subscription `x` was formed: in its rows, its records or its open block. -/
def State.fillDue (s : State) (x : Subscription) : Bool :=
  let old (a : Nat) : Bool := decide (a + x.maxUs * us ≤ s.now)
  x.rows.head?.any (fun r => old r.formedAt) || x.events.head?.any (fun e => old e.2)
    || x.ctx.any (fun c => !(s.ctx c).samples.isEmpty && old (s.ctx c).openAt)

/-- STREAM_FILL_TIMEOUT (R466, R467): MAX_US after its first row a packet goes as it is, and an open block closes. -/
def execStreamFillTimeout (sub : Nat) (accepts : Bool) (t : Instant) (s : State) : Host.Outcome State Fault Refusal :=
  let s := s.atT t
  match s.sub sub with
  | some x =>
    if s.isolated .kpe || !s.fillDue x then .next s
    else
      let s := s.formNext sub true
      let s := match x.ctx with
        | some c => s.closeCtxBlock c true false false
        | none => s
      .next (if accepts then s.sendStreams sub else s)
  | none => .next s

/-- STREAM_PACKET_DROP (R468): the subscription's oldest formed packet that its path has not accepted within 100 µs is dropped. -/
def execStreamPacketDrop (sub : Nat) (t : Instant) (s : State) : Host.Outcome State Fault Refusal :=
  let s := s.atT t
  match s.kpe.stream.find? (fun p => p.sub == sub) with
  | some p =>
    if p.formedAt + 100 * us ≤ s.now then
      let s := s.mapKpe (fun k => { k with stream := k.stream.filter (fun q => !(q.sub == sub && q.seq == p.seq)) })
      .next ((s.bump (Reg.KPE_S_STREAM_DROP_CNT p.session)).lost sub)
    else .next s
  | none => .next s

/-! ### FLUSH (R335, R467) -/

/-- R467 (15): FLUSH: the rows and records that wait go into packets as they are, and the open block closes. -/
def State.flushSub (s : State) (i : Nat) : State :=
  match s.sub i with
  | none => s
  | some x =>
    let s := (List.range (x.rows.length + x.events.length)).foldl (fun s _ => s.formNext i true) s
    match x.ctx with
    | some c => s.closeCtxBlock c true false false
    | none => s

/-- FLUSH (R448, R467): it completes when the block has been formed. -/
def execKpFlush (session tag : Nat) (t : Instant) (s : State) : Host.Outcome State Fault Refusal :=
  .next ((s.atT t).kpAct session tag (fun c s => match c.args with
    | .flush i =>
      if !s.ownSub session i then s.endCmd session tag .notFound 0 []
      else
        let s := if c.begun then s else s.flushSub i
        if s.cmp.closed.any (fun b => b.flow == .sub i) then s else s.endCmd session tag .complete 0 []
    | _ => s))

end Sys2Proof.Machine
end

