-- ==== Sys2Proof/Machine/Update.lean ====
section
/-! DEFINITION. The subops of KP's UPDATE command (R502 to R505, 16). -/

namespace Sys2Proof.Machine

/-- R490, R502 (16): an UPDATE subop ends with a status, and its record is formed. -/
def State.endUpdate (s : State) (n tag op : Nat) (st : Status) (result : List Byte) : State :=
  (s.record 1 evUpdate (op + st.code * 2 ^ 8)).endCmd n tag st 0 result

/-- R502 (16): the subop acts now, as `f` says, with FLAGS, OFFSET, LEN and data: subops are served in SERVICE and RECOVERY alone, and 1 to
6 only while SEAL_N is high. -/
def State.updAct (s : State) (n tag op : Nat) (f : Nat → Nat → Nat → List Byte → State → State) : State :=
  s.kpAct n tag (fun c s => match c.args with
    | .update o flags offset len data =>
      if o != op then s
      else if s.chp.mode != .service && s.chp.mode != .recovery then s.endUpdate n tag op .wrongMode []
      else if op ≤ 6 && !s.pwr.sealOpen then s.endUpdate n tag op (.update 0x0101) []
      else f flags offset len data s
    | _ => s)

/-- R502 (16): the slot that is not active. -/
def State.inactive (s : State) : Nat := 1 - s.bootRecord.active

/-- R502 (16): bytes in a slot. -/
def slotLength : Nat := 0x800000

/-- BEGIN (R502, R503): the inactive slot is erased; `ok`: the flash did not report failure. -/
def State.updateBegin (s : State) (n tag : Nat) (ok : Bool) : State :=
  let k := s.inactive
  let s := s.mapUpd (fun u => { u with
    flash := Store.drop u.flash (slotBase k) (slotBase k + slotLength), verified := false, next := if ok then some 0 else none })
  if ok then s.endUpdate n tag 1 .complete (leBytes 1 k) else s.endUpdate n tag 1 (.update 0x0107) []

/-- BEGIN. -/
def execUpdBegin (session tag : Nat) (ok : Bool) (t : Instant) (s : State) : Host.Outcome State Fault Refusal :=
  .next ((s.atT t).updAct session tag 1 (fun _ _ _ _ s => s.updateBegin session tag ok))

/-- WRITE (R502, R503): bytes are programmed at OFFSET, which must be where the previous WRITE ended. -/
def State.updateWrite (s : State) (n tag offset : Nat) (data : List Byte) (ok : Bool) : State :=
  if s.upd.next != some offset || slotLength < offset + data.length then s.endUpdate n tag 2 (.update 0x0106) []
  else
    let s := s.mapUpd (fun u => { u with verified := false })
    if !ok then (s.mapUpd (fun u => { u with next := none })).endUpdate n tag 2 (.update 0x0107) []
    else
      let s := s.mapUpd (fun u => { u with
        flash := Store.setBytes u.flash (slotBase s.inactive + offset) data, next := some (offset + data.length) })
      (s.commit n tag data.length).endUpdate n tag 2 .complete []

/-- WRITE. -/
def execUpdWrite (session tag : Nat) (ok : Bool) (t : Instant) (s : State) : Host.Outcome State Fault Refusal :=
  .next ((s.atT t).updAct session tag 2 (fun _ offset _ data s => s.updateWrite session tag offset data ok))

/-- VERIFY (R500, R502): the inactive slot is checked. -/
def State.updateVerify (s : State) (n tag : Nat) : State :=
  let k := s.inactive
  match s.imageFault k with
  | some c => (s.mapUpd (fun u => { u with verified := false })).endUpdate n tag 3 (.update c) []
  | none =>
    (s.mapUpd (fun u => { u with verified := true })).endUpdate n tag 3 .complete
      (leBytes 4 (s.header k 8 4) ++ leBytes 2 (s.header k 12 2))

/-- VERIFY. -/
def execUpdVerify (session tag : Nat) (t : Instant) (s : State) : Host.Outcome State Fault Refusal :=
  .next ((s.atT t).updAct session tag 3 (fun _ _ _ _ s => s.updateVerify session tag))

/-- ACTIVATE (R502): the verified slot becomes active, in TRIAL; FLAGS bit 0 asks for the reset. -/
def State.updateActivate (s : State) (n tag flags : Nat) : State :=
  if !s.upd.verified then s.endUpdate n tag 4 (.update 0x0109) []
  else
    let k := s.inactive
    let s := s.writeBootRecord (fun r => { r with active := k, trial := true, tries := 0 })
    let s := s.mapUpd (fun u => { u with
      verified := false, next := none, resetWaits := if flags % 2 = 1 then some (n, tag) else u.resetWaits })
    s.endUpdate n tag 4 .complete []

/-- ACTIVATE. -/
def execUpdActivate (session tag : Nat) (t : Instant) (s : State) : Host.Outcome State Fault Refusal :=
  .next ((s.atT t).updAct session tag 4 (fun flags _ _ _ s => s.updateActivate session tag flags))

/-- R502, R504 (16): the OTP rollback count is raised to `r`: ones are burned into words 21 to 24, the lowest bits first. -/
def State.raiseRollback (s : State) (r : Nat) : State :=
  let zeros := (List.range 128).filter (fun i => (s.otpWord (21 + i / 32)).toNat / 2 ^ (i % 32) % 2 == 0)
  let now := zeros.take (r - s.rollback)
  s.mapUpd (fun u => { u with
    otp := now.foldl (fun o i => modAt o (21 + i / 32) (fun w => w ||| BitVec.ofNat 32 (2 ^ (i % 32)))) u.otp })

/-- COMMIT (R502): the image that runs in TRIAL is kept. -/
def State.updateCommit (s : State) (n tag : Nat) : State :=
  let r := s.bootRecord
  if !s.upd.runTrial || !r.trial || r.active != s.upd.runSlot then s.endUpdate n tag 5 (.update 0x0108) []
  else
    let s := s.writeBootRecord (fun r => { r with trial := false })
    let s := (s.raiseRollback (s.header s.upd.runSlot 12 2)).mapUpd (fun u => { u with runTrial := false })
    s.endUpdate n tag 5 .complete []

/-- COMMIT. -/
def execUpdCommit (session tag : Nat) (t : Instant) (s : State) : Host.Outcome State Fault Refusal :=
  .next ((s.atT t).updAct session tag 5 (fun _ _ _ _ s => s.updateCommit session tag))

/-- REVERT (R502): the other slot, if its image is valid, becomes active with TRIAL 0. -/
def State.updateRevert (s : State) (n tag : Nat) : State :=
  let k := s.inactive
  match s.imageFault k with
  | some c => s.endUpdate n tag 6 (.update c) []
  | none =>
    let s := s.writeBootRecord (fun r => { r with active := k, trial := false })
    (s.mapUpd (fun u => { u with verified := false, next := none })).endUpdate n tag 6 .complete []

/-- REVERT. -/
def execUpdRevert (session tag : Nat) (t : Instant) (s : State) : Host.Outcome State Fault Refusal :=
  .next ((s.atT t).updAct session tag 6 (fun _ _ _ _ s => s.updateRevert session tag))

/-- STATUS (R502): the RESULT. -/
def State.updateStatus (s : State) : List Byte :=
  let r := s.bootRecord
  leBytes 1 r.active ++ leBytes 1 (if r.trial then 1 else 0) ++ leBytes 1 r.tries ++ leBytes 1 0 ++ leBytes 4 (s.header 0 8 4)
    ++ leBytes 4 (s.header 1 8 4) ++ leBytes 1 s.rollback

/-- STATUS. -/
def execUpdStatus (session tag : Nat) (t : Instant) (s : State) : Host.Outcome State Fault Refusal :=
  .next ((s.atT t).updAct session tag 7 (fun _ _ _ _ s => s.endUpdate session tag 7 .complete s.updateStatus))

/-- R505 (16): the signing engine signs a message, and SIGN_DONE is set. -/
def State.signed (s : State) (msg : List Byte) : State × List Byte :=
  (s.event [Reg.UPD_STAT_SIGN_DONE], (List.range 64).map (fun i => Config.idSign s.idKey msg i))

/-- R505 (16): the report of ATTEST. -/
def State.report (s : State) (nonce : List Byte) : List Byte :=
  let r := s.bootRecord
  nonce ++ leBytes 4 (s.otpWord 0).toNat ++ leBytes 4 (s.otpWord 1).toNat ++ leBytes 8 s.devTime ++ leBytes 8 s.uptimeNs
    ++ leBytes 1 r.active ++ leBytes 1 (if r.trial then 1 else 0) ++ leBytes 1 s.rollback ++ leBytes 1 0
    ++ leBytes 4 (s.rd Reg.CHP_TUNING_ID_ID) ++ leBytes 64 s.upd.runHash.toNat

/-- ATTEST (R502, R505). -/
def execUpdAttest (session tag : Nat) (t : Instant) (s : State) : Host.Outcome State Fault Refusal :=
  .next ((s.atT t).updAct session tag 8 (fun _ _ _ data s =>
    let m := s.report data
    let r := s.signed m
    r.1.endUpdate session tag 8 .complete (m ++ r.2)))

/-- LOG_SIGN (R502): the records OFFSET to OFFSET + LEN − 1 that are held are hashed and signed. -/
def execUpdLogSign (session tag : Nat) (t : Instant) (s : State) : Host.Outcome State Fault Refusal :=
  .next ((s.atT t).updAct session tag 9 (fun _ offset len _ s =>
    let recs := s.evr.held.filter (fun r => decide (offset ≤ r.seq) && decide (r.seq < offset + len))
    let h := leBytes 64 (Config.sha512 (recs.flatMap EvRec.bytes)).toNat
    let r := s.signed h
    r.1.endUpdate session tag 9 .complete (h ++ r.2)))

end Sys2Proof.Machine
end

