-- ==== Sys2Proof/Machine/Dispatch.lean ====
section
/-! DEFINITION. One arm per command: its meaning, or its rejection by name. -/

namespace Sys2Proof.Machine

/-- The effect of a command on everything but the queue. -/
def exec (i : Instr) (s : State) : Host.Outcome State Fault Refusal :=
  match i with
  | .registerWrite m addr v t => Sys2Proof.Machine.execRegisterWrite m addr v t s
  | .bridgeTimeout m addr t => Sys2Proof.Machine.execBridgeTimeout m addr t s
  | .setWrite m addr v t => Sys2Proof.Machine.execSetWrite m addr v t s
  | .clearWrite m addr v t => Sys2Proof.Machine.execClearWrite m addr v t s
  | .toggleWrite m addr v t => Sys2Proof.Machine.execToggleWrite m addr v t s
  | .statusClearWrite m addr v t => Sys2Proof.Machine.execStatusClearWrite m addr v t s
  | .lowWordRead m addr t => Sys2Proof.Machine.execLowWordRead m addr t s
  | .lowWordWrite m addr v t => Sys2Proof.Machine.execLowWordWrite m addr v t s
  | .highWordRead m addr t => Sys2Proof.Machine.execHighWordRead m addr t s
  | .highWordWrite m addr v t => Sys2Proof.Machine.execHighWordWrite m addr v t s
  | .stageWrite m addr v t => Sys2Proof.Machine.execStageWrite m addr v t s
  | .cellErrorDetected b u cause cell mem t => Sys2Proof.Machine.execCellErrorDetected b u cause cell mem t s
  | .blockFault b u cause detail t => Sys2Proof.Machine.execBlockFault b u cause detail t s
  | .blockRestartReady b u t => Sys2Proof.Machine.execBlockRestartReady b u t s
  | .restartFailed b u t => Sys2Proof.Machine.execRestartFailed b u t s
  | .safeClear t => Sys2Proof.Machine.execSafeClear t s
  | .safeTimeout t => Sys2Proof.Machine.execSafeTimeout t s
  | .watchdogExpiry t => Sys2Proof.Machine.execWatchdogExpiry t s
  | .modeRequest m req t => Sys2Proof.Machine.execModeRequest m req t s
  | .injectGo m code t => Sys2Proof.Machine.execInjectGo m code t s
  | .injectionTaken u t => Sys2Proof.Machine.execInjectionTaken u t s
  | .snapshotRequest m t => Sys2Proof.Machine.execSnapshotRequest m t s
  | .snapshotPeriod t => Sys2Proof.Machine.execSnapshotPeriod t s
  | .snapshotTake t => Sys2Proof.Machine.execSnapshotTake t s
  | .snapshotComplete t => Sys2Proof.Machine.execSnapshotComplete t s
  | .snapTimeout t => Sys2Proof.Machine.execSnapTimeout t s
  | .snapshotRelease m v t => Sys2Proof.Machine.execSnapshotRelease m v t s
  | .snapshotHoldExpiry t => Sys2Proof.Machine.execSnapshotHoldExpiry t s
  | .chk m t => Sys2Proof.Machine.execChk m t s
  | .checkComplete t => Sys2Proof.Machine.execCheckComplete t s
  | .occPreload t => Sys2Proof.Machine.execOccPreload t s
  | .applyNext m t => Sys2Proof.Machine.execApplyNext m t s
  | .applyAt m t => Sys2Proof.Machine.execApplyAt m t s
  | .cancel m t => Sys2Proof.Machine.execCancel m t s
  | .discard m t => Sys2Proof.Machine.execDiscard m t s
  | .retuneApply t => Sys2Proof.Machine.execRetuneApply t s
  | .applySkew t => Sys2Proof.Machine.execApplySkew t s
  | .copybackDone t => Sys2Proof.Machine.execCopybackDone t s
  | .stageCopyFault t => Sys2Proof.Machine.execStageCopyFault t s
  | .start m t => Sys2Proof.Machine.execStart m t s
  | .haltSweep m t => Sys2Proof.Machine.execHaltSweep m t s
  | .haltNow m t => Sys2Proof.Machine.execHaltNow m t s
  | .tabNop => Sys2Proof.Machine.execTabNop s
  | .tabWait n => Sys2Proof.Machine.execTabWait n s
  | .tabWaitu target => Sys2Proof.Machine.execTabWaitu target s
  | .tabFire slot shape sub => Sys2Proof.Machine.execTabFire slot shape sub s
  | .tabGate sub width => Sys2Proof.Machine.execTabGate sub width s
  | .tabRaman sub => Sys2Proof.Machine.execTabRaman sub s
  | .tabSwb pat => Sys2Proof.Machine.execTabSwb pat s
  | .tabSetc k n => Sys2Proof.Machine.execTabSetc k n s
  | .tabDjnz k target => Sys2Proof.Machine.execTabDjnz k target s
  | .tabJmp target => Sys2Proof.Machine.execTabJmp target s
  | .tabEvt code => Sys2Proof.Machine.execTabEvt code s
  | .tabHalt => Sys2Proof.Machine.execTabHalt s
  | .haltWaitPeriod t => Sys2Proof.Machine.execHaltWaitPeriod t s
  | .undefFetch => Sys2Proof.Machine.execUndefFetch s
  | .sweepBoundary t => Sys2Proof.Machine.execSweepBoundary t s
  | .syncInEdge t => Sys2Proof.Machine.execSyncInEdge t s
  | .syncMiss t => Sys2Proof.Machine.execSyncMiss t s
  | .probeEmissionEnd slot t => Sys2Proof.Machine.execProbeEmissionEnd slot t s
  | .tabGateClose t => Sys2Proof.Machine.execTabGateClose t s
  | .lookWindowEnd slot t => Sys2Proof.Machine.execLookWindowEnd slot t s
  | .pluckGo m slot shape scale t => Sys2Proof.Machine.execPluckGo m slot shape scale t s
  | .pluckFire t => Sys2Proof.Machine.execPluckFire t s
  | .pluckDone t => Sys2Proof.Machine.execPluckDone t s
  | .carrierPeriodStart k sense t => Sys2Proof.Machine.execCarrierPeriodStart k sense t s
  | .ilimTrip k steps t => Sys2Proof.Machine.execIlimTrip k steps t s
  | .diagSample k current t => Sys2Proof.Machine.execDiagSample k current t s
  | .proofWindowEnd k t => Sys2Proof.Machine.execProofWindowEnd k t s
  | .clr m k t => Sys2Proof.Machine.execClr m k t s
  | .occLiveWrite m w v t => Sys2Proof.Machine.execOccLiveWrite m w v t s
  | .occRefresh t => Sys2Proof.Machine.execOccRefresh t s
  | .occFrameComplete marker returned t => Sys2Proof.Machine.execOccFrameComplete marker returned t s
  | .occLatch t => Sys2Proof.Machine.execOccLatch t s
  | .gainBinStart bin t => Sys2Proof.Machine.execGainBinStart bin t s
  | .overloadStepDown ch t => Sys2Proof.Machine.execOverloadStepDown ch t s
  | .gainStepUp clipped t => Sys2Proof.Machine.execGainStepUp clipped t s
  | .calBlockEnd ch skipped level off gain skew t => Sys2Proof.Machine.execCalBlockEnd ch skipped level off gain skew t s
  | .calFactorWrite m addr v t => Sys2Proof.Machine.execCalFactorWrite m addr v t s
  | .skewCal m t => Sys2Proof.Machine.execSkewCal m t s
  | .skewCalDone ok delays t => Sys2Proof.Machine.execSkewCalDone ok delays t s
  | .pilotBlockEnd clipped skews t => Sys2Proof.Machine.execPilotBlockEnd clipped skews t s
  | .slotLaneSample sweep slot p pluck xr xi yr yi clipped lost t => Sys2Proof.Machine.execSlotLaneSample sweep slot p pluck xr xi yr yi clipped lost t s
  | .pcmLookCompress sweep slot pluck outs t => Sys2Proof.Machine.execPcmLookCompress sweep slot pluck outs t s
  | .blockLate t => Sys2Proof.Machine.execBlockLate t s
  | .phsPositionSample sweep slot p pluck t => Sys2Proof.Machine.execPhsPositionSample sweep slot p pluck t s
  | .pflLookInput t => Sys2Proof.Machine.execPflLookInput t s
  | .medianFlush t => Sys2Proof.Machine.execMedianFlush t s
  | .ramanSweepAccumulate sweep bins0 bins1 base0 base1 lost t => Sys2Proof.Machine.execRamanSweepAccumulate sweep bins0 bins1 base0 base1 lost t s
  | .dtsBlockClose t => Sys2Proof.Machine.execDtsBlockClose t s
  | .unloadLate t => Sys2Proof.Machine.execUnloadLate t s
  | .profileComplete t => Sys2Proof.Machine.execProfileComplete t s
  | .frameReady n t => Sys2Proof.Machine.execFrameReady n t s
  | .tileWritten n bad t => Sys2Proof.Machine.execTileWritten n bad t s
  | .runStart n t => Sys2Proof.Machine.execRunStart n t s
  | .aarNop n w stall => Sys2Proof.Machine.execAarNop n w stall s
  | .aarDone n w stall => Sys2Proof.Machine.execAarDone n w stall s
  | .aarJmp n w stall => Sys2Proof.Machine.execAarJmp n w stall s
  | .aarBr n w stall => Sys2Proof.Machine.execAarBr n w stall s
  | .aarLoop n w stall => Sys2Proof.Machine.execAarLoop n w stall s
  | .aarSli n w stall => Sys2Proof.Machine.execAarSli n w stall s
  | .aarSadd n w stall => Sys2Proof.Machine.execAarSadd n w stall s
  | .aarSsub n w stall => Sys2Proof.Machine.execAarSsub n w stall s
  | .aarSmul n w stall => Sys2Proof.Machine.execAarSmul n w stall s
  | .aarSmulq n w stall => Sys2Proof.Machine.execAarSmulq n w stall s
  | .aarSshl n w stall => Sys2Proof.Machine.execAarSshl n w stall s
  | .aarSshr n w stall => Sys2Proof.Machine.execAarSshr n w stall s
  | .aarSand n w stall => Sys2Proof.Machine.execAarSand n w stall s
  | .aarSor n w stall => Sys2Proof.Machine.execAarSor n w stall s
  | .aarSmin n w stall => Sys2Proof.Machine.execAarSmin n w stall s
  | .aarSmax n w stall => Sys2Proof.Machine.execAarSmax n w stall s
  | .aarSld n w stall => Sys2Proof.Machine.execAarSld n w stall s
  | .aarSst n w stall => Sys2Proof.Machine.execAarSst n w stall s
  | .aarSrd n w stall => Sys2Proof.Machine.execAarSrd n w stall s
  | .aarVld n w stall => Sys2Proof.Machine.execAarVld n w stall s
  | .aarVst n w stall => Sys2Proof.Machine.execAarVst n w stall s
  | .aarVmul n w stall => Sys2Proof.Machine.execAarVmul n w stall s
  | .aarVcmul n w stall => Sys2Proof.Machine.execAarVcmul n w stall s
  | .aarVadd n w stall => Sys2Proof.Machine.execAarVadd n w stall s
  | .aarVsub n w stall => Sys2Proof.Machine.execAarVsub n w stall s
  | .aarVmac n w stall => Sys2Proof.Machine.execAarVmac n w stall s
  | .aarVmacc n w stall => Sys2Proof.Machine.execAarVmacc n w stall s
  | .aarAclr n w stall => Sys2Proof.Machine.execAarAclr n w stall s
  | .aarAmov n w stall => Sys2Proof.Machine.execAarAmov n w stall s
  | .aarFout n w stall => Sys2Proof.Machine.execAarFout n w stall s
  | .aarBwin n w stall => Sys2Proof.Machine.execAarBwin n w stall s
  | .aarBfft n w stall => Sys2Proof.Machine.execAarBfft n w stall s
  | .aarBrfft n w stall => Sys2Proof.Machine.execAarBrfft n w stall s
  | .aarBpwr n w stall => Sys2Proof.Machine.execAarBpwr n w stall s
  | .aarBsum n w stall => Sys2Proof.Machine.execAarBsum n w stall s
  | .aarBmax n w stall => Sys2Proof.Machine.execAarBmax n w stall s
  | .aarBmin n w stall => Sys2Proof.Machine.execAarBmin n w stall s
  | .aarBstat n w stall => Sys2Proof.Machine.execAarBstat n w stall s
  | .aarBmov n w stall => Sys2Proof.Machine.execAarBmov n w stall s
  | .frameOverrun n t => Sys2Proof.Machine.execFrameOverrun n t s
  | .coreSwitch n t => Sys2Proof.Machine.execCoreSwitch n t s
  | .constCopyDone n t => Sys2Proof.Machine.execConstCopyDone n t s
  | .constReloadDone n t => Sys2Proof.Machine.execConstReloadDone n t s
  | .reloadFail n t => Sys2Proof.Machine.execReloadFail n t s
  | .featureRecordArrival t => Sys2Proof.Machine.execFeatureRecordArrival t s
  | .zoneStep t => Sys2Proof.Machine.execZoneStep t s
  | .idleStep t => Sys2Proof.Machine.execIdleStep t s
  | .zoneTimerExpire zone timer t => Sys2Proof.Machine.execZoneTimerExpire zone timer t s
  | .eventEnqueue t => Sys2Proof.Machine.execEventEnqueue t s
  | .armOn m t => Sys2Proof.Machine.execArmOn m t s
  | .armOff m t => Sys2Proof.Machine.execArmOff m t s
  | .muFire m t => Sys2Proof.Machine.execMuFire m t s
  | .calFire m t => Sys2Proof.Machine.execCalFire m t s
  | .firePulseEnd t => Sys2Proof.Machine.execFirePulseEnd t s
  | .fireEdge ext cal t => Sys2Proof.Machine.execFireEdge ext cal t s
  | .fireEdgeAccept t => Sys2Proof.Machine.execFireEdgeAccept t s
  | .armBusChange ext t => Sys2Proof.Machine.execArmBusChange ext t s
  | .armForeign t => Sys2Proof.Machine.execArmForeign t s
  | .fireStuck t => Sys2Proof.Machine.execFireStuck t s
  | .powerBin adc t => Sys2Proof.Machine.execPowerBin adc t s
  | .montxSample code t => Sys2Proof.Machine.execMontxSample code t s
  | .monrxSample code conv t => Sys2Proof.Machine.execMonrxSample code conv t s
  | .intlkChange high t => Sys2Proof.Machine.execIntlkChange high t s
  | .intlkTrip t => Sys2Proof.Machine.execIntlkTrip t s
  | .intlkClosed t => Sys2Proof.Machine.execIntlkClosed t s
  | .peerStatus g t => Sys2Proof.Machine.execPeerStatus g t s
  | .peerLost g t => Sys2Proof.Machine.execPeerLost g t s
  | .enableClockStop g t => Sys2Proof.Machine.execEnableClockStop g t s
  | .trip m g t => Sys2Proof.Machine.execTrip m g t s
  | .selftest m g t => Sys2Proof.Machine.execSelftest m g t s
  | .selftestDone g ok t => Sys2Proof.Machine.execSelftestDone g ok t s
  | .learn m g t => Sys2Proof.Machine.execLearn m g t s
  | .learnComplete g t => Sys2Proof.Machine.execLearnComplete g t s
  | .learnAbort m g t => Sys2Proof.Machine.execLearnAbort m g t s
  | .restart m t => Sys2Proof.Machine.execRestart m t s
  | .timedRestart t => Sys2Proof.Machine.execTimedRestart t s
  | .restartPluck t => Sys2Proof.Machine.execRestartPluck t s
  | .restartPluckWindowEnd t => Sys2Proof.Machine.execRestartPluckWindowEnd t s
  | .rowCommit t => Sys2Proof.Machine.execRowCommit t s
  | .captureRequest t => Sys2Proof.Machine.execCaptureRequest t s
  | .rowHandover d t => Sys2Proof.Machine.execRowHandover d t s
  | .captureAbort m d num24 t => Sys2Proof.Machine.execCaptureAbort m d num24 t s
  | .captureRelease m d num24 t => Sys2Proof.Machine.execCaptureRelease m d num24 t s
  | .cmpFlushTimeout c t => Sys2Proof.Machine.execCmpFlushTimeout c t s
  | .cmpBlockRelease ok t => Sys2Proof.Machine.execCmpBlockRelease ok t s
  | .cvuStart m u t => Sys2Proof.Machine.execCvuStart m u t s
  | .cvuFinish m u t => Sys2Proof.Machine.execCvuFinish m u t s
  | .cvuReset m u t => Sys2Proof.Machine.execCvuReset m u t s
  | .feed m u v t => Sys2Proof.Machine.execFeed m u v t s
  | .runWrite m u v t => Sys2Proof.Machine.execRunWrite m u v t s
  | .cvuDramDone u t => Sys2Proof.Machine.execCvuDramDone u t s
  | .dramRequest id addr data t => Sys2Proof.Machine.execDramRequest id addr data t s
  | .dramReadReturn sub err t => Sys2Proof.Machine.execDramReadReturn sub err t s
  | .requestAge t => Sys2Proof.Machine.execRequestAge t s
  | .rowIdleClose t => Sys2Proof.Machine.execRowIdleClose t s
  | .refreshInterval sub rank t => Sys2Proof.Machine.execRefreshInterval sub rank t s
  | .mr4Poll t => Sys2Proof.Machine.execMr4Poll t s
  | .mr4Result sub rank code ok t => Sys2Proof.Machine.execMr4Result sub rank code ok t s
  | .refreshComplete sub rank t => Sys2Proof.Machine.execRefreshComplete sub rank t s
  | .rhWindowEnd sub rank t => Sys2Proof.Machine.execRhWindowEnd sub rank t s
  | .powerDownEntry sub rank t => Sys2Proof.Machine.execPowerDownEntry sub rank t s
  | .selfRefreshEntry sub t => Sys2Proof.Machine.execSelfRefreshEntry sub t s
  | .scrubRead err t => Sys2Proof.Machine.execScrubRead err t s
  | .train m t => Sys2Proof.Machine.execTrain m t s
  | .trainDone sub res t => Sys2Proof.Machine.execTrainDone sub res t s
  | .retrain sub rank drift ok t => Sys2Proof.Machine.execRetrain sub rank drift ok t s
  | .zqCalibration sub rank t => Sys2Proof.Machine.execZqCalibration sub rank t s
  | .sequenceCycleStart t => Sys2Proof.Machine.execSequenceCycleStart t s
  | .conversionEnd sum high low t => Sys2Proof.Machine.execConversionEnd sum high low t s
  | .refInj m t => Sys2Proof.Machine.execRefInj m t s
  | .injTrigger t => Sys2Proof.Machine.execInjTrigger t s
  | .refCal m t => Sys2Proof.Machine.execRefCal m t s
  | .refCalPeriod t => Sys2Proof.Machine.execRefCalPeriod t s
  | .refCalDone off gain iexc t => Sys2Proof.Machine.execRefCalDone off gain iexc t s
  | .refFactorWrite m addr v t => Sys2Proof.Machine.execRefFactorWrite m addr v t s
  | .complianceOpen c on t => Sys2Proof.Machine.execComplianceOpen c on t s
  | .tachEdge n rising t => Sys2Proof.Machine.execTachEdge n rising t s
  | .tiuOverflow u t => Sys2Proof.Machine.execTiuOverflow u t s
  | .rateTimeout u t => Sys2Proof.Machine.execRateTimeout u t s
  | .tiuArm m u t => Sys2Proof.Machine.execTiuArm m u t s
  | .tiuDisarm m u t => Sys2Proof.Machine.execTiuDisarm m u t s
  | .frameReceive mac f t => Sys2Proof.Machine.execFrameReceive mac f t s
  | .macDown mac hiSer t => Sys2Proof.Machine.execMacDown mac hiSer t s
  | .macUp mac preTx taps t => Sys2Proof.Machine.execMacUp mac preTx taps t s
  | .tsPop m mac t => Sys2Proof.Machine.execTsPop m mac t s
  | .plDetectProbe lane found t => Sys2Proof.Machine.execPlDetectProbe lane found t s
  | .plTrainStart t => Sys2Proof.Machine.execPlTrainStart t s
  | .plTrainingFrame lane control status ready t => Sys2Proof.Machine.execPlTrainingFrame lane control status ready t s
  | .plTrainTimeout t => Sys2Proof.Machine.execPlTrainTimeout t s
  | .plCodeword lane ok spare flags index corrected t => Sys2Proof.Machine.execPlCodeword lane ok spare flags index corrected t s
  | .plLockTimeout t => Sys2Proof.Machine.execPlLockTimeout t s
  | .plCapsSend t => Sys2Proof.Machine.execPlCapsSend t s
  | .plCapsTimeout t => Sys2Proof.Machine.execPlCapsTimeout t s
  | .plDownHoldEnd t => Sys2Proof.Machine.execPlDownHoldEnd t s
  | .plFlitSend t => Sys2Proof.Machine.execPlFlitSend t s
  | .plFlitReceive f t => Sys2Proof.Machine.execPlFlitReceive f t s
  | .plReplayTimeout t => Sys2Proof.Machine.execPlReplayTimeout t s
  | .plLaneLost lane t => Sys2Proof.Machine.execPlLaneLost lane t s
  | .plWidthRestore t => Sys2Proof.Machine.execPlWidthRestore t s
  | .plQuietEntry t => Sys2Proof.Machine.execPlQuietEntry t s
  | .plSleep m t => Sys2Proof.Machine.execPlSleep m t s
  | .plWake m t => Sys2Proof.Machine.execPlWake m t s
  | .plWakeDetect t => Sys2Proof.Machine.execPlWakeDetect t s
  | .kpOpen path p t => Sys2Proof.Machine.execKpOpen path p t s
  | .kpCommand path p t => Sys2Proof.Machine.execKpCommand path p t s
  | .kpAck path p t => Sys2Proof.Machine.execKpAck path p t s
  | .kpClose path p t => Sys2Proof.Machine.execKpClose path p t s
  | .kpClaim path p t => Sys2Proof.Machine.execKpClaim path p t s
  | .press high t => Sys2Proof.Machine.execPress high t s
  | .claimTimeout t => Sys2Proof.Machine.execClaimTimeout t s
  | .kpNop session tag t => Sys2Proof.Machine.execKpNop session tag t s
  | .regRead session tag t => Sys2Proof.Machine.execRegRead session tag t s
  | .regWrite session tag t => Sys2Proof.Machine.execRegWrite session tag t s
  | .memRead session tag t => Sys2Proof.Machine.execMemRead session tag t s
  | .memWrite session tag t => Sys2Proof.Machine.execMemWrite session tag t s
  | .kpLoad session tag t => Sys2Proof.Machine.execKpLoad session tag t s
  | .subscribe session tag t => Sys2Proof.Machine.execSubscribe session tag t s
  | .unsubscribe session tag t => Sys2Proof.Machine.execUnsubscribe session tag t s
  | .kpFlush session tag t => Sys2Proof.Machine.execKpFlush session tag t s
  | .capArm session tag t => Sys2Proof.Machine.execCapArm session tag t s
  | .capRead session tag t => Sys2Proof.Machine.execCapRead session tag t s
  | .capAbort session tag t => Sys2Proof.Machine.execCapAbort session tag t s
  | .capRelease session tag t => Sys2Proof.Machine.execCapRelease session tag t s
  | .ringRead session tag t => Sys2Proof.Machine.execRingRead session tag t s
  | .logRead session tag t => Sys2Proof.Machine.execLogRead session tag t s
  | .kpMode session tag t => Sys2Proof.Machine.execKpMode session tag t s
  | .kpAbort session tag t => Sys2Proof.Machine.execKpAbort session tag t s
  | .updBegin session tag ok t => Sys2Proof.Machine.execUpdBegin session tag ok t s
  | .updWrite session tag ok t => Sys2Proof.Machine.execUpdWrite session tag ok t s
  | .updVerify session tag t => Sys2Proof.Machine.execUpdVerify session tag t s
  | .updActivate session tag t => Sys2Proof.Machine.execUpdActivate session tag t s
  | .updCommit session tag t => Sys2Proof.Machine.execUpdCommit session tag t s
  | .updRevert session tag t => Sys2Proof.Machine.execUpdRevert session tag t s
  | .updStatus session tag t => Sys2Proof.Machine.execUpdStatus session tag t s
  | .updAttest session tag t => Sys2Proof.Machine.execUpdAttest session tag t s
  | .updLogSign session tag t => Sys2Proof.Machine.execUpdLogSign session tag t s
  | .updateReset t => Sys2Proof.Machine.execUpdateReset t s
  | .commandComplete session tag t => Sys2Proof.Machine.execCommandComplete session tag t s
  | .controlPacketSend session t => Sys2Proof.Machine.execControlPacketSend session t s
  | .rtoExpiry session t => Sys2Proof.Machine.execRtoExpiry session t s
  | .keepaliveExpiry session t => Sys2Proof.Machine.execKeepaliveExpiry session t s
  | .streamPacketForm sub accepts t => Sys2Proof.Machine.execStreamPacketForm sub accepts t s
  | .streamFillTimeout sub accepts t => Sys2Proof.Machine.execStreamFillTimeout sub accepts t s
  | .streamPacketDrop sub t => Sys2Proof.Machine.execStreamPacketDrop sub t s
  | .kick m v t => Sys2Proof.Machine.execKick m v t s
  | .snsConversion temps mv t => Sys2Proof.Machine.execSnsConversion temps mv t s
  | .railFault r t => Sys2Proof.Machine.execRailFault r t s
  | .timSet m v servo t => Sys2Proof.Machine.execTimSet m v servo t s
  | .timeStep t => Sys2Proof.Machine.execTimeStep t s
  | .ptpSync d t => Sys2Proof.Machine.execPtpSync d t s
  | .ppsEdge t => Sys2Proof.Machine.execPpsEdge t s
  | .ptpHoldover t => Sys2Proof.Machine.execPtpHoldover t s
  | .rateLimitSecond t => Sys2Proof.Machine.execRateLimitSecond t s
  | .flushTimeout t => Sys2Proof.Machine.execFlushTimeout t s
  | .pageProgrammed result t => Sys2Proof.Machine.execPageProgrammed result t s
  | .evrErase m t => Sys2Proof.Machine.execEvrErase m t s
  | .logErased t => Sys2Proof.Machine.execLogErased t s
  | .otpProgram m v t => Sys2Proof.Machine.execOtpProgram m v t s
  | .powerOn t => Sys2Proof.Machine.execPowerOn t s
  | .pinReset low t => Sys2Proof.Machine.execPinReset low t s
  | .jtagReset t => Sys2Proof.Machine.execJtagReset t s
  | .railReset t => Sys2Proof.Machine.execRailReset t s
  | .refClockLost k t => Sys2Proof.Machine.execRefClockLost k t s
  | .refClockPresent k t => Sys2Proof.Machine.execRefClockPresent k t s
  | .clockReset t => Sys2Proof.Machine.execClockReset t s
  | .crystalFail t => Sys2Proof.Machine.execCrystalFail t s
  | .resetRelease testen bootsel t => Sys2Proof.Machine.execResetRelease testen bootsel t s
  | .bootComplete t => Sys2Proof.Machine.execBootComplete t s
  | .prepSteps sramOk t => Sys2Proof.Machine.execPrepSteps sramOk t s
  | .bootTuning writes porhorn service light start t => Sys2Proof.Machine.execBootTuning writes porhorn service light start t s
  | .autoService t => Sys2Proof.Machine.execAutoService t s
  | .autoLight t => Sys2Proof.Machine.execAutoLight t s
  | .autoStart t => Sys2Proof.Machine.execAutoStart t s
  | .pfailLow t => Sys2Proof.Machine.execPfailLow t s
  | .pfailRise t => Sys2Proof.Machine.execPfailRise t s
  | .fireBusRelease t => Sys2Proof.Machine.execFireBusRelease t s
  | .pluckGateClose t => Sys2Proof.Machine.execPluckGateClose t s
  | .timeSlewEnd t => Sys2Proof.Machine.execTimeSlewEnd t s
  | .sectorEraseDone ok t => Sys2Proof.Machine.execSectorEraseDone ok t s
  | .ptpFrameSend mac seqId mtype t => Sys2Proof.Machine.execPtpFrameSend mac seqId mtype t s
  | .powerDown others t => Sys2Proof.Machine.execPowerDown others t s
  | .sealNChange high t => Sys2Proof.Machine.execSealNChange high t s

end Sys2Proof.Machine
end

