-- ==== Sys2Proof/Safety.lean ====
section
/-! DEFINITION. What a run must not lose, and what a command leaves alone, in the terms the statements use. -/

namespace Sys2Proof.Safety

open Sys2Proof.Machine

/-! ### Memory in its canonical form -/

/-- A sparse store is in its canonical form: addresses strictly rising, no zero word. -/
def storeWf {w : Nat} (st : Store w) : Bool :=
  match st with
  | [] => true
  | [x] => x.2 != 0
  | x :: y :: rest => x.2 != 0 && decide (x.1 < y.1) && storeWf (y :: rest)

/-- The register words and the memories are in their canonical form. -/
def canonical (r : Regs) (m : Mems) : Prop :=
  storeWf r.live ∧ storeWf r.tuned ∧ storeWf r.stage ∧ storeWf r.prev ∧ storeWf r.snap ∧ storeWf r.causes
    ∧ storeWf m.act ∧ storeWf m.stage ∧ storeWf m.prev ∧ storeWf m.dram

/-! ### Frames -/

/-- The parts of the state, one per field. -/
inductive Part where
  | now | regs | mems | bus | chp | psq | psy | src | occ | crx | cal | chn | pcm | phs | pfl | rmx | dts | aar | zon | gda
  | gdb | guards | rng | cmp | cvu | dmc | ref | tiu | lan | eth | kpe | mgc | sns | evr | tim | upd | pwr | fresh | pending
  deriving DecidableEq, Repr

/-- The part is the same in both states. -/
def same (p : Part) (s t : State) : Prop :=
  match p with
  | .now => t.now = s.now
  | .regs => t.regs = s.regs
  | .mems => t.mems = s.mems
  | .bus => t.bus = s.bus
  | .chp => t.chp = s.chp
  | .psq => t.psq = s.psq
  | .psy => t.psy = s.psy
  | .src => t.src = s.src
  | .occ => t.occ = s.occ
  | .crx => t.crx = s.crx
  | .cal => t.cal = s.cal
  | .chn => t.chn = s.chn
  | .pcm => t.pcm = s.pcm
  | .phs => t.phs = s.phs
  | .pfl => t.pfl = s.pfl
  | .rmx => t.rmx = s.rmx
  | .dts => t.dts = s.dts
  | .aar => t.aar = s.aar
  | .zon => t.zon = s.zon
  | .gda => t.gda = s.gda
  | .gdb => t.gdb = s.gdb
  | .guards => t.guards = s.guards
  | .rng => t.rng = s.rng
  | .cmp => t.cmp = s.cmp
  | .cvu => t.cvu = s.cvu
  | .dmc => t.dmc = s.dmc
  | .ref => t.ref = s.ref
  | .tiu => t.tiu = s.tiu
  | .lan => t.lan = s.lan
  | .eth => t.eth = s.eth
  | .kpe => t.kpe = s.kpe
  | .mgc => t.mgc = s.mgc
  | .sns => t.sns = s.sns
  | .evr => t.evr = s.evr
  | .tim => t.tim = s.tim
  | .upd => t.upd = s.upd
  | .pwr => t.pwr = s.pwr
  | .fresh => t.fresh = s.fresh
  | .pending => t.pending = s.pending

/-- Only the parts listed may differ. -/
def onlyParts (ps : List Part) (s t : State) : Prop := ∀ p, p ∉ ps → same p s t

/-- Of the register words only the live words at the addresses listed may differ, with their standing causes. -/
def onlyWords (as : List Nat) (s t : State) : Prop :=
  (∀ a, a ∉ as → t.live a = s.live a ∧ Store.get t.regs.causes a = Store.get s.regs.causes a)
    ∧ t.regs.tuned = s.regs.tuned ∧ t.regs.stage = s.regs.stage ∧ t.regs.prev = s.regs.prev ∧ t.regs.snap = s.regs.snap

/-! ### The sequencer's own commands (R81) -/

/-- The tab is about to issue the word `w`: an instruction is due, and `u` is the machine at its instant, with a Retune that
was due applied; there it still runs, and fetches `w`. -/
def issues (s : State) (w : Nat) (u : State) : Prop :=
  ∃ t, s.nextFetch = some t ∧ u = (s.atT t).tuneIfDue ∧ u.psq.state = .running ∧ u.tabWord = w

/-- The next instruction in order, `n` ticks on. -/
def tabOn (u : State) (n : Nat) : State :=
  { u with psq := { u.psq with pc := (u.psq.pc + 1) % 4096, issue := u.psq.issue + n } }

/-- The pin instant of an instruction that issues now: 64 ticks of 3.2 ns on, and the sub-ticks of 0.4 ns (R74). -/
def pinAt (u : State) (sub : Nat) : Nat := u.psq.tick0 + (u.psq.issue + 64) * 3200 + sub * 400

/-! ### Who may command (R20, R44) -/

/-- The block, or its unit, is not isolated, and the master may write its privileged fields. -/
abbrev commandable (u : State) (m : Master) (b : Block) (unit : Option Nat) : Prop :=
  u.isolatedAt b unit = false ∧ u.mayPriv m = true

/-- The mode is SERVICE or TEST (R32). -/
abbrev serving (u : State) : Prop := u.chp.mode = .service ∨ u.chp.mode = .test

/-! ### The bus -/

/-- The machine at the instant of an access, with a Retune that was due applied. -/
def atBus (s : State) (t : Instant) : State := (s.atT t).tuneIfDue

/-- The access of master `m` to the bus address reaches the register `r` at the active address `a`, by flavour `fl`, in the
active or the stage view: nothing isolated stands in its way, and JTAG is not shut out. -/
def reaches (u : State) (m : Master) (addr : Nat) (r : RegRow) (a fl : Nat) (stage write : Bool) : Prop :=
  ∃ b, placeOf addr = some (.reg r a b fl stage) ∧ u.placeGone (.reg r a b fl stage) write = false ∧ u.jtagShut m = false

/-- A plain register word of RW fields alone that the master may write whole, in a block in which a write to such a word sets
nothing else going. -/
abbrev plainWord (u : State) (m : Master) (r : RegRow) (a : Nat) : Prop :=
  r.tuned = false ∧ r.half = 0 ∧ r.fields.all (fun f => f.acc == .rw && !f.sealed) = true ∧ r.fields ≠ [] ∧ u.mayPriv m = true
    ∧ a / 0x10000 ∈ [17, 20, 21, 32, 33, 34, 35, 36, 37, 50, 66] ∧ a ≠ 0x11004C

/-- The bits of a row's fields. -/
def fieldBits (r : RegRow) : Word := RegRow.maskOf r (fun _ => true)

/-! ### Analysis cores (R214, R228) -/

/-- Core `n` is about to issue the word `w`, an instruction of opcode `op`, `i` core cycles into its frame, and `u` is the machine
at that instant. -/
def aarIssues (s : State) (n : Nat) (w : BitVec 64) (op i : Nat) (u : State) : Prop :=
  n < 32 ∧ n < s.aar.cores.length ∧ (s.core n).state = .running ∧ (s.core n).fate = .run ∧ s.isolatedAt .aar (some n) = false
    ∧ s.coreWord n (s.core n).pc = w ∧ (aarFields w).op = op ∧ aarDefined w = true
    ∧ i = issueAt (aarUse (aarFields w) (aarCycles (aarFields w) ((s.core n).count (aarFields w).c (aarFields w).hi).1)) (s.core n).cyc
        (s.core n).sReady (s.core n).vReady (s.core n).accReady
    ∧ ∃ f, (s.core n).frame = some f ∧ (s.core n).deadline.all (fun d => decide (f.readyAt + i * s.corePs < d)) = true
        ∧ u = s.atT (f.readyAt + i * s.corePs)

/-- Core `n` once the word `w` has issued at cycle `i`, before its effect: on to the next instruction, with its results' cycles. -/
def coreOn (u : State) (n : Nat) (w : BitVec 64) (i stall : Nat) : AarCore :=
  let c := u.core n
  let x := aarFields w
  let cy := aarCycles x (c.count x.c x.hi).1
  let e := aarUse x cy
  { c with
    loops := (nextPc c.loops c.pc).1, pc := (nextPc c.loops c.pc).2, cyc := i + cy + stall
    sReady := markReady c.sReady e.sWrite i, vReady := markReady c.vReady e.vWrite i
    accReady := (e.accWrite.map (fun l => i + l)).getD c.accReady }

/-- The outcome is a next state in which core `n` is `c`, and nothing else differs but counters and flags. -/
def coreBecomes (o : Host.Outcome State Fault Refusal) (u : State) (n : Nat) (c : AarCore) : Prop :=
  ∃ v, o = .next v ∧ v.aar = { u.aar with cores := modAt u.aar.cores n (fun _ => c) } ∧ onlyParts [.aar, .regs] u v

/-! ### A decoder for compressed blocks (R332, R333) -/

/-- The number that bits spell, most significant first. -/
def bitsVal (bs : List Bool) : Nat := bs.foldl (fun a b => 2 * a + (if b then 1 else 0)) 0

/-- R333: the residual at the front of the bits, coded under parameter `k`, and the bits after it. -/
def readCode (k : Nat) (bs : List Bool) : BitVec 16 × List Bool :=
  let q := (bs.takeWhile (fun b => b)).length
  if k = 15 then (BitVec.ofNat 16 (bitsVal (bs.take 16)), bs.drop 16)
  else if 24 ≤ q then (BitVec.ofNat 16 (bitsVal ((bs.drop 24).take 16)), bs.drop 40)
  else (BitVec.ofNat 16 (q * 2 ^ k + bitsVal ((bs.drop (q + 1)).take k)), bs.drop (q + 1 + k))

/-- R333: `n` residuals of one group. -/
def readCodes (k n : Nat) (bs : List Bool) : List (BitVec 16) × List Bool :=
  match n with
  | 0 => ([], bs)
  | n + 1 =>
    let r := readCode k bs
    let q := readCodes k n r.2
    (r.1 :: q.1, q.2)

/-- R333: `n` residuals in groups of 16; `g` bounds the groups. -/
def readGroups (g n : Nat) (bs : List Bool) : List (BitVec 16) :=
  match g with
  | 0 => []
  | g + 1 =>
    if n = 0 then []
    else
      let r := readCodes (bitsVal (bs.take 4)) (min 16 n) (bs.drop 4)
      r.1 ++ readGroups g (n - 16) r.2

/-- R332: the residual of a zigzag code. -/
def unzigzag (u : BitVec 16) : BitVec 16 := (u >>> 1) ^^^ (0 - (u &&& 1))

/-- R332: the prediction from the samples before. -/
def predicted (pred stride : Nat) (xs : List (BitVec 16)) : BitVec 16 :=
  let back (j : Nat) : BitVec 16 := if xs.length < j then 0 else xs.getD (xs.length - j) 0
  match pred % 4 with
  | 0 => 0
  | 1 => back 1
  | 2 => back stride
  | _ => back 1 + back stride - back (stride + 1)

/-- R332: the samples of the residuals. -/
def unpredict (pred stride : Nat) (us : List (BitVec 16)) : List (BitVec 16) :=
  us.foldl (fun xs u => xs ++ [unzigzag u + predicted pred stride xs]) []

/-- R333: the bits of bytes, most significant first. -/
def unpackBits (bs : List Byte) : List Bool := bs.flatMap (fun b => (List.range 8).map (fun i => b.getLsbD (7 - i)))

/-- The `n` samples that a payload spells under R332 and R333. -/
def payloadSamples (pred stride n : Nat) (bytes : List Byte) : List (BitVec 16) :=
  unpredict pred stride (readGroups (n / 16 + 1) n (unpackBits bytes))

/-! ### Links (R404, R415, R434) -/

/-- R403, R404 (14): a MAC that is UP takes the frame: its FCS, length, VLAN state and destination are right. -/
abbrev frameTaken (u : State) (m : Nat) (f : RxFrame) : Prop :=
  (u.mac m).state = .up ∧ f.fcsOk = true ∧ 64 ≤ f.len ∧ f.len ≤ u.maxFrame m ∧ u.vlanOk m f = true ∧ f.dest ≠ .other

/-- R434 (15): no ACTIVE session sends on path `m` (4: the Peer Link). -/
abbrev pathUnused (u : State) (m : Nat) : Prop :=
  u.kpe.sessions.all (fun x => !(x.state == .active && x.path.any (fun k => k.mac == m))) = true

/-- R415 (14): the bytes that a run of segments spells: a header of LEN, SOP, EOP and CH before each. -/
def segWire (gs : List (List Byte × Bool × Bool × Nat)) : List Byte :=
  gs.flatMap (fun g => leBytes 2 (g.1.length + (if g.2.1 then 2048 else 0) + (if g.2.2.1 then 4096 else 0) + g.2.2.2 * 8192) ++ g.1)

/-! ### The Kanas protocol (R429, R431, R447) -/

/-- R404, R429, R437 (14, 15): KPE takes the packet, for this unit, as a valid one of a TYPE. -/
abbrev packetTaken (u : State) (k : KpPath) (p : KpPacket) (type : Nat) : Prop :=
  u.kpServes k = true ∧ p.unit = (if k.mac < 4 then 0 else 1) ∧ u.kpGood p type = true

/-- R431 (15): an OPEN of the last 10 s with the same NONCE, source IP address and UDP port was granted. -/
def openKnown (u : State) (k : KpPath) (p : KpPacket) : Bool :=
  u.kpe.grants.any (fun g => decide (u.now < g.time + 10 * sec) && g.nonce == leNat (p.payload.take 8) && g.path.ip == k.ip && g.path.port == k.port)

/-- R432 (15): which OPEN of the present second of uptime the next one is. -/
def openTurn (u : State) : Nat := (if u.kpe.openSec = u.now / sec then u.kpe.openCount else 0) + 1

/-- R444 to R446 (15): a valid COMMAND of an ACTIVE session with a new tag, within the limits on commands in flight. -/
abbrev commandTaken (u : State) (k : KpPath) (p : KpPacket) (n tag op : Nat) (args : List Byte) : Prop :=
  packetTaken u k p 3 ∧ p.session = n ∧ (u.sess n).state = .active ∧ tag = argNat p.payload 0 2 ∧ op = argNat p.payload 2 2
    ∧ args = p.payload.drop 4 ∧ tag ≠ 0xFFFF ∧ u.cmd n tag = none ∧ u.cachedTag n tag = none ∧ (u.sess n).inflight.length < 32 ∧ u.inFlight < 128

/-- R447 (15): the command of a tag is in flight, has not ended, and its turn has come. -/
abbrev mayAct (u : State) (n tag : Nat) (c : InFlight) : Prop :=
  u.cmd n tag = some c ∧ c.outcome = .running ∧ u.kpTurn n c = true ∧ u.isolated .kpe = false

/-- The command of a tag has ended, with this status, DETAIL and RESULT. -/
abbrev ends (u : State) (n tag : Nat) (st : Status) (detail : Nat) (result : List Byte) : Prop :=
  (u.cmd n tag).map (fun c => c.outcome) = some (.ended st detail result)

/-- R447 (15): the command of a tag has begun, and nothing else is different. -/
def begunAt (u : State) (n tag : Nat) : State :=
  { u with kpe := { u.kpe with sessions := modAt u.kpe.sessions n (fun x =>
    { x with inflight := x.inflight.map (fun c => if c.tag = tag then { c with begun := true } else c) }) } }

/-- R471 (15): the code, COUNT and DETAIL of a NOTIFY. -/
def noteOf (p : CtlPayload) : Option (Nat × Nat × List Nat) :=
  match p with
  | .notify c n d _ => some (c, n, d)
  | _ => none

/-- R444 (15): the tag, OP, status, DETAIL, BYTES and RESULT of a COMPLETION. -/
def completionOf (p : CtlPayload) : Option (Nat × Nat × Status × Nat × Nat × List Byte) :=
  match p with
  | .completion tag op st d b _ _ r => some (tag, op, st, d, b, r)
  | _ => none

/-! ### The recorder, UPDATE and resets (R489, R493, R502, R517) -/

/-- R489, R493 (16): KIND, CODE and DETAIL of the record formed last. -/
def newest (u : State) : Option (Nat × Nat × Nat) := (u.evr.buf.getLast?).map (fun r => (r.1.kind, r.1.code, r.1.detail))

/-- R493, R494 (16): the flash log can take a page now. -/
abbrev logReady (u : State) : Prop :=
  u.logSectors ≠ 0 ∧ u.evr.sealed = false ∧ u.evr.erasing = false ∧ u.evr.erasePending = false ∧ u.evr.page = none ∧ u.evr.pfailFirst = none
    ∧ u.evr.writeAt.1 < u.logSectors ∧ u.evr.eraseSector ≠ some u.evr.writeAt.1

/-- R502 (16): the subop is served: the mode is SERVICE or RECOVERY, and for 1 to 6 SEAL_N is high. -/
abbrev updateServed (u : State) (op : Nat) : Prop :=
  (u.chp.mode = .service ∨ u.chp.mode = .recovery) ∧ (op ≤ 6 → u.pwr.sealOpen = true)

/-- R516 to R518 (17): `v` is `u` after a chip reset of this cause: every block at its reset value and the mode BOOT, with time, the retained
buffer, flash, boot record, OTP and the levels of the pins kept. -/
def chipResetOf (u v : State) (c : ResetCause) : Prop :=
  v.now = u.now ∧ v.pwr.cause = c ∧ v.pwr.inReset = true ∧ v.pwr.sealOpen = u.pwr.sealOpen ∧ v.chp = State.reset.chp ∧ v.psq = State.reset.psq
    ∧ v.psy = State.reset.psy ∧ v.src = State.reset.src ∧ v.phs = State.reset.phs ∧ v.pfl = State.reset.pfl ∧ v.aar = State.reset.aar
    ∧ v.rng = State.reset.rng ∧ v.cmp = State.reset.cmp ∧ v.dmc = State.reset.dmc ∧ v.ref = State.reset.ref ∧ v.lan = State.reset.lan
    ∧ v.eth = State.reset.eth ∧ v.kpe.sessions = State.reset.kpe.sessions ∧ v.kpe.subs = State.reset.kpe.subs ∧ v.mgc = State.reset.mgc
    ∧ v.gda.state = State.reset.gda.state ∧ v.gdb = State.reset.gdb ∧ v.regs.tuned = [] ∧ v.regs.stage = [] ∧ v.regs.prev = [] ∧ v.regs.snap = []
    ∧ v.mems.act = [] ∧ v.mems.stage = [] ∧ v.devTime = u.devTime ∧ v.tim.timeSet = u.tim.timeSet ∧ v.evr.buf = u.evr.buf ∧ v.evr.log = u.evr.log
    ∧ v.upd.otp = u.upd.otp ∧ v.upd.boot = u.upd.boot ∧ v.upd.flash = u.upd.flash ∧ v.pending = u.pending

/-- R58 (02): both banks hold the reset word of every register and zero in every byte of every memory, and the stage is CLEAN. -/
def resetBanks (v : State) : Prop :=
  (∀ a, v.tuned a = Reg.resetWord a ∧ v.stageWord a = Reg.resetWord a) ∧ (∀ a, Store.get v.mems.act a = 0 ∧ Store.get v.mems.stage a = 0)
    ∧ v.chp.stage = .clean

end Sys2Proof.Safety
end

