-- ==== Sys2Proof/WellFormed.lean ====
section
/-! DEFINITION. Which operands name a thing the part has: a session, a slot, a core, a unit, a field's width. What the meanings make of an
operand that names none is the model's own (log entry 28). -/

namespace Sys2Proof

/-- R43, R51 (02): a session's context is one of 128. -/
def Master.exists_ (m : Master) : Bool :=
  match m with
  | .session n => decide (n < 128)
  | .morsen | .jtag => true

/-- R22 (01): how many units of a block restart by themselves: front ends, cores, zone units, CVU units, lanes, ports and session contexts. -/
def Block.units (b : Block) : Nat :=
  match b with
  | .crx => 4 | .aar => 32 | .zon => 256 | .cvu => 8 | .lan => 4 | .eth => 2 | .kpe => 128
  | _ => 0

/-- The block has this unit, or the block as a whole is meant. -/
def Block.hasUnit (b : Block) (u : Option Nat) : Bool := u.all (fun n => decide (n < b.units))

/-- Every operand names a thing the part has. -/
def Instr.wellFormed (i : Instr) : Bool :=
  match i with
  | .registerWrite m addr _ _ => m.exists_ && decide (addr < 2 ^ 32)
  | .bridgeTimeout m addr _ => m.exists_ && decide (addr < 2 ^ 32)
  | .setWrite m addr _ _ => m.exists_ && decide (addr < 2 ^ 32)
  | .clearWrite m addr _ _ => m.exists_ && decide (addr < 2 ^ 32)
  | .toggleWrite m addr _ _ => m.exists_ && decide (addr < 2 ^ 32)
  | .statusClearWrite m addr _ _ => m.exists_ && decide (addr < 2 ^ 32)
  | .lowWordRead m addr _ => m.exists_ && decide (addr < 2 ^ 32)
  | .lowWordWrite m addr _ _ => m.exists_ && decide (addr < 2 ^ 32)
  | .highWordRead m addr _ => m.exists_ && decide (addr < 2 ^ 32)
  | .highWordWrite m addr _ _ => m.exists_ && decide (addr < 2 ^ 32)
  | .stageWrite m addr _ _ => m.exists_ && decide (addr < 2 ^ 32)
  | .cellErrorDetected b u cause _ _ _ => b.hasUnit u && decide (cause < 256)
  | .blockFault b u cause _ _ => b.hasUnit u && decide (cause < 256)
  | .blockRestartReady b u _ => b.hasUnit u
  | .restartFailed b u _ => b.hasUnit u
  | .modeRequest m req _ => m.exists_ && decide (req < 8)
  | .injectGo m code _ => m.exists_ && decide (code < 2 ^ 16)
  | .snapshotRequest m _ => m.exists_
  | .snapshotRelease m _ _ => m.exists_
  | .chk m _ => m.exists_
  | .applyNext m _ => m.exists_
  | .applyAt m _ => m.exists_
  | .cancel m _ => m.exists_
  | .discard m _ => m.exists_
  | .start m _ => m.exists_
  | .haltSweep m _ => m.exists_
  | .haltNow m _ => m.exists_
  | .tabWait n => decide (n < 2 ^ 20)
  | .tabWaitu target => decide (target < 2 ^ 20)
  | .tabFire slot shape sub => decide (slot < 8) && decide (shape < 16) && decide (sub < 8)
  | .tabGate sub width => decide (sub < 8) && decide (width < 2 ^ 16)
  | .tabRaman sub => decide (sub < 8)
  | .tabSwb pat => decide (pat < 16)
  | .tabSetc k n => decide (k < 4) && decide (n < 2 ^ 16)
  | .tabDjnz k target => decide (k < 4) && decide (target < 4096)
  | .tabJmp target => decide (target < 4096)
  | .tabEvt code => decide (code < 256)
  | .probeEmissionEnd slot _ => decide (slot < 8)
  | .lookWindowEnd slot _ => decide (slot < 8)
  | .pluckGo m slot shape scale _ => m.exists_ && decide (slot < 8) && decide (shape < 16) && decide (scale < 256)
  | .carrierPeriodStart k _ _ => decide (k < 5)
  | .ilimTrip k _ _ => decide (k < 5)
  | .diagSample k _ _ => decide (k < 5)
  | .proofWindowEnd k _ => decide (k < 5)
  | .clr m k _ => m.exists_ && decide (k < 5)
  | .occLiveWrite m w _ _ => m.exists_ && decide (w < 16)
  | .gainBinStart bin _ => decide (bin < 4096)
  | .overloadStepDown ch _ => decide (ch < 4)
  | .calBlockEnd ch _ _ _ _ _ _ => decide (ch < 4)
  | .calFactorWrite m addr _ _ => m.exists_ && decide (addr < 2 ^ 32)
  | .skewCal m _ => m.exists_
  | .slotLaneSample _ slot _ _ _ _ _ _ _ _ _ => decide (slot < 8)
  | .pcmLookCompress _ slot _ _ _ => decide (slot < 8)
  | .phsPositionSample _ slot _ _ _ => decide (slot < 8)
  | .frameReady n _ => decide (n < 32)
  | .tileWritten n _ _ => decide (n < 32)
  | .runStart n _ => decide (n < 32)
  | .aarNop n _ _ => decide (n < 32)
  | .aarDone n _ _ => decide (n < 32)
  | .aarJmp n _ _ => decide (n < 32)
  | .aarBr n _ _ => decide (n < 32)
  | .aarLoop n _ _ => decide (n < 32)
  | .aarSli n _ _ => decide (n < 32)
  | .aarSadd n _ _ => decide (n < 32)
  | .aarSsub n _ _ => decide (n < 32)
  | .aarSmul n _ _ => decide (n < 32)
  | .aarSmulq n _ _ => decide (n < 32)
  | .aarSshl n _ _ => decide (n < 32)
  | .aarSshr n _ _ => decide (n < 32)
  | .aarSand n _ _ => decide (n < 32)
  | .aarSor n _ _ => decide (n < 32)
  | .aarSmin n _ _ => decide (n < 32)
  | .aarSmax n _ _ => decide (n < 32)
  | .aarSld n _ _ => decide (n < 32)
  | .aarSst n _ _ => decide (n < 32)
  | .aarSrd n _ _ => decide (n < 32)
  | .aarVld n _ _ => decide (n < 32)
  | .aarVst n _ _ => decide (n < 32)
  | .aarVmul n _ _ => decide (n < 32)
  | .aarVcmul n _ _ => decide (n < 32)
  | .aarVadd n _ _ => decide (n < 32)
  | .aarVsub n _ _ => decide (n < 32)
  | .aarVmac n _ _ => decide (n < 32)
  | .aarVmacc n _ _ => decide (n < 32)
  | .aarAclr n _ _ => decide (n < 32)
  | .aarAmov n _ _ => decide (n < 32)
  | .aarFout n _ _ => decide (n < 32)
  | .aarBwin n _ _ => decide (n < 32)
  | .aarBfft n _ _ => decide (n < 32)
  | .aarBrfft n _ _ => decide (n < 32)
  | .aarBpwr n _ _ => decide (n < 32)
  | .aarBsum n _ _ => decide (n < 32)
  | .aarBmax n _ _ => decide (n < 32)
  | .aarBmin n _ _ => decide (n < 32)
  | .aarBstat n _ _ => decide (n < 32)
  | .aarBmov n _ _ => decide (n < 32)
  | .frameOverrun n _ => decide (n < 32)
  | .coreSwitch n _ => decide (n < 32)
  | .constCopyDone n _ => decide (n < 32)
  | .constReloadDone n _ => decide (n < 32)
  | .reloadFail n _ => decide (n < 32)
  | .zoneTimerExpire zone timer _ => decide (zone < 256) && decide (timer < 4)
  | .armOn m _ => m.exists_
  | .armOff m _ => m.exists_
  | .muFire m _ => m.exists_
  | .calFire m _ => m.exists_
  | .trip m _ _ => m.exists_
  | .selftest m _ _ => m.exists_
  | .learn m _ _ => m.exists_
  | .learnAbort m _ _ => m.exists_
  | .restart m _ => m.exists_
  | .rowHandover d _ => decide (d < 64)
  | .captureAbort m d num24 _ => m.exists_ && decide (d < 64) && decide (num24 < 2 ^ 24)
  | .captureRelease m d num24 _ => m.exists_ && decide (d < 64) && decide (num24 < 2 ^ 24)
  | .cmpFlushTimeout c _ => decide (c < 64)
  | .cvuStart m u _ => m.exists_ && decide (u < 8)
  | .cvuFinish m u _ => m.exists_ && decide (u < 8)
  | .cvuReset m u _ => m.exists_ && decide (u < 8)
  | .feed m u _ _ => m.exists_ && decide (u < 8)
  | .runWrite m u _ _ => m.exists_ && decide (u < 8)
  | .cvuDramDone u _ => decide (u < 8)
  | .dramRequest _ addr _ _ => decide (addr < 2 ^ 32)
  | .dramReadReturn sub err _ => decide (sub < 4) && decide (err < 3)
  | .refreshInterval sub rank _ => decide (sub < 4) && decide (rank < 2)
  | .mr4Result sub rank code _ _ => decide (sub < 4) && decide (rank < 2) && decide (code < 8)
  | .refreshComplete sub rank _ => decide (sub < 4) && decide (rank < 2)
  | .rhWindowEnd sub rank _ => decide (sub < 4) && decide (rank < 2)
  | .powerDownEntry sub rank _ => decide (sub < 4) && decide (rank < 2)
  | .selfRefreshEntry sub _ => decide (sub < 4)
  | .scrubRead err _ => decide (err < 3)
  | .train m _ => m.exists_
  | .trainDone sub _ _ => decide (sub < 4)
  | .retrain sub rank _ _ _ => decide (sub < 4) && decide (rank < 2)
  | .zqCalibration sub rank _ => decide (sub < 4) && decide (rank < 2)
  | .refInj m _ => m.exists_
  | .refCal m _ => m.exists_
  | .refFactorWrite m addr _ _ => m.exists_ && decide (addr < 2 ^ 32)
  | .complianceOpen c _ _ => decide (c < 12)
  | .tachEdge n _ _ => decide (n < 4)
  | .tiuOverflow u _ => decide (u < 4)
  | .rateTimeout u _ => decide (u < 4)
  | .tiuArm m u _ => m.exists_ && decide (u < 4)
  | .tiuDisarm m u _ => m.exists_ && decide (u < 4)
  | .frameReceive mac _ _ => decide (mac < 4)
  | .macDown mac _ _ => decide (mac < 4)
  | .macUp mac _ _ _ => decide (mac < 4)
  | .tsPop m mac _ => m.exists_ && decide (mac < 4)
  | .plDetectProbe lane _ _ => decide (lane < 4)
  | .plTrainingFrame lane _ _ _ _ => decide (lane < 4)
  | .plCodeword lane _ _ _ _ _ _ => decide (lane < 4)
  | .plLaneLost lane _ => decide (lane < 4)
  | .plSleep m _ => m.exists_
  | .plWake m _ => m.exists_
  | .kpOpen path _ _ => decide (path.mac < 5)
  | .kpCommand path _ _ => decide (path.mac < 5)
  | .kpAck path _ _ => decide (path.mac < 5)
  | .kpClose path _ _ => decide (path.mac < 5)
  | .kpClaim path _ _ => decide (path.mac < 5)
  | .kpNop session tag _ => decide (session < 128) && decide (tag < 2 ^ 16)
  | .regRead session tag _ => decide (session < 128) && decide (tag < 2 ^ 16)
  | .regWrite session tag _ => decide (session < 128) && decide (tag < 2 ^ 16)
  | .memRead session tag _ => decide (session < 128) && decide (tag < 2 ^ 16)
  | .memWrite session tag _ => decide (session < 128) && decide (tag < 2 ^ 16)
  | .kpLoad session tag _ => decide (session < 128) && decide (tag < 2 ^ 16)
  | .subscribe session tag _ => decide (session < 128) && decide (tag < 2 ^ 16)
  | .unsubscribe session tag _ => decide (session < 128) && decide (tag < 2 ^ 16)
  | .kpFlush session tag _ => decide (session < 128) && decide (tag < 2 ^ 16)
  | .capArm session tag _ => decide (session < 128) && decide (tag < 2 ^ 16)
  | .capRead session tag _ => decide (session < 128) && decide (tag < 2 ^ 16)
  | .capAbort session tag _ => decide (session < 128) && decide (tag < 2 ^ 16)
  | .capRelease session tag _ => decide (session < 128) && decide (tag < 2 ^ 16)
  | .ringRead session tag _ => decide (session < 128) && decide (tag < 2 ^ 16)
  | .logRead session tag _ => decide (session < 128) && decide (tag < 2 ^ 16)
  | .kpMode session tag _ => decide (session < 128) && decide (tag < 2 ^ 16)
  | .kpAbort session tag _ => decide (session < 128) && decide (tag < 2 ^ 16)
  | .updBegin session tag _ _ => decide (session < 128) && decide (tag < 2 ^ 16)
  | .updWrite session tag _ _ => decide (session < 128) && decide (tag < 2 ^ 16)
  | .updVerify session tag _ => decide (session < 128) && decide (tag < 2 ^ 16)
  | .updActivate session tag _ => decide (session < 128) && decide (tag < 2 ^ 16)
  | .updCommit session tag _ => decide (session < 128) && decide (tag < 2 ^ 16)
  | .updRevert session tag _ => decide (session < 128) && decide (tag < 2 ^ 16)
  | .updStatus session tag _ => decide (session < 128) && decide (tag < 2 ^ 16)
  | .updAttest session tag _ => decide (session < 128) && decide (tag < 2 ^ 16)
  | .updLogSign session tag _ => decide (session < 128) && decide (tag < 2 ^ 16)
  | .commandComplete session tag _ => decide (session < 128) && decide (tag < 2 ^ 16)
  | .controlPacketSend session _ => decide (session < 128)
  | .rtoExpiry session _ => decide (session < 128)
  | .keepaliveExpiry session _ => decide (session < 128)
  | .streamPacketForm sub _ _ => decide (sub < 512)
  | .streamFillTimeout sub _ _ => decide (sub < 512)
  | .streamPacketDrop sub _ => decide (sub < 512)
  | .kick m _ _ => m.exists_
  | .snsConversion temps mv _ => decide (temps.length = 8) && decide (mv.length = 12)
  | .railFault r _ => decide (r < 12)
  | .timSet m _ _ _ => m.exists_
  | .evrErase m _ => m.exists_
  | .otpProgram m _ _ => m.exists_
  | .refClockLost k _ => decide (k < 3)
  | .refClockPresent k _ => decide (k < 3)
  | .ptpFrameSend mac _ _ _ => decide (mac < 4)
  | .safeClear _ | .safeTimeout _ | .watchdogExpiry _ | .injectionTaken _ _ | .snapshotPeriod _ | .snapshotTake _
  | .snapshotComplete _ | .snapTimeout _ | .snapshotHoldExpiry _ | .checkComplete _ | .occPreload _ | .retuneApply _
  | .applySkew _ | .copybackDone _ | .stageCopyFault _ | .tabNop | .tabHalt | .haltWaitPeriod _ | .undefFetch
  | .sweepBoundary _ | .syncInEdge _ | .syncMiss _ | .tabGateClose _ | .pluckFire _ | .pluckDone _ | .occRefresh _
  | .occFrameComplete _ _ _ | .occLatch _ | .gainStepUp _ _ | .skewCalDone _ _ _ | .pilotBlockEnd _ _ _ | .blockLate _
  | .pflLookInput _ | .medianFlush _ | .ramanSweepAccumulate _ _ _ _ _ _ _ | .dtsBlockClose _ | .unloadLate _
  | .profileComplete _ | .featureRecordArrival _ | .zoneStep _ | .idleStep _ | .eventEnqueue _ | .firePulseEnd _
  | .fireEdge _ _ _ | .fireEdgeAccept _ | .armBusChange _ _ | .armForeign _ | .fireStuck _ | .powerBin _ _
  | .montxSample _ _ | .monrxSample _ _ _ | .intlkChange _ _ | .intlkTrip _ | .intlkClosed _ | .peerStatus _ _
  | .peerLost _ _ | .enableClockStop _ _ | .selftestDone _ _ _ | .learnComplete _ _ | .timedRestart _ | .restartPluck _
  | .restartPluckWindowEnd _ | .rowCommit _ | .captureRequest _ | .cmpBlockRelease _ _ | .requestAge _ | .rowIdleClose _
  | .mr4Poll _ | .sequenceCycleStart _ | .conversionEnd _ _ _ _ | .injTrigger _ | .refCalPeriod _ | .refCalDone _ _ _ _
  | .plTrainStart _ | .plTrainTimeout _ | .plLockTimeout _ | .plCapsSend _ | .plCapsTimeout _ | .plDownHoldEnd _
  | .plFlitSend _ | .plFlitReceive _ _ | .plReplayTimeout _ | .plWidthRestore _ | .plQuietEntry _ | .plWakeDetect _
  | .press _ _ | .claimTimeout _ | .updateReset _ | .timeStep _ | .ptpSync _ _ | .ppsEdge _ | .ptpHoldover _
  | .rateLimitSecond _ | .flushTimeout _ | .pageProgrammed _ _ | .logErased _ | .powerOn _ | .pinReset _ _ | .jtagReset _
  | .railReset _ | .clockReset _ | .crystalFail _ | .resetRelease _ _ _ | .bootComplete _ | .prepSteps _ _
  | .bootTuning _ _ _ _ _ _ | .autoService _ | .autoLight _ | .autoStart _ | .pfailLow _ | .pfailRise _ | .fireBusRelease _
  | .pluckGateClose _ | .timeSlewEnd _ | .sectorEraseDone _ _ | .powerDown _ _ | .sealNChange _ _ => true

end Sys2Proof
end

