-- ==== Sys2Proof/Certificates/Slice0/Obligations.lean ====
section
/-! DEFINITION. The statements for the provers. -/

open Sys2Proof Sys2Proof.Machine Sys2Proof.Safety

/-- For every command and state, step of the state with the command at the front of its queue is exec of the command on the state
itself, whose queue is the rest; on an empty queue the step leaves the state as it is (the model's own queue, log entry 2). -/
def Obligations.StepRunsFrontCommand : Prop :=
  ∀ (c : Instr) (s : State),
    step { s with pending := c :: s.pending } = exec c s ∧ (s.pending = [] → step s = .next s)

/-- A corrected cell error is only counted for its block; a fault of a block that restarts isolates it with R22's deadline, without SAFE;
a fault of a block that does not restart puts the chip into SAFE; a block that reports ready by its deadline is no longer isolated, and
one that does not stays isolated and escalates with cause 0xF5. -/
def Obligations.BlockFaultsAreContained : Prop :=
  ∀ (t : Instant) (s w : State), w = s.atT t →
    (∀ b u cell mem, ∃ v, exec (.cellErrorDetected b u 0xF0 cell mem t) s = .next v ∧ onlyParts [.chp] w v
      ∧ v.chp = { w.chp with corrected := countCorrected w.chp.corrected b })
    ∧ (∀ b u cause cell, cause ≠ 0xF0 →
      exec (.cellErrorDetected b u cause cell none t) s = exec (.blockFault b u cause (cell % 2 ^ 16) t) s)
    ∧ (∀ b cause d dt, blockRestart b = some dt → escalates b cause = false →
        (w.chp.faults.filter (fun f => f.1 == b && decide (w.now < f.2 + 10 ^ 13))).length < 2 →
      ∃ v, exec (.blockFault b none cause d t) s = .next v ∧ v.chp.safe = w.chp.safe
        ∧ { block := b, unit := none, deadline := some (w.now + dt) } ∈ v.chp.isolated)
    ∧ (∀ b cause d, blockRestart b = none → unitRestart b = none → b ≠ .lan → b ≠ .chp →
      ∃ v, exec (.blockFault b none cause d t) s = .next v ∧ v.chp.safe = true ∧ v.isolatedAt b none = true)
    ∧ (∀ b u d, w.restarting b u = some d → w.now ≤ d →
      ∃ v, exec (.blockRestartReady b u t) s = .next v
        ∧ v.chp.isolated = w.chp.isolated.filter (fun i => !(i.block == b && i.unit == u)))
    ∧ (∀ b u d, w.restarting b u = some d → d < w.now →
      ∃ v, exec (.restartFailed b u t) s = .next v ∧ v.chp.safe = true ∧ v.isolatedAt b u = true)

/-- SAFE clears with nothing isolated, within 1 s of its entry or in RECOVERY, and the first error's code and count with it; after 1 s the
mode becomes RECOVERY; a watchdog that expires escalates and ends in RECOVERY too; an injection is stored in TEST and taken once. -/
def Obligations.SafeAndWatchdogRecover : Prop :=
  ∀ (t : Instant) (s w : State), w = s.atT t →
    (w.chp.safe = true → w.chp.isolated = [] → (w.now ≤ w.chp.safeSince + 10 ^ 12 ∨ w.chp.mode = .recovery) → storeWf w.regs.live →
      ∃ v, exec (.safeClear t) s = .next v ∧ v.chp = { w.chp with safe := false, errSeen := false }
        ∧ v.rd Reg.CHP_ERR_FIRST_CODE = 0 ∧ v.rd Reg.CHP_ERR_COUNT_COUNT = 0 ∧ onlyParts [.chp, .regs] w v)
    ∧ (w.chp.safe = true → w.chp.safeSince + 10 ^ 12 < w.now →
      ∃ v, exec (.safeTimeout t) s = .next v ∧ v.chp.mode = .recovery)
    ∧ (w.pwr.inReset = false → w.mgc.kickAt + w.watchdogPeriod ≤ w.now →
      ∃ v, exec (.watchdogExpiry t) s = .next v ∧ v.chp.mode = .recovery)
    ∧ (∀ m c b, commandable w m .chp none → w.chp.mode = .test → blockAt (c % 2 ^ 16 / 2 ^ 13) (c % 2 ^ 16 / 2 ^ 8 % 32) = some b →
      ∃ v, exec (.injectGo m c t) s = .next v ∧ v.chp = { w.chp with inject := some (c % 2 ^ 16) } ∧ onlyParts [.chp, .regs, .bus] w v)
    ∧ (∀ u c b, w.chp.inject = some c → blockAt (c / 2 ^ 13) (c / 2 ^ 8 % 32) = some b →
      exec (.injectionTaken u t) s = .next (({ w with chp := { w.chp with inject := none } } : State).blockFault b u 0xFE 0))

/-- A request by any master is kept from its first instant on; PERIOD asks again; a request whose boundary has come makes SNAP_SEQ odd and
copies every counter; completion within 10 µs makes it even and holds the snapshot; a late one escalates; a release with the right SEQ,
or the end of the hold time, frees it. -/
def Obligations.SnapshotRunsItsCourse : Prop :=
  ∀ (t : Instant) (s w : State), w = s.atT t → storeWf w.regs.live →
    (∀ m, w.isolatedAt .chp none = false →
      ∃ v, exec (.snapshotRequest m t) s = .next v ∧ v.chp = { w.chp with snapReq := w.chp.snapReq.or (some w.now) }
        ∧ onlyParts [.chp, .regs, .bus] w v)
    ∧ (∀ m, commandable w m .chp none →
      exec (.snapshotRequest m t) s = .next ({ w with chp := { w.chp with snapReq := w.chp.snapReq.or (some w.now) } }).done)
    ∧ (w.rd Reg.CHP_SNAP_CTL_PERIOD ≠ 0 → w.chp.snapFrom + w.rd Reg.CHP_SNAP_CTL_PERIOD ≤ w.sweep → w.chp.snapBusy = none →
      exec (.snapshotPeriod t) s = .next { w with chp := { w.chp with snapReq := w.chp.snapReq.or (some w.now) } })
    ∧ (∀ r, w.chp.snapHeld = none → w.chp.snapBusy = none → w.chp.snapReq = some r → w.psq.state ≠ .running →
      ∃ v, exec (.snapshotTake t) s = .next v ∧ v.chp.snapBusy = some w.now ∧ v.chp.snapReq = none
        ∧ v.rd Reg.CHP_SNAP_SEQ_SEQ % 2 = 1 ∧ onlyParts [.chp, .regs] w v)
    ∧ (∀ r b, w.chp.snapHeld = none → w.chp.snapBusy = none → w.chp.snapReq = some r → w.psq.state = .running →
      w.guards.lastBoundary.map (fun x => x.1) = some b → r + 2 * 10 ^ 6 ≤ b → b ≤ w.now → w.now ≤ b + 10 ^ 6 →
      ∃ v, exec (.snapshotTake t) s = .next v ∧ v.chp.snapBusy = some b ∧ v.chp.snapReq = none
        ∧ v.rd Reg.CHP_SNAP_SEQ_SEQ % 2 = 1 ∧ onlyParts [.chp, .regs] w v)
    ∧ (∀ b, w.chp.snapBusy = some b → w.now < b + 10 ^ 7 → w.rd Reg.CHP_SNAP_SEQ_SEQ % 2 = 1 →
      ∃ v, exec (.snapshotComplete t) s = .next v ∧ v.chp.snapBusy = none ∧ v.chp.snapHeld = some w.now
        ∧ v.rd Reg.CHP_SNAP_SEQ_SEQ % 2 = 0 ∧ onlyParts [.chp, .regs] w v)
    ∧ (∀ b, w.chp.snapBusy = some b → b + 10 ^ 7 ≤ w.now →
      ∃ v, exec (.snapTimeout t) s = .next v ∧ v.chp.snapBusy = none ∧ v.chp.safe = true)
    ∧ (∀ m x h, w.isolatedAt .chp none = false → w.chp.snapHeld = some h → x.toNat = w.rd Reg.CHP_SNAP_SEQ_SEQ →
      exec (.snapshotRelease m x t) s = .next ({ w with chp := { w.chp with
        snapHeld := none, snapReq := w.chp.snapReq.map (fun r => max r (w.now - 2 * 10 ^ 6)) } }).done)
    ∧ (∀ h, w.chp.snapHeld = some h → h + max 1 (w.rd Reg.CHP_SNAP_HOLD_MS) * 10 ^ 9 ≤ w.now →
      exec (.snapshotHoldExpiry t) s = .next { w with chp := { w.chp with
        snapHeld := none, snapReq := w.chp.snapReq.map (fun r => max r (w.now - 2 * 10 ^ 6)) } })

/-- CHK of a stage that nothing holds begins the check, which ends CHECKED or FAILED with its code (CK23's capacities are free
values, log entry 10); APPLY_NEXT and an APPLY_AT in time arm the
Retune in SERVICE and TEST out of SAFE; CANCEL takes it back; DISCARD and the switch go through COPYBACK, whose end makes the
stage equal the active tuning; a copy-back or a confirmation that is overdue escalates. -/
def Obligations.StageCommandsMoveTheStage : Prop :=
  ∀ (m : Master) (t : Instant) (s w : State), w = s.atT t → w.chp.retuneDue = none →
    (commandable w m .chp none → w.chp.mode ≠ .boot → w.chp.mode ≠ .recovery → w.chp.stage ≠ .pending → w.chp.stage ≠ .copyback →
      ∃ v, exec (.chk m t) s = .next v ∧ v.chp.stage = .checking ∧ v.chp.checkSince = w.now ∧ onlyParts [.chp, .occ, .bus] w v)
    ∧ (∀ c i, w.chp.stage = .checking → w.preloading = false → firstFailure w checkList = some (c, i) →
      storeWf w.regs.live →
      ∃ v, exec (.checkComplete t) s = .next v ∧ v.chp.stage = .failed ∧ v.rd Reg.CHP_CKRES_CODE = c % 256
        ∧ v.rd Reg.CHP_CKRES_ITEM = i % 2 ^ 16)
    ∧ (w.chp.stage = .checking → w.preloading = false → firstFailure w (checkList.filter (fun c => c.1 != 23)) = none →
      storeWf w.regs.live →
      ∃ v, exec (.checkComplete t) s = .next v
        ∧ (w.ck23 = none → v.chp.stage = .checked ∧ v.rd Reg.CHP_CKRES_CODE = 0)
        ∧ (w.ck23 ≠ none → v.chp.stage = .failed ∧ v.rd Reg.CHP_CKRES_CODE = 23))
    ∧ (commandable w m .chp none → serving w → w.chp.safe = false → w.chp.stage = .checked →
      ∃ v, exec (.applyNext m t) s = .next v ∧ v.chp.stage = .pending ∧ v.chp.armed = some (.next (w.now + 2 * 10 ^ 6)))
    ∧ (commandable w m .chp none → serving w → w.chp.safe = false → w.chp.stage = .checked →
        w.applyLate (w.rd Reg.CHP_APPLY_AT_SWEEP) = false →
      ∃ v, exec (.applyAt m t) s = .next v ∧ v.chp.stage = .pending ∧ v.chp.armed = some (.atSweep (w.rd Reg.CHP_APPLY_AT_SWEEP)))
    ∧ (commandable w m .chp none → w.chp.stage = .pending →
      exec (.cancel m t) s = .next (({ w with chp := { w.chp with stage := .checked, armed := none, retuneDue := none } } : State).event
        [Reg.CHP_CHIP_STAT_APPLY_CANCELLED]).done)
    ∧ (commandable w m .chp none → w.chp.mode ≠ .boot → w.chp.mode ≠ .recovery → w.chp.stage ≠ .pending → w.chp.stage ≠ .copyback →
      ∃ v, exec (.discard m t) s = .next v ∧ v.chp.stage = .copyback ∧ v.chp.copybackSince = w.now)
    ∧ (w.chp.stage = .copyback →
      exec (.copybackDone t) s = .next { w with
        regs := { w.regs with stage := w.regs.tuned }, mems := { w.mems with stage := w.mems.act }
        chp := { w.chp with stage := .clean, loadBad := false, stageBad := [] } })
    ∧ (w.chp.stage = .copyback → w.chp.copyFault = false → w.chp.copybackSince + 3 * 10 ^ 9 ≤ w.now →
      ∃ v, exec (.stageCopyFault t) s = .next v ∧ v.chp.safe = true ∧ v.chp.copyFault = true)
    ∧ (∀ c n, c ∈ w.chp.confirms → c.lastSweep = some n → n < w.sweep →
      ∃ v, exec (.applySkew t) s = .next v ∧ v.chp.safe = true ∧ c ∉ v.chp.confirms)

/-- RETUNE_APPLY with a Retune due: every tuned register word and memory byte becomes the staged one, the former tuning is kept for the
items of earlier sweeps, the stage goes to COPYBACK, PSQ goes on at the new ENTRY.RESUME, and items from the present sweep on are the
new tuning's. -/
def Obligations.RetuneSwitchesTheWholeTuning : Prop :=
  ∀ (t d : Instant) (s w : State), w = s.atT t → w.chp.retuneDue = some d → storeWf w.regs.live →
    ∃ v, exec (.retuneApply t) s = .next v ∧ v.regs.tuned = w.regs.stage ∧ v.mems.act = w.mems.stage ∧ v.regs.prev = w.regs.tuned
      ∧ v.mems.prev = w.mems.act ∧ v.regs.stage = w.regs.stage ∧ v.mems.dram = w.mems.dram
      ∧ v.chp.stage = .copyback ∧ v.chp.retuneDue = none ∧ v.chp.ownsFrom = w.sweep
      ∧ v.psq.pc = w.rdStage Reg.PSQ_ENTRY_RESUME ∧ v.psq.loops = [0, 0, 0, 0] ∧ v.psq.period = v.rd Reg.PSQ_PERIOD_TICKS

/-- A request by a master that may write CHP changes SERVICE to TEST or RECOVERY, TEST to SERVICE or RECOVERY, and PREP whose steps are
complete to SERVICE with the staged tuning active; from RECOVERY a request for BOOT resets the chip; every other request is refused,
counted and flagged, and changes nothing else. -/
def Obligations.ModeRequestsFollowTheirPaths : Prop :=
  ∀ (m : Master) (t : Instant) (s w : State), w = s.atT t → commandable w m .chp none →
    (w.chp.mode = .service → ∃ v, exec (.modeRequest m 3 t) s = .next v ∧ v.chp.mode = .test)
    ∧ (w.chp.mode = .test → ∃ v, exec (.modeRequest m 2 t) s = .next v ∧ v.chp.mode = .service)
    ∧ (w.chp.mode = .service ∨ w.chp.mode = .test → ∃ v, exec (.modeRequest m 4 t) s = .next v ∧ v.chp.mode = .recovery)
    ∧ (w.chp.mode = .prep → w.prepComplete = true →
      ∃ v, exec (.modeRequest m 2 t) s = .next v ∧ v.chp.mode = .service ∧ v.regs.tuned = w.regs.stage ∧ v.mems.act = w.mems.stage)
    ∧ (w.chp.mode = .recovery → ∃ v, exec (.modeRequest m 0 t) s = .next v ∧ v.chp.mode = .boot)
    ∧ (∀ r, r < 8 → (w.chp.mode, r) ≠ (.service, 3) → (w.chp.mode, r) ≠ (.test, 2) → (w.chp.mode, r) ≠ (.service, 4)
        → (w.chp.mode, r) ≠ (.test, 4) → (w.chp.mode, r) ≠ (.recovery, 0) → ¬ (w.chp.mode = .prep ∧ r = 2 ∧ w.prepComplete = true) →
      exec (.modeRequest m r t) s = .next
        (((w.bump Reg.CHP_MODE_REFUSE_CNT_COUNT).event [Reg.CHP_CHIP_STAT_MODE_REFUSED]).done))

/-- A write that reaches a plain word of RW fields stores the value in its fields by the plain alias, sets, clears and toggles the bits
written as one by the three others, completes, and changes nothing else; where nothing stands at an address, the access completes with
BUS_ERROR, returns zero and counts. -/
def Obligations.RegisterWritesStore : Prop :=
  ∀ (m : Master) (addr a : Nat) (x : Word) (t : Instant) (s u : State) (r : RegRow) (k : Word), u = atBus s t → k = fieldBits r →
    (reaches u m addr r a 0 false true → plainWord u m r a →
      exec (.registerWrite m addr x t) s = .next (u.setLive a ((u.live a &&& ~~~k) ||| (x &&& k))).done)
    ∧ (reaches u m (aliasOf 1 addr) r a 1 false true → plainWord u m r a →
      exec (.setWrite m addr x t) s = .next (u.setLive a ((u.live a &&& ~~~k) ||| ((u.live a ||| x) &&& k))).done)
    ∧ (reaches u m (aliasOf 2 addr) r a 2 false true → plainWord u m r a →
      exec (.clearWrite m addr x t) s = .next (u.setLive a ((u.live a &&& ~~~k) ||| ((u.live a &&& ~~~x) &&& k))).done)
    ∧ (reaches u m (aliasOf 3 addr) r a 3 false true → plainWord u m r a →
      exec (.toggleWrite m addr x t) s = .next (u.setLive a ((u.live a &&& ~~~k) ||| ((u.live a ^^^ x) &&& k))).done)
    ∧ (placeOf addr = none → ∀ c, c ∈ [Instr.registerWrite m addr x t, .lowWordRead m addr t, .lowWordWrite m addr x t,
        .highWordRead m addr t, .highWordWrite m addr x t, .stageWrite m addr x t, .statusClearWrite m addr x t] →
      exec c s = .next (({ u with bus := { data := 0, error := true } } : State).bump Reg.CHP_BUSERR_CNT_COUNT))

/-- A plain write to a status word clears the flags written as one in SERVICE where it carries the word's sequence number, counts as
stale there otherwise, and does nothing in another mode; a write to a tuned word that the stage takes changes the stage bank alone and
makes it DIRTY; the low word of a 64-bit register is read with its high word kept for the same master, and written only with the
high word; a bridge time-out answers BUS_ERROR and is a fault of the block. -/
def Obligations.OtherBusAccessesAct : Prop :=
  ∀ (m : Master) (addr a : Nat) (x : Word) (t : Instant) (s u : State) (r : RegRow), u = atBus s t →
    (reaches u m addr r a 0 false true → r.tuned = false → r.half = 0 → isStatusRow r = true → u.mayPriv m = true →
        u.modeShut a = false → u.cvuShut a = false →
      exec (.statusClearWrite m addr x t) s = .next (State.done
        (if u.chp.mode = .service then
          (if x.toNat / 2 ^ 24 = (u.live a).toNat / 2 ^ 24 then u.setLive a (u.live a &&& ~~~(x &&& 0xFFFFFF))
            else u.bump Reg.CHP_STALE_CNT_COUNT)
        else u)))
    ∧ (reaches u m addr r a 0 false true ∨ reaches u m addr r a 0 true true → r.tuned = true → RegRow.maskOf r (fun f => f.acc == .t) ≠ 0 →
        u.mayPriv m = true → (u.maySeal m = true ∨ r.fields.all (fun f => !f.sealed) = true) → u.stageRefusal = none → storeWf u.regs.stage →
      ∃ v, exec (.stageWrite m addr x t) s = .next v ∧ v.chp.stage = .dirty ∧ v.regs.tuned = u.regs.tuned ∧ v.mems = u.mems
        ∧ v.stageWord a = (u.stageWord a &&& ~~~(RegRow.maskOf r (fun f => f.acc == .t))) ||| (x &&& RegRow.maskOf r (fun f => f.acc == .t))
        ∧ v.bus.error = false)
    ∧ (reaches u m addr r a 0 false false → r.tuned = false → r.half = 1 →
      ∃ v, exec (.lowWordRead m addr t) s = .next v ∧ v.bus = { data := u.readFields m r (u.word r a), error := false }
        ∧ v.shadowOf m a .read = some (u.seen m (a + 4)) ∧ onlyParts [.chp, .bus] u v)
    ∧ (∀ y, reaches u m addr r a 0 false false → r.tuned = false → r.half = 2 → u.shadowOf m (a - 4) .read = some y →
      ∃ v, exec (.highWordRead m addr t) s = .next v ∧ v.bus = { data := y, error := false } ∧ v.shadowAt m = none
        ∧ onlyParts [.chp, .bus] u v)
    ∧ (reaches u m addr r a 0 false true → r.tuned = false → r.half = 1 →
      ∃ v, exec (.lowWordWrite m addr x t) s = .next v ∧ v.shadowOf m a .write = some x ∧ v.bus.error = false
        ∧ onlyParts [.chp, .bus] u v)
    ∧ (∀ y, u.shadowOf m 0x30 .write = some y → u.isolatedAt .chp none = false → u.jtagShut m = false → u.mayPriv m = true →
        storeWf u.regs.live →
      ∃ v, exec (.highWordWrite m 0x34 x t) s = .next v
        ∧ v.rd Reg.CHP_APPLY_AT_SWEEP = y.toNat + x.toNat % 2 ^ 16 * 2 ^ 32 ∧ v.shadowAt m = none ∧ onlyParts [.regs, .chp, .bus] u v)
    ∧ (∀ p, targetOf addr = some p →
      exec (.bridgeTimeout m addr t) s = .next
        ((({ s.atT t with bus := { data := 0, error := true } } : State).bump Reg.CHP_BUSERR_CNT_COUNT).blockFault p.1 p.2 0xF3 0))

/-- Whatever a master of the OPEN class writes, at whatever bus address and through whichever alias or view, but for SNAP_REL and a
session's own words: no part of the machine changes but the answer, its own 64-bit shadow and a snapshot request, and no register
word but the counts of denials, bus errors, stale writes and stage misses and CHIP_STAT. -/
def Obligations.OpenMastersChangeNothing : Prop :=
  ∀ (m : Master) (addr : Nat) (x : Word) (t : Instant) (s u : State), u = atBus s t → storeWf u.regs.live → u.mayPriv m = false →
    (∀ r a b fl st, placeOf addr = some (.reg r a b fl st) → openTo m a = false) →
    ∃ v, exec (.registerWrite m addr x t) s = .next v ∧ onlyParts [.regs, .chp, .bus] u v
      ∧ onlyWords [0x14, 0x80, 0x84, 0x88, 0x8c] u v
      ∧ v.chp = { u.chp with shadows := v.chp.shadows, snapReq := v.chp.snapReq }
      ∧ (∀ n, n ≠ m → v.shadowAt n = u.shadowAt n)

/-- A write to a tuned register by a master to whom the seal is closed, through any alias or view, leaves every seal-locked bit of the
stage bank as it was, and the whole active tuning. -/
def Obligations.SealedFieldsKeepTheirValue : Prop :=
  ∀ (m : Master) (addr : Nat) (x : Word) (t : Instant) (s u v : State) (r : RegRow) (a : Nat) (b : Block) (fl : Nat) (st : Bool),
    u = atBus s t → storeWf u.regs.stage → u.maySeal m = false → placeOf addr = some (.reg r a b fl st) → r.tuned = true →
    exec (.stageWrite m addr x t) s = .next v →
    (∀ c, v.stageWord c &&& sealedMask c = u.stageWord c &&& sealedMask c) ∧ v.regs.tuned = u.regs.tuned ∧ v.mems = u.mems

/-- Where a tab instruction issues, NOP, WAIT, WAITU, SETC, DJNZ, JMP and EVT answer the next state with the program counter, the issue
tick, the loop counters and EVT's code, flag and counter as R81, R83 and R87 say, and nothing else changed; HALT with B = 0 stops the
tab where it stands. -/
def Obligations.TabInstructionsMoveThePc : Prop :=
  ∀ s u : State,
    (issues s 0 u → exec .tabNop s = .next (tabOn u 1))
    ∧ (∀ n, n < 2 ^ 20 → issues s (2 ^ 26 + n) u → exec (.tabWait n) s = .next (tabOn u (max n 1)))
    ∧ (∀ n, n < 2 ^ 20 → issues s (2 * 2 ^ 26 + n) u → u.psq.issue < n → exec (.tabWaitu n) s = .next (tabOn u (n - u.psq.issue)))
    ∧ (∀ n, n < 2 ^ 20 → issues s (2 * 2 ^ 26 + n) u → n = u.psq.issue → exec (.tabWaitu n) s = .next (tabOn u 1))
    ∧ (∀ n, n < 2 ^ 20 → issues s (2 * 2 ^ 26 + n) u → n < u.psq.issue →
        exec (.tabWaitu n) s = .next
          ((({ tabOn u 1 with psq := { (tabOn u 1).psq with late := true } }).event [Reg.PSQ_STAT_LATE]).bump Reg.PSQ_LATE_CNT))
    ∧ (∀ k n, k < 4 → n < 2 ^ 16 → issues s (0x10 * 2 ^ 26 + k * 2 ^ 16 + n) u →
        exec (.tabSetc k n) s = .next (tabOn { u with psq := { u.psq with loops := u.psq.loops.set k (BitVec.ofNat 16 n) } } 1))
    ∧ (∀ k a, k < 4 → a < 4096 → issues s (0x11 * 2 ^ 26 + k * 2 ^ 16 + a) u → u.psq.loops[k]? = some 1 →
        exec (.tabDjnz k a) s = .next (tabOn { u with psq := { u.psq with loops := u.psq.loops.set k 0 } } 1))
    ∧ (∀ k a c, k < 4 → a < 4096 → issues s (0x11 * 2 ^ 26 + k * 2 ^ 16 + a) u → u.psq.loops[k]? = some c → c ≠ 1 →
        exec (.tabDjnz k a) s = .next { u with
          psq := { u.psq with loops := u.psq.loops.set k (c - 1), pc := a, issue := u.psq.issue + 1 } })
    ∧ (∀ a, a < 4096 → issues s (0x12 * 2 ^ 26 + a) u →
        exec (.tabJmp a) s = .next { u with psq := { u.psq with pc := a, issue := u.psq.issue + 1 } })
    ∧ (∀ c, c < 256 → issues s (0x18 * 2 ^ 26 + c) u →
        exec (.tabEvt c) s = .next
          (tabOn (((u.wr Reg.PSQ_EVT_CODE_CODE c).event [Reg.PSQ_STAT_TAB_EVT]).bump Reg.PSQ_EVT_CNT) 1))
    ∧ (issues s (0x3F * 2 ^ 26) u →
        ∃ t, exec .tabHalt s = .next t ∧ t.psq.state = .halted ∧ t.psq.haltCause = .halt0 ∧ t.psq.pc = u.psq.pc
          ∧ onlyParts [.psq, .regs, .guards, .dts, .pfl] u t)

/-- Where a tab instruction issues, a FIRE of an active slot that is free starts one probe and opens one look at its pin instant, a FIRE
of an inactive slot only counts, GATE opens a closed gate for WIDTH sub-ticks, the sweep's first RAMAN triggers the sampler, and SWB
waits for the later of its own tick and PERIOD. -/
def Obligations.TabInstructionsDriveTheLight : Prop :=
  ∀ s u : State,
    (∀ k p b, k < 8 → p < 16 → b < 8 → issues s (4 * 2 ^ 26 + k * 2 ^ 23 + p * 2 ^ 19 + b * 2 ^ 16) u → u.on (Reg.PSY_SLOT_EN k) = true →
        (∀ x ∈ u.psq.probes, x.slot = k → x.endAt ≤ pinAt u b) →
        ∃ v, exec (.tabFire k p b) s = .next v
          ∧ v.psq.probes.dropLast = u.psq.probes
          ∧ v.psq.probes.getLast?.map (fun x => (x.slot, x.pluck, x.fireAt)) = some (k, false, pinAt u b)
          ∧ v.psq.looks.length = u.psq.looks.length + 1
          ∧ v.psq.looks.getLast?.map (fun l => (l.slot, l.shape, l.fireAt, l.windowEnd))
            = some (k, p, pinAt u b, pinAt u b + u.psq.period * 3200)
          ∧ v.psq.pc = (u.psq.pc + 1) % 4096 ∧ v.psq.issue = u.psq.issue + 1
          ∧ onlyParts [.psq, .regs] u v)
    ∧ (∀ k p b, k < 8 → p < 16 → b < 8 → issues s (4 * 2 ^ 26 + k * 2 ^ 23 + p * 2 ^ 19 + b * 2 ^ 16) u → u.on (Reg.PSY_SLOT_EN k) = false →
        exec (.tabFire k p b) s = .next (tabOn ((u.event [Reg.PSQ_STAT_FIRE_INACTIVE]).bump Reg.PSQ_INACTIVE_CNT) 1))
    ∧ (∀ b w, b < 8 → w < 2 ^ 16 → issues s (5 * 2 ^ 26 + b * 2 ^ 16 + w) u → u.psq.gate = none → 0 < w →
        exec (.tabGate b w) s = .next (tabOn { u with psq := { u.psq with
          gate := some (pinAt u b, pinAt u b + w * 400) } } 1))
    ∧ (∀ b, b < 8 → issues s (6 * 2 ^ 26 + b * 2 ^ 16) u → u.psq.raman = false →
        exec (.tabRaman b) s = .next (tabOn { u with
          psq := { u.psq with raman := true, ramanEnd := pinAt u b + max 1 (u.rd Reg.PSY_RAMAN_WIDTH) * 400 }
          rmx := { u.rmx with triggers := ((pinAt u b, u.sweep) :: u.rmx.triggers).take 8 } } 1))
    ∧ (∀ pat, pat < 16 → issues s (8 * 2 ^ 26 + pat) u → u.following = false → u.psq.first = true →
        exec (.tabSwb pat) s = .next { u with psq := { u.psq with
          wait := some { pat := pat, tick := u.psq.issue, follower := false } } })
    ∧ (∀ pat, pat < 16 → issues s (8 * 2 ^ 26 + pat) u → u.following = false → u.psq.first = false → u.psq.issue ≤ u.psq.period →
        exec (.tabSwb pat) s = .next { u with psq := { u.psq with
          wait := some { pat := pat, tick := u.psq.period, follower := false } } })

/-- START by a master that may command a halted tab in SERVICE or TEST and out of SAFE sets it RUNNING at ENTRY.START (of the tuning that a
Retune due then brings) with its loop counters at zero, and is refused otherwise; HALT_SWEEP is kept for the next SWB; HALT_NOW stops the tab where the next fetch is due already, else it is kept
for that fetch. -/
def Obligations.TabStartsAndHalts : Prop :=
  ∀ (m : Master) (t : Instant) (s u : State), u = s.atT t →
    (commandable u m .psq none → u.psq.state ≠ .running → serving u → u.chp.safe = false →
      ∃ v, exec (.start m t) s = .next v ∧ v.psq.state = .running ∧ v.psq.haltCause = .none ∧ v.psq.pc = v.rd Reg.PSQ_ENTRY_START
        ∧ v.psq.loops = [0, 0, 0, 0] ∧ v.psq.issue = 0 ∧ v.psq.wait = none ∧ v.psq.first = true
        ∧ v.psq.period = v.rd Reg.PSQ_PERIOD_TICKS ∧ v.now ≤ v.psq.tick0 ∧ v.psq.tick0 < v.now + 3200 ∧ v.psq.tick0 % 3200 = 0
        ∧ (u.chp.stage ≠ .pending → onlyParts [.psq, .pfl, .bus] u v))
    ∧ (commandable u m .psq none → (u.psq.state = .running ∨ ¬ serving u ∨ u.chp.safe = true) →
      exec (.start m t) s = .next (u.event [Reg.PSQ_STAT_CMD_REFUSED]).done)
    ∧ (commandable u m .psq none → u.psq.state = .running →
      exec (.haltSweep m t) s = .next ({ u with psq := { u.psq with haltAtSwb := some .sweepCmd } }).done)
    ∧ (commandable u m .psq none → u.psq.state = .running → u.inWholeHalt = false → (∀ f, u.nextFetch = some f → u.now < f) →
      exec (.haltNow m t) s = .next ({ u with psq := { u.psq with haltAtFetch := some .nowCmd } }).done)
    ∧ (commandable u m .psq none → u.inWholeHalt = false → u.nextFetch = some u.now →
      ∃ v, exec (.haltNow m t) s = .next v ∧ v.psq.state = .halted ∧ v.psq.haltCause = .nowCmd ∧ v.psq.pc = u.psq.pc
        ∧ onlyParts [.psq, .regs, .guards, .dts, .pfl, .bus] u v)

/-- The boundary of an SWB that waits and is reached begins the next sweep at its computed instant, one instruction on, with its PAT, and
PSQ.SWEEP one higher modulo 2^48; a halt set for the SWB stops the tab there instead. The first edge that a follower accepts sets
the residue; a missing edge counts and the boundary is taken; HALT with B = 1 stops the tab once the sweep is whole. -/
def Obligations.SweepBoundariesAreTaken : Prop :=
  ∀ (t : Instant) (s : State) (w : SwbWait), s.psq.state = .running →
    (∀ u, s.psq.wait = some w → w.follower = false → s.boundaryAt w ≤ t → u = s.atT (s.boundaryAt w) →
      u.psq.haltAtSwb = none → storeWf u.regs.live →
      ∃ v, exec (.sweepBoundary t) s = .next v ∧ v.psq.tick0 = s.boundaryAt w ∧ v.psq.issue = 0 ∧ v.psq.pat = w.pat ∧ v.psq.wait = none
        ∧ v.psq.pc = (u.psq.pc + 1) % 4096 ∧ v.sweep = (u.sweep + 1) % 2 ^ 48 ∧ v.mems = u.mems)
    ∧ (∀ u c, s.psq.wait = some w → w.follower = false → s.boundaryAt w ≤ t → u = s.atT (s.boundaryAt w) →
      u.psq.haltAtSwb = some c → storeWf u.regs.live →
      ∃ v, exec (.sweepBoundary t) s = .next v ∧ v.psq.state = .halted ∧ v.psq.haltCause = c ∧ v.sweep = u.sweep ∧ v.mems = u.mems)
    ∧ (∀ u, u = s.atT t → u.psq.state = .running → u.following = true → u.psq.syncEdge = none → u.psq.wait = none →
      u.psq.tick0 + (u.psq.period - 320) * 3200 ≤ t →
      exec (.syncInEdge t) s = .next { u.wr Reg.PSQ_SYNC_RES_SUB ((t - u.psq.tick0) % 3200 / 400) with
        psq := { u.psq with syncEdge := some t } })
    ∧ (∀ u b, s.psq.wait = some w → w.follower = true → s.psq.haltAtSwb = none →
      b = s.psq.tick0 + max w.tick (s.psq.period + 320) * 3200 → b ≤ t → u = s.atT b → u.psq.haltAtSwb = none →
      storeWf u.regs.live →
      ∃ v, exec (.syncMiss t) s = .next v ∧ v.psq.tick0 = b ∧ v.psq.issue = 0 ∧ v.psq.pat = w.pat
        ∧ v.sweep = (u.sweep + 1) % 2 ^ 48 ∧ v.rd Reg.PSQ_SYNC_MISS_CNT = min (u.rd Reg.PSQ_SYNC_MISS_CNT + 1) (2 ^ 32 - 1))
    ∧ (∀ u, issues s (0x3F * 2 ^ 26 + 1) u → u.psq.tick0 + max u.psq.issue u.psq.period * 3200 ≤ t →
      ∃ v, exec (.haltWaitPeriod t) s = .next v ∧ v.psq.state = .halted ∧ v.psq.haltCause = .halt1 ∧ v.psq.pc = u.psq.pc
        ∧ v.mems = u.mems)

/-- A pluck request that nothing refuses is accepted with code 0 and waits with the slot, the shape and the scale asked for; a refused one
says why. Its probe fires once, at its instant, with one look of PAT 15; its gate closes; and it is done when its window has ended. A gate
and a look of the tab end once their instants have come, a probe that has been emitted is over, and
fetching a word that is no instruction is PSQ's own fault 1. -/
def Obligations.PlucksAndLooksRunTheirCourse : Prop :=
  ∀ (t : Instant) (s u : State), u = s.atT t →
    (∀ m k p x, commandable u m .psq none → u.psq.state ≠ .running → serving u → u.chp.safe = false →
      u.on (Reg.PSY_SLOT_EN (k % 8)) = true → u.psq.pluck = none → u.gda.state = .armed → u.gdb.state = .armed → x % 256 ≠ 0 →
      shapeBad u.mems.act (p % 16) = false → storeWf u.regs.live →
      ∃ v, exec (.pluckGo m k p x t) s = .next v ∧ v.rd Reg.PSQ_PLUCK_RES_CODE = 0
        ∧ v.psq.pluck.map (fun y => (y.slot, y.shape, y.scale, y.fired, y.restart)) = some (k % 8, p % 16, x % 256, false, false))
    ∧ (∀ m k p x, commandable u m .psq none → u.psq.state = .running → storeWf u.regs.live →
      ∃ v, exec (.pluckGo m k p x t) s = .next v ∧ v.psq = u.psq ∧ v.rd Reg.PSQ_PLUCK_RES_CODE = 1)
    ∧ (∀ y, u.psq.pluck = some y → y.fired = false → y.fireAt ≤ u.now →
      ∃ v, exec (.pluckFire t) s = .next v ∧ v.psq.pluck = some { y with fired := true }
        ∧ v.psq.probes.dropLast = u.psq.probes ∧ v.psq.looks.dropLast = u.psq.looks
        ∧ v.psq.probes.getLast?.map (fun x => (x.slot, x.pluck, x.fireAt)) = some (y.slot, true, y.fireAt)
        ∧ v.psq.looks.getLast?.map (fun l => (l.slot, l.shape, l.pat, l.pluck)) = some (y.slot, y.shape, 15, true)
        ∧ onlyParts [.psq, .regs] u v)
    ∧ (∀ y, u.psq.pluck = some y → y.closeAt ≤ u.now →
      exec (.pluckGateClose t) s = .next { u with psq := { u.psq with
        pluck := some { y with gateClosed := true }, gateShut := max u.psq.gateShut y.closeAt } })
    ∧ (∀ y, u.psq.pluck = some y → y.restart = false → y.fired = true → y.windowEnd ≤ u.now →
      exec (.pluckDone t) s = .next
        ((({ u with psq := { u.psq with pluck := none } }).event [Reg.PSQ_STAT_PLUCK_DONE]).bump Reg.PSQ_PLUCK_CNT))
    ∧ (∀ g, u.psq.gate = some g → g.2 ≤ u.now →
      exec (.tabGateClose t) s = .next { u with psq := { u.psq with gate := none, gateShut := max u.psq.gateShut g.2 } })
    ∧ (∀ k x xs, u.psq.probes = x :: xs → x.slot = k → x.endAt ≤ u.now → u.on Reg.PSY_OUT_DAC_EN = false →
      exec (.probeEmissionEnd k t) s = .next { u with
        psq := { u.psq with probes := xs }, psy := { u.psy with dacFrom := u.now / 400 * 400 } })
    ∧ (∀ k l ls, u.psq.looks = l :: ls → l.slot = k → l.ended = false → l.windowEnd ≤ u.now → u.now < l.windowEnd + 10 * 10 ^ 9 →
      ∃ v, exec (.lookWindowEnd k t) s = .next v ∧ v.psq.looks.head? = some { l with ended := true } ∧ onlyParts [.psq] u v)
    ∧ (∀ v, s.nextFetch.map (fun t => (s.atT t).tuneIfDue) = some v → v.psq.state = .running → tabDefined v.tabWord = false →
      exec .undefFetch s = .next (v.blockFault .psq none 1 0))

/-- A stage that may switch starts with its setpoint one ramp step up and, but for a proof pulse, an on-time within DMAX of its period; one
that may not stops; the next period begins where the last one ends; the comparator cuts the on-time, and faults the stage early in a
period or after sixteen in a row; the diagnosis faults it by its current or proves it; a proof window that ends takes the proof; CLR clears
a fault. -/
def Obligations.DriveStagesSwitchAndFault : Prop :=
  ∀ (k : Nat) (t : Instant) (s w : State), w = s.atT t → k < w.src.stages.length → k ≤ 4 →
    (∀ sense, w.stageMay k = true → (w.stg k).running = false →
      ∃ v, exec (.carrierPeriodStart k sense t) s = .next v ∧ (v.stg k).running = true ∧ (v.stg k).periodAt = w.now
        ∧ (v.stg k).setpoint = min (w.stageTarget k) (max 1 (w.rd (Reg.SRC_STG_ISET_RAMP k)))
        ∧ ((v.stg k).proof = false → (v.stg k).onTime ≤ w.rd (Reg.SRC_STG_LIM_DMAX k) * w.carrierPer k / 65536)
        ∧ onlyParts [.src, .regs] w v)
    ∧ (∀ sense, w.stageMay k = true → (w.stg k).running = true → (w.stg k).periodAt + (w.stg k).per * 400 ≤ w.now →
      ∃ v, exec (.carrierPeriodStart k sense t) s = .next v ∧ (v.stg k).periodAt = (w.stg k).periodAt + (w.stg k).per * 400
        ∧ ((v.stg k).proof = false → (v.stg k).onTime ≤ w.rd (Reg.SRC_STG_LIM_DMAX k) * w.carrierPer k / 65536)
        ∧ onlyParts [.src, .regs, .rmx] w v)
    ∧ (∀ sense, w.stageMay k = false →
      ∃ v, exec (.carrierPeriodStart k sense t) s = .next v
        ∧ v.stg k = { w.stg k with running := false, setpoint := 0, onTime := 0 } ∧ onlyParts [.src, .rmx] w v)
    ∧ (∀ n, (w.stg k).running = true → n < (w.stg k).onTime → (625 ≤ n ∨ (w.stg k).onTime < 625) → (w.stg k).ilimRun < 15 →
      ∃ v, exec (.ilimTrip k n t) s = .next v ∧ (v.stg k).onTime = n ∧ (v.stg k).running = true ∧ (v.stg k).ilimRun = (w.stg k).ilimRun + 1
        ∧ onlyParts [.src, .regs] w v)
    ∧ (∀ n, (w.stg k).running = true → n < 625 → 625 ≤ (w.stg k).onTime →
      ∃ v, exec (.ilimTrip k n t) s = .next v ∧ (v.stg k).fault = .short ∧ (v.stg k).running = false)
    ∧ (∀ n, (w.stg k).running = true → n < (w.stg k).onTime → (625 ≤ n ∨ (w.stg k).onTime < 625) → 15 ≤ (w.stg k).ilimRun →
      ∃ v, exec (.ilimTrip k n t) s = .next v ∧ (v.stg k).fault = .overcurrent ∧ (v.stg k).running = false)
    ∧ (∀ i, (w.stg k).running = true → 625 ≤ (w.stg k).onTime → (w.stg k).periodAt + 250000 ≤ w.now →
      ∃ v, exec (.diagSample k i t) s = .next v
        ∧ (i < w.rd (Reg.SRC_STG_DIAG_OPEN_TH k) → (v.stg k).fault = .openLoad)
        ∧ (w.rd (Reg.SRC_STG_DIAG_OPEN_TH k) ≤ i → w.rd (Reg.SRC_STG_DIAG_SHORT_TH k) < i → (v.stg k).fault = .short)
        ∧ (w.rd (Reg.SRC_STG_DIAG_OPEN_TH k) ≤ i → i ≤ w.rd (Reg.SRC_STG_DIAG_SHORT_TH k) →
          v.stg k = { w.stg k with winProven := true } ∧ onlyParts [.src] w v))
    ∧ ((w.stg k).running = true → 1024 ≤ (w.stg k).winCount → (w.stg k).periodAt + (w.stg k).per * 400 ≤ w.now →
      ∃ v, exec (.proofWindowEnd k t) s = .next v ∧ (v.stg k).winEnded = true ∧ (v.stg k).proven = (w.stg k).winProven
        ∧ (v.stg k).winCount = 0 ∧ onlyParts [.src, .regs, .rmx] w v)
    ∧ (∀ m, commandable w m .src none → (w.stg k).fault ≠ .none →
      ∃ v, exec (.clr m k t) s = .next v
        ∧ v.stg k = { w.stg k with fault := .none, running := false, setpoint := 0, onTime := 0 } ∧ onlyParts [.src, .bus] w v)

/-- With no frame in progress and OCC not isolated: CHK's preload, a live write while the chain is free, and a refresh that is due each
begin a frame, and a live write while the chain is kept for a preload is held; a frame whose marker and contents are right is
verified, one whose contents differ counts a mismatch; a verified frame that may be latched becomes the outputs. -/
def Obligations.OpticsChainShiftsItsFrames : Prop :=
  ∀ (t : Instant) (s w : State), w = s.atT t → storeWf w.regs.live →
    (w.occ.preloadWanted = true → w.chp.stage = .checking → w.occ.shifting = none → w.isolated .occ = false → w.rdStage Reg.OCC_CTL_LEN ≠ 0 →
      ∃ v, exec (.occPreload t) s = .next v ∧ v.occ.shifting = some (.preload, w.occFrame .preload) ∧ v.occ.preloadWanted = false
        ∧ v.occ.frameAt = w.now ∧ onlyParts [.occ] w v)
    ∧ (∀ m i x, commandable w m .occ none → w.occKept = false → w.chp.stage ≠ .checking → w.occLen ≠ 0
        → w.occ.shifting = none → i < 16 →
      ∃ v, exec (.occLiveWrite m i x t) s = .next v ∧ v.rd (Reg.OCC_LIVE_VAL i) = x.toNat
        ∧ v.occ.shifting.map (fun y => (y.1, y.2.length)) = some (.live, w.occLen) ∧ onlyParts [.occ, .regs, .bus] w v)
    ∧ (∀ m i x, commandable w m .occ none → w.occKept = true → i < 16 →
      ∃ v, exec (.occLiveWrite m i x t) s = .next v ∧ v.rd (Reg.OCC_LIVE_VAL i) = x.toNat ∧ v.occ = { w.occ with held := true })
    ∧ (w.rd Reg.OCC_CTL_REFRESH ≠ 0 → w.rd Reg.OCC_CTL_REFRESH ≤ w.occ.sinceLatch → w.occLen ≠ 0 → w.occKept = false
        → w.chp.stage ≠ .checking → w.occ.verified = none → w.occ.shifting = none → w.isolated .occ = false →
      ∃ v, exec (.occRefresh t) s = .next v ∧ v.occ.shifting = some (.refresh, w.occFrame .refresh) ∧ onlyParts [.occ] w v)
    ∧ (∀ k frame back, w.occ.shifting = some (k, frame) → w.occ.frameAt + w.occTime frame.length ≤ w.now →
        (∀ x, w.occ.shifted = some x → x = back) → w.occ.liveWanted = false →
      ∃ v, exec (.occFrameComplete true back t) s = .next v ∧ v.occ.verified = some k ∧ v.occ.shifted = some frame ∧ v.occ.shifting = none
        ∧ v.rd Reg.OCC_FRAME_CNT = min (w.rd Reg.OCC_FRAME_CNT + 1) (2 ^ 32 - 1) ∧ onlyParts [.occ, .regs] w v)
    ∧ (∀ k frame back x, w.occ.shifting = some (k, frame) → w.occ.frameAt + w.occTime frame.length ≤ w.now →
        w.occ.shifted = some x → x ≠ back → w.occ.streak < 2 →
      ∃ v, exec (.occFrameComplete true back t) s = .next v ∧ v.occ.streak = w.occ.streak + 1 ∧ v.occ.shifting = none
        ∧ v.rd Reg.OCC_MISMATCH_CNT = min (w.rd Reg.OCC_MISMATCH_CNT + 1) (2 ^ 32 - 1) ∧ onlyParts [.occ, .regs] w v)
    ∧ (∀ k frame, w.occ.verified = some k → w.mayLatch k = true → w.occ.shifted = some frame →
      ∃ v, exec (.occLatch t) s = .next v ∧ v.occ.outputs = frame ∧ v.occ.oe = true ∧ v.occ.verified = none ∧ v.occ.sinceLatch = 0
        ∧ onlyParts [.occ, .regs] w v)

/-- At a bin's start the working codes take effect; an overload lowers the code in force and the bin's working entry by one; an entry of a
clipped bin begins its run of clean sweeps anew; a qualifying block moves the channel's factors by an eighth and counts, another one only
marks it starved; a factor that is written takes effect from now; SKEW_CAL runs in PREP and TEST and stores its delays; a pilot block
moves the skews. -/
def Obligations.ReceiverGainAndCalibration : Prop :=
  ∀ (t : Instant) (s w : State), w = s.atT t → storeWf w.regs.live →
    (∀ b, w.gainBin = some b → b < 4096 →
      ∃ v, exec (.gainBinStart b t) s = .next v ∧ v.crx.gx = w.workingCode .x b ∧ v.crx.gy = w.workingCode .y b
        ∧ v.crx.lowered = w.crx.lowered ∧ onlyParts [.crx, .regs] w v)
    ∧ (∀ ch b, w.on Reg.CRX_CTL_AUTO = true → ch < 4 → w.gainCode (if ch < 2 then .x else .y) ≠ 0 → w.gainBin = some b → b < 4096 →
      ∃ v, exec (.overloadStepDown ch t) s = .next v
        ∧ v.gainCode (if ch < 2 then .x else .y) = w.gainCode (if ch < 2 then .x else .y) - 1
        ∧ v.workingCode (if ch < 2 then .x else .y) b = w.workingCode (if ch < 2 then .x else .y) b - 1
        ∧ onlyParts [.crx, .regs] w v)
    ∧ (∀ cl l, w.on Reg.CRX_CTL_AUTO = true → l ∈ w.crx.lowered → l.code < w.tunedCode l.pol l.bin → cl.contains (l.pol, l.bin) = true →
      ∃ v, exec (.gainStepUp cl t) s = .next v ∧ { l with clean := 0 } ∈ v.crx.lowered ∧ onlyParts [.crx, .regs] w v)
    ∧ (∀ ch n lvl off g sk j, ch < 4 → w.on Reg.CAL_CTL_RUN = true → w.cal.blockAt.getD ch 0 + 838860800 ≤ w.now → w.isolated .cal = false →
        w.isolatedAt .crx (some ch) = false → w.calQualifies ch n lvl = true → j < 8 →
      ∃ v, exec (.calBlockEnd ch n lvl off g sk t) s = .next v
        ∧ v.rd (Reg.CAL_OFF ch j) = wrapN 16 (moveEighth (w.rdS16 (Reg.CAL_OFF ch j)) (off.getD j 0))
        ∧ v.rd (Reg.CAL_GAIN ch j) = wrapN 16 (moveEighth (w.rd (Reg.CAL_GAIN ch j)) (g.getD j 0))
        ∧ v.rd (Reg.CAL_UPD_CNT ch) = min (w.rd (Reg.CAL_UPD_CNT ch) + 1) (2 ^ 32 - 1) ∧ onlyParts [.cal, .regs] w v)
    ∧ (∀ ch n lvl off g sk, ch < 4 → w.on Reg.CAL_CTL_RUN = true → w.cal.blockAt.getD ch 0 + 838860800 ≤ w.now → w.isolated .cal = false →
        w.isolatedAt .crx (some ch) = false → w.calQualifies ch n lvl = false →
      ∃ v, exec (.calBlockEnd ch n lvl off g sk t) s = .next v ∧ v.cal.nominal = w.cal.nominal
        ∧ v.rd (Reg.CAL_UPD_CNT ch) = w.rd (Reg.CAL_UPD_CNT ch) ∧ onlyParts [.cal, .regs] w v)
    ∧ (∀ m ch x, commandable w m .cal none → ch < 4 →
      ∃ v, exec (.calFactorWrite m (0x160110 + 0x80 * ch) x t) s = .next v ∧ v.rd (Reg.CAL_CHSKEW ch) = x.toNat % 2 ^ 16
        ∧ onlyParts [.cal, .regs, .bus] w v)
    ∧ (∀ m, commandable w m .cal none → (w.chp.mode = .prep ∨ w.chp.mode = .test) → w.cal.skewCal = none →
      exec (.skewCal m t) s = .next ({ w with cal := { w.cal with skewCal := some w.now } }).done)
    ∧ (∀ m, commandable w m .cal none → w.chp.mode ≠ .prep → w.chp.mode ≠ .test →
      exec (.skewCal m t) s = .next (w.event [Reg.CAL_STAT_CMD_REFUSED]).done)
    ∧ (∀ t0 d, w.cal.skewCal = some t0 → t0 + 2 * 10 ^ 9 ≤ w.now →
      ∃ v, exec (.skewCalDone true d t) s = .next v ∧ v.cal.skewCal = none ∧ v.cal.skewOk = true
        ∧ v.rd (Reg.CAL_CHSKEW 0) = 0 ∧ v.rd (Reg.CAL_CHSKEW 2) = wrapN 16 (d.getD 1 0) ∧ onlyParts [.cal, .regs] w v)
    ∧ (∀ n d, w.on Reg.CAL_CTL_PILOT = true → w.cal.pilotAt + 838860800 ≤ w.now → w.isolated .cal = false → 16 * n ≤ 2 ^ 20 →
      ∃ v, exec (.pilotBlockEnd n d t) s = .next v
        ∧ v.rd (Reg.CAL_CHSKEW 3) = wrapN 16 (w.rdS16 (Reg.CAL_CHSKEW 3) + (d.getD 3 0).tdiv 8) ∧ v.cal.pilotAt = w.now
        ∧ onlyParts [.cal, .regs] w v)

/-- A lane's sample joins the look it belongs to: an unchirped look's goes on to PHS, a chirped one's waits in CHN for its compression; a
value outside 16 bits is held at the end of the range and counted, and the last sample of a look counts the look; compression takes the
look's samples from CHN to PHS, each held to 16 bits, and counts its blocks; a chirped sample that has waited beyond its bound is a fault
of PCM. -/
def Obligations.SlotSamplesReachTheirLooks : Prop :=
  ∀ (t : Instant) (s w : State), w = s.atT t → storeWf w.regs.live →
    (∀ n k p pl xr xi yr yi cl l, w.lookOf n k pl = some l → p + 1 < w.lookSamples n → w.isolated .chn = false →
        shapeKind (w.shapesFor n) l.shape = 0 → clampS 16 xr = xr → clampS 16 xi = xi → clampS 16 yr = yr → clampS 16 yi = yi →
      exec (.slotLaneSample n k p pl xr xi yr yi cl false t) s
        = .next ((if pl then w else w.confirm .chn n).mapPcm
            (fun m => { m with outs := m.outs ++ [w.slotSample l p xr xi yr yi cl false] })))
    ∧ (∀ n k p pl xr xi yr yi cl l, w.lookOf n k pl = some l → p + 1 < w.lookSamples n → w.isolated .chn = false →
        shapeKind (w.shapesFor n) l.shape ≠ 0 → clampS 16 xr = xr → clampS 16 xi = xi → clampS 16 yr = yr → clampS 16 yi = yi →
      exec (.slotLaneSample n k p pl xr xi yr yi cl false t) s
        = .next ((if pl then w else w.confirm .chn n).mapChn
            (fun m => { m with samples := m.samples ++ [w.slotSample l p xr xi yr yi cl false] })))
    ∧ (∀ n k p pl xr xi yr yi cl l, w.lookOf n k pl = some l → k < 8 → p + 1 < w.lookSamples n → w.isolated .chn = false →
        32767 < xr → shapeKind (w.shapesFor n) l.shape = 0 →
      ∃ v, exec (.slotLaneSample n k p pl xr xi yr yi cl false t) s = .next v
        ∧ (v.pcm.outs.getLast?).map (fun x => (x.p, x.xr, x.touched)) = some (p, 32767, true)
        ∧ v.rd (Reg.CHN_SAT_CNT k) = min (w.rd (Reg.CHN_SAT_CNT k) + 1) (2 ^ 32 - 1) ∧ onlyParts [.pcm, .regs, .chp] w v)
    ∧ (∀ n k p pl xr xi yr yi cl l, w.lookOf n k pl = some l → k < 8 → p + 1 = w.lookSamples n → w.isolated .chn = false →
      ∃ v, exec (.slotLaneSample n k p pl xr xi yr yi cl false t) s = .next v
        ∧ v.rd (Reg.CHN_LOOK_CNT k) = min (w.rd (Reg.CHN_LOOK_CNT k) + 1) (2 ^ 32 - 1) ∧ onlyParts [.pcm, .chn, .regs, .chp] w v)
    ∧ (∀ n k pl outs l xs, w.lookOf n k pl = some l → w.isolated .pcm = false → xs ≠ [] →
        xs = w.chn.samples.filter (fun y => y.sweep == n && y.slot == k && y.pluck == pl) →
      ∃ v, exec (.pcmLookCompress n k pl outs t) s = .next v
        ∧ v.chn.samples = w.chn.samples.filter (fun y => !(y.sweep == n && y.slot == k && y.pluck == pl))
        ∧ (v.pcm.outs.drop w.pcm.outs.length).map (fun y => (y.p, y.xr)) = xs.map (fun x => (x.p, clampS 16 (outs.getD x.p (0, 0, 0, 0)).1))
        ∧ v.pcm.outs.take w.pcm.outs.length = w.pcm.outs ∧ onlyParts [.pcm, .chn, .regs] w v)
    ∧ (∀ x, x ∈ w.chn.samples → x.arrivedAt + 2 ^ w.nfftLog x.sweep x.slot * 10000 + 4000000 < w.now →
      exec (.blockLate t) s = .next (w.blockFault .pcm none 2 0))

/-- A touched sample in the range gives the invalid code and its position's series goes on by its last increment, its run one up; a sample
of full weight at a seeded position and slot gives the phase difference's growth as the increment, held at −0x7FFF, and the series follows
it; before a sample of another look fired earlier has gone, or before the phase a gauge back is there, nothing happens; a pluck's sample
moves no position. -/
def Obligations.PositionsFollowTheirLooks : Prop :=
  ∀ (t : Instant) (s w : State), w = s.atT t → ∀ (n k p : Nat) (x : SlotSample) (l : Look), k < 8 →
    w.pcm.outs.find? (fun y => y.sweep == n && y.slot == k && y.p == p && y.pluck == false) = some x → w.lookOf n k false = some l →
    w.isolated .phs = false → w.phs.restarting = false →
    (∀ b, w.phsInOrder l p = true → w.rdFor n Reg.PHS_GAUGE_G ≤ p → b ∈ w.phs.phases →
        w.phs.phases.find? (fun y => y.1 == n && y.2.1 == k && y.2.2.1 + w.rdFor n Reg.PHS_GAUGE_G == p) = some b →
        w.rdFor n Reg.PHS_RANGE_CAPO ≤ p → p ≤ w.rdFor n Reg.PHS_RANGE_END → x.touched = true →
      ∃ v, exec (.phsPositionSample n k p false t) s = .next v
        ∧ (v.phs.out.getLast?).map (fun y => (y.sweep, y.slot, y.pos, y.fireT, y.value)) = some (n, k, p, l.fireT, 0x8000)
        ∧ (v.posState p).s = (w.posState p).s + BitVec.ofInt 16 (w.posState p).inc ∧ (v.posState p).run = (w.posState p).run + 1
        ∧ (v.posState p).inc = (w.posState p).inc ∧ onlyParts [.phs, .pcm, .regs, .chp] w v)
    ∧ (∀ b e, w.phsInOrder l p = true → w.rdFor n Reg.PHS_GAUGE_G ≤ p →
        w.phs.phases.find? (fun y => y.1 == n && y.2.1 == k && y.2.2.1 + w.rdFor n Reg.PHS_GAUGE_G == p) = some b →
        w.rdFor n Reg.PHS_RANGE_CAPO ≤ p → p ≤ w.rdFor n Reg.PHS_RANGE_END → x.isBad (w.rdFor n Reg.PHS_GAUGE_G) = false →
        x.noX = false → x.noY = false → w.reseating (w.posState p) n = false →
        (w.posState p).seeded = true → (w.posState p).run = 0 → (w.posState p).slots.length = 8 →
        ((w.posState p).slots.getD k {}).seeded = true → ((w.posState p).slots.getD k {}).faded = 0 → 1 ≤ (w.phsTuning n).n →
        weight x.combine.pw ((w.posState p).slots.getD k {}).m (w.phsTuning n).floor true = 4 →
        x.combine.close = false →
        e = (x.combine.phase ((w.posState p).slots.getD k {}).th - b.2.2.2
              - BitVec.ofInt 16 (((w.posState p).slots.getD k {}).o / 256) - (w.posState p).s).toInt →
      ∃ v, exec (.phsPositionSample n k p false t) s = .next v
        ∧ (v.phs.out.getLast?).map (fun y => (y.pos, y.value)) = some (p, BitVec.ofInt 16 (max e (-0x7FFF)))
        ∧ (v.posState p).s = (w.posState p).s + BitVec.ofInt 16 (max e (-0x7FFF)) ∧ (v.posState p).run = 0
        ∧ (v.posState p).inc = max e (-0x7FFF) ∧ onlyParts [.phs, .pcm, .regs, .chp] w v)
    ∧ (w.phsInOrder l p = false → exec (.phsPositionSample n k p false t) s = .next w)
    ∧ (w.phsInOrder l p = true → w.rdFor n Reg.PHS_GAUGE_G ≤ p →
        w.phs.phases.find? (fun y => y.1 == n && y.2.1 == k && y.2.2.1 + w.rdFor n Reg.PHS_GAUGE_G == p) = none →
      exec (.phsPositionSample n k p false t) s = .next w)
    ∧ (∀ y m, w.pcm.outs.find? (fun y => y.sweep == n && y.slot == k && y.p == p && y.pluck == true) = some y →
        w.lookOf n k true = some m →
      ∃ v, exec (.phsPositionSample n k p true t) s = .next v ∧ v.phs = w.phs ∧ v.pfl = w.pfl ∧ v.rng = w.rng ∧ v.psq = w.psq)

/-- A look whose samples have come from every position enters PFL: they leave PHS, the look counts, and with the median off its output row
goes to the ring where the ring's tap is FULL; an isolated PFL takes none; after a halt, once every look has come, every look held has its
FULL output. -/
def Obligations.FiltersTakeWholeLooks : Prop :=
  ∀ (t : Instant) (s w : State), w = s.atT t → storeWf w.regs.live →
    (∀ x n, w.phs.out.head? = some x → w.isolated .pfl = false → w.pfl.resetAtLook = false → w.pfl.resetAtSweep = none →
        n = (w.phs.out.filter (fun y => y.sweep == x.sweep && y.slot == x.slot && y.fireT == x.fireT)).length →
        n = (w.positions x.sweep).length → w.medianHalf x.sweep = 0 → w.rdFor x.sweep Reg.PFL_TAP_RING = 0 → w.rng.queue.length < 4 →
        w.kpe.subs.all (fun x => x.isNone) = true →
      ∃ v, exec (.pflLookInput t) s = .next v
        ∧ v.phs.out = w.phs.out.filter (fun y => !(y.sweep == x.sweep && y.slot == x.slot && y.fireT == x.fireT))
        ∧ v.rd Reg.PFL_LOOK_CNT_COUNT = (w.rd Reg.PFL_LOOK_CNT_COUNT + 1) % 2 ^ 48
        ∧ (v.pfl.looks.head?).map (fun q => (q.count, q.sweep, q.slot, q.formed)) = some (w.rd Reg.PFL_LOOK_CNT_COUNT, x.sweep, x.slot, true)
        ∧ (v.rng.queue.getLast?).map (fun r => (r.preset, r.sweep, r.slot, r.samples.length)) = some (0, x.sweep, x.slot, n)
        ∧ onlyParts [.phs, .pfl, .regs, .rng, .aar, .chp] w v)
    ∧ (∀ x, w.phs.out.head? = some x → w.isolated .pfl = true →
        (w.phs.out.filter (fun y => y.sweep == x.sweep && y.slot == x.slot && y.fireT == x.fireT)).length = (w.positions x.sweep).length →
      exec (.pflLookInput t) s = .next { w with phs := { w.phs with
        out := w.phs.out.filter (fun y => !(y.sweep == x.sweep && y.slot == x.slot && y.fireT == x.fireT)) } })
    ∧ (w.pfl.haltReported = true → w.allArrived = true → w.pfl.looks.length ≤ 4 → w.rng.queue = [] →
      ∃ v, exec (.medianFlush t) s = .next v ∧ v.pfl.haltReported = false ∧ v.pfl.looks.all (fun l => l.formed) = true
        ∧ v.phs = w.phs ∧ v.psq = w.psq)

/-- A sweep that nothing speaks against joins the block in progress, rounded as R195 says; another is skipped with its reason counted; at
the first boundary into a later block the one in progress closes and its unload begins; an unload past its time is a fault of DTS; a
converted block gives the next profile, numbered and counted, and leaves the other unloads waiting. -/
def Obligations.RamanSweepsBecomeProfiles : Prop :=
  ∀ (t : Instant) (s w : State), w = s.atT t → storeWf w.regs.live →
    (∀ n b0 b1 y0 y1 a sp, w.rdFor n Reg.RMX_CTL_EN = 1 → w.ramanReady n = true → w.isolated .rmx = false → w.isolated .dts = false →
        w.skipReason n false = none → w.skipped n = false → w.dts.active = true → w.dts.unload = [] →
        a = w.rdFor n Reg.DTS_CTL_ACC_LOG2 → w.rd Reg.DTS_CTL_ACC_LOG2 = a → w.dts.blk.block = n / 2 ^ a → w.dts.skipBlock ≠ some (n / 2 ^ a) →
        sp = w.sweepSpan n → b0.length = w.ramanBins n → b1.length = w.ramanBins n → y0.length = 2 ^ w.baseLog n → y1.length = 2 ^ w.baseLog n →
        (b0 ++ b1 ++ y0 ++ y1).all (fun x => decide (-8192 < x) && decide (x < 8191)) = true →
      ∃ v, exec (.ramanSweepAccumulate n b0 b1 y0 y1 false t) s = .next v
        ∧ v.dts.blk = w.dts.blk.add a n sp.1 sp.2 b0 b1 y0 y1 ∧ v.rmx.treated = some n
        ∧ v.rd Reg.RMX_GOOD_CNT = min (w.rd Reg.RMX_GOOD_CNT + 1) (2 ^ 32 - 1) ∧ onlyParts [.rmx, .dts, .regs] w v)
    ∧ (∀ n b0 b1 y0 y1 r, w.rdFor n Reg.RMX_CTL_EN = 1 → w.ramanReady n = true → w.isolated .rmx = false → w.isolated .dts = false →
        w.skipReason n false = some r → w.skipped n = false →
        (b0 ++ b1 ++ y0 ++ y1).all (fun x => decide (-8192 < x) && decide (x < 8191)) = true →
      ∃ v, exec (.ramanSweepAccumulate n b0 b1 y0 y1 false t) s = .next v ∧ v.rmx.treated = some n
        ∧ v.rd r.counter = min (w.rd r.counter + 1) (2 ^ 32 - 1) ∧ v.rd Reg.RMX_GOOD_CNT = w.rd Reg.RMX_GOOD_CNT
        ∧ onlyParts [.rmx, .dts, .regs] w v)
    ∧ (w.dts.active = true → w.sweep / 2 ^ w.rd Reg.DTS_CTL_ACC_LOG2 ≠ w.dts.blk.block →
      ∃ v, exec (.dtsBlockClose t) s = .next v ∧ v.dts.active = false ∧ v.dts.blk = {}
        ∧ (v.dts.unload.getLast?).map (fun u => (u.blk, u.a, u.lastSweep, u.deadline))
            = some (w.dts.blk, w.rd Reg.DTS_CTL_ACC_LOG2, (w.dts.blk.block + 1) * 2 ^ w.rd Reg.DTS_CTL_ACC_LOG2 - 1,
                w.psq.tick0 + w.psq.period * 3200)
        ∧ onlyParts [.dts] w v)
    ∧ (∀ u, u ∈ w.dts.unload → u.deadline < w.now → w.isolated .dts = false →
      exec (.unloadLate t) s = .next (w.blockFault .dts none 2 0))
    ∧ (∀ u rest, w.dts.unload = u :: rest → w.rdOwn u.old Reg.DTS_CTL_EN = 1 →
      ∃ v, exec (.profileComplete t) s = .next v ∧ v.dts.unload = rest
        ∧ v.rd Reg.DTS_PROF_CNT = min (w.rd Reg.DTS_PROF_CNT + 1) (2 ^ 32 - 1)
        ∧ v.rd Reg.DTS_PROF_SEQ = (w.rd Reg.DTS_PROF_SEQ + 1) % 2 ^ 32
        ∧ (v.dts.profiles.head?).map (fun p => (p.seq, p.block, p.m, p.lastSweep, p.doneAt))
            = some (v.rd Reg.DTS_PROF_SEQ, u.blk.block, u.blk.m, u.lastSweep, w.now)
        ∧ onlyParts [.dts, .regs, .zon, .aar, .kpe, .cmp] w v)

/-- Each control and scalar instruction has its effect on its own core, whatever its fields, at the cycle at which its operands are ready: NOP and the sums, products,
shifts and logic of R215 and R228 on the scalar registers, a branch and a loop on the program counter, DONE at the end of a run, by the run's kind. S0 discards what is
written to it. Nothing else differs but counters and flags. -/
def Obligations.CoresRunScalarInstructions : Prop :=
  ∀ (s u : State) (n i stall : Nat) (w : BitVec 64) (c : AarCore) (x : AarWord), x = aarFields w → c = coreOn u n w i stall →
    (aarIssues s n w 0x00 i u → coreBecomes (exec (.aarNop n w stall) s) u n
        (c))
    ∧ (aarIssues s n w 0x01 i u → (u.core n).run = .tile →
      ∃ v, exec (.aarDone n w stall) s = .next v ∧ (v.core n).state = .waiting ∧ (v.core n).tilesRun = (u.core n).tilesRun + 1
        ∧ (v.core n).skipped = ((u.core n).skipped || w.getLsbD 12) ∧ (v.core n).frame = (u.core n).frame ∧ onlyParts [.aar, .regs] u v)
    ∧ (aarIssues s n w 0x01 i u → (u.core n).run = .init →
      ∃ v, exec (.aarDone n w stall) s = .next v ∧ (v.core n).state = .waiting ∧ (v.core n).needInit = false
        ∧ (v.core n).tilesRun = (u.core n).tilesRun ∧ (v.core n).frame = (u.core n).frame ∧ onlyParts [.aar, .regs] u v)
    ∧ (∀ f, aarIssues s n w 0x01 i u → (u.core n).run = .fend → (u.core n).frame = some f → (u.core n).lastReady = none → storeWf u.regs.live = true →
      ∃ v, exec (.aarDone n w stall) s = .next v ∧ (v.core n).state = .waiting ∧ (v.core n).frame = none ∧ (v.core n).features = []
        ∧ v.rd (Reg.AAR_C_FRAME_K n) = f.k % 2 ^ 32
        ∧ v.rd (Reg.AAR_C_FRAME_CNT n) = min (u.rd (Reg.AAR_C_FRAME_CNT n) + 1) (2 ^ 32 - 1) ∧ onlyParts [.aar, .regs] u v)
    ∧ (aarIssues s n w 0x02 i u → coreBecomes (exec (.aarJmp n w stall) s) u n
        ({ c with pc := w.toNat % 2 ^ 12 }))
    ∧ (aarIssues s n w 0x03 i u → branchTaken x.b (c.sr x.d) (c.sr x.a) = true → coreBecomes (exec (.aarBr n w stall) s) u n
        ({ c with pc := w.toNat % 2 ^ 12, cyc := i + 2 + stall }))
    ∧ (aarIssues s n w 0x03 i u → branchTaken x.b (c.sr x.d) (c.sr x.a) = false → coreBecomes (exec (.aarBr n w stall) s) u n
        (c))
    ∧ (aarIssues s n w 0x04 i u → x.d = 0 → x.hi ≠ 0 → coreBecomes (exec (.aarLoop n w stall) s) u n
        ({ c with loops := { first := c.pc, last := w.toNat % 2 ^ 12, left := x.hi } :: c.loops }))
    ∧ (aarIssues s n w 0x04 i u → x.d ≠ 0 → (c.sr x.d).toNat ≤ x.hi → c.sr x.d ≠ 0 → coreBecomes (exec (.aarLoop n w stall) s) u n
        ({ c with loops := { first := c.pc, last := w.toNat % 2 ^ 12, left := (c.sr x.d).toNat } :: c.loops }))
    ∧ (aarIssues s n w 0x04 i u → x.d ≠ 0 → c.sr x.d = 0 → coreBecomes (exec (.aarLoop n w stall) s) u n
        ({ c with pc := (nextPc c.loops (w.toNat % 2 ^ 12)).2, loops := (nextPc c.loops (w.toNat % 2 ^ 12)).1 }))
    ∧ (aarIssues s n w 0x10 i u → coreBecomes (exec (.aarSli n w stall) s) u n
        (c.setS x.d (w.setWidth 32)))
    ∧ (aarIssues s n w 0x11 i u → coreBecomes (exec (.aarSadd n w stall) s) u n
        (c.setS x.d (c.sr x.a + (c.sr x.b + w.setWidth 32))))
    ∧ (aarIssues s n w 0x12 i u → coreBecomes (exec (.aarSsub n w stall) s) u n
        (c.setS x.d (c.sr x.a - (c.sr x.b + w.setWidth 32))))
    ∧ (aarIssues s n w 0x13 i u → coreBecomes (exec (.aarSmul n w stall) s) u n
        (c.setS x.d (c.sr x.a * (c.sr x.b + w.setWidth 32))))
    ∧ (aarIssues s n w 0x14 i u → coreBecomes (exec (.aarSmulq n w stall) s) u n
        (c.setS x.d (BitVec.ofInt 32 (max (-2 ^ 31) (min (2 ^ 31 - 1) ((c.sr x.a).toInt * (c.sr x.b + w.setWidth 32).toInt / 2 ^ 16))))))
    ∧ (aarIssues s n w 0x15 i u → coreBecomes (exec (.aarSshl n w stall) s) u n
        (c.setS x.d (c.sr x.a <<< (w.toNat % 32))))
    ∧ (aarIssues s n w 0x16 i u → coreBecomes (exec (.aarSshr n w stall) s) u n
        (c.setS x.d ((c.sr x.a).sshiftRight (w.toNat % 32))))
    ∧ (aarIssues s n w 0x17 i u → coreBecomes (exec (.aarSand n w stall) s) u n
        (c.setS x.d (c.sr x.a &&& (c.sr x.b + w.setWidth 32))))
    ∧ (aarIssues s n w 0x18 i u → coreBecomes (exec (.aarSor n w stall) s) u n
        (c.setS x.d (c.sr x.a ||| (c.sr x.b + w.setWidth 32))))
    ∧ (aarIssues s n w 0x19 i u → coreBecomes (exec (.aarSmin n w stall) s) u n
        (c.setS x.d (BitVec.ofInt 32 (min (c.sr x.a).toInt (c.sr x.b + w.setWidth 32).toInt))))
    ∧ (aarIssues s n w 0x1A i u → coreBecomes (exec (.aarSmax n w stall) s) u n
        (c.setS x.d (BitVec.ofInt 32 (max (c.sr x.a).toInt (c.sr x.b + w.setWidth 32).toInt))))

/-- Each scalar load and store, special-register read, feature output and vector instruction has its effect on its own core: addresses wrap at 256 KiB and are aligned down to the
access, vector results are exact and then narrowed to 16 bits, accumulators saturate at ±(2⁴⁷ − 1), and an address register moves on by INC after its access. A feature for a
place that is not the core's own is dropped. Nothing else differs but counters and flags. -/
def Obligations.CoresRunVectorInstructions : Prop :=
  ∀ (s u : State) (n i stall : Nat) (w : BitVec 64) (c : AarCore) (x : AarWord), x = aarFields w → c = coreOn u n w i stall →
    (aarIssues s n w 0x1B i u → coreBecomes (exec (.aarSld n w stall) s) u n
        (c.setS x.d (c.rd32 ((c.sr x.a + w.setWidth 32).toNat % 2 ^ 18 / 4 * 4))))
    ∧ (aarIssues s n w 0x1C i u → coreBecomes (exec (.aarSst n w stall) s) u n
        (c.set32s ((c.sr x.a + w.setWidth 32).toNat % 2 ^ 18 / 4 * 4) [c.sr x.b]))
    ∧ (aarIssues s n w 0x1D i u → w.toNat % 2 ^ 16 = 0 → coreBecomes (exec (.aarSrd n w stall) s) u n
        (c.setS x.d (BitVec.ofNat 32 c.icnt)))
    ∧ (aarIssues s n w 0x1D i u → w.toNat % 2 ^ 16 = 0x100 → coreBecomes (exec (.aarSrd n w stall) s) u n
        (({ c with icnt := 0 } : AarCore).setS x.d (BitVec.ofNat 32 c.icnt)))
    ∧ (aarIssues s n w 0x1D i u → w.toNat % 2 ^ 16 = 1 → coreBecomes (exec (.aarSrd n w stall) s) u n
        (c.setS x.d (BitVec.ofNat 32 n)))
    ∧ (aarIssues s n w 0x1D i u → w.toNat % 2 ^ 16 = 2 → coreBecomes (exec (.aarSrd n w stall) s) u n
        (c.setS x.d (BitVec.ofNat 32 (min i (2 ^ 32 - 1)))))
    ∧ (∀ f, aarIssues s n w 0x1D i u → w.toNat % 2 ^ 16 = 3 → c.frame = some f → coreBecomes (exec (.aarSrd n w stall) s) u n
        (c.setS x.d (BitVec.ofNat 32 f.k)))
    ∧ (∀ z, aarIssues s n w 0x3F i u → z = (c.sr x.a).toNat → (s.corePlaces n).contains (z, w.toNat % 8) = true → coreBecomes (exec (.aarFout n w stall) s) u n
        { c with features := c.features.filter (fun f => !(f.zone == z && f.index == w.toNat % 8))
          ++ [{ zone := z, index := w.toNat % 8, value := c.sr x.b, invalid := w.getLsbD 8 || c.sr x.c != 0 }] })
    ∧ (aarIssues s n w 0x3F i u → (s.corePlaces n).contains ((c.sr x.a).toNat, w.toNat % 8) = false → coreBecomes (exec (.aarFout n w stall) s) u n c)
    ∧ (∀ a, aarIssues s n w 0x20 i u → x.mode = 0 → a = (c.sr x.c + BitVec.ofInt 32 (signed 16 x.hi)).toNat % 2 ^ 18 / 16 * 16 →
      coreBecomes (exec (.aarVld n w stall) s) u n (((c.setV x.d [(c.rd16 a, c.rd16 (a + 2)), (c.rd16 (a + 4), c.rd16 (a + 6)),
        (c.rd16 (a + 8), c.rd16 (a + 10)), (c.rd16 (a + 12), c.rd16 (a + 14))])).setS x.c (c.sr x.c + BitVec.ofInt 32 (signed 16 x.lo))))
    ∧ (∀ a, aarIssues s n w 0x20 i u → x.mode = 1 → a = (c.sr x.c + BitVec.ofInt 32 (signed 16 x.hi)).toNat % 2 ^ 18 / 8 * 8 → c.icnt < 2 ^ 32 →
      coreBecomes (exec (.aarVld n w stall) s) u n (((c.setV x.d [(c.rd16 a, 0), (c.rd16 (a + 2), 0), (c.rd16 (a + 4), 0), (c.rd16 (a + 6), 0)])).setS x.c
        (c.sr x.c + BitVec.ofInt 32 (signed 16 x.lo))))
    ∧ (∀ a, aarIssues s n w 0x21 i u → x.mode = 1 → a = (c.sr x.c + BitVec.ofInt 32 (signed 16 x.hi)).toNat % 2 ^ 18 / 8 * 8 →
      coreBecomes (exec (.aarVst n w stall) s) u n ((c.set16s a ((c.vr x.d).map (fun l => l.1))).setS x.c (c.sr x.c + BitVec.ofInt 32 (signed 16 x.lo))))
    ∧ (∀ a, aarIssues s n w 0x21 i u → x.mode = 0 → a = (c.sr x.c + BitVec.ofInt 32 (signed 16 x.hi)).toNat % 2 ^ 18 / 16 * 16 →
      coreBecomes (exec (.aarVst n w stall) s) u n ((c.set16s a ((c.vr x.d).flatMap (fun l => [l.1, l.2]))).setS x.c (c.sr x.c + BitVec.ofInt 32 (signed 16 x.lo))))
    ∧ (aarIssues s n w 0x22 i u → coreBecomes (exec (.aarVmul n w stall) s) u n
        (c.setV x.d (List.zipWith (fun (p q : Lane) => (BitVec.ofInt 16 (clampS 16 ((p.1.toInt * q.1.toInt - p.2.toInt * q.2.toInt) / 2 ^ (15 + x.sh))), BitVec.ofInt 16 (clampS 16 ((p.1.toInt * q.2.toInt + p.2.toInt * q.1.toInt) / 2 ^ (15 + x.sh))))) (c.vr x.a) (c.vr x.b))))
    ∧ (aarIssues s n w 0x23 i u → coreBecomes (exec (.aarVcmul n w stall) s) u n
        (c.setV x.d (List.zipWith (fun (p q : Lane) => (BitVec.ofInt 16 (clampS 16 ((p.1.toInt * q.1.toInt + p.2.toInt * q.2.toInt) / 2 ^ (15 + x.sh))), BitVec.ofInt 16 (clampS 16 ((p.2.toInt * q.1.toInt - p.1.toInt * q.2.toInt) / 2 ^ (15 + x.sh))))) (c.vr x.a) (c.vr x.b))))
    ∧ (aarIssues s n w 0x24 i u → coreBecomes (exec (.aarVadd n w stall) s) u n
        (c.setV x.d (List.zipWith (fun (p q : Lane) => (BitVec.ofInt 16 (clampS 16 ((p.1.toInt + q.1.toInt) / 2 ^ x.sh)), BitVec.ofInt 16 (clampS 16 ((p.2.toInt + q.2.toInt) / 2 ^ x.sh)))) (c.vr x.a) (c.vr x.b))))
    ∧ (aarIssues s n w 0x25 i u → coreBecomes (exec (.aarVsub n w stall) s) u n
        (c.setV x.d (List.zipWith (fun (p q : Lane) => (BitVec.ofInt 16 (clampS 16 ((p.1.toInt - q.1.toInt) / 2 ^ x.sh)), BitVec.ofInt 16 (clampS 16 ((p.2.toInt - q.2.toInt) / 2 ^ x.sh)))) (c.vr x.a) (c.vr x.b))))
    ∧ (aarIssues s n w 0x26 i u → coreBecomes (exec (.aarVmac n w stall) s) u n
        ({ c with
          accRe := List.zipWith (fun a k => max (-(2 ^ 47 - 1)) (min (a + k) (2 ^ 47 - 1))) c.accRe (List.zipWith (fun (p q : Lane) => (p.1.toInt * q.1.toInt - p.2.toInt * q.2.toInt)) (c.vr x.a) (c.vr x.b))
          accIm := List.zipWith (fun a k => max (-(2 ^ 47 - 1)) (min (a + k) (2 ^ 47 - 1))) c.accIm (List.zipWith (fun (p q : Lane) => (p.1.toInt * q.2.toInt + p.2.toInt * q.1.toInt)) (c.vr x.a) (c.vr x.b)) }))
    ∧ (aarIssues s n w 0x27 i u → coreBecomes (exec (.aarVmacc n w stall) s) u n
        ({ c with
          accRe := List.zipWith (fun a k => max (-(2 ^ 47 - 1)) (min (a + k) (2 ^ 47 - 1))) c.accRe (List.zipWith (fun (p q : Lane) => (p.1.toInt * q.1.toInt + p.2.toInt * q.2.toInt)) (c.vr x.a) (c.vr x.b))
          accIm := List.zipWith (fun a k => max (-(2 ^ 47 - 1)) (min (a + k) (2 ^ 47 - 1))) c.accIm (List.zipWith (fun (p q : Lane) => (p.2.toInt * q.1.toInt - p.1.toInt * q.2.toInt)) (c.vr x.a) (c.vr x.b)) }))
    ∧ (aarIssues s n w 0x28 i u → coreBecomes (exec (.aarAclr n w stall) s) u n
        ({ c with accRe := [0, 0, 0, 0], accIm := [0, 0, 0, 0] }))
    ∧ (aarIssues s n w 0x29 i u → x.mode = 0 → coreBecomes (exec (.aarAmov n w stall) s) u n
        (c.setS x.d (BitVec.ofInt 32 (clampS 32 (c.accRe.foldr (fun a b => a + b) 0 / 2 ^ x.sh)))))
    ∧ (aarIssues s n w 0x29 i u → x.mode = 1 → coreBecomes (exec (.aarAmov n w stall) s) u n
        (c.setS x.d (BitVec.ofInt 32 (clampS 32 (c.accIm.foldr (fun a b => a + b) 0 / 2 ^ x.sh)))))

/-- The block instructions over a count of elements: a window's products, the powers, sums, statistics and the greatest or least element with the index where it stands, and a copied
block; a transform changes its destination in memory alone (its words are free values: the spec states no twiddle factors, assumption log entry 10); where the arrays of BWIN and
BRFFT share bytes as R229 forbids, the instruction changes nothing. Nothing else differs but counters and flags. -/
def Obligations.CoresRunBlockInstructions : Prop :=
  ∀ (s u : State) (n i stall : Nat) (w : BitVec 64) (c : AarCore) (x : AarWord), x = aarFields w → c = coreOn u n w i stall →
    (∀ m, aarIssues s n w 0x30 i u → x.mode = 0 → m = (c.count x.c x.hi).1 → arraysMeet (c.array x.d) (2 * m) (c.array x.b) (2 * m) = false →
      (c.array x.d = c.array x.a ∨ arraysMeet (c.array x.d) (2 * m) (c.array x.a) (2 * m) = false) → c.icnt < 2 ^ 32 → coreBecomes (exec (.aarBwin n w stall) s) u n
        (c.set16s (c.array x.d) (List.zipWith (fun (a b : BitVec 16) => BitVec.ofInt 16 (clampS 16 (a.toInt * b.toInt / 2 ^ (15 + x.sh))))
          (c.get16s (c.array x.a) m) (c.get16s (c.array x.b) m))))
    ∧ (∀ m, aarIssues s n w 0x30 i u → x.mode = 0 → m = (c.count x.c x.hi).1 → arraysMeet (c.array x.d) (2 * m) (c.array x.b) (2 * m) = true →
      coreBecomes (exec (.aarBwin n w stall) s) u n c)
    ∧ (aarIssues s n w 0x31 i u → (c.array x.d = c.array x.a ∨ arraysMeet (c.array x.d) (4 * x.hi) (c.array x.a) (4 * x.hi) = false) →
      ∃ v, exec (.aarBfft n w stall) s = .next v ∧ { v.core n with mem := c.mem } = c ∧ onlyParts [.aar, .regs] u v)
    ∧ (aarIssues s n w 0x32 i u → arraysMeet (c.array x.d) (2 * x.hi) (c.array x.a) (2 * x.hi) = false →
      ∃ v, exec (.aarBrfft n w stall) s = .next v ∧ { v.core n with mem := c.mem } = c ∧ onlyParts [.aar, .regs] u v)
    ∧ (aarIssues s n w 0x32 i u → arraysMeet (c.array x.d) (2 * x.hi) (c.array x.a) (2 * x.hi) = true → coreBecomes (exec (.aarBrfft n w stall) s) u n c)
    ∧ (∀ m, aarIssues s n w 0x33 i u → x.mode = 0 → m = (c.count x.c x.hi).1 →
      (c.array x.d = c.array x.a ∨ arraysMeet (c.array x.d) (4 * m) (c.array x.a) (4 * m) = false) → coreBecomes (exec (.aarBpwr n w stall) s) u n
        (c.set32s (c.array x.d) ((List.range m).map (fun j => BitVec.ofNat 32 (min (2 ^ 32 - 1)
          (((c.rd16 (c.array x.a + 4 * j)).toInt ^ 2 + (c.rd16 (c.array x.a + 4 * j + 2)).toInt ^ 2).toNat / 2 ^ x.sh))))))
    ∧ (∀ m, aarIssues s n w 0x34 i u → x.mode = 0 → m = (c.count x.c x.hi).1 → c.icnt < 2 ^ 32 → coreBecomes (exec (.aarBsum n w stall) s) u n
        (c.setS x.d (BitVec.ofInt 32 (clampS 32 (((c.get16s (c.array x.a) m).map (fun y => y.toInt)).foldr (fun a b => a + b) 0 / 2 ^ x.sh)))))
    ∧ (∀ m, aarIssues s n w 0x35 i u → x.mode = 2 → m = (c.count x.c x.hi).1 → m ≠ 0 →
      ∃ v, exec (.aarBmax n w stall) s = .next v ∧ onlyParts [.aar, .regs] u v ∧ (v.core n).mem = c.mem
        ∧ (c.s.length = 16 → x.d ≠ 0 → (c.get32s (c.array x.a) m).all (fun y => decide (y.toInt ≤ ((v.core n).sr x.d).toInt)) = true
            ∧ (c.get32s (c.array x.a) m)[((v.core n).sr (x.d + 1)).toNat]? = some ((v.core n).sr x.d)))
    ∧ (∀ m, aarIssues s n w 0x36 i u → x.mode = 2 → m = (c.count x.c x.hi).1 → m ≠ 0 →
      ∃ v, exec (.aarBmin n w stall) s = .next v ∧ onlyParts [.aar, .regs] u v ∧ (v.core n).mem = c.mem
        ∧ (c.s.length = 16 → x.d ≠ 0 → (c.get32s (c.array x.a) m).all (fun y => decide (((v.core n).sr x.d).toInt ≤ y.toInt)) = true
            ∧ (c.get32s (c.array x.a) m)[((v.core n).sr (x.d + 1)).toNat]? = some ((v.core n).sr x.d)))
    ∧ (aarIssues s n w 0x35 i u → x.mode = 2 → (c.count x.c x.hi).1 = 0 → c.icnt < 2 ^ 32 → coreBecomes (exec (.aarBmax n w stall) s) u n
        ((c.setS x.d 0x80000000).setS (x.d + 1) 0xFFFFFFFF))
    ∧ (∀ m, aarIssues s n w 0x37 i u → x.mode = 0 → m = (c.count x.c x.hi).1 → c.icnt < 2 ^ 32 → coreBecomes (exec (.aarBstat n w stall) s) u n
        (((c.setS x.d (BitVec.ofInt 32 (clampS 32 (((c.get16s (c.array x.a) m).map (fun y => y.toInt)).foldr (fun a b => a + b) 0)))).setS (x.d + 1)
          (BitVec.ofInt 32 (clampS 32 (((c.get16s (c.array x.a) m).map (fun y => y.toInt * y.toInt)).foldr (fun a b => a + b) 0 / 2 ^ x.sh)))).setS (x.d + 2)
          (BitVec.ofNat 32 m)))
    ∧ (aarIssues s n w 0x38 i u → (c.count x.c x.hi).1 = 16 → coreBecomes (exec (.aarBmov n w stall) s) u n
        (c.setMem (c.array x.d) (Store.bytes c.mem (c.array x.a) 16)))

/-- A frame that is ready is the core's next; the feeder writes a tile's samples to its buffer; a core's runs start in order, INIT, TILE, FEND, each at its entry with its tile and buffer in S1 and S2; a
frame not committed by its deadline is counted as overrun and gives way to the next; a core switches once, and its constants are copied from the stage copy and reloaded from its image; a reload beyond
2 ms is a fault; a commit's records reach their zone units together. -/
def Obligations.ArrayFramesRunTheirCourse : Prop :=
  ∀ (n : Nat) (t : Instant) (s w : State), w = s.atT t → n < 32 → n < w.aar.cores.length →
    (∀ k, w.coreRd n (Reg.AAR_C_CTL_EN n) = 1 → w.newestFrame n = some k → (w.core n).lastReady = none → (w.core n).frame = none →
      ∃ v, exec (.frameReady n t) s = .next v ∧ ((v.core n).frame.map (fun f => (f.k, f.readyAt, f.time))) = some (k, w.now, w.devTime)
        ∧ (v.core n).lastReady = (v.core n).frame ∧ (v.core n).tilesRun = 0 ∧ onlyParts [.aar] w v)
    ∧ (∀ k f, w.coreRd n (Reg.AAR_C_CTL_EN n) = 1 → w.newestFrame n = some k → (w.core n).frame = some f → (w.core n).lastReady = some f → f.k + 1 < k →
      ∃ v, exec (.frameReady n t) s = .next v ∧ ((v.core n).lastReady.map (fun f => (f.k, f.readyAt))) = some (k, w.now)
        ∧ (v.core n).frame = some f ∧ (v.core n).gap = true ∧ onlyParts [.aar] w v)
    ∧ (∀ f i base g, (w.core n).frame = some f → (w.core n).fate = .run → (w.core n).skipped = false → i = (w.core n).tilesWritten → i < w.coreT n →
        i < (w.core n).tilesRun + 2 → (w.core n).deadline = none → w.isolatedAt .aar (some n) = false → w.coreAcc n = false → g = i * w.coreTG n →
        base = 64 * w.coreRd n (if i % 2 = 0 then Reg.AAR_C_BUF_BUF0 n else Reg.AAR_C_BUF_BUF1 n) →
      ∃ v, exec (.tileWritten n [] t) s = .next v ∧ v.core n = { (w.core n).set16s base
          ((List.range (32 * min (w.coreTG n) (w.coreGroups n - g))).flatMap (fun q =>
            (List.range (w.coreL n)).map (fun y => (w.tileSample n f.k g y q []).1))) with tilesWritten := i + 1 }
        ∧ onlyParts [.aar, .regs] w v)
    ∧ (∀ f, (w.core n).frame = some f → (w.core n).fate = .run → (w.core n).state = .waiting → (w.core n).deadline = none →
        w.isolatedAt .aar (some n) = false → (w.core n).needInit = true →
      ∃ v, exec (.runStart n t) s = .next v ∧ (v.core n).state = .running ∧ (v.core n).run = .init ∧ (v.core n).pc = w.coreRd n (Reg.AAR_C_ENTRY_INIT n)
        ∧ (v.core n).sr 1 = 0 ∧ (v.core n).sr 2 = BitVec.ofNat 32 (w.coreHdr n) ∧ (v.core n).sr 3 = 0 ∧ onlyParts [.aar] w v)
    ∧ (∀ f i, (w.core n).frame = some f → (w.core n).fate = .run → (w.core n).state = .waiting → (w.core n).deadline = none →
        w.isolatedAt .aar (some n) = false → (w.core n).needInit = false → i = (w.core n).tilesRun → i < w.coreT n → (w.core n).skipped = false →
        i < (w.core n).tilesWritten → (w.core n).s.length = 16 →
      ∃ v, exec (.runStart n t) s = .next v ∧ (v.core n).state = .running ∧ (v.core n).run = .tile ∧ (v.core n).pc = w.coreRd n (Reg.AAR_C_ENTRY_TILE n)
        ∧ (v.core n).sr 1 = BitVec.ofNat 32 i ∧ (v.core n).sr 3 = (w.core n).sr 3
        ∧ (v.core n).sr 2 = BitVec.ofNat 32 (64 * w.coreRd n (if i % 2 = 0 then Reg.AAR_C_BUF_BUF0 n else Reg.AAR_C_BUF_BUF1 n)) ∧ onlyParts [.aar] w v)
    ∧ (∀ f, (w.core n).frame = some f → (w.core n).fate = .run → (w.core n).state = .waiting → (w.core n).deadline = none →
        w.isolatedAt .aar (some n) = false → (w.core n).needInit = false → (w.core n).tilesRun = w.coreT n → (w.core n).s.length = 16 →
      ∃ v, exec (.runStart n t) s = .next v ∧ (v.core n).state = .running ∧ (v.core n).run = .fend ∧ (v.core n).pc = w.coreRd n (Reg.AAR_C_ENTRY2_FEND n)
        ∧ (v.core n).sr 1 = BitVec.ofNat 32 (w.coreT n) ∧ onlyParts [.aar] w v)
    ∧ (∀ f g, (w.core n).frame = some f → (w.core n).lastReady = some g → g.k ≠ f.k → (w.core n).fate = .run → storeWf w.regs.live = true →
      ∃ v, exec (.frameOverrun n t) s = .next v ∧ (v.core n).frame = some g ∧ (v.core n).tilesRun = 0 ∧ (v.core n).features = []
        ∧ v.rd (Reg.AAR_C_OVR_CNT n) = min (w.rd (Reg.AAR_C_OVR_CNT n) + 1) (2 ^ 32 - 1) ∧ onlyParts [.aar, .regs] w v)
    ∧ ((w.core n).affected = true → (w.core n).switchDue.isSome = true → (w.core n).state ≠ .restarting →
      ∃ v, exec (.coreSwitch n t) s = .next v ∧ (v.core n).affected = false ∧ (v.core n).switchDue = none ∧ (v.core n).frame = none
        ∧ (v.core n).needInit = true ∧ (v.core n).copySince = some w.now ∧ (v.core n).state = (if w.rd (Reg.AAR_C_CTL_EN n) = 1 then .waiting else .off)
        ∧ onlyParts [.aar] w v)
    ∧ ((w.core n).copySince.isSome = true → w.constRegions n = [(64, 64), (0, 0), (0, 0), (0, 0)] →
      ∃ v, exec (.constCopyDone n t) s = .next v ∧ (v.core n).copySince = none
        ∧ (v.core n).mem = Store.setBytes (Store.drop (w.core n).mem 64 128) 64 (Store.bytes w.mems.stage (dataBase + n * 0x40000 + 64) 64)
        ∧ (v.core n).constImage = Store.setBytes (Store.drop (w.core n).constImage 64 128) 64 (Store.bytes w.mems.stage (dataBase + n * 0x40000 + 64) 64)
        ∧ onlyParts [.aar] w v)
    ∧ ((w.core n).reloadSince.isSome = true → w.constRegions n = [(64, 64), (0, 0), (0, 0), (0, 0)] →
      ∃ v, exec (.constReloadDone n t) s = .next v ∧ (v.core n).reloadSince = none ∧ (v.core n).needInit = true
        ∧ (v.core n).mem = Store.setBytes (Store.drop (w.core n).mem 64 128) 64 (Store.bytes (w.core n).constImage 64 64)
        ∧ (v.core n).state = (if w.coreRd n (Reg.AAR_C_CTL_EN n) = 1 then .waiting else .off) ∧ onlyParts [.aar] w v)
    ∧ (∀ r, (w.core n).reloadSince = some r → r + 2 * 10 ^ 9 < w.now → exec (.reloadFail n t) s = .next (w.blockFault .aar (some n) 3 0))
    ∧ (∀ z i x rest, w.aar.arriving = [(z, i, x)] :: rest → w.isolatedAt .zon (some z) = false → z < w.zon.units.length →
        i < (w.zon.units.getD z {}).f.length →
      ∃ v, exec (.featureRecordArrival t) s = .next v ∧ v.aar.arriving = rest ∧ ((v.zon.units.getD z {}).f.getD i {}) = x
        ∧ onlyParts [.aar, .zon, .regs] w v)

/-- A step that is due, or an idle step, is taken at its instant and leaves no bus request or accepted edge behind; with one unit enabled whose
first condition alone is present and holds, its action is taken: its state follows, its event is numbered and joins the records that wait; a
timer that reaches its limit at the latch expires; the oldest record whose CAPTURE is known leaves for KPE, or is dropped and counted where
512 wait. -/
def Obligations.ZoneUnitsStepAndReport : Prop :=
  ∀ (t : Instant) (s w : State), w = s.atT t → storeWf w.regs.live →
    (∀ b, w.zon.stepDue = some b → b ≤ w.now → w.chp.retuneDue = none →
      ∃ v, exec (.zoneStep t) s = .next v ∧ v.zon.stepDue = none ∧ v.zon.lastStep = w.now ∧ v.zon.stepSweep = w.sweep
        ∧ v.zon.fireSeen = false ∧ v.zon.busReq = [] ∧ v.zon.resetUnits = [] ∧ onlyParts [.zon, .regs] w v)
    ∧ (w.idleDue = true →
      ∃ v, exec (.idleStep t) s = .next v ∧ v.zon.stepDue = none ∧ v.zon.lastStep = w.now ∧ v.zon.stepSweep = w.sweep
        ∧ v.zon.fireSeen = false ∧ v.zon.busReq = [] ∧ v.zon.resetUnits = [] ∧ onlyParts [.zon, .regs] w v)
    ∧ (∀ b z u st a x, w.zon.stepDue = some b → b ≤ w.now → w.chp.retuneDue = none → w.on Reg.ZON_CTL_EN = true → w.isolated .zon = false →
        w.isolatedAt .zon (some z) = false → (List.range 256).filter (fretEn w.mems.act) = [z] → w.zon.resetUnits = [] →
        w.rdFor w.sweep Reg.ZON_MU_ROLE = 1 → z < w.zon.units.length → fretSpd w.mems.act z = false →
        u = (w.unit z).latch w.mems.act z (w.tiu.units.getD (fretTiu w.mems.act z) {}).rate false false w.now → st = u.state →
        x = zoneInput u w.armPin w.zon.fireSeen (bits (condWord w.mems.act z st 0) 57 5) → a = actWord w.mems.act z st 0 →
        bits (condWord w.mems.act z st 0) 63 1 = 1 → outcome w.mems.act z u (condWord w.mems.act z st 0) x = some true →
        bits (condWord w.mems.act z st 1) 63 1 = 0 → bits (condWord w.mems.act z st 2) 63 1 = 0 → bits (condWord w.mems.act z st 3) 63 1 = 0 →
        bits a 31 1 = 1 → bits a 4 4 = 1 →
      ∃ v, exec (.zoneStep t) s = .next v ∧ (v.unit z).state = bits a 0 4 ∧ (v.unit z).zseq = ((w.unit z).zseq + 1) % 2 ^ 16
        ∧ (v.zon.waiting.getLast?).map (fun e => (e.zone, e.code, e.before, e.after, e.sweep, e.value, e.capture.code))
            = some (z, bits a 20 8, st, bits a 0 4, w.sweep, x.value, some 0xFFFFFFFF)
        ∧ v.rd Reg.ZON_EVT_CNT = min (w.rd Reg.ZON_EVT_CNT + 1) (2 ^ 32 - 1) ∧ onlyParts [.zon, .regs] w v)
    ∧ (∀ b z k x, w.zon.stepDue = some b → fretEn w.mems.act z = true → w.on Reg.ZON_CTL_EN = true → w.isolatedAt .zon (some z) = false →
        z ∉ w.zon.resetUnits → z < w.zon.units.length → k < (w.unit z).t.length → k < 4 →
        x = latchTimer ((w.unit z).t.getD k {}) (zoneWord w.mems.act z (0x340 + 4 * k)) w.now false → x.state = .expired →
      ∃ v, exec (.zoneTimerExpire z k t) s = .next v ∧ (v.unit z).t.getD k {} = x
        ∧ { v.unit z with t := (w.unit z).t } = w.unit z ∧ onlyParts [.zon] w v)
    ∧ (∀ e r c, w.zon.waiting = e :: r → e.capture.code = some c → w.zon.queue.length < 512 → e.log = false →
      ∃ v, exec (.eventEnqueue t) s = .next v ∧ v.zon.waiting = r ∧ v.zon.lostNext = false ∧ onlyParts [.zon, .kpe, .regs] w v)
    ∧ (∀ e r c, w.zon.waiting = e :: r → e.capture.code = some c → 512 ≤ w.zon.queue.length → e.log = false →
      ∃ v, exec (.eventEnqueue t) s = .next v ∧ v.zon = { w.zon with waiting := r, lostNext := true }
        ∧ v.rd Reg.ZON_EVT_DROP_CNT = min (w.rd Reg.ZON_EVT_DROP_CNT + 1) (2 ^ 32 - 1) ∧ onlyParts [.zon, .regs] w v)

/-- The MASTER asserts and releases ARM at command, and another role's command is counted; FIRE is pulled for FIRE_W by a unit with a role
while ARM is asserted, and otherwise suppressed; the bus's edges are noted, and 500 ns later accepted and recorded or rejected; an ARM pulled
by another unit is seen, and by the MASTER declared foreign after 1 µs; a FIRE low for more than 10 ms is stuck until it rises. -/
def Obligations.UnitBusesFollowTheirRules : Prop :=
  ∀ (t : Instant) (s w : State), w = s.atT t → storeWf w.regs.live →
    (∀ m, commandable w m .zon none → w.muRole = 1 →
      exec (.armOn m t) s = .next ({ w with zon := { w.zon with armDriven := true, armForeignSince := none } }).done)
    ∧ (∀ m (up : Bool), commandable w m .zon none → w.muRole ≠ 1 →
      exec (if up then .armOn m t else .armOff m t) s = .next ((w.event [Reg.ZON_STAT_ARM_IGN]).bump Reg.ZON_ARM_IGN_CNT).done)
    ∧ (∀ m, commandable w m .zon none → w.muRole = 1 → w.zon.armDriven = true → w.zon.armExt = false →
      exec (.armOff m t) s
        = .next ({ w with zon := { w.zon with armDriven := false, foreignDeclared := false, armForeignSince := none } }).done)
    ∧ (∀ m, commandable w m .zon none → w.muRole ≠ 0 → w.armPin = true → w.zon.fireUntil = none →
      exec (.muFire m t) s = .next ({ w with zon := { w.zon with
        fireUntil := some (w.now + max 1 (w.muRd Reg.ZON_MU_FIRE_W) * 10 ^ 6), fireCal := false } }).done)
    ∧ (∀ m, commandable w m .zon none → (w.muRole = 0 ∨ w.armPin = false) →
      exec (.muFire m t) s = .next ((w.event [Reg.ZON_STAT_FIRE_SUPP]).bump Reg.ZON_FIRE_SUPP_CNT).done)
    ∧ (∀ m, commandable w m .zon none → w.muRole = 1 → w.zon.fireUntil = none →
      exec (.calFire m t) s = .next ({ w with zon := { w.zon with
        fireUntil := some (w.now + max 1 (w.muRd Reg.ZON_MU_FIRE_W) * 10 ^ 6), fireCal := true } }).done)
    ∧ (∀ e, w.zon.fireUntil = some e → e ≤ w.now → exec (.firePulseEnd t) s = .next { w with zon := { w.zon with fireUntil := none } })
    ∧ (∀ cal, w.zon.fireLowSince = none → w.zon.fireUntil = none → w.muRole ≠ 0 → w.zon.edge = none →
      exec (.fireEdge true cal t) s = .next { w with zon := { w.zon with
        fireExt := true, fireLowSince := some w.busEdge
        edge := some { edge := w.busEdge, armed := w.armPin, running := w.psq.state == .running, cal := cal } } })
    ∧ (∀ f, w.zon.edge = some f → f.edge.edgeAt + 500000 ≤ w.now → w.edgeOk f = false →
      exec (.fireEdgeAccept t) s = .next (({ w with zon := { w.zon with edge := none } }).bump Reg.ZON_FIRE_REJ_CNT))
    ∧ (∀ f, w.zon.edge = some f → f.edge.edgeAt + 500000 ≤ w.now → w.edgeOk f = true → f.cal = false → w.muRd Reg.ZON_MU_BUSCAP = 1 →
        w.muRole ≠ 1 →
      ∃ v, exec (.fireEdgeAccept t) s = .next v ∧ v.zon.fireSeen = true ∧ v.zon.lastEdge = some f.edge.edgeAt ∧ v.zon.edge = none
        ∧ v.rd Reg.ZON_MU_FIRE_SWEEP = (w.convertEdge f.edge).1 % 2 ^ 48 ∧ v.rd Reg.ZON_MU_FIRE_ST = wrapN 32 (w.convertEdge f.edge).2
        ∧ v.rd Reg.ZON_FIRE_EDGE_CNT = min (w.rd Reg.ZON_FIRE_EDGE_CNT + 1) (2 ^ 32 - 1)
        ∧ (v.zon.busReq.getLast?).map (fun r => (r.zone, r.tag)) = some (256, w.zon.nextTag)
        ∧ (v.zon.waiting.getLast?).map (fun e => (e.bus, e.code, e.time)) = some (true, 1, f.edge.time) ∧ onlyParts [.zon, .regs] w v)
    ∧ (∀ f, w.zon.edge = some f → f.edge.edgeAt + 500000 ≤ w.now → w.edgeOk f = true → f.cal = true →
      ∃ v, exec (.fireEdgeAccept t) s = .next v ∧ v.zon.fireSeen = w.zon.fireSeen ∧ v.zon.edge = none ∧ v.zon.busReq = w.zon.busReq
        ∧ v.rd Reg.ZON_MU_FIRE_TIME = f.edge.time % 2 ^ 64
        ∧ (v.zon.waiting.getLast?).map (fun e => (e.bus, e.code)) = some (true, 4) ∧ onlyParts [.zon, .regs] w v)
    ∧ (∀ e, e ≠ w.zon.armExt →
      exec (.armBusChange e t) s = .next { w with zon := { w.zon with
        armExt := e, foreignDeclared := false, armForeignSince := if e && !w.zon.armDriven then some w.busEdge else none } })
    ∧ (∀ e, w.zon.armForeignSince = some e → w.muRole = 1 → w.zon.armDriven = false → w.zon.armExt = true → w.zon.foreignDeclared = false →
        e.edgeAt + 10 ^ 6 < w.now →
      ∃ v, exec (.armForeign t) s = .next v ∧ v.zon.foreignDeclared = true
        ∧ v.rd Reg.ZON_ARM_FOREIGN_CNT = min (w.rd Reg.ZON_ARM_FOREIGN_CNT + 1) (2 ^ 32 - 1)
        ∧ (v.zon.waiting.getLast?).map (fun e => (e.bus, e.code)) = some (true, 2) ∧ onlyParts [.zon, .regs] w v)
    ∧ (∀ e, w.zon.fireLowSince = some e → w.zon.fireStuck = false → e.edgeAt + 10 ^ 10 < w.now →
      ∃ v, exec (.fireStuck t) s = .next v ∧ v.zon.fireStuck = true
        ∧ (v.zon.waiting.getLast?).map (fun e => (e.bus, e.code)) = some (true, 3) ∧ onlyParts [.zon, .regs] w v)
    ∧ (∀ e, w.zon.fireUntil = none → w.zon.fireLowSince = some e →
      ∃ v, exec (.fireBusRelease t) s = .next v ∧ v.zon.fireLowSince = none ∧ v.zon.fireExt = false ∧ v.zon.fireStuck = false
        ∧ (w.zon.fireStuck = true → v.zon.fireQuietUntil = w.now + 10 ^ 9) ∧ onlyParts [.zon] w v)

/-- A power bin within its limits ends GDA's run, one above HI lengthens it, and the CONFIRM-th trips GDA; a bin with no sample does neither;
a MONTX sample above its limit and a MONRX sample above its profile do the same with their own runs; the interlock, high for 200 ns, trips
GDB, and is closed again after 100 ms low; a guard follows the other into TRIPPED, and trips when the other's clock has stopped; a guard whose
clock stops presents nothing. -/
def Obligations.GuardsTripOnWhatTheyWatch : Prop :=
  ∀ (t : Instant) (s w : State), w = s.atT t → storeWf w.regs.live →
    (∀ adc, w.gda.stopped = false → (w.binPower (binSamples adc t)).2 = 0 →
      ∃ v, exec (.powerBin adc t) s = .next v ∧ v.rd Reg.GDA_MON_PC = 0 ∧ onlyParts [.regs] w v)
    ∧ (∀ adc r pc p, w.gda.stopped = false → r = w.binPower (binSamples adc t) → r.2 ≠ 0 → pc = powerCode r.1 r.2 →
        p = w.profileA (w.entryA t) → p.1 ≤ pc → pc ≤ p.2 → (binSamples adc t).all (fun b => !b.clipped) = true →
      ∃ v, exec (.powerBin adc t) s = .next v ∧ v.gda.run = 0 ∧ v.gda.state = w.gda.state ∧ v.rd Reg.GDA_MON_PC = pc % 2 ^ 13
        ∧ onlyParts [.gda, .regs] w v)
    ∧ (∀ adc r pc p, w.gda.stopped = false → r = w.binPower (binSamples adc t) → r.2 ≠ 0 → pc = powerCode r.1 r.2 →
        p = w.profileA (w.entryA t) → p.2 < pc → (binSamples adc t).all (fun b => !b.clipped) = true →
        w.gda.run + 1 < max 1 (w.rd Reg.GDA_CTL_CONFIRM) →
      ∃ v, exec (.powerBin adc t) s = .next v ∧ v.gda.run = w.gda.run + 1 ∧ v.gda.state = w.gda.state
        ∧ v.rd Reg.GDA_HIGH_CNT = min (w.rd Reg.GDA_HIGH_CNT + 1) (2 ^ 32 - 1) ∧ onlyParts [.gda, .regs] w v)
    ∧ (∀ adc r pc p, w.gda.stopped = false → w.gda.state = .armed → w.inRestartWindow t = false → w.pwr.enablesOpen = none →
        r = w.binPower (binSamples adc t) → r.2 ≠ 0 → pc = powerCode r.1 r.2 → p = w.profileA (w.entryA t) → p.2 < pc →
        (binSamples adc t).all (fun b => !b.clipped) = true → max 1 (w.rd Reg.GDA_CTL_CONFIRM) ≤ w.gda.run + 1 →
      ∃ v, exec (.powerBin adc t) s = .next v ∧ v.gda.state = .tripped ∧ v.gda.cause = .high ∧ v.gda.trippedAt = w.now
        ∧ v.enabled .soa = false ∧ v.gdb = w.gdb ∧ v.chp = w.chp)
    ∧ (∀ c, w.gda.stopped = false → w.gda.state = .armed → c < 1024 → w.rd Reg.GDA_TX_TX_MAX < c →
        max 1 (w.rd Reg.GDA_CTL_TX_CONFIRM) ≤ w.gda.runTx + 1 →
      ∃ v, exec (.montxSample c t) s = .next v ∧ v.gda.state = .tripped ∧ v.gda.cause = .txHigh ∧ v.gdb = w.gdb ∧ v.chp = w.chp)
    ∧ (∀ c, w.gda.stopped = false → c < 1024 → c ≤ w.rd Reg.GDA_TX_TX_MAX → c ≤ w.rd Reg.GDA_TX_TX_DARK →
      ∃ v, exec (.montxSample c t) s = .next v ∧ v.rd Reg.GDA_MON_TX = c ∧ v.gda = { w.gda with runTx := 0, runLeak := 0 }
        ∧ onlyParts [.gda, .regs] w v)
    ∧ (∀ c p, w.gdb.stopped = false → w.gdb.state = .armed → w.inRestartWindow t = false → c < 1024 → p = w.profileB (w.entryB t) → p.2 < c →
        max 1 (min 16 (w.rd Reg.GDB_CTL_CONFIRM)) ≤ w.gdb.run + 1 →
      ∃ v, exec (.monrxSample c false t) s = .next v ∧ v.gdb.state = .tripped ∧ v.gdb.cause = .rxHigh ∧ v.gda = w.gda ∧ v.chp = w.chp)
    ∧ (∀ c p, w.gdb.stopped = false → c < 1024 → p = w.profileB (w.entryB t) → p.1 ≤ c → c ≤ p.2 →
      ∃ v, exec (.monrxSample c true t) s = .next v ∧ v.rd Reg.GDB_MON_RX = c ∧ v.gdb.run = 0 ∧ v.gdb.runLow = 0 ∧ v.gdb.state = w.gdb.state
        ∧ onlyParts [.gdb, .regs] w v)
    ∧ (∀ hi, w.guards.intlkHigh ≠ hi →
      exec (.intlkChange hi t) s = .next { w with guards := { w.guards with
        intlkHigh := hi, intlkAt := w.now, intlkClosed := if hi then false else w.guards.intlkClosed } })
    ∧ (w.guards.intlkHigh = true → w.guards.intlkAt + 200000 ≤ w.now → w.gdb.stopped = false → w.gdb.state = .armed →
      ∃ v, exec (.intlkTrip t) s = .next v ∧ v.gdb.state = .tripped ∧ v.gdb.cause = .intlk ∧ v.gda = w.gda)
    ∧ (w.guards.intlkHigh = false → w.guards.intlkAt + 10 ^ 11 ≤ w.now →
      exec (.intlkClosed t) s = .next { w with guards := { w.guards with intlkClosed := true } })
    ∧ (w.gdb.state = .tripped → w.gda.peer ≠ .tripped → w.gda.stopped = false → w.gda.state = .armed →
      ∃ v, exec (.peerStatus .a t) s = .next v ∧ v.gda.state = .tripped ∧ v.gda.cause = .follow ∧ v.gda.peer = .tripped ∧ v.gdb = w.gdb)
    ∧ (w.gda.state = .armed → w.gdb.state = .restart → w.gdb.stopped = false →
      ∃ v, exec (.peerStatus .b t) s = .next v ∧ v.gdb.state = .armed ∧ v.gdb.peer = .armed ∧ v.gda = w.gda)
    ∧ (∀ g, (w.guard (otherGuard g)).stopped = true → (w.guard g).aliveAt + 10 ^ 7 ≤ w.now → (w.guard g).stopped = false →
        (w.guard g).state = .armed →
      ∃ v, exec (.peerLost g t) s = .next v ∧ (v.guard g).state = .tripped ∧ (v.guard g).cause = .peerLost)
    ∧ (∀ g, (w.guard g).stopped = false → w.pwr.fallback = false → w.pwr.enablesOpen = none →
      ∃ v, exec (.enableClockStop g t) s = .next v ∧ (v.guard g).stopped = true ∧ (v.guard g).state = (w.guard g).state
        ∧ (v.guard (otherGuard g)).aliveAt = w.now ∧ v.enabled .soa = false ∧ v.enabled .seed = false
        ∧ onlyParts [.gda, .gdb, .src, .psq, .guards, .cal, .phs, .rmx] w v)

/-- TRIP trips an ARMED guard and leaves an IDLE one; SELFTEST, LEARN and RESTART begin what their rules allow and are refused otherwise;
a self-test that passes sets ST_OK; a learning that has all its sweeps writes its profile to the stage, valid, and an abort writes nothing;
a restart starts with GDB, its plucks are counted and fired by GDA, and after the last window GDA is ARMED; one that cannot fire fails. -/
def Obligations.GuardCommandsAndRestarts : Prop :=
  ∀ (t : Instant) (s w : State), w = s.atT t → storeWf w.regs.live →
    (∀ m g, commandable w m (guardBlock g) none → (w.guard g).state = .armed → (w.guard g).stopped = false →
      ∃ v, exec (.trip m g t) s = .next v ∧ (v.guard g).state = .tripped ∧ (v.guard g).cause = .cmd ∧ (v.guard g).trippedAt = w.now
        ∧ onlyParts [.gda, .gdb, .regs, .evr, .kpe, .src, .psq, .guards, .cal, .phs, .rmx, .bus] w v)
    ∧ (∀ m g, commandable w m (guardBlock g) none → ((w.guard g).state = .idle ∨ (w.guard g).state = .tripped) →
      exec (.trip m g t) s = .next w.done)
    ∧ (∀ m g, commandable w m (guardBlock g) none → ((w.guard g).state = .idle ∨ (w.guard g).state = .tripped) → (w.guard g).selfTest = none →
      exec (.selftest m g t) s = .next (w.mapGuard g (fun x => { x with selfTest := some w.now })).done)
    ∧ (∀ m g, commandable w m (guardBlock g) none → ((w.guard g).state = .restart ∨ (w.guard g).state = .armed) →
      exec (.selftest m g t) s = .next (w.event [guardStat g Reg.GDA_STAT_CMD_REFUSED Reg.GDB_STAT_CMD_REFUSED]).done)
    ∧ (∀ g a, (w.guard g).selfTest = some a → a + (if g = .a then 20 else 500) * 10 ^ 6 ≤ w.now → (w.guard g).stopped = false →
      exec (.selftestDone g true t) s = .next ((w.mapGuard g (fun x => { x with selfTest := none, stOk := true })).event
        [guardStat g Reg.GDA_STAT_SELFTEST_DONE Reg.GDB_STAT_SELFTEST_DONE]))
    ∧ (∀ g a, (w.guard g).selfTest = some a → a + (if g = .a then 20 else 500) * 10 ^ 6 ≤ w.now → (w.guard g).stopped = false →
      exec (.selftestDone g false t) s = .next (((w.mapGuard g (fun x => { x with selfTest := none, stOk := x.stOk })).event
        [guardStat g Reg.GDA_STAT_SELFTEST_DONE Reg.GDB_STAT_SELFTEST_DONE]).blockFault (guardBlock g) none 3 0))
    ∧ (∀ m g, commandable w m (guardBlock g) none → w.learnRefused g = false → w.guards.inSweep = false →
      ∃ v, exec (.learn m g t) s = .next v ∧ ((v.guard g).learning.map (fun l => (l.pat, l.left, l.dark, l.bins)))
          = some (w.rd (if g = .a then Reg.GDA_LEARN_PAT else Reg.GDB_LEARN_PAT),
              2 ^ max 6 (min 16 (w.rd (if g = .a then Reg.GDA_LEARN_LOG2S else Reg.GDB_LEARN_LOG2S))), false, [])
        ∧ onlyParts [.gda, .gdb, .bus] w v)
    ∧ (∀ m g, commandable w m (guardBlock g) none → w.learnRefused g = true →
      exec (.learn m g t) s = .next (w.event [guardStat g Reg.GDA_STAT_CMD_REFUSED Reg.GDB_STAT_CMD_REFUSED]).done)
    ∧ (∀ l, w.gdb.learning = some l → l.left = 0 → l.bins = [(0, 100, 200)] → l.pat < 16 → storeWf w.regs.stage →
      ∃ v, exec (.learnComplete .b t) s = .next v ∧ v.gdb = { w.gdb with learning := none } ∧ v.chp.stage = .dirty
        ∧ v.mems.stage = Store.setWord w.mems.stage (profileBase + 0x10000 + 4 * l.pat)
            (BitVec.ofNat 32 (100 - w.rd Reg.GDB_LEARN_MLO + min 1023 (200 + w.rd Reg.GDB_LEARN_MHI) * 2 ^ 16))
        ∧ v.rdStage (Reg.GDB_PVALID_VALID.bit l.pat) = 1 ∧ onlyParts [.gdb, .mems, .regs, .chp, .occ] w v)
    ∧ (∀ m g l, commandable w m (guardBlock g) none → (w.guard g).learning = some l →
      exec (.learnAbort m g t) s = .next ((w.mapGuard g (fun x => { x with learning := none })).event
        [guardStat g Reg.GDA_STAT_LEARN_CANCEL Reg.GDB_STAT_LEARN_CANCEL]).done)
    ∧ (∀ m, commandable w m .gdb none → w.restartHolds = true → w.gdb.stopped = false →
      ∃ v, exec (.restart m t) s = .next v ∧ v.guards.attemptAt = some w.now ∧ v.guards.lastAttempt = some w.now ∧ v.guards.plucks = 0
        ∧ v.gdb.state = .restart ∧ v.gda = w.gda ∧ v.rd Reg.GDB_ATTEMPT_CNT = min (w.rd Reg.GDB_ATTEMPT_CNT + 1) (2 ^ 32 - 1))
    ∧ (∀ m, commandable w m .gdb none → w.restartHolds = false →
      exec (.restart m t) s = .next (w.event [Reg.GDB_STAT_CMD_REFUSED]).done)
    ∧ (w.on Reg.GDB_RST_AUTO = true → w.timedCause .a = true → w.timedCause .b = true → w.mayRestart = true → w.gdb.stopped = false →
        max w.gdb.trippedAt (w.guards.lastAttempt.getD 0) + max 1 (w.rd Reg.GDB_RST_INTERVAL) * 10 ^ 12 ≤ w.now →
      ∃ v, exec (.timedRestart t) s = .next v ∧ v.guards.attemptAt = some w.now ∧ v.gdb.state = .restart ∧ v.gda = w.gda)
    ∧ (∀ a, w.nextRestartPluck = some a → w.gda.state = .restart → a ≤ w.now → w.restartUnable = false →
      ∃ v, exec (.restartPluck t) s = .next v ∧ v.guards.plucks = w.guards.plucks + 1
        ∧ (v.psq.pluck.map (fun p => (p.slot, p.shape, p.scale, p.restart)))
            = some (w.rd Reg.GDA_RST_SLOT, w.rd Reg.GDA_RST_SHAPE, w.rd Reg.GDA_RST_SCALE, true)
        ∧ onlyParts [.psq, .guards] w v)
    ∧ (∀ a, w.nextRestartPluck = some a → w.gda.state = .restart → w.gdb.state = .restart → w.gda.stopped = false → w.gdb.stopped = false →
        a ≤ w.now → w.restartUnable = true →
      ∃ v, exec (.restartPluck t) s = .next v ∧ v.gda.state = .tripped ∧ v.gdb.state = .tripped ∧ v.gda.cause = .restartFail
        ∧ v.gdb.cause = .restartFail ∧ v.guards.attemptAt = none)
    ∧ (∀ p a, w.psq.pluck = some p → p.restart = true → p.fired = true → p.windowEnd ≤ w.now → w.restartCount ≤ w.guards.plucks →
        w.guards.attemptAt = some a → w.gda.state = .restart → w.gda.stopped = false →
      ∃ v, exec (.restartPluckWindowEnd t) s = .next v ∧ v.gda.state = .armed ∧ v.psq.pluck = none ∧ v.guards.attemptAt = none
        ∧ v.guards.plucks = 0 ∧ v.gdb = w.gdb)

/-- The oldest row that waits is written to its slot's lines and committed, and the next row goes to the slot after it; the oldest capture
request takes the lowest free descriptor and the next number, or is refused by the first code that applies; a stream capture hands over one
row at a time, and its completion frees it; an abort closes a capture that waits and a release frees a CLOSED one, each under its own number
alone. -/
def Obligations.RingCommitsRowsAndCaptures : Prop :=
  ∀ (t : Instant) (s w : State), w = s.atT t → storeWf w.regs.live →
    (∀ r rest, w.rng.queue = r :: rest → w.isolated .rng = false → w.rng.formatAt = none → w.rng.nsNext = none → w.rng.ns ≠ 0 →
        w.rng.desc.all (fun d => d.state == .free) = true → w.rng.rows.all (fun x => x.slot != w.rng.wslot) = true →
      ∃ v, exec (.rowCommit t) s = .next v
        ∧ v.rng = { w.rng with
            queue := rest, wrow := (w.rng.wrow + 1) % 2 ^ 48, wslot := if w.rng.ns ≤ w.rng.wslot + 1 then 0 else w.rng.wslot + 1
            rows := w.rng.rows ++ [{ num := w.rng.wrow, slot := w.rng.wslot, sweep := r.sweep, firedAt := r.firedAt }] }
        ∧ v.mems.dram = Store.setBytes w.mems.dram (0x80000000 + w.rng.wslot * w.rng.lpr * 64) (w.rowBytes r)
        ∧ onlyParts [.rng, .mems, .dmc] w v)
    ∧ (∀ q r i, w.zon.requests = q :: r → w.refusal q = 0 → q.cmd = none → q.stream = false →
        (List.range 64).find? (fun j => (w.desc j).state == .free) = some i → i < w.rng.desc.length →
        w.rng.rows.all (fun x => decide (x.firedAt < q.trigAt)) = true →
      ∃ v, exec (.captureRequest t) s = .next v ∧ v.zon.requests = r ∧ (v.desc i).num = w.rng.nextNum ∧ (v.desc i).state = .wait
        ∧ (v.desc i).first = q.first ∧ (v.desc i).last = q.last ∧ (v.desc i).trigAt = q.trigAt ∧ (v.desc i).trow = none
        ∧ v.rng.nextNum = nextCapNum w.rng.nextNum ∧ v.rd Reg.RNG_CAP_CNT = min (w.rd Reg.RNG_CAP_CNT + 1) (2 ^ 32 - 1)
        ∧ onlyParts [.zon, .rng, .regs] w v)
    ∧ (∀ q r, w.zon.requests = q :: r → w.refusal q ≠ 0 → q.cmd = none →
      ∃ v, exec (.captureRequest t) s = .next v ∧ v.zon.requests = r ∧ v.rng = w.rng ∧ v.rd Reg.RNG_REFUSE_CODE = w.refusal q
        ∧ v.rd Reg.RNG_REFUSE_CNT = min (w.rd Reg.RNG_REFUSE_CNT + 1) (2 ^ 32 - 1)
        ∧ v.rd Reg.ZON_REFUSED_CNT = min (w.rd Reg.ZON_REFUSED_CNT + 1) (2 ^ 32 - 1) ∧ onlyParts [.zon, .regs] w v)
    ∧ (∀ d, d < w.rng.desc.length → (w.desc d).state = .stream → (w.desc d).trow.isSome = true → (w.desc d).next < (w.desc d).given →
        w.heldRows (w.desc d).num (fun o => o == (w.desc d).offset (w.desc d).next) = false → (w.desc d).next + 1 < (w.desc d).stop →
      ∃ v, exec (.rowHandover d t) s = .next v
        ∧ v.desc d = { w.desc d with next := (w.desc d).next + 1, rows := (w.desc d).rows + 1 } ∧ onlyParts [.rng, .kpe] w v)
    ∧ (∀ d, d < w.rng.desc.length → (w.desc d).state = .closed → (w.desc d).stream = true → w.heldRows (w.desc d).num (fun _ => true) = false →
        w.captureSubs = [] →
      ∃ v, exec (.rowHandover d t) s = .next v ∧ v.desc d = { w.desc d with state := .free } ∧ onlyParts [.rng, .kpe] w v)
    ∧ (∀ m d, commandable w m .rng none → d < w.rng.desc.length → (w.desc d).state = .wait → (w.desc d).trow = none →
      ∃ v, exec (.captureAbort m d ((w.desc d).num % 2 ^ 24) t) s = .next v ∧ (v.desc d).state = .closed ∧ (v.desc d).result = .aborted
        ∧ (v.desc d).num = (w.desc d).num ∧ v.rd Reg.RNG_ABORT_CNT = min (w.rd Reg.RNG_ABORT_CNT + 1) (2 ^ 32 - 1)
        ∧ onlyParts [.rng, .regs, .kpe, .bus] w v)
    ∧ (∀ m d num rel, commandable w m .rng none → num ≠ (w.desc d).num % 2 ^ 24 →
      exec (if rel = true then .captureRelease m d num t else .captureAbort m d num t) s = .next w.done)
    ∧ (∀ m d, commandable w m .rng none → (w.desc d).state = .closed →
      exec (.captureRelease m d ((w.desc d).num % 2 ^ 24) t) s = .next (w.mapDesc d (fun x => { x with state := .free })).done)

/-- A block that has stood for FLUSH_US closes with FLUSH and its context's next block is numbered; the oldest closed block is released and
counted, and one that fails its check is released STORED and restarts CMP; a CVU unit begins with its initial value and prefix, takes bytes
while it runs, and ends with its result and the comparison; a unit that serves flows ignores a master. -/
def Obligations.BlocksAndCheckValuesComplete : Prop :=
  ∀ (t : Instant) (s w : State), w = s.atT t → storeWf w.regs.live →
    (∀ c f, c < w.cmp.ctxs.length → (w.ctx c).flow = some f → (w.ctx c).samples ≠ [] → w.rd Reg.CMP_CTL_FLUSH_US ≠ 0 →
        (w.ctx c).openAt + w.rd Reg.CMP_CTL_FLUSH_US * 10 ^ 6 ≤ w.now → w.isolated .cmp = false →
      ∃ v, exec (.cmpFlushTimeout c t) s = .next v
        ∧ v.cmp.closed = w.cmp.closed ++ [{ ctx := c, flow := f, pred := (w.ctx c).pred, stride := (w.ctx c).stride, seq := (w.ctx c).seq,
                                             flush := true, error := false, last := false, samples := (w.ctx c).samples, rows := (w.ctx c).rows }]
        ∧ v.ctx c = { w.ctx c with seq := ((w.ctx c).seq + 1) % 2 ^ 32, samples := [], rows := [] } ∧ onlyParts [.cmp] w v)
    ∧ (∀ b r, w.cmp.closed = b :: r → (w.on Reg.CMP_CTL_VERIFY = false ∨ b.stored = true) →
      ∃ v, exec (.cmpBlockRelease false t) s = .next v ∧ v.cmp.closed = r ∧ v.cmp.ctxs = w.cmp.ctxs
        ∧ v.rd Reg.CMP_BLK_CNT = min (w.rd Reg.CMP_BLK_CNT + 1) (2 ^ 32 - 1)
        ∧ v.rd Reg.CMP_STORED_CNT = (if b.stored then min (w.rd Reg.CMP_STORED_CNT + 1) (2 ^ 32 - 1) else w.rd Reg.CMP_STORED_CNT)
        ∧ onlyParts [.cmp, .regs, .kpe, .eth] w v)
    ∧ (∀ b r, w.cmp.closed = b :: r →
      ∃ v, exec (.cmpBlockRelease true t) s = .next v ∧ v.cmp.closed = r ∧ v.rd Reg.CMP_VFAIL_CNT = w.rd Reg.CMP_VFAIL_CNT
        ∧ onlyParts [.cmp, .regs, .kpe, .eth] w v)
    ∧ (∀ b r, w.cmp.closed = b :: r → w.on Reg.CMP_CTL_VERIFY = true → b.stored = false → b.error = false → w.chp.faults = [] →
      ∃ v, exec (.cmpBlockRelease false t) s = .next v ∧ v.cmp.closed = r ∧ v.rd Reg.CMP_VFAIL_CNT = min (w.rd Reg.CMP_VFAIL_CNT + 1) (2 ^ 32 - 1)
        ∧ v.isolated .cmp = true)
    ∧ (∀ m u x y, commandable w m .cvu (some u) → w.cvuOwned u = true →
      exec (.cvuStart m u t) s = .next w.done ∧ exec (.cvuFinish m u t) s = .next w.done ∧ exec (.cvuReset m u t) s = .next w.done
        ∧ exec (.feed m u x t) s = .next w.done ∧ exec (.runWrite m u y t) s = .next w.done)
    ∧ (∀ m u, commandable w m .cvu (some u) → w.cvuOwned u = false → u < w.cvu.units.length → w.rd (Reg.CVU_U_FOLD u) = 0 →
      ∃ v, exec (.cvuStart m u t) s = .next v ∧ (v.cvuUnit u).state = .running ∧ (v.cvuUnit u).count = 0
        ∧ (v.cvuUnit u).run = (if w.rd (Reg.CVU_U_POLY u) = 1 then 0 else 0xFFFFFFFF)
        ∧ (v.cvuUnit u).dram = (w.rd (Reg.CVU_U_SRC u) == 1) ∧ onlyParts [.cvu, .bus] w v)
    ∧ (∀ m u x, commandable w m .cvu (some u) → w.cvuOwned u = false → (w.cvuUnit u).state = .running → w.rd (Reg.CVU_U_SRC u) = 0 →
      exec (.feed m u x t) s = .next (w.mapCvuUnit u (fun y => { y with
        run := cvuRun (w.rd (Reg.CVU_U_POLY u)) y.run [x.setWidth 8, (x >>> 8).setWidth 8, (x >>> 16).setWidth 8, (x >>> 24).setWidth 8]
        count := (y.count + 4) % 2 ^ 32 })).done)
    ∧ (∀ m u x, commandable w m .cvu (some u) → w.cvuOwned u = false →
      exec (.runWrite m u x t) s = .next (w.mapCvuUnit u (fun y => { y with state := .running, run := x })).done)
    ∧ (∀ m u, commandable w m .cvu (some u) → w.cvuOwned u = false →
      exec (.cvuReset m u t) s = .next (w.mapCvuUnit u (fun y => { y with state := .idle, dram := false })).done)
    ∧ (∀ m u, commandable w m .cvu (some u) → w.cvuOwned u = false → w.rd (Reg.CVU_U_POLY u) = 1 → w.on (Reg.CVU_U_CMP_EN u) = false → u < w.cvu.units.length →
      ∃ v, exec (.cvuFinish m u t) s = .next v ∧ v.cvuUnit u = { w.cvuUnit u with result := (w.cvuUnit u).run, state := .done, dram := false }
        ∧ onlyParts [.cvu, .regs, .bus] w v)
    ∧ (∀ m u, commandable w m .cvu (some u) → w.cvuOwned u = false → w.rd (Reg.CVU_U_POLY u) = 0 → w.on (Reg.CVU_U_CMP_EN u) = true → u < w.cvu.units.length →
        u < 8 → w.on (Reg.CVU_U_IRQ_EN u) = false →
      ∃ v, exec (.cvuFinish m u t) s = .next v ∧ (v.cvuUnit u).result = (((w.cvuUnit u).run.setWidth 32) ^^^ 0xFFFFFFFF#32).setWidth 64
        ∧ (v.cvuUnit u).state = .done
        ∧ (v.cvuUnit u).mismatch = ((((w.cvuUnit u).run.setWidth 32) ^^^ 0xFFFFFFFF#32).toNat != w.rd (Reg.CVU_U_EXPECT u))
        ∧ onlyParts [.cvu, .regs, .bus] w v)
    ∧ (∀ u, (w.cvuUnit u).state = .running → (w.cvuUnit u).dram = true → w.isolatedAt .cvu (some u) = false → u < w.cvu.units.length →
        w.rd (Reg.CVU_U_POLY u) = 1 → w.on (Reg.CVU_U_CMP_EN u) = false →
      ∃ v, exec (.cvuDramDone u t) s = .next v ∧ (v.cvuUnit u).state = .done ∧ (v.cvuUnit u).dram = false
        ∧ (v.cvuUnit u).count = w.rd (Reg.CVU_U_LEN u)
        ∧ (v.cvuUnit u).result = cvuRun 1 (w.cvuUnit u).run (w.dramBytes (w.rd (Reg.CVU_U_BASE u)) (w.rd (Reg.CVU_U_LEN u)))
        ∧ onlyParts [.cvu, .regs] w v)

/-- Whatever the samples, the predictor and a stride of at least 1, decoding the payload of a block by the predictions of R332 and the codes
of R333 gives the samples back. (R332: the coding is lossless.) -/
def Obligations.CompressionIsLossless : Prop :=
  ∀ (pred stride : Nat) (xs : List (BitVec 16)), 0 < stride → payloadSamples pred stride xs.length (cmpPayload pred stride xs) = xs

/-- A write to a trained sub-channel that is awake stores its bytes and counts; a read waits with the data of its line, in acceptance order; an
address beyond the usable space, or one DMC does not take, ends in BUS_ERROR; the read that is picked returns with its data and counts, and one
whose line carries an uncorrectable error is marked; an old request rises to class 1, an idle row closes, and scrub goes through the lines. -/
def Obligations.DramServesItsRequests : Prop :=
  ∀ (t : Instant) (s w : State), w = s.atT t → storeWf w.regs.live →
    (∀ id a bs p, w.dramTakes a = true → p = w.place a → (w.subCh p.sub).state = .active → 0 < bs.length → a % 64 + bs.length ≤ 64 → p.sub < 4 →
      ∃ v, exec (.dramRequest id a (some bs) t) s = .next v ∧ v.mems = { w.mems with dram := Store.setBytes w.mems.dram a bs }
        ∧ v.rd (Reg.DMC_WR_CNT p.sub) = min (w.rd (Reg.DMC_WR_CNT p.sub) + 1) (2 ^ 32 - 1) ∧ v.dmc.resp = []
        ∧ v.dmc.nextSeq = w.dmc.nextSeq ∧ onlyParts [.mems, .dmc, .regs, .bus] w v)
    ∧ (∀ id a p, w.dramTakes a = true → p = w.place a → (w.subCh p.sub).state = .active → p.sub < w.dmc.subs.length →
      ∃ v, exec (.dramRequest id a none t) s = .next v ∧ v.dmc.nextSeq = w.dmc.nextSeq + 1
        ∧ ((v.subCh p.sub).queue.getLast?).map (fun q => (q.seq, q.id, q.addr, q.cls, q.data, q.served))
            = some (w.dmc.nextSeq, id, a / 64 * 64, startClass id, w.dramBytes (a / 64 * 64) 64, false)
        ∧ onlyParts [.dmc, .bus] w v)
    ∧ (∀ id a d, w.dramTakes a = false → exec (.dramRequest id a d t) s = .next ({ w with dmc := { w.dmc with resp := [] } }).busErr)
    ∧ (∀ k q h, (w.subCh k).state = .active → w.pickRead k = some (q, h) → (w.dmc.subs.map (fun c => c.queue)).flatten = [q] →
        (w.dmc.subs.getD k {}).queue = [q] → q.served = false → q.bad = false → k < 4 → (w.place q.addr).sub = k →
      ∃ v, exec (.dramReadReturn k 0 t) s = .next v ∧ v.dmc.resp = [{ id := q.id, addr := q.addr, data := q.data, poison := false }]
        ∧ (v.subCh k).queue = [] ∧ v.rd (Reg.DMC_RD_CNT k) = min (w.rd (Reg.DMC_RD_CNT k) + 1) (2 ^ 32 - 1) ∧ v.mems = w.mems
        ∧ onlyParts [.dmc, .regs] w v)
    ∧ (∀ k q h, (w.subCh k).state = .active → w.pickRead k = some (q, h) → (w.dmc.subs.map (fun c => c.queue)).flatten = [q] →
        (w.dmc.subs.getD k {}).queue = [q] → q.served = false → q.newer = false → k < 4 → (w.place q.addr).sub = k →
      ∃ v, exec (.dramReadReturn k 2 t) s = .next v ∧ v.dmc.resp = [{ id := q.id, addr := q.addr, data := q.data, poison := true }]
        ∧ q.addr / 64 ∈ v.dmc.poison ∧ v.rd (Reg.DMC_UE_CNT k) = min (w.rd (Reg.DMC_UE_CNT k) + 1) (2 ^ 32 - 1)
        ∧ v.mems = w.mems ∧ onlyParts [.dmc, .regs, .evr] w v)
    ∧ (∃ v, exec (.requestAge t) s = .next v ∧ onlyParts [.dmc] w v
        ∧ v.dmc.subs.all (fun c => c.queue.all (fun q => decide (q.cls < 2) || decide (w.now < q.time + 10 ^ 7))) = true
        ∧ v.dmc.subs.map (fun c => c.queue.map (fun q => { q with cls := 0 })) = w.dmc.subs.map (fun c => c.queue.map (fun q => { q with cls := 0 })))
    ∧ (∃ v, exec (.rowIdleClose t) s = .next v ∧ onlyParts [.dmc] w v
        ∧ v.dmc.subs.map (fun c => c.openRows) = w.dmc.subs.map (fun c => c.openRows.filter (fun o => decide (w.now < o.2.2.2 + 10 ^ 6)))
        ∧ v.dmc.subs.map (fun c => c.queue) = w.dmc.subs.map (fun c => c.queue))
    ∧ (∀ p, w.on Reg.DMC_SCRUB_EN = true → w.dmc.closed = false → p = w.place (w.dmc.scrubLine * 64) → (w.subCh p.sub).state = .active →
        w.isolated .dmc = false → p.sub < 4 →
        w.dmc.scrubAt + max 1 (w.rd Reg.DMC_SCRUB_HOURS) * 3600 * 10 ^ 12 / (w.usableBytes / 64) ≤ w.now →
      ∃ v, exec (.scrubRead 0 t) s = .next v ∧ v.dmc.scrubAt = w.now ∧ v.dmc.scrubLine = (w.dmc.scrubLine + 1) % (w.usableBytes / 64)
        ∧ v.rd (Reg.DMC_RD_CNT p.sub) = min (w.rd (Reg.DMC_RD_CNT p.sub) + 1) (2 ^ 32 - 1) ∧ onlyParts [.dmc, .regs] w v)

/-- After a write of bytes within a line of a trained, awake sub-channel, every address the write covers reads as written, every other address of
the whole memory reads as before, and only a line written whole loses its poison. -/
def Obligations.DramWritesChangeTheirBytesAlone : Prop :=
  ∀ (t : Instant) (s w v : State) (id a : Nat) (bs : List Byte), w = s.atT t → storeWf w.mems.dram → w.dramTakes a = true →
    (w.subCh (w.place a).sub).state = .active → a % 64 + bs.length ≤ 64 → exec (.dramRequest id a (some bs) t) s = .next v →
    (∀ i, i < bs.length → v.dramByte (a + i) = bs.getD i 0)
      ∧ (∀ x, (x < a ∨ a + bs.length ≤ x) → v.dramByte x = w.dramByte x)
      ∧ (∀ l, l ∈ v.dmc.poison ↔ (l ∈ w.dmc.poison ∧ ¬(a ≤ 64 * l ∧ 64 * l + 64 ≤ a + bs.length)))
      ∧ storeWf v.mems.dram

/-- An interval adds to a rank's debt, and with no request waiting a refresh is issued at once; a refresh ends after tRFCab; MR4 is polled, a higher
rate takes effect at once and a lower one at the next interval; the window's end clears the trackers; an idle rank goes to power-down and an
idle sub-channel to self-refresh; TRAIN acts in TEST alone, and the last training leaves DRAM's contents undefined; a retraining closes its rank,
and ZQ calibration starts every 64 ms. -/
def Obligations.DramKeepsItsData : Prop :=
  ∀ (t : Instant) (s w : State) (k r : Nat) (c : SubChannel) (x : DramRank), w = s.atT t → k < 4 → k < w.dmc.subs.length → r < w.ranksFitted →
    r < c.ranks.length → c = w.subCh k → x = w.rank k r →
    (c.state = .active → x.intervalAt + rateInterval x.rate ≤ w.now → x.rateNext = none → x.debt = 0 → x.refreshAt = none → x.catchUp = none →
        w.rankWaits k r = false →
      ∃ v, exec (.refreshInterval k r t) s = .next v
        ∧ v.rank k r = { x with intervalAt := x.intervalAt + rateInterval x.rate, refreshAt := some w.now, powerDown := false, lastOfBurst := false }
        ∧ onlyParts [.dmc, .regs] w v)
    ∧ (∀ a, c.state = .active → x.refreshAt = some a → a + w.tRfc ≤ w.now → x.catchUp = none → x.debt = 0 →
      ∃ v, exec (.refreshComplete k r t) s = .next v ∧ v.rank k r = { x with refreshAt := none } ∧ onlyParts [.dmc] w v)
    ∧ (w.dmc.pollAt + (if w.fastPoll then 2 else 16) * 10 ^ 9 ≤ w.now → c.state = .active →
      ∃ v, exec (.mr4Poll t) s = .next v ∧ v.dmc.pollAt = w.now ∧ v.rank k r = { x with mr4Due := true } ∧ onlyParts [.dmc] w v)
    ∧ (x.mr4Due = true → x.rate = 0 → x.debt = 0 →
      ∃ v, exec (.mr4Result k r 4 true t) s = .next v ∧ v.rank k r = { x with mr4Due := false, rate := 1, rateNext := none, retrainDue := true }
        ∧ onlyParts [.dmc, .regs] w v)
    ∧ (x.mr4Due = true → x.rate = 1 →
      ∃ v, exec (.mr4Result k r 3 true t) s = .next v ∧ v.rank k r = { x with mr4Due := false, rateNext := some 0 } ∧ onlyParts [.dmc, .regs] w v)
    ∧ (x.mr4Due = true → exec (.mr4Result k r 3 false t) s = .next ((w.mapRank k r (fun y => { y with mr4Due := false })).blockFault .dmc none 3 0))
    ∧ (c.trained = true → x.windowAt + rateWindow x.rate ≤ w.now →
      ∃ v, exec (.rhWindowEnd k r t) s = .next v ∧ (v.subCh k).tracked = c.tracked.filter (fun y => y.rank != r)
        ∧ (v.subCh k).throttled = c.throttled.filter (fun y => y.1 != r) ∧ (v.rank k r).windowAt = x.windowAt + rateWindow x.rate
        ∧ onlyParts [.dmc] w v)
    ∧ (w.on Reg.DMC_SR_PD_EN = true → c.state = .active → x.debt = 0 → x.refreshAt = none → x.catchUp = none → w.rankWaits k r = false →
        x.usedAt + 128000000 / w.dramRate ≤ w.now →
      ∃ v, exec (.powerDownEntry k r t) s = .next v ∧ v.rank k r = { x with powerDown := true }
        ∧ (v.subCh k).openRows = c.openRows.filter (fun o => o.1 != r) ∧ onlyParts [.dmc] w v)
    ∧ (w.on Reg.DMC_SR_EN = true → c.state = .active → c.queue = [] → c.lastReq + max 1 (w.rd Reg.DMC_SR_IDLE_US) * 10 ^ 6 ≤ w.now →
        c.ranks.all (fun y => y.debt == 0) = true →
      ∃ v, exec (.selfRefreshEntry k t) s = .next v ∧ v.subCh k = { c with state := .srEntry, entryAt := w.now + 21000, openRows := [] }
        ∧ onlyParts [.dmc] w v)
    ∧ (c.state = .srEntry → c.entryAt ≤ w.now → c.ranks.all (fun y => y.debt == 0 && y.refreshAt.isNone) = true → w.maskedSegments = [] →
        storeWf w.regs.live = true →
      ∃ v, exec (.selfRefreshEntry k t) s = .next v ∧ (v.subCh k).state = .selfRefresh ∧ (v.subCh k).masked = [] ∧ v.mems = w.mems
        ∧ v.rd (Reg.DMC_SR_CNT k) = min (w.rd (Reg.DMC_SR_CNT k) + 1) (2 ^ 32 - 1) ∧ onlyParts [.dmc, .regs] w v)
    ∧ (∀ m, commandable w m .dmc none → w.chp.mode = .test →
      ∃ v, exec (.train m t) s = .next v ∧ v.dmc.subs.all (fun y => y.state == .training) = true ∧ onlyParts [.dmc, .bus] w v)
    ∧ (∀ m, commandable w m .dmc none → w.chp.mode ≠ .test → exec (.train m t) s = .next w.done)
    ∧ (c.state = .training → w.dmc.subs.length = 4 → (w.dmc.subs.set k {}).all (fun y => y.state != .training && y.state != .failed) = true →
      ∃ v, exec (.trainDone k 1 t) s = .next v ∧ (v.subCh k).state = .active ∧ v.dmc.poison = []
        ∧ v.dmc.lost = [{ lo := 0, hi := w.usableBytes, sub := none, draw := w.fresh }] ∧ v.fresh = w.fresh + 1
        ∧ onlyParts [.dmc, .regs, .mems, .fresh] w v)
    ∧ (∀ drift, (w.chp.mode = .service ∨ w.chp.mode = .test) → c.state = .active → x.retrainDue = true → drift ≤ w.rd Reg.DMC_RETRAIN_DRIFT_PS →
      ∃ v, exec (.retrain k r drift true t) s = .next v ∧ (v.rank k r).retrainDue = false ∧ (v.rank k r).retrainTo = w.now + 400000
        ∧ onlyParts [.dmc] w v)
    ∧ ((w.chp.mode = .service ∨ w.chp.mode = .test) → c.state = .active → x.zqAt + 64 * 10 ^ 9 ≤ w.now →
      exec (.zqCalibration k r t) s = .next (w.mapRank k r (fun y => { y with zqAt := w.now })))

/-- A cycle begins with its first enabled entry, for the preset's time; a trigger begins the injected sequence, and one while it runs is counted as
missed; a calibration begins at a command or its period, and at its end writes its factors and counts; a written factor is kept; a source whose
compliance fails opens its wire; a conversion's end publishes its corrected result. -/
def Obligations.ReferenceConvertsAndCalibrates : Prop :=
  ∀ (t : Instant) (s w : State), w = s.atT t → storeWf w.regs.live →
    (∀ c p, w.on Reg.REF_CTL_EN = true → w.ref.restarting = false → w.ref.cycleDone = true → w.ref.act = .idle → w.rd Reg.REF_SEQ_CTL_PERIOD_US = 0 →
        w.ref.freeAt ≤ w.now → w.on (Reg.REF_SEQ_EN 0) = true → c = w.rd (Reg.REF_SEQ_CH 0) → w.pairedOdd c = false → p = w.rd (Reg.REF_SEQ_PRESET 0) →
      ∃ v, exec (.sequenceCycleStart t) s = .next v ∧ v.ref.act = .regular ∧ v.ref.cycleDone = false ∧ v.ref.entry = 0 ∧ v.ref.cycleAt = w.ref.freeAt
        ∧ v.ref.conv = some { chan := c, preset := p, injected := false, startAt := w.ref.freeAt, endAt := w.ref.freeAt + (presetConv p).2, gain := w.gainOf c }
        ∧ onlyParts [.ref] w v)
    ∧ (∀ m c, commandable w m .ref none → w.rd Reg.REF_INJ_CTL_TRIG = 0 → w.ref.restarting = false → w.on Reg.REF_CTL_EN = true → w.ref.act = .idle →
        w.ref.injPending = false → w.ref.conv = none → w.on (Reg.REF_INJ_EN 0) = true → c = w.rd (Reg.REF_INJ_CH 0) → w.pairedOdd c = false →
      ∃ v, exec (.refInj m t) s = .next v ∧ v.ref.act = .injected
        ∧ (v.ref.conv.map (fun x => (x.chan, x.injected, x.startAt))) = some (c, true, w.now) ∧ onlyParts [.ref, .bus] w v)
    ∧ (∀ m, commandable w m .ref none → w.rd Reg.REF_INJ_CTL_TRIG = 0 → w.ref.restarting = false → w.on Reg.REF_CTL_EN = true → w.ref.act = .injected →
      exec (.refInj m t) s = .next ((w.event [Reg.REF_STAT_INJ_MISS]).bump Reg.REF_INJ_MISS_CNT).done)
    ∧ (∀ c, w.rd Reg.REF_INJ_CTL_TRIG = 2 → w.ref.tachDue = true → w.ref.restarting = false → w.on Reg.REF_CTL_EN = true → w.ref.act = .idle →
        w.ref.injPending = false → w.ref.conv = none → w.on (Reg.REF_INJ_EN 0) = true → c = w.rd (Reg.REF_INJ_CH 0) → w.pairedOdd c = false →
      ∃ v, exec (.injTrigger t) s = .next v ∧ v.ref.act = .injected ∧ v.ref.tachDue = false
        ∧ (v.ref.conv.map (fun x => (x.chan, x.injected, x.startAt))) = some (c, true, w.now) ∧ onlyParts [.ref] w v)
    ∧ (∀ m, commandable w m .ref none → w.ref.restarting = false → w.ref.act = .idle → w.ref.calPending = false → w.ref.conv = none →
      exec (.refCal m t) s = .next ({ w with ref := { w.ref with restarts := 0, act := .calibrating, calAt := w.now } }).done)
    ∧ (w.rd Reg.REF_CAL_CTL_PERIOD_S ≠ 0 → w.ref.calPeriodAt + w.rd Reg.REF_CAL_CTL_PERIOD_S * 10 ^ 12 ≤ w.now → w.isolated .ref = false →
        w.ref.restarting = false → w.ref.act = .idle → w.ref.calPending = false → w.ref.conv = none →
      exec (.refCalPeriod t) s
        = .next { w with ref := { w.ref with restarts := 0, act := .calibrating, calAt := w.now, calPeriodAt := w.now } })
    ∧ (∀ off gain iexc g a b, w.ref.act = .calibrating → w.ref.calAt + 1536 * 10 ^ 6 ≤ w.now → w.ref.injPending = false → w.ref.cycleDone = true →
        (List.range 8).all (fun g => (off.getD g none).isSome && (gain.getD g none).isSome) = true → (List.range 12).all (fun c => !w.excited c) = true →
        g < 8 → off.getD g none = some a → gain.getD g none = some b → a < 2 ^ 24 → b < 2 ^ 24 →
      ∃ v, exec (.refCalDone off gain iexc t) s = .next v ∧ v.rd (Reg.REF_OFF g) = a ∧ v.rd (Reg.REF_GAIN g) = b ∧ v.ref.act = .idle ∧ v.ref.calOk = true
        ∧ v.rd Reg.REF_CAL_CNT = min (w.rd Reg.REF_CAL_CNT + 1) (2 ^ 32 - 1) ∧ onlyParts [.ref, .regs] w v)
    ∧ (∀ m g x, commandable w m .ref none → g < 16 →
      ∃ v, exec (.refFactorWrite m (0x520800 + 4 * g) x t) s = .next v ∧ v.live (0x520800 + 4 * g) = x &&& 0xFFFFFF#32 ∧ onlyParts [.regs, .bus] w v)
    ∧ (∀ c, c < 12 → c < w.ref.chans.length → w.excited c = true → w.pairedOdd c = false → (w.refChan c).compliance = false →
        (w.refChan c).openWire = false → w.ref.restarting = false → w.ref.conv = none →
      ∃ v, exec (.complianceOpen c true t) s = .next v ∧ (v.refChan c).openWire = true ∧ (v.refChan c).compliance = true
        ∧ (v.refChan c).reason = .openWire ∧ v.rd (Reg.REF_C_OPEN_CNT c) = min (w.rd (Reg.REF_C_OPEN_CNT c) + 1) (2 ^ 32 - 1)
        ∧ onlyParts [.ref, .regs, .dts, .src, .fresh] w v)
    ∧ (∀ c, (w.refChan c).compliance = true →
      exec (.complianceOpen c false t) s = .next (w.mapRefChan c (fun x => { x with compliance := false, complianceAt := w.now })))
    ∧ (∀ sum x n, w.ref.conv = some x → x.endAt ≤ w.now → x.injected = false → x.chan < 16 → x.chan < w.ref.chans.length → n = (presetConv x.preset).1 →
        (w.refChan x.chan).discard = false → (w.refChan x.chan).openWire = false → w.rd (Reg.REF_C_MED x.chan) = 0 → w.rd (Reg.REF_C_AUTO x.chan) = 0 →
        w.rd (Reg.REF_C_CURVE x.chan) = 0 → w.rd (Reg.REF_OFF x.gain) = 0 → w.rd (Reg.REF_GAIN x.gain) = 0x400000 → x.gain < 8 → x.chan ≠ 12 →
      ∃ v, exec (.conversionEnd sum 0 0 t) s = .next v ∧ v.rd (Reg.REF_C_RAW x.chan) = wrapN 24 ((sum * 64).tdiv n)
        ∧ v.rd (Reg.REF_C_G x.chan) = x.gain ∧ (v.refChan x.chan).reason = .valid
        ∧ v.rd (Reg.REF_C_RSEQ x.chan) = (w.rd (Reg.REF_C_RSEQ x.chan) + 1) % 65536
        ∧ v.rd (Reg.REF_C_CONV_CNT x.chan) = min (w.rd (Reg.REF_C_CONV_CNT x.chan) + 1) (2 ^ 32 - 1)
        ∧ onlyParts [.ref, .regs, .dts, .src, .fresh] w v)

/-- An edge within its input's hold-off is ignored; an accepted edge completes and restarts the interval of a PERIOD unit that it starts, with the
4 ns counts between them, and starts an ARMED INTERVAL unit; an interval of 2³² counts overflows, a rate without edges becomes stale, and
ARM and DISARM move an INTERVAL unit that is on. -/
def Obligations.TimeIntervalUnitsMeasure : Prop :=
  ∀ (t : Instant) (s w : State), w = s.atT t → storeWf w.regs.live →
    (∀ n up l, w.tiu.lastEdge.getD n none = some l → w.now / 4000 < l + w.rd (Reg.TIU_IN_HOLDOFF n) → exec (.tachEdge n up t) s = .next w)
    ∧ (∀ n up u x c, n < 4 → u < 4 → w.tiu.units.length = 4 → w.tiu.lastEdge.getD n none = none → w.isolated .tiu = false → x = w.tiuUnit u →
        c = w.now / 4000 → x.state = .running → x.startCount ≤ c → c < x.startCount + 2 ^ 32 → w.on (Reg.TIU_U_MODE u) = false →
        w.rd (Reg.TIU_U_START u) = n + (if up then 0 else 4) → x.results = [] → w.pwr.fallback = false → x.startCount + 4 ≤ c →
      ∃ v, exec (.tachEdge n up t) s = .next v ∧ v.rd (Reg.TIU_U_RESULT u) = c - x.startCount ∧ (v.tiuUnit u).state = .running
        ∧ (v.tiuUnit u).startCount = c ∧ v.rd (Reg.TIU_U_RATE u) = min (250000000 * 65536 / (c - x.startCount)) 0xFFFFFFFF
        ∧ v.rd (Reg.TIU_U_STOP_TIME u) = w.devTime % 2 ^ 64
        ∧ v.rd (Reg.TIU_U_MEAS_CNT u) = min (w.rd (Reg.TIU_U_MEAS_CNT u) + 1) (2 ^ 32 - 1) ∧ v.tiu.lastEdge = modAt w.tiu.lastEdge n (fun _ => some c)
        ∧ onlyParts [.tiu, .regs, .ref] w v)
    ∧ (∀ n up u x c, n < 4 → u < 4 → w.tiu.units.length = 4 → w.tiu.lastEdge.getD n none = none → w.isolated .tiu = false → x = w.tiuUnit u →
        c = w.now / 4000 → x.state = .armed → x.earlyCount = none → w.on (Reg.TIU_U_MODE u) = true → w.rd (Reg.TIU_U_START u) = n + (if up then 0 else 4) →
        edgeIs (w.rd (Reg.TIU_U_STOP u)) n up = false →
      ∃ v, exec (.tachEdge n up t) s = .next v ∧ (v.tiuUnit u).state = .running ∧ (v.tiuUnit u).startCount = c
        ∧ v.rd (Reg.TIU_U_RESULT u) = w.rd (Reg.TIU_U_RESULT u) ∧ onlyParts [.tiu, .regs, .ref] w v)
    ∧ (∀ u, u < 4 → u < w.tiu.units.length → (w.tiuUnit u).state = .running → (w.tiuUnit u).startCount + 2 ^ 32 ≤ w.now / 4000 → w.isolated .tiu = false →
      ∃ v, exec (.tiuOverflow u t) s = .next v ∧ v.rd (Reg.TIU_U_RESULT u) = 0xFFFFFFFF ∧ v.rd (Reg.TIU_U_OVF u) = 1
        ∧ (v.tiuUnit u).rateValid = false ∧ (v.tiuUnit u).state ≠ .running
        ∧ v.rd (Reg.TIU_U_OVF_CNT u) = min (w.rd (Reg.TIU_U_OVF_CNT u) + 1) (2 ^ 32 - 1) ∧ onlyParts [.tiu, .regs] w v)
    ∧ (∀ u l, (w.tiuUnit u).rateValid = true → w.isolated .tiu = false → w.tiu.lastEdge.getD (w.rd (Reg.TIU_U_START u) % 4) none = some l →
        l * 4000 + max 1 (w.rd (Reg.TIU_U_TIMEOUT u)) * 10 ^ 9 ≤ w.now →
      exec (.rateTimeout u t) s
        = .next ((w.mapTiuUnit u (fun x => { x with rateValid := false, results := [] })).event [Reg.TIU_STAT_STALE.bit u]))
    ∧ (∀ m u, commandable w m .tiu none → w.on (Reg.TIU_U_MODE u) = true → (w.tiuUnit u).state ≠ .off →
      exec (.tiuArm m u t) s = .next (w.mapTiuUnit u (fun x => { x with state := .armed, earlyCount := none })).done
        ∧ exec (.tiuDisarm m u t) s = .next (w.mapTiuUnit u (fun x => { x with state := .idle, earlyCount := none })).done)
    ∧ (∀ m u, commandable w m .tiu none → (w.on (Reg.TIU_U_MODE u) = false ∨ (w.tiuUnit u).state = .off) →
      exec (.tiuArm m u t) s = .next w.done ∧ exec (.tiuDisarm m u t) s = .next w.done)

/-- A MAC that is not UP receives nothing; a frame with a bad FCS or length is counted as an error, one with another VLAN state or destination
as filtered; an ARP request and an echo request to the MAC's IP are answered, echoes up to 1 000 a second; a datagram to the KP port is left to
KPE, one of PTP enters the queue of 32 with its corrected receive time, and any other is dropped and counted. A MAC that goes down discards
its queue and starts again; one that comes up reports it and sends a gratuitous ARP; a PTP frame sent leaves its transmit time in a FIFO of
16, whose head TS_POP removes. -/
def Obligations.EthernetMacsServeFrames : Prop :=
  ∀ (t : Instant) (s w : State) (m : Nat), w = s.atT t → m < 4 → w.eth.macs.length = 4 → storeWf w.regs.live →
    (∀ f, (w.mac m).state ≠ .up → exec (.frameReceive m f t) s = .next w)
    ∧ (∀ f, (w.mac m).state = .up → (f.fcsOk = false ∨ f.len < 64 ∨ w.maxFrame m < f.len) →
      exec (.frameReceive m f t) s = .next (w.bump (Reg.ETH_M_RX_ERR_CNT m)))
    ∧ (∀ f, (w.mac m).state = .up → f.fcsOk = true → 64 ≤ f.len → f.len ≤ w.maxFrame m → (w.vlanOk m f = false ∨ f.dest = .other) →
      exec (.frameReceive m f t) s = .next (w.bump (Reg.ETH_M_RX_FILTER_CNT m)))
    ∧ (∀ f asker, frameTaken w m f → f.dest ≠ .ptp → w.rd (Reg.ETH_M_IP m) ≠ 0 → f.body = .arp asker (w.rd (Reg.ETH_M_IP m)) →
      ∃ v, exec (.frameReceive m f t) s = .next v ∧ (v.mac m).tx.getLast? = some (.arpReply f.eth asker, false)
        ∧ v.rd (Reg.ETH_M_RX_FRAME_CNT m) = min (w.rd (Reg.ETH_M_RX_FRAME_CNT m) + 1) (2 ^ 32 - 1) ∧ onlyParts [.eth, .regs] w v)
    ∧ (∀ f src data, frameTaken w m f → f.dest = .own → w.rd (Reg.ETH_M_IP m) ≠ 0 →
        f.body = .echo src (w.rd (Reg.ETH_M_IP m)) true true data → ((w.mac m).icmpSec ≠ w.now / sec ∨ (w.mac m).icmpCount < 1000) →
      ∃ v, exec (.frameReceive m f t) s = .next v ∧ (v.mac m).tx.getLast? = some (.echoReply f.eth src data, false)
        ∧ (v.mac m).icmpSec = w.now / sec
        ∧ (v.mac m).icmpCount = (if (w.mac m).icmpSec = w.now / sec then (w.mac m).icmpCount else 0) + 1
        ∧ v.rd (Reg.ETH_M_RX_FRAME_CNT m) = min (w.rd (Reg.ETH_M_RX_FRAME_CNT m) + 1) (2 ^ 32 - 1) ∧ onlyParts [.eth, .regs] w v)
    ∧ (∀ f src data, frameTaken w m f → f.dest = .own → w.rd (Reg.ETH_M_IP m) ≠ 0 →
        f.body = .echo src (w.rd (Reg.ETH_M_IP m)) true true data → (w.mac m).icmpSec = w.now / sec → 1000 ≤ (w.mac m).icmpCount →
      exec (.frameReceive m f t) s = .next ((w.bump (Reg.ETH_M_RX_FRAME_CNT m)).bump (Reg.ETH_M_ICMP_DROP_CNT m)))
    ∧ (∀ f src sport data, frameTaken w m f → f.dest = .own → w.rd (Reg.ETH_M_IP m) ≠ 0 →
        f.body = .udp src (w.rd (Reg.ETH_M_IP m)) sport (w.rd Reg.ETH_KP_PORT) true true true data →
      exec (.frameReceive m f t) s = .next (w.bump (Reg.ETH_M_RX_FRAME_CNT m)))
    ∧ (∀ f src sport data, frameTaken w m f → f.dest = .ptp → w.on Reg.ETH_PTP_EN = true →
        f.body = .udp src 0xE0000181 sport 319 true true true data → (w.mac m).ptpRx.length < 32 →
      ∃ v, exec (.frameReceive m f t) s = .next v
        ∧ v.eth = { w.eth with macs := modAt w.eth.macs m (fun x =>
          { x with ptpRx := x.ptpRx ++ [(data, (w.devTime : Int) - w.rd (Reg.ETH_M_RXLAT m))] }) }
        ∧ v.rd (Reg.ETH_M_RX_FRAME_CNT m) = min (w.rd (Reg.ETH_M_RX_FRAME_CNT m) + 1) (2 ^ 32 - 1) ∧ onlyParts [.eth, .regs] w v)
    ∧ (∀ f src sport data, frameTaken w m f → f.dest = .ptp → w.on Reg.ETH_PTP_EN = true →
        f.body = .udp src 0xE0000181 sport 320 true true true data → 32 ≤ (w.mac m).ptpRx.length →
      exec (.frameReceive m f t) s
        = .next (((w.bump (Reg.ETH_M_RX_FRAME_CNT m)).bump (Reg.ETH_M_PTP_DROP_CNT m)).event [Reg.ETH_STAT_PTP_DROP]))
    ∧ (∀ f src dst sport dport hdr sum data, frameTaken w m f → f.body = .udp src dst sport dport false hdr sum data →
      exec (.frameReceive m f t) s = .next ((w.bump (Reg.ETH_M_RX_FRAME_CNT m)).bump (Reg.ETH_M_RX_FILTER_CNT m)))
    ∧ (∀ f src dst sport dport hdr data, frameTaken w m f → f.body = .udp src dst sport dport true hdr false data →
      exec (.frameReceive m f t) s = .next ((w.bump (Reg.ETH_M_RX_FRAME_CNT m)).bump (Reg.ETH_M_RX_ERR_CNT m)))
    ∧ (∀ f, frameTaken w m f → f.body = .other →
      exec (.frameReceive m f t) s = .next ((w.bump (Reg.ETH_M_RX_FRAME_CNT m)).bump (Reg.ETH_M_RX_FILTER_CNT m)))
    ∧ (∀ hi, (w.mac m).state = .up → pathUnused w m →
      ∃ v, exec (.macDown m hi t) s = .next v ∧ (v.mac m).state = (if w.on (Reg.ETH_CFG_AN_EN (m / 2)) then .an else .train)
        ∧ (v.mac m).tx = [] ∧ (v.mac m).hiSer = hi
        ∧ v.rd (Reg.ETH_M_TX_DISCARD_CNT m) = min (w.rd (Reg.ETH_M_TX_DISCARD_CNT m) + (w.mac m).tx.length) (2 ^ 32 - 1)
        ∧ v.rd (Reg.ETH_M_LINK_DOWN_CNT m) = min (w.rd (Reg.ETH_M_LINK_DOWN_CNT m) + 1) (2 ^ 32 - 1)
        ∧ v.eth = { w.eth with macs := modAt w.eth.macs m (fun x => { x with state := (v.mac m).state, tx := [], hiSer := hi }) }
        ∧ (w.macLanes m).all (fun n => decide (w.lan.lanes.length ≤ n) || ((v.lane n).state == .detect && !(v.lane n).signal)) = true
        ∧ onlyParts [.eth, .lan, .regs] w v)
    ∧ (∀ pre taps, w.macUsed m = true → w.lanesRun = true → (w.mac m).state ≠ .up → w.isolatedAt .eth (some (m / 2)) = false →
        w.lan.lanes.length = 4 → w.rd (Reg.ETH_M_IP m) ≠ 0 →
      ∃ v, exec (.macUp m pre taps t) s = .next v ∧ (v.mac m).state = .up ∧ (v.mac m).hiSer = false
        ∧ (v.mac m).tx.getLast? = some (.gratuitousArp, false)
        ∧ (w.macLanes m).all (fun n => (v.lane n).state == .active && (v.lane n).signal && (v.lane n).preTx == pre
          && v.rd (Reg.LAN_TRAIN_CNT n) == min (w.rd (Reg.LAN_TRAIN_CNT n) + 1) (2 ^ 32 - 1)) = true
        ∧ onlyParts [.eth, .lan, .regs] w v)
    ∧ (∀ mr, commandable w mr .eth (some (m / 2)) →
      exec (.tsPop mr m t) s
        = .next ({ w with eth := { w.eth with macs := modAt w.eth.macs m (fun x => { x with ts := x.ts.drop 1 }) } }).done)
    ∧ (∀ q y, (w.mac m).state = .up → w.on Reg.ETH_PTP_EN = true → (w.mac m).ts.length < 16 → q < 2 ^ 16 → y < 16 →
      ∃ v, exec (.ptpFrameSend m q y t) s = .next v
        ∧ v.eth = { w.eth with macs := modAt w.eth.macs m (fun x =>
          { x with ts := x.ts ++ [(q, y, w.devTime + w.rd (Reg.ETH_M_TXLAT m))] }) }
        ∧ v.rd (Reg.ETH_M_TX_FRAME_CNT m) = min (w.rd (Reg.ETH_M_TX_FRAME_CNT m) + 1) (2 ^ 32 - 1) ∧ onlyParts [.eth, .regs] w v)
    ∧ (∀ q y, (w.mac m).state = .up → w.on Reg.ETH_PTP_EN = true → 16 ≤ (w.mac m).ts.length →
      exec (.ptpFrameSend m q y t) s = .next ((w.bump (Reg.ETH_M_TX_FRAME_CNT m)).event [Reg.ETH_STAT_TS_OVF]))

/-- A far end that a probe finds is noted, and 1 ms later the course trains the lanes found; a training frame steps the taps it asks for, and
with the last lane ready the course locks; eight good codewords lock a lane, and with RX_LOCKED from the peer the course goes to CAPS; there
this end sends its CAPS, and with CAPS acknowledged both ways the course is ACTIVE at the width of its lanes; another version takes it DOWN
for 1 s. Training, lock and CAPS that take too long go back; a lane of an ACTIVE course that is lost leaves the other at width 1 with a
replay, a lost lane that is found is trained alone, and the course returns to width 2 at LANE_LOCKED; DORMANT is left by WAKE and by the
detector. -/
def Obligations.PeerLinkComesUpAndFallsBack : Prop :=
  ∀ (t : Instant) (s w : State), w = s.atT t → w.lan.lanes.length = 4 → storeWf w.regs.live →
    (∀ n, w.plLane n = true → w.lan.course.state = .detect → (w.lane n).state = .detect →
      exec (.plDetectProbe n true t) s = .next { w with lan := {
        lanes := modAt w.lan.lanes n (fun l => { l with found := true })
        course := { w.lan.course with foundAt := some (w.lan.course.foundAt.getD w.now) } } })
    ∧ (∀ n, w.plLane n = true → w.lan.course.state = .active → (w.lane n).state = .lost →
      ∃ v, exec (.plDetectProbe n true t) s = .next v ∧ (v.lane n).state = .train ∧ (v.lane n).since = w.now ∧ (v.lane n).found = true
        ∧ v.lan.course = w.lan.course ∧ (v.lane (5 - n)) = w.lane (5 - n) ∧ onlyParts [.lan] w v)
    ∧ (∀ a, w.lan.course.state = .detect → w.lan.course.foundAt = some a → a + ms ≤ w.now →
      ∃ v, exec (.plTrainStart t) s = .next v ∧ v.lan.course.state = .train ∧ v.lan.course.since = w.now
        ∧ courseLanes.all (fun n => if (w.lane n).found then (v.lane n).state == .train && (v.lane n).since == w.now
          else v.lane n == w.lane n) = true ∧ onlyParts [.lan] w v)
    ∧ (∀ n control status r i, w.plLane n = true → (w.lane n).state = .train → control.testBit 10 = false → control.testBit 8 = false →
        (w.lane n).taps.length = 4 → i < 4 →
      ∃ v, exec (.plTrainingFrame n control status r t) s = .next v
        ∧ (v.lane n).taps.getD i 0
          = (if control / 4 ^ i % 4 = 1 ∧ (w.lane n).taps.getD i 0 ≠ 0x7F then (w.lane n).taps.getD i 0 + 1
            else if control / 4 ^ i % 4 = 2 ∧ (w.lane n).taps.getD i 0 ≠ 0x80 then (w.lane n).taps.getD i 0 - 1
            else (w.lane n).taps.getD i 0)
        ∧ (v.lane n).state = .train ∧ (v.lane n).readyRun = 0 ∧ (v.lane n).signal = true ∧ (v.lane n).preTx = control.testBit 9
        ∧ (v.lane n).preRx = status.testBit 8 ∧ v.rd (Reg.LAN_TXEQ n) = leNat (v.lane n).taps ∧ onlyParts [.lan, .regs] w v)
    ∧ (∀ n control status, w.plLane n = true → w.lan.course.state = .train → w.lanesIn .train = [n] → control.testBit 10 = true →
        7 ≤ (w.lane n).readyRun → 7 ≤ (w.lane n).readyTx →
      ∃ v, exec (.plTrainingFrame n control status true t) s = .next v ∧ v.lan.course.state = .lock ∧ (v.lane n).state = .lock
        ∧ v.rd (Reg.LAN_TRAIN_CNT n) = min (w.rd (Reg.LAN_TRAIN_CNT n) + 1) (2 ^ 32 - 1) ∧ onlyParts [.lan, .regs] w v)
    ∧ (w.lan.course.state = .train → w.lan.course.since + 100 * ms ≤ w.now →
      ∃ v, exec (.plTrainTimeout t) s = .next v ∧ v.lan.course.state = .detect
        ∧ courseLanes.all (fun n => (v.lane n).state == .detect
          && v.rd (Reg.LAN_TRAIN_FAIL_CNT n) == min (w.rd (Reg.LAN_TRAIN_FAIL_CNT n) + (if (w.lane n).state = .train then 1 else 0)) (2 ^ 32 - 1))
          = true ∧ onlyParts [.lan, .regs] w v)
    ∧ (∀ n, w.lan.course.state = .active → w.lanesIn .train = [n] → (w.lane n).since + 100 * ms ≤ w.now →
      ∃ v, exec (.plTrainTimeout t) s = .next v ∧ v.lan.course = w.lan.course ∧ (v.lane n).state = .lost
        ∧ v.rd (Reg.LAN_TRAIN_FAIL_CNT n) = min (w.rd (Reg.LAN_TRAIN_FAIL_CNT n) + 1) (2 ^ 32 - 1) ∧ onlyParts [.lan, .regs] w v)
    ∧ (∀ n flags k c, w.plLane n = true → w.lan.course.state = .lock → w.lanesIn .lock = [n] → 7 ≤ (w.lane n).goodRun → k < 256 →
      ∃ v, exec (.plCodeword n true true flags k c t) s = .next v ∧ v.lan.course.state = (if flags.testBit 0 then .caps else .lock)
        ∧ (v.lane n).locked = true ∧ (v.lane n).spareIdx = k ∧ (v.lane n).peerLocked = flags.testBit 1
        ∧ v.rd (Reg.LAN_CORR_CNT n) = min (w.rd (Reg.LAN_CORR_CNT n) + c) (2 ^ 32 - 1) ∧ onlyParts [.lan, .regs] w v)
    ∧ (∀ n k c, w.plLane n = true → w.lan.course.state = .active → (w.lane n).state = .active → (w.lane n).badRun = 3 →
        (w.lane (5 - n)).state = .active →
      ∃ v, exec (.plCodeword n false false k 0 c t) s = .next v ∧ v.lan.course.state = .active ∧ (v.lane n).state = .lost
        ∧ v.lan.course.width = min 1 w.lan.course.width ∧ v.lan.course.replayLeft = w.lan.course.retry.length
        ∧ v.lan.course.retry = w.lan.course.retry ∧ v.lane (5 - n) = w.lane (5 - n)
        ∧ v.rd (Reg.LAN_UNCORR_CNT n) = min (w.rd (Reg.LAN_UNCORR_CNT n) + 1) (2 ^ 32 - 1)
        ∧ v.rd Reg.LAN_DEGRADE_CNT = min (w.rd Reg.LAN_DEGRADE_CNT + 1) (2 ^ 32 - 1) ∧ onlyParts [.lan, .regs] w v)
    ∧ (w.lan.course.state = .lock → w.lan.course.since + ms ≤ w.now →
      ∃ v, exec (.plLockTimeout t) s = .next v ∧ v.lan.course.state = .train ∧ v.lan.course.since = w.now ∧ onlyParts [.lan] w v)
    ∧ (w.lan.course.state = .caps → w.lan.course.capsRx = false → w.lan.course.capsSentAcked = false →
      ∃ v, exec (.plCapsSend t) s = .next v ∧ v.lan.course.state = .caps ∧ v.lan.lanes = w.lan.lanes
        ∧ v.lan.course.ctrlTx.getLast? = some (3, (w.lan.course.nextRx + 4095) % 4096,
          leBytes 1 1 ++ leBytes 1 1 ++ leBytes 2 0x5064 ++ leBytes 8 w.serial ++ leBytes 2 1024 ++ [0, 0] ++ leBytes 2 w.lan.course.nextRx)
        ∧ onlyParts [.lan] w v)
    ∧ (w.lan.course.state = .caps → w.lan.course.capsRx = true → w.lan.course.capsAcked = true →
      ∃ v, exec (.plCapsSend t) s = .next v ∧ v.lan.course.state = .active ∧ v.lan.course.width = (w.lanesIn .lock).length
        ∧ v.lan.course.retry = w.lan.course.retry ∧ (w.lanesIn .lock).all (fun n => (v.lane n).state == .active) = true
        ∧ onlyParts [.lan, .regs] w v)
    ∧ (∀ f, w.lan.course.state = .caps → f.ok = true → f.type = 3 → f.top = false → f.payload.getD 0 0 = 1 → f.payload.getD 1 0 ≠ 1 →
      ∃ v, exec (.plFlitReceive f t) s = .next v ∧ v.lan.course.state = .down ∧ v.lan.course.hold = true ∧ v.lan.course.since = w.now
        ∧ courseLanes.all (fun n => (v.lane n).state == .off) = true ∧ onlyParts [.lan, .regs] w v)
    ∧ (w.lan.course.state = .caps → w.lan.course.since + 10 * ms ≤ w.now →
      ∃ v, exec (.plCapsTimeout t) s = .next v ∧ v.lan.course.state = .detect ∧ courseLanes.all (fun n => (v.lane n).state == .detect) = true
        ∧ onlyParts [.lan] w v)
    ∧ (w.lan.course.hold = true → w.lan.course.state = .down → w.lan.course.since + sec ≤ w.now → w.plEnabled = true →
      ∃ v, exec (.plDownHoldEnd t) s = .next v ∧ v.lan.course.state = .detect ∧ v.lan.course.hold = false ∧ onlyParts [.lan] w v)
    ∧ (∀ n, w.plLane n = true → w.lan.course.state = .active → w.lan.course.rxQuiet = false → (w.lane n).state = .active →
        (w.lane (5 - n)).state = .active →
      ∃ v, exec (.plLaneLost n t) s = .next v ∧ v.lan.course.state = .active ∧ (v.lane n).state = .lost
        ∧ v.lan.course.width = min 1 w.lan.course.width ∧ v.lan.course.replayLeft = w.lan.course.retry.length
        ∧ v.rd (Reg.LAN_LOCK_LOSS_CNT n) = min (w.rd (Reg.LAN_LOCK_LOSS_CNT n) + 1) (2 ^ 32 - 1) ∧ onlyParts [.lan, .regs] w v)
    ∧ (∀ n, w.plLane n = true → w.lan.course.state = .active → w.lan.course.rxQuiet = false → (w.lane n).state = .active →
        (w.lane (5 - n)).state = .lost → pathUnused w 4 →
      ∃ v, exec (.plLaneLost n t) s = .next v ∧ v.lan.course.state = .detect ∧ v.lan.course.retry = w.lan.course.retry
        ∧ onlyParts [.lan, .regs] w v)
    ∧ (∀ n, w.lan.course.state = .active → w.lan.course.width = 1 → w.lan.course.rxWidth = 2 → w.lanesIn .lock = [n] →
        (w.lane n).peerLocked = true →
      ∃ v, exec (.plWidthRestore t) s = .next v ∧ v.lan.course = { w.lan.course with width := 2 } ∧ (v.lane n).state = .active
        ∧ v.rd Reg.LAN_RESTORE_CNT = min (w.rd Reg.LAN_RESTORE_CNT + 1) (2 ^ 32 - 1) ∧ onlyParts [.lan, .regs] w v)
    ∧ (∀ m, commandable w m .lan none → w.lan.course.state = .active →
      ∃ v, exec (.plSleep m t) s = .next v ∧ v.lan.course.dormantReq = true ∧ v.lan.course.state = .active
        ∧ v.lan.course.ctrlTx.getLast? = some (3, (w.lan.course.nextRx + 4095) % 4096, [3]) ∧ onlyParts [.lan, .bus] w v)
    ∧ (∀ m, commandable w m .lan none → w.lan.course.state = .dormant →
      ∃ v, exec (.plWake m t) s = .next v ∧ v.lan.course.state = .detect ∧ v.lan.course.txQueue = w.lan.course.txQueue
        ∧ onlyParts [.lan, .bus] w v)
    ∧ (w.lan.course.state = .dormant →
      ∃ v, exec (.plWakeDetect t) s = .next v ∧ v.lan.course.state = .detect ∧ v.lan.course.txQueue = w.lan.course.txQueue
        ∧ onlyParts [.lan] w v)

/-- A sender within its credits and its retry buffer of 512 sends the waiting packets as DATA, which it keeps until acknowledged, and otherwise
IDLE; flits to be replayed go first. The expected DATA flit is accepted, a duplicate is discarded, and the first bad or out-of-order flit draws
one NAK; an ACK frees what it acknowledges and CRD returns credits; a NAK, or 4 µs without an advance, replays every unacknowledged flit, and
after 16 replays the course trains again with its retry buffer kept. A sender that has been idle goes quiet; DORMANT is agreed by both ends. -/
def Obligations.PeerLinkCarriesFlits : Prop :=
  ∀ (t : Instant) (s w : State) (c : Course), w = s.atT t → w.lan.lanes.length = 4 → c = w.lan.course → storeWf w.regs.live →
    (c.state = .active → c.replayLeft ≠ 0 → c.txQuiet = false →
      ∃ v, exec (.plFlitSend t) s = .next v ∧ v.lan.course.replayLeft = c.replayLeft - 1 ∧ v.lan.course.retry = c.retry
        ∧ v.lan.course.nextTx = c.nextTx ∧ v.lan.course.credits = c.credits
        ∧ v.rd Reg.LAN_REPLAY_CNT = min (w.rd Reg.LAN_REPLAY_CNT + 1) (2 ^ 32 - 1) ∧ onlyParts [.lan, .regs] w v)
    ∧ (∀ p r, c.state = .active → c.replayLeft = 0 → c.txQueue = p :: r → c.txStarted = false → p ≠ [] → p.length ≤ 235 → r = [] →
        c.credits ≠ 0 → c.retry.length < 512 →
      ∃ v, exec (.plFlitSend t) s = .next v ∧ v.lan.course.retry = c.retry ++ [{ seq := c.nextTx, segs := [(p, true, true, 0)] }]
        ∧ v.lan.course.nextTx = (c.nextTx + 1) % 4096 ∧ v.lan.course.credits = c.credits - 1 ∧ v.lan.course.txQueue = []
        ∧ v.lan.course.txQuiet = false
        ∧ v.rd Reg.LAN_TX_DATA_CNT = min (w.rd Reg.LAN_TX_DATA_CNT + 1) (2 ^ 32 - 1) ∧ onlyParts [.lan, .regs] w v)
    ∧ (c.state = .active → c.replayLeft = 0 → (c.txQueue = [] ∨ c.credits = 0 ∨ 512 ≤ c.retry.length) → c.txQuiet = false →
      ∃ v, exec (.plFlitSend t) s = .next v ∧ v.lan.course.ctrlTx.getLast? = some (0, (c.nextRx + 4095) % 4096, [])
        ∧ v.lan.course.retry = c.retry ∧ v.lan.course.txQueue = c.txQueue ∧ v.lan.course.busyAt = c.busyAt ∧ onlyParts [.lan] w v)
    ∧ (∀ f, c.state = .active → (f.ok = false ∨ 4 ≤ f.type ∨ f.top = true) → c.nakSent = false →
      ∃ v, exec (.plFlitReceive f t) s = .next v ∧ v.lan.course.nakSent = true ∧ v.lan.course.nextRx = c.nextRx
        ∧ v.lan.course.ctrlTx.getLast? = some (2, (c.nextRx + 4095) % 4096, [])
        ∧ v.rd Reg.LAN_CRC_CNT = min (w.rd Reg.LAN_CRC_CNT + 1) (2 ^ 32 - 1)
        ∧ v.rd Reg.LAN_NAK_CNT = min (w.rd Reg.LAN_NAK_CNT + 1) (2 ^ 32 - 1) ∧ onlyParts [.lan, .regs] w v)
    ∧ (∀ f, c.state = .active → (f.ok = false ∨ 4 ≤ f.type ∨ f.top = true) → c.nakSent = true →
      exec (.plFlitReceive f t) s = .next (w.bump Reg.LAN_CRC_CNT))
    ∧ (∀ f bs, c.state = .active → f.ok = true → f.type = 1 → f.top = false → f.seq = c.nextRx → f.ack = (c.nextTx + 4095) % 4096 →
        c.retry = [] → c.rxPartial = none → bs ≠ [] → bs.length ≤ 238 →
        f.payload = leBytes 2 (bs.length + 2048) ++ bs ++ List.replicate (238 - bs.length) 0 →
      ∃ v, exec (.plFlitReceive f t) s = .next v ∧ v.lan.course.nextRx = (c.nextRx + 1) % 4096 ∧ v.lan.course.rxPartial = some bs
        ∧ v.lan.course.credits = c.credits + f.crd ∧ v.lan.course.nakSent = false ∧ v.lan.course.ackOwed = true
        ∧ v.lan.course.crdOwed = c.crdOwed + 1
        ∧ v.rd Reg.LAN_RX_DATA_CNT = min (w.rd Reg.LAN_RX_DATA_CNT + 1) (2 ^ 32 - 1) ∧ onlyParts [.lan, .regs] w v)
    ∧ (∀ f, c.state = .active → f.ok = true → f.type = 1 → f.top = false → f.seq ≠ c.nextRx → (c.nextRx + 4095 - f.seq) % 4096 < 2048 →
      ∃ v, exec (.plFlitReceive f t) s = .next v ∧ v.lan.course.nextRx = c.nextRx ∧ v.lan.course.ackOwed = true
        ∧ v.lan.course.rxPartial = c.rxPartial ∧ v.lan.course.ctrlTx = c.ctrlTx ∧ onlyParts [.lan] w v)
    ∧ (∀ f, c.state = .active → f.ok = true → f.type = 1 → f.top = false → f.seq ≠ c.nextRx → 2048 ≤ (c.nextRx + 4095 - f.seq) % 4096 →
        c.nakSent = false →
      ∃ v, exec (.plFlitReceive f t) s = .next v ∧ v.lan.course.nextRx = c.nextRx ∧ v.lan.course.nakSent = true
        ∧ v.lan.course.ctrlTx.getLast? = some (2, (c.nextRx + 4095) % 4096, []) ∧ onlyParts [.lan, .regs] w v)
    ∧ (∀ f, c.state = .active → f.ok = true → f.type = 0 → f.top = false →
      ∃ v, exec (.plFlitReceive f t) s = .next v ∧ v.lan.course.credits = c.credits + f.crd
        ∧ v.lan.course.retry = c.retry.filter (fun x => decide ((x.seq + 4096 - (f.ack + 1)) % 4096 < 2048))
        ∧ v.lan.course.rxQuiet = false ∧ v.lan.course.nextRx = c.nextRx ∧ onlyParts [.lan] w v)
    ∧ (∀ f, c.state = .active → f.ok = true → f.type = 2 → f.top = false → c.retry.all (fun x => decide ((x.seq + 4096 - (f.ack + 1)) % 4096 < 2048)) = true →
        c.replays < 16 →
      ∃ v, exec (.plFlitReceive f t) s = .next v ∧ v.lan.course.replayLeft = c.retry.length ∧ v.lan.course.retry = c.retry
        ∧ v.lan.course.replays = c.replays + 1 ∧ v.lan.course.ackAt = w.now ∧ onlyParts [.lan] w v)
    ∧ (c.state = .active → c.retry ≠ [] → c.ackAt + 4 * us ≤ w.now → c.replays < 16 →
      exec (.plReplayTimeout t) s = .next { w with lan := { w.lan with course := { c with
        replayLeft := c.retry.length, replays := c.replays + 1, ackAt := w.now } } })
    ∧ (c.state = .active → c.retry ≠ [] → c.ackAt + 4 * us ≤ w.now → 16 ≤ c.replays → pathUnused w 4 →
      ∃ v, exec (.plReplayTimeout t) s = .next v ∧ v.lan.course.state = .train ∧ v.lan.course.retry = c.retry ∧ v.lan.course.replays = 0
        ∧ v.rd Reg.LAN_RETRY_EXH_CNT = min (w.rd Reg.LAN_RETRY_EXH_CNT + 1) (2 ^ 32 - 1) ∧ onlyParts [.lan, .regs] w v)
    ∧ (c.state = .active → w.on Reg.LAN_PL_CTL_QUIET_EN = true → c.txQuiet = false → c.retry = [] → c.txQueue = [] → c.ackOwed = false →
        c.busyAt + max 1 (w.rd Reg.LAN_PL_CTL_QUIET_US) * us ≤ w.now →
      ∃ v, exec (.plQuietEntry t) s = .next v ∧ v.lan.course.txQuiet = true
        ∧ v.lan.course.ctrlTx.getLast? = some (3, (c.nextRx + 4095) % 4096, [2])
        ∧ (w.lanesIn .active).all (fun n => (v.lane n).state == .quiet) = true ∧ onlyParts [.lan] w v)
    ∧ (∀ f, c.state = .active → f.ok = true → f.type = 3 → f.top = false → f.payload.getD 0 0 = 3 → w.on Reg.LAN_PL_CTL_DORMANT_OK = true →
        c.retry = [] → pathUnused w 4 →
      ∃ v, exec (.plFlitReceive f t) s = .next v ∧ v.lan.course.state = .dormant
        ∧ v.lan.course.ctrlTx.getLast? = some (3, (c.nextRx + 4095) % 4096, [4])
        ∧ courseLanes.all (fun n => (v.lane n).state == .dormant) = true ∧ onlyParts [.lan, .regs] w v)

/-- Whatever packets wait, of 1 byte or more, the segments that a sender packs into a flit's payload of 240 bytes are the ones that a receiver
reads from it, and they carry the front of the waiting bytes, in order, with none lost and none repeated. -/
def Obligations.SegmentsReadBackAsPacked : Prop :=
  ∀ (q : List (List Byte)) (begun : Bool) (segs : List (List Byte × Bool × Bool × Nat)) (left : List (List Byte)) (after : Bool),
    q.all (fun p => !p.isEmpty) = true → packSegs 80 240 q begun = (segs, left, after) →
      (segWire segs).length ≤ 240
      ∧ readSegs 121 (segWire segs ++ List.replicate (240 - (segWire segs).length) 0) = some segs
      ∧ segs.flatMap (fun g => g.1) ++ left.flatten = q.flatten
      ∧ left.all (fun p => !p.isEmpty) = true

/-- A packet that fails its checks is dropped and counted, and one for the wrong unit too. A valid OPEN within the rate takes a free context at
observer rank with the settings held to their ranges, or evicts the longest SUSPENDED observer, or is refused and takes nothing. An ACK records
its path and acknowledges; with a valid packet a SUSPENDED session is ACTIVE again. A CLAIM is pending until a press grants it, 60 s pass, or it
is dropped. RTO without an advance resends, and after eight rounds suspends; CLOSE and KEEPALIVE free the context. -/
def Obligations.SessionsOpenHoldRankAndClose : Prop :=
  ∀ (t : Instant) (s w : State) (k : KpPath) (p : KpPacket) (n : Nat), w = s.atT t → w.kpe.sessions.length = 128 → storeWf w.regs.live →
    (w.kpServes k = true → p.unit = (if k.mac < 4 then 0 else 1) →
      (w.kpGood p 1 = false → exec (.kpOpen k p t) s = .next (w.bump Reg.KPE_RX_BAD_CNT))
      ∧ (w.kpGood p 3 = false → exec (.kpCommand k p t) s = .next (w.bump Reg.KPE_RX_BAD_CNT))
      ∧ (w.kpGood p 8 = false → exec (.kpAck k p t) s = .next (w.bump Reg.KPE_RX_BAD_CNT))
      ∧ (w.kpGood p 10 = false → exec (.kpClose k p t) s = .next (w.bump Reg.KPE_RX_BAD_CNT))
      ∧ (w.kpGood p 11 = false → exec (.kpClaim k p t) s = .next (w.bump Reg.KPE_RX_BAD_CNT)))
    ∧ (w.kpServes k = true → k.mac = 4 → p.unit ≠ 1 →
      exec (.kpOpen k p t) s = .next (w.bump Reg.KPE_PEER_DROP_CNT) ∧ exec (.kpCommand k p t) s = .next (w.bump Reg.KPE_PEER_DROP_CNT)
        ∧ exec (.kpAck k p t) s = .next (w.bump Reg.KPE_PEER_DROP_CNT))
    ∧ (packetTaken w k p 1 → openKnown w k p = false → openTurn w ≤ max 1 (w.rd Reg.KPE_CTL_OPEN_RATE) → w.freeSession = some n →
      ∃ v, exec (.kpOpen k p t) s = .next v ∧ (v.sess n).state = .active ∧ (v.sess n).operator = false ∧ (v.sess n).paths = [k]
        ∧ (v.sess n).nextSeq = 1 ∧ (v.sess n).cookie ≠ 0 ∧ (v.sess n).lastAt = w.now ∧ (v.sess n).inflight = []
        ∧ v.rd (Reg.KPE_S_KEEPALIVE n) = max 1 (min 600 (argNat p.payload 8 2)) ∧ v.rd (Reg.KPE_S_RTO n) = max 1 (min 1000 (argNat p.payload 10 2))
        ∧ v.rd (Reg.KPE_S_WINDOW n) = max 8 (min 256 (argNat p.payload 12 2))
        ∧ v.kpe.sessions.eraseIdx n = w.kpe.sessions.eraseIdx n
        ∧ v.rd Reg.KPE_OPEN_CNT = min (w.rd Reg.KPE_OPEN_CNT + 1) (2 ^ 32 - 1)
        ∧ v.rd Reg.KPE_RX_PKT_CNT = min (w.rd Reg.KPE_RX_PKT_CNT + 1) (2 ^ 32 - 1) ∧ onlyParts [.kpe, .regs, .eth, .lan, .fresh] w v)
    ∧ (packetTaken w k p 1 → openKnown w k p = false → openTurn w ≤ max 1 (w.rd Reg.KPE_CTL_OPEN_RATE) → w.freeSession = none →
        w.on Reg.KPE_CTL_EVICT = true → w.evictable = some n → (w.sess n).inflight = [] → (w.subsWhere (fun y => y.session == n)) = [] →
      ∃ v, exec (.kpOpen k p t) s = .next v ∧ (v.sess n).state = .active ∧ (v.sess n).operator = false ∧ (v.sess n).paths = [k]
        ∧ v.rd Reg.KPE_EVICT_CNT = min (w.rd Reg.KPE_EVICT_CNT + 1) (2 ^ 32 - 1))
    ∧ (packetTaken w k p 1 → openKnown w k p = false →
        (max 1 (w.rd Reg.KPE_CTL_OPEN_RATE) < openTurn w ∨ (w.freeSession = none ∧ (w.on Reg.KPE_CTL_EVICT = false ∨ w.evictable = none))) →
      ∃ v, exec (.kpOpen k p t) s = .next v ∧ v.kpe.sessions = w.kpe.sessions
        ∧ v.rd Reg.KPE_FULL_CNT = min (w.rd Reg.KPE_FULL_CNT + 1) (2 ^ 32 - 1) ∧ v.rd Reg.KPE_OPEN_CNT = w.rd Reg.KPE_OPEN_CNT
        ∧ onlyParts [.kpe, .regs, .eth, .lan, .fresh] w v)
    ∧ (packetTaken w k p 1 → openKnown w k p = true →
      ∃ v, exec (.kpOpen k p t) s = .next v ∧ v.kpe.sessions = w.kpe.sessions ∧ v.rd Reg.KPE_OPEN_CNT = w.rd Reg.KPE_OPEN_CNT
        ∧ onlyParts [.kpe, .regs, .eth, .lan, .fresh] w v)
    ∧ (packetTaken w k p 8 → p.session = n → (w.sess n).state = .active →
      ∃ v, exec (.kpAck k p t) s = .next v ∧ (v.sess n).path = some k ∧ (v.sess n).lastAt = w.now
        ∧ (v.sess n).unacked = (w.sess n).unacked.filter (fun q => !acked p.ack q.seq) ∧ (v.sess n).state = .active
        ∧ ((w.sess n).dual = false → (v.sess n).paths = [k])
        ∧ v.kpe.sessions.eraseIdx n = w.kpe.sessions.eraseIdx n ∧ onlyParts [.kpe, .regs] w v)
    ∧ (packetTaken w k p 8 → p.session = n → (w.sess n).state = .suspended →
      ∃ v, exec (.kpAck k p t) s = .next v ∧ (v.sess n).path = some k ∧ (v.sess n).state = .active ∧ (v.sess n).rounds = 0
        ∧ v.rd (Reg.KPE_S_RETX_CNT n)
          = min (w.rd (Reg.KPE_S_RETX_CNT n) + ((w.sess n).unacked.filter (fun q => !acked p.ack q.seq)).length) (2 ^ 32 - 1)
        ∧ onlyParts [.kpe, .regs, .eth, .lan] w v)
    ∧ (packetTaken w k p 10 → p.session = n → (w.sess n).inflight = [] → (w.subsWhere (fun y => y.session == n)) = [] →
      ∃ v, exec (.kpClose k p t) s = .next v ∧ v.sess n = {} ∧ (w.kpe.claim.map (fun c => c.session) = some n → v.kpe.claim = none)
        ∧ v.rng.desc.all (fun d => !(d.state == .stream && d.session == some n)) = true)
    ∧ (packetTaken w k p 11 → p.session = n → p.payload.getD 0 0 = 0 → (w.sess n).state = .active → (w.sess n).operator = false →
        w.kpe.claim = none → w.operators < 4 → (w.sess n).waiting.any (CtlPayload.isNotify ntClaim) = false →
      ∃ v, exec (.kpClaim k p t) s = .next v ∧ v.kpe.claim = some { session := n, time := w.now }
        ∧ (v.sess n).waiting.getLast?.bind noteOf = some (7, 1, [0]) ∧ (v.sess n).operator = false ∧ onlyParts [.kpe, .regs, .evr] w v)
    ∧ (packetTaken w k p 11 → p.session = n → p.payload.getD 0 0 = 0 → (w.sess n).state = .active → (w.sess n).operator = false →
        (w.sess n).waiting.any (CtlPayload.isNotify ntClaim) = false →
        ((w.kpe.claim.map (fun c => c.session)).any (fun j => j != n) = true ∨ (w.kpe.claim = none ∧ 4 ≤ w.operators)) →
      ∃ v, exec (.kpClaim k p t) s = .next v ∧ v.kpe.claim = w.kpe.claim ∧ (v.sess n).operator = false
        ∧ (v.sess n).waiting.getLast?.bind noteOf = some (7, 1, [if w.kpe.claim = none then 4 else 3]) ∧ onlyParts [.kpe, .regs, .evr] w v)
    ∧ (packetTaken w k p 11 → p.session = n → p.payload.getD 0 0 = 1 → (w.sess n).state = .active →
        (w.sess n).waiting.any (CtlPayload.isNotify ntClaim) = false →
      ∃ v, exec (.kpClaim k p t) s = .next v ∧ (v.sess n).operator = false ∧ (w.kpe.claim.map (fun c => c.session) = some n → v.kpe.claim = none)
        ∧ (v.sess n).waiting.getLast?.bind noteOf = some (7, 1, [5]) ∧ onlyParts [.kpe, .regs, .evr] w v)
    ∧ (∀ high, w.kpe.presHigh = !high →
      exec (.press high t) s = .next { w with kpe := { w.kpe with
        presHigh := high, presAt := w.now, presValid := !high && decide (w.kpe.presAt + 20 * ms ≤ w.now) } })
    ∧ (∀ a, w.kpe.presHigh = false → w.kpe.presValid = true → w.kpe.presAt + 20 * ms ≤ w.now → w.kpe.claim = some { session := n, time := a } →
        (w.sess n).state = .active → w.operators < 4 →
      ∃ v, exec (.press false t) s = .next v ∧ (v.sess n).operator = true ∧ v.kpe.claim = none ∧ v.kpe.presValid = false
        ∧ v.rd Reg.KPE_PRESS_CNT = w.rd Reg.KPE_PRESS_CNT ∧ onlyParts [.kpe, .regs, .evr] w v)
    ∧ (w.kpe.presHigh = false → w.kpe.presValid = true → w.kpe.presAt + 20 * ms ≤ w.now → w.kpe.claim = none →
      exec (.press false t) s = .next ({ w with kpe := { w.kpe with presValid := false } }.bump Reg.KPE_PRESS_CNT))
    ∧ (∀ a, w.kpe.claim = some { session := n, time := a } → a + 60 * sec ≤ w.now →
      ∃ v, exec (.claimTimeout t) s = .next v ∧ v.kpe.claim = none ∧ (v.sess n).operator = (w.sess n).operator
        ∧ onlyParts [.kpe, .regs, .evr] w v)
    ∧ ((w.sess n).state = .active → (w.sess n).unacked ≠ [] → (w.sess n).ackAt + w.rto n * ms ≤ w.now → w.isolated .kpe = false →
        (w.sess n).rounds < 8 → (w.sess n).paths ≠ [] →
      ∃ v, exec (.rtoExpiry n t) s = .next v ∧ (v.sess n).unacked = (w.sess n).unacked ∧ (v.sess n).rounds = (w.sess n).rounds + 1
        ∧ (v.sess n).ackAt = w.now ∧ (v.sess n).state = .active
        ∧ v.rd (Reg.KPE_S_RETX_CNT n) = min (w.rd (Reg.KPE_S_RETX_CNT n) + (w.sess n).unacked.length) (2 ^ 32 - 1)
        ∧ onlyParts [.kpe, .regs, .eth, .lan] w v)
    ∧ ((w.sess n).state = .active → (w.sess n).unacked ≠ [] → (w.sess n).ackAt + w.rto n * ms ≤ w.now → w.isolated .kpe = false →
        8 ≤ (w.sess n).rounds →
      ∃ v, exec (.rtoExpiry n t) s = .next v ∧ (v.sess n).state = .suspended ∧ (v.sess n).suspendedAt = w.now
        ∧ (v.sess n).unacked = (w.sess n).unacked ∧ onlyParts [.kpe, .regs] w v)
    ∧ ((w.sess n).state ≠ .free →
        (if (w.sess n).state = .suspended then (w.sess n).suspendedAt else (w.sess n).lastAt) + w.keepalive n * sec ≤ w.now →
        (w.sess n).inflight = [] → (w.subsWhere (fun y => y.session == n)) = [] →
      ∃ v, exec (.keepaliveExpiry n t) s = .next v ∧ v.sess n = {} ∧ (w.kpe.claim.map (fun c => c.session) = some n → v.kpe.claim = none))

/-- A COMMAND with a new tag is in flight from then on, running, or ended with the status that turns it away; one beyond the limits completes
BUSY, and one of a tag in flight is answered RUNNING or TAG_CONFLICT, and of a tag in the cache by its completion again. A NOP completes; a
completion passes the session's ordering point, is queued and cached, and the oldest waiting packet takes the next SEQ while the window has
room; an ABORT ends a running command ABORTED and itself completes, or finds nothing. -/
def Obligations.CommandsAreTakenAndCompleted : Prop :=
  ∀ (t : Instant) (s w : State) (k : KpPath) (p : KpPacket) (n tag op : Nat) (args : List Byte) (c : InFlight), w = s.atT t →
    w.kpe.sessions.length = 128 → storeWf w.regs.live →
    (∀ a o, commandTaken w k p n tag op args → a = parseArgs op args →
        o = (if op = 0 ∨ 0x12 < op then CmdOutcome.ended .badOpcode 0 []
          else if w.chp.mode = .recovery ∧ ¬(op = 0x02 ∨ op = 0x0F ∨ op = 0x10 ∨ op = 0x11) then .ended .wrongMode 0 []
          else if (op = 0x05 ∨ op = 0x06 ∨ op = 0x0A ∨ op = 0x0C ∨ op = 0x0D ∨ op = 0x10 ∨ op = 0x11) ∧ (w.sess n).operator = false then
            .ended .rank 0 []
          else if a = none then .ended .badRequest 0 []
          else .running) →
      ∃ v, exec (.kpCommand k p t) s = .next v ∧ (v.sess n).inflight = (w.sess n).inflight ++ [{ tag := tag, op := op, args := a.getD .nop, outcome := o }]
        ∧ (v.sess n).waiting = (w.sess n).waiting ∧ v.rd (Reg.KPE_S_RX_CMD_CNT n) = min (w.rd (Reg.KPE_S_RX_CMD_CNT n) + 1) (2 ^ 32 - 1)
        ∧ v.kpe.sessions.eraseIdx n = w.kpe.sessions.eraseIdx n ∧ onlyParts [.kpe, .regs] w v)
    ∧ (packetTaken w k p 3 → p.session = n → (w.sess n).state = .active → tag = argNat p.payload 0 2 → op = argNat p.payload 2 2 → tag ≠ 0xFFFF →
        w.cmd n tag = none → w.cachedTag n tag = none → (32 ≤ (w.sess n).inflight.length ∨ 128 ≤ w.inFlight) →
      ∃ v, exec (.kpCommand k p t) s = .next v ∧ (v.sess n).inflight = (w.sess n).inflight ∧ (v.sess n).cache = (w.sess n).cache
        ∧ (v.sess n).waiting.getLast?.bind completionOf = some (tag, op, .busy, 0, 0, [])
        ∧ v.rd Reg.KPE_BUSY_CNT = min (w.rd Reg.KPE_BUSY_CNT + 1) (2 ^ 32 - 1) ∧ onlyParts [.kpe, .regs] w v)
    ∧ (packetTaken w k p 3 → p.session = n → (w.sess n).state = .active → tag = argNat p.payload 0 2 → op = argNat p.payload 2 2 → tag ≠ 0xFFFF →
        w.cmd n tag = some c →
      ∃ v, exec (.kpCommand k p t) s = .next v ∧ (v.sess n).inflight = (w.sess n).inflight
        ∧ (c.op ≠ op → (v.sess n).waiting.getLast?.bind completionOf = some (tag, op, .tagConflict, 0, 0, []))
        ∧ (c.op = op → v.rd Reg.KPE_TX_PKT_CNT = min (w.rd Reg.KPE_TX_PKT_CNT + 1) (2 ^ 32 - 1))
        ∧ v.rd (Reg.KPE_S_DUP_CNT n) = min (w.rd (Reg.KPE_S_DUP_CNT n) + 1) (2 ^ 32 - 1) ∧ onlyParts [.kpe, .regs, .eth, .lan, .fresh] w v)
    ∧ (∀ x, packetTaken w k p 3 → p.session = n → (w.sess n).state = .active → tag = argNat p.payload 0 2 → op = argNat p.payload 2 2 → tag ≠ 0xFFFF →
        w.cmd n tag = none → w.cachedTag n tag = some x → x.op = op →
      ∃ v, exec (.kpCommand k p t) s = .next v ∧ (v.sess n).inflight = (w.sess n).inflight ∧ (v.sess n).waiting = (w.sess n).waiting ++ [x.payload]
        ∧ v.rd (Reg.KPE_S_DUP_CNT n) = min (w.rd (Reg.KPE_S_DUP_CNT n) + 1) (2 ^ 32 - 1) ∧ onlyParts [.kpe, .regs] w v)
    ∧ (mayAct w n tag c → c.args = .nop →
      ∃ v, exec (.kpNop n tag t) s = .next v ∧ ends v n tag .complete 0 [] ∧ v.kpe.sessions.eraseIdx n = w.kpe.sessions.eraseIdx n
        ∧ onlyParts [.kpe] w v)
    ∧ (∀ st d r, w.cmd n tag = some c → c.outcome = .ended st d r → w.targetFirst n c = false → (w.sess n).state = .active →
      ∃ v, exec (.commandComplete n tag t) s = .next v ∧ (v.sess n).inflight = (w.sess n).inflight.filter (fun y => y.tag != tag)
        ∧ (v.sess n).waiting.getLast?.bind completionOf = some (tag, c.op, st, d, c.bytes, r)
        ∧ ((v.sess n).cache.getLast?.map (fun y => (y.tag, y.op, y.time))) = some (tag, c.op, w.now) ∧ (v.sess n).cache.length ≤ 64
        ∧ v.kpe.sessions.eraseIdx n = w.kpe.sessions.eraseIdx n ∧ onlyParts [.kpe] w v)
    ∧ (w.cmd n tag = some c → (c.outcome = .running ∨ w.targetFirst n c = true) → exec (.commandComplete n tag t) s = .next w)
    ∧ (∀ x r, (w.sess n).waiting = x :: r → (w.sess n).state = .active → (w.sess n).unacked.length < w.window n → w.isolated .kpe = false →
        (w.sess n).nextSeq < 2 ^ 32 → (w.sess n).paths ≠ [] →
      ∃ v, exec (.controlPacketSend n t) s = .next v ∧ (v.sess n).waiting = r
        ∧ (v.sess n).unacked = (w.sess n).unacked ++ [{ seq := (w.sess n).nextSeq, payload := x }]
        ∧ (v.sess n).nextSeq = ((w.sess n).nextSeq + 1) % 2 ^ 32
        ∧ v.rd Reg.KPE_TX_PKT_CNT = min (w.rd Reg.KPE_TX_PKT_CNT + 1) (2 ^ 32 - 1) ∧ onlyParts [.kpe, .regs, .eth, .lan, .upd] w v)
    ∧ ((w.sess n).waiting ≠ [] → w.window n ≤ (w.sess n).unacked.length → exec (.controlPacketSend n t) s = .next w)
    ∧ (∀ g d, w.cmd n tag = some c → c.outcome = .running → c.args = .abort g → w.isolated .kpe = false → g ≠ tag → w.cmd n g = some d →
        d.outcome = .running → d.final = none →
      ∃ v, exec (.kpAbort n tag t) s = .next v ∧ ends v n g .aborted 0 [] ∧ ends v n tag .complete 0 []
        ∧ (v.cmd n g).map (fun x => x.bytes) = some d.bytes ∧ v.kpe.sessions.eraseIdx n = w.kpe.sessions.eraseIdx n
        ∧ onlyParts [.kpe, .cmp, .rng, .zon] w v)
    ∧ (∀ g, w.cmd n tag = some c → c.outcome = .running → c.args = .abort g → w.isolated .kpe = false → (g = tag ∨ w.cmd n g = none) →
      ∃ v, exec (.kpAbort n tag t) s = .next v ∧ ends v n tag .notFound 0 [] ∧ v.kpe.sessions.eraseIdx n = w.kpe.sessions.eraseIdx n
        ∧ onlyParts [.kpe] w v)

/-- REG_READ and REG_WRITE perform all their accesses in order as the session, and complete with the words and the bitmap of those that ended in
BUS_ERROR. MEM_READ forms a DATA packet of what it reads and completes once that has its SEQ; MEM_WRITE writes words up to the first
BUS_ERROR, or bytes of the upload area and nothing else; LOAD loads the image there, and completes by what became of it; MODE requests a mode,
and completes only where the mode became it. -/
def Obligations.RegisterAndMemoryCommandsAct : Prop :=
  ∀ (t : Instant) (s w b : State) (n tag : Nat) (c : InFlight), w = atBus s t → mayAct w n tag c → b = begunAt w n tag → storeWf w.mems.dram →
    (∀ as r, c.args = .regRead as → r = b.readMany (.session n) as → (r.1.cmd n tag).map (fun x => x.outcome) = some .running →
      ∃ v, exec (.regRead n tag t) s = .next v ∧ r.2.2.length = as.length
        ∧ ends v n tag .complete 0 (r.2.1.flatMap (fun x => leBytes 4 x.toNat) ++ errBitmap r.2.2)
        ∧ onlyParts [.kpe] r.1 v)
    ∧ (∀ ps r, c.args = .regWrite ps → r = b.writeMany n tag ps → (r.1.cmd n tag).map (fun x => x.outcome) = some .running →
      ∃ v, exec (.regWrite n tag t) s = .next v ∧ r.2.length = ps.length ∧ ends v n tag .complete 0 (errBitmap r.2) ∧ onlyParts [.kpe] r.1 v)
    ∧ (∀ a len r, c.args = .memRead 0 a len → c.final = none → w.dataWaits n tag = false → len ≤ w.dataRoom n / 4 * 4 → c.next = 0 → 4 ∣ len → c.ctx = none →
        r = b.readRun (.session n) a (len / 4) → r.2.2 = false → len ≠ 0 → (r.1.sess n).state = .active → (r.1.cmd n tag).isSome = true →
        (r.1.cmd n tag).bind (fun x => x.ctx) = none →
      ∃ v, exec (.memRead n tag t) s = .next v ∧ (v.sess n).waiting.getLast? = some (.data tag 0 0 0 r.2.1 r.2.1)
        ∧ (v.cmd n tag).bind (fun x => x.final) = some (.complete, 0) ∧ onlyParts [.kpe, .rng] r.1 v)
    ∧ (∀ a len, c.args = .memRead 1 a len → c.final = none → w.dataWaits n tag = false → len ≤ w.dataRoom n / 4 * 4 → c.next = 0 → c.ctx = none →
        c.poisonAt = none → w.dramRun a len = len → w.firstPoison a a len = none → len ≠ 0 → (w.sess n).state = .active →
      ∃ v, exec (.memRead n tag t) s = .next v ∧ (v.sess n).waiting.getLast? = some (.data tag 0 0 0 (w.dramBytes a len) (w.dramBytes a len))
        ∧ (v.cmd n tag).bind (fun x => x.final) = some (.complete, 0) ∧ onlyParts [.kpe, .rng] w v)
    ∧ (∀ sp a len d, c.args = .memRead sp a len → c.final = some (.complete, d) → w.dataWaits n tag = false →
      ∃ v, exec (.memRead n tag t) s = .next v ∧ ends v n tag .complete d [] ∧ onlyParts [.kpe] w v)
    ∧ (∀ a bs r, c.args = .memWrite 0 a bs → r = b.writeRun n tag a (payloadWords bs) → (r.1.cmd n tag).map (fun x => x.outcome) = some .running →
      ∃ v, exec (.memWrite n tag t) s = .next v ∧ ends v n tag (if r.2.2 then .busError else .complete) 0 []
        ∧ (v.cmd n tag).map (fun x => x.bytes) = (r.1.cmd n tag).map (fun x => x.bytes + 4 * r.2.1) ∧ onlyParts [.kpe] r.1 v)
    ∧ (∀ a bs i x, c.args = .memWrite 1 a bs → 0x70000000 ≤ a → a + bs.length ≤ 0x80000000 → w.dramRun a bs.length = bs.length → i < bs.length →
        (x < a ∨ a + bs.length ≤ x) →
      ∃ v, exec (.memWrite n tag t) s = .next v ∧ ends v n tag .complete 0 [] ∧ v.dramByte (a + i) = bs.getD i 0 ∧ v.dramByte x = w.dramByte x
        ∧ (v.cmd n tag).map (fun y => y.bytes) = some (c.bytes + bs.length) ∧ onlyParts [.kpe, .mems, .dmc] w v)
    ∧ (∀ a bs, c.args = .memWrite 1 a bs → (a < 0x70000000 ∨ 0x80000000 < a + bs.length) →
      ∃ v, exec (.memWrite n tag t) s = .next v ∧ ends v n tag .range 0 [] ∧ onlyParts [.kpe] w v)
    ∧ (∀ a len, c.args = .load a len → (a < 0x70000000 ∨ 0x80000000 < a + len) →
      ∃ v, exec (.kpLoad n tag t) s = .next v ∧ ends v n tag .range 0 [] ∧ onlyParts [.kpe] w v)
    ∧ (∀ a len q r, c.args = .load a len → 0x70000000 ≤ a → a + len ≤ 0x80000000 → q = w.loadSpan a len → w.dramRun a q = q →
        w.firstPoison a a q = none → r = b.loadImage (.session n) (w.dramBytes a q) → (r.1.cmd n tag).map (fun x => x.outcome) = some .running →
      ∃ v, exec (.kpLoad n tag t) s = .next v ∧ onlyParts [.kpe] r.1 v
        ∧ (v.cmd n tag).map (fun y => y.bytes) = (r.1.cmd n tag).map (fun x => x.bytes + r.2.2)
        ∧ ends v n tag (match r.2.1 with | .done => .complete | .bad => .imageBad | .busError => .busError | .refused => .stageRefused)
          (match r.2.1 with | .refused => r.1.rd Reg.CHP_TSTAT_REFUSAL | _ => 0) [])
    ∧ (∀ m r, c.args = .mode m → r = b.writeWord (.session n) Reg.CHP_MODE_REQ.addr (Reg.CHP_MODE_REQ.put 0 m) →
        (r.cmd n tag).map (fun x => x.outcome) = some .running →
      ∃ v, exec (.kpMode n tag t) s = .next v ∧ onlyParts [.kpe] r v
        ∧ ends v n tag (if r.chp.mode ≠ w.chp.mode ∧ r.chp.mode.code = m then .complete else .refused)
          (if r.chp.mode ≠ w.chp.mode ∧ r.chp.mode.code = m then 0 else r.chp.mode.code) (leBytes 1 r.chp.mode.code))

/-- CAP_ARM asks RNG for a capture; CAP_ABORT closes an open capture, CAP_RELEASE frees a CLOSED one, and either says what else it found; CAP_READ and
RING_READ are accepted over held rows alone, deliver whole rows in DATA packets, and end where the rows end or have been released; LOG_READ
delivers the records held from a sequence number on. -/
def Obligations.CaptureAndLogCommandsAct : Prop :=
  ∀ (t : Instant) (s w : State) (n tag : Nat) (c : InFlight), w = s.atT t → mayAct w n tag c → (w.sess n).state = .active → storeWf w.regs.live →
    (∀ tr a z pre post m, c.args = .capArm tr a z pre post m → c.begun = false → tr ≤ w.devTime + 10 ^ 10 →
      ∃ v, exec (.capArm n tag t) s = .next v ∧ v.zon.nextTag = w.zon.nextTag + 1 ∧ v.zon.requests.dropLast = w.zon.requests
        ∧ v.zon.requests.getLast?.map (fun q => (q.cmd, q.pre, q.post, q.first, q.last, q.stream)) = some (some (n, tag), pre, post, a, z, m == 1)
        ∧ (tr = 0 → v.zon.requests.getLast?.map (fun q => q.trigAt) = some w.now)
        ∧ (v.cmd n tag).map (fun x => (x.begun, x.outcome)) = some (true, .running) ∧ onlyParts [.kpe, .zon] w v)
    ∧ (∀ tr a z pre post m, c.args = .capArm tr a z pre post m → c.begun = false → w.devTime + 10 ^ 10 < tr →
      ∃ v, exec (.capArm n tag t) s = .next v ∧ ends v n tag .badRequest 0 [] ∧ onlyParts [.kpe] w v)
    ∧ (∀ num, c.args = .capAbort num → w.capture num = none →
      ∃ v, exec (.capAbort n tag t) s = .next v ∧ ends v n tag .notFound 0 [] ∧ onlyParts [.kpe] w v)
    ∧ (∀ num i, c.args = .capAbort num → w.capture num = some i → (w.desc i).state = .closed →
      ∃ v, exec (.capAbort n tag t) s = .next v ∧ ends v n tag .alreadyClosed 0 [] ∧ onlyParts [.kpe] w v)
    ∧ (∀ num i, c.args = .capAbort num → w.capture num = some i → (w.desc i).state = .wait → i < w.rng.desc.length →
      ∃ v, exec (.capAbort n tag t) s = .next v ∧ ends v n tag .complete 0 [] ∧ (v.desc i).state = .closed ∧ (v.desc i).result = .aborted
        ∧ v.rng.desc.eraseIdx i = w.rng.desc.eraseIdx i
        ∧ v.rd Reg.RNG_ABORT_CNT = min (w.rd Reg.RNG_ABORT_CNT + 1) (2 ^ 32 - 1) ∧ onlyParts [.kpe, .rng, .regs] w v)
    ∧ (∀ num, c.args = .capRelease num → w.capture num = none →
      ∃ v, exec (.capRelease n tag t) s = .next v ∧ ends v n tag .notFound 0 [] ∧ onlyParts [.kpe] w v)
    ∧ (∀ num i, c.args = .capRelease num → w.capture num = some i →
      ∃ v, exec (.capRelease n tag t) s = .next v ∧ ends v n tag (if (w.desc i).state = .closed then .complete else .captureOpen) 0 []
        ∧ v.rng = { w.rng with desc := modAt w.rng.desc i (fun d => if d.state = .closed then { d with state := .free } else d) }
        ∧ onlyParts [.kpe, .rng] w v)
    ∧ (∀ num from_ k a z pred, c.args = .capRead num from_ k a z pred → c.begun = false → w.capture num = none →
      ∃ v, exec (.capRead n tag t) s = .next v ∧ ends v n tag .notFound 0 [] ∧ onlyParts [.kpe] w v)
    ∧ (∀ num from_ k a z pred i, c.args = .capRead num from_ k a z pred → c.begun = false → w.capture num = some i →
        ((w.desc i).stream = true ∨ a < (w.desc i).first ∨ (w.desc i).last < z) →
      ∃ v, exec (.capRead n tag t) s = .next v ∧ ends v n tag .badRequest 0 [] ∧ onlyParts [.kpe] w v)
    ∧ (∀ num from_ k a z i, c.args = .capRead num from_ k a z 0xFF → c.begun = false → w.capture num = some i → (w.desc i).stream = false →
        (w.desc i).first ≤ a → z ≤ (w.desc i).last →
      ∃ v, exec (.capRead n tag t) s = .next v ∧ onlyParts [.kpe] w v ∧ (v.cmd n tag).map (fun x => (x.begun, x.next, x.stop, x.outcome))
        = some (true, from_, (if k = 0 then (w.desc i).pre + (w.desc i).post else min ((w.desc i).pre + (w.desc i).post) (from_ + k)), .running))
    ∧ (∀ num from_ k a z i r, c.args = .capRead num from_ k a z 0xFF → c.begun = true → c.ctx = none → c.final = none → w.dataWaits n tag = false →
        c.next = from_ → c.stop = from_ + 1 → w.capture num = some i → w.capFate num c.mark from_ = .ready r → w.badIn r a z = 0 → a ≤ z →
        2 * (z + 1 - a) ≤ w.dataRoom n →
      ∃ v, exec (.capRead n tag t) s = .next v ∧ (v.cmd n tag).bind (fun x => x.final) = some (.complete, 0) ∧ onlyParts [.kpe, .rng] w v
        ∧ (v.sess n).waiting.getLast? = some (.data tag 0 1 0 (sampleBytes (w.rowSamples r a z)) (sampleBytes (w.rowSamples r a z))))
    ∧ (∀ row k a z pred, c.args = .ringRead row k a z pred → c.begun = false → (a < w.rd Reg.PHS_RANGE_CAPO ∨ w.rd Reg.PHS_RANGE_END < z) →
      ∃ v, exec (.ringRead n tag t) s = .next v ∧ ends v n tag .badRequest 0 [] ∧ onlyParts [.kpe] w v)
    ∧ (∀ row k a z pred, c.args = .ringRead row k a z pred → c.begun = false → w.rd Reg.PHS_RANGE_CAPO ≤ a → z ≤ w.rd Reg.PHS_RANGE_END →
        w.ringRow row = none → row < w.rng.wrow →
      ∃ v, exec (.ringRead n tag t) s = .next v ∧ ends v n tag .dataOverwritten 0 [] ∧ onlyParts [.kpe] w v)
    ∧ (∀ row k a z r, c.args = .ringRead row k a z 0xFF → c.begun = false → c.final = none → w.rd Reg.PHS_RANGE_CAPO ≤ a →
        z ≤ w.rd Reg.PHS_RANGE_END → w.ringRow row = some r →
      ∃ v, exec (.ringRead n tag t) s = .next v ∧ (v.cmd n tag).map (fun x => (x.begun, x.next, x.stop, x.outcome)) = some (true, 0, k, .running)
        ∧ v.rng.reads.getLast? = some (n, tag, row) ∧ onlyParts [.kpe, .rng] w v)
    ∧ (∀ row a z r, c.args = .ringRead row 1 a z 0xFF → c.begun = true → c.ctx = none → c.final = none → w.dataWaits n tag = false → c.next = 0 →
        c.stop = 1 → w.ringRow row = some r → w.badIn r a z = 0 → a ≤ z → 2 * (z + 1 - a) ≤ w.dataRoom n →
      ∃ v, exec (.ringRead n tag t) s = .next v ∧ (v.cmd n tag).bind (fun x => x.final) = some (.complete, 0) ∧ onlyParts [.kpe, .rng] w v
        ∧ (v.sess n).waiting.getLast? = some (.data tag 0 1 0 (sampleBytes (w.rowSamples r a z)) (sampleBytes (w.rowSamples r a z))))
    ∧ (∀ from_ k, c.args = .logRead from_ k → c.begun = false →
      ∃ v, exec (.logRead n tag t) s = .next v ∧ (v.cmd n tag).map (fun x => (x.begun, x.next, x.stop)) = some (true, from_, k) ∧ onlyParts [.kpe] w v)
    ∧ (∀ from_ k recs, c.args = .logRead from_ k → c.begun = true → c.final = none → c.ctx = none → w.dataWaits n tag = false → c.mark = 0 → c.part = 0 →
        recs = (w.evr.held.filter (fun r => decide (c.next ≤ r.seq))).take c.stop → recs ≠ [] → c.stop ≤ w.dataRoom n / 32 → recs.length = c.stop →
      ∃ v, exec (.logRead n tag t) s = .next v ∧ onlyParts [.kpe, .rng] w v
        ∧ (v.cmd n tag).bind (fun x => x.final) = some (.complete, if recs.head?.any (fun r => decide (max 1 c.next < r.seq)) then 1 else 0)
        ∧ (v.sess n).waiting.getLast? = some (.data tag 0 recs.length 0 (recs.flatMap EvRec.bytes) (recs.flatMap EvRec.bytes)))

/-- SUBSCRIBE takes the lowest free subscription, within 64 for the session and 90 % of its path's line rate; UNSUBSCRIBE removes it. A full packet
of rows is formed, numbered and flagged, and so is one that has waited MAX_US; while the session is not ACTIVE, or the mode not SERVICE or
TEST, what waits is lost and GAP is owed; a formed packet goes on the path, or after 100 µs is dropped and counted. -/
def Obligations.StreamsAreFormedSentAndDropped : Prop :=
  ∀ (t : Instant) (s w : State) (n tag i : Nat) (c : InFlight) (x : Subscription), w = s.atT t → w.kpe.subs.length = 512 → w.kpe.sessions.length = 128 →
    storeWf w.regs.live →
    (∀ kd pr a z mx, mayAct w n tag c → c.args = .subscribe kd pr 0xFF a z mx → i < 512 → w.sub i = none →
        (List.range i).all (fun j => (w.sub j).isSome) = true → (w.subsWhere (fun y => y.session == n)).length < 64 →
        x = { session := n, kind := kindOf kd, preset := pr, pred := 0xFF, first := a, last := z, maxUs := max 100 (min 1000000 mx), gap := !w.chp.mode.light } →
        (w.sess n).path.any (fun k => w.overBand k.mac x) = false →
      ∃ v, exec (.subscribe n tag t) s = .next v ∧ v.sub i = some x ∧ v.kpe.subs.eraseIdx i = w.kpe.subs.eraseIdx i
        ∧ ends v n tag .complete 0 (leBytes 2 i) ∧ onlyParts [.kpe] w v)
    ∧ (∀ kd pr pred a z mx, mayAct w n tag c → c.args = .subscribe kd pr pred a z mx →
        (w.kpe.subs.all (fun y => y.isSome) = true ∨ 64 ≤ (w.subsWhere (fun y => y.session == n)).length) →
      ∃ v, exec (.subscribe n tag t) s = .next v ∧ ends v n tag .noResource 0 [] ∧ v.kpe.subs = w.kpe.subs ∧ onlyParts [.kpe] w v)
    ∧ (mayAct w n tag c → c.args = .unsubscribe i → w.sub i = some x → x.session = n → x.ctx = none → i < 512 →
        (x.kind ≠ .capture ∨ w.rng.desc.all (fun d => d.state != .stream) = true) →
      ∃ v, exec (.unsubscribe n tag t) s = .next v ∧ v.sub i = none ∧ v.kpe.subs.eraseIdx i = w.kpe.subs.eraseIdx i
        ∧ v.kpe.stream = w.kpe.stream.filter (fun q => q.sub != i) ∧ ends v n tag .complete 0 [] ∧ onlyParts [.kpe, .cmp] w v)
    ∧ (mayAct w n tag c → c.args = .unsubscribe i → (w.sub i = none ∨ (w.sub i = some x ∧ x.session ≠ n)) →
      ∃ v, exec (.unsubscribe n tag t) s = .next v ∧ ends v n tag .notFound 0 [] ∧ v.kpe.subs = w.kpe.subs ∧ onlyParts [.kpe] w v)
    ∧ (mayAct w n tag c → c.args = .flush i → (w.sub i = none ∨ (w.sub i = some x ∧ x.session ≠ n)) →
      ∃ v, exec (.kpFlush n tag t) s = .next v ∧ ends v n tag .notFound 0 [] ∧ v.kpe.subs = w.kpe.subs ∧ onlyParts [.kpe] w v)
    ∧ (∀ r, mayAct w n tag c → c.args = .flush i → c.begun = false → w.sub i = some x → x.session = n → x.ctx = none → x.kind = .phase → x.preset ≠ 5 →
        x.rows = [r] → x.events = [] → w.forms x = true → r.data.length ≤ w.streamRoom n → i < 512 → w.cmp.closed.any (fun b => b.flow == .sub i) = false →
      ∃ v, exec (.kpFlush n tag t) s = .next v ∧ ends v n tag .complete 0 [] ∧ (v.sub i).map (fun y => (y.rows, y.seq)) = some ([], (x.seq + 1) % 2 ^ 32)
        ∧ (v.kpe.stream.getLast?).map (fun q => (q.sub, q.seq, q.nrows, q.data)) = some (i, x.seq, 1, r.data) ∧ onlyParts [.kpe] w v)
    ∧ (∀ r rest, w.isolated .kpe = false → w.sub i = some x → w.forms x = true → x.kind = .phase → x.preset ≠ 5 → x.rows = r :: rest → i < 512 →
        r.data.length ≤ w.streamRoom x.session → w.streamRoom x.session < 2 * r.data.length →
      ∃ v, exec (.streamPacketForm i false t) s = .next v ∧ (v.sub i).map (fun y => (y.rows, y.seq, y.gap)) = some (rest, (x.seq + 1) % 2 ^ 32, false)
        ∧ v.kpe.stream.dropLast = w.kpe.stream
        ∧ (v.kpe.stream.getLast?).map (fun q => (q.sub, q.session, q.seq, q.nrows, q.index, q.sweep)) = some (i, x.session, x.seq, 1, r.index, r.sweep)
        ∧ (v.kpe.stream.getLast?).map (fun q => (q.data, q.formedAt, q.qflags.testBit 6)) = some (r.data, w.now, x.gap || r.qflags.testBit 6)
        ∧ onlyParts [.kpe] w v)
    ∧ (w.isolated .kpe = false → w.sub i = some x → w.forms x = true → x.kind = .phase → x.rows.length * (x.rows.head?.map (fun r => r.data.length)).getD 0
          + (x.rows.head?.map (fun r => r.data.length)).getD 0 ≤ w.streamRoom x.session → x.rows ≠ [] →
        sharing x (x.rows.headD { index := 0, sweep := 0, formedAt := 0, qflags := 0, data := [] }) x.rows.tail = x.rows.tail →
        (x.rows.head?.map (fun r => r.data.length)).getD 0 ≠ 0 →
      exec (.streamPacketForm i false t) s = .next w)
    ∧ (w.isolated .kpe = false → w.sub i = some x → w.forms x = false → (x.rows ≠ [] ∨ x.events ≠ []) → i < 512 →
      exec (.streamPacketForm i false t) s = .next { w with kpe := { w.kpe with subs := modAt w.kpe.subs i (fun o => o.map (fun y =>
        { y with rows := [], events := [], gap := true })) } })
    ∧ (∀ r, w.isolated .kpe = false → w.sub i = some x → w.forms x = true → x.kind = .phase → x.preset ≠ 5 → x.rows = [r] → x.ctx = none → i < 512 →
        r.data.length ≤ w.streamRoom x.session → r.formedAt + x.maxUs * us ≤ w.now →
      ∃ v, exec (.streamFillTimeout i false t) s = .next v ∧ (v.sub i).map (fun y => (y.rows, y.seq)) = some ([], (x.seq + 1) % 2 ^ 32)
        ∧ (v.kpe.stream.getLast?).map (fun q => (q.sub, q.seq, q.nrows, q.data)) = some (i, x.seq, 1, r.data) ∧ onlyParts [.kpe] w v)
    ∧ (∀ q k, w.isolated .kpe = false → w.sub i = some x → w.forms x = true → x.rows = [] → x.events = [] → w.kpe.stream = [q] → q.sub = i →
        q.session = x.session → (w.sess x.session).path = some k → w.pathUp k.mac = true →
      ∃ v, exec (.streamPacketForm i true t) s = .next v ∧ v.kpe.stream = []
        ∧ v.rd Reg.KPE_TX_PKT_CNT = min (w.rd Reg.KPE_TX_PKT_CNT + 1) (2 ^ 32 - 1) ∧ onlyParts [.kpe, .regs, .eth, .lan] w v)
    ∧ (∀ q r, w.sub i = some x → w.kpe.stream = q :: r → q.sub = i → q.formedAt + 100 * us ≤ w.now → r.all (fun y => !(y.sub == i && y.seq == q.seq)) = true →
        i < 512 → q.session < 128 →
      ∃ v, exec (.streamPacketDrop i t) s = .next v ∧ v.kpe.stream = r ∧ (v.sub i) = some { x with gap := true }
        ∧ v.rd (Reg.KPE_S_STREAM_DROP_CNT q.session) = min (w.rd (Reg.KPE_S_STREAM_DROP_CNT q.session) + 1) (2 ^ 32 - 1)
        ∧ onlyParts [.kpe, .regs] w v)

/-- KICK restarts the watchdog with 0xC0DE alone; a conversion reports every site and rail and the hottest site; a site that rises above TWARN
warns and is recorded; a second conversion above TCRIT, and a rail fault, put the chip into SAFE; SEAL_N's level is the seal's; a write of
OTP_VAL burns ones into a programmable word and none elsewhere. -/
def Obligations.ManagementWatchesAndBurns : Prop :=
  ∀ (t : Instant) (s w : State), w = s.atT t → storeWf w.regs.live →
    (∀ m x, commandable w m .mgc none → exec (.kick m x t) s = .next (if x.toNat % 2 ^ 16 = 0xC0DE then
      { w with mgc := { w.mgc with kickAt := w.now } }.done else w.done))
    ∧ (∀ temps mv n r, w.isolated .sns = false → n < 8 → r < 12 → (List.range 8).all (fun i => decide (signed 16 (temps.getD i 0) ≤ w.tcrit)) = true →
      ∃ v, exec (.snsConversion temps mv t) s = .next v ∧ v.rd (Reg.SNS_TEMP n) = temps.getD n 0 % 2 ^ 16
        ∧ v.rd (Reg.SNS_MV r) = mv.getD r 0 % 2 ^ 16
        ∧ signed 16 (temps.getD n 0) ≤ signed 16 (v.rd Reg.SNS_HOT_TEMP) ∧ v.rd Reg.SNS_HOT_SITE < 8
        ∧ v.rd Reg.SNS_HOT_TEMP = temps.getD (v.rd Reg.SNS_HOT_SITE) 0 % 2 ^ 16
        ∧ v.sns.warm.getD n false = (decide (n < w.sns.warm.length) && decide (signed 16 (w.rd Reg.SNS_TWARN) < signed 16 (temps.getD n 0)))
        ∧ onlyParts [.sns, .regs, .evr] w v)
    ∧ (∀ temps mv, w.isolated .sns = false → signed 16 (w.rd Reg.SNS_TWARN) < signed 16 (temps.getD 7 0) → signed 16 (temps.getD 7 0) ≤ w.tcrit →
        (List.range 7).all (fun i => decide (signed 16 (temps.getD i 0) ≤ signed 16 (w.rd Reg.SNS_TWARN))
          && decide (signed 16 (temps.getD i 0) ≤ w.tcrit)) = true →
        w.sns.warm = List.replicate 8 false → (List.range 12).all (fun r => decide (mv.getD r 0 = railNominal r)) = true →
      ∃ v, exec (.snsConversion temps mv t) s = .next v ∧ v.rd Reg.SNS_TWARN_CNT = min (w.rd Reg.SNS_TWARN_CNT + 1) (2 ^ 32 - 1)
        ∧ (Store.get v.regs.causes Reg.SNS_STAT_TWARN.addr).getLsbD 7 = true ∧ onlyParts [.sns, .regs, .evr] w v)
    ∧ (∀ temps mv n, w.isolated .sns = false → n < 8 → w.tcrit < signed 16 (temps.getD n 0) → w.sns.hot.getD n false = true →
      ∃ v, exec (.snsConversion temps mv t) s = .next v ∧ v.chp.safe = true)
    ∧ (∀ r, w.isolated .sns = false → ∃ v, exec (.railFault r t) s = .next v ∧ v.chp.safe = true ∧ v.isolatedAt .sns none = true)
    ∧ (∀ high, exec (.sealNChange high t) s = .next { w with pwr := { w.pwr with sealOpen := high } })
    ∧ (∀ m x k, commandable w m .upd none → w.maySeal m = true → k = w.rd Reg.UPD_OTP_PROG_WORD → ((4 ≤ k ∧ k ≤ 19) ∨ k = 20) → w.upd.otp.length = 64 →
      ∃ v, exec (.otpProgram m x t) s = .next v
        ∧ v.upd.otp.getD k 0 = w.upd.otp.getD k 0 ||| (if k = 20 then x &&& 3 else x) ∧ v.upd.otp.eraseIdx k = w.upd.otp.eraseIdx k
        ∧ onlyParts [.upd, .regs, .bus] w v)
    ∧ (∀ m x k, commandable w m .upd none → w.maySeal m = true → k = w.rd Reg.UPD_OTP_PROG_WORD → (k < 4 ∨ 20 < k) →
      exec (.otpProgram m x t) s = .next (w.event [Reg.UPD_STAT_OTP_DENIED]).done)
    ∧ (∀ m x, w.isolatedAt .upd none = false → w.mayPriv m = true → w.maySeal m = false →
      exec (.otpProgram m x t) s = .next ((w.bump Reg.CHP_DENY_CNT_SEAL).event [Reg.CHP_CHIP_STAT_DENIED]).done)

/-- TIM.SET asks for a step at the next whole microsecond, and in MODE 1 only from the servo; the step sets device time and records CLOCK_SET with
the old time; an offset below STEP.NS is slewed and another one stepped; sixteen Sync messages below LOCK_NS lock the servo, four above four times
LOCK_NS or none for HOLD_S seconds lose it to HOLDOVER; a PPS edge is timestamped and in MODE 2 corrects; uptime is the instant, and none of
these changes it. -/
def Obligations.DeviceTimeIsDisciplined : Prop :=
  ∀ (t : Instant) (s w : State), w = s.atT t → storeWf w.regs.live →
    (∀ m x servo, commandable w m .tim none → (w.rd Reg.TIM_MODE ≠ 1 ∨ servo = true) →
      exec (.timSet m x servo t) s = .next ({ w with tim := { w.tim with step := some (x.toNat, (w.now / 10 ^ 6 + 1) * 10 ^ 6) } }).done)
    ∧ (∀ m x, commandable w m .tim none → w.rd Reg.TIM_MODE = 1 →
      exec (.timSet m x false t) s = .next ((w.event [Reg.TIM_STAT_SET_REFUSED]).bump Reg.TIM_SET_REFUSED_CNT).done)
    ∧ (∀ x a, w.tim.step = some (x, a) → a = w.now → w.rd Reg.TIM_ADJ = 0 → x < 2 ^ 64 → w.evr.buf.length < 2048 →
      ∃ v, exec (.timeStep t) s = .next v ∧ v.devTime = x ∧ v.tim.timeSet = true ∧ v.tim.step = none ∧ v.tim.slew = none ∧ v.now = w.now
        ∧ newest v = some (1, 3, w.devTime) ∧ (v.evr.buf.getLast?).map (fun r => r.1.time) = some x
        ∧ v.rd Reg.TIM_STEP_CNT = min (w.rd Reg.TIM_STEP_CNT + 1) (2 ^ 32 - 1) ∧ onlyParts [.tim, .regs, .evr] w v)
    ∧ (∀ d : Int, w.rd Reg.TIM_MODE = 1 → w.tim.state = .acquiring → w.tim.good < 15 → d.natAbs < w.rd Reg.TIM_STEP_NS → d ≠ 0 → d.natAbs < w.rd Reg.TIM_LOCK_NS →
      ∃ v, exec (.ptpSync d t) s = .next v ∧ v.tim.state = .acquiring ∧ v.tim.good = w.tim.good + 1 ∧ v.tim.bad = 0 ∧ v.tim.syncAt = w.now
        ∧ v.rd Reg.TIM_OFFSET = (d % 2 ^ 32).toNat ∧ v.tim.step = w.tim.step
        ∧ v.tim.slew = some (d, w.now + d.natAbs * 10 ^ 9 / max 1 (w.rd Reg.TIM_SLEW_PPM)) ∧ v.devTime = w.devTime ∧ onlyParts [.tim, .regs] w v)
    ∧ (∀ d : Int, w.rd Reg.TIM_MODE = 1 → w.tim.state = .acquiring → w.tim.good = 15 → d.natAbs < w.rd Reg.TIM_LOCK_NS →
      ∃ v, exec (.ptpSync d t) s = .next v ∧ v.tim.state = .locked ∧ v.tim.good = 16 ∧ onlyParts [.tim, .regs, .evr] w v)
    ∧ (∀ d : Int, w.rd Reg.TIM_MODE = 1 → w.tim.state = .locked → w.tim.bad = 3 → 4 * w.rd Reg.TIM_LOCK_NS < d.natAbs →
      ∃ v, exec (.ptpSync d t) s = .next v ∧ v.tim.state = .holdover ∧ v.tim.step = w.tim.step ∧ v.devTime = w.devTime
        ∧ v.rd Reg.TIM_LOST_CNT = min (w.rd Reg.TIM_LOST_CNT + 1) (2 ^ 32 - 1) ∧ onlyParts [.tim, .regs, .evr] w v)
    ∧ (w.rd Reg.TIM_MODE = 1 → w.tim.state = .locked → w.tim.syncAt + max 1 (w.rd Reg.TIM_HOLD_S) * sec ≤ w.now →
      ∃ v, exec (.ptpHoldover t) s = .next v ∧ v.tim.state = .holdover ∧ v.devTime = w.devTime
        ∧ v.rd Reg.TIM_LOST_CNT = min (w.rd Reg.TIM_LOST_CNT + 1) (2 ^ 32 - 1) ∧ onlyParts [.tim, .regs, .evr] w v)
    ∧ (w.rd Reg.TIM_MODE ≠ 2 → ∃ v, exec (.ppsEdge t) s = .next v ∧ v.rd Reg.TIM_PPS_TIME = w.devTime ∧ v.tim = w.tim ∧ onlyParts [.regs] w v)
    ∧ (∀ d : Int, w.rd Reg.TIM_MODE = 2 → d = ((w.devTime + 5 * 10 ^ 8) / 10 ^ 9 * 10 ^ 9 : Nat) - (w.devTime : Int) → w.rd Reg.TIM_STEP_NS ≤ d.natAbs →
        w.rd Reg.TIM_ADJ = 0 → w.tim.slew = none →
      ∃ v, exec (.ppsEdge t) s = .next v ∧ v.rd Reg.TIM_PPS_TIME = w.devTime ∧ v.rd Reg.TIM_OFFSET = (d % 2 ^ 32).toNat
        ∧ (v.tim.step.map (fun x => x.2)) = some ((w.now / 10 ^ 6 + 1) * 10 ^ 6) ∧ v.devTime = w.devTime ∧ onlyParts [.tim, .regs] w v)
    ∧ (∀ d e, w.tim.slew = some (d, e) → e ≤ w.now →
      ∃ v, exec (.timeSlewEnd t) s = .next v ∧ v.tim.slew = none ∧ v.devTime = w.devTime ∧ v.tim.state = w.tim.state ∧ onlyParts [.tim] w v)

/-- A second that suppressed a key forms its RATE_LIMITED record; a record that has waited 1 s is flushed; a page programmed right enters the log,
its records count as flushed and the write point moves on; a failure seals the log and is recorded; ERASE erases sector by sector, waits for a
page, and ends with LOG_ERASED and the seal gone. -/
def Obligations.RecorderKeepsItsLog : Prop :=
  ∀ (t : Instant) (s w : State), w = s.atT t → storeWf w.regs.live →
    (∀ k, w.evr.sec = w.now / sec → w.evr.due = [k] → k.zone < 2 ^ 8 → k.code < 2 ^ 16 → k.kind < 2 ^ 8 → k.supp < 2 ^ 32 → w.evr.buf.length < 2048 →
      ∃ v, exec (.rateLimitSecond t) s = .next v ∧ newest v = some (1, 16, k.code + k.kind * 2 ^ 16 + k.zone * 2 ^ 24 + k.supp * 2 ^ 32)
        ∧ v.evr.due = [] ∧ v.rd Reg.EVR_NEXT_SEQ = (w.rd Reg.EVR_NEXT_SEQ + 1) % 2 ^ 32 ∧ onlyParts [.evr, .regs] w v)
    ∧ (∀ r rest, w.evr.waiting = r :: rest → r.uptime * 1000 + sec ≤ w.now → logReady w →
      ∃ v, exec (.flushTimeout t) s = .next v ∧ v.evr.page = some (w.evr.waiting.take 8) ∧ v.evr.buf = w.evr.buf ∧ onlyParts [.evr] w v)
    ∧ (∀ recs, w.evr.page = some recs → w.evr.writeAt.2 < 255 → w.evr.erasePending = false → w.evr.urgent = 0 →
        ((w.evr.waiting.filter (fun r => !(recs.any (fun x => x.seq == r.seq)))).length < 8) → w.evr.writeAt.1 < w.logSectors →
      ∃ v, exec (.pageProgrammed 0 t) s = .next v ∧ v.evr.page = none
        ∧ v.evr.log = w.evr.log ++ [{ sector := w.evr.writeAt.1, page := w.evr.writeAt.2, recs := recs }]
        ∧ v.evr.writeAt = (w.evr.writeAt.1, w.evr.writeAt.2 + 1)
        ∧ v.evr.buf = w.evr.buf.map (fun x => if recs.any (fun r => r.seq == x.1.seq) then (x.1, true) else x)
        ∧ v.rd Reg.EVR_PAGE_CNT = min (w.rd Reg.EVR_PAGE_CNT + 1) (2 ^ 32 - 1) ∧ onlyParts [.evr, .regs] w v)
    ∧ (∀ recs res, w.evr.page = some recs → (res = 1 ∨ res = 3) → w.evr.erasePending = false → w.evr.buf.length < 2048 →
      ∃ v, exec (.pageProgrammed res t) s = .next v ∧ v.evr.sealed = true ∧ v.evr.page = none ∧ v.evr.log = w.evr.log ∧ v.evr.lwMedia = true
        ∧ newest v = some (1, 10, 0x2000000 + w.evr.writeAt.1 * 0x10000 + w.evr.writeAt.2 * 256 + res * 2 ^ 32)
        ∧ v.rd (Reg.EVR_LW 0) = w.rd Reg.EVR_NEXT_SEQ ∧ onlyParts [.evr, .regs] w v)
    ∧ (∀ k, w.evr.eraseSector = some k → w.evr.buf.length < 2048 →
      ∃ v, exec (.sectorEraseDone false t) s = .next v ∧ v.evr.sealed = true ∧ v.evr.log = w.evr.log
        ∧ newest v = some (1, 10, 0x2000000 + k * 0x10000 + 2 * 2 ^ 32) ∧ onlyParts [.evr, .regs] w v)
    ∧ (∀ k, w.evr.eraseSector = some k → w.evr.erasing = true →
      exec (.sectorEraseDone true t) s = .next { w with evr := { w.evr with
        log := w.evr.log.filter (fun p => p.sector != k), erased := w.evr.erased + 1
        eraseSector := if k + 1 < w.logSectors then some (k + 1) else none } })
    ∧ (w.evr.erasing = true → w.evr.eraseSector = none → w.evr.buf.length < 2048 →
      ∃ v, exec (.logErased t) s = .next v ∧ v.evr.log = [] ∧ v.evr.sealed = false ∧ v.evr.erasing = false ∧ v.evr.writeAt = (0, 0)
        ∧ newest v = some (1, 17, w.evr.erased % 2 ^ 64) ∧ onlyParts [.evr, .regs] w v)
    ∧ (∀ m, commandable w m .evr none → w.evr.erasing = false → w.logSectors ≠ 0 → w.evr.page = none →
      exec (.evrErase m t) s = .next ({ w with evr := { w.evr with
        erasing := true, erasePending := false, erased := 0, eraseSector := some 0 } }).done)
    ∧ (∀ m, commandable w m .evr none → w.evr.erasing = false → w.logSectors ≠ 0 → w.evr.page ≠ none →
      exec (.evrErase m t) s = .next ({ w with evr := { w.evr with erasePending := true } }).done)
    ∧ (∀ m, commandable w m .evr none → w.evr.erasing = true → exec (.evrErase m t) s = .next w.done)

/-- BEGIN erases the inactive slot; WRITE programs at the end of the one before, and elsewhere is out of sequence; VERIFY says what R500 finds;
ACTIVATE, only of a verified slot, makes it active in TRIAL; COMMIT clears TRIAL and raises the rollback count; REVERT goes back; STATUS, ATTEST
and LOG_SIGN report and sign. Outside SERVICE and RECOVERY all are turned away, and 1 to 6 while the seal is intact; the reset that an ACTIVATE asked
for is a chip reset of cause UPDATE. -/
def Obligations.UpdateSubopsAct : Prop :=
  ∀ (t : Instant) (s w : State) (n tag op fl off len : Nat) (data : List Byte) (c : InFlight), w = s.atT t → mayAct w n tag c →
    c.args = .update op fl off len data →
    (∀ i, updateServed w op → op = 1 → i < 0x800000 →
      ∃ v, exec (.updBegin n tag true t) s = .next v ∧ ends v n tag .complete 0 (leBytes 1 w.inactive) ∧ v.upd.next = some 0 ∧ v.upd.verified = false
        ∧ v.slotBytes w.inactive i 1 = [0] ∧ v.slotBytes (1 - w.inactive) i 1 = w.slotBytes (1 - w.inactive) i 1 ∧ v.upd.boot = w.upd.boot ∧ v.upd.otp = w.upd.otp ∧ onlyParts [.upd, .kpe, .evr, .regs] w v)
    ∧ (updateServed w op → op = 1 →
      ∃ v, exec (.updBegin n tag false t) s = .next v ∧ ends v n tag (.update 0x0107) 0 [] ∧ v.upd.next = none ∧ onlyParts [.upd, .kpe, .evr, .regs] w v)
    ∧ (∀ i, updateServed w op → op = 2 → storeWf w.upd.flash → w.upd.next = some off → off + data.length ≤ 0x800000 → i < data.length →
      ∃ v, exec (.updWrite n tag true t) s = .next v ∧ ends v n tag .complete 0 [] ∧ v.upd.next = some (off + data.length) ∧ v.upd.verified = false
        ∧ v.slotBytes w.inactive (off + i) 1 = [data.getD i 0] ∧ (v.cmd n tag).map (fun x => x.bytes) = some (c.bytes + data.length)
        ∧ v.upd.boot = w.upd.boot ∧ onlyParts [.upd, .kpe, .evr, .regs] w v)
    ∧ (updateServed w op → op = 2 → w.upd.next ≠ some off →
      ∃ v, exec (.updWrite n tag true t) s = .next v ∧ ends v n tag (.update 0x0106) 0 [] ∧ v.upd = w.upd ∧ onlyParts [.kpe, .evr, .regs] w v)
    ∧ (updateServed w op → op = 3 →
      ∃ v, exec (.updVerify n tag t) s = .next v ∧ v.upd = { w.upd with verified := w.imageValid w.inactive } ∧ onlyParts [.upd, .kpe, .evr, .regs] w v
        ∧ (w.imageFault w.inactive = none → ends v n tag .complete 0 (leBytes 4 (w.header w.inactive 8 4) ++ leBytes 2 (w.header w.inactive 12 2)))
        ∧ (w.imageFault w.inactive ≠ none → ends v n tag (.update ((w.imageFault w.inactive).getD 0)) 0 []))
    ∧ (updateServed w op → op = 4 → w.upd.verified = true → w.upd.boot.length = 2 → fl % 2 = 1 →
      ∃ v, exec (.updActivate n tag t) s = .next v ∧ ends v n tag .complete 0 [] ∧ v.bootRecord.active = w.inactive ∧ v.bootRecord.trial = true
        ∧ v.bootRecord.tries = 0 ∧ v.bootRecord.generation = w.bootRecord.generation + 1 ∧ v.upd.boot.getD w.recordAt {} = w.bootRecord
        ∧ v.upd.resetWaits = some (n, tag) ∧ onlyParts [.upd, .kpe, .evr, .regs] w v)
    ∧ (updateServed w op → op = 4 → w.upd.verified = false →
      ∃ v, exec (.updActivate n tag t) s = .next v ∧ ends v n tag (.update 0x0109) 0 [] ∧ v.upd = w.upd ∧ onlyParts [.kpe, .evr, .regs] w v)
    ∧ (updateServed w op → op = 5 → w.upd.runTrial = true → w.bootRecord.trial = true → w.bootRecord.active = w.upd.runSlot → w.upd.boot.length = 2 →
        w.upd.otp.length = 64 → w.header w.upd.runSlot 12 2 ≤ 128 →
      ∃ v, exec (.updCommit n tag t) s = .next v ∧ ends v n tag .complete 0 [] ∧ v.bootRecord.trial = false ∧ v.bootRecord.active = w.bootRecord.active
        ∧ v.rollback = max w.rollback (w.header w.upd.runSlot 12 2) ∧ v.upd.runTrial = false ∧ onlyParts [.upd, .kpe, .evr, .regs] w v)
    ∧ (updateServed w op → op = 5 → (w.upd.runTrial = false ∨ w.bootRecord.trial = false) →
      ∃ v, exec (.updCommit n tag t) s = .next v ∧ ends v n tag (.update 0x0108) 0 [] ∧ v.upd = w.upd ∧ onlyParts [.kpe, .evr, .regs] w v)
    ∧ (updateServed w op → op = 6 → w.upd.boot.length = 2 →
      ∃ v, exec (.updRevert n tag t) s = .next v ∧ v.upd.flash = w.upd.flash ∧ v.upd.otp = w.upd.otp ∧ onlyParts [.upd, .kpe, .evr, .regs] w v
        ∧ (w.imageFault w.inactive = none → ends v n tag .complete 0 [] ∧ v.bootRecord.active = w.inactive ∧ v.bootRecord.trial = false)
        ∧ (w.imageFault w.inactive ≠ none → ends v n tag (.update ((w.imageFault w.inactive).getD 0)) 0 [] ∧ v.upd = w.upd))
    ∧ (updateServed w op → op = 7 →
      ∃ v, exec (.updStatus n tag t) s = .next v ∧ onlyParts [.kpe, .evr, .regs] w v
        ∧ ends v n tag .complete 0 (leBytes 1 w.bootRecord.active ++ leBytes 1 (if w.bootRecord.trial then 1 else 0) ++ leBytes 1 w.bootRecord.tries ++ [0]
          ++ leBytes 4 (w.header 0 8 4) ++ leBytes 4 (w.header 1 8 4) ++ leBytes 1 w.rollback))
    ∧ (∀ m, updateServed w op → op = 8 → m = data ++ leBytes 4 (w.otpWord 0).toNat ++ leBytes 4 (w.otpWord 1).toNat ++ leBytes 8 w.devTime
          ++ leBytes 8 w.uptimeNs ++ leBytes 1 w.bootRecord.active ++ leBytes 1 (if w.bootRecord.trial then 1 else 0) ++ leBytes 1 w.rollback ++ [0]
          ++ leBytes 4 (w.rd Reg.CHP_TUNING_ID_ID) ++ leBytes 64 w.upd.runHash.toNat →
      ∃ v, exec (.updAttest n tag t) s = .next v ∧ onlyParts [.kpe, .evr, .regs] w v
        ∧ ends v n tag .complete 0 (m ++ (List.range 64).map (fun i => Config.idSign w.idKey m i)))
    ∧ (∀ h, updateServed w op → op = 9 →
        h = leBytes 64 (Config.sha512 ((w.evr.held.filter (fun r => decide (off ≤ r.seq) && decide (r.seq < off + len))).flatMap EvRec.bytes)).toNat →
      ∃ v, exec (.updLogSign n tag t) s = .next v ∧ onlyParts [.kpe, .evr, .regs] w v
        ∧ ends v n tag .complete 0 (h ++ (List.range 64).map (fun i => Config.idSign w.idKey h i)))
    ∧ (w.chp.mode ≠ .service → w.chp.mode ≠ .recovery → op = 1 →
      ∃ v, exec (.updBegin n tag true t) s = .next v ∧ ends v n tag .wrongMode 0 [] ∧ v.upd = w.upd ∧ onlyParts [.kpe, .evr, .regs] w v)
    ∧ ((w.chp.mode = .service ∨ w.chp.mode = .recovery) → w.pwr.sealOpen = false → op = 2 →
      ∃ v, exec (.updWrite n tag true t) s = .next v ∧ ends v n tag (.update 0x0101) 0 [] ∧ v.upd = w.upd ∧ onlyParts [.kpe, .evr, .regs] w v)

/-- A pin, JTAG, clock, rail or UPDATE reset resets every block and keeps time, the retained buffer, flash and OTP; the MACs take their addresses from
OTP; power-on resets uptime and the buffer too, and power-down loses them; the internal reset is released 1 ms after rails and RESET_N into
BOOT. A lost CREF stops GDA and trips GDB, a lost SYSCLK trips both, and a chip reset follows; a lost LREF takes the links down; a
crystal failure trips GDB; PFAIL_N trips both guards, halts the tab and records POWER_FAIL, and its rise undoes nothing. -/
def Obligations.ResetsKeepWhatTheyKeep : Prop :=
  ∀ (t : Instant) (s w : State), w = s.atT t →
    (∀ m, m < 4 →
      ∃ v, exec (.jtagReset t) s = .next v ∧ chipResetOf w v .jtag
        ∧ v.rd (Reg.ETH_M_ADDR m) = ((w.otpWord 2).toNat + (w.otpWord 3).toNat % 2 ^ 16 * 2 ^ 32 + m) % 2 ^ 48)
    ∧ (∃ v, exec (.pinReset true t) s = .next v ∧ chipResetOf w v .pin ∧ v.pwr.fallback = false ∧ v.pwr.resetNHigh = none)
    ∧ (w.pwr.resetNHigh = none →
      exec (.pinReset false t) s = .next { w with pwr := { w.pwr with resetNHigh := some w.now } })
    ∧ (∃ v, exec (.railReset t) s = .next v ∧ chipResetOf w v .rail ∧ v.pwr.railsSince = none)
    ∧ (∀ a, w.pwr.clockResetAt = some a → a ≤ w.now →
      ∃ v, exec (.clockReset t) s = .next v ∧ chipResetOf w v .clock ∧ v.pwr.clockResetAt = none)
    ∧ (∀ a, w.upd.resetAt = some a → a ≤ w.now → ∃ v, exec (.updateReset t) s = .next v ∧ chipResetOf w v .update)
    ∧ (∃ v, exec (.powerOn t) s = .next v ∧ v.now = 0 ∧ v.pwr.cause = .powerOn ∧ v.pwr.inReset = true ∧ v.pwr.aonUp = true ∧ v.evr.buf = []
        ∧ v.evr.log = s.evr.log ∧ v.upd.otp = s.upd.otp ∧ v.upd.flash = s.upd.flash ∧ v.upd.boot = s.upd.boot ∧ v.chp = State.reset.chp
        ∧ v.tim.timeSet = false ∧ v.pending = s.pending)
    ∧ (∀ others, ∃ v, exec (.powerDown others t) s = .next v ∧ v.pwr.aonUp = false ∧ v.evr.buf = [] ∧ v.evr.log = s.evr.log
        ∧ v.upd.otp = s.upd.otp ∧ v.chp = State.reset.chp ∧ v.pwr.enablesOpen.isSome = others ∧ v.pending = s.pending)
    ∧ (∀ sel a b, w.pwr.inReset = true → w.pwr.aonUp = true → w.pwr.testen = false → w.pwr.railsSince = some a → a + ms ≤ w.now →
        w.pwr.resetNHigh = some b → b + ms ≤ w.now →
      ∃ v, exec (.resetRelease false sel t) s = .next v ∧ v.pwr.inReset = false ∧ v.chp = w.chp ∧ v.mgc.bootsel = sel ∧ v.mgc.kickAt = w.now
        ∧ v.mgc.runs = .bootRom ∧ onlyParts [.pwr, .mgc, .guards, .gda, .gdb, .evr, .regs] w v)
    ∧ (∀ sel, (w.pwr.railsSince.all (fun a => decide (a + ms ≤ w.now)) = false ∨ w.pwr.resetNHigh = none) →
      exec (.resetRelease false sel t) s = .next w)
    ∧ (w.pwr.clocks.getD 0 false = true → w.gda.stopped = false → w.gdb.stopped = false → w.gdb.state = .armed → w.pwr.clockResetAt = none →
      ∃ v, exec (.refClockLost 0 t) s = .next v ∧ v.gda.stopped = true ∧ v.gda.state = w.gda.state ∧ v.gdb.state = .tripped ∧ v.gdb.cause = .refClock
        ∧ v.pwr.clockResetAt = some (w.now + 10 ^ 7) ∧ v.pwr.clocks.getD 0 true = false)
    ∧ (w.pwr.clocks.getD 1 false = true → w.gda.stopped = false → w.gdb.stopped = false → w.gda.state = .armed → w.gdb.state = .armed →
        w.pwr.clockResetAt = none →
      ∃ v, exec (.refClockLost 1 t) s = .next v ∧ v.gda.state = .tripped ∧ v.gda.cause = .refClock ∧ v.gdb.state = .tripped
        ∧ v.gdb.cause = .refClock ∧ v.pwr.clockResetAt = some (w.now + 10 ^ 7))
    ∧ (w.pwr.clocks.getD 2 false = true → w.eth.macs.length = 4 →
      ∃ v, exec (.refClockLost 2 t) s = .next v ∧ v.eth.macs.all (fun x => x.state == .disabled) = true
        ∧ (w.on Reg.LAN_CFG_C1_PEER = true → v.lan.course.state = .down) ∧ v.gda = w.gda ∧ v.gdb = w.gdb ∧ v.psq = w.psq)
    ∧ (∀ k, k < 3 → k ≠ 0 → w.pwr.clocks.length = 3 → w.pwr.clocks.getD k true = false → w.pwr.lostAt.getD k 0 + ms ≤ w.now →
      ∃ v, exec (.refClockPresent k t) s = .next v ∧ v.pwr = { w.pwr with clocks := w.pwr.clocks.set k true } ∧ v.gda = w.gda ∧ v.gdb = w.gdb)
    ∧ (w.pwr.fallback = false → w.gdb.stopped = false → w.gdb.state = .armed →
      ∃ v, exec (.crystalFail t) s = .next v ∧ v.pwr = { w.pwr with fallback := true } ∧ v.gdb.state = .tripped ∧ v.gdb.cause = .clock
        ∧ v.tiu.units.all (fun u => !u.rateValid && u.results.isEmpty) = true ∧ v.gda.state = w.gda.state)
    ∧ (w.pwr.pfailLow = false → w.gda.stopped = false → w.gdb.stopped = false → w.gda.state = .armed → w.gdb.state = .armed → w.psq.state = .idle →
        w.evr.buf.length < 2000 →
      ∃ v, exec (.pfailLow t) s = .next v ∧ v.pwr = { w.pwr with pfailLow := true } ∧ v.gda.state = .tripped ∧ v.gda.cause = .powerFail
        ∧ v.gdb.state = .tripped ∧ v.gdb.cause = .powerFail ∧ (newest v).map (fun r => (r.1, r.2.1)) = some (1, 11))
    ∧ (exec (.pfailRise t) s = .next { w with pwr := { w.pwr with pfailLow := false } })

/-- BOOT ends with the slot that the boot record or BOOTSEL names, if its image is valid, in PREP, else with the other slot, else in RECOVERY under the
boot ROM's service; TRIES counts a boot in TRIAL, and the fourth one reverts. PREP's steps pass in order, or one that fails ends in RECOVERY. The
boot tuning is applied once after step 7 as a SECURE master, and its flags request SERVICE, restart the light and start the tab, each only after the
one before. -/
def Obligations.BootAndPrepRunTheirSteps : Prop :=
  ∀ (t : Instant) (s w : State) (r : BootCopy), w = s.atT t → r = w.bootRecord →
    (w.pwr.inReset = false → w.chp.mode = .boot → w.mgc.bootsel = 0 → r.trial = false → r.active ≤ 1 → w.pwr.pfailLow = false → w.upd.boot.length = 2 →
      ∃ v, exec (.bootComplete t) s = .next v
        ∧ (w.imageValid r.active = true → v.chp.mode = .prep ∧ v.mgc.runs = .firmware ∧ v.upd.runSlot = r.active ∧ v.upd.runTrial = false
          ∧ v.upd.boot = w.upd.boot ∧ v.pwr.prepPassed = 0)
        ∧ (w.imageValid r.active = false → w.imageValid (1 - r.active) = true → v.chp.mode = .prep ∧ v.upd.runSlot = 1 - r.active
          ∧ v.bootRecord.active = 1 - r.active ∧ v.bootRecord.trial = false)
        ∧ (w.imageValid r.active = false → w.imageValid (1 - r.active) = false → v.chp.mode = .recovery ∧ v.mgc.runs = .romRecovery
          ∧ v.upd.boot = w.upd.boot))
    ∧ (w.pwr.inReset = false → w.chp.mode = .boot → w.mgc.bootsel = 0 → r.trial = true → r.tries < 3 → w.pwr.pfailLow = false → w.upd.boot.length = 2 →
      ∃ v, exec (.bootComplete t) s = .next v ∧ v.bootRecord.tries = r.tries + 1
        ∧ (w.imageValid r.active = true → v.chp.mode = .prep ∧ v.upd.runSlot = r.active ∧ v.upd.runTrial = true
          ∧ v.bootRecord = { r with tries := r.tries + 1, generation := r.generation + 1, valid := true }))
    ∧ (w.pwr.inReset = false → w.chp.mode = .boot → w.mgc.bootsel = 0 → r.trial = true → r.tries = 3 → r.active ≤ 1 → w.pwr.pfailLow = false →
        w.upd.boot.length = 2 →
      ∃ v, exec (.bootComplete t) s = .next v ∧ v.bootRecord.trial = false ∧ v.upd.runTrial = false
        ∧ (w.imageValid (1 - r.active) = true → v.chp.mode = .prep ∧ v.upd.runSlot = 1 - r.active ∧ v.bootRecord.active = 1 - r.active))
    ∧ (w.pwr.inReset = false → w.chp.mode = .boot → w.mgc.bootsel = 3 →
      ∃ v, exec (.bootComplete t) s = .next v ∧ v.chp.mode = .recovery ∧ v.mgc.runs = .romRecovery ∧ v.upd.boot = w.upd.boot)
    ∧ (w.chp.mode = .prep → w.pwr.prepPassed = 0 → w.pwr.clocks = [true, true, true] →
      ∃ v, exec (.prepSteps true t) s = .next v ∧ v.chp.mode = .prep ∧ v.pwr.prepPassed = 2 ∧ v.pwr.prepBegun = true
        ∧ v.dmc.subs.all (fun c => c.state == .training) = true)
    ∧ (w.chp.mode = .prep → w.pwr.prepPassed = 0 → w.pwr.clocks.getD 0 true = false →
      ∃ v, exec (.prepSteps true t) s = .next v ∧ v.chp.mode = .recovery)
    ∧ (w.chp.mode = .prep → w.pwr.prepPassed = 1 → ∃ v, exec (.prepSteps false t) s = .next v ∧ v.chp.mode = .recovery)
    ∧ (w.chp.mode = .prep → w.pwr.prepPassed = 6 → ∃ v, exec (.prepSteps true t) s = .next v ∧ v.chp.mode = .prep ∧ v.pwr.prepPassed = 7)
    ∧ (∀ porhorn a b c, w.chp.mode = .prep → w.pwr.prepPassed = 7 → w.mgc.runs = .firmware → w.pwr.bootTuned = false → w.chp.stage ≠ .checking →
      ∃ v, exec (.bootTuning [] porhorn a b c t) s = .next v ∧ v.pwr.bootTuned = true ∧ v.pwr.bootAct = .checking ∧ v.mgc.secure = false
        ∧ v.pwr.tuning = { writes := [], porhorn := porhorn, autoService := a, autoLight := b, autoStart := c })
    ∧ (w.chp.mode ≠ .prep ∨ w.pwr.bootTuned = true → ∀ ws porhorn a b c, exec (.bootTuning ws porhorn a b c t) s = .next w)
    ∧ (w.pwr.bootAct = .checking → w.chp.stage = .checked → w.chp.mode = .prep → w.pwr.tuning.autoService = true → w.prepComplete = true →
        w.isolatedAt .chp none = false → w.pwr.tuning.autoLight = true → w.chp.retuneDue = none →
      ∃ v, exec (.autoService t) s = .next v ∧ v.chp.mode = .service ∧ v.pwr.bootAct = .light)
    ∧ (w.pwr.bootAct = .checking → w.chp.stage = .failed → exec (.autoService t) s = .next { w with pwr := { w.pwr with bootAct := .none } })
    ∧ (w.pwr.bootAct = .light → w.chp.mode = .service → w.restartHolds = true → w.pwr.tuning.autoStart = true → w.guards.attemptAt = none →
        w.guards.lastAttempt ≠ some w.now → w.isolatedAt .gdb none = false → w.chp.retuneDue = none →
      ∃ v, exec (.autoLight t) s = .next v ∧ v.guards.lastAttempt = some w.now ∧ v.pwr.bootAct = .start)
    ∧ (w.pwr.bootAct = .light → w.chp.mode = .service → w.restartHolds = false → w.now < w.pwr.serviceAt + 10 * sec → exec (.autoLight t) s = .next w)
    ∧ (w.pwr.bootAct = .start → w.chp.mode = .service → (w.gda.state ≠ .armed ∨ w.gdb.state ≠ .armed) → exec (.autoStart t) s = .next w)
    ∧ (w.pwr.bootAct = .start → w.chp.mode = .service → w.gda.state = .armed → w.gdb.state = .armed → w.psq.state = .idle →
        w.isolatedAt .psq none = false → w.chp.safe = false → w.chp.retuneDue = none →
      ∃ v, exec (.autoStart t) s = .next v ∧ v.psq.state = .running ∧ v.pwr.bootAct = .none)

/-- In the state after reset, and after every command that resets the part, both banks hold every register's reset word and zero in every byte
of every memory, and the stage is CLEAN. -/
def Obligations.AfterResetBothBanksHoldTheirResetValues : Prop :=
  ∀ (t : Instant) (s w : State), w = s.atT t →
    resetBanks State.reset
    ∧ (∃ v, exec (.powerOn t) s = .next v ∧ resetBanks v)
    ∧ (∃ v, exec (.jtagReset t) s = .next v ∧ resetBanks v)
    ∧ (∃ v, exec (.pinReset true t) s = .next v ∧ resetBanks v)
    ∧ (∃ v, exec (.railReset t) s = .next v ∧ resetBanks v)
    ∧ (∀ a, w.pwr.clockResetAt = some a → a ≤ w.now → ∃ v, exec (.clockReset t) s = .next v ∧ resetBanks v)
    ∧ (∀ a, w.upd.resetAt = some a → a ≤ w.now → ∃ v, exec (.updateReset t) s = .next v ∧ resetBanks v)

/-- A write to a tuned field, or to a memory's copy, that R59 refuses completes, counts in STAGE_CNT.REFUSED, sets TSTAT.REFUSAL and changes nothing
else; an access through the stage view to a register that is not tuned, or to a snapshot shadow, reads zero or writes nothing, and counts in
STAGE_CNT.MISS (and, for a write of an OPEN master, in DENY_CNT.PRIV). -/
def Obligations.RefusedAndMissedStageAccessesAreCounted : Prop :=
  ∀ (m : Master) (addr : Nat) (x : Word) (t : Instant) (s u : State), u = atBus s t → storeWf u.regs.live →
    (∀ r a fl st k, reaches u m addr r a fl st true → r.tuned = true → RegRow.maskOf r (fun f => f.acc == .t) ≠ 0 → u.mayPriv m = true →
        (u.maySeal m = true ∨ r.fields.all (fun f => !f.sealed) = true) → u.stageRefusal = some k →
      ∃ v, exec (.stageWrite m addr x t) s = .next v ∧ v.bus = { data := 0, error := false }
        ∧ v.rd Reg.CHP_STAGE_CNT_REFUSED = min (u.rd Reg.CHP_STAGE_CNT_REFUSED + 1) (2 ^ 16 - 1)
        ∧ v.rd Reg.CHP_TSTAT_REFUSAL = k ∧ v.regs.stage = u.regs.stage
        ∧ onlyWords [Reg.CHP_STAGE_CNT_REFUSED.addr, Reg.CHP_TSTAT_REFUSAL.addr] u v ∧ onlyParts [.regs, .bus] u v)
    ∧ (∀ slot off st k, placeOf addr = some (.mem slot off st) → u.placeGone (.mem slot off st) true = false → u.mayPriv m = true →
        (slot ≠ 3 ∨ u.maySeal m = true) → u.stageRefusal = some k →
      ∃ v, exec (.stageWrite m addr x t) s = .next v ∧ v.bus = { data := 0, error := false }
        ∧ v.rd Reg.CHP_STAGE_CNT_REFUSED = min (u.rd Reg.CHP_STAGE_CNT_REFUSED + 1) (2 ^ 16 - 1)
        ∧ onlyWords [Reg.CHP_STAGE_CNT_REFUSED.addr, Reg.CHP_TSTAT_REFUSAL.addr] u v ∧ onlyParts [.regs, .bus] u v)
    ∧ (∀ r a fl, reaches u m addr r a fl true false → r.tuned = false →
      ∃ v, exec (.lowWordRead m addr t) s = .next v ∧ v.bus = { data := 0, error := false }
        ∧ v.rd Reg.CHP_STAGE_CNT_MISS = min (u.rd Reg.CHP_STAGE_CNT_MISS + 1) (2 ^ 16 - 1)
        ∧ onlyWords [Reg.CHP_STAGE_CNT_MISS.addr] u v ∧ onlyParts [.regs, .bus] u v)
    ∧ (∀ r a fl, reaches u m addr r a fl true true → r.tuned = false →
      ∃ v, exec (.stageWrite m addr x t) s = .next v ∧ v.bus = { data := 0, error := false }
        ∧ v.rd Reg.CHP_STAGE_CNT_MISS = min (u.rd Reg.CHP_STAGE_CNT_MISS + 1) (2 ^ 16 - 1)
        ∧ v.rd Reg.CHP_DENY_CNT_PRIV = (if u.mayPriv m then u.rd Reg.CHP_DENY_CNT_PRIV else min (u.rd Reg.CHP_DENY_CNT_PRIV + 1) (2 ^ 16 - 1))
        ∧ onlyWords [Reg.CHP_STAGE_CNT_MISS.addr, Reg.CHP_DENY_CNT_PRIV.addr, Reg.CHP_CHIP_STAT_DENIED.addr] u v ∧ onlyParts [.regs, .bus] u v)
    ∧ (∀ a b fl, placeOf addr = some (.shadow a b fl true) → u.isolated b = false → u.jtagShut m = false →
      (∃ v, exec (.lowWordRead m addr t) s = .next v ∧ v.bus = { data := 0, error := false }
        ∧ v.rd Reg.CHP_STAGE_CNT_MISS = min (u.rd Reg.CHP_STAGE_CNT_MISS + 1) (2 ^ 16 - 1) ∧ onlyParts [.regs, .bus] u v)
      ∧ (∃ v, exec (.stageWrite m addr x t) s = .next v ∧ v.bus = { data := 0, error := false }
        ∧ v.rd Reg.CHP_STAGE_CNT_MISS = min (u.rd Reg.CHP_STAGE_CNT_MISS + 1) (2 ^ 16 - 1) ∧ v.regs.snap = u.regs.snap ∧ onlyParts [.regs, .bus] u v))

/-- After reset the register words and memories list nothing, no command waits, the mode is BOOT, the tab is idle and both guards stand where no
light is let through. -/
def Obligations.ResetIsCanonicalAndDark : Prop :=
  canonical State.reset.regs State.reset.mems ∧ State.reset.pending = [] ∧ State.reset.chp.mode = .boot ∧ State.reset.chp.safe = false
    ∧ State.reset.psq.state = .idle ∧ State.reset.gda.state ≠ .armed ∧ State.reset.gdb.state ≠ .armed

/-- Whatever command runs, the register words of every bank and every memory stay in their canonical form (strictly rising addresses, nothing
listed that reads as an unlisted address does), so that equal contents are equal data. -/
def Obligations.EveryStepKeepsTheMemoriesCanonical : Prop :=
  ∀ (s v : State), canonical s.regs s.mems → step s = .next v → canonical v.regs v.mems

/-- Whatever command runs: no OTP bit that is set is ever clear again, time does not run back but at a power cycle, and what is left in the queue is
the queue without its front. -/
def Obligations.FusesTimeAndQueueMoveOneWay : Prop :=
  ∀ (s v : State), step s = .next v →
    v.pending = s.pending.tail ∧ v.upd.otp.length = s.upd.otp.length
    ∧ (∀ k i, (s.upd.otp.getD k 0).getLsbD i = true → (v.upd.otp.getD k 0).getLsbD i = true)
    ∧ (s.now ≤ v.now ∨ ∃ t, s.pending.head? = some (.powerOn t) ∨ ∃ o, s.pending.head? = some (.powerDown o t))

/-- Whatever command runs: the mode goes from BOOT to PREP, from PREP to SERVICE, between SERVICE and TEST (a command of several writes
may go along both, from PREP to TEST), or from any mode to RECOVERY; BOOT is entered by a reset alone; and SAFE, once set, is cleared by SAFE_CLEAR with no block isolated, or by a reset. -/
def Obligations.ModesAndSafeChangeOnlyAlongTheirPaths : Prop :=
  ∀ (c : Instr) (s v : State), exec c s = .next v →
    (v.chp.mode = s.chp.mode ∨ (s.chp.mode, v.chp.mode) ∈ [(Mode.boot, .prep), (.prep, .service), (.prep, .test), (.service, .test), (.test, .service)]
      ∨ v.chp.mode = .recovery ∨ (v.chp.mode = .boot ∧ v.pwr.inReset = true))
    ∧ (s.chp.safe = true → v.chp.safe = true ∨ v.pwr.inReset = true ∨ (∃ t, c = .safeClear t ∧ v.chp.isolated = []))
end

