-- ==== Sys2Proof/Laws/Store.lean ====
section
/-! SUPPORT. Sparse stores: the canonical form is kept by every memory operation, and a read after a write. -/

namespace Sys2Proof.Laws

open Sys2Proof.Machine Sys2Proof.Safety

variable {w : Nat}

/-- The canonical form, said of the entries. -/
theorem storeWf_iff (st : Store w) :
    storeWf st = true ↔ st.Pairwise (fun x y => x.1 < y.1) ∧ ∀ x ∈ st, x.2 ≠ 0 := by
  induction st with
  | nil => simp [storeWf]
  | cons x r ih =>
    cases r with
    | nil => simp [storeWf]
    | cons y r =>
      simp only [storeWf, Bool.and_eq_true, bne_iff_ne, decide_eq_true_eq, ih, List.pairwise_cons, List.forall_mem_cons]
      constructor
      · rintro ⟨⟨hx, hxy⟩, ⟨hy, hr⟩, hy0, hr0⟩
        exact ⟨⟨⟨hxy, fun z hz => Nat.lt_trans hxy (hy z hz)⟩, hy, hr⟩, hx, hy0, hr0⟩
      · rintro ⟨⟨⟨hxy, _⟩, hy, hr⟩, hx, hy0, hr0⟩
        exact ⟨⟨hx, hxy⟩, ⟨hy, hr⟩, hy0, hr0⟩

@[simp] theorem storeWf_nil : storeWf ([] : Store w) = true := rfl

theorem storeWf_cons {x : Nat × BitVec w} {r : Store w} :
    storeWf (x :: r) = true ↔ x.2 ≠ 0 ∧ (∀ y ∈ r, x.1 < y.1) ∧ storeWf r = true := by
  simp only [storeWf_iff, List.pairwise_cons, List.forall_mem_cons]
  exact ⟨fun ⟨⟨a, b⟩, c, d⟩ => ⟨c, a, b, d⟩, fun ⟨c, a, b, d⟩ => ⟨⟨a, b⟩, c, d⟩⟩

theorem set_mem {st : Store w} {a : Nat} {v : BitVec w} {x : Nat × BitVec w} (h : x ∈ Store.set st a v) :
    x = (a, v) ∨ x ∈ st := by
  induction st with
  | nil =>
    unfold Store.set at h
    split at h
    · cases h
    · exact .inl (List.mem_singleton.mp h)
  | cons y r ih =>
    obtain ⟨b, z⟩ := y
    unfold Store.set at h
    repeat' split at h
    all_goals simp only [List.mem_cons] at h ⊢
    · exact .inr h
    · obtain h | h | h := h
      · exact .inl h
      · exact .inr (.inl h)
      · exact .inr (.inr h)
    · exact .inr (.inr h)
    · obtain h | h := h
      · exact .inl h
      · exact .inr (.inr h)
    · obtain h | h := h
      · exact .inr (.inl h)
      · exact (ih h).imp id .inr

/-- A write keeps the canonical form. -/
theorem storeWf_set {st : Store w} (h : storeWf st = true) (a : Nat) (v : BitVec w) : storeWf (Store.set st a v) = true := by
  induction st with
  | nil =>
    unfold Store.set
    split
    · rfl
    · simpa [storeWf] using ‹¬v = 0›
  | cons y r ih =>
    obtain ⟨b, z⟩ := y
    have hc := storeWf_cons.mp h
    unfold Store.set
    repeat' split
    · exact h
    · refine storeWf_cons.mpr ⟨‹_›, ?_, h⟩
      intro y hy
      rcases List.mem_cons.mp hy with rfl | hy
      · assumption
      · exact Nat.lt_trans ‹a < b› (hc.2.1 y hy)
    · exact hc.2.2
    · subst_vars; exact storeWf_cons.mpr ⟨‹_›, hc.2.1, hc.2.2⟩
    · refine storeWf_cons.mpr ⟨hc.1, ?_, ih hc.2.2⟩
      intro y hy
      rcases set_mem hy with rfl | hy
      · simp only; omega
      · exact hc.2.1 y hy

/-- Writing several bytes keeps the canonical form. -/
theorem storeWf_setBytes {st : Store 8} (h : storeWf st = true) (a : Nat) (bs : List Byte) :
    storeWf (Store.setBytes st a bs) = true := by
  induction bs generalizing st a with
  | nil => exact h
  | cons b r ih => exact ih (storeWf_set h a b) (a + 1)

theorem storeWf_setWord {st : Store 8} (h : storeWf st = true) (a : Nat) (v : Word) :
    storeWf (Store.setWord st a v) = true := storeWf_setBytes h a _

theorem storeWf_filter {st : Store w} (h : storeWf st = true) (p : Nat × BitVec w → Bool) : storeWf (st.filter p) = true := by
  rw [storeWf_iff] at h ⊢
  exact ⟨h.1.filter p, fun x hx => h.2 x (List.mem_filter.mp hx).1⟩

/-- Emptying a span keeps the canonical form. -/
theorem storeWf_drop {st : Store w} (h : storeWf st = true) (lo hi : Nat) : storeWf (Store.drop st lo hi) = true :=
  storeWf_filter h _

theorem storeWf_within {st : Store w} (h : storeWf st = true) (lo hi : Nat) : storeWf (Store.within st lo hi) = true :=
  storeWf_filter h _

theorem get_below {st : Store w} {a : Nat} (h : ∀ y ∈ st, a < y.1) : Store.get st a = 0 := by
  cases st with
  | nil => rfl
  | cons y r => simp [Store.get, h y (List.mem_cons_self)]

/-- A read after a write: the value written at its address, what was there before at every other. -/
theorem get_set {st : Store w} (h : storeWf st = true) (a b : Nat) (v : BitVec w) :
    Store.get (Store.set st a v) b = if b = a then v else Store.get st b := by
  induction st with
  | nil =>
    by_cases hv : v = 0
    · simp [Store.set, hv, Store.get]
    · simp only [Store.set, hv, if_false, Store.get]
      repeat' split
      all_goals first | rfl | omega
  | cons y r ih =>
    obtain ⟨c, z⟩ := y
    have hc := storeWf_cons.mp h
    have ih := ih hc.2.2
    unfold Store.set
    by_cases hac : a < c
    · by_cases hv : v = 0
      · simp only [hac, hv, if_true]
        split
        · simp [Store.get, ‹b = a›, hac]
        · rfl
      · simp only [hac, hv, if_true, if_false, Store.get]
        repeat' split
        all_goals first | rfl | omega
    · by_cases hc2 : a = c
      · subst hc2
        by_cases hv : v = 0
        · simp only [hac, hv, if_true, if_false, Store.get]
          split
          · subst_vars; exact get_below hc.2.1
          · split
            · exact get_below (fun y hy => Nat.lt_trans ‹_› (hc.2.1 y hy))
            · rfl
        · simp only [hac, hv, if_true, if_false, Store.get]
          repeat' split
          all_goals first | rfl | omega
      · simp only [hac, hc2, if_false, Store.get, ih]
        repeat' split
        all_goals first | rfl | omega

end Sys2Proof.Laws
end

