-- ==== Sys2Proof/Laws/Kept.lean ====
section
/-! SUPPORT. What every shared operation leaves alone, said once for each: the queue, the fuses but for bits that are set, time but for going
on, the canonical form of words and memories; and, of all but the operations on modes and resets, the mode, the reset and SAFE. -/

namespace Sys2Proof.Laws

open Sys2Proof Sys2Proof.Machine Sys2Proof.Safety

/-- What an operation keeps; `k`: the mode, the internal reset and a SAFE that stands too. -/
structure Kept (k : Bool) (s v : State) : Prop where
  pending : v.pending = s.pending
  now : s.now ≤ v.now
  otpLen : v.upd.otp.length = s.upd.otp.length
  otp : ∀ w i, (s.upd.otp.getD w 0).getLsbD i = true → (v.upd.otp.getD w 0).getLsbD i = true
  canon : canonical s.regs s.mems → canonical v.regs v.mems
  strict : k = true → v.chp.mode = s.chp.mode ∧ v.pwr.inReset = s.pwr.inReset ∧ (s.chp.safe = true → v.chp.safe = true)

variable {k : Bool} {s t v : State}

theorem Kept.refl : Kept k s s := ⟨rfl, Nat.le_refl _, rfl, fun _ _ h => h, id, fun _ => ⟨rfl, rfl, id⟩⟩

theorem Kept.weaken (h : Kept k s t) : Kept false s t := ⟨h.1, h.2, h.3, h.4, h.5, nofun⟩

/-- A change that touches none of the parts. -/
theorem Kept.of_same (h : Kept k s t) (hp : v.pending = t.pending) (hn : v.now = t.now) (hu : v.upd.otp = t.upd.otp)
    (hr : v.regs = t.regs) (hm : v.mems = t.mems) (hc : v.chp.mode = t.chp.mode) (hf : t.chp.safe = true → v.chp.safe = true)
    (hi : v.pwr.inReset = t.pwr.inReset) : Kept k s v :=
  ⟨hp.trans h.1, hn ▸ h.2, by rw [hu]; exact h.3, by rw [hu]; exact h.4, by rw [hr, hm]; exact h.5,
   fun hk => ⟨hc.trans (h.6 hk).1, hi.trans (h.6 hk).2.1, fun hs => hf ((h.6 hk).2.2 hs)⟩⟩

/-- A change of words and memories alone. -/
theorem Kept.of_canon (h : Kept k s t) (hc : canonical t.regs t.mems → canonical v.regs v.mems) (hp : v.pending = t.pending) (hn : v.now = t.now)
    (hu : v.upd.otp = t.upd.otp) (hm : v.chp = t.chp) (hi : v.pwr = t.pwr) : Kept k s v :=
  ⟨hp.trans h.1, hn ▸ h.2, by rw [hu]; exact h.3, by rw [hu]; exact h.4, fun x => hc (h.5 x),
   fun hk => by rw [hm, hi]; exact h.6 hk⟩

theorem kept_ite {c : Prop} [Decidable c] {a b : State} (ha : Kept k s a) (hb : Kept k s b) : Kept k s (if c then a else b) := by
  split <;> assumption

theorem kept_foldl {α : Type} {f : State → α → State} {l : List α} (h : Kept k s t) (hf : ∀ t x, Kept k s t → Kept k s (f t x)) :
    Kept k s (l.foldl f t) := by
  induction l generalizing t with
  | nil => exact h
  | cons x l ih => exact ih (hf t x h)

/-- What an outcome keeps. -/
structure Keeps (k : Bool) (s : State) (o : Host.Outcome State Fault Refusal) : Prop where
  next : ∀ v, o = .next v → Kept k s v

theorem keeps_next (h : Kept k s t) : Keeps k s (.next t) := ⟨fun _ e => by cases e; exact h⟩

theorem keeps_ite {c : Prop} [Decidable c] {a b : Host.Outcome State Fault Refusal} (ha : Keeps k s a) (hb : Keeps k s b) :
    Keeps k s (if c then a else b) := by split <;> assumption

theorem kept_foldl_fst {α β : Type} {f : State × β → α → State × β} {l : List α} {p : State × β} (h : Kept k s p.1)
    (hf : ∀ p x, Kept k s p.1 → Kept k s (f p x).1) : Kept k s (l.foldl f p).1 := by
  induction l generalizing p with
  | nil => exact h
  | cons x l ih => exact ih (hf p x h)

theorem kept_ite_fst {α : Type} {c : Prop} [Decidable c] {a b : State × α} (ha : Kept k s a.1) (hb : Kept k s b.1) :
    Kept k s (if c then a else b).1 := by split <;> assumption

theorem kept_otp {x : Upd} (h : Kept k s t) (hl : x.otp.length = t.upd.otp.length)
    (ho : ∀ w i, (t.upd.otp.getD w 0).getLsbD i = true → (x.otp.getD w 0).getLsbD i = true) : Kept k s { t with upd := x } :=
  ⟨h.1, h.2, hl.trans h.3, fun w i hi => ho w i (h.4 w i hi), h.5, h.6⟩

theorem modAt_length {α : Type} (xs : List α) (i : Nat) (f : α → α) : (modAt xs i f).length = xs.length := by
  induction xs generalizing i with
  | nil => rfl
  | cons x xs ih => cases i with
    | zero => rfl
    | succ i => simp only [modAt, List.length_cons, ih]

theorem modAt_or (xs : List Word) (i : Nat) (m : Word) (w b : Nat) (h : (xs.getD w 0).getLsbD b = true) :
    ((modAt xs i (fun x => x ||| m)).getD w 0).getLsbD b = true := by
  induction xs generalizing i w with
  | nil => exact h
  | cons x xs ih => cases i with
    | zero => cases w with
      | zero => simp only [modAt, List.getD_cons_zero, BitVec.getLsbD_or, Bool.or_eq_true] at h ⊢; exact .inl h
      | succ w => exact h
    | succ i => cases w with
      | zero => exact h
      | succ w => exact ih i w h

theorem kept_pair {α : Type} {p : State × α} {a : α} (e : p = (v, a)) (h : Kept k s p.1) : Kept k s v := by rw [e] at h; exact h

theorem kept_bus {x} (h : Kept k s t) : Kept k s { t with bus := x } := h.of_same rfl rfl rfl rfl rfl rfl id rfl
theorem kept_psq {x} (h : Kept k s t) : Kept k s { t with psq := x } := h.of_same rfl rfl rfl rfl rfl rfl id rfl
theorem kept_psy {x} (h : Kept k s t) : Kept k s { t with psy := x } := h.of_same rfl rfl rfl rfl rfl rfl id rfl
theorem kept_src {x} (h : Kept k s t) : Kept k s { t with src := x } := h.of_same rfl rfl rfl rfl rfl rfl id rfl
theorem kept_occ {x} (h : Kept k s t) : Kept k s { t with occ := x } := h.of_same rfl rfl rfl rfl rfl rfl id rfl
theorem kept_crx {x} (h : Kept k s t) : Kept k s { t with crx := x } := h.of_same rfl rfl rfl rfl rfl rfl id rfl
theorem kept_cal {x} (h : Kept k s t) : Kept k s { t with cal := x } := h.of_same rfl rfl rfl rfl rfl rfl id rfl
theorem kept_chn {x} (h : Kept k s t) : Kept k s { t with chn := x } := h.of_same rfl rfl rfl rfl rfl rfl id rfl
theorem kept_pcm {x} (h : Kept k s t) : Kept k s { t with pcm := x } := h.of_same rfl rfl rfl rfl rfl rfl id rfl
theorem kept_phs {x} (h : Kept k s t) : Kept k s { t with phs := x } := h.of_same rfl rfl rfl rfl rfl rfl id rfl
theorem kept_pfl {x} (h : Kept k s t) : Kept k s { t with pfl := x } := h.of_same rfl rfl rfl rfl rfl rfl id rfl
theorem kept_rmx {x} (h : Kept k s t) : Kept k s { t with rmx := x } := h.of_same rfl rfl rfl rfl rfl rfl id rfl
theorem kept_dts {x} (h : Kept k s t) : Kept k s { t with dts := x } := h.of_same rfl rfl rfl rfl rfl rfl id rfl
theorem kept_aar {x} (h : Kept k s t) : Kept k s { t with aar := x } := h.of_same rfl rfl rfl rfl rfl rfl id rfl
theorem kept_zon {x} (h : Kept k s t) : Kept k s { t with zon := x } := h.of_same rfl rfl rfl rfl rfl rfl id rfl
theorem kept_gda {x} (h : Kept k s t) : Kept k s { t with gda := x } := h.of_same rfl rfl rfl rfl rfl rfl id rfl
theorem kept_gdb {x} (h : Kept k s t) : Kept k s { t with gdb := x } := h.of_same rfl rfl rfl rfl rfl rfl id rfl
theorem kept_guards {x} (h : Kept k s t) : Kept k s { t with guards := x } := h.of_same rfl rfl rfl rfl rfl rfl id rfl
theorem kept_rng {x} (h : Kept k s t) : Kept k s { t with rng := x } := h.of_same rfl rfl rfl rfl rfl rfl id rfl
theorem kept_cmp {x} (h : Kept k s t) : Kept k s { t with cmp := x } := h.of_same rfl rfl rfl rfl rfl rfl id rfl
theorem kept_cvu {x} (h : Kept k s t) : Kept k s { t with cvu := x } := h.of_same rfl rfl rfl rfl rfl rfl id rfl
theorem kept_dmc {x} (h : Kept k s t) : Kept k s { t with dmc := x } := h.of_same rfl rfl rfl rfl rfl rfl id rfl
theorem kept_ref {x} (h : Kept k s t) : Kept k s { t with ref := x } := h.of_same rfl rfl rfl rfl rfl rfl id rfl
theorem kept_tiu {x} (h : Kept k s t) : Kept k s { t with tiu := x } := h.of_same rfl rfl rfl rfl rfl rfl id rfl
theorem kept_lan {x} (h : Kept k s t) : Kept k s { t with lan := x } := h.of_same rfl rfl rfl rfl rfl rfl id rfl
theorem kept_eth {x} (h : Kept k s t) : Kept k s { t with eth := x } := h.of_same rfl rfl rfl rfl rfl rfl id rfl
theorem kept_kpe {x} (h : Kept k s t) : Kept k s { t with kpe := x } := h.of_same rfl rfl rfl rfl rfl rfl id rfl
theorem kept_mgc {x} (h : Kept k s t) : Kept k s { t with mgc := x } := h.of_same rfl rfl rfl rfl rfl rfl id rfl
theorem kept_sns {x} (h : Kept k s t) : Kept k s { t with sns := x } := h.of_same rfl rfl rfl rfl rfl rfl id rfl
theorem kept_evr {x} (h : Kept k s t) : Kept k s { t with evr := x } := h.of_same rfl rfl rfl rfl rfl rfl id rfl
theorem kept_tim {x} (h : Kept k s t) : Kept k s { t with tim := x } := h.of_same rfl rfl rfl rfl rfl rfl id rfl
theorem kept_fresh {x} (h : Kept k s t) : Kept k s { t with fresh := x } := h.of_same rfl rfl rfl rfl rfl rfl id rfl
theorem kept_chp {x : Chp} (h : Kept k s t) (hm : x.mode = t.chp.mode) (hs : t.chp.safe = true → x.safe = true) : Kept k s { t with chp := x } :=
  h.of_same rfl rfl rfl rfl rfl hm hs rfl
theorem kept_upd {x : Upd} (h : Kept k s t) (hm : x.otp = t.upd.otp) : Kept k s { t with upd := x } := h.of_same rfl rfl hm rfl rfl rfl id rfl
theorem kept_pwr {x : Pwr} (h : Kept k s t) (hm : x.inReset = t.pwr.inReset) : Kept k s { t with pwr := x } := h.of_same rfl rfl rfl rfl rfl rfl id hm
theorem kept_regs {x : Regs} (h : Kept k s t) (hc : canonical t.regs t.mems → canonical x t.mems) : Kept k s { t with regs := x } :=
  h.of_canon hc rfl rfl rfl rfl rfl
theorem kept_mems {x : Mems} (h : Kept k s t) (hc : canonical t.regs t.mems → canonical t.regs x) : Kept k s { t with mems := x } :=
  h.of_canon hc rfl rfl rfl rfl rfl
theorem kept_now {n : Nat} (h : Kept k s t) (hn : t.now ≤ n) : Kept k s { t with now := n } :=
  ⟨h.1, Nat.le_trans h.2 hn, h.3, h.4, h.5, h.6⟩

end Sys2Proof.Laws
end

