-- ==== Sys2Proof/Laws/KeptOps.lean ====
section
/-! SUPPORT. What every shared operation of the machine keeps (Laws/Kept.lean), one lemma each. -/

open Sys2Proof Sys2Proof.Machine Sys2Proof.Safety

namespace Sys2Proof.Laws

variable {k : Bool} {s t v : State}

theorem kept_mapRef {f : Ref → Ref} (h : Kept k s t) : Kept k s (State.mapRef t f) := by
  unfold State.mapRef
  with_reducible repeat' first
    | exact h | assumption | apply kept_ref

theorem kept_mapTim {f : Tim → Tim} (h : Kept k s t) : Kept k s (State.mapTim t f) := by
  unfold State.mapTim
  with_reducible repeat' first
    | exact h | assumption | apply kept_tim

theorem kept_mapPsy {f : Psy → Psy} (h : Kept k s t) : Kept k s (State.mapPsy t f) := by
  unfold State.mapPsy
  with_reducible repeat' first
    | exact h | assumption | apply kept_psy

theorem kept_mapPcm {f : Pcm → Pcm} (h : Kept k s t) : Kept k s (State.mapPcm t f) := by
  unfold State.mapPcm
  with_reducible repeat' first
    | exact h | assumption | apply kept_pcm

theorem kept_mapCal {f : Cal → Cal} (h : Kept k s t) : Kept k s (State.mapCal t f) := by
  unfold State.mapCal
  with_reducible repeat' first
    | exact h | assumption | apply kept_cal

theorem kept_setLive {a : Nat} {x : Word} (h : Kept k s t) : Kept k s (t.setLive a x) := kept_regs h fun ⟨h1, h2, h3, h4, h5, h6, h7, h8, h9, h10⟩ =>
  ⟨storeWf_set h1 _ _, h2, h3, h4, h5, h6, h7, h8, h9, h10⟩

theorem kept_mapOcc {f : Occ → Occ} (h : Kept k s t) : Kept k s (State.mapOcc t f) := by
  unfold State.mapOcc
  with_reducible repeat' first
    | exact h | assumption | apply kept_occ

theorem kept_wr {f : Field} {v_2 : Nat} (h : Kept k s t) : Kept k s (State.wr t f v_2) := by
  unfold State.wr
  with_reducible repeat' first
    | exact h | assumption | apply kept_ite | apply kept_setLive

theorem kept_bumpBy {f : Field} {n : Nat} (h : Kept k s t) : Kept k s (State.bumpBy t f n) := by
  unfold State.bumpBy
  with_reducible repeat' first
    | exact h | assumption | apply kept_wr

theorem kept_mapPfl {f : Pfl → Pfl} (h : Kept k s t) : Kept k s (State.mapPfl t f) := by
  unfold State.mapPfl
  with_reducible repeat' first
    | exact h | assumption | apply kept_pfl

theorem kept_mapChp {f : Chp → Chp} (h : Kept k s t) (hm : (f t.chp).mode = t.chp.mode)
    (hs : t.chp.safe = true → (f t.chp).safe = true) : Kept k s (t.mapChp f) := kept_chp h hm hs

theorem kept_mapChp_weak {f : Chp → Chp} (h : Kept false s t) : Kept false s (t.mapChp f) := ⟨h.1, h.2, h.3, h.4, h.5, nofun⟩

theorem kept_mapZon {f : Zon → Zon} (h : Kept k s t) : Kept k s (State.mapZon t f) := by
  unfold State.mapZon
  with_reducible repeat' first
    | exact h | assumption | apply kept_zon

theorem kept_mapDts {f : Dts → Dts} (h : Kept k s t) : Kept k s (State.mapDts t f) := by
  unfold State.mapDts
  with_reducible repeat' first
    | exact h | assumption | apply kept_dts

theorem kept_advance {n : Instant} (h : Kept k s t) : Kept k s (t.advance n) := kept_now h (Nat.le_max_left _ _)

theorem kept_mapUpd {f : Upd → Upd} (h : Kept k s t) (hm : (f t.upd).otp = t.upd.otp) : Kept k s (t.mapUpd f) := kept_upd h hm

theorem kept_mapEth {f : Eth → Eth} (h : Kept k s t) : Kept k s (State.mapEth t f) := by
  unfold State.mapEth
  with_reducible repeat' first
    | exact h | assumption | apply kept_eth

theorem kept_mapCvu {f : Cvu → Cvu} (h : Kept k s t) : Kept k s (State.mapCvu t f) := by
  unfold State.mapCvu
  with_reducible repeat' first
    | exact h | assumption | apply kept_cvu

theorem kept_mapGda {f : Guard → Guard} (h : Kept k s t) : Kept k s (State.mapGda t f) := by
  unfold State.mapGda
  with_reducible repeat' first
    | exact h | assumption | apply kept_gda

theorem kept_mapKpe {f : Kpe → Kpe} (h : Kept k s t) : Kept k s (State.mapKpe t f) := by
  unfold State.mapKpe
  with_reducible repeat' first
    | exact h | assumption | apply kept_kpe

theorem kept_rebaseTime (h : Kept k s t) : Kept k s (State.rebaseTime t) := by
  unfold State.rebaseTime
  with_reducible repeat' first
    | exact h | assumption | apply kept_tim

theorem kept_mapAar {f : Aar → Aar} (h : Kept k s t) : Kept k s (State.mapAar t f) := by
  unfold State.mapAar
  with_reducible repeat' first
    | exact h | assumption | apply kept_aar

theorem kept_mapPsq {f : Psq → Psq} (h : Kept k s t) : Kept k s (State.mapPsq t f) := by
  unfold State.mapPsq
  with_reducible repeat' first
    | exact h | assumption | apply kept_psq

theorem kept_mapMems {f : Mems → Mems} (h : Kept k s t) (hc : canonical t.regs t.mems → canonical t.regs (f t.mems)) : Kept k s (t.mapMems f) := kept_mems h hc

theorem kept_mapRmx {f : Rmx → Rmx} (h : Kept k s t) : Kept k s (State.mapRmx t f) := by
  unfold State.mapRmx
  with_reducible repeat' first
    | exact h | assumption | apply kept_rmx

theorem kept_mapGdb {f : Guard → Guard} (h : Kept k s t) : Kept k s (State.mapGdb t f) := by
  unfold State.mapGdb
  with_reducible repeat' first
    | exact h | assumption | apply kept_gdb

theorem kept_mapSns {f : Sns → Sns} (h : Kept k s t) : Kept k s (State.mapSns t f) := by
  unfold State.mapSns
  with_reducible repeat' first
    | exact h | assumption | apply kept_sns

theorem kept_bump {f : Field} (h : Kept k s t) : Kept k s (State.bump t f) := by
  unfold State.bump
  with_reducible repeat' first
    | exact h | assumption | apply kept_bumpBy

theorem kept_mapMgc {f : Mgc → Mgc} (h : Kept k s t) : Kept k s (State.mapMgc t f) := by
  unfold State.mapMgc
  with_reducible repeat' first
    | exact h | assumption | apply kept_mgc

theorem kept_mapSrc {f : Src → Src} (h : Kept k s t) : Kept k s (State.mapSrc t f) := by
  unfold State.mapSrc
  with_reducible repeat' first
    | exact h | assumption | apply kept_src

theorem kept_mapDmc {f : Dmc → Dmc} (h : Kept k s t) : Kept k s (State.mapDmc t f) := by
  unfold State.mapDmc
  with_reducible repeat' first
    | exact h | assumption | apply kept_dmc

theorem kept_answer {v_1 : Word} (h : Kept k s t) : Kept k s (State.answer t v_1) := by
  unfold State.answer
  with_reducible repeat' first
    | exact h | assumption | apply kept_bus

theorem kept_mapRng {f : Rng → Rng} (h : Kept k s t) : Kept k s (State.mapRng t f) := by
  unfold State.mapRng
  with_reducible repeat' first
    | exact h | assumption | apply kept_rng

theorem kept_mapCrx {f : Crx → Crx} (h : Kept k s t) : Kept k s (State.mapCrx t f) := by
  unfold State.mapCrx
  with_reducible repeat' first
    | exact h | assumption | apply kept_crx

theorem kept_done (h : Kept k s t) : Kept k s (State.done t) := by
  unfold State.done
  with_reducible repeat' first
    | exact h | assumption | apply kept_answer

theorem kept_setStage {a : Nat} {x : Word} (h : Kept k s t) : Kept k s (t.setStage a x) := kept_regs h fun ⟨h1, h2, h3, h4, h5, h6, h7, h8, h9, h10⟩ =>
  ⟨h1, h2, storeWf_set h3 _ _, h4, h5, h6, h7, h8, h9, h10⟩

theorem kept_mapGuards {f : GuardShared → GuardShared} (h : Kept k s t) :
    Kept k s (State.mapGuards t f) := by
  unfold State.mapGuards
  with_reducible repeat' first
    | exact h | assumption | apply kept_guards

theorem kept_mapEvr {f : Evr → Evr} (h : Kept k s t) : Kept k s (State.mapEvr t f) := by
  unfold State.mapEvr
  with_reducible repeat' first
    | exact h | assumption | apply kept_evr

theorem kept_mapPwr {f : Pwr → Pwr} (h : Kept k s t) (hm : (f t.pwr).inReset = t.pwr.inReset) : Kept k s (t.mapPwr f) := kept_pwr h hm

theorem kept_mapPwr_weak {f : Pwr → Pwr} (h : Kept false s t) : Kept false s (t.mapPwr f) := ⟨h.1, h.2, h.3, h.4, h.5, nofun⟩

theorem kept_mapChn {f : Chn → Chn} (h : Kept k s t) : Kept k s (State.mapChn t f) := by
  unfold State.mapChn
  with_reducible repeat' first
    | exact h | assumption | apply kept_chn

theorem kept_busErr (h : Kept k s t) : Kept k s (State.busErr t) := by
  unfold State.busErr
  with_reducible repeat' first
    | exact h | assumption | apply kept_bump | apply kept_bus

theorem kept_mapPhs {f : Phs → Phs} (h : Kept k s t) : Kept k s (State.mapPhs t f) := by
  unfold State.mapPhs
  with_reducible repeat' first
    | exact h | assumption | apply kept_phs

theorem kept_mapCmp {f : Cmp → Cmp} (h : Kept k s t) : Kept k s (State.mapCmp t f) := by
  unfold State.mapCmp
  with_reducible repeat' first
    | exact h | assumption | apply kept_cmp

theorem kept_mapRegs {f : Regs → Regs} (h : Kept k s t) (hc : canonical t.regs t.mems → canonical (f t.regs) t.mems) : Kept k s (t.mapRegs f) := kept_regs h hc

theorem kept_mapTiu {f : Tiu → Tiu} (h : Kept k s t) : Kept k s (State.mapTiu t f) := by
  unfold State.mapTiu
  with_reducible repeat' first
    | exact h | assumption | apply kept_tiu

theorem kept_mapLan {f : Lan → Lan} (h : Kept k s t) : Kept k s (State.mapLan t f) := by
  unfold State.mapLan
  with_reducible repeat' first
    | exact h | assumption | apply kept_lan

theorem kept_event {fs : List Field} (h : Kept k s t) : Kept k s (State.event t fs) := by
  unfold State.event
  with_reducible repeat' first
    | exact h | assumption | apply kept_ite | apply kept_setLive | rfl | intro _ | split

theorem kept_setCauses {a : Nat} {x : Word} (h : Kept k s t) : Kept k s (t.setCauses a x) := kept_regs h fun ⟨h1, h2, h3, h4, h5, h6, h7, h8, h9, h10⟩ =>
  ⟨h1, h2, h3, h4, h5, storeWf_set h6 _ _, h7, h8, h9, h10⟩

theorem kept_eventStands {fs : List Field} (h : Kept k s t) : Kept k s (State.eventStands t fs) := by
  unfold State.eventStands
  with_reducible repeat' first
    | exact h | assumption | apply kept_setLive | apply kept_setCauses | rfl | intro _ | split

theorem kept_statusWrite {a : Nat} {v_2 : Word} (h : Kept k s t) : Kept k s (State.statusWrite t a v_2) := by
  unfold State.statusWrite
  with_reducible repeat' first
    | exact h | assumption | apply kept_ite | apply kept_bump | apply kept_setLive

theorem kept_dropStaleFlags (h : Kept k s t) : Kept k s (State.dropStaleFlags t) := by
  unfold State.dropStaleFlags
  with_reducible repeat' first
    | exact h | assumption | apply kept_setLive | refine kept_foldl ?_ (fun _ _ _ => ?_)

theorem kept_causeGone {fs : List Field} (h : Kept k s t) : Kept k s (State.causeGone t fs) := by
  unfold State.causeGone
  with_reducible repeat' first
    | exact h | assumption | apply kept_ite | apply kept_setLive | apply kept_setCauses | rfl | intro _ | split

theorem kept_beginErase (h : Kept k s t) : Kept k s (State.beginErase t) := by
  unfold State.beginErase
  with_reducible repeat' first
    | exact h | assumption | apply kept_mapEvr

theorem kept_startPage (h : Kept k s t) : Kept k s (State.startPage t) := by
  unfold State.startPage
  with_reducible repeat' first
    | exact h | assumption | apply kept_ite | apply kept_eventStands | apply kept_mapEvr | apply kept_causeGone

theorem kept_setLastWords {r : EvRec} (h : Kept k s t) : Kept k s (State.setLastWords t r) := by
  unfold State.setLastWords
  with_reducible repeat' first
    | exact h | assumption | apply kept_wr

theorem kept_enterRecord {kind : Nat} {code : Nat} {detail : Nat} {esc : Bool} (h : Kept k s t) :
    Kept k s (State.enterRecord t kind code detail esc) := by
  unfold State.enterRecord
  with_reducible repeat' first
    | exact h | assumption | apply kept_ite | apply kept_bump | apply kept_wr | apply kept_eventStands | apply kept_setLastWords
    | apply kept_mapEvr

theorem kept_form {kind : Nat} {code : Nat} {detail : Nat} {esc : Bool} (h : Kept k s t) : Kept k s (State.form t kind code detail esc) := by
  unfold State.form
  with_reducible repeat' first
    | exact h | assumption | apply kept_startPage | apply kept_enterRecord

theorem kept_rollSecond (h : Kept k s t) : Kept k s (State.rollSecond t) := by
  unfold State.rollSecond
  with_reducible repeat' first
    | exact h | assumption | apply kept_ite | apply kept_mapEvr

theorem kept_record {kind : Nat} {code : Nat} {detail : Nat} {zone : Nat} {esc : Bool} (h : Kept k s t) :
    Kept k s (State.record t kind code detail zone esc) := by
  unfold State.record
  with_reducible repeat' first
    | exact h | assumption | apply kept_ite | apply kept_bump | apply kept_form | apply kept_rollSecond | apply kept_event | apply kept_evr

theorem kept_eraseCmd (h : Kept k s t) : Kept k s (State.eraseCmd t) := by
  unfold State.eraseCmd
  with_reducible repeat' first
    | exact h | assumption | apply kept_ite | apply kept_beginErase | apply kept_mapEvr

theorem kept_flushAll (h : Kept k s t) : Kept k s (State.flushAll t) := by
  unfold State.flushAll
  with_reducible repeat' first
    | exact h | assumption | apply kept_mapEvr | apply kept_startPage

theorem kept_sealLog {addr : Nat} {kind : Nat} (h : Kept k s t) : Kept k s (State.sealLog t addr kind) := by
  unfold State.sealLog
  with_reducible repeat' first
    | exact h | assumption | apply kept_record | apply kept_eventStands | apply kept_mapEvr

theorem kept_pageDone {recs : List EvRec} (h : Kept k s t) : Kept k s (State.pageDone t recs) := by
  unfold State.pageDone
  with_reducible repeat' first
    | exact h | assumption | apply kept_ite | apply kept_bump | apply kept_eventStands | apply kept_beginErase | apply kept_mapEvr
    | apply kept_startPage | apply kept_causeGone

theorem kept_mapSess {n : Nat} {f : Session → Session} (h : Kept k s t) :
    Kept k s (State.mapSess t n f) := by
  unfold State.mapSess
  with_reducible repeat' first
    | exact h | assumption | apply kept_mapKpe

theorem kept_notifyOne {n : Nat} {code : Nat} {detail : List Nat} (h : Kept k s t) : Kept k s (State.notifyOne t n code detail) := by
  unfold State.notifyOne
  with_reducible repeat' first
    | exact h | assumption | apply kept_ite | apply kept_mapSess

theorem kept_notify {code : Nat} {detail : List Nat} (h : Kept k s t) : Kept k s (State.notify t code detail) := by
  unfold State.notify
  with_reducible repeat' first
    | exact h | assumption | apply kept_ite | apply kept_notifyOne | refine kept_foldl ?_ (fun _ _ _ => ?_)

theorem kept_queueCtl {n : Nat} {p : CtlPayload} (h : Kept k s t) : Kept k s (State.queueCtl t n p) := by
  unfold State.queueCtl
  with_reducible repeat' first
    | exact h | assumption | apply kept_ite | apply kept_mapSess

theorem kept_mapGuard {g : GuardId} {f : Guard → Guard} (h : Kept k s t) :
    Kept k s (State.mapGuard t g f) := by
  unfold State.mapGuard
  with_reducible repeat' first
    | exact h | assumption | apply kept_mapGdb | apply kept_mapGda | rfl | intro _ | split

theorem kept_cancelLearn {g : GuardId} (h : Kept k s t) : Kept k s (State.cancelLearn t g) := by
  unfold State.cancelLearn
  with_reducible repeat' first
    | exact h | assumption | apply kept_mapGuard | apply kept_event | rfl | intro _ | split

theorem kept_stopDarkStages (h : Kept k s t) : Kept k s (State.stopDarkStages t) := by
  unfold State.stopDarkStages
  with_reducible repeat' first
    | exact h | assumption | apply kept_ite | apply kept_mapSrc | refine kept_foldl ?_ (fun _ _ _ => ?_)

theorem kept_darken (h : Kept k s t) : Kept k s (State.darken t) := by
  unfold State.darken
  with_reducible repeat' first
    | exact h | assumption | apply kept_ite | apply kept_mapPsq

theorem kept_followEnables (h : Kept k s t) : Kept k s (State.followEnables t) := by
  unfold State.followEnables
  with_reducible repeat' first
    | exact h | assumption | apply kept_ite | apply kept_stopDarkStages | apply kept_darken | apply kept_mapCal | apply kept_mapPhs
    | apply kept_mapPsq | apply kept_mapGuards | apply kept_mapRmx

theorem kept_guardEnter {g : GuardId} {st : GuardState} {c : TripCause} (h : Kept k s t) :
    Kept k s (State.guardEnter t g st c) := by
  unfold State.guardEnter
  with_reducible repeat' first
    | exact h | assumption | apply kept_ite | apply kept_notify | apply kept_bump | apply kept_cancelLearn | apply kept_record
    | apply kept_mapGuard | apply kept_followEnables | apply kept_event

theorem kept_guardsEnterService (h : Kept k s t) : Kept k s (State.guardsEnterService t) := by
  unfold State.guardsEnterService
  with_reducible repeat' first
    | exact h | assumption | apply kept_ite | apply kept_guardEnter | refine kept_foldl ?_ (fun _ _ _ => ?_)

theorem kept_closeBlock {halted : Bool} {retuned : Bool} {old : Bool} {last : Nat} {deadline : Nat} (h : Kept k s t) :
    Kept k s (State.closeBlock t halted retuned old last deadline) := by
  unfold State.closeBlock
  with_reducible repeat' first
    | exact h | assumption | apply kept_ite | apply kept_mapDts

theorem kept_haltBlock (h : Kept k s t) : Kept k s (State.haltBlock t) := by
  unfold State.haltBlock
  with_reducible repeat' first
    | exact h | assumption | apply kept_ite | apply kept_closeBlock | apply kept_mapDts

theorem kept_endAttempt (h : Kept k s t) : Kept k s (State.endAttempt t) := by
  unfold State.endAttempt
  with_reducible repeat' first
    | exact h | assumption | apply kept_ite | apply kept_mapPsq | apply kept_mapGuards

theorem kept_guardsIdle (h : Kept k s t) : Kept k s (State.guardsIdle t) := by
  unfold State.guardsIdle
  with_reducible repeat' first
    | exact h | assumption | apply kept_ite | apply kept_guardEnter | apply kept_endAttempt | refine kept_foldl ?_ (fun _ _ _ => ?_)

theorem kept_trip {g : GuardId} {c : TripCause} (h : Kept k s t) : Kept k s (State.trip t g c) := by
  unfold State.trip
  with_reducible repeat' first
    | exact h | assumption | apply kept_ite | apply kept_bump | apply kept_guardEnter | apply kept_endAttempt | apply kept_event | rfl
    | intro _ | split

theorem kept_failAttempt (h : Kept k s t) : Kept k s (State.failAttempt t) := by
  unfold State.failAttempt
  with_reducible repeat' first
    | exact h | assumption | apply kept_endAttempt | apply kept_trip

theorem kept_tripBoth {c : TripCause} (h : Kept k s t) : Kept k s (State.tripBoth t c) := by
  unfold State.tripBoth
  with_reducible repeat' first
    | exact h | assumption | apply kept_trip

theorem kept_cancelApply (h : Kept k s t) : Kept k s (State.cancelApply t) := by
  unfold State.cancelApply
  with_reducible repeat' first
    | exact h | assumption | apply kept_ite | apply kept_mapChp | apply kept_event | rfl | intro _

theorem kept_haltTab {c : HaltCause} {mid : Bool} (h : Kept k s t) : Kept k s (State.haltTab t c mid) := by
  unfold State.haltTab
  with_reducible repeat' first
    | exact h | assumption | apply kept_ite | apply kept_wr | apply kept_mapPsq | apply kept_mapGuards | apply kept_mapPfl
    | apply kept_haltBlock

theorem kept_haltNow {c : HaltCause} (h : Kept k s t) : Kept k s (State.haltNow t c) := by
  unfold State.haltNow
  with_reducible repeat' first
    | exact h | assumption | apply kept_ite | apply kept_mapPsq | apply kept_haltTab | rfl | intro _ | split

theorem kept_enterSafe (h : Kept k s t) : Kept k s (State.enterSafe t) := by
  unfold State.enterSafe
  with_reducible repeat' first
    | exact h | assumption | apply kept_ite | apply kept_notify | apply kept_cancelApply | apply kept_mapChp | apply kept_eventStands
    | apply kept_flushAll | apply kept_tripBoth | apply kept_haltNow | rfl | intro _

theorem kept_escalate {code : Nat} {detail : Nat} (h : Kept k s t) : Kept k s (State.escalate t code detail) := by
  unfold State.escalate
  with_reducible repeat' first
    | exact h | assumption | apply kept_ite | apply kept_bump | apply kept_mapChp | apply kept_enterSafe | apply kept_wr | apply kept_record
    | apply kept_event | rfl | intro _

theorem kept_haltSweepEnd {c : HaltCause} (h : Kept k s t) : Kept k s (State.haltSweepEnd t c) := by
  unfold State.haltSweepEnd
  with_reducible repeat' first
    | exact h | assumption | apply kept_ite | apply kept_mapPsq

theorem canonical_dram {r : Regs} {m : Mems} {a : Nat} {bs : List Byte} (h : canonical r m) :
    canonical r { m with dram := Store.setBytes m.dram a bs } := by
  obtain ⟨h1, h2, h3, h4, h5, h6, h7, h8, h9, h10⟩ := h
  exact ⟨h1, h2, h3, h4, h5, h6, h7, h8, h9, storeWf_setBytes h10 _ _⟩

theorem canonical_stageMem {r : Regs} {m : Mems} {a : Nat} {x : Word} (h : canonical r m) :
    canonical r { m with stage := Store.setWord m.stage a x } := by
  obtain ⟨h1, h2, h3, h4, h5, h6, h7, h8, h9, h10⟩ := h
  exact ⟨h1, h2, h3, h4, h5, h6, h7, storeWf_setWord h8 _ _, h9, h10⟩

theorem canonical_liveDrop {r : Regs} {m : Mems} {a b : Nat} (h : canonical r m) :
    canonical { r with live := Store.drop r.live a b, causes := Store.drop r.causes a b } m := by
  obtain ⟨h1, h2, h3, h4, h5, h6, h7, h8, h9, h10⟩ := h
  exact ⟨storeWf_drop h1 _ _, h2, h3, h4, h5, storeWf_drop h6 _ _, h7, h8, h9, h10⟩

theorem kept_dramWrite {a : Nat} {bs : List Byte} (h : Kept k s t) : Kept k s (State.dramWrite t a bs) := by
  unfold State.dramWrite
  with_reducible repeat' first
    | exact h | assumption | apply kept_mapMems | apply kept_dmc | exact canonical_dram

theorem kept_loseDram {lo hi : Nat} {sub : Option Nat} (h : Kept k s t) : Kept k s (t.loseDram lo hi sub) := by
  have h1 : Kept k s (t.mapMems (fun m => { m with dram := if sub.isNone then Store.drop m.dram lo hi else m.dram })) := by
    refine kept_mapMems h fun hc => ?_
    obtain ⟨h1, h2, h3, h4, h5, h6, h7, h8, h9, h10⟩ := hc
    refine ⟨h1, h2, h3, h4, h5, h6, h7, h8, h9, ?_⟩
    dsimp only
    split
    · exact storeWf_drop h10 _ _
    · exact h10
  exact h1.of_same rfl rfl rfl rfl rfl rfl id rfl

theorem kept_mapDesc {i : Nat} {f : Desc → Desc} (h : Kept k s t) : Kept k s (State.mapDesc t i f) := by
  unfold State.mapDesc
  with_reducible repeat' first
    | exact h | assumption | apply kept_mapRng

theorem kept_closeDesc {i : Nat} {r : CapResult} (h : Kept k s t) : Kept k s (State.closeDesc t i r) := by
  unfold State.closeDesc
  with_reducible repeat' first
    | exact h | assumption | apply kept_mapDesc | apply kept_notify | apply kept_event

theorem kept_handRow {i : Nat} (h : Kept k s t) : Kept k s (State.handRow t i) := by
  unfold State.handRow
  with_reducible repeat' first
    | exact h | assumption | apply kept_ite | apply kept_mapDesc | apply kept_mapKpe

theorem kept_abortDesc {i : Nat} (h : Kept k s t) : Kept k s (State.abortDesc t i) := by
  unfold State.abortDesc
  with_reducible repeat' first
    | exact h | assumption | apply kept_ite | apply kept_mapDesc | apply kept_bump | apply kept_closeDesc | apply kept_handRow
    | refine kept_foldl ?_ (fun _ _ _ => ?_)

theorem kept_abortStreams {p : Desc → Bool} (h : Kept k s t) : Kept k s (State.abortStreams t p) := by
  unfold State.abortStreams
  with_reducible repeat' first
    | exact h | assumption | apply kept_ite | apply kept_abortDesc | refine kept_foldl ?_ (fun _ _ _ => ?_)

theorem kept_freeDesc {i : Nat} (h : Kept k s t) : Kept k s (State.freeDesc t i) := by
  unfold State.freeDesc
  with_reducible repeat' first
    | exact h | assumption | apply kept_mapDesc

theorem kept_dropGiven {num : Nat} {off : Nat} (h : Kept k s t) : Kept k s (State.dropGiven t num off) := by
  unfold State.dropGiven
  with_reducible repeat' first
    | exact h | assumption | apply kept_ite | apply kept_mapKpe | apply kept_mapCmp

theorem kept_loseDesc {i : Nat} {old : Nat} {r : Nat} (h : Kept k s t) : Kept k s (State.loseDesc t i old r) := by
  unfold State.loseDesc
  with_reducible repeat' first
    | exact h | assumption | apply kept_ite | apply kept_mapDesc | apply kept_dropGiven | apply kept_bump | apply kept_freeDesc
    | apply kept_closeDesc | apply kept_event

theorem kept_releaseRows {r : Nat} (h : Kept k s t) : Kept k s (State.releaseRows t r) := by
  unfold State.releaseRows
  with_reducible repeat' first
    | exact h | assumption | apply kept_loseDesc | apply kept_mapRng | refine kept_foldl ?_ (fun _ _ _ => ?_)

theorem kept_ringFormat (h : Kept k s t) : Kept k s (State.ringFormat t) := by
  unfold State.ringFormat
  with_reducible repeat' first
    | exact h | assumption | apply kept_releaseRows | apply kept_mapRng | apply kept_event

theorem kept_releaseDesc {i : Nat} (h : Kept k s t) : Kept k s (State.releaseDesc t i) := by
  unfold State.releaseDesc
  with_reducible repeat' first
    | exact h | assumption | apply kept_ite | apply kept_freeDesc

theorem kept_nextSlot (h : Kept k s t) : Kept k s (State.nextSlot t) := by
  unfold State.nextSlot
  with_reducible repeat' first
    | exact h | assumption | apply kept_ite | apply kept_releaseRows | apply kept_mapRng | rfl | intro _ | split

theorem kept_ringSettle (h : Kept k s t) : Kept k s (State.ringSettle t) := by
  unfold State.ringSettle
  with_reducible repeat' first
    | exact h | assumption | apply kept_ite | apply kept_ringFormat | rfl | intro _ | split

theorem kept_mapCtx {i : Nat} {f : CmpContext → CmpContext} (h : Kept k s t) :
    Kept k s (State.mapCtx t i f) := by
  unfold State.mapCtx
  with_reducible repeat' first
    | exact h | assumption | apply kept_mapCmp

theorem kept_closeCtxBlock {i : Nat} {flush : Bool} {error : Bool} {last : Bool} (h : Kept k s t) :
    Kept k s (State.closeCtxBlock t i flush error last) := by
  unfold State.closeCtxBlock
  with_reducible repeat' first
    | exact h | assumption | apply kept_ite | apply kept_mapCtx | apply kept_mapCmp | rfl | intro _ | split | dsimp only

theorem kept_feedCtx {i : Nat} {row : StreamRow} {xs : List (BitVec 16)} (h : Kept k s t) :
    Kept k s (State.feedCtx t i row xs) := by
  unfold State.feedCtx
  with_reducible repeat' first
    | exact h | assumption | apply kept_ite | apply kept_mapCtx | apply kept_bumpBy | apply kept_mapCmp | apply kept_closeCtxBlock

theorem kept_cmpRestart (h : Kept k s t) : Kept k s (State.cmpRestart t) := by
  unfold State.cmpRestart
  with_reducible repeat' first
    | exact h | assumption | apply kept_closeCtxBlock | refine kept_foldl ?_ (fun _ _ _ => ?_)

theorem kept_endCtx {i : Nat} (h : Kept k s t) : Kept k s (State.endCtx t i) := by
  unfold State.endCtx
  with_reducible repeat' first
    | exact h | assumption | apply kept_mapCtx | apply kept_closeCtxBlock

theorem kept_takeCtx {f : FlowRef} {pred : Nat} {stride : Nat} (h : Kept k s t) :
    Kept k s (State.takeCtx t f pred stride).1 := by
  unfold State.takeCtx
  with_reducible repeat' first
    | exact h | assumption | apply kept_mapCtx | apply kept_event | refine kept_pair (by assumption) ?_ | rfl | intro _ | split

theorem kept_mapMac {m : Nat} {f : EthMac → EthMac} (h : Kept k s t) : Kept k s (State.mapMac t m f) := by
  unfold State.mapMac
  with_reducible repeat' first
    | exact h | assumption | apply kept_mapEth

theorem kept_drainMac {m : Nat} {n : Nat} (h : Kept k s t) : Kept k s (State.drainMac t m n) := by
  induction n generalizing t m with
  | zero => unfold State.drainMac; exact h
  | succ n ih =>
    unfold State.drainMac
    with_reducible repeat' first
      | exact h | assumption | apply kept_ite | apply ih | apply kept_bump | apply kept_mapMac | rfl | intro _ | split | dsimp only

theorem kept_macSend {m : Nat} {f : TxFrame} {ctl : Bool} (h : Kept k s t) : Kept k s (State.macSend t m f ctl) := by
  unfold State.macSend
  with_reducible repeat' first
    | exact h | assumption | apply kept_ite | apply kept_drainMac | apply kept_mapMac

theorem kept_plQueue {bytes : List Byte} (h : Kept k s t) : Kept k s (State.plQueue t bytes) := by
  unfold State.plQueue
  with_reducible repeat' first
    | exact h | assumption | apply kept_ite | apply kept_mapLan

theorem kept_sendOn {p : KpPath} {ctl : Bool} {bytes : List Byte} (h : Kept k s t) :
    Kept k s (State.sendOn t p ctl bytes) := by
  unfold State.sendOn
  with_reducible repeat' first
    | exact h | assumption | apply kept_ite | apply kept_bump | apply kept_macSend | apply kept_plQueue

theorem kept_sendCtl {n : Nat} {p : CtlPacket} (h : Kept k s t) : Kept k s (State.sendCtl t n p) := by
  unfold State.sendCtl
  with_reducible repeat' first
    | exact h | assumption | apply kept_sendOn | rfl | intro _ | split | dsimp only

theorem kept_pumpOne {n : Nat} (h : Kept k s t) : Kept k s (State.pumpOne t n) := by
  unfold State.pumpOne
  with_reducible repeat' first
    | exact h | assumption | apply kept_ite | apply kept_sendCtl | apply kept_mapSess | rfl | intro _ | split | dsimp only

theorem kept_mapSub {i : Nat} {f : Subscription → Subscription} (h : Kept k s t) :
    Kept k s (State.mapSub t i f) := by
  unfold State.mapSub
  with_reducible repeat' first
    | exact h | assumption | apply kept_mapKpe

theorem kept_lost {i : Nat} (h : Kept k s t) : Kept k s (State.lost t i) := by
  unfold State.lost
  with_reducible repeat' first
    | exact h | assumption | apply kept_mapSub

theorem kept_formPacket {i : Nat} {rows : List StreamRow} {data : List Byte} {extra : Nat} {kflags : Nat} {pos0 : Nat} {npos : Nat} (h : Kept k s t) :
    Kept k s (State.formPacket t i rows data extra kflags pos0 npos) := by
  unfold State.formPacket
  with_reducible repeat' first
    | exact h | assumption | apply kept_ite | apply kept_mapSub | apply kept_mapKpe | refine kept_foldl ?_ (fun _ _ _ => ?_) | rfl | intro _
    | split

theorem kept_sendStreams {i : Nat} (h : Kept k s t) : Kept k s (State.sendStreams t i) := by
  unfold State.sendStreams
  with_reducible repeat' first
    | exact h | assumption | apply kept_ite | apply kept_mapKpe | apply kept_sendOn | refine kept_foldl ?_ (fun _ _ _ => ?_) | rfl | intro _
    | split | dsimp only

theorem kept_mapCmd {n : Nat} {tag : Nat} {f : InFlight → InFlight} (h : Kept k s t) :
    Kept k s (State.mapCmd t n tag f) := by
  unfold State.mapCmd
  with_reducible repeat' first
    | exact h | assumption | apply kept_ite | apply kept_mapSess

theorem kept_dropCmd {n : Nat} {tag : Nat} (h : Kept k s t) : Kept k s (State.dropCmd t n tag) := by
  unfold State.dropCmd
  with_reducible repeat' first
    | exact h | assumption | apply kept_mapCtx | apply kept_mapCmd | apply kept_mapRng | apply kept_mapZon | apply kept_mapCmp
    | apply kept_mapSess | rfl | intro _ | split

theorem kept_sendUnseq {k_1 : KpPath} {type : Nat} {session : Nat} {unit : Nat} {cookie : BitVec 32} {payload : List Byte} (h : Kept k s t) :
    Kept k s (State.sendUnseq t k_1 type session unit cookie payload) := by
  unfold State.sendUnseq
  with_reducible repeat' first
    | exact h | assumption | apply kept_sendOn | apply kept_fresh

theorem kept_endSub {i : Nat} (h : Kept k s t) : Kept k s (State.endSub t i) := by
  unfold State.endSub
  with_reducible repeat' first
    | exact h | assumption | apply kept_ite | apply kept_abortStreams | apply kept_endCtx | apply kept_mapKpe | apply kept_mapCmp | rfl
    | intro _ | split

theorem kept_closeSession {n : Nat} {reason : Nat} (h : Kept k s t) : Kept k s (State.closeSession t n reason) := by
  unfold State.closeSession
  with_reducible repeat' first
    | exact h | assumption | apply kept_ite | apply kept_abortStreams | apply kept_dropCmd | apply kept_sendUnseq | apply kept_endSub
    | apply kept_mapKpe | apply kept_mapSess | apply kept_mapUpd | apply kept_event | refine kept_foldl ?_ (fun _ _ _ => ?_) | rfl | intro _
    | split

theorem kept_suspend {n : Nat} (h : Kept k s t) : Kept k s (State.suspend t n) := by
  unfold State.suspend
  with_reducible repeat' first
    | exact h | assumption | apply kept_ite | apply kept_mapSess | apply kept_event

theorem kept_resendAll {n : Nat} (h : Kept k s t) : Kept k s (State.resendAll t n) := by
  unfold State.resendAll
  with_reducible repeat' first
    | exact h | assumption | apply kept_bump | apply kept_sendCtl | refine kept_foldl ?_ (fun _ _ _ => ?_)

theorem kept_failover {m : Nat} (h : Kept k s t) : Kept k s (State.failover t m) := by
  unfold State.failover
  with_reducible repeat' first
    | exact h | assumption | apply kept_ite | apply kept_notifyOne | apply kept_suspend | apply kept_mapSess | apply kept_resendAll
    | apply kept_event | refine kept_foldl ?_ (fun _ _ _ => ?_) | rfl | intro _ | split | dsimp only

theorem kept_endCmd {n : Nat} {tag : Nat} {st : Status} {detail : Nat} {result : List Byte} (h : Kept k s t) :
    Kept k s (State.endCmd t n tag st detail result) := by
  unfold State.endCmd
  with_reducible repeat' first
    | exact h | assumption | apply kept_mapCmd

theorem kept_giveRow {i : Nat} {row : StreamRow} (h : Kept k s t) : Kept k s (State.giveRow t i row) := by
  unfold State.giveRow
  with_reducible repeat' first
    | exact h | assumption | apply kept_ite | apply kept_mapCtx | apply kept_feedCtx | apply kept_mapSub | apply kept_lost
    | apply kept_closeCtxBlock | rfl | intro _ | split

theorem kept_closeAllSessions {reason : Nat} (h : Kept k s t) : Kept k s (State.closeAllSessions t reason) := by
  unfold State.closeAllSessions
  with_reducible repeat' first
    | exact h | assumption | apply kept_closeSession | refine kept_foldl ?_ (fun _ _ _ => ?_)

theorem kept_streamsCease (h : Kept k s t) : Kept k s (State.streamsCease t) := by
  unfold State.streamsCease
  with_reducible repeat' first
    | exact h | assumption | apply kept_mapKpe | apply kept_mapCmp

theorem kept_mapCourse {f : Course → Course} (h : Kept k s t) : Kept k s (State.mapCourse t f) := by
  unfold State.mapCourse
  with_reducible repeat' first
    | exact h | assumption | apply kept_mapLan

theorem kept_courseTo {st : CourseState} (h : Kept k s t) : Kept k s (State.courseTo t st) := by
  unfold State.courseTo
  with_reducible repeat' first
    | exact h | assumption | apply kept_ite | apply kept_mapCourse | apply kept_event | apply kept_failover

theorem kept_mapLane {n : Nat} {f : LanLane → LanLane} (h : Kept k s t) :
    Kept k s (State.mapLane t n f) := by
  unfold State.mapLane
  with_reducible repeat' first
    | exact h | assumption | apply kept_mapLan

theorem kept_laneTo {n : Nat} {st : LaneState} (h : Kept k s t) : Kept k s (State.laneTo t n st) := by
  unfold State.laneTo
  with_reducible repeat' first
    | exact h | assumption | apply kept_mapLane

theorem kept_courseDetect (h : Kept k s t) : Kept k s (State.courseDetect t) := by
  unfold State.courseDetect
  with_reducible repeat' first
    | exact h | assumption | apply kept_courseTo | apply kept_laneTo | refine kept_foldl ?_ (fun _ _ _ => ?_)

theorem kept_replayAll (h : Kept k s t) : Kept k s (State.replayAll t) := by
  unfold State.replayAll
  with_reducible repeat' first
    | exact h | assumption | apply kept_mapCourse

theorem kept_laneLost {n : Nat} (h : Kept k s t) : Kept k s (State.laneLost t n) := by
  unfold State.laneLost
  with_reducible repeat' first
    | exact h | assumption | apply kept_ite | apply kept_bump | apply kept_courseDetect | apply kept_mapCourse | apply kept_laneTo
    | apply kept_replayAll | apply kept_event

theorem kept_macDown {m : Nat} (h : Kept k s t) : Kept k s (State.macDown t m) := by
  unfold State.macDown
  with_reducible repeat' first
    | exact h | assumption | apply kept_ite | apply kept_bump | apply kept_bumpBy | apply kept_drainMac | apply kept_mapLan
    | apply kept_mapMac | apply kept_event | apply kept_failover

theorem kept_laneDown {n : Nat} (h : Kept k s t) : Kept k s (State.laneDown t n) := by
  unfold State.laneDown
  with_reducible repeat' first
    | exact h | assumption | apply kept_ite | apply kept_bump | apply kept_laneLost | apply kept_macDown | apply kept_event

theorem kept_courseFault (h : Kept k s t) : Kept k s (State.courseFault t) := by
  unfold State.courseFault
  with_reducible repeat' first
    | exact h | assumption | apply kept_courseDetect | apply kept_mapCourse | apply kept_bumpBy

theorem kept_courseTrain (h : Kept k s t) : Kept k s (State.courseTrain t) := by
  unfold State.courseTrain
  with_reducible repeat' first
    | exact h | assumption | apply kept_ite | apply kept_courseTo | apply kept_laneTo | refine kept_foldl ?_ (fun _ _ _ => ?_)

theorem kept_courseFollow (h : Kept k s t) : Kept k s (State.courseFollow t) := by
  unfold State.courseFollow
  with_reducible repeat' first
    | exact h | assumption | apply kept_ite | apply kept_courseDetect | apply kept_mapCourse | apply kept_courseTo | apply kept_laneTo
    | refine kept_foldl ?_ (fun _ _ _ => ?_)

theorem kept_isolate {b : Block} {u : Option Nat} {deadline : Option Nat} (h : Kept k s t) :
    Kept k s (State.isolate t b u deadline) := by
  unfold State.isolate
  with_reducible repeat' first
    | exact h | assumption | apply kept_mapChp | rfl | intro _

theorem kept_escalateFault {b : Block} {cause : Nat} {detail : Nat} (h : Kept k s t) :
    Kept k s (State.escalateFault t b cause detail) := by
  unfold State.escalateFault
  with_reducible repeat' first
    | exact h | assumption | apply kept_ite | apply kept_escalate | apply kept_trip | apply kept_isolate

theorem kept_discardBlock (h : Kept k s t) : Kept k s (State.discardBlock t) := by
  unfold State.discardBlock
  with_reducible repeat' first
    | exact h | assumption | apply kept_mapDts

theorem kept_switchFallback {k_1 : Nat} (h : Kept k s t) : Kept k s (State.switchFallback t k_1) := by
  unfold State.switchFallback
  with_reducible repeat' first
    | exact h | assumption | apply kept_ite | apply kept_mapRef | apply kept_event

theorem kept_refRestart (h : Kept k s t) : Kept k s (State.refRestart t) := by
  unfold State.refRestart
  with_reducible repeat' first
    | exact h | assumption | apply kept_ite | apply kept_mapRef | apply kept_switchFallback | refine kept_foldl ?_ (fun _ _ _ => ?_)

theorem kept_restartEffect {b : Block} {u : Option Nat} (h : Kept k s t) : Kept k s (State.restartEffect t b u) := by
  unfold State.restartEffect
  with_reducible repeat' first
    | exact h | assumption | apply kept_ite | apply kept_discardBlock | apply kept_mapSns | apply kept_refRestart | apply kept_mapTiu
    | apply kept_mapOcc | apply kept_mapAar | apply kept_macDown | apply kept_wr | apply kept_mapPhs | apply kept_closeSession
    | apply kept_mapZon | apply kept_cmpRestart | apply kept_mapCvu | apply kept_mapDts | refine kept_foldl ?_ (fun _ _ _ => ?_) | rfl
    | intro _ | split

theorem kept_blockFault {b : Block} {u : Option Nat} {cause : Nat} {detail : Nat} (h : Kept k s t) :
    Kept k s (State.blockFault t b u cause detail) := by
  unfold State.blockFault
  with_reducible repeat' first
    | exact h | assumption | apply kept_ite | apply kept_restartEffect | apply kept_laneDown | apply kept_mapChp | apply kept_record
    | apply kept_isolate | apply kept_courseFault | apply kept_escalateFault | rfl | intro _ | split

theorem kept_readyEffect {b : Block} {u : Option Nat} (h : Kept k s t) : Kept k s (State.readyEffect t b u) := by
  unfold State.readyEffect
  with_reducible repeat' first
    | exact h | assumption | apply kept_mapRef | apply kept_mapOcc | apply kept_mapAar | apply kept_mapPhs | apply kept_mapPfl | rfl
    | intro _ | split

theorem kept_settleHalt (h : Kept k s t) : Kept k s (State.settleHalt t) := by
  unfold State.settleHalt
  with_reducible repeat' first
    | exact h | assumption | apply kept_ite | apply kept_wr | apply kept_haltTab | rfl | intro _ | split

theorem kept_settleEarly {u : Nat} (h : Kept k s t) : Kept k s (State.settleEarly t u) := by
  unfold State.settleEarly
  with_reducible repeat' first
    | exact h | assumption | apply kept_ite | apply kept_bump | apply kept_mapTiu | apply kept_event | rfl | intro _ | split

theorem kept_atT {t_1 : Instant} (h : Kept k s t) : Kept k s (State.atT t t_1) := by
  unfold State.atT
  with_reducible repeat' first
    | exact h | assumption | apply kept_ite | apply kept_settleHalt | apply kept_drainMac | apply kept_settleEarly | apply kept_advance
    | refine kept_foldl ?_ (fun _ _ _ => ?_)

theorem kept_poke {b : Block} {u : Option Nat} {f : State → State} (h : Kept k s t) (hf : ∀ a0, Kept k s a0 → Kept k s (f a0)) :
    Kept k s (State.poke t b u f) := by
  unfold State.poke
  with_reducible repeat' first
    | exact h | assumption | apply kept_ite | apply hf | apply kept_done | apply kept_busErr

theorem kept_denyPriv (h : Kept k s t) : Kept k s (State.denyPriv t) := by
  unfold State.denyPriv
  with_reducible repeat' first
    | exact h | assumption | apply kept_bump | apply kept_event

theorem kept_denySeal (h : Kept k s t) : Kept k s (State.denySeal t) := by
  unfold State.denySeal
  with_reducible repeat' first
    | exact h | assumption | apply kept_bump | apply kept_event

theorem kept_strobe {m : Master} {b : Block} {u : Option Nat} {sealed : Bool} {f : State → State} (h : Kept k s t) (hf : ∀ a0, Kept k s a0 → Kept k s (f a0)) :
    Kept k s (State.strobe t m b u sealed f) := by
  unfold State.strobe
  with_reducible repeat' first
    | exact h | assumption | apply kept_ite | apply hf | apply kept_denySeal | apply kept_done | apply kept_denyPriv | apply kept_busErr

theorem kept_reseat {n : Nat} (h : Kept k s t) : Kept k s (State.reseat t n) := by
  unfold State.reseat
  with_reducible repeat' first
    | exact h | assumption | apply kept_ite | apply kept_mapPhs | apply kept_event

theorem kept_markRetuned (h : Kept k s t) : Kept k s (State.markRetuned t) := by
  unfold State.markRetuned
  with_reducible repeat' first
    | exact h | assumption | apply kept_mapKpe

theorem kept_occStart {k_1 : FrameKind} (h : Kept k s t) : Kept k s (State.occStart t k_1) := by
  unfold State.occStart
  with_reducible repeat' first
    | exact h | assumption | apply kept_ite | apply kept_mapOcc

theorem kept_tiuSwitch (h : Kept k s t) : Kept k s (State.tiuSwitch t) := by
  unfold State.tiuSwitch
  with_reducible repeat' first
    | exact h | assumption | apply kept_ite | apply kept_mapTiu

theorem kept_aarSwitch {n : Nat} {cores : List Nat} (h : Kept k s t) : Kept k s (State.aarSwitch t n cores) := by
  unfold State.aarSwitch
  with_reducible repeat' first
    | exact h | assumption | apply kept_ite | apply kept_mapAar

theorem kept_refSwitch (h : Kept k s t) : Kept k s (State.refSwitch t) := by
  unfold State.refSwitch
  with_reducible repeat' first
    | exact h | assumption | apply kept_ite | apply kept_mapRef | apply kept_wr | refine kept_foldl ?_ (fun _ _ _ => ?_)

theorem kept_dtsSwitch {n : Nat} (h : Kept k s t) : Kept k s (State.dtsSwitch t n) := by
  unfold State.dtsSwitch
  with_reducible repeat' first
    | exact h | assumption | apply kept_ite | apply kept_closeBlock | apply kept_mapDts

theorem kept_ringSwitch {n : Nat} (h : Kept k s t) : Kept k s (State.ringSwitch t n) := by
  unfold State.ringSwitch
  with_reducible repeat' first
    | exact h | assumption | apply kept_ite | apply kept_mapRng

theorem kept_takeStage {n : Nat} (h : Kept k s t) : Kept k s (State.takeStage t n) := by
  unfold State.takeStage
  extract_lets zones cores nco restart pfl s1 s2 s3 s4 s5 s6 s7 s8 s9 s10 s11 s12 s13 s14 s15
  have h1 : Kept k s s1 := kept_tiuSwitch (kept_refSwitch h)
  have h2 : Kept k s s2 := kept_ringSwitch h1
  have h3 : Kept k s s3 := kept_dtsSwitch h2
  have h4 : Kept k s s4 := kept_markRetuned h3
  have h5 : Kept k s s5 := kept_mapPsy h4
  have h6 : Kept k s s6 := kept_mapChn h5
  have h7 : Kept k s s7 := kept_mapCrx h6
  have h8 : Kept k s s8 := kept_mapPfl h7
  have h9 : Kept k s s9 := kept_mapZon h8
  have h10 : Kept k s s10 := kept_aarSwitch h9
  have h11 : Kept k s s11 := kept_mapOcc h10
  have h12 : Kept k s s12 := kept_mapRegs h11 fun ⟨h1, h2, h3, h4, h5, h6, h7, h8, h9, h10⟩ => ⟨h1, h3, h3, h2, h5, h6, h7, h8, h9, h10⟩
  have h13 : Kept k s s13 := kept_mapMems h12 fun ⟨h1, h2, h3, h4, h5, h6, h7, h8, h9, h10⟩ => ⟨h1, h2, h3, h4, h5, h6, h8, h8, h7, h10⟩
  have h14 : Kept k s s14 := kept_mapChp h13 rfl id
  have h15 : Kept k s s15 := kept_ite (kept_occStart h14) h14
  exact kept_ite (kept_mapOcc h15) h15

theorem kept_switchTuning {n : Nat} (h : Kept k s t) : Kept k s (State.switchTuning t n) := by
  unfold State.switchTuning
  with_reducible repeat' first
    | exact h | assumption | apply kept_reseat | apply kept_takeStage

theorem kept_retune {n : Nat} {entry : Nat} (h : Kept k s t) : Kept k s (State.retune t n entry) := by
  unfold State.retune
  with_reducible repeat' first
    | exact h | assumption | apply kept_ite | apply kept_notify | apply kept_bump | apply kept_wr | apply kept_record | apply kept_mapPsq
    | apply kept_mapGuards | apply kept_switchTuning | apply kept_event

theorem kept_occRelease (h : Kept k s t) : Kept k s (State.occRelease t) := by
  unfold State.occRelease
  with_reducible repeat' first
    | exact h | assumption | apply kept_ite | apply kept_mapOcc | apply kept_occStart

theorem kept_retuneIfDue (h : Kept k s t) : Kept k s (State.retuneIfDue t) := by
  unfold State.retuneIfDue
  with_reducible repeat' first
    | exact h | assumption | apply kept_retune | rfl | intro _ | split

theorem kept_confirm {b : Block} {sweep : Nat} (h : Kept k s t) : Kept k s (State.confirm t b sweep) := by
  unfold State.confirm
  with_reducible repeat' first
    | exact h | assumption | apply kept_ite | apply kept_mapChp | rfl | intro _

theorem kept_refuse {code : Nat} (h : Kept k s t) : Kept k s (State.refuse t code) := by
  unfold State.refuse
  with_reducible repeat' first
    | exact h | assumption | apply kept_wr

theorem kept_stageTo {x : StageState} (h : Kept k s t) : Kept k s (State.stageTo t x) := by
  unfold State.stageTo
  with_reducible repeat' first
    | exact h | assumption | apply kept_ite | apply kept_mapChp | apply kept_occRelease | apply kept_cancelLearn | rfl | intro _

theorem kept_learnSweep (h : Kept k s t) : Kept k s (State.learnSweep t) := by
  unfold State.learnSweep
  with_reducible repeat' first
    | exact h | assumption | apply kept_ite | apply kept_mapGuard | refine kept_foldl ?_ (fun _ _ _ => ?_) | rfl | intro _ | split

theorem kept_sweepBegins {inst : Nat} (h : Kept k s t) : Kept k s (State.sweepBegins t inst) := by
  unfold State.sweepBegins
  with_reducible repeat' first
    | exact h | assumption | apply kept_ite | apply kept_mapSrc | apply kept_mapRef | apply kept_mapOcc | apply kept_occStart
    | apply kept_wr | apply kept_mapPhs | apply kept_mapZon | apply kept_mapPfl | apply kept_event | rfl | intro _ | split

theorem kept_clipToNow (h : Kept k s t) : Kept k s (State.clipToNow t) := by
  unfold State.clipToNow
  with_reducible repeat' first
    | exact h | assumption | apply kept_ite | apply kept_bump | apply kept_mapPsy | apply kept_event
    | refine kept_foldl ?_ (fun _ _ _ => ?_)

theorem kept_tuneIfDue (h : Kept k s t) : Kept k s (State.tuneIfDue t) := by
  unfold State.tuneIfDue
  with_reducible repeat' first
    | exact h | assumption | apply kept_ite | apply kept_retuneIfDue | apply kept_clipToNow

theorem kept_takeBoundary {w : SwbWait} {inst : Nat} (h : Kept k s t) : Kept k s (State.takeBoundary t w inst) := by
  unfold State.takeBoundary
  with_reducible repeat' first
    | exact h | assumption | apply kept_ite | apply kept_mapChp | apply kept_wr | apply kept_mapPsq | apply kept_sweepBegins
    | apply kept_mapGuards | apply kept_learnSweep | apply kept_haltTab | rfl | intro _ | split | dsimp only

theorem kept_openLook {slot : Nat} {shape : Nat} {sub : Nat} (h : Kept k s t) : Kept k s (State.openLook t slot shape sub) := by
  unfold State.openLook
  with_reducible repeat' first
    | exact h | assumption | apply kept_ite | apply kept_bump | apply kept_mapPsq | apply kept_event

theorem kept_tabStep {fits : Bool} {w : Nat} {f : State → State} (h : Kept k s t) (hf : ∀ a0, Kept k s a0 → Kept k s (f a0)) :
    Kept k s (State.tabStep t fits w f) := by
  unfold State.tabStep
  with_reducible repeat' first
    | exact h | assumption | apply kept_ite | apply hf | apply kept_tuneIfDue | apply kept_atT | rfl | intro _ | split

theorem kept_firePluck {k_1 : Pluck} (h : Kept k s t) : Kept k s (State.firePluck t k_1) := by
  unfold State.firePluck
  with_reducible repeat' first
    | exact h | assumption | apply kept_bump | apply kept_mapPsq

theorem kept_tabNext {n : Nat} (h : Kept k s t) : Kept k s (State.tabNext t n) := by
  unfold State.tabNext
  with_reducible repeat' first
    | exact h | assumption | apply kept_mapPsq

theorem kept_tabBranch {a : Nat} (h : Kept k s t) : Kept k s (State.tabBranch t a) := by
  unfold State.tabBranch
  with_reducible repeat' first
    | exact h | assumption | apply kept_mapPsq

theorem kept_beginPluck {slot : Nat} {shape : Nat} {scale : Nat} {restart : Bool} (h : Kept k s t) :
    Kept k s (State.beginPluck t slot shape scale restart) := by
  unfold State.beginPluck
  with_reducible repeat' first
    | exact h | assumption | apply kept_mapPsq

theorem kept_mapStg {k_1 : Nat} {f : SrcStage → SrcStage} (h : Kept k s t) :
    Kept k s (State.mapStg t k_1 f) := by
  unfold State.mapStg
  with_reducible repeat' first
    | exact h | assumption | apply kept_mapSrc

theorem kept_noteApd (h : Kept k s t) : Kept k s (State.noteApd t) := by
  unfold State.noteApd
  with_reducible repeat' first
    | exact h | assumption | apply kept_ite | apply kept_mapRmx

theorem kept_stageFault {k_1 : Nat} {f : StageFault} (h : Kept k s t) : Kept k s (State.stageFault t k_1 f) := by
  unfold State.stageFault
  with_reducible repeat' first
    | exact h | assumption | apply kept_ite | apply kept_bump | apply kept_noteApd | apply kept_trip | apply kept_mapStg | apply kept_event

theorem kept_windowEnds {k_1 : Nat} (h : Kept k s t) : Kept k s (State.windowEnds t k_1) := by
  unfold State.windowEnds
  with_reducible repeat' first
    | exact h | assumption | apply kept_ite | apply kept_noteApd | apply kept_wr | apply kept_mapStg | apply kept_mapRmx | apply kept_event

theorem kept_carrierPeriod {k_1 : Nat} {sense : Nat} {at_ : Nat} (h : Kept k s t) : Kept k s (State.carrierPeriod t k_1 sense at_) := by
  unfold State.carrierPeriod
  with_reducible repeat' first
    | exact h | assumption | apply kept_ite | apply kept_bump | apply kept_windowEnds | apply kept_mapStg

theorem kept_clearFault {k_1 : Nat} (h : Kept k s t) : Kept k s (State.clearFault t k_1) := by
  unfold State.clearFault
  with_reducible repeat' first
    | exact h | assumption | apply kept_ite | apply kept_mapStg

theorem kept_derate {c : Nat} {lin : Option Int} (h : Kept k s t) : Kept k s (State.derate t c lin) := by
  unfold State.derate
  with_reducible repeat' first
    | exact h | assumption | apply kept_ite | apply kept_mapSrc | apply kept_wr | apply kept_eventStands | apply kept_causeGone

theorem kept_occLive (h : Kept k s t) : Kept k s (State.occLive t) := by
  unfold State.occLive
  with_reducible repeat' first
    | exact h | assumption | apply kept_ite | apply kept_mapOcc | apply kept_occStart | apply kept_event

theorem kept_liveValue {w : Nat} {v_2 : Word} (h : Kept k s t) : Kept k s (State.liveValue t w v_2) := by
  unfold State.liveValue
  with_reducible repeat' first
    | exact h | assumption | apply kept_ite | apply kept_wr | apply kept_occLive

theorem kept_occReturned {xs : List (BitVec 16)} (h : Kept k s t) : Kept k s (State.occReturned t xs) := by
  unfold State.occReturned
  with_reducible repeat' first
    | exact h | assumption | apply kept_wr | refine kept_foldl ?_ (fun _ _ _ => ?_)

theorem kept_setGain {p : Pol} {g : Nat} (h : Kept k s t) : Kept k s (State.setGain t p g) := by
  unfold State.setGain
  with_reducible repeat' first
    | exact h | assumption | apply kept_ite | apply kept_wr | apply kept_mapCrx

theorem kept_calFactor {addr : Nat} {v_2 : Word} (h : Kept k s t) : Kept k s (State.calFactor t addr v_2) := by
  unfold State.calFactor
  with_reducible repeat' first
    | exact h | assumption | apply kept_ite | apply kept_setLive | apply kept_mapCal | rfl | intro _ | split

theorem kept_calUpdate {c : Nat} {off : List Int} {gain : List Int} {skew : List Int} (h : Kept k s t) :
    Kept k s (State.calUpdate t c off gain skew) := by
  unfold State.calUpdate
  with_reducible repeat' first
    | exact h | assumption | apply kept_bump | apply kept_wr | refine kept_foldl ?_ (fun _ _ _ => ?_)

theorem kept_skewCalCmd (h : Kept k s t) : Kept k s (State.skewCalCmd t) := by
  unfold State.skewCalCmd
  with_reducible repeat' first
    | exact h | assumption | apply kept_ite | apply kept_mapCal | apply kept_event

theorem kept_phsDone {x : SlotSample} {g : Nat} {ph : BitVec 16} (h : Kept k s t) : Kept k s (State.phsDone t x g ph) := by
  unfold State.phsDone
  with_reducible repeat' first
    | exact h | assumption | apply kept_ite | apply kept_mapPhs | apply kept_mapPcm

theorem kept_phsProbe {p : Nat} {k_2 : Nat} {sl : SlotState} (h : Kept k s t) : Kept k s (State.phsProbe t p k_2 sl) := by
  unfold State.phsProbe
  with_reducible repeat' first
    | exact h | assumption | apply kept_ite | apply kept_wr

theorem kept_phsCount {x : SlotSample} {r : PhsOut} {valid : Bool} {wasOver : Bool} {reseat : Bool} {n : Nat} (h : Kept k s t) :
    Kept k s (State.phsCount t x r valid wasOver reseat n) := by
  unfold State.phsCount
  with_reducible repeat' first
    | exact h | assumption | apply kept_ite | apply kept_bump | apply kept_event

theorem kept_setPos {x : PosState} (h : Kept k s t) : Kept k s (State.setPos t x) := by
  unfold State.setPos
  with_reducible repeat' first
    | exact h | assumption | apply kept_ite | apply kept_mapPhs

theorem kept_phsLook {x : SlotSample} {l : Look} {before : BitVec 16} (h : Kept k s t) :
    Kept k s (State.phsLook t x l before) := by
  unfold State.phsLook
  with_reducible repeat' first
    | exact h | assumption | apply kept_ite | apply kept_phsCount | apply kept_mapPhs | apply kept_phsDone | apply kept_confirm
    | apply kept_phsProbe | apply kept_setPos

theorem kept_givePluck {sweep : Nat} {l : Look} (h : Kept k s t) : Kept k s (State.givePluck t sweep l) := by
  unfold State.givePluck
  with_reducible repeat' first
    | exact h | assumption | apply kept_ite | apply kept_mapKpe | apply kept_giveRow | refine kept_foldl ?_ (fun _ _ _ => ?_)

theorem kept_phsPluck {x : SlotSample} {l : Look} (h : Kept k s t) : Kept k s (State.phsPluck t x l) := by
  unfold State.phsPluck
  with_reducible repeat' first
    | exact h | assumption | apply kept_ite | apply kept_givePluck | apply kept_phsDone | apply kept_mapKpe

theorem kept_events {n : Nat} {f : Field} (h : Kept k s t) : Kept k s (State.events t n f) := by
  unfold State.events
  with_reducible repeat' first
    | exact h | assumption | apply kept_event | refine kept_foldl ?_ (fun _ _ _ => ?_)

theorem kept_pflCount {xs : List PosOut} {full : List PflSample} (h : Kept k s t) :
    Kept k s (State.pflCount t xs full) := by
  unfold State.pflCount
  with_reducible repeat' first
    | exact h | assumption | apply kept_bumpBy | apply kept_events | refine kept_foldl ?_ (fun _ _ _ => ?_)

theorem kept_tapDue {k_1 : Nat} {sweep : Nat} (h : Kept k s t) : Kept k s (State.tapDue t k_1 sweep) := by
  unfold State.tapDue
  with_reducible repeat' first
    | exact h | assumption | apply kept_ite | apply kept_mapAar

theorem kept_tapRow {r : PflRow} {k_2 : Nat} (h : Kept k s t) : Kept k s (State.tapRow t r k_2) := by
  unfold State.tapRow
  with_reducible repeat' first
    | exact h | assumption | apply kept_ite | apply kept_mapAar | apply kept_tapDue

theorem kept_deliver {r : PflRow} (h : Kept k s t) : Kept k s (State.deliver t r) := by
  unfold State.deliver
  with_reducible repeat' first
    | exact h | assumption | apply kept_ite | apply kept_ringSettle | apply kept_blockFault | apply kept_tapRow | apply kept_mapRng
    | apply kept_giveRow | refine kept_foldl ?_ (fun _ _ _ => ?_) | rfl | intro _ | split

theorem kept_pflProbe {xs : List PosOut} (h : Kept k s t) : Kept k s (State.pflProbe t xs) := by
  unfold State.pflProbe
  with_reducible repeat' first
    | exact h | assumption | apply kept_wr | rfl | intro _ | split

theorem kept_pflForm {i : Nat} {feed : Bool} (h : Kept k s t) : Kept k s (State.pflForm t i feed) := by
  unfold State.pflForm
  with_reducible repeat' first
    | exact h | assumption | apply kept_ite | apply kept_pflCount | apply kept_deliver | apply kept_mapPfl | apply kept_pflProbe
    | refine kept_foldl ?_ (fun _ _ _ => ?_) | rfl | intro _ | split

theorem kept_pflResetAll (h : Kept k s t) : Kept k s (State.pflResetAll t) := by
  unfold State.pflResetAll
  with_reducible repeat' first
    | exact h | assumption | apply kept_mapPfl | apply kept_pflForm | apply kept_event | refine kept_foldl ?_ (fun _ _ _ => ?_)

theorem kept_pflTake {x : PosSample} {xs : List PosSample} (h : Kept k s t) :
    Kept k s (State.pflTake t x xs) := by
  unfold State.pflTake
  with_reducible repeat' first
    | exact h | assumption | apply kept_ite | apply kept_bumpBy | apply kept_pflResetAll | apply kept_wr | apply kept_confirm
    | apply kept_events | apply kept_mapPfl | apply kept_pflForm

theorem kept_giveDts {z : Nat} {x : DtsInput} (h : Kept k s t) : Kept k s (State.giveDts t z x) := by
  unfold State.giveDts
  with_reducible repeat' first
    | exact h | assumption | apply kept_ite | apply kept_bump | apply kept_mapZon | apply kept_event

theorem kept_giveFeatures {temps : List (BitVec 16)} {before : Option (List (BitVec 16))} {old : Bool} (h : Kept k s t) :
    Kept k s (State.giveFeatures t temps before old) := by
  unfold State.giveFeatures
  with_reducible repeat' first
    | exact h | assumption | apply kept_ite | apply kept_giveDts | refine kept_foldl ?_ (fun _ _ _ => ?_)

theorem kept_giveTemps {p : DtsProfile} {capo : Nat} {stop : Nat} (h : Kept k s t) :
    Kept k s (State.giveTemps t p capo stop) := by
  unfold State.giveTemps
  with_reducible repeat' first
    | exact h | assumption | apply kept_ite | apply kept_giveRow | refine kept_foldl ?_ (fun _ _ _ => ?_) | rfl | intro _ | split

theorem kept_droneUpdate {u : DtsUnload} {c0 : Option Coil} {c1 : Option Coil} (h : Kept k s t) :
    Kept k s (State.droneUpdate t u c0 c1).1 := by
  unfold State.droneUpdate
  with_reducible repeat' first
    | exact h | assumption | apply kept_ite_fst | apply kept_ite | apply kept_bump | apply kept_bumpBy | apply kept_events
    | apply kept_event | apply kept_mapDts | refine kept_pair (by assumption) ?_ | rfl | intro _ | split | dsimp only

theorem kept_profile {u : DtsUnload} (h : Kept k s t) : Kept k s (State.profile t u) := by
  unfold State.profile
  with_reducible repeat' first
    | exact h | assumption | apply kept_ite | apply kept_bump | apply kept_giveTemps | apply kept_giveFeatures | apply kept_wr
    | apply kept_droneUpdate | apply kept_tapDue | apply kept_event | apply kept_mapDts

theorem kept_closeIfOver {n : Nat} (h : Kept k s t) : Kept k s (State.closeIfOver t n) := by
  unfold State.closeIfOver
  with_reducible repeat' first
    | exact h | assumption | apply kept_ite | apply kept_closeBlock

theorem kept_intoBlock {n : Nat} {f : DtsBlock → DtsBlock} (h : Kept k s t) :
    Kept k s (State.intoBlock t n f) := by
  unfold State.intoBlock
  with_reducible repeat' first
    | exact h | assumption | apply kept_ite | apply kept_closeIfOver | apply kept_mapDts

theorem kept_mapCore {n : Nat} {f : AarCore → AarCore} (h : Kept k s t) :
    Kept k s (State.mapCore t n f) := by
  unfold State.mapCore
  with_reducible repeat' first
    | exact h | assumption | apply kept_mapAar

theorem kept_deliverFrame {n : Nat} {f : FrameRef} {written : Bool} {overrun : Bool} (h : Kept k s t) :
    Kept k s (State.deliverFrame t n f written overrun) := by
  unfold State.deliverFrame
  with_reducible repeat' first
    | exact h | assumption | apply kept_ite | apply kept_mapCore | apply kept_mapAar

theorem kept_beginFrame {n : Nat} {f : FrameRef} (h : Kept k s t) : Kept k s (State.beginFrame t n f) := by
  unfold State.beginFrame
  with_reducible repeat' first
    | exact h | assumption | apply kept_ite | apply kept_mapCore

theorem kept_coreIdle {n : Nat} (h : Kept k s t) : Kept k s (State.coreIdle t n) := by
  unfold State.coreIdle
  with_reducible repeat' first
    | exact h | assumption | apply kept_ite | apply kept_mapCore

theorem kept_overrunFrame {n : Nat} {f : FrameRef} {g : FrameRef} (h : Kept k s t) :
    Kept k s (State.overrunFrame t n f g) := by
  unfold State.overrunFrame
  with_reducible repeat' first
    | exact h | assumption | apply kept_ite | apply kept_mapCore | apply kept_bump | apply kept_deliverFrame | apply kept_beginFrame
    | apply kept_coreIdle | apply kept_event

theorem kept_aarCount {n : Nat} {e : AarEv} (h : Kept k s t) : Kept k s (State.aarCount t n e) := by
  unfold State.aarCount
  with_reducible repeat' first
    | exact h | assumption | apply kept_bumpBy | apply kept_events

theorem kept_commitFrame {n : Nat} {f : FrameRef} (h : Kept k s t) : Kept k s (State.commitFrame t n f) := by
  unfold State.commitFrame
  with_reducible repeat' first
    | exact h | assumption | apply kept_ite | apply kept_mapCore | apply kept_bump | apply kept_deliverFrame | apply kept_wr
    | apply kept_beginFrame | rfl | intro _ | split | dsimp only

theorem kept_aarStep {n : Nat} {w : BitVec 64} {op : Nat} {stall : Nat} {f : AarWord → AarCore → AarCore × AarEv} (h : Kept k s t) :
    Kept k s (State.aarStep t n w op stall f) := by
  unfold State.aarStep
  with_reducible repeat' first
    | exact h | assumption | apply kept_ite | apply kept_mapCore | apply kept_aarCount | apply kept_atT | rfl | intro _ | split | dsimp only

theorem kept_abandonFrame {n : Nat} (h : Kept k s t) : Kept k s (State.abandonFrame t n) := by
  unfold State.abandonFrame
  with_reducible repeat' first
    | exact h | assumption | apply kept_deliverFrame | rfl | intro _ | split

theorem kept_endRun {n : Nat} {skip : Bool} (h : Kept k s t) : Kept k s (State.endRun t n skip) := by
  unfold State.endRun
  with_reducible repeat' first
    | exact h | assumption | apply kept_ite | apply kept_mapCore | apply kept_commitFrame | rfl | intro _ | split | dsimp only

theorem kept_giveFeature {z : Nat} {i : Nat} {x : FeatureInput} (h : Kept k s t) : Kept k s (State.giveFeature t z i x) := by
  unfold State.giveFeature
  with_reducible repeat' first
    | exact h | assumption | apply kept_ite | apply kept_bump | apply kept_mapZon | apply kept_event

theorem kept_armRelease (h : Kept k s t) : Kept k s (State.armRelease t) := by
  unfold State.armRelease
  with_reducible repeat' first
    | exact h | assumption | apply kept_ite | apply kept_mapZon

theorem kept_fireSuppressed (h : Kept k s t) : Kept k s (State.fireSuppressed t) := by
  unfold State.fireSuppressed
  with_reducible repeat' first
    | exact h | assumption | apply kept_bump | apply kept_event

theorem kept_armAssert (h : Kept k s t) : Kept k s (State.armAssert t) := by
  unfold State.armAssert
  with_reducible repeat' first
    | exact h | assumption | apply kept_mapZon

theorem kept_firePull {cal : Bool} (h : Kept k s t) : Kept k s (State.firePull t cal) := by
  unfold State.firePull
  with_reducible repeat' first
    | exact h | assumption | apply kept_ite | apply kept_mapZon

theorem kept_armIgnored (h : Kept k s t) : Kept k s (State.armIgnored t) := by
  unfold State.armIgnored
  with_reducible repeat' first
    | exact h | assumption | apply kept_bump | apply kept_event

theorem kept_mapUnit {z : Nat} {f : ZoneUnit → ZoneUnit} (h : Kept k s t) :
    Kept k s (State.mapUnit t z f) := by
  unfold State.mapUnit
  with_reducible repeat' first
    | exact h | assumption | apply kept_mapZon

theorem kept_emit {e : EventRec} (h : Kept k s t) : Kept k s (State.emit t e) := by
  unfold State.emit
  with_reducible repeat' first
    | exact h | assumption | apply kept_bump | apply kept_mapZon

theorem kept_zoneAction {z : Nat} {j : Nat} {a : Nat} {before : Nat} {x : ZoneInput} {idle : Bool} {armed : Bool} {reqs : List CapRequest} (h : Kept k s t) :
    Kept k s (State.zoneAction t z j a before x idle armed reqs).1 := by
  unfold State.zoneAction
  with_reducible repeat' first
    | exact h | assumption | apply kept_ite_fst | apply kept_ite | apply kept_armRelease | apply kept_bump | apply kept_fireSuppressed
    | apply kept_armAssert | apply kept_firePull | apply kept_mapZon | apply kept_armIgnored | apply kept_mapUnit | apply kept_emit
    | apply kept_event | refine kept_pair (by assumption) ?_ | rfl | intro _ | split

theorem kept_mergeRequests {reqs : List CapRequest} (h : Kept k s t) : Kept k s (State.mergeRequests t reqs) := by
  unfold State.mergeRequests
  with_reducible repeat' first
    | exact h | assumption | apply kept_bump | apply kept_bumpBy | apply kept_mapZon | refine kept_foldl ?_ (fun _ _ _ => ?_)

theorem kept_giveEvent {i : Nat} {e : EventRec} (h : Kept k s t) : Kept k s (State.giveEvent t i e) := by
  unfold State.giveEvent
  with_reducible repeat' first
    | exact h | assumption | apply kept_ite | apply kept_mapSub | apply kept_lost | rfl | intro _ | split

theorem kept_zoneTakes {z : Nat} {st : Nat} {pick : Option Nat} {ins : Nat → ZoneInput} {idle : Bool} {armed : Bool} {reqs : List CapRequest} (h : Kept k s t) :
    Kept k s (State.zoneTakes t z st pick ins idle armed reqs).1 := by
  unfold State.zoneTakes
  with_reducible repeat' first
    | exact h | assumption | apply kept_zoneAction | apply kept_mapUnit | refine kept_pair (by assumption) ?_ | rfl | intro _ | split

theorem kept_zoneUnitStep {z : Nat} {idle : Bool} {armed : Bool} {fireSeen : Bool} {reqs : List CapRequest} (h : Kept k s t) :
    Kept k s (State.zoneUnitStep t z idle armed fireSeen reqs).1 := by
  unfold State.zoneUnitStep
  with_reducible repeat' first
    | exact h | assumption | apply kept_ite_fst | apply kept_ite | apply kept_zoneTakes | apply kept_mapUnit

theorem kept_zoneFold {l : List Nat} {idle armed seen : Bool} {p : State × List CapRequest} (h : Kept k s p.1) : Kept k s (l.foldl (fun p z => State.zoneUnitStep p.1 z idle armed seen p.2) p).1 := by
  induction l generalizing p with
  | nil => exact h
  | cons z l ih =>
    have h1 := kept_zoneUnitStep (z := z) (idle := idle) (armed := armed) (fireSeen := seen) (reqs := p.2) h
    rw [List.foldl_cons]
    exact ih h1

theorem kept_zoneSteps {idle : Bool} (h : Kept k s t) : Kept k s (State.zoneSteps t idle) := by
  unfold State.zoneSteps
  extract_lets s1 s2 s3 s4 armed seen units r bus s5
  have h1 : Kept k s s1 := kept_mapZon h
  have h2 : Kept k s s2 := kept_ite (kept_armRelease h1) h1
  have h3 : Kept k s s3 := kept_foldl h2 fun _ _ => kept_mapUnit
  have h4 : Kept k s s4 := kept_mapZon h3
  clear_value s4 units armed seen
  have hr : Kept k s r.1 := kept_zoneFold h4
  exact kept_mergeRequests (kept_mapZon hr)

theorem kept_busEvent {code : Nat} {e : BusEdge} {capture : CaptureField} (h : Kept k s t) :
    Kept k s (State.busEvent t code e capture) := by
  unfold State.busEvent
  with_reducible repeat' first
    | exact h | assumption | apply kept_mapZon | apply kept_emit

theorem kept_releaseBuses (h : Kept k s t) : Kept k s (State.releaseBuses t) := by
  unfold State.releaseBuses
  with_reducible repeat' first
    | exact h | assumption | apply kept_armRelease | apply kept_mapZon

theorem kept_takeEvents (h : Kept k s t) : Kept k s (State.takeEvents t) := by
  unfold State.takeEvents
  with_reducible repeat' first
    | exact h | assumption | apply kept_giveEvent | apply kept_mapZon | refine kept_foldl ?_ (fun _ _ _ => ?_)

theorem kept_recordEdge {e : BusEdge} (h : Kept k s t) : Kept k s (State.recordEdge t e) := by
  unfold State.recordEdge
  with_reducible repeat' first
    | exact h | assumption | apply kept_wr

theorem kept_armCmd {on : Bool} (h : Kept k s t) : Kept k s (State.armCmd t on) := by
  unfold State.armCmd
  with_reducible repeat' first
    | exact h | assumption | apply kept_ite | apply kept_armRelease | apply kept_armAssert | apply kept_armIgnored

theorem kept_muFire (h : Kept k s t) : Kept k s (State.muFire t) := by
  unfold State.muFire
  with_reducible repeat' first
    | exact h | assumption | apply kept_ite | apply kept_fireSuppressed | apply kept_firePull

theorem kept_calFire (h : Kept k s t) : Kept k s (State.calFire t) := by
  unfold State.calFire
  with_reducible repeat' first
    | exact h | assumption | apply kept_ite | apply kept_firePull

theorem kept_guardRefuses {g : GuardId} (h : Kept k s t) : Kept k s (State.guardRefuses t g) := by
  unfold State.guardRefuses
  with_reducible repeat' first
    | exact h | assumption | apply kept_event

theorem kept_stopGuard {g : GuardId} (h : Kept k s t) : Kept k s (State.stopGuard t g) := by
  unfold State.stopGuard
  with_reducible repeat' first
    | exact h | assumption | apply kept_ite | apply kept_mapGuard | apply kept_followEnables

theorem kept_startAttempt (h : Kept k s t) : Kept k s (State.startAttempt t) := by
  unfold State.startAttempt
  with_reducible repeat' first
    | exact h | assumption | apply kept_bump | apply kept_guardEnter | apply kept_mapGuards

theorem kept_restartCmd (h : Kept k s t) : Kept k s (State.restartCmd t) := by
  unfold State.restartCmd
  with_reducible repeat' first
    | exact h | assumption | apply kept_ite | apply kept_guardRefuses | apply kept_startAttempt

theorem kept_countClips {bs : List BinSample} (h : Kept k s t) : Kept k s (State.countClips t bs) := by
  unfold State.countClips
  with_reducible repeat' first
    | exact h | assumption | apply kept_bump | apply kept_event | refine kept_foldl ?_ (fun _ _ _ => ?_)

theorem kept_learnValue {g : GuardId} {i : Nat} {v_3 : Nat} (h : Kept k s t) : Kept k s (State.learnValue t g i v_3) := by
  unfold State.learnValue
  with_reducible repeat' first
    | exact h | assumption | apply kept_ite | apply kept_mapGuard

theorem kept_beginSelfTest {g : GuardId} (h : Kept k s t) : Kept k s (State.beginSelfTest t g) := by
  unfold State.beginSelfTest
  with_reducible repeat' first
    | exact h | assumption | apply kept_ite | apply kept_guardRefuses | apply kept_mapGuard

theorem kept_writeLearned {g : GuardId} {l : Learning} (h : Kept k s t) : Kept k s (State.writeLearned t g l) := by
  have hf : ∀ (ws : List (Nat × Word)) (m : List Host.Cell), storeWf m = true → storeWf (ws.foldl (fun m w => Store.setWord m w.1 w.2) m) = true := by
    intro ws
    induction ws with
    | nil => exact fun _ h => h
    | cons w ws ih => exact fun m h => ih _ (storeWf_setWord h _ _)
  unfold State.writeLearned
  cases g with
  | a =>
    refine kept_setStage (kept_mapMems h fun hc => ?_)
    obtain ⟨h1, h2, h3, h4, h5, h6, h7, h8, h9, h10⟩ := hc
    exact ⟨h1, h2, h3, h4, h5, h6, h7, hf _ _ h8, h9, h10⟩
  | b =>
    refine kept_setStage ?_
    split
    · refine kept_mapMems h fun hc => ?_
      obtain ⟨h1, h2, h3, h4, h5, h6, h7, h8, h9, h10⟩ := hc
      exact ⟨h1, h2, h3, h4, h5, h6, h7, storeWf_setWord h8 _ _, h9, h10⟩
    · exact h

theorem kept_violation {g : GuardId} {c : TripCause} {t_3 : Nat} (h : Kept k s t) :
    Kept k s (State.violation t g c t_3) := by
  unfold State.violation
  with_reducible repeat' first
    | exact h | assumption | apply kept_ite | apply kept_failAttempt | apply kept_trip

theorem kept_beginLearn {g : GuardId} (h : Kept k s t) : Kept k s (State.beginLearn t g) := by
  unfold State.beginLearn
  with_reducible repeat' first
    | exact h | assumption | apply kept_ite | apply kept_guardRefuses | apply kept_mapGuard

theorem kept_checkBin {pc : Nat} {overload : Bool} {t_3 : Nat} (h : Kept k s t) : Kept k s (State.checkBin t pc overload t_3) := by
  unfold State.checkBin
  with_reducible repeat' first
    | exact h | assumption | apply kept_ite | apply kept_bump | apply kept_learnValue | apply kept_violation | apply kept_mapGda

theorem kept_cvuCmd {u : Nat} {f : State → State} (h : Kept k s t) (hf : ∀ a0, Kept k s a0 → Kept k s (f a0)) :
    Kept k s (State.cvuCmd t u f) := by
  unfold State.cvuCmd
  with_reducible repeat' first
    | exact h | assumption | apply kept_ite | apply hf

theorem kept_mapCvuUnit {u : Nat} {f : CvuUnit → CvuUnit} (h : Kept k s t) :
    Kept k s (State.mapCvuUnit t u f) := by
  unfold State.mapCvuUnit
  with_reducible repeat' first
    | exact h | assumption | apply kept_mapCvu

theorem kept_cvuLoad {u : Nat} {v_2 : BitVec 64} (h : Kept k s t) : Kept k s (State.cvuLoad t u v_2) := by
  unfold State.cvuLoad
  with_reducible repeat' first
    | exact h | assumption | apply kept_mapCvuUnit

theorem kept_settleDesc {i : Nat} (h : Kept k s t) : Kept k s (State.settleDesc t i) := by
  unfold State.settleDesc
  with_reducible repeat' first
    | exact h | assumption | apply kept_ite | apply kept_closeDesc

theorem kept_giveCapture {i : Nat} {r : RingRow} (h : Kept k s t) : Kept k s (State.giveCapture t i r) := by
  unfold State.giveCapture
  with_reducible repeat' first
    | exact h | assumption | apply kept_ite | apply kept_mapDesc | apply kept_bumpBy | apply kept_giveRow | apply kept_event
    | refine kept_foldl ?_ (fun _ _ _ => ?_)

theorem kept_cvuFeed {u : Nat} {v_2 : Word} (h : Kept k s t) : Kept k s (State.cvuFeed t u v_2) := by
  unfold State.cvuFeed
  with_reducible repeat' first
    | exact h | assumption | apply kept_ite | apply kept_mapCvuUnit

theorem kept_giveCommitted {i : Nat} (h : Kept k s t) : Kept k s (State.giveCommitted t i) := by
  unfold State.giveCommitted
  with_reducible repeat' first
    | exact h | assumption | apply kept_ite | apply kept_giveCapture | refine kept_foldl ?_ (fun _ _ _ => ?_)

theorem kept_cvuEnd {u : Nat} (h : Kept k s t) : Kept k s (State.cvuEnd t u) := by
  unfold State.cvuEnd
  with_reducible repeat' first
    | exact h | assumption | apply kept_ite | apply kept_bump | apply kept_record | apply kept_event | apply kept_mapCvuUnit

theorem kept_cvuIdle {u : Nat} (h : Kept k s t) : Kept k s (State.cvuIdle t u) := by
  unfold State.cvuIdle
  with_reducible repeat' first
    | exact h | assumption | apply kept_mapCvuUnit

theorem kept_fixWindow {i : Nat} {t_2 : Nat} (h : Kept k s t) : Kept k s (State.fixWindow t i t_2) := by
  unfold State.fixWindow
  with_reducible repeat' first
    | exact h | assumption | apply kept_ite | apply kept_mapDesc | apply kept_loseDesc | apply kept_settleDesc | apply kept_giveCommitted

theorem kept_acceptCapture {q : CapRequest} (h : Kept k s t) : Kept k s (State.acceptCapture t q).1 := by
  unfold State.acceptCapture
  with_reducible repeat' first
    | exact h | assumption | apply kept_ite_fst | apply kept_ite | apply kept_mapDesc | apply kept_bump | apply kept_mapRng
    | apply kept_mapKpe | apply kept_fixWindow | refine kept_pair (by assumption) ?_ | rfl | intro _ | split | dsimp only

theorem kept_resolveRequest {tag : Nat} {c : CaptureField} (h : Kept k s t) : Kept k s (State.resolveRequest t tag c) := by
  unfold State.resolveRequest
  with_reducible repeat' first
    | exact h | assumption | apply kept_ite | apply kept_mapZon

theorem kept_reuseSlot (h : Kept k s t) : Kept k s (State.reuseSlot t) := by
  unfold State.reuseSlot
  with_reducible repeat' first
    | exact h | assumption | apply kept_releaseRows | rfl | intro _ | split

theorem kept_commitDesc {w : Nat} {f : Nat} {i : Nat} (h : Kept k s t) : Kept k s (State.commitDesc t w f i) := by
  unfold State.commitDesc
  with_reducible repeat' first
    | exact h | assumption | apply kept_ite | apply kept_mapDesc | apply kept_settleDesc | apply kept_fixWindow | apply kept_giveCommitted
    | rfl | intro _ | split

theorem kept_captureOp {d : Nat} {op : Nat} {num24 : Nat} (h : Kept k s t) : Kept k s (State.captureOp t d op num24) := by
  unfold State.captureOp
  with_reducible repeat' first
    | exact h | assumption | apply kept_ite | apply kept_abortDesc | apply kept_releaseDesc

theorem kept_blockToFlow {b : CmpBlock} {bytes : List Byte} (h : Kept k s t) :
    Kept k s (State.blockToFlow t b bytes) := by
  unfold State.blockToFlow
  with_reducible repeat' first
    | exact h | assumption | apply kept_ite | apply kept_formPacket | apply kept_queueCtl | rfl | intro _ | split

theorem kept_cutStreams (h : Kept k s t) : Kept k s (State.cutStreams t) := by
  unfold State.cutStreams
  with_reducible repeat' first
    | exact h | assumption | apply kept_ite | apply kept_mapDesc | apply kept_dropGiven | apply kept_bump | apply kept_closeDesc
    | apply kept_event | refine kept_foldl ?_ (fun _ _ _ => ?_)

theorem kept_cvuBegin {u : Nat} (h : Kept k s t) : Kept k s (State.cvuBegin t u) := by
  unfold State.cvuBegin
  with_reducible repeat' first
    | exact h | assumption | apply kept_ite | apply kept_mapCvuUnit

theorem kept_mapSubCh {k_1 : Nat} {f : SubChannel → SubChannel} (h : Kept k s t) :
    Kept k s (State.mapSubCh t k_1 f) := by
  unfold State.mapSubCh
  with_reducible repeat' first
    | exact h | assumption | apply kept_mapDmc

theorem kept_mapRank {k_1 : Nat} {r : Nat} {f : DramRank → DramRank} (h : Kept k s t) :
    Kept k s (State.mapRank t k_1 r f) := by
  unfold State.mapRank
  with_reducible repeat' first
    | exact h | assumption | apply kept_mapSubCh

theorem kept_badLine {k_1 : Nat} {id : Nat} {a : Nat} (h : Kept k s t) : Kept k s (State.badLine t k_1 id a) := by
  unfold State.badLine
  with_reducible repeat' first
    | exact h | assumption | apply kept_bump | apply kept_wr | apply kept_record | apply kept_event

theorem kept_correctedLine {k_1 : Nat} {newer : Bool} (h : Kept k s t) : Kept k s (State.correctedLine t k_1 newer) := by
  unfold State.correctedLine
  with_reducible repeat' first
    | exact h | assumption | apply kept_ite | apply kept_bump | apply kept_event

theorem kept_throttle {k_1 : Nat} {p : LinePlace} (h : Kept k s t) : Kept k s (State.throttle t k_1 p) := by
  unfold State.throttle
  with_reducible repeat' first
    | exact h | assumption | apply kept_ite | apply kept_bump | apply kept_mapSubCh | apply kept_event | rfl | intro _ | split

theorem kept_neighbourRefresh {k_1 : Nat} {p : LinePlace} (h : Kept k s t) : Kept k s (State.neighbourRefresh t k_1 p) := by
  unfold State.neighbourRefresh
  with_reducible repeat' first
    | exact h | assumption | apply kept_bump | apply kept_bumpBy | apply kept_throttle | apply kept_mapSubCh | apply kept_event

theorem kept_bankAccess {id : Nat} {p : LinePlace} (h : Kept k s t) : Kept k s (State.bankAccess t id p) := by
  unfold State.bankAccess
  with_reducible repeat' first
    | exact h | assumption | apply kept_ite | apply kept_neighbourRefresh | apply kept_bump | apply kept_mapSubCh

theorem kept_markBad {a : Nat} (h : Kept k s t) : Kept k s (State.markBad t a) := by
  unfold State.markBad
  with_reducible repeat' first
    | exact h | assumption | apply kept_ite | apply kept_mapDmc

theorem kept_deliverReads {id : Nat} {n : Nat} (h : Kept k s t) : Kept k s (State.deliverReads t id n) := by
  induction n generalizing t id with
  | zero => unfold State.deliverReads; exact h
  | succ n ih =>
    unfold State.deliverReads
    with_reducible repeat' first
      | exact h | assumption | apply kept_ite | apply ih | apply kept_mapDmc | rfl | intro _ | split

theorem kept_precharge {k_1 : Nat} {r : Nat} (h : Kept k s t) : Kept k s (State.precharge t k_1 r) := by
  unfold State.precharge
  with_reducible repeat' first
    | exact h | assumption | apply kept_mapSubCh

theorem kept_issueRefresh {k_1 : Nat} {r : Nat} {t_3 : Nat} (h : Kept k s t) : Kept k s (State.issueRefresh t k_1 r t_3) := by
  unfold State.issueRefresh
  with_reducible repeat' first
    | exact h | assumption | apply kept_bump | apply kept_precharge | apply kept_mapRank

theorem kept_payDebt {k_1 : Nat} {r : Nat} {t_3 : Nat} (h : Kept k s t) : Kept k s (State.payDebt t k_1 r t_3) := by
  unfold State.payDebt
  with_reducible repeat' first
    | exact h | assumption | apply kept_ite | apply kept_issueRefresh

theorem kept_enterSelfRefresh {k_1 : Nat} (h : Kept k s t) : Kept k s (State.enterSelfRefresh t k_1) := by
  unfold State.enterSelfRefresh
  with_reducible repeat' first
    | exact h | assumption | apply kept_bump | apply kept_mapSubCh | apply kept_loseDram | refine kept_foldl ?_ (fun _ _ _ => ?_)

theorem kept_closeDram (h : Kept k s t) : Kept k s (State.closeDram t) := by
  unfold State.closeDram
  with_reducible repeat' first
    | exact h | assumption | apply kept_ite | apply kept_enterSelfRefresh | apply kept_mapDmc | refine kept_foldl ?_ (fun _ _ _ => ?_)

theorem kept_exitSelfRefresh {k_1 : Nat} (h : Kept k s t) : Kept k s (State.exitSelfRefresh t k_1) := by
  unfold State.exitSelfRefresh
  with_reducible repeat' first
    | exact h | assumption | apply kept_ite | apply kept_releaseRows | apply kept_bumpBy | apply kept_mapRng | apply kept_mapSubCh
    | apply kept_event

theorem kept_wakeDram {k_1 : Nat} {r : Nat} (h : Kept k s t) : Kept k s (State.wakeDram t k_1 r) := by
  unfold State.wakeDram
  with_reducible repeat' first
    | exact h | assumption | apply kept_bump | apply kept_mapSubCh | apply kept_mapRank | apply kept_exitSelfRefresh | rfl | intro _ | split

theorem kept_noteWrite {a : Nat} (h : Kept k s t) : Kept k s (State.noteWrite t a) := by
  unfold State.noteWrite
  with_reducible repeat' first
    | exact h | assumption | apply kept_ite | apply kept_mapSubCh

theorem kept_beginTraining (h : Kept k s t) : Kept k s (State.beginTraining t) := by
  unfold State.beginTraining
  with_reducible repeat' first
    | exact h | assumption | apply kept_mapDmc

theorem kept_trainCmd (h : Kept k s t) : Kept k s (State.trainCmd t) := by
  unfold State.trainCmd
  with_reducible repeat' first
    | exact h | assumption | apply kept_ite | apply kept_beginTraining

theorem kept_catchUp {k_1 : Nat} {r : Nat} {rate : Nat} (h : Kept k s t) : Kept k s (State.catchUp t k_1 r rate) := by
  unfold State.catchUp
  with_reducible repeat' first
    | exact h | assumption | apply kept_ite | apply kept_bump | apply kept_precharge | apply kept_mapRank | apply kept_issueRefresh
    | apply kept_event

theorem kept_beginCal {t_1 : Nat} (h : Kept k s t) : Kept k s (State.beginCal t t_1) := by
  unfold State.beginCal
  with_reducible repeat' first
    | exact h | assumption | apply kept_mapRef

theorem kept_mapTiuUnit {u : Nat} {f : TiuUnit → TiuUnit} (h : Kept k s t) :
    Kept k s (State.mapTiuUnit t u f) := by
  unfold State.mapTiuUnit
  with_reducible repeat' first
    | exact h | assumption | apply kept_mapTiu

theorem kept_tiuTo {u : Nat} {st : TiuState} (h : Kept k s t) : Kept k s (State.tiuTo t u st) := by
  unfold State.tiuTo
  with_reducible repeat' first
    | exact h | assumption | apply kept_ite | apply kept_mapTiuUnit

theorem kept_switchResult {k_1 : Nat} {lin : Option Int} (h : Kept k s t) : Kept k s (State.switchResult t k_1 lin) := by
  unfold State.switchResult
  with_reducible repeat' first
    | exact h | assumption | apply kept_ite | apply kept_mapRef | apply kept_switchFallback | apply kept_event | rfl | intro _ | split

theorem kept_windows {c : Nat} {lin : Option Int} (h : Kept k s t) : Kept k s (State.windows t c lin) := by
  unfold State.windows
  with_reducible repeat' first
    | exact h | assumption | apply kept_ite | apply kept_mapRef | apply kept_event

theorem kept_mapRefChan {c : Nat} {f : RefChan → RefChan} (h : Kept k s t) :
    Kept k s (State.mapRefChan t c f) := by
  unfold State.mapRefChan
  with_reducible repeat' first
    | exact h | assumption | apply kept_mapRef

theorem kept_publish {c : Nat} {reason : Reason} {lin : Int} {injected : Bool} {t_5 : Nat} (h : Kept k s t) :
    Kept k s (State.publish t c reason lin injected t_5) := by
  unfold State.publish
  with_reducible repeat' first
    | exact h | assumption | apply kept_ite | apply kept_switchResult | apply kept_windows | apply kept_wr | apply kept_mapRefChan
    | apply kept_derate | apply kept_mapDts | refine kept_foldl ?_ (fun _ _ _ => ?_)

theorem kept_tiuOverflow {u : Nat} (h : Kept k s t) : Kept k s (State.tiuOverflow t u) := by
  unfold State.tiuOverflow
  with_reducible repeat' first
    | exact h | assumption | apply kept_ite | apply kept_bump | apply kept_mapTiuUnit | apply kept_wr | apply kept_event

theorem kept_tiuRate {u : Nat} {result : Nat} (h : Kept k s t) : Kept k s (State.tiuRate t u result) := by
  unfold State.tiuRate
  with_reducible repeat' first
    | exact h | assumption | apply kept_ite | apply kept_mapTiuUnit | apply kept_wr

theorem kept_tiuComplete {u : Nat} {c : Nat} {sub : Bool} (h : Kept k s t) : Kept k s (State.tiuComplete t u c sub) := by
  unfold State.tiuComplete
  with_reducible repeat' first
    | exact h | assumption | apply kept_ite | apply kept_bump | apply kept_wr | apply kept_event

theorem kept_tiuStart {u : Nat} {c : Nat} (h : Kept k s t) : Kept k s (State.tiuStart t u c) := by
  unfold State.tiuStart
  with_reducible repeat' first
    | exact h | assumption | apply kept_mapTiuUnit

theorem kept_tiuStartEdge {u : Nat} {c : Nat} (h : Kept k s t) : Kept k s (State.tiuStartEdge t u c) := by
  unfold State.tiuStartEdge
  with_reducible repeat' first
    | exact h | assumption | apply kept_ite | apply kept_mapTiuUnit | apply kept_tiuRate | apply kept_tiuComplete | apply kept_tiuStart

theorem kept_tiuStopEdge {u : Nat} {c : Nat} (h : Kept k s t) : Kept k s (State.tiuStopEdge t u c) := by
  unfold State.tiuStopEdge
  with_reducible repeat' first
    | exact h | assumption | apply kept_bump | apply kept_mapTiuUnit | apply kept_tiuComplete | apply kept_event | rfl | intro _ | split
    | dsimp only

theorem kept_tiuEdge {n : Nat} {rising : Bool} {c : Nat} {u : Nat} (h : Kept k s t) : Kept k s (State.tiuEdge t n rising c u) := by
  unfold State.tiuEdge
  with_reducible repeat' first
    | exact h | assumption | apply kept_ite | apply kept_tiuOverflow | apply kept_tiuStartEdge | apply kept_tiuStopEdge

theorem kept_raiseOpen {c : Nat} (h : Kept k s t) : Kept k s (State.raiseOpen t c) := by
  unfold State.raiseOpen
  with_reducible repeat' first
    | exact h | assumption | apply kept_ite | apply kept_bump | apply kept_mapRefChan | apply kept_eventStands

theorem kept_beginConversion {c : Nat} {preset : Nat} {injected : Bool} {t_4 : Nat} (h : Kept k s t) :
    Kept k s (State.beginConversion t c preset injected t_4) := by
  unfold State.beginConversion
  with_reducible repeat' first
    | exact h | assumption | apply kept_ite | apply kept_mapRef | apply kept_mapRefChan

theorem kept_regularFrom {e : Nat} {t_2 : Nat} {n : Nat} (h : Kept k s t) : Kept k s (State.regularFrom t e t_2 n) := by
  induction n generalizing t e t_2 with
  | zero => unfold State.regularFrom; exact kept_mapRef h
  | succ n ih =>
    unfold State.regularFrom
    with_reducible repeat' first
      | exact h | assumption | apply kept_ite | apply ih | apply kept_bump | apply kept_beginConversion | apply kept_mapRef

theorem kept_resumeRegular {t_1 : Nat} (h : Kept k s t) : Kept k s (State.resumeRegular t t_1) := by
  unfold State.resumeRegular
  with_reducible repeat' first
    | exact h | assumption | apply kept_ite | apply kept_mapRef | apply kept_regularFrom

theorem kept_injectedFrom {e : Nat} {t_2 : Nat} {n : Nat} (h : Kept k s t) : Kept k s (State.injectedFrom t e t_2 n) := by
  induction n generalizing t e t_2 with
  | zero =>
    unfold State.injectedFrom
    exact kept_ite (kept_beginCal (kept_bump (kept_event h))) (kept_resumeRegular (kept_bump (kept_event h)))
  | succ n ih =>
    unfold State.injectedFrom
    refine kept_ite (ih h) (kept_ite (ih (kept_bump h)) (kept_beginConversion (kept_mapRef h)))

theorem kept_beginInjected {t_1 : Nat} (h : Kept k s t) : Kept k s (State.beginInjected t t_1) := by
  unfold State.beginInjected
  with_reducible repeat' first
    | exact h | assumption | apply kept_mapRef | apply kept_injectedFrom

theorem kept_injTrigger (h : Kept k s t) : Kept k s (State.injTrigger t) := by
  unfold State.injTrigger
  with_reducible repeat' first
    | exact h | assumption | apply kept_ite | apply kept_bump | apply kept_mapRef | apply kept_beginInjected | apply kept_event

theorem kept_publishOpen {c : Nat} {injected : Bool} {t_3 : Nat} (h : Kept k s t) : Kept k s (State.publishOpen t c injected t_3) := by
  unfold State.publishOpen
  with_reducible repeat' first
    | exact h | assumption | apply kept_publish | apply kept_fresh

theorem kept_refInj (h : Kept k s t) : Kept k s (State.refInj t) := by
  unfold State.refInj
  with_reducible repeat' first
    | exact h | assumption | apply kept_ite | apply kept_injTrigger

theorem kept_changeGain {c : Nat} {g : Nat} {to_ : Nat} (h : Kept k s t) : Kept k s (State.changeGain t c g to_) := by
  unfold State.changeGain
  with_reducible repeat' first
    | exact h | assumption | apply kept_ite | apply kept_bump | apply kept_mapRefChan | apply kept_event

theorem kept_autoRange {c : Nat} {g : Nat} {beyond : Bool} {raw : Option Int} (h : Kept k s t) :
    Kept k s (State.autoRange t c g beyond raw) := by
  unfold State.autoRange
  with_reducible repeat' first
    | exact h | assumption | apply kept_ite | apply kept_mapRefChan | apply kept_changeGain | rfl | intro _ | split

theorem kept_startCal (h : Kept k s t) : Kept k s (State.startCal t) := by
  unfold State.startCal
  with_reducible repeat' first
    | exact h | assumption | apply kept_ite | apply kept_mapRef | apply kept_beginCal

theorem kept_refFactor {addr : Nat} {v_2 : Word} (h : Kept k s t) : Kept k s (State.refFactor t addr v_2) := by
  unfold State.refFactor
  with_reducible repeat' first
    | exact h | assumption | apply kept_setLive | rfl | intro _ | split

theorem kept_endConversion {v_1 : Conversion} {sum : Int} {high : Nat} {low : Nat} (h : Kept k s t) :
    Kept k s (State.endConversion t v_1 sum high low) := by
  unfold State.endConversion
  with_reducible repeat' first
    | exact h | assumption | apply kept_ite | apply kept_bump | apply kept_publishOpen | apply kept_autoRange | apply kept_wr
    | apply kept_publish | apply kept_mapRefChan | apply kept_causeGone | apply kept_raiseOpen | apply kept_event | apply kept_fresh

theorem kept_replay (h : Kept k s t) : Kept k s (State.replay t) := by
  unfold State.replay
  with_reducible repeat' first
    | exact h | assumption | apply kept_ite | apply kept_bump | apply kept_mapCourse | apply kept_replayAll | apply kept_courseTrain
    | apply kept_event

theorem kept_rxError {m : Nat} (h : Kept k s t) : Kept k s (State.rxError t m) := by
  unfold State.rxError
  with_reducible repeat' first
    | exact h | assumption | apply kept_bump

theorem kept_echo {m : Nat} {eth : Nat} {ip : Nat} {data : List Byte} (h : Kept k s t) : Kept k s (State.echo t m eth ip data) := by
  unfold State.echo
  with_reducible repeat' first
    | exact h | assumption | apply kept_ite | apply kept_bump | apply kept_macSend | apply kept_mapMac

theorem kept_rxFilter {m : Nat} (h : Kept k s t) : Kept k s (State.rxFilter t m) := by
  unfold State.rxFilter
  with_reducible repeat' first
    | exact h | assumption | apply kept_bump

theorem kept_ptpReceive {m : Nat} {payload : List Byte} (h : Kept k s t) : Kept k s (State.ptpReceive t m payload) := by
  unfold State.ptpReceive
  with_reducible repeat' first
    | exact h | assumption | apply kept_ite | apply kept_bump | apply kept_mapMac | apply kept_event

theorem kept_rxBody {m : Nat} {f : RxFrame} (h : Kept k s t) : Kept k s (State.rxBody t m f) := by
  unfold State.rxBody
  with_reducible repeat' first
    | exact h | assumption | apply kept_ite | apply kept_rxError | apply kept_macSend | apply kept_echo | apply kept_rxFilter
    | apply kept_ptpReceive | rfl | intro _ | split

theorem kept_relayDown {bytes : List Byte} (h : Kept k s t) : Kept k s (State.relayDown t bytes) := by
  unfold State.relayDown
  with_reducible repeat' first
    | exact h | assumption | apply kept_ite | apply kept_bump | apply kept_mapKpe | apply kept_sendOn | rfl | intro _ | split | dsimp only

theorem kept_peerPacket {bytes : List Byte} (h : Kept k s t) : Kept k s (State.peerPacket t bytes) := by
  unfold State.peerPacket
  with_reducible repeat' first
    | exact h | assumption | apply kept_ite | apply kept_relayDown

theorem kept_takeSegment {g : List Byte × Bool × Bool × Nat} (h : Kept k s t) : Kept k s (State.takeSegment t g) := by
  unfold State.takeSegment
  with_reducible repeat' first
    | exact h | assumption | apply kept_ite | apply kept_bump | apply kept_mapCourse | apply kept_peerPacket | rfl | intro _ | split

theorem kept_sendCtrlFlit {type : Nat} {payload : List Byte} (h : Kept k s t) : Kept k s (State.sendCtrlFlit t type payload) := by
  unfold State.sendCtrlFlit
  with_reducible repeat' first
    | exact h | assumption | apply kept_ite | apply kept_mapCourse

theorem kept_nak (h : Kept k s t) : Kept k s (State.nak t) := by
  unfold State.nak
  with_reducible repeat' first
    | exact h | assumption | apply kept_ite | apply kept_bump | apply kept_mapCourse | apply kept_sendCtrlFlit

theorem kept_dataFlit {f : RxFlit} (h : Kept k s t) : Kept k s (State.dataFlit t f) := by
  unfold State.dataFlit
  with_reducible repeat' first
    | exact h | assumption | apply kept_ite | apply kept_bump | apply kept_mapCourse | apply kept_takeSegment | apply kept_nak
    | refine kept_foldl ?_ (fun _ _ _ => ?_) | rfl | intro _ | split

theorem kept_plWake (h : Kept k s t) : Kept k s (State.plWake t) := by
  unfold State.plWake
  with_reducible repeat' first
    | exact h | assumption | apply kept_ite | apply kept_courseDetect

theorem kept_capsDone (h : Kept k s t) : Kept k s (State.capsDone t) := by
  unfold State.capsDone
  with_reducible repeat' first
    | exact h | assumption | apply kept_ite | apply kept_mapCourse | apply kept_courseTo | apply kept_laneTo | apply kept_event
    | refine kept_foldl ?_ (fun _ _ _ => ?_)

theorem kept_courseDormant (h : Kept k s t) : Kept k s (State.courseDormant t) := by
  unfold State.courseDormant
  with_reducible repeat' first
    | exact h | assumption | apply kept_courseTo | apply kept_laneTo | refine kept_foldl ?_ (fun _ _ _ => ?_)

theorem kept_meetPeer {serial : Nat} {credits : Nat} {rxNext : Nat} (h : Kept k s t) : Kept k s (State.meetPeer t serial credits rxNext) := by
  unfold State.meetPeer
  with_reducible repeat' first
    | exact h | assumption | apply kept_ite | apply kept_mapCourse | apply kept_bumpBy | apply kept_event

theorem kept_capsReceive {p : List Byte} (h : Kept k s t) : Kept k s (State.capsReceive t p) := by
  unfold State.capsReceive
  with_reducible repeat' first
    | exact h | assumption | apply kept_ite | apply kept_mapCourse | apply kept_capsDone | apply kept_courseTo | apply kept_laneTo
    | apply kept_meetPeer | apply kept_event | refine kept_foldl ?_ (fun _ _ _ => ?_)

theorem kept_takeAck {ack : Nat} {crd : Nat} (h : Kept k s t) : Kept k s (State.takeAck t ack crd) := by
  unfold State.takeAck
  with_reducible repeat' first
    | exact h | assumption | apply kept_ite | apply kept_mapCourse

theorem kept_ctrlFlit {p : List Byte} (h : Kept k s t) : Kept k s (State.ctrlFlit t p) := by
  unfold State.ctrlFlit
  with_reducible repeat' first
    | exact h | assumption | apply kept_ite | apply kept_mapCourse | apply kept_sendCtrlFlit | apply kept_courseDormant
    | apply kept_capsReceive | rfl | intro _ | split

theorem kept_plSleep (h : Kept k s t) : Kept k s (State.plSleep t) := by
  unfold State.plSleep
  with_reducible repeat' first
    | exact h | assumption | apply kept_ite | apply kept_mapCourse | apply kept_sendCtrlFlit

theorem kept_lockedCourse (h : Kept k s t) : Kept k s (State.lockedCourse t) := by
  unfold State.lockedCourse
  with_reducible repeat' first
    | exact h | assumption | apply kept_ite | apply kept_courseTo

theorem kept_trainedLanes (h : Kept k s t) : Kept k s (State.trainedLanes t) := by
  unfold State.trainedLanes
  with_reducible repeat' first
    | exact h | assumption | apply kept_ite | apply kept_bump | apply kept_courseTo | apply kept_laneTo
    | refine kept_foldl ?_ (fun _ _ _ => ?_)

theorem kept_tsPop {mac : Nat} (h : Kept k s t) : Kept k s (State.tsPop t mac) := by
  unfold State.tsPop
  with_reducible repeat' first
    | exact h | assumption | apply kept_mapMac

theorem kept_correctTime {d : Int} (h : Kept k s t) : Kept k s (State.correctTime t d) := by
  unfold State.correctTime
  with_reducible repeat' first
    | exact h | assumption | apply kept_ite | apply kept_rebaseTime | apply kept_mapTim

theorem kept_loseLock {why : Nat} (h : Kept k s t) : Kept k s (State.loseLock t why) := by
  unfold State.loseLock
  with_reducible repeat' first
    | exact h | assumption | apply kept_bump | apply kept_record | apply kept_mapTim | apply kept_event

theorem kept_setTime {v_1 : Nat} {servo : Bool} (h : Kept k s t) : Kept k s (State.setTime t v_1 servo) := by
  unfold State.setTime
  with_reducible repeat' first
    | exact h | assumption | apply kept_ite | apply kept_bump | apply kept_mapTim | apply kept_event

theorem kept_burnOtp {v : Word} (h : Kept k s t) : Kept k s (t.burnOtp v) := by
  unfold State.burnOtp
  dsimp only
  split
  · exact kept_event h
  · exact kept_event (kept_otp h (modAt_length _ _ _) (modAt_or _ _ _))

theorem kept_kick {v_1 : Word} (h : Kept k s t) : Kept k s (State.kick t v_1) := by
  unfold State.kick
  with_reducible repeat' first
    | exact h | assumption | apply kept_ite | apply kept_mapMgc

theorem kept_siteConversion {n : Nat} {v_2 : Nat} (h : Kept k s t) : Kept k s (State.siteConversion t n v_2) := by
  unfold State.siteConversion
  with_reducible repeat' first
    | exact h | assumption | apply kept_ite | apply kept_bump | apply kept_mapSns | apply kept_blockFault | apply kept_wr
    | apply kept_record | apply kept_eventStands | apply kept_causeGone

theorem kept_railConversion {r : Nat} {v_2 : Nat} (h : Kept k s t) : Kept k s (State.railConversion t r v_2) := by
  unfold State.railConversion
  with_reducible repeat' first
    | exact h | assumption | apply kept_ite | apply kept_bump | apply kept_mapSns | apply kept_wr | apply kept_record
    | apply kept_eventStands | apply kept_causeGone

theorem kept_recordPowerFail (h : Kept k s t) : Kept k s (State.recordPowerFail t) := by
  unfold State.recordPowerFail
  with_reducible repeat' first
    | exact h | assumption | apply kept_mapEvr | apply kept_startPage | apply kept_enterRecord

theorem kept_linksFollow (h : Kept k s t) : Kept k s (State.linksFollow t) := by
  unfold State.linksFollow
  with_reducible repeat' first
    | exact h | assumption | apply kept_ite | apply kept_courseFollow | apply kept_macDown | apply kept_mapLan | apply kept_mapMac
    | refine kept_foldl ?_ (fun _ _ _ => ?_)

theorem kept_otpMacs (h : Kept k s t) : Kept k s (State.otpMacs t) := by
  unfold State.otpMacs
  with_reducible repeat' first
    | exact h | assumption | apply kept_wr | refine kept_foldl ?_ (fun _ _ _ => ?_)

theorem kept_chipState {c : ResetCause} (h : Kept k s t) : Kept false s (t.chipState c) := by
  have h1 := kept_rebaseTime h
  unfold State.chipState
  refine kept_otpMacs (kept_wr ⟨h1.1, h1.2, h1.3, h1.4, fun hc => ?_, nofun⟩)
  exact ⟨rfl, rfl, rfl, rfl, rfl, rfl, rfl, rfl, rfl, (h1.5 hc).2.2.2.2.2.2.2.2.2⟩

theorem kept_chipReset {c : ResetCause} (h : Kept false s t) : Kept false s (State.chipReset t c) := by
  unfold State.chipReset
  with_reducible repeat' first
    | exact h | assumption | apply kept_closeAllSessions | apply kept_chipState

theorem kept_leaveService (h : Kept k s t) : Kept k s (State.leaveService t) := by
  unfold State.leaveService
  with_reducible repeat' first
    | exact h | assumption | apply kept_cancelApply | apply kept_guardsIdle | apply kept_streamsCease | apply kept_releaseBuses
    | apply kept_haltSweepEnd

theorem kept_setMode {m : Mode} (h : Kept false s t) : Kept false s (State.setMode t m) := by
  unfold State.setMode
  with_reducible repeat' first
    | exact h | assumption | apply kept_ite | apply kept_dropStaleFlags | apply kept_notify | apply kept_mapPwr_weak | apply kept_mapPwr
    | apply kept_closeDram | apply kept_leaveService | apply kept_mapChp_weak | apply kept_mapChp | apply kept_linksFollow | apply kept_wr
    | apply kept_record | apply kept_guardsEnterService | apply kept_mapMgc

theorem kept_activateStaged (h : Kept k s t) : Kept k s (State.activateStaged t) := by
  unfold State.activateStaged
  with_reducible repeat' first
    | exact h | assumption | apply kept_mapChp | apply kept_mapPhs | apply kept_takeStage | rfl | intro _

theorem kept_modeRefused (h : Kept k s t) : Kept k s (State.modeRefused t) := by
  unfold State.modeRefused
  with_reducible repeat' first
    | exact h | assumption | apply kept_bump | apply kept_event

theorem kept_requestMode {req : Nat} (h : Kept false s t) : Kept false s (State.requestMode t req) := by
  unfold State.requestMode
  with_reducible repeat' first
    | exact h | assumption | apply kept_ite | apply kept_activateStaged | apply kept_modeRefused | apply kept_chipReset | apply kept_setMode
    | rfl | intro _ | split

theorem kept_prepPass (h : Kept k s t) : Kept k s (State.prepPass t) := by
  unfold State.prepPass
  with_reducible repeat' first
    | exact h | assumption | apply kept_mapPwr | rfl

theorem kept_prepEnd {ok : Bool} (h : Kept false s t) : Kept false s (State.prepEnd t ok) := by
  unfold State.prepEnd
  with_reducible repeat' first
    | exact h | assumption | apply kept_ite | apply kept_prepPass | apply kept_setMode

theorem kept_prepBegin (h : Kept k s t) : Kept k s (State.prepBegin t) := by
  unfold State.prepBegin
  with_reducible repeat' first
    | exact h | assumption | apply kept_mapPwr | rfl

theorem kept_prepStep {sramOk : Bool} (h : Kept false s t) : Kept false s (State.prepStep t sramOk) := by
  unfold State.prepStep
  with_reducible repeat' first
    | exact h | assumption | apply kept_ite | apply kept_prepPass | apply kept_linksFollow | apply kept_prepBegin | apply kept_mapCal
    | apply kept_prepEnd | apply kept_startCal | apply kept_beginSelfTest | apply kept_beginTraining | rfl | intro _ | split

theorem kept_runImage {slot : Option Nat} {trial : Bool} (h : Kept k s t) : Kept k s (State.runImage t slot trial) := by
  unfold State.runImage
  with_reducible repeat' first
    | exact h | assumption | apply kept_mapMgc | apply kept_mapUpd | rfl | intro _ | split

theorem kept_recordBoot {slot : Nat} {trial : Bool} {tries : Nat} {c : ResetCause} (h : Kept k s t) :
    Kept k s (State.recordBoot t slot trial tries c) := by
  unfold State.recordBoot
  with_reducible repeat' first
    | exact h | assumption | apply kept_ite | apply kept_record

theorem kept_writeBootRecord {f : BootCopy → BootCopy} (h : Kept k s t) :
    Kept k s (State.writeBootRecord t f) := by
  unfold State.writeBootRecord
  with_reducible repeat' first
    | exact h | assumption | apply kept_mapUpd | rfl

theorem kept_applyCmd {armed : Armed} {late : Bool} (h : Kept k s t) : Kept k s (State.applyCmd t armed late) := by
  unfold State.applyCmd
  with_reducible repeat' first
    | exact h | assumption | apply kept_ite | apply kept_mapChp | apply kept_refuse | apply kept_stageTo | rfl | intro _

theorem kept_applyNext (h : Kept k s t) : Kept k s (State.applyNext t) := by
  unfold State.applyNext
  with_reducible repeat' first
    | exact h | assumption | apply kept_applyCmd

theorem kept_stageTake {f : State → State} (h : Kept k s t) (hf : ∀ a0, Kept k s a0 → Kept k s (f a0)) :
    Kept k s (State.stageTake t f) := by
  unfold State.stageTake
  with_reducible repeat' first
    | exact h | assumption | apply hf | apply kept_bump | apply kept_refuse | apply kept_stageTo | rfl | intro _ | split

theorem kept_denyRow {m : Master} {r : RegRow} (h : Kept k s t) : Kept k s (State.denyRow t m r) := by
  unfold State.denyRow
  with_reducible repeat' first
    | exact h | assumption | apply kept_ite | apply kept_denySeal | apply kept_denyPriv

theorem kept_stageReg {m : Master} {r : RegRow} {a : Nat} {op : Word → Word} (h : Kept k s t) :
    Kept k s (State.stageReg t m r a op) := by
  unfold State.stageReg
  with_reducible repeat' first
    | exact h | assumption | apply kept_ite | apply kept_stageTake | apply kept_setStage | apply kept_denyRow | rfl | intro _

theorem kept_loadRegister {m : Master} {a : Nat} {v_3 : Word} (h : Kept k s t) :
    Kept k s (State.loadRegister t m a v_3).1 := by
  unfold State.loadRegister
  with_reducible repeat' first
    | exact h | assumption | apply kept_ite_fst | apply kept_ite | apply kept_bump | apply kept_stageReg
    | refine kept_pair (by assumption) ?_ | rfl | intro _ | split

theorem kept_startCheck (h : Kept k s t) : Kept k s (State.startCheck t) := by
  unfold State.startCheck
  with_reducible repeat' first
    | exact h | assumption | apply kept_mapChp | apply kept_mapOcc | apply kept_refuse | apply kept_stageTo | rfl | intro _ | split

theorem kept_clearStage {m : Master} (h : Kept k s t) : Kept k s (State.clearStage t m) := by
  have hf : ∀ st : Store 32, storeWf st = true →
      storeWf (st.filterMap (fun c => if c.2 &&& sealedMask c.1 = 0 then none else some (c.1, c.2 &&& sealedMask c.1))) = true := by
    intro st h
    rw [storeWf_iff] at h ⊢
    refine ⟨?_, ?_⟩
    · refine List.Pairwise.filterMap _ ?_ h.1
      intro x y hxy a ha b hb
      split at ha <;> simp only [Option.some.injEq, reduceCtorEq] at ha
      split at hb <;> simp only [Option.some.injEq, reduceCtorEq] at hb
      subst ha hb
      exact hxy
    · intro x hx
      obtain ⟨c, _, hc⟩ := List.mem_filterMap.mp hx
      split at hc <;> simp only [Option.some.injEq, reduceCtorEq] at hc
      subst hc
      assumption
  have h1 : Kept k s (((t.cancelLearn .a).cancelLearn .b).mapChp (fun c => { c with stageBad := [] })) :=
    kept_mapChp (kept_cancelLearn (kept_cancelLearn h)) rfl id
  unfold State.clearStage
  dsimp only
  generalize ((t.cancelLearn .a).cancelLearn .b).mapChp (fun c => { c with stageBad := [] }) = u at h1
  split
  · refine kept_mapMems (kept_mapRegs h1 ?_) ?_
    · exact fun ⟨h1, h2, h3, h4, h5, h6, h7, h8, h9, h10⟩ => ⟨h1, h2, rfl, h4, h5, h6, h7, h8, h9, h10⟩
    · exact fun ⟨h1, h2, h3, h4, h5, h6, h7, h8, h9, h10⟩ => ⟨h1, h2, h3, h4, h5, h6, h7, rfl, h9, h10⟩
  · refine kept_foldl (kept_mapMems (kept_mapRegs h1 ?_) ?_) (fun _ _ => kept_denySeal)
    · exact fun ⟨h1, h2, h3, h4, h5, h6, h7, h8, h9, h10⟩ => ⟨h1, h2, hf _ h3, h4, h5, h6, h7, h8, h9, h10⟩
    · exact fun ⟨h1, h2, h3, h4, h5, h6, h7, h8, h9, h10⟩ => ⟨h1, h2, h3, h4, h5, h6, h7, storeWf_within h8 _ _, h9, h10⟩

theorem kept_profileWritten {a : Nat} (h : Kept k s t) : Kept k s (State.profileWritten t a) := by
  unfold State.profileWritten
  with_reducible repeat' first
    | exact h | assumption | apply kept_ite | apply kept_cancelLearn

theorem kept_loadMemory {m : Master} {target : Nat} {ws : List Word} (h : Kept k s t) :
    Kept k s (State.loadMemory t m target ws).1 := by
  unfold State.loadMemory
  with_reducible repeat' first
    | exact h | assumption | apply kept_ite_fst | apply kept_ite | apply kept_bump | apply kept_mapMems | apply kept_profileWritten
    | apply kept_denySeal | refine kept_foldl ?_ (fun _ _ _ => ?_) | refine kept_foldl_fst ?_ (fun _ _ _ => ?_)
    | refine kept_pair (by assumption) ?_ | exact canonical_dram | exact canonical_stageMem

theorem kept_loadSections {m : Master} {bs : List Byte} {d : Nat} {off : Nat} {k_5 : Nat} (h : Kept k s t) :
    Kept k s (State.loadSections t m bs d off k_5).1 := by
  induction k_5 generalizing t m bs d off with
  | zero => unfold State.loadSections; exact h
  | succ n ih =>
    unfold State.loadSections
    with_reducible repeat' first
      | exact h | assumption | apply kept_ite_fst | apply kept_ite | apply ih | apply kept_loadRegister | apply kept_loadMemory
      | refine kept_foldl ?_ (fun _ _ _ => ?_) | refine kept_foldl_fst ?_ (fun _ _ _ => ?_) | refine kept_pair (by assumption) ?_ | rfl
      | intro _ | split

theorem kept_loadImage {m : Master} {bs : List Byte} (h : Kept k s t) : Kept k s (State.loadImage t m bs).1 := by
  unfold State.loadImage
  with_reducible repeat' first
    | exact h | assumption | apply kept_ite_fst | apply kept_ite | apply kept_clearStage | apply kept_loadSections | apply kept_mapChp
    | apply kept_refuse | apply kept_stageTo | apply kept_setStage | refine kept_pair (by assumption) ?_ | rfl | intro _ | split

theorem kept_discard (h : Kept k s t) : Kept k s (State.discard t) := by
  unfold State.discard
  with_reducible repeat' first
    | exact h | assumption | apply kept_ite | apply kept_mapChp | apply kept_refuse | apply kept_stageTo | rfl | intro _ | split

theorem kept_stageMem {m : Master} {a : Nat} {v_3 : Word} (h : Kept k s t) : Kept k s (State.stageMem t m a v_3) := by
  unfold State.stageMem
  with_reducible repeat' first
    | exact h | assumption | apply kept_ite | apply kept_stageTake | apply kept_mapMems | apply kept_profileWritten | apply kept_denySeal
    | apply kept_denyPriv | exact canonical_dram | exact canonical_stageMem | exact canonical_liveDrop | rfl | intro _

theorem kept_applyAt (h : Kept k s t) : Kept k s (State.applyAt t) := by
  unfold State.applyAt
  with_reducible repeat' first
    | exact h | assumption | apply kept_applyCmd

theorem kept_latchCounters (h : Kept k s t) : Kept k s (State.latchCounters t) := by
  have hf : ∀ (as : List Nat) (m : Store 32), storeWf m = true → storeWf (as.foldl t.latchWord m) = true := by
    intro as
    induction as with
    | nil => exact fun _ h => h
    | cons a as ih =>
      intro m h
      refine ih _ ?_
      unfold State.latchWord
      split
      · exact storeWf_set h _ _
      · exact h
  unfold State.latchCounters
  generalize counterAddrs = as
  refine kept_mapRegs h fun hc => ?_
  obtain ⟨h1, h2, h3, h4, h5, h6, h7, h8, h9, h10⟩ := hc
  exact ⟨h1, h2, h3, h4, hf _ _ h5, h6, h7, h8, h9, h10⟩

theorem kept_injectWrite {code : Nat} {go : Bool} (h : Kept k s t) : Kept k s (State.injectWrite t code go) := by
  unfold State.injectWrite
  with_reducible repeat' first
    | exact h | assumption | apply kept_ite | apply kept_mapChp | apply kept_wr | apply kept_denyPriv | rfl | intro _

theorem kept_snapRequest (h : Kept k s t) : Kept k s (State.snapRequest t) := by
  unfold State.snapRequest
  with_reducible repeat' first
    | exact h | assumption | apply kept_mapChp | rfl | intro _

theorem kept_toRecovery (h : Kept false s t) : Kept false s (State.toRecovery t) := by
  unfold State.toRecovery
  with_reducible repeat' first
    | exact h | assumption | apply kept_ite | apply kept_recordBoot | apply kept_setMode | apply kept_runImage

theorem kept_snapFree (h : Kept k s t) : Kept k s (State.snapFree t) := by
  unfold State.snapFree
  with_reducible repeat' first
    | exact h | assumption | apply kept_mapChp | rfl | intro _

theorem kept_snapRelease {v_1 : Word} (h : Kept k s t) : Kept k s (State.snapRelease t v_1) := by
  unfold State.snapRelease
  with_reducible repeat' first
    | exact h | assumption | apply kept_ite | apply kept_snapFree

theorem kept_watchdogBoot (h : Kept false s t) : Kept false s (State.watchdogBoot t) := by
  unfold State.watchdogBoot
  with_reducible repeat' first
    | exact h | assumption | apply kept_ite | apply kept_recordBoot | apply kept_setMode | apply kept_runImage

theorem kept_resetMorsen (h : Kept k s t) : Kept k s (State.resetMorsen t) := by
  unfold State.resetMorsen
  with_reducible repeat' first
    | exact h | assumption | apply kept_mapRegs | apply kept_mapPwr | apply kept_mapMgc | exact canonical_dram | exact canonical_stageMem
    | exact canonical_liveDrop | rfl

theorem kept_startTab (h : Kept k s t) : Kept k s (State.startTab t) := by
  unfold State.startTab
  with_reducible repeat' first
    | exact h | assumption | apply kept_ite | apply kept_clipToNow | apply kept_mapPsq | apply kept_retune | apply kept_mapPfl
    | apply kept_event

theorem kept_pluckRequest {slot : Nat} {shape : Nat} {scale : Nat} (h : Kept k s t) : Kept k s (State.pluckRequest t slot shape scale) := by
  unfold State.pluckRequest
  with_reducible repeat' first
    | exact h | assumption | apply kept_ite | apply kept_wr | apply kept_beginPluck | apply kept_event

theorem kept_pluckGo {slot : Nat} {shape : Nat} {scale : Nat} (h : Kept k s t) : Kept k s (State.pluckGo t slot shape scale) := by
  unfold State.pluckGo
  with_reducible repeat' first
    | exact h | assumption | apply kept_wr | apply kept_pluckRequest

theorem kept_stageMiss (h : Kept k s t) : Kept k s (State.stageMiss t) := by
  unfold State.stageMiss
  with_reducible repeat' first
    | exact h | assumption | apply kept_bump

theorem kept_eachBit_nil {v : Word} (h : Kept k s t) : Kept k s (t.eachBit v []) := h

theorem kept_eachBit_cons {v : Word} {i : Nat} {f : State → State} {cs : List (Nat × (State → State))} (h : Kept k s t)
    (hf : ∀ t, Kept k s t → Kept k s (f t)) (hr : ∀ t, Kept k s t → Kept k s (t.eachBit v cs)) : Kept k s (t.eachBit v ((i, f) :: cs)) := by
  unfold State.eachBit
  rw [List.foldl_cons]
  exact hr _ (kept_ite (hf t h) h)

theorem kept_wroteMgmt {a : Nat} {v_2 : Word} (h : Kept k s t) : Kept k s (State.wroteMgmt t a v_2) := by
  unfold State.wroteMgmt
  with_reducible repeat' first
    | exact h | assumption | apply kept_ite | apply kept_courseFollow | apply kept_kick | apply kept_plWake | apply kept_burnOtp
    | apply kept_refInj | apply kept_linksFollow | apply kept_trip | apply kept_cancelLearn | apply kept_eraseCmd | apply kept_eachBit_cons
    | apply kept_eachBit_nil | apply kept_startCal | apply kept_setTime | apply kept_beginLearn | apply kept_plSleep
    | apply kept_beginSelfTest | apply kept_startPage | apply kept_restartCmd | rfl | intro _ | split

theorem kept_wrotePsq {a : Nat} {v_2 : Word} (h : Kept k s t) : Kept k s (State.wrotePsq t a v_2) := by
  unfold State.wrotePsq
  with_reducible repeat' first
    | exact h | assumption | apply kept_ite | apply kept_startTab | apply kept_pluckRequest | apply kept_haltSweepEnd | apply kept_haltNow
    | rfl | intro _ | split

theorem kept_wroteCvu {u : Nat} {o : Nat} {v_3 : Word} (h : Kept k s t) : Kept k s (State.wroteCvu t u o v_3) := by
  unfold State.wroteCvu
  with_reducible repeat' first
    | exact h | assumption | apply kept_cvuEnd | apply kept_cvuBegin | apply kept_cvuFeed | apply kept_cvuLoad | apply kept_cvuIdle
    | apply kept_mapCvuUnit | rfl | intro _ | split

theorem kept_wroteChp {m : Master} {a : Nat} {v_3 : Word} (h : Kept false s t) :
    Kept false s (State.wroteChp t m a v_3) := by
  unfold State.wroteChp
  with_reducible repeat' first
    | exact h | assumption | apply kept_ite | apply kept_injectWrite | apply kept_cancelApply | apply kept_snapRelease
    | apply kept_applyNext | apply kept_applyAt | apply kept_requestMode | apply kept_discard | apply kept_snapRequest
    | apply kept_startCheck | rfl | intro _ | split

theorem kept_wrote {m : Master} {a : Nat} {v_3 : Word} (h : Kept false s t) : Kept false s (State.wrote t m a v_3) := by
  unfold State.wrote
  with_reducible repeat' first
    | exact h | assumption | apply kept_ite | apply kept_calFactor | apply kept_wroteMgmt | apply kept_skewCalCmd | apply kept_clearFault
    | apply kept_armCmd | apply kept_wrotePsq | apply kept_trainCmd | apply kept_trip | apply kept_cancelLearn | apply kept_wroteCvu
    | apply kept_occLive | apply kept_wroteChp | apply kept_eachBit_cons | apply kept_eachBit_nil | apply kept_muFire | apply kept_calFire
    | apply kept_tsPop | apply kept_tiuTo | apply kept_beginLearn | apply kept_captureOp | apply kept_beginSelfTest | rfl | intro _ | split

theorem kept_setShadow {m : Master} {x : Option Shadow} (h : Kept k s t) : Kept k s (State.setShadow t m x) := by
  unfold State.setShadow
  with_reducible repeat' first
    | exact h | assumption | apply kept_mapChp | rfl | intro _

theorem kept_store {m : Master} {r : RegRow} {a : Nat} {op : Word → Word} (h : Kept k s t) :
    Kept k s (State.store t m r a op) := by
  unfold State.store
  with_reducible repeat' first
    | exact h | assumption | apply kept_ite | apply kept_setLive

theorem kept_beforeWrite {a : Nat} (h : Kept k s t) : Kept k s (State.beforeWrite t a) := by
  unfold State.beforeWrite
  with_reducible repeat' first
    | exact h | assumption | apply kept_ite | apply kept_clipToNow | apply kept_setLive | apply kept_rebaseTime

theorem kept_timMode {was : Nat} (h : Kept k s t) : Kept k s (State.timMode t was) := by
  unfold State.timMode
  with_reducible repeat' first
    | exact h | assumption | apply kept_ite | apply kept_mapTim

theorem kept_letIn {m : Master} {r : RegRow} {a : Nat} {v_4 : Word} {op : Word → Word} (h : Kept false s t) :
    Kept false s (State.letIn t m r a v_4 op) := by
  unfold State.letIn
  with_reducible repeat' first
    | exact h | assumption | apply kept_ite | apply kept_wrote | apply kept_store | apply kept_beforeWrite | apply kept_timMode | rfl
    | intro _ | split

theorem kept_writeLive {m : Master} {r : RegRow} {a : Nat} {v_4 : Word} {op : Word → Word} (h : Kept false s t) :
    Kept false s (State.writeLive t m r a v_4 op) := by
  unfold State.writeLive
  with_reducible repeat' first
    | exact h | assumption | apply kept_ite | apply kept_letIn | apply kept_denySeal | apply kept_statusWrite | apply kept_denyPriv
    | apply kept_snapRequest

theorem kept_writePlain {m : Master} {r : RegRow} {a : Nat} {v_4 : Word} (h : Kept false s t) :
    Kept false s (State.writePlain t m r a v_4) := by
  unfold State.writePlain
  with_reducible repeat' first
    | exact h | assumption | apply kept_ite | apply kept_setShadow | apply kept_writeLive | apply kept_stageReg

theorem kept_writeStage {m : Master} {r : RegRow} {a : Nat} {fl : Nat} {v_5 : Word} (h : Kept k s t) :
    Kept k s (State.writeStage t m r a fl v_5) := by
  unfold State.writeStage
  with_reducible repeat' first
    | exact h | assumption | apply kept_ite | apply kept_stageMiss | apply kept_stageReg | apply kept_denyPriv

theorem kept_writeFlavoured {m : Master} {r : RegRow} {a : Nat} {fl : Nat} {v_5 : Word} (h : Kept false s t) :
    Kept false s (State.writeFlavoured t m r a fl v_5) := by
  unfold State.writeFlavoured
  with_reducible repeat' first
    | exact h | assumption | apply kept_ite | apply kept_bump | apply kept_writeLive | apply kept_stageReg

theorem kept_writeWord {m : Master} {addr : Nat} {v_3 : Word} (h : Kept false s t) :
    Kept false s (State.writeWord t m addr v_3) := by
  unfold State.writeWord
  with_reducible repeat' first
    | exact h | assumption | apply kept_ite | apply kept_stageMiss | apply kept_writeStage | apply kept_stageMem | apply kept_writePlain
    | apply kept_done | apply kept_denyPriv | apply kept_writeFlavoured | apply kept_busErr | rfl | intro _ | split

theorem kept_readMem {m : Master} {slot : Nat} {off : Nat} {stage : Bool} (h : Kept k s t) :
    Kept k s (State.readMem t m slot off stage) := by
  unfold State.readMem
  with_reducible repeat' first
    | exact h | assumption | apply kept_ite | apply kept_answer

theorem kept_readReg {m : Master} {r : RegRow} {a : Nat} (h : Kept k s t) : Kept k s (State.readReg t m r a) := by
  unfold State.readReg
  with_reducible repeat' first
    | exact h | assumption | apply kept_ite | apply kept_answer | apply kept_setShadow

theorem kept_readStage {m : Master} {r : RegRow} {a : Nat} (h : Kept k s t) : Kept k s (State.readStage t m r a) := by
  unfold State.readStage
  with_reducible repeat' first
    | exact h | assumption | apply kept_ite | apply kept_stageMiss | apply kept_answer

theorem kept_readWord {m : Master} {addr : Nat} (h : Kept k s t) : Kept k s (State.readWord t m addr) := by
  unfold State.readWord
  with_reducible repeat' first
    | exact h | assumption | apply kept_ite | apply kept_stageMiss | apply kept_answer | apply kept_readReg | apply kept_readStage
    | apply kept_busErr | apply kept_readMem | rfl | intro _ | split

theorem kept_bootNext {a : BootAct} (h : Kept k s t) : Kept k s (State.bootNext t a) := by
  unfold State.bootNext
  with_reducible repeat' first
    | exact h | assumption | apply kept_mapPwr | rfl

theorem kept_applyBootTuning {b : BootTuning} (h : Kept false s t) : Kept false s (State.applyBootTuning t b) := by
  unfold State.applyBootTuning
  with_reducible repeat' first
    | exact h | assumption | apply kept_writeWord | apply kept_mapPwr_weak | apply kept_mapPwr | apply kept_loadImage
    | apply kept_startCheck | apply kept_mapMgc | refine kept_foldl ?_ (fun _ _ _ => ?_)

theorem kept_numbered {n : Nat} {p : CtlPayload} (h : Kept k s t) : Kept k s (State.numbered t n p) := by
  unfold State.numbered
  with_reducible repeat' first
    | exact h | assumption | apply kept_ite | apply kept_mapCmd | apply kept_mapUpd | rfl | intro _ | split

theorem kept_peerForward {k_1 : KpPath} {p : KpPacket} (h : Kept k s t) : Kept k s (State.peerForward t k_1 p) := by
  unfold State.peerForward
  with_reducible repeat' first
    | exact h | assumption | apply kept_ite | apply kept_bump | apply kept_plQueue | apply kept_mapKpe

theorem kept_kpTake {k_1 : KpPath} {p : KpPacket} {type : Nat} {f : State → State} (h : Kept k s t) (hf : ∀ a0, Kept k s a0 → Kept k s (f a0)) :
    Kept k s (State.kpTake t k_1 p type f) := by
  unfold State.kpTake
  with_reducible repeat' first
    | exact h | assumption | apply kept_ite | apply hf | apply kept_bump | apply kept_peerForward

theorem kept_claimResult {n : Nat} {r : Nat} (h : Kept k s t) : Kept k s (State.claimResult t n r) := by
  unfold State.claimResult
  with_reducible repeat' first
    | exact h | assumption | apply kept_notifyOne | apply kept_record

theorem kept_pressed (h : Kept k s t) : Kept k s (State.pressed t) := by
  unfold State.pressed
  with_reducible repeat' first
    | exact h | assumption | apply kept_ite | apply kept_bump | apply kept_mapKpe | apply kept_mapSess | apply kept_claimResult
    | apply kept_event | rfl | intro _ | split

theorem kept_answerNow {n : Nat} {tag : Nat} {op : Nat} {st : Status} (h : Kept k s t) :
    Kept k s (State.answerNow t n tag op st) := by
  unfold State.answerNow
  with_reducible repeat' first
    | exact h | assumption | apply kept_queueCtl

theorem kept_commandPacket {n : Nat} {tag : Nat} {op : Nat} {args : List Byte} (h : Kept k s t) :
    Kept k s (State.commandPacket t n tag op args) := by
  unfold State.commandPacket
  with_reducible repeat' first
    | exact h | assumption | apply kept_ite | apply kept_bump | apply kept_sendUnseq | apply kept_answerNow | apply kept_queueCtl
    | apply kept_mapSess | rfl | intro _ | split

theorem kept_dropPacket {n : Nat} (h : Kept k s t) : Kept k s (State.dropPacket t n) := by
  unfold State.dropPacket
  with_reducible repeat' first
    | exact h | assumption | apply kept_ite | apply kept_mapKpe | apply kept_mapSess | apply kept_claimResult

theorem kept_claimPacket {n : Nat} (h : Kept k s t) : Kept k s (State.claimPacket t n) := by
  unfold State.claimPacket
  with_reducible repeat' first
    | exact h | assumption | apply kept_ite | apply kept_notifyOne | apply kept_mapKpe | apply kept_claimResult | rfl | intro _ | split

theorem kept_ackCtl {n : Nat} {ack : Nat} (h : Kept k s t) : Kept k s (State.ackCtl t n ack) := by
  unfold State.ackCtl
  with_reducible repeat' first
    | exact h | assumption | apply kept_ite | apply kept_mapSess

theorem kept_heard {k_1 : KpPath} {p : KpPacket} (h : Kept k s t) : Kept k s (State.heard t k_1 p) := by
  unfold State.heard
  with_reducible repeat' first
    | exact h | assumption | apply kept_ite | apply kept_ackCtl | apply kept_mapSess | apply kept_resendAll

theorem kept_openGrant {k_1 : KpPath} {p : KpPacket} {n : Nat} (h : Kept k s t) : Kept k s (State.openGrant t k_1 p n) := by
  unfold State.openGrant
  with_reducible repeat' first
    | exact h | assumption | apply kept_ite | apply kept_bump | apply kept_sendUnseq | apply kept_wr | apply kept_mapKpe
    | apply kept_mapSess | apply kept_event | apply kept_fresh

theorem kept_openPlace (h : Kept k s t) : Kept k s (State.openPlace t).1 := by
  unfold State.openPlace
  with_reducible repeat' first
    | exact h | assumption | apply kept_ite_fst | apply kept_ite | apply kept_bump | apply kept_closeSession | apply kept_event
    | refine kept_pair (by assumption) ?_ | rfl | intro _ | split

theorem kept_openRefuse {k_1 : KpPath} {p : KpPacket} {st : Status} (h : Kept k s t) :
    Kept k s (State.openRefuse t k_1 p st) := by
  unfold State.openRefuse
  with_reducible repeat' first
    | exact h | assumption | apply kept_bump | apply kept_sendUnseq | apply kept_event | apply kept_fresh

theorem kept_openPacket {k_1 : KpPath} {p : KpPacket} (h : Kept k s t) : Kept k s (State.openPacket t k_1 p) := by
  unfold State.openPacket
  with_reducible repeat' first
    | exact h | assumption | apply kept_ite | apply kept_openPlace | apply kept_sendUnseq | apply kept_openGrant | apply kept_mapKpe
    | apply kept_openRefuse | refine kept_pair (by assumption) ?_ | rfl | intro _ | split | dsimp only

theorem kept_endRead {n : Nat} {tag : Nat} {c : InFlight} (h : Kept k s t) : Kept k s (State.endRead t n tag c) := by
  unfold State.endRead
  with_reducible repeat' first
    | exact h | assumption | apply kept_ite | apply kept_endCmd | rfl | intro _ | split

theorem kept_readStep {n : Nat} {tag : Nat} {c : InFlight} {f : State → State} (h : Kept k s t) (hf : ∀ a0, Kept k s a0 → Kept k s (f a0)) :
    Kept k s (State.readStep t n tag c f) := by
  unfold State.readStep
  with_reducible repeat' first
    | exact h | assumption | apply kept_ite | apply hf | apply kept_endRead

theorem kept_kpAct {n : Nat} {tag : Nat} {f : InFlight → State → State} (h : Kept k s t) (hf : ∀ a0 a1, Kept k s a1 → Kept k s (f a0 a1)) :
    Kept k s (State.kpAct t n tag f) := by
  unfold State.kpAct
  with_reducible repeat' first
    | exact h | assumption | apply kept_ite | apply hf | apply kept_mapCmd | rfl | intro _ | split

theorem kept_finishRead {n : Nat} {tag : Nat} {st : Status} {detail : Nat} (h : Kept k s t) :
    Kept k s (State.finishRead t n tag st detail) := by
  unfold State.finishRead
  with_reducible repeat' first
    | exact h | assumption | apply kept_endCtx | apply kept_mapCmd | apply kept_mapRng | rfl | intro _ | split

theorem kept_formData {n : Nat} {tag : Nat} {flags : Nat} {rows : Nat} {offset : Nat} {bytes : List Byte} (h : Kept k s t) :
    Kept k s (State.formData t n tag flags rows offset bytes) := by
  unfold State.formData
  with_reducible repeat' first
    | exact h | assumption | apply kept_ite | apply kept_queueCtl

theorem kept_logStep {n : Nat} {tag : Nat} {c : InFlight} (h : Kept k s t) : Kept k s (State.logStep t n tag c) := by
  unfold State.logStep
  with_reducible repeat' first
    | exact h | assumption | apply kept_ite | apply kept_finishRead | apply kept_mapCmd | apply kept_formData | rfl | intro _ | split
    | dsimp only

theorem kept_formRows {n : Nat} {tag : Nat} {c : InFlight} {rows : List RingRow} {o : Nat} {base : Nat} {first : Nat} {last : Nat} {room : Nat} (h : Kept k s t) :
    Kept k s (State.formRows t n tag c rows o base first last room) := by
  unfold State.formRows
  with_reducible repeat' first
    | exact h | assumption | apply kept_ite | apply kept_mapCmd | apply kept_formData | rfl | intro _ | split

theorem kept_feedRow {i : Nat} {base : Nat} {o : Nat} {first : Nat} {last : Nat} {r : RingRow} {room : Nat} (h : Kept k s t) :
    Kept k s (State.feedRow t i base o first last r room) := by
  unfold State.feedRow
  with_reducible repeat' first
    | exact h | assumption | apply kept_ite | apply kept_feedCtx | apply kept_closeCtxBlock

theorem kept_readLines {num : Option Nat} {o : Nat} {r : RingRow} {first : Nat} {last : Nat} (h : Kept k s t) :
    Kept k s (State.readLines t num o r first last) := by
  unfold State.readLines
  with_reducible repeat' first
    | exact h | assumption | apply kept_ite | apply kept_bumpBy | apply kept_mapRng | apply kept_event

theorem kept_rowStep {n : Nat} {tag : Nat} {c : InFlight} {num : Option Nat} {base : Nat} {first : Nat} {last : Nat} {fateOf : State → Nat → RowFate} (h : Kept k s t) :
    Kept k s (State.rowStep t n tag c num base first last fateOf) := by
  unfold State.rowStep
  with_reducible repeat' first
    | exact h | assumption | apply kept_ite | apply kept_finishRead | apply kept_formRows | apply kept_feedRow | apply kept_mapCmd
    | apply kept_readLines | refine kept_foldl ?_ (fun _ _ _ => ?_) | rfl | intro _ | split | dsimp only

theorem kept_armCapture {n : Nat} {tag : Nat} {trigger : Nat} {first : Nat} {last : Nat} {pre : Nat} {post : Nat} {mode : Nat} (h : Kept k s t) :
    Kept k s (State.armCapture t n tag trigger first last pre post mode) := by
  unfold State.armCapture
  with_reducible repeat' first
    | exact h | assumption | apply kept_ite | apply kept_endCmd | apply kept_mapZon

theorem kept_abortCmd {n : Nat} {tag : Nat} {target : Nat} (h : Kept k s t) : Kept k s (State.abortCmd t n tag target) := by
  unfold State.abortCmd
  with_reducible repeat' first
    | exact h | assumption | apply kept_ite | apply kept_endRead | apply kept_dropCmd | apply kept_endCmd | rfl | intro _ | split

theorem kept_writeMany {n : Nat} {tag : Nat} {ps : List (Nat × Word)} (h : Kept false s t) :
    Kept false s (State.writeMany t n tag ps).1 := by
  unfold State.writeMany
  with_reducible repeat' first
    | exact h | assumption | apply kept_ite_fst | apply kept_ite | apply kept_writeWord | refine kept_foldl ?_ (fun _ _ _ => ?_)
    | refine kept_foldl_fst ?_ (fun _ _ _ => ?_)

theorem kept_readCtx {n : Nat} {tag : Nat} {pred : Nat} {width : Nat} (h : Kept k s t) : Kept k s (State.readCtx t n tag pred width) := by
  unfold State.readCtx
  with_reducible repeat' first
    | exact h | assumption | apply kept_ite | apply kept_mapCmd | apply kept_takeCtx

theorem kept_capReadBegin {n : Nat} {tag : Nat} {num : Nat} {from_ : Nat} {count : Nat} {first : Nat} {last : Nat} {pred : Nat} (h : Kept k s t) :
    Kept k s (State.capReadBegin t n tag num from_ count first last pred) := by
  unfold State.capReadBegin
  with_reducible repeat' first
    | exact h | assumption | apply kept_ite | apply kept_readCtx | apply kept_mapCmd | apply kept_endCmd | rfl | intro _ | split

theorem kept_readMany {m : Master} {as : List Nat} (h : Kept k s t) : Kept k s (State.readMany t m as).1 := by
  unfold State.readMany
  with_reducible repeat' first
    | exact h | assumption | apply kept_readWord | refine kept_foldl ?_ (fun _ _ _ => ?_) | refine kept_foldl_fst ?_ (fun _ _ _ => ?_)

theorem kept_commit {n : Nat} {tag : Nat} {bytes : Nat} (h : Kept k s t) : Kept k s (State.commit t n tag bytes) := by
  unfold State.commit
  with_reducible repeat' first
    | exact h | assumption | apply kept_mapCmd

theorem kept_noteRead {n : Nat} {tag : Nat} {row : Nat} (h : Kept k s t) : Kept k s (State.noteRead t n tag row) := by
  unfold State.noteRead
  with_reducible repeat' first
    | exact h | assumption | apply kept_ite | apply kept_mapRng | rfl | intro _ | split

theorem kept_ringReadBegin {n : Nat} {tag : Nat} {row : Nat} {count : Nat} {first : Nat} {last : Nat} {pred : Nat} (h : Kept k s t) :
    Kept k s (State.ringReadBegin t n tag row count first last pred) := by
  unfold State.ringReadBegin
  with_reducible repeat' first
    | exact h | assumption | apply kept_ite | apply kept_readCtx | apply kept_mapCmd | apply kept_endCmd | apply kept_noteRead

theorem kept_readRun {m : Master} {a : Nat} {k_3 : Nat} (h : Kept k s t) : Kept k s (State.readRun t m a k_3).1 := by
  unfold State.readRun
  with_reducible repeat' first
    | exact h | assumption | apply kept_ite_fst | apply kept_ite | apply kept_readWord | refine kept_foldl ?_ (fun _ _ _ => ?_)
    | refine kept_foldl_fst ?_ (fun _ _ _ => ?_)

theorem kept_memReadWords {n : Nat} {tag : Nat} {c : InFlight} {addr : Nat} {len : Nat} (h : Kept k s t) :
    Kept k s (State.memReadWords t n tag c addr len) := by
  unfold State.memReadWords
  with_reducible repeat' first
    | exact h | assumption | apply kept_ite | apply kept_finishRead | apply kept_readRun | apply kept_mapCmd | apply kept_formData

theorem kept_writeRun {n : Nat} {tag : Nat} {a : Nat} {ws : List Word} (h : Kept false s t) :
    Kept false s (State.writeRun t n tag a ws).1 := by
  unfold State.writeRun
  with_reducible repeat' first
    | exact h | assumption | apply kept_ite_fst | apply kept_ite | apply kept_writeWord | refine kept_foldl ?_ (fun _ _ _ => ?_)
    | refine kept_foldl_fst ?_ (fun _ _ _ => ?_)

theorem kept_memWriteTo {n : Nat} {tag : Nat} {space : Nat} {addr : Nat} {bs : List Byte} (h : Kept false s t) :
    Kept false s (State.memWriteTo t n tag space addr bs) := by
  unfold State.memWriteTo
  with_reducible repeat' first
    | exact h | assumption | apply kept_ite | apply kept_writeRun | apply kept_dramWrite | apply kept_endCmd | apply kept_commit

theorem kept_loadFrom {n : Nat} {tag : Nat} {addr : Nat} {len : Nat} (h : Kept k s t) : Kept k s (State.loadFrom t n tag addr len) := by
  unfold State.loadFrom
  with_reducible repeat' first
    | exact h | assumption | apply kept_ite | apply kept_blockFault | apply kept_endCmd | apply kept_loadImage | apply kept_commit
    | refine kept_pair (by assumption) ?_ | rfl | intro _ | split | dsimp only

theorem kept_memReadDram {n : Nat} {tag : Nat} {c : InFlight} {addr : Nat} {len : Nat} (h : Kept k s t) :
    Kept k s (State.memReadDram t n tag c addr len) := by
  unfold State.memReadDram
  with_reducible repeat' first
    | exact h | assumption | apply kept_ite | apply kept_finishRead | apply kept_mapCmd | apply kept_formData | rfl | intro _ | split

theorem kept_loseWaiting {i : Nat} {x : Subscription} (h : Kept k s t) : Kept k s (State.loseWaiting t i x) := by
  unfold State.loseWaiting
  with_reducible repeat' first
    | exact h | assumption | apply kept_ite | apply kept_mapSub

theorem kept_subscribeTo {i : Nat} {x : Subscription} (h : Kept k s t) : Kept k s (State.subscribeTo t i x) := by
  unfold State.subscribeTo
  with_reducible repeat' first
    | exact h | assumption | apply kept_ite | apply kept_takeCtx | apply kept_mapSub | apply kept_mapKpe

theorem kept_formEvents {i : Nat} {x : Subscription} {due : Bool} (h : Kept k s t) :
    Kept k s (State.formEvents t i x due) := by
  unfold State.formEvents
  with_reducible repeat' first
    | exact h | assumption | apply kept_ite | apply kept_mapSub | apply kept_formPacket

theorem kept_formRuns {i : Nat} {x : Subscription} {r : StreamRow} {room : Nat} (h : Kept k s t) :
    Kept k s (State.formRuns t i x r room) := by
  unfold State.formRuns
  with_reducible repeat' first
    | exact h | assumption | apply kept_mapSub | apply kept_formPacket | refine kept_foldl ?_ (fun _ _ _ => ?_)

theorem kept_formRowPacket {i : Nat} {x : Subscription} {due : Bool} (h : Kept k s t) :
    Kept k s (State.formRowPacket t i x due) := by
  unfold State.formRowPacket
  with_reducible repeat' first
    | exact h | assumption | apply kept_ite | apply kept_mapSub | apply kept_formRuns | apply kept_formPacket | rfl | intro _ | split

theorem kept_formNext {i : Nat} {due : Bool} (h : Kept k s t) : Kept k s (State.formNext t i due) := by
  unfold State.formNext
  with_reducible repeat' first
    | exact h | assumption | apply kept_ite | apply kept_formEvents | apply kept_formRowPacket | apply kept_loseWaiting | rfl | intro _
    | split

theorem kept_flushSub {i : Nat} (h : Kept k s t) : Kept k s (State.flushSub t i) := by
  unfold State.flushSub
  with_reducible repeat' first
    | exact h | assumption | apply kept_closeCtxBlock | apply kept_formNext | refine kept_foldl ?_ (fun _ _ _ => ?_) | rfl | intro _ | split

theorem kept_raiseRollback {r : Nat} (h : Kept k s t) : Kept k s (t.raiseRollback r) := by
  unfold State.raiseRollback
  dsimp only
  generalize List.take _ _ = l
  have hl : ∀ (l : List Nat) (o : List Word), (l.foldl (fun o i => modAt o (21 + i / 32) (fun w => w ||| BitVec.ofNat 32 (2 ^ (i % 32)))) o).length = o.length
      ∧ ∀ w i, (o.getD w 0).getLsbD i = true →
        ((l.foldl (fun o i => modAt o (21 + i / 32) (fun w => w ||| BitVec.ofNat 32 (2 ^ (i % 32)))) o).getD w 0).getLsbD i = true := by
    intro l
    induction l with
    | nil => exact fun o => ⟨rfl, fun _ _ h => h⟩
    | cons x l ih => exact fun o => ⟨(ih _).1.trans (modAt_length _ _ _), fun w i h => (ih _).2 w i (modAt_or _ _ _ w i h)⟩
  exact kept_otp h (hl l _).1 (hl l _).2

theorem kept_endUpdate {n : Nat} {tag : Nat} {op : Nat} {st : Status} {result : List Byte} (h : Kept k s t) :
    Kept k s (State.endUpdate t n tag op st result) := by
  unfold State.endUpdate
  with_reducible repeat' first
    | exact h | assumption | apply kept_endCmd | apply kept_record

theorem kept_updateBegin {n : Nat} {tag : Nat} {ok : Bool} (h : Kept k s t) : Kept k s (State.updateBegin t n tag ok) := by
  unfold State.updateBegin
  with_reducible repeat' first
    | exact h | assumption | apply kept_ite | apply kept_mapUpd | apply kept_endUpdate | rfl

theorem kept_updAct {n : Nat} {tag : Nat} {op : Nat} {f : Nat → Nat → Nat → List Byte → State → State} (h : Kept k s t) (hf : ∀ a0 a1 a2 a3 a4, Kept k s a4 → Kept k s (f a0 a1 a2 a3 a4)) :
    Kept k s (State.updAct t n tag op f) := by
  unfold State.updAct
  with_reducible repeat' first
    | exact h | assumption | apply kept_ite | apply hf | apply kept_kpAct | apply kept_endUpdate | rfl | intro _ | split

theorem kept_updateActivate {n : Nat} {tag : Nat} {flags : Nat} (h : Kept k s t) : Kept k s (State.updateActivate t n tag flags) := by
  unfold State.updateActivate
  with_reducible repeat' first
    | exact h | assumption | apply kept_ite | apply kept_writeBootRecord | apply kept_mapUpd | apply kept_endUpdate | rfl

theorem kept_updateCommit {n : Nat} {tag : Nat} (h : Kept k s t) : Kept k s (State.updateCommit t n tag) := by
  unfold State.updateCommit
  with_reducible repeat' first
    | exact h | assumption | apply kept_ite | apply kept_raiseRollback | apply kept_writeBootRecord | apply kept_mapUpd
    | apply kept_endUpdate | rfl

theorem kept_signed {msg : List Byte} (h : Kept k s t) : Kept k s (State.signed t msg).1 := by
  unfold State.signed
  with_reducible repeat' first
    | exact h | assumption | apply kept_event

theorem kept_updateVerify {n : Nat} {tag : Nat} (h : Kept k s t) : Kept k s (State.updateVerify t n tag) := by
  unfold State.updateVerify
  with_reducible repeat' first
    | exact h | assumption | apply kept_mapUpd | apply kept_endUpdate | rfl | intro _ | split | dsimp only

theorem kept_updateWrite {n : Nat} {tag : Nat} {offset : Nat} {data : List Byte} {ok : Bool} (h : Kept k s t) :
    Kept k s (State.updateWrite t n tag offset data ok) := by
  unfold State.updateWrite
  with_reducible repeat' first
    | exact h | assumption | apply kept_ite | apply kept_mapUpd | apply kept_endUpdate | apply kept_commit | rfl

theorem kept_updateRevert {n : Nat} {tag : Nat} (h : Kept k s t) : Kept k s (State.updateRevert t n tag) := by
  unfold State.updateRevert
  with_reducible repeat' first
    | exact h | assumption | apply kept_writeBootRecord | apply kept_mapUpd | apply kept_endUpdate | rfl | intro _ | split | dsimp only

/-- A reset of cause POWER_ON, from the instant 0. -/
theorem kept_powerReset : Kept false { s with now := 0 } s.powerReset := by
  unfold State.powerReset
  have h1 : Kept false { s with now := 0 } { s with now := 0, evr := { s.evr with buf := [] }, tim := {} } :=
    Kept.refl.of_same rfl rfl rfl rfl rfl rfl id rfl
  exact kept_chipState (kept_mapPwr_weak (kept_mapKpe (kept_mapGuards h1)))

end Sys2Proof.Laws
end

