-- ==== Sys2Proof/Laws/KeptRows.lean ====
section
/-! SUPPORT. What the meaning of every row keeps (Laws/Kept.lean), one lemma each; POWER_ON and POWER_DOWN keep it from the instant 0. -/

open Sys2Proof Sys2Proof.Machine Sys2Proof.Safety

namespace Sys2Proof.Laws

variable {k : Bool} {s t v : State}

theorem kept_execIlimTrip {k_0 : Nat} {steps : Nat} {t_2 : Instant} (h : Kept k s t) : Keeps k s (execIlimTrip k_0 steps t_2 t) := by
  unfold execIlimTrip
  with_reducible repeat' first
    | exact h | assumption | apply keeps_next | apply keeps_ite | apply kept_ite | apply kept_bump | apply kept_mapStg
    | apply kept_stageFault | apply kept_atT

theorem kept_execCarrierPeriodStart {k_0 : Nat} {sense : Nat} {t_2 : Instant} (h : Kept k s t) :
    Keeps k s (execCarrierPeriodStart k_0 sense t_2 t) := by
  unfold execCarrierPeriodStart
  with_reducible repeat' first
    | exact h | assumption | apply keeps_next | apply keeps_ite | apply kept_ite | apply kept_noteApd | apply kept_mapStg | apply kept_atT
    | apply kept_carrierPeriod

theorem kept_execOccRefresh {t_0 : Instant} (h : Kept k s t) : Keeps k s (execOccRefresh t_0 t) := by
  unfold execOccRefresh
  with_reducible repeat' first
    | exact h | assumption | apply keeps_next | apply keeps_ite | apply kept_ite | apply kept_occStart | apply kept_atT

theorem kept_execOccLiveWrite {m : Master} {w : Nat} {v_2 : Word} {t_3 : Instant} (h : Kept k s t) :
    Keeps k s (execOccLiveWrite m w v_2 t_3 t) := by
  unfold execOccLiveWrite
  with_reducible repeat' first
    | exact h | assumption | apply keeps_next | apply kept_strobe | apply kept_liveValue | apply kept_atT | rfl | intro _

theorem kept_execOccPreload {t_0 : Instant} (h : Kept k s t) : Keeps k s (execOccPreload t_0 t) := by
  unfold execOccPreload
  with_reducible repeat' first
    | exact h | assumption | apply keeps_next | apply keeps_ite | apply kept_ite | apply kept_mapOcc | apply kept_occStart | apply kept_atT

theorem kept_execDiagSample {k_0 : Nat} {current : Nat} {t_2 : Instant} (h : Kept k s t) :
    Keeps k s (execDiagSample k_0 current t_2 t) := by
  unfold execDiagSample
  with_reducible repeat' first
    | exact h | assumption | apply keeps_next | apply keeps_ite | apply kept_ite | apply kept_mapStg | apply kept_stageFault
    | apply kept_atT

theorem kept_execOccFrameComplete {marker : Bool} {returned : List (BitVec 16)} {t_2 : Instant} (h : Kept k s t) :
    Keeps k s (execOccFrameComplete marker returned t_2 t) := by
  unfold execOccFrameComplete
  with_reducible repeat' first
    | exact h | assumption | apply keeps_next | apply keeps_ite | apply kept_ite | apply kept_bump | apply kept_mapOcc
    | apply kept_blockFault | apply kept_occLive | apply kept_occReturned | apply kept_atT | apply kept_event | rfl | intro _ | split
    | dsimp only

theorem kept_execProofWindowEnd {k_0 : Nat} {t_1 : Instant} (h : Kept k s t) : Keeps k s (execProofWindowEnd k_0 t_1 t) := by
  unfold execProofWindowEnd
  with_reducible repeat' first
    | exact h | assumption | apply keeps_next | apply keeps_ite | apply kept_ite | apply kept_windowEnds | apply kept_atT

theorem kept_execClr {m : Master} {k_1 : Nat} {t_2 : Instant} (h : Kept k s t) : Keeps k s (execClr m k_1 t_2 t) := by
  unfold execClr
  with_reducible repeat' first
    | exact h | assumption | apply keeps_next | apply kept_clearFault | apply kept_strobe | apply kept_atT | rfl | intro _

theorem kept_execOccLatch {t_0 : Instant} (h : Kept k s t) : Keeps k s (execOccLatch t_0 t) := by
  unfold execOccLatch
  with_reducible repeat' first
    | exact h | assumption | apply keeps_next | apply keeps_ite | apply kept_ite | apply kept_mapOcc | apply kept_atT | apply kept_event
    | rfl | intro _ | split | dsimp only

theorem kept_execCalFactorWrite {m : Master} {addr : Nat} {v_2 : Word} {t_3 : Instant} (h : Kept k s t) :
    Keeps k s (execCalFactorWrite m addr v_2 t_3 t) := by
  unfold execCalFactorWrite
  with_reducible repeat' first
    | exact h | assumption | apply keeps_next | apply kept_calFactor | apply kept_strobe | apply kept_atT | rfl | intro _

theorem kept_execCalBlockEnd {ch : Nat} {skipped : Nat} {level : Int} {off : List Int} {gain : List Int} {skew : List Int} {t_6 : Instant} (h : Kept k s t) :
    Keeps k s (execCalBlockEnd ch skipped level off gain skew t_6 t) := by
  unfold execCalBlockEnd
  with_reducible repeat' first
    | exact h | assumption | apply keeps_next | apply keeps_ite | apply kept_ite | apply kept_mapCal | apply kept_calUpdate | apply kept_atT
    | apply kept_event

theorem kept_execOverloadStepDown {ch : Nat} {t_1 : Instant} (h : Kept k s t) : Keeps k s (execOverloadStepDown ch t_1 t) := by
  unfold execOverloadStepDown
  with_reducible repeat' first
    | exact h | assumption | apply keeps_next | apply keeps_ite | apply kept_ite | apply kept_bump | apply kept_setGain | apply kept_mapCrx
    | apply kept_atT | apply kept_event | rfl | intro _ | split | dsimp only

theorem kept_execSkewCalDone {ok : Bool} {delays : List Int} {t_2 : Instant} (h : Kept k s t) :
    Keeps k s (execSkewCalDone ok delays t_2 t) := by
  unfold execSkewCalDone
  with_reducible repeat' first
    | exact h | assumption | apply keeps_next | apply keeps_ite | apply kept_ite | apply kept_wr | apply kept_mapCal | apply kept_atT
    | apply kept_event | refine kept_foldl ?_ (fun _ _ _ => ?_) | rfl | intro _ | split | dsimp only

theorem kept_execGainBinStart {bin : Nat} {t_1 : Instant} (h : Kept k s t) : Keeps k s (execGainBinStart bin t_1 t) := by
  unfold execGainBinStart
  with_reducible repeat' first
    | exact h | assumption | apply keeps_next | apply keeps_ite | apply kept_ite | apply kept_setGain | apply kept_atT

theorem kept_execGainStepUp {clipped : List (Pol × Nat)} {t_1 : Instant} (h : Kept k s t) :
    Keeps k s (execGainStepUp clipped t_1 t) := by
  unfold execGainStepUp
  with_reducible repeat' first
    | exact h | assumption | apply keeps_next | apply keeps_ite | apply kept_ite | apply kept_bump | apply kept_mapCrx | apply kept_atT
    | apply kept_event | refine kept_foldl ?_ (fun _ _ _ => ?_)

theorem kept_execPilotBlockEnd {clipped : Nat} {skews : List Int} {t_2 : Instant} (h : Kept k s t) :
    Keeps k s (execPilotBlockEnd clipped skews t_2 t) := by
  unfold execPilotBlockEnd
  with_reducible repeat' first
    | exact h | assumption | apply keeps_next | apply keeps_ite | apply kept_ite | apply kept_bump | apply kept_wr | apply kept_mapCal
    | apply kept_atT | refine kept_foldl ?_ (fun _ _ _ => ?_)

theorem kept_execSkewCal {m : Master} {t_1 : Instant} (h : Kept k s t) : Keeps k s (execSkewCal m t_1 t) := by
  unfold execSkewCal
  with_reducible repeat' first
    | exact h | assumption | apply keeps_next | apply kept_skewCalCmd | apply kept_strobe | apply kept_atT

theorem kept_execBlockLate {t_0 : Instant} (h : Kept k s t) : Keeps k s (execBlockLate t_0 t) := by
  unfold execBlockLate
  with_reducible repeat' first
    | exact h | assumption | apply keeps_next | apply keeps_ite | apply kept_ite | apply kept_blockFault | apply kept_atT

theorem kept_execPcmLookCompress {sweep : Nat} {slot : Nat} {pluck : Bool} {outs : List (Int × Int × Int × Int)} {t_4 : Instant} (h : Kept k s t) :
    Keeps k s (execPcmLookCompress sweep slot pluck outs t_4 t) := by
  unfold execPcmLookCompress
  with_reducible repeat' first
    | exact h | assumption | apply keeps_next | apply keeps_ite | apply kept_ite | apply kept_bumpBy | apply kept_mapPcm | apply kept_mapChn
    | apply kept_atT | apply kept_event | rfl | intro _ | split | dsimp only

theorem kept_execSlotLaneSample {sweep : Nat} {slot : Nat} {p : Nat} {pluck : Bool} {xr : Int} {xi : Int} {yr : Int} {yi : Int} {clipped : Bool} {lost : Bool} {t_10 : Instant} (h : Kept k s t) :
    Keeps k s (execSlotLaneSample sweep slot p pluck xr xi yr yi clipped lost t_10 t) := by
  unfold execSlotLaneSample
  with_reducible repeat' first
    | exact h | assumption | apply keeps_next | apply keeps_ite | apply kept_ite | apply kept_bump | apply kept_blockFault
    | apply kept_mapPcm | apply kept_confirm | apply kept_mapChn | apply kept_atT | apply kept_event | rfl | intro _ | split | dsimp only

theorem kept_execPhsPositionSample {sweep : Nat} {slot : Nat} {p : Nat} {pluck : Bool} {t_4 : Instant} (h : Kept k s t) :
    Keeps k s (execPhsPositionSample sweep slot p pluck t_4 t) := by
  unfold execPhsPositionSample
  with_reducible repeat' first
    | exact h | assumption | apply keeps_next | apply keeps_ite | apply kept_ite | apply kept_phsLook | apply kept_phsPluck | apply kept_atT
    | rfl | intro _ | split | dsimp only

theorem kept_execMedianFlush {t_0 : Instant} (h : Kept k s t) : Keeps k s (execMedianFlush t_0 t) := by
  unfold execMedianFlush
  with_reducible repeat' first
    | exact h | assumption | apply keeps_next | apply keeps_ite | apply kept_ite | apply kept_mapPfl | apply kept_atT | apply kept_pflForm
    | refine kept_foldl ?_ (fun _ _ _ => ?_)

theorem kept_execPflLookInput {t_0 : Instant} (h : Kept k s t) : Keeps k s (execPflLookInput t_0 t) := by
  unfold execPflLookInput
  with_reducible repeat' first
    | exact h | assumption | apply keeps_next | apply keeps_ite | apply kept_ite | apply kept_pflTake | apply kept_mapPhs | apply kept_atT
    | rfl | intro _ | split | dsimp only

theorem kept_execUnloadLate {t_0 : Instant} (h : Kept k s t) : Keeps k s (execUnloadLate t_0 t) := by
  unfold execUnloadLate
  with_reducible repeat' first
    | exact h | assumption | apply keeps_next | apply keeps_ite | apply kept_ite | apply kept_blockFault | apply kept_atT

theorem kept_execProfileComplete {t_0 : Instant} (h : Kept k s t) : Keeps k s (execProfileComplete t_0 t) := by
  unfold execProfileComplete
  with_reducible repeat' first
    | exact h | assumption | apply keeps_next | apply keeps_ite | apply kept_ite | apply kept_profile | apply kept_atT | apply kept_mapDts
    | rfl | intro _ | split | dsimp only

theorem kept_execDtsBlockClose {t_0 : Instant} (h : Kept k s t) : Keeps k s (execDtsBlockClose t_0 t) := by
  unfold execDtsBlockClose
  with_reducible repeat' first
    | exact h | assumption | apply keeps_next | apply kept_closeIfOver | apply kept_atT

theorem kept_execRamanSweepAccumulate {sweep : Nat} {bins0 : List Int} {bins1 : List Int} {base0 : List Int} {base1 : List Int} {lost : Bool} {t_6 : Instant} (h : Kept k s t) :
    Keeps k s (execRamanSweepAccumulate sweep bins0 bins1 base0 base1 lost t_6 t) := by
  unfold execRamanSweepAccumulate
  with_reducible repeat' first
    | exact h | assumption | apply keeps_next | apply keeps_ite | apply kept_ite | apply kept_bump | apply kept_bumpBy
    | apply kept_blockFault | apply kept_intoBlock | apply kept_mapRmx | apply kept_atT | apply kept_event | rfl | intro _ | split

theorem kept_execAarSmul {n : Nat} {w : BitVec 64} {stall : Nat} (h : Kept k s t) : Keeps k s (execAarSmul n w stall t) := by
  unfold execAarSmul
  with_reducible repeat' first
    | exact h | assumption | apply keeps_next | apply kept_aarStep

theorem kept_execAarBr {n : Nat} {w : BitVec 64} {stall : Nat} (h : Kept k s t) : Keeps k s (execAarBr n w stall t) := by
  unfold execAarBr
  with_reducible repeat' first
    | exact h | assumption | apply keeps_next | apply keeps_ite | apply kept_ite | apply kept_aarStep

theorem kept_execAarBrfft {n : Nat} {w : BitVec 64} {stall : Nat} (h : Kept k s t) : Keeps k s (execAarBrfft n w stall t) := by
  unfold execAarBrfft
  with_reducible repeat' first
    | exact h | assumption | apply keeps_next | apply kept_aarStep

theorem kept_execAarSshl {n : Nat} {w : BitVec 64} {stall : Nat} (h : Kept k s t) : Keeps k s (execAarSshl n w stall t) := by
  unfold execAarSshl
  with_reducible repeat' first
    | exact h | assumption | apply keeps_next | apply kept_aarStep

theorem kept_execFrameReady {n : Nat} {t_1 : Instant} (h : Kept k s t) : Keeps k s (execFrameReady n t_1 t) := by
  unfold execFrameReady
  with_reducible repeat' first
    | exact h | assumption | apply keeps_next | apply keeps_ite | apply kept_ite | apply kept_mapCore | apply kept_beginFrame
    | apply kept_atT | refine kept_foldl ?_ (fun _ _ _ => ?_) | rfl | intro _ | split

theorem kept_execAarSadd {n : Nat} {w : BitVec 64} {stall : Nat} (h : Kept k s t) : Keeps k s (execAarSadd n w stall t) := by
  unfold execAarSadd
  with_reducible repeat' first
    | exact h | assumption | apply keeps_next | apply kept_aarStep

theorem kept_execAarBstat {n : Nat} {w : BitVec 64} {stall : Nat} (h : Kept k s t) : Keeps k s (execAarBstat n w stall t) := by
  unfold execAarBstat
  with_reducible repeat' first
    | exact h | assumption | apply keeps_next | apply kept_aarStep

theorem kept_execAarAclr {n : Nat} {w : BitVec 64} {stall : Nat} (h : Kept k s t) : Keeps k s (execAarAclr n w stall t) := by
  unfold execAarAclr
  with_reducible repeat' first
    | exact h | assumption | apply keeps_next | apply kept_aarStep

theorem kept_execAarLoop {n : Nat} {w : BitVec 64} {stall : Nat} (h : Kept k s t) : Keeps k s (execAarLoop n w stall t) := by
  unfold execAarLoop
  with_reducible repeat' first
    | exact h | assumption | apply keeps_next | apply keeps_ite | apply kept_ite | apply kept_aarStep

theorem kept_execAarSst {n : Nat} {w : BitVec 64} {stall : Nat} (h : Kept k s t) : Keeps k s (execAarSst n w stall t) := by
  unfold execAarSst
  with_reducible repeat' first
    | exact h | assumption | apply keeps_next | apply kept_aarStep

theorem kept_execAarVcmul {n : Nat} {w : BitVec 64} {stall : Nat} (h : Kept k s t) : Keeps k s (execAarVcmul n w stall t) := by
  unfold execAarVcmul
  with_reducible repeat' first
    | exact h | assumption | apply keeps_next | apply kept_aarStep

theorem kept_execAarBpwr {n : Nat} {w : BitVec 64} {stall : Nat} (h : Kept k s t) : Keeps k s (execAarBpwr n w stall t) := by
  unfold execAarBpwr
  with_reducible repeat' first
    | exact h | assumption | apply keeps_next | apply kept_aarStep

theorem kept_execAarJmp {n : Nat} {w : BitVec 64} {stall : Nat} (h : Kept k s t) : Keeps k s (execAarJmp n w stall t) := by
  unfold execAarJmp
  with_reducible repeat' first
    | exact h | assumption | apply keeps_next | apply kept_aarStep

theorem kept_execAarVst {n : Nat} {w : BitVec 64} {stall : Nat} (h : Kept k s t) : Keeps k s (execAarVst n w stall t) := by
  unfold execAarVst
  with_reducible repeat' first
    | exact h | assumption | apply keeps_next | apply keeps_ite | apply kept_ite | apply kept_aarStep

theorem kept_execAarSmax {n : Nat} {w : BitVec 64} {stall : Nat} (h : Kept k s t) : Keeps k s (execAarSmax n w stall t) := by
  unfold execAarSmax
  with_reducible repeat' first
    | exact h | assumption | apply keeps_next | apply keeps_ite | apply kept_ite | apply kept_aarStep

theorem kept_execAarBfft {n : Nat} {w : BitVec 64} {stall : Nat} (h : Kept k s t) : Keeps k s (execAarBfft n w stall t) := by
  unfold execAarBfft
  with_reducible repeat' first
    | exact h | assumption | apply keeps_next | apply kept_aarStep

theorem kept_execRunStart {n : Nat} {t_1 : Instant} (h : Kept k s t) : Keeps k s (execRunStart n t_1 t) := by
  unfold execRunStart
  with_reducible repeat' first
    | exact h | assumption | apply keeps_next | apply keeps_ite | apply kept_ite | apply kept_mapCore | apply kept_atT | rfl | intro _
    | split | dsimp only

theorem kept_execAarSand {n : Nat} {w : BitVec 64} {stall : Nat} (h : Kept k s t) : Keeps k s (execAarSand n w stall t) := by
  unfold execAarSand
  with_reducible repeat' first
    | exact h | assumption | apply keeps_next | apply kept_aarStep

theorem kept_execAarFout {n : Nat} {w : BitVec 64} {stall : Nat} (h : Kept k s t) : Keeps k s (execAarFout n w stall t) := by
  unfold execAarFout
  with_reducible repeat' first
    | exact h | assumption | apply keeps_next | apply keeps_ite | apply kept_ite | apply kept_aarStep

theorem kept_execReloadFail {n : Nat} {t_1 : Instant} (h : Kept k s t) : Keeps k s (execReloadFail n t_1 t) := by
  unfold execReloadFail
  with_reducible repeat' first
    | exact h | assumption | apply keeps_next | apply keeps_ite | apply kept_ite | apply kept_blockFault | apply kept_atT

theorem kept_execAarVmac {n : Nat} {w : BitVec 64} {stall : Nat} (h : Kept k s t) : Keeps k s (execAarVmac n w stall t) := by
  unfold execAarVmac
  with_reducible repeat' first
    | exact h | assumption | apply keeps_next | apply kept_aarStep

theorem kept_execConstCopyDone {n : Nat} {t_1 : Instant} (h : Kept k s t) : Keeps k s (execConstCopyDone n t_1 t) := by
  unfold execConstCopyDone
  with_reducible repeat' first
    | exact h | assumption | apply keeps_next | apply keeps_ite | apply kept_ite | apply kept_mapCore | apply kept_atT

theorem kept_execAarBwin {n : Nat} {w : BitVec 64} {stall : Nat} (h : Kept k s t) : Keeps k s (execAarBwin n w stall t) := by
  unfold execAarBwin
  with_reducible repeat' first
    | exact h | assumption | apply keeps_next | apply kept_aarStep

theorem kept_execAarSrd {n : Nat} {w : BitVec 64} {stall : Nat} (h : Kept k s t) : Keeps k s (execAarSrd n w stall t) := by
  unfold execAarSrd
  with_reducible repeat' first
    | exact h | assumption | apply keeps_next | apply keeps_ite | apply kept_ite | apply kept_aarStep

theorem kept_execAarSmulq {n : Nat} {w : BitVec 64} {stall : Nat} (h : Kept k s t) : Keeps k s (execAarSmulq n w stall t) := by
  unfold execAarSmulq
  with_reducible repeat' first
    | exact h | assumption | apply keeps_next | apply kept_aarStep

theorem kept_execAarVadd {n : Nat} {w : BitVec 64} {stall : Nat} (h : Kept k s t) : Keeps k s (execAarVadd n w stall t) := by
  unfold execAarVadd
  with_reducible repeat' first
    | exact h | assumption | apply keeps_next | apply kept_aarStep

theorem kept_execAarVmul {n : Nat} {w : BitVec 64} {stall : Nat} (h : Kept k s t) : Keeps k s (execAarVmul n w stall t) := by
  unfold execAarVmul
  with_reducible repeat' first
    | exact h | assumption | apply keeps_next | apply kept_aarStep

theorem kept_execAarBmin {n : Nat} {w : BitVec 64} {stall : Nat} (h : Kept k s t) : Keeps k s (execAarBmin n w stall t) := by
  unfold execAarBmin
  with_reducible repeat' first
    | exact h | assumption | apply keeps_next | apply kept_aarStep

theorem kept_execAarVsub {n : Nat} {w : BitVec 64} {stall : Nat} (h : Kept k s t) : Keeps k s (execAarVsub n w stall t) := by
  unfold execAarVsub
  with_reducible repeat' first
    | exact h | assumption | apply keeps_next | apply kept_aarStep

theorem kept_execAarSmin {n : Nat} {w : BitVec 64} {stall : Nat} (h : Kept k s t) : Keeps k s (execAarSmin n w stall t) := by
  unfold execAarSmin
  with_reducible repeat' first
    | exact h | assumption | apply keeps_next | apply keeps_ite | apply kept_ite | apply kept_aarStep

theorem kept_execFrameOverrun {n : Nat} {t_1 : Instant} (h : Kept k s t) : Keeps k s (execFrameOverrun n t_1 t) := by
  unfold execFrameOverrun
  with_reducible repeat' first
    | exact h | assumption | apply keeps_next | apply keeps_ite | apply kept_ite | apply kept_overrunFrame | apply kept_atT | rfl | intro _
    | split | dsimp only

theorem kept_execAarVld {n : Nat} {w : BitVec 64} {stall : Nat} (h : Kept k s t) : Keeps k s (execAarVld n w stall t) := by
  unfold execAarVld
  with_reducible repeat' first
    | exact h | assumption | apply keeps_next | apply keeps_ite | apply kept_ite | apply kept_aarStep

theorem kept_execFeatureRecordArrival {t_0 : Instant} (h : Kept k s t) : Keeps k s (execFeatureRecordArrival t_0 t) := by
  unfold execFeatureRecordArrival
  with_reducible repeat' first
    | exact h | assumption | apply keeps_next | apply kept_mapAar | apply kept_giveFeature | apply kept_atT
    | refine kept_foldl ?_ (fun _ _ _ => ?_) | rfl | intro _ | split | dsimp only

theorem kept_execAarSld {n : Nat} {w : BitVec 64} {stall : Nat} (h : Kept k s t) : Keeps k s (execAarSld n w stall t) := by
  unfold execAarSld
  with_reducible repeat' first
    | exact h | assumption | apply keeps_next | apply kept_aarStep

theorem kept_execAarSshr {n : Nat} {w : BitVec 64} {stall : Nat} (h : Kept k s t) : Keeps k s (execAarSshr n w stall t) := by
  unfold execAarSshr
  with_reducible repeat' first
    | exact h | assumption | apply keeps_next | apply kept_aarStep

theorem kept_execAarBmax {n : Nat} {w : BitVec 64} {stall : Nat} (h : Kept k s t) : Keeps k s (execAarBmax n w stall t) := by
  unfold execAarBmax
  with_reducible repeat' first
    | exact h | assumption | apply keeps_next | apply kept_aarStep

theorem kept_execAarVmacc {n : Nat} {w : BitVec 64} {stall : Nat} (h : Kept k s t) : Keeps k s (execAarVmacc n w stall t) := by
  unfold execAarVmacc
  with_reducible repeat' first
    | exact h | assumption | apply keeps_next | apply kept_aarStep

theorem kept_execAarSor {n : Nat} {w : BitVec 64} {stall : Nat} (h : Kept k s t) : Keeps k s (execAarSor n w stall t) := by
  unfold execAarSor
  with_reducible repeat' first
    | exact h | assumption | apply keeps_next | apply kept_aarStep

theorem kept_execAarAmov {n : Nat} {w : BitVec 64} {stall : Nat} (h : Kept k s t) : Keeps k s (execAarAmov n w stall t) := by
  unfold execAarAmov
  with_reducible repeat' first
    | exact h | assumption | apply keeps_next | apply keeps_ite | apply kept_ite | apply kept_aarStep

theorem kept_execConstReloadDone {n : Nat} {t_1 : Instant} (h : Kept k s t) : Keeps k s (execConstReloadDone n t_1 t) := by
  unfold execConstReloadDone
  with_reducible repeat' first
    | exact h | assumption | apply keeps_next | apply keeps_ite | apply kept_ite | apply kept_mapCore | apply kept_atT | apply kept_coreIdle

theorem kept_execAarSli {n : Nat} {w : BitVec 64} {stall : Nat} (h : Kept k s t) : Keeps k s (execAarSli n w stall t) := by
  unfold execAarSli
  with_reducible repeat' first
    | exact h | assumption | apply keeps_next | apply kept_aarStep

theorem kept_execAarBsum {n : Nat} {w : BitVec 64} {stall : Nat} (h : Kept k s t) : Keeps k s (execAarBsum n w stall t) := by
  unfold execAarBsum
  with_reducible repeat' first
    | exact h | assumption | apply keeps_next | apply kept_aarStep

theorem kept_execAarSsub {n : Nat} {w : BitVec 64} {stall : Nat} (h : Kept k s t) : Keeps k s (execAarSsub n w stall t) := by
  unfold execAarSsub
  with_reducible repeat' first
    | exact h | assumption | apply keeps_next | apply kept_aarStep

theorem kept_execAarDone {n : Nat} {w : BitVec 64} {stall : Nat} (h : Kept k s t) : Keeps k s (execAarDone n w stall t) := by
  unfold execAarDone
  with_reducible repeat' first
    | exact h | assumption | apply keeps_next | apply keeps_ite | apply kept_ite | apply kept_aarStep | apply kept_endRun

theorem kept_execTileWritten {n : Nat} {bad : List (Nat × Nat)} {t_2 : Instant} (h : Kept k s t) :
    Keeps k s (execTileWritten n bad t_2 t) := by
  unfold execTileWritten
  with_reducible repeat' first
    | exact h | assumption | apply keeps_next | apply keeps_ite | apply kept_ite | apply kept_mapCore | apply kept_bumpBy
    | apply kept_events | apply kept_atT | rfl | intro _ | split | dsimp only

theorem kept_execAarNop {n : Nat} {w : BitVec 64} {stall : Nat} (h : Kept k s t) : Keeps k s (execAarNop n w stall t) := by
  unfold execAarNop
  with_reducible repeat' first
    | exact h | assumption | apply keeps_next | apply kept_aarStep

theorem kept_execAarBmov {n : Nat} {w : BitVec 64} {stall : Nat} (h : Kept k s t) : Keeps k s (execAarBmov n w stall t) := by
  unfold execAarBmov
  with_reducible repeat' first
    | exact h | assumption | apply keeps_next | apply kept_aarStep

theorem kept_execCoreSwitch {n : Nat} {t_1 : Instant} (h : Kept k s t) : Keeps k s (execCoreSwitch n t_1 t) := by
  unfold execCoreSwitch
  with_reducible repeat' first
    | exact h | assumption | apply keeps_next | apply keeps_ite | apply kept_ite | apply kept_mapCore | apply kept_abandonFrame
    | apply kept_atT | apply kept_coreIdle

theorem kept_execZoneTimerExpire {zone : Nat} {timer : Nat} {t_2 : Instant} (h : Kept k s t) :
    Keeps k s (execZoneTimerExpire zone timer t_2 t) := by
  unfold execZoneTimerExpire
  with_reducible repeat' first
    | exact h | assumption | apply keeps_next | apply keeps_ite | apply kept_ite | apply kept_atT | apply kept_mapUnit

theorem kept_execFireEdgeAccept {t_0 : Instant} (h : Kept k s t) : Keeps k s (execFireEdgeAccept t_0 t) := by
  unfold execFireEdgeAccept
  with_reducible repeat' first
    | exact h | assumption | apply keeps_next | apply keeps_ite | apply kept_ite | apply kept_armRelease | apply kept_bump
    | apply kept_busEvent | apply kept_mapZon | apply kept_recordEdge | apply kept_atT | apply kept_event | rfl | intro _ | split
    | dsimp only

theorem kept_execFireStuck {t_0 : Instant} (h : Kept k s t) : Keeps k s (execFireStuck t_0 t) := by
  unfold execFireStuck
  with_reducible repeat' first
    | exact h | assumption | apply keeps_next | apply keeps_ite | apply kept_ite | apply kept_busEvent | apply kept_mapZon | apply kept_atT
    | rfl | intro _ | split | dsimp only

theorem kept_execArmBusChange {ext : Bool} {t_1 : Instant} (h : Kept k s t) : Keeps k s (execArmBusChange ext t_1 t) := by
  unfold execArmBusChange
  with_reducible repeat' first
    | exact h | assumption | apply keeps_next | apply keeps_ite | apply kept_ite | apply kept_mapZon | apply kept_atT

theorem kept_execEventEnqueue {t_0 : Instant} (h : Kept k s t) : Keeps k s (execEventEnqueue t_0 t) := by
  unfold execEventEnqueue
  extract_lets s1
  have h1 : Kept k s s1 := kept_atT h
  clear_value s1
  generalize s1.zon.waiting = w
  cases w with
  | nil => exact keeps_next h1
  | cons e r =>
    dsimp only
    generalize e.capture.code = o
    cases o with
    | none => exact keeps_next h1
    | some c =>
      have h2 : ∀ b (q : State) (x : EventRec), Kept k s q → Kept k s (if b = true then ((q.event [Reg.ZON_STAT_EVT_DROP]).bump Reg.ZON_EVT_DROP_CNT).mapZon (fun z => { z with lostNext := true })
          else (q.mapZon (fun z => { z with queue := z.queue ++ [x], lostNext := false })).takeEvents) :=
        fun _ _ _ hq => kept_ite (kept_mapZon (kept_bump (kept_event hq))) (kept_takeEvents (kept_mapZon hq))
      exact keeps_ite (keeps_next (kept_record (h2 _ _ _ (kept_mapZon h1)))) (keeps_next (h2 _ _ _ (kept_mapZon h1)))

theorem kept_execArmOff {m : Master} {t_1 : Instant} (h : Kept k s t) : Keeps k s (execArmOff m t_1 t) := by
  unfold execArmOff
  with_reducible repeat' first
    | exact h | assumption | apply keeps_next | apply kept_armCmd | apply kept_strobe | apply kept_atT | rfl | intro _

theorem kept_execMuFire {m : Master} {t_1 : Instant} (h : Kept k s t) : Keeps k s (execMuFire m t_1 t) := by
  unfold execMuFire
  with_reducible repeat' first
    | exact h | assumption | apply keeps_next | apply kept_muFire | apply kept_strobe | apply kept_atT

theorem kept_execArmOn {m : Master} {t_1 : Instant} (h : Kept k s t) : Keeps k s (execArmOn m t_1 t) := by
  unfold execArmOn
  with_reducible repeat' first
    | exact h | assumption | apply keeps_next | apply kept_armCmd | apply kept_strobe | apply kept_atT | rfl | intro _

theorem kept_execCalFire {m : Master} {t_1 : Instant} (h : Kept k s t) : Keeps k s (execCalFire m t_1 t) := by
  unfold execCalFire
  with_reducible repeat' first
    | exact h | assumption | apply keeps_next | apply kept_strobe | apply kept_calFire | apply kept_atT

theorem kept_execFireEdge {ext : Bool} {cal : Bool} {t_2 : Instant} (h : Kept k s t) : Keeps k s (execFireEdge ext cal t_2 t) := by
  unfold execFireEdge
  with_reducible repeat' first
    | exact h | assumption | apply keeps_next | apply keeps_ite | apply kept_ite | apply kept_bump | apply kept_mapZon | apply kept_atT

theorem kept_execArmForeign {t_0 : Instant} (h : Kept k s t) : Keeps k s (execArmForeign t_0 t) := by
  unfold execArmForeign
  with_reducible repeat' first
    | exact h | assumption | apply keeps_next | apply keeps_ite | apply kept_ite | apply kept_bump | apply kept_busEvent | apply kept_mapZon
    | apply kept_atT | apply kept_event | rfl | intro _ | split | dsimp only

theorem kept_execFireBusRelease {t_0 : Instant} (h : Kept k s t) : Keeps k s (execFireBusRelease t_0 t) := by
  unfold execFireBusRelease
  with_reducible repeat' first
    | exact h | assumption | apply keeps_next | apply keeps_ite | apply kept_ite | apply kept_mapZon | apply kept_atT

theorem kept_execZoneStep {t_0 : Instant} (h : Kept k s t) : Keeps k s (execZoneStep t_0 t) := by
  unfold execZoneStep
  with_reducible repeat' first
    | exact h | assumption | apply keeps_next | apply keeps_ite | apply kept_ite | apply kept_zoneSteps | apply kept_tuneIfDue
    | apply kept_atT

theorem kept_execIdleStep {t_0 : Instant} (h : Kept k s t) : Keeps k s (execIdleStep t_0 t) := by
  unfold execIdleStep
  with_reducible repeat' first
    | exact h | assumption | apply keeps_next | apply keeps_ite | apply kept_ite | apply kept_zoneSteps | apply kept_atT

theorem kept_execFirePulseEnd {t_0 : Instant} (h : Kept k s t) : Keeps k s (execFirePulseEnd t_0 t) := by
  unfold execFirePulseEnd
  with_reducible repeat' first
    | exact h | assumption | apply keeps_next | apply keeps_ite | apply kept_ite | apply kept_mapZon | apply kept_atT

theorem kept_execRestartPluck {t_0 : Instant} (h : Kept k s t) : Keeps k s (execRestartPluck t_0 t) := by
  unfold execRestartPluck
  with_reducible repeat' first
    | exact h | assumption | apply keeps_next | apply keeps_ite | apply kept_ite | apply kept_failAttempt | apply kept_beginPluck
    | apply kept_mapGuards | apply kept_atT | rfl | intro _ | split | dsimp only

theorem kept_execMontxSample {code : Nat} {t_1 : Instant} (h : Kept k s t) : Keeps k s (execMontxSample code t_1 t) := by
  unfold execMontxSample
  with_reducible repeat' first
    | exact h | assumption | apply keeps_next | apply keeps_ite | apply kept_ite | apply kept_wr | apply kept_trip | apply kept_mapGda
    | apply kept_atT

theorem kept_execTimedRestart {t_0 : Instant} (h : Kept k s t) : Keeps k s (execTimedRestart t_0 t) := by
  unfold execTimedRestart
  with_reducible repeat' first
    | exact h | assumption | apply keeps_next | apply keeps_ite | apply kept_ite | apply kept_startAttempt | apply kept_atT

theorem kept_execRestart {m : Master} {t_1 : Instant} (h : Kept k s t) : Keeps k s (execRestart m t_1 t) := by
  unfold execRestart
  with_reducible repeat' first
    | exact h | assumption | apply keeps_next | apply kept_strobe | apply kept_restartCmd | apply kept_atT

theorem kept_execPeerStatus {g : GuardId} {t_1 : Instant} (h : Kept k s t) : Keeps k s (execPeerStatus g t_1 t) := by
  unfold execPeerStatus
  with_reducible repeat' first
    | exact h | assumption | apply keeps_next | apply keeps_ite | apply kept_ite | apply kept_guardEnter | apply kept_trip
    | apply kept_mapGuard | apply kept_atT

theorem kept_execIntlkChange {high : Bool} {t_1 : Instant} (h : Kept k s t) : Keeps k s (execIntlkChange high t_1 t) := by
  unfold execIntlkChange
  with_reducible repeat' first
    | exact h | assumption | apply keeps_next | apply keeps_ite | apply kept_ite | apply kept_mapGuards | apply kept_atT

theorem kept_execSelftestDone {g : GuardId} {ok : Bool} {t_2 : Instant} (h : Kept k s t) :
    Keeps k s (execSelftestDone g ok t_2 t) := by
  unfold execSelftestDone
  with_reducible repeat' first
    | exact h | assumption | apply keeps_next | apply keeps_ite | apply kept_ite | apply kept_blockFault | apply kept_mapGuard
    | apply kept_atT | apply kept_event | rfl | intro _ | split | dsimp only

theorem kept_execRestartPluckWindowEnd {t_0 : Instant} (h : Kept k s t) : Keeps k s (execRestartPluckWindowEnd t_0 t) := by
  unfold execRestartPluckWindowEnd
  with_reducible repeat' first
    | exact h | assumption | apply keeps_next | apply keeps_ite | apply kept_ite | apply kept_guardEnter | apply kept_mapPsq
    | apply kept_mapGuards | apply kept_atT | rfl | intro _ | split | dsimp only

theorem kept_execPeerLost {g : GuardId} {t_1 : Instant} (h : Kept k s t) : Keeps k s (execPeerLost g t_1 t) := by
  unfold execPeerLost
  with_reducible repeat' first
    | exact h | assumption | apply keeps_next | apply keeps_ite | apply kept_ite | apply kept_trip | apply kept_atT

theorem kept_execIntlkTrip {t_0 : Instant} (h : Kept k s t) : Keeps k s (execIntlkTrip t_0 t) := by
  unfold execIntlkTrip
  with_reducible repeat' first
    | exact h | assumption | apply keeps_next | apply keeps_ite | apply kept_ite | apply kept_trip | apply kept_atT

theorem kept_execLearnAbort {m : Master} {g : GuardId} {t_2 : Instant} (h : Kept k s t) :
    Keeps k s (execLearnAbort m g t_2 t) := by
  unfold execLearnAbort
  with_reducible repeat' first
    | exact h | assumption | apply keeps_next | apply kept_cancelLearn | apply kept_strobe | apply kept_atT | rfl | intro _

theorem kept_execMonrxSample {code : Nat} {conv : Bool} {t_2 : Instant} (h : Kept k s t) :
    Keeps k s (execMonrxSample code conv t_2 t) := by
  unfold execMonrxSample
  with_reducible repeat' first
    | exact h | assumption | apply keeps_next | apply keeps_ite | apply kept_ite | apply kept_wr | apply kept_mapGdb | apply kept_learnValue
    | apply kept_violation | apply kept_atT | rfl | intro _ | split

theorem kept_execSelftest {m : Master} {g : GuardId} {t_2 : Instant} (h : Kept k s t) :
    Keeps k s (execSelftest m g t_2 t) := by
  unfold execSelftest
  with_reducible repeat' first
    | exact h | assumption | apply keeps_next | apply kept_strobe | apply kept_beginSelfTest | apply kept_atT | rfl | intro _

theorem kept_execLearn {m : Master} {g : GuardId} {t_2 : Instant} (h : Kept k s t) :
    Keeps k s (execLearn m g t_2 t) := by
  unfold execLearn
  with_reducible repeat' first
    | exact h | assumption | apply keeps_next | apply kept_strobe | apply kept_beginLearn | apply kept_atT | rfl | intro _

theorem kept_execEnableClockStop {g : GuardId} {t_1 : Instant} (h : Kept k s t) :
    Keeps k s (execEnableClockStop g t_1 t) := by
  unfold execEnableClockStop
  with_reducible repeat' first
    | exact h | assumption | apply keeps_next | apply keeps_ite | apply kept_ite | apply kept_followEnables | apply kept_stopGuard
    | apply kept_atT

theorem kept_execTrip {m : Master} {g : GuardId} {t_2 : Instant} (h : Kept k s t) :
    Keeps k s (execTrip m g t_2 t) := by
  unfold execTrip
  with_reducible repeat' first
    | exact h | assumption | apply keeps_next | apply kept_trip | apply kept_strobe | apply kept_atT | rfl | intro _

theorem kept_execPowerBin {adc : List (List Int)} {t_1 : Instant} (h : Kept k s t) : Keeps k s (execPowerBin adc t_1 t) := by
  unfold execPowerBin
  with_reducible repeat' first
    | exact h | assumption | apply keeps_next | apply keeps_ite | apply kept_ite | apply kept_checkBin | apply kept_wr
    | apply kept_countClips | apply kept_atT

theorem kept_execLearnComplete {g : GuardId} {t_1 : Instant} (h : Kept k s t) : Keeps k s (execLearnComplete g t_1 t) := by
  unfold execLearnComplete
  with_reducible repeat' first
    | exact h | assumption | apply keeps_next | apply keeps_ite | apply kept_ite | apply kept_stageTo | apply kept_writeLearned
    | apply kept_mapGuard | apply kept_atT | apply kept_event | rfl | intro _ | split | dsimp only

theorem kept_execIntlkClosed {t_0 : Instant} (h : Kept k s t) : Keeps k s (execIntlkClosed t_0 t) := by
  unfold execIntlkClosed
  with_reducible repeat' first
    | exact h | assumption | apply keeps_next | apply keeps_ite | apply kept_ite | apply kept_mapGuards | apply kept_atT

theorem kept_execRunWrite {m : Master} {u : Nat} {v_2 : BitVec 64} {t_3 : Instant} (h : Kept k s t) :
    Keeps k s (execRunWrite m u v_2 t_3 t) := by
  unfold execRunWrite
  with_reducible repeat' first
    | exact h | assumption | apply keeps_next | apply kept_cvuCmd | apply kept_strobe | apply kept_cvuLoad | apply kept_atT | rfl | intro _

theorem kept_execRowHandover {d : Nat} {t_1 : Instant} (h : Kept k s t) : Keeps k s (execRowHandover d t_1 t) := by
  unfold execRowHandover
  with_reducible repeat' first
    | exact h | assumption | apply keeps_next | apply keeps_ite | apply kept_ite | apply kept_freeDesc | apply kept_handRow
    | apply kept_mapKpe | apply kept_settleDesc | apply kept_formPacket | apply kept_lost | apply kept_atT
    | refine kept_foldl ?_ (fun _ _ _ => ?_)

theorem kept_execCvuDramDone {u : Nat} {t_1 : Instant} (h : Kept k s t) : Keeps k s (execCvuDramDone u t_1 t) := by
  unfold execCvuDramDone
  with_reducible repeat' first
    | exact h | assumption | apply keeps_next | apply keeps_ite | apply kept_ite | apply kept_cvuEnd | apply kept_atT
    | apply kept_mapCvuUnit

theorem kept_execCaptureRequest {t_0 : Instant} (h : Kept k s t) : Keeps k s (execCaptureRequest t_0 t) := by
  unfold execCaptureRequest
  with_reducible repeat' first
    | exact h | assumption | apply keeps_next | apply keeps_ite | apply kept_ite | apply kept_bump | apply kept_acceptCapture
    | apply kept_wr | apply kept_endCmd | apply kept_mapZon | apply kept_atT | apply kept_resolveRequest | apply kept_event
    | refine kept_pair (by assumption) ?_ | rfl | intro _ | split | dsimp only

theorem kept_execCmpFlushTimeout {c : Nat} {t_1 : Instant} (h : Kept k s t) : Keeps k s (execCmpFlushTimeout c t_1 t) := by
  unfold execCmpFlushTimeout
  with_reducible repeat' first
    | exact h | assumption | apply keeps_next | apply keeps_ite | apply kept_ite | apply kept_closeCtxBlock | apply kept_atT

theorem kept_execCaptureAbort {m : Master} {d : Nat} {num24 : Nat} {t_3 : Instant} (h : Kept k s t) :
    Keeps k s (execCaptureAbort m d num24 t_3 t) := by
  unfold execCaptureAbort
  with_reducible repeat' first
    | exact h | assumption | apply keeps_next | apply kept_strobe | apply kept_captureOp | apply kept_atT | rfl | intro _

theorem kept_execFeed {m : Master} {u : Nat} {v_2 : Word} {t_3 : Instant} (h : Kept k s t) :
    Keeps k s (execFeed m u v_2 t_3 t) := by
  unfold execFeed
  with_reducible repeat' first
    | exact h | assumption | apply keeps_next | apply kept_cvuCmd | apply kept_strobe | apply kept_cvuFeed | apply kept_atT | rfl | intro _

theorem kept_execCaptureRelease {m : Master} {d : Nat} {num24 : Nat} {t_3 : Instant} (h : Kept k s t) :
    Keeps k s (execCaptureRelease m d num24 t_3 t) := by
  unfold execCaptureRelease
  with_reducible repeat' first
    | exact h | assumption | apply keeps_next | apply kept_strobe | apply kept_captureOp | apply kept_atT | rfl | intro _

theorem kept_execCmpBlockRelease {ok : Bool} {t_1 : Instant} (h : Kept k s t) : Keeps k s (execCmpBlockRelease ok t_1 t) := by
  unfold execCmpBlockRelease
  with_reducible repeat' first
    | exact h | assumption | apply keeps_next | apply keeps_ite | apply kept_ite | apply kept_bump | apply kept_bumpBy
    | apply kept_blockFault | apply kept_mapCmp | apply kept_blockToFlow | apply kept_atT | apply kept_event | rfl | intro _ | split
    | dsimp only

theorem kept_execCvuFinish {m : Master} {u : Nat} {t_2 : Instant} (h : Kept k s t) :
    Keeps k s (execCvuFinish m u t_2 t) := by
  unfold execCvuFinish
  with_reducible repeat' first
    | exact h | assumption | apply keeps_next | apply kept_cvuEnd | apply kept_cvuCmd | apply kept_strobe | apply kept_atT | rfl | intro _

theorem kept_execCvuReset {m : Master} {u : Nat} {t_2 : Instant} (h : Kept k s t) : Keeps k s (execCvuReset m u t_2 t) := by
  unfold execCvuReset
  with_reducible repeat' first
    | exact h | assumption | apply keeps_next | apply kept_cvuCmd | apply kept_strobe | apply kept_cvuIdle | apply kept_atT | rfl | intro _

theorem kept_execRowCommit {t_0 : Instant} (h : Kept k s t) : Keeps k s (execRowCommit t_0 t) := by
  unfold execRowCommit
  with_reducible repeat' first
    | exact h | assumption | apply keeps_next | apply keeps_ite | apply kept_ite | apply kept_dramWrite | apply kept_ringSettle
    | apply kept_mapRng | apply kept_commitDesc | apply kept_cutStreams | apply kept_nextSlot | apply kept_reuseSlot | apply kept_atT
    | apply kept_ringFormat | refine kept_foldl ?_ (fun _ _ _ => ?_) | rfl | intro _ | split | dsimp only

theorem kept_execCvuStart {m : Master} {u : Nat} {t_2 : Instant} (h : Kept k s t) : Keeps k s (execCvuStart m u t_2 t) := by
  unfold execCvuStart
  with_reducible repeat' first
    | exact h | assumption | apply keeps_next | apply kept_cvuCmd | apply kept_strobe | apply kept_cvuBegin | apply kept_atT | rfl | intro _

theorem kept_execRhWindowEnd {sub : Nat} {rank : Nat} {t_2 : Instant} (h : Kept k s t) :
    Keeps k s (execRhWindowEnd sub rank t_2 t) := by
  unfold execRhWindowEnd
  with_reducible repeat' first
    | exact h | assumption | apply keeps_next | apply keeps_ite | apply kept_ite | apply kept_mapSubCh | apply kept_mapRank | apply kept_atT

theorem kept_execRequestAge {t_0 : Instant} (h : Kept k s t) : Keeps k s (execRequestAge t_0 t) := by
  unfold execRequestAge
  with_reducible repeat' first
    | exact h | assumption | apply keeps_next | apply keeps_ite | apply kept_ite | apply kept_mapDmc | apply kept_atT

theorem kept_execDramReadReturn {sub : Nat} {err : Nat} {t_2 : Instant} (h : Kept k s t) :
    Keeps k s (execDramReadReturn sub err t_2 t) := by
  unfold execDramReadReturn
  with_reducible repeat' first
    | exact h | assumption | apply keeps_next | apply keeps_ite | apply kept_ite | apply kept_bump | apply kept_badLine | apply kept_mapDmc
    | apply kept_correctedLine | apply kept_mapSubCh | apply kept_bankAccess | apply kept_markBad | apply kept_deliverReads | apply kept_atT
    | refine kept_foldl ?_ (fun _ _ _ => ?_) | rfl | intro _ | split | dsimp only

theorem kept_execTrainDone {sub : Nat} {res : Nat} {t_2 : Instant} (h : Kept k s t) : Keeps k s (execTrainDone sub res t_2 t) := by
  unfold execTrainDone
  with_reducible repeat' first
    | exact h | assumption | apply keeps_next | apply keeps_ite | apply kept_ite | apply kept_mapDmc | apply kept_blockFault | apply kept_wr
    | apply kept_mapSubCh | apply kept_atT | apply kept_event | apply kept_loseDram

theorem kept_execZqCalibration {sub : Nat} {rank : Nat} {t_2 : Instant} (h : Kept k s t) :
    Keeps k s (execZqCalibration sub rank t_2 t) := by
  unfold execZqCalibration
  with_reducible repeat' first
    | exact h | assumption | apply keeps_next | apply keeps_ite | apply kept_ite | apply kept_mapRank | apply kept_atT

theorem kept_execSelfRefreshEntry {sub : Nat} {t_1 : Instant} (h : Kept k s t) : Keeps k s (execSelfRefreshEntry sub t_1 t) := by
  unfold execSelfRefreshEntry
  with_reducible repeat' first
    | exact h | assumption | apply keeps_next | apply keeps_ite | apply kept_ite | apply kept_enterSelfRefresh | apply kept_mapSubCh
    | apply kept_payDebt | apply kept_atT | refine kept_foldl ?_ (fun _ _ _ => ?_)

theorem kept_execDramRequest {id : Nat} {addr : Nat} {data : Option (List (BitVec 8))} {t_3 : Instant} (h : Kept k s t) :
    Keeps k s (execDramRequest id addr data t_3 t) := by
  unfold execDramRequest
  with_reducible repeat' first
    | exact h | assumption | apply keeps_next | apply keeps_ite | apply kept_ite | apply kept_bump | apply kept_dramWrite
    | apply kept_mapDmc | apply kept_wakeDram | apply kept_noteWrite | apply kept_mapSubCh | apply kept_done | apply kept_bankAccess
    | apply kept_busErr | apply kept_atT | rfl | intro _ | split

theorem kept_execRetrain {sub : Nat} {rank : Nat} {drift : Nat} {ok : Bool} {t_4 : Instant} (h : Kept k s t) :
    Keeps k s (execRetrain sub rank drift ok t_4 t) := by
  unfold execRetrain
  with_reducible repeat' first
    | exact h | assumption | apply keeps_next | apply keeps_ite | apply kept_ite | apply kept_blockFault | apply kept_precharge
    | apply kept_mapRank | apply kept_atT

theorem kept_execRefreshComplete {sub : Nat} {rank : Nat} {t_2 : Instant} (h : Kept k s t) :
    Keeps k s (execRefreshComplete sub rank t_2 t) := by
  unfold execRefreshComplete
  with_reducible repeat' first
    | exact h | assumption | apply keeps_next | apply keeps_ite | apply kept_ite | apply kept_wr | apply kept_mapSubCh | apply kept_mapRank
    | apply kept_payDebt | apply kept_issueRefresh | apply kept_atT | rfl | intro _ | split | dsimp only

theorem kept_execScrubRead {err : Nat} {t_1 : Instant} (h : Kept k s t) : Keeps k s (execScrubRead err t_1 t) := by
  unfold execScrubRead
  with_reducible repeat' first
    | exact h | assumption | apply keeps_next | apply keeps_ite | apply kept_ite | apply kept_bump | apply kept_mapDmc | apply kept_wakeDram
    | apply kept_correctedLine | apply kept_bankAccess | apply kept_markBad | apply kept_atT

theorem kept_execMr4Result {sub : Nat} {rank : Nat} {code : Nat} {ok : Bool} {t_4 : Instant} (h : Kept k s t) :
    Keeps k s (execMr4Result sub rank code ok t_4 t) := by
  unfold execMr4Result
  with_reducible repeat' first
    | exact h | assumption | apply keeps_next | apply keeps_ite | apply kept_ite | apply kept_blockFault | apply kept_wr
    | apply kept_mapRank | apply kept_catchUp | apply kept_atT | apply kept_event

theorem kept_execRowIdleClose {t_0 : Instant} (h : Kept k s t) : Keeps k s (execRowIdleClose t_0 t) := by
  unfold execRowIdleClose
  with_reducible repeat' first
    | exact h | assumption | apply keeps_next | apply kept_mapDmc | apply kept_atT

theorem kept_execTrain {m : Master} {t_1 : Instant} (h : Kept k s t) : Keeps k s (execTrain m t_1 t) := by
  unfold execTrain
  with_reducible repeat' first
    | exact h | assumption | apply keeps_next | apply kept_trainCmd | apply kept_strobe | apply kept_atT

theorem kept_execMr4Poll {t_0 : Instant} (h : Kept k s t) : Keeps k s (execMr4Poll t_0 t) := by
  unfold execMr4Poll
  with_reducible repeat' first
    | exact h | assumption | apply keeps_next | apply keeps_ite | apply kept_ite | apply kept_mapDmc | apply kept_atT

theorem kept_execPowerDownEntry {sub : Nat} {rank : Nat} {t_2 : Instant} (h : Kept k s t) :
    Keeps k s (execPowerDownEntry sub rank t_2 t) := by
  unfold execPowerDownEntry
  with_reducible repeat' first
    | exact h | assumption | apply keeps_next | apply keeps_ite | apply kept_ite | apply kept_precharge | apply kept_mapRank
    | apply kept_atT

theorem kept_execRefreshInterval {sub : Nat} {rank : Nat} {t_2 : Instant} (h : Kept k s t) :
    Keeps k s (execRefreshInterval sub rank t_2 t) := by
  unfold execRefreshInterval
  with_reducible repeat' first
    | exact h | assumption | apply keeps_next | apply keeps_ite | apply kept_ite | apply kept_blockFault | apply kept_mapRank
    | apply kept_payDebt | apply kept_atT | apply kept_event | rfl | intro _ | split

theorem kept_execTiuArm {m : Master} {u : Nat} {t_2 : Instant} (h : Kept k s t) : Keeps k s (execTiuArm m u t_2 t) := by
  unfold execTiuArm
  with_reducible repeat' first
    | exact h | assumption | apply keeps_next | apply kept_strobe | apply kept_tiuTo | apply kept_atT | rfl | intro _

theorem kept_execRefInj {m : Master} {t_1 : Instant} (h : Kept k s t) : Keeps k s (execRefInj m t_1 t) := by
  unfold execRefInj
  with_reducible repeat' first
    | exact h | assumption | apply keeps_next | apply kept_refInj | apply kept_strobe | apply kept_atT

theorem kept_execComplianceOpen {c : Nat} {on : Bool} {t_2 : Instant} (h : Kept k s t) :
    Keeps k s (execComplianceOpen c on t_2 t) := by
  unfold execComplianceOpen
  with_reducible repeat' first
    | exact h | assumption | apply keeps_next | apply keeps_ite | apply kept_ite | apply kept_publishOpen | apply kept_mapRefChan
    | apply kept_raiseOpen | apply kept_atT

theorem kept_execTiuOverflow {u : Nat} {t_1 : Instant} (h : Kept k s t) : Keeps k s (execTiuOverflow u t_1 t) := by
  unfold execTiuOverflow
  with_reducible repeat' first
    | exact h | assumption | apply keeps_next | apply keeps_ite | apply kept_ite | apply kept_tiuOverflow | apply kept_atT

theorem kept_execRefCalPeriod {t_0 : Instant} (h : Kept k s t) : Keeps k s (execRefCalPeriod t_0 t) := by
  unfold execRefCalPeriod
  with_reducible repeat' first
    | exact h | assumption | apply keeps_next | apply keeps_ite | apply kept_ite | apply kept_mapRef | apply kept_startCal | apply kept_atT

theorem kept_execRefCalDone {off : List (Option Nat)} {gain : List (Option Nat)} {iexc : List (Option Nat)} {t_3 : Instant} (h : Kept k s t) :
    Keeps k s (execRefCalDone off gain iexc t_3 t) := by
  unfold execRefCalDone
  with_reducible repeat' first
    | exact h | assumption | apply keeps_next | apply keeps_ite | apply kept_ite | apply kept_bump | apply kept_mapRef
    | apply kept_blockFault | apply kept_beginInjected | apply kept_wr | apply kept_resumeRegular | apply kept_atT | apply kept_event
    | refine kept_foldl ?_ (fun _ _ _ => ?_) | rfl | intro _ | split | dsimp only

theorem kept_execRefFactorWrite {m : Master} {addr : Nat} {v_2 : Word} {t_3 : Instant} (h : Kept k s t) :
    Keeps k s (execRefFactorWrite m addr v_2 t_3 t) := by
  unfold execRefFactorWrite
  with_reducible repeat' first
    | exact h | assumption | apply keeps_next | apply kept_strobe | apply kept_refFactor | apply kept_atT | rfl | intro _

theorem kept_execRefCal {m : Master} {t_1 : Instant} (h : Kept k s t) : Keeps k s (execRefCal m t_1 t) := by
  unfold execRefCal
  with_reducible repeat' first
    | exact h | assumption | apply keeps_next | apply kept_strobe | apply kept_startCal | apply kept_atT

theorem kept_execRateTimeout {u : Nat} {t_1 : Instant} (h : Kept k s t) : Keeps k s (execRateTimeout u t_1 t) := by
  unfold execRateTimeout
  with_reducible repeat' first
    | exact h | assumption | apply keeps_next | apply keeps_ite | apply kept_ite | apply kept_mapTiuUnit | apply kept_atT | apply kept_event

theorem kept_execSequenceCycleStart {t_0 : Instant} (h : Kept k s t) : Keeps k s (execSequenceCycleStart t_0 t) := by
  unfold execSequenceCycleStart
  with_reducible repeat' first
    | exact h | assumption | apply keeps_next | apply keeps_ite | apply kept_ite | apply kept_mapRef | apply kept_regularFrom
    | apply kept_atT

theorem kept_execInjTrigger {t_0 : Instant} (h : Kept k s t) : Keeps k s (execInjTrigger t_0 t) := by
  unfold execInjTrigger
  with_reducible repeat' first
    | exact h | assumption | apply keeps_next | apply keeps_ite | apply kept_ite | apply kept_mapRef | apply kept_injTrigger
    | apply kept_atT

theorem kept_execTiuDisarm {m : Master} {u : Nat} {t_2 : Instant} (h : Kept k s t) :
    Keeps k s (execTiuDisarm m u t_2 t) := by
  unfold execTiuDisarm
  with_reducible repeat' first
    | exact h | assumption | apply keeps_next | apply kept_strobe | apply kept_tiuTo | apply kept_atT | rfl | intro _

theorem kept_execConversionEnd {sum : Int} {high : Nat} {low : Nat} {t_3 : Instant} (h : Kept k s t) :
    Keeps k s (execConversionEnd sum high low t_3 t) := by
  unfold execConversionEnd
  with_reducible repeat' first
    | exact h | assumption | apply keeps_next | apply keeps_ite | apply kept_ite | apply kept_endConversion | apply kept_mapRef
    | apply kept_injectedFrom | apply kept_regularFrom | apply kept_atT | rfl | intro _ | split | dsimp only

theorem kept_execTachEdge {n : Nat} {rising : Bool} {t_2 : Instant} (h : Kept k s t) : Keeps k s (execTachEdge n rising t_2 t) := by
  unfold execTachEdge
  with_reducible repeat' first
    | exact h | assumption | apply keeps_next | apply keeps_ite | apply kept_ite | apply kept_mapRef | apply kept_mapTiu
    | apply kept_tiuEdge | apply kept_atT | refine kept_foldl ?_ (fun _ _ _ => ?_)

theorem kept_execFrameReceive {mac : Nat} {f : RxFrame} {t_2 : Instant} (h : Kept k s t) :
    Keeps k s (execFrameReceive mac f t_2 t) := by
  unfold execFrameReceive
  with_reducible repeat' first
    | exact h | assumption | apply keeps_next | apply keeps_ite | apply kept_ite | apply kept_bump | apply kept_rxBody | apply kept_rxError
    | apply kept_rxFilter | apply kept_atT

theorem kept_execPlWake {m : Master} {t_1 : Instant} (h : Kept k s t) : Keeps k s (execPlWake m t_1 t) := by
  unfold execPlWake
  with_reducible repeat' first
    | exact h | assumption | apply keeps_next | apply kept_plWake | apply kept_strobe | apply kept_atT

theorem kept_execPlCapsSend {t_0 : Instant} (h : Kept k s t) : Keeps k s (execPlCapsSend t_0 t) := by
  unfold execPlCapsSend
  with_reducible repeat' first
    | exact h | assumption | apply keeps_next | apply keeps_ite | apply kept_ite | apply kept_mapCourse | apply kept_capsDone
    | apply kept_sendCtrlFlit | apply kept_atT

theorem kept_execPlWakeDetect {t_0 : Instant} (h : Kept k s t) : Keeps k s (execPlWakeDetect t_0 t) := by
  unfold execPlWakeDetect
  with_reducible repeat' first
    | exact h | assumption | apply keeps_next | apply keeps_ite | apply kept_ite | apply kept_courseDetect | apply kept_atT

theorem kept_execPlTrainTimeout {t_0 : Instant} (h : Kept k s t) : Keeps k s (execPlTrainTimeout t_0 t) := by
  unfold execPlTrainTimeout
  with_reducible repeat' first
    | exact h | assumption | apply keeps_next | apply keeps_ite | apply kept_ite | apply kept_bump | apply kept_courseDetect
    | apply kept_laneTo | apply kept_atT | refine kept_foldl ?_ (fun _ _ _ => ?_)

theorem kept_execPlFlitReceive {f : RxFlit} {t_1 : Instant} (h : Kept k s t) : Keeps k s (execPlFlitReceive f t_1 t) := by
  unfold execPlFlitReceive
  with_reducible repeat' first
    | exact h | assumption | apply keeps_next | apply keeps_ite | apply kept_ite | apply kept_bump | apply kept_takeAck | apply kept_replay
    | apply kept_mapCourse | apply kept_ctrlFlit | apply kept_nak | apply kept_dataFlit | apply kept_atT | rfl | intro _ | split

theorem kept_execMacDown {mac : Nat} {hiSer : Bool} {t_2 : Instant} (h : Kept k s t) : Keeps k s (execMacDown mac hiSer t_2 t) := by
  unfold execMacDown
  with_reducible repeat' first
    | exact h | assumption | apply keeps_next | apply kept_macDown | apply kept_mapMac | apply kept_atT

theorem kept_execPlLockTimeout {t_0 : Instant} (h : Kept k s t) : Keeps k s (execPlLockTimeout t_0 t) := by
  unfold execPlLockTimeout
  with_reducible repeat' first
    | exact h | assumption | apply keeps_next | apply keeps_ite | apply kept_ite | apply kept_courseTrain | apply kept_atT

theorem kept_execPlReplayTimeout {t_0 : Instant} (h : Kept k s t) : Keeps k s (execPlReplayTimeout t_0 t) := by
  unfold execPlReplayTimeout
  with_reducible repeat' first
    | exact h | assumption | apply keeps_next | apply keeps_ite | apply kept_ite | apply kept_replay | apply kept_atT

theorem kept_execPlDetectProbe {lane : Nat} {found : Bool} {t_2 : Instant} (h : Kept k s t) :
    Keeps k s (execPlDetectProbe lane found t_2 t) := by
  unfold execPlDetectProbe
  with_reducible repeat' first
    | exact h | assumption | apply keeps_next | apply keeps_ite | apply kept_ite | apply kept_mapCourse | apply kept_laneTo
    | apply kept_mapLane | apply kept_atT

theorem kept_execPlSleep {m : Master} {t_1 : Instant} (h : Kept k s t) : Keeps k s (execPlSleep m t_1 t) := by
  unfold execPlSleep
  with_reducible repeat' first
    | exact h | assumption | apply keeps_next | apply kept_strobe | apply kept_plSleep | apply kept_atT

theorem kept_execPlCapsTimeout {t_0 : Instant} (h : Kept k s t) : Keeps k s (execPlCapsTimeout t_0 t) := by
  unfold execPlCapsTimeout
  with_reducible repeat' first
    | exact h | assumption | apply keeps_next | apply keeps_ite | apply kept_ite | apply kept_courseDetect | apply kept_atT

theorem kept_execPlCodeword {lane : Nat} {ok : Bool} {spare : Bool} {flags : Nat} {index : Nat} {corrected : Nat} {t_6 : Instant} (h : Kept k s t) :
    Keeps k s (execPlCodeword lane ok spare flags index corrected t_6 t) := by
  unfold execPlCodeword
  with_reducible repeat' first
    | exact h | assumption | apply keeps_next | apply keeps_ite | apply kept_ite | apply kept_bump | apply kept_mapCourse
    | apply kept_laneLost | apply kept_bumpBy | apply kept_lockedCourse | apply kept_laneTo | apply kept_mapLane | apply kept_atT

theorem kept_execPtpFrameSend {mac : Nat} {seqId : Nat} {mtype : Nat} {t_3 : Instant} (h : Kept k s t) :
    Keeps k s (execPtpFrameSend mac seqId mtype t_3 t) := by
  unfold execPtpFrameSend
  with_reducible repeat' first
    | exact h | assumption | apply keeps_next | apply keeps_ite | apply kept_ite | apply kept_bump | apply kept_mapMac | apply kept_atT
    | apply kept_event

theorem kept_execPlTrainStart {t_0 : Instant} (h : Kept k s t) : Keeps k s (execPlTrainStart t_0 t) := by
  unfold execPlTrainStart
  with_reducible repeat' first
    | exact h | assumption | apply keeps_next | apply keeps_ite | apply kept_ite | apply kept_courseTrain | apply kept_atT

theorem kept_execPlFlitSend {t_0 : Instant} (h : Kept k s t) : Keeps k s (execPlFlitSend t_0 t) := by
  unfold execPlFlitSend
  with_reducible repeat' first
    | exact h | assumption | apply keeps_next | apply keeps_ite | apply kept_ite | apply kept_bump | apply kept_mapCourse
    | apply kept_sendCtrlFlit | apply kept_laneTo | apply kept_atT | refine kept_foldl ?_ (fun _ _ _ => ?_)

theorem kept_execPlDownHoldEnd {t_0 : Instant} (h : Kept k s t) : Keeps k s (execPlDownHoldEnd t_0 t) := by
  unfold execPlDownHoldEnd
  with_reducible repeat' first
    | exact h | assumption | apply keeps_next | apply keeps_ite | apply kept_ite | apply kept_courseFollow | apply kept_mapCourse
    | apply kept_atT

theorem kept_execPlWidthRestore {t_0 : Instant} (h : Kept k s t) : Keeps k s (execPlWidthRestore t_0 t) := by
  unfold execPlWidthRestore
  with_reducible repeat' first
    | exact h | assumption | apply keeps_next | apply keeps_ite | apply kept_ite | apply kept_bump | apply kept_mapCourse
    | apply kept_laneTo | apply kept_atT | apply kept_event | rfl | intro _ | split | dsimp only

theorem kept_execPlQuietEntry {t_0 : Instant} (h : Kept k s t) : Keeps k s (execPlQuietEntry t_0 t) := by
  unfold execPlQuietEntry
  with_reducible repeat' first
    | exact h | assumption | apply keeps_next | apply keeps_ite | apply kept_ite | apply kept_mapCourse | apply kept_sendCtrlFlit
    | apply kept_laneTo | apply kept_atT | refine kept_foldl ?_ (fun _ _ _ => ?_)

theorem kept_execPlLaneLost {lane : Nat} {t_1 : Instant} (h : Kept k s t) : Keeps k s (execPlLaneLost lane t_1 t) := by
  unfold execPlLaneLost
  with_reducible repeat' first
    | exact h | assumption | apply keeps_next | apply keeps_ite | apply kept_ite | apply kept_laneLost | apply kept_atT

theorem kept_execPlTrainingFrame {lane : Nat} {control : Nat} {status : Nat} {ready : Bool} {t_4 : Instant} (h : Kept k s t) :
    Keeps k s (execPlTrainingFrame lane control status ready t_4 t) := by
  unfold execPlTrainingFrame
  with_reducible repeat' first
    | exact h | assumption | apply keeps_next | apply keeps_ite | apply kept_ite | apply kept_wr | apply kept_trainedLanes
    | apply kept_mapLane | apply kept_atT

theorem kept_execMacUp {mac : Nat} {preTx : Bool} {taps : List (BitVec 32)} {t_3 : Instant} (h : Kept k s t) :
    Keeps k s (execMacUp mac preTx taps t_3 t) := by
  unfold execMacUp
  with_reducible repeat' first
    | exact h | assumption | apply keeps_next | apply keeps_ite | apply kept_ite | apply kept_bump | apply kept_mapLan | apply kept_macSend
    | apply kept_wr | apply kept_laneTo | apply kept_mapMac | apply kept_atT | apply kept_event | refine kept_foldl ?_ (fun _ _ _ => ?_)

theorem kept_execTsPop {m : Master} {mac : Nat} {t_2 : Instant} (h : Kept k s t) : Keeps k s (execTsPop m mac t_2 t) := by
  unfold execTsPop
  with_reducible repeat' first
    | exact h | assumption | apply keeps_next | apply kept_strobe | apply kept_tsPop | apply kept_atT | rfl | intro _

theorem kept_execPtpSync {d : Int} {t_1 : Instant} (h : Kept k s t) : Keeps k s (execPtpSync d t_1 t) := by
  unfold execPtpSync
  with_reducible repeat' first
    | exact h | assumption | apply keeps_next | apply keeps_ite | apply kept_ite | apply kept_correctTime | apply kept_wr
    | apply kept_record | apply kept_mapTim | apply kept_atT | apply kept_event | apply kept_loseLock

theorem kept_execRailFault {r : Nat} {t_1 : Instant} (h : Kept k s t) : Keeps k s (execRailFault r t_1 t) := by
  unfold execRailFault
  with_reducible repeat' first
    | exact h | assumption | apply keeps_next | apply keeps_ite | apply kept_ite | apply kept_blockFault | apply kept_atT

theorem kept_execSectorEraseDone {ok : Bool} {t_1 : Instant} (h : Kept k s t) : Keeps k s (execSectorEraseDone ok t_1 t) := by
  unfold execSectorEraseDone
  with_reducible repeat' first
    | exact h | assumption | apply keeps_next | apply keeps_ite | apply kept_ite | apply kept_sealLog | apply kept_mapEvr
    | apply kept_startPage | apply kept_atT | rfl | intro _ | split | dsimp only

theorem kept_execTimSet {m : Master} {v_1 : BitVec 64} {servo : Bool} {t_3 : Instant} (h : Kept k s t) :
    Keeps k s (execTimSet m v_1 servo t_3 t) := by
  unfold execTimSet
  with_reducible repeat' first
    | exact h | assumption | apply keeps_next | apply kept_strobe | apply kept_setTime | apply kept_atT | rfl | intro _

theorem kept_execEvrErase {m : Master} {t_1 : Instant} (h : Kept k s t) : Keeps k s (execEvrErase m t_1 t) := by
  unfold execEvrErase
  with_reducible repeat' first
    | exact h | assumption | apply keeps_next | apply kept_eraseCmd | apply kept_strobe | apply kept_atT

theorem kept_execFlushTimeout {t_0 : Instant} (h : Kept k s t) : Keeps k s (execFlushTimeout t_0 t) := by
  unfold execFlushTimeout
  with_reducible repeat' first
    | exact h | assumption | apply keeps_next | apply keeps_ite | apply kept_ite | apply kept_mapEvr | apply kept_startPage | apply kept_atT
    | rfl | intro _ | split | dsimp only

theorem kept_execOtpProgram {m : Master} {v_1 : Word} {t_2 : Instant} (h : Kept k s t) :
    Keeps k s (execOtpProgram m v_1 t_2 t) := by
  unfold execOtpProgram
  with_reducible repeat' first
    | exact h | assumption | apply keeps_next | apply kept_burnOtp | apply kept_strobe | apply kept_atT | rfl | intro _

theorem kept_execKick {m : Master} {v_1 : Word} {t_2 : Instant} (h : Kept k s t) :
    Keeps k s (execKick m v_1 t_2 t) := by
  unfold execKick
  with_reducible repeat' first
    | exact h | assumption | apply keeps_next | apply kept_kick | apply kept_strobe | apply kept_atT | rfl | intro _

theorem kept_execPageProgrammed {result : Nat} {t_1 : Instant} (h : Kept k s t) : Keeps k s (execPageProgrammed result t_1 t) := by
  unfold execPageProgrammed
  with_reducible repeat' first
    | exact h | assumption | apply keeps_next | apply keeps_ite | apply kept_ite | apply kept_pageDone | apply kept_sealLog
    | apply kept_beginErase | apply kept_mapEvr | apply kept_atT | rfl | intro _ | split | dsimp only

theorem kept_execSealNChange {high : Bool} {t_1 : Instant} (h : Kept k s t) : Keeps k s (execSealNChange high t_1 t) := by
  unfold execSealNChange
  with_reducible repeat' first
    | exact h | assumption | apply keeps_next | apply kept_mapPwr | apply kept_atT | rfl

theorem kept_execTimeStep {t_0 : Instant} (h : Kept k s t) : Keeps k s (execTimeStep t_0 t) := by
  unfold execTimeStep
  with_reducible repeat' first
    | exact h | assumption | apply keeps_next | apply keeps_ite | apply kept_ite | apply kept_bump | apply kept_record | apply kept_mapTim
    | apply kept_atT | apply kept_event | rfl | intro _ | split | dsimp only

theorem kept_execPpsEdge {t_0 : Instant} (h : Kept k s t) : Keeps k s (execPpsEdge t_0 t) := by
  unfold execPpsEdge
  with_reducible repeat' first
    | exact h | assumption | apply keeps_next | apply keeps_ite | apply kept_ite | apply kept_correctTime | apply kept_wr | apply kept_atT

theorem kept_execTimeSlewEnd {t_0 : Instant} (h : Kept k s t) : Keeps k s (execTimeSlewEnd t_0 t) := by
  unfold execTimeSlewEnd
  with_reducible repeat' first
    | exact h | assumption | apply keeps_next | apply keeps_ite | apply kept_ite | apply kept_rebaseTime | apply kept_mapTim
    | apply kept_atT | rfl | intro _ | split | dsimp only

theorem kept_execSnsConversion {temps : List Nat} {mv : List Nat} {t_2 : Instant} (h : Kept k s t) :
    Keeps k s (execSnsConversion temps mv t_2 t) := by
  unfold execSnsConversion
  with_reducible repeat' first
    | exact h | assumption | apply keeps_next | apply keeps_ite | apply kept_ite | apply kept_wr | apply kept_railConversion
    | apply kept_atT | apply kept_siteConversion | refine kept_foldl ?_ (fun _ _ _ => ?_)

theorem kept_execPtpHoldover {t_0 : Instant} (h : Kept k s t) : Keeps k s (execPtpHoldover t_0 t) := by
  unfold execPtpHoldover
  with_reducible repeat' first
    | exact h | assumption | apply keeps_next | apply keeps_ite | apply kept_ite | apply kept_atT | apply kept_loseLock

theorem kept_execRateLimitSecond {t_0 : Instant} (h : Kept k s t) : Keeps k s (execRateLimitSecond t_0 t) := by
  unfold execRateLimitSecond
  with_reducible repeat' first
    | exact h | assumption | apply keeps_next | apply kept_record | apply kept_mapEvr | apply kept_rollSecond | apply kept_atT
    | refine kept_foldl ?_ (fun _ _ _ => ?_)

theorem kept_execLogErased {t_0 : Instant} (h : Kept k s t) : Keeps k s (execLogErased t_0 t) := by
  unfold execLogErased
  with_reducible repeat' first
    | exact h | assumption | apply keeps_next | apply keeps_ite | apply kept_ite | apply kept_record | apply kept_mapEvr
    | apply kept_startPage | apply kept_causeGone | apply kept_atT | apply kept_event

theorem kept_execResetRelease {testen : Bool} {bootsel : BitVec 2} {t_2 : Instant} (h : Kept false s t) :
    Keeps false s (execResetRelease testen bootsel t_2 t) := by
  unfold execResetRelease
  with_reducible repeat' first
    | exact h | assumption | apply keeps_next | apply keeps_ite | apply kept_ite | apply kept_mapPwr_weak | apply kept_mapPwr
    | apply kept_flushAll | apply kept_mapGuard | apply kept_mapGuards | apply kept_mapMgc | apply kept_atT
    | refine kept_foldl ?_ (fun _ _ _ => ?_)

theorem kept_execCrystalFail {t_0 : Instant} (h : Kept k s t) : Keeps k s (execCrystalFail t_0 t) := by
  unfold execCrystalFail
  with_reducible repeat' first
    | exact h | assumption | apply keeps_next | apply keeps_ite | apply kept_ite | apply kept_mapPwr | apply kept_mapTiu | apply kept_trip
    | apply kept_followEnables | apply kept_atT | rfl

theorem kept_execRefClockLost {k_0 : Nat} {t_1 : Instant} (h : Kept k s t) : Keeps k s (execRefClockLost k_0 t_1 t) := by
  unfold execRefClockLost
  with_reducible repeat' first
    | exact h | assumption | apply keeps_next | apply keeps_ite | apply kept_ite | apply kept_mapPwr | apply kept_linksFollow
    | apply kept_trip | apply kept_tripBoth | apply kept_stopGuard | apply kept_atT | rfl | intro _ | split

theorem kept_execRefClockPresent {k_0 : Nat} {t_1 : Instant} (h : Kept k s t) : Keeps k s (execRefClockPresent k_0 t_1 t) := by
  unfold execRefClockPresent
  with_reducible repeat' first
    | exact h | assumption | apply keeps_next | apply keeps_ite | apply kept_ite | apply kept_mapPwr | apply kept_linksFollow
    | apply kept_mapGda | apply kept_followEnables | apply kept_atT | rfl | intro _ | split

theorem kept_execPfailLow {t_0 : Instant} (h : Kept k s t) : Keeps k s (execPfailLow t_0 t) := by
  unfold execPfailLow
  with_reducible repeat' first
    | exact h | assumption | apply keeps_next | apply keeps_ite | apply kept_ite | apply kept_mapPwr | apply kept_recordPowerFail
    | apply kept_tripBoth | apply kept_atT | apply kept_haltNow | rfl

theorem kept_execModeRequest {m : Master} {req : Nat} {t_2 : Instant} (h : Kept false s t) :
    Keeps false s (execModeRequest m req t_2 t) := by
  unfold execModeRequest
  with_reducible repeat' first
    | exact h | assumption | apply keeps_next | apply kept_requestMode | apply kept_strobe | apply kept_atT | rfl | intro _

theorem kept_execPinReset {low : Bool} {t_1 : Instant} (h : Kept false s t) : Keeps false s (execPinReset low t_1 t) := by
  unfold execPinReset
  with_reducible repeat' first
    | exact h | assumption | apply keeps_next | apply keeps_ite | apply kept_ite | apply kept_mapPwr_weak | apply kept_mapPwr
    | apply kept_atT | apply kept_chipReset

theorem kept_execPrepSteps {sramOk : Bool} {t_1 : Instant} (h : Kept false s t) : Keeps false s (execPrepSteps sramOk t_1 t) := by
  unfold execPrepSteps
  with_reducible repeat' first
    | exact h | assumption | apply keeps_next | apply keeps_ite | apply kept_ite | apply kept_atT | apply kept_prepStep
    | refine kept_foldl ?_ (fun _ _ _ => ?_)

theorem kept_execUpdateReset {t_0 : Instant} (h : Kept false s t) : Keeps false s (execUpdateReset t_0 t) := by
  unfold execUpdateReset
  with_reducible repeat' first
    | exact h | assumption | apply keeps_next | apply keeps_ite | apply kept_ite | apply kept_atT | apply kept_chipReset

theorem kept_execJtagReset {t_0 : Instant} (h : Kept false s t) : Keeps false s (execJtagReset t_0 t) := by
  unfold execJtagReset
  with_reducible repeat' first
    | exact h | assumption | apply keeps_next | apply kept_atT | apply kept_chipReset

theorem kept_execPfailRise {t_0 : Instant} (h : Kept k s t) : Keeps k s (execPfailRise t_0 t) := by
  unfold execPfailRise
  with_reducible repeat' first
    | exact h | assumption | apply keeps_next | apply kept_mapPwr | apply kept_atT | rfl

theorem kept_execClockReset {t_0 : Instant} (h : Kept false s t) : Keeps false s (execClockReset t_0 t) := by
  unfold execClockReset
  with_reducible repeat' first
    | exact h | assumption | apply keeps_next | apply keeps_ite | apply kept_ite | apply kept_atT | apply kept_chipReset

theorem kept_execBootComplete {t_0 : Instant} (h : Kept false s t) : Keeps false s (execBootComplete t_0 t) := by
  unfold execBootComplete
  with_reducible repeat' first
    | exact h | assumption | apply keeps_next | apply keeps_ite | apply kept_ite | apply kept_mapPwr_weak | apply kept_mapPwr
    | apply kept_recordBoot | apply kept_writeBootRecord | apply kept_record | apply kept_atT | apply kept_setMode | apply kept_runImage
    | refine kept_foldl ?_ (fun _ _ _ => ?_) | rfl | intro _ | split

theorem kept_execRailReset {t_0 : Instant} (h : Kept false s t) : Keeps false s (execRailReset t_0 t) := by
  unfold execRailReset
  with_reducible repeat' first
    | exact h | assumption | apply keeps_next | apply kept_mapPwr_weak | apply kept_mapPwr | apply kept_atT | apply kept_chipReset

theorem kept_execApplyNext {m : Master} {t_1 : Instant} (h : Kept k s t) : Keeps k s (execApplyNext m t_1 t) := by
  unfold execApplyNext
  with_reducible repeat' first
    | exact h | assumption | apply keeps_next | apply kept_applyNext | apply kept_strobe | apply kept_tuneIfDue | apply kept_atT

theorem kept_execChk {m : Master} {t_1 : Instant} (h : Kept k s t) : Keeps k s (execChk m t_1 t) := by
  unfold execChk
  with_reducible repeat' first
    | exact h | assumption | apply keeps_next | apply kept_strobe | apply kept_tuneIfDue | apply kept_startCheck | apply kept_atT

theorem kept_execApplySkew {t_0 : Instant} (h : Kept k s t) : Keeps k s (execApplySkew t_0 t) := by
  unfold execApplySkew
  with_reducible repeat' first
    | exact h | assumption | apply keeps_next | apply keeps_ite | apply kept_ite | apply kept_escalate | apply kept_mapChp
    | apply kept_mapAar | apply kept_atT | rfl | intro _

theorem kept_execCancel {m : Master} {t_1 : Instant} (h : Kept k s t) : Keeps k s (execCancel m t_1 t) := by
  unfold execCancel
  with_reducible repeat' first
    | exact h | assumption | apply keeps_next | apply kept_cancelApply | apply kept_strobe | apply kept_tuneIfDue | apply kept_atT

theorem canonical_copyback {r : Regs} {m : Mems} (h : canonical r m) : canonical { r with stage := r.tuned } m :=
  ⟨h.1, h.2.1, h.2.1, h.2.2.2⟩

theorem canonical_copybackMems {r : Regs} {m : Mems} (h : canonical r m) : canonical r { m with stage := m.act } := by
  obtain ⟨h1, h2, h3, h4, h5, h6, h7, h8, h9, h10⟩ := h
  exact ⟨h1, h2, h3, h4, h5, h6, h7, h7, h9, h10⟩

theorem kept_execCopybackDone {t_0 : Instant} (h : Kept k s t) : Keeps k s (execCopybackDone t_0 t) := by
  unfold execCopybackDone
  have h1 : Kept k s (t.atT t_0) := kept_atT h
  generalize t.atT t_0 = u at h1
  extract_lets s1 s2
  have h2 : Kept k s s2 := kept_mapMems (kept_mapRegs h1 canonical_copyback) canonical_copybackMems
  exact keeps_ite (keeps_next (kept_mapChp h2 rfl id)) (keeps_next h1)

theorem kept_execCheckComplete {t_0 : Instant} (h : Kept k s t) : Keeps k s (execCheckComplete t_0 t) := by
  unfold execCheckComplete
  with_reducible repeat' first
    | exact h | assumption | apply keeps_next | apply keeps_ite | apply kept_ite | apply kept_wr | apply kept_stageTo | apply kept_atT
    | apply kept_event

theorem kept_execDiscard {m : Master} {t_1 : Instant} (h : Kept k s t) : Keeps k s (execDiscard m t_1 t) := by
  unfold execDiscard
  with_reducible repeat' first
    | exact h | assumption | apply keeps_next | apply kept_discard | apply kept_strobe | apply kept_tuneIfDue | apply kept_atT

theorem kept_execApplyAt {m : Master} {t_1 : Instant} (h : Kept k s t) : Keeps k s (execApplyAt m t_1 t) := by
  unfold execApplyAt
  with_reducible repeat' first
    | exact h | assumption | apply keeps_next | apply kept_applyAt | apply kept_strobe | apply kept_tuneIfDue | apply kept_atT

theorem kept_execRetuneApply {t_0 : Instant} (h : Kept k s t) : Keeps k s (execRetuneApply t_0 t) := by
  unfold execRetuneApply
  with_reducible repeat' first
    | exact h | assumption | apply keeps_next | apply kept_tuneIfDue | apply kept_atT

theorem kept_execStageCopyFault {t_0 : Instant} (h : Kept k s t) : Keeps k s (execStageCopyFault t_0 t) := by
  unfold execStageCopyFault
  with_reducible repeat' first
    | exact h | assumption | apply keeps_next | apply keeps_ite | apply kept_ite | apply kept_escalate | apply kept_mapChp | apply kept_atT
    | rfl | intro _

theorem kept_execCellErrorDetected {b : Block} {u : Option Nat} {cause : Nat} {cell : Nat} {mem : Option Nat} {t_5 : Instant} (h : Kept k s t) :
    Keeps k s (execCellErrorDetected b u cause cell mem t_5 t) := by
  unfold execCellErrorDetected
  with_reducible repeat' first
    | exact h | assumption | apply keeps_next | apply keeps_ite | apply kept_ite | apply kept_mapChp | apply kept_blockFault
    | apply kept_atT | rfl | intro _ | split

theorem kept_execBlockFault {b : Block} {u : Option Nat} {cause : Nat} {detail : Nat} {t_4 : Instant} (h : Kept k s t) :
    Keeps k s (execBlockFault b u cause detail t_4 t) := by
  unfold execBlockFault
  with_reducible repeat' first
    | exact h | assumption | apply keeps_next | apply kept_blockFault | apply kept_atT

theorem kept_execInjectGo {m : Master} {code : Nat} {t_2 : Instant} (h : Kept k s t) :
    Keeps k s (execInjectGo m code t_2 t) := by
  unfold execInjectGo
  with_reducible repeat' first
    | exact h | assumption | apply keeps_next | apply kept_injectWrite | apply kept_strobe | apply kept_atT | rfl | intro _

theorem kept_execSafeTimeout {t_0 : Instant} (h : Kept false s t) : Keeps false s (execSafeTimeout t_0 t) := by
  unfold execSafeTimeout
  with_reducible repeat' first
    | exact h | assumption | apply keeps_next | apply keeps_ite | apply kept_ite | apply kept_toRecovery | apply kept_atT

theorem kept_execSnapshotComplete {t_0 : Instant} (h : Kept k s t) : Keeps k s (execSnapshotComplete t_0 t) := by
  unfold execSnapshotComplete
  with_reducible repeat' first
    | exact h | assumption | apply keeps_next | apply keeps_ite | apply kept_ite | apply kept_mapChp | apply kept_wr | apply kept_atT
    | apply kept_event | rfl | intro _ | split | dsimp only

theorem kept_execSnapshotRelease {m : Master} {v_1 : Word} {t_2 : Instant} (h : Kept k s t) :
    Keeps k s (execSnapshotRelease m v_1 t_2 t) := by
  unfold execSnapshotRelease
  with_reducible repeat' first
    | exact h | assumption | apply keeps_next | apply kept_snapRelease | apply kept_poke | apply kept_atT | rfl | intro _

theorem kept_execSafeClear {t_0 : Instant} (h : Kept false s t) : Keeps false s (execSafeClear t_0 t) := by
  unfold execSafeClear
  with_reducible repeat' first
    | exact h | assumption | apply keeps_next | apply keeps_ite | apply kept_ite | apply kept_mapChp_weak | apply kept_mapChp
    | apply kept_wr | apply kept_causeGone | apply kept_atT

theorem kept_execSnapTimeout {t_0 : Instant} (h : Kept k s t) : Keeps k s (execSnapTimeout t_0 t) := by
  unfold execSnapTimeout
  with_reducible repeat' first
    | exact h | assumption | apply keeps_next | apply keeps_ite | apply kept_ite | apply kept_mapChp | apply kept_escalateFault
    | apply kept_atT | rfl | intro _ | split | dsimp only

theorem kept_execBlockRestartReady {b : Block} {u : Option Nat} {t_2 : Instant} (h : Kept k s t) :
    Keeps k s (execBlockRestartReady b u t_2 t) := by
  unfold execBlockRestartReady
  with_reducible repeat' first
    | exact h | assumption | apply keeps_next | apply keeps_ite | apply kept_ite | apply kept_mapChp | apply kept_readyEffect
    | apply kept_atT | rfl | intro _ | split | dsimp only

theorem kept_execRestartFailed {b : Block} {u : Option Nat} {t_2 : Instant} (h : Kept k s t) :
    Keeps k s (execRestartFailed b u t_2 t) := by
  unfold execRestartFailed
  with_reducible repeat' first
    | exact h | assumption | apply keeps_next | apply keeps_ite | apply kept_ite | apply kept_escalate | apply kept_mapChp | apply kept_atT
    | rfl | intro _ | split | dsimp only

theorem kept_execWatchdogExpiry {t_0 : Instant} (h : Kept false s t) : Keeps false s (execWatchdogExpiry t_0 t) := by
  unfold execWatchdogExpiry
  with_reducible repeat' first
    | exact h | assumption | apply keeps_next | apply keeps_ite | apply kept_ite | apply kept_watchdogBoot | apply kept_resetMorsen
    | apply kept_escalate | apply kept_atT

theorem kept_execInjectionTaken {u : Option Nat} {t_1 : Instant} (h : Kept k s t) : Keeps k s (execInjectionTaken u t_1 t) := by
  unfold execInjectionTaken
  with_reducible repeat' first
    | exact h | assumption | apply keeps_next | apply kept_mapChp | apply kept_blockFault | apply kept_atT | rfl | intro _ | split
    | dsimp only

theorem kept_execSnapshotPeriod {t_0 : Instant} (h : Kept k s t) : Keeps k s (execSnapshotPeriod t_0 t) := by
  unfold execSnapshotPeriod
  with_reducible repeat' first
    | exact h | assumption | apply keeps_next | apply keeps_ite | apply kept_ite | apply kept_snapRequest | apply kept_atT

theorem kept_execSnapshotTake {t_0 : Instant} (h : Kept k s t) : Keeps k s (execSnapshotTake t_0 t) := by
  unfold execSnapshotTake
  with_reducible repeat' first
    | exact h | assumption | apply keeps_next | apply keeps_ite | apply kept_ite | apply kept_mapChp | apply kept_latchCounters
    | apply kept_wr | apply kept_atT | rfl | intro _ | split

theorem kept_execSnapshotHoldExpiry {t_0 : Instant} (h : Kept k s t) : Keeps k s (execSnapshotHoldExpiry t_0 t) := by
  unfold execSnapshotHoldExpiry
  with_reducible repeat' first
    | exact h | assumption | apply keeps_next | apply keeps_ite | apply kept_ite | apply kept_snapFree | apply kept_atT | rfl | intro _
    | split | dsimp only

theorem kept_execSnapshotRequest {m : Master} {t_1 : Instant} (h : Kept k s t) :
    Keeps k s (execSnapshotRequest m t_1 t) := by
  unfold execSnapshotRequest
  with_reducible repeat' first
    | exact h | assumption | apply keeps_next | apply keeps_ite | apply kept_ite | apply kept_poke | apply kept_denyPriv
    | apply kept_snapRequest | apply kept_atT

theorem kept_execTabEvt {code : Nat} (h : Kept k s t) : Keeps k s (execTabEvt code t) := by
  unfold execTabEvt
  with_reducible repeat' first
    | exact h | assumption | apply keeps_next | apply kept_bump | apply kept_tabStep | apply kept_wr | apply kept_tabNext | apply kept_event
    | rfl | intro _

theorem kept_execTabWaitu {target : Nat} (h : Kept k s t) : Keeps k s (execTabWaitu target t) := by
  unfold execTabWaitu
  with_reducible repeat' first
    | exact h | assumption | apply keeps_next | apply keeps_ite | apply kept_ite | apply kept_bump | apply kept_tabStep | apply kept_mapPsq
    | apply kept_tabNext | apply kept_event | rfl | intro _

theorem kept_execSyncMiss {t_0 : Instant} (h : Kept k s t) : Keeps k s (execSyncMiss t_0 t) := by
  unfold execSyncMiss
  with_reducible repeat' first
    | exact h | assumption | apply keeps_next | apply keeps_ite | apply kept_ite | apply kept_bump | apply kept_takeBoundary
    | apply kept_atT | apply kept_event | rfl | intro _ | split

theorem kept_execTabNop (h : Kept k s t) : Keeps k s (execTabNop t) := by
  unfold execTabNop
  with_reducible repeat' first
    | exact h | assumption | apply keeps_next | apply kept_tabStep | apply kept_tabNext | rfl | intro _

theorem kept_execTabFire {slot : Nat} {shape : Nat} {sub : Nat} (h : Kept k s t) : Keeps k s (execTabFire slot shape sub t) := by
  unfold execTabFire
  with_reducible repeat' first
    | exact h | assumption | apply keeps_next | apply keeps_ite | apply kept_ite | apply kept_bump | apply kept_tabStep
    | apply kept_openLook | apply kept_tabNext | apply kept_event | rfl | intro _

theorem kept_execUndefFetch (h : Kept k s t) : Keeps k s (execUndefFetch t) := by
  unfold execUndefFetch
  with_reducible repeat' first
    | exact h | assumption | apply keeps_next | apply keeps_ite | apply kept_ite | apply kept_blockFault | apply kept_tuneIfDue
    | apply kept_atT | rfl | intro _ | split

theorem kept_execProbeEmissionEnd {slot : Nat} {t_1 : Instant} (h : Kept k s t) : Keeps k s (execProbeEmissionEnd slot t_1 t) := by
  unfold execProbeEmissionEnd
  with_reducible repeat' first
    | exact h | assumption | apply keeps_next | apply keeps_ite | apply kept_ite | apply kept_clipToNow | apply kept_mapPsq | apply kept_atT

theorem kept_execTabHalt (h : Kept k s t) : Keeps k s (execTabHalt t) := by
  unfold execTabHalt
  with_reducible repeat' first
    | exact h | assumption | apply keeps_next | apply kept_tabStep | apply kept_haltTab | rfl | intro _

theorem kept_execHaltWaitPeriod {t_0 : Instant} (h : Kept k s t) : Keeps k s (execHaltWaitPeriod t_0 t) := by
  unfold execHaltWaitPeriod
  with_reducible repeat' first
    | exact h | assumption | apply keeps_next | apply keeps_ite | apply kept_ite | apply kept_tabStep | apply kept_learnSweep
    | apply kept_advance | apply kept_haltTab | rfl | intro _

theorem kept_execHaltSweep {m : Master} {t_1 : Instant} (h : Kept k s t) : Keeps k s (execHaltSweep m t_1 t) := by
  unfold execHaltSweep
  with_reducible repeat' first
    | exact h | assumption | apply keeps_next | apply kept_strobe | apply kept_atT | apply kept_haltSweepEnd | rfl | intro _

theorem kept_execPluckGo {m : Master} {slot : Nat} {shape : Nat} {scale : Nat} {t_4 : Instant} (h : Kept k s t) :
    Keeps k s (execPluckGo m slot shape scale t_4 t) := by
  unfold execPluckGo
  with_reducible repeat' first
    | exact h | assumption | apply keeps_next | apply kept_pluckGo | apply kept_strobe | apply kept_atT | rfl | intro _

theorem kept_execSweepBoundary {t_0 : Instant} (h : Kept k s t) : Keeps k s (execSweepBoundary t_0 t) := by
  unfold execSweepBoundary
  with_reducible repeat' first
    | exact h | assumption | apply keeps_next | apply keeps_ite | apply kept_ite | apply kept_takeBoundary | apply kept_atT | rfl | intro _
    | split

theorem kept_execLookWindowEnd {slot : Nat} {t_1 : Instant} (h : Kept k s t) : Keeps k s (execLookWindowEnd slot t_1 t) := by
  unfold execLookWindowEnd
  with_reducible repeat' first
    | exact h | assumption | apply keeps_next | apply kept_mapPsq | apply kept_atT

theorem kept_execTabJmp {target : Nat} (h : Kept k s t) : Keeps k s (execTabJmp target t) := by
  unfold execTabJmp
  with_reducible repeat' first
    | exact h | assumption | apply keeps_next | apply kept_tabStep | apply kept_tabBranch | rfl | intro _

theorem kept_execPluckGateClose {t_0 : Instant} (h : Kept k s t) : Keeps k s (execPluckGateClose t_0 t) := by
  unfold execPluckGateClose
  with_reducible repeat' first
    | exact h | assumption | apply keeps_next | apply keeps_ite | apply kept_ite | apply kept_mapPsq | apply kept_atT | rfl | intro _
    | split | dsimp only

theorem kept_execTabGate {sub : Nat} {width : Nat} (h : Kept k s t) : Keeps k s (execTabGate sub width t) := by
  unfold execTabGate
  with_reducible repeat' first
    | exact h | assumption | apply keeps_next | apply keeps_ite | apply kept_ite | apply kept_tabStep | apply kept_mapPsq
    | apply kept_tabNext | rfl | intro _

theorem kept_execPluckFire {t_0 : Instant} (h : Kept k s t) : Keeps k s (execPluckFire t_0 t) := by
  unfold execPluckFire
  with_reducible repeat' first
    | exact h | assumption | apply keeps_next | apply keeps_ite | apply kept_ite | apply kept_firePluck | apply kept_atT | rfl | intro _
    | split | dsimp only

theorem kept_execHaltNow {m : Master} {t_1 : Instant} (h : Kept k s t) : Keeps k s (execHaltNow m t_1 t) := by
  unfold execHaltNow
  with_reducible repeat' first
    | exact h | assumption | apply keeps_next | apply kept_strobe | apply kept_atT | apply kept_haltNow | rfl | intro _

theorem kept_execSyncInEdge {t_0 : Instant} (h : Kept k s t) : Keeps k s (execSyncInEdge t_0 t) := by
  unfold execSyncInEdge
  with_reducible repeat' first
    | exact h | assumption | apply keeps_next | apply keeps_ite | apply kept_ite | apply kept_wr | apply kept_mapPsq | apply kept_atT

theorem kept_execPluckDone {t_0 : Instant} (h : Kept k s t) : Keeps k s (execPluckDone t_0 t) := by
  unfold execPluckDone
  with_reducible repeat' first
    | exact h | assumption | apply keeps_next | apply keeps_ite | apply kept_ite | apply kept_bump | apply kept_mapPsq | apply kept_atT
    | apply kept_event | rfl | intro _ | split | dsimp only

theorem kept_execStart {m : Master} {t_1 : Instant} (h : Kept k s t) : Keeps k s (execStart m t_1 t) := by
  unfold execStart
  with_reducible repeat' first
    | exact h | assumption | apply keeps_next | apply kept_startTab | apply kept_strobe | apply kept_atT

theorem kept_execTabWait {n : Nat} (h : Kept k s t) : Keeps k s (execTabWait n t) := by
  unfold execTabWait
  with_reducible repeat' first
    | exact h | assumption | apply keeps_next | apply kept_tabStep | apply kept_tabNext | rfl | intro _

theorem kept_execTabRaman {sub : Nat} (h : Kept k s t) : Keeps k s (execTabRaman sub t) := by
  unfold execTabRaman
  with_reducible repeat' first
    | exact h | assumption | apply keeps_next | apply keeps_ite | apply kept_ite | apply kept_bump | apply kept_tabStep | apply kept_mapPsq
    | apply kept_mapRmx | apply kept_tabNext | apply kept_event | rfl | intro _

theorem kept_execTabDjnz {k_0 : Nat} {target : Nat} (h : Kept k s t) : Keeps k s (execTabDjnz k_0 target t) := by
  unfold execTabDjnz
  with_reducible repeat' first
    | exact h | assumption | apply keeps_next | apply keeps_ite | apply kept_ite | apply kept_tabStep | apply kept_tabBranch
    | apply kept_mapPsq | apply kept_tabNext | rfl | intro _

theorem kept_execTabSetc {k_0 : Nat} {n : Nat} (h : Kept k s t) : Keeps k s (execTabSetc k_0 n t) := by
  unfold execTabSetc
  with_reducible repeat' first
    | exact h | assumption | apply keeps_next | apply kept_tabStep | apply kept_mapPsq | apply kept_tabNext | rfl | intro _

theorem kept_execTabGateClose {t_0 : Instant} (h : Kept k s t) : Keeps k s (execTabGateClose t_0 t) := by
  unfold execTabGateClose
  with_reducible repeat' first
    | exact h | assumption | apply keeps_next | apply keeps_ite | apply kept_ite | apply kept_mapPsq | apply kept_atT

theorem kept_execTabSwb {pat : Nat} (h : Kept k s t) : Keeps k s (execTabSwb pat t) := by
  unfold execTabSwb
  with_reducible repeat' first
    | exact h | assumption | apply keeps_next | apply keeps_ite | apply kept_ite | apply kept_bump | apply kept_tabStep | apply kept_mapPsq
    | apply kept_event | rfl | intro _ | split

theorem kept_execHighWordWrite {m : Master} {addr : Nat} {v_2 : Word} {t_3 : Instant} (h : Kept false s t) :
    Keeps false s (execHighWordWrite m addr v_2 t_3 t) := by
  unfold execHighWordWrite
  with_reducible repeat' first
    | exact h | assumption | apply keeps_next | apply kept_writeWord | apply kept_tuneIfDue | apply kept_atT

theorem kept_execStageWrite {m : Master} {addr : Nat} {v_2 : Word} {t_3 : Instant} (h : Kept false s t) :
    Keeps false s (execStageWrite m addr v_2 t_3 t) := by
  unfold execStageWrite
  with_reducible repeat' first
    | exact h | assumption | apply keeps_next | apply kept_writeWord | apply kept_tuneIfDue | apply kept_atT

theorem kept_execStatusClearWrite {m : Master} {addr : Nat} {v_2 : Word} {t_3 : Instant} (h : Kept false s t) :
    Keeps false s (execStatusClearWrite m addr v_2 t_3 t) := by
  unfold execStatusClearWrite
  with_reducible repeat' first
    | exact h | assumption | apply keeps_next | apply kept_writeWord | apply kept_tuneIfDue | apply kept_atT

theorem kept_execHighWordRead {m : Master} {addr : Nat} {t_2 : Instant} (h : Kept k s t) :
    Keeps k s (execHighWordRead m addr t_2 t) := by
  unfold execHighWordRead
  with_reducible repeat' first
    | exact h | assumption | apply keeps_next | apply kept_tuneIfDue | apply kept_readWord | apply kept_atT

theorem kept_execToggleWrite {m : Master} {addr : Nat} {v_2 : Word} {t_3 : Instant} (h : Kept false s t) :
    Keeps false s (execToggleWrite m addr v_2 t_3 t) := by
  unfold execToggleWrite
  with_reducible repeat' first
    | exact h | assumption | apply keeps_next | apply kept_writeWord | apply kept_tuneIfDue | apply kept_atT

theorem kept_execClearWrite {m : Master} {addr : Nat} {v_2 : Word} {t_3 : Instant} (h : Kept false s t) :
    Keeps false s (execClearWrite m addr v_2 t_3 t) := by
  unfold execClearWrite
  with_reducible repeat' first
    | exact h | assumption | apply keeps_next | apply kept_writeWord | apply kept_tuneIfDue | apply kept_atT

theorem kept_execSetWrite {m : Master} {addr : Nat} {v_2 : Word} {t_3 : Instant} (h : Kept false s t) :
    Keeps false s (execSetWrite m addr v_2 t_3 t) := by
  unfold execSetWrite
  with_reducible repeat' first
    | exact h | assumption | apply keeps_next | apply kept_writeWord | apply kept_tuneIfDue | apply kept_atT

theorem kept_execRegisterWrite {m : Master} {addr : Nat} {v_2 : Word} {t_3 : Instant} (h : Kept false s t) :
    Keeps false s (execRegisterWrite m addr v_2 t_3 t) := by
  unfold execRegisterWrite
  with_reducible repeat' first
    | exact h | assumption | apply keeps_next | apply kept_writeWord | apply kept_tuneIfDue | apply kept_atT

theorem kept_execBridgeTimeout {m : Master} {addr : Nat} {t_2 : Instant} (h : Kept k s t) :
    Keeps k s (execBridgeTimeout m addr t_2 t) := by
  unfold execBridgeTimeout
  with_reducible repeat' first
    | exact h | assumption | apply keeps_next | apply kept_blockFault | apply kept_busErr | apply kept_atT | rfl | intro _ | split

theorem kept_execLowWordWrite {m : Master} {addr : Nat} {v_2 : Word} {t_3 : Instant} (h : Kept false s t) :
    Keeps false s (execLowWordWrite m addr v_2 t_3 t) := by
  unfold execLowWordWrite
  with_reducible repeat' first
    | exact h | assumption | apply keeps_next | apply kept_writeWord | apply kept_tuneIfDue | apply kept_atT

theorem kept_execLowWordRead {m : Master} {addr : Nat} {t_2 : Instant} (h : Kept k s t) :
    Keeps k s (execLowWordRead m addr t_2 t) := by
  unfold execLowWordRead
  with_reducible repeat' first
    | exact h | assumption | apply keeps_next | apply kept_tuneIfDue | apply kept_readWord | apply kept_atT

theorem kept_execAutoService {t_0 : Instant} (h : Kept false s t) : Keeps false s (execAutoService t_0 t) := by
  unfold execAutoService
  with_reducible repeat' first
    | exact h | assumption | apply keeps_next | apply keeps_ite | apply kept_ite | apply kept_writeWord | apply kept_bootNext
    | apply kept_atT

theorem kept_execAutoStart {t_0 : Instant} (h : Kept false s t) : Keeps false s (execAutoStart t_0 t) := by
  unfold execAutoStart
  with_reducible repeat' first
    | exact h | assumption | apply keeps_next | apply keeps_ite | apply kept_ite | apply kept_writeWord | apply kept_bootNext
    | apply kept_atT

theorem kept_execAutoLight {t_0 : Instant} (h : Kept false s t) : Keeps false s (execAutoLight t_0 t) := by
  unfold execAutoLight
  with_reducible repeat' first
    | exact h | assumption | apply keeps_next | apply keeps_ite | apply kept_ite | apply kept_writeWord | apply kept_bootNext
    | apply kept_atT

theorem kept_execBootTuning {writes : List (Nat × Word)} {porhorn : List Byte} {service : Bool} {light : Bool} {start : Bool} {t_5 : Instant} (h : Kept false s t) :
    Keeps false s (execBootTuning writes porhorn service light start t_5 t) := by
  unfold execBootTuning
  with_reducible repeat' first
    | exact h | assumption | apply keeps_next | apply keeps_ite | apply kept_ite | apply kept_applyBootTuning | apply kept_atT

theorem kept_execControlPacketSend {session : Nat} {t_1 : Instant} (h : Kept k s t) :
    Keeps k s (execControlPacketSend session t_1 t) := by
  unfold execControlPacketSend
  with_reducible repeat' first
    | exact h | assumption | apply keeps_next | apply keeps_ite | apply kept_ite | apply kept_numbered | apply kept_atT | apply kept_pumpOne
    | rfl | intro _ | split

theorem kept_execPress {high : Bool} {t_1 : Instant} (h : Kept k s t) : Keeps k s (execPress high t_1 t) := by
  unfold execPress
  with_reducible repeat' first
    | exact h | assumption | apply keeps_next | apply keeps_ite | apply kept_ite | apply kept_pressed | apply kept_mapKpe | apply kept_atT

theorem kept_execRtoExpiry {session : Nat} {t_1 : Instant} (h : Kept k s t) : Keeps k s (execRtoExpiry session t_1 t) := by
  unfold execRtoExpiry
  with_reducible repeat' first
    | exact h | assumption | apply keeps_next | apply keeps_ite | apply kept_ite | apply kept_suspend | apply kept_mapSess | apply kept_atT
    | apply kept_resendAll

theorem kept_execKpClaim {path : KpPath} {p : KpPacket} {t_2 : Instant} (h : Kept k s t) :
    Keeps k s (execKpClaim path p t_2 t) := by
  unfold execKpClaim
  with_reducible repeat' first
    | exact h | assumption | apply keeps_next | apply kept_dropPacket | apply kept_claimPacket | apply kept_heard | apply kept_kpTake
    | apply kept_atT | rfl | intro _ | split

theorem kept_execKpOpen {path : KpPath} {p : KpPacket} {t_2 : Instant} (h : Kept k s t) :
    Keeps k s (execKpOpen path p t_2 t) := by
  unfold execKpOpen
  with_reducible repeat' first
    | exact h | assumption | apply keeps_next | apply kept_openPacket | apply kept_kpTake | apply kept_atT | rfl | intro _

theorem kept_execCommandComplete {session : Nat} {tag : Nat} {t_2 : Instant} (h : Kept k s t) :
    Keeps k s (execCommandComplete session tag t_2 t) := by
  unfold execCommandComplete
  with_reducible repeat' first
    | exact h | assumption | apply keeps_next | apply keeps_ite | apply kept_ite | apply kept_queueCtl | apply kept_mapSess | apply kept_atT
    | rfl | intro _ | split | dsimp only

theorem kept_execKeepaliveExpiry {session : Nat} {t_1 : Instant} (h : Kept k s t) :
    Keeps k s (execKeepaliveExpiry session t_1 t) := by
  unfold execKeepaliveExpiry
  with_reducible repeat' first
    | exact h | assumption | apply keeps_next | apply keeps_ite | apply kept_ite | apply kept_closeSession | apply kept_atT

theorem kept_execClaimTimeout {t_0 : Instant} (h : Kept k s t) : Keeps k s (execClaimTimeout t_0 t) := by
  unfold execClaimTimeout
  with_reducible repeat' first
    | exact h | assumption | apply keeps_next | apply keeps_ite | apply kept_ite | apply kept_mapKpe | apply kept_claimResult
    | apply kept_atT | rfl | intro _ | split | dsimp only

theorem kept_execKpCommand {path : KpPath} {p : KpPacket} {t_2 : Instant} (h : Kept k s t) :
    Keeps k s (execKpCommand path p t_2 t) := by
  unfold execKpCommand
  with_reducible repeat' first
    | exact h | assumption | apply keeps_next | apply kept_commandPacket | apply kept_heard | apply kept_kpTake | apply kept_atT | rfl
    | intro _

theorem kept_execKpAck {path : KpPath} {p : KpPacket} {t_2 : Instant} (h : Kept k s t) :
    Keeps k s (execKpAck path p t_2 t) := by
  unfold execKpAck
  with_reducible repeat' first
    | exact h | assumption | apply keeps_next | apply kept_heard | apply kept_kpTake | apply kept_atT | rfl | intro _

theorem kept_execKpClose {path : KpPath} {p : KpPacket} {t_2 : Instant} (h : Kept k s t) :
    Keeps k s (execKpClose path p t_2 t) := by
  unfold execKpClose
  with_reducible repeat' first
    | exact h | assumption | apply keeps_next | apply kept_heard | apply kept_kpTake | apply kept_closeSession | apply kept_atT | rfl
    | intro _

theorem kept_execLogRead {session : Nat} {tag : Nat} {t_2 : Instant} (h : Kept k s t) :
    Keeps k s (execLogRead session tag t_2 t) := by
  unfold execLogRead
  with_reducible repeat' first
    | exact h | assumption | apply keeps_next | apply keeps_ite | apply kept_ite | apply kept_readStep | apply kept_kpAct
    | apply kept_mapCmd | apply kept_logStep | apply kept_atT | rfl | intro _ | split

theorem kept_execCapArm {session : Nat} {tag : Nat} {t_2 : Instant} (h : Kept k s t) : Keeps k s (execCapArm session tag t_2 t) := by
  unfold execCapArm
  with_reducible repeat' first
    | exact h | assumption | apply keeps_next | apply keeps_ite | apply kept_ite | apply kept_armCapture | apply kept_kpAct | apply kept_atT
    | rfl | intro _ | split

theorem kept_execKpAbort {session : Nat} {tag : Nat} {t_2 : Instant} (h : Kept k s t) :
    Keeps k s (execKpAbort session tag t_2 t) := by
  unfold execKpAbort
  with_reducible repeat' first
    | exact h | assumption | apply keeps_next | apply keeps_ite | apply kept_ite | apply kept_abortCmd | apply kept_atT | rfl | intro _
    | split | dsimp only

theorem kept_execCapRead {session : Nat} {tag : Nat} {t_2 : Instant} (h : Kept k s t) :
    Keeps k s (execCapRead session tag t_2 t) := by
  unfold execCapRead
  with_reducible repeat' first
    | exact h | assumption | apply keeps_next | apply keeps_ite | apply kept_ite | apply kept_readStep | apply kept_kpAct
    | apply kept_rowStep | apply kept_capReadBegin | apply kept_atT | rfl | intro _ | split

theorem kept_execRegRead {session : Nat} {tag : Nat} {t_2 : Instant} (h : Kept k s t) :
    Keeps k s (execRegRead session tag t_2 t) := by
  unfold execRegRead
  with_reducible repeat' first
    | exact h | assumption | apply keeps_next | apply kept_kpAct | apply kept_endCmd | apply kept_tuneIfDue | apply kept_readMany
    | apply kept_commit | apply kept_atT | refine kept_pair (by assumption) ?_ | rfl | intro _ | split

theorem kept_execKpNop {session : Nat} {tag : Nat} {t_2 : Instant} (h : Kept k s t) : Keeps k s (execKpNop session tag t_2 t) := by
  unfold execKpNop
  with_reducible repeat' first
    | exact h | assumption | apply keeps_next | apply kept_kpAct | apply kept_endCmd | apply kept_atT | rfl | intro _ | split

theorem kept_execCapAbort {session : Nat} {tag : Nat} {t_2 : Instant} (h : Kept k s t) :
    Keeps k s (execCapAbort session tag t_2 t) := by
  unfold execCapAbort
  with_reducible repeat' first
    | exact h | assumption | apply keeps_next | apply keeps_ite | apply kept_ite | apply kept_abortDesc | apply kept_kpAct
    | apply kept_endCmd | apply kept_atT | rfl | intro _ | split

theorem kept_execRegWrite {session : Nat} {tag : Nat} {t_2 : Instant} (h : Kept false s t) :
    Keeps false s (execRegWrite session tag t_2 t) := by
  unfold execRegWrite
  with_reducible repeat' first
    | exact h | assumption | apply keeps_next | apply kept_kpAct | apply kept_endCmd | apply kept_tuneIfDue | apply kept_writeMany
    | apply kept_commit | apply kept_atT | refine kept_pair (by assumption) ?_ | rfl | intro _ | split

theorem kept_execRingRead {session : Nat} {tag : Nat} {t_2 : Instant} (h : Kept k s t) :
    Keeps k s (execRingRead session tag t_2 t) := by
  unfold execRingRead
  with_reducible repeat' first
    | exact h | assumption | apply keeps_next | apply keeps_ite | apply kept_ite | apply kept_ringReadBegin | apply kept_readStep
    | apply kept_kpAct | apply kept_rowStep | apply kept_noteRead | apply kept_atT | rfl | intro _ | split

theorem kept_execCapRelease {session : Nat} {tag : Nat} {t_2 : Instant} (h : Kept k s t) :
    Keeps k s (execCapRelease session tag t_2 t) := by
  unfold execCapRelease
  with_reducible repeat' first
    | exact h | assumption | apply keeps_next | apply keeps_ite | apply kept_ite | apply kept_kpAct | apply kept_releaseDesc
    | apply kept_endCmd | apply kept_atT | rfl | intro _ | split

theorem kept_execKpLoad {session : Nat} {tag : Nat} {t_2 : Instant} (h : Kept k s t) : Keeps k s (execKpLoad session tag t_2 t) := by
  unfold execKpLoad
  with_reducible repeat' first
    | exact h | assumption | apply keeps_next | apply kept_kpAct | apply kept_tuneIfDue | apply kept_loadFrom | apply kept_atT | rfl
    | intro _ | split

theorem kept_execMemRead {session : Nat} {tag : Nat} {t_2 : Instant} (h : Kept k s t) :
    Keeps k s (execMemRead session tag t_2 t) := by
  unfold execMemRead
  with_reducible repeat' first
    | exact h | assumption | apply keeps_next | apply keeps_ite | apply kept_ite | apply kept_readStep | apply kept_kpAct
    | apply kept_memReadDram | apply kept_tuneIfDue | apply kept_atT | apply kept_memReadWords | rfl | intro _ | split

theorem kept_execMemWrite {session : Nat} {tag : Nat} {t_2 : Instant} (h : Kept false s t) :
    Keeps false s (execMemWrite session tag t_2 t) := by
  unfold execMemWrite
  with_reducible repeat' first
    | exact h | assumption | apply keeps_next | apply kept_memWriteTo | apply kept_kpAct | apply kept_tuneIfDue | apply kept_atT | rfl
    | intro _ | split

theorem kept_execKpMode {session : Nat} {tag : Nat} {t_2 : Instant} (h : Kept false s t) :
    Keeps false s (execKpMode session tag t_2 t) := by
  unfold execKpMode
  with_reducible repeat' first
    | exact h | assumption | apply keeps_next | apply keeps_ite | apply kept_ite | apply kept_writeWord | apply kept_kpAct
    | apply kept_endCmd | apply kept_tuneIfDue | apply kept_atT | rfl | intro _ | split

theorem kept_execSubscribe {session : Nat} {tag : Nat} {t_2 : Instant} (h : Kept k s t) :
    Keeps k s (execSubscribe session tag t_2 t) := by
  unfold execSubscribe
  with_reducible repeat' first
    | exact h | assumption | apply keeps_next | apply keeps_ite | apply kept_ite | apply kept_kpAct | apply kept_endCmd
    | apply kept_subscribeTo | apply kept_atT | rfl | intro _ | split

theorem kept_execStreamPacketDrop {sub : Nat} {t_1 : Instant} (h : Kept k s t) : Keeps k s (execStreamPacketDrop sub t_1 t) := by
  unfold execStreamPacketDrop
  with_reducible repeat' first
    | exact h | assumption | apply keeps_next | apply keeps_ite | apply kept_ite | apply kept_bump | apply kept_mapKpe | apply kept_lost
    | apply kept_atT | rfl | intro _ | split | dsimp only

theorem kept_execUnsubscribe {session : Nat} {tag : Nat} {t_2 : Instant} (h : Kept k s t) :
    Keeps k s (execUnsubscribe session tag t_2 t) := by
  unfold execUnsubscribe
  with_reducible repeat' first
    | exact h | assumption | apply keeps_next | apply keeps_ite | apply kept_ite | apply kept_kpAct | apply kept_endCmd | apply kept_endSub
    | apply kept_atT | rfl | intro _ | split

theorem kept_execStreamFillTimeout {sub : Nat} {accepts : Bool} {t_2 : Instant} (h : Kept k s t) :
    Keeps k s (execStreamFillTimeout sub accepts t_2 t) := by
  unfold execStreamFillTimeout
  with_reducible repeat' first
    | exact h | assumption | apply keeps_next | apply keeps_ite | apply kept_ite | apply kept_sendStreams | apply kept_closeCtxBlock
    | apply kept_formNext | apply kept_atT | rfl | intro _ | split | dsimp only

theorem kept_execKpFlush {session : Nat} {tag : Nat} {t_2 : Instant} (h : Kept k s t) :
    Keeps k s (execKpFlush session tag t_2 t) := by
  unfold execKpFlush
  with_reducible repeat' first
    | exact h | assumption | apply keeps_next | apply keeps_ite | apply kept_ite | apply kept_kpAct | apply kept_endCmd
    | apply kept_flushSub | apply kept_atT | rfl | intro _ | split

theorem kept_execStreamPacketForm {sub : Nat} {accepts : Bool} {t_2 : Instant} (h : Kept k s t) :
    Keeps k s (execStreamPacketForm sub accepts t_2 t) := by
  unfold execStreamPacketForm
  with_reducible repeat' first
    | exact h | assumption | apply keeps_next | apply keeps_ite | apply kept_ite | apply kept_sendStreams | apply kept_formNext
    | apply kept_atT

theorem kept_execUpdActivate {session : Nat} {tag : Nat} {t_2 : Instant} (h : Kept k s t) :
    Keeps k s (execUpdActivate session tag t_2 t) := by
  unfold execUpdActivate
  with_reducible repeat' first
    | exact h | assumption | apply keeps_next | apply kept_updAct | apply kept_updateActivate | apply kept_atT | rfl | intro _

theorem kept_execUpdLogSign {session : Nat} {tag : Nat} {t_2 : Instant} (h : Kept k s t) :
    Keeps k s (execUpdLogSign session tag t_2 t) := by
  unfold execUpdLogSign
  with_reducible repeat' first
    | exact h | assumption | apply keeps_next | apply kept_updAct | apply kept_signed | apply kept_endUpdate | apply kept_atT
    | refine kept_pair (by assumption) ?_ | rfl | intro _

theorem kept_execUpdVerify {session : Nat} {tag : Nat} {t_2 : Instant} (h : Kept k s t) :
    Keeps k s (execUpdVerify session tag t_2 t) := by
  unfold execUpdVerify
  with_reducible repeat' first
    | exact h | assumption | apply keeps_next | apply kept_updAct | apply kept_updateVerify | apply kept_atT | rfl | intro _

theorem kept_execUpdCommit {session : Nat} {tag : Nat} {t_2 : Instant} (h : Kept k s t) :
    Keeps k s (execUpdCommit session tag t_2 t) := by
  unfold execUpdCommit
  with_reducible repeat' first
    | exact h | assumption | apply keeps_next | apply kept_updAct | apply kept_updateCommit | apply kept_atT | rfl | intro _

theorem kept_execUpdAttest {session : Nat} {tag : Nat} {t_2 : Instant} (h : Kept k s t) :
    Keeps k s (execUpdAttest session tag t_2 t) := by
  unfold execUpdAttest
  with_reducible repeat' first
    | exact h | assumption | apply keeps_next | apply kept_updAct | apply kept_signed | apply kept_endUpdate | apply kept_atT
    | refine kept_pair (by assumption) ?_ | rfl | intro _

theorem kept_execUpdStatus {session : Nat} {tag : Nat} {t_2 : Instant} (h : Kept k s t) :
    Keeps k s (execUpdStatus session tag t_2 t) := by
  unfold execUpdStatus
  with_reducible repeat' first
    | exact h | assumption | apply keeps_next | apply kept_updAct | apply kept_endUpdate | apply kept_atT | rfl | intro _

theorem kept_execUpdWrite {session : Nat} {tag : Nat} {ok : Bool} {t_3 : Instant} (h : Kept k s t) :
    Keeps k s (execUpdWrite session tag ok t_3 t) := by
  unfold execUpdWrite
  with_reducible repeat' first
    | exact h | assumption | apply keeps_next | apply kept_updAct | apply kept_updateWrite | apply kept_atT | rfl | intro _

theorem kept_execUpdRevert {session : Nat} {tag : Nat} {t_2 : Instant} (h : Kept k s t) :
    Keeps k s (execUpdRevert session tag t_2 t) := by
  unfold execUpdRevert
  with_reducible repeat' first
    | exact h | assumption | apply keeps_next | apply kept_updAct | apply kept_updateRevert | apply kept_atT | rfl | intro _

theorem kept_execUpdBegin {session : Nat} {tag : Nat} {ok : Bool} {t_3 : Instant} (h : Kept k s t) :
    Keeps k s (execUpdBegin session tag ok t_3 t) := by
  unfold execUpdBegin
  with_reducible repeat' first
    | exact h | assumption | apply keeps_next | apply kept_updAct | apply kept_updateBegin | apply kept_atT | rfl | intro _

theorem kept_execPowerOn {n : Instant} : Keeps false { s with now := 0 } (execPowerOn n s) := keeps_next kept_powerReset

theorem kept_execPowerDown {b : Bool} {n : Instant} : Keeps false { s with now := 0 } (execPowerDown b n s) := by
  have h := @kept_powerReset s
  unfold execPowerDown
  generalize s.powerReset = u at h ⊢
  exact keeps_next (kept_mapPwr_weak (kept_fresh h))

end Sys2Proof.Laws
end

