-- ==== Sys2Proof/Laws/Only.lean ====
section
/-! SUPPORT. Which parts of the state every shared operation may change, one lemma each: what is not listed stays as it was. -/

open Sys2Proof Sys2Proof.Machine Sys2Proof.Safety

namespace Sys2Proof.Laws

variable {ps : List Part} {s t v : State}

theorem sub_trans {a b c : List Part} (h : ∀ p ∈ a, p ∈ b) (g : b ⊆ c) : a ⊆ c := fun _ hp => g (h _ hp)

theorem only_refl : onlyParts ps s s := fun p _ => by cases p <;> rfl

theorem only_ite {c : Prop} [Decidable c] {a b : State} (ha : onlyParts ps s a) (hb : onlyParts ps s b) : onlyParts ps s (if c then a else b) := by
  split <;> assumption

theorem only_ite_fst {α : Type} {c : Prop} [Decidable c] {a b : State × α} (ha : onlyParts ps s a.1) (hb : onlyParts ps s b.1) :
    onlyParts ps s (if c then a else b).1 := by split <;> assumption

theorem only_foldl {α : Type} {f : State → α → State} {l : List α} (h : onlyParts ps s t) (hf : ∀ t x, onlyParts ps s t → onlyParts ps s (f t x)) :
    onlyParts ps s (l.foldl f t) := by
  induction l generalizing t with
  | nil => exact h
  | cons x l ih => exact ih (hf t x h)

theorem only_foldl_fst {α β : Type} {f : State × β → α → State × β} {l : List α} {p : State × β} (h : onlyParts ps s p.1)
    (hf : ∀ p x, onlyParts ps s p.1 → onlyParts ps s (f p x).1) : onlyParts ps s (l.foldl f p).1 := by
  induction l generalizing p with
  | nil => exact h
  | cons x l ih => exact ih (hf p x h)

theorem only_pair {α : Type} {p : State × α} {a : α} (e : p = (v, a)) (h : onlyParts ps s p.1) : onlyParts ps s v := by rw [e] at h; exact h

/-- A change of one part. -/
theorem only_part (q : Part) (h : onlyParts ps s t) (hp : [q] ⊆ ps) (hv : ∀ p, p ≠ q → same p t v) : onlyParts ps s v := by
  intro p hn
  have h1 := h p hn
  have h2 := hv p fun e => hn (hp (by rw [e]; exact List.mem_singleton.mpr rfl))
  cases p <;> exact Eq.trans h2 h1

theorem only_now {x : Instant} (h : onlyParts ps s t) (hp : [.now] ⊆ ps) : onlyParts ps s { t with now := x } :=
  only_part .now h hp fun p hn => by cases p <;> first | rfl | exact absurd rfl hn

theorem only_regs {x : Regs} (h : onlyParts ps s t) (hp : [.regs] ⊆ ps) : onlyParts ps s { t with regs := x } :=
  only_part .regs h hp fun p hn => by cases p <;> first | rfl | exact absurd rfl hn

theorem only_mems {x : Mems} (h : onlyParts ps s t) (hp : [.mems] ⊆ ps) : onlyParts ps s { t with mems := x } :=
  only_part .mems h hp fun p hn => by cases p <;> first | rfl | exact absurd rfl hn

theorem only_bus {x : Bus} (h : onlyParts ps s t) (hp : [.bus] ⊆ ps) : onlyParts ps s { t with bus := x } :=
  only_part .bus h hp fun p hn => by cases p <;> first | rfl | exact absurd rfl hn

theorem only_chp {x : Chp} (h : onlyParts ps s t) (hp : [.chp] ⊆ ps) : onlyParts ps s { t with chp := x } :=
  only_part .chp h hp fun p hn => by cases p <;> first | rfl | exact absurd rfl hn

theorem only_psq {x : Psq} (h : onlyParts ps s t) (hp : [.psq] ⊆ ps) : onlyParts ps s { t with psq := x } :=
  only_part .psq h hp fun p hn => by cases p <;> first | rfl | exact absurd rfl hn

theorem only_psy {x : Psy} (h : onlyParts ps s t) (hp : [.psy] ⊆ ps) : onlyParts ps s { t with psy := x } :=
  only_part .psy h hp fun p hn => by cases p <;> first | rfl | exact absurd rfl hn

theorem only_src {x : Src} (h : onlyParts ps s t) (hp : [.src] ⊆ ps) : onlyParts ps s { t with src := x } :=
  only_part .src h hp fun p hn => by cases p <;> first | rfl | exact absurd rfl hn

theorem only_occ {x : Occ} (h : onlyParts ps s t) (hp : [.occ] ⊆ ps) : onlyParts ps s { t with occ := x } :=
  only_part .occ h hp fun p hn => by cases p <;> first | rfl | exact absurd rfl hn

theorem only_crx {x : Crx} (h : onlyParts ps s t) (hp : [.crx] ⊆ ps) : onlyParts ps s { t with crx := x } :=
  only_part .crx h hp fun p hn => by cases p <;> first | rfl | exact absurd rfl hn

theorem only_cal {x : Cal} (h : onlyParts ps s t) (hp : [.cal] ⊆ ps) : onlyParts ps s { t with cal := x } :=
  only_part .cal h hp fun p hn => by cases p <;> first | rfl | exact absurd rfl hn

theorem only_chn {x : Chn} (h : onlyParts ps s t) (hp : [.chn] ⊆ ps) : onlyParts ps s { t with chn := x } :=
  only_part .chn h hp fun p hn => by cases p <;> first | rfl | exact absurd rfl hn

theorem only_pcm {x : Pcm} (h : onlyParts ps s t) (hp : [.pcm] ⊆ ps) : onlyParts ps s { t with pcm := x } :=
  only_part .pcm h hp fun p hn => by cases p <;> first | rfl | exact absurd rfl hn

theorem only_phs {x : Phs} (h : onlyParts ps s t) (hp : [.phs] ⊆ ps) : onlyParts ps s { t with phs := x } :=
  only_part .phs h hp fun p hn => by cases p <;> first | rfl | exact absurd rfl hn

theorem only_pfl {x : Pfl} (h : onlyParts ps s t) (hp : [.pfl] ⊆ ps) : onlyParts ps s { t with pfl := x } :=
  only_part .pfl h hp fun p hn => by cases p <;> first | rfl | exact absurd rfl hn

theorem only_rmx {x : Rmx} (h : onlyParts ps s t) (hp : [.rmx] ⊆ ps) : onlyParts ps s { t with rmx := x } :=
  only_part .rmx h hp fun p hn => by cases p <;> first | rfl | exact absurd rfl hn

theorem only_dts {x : Dts} (h : onlyParts ps s t) (hp : [.dts] ⊆ ps) : onlyParts ps s { t with dts := x } :=
  only_part .dts h hp fun p hn => by cases p <;> first | rfl | exact absurd rfl hn

theorem only_aar {x : Aar} (h : onlyParts ps s t) (hp : [.aar] ⊆ ps) : onlyParts ps s { t with aar := x } :=
  only_part .aar h hp fun p hn => by cases p <;> first | rfl | exact absurd rfl hn

theorem only_zon {x : Zon} (h : onlyParts ps s t) (hp : [.zon] ⊆ ps) : onlyParts ps s { t with zon := x } :=
  only_part .zon h hp fun p hn => by cases p <;> first | rfl | exact absurd rfl hn

theorem only_gda {x : Guard} (h : onlyParts ps s t) (hp : [.gda] ⊆ ps) : onlyParts ps s { t with gda := x } :=
  only_part .gda h hp fun p hn => by cases p <;> first | rfl | exact absurd rfl hn

theorem only_gdb {x : Guard} (h : onlyParts ps s t) (hp : [.gdb] ⊆ ps) : onlyParts ps s { t with gdb := x } :=
  only_part .gdb h hp fun p hn => by cases p <;> first | rfl | exact absurd rfl hn

theorem only_guards {x : GuardShared} (h : onlyParts ps s t) (hp : [.guards] ⊆ ps) : onlyParts ps s { t with guards := x } :=
  only_part .guards h hp fun p hn => by cases p <;> first | rfl | exact absurd rfl hn

theorem only_rng {x : Rng} (h : onlyParts ps s t) (hp : [.rng] ⊆ ps) : onlyParts ps s { t with rng := x } :=
  only_part .rng h hp fun p hn => by cases p <;> first | rfl | exact absurd rfl hn

theorem only_cmp {x : Cmp} (h : onlyParts ps s t) (hp : [.cmp] ⊆ ps) : onlyParts ps s { t with cmp := x } :=
  only_part .cmp h hp fun p hn => by cases p <;> first | rfl | exact absurd rfl hn

theorem only_cvu {x : Cvu} (h : onlyParts ps s t) (hp : [.cvu] ⊆ ps) : onlyParts ps s { t with cvu := x } :=
  only_part .cvu h hp fun p hn => by cases p <;> first | rfl | exact absurd rfl hn

theorem only_dmc {x : Dmc} (h : onlyParts ps s t) (hp : [.dmc] ⊆ ps) : onlyParts ps s { t with dmc := x } :=
  only_part .dmc h hp fun p hn => by cases p <;> first | rfl | exact absurd rfl hn

theorem only_ref {x : Ref} (h : onlyParts ps s t) (hp : [.ref] ⊆ ps) : onlyParts ps s { t with ref := x } :=
  only_part .ref h hp fun p hn => by cases p <;> first | rfl | exact absurd rfl hn

theorem only_tiu {x : Tiu} (h : onlyParts ps s t) (hp : [.tiu] ⊆ ps) : onlyParts ps s { t with tiu := x } :=
  only_part .tiu h hp fun p hn => by cases p <;> first | rfl | exact absurd rfl hn

theorem only_lan {x : Lan} (h : onlyParts ps s t) (hp : [.lan] ⊆ ps) : onlyParts ps s { t with lan := x } :=
  only_part .lan h hp fun p hn => by cases p <;> first | rfl | exact absurd rfl hn

theorem only_eth {x : Eth} (h : onlyParts ps s t) (hp : [.eth] ⊆ ps) : onlyParts ps s { t with eth := x } :=
  only_part .eth h hp fun p hn => by cases p <;> first | rfl | exact absurd rfl hn

theorem only_kpe {x : Kpe} (h : onlyParts ps s t) (hp : [.kpe] ⊆ ps) : onlyParts ps s { t with kpe := x } :=
  only_part .kpe h hp fun p hn => by cases p <;> first | rfl | exact absurd rfl hn

theorem only_mgc {x : Mgc} (h : onlyParts ps s t) (hp : [.mgc] ⊆ ps) : onlyParts ps s { t with mgc := x } :=
  only_part .mgc h hp fun p hn => by cases p <;> first | rfl | exact absurd rfl hn

theorem only_sns {x : Sns} (h : onlyParts ps s t) (hp : [.sns] ⊆ ps) : onlyParts ps s { t with sns := x } :=
  only_part .sns h hp fun p hn => by cases p <;> first | rfl | exact absurd rfl hn

theorem only_evr {x : Evr} (h : onlyParts ps s t) (hp : [.evr] ⊆ ps) : onlyParts ps s { t with evr := x } :=
  only_part .evr h hp fun p hn => by cases p <;> first | rfl | exact absurd rfl hn

theorem only_tim {x : Tim} (h : onlyParts ps s t) (hp : [.tim] ⊆ ps) : onlyParts ps s { t with tim := x } :=
  only_part .tim h hp fun p hn => by cases p <;> first | rfl | exact absurd rfl hn

theorem only_upd {x : Upd} (h : onlyParts ps s t) (hp : [.upd] ⊆ ps) : onlyParts ps s { t with upd := x } :=
  only_part .upd h hp fun p hn => by cases p <;> first | rfl | exact absurd rfl hn

theorem only_pwr {x : Pwr} (h : onlyParts ps s t) (hp : [.pwr] ⊆ ps) : onlyParts ps s { t with pwr := x } :=
  only_part .pwr h hp fun p hn => by cases p <;> first | rfl | exact absurd rfl hn

theorem only_fresh {x : Nat} (h : onlyParts ps s t) (hp : [.fresh] ⊆ ps) : onlyParts ps s { t with fresh := x } :=
  only_part .fresh h hp fun p hn => by cases p <;> first | rfl | exact absurd rfl hn

theorem only_mapRef {f : Ref → Ref} (h : onlyParts ps s t) (hp : [.ref] ⊆ ps) :
    onlyParts ps s (State.mapRef t f) := by
  unfold State.mapRef
  with_reducible repeat' first
    | exact h | assumption | exact sub_trans (by decide) hp | apply only_ref

theorem only_mapTim {f : Tim → Tim} (h : onlyParts ps s t) (hp : [.tim] ⊆ ps) :
    onlyParts ps s (State.mapTim t f) := by
  unfold State.mapTim
  with_reducible repeat' first
    | exact h | assumption | exact sub_trans (by decide) hp | apply only_tim

theorem only_mapPsy {f : Psy → Psy} (h : onlyParts ps s t) (hp : [.psy] ⊆ ps) :
    onlyParts ps s (State.mapPsy t f) := by
  unfold State.mapPsy
  with_reducible repeat' first
    | exact h | assumption | exact sub_trans (by decide) hp | apply only_psy

theorem only_mapPcm {f : Pcm → Pcm} (h : onlyParts ps s t) (hp : [.pcm] ⊆ ps) :
    onlyParts ps s (State.mapPcm t f) := by
  unfold State.mapPcm
  with_reducible repeat' first
    | exact h | assumption | exact sub_trans (by decide) hp | apply only_pcm

theorem only_mapCal {f : Cal → Cal} (h : onlyParts ps s t) (hp : [.cal] ⊆ ps) :
    onlyParts ps s (State.mapCal t f) := by
  unfold State.mapCal
  with_reducible repeat' first
    | exact h | assumption | exact sub_trans (by decide) hp | apply only_cal

theorem only_setLive {a : Nat} {v_2 : Word} (h : onlyParts ps s t) (hp : [.regs] ⊆ ps) : onlyParts ps s (State.setLive t a v_2) := by
  unfold State.setLive
  with_reducible repeat' first
    | exact h | assumption | exact sub_trans (by decide) hp | apply only_regs

theorem only_mapOcc {f : Occ → Occ} (h : onlyParts ps s t) (hp : [.occ] ⊆ ps) :
    onlyParts ps s (State.mapOcc t f) := by
  unfold State.mapOcc
  with_reducible repeat' first
    | exact h | assumption | exact sub_trans (by decide) hp | apply only_occ

theorem only_wr {f : Field} {v_2 : Nat} (h : onlyParts ps s t) (hp : [.regs] ⊆ ps) : onlyParts ps s (State.wr t f v_2) := by
  unfold State.wr
  with_reducible repeat' first
    | exact h | assumption | exact sub_trans (by decide) hp | apply only_ite | apply only_setLive

theorem only_bumpBy {f : Field} {n : Nat} (h : onlyParts ps s t) (hp : [.regs] ⊆ ps) : onlyParts ps s (State.bumpBy t f n) := by
  unfold State.bumpBy
  with_reducible repeat' first
    | exact h | assumption | exact sub_trans (by decide) hp | apply only_wr

theorem only_mapPfl {f : Pfl → Pfl} (h : onlyParts ps s t) (hp : [.pfl] ⊆ ps) :
    onlyParts ps s (State.mapPfl t f) := by
  unfold State.mapPfl
  with_reducible repeat' first
    | exact h | assumption | exact sub_trans (by decide) hp | apply only_pfl

theorem only_mapChp {f : Chp → Chp} (h : onlyParts ps s t) (hp : [.chp] ⊆ ps) :
    onlyParts ps s (State.mapChp t f) := by
  unfold State.mapChp
  with_reducible repeat' first
    | exact h | assumption | exact sub_trans (by decide) hp | apply only_chp

theorem only_mapZon {f : Zon → Zon} (h : onlyParts ps s t) (hp : [.zon] ⊆ ps) :
    onlyParts ps s (State.mapZon t f) := by
  unfold State.mapZon
  with_reducible repeat' first
    | exact h | assumption | exact sub_trans (by decide) hp | apply only_zon

theorem only_mapDts {f : Dts → Dts} (h : onlyParts ps s t) (hp : [.dts] ⊆ ps) :
    onlyParts ps s (State.mapDts t f) := by
  unfold State.mapDts
  with_reducible repeat' first
    | exact h | assumption | exact sub_trans (by decide) hp | apply only_dts

theorem only_advance {t_1 : Instant} (h : onlyParts ps s t) (hp : [.now] ⊆ ps) : onlyParts ps s (State.advance t t_1) := by
  unfold State.advance
  with_reducible repeat' first
    | exact h | assumption | exact sub_trans (by decide) hp | apply only_now

theorem only_mapUpd {f : Upd → Upd} (h : onlyParts ps s t) (hp : [.upd] ⊆ ps) :
    onlyParts ps s (State.mapUpd t f) := by
  unfold State.mapUpd
  with_reducible repeat' first
    | exact h | assumption | exact sub_trans (by decide) hp | apply only_upd

theorem only_mapEth {f : Eth → Eth} (h : onlyParts ps s t) (hp : [.eth] ⊆ ps) :
    onlyParts ps s (State.mapEth t f) := by
  unfold State.mapEth
  with_reducible repeat' first
    | exact h | assumption | exact sub_trans (by decide) hp | apply only_eth

theorem only_mapCvu {f : Cvu → Cvu} (h : onlyParts ps s t) (hp : [.cvu] ⊆ ps) :
    onlyParts ps s (State.mapCvu t f) := by
  unfold State.mapCvu
  with_reducible repeat' first
    | exact h | assumption | exact sub_trans (by decide) hp | apply only_cvu

theorem only_mapGda {f : Guard → Guard} (h : onlyParts ps s t) (hp : [.gda] ⊆ ps) :
    onlyParts ps s (State.mapGda t f) := by
  unfold State.mapGda
  with_reducible repeat' first
    | exact h | assumption | exact sub_trans (by decide) hp | apply only_gda

theorem only_mapKpe {f : Kpe → Kpe} (h : onlyParts ps s t) (hp : [.kpe] ⊆ ps) :
    onlyParts ps s (State.mapKpe t f) := by
  unfold State.mapKpe
  with_reducible repeat' first
    | exact h | assumption | exact sub_trans (by decide) hp | apply only_kpe

theorem only_rebaseTime (h : onlyParts ps s t) (hp : [.tim] ⊆ ps) : onlyParts ps s (State.rebaseTime t) := by
  unfold State.rebaseTime
  with_reducible repeat' first
    | exact h | assumption | exact sub_trans (by decide) hp | apply only_tim

theorem only_mapAar {f : Aar → Aar} (h : onlyParts ps s t) (hp : [.aar] ⊆ ps) :
    onlyParts ps s (State.mapAar t f) := by
  unfold State.mapAar
  with_reducible repeat' first
    | exact h | assumption | exact sub_trans (by decide) hp | apply only_aar

theorem only_mapPsq {f : Psq → Psq} (h : onlyParts ps s t) (hp : [.psq] ⊆ ps) :
    onlyParts ps s (State.mapPsq t f) := by
  unfold State.mapPsq
  with_reducible repeat' first
    | exact h | assumption | exact sub_trans (by decide) hp | apply only_psq

theorem only_mapMems {f : Mems → Mems} (h : onlyParts ps s t) (hp : [.mems] ⊆ ps) :
    onlyParts ps s (State.mapMems t f) := by
  unfold State.mapMems
  with_reducible repeat' first
    | exact h | assumption | exact sub_trans (by decide) hp | apply only_mems

theorem only_mapRmx {f : Rmx → Rmx} (h : onlyParts ps s t) (hp : [.rmx] ⊆ ps) :
    onlyParts ps s (State.mapRmx t f) := by
  unfold State.mapRmx
  with_reducible repeat' first
    | exact h | assumption | exact sub_trans (by decide) hp | apply only_rmx

theorem only_mapGdb {f : Guard → Guard} (h : onlyParts ps s t) (hp : [.gdb] ⊆ ps) :
    onlyParts ps s (State.mapGdb t f) := by
  unfold State.mapGdb
  with_reducible repeat' first
    | exact h | assumption | exact sub_trans (by decide) hp | apply only_gdb

theorem only_mapSns {f : Sns → Sns} (h : onlyParts ps s t) (hp : [.sns] ⊆ ps) :
    onlyParts ps s (State.mapSns t f) := by
  unfold State.mapSns
  with_reducible repeat' first
    | exact h | assumption | exact sub_trans (by decide) hp | apply only_sns

theorem only_bump {f : Field} (h : onlyParts ps s t) (hp : [.regs] ⊆ ps) : onlyParts ps s (State.bump t f) := by
  unfold State.bump
  with_reducible repeat' first
    | exact h | assumption | exact sub_trans (by decide) hp | apply only_bumpBy

theorem only_mapMgc {f : Mgc → Mgc} (h : onlyParts ps s t) (hp : [.mgc] ⊆ ps) :
    onlyParts ps s (State.mapMgc t f) := by
  unfold State.mapMgc
  with_reducible repeat' first
    | exact h | assumption | exact sub_trans (by decide) hp | apply only_mgc

theorem only_mapSrc {f : Src → Src} (h : onlyParts ps s t) (hp : [.src] ⊆ ps) :
    onlyParts ps s (State.mapSrc t f) := by
  unfold State.mapSrc
  with_reducible repeat' first
    | exact h | assumption | exact sub_trans (by decide) hp | apply only_src

theorem only_mapDmc {f : Dmc → Dmc} (h : onlyParts ps s t) (hp : [.dmc] ⊆ ps) :
    onlyParts ps s (State.mapDmc t f) := by
  unfold State.mapDmc
  with_reducible repeat' first
    | exact h | assumption | exact sub_trans (by decide) hp | apply only_dmc

theorem only_answer {v_1 : Word} (h : onlyParts ps s t) (hp : [.bus] ⊆ ps) : onlyParts ps s (State.answer t v_1) := by
  unfold State.answer
  with_reducible repeat' first
    | exact h | assumption | exact sub_trans (by decide) hp | apply only_bus

theorem only_mapRng {f : Rng → Rng} (h : onlyParts ps s t) (hp : [.rng] ⊆ ps) :
    onlyParts ps s (State.mapRng t f) := by
  unfold State.mapRng
  with_reducible repeat' first
    | exact h | assumption | exact sub_trans (by decide) hp | apply only_rng

theorem only_mapCrx {f : Crx → Crx} (h : onlyParts ps s t) (hp : [.crx] ⊆ ps) :
    onlyParts ps s (State.mapCrx t f) := by
  unfold State.mapCrx
  with_reducible repeat' first
    | exact h | assumption | exact sub_trans (by decide) hp | apply only_crx

theorem only_done (h : onlyParts ps s t) (hp : [.bus] ⊆ ps) : onlyParts ps s (State.done t) := by
  unfold State.done
  with_reducible repeat' first
    | exact h | assumption | exact sub_trans (by decide) hp | apply only_answer

theorem only_setStage {a : Nat} {v_2 : Word} (h : onlyParts ps s t) (hp : [.regs] ⊆ ps) :
    onlyParts ps s (State.setStage t a v_2) := by
  unfold State.setStage
  with_reducible repeat' first
    | exact h | assumption | exact sub_trans (by decide) hp | apply only_regs

theorem only_mapGuards {f : GuardShared → GuardShared} (h : onlyParts ps s t) (hp : [.guards] ⊆ ps) :
    onlyParts ps s (State.mapGuards t f) := by
  unfold State.mapGuards
  with_reducible repeat' first
    | exact h | assumption | exact sub_trans (by decide) hp | apply only_guards

theorem only_mapEvr {f : Evr → Evr} (h : onlyParts ps s t) (hp : [.evr] ⊆ ps) :
    onlyParts ps s (State.mapEvr t f) := by
  unfold State.mapEvr
  with_reducible repeat' first
    | exact h | assumption | exact sub_trans (by decide) hp | apply only_evr

theorem only_mapPwr {f : Pwr → Pwr} (h : onlyParts ps s t) (hp : [.pwr] ⊆ ps) :
    onlyParts ps s (State.mapPwr t f) := by
  unfold State.mapPwr
  with_reducible repeat' first
    | exact h | assumption | exact sub_trans (by decide) hp | apply only_pwr

theorem only_mapChn {f : Chn → Chn} (h : onlyParts ps s t) (hp : [.chn] ⊆ ps) :
    onlyParts ps s (State.mapChn t f) := by
  unfold State.mapChn
  with_reducible repeat' first
    | exact h | assumption | exact sub_trans (by decide) hp | apply only_chn

theorem only_busErr (h : onlyParts ps s t) (hp : [.regs, .bus] ⊆ ps) : onlyParts ps s (State.busErr t) := by
  unfold State.busErr
  with_reducible repeat' first
    | exact h | assumption | exact sub_trans (by decide) hp | apply only_bump | apply only_bus

theorem only_mapPhs {f : Phs → Phs} (h : onlyParts ps s t) (hp : [.phs] ⊆ ps) :
    onlyParts ps s (State.mapPhs t f) := by
  unfold State.mapPhs
  with_reducible repeat' first
    | exact h | assumption | exact sub_trans (by decide) hp | apply only_phs

theorem only_mapCmp {f : Cmp → Cmp} (h : onlyParts ps s t) (hp : [.cmp] ⊆ ps) :
    onlyParts ps s (State.mapCmp t f) := by
  unfold State.mapCmp
  with_reducible repeat' first
    | exact h | assumption | exact sub_trans (by decide) hp | apply only_cmp

theorem only_mapRegs {f : Regs → Regs} (h : onlyParts ps s t) (hp : [.regs] ⊆ ps) :
    onlyParts ps s (State.mapRegs t f) := by
  unfold State.mapRegs
  with_reducible repeat' first
    | exact h | assumption | exact sub_trans (by decide) hp | apply only_regs

theorem only_mapTiu {f : Tiu → Tiu} (h : onlyParts ps s t) (hp : [.tiu] ⊆ ps) :
    onlyParts ps s (State.mapTiu t f) := by
  unfold State.mapTiu
  with_reducible repeat' first
    | exact h | assumption | exact sub_trans (by decide) hp | apply only_tiu

theorem only_mapLan {f : Lan → Lan} (h : onlyParts ps s t) (hp : [.lan] ⊆ ps) :
    onlyParts ps s (State.mapLan t f) := by
  unfold State.mapLan
  with_reducible repeat' first
    | exact h | assumption | exact sub_trans (by decide) hp | apply only_lan

theorem only_event {fs : List Field} (h : onlyParts ps s t) (hp : [.regs] ⊆ ps) : onlyParts ps s (State.event t fs) := by
  unfold State.event
  with_reducible repeat' first
    | exact h | assumption | exact sub_trans (by decide) hp | apply only_ite | apply only_setLive | intro _ | split

theorem only_setCauses {a : Nat} {m : Word} (h : onlyParts ps s t) (hp : [.regs] ⊆ ps) : onlyParts ps s (State.setCauses t a m) := by
  unfold State.setCauses
  with_reducible repeat' first
    | exact h | assumption | exact sub_trans (by decide) hp | apply only_regs

theorem only_eventStands {fs : List Field} (h : onlyParts ps s t) (hp : [.regs] ⊆ ps) : onlyParts ps s (State.eventStands t fs) := by
  unfold State.eventStands
  with_reducible repeat' first
    | exact h | assumption | exact sub_trans (by decide) hp | apply only_setLive | apply only_setCauses | intro _ | split

theorem only_statusWrite {a : Nat} {v_2 : Word} (h : onlyParts ps s t) (hp : [.regs] ⊆ ps) :
    onlyParts ps s (State.statusWrite t a v_2) := by
  unfold State.statusWrite
  with_reducible repeat' first
    | exact h | assumption | exact sub_trans (by decide) hp | apply only_ite | apply only_bump | apply only_setLive

theorem only_dropStaleFlags (h : onlyParts ps s t) (hp : [.regs] ⊆ ps) : onlyParts ps s (State.dropStaleFlags t) := by
  unfold State.dropStaleFlags
  with_reducible repeat' first
    | exact h | assumption | exact sub_trans (by decide) hp | apply only_setLive | refine only_foldl ?_ (fun _ _ _ => ?_)

theorem only_causeGone {fs : List Field} (h : onlyParts ps s t) (hp : [.regs] ⊆ ps) : onlyParts ps s (State.causeGone t fs) := by
  unfold State.causeGone
  with_reducible repeat' first
    | exact h | assumption | exact sub_trans (by decide) hp | apply only_ite | apply only_setLive | apply only_setCauses | intro _ | split

theorem only_beginErase (h : onlyParts ps s t) (hp : [.evr] ⊆ ps) : onlyParts ps s (State.beginErase t) := by
  unfold State.beginErase
  with_reducible repeat' first
    | exact h | assumption | exact sub_trans (by decide) hp | apply only_mapEvr

theorem only_startPage (h : onlyParts ps s t) (hp : [.regs, .evr] ⊆ ps) : onlyParts ps s (State.startPage t) := by
  unfold State.startPage
  with_reducible repeat' first
    | exact h | assumption | exact sub_trans (by decide) hp | apply only_ite | apply only_eventStands | apply only_mapEvr
    | apply only_causeGone

theorem only_setLastWords {r : EvRec} (h : onlyParts ps s t) (hp : [.regs] ⊆ ps) :
    onlyParts ps s (State.setLastWords t r) := by
  unfold State.setLastWords
  with_reducible repeat' first
    | exact h | assumption | exact sub_trans (by decide) hp | apply only_wr

theorem only_enterRecord {kind : Nat} {code : Nat} {detail : Nat} {esc : Bool} (h : onlyParts ps s t) (hp : [.regs, .evr] ⊆ ps) :
    onlyParts ps s (State.enterRecord t kind code detail esc) := by
  unfold State.enterRecord
  with_reducible repeat' first
    | exact h | assumption | exact sub_trans (by decide) hp | apply only_ite | apply only_bump | apply only_wr | apply only_eventStands
    | apply only_setLastWords | apply only_mapEvr

theorem only_form {kind : Nat} {code : Nat} {detail : Nat} {esc : Bool} (h : onlyParts ps s t) (hp : [.regs, .evr] ⊆ ps) :
    onlyParts ps s (State.form t kind code detail esc) := by
  unfold State.form
  with_reducible repeat' first
    | exact h | assumption | exact sub_trans (by decide) hp | apply only_startPage | apply only_enterRecord

theorem only_rollSecond (h : onlyParts ps s t) (hp : [.evr] ⊆ ps) : onlyParts ps s (State.rollSecond t) := by
  unfold State.rollSecond
  with_reducible repeat' first
    | exact h | assumption | exact sub_trans (by decide) hp | apply only_ite | apply only_mapEvr

theorem only_record {kind : Nat} {code : Nat} {detail : Nat} {zone : Nat} {esc : Bool} (h : onlyParts ps s t) (hp : [.regs, .evr] ⊆ ps) :
    onlyParts ps s (State.record t kind code detail zone esc) := by
  unfold State.record
  with_reducible repeat' first
    | exact h | assumption | exact sub_trans (by decide) hp | apply only_ite | apply only_bump | apply only_form | apply only_rollSecond
    | apply only_event | apply only_evr

theorem only_eraseCmd (h : onlyParts ps s t) (hp : [.evr] ⊆ ps) : onlyParts ps s (State.eraseCmd t) := by
  unfold State.eraseCmd
  with_reducible repeat' first
    | exact h | assumption | exact sub_trans (by decide) hp | apply only_ite | apply only_beginErase | apply only_mapEvr

theorem only_flushAll (h : onlyParts ps s t) (hp : [.regs, .evr] ⊆ ps) : onlyParts ps s (State.flushAll t) := by
  unfold State.flushAll
  with_reducible repeat' first
    | exact h | assumption | exact sub_trans (by decide) hp | apply only_mapEvr | apply only_startPage

theorem only_sealLog {addr : Nat} {kind : Nat} (h : onlyParts ps s t) (hp : [.regs, .evr] ⊆ ps) :
    onlyParts ps s (State.sealLog t addr kind) := by
  unfold State.sealLog
  with_reducible repeat' first
    | exact h | assumption | exact sub_trans (by decide) hp | apply only_record | apply only_eventStands | apply only_mapEvr

theorem only_pageDone {recs : List EvRec} (h : onlyParts ps s t) (hp : [.regs, .evr] ⊆ ps) :
    onlyParts ps s (State.pageDone t recs) := by
  unfold State.pageDone
  with_reducible repeat' first
    | exact h | assumption | exact sub_trans (by decide) hp | apply only_ite | apply only_bump | apply only_eventStands
    | apply only_beginErase | apply only_mapEvr | apply only_startPage | apply only_causeGone

theorem only_mapSess {n : Nat} {f : Session → Session} (h : onlyParts ps s t) (hp : [.kpe] ⊆ ps) :
    onlyParts ps s (State.mapSess t n f) := by
  unfold State.mapSess
  with_reducible repeat' first
    | exact h | assumption | exact sub_trans (by decide) hp | apply only_mapKpe

theorem only_notifyOne {n : Nat} {code : Nat} {detail : List Nat} (h : onlyParts ps s t) (hp : [.kpe] ⊆ ps) :
    onlyParts ps s (State.notifyOne t n code detail) := by
  unfold State.notifyOne
  with_reducible repeat' first
    | exact h | assumption | exact sub_trans (by decide) hp | apply only_ite | apply only_mapSess

theorem only_notify {code : Nat} {detail : List Nat} (h : onlyParts ps s t) (hp : [.kpe] ⊆ ps) :
    onlyParts ps s (State.notify t code detail) := by
  unfold State.notify
  with_reducible repeat' first
    | exact h | assumption | exact sub_trans (by decide) hp | apply only_ite | apply only_notifyOne | refine only_foldl ?_ (fun _ _ _ => ?_)

theorem only_queueCtl {n : Nat} {p : CtlPayload} (h : onlyParts ps s t) (hp : [.kpe] ⊆ ps) :
    onlyParts ps s (State.queueCtl t n p) := by
  unfold State.queueCtl
  with_reducible repeat' first
    | exact h | assumption | exact sub_trans (by decide) hp | apply only_ite | apply only_mapSess

theorem only_mapGuard {g : GuardId} {f : Guard → Guard} (h : onlyParts ps s t) (hp : [.gda, .gdb] ⊆ ps) :
    onlyParts ps s (State.mapGuard t g f) := by
  unfold State.mapGuard
  with_reducible repeat' first
    | exact h | assumption | exact sub_trans (by decide) hp | apply only_mapGdb | apply only_mapGda | intro _ | split

theorem only_cancelLearn {g : GuardId} (h : onlyParts ps s t) (hp : [.regs, .gda, .gdb] ⊆ ps) :
    onlyParts ps s (State.cancelLearn t g) := by
  unfold State.cancelLearn
  with_reducible repeat' first
    | exact h | assumption | exact sub_trans (by decide) hp | apply only_mapGuard | apply only_event | intro _ | split

theorem only_stopDarkStages (h : onlyParts ps s t) (hp : [.src] ⊆ ps) : onlyParts ps s (State.stopDarkStages t) := by
  unfold State.stopDarkStages
  with_reducible repeat' first
    | exact h | assumption | exact sub_trans (by decide) hp | apply only_ite | apply only_mapSrc | refine only_foldl ?_ (fun _ _ _ => ?_)

theorem only_darken (h : onlyParts ps s t) (hp : [.psq] ⊆ ps) : onlyParts ps s (State.darken t) := by
  unfold State.darken
  with_reducible repeat' first
    | exact h | assumption | exact sub_trans (by decide) hp | apply only_ite | apply only_mapPsq

theorem only_followEnables (h : onlyParts ps s t) (hp : [.psq, .src, .cal, .phs, .rmx, .guards] ⊆ ps) :
    onlyParts ps s (State.followEnables t) := by
  unfold State.followEnables
  with_reducible repeat' first
    | exact h | assumption | exact sub_trans (by decide) hp | apply only_ite | apply only_stopDarkStages | apply only_darken
    | apply only_mapCal | apply only_mapPhs | apply only_mapPsq | apply only_mapGuards | apply only_mapRmx

theorem only_guardEnter {g : GuardId} {st : GuardState} {c : TripCause} (h : onlyParts ps s t) (hp : [.regs, .psq, .src, .cal, .phs, .rmx, .gda, .gdb, .guards, .kpe, .evr] ⊆ ps) :
    onlyParts ps s (State.guardEnter t g st c) := by
  unfold State.guardEnter
  with_reducible repeat' first
    | exact h | assumption | exact sub_trans (by decide) hp | apply only_ite | apply only_notify | apply only_bump | apply only_cancelLearn
    | apply only_record | apply only_mapGuard | apply only_followEnables | apply only_event

theorem only_guardsEnterService (h : onlyParts ps s t) (hp : [.regs, .psq, .src, .cal, .phs, .rmx, .gda, .gdb, .guards, .kpe, .evr] ⊆ ps) :
    onlyParts ps s (State.guardsEnterService t) := by
  unfold State.guardsEnterService
  with_reducible repeat' first
    | exact h | assumption | exact sub_trans (by decide) hp | apply only_ite | apply only_guardEnter
    | refine only_foldl ?_ (fun _ _ _ => ?_)

theorem only_closeBlock {halted : Bool} {retuned : Bool} {old : Bool} {last : Nat} {deadline : Nat} (h : onlyParts ps s t) (hp : [.dts] ⊆ ps) :
    onlyParts ps s (State.closeBlock t halted retuned old last deadline) := by
  unfold State.closeBlock
  with_reducible repeat' first
    | exact h | assumption | exact sub_trans (by decide) hp | apply only_ite | apply only_mapDts

theorem only_haltBlock (h : onlyParts ps s t) (hp : [.dts] ⊆ ps) : onlyParts ps s (State.haltBlock t) := by
  unfold State.haltBlock
  with_reducible repeat' first
    | exact h | assumption | exact sub_trans (by decide) hp | apply only_ite | apply only_closeBlock | apply only_mapDts

theorem only_endAttempt (h : onlyParts ps s t) (hp : [.psq, .guards] ⊆ ps) : onlyParts ps s (State.endAttempt t) := by
  unfold State.endAttempt
  with_reducible repeat' first
    | exact h | assumption | exact sub_trans (by decide) hp | apply only_ite | apply only_mapPsq | apply only_mapGuards

theorem only_guardsIdle (h : onlyParts ps s t) (hp : [.regs, .psq, .src, .cal, .phs, .rmx, .gda, .gdb, .guards, .kpe, .evr] ⊆ ps) :
    onlyParts ps s (State.guardsIdle t) := by
  unfold State.guardsIdle
  with_reducible repeat' first
    | exact h | assumption | exact sub_trans (by decide) hp | apply only_ite | apply only_guardEnter | apply only_endAttempt
    | refine only_foldl ?_ (fun _ _ _ => ?_)

theorem only_trip {g : GuardId} {c : TripCause} (h : onlyParts ps s t) (hp : [.regs, .psq, .src, .cal, .phs, .rmx, .gda, .gdb, .guards, .kpe, .evr] ⊆ ps) :
    onlyParts ps s (State.trip t g c) := by
  unfold State.trip
  with_reducible repeat' first
    | exact h | assumption | exact sub_trans (by decide) hp | apply only_ite | apply only_bump | apply only_guardEnter
    | apply only_endAttempt | apply only_event | intro _ | split

theorem only_failAttempt (h : onlyParts ps s t) (hp : [.regs, .psq, .src, .cal, .phs, .rmx, .gda, .gdb, .guards, .kpe, .evr] ⊆ ps) :
    onlyParts ps s (State.failAttempt t) := by
  unfold State.failAttempt
  with_reducible repeat' first
    | exact h | assumption | exact sub_trans (by decide) hp | apply only_endAttempt | apply only_trip

theorem only_tripBoth {c : TripCause} (h : onlyParts ps s t) (hp : [.regs, .psq, .src, .cal, .phs, .rmx, .gda, .gdb, .guards, .kpe, .evr] ⊆ ps) :
    onlyParts ps s (State.tripBoth t c) := by
  unfold State.tripBoth
  with_reducible repeat' first
    | exact h | assumption | exact sub_trans (by decide) hp | apply only_trip

theorem only_cancelApply (h : onlyParts ps s t) (hp : [.regs, .chp] ⊆ ps) : onlyParts ps s (State.cancelApply t) := by
  unfold State.cancelApply
  with_reducible repeat' first
    | exact h | assumption | exact sub_trans (by decide) hp | apply only_ite | apply only_mapChp | apply only_event

theorem only_haltTab {c : HaltCause} {mid : Bool} (h : onlyParts ps s t) (hp : [.regs, .psq, .pfl, .dts, .guards] ⊆ ps) :
    onlyParts ps s (State.haltTab t c mid) := by
  unfold State.haltTab
  with_reducible repeat' first
    | exact h | assumption | exact sub_trans (by decide) hp | apply only_ite | apply only_wr | apply only_mapPsq | apply only_mapGuards
    | apply only_mapPfl | apply only_haltBlock

theorem only_haltNow {c : HaltCause} (h : onlyParts ps s t) (hp : [.regs, .psq, .pfl, .dts, .guards] ⊆ ps) :
    onlyParts ps s (State.haltNow t c) := by
  unfold State.haltNow
  with_reducible repeat' first
    | exact h | assumption | exact sub_trans (by decide) hp | apply only_ite | apply only_mapPsq | apply only_haltTab | intro _ | split

theorem only_enterSafe (h : onlyParts ps s t) (hp : [.regs, .chp, .psq, .src, .cal, .phs, .pfl, .rmx, .dts, .gda, .gdb, .guards, .kpe, .evr] ⊆ ps) :
    onlyParts ps s (State.enterSafe t) := by
  unfold State.enterSafe
  with_reducible repeat' first
    | exact h | assumption | exact sub_trans (by decide) hp | apply only_ite | apply only_notify | apply only_cancelApply
    | apply only_mapChp | apply only_eventStands | apply only_flushAll | apply only_tripBoth | apply only_haltNow

theorem only_escalate {code : Nat} {detail : Nat} (h : onlyParts ps s t) (hp : [.regs, .chp, .psq, .src, .cal, .phs, .pfl, .rmx, .dts, .gda, .gdb, .guards, .kpe, .evr] ⊆ ps) :
    onlyParts ps s (State.escalate t code detail) := by
  unfold State.escalate
  with_reducible repeat' first
    | exact h | assumption | exact sub_trans (by decide) hp | apply only_ite | apply only_bump | apply only_mapChp | apply only_enterSafe
    | apply only_wr | apply only_record | apply only_event

theorem only_haltSweepEnd {c : HaltCause} (h : onlyParts ps s t) (hp : [.psq] ⊆ ps) :
    onlyParts ps s (State.haltSweepEnd t c) := by
  unfold State.haltSweepEnd
  with_reducible repeat' first
    | exact h | assumption | exact sub_trans (by decide) hp | apply only_ite | apply only_mapPsq

theorem only_dramWrite {a : Nat} {bs : List Byte} (h : onlyParts ps s t) (hp : [.mems, .dmc] ⊆ ps) :
    onlyParts ps s (State.dramWrite t a bs) := by
  unfold State.dramWrite
  with_reducible repeat' first
    | exact h | assumption | exact sub_trans (by decide) hp | apply only_mapMems | apply only_dmc

theorem only_loseDram {lo : Nat} {hi : Nat} {sub : Option Nat} (h : onlyParts ps s t) (hp : [.mems, .dmc, .fresh] ⊆ ps) :
    onlyParts ps s (State.loseDram t lo hi sub) := by
  have h1 : onlyParts ps s (t.mapMems (fun m => { m with dram := if sub.isNone then Store.drop m.dram lo hi else m.dram })) :=
    only_mapMems h (sub_trans (by decide) hp)
  unfold State.loseDram
  refine only_fresh (x := t.fresh + 1) (only_dmc (x := { t.dmc with lost := { lo := lo, hi := hi, sub := sub, draw := t.fresh } :: t.dmc.lost }) h1 ?_) ?_ <;>
    exact sub_trans (by decide) hp

theorem only_mapDesc {i : Nat} {f : Desc → Desc} (h : onlyParts ps s t) (hp : [.rng] ⊆ ps) :
    onlyParts ps s (State.mapDesc t i f) := by
  unfold State.mapDesc
  with_reducible repeat' first
    | exact h | assumption | exact sub_trans (by decide) hp | apply only_mapRng

theorem only_closeDesc {i : Nat} {r : CapResult} (h : onlyParts ps s t) (hp : [.regs, .rng, .kpe] ⊆ ps) :
    onlyParts ps s (State.closeDesc t i r) := by
  unfold State.closeDesc
  with_reducible repeat' first
    | exact h | assumption | exact sub_trans (by decide) hp | apply only_mapDesc | apply only_notify | apply only_event

theorem only_handRow {i : Nat} (h : onlyParts ps s t) (hp : [.rng, .kpe] ⊆ ps) : onlyParts ps s (State.handRow t i) := by
  unfold State.handRow
  with_reducible repeat' first
    | exact h | assumption | exact sub_trans (by decide) hp | apply only_ite | apply only_mapDesc | apply only_mapKpe

theorem only_abortDesc {i : Nat} (h : onlyParts ps s t) (hp : [.regs, .rng, .kpe] ⊆ ps) : onlyParts ps s (State.abortDesc t i) := by
  unfold State.abortDesc
  with_reducible repeat' first
    | exact h | assumption | exact sub_trans (by decide) hp | apply only_ite | apply only_mapDesc | apply only_bump | apply only_closeDesc
    | apply only_handRow | refine only_foldl ?_ (fun _ _ _ => ?_)

theorem only_abortStreams {p : Desc → Bool} (h : onlyParts ps s t) (hp : [.regs, .rng, .kpe] ⊆ ps) :
    onlyParts ps s (State.abortStreams t p) := by
  unfold State.abortStreams
  with_reducible repeat' first
    | exact h | assumption | exact sub_trans (by decide) hp | apply only_ite | apply only_abortDesc | refine only_foldl ?_ (fun _ _ _ => ?_)

theorem only_freeDesc {i : Nat} (h : onlyParts ps s t) (hp : [.rng] ⊆ ps) : onlyParts ps s (State.freeDesc t i) := by
  unfold State.freeDesc
  with_reducible repeat' first
    | exact h | assumption | exact sub_trans (by decide) hp | apply only_mapDesc

theorem only_dropGiven {num : Nat} {off : Nat} (h : onlyParts ps s t) (hp : [.cmp, .kpe] ⊆ ps) :
    onlyParts ps s (State.dropGiven t num off) := by
  unfold State.dropGiven
  with_reducible repeat' first
    | exact h | assumption | exact sub_trans (by decide) hp | apply only_ite | apply only_mapKpe | apply only_mapCmp

theorem only_loseDesc {i : Nat} {old : Nat} {r : Nat} (h : onlyParts ps s t) (hp : [.regs, .rng, .cmp, .kpe] ⊆ ps) :
    onlyParts ps s (State.loseDesc t i old r) := by
  unfold State.loseDesc
  with_reducible repeat' first
    | exact h | assumption | exact sub_trans (by decide) hp | apply only_ite | apply only_mapDesc | apply only_dropGiven | apply only_bump
    | apply only_freeDesc | apply only_closeDesc | apply only_event

theorem only_releaseRows {r : Nat} (h : onlyParts ps s t) (hp : [.regs, .rng, .cmp, .kpe] ⊆ ps) : onlyParts ps s (State.releaseRows t r) := by
  unfold State.releaseRows
  with_reducible repeat' first
    | exact h | assumption | exact sub_trans (by decide) hp | apply only_loseDesc | apply only_mapRng
    | refine only_foldl ?_ (fun _ _ _ => ?_)

theorem only_ringFormat (h : onlyParts ps s t) (hp : [.regs, .rng, .cmp, .kpe] ⊆ ps) : onlyParts ps s (State.ringFormat t) := by
  unfold State.ringFormat
  with_reducible repeat' first
    | exact h | assumption | exact sub_trans (by decide) hp | apply only_releaseRows | apply only_mapRng | apply only_event

theorem only_releaseDesc {i : Nat} (h : onlyParts ps s t) (hp : [.rng] ⊆ ps) : onlyParts ps s (State.releaseDesc t i) := by
  unfold State.releaseDesc
  with_reducible repeat' first
    | exact h | assumption | exact sub_trans (by decide) hp | apply only_ite | apply only_freeDesc

theorem only_nextSlot (h : onlyParts ps s t) (hp : [.regs, .rng, .cmp, .kpe] ⊆ ps) : onlyParts ps s (State.nextSlot t) := by
  unfold State.nextSlot
  with_reducible repeat' first
    | exact h | assumption | exact sub_trans (by decide) hp | apply only_ite | apply only_releaseRows | apply only_mapRng | intro _ | split

theorem only_ringSettle (h : onlyParts ps s t) (hp : [.regs, .rng, .cmp, .kpe] ⊆ ps) : onlyParts ps s (State.ringSettle t) := by
  unfold State.ringSettle
  with_reducible repeat' first
    | exact h | assumption | exact sub_trans (by decide) hp | apply only_ite | apply only_ringFormat | intro _ | split

theorem only_mapCtx {i : Nat} {f : CmpContext → CmpContext} (h : onlyParts ps s t) (hp : [.cmp] ⊆ ps) :
    onlyParts ps s (State.mapCtx t i f) := by
  unfold State.mapCtx
  with_reducible repeat' first
    | exact h | assumption | exact sub_trans (by decide) hp | apply only_mapCmp

theorem only_closeCtxBlock {i : Nat} {flush : Bool} {error : Bool} {last : Bool} (h : onlyParts ps s t) (hp : [.cmp] ⊆ ps) :
    onlyParts ps s (State.closeCtxBlock t i flush error last) := by
  unfold State.closeCtxBlock
  with_reducible repeat' first
    | exact h | assumption | exact sub_trans (by decide) hp | apply only_ite | apply only_mapCtx | apply only_mapCmp | intro _ | split
    | dsimp only

theorem only_feedCtx {i : Nat} {row : StreamRow} {xs : List (BitVec 16)} (h : onlyParts ps s t) (hp : [.regs, .cmp] ⊆ ps) :
    onlyParts ps s (State.feedCtx t i row xs) := by
  unfold State.feedCtx
  with_reducible repeat' first
    | exact h | assumption | exact sub_trans (by decide) hp | apply only_ite | apply only_mapCtx | apply only_bumpBy | apply only_mapCmp
    | apply only_closeCtxBlock

theorem only_cmpRestart (h : onlyParts ps s t) (hp : [.cmp] ⊆ ps) : onlyParts ps s (State.cmpRestart t) := by
  unfold State.cmpRestart
  with_reducible repeat' first
    | exact h | assumption | exact sub_trans (by decide) hp | apply only_closeCtxBlock | refine only_foldl ?_ (fun _ _ _ => ?_)

theorem only_endCtx {i : Nat} (h : onlyParts ps s t) (hp : [.cmp] ⊆ ps) : onlyParts ps s (State.endCtx t i) := by
  unfold State.endCtx
  with_reducible repeat' first
    | exact h | assumption | exact sub_trans (by decide) hp | apply only_mapCtx | apply only_closeCtxBlock

theorem only_takeCtx {f : FlowRef} {pred : Nat} {stride : Nat} (h : onlyParts ps s t) (hp : [.regs, .cmp] ⊆ ps) :
    onlyParts ps s (State.takeCtx t f pred stride).1 := by
  unfold State.takeCtx
  with_reducible repeat' first
    | exact h | assumption | exact sub_trans (by decide) hp | apply only_mapCtx | apply only_event | refine only_pair (by assumption) ?_
    | intro _ | split

theorem only_mapMac {m : Nat} {f : EthMac → EthMac} (h : onlyParts ps s t) (hp : [.eth] ⊆ ps) :
    onlyParts ps s (State.mapMac t m f) := by
  unfold State.mapMac
  with_reducible repeat' first
    | exact h | assumption | exact sub_trans (by decide) hp | apply only_mapEth

theorem only_drainMac {m : Nat} {n : Nat} (h : onlyParts ps s t) (hp : [.regs, .eth] ⊆ ps) : onlyParts ps s (State.drainMac t m n) := by
  induction n generalizing t m with
  | zero =>
    unfold State.drainMac
    with_reducible repeat' first
      | exact h
  | succ n ih =>
    unfold State.drainMac
    with_reducible repeat' first
      | exact h | assumption | exact sub_trans (by decide) hp | apply only_ite | apply ih | apply only_bump | apply only_mapMac | intro _
      | split | dsimp only

theorem only_macSend {m : Nat} {f : TxFrame} {ctl : Bool} (h : onlyParts ps s t) (hp : [.regs, .eth] ⊆ ps) :
    onlyParts ps s (State.macSend t m f ctl) := by
  unfold State.macSend
  with_reducible repeat' first
    | exact h | assumption | exact sub_trans (by decide) hp | apply only_ite | apply only_drainMac | apply only_mapMac

theorem only_plQueue {bytes : List Byte} (h : onlyParts ps s t) (hp : [.lan] ⊆ ps) : onlyParts ps s (State.plQueue t bytes) := by
  unfold State.plQueue
  with_reducible repeat' first
    | exact h | assumption | exact sub_trans (by decide) hp | apply only_ite | apply only_mapLan

theorem only_sendOn {p : KpPath} {ctl : Bool} {bytes : List Byte} (h : onlyParts ps s t) (hp : [.regs, .lan, .eth] ⊆ ps) :
    onlyParts ps s (State.sendOn t p ctl bytes) := by
  unfold State.sendOn
  with_reducible repeat' first
    | exact h | assumption | exact sub_trans (by decide) hp | apply only_ite | apply only_bump | apply only_macSend | apply only_plQueue

theorem only_sendCtl {n : Nat} {p : CtlPacket} (h : onlyParts ps s t) (hp : [.regs, .lan, .eth] ⊆ ps) :
    onlyParts ps s (State.sendCtl t n p) := by
  unfold State.sendCtl
  with_reducible repeat' first
    | exact h | assumption | exact sub_trans (by decide) hp | apply only_sendOn | intro _ | split | dsimp only

theorem only_pumpOne {n : Nat} (h : onlyParts ps s t) (hp : [.regs, .lan, .eth, .kpe] ⊆ ps) : onlyParts ps s (State.pumpOne t n) := by
  unfold State.pumpOne
  with_reducible repeat' first
    | exact h | assumption | exact sub_trans (by decide) hp | apply only_ite | apply only_sendCtl | apply only_mapSess | intro _ | split
    | dsimp only

theorem only_mapSub {i : Nat} {f : Subscription → Subscription} (h : onlyParts ps s t) (hp : [.kpe] ⊆ ps) :
    onlyParts ps s (State.mapSub t i f) := by
  unfold State.mapSub
  with_reducible repeat' first
    | exact h | assumption | exact sub_trans (by decide) hp | apply only_mapKpe

theorem only_lost {i : Nat} (h : onlyParts ps s t) (hp : [.kpe] ⊆ ps) : onlyParts ps s (State.lost t i) := by
  unfold State.lost
  with_reducible repeat' first
    | exact h | assumption | exact sub_trans (by decide) hp | apply only_mapSub

theorem only_formPacket {i : Nat} {rows : List StreamRow} {data : List Byte} {extra : Nat} {kflags : Nat} {pos0 : Nat} {npos : Nat} (h : onlyParts ps s t) (hp : [.kpe] ⊆ ps) :
    onlyParts ps s (State.formPacket t i rows data extra kflags pos0 npos) := by
  unfold State.formPacket
  with_reducible repeat' first
    | exact h | assumption | exact sub_trans (by decide) hp | apply only_ite | apply only_mapSub | apply only_mapKpe
    | refine only_foldl ?_ (fun _ _ _ => ?_) | intro _ | split

theorem only_sendStreams {i : Nat} (h : onlyParts ps s t) (hp : [.regs, .lan, .eth, .kpe] ⊆ ps) : onlyParts ps s (State.sendStreams t i) := by
  unfold State.sendStreams
  with_reducible repeat' first
    | exact h | assumption | exact sub_trans (by decide) hp | apply only_ite | apply only_mapKpe | apply only_sendOn
    | refine only_foldl ?_ (fun _ _ _ => ?_) | intro _ | split | dsimp only

theorem only_mapCmd {n : Nat} {tag : Nat} {f : InFlight → InFlight} (h : onlyParts ps s t) (hp : [.kpe] ⊆ ps) :
    onlyParts ps s (State.mapCmd t n tag f) := by
  unfold State.mapCmd
  with_reducible repeat' first
    | exact h | assumption | exact sub_trans (by decide) hp | apply only_ite | apply only_mapSess

theorem only_dropCmd {n : Nat} {tag : Nat} (h : onlyParts ps s t) (hp : [.zon, .rng, .cmp, .kpe] ⊆ ps) :
    onlyParts ps s (State.dropCmd t n tag) := by
  unfold State.dropCmd
  with_reducible repeat' first
    | exact h | assumption | exact sub_trans (by decide) hp | apply only_mapCtx | apply only_mapCmd | apply only_mapRng | apply only_mapZon
    | apply only_mapCmp | apply only_mapSess | intro _ | split

theorem only_sendUnseq {k_1 : KpPath} {type : Nat} {session : Nat} {unit : Nat} {cookie : BitVec 32} {payload : List Byte} (h : onlyParts ps s t) (hp : [.regs, .lan, .eth, .fresh] ⊆ ps) :
    onlyParts ps s (State.sendUnseq t k_1 type session unit cookie payload) := by
  unfold State.sendUnseq
  with_reducible repeat' first
    | exact h | assumption | exact sub_trans (by decide) hp | apply only_sendOn | apply only_fresh

theorem only_endSub {i : Nat} (h : onlyParts ps s t) (hp : [.regs, .rng, .cmp, .kpe] ⊆ ps) : onlyParts ps s (State.endSub t i) := by
  unfold State.endSub
  with_reducible repeat' first
    | exact h | assumption | exact sub_trans (by decide) hp | apply only_ite | apply only_abortStreams | apply only_endCtx
    | apply only_mapKpe | apply only_mapCmp | intro _ | split

theorem only_closeSession {n : Nat} {reason : Nat} (h : onlyParts ps s t) (hp : [.regs, .zon, .rng, .cmp, .lan, .eth, .kpe, .upd, .fresh] ⊆ ps) :
    onlyParts ps s (State.closeSession t n reason) := by
  unfold State.closeSession
  with_reducible repeat' first
    | exact h | assumption | exact sub_trans (by decide) hp | apply only_ite | apply only_abortStreams | apply only_dropCmd
    | apply only_sendUnseq | apply only_endSub | apply only_mapKpe | apply only_mapSess | apply only_mapUpd | apply only_event
    | refine only_foldl ?_ (fun _ _ _ => ?_) | intro _ | split

theorem only_suspend {n : Nat} (h : onlyParts ps s t) (hp : [.regs, .kpe] ⊆ ps) : onlyParts ps s (State.suspend t n) := by
  unfold State.suspend
  with_reducible repeat' first
    | exact h | assumption | exact sub_trans (by decide) hp | apply only_ite | apply only_mapSess | apply only_event

theorem only_resendAll {n : Nat} (h : onlyParts ps s t) (hp : [.regs, .lan, .eth] ⊆ ps) : onlyParts ps s (State.resendAll t n) := by
  unfold State.resendAll
  with_reducible repeat' first
    | exact h | assumption | exact sub_trans (by decide) hp | apply only_bump | apply only_sendCtl | refine only_foldl ?_ (fun _ _ _ => ?_)

theorem only_failover {m : Nat} (h : onlyParts ps s t) (hp : [.regs, .lan, .eth, .kpe] ⊆ ps) : onlyParts ps s (State.failover t m) := by
  unfold State.failover
  with_reducible repeat' first
    | exact h | assumption | exact sub_trans (by decide) hp | apply only_ite | apply only_notifyOne | apply only_suspend
    | apply only_mapSess | apply only_resendAll | apply only_event | refine only_foldl ?_ (fun _ _ _ => ?_) | intro _ | split | dsimp only

theorem only_endCmd {n : Nat} {tag : Nat} {st : Status} {detail : Nat} {result : List Byte} (h : onlyParts ps s t) (hp : [.kpe] ⊆ ps) :
    onlyParts ps s (State.endCmd t n tag st detail result) := by
  unfold State.endCmd
  with_reducible repeat' first
    | exact h | assumption | exact sub_trans (by decide) hp | apply only_mapCmd

theorem only_giveRow {i : Nat} {row : StreamRow} (h : onlyParts ps s t) (hp : [.regs, .cmp, .kpe] ⊆ ps) :
    onlyParts ps s (State.giveRow t i row) := by
  unfold State.giveRow
  with_reducible repeat' first
    | exact h | assumption | exact sub_trans (by decide) hp | apply only_ite | apply only_mapCtx | apply only_feedCtx | apply only_mapSub
    | apply only_lost | apply only_closeCtxBlock | intro _ | split

theorem only_closeAllSessions {reason : Nat} (h : onlyParts ps s t) (hp : [.regs, .zon, .rng, .cmp, .lan, .eth, .kpe, .upd, .fresh] ⊆ ps) :
    onlyParts ps s (State.closeAllSessions t reason) := by
  unfold State.closeAllSessions
  with_reducible repeat' first
    | exact h | assumption | exact sub_trans (by decide) hp | apply only_closeSession | refine only_foldl ?_ (fun _ _ _ => ?_)

theorem only_streamsCease (h : onlyParts ps s t) (hp : [.cmp, .kpe] ⊆ ps) : onlyParts ps s (State.streamsCease t) := by
  unfold State.streamsCease
  with_reducible repeat' first
    | exact h | assumption | exact sub_trans (by decide) hp | apply only_mapKpe | apply only_mapCmp

theorem only_mapCourse {f : Course → Course} (h : onlyParts ps s t) (hp : [.lan] ⊆ ps) :
    onlyParts ps s (State.mapCourse t f) := by
  unfold State.mapCourse
  with_reducible repeat' first
    | exact h | assumption | exact sub_trans (by decide) hp | apply only_mapLan

theorem only_courseTo {st : CourseState} (h : onlyParts ps s t) (hp : [.regs, .lan, .eth, .kpe] ⊆ ps) :
    onlyParts ps s (State.courseTo t st) := by
  unfold State.courseTo
  with_reducible repeat' first
    | exact h | assumption | exact sub_trans (by decide) hp | apply only_ite | apply only_mapCourse | apply only_event | apply only_failover

theorem only_mapLane {n : Nat} {f : LanLane → LanLane} (h : onlyParts ps s t) (hp : [.lan] ⊆ ps) :
    onlyParts ps s (State.mapLane t n f) := by
  unfold State.mapLane
  with_reducible repeat' first
    | exact h | assumption | exact sub_trans (by decide) hp | apply only_mapLan

theorem only_laneTo {n : Nat} {st : LaneState} (h : onlyParts ps s t) (hp : [.lan] ⊆ ps) :
    onlyParts ps s (State.laneTo t n st) := by
  unfold State.laneTo
  with_reducible repeat' first
    | exact h | assumption | exact sub_trans (by decide) hp | apply only_mapLane

theorem only_courseDetect (h : onlyParts ps s t) (hp : [.regs, .lan, .eth, .kpe] ⊆ ps) : onlyParts ps s (State.courseDetect t) := by
  unfold State.courseDetect
  with_reducible repeat' first
    | exact h | assumption | exact sub_trans (by decide) hp | apply only_courseTo | apply only_laneTo
    | refine only_foldl ?_ (fun _ _ _ => ?_)

theorem only_replayAll (h : onlyParts ps s t) (hp : [.lan] ⊆ ps) : onlyParts ps s (State.replayAll t) := by
  unfold State.replayAll
  with_reducible repeat' first
    | exact h | assumption | exact sub_trans (by decide) hp | apply only_mapCourse

theorem only_laneLost {n : Nat} (h : onlyParts ps s t) (hp : [.regs, .lan, .eth, .kpe] ⊆ ps) : onlyParts ps s (State.laneLost t n) := by
  unfold State.laneLost
  with_reducible repeat' first
    | exact h | assumption | exact sub_trans (by decide) hp | apply only_ite | apply only_bump | apply only_courseDetect
    | apply only_mapCourse | apply only_laneTo | apply only_replayAll | apply only_event

theorem only_macDown {m : Nat} (h : onlyParts ps s t) (hp : [.regs, .lan, .eth, .kpe] ⊆ ps) : onlyParts ps s (State.macDown t m) := by
  unfold State.macDown
  with_reducible repeat' first
    | exact h | assumption | exact sub_trans (by decide) hp | apply only_ite | apply only_bump | apply only_bumpBy | apply only_drainMac
    | apply only_mapLan | apply only_mapMac | apply only_event | apply only_failover

theorem only_laneDown {n : Nat} (h : onlyParts ps s t) (hp : [.regs, .lan, .eth, .kpe] ⊆ ps) : onlyParts ps s (State.laneDown t n) := by
  unfold State.laneDown
  with_reducible repeat' first
    | exact h | assumption | exact sub_trans (by decide) hp | apply only_ite | apply only_bump | apply only_laneLost | apply only_macDown
    | apply only_event

theorem only_courseFault (h : onlyParts ps s t) (hp : [.regs, .lan, .eth, .kpe] ⊆ ps) : onlyParts ps s (State.courseFault t) := by
  unfold State.courseFault
  with_reducible repeat' first
    | exact h | assumption | exact sub_trans (by decide) hp | apply only_courseDetect | apply only_mapCourse | apply only_bumpBy

theorem only_courseTrain (h : onlyParts ps s t) (hp : [.regs, .lan, .eth, .kpe] ⊆ ps) : onlyParts ps s (State.courseTrain t) := by
  unfold State.courseTrain
  with_reducible repeat' first
    | exact h | assumption | exact sub_trans (by decide) hp | apply only_ite | apply only_courseTo | apply only_laneTo
    | refine only_foldl ?_ (fun _ _ _ => ?_)

theorem only_courseFollow (h : onlyParts ps s t) (hp : [.regs, .lan, .eth, .kpe] ⊆ ps) : onlyParts ps s (State.courseFollow t) := by
  unfold State.courseFollow
  with_reducible repeat' first
    | exact h | assumption | exact sub_trans (by decide) hp | apply only_ite | apply only_courseDetect | apply only_mapCourse
    | apply only_courseTo | apply only_laneTo | refine only_foldl ?_ (fun _ _ _ => ?_)

theorem only_isolate {b : Block} {u : Option Nat} {deadline : Option Nat} (h : onlyParts ps s t) (hp : [.chp] ⊆ ps) :
    onlyParts ps s (State.isolate t b u deadline) := by
  unfold State.isolate
  with_reducible repeat' first
    | exact h | assumption | exact sub_trans (by decide) hp | apply only_mapChp

theorem only_escalateFault {b : Block} {cause : Nat} {detail : Nat} (h : onlyParts ps s t) (hp : [.regs, .chp, .psq, .src, .cal, .phs, .pfl, .rmx, .dts, .gda, .gdb, .guards, .kpe, .evr] ⊆ ps) :
    onlyParts ps s (State.escalateFault t b cause detail) := by
  unfold State.escalateFault
  with_reducible repeat' first
    | exact h | assumption | exact sub_trans (by decide) hp | apply only_ite | apply only_escalate | apply only_trip | apply only_isolate

theorem only_discardBlock (h : onlyParts ps s t) (hp : [.dts] ⊆ ps) : onlyParts ps s (State.discardBlock t) := by
  unfold State.discardBlock
  with_reducible repeat' first
    | exact h | assumption | exact sub_trans (by decide) hp | apply only_mapDts

theorem only_switchFallback {k_1 : Nat} (h : onlyParts ps s t) (hp : [.regs, .ref] ⊆ ps) : onlyParts ps s (State.switchFallback t k_1) := by
  unfold State.switchFallback
  with_reducible repeat' first
    | exact h | assumption | exact sub_trans (by decide) hp | apply only_ite | apply only_mapRef | apply only_event

theorem only_refRestart (h : onlyParts ps s t) (hp : [.regs, .ref] ⊆ ps) : onlyParts ps s (State.refRestart t) := by
  unfold State.refRestart
  with_reducible repeat' first
    | exact h | assumption | exact sub_trans (by decide) hp | apply only_ite | apply only_mapRef | apply only_switchFallback
    | refine only_foldl ?_ (fun _ _ _ => ?_)

theorem only_restartEffect {b : Block} {u : Option Nat} (h : onlyParts ps s t) (hp : [.regs, .occ, .phs, .dts, .aar, .zon, .rng, .cmp, .cvu, .ref, .tiu, .lan, .eth, .kpe, .sns, .upd, .fresh] ⊆ ps) :
    onlyParts ps s (State.restartEffect t b u) := by
  unfold State.restartEffect
  with_reducible repeat' first
    | exact h | assumption | exact sub_trans (by decide) hp | apply only_ite | apply only_discardBlock | apply only_mapSns
    | apply only_refRestart | apply only_mapTiu | apply only_mapOcc | apply only_mapAar | apply only_macDown | apply only_wr
    | apply only_mapPhs | apply only_closeSession | apply only_mapZon | apply only_cmpRestart | apply only_mapCvu | apply only_mapDts
    | refine only_foldl ?_ (fun _ _ _ => ?_) | intro _ | split

theorem only_blockFault {b : Block} {u : Option Nat} {cause : Nat} {detail : Nat} (h : onlyParts ps s t) (hp : [.regs, .chp, .psq, .src, .occ, .cal, .phs, .pfl, .rmx, .dts, .aar, .zon, .gda, .gdb, .guards, .rng, .cmp, .cvu, .ref, .tiu, .lan, .eth, .kpe, .sns, .evr, .upd, .fresh] ⊆ ps) :
    onlyParts ps s (State.blockFault t b u cause detail) := by
  unfold State.blockFault
  with_reducible repeat' first
    | exact h | assumption | exact sub_trans (by decide) hp | apply only_ite | apply only_restartEffect | apply only_laneDown
    | apply only_mapChp | apply only_record | apply only_isolate | apply only_courseFault | apply only_escalateFault | intro _ | split

theorem only_readyEffect {b : Block} {u : Option Nat} (h : onlyParts ps s t) (hp : [.occ, .phs, .pfl, .aar, .ref] ⊆ ps) :
    onlyParts ps s (State.readyEffect t b u) := by
  unfold State.readyEffect
  with_reducible repeat' first
    | exact h | assumption | exact sub_trans (by decide) hp | apply only_mapRef | apply only_mapOcc | apply only_mapAar | apply only_mapPhs
    | apply only_mapPfl | intro _ | split

theorem only_settleHalt (h : onlyParts ps s t) (hp : [.regs, .psq, .pfl, .dts, .guards] ⊆ ps) : onlyParts ps s (State.settleHalt t) := by
  unfold State.settleHalt
  with_reducible repeat' first
    | exact h | assumption | exact sub_trans (by decide) hp | apply only_ite | apply only_wr | apply only_haltTab | intro _ | split

theorem only_settleEarly {u : Nat} (h : onlyParts ps s t) (hp : [.regs, .tiu] ⊆ ps) : onlyParts ps s (State.settleEarly t u) := by
  unfold State.settleEarly
  with_reducible repeat' first
    | exact h | assumption | exact sub_trans (by decide) hp | apply only_ite | apply only_bump | apply only_mapTiu | apply only_event
    | intro _ | split

theorem only_atT {t_1 : Instant} (h : onlyParts ps s t) (hp : [.now, .regs, .psq, .pfl, .dts, .guards, .tiu, .eth] ⊆ ps) :
    onlyParts ps s (State.atT t t_1) := by
  unfold State.atT
  with_reducible repeat' first
    | exact h | assumption | exact sub_trans (by decide) hp | apply only_ite | apply only_settleHalt | apply only_drainMac
    | apply only_settleEarly | apply only_advance | refine only_foldl ?_ (fun _ _ _ => ?_)

theorem only_poke {b : Block} {u : Option Nat} {f : State → State} (h : onlyParts ps s t) (hp : [.regs, .bus] ⊆ ps) (hf : ∀ a0, onlyParts ps s a0 → onlyParts ps s (f a0)) : onlyParts ps s (State.poke t b u f) := by
  unfold State.poke
  with_reducible repeat' first
    | exact h | assumption | exact sub_trans (by decide) hp | apply only_ite | apply hf | apply only_done | apply only_busErr

theorem only_denyPriv (h : onlyParts ps s t) (hp : [.regs] ⊆ ps) : onlyParts ps s (State.denyPriv t) := by
  unfold State.denyPriv
  with_reducible repeat' first
    | exact h | assumption | exact sub_trans (by decide) hp | apply only_bump | apply only_event

theorem only_denySeal (h : onlyParts ps s t) (hp : [.regs] ⊆ ps) : onlyParts ps s (State.denySeal t) := by
  unfold State.denySeal
  with_reducible repeat' first
    | exact h | assumption | exact sub_trans (by decide) hp | apply only_bump | apply only_event

theorem only_strobe {m : Master} {b : Block} {u : Option Nat} {sealed : Bool} {f : State → State} (h : onlyParts ps s t) (hp : [.regs, .bus] ⊆ ps) (hf : ∀ a0, onlyParts ps s a0 → onlyParts ps s (f a0)) : onlyParts ps s (State.strobe t m b u sealed f) := by
  unfold State.strobe
  with_reducible repeat' first
    | exact h | assumption | exact sub_trans (by decide) hp | apply only_ite | apply hf | apply only_denySeal | apply only_done
    | apply only_denyPriv | apply only_busErr

theorem only_reseat {n : Nat} (h : onlyParts ps s t) (hp : [.regs, .phs] ⊆ ps) : onlyParts ps s (State.reseat t n) := by
  unfold State.reseat
  with_reducible repeat' first
    | exact h | assumption | exact sub_trans (by decide) hp | apply only_ite | apply only_mapPhs | apply only_event

theorem only_markRetuned (h : onlyParts ps s t) (hp : [.kpe] ⊆ ps) : onlyParts ps s (State.markRetuned t) := by
  unfold State.markRetuned
  with_reducible repeat' first
    | exact h | assumption | exact sub_trans (by decide) hp | apply only_mapKpe

theorem only_occStart {k_1 : FrameKind} (h : onlyParts ps s t) (hp : [.occ] ⊆ ps) :
    onlyParts ps s (State.occStart t k_1) := by
  unfold State.occStart
  with_reducible repeat' first
    | exact h | assumption | exact sub_trans (by decide) hp | apply only_ite | apply only_mapOcc

theorem only_tiuSwitch (h : onlyParts ps s t) (hp : [.tiu] ⊆ ps) : onlyParts ps s (State.tiuSwitch t) := by
  unfold State.tiuSwitch
  with_reducible repeat' first
    | exact h | assumption | exact sub_trans (by decide) hp | apply only_ite | apply only_mapTiu

theorem only_aarSwitch {n : Nat} {cores : List Nat} (h : onlyParts ps s t) (hp : [.aar] ⊆ ps) : onlyParts ps s (State.aarSwitch t n cores) := by
  unfold State.aarSwitch
  with_reducible repeat' first
    | exact h | assumption | exact sub_trans (by decide) hp | apply only_ite | apply only_mapAar

theorem only_refSwitch (h : onlyParts ps s t) (hp : [.regs, .ref] ⊆ ps) : onlyParts ps s (State.refSwitch t) := by
  unfold State.refSwitch
  with_reducible repeat' first
    | exact h | assumption | exact sub_trans (by decide) hp | apply only_ite | apply only_mapRef | apply only_wr
    | refine only_foldl ?_ (fun _ _ _ => ?_)

theorem only_dtsSwitch {n : Nat} (h : onlyParts ps s t) (hp : [.dts] ⊆ ps) : onlyParts ps s (State.dtsSwitch t n) := by
  unfold State.dtsSwitch
  with_reducible repeat' first
    | exact h | assumption | exact sub_trans (by decide) hp | apply only_ite | apply only_closeBlock | apply only_mapDts

theorem only_ringSwitch {n : Nat} (h : onlyParts ps s t) (hp : [.rng] ⊆ ps) : onlyParts ps s (State.ringSwitch t n) := by
  unfold State.ringSwitch
  with_reducible repeat' first
    | exact h | assumption | exact sub_trans (by decide) hp | apply only_ite | apply only_mapRng

theorem only_takeStage {n : Nat} (h : onlyParts ps s t) (hp : [.regs, .mems, .chp, .psy, .occ, .crx, .chn, .pfl, .dts, .aar, .zon, .rng, .ref, .tiu, .kpe] ⊆ ps) :
    onlyParts ps s (State.takeStage t n) := by
  unfold State.takeStage
  with_reducible repeat' first
    | exact h | assumption | exact sub_trans (by decide) hp | apply only_ite | apply only_markRetuned | apply only_mapRegs
    | apply only_mapMems | apply only_mapChp | apply only_mapOcc | apply only_occStart | apply only_mapChn | apply only_mapZon
    | apply only_tiuSwitch | apply only_mapPsy | apply only_aarSwitch | apply only_mapPfl | apply only_mapCrx | apply only_refSwitch
    | apply only_dtsSwitch | apply only_ringSwitch

theorem only_switchTuning {n : Nat} (h : onlyParts ps s t) (hp : [.regs, .mems, .chp, .psy, .occ, .crx, .chn, .phs, .pfl, .dts, .aar, .zon, .rng, .ref, .tiu, .kpe] ⊆ ps) :
    onlyParts ps s (State.switchTuning t n) := by
  unfold State.switchTuning
  with_reducible repeat' first
    | exact h | assumption | exact sub_trans (by decide) hp | apply only_reseat | apply only_takeStage

theorem only_retune {n : Nat} {entry : Nat} (h : onlyParts ps s t) (hp : [.regs, .mems, .chp, .psq, .psy, .occ, .crx, .chn, .phs, .pfl, .dts, .aar, .zon, .guards, .rng, .ref, .tiu, .kpe, .evr] ⊆ ps) :
    onlyParts ps s (State.retune t n entry) := by
  unfold State.retune
  with_reducible repeat' first
    | exact h | assumption | exact sub_trans (by decide) hp | apply only_ite | apply only_notify | apply only_bump | apply only_wr
    | apply only_record | apply only_mapPsq | apply only_mapGuards | apply only_switchTuning | apply only_event

theorem only_occRelease (h : onlyParts ps s t) (hp : [.occ] ⊆ ps) : onlyParts ps s (State.occRelease t) := by
  unfold State.occRelease
  with_reducible repeat' first
    | exact h | assumption | exact sub_trans (by decide) hp | apply only_ite | apply only_mapOcc | apply only_occStart

theorem only_retuneIfDue (h : onlyParts ps s t) (hp : [.regs, .mems, .chp, .psq, .psy, .occ, .crx, .chn, .phs, .pfl, .dts, .aar, .zon, .guards, .rng, .ref, .tiu, .kpe, .evr] ⊆ ps) :
    onlyParts ps s (State.retuneIfDue t) := by
  unfold State.retuneIfDue
  with_reducible repeat' first
    | exact h | assumption | exact sub_trans (by decide) hp | apply only_retune | intro _ | split

theorem only_confirm {b : Block} {sweep : Nat} (h : onlyParts ps s t) (hp : [.chp] ⊆ ps) :
    onlyParts ps s (State.confirm t b sweep) := by
  unfold State.confirm
  with_reducible repeat' first
    | exact h | assumption | exact sub_trans (by decide) hp | apply only_ite | apply only_mapChp

theorem only_refuse {code : Nat} (h : onlyParts ps s t) (hp : [.regs] ⊆ ps) : onlyParts ps s (State.refuse t code) := by
  unfold State.refuse
  with_reducible repeat' first
    | exact h | assumption | exact sub_trans (by decide) hp | apply only_wr

theorem only_stageTo {x : StageState} (h : onlyParts ps s t) (hp : [.regs, .chp, .occ, .gda, .gdb] ⊆ ps) :
    onlyParts ps s (State.stageTo t x) := by
  unfold State.stageTo
  with_reducible repeat' first
    | exact h | assumption | exact sub_trans (by decide) hp | apply only_ite | apply only_mapChp | apply only_occRelease
    | apply only_cancelLearn

theorem only_learnSweep (h : onlyParts ps s t) (hp : [.gda, .gdb] ⊆ ps) : onlyParts ps s (State.learnSweep t) := by
  unfold State.learnSweep
  with_reducible repeat' first
    | exact h | assumption | exact sub_trans (by decide) hp | apply only_ite | apply only_mapGuard | refine only_foldl ?_ (fun _ _ _ => ?_)
    | intro _ | split

theorem only_sweepBegins {inst : Nat} (h : onlyParts ps s t) (hp : [.regs, .src, .occ, .phs, .pfl, .zon, .ref] ⊆ ps) :
    onlyParts ps s (State.sweepBegins t inst) := by
  unfold State.sweepBegins
  with_reducible repeat' first
    | exact h | assumption | exact sub_trans (by decide) hp | apply only_ite | apply only_mapSrc | apply only_mapRef | apply only_mapOcc
    | apply only_occStart | apply only_wr | apply only_mapPhs | apply only_mapZon | apply only_mapPfl | apply only_event | intro _ | split

theorem only_clipToNow (h : onlyParts ps s t) (hp : [.regs, .psy] ⊆ ps) : onlyParts ps s (State.clipToNow t) := by
  unfold State.clipToNow
  with_reducible repeat' first
    | exact h | assumption | exact sub_trans (by decide) hp | apply only_ite | apply only_bump | apply only_mapPsy | apply only_event
    | refine only_foldl ?_ (fun _ _ _ => ?_)

theorem only_tuneIfDue (h : onlyParts ps s t) (hp : [.regs, .mems, .chp, .psq, .psy, .occ, .crx, .chn, .phs, .pfl, .dts, .aar, .zon, .guards, .rng, .ref, .tiu, .kpe, .evr] ⊆ ps) :
    onlyParts ps s (State.tuneIfDue t) := by
  unfold State.tuneIfDue
  with_reducible repeat' first
    | exact h | assumption | exact sub_trans (by decide) hp | apply only_ite | apply only_retuneIfDue | apply only_clipToNow

theorem only_takeBoundary {w : SwbWait} {inst : Nat} (h : onlyParts ps s t) (hp : [.regs, .chp, .psq, .src, .occ, .phs, .pfl, .dts, .zon, .gda, .gdb, .guards, .ref] ⊆ ps) :
    onlyParts ps s (State.takeBoundary t w inst) := by
  unfold State.takeBoundary
  with_reducible repeat' first
    | exact h | assumption | exact sub_trans (by decide) hp | apply only_ite | apply only_mapChp | apply only_wr | apply only_mapPsq
    | apply only_sweepBegins | apply only_mapGuards | apply only_learnSweep | apply only_haltTab | intro _ | split | dsimp only

theorem only_openLook {slot : Nat} {shape : Nat} {sub : Nat} (h : onlyParts ps s t) (hp : [.regs, .psq] ⊆ ps) :
    onlyParts ps s (State.openLook t slot shape sub) := by
  unfold State.openLook
  with_reducible repeat' first
    | exact h | assumption | exact sub_trans (by decide) hp | apply only_ite | apply only_bump | apply only_mapPsq | apply only_event

theorem only_tabStep {fits : Bool} {w : Nat} {f : State → State} (h : onlyParts ps s t) (hp : [.now, .regs, .mems, .chp, .psq, .psy, .occ, .crx, .chn, .phs, .pfl, .dts, .aar, .zon, .guards, .rng, .ref, .tiu, .eth, .kpe, .evr] ⊆ ps) (hf : ∀ a0, onlyParts ps s a0 → onlyParts ps s (f a0)) : onlyParts ps s (State.tabStep t fits w f) := by
  unfold State.tabStep
  with_reducible repeat' first
    | exact h | assumption | exact sub_trans (by decide) hp | apply only_ite | apply hf | apply only_tuneIfDue | apply only_atT | intro _
    | split

theorem only_firePluck {k_1 : Pluck} (h : onlyParts ps s t) (hp : [.regs, .psq] ⊆ ps) :
    onlyParts ps s (State.firePluck t k_1) := by
  unfold State.firePluck
  with_reducible repeat' first
    | exact h | assumption | exact sub_trans (by decide) hp | apply only_bump | apply only_mapPsq

theorem only_tabNext {n : Nat} (h : onlyParts ps s t) (hp : [.psq] ⊆ ps) : onlyParts ps s (State.tabNext t n) := by
  unfold State.tabNext
  with_reducible repeat' first
    | exact h | assumption | exact sub_trans (by decide) hp | apply only_mapPsq

theorem only_tabBranch {a : Nat} (h : onlyParts ps s t) (hp : [.psq] ⊆ ps) : onlyParts ps s (State.tabBranch t a) := by
  unfold State.tabBranch
  with_reducible repeat' first
    | exact h | assumption | exact sub_trans (by decide) hp | apply only_mapPsq

theorem only_beginPluck {slot : Nat} {shape : Nat} {scale : Nat} {restart : Bool} (h : onlyParts ps s t) (hp : [.psq] ⊆ ps) :
    onlyParts ps s (State.beginPluck t slot shape scale restart) := by
  unfold State.beginPluck
  with_reducible repeat' first
    | exact h | assumption | exact sub_trans (by decide) hp | apply only_mapPsq

theorem only_mapStg {k_1 : Nat} {f : SrcStage → SrcStage} (h : onlyParts ps s t) (hp : [.src] ⊆ ps) :
    onlyParts ps s (State.mapStg t k_1 f) := by
  unfold State.mapStg
  with_reducible repeat' first
    | exact h | assumption | exact sub_trans (by decide) hp | apply only_mapSrc

theorem only_noteApd (h : onlyParts ps s t) (hp : [.rmx] ⊆ ps) : onlyParts ps s (State.noteApd t) := by
  unfold State.noteApd
  with_reducible repeat' first
    | exact h | assumption | exact sub_trans (by decide) hp | apply only_ite | apply only_mapRmx

theorem only_stageFault {k_1 : Nat} {f : StageFault} (h : onlyParts ps s t) (hp : [.regs, .psq, .src, .cal, .phs, .rmx, .gda, .gdb, .guards, .kpe, .evr] ⊆ ps) :
    onlyParts ps s (State.stageFault t k_1 f) := by
  unfold State.stageFault
  with_reducible repeat' first
    | exact h | assumption | exact sub_trans (by decide) hp | apply only_ite | apply only_bump | apply only_noteApd | apply only_trip
    | apply only_mapStg | apply only_event

theorem only_windowEnds {k_1 : Nat} (h : onlyParts ps s t) (hp : [.regs, .src, .rmx] ⊆ ps) : onlyParts ps s (State.windowEnds t k_1) := by
  unfold State.windowEnds
  with_reducible repeat' first
    | exact h | assumption | exact sub_trans (by decide) hp | apply only_ite | apply only_noteApd | apply only_wr | apply only_mapStg
    | apply only_mapRmx | apply only_event

theorem only_carrierPeriod {k_1 : Nat} {sense : Nat} {at_ : Nat} (h : onlyParts ps s t) (hp : [.regs, .src, .rmx] ⊆ ps) :
    onlyParts ps s (State.carrierPeriod t k_1 sense at_) := by
  unfold State.carrierPeriod
  with_reducible repeat' first
    | exact h | assumption | exact sub_trans (by decide) hp | apply only_ite | apply only_bump | apply only_windowEnds | apply only_mapStg

theorem only_clearFault {k_1 : Nat} (h : onlyParts ps s t) (hp : [.src] ⊆ ps) : onlyParts ps s (State.clearFault t k_1) := by
  unfold State.clearFault
  with_reducible repeat' first
    | exact h | assumption | exact sub_trans (by decide) hp | apply only_ite | apply only_mapStg

theorem only_derate {c : Nat} {lin : Option Int} (h : onlyParts ps s t) (hp : [.regs, .src] ⊆ ps) : onlyParts ps s (State.derate t c lin) := by
  unfold State.derate
  with_reducible repeat' first
    | exact h | assumption | exact sub_trans (by decide) hp | apply only_ite | apply only_mapSrc | apply only_wr | apply only_eventStands
    | apply only_causeGone

theorem only_occLive (h : onlyParts ps s t) (hp : [.regs, .occ] ⊆ ps) : onlyParts ps s (State.occLive t) := by
  unfold State.occLive
  with_reducible repeat' first
    | exact h | assumption | exact sub_trans (by decide) hp | apply only_ite | apply only_mapOcc | apply only_occStart | apply only_event

theorem only_liveValue {w : Nat} {v_2 : Word} (h : onlyParts ps s t) (hp : [.regs, .occ] ⊆ ps) :
    onlyParts ps s (State.liveValue t w v_2) := by
  unfold State.liveValue
  with_reducible repeat' first
    | exact h | assumption | exact sub_trans (by decide) hp | apply only_ite | apply only_wr | apply only_occLive

theorem only_occReturned {xs : List (BitVec 16)} (h : onlyParts ps s t) (hp : [.regs] ⊆ ps) : onlyParts ps s (State.occReturned t xs) := by
  unfold State.occReturned
  with_reducible repeat' first
    | exact h | assumption | exact sub_trans (by decide) hp | apply only_wr | refine only_foldl ?_ (fun _ _ _ => ?_)

theorem only_setGain {p : Pol} {g : Nat} (h : onlyParts ps s t) (hp : [.regs, .crx] ⊆ ps) : onlyParts ps s (State.setGain t p g) := by
  unfold State.setGain
  with_reducible repeat' first
    | exact h | assumption | exact sub_trans (by decide) hp | apply only_ite | apply only_wr | apply only_mapCrx

theorem only_calFactor {addr : Nat} {v_2 : Word} (h : onlyParts ps s t) (hp : [.regs, .cal] ⊆ ps) :
    onlyParts ps s (State.calFactor t addr v_2) := by
  unfold State.calFactor
  with_reducible repeat' first
    | exact h | assumption | exact sub_trans (by decide) hp | apply only_ite | apply only_setLive | apply only_mapCal | intro _ | split

theorem only_calUpdate {c : Nat} {off : List Int} {gain : List Int} {skew : List Int} (h : onlyParts ps s t) (hp : [.regs] ⊆ ps) :
    onlyParts ps s (State.calUpdate t c off gain skew) := by
  unfold State.calUpdate
  with_reducible repeat' first
    | exact h | assumption | exact sub_trans (by decide) hp | apply only_bump | apply only_wr | refine only_foldl ?_ (fun _ _ _ => ?_)

theorem only_skewCalCmd (h : onlyParts ps s t) (hp : [.regs, .cal] ⊆ ps) : onlyParts ps s (State.skewCalCmd t) := by
  unfold State.skewCalCmd
  with_reducible repeat' first
    | exact h | assumption | exact sub_trans (by decide) hp | apply only_ite | apply only_mapCal | apply only_event

theorem only_phsDone {x : SlotSample} {g : Nat} {ph : BitVec 16} (h : onlyParts ps s t) (hp : [.pcm, .phs] ⊆ ps) :
    onlyParts ps s (State.phsDone t x g ph) := by
  unfold State.phsDone
  with_reducible repeat' first
    | exact h | assumption | exact sub_trans (by decide) hp | apply only_ite | apply only_mapPhs | apply only_mapPcm

theorem only_phsProbe {p : Nat} {k_2 : Nat} {sl : SlotState} (h : onlyParts ps s t) (hp : [.regs] ⊆ ps) :
    onlyParts ps s (State.phsProbe t p k_2 sl) := by
  unfold State.phsProbe
  with_reducible repeat' first
    | exact h | assumption | exact sub_trans (by decide) hp | apply only_ite | apply only_wr

theorem only_phsCount {x : SlotSample} {r : PhsOut} {valid : Bool} {wasOver : Bool} {reseat : Bool} {n : Nat} (h : onlyParts ps s t) (hp : [.regs] ⊆ ps) :
    onlyParts ps s (State.phsCount t x r valid wasOver reseat n) := by
  unfold State.phsCount
  with_reducible repeat' first
    | exact h | assumption | exact sub_trans (by decide) hp | apply only_ite | apply only_bump | apply only_event

theorem only_setPos {x : PosState} (h : onlyParts ps s t) (hp : [.phs] ⊆ ps) : onlyParts ps s (State.setPos t x) := by
  unfold State.setPos
  with_reducible repeat' first
    | exact h | assumption | exact sub_trans (by decide) hp | apply only_ite | apply only_mapPhs

theorem only_phsLook {x : SlotSample} {l : Look} {before : BitVec 16} (h : onlyParts ps s t) (hp : [.regs, .chp, .pcm, .phs] ⊆ ps) :
    onlyParts ps s (State.phsLook t x l before) := by
  unfold State.phsLook
  with_reducible repeat' first
    | exact h | assumption | exact sub_trans (by decide) hp | apply only_ite | apply only_phsCount | apply only_mapPhs | apply only_phsDone
    | apply only_confirm | apply only_phsProbe | apply only_setPos

theorem only_givePluck {sweep : Nat} {l : Look} (h : onlyParts ps s t) (hp : [.regs, .cmp, .kpe] ⊆ ps) :
    onlyParts ps s (State.givePluck t sweep l) := by
  unfold State.givePluck
  with_reducible repeat' first
    | exact h | assumption | exact sub_trans (by decide) hp | apply only_ite | apply only_mapKpe | apply only_giveRow
    | refine only_foldl ?_ (fun _ _ _ => ?_)

theorem only_phsPluck {x : SlotSample} {l : Look} (h : onlyParts ps s t) (hp : [.regs, .pcm, .phs, .cmp, .kpe] ⊆ ps) :
    onlyParts ps s (State.phsPluck t x l) := by
  unfold State.phsPluck
  with_reducible repeat' first
    | exact h | assumption | exact sub_trans (by decide) hp | apply only_ite | apply only_givePluck | apply only_phsDone | apply only_mapKpe

theorem only_events {n : Nat} {f : Field} (h : onlyParts ps s t) (hp : [.regs] ⊆ ps) : onlyParts ps s (State.events t n f) := by
  unfold State.events
  with_reducible repeat' first
    | exact h | assumption | exact sub_trans (by decide) hp | apply only_event | refine only_foldl ?_ (fun _ _ _ => ?_)

theorem only_pflCount {xs : List PosOut} {full : List PflSample} (h : onlyParts ps s t) (hp : [.regs] ⊆ ps) :
    onlyParts ps s (State.pflCount t xs full) := by
  unfold State.pflCount
  with_reducible repeat' first
    | exact h | assumption | exact sub_trans (by decide) hp | apply only_bumpBy | apply only_events | refine only_foldl ?_ (fun _ _ _ => ?_)

theorem only_tapDue {k_1 : Nat} {sweep : Nat} (h : onlyParts ps s t) (hp : [.aar] ⊆ ps) : onlyParts ps s (State.tapDue t k_1 sweep) := by
  unfold State.tapDue
  with_reducible repeat' first
    | exact h | assumption | exact sub_trans (by decide) hp | apply only_ite | apply only_mapAar

theorem only_tapRow {r : PflRow} {k_2 : Nat} (h : onlyParts ps s t) (hp : [.aar] ⊆ ps) :
    onlyParts ps s (State.tapRow t r k_2) := by
  unfold State.tapRow
  with_reducible repeat' first
    | exact h | assumption | exact sub_trans (by decide) hp | apply only_ite | apply only_mapAar | apply only_tapDue

theorem only_deliver {r : PflRow} (h : onlyParts ps s t) (hp : [.regs, .chp, .psq, .src, .occ, .cal, .phs, .pfl, .rmx, .dts, .aar, .zon, .gda, .gdb, .guards, .rng, .cmp, .cvu, .ref, .tiu, .lan, .eth, .kpe, .sns, .evr, .upd, .fresh] ⊆ ps) :
    onlyParts ps s (State.deliver t r) := by
  unfold State.deliver
  with_reducible repeat' first
    | exact h | assumption | exact sub_trans (by decide) hp | apply only_ite | apply only_ringSettle | apply only_blockFault
    | apply only_tapRow | apply only_mapRng | apply only_giveRow | refine only_foldl ?_ (fun _ _ _ => ?_) | intro _ | split

theorem only_pflProbe {xs : List PosOut} (h : onlyParts ps s t) (hp : [.regs] ⊆ ps) :
    onlyParts ps s (State.pflProbe t xs) := by
  unfold State.pflProbe
  with_reducible repeat' first
    | exact h | assumption | exact sub_trans (by decide) hp | apply only_wr | intro _ | split

theorem only_pflForm {i : Nat} {feed : Bool} (h : onlyParts ps s t) (hp : [.regs, .chp, .psq, .src, .occ, .cal, .phs, .pfl, .rmx, .dts, .aar, .zon, .gda, .gdb, .guards, .rng, .cmp, .cvu, .ref, .tiu, .lan, .eth, .kpe, .sns, .evr, .upd, .fresh] ⊆ ps) :
    onlyParts ps s (State.pflForm t i feed) := by
  unfold State.pflForm
  with_reducible repeat' first
    | exact h | assumption | exact sub_trans (by decide) hp | apply only_ite | apply only_pflCount | apply only_deliver | apply only_mapPfl
    | apply only_pflProbe | refine only_foldl ?_ (fun _ _ _ => ?_) | intro _ | split

theorem only_pflResetAll (h : onlyParts ps s t) (hp : [.regs, .chp, .psq, .src, .occ, .cal, .phs, .pfl, .rmx, .dts, .aar, .zon, .gda, .gdb, .guards, .rng, .cmp, .cvu, .ref, .tiu, .lan, .eth, .kpe, .sns, .evr, .upd, .fresh] ⊆ ps) :
    onlyParts ps s (State.pflResetAll t) := by
  unfold State.pflResetAll
  with_reducible repeat' first
    | exact h | assumption | exact sub_trans (by decide) hp | apply only_mapPfl | apply only_pflForm | apply only_event
    | refine only_foldl ?_ (fun _ _ _ => ?_)

theorem only_pflTake {x : PosSample} {xs : List PosSample} (h : onlyParts ps s t) (hp : [.regs, .chp, .psq, .src, .occ, .cal, .phs, .pfl, .rmx, .dts, .aar, .zon, .gda, .gdb, .guards, .rng, .cmp, .cvu, .ref, .tiu, .lan, .eth, .kpe, .sns, .evr, .upd, .fresh] ⊆ ps) :
    onlyParts ps s (State.pflTake t x xs) := by
  unfold State.pflTake
  with_reducible repeat' first
    | exact h | assumption | exact sub_trans (by decide) hp | apply only_ite | apply only_bumpBy | apply only_pflResetAll | apply only_wr
    | apply only_confirm | apply only_events | apply only_mapPfl | apply only_pflForm

theorem only_giveDts {z : Nat} {x : DtsInput} (h : onlyParts ps s t) (hp : [.regs, .zon] ⊆ ps) :
    onlyParts ps s (State.giveDts t z x) := by
  unfold State.giveDts
  with_reducible repeat' first
    | exact h | assumption | exact sub_trans (by decide) hp | apply only_ite | apply only_bump | apply only_mapZon | apply only_event

theorem only_giveFeatures {temps : List (BitVec 16)} {before : Option (List (BitVec 16))} {old : Bool} (h : onlyParts ps s t) (hp : [.regs, .zon] ⊆ ps) :
    onlyParts ps s (State.giveFeatures t temps before old) := by
  unfold State.giveFeatures
  with_reducible repeat' first
    | exact h | assumption | exact sub_trans (by decide) hp | apply only_ite | apply only_giveDts | refine only_foldl ?_ (fun _ _ _ => ?_)

theorem only_giveTemps {p : DtsProfile} {capo : Nat} {stop : Nat} (h : onlyParts ps s t) (hp : [.regs, .cmp, .kpe] ⊆ ps) :
    onlyParts ps s (State.giveTemps t p capo stop) := by
  unfold State.giveTemps
  with_reducible repeat' first
    | exact h | assumption | exact sub_trans (by decide) hp | apply only_ite | apply only_giveRow | refine only_foldl ?_ (fun _ _ _ => ?_)
    | intro _ | split

theorem only_droneUpdate {u : DtsUnload} {c0 : Option Coil} {c1 : Option Coil} (h : onlyParts ps s t) (hp : [.regs, .dts] ⊆ ps) :
    onlyParts ps s (State.droneUpdate t u c0 c1).1 := by
  unfold State.droneUpdate
  with_reducible repeat' first
    | exact h | assumption | exact sub_trans (by decide) hp | apply only_ite_fst | apply only_ite | apply only_bump | apply only_bumpBy
    | apply only_events | apply only_event | apply only_mapDts | refine only_pair (by assumption) ?_ | intro _ | split | dsimp only

theorem only_profile {u : DtsUnload} (h : onlyParts ps s t) (hp : [.regs, .dts, .aar, .zon, .cmp, .kpe] ⊆ ps) :
    onlyParts ps s (State.profile t u) := by
  unfold State.profile
  with_reducible repeat' first
    | exact h | assumption | exact sub_trans (by decide) hp | apply only_ite | apply only_bump | apply only_giveTemps
    | apply only_giveFeatures | apply only_wr | apply only_droneUpdate | apply only_tapDue | apply only_event | apply only_mapDts

theorem only_closeIfOver {n : Nat} (h : onlyParts ps s t) (hp : [.dts] ⊆ ps) : onlyParts ps s (State.closeIfOver t n) := by
  unfold State.closeIfOver
  with_reducible repeat' first
    | exact h | assumption | exact sub_trans (by decide) hp | apply only_ite | apply only_closeBlock

theorem only_intoBlock {n : Nat} {f : DtsBlock → DtsBlock} (h : onlyParts ps s t) (hp : [.dts] ⊆ ps) :
    onlyParts ps s (State.intoBlock t n f) := by
  unfold State.intoBlock
  with_reducible repeat' first
    | exact h | assumption | exact sub_trans (by decide) hp | apply only_ite | apply only_closeIfOver | apply only_mapDts

theorem only_mapCore {n : Nat} {f : AarCore → AarCore} (h : onlyParts ps s t) (hp : [.aar] ⊆ ps) :
    onlyParts ps s (State.mapCore t n f) := by
  unfold State.mapCore
  with_reducible repeat' first
    | exact h | assumption | exact sub_trans (by decide) hp | apply only_mapAar

theorem only_deliverFrame {n : Nat} {f : FrameRef} {written : Bool} {overrun : Bool} (h : onlyParts ps s t) (hp : [.aar] ⊆ ps) :
    onlyParts ps s (State.deliverFrame t n f written overrun) := by
  unfold State.deliverFrame
  with_reducible repeat' first
    | exact h | assumption | exact sub_trans (by decide) hp | apply only_ite | apply only_mapCore | apply only_mapAar

theorem only_beginFrame {n : Nat} {f : FrameRef} (h : onlyParts ps s t) (hp : [.aar] ⊆ ps) :
    onlyParts ps s (State.beginFrame t n f) := by
  unfold State.beginFrame
  with_reducible repeat' first
    | exact h | assumption | exact sub_trans (by decide) hp | apply only_ite | apply only_mapCore

theorem only_coreIdle {n : Nat} (h : onlyParts ps s t) (hp : [.aar] ⊆ ps) : onlyParts ps s (State.coreIdle t n) := by
  unfold State.coreIdle
  with_reducible repeat' first
    | exact h | assumption | exact sub_trans (by decide) hp | apply only_ite | apply only_mapCore

theorem only_overrunFrame {n : Nat} {f : FrameRef} {g : FrameRef} (h : onlyParts ps s t) (hp : [.regs, .aar] ⊆ ps) :
    onlyParts ps s (State.overrunFrame t n f g) := by
  unfold State.overrunFrame
  with_reducible repeat' first
    | exact h | assumption | exact sub_trans (by decide) hp | apply only_ite | apply only_mapCore | apply only_bump
    | apply only_deliverFrame | apply only_beginFrame | apply only_coreIdle | apply only_event

theorem only_aarCount {n : Nat} {e : AarEv} (h : onlyParts ps s t) (hp : [.regs] ⊆ ps) :
    onlyParts ps s (State.aarCount t n e) := by
  unfold State.aarCount
  with_reducible repeat' first
    | exact h | assumption | exact sub_trans (by decide) hp | apply only_bumpBy | apply only_events

theorem only_commitFrame {n : Nat} {f : FrameRef} (h : onlyParts ps s t) (hp : [.regs, .aar] ⊆ ps) :
    onlyParts ps s (State.commitFrame t n f) := by
  unfold State.commitFrame
  with_reducible repeat' first
    | exact h | assumption | exact sub_trans (by decide) hp | apply only_ite | apply only_mapCore | apply only_bump
    | apply only_deliverFrame | apply only_wr | apply only_beginFrame | intro _ | split | dsimp only

theorem only_aarStep {n : Nat} {w : BitVec 64} {op : Nat} {stall : Nat} {f : AarWord → AarCore → AarCore × AarEv} (h : onlyParts ps s t) (hp : [.now, .regs, .psq, .pfl, .dts, .aar, .guards, .tiu, .eth] ⊆ ps) :
    onlyParts ps s (State.aarStep t n w op stall f) := by
  unfold State.aarStep
  with_reducible repeat' first
    | exact h | assumption | exact sub_trans (by decide) hp | apply only_ite | apply only_mapCore | apply only_aarCount | apply only_atT
    | intro _ | split | dsimp only

theorem only_abandonFrame {n : Nat} (h : onlyParts ps s t) (hp : [.aar] ⊆ ps) : onlyParts ps s (State.abandonFrame t n) := by
  unfold State.abandonFrame
  with_reducible repeat' first
    | exact h | assumption | exact sub_trans (by decide) hp | apply only_deliverFrame | intro _ | split

theorem only_endRun {n : Nat} {skip : Bool} (h : onlyParts ps s t) (hp : [.regs, .aar] ⊆ ps) : onlyParts ps s (State.endRun t n skip) := by
  unfold State.endRun
  with_reducible repeat' first
    | exact h | assumption | exact sub_trans (by decide) hp | apply only_ite | apply only_mapCore | apply only_commitFrame | intro _ | split
    | dsimp only

theorem only_giveFeature {z : Nat} {i : Nat} {x : FeatureInput} (h : onlyParts ps s t) (hp : [.regs, .zon] ⊆ ps) :
    onlyParts ps s (State.giveFeature t z i x) := by
  unfold State.giveFeature
  with_reducible repeat' first
    | exact h | assumption | exact sub_trans (by decide) hp | apply only_ite | apply only_bump | apply only_mapZon | apply only_event

theorem only_armRelease (h : onlyParts ps s t) (hp : [.zon] ⊆ ps) : onlyParts ps s (State.armRelease t) := by
  unfold State.armRelease
  with_reducible repeat' first
    | exact h | assumption | exact sub_trans (by decide) hp | apply only_ite | apply only_mapZon

theorem only_fireSuppressed (h : onlyParts ps s t) (hp : [.regs] ⊆ ps) : onlyParts ps s (State.fireSuppressed t) := by
  unfold State.fireSuppressed
  with_reducible repeat' first
    | exact h | assumption | exact sub_trans (by decide) hp | apply only_bump | apply only_event

theorem only_armAssert (h : onlyParts ps s t) (hp : [.zon] ⊆ ps) : onlyParts ps s (State.armAssert t) := by
  unfold State.armAssert
  with_reducible repeat' first
    | exact h | assumption | exact sub_trans (by decide) hp | apply only_mapZon

theorem only_firePull {cal : Bool} (h : onlyParts ps s t) (hp : [.zon] ⊆ ps) : onlyParts ps s (State.firePull t cal) := by
  unfold State.firePull
  with_reducible repeat' first
    | exact h | assumption | exact sub_trans (by decide) hp | apply only_ite | apply only_mapZon

theorem only_armIgnored (h : onlyParts ps s t) (hp : [.regs] ⊆ ps) : onlyParts ps s (State.armIgnored t) := by
  unfold State.armIgnored
  with_reducible repeat' first
    | exact h | assumption | exact sub_trans (by decide) hp | apply only_bump | apply only_event

theorem only_mapUnit {z : Nat} {f : ZoneUnit → ZoneUnit} (h : onlyParts ps s t) (hp : [.zon] ⊆ ps) :
    onlyParts ps s (State.mapUnit t z f) := by
  unfold State.mapUnit
  with_reducible repeat' first
    | exact h | assumption | exact sub_trans (by decide) hp | apply only_mapZon

theorem only_emit {e : EventRec} (h : onlyParts ps s t) (hp : [.regs, .zon] ⊆ ps) : onlyParts ps s (State.emit t e) := by
  unfold State.emit
  with_reducible repeat' first
    | exact h | assumption | exact sub_trans (by decide) hp | apply only_bump | apply only_mapZon

theorem only_zoneAction {z : Nat} {j : Nat} {a : Nat} {before : Nat} {x : ZoneInput} {idle : Bool} {armed : Bool} {reqs : List CapRequest} (h : onlyParts ps s t) (hp : [.regs, .zon] ⊆ ps) :
    onlyParts ps s (State.zoneAction t z j a before x idle armed reqs).1 := by
  unfold State.zoneAction
  with_reducible repeat' first
    | exact h | assumption | exact sub_trans (by decide) hp | apply only_ite_fst | apply only_ite | apply only_armRelease | apply only_bump
    | apply only_fireSuppressed | apply only_armAssert | apply only_firePull | apply only_mapZon | apply only_armIgnored
    | apply only_mapUnit | apply only_emit | apply only_event | refine only_pair (by assumption) ?_ | intro _ | split

theorem only_mergeRequests {reqs : List CapRequest} (h : onlyParts ps s t) (hp : [.regs, .zon] ⊆ ps) :
    onlyParts ps s (State.mergeRequests t reqs) := by
  unfold State.mergeRequests
  with_reducible repeat' first
    | exact h | assumption | exact sub_trans (by decide) hp | apply only_bump | apply only_bumpBy | apply only_mapZon
    | refine only_foldl ?_ (fun _ _ _ => ?_)

theorem only_giveEvent {i : Nat} {e : EventRec} (h : onlyParts ps s t) (hp : [.kpe] ⊆ ps) :
    onlyParts ps s (State.giveEvent t i e) := by
  unfold State.giveEvent
  with_reducible repeat' first
    | exact h | assumption | exact sub_trans (by decide) hp | apply only_ite | apply only_mapSub | apply only_lost | intro _ | split

theorem only_zoneTakes {z : Nat} {st : Nat} {pick : Option Nat} {ins : Nat → ZoneInput} {idle : Bool} {armed : Bool} {reqs : List CapRequest} (h : onlyParts ps s t) (hp : [.regs, .zon] ⊆ ps) :
    onlyParts ps s (State.zoneTakes t z st pick ins idle armed reqs).1 := by
  unfold State.zoneTakes
  with_reducible repeat' first
    | exact h | assumption | exact sub_trans (by decide) hp | apply only_zoneAction | apply only_mapUnit
    | refine only_pair (by assumption) ?_ | intro _ | split

theorem only_zoneUnitStep {z : Nat} {idle : Bool} {armed : Bool} {fireSeen : Bool} {reqs : List CapRequest} (h : onlyParts ps s t) (hp : [.regs, .zon] ⊆ ps) :
    onlyParts ps s (State.zoneUnitStep t z idle armed fireSeen reqs).1 := by
  unfold State.zoneUnitStep
  with_reducible repeat' first
    | exact h | assumption | exact sub_trans (by decide) hp | apply only_ite_fst | apply only_ite | apply only_zoneTakes
    | apply only_mapUnit

theorem only_zoneFold {l : List Nat} {idle armed seen : Bool} {p : State × List CapRequest} (h : onlyParts ps s p.1)
    (hp : [.regs, .zon] ⊆ ps) : onlyParts ps s (l.foldl (fun p z => State.zoneUnitStep p.1 z idle armed seen p.2) p).1 := by
  induction l generalizing p with
  | nil => exact h
  | cons z l ih =>
    have h1 := only_zoneUnitStep (z := z) (idle := idle) (armed := armed) (fireSeen := seen) (reqs := p.2) h hp
    rw [List.foldl_cons]
    exact ih h1

theorem only_zoneSteps {idle : Bool} (h : onlyParts ps s t) (hp : [.regs, .zon] ⊆ ps) : onlyParts ps s (State.zoneSteps t idle) := by
  unfold State.zoneSteps
  extract_lets s1 s2 s3 s4 armed seen units r bus s5
  have h1 : onlyParts ps s s1 := only_mapZon h (sub_trans (by decide) hp)
  have h2 : onlyParts ps s s2 := only_ite (only_armRelease h1 (sub_trans (by decide) hp)) h1
  have h3 : onlyParts ps s s3 := only_foldl h2 fun _ _ h => only_mapUnit h (sub_trans (by decide) hp)
  have h4 : onlyParts ps s s4 := only_mapZon h3 (sub_trans (by decide) hp)
  clear_value s4 units armed seen
  have hr : onlyParts ps s r.1 := only_zoneFold h4 (sub_trans (by decide) hp)
  exact only_mergeRequests (only_mapZon hr (sub_trans (by decide) hp)) (sub_trans (by decide) hp)

theorem only_busEvent {code : Nat} {e : BusEdge} {capture : CaptureField} (h : onlyParts ps s t) (hp : [.regs, .zon] ⊆ ps) :
    onlyParts ps s (State.busEvent t code e capture) := by
  unfold State.busEvent
  with_reducible repeat' first
    | exact h | assumption | exact sub_trans (by decide) hp | apply only_mapZon | apply only_emit

theorem only_releaseBuses (h : onlyParts ps s t) (hp : [.zon] ⊆ ps) : onlyParts ps s (State.releaseBuses t) := by
  unfold State.releaseBuses
  with_reducible repeat' first
    | exact h | assumption | exact sub_trans (by decide) hp | apply only_armRelease | apply only_mapZon

theorem only_takeEvents (h : onlyParts ps s t) (hp : [.zon, .kpe] ⊆ ps) : onlyParts ps s (State.takeEvents t) := by
  unfold State.takeEvents
  with_reducible repeat' first
    | exact h | assumption | exact sub_trans (by decide) hp | apply only_giveEvent | apply only_mapZon
    | refine only_foldl ?_ (fun _ _ _ => ?_)

theorem only_recordEdge {e : BusEdge} (h : onlyParts ps s t) (hp : [.regs] ⊆ ps) : onlyParts ps s (State.recordEdge t e) := by
  unfold State.recordEdge
  with_reducible repeat' first
    | exact h | assumption | exact sub_trans (by decide) hp | apply only_wr

theorem only_armCmd {on : Bool} (h : onlyParts ps s t) (hp : [.regs, .zon] ⊆ ps) : onlyParts ps s (State.armCmd t on) := by
  unfold State.armCmd
  with_reducible repeat' first
    | exact h | assumption | exact sub_trans (by decide) hp | apply only_ite | apply only_armRelease | apply only_armAssert
    | apply only_armIgnored

theorem only_muFire (h : onlyParts ps s t) (hp : [.regs, .zon] ⊆ ps) : onlyParts ps s (State.muFire t) := by
  unfold State.muFire
  with_reducible repeat' first
    | exact h | assumption | exact sub_trans (by decide) hp | apply only_ite | apply only_fireSuppressed | apply only_firePull

theorem only_calFire (h : onlyParts ps s t) (hp : [.zon] ⊆ ps) : onlyParts ps s (State.calFire t) := by
  unfold State.calFire
  with_reducible repeat' first
    | exact h | assumption | exact sub_trans (by decide) hp | apply only_ite | apply only_firePull

theorem only_guardRefuses {g : GuardId} (h : onlyParts ps s t) (hp : [.regs] ⊆ ps) : onlyParts ps s (State.guardRefuses t g) := by
  unfold State.guardRefuses
  with_reducible repeat' first
    | exact h | assumption | exact sub_trans (by decide) hp | apply only_event

theorem only_stopGuard {g : GuardId} (h : onlyParts ps s t) (hp : [.psq, .src, .cal, .phs, .rmx, .gda, .gdb, .guards] ⊆ ps) :
    onlyParts ps s (State.stopGuard t g) := by
  unfold State.stopGuard
  with_reducible repeat' first
    | exact h | assumption | exact sub_trans (by decide) hp | apply only_ite | apply only_mapGuard | apply only_followEnables

theorem only_startAttempt (h : onlyParts ps s t) (hp : [.regs, .psq, .src, .cal, .phs, .rmx, .gda, .gdb, .guards, .kpe, .evr] ⊆ ps) :
    onlyParts ps s (State.startAttempt t) := by
  unfold State.startAttempt
  with_reducible repeat' first
    | exact h | assumption | exact sub_trans (by decide) hp | apply only_bump | apply only_guardEnter | apply only_mapGuards

theorem only_restartCmd (h : onlyParts ps s t) (hp : [.regs, .psq, .src, .cal, .phs, .rmx, .gda, .gdb, .guards, .kpe, .evr] ⊆ ps) :
    onlyParts ps s (State.restartCmd t) := by
  unfold State.restartCmd
  with_reducible repeat' first
    | exact h | assumption | exact sub_trans (by decide) hp | apply only_ite | apply only_guardRefuses | apply only_startAttempt

theorem only_countClips {bs : List BinSample} (h : onlyParts ps s t) (hp : [.regs] ⊆ ps) :
    onlyParts ps s (State.countClips t bs) := by
  unfold State.countClips
  with_reducible repeat' first
    | exact h | assumption | exact sub_trans (by decide) hp | apply only_bump | apply only_event | refine only_foldl ?_ (fun _ _ _ => ?_)

theorem only_learnValue {g : GuardId} {i : Nat} {v_3 : Nat} (h : onlyParts ps s t) (hp : [.gda, .gdb] ⊆ ps) :
    onlyParts ps s (State.learnValue t g i v_3) := by
  unfold State.learnValue
  with_reducible repeat' first
    | exact h | assumption | exact sub_trans (by decide) hp | apply only_ite | apply only_mapGuard

theorem only_beginSelfTest {g : GuardId} (h : onlyParts ps s t) (hp : [.regs, .gda, .gdb] ⊆ ps) :
    onlyParts ps s (State.beginSelfTest t g) := by
  unfold State.beginSelfTest
  with_reducible repeat' first
    | exact h | assumption | exact sub_trans (by decide) hp | apply only_ite | apply only_guardRefuses | apply only_mapGuard

theorem only_writeLearned {g : GuardId} {l : Learning} (h : onlyParts ps s t) (hp : [.regs, .mems] ⊆ ps) :
    onlyParts ps s (State.writeLearned t g l) := by
  unfold State.writeLearned
  with_reducible repeat' first
    | exact h | assumption | exact sub_trans (by decide) hp | apply only_mapMems | apply only_setStage
    | refine only_foldl ?_ (fun _ _ _ => ?_) | intro _ | split

theorem only_violation {g : GuardId} {c : TripCause} {t_3 : Nat} (h : onlyParts ps s t) (hp : [.regs, .psq, .src, .cal, .phs, .rmx, .gda, .gdb, .guards, .kpe, .evr] ⊆ ps) :
    onlyParts ps s (State.violation t g c t_3) := by
  unfold State.violation
  with_reducible repeat' first
    | exact h | assumption | exact sub_trans (by decide) hp | apply only_ite | apply only_failAttempt | apply only_trip

theorem only_beginLearn {g : GuardId} (h : onlyParts ps s t) (hp : [.regs, .gda, .gdb] ⊆ ps) :
    onlyParts ps s (State.beginLearn t g) := by
  unfold State.beginLearn
  with_reducible repeat' first
    | exact h | assumption | exact sub_trans (by decide) hp | apply only_ite | apply only_guardRefuses | apply only_mapGuard

theorem only_checkBin {pc : Nat} {overload : Bool} {t_3 : Nat} (h : onlyParts ps s t) (hp : [.regs, .psq, .src, .cal, .phs, .rmx, .gda, .gdb, .guards, .kpe, .evr] ⊆ ps) :
    onlyParts ps s (State.checkBin t pc overload t_3) := by
  unfold State.checkBin
  with_reducible repeat' first
    | exact h | assumption | exact sub_trans (by decide) hp | apply only_ite | apply only_bump | apply only_learnValue
    | apply only_violation | apply only_mapGda

theorem only_cvuCmd {u : Nat} {f : State → State} (h : onlyParts ps s t) (hf : ∀ a0, onlyParts ps s a0 → onlyParts ps s (f a0)) : onlyParts ps s (State.cvuCmd t u f) := by
  unfold State.cvuCmd
  with_reducible repeat' first
    | exact h | assumption | apply only_ite | apply hf

theorem only_mapCvuUnit {u : Nat} {f : CvuUnit → CvuUnit} (h : onlyParts ps s t) (hp : [.cvu] ⊆ ps) :
    onlyParts ps s (State.mapCvuUnit t u f) := by
  unfold State.mapCvuUnit
  with_reducible repeat' first
    | exact h | assumption | exact sub_trans (by decide) hp | apply only_mapCvu

theorem only_cvuLoad {u : Nat} {v_2 : BitVec 64} (h : onlyParts ps s t) (hp : [.cvu] ⊆ ps) : onlyParts ps s (State.cvuLoad t u v_2) := by
  unfold State.cvuLoad
  with_reducible repeat' first
    | exact h | assumption | exact sub_trans (by decide) hp | apply only_mapCvuUnit

theorem only_settleDesc {i : Nat} (h : onlyParts ps s t) (hp : [.regs, .rng, .kpe] ⊆ ps) : onlyParts ps s (State.settleDesc t i) := by
  unfold State.settleDesc
  with_reducible repeat' first
    | exact h | assumption | exact sub_trans (by decide) hp | apply only_ite | apply only_closeDesc

theorem only_giveCapture {i : Nat} {r : RingRow} (h : onlyParts ps s t) (hp : [.regs, .rng, .cmp, .kpe] ⊆ ps) :
    onlyParts ps s (State.giveCapture t i r) := by
  unfold State.giveCapture
  with_reducible repeat' first
    | exact h | assumption | exact sub_trans (by decide) hp | apply only_ite | apply only_mapDesc | apply only_bumpBy | apply only_giveRow
    | apply only_event | refine only_foldl ?_ (fun _ _ _ => ?_)

theorem only_cvuFeed {u : Nat} {v_2 : Word} (h : onlyParts ps s t) (hp : [.cvu] ⊆ ps) : onlyParts ps s (State.cvuFeed t u v_2) := by
  unfold State.cvuFeed
  with_reducible repeat' first
    | exact h | assumption | exact sub_trans (by decide) hp | apply only_ite | apply only_mapCvuUnit

theorem only_giveCommitted {i : Nat} (h : onlyParts ps s t) (hp : [.regs, .rng, .cmp, .kpe] ⊆ ps) :
    onlyParts ps s (State.giveCommitted t i) := by
  unfold State.giveCommitted
  with_reducible repeat' first
    | exact h | assumption | exact sub_trans (by decide) hp | apply only_ite | apply only_giveCapture
    | refine only_foldl ?_ (fun _ _ _ => ?_)

theorem only_cvuEnd {u : Nat} (h : onlyParts ps s t) (hp : [.regs, .cvu, .evr] ⊆ ps) : onlyParts ps s (State.cvuEnd t u) := by
  unfold State.cvuEnd
  with_reducible repeat' first
    | exact h | assumption | exact sub_trans (by decide) hp | apply only_ite | apply only_bump | apply only_record | apply only_event
    | apply only_mapCvuUnit

theorem only_cvuIdle {u : Nat} (h : onlyParts ps s t) (hp : [.cvu] ⊆ ps) : onlyParts ps s (State.cvuIdle t u) := by
  unfold State.cvuIdle
  with_reducible repeat' first
    | exact h | assumption | exact sub_trans (by decide) hp | apply only_mapCvuUnit

theorem only_fixWindow {i : Nat} {t_2 : Nat} (h : onlyParts ps s t) (hp : [.regs, .rng, .cmp, .kpe] ⊆ ps) :
    onlyParts ps s (State.fixWindow t i t_2) := by
  unfold State.fixWindow
  with_reducible repeat' first
    | exact h | assumption | exact sub_trans (by decide) hp | apply only_ite | apply only_mapDesc | apply only_loseDesc
    | apply only_settleDesc | apply only_giveCommitted

theorem only_acceptCapture {q : CapRequest} (h : onlyParts ps s t) (hp : [.regs, .rng, .cmp, .kpe] ⊆ ps) :
    onlyParts ps s (State.acceptCapture t q).1 := by
  unfold State.acceptCapture
  with_reducible repeat' first
    | exact h | assumption | exact sub_trans (by decide) hp | apply only_ite_fst | apply only_ite | apply only_mapDesc | apply only_bump
    | apply only_mapRng | apply only_mapKpe | apply only_fixWindow | refine only_pair (by assumption) ?_ | intro _ | split | dsimp only

theorem only_resolveRequest {tag : Nat} {c : CaptureField} (h : onlyParts ps s t) (hp : [.zon] ⊆ ps) :
    onlyParts ps s (State.resolveRequest t tag c) := by
  unfold State.resolveRequest
  with_reducible repeat' first
    | exact h | assumption | exact sub_trans (by decide) hp | apply only_ite | apply only_mapZon

theorem only_reuseSlot (h : onlyParts ps s t) (hp : [.regs, .rng, .cmp, .kpe] ⊆ ps) : onlyParts ps s (State.reuseSlot t) := by
  unfold State.reuseSlot
  with_reducible repeat' first
    | exact h | assumption | exact sub_trans (by decide) hp | apply only_releaseRows | intro _ | split

theorem only_commitDesc {w : Nat} {f : Nat} {i : Nat} (h : onlyParts ps s t) (hp : [.regs, .rng, .cmp, .kpe] ⊆ ps) :
    onlyParts ps s (State.commitDesc t w f i) := by
  unfold State.commitDesc
  with_reducible repeat' first
    | exact h | assumption | exact sub_trans (by decide) hp | apply only_ite | apply only_mapDesc | apply only_settleDesc
    | apply only_fixWindow | apply only_giveCommitted | intro _ | split

theorem only_captureOp {d : Nat} {op : Nat} {num24 : Nat} (h : onlyParts ps s t) (hp : [.regs, .rng, .kpe] ⊆ ps) :
    onlyParts ps s (State.captureOp t d op num24) := by
  unfold State.captureOp
  with_reducible repeat' first
    | exact h | assumption | exact sub_trans (by decide) hp | apply only_ite | apply only_abortDesc | apply only_releaseDesc

theorem only_blockToFlow {b : CmpBlock} {bytes : List Byte} (h : onlyParts ps s t) (hp : [.kpe] ⊆ ps) :
    onlyParts ps s (State.blockToFlow t b bytes) := by
  unfold State.blockToFlow
  with_reducible repeat' first
    | exact h | assumption | exact sub_trans (by decide) hp | apply only_ite | apply only_formPacket | apply only_queueCtl | intro _ | split

theorem only_cutStreams (h : onlyParts ps s t) (hp : [.regs, .rng, .cmp, .kpe] ⊆ ps) : onlyParts ps s (State.cutStreams t) := by
  unfold State.cutStreams
  with_reducible repeat' first
    | exact h | assumption | exact sub_trans (by decide) hp | apply only_ite | apply only_mapDesc | apply only_dropGiven | apply only_bump
    | apply only_closeDesc | apply only_event | refine only_foldl ?_ (fun _ _ _ => ?_)

theorem only_cvuBegin {u : Nat} (h : onlyParts ps s t) (hp : [.cvu] ⊆ ps) : onlyParts ps s (State.cvuBegin t u) := by
  unfold State.cvuBegin
  with_reducible repeat' first
    | exact h | assumption | exact sub_trans (by decide) hp | apply only_ite | apply only_mapCvuUnit

theorem only_mapSubCh {k_1 : Nat} {f : SubChannel → SubChannel} (h : onlyParts ps s t) (hp : [.dmc] ⊆ ps) :
    onlyParts ps s (State.mapSubCh t k_1 f) := by
  unfold State.mapSubCh
  with_reducible repeat' first
    | exact h | assumption | exact sub_trans (by decide) hp | apply only_mapDmc

theorem only_mapRank {k_1 : Nat} {r : Nat} {f : DramRank → DramRank} (h : onlyParts ps s t) (hp : [.dmc] ⊆ ps) :
    onlyParts ps s (State.mapRank t k_1 r f) := by
  unfold State.mapRank
  with_reducible repeat' first
    | exact h | assumption | exact sub_trans (by decide) hp | apply only_mapSubCh

theorem only_badLine {k_1 : Nat} {id : Nat} {a : Nat} (h : onlyParts ps s t) (hp : [.regs, .evr] ⊆ ps) :
    onlyParts ps s (State.badLine t k_1 id a) := by
  unfold State.badLine
  with_reducible repeat' first
    | exact h | assumption | exact sub_trans (by decide) hp | apply only_bump | apply only_wr | apply only_record | apply only_event

theorem only_correctedLine {k_1 : Nat} {newer : Bool} (h : onlyParts ps s t) (hp : [.regs] ⊆ ps) :
    onlyParts ps s (State.correctedLine t k_1 newer) := by
  unfold State.correctedLine
  with_reducible repeat' first
    | exact h | assumption | exact sub_trans (by decide) hp | apply only_ite | apply only_bump | apply only_event

theorem only_throttle {k_1 : Nat} {p : LinePlace} (h : onlyParts ps s t) (hp : [.regs, .dmc] ⊆ ps) :
    onlyParts ps s (State.throttle t k_1 p) := by
  unfold State.throttle
  with_reducible repeat' first
    | exact h | assumption | exact sub_trans (by decide) hp | apply only_ite | apply only_bump | apply only_mapSubCh | apply only_event
    | intro _ | split

theorem only_neighbourRefresh {k_1 : Nat} {p : LinePlace} (h : onlyParts ps s t) (hp : [.regs, .dmc] ⊆ ps) :
    onlyParts ps s (State.neighbourRefresh t k_1 p) := by
  unfold State.neighbourRefresh
  with_reducible repeat' first
    | exact h | assumption | exact sub_trans (by decide) hp | apply only_bump | apply only_bumpBy | apply only_throttle
    | apply only_mapSubCh | apply only_event

theorem only_bankAccess {id : Nat} {p : LinePlace} (h : onlyParts ps s t) (hp : [.regs, .dmc] ⊆ ps) :
    onlyParts ps s (State.bankAccess t id p) := by
  unfold State.bankAccess
  with_reducible repeat' first
    | exact h | assumption | exact sub_trans (by decide) hp | apply only_ite | apply only_neighbourRefresh | apply only_bump
    | apply only_mapSubCh

theorem only_markBad {a : Nat} (h : onlyParts ps s t) (hp : [.dmc] ⊆ ps) : onlyParts ps s (State.markBad t a) := by
  unfold State.markBad
  with_reducible repeat' first
    | exact h | assumption | exact sub_trans (by decide) hp | apply only_ite | apply only_mapDmc

theorem only_deliverReads {id : Nat} {n : Nat} (h : onlyParts ps s t) (hp : [.dmc] ⊆ ps) : onlyParts ps s (State.deliverReads t id n) := by
  induction n generalizing t id with
  | zero =>
    unfold State.deliverReads
    with_reducible repeat' first
      | exact h
  | succ n ih =>
    unfold State.deliverReads
    with_reducible repeat' first
      | exact h | assumption | exact sub_trans (by decide) hp | apply only_ite | apply ih | apply only_mapDmc | intro _ | split

theorem only_precharge {k_1 : Nat} {r : Nat} (h : onlyParts ps s t) (hp : [.dmc] ⊆ ps) : onlyParts ps s (State.precharge t k_1 r) := by
  unfold State.precharge
  with_reducible repeat' first
    | exact h | assumption | exact sub_trans (by decide) hp | apply only_mapSubCh

theorem only_issueRefresh {k_1 : Nat} {r : Nat} {t_3 : Nat} (h : onlyParts ps s t) (hp : [.regs, .dmc] ⊆ ps) :
    onlyParts ps s (State.issueRefresh t k_1 r t_3) := by
  unfold State.issueRefresh
  with_reducible repeat' first
    | exact h | assumption | exact sub_trans (by decide) hp | apply only_bump | apply only_precharge | apply only_mapRank

theorem only_payDebt {k_1 : Nat} {r : Nat} {t_3 : Nat} (h : onlyParts ps s t) (hp : [.regs, .dmc] ⊆ ps) :
    onlyParts ps s (State.payDebt t k_1 r t_3) := by
  unfold State.payDebt
  with_reducible repeat' first
    | exact h | assumption | exact sub_trans (by decide) hp | apply only_ite | apply only_issueRefresh

theorem only_enterSelfRefresh {k_1 : Nat} (h : onlyParts ps s t) (hp : [.regs, .mems, .dmc, .fresh] ⊆ ps) :
    onlyParts ps s (State.enterSelfRefresh t k_1) := by
  unfold State.enterSelfRefresh
  with_reducible repeat' first
    | exact h | assumption | exact sub_trans (by decide) hp | apply only_bump | apply only_mapSubCh | apply only_loseDram
    | refine only_foldl ?_ (fun _ _ _ => ?_)

theorem only_closeDram (h : onlyParts ps s t) (hp : [.regs, .mems, .dmc, .fresh] ⊆ ps) : onlyParts ps s (State.closeDram t) := by
  unfold State.closeDram
  with_reducible repeat' first
    | exact h | assumption | exact sub_trans (by decide) hp | apply only_ite | apply only_enterSelfRefresh | apply only_mapDmc
    | refine only_foldl ?_ (fun _ _ _ => ?_)

theorem only_exitSelfRefresh {k_1 : Nat} (h : onlyParts ps s t) (hp : [.regs, .rng, .cmp, .dmc, .kpe] ⊆ ps) :
    onlyParts ps s (State.exitSelfRefresh t k_1) := by
  unfold State.exitSelfRefresh
  with_reducible repeat' first
    | exact h | assumption | exact sub_trans (by decide) hp | apply only_ite | apply only_releaseRows | apply only_bumpBy
    | apply only_mapRng | apply only_mapSubCh | apply only_event

theorem only_wakeDram {k_1 : Nat} {r : Nat} (h : onlyParts ps s t) (hp : [.regs, .rng, .cmp, .dmc, .kpe] ⊆ ps) :
    onlyParts ps s (State.wakeDram t k_1 r) := by
  unfold State.wakeDram
  with_reducible repeat' first
    | exact h | assumption | exact sub_trans (by decide) hp | apply only_bump | apply only_mapSubCh | apply only_mapRank
    | apply only_exitSelfRefresh | intro _ | split

theorem only_noteWrite {a : Nat} (h : onlyParts ps s t) (hp : [.dmc] ⊆ ps) : onlyParts ps s (State.noteWrite t a) := by
  unfold State.noteWrite
  with_reducible repeat' first
    | exact h | assumption | exact sub_trans (by decide) hp | apply only_ite | apply only_mapSubCh

theorem only_beginTraining (h : onlyParts ps s t) (hp : [.dmc] ⊆ ps) : onlyParts ps s (State.beginTraining t) := by
  unfold State.beginTraining
  with_reducible repeat' first
    | exact h | assumption | exact sub_trans (by decide) hp | apply only_mapDmc

theorem only_trainCmd (h : onlyParts ps s t) (hp : [.dmc] ⊆ ps) : onlyParts ps s (State.trainCmd t) := by
  unfold State.trainCmd
  with_reducible repeat' first
    | exact h | assumption | exact sub_trans (by decide) hp | apply only_ite | apply only_beginTraining

theorem only_catchUp {k_1 : Nat} {r : Nat} {rate : Nat} (h : onlyParts ps s t) (hp : [.regs, .dmc] ⊆ ps) :
    onlyParts ps s (State.catchUp t k_1 r rate) := by
  unfold State.catchUp
  with_reducible repeat' first
    | exact h | assumption | exact sub_trans (by decide) hp | apply only_ite | apply only_bump | apply only_precharge | apply only_mapRank
    | apply only_issueRefresh | apply only_event

theorem only_beginCal {t_1 : Nat} (h : onlyParts ps s t) (hp : [.ref] ⊆ ps) : onlyParts ps s (State.beginCal t t_1) := by
  unfold State.beginCal
  with_reducible repeat' first
    | exact h | assumption | exact sub_trans (by decide) hp | apply only_mapRef

theorem only_mapTiuUnit {u : Nat} {f : TiuUnit → TiuUnit} (h : onlyParts ps s t) (hp : [.tiu] ⊆ ps) :
    onlyParts ps s (State.mapTiuUnit t u f) := by
  unfold State.mapTiuUnit
  with_reducible repeat' first
    | exact h | assumption | exact sub_trans (by decide) hp | apply only_mapTiu

theorem only_tiuTo {u : Nat} {st : TiuState} (h : onlyParts ps s t) (hp : [.tiu] ⊆ ps) :
    onlyParts ps s (State.tiuTo t u st) := by
  unfold State.tiuTo
  with_reducible repeat' first
    | exact h | assumption | exact sub_trans (by decide) hp | apply only_ite | apply only_mapTiuUnit

theorem only_switchResult {k_1 : Nat} {lin : Option Int} (h : onlyParts ps s t) (hp : [.regs, .ref] ⊆ ps) :
    onlyParts ps s (State.switchResult t k_1 lin) := by
  unfold State.switchResult
  with_reducible repeat' first
    | exact h | assumption | exact sub_trans (by decide) hp | apply only_ite | apply only_mapRef | apply only_switchFallback
    | apply only_event | intro _ | split

theorem only_windows {c : Nat} {lin : Option Int} (h : onlyParts ps s t) (hp : [.regs, .ref] ⊆ ps) :
    onlyParts ps s (State.windows t c lin) := by
  unfold State.windows
  with_reducible repeat' first
    | exact h | assumption | exact sub_trans (by decide) hp | apply only_ite | apply only_mapRef | apply only_event

theorem only_mapRefChan {c : Nat} {f : RefChan → RefChan} (h : onlyParts ps s t) (hp : [.ref] ⊆ ps) :
    onlyParts ps s (State.mapRefChan t c f) := by
  unfold State.mapRefChan
  with_reducible repeat' first
    | exact h | assumption | exact sub_trans (by decide) hp | apply only_mapRef

theorem only_publish {c : Nat} {reason : Reason} {lin : Int} {injected : Bool} {t_5 : Nat} (h : onlyParts ps s t) (hp : [.regs, .src, .dts, .ref] ⊆ ps) :
    onlyParts ps s (State.publish t c reason lin injected t_5) := by
  unfold State.publish
  with_reducible repeat' first
    | exact h | assumption | exact sub_trans (by decide) hp | apply only_ite | apply only_switchResult | apply only_windows | apply only_wr
    | apply only_mapRefChan | apply only_derate | apply only_mapDts | refine only_foldl ?_ (fun _ _ _ => ?_)

theorem only_tiuOverflow {u : Nat} (h : onlyParts ps s t) (hp : [.regs, .tiu] ⊆ ps) : onlyParts ps s (State.tiuOverflow t u) := by
  unfold State.tiuOverflow
  with_reducible repeat' first
    | exact h | assumption | exact sub_trans (by decide) hp | apply only_ite | apply only_bump | apply only_mapTiuUnit | apply only_wr
    | apply only_event

theorem only_tiuRate {u : Nat} {result : Nat} (h : onlyParts ps s t) (hp : [.regs, .tiu] ⊆ ps) : onlyParts ps s (State.tiuRate t u result) := by
  unfold State.tiuRate
  with_reducible repeat' first
    | exact h | assumption | exact sub_trans (by decide) hp | apply only_ite | apply only_mapTiuUnit | apply only_wr

theorem only_tiuComplete {u : Nat} {c : Nat} {sub : Bool} (h : onlyParts ps s t) (hp : [.regs] ⊆ ps) :
    onlyParts ps s (State.tiuComplete t u c sub) := by
  unfold State.tiuComplete
  with_reducible repeat' first
    | exact h | assumption | exact sub_trans (by decide) hp | apply only_ite | apply only_bump | apply only_wr | apply only_event

theorem only_tiuStart {u : Nat} {c : Nat} (h : onlyParts ps s t) (hp : [.tiu] ⊆ ps) : onlyParts ps s (State.tiuStart t u c) := by
  unfold State.tiuStart
  with_reducible repeat' first
    | exact h | assumption | exact sub_trans (by decide) hp | apply only_mapTiuUnit

theorem only_tiuStartEdge {u : Nat} {c : Nat} (h : onlyParts ps s t) (hp : [.regs, .tiu] ⊆ ps) : onlyParts ps s (State.tiuStartEdge t u c) := by
  unfold State.tiuStartEdge
  with_reducible repeat' first
    | exact h | assumption | exact sub_trans (by decide) hp | apply only_ite | apply only_mapTiuUnit | apply only_tiuRate
    | apply only_tiuComplete | apply only_tiuStart

theorem only_tiuStopEdge {u : Nat} {c : Nat} (h : onlyParts ps s t) (hp : [.regs, .tiu] ⊆ ps) : onlyParts ps s (State.tiuStopEdge t u c) := by
  unfold State.tiuStopEdge
  with_reducible repeat' first
    | exact h | assumption | exact sub_trans (by decide) hp | apply only_bump | apply only_mapTiuUnit | apply only_tiuComplete
    | apply only_event | intro _ | split | dsimp only

theorem only_tiuEdge {n : Nat} {rising : Bool} {c : Nat} {u : Nat} (h : onlyParts ps s t) (hp : [.regs, .tiu] ⊆ ps) :
    onlyParts ps s (State.tiuEdge t n rising c u) := by
  unfold State.tiuEdge
  with_reducible repeat' first
    | exact h | assumption | exact sub_trans (by decide) hp | apply only_ite | apply only_tiuOverflow | apply only_tiuStartEdge
    | apply only_tiuStopEdge

theorem only_raiseOpen {c : Nat} (h : onlyParts ps s t) (hp : [.regs, .ref] ⊆ ps) : onlyParts ps s (State.raiseOpen t c) := by
  unfold State.raiseOpen
  with_reducible repeat' first
    | exact h | assumption | exact sub_trans (by decide) hp | apply only_ite | apply only_bump | apply only_mapRefChan
    | apply only_eventStands

theorem only_beginConversion {c : Nat} {preset : Nat} {injected : Bool} {t_4 : Nat} (h : onlyParts ps s t) (hp : [.ref] ⊆ ps) :
    onlyParts ps s (State.beginConversion t c preset injected t_4) := by
  unfold State.beginConversion
  with_reducible repeat' first
    | exact h | assumption | exact sub_trans (by decide) hp | apply only_ite | apply only_mapRef | apply only_mapRefChan

theorem only_regularFrom {e : Nat} {t_2 : Nat} {n : Nat} (h : onlyParts ps s t) (hp : [.regs, .ref] ⊆ ps) :
    onlyParts ps s (State.regularFrom t e t_2 n) := by
  induction n generalizing t e t_2 with
  | zero =>
    unfold State.regularFrom
    with_reducible repeat' first
      | exact h | assumption | exact sub_trans (by decide) hp | apply only_ite | apply ih | apply only_bump | apply only_beginConversion
      | apply only_mapRef
  | succ n ih =>
    unfold State.regularFrom
    with_reducible repeat' first
      | exact h | assumption | exact sub_trans (by decide) hp | apply only_ite | apply ih | apply only_bump | apply only_beginConversion
      | apply only_mapRef

theorem only_resumeRegular {t_1 : Nat} (h : onlyParts ps s t) (hp : [.regs, .ref] ⊆ ps) : onlyParts ps s (State.resumeRegular t t_1) := by
  unfold State.resumeRegular
  with_reducible repeat' first
    | exact h | assumption | exact sub_trans (by decide) hp | apply only_ite | apply only_mapRef | apply only_regularFrom

theorem only_injectedFrom {e : Nat} {t_2 : Nat} {n : Nat} (h : onlyParts ps s t) (hp : [.regs, .ref] ⊆ ps) :
    onlyParts ps s (State.injectedFrom t e t_2 n) := by
  induction n generalizing t e t_2 with
  | zero =>
    unfold State.injectedFrom
    with_reducible repeat' first
      | exact h | assumption | exact sub_trans (by decide) hp | apply only_ite | apply ih | apply only_bump | apply only_beginConversion
      | apply only_mapRef | apply only_resumeRegular | apply only_beginCal | apply only_event
  | succ n ih =>
    unfold State.injectedFrom
    with_reducible repeat' first
      | exact h | assumption | exact sub_trans (by decide) hp | apply only_ite | apply ih | apply only_bump | apply only_beginConversion
      | apply only_mapRef

theorem only_beginInjected {t_1 : Nat} (h : onlyParts ps s t) (hp : [.regs, .ref] ⊆ ps) : onlyParts ps s (State.beginInjected t t_1) := by
  unfold State.beginInjected
  with_reducible repeat' first
    | exact h | assumption | exact sub_trans (by decide) hp | apply only_mapRef | apply only_injectedFrom

theorem only_injTrigger (h : onlyParts ps s t) (hp : [.regs, .ref] ⊆ ps) : onlyParts ps s (State.injTrigger t) := by
  unfold State.injTrigger
  with_reducible repeat' first
    | exact h | assumption | exact sub_trans (by decide) hp | apply only_ite | apply only_bump | apply only_mapRef
    | apply only_beginInjected | apply only_event

theorem only_publishOpen {c : Nat} {injected : Bool} {t_3 : Nat} (h : onlyParts ps s t) (hp : [.regs, .src, .dts, .ref, .fresh] ⊆ ps) :
    onlyParts ps s (State.publishOpen t c injected t_3) := by
  unfold State.publishOpen
  with_reducible repeat' first
    | exact h | assumption | exact sub_trans (by decide) hp | apply only_publish | apply only_fresh

theorem only_refInj (h : onlyParts ps s t) (hp : [.regs, .ref] ⊆ ps) : onlyParts ps s (State.refInj t) := by
  unfold State.refInj
  with_reducible repeat' first
    | exact h | assumption | exact sub_trans (by decide) hp | apply only_ite | apply only_injTrigger

theorem only_changeGain {c : Nat} {g : Nat} {to_ : Nat} (h : onlyParts ps s t) (hp : [.regs, .ref] ⊆ ps) :
    onlyParts ps s (State.changeGain t c g to_) := by
  unfold State.changeGain
  with_reducible repeat' first
    | exact h | assumption | exact sub_trans (by decide) hp | apply only_ite | apply only_bump | apply only_mapRefChan | apply only_event

theorem only_autoRange {c : Nat} {g : Nat} {beyond : Bool} {raw : Option Int} (h : onlyParts ps s t) (hp : [.regs, .ref] ⊆ ps) :
    onlyParts ps s (State.autoRange t c g beyond raw) := by
  unfold State.autoRange
  with_reducible repeat' first
    | exact h | assumption | exact sub_trans (by decide) hp | apply only_ite | apply only_mapRefChan | apply only_changeGain | intro _
    | split

theorem only_startCal (h : onlyParts ps s t) (hp : [.ref] ⊆ ps) : onlyParts ps s (State.startCal t) := by
  unfold State.startCal
  with_reducible repeat' first
    | exact h | assumption | exact sub_trans (by decide) hp | apply only_ite | apply only_mapRef | apply only_beginCal

theorem only_refFactor {addr : Nat} {v_2 : Word} (h : onlyParts ps s t) (hp : [.regs] ⊆ ps) :
    onlyParts ps s (State.refFactor t addr v_2) := by
  unfold State.refFactor
  with_reducible repeat' first
    | exact h | assumption | exact sub_trans (by decide) hp | apply only_setLive | intro _ | split

theorem only_endConversion {v_1 : Conversion} {sum : Int} {high : Nat} {low : Nat} (h : onlyParts ps s t) (hp : [.regs, .src, .dts, .ref, .fresh] ⊆ ps) :
    onlyParts ps s (State.endConversion t v_1 sum high low) := by
  unfold State.endConversion
  with_reducible repeat' first
    | exact h | assumption | exact sub_trans (by decide) hp | apply only_ite | apply only_bump | apply only_publishOpen
    | apply only_autoRange | apply only_wr | apply only_publish | apply only_mapRefChan | apply only_causeGone | apply only_raiseOpen
    | apply only_event | apply only_fresh

theorem only_replay (h : onlyParts ps s t) (hp : [.regs, .lan, .eth, .kpe] ⊆ ps) : onlyParts ps s (State.replay t) := by
  unfold State.replay
  with_reducible repeat' first
    | exact h | assumption | exact sub_trans (by decide) hp | apply only_ite | apply only_bump | apply only_mapCourse | apply only_replayAll
    | apply only_courseTrain | apply only_event

theorem only_rxError {m : Nat} (h : onlyParts ps s t) (hp : [.regs] ⊆ ps) : onlyParts ps s (State.rxError t m) := by
  unfold State.rxError
  with_reducible repeat' first
    | exact h | assumption | exact sub_trans (by decide) hp | apply only_bump

theorem only_echo {m : Nat} {eth : Nat} {ip : Nat} {data : List Byte} (h : onlyParts ps s t) (hp : [.regs, .eth] ⊆ ps) :
    onlyParts ps s (State.echo t m eth ip data) := by
  unfold State.echo
  with_reducible repeat' first
    | exact h | assumption | exact sub_trans (by decide) hp | apply only_ite | apply only_bump | apply only_macSend | apply only_mapMac

theorem only_rxFilter {m : Nat} (h : onlyParts ps s t) (hp : [.regs] ⊆ ps) : onlyParts ps s (State.rxFilter t m) := by
  unfold State.rxFilter
  with_reducible repeat' first
    | exact h | assumption | exact sub_trans (by decide) hp | apply only_bump

theorem only_ptpReceive {m : Nat} {payload : List Byte} (h : onlyParts ps s t) (hp : [.regs, .eth] ⊆ ps) :
    onlyParts ps s (State.ptpReceive t m payload) := by
  unfold State.ptpReceive
  with_reducible repeat' first
    | exact h | assumption | exact sub_trans (by decide) hp | apply only_ite | apply only_bump | apply only_mapMac | apply only_event

theorem only_rxBody {m : Nat} {f : RxFrame} (h : onlyParts ps s t) (hp : [.regs, .eth] ⊆ ps) :
    onlyParts ps s (State.rxBody t m f) := by
  unfold State.rxBody
  with_reducible repeat' first
    | exact h | assumption | exact sub_trans (by decide) hp | apply only_ite | apply only_rxError | apply only_macSend | apply only_echo
    | apply only_rxFilter | apply only_ptpReceive | intro _ | split

theorem only_relayDown {bytes : List Byte} (h : onlyParts ps s t) (hp : [.regs, .lan, .eth, .kpe] ⊆ ps) :
    onlyParts ps s (State.relayDown t bytes) := by
  unfold State.relayDown
  with_reducible repeat' first
    | exact h | assumption | exact sub_trans (by decide) hp | apply only_ite | apply only_bump | apply only_mapKpe | apply only_sendOn
    | intro _ | split | dsimp only

theorem only_peerPacket {bytes : List Byte} (h : onlyParts ps s t) (hp : [.regs, .lan, .eth, .kpe] ⊆ ps) :
    onlyParts ps s (State.peerPacket t bytes) := by
  unfold State.peerPacket
  with_reducible repeat' first
    | exact h | assumption | exact sub_trans (by decide) hp | apply only_ite | apply only_relayDown

theorem only_takeSegment {g : List Byte × Bool × Bool × Nat} (h : onlyParts ps s t) (hp : [.regs, .lan, .eth, .kpe] ⊆ ps) :
    onlyParts ps s (State.takeSegment t g) := by
  unfold State.takeSegment
  with_reducible repeat' first
    | exact h | assumption | exact sub_trans (by decide) hp | apply only_ite | apply only_bump | apply only_mapCourse
    | apply only_peerPacket | intro _ | split

theorem only_sendCtrlFlit {type : Nat} {payload : List Byte} (h : onlyParts ps s t) (hp : [.lan] ⊆ ps) :
    onlyParts ps s (State.sendCtrlFlit t type payload) := by
  unfold State.sendCtrlFlit
  with_reducible repeat' first
    | exact h | assumption | exact sub_trans (by decide) hp | apply only_ite | apply only_mapCourse

theorem only_nak (h : onlyParts ps s t) (hp : [.regs, .lan] ⊆ ps) : onlyParts ps s (State.nak t) := by
  unfold State.nak
  with_reducible repeat' first
    | exact h | assumption | exact sub_trans (by decide) hp | apply only_ite | apply only_bump | apply only_mapCourse
    | apply only_sendCtrlFlit

theorem only_dataFlit {f : RxFlit} (h : onlyParts ps s t) (hp : [.regs, .lan, .eth, .kpe] ⊆ ps) :
    onlyParts ps s (State.dataFlit t f) := by
  unfold State.dataFlit
  with_reducible repeat' first
    | exact h | assumption | exact sub_trans (by decide) hp | apply only_ite | apply only_bump | apply only_mapCourse
    | apply only_takeSegment | apply only_nak | refine only_foldl ?_ (fun _ _ _ => ?_) | intro _ | split

theorem only_plWake (h : onlyParts ps s t) (hp : [.regs, .lan, .eth, .kpe] ⊆ ps) : onlyParts ps s (State.plWake t) := by
  unfold State.plWake
  with_reducible repeat' first
    | exact h | assumption | exact sub_trans (by decide) hp | apply only_ite | apply only_courseDetect

theorem only_capsDone (h : onlyParts ps s t) (hp : [.regs, .lan, .eth, .kpe] ⊆ ps) : onlyParts ps s (State.capsDone t) := by
  unfold State.capsDone
  with_reducible repeat' first
    | exact h | assumption | exact sub_trans (by decide) hp | apply only_ite | apply only_mapCourse | apply only_courseTo
    | apply only_laneTo | apply only_event | refine only_foldl ?_ (fun _ _ _ => ?_)

theorem only_courseDormant (h : onlyParts ps s t) (hp : [.regs, .lan, .eth, .kpe] ⊆ ps) : onlyParts ps s (State.courseDormant t) := by
  unfold State.courseDormant
  with_reducible repeat' first
    | exact h | assumption | exact sub_trans (by decide) hp | apply only_courseTo | apply only_laneTo
    | refine only_foldl ?_ (fun _ _ _ => ?_)

theorem only_meetPeer {serial : Nat} {credits : Nat} {rxNext : Nat} (h : onlyParts ps s t) (hp : [.regs, .lan] ⊆ ps) :
    onlyParts ps s (State.meetPeer t serial credits rxNext) := by
  unfold State.meetPeer
  with_reducible repeat' first
    | exact h | assumption | exact sub_trans (by decide) hp | apply only_ite | apply only_mapCourse | apply only_bumpBy | apply only_event

theorem only_capsReceive {p : List Byte} (h : onlyParts ps s t) (hp : [.regs, .lan, .eth, .kpe] ⊆ ps) :
    onlyParts ps s (State.capsReceive t p) := by
  unfold State.capsReceive
  with_reducible repeat' first
    | exact h | assumption | exact sub_trans (by decide) hp | apply only_ite | apply only_mapCourse | apply only_capsDone
    | apply only_courseTo | apply only_laneTo | apply only_meetPeer | apply only_event | refine only_foldl ?_ (fun _ _ _ => ?_)

theorem only_takeAck {ack : Nat} {crd : Nat} (h : onlyParts ps s t) (hp : [.lan] ⊆ ps) : onlyParts ps s (State.takeAck t ack crd) := by
  unfold State.takeAck
  with_reducible repeat' first
    | exact h | assumption | exact sub_trans (by decide) hp | apply only_ite | apply only_mapCourse

theorem only_ctrlFlit {p : List Byte} (h : onlyParts ps s t) (hp : [.regs, .lan, .eth, .kpe] ⊆ ps) :
    onlyParts ps s (State.ctrlFlit t p) := by
  unfold State.ctrlFlit
  with_reducible repeat' first
    | exact h | assumption | exact sub_trans (by decide) hp | apply only_ite | apply only_mapCourse | apply only_sendCtrlFlit
    | apply only_courseDormant | apply only_capsReceive | intro _ | split

theorem only_plSleep (h : onlyParts ps s t) (hp : [.lan] ⊆ ps) : onlyParts ps s (State.plSleep t) := by
  unfold State.plSleep
  with_reducible repeat' first
    | exact h | assumption | exact sub_trans (by decide) hp | apply only_ite | apply only_mapCourse | apply only_sendCtrlFlit

theorem only_lockedCourse (h : onlyParts ps s t) (hp : [.regs, .lan, .eth, .kpe] ⊆ ps) : onlyParts ps s (State.lockedCourse t) := by
  unfold State.lockedCourse
  with_reducible repeat' first
    | exact h | assumption | exact sub_trans (by decide) hp | apply only_ite | apply only_courseTo

theorem only_trainedLanes (h : onlyParts ps s t) (hp : [.regs, .lan, .eth, .kpe] ⊆ ps) : onlyParts ps s (State.trainedLanes t) := by
  unfold State.trainedLanes
  with_reducible repeat' first
    | exact h | assumption | exact sub_trans (by decide) hp | apply only_ite | apply only_bump | apply only_courseTo | apply only_laneTo
    | refine only_foldl ?_ (fun _ _ _ => ?_)

theorem only_tsPop {mac : Nat} (h : onlyParts ps s t) (hp : [.eth] ⊆ ps) : onlyParts ps s (State.tsPop t mac) := by
  unfold State.tsPop
  with_reducible repeat' first
    | exact h | assumption | exact sub_trans (by decide) hp | apply only_mapMac

theorem only_correctTime {d : Int} (h : onlyParts ps s t) (hp : [.tim] ⊆ ps) : onlyParts ps s (State.correctTime t d) := by
  unfold State.correctTime
  with_reducible repeat' first
    | exact h | assumption | exact sub_trans (by decide) hp | apply only_ite | apply only_rebaseTime | apply only_mapTim

theorem only_loseLock {why : Nat} (h : onlyParts ps s t) (hp : [.regs, .evr, .tim] ⊆ ps) : onlyParts ps s (State.loseLock t why) := by
  unfold State.loseLock
  with_reducible repeat' first
    | exact h | assumption | exact sub_trans (by decide) hp | apply only_bump | apply only_record | apply only_mapTim | apply only_event

theorem only_setTime {v_1 : Nat} {servo : Bool} (h : onlyParts ps s t) (hp : [.regs, .tim] ⊆ ps) :
    onlyParts ps s (State.setTime t v_1 servo) := by
  unfold State.setTime
  with_reducible repeat' first
    | exact h | assumption | exact sub_trans (by decide) hp | apply only_ite | apply only_bump | apply only_mapTim | apply only_event

theorem only_burnOtp {v_1 : Word} (h : onlyParts ps s t) (hp : [.regs, .upd] ⊆ ps) : onlyParts ps s (State.burnOtp t v_1) := by
  unfold State.burnOtp
  with_reducible repeat' first
    | exact h | assumption | exact sub_trans (by decide) hp | apply only_ite | apply only_mapUpd | apply only_event

theorem only_kick {v_1 : Word} (h : onlyParts ps s t) (hp : [.mgc] ⊆ ps) : onlyParts ps s (State.kick t v_1) := by
  unfold State.kick
  with_reducible repeat' first
    | exact h | assumption | exact sub_trans (by decide) hp | apply only_ite | apply only_mapMgc

theorem only_siteConversion {n : Nat} {v_2 : Nat} (h : onlyParts ps s t) (hp : [.regs, .chp, .psq, .src, .occ, .cal, .phs, .pfl, .rmx, .dts, .aar, .zon, .gda, .gdb, .guards, .rng, .cmp, .cvu, .ref, .tiu, .lan, .eth, .kpe, .sns, .evr, .upd, .fresh] ⊆ ps) :
    onlyParts ps s (State.siteConversion t n v_2) := by
  unfold State.siteConversion
  with_reducible repeat' first
    | exact h | assumption | exact sub_trans (by decide) hp | apply only_ite | apply only_bump | apply only_mapSns | apply only_blockFault
    | apply only_wr | apply only_record | apply only_eventStands | apply only_causeGone

theorem only_railConversion {r : Nat} {v_2 : Nat} (h : onlyParts ps s t) (hp : [.regs, .sns, .evr] ⊆ ps) :
    onlyParts ps s (State.railConversion t r v_2) := by
  unfold State.railConversion
  with_reducible repeat' first
    | exact h | assumption | exact sub_trans (by decide) hp | apply only_ite | apply only_bump | apply only_mapSns | apply only_wr
    | apply only_record | apply only_eventStands | apply only_causeGone

theorem only_recordPowerFail (h : onlyParts ps s t) (hp : [.regs, .evr] ⊆ ps) : onlyParts ps s (State.recordPowerFail t) := by
  unfold State.recordPowerFail
  with_reducible repeat' first
    | exact h | assumption | exact sub_trans (by decide) hp | apply only_mapEvr | apply only_startPage | apply only_enterRecord

theorem only_linksFollow (h : onlyParts ps s t) (hp : [.regs, .lan, .eth, .kpe] ⊆ ps) : onlyParts ps s (State.linksFollow t) := by
  unfold State.linksFollow
  with_reducible repeat' first
    | exact h | assumption | exact sub_trans (by decide) hp | apply only_ite | apply only_courseFollow | apply only_macDown
    | apply only_mapLan | apply only_mapMac | refine only_foldl ?_ (fun _ _ _ => ?_)

theorem only_otpMacs (h : onlyParts ps s t) (hp : [.regs] ⊆ ps) : onlyParts ps s (State.otpMacs t) := by
  unfold State.otpMacs
  with_reducible repeat' first
    | exact h | assumption | exact sub_trans (by decide) hp | apply only_wr | refine only_foldl ?_ (fun _ _ _ => ?_)

theorem only_leaveService (h : onlyParts ps s t) (hp : [.regs, .chp, .psq, .src, .cal, .phs, .rmx, .zon, .gda, .gdb, .guards, .cmp, .kpe, .evr] ⊆ ps) :
    onlyParts ps s (State.leaveService t) := by
  unfold State.leaveService
  with_reducible repeat' first
    | exact h | assumption | exact sub_trans (by decide) hp | apply only_cancelApply | apply only_guardsIdle | apply only_streamsCease
    | apply only_releaseBuses | apply only_haltSweepEnd

theorem only_setMode {m : Mode} (h : onlyParts ps s t) (hp : [.regs, .mems, .chp, .psq, .src, .cal, .phs, .rmx, .zon, .gda, .gdb, .guards, .cmp, .dmc, .lan, .eth, .kpe, .mgc, .evr, .pwr, .fresh] ⊆ ps) :
    onlyParts ps s (State.setMode t m) := by
  unfold State.setMode
  with_reducible repeat' first
    | exact h | assumption | exact sub_trans (by decide) hp | apply only_ite | apply only_dropStaleFlags | apply only_notify
    | apply only_mapPwr | apply only_closeDram | apply only_leaveService | apply only_mapChp | apply only_linksFollow | apply only_wr
    | apply only_record | apply only_guardsEnterService | apply only_mapMgc

theorem only_activateStaged (h : onlyParts ps s t) (hp : [.regs, .mems, .chp, .psy, .occ, .crx, .chn, .phs, .pfl, .dts, .aar, .zon, .rng, .ref, .tiu, .kpe] ⊆ ps) :
    onlyParts ps s (State.activateStaged t) := by
  unfold State.activateStaged
  with_reducible repeat' first
    | exact h | assumption | exact sub_trans (by decide) hp | apply only_mapChp | apply only_mapPhs | apply only_takeStage

theorem only_modeRefused (h : onlyParts ps s t) (hp : [.regs] ⊆ ps) : onlyParts ps s (State.modeRefused t) := by
  unfold State.modeRefused
  with_reducible repeat' first
    | exact h | assumption | exact sub_trans (by decide) hp | apply only_bump | apply only_event

theorem only_prepPass (h : onlyParts ps s t) (hp : [.pwr] ⊆ ps) : onlyParts ps s (State.prepPass t) := by
  unfold State.prepPass
  with_reducible repeat' first
    | exact h | assumption | exact sub_trans (by decide) hp | apply only_mapPwr

theorem only_prepEnd {ok : Bool} (h : onlyParts ps s t) (hp : [.regs, .mems, .chp, .psq, .src, .cal, .phs, .rmx, .zon, .gda, .gdb, .guards, .cmp, .dmc, .lan, .eth, .kpe, .mgc, .evr, .pwr, .fresh] ⊆ ps) :
    onlyParts ps s (State.prepEnd t ok) := by
  unfold State.prepEnd
  with_reducible repeat' first
    | exact h | assumption | exact sub_trans (by decide) hp | apply only_ite | apply only_prepPass | apply only_setMode

theorem only_prepBegin (h : onlyParts ps s t) (hp : [.pwr] ⊆ ps) : onlyParts ps s (State.prepBegin t) := by
  unfold State.prepBegin
  with_reducible repeat' first
    | exact h | assumption | exact sub_trans (by decide) hp | apply only_mapPwr

theorem only_prepStep {sramOk : Bool} (h : onlyParts ps s t) (hp : [.regs, .mems, .chp, .psq, .src, .cal, .phs, .rmx, .zon, .gda, .gdb, .guards, .cmp, .dmc, .ref, .lan, .eth, .kpe, .mgc, .evr, .pwr, .fresh] ⊆ ps) :
    onlyParts ps s (State.prepStep t sramOk) := by
  unfold State.prepStep
  with_reducible repeat' first
    | exact h | assumption | exact sub_trans (by decide) hp | apply only_ite | apply only_prepPass | apply only_linksFollow
    | apply only_prepBegin | apply only_mapCal | apply only_prepEnd | apply only_startCal | apply only_beginSelfTest
    | apply only_beginTraining | intro _ | split

theorem only_runImage {slot : Option Nat} {trial : Bool} (h : onlyParts ps s t) (hp : [.mgc, .upd] ⊆ ps) :
    onlyParts ps s (State.runImage t slot trial) := by
  unfold State.runImage
  with_reducible repeat' first
    | exact h | assumption | exact sub_trans (by decide) hp | apply only_mapMgc | apply only_mapUpd | intro _ | split

theorem only_recordBoot {slot : Nat} {trial : Bool} {tries : Nat} {c : ResetCause} (h : onlyParts ps s t) (hp : [.regs, .evr] ⊆ ps) :
    onlyParts ps s (State.recordBoot t slot trial tries c) := by
  unfold State.recordBoot
  with_reducible repeat' first
    | exact h | assumption | exact sub_trans (by decide) hp | apply only_ite | apply only_record

theorem only_writeBootRecord {f : BootCopy → BootCopy} (h : onlyParts ps s t) (hp : [.upd] ⊆ ps) :
    onlyParts ps s (State.writeBootRecord t f) := by
  unfold State.writeBootRecord
  with_reducible repeat' first
    | exact h | assumption | exact sub_trans (by decide) hp | apply only_mapUpd

theorem only_applyCmd {armed : Armed} {late : Bool} (h : onlyParts ps s t) (hp : [.regs, .chp, .occ, .gda, .gdb] ⊆ ps) :
    onlyParts ps s (State.applyCmd t armed late) := by
  unfold State.applyCmd
  with_reducible repeat' first
    | exact h | assumption | exact sub_trans (by decide) hp | apply only_ite | apply only_mapChp | apply only_refuse | apply only_stageTo

theorem only_applyNext (h : onlyParts ps s t) (hp : [.regs, .chp, .occ, .gda, .gdb] ⊆ ps) : onlyParts ps s (State.applyNext t) := by
  unfold State.applyNext
  with_reducible repeat' first
    | exact h | assumption | exact sub_trans (by decide) hp | apply only_applyCmd

theorem only_stageTake {f : State → State} (h : onlyParts ps s t) (hp : [.regs, .chp, .occ, .gda, .gdb] ⊆ ps) (hf : ∀ a0, onlyParts ps s a0 → onlyParts ps s (f a0)) : onlyParts ps s (State.stageTake t f) := by
  unfold State.stageTake
  with_reducible repeat' first
    | exact h | assumption | exact sub_trans (by decide) hp | apply hf | apply only_bump | apply only_refuse | apply only_stageTo | intro _
    | split

theorem only_denyRow {m : Master} {r : RegRow} (h : onlyParts ps s t) (hp : [.regs] ⊆ ps) :
    onlyParts ps s (State.denyRow t m r) := by
  unfold State.denyRow
  with_reducible repeat' first
    | exact h | assumption | exact sub_trans (by decide) hp | apply only_ite | apply only_denySeal | apply only_denyPriv

theorem only_stageReg {m : Master} {r : RegRow} {a : Nat} {op : Word → Word} (h : onlyParts ps s t) (hp : [.regs, .chp, .occ, .gda, .gdb] ⊆ ps) :
    onlyParts ps s (State.stageReg t m r a op) := by
  unfold State.stageReg
  with_reducible repeat' first
    | exact h | assumption | exact sub_trans (by decide) hp | apply only_ite | apply only_stageTake | apply only_setStage
    | apply only_denyRow | intro _

theorem only_loadRegister {m : Master} {a : Nat} {v_3 : Word} (h : onlyParts ps s t) (hp : [.regs, .chp, .occ, .gda, .gdb] ⊆ ps) :
    onlyParts ps s (State.loadRegister t m a v_3).1 := by
  unfold State.loadRegister
  with_reducible repeat' first
    | exact h | assumption | exact sub_trans (by decide) hp | apply only_ite_fst | apply only_ite | apply only_bump | apply only_stageReg
    | refine only_pair (by assumption) ?_ | intro _ | split

theorem only_startCheck (h : onlyParts ps s t) (hp : [.regs, .chp, .occ, .gda, .gdb] ⊆ ps) : onlyParts ps s (State.startCheck t) := by
  unfold State.startCheck
  with_reducible repeat' first
    | exact h | assumption | exact sub_trans (by decide) hp | apply only_mapChp | apply only_mapOcc | apply only_refuse | apply only_stageTo
    | intro _ | split

theorem only_clearStage {m : Master} (h : onlyParts ps s t) (hp : [.regs, .mems, .chp, .gda, .gdb] ⊆ ps) :
    onlyParts ps s (State.clearStage t m) := by
  unfold State.clearStage
  with_reducible repeat' first
    | exact h | assumption | exact sub_trans (by decide) hp | apply only_ite | apply only_mapRegs | apply only_mapMems | apply only_mapChp
    | apply only_cancelLearn | apply only_denySeal | refine only_foldl ?_ (fun _ _ _ => ?_)

theorem only_profileWritten {a : Nat} (h : onlyParts ps s t) (hp : [.regs, .gda, .gdb] ⊆ ps) : onlyParts ps s (State.profileWritten t a) := by
  unfold State.profileWritten
  with_reducible repeat' first
    | exact h | assumption | exact sub_trans (by decide) hp | apply only_ite | apply only_cancelLearn

theorem only_loadMemory {m : Master} {target : Nat} {ws : List Word} (h : onlyParts ps s t) (hp : [.regs, .mems, .gda, .gdb] ⊆ ps) :
    onlyParts ps s (State.loadMemory t m target ws).1 := by
  unfold State.loadMemory
  with_reducible repeat' first
    | exact h | assumption | exact sub_trans (by decide) hp | apply only_ite_fst | apply only_ite | apply only_bump | apply only_mapMems
    | apply only_profileWritten | apply only_denySeal | refine only_foldl ?_ (fun _ _ _ => ?_)

theorem only_loadSections {m : Master} {bs : List Byte} {d : Nat} {off : Nat} {k_5 : Nat} (h : onlyParts ps s t) (hp : [.regs, .mems, .chp, .occ, .gda, .gdb] ⊆ ps) :
    onlyParts ps s (State.loadSections t m bs d off k_5).1 := by
  induction k_5 generalizing t m bs d off with
  | zero =>
    unfold State.loadSections
    with_reducible repeat' first
      | exact h
  | succ n ih =>
    unfold State.loadSections
    with_reducible repeat' first
      | exact h | assumption | exact sub_trans (by decide) hp | apply only_ite_fst | apply only_ite | apply ih | apply only_loadRegister
      | apply only_loadMemory | refine only_foldl ?_ (fun _ _ _ => ?_) | refine only_foldl_fst ?_ (fun _ _ _ => ?_)
      | refine only_pair (by assumption) ?_ | intro _ | split

theorem only_loadImage {m : Master} {bs : List Byte} (h : onlyParts ps s t) (hp : [.regs, .mems, .chp, .occ, .gda, .gdb] ⊆ ps) :
    onlyParts ps s (State.loadImage t m bs).1 := by
  unfold State.loadImage
  with_reducible repeat' first
    | exact h | assumption | exact sub_trans (by decide) hp | apply only_ite_fst | apply only_ite | apply only_clearStage
    | apply only_loadSections | apply only_mapChp | apply only_refuse | apply only_stageTo | apply only_setStage
    | refine only_pair (by assumption) ?_ | intro _ | split

theorem only_discard (h : onlyParts ps s t) (hp : [.regs, .chp, .occ, .gda, .gdb] ⊆ ps) : onlyParts ps s (State.discard t) := by
  unfold State.discard
  with_reducible repeat' first
    | exact h | assumption | exact sub_trans (by decide) hp | apply only_ite | apply only_mapChp | apply only_refuse | apply only_stageTo
    | intro _ | split

theorem only_stageMem {m : Master} {a : Nat} {v_3 : Word} (h : onlyParts ps s t) (hp : [.regs, .mems, .chp, .occ, .gda, .gdb] ⊆ ps) :
    onlyParts ps s (State.stageMem t m a v_3) := by
  unfold State.stageMem
  with_reducible repeat' first
    | exact h | assumption | exact sub_trans (by decide) hp | apply only_ite | apply only_stageTake | apply only_mapMems
    | apply only_profileWritten | apply only_denySeal | apply only_denyPriv | intro _

theorem only_applyAt (h : onlyParts ps s t) (hp : [.regs, .chp, .occ, .gda, .gdb] ⊆ ps) : onlyParts ps s (State.applyAt t) := by
  unfold State.applyAt
  with_reducible repeat' first
    | exact h | assumption | exact sub_trans (by decide) hp | apply only_applyCmd

theorem only_latchCounters (h : onlyParts ps s t) (hp : [.regs] ⊆ ps) : onlyParts ps s (State.latchCounters t) := by
  unfold State.latchCounters
  with_reducible repeat' first
    | exact h | assumption | exact sub_trans (by decide) hp | apply only_mapRegs

theorem only_injectWrite {code : Nat} {go : Bool} (h : onlyParts ps s t) (hp : [.regs, .chp] ⊆ ps) :
    onlyParts ps s (State.injectWrite t code go) := by
  unfold State.injectWrite
  with_reducible repeat' first
    | exact h | assumption | exact sub_trans (by decide) hp | apply only_ite | apply only_mapChp | apply only_wr | apply only_denyPriv

theorem only_snapRequest (h : onlyParts ps s t) (hp : [.chp] ⊆ ps) : onlyParts ps s (State.snapRequest t) := by
  unfold State.snapRequest
  with_reducible repeat' first
    | exact h | assumption | exact sub_trans (by decide) hp | apply only_mapChp

theorem only_toRecovery (h : onlyParts ps s t) (hp : [.regs, .mems, .chp, .psq, .src, .cal, .phs, .rmx, .zon, .gda, .gdb, .guards, .cmp, .dmc, .lan, .eth, .kpe, .mgc, .evr, .upd, .pwr, .fresh] ⊆ ps) :
    onlyParts ps s (State.toRecovery t) := by
  unfold State.toRecovery
  with_reducible repeat' first
    | exact h | assumption | exact sub_trans (by decide) hp | apply only_ite | apply only_recordBoot | apply only_setMode
    | apply only_runImage

theorem only_snapFree (h : onlyParts ps s t) (hp : [.chp] ⊆ ps) : onlyParts ps s (State.snapFree t) := by
  unfold State.snapFree
  with_reducible repeat' first
    | exact h | assumption | exact sub_trans (by decide) hp | apply only_mapChp

theorem only_snapRelease {v_1 : Word} (h : onlyParts ps s t) (hp : [.chp] ⊆ ps) : onlyParts ps s (State.snapRelease t v_1) := by
  unfold State.snapRelease
  with_reducible repeat' first
    | exact h | assumption | exact sub_trans (by decide) hp | apply only_ite | apply only_snapFree

theorem only_watchdogBoot (h : onlyParts ps s t) (hp : [.regs, .mems, .chp, .psq, .src, .cal, .phs, .rmx, .zon, .gda, .gdb, .guards, .cmp, .dmc, .lan, .eth, .kpe, .mgc, .evr, .upd, .pwr, .fresh] ⊆ ps) :
    onlyParts ps s (State.watchdogBoot t) := by
  unfold State.watchdogBoot
  with_reducible repeat' first
    | exact h | assumption | exact sub_trans (by decide) hp | apply only_ite | apply only_recordBoot | apply only_setMode
    | apply only_runImage

theorem only_resetMorsen (h : onlyParts ps s t) (hp : [.regs, .mgc, .pwr] ⊆ ps) : onlyParts ps s (State.resetMorsen t) := by
  unfold State.resetMorsen
  with_reducible repeat' first
    | exact h | assumption | exact sub_trans (by decide) hp | apply only_mapRegs | apply only_mapPwr | apply only_mapMgc

theorem only_startTab (h : onlyParts ps s t) (hp : [.regs, .mems, .chp, .psq, .psy, .occ, .crx, .chn, .phs, .pfl, .dts, .aar, .zon, .guards, .rng, .ref, .tiu, .kpe, .evr] ⊆ ps) :
    onlyParts ps s (State.startTab t) := by
  unfold State.startTab
  with_reducible repeat' first
    | exact h | assumption | exact sub_trans (by decide) hp | apply only_ite | apply only_clipToNow | apply only_mapPsq | apply only_retune
    | apply only_mapPfl | apply only_event

theorem only_pluckRequest {slot : Nat} {shape : Nat} {scale : Nat} (h : onlyParts ps s t) (hp : [.regs, .psq] ⊆ ps) :
    onlyParts ps s (State.pluckRequest t slot shape scale) := by
  unfold State.pluckRequest
  with_reducible repeat' first
    | exact h | assumption | exact sub_trans (by decide) hp | apply only_ite | apply only_wr | apply only_beginPluck | apply only_event

theorem only_pluckGo {slot : Nat} {shape : Nat} {scale : Nat} (h : onlyParts ps s t) (hp : [.regs, .psq] ⊆ ps) :
    onlyParts ps s (State.pluckGo t slot shape scale) := by
  unfold State.pluckGo
  with_reducible repeat' first
    | exact h | assumption | exact sub_trans (by decide) hp | apply only_wr | apply only_pluckRequest

theorem only_stageMiss (h : onlyParts ps s t) (hp : [.regs] ⊆ ps) : onlyParts ps s (State.stageMiss t) := by
  unfold State.stageMiss
  with_reducible repeat' first
    | exact h | assumption | exact sub_trans (by decide) hp | apply only_bump

theorem only_eachBit_nil {v : Word} (h : onlyParts ps s t) : onlyParts ps s (t.eachBit v []) := h

theorem only_eachBit_cons {v : Word} {i : Nat} {f : State → State} {cs : List (Nat × (State → State))} (h : onlyParts ps s t)
    (hf : ∀ t, onlyParts ps s t → onlyParts ps s (f t)) (hr : ∀ t, onlyParts ps s t → onlyParts ps s (t.eachBit v cs)) :
    onlyParts ps s (t.eachBit v ((i, f) :: cs)) := by
  unfold State.eachBit
  rw [List.foldl_cons]
  exact hr _ (only_ite (hf t h) h)

theorem only_wroteMgmt {a : Nat} {v_2 : Word} (h : onlyParts ps s t) (hp : [.regs, .psq, .src, .cal, .phs, .rmx, .gda, .gdb, .guards, .ref, .lan, .eth, .kpe, .mgc, .evr, .tim, .upd] ⊆ ps) :
    onlyParts ps s (State.wroteMgmt t a v_2) := by
  unfold State.wroteMgmt
  with_reducible repeat' first
    | exact h | assumption | exact sub_trans (by decide) hp | apply only_ite | apply only_courseFollow | apply only_kick | apply only_plWake
    | apply only_burnOtp | apply only_refInj | apply only_linksFollow | apply only_trip | apply only_cancelLearn | apply only_eraseCmd
    | apply only_eachBit_cons | apply only_eachBit_nil | apply only_startCal | apply only_setTime | apply only_beginLearn
    | apply only_plSleep | apply only_beginSelfTest | apply only_startPage | apply only_restartCmd | intro _ | split

theorem only_wrotePsq {a : Nat} {v_2 : Word} (h : onlyParts ps s t) (hp : [.regs, .mems, .chp, .psq, .psy, .occ, .crx, .chn, .phs, .pfl, .dts, .aar, .zon, .guards, .rng, .ref, .tiu, .kpe, .evr] ⊆ ps) :
    onlyParts ps s (State.wrotePsq t a v_2) := by
  unfold State.wrotePsq
  with_reducible repeat' first
    | exact h | assumption | exact sub_trans (by decide) hp | apply only_ite | apply only_startTab | apply only_pluckRequest
    | apply only_haltSweepEnd | apply only_haltNow | intro _ | split

theorem only_wroteCvu {u : Nat} {o : Nat} {v_3 : Word} (h : onlyParts ps s t) (hp : [.regs, .cvu, .evr] ⊆ ps) :
    onlyParts ps s (State.wroteCvu t u o v_3) := by
  unfold State.wroteCvu
  with_reducible repeat' first
    | exact h | assumption | exact sub_trans (by decide) hp | apply only_cvuEnd | apply only_cvuBegin | apply only_cvuFeed
    | apply only_cvuLoad | apply only_cvuIdle | apply only_mapCvuUnit | intro _ | split

theorem only_setShadow {m : Master} {x : Option Shadow} (h : onlyParts ps s t) (hp : [.chp] ⊆ ps) :
    onlyParts ps s (State.setShadow t m x) := by
  unfold State.setShadow
  with_reducible repeat' first
    | exact h | assumption | exact sub_trans (by decide) hp | apply only_mapChp

theorem only_store {m : Master} {r : RegRow} {a : Nat} {op : Word → Word} (h : onlyParts ps s t) (hp : [.regs] ⊆ ps) :
    onlyParts ps s (State.store t m r a op) := by
  unfold State.store
  with_reducible repeat' first
    | exact h | assumption | exact sub_trans (by decide) hp | apply only_ite | apply only_setLive

theorem only_beforeWrite {a : Nat} (h : onlyParts ps s t) (hp : [.regs, .psy, .tim] ⊆ ps) : onlyParts ps s (State.beforeWrite t a) := by
  unfold State.beforeWrite
  with_reducible repeat' first
    | exact h | assumption | exact sub_trans (by decide) hp | apply only_ite | apply only_clipToNow | apply only_setLive
    | apply only_rebaseTime

theorem only_timMode {was : Nat} (h : onlyParts ps s t) (hp : [.tim] ⊆ ps) : onlyParts ps s (State.timMode t was) := by
  unfold State.timMode
  with_reducible repeat' first
    | exact h | assumption | exact sub_trans (by decide) hp | apply only_ite | apply only_mapTim

theorem only_writeStage {m : Master} {r : RegRow} {a : Nat} {fl : Nat} {v_5 : Word} (h : onlyParts ps s t) (hp : [.regs, .chp, .occ, .gda, .gdb] ⊆ ps) :
    onlyParts ps s (State.writeStage t m r a fl v_5) := by
  unfold State.writeStage
  with_reducible repeat' first
    | exact h | assumption | exact sub_trans (by decide) hp | apply only_ite | apply only_stageMiss | apply only_stageReg
    | apply only_denyPriv

theorem only_readMem {m : Master} {slot : Nat} {off : Nat} {stage : Bool} (h : onlyParts ps s t) (hp : [.bus] ⊆ ps) :
    onlyParts ps s (State.readMem t m slot off stage) := by
  unfold State.readMem
  with_reducible repeat' first
    | exact h | assumption | exact sub_trans (by decide) hp | apply only_ite | apply only_answer

theorem only_readReg {m : Master} {r : RegRow} {a : Nat} (h : onlyParts ps s t) (hp : [.bus, .chp] ⊆ ps) :
    onlyParts ps s (State.readReg t m r a) := by
  unfold State.readReg
  with_reducible repeat' first
    | exact h | assumption | exact sub_trans (by decide) hp | apply only_ite | apply only_answer | apply only_setShadow

theorem only_readStage {m : Master} {r : RegRow} {a : Nat} (h : onlyParts ps s t) (hp : [.regs, .bus] ⊆ ps) :
    onlyParts ps s (State.readStage t m r a) := by
  unfold State.readStage
  with_reducible repeat' first
    | exact h | assumption | exact sub_trans (by decide) hp | apply only_ite | apply only_stageMiss | apply only_answer

theorem only_readWord {m : Master} {addr : Nat} (h : onlyParts ps s t) (hp : [.regs, .bus, .chp] ⊆ ps) :
    onlyParts ps s (State.readWord t m addr) := by
  unfold State.readWord
  with_reducible repeat' first
    | exact h | assumption | exact sub_trans (by decide) hp | apply only_ite | apply only_stageMiss | apply only_answer | apply only_readReg
    | apply only_readStage | apply only_busErr | apply only_readMem | intro _ | split

theorem only_bootNext {a : BootAct} (h : onlyParts ps s t) (hp : [.pwr] ⊆ ps) : onlyParts ps s (State.bootNext t a) := by
  unfold State.bootNext
  with_reducible repeat' first
    | exact h | assumption | exact sub_trans (by decide) hp | apply only_mapPwr

theorem only_numbered {n : Nat} {p : CtlPayload} (h : onlyParts ps s t) (hp : [.kpe, .upd] ⊆ ps) :
    onlyParts ps s (State.numbered t n p) := by
  unfold State.numbered
  with_reducible repeat' first
    | exact h | assumption | exact sub_trans (by decide) hp | apply only_ite | apply only_mapCmd | apply only_mapUpd | intro _ | split

theorem only_peerForward {k_1 : KpPath} {p : KpPacket} (h : onlyParts ps s t) (hp : [.regs, .lan, .kpe] ⊆ ps) :
    onlyParts ps s (State.peerForward t k_1 p) := by
  unfold State.peerForward
  with_reducible repeat' first
    | exact h | assumption | exact sub_trans (by decide) hp | apply only_ite | apply only_bump | apply only_plQueue | apply only_mapKpe

theorem only_kpTake {k_1 : KpPath} {p : KpPacket} {type : Nat} {f : State → State} (h : onlyParts ps s t) (hp : [.regs, .lan, .kpe] ⊆ ps) (hf : ∀ a0, onlyParts ps s a0 → onlyParts ps s (f a0)) : onlyParts ps s (State.kpTake t k_1 p type f) := by
  unfold State.kpTake
  with_reducible repeat' first
    | exact h | assumption | exact sub_trans (by decide) hp | apply only_ite | apply hf | apply only_bump | apply only_peerForward

theorem only_claimResult {n : Nat} {r : Nat} (h : onlyParts ps s t) (hp : [.regs, .kpe, .evr] ⊆ ps) :
    onlyParts ps s (State.claimResult t n r) := by
  unfold State.claimResult
  with_reducible repeat' first
    | exact h | assumption | exact sub_trans (by decide) hp | apply only_notifyOne | apply only_record

theorem only_pressed (h : onlyParts ps s t) (hp : [.regs, .kpe, .evr] ⊆ ps) : onlyParts ps s (State.pressed t) := by
  unfold State.pressed
  with_reducible repeat' first
    | exact h | assumption | exact sub_trans (by decide) hp | apply only_ite | apply only_bump | apply only_mapKpe | apply only_mapSess
    | apply only_claimResult | apply only_event | intro _ | split

theorem only_answerNow {n : Nat} {tag : Nat} {op : Nat} {st : Status} (h : onlyParts ps s t) (hp : [.kpe] ⊆ ps) :
    onlyParts ps s (State.answerNow t n tag op st) := by
  unfold State.answerNow
  with_reducible repeat' first
    | exact h | assumption | exact sub_trans (by decide) hp | apply only_queueCtl

theorem only_commandPacket {n : Nat} {tag : Nat} {op : Nat} {args : List Byte} (h : onlyParts ps s t) (hp : [.regs, .lan, .eth, .kpe, .fresh] ⊆ ps) :
    onlyParts ps s (State.commandPacket t n tag op args) := by
  unfold State.commandPacket
  with_reducible repeat' first
    | exact h | assumption | exact sub_trans (by decide) hp | apply only_ite | apply only_bump | apply only_sendUnseq | apply only_answerNow
    | apply only_queueCtl | apply only_mapSess | intro _ | split

theorem only_dropPacket {n : Nat} (h : onlyParts ps s t) (hp : [.regs, .kpe, .evr] ⊆ ps) : onlyParts ps s (State.dropPacket t n) := by
  unfold State.dropPacket
  with_reducible repeat' first
    | exact h | assumption | exact sub_trans (by decide) hp | apply only_ite | apply only_mapKpe | apply only_mapSess
    | apply only_claimResult

theorem only_claimPacket {n : Nat} (h : onlyParts ps s t) (hp : [.regs, .kpe, .evr] ⊆ ps) : onlyParts ps s (State.claimPacket t n) := by
  unfold State.claimPacket
  with_reducible repeat' first
    | exact h | assumption | exact sub_trans (by decide) hp | apply only_ite | apply only_notifyOne | apply only_mapKpe
    | apply only_claimResult | intro _ | split

theorem only_ackCtl {n : Nat} {ack : Nat} (h : onlyParts ps s t) (hp : [.kpe] ⊆ ps) : onlyParts ps s (State.ackCtl t n ack) := by
  unfold State.ackCtl
  with_reducible repeat' first
    | exact h | assumption | exact sub_trans (by decide) hp | apply only_ite | apply only_mapSess

theorem only_heard {k_1 : KpPath} {p : KpPacket} (h : onlyParts ps s t) (hp : [.regs, .lan, .eth, .kpe] ⊆ ps) :
    onlyParts ps s (State.heard t k_1 p) := by
  unfold State.heard
  with_reducible repeat' first
    | exact h | assumption | exact sub_trans (by decide) hp | apply only_ite | apply only_ackCtl | apply only_mapSess | apply only_resendAll

theorem only_openGrant {k_1 : KpPath} {p : KpPacket} {n : Nat} (h : onlyParts ps s t) (hp : [.regs, .lan, .eth, .kpe, .fresh] ⊆ ps) :
    onlyParts ps s (State.openGrant t k_1 p n) := by
  unfold State.openGrant
  with_reducible repeat' first
    | exact h | assumption | exact sub_trans (by decide) hp | apply only_ite | apply only_bump | apply only_sendUnseq | apply only_wr
    | apply only_mapKpe | apply only_mapSess | apply only_event | apply only_fresh

theorem only_openPlace (h : onlyParts ps s t) (hp : [.regs, .zon, .rng, .cmp, .lan, .eth, .kpe, .upd, .fresh] ⊆ ps) :
    onlyParts ps s (State.openPlace t).1 := by
  unfold State.openPlace
  with_reducible repeat' first
    | exact h | assumption | exact sub_trans (by decide) hp | apply only_ite_fst | apply only_ite | apply only_bump
    | apply only_closeSession | apply only_event | refine only_pair (by assumption) ?_ | intro _ | split

theorem only_openRefuse {k_1 : KpPath} {p : KpPacket} {st : Status} (h : onlyParts ps s t) (hp : [.regs, .lan, .eth, .fresh] ⊆ ps) :
    onlyParts ps s (State.openRefuse t k_1 p st) := by
  unfold State.openRefuse
  with_reducible repeat' first
    | exact h | assumption | exact sub_trans (by decide) hp | apply only_bump | apply only_sendUnseq | apply only_event | apply only_fresh

theorem only_openPacket {k_1 : KpPath} {p : KpPacket} (h : onlyParts ps s t) (hp : [.regs, .zon, .rng, .cmp, .lan, .eth, .kpe, .upd, .fresh] ⊆ ps) :
    onlyParts ps s (State.openPacket t k_1 p) := by
  unfold State.openPacket
  with_reducible repeat' first
    | exact h | assumption | exact sub_trans (by decide) hp | apply only_ite | apply only_openPlace | apply only_sendUnseq
    | apply only_openGrant | apply only_mapKpe | apply only_openRefuse | refine only_pair (by assumption) ?_ | intro _ | split | dsimp only

theorem only_endRead {n : Nat} {tag : Nat} {c : InFlight} (h : onlyParts ps s t) (hp : [.kpe] ⊆ ps) :
    onlyParts ps s (State.endRead t n tag c) := by
  unfold State.endRead
  with_reducible repeat' first
    | exact h | assumption | exact sub_trans (by decide) hp | apply only_ite | apply only_endCmd | intro _ | split

theorem only_readStep {n : Nat} {tag : Nat} {c : InFlight} {f : State → State} (h : onlyParts ps s t) (hp : [.kpe] ⊆ ps) (hf : ∀ a0, onlyParts ps s a0 → onlyParts ps s (f a0)) : onlyParts ps s (State.readStep t n tag c f) := by
  unfold State.readStep
  with_reducible repeat' first
    | exact h | assumption | exact sub_trans (by decide) hp | apply only_ite | apply hf | apply only_endRead

theorem only_kpAct {n : Nat} {tag : Nat} {f : InFlight → State → State} (h : onlyParts ps s t) (hp : [.kpe] ⊆ ps) (hf : ∀ a0 a1, onlyParts ps s a1 → onlyParts ps s (f a0 a1)) : onlyParts ps s (State.kpAct t n tag f) := by
  unfold State.kpAct
  with_reducible repeat' first
    | exact h | assumption | exact sub_trans (by decide) hp | apply only_ite | apply hf | apply only_mapCmd | intro _ | split

theorem only_finishRead {n : Nat} {tag : Nat} {st : Status} {detail : Nat} (h : onlyParts ps s t) (hp : [.rng, .cmp, .kpe] ⊆ ps) :
    onlyParts ps s (State.finishRead t n tag st detail) := by
  unfold State.finishRead
  with_reducible repeat' first
    | exact h | assumption | exact sub_trans (by decide) hp | apply only_endCtx | apply only_mapCmd | apply only_mapRng | intro _ | split

theorem only_formData {n : Nat} {tag : Nat} {flags : Nat} {rows : Nat} {offset : Nat} {bytes : List Byte} (h : onlyParts ps s t) (hp : [.kpe] ⊆ ps) :
    onlyParts ps s (State.formData t n tag flags rows offset bytes) := by
  unfold State.formData
  with_reducible repeat' first
    | exact h | assumption | exact sub_trans (by decide) hp | apply only_ite | apply only_queueCtl

theorem only_logStep {n : Nat} {tag : Nat} {c : InFlight} (h : onlyParts ps s t) (hp : [.rng, .cmp, .kpe] ⊆ ps) :
    onlyParts ps s (State.logStep t n tag c) := by
  unfold State.logStep
  with_reducible repeat' first
    | exact h | assumption | exact sub_trans (by decide) hp | apply only_ite | apply only_finishRead | apply only_mapCmd
    | apply only_formData | intro _ | split | dsimp only

theorem only_formRows {n : Nat} {tag : Nat} {c : InFlight} {rows : List RingRow} {o : Nat} {base : Nat} {first : Nat} {last : Nat} {room : Nat} (h : onlyParts ps s t) (hp : [.kpe] ⊆ ps) :
    onlyParts ps s (State.formRows t n tag c rows o base first last room) := by
  unfold State.formRows
  with_reducible repeat' first
    | exact h | assumption | exact sub_trans (by decide) hp | apply only_ite | apply only_mapCmd | apply only_formData | intro _ | split

theorem only_feedRow {i : Nat} {base : Nat} {o : Nat} {first : Nat} {last : Nat} {r : RingRow} {room : Nat} (h : onlyParts ps s t) (hp : [.regs, .cmp] ⊆ ps) :
    onlyParts ps s (State.feedRow t i base o first last r room) := by
  unfold State.feedRow
  with_reducible repeat' first
    | exact h | assumption | exact sub_trans (by decide) hp | apply only_ite | apply only_feedCtx | apply only_closeCtxBlock

theorem only_readLines {num : Option Nat} {o : Nat} {r : RingRow} {first : Nat} {last : Nat} (h : onlyParts ps s t) (hp : [.regs, .rng] ⊆ ps) :
    onlyParts ps s (State.readLines t num o r first last) := by
  unfold State.readLines
  with_reducible repeat' first
    | exact h | assumption | exact sub_trans (by decide) hp | apply only_ite | apply only_bumpBy | apply only_mapRng | apply only_event

theorem only_rowStep {n : Nat} {tag : Nat} {c : InFlight} {num : Option Nat} {base : Nat} {first : Nat} {last : Nat} {fateOf : State → Nat → RowFate} (h : onlyParts ps s t) (hp : [.regs, .rng, .cmp, .kpe] ⊆ ps) :
    onlyParts ps s (State.rowStep t n tag c num base first last fateOf) := by
  unfold State.rowStep
  with_reducible repeat' first
    | exact h | assumption | exact sub_trans (by decide) hp | apply only_ite | apply only_finishRead | apply only_formRows
    | apply only_feedRow | apply only_mapCmd | apply only_readLines | refine only_foldl ?_ (fun _ _ _ => ?_) | intro _ | split | dsimp only

theorem only_armCapture {n : Nat} {tag : Nat} {trigger : Nat} {first : Nat} {last : Nat} {pre : Nat} {post : Nat} {mode : Nat} (h : onlyParts ps s t) (hp : [.zon, .kpe] ⊆ ps) :
    onlyParts ps s (State.armCapture t n tag trigger first last pre post mode) := by
  unfold State.armCapture
  with_reducible repeat' first
    | exact h | assumption | exact sub_trans (by decide) hp | apply only_ite | apply only_endCmd | apply only_mapZon

theorem only_abortCmd {n : Nat} {tag : Nat} {target : Nat} (h : onlyParts ps s t) (hp : [.zon, .rng, .cmp, .kpe] ⊆ ps) :
    onlyParts ps s (State.abortCmd t n tag target) := by
  unfold State.abortCmd
  with_reducible repeat' first
    | exact h | assumption | exact sub_trans (by decide) hp | apply only_ite | apply only_endRead | apply only_dropCmd | apply only_endCmd
    | intro _ | split

theorem only_readCtx {n : Nat} {tag : Nat} {pred : Nat} {width : Nat} (h : onlyParts ps s t) (hp : [.regs, .cmp, .kpe] ⊆ ps) :
    onlyParts ps s (State.readCtx t n tag pred width) := by
  unfold State.readCtx
  with_reducible repeat' first
    | exact h | assumption | exact sub_trans (by decide) hp | apply only_ite | apply only_mapCmd | apply only_takeCtx

theorem only_capReadBegin {n : Nat} {tag : Nat} {num : Nat} {from_ : Nat} {count : Nat} {first : Nat} {last : Nat} {pred : Nat} (h : onlyParts ps s t) (hp : [.regs, .cmp, .kpe] ⊆ ps) :
    onlyParts ps s (State.capReadBegin t n tag num from_ count first last pred) := by
  unfold State.capReadBegin
  with_reducible repeat' first
    | exact h | assumption | exact sub_trans (by decide) hp | apply only_ite | apply only_readCtx | apply only_mapCmd | apply only_endCmd
    | intro _ | split

theorem only_readMany {m : Master} {as : List Nat} (h : onlyParts ps s t) (hp : [.regs, .bus, .chp] ⊆ ps) :
    onlyParts ps s (State.readMany t m as).1 := by
  unfold State.readMany
  with_reducible repeat' first
    | exact h | assumption | exact sub_trans (by decide) hp | apply only_readWord | refine only_foldl ?_ (fun _ _ _ => ?_)
    | refine only_foldl_fst ?_ (fun _ _ _ => ?_)

theorem only_commit {n : Nat} {tag : Nat} {bytes : Nat} (h : onlyParts ps s t) (hp : [.kpe] ⊆ ps) :
    onlyParts ps s (State.commit t n tag bytes) := by
  unfold State.commit
  with_reducible repeat' first
    | exact h | assumption | exact sub_trans (by decide) hp | apply only_mapCmd

theorem only_noteRead {n : Nat} {tag : Nat} {row : Nat} (h : onlyParts ps s t) (hp : [.rng] ⊆ ps) :
    onlyParts ps s (State.noteRead t n tag row) := by
  unfold State.noteRead
  with_reducible repeat' first
    | exact h | assumption | exact sub_trans (by decide) hp | apply only_ite | apply only_mapRng | intro _ | split

theorem only_ringReadBegin {n : Nat} {tag : Nat} {row : Nat} {count : Nat} {first : Nat} {last : Nat} {pred : Nat} (h : onlyParts ps s t) (hp : [.regs, .rng, .cmp, .kpe] ⊆ ps) :
    onlyParts ps s (State.ringReadBegin t n tag row count first last pred) := by
  unfold State.ringReadBegin
  with_reducible repeat' first
    | exact h | assumption | exact sub_trans (by decide) hp | apply only_ite | apply only_readCtx | apply only_mapCmd | apply only_endCmd
    | apply only_noteRead

theorem only_readRun {m : Master} {a : Nat} {k_3 : Nat} (h : onlyParts ps s t) (hp : [.regs, .bus, .chp] ⊆ ps) :
    onlyParts ps s (State.readRun t m a k_3).1 := by
  unfold State.readRun
  with_reducible repeat' first
    | exact h | assumption | exact sub_trans (by decide) hp | apply only_ite_fst | apply only_ite | apply only_readWord
    | refine only_foldl ?_ (fun _ _ _ => ?_) | refine only_foldl_fst ?_ (fun _ _ _ => ?_)

theorem only_memReadWords {n : Nat} {tag : Nat} {c : InFlight} {addr : Nat} {len : Nat} (h : onlyParts ps s t) (hp : [.regs, .bus, .chp, .rng, .cmp, .kpe] ⊆ ps) :
    onlyParts ps s (State.memReadWords t n tag c addr len) := by
  unfold State.memReadWords
  with_reducible repeat' first
    | exact h | assumption | exact sub_trans (by decide) hp | apply only_ite | apply only_finishRead | apply only_readRun
    | apply only_mapCmd | apply only_formData

theorem only_loadFrom {n : Nat} {tag : Nat} {addr : Nat} {len : Nat} (h : onlyParts ps s t) (hp : [.regs, .mems, .chp, .psq, .src, .occ, .cal, .phs, .pfl, .rmx, .dts, .aar, .zon, .gda, .gdb, .guards, .rng, .cmp, .cvu, .ref, .tiu, .lan, .eth, .kpe, .sns, .evr, .upd, .fresh] ⊆ ps) :
    onlyParts ps s (State.loadFrom t n tag addr len) := by
  unfold State.loadFrom
  with_reducible repeat' first
    | exact h | assumption | exact sub_trans (by decide) hp | apply only_ite | apply only_blockFault | apply only_endCmd
    | apply only_loadImage | apply only_commit | refine only_pair (by assumption) ?_ | intro _ | split | dsimp only

theorem only_memReadDram {n : Nat} {tag : Nat} {c : InFlight} {addr : Nat} {len : Nat} (h : onlyParts ps s t) (hp : [.rng, .cmp, .kpe] ⊆ ps) :
    onlyParts ps s (State.memReadDram t n tag c addr len) := by
  unfold State.memReadDram
  with_reducible repeat' first
    | exact h | assumption | exact sub_trans (by decide) hp | apply only_ite | apply only_finishRead | apply only_mapCmd
    | apply only_formData | intro _ | split

theorem only_loseWaiting {i : Nat} {x : Subscription} (h : onlyParts ps s t) (hp : [.kpe] ⊆ ps) :
    onlyParts ps s (State.loseWaiting t i x) := by
  unfold State.loseWaiting
  with_reducible repeat' first
    | exact h | assumption | exact sub_trans (by decide) hp | apply only_ite | apply only_mapSub

theorem only_subscribeTo {i : Nat} {x : Subscription} (h : onlyParts ps s t) (hp : [.regs, .cmp, .kpe] ⊆ ps) :
    onlyParts ps s (State.subscribeTo t i x) := by
  unfold State.subscribeTo
  with_reducible repeat' first
    | exact h | assumption | exact sub_trans (by decide) hp | apply only_ite | apply only_takeCtx | apply only_mapSub | apply only_mapKpe

theorem only_formEvents {i : Nat} {x : Subscription} {due : Bool} (h : onlyParts ps s t) (hp : [.kpe] ⊆ ps) :
    onlyParts ps s (State.formEvents t i x due) := by
  unfold State.formEvents
  with_reducible repeat' first
    | exact h | assumption | exact sub_trans (by decide) hp | apply only_ite | apply only_mapSub | apply only_formPacket

theorem only_formRuns {i : Nat} {x : Subscription} {r : StreamRow} {room : Nat} (h : onlyParts ps s t) (hp : [.kpe] ⊆ ps) :
    onlyParts ps s (State.formRuns t i x r room) := by
  unfold State.formRuns
  with_reducible repeat' first
    | exact h | assumption | exact sub_trans (by decide) hp | apply only_mapSub | apply only_formPacket
    | refine only_foldl ?_ (fun _ _ _ => ?_)

theorem only_formRowPacket {i : Nat} {x : Subscription} {due : Bool} (h : onlyParts ps s t) (hp : [.kpe] ⊆ ps) :
    onlyParts ps s (State.formRowPacket t i x due) := by
  unfold State.formRowPacket
  with_reducible repeat' first
    | exact h | assumption | exact sub_trans (by decide) hp | apply only_ite | apply only_mapSub | apply only_formRuns
    | apply only_formPacket | intro _ | split

theorem only_formNext {i : Nat} {due : Bool} (h : onlyParts ps s t) (hp : [.kpe] ⊆ ps) : onlyParts ps s (State.formNext t i due) := by
  unfold State.formNext
  with_reducible repeat' first
    | exact h | assumption | exact sub_trans (by decide) hp | apply only_ite | apply only_formEvents | apply only_formRowPacket
    | apply only_loseWaiting | intro _ | split

theorem only_flushSub {i : Nat} (h : onlyParts ps s t) (hp : [.cmp, .kpe] ⊆ ps) : onlyParts ps s (State.flushSub t i) := by
  unfold State.flushSub
  with_reducible repeat' first
    | exact h | assumption | exact sub_trans (by decide) hp | apply only_closeCtxBlock | apply only_formNext
    | refine only_foldl ?_ (fun _ _ _ => ?_) | intro _ | split

theorem only_raiseRollback {r : Nat} (h : onlyParts ps s t) (hp : [.upd] ⊆ ps) : onlyParts ps s (State.raiseRollback t r) := by
  unfold State.raiseRollback
  with_reducible repeat' first
    | exact h | assumption | exact sub_trans (by decide) hp | apply only_mapUpd

theorem only_endUpdate {n : Nat} {tag : Nat} {op : Nat} {st : Status} {result : List Byte} (h : onlyParts ps s t) (hp : [.regs, .kpe, .evr] ⊆ ps) :
    onlyParts ps s (State.endUpdate t n tag op st result) := by
  unfold State.endUpdate
  with_reducible repeat' first
    | exact h | assumption | exact sub_trans (by decide) hp | apply only_endCmd | apply only_record

theorem only_updateBegin {n : Nat} {tag : Nat} {ok : Bool} (h : onlyParts ps s t) (hp : [.regs, .kpe, .evr, .upd] ⊆ ps) :
    onlyParts ps s (State.updateBegin t n tag ok) := by
  unfold State.updateBegin
  with_reducible repeat' first
    | exact h | assumption | exact sub_trans (by decide) hp | apply only_ite | apply only_mapUpd | apply only_endUpdate

theorem only_updAct {n : Nat} {tag : Nat} {op : Nat} {f : Nat → Nat → Nat → List Byte → State → State} (h : onlyParts ps s t) (hp : [.regs, .kpe, .evr] ⊆ ps) (hf : ∀ a0 a1 a2 a3 a4, onlyParts ps s a4 → onlyParts ps s (f a0 a1 a2 a3 a4)) : onlyParts ps s (State.updAct t n tag op f) := by
  unfold State.updAct
  with_reducible repeat' first
    | exact h | assumption | exact sub_trans (by decide) hp | apply only_ite | apply hf | apply only_kpAct | apply only_endUpdate | intro _
    | split

theorem only_updateActivate {n : Nat} {tag : Nat} {flags : Nat} (h : onlyParts ps s t) (hp : [.regs, .kpe, .evr, .upd] ⊆ ps) :
    onlyParts ps s (State.updateActivate t n tag flags) := by
  unfold State.updateActivate
  with_reducible repeat' first
    | exact h | assumption | exact sub_trans (by decide) hp | apply only_ite | apply only_writeBootRecord | apply only_mapUpd
    | apply only_endUpdate

theorem only_updateCommit {n : Nat} {tag : Nat} (h : onlyParts ps s t) (hp : [.regs, .kpe, .evr, .upd] ⊆ ps) :
    onlyParts ps s (State.updateCommit t n tag) := by
  unfold State.updateCommit
  with_reducible repeat' first
    | exact h | assumption | exact sub_trans (by decide) hp | apply only_ite | apply only_raiseRollback | apply only_writeBootRecord
    | apply only_mapUpd | apply only_endUpdate

theorem only_signed {msg : List Byte} (h : onlyParts ps s t) (hp : [.regs] ⊆ ps) : onlyParts ps s (State.signed t msg).1 := by
  unfold State.signed
  with_reducible repeat' first
    | exact h | assumption | exact sub_trans (by decide) hp | apply only_event

theorem only_updateVerify {n : Nat} {tag : Nat} (h : onlyParts ps s t) (hp : [.regs, .kpe, .evr, .upd] ⊆ ps) :
    onlyParts ps s (State.updateVerify t n tag) := by
  unfold State.updateVerify
  with_reducible repeat' first
    | exact h | assumption | exact sub_trans (by decide) hp | apply only_mapUpd | apply only_endUpdate | intro _ | split | dsimp only

theorem only_updateWrite {n : Nat} {tag : Nat} {offset : Nat} {data : List Byte} {ok : Bool} (h : onlyParts ps s t) (hp : [.regs, .kpe, .evr, .upd] ⊆ ps) :
    onlyParts ps s (State.updateWrite t n tag offset data ok) := by
  unfold State.updateWrite
  with_reducible repeat' first
    | exact h | assumption | exact sub_trans (by decide) hp | apply only_ite | apply only_mapUpd | apply only_endUpdate | apply only_commit

theorem only_updateRevert {n : Nat} {tag : Nat} (h : onlyParts ps s t) (hp : [.regs, .kpe, .evr, .upd] ⊆ ps) :
    onlyParts ps s (State.updateRevert t n tag) := by
  unfold State.updateRevert
  with_reducible repeat' first
    | exact h | assumption | exact sub_trans (by decide) hp | apply only_writeBootRecord | apply only_mapUpd | apply only_endUpdate
    | intro _ | split | dsimp only

end Sys2Proof.Laws
end

