-- ==== Sys2Proof/Laws/State.lean ====
section
/-! SUPPORT. What each update of one part leaves in every field: one lemma per field and update. -/

namespace Sys2Proof.Laws

open Sys2Proof.Machine

/-! ### mapChp -/
@[simp] theorem mapChp_now (s : State) (f : Chp → Chp) : (s.mapChp f).now = s.now := rfl
@[simp] theorem mapChp_regs (s : State) (f : Chp → Chp) : (s.mapChp f).regs = s.regs := rfl
@[simp] theorem mapChp_mems (s : State) (f : Chp → Chp) : (s.mapChp f).mems = s.mems := rfl
@[simp] theorem mapChp_bus (s : State) (f : Chp → Chp) : (s.mapChp f).bus = s.bus := rfl
@[simp] theorem mapChp_chp (s : State) (f : Chp → Chp) : (s.mapChp f).chp = f s.chp := rfl
@[simp] theorem mapChp_psq (s : State) (f : Chp → Chp) : (s.mapChp f).psq = s.psq := rfl
@[simp] theorem mapChp_psy (s : State) (f : Chp → Chp) : (s.mapChp f).psy = s.psy := rfl
@[simp] theorem mapChp_src (s : State) (f : Chp → Chp) : (s.mapChp f).src = s.src := rfl
@[simp] theorem mapChp_occ (s : State) (f : Chp → Chp) : (s.mapChp f).occ = s.occ := rfl
@[simp] theorem mapChp_crx (s : State) (f : Chp → Chp) : (s.mapChp f).crx = s.crx := rfl
@[simp] theorem mapChp_cal (s : State) (f : Chp → Chp) : (s.mapChp f).cal = s.cal := rfl
@[simp] theorem mapChp_chn (s : State) (f : Chp → Chp) : (s.mapChp f).chn = s.chn := rfl
@[simp] theorem mapChp_pcm (s : State) (f : Chp → Chp) : (s.mapChp f).pcm = s.pcm := rfl
@[simp] theorem mapChp_phs (s : State) (f : Chp → Chp) : (s.mapChp f).phs = s.phs := rfl
@[simp] theorem mapChp_pfl (s : State) (f : Chp → Chp) : (s.mapChp f).pfl = s.pfl := rfl
@[simp] theorem mapChp_rmx (s : State) (f : Chp → Chp) : (s.mapChp f).rmx = s.rmx := rfl
@[simp] theorem mapChp_dts (s : State) (f : Chp → Chp) : (s.mapChp f).dts = s.dts := rfl
@[simp] theorem mapChp_aar (s : State) (f : Chp → Chp) : (s.mapChp f).aar = s.aar := rfl
@[simp] theorem mapChp_zon (s : State) (f : Chp → Chp) : (s.mapChp f).zon = s.zon := rfl
@[simp] theorem mapChp_gda (s : State) (f : Chp → Chp) : (s.mapChp f).gda = s.gda := rfl
@[simp] theorem mapChp_gdb (s : State) (f : Chp → Chp) : (s.mapChp f).gdb = s.gdb := rfl
@[simp] theorem mapChp_guards (s : State) (f : Chp → Chp) : (s.mapChp f).guards = s.guards := rfl
@[simp] theorem mapChp_rng (s : State) (f : Chp → Chp) : (s.mapChp f).rng = s.rng := rfl
@[simp] theorem mapChp_cmp (s : State) (f : Chp → Chp) : (s.mapChp f).cmp = s.cmp := rfl
@[simp] theorem mapChp_cvu (s : State) (f : Chp → Chp) : (s.mapChp f).cvu = s.cvu := rfl
@[simp] theorem mapChp_dmc (s : State) (f : Chp → Chp) : (s.mapChp f).dmc = s.dmc := rfl
@[simp] theorem mapChp_ref (s : State) (f : Chp → Chp) : (s.mapChp f).ref = s.ref := rfl
@[simp] theorem mapChp_tiu (s : State) (f : Chp → Chp) : (s.mapChp f).tiu = s.tiu := rfl
@[simp] theorem mapChp_lan (s : State) (f : Chp → Chp) : (s.mapChp f).lan = s.lan := rfl
@[simp] theorem mapChp_eth (s : State) (f : Chp → Chp) : (s.mapChp f).eth = s.eth := rfl
@[simp] theorem mapChp_kpe (s : State) (f : Chp → Chp) : (s.mapChp f).kpe = s.kpe := rfl
@[simp] theorem mapChp_mgc (s : State) (f : Chp → Chp) : (s.mapChp f).mgc = s.mgc := rfl
@[simp] theorem mapChp_sns (s : State) (f : Chp → Chp) : (s.mapChp f).sns = s.sns := rfl
@[simp] theorem mapChp_evr (s : State) (f : Chp → Chp) : (s.mapChp f).evr = s.evr := rfl
@[simp] theorem mapChp_tim (s : State) (f : Chp → Chp) : (s.mapChp f).tim = s.tim := rfl
@[simp] theorem mapChp_upd (s : State) (f : Chp → Chp) : (s.mapChp f).upd = s.upd := rfl
@[simp] theorem mapChp_pwr (s : State) (f : Chp → Chp) : (s.mapChp f).pwr = s.pwr := rfl
@[simp] theorem mapChp_fresh (s : State) (f : Chp → Chp) : (s.mapChp f).fresh = s.fresh := rfl
@[simp] theorem mapChp_pending (s : State) (f : Chp → Chp) : (s.mapChp f).pending = s.pending := rfl

/-! ### mapPsq -/
@[simp] theorem mapPsq_now (s : State) (f : Psq → Psq) : (s.mapPsq f).now = s.now := rfl
@[simp] theorem mapPsq_regs (s : State) (f : Psq → Psq) : (s.mapPsq f).regs = s.regs := rfl
@[simp] theorem mapPsq_mems (s : State) (f : Psq → Psq) : (s.mapPsq f).mems = s.mems := rfl
@[simp] theorem mapPsq_bus (s : State) (f : Psq → Psq) : (s.mapPsq f).bus = s.bus := rfl
@[simp] theorem mapPsq_chp (s : State) (f : Psq → Psq) : (s.mapPsq f).chp = s.chp := rfl
@[simp] theorem mapPsq_psq (s : State) (f : Psq → Psq) : (s.mapPsq f).psq = f s.psq := rfl
@[simp] theorem mapPsq_psy (s : State) (f : Psq → Psq) : (s.mapPsq f).psy = s.psy := rfl
@[simp] theorem mapPsq_src (s : State) (f : Psq → Psq) : (s.mapPsq f).src = s.src := rfl
@[simp] theorem mapPsq_occ (s : State) (f : Psq → Psq) : (s.mapPsq f).occ = s.occ := rfl
@[simp] theorem mapPsq_crx (s : State) (f : Psq → Psq) : (s.mapPsq f).crx = s.crx := rfl
@[simp] theorem mapPsq_cal (s : State) (f : Psq → Psq) : (s.mapPsq f).cal = s.cal := rfl
@[simp] theorem mapPsq_chn (s : State) (f : Psq → Psq) : (s.mapPsq f).chn = s.chn := rfl
@[simp] theorem mapPsq_pcm (s : State) (f : Psq → Psq) : (s.mapPsq f).pcm = s.pcm := rfl
@[simp] theorem mapPsq_phs (s : State) (f : Psq → Psq) : (s.mapPsq f).phs = s.phs := rfl
@[simp] theorem mapPsq_pfl (s : State) (f : Psq → Psq) : (s.mapPsq f).pfl = s.pfl := rfl
@[simp] theorem mapPsq_rmx (s : State) (f : Psq → Psq) : (s.mapPsq f).rmx = s.rmx := rfl
@[simp] theorem mapPsq_dts (s : State) (f : Psq → Psq) : (s.mapPsq f).dts = s.dts := rfl
@[simp] theorem mapPsq_aar (s : State) (f : Psq → Psq) : (s.mapPsq f).aar = s.aar := rfl
@[simp] theorem mapPsq_zon (s : State) (f : Psq → Psq) : (s.mapPsq f).zon = s.zon := rfl
@[simp] theorem mapPsq_gda (s : State) (f : Psq → Psq) : (s.mapPsq f).gda = s.gda := rfl
@[simp] theorem mapPsq_gdb (s : State) (f : Psq → Psq) : (s.mapPsq f).gdb = s.gdb := rfl
@[simp] theorem mapPsq_guards (s : State) (f : Psq → Psq) : (s.mapPsq f).guards = s.guards := rfl
@[simp] theorem mapPsq_rng (s : State) (f : Psq → Psq) : (s.mapPsq f).rng = s.rng := rfl
@[simp] theorem mapPsq_cmp (s : State) (f : Psq → Psq) : (s.mapPsq f).cmp = s.cmp := rfl
@[simp] theorem mapPsq_cvu (s : State) (f : Psq → Psq) : (s.mapPsq f).cvu = s.cvu := rfl
@[simp] theorem mapPsq_dmc (s : State) (f : Psq → Psq) : (s.mapPsq f).dmc = s.dmc := rfl
@[simp] theorem mapPsq_ref (s : State) (f : Psq → Psq) : (s.mapPsq f).ref = s.ref := rfl
@[simp] theorem mapPsq_tiu (s : State) (f : Psq → Psq) : (s.mapPsq f).tiu = s.tiu := rfl
@[simp] theorem mapPsq_lan (s : State) (f : Psq → Psq) : (s.mapPsq f).lan = s.lan := rfl
@[simp] theorem mapPsq_eth (s : State) (f : Psq → Psq) : (s.mapPsq f).eth = s.eth := rfl
@[simp] theorem mapPsq_kpe (s : State) (f : Psq → Psq) : (s.mapPsq f).kpe = s.kpe := rfl
@[simp] theorem mapPsq_mgc (s : State) (f : Psq → Psq) : (s.mapPsq f).mgc = s.mgc := rfl
@[simp] theorem mapPsq_sns (s : State) (f : Psq → Psq) : (s.mapPsq f).sns = s.sns := rfl
@[simp] theorem mapPsq_evr (s : State) (f : Psq → Psq) : (s.mapPsq f).evr = s.evr := rfl
@[simp] theorem mapPsq_tim (s : State) (f : Psq → Psq) : (s.mapPsq f).tim = s.tim := rfl
@[simp] theorem mapPsq_upd (s : State) (f : Psq → Psq) : (s.mapPsq f).upd = s.upd := rfl
@[simp] theorem mapPsq_pwr (s : State) (f : Psq → Psq) : (s.mapPsq f).pwr = s.pwr := rfl
@[simp] theorem mapPsq_fresh (s : State) (f : Psq → Psq) : (s.mapPsq f).fresh = s.fresh := rfl
@[simp] theorem mapPsq_pending (s : State) (f : Psq → Psq) : (s.mapPsq f).pending = s.pending := rfl

/-! ### mapPsy -/
@[simp] theorem mapPsy_now (s : State) (f : Psy → Psy) : (s.mapPsy f).now = s.now := rfl
@[simp] theorem mapPsy_regs (s : State) (f : Psy → Psy) : (s.mapPsy f).regs = s.regs := rfl
@[simp] theorem mapPsy_mems (s : State) (f : Psy → Psy) : (s.mapPsy f).mems = s.mems := rfl
@[simp] theorem mapPsy_bus (s : State) (f : Psy → Psy) : (s.mapPsy f).bus = s.bus := rfl
@[simp] theorem mapPsy_chp (s : State) (f : Psy → Psy) : (s.mapPsy f).chp = s.chp := rfl
@[simp] theorem mapPsy_psq (s : State) (f : Psy → Psy) : (s.mapPsy f).psq = s.psq := rfl
@[simp] theorem mapPsy_psy (s : State) (f : Psy → Psy) : (s.mapPsy f).psy = f s.psy := rfl
@[simp] theorem mapPsy_src (s : State) (f : Psy → Psy) : (s.mapPsy f).src = s.src := rfl
@[simp] theorem mapPsy_occ (s : State) (f : Psy → Psy) : (s.mapPsy f).occ = s.occ := rfl
@[simp] theorem mapPsy_crx (s : State) (f : Psy → Psy) : (s.mapPsy f).crx = s.crx := rfl
@[simp] theorem mapPsy_cal (s : State) (f : Psy → Psy) : (s.mapPsy f).cal = s.cal := rfl
@[simp] theorem mapPsy_chn (s : State) (f : Psy → Psy) : (s.mapPsy f).chn = s.chn := rfl
@[simp] theorem mapPsy_pcm (s : State) (f : Psy → Psy) : (s.mapPsy f).pcm = s.pcm := rfl
@[simp] theorem mapPsy_phs (s : State) (f : Psy → Psy) : (s.mapPsy f).phs = s.phs := rfl
@[simp] theorem mapPsy_pfl (s : State) (f : Psy → Psy) : (s.mapPsy f).pfl = s.pfl := rfl
@[simp] theorem mapPsy_rmx (s : State) (f : Psy → Psy) : (s.mapPsy f).rmx = s.rmx := rfl
@[simp] theorem mapPsy_dts (s : State) (f : Psy → Psy) : (s.mapPsy f).dts = s.dts := rfl
@[simp] theorem mapPsy_aar (s : State) (f : Psy → Psy) : (s.mapPsy f).aar = s.aar := rfl
@[simp] theorem mapPsy_zon (s : State) (f : Psy → Psy) : (s.mapPsy f).zon = s.zon := rfl
@[simp] theorem mapPsy_gda (s : State) (f : Psy → Psy) : (s.mapPsy f).gda = s.gda := rfl
@[simp] theorem mapPsy_gdb (s : State) (f : Psy → Psy) : (s.mapPsy f).gdb = s.gdb := rfl
@[simp] theorem mapPsy_guards (s : State) (f : Psy → Psy) : (s.mapPsy f).guards = s.guards := rfl
@[simp] theorem mapPsy_rng (s : State) (f : Psy → Psy) : (s.mapPsy f).rng = s.rng := rfl
@[simp] theorem mapPsy_cmp (s : State) (f : Psy → Psy) : (s.mapPsy f).cmp = s.cmp := rfl
@[simp] theorem mapPsy_cvu (s : State) (f : Psy → Psy) : (s.mapPsy f).cvu = s.cvu := rfl
@[simp] theorem mapPsy_dmc (s : State) (f : Psy → Psy) : (s.mapPsy f).dmc = s.dmc := rfl
@[simp] theorem mapPsy_ref (s : State) (f : Psy → Psy) : (s.mapPsy f).ref = s.ref := rfl
@[simp] theorem mapPsy_tiu (s : State) (f : Psy → Psy) : (s.mapPsy f).tiu = s.tiu := rfl
@[simp] theorem mapPsy_lan (s : State) (f : Psy → Psy) : (s.mapPsy f).lan = s.lan := rfl
@[simp] theorem mapPsy_eth (s : State) (f : Psy → Psy) : (s.mapPsy f).eth = s.eth := rfl
@[simp] theorem mapPsy_kpe (s : State) (f : Psy → Psy) : (s.mapPsy f).kpe = s.kpe := rfl
@[simp] theorem mapPsy_mgc (s : State) (f : Psy → Psy) : (s.mapPsy f).mgc = s.mgc := rfl
@[simp] theorem mapPsy_sns (s : State) (f : Psy → Psy) : (s.mapPsy f).sns = s.sns := rfl
@[simp] theorem mapPsy_evr (s : State) (f : Psy → Psy) : (s.mapPsy f).evr = s.evr := rfl
@[simp] theorem mapPsy_tim (s : State) (f : Psy → Psy) : (s.mapPsy f).tim = s.tim := rfl
@[simp] theorem mapPsy_upd (s : State) (f : Psy → Psy) : (s.mapPsy f).upd = s.upd := rfl
@[simp] theorem mapPsy_pwr (s : State) (f : Psy → Psy) : (s.mapPsy f).pwr = s.pwr := rfl
@[simp] theorem mapPsy_fresh (s : State) (f : Psy → Psy) : (s.mapPsy f).fresh = s.fresh := rfl
@[simp] theorem mapPsy_pending (s : State) (f : Psy → Psy) : (s.mapPsy f).pending = s.pending := rfl

/-! ### mapSrc -/
@[simp] theorem mapSrc_now (s : State) (f : Src → Src) : (s.mapSrc f).now = s.now := rfl
@[simp] theorem mapSrc_regs (s : State) (f : Src → Src) : (s.mapSrc f).regs = s.regs := rfl
@[simp] theorem mapSrc_mems (s : State) (f : Src → Src) : (s.mapSrc f).mems = s.mems := rfl
@[simp] theorem mapSrc_bus (s : State) (f : Src → Src) : (s.mapSrc f).bus = s.bus := rfl
@[simp] theorem mapSrc_chp (s : State) (f : Src → Src) : (s.mapSrc f).chp = s.chp := rfl
@[simp] theorem mapSrc_psq (s : State) (f : Src → Src) : (s.mapSrc f).psq = s.psq := rfl
@[simp] theorem mapSrc_psy (s : State) (f : Src → Src) : (s.mapSrc f).psy = s.psy := rfl
@[simp] theorem mapSrc_src (s : State) (f : Src → Src) : (s.mapSrc f).src = f s.src := rfl
@[simp] theorem mapSrc_occ (s : State) (f : Src → Src) : (s.mapSrc f).occ = s.occ := rfl
@[simp] theorem mapSrc_crx (s : State) (f : Src → Src) : (s.mapSrc f).crx = s.crx := rfl
@[simp] theorem mapSrc_cal (s : State) (f : Src → Src) : (s.mapSrc f).cal = s.cal := rfl
@[simp] theorem mapSrc_chn (s : State) (f : Src → Src) : (s.mapSrc f).chn = s.chn := rfl
@[simp] theorem mapSrc_pcm (s : State) (f : Src → Src) : (s.mapSrc f).pcm = s.pcm := rfl
@[simp] theorem mapSrc_phs (s : State) (f : Src → Src) : (s.mapSrc f).phs = s.phs := rfl
@[simp] theorem mapSrc_pfl (s : State) (f : Src → Src) : (s.mapSrc f).pfl = s.pfl := rfl
@[simp] theorem mapSrc_rmx (s : State) (f : Src → Src) : (s.mapSrc f).rmx = s.rmx := rfl
@[simp] theorem mapSrc_dts (s : State) (f : Src → Src) : (s.mapSrc f).dts = s.dts := rfl
@[simp] theorem mapSrc_aar (s : State) (f : Src → Src) : (s.mapSrc f).aar = s.aar := rfl
@[simp] theorem mapSrc_zon (s : State) (f : Src → Src) : (s.mapSrc f).zon = s.zon := rfl
@[simp] theorem mapSrc_gda (s : State) (f : Src → Src) : (s.mapSrc f).gda = s.gda := rfl
@[simp] theorem mapSrc_gdb (s : State) (f : Src → Src) : (s.mapSrc f).gdb = s.gdb := rfl
@[simp] theorem mapSrc_guards (s : State) (f : Src → Src) : (s.mapSrc f).guards = s.guards := rfl
@[simp] theorem mapSrc_rng (s : State) (f : Src → Src) : (s.mapSrc f).rng = s.rng := rfl
@[simp] theorem mapSrc_cmp (s : State) (f : Src → Src) : (s.mapSrc f).cmp = s.cmp := rfl
@[simp] theorem mapSrc_cvu (s : State) (f : Src → Src) : (s.mapSrc f).cvu = s.cvu := rfl
@[simp] theorem mapSrc_dmc (s : State) (f : Src → Src) : (s.mapSrc f).dmc = s.dmc := rfl
@[simp] theorem mapSrc_ref (s : State) (f : Src → Src) : (s.mapSrc f).ref = s.ref := rfl
@[simp] theorem mapSrc_tiu (s : State) (f : Src → Src) : (s.mapSrc f).tiu = s.tiu := rfl
@[simp] theorem mapSrc_lan (s : State) (f : Src → Src) : (s.mapSrc f).lan = s.lan := rfl
@[simp] theorem mapSrc_eth (s : State) (f : Src → Src) : (s.mapSrc f).eth = s.eth := rfl
@[simp] theorem mapSrc_kpe (s : State) (f : Src → Src) : (s.mapSrc f).kpe = s.kpe := rfl
@[simp] theorem mapSrc_mgc (s : State) (f : Src → Src) : (s.mapSrc f).mgc = s.mgc := rfl
@[simp] theorem mapSrc_sns (s : State) (f : Src → Src) : (s.mapSrc f).sns = s.sns := rfl
@[simp] theorem mapSrc_evr (s : State) (f : Src → Src) : (s.mapSrc f).evr = s.evr := rfl
@[simp] theorem mapSrc_tim (s : State) (f : Src → Src) : (s.mapSrc f).tim = s.tim := rfl
@[simp] theorem mapSrc_upd (s : State) (f : Src → Src) : (s.mapSrc f).upd = s.upd := rfl
@[simp] theorem mapSrc_pwr (s : State) (f : Src → Src) : (s.mapSrc f).pwr = s.pwr := rfl
@[simp] theorem mapSrc_fresh (s : State) (f : Src → Src) : (s.mapSrc f).fresh = s.fresh := rfl
@[simp] theorem mapSrc_pending (s : State) (f : Src → Src) : (s.mapSrc f).pending = s.pending := rfl

/-! ### mapOcc -/
@[simp] theorem mapOcc_now (s : State) (f : Occ → Occ) : (s.mapOcc f).now = s.now := rfl
@[simp] theorem mapOcc_regs (s : State) (f : Occ → Occ) : (s.mapOcc f).regs = s.regs := rfl
@[simp] theorem mapOcc_mems (s : State) (f : Occ → Occ) : (s.mapOcc f).mems = s.mems := rfl
@[simp] theorem mapOcc_bus (s : State) (f : Occ → Occ) : (s.mapOcc f).bus = s.bus := rfl
@[simp] theorem mapOcc_chp (s : State) (f : Occ → Occ) : (s.mapOcc f).chp = s.chp := rfl
@[simp] theorem mapOcc_psq (s : State) (f : Occ → Occ) : (s.mapOcc f).psq = s.psq := rfl
@[simp] theorem mapOcc_psy (s : State) (f : Occ → Occ) : (s.mapOcc f).psy = s.psy := rfl
@[simp] theorem mapOcc_src (s : State) (f : Occ → Occ) : (s.mapOcc f).src = s.src := rfl
@[simp] theorem mapOcc_occ (s : State) (f : Occ → Occ) : (s.mapOcc f).occ = f s.occ := rfl
@[simp] theorem mapOcc_crx (s : State) (f : Occ → Occ) : (s.mapOcc f).crx = s.crx := rfl
@[simp] theorem mapOcc_cal (s : State) (f : Occ → Occ) : (s.mapOcc f).cal = s.cal := rfl
@[simp] theorem mapOcc_chn (s : State) (f : Occ → Occ) : (s.mapOcc f).chn = s.chn := rfl
@[simp] theorem mapOcc_pcm (s : State) (f : Occ → Occ) : (s.mapOcc f).pcm = s.pcm := rfl
@[simp] theorem mapOcc_phs (s : State) (f : Occ → Occ) : (s.mapOcc f).phs = s.phs := rfl
@[simp] theorem mapOcc_pfl (s : State) (f : Occ → Occ) : (s.mapOcc f).pfl = s.pfl := rfl
@[simp] theorem mapOcc_rmx (s : State) (f : Occ → Occ) : (s.mapOcc f).rmx = s.rmx := rfl
@[simp] theorem mapOcc_dts (s : State) (f : Occ → Occ) : (s.mapOcc f).dts = s.dts := rfl
@[simp] theorem mapOcc_aar (s : State) (f : Occ → Occ) : (s.mapOcc f).aar = s.aar := rfl
@[simp] theorem mapOcc_zon (s : State) (f : Occ → Occ) : (s.mapOcc f).zon = s.zon := rfl
@[simp] theorem mapOcc_gda (s : State) (f : Occ → Occ) : (s.mapOcc f).gda = s.gda := rfl
@[simp] theorem mapOcc_gdb (s : State) (f : Occ → Occ) : (s.mapOcc f).gdb = s.gdb := rfl
@[simp] theorem mapOcc_guards (s : State) (f : Occ → Occ) : (s.mapOcc f).guards = s.guards := rfl
@[simp] theorem mapOcc_rng (s : State) (f : Occ → Occ) : (s.mapOcc f).rng = s.rng := rfl
@[simp] theorem mapOcc_cmp (s : State) (f : Occ → Occ) : (s.mapOcc f).cmp = s.cmp := rfl
@[simp] theorem mapOcc_cvu (s : State) (f : Occ → Occ) : (s.mapOcc f).cvu = s.cvu := rfl
@[simp] theorem mapOcc_dmc (s : State) (f : Occ → Occ) : (s.mapOcc f).dmc = s.dmc := rfl
@[simp] theorem mapOcc_ref (s : State) (f : Occ → Occ) : (s.mapOcc f).ref = s.ref := rfl
@[simp] theorem mapOcc_tiu (s : State) (f : Occ → Occ) : (s.mapOcc f).tiu = s.tiu := rfl
@[simp] theorem mapOcc_lan (s : State) (f : Occ → Occ) : (s.mapOcc f).lan = s.lan := rfl
@[simp] theorem mapOcc_eth (s : State) (f : Occ → Occ) : (s.mapOcc f).eth = s.eth := rfl
@[simp] theorem mapOcc_kpe (s : State) (f : Occ → Occ) : (s.mapOcc f).kpe = s.kpe := rfl
@[simp] theorem mapOcc_mgc (s : State) (f : Occ → Occ) : (s.mapOcc f).mgc = s.mgc := rfl
@[simp] theorem mapOcc_sns (s : State) (f : Occ → Occ) : (s.mapOcc f).sns = s.sns := rfl
@[simp] theorem mapOcc_evr (s : State) (f : Occ → Occ) : (s.mapOcc f).evr = s.evr := rfl
@[simp] theorem mapOcc_tim (s : State) (f : Occ → Occ) : (s.mapOcc f).tim = s.tim := rfl
@[simp] theorem mapOcc_upd (s : State) (f : Occ → Occ) : (s.mapOcc f).upd = s.upd := rfl
@[simp] theorem mapOcc_pwr (s : State) (f : Occ → Occ) : (s.mapOcc f).pwr = s.pwr := rfl
@[simp] theorem mapOcc_fresh (s : State) (f : Occ → Occ) : (s.mapOcc f).fresh = s.fresh := rfl
@[simp] theorem mapOcc_pending (s : State) (f : Occ → Occ) : (s.mapOcc f).pending = s.pending := rfl

/-! ### mapCrx -/
@[simp] theorem mapCrx_now (s : State) (f : Crx → Crx) : (s.mapCrx f).now = s.now := rfl
@[simp] theorem mapCrx_regs (s : State) (f : Crx → Crx) : (s.mapCrx f).regs = s.regs := rfl
@[simp] theorem mapCrx_mems (s : State) (f : Crx → Crx) : (s.mapCrx f).mems = s.mems := rfl
@[simp] theorem mapCrx_bus (s : State) (f : Crx → Crx) : (s.mapCrx f).bus = s.bus := rfl
@[simp] theorem mapCrx_chp (s : State) (f : Crx → Crx) : (s.mapCrx f).chp = s.chp := rfl
@[simp] theorem mapCrx_psq (s : State) (f : Crx → Crx) : (s.mapCrx f).psq = s.psq := rfl
@[simp] theorem mapCrx_psy (s : State) (f : Crx → Crx) : (s.mapCrx f).psy = s.psy := rfl
@[simp] theorem mapCrx_src (s : State) (f : Crx → Crx) : (s.mapCrx f).src = s.src := rfl
@[simp] theorem mapCrx_occ (s : State) (f : Crx → Crx) : (s.mapCrx f).occ = s.occ := rfl
@[simp] theorem mapCrx_crx (s : State) (f : Crx → Crx) : (s.mapCrx f).crx = f s.crx := rfl
@[simp] theorem mapCrx_cal (s : State) (f : Crx → Crx) : (s.mapCrx f).cal = s.cal := rfl
@[simp] theorem mapCrx_chn (s : State) (f : Crx → Crx) : (s.mapCrx f).chn = s.chn := rfl
@[simp] theorem mapCrx_pcm (s : State) (f : Crx → Crx) : (s.mapCrx f).pcm = s.pcm := rfl
@[simp] theorem mapCrx_phs (s : State) (f : Crx → Crx) : (s.mapCrx f).phs = s.phs := rfl
@[simp] theorem mapCrx_pfl (s : State) (f : Crx → Crx) : (s.mapCrx f).pfl = s.pfl := rfl
@[simp] theorem mapCrx_rmx (s : State) (f : Crx → Crx) : (s.mapCrx f).rmx = s.rmx := rfl
@[simp] theorem mapCrx_dts (s : State) (f : Crx → Crx) : (s.mapCrx f).dts = s.dts := rfl
@[simp] theorem mapCrx_aar (s : State) (f : Crx → Crx) : (s.mapCrx f).aar = s.aar := rfl
@[simp] theorem mapCrx_zon (s : State) (f : Crx → Crx) : (s.mapCrx f).zon = s.zon := rfl
@[simp] theorem mapCrx_gda (s : State) (f : Crx → Crx) : (s.mapCrx f).gda = s.gda := rfl
@[simp] theorem mapCrx_gdb (s : State) (f : Crx → Crx) : (s.mapCrx f).gdb = s.gdb := rfl
@[simp] theorem mapCrx_guards (s : State) (f : Crx → Crx) : (s.mapCrx f).guards = s.guards := rfl
@[simp] theorem mapCrx_rng (s : State) (f : Crx → Crx) : (s.mapCrx f).rng = s.rng := rfl
@[simp] theorem mapCrx_cmp (s : State) (f : Crx → Crx) : (s.mapCrx f).cmp = s.cmp := rfl
@[simp] theorem mapCrx_cvu (s : State) (f : Crx → Crx) : (s.mapCrx f).cvu = s.cvu := rfl
@[simp] theorem mapCrx_dmc (s : State) (f : Crx → Crx) : (s.mapCrx f).dmc = s.dmc := rfl
@[simp] theorem mapCrx_ref (s : State) (f : Crx → Crx) : (s.mapCrx f).ref = s.ref := rfl
@[simp] theorem mapCrx_tiu (s : State) (f : Crx → Crx) : (s.mapCrx f).tiu = s.tiu := rfl
@[simp] theorem mapCrx_lan (s : State) (f : Crx → Crx) : (s.mapCrx f).lan = s.lan := rfl
@[simp] theorem mapCrx_eth (s : State) (f : Crx → Crx) : (s.mapCrx f).eth = s.eth := rfl
@[simp] theorem mapCrx_kpe (s : State) (f : Crx → Crx) : (s.mapCrx f).kpe = s.kpe := rfl
@[simp] theorem mapCrx_mgc (s : State) (f : Crx → Crx) : (s.mapCrx f).mgc = s.mgc := rfl
@[simp] theorem mapCrx_sns (s : State) (f : Crx → Crx) : (s.mapCrx f).sns = s.sns := rfl
@[simp] theorem mapCrx_evr (s : State) (f : Crx → Crx) : (s.mapCrx f).evr = s.evr := rfl
@[simp] theorem mapCrx_tim (s : State) (f : Crx → Crx) : (s.mapCrx f).tim = s.tim := rfl
@[simp] theorem mapCrx_upd (s : State) (f : Crx → Crx) : (s.mapCrx f).upd = s.upd := rfl
@[simp] theorem mapCrx_pwr (s : State) (f : Crx → Crx) : (s.mapCrx f).pwr = s.pwr := rfl
@[simp] theorem mapCrx_fresh (s : State) (f : Crx → Crx) : (s.mapCrx f).fresh = s.fresh := rfl
@[simp] theorem mapCrx_pending (s : State) (f : Crx → Crx) : (s.mapCrx f).pending = s.pending := rfl

/-! ### mapCal -/
@[simp] theorem mapCal_now (s : State) (f : Cal → Cal) : (s.mapCal f).now = s.now := rfl
@[simp] theorem mapCal_regs (s : State) (f : Cal → Cal) : (s.mapCal f).regs = s.regs := rfl
@[simp] theorem mapCal_mems (s : State) (f : Cal → Cal) : (s.mapCal f).mems = s.mems := rfl
@[simp] theorem mapCal_bus (s : State) (f : Cal → Cal) : (s.mapCal f).bus = s.bus := rfl
@[simp] theorem mapCal_chp (s : State) (f : Cal → Cal) : (s.mapCal f).chp = s.chp := rfl
@[simp] theorem mapCal_psq (s : State) (f : Cal → Cal) : (s.mapCal f).psq = s.psq := rfl
@[simp] theorem mapCal_psy (s : State) (f : Cal → Cal) : (s.mapCal f).psy = s.psy := rfl
@[simp] theorem mapCal_src (s : State) (f : Cal → Cal) : (s.mapCal f).src = s.src := rfl
@[simp] theorem mapCal_occ (s : State) (f : Cal → Cal) : (s.mapCal f).occ = s.occ := rfl
@[simp] theorem mapCal_crx (s : State) (f : Cal → Cal) : (s.mapCal f).crx = s.crx := rfl
@[simp] theorem mapCal_cal (s : State) (f : Cal → Cal) : (s.mapCal f).cal = f s.cal := rfl
@[simp] theorem mapCal_chn (s : State) (f : Cal → Cal) : (s.mapCal f).chn = s.chn := rfl
@[simp] theorem mapCal_pcm (s : State) (f : Cal → Cal) : (s.mapCal f).pcm = s.pcm := rfl
@[simp] theorem mapCal_phs (s : State) (f : Cal → Cal) : (s.mapCal f).phs = s.phs := rfl
@[simp] theorem mapCal_pfl (s : State) (f : Cal → Cal) : (s.mapCal f).pfl = s.pfl := rfl
@[simp] theorem mapCal_rmx (s : State) (f : Cal → Cal) : (s.mapCal f).rmx = s.rmx := rfl
@[simp] theorem mapCal_dts (s : State) (f : Cal → Cal) : (s.mapCal f).dts = s.dts := rfl
@[simp] theorem mapCal_aar (s : State) (f : Cal → Cal) : (s.mapCal f).aar = s.aar := rfl
@[simp] theorem mapCal_zon (s : State) (f : Cal → Cal) : (s.mapCal f).zon = s.zon := rfl
@[simp] theorem mapCal_gda (s : State) (f : Cal → Cal) : (s.mapCal f).gda = s.gda := rfl
@[simp] theorem mapCal_gdb (s : State) (f : Cal → Cal) : (s.mapCal f).gdb = s.gdb := rfl
@[simp] theorem mapCal_guards (s : State) (f : Cal → Cal) : (s.mapCal f).guards = s.guards := rfl
@[simp] theorem mapCal_rng (s : State) (f : Cal → Cal) : (s.mapCal f).rng = s.rng := rfl
@[simp] theorem mapCal_cmp (s : State) (f : Cal → Cal) : (s.mapCal f).cmp = s.cmp := rfl
@[simp] theorem mapCal_cvu (s : State) (f : Cal → Cal) : (s.mapCal f).cvu = s.cvu := rfl
@[simp] theorem mapCal_dmc (s : State) (f : Cal → Cal) : (s.mapCal f).dmc = s.dmc := rfl
@[simp] theorem mapCal_ref (s : State) (f : Cal → Cal) : (s.mapCal f).ref = s.ref := rfl
@[simp] theorem mapCal_tiu (s : State) (f : Cal → Cal) : (s.mapCal f).tiu = s.tiu := rfl
@[simp] theorem mapCal_lan (s : State) (f : Cal → Cal) : (s.mapCal f).lan = s.lan := rfl
@[simp] theorem mapCal_eth (s : State) (f : Cal → Cal) : (s.mapCal f).eth = s.eth := rfl
@[simp] theorem mapCal_kpe (s : State) (f : Cal → Cal) : (s.mapCal f).kpe = s.kpe := rfl
@[simp] theorem mapCal_mgc (s : State) (f : Cal → Cal) : (s.mapCal f).mgc = s.mgc := rfl
@[simp] theorem mapCal_sns (s : State) (f : Cal → Cal) : (s.mapCal f).sns = s.sns := rfl
@[simp] theorem mapCal_evr (s : State) (f : Cal → Cal) : (s.mapCal f).evr = s.evr := rfl
@[simp] theorem mapCal_tim (s : State) (f : Cal → Cal) : (s.mapCal f).tim = s.tim := rfl
@[simp] theorem mapCal_upd (s : State) (f : Cal → Cal) : (s.mapCal f).upd = s.upd := rfl
@[simp] theorem mapCal_pwr (s : State) (f : Cal → Cal) : (s.mapCal f).pwr = s.pwr := rfl
@[simp] theorem mapCal_fresh (s : State) (f : Cal → Cal) : (s.mapCal f).fresh = s.fresh := rfl
@[simp] theorem mapCal_pending (s : State) (f : Cal → Cal) : (s.mapCal f).pending = s.pending := rfl

/-! ### mapChn -/
@[simp] theorem mapChn_now (s : State) (f : Chn → Chn) : (s.mapChn f).now = s.now := rfl
@[simp] theorem mapChn_regs (s : State) (f : Chn → Chn) : (s.mapChn f).regs = s.regs := rfl
@[simp] theorem mapChn_mems (s : State) (f : Chn → Chn) : (s.mapChn f).mems = s.mems := rfl
@[simp] theorem mapChn_bus (s : State) (f : Chn → Chn) : (s.mapChn f).bus = s.bus := rfl
@[simp] theorem mapChn_chp (s : State) (f : Chn → Chn) : (s.mapChn f).chp = s.chp := rfl
@[simp] theorem mapChn_psq (s : State) (f : Chn → Chn) : (s.mapChn f).psq = s.psq := rfl
@[simp] theorem mapChn_psy (s : State) (f : Chn → Chn) : (s.mapChn f).psy = s.psy := rfl
@[simp] theorem mapChn_src (s : State) (f : Chn → Chn) : (s.mapChn f).src = s.src := rfl
@[simp] theorem mapChn_occ (s : State) (f : Chn → Chn) : (s.mapChn f).occ = s.occ := rfl
@[simp] theorem mapChn_crx (s : State) (f : Chn → Chn) : (s.mapChn f).crx = s.crx := rfl
@[simp] theorem mapChn_cal (s : State) (f : Chn → Chn) : (s.mapChn f).cal = s.cal := rfl
@[simp] theorem mapChn_chn (s : State) (f : Chn → Chn) : (s.mapChn f).chn = f s.chn := rfl
@[simp] theorem mapChn_pcm (s : State) (f : Chn → Chn) : (s.mapChn f).pcm = s.pcm := rfl
@[simp] theorem mapChn_phs (s : State) (f : Chn → Chn) : (s.mapChn f).phs = s.phs := rfl
@[simp] theorem mapChn_pfl (s : State) (f : Chn → Chn) : (s.mapChn f).pfl = s.pfl := rfl
@[simp] theorem mapChn_rmx (s : State) (f : Chn → Chn) : (s.mapChn f).rmx = s.rmx := rfl
@[simp] theorem mapChn_dts (s : State) (f : Chn → Chn) : (s.mapChn f).dts = s.dts := rfl
@[simp] theorem mapChn_aar (s : State) (f : Chn → Chn) : (s.mapChn f).aar = s.aar := rfl
@[simp] theorem mapChn_zon (s : State) (f : Chn → Chn) : (s.mapChn f).zon = s.zon := rfl
@[simp] theorem mapChn_gda (s : State) (f : Chn → Chn) : (s.mapChn f).gda = s.gda := rfl
@[simp] theorem mapChn_gdb (s : State) (f : Chn → Chn) : (s.mapChn f).gdb = s.gdb := rfl
@[simp] theorem mapChn_guards (s : State) (f : Chn → Chn) : (s.mapChn f).guards = s.guards := rfl
@[simp] theorem mapChn_rng (s : State) (f : Chn → Chn) : (s.mapChn f).rng = s.rng := rfl
@[simp] theorem mapChn_cmp (s : State) (f : Chn → Chn) : (s.mapChn f).cmp = s.cmp := rfl
@[simp] theorem mapChn_cvu (s : State) (f : Chn → Chn) : (s.mapChn f).cvu = s.cvu := rfl
@[simp] theorem mapChn_dmc (s : State) (f : Chn → Chn) : (s.mapChn f).dmc = s.dmc := rfl
@[simp] theorem mapChn_ref (s : State) (f : Chn → Chn) : (s.mapChn f).ref = s.ref := rfl
@[simp] theorem mapChn_tiu (s : State) (f : Chn → Chn) : (s.mapChn f).tiu = s.tiu := rfl
@[simp] theorem mapChn_lan (s : State) (f : Chn → Chn) : (s.mapChn f).lan = s.lan := rfl
@[simp] theorem mapChn_eth (s : State) (f : Chn → Chn) : (s.mapChn f).eth = s.eth := rfl
@[simp] theorem mapChn_kpe (s : State) (f : Chn → Chn) : (s.mapChn f).kpe = s.kpe := rfl
@[simp] theorem mapChn_mgc (s : State) (f : Chn → Chn) : (s.mapChn f).mgc = s.mgc := rfl
@[simp] theorem mapChn_sns (s : State) (f : Chn → Chn) : (s.mapChn f).sns = s.sns := rfl
@[simp] theorem mapChn_evr (s : State) (f : Chn → Chn) : (s.mapChn f).evr = s.evr := rfl
@[simp] theorem mapChn_tim (s : State) (f : Chn → Chn) : (s.mapChn f).tim = s.tim := rfl
@[simp] theorem mapChn_upd (s : State) (f : Chn → Chn) : (s.mapChn f).upd = s.upd := rfl
@[simp] theorem mapChn_pwr (s : State) (f : Chn → Chn) : (s.mapChn f).pwr = s.pwr := rfl
@[simp] theorem mapChn_fresh (s : State) (f : Chn → Chn) : (s.mapChn f).fresh = s.fresh := rfl
@[simp] theorem mapChn_pending (s : State) (f : Chn → Chn) : (s.mapChn f).pending = s.pending := rfl

/-! ### mapPcm -/
@[simp] theorem mapPcm_now (s : State) (f : Pcm → Pcm) : (s.mapPcm f).now = s.now := rfl
@[simp] theorem mapPcm_regs (s : State) (f : Pcm → Pcm) : (s.mapPcm f).regs = s.regs := rfl
@[simp] theorem mapPcm_mems (s : State) (f : Pcm → Pcm) : (s.mapPcm f).mems = s.mems := rfl
@[simp] theorem mapPcm_bus (s : State) (f : Pcm → Pcm) : (s.mapPcm f).bus = s.bus := rfl
@[simp] theorem mapPcm_chp (s : State) (f : Pcm → Pcm) : (s.mapPcm f).chp = s.chp := rfl
@[simp] theorem mapPcm_psq (s : State) (f : Pcm → Pcm) : (s.mapPcm f).psq = s.psq := rfl
@[simp] theorem mapPcm_psy (s : State) (f : Pcm → Pcm) : (s.mapPcm f).psy = s.psy := rfl
@[simp] theorem mapPcm_src (s : State) (f : Pcm → Pcm) : (s.mapPcm f).src = s.src := rfl
@[simp] theorem mapPcm_occ (s : State) (f : Pcm → Pcm) : (s.mapPcm f).occ = s.occ := rfl
@[simp] theorem mapPcm_crx (s : State) (f : Pcm → Pcm) : (s.mapPcm f).crx = s.crx := rfl
@[simp] theorem mapPcm_cal (s : State) (f : Pcm → Pcm) : (s.mapPcm f).cal = s.cal := rfl
@[simp] theorem mapPcm_chn (s : State) (f : Pcm → Pcm) : (s.mapPcm f).chn = s.chn := rfl
@[simp] theorem mapPcm_pcm (s : State) (f : Pcm → Pcm) : (s.mapPcm f).pcm = f s.pcm := rfl
@[simp] theorem mapPcm_phs (s : State) (f : Pcm → Pcm) : (s.mapPcm f).phs = s.phs := rfl
@[simp] theorem mapPcm_pfl (s : State) (f : Pcm → Pcm) : (s.mapPcm f).pfl = s.pfl := rfl
@[simp] theorem mapPcm_rmx (s : State) (f : Pcm → Pcm) : (s.mapPcm f).rmx = s.rmx := rfl
@[simp] theorem mapPcm_dts (s : State) (f : Pcm → Pcm) : (s.mapPcm f).dts = s.dts := rfl
@[simp] theorem mapPcm_aar (s : State) (f : Pcm → Pcm) : (s.mapPcm f).aar = s.aar := rfl
@[simp] theorem mapPcm_zon (s : State) (f : Pcm → Pcm) : (s.mapPcm f).zon = s.zon := rfl
@[simp] theorem mapPcm_gda (s : State) (f : Pcm → Pcm) : (s.mapPcm f).gda = s.gda := rfl
@[simp] theorem mapPcm_gdb (s : State) (f : Pcm → Pcm) : (s.mapPcm f).gdb = s.gdb := rfl
@[simp] theorem mapPcm_guards (s : State) (f : Pcm → Pcm) : (s.mapPcm f).guards = s.guards := rfl
@[simp] theorem mapPcm_rng (s : State) (f : Pcm → Pcm) : (s.mapPcm f).rng = s.rng := rfl
@[simp] theorem mapPcm_cmp (s : State) (f : Pcm → Pcm) : (s.mapPcm f).cmp = s.cmp := rfl
@[simp] theorem mapPcm_cvu (s : State) (f : Pcm → Pcm) : (s.mapPcm f).cvu = s.cvu := rfl
@[simp] theorem mapPcm_dmc (s : State) (f : Pcm → Pcm) : (s.mapPcm f).dmc = s.dmc := rfl
@[simp] theorem mapPcm_ref (s : State) (f : Pcm → Pcm) : (s.mapPcm f).ref = s.ref := rfl
@[simp] theorem mapPcm_tiu (s : State) (f : Pcm → Pcm) : (s.mapPcm f).tiu = s.tiu := rfl
@[simp] theorem mapPcm_lan (s : State) (f : Pcm → Pcm) : (s.mapPcm f).lan = s.lan := rfl
@[simp] theorem mapPcm_eth (s : State) (f : Pcm → Pcm) : (s.mapPcm f).eth = s.eth := rfl
@[simp] theorem mapPcm_kpe (s : State) (f : Pcm → Pcm) : (s.mapPcm f).kpe = s.kpe := rfl
@[simp] theorem mapPcm_mgc (s : State) (f : Pcm → Pcm) : (s.mapPcm f).mgc = s.mgc := rfl
@[simp] theorem mapPcm_sns (s : State) (f : Pcm → Pcm) : (s.mapPcm f).sns = s.sns := rfl
@[simp] theorem mapPcm_evr (s : State) (f : Pcm → Pcm) : (s.mapPcm f).evr = s.evr := rfl
@[simp] theorem mapPcm_tim (s : State) (f : Pcm → Pcm) : (s.mapPcm f).tim = s.tim := rfl
@[simp] theorem mapPcm_upd (s : State) (f : Pcm → Pcm) : (s.mapPcm f).upd = s.upd := rfl
@[simp] theorem mapPcm_pwr (s : State) (f : Pcm → Pcm) : (s.mapPcm f).pwr = s.pwr := rfl
@[simp] theorem mapPcm_fresh (s : State) (f : Pcm → Pcm) : (s.mapPcm f).fresh = s.fresh := rfl
@[simp] theorem mapPcm_pending (s : State) (f : Pcm → Pcm) : (s.mapPcm f).pending = s.pending := rfl

/-! ### mapPhs -/
@[simp] theorem mapPhs_now (s : State) (f : Phs → Phs) : (s.mapPhs f).now = s.now := rfl
@[simp] theorem mapPhs_regs (s : State) (f : Phs → Phs) : (s.mapPhs f).regs = s.regs := rfl
@[simp] theorem mapPhs_mems (s : State) (f : Phs → Phs) : (s.mapPhs f).mems = s.mems := rfl
@[simp] theorem mapPhs_bus (s : State) (f : Phs → Phs) : (s.mapPhs f).bus = s.bus := rfl
@[simp] theorem mapPhs_chp (s : State) (f : Phs → Phs) : (s.mapPhs f).chp = s.chp := rfl
@[simp] theorem mapPhs_psq (s : State) (f : Phs → Phs) : (s.mapPhs f).psq = s.psq := rfl
@[simp] theorem mapPhs_psy (s : State) (f : Phs → Phs) : (s.mapPhs f).psy = s.psy := rfl
@[simp] theorem mapPhs_src (s : State) (f : Phs → Phs) : (s.mapPhs f).src = s.src := rfl
@[simp] theorem mapPhs_occ (s : State) (f : Phs → Phs) : (s.mapPhs f).occ = s.occ := rfl
@[simp] theorem mapPhs_crx (s : State) (f : Phs → Phs) : (s.mapPhs f).crx = s.crx := rfl
@[simp] theorem mapPhs_cal (s : State) (f : Phs → Phs) : (s.mapPhs f).cal = s.cal := rfl
@[simp] theorem mapPhs_chn (s : State) (f : Phs → Phs) : (s.mapPhs f).chn = s.chn := rfl
@[simp] theorem mapPhs_pcm (s : State) (f : Phs → Phs) : (s.mapPhs f).pcm = s.pcm := rfl
@[simp] theorem mapPhs_phs (s : State) (f : Phs → Phs) : (s.mapPhs f).phs = f s.phs := rfl
@[simp] theorem mapPhs_pfl (s : State) (f : Phs → Phs) : (s.mapPhs f).pfl = s.pfl := rfl
@[simp] theorem mapPhs_rmx (s : State) (f : Phs → Phs) : (s.mapPhs f).rmx = s.rmx := rfl
@[simp] theorem mapPhs_dts (s : State) (f : Phs → Phs) : (s.mapPhs f).dts = s.dts := rfl
@[simp] theorem mapPhs_aar (s : State) (f : Phs → Phs) : (s.mapPhs f).aar = s.aar := rfl
@[simp] theorem mapPhs_zon (s : State) (f : Phs → Phs) : (s.mapPhs f).zon = s.zon := rfl
@[simp] theorem mapPhs_gda (s : State) (f : Phs → Phs) : (s.mapPhs f).gda = s.gda := rfl
@[simp] theorem mapPhs_gdb (s : State) (f : Phs → Phs) : (s.mapPhs f).gdb = s.gdb := rfl
@[simp] theorem mapPhs_guards (s : State) (f : Phs → Phs) : (s.mapPhs f).guards = s.guards := rfl
@[simp] theorem mapPhs_rng (s : State) (f : Phs → Phs) : (s.mapPhs f).rng = s.rng := rfl
@[simp] theorem mapPhs_cmp (s : State) (f : Phs → Phs) : (s.mapPhs f).cmp = s.cmp := rfl
@[simp] theorem mapPhs_cvu (s : State) (f : Phs → Phs) : (s.mapPhs f).cvu = s.cvu := rfl
@[simp] theorem mapPhs_dmc (s : State) (f : Phs → Phs) : (s.mapPhs f).dmc = s.dmc := rfl
@[simp] theorem mapPhs_ref (s : State) (f : Phs → Phs) : (s.mapPhs f).ref = s.ref := rfl
@[simp] theorem mapPhs_tiu (s : State) (f : Phs → Phs) : (s.mapPhs f).tiu = s.tiu := rfl
@[simp] theorem mapPhs_lan (s : State) (f : Phs → Phs) : (s.mapPhs f).lan = s.lan := rfl
@[simp] theorem mapPhs_eth (s : State) (f : Phs → Phs) : (s.mapPhs f).eth = s.eth := rfl
@[simp] theorem mapPhs_kpe (s : State) (f : Phs → Phs) : (s.mapPhs f).kpe = s.kpe := rfl
@[simp] theorem mapPhs_mgc (s : State) (f : Phs → Phs) : (s.mapPhs f).mgc = s.mgc := rfl
@[simp] theorem mapPhs_sns (s : State) (f : Phs → Phs) : (s.mapPhs f).sns = s.sns := rfl
@[simp] theorem mapPhs_evr (s : State) (f : Phs → Phs) : (s.mapPhs f).evr = s.evr := rfl
@[simp] theorem mapPhs_tim (s : State) (f : Phs → Phs) : (s.mapPhs f).tim = s.tim := rfl
@[simp] theorem mapPhs_upd (s : State) (f : Phs → Phs) : (s.mapPhs f).upd = s.upd := rfl
@[simp] theorem mapPhs_pwr (s : State) (f : Phs → Phs) : (s.mapPhs f).pwr = s.pwr := rfl
@[simp] theorem mapPhs_fresh (s : State) (f : Phs → Phs) : (s.mapPhs f).fresh = s.fresh := rfl
@[simp] theorem mapPhs_pending (s : State) (f : Phs → Phs) : (s.mapPhs f).pending = s.pending := rfl

/-! ### mapPfl -/
@[simp] theorem mapPfl_now (s : State) (f : Pfl → Pfl) : (s.mapPfl f).now = s.now := rfl
@[simp] theorem mapPfl_regs (s : State) (f : Pfl → Pfl) : (s.mapPfl f).regs = s.regs := rfl
@[simp] theorem mapPfl_mems (s : State) (f : Pfl → Pfl) : (s.mapPfl f).mems = s.mems := rfl
@[simp] theorem mapPfl_bus (s : State) (f : Pfl → Pfl) : (s.mapPfl f).bus = s.bus := rfl
@[simp] theorem mapPfl_chp (s : State) (f : Pfl → Pfl) : (s.mapPfl f).chp = s.chp := rfl
@[simp] theorem mapPfl_psq (s : State) (f : Pfl → Pfl) : (s.mapPfl f).psq = s.psq := rfl
@[simp] theorem mapPfl_psy (s : State) (f : Pfl → Pfl) : (s.mapPfl f).psy = s.psy := rfl
@[simp] theorem mapPfl_src (s : State) (f : Pfl → Pfl) : (s.mapPfl f).src = s.src := rfl
@[simp] theorem mapPfl_occ (s : State) (f : Pfl → Pfl) : (s.mapPfl f).occ = s.occ := rfl
@[simp] theorem mapPfl_crx (s : State) (f : Pfl → Pfl) : (s.mapPfl f).crx = s.crx := rfl
@[simp] theorem mapPfl_cal (s : State) (f : Pfl → Pfl) : (s.mapPfl f).cal = s.cal := rfl
@[simp] theorem mapPfl_chn (s : State) (f : Pfl → Pfl) : (s.mapPfl f).chn = s.chn := rfl
@[simp] theorem mapPfl_pcm (s : State) (f : Pfl → Pfl) : (s.mapPfl f).pcm = s.pcm := rfl
@[simp] theorem mapPfl_phs (s : State) (f : Pfl → Pfl) : (s.mapPfl f).phs = s.phs := rfl
@[simp] theorem mapPfl_pfl (s : State) (f : Pfl → Pfl) : (s.mapPfl f).pfl = f s.pfl := rfl
@[simp] theorem mapPfl_rmx (s : State) (f : Pfl → Pfl) : (s.mapPfl f).rmx = s.rmx := rfl
@[simp] theorem mapPfl_dts (s : State) (f : Pfl → Pfl) : (s.mapPfl f).dts = s.dts := rfl
@[simp] theorem mapPfl_aar (s : State) (f : Pfl → Pfl) : (s.mapPfl f).aar = s.aar := rfl
@[simp] theorem mapPfl_zon (s : State) (f : Pfl → Pfl) : (s.mapPfl f).zon = s.zon := rfl
@[simp] theorem mapPfl_gda (s : State) (f : Pfl → Pfl) : (s.mapPfl f).gda = s.gda := rfl
@[simp] theorem mapPfl_gdb (s : State) (f : Pfl → Pfl) : (s.mapPfl f).gdb = s.gdb := rfl
@[simp] theorem mapPfl_guards (s : State) (f : Pfl → Pfl) : (s.mapPfl f).guards = s.guards := rfl
@[simp] theorem mapPfl_rng (s : State) (f : Pfl → Pfl) : (s.mapPfl f).rng = s.rng := rfl
@[simp] theorem mapPfl_cmp (s : State) (f : Pfl → Pfl) : (s.mapPfl f).cmp = s.cmp := rfl
@[simp] theorem mapPfl_cvu (s : State) (f : Pfl → Pfl) : (s.mapPfl f).cvu = s.cvu := rfl
@[simp] theorem mapPfl_dmc (s : State) (f : Pfl → Pfl) : (s.mapPfl f).dmc = s.dmc := rfl
@[simp] theorem mapPfl_ref (s : State) (f : Pfl → Pfl) : (s.mapPfl f).ref = s.ref := rfl
@[simp] theorem mapPfl_tiu (s : State) (f : Pfl → Pfl) : (s.mapPfl f).tiu = s.tiu := rfl
@[simp] theorem mapPfl_lan (s : State) (f : Pfl → Pfl) : (s.mapPfl f).lan = s.lan := rfl
@[simp] theorem mapPfl_eth (s : State) (f : Pfl → Pfl) : (s.mapPfl f).eth = s.eth := rfl
@[simp] theorem mapPfl_kpe (s : State) (f : Pfl → Pfl) : (s.mapPfl f).kpe = s.kpe := rfl
@[simp] theorem mapPfl_mgc (s : State) (f : Pfl → Pfl) : (s.mapPfl f).mgc = s.mgc := rfl
@[simp] theorem mapPfl_sns (s : State) (f : Pfl → Pfl) : (s.mapPfl f).sns = s.sns := rfl
@[simp] theorem mapPfl_evr (s : State) (f : Pfl → Pfl) : (s.mapPfl f).evr = s.evr := rfl
@[simp] theorem mapPfl_tim (s : State) (f : Pfl → Pfl) : (s.mapPfl f).tim = s.tim := rfl
@[simp] theorem mapPfl_upd (s : State) (f : Pfl → Pfl) : (s.mapPfl f).upd = s.upd := rfl
@[simp] theorem mapPfl_pwr (s : State) (f : Pfl → Pfl) : (s.mapPfl f).pwr = s.pwr := rfl
@[simp] theorem mapPfl_fresh (s : State) (f : Pfl → Pfl) : (s.mapPfl f).fresh = s.fresh := rfl
@[simp] theorem mapPfl_pending (s : State) (f : Pfl → Pfl) : (s.mapPfl f).pending = s.pending := rfl

/-! ### mapRmx -/
@[simp] theorem mapRmx_now (s : State) (f : Rmx → Rmx) : (s.mapRmx f).now = s.now := rfl
@[simp] theorem mapRmx_regs (s : State) (f : Rmx → Rmx) : (s.mapRmx f).regs = s.regs := rfl
@[simp] theorem mapRmx_mems (s : State) (f : Rmx → Rmx) : (s.mapRmx f).mems = s.mems := rfl
@[simp] theorem mapRmx_bus (s : State) (f : Rmx → Rmx) : (s.mapRmx f).bus = s.bus := rfl
@[simp] theorem mapRmx_chp (s : State) (f : Rmx → Rmx) : (s.mapRmx f).chp = s.chp := rfl
@[simp] theorem mapRmx_psq (s : State) (f : Rmx → Rmx) : (s.mapRmx f).psq = s.psq := rfl
@[simp] theorem mapRmx_psy (s : State) (f : Rmx → Rmx) : (s.mapRmx f).psy = s.psy := rfl
@[simp] theorem mapRmx_src (s : State) (f : Rmx → Rmx) : (s.mapRmx f).src = s.src := rfl
@[simp] theorem mapRmx_occ (s : State) (f : Rmx → Rmx) : (s.mapRmx f).occ = s.occ := rfl
@[simp] theorem mapRmx_crx (s : State) (f : Rmx → Rmx) : (s.mapRmx f).crx = s.crx := rfl
@[simp] theorem mapRmx_cal (s : State) (f : Rmx → Rmx) : (s.mapRmx f).cal = s.cal := rfl
@[simp] theorem mapRmx_chn (s : State) (f : Rmx → Rmx) : (s.mapRmx f).chn = s.chn := rfl
@[simp] theorem mapRmx_pcm (s : State) (f : Rmx → Rmx) : (s.mapRmx f).pcm = s.pcm := rfl
@[simp] theorem mapRmx_phs (s : State) (f : Rmx → Rmx) : (s.mapRmx f).phs = s.phs := rfl
@[simp] theorem mapRmx_pfl (s : State) (f : Rmx → Rmx) : (s.mapRmx f).pfl = s.pfl := rfl
@[simp] theorem mapRmx_rmx (s : State) (f : Rmx → Rmx) : (s.mapRmx f).rmx = f s.rmx := rfl
@[simp] theorem mapRmx_dts (s : State) (f : Rmx → Rmx) : (s.mapRmx f).dts = s.dts := rfl
@[simp] theorem mapRmx_aar (s : State) (f : Rmx → Rmx) : (s.mapRmx f).aar = s.aar := rfl
@[simp] theorem mapRmx_zon (s : State) (f : Rmx → Rmx) : (s.mapRmx f).zon = s.zon := rfl
@[simp] theorem mapRmx_gda (s : State) (f : Rmx → Rmx) : (s.mapRmx f).gda = s.gda := rfl
@[simp] theorem mapRmx_gdb (s : State) (f : Rmx → Rmx) : (s.mapRmx f).gdb = s.gdb := rfl
@[simp] theorem mapRmx_guards (s : State) (f : Rmx → Rmx) : (s.mapRmx f).guards = s.guards := rfl
@[simp] theorem mapRmx_rng (s : State) (f : Rmx → Rmx) : (s.mapRmx f).rng = s.rng := rfl
@[simp] theorem mapRmx_cmp (s : State) (f : Rmx → Rmx) : (s.mapRmx f).cmp = s.cmp := rfl
@[simp] theorem mapRmx_cvu (s : State) (f : Rmx → Rmx) : (s.mapRmx f).cvu = s.cvu := rfl
@[simp] theorem mapRmx_dmc (s : State) (f : Rmx → Rmx) : (s.mapRmx f).dmc = s.dmc := rfl
@[simp] theorem mapRmx_ref (s : State) (f : Rmx → Rmx) : (s.mapRmx f).ref = s.ref := rfl
@[simp] theorem mapRmx_tiu (s : State) (f : Rmx → Rmx) : (s.mapRmx f).tiu = s.tiu := rfl
@[simp] theorem mapRmx_lan (s : State) (f : Rmx → Rmx) : (s.mapRmx f).lan = s.lan := rfl
@[simp] theorem mapRmx_eth (s : State) (f : Rmx → Rmx) : (s.mapRmx f).eth = s.eth := rfl
@[simp] theorem mapRmx_kpe (s : State) (f : Rmx → Rmx) : (s.mapRmx f).kpe = s.kpe := rfl
@[simp] theorem mapRmx_mgc (s : State) (f : Rmx → Rmx) : (s.mapRmx f).mgc = s.mgc := rfl
@[simp] theorem mapRmx_sns (s : State) (f : Rmx → Rmx) : (s.mapRmx f).sns = s.sns := rfl
@[simp] theorem mapRmx_evr (s : State) (f : Rmx → Rmx) : (s.mapRmx f).evr = s.evr := rfl
@[simp] theorem mapRmx_tim (s : State) (f : Rmx → Rmx) : (s.mapRmx f).tim = s.tim := rfl
@[simp] theorem mapRmx_upd (s : State) (f : Rmx → Rmx) : (s.mapRmx f).upd = s.upd := rfl
@[simp] theorem mapRmx_pwr (s : State) (f : Rmx → Rmx) : (s.mapRmx f).pwr = s.pwr := rfl
@[simp] theorem mapRmx_fresh (s : State) (f : Rmx → Rmx) : (s.mapRmx f).fresh = s.fresh := rfl
@[simp] theorem mapRmx_pending (s : State) (f : Rmx → Rmx) : (s.mapRmx f).pending = s.pending := rfl

/-! ### mapDts -/
@[simp] theorem mapDts_now (s : State) (f : Dts → Dts) : (s.mapDts f).now = s.now := rfl
@[simp] theorem mapDts_regs (s : State) (f : Dts → Dts) : (s.mapDts f).regs = s.regs := rfl
@[simp] theorem mapDts_mems (s : State) (f : Dts → Dts) : (s.mapDts f).mems = s.mems := rfl
@[simp] theorem mapDts_bus (s : State) (f : Dts → Dts) : (s.mapDts f).bus = s.bus := rfl
@[simp] theorem mapDts_chp (s : State) (f : Dts → Dts) : (s.mapDts f).chp = s.chp := rfl
@[simp] theorem mapDts_psq (s : State) (f : Dts → Dts) : (s.mapDts f).psq = s.psq := rfl
@[simp] theorem mapDts_psy (s : State) (f : Dts → Dts) : (s.mapDts f).psy = s.psy := rfl
@[simp] theorem mapDts_src (s : State) (f : Dts → Dts) : (s.mapDts f).src = s.src := rfl
@[simp] theorem mapDts_occ (s : State) (f : Dts → Dts) : (s.mapDts f).occ = s.occ := rfl
@[simp] theorem mapDts_crx (s : State) (f : Dts → Dts) : (s.mapDts f).crx = s.crx := rfl
@[simp] theorem mapDts_cal (s : State) (f : Dts → Dts) : (s.mapDts f).cal = s.cal := rfl
@[simp] theorem mapDts_chn (s : State) (f : Dts → Dts) : (s.mapDts f).chn = s.chn := rfl
@[simp] theorem mapDts_pcm (s : State) (f : Dts → Dts) : (s.mapDts f).pcm = s.pcm := rfl
@[simp] theorem mapDts_phs (s : State) (f : Dts → Dts) : (s.mapDts f).phs = s.phs := rfl
@[simp] theorem mapDts_pfl (s : State) (f : Dts → Dts) : (s.mapDts f).pfl = s.pfl := rfl
@[simp] theorem mapDts_rmx (s : State) (f : Dts → Dts) : (s.mapDts f).rmx = s.rmx := rfl
@[simp] theorem mapDts_dts (s : State) (f : Dts → Dts) : (s.mapDts f).dts = f s.dts := rfl
@[simp] theorem mapDts_aar (s : State) (f : Dts → Dts) : (s.mapDts f).aar = s.aar := rfl
@[simp] theorem mapDts_zon (s : State) (f : Dts → Dts) : (s.mapDts f).zon = s.zon := rfl
@[simp] theorem mapDts_gda (s : State) (f : Dts → Dts) : (s.mapDts f).gda = s.gda := rfl
@[simp] theorem mapDts_gdb (s : State) (f : Dts → Dts) : (s.mapDts f).gdb = s.gdb := rfl
@[simp] theorem mapDts_guards (s : State) (f : Dts → Dts) : (s.mapDts f).guards = s.guards := rfl
@[simp] theorem mapDts_rng (s : State) (f : Dts → Dts) : (s.mapDts f).rng = s.rng := rfl
@[simp] theorem mapDts_cmp (s : State) (f : Dts → Dts) : (s.mapDts f).cmp = s.cmp := rfl
@[simp] theorem mapDts_cvu (s : State) (f : Dts → Dts) : (s.mapDts f).cvu = s.cvu := rfl
@[simp] theorem mapDts_dmc (s : State) (f : Dts → Dts) : (s.mapDts f).dmc = s.dmc := rfl
@[simp] theorem mapDts_ref (s : State) (f : Dts → Dts) : (s.mapDts f).ref = s.ref := rfl
@[simp] theorem mapDts_tiu (s : State) (f : Dts → Dts) : (s.mapDts f).tiu = s.tiu := rfl
@[simp] theorem mapDts_lan (s : State) (f : Dts → Dts) : (s.mapDts f).lan = s.lan := rfl
@[simp] theorem mapDts_eth (s : State) (f : Dts → Dts) : (s.mapDts f).eth = s.eth := rfl
@[simp] theorem mapDts_kpe (s : State) (f : Dts → Dts) : (s.mapDts f).kpe = s.kpe := rfl
@[simp] theorem mapDts_mgc (s : State) (f : Dts → Dts) : (s.mapDts f).mgc = s.mgc := rfl
@[simp] theorem mapDts_sns (s : State) (f : Dts → Dts) : (s.mapDts f).sns = s.sns := rfl
@[simp] theorem mapDts_evr (s : State) (f : Dts → Dts) : (s.mapDts f).evr = s.evr := rfl
@[simp] theorem mapDts_tim (s : State) (f : Dts → Dts) : (s.mapDts f).tim = s.tim := rfl
@[simp] theorem mapDts_upd (s : State) (f : Dts → Dts) : (s.mapDts f).upd = s.upd := rfl
@[simp] theorem mapDts_pwr (s : State) (f : Dts → Dts) : (s.mapDts f).pwr = s.pwr := rfl
@[simp] theorem mapDts_fresh (s : State) (f : Dts → Dts) : (s.mapDts f).fresh = s.fresh := rfl
@[simp] theorem mapDts_pending (s : State) (f : Dts → Dts) : (s.mapDts f).pending = s.pending := rfl

/-! ### mapAar -/
@[simp] theorem mapAar_now (s : State) (f : Aar → Aar) : (s.mapAar f).now = s.now := rfl
@[simp] theorem mapAar_regs (s : State) (f : Aar → Aar) : (s.mapAar f).regs = s.regs := rfl
@[simp] theorem mapAar_mems (s : State) (f : Aar → Aar) : (s.mapAar f).mems = s.mems := rfl
@[simp] theorem mapAar_bus (s : State) (f : Aar → Aar) : (s.mapAar f).bus = s.bus := rfl
@[simp] theorem mapAar_chp (s : State) (f : Aar → Aar) : (s.mapAar f).chp = s.chp := rfl
@[simp] theorem mapAar_psq (s : State) (f : Aar → Aar) : (s.mapAar f).psq = s.psq := rfl
@[simp] theorem mapAar_psy (s : State) (f : Aar → Aar) : (s.mapAar f).psy = s.psy := rfl
@[simp] theorem mapAar_src (s : State) (f : Aar → Aar) : (s.mapAar f).src = s.src := rfl
@[simp] theorem mapAar_occ (s : State) (f : Aar → Aar) : (s.mapAar f).occ = s.occ := rfl
@[simp] theorem mapAar_crx (s : State) (f : Aar → Aar) : (s.mapAar f).crx = s.crx := rfl
@[simp] theorem mapAar_cal (s : State) (f : Aar → Aar) : (s.mapAar f).cal = s.cal := rfl
@[simp] theorem mapAar_chn (s : State) (f : Aar → Aar) : (s.mapAar f).chn = s.chn := rfl
@[simp] theorem mapAar_pcm (s : State) (f : Aar → Aar) : (s.mapAar f).pcm = s.pcm := rfl
@[simp] theorem mapAar_phs (s : State) (f : Aar → Aar) : (s.mapAar f).phs = s.phs := rfl
@[simp] theorem mapAar_pfl (s : State) (f : Aar → Aar) : (s.mapAar f).pfl = s.pfl := rfl
@[simp] theorem mapAar_rmx (s : State) (f : Aar → Aar) : (s.mapAar f).rmx = s.rmx := rfl
@[simp] theorem mapAar_dts (s : State) (f : Aar → Aar) : (s.mapAar f).dts = s.dts := rfl
@[simp] theorem mapAar_aar (s : State) (f : Aar → Aar) : (s.mapAar f).aar = f s.aar := rfl
@[simp] theorem mapAar_zon (s : State) (f : Aar → Aar) : (s.mapAar f).zon = s.zon := rfl
@[simp] theorem mapAar_gda (s : State) (f : Aar → Aar) : (s.mapAar f).gda = s.gda := rfl
@[simp] theorem mapAar_gdb (s : State) (f : Aar → Aar) : (s.mapAar f).gdb = s.gdb := rfl
@[simp] theorem mapAar_guards (s : State) (f : Aar → Aar) : (s.mapAar f).guards = s.guards := rfl
@[simp] theorem mapAar_rng (s : State) (f : Aar → Aar) : (s.mapAar f).rng = s.rng := rfl
@[simp] theorem mapAar_cmp (s : State) (f : Aar → Aar) : (s.mapAar f).cmp = s.cmp := rfl
@[simp] theorem mapAar_cvu (s : State) (f : Aar → Aar) : (s.mapAar f).cvu = s.cvu := rfl
@[simp] theorem mapAar_dmc (s : State) (f : Aar → Aar) : (s.mapAar f).dmc = s.dmc := rfl
@[simp] theorem mapAar_ref (s : State) (f : Aar → Aar) : (s.mapAar f).ref = s.ref := rfl
@[simp] theorem mapAar_tiu (s : State) (f : Aar → Aar) : (s.mapAar f).tiu = s.tiu := rfl
@[simp] theorem mapAar_lan (s : State) (f : Aar → Aar) : (s.mapAar f).lan = s.lan := rfl
@[simp] theorem mapAar_eth (s : State) (f : Aar → Aar) : (s.mapAar f).eth = s.eth := rfl
@[simp] theorem mapAar_kpe (s : State) (f : Aar → Aar) : (s.mapAar f).kpe = s.kpe := rfl
@[simp] theorem mapAar_mgc (s : State) (f : Aar → Aar) : (s.mapAar f).mgc = s.mgc := rfl
@[simp] theorem mapAar_sns (s : State) (f : Aar → Aar) : (s.mapAar f).sns = s.sns := rfl
@[simp] theorem mapAar_evr (s : State) (f : Aar → Aar) : (s.mapAar f).evr = s.evr := rfl
@[simp] theorem mapAar_tim (s : State) (f : Aar → Aar) : (s.mapAar f).tim = s.tim := rfl
@[simp] theorem mapAar_upd (s : State) (f : Aar → Aar) : (s.mapAar f).upd = s.upd := rfl
@[simp] theorem mapAar_pwr (s : State) (f : Aar → Aar) : (s.mapAar f).pwr = s.pwr := rfl
@[simp] theorem mapAar_fresh (s : State) (f : Aar → Aar) : (s.mapAar f).fresh = s.fresh := rfl
@[simp] theorem mapAar_pending (s : State) (f : Aar → Aar) : (s.mapAar f).pending = s.pending := rfl

/-! ### mapZon -/
@[simp] theorem mapZon_now (s : State) (f : Zon → Zon) : (s.mapZon f).now = s.now := rfl
@[simp] theorem mapZon_regs (s : State) (f : Zon → Zon) : (s.mapZon f).regs = s.regs := rfl
@[simp] theorem mapZon_mems (s : State) (f : Zon → Zon) : (s.mapZon f).mems = s.mems := rfl
@[simp] theorem mapZon_bus (s : State) (f : Zon → Zon) : (s.mapZon f).bus = s.bus := rfl
@[simp] theorem mapZon_chp (s : State) (f : Zon → Zon) : (s.mapZon f).chp = s.chp := rfl
@[simp] theorem mapZon_psq (s : State) (f : Zon → Zon) : (s.mapZon f).psq = s.psq := rfl
@[simp] theorem mapZon_psy (s : State) (f : Zon → Zon) : (s.mapZon f).psy = s.psy := rfl
@[simp] theorem mapZon_src (s : State) (f : Zon → Zon) : (s.mapZon f).src = s.src := rfl
@[simp] theorem mapZon_occ (s : State) (f : Zon → Zon) : (s.mapZon f).occ = s.occ := rfl
@[simp] theorem mapZon_crx (s : State) (f : Zon → Zon) : (s.mapZon f).crx = s.crx := rfl
@[simp] theorem mapZon_cal (s : State) (f : Zon → Zon) : (s.mapZon f).cal = s.cal := rfl
@[simp] theorem mapZon_chn (s : State) (f : Zon → Zon) : (s.mapZon f).chn = s.chn := rfl
@[simp] theorem mapZon_pcm (s : State) (f : Zon → Zon) : (s.mapZon f).pcm = s.pcm := rfl
@[simp] theorem mapZon_phs (s : State) (f : Zon → Zon) : (s.mapZon f).phs = s.phs := rfl
@[simp] theorem mapZon_pfl (s : State) (f : Zon → Zon) : (s.mapZon f).pfl = s.pfl := rfl
@[simp] theorem mapZon_rmx (s : State) (f : Zon → Zon) : (s.mapZon f).rmx = s.rmx := rfl
@[simp] theorem mapZon_dts (s : State) (f : Zon → Zon) : (s.mapZon f).dts = s.dts := rfl
@[simp] theorem mapZon_aar (s : State) (f : Zon → Zon) : (s.mapZon f).aar = s.aar := rfl
@[simp] theorem mapZon_zon (s : State) (f : Zon → Zon) : (s.mapZon f).zon = f s.zon := rfl
@[simp] theorem mapZon_gda (s : State) (f : Zon → Zon) : (s.mapZon f).gda = s.gda := rfl
@[simp] theorem mapZon_gdb (s : State) (f : Zon → Zon) : (s.mapZon f).gdb = s.gdb := rfl
@[simp] theorem mapZon_guards (s : State) (f : Zon → Zon) : (s.mapZon f).guards = s.guards := rfl
@[simp] theorem mapZon_rng (s : State) (f : Zon → Zon) : (s.mapZon f).rng = s.rng := rfl
@[simp] theorem mapZon_cmp (s : State) (f : Zon → Zon) : (s.mapZon f).cmp = s.cmp := rfl
@[simp] theorem mapZon_cvu (s : State) (f : Zon → Zon) : (s.mapZon f).cvu = s.cvu := rfl
@[simp] theorem mapZon_dmc (s : State) (f : Zon → Zon) : (s.mapZon f).dmc = s.dmc := rfl
@[simp] theorem mapZon_ref (s : State) (f : Zon → Zon) : (s.mapZon f).ref = s.ref := rfl
@[simp] theorem mapZon_tiu (s : State) (f : Zon → Zon) : (s.mapZon f).tiu = s.tiu := rfl
@[simp] theorem mapZon_lan (s : State) (f : Zon → Zon) : (s.mapZon f).lan = s.lan := rfl
@[simp] theorem mapZon_eth (s : State) (f : Zon → Zon) : (s.mapZon f).eth = s.eth := rfl
@[simp] theorem mapZon_kpe (s : State) (f : Zon → Zon) : (s.mapZon f).kpe = s.kpe := rfl
@[simp] theorem mapZon_mgc (s : State) (f : Zon → Zon) : (s.mapZon f).mgc = s.mgc := rfl
@[simp] theorem mapZon_sns (s : State) (f : Zon → Zon) : (s.mapZon f).sns = s.sns := rfl
@[simp] theorem mapZon_evr (s : State) (f : Zon → Zon) : (s.mapZon f).evr = s.evr := rfl
@[simp] theorem mapZon_tim (s : State) (f : Zon → Zon) : (s.mapZon f).tim = s.tim := rfl
@[simp] theorem mapZon_upd (s : State) (f : Zon → Zon) : (s.mapZon f).upd = s.upd := rfl
@[simp] theorem mapZon_pwr (s : State) (f : Zon → Zon) : (s.mapZon f).pwr = s.pwr := rfl
@[simp] theorem mapZon_fresh (s : State) (f : Zon → Zon) : (s.mapZon f).fresh = s.fresh := rfl
@[simp] theorem mapZon_pending (s : State) (f : Zon → Zon) : (s.mapZon f).pending = s.pending := rfl

/-! ### mapGda -/
@[simp] theorem mapGda_now (s : State) (f : Guard → Guard) : (s.mapGda f).now = s.now := rfl
@[simp] theorem mapGda_regs (s : State) (f : Guard → Guard) : (s.mapGda f).regs = s.regs := rfl
@[simp] theorem mapGda_mems (s : State) (f : Guard → Guard) : (s.mapGda f).mems = s.mems := rfl
@[simp] theorem mapGda_bus (s : State) (f : Guard → Guard) : (s.mapGda f).bus = s.bus := rfl
@[simp] theorem mapGda_chp (s : State) (f : Guard → Guard) : (s.mapGda f).chp = s.chp := rfl
@[simp] theorem mapGda_psq (s : State) (f : Guard → Guard) : (s.mapGda f).psq = s.psq := rfl
@[simp] theorem mapGda_psy (s : State) (f : Guard → Guard) : (s.mapGda f).psy = s.psy := rfl
@[simp] theorem mapGda_src (s : State) (f : Guard → Guard) : (s.mapGda f).src = s.src := rfl
@[simp] theorem mapGda_occ (s : State) (f : Guard → Guard) : (s.mapGda f).occ = s.occ := rfl
@[simp] theorem mapGda_crx (s : State) (f : Guard → Guard) : (s.mapGda f).crx = s.crx := rfl
@[simp] theorem mapGda_cal (s : State) (f : Guard → Guard) : (s.mapGda f).cal = s.cal := rfl
@[simp] theorem mapGda_chn (s : State) (f : Guard → Guard) : (s.mapGda f).chn = s.chn := rfl
@[simp] theorem mapGda_pcm (s : State) (f : Guard → Guard) : (s.mapGda f).pcm = s.pcm := rfl
@[simp] theorem mapGda_phs (s : State) (f : Guard → Guard) : (s.mapGda f).phs = s.phs := rfl
@[simp] theorem mapGda_pfl (s : State) (f : Guard → Guard) : (s.mapGda f).pfl = s.pfl := rfl
@[simp] theorem mapGda_rmx (s : State) (f : Guard → Guard) : (s.mapGda f).rmx = s.rmx := rfl
@[simp] theorem mapGda_dts (s : State) (f : Guard → Guard) : (s.mapGda f).dts = s.dts := rfl
@[simp] theorem mapGda_aar (s : State) (f : Guard → Guard) : (s.mapGda f).aar = s.aar := rfl
@[simp] theorem mapGda_zon (s : State) (f : Guard → Guard) : (s.mapGda f).zon = s.zon := rfl
@[simp] theorem mapGda_gda (s : State) (f : Guard → Guard) : (s.mapGda f).gda = f s.gda := rfl
@[simp] theorem mapGda_gdb (s : State) (f : Guard → Guard) : (s.mapGda f).gdb = s.gdb := rfl
@[simp] theorem mapGda_guards (s : State) (f : Guard → Guard) : (s.mapGda f).guards = s.guards := rfl
@[simp] theorem mapGda_rng (s : State) (f : Guard → Guard) : (s.mapGda f).rng = s.rng := rfl
@[simp] theorem mapGda_cmp (s : State) (f : Guard → Guard) : (s.mapGda f).cmp = s.cmp := rfl
@[simp] theorem mapGda_cvu (s : State) (f : Guard → Guard) : (s.mapGda f).cvu = s.cvu := rfl
@[simp] theorem mapGda_dmc (s : State) (f : Guard → Guard) : (s.mapGda f).dmc = s.dmc := rfl
@[simp] theorem mapGda_ref (s : State) (f : Guard → Guard) : (s.mapGda f).ref = s.ref := rfl
@[simp] theorem mapGda_tiu (s : State) (f : Guard → Guard) : (s.mapGda f).tiu = s.tiu := rfl
@[simp] theorem mapGda_lan (s : State) (f : Guard → Guard) : (s.mapGda f).lan = s.lan := rfl
@[simp] theorem mapGda_eth (s : State) (f : Guard → Guard) : (s.mapGda f).eth = s.eth := rfl
@[simp] theorem mapGda_kpe (s : State) (f : Guard → Guard) : (s.mapGda f).kpe = s.kpe := rfl
@[simp] theorem mapGda_mgc (s : State) (f : Guard → Guard) : (s.mapGda f).mgc = s.mgc := rfl
@[simp] theorem mapGda_sns (s : State) (f : Guard → Guard) : (s.mapGda f).sns = s.sns := rfl
@[simp] theorem mapGda_evr (s : State) (f : Guard → Guard) : (s.mapGda f).evr = s.evr := rfl
@[simp] theorem mapGda_tim (s : State) (f : Guard → Guard) : (s.mapGda f).tim = s.tim := rfl
@[simp] theorem mapGda_upd (s : State) (f : Guard → Guard) : (s.mapGda f).upd = s.upd := rfl
@[simp] theorem mapGda_pwr (s : State) (f : Guard → Guard) : (s.mapGda f).pwr = s.pwr := rfl
@[simp] theorem mapGda_fresh (s : State) (f : Guard → Guard) : (s.mapGda f).fresh = s.fresh := rfl
@[simp] theorem mapGda_pending (s : State) (f : Guard → Guard) : (s.mapGda f).pending = s.pending := rfl

/-! ### mapGdb -/
@[simp] theorem mapGdb_now (s : State) (f : Guard → Guard) : (s.mapGdb f).now = s.now := rfl
@[simp] theorem mapGdb_regs (s : State) (f : Guard → Guard) : (s.mapGdb f).regs = s.regs := rfl
@[simp] theorem mapGdb_mems (s : State) (f : Guard → Guard) : (s.mapGdb f).mems = s.mems := rfl
@[simp] theorem mapGdb_bus (s : State) (f : Guard → Guard) : (s.mapGdb f).bus = s.bus := rfl
@[simp] theorem mapGdb_chp (s : State) (f : Guard → Guard) : (s.mapGdb f).chp = s.chp := rfl
@[simp] theorem mapGdb_psq (s : State) (f : Guard → Guard) : (s.mapGdb f).psq = s.psq := rfl
@[simp] theorem mapGdb_psy (s : State) (f : Guard → Guard) : (s.mapGdb f).psy = s.psy := rfl
@[simp] theorem mapGdb_src (s : State) (f : Guard → Guard) : (s.mapGdb f).src = s.src := rfl
@[simp] theorem mapGdb_occ (s : State) (f : Guard → Guard) : (s.mapGdb f).occ = s.occ := rfl
@[simp] theorem mapGdb_crx (s : State) (f : Guard → Guard) : (s.mapGdb f).crx = s.crx := rfl
@[simp] theorem mapGdb_cal (s : State) (f : Guard → Guard) : (s.mapGdb f).cal = s.cal := rfl
@[simp] theorem mapGdb_chn (s : State) (f : Guard → Guard) : (s.mapGdb f).chn = s.chn := rfl
@[simp] theorem mapGdb_pcm (s : State) (f : Guard → Guard) : (s.mapGdb f).pcm = s.pcm := rfl
@[simp] theorem mapGdb_phs (s : State) (f : Guard → Guard) : (s.mapGdb f).phs = s.phs := rfl
@[simp] theorem mapGdb_pfl (s : State) (f : Guard → Guard) : (s.mapGdb f).pfl = s.pfl := rfl
@[simp] theorem mapGdb_rmx (s : State) (f : Guard → Guard) : (s.mapGdb f).rmx = s.rmx := rfl
@[simp] theorem mapGdb_dts (s : State) (f : Guard → Guard) : (s.mapGdb f).dts = s.dts := rfl
@[simp] theorem mapGdb_aar (s : State) (f : Guard → Guard) : (s.mapGdb f).aar = s.aar := rfl
@[simp] theorem mapGdb_zon (s : State) (f : Guard → Guard) : (s.mapGdb f).zon = s.zon := rfl
@[simp] theorem mapGdb_gda (s : State) (f : Guard → Guard) : (s.mapGdb f).gda = s.gda := rfl
@[simp] theorem mapGdb_gdb (s : State) (f : Guard → Guard) : (s.mapGdb f).gdb = f s.gdb := rfl
@[simp] theorem mapGdb_guards (s : State) (f : Guard → Guard) : (s.mapGdb f).guards = s.guards := rfl
@[simp] theorem mapGdb_rng (s : State) (f : Guard → Guard) : (s.mapGdb f).rng = s.rng := rfl
@[simp] theorem mapGdb_cmp (s : State) (f : Guard → Guard) : (s.mapGdb f).cmp = s.cmp := rfl
@[simp] theorem mapGdb_cvu (s : State) (f : Guard → Guard) : (s.mapGdb f).cvu = s.cvu := rfl
@[simp] theorem mapGdb_dmc (s : State) (f : Guard → Guard) : (s.mapGdb f).dmc = s.dmc := rfl
@[simp] theorem mapGdb_ref (s : State) (f : Guard → Guard) : (s.mapGdb f).ref = s.ref := rfl
@[simp] theorem mapGdb_tiu (s : State) (f : Guard → Guard) : (s.mapGdb f).tiu = s.tiu := rfl
@[simp] theorem mapGdb_lan (s : State) (f : Guard → Guard) : (s.mapGdb f).lan = s.lan := rfl
@[simp] theorem mapGdb_eth (s : State) (f : Guard → Guard) : (s.mapGdb f).eth = s.eth := rfl
@[simp] theorem mapGdb_kpe (s : State) (f : Guard → Guard) : (s.mapGdb f).kpe = s.kpe := rfl
@[simp] theorem mapGdb_mgc (s : State) (f : Guard → Guard) : (s.mapGdb f).mgc = s.mgc := rfl
@[simp] theorem mapGdb_sns (s : State) (f : Guard → Guard) : (s.mapGdb f).sns = s.sns := rfl
@[simp] theorem mapGdb_evr (s : State) (f : Guard → Guard) : (s.mapGdb f).evr = s.evr := rfl
@[simp] theorem mapGdb_tim (s : State) (f : Guard → Guard) : (s.mapGdb f).tim = s.tim := rfl
@[simp] theorem mapGdb_upd (s : State) (f : Guard → Guard) : (s.mapGdb f).upd = s.upd := rfl
@[simp] theorem mapGdb_pwr (s : State) (f : Guard → Guard) : (s.mapGdb f).pwr = s.pwr := rfl
@[simp] theorem mapGdb_fresh (s : State) (f : Guard → Guard) : (s.mapGdb f).fresh = s.fresh := rfl
@[simp] theorem mapGdb_pending (s : State) (f : Guard → Guard) : (s.mapGdb f).pending = s.pending := rfl

/-! ### mapGuards -/
@[simp] theorem mapGuards_now (s : State) (f : GuardShared → GuardShared) : (s.mapGuards f).now = s.now := rfl
@[simp] theorem mapGuards_regs (s : State) (f : GuardShared → GuardShared) : (s.mapGuards f).regs = s.regs := rfl
@[simp] theorem mapGuards_mems (s : State) (f : GuardShared → GuardShared) : (s.mapGuards f).mems = s.mems := rfl
@[simp] theorem mapGuards_bus (s : State) (f : GuardShared → GuardShared) : (s.mapGuards f).bus = s.bus := rfl
@[simp] theorem mapGuards_chp (s : State) (f : GuardShared → GuardShared) : (s.mapGuards f).chp = s.chp := rfl
@[simp] theorem mapGuards_psq (s : State) (f : GuardShared → GuardShared) : (s.mapGuards f).psq = s.psq := rfl
@[simp] theorem mapGuards_psy (s : State) (f : GuardShared → GuardShared) : (s.mapGuards f).psy = s.psy := rfl
@[simp] theorem mapGuards_src (s : State) (f : GuardShared → GuardShared) : (s.mapGuards f).src = s.src := rfl
@[simp] theorem mapGuards_occ (s : State) (f : GuardShared → GuardShared) : (s.mapGuards f).occ = s.occ := rfl
@[simp] theorem mapGuards_crx (s : State) (f : GuardShared → GuardShared) : (s.mapGuards f).crx = s.crx := rfl
@[simp] theorem mapGuards_cal (s : State) (f : GuardShared → GuardShared) : (s.mapGuards f).cal = s.cal := rfl
@[simp] theorem mapGuards_chn (s : State) (f : GuardShared → GuardShared) : (s.mapGuards f).chn = s.chn := rfl
@[simp] theorem mapGuards_pcm (s : State) (f : GuardShared → GuardShared) : (s.mapGuards f).pcm = s.pcm := rfl
@[simp] theorem mapGuards_phs (s : State) (f : GuardShared → GuardShared) : (s.mapGuards f).phs = s.phs := rfl
@[simp] theorem mapGuards_pfl (s : State) (f : GuardShared → GuardShared) : (s.mapGuards f).pfl = s.pfl := rfl
@[simp] theorem mapGuards_rmx (s : State) (f : GuardShared → GuardShared) : (s.mapGuards f).rmx = s.rmx := rfl
@[simp] theorem mapGuards_dts (s : State) (f : GuardShared → GuardShared) : (s.mapGuards f).dts = s.dts := rfl
@[simp] theorem mapGuards_aar (s : State) (f : GuardShared → GuardShared) : (s.mapGuards f).aar = s.aar := rfl
@[simp] theorem mapGuards_zon (s : State) (f : GuardShared → GuardShared) : (s.mapGuards f).zon = s.zon := rfl
@[simp] theorem mapGuards_gda (s : State) (f : GuardShared → GuardShared) : (s.mapGuards f).gda = s.gda := rfl
@[simp] theorem mapGuards_gdb (s : State) (f : GuardShared → GuardShared) : (s.mapGuards f).gdb = s.gdb := rfl
@[simp] theorem mapGuards_guards (s : State) (f : GuardShared → GuardShared) : (s.mapGuards f).guards = f s.guards := rfl
@[simp] theorem mapGuards_rng (s : State) (f : GuardShared → GuardShared) : (s.mapGuards f).rng = s.rng := rfl
@[simp] theorem mapGuards_cmp (s : State) (f : GuardShared → GuardShared) : (s.mapGuards f).cmp = s.cmp := rfl
@[simp] theorem mapGuards_cvu (s : State) (f : GuardShared → GuardShared) : (s.mapGuards f).cvu = s.cvu := rfl
@[simp] theorem mapGuards_dmc (s : State) (f : GuardShared → GuardShared) : (s.mapGuards f).dmc = s.dmc := rfl
@[simp] theorem mapGuards_ref (s : State) (f : GuardShared → GuardShared) : (s.mapGuards f).ref = s.ref := rfl
@[simp] theorem mapGuards_tiu (s : State) (f : GuardShared → GuardShared) : (s.mapGuards f).tiu = s.tiu := rfl
@[simp] theorem mapGuards_lan (s : State) (f : GuardShared → GuardShared) : (s.mapGuards f).lan = s.lan := rfl
@[simp] theorem mapGuards_eth (s : State) (f : GuardShared → GuardShared) : (s.mapGuards f).eth = s.eth := rfl
@[simp] theorem mapGuards_kpe (s : State) (f : GuardShared → GuardShared) : (s.mapGuards f).kpe = s.kpe := rfl
@[simp] theorem mapGuards_mgc (s : State) (f : GuardShared → GuardShared) : (s.mapGuards f).mgc = s.mgc := rfl
@[simp] theorem mapGuards_sns (s : State) (f : GuardShared → GuardShared) : (s.mapGuards f).sns = s.sns := rfl
@[simp] theorem mapGuards_evr (s : State) (f : GuardShared → GuardShared) : (s.mapGuards f).evr = s.evr := rfl
@[simp] theorem mapGuards_tim (s : State) (f : GuardShared → GuardShared) : (s.mapGuards f).tim = s.tim := rfl
@[simp] theorem mapGuards_upd (s : State) (f : GuardShared → GuardShared) : (s.mapGuards f).upd = s.upd := rfl
@[simp] theorem mapGuards_pwr (s : State) (f : GuardShared → GuardShared) : (s.mapGuards f).pwr = s.pwr := rfl
@[simp] theorem mapGuards_fresh (s : State) (f : GuardShared → GuardShared) : (s.mapGuards f).fresh = s.fresh := rfl
@[simp] theorem mapGuards_pending (s : State) (f : GuardShared → GuardShared) : (s.mapGuards f).pending = s.pending := rfl

/-! ### mapRng -/
@[simp] theorem mapRng_now (s : State) (f : Rng → Rng) : (s.mapRng f).now = s.now := rfl
@[simp] theorem mapRng_regs (s : State) (f : Rng → Rng) : (s.mapRng f).regs = s.regs := rfl
@[simp] theorem mapRng_mems (s : State) (f : Rng → Rng) : (s.mapRng f).mems = s.mems := rfl
@[simp] theorem mapRng_bus (s : State) (f : Rng → Rng) : (s.mapRng f).bus = s.bus := rfl
@[simp] theorem mapRng_chp (s : State) (f : Rng → Rng) : (s.mapRng f).chp = s.chp := rfl
@[simp] theorem mapRng_psq (s : State) (f : Rng → Rng) : (s.mapRng f).psq = s.psq := rfl
@[simp] theorem mapRng_psy (s : State) (f : Rng → Rng) : (s.mapRng f).psy = s.psy := rfl
@[simp] theorem mapRng_src (s : State) (f : Rng → Rng) : (s.mapRng f).src = s.src := rfl
@[simp] theorem mapRng_occ (s : State) (f : Rng → Rng) : (s.mapRng f).occ = s.occ := rfl
@[simp] theorem mapRng_crx (s : State) (f : Rng → Rng) : (s.mapRng f).crx = s.crx := rfl
@[simp] theorem mapRng_cal (s : State) (f : Rng → Rng) : (s.mapRng f).cal = s.cal := rfl
@[simp] theorem mapRng_chn (s : State) (f : Rng → Rng) : (s.mapRng f).chn = s.chn := rfl
@[simp] theorem mapRng_pcm (s : State) (f : Rng → Rng) : (s.mapRng f).pcm = s.pcm := rfl
@[simp] theorem mapRng_phs (s : State) (f : Rng → Rng) : (s.mapRng f).phs = s.phs := rfl
@[simp] theorem mapRng_pfl (s : State) (f : Rng → Rng) : (s.mapRng f).pfl = s.pfl := rfl
@[simp] theorem mapRng_rmx (s : State) (f : Rng → Rng) : (s.mapRng f).rmx = s.rmx := rfl
@[simp] theorem mapRng_dts (s : State) (f : Rng → Rng) : (s.mapRng f).dts = s.dts := rfl
@[simp] theorem mapRng_aar (s : State) (f : Rng → Rng) : (s.mapRng f).aar = s.aar := rfl
@[simp] theorem mapRng_zon (s : State) (f : Rng → Rng) : (s.mapRng f).zon = s.zon := rfl
@[simp] theorem mapRng_gda (s : State) (f : Rng → Rng) : (s.mapRng f).gda = s.gda := rfl
@[simp] theorem mapRng_gdb (s : State) (f : Rng → Rng) : (s.mapRng f).gdb = s.gdb := rfl
@[simp] theorem mapRng_guards (s : State) (f : Rng → Rng) : (s.mapRng f).guards = s.guards := rfl
@[simp] theorem mapRng_rng (s : State) (f : Rng → Rng) : (s.mapRng f).rng = f s.rng := rfl
@[simp] theorem mapRng_cmp (s : State) (f : Rng → Rng) : (s.mapRng f).cmp = s.cmp := rfl
@[simp] theorem mapRng_cvu (s : State) (f : Rng → Rng) : (s.mapRng f).cvu = s.cvu := rfl
@[simp] theorem mapRng_dmc (s : State) (f : Rng → Rng) : (s.mapRng f).dmc = s.dmc := rfl
@[simp] theorem mapRng_ref (s : State) (f : Rng → Rng) : (s.mapRng f).ref = s.ref := rfl
@[simp] theorem mapRng_tiu (s : State) (f : Rng → Rng) : (s.mapRng f).tiu = s.tiu := rfl
@[simp] theorem mapRng_lan (s : State) (f : Rng → Rng) : (s.mapRng f).lan = s.lan := rfl
@[simp] theorem mapRng_eth (s : State) (f : Rng → Rng) : (s.mapRng f).eth = s.eth := rfl
@[simp] theorem mapRng_kpe (s : State) (f : Rng → Rng) : (s.mapRng f).kpe = s.kpe := rfl
@[simp] theorem mapRng_mgc (s : State) (f : Rng → Rng) : (s.mapRng f).mgc = s.mgc := rfl
@[simp] theorem mapRng_sns (s : State) (f : Rng → Rng) : (s.mapRng f).sns = s.sns := rfl
@[simp] theorem mapRng_evr (s : State) (f : Rng → Rng) : (s.mapRng f).evr = s.evr := rfl
@[simp] theorem mapRng_tim (s : State) (f : Rng → Rng) : (s.mapRng f).tim = s.tim := rfl
@[simp] theorem mapRng_upd (s : State) (f : Rng → Rng) : (s.mapRng f).upd = s.upd := rfl
@[simp] theorem mapRng_pwr (s : State) (f : Rng → Rng) : (s.mapRng f).pwr = s.pwr := rfl
@[simp] theorem mapRng_fresh (s : State) (f : Rng → Rng) : (s.mapRng f).fresh = s.fresh := rfl
@[simp] theorem mapRng_pending (s : State) (f : Rng → Rng) : (s.mapRng f).pending = s.pending := rfl

/-! ### mapCmp -/
@[simp] theorem mapCmp_now (s : State) (f : Cmp → Cmp) : (s.mapCmp f).now = s.now := rfl
@[simp] theorem mapCmp_regs (s : State) (f : Cmp → Cmp) : (s.mapCmp f).regs = s.regs := rfl
@[simp] theorem mapCmp_mems (s : State) (f : Cmp → Cmp) : (s.mapCmp f).mems = s.mems := rfl
@[simp] theorem mapCmp_bus (s : State) (f : Cmp → Cmp) : (s.mapCmp f).bus = s.bus := rfl
@[simp] theorem mapCmp_chp (s : State) (f : Cmp → Cmp) : (s.mapCmp f).chp = s.chp := rfl
@[simp] theorem mapCmp_psq (s : State) (f : Cmp → Cmp) : (s.mapCmp f).psq = s.psq := rfl
@[simp] theorem mapCmp_psy (s : State) (f : Cmp → Cmp) : (s.mapCmp f).psy = s.psy := rfl
@[simp] theorem mapCmp_src (s : State) (f : Cmp → Cmp) : (s.mapCmp f).src = s.src := rfl
@[simp] theorem mapCmp_occ (s : State) (f : Cmp → Cmp) : (s.mapCmp f).occ = s.occ := rfl
@[simp] theorem mapCmp_crx (s : State) (f : Cmp → Cmp) : (s.mapCmp f).crx = s.crx := rfl
@[simp] theorem mapCmp_cal (s : State) (f : Cmp → Cmp) : (s.mapCmp f).cal = s.cal := rfl
@[simp] theorem mapCmp_chn (s : State) (f : Cmp → Cmp) : (s.mapCmp f).chn = s.chn := rfl
@[simp] theorem mapCmp_pcm (s : State) (f : Cmp → Cmp) : (s.mapCmp f).pcm = s.pcm := rfl
@[simp] theorem mapCmp_phs (s : State) (f : Cmp → Cmp) : (s.mapCmp f).phs = s.phs := rfl
@[simp] theorem mapCmp_pfl (s : State) (f : Cmp → Cmp) : (s.mapCmp f).pfl = s.pfl := rfl
@[simp] theorem mapCmp_rmx (s : State) (f : Cmp → Cmp) : (s.mapCmp f).rmx = s.rmx := rfl
@[simp] theorem mapCmp_dts (s : State) (f : Cmp → Cmp) : (s.mapCmp f).dts = s.dts := rfl
@[simp] theorem mapCmp_aar (s : State) (f : Cmp → Cmp) : (s.mapCmp f).aar = s.aar := rfl
@[simp] theorem mapCmp_zon (s : State) (f : Cmp → Cmp) : (s.mapCmp f).zon = s.zon := rfl
@[simp] theorem mapCmp_gda (s : State) (f : Cmp → Cmp) : (s.mapCmp f).gda = s.gda := rfl
@[simp] theorem mapCmp_gdb (s : State) (f : Cmp → Cmp) : (s.mapCmp f).gdb = s.gdb := rfl
@[simp] theorem mapCmp_guards (s : State) (f : Cmp → Cmp) : (s.mapCmp f).guards = s.guards := rfl
@[simp] theorem mapCmp_rng (s : State) (f : Cmp → Cmp) : (s.mapCmp f).rng = s.rng := rfl
@[simp] theorem mapCmp_cmp (s : State) (f : Cmp → Cmp) : (s.mapCmp f).cmp = f s.cmp := rfl
@[simp] theorem mapCmp_cvu (s : State) (f : Cmp → Cmp) : (s.mapCmp f).cvu = s.cvu := rfl
@[simp] theorem mapCmp_dmc (s : State) (f : Cmp → Cmp) : (s.mapCmp f).dmc = s.dmc := rfl
@[simp] theorem mapCmp_ref (s : State) (f : Cmp → Cmp) : (s.mapCmp f).ref = s.ref := rfl
@[simp] theorem mapCmp_tiu (s : State) (f : Cmp → Cmp) : (s.mapCmp f).tiu = s.tiu := rfl
@[simp] theorem mapCmp_lan (s : State) (f : Cmp → Cmp) : (s.mapCmp f).lan = s.lan := rfl
@[simp] theorem mapCmp_eth (s : State) (f : Cmp → Cmp) : (s.mapCmp f).eth = s.eth := rfl
@[simp] theorem mapCmp_kpe (s : State) (f : Cmp → Cmp) : (s.mapCmp f).kpe = s.kpe := rfl
@[simp] theorem mapCmp_mgc (s : State) (f : Cmp → Cmp) : (s.mapCmp f).mgc = s.mgc := rfl
@[simp] theorem mapCmp_sns (s : State) (f : Cmp → Cmp) : (s.mapCmp f).sns = s.sns := rfl
@[simp] theorem mapCmp_evr (s : State) (f : Cmp → Cmp) : (s.mapCmp f).evr = s.evr := rfl
@[simp] theorem mapCmp_tim (s : State) (f : Cmp → Cmp) : (s.mapCmp f).tim = s.tim := rfl
@[simp] theorem mapCmp_upd (s : State) (f : Cmp → Cmp) : (s.mapCmp f).upd = s.upd := rfl
@[simp] theorem mapCmp_pwr (s : State) (f : Cmp → Cmp) : (s.mapCmp f).pwr = s.pwr := rfl
@[simp] theorem mapCmp_fresh (s : State) (f : Cmp → Cmp) : (s.mapCmp f).fresh = s.fresh := rfl
@[simp] theorem mapCmp_pending (s : State) (f : Cmp → Cmp) : (s.mapCmp f).pending = s.pending := rfl

/-! ### mapCvu -/
@[simp] theorem mapCvu_now (s : State) (f : Cvu → Cvu) : (s.mapCvu f).now = s.now := rfl
@[simp] theorem mapCvu_regs (s : State) (f : Cvu → Cvu) : (s.mapCvu f).regs = s.regs := rfl
@[simp] theorem mapCvu_mems (s : State) (f : Cvu → Cvu) : (s.mapCvu f).mems = s.mems := rfl
@[simp] theorem mapCvu_bus (s : State) (f : Cvu → Cvu) : (s.mapCvu f).bus = s.bus := rfl
@[simp] theorem mapCvu_chp (s : State) (f : Cvu → Cvu) : (s.mapCvu f).chp = s.chp := rfl
@[simp] theorem mapCvu_psq (s : State) (f : Cvu → Cvu) : (s.mapCvu f).psq = s.psq := rfl
@[simp] theorem mapCvu_psy (s : State) (f : Cvu → Cvu) : (s.mapCvu f).psy = s.psy := rfl
@[simp] theorem mapCvu_src (s : State) (f : Cvu → Cvu) : (s.mapCvu f).src = s.src := rfl
@[simp] theorem mapCvu_occ (s : State) (f : Cvu → Cvu) : (s.mapCvu f).occ = s.occ := rfl
@[simp] theorem mapCvu_crx (s : State) (f : Cvu → Cvu) : (s.mapCvu f).crx = s.crx := rfl
@[simp] theorem mapCvu_cal (s : State) (f : Cvu → Cvu) : (s.mapCvu f).cal = s.cal := rfl
@[simp] theorem mapCvu_chn (s : State) (f : Cvu → Cvu) : (s.mapCvu f).chn = s.chn := rfl
@[simp] theorem mapCvu_pcm (s : State) (f : Cvu → Cvu) : (s.mapCvu f).pcm = s.pcm := rfl
@[simp] theorem mapCvu_phs (s : State) (f : Cvu → Cvu) : (s.mapCvu f).phs = s.phs := rfl
@[simp] theorem mapCvu_pfl (s : State) (f : Cvu → Cvu) : (s.mapCvu f).pfl = s.pfl := rfl
@[simp] theorem mapCvu_rmx (s : State) (f : Cvu → Cvu) : (s.mapCvu f).rmx = s.rmx := rfl
@[simp] theorem mapCvu_dts (s : State) (f : Cvu → Cvu) : (s.mapCvu f).dts = s.dts := rfl
@[simp] theorem mapCvu_aar (s : State) (f : Cvu → Cvu) : (s.mapCvu f).aar = s.aar := rfl
@[simp] theorem mapCvu_zon (s : State) (f : Cvu → Cvu) : (s.mapCvu f).zon = s.zon := rfl
@[simp] theorem mapCvu_gda (s : State) (f : Cvu → Cvu) : (s.mapCvu f).gda = s.gda := rfl
@[simp] theorem mapCvu_gdb (s : State) (f : Cvu → Cvu) : (s.mapCvu f).gdb = s.gdb := rfl
@[simp] theorem mapCvu_guards (s : State) (f : Cvu → Cvu) : (s.mapCvu f).guards = s.guards := rfl
@[simp] theorem mapCvu_rng (s : State) (f : Cvu → Cvu) : (s.mapCvu f).rng = s.rng := rfl
@[simp] theorem mapCvu_cmp (s : State) (f : Cvu → Cvu) : (s.mapCvu f).cmp = s.cmp := rfl
@[simp] theorem mapCvu_cvu (s : State) (f : Cvu → Cvu) : (s.mapCvu f).cvu = f s.cvu := rfl
@[simp] theorem mapCvu_dmc (s : State) (f : Cvu → Cvu) : (s.mapCvu f).dmc = s.dmc := rfl
@[simp] theorem mapCvu_ref (s : State) (f : Cvu → Cvu) : (s.mapCvu f).ref = s.ref := rfl
@[simp] theorem mapCvu_tiu (s : State) (f : Cvu → Cvu) : (s.mapCvu f).tiu = s.tiu := rfl
@[simp] theorem mapCvu_lan (s : State) (f : Cvu → Cvu) : (s.mapCvu f).lan = s.lan := rfl
@[simp] theorem mapCvu_eth (s : State) (f : Cvu → Cvu) : (s.mapCvu f).eth = s.eth := rfl
@[simp] theorem mapCvu_kpe (s : State) (f : Cvu → Cvu) : (s.mapCvu f).kpe = s.kpe := rfl
@[simp] theorem mapCvu_mgc (s : State) (f : Cvu → Cvu) : (s.mapCvu f).mgc = s.mgc := rfl
@[simp] theorem mapCvu_sns (s : State) (f : Cvu → Cvu) : (s.mapCvu f).sns = s.sns := rfl
@[simp] theorem mapCvu_evr (s : State) (f : Cvu → Cvu) : (s.mapCvu f).evr = s.evr := rfl
@[simp] theorem mapCvu_tim (s : State) (f : Cvu → Cvu) : (s.mapCvu f).tim = s.tim := rfl
@[simp] theorem mapCvu_upd (s : State) (f : Cvu → Cvu) : (s.mapCvu f).upd = s.upd := rfl
@[simp] theorem mapCvu_pwr (s : State) (f : Cvu → Cvu) : (s.mapCvu f).pwr = s.pwr := rfl
@[simp] theorem mapCvu_fresh (s : State) (f : Cvu → Cvu) : (s.mapCvu f).fresh = s.fresh := rfl
@[simp] theorem mapCvu_pending (s : State) (f : Cvu → Cvu) : (s.mapCvu f).pending = s.pending := rfl

/-! ### mapDmc -/
@[simp] theorem mapDmc_now (s : State) (f : Dmc → Dmc) : (s.mapDmc f).now = s.now := rfl
@[simp] theorem mapDmc_regs (s : State) (f : Dmc → Dmc) : (s.mapDmc f).regs = s.regs := rfl
@[simp] theorem mapDmc_mems (s : State) (f : Dmc → Dmc) : (s.mapDmc f).mems = s.mems := rfl
@[simp] theorem mapDmc_bus (s : State) (f : Dmc → Dmc) : (s.mapDmc f).bus = s.bus := rfl
@[simp] theorem mapDmc_chp (s : State) (f : Dmc → Dmc) : (s.mapDmc f).chp = s.chp := rfl
@[simp] theorem mapDmc_psq (s : State) (f : Dmc → Dmc) : (s.mapDmc f).psq = s.psq := rfl
@[simp] theorem mapDmc_psy (s : State) (f : Dmc → Dmc) : (s.mapDmc f).psy = s.psy := rfl
@[simp] theorem mapDmc_src (s : State) (f : Dmc → Dmc) : (s.mapDmc f).src = s.src := rfl
@[simp] theorem mapDmc_occ (s : State) (f : Dmc → Dmc) : (s.mapDmc f).occ = s.occ := rfl
@[simp] theorem mapDmc_crx (s : State) (f : Dmc → Dmc) : (s.mapDmc f).crx = s.crx := rfl
@[simp] theorem mapDmc_cal (s : State) (f : Dmc → Dmc) : (s.mapDmc f).cal = s.cal := rfl
@[simp] theorem mapDmc_chn (s : State) (f : Dmc → Dmc) : (s.mapDmc f).chn = s.chn := rfl
@[simp] theorem mapDmc_pcm (s : State) (f : Dmc → Dmc) : (s.mapDmc f).pcm = s.pcm := rfl
@[simp] theorem mapDmc_phs (s : State) (f : Dmc → Dmc) : (s.mapDmc f).phs = s.phs := rfl
@[simp] theorem mapDmc_pfl (s : State) (f : Dmc → Dmc) : (s.mapDmc f).pfl = s.pfl := rfl
@[simp] theorem mapDmc_rmx (s : State) (f : Dmc → Dmc) : (s.mapDmc f).rmx = s.rmx := rfl
@[simp] theorem mapDmc_dts (s : State) (f : Dmc → Dmc) : (s.mapDmc f).dts = s.dts := rfl
@[simp] theorem mapDmc_aar (s : State) (f : Dmc → Dmc) : (s.mapDmc f).aar = s.aar := rfl
@[simp] theorem mapDmc_zon (s : State) (f : Dmc → Dmc) : (s.mapDmc f).zon = s.zon := rfl
@[simp] theorem mapDmc_gda (s : State) (f : Dmc → Dmc) : (s.mapDmc f).gda = s.gda := rfl
@[simp] theorem mapDmc_gdb (s : State) (f : Dmc → Dmc) : (s.mapDmc f).gdb = s.gdb := rfl
@[simp] theorem mapDmc_guards (s : State) (f : Dmc → Dmc) : (s.mapDmc f).guards = s.guards := rfl
@[simp] theorem mapDmc_rng (s : State) (f : Dmc → Dmc) : (s.mapDmc f).rng = s.rng := rfl
@[simp] theorem mapDmc_cmp (s : State) (f : Dmc → Dmc) : (s.mapDmc f).cmp = s.cmp := rfl
@[simp] theorem mapDmc_cvu (s : State) (f : Dmc → Dmc) : (s.mapDmc f).cvu = s.cvu := rfl
@[simp] theorem mapDmc_dmc (s : State) (f : Dmc → Dmc) : (s.mapDmc f).dmc = f s.dmc := rfl
@[simp] theorem mapDmc_ref (s : State) (f : Dmc → Dmc) : (s.mapDmc f).ref = s.ref := rfl
@[simp] theorem mapDmc_tiu (s : State) (f : Dmc → Dmc) : (s.mapDmc f).tiu = s.tiu := rfl
@[simp] theorem mapDmc_lan (s : State) (f : Dmc → Dmc) : (s.mapDmc f).lan = s.lan := rfl
@[simp] theorem mapDmc_eth (s : State) (f : Dmc → Dmc) : (s.mapDmc f).eth = s.eth := rfl
@[simp] theorem mapDmc_kpe (s : State) (f : Dmc → Dmc) : (s.mapDmc f).kpe = s.kpe := rfl
@[simp] theorem mapDmc_mgc (s : State) (f : Dmc → Dmc) : (s.mapDmc f).mgc = s.mgc := rfl
@[simp] theorem mapDmc_sns (s : State) (f : Dmc → Dmc) : (s.mapDmc f).sns = s.sns := rfl
@[simp] theorem mapDmc_evr (s : State) (f : Dmc → Dmc) : (s.mapDmc f).evr = s.evr := rfl
@[simp] theorem mapDmc_tim (s : State) (f : Dmc → Dmc) : (s.mapDmc f).tim = s.tim := rfl
@[simp] theorem mapDmc_upd (s : State) (f : Dmc → Dmc) : (s.mapDmc f).upd = s.upd := rfl
@[simp] theorem mapDmc_pwr (s : State) (f : Dmc → Dmc) : (s.mapDmc f).pwr = s.pwr := rfl
@[simp] theorem mapDmc_fresh (s : State) (f : Dmc → Dmc) : (s.mapDmc f).fresh = s.fresh := rfl
@[simp] theorem mapDmc_pending (s : State) (f : Dmc → Dmc) : (s.mapDmc f).pending = s.pending := rfl

/-! ### mapRef -/
@[simp] theorem mapRef_now (s : State) (f : Ref → Ref) : (s.mapRef f).now = s.now := rfl
@[simp] theorem mapRef_regs (s : State) (f : Ref → Ref) : (s.mapRef f).regs = s.regs := rfl
@[simp] theorem mapRef_mems (s : State) (f : Ref → Ref) : (s.mapRef f).mems = s.mems := rfl
@[simp] theorem mapRef_bus (s : State) (f : Ref → Ref) : (s.mapRef f).bus = s.bus := rfl
@[simp] theorem mapRef_chp (s : State) (f : Ref → Ref) : (s.mapRef f).chp = s.chp := rfl
@[simp] theorem mapRef_psq (s : State) (f : Ref → Ref) : (s.mapRef f).psq = s.psq := rfl
@[simp] theorem mapRef_psy (s : State) (f : Ref → Ref) : (s.mapRef f).psy = s.psy := rfl
@[simp] theorem mapRef_src (s : State) (f : Ref → Ref) : (s.mapRef f).src = s.src := rfl
@[simp] theorem mapRef_occ (s : State) (f : Ref → Ref) : (s.mapRef f).occ = s.occ := rfl
@[simp] theorem mapRef_crx (s : State) (f : Ref → Ref) : (s.mapRef f).crx = s.crx := rfl
@[simp] theorem mapRef_cal (s : State) (f : Ref → Ref) : (s.mapRef f).cal = s.cal := rfl
@[simp] theorem mapRef_chn (s : State) (f : Ref → Ref) : (s.mapRef f).chn = s.chn := rfl
@[simp] theorem mapRef_pcm (s : State) (f : Ref → Ref) : (s.mapRef f).pcm = s.pcm := rfl
@[simp] theorem mapRef_phs (s : State) (f : Ref → Ref) : (s.mapRef f).phs = s.phs := rfl
@[simp] theorem mapRef_pfl (s : State) (f : Ref → Ref) : (s.mapRef f).pfl = s.pfl := rfl
@[simp] theorem mapRef_rmx (s : State) (f : Ref → Ref) : (s.mapRef f).rmx = s.rmx := rfl
@[simp] theorem mapRef_dts (s : State) (f : Ref → Ref) : (s.mapRef f).dts = s.dts := rfl
@[simp] theorem mapRef_aar (s : State) (f : Ref → Ref) : (s.mapRef f).aar = s.aar := rfl
@[simp] theorem mapRef_zon (s : State) (f : Ref → Ref) : (s.mapRef f).zon = s.zon := rfl
@[simp] theorem mapRef_gda (s : State) (f : Ref → Ref) : (s.mapRef f).gda = s.gda := rfl
@[simp] theorem mapRef_gdb (s : State) (f : Ref → Ref) : (s.mapRef f).gdb = s.gdb := rfl
@[simp] theorem mapRef_guards (s : State) (f : Ref → Ref) : (s.mapRef f).guards = s.guards := rfl
@[simp] theorem mapRef_rng (s : State) (f : Ref → Ref) : (s.mapRef f).rng = s.rng := rfl
@[simp] theorem mapRef_cmp (s : State) (f : Ref → Ref) : (s.mapRef f).cmp = s.cmp := rfl
@[simp] theorem mapRef_cvu (s : State) (f : Ref → Ref) : (s.mapRef f).cvu = s.cvu := rfl
@[simp] theorem mapRef_dmc (s : State) (f : Ref → Ref) : (s.mapRef f).dmc = s.dmc := rfl
@[simp] theorem mapRef_ref (s : State) (f : Ref → Ref) : (s.mapRef f).ref = f s.ref := rfl
@[simp] theorem mapRef_tiu (s : State) (f : Ref → Ref) : (s.mapRef f).tiu = s.tiu := rfl
@[simp] theorem mapRef_lan (s : State) (f : Ref → Ref) : (s.mapRef f).lan = s.lan := rfl
@[simp] theorem mapRef_eth (s : State) (f : Ref → Ref) : (s.mapRef f).eth = s.eth := rfl
@[simp] theorem mapRef_kpe (s : State) (f : Ref → Ref) : (s.mapRef f).kpe = s.kpe := rfl
@[simp] theorem mapRef_mgc (s : State) (f : Ref → Ref) : (s.mapRef f).mgc = s.mgc := rfl
@[simp] theorem mapRef_sns (s : State) (f : Ref → Ref) : (s.mapRef f).sns = s.sns := rfl
@[simp] theorem mapRef_evr (s : State) (f : Ref → Ref) : (s.mapRef f).evr = s.evr := rfl
@[simp] theorem mapRef_tim (s : State) (f : Ref → Ref) : (s.mapRef f).tim = s.tim := rfl
@[simp] theorem mapRef_upd (s : State) (f : Ref → Ref) : (s.mapRef f).upd = s.upd := rfl
@[simp] theorem mapRef_pwr (s : State) (f : Ref → Ref) : (s.mapRef f).pwr = s.pwr := rfl
@[simp] theorem mapRef_fresh (s : State) (f : Ref → Ref) : (s.mapRef f).fresh = s.fresh := rfl
@[simp] theorem mapRef_pending (s : State) (f : Ref → Ref) : (s.mapRef f).pending = s.pending := rfl

/-! ### mapTiu -/
@[simp] theorem mapTiu_now (s : State) (f : Tiu → Tiu) : (s.mapTiu f).now = s.now := rfl
@[simp] theorem mapTiu_regs (s : State) (f : Tiu → Tiu) : (s.mapTiu f).regs = s.regs := rfl
@[simp] theorem mapTiu_mems (s : State) (f : Tiu → Tiu) : (s.mapTiu f).mems = s.mems := rfl
@[simp] theorem mapTiu_bus (s : State) (f : Tiu → Tiu) : (s.mapTiu f).bus = s.bus := rfl
@[simp] theorem mapTiu_chp (s : State) (f : Tiu → Tiu) : (s.mapTiu f).chp = s.chp := rfl
@[simp] theorem mapTiu_psq (s : State) (f : Tiu → Tiu) : (s.mapTiu f).psq = s.psq := rfl
@[simp] theorem mapTiu_psy (s : State) (f : Tiu → Tiu) : (s.mapTiu f).psy = s.psy := rfl
@[simp] theorem mapTiu_src (s : State) (f : Tiu → Tiu) : (s.mapTiu f).src = s.src := rfl
@[simp] theorem mapTiu_occ (s : State) (f : Tiu → Tiu) : (s.mapTiu f).occ = s.occ := rfl
@[simp] theorem mapTiu_crx (s : State) (f : Tiu → Tiu) : (s.mapTiu f).crx = s.crx := rfl
@[simp] theorem mapTiu_cal (s : State) (f : Tiu → Tiu) : (s.mapTiu f).cal = s.cal := rfl
@[simp] theorem mapTiu_chn (s : State) (f : Tiu → Tiu) : (s.mapTiu f).chn = s.chn := rfl
@[simp] theorem mapTiu_pcm (s : State) (f : Tiu → Tiu) : (s.mapTiu f).pcm = s.pcm := rfl
@[simp] theorem mapTiu_phs (s : State) (f : Tiu → Tiu) : (s.mapTiu f).phs = s.phs := rfl
@[simp] theorem mapTiu_pfl (s : State) (f : Tiu → Tiu) : (s.mapTiu f).pfl = s.pfl := rfl
@[simp] theorem mapTiu_rmx (s : State) (f : Tiu → Tiu) : (s.mapTiu f).rmx = s.rmx := rfl
@[simp] theorem mapTiu_dts (s : State) (f : Tiu → Tiu) : (s.mapTiu f).dts = s.dts := rfl
@[simp] theorem mapTiu_aar (s : State) (f : Tiu → Tiu) : (s.mapTiu f).aar = s.aar := rfl
@[simp] theorem mapTiu_zon (s : State) (f : Tiu → Tiu) : (s.mapTiu f).zon = s.zon := rfl
@[simp] theorem mapTiu_gda (s : State) (f : Tiu → Tiu) : (s.mapTiu f).gda = s.gda := rfl
@[simp] theorem mapTiu_gdb (s : State) (f : Tiu → Tiu) : (s.mapTiu f).gdb = s.gdb := rfl
@[simp] theorem mapTiu_guards (s : State) (f : Tiu → Tiu) : (s.mapTiu f).guards = s.guards := rfl
@[simp] theorem mapTiu_rng (s : State) (f : Tiu → Tiu) : (s.mapTiu f).rng = s.rng := rfl
@[simp] theorem mapTiu_cmp (s : State) (f : Tiu → Tiu) : (s.mapTiu f).cmp = s.cmp := rfl
@[simp] theorem mapTiu_cvu (s : State) (f : Tiu → Tiu) : (s.mapTiu f).cvu = s.cvu := rfl
@[simp] theorem mapTiu_dmc (s : State) (f : Tiu → Tiu) : (s.mapTiu f).dmc = s.dmc := rfl
@[simp] theorem mapTiu_ref (s : State) (f : Tiu → Tiu) : (s.mapTiu f).ref = s.ref := rfl
@[simp] theorem mapTiu_tiu (s : State) (f : Tiu → Tiu) : (s.mapTiu f).tiu = f s.tiu := rfl
@[simp] theorem mapTiu_lan (s : State) (f : Tiu → Tiu) : (s.mapTiu f).lan = s.lan := rfl
@[simp] theorem mapTiu_eth (s : State) (f : Tiu → Tiu) : (s.mapTiu f).eth = s.eth := rfl
@[simp] theorem mapTiu_kpe (s : State) (f : Tiu → Tiu) : (s.mapTiu f).kpe = s.kpe := rfl
@[simp] theorem mapTiu_mgc (s : State) (f : Tiu → Tiu) : (s.mapTiu f).mgc = s.mgc := rfl
@[simp] theorem mapTiu_sns (s : State) (f : Tiu → Tiu) : (s.mapTiu f).sns = s.sns := rfl
@[simp] theorem mapTiu_evr (s : State) (f : Tiu → Tiu) : (s.mapTiu f).evr = s.evr := rfl
@[simp] theorem mapTiu_tim (s : State) (f : Tiu → Tiu) : (s.mapTiu f).tim = s.tim := rfl
@[simp] theorem mapTiu_upd (s : State) (f : Tiu → Tiu) : (s.mapTiu f).upd = s.upd := rfl
@[simp] theorem mapTiu_pwr (s : State) (f : Tiu → Tiu) : (s.mapTiu f).pwr = s.pwr := rfl
@[simp] theorem mapTiu_fresh (s : State) (f : Tiu → Tiu) : (s.mapTiu f).fresh = s.fresh := rfl
@[simp] theorem mapTiu_pending (s : State) (f : Tiu → Tiu) : (s.mapTiu f).pending = s.pending := rfl

/-! ### mapLan -/
@[simp] theorem mapLan_now (s : State) (f : Lan → Lan) : (s.mapLan f).now = s.now := rfl
@[simp] theorem mapLan_regs (s : State) (f : Lan → Lan) : (s.mapLan f).regs = s.regs := rfl
@[simp] theorem mapLan_mems (s : State) (f : Lan → Lan) : (s.mapLan f).mems = s.mems := rfl
@[simp] theorem mapLan_bus (s : State) (f : Lan → Lan) : (s.mapLan f).bus = s.bus := rfl
@[simp] theorem mapLan_chp (s : State) (f : Lan → Lan) : (s.mapLan f).chp = s.chp := rfl
@[simp] theorem mapLan_psq (s : State) (f : Lan → Lan) : (s.mapLan f).psq = s.psq := rfl
@[simp] theorem mapLan_psy (s : State) (f : Lan → Lan) : (s.mapLan f).psy = s.psy := rfl
@[simp] theorem mapLan_src (s : State) (f : Lan → Lan) : (s.mapLan f).src = s.src := rfl
@[simp] theorem mapLan_occ (s : State) (f : Lan → Lan) : (s.mapLan f).occ = s.occ := rfl
@[simp] theorem mapLan_crx (s : State) (f : Lan → Lan) : (s.mapLan f).crx = s.crx := rfl
@[simp] theorem mapLan_cal (s : State) (f : Lan → Lan) : (s.mapLan f).cal = s.cal := rfl
@[simp] theorem mapLan_chn (s : State) (f : Lan → Lan) : (s.mapLan f).chn = s.chn := rfl
@[simp] theorem mapLan_pcm (s : State) (f : Lan → Lan) : (s.mapLan f).pcm = s.pcm := rfl
@[simp] theorem mapLan_phs (s : State) (f : Lan → Lan) : (s.mapLan f).phs = s.phs := rfl
@[simp] theorem mapLan_pfl (s : State) (f : Lan → Lan) : (s.mapLan f).pfl = s.pfl := rfl
@[simp] theorem mapLan_rmx (s : State) (f : Lan → Lan) : (s.mapLan f).rmx = s.rmx := rfl
@[simp] theorem mapLan_dts (s : State) (f : Lan → Lan) : (s.mapLan f).dts = s.dts := rfl
@[simp] theorem mapLan_aar (s : State) (f : Lan → Lan) : (s.mapLan f).aar = s.aar := rfl
@[simp] theorem mapLan_zon (s : State) (f : Lan → Lan) : (s.mapLan f).zon = s.zon := rfl
@[simp] theorem mapLan_gda (s : State) (f : Lan → Lan) : (s.mapLan f).gda = s.gda := rfl
@[simp] theorem mapLan_gdb (s : State) (f : Lan → Lan) : (s.mapLan f).gdb = s.gdb := rfl
@[simp] theorem mapLan_guards (s : State) (f : Lan → Lan) : (s.mapLan f).guards = s.guards := rfl
@[simp] theorem mapLan_rng (s : State) (f : Lan → Lan) : (s.mapLan f).rng = s.rng := rfl
@[simp] theorem mapLan_cmp (s : State) (f : Lan → Lan) : (s.mapLan f).cmp = s.cmp := rfl
@[simp] theorem mapLan_cvu (s : State) (f : Lan → Lan) : (s.mapLan f).cvu = s.cvu := rfl
@[simp] theorem mapLan_dmc (s : State) (f : Lan → Lan) : (s.mapLan f).dmc = s.dmc := rfl
@[simp] theorem mapLan_ref (s : State) (f : Lan → Lan) : (s.mapLan f).ref = s.ref := rfl
@[simp] theorem mapLan_tiu (s : State) (f : Lan → Lan) : (s.mapLan f).tiu = s.tiu := rfl
@[simp] theorem mapLan_lan (s : State) (f : Lan → Lan) : (s.mapLan f).lan = f s.lan := rfl
@[simp] theorem mapLan_eth (s : State) (f : Lan → Lan) : (s.mapLan f).eth = s.eth := rfl
@[simp] theorem mapLan_kpe (s : State) (f : Lan → Lan) : (s.mapLan f).kpe = s.kpe := rfl
@[simp] theorem mapLan_mgc (s : State) (f : Lan → Lan) : (s.mapLan f).mgc = s.mgc := rfl
@[simp] theorem mapLan_sns (s : State) (f : Lan → Lan) : (s.mapLan f).sns = s.sns := rfl
@[simp] theorem mapLan_evr (s : State) (f : Lan → Lan) : (s.mapLan f).evr = s.evr := rfl
@[simp] theorem mapLan_tim (s : State) (f : Lan → Lan) : (s.mapLan f).tim = s.tim := rfl
@[simp] theorem mapLan_upd (s : State) (f : Lan → Lan) : (s.mapLan f).upd = s.upd := rfl
@[simp] theorem mapLan_pwr (s : State) (f : Lan → Lan) : (s.mapLan f).pwr = s.pwr := rfl
@[simp] theorem mapLan_fresh (s : State) (f : Lan → Lan) : (s.mapLan f).fresh = s.fresh := rfl
@[simp] theorem mapLan_pending (s : State) (f : Lan → Lan) : (s.mapLan f).pending = s.pending := rfl

/-! ### mapEth -/
@[simp] theorem mapEth_now (s : State) (f : Eth → Eth) : (s.mapEth f).now = s.now := rfl
@[simp] theorem mapEth_regs (s : State) (f : Eth → Eth) : (s.mapEth f).regs = s.regs := rfl
@[simp] theorem mapEth_mems (s : State) (f : Eth → Eth) : (s.mapEth f).mems = s.mems := rfl
@[simp] theorem mapEth_bus (s : State) (f : Eth → Eth) : (s.mapEth f).bus = s.bus := rfl
@[simp] theorem mapEth_chp (s : State) (f : Eth → Eth) : (s.mapEth f).chp = s.chp := rfl
@[simp] theorem mapEth_psq (s : State) (f : Eth → Eth) : (s.mapEth f).psq = s.psq := rfl
@[simp] theorem mapEth_psy (s : State) (f : Eth → Eth) : (s.mapEth f).psy = s.psy := rfl
@[simp] theorem mapEth_src (s : State) (f : Eth → Eth) : (s.mapEth f).src = s.src := rfl
@[simp] theorem mapEth_occ (s : State) (f : Eth → Eth) : (s.mapEth f).occ = s.occ := rfl
@[simp] theorem mapEth_crx (s : State) (f : Eth → Eth) : (s.mapEth f).crx = s.crx := rfl
@[simp] theorem mapEth_cal (s : State) (f : Eth → Eth) : (s.mapEth f).cal = s.cal := rfl
@[simp] theorem mapEth_chn (s : State) (f : Eth → Eth) : (s.mapEth f).chn = s.chn := rfl
@[simp] theorem mapEth_pcm (s : State) (f : Eth → Eth) : (s.mapEth f).pcm = s.pcm := rfl
@[simp] theorem mapEth_phs (s : State) (f : Eth → Eth) : (s.mapEth f).phs = s.phs := rfl
@[simp] theorem mapEth_pfl (s : State) (f : Eth → Eth) : (s.mapEth f).pfl = s.pfl := rfl
@[simp] theorem mapEth_rmx (s : State) (f : Eth → Eth) : (s.mapEth f).rmx = s.rmx := rfl
@[simp] theorem mapEth_dts (s : State) (f : Eth → Eth) : (s.mapEth f).dts = s.dts := rfl
@[simp] theorem mapEth_aar (s : State) (f : Eth → Eth) : (s.mapEth f).aar = s.aar := rfl
@[simp] theorem mapEth_zon (s : State) (f : Eth → Eth) : (s.mapEth f).zon = s.zon := rfl
@[simp] theorem mapEth_gda (s : State) (f : Eth → Eth) : (s.mapEth f).gda = s.gda := rfl
@[simp] theorem mapEth_gdb (s : State) (f : Eth → Eth) : (s.mapEth f).gdb = s.gdb := rfl
@[simp] theorem mapEth_guards (s : State) (f : Eth → Eth) : (s.mapEth f).guards = s.guards := rfl
@[simp] theorem mapEth_rng (s : State) (f : Eth → Eth) : (s.mapEth f).rng = s.rng := rfl
@[simp] theorem mapEth_cmp (s : State) (f : Eth → Eth) : (s.mapEth f).cmp = s.cmp := rfl
@[simp] theorem mapEth_cvu (s : State) (f : Eth → Eth) : (s.mapEth f).cvu = s.cvu := rfl
@[simp] theorem mapEth_dmc (s : State) (f : Eth → Eth) : (s.mapEth f).dmc = s.dmc := rfl
@[simp] theorem mapEth_ref (s : State) (f : Eth → Eth) : (s.mapEth f).ref = s.ref := rfl
@[simp] theorem mapEth_tiu (s : State) (f : Eth → Eth) : (s.mapEth f).tiu = s.tiu := rfl
@[simp] theorem mapEth_lan (s : State) (f : Eth → Eth) : (s.mapEth f).lan = s.lan := rfl
@[simp] theorem mapEth_eth (s : State) (f : Eth → Eth) : (s.mapEth f).eth = f s.eth := rfl
@[simp] theorem mapEth_kpe (s : State) (f : Eth → Eth) : (s.mapEth f).kpe = s.kpe := rfl
@[simp] theorem mapEth_mgc (s : State) (f : Eth → Eth) : (s.mapEth f).mgc = s.mgc := rfl
@[simp] theorem mapEth_sns (s : State) (f : Eth → Eth) : (s.mapEth f).sns = s.sns := rfl
@[simp] theorem mapEth_evr (s : State) (f : Eth → Eth) : (s.mapEth f).evr = s.evr := rfl
@[simp] theorem mapEth_tim (s : State) (f : Eth → Eth) : (s.mapEth f).tim = s.tim := rfl
@[simp] theorem mapEth_upd (s : State) (f : Eth → Eth) : (s.mapEth f).upd = s.upd := rfl
@[simp] theorem mapEth_pwr (s : State) (f : Eth → Eth) : (s.mapEth f).pwr = s.pwr := rfl
@[simp] theorem mapEth_fresh (s : State) (f : Eth → Eth) : (s.mapEth f).fresh = s.fresh := rfl
@[simp] theorem mapEth_pending (s : State) (f : Eth → Eth) : (s.mapEth f).pending = s.pending := rfl

/-! ### mapKpe -/
@[simp] theorem mapKpe_now (s : State) (f : Kpe → Kpe) : (s.mapKpe f).now = s.now := rfl
@[simp] theorem mapKpe_regs (s : State) (f : Kpe → Kpe) : (s.mapKpe f).regs = s.regs := rfl
@[simp] theorem mapKpe_mems (s : State) (f : Kpe → Kpe) : (s.mapKpe f).mems = s.mems := rfl
@[simp] theorem mapKpe_bus (s : State) (f : Kpe → Kpe) : (s.mapKpe f).bus = s.bus := rfl
@[simp] theorem mapKpe_chp (s : State) (f : Kpe → Kpe) : (s.mapKpe f).chp = s.chp := rfl
@[simp] theorem mapKpe_psq (s : State) (f : Kpe → Kpe) : (s.mapKpe f).psq = s.psq := rfl
@[simp] theorem mapKpe_psy (s : State) (f : Kpe → Kpe) : (s.mapKpe f).psy = s.psy := rfl
@[simp] theorem mapKpe_src (s : State) (f : Kpe → Kpe) : (s.mapKpe f).src = s.src := rfl
@[simp] theorem mapKpe_occ (s : State) (f : Kpe → Kpe) : (s.mapKpe f).occ = s.occ := rfl
@[simp] theorem mapKpe_crx (s : State) (f : Kpe → Kpe) : (s.mapKpe f).crx = s.crx := rfl
@[simp] theorem mapKpe_cal (s : State) (f : Kpe → Kpe) : (s.mapKpe f).cal = s.cal := rfl
@[simp] theorem mapKpe_chn (s : State) (f : Kpe → Kpe) : (s.mapKpe f).chn = s.chn := rfl
@[simp] theorem mapKpe_pcm (s : State) (f : Kpe → Kpe) : (s.mapKpe f).pcm = s.pcm := rfl
@[simp] theorem mapKpe_phs (s : State) (f : Kpe → Kpe) : (s.mapKpe f).phs = s.phs := rfl
@[simp] theorem mapKpe_pfl (s : State) (f : Kpe → Kpe) : (s.mapKpe f).pfl = s.pfl := rfl
@[simp] theorem mapKpe_rmx (s : State) (f : Kpe → Kpe) : (s.mapKpe f).rmx = s.rmx := rfl
@[simp] theorem mapKpe_dts (s : State) (f : Kpe → Kpe) : (s.mapKpe f).dts = s.dts := rfl
@[simp] theorem mapKpe_aar (s : State) (f : Kpe → Kpe) : (s.mapKpe f).aar = s.aar := rfl
@[simp] theorem mapKpe_zon (s : State) (f : Kpe → Kpe) : (s.mapKpe f).zon = s.zon := rfl
@[simp] theorem mapKpe_gda (s : State) (f : Kpe → Kpe) : (s.mapKpe f).gda = s.gda := rfl
@[simp] theorem mapKpe_gdb (s : State) (f : Kpe → Kpe) : (s.mapKpe f).gdb = s.gdb := rfl
@[simp] theorem mapKpe_guards (s : State) (f : Kpe → Kpe) : (s.mapKpe f).guards = s.guards := rfl
@[simp] theorem mapKpe_rng (s : State) (f : Kpe → Kpe) : (s.mapKpe f).rng = s.rng := rfl
@[simp] theorem mapKpe_cmp (s : State) (f : Kpe → Kpe) : (s.mapKpe f).cmp = s.cmp := rfl
@[simp] theorem mapKpe_cvu (s : State) (f : Kpe → Kpe) : (s.mapKpe f).cvu = s.cvu := rfl
@[simp] theorem mapKpe_dmc (s : State) (f : Kpe → Kpe) : (s.mapKpe f).dmc = s.dmc := rfl
@[simp] theorem mapKpe_ref (s : State) (f : Kpe → Kpe) : (s.mapKpe f).ref = s.ref := rfl
@[simp] theorem mapKpe_tiu (s : State) (f : Kpe → Kpe) : (s.mapKpe f).tiu = s.tiu := rfl
@[simp] theorem mapKpe_lan (s : State) (f : Kpe → Kpe) : (s.mapKpe f).lan = s.lan := rfl
@[simp] theorem mapKpe_eth (s : State) (f : Kpe → Kpe) : (s.mapKpe f).eth = s.eth := rfl
@[simp] theorem mapKpe_kpe (s : State) (f : Kpe → Kpe) : (s.mapKpe f).kpe = f s.kpe := rfl
@[simp] theorem mapKpe_mgc (s : State) (f : Kpe → Kpe) : (s.mapKpe f).mgc = s.mgc := rfl
@[simp] theorem mapKpe_sns (s : State) (f : Kpe → Kpe) : (s.mapKpe f).sns = s.sns := rfl
@[simp] theorem mapKpe_evr (s : State) (f : Kpe → Kpe) : (s.mapKpe f).evr = s.evr := rfl
@[simp] theorem mapKpe_tim (s : State) (f : Kpe → Kpe) : (s.mapKpe f).tim = s.tim := rfl
@[simp] theorem mapKpe_upd (s : State) (f : Kpe → Kpe) : (s.mapKpe f).upd = s.upd := rfl
@[simp] theorem mapKpe_pwr (s : State) (f : Kpe → Kpe) : (s.mapKpe f).pwr = s.pwr := rfl
@[simp] theorem mapKpe_fresh (s : State) (f : Kpe → Kpe) : (s.mapKpe f).fresh = s.fresh := rfl
@[simp] theorem mapKpe_pending (s : State) (f : Kpe → Kpe) : (s.mapKpe f).pending = s.pending := rfl

/-! ### mapMgc -/
@[simp] theorem mapMgc_now (s : State) (f : Mgc → Mgc) : (s.mapMgc f).now = s.now := rfl
@[simp] theorem mapMgc_regs (s : State) (f : Mgc → Mgc) : (s.mapMgc f).regs = s.regs := rfl
@[simp] theorem mapMgc_mems (s : State) (f : Mgc → Mgc) : (s.mapMgc f).mems = s.mems := rfl
@[simp] theorem mapMgc_bus (s : State) (f : Mgc → Mgc) : (s.mapMgc f).bus = s.bus := rfl
@[simp] theorem mapMgc_chp (s : State) (f : Mgc → Mgc) : (s.mapMgc f).chp = s.chp := rfl
@[simp] theorem mapMgc_psq (s : State) (f : Mgc → Mgc) : (s.mapMgc f).psq = s.psq := rfl
@[simp] theorem mapMgc_psy (s : State) (f : Mgc → Mgc) : (s.mapMgc f).psy = s.psy := rfl
@[simp] theorem mapMgc_src (s : State) (f : Mgc → Mgc) : (s.mapMgc f).src = s.src := rfl
@[simp] theorem mapMgc_occ (s : State) (f : Mgc → Mgc) : (s.mapMgc f).occ = s.occ := rfl
@[simp] theorem mapMgc_crx (s : State) (f : Mgc → Mgc) : (s.mapMgc f).crx = s.crx := rfl
@[simp] theorem mapMgc_cal (s : State) (f : Mgc → Mgc) : (s.mapMgc f).cal = s.cal := rfl
@[simp] theorem mapMgc_chn (s : State) (f : Mgc → Mgc) : (s.mapMgc f).chn = s.chn := rfl
@[simp] theorem mapMgc_pcm (s : State) (f : Mgc → Mgc) : (s.mapMgc f).pcm = s.pcm := rfl
@[simp] theorem mapMgc_phs (s : State) (f : Mgc → Mgc) : (s.mapMgc f).phs = s.phs := rfl
@[simp] theorem mapMgc_pfl (s : State) (f : Mgc → Mgc) : (s.mapMgc f).pfl = s.pfl := rfl
@[simp] theorem mapMgc_rmx (s : State) (f : Mgc → Mgc) : (s.mapMgc f).rmx = s.rmx := rfl
@[simp] theorem mapMgc_dts (s : State) (f : Mgc → Mgc) : (s.mapMgc f).dts = s.dts := rfl
@[simp] theorem mapMgc_aar (s : State) (f : Mgc → Mgc) : (s.mapMgc f).aar = s.aar := rfl
@[simp] theorem mapMgc_zon (s : State) (f : Mgc → Mgc) : (s.mapMgc f).zon = s.zon := rfl
@[simp] theorem mapMgc_gda (s : State) (f : Mgc → Mgc) : (s.mapMgc f).gda = s.gda := rfl
@[simp] theorem mapMgc_gdb (s : State) (f : Mgc → Mgc) : (s.mapMgc f).gdb = s.gdb := rfl
@[simp] theorem mapMgc_guards (s : State) (f : Mgc → Mgc) : (s.mapMgc f).guards = s.guards := rfl
@[simp] theorem mapMgc_rng (s : State) (f : Mgc → Mgc) : (s.mapMgc f).rng = s.rng := rfl
@[simp] theorem mapMgc_cmp (s : State) (f : Mgc → Mgc) : (s.mapMgc f).cmp = s.cmp := rfl
@[simp] theorem mapMgc_cvu (s : State) (f : Mgc → Mgc) : (s.mapMgc f).cvu = s.cvu := rfl
@[simp] theorem mapMgc_dmc (s : State) (f : Mgc → Mgc) : (s.mapMgc f).dmc = s.dmc := rfl
@[simp] theorem mapMgc_ref (s : State) (f : Mgc → Mgc) : (s.mapMgc f).ref = s.ref := rfl
@[simp] theorem mapMgc_tiu (s : State) (f : Mgc → Mgc) : (s.mapMgc f).tiu = s.tiu := rfl
@[simp] theorem mapMgc_lan (s : State) (f : Mgc → Mgc) : (s.mapMgc f).lan = s.lan := rfl
@[simp] theorem mapMgc_eth (s : State) (f : Mgc → Mgc) : (s.mapMgc f).eth = s.eth := rfl
@[simp] theorem mapMgc_kpe (s : State) (f : Mgc → Mgc) : (s.mapMgc f).kpe = s.kpe := rfl
@[simp] theorem mapMgc_mgc (s : State) (f : Mgc → Mgc) : (s.mapMgc f).mgc = f s.mgc := rfl
@[simp] theorem mapMgc_sns (s : State) (f : Mgc → Mgc) : (s.mapMgc f).sns = s.sns := rfl
@[simp] theorem mapMgc_evr (s : State) (f : Mgc → Mgc) : (s.mapMgc f).evr = s.evr := rfl
@[simp] theorem mapMgc_tim (s : State) (f : Mgc → Mgc) : (s.mapMgc f).tim = s.tim := rfl
@[simp] theorem mapMgc_upd (s : State) (f : Mgc → Mgc) : (s.mapMgc f).upd = s.upd := rfl
@[simp] theorem mapMgc_pwr (s : State) (f : Mgc → Mgc) : (s.mapMgc f).pwr = s.pwr := rfl
@[simp] theorem mapMgc_fresh (s : State) (f : Mgc → Mgc) : (s.mapMgc f).fresh = s.fresh := rfl
@[simp] theorem mapMgc_pending (s : State) (f : Mgc → Mgc) : (s.mapMgc f).pending = s.pending := rfl

/-! ### mapSns -/
@[simp] theorem mapSns_now (s : State) (f : Sns → Sns) : (s.mapSns f).now = s.now := rfl
@[simp] theorem mapSns_regs (s : State) (f : Sns → Sns) : (s.mapSns f).regs = s.regs := rfl
@[simp] theorem mapSns_mems (s : State) (f : Sns → Sns) : (s.mapSns f).mems = s.mems := rfl
@[simp] theorem mapSns_bus (s : State) (f : Sns → Sns) : (s.mapSns f).bus = s.bus := rfl
@[simp] theorem mapSns_chp (s : State) (f : Sns → Sns) : (s.mapSns f).chp = s.chp := rfl
@[simp] theorem mapSns_psq (s : State) (f : Sns → Sns) : (s.mapSns f).psq = s.psq := rfl
@[simp] theorem mapSns_psy (s : State) (f : Sns → Sns) : (s.mapSns f).psy = s.psy := rfl
@[simp] theorem mapSns_src (s : State) (f : Sns → Sns) : (s.mapSns f).src = s.src := rfl
@[simp] theorem mapSns_occ (s : State) (f : Sns → Sns) : (s.mapSns f).occ = s.occ := rfl
@[simp] theorem mapSns_crx (s : State) (f : Sns → Sns) : (s.mapSns f).crx = s.crx := rfl
@[simp] theorem mapSns_cal (s : State) (f : Sns → Sns) : (s.mapSns f).cal = s.cal := rfl
@[simp] theorem mapSns_chn (s : State) (f : Sns → Sns) : (s.mapSns f).chn = s.chn := rfl
@[simp] theorem mapSns_pcm (s : State) (f : Sns → Sns) : (s.mapSns f).pcm = s.pcm := rfl
@[simp] theorem mapSns_phs (s : State) (f : Sns → Sns) : (s.mapSns f).phs = s.phs := rfl
@[simp] theorem mapSns_pfl (s : State) (f : Sns → Sns) : (s.mapSns f).pfl = s.pfl := rfl
@[simp] theorem mapSns_rmx (s : State) (f : Sns → Sns) : (s.mapSns f).rmx = s.rmx := rfl
@[simp] theorem mapSns_dts (s : State) (f : Sns → Sns) : (s.mapSns f).dts = s.dts := rfl
@[simp] theorem mapSns_aar (s : State) (f : Sns → Sns) : (s.mapSns f).aar = s.aar := rfl
@[simp] theorem mapSns_zon (s : State) (f : Sns → Sns) : (s.mapSns f).zon = s.zon := rfl
@[simp] theorem mapSns_gda (s : State) (f : Sns → Sns) : (s.mapSns f).gda = s.gda := rfl
@[simp] theorem mapSns_gdb (s : State) (f : Sns → Sns) : (s.mapSns f).gdb = s.gdb := rfl
@[simp] theorem mapSns_guards (s : State) (f : Sns → Sns) : (s.mapSns f).guards = s.guards := rfl
@[simp] theorem mapSns_rng (s : State) (f : Sns → Sns) : (s.mapSns f).rng = s.rng := rfl
@[simp] theorem mapSns_cmp (s : State) (f : Sns → Sns) : (s.mapSns f).cmp = s.cmp := rfl
@[simp] theorem mapSns_cvu (s : State) (f : Sns → Sns) : (s.mapSns f).cvu = s.cvu := rfl
@[simp] theorem mapSns_dmc (s : State) (f : Sns → Sns) : (s.mapSns f).dmc = s.dmc := rfl
@[simp] theorem mapSns_ref (s : State) (f : Sns → Sns) : (s.mapSns f).ref = s.ref := rfl
@[simp] theorem mapSns_tiu (s : State) (f : Sns → Sns) : (s.mapSns f).tiu = s.tiu := rfl
@[simp] theorem mapSns_lan (s : State) (f : Sns → Sns) : (s.mapSns f).lan = s.lan := rfl
@[simp] theorem mapSns_eth (s : State) (f : Sns → Sns) : (s.mapSns f).eth = s.eth := rfl
@[simp] theorem mapSns_kpe (s : State) (f : Sns → Sns) : (s.mapSns f).kpe = s.kpe := rfl
@[simp] theorem mapSns_mgc (s : State) (f : Sns → Sns) : (s.mapSns f).mgc = s.mgc := rfl
@[simp] theorem mapSns_sns (s : State) (f : Sns → Sns) : (s.mapSns f).sns = f s.sns := rfl
@[simp] theorem mapSns_evr (s : State) (f : Sns → Sns) : (s.mapSns f).evr = s.evr := rfl
@[simp] theorem mapSns_tim (s : State) (f : Sns → Sns) : (s.mapSns f).tim = s.tim := rfl
@[simp] theorem mapSns_upd (s : State) (f : Sns → Sns) : (s.mapSns f).upd = s.upd := rfl
@[simp] theorem mapSns_pwr (s : State) (f : Sns → Sns) : (s.mapSns f).pwr = s.pwr := rfl
@[simp] theorem mapSns_fresh (s : State) (f : Sns → Sns) : (s.mapSns f).fresh = s.fresh := rfl
@[simp] theorem mapSns_pending (s : State) (f : Sns → Sns) : (s.mapSns f).pending = s.pending := rfl

/-! ### mapEvr -/
@[simp] theorem mapEvr_now (s : State) (f : Evr → Evr) : (s.mapEvr f).now = s.now := rfl
@[simp] theorem mapEvr_regs (s : State) (f : Evr → Evr) : (s.mapEvr f).regs = s.regs := rfl
@[simp] theorem mapEvr_mems (s : State) (f : Evr → Evr) : (s.mapEvr f).mems = s.mems := rfl
@[simp] theorem mapEvr_bus (s : State) (f : Evr → Evr) : (s.mapEvr f).bus = s.bus := rfl
@[simp] theorem mapEvr_chp (s : State) (f : Evr → Evr) : (s.mapEvr f).chp = s.chp := rfl
@[simp] theorem mapEvr_psq (s : State) (f : Evr → Evr) : (s.mapEvr f).psq = s.psq := rfl
@[simp] theorem mapEvr_psy (s : State) (f : Evr → Evr) : (s.mapEvr f).psy = s.psy := rfl
@[simp] theorem mapEvr_src (s : State) (f : Evr → Evr) : (s.mapEvr f).src = s.src := rfl
@[simp] theorem mapEvr_occ (s : State) (f : Evr → Evr) : (s.mapEvr f).occ = s.occ := rfl
@[simp] theorem mapEvr_crx (s : State) (f : Evr → Evr) : (s.mapEvr f).crx = s.crx := rfl
@[simp] theorem mapEvr_cal (s : State) (f : Evr → Evr) : (s.mapEvr f).cal = s.cal := rfl
@[simp] theorem mapEvr_chn (s : State) (f : Evr → Evr) : (s.mapEvr f).chn = s.chn := rfl
@[simp] theorem mapEvr_pcm (s : State) (f : Evr → Evr) : (s.mapEvr f).pcm = s.pcm := rfl
@[simp] theorem mapEvr_phs (s : State) (f : Evr → Evr) : (s.mapEvr f).phs = s.phs := rfl
@[simp] theorem mapEvr_pfl (s : State) (f : Evr → Evr) : (s.mapEvr f).pfl = s.pfl := rfl
@[simp] theorem mapEvr_rmx (s : State) (f : Evr → Evr) : (s.mapEvr f).rmx = s.rmx := rfl
@[simp] theorem mapEvr_dts (s : State) (f : Evr → Evr) : (s.mapEvr f).dts = s.dts := rfl
@[simp] theorem mapEvr_aar (s : State) (f : Evr → Evr) : (s.mapEvr f).aar = s.aar := rfl
@[simp] theorem mapEvr_zon (s : State) (f : Evr → Evr) : (s.mapEvr f).zon = s.zon := rfl
@[simp] theorem mapEvr_gda (s : State) (f : Evr → Evr) : (s.mapEvr f).gda = s.gda := rfl
@[simp] theorem mapEvr_gdb (s : State) (f : Evr → Evr) : (s.mapEvr f).gdb = s.gdb := rfl
@[simp] theorem mapEvr_guards (s : State) (f : Evr → Evr) : (s.mapEvr f).guards = s.guards := rfl
@[simp] theorem mapEvr_rng (s : State) (f : Evr → Evr) : (s.mapEvr f).rng = s.rng := rfl
@[simp] theorem mapEvr_cmp (s : State) (f : Evr → Evr) : (s.mapEvr f).cmp = s.cmp := rfl
@[simp] theorem mapEvr_cvu (s : State) (f : Evr → Evr) : (s.mapEvr f).cvu = s.cvu := rfl
@[simp] theorem mapEvr_dmc (s : State) (f : Evr → Evr) : (s.mapEvr f).dmc = s.dmc := rfl
@[simp] theorem mapEvr_ref (s : State) (f : Evr → Evr) : (s.mapEvr f).ref = s.ref := rfl
@[simp] theorem mapEvr_tiu (s : State) (f : Evr → Evr) : (s.mapEvr f).tiu = s.tiu := rfl
@[simp] theorem mapEvr_lan (s : State) (f : Evr → Evr) : (s.mapEvr f).lan = s.lan := rfl
@[simp] theorem mapEvr_eth (s : State) (f : Evr → Evr) : (s.mapEvr f).eth = s.eth := rfl
@[simp] theorem mapEvr_kpe (s : State) (f : Evr → Evr) : (s.mapEvr f).kpe = s.kpe := rfl
@[simp] theorem mapEvr_mgc (s : State) (f : Evr → Evr) : (s.mapEvr f).mgc = s.mgc := rfl
@[simp] theorem mapEvr_sns (s : State) (f : Evr → Evr) : (s.mapEvr f).sns = s.sns := rfl
@[simp] theorem mapEvr_evr (s : State) (f : Evr → Evr) : (s.mapEvr f).evr = f s.evr := rfl
@[simp] theorem mapEvr_tim (s : State) (f : Evr → Evr) : (s.mapEvr f).tim = s.tim := rfl
@[simp] theorem mapEvr_upd (s : State) (f : Evr → Evr) : (s.mapEvr f).upd = s.upd := rfl
@[simp] theorem mapEvr_pwr (s : State) (f : Evr → Evr) : (s.mapEvr f).pwr = s.pwr := rfl
@[simp] theorem mapEvr_fresh (s : State) (f : Evr → Evr) : (s.mapEvr f).fresh = s.fresh := rfl
@[simp] theorem mapEvr_pending (s : State) (f : Evr → Evr) : (s.mapEvr f).pending = s.pending := rfl

/-! ### mapTim -/
@[simp] theorem mapTim_now (s : State) (f : Tim → Tim) : (s.mapTim f).now = s.now := rfl
@[simp] theorem mapTim_regs (s : State) (f : Tim → Tim) : (s.mapTim f).regs = s.regs := rfl
@[simp] theorem mapTim_mems (s : State) (f : Tim → Tim) : (s.mapTim f).mems = s.mems := rfl
@[simp] theorem mapTim_bus (s : State) (f : Tim → Tim) : (s.mapTim f).bus = s.bus := rfl
@[simp] theorem mapTim_chp (s : State) (f : Tim → Tim) : (s.mapTim f).chp = s.chp := rfl
@[simp] theorem mapTim_psq (s : State) (f : Tim → Tim) : (s.mapTim f).psq = s.psq := rfl
@[simp] theorem mapTim_psy (s : State) (f : Tim → Tim) : (s.mapTim f).psy = s.psy := rfl
@[simp] theorem mapTim_src (s : State) (f : Tim → Tim) : (s.mapTim f).src = s.src := rfl
@[simp] theorem mapTim_occ (s : State) (f : Tim → Tim) : (s.mapTim f).occ = s.occ := rfl
@[simp] theorem mapTim_crx (s : State) (f : Tim → Tim) : (s.mapTim f).crx = s.crx := rfl
@[simp] theorem mapTim_cal (s : State) (f : Tim → Tim) : (s.mapTim f).cal = s.cal := rfl
@[simp] theorem mapTim_chn (s : State) (f : Tim → Tim) : (s.mapTim f).chn = s.chn := rfl
@[simp] theorem mapTim_pcm (s : State) (f : Tim → Tim) : (s.mapTim f).pcm = s.pcm := rfl
@[simp] theorem mapTim_phs (s : State) (f : Tim → Tim) : (s.mapTim f).phs = s.phs := rfl
@[simp] theorem mapTim_pfl (s : State) (f : Tim → Tim) : (s.mapTim f).pfl = s.pfl := rfl
@[simp] theorem mapTim_rmx (s : State) (f : Tim → Tim) : (s.mapTim f).rmx = s.rmx := rfl
@[simp] theorem mapTim_dts (s : State) (f : Tim → Tim) : (s.mapTim f).dts = s.dts := rfl
@[simp] theorem mapTim_aar (s : State) (f : Tim → Tim) : (s.mapTim f).aar = s.aar := rfl
@[simp] theorem mapTim_zon (s : State) (f : Tim → Tim) : (s.mapTim f).zon = s.zon := rfl
@[simp] theorem mapTim_gda (s : State) (f : Tim → Tim) : (s.mapTim f).gda = s.gda := rfl
@[simp] theorem mapTim_gdb (s : State) (f : Tim → Tim) : (s.mapTim f).gdb = s.gdb := rfl
@[simp] theorem mapTim_guards (s : State) (f : Tim → Tim) : (s.mapTim f).guards = s.guards := rfl
@[simp] theorem mapTim_rng (s : State) (f : Tim → Tim) : (s.mapTim f).rng = s.rng := rfl
@[simp] theorem mapTim_cmp (s : State) (f : Tim → Tim) : (s.mapTim f).cmp = s.cmp := rfl
@[simp] theorem mapTim_cvu (s : State) (f : Tim → Tim) : (s.mapTim f).cvu = s.cvu := rfl
@[simp] theorem mapTim_dmc (s : State) (f : Tim → Tim) : (s.mapTim f).dmc = s.dmc := rfl
@[simp] theorem mapTim_ref (s : State) (f : Tim → Tim) : (s.mapTim f).ref = s.ref := rfl
@[simp] theorem mapTim_tiu (s : State) (f : Tim → Tim) : (s.mapTim f).tiu = s.tiu := rfl
@[simp] theorem mapTim_lan (s : State) (f : Tim → Tim) : (s.mapTim f).lan = s.lan := rfl
@[simp] theorem mapTim_eth (s : State) (f : Tim → Tim) : (s.mapTim f).eth = s.eth := rfl
@[simp] theorem mapTim_kpe (s : State) (f : Tim → Tim) : (s.mapTim f).kpe = s.kpe := rfl
@[simp] theorem mapTim_mgc (s : State) (f : Tim → Tim) : (s.mapTim f).mgc = s.mgc := rfl
@[simp] theorem mapTim_sns (s : State) (f : Tim → Tim) : (s.mapTim f).sns = s.sns := rfl
@[simp] theorem mapTim_evr (s : State) (f : Tim → Tim) : (s.mapTim f).evr = s.evr := rfl
@[simp] theorem mapTim_tim (s : State) (f : Tim → Tim) : (s.mapTim f).tim = f s.tim := rfl
@[simp] theorem mapTim_upd (s : State) (f : Tim → Tim) : (s.mapTim f).upd = s.upd := rfl
@[simp] theorem mapTim_pwr (s : State) (f : Tim → Tim) : (s.mapTim f).pwr = s.pwr := rfl
@[simp] theorem mapTim_fresh (s : State) (f : Tim → Tim) : (s.mapTim f).fresh = s.fresh := rfl
@[simp] theorem mapTim_pending (s : State) (f : Tim → Tim) : (s.mapTim f).pending = s.pending := rfl

/-! ### mapUpd -/
@[simp] theorem mapUpd_now (s : State) (f : Upd → Upd) : (s.mapUpd f).now = s.now := rfl
@[simp] theorem mapUpd_regs (s : State) (f : Upd → Upd) : (s.mapUpd f).regs = s.regs := rfl
@[simp] theorem mapUpd_mems (s : State) (f : Upd → Upd) : (s.mapUpd f).mems = s.mems := rfl
@[simp] theorem mapUpd_bus (s : State) (f : Upd → Upd) : (s.mapUpd f).bus = s.bus := rfl
@[simp] theorem mapUpd_chp (s : State) (f : Upd → Upd) : (s.mapUpd f).chp = s.chp := rfl
@[simp] theorem mapUpd_psq (s : State) (f : Upd → Upd) : (s.mapUpd f).psq = s.psq := rfl
@[simp] theorem mapUpd_psy (s : State) (f : Upd → Upd) : (s.mapUpd f).psy = s.psy := rfl
@[simp] theorem mapUpd_src (s : State) (f : Upd → Upd) : (s.mapUpd f).src = s.src := rfl
@[simp] theorem mapUpd_occ (s : State) (f : Upd → Upd) : (s.mapUpd f).occ = s.occ := rfl
@[simp] theorem mapUpd_crx (s : State) (f : Upd → Upd) : (s.mapUpd f).crx = s.crx := rfl
@[simp] theorem mapUpd_cal (s : State) (f : Upd → Upd) : (s.mapUpd f).cal = s.cal := rfl
@[simp] theorem mapUpd_chn (s : State) (f : Upd → Upd) : (s.mapUpd f).chn = s.chn := rfl
@[simp] theorem mapUpd_pcm (s : State) (f : Upd → Upd) : (s.mapUpd f).pcm = s.pcm := rfl
@[simp] theorem mapUpd_phs (s : State) (f : Upd → Upd) : (s.mapUpd f).phs = s.phs := rfl
@[simp] theorem mapUpd_pfl (s : State) (f : Upd → Upd) : (s.mapUpd f).pfl = s.pfl := rfl
@[simp] theorem mapUpd_rmx (s : State) (f : Upd → Upd) : (s.mapUpd f).rmx = s.rmx := rfl
@[simp] theorem mapUpd_dts (s : State) (f : Upd → Upd) : (s.mapUpd f).dts = s.dts := rfl
@[simp] theorem mapUpd_aar (s : State) (f : Upd → Upd) : (s.mapUpd f).aar = s.aar := rfl
@[simp] theorem mapUpd_zon (s : State) (f : Upd → Upd) : (s.mapUpd f).zon = s.zon := rfl
@[simp] theorem mapUpd_gda (s : State) (f : Upd → Upd) : (s.mapUpd f).gda = s.gda := rfl
@[simp] theorem mapUpd_gdb (s : State) (f : Upd → Upd) : (s.mapUpd f).gdb = s.gdb := rfl
@[simp] theorem mapUpd_guards (s : State) (f : Upd → Upd) : (s.mapUpd f).guards = s.guards := rfl
@[simp] theorem mapUpd_rng (s : State) (f : Upd → Upd) : (s.mapUpd f).rng = s.rng := rfl
@[simp] theorem mapUpd_cmp (s : State) (f : Upd → Upd) : (s.mapUpd f).cmp = s.cmp := rfl
@[simp] theorem mapUpd_cvu (s : State) (f : Upd → Upd) : (s.mapUpd f).cvu = s.cvu := rfl
@[simp] theorem mapUpd_dmc (s : State) (f : Upd → Upd) : (s.mapUpd f).dmc = s.dmc := rfl
@[simp] theorem mapUpd_ref (s : State) (f : Upd → Upd) : (s.mapUpd f).ref = s.ref := rfl
@[simp] theorem mapUpd_tiu (s : State) (f : Upd → Upd) : (s.mapUpd f).tiu = s.tiu := rfl
@[simp] theorem mapUpd_lan (s : State) (f : Upd → Upd) : (s.mapUpd f).lan = s.lan := rfl
@[simp] theorem mapUpd_eth (s : State) (f : Upd → Upd) : (s.mapUpd f).eth = s.eth := rfl
@[simp] theorem mapUpd_kpe (s : State) (f : Upd → Upd) : (s.mapUpd f).kpe = s.kpe := rfl
@[simp] theorem mapUpd_mgc (s : State) (f : Upd → Upd) : (s.mapUpd f).mgc = s.mgc := rfl
@[simp] theorem mapUpd_sns (s : State) (f : Upd → Upd) : (s.mapUpd f).sns = s.sns := rfl
@[simp] theorem mapUpd_evr (s : State) (f : Upd → Upd) : (s.mapUpd f).evr = s.evr := rfl
@[simp] theorem mapUpd_tim (s : State) (f : Upd → Upd) : (s.mapUpd f).tim = s.tim := rfl
@[simp] theorem mapUpd_upd (s : State) (f : Upd → Upd) : (s.mapUpd f).upd = f s.upd := rfl
@[simp] theorem mapUpd_pwr (s : State) (f : Upd → Upd) : (s.mapUpd f).pwr = s.pwr := rfl
@[simp] theorem mapUpd_fresh (s : State) (f : Upd → Upd) : (s.mapUpd f).fresh = s.fresh := rfl
@[simp] theorem mapUpd_pending (s : State) (f : Upd → Upd) : (s.mapUpd f).pending = s.pending := rfl

/-! ### mapPwr -/
@[simp] theorem mapPwr_now (s : State) (f : Pwr → Pwr) : (s.mapPwr f).now = s.now := rfl
@[simp] theorem mapPwr_regs (s : State) (f : Pwr → Pwr) : (s.mapPwr f).regs = s.regs := rfl
@[simp] theorem mapPwr_mems (s : State) (f : Pwr → Pwr) : (s.mapPwr f).mems = s.mems := rfl
@[simp] theorem mapPwr_bus (s : State) (f : Pwr → Pwr) : (s.mapPwr f).bus = s.bus := rfl
@[simp] theorem mapPwr_chp (s : State) (f : Pwr → Pwr) : (s.mapPwr f).chp = s.chp := rfl
@[simp] theorem mapPwr_psq (s : State) (f : Pwr → Pwr) : (s.mapPwr f).psq = s.psq := rfl
@[simp] theorem mapPwr_psy (s : State) (f : Pwr → Pwr) : (s.mapPwr f).psy = s.psy := rfl
@[simp] theorem mapPwr_src (s : State) (f : Pwr → Pwr) : (s.mapPwr f).src = s.src := rfl
@[simp] theorem mapPwr_occ (s : State) (f : Pwr → Pwr) : (s.mapPwr f).occ = s.occ := rfl
@[simp] theorem mapPwr_crx (s : State) (f : Pwr → Pwr) : (s.mapPwr f).crx = s.crx := rfl
@[simp] theorem mapPwr_cal (s : State) (f : Pwr → Pwr) : (s.mapPwr f).cal = s.cal := rfl
@[simp] theorem mapPwr_chn (s : State) (f : Pwr → Pwr) : (s.mapPwr f).chn = s.chn := rfl
@[simp] theorem mapPwr_pcm (s : State) (f : Pwr → Pwr) : (s.mapPwr f).pcm = s.pcm := rfl
@[simp] theorem mapPwr_phs (s : State) (f : Pwr → Pwr) : (s.mapPwr f).phs = s.phs := rfl
@[simp] theorem mapPwr_pfl (s : State) (f : Pwr → Pwr) : (s.mapPwr f).pfl = s.pfl := rfl
@[simp] theorem mapPwr_rmx (s : State) (f : Pwr → Pwr) : (s.mapPwr f).rmx = s.rmx := rfl
@[simp] theorem mapPwr_dts (s : State) (f : Pwr → Pwr) : (s.mapPwr f).dts = s.dts := rfl
@[simp] theorem mapPwr_aar (s : State) (f : Pwr → Pwr) : (s.mapPwr f).aar = s.aar := rfl
@[simp] theorem mapPwr_zon (s : State) (f : Pwr → Pwr) : (s.mapPwr f).zon = s.zon := rfl
@[simp] theorem mapPwr_gda (s : State) (f : Pwr → Pwr) : (s.mapPwr f).gda = s.gda := rfl
@[simp] theorem mapPwr_gdb (s : State) (f : Pwr → Pwr) : (s.mapPwr f).gdb = s.gdb := rfl
@[simp] theorem mapPwr_guards (s : State) (f : Pwr → Pwr) : (s.mapPwr f).guards = s.guards := rfl
@[simp] theorem mapPwr_rng (s : State) (f : Pwr → Pwr) : (s.mapPwr f).rng = s.rng := rfl
@[simp] theorem mapPwr_cmp (s : State) (f : Pwr → Pwr) : (s.mapPwr f).cmp = s.cmp := rfl
@[simp] theorem mapPwr_cvu (s : State) (f : Pwr → Pwr) : (s.mapPwr f).cvu = s.cvu := rfl
@[simp] theorem mapPwr_dmc (s : State) (f : Pwr → Pwr) : (s.mapPwr f).dmc = s.dmc := rfl
@[simp] theorem mapPwr_ref (s : State) (f : Pwr → Pwr) : (s.mapPwr f).ref = s.ref := rfl
@[simp] theorem mapPwr_tiu (s : State) (f : Pwr → Pwr) : (s.mapPwr f).tiu = s.tiu := rfl
@[simp] theorem mapPwr_lan (s : State) (f : Pwr → Pwr) : (s.mapPwr f).lan = s.lan := rfl
@[simp] theorem mapPwr_eth (s : State) (f : Pwr → Pwr) : (s.mapPwr f).eth = s.eth := rfl
@[simp] theorem mapPwr_kpe (s : State) (f : Pwr → Pwr) : (s.mapPwr f).kpe = s.kpe := rfl
@[simp] theorem mapPwr_mgc (s : State) (f : Pwr → Pwr) : (s.mapPwr f).mgc = s.mgc := rfl
@[simp] theorem mapPwr_sns (s : State) (f : Pwr → Pwr) : (s.mapPwr f).sns = s.sns := rfl
@[simp] theorem mapPwr_evr (s : State) (f : Pwr → Pwr) : (s.mapPwr f).evr = s.evr := rfl
@[simp] theorem mapPwr_tim (s : State) (f : Pwr → Pwr) : (s.mapPwr f).tim = s.tim := rfl
@[simp] theorem mapPwr_upd (s : State) (f : Pwr → Pwr) : (s.mapPwr f).upd = s.upd := rfl
@[simp] theorem mapPwr_pwr (s : State) (f : Pwr → Pwr) : (s.mapPwr f).pwr = f s.pwr := rfl
@[simp] theorem mapPwr_fresh (s : State) (f : Pwr → Pwr) : (s.mapPwr f).fresh = s.fresh := rfl
@[simp] theorem mapPwr_pending (s : State) (f : Pwr → Pwr) : (s.mapPwr f).pending = s.pending := rfl

/-! ### mapRegs -/
@[simp] theorem mapRegs_now (s : State) (f : Regs → Regs) : (s.mapRegs f).now = s.now := rfl
@[simp] theorem mapRegs_regs (s : State) (f : Regs → Regs) : (s.mapRegs f).regs = f s.regs := rfl
@[simp] theorem mapRegs_mems (s : State) (f : Regs → Regs) : (s.mapRegs f).mems = s.mems := rfl
@[simp] theorem mapRegs_bus (s : State) (f : Regs → Regs) : (s.mapRegs f).bus = s.bus := rfl
@[simp] theorem mapRegs_chp (s : State) (f : Regs → Regs) : (s.mapRegs f).chp = s.chp := rfl
@[simp] theorem mapRegs_psq (s : State) (f : Regs → Regs) : (s.mapRegs f).psq = s.psq := rfl
@[simp] theorem mapRegs_psy (s : State) (f : Regs → Regs) : (s.mapRegs f).psy = s.psy := rfl
@[simp] theorem mapRegs_src (s : State) (f : Regs → Regs) : (s.mapRegs f).src = s.src := rfl
@[simp] theorem mapRegs_occ (s : State) (f : Regs → Regs) : (s.mapRegs f).occ = s.occ := rfl
@[simp] theorem mapRegs_crx (s : State) (f : Regs → Regs) : (s.mapRegs f).crx = s.crx := rfl
@[simp] theorem mapRegs_cal (s : State) (f : Regs → Regs) : (s.mapRegs f).cal = s.cal := rfl
@[simp] theorem mapRegs_chn (s : State) (f : Regs → Regs) : (s.mapRegs f).chn = s.chn := rfl
@[simp] theorem mapRegs_pcm (s : State) (f : Regs → Regs) : (s.mapRegs f).pcm = s.pcm := rfl
@[simp] theorem mapRegs_phs (s : State) (f : Regs → Regs) : (s.mapRegs f).phs = s.phs := rfl
@[simp] theorem mapRegs_pfl (s : State) (f : Regs → Regs) : (s.mapRegs f).pfl = s.pfl := rfl
@[simp] theorem mapRegs_rmx (s : State) (f : Regs → Regs) : (s.mapRegs f).rmx = s.rmx := rfl
@[simp] theorem mapRegs_dts (s : State) (f : Regs → Regs) : (s.mapRegs f).dts = s.dts := rfl
@[simp] theorem mapRegs_aar (s : State) (f : Regs → Regs) : (s.mapRegs f).aar = s.aar := rfl
@[simp] theorem mapRegs_zon (s : State) (f : Regs → Regs) : (s.mapRegs f).zon = s.zon := rfl
@[simp] theorem mapRegs_gda (s : State) (f : Regs → Regs) : (s.mapRegs f).gda = s.gda := rfl
@[simp] theorem mapRegs_gdb (s : State) (f : Regs → Regs) : (s.mapRegs f).gdb = s.gdb := rfl
@[simp] theorem mapRegs_guards (s : State) (f : Regs → Regs) : (s.mapRegs f).guards = s.guards := rfl
@[simp] theorem mapRegs_rng (s : State) (f : Regs → Regs) : (s.mapRegs f).rng = s.rng := rfl
@[simp] theorem mapRegs_cmp (s : State) (f : Regs → Regs) : (s.mapRegs f).cmp = s.cmp := rfl
@[simp] theorem mapRegs_cvu (s : State) (f : Regs → Regs) : (s.mapRegs f).cvu = s.cvu := rfl
@[simp] theorem mapRegs_dmc (s : State) (f : Regs → Regs) : (s.mapRegs f).dmc = s.dmc := rfl
@[simp] theorem mapRegs_ref (s : State) (f : Regs → Regs) : (s.mapRegs f).ref = s.ref := rfl
@[simp] theorem mapRegs_tiu (s : State) (f : Regs → Regs) : (s.mapRegs f).tiu = s.tiu := rfl
@[simp] theorem mapRegs_lan (s : State) (f : Regs → Regs) : (s.mapRegs f).lan = s.lan := rfl
@[simp] theorem mapRegs_eth (s : State) (f : Regs → Regs) : (s.mapRegs f).eth = s.eth := rfl
@[simp] theorem mapRegs_kpe (s : State) (f : Regs → Regs) : (s.mapRegs f).kpe = s.kpe := rfl
@[simp] theorem mapRegs_mgc (s : State) (f : Regs → Regs) : (s.mapRegs f).mgc = s.mgc := rfl
@[simp] theorem mapRegs_sns (s : State) (f : Regs → Regs) : (s.mapRegs f).sns = s.sns := rfl
@[simp] theorem mapRegs_evr (s : State) (f : Regs → Regs) : (s.mapRegs f).evr = s.evr := rfl
@[simp] theorem mapRegs_tim (s : State) (f : Regs → Regs) : (s.mapRegs f).tim = s.tim := rfl
@[simp] theorem mapRegs_upd (s : State) (f : Regs → Regs) : (s.mapRegs f).upd = s.upd := rfl
@[simp] theorem mapRegs_pwr (s : State) (f : Regs → Regs) : (s.mapRegs f).pwr = s.pwr := rfl
@[simp] theorem mapRegs_fresh (s : State) (f : Regs → Regs) : (s.mapRegs f).fresh = s.fresh := rfl
@[simp] theorem mapRegs_pending (s : State) (f : Regs → Regs) : (s.mapRegs f).pending = s.pending := rfl

/-! ### mapMems -/
@[simp] theorem mapMems_now (s : State) (f : Mems → Mems) : (s.mapMems f).now = s.now := rfl
@[simp] theorem mapMems_regs (s : State) (f : Mems → Mems) : (s.mapMems f).regs = s.regs := rfl
@[simp] theorem mapMems_mems (s : State) (f : Mems → Mems) : (s.mapMems f).mems = f s.mems := rfl
@[simp] theorem mapMems_bus (s : State) (f : Mems → Mems) : (s.mapMems f).bus = s.bus := rfl
@[simp] theorem mapMems_chp (s : State) (f : Mems → Mems) : (s.mapMems f).chp = s.chp := rfl
@[simp] theorem mapMems_psq (s : State) (f : Mems → Mems) : (s.mapMems f).psq = s.psq := rfl
@[simp] theorem mapMems_psy (s : State) (f : Mems → Mems) : (s.mapMems f).psy = s.psy := rfl
@[simp] theorem mapMems_src (s : State) (f : Mems → Mems) : (s.mapMems f).src = s.src := rfl
@[simp] theorem mapMems_occ (s : State) (f : Mems → Mems) : (s.mapMems f).occ = s.occ := rfl
@[simp] theorem mapMems_crx (s : State) (f : Mems → Mems) : (s.mapMems f).crx = s.crx := rfl
@[simp] theorem mapMems_cal (s : State) (f : Mems → Mems) : (s.mapMems f).cal = s.cal := rfl
@[simp] theorem mapMems_chn (s : State) (f : Mems → Mems) : (s.mapMems f).chn = s.chn := rfl
@[simp] theorem mapMems_pcm (s : State) (f : Mems → Mems) : (s.mapMems f).pcm = s.pcm := rfl
@[simp] theorem mapMems_phs (s : State) (f : Mems → Mems) : (s.mapMems f).phs = s.phs := rfl
@[simp] theorem mapMems_pfl (s : State) (f : Mems → Mems) : (s.mapMems f).pfl = s.pfl := rfl
@[simp] theorem mapMems_rmx (s : State) (f : Mems → Mems) : (s.mapMems f).rmx = s.rmx := rfl
@[simp] theorem mapMems_dts (s : State) (f : Mems → Mems) : (s.mapMems f).dts = s.dts := rfl
@[simp] theorem mapMems_aar (s : State) (f : Mems → Mems) : (s.mapMems f).aar = s.aar := rfl
@[simp] theorem mapMems_zon (s : State) (f : Mems → Mems) : (s.mapMems f).zon = s.zon := rfl
@[simp] theorem mapMems_gda (s : State) (f : Mems → Mems) : (s.mapMems f).gda = s.gda := rfl
@[simp] theorem mapMems_gdb (s : State) (f : Mems → Mems) : (s.mapMems f).gdb = s.gdb := rfl
@[simp] theorem mapMems_guards (s : State) (f : Mems → Mems) : (s.mapMems f).guards = s.guards := rfl
@[simp] theorem mapMems_rng (s : State) (f : Mems → Mems) : (s.mapMems f).rng = s.rng := rfl
@[simp] theorem mapMems_cmp (s : State) (f : Mems → Mems) : (s.mapMems f).cmp = s.cmp := rfl
@[simp] theorem mapMems_cvu (s : State) (f : Mems → Mems) : (s.mapMems f).cvu = s.cvu := rfl
@[simp] theorem mapMems_dmc (s : State) (f : Mems → Mems) : (s.mapMems f).dmc = s.dmc := rfl
@[simp] theorem mapMems_ref (s : State) (f : Mems → Mems) : (s.mapMems f).ref = s.ref := rfl
@[simp] theorem mapMems_tiu (s : State) (f : Mems → Mems) : (s.mapMems f).tiu = s.tiu := rfl
@[simp] theorem mapMems_lan (s : State) (f : Mems → Mems) : (s.mapMems f).lan = s.lan := rfl
@[simp] theorem mapMems_eth (s : State) (f : Mems → Mems) : (s.mapMems f).eth = s.eth := rfl
@[simp] theorem mapMems_kpe (s : State) (f : Mems → Mems) : (s.mapMems f).kpe = s.kpe := rfl
@[simp] theorem mapMems_mgc (s : State) (f : Mems → Mems) : (s.mapMems f).mgc = s.mgc := rfl
@[simp] theorem mapMems_sns (s : State) (f : Mems → Mems) : (s.mapMems f).sns = s.sns := rfl
@[simp] theorem mapMems_evr (s : State) (f : Mems → Mems) : (s.mapMems f).evr = s.evr := rfl
@[simp] theorem mapMems_tim (s : State) (f : Mems → Mems) : (s.mapMems f).tim = s.tim := rfl
@[simp] theorem mapMems_upd (s : State) (f : Mems → Mems) : (s.mapMems f).upd = s.upd := rfl
@[simp] theorem mapMems_pwr (s : State) (f : Mems → Mems) : (s.mapMems f).pwr = s.pwr := rfl
@[simp] theorem mapMems_fresh (s : State) (f : Mems → Mems) : (s.mapMems f).fresh = s.fresh := rfl
@[simp] theorem mapMems_pending (s : State) (f : Mems → Mems) : (s.mapMems f).pending = s.pending := rfl

/-! ### setLive -/
@[simp] theorem setLive_now (s : State) (a : Nat) (v : Word) : (s.setLive a v).now = s.now := rfl
@[simp] theorem setLive_mems (s : State) (a : Nat) (v : Word) : (s.setLive a v).mems = s.mems := rfl
@[simp] theorem setLive_bus (s : State) (a : Nat) (v : Word) : (s.setLive a v).bus = s.bus := rfl
@[simp] theorem setLive_chp (s : State) (a : Nat) (v : Word) : (s.setLive a v).chp = s.chp := rfl
@[simp] theorem setLive_psq (s : State) (a : Nat) (v : Word) : (s.setLive a v).psq = s.psq := rfl
@[simp] theorem setLive_psy (s : State) (a : Nat) (v : Word) : (s.setLive a v).psy = s.psy := rfl
@[simp] theorem setLive_src (s : State) (a : Nat) (v : Word) : (s.setLive a v).src = s.src := rfl
@[simp] theorem setLive_occ (s : State) (a : Nat) (v : Word) : (s.setLive a v).occ = s.occ := rfl
@[simp] theorem setLive_crx (s : State) (a : Nat) (v : Word) : (s.setLive a v).crx = s.crx := rfl
@[simp] theorem setLive_cal (s : State) (a : Nat) (v : Word) : (s.setLive a v).cal = s.cal := rfl
@[simp] theorem setLive_chn (s : State) (a : Nat) (v : Word) : (s.setLive a v).chn = s.chn := rfl
@[simp] theorem setLive_pcm (s : State) (a : Nat) (v : Word) : (s.setLive a v).pcm = s.pcm := rfl
@[simp] theorem setLive_phs (s : State) (a : Nat) (v : Word) : (s.setLive a v).phs = s.phs := rfl
@[simp] theorem setLive_pfl (s : State) (a : Nat) (v : Word) : (s.setLive a v).pfl = s.pfl := rfl
@[simp] theorem setLive_rmx (s : State) (a : Nat) (v : Word) : (s.setLive a v).rmx = s.rmx := rfl
@[simp] theorem setLive_dts (s : State) (a : Nat) (v : Word) : (s.setLive a v).dts = s.dts := rfl
@[simp] theorem setLive_aar (s : State) (a : Nat) (v : Word) : (s.setLive a v).aar = s.aar := rfl
@[simp] theorem setLive_zon (s : State) (a : Nat) (v : Word) : (s.setLive a v).zon = s.zon := rfl
@[simp] theorem setLive_gda (s : State) (a : Nat) (v : Word) : (s.setLive a v).gda = s.gda := rfl
@[simp] theorem setLive_gdb (s : State) (a : Nat) (v : Word) : (s.setLive a v).gdb = s.gdb := rfl
@[simp] theorem setLive_guards (s : State) (a : Nat) (v : Word) : (s.setLive a v).guards = s.guards := rfl
@[simp] theorem setLive_rng (s : State) (a : Nat) (v : Word) : (s.setLive a v).rng = s.rng := rfl
@[simp] theorem setLive_cmp (s : State) (a : Nat) (v : Word) : (s.setLive a v).cmp = s.cmp := rfl
@[simp] theorem setLive_cvu (s : State) (a : Nat) (v : Word) : (s.setLive a v).cvu = s.cvu := rfl
@[simp] theorem setLive_dmc (s : State) (a : Nat) (v : Word) : (s.setLive a v).dmc = s.dmc := rfl
@[simp] theorem setLive_ref (s : State) (a : Nat) (v : Word) : (s.setLive a v).ref = s.ref := rfl
@[simp] theorem setLive_tiu (s : State) (a : Nat) (v : Word) : (s.setLive a v).tiu = s.tiu := rfl
@[simp] theorem setLive_lan (s : State) (a : Nat) (v : Word) : (s.setLive a v).lan = s.lan := rfl
@[simp] theorem setLive_eth (s : State) (a : Nat) (v : Word) : (s.setLive a v).eth = s.eth := rfl
@[simp] theorem setLive_kpe (s : State) (a : Nat) (v : Word) : (s.setLive a v).kpe = s.kpe := rfl
@[simp] theorem setLive_mgc (s : State) (a : Nat) (v : Word) : (s.setLive a v).mgc = s.mgc := rfl
@[simp] theorem setLive_sns (s : State) (a : Nat) (v : Word) : (s.setLive a v).sns = s.sns := rfl
@[simp] theorem setLive_evr (s : State) (a : Nat) (v : Word) : (s.setLive a v).evr = s.evr := rfl
@[simp] theorem setLive_tim (s : State) (a : Nat) (v : Word) : (s.setLive a v).tim = s.tim := rfl
@[simp] theorem setLive_upd (s : State) (a : Nat) (v : Word) : (s.setLive a v).upd = s.upd := rfl
@[simp] theorem setLive_pwr (s : State) (a : Nat) (v : Word) : (s.setLive a v).pwr = s.pwr := rfl
@[simp] theorem setLive_fresh (s : State) (a : Nat) (v : Word) : (s.setLive a v).fresh = s.fresh := rfl
@[simp] theorem setLive_pending (s : State) (a : Nat) (v : Word) : (s.setLive a v).pending = s.pending := rfl

/-! ### setStage -/
@[simp] theorem setStage_now (s : State) (a : Nat) (v : Word) : (s.setStage a v).now = s.now := rfl
@[simp] theorem setStage_mems (s : State) (a : Nat) (v : Word) : (s.setStage a v).mems = s.mems := rfl
@[simp] theorem setStage_bus (s : State) (a : Nat) (v : Word) : (s.setStage a v).bus = s.bus := rfl
@[simp] theorem setStage_chp (s : State) (a : Nat) (v : Word) : (s.setStage a v).chp = s.chp := rfl
@[simp] theorem setStage_psq (s : State) (a : Nat) (v : Word) : (s.setStage a v).psq = s.psq := rfl
@[simp] theorem setStage_psy (s : State) (a : Nat) (v : Word) : (s.setStage a v).psy = s.psy := rfl
@[simp] theorem setStage_src (s : State) (a : Nat) (v : Word) : (s.setStage a v).src = s.src := rfl
@[simp] theorem setStage_occ (s : State) (a : Nat) (v : Word) : (s.setStage a v).occ = s.occ := rfl
@[simp] theorem setStage_crx (s : State) (a : Nat) (v : Word) : (s.setStage a v).crx = s.crx := rfl
@[simp] theorem setStage_cal (s : State) (a : Nat) (v : Word) : (s.setStage a v).cal = s.cal := rfl
@[simp] theorem setStage_chn (s : State) (a : Nat) (v : Word) : (s.setStage a v).chn = s.chn := rfl
@[simp] theorem setStage_pcm (s : State) (a : Nat) (v : Word) : (s.setStage a v).pcm = s.pcm := rfl
@[simp] theorem setStage_phs (s : State) (a : Nat) (v : Word) : (s.setStage a v).phs = s.phs := rfl
@[simp] theorem setStage_pfl (s : State) (a : Nat) (v : Word) : (s.setStage a v).pfl = s.pfl := rfl
@[simp] theorem setStage_rmx (s : State) (a : Nat) (v : Word) : (s.setStage a v).rmx = s.rmx := rfl
@[simp] theorem setStage_dts (s : State) (a : Nat) (v : Word) : (s.setStage a v).dts = s.dts := rfl
@[simp] theorem setStage_aar (s : State) (a : Nat) (v : Word) : (s.setStage a v).aar = s.aar := rfl
@[simp] theorem setStage_zon (s : State) (a : Nat) (v : Word) : (s.setStage a v).zon = s.zon := rfl
@[simp] theorem setStage_gda (s : State) (a : Nat) (v : Word) : (s.setStage a v).gda = s.gda := rfl
@[simp] theorem setStage_gdb (s : State) (a : Nat) (v : Word) : (s.setStage a v).gdb = s.gdb := rfl
@[simp] theorem setStage_guards (s : State) (a : Nat) (v : Word) : (s.setStage a v).guards = s.guards := rfl
@[simp] theorem setStage_rng (s : State) (a : Nat) (v : Word) : (s.setStage a v).rng = s.rng := rfl
@[simp] theorem setStage_cmp (s : State) (a : Nat) (v : Word) : (s.setStage a v).cmp = s.cmp := rfl
@[simp] theorem setStage_cvu (s : State) (a : Nat) (v : Word) : (s.setStage a v).cvu = s.cvu := rfl
@[simp] theorem setStage_dmc (s : State) (a : Nat) (v : Word) : (s.setStage a v).dmc = s.dmc := rfl
@[simp] theorem setStage_ref (s : State) (a : Nat) (v : Word) : (s.setStage a v).ref = s.ref := rfl
@[simp] theorem setStage_tiu (s : State) (a : Nat) (v : Word) : (s.setStage a v).tiu = s.tiu := rfl
@[simp] theorem setStage_lan (s : State) (a : Nat) (v : Word) : (s.setStage a v).lan = s.lan := rfl
@[simp] theorem setStage_eth (s : State) (a : Nat) (v : Word) : (s.setStage a v).eth = s.eth := rfl
@[simp] theorem setStage_kpe (s : State) (a : Nat) (v : Word) : (s.setStage a v).kpe = s.kpe := rfl
@[simp] theorem setStage_mgc (s : State) (a : Nat) (v : Word) : (s.setStage a v).mgc = s.mgc := rfl
@[simp] theorem setStage_sns (s : State) (a : Nat) (v : Word) : (s.setStage a v).sns = s.sns := rfl
@[simp] theorem setStage_evr (s : State) (a : Nat) (v : Word) : (s.setStage a v).evr = s.evr := rfl
@[simp] theorem setStage_tim (s : State) (a : Nat) (v : Word) : (s.setStage a v).tim = s.tim := rfl
@[simp] theorem setStage_upd (s : State) (a : Nat) (v : Word) : (s.setStage a v).upd = s.upd := rfl
@[simp] theorem setStage_pwr (s : State) (a : Nat) (v : Word) : (s.setStage a v).pwr = s.pwr := rfl
@[simp] theorem setStage_fresh (s : State) (a : Nat) (v : Word) : (s.setStage a v).fresh = s.fresh := rfl
@[simp] theorem setStage_pending (s : State) (a : Nat) (v : Word) : (s.setStage a v).pending = s.pending := rfl

/-! ### setCauses -/
@[simp] theorem setCauses_now (s : State) (a : Nat) (v : Word) : (s.setCauses a v).now = s.now := rfl
@[simp] theorem setCauses_mems (s : State) (a : Nat) (v : Word) : (s.setCauses a v).mems = s.mems := rfl
@[simp] theorem setCauses_bus (s : State) (a : Nat) (v : Word) : (s.setCauses a v).bus = s.bus := rfl
@[simp] theorem setCauses_chp (s : State) (a : Nat) (v : Word) : (s.setCauses a v).chp = s.chp := rfl
@[simp] theorem setCauses_psq (s : State) (a : Nat) (v : Word) : (s.setCauses a v).psq = s.psq := rfl
@[simp] theorem setCauses_psy (s : State) (a : Nat) (v : Word) : (s.setCauses a v).psy = s.psy := rfl
@[simp] theorem setCauses_src (s : State) (a : Nat) (v : Word) : (s.setCauses a v).src = s.src := rfl
@[simp] theorem setCauses_occ (s : State) (a : Nat) (v : Word) : (s.setCauses a v).occ = s.occ := rfl
@[simp] theorem setCauses_crx (s : State) (a : Nat) (v : Word) : (s.setCauses a v).crx = s.crx := rfl
@[simp] theorem setCauses_cal (s : State) (a : Nat) (v : Word) : (s.setCauses a v).cal = s.cal := rfl
@[simp] theorem setCauses_chn (s : State) (a : Nat) (v : Word) : (s.setCauses a v).chn = s.chn := rfl
@[simp] theorem setCauses_pcm (s : State) (a : Nat) (v : Word) : (s.setCauses a v).pcm = s.pcm := rfl
@[simp] theorem setCauses_phs (s : State) (a : Nat) (v : Word) : (s.setCauses a v).phs = s.phs := rfl
@[simp] theorem setCauses_pfl (s : State) (a : Nat) (v : Word) : (s.setCauses a v).pfl = s.pfl := rfl
@[simp] theorem setCauses_rmx (s : State) (a : Nat) (v : Word) : (s.setCauses a v).rmx = s.rmx := rfl
@[simp] theorem setCauses_dts (s : State) (a : Nat) (v : Word) : (s.setCauses a v).dts = s.dts := rfl
@[simp] theorem setCauses_aar (s : State) (a : Nat) (v : Word) : (s.setCauses a v).aar = s.aar := rfl
@[simp] theorem setCauses_zon (s : State) (a : Nat) (v : Word) : (s.setCauses a v).zon = s.zon := rfl
@[simp] theorem setCauses_gda (s : State) (a : Nat) (v : Word) : (s.setCauses a v).gda = s.gda := rfl
@[simp] theorem setCauses_gdb (s : State) (a : Nat) (v : Word) : (s.setCauses a v).gdb = s.gdb := rfl
@[simp] theorem setCauses_guards (s : State) (a : Nat) (v : Word) : (s.setCauses a v).guards = s.guards := rfl
@[simp] theorem setCauses_rng (s : State) (a : Nat) (v : Word) : (s.setCauses a v).rng = s.rng := rfl
@[simp] theorem setCauses_cmp (s : State) (a : Nat) (v : Word) : (s.setCauses a v).cmp = s.cmp := rfl
@[simp] theorem setCauses_cvu (s : State) (a : Nat) (v : Word) : (s.setCauses a v).cvu = s.cvu := rfl
@[simp] theorem setCauses_dmc (s : State) (a : Nat) (v : Word) : (s.setCauses a v).dmc = s.dmc := rfl
@[simp] theorem setCauses_ref (s : State) (a : Nat) (v : Word) : (s.setCauses a v).ref = s.ref := rfl
@[simp] theorem setCauses_tiu (s : State) (a : Nat) (v : Word) : (s.setCauses a v).tiu = s.tiu := rfl
@[simp] theorem setCauses_lan (s : State) (a : Nat) (v : Word) : (s.setCauses a v).lan = s.lan := rfl
@[simp] theorem setCauses_eth (s : State) (a : Nat) (v : Word) : (s.setCauses a v).eth = s.eth := rfl
@[simp] theorem setCauses_kpe (s : State) (a : Nat) (v : Word) : (s.setCauses a v).kpe = s.kpe := rfl
@[simp] theorem setCauses_mgc (s : State) (a : Nat) (v : Word) : (s.setCauses a v).mgc = s.mgc := rfl
@[simp] theorem setCauses_sns (s : State) (a : Nat) (v : Word) : (s.setCauses a v).sns = s.sns := rfl
@[simp] theorem setCauses_evr (s : State) (a : Nat) (v : Word) : (s.setCauses a v).evr = s.evr := rfl
@[simp] theorem setCauses_tim (s : State) (a : Nat) (v : Word) : (s.setCauses a v).tim = s.tim := rfl
@[simp] theorem setCauses_upd (s : State) (a : Nat) (v : Word) : (s.setCauses a v).upd = s.upd := rfl
@[simp] theorem setCauses_pwr (s : State) (a : Nat) (v : Word) : (s.setCauses a v).pwr = s.pwr := rfl
@[simp] theorem setCauses_fresh (s : State) (a : Nat) (v : Word) : (s.setCauses a v).fresh = s.fresh := rfl
@[simp] theorem setCauses_pending (s : State) (a : Nat) (v : Word) : (s.setCauses a v).pending = s.pending := rfl

/-! ### advance -/
@[simp] theorem advance_regs (s : State) (t : Instant) : (s.advance t).regs = s.regs := rfl
@[simp] theorem advance_mems (s : State) (t : Instant) : (s.advance t).mems = s.mems := rfl
@[simp] theorem advance_bus (s : State) (t : Instant) : (s.advance t).bus = s.bus := rfl
@[simp] theorem advance_chp (s : State) (t : Instant) : (s.advance t).chp = s.chp := rfl
@[simp] theorem advance_psq (s : State) (t : Instant) : (s.advance t).psq = s.psq := rfl
@[simp] theorem advance_psy (s : State) (t : Instant) : (s.advance t).psy = s.psy := rfl
@[simp] theorem advance_src (s : State) (t : Instant) : (s.advance t).src = s.src := rfl
@[simp] theorem advance_occ (s : State) (t : Instant) : (s.advance t).occ = s.occ := rfl
@[simp] theorem advance_crx (s : State) (t : Instant) : (s.advance t).crx = s.crx := rfl
@[simp] theorem advance_cal (s : State) (t : Instant) : (s.advance t).cal = s.cal := rfl
@[simp] theorem advance_chn (s : State) (t : Instant) : (s.advance t).chn = s.chn := rfl
@[simp] theorem advance_pcm (s : State) (t : Instant) : (s.advance t).pcm = s.pcm := rfl
@[simp] theorem advance_phs (s : State) (t : Instant) : (s.advance t).phs = s.phs := rfl
@[simp] theorem advance_pfl (s : State) (t : Instant) : (s.advance t).pfl = s.pfl := rfl
@[simp] theorem advance_rmx (s : State) (t : Instant) : (s.advance t).rmx = s.rmx := rfl
@[simp] theorem advance_dts (s : State) (t : Instant) : (s.advance t).dts = s.dts := rfl
@[simp] theorem advance_aar (s : State) (t : Instant) : (s.advance t).aar = s.aar := rfl
@[simp] theorem advance_zon (s : State) (t : Instant) : (s.advance t).zon = s.zon := rfl
@[simp] theorem advance_gda (s : State) (t : Instant) : (s.advance t).gda = s.gda := rfl
@[simp] theorem advance_gdb (s : State) (t : Instant) : (s.advance t).gdb = s.gdb := rfl
@[simp] theorem advance_guards (s : State) (t : Instant) : (s.advance t).guards = s.guards := rfl
@[simp] theorem advance_rng (s : State) (t : Instant) : (s.advance t).rng = s.rng := rfl
@[simp] theorem advance_cmp (s : State) (t : Instant) : (s.advance t).cmp = s.cmp := rfl
@[simp] theorem advance_cvu (s : State) (t : Instant) : (s.advance t).cvu = s.cvu := rfl
@[simp] theorem advance_dmc (s : State) (t : Instant) : (s.advance t).dmc = s.dmc := rfl
@[simp] theorem advance_ref (s : State) (t : Instant) : (s.advance t).ref = s.ref := rfl
@[simp] theorem advance_tiu (s : State) (t : Instant) : (s.advance t).tiu = s.tiu := rfl
@[simp] theorem advance_lan (s : State) (t : Instant) : (s.advance t).lan = s.lan := rfl
@[simp] theorem advance_eth (s : State) (t : Instant) : (s.advance t).eth = s.eth := rfl
@[simp] theorem advance_kpe (s : State) (t : Instant) : (s.advance t).kpe = s.kpe := rfl
@[simp] theorem advance_mgc (s : State) (t : Instant) : (s.advance t).mgc = s.mgc := rfl
@[simp] theorem advance_sns (s : State) (t : Instant) : (s.advance t).sns = s.sns := rfl
@[simp] theorem advance_evr (s : State) (t : Instant) : (s.advance t).evr = s.evr := rfl
@[simp] theorem advance_tim (s : State) (t : Instant) : (s.advance t).tim = s.tim := rfl
@[simp] theorem advance_upd (s : State) (t : Instant) : (s.advance t).upd = s.upd := rfl
@[simp] theorem advance_pwr (s : State) (t : Instant) : (s.advance t).pwr = s.pwr := rfl
@[simp] theorem advance_fresh (s : State) (t : Instant) : (s.advance t).fresh = s.fresh := rfl
@[simp] theorem advance_pending (s : State) (t : Instant) : (s.advance t).pending = s.pending := rfl

/-! ### answer -/
@[simp] theorem answer_now (s : State) (v : Word) : (s.answer v).now = s.now := rfl
@[simp] theorem answer_regs (s : State) (v : Word) : (s.answer v).regs = s.regs := rfl
@[simp] theorem answer_mems (s : State) (v : Word) : (s.answer v).mems = s.mems := rfl
@[simp] theorem answer_chp (s : State) (v : Word) : (s.answer v).chp = s.chp := rfl
@[simp] theorem answer_psq (s : State) (v : Word) : (s.answer v).psq = s.psq := rfl
@[simp] theorem answer_psy (s : State) (v : Word) : (s.answer v).psy = s.psy := rfl
@[simp] theorem answer_src (s : State) (v : Word) : (s.answer v).src = s.src := rfl
@[simp] theorem answer_occ (s : State) (v : Word) : (s.answer v).occ = s.occ := rfl
@[simp] theorem answer_crx (s : State) (v : Word) : (s.answer v).crx = s.crx := rfl
@[simp] theorem answer_cal (s : State) (v : Word) : (s.answer v).cal = s.cal := rfl
@[simp] theorem answer_chn (s : State) (v : Word) : (s.answer v).chn = s.chn := rfl
@[simp] theorem answer_pcm (s : State) (v : Word) : (s.answer v).pcm = s.pcm := rfl
@[simp] theorem answer_phs (s : State) (v : Word) : (s.answer v).phs = s.phs := rfl
@[simp] theorem answer_pfl (s : State) (v : Word) : (s.answer v).pfl = s.pfl := rfl
@[simp] theorem answer_rmx (s : State) (v : Word) : (s.answer v).rmx = s.rmx := rfl
@[simp] theorem answer_dts (s : State) (v : Word) : (s.answer v).dts = s.dts := rfl
@[simp] theorem answer_aar (s : State) (v : Word) : (s.answer v).aar = s.aar := rfl
@[simp] theorem answer_zon (s : State) (v : Word) : (s.answer v).zon = s.zon := rfl
@[simp] theorem answer_gda (s : State) (v : Word) : (s.answer v).gda = s.gda := rfl
@[simp] theorem answer_gdb (s : State) (v : Word) : (s.answer v).gdb = s.gdb := rfl
@[simp] theorem answer_guards (s : State) (v : Word) : (s.answer v).guards = s.guards := rfl
@[simp] theorem answer_rng (s : State) (v : Word) : (s.answer v).rng = s.rng := rfl
@[simp] theorem answer_cmp (s : State) (v : Word) : (s.answer v).cmp = s.cmp := rfl
@[simp] theorem answer_cvu (s : State) (v : Word) : (s.answer v).cvu = s.cvu := rfl
@[simp] theorem answer_dmc (s : State) (v : Word) : (s.answer v).dmc = s.dmc := rfl
@[simp] theorem answer_ref (s : State) (v : Word) : (s.answer v).ref = s.ref := rfl
@[simp] theorem answer_tiu (s : State) (v : Word) : (s.answer v).tiu = s.tiu := rfl
@[simp] theorem answer_lan (s : State) (v : Word) : (s.answer v).lan = s.lan := rfl
@[simp] theorem answer_eth (s : State) (v : Word) : (s.answer v).eth = s.eth := rfl
@[simp] theorem answer_kpe (s : State) (v : Word) : (s.answer v).kpe = s.kpe := rfl
@[simp] theorem answer_mgc (s : State) (v : Word) : (s.answer v).mgc = s.mgc := rfl
@[simp] theorem answer_sns (s : State) (v : Word) : (s.answer v).sns = s.sns := rfl
@[simp] theorem answer_evr (s : State) (v : Word) : (s.answer v).evr = s.evr := rfl
@[simp] theorem answer_tim (s : State) (v : Word) : (s.answer v).tim = s.tim := rfl
@[simp] theorem answer_upd (s : State) (v : Word) : (s.answer v).upd = s.upd := rfl
@[simp] theorem answer_pwr (s : State) (v : Word) : (s.answer v).pwr = s.pwr := rfl
@[simp] theorem answer_fresh (s : State) (v : Word) : (s.answer v).fresh = s.fresh := rfl
@[simp] theorem answer_pending (s : State) (v : Word) : (s.answer v).pending = s.pending := rfl

/-! ### done -/
@[simp] theorem done_now (s : State) : (s.done).now = s.now := rfl
@[simp] theorem done_regs (s : State) : (s.done).regs = s.regs := rfl
@[simp] theorem done_mems (s : State) : (s.done).mems = s.mems := rfl
@[simp] theorem done_chp (s : State) : (s.done).chp = s.chp := rfl
@[simp] theorem done_psq (s : State) : (s.done).psq = s.psq := rfl
@[simp] theorem done_psy (s : State) : (s.done).psy = s.psy := rfl
@[simp] theorem done_src (s : State) : (s.done).src = s.src := rfl
@[simp] theorem done_occ (s : State) : (s.done).occ = s.occ := rfl
@[simp] theorem done_crx (s : State) : (s.done).crx = s.crx := rfl
@[simp] theorem done_cal (s : State) : (s.done).cal = s.cal := rfl
@[simp] theorem done_chn (s : State) : (s.done).chn = s.chn := rfl
@[simp] theorem done_pcm (s : State) : (s.done).pcm = s.pcm := rfl
@[simp] theorem done_phs (s : State) : (s.done).phs = s.phs := rfl
@[simp] theorem done_pfl (s : State) : (s.done).pfl = s.pfl := rfl
@[simp] theorem done_rmx (s : State) : (s.done).rmx = s.rmx := rfl
@[simp] theorem done_dts (s : State) : (s.done).dts = s.dts := rfl
@[simp] theorem done_aar (s : State) : (s.done).aar = s.aar := rfl
@[simp] theorem done_zon (s : State) : (s.done).zon = s.zon := rfl
@[simp] theorem done_gda (s : State) : (s.done).gda = s.gda := rfl
@[simp] theorem done_gdb (s : State) : (s.done).gdb = s.gdb := rfl
@[simp] theorem done_guards (s : State) : (s.done).guards = s.guards := rfl
@[simp] theorem done_rng (s : State) : (s.done).rng = s.rng := rfl
@[simp] theorem done_cmp (s : State) : (s.done).cmp = s.cmp := rfl
@[simp] theorem done_cvu (s : State) : (s.done).cvu = s.cvu := rfl
@[simp] theorem done_dmc (s : State) : (s.done).dmc = s.dmc := rfl
@[simp] theorem done_ref (s : State) : (s.done).ref = s.ref := rfl
@[simp] theorem done_tiu (s : State) : (s.done).tiu = s.tiu := rfl
@[simp] theorem done_lan (s : State) : (s.done).lan = s.lan := rfl
@[simp] theorem done_eth (s : State) : (s.done).eth = s.eth := rfl
@[simp] theorem done_kpe (s : State) : (s.done).kpe = s.kpe := rfl
@[simp] theorem done_mgc (s : State) : (s.done).mgc = s.mgc := rfl
@[simp] theorem done_sns (s : State) : (s.done).sns = s.sns := rfl
@[simp] theorem done_evr (s : State) : (s.done).evr = s.evr := rfl
@[simp] theorem done_tim (s : State) : (s.done).tim = s.tim := rfl
@[simp] theorem done_upd (s : State) : (s.done).upd = s.upd := rfl
@[simp] theorem done_pwr (s : State) : (s.done).pwr = s.pwr := rfl
@[simp] theorem done_fresh (s : State) : (s.done).fresh = s.fresh := rfl
@[simp] theorem done_pending (s : State) : (s.done).pending = s.pending := rfl

/-! ### wr -/
@[simp] theorem wr_now (s : State) (f : Field) (v : Nat) : (s.wr f v).now = s.now := by unfold State.wr; split <;> rfl
@[simp] theorem wr_mems (s : State) (f : Field) (v : Nat) : (s.wr f v).mems = s.mems := by unfold State.wr; split <;> rfl
@[simp] theorem wr_bus (s : State) (f : Field) (v : Nat) : (s.wr f v).bus = s.bus := by unfold State.wr; split <;> rfl
@[simp] theorem wr_chp (s : State) (f : Field) (v : Nat) : (s.wr f v).chp = s.chp := by unfold State.wr; split <;> rfl
@[simp] theorem wr_psq (s : State) (f : Field) (v : Nat) : (s.wr f v).psq = s.psq := by unfold State.wr; split <;> rfl
@[simp] theorem wr_psy (s : State) (f : Field) (v : Nat) : (s.wr f v).psy = s.psy := by unfold State.wr; split <;> rfl
@[simp] theorem wr_src (s : State) (f : Field) (v : Nat) : (s.wr f v).src = s.src := by unfold State.wr; split <;> rfl
@[simp] theorem wr_occ (s : State) (f : Field) (v : Nat) : (s.wr f v).occ = s.occ := by unfold State.wr; split <;> rfl
@[simp] theorem wr_crx (s : State) (f : Field) (v : Nat) : (s.wr f v).crx = s.crx := by unfold State.wr; split <;> rfl
@[simp] theorem wr_cal (s : State) (f : Field) (v : Nat) : (s.wr f v).cal = s.cal := by unfold State.wr; split <;> rfl
@[simp] theorem wr_chn (s : State) (f : Field) (v : Nat) : (s.wr f v).chn = s.chn := by unfold State.wr; split <;> rfl
@[simp] theorem wr_pcm (s : State) (f : Field) (v : Nat) : (s.wr f v).pcm = s.pcm := by unfold State.wr; split <;> rfl
@[simp] theorem wr_phs (s : State) (f : Field) (v : Nat) : (s.wr f v).phs = s.phs := by unfold State.wr; split <;> rfl
@[simp] theorem wr_pfl (s : State) (f : Field) (v : Nat) : (s.wr f v).pfl = s.pfl := by unfold State.wr; split <;> rfl
@[simp] theorem wr_rmx (s : State) (f : Field) (v : Nat) : (s.wr f v).rmx = s.rmx := by unfold State.wr; split <;> rfl
@[simp] theorem wr_dts (s : State) (f : Field) (v : Nat) : (s.wr f v).dts = s.dts := by unfold State.wr; split <;> rfl
@[simp] theorem wr_aar (s : State) (f : Field) (v : Nat) : (s.wr f v).aar = s.aar := by unfold State.wr; split <;> rfl
@[simp] theorem wr_zon (s : State) (f : Field) (v : Nat) : (s.wr f v).zon = s.zon := by unfold State.wr; split <;> rfl
@[simp] theorem wr_gda (s : State) (f : Field) (v : Nat) : (s.wr f v).gda = s.gda := by unfold State.wr; split <;> rfl
@[simp] theorem wr_gdb (s : State) (f : Field) (v : Nat) : (s.wr f v).gdb = s.gdb := by unfold State.wr; split <;> rfl
@[simp] theorem wr_guards (s : State) (f : Field) (v : Nat) : (s.wr f v).guards = s.guards := by unfold State.wr; split <;> rfl
@[simp] theorem wr_rng (s : State) (f : Field) (v : Nat) : (s.wr f v).rng = s.rng := by unfold State.wr; split <;> rfl
@[simp] theorem wr_cmp (s : State) (f : Field) (v : Nat) : (s.wr f v).cmp = s.cmp := by unfold State.wr; split <;> rfl
@[simp] theorem wr_cvu (s : State) (f : Field) (v : Nat) : (s.wr f v).cvu = s.cvu := by unfold State.wr; split <;> rfl
@[simp] theorem wr_dmc (s : State) (f : Field) (v : Nat) : (s.wr f v).dmc = s.dmc := by unfold State.wr; split <;> rfl
@[simp] theorem wr_ref (s : State) (f : Field) (v : Nat) : (s.wr f v).ref = s.ref := by unfold State.wr; split <;> rfl
@[simp] theorem wr_tiu (s : State) (f : Field) (v : Nat) : (s.wr f v).tiu = s.tiu := by unfold State.wr; split <;> rfl
@[simp] theorem wr_lan (s : State) (f : Field) (v : Nat) : (s.wr f v).lan = s.lan := by unfold State.wr; split <;> rfl
@[simp] theorem wr_eth (s : State) (f : Field) (v : Nat) : (s.wr f v).eth = s.eth := by unfold State.wr; split <;> rfl
@[simp] theorem wr_kpe (s : State) (f : Field) (v : Nat) : (s.wr f v).kpe = s.kpe := by unfold State.wr; split <;> rfl
@[simp] theorem wr_mgc (s : State) (f : Field) (v : Nat) : (s.wr f v).mgc = s.mgc := by unfold State.wr; split <;> rfl
@[simp] theorem wr_sns (s : State) (f : Field) (v : Nat) : (s.wr f v).sns = s.sns := by unfold State.wr; split <;> rfl
@[simp] theorem wr_evr (s : State) (f : Field) (v : Nat) : (s.wr f v).evr = s.evr := by unfold State.wr; split <;> rfl
@[simp] theorem wr_tim (s : State) (f : Field) (v : Nat) : (s.wr f v).tim = s.tim := by unfold State.wr; split <;> rfl
@[simp] theorem wr_upd (s : State) (f : Field) (v : Nat) : (s.wr f v).upd = s.upd := by unfold State.wr; split <;> rfl
@[simp] theorem wr_pwr (s : State) (f : Field) (v : Nat) : (s.wr f v).pwr = s.pwr := by unfold State.wr; split <;> rfl
@[simp] theorem wr_fresh (s : State) (f : Field) (v : Nat) : (s.wr f v).fresh = s.fresh := by unfold State.wr; split <;> rfl
@[simp] theorem wr_pending (s : State) (f : Field) (v : Nat) : (s.wr f v).pending = s.pending := by unfold State.wr; split <;> rfl

/-! ### event -/
@[simp] theorem event_now (s : State) (fs : List Field) : (s.event fs).now = s.now := by unfold State.event; split <;> rfl
@[simp] theorem event_mems (s : State) (fs : List Field) : (s.event fs).mems = s.mems := by unfold State.event; split <;> rfl
@[simp] theorem event_bus (s : State) (fs : List Field) : (s.event fs).bus = s.bus := by unfold State.event; split <;> rfl
@[simp] theorem event_chp (s : State) (fs : List Field) : (s.event fs).chp = s.chp := by unfold State.event; split <;> rfl
@[simp] theorem event_psq (s : State) (fs : List Field) : (s.event fs).psq = s.psq := by unfold State.event; split <;> rfl
@[simp] theorem event_psy (s : State) (fs : List Field) : (s.event fs).psy = s.psy := by unfold State.event; split <;> rfl
@[simp] theorem event_src (s : State) (fs : List Field) : (s.event fs).src = s.src := by unfold State.event; split <;> rfl
@[simp] theorem event_occ (s : State) (fs : List Field) : (s.event fs).occ = s.occ := by unfold State.event; split <;> rfl
@[simp] theorem event_crx (s : State) (fs : List Field) : (s.event fs).crx = s.crx := by unfold State.event; split <;> rfl
@[simp] theorem event_cal (s : State) (fs : List Field) : (s.event fs).cal = s.cal := by unfold State.event; split <;> rfl
@[simp] theorem event_chn (s : State) (fs : List Field) : (s.event fs).chn = s.chn := by unfold State.event; split <;> rfl
@[simp] theorem event_pcm (s : State) (fs : List Field) : (s.event fs).pcm = s.pcm := by unfold State.event; split <;> rfl
@[simp] theorem event_phs (s : State) (fs : List Field) : (s.event fs).phs = s.phs := by unfold State.event; split <;> rfl
@[simp] theorem event_pfl (s : State) (fs : List Field) : (s.event fs).pfl = s.pfl := by unfold State.event; split <;> rfl
@[simp] theorem event_rmx (s : State) (fs : List Field) : (s.event fs).rmx = s.rmx := by unfold State.event; split <;> rfl
@[simp] theorem event_dts (s : State) (fs : List Field) : (s.event fs).dts = s.dts := by unfold State.event; split <;> rfl
@[simp] theorem event_aar (s : State) (fs : List Field) : (s.event fs).aar = s.aar := by unfold State.event; split <;> rfl
@[simp] theorem event_zon (s : State) (fs : List Field) : (s.event fs).zon = s.zon := by unfold State.event; split <;> rfl
@[simp] theorem event_gda (s : State) (fs : List Field) : (s.event fs).gda = s.gda := by unfold State.event; split <;> rfl
@[simp] theorem event_gdb (s : State) (fs : List Field) : (s.event fs).gdb = s.gdb := by unfold State.event; split <;> rfl
@[simp] theorem event_guards (s : State) (fs : List Field) : (s.event fs).guards = s.guards := by unfold State.event; split <;> rfl
@[simp] theorem event_rng (s : State) (fs : List Field) : (s.event fs).rng = s.rng := by unfold State.event; split <;> rfl
@[simp] theorem event_cmp (s : State) (fs : List Field) : (s.event fs).cmp = s.cmp := by unfold State.event; split <;> rfl
@[simp] theorem event_cvu (s : State) (fs : List Field) : (s.event fs).cvu = s.cvu := by unfold State.event; split <;> rfl
@[simp] theorem event_dmc (s : State) (fs : List Field) : (s.event fs).dmc = s.dmc := by unfold State.event; split <;> rfl
@[simp] theorem event_ref (s : State) (fs : List Field) : (s.event fs).ref = s.ref := by unfold State.event; split <;> rfl
@[simp] theorem event_tiu (s : State) (fs : List Field) : (s.event fs).tiu = s.tiu := by unfold State.event; split <;> rfl
@[simp] theorem event_lan (s : State) (fs : List Field) : (s.event fs).lan = s.lan := by unfold State.event; split <;> rfl
@[simp] theorem event_eth (s : State) (fs : List Field) : (s.event fs).eth = s.eth := by unfold State.event; split <;> rfl
@[simp] theorem event_kpe (s : State) (fs : List Field) : (s.event fs).kpe = s.kpe := by unfold State.event; split <;> rfl
@[simp] theorem event_mgc (s : State) (fs : List Field) : (s.event fs).mgc = s.mgc := by unfold State.event; split <;> rfl
@[simp] theorem event_sns (s : State) (fs : List Field) : (s.event fs).sns = s.sns := by unfold State.event; split <;> rfl
@[simp] theorem event_evr (s : State) (fs : List Field) : (s.event fs).evr = s.evr := by unfold State.event; split <;> rfl
@[simp] theorem event_tim (s : State) (fs : List Field) : (s.event fs).tim = s.tim := by unfold State.event; split <;> rfl
@[simp] theorem event_upd (s : State) (fs : List Field) : (s.event fs).upd = s.upd := by unfold State.event; split <;> rfl
@[simp] theorem event_pwr (s : State) (fs : List Field) : (s.event fs).pwr = s.pwr := by unfold State.event; split <;> rfl
@[simp] theorem event_fresh (s : State) (fs : List Field) : (s.event fs).fresh = s.fresh := by unfold State.event; split <;> rfl
@[simp] theorem event_pending (s : State) (fs : List Field) : (s.event fs).pending = s.pending := by unfold State.event; split <;> rfl

/-! ### eventStands -/
@[simp] theorem eventStands_now (s : State) (fs : List Field) : (s.eventStands fs).now = s.now := by unfold State.eventStands; split <;> rfl
@[simp] theorem eventStands_mems (s : State) (fs : List Field) : (s.eventStands fs).mems = s.mems := by unfold State.eventStands; split <;> rfl
@[simp] theorem eventStands_bus (s : State) (fs : List Field) : (s.eventStands fs).bus = s.bus := by unfold State.eventStands; split <;> rfl
@[simp] theorem eventStands_chp (s : State) (fs : List Field) : (s.eventStands fs).chp = s.chp := by unfold State.eventStands; split <;> rfl
@[simp] theorem eventStands_psq (s : State) (fs : List Field) : (s.eventStands fs).psq = s.psq := by unfold State.eventStands; split <;> rfl
@[simp] theorem eventStands_psy (s : State) (fs : List Field) : (s.eventStands fs).psy = s.psy := by unfold State.eventStands; split <;> rfl
@[simp] theorem eventStands_src (s : State) (fs : List Field) : (s.eventStands fs).src = s.src := by unfold State.eventStands; split <;> rfl
@[simp] theorem eventStands_occ (s : State) (fs : List Field) : (s.eventStands fs).occ = s.occ := by unfold State.eventStands; split <;> rfl
@[simp] theorem eventStands_crx (s : State) (fs : List Field) : (s.eventStands fs).crx = s.crx := by unfold State.eventStands; split <;> rfl
@[simp] theorem eventStands_cal (s : State) (fs : List Field) : (s.eventStands fs).cal = s.cal := by unfold State.eventStands; split <;> rfl
@[simp] theorem eventStands_chn (s : State) (fs : List Field) : (s.eventStands fs).chn = s.chn := by unfold State.eventStands; split <;> rfl
@[simp] theorem eventStands_pcm (s : State) (fs : List Field) : (s.eventStands fs).pcm = s.pcm := by unfold State.eventStands; split <;> rfl
@[simp] theorem eventStands_phs (s : State) (fs : List Field) : (s.eventStands fs).phs = s.phs := by unfold State.eventStands; split <;> rfl
@[simp] theorem eventStands_pfl (s : State) (fs : List Field) : (s.eventStands fs).pfl = s.pfl := by unfold State.eventStands; split <;> rfl
@[simp] theorem eventStands_rmx (s : State) (fs : List Field) : (s.eventStands fs).rmx = s.rmx := by unfold State.eventStands; split <;> rfl
@[simp] theorem eventStands_dts (s : State) (fs : List Field) : (s.eventStands fs).dts = s.dts := by unfold State.eventStands; split <;> rfl
@[simp] theorem eventStands_aar (s : State) (fs : List Field) : (s.eventStands fs).aar = s.aar := by unfold State.eventStands; split <;> rfl
@[simp] theorem eventStands_zon (s : State) (fs : List Field) : (s.eventStands fs).zon = s.zon := by unfold State.eventStands; split <;> rfl
@[simp] theorem eventStands_gda (s : State) (fs : List Field) : (s.eventStands fs).gda = s.gda := by unfold State.eventStands; split <;> rfl
@[simp] theorem eventStands_gdb (s : State) (fs : List Field) : (s.eventStands fs).gdb = s.gdb := by unfold State.eventStands; split <;> rfl
@[simp] theorem eventStands_guards (s : State) (fs : List Field) : (s.eventStands fs).guards = s.guards := by unfold State.eventStands; split <;> rfl
@[simp] theorem eventStands_rng (s : State) (fs : List Field) : (s.eventStands fs).rng = s.rng := by unfold State.eventStands; split <;> rfl
@[simp] theorem eventStands_cmp (s : State) (fs : List Field) : (s.eventStands fs).cmp = s.cmp := by unfold State.eventStands; split <;> rfl
@[simp] theorem eventStands_cvu (s : State) (fs : List Field) : (s.eventStands fs).cvu = s.cvu := by unfold State.eventStands; split <;> rfl
@[simp] theorem eventStands_dmc (s : State) (fs : List Field) : (s.eventStands fs).dmc = s.dmc := by unfold State.eventStands; split <;> rfl
@[simp] theorem eventStands_ref (s : State) (fs : List Field) : (s.eventStands fs).ref = s.ref := by unfold State.eventStands; split <;> rfl
@[simp] theorem eventStands_tiu (s : State) (fs : List Field) : (s.eventStands fs).tiu = s.tiu := by unfold State.eventStands; split <;> rfl
@[simp] theorem eventStands_lan (s : State) (fs : List Field) : (s.eventStands fs).lan = s.lan := by unfold State.eventStands; split <;> rfl
@[simp] theorem eventStands_eth (s : State) (fs : List Field) : (s.eventStands fs).eth = s.eth := by unfold State.eventStands; split <;> rfl
@[simp] theorem eventStands_kpe (s : State) (fs : List Field) : (s.eventStands fs).kpe = s.kpe := by unfold State.eventStands; split <;> rfl
@[simp] theorem eventStands_mgc (s : State) (fs : List Field) : (s.eventStands fs).mgc = s.mgc := by unfold State.eventStands; split <;> rfl
@[simp] theorem eventStands_sns (s : State) (fs : List Field) : (s.eventStands fs).sns = s.sns := by unfold State.eventStands; split <;> rfl
@[simp] theorem eventStands_evr (s : State) (fs : List Field) : (s.eventStands fs).evr = s.evr := by unfold State.eventStands; split <;> rfl
@[simp] theorem eventStands_tim (s : State) (fs : List Field) : (s.eventStands fs).tim = s.tim := by unfold State.eventStands; split <;> rfl
@[simp] theorem eventStands_upd (s : State) (fs : List Field) : (s.eventStands fs).upd = s.upd := by unfold State.eventStands; split <;> rfl
@[simp] theorem eventStands_pwr (s : State) (fs : List Field) : (s.eventStands fs).pwr = s.pwr := by unfold State.eventStands; split <;> rfl
@[simp] theorem eventStands_fresh (s : State) (fs : List Field) : (s.eventStands fs).fresh = s.fresh := by unfold State.eventStands; split <;> rfl
@[simp] theorem eventStands_pending (s : State) (fs : List Field) : (s.eventStands fs).pending = s.pending := by unfold State.eventStands; split <;> rfl

/-! ### causeGone -/
@[simp] theorem causeGone_now (s : State) (fs : List Field) : (s.causeGone fs).now = s.now := by unfold State.causeGone; split; rfl; dsimp only; split <;> rfl
@[simp] theorem causeGone_mems (s : State) (fs : List Field) : (s.causeGone fs).mems = s.mems := by unfold State.causeGone; split; rfl; dsimp only; split <;> rfl
@[simp] theorem causeGone_bus (s : State) (fs : List Field) : (s.causeGone fs).bus = s.bus := by unfold State.causeGone; split; rfl; dsimp only; split <;> rfl
@[simp] theorem causeGone_chp (s : State) (fs : List Field) : (s.causeGone fs).chp = s.chp := by unfold State.causeGone; split; rfl; dsimp only; split <;> rfl
@[simp] theorem causeGone_psq (s : State) (fs : List Field) : (s.causeGone fs).psq = s.psq := by unfold State.causeGone; split; rfl; dsimp only; split <;> rfl
@[simp] theorem causeGone_psy (s : State) (fs : List Field) : (s.causeGone fs).psy = s.psy := by unfold State.causeGone; split; rfl; dsimp only; split <;> rfl
@[simp] theorem causeGone_src (s : State) (fs : List Field) : (s.causeGone fs).src = s.src := by unfold State.causeGone; split; rfl; dsimp only; split <;> rfl
@[simp] theorem causeGone_occ (s : State) (fs : List Field) : (s.causeGone fs).occ = s.occ := by unfold State.causeGone; split; rfl; dsimp only; split <;> rfl
@[simp] theorem causeGone_crx (s : State) (fs : List Field) : (s.causeGone fs).crx = s.crx := by unfold State.causeGone; split; rfl; dsimp only; split <;> rfl
@[simp] theorem causeGone_cal (s : State) (fs : List Field) : (s.causeGone fs).cal = s.cal := by unfold State.causeGone; split; rfl; dsimp only; split <;> rfl
@[simp] theorem causeGone_chn (s : State) (fs : List Field) : (s.causeGone fs).chn = s.chn := by unfold State.causeGone; split; rfl; dsimp only; split <;> rfl
@[simp] theorem causeGone_pcm (s : State) (fs : List Field) : (s.causeGone fs).pcm = s.pcm := by unfold State.causeGone; split; rfl; dsimp only; split <;> rfl
@[simp] theorem causeGone_phs (s : State) (fs : List Field) : (s.causeGone fs).phs = s.phs := by unfold State.causeGone; split; rfl; dsimp only; split <;> rfl
@[simp] theorem causeGone_pfl (s : State) (fs : List Field) : (s.causeGone fs).pfl = s.pfl := by unfold State.causeGone; split; rfl; dsimp only; split <;> rfl
@[simp] theorem causeGone_rmx (s : State) (fs : List Field) : (s.causeGone fs).rmx = s.rmx := by unfold State.causeGone; split; rfl; dsimp only; split <;> rfl
@[simp] theorem causeGone_dts (s : State) (fs : List Field) : (s.causeGone fs).dts = s.dts := by unfold State.causeGone; split; rfl; dsimp only; split <;> rfl
@[simp] theorem causeGone_aar (s : State) (fs : List Field) : (s.causeGone fs).aar = s.aar := by unfold State.causeGone; split; rfl; dsimp only; split <;> rfl
@[simp] theorem causeGone_zon (s : State) (fs : List Field) : (s.causeGone fs).zon = s.zon := by unfold State.causeGone; split; rfl; dsimp only; split <;> rfl
@[simp] theorem causeGone_gda (s : State) (fs : List Field) : (s.causeGone fs).gda = s.gda := by unfold State.causeGone; split; rfl; dsimp only; split <;> rfl
@[simp] theorem causeGone_gdb (s : State) (fs : List Field) : (s.causeGone fs).gdb = s.gdb := by unfold State.causeGone; split; rfl; dsimp only; split <;> rfl
@[simp] theorem causeGone_guards (s : State) (fs : List Field) : (s.causeGone fs).guards = s.guards := by unfold State.causeGone; split; rfl; dsimp only; split <;> rfl
@[simp] theorem causeGone_rng (s : State) (fs : List Field) : (s.causeGone fs).rng = s.rng := by unfold State.causeGone; split; rfl; dsimp only; split <;> rfl
@[simp] theorem causeGone_cmp (s : State) (fs : List Field) : (s.causeGone fs).cmp = s.cmp := by unfold State.causeGone; split; rfl; dsimp only; split <;> rfl
@[simp] theorem causeGone_cvu (s : State) (fs : List Field) : (s.causeGone fs).cvu = s.cvu := by unfold State.causeGone; split; rfl; dsimp only; split <;> rfl
@[simp] theorem causeGone_dmc (s : State) (fs : List Field) : (s.causeGone fs).dmc = s.dmc := by unfold State.causeGone; split; rfl; dsimp only; split <;> rfl
@[simp] theorem causeGone_ref (s : State) (fs : List Field) : (s.causeGone fs).ref = s.ref := by unfold State.causeGone; split; rfl; dsimp only; split <;> rfl
@[simp] theorem causeGone_tiu (s : State) (fs : List Field) : (s.causeGone fs).tiu = s.tiu := by unfold State.causeGone; split; rfl; dsimp only; split <;> rfl
@[simp] theorem causeGone_lan (s : State) (fs : List Field) : (s.causeGone fs).lan = s.lan := by unfold State.causeGone; split; rfl; dsimp only; split <;> rfl
@[simp] theorem causeGone_eth (s : State) (fs : List Field) : (s.causeGone fs).eth = s.eth := by unfold State.causeGone; split; rfl; dsimp only; split <;> rfl
@[simp] theorem causeGone_kpe (s : State) (fs : List Field) : (s.causeGone fs).kpe = s.kpe := by unfold State.causeGone; split; rfl; dsimp only; split <;> rfl
@[simp] theorem causeGone_mgc (s : State) (fs : List Field) : (s.causeGone fs).mgc = s.mgc := by unfold State.causeGone; split; rfl; dsimp only; split <;> rfl
@[simp] theorem causeGone_sns (s : State) (fs : List Field) : (s.causeGone fs).sns = s.sns := by unfold State.causeGone; split; rfl; dsimp only; split <;> rfl
@[simp] theorem causeGone_evr (s : State) (fs : List Field) : (s.causeGone fs).evr = s.evr := by unfold State.causeGone; split; rfl; dsimp only; split <;> rfl
@[simp] theorem causeGone_tim (s : State) (fs : List Field) : (s.causeGone fs).tim = s.tim := by unfold State.causeGone; split; rfl; dsimp only; split <;> rfl
@[simp] theorem causeGone_upd (s : State) (fs : List Field) : (s.causeGone fs).upd = s.upd := by unfold State.causeGone; split; rfl; dsimp only; split <;> rfl
@[simp] theorem causeGone_pwr (s : State) (fs : List Field) : (s.causeGone fs).pwr = s.pwr := by unfold State.causeGone; split; rfl; dsimp only; split <;> rfl
@[simp] theorem causeGone_fresh (s : State) (fs : List Field) : (s.causeGone fs).fresh = s.fresh := by unfold State.causeGone; split; rfl; dsimp only; split <;> rfl
@[simp] theorem causeGone_pending (s : State) (fs : List Field) : (s.causeGone fs).pending = s.pending := by unfold State.causeGone; split; rfl; dsimp only; split <;> rfl

/-! ### bumpBy -/
@[simp] theorem bumpBy_now (s : State) (f : Field) (n : Nat) : (s.bumpBy f n).now = s.now := wr_now _ _ _
@[simp] theorem bumpBy_mems (s : State) (f : Field) (n : Nat) : (s.bumpBy f n).mems = s.mems := wr_mems _ _ _
@[simp] theorem bumpBy_bus (s : State) (f : Field) (n : Nat) : (s.bumpBy f n).bus = s.bus := wr_bus _ _ _
@[simp] theorem bumpBy_chp (s : State) (f : Field) (n : Nat) : (s.bumpBy f n).chp = s.chp := wr_chp _ _ _
@[simp] theorem bumpBy_psq (s : State) (f : Field) (n : Nat) : (s.bumpBy f n).psq = s.psq := wr_psq _ _ _
@[simp] theorem bumpBy_psy (s : State) (f : Field) (n : Nat) : (s.bumpBy f n).psy = s.psy := wr_psy _ _ _
@[simp] theorem bumpBy_src (s : State) (f : Field) (n : Nat) : (s.bumpBy f n).src = s.src := wr_src _ _ _
@[simp] theorem bumpBy_occ (s : State) (f : Field) (n : Nat) : (s.bumpBy f n).occ = s.occ := wr_occ _ _ _
@[simp] theorem bumpBy_crx (s : State) (f : Field) (n : Nat) : (s.bumpBy f n).crx = s.crx := wr_crx _ _ _
@[simp] theorem bumpBy_cal (s : State) (f : Field) (n : Nat) : (s.bumpBy f n).cal = s.cal := wr_cal _ _ _
@[simp] theorem bumpBy_chn (s : State) (f : Field) (n : Nat) : (s.bumpBy f n).chn = s.chn := wr_chn _ _ _
@[simp] theorem bumpBy_pcm (s : State) (f : Field) (n : Nat) : (s.bumpBy f n).pcm = s.pcm := wr_pcm _ _ _
@[simp] theorem bumpBy_phs (s : State) (f : Field) (n : Nat) : (s.bumpBy f n).phs = s.phs := wr_phs _ _ _
@[simp] theorem bumpBy_pfl (s : State) (f : Field) (n : Nat) : (s.bumpBy f n).pfl = s.pfl := wr_pfl _ _ _
@[simp] theorem bumpBy_rmx (s : State) (f : Field) (n : Nat) : (s.bumpBy f n).rmx = s.rmx := wr_rmx _ _ _
@[simp] theorem bumpBy_dts (s : State) (f : Field) (n : Nat) : (s.bumpBy f n).dts = s.dts := wr_dts _ _ _
@[simp] theorem bumpBy_aar (s : State) (f : Field) (n : Nat) : (s.bumpBy f n).aar = s.aar := wr_aar _ _ _
@[simp] theorem bumpBy_zon (s : State) (f : Field) (n : Nat) : (s.bumpBy f n).zon = s.zon := wr_zon _ _ _
@[simp] theorem bumpBy_gda (s : State) (f : Field) (n : Nat) : (s.bumpBy f n).gda = s.gda := wr_gda _ _ _
@[simp] theorem bumpBy_gdb (s : State) (f : Field) (n : Nat) : (s.bumpBy f n).gdb = s.gdb := wr_gdb _ _ _
@[simp] theorem bumpBy_guards (s : State) (f : Field) (n : Nat) : (s.bumpBy f n).guards = s.guards := wr_guards _ _ _
@[simp] theorem bumpBy_rng (s : State) (f : Field) (n : Nat) : (s.bumpBy f n).rng = s.rng := wr_rng _ _ _
@[simp] theorem bumpBy_cmp (s : State) (f : Field) (n : Nat) : (s.bumpBy f n).cmp = s.cmp := wr_cmp _ _ _
@[simp] theorem bumpBy_cvu (s : State) (f : Field) (n : Nat) : (s.bumpBy f n).cvu = s.cvu := wr_cvu _ _ _
@[simp] theorem bumpBy_dmc (s : State) (f : Field) (n : Nat) : (s.bumpBy f n).dmc = s.dmc := wr_dmc _ _ _
@[simp] theorem bumpBy_ref (s : State) (f : Field) (n : Nat) : (s.bumpBy f n).ref = s.ref := wr_ref _ _ _
@[simp] theorem bumpBy_tiu (s : State) (f : Field) (n : Nat) : (s.bumpBy f n).tiu = s.tiu := wr_tiu _ _ _
@[simp] theorem bumpBy_lan (s : State) (f : Field) (n : Nat) : (s.bumpBy f n).lan = s.lan := wr_lan _ _ _
@[simp] theorem bumpBy_eth (s : State) (f : Field) (n : Nat) : (s.bumpBy f n).eth = s.eth := wr_eth _ _ _
@[simp] theorem bumpBy_kpe (s : State) (f : Field) (n : Nat) : (s.bumpBy f n).kpe = s.kpe := wr_kpe _ _ _
@[simp] theorem bumpBy_mgc (s : State) (f : Field) (n : Nat) : (s.bumpBy f n).mgc = s.mgc := wr_mgc _ _ _
@[simp] theorem bumpBy_sns (s : State) (f : Field) (n : Nat) : (s.bumpBy f n).sns = s.sns := wr_sns _ _ _
@[simp] theorem bumpBy_evr (s : State) (f : Field) (n : Nat) : (s.bumpBy f n).evr = s.evr := wr_evr _ _ _
@[simp] theorem bumpBy_tim (s : State) (f : Field) (n : Nat) : (s.bumpBy f n).tim = s.tim := wr_tim _ _ _
@[simp] theorem bumpBy_upd (s : State) (f : Field) (n : Nat) : (s.bumpBy f n).upd = s.upd := wr_upd _ _ _
@[simp] theorem bumpBy_pwr (s : State) (f : Field) (n : Nat) : (s.bumpBy f n).pwr = s.pwr := wr_pwr _ _ _
@[simp] theorem bumpBy_fresh (s : State) (f : Field) (n : Nat) : (s.bumpBy f n).fresh = s.fresh := wr_fresh _ _ _
@[simp] theorem bumpBy_pending (s : State) (f : Field) (n : Nat) : (s.bumpBy f n).pending = s.pending := wr_pending _ _ _

/-! ### bump -/
@[simp] theorem bump_now (s : State) (f : Field) : (s.bump f).now = s.now := wr_now _ _ _
@[simp] theorem bump_mems (s : State) (f : Field) : (s.bump f).mems = s.mems := wr_mems _ _ _
@[simp] theorem bump_bus (s : State) (f : Field) : (s.bump f).bus = s.bus := wr_bus _ _ _
@[simp] theorem bump_chp (s : State) (f : Field) : (s.bump f).chp = s.chp := wr_chp _ _ _
@[simp] theorem bump_psq (s : State) (f : Field) : (s.bump f).psq = s.psq := wr_psq _ _ _
@[simp] theorem bump_psy (s : State) (f : Field) : (s.bump f).psy = s.psy := wr_psy _ _ _
@[simp] theorem bump_src (s : State) (f : Field) : (s.bump f).src = s.src := wr_src _ _ _
@[simp] theorem bump_occ (s : State) (f : Field) : (s.bump f).occ = s.occ := wr_occ _ _ _
@[simp] theorem bump_crx (s : State) (f : Field) : (s.bump f).crx = s.crx := wr_crx _ _ _
@[simp] theorem bump_cal (s : State) (f : Field) : (s.bump f).cal = s.cal := wr_cal _ _ _
@[simp] theorem bump_chn (s : State) (f : Field) : (s.bump f).chn = s.chn := wr_chn _ _ _
@[simp] theorem bump_pcm (s : State) (f : Field) : (s.bump f).pcm = s.pcm := wr_pcm _ _ _
@[simp] theorem bump_phs (s : State) (f : Field) : (s.bump f).phs = s.phs := wr_phs _ _ _
@[simp] theorem bump_pfl (s : State) (f : Field) : (s.bump f).pfl = s.pfl := wr_pfl _ _ _
@[simp] theorem bump_rmx (s : State) (f : Field) : (s.bump f).rmx = s.rmx := wr_rmx _ _ _
@[simp] theorem bump_dts (s : State) (f : Field) : (s.bump f).dts = s.dts := wr_dts _ _ _
@[simp] theorem bump_aar (s : State) (f : Field) : (s.bump f).aar = s.aar := wr_aar _ _ _
@[simp] theorem bump_zon (s : State) (f : Field) : (s.bump f).zon = s.zon := wr_zon _ _ _
@[simp] theorem bump_gda (s : State) (f : Field) : (s.bump f).gda = s.gda := wr_gda _ _ _
@[simp] theorem bump_gdb (s : State) (f : Field) : (s.bump f).gdb = s.gdb := wr_gdb _ _ _
@[simp] theorem bump_guards (s : State) (f : Field) : (s.bump f).guards = s.guards := wr_guards _ _ _
@[simp] theorem bump_rng (s : State) (f : Field) : (s.bump f).rng = s.rng := wr_rng _ _ _
@[simp] theorem bump_cmp (s : State) (f : Field) : (s.bump f).cmp = s.cmp := wr_cmp _ _ _
@[simp] theorem bump_cvu (s : State) (f : Field) : (s.bump f).cvu = s.cvu := wr_cvu _ _ _
@[simp] theorem bump_dmc (s : State) (f : Field) : (s.bump f).dmc = s.dmc := wr_dmc _ _ _
@[simp] theorem bump_ref (s : State) (f : Field) : (s.bump f).ref = s.ref := wr_ref _ _ _
@[simp] theorem bump_tiu (s : State) (f : Field) : (s.bump f).tiu = s.tiu := wr_tiu _ _ _
@[simp] theorem bump_lan (s : State) (f : Field) : (s.bump f).lan = s.lan := wr_lan _ _ _
@[simp] theorem bump_eth (s : State) (f : Field) : (s.bump f).eth = s.eth := wr_eth _ _ _
@[simp] theorem bump_kpe (s : State) (f : Field) : (s.bump f).kpe = s.kpe := wr_kpe _ _ _
@[simp] theorem bump_mgc (s : State) (f : Field) : (s.bump f).mgc = s.mgc := wr_mgc _ _ _
@[simp] theorem bump_sns (s : State) (f : Field) : (s.bump f).sns = s.sns := wr_sns _ _ _
@[simp] theorem bump_evr (s : State) (f : Field) : (s.bump f).evr = s.evr := wr_evr _ _ _
@[simp] theorem bump_tim (s : State) (f : Field) : (s.bump f).tim = s.tim := wr_tim _ _ _
@[simp] theorem bump_upd (s : State) (f : Field) : (s.bump f).upd = s.upd := wr_upd _ _ _
@[simp] theorem bump_pwr (s : State) (f : Field) : (s.bump f).pwr = s.pwr := wr_pwr _ _ _
@[simp] theorem bump_fresh (s : State) (f : Field) : (s.bump f).fresh = s.fresh := wr_fresh _ _ _
@[simp] theorem bump_pending (s : State) (f : Field) : (s.bump f).pending = s.pending := wr_pending _ _ _

end Sys2Proof.Laws
end

