-- ==== Sys2Proof/Laws/Regs.lean ====
section
/-! SUPPORT. Register words and fields: what a write, a count and an event leave in each word. -/

namespace Sys2Proof.Laws

open Sys2Proof.Machine Sys2Proof.Safety

/-! ### Live words -/

theorem live_setLive {s : State} (h : storeWf s.regs.live = true) (a b : Nat) (v : Word) :
    (s.setLive a v).live b = if b = a then v else s.live b := by
  unfold State.live State.setLive
  simp only [get_set h]
  split
  · subst_vars; rw [BitVec.xor_assoc, BitVec.xor_self, BitVec.xor_zero]
  · rfl

theorem wf_setLive {s : State} (h : storeWf s.regs.live = true) (a : Nat) (v : Word) :
    storeWf (s.setLive a v).regs.live = true := storeWf_set h _ _

theorem wf_wr {s : State} (h : storeWf s.regs.live = true) (f : Field) (v : Nat) : storeWf (s.wr f v).regs.live = true := by
  unfold State.wr
  split
  · exact wf_setLive h _ _
  · exact wf_setLive (wf_setLive h _ _) _ _

theorem wf_bump {s : State} (h : storeWf s.regs.live = true) (f : Field) : storeWf (s.bump f).regs.live = true := wf_wr h f _

theorem wf_event {s : State} (h : storeWf s.regs.live = true) (fs : List Field) :
    storeWf (s.event fs).regs.live = true := by
  unfold State.event
  split
  · exact h
  · exact wf_setLive h _ _

@[simp] theorem tuned_setLive (s : State) (a b : Nat) (v : Word) : (s.setLive a v).tuned b = s.tuned b := rfl

@[simp] theorem tuned_wr (s : State) (f : Field) (v b : Nat) : (s.wr f v).tuned b = s.tuned b := by
  unfold State.wr; split <;> rfl

@[simp] theorem tuned_event (s : State) (fs : List Field) (b : Nat) : (s.event fs).tuned b = s.tuned b := by
  unfold State.event; split <;> rfl

/-! ### Fields -/

/-- A bit of a field's mask. -/
theorem mask_bit (f : Field) (hw : f.lo + f.width ≤ 32) (i : Nat) :
    f.mask.getLsbD i = (decide (f.lo ≤ i) && decide (i < f.lo + f.width)) := by
  unfold Field.mask
  rw [BitVec.getLsbD_ofNat, Nat.testBit_mul_two_pow, Nat.testBit_two_pow_sub_one]
  by_cases h1 : i < 32 <;> by_cases h2 : f.lo ≤ i <;> by_cases h3 : i < f.lo + f.width <;> simp [h1, h2, h3] <;> omega

/-- A bit of a word after a field is put into it. -/
theorem put_bit (f : Field) (hw : f.lo + f.width ≤ 32) (w : Word) (v i : Nat) :
    (f.put w v).getLsbD i =
      if f.lo ≤ i ∧ i < f.lo + f.width then v.testBit (i - f.lo) else w.getLsbD i := by
  unfold Field.put
  rw [BitVec.getLsbD_or, BitVec.getLsbD_and, BitVec.getLsbD_not, mask_bit f hw, BitVec.getLsbD_ofNat,
    Nat.testBit_mul_two_pow, Nat.testBit_mod_two_pow]
  by_cases h1 : i < 32
  · by_cases h2 : f.lo ≤ i <;> by_cases h3 : i < f.lo + f.width
    · have : i - f.lo < f.width := by omega
      simp [h1, h2, h3, this]
    · have : ¬ i - f.lo < f.width := by omega
      simp [h1, h2, h3, this]
    · simp [h1, h2, h3]
    · simp [h1, h2, h3]
  · have h3 : ¬ i < f.lo + f.width := by omega
    simp [h1, h3, BitVec.getLsbD_of_ge w i (by omega)]

/-- A field narrower than a word, bit by bit. -/
theorem read_bit (f : Field) (hw : f.lo + f.width ≤ 32) (g : Nat → Word) (i : Nat) :
    (f.read g).testBit i = (decide (i < f.width) && (g f.addr).getLsbD (f.lo + i)) := by
  unfold Field.read
  rw [if_pos hw, Nat.testBit_mod_two_pow, Nat.testBit_div_two_pow, Nat.add_comm i f.lo]
  rfl

/-- A field reads as what was put into it. -/
theorem read_put (f : Field) (hw : f.lo + f.width ≤ 32) (g : Nat → Word) (w : Word) (v : Nat) (hg : g f.addr = f.put w v) :
    f.read g = v % 2 ^ f.width := by
  apply Nat.eq_of_testBit_eq
  intro i
  rw [read_bit f hw, hg, put_bit f hw, Nat.testBit_mod_two_pow]
  by_cases h : i < f.width
  · simp [h]
  · simp [h]

/-- A field reads the same in two sets of words that agree on its word. -/
theorem read_congr (f : Field) (hw : f.lo + f.width ≤ 32) (g g' : Nat → Word) (h : g f.addr = g' f.addr) :
    f.read g = f.read g' := by unfold Field.read; rw [if_pos hw, if_pos hw, h]

/-! ### Live fields -/

variable {s : State}

theorem live_wr (h : storeWf s.regs.live = true) (f : Field) (hw : f.lo + f.width ≤ 32) (v b : Nat) :
    (s.wr f v).live b = if b = f.addr then f.put (s.live f.addr) v else s.live b := by
  unfold State.wr
  rw [if_pos hw, live_setLive h]

theorem rd_live (s : State) {f : Field} (ht : f.tuned = false) : s.rd f = f.read s.live := by
  unfold State.rd
  simp only [ht, Bool.false_eq_true, if_false]

/-- A field written reads as the number written, cut to its width. -/
theorem rd_wr (h : storeWf s.regs.live = true) (f : Field) (ht : f.tuned = false) (hw : f.lo + f.width ≤ 32) (v : Nat) :
    (s.wr f v).rd f = v % 2 ^ f.width := by
  rw [rd_live _ ht]
  exact read_put f hw _ (s.live f.addr) v (by rw [live_wr h f hw, if_pos rfl])

/-- A field of another word reads as before. -/
theorem rd_wr_other (h : storeWf s.regs.live = true) (f g : Field) (hf : f.lo + f.width ≤ 32) (hg : g.lo + g.width ≤ 32)
    (ha : g.tuned = true ∨ g.addr ≠ f.addr) (v : Nat) : (s.wr f v).rd g = s.rd g := by
  unfold State.rd
  split
  · exact read_congr g hg _ _ (by simp)
  · refine read_congr g hg _ _ ?_
    rw [live_wr h f hf, if_neg (by simp_all)]

/-- A field below 2 to its width. -/
theorem rd_lt (s : State) (f : Field) : s.rd f < 2 ^ f.width := by
  unfold State.rd Field.read
  split <;> split <;> exact Nat.mod_lt _ (Nat.two_pow_pos _)

/-- A counter goes up by one and stops at its greatest number. -/
theorem rd_bump (h : storeWf s.regs.live = true) (f : Field) (ht : f.tuned = false) (hw : f.lo + f.width ≤ 32) :
    (s.bump f).rd f = min (s.rd f + 1) (2 ^ f.width - 1) := by
  unfold State.bump State.bumpBy
  rw [rd_wr h f ht hw, Nat.mod_eq_of_lt]
  have := Nat.two_pow_pos f.width
  omega

theorem live_event (h : storeWf s.regs.live = true) (f : Field) (fs : List Field) (b : Nat) :
    (s.event (f :: fs)).live b =
      if b = f.addr then stBump (s.live f.addr) (if s.bySequence then flagMask (f :: fs) else 0) else s.live b := by
  unfold State.event
  rw [live_setLive h]

theorem rd_event_other (h : storeWf s.regs.live = true) (f g : Field) (fs : List Field) (hg : g.lo + g.width ≤ 32)
    (ha : g.tuned = true ∨ g.addr ≠ f.addr) : (s.event (f :: fs)).rd g = s.rd g := by
  unfold State.rd
  split
  · exact read_congr g hg _ _ (by simp)
  · refine read_congr g hg _ _ ?_
    rw [live_event h, if_neg (by simp_all)]

/-- In SERVICE an event's flag reads one. -/
theorem event_bit (h : storeWf s.regs.live = true) (f : Field) (hs : s.bySequence = true) (ht : f.tuned = false) (hf : f.width = 1)
    (hl : f.lo < 24) : (s.event [f]).rd f = 1 := by
  rw [rd_live _ ht]
  apply Nat.eq_of_testBit_eq
  intro i
  rw [read_bit f (by omega), live_event h, if_pos rfl, hs, if_pos rfl, hf]
  have h1 : Nat.testBit 1 i = decide (0 = i) := by simpa using Nat.testBit_two_pow (n := 0) (m := i)
  rw [h1]
  by_cases hi : i = 0
  · subst hi
    have hm : f.mask.getLsbD f.lo = true := by rw [mask_bit f (by omega)]; simp; omega
    have hb : (16777215#32).getLsbD f.lo = true := by
      have : (16777215#32) = BitVec.ofNat 32 (2 ^ 24 - 1) := rfl
      rw [this, BitVec.getLsbD_ofNat, Nat.testBit_two_pow_sub_one]
      simp; omega
    simp [stBump, flagMask, hm, hb]
  · have : ¬ i < 1 := by omega
    simp [this]
    omega

/-! ### Frames -/

theorem onlyWords_refl (as : List Nat) (s : State) : onlyWords as s s :=
  ⟨fun _ _ => ⟨rfl, rfl⟩, rfl, rfl, rfl, rfl⟩

theorem onlyWords_trans {as : List Nat} {s t u : State} (h : onlyWords as s t) (h' : onlyWords as t u) : onlyWords as s u :=
  ⟨fun a ha => ⟨(h'.1 a ha).1.trans (h.1 a ha).1, (h'.1 a ha).2.trans (h.1 a ha).2⟩,
    h'.2.1.trans h.2.1, h'.2.2.1.trans h.2.2.1, h'.2.2.2.1.trans h.2.2.2.1, h'.2.2.2.2.trans h.2.2.2.2⟩

/-- The same register words: nothing differs. -/
theorem onlyWords_of_regs {as : List Nat} {s t u : State} (h : onlyWords as s t) (hr : u.regs = t.regs) : onlyWords as s u := by
  unfold onlyWords State.live at *
  rw [hr]
  exact h

theorem onlyWords_wr {as : List Nat} {s t : State} (h : onlyWords as s t) (hs : storeWf t.regs.live = true) (f : Field) (v : Nat)
    (hf : f.lo + f.width ≤ 32) (ha : f.addr ∈ as) : onlyWords as s (t.wr f v) := by
  refine onlyWords_trans h ⟨fun a h' => ⟨?_, ?_⟩, ?_, ?_, ?_, ?_⟩
  · rw [live_wr hs f hf, if_neg (by rintro rfl; exact h' ha)]
  all_goals unfold State.wr; split <;> rfl

theorem onlyWords_bump {as : List Nat} {s t : State} (h : onlyWords as s t) (hs : storeWf t.regs.live = true) (f : Field)
    (hf : f.lo + f.width ≤ 32) (ha : f.addr ∈ as) : onlyWords as s (t.bump f) := onlyWords_wr h hs f _ hf ha

theorem onlyWords_event {as : List Nat} {s t : State} (h : onlyWords as s t) (hs : storeWf t.regs.live = true) (f : Field)
    (fs : List Field) (ha : f.addr ∈ as) : onlyWords as s (t.event (f :: fs)) := by
  refine onlyWords_trans h ⟨fun a h' => ⟨?_, ?_⟩, ?_, ?_, ?_, ?_⟩
  · rw [live_event hs, if_neg (by rintro rfl; exact h' ha)]
  all_goals rfl

end Sys2Proof.Laws
end

