-- ==== Sys2Proof/Tests/Slice0.lean ====
section
/-! SUPPORT. Tests: states and operands that meet the hypotheses of the statements, operands that name nothing, and worked figures of the spec. -/

open Sys2Proof Sys2Proof.Machine Sys2Proof.Safety

namespace Sys2Proof.Tests

set_option Elab.async false

/-- The part in SERVICE, nothing running. -/
def svc : State :=
  { State.reset with
    chp := { State.reset.chp with mode := .service }
    pwr := { State.reset.pwr with inReset := false, aonUp := true } }

/-- `svc` with the tab running and the word `w` next; nothing else in the tab. -/
def tab (w : Nat) : State :=
  { svc with
    psq := { svc.psq with state := .running, period := 100 }
    mems := { svc.mems with act := Store.setWord [] tabBase (BitVec.ofNat 32 w) } }

/-- The machine at the instant at which that word issues. -/
def tabAt (s : State) : State := match s.nextFetch with
  | some t => (s.atT t).tuneIfDue
  | none => s

/-- `s` with tuned words. -/
def tunedTo (s : State) (ws : List (Nat × Word)) : State :=
  { s with regs := { s.regs with tuned := ws.foldl (fun st x => Store.set st x.1 (x.2 ^^^ Reg.resetWord x.1)) s.regs.tuned } }

/-- `s` with live words. -/
def liveTo (s : State) (ws : List (Nat × Word)) : State := ws.foldl (fun s x => s.setLive x.1 x.2) s
/-- SAFE since the instant 5. -/
def inSafe : State := { svc with chp := { svc.chp with safe := true, safeSince := 5, errSeen := true } }

/-- PHS restarts and has until 100. -/
def restartingPhs : State :=
  { svc with chp := { svc.chp with isolated := [{ block := .phs, unit := none, deadline := some 100 }] } }

/-- TEST. -/
def inTest : State := { svc with chp := { svc.chp with mode := .test } }

/-- An injection of REF, cause 3, waits. -/
def injected : State := { inTest with chp := { inTest.chp with inject := some (5 * 2 ^ 13 + 2 * 2 ^ 8 + 3) } }

/-- A snapshot is requested, is being taken (SNAP_SEQ 1), or is held (SNAP_SEQ 0). -/
def snapping (req busy held : Option Nat) : State :=
  (liveTo { svc with chp := { svc.chp with snapReq := req, snapBusy := busy, snapHeld := held } } (if busy.isSome then [(0x58, 1#32)] else []))

/-- The stage in a state. -/
def staged (x : StageState) : State := { svc with chp := { svc.chp with stage := x } }

/-- A mode. -/
def inMode (m : Mode) : State := { svc with chp := { svc.chp with mode := m } }

/-- A Retune is due at the boundary of sweep 0. -/
def retuneDue : State :=
  { tab 0 with
    chp := { svc.chp with stage := .pending, armed := some (.next 0), retuneDue := some 0 }
    regs := { svc.regs with stage := [(0x100014, 0x30002#32)] } }

/-- PREP, its steps complete. -/
def prepDone : State :=
  { inMode .prep with
    chp := { svc.chp with mode := .prep, stage := .checked }
    pwr := { svc.pwr with prepPassed := 7 } }

/-- A confirmation of sweep 0 in sweep 2. -/
def overdue : State :=
  liveTo { svc with chp := { svc.chp with confirms := [{ block := .chn, lastSweep := some 0 }] } } [(0x100028, 2#32)]

/-- Register words as a bank holds them. -/
def bank (ws : List (Nat × Word)) : Store 32 := ws.foldl (fun st x => Store.set st x.1 (x.2 ^^^ Reg.resetWord x.1)) []

/-- CHECKING a tuning that fails no check but, where a bridge's capacity says so, CK23: one HALT, a long PERIOD and no taps. -/
def checkable : State :=
  { staged .checking with
    regs := { svc.regs with stage := bank [(0x100018, 1#32), (0x100010, 2000#32), (0x230004, 0x777#32)] }
    mems := { svc.mems with stage := Store.setWord [] tabBase 0xFC000000#32 } }
/-- The row of the register at an active address. -/
def rowOf (a : Nat) : RegRow := (Reg.rowAt a).getD ⟨0, [], false, 0, []⟩
/-- A word of the tab after `n` ticks. -/
def tabLate (w n : Nat) : State := { tab w with psq := { (tab w).psq with issue := n } }

/-- DJNZ of counter 2 to 9, which holds `n`. -/
def tabLoop (n : BitVec 16) : State :=
  { tab (0x11 * 2 ^ 26 + 2 * 2 ^ 16 + 9) with psq := { (tab 0).psq with loops := [0, 0, n, 0] } }

/-- FIRE of slot 5, shape 3, sub-tick 2, slot 5 active or not. -/
def fire5 (on : Bool) : State :=
  tunedTo (tab (4 * 2 ^ 26 + 5 * 2 ^ 23 + 3 * 2 ^ 19 + 2 * 2 ^ 16)) (if on then [(0x110014, 0x80000000#32)] else [])

/-- The first SWB after START. -/
def tabFirst (w : Nat) : State := { tab w with psq := { (tab w).psq with first := true } }

/-- An SWB of pattern 7 waits at tick 100. -/
def swb (f : Bool) : State :=
  { svc with psq := { svc.psq with state := .running, period := 100, wait := some { pat := 7, tick := 100, follower := f } } }

/-- A follower that has had no edge. -/
def follower : State :=
  { tunedTo svc [(0x10001C, 2#32)] with psq := { svc.psq with state := .running, period := 400 } }

/-- Both guards ARMED, slot 5 active, shape 3 a pulse of 100 samples. -/
def lit : State :=
  { tunedTo svc [(0x110014, 0x80000000#32)] with
    gda := { svc.gda with state := .armed }, gdb := { svc.gdb with state := .armed }
    mems := { svc.mems with act := Store.setWord [] (shapeBase + 3 * 0x1000 + 4) 100#32 } }

/-- A pluck of slot 5 with shape 3. -/
def pluck5 (fired : Bool) : Pluck :=
  { slot := 5, shape := 3, scale := 200, gateAt := 10, fireAt := 20, closeAt := 30, windowEnd := 40, fired := fired, restart := false }

/-- That pluck under way. -/
def plucked (fired : Bool) : State := { lit with psq := { lit.psq with pluck := some (pluck5 fired) } }

/-- The SWB that waits in `swb`. -/
def swb7 (f : Bool) : SwbWait := { pat := 7, tick := 100, follower := f }

/-- A halt is to be taken at that SWB. -/
def swbHalt : State := { swb false with psq := { (swb false).psq with haltAtSwb := some .sweepCmd } }

/-- A gate of the tab open from 10 to 40. -/
def gated : State := { svc with psq := { svc.psq with gate := some (10, 40) } }

/-- A probe of slot 2 that has been emitted at 40. -/
def probe2 : Probe := { slot := 2, pluck := false, kindWord := 0, width := 5, len := 0, bw := 0, amp := 0, phase := 0, wtab := [], scale := 256, fireAt := 10, endAt := 40 }

/-- That probe alone. -/
def probed : State := { svc with psq := { svc.psq with probes := [probe2] } }

/-- A look of slot 2 whose window ends at 40. -/
def look2 : Look := { sweep := 1, slot := 2, shape := 0, pat := 0, fireT := 0, fireAt := 10, windowEnd := 40, emitEnd := 20, offset := 0 }

/-- That look alone. -/
def looked : State := { svc with psq := { svc.psq with looks := [look2] } }
/-- Stage 1 enabled, the light on, and the stage as given. -/
def stage1 (x : SrcStage) : State :=
  { tunedTo lit [(0x120140, 1#32), (0x120150, 0x80000000#32), (0x120154, 0x03000100#32)] with
    src := { lit.src with stages := lit.src.stages.set 1 x } }

/-- A chain of three drivers, refreshed every sweep. -/
def chain (x : StageState) : State :=
  tunedTo { svc with
    chp := { svc.chp with stage := x }
    regs := { svc.regs with stage := bank [(0x130000, 0x10003#32)] }
    occ := { svc.occ with sinceLatch := 2 } } [(0x130000, 0x10003#32)]

/-- A frame of three drivers has been shifted; `back` comes back. -/
def shifted (back : List (BitVec 16)) : State :=
  { chain .clean with occ := { svc.occ with shifting := some (.refresh, [1, 2, 3]), shifted := some back } }

/-- That frame is verified. -/
def verifiedFrame : State :=
  { chain .clean with occ := { svc.occ with verified := some .refresh, shifted := some [1, 2, 3] } }

/-- The chain is to be preloaded. -/
def preloadDue : State := { chain .checking with occ := { svc.occ with preloadWanted := true } }
/-- In bin 3 of a sweep that began at 0, with codes 7 and 6 scheduled there, a lowered entry and AUTO on. -/
def bin3 : State :=
  { tunedTo svc [(0x140000, 1#32), (0x141000, 0x7000#32), (0x141800, 0x6000#32)] with
    guards := { svc.guards with lastBoundary := some (0, 0, 100, 0) }
    crx := { svc.crx with gx := 4, gy := 3, lowered := [{ pol := .x, bin := 3, code := 5, clean := 9 }] } }

/-- Calibration runs, both guards ARMED and the light on. -/
def calRuns : State :=
  { liveTo lit [(0x160000, 3#32), (0x160008, 0x0140#32)] with guards := { lit.guards with darkSince := none } }

/-- A tone calibration since the instant 5. -/
def toneRuns : State := { inTest with cal := { inTest.cal with skewCal := some 5 } }
/-- A look of slot 2 in sweep 5, a pluck's or not, fired at 1000. -/
def look5 (pl : Bool) : Look := { sweep := 5, slot := 2, shape := 3, pat := 0, fireT := 77, fireAt := 1000, windowEnd := 10 ^ 9, emitEnd := 2000, offset := 0, pluck := pl }

/-- That look in the tab, in sweeps of 100 ticks, a gauge of 2, positions 4 to 6, slot 2 active. -/
def looking (pl : Bool) : State :=
  { tunedTo svc [(0x100010, 100#32), (0x220004, 2#32), (0x220010, 0#32), (0x220000, 0x00060004#32), (0x110008, 0x80000000#32)] with
    psq := { svc.psq with looks := [look5 pl] } }

/-- The same with shape 3 chirped. -/
def chirping (pl : Bool) : State :=
  { looking pl with mems := { svc.mems with act := Store.setWord (Store.setWord [] (shapeBase + 3 * 0x1000) 1#32) (shapeBase + 3 * 0x1000 + 8) 3#32 } }

/-- A sample of that look at position p. -/
def sample5 (p : Nat) (pl touched : Bool) : SlotSample :=
  { sweep := 5, slot := 2, pluck := pl, p := p, xr := 20000, xi := -50, yr := 3000, yi := 7, gx := 7, gy := 7, touched := touched, arrivedAt := 9 }

/-- Two samples of it wait for compression. -/
def compressing (pl : Bool) : State := { chirping pl with chn := { svc.chn with samples := [sample5 4 pl false, sample5 5 pl true] } }

/-- A seeded position 5. -/
def seated5 : PosState := { pos := 5, s := 0x1234, seeded := true, inc := 6, fresh := false, slots := List.replicate 8 { seeded := true, m := 1, sk := 0x1200, o := 300 } }

/-- The sample at position 5 has come to PHS, with the phase a gauge back. -/
def positioned (pl touched : Bool) : State :=
  { looking pl with
    pcm := { outs := [sample5 5 pl touched] }
    phs := { svc.phs with pos := [seated5], phases := [(5, 2, 3, 0x100)] } }

/-- An earlier look's sample still waits. -/
def behind : State :=
  { positioned false false with
    psq := { svc.psq with looks := [{ look5 false with slot := 1, fireAt := 900 }, look5 false] }
    pcm := { outs := [sample5 5 false false, { sample5 5 false false with slot := 1 }] } }

/-- Three position samples of one look wait for PFL, with the FULL tap of the ring on. -/
def filtered : State :=
  { looking false with
    phs := { svc.phs with out := (List.range 3).map (fun i => { sweep := 5, slot := 2, pos := 4 + i, fireT := 77, value := 9, reset := i == 1, dark := false, isPartial := false, late := false, collided := false }) } }

/-- The median of 5, with two looks taken and a halt. -/
def flushing : State :=
  { tunedTo svc [(0x230000, 2#32), (0x220000, 0x00060004#32)] with
    pfl := { svc.pfl with
      haltReported := true
      looks := [{ count := 8, sweep := 5, slot := 2, fireT := 1, firedAt := 2, isPartial := false, late := false, dark := false },
        { count := 7, sweep := 5, slot := 1, fireT := 1, firedAt := 1, isPartial := false, late := false, dark := false }]
      pos := [{ pos := 4, window := [{ value := 5 }, { value := 6 }] }, { pos := 5, window := [{ value := 5 }, { value := 6 }] }, { pos := 6 }] } }

/-- Raman on, END 2, one sweep of it fired long ago; the APD stage healthy or off. -/
def raman (ok : Bool) : State :=
  let b := tunedTo lit [(0x120200, 1#32), (0x150000, 1#32), (0x240000, 0x0A01#32), (0x220000, 0x00020001#32), (0x110014, 0x80000000#32)]
  { liveTo b [(0x100028, 5#32)] with
    rmx := { svc.rmx with triggers := [(10 ^ 6, 5)] }
    guards := { lit.guards with darkSince := none, lastBoundary := some (900, 1, 100, 5) }
    src := { b.src with stages := if ok then b.src.stages.set 4 { running := true, winEnded := true, proven := true } else b.src.stages }
    dts := { svc.dts with active := true, blk := { block := 0, m := 3 } } }

/-- A block to convert. -/
def unloaded : State :=
  { raman true with dts := { svc.dts with unload := [{ blk := { block := 2, m := 1024, acc0 := [9,9,9,9,9,9], acc1 := [8,8,8,8,8,8] }, a := 10, old := false, gamma := 5, c0 := 6, lastSweep := 3071, deadline := 40 }] } }
/-- An instruction word from its fields. -/
def aw (op d a b c mode sh hi lo : Nat) : BitVec 64 :=
  BitVec.ofNat 64 (op * 2 ^ 56 + d * 2 ^ 52 + a * 2 ^ 48 + b * 2 ^ 44 + c * 2 ^ 40 + mode * 2 ^ 36 + sh * 2 ^ 32 + hi * 2 ^ 16 + lo)

/-- Core 5 of `svc` as given. -/
def withCore (s : State) (c : AarCore) : State := { s with aar := { s.aar with cores := s.aar.cores.set 5 c } }

/-- Scalars: S1 = 0x100, S2 = −3, S3 = 0x40000, S4 = 2, S5 = 16, S6 = 0x200, S7 = 0. -/
def scalars : List (BitVec 32) := [0, 0x100, 0xFFFFFFFD, 0x40000, 2, 16, 0x200, 0, 0x7FFFFFFF, 0, 0, 0, 0, 0, 0, 0]

/-- A core at address 10 of its program in a TILE run of frame 7, with registers and memory. -/
def tileCore : AarCore :=
  { state := .running, run := .tile, pc := 10, s := scalars, cyc := 20, icnt := 9, needInit := false
    v := (List.replicate 16 (List.replicate 4 (0, 0))).set 1 [(0x7FFF, 0x8000), (1, 2), (3, 4), (0x4000, 0x4000)] |>.set 2
      [(0x7FFF, 0x7FFF), (5, 0xFFFA), (7, 8), (0x4000, 0xC000)]
    accRe := [2 ^ 47 - 5, -7, 0, 9], accIm := [1, 2, 3, -(2 ^ 47) + 1]
    mem := (List.range 32).map (fun i => (0x100 + i, BitVec.ofNat 8 (255 - 7 * i)))
    frame := some { k := 7, readyAt := 1000, time := 55, rates := [], rateValid := 0 } }

/-- That core with a word at its address. -/
def running (w : BitVec 64) (c : AarCore) : State :=
  let a := codeBase + 5 * 0x8000 + 80
  withCore { svc with mems := { svc.mems with
    act := Store.setWord (Store.setWord [] a (w.setWidth 32)) (a + 4) ((w >>> 32).setWidth 32) } } c

/-- The machine when that word issues. -/
def issued (w : BitVec 64) (c : AarCore) : State :=
  (running w c).atT (1000 + 1000 * issueAt (aarUse (aarFields w) (aarCycles (aarFields w) (c.count (aarFields w).c (aarFields w).hi).1)) c.cyc c.sReady c.vReady c.accReady)

/-- Core 5 enabled on tap A (FULL, L = 2), patch groups 1 to 2 in tiles of one group, buffers at 0x1000 and 0x2000, header at 0x40. -/
def framing (c : AarCore) : State :=
  let b := tunedTo svc [(0x230004, 0#32), (0x250000, 1#32), (0x250540, 0x00000101#32), (0x250544, 0x00020001#32), (0x25054C, 0x00200010#32),
    (0x250550, 0x30#32), (0x250554, 0x00800040#32), (0x250558, 1#32), (0x250548, 0x00010302#32)]
  withCore { b with aar := { b.aar with
    stageA := [{ j := 15, sweep := 9, isPartial := false, late := false, dark := false, samples := [(32, 0x1111, 0), (40, 0x2222, 0)] },
      { j := 14, sweep := 9, isPartial := false, late := false, dark := false, samples := [(32, 0x3333, 0), (63, 0x4444, 0)] }] } } c

/-- Frame 7. -/
def frame7 : FrameRef := { k := 7, readyAt := 1000, time := 55, rates := [], rateValid := 0 }

/-- A core that waits with frame 7. -/
def waiting7 : AarCore := { state := .waiting, frame := some frame7, lastReady := some frame7, s := scalars, needInit := false }

/-- Core 5 with one constant region of 64 bytes at 64. -/
def constOn (c : AarCore) : State :=
  let b := tunedTo svc [(0x250540, 1#32), (0x250560, 0x00010001#32)]
  withCore { b with mems := { b.mems with stage := Store.setWord [] (dataBase + 5 * 0x40000 + 68) 0x12345678#32 } }
    { c with mem := [(65, 9), (127, 8), (128, 7)], constImage := [(66, 1), (128, 7)] }

/-- One commit's record for zone 9, feature 3, is on its way. -/
def arrive9 : State :=
  { svc with aar := { svc.aar with arriving := [[(9, 3, { value := 77, invalid := false, overrun := false, frame := 7, fresh := true, source := 0, core := 5 })]] } }
/-- A tab that halted long ago, in SERVICE, with zones on and a unit's role. -/
def zones (role : Nat) : State := tunedTo svc [(0x260000, 1#32), (0x260200, BitVec.ofNat 32 (role + 0x20 + 3 * 0x10000)), (0x260208, 5#32)]

/-- Zone 9 enabled; in state 3 its condition 0 asks counter C1 > 4, and its action goes to 6 with event 0x77. -/
def zoned : State :=
  let b := zoneBase + 9 * 0x400
  let put (m : List Host.Cell) (x : Nat × Word) : List Host.Cell := Store.setWord m x.1 x.2
  { zones 1 with
    mems := { svc.mems with act := [(b + 0x60, 4#32), (b + 0x64, BitVec.ofNat 32 (2 ^ 31 + 13 * 2 ^ 25 + 2 ^ 20 + 2 * 2 ^ 11 + 2 ^ 9)),
      (b + 0x230, BitVec.ofNat 32 (2 ^ 31 + 0x77 * 2 ^ 20 + 16 + 6)), (b + 0x344, 5#32), (fretBase + 72, 0x00050003#32), (fretBase + 76, 1#32)].foldl put [] }
    zon := { svc.zon with
      stepDue := some 3
      units := svc.zon.units.set 9 { state := 3, c := [0, 5, 0, 0], t := [{}, { state := .running, count := 4 }, {}, {}], zseq := 65535 } } }

/-- A record of zone 9 waits with its CAPTURE known; `q` records are queued. -/
def evented (q : Nat) : State :=
  let e : EventRec := { bus := false, zone := 9, code := 7, before := 1, after := 2, cond := 0, info := 0, zseq := 3, sweep := 5, time := 6, value := 8, capture := .number 4, log := false }
  { svc with zon := { svc.zon with waiting := [e], queue := List.replicate q e } }

/-- An edge at 1000 of the sweep that began at 900. -/
def edge1 : BusEdge := { edgeAt := 1000, time := 40, sweep := 7, boundAt := 900, boundTime := 32, period := 100, res := 3 }

/-- That edge waits, accepted or not. -/
def edged (role : Nat) (cal ok : Bool) : State :=
  { zones role with zon := { svc.zon with edge := some { edge := edge1, armed := ok, running := true, cal := cal }, nextTag := 6 } }
/-- Both guards ARMED in a sweep of pattern 2, with profiles that hold 50 to 700 at every index used. -/
def guarded : State :=
  { tunedTo lit [(0x170004, 0x00100080#32), (0x170000, 0x10000#32)] with
    guards := { lit.guards with darkSince := none, inSweep := true, lastBoundary := some (0, 2, 10 ^ 6, 4), intlkHigh := false, intlkClosed := true }
    mems := { lit.mems with act := Store.setWord (Store.setWord [] (profileBase + 0x2000) 0x02BC0032#32) (profileBase + 0x10008) 0x02BC0032#32 } }

/-- A bin of 64 samples of code `v` on each channel. -/
def bin (v : Int) : List (List Int) := List.replicate 4 (List.replicate 64 v)

/-- Both guards TRIPPED with what a restart needs. -/
def restartable : State :=
  let b := tunedTo (liveTo lit [(0x170020, 0x04038535#32), (0x570020, 0x00020001#32)]) [(0x110014, 0x80000000#32), (0x170008, 0x8000#32), (0x570004, 0x8000#32)]
  { b with
    gda := { state := .tripped, cause := .high, stOk := true, trippedAt := 5 }, gdb := { state := .tripped, cause := .follow, stOk := true, trippedAt := 5 }
    guards := { b.guards with intlkHigh := false, intlkClosed := true } }

/-- An attempt in progress. -/
def attempting : State :=
  { restartable with
    gda := { state := .restart, stOk := true }, gdb := { state := .restart, stOk := true }
    guards := { restartable.guards with attemptAt := some 5 } }
/-- The ring on FULL with 2 lines per row over positions 4 to 40, 100 rows, row 41 next, in slot 41; a row of sweep 9 waits. -/
def ringed : State :=
  { tunedTo lit [(0x230004, 0#32), (0x220000, 0x00280004#32)] with
    rng := { lit.rng with
      lpr := 2, capo := 4, ns := 100, guardRows := 3, wrow := 41, wslot := 41, rows := [{ num := 40, slot := 40, sweep := 8, firedAt := 70 }]
      queue := [{ preset := 0, sweep := 9, slot := 5, fireT := 0, firedAt := 99, isPartial := false, late := true, dark := false, index := 41
                  samples := [{ pos := 4, value := 0x1234, subst := false, sat := true, acc := 0 }] }] }
    mems := { lit.mems with dram := [(0x80000000 + 41 * 128, 7), (0x80000000 + 41 * 128 + 128, 9)] } }

/-- A store request about a trigger at 5000. -/
def req5 : CapRequest := { tag := 3, zone := 9, trigAt := 5000, pre := 1, post := 2, first := 5, last := 30, stream := false, members := [9] }

/-- That request waits for RNG; descriptor 0 is in use. -/
def asked (q : CapRequest) : State :=
  { ringed with
    rng := { ringed.rng with desc := ringed.rng.desc.set 0 { num := 6, state := .closed }, nextNum := 0xFFFFFFFB }
    zon := { lit.zon with requests := [q] } }

/-- Descriptor 3 as given. -/
def desced (d : Desc) : State := { ringed with rng := { ringed.rng with desc := ringed.rng.desc.set 3 d } }

/-- A stream capture with a row given. -/
def stream3 : Desc := { num := 0x5000007, state := .stream, stream := true, trow := some 40, pre := 0, post := 9, next := 40, given := 41, first := 5, last := 30 }

/-- Context 2 with an open block for a read. -/
def blocked : State :=
  { svc with cmp := { svc.cmp with ctxs := svc.cmp.ctxs.set 2 { flow := some (.read 1 2), pred := 2, stride := 4, seq := 0xFFFFFFFF, samples := [1, 2, 3], openAt := 5 } } }

/-- A closed block of `n` equal samples. -/
def closedBlock (n : Nat) : State :=
  { svc with cmp := { svc.cmp with closed := [{ ctx := 2, flow := .read 1 2, pred := 1, stride := 1, seq := 4, flush := false, error := false, last := false, samples := List.replicate n 5, rows := [] }] } }

/-- CVU unit 7 as given, with its registers. -/
def cvu7 (ctl : Word) (u : CvuUnit) : State :=
  { liveTo svc [(0x330480, ctl), (0x330498, 64#32), (0x3304A0, 5#32)] with cvu := { svc.cvu with units := svc.cvu.units.set 7 u } }
/-- DRAM trained, every sub-channel awake. -/
def dram (c : SubChannel) : State :=
  { svc with dmc := { svc.dmc with subs := List.replicate 4 c, poison := [1, 5] }, mems := { svc.mems with dram := [(65, 9), (500, 3)] } }

/-- Awake and idle. -/
def awake : SubChannel := { state := .active }

/-- With one read that waits on sub-channel 0. -/
def reading : State :=
  { dram awake with dmc := { (dram awake).dmc with
      nextSeq := 5
      subs := (dram awake).dmc.subs.set 0 { awake with
        openRows := [(0, 0, 0, 7)]
        queue := [{ seq := 4, id := 6, addr := 64, cls := 3, time := 3, data := [9, 8], bad := false }] } } }
/-- REF on with one regular entry and one injected entry of a channel 4 in VOLT, TRIG from the command or an input. -/
def ref4 (trig : Nat) (r : Ref) : State :=
  { liveTo (tunedTo svc [(0x520000, 1#32), (0x520008, 1#32), (0x52000C, BitVec.ofNat 32 (1 + trig * 16)), (0x520040, 0x94#32), (0x520080, 0x94#32),
    (0x520200, 0x20#32)]) [(0x520018, 1#32)] with ref := r }

/-- A regular conversion of channel 4 that ends at 500. -/
def conv4 : Conversion := { chan := 4, preset := 1, injected := false, startAt := 100, endAt := 500, gain := 0 }

/-- Unit 2 in a mode on rising TACH1, as given. -/
def timing (mode : Nat) (u : TiuUnit) : State :=
  { tunedTo svc [(0x530180, BitVec.ofNat 32 (1 + mode * 2 + 1 * 4 + 6 * 32)), (0x530014, 0x00100000#32)] with
    tiu := { svc.tiu with units := svc.tiu.units.set 2 u } }

/-- An edge on TACH1 at count 1000. -/
def timed (mode : Nat) (u : TiuUnit) : State :=
  { timing mode u with tiu := { (timing mode u).tiu with lastEdge := [none, some 1000, none, none] } }
/-- MAC 1 up at IP 9 with PTP on, its record as given. -/
def up1 (x : EthMac) : State :=
  { liveTo svc [(0x410148, 9#32), (0x41000C, 1#32), (0x410158, 0x00050003#32)] with
    eth := { svc.eth with macs := svc.eth.macs.set 1 { x with state := .up } } }

/-- A frame for MAC 1 that carries `b`. -/
def frameOf (d : RxDest) (b : RxBody) : RxFrame := { fcsOk := true, len := 64, vid := none, dest := d, eth := 0xABC, body := b }

/-- MAC 0 with an IP, its bring-up under way. -/
def coming : State := { liveTo svc [(0x410108, 9#32)] with eth := { svc.eth with macs := svc.eth.macs.set 0 { state := .train } } }

/-- The Peer Link on course 1 with these lanes 2 and 3 and this course. -/
def pl (a b : LanLane) (c : Course) : State := { liveTo svc [(0x400000, 1#32)] with lan := { lanes := [{}, {}, a, b], course := c } }

/-- An ACTIVE course at width 2. -/
def course2 : Course := { state := .active, width := 2, rxWidth := 2, serial := 8, peerKnown := true, credits := 3, nextTx := 7, nextRx := 12 }

/-- Two lanes ACTIVE under a course. -/
def plUp (c : Course) : State := pl { state := .active } { state := .active } c

/-- A good flit. -/
def flit (type seq ack crd : Nat) (p : List Byte) : RxFlit := { ok := true, type := type, seq := seq, ack := ack, crd := crd, top := false, payload := p }
/-- A path on MAC 1, and one on the Peer Link. -/
def path1 : KpPath := { mac := 1, ip := 0x0A000001, port := 5000, eth := 0xABC }
/-- A path on the Peer Link. -/
def path4 : KpPath := { mac := 4, ip := 0, port := 0, eth := 0 }

/-- KPE with MAC 1 up and session 3 as given. -/
def kp (x : Session) : State :=
  { up1 {} with kpe := { svc.kpe with sessions := svc.kpe.sessions.set 3 x } }

/-- An ACTIVE session on MAC 1. -/
def sess1 : Session := { state := .active, paths := [path1], cookie := 77, lastAt := 4, nextSeq := 6 }

/-- A packet of session 3 that carries `payload`, with its check value. -/
def packet (type : Nat) (payload : List Byte) : KpPacket :=
  let p : KpPacket := { magic := 0x504B, version := 1, type := type, session := 3, unit := 0, flags := 0, cookie := 77, seq := 9, ack := 5
                        length := payload.length, time := 0, payload := payload, chk := 0 }
  { p with chk := kpChk p }

/-- An OPEN with an argument outside its range. -/
def openPkt : KpPacket :=
  let p := packet 1 (leBytes 8 1234 ++ leBytes 2 700 ++ leBytes 2 30 ++ leBytes 2 4 ++ leBytes 2 0 ++ List.replicate 16 0)
  let p := { p with session := 0xFFFF, cookie := 0 }
  { p with chk := kpChk p }

/-- A control packet. -/
def ctl (seq : Nat) : CtlPacket := { seq := seq, payload := .notify 6 1 [1] [] }

/-- Session 3 with one command in flight. -/
def cmd1 (op : Nat) (a : KpArgs) : InFlight := { tag := 40, op := op, args := a }

/-- KPE with session 3 ACTIVE and this command in flight. -/
def kpc (c : InFlight) : State := kp { sess1 with inflight := [c] }

/-- The same, with rank. -/
def kpo (c : InFlight) : State := kp { sess1 with inflight := [c], operator := true }

/-- A PHASE subscription of session 3. -/
def sub1 (rows : List StreamRow) : Subscription :=
  { session := 3, kind := .phase, preset := 1, pred := 0xFF, first := 10, last := 410, maxUs := 100, rows := rows, seq := 7 }

/-- A row. -/
def srow (i : Nat) (n : Nat) : StreamRow := { index := i, sweep := 5, formedAt := 6, qflags := 0, data := List.replicate n 7 }

/-- Session 3 with subscription 0 and these formed packets. -/
def streaming (s : State) (x : Subscription) (ps : List StreamPacket) : State :=
  { s with kpe := { s.kpe with subs := svc.kpe.subs.set 0 (some x), stream := ps } }

/-- A formed packet of it. -/
def spkt : StreamPacket :=
  { sub := 0, session := 3, seq := 2, time := 0, kind := .phase, preset := 1, qflags := 0, pos0 := 10, npos := 2, nrows := 1, kflags := 0, index := 4
    sweep := 5, data := [1, 2, 3, 4], formedAt := 5 }

/-- The ring, with session 3 ACTIVE, this command in flight and descriptor 3. -/
def ringCmd (c : InFlight) (d : Desc) : State :=
  let s := kpc c
  let r := desced d
  { r with kpe := s.kpe, eth := s.eth, regs := { r.regs with live := s.regs.live } }
/-- OTP_PROG selects a word. -/
def otpSel (k : Nat) : State := { liveTo svc [(0x560010, BitVec.ofNat 32 k)] with pwr := { svc.pwr with sealOpen := true } }

/-- TIM in a mode, as given. -/
def timed16 (mode : Nat) (x : Tim) : State := { liveTo svc [(0x550000, BitVec.ofNat 32 (0xC800 + mode))] with tim := x }

/-- EVR as given. -/
def recd (e : Evr) : State := { svc with evr := e }

/-- A record of a number. -/
def rec16 (n : Nat) : EvRec := { seq := n, kind := 1, flags := 0, code := 2, uptime := 5, time := 5, detail := n }

/-- A log page. -/
def page16 (k : Nat) : LogPage := { sector := k, page := 3, recs := [rec16 1] }

/-- An UPDATE subop of session 3 in flight, the seal open. -/
def upd16 (op fl off : Nat) (data : List Byte) : InFlight := cmd1 16 (.update op fl off data.length data)

/-- With that subop in flight, and UPD as given. -/
def updW (c : InFlight) (u : Upd) : State := { kpo c with upd := u, pwr := { svc.pwr with sealOpen := true } }
/-- SERVICE with state in every kind of place. -/
def worn : State :=
  { liveTo guarded [(0x540010, 9#32), (0x100018, 5#32)] with
    evr := { svc.evr with buf := [(rec16 8, true)], log := [page16 2] }, tim := { base := 77, baseAt := 5, timeSet := true }
    upd := { svc.upd with otp := svc.upd.otp.set 2 0x12345678, flash := [(0x10000, 5)], resetAt := some 9 }
    kpe := (kp sess1).kpe, eth := (kp sess1).eth, pwr := { svc.pwr with clockResetAt := some 6 } }

/-- The internal reset holds, its conditions as given. -/
def held17 (rails pin : Option Nat) : State := { State.reset with pwr := { State.reset.pwr with railsSince := rails, resetNHigh := pin } }

/-- BOOT with this boot record and BOOTSEL. -/
def booting (r : BootCopy) (sel : BitVec 2) : State :=
  { inMode .boot with upd := { svc.upd with boot := [r, {}] }, mgc := { svc.mgc with bootsel := sel } }

/-- PREP with some steps passed. -/
def prepAt17 (n : Nat) : State := { inMode .prep with pwr := { svc.pwr with prepPassed := n }, mgc := { svc.mgc with runs := .firmware } }

/-- The boot tuning's next step. -/
def booted (a : BootAct) (s : State) : State :=
  { s with pwr := { s.pwr with bootAct := a, tuning := { autoService := true, autoLight := true, autoStart := true } } }

/-- a world or an operand of the tests below -/
def snapTab : State := { snapping (some 0) none none with psq := {svc.psq with state := .running}, guards := {svc.guards with lastBoundary := some (2000000, 0, 100, 0)}}

/-- a world or an operand of the tests below -/
def held (k : ShadowKind) : State := {svc with chp := {svc.chp with shadows := [{master := .jtag, tag := 0x30, kind := k, value := 99}]}}

/-- a world or an operand of the tests below -/
def run1 : SrcStage := { running := true, onTime := 700, periodAt := 0, per := 2500, winCount := 3 }

/-- a world or an operand of the tests below -/
def own5 : List (Nat × Word) := [(0x250540, 1#32), (0x250548, 0x00FF1000#32)]

/-- a world or an operand of the tests below -/
def settling : State := { guarded with crx := { guarded.crx with changes := [(.x, 0, 3), (.y, 0, 3)], gx := 7, gy := 7 } }

/-- a world or an operand of the tests below -/
def g7 : State := { guarded with crx := { guarded.crx with gx := 7, gy := 7 } }

/-- a world or an operand of the tests below -/
def st7 (g : GuardId) : State := svc.mapGuard g (fun x => {x with selfTest := some 7, stOk := true})

/-- a world or an operand of the tests below -/
def lrn : State := {g7 with guards := {g7.guards with inSweep := false}, pwr := {g7.pwr with sealOpen := true}}

/-- a world or an operand of the tests below -/
def lrnd : State := {g7 with gdb := {g7.gdb with learning := some {pat := 3, left := 0, bins := [(0,100,200)]}}}

/-- a world or an operand of the tests below -/
def lcg (n : Nat) : Nat := (n * 1103515245 + 12345) % 2^31

/-- a world or an operand of the tests below -/
def rnd (k n m : Nat) : List (BitVec 16) := match n with | 0 => [] | n+1 => BitVec.ofNat 16 (lcg k / 77 % m) :: rnd (lcg k) n m

/-- a world or an operand of the tests below -/
def cx (c : SubChannel) := dram c

/-- a world or an operand of the tests below -/
def tst : State := {cx awake with chp := {svc.chp with mode := .test}}

/-- a world or an operand of the tests below -/
def o8 : List (Option Nat) := (List.range 8).map (fun i => some (i+5))

/-- a world or an operand of the tests below -/
def cvd : State := tunedTo (ref4 0 {act := .regular, conv := some conv4, cycleDone := false}) [(0x520200, 0#32)]

/-- a world or an operand of the tests below -/
def t14 : Nat := 2*10^12

/-- a world or an operand of the tests below -/
def t15 : Nat := 10^14

/-- a world or an operand of the tests below -/
def bad1 (ty : Nat) : KpPacket := { packet ty [] with chk := 0 }

/-- a world or an operand of the tests below -/
def full : State := { kp sess1 with kpe := { (kp sess1).kpe with sessions := (List.replicate 128 {sess1 with operator:=true}).set 5 {sess1 with state:=.suspended} } }

/-- a world or an operand of the tests below -/
def rate : State := { kp sess1 with kpe := { (kp sess1).kpe with openCount := 64, openSec := t15/sec } }

/-- a world or an operand of the tests below -/
def known : State := { kp sess1 with kpe := { (kp sess1).kpe with grants := [{path:=path1,nonce:=1234,session:=3,cookie:=6,payload:=[1],time:=t15-5}] } }

/-- a world or an operand of the tests below -/
def prs (c : Option Claim) : State := {kp sess1 with kpe := {(kp sess1).kpe with claim := c, presHigh := false, presValid := true, presAt := 5}}

/-- a world or an operand of the tests below -/
def P3 (tag op : Nat) (a : List Byte) : KpPacket := packet 3 (leBytes 2 tag ++ leBytes 2 op ++ a)

/-- a world or an operand of the tests below -/
def ended1 : InFlight := {cmd1 1 .nop with outcome := .ended .complete 3 [4], bytes := 8}

/-- a world or an operand of the tests below -/
def ab (g : Nat) : InFlight := {tag:=41,op:=18,args:=.abort g}

/-- a world or an operand of the tests below -/
def rr : InFlight := {cmd1 2 (.regRead [4]) with bytes := 9}

/-- a world or an operand of the tests below -/
def c1 := cmd1 2 (.regRead [0x410148, 0x110000, 5, 0x10000004])

/-- a world or an operand of the tests below -/
def c2 := cmd1 3 (.regWrite [(0x421064, 0x30#32), (0x110000, 5#32), (5,6#32)])

/-- a world or an operand of the tests below -/
def c3 := cmd1 4 (.memRead 0 0x410148 8)

/-- a world or an operand of the tests below -/
def dr (c : InFlight) : State := { kpo c with dmc := (dram awake).dmc }

/-- a world or an operand of the tests below -/
def c4 := cmd1 4 (.memRead 1 0x480 8)

/-- a world or an operand of the tests below -/
def c5 := {cmd1 4 (.memRead 1 0x480 8) with final := some (.complete, 6)}

/-- a world or an operand of the tests below -/
def c6 := cmd1 5 (.memWrite 0 0x421064 (leBytes 4 0x30 ++ leBytes 4 5))

/-- a world or an operand of the tests below -/
def c6b := cmd1 5 (.memWrite 0 0x10 (leBytes 4 0x30 ++ leBytes 4 5))

/-- a world or an operand of the tests below -/
def c7 := cmd1 5 (.memWrite 1 0x70000010 [5,6,7])

/-- a world or an operand of the tests below -/
def c8 := cmd1 5 (.memWrite 1 0x7FFFFFFE [5,6,7])

/-- a world or an operand of the tests below -/
def c9 := cmd1 6 (.load 0x7FFFFFFE 64)

/-- a world or an operand of the tests below -/
def c10 := cmd1 6 (.load 0x70000000 64)

/-- a world or an operand of the tests below -/
def c11 := cmd1 17 (.mode 3)

/-- a world or an operand of the tests below -/
def c12 := cmd1 17 (.mode 1)

/-- a world or an operand of the tests below -/
def d1 := cmd1 10 (.capArm 0 5 6 7 8 1)

/-- a world or an operand of the tests below -/
def d2 := cmd1 10 (.capArm (10^12) 5 6 7 8 1)

/-- a world or an operand of the tests below -/
def d3 := cmd1 12 (.capAbort 77)

/-- a world or an operand of the tests below -/
def wt : Desc := {num := 77, state := .wait, pre := 4, post := 4, first := 5, last := 30}

/-- a world or an operand of the tests below -/
def d6 := cmd1 13 (.capRelease 77)

/-- a world or an operand of the tests below -/
def d8 := cmd1 11 (.capRead 77 0 0 5 30 0xFF)

/-- a world or an operand of the tests below -/
def d11 := {cmd1 11 (.capRead 77 2 1 5 30 0xFF) with begun := true, next := 2, stop := 3}

/-- a world or an operand of the tests below -/
def wt11 : Desc := {wt with trow := some 40, pre := 2, state := .closed}

/-- a world or an operand of the tests below -/
def d12 := cmd1 14 (.ringRead 40 1 2 30 0xFF)

/-- a world or an operand of the tests below -/
def d13 := cmd1 14 (.ringRead 39 1 5 30 0xFF)

/-- a world or an operand of the tests below -/
def d14 := cmd1 14 (.ringRead 40 1 5 30 0xFF)

/-- a world or an operand of the tests below -/
def d15 := {d14 with begun := true, next := 0, stop := 1}

/-- a world or an operand of the tests below -/
def d16 := cmd1 15 (.logRead 2 1)

/-- a world or an operand of the tests below -/
def d17 := {cmd1 15 (.logRead 2 1) with begun := true, next := 2, stop := 1}

/-- a world or an operand of the tests below -/
def rec5 : EvRec := { seq := 5, time := 0, uptime := 0, code := 3, kind := 0, flags := 0, detail := 7 }

/-- a world or an operand of the tests below -/
def e1 := cmd1 7 (.subscribe 2 0 0xFF 0 0 5)

/-- a world or an operand of the tests below -/
def fl : State := {kpc e1 with kpe := {(kpc e1).kpe with subs := List.replicate 512 (some {sub1 [] with session := 5})}}

/-- a world or an operand of the tests below -/
def e3 := cmd1 8 (.unsubscribe 0)

/-- a world or an operand of the tests below -/
def e5 := cmd1 9 (.flush 0)

/-- a world or an operand of the tests below -/
def t16 : Nat := 10^14

/-- a world or an operand of the tests below -/
def te : List Nat := [1,2,3,4,9,6,7,65535]

/-- a world or an operand of the tests below -/
def te7 : List Nat := [1,2,3,4,9,6,7,6000]

/-- a world or an operand of the tests below -/
def tb : List Nat := [1,2,3,4,9,8000,7,6000]

/-- a world or an operand of the tests below -/
def mv : List Nat := (List.range 12).map railNominal

/-- a world or an operand of the tests below -/
def u0 : Upd := {svc.upd with flash := [(0x10000,4),(0x810000,5)]}

/-- a world or an operand of the tests below -/
def prW (op : Nat) : State := {updW (upd16 op 0 0 []) u0 with chp := {svc.chp with mode := .prep}}

/-- a world or an operand of the tests below -/
def slW (op : Nat) : State := {updW (upd16 op 0 0 []) u0 with pwr := svc.pwr}

/-- a world or an operand of the tests below -/
def t17 : Nat := 10^14

/-- a world or an operand of the tests below -/
def t18 : Nat := 10^14

/-- a world or an operand of the tests below -/
def frozen : State := { svc with chp := { svc.chp with stage := .pending } }

/-- a world or an operand of the tests below -/
def rowX (a : Nat) : RegRow := (Reg.rowAt a).getD ⟨0,[],false,0,[]⟩


/-- States and operands that meet the hypotheses of `BlockFaultsAreContained`, a line for each clause; what a clause shares with one above stands there. -/
theorem meets_BlockFaultsAreContained :
    (3 ≠ 240
      ∧ (blockRestart Block.phs = some (100 * us) ∧ escalates Block.phs 3 = false ∧ (List.filter (fun f => f.fst == Block.phs && decide ((svc.atT 7).now < f.snd + 10 ^ 13)) (svc.atT 7).chp.faults).length < 2)
      ∧ (blockRestart Block.psq = none ∧ unitRestart Block.psq = none ∧ Block.psq ≠ Block.lan ∧ Block.psq ≠ Block.chp)
      ∧ ((restartingPhs.atT 7).restarting Block.phs none = some 100 ∧ (restartingPhs.atT 7).now ≤ 100)
      ∧ ((restartingPhs.atT 101).restarting Block.phs none = some 100 ∧ 100 < (restartingPhs.atT 101).now)) :=
  by decide +kernel

/-- States and operands that meet the hypotheses of `SafeAndWatchdogRecover`, a line for each clause; what a clause shares with one above stands there. -/
theorem meets_SafeAndWatchdogRecover :
    (((inSafe.atT 7).chp.safe = true ∧ (inSafe.atT 7).chp.isolated = [] ∧ ((inSafe.atT 7).now ≤ (inSafe.atT 7).chp.safeSince + 10 ^ 12 ∨ (inSafe.atT 7).chp.mode = Mode.recovery) ∧ storeWf (inSafe.atT 7).regs.live = true)
      ∧ ((inSafe.atT (2 * 10 ^ 12)).chp.safe = true ∧ (inSafe.atT (2 * 10 ^ 12)).chp.safeSince + 10 ^ 12 < (inSafe.atT (2 * 10 ^ 12)).now)
      ∧ ((svc.atT (2 * 10 ^ 12)).pwr.inReset = false ∧ (svc.atT (2 * 10 ^ 12)).mgc.kickAt + (svc.atT (2 * 10 ^ 12)).watchdogPeriod ≤ (svc.atT (2 * 10 ^ 12)).now)
      ∧ (commandable (inTest.atT 7) Master.jtag Block.chp none ∧ (inTest.atT 7).chp.mode = Mode.test ∧ blockAt ((5 * 2 ^ 13 + 2 * 2 ^ 8 + 3) % 2 ^ 16 / 2 ^ 13) ((5 * 2 ^ 13 + 2 * 2 ^ 8 + 3) % 2 ^ 16 / 2 ^ 8 % 32) = some Block.ref)
      ∧ ((injected.atT 7).chp.inject = some (5 * 2 ^ 13 + 2 * 2 ^ 8 + 3) ∧ blockAt ((5 * 2 ^ 13 + 2 * 2 ^ 8 + 3) / 2 ^ 13) ((5 * 2 ^ 13 + 2 * 2 ^ 8 + 3) / 2 ^ 8 % 32) = some Block.ref)) :=
  by decide +kernel

/-- States and operands that meet the hypotheses of `SnapshotRunsItsCourse`, a line for each clause; what a clause shares with one above stands there. -/
theorem meets_SnapshotRunsItsCourse :
    ((storeWf (svc.atT 7).regs.live = true ∧ (svc.atT 7).isolatedAt Block.chp none = false)
      ∧ commandable (svc.atT 7) Master.jtag Block.chp none
      ∧ (storeWf ((liveTo svc [(80, 256#32), (1048616, 5#32)]).atT 7).regs.live = true ∧ ((liveTo svc [(80, 256#32), (1048616, 5#32)]).atT 7).rd Reg.CHP_SNAP_CTL_PERIOD ≠ 0 ∧ ((liveTo svc [(80, 256#32), (1048616, 5#32)]).atT 7).chp.snapFrom + ((liveTo svc [(80, 256#32), (1048616, 5#32)]).atT 7).rd Reg.CHP_SNAP_CTL_PERIOD ≤ ((liveTo svc [(80, 256#32), (1048616, 5#32)]).atT 7).sweep ∧ ((liveTo svc [(80, 256#32), (1048616, 5#32)]).atT 7).chp.snapBusy = none)
      ∧ (storeWf ((snapping (some 3) none none).atT 7).regs.live = true ∧ ((snapping (some 3) none none).atT 7).chp.snapHeld = none ∧ ((snapping (some 3) none none).atT 7).chp.snapBusy = none ∧ ((snapping (some 3) none none).atT 7).chp.snapReq = some 3 ∧ ((snapping (some 3) none none).atT 7).psq.state ≠ TabState.running)
      ∧ (storeWf (snapTab.atT 2000007).regs.live = true ∧ (snapTab.atT 2000007).chp.snapHeld = none ∧ (snapTab.atT 2000007).chp.snapBusy = none ∧ (snapTab.atT 2000007).chp.snapReq = some 0 ∧ (snapTab.atT 2000007).psq.state = TabState.running ∧ Option.map (fun x => x.fst) (snapTab.atT 2000007).guards.lastBoundary = some 2000000 ∧ 0 + 2 * 10 ^ 6 ≤ 2000000 ∧ 2000000 ≤ (snapTab.atT 2000007).now ∧ (snapTab.atT 2000007).now ≤ 2000000 + 10 ^ 6))
    ∧ ((storeWf ((snapping none (some 3) none).atT 7).regs.live = true ∧ ((snapping none (some 3) none).atT 7).chp.snapBusy = some 3 ∧ ((snapping none (some 3) none).atT 7).now < 3 + 10 ^ 7 ∧ ((snapping none (some 3) none).atT 7).rd Reg.CHP_SNAP_SEQ_SEQ % 2 = 1)
      ∧ (storeWf ((snapping none (some 3) none).atT 70000000).regs.live = true ∧ ((snapping none (some 3) none).atT 70000000).chp.snapBusy = some 3 ∧ 3 + 10 ^ 7 ≤ ((snapping none (some 3) none).atT 70000000).now)
      ∧ (storeWf ((snapping none none (some 3)).atT 7).regs.live = true ∧ ((snapping none none (some 3)).atT 7).isolatedAt Block.chp none = false ∧ ((snapping none none (some 3)).atT 7).chp.snapHeld = some 3 ∧ (0#32).toNat = ((snapping none none (some 3)).atT 7).rd Reg.CHP_SNAP_SEQ_SEQ)
      ∧ (storeWf ((snapping (some 2) none (some 3)).atT (2 * 10 ^ 12)).regs.live = true ∧ ((snapping (some 2) none (some 3)).atT (2 * 10 ^ 12)).chp.snapHeld = some 3 ∧ 3 + max 1 (((snapping (some 2) none (some 3)).atT (2 * 10 ^ 12)).rd Reg.CHP_SNAP_HOLD_MS) * 10 ^ 9 ≤ ((snapping (some 2) none (some 3)).atT (2 * 10 ^ 12)).now)) :=
  ⟨by decide +kernel, by decide +kernel⟩

/-- States and operands that meet the hypotheses of `StageCommandsMoveTheStage`, a line for each clause; what a clause shares with one above stands there. -/
theorem meets_StageCommandsMoveTheStage :
    ((((staged StageState.dirty).atT 7).chp.retuneDue = none ∧ commandable ((staged StageState.dirty).atT 7) Master.jtag Block.chp none ∧ ((staged StageState.dirty).atT 7).chp.mode ≠ Mode.boot ∧ ((staged StageState.dirty).atT 7).chp.mode ≠ Mode.recovery ∧ ((staged StageState.dirty).atT 7).chp.stage ≠ StageState.pending ∧ ((staged StageState.dirty).atT 7).chp.stage ≠ StageState.copyback)
      ∧ (((staged StageState.checking).atT 7).chp.retuneDue = none ∧ ((staged StageState.checking).atT 7).chp.stage = StageState.checking ∧ ((staged StageState.checking).atT 7).preloading = false ∧ firstFailure ((staged StageState.checking).atT 7) checkList = some (2, 0) ∧ storeWf ((staged StageState.checking).atT 7).regs.live = true)
      ∧ ((checkable.atT 7).chp.retuneDue = none ∧ (checkable.atT 7).chp.stage = StageState.checking ∧ (checkable.atT 7).preloading = false ∧ firstFailure (checkable.atT 7) (List.filter (fun c => c.fst != 23) checkList) = none ∧ storeWf (checkable.atT 7).regs.live = true)
      ∧ (((staged StageState.checked).atT 7).chp.retuneDue = none ∧ commandable ((staged StageState.checked).atT 7) Master.jtag Block.chp none ∧ serving ((staged StageState.checked).atT 7) ∧ ((staged StageState.checked).atT 7).chp.safe = false ∧ ((staged StageState.checked).atT 7).chp.stage = StageState.checked))
    ∧ ((((liveTo (staged StageState.checked) [(48, 9#32)]).atT 7).chp.retuneDue = none ∧ commandable ((liveTo (staged StageState.checked) [(48, 9#32)]).atT 7) Master.jtag Block.chp none ∧ serving ((liveTo (staged StageState.checked) [(48, 9#32)]).atT 7) ∧ ((liveTo (staged StageState.checked) [(48, 9#32)]).atT 7).chp.safe = false ∧ ((liveTo (staged StageState.checked) [(48, 9#32)]).atT 7).chp.stage = StageState.checked ∧ ((liveTo (staged StageState.checked) [(48, 9#32)]).atT 7).applyLate (((liveTo (staged StageState.checked) [(48, 9#32)]).atT 7).rd Reg.CHP_APPLY_AT_SWEEP) = false)
      ∧ (((staged StageState.pending).atT 7).chp.retuneDue = none ∧ commandable ((staged StageState.pending).atT 7) Master.jtag Block.chp none ∧ ((staged StageState.pending).atT 7).chp.stage = StageState.pending)
      ∧ (((staged StageState.failed).atT 7).chp.retuneDue = none ∧ commandable ((staged StageState.failed).atT 7) Master.jtag Block.chp none ∧ ((staged StageState.failed).atT 7).chp.mode ≠ Mode.boot ∧ ((staged StageState.failed).atT 7).chp.mode ≠ Mode.recovery ∧ ((staged StageState.failed).atT 7).chp.stage ≠ StageState.pending ∧ ((staged StageState.failed).atT 7).chp.stage ≠ StageState.copyback)
      ∧ (((staged StageState.copyback).atT 7).chp.retuneDue = none ∧ ((staged StageState.copyback).atT 7).chp.stage = StageState.copyback)
      ∧ (((staged StageState.copyback).atT (10 ^ 11)).chp.retuneDue = none ∧ ((staged StageState.copyback).atT (10 ^ 11)).chp.stage = StageState.copyback ∧ ((staged StageState.copyback).atT (10 ^ 11)).chp.copyFault = false ∧ ((staged StageState.copyback).atT (10 ^ 11)).chp.copybackSince + 3 * 10 ^ 9 ≤ ((staged StageState.copyback).atT (10 ^ 11)).now))
    ∧ ((overdue.atT (10 ^ 11)).chp.retuneDue = none ∧ { block := Block.chn, lastSweep := some 0 : Confirm } ∈ (overdue.atT (10 ^ 11)).chp.confirms ∧ { block := Block.chn, lastSweep := some 0 : Confirm }.lastSweep = some 0 ∧ 0 < (overdue.atT (10 ^ 11)).sweep) :=
  ⟨by decide +kernel, by decide +kernel, by decide +kernel⟩

/-- States and operands that meet the hypotheses of `RetuneSwitchesTheWholeTuning`, a line for each clause; what a clause shares with one above stands there. -/
theorem meets_RetuneSwitchesTheWholeTuning :
    ((retuneDue.atT 7).chp.retuneDue = some 0 ∧ storeWf (retuneDue.atT 7).regs.live = true) :=
  by decide +kernel

/-- States and operands that meet the hypotheses of `ModeRequestsFollowTheirPaths`, a line for each clause; what a clause shares with one above stands there. -/
theorem meets_ModeRequestsFollowTheirPaths :
    ((commandable (svc.atT 7) Master.jtag Block.chp none ∧ (svc.atT 7).chp.mode = Mode.service)
      ∧ (commandable (inTest.atT 7) Master.jtag Block.chp none ∧ (inTest.atT 7).chp.mode = Mode.test)
      ∧ ((inTest.atT 7).chp.mode = Mode.service ∨ (inTest.atT 7).chp.mode = Mode.test)
      ∧ (commandable (prepDone.atT 7) Master.jtag Block.chp none ∧ (prepDone.atT 7).chp.mode = Mode.prep ∧ (prepDone.atT 7).prepComplete = true)
      ∧ (commandable ((inMode Mode.recovery).atT 7) Master.jtag Block.chp none ∧ ((inMode Mode.recovery).atT 7).chp.mode = Mode.recovery)
      ∧ (commandable ((inMode Mode.prep).atT 7) Master.jtag Block.chp none ∧ 2 < 8 ∧ (((inMode Mode.prep).atT 7).chp.mode, 2) ≠ (Mode.service, 3) ∧ (((inMode Mode.prep).atT 7).chp.mode, 2) ≠ (Mode.test, 2) ∧ (((inMode Mode.prep).atT 7).chp.mode, 2) ≠ (Mode.service, 4) ∧ (((inMode Mode.prep).atT 7).chp.mode, 2) ≠ (Mode.test, 4) ∧ (((inMode Mode.prep).atT 7).chp.mode, 2) ≠ (Mode.recovery, 0) ∧ (¬(((inMode Mode.prep).atT 7).chp.mode = Mode.prep ∧ 2 = 2 ∧ ((inMode Mode.prep).atT 7).prepComplete = true)))) :=
  by decide +kernel

/-- States and operands that meet the hypotheses of `RegisterWritesStore`, a line for each clause; what a clause shares with one above stands there. -/
theorem meets_RegisterWritesStore :
    (plainWord (atBus svc 7) Master.jtag (rowOf 3276800) 3276800
      ∧ placeOf 5767168 = none)
    ∧ reaches (atBus svc 7) Master.jtag 3276800 (rowOf 3276800) 3276800 0 false true
    ∧ reaches (atBus svc 7) Master.jtag (aliasOf 1 3276800) (rowOf 3276800) 3276800 1 false true
    ∧ reaches (atBus svc 7) Master.jtag (aliasOf 2 3276800) (rowOf 3276800) 3276800 2 false true
    ∧ reaches (atBus svc 7) Master.jtag (aliasOf 3 3276800) (rowOf 3276800) 3276800 3 false true :=
  ⟨by decide +kernel, ⟨_, rfl, by decide +kernel, by decide +kernel⟩, ⟨_, rfl, by decide +kernel, by decide +kernel⟩, ⟨_, rfl, by decide +kernel, by decide +kernel⟩, ⟨_, rfl, by decide +kernel, by decide +kernel⟩⟩

/-- States and operands that meet the hypotheses of `OtherBusAccessesAct`, a line for each clause; what a clause shares with one above stands there. -/
theorem meets_OtherBusAccessesAct :
    (((rowOf 20).tuned = false ∧ (rowOf 20).half = 0 ∧ isStatusRow (rowOf 20) = true ∧ (atBus (liveTo svc [(20, 16777219#32)]) 7).mayPriv Master.jtag = true ∧ (atBus (liveTo svc [(20, 16777219#32)]) 7).modeShut 20 = false ∧ (atBus (liveTo svc [(20, 16777219#32)]) 7).cvuShut 20 = false)
      ∧ ((rowOf 1048592).tuned = true ∧ (RegRow.maskOf (rowOf 1048592) fun f => f.acc == Acc.t) ≠ 0 ∧ (atBus svc 7).mayPriv Master.jtag = true ∧ ((atBus svc 7).maySeal Master.jtag = true ∨ ((rowOf 1048592).fields.all fun f => !f.sealed) = true) ∧ (atBus svc 7).stageRefusal = none ∧ storeWf (atBus svc 7).regs.stage = true)
      ∧ ((rowOf 48).tuned = false ∧ (rowOf 48).half = 1)
      ∧ ((rowOf 52).tuned = false ∧ (rowOf 52).half = 2 ∧ (atBus (held ShadowKind.read) 7).shadowOf Master.jtag (52 - 4) ShadowKind.read = some 99)
      ∧ ((atBus (held ShadowKind.write) 7).shadowOf Master.jtag 48 ShadowKind.write = some 99 ∧ (atBus (held ShadowKind.write) 7).isolatedAt Block.chp none = false ∧ (atBus (held ShadowKind.write) 7).jtagShut Master.jtag = false ∧ (atBus (held ShadowKind.write) 7).mayPriv Master.jtag = true ∧ storeWf (atBus (held ShadowKind.write) 7).regs.live = true)
      ∧ targetOf 2293764 = some (Block.pfl, none))
    ∧ reaches (atBus (liveTo svc [(20, 16777219#32)]) 7) Master.jtag 20 (rowOf 20) 20 0 false true
    ∧ (reaches (atBus svc 7) Master.jtag 1048592 (rowOf 1048592) 1048592 0 false true ∨ reaches (atBus svc 7) Master.jtag 1048592 (rowOf 1048592) 1048592 0 true true)
    ∧ reaches (atBus (liveTo svc [(48, 5#32), (52, 6#32)]) 7) Master.jtag 48 (rowOf 48) 48 0 false false
    ∧ reaches (atBus (held ShadowKind.read) 7) Master.jtag 52 (rowOf 52) 52 0 false false
    ∧ reaches (atBus (held ShadowKind.read) 7) Master.jtag 48 (rowOf 48) 48 0 false true :=
  ⟨by decide +kernel, ⟨_, rfl, by decide +kernel, by decide +kernel⟩, .inl ⟨_, rfl, by decide +kernel, by decide +kernel⟩, ⟨_, rfl, by decide +kernel, by decide +kernel⟩, ⟨_, rfl, by decide +kernel, by decide +kernel⟩, ⟨_, rfl, by decide +kernel, by decide +kernel⟩⟩

/-- States and operands that meet the hypotheses of `TabInstructionsMoveThePc`, a line for each clause; what a clause shares with one above stands there. -/
theorem meets_TabInstructionsMoveThePc :
    (5 < 2 ^ 20
      ∧ (tabAt (tab (2 * 2 ^ 26 + 5))).psq.issue < 5
      ∧ (0 < 2 ^ 20 ∧ 0 = (tabAt (tab (2 * 2 ^ 26))).psq.issue)
      ∧ (3 < 2 ^ 20 ∧ 3 < (tabAt (tabLate (2 * 2 ^ 26 + 3) 4)).psq.issue)
      ∧ (3 < 4 ∧ 77 < 2 ^ 16)
      ∧ (2 < 4 ∧ 9 < 4096 ∧ (tabAt (tabLoop 1)).psq.loops[2]? = some 1)
      ∧ ((tabAt (tabLoop 0)).psq.loops[2]? = some 0 ∧ 0 ≠ 1)
      ∧ 4000 < 4096
      ∧ 200 < 256)
    ∧ issues (tab 0) 0 (tabAt (tab 0))
    ∧ issues (tab (2 ^ 26 + 5)) (2 ^ 26 + 5) (tabAt (tab (2 ^ 26 + 5)))
    ∧ issues (tab (2 * 2 ^ 26 + 5)) (2 * 2 ^ 26 + 5) (tabAt (tab (2 * 2 ^ 26 + 5)))
    ∧ issues (tab (2 * 2 ^ 26)) (2 * 2 ^ 26 + 0) (tabAt (tab (2 * 2 ^ 26)))
    ∧ issues (tabLate (2 * 2 ^ 26 + 3) 4) (2 * 2 ^ 26 + 3) (tabAt (tabLate (2 * 2 ^ 26 + 3) 4))
    ∧ issues (tab (16 * 2 ^ 26 + 3 * 2 ^ 16 + 77)) (16 * 2 ^ 26 + 3 * 2 ^ 16 + 77) (tabAt (tab (16 * 2 ^ 26 + 3 * 2 ^ 16 + 77)))
    ∧ issues (tabLoop 1) (17 * 2 ^ 26 + 2 * 2 ^ 16 + 9) (tabAt (tabLoop 1))
    ∧ issues (tabLoop 0) (17 * 2 ^ 26 + 2 * 2 ^ 16 + 9) (tabAt (tabLoop 0))
    ∧ issues (tab (18 * 2 ^ 26 + 4000)) (18 * 2 ^ 26 + 4000) (tabAt (tab (18 * 2 ^ 26 + 4000)))
    ∧ issues (tab (24 * 2 ^ 26 + 200)) (24 * 2 ^ 26 + 200) (tabAt (tab (24 * 2 ^ 26 + 200)))
    ∧ issues (tab (63 * 2 ^ 26)) (63 * 2 ^ 26) (tabAt (tab (63 * 2 ^ 26))) :=
  ⟨by decide +kernel, ⟨_, rfl, rfl, by decide +kernel, by decide +kernel⟩, ⟨_, rfl, rfl, by decide +kernel, by decide +kernel⟩, ⟨_, rfl, rfl, by decide +kernel, by decide +kernel⟩, ⟨_, rfl, rfl, by decide +kernel, by decide +kernel⟩, ⟨_, rfl, rfl, by decide +kernel, by decide +kernel⟩, ⟨_, rfl, rfl, by decide +kernel, by decide +kernel⟩, ⟨_, rfl, rfl, by decide +kernel, by decide +kernel⟩, ⟨_, rfl, rfl, by decide +kernel, by decide +kernel⟩, ⟨_, rfl, rfl, by decide +kernel, by decide +kernel⟩, ⟨_, rfl, rfl, by decide +kernel, by decide +kernel⟩, ⟨_, rfl, rfl, by decide +kernel, by decide +kernel⟩⟩

/-- States and operands that meet the hypotheses of `TabInstructionsDriveTheLight`, a line for each clause; what a clause shares with one above stands there. -/
theorem meets_TabInstructionsDriveTheLight :
    ((5 < 8 ∧ 3 < 16 ∧ 2 < 8 ∧ (tabAt (fire5 true)).on (Reg.PSY_SLOT_EN 5) = true ∧ (∀ (x : Probe), x ∈ (tabAt (fire5 true)).psq.probes → x.slot = 5 → x.endAt ≤ pinAt (tabAt (fire5 true)) 2))
      ∧ (tabAt (fire5 false)).on (Reg.PSY_SLOT_EN 5) = false
      ∧ (1 < 8 ∧ 33 < 2 ^ 16 ∧ (tabAt (tab (5 * 2 ^ 26 + 2 ^ 16 + 33))).psq.gate = none ∧ 0 < 33)
      ∧ (3 < 8 ∧ (tabAt (tab (6 * 2 ^ 26 + 3 * 2 ^ 16))).psq.raman = false)
      ∧ (tabAt (tabFirst (8 * 2 ^ 26 + 3))).following = false
      ∧ ((tabAt (tab (8 * 2 ^ 26 + 3))).following = false ∧ (tabAt (tab (8 * 2 ^ 26 + 3))).psq.first = false ∧ (tabAt (tab (8 * 2 ^ 26 + 3))).psq.issue ≤ (tabAt (tab (8 * 2 ^ 26 + 3))).psq.period))
    ∧ issues (fire5 true) (4 * 2 ^ 26 + 5 * 2 ^ 23 + 3 * 2 ^ 19 + 2 * 2 ^ 16) (tabAt (fire5 true))
    ∧ issues (fire5 false) (4 * 2 ^ 26 + 5 * 2 ^ 23 + 3 * 2 ^ 19 + 2 * 2 ^ 16) (tabAt (fire5 false))
    ∧ issues (tab (5 * 2 ^ 26 + 2 ^ 16 + 33)) (5 * 2 ^ 26 + 1 * 2 ^ 16 + 33) (tabAt (tab (5 * 2 ^ 26 + 2 ^ 16 + 33)))
    ∧ issues (tab (6 * 2 ^ 26 + 3 * 2 ^ 16)) (6 * 2 ^ 26 + 3 * 2 ^ 16) (tabAt (tab (6 * 2 ^ 26 + 3 * 2 ^ 16)))
    ∧ issues (tabFirst (8 * 2 ^ 26 + 3)) (8 * 2 ^ 26 + 3) (tabAt (tabFirst (8 * 2 ^ 26 + 3)))
    ∧ issues (tab (8 * 2 ^ 26 + 3)) (8 * 2 ^ 26 + 3) (tabAt (tab (8 * 2 ^ 26 + 3))) :=
  ⟨by decide +kernel, ⟨_, rfl, rfl, by decide +kernel, by decide +kernel⟩, ⟨_, rfl, rfl, by decide +kernel, by decide +kernel⟩, ⟨_, rfl, rfl, by decide +kernel, by decide +kernel⟩, ⟨_, rfl, rfl, by decide +kernel, by decide +kernel⟩, ⟨_, rfl, rfl, by decide +kernel, by decide +kernel⟩, ⟨_, rfl, rfl, by decide +kernel, by decide +kernel⟩⟩

/-- States and operands that meet the hypotheses of `TabStartsAndHalts`, a line for each clause; what a clause shares with one above stands there. -/
theorem meets_TabStartsAndHalts :
    ((commandable (svc.atT 5) Master.jtag Block.psq none ∧ (svc.atT 5).psq.state ≠ TabState.running ∧ serving (svc.atT 5) ∧ (svc.atT 5).chp.safe = false)
      ∧ (commandable ((tab 0).atT 5) Master.jtag Block.psq none ∧ (((tab 0).atT 5).psq.state = TabState.running ∨ ¬serving ((tab 0).atT 5) ∨ ((tab 0).atT 5).chp.safe = true))
      ∧ ((tab 0).atT 5).psq.state = TabState.running
      ∧ (commandable ((tabLate 0 9).atT 5) Master.jtag Block.psq none ∧ ((tabLate 0 9).atT 5).psq.state = TabState.running ∧ ((tabLate 0 9).atT 5).inWholeHalt = false ∧ (∀ (f : Instant), ((tabLate 0 9).atT 5).nextFetch = some f → ((tabLate 0 9).atT 5).now < f))
      ∧ (commandable ((tab 0).atT 0) Master.jtag Block.psq none ∧ ((tab 0).atT 0).inWholeHalt = false ∧ ((tab 0).atT 0).nextFetch = some ((tab 0).atT 0).now)) :=
  by decide +kernel

/-- States and operands that meet the hypotheses of `SweepBoundariesAreTaken`, a line for each clause; what a clause shares with one above stands there. -/
theorem meets_SweepBoundariesAreTaken :
    (((swb false).psq.state = TabState.running ∧ (swb false).psq.wait = some (swb7 false) ∧ (swb7 false).follower = false ∧ (swb false).boundaryAt (swb7 false) ≤ 400000 ∧ ((swb false).atT ((swb false).boundaryAt (swb7 false))).psq.haltAtSwb = none ∧ storeWf ((swb false).atT ((swb false).boundaryAt (swb7 false))).regs.live = true)
      ∧ (swbHalt.psq.state = TabState.running ∧ swbHalt.psq.wait = some (swb7 false) ∧ swbHalt.boundaryAt (swb7 false) ≤ 400000 ∧ (swbHalt.atT (swbHalt.boundaryAt (swb7 false))).psq.haltAtSwb = some HaltCause.sweepCmd ∧ storeWf (swbHalt.atT (swbHalt.boundaryAt (swb7 false))).regs.live = true)
      ∧ (follower.psq.state = TabState.running ∧ (follower.atT 400000).psq.state = TabState.running ∧ (follower.atT 400000).following = true ∧ (follower.atT 400000).psq.syncEdge = none ∧ (follower.atT 400000).psq.wait = none ∧ (follower.atT 400000).psq.tick0 + ((follower.atT 400000).psq.period - 320) * 3200 ≤ 400000)
      ∧ ((swb true).psq.state = TabState.running ∧ (swb true).psq.wait = some (swb7 true) ∧ (swb7 true).follower = true ∧ (swb true).psq.haltAtSwb = none ∧ (swb true).psq.tick0 + max (swb7 true).tick ((swb true).psq.period + 320) * 3200 ≤ 9000000 ∧ ((swb true).atT ((swb true).psq.tick0 + max (swb7 true).tick ((swb true).psq.period + 320) * 3200)).psq.haltAtSwb = none ∧ storeWf ((swb true).atT ((swb true).psq.tick0 + max (swb7 true).tick ((swb true).psq.period + 320) * 3200)).regs.live = true))
    ∧ ((tab (63 * 2 ^ 26 + 1)).psq.state = TabState.running ∧ (tabAt (tab (63 * 2 ^ 26 + 1))).psq.tick0 + max (tabAt (tab (63 * 2 ^ 26 + 1))).psq.issue (tabAt (tab (63 * 2 ^ 26 + 1))).psq.period * 3200 ≤ 9000000)
    ∧ issues (tab (63 * 2 ^ 26 + 1)) (63 * 2 ^ 26 + 1) (tabAt (tab (63 * 2 ^ 26 + 1))) :=
  ⟨by decide +kernel, by decide +kernel, ⟨_, rfl, rfl, by decide +kernel, by decide +kernel⟩⟩

/-- States and operands that meet the hypotheses of `PlucksAndLooksRunTheirCourse`, a line for each clause; what a clause shares with one above stands there. -/
theorem meets_PlucksAndLooksRunTheirCourse :
    ((commandable (lit.atT 5) Master.jtag Block.psq none ∧ (lit.atT 5).psq.state ≠ TabState.running ∧ serving (lit.atT 5) ∧ (lit.atT 5).chp.safe = false ∧ (lit.atT 5).on (Reg.PSY_SLOT_EN (5 % 8)) = true ∧ (lit.atT 5).psq.pluck = none ∧ (lit.atT 5).gda.state = GuardState.armed ∧ (lit.atT 5).gdb.state = GuardState.armed ∧ 200 % 256 ≠ 0 ∧ shapeBad (lit.atT 5).mems.act (3 % 16) = false)
      ∧ (commandable ((tab 0).atT 5) Master.jtag Block.psq none ∧ ((tab 0).atT 5).psq.state = TabState.running ∧ storeWf ((tab 0).atT 5).regs.live = true)
      ∧ (((plucked false).atT 25).psq.pluck = some (pluck5 false) ∧ (pluck5 false).fired = false ∧ (pluck5 false).fireAt ≤ ((plucked false).atT 25).now)
      ∧ (((plucked true).atT 35).psq.pluck = some (pluck5 true) ∧ (pluck5 true).closeAt ≤ ((plucked true).atT 35).now)
      ∧ (((plucked true).atT 45).psq.pluck = some (pluck5 true) ∧ (pluck5 true).restart = false ∧ (pluck5 true).fired = true ∧ (pluck5 true).windowEnd ≤ ((plucked true).atT 45).now)
      ∧ ((gated.atT 45).psq.gate = some (10, 40) ∧ (10, 40).snd ≤ (gated.atT 45).now))
    ∧ (((probed.atT 45).psq.probes = [probe2] ∧ probe2.slot = 2 ∧ probe2.endAt ≤ (probed.atT 45).now ∧ (probed.atT 45).on Reg.PSY_OUT_DAC_EN = false)
      ∧ ((looked.atT 45).psq.looks = [look2] ∧ look2.slot = 2 ∧ look2.ended = false ∧ look2.windowEnd ≤ (looked.atT 45).now ∧ (looked.atT 45).now < look2.windowEnd + 10 * 10 ^ 9)
      ∧ (Option.map (fun t => ((tab 201326592).atT t).tuneIfDue) (tab 201326592).nextFetch = some (tabAt (tab 201326592)) ∧ (tabAt (tab 201326592)).psq.state = TabState.running ∧ tabDefined (tabAt (tab 201326592)).tabWord = false)) :=
  ⟨by decide +kernel, by decide +kernel⟩

/-- States and operands that meet the hypotheses of `DriveStagesSwitchAndFault`, a line for each clause; what a clause shares with one above stands there. -/
theorem meets_DriveStagesSwitchAndFault :
    ((1 < ((stage1 { : SrcStage }).atT 7).src.stages.length ∧ 1 ≤ 4 ∧ ((stage1 { : SrcStage }).atT 7).stageMay 1 = true ∧ (((stage1 { : SrcStage }).atT 7).stg 1).running = false)
      ∧ (1 < ((stage1 run1).atT 1000000).src.stages.length ∧ ((stage1 run1).atT 1000000).stageMay 1 = true ∧ (((stage1 run1).atT 1000000).stg 1).running = true ∧ (((stage1 run1).atT 1000000).stg 1).periodAt + (((stage1 run1).atT 1000000).stg 1).per * 400 ≤ ((stage1 run1).atT 1000000).now)
      ∧ (2 < ((stage1 run1).atT 7).src.stages.length ∧ 2 ≤ 4 ∧ ((stage1 run1).atT 7).stageMay 2 = false)
      ∧ (1 < ((stage1 run1).atT 7).src.stages.length ∧ (((stage1 run1).atT 7).stg 1).running = true ∧ 650 < (((stage1 run1).atT 7).stg 1).onTime ∧ (625 ≤ 650 ∨ (((stage1 run1).atT 7).stg 1).onTime < 625) ∧ (((stage1 run1).atT 7).stg 1).ilimRun < 15)
      ∧ (600 < 625 ∧ 625 ≤ (((stage1 run1).atT 7).stg 1).onTime)
      ∧ (1 < ((stage1 { run1 with ilimRun := 15 }).atT 7).src.stages.length ∧ (((stage1 { run1 with ilimRun := 15 }).atT 7).stg 1).running = true ∧ 650 < (((stage1 { run1 with ilimRun := 15 }).atT 7).stg 1).onTime ∧ (625 ≤ 650 ∨ (((stage1 { run1 with ilimRun := 15 }).atT 7).stg 1).onTime < 625) ∧ 15 ≤ (((stage1 { run1 with ilimRun := 15 }).atT 7).stg 1).ilimRun))
    ∧ ((1 < ((stage1 run1).atT 270000).src.stages.length ∧ (((stage1 run1).atT 270000).stg 1).running = true ∧ 625 ≤ (((stage1 run1).atT 270000).stg 1).onTime ∧ (((stage1 run1).atT 270000).stg 1).periodAt + 250000 ≤ ((stage1 run1).atT 270000).now)
      ∧ (1 < ((stage1 { run1 with winCount := 1024, winProven := true }).atT 1000000).src.stages.length ∧ (((stage1 { run1 with winCount := 1024, winProven := true }).atT 1000000).stg 1).running = true ∧ 1024 ≤ (((stage1 { run1 with winCount := 1024, winProven := true }).atT 1000000).stg 1).winCount ∧ (((stage1 { run1 with winCount := 1024, winProven := true }).atT 1000000).stg 1).periodAt + (((stage1 { run1 with winCount := 1024, winProven := true }).atT 1000000).stg 1).per * 400 ≤ ((stage1 { run1 with winCount := 1024, winProven := true }).atT 1000000).now)
      ∧ (1 < ((stage1 { run1 with fault := StageFault.short }).atT 7).src.stages.length ∧ commandable ((stage1 { run1 with fault := StageFault.short }).atT 7) Master.jtag Block.src none ∧ (((stage1 { run1 with fault := StageFault.short }).atT 7).stg 1).fault ≠ StageFault.none)) :=
  ⟨by decide +kernel, by decide +kernel⟩

/-- States and operands that meet the hypotheses of `OpticsChainShiftsItsFrames`, a line for each clause; what a clause shares with one above stands there. -/
theorem meets_OpticsChainShiftsItsFrames :
    ((storeWf (preloadDue.atT 7).regs.live = true ∧ (preloadDue.atT 7).occ.preloadWanted = true ∧ (preloadDue.atT 7).chp.stage = StageState.checking ∧ (preloadDue.atT 7).occ.shifting = none ∧ (preloadDue.atT 7).isolated Block.occ = false ∧ (preloadDue.atT 7).rdStage Reg.OCC_CTL_LEN ≠ 0)
      ∧ (storeWf ((chain StageState.clean).atT 7).regs.live = true ∧ commandable ((chain StageState.clean).atT 7) Master.jtag Block.occ none ∧ ((chain StageState.clean).atT 7).occKept = false ∧ ((chain StageState.clean).atT 7).chp.stage ≠ StageState.checking ∧ ((chain StageState.clean).atT 7).occLen ≠ 0 ∧ ((chain StageState.clean).atT 7).occ.shifting = none ∧ 3 < 16)
      ∧ (storeWf ((chain StageState.checked).atT 7).regs.live = true ∧ commandable ((chain StageState.checked).atT 7) Master.jtag Block.occ none ∧ ((chain StageState.checked).atT 7).occKept = true)
      ∧ (((chain StageState.clean).atT 7).rd Reg.OCC_CTL_REFRESH ≠ 0 ∧ ((chain StageState.clean).atT 7).rd Reg.OCC_CTL_REFRESH ≤ ((chain StageState.clean).atT 7).occ.sinceLatch ∧ ((chain StageState.clean).atT 7).occ.verified = none ∧ ((chain StageState.clean).atT 7).isolated Block.occ = false))
    ∧ ((storeWf ((shifted [7]).atT (10 ^ 9)).regs.live = true ∧ ((shifted [7]).atT (10 ^ 9)).occ.shifting = some (FrameKind.refresh, [1, 2, 3]) ∧ ((shifted [7]).atT (10 ^ 9)).occ.frameAt + ((shifted [7]).atT (10 ^ 9)).occTime [1, 2, 3].length ≤ ((shifted [7]).atT (10 ^ 9)).now ∧ (∀ (x : List (BitVec 16)), ((shifted [7]).atT (10 ^ 9)).occ.shifted = some x → x = [7]) ∧ ((shifted [7]).atT (10 ^ 9)).occ.liveWanted = false)
      ∧ (((shifted [7]).atT (10 ^ 9)).occ.shifted = some [7] ∧ [7] ≠ [8] ∧ ((shifted [7]).atT (10 ^ 9)).occ.streak < 2)
      ∧ (storeWf (verifiedFrame.atT (10 ^ 9)).regs.live = true ∧ (verifiedFrame.atT (10 ^ 9)).occ.verified = some FrameKind.refresh ∧ (verifiedFrame.atT (10 ^ 9)).mayLatch FrameKind.refresh = true ∧ (verifiedFrame.atT (10 ^ 9)).occ.shifted = some [1, 2, 3])) :=
  ⟨by decide +kernel, by decide +kernel⟩

/-- States and operands that meet the hypotheses of `ReceiverGainAndCalibration`, a line for each clause; what a clause shares with one above stands there. -/
theorem meets_ReceiverGainAndCalibration :
    ((storeWf (bin3.atT 3500000).regs.live = true ∧ (bin3.atT 3500000).gainBin = some 3 ∧ 3 < 4096)
      ∧ ((bin3.atT 3500000).on Reg.CRX_CTL_AUTO = true ∧ 0 < 4 ∧ (bin3.atT 3500000).gainCode (if 0 < 2 then Pol.x else Pol.y) ≠ 0)
      ∧ ({ pol := Pol.x, bin := 3, code := 5, clean := 9 : LoweredBin } ∈ (bin3.atT 3500000).crx.lowered ∧ { pol := Pol.x, bin := 3, code := 5, clean := 9 : LoweredBin }.code < (bin3.atT 3500000).tunedCode { pol := Pol.x, bin := 3, code := 5, clean := 9 : LoweredBin }.pol { pol := Pol.x, bin := 3, code := 5, clean := 9 : LoweredBin }.bin ∧ [(Pol.x, 3)].contains ({ pol := Pol.x, bin := 3, code := 5, clean := 9 : LoweredBin }.pol, { pol := Pol.x, bin := 3, code := 5, clean := 9 : LoweredBin }.bin) = true)
      ∧ (storeWf (calRuns.atT 900000000).regs.live = true ∧ 2 < 4 ∧ (calRuns.atT 900000000).on Reg.CAL_CTL_RUN = true ∧ (calRuns.atT 900000000).cal.blockAt.getD 2 0 + 838860800 ≤ (calRuns.atT 900000000).now ∧ (calRuns.atT 900000000).isolated Block.cal = false ∧ (calRuns.atT 900000000).isolatedAt Block.crx (some 2) = false ∧ (calRuns.atT 900000000).calQualifies 2 0 (-1000) = true ∧ 5 < 8)
      ∧ (calRuns.atT 900000000).calQualifies 2 0 (-100000) = false
      ∧ (storeWf (svc.atT 7).regs.live = true ∧ commandable (svc.atT 7) Master.jtag Block.cal none)
      ∧ (storeWf (inTest.atT 7).regs.live = true ∧ commandable (inTest.atT 7) Master.jtag Block.cal none ∧ ((inTest.atT 7).chp.mode = Mode.prep ∨ (inTest.atT 7).chp.mode = Mode.test) ∧ (inTest.atT 7).cal.skewCal = none))
    ∧ (((svc.atT 7).chp.mode ≠ Mode.prep ∧ (svc.atT 7).chp.mode ≠ Mode.test)
      ∧ (storeWf (toneRuns.atT (10 ^ 10)).regs.live = true ∧ (toneRuns.atT (10 ^ 10)).cal.skewCal = some 5 ∧ 5 + 2 * 10 ^ 9 ≤ (toneRuns.atT (10 ^ 10)).now)
      ∧ (storeWf (calRuns.atT (10 ^ 10)).regs.live = true ∧ (calRuns.atT (10 ^ 10)).on Reg.CAL_CTL_PILOT = true ∧ (calRuns.atT (10 ^ 10)).cal.pilotAt + 838860800 ≤ (calRuns.atT (10 ^ 10)).now ∧ (calRuns.atT (10 ^ 10)).isolated Block.cal = false ∧ 16 * 77 ≤ 2 ^ 20)) :=
  ⟨by decide +kernel, by decide +kernel⟩

/-- States and operands that meet the hypotheses of `SlotSamplesReachTheirLooks`, a line for each clause; what a clause shares with one above stands there. -/
theorem meets_SlotSamplesReachTheirLooks :
    ((storeWf ((looking false).atT 5000).regs.live = true ∧ ((looking false).atT 5000).lookOf 5 2 false = some (look5 false) ∧ 5 + 1 < ((looking false).atT 5000).lookSamples 5 ∧ ((looking false).atT 5000).isolated Block.chn = false ∧ shapeKind (((looking false).atT 5000).shapesFor 5) (look5 false).shape = 0 ∧ clampS 16 100 = 100 ∧ clampS 16 (-100) = -100 ∧ clampS 16 32767 = 32767 ∧ clampS 16 (-32768) = -32768)
      ∧ (storeWf ((chirping false).atT 5000).regs.live = true ∧ ((chirping false).atT 5000).lookOf 5 2 false = some (look5 false) ∧ 5 + 1 < ((chirping false).atT 5000).lookSamples 5 ∧ ((chirping false).atT 5000).isolated Block.chn = false ∧ shapeKind (((chirping false).atT 5000).shapesFor 5) (look5 false).shape ≠ 0)
      ∧ (2 < 8 ∧ 32767 < 32768)
      ∧ 31 + 1 = ((looking false).atT 5000).lookSamples 5
      ∧ (storeWf ((compressing true).atT 5000).regs.live = true ∧ ((compressing true).atT 5000).lookOf 5 2 true = some (look5 true) ∧ ((compressing true).atT 5000).isolated Block.pcm = false ∧ List.filter (fun y => y.sweep == 5 && y.slot == 2 && y.pluck == true) ((compressing true).atT 5000).chn.samples ≠ [])
      ∧ (storeWf ((compressing true).atT (10 ^ 9)).regs.live = true ∧ sample5 4 true false ∈ ((compressing true).atT (10 ^ 9)).chn.samples ∧ (sample5 4 true false).arrivedAt + 2 ^ ((compressing true).atT (10 ^ 9)).nfftLog (sample5 4 true false).sweep (sample5 4 true false).slot * 10000 + 4000000 < ((compressing true).atT (10 ^ 9)).now)) :=
  by decide +kernel

/-- States and operands that meet the hypotheses of `PositionsFollowTheirLooks`, a line for each clause; what a clause shares with one above stands there. -/
theorem meets_PositionsFollowTheirLooks :
    (2 < 8 ∧ List.find? (fun y => y.sweep == 5 && y.slot == 2 && y.p == 5 && y.pluck == false) ((positioned false true).atT 5000).pcm.outs = some (sample5 5 false true) ∧ ((positioned false true).atT 5000).lookOf 5 2 false = some (look5 false) ∧ ((positioned false true).atT 5000).isolated Block.phs = false ∧ ((positioned false true).atT 5000).phs.restarting = false ∧ ((positioned false true).atT 5000).phsInOrder (look5 false) 5 = true ∧ ((positioned false true).atT 5000).rdFor 5 Reg.PHS_GAUGE_G ≤ 5 ∧ (5, 2, 3, 256) ∈ ((positioned false true).atT 5000).phs.phases ∧ List.find? (fun y => y.fst == 5 && y.snd.fst == 2 && y.snd.snd.fst + ((positioned false true).atT 5000).rdFor 5 Reg.PHS_GAUGE_G == 5) ((positioned false true).atT 5000).phs.phases = some (5, 2, 3, 256) ∧ ((positioned false true).atT 5000).rdFor 5 Reg.PHS_RANGE_CAPO ≤ 5 ∧ 5 ≤ ((positioned false true).atT 5000).rdFor 5 Reg.PHS_RANGE_END ∧ (sample5 5 false true).touched = true)
    ∧ (List.find? (fun y => y.sweep == 5 && y.slot == 2 && y.p == 5 && y.pluck == false) ((positioned false false).atT 5000).pcm.outs = some (sample5 5 false false) ∧ ((positioned false false).atT 5000).lookOf 5 2 false = some (look5 false) ∧ ((positioned false false).atT 5000).isolated Block.phs = false ∧ ((positioned false false).atT 5000).phs.restarting = false ∧ ((positioned false false).atT 5000).phsInOrder (look5 false) 5 = true ∧ ((positioned false false).atT 5000).rdFor 5 Reg.PHS_GAUGE_G ≤ 5 ∧ List.find? (fun y => y.fst == 5 && y.snd.fst == 2 && y.snd.snd.fst + ((positioned false false).atT 5000).rdFor 5 Reg.PHS_GAUGE_G == 5) ((positioned false false).atT 5000).phs.phases = some (5, 2, 3, 256) ∧ ((positioned false false).atT 5000).rdFor 5 Reg.PHS_RANGE_CAPO ≤ 5 ∧ 5 ≤ ((positioned false false).atT 5000).rdFor 5 Reg.PHS_RANGE_END ∧ (sample5 5 false false).isBad (((positioned false false).atT 5000).rdFor 5 Reg.PHS_GAUGE_G) = false ∧ (sample5 5 false false).noX = false ∧ (sample5 5 false false).noY = false ∧ ((positioned false false).atT 5000).reseating (((positioned false false).atT 5000).posState 5) 5 = false ∧ (((positioned false false).atT 5000).posState 5).seeded = true ∧ (((positioned false false).atT 5000).posState 5).run = 0 ∧ (((positioned false false).atT 5000).posState 5).slots.length = 8 ∧ ((((positioned false false).atT 5000).posState 5).slots.getD 2 { : SlotState }).seeded = true ∧ ((((positioned false false).atT 5000).posState 5).slots.getD 2 { : SlotState }).faded = 0 ∧ 1 ≤ (((positioned false false).atT 5000).phsTuning 5).n ∧ weight (sample5 5 false false).combine.pw ((((positioned false false).atT 5000).posState 5).slots.getD 2 { : SlotState }).m (((positioned false false).atT 5000).phsTuning 5).floor true = 4 ∧ (sample5 5 false false).combine.close = false)
    ∧ ((List.find? (fun y => y.sweep == 5 && y.slot == 2 && y.p == 5 && y.pluck == false) (behind.atT 5000).pcm.outs = some (sample5 5 false false) ∧ (behind.atT 5000).lookOf 5 2 false = some (look5 false) ∧ (behind.atT 5000).isolated Block.phs = false ∧ (behind.atT 5000).phs.restarting = false ∧ (behind.atT 5000).phsInOrder (look5 false) 5 = false)
      ∧ (List.find? (fun y => y.sweep == 5 && y.slot == 2 && y.p == 5 && y.pluck == false) ({ positioned false false with phs := { (positioned false false).phs with phases := [] } }.atT 5000).pcm.outs = some (sample5 5 false false) ∧ ({ positioned false false with phs := { (positioned false false).phs with phases := [] } }.atT 5000).lookOf 5 2 false = some (look5 false) ∧ ({ positioned false false with phs := { (positioned false false).phs with phases := [] } }.atT 5000).isolated Block.phs = false ∧ ({ positioned false false with phs := { (positioned false false).phs with phases := [] } }.atT 5000).phs.restarting = false ∧ ({ positioned false false with phs := { (positioned false false).phs with phases := [] } }.atT 5000).phsInOrder (look5 false) 5 = true ∧ ({ positioned false false with phs := { (positioned false false).phs with phases := [] } }.atT 5000).rdFor 5 Reg.PHS_GAUGE_G ≤ 5 ∧ List.find? (fun y => y.fst == 5 && y.snd.fst == 2 && y.snd.snd.fst + ({ positioned false false with phs := { (positioned false false).phs with phases := [] } }.atT 5000).rdFor 5 Reg.PHS_GAUGE_G == 5) ({ positioned false false with phs := { (positioned false false).phs with phases := [] } }.atT 5000).phs.phases = none)
      ∧ (List.find? (fun y => y.sweep == 5 && y.slot == 2 && y.p == 5 && y.pluck == false) ({ positioned false false with psq := { (looking true).psq with looks := [look5 true, look5 false] }, pcm := { outs := [sample5 5 true false, sample5 5 false true] : Pcm } }.atT 5000).pcm.outs = some (sample5 5 false true) ∧ ({ positioned false false with psq := { (looking true).psq with looks := [look5 true, look5 false] }, pcm := { outs := [sample5 5 true false, sample5 5 false true] : Pcm } }.atT 5000).lookOf 5 2 false = some (look5 false) ∧ ({ positioned false false with psq := { (looking true).psq with looks := [look5 true, look5 false] }, pcm := { outs := [sample5 5 true false, sample5 5 false true] : Pcm } }.atT 5000).isolated Block.phs = false ∧ ({ positioned false false with psq := { (looking true).psq with looks := [look5 true, look5 false] }, pcm := { outs := [sample5 5 true false, sample5 5 false true] : Pcm } }.atT 5000).phs.restarting = false ∧ List.find? (fun y => y.sweep == 5 && y.slot == 2 && y.p == 5 && y.pluck == true) ({ positioned false false with psq := { (looking true).psq with looks := [look5 true, look5 false] }, pcm := { outs := [sample5 5 true false, sample5 5 false true] : Pcm } }.atT 5000).pcm.outs = some (sample5 5 true false) ∧ ({ positioned false false with psq := { (looking true).psq with looks := [look5 true, look5 false] }, pcm := { outs := [sample5 5 true false, sample5 5 false true] : Pcm } }.atT 5000).lookOf 5 2 true = some (look5 true))) :=
  ⟨by decide +kernel, by decide +kernel, by decide +kernel⟩

/-- States and operands that meet the hypotheses of `FiltersTakeWholeLooks`, a line for each clause; what a clause shares with one above stands there. -/
theorem meets_FiltersTakeWholeLooks :
    ((storeWf (filtered.atT 5000).regs.live = true ∧ (filtered.atT 5000).phs.out.head? = some { sweep := 5, slot := 2, pos := 4 + 0, fireT := 77, value := 9, reset := 0 == 1, dark := false, isPartial := false, late := false, collided := false : PosSample } ∧ (filtered.atT 5000).isolated Block.pfl = false ∧ (filtered.atT 5000).pfl.resetAtLook = false ∧ (filtered.atT 5000).pfl.resetAtSweep = none ∧ (List.filter (fun y => y.sweep == { sweep := 5, slot := 2, pos := 4 + 0, fireT := 77, value := 9, reset := 0 == 1, dark := false, isPartial := false, late := false, collided := false : PosSample }.sweep && y.slot == { sweep := 5, slot := 2, pos := 4 + 0, fireT := 77, value := 9, reset := 0 == 1, dark := false, isPartial := false, late := false, collided := false : PosSample }.slot && y.fireT == { sweep := 5, slot := 2, pos := 4 + 0, fireT := 77, value := 9, reset := 0 == 1, dark := false, isPartial := false, late := false, collided := false : PosSample }.fireT) (filtered.atT 5000).phs.out).length = ((filtered.atT 5000).positions { sweep := 5, slot := 2, pos := 4 + 0, fireT := 77, value := 9, reset := 0 == 1, dark := false, isPartial := false, late := false, collided := false : PosSample }.sweep).length ∧ (filtered.atT 5000).medianHalf { sweep := 5, slot := 2, pos := 4 + 0, fireT := 77, value := 9, reset := 0 == 1, dark := false, isPartial := false, late := false, collided := false : PosSample }.sweep = 0 ∧ (filtered.atT 5000).rdFor { sweep := 5, slot := 2, pos := 4 + 0, fireT := 77, value := 9, reset := 0 == 1, dark := false, isPartial := false, late := false, collided := false : PosSample }.sweep Reg.PFL_TAP_RING = 0 ∧ (filtered.atT 5000).rng.queue.length < 4 ∧ ((filtered.atT 5000).kpe.subs.all fun x => x.isNone) = true)
      ∧ (storeWf ({ filtered with chp := { svc.chp with isolated := [{ block := Block.pfl, unit := none, deadline := none : Isolation }] } }.atT 5000).regs.live = true ∧ ({ filtered with chp := { svc.chp with isolated := [{ block := Block.pfl, unit := none, deadline := none : Isolation }] } }.atT 5000).phs.out.head? = some { sweep := 5, slot := 2, pos := 4 + 0, fireT := 77, value := 9, reset := 0 == 1, dark := false, isPartial := false, late := false, collided := false : PosSample } ∧ ({ filtered with chp := { svc.chp with isolated := [{ block := Block.pfl, unit := none, deadline := none : Isolation }] } }.atT 5000).isolated Block.pfl = true ∧ (List.filter (fun y => y.sweep == { sweep := 5, slot := 2, pos := 4 + 0, fireT := 77, value := 9, reset := 0 == 1, dark := false, isPartial := false, late := false, collided := false : PosSample }.sweep && y.slot == { sweep := 5, slot := 2, pos := 4 + 0, fireT := 77, value := 9, reset := 0 == 1, dark := false, isPartial := false, late := false, collided := false : PosSample }.slot && y.fireT == { sweep := 5, slot := 2, pos := 4 + 0, fireT := 77, value := 9, reset := 0 == 1, dark := false, isPartial := false, late := false, collided := false : PosSample }.fireT) ({ filtered with chp := { svc.chp with isolated := [{ block := Block.pfl, unit := none, deadline := none : Isolation }] } }.atT 5000).phs.out).length = (({ filtered with chp := { svc.chp with isolated := [{ block := Block.pfl, unit := none, deadline := none : Isolation }] } }.atT 5000).positions { sweep := 5, slot := 2, pos := 4 + 0, fireT := 77, value := 9, reset := 0 == 1, dark := false, isPartial := false, late := false, collided := false : PosSample }.sweep).length)
      ∧ (storeWf (flushing.atT 5000).regs.live = true ∧ (flushing.atT 5000).pfl.haltReported = true ∧ (flushing.atT 5000).allArrived = true ∧ (flushing.atT 5000).pfl.looks.length ≤ 4 ∧ (flushing.atT 5000).rng.queue = [])) :=
  by decide +kernel

/-- States and operands that meet the hypotheses of `RamanSweepsBecomeProfiles`, a line for each clause; what a clause shares with one above stands there. -/
theorem meets_RamanSweepsBecomeProfiles :
    ((storeWf ((raman true).atT (10 ^ 12)).regs.live = true ∧ ((raman true).atT (10 ^ 12)).rdFor 5 Reg.RMX_CTL_EN = 1 ∧ ((raman true).atT (10 ^ 12)).ramanReady 5 = true ∧ ((raman true).atT (10 ^ 12)).isolated Block.rmx = false ∧ ((raman true).atT (10 ^ 12)).isolated Block.dts = false ∧ ((raman true).atT (10 ^ 12)).skipReason 5 false = none ∧ ((raman true).atT (10 ^ 12)).skipped 5 = false ∧ ((raman true).atT (10 ^ 12)).dts.active = true ∧ ((raman true).atT (10 ^ 12)).dts.unload = [] ∧ ((raman true).atT (10 ^ 12)).rd Reg.DTS_CTL_ACC_LOG2 = ((raman true).atT (10 ^ 12)).rdFor 5 Reg.DTS_CTL_ACC_LOG2 ∧ ((raman true).atT (10 ^ 12)).dts.blk.block = 5 / 2 ^ ((raman true).atT (10 ^ 12)).rdFor 5 Reg.DTS_CTL_ACC_LOG2 ∧ ((raman true).atT (10 ^ 12)).dts.skipBlock ≠ some (5 / 2 ^ ((raman true).atT (10 ^ 12)).rdFor 5 Reg.DTS_CTL_ACC_LOG2) ∧ [1, 2, 3, 4, 5, 6].length = ((raman true).atT (10 ^ 12)).ramanBins 5 ∧ [6, 5, 4, 3, 2, 1].length = ((raman true).atT (10 ^ 12)).ramanBins 5 ∧ (List.replicate 512 3).length = 2 ^ ((raman true).atT (10 ^ 12)).baseLog 5 ∧ (List.replicate 512 5).length = 2 ^ ((raman true).atT (10 ^ 12)).baseLog 5 ∧ ((([1, 2, 3, 4, 5, 6] : List Int) ++ [6, 5, 4, 3, 2, 1] ++ List.replicate 512 3 ++ List.replicate 512 5).all fun x => decide (-8192 < x) && decide (x < 8191)) = true)
      ∧ (storeWf ((raman false).atT (10 ^ 12)).regs.live = true ∧ ((raman false).atT (10 ^ 12)).rdFor 5 Reg.RMX_CTL_EN = 1 ∧ ((raman false).atT (10 ^ 12)).ramanReady 5 = true ∧ ((raman false).atT (10 ^ 12)).isolated Block.rmx = false ∧ ((raman false).atT (10 ^ 12)).isolated Block.dts = false ∧ ((raman false).atT (10 ^ 12)).skipReason 5 false = some SkipReason.apd ∧ ((raman false).atT (10 ^ 12)).skipped 5 = false))
    ∧ ((storeWf ((liveTo (raman false) [(1048616, 5000#32)]).atT (10 ^ 12)).regs.live = true ∧ ((liveTo (raman false) [(1048616, 5000#32)]).atT (10 ^ 12)).dts.active = true ∧ ((liveTo (raman false) [(1048616, 5000#32)]).atT (10 ^ 12)).sweep / 2 ^ ((liveTo (raman false) [(1048616, 5000#32)]).atT (10 ^ 12)).rd Reg.DTS_CTL_ACC_LOG2 ≠ ((liveTo (raman false) [(1048616, 5000#32)]).atT (10 ^ 12)).dts.blk.block)
      ∧ (storeWf (unloaded.atT (10 ^ 12)).regs.live = true ∧ { blk := { block := 2, acc0 := [9, 9, 9, 9, 9, 9], acc1 := [8, 8, 8, 8, 8, 8], m := 1024 : DtsBlock }, a := 10, old := false, gamma := 5, c0 := 6, lastSweep := 3071, deadline := 40 : DtsUnload } ∈ (unloaded.atT (10 ^ 12)).dts.unload ∧ { blk := { block := 2, acc0 := [9, 9, 9, 9, 9, 9], acc1 := [8, 8, 8, 8, 8, 8], m := 1024 : DtsBlock }, a := 10, old := false, gamma := 5, c0 := 6, lastSweep := 3071, deadline := 40 : DtsUnload }.deadline < (unloaded.atT (10 ^ 12)).now ∧ (unloaded.atT (10 ^ 12)).isolated Block.dts = false)
      ∧ ((unloaded.atT (10 ^ 12)).dts.unload = [{ blk := { block := 2, acc0 := [9, 9, 9, 9, 9, 9], acc1 := [8, 8, 8, 8, 8, 8], m := 1024 : DtsBlock }, a := 10, old := false, gamma := 5, c0 := 6, lastSweep := 3071, deadline := 40 : DtsUnload }] ∧ (unloaded.atT (10 ^ 12)).rdOwn { blk := { block := 2, acc0 := [9, 9, 9, 9, 9, 9], acc1 := [8, 8, 8, 8, 8, 8], m := 1024 : DtsBlock }, a := 10, old := false, gamma := 5, c0 := 6, lastSweep := 3071, deadline := 40 : DtsUnload }.old Reg.DTS_CTL_EN = 1)) :=
  ⟨by decide +kernel, by decide +kernel⟩

/-- States and operands that meet the hypotheses of `CoresRunScalarInstructions`, a line for each clause; what a clause shares with one above stands there. -/
theorem meets_CoresRunScalarInstructions :
    (((issued (aw 1 0 0 0 0 0 0 0 4096) tileCore).core 5).run = RunKind.tile
      ∧ ((issued (aw 1 0 0 0 0 0 0 0 0) { tileCore with run := RunKind.init, needInit := true }).core 5).run = RunKind.init
      ∧ (((issued (aw 1 0 0 0 0 0 0 0 0) { tileCore with run := RunKind.fend }).core 5).run = RunKind.fend ∧ ((issued (aw 1 0 0 0 0 0 0 0 0) { tileCore with run := RunKind.fend }).core 5).frame = some frame7 ∧ ((issued (aw 1 0 0 0 0 0 0 0 0) { tileCore with run := RunKind.fend }).core 5).lastReady = none ∧ storeWf (issued (aw 1 0 0 0 0 0 0 0 0) { tileCore with run := RunKind.fend }).regs.live = true)
      ∧ branchTaken (aarFields (aw 3 2 1 2 0 0 0 0 77)).b ((coreOn (issued (aw 3 2 1 2 0 0 0 0 77) tileCore) 5 (aw 3 2 1 2 0 0 0 0 77) 20 0).sr (aarFields (aw 3 2 1 2 0 0 0 0 77)).d) ((coreOn (issued (aw 3 2 1 2 0 0 0 0 77) tileCore) 5 (aw 3 2 1 2 0 0 0 0 77) 20 0).sr (aarFields (aw 3 2 1 2 0 0 0 0 77)).a) = true
      ∧ branchTaken (aarFields (aw 3 2 1 4 0 0 0 0 77)).b ((coreOn (issued (aw 3 2 1 4 0 0 0 0 77) tileCore) 5 (aw 3 2 1 4 0 0 0 0 77) 20 0).sr (aarFields (aw 3 2 1 4 0 0 0 0 77)).d) ((coreOn (issued (aw 3 2 1 4 0 0 0 0 77) tileCore) 5 (aw 3 2 1 4 0 0 0 0 77) 20 0).sr (aarFields (aw 3 2 1 4 0 0 0 0 77)).a) = false
      ∧ ((aarFields (aw 4 0 0 0 0 0 0 3 77)).d = 0 ∧ (aarFields (aw 4 0 0 0 0 0 0 3 77)).hi ≠ 0)
      ∧ ((aarFields (aw 4 4 0 0 0 0 0 3 77)).d ≠ 0 ∧ ((coreOn (issued (aw 4 4 0 0 0 0 0 3 77) tileCore) 5 (aw 4 4 0 0 0 0 0 3 77) 20 0).sr (aarFields (aw 4 4 0 0 0 0 0 3 77)).d).toNat ≤ (aarFields (aw 4 4 0 0 0 0 0 3 77)).hi ∧ (coreOn (issued (aw 4 4 0 0 0 0 0 3 77) tileCore) 5 (aw 4 4 0 0 0 0 0 3 77) 20 0).sr (aarFields (aw 4 4 0 0 0 0 0 3 77)).d ≠ 0)
      ∧ ((aarFields (aw 4 7 0 0 0 0 0 3 77)).d ≠ 0 ∧ (coreOn (issued (aw 4 7 0 0 0 0 0 3 77) tileCore) 5 (aw 4 7 0 0 0 0 0 3 77) 20 0).sr (aarFields (aw 4 7 0 0 0 0 0 3 77)).d = 0))
    ∧ aarIssues (running (aw 0 0 0 0 0 0 0 0 0) tileCore) 5 (aw 0 0 0 0 0 0 0 0 0) 0 20 (issued (aw 0 0 0 0 0 0 0 0 0) tileCore)
    ∧ aarIssues (running (aw 1 0 0 0 0 0 0 0 4096) tileCore) 5 (aw 1 0 0 0 0 0 0 0 4096) 1 20 (issued (aw 1 0 0 0 0 0 0 0 4096) tileCore)
    ∧ aarIssues (running (aw 1 0 0 0 0 0 0 0 0) { tileCore with run := RunKind.init, needInit := true }) 5 (aw 1 0 0 0 0 0 0 0 0) 1 20 (issued (aw 1 0 0 0 0 0 0 0 0) { tileCore with run := RunKind.init, needInit := true })
    ∧ aarIssues (running (aw 1 0 0 0 0 0 0 0 0) { tileCore with run := RunKind.fend }) 5 (aw 1 0 0 0 0 0 0 0 0) 1 20 (issued (aw 1 0 0 0 0 0 0 0 0) { tileCore with run := RunKind.fend })
    ∧ aarIssues (running (aw 2 0 0 0 0 0 0 0 77) tileCore) 5 (aw 2 0 0 0 0 0 0 0 77) 2 20 (issued (aw 2 0 0 0 0 0 0 0 77) tileCore)
    ∧ aarIssues (running (aw 3 2 1 2 0 0 0 0 77) tileCore) 5 (aw 3 2 1 2 0 0 0 0 77) 3 20 (issued (aw 3 2 1 2 0 0 0 0 77) tileCore)
    ∧ aarIssues (running (aw 3 2 1 4 0 0 0 0 77) tileCore) 5 (aw 3 2 1 4 0 0 0 0 77) 3 20 (issued (aw 3 2 1 4 0 0 0 0 77) tileCore)
    ∧ aarIssues (running (aw 4 0 0 0 0 0 0 3 77) tileCore) 5 (aw 4 0 0 0 0 0 0 3 77) 4 20 (issued (aw 4 0 0 0 0 0 0 3 77) tileCore)
    ∧ aarIssues (running (aw 4 4 0 0 0 0 0 3 77) tileCore) 5 (aw 4 4 0 0 0 0 0 3 77) 4 20 (issued (aw 4 4 0 0 0 0 0 3 77) tileCore)
    ∧ aarIssues (running (aw 4 7 0 0 0 0 0 3 77) tileCore) 5 (aw 4 7 0 0 0 0 0 3 77) 4 20 (issued (aw 4 7 0 0 0 0 0 3 77) tileCore)
    ∧ aarIssues (running (aw 16 3 0 0 0 0 0 4660 22136) tileCore) 5 (aw 16 3 0 0 0 0 0 4660 22136) 16 20 (issued (aw 16 3 0 0 0 0 0 4660 22136) tileCore)
    ∧ aarIssues (running (aw 17 5 8 2 0 0 0 65535 22136) tileCore) 5 (aw 17 5 8 2 0 0 0 65535 22136) 17 20 (issued (aw 17 5 8 2 0 0 0 65535 22136) tileCore)
    ∧ aarIssues (running (aw 18 5 8 2 0 0 0 65535 22136) tileCore) 5 (aw 18 5 8 2 0 0 0 65535 22136) 18 20 (issued (aw 18 5 8 2 0 0 0 65535 22136) tileCore)
    ∧ aarIssues (running (aw 19 5 8 2 0 0 0 65535 22136) tileCore) 5 (aw 19 5 8 2 0 0 0 65535 22136) 19 20 (issued (aw 19 5 8 2 0 0 0 65535 22136) tileCore)
    ∧ aarIssues (running (aw 20 5 8 2 0 0 0 65535 22136) tileCore) 5 (aw 20 5 8 2 0 0 0 65535 22136) 20 20 (issued (aw 20 5 8 2 0 0 0 65535 22136) tileCore)
    ∧ aarIssues (running (aw 21 5 2 0 0 0 0 0 65535) tileCore) 5 (aw 21 5 2 0 0 0 0 0 65535) 21 20 (issued (aw 21 5 2 0 0 0 0 0 65535) tileCore)
    ∧ aarIssues (running (aw 22 5 2 0 0 0 0 0 65524) tileCore) 5 (aw 22 5 2 0 0 0 0 0 65524) 22 20 (issued (aw 22 5 2 0 0 0 0 0 65524) tileCore)
    ∧ aarIssues (running (aw 23 5 2 1 0 0 0 0 22136) tileCore) 5 (aw 23 5 2 1 0 0 0 0 22136) 23 20 (issued (aw 23 5 2 1 0 0 0 0 22136) tileCore)
    ∧ aarIssues (running (aw 24 5 2 1 0 0 0 0 22136) tileCore) 5 (aw 24 5 2 1 0 0 0 0 22136) 24 20 (issued (aw 24 5 2 1 0 0 0 0 22136) tileCore)
    ∧ aarIssues (running (aw 25 5 2 1 0 0 0 0 22136) tileCore) 5 (aw 25 5 2 1 0 0 0 0 22136) 25 20 (issued (aw 25 5 2 1 0 0 0 0 22136) tileCore)
    ∧ aarIssues (running (aw 26 5 2 1 0 0 0 0 22136) tileCore) 5 (aw 26 5 2 1 0 0 0 0 22136) 26 20 (issued (aw 26 5 2 1 0 0 0 0 22136) tileCore) :=
  ⟨by decide +kernel, ⟨by decide +kernel, by decide +kernel, by decide +kernel, by decide +kernel, by decide +kernel, by decide +kernel, by decide +kernel, by decide +kernel, by decide +kernel, _, rfl, by decide +kernel, rfl⟩, ⟨by decide +kernel, by decide +kernel, by decide +kernel, by decide +kernel, by decide +kernel, by decide +kernel, by decide +kernel, by decide +kernel, by decide +kernel, _, rfl, by decide +kernel, rfl⟩, ⟨by decide +kernel, by decide +kernel, by decide +kernel, by decide +kernel, by decide +kernel, by decide +kernel, by decide +kernel, by decide +kernel, by decide +kernel, _, rfl, by decide +kernel, rfl⟩, ⟨by decide +kernel, by decide +kernel, by decide +kernel, by decide +kernel, by decide +kernel, by decide +kernel, by decide +kernel, by decide +kernel, by decide +kernel, _, rfl, by decide +kernel, rfl⟩, ⟨by decide +kernel, by decide +kernel, by decide +kernel, by decide +kernel, by decide +kernel, by decide +kernel, by decide +kernel, by decide +kernel, by decide +kernel, _, rfl, by decide +kernel, rfl⟩, ⟨by decide +kernel, by decide +kernel, by decide +kernel, by decide +kernel, by decide +kernel, by decide +kernel, by decide +kernel, by decide +kernel, by decide +kernel, _, rfl, by decide +kernel, rfl⟩, ⟨by decide +kernel, by decide +kernel, by decide +kernel, by decide +kernel, by decide +kernel, by decide +kernel, by decide +kernel, by decide +kernel, by decide +kernel, _, rfl, by decide +kernel, rfl⟩, ⟨by decide +kernel, by decide +kernel, by decide +kernel, by decide +kernel, by decide +kernel, by decide +kernel, by decide +kernel, by decide +kernel, by decide +kernel, _, rfl, by decide +kernel, rfl⟩, ⟨by decide +kernel, by decide +kernel, by decide +kernel, by decide +kernel, by decide +kernel, by decide +kernel, by decide +kernel, by decide +kernel, by decide +kernel, _, rfl, by decide +kernel, rfl⟩, ⟨by decide +kernel, by decide +kernel, by decide +kernel, by decide +kernel, by decide +kernel, by decide +kernel, by decide +kernel, by decide +kernel, by decide +kernel, _, rfl, by decide +kernel, rfl⟩, ⟨by decide +kernel, by decide +kernel, by decide +kernel, by decide +kernel, by decide +kernel, by decide +kernel, by decide +kernel, by decide +kernel, by decide +kernel, _, rfl, by decide +kernel, rfl⟩, ⟨by decide +kernel, by decide +kernel, by decide +kernel, by decide +kernel, by decide +kernel, by decide +kernel, by decide +kernel, by decide +kernel, by decide +kernel, _, rfl, by decide +kernel, rfl⟩, ⟨by decide +kernel, by decide +kernel, by decide +kernel, by decide +kernel, by decide +kernel, by decide +kernel, by decide +kernel, by decide +kernel, by decide +kernel, _, rfl, by decide +kernel, rfl⟩, ⟨by decide +kernel, by decide +kernel, by decide +kernel, by decide +kernel, by decide +kernel, by decide +kernel, by decide +kernel, by decide +kernel, by decide +kernel, _, rfl, by decide +kernel, rfl⟩, ⟨by decide +kernel, by decide +kernel, by decide +kernel, by decide +kernel, by decide +kernel, by decide +kernel, by decide +kernel, by decide +kernel, by decide +kernel, _, rfl, by decide +kernel, rfl⟩, ⟨by decide +kernel, by decide +kernel, by decide +kernel, by decide +kernel, by decide +kernel, by decide +kernel, by decide +kernel, by decide +kernel, by decide +kernel, _, rfl, by decide +kernel, rfl⟩, ⟨by decide +kernel, by decide +kernel, by decide +kernel, by decide +kernel, by decide +kernel, by decide +kernel, by decide +kernel, by decide +kernel, by decide +kernel, _, rfl, by decide +kernel, rfl⟩, ⟨by decide +kernel, by decide +kernel, by decide +kernel, by decide +kernel, by decide +kernel, by decide +kernel, by decide +kernel, by decide +kernel, by decide +kernel, _, rfl, by decide +kernel, rfl⟩, ⟨by decide +kernel, by decide +kernel, by decide +kernel, by decide +kernel, by decide +kernel, by decide +kernel, by decide +kernel, by decide +kernel, by decide +kernel, _, rfl, by decide +kernel, rfl⟩, ⟨by decide +kernel, by decide +kernel, by decide +kernel, by decide +kernel, by decide +kernel, by decide +kernel, by decide +kernel, by decide +kernel, by decide +kernel, _, rfl, by decide +kernel, rfl⟩, ⟨by decide +kernel, by decide +kernel, by decide +kernel, by decide +kernel, by decide +kernel, by decide +kernel, by decide +kernel, by decide +kernel, by decide +kernel, _, rfl, by decide +kernel, rfl⟩⟩

/-- States and operands that meet the hypotheses of `CoresRunVectorInstructions`, a line for each clause; what a clause shares with one above stands there. -/
theorem meets_CoresRunVectorInstructions :
    ((aw 29 5 0 0 0 0 0 0 0).toNat % 2 ^ 16 = 0
      ∧ (aw 29 5 0 0 0 0 0 0 256).toNat % 2 ^ 16 = 256
      ∧ (aw 29 5 0 0 0 0 0 0 1).toNat % 2 ^ 16 = 1
      ∧ (aw 29 5 0 0 0 0 0 0 2).toNat % 2 ^ 16 = 2
      ∧ ((aw 29 5 0 0 0 0 0 0 3).toNat % 2 ^ 16 = 3 ∧ (coreOn (issued (aw 29 5 0 0 0 0 0 0 3) tileCore) 5 (aw 29 5 0 0 0 0 0 0 3) 20 0).frame = some frame7)
      ∧ ((running (aw 63 0 4 2 0 0 0 0 257) tileCore).corePlaces 5).contains (((coreOn (issued (aw 63 0 4 2 0 0 0 0 257) tileCore) 5 (aw 63 0 4 2 0 0 0 0 257) 20 0).sr (aarFields (aw 63 0 4 2 0 0 0 0 257)).a).toNat, (aw 63 0 4 2 0 0 0 0 257).toNat % 8) = false
      ∧ (aarFields (aw 32 3 0 0 1 0 0 5 65520)).mode = 0
      ∧ ((aarFields (aw 32 3 0 0 1 1 0 9 8)).mode = 1 ∧ (coreOn (issued (aw 32 3 0 0 1 1 0 9 8) tileCore) 5 (aw 32 3 0 0 1 1 0 9 8) 20 0).icnt < 2 ^ 32)
      ∧ (aarFields (aw 33 1 0 0 1 1 0 5 65520)).mode = 1
      ∧ (aarFields (aw 33 1 0 0 2 0 0 5 65520)).mode = 0
      ∧ (aarFields (aw 41 3 0 0 0 0 2 0 0)).mode = 0
      ∧ (aarFields (aw 41 3 0 0 0 1 0 0 0)).mode = 1
      ∧ ((tunedTo (running (aw 63 0 4 2 0 0 0 0 257) tileCore) own5).corePlaces 5).contains (((coreOn (tunedTo (issued (aw 63 0 4 2 0 0 0 0 257) tileCore) own5) 5 (aw 63 0 4 2 0 0 0 0 257) 20 0).sr (aarFields (aw 63 0 4 2 0 0 0 0 257)).a).toNat, (aw 63 0 4 2 0 0 0 0 257).toNat % 8) = true)
    ∧ aarIssues (running (aw 27 5 1 0 0 0 0 0 6) tileCore) 5 (aw 27 5 1 0 0 0 0 0 6) 27 20 (issued (aw 27 5 1 0 0 0 0 0 6) tileCore)
    ∧ aarIssues (running (aw 28 0 2 2 0 0 0 0 6) tileCore) 5 (aw 28 0 2 2 0 0 0 0 6) 28 20 (issued (aw 28 0 2 2 0 0 0 0 6) tileCore)
    ∧ aarIssues (running (aw 29 5 0 0 0 0 0 0 0) tileCore) 5 (aw 29 5 0 0 0 0 0 0 0) 29 20 (issued (aw 29 5 0 0 0 0 0 0 0) tileCore)
    ∧ aarIssues (running (aw 29 5 0 0 0 0 0 0 256) tileCore) 5 (aw 29 5 0 0 0 0 0 0 256) 29 20 (issued (aw 29 5 0 0 0 0 0 0 256) tileCore)
    ∧ aarIssues (running (aw 29 5 0 0 0 0 0 0 1) tileCore) 5 (aw 29 5 0 0 0 0 0 0 1) 29 20 (issued (aw 29 5 0 0 0 0 0 0 1) tileCore)
    ∧ aarIssues (running (aw 29 5 0 0 0 0 0 0 2) tileCore) 5 (aw 29 5 0 0 0 0 0 0 2) 29 20 (issued (aw 29 5 0 0 0 0 0 0 2) tileCore)
    ∧ aarIssues (running (aw 29 5 0 0 0 0 0 0 3) tileCore) 5 (aw 29 5 0 0 0 0 0 0 3) 29 20 (issued (aw 29 5 0 0 0 0 0 0 3) tileCore)
    ∧ aarIssues (running (aw 63 0 4 2 0 0 0 0 257) tileCore) 5 (aw 63 0 4 2 0 0 0 0 257) 63 20 (issued (aw 63 0 4 2 0 0 0 0 257) tileCore)
    ∧ aarIssues (running (aw 32 3 0 0 1 0 0 5 65520) tileCore) 5 (aw 32 3 0 0 1 0 0 5 65520) 32 20 (issued (aw 32 3 0 0 1 0 0 5 65520) tileCore)
    ∧ aarIssues (running (aw 32 3 0 0 1 1 0 9 8) tileCore) 5 (aw 32 3 0 0 1 1 0 9 8) 32 20 (issued (aw 32 3 0 0 1 1 0 9 8) tileCore)
    ∧ aarIssues (running (aw 33 1 0 0 1 1 0 5 65520) tileCore) 5 (aw 33 1 0 0 1 1 0 5 65520) 33 20 (issued (aw 33 1 0 0 1 1 0 5 65520) tileCore)
    ∧ aarIssues (running (aw 33 1 0 0 2 0 0 5 65520) tileCore) 5 (aw 33 1 0 0 2 0 0 5 65520) 33 20 (issued (aw 33 1 0 0 2 0 0 5 65520) tileCore)
    ∧ aarIssues (running (aw 34 3 1 2 0 0 0 0 0) tileCore) 5 (aw 34 3 1 2 0 0 0 0 0) 34 20 (issued (aw 34 3 1 2 0 0 0 0 0) tileCore)
    ∧ aarIssues (running (aw 35 3 1 2 0 0 0 0 0) tileCore) 5 (aw 35 3 1 2 0 0 0 0 0) 35 20 (issued (aw 35 3 1 2 0 0 0 0 0) tileCore)
    ∧ aarIssues (running (aw 36 3 1 2 0 0 0 0 0) tileCore) 5 (aw 36 3 1 2 0 0 0 0 0) 36 20 (issued (aw 36 3 1 2 0 0 0 0 0) tileCore)
    ∧ aarIssues (running (aw 37 3 1 2 0 0 0 0 0) tileCore) 5 (aw 37 3 1 2 0 0 0 0 0) 37 20 (issued (aw 37 3 1 2 0 0 0 0 0) tileCore)
    ∧ aarIssues (running (aw 38 0 1 2 0 0 0 0 0) tileCore) 5 (aw 38 0 1 2 0 0 0 0 0) 38 20 (issued (aw 38 0 1 2 0 0 0 0 0) tileCore)
    ∧ aarIssues (running (aw 39 0 1 2 0 0 0 0 0) tileCore) 5 (aw 39 0 1 2 0 0 0 0 0) 39 20 (issued (aw 39 0 1 2 0 0 0 0 0) tileCore)
    ∧ aarIssues (running (aw 40 0 0 0 0 0 0 0 0) tileCore) 5 (aw 40 0 0 0 0 0 0 0 0) 40 20 (issued (aw 40 0 0 0 0 0 0 0 0) tileCore)
    ∧ aarIssues (running (aw 41 3 0 0 0 0 2 0 0) tileCore) 5 (aw 41 3 0 0 0 0 2 0 0) 41 20 (issued (aw 41 3 0 0 0 0 2 0 0) tileCore)
    ∧ aarIssues (running (aw 41 3 0 0 0 1 0 0 0) tileCore) 5 (aw 41 3 0 0 0 1 0 0 0) 41 20 (issued (aw 41 3 0 0 0 1 0 0 0) tileCore)
    ∧ aarIssues (tunedTo (running (aw 63 0 4 2 0 0 0 0 257) tileCore) own5) 5 (aw 63 0 4 2 0 0 0 0 257) 63 20 (tunedTo (issued (aw 63 0 4 2 0 0 0 0 257) tileCore) own5) :=
  ⟨by decide +kernel, ⟨by decide +kernel, by decide +kernel, by decide +kernel, by decide +kernel, by decide +kernel, by decide +kernel, by decide +kernel, by decide +kernel, by decide +kernel, _, rfl, by decide +kernel, rfl⟩, ⟨by decide +kernel, by decide +kernel, by decide +kernel, by decide +kernel, by decide +kernel, by decide +kernel, by decide +kernel, by decide +kernel, by decide +kernel, _, rfl, by decide +kernel, rfl⟩, ⟨by decide +kernel, by decide +kernel, by decide +kernel, by decide +kernel, by decide +kernel, by decide +kernel, by decide +kernel, by decide +kernel, by decide +kernel, _, rfl, by decide +kernel, rfl⟩, ⟨by decide +kernel, by decide +kernel, by decide +kernel, by decide +kernel, by decide +kernel, by decide +kernel, by decide +kernel, by decide +kernel, by decide +kernel, _, rfl, by decide +kernel, rfl⟩, ⟨by decide +kernel, by decide +kernel, by decide +kernel, by decide +kernel, by decide +kernel, by decide +kernel, by decide +kernel, by decide +kernel, by decide +kernel, _, rfl, by decide +kernel, rfl⟩, ⟨by decide +kernel, by decide +kernel, by decide +kernel, by decide +kernel, by decide +kernel, by decide +kernel, by decide +kernel, by decide +kernel, by decide +kernel, _, rfl, by decide +kernel, rfl⟩, ⟨by decide +kernel, by decide +kernel, by decide +kernel, by decide +kernel, by decide +kernel, by decide +kernel, by decide +kernel, by decide +kernel, by decide +kernel, _, rfl, by decide +kernel, rfl⟩, ⟨by decide +kernel, by decide +kernel, by decide +kernel, by decide +kernel, by decide +kernel, by decide +kernel, by decide +kernel, by decide +kernel, by decide +kernel, _, rfl, by decide +kernel, rfl⟩, ⟨by decide +kernel, by decide +kernel, by decide +kernel, by decide +kernel, by decide +kernel, by decide +kernel, by decide +kernel, by decide +kernel, by decide +kernel, _, rfl, by decide +kernel, rfl⟩, ⟨by decide +kernel, by decide +kernel, by decide +kernel, by decide +kernel, by decide +kernel, by decide +kernel, by decide +kernel, by decide +kernel, by decide +kernel, _, rfl, by decide +kernel, rfl⟩, ⟨by decide +kernel, by decide +kernel, by decide +kernel, by decide +kernel, by decide +kernel, by decide +kernel, by decide +kernel, by decide +kernel, by decide +kernel, _, rfl, by decide +kernel, rfl⟩, ⟨by decide +kernel, by decide +kernel, by decide +kernel, by decide +kernel, by decide +kernel, by decide +kernel, by decide +kernel, by decide +kernel, by decide +kernel, _, rfl, by decide +kernel, rfl⟩, ⟨by decide +kernel, by decide +kernel, by decide +kernel, by decide +kernel, by decide +kernel, by decide +kernel, by decide +kernel, by decide +kernel, by decide +kernel, _, rfl, by decide +kernel, rfl⟩, ⟨by decide +kernel, by decide +kernel, by decide +kernel, by decide +kernel, by decide +kernel, by decide +kernel, by decide +kernel, by decide +kernel, by decide +kernel, _, rfl, by decide +kernel, rfl⟩, ⟨by decide +kernel, by decide +kernel, by decide +kernel, by decide +kernel, by decide +kernel, by decide +kernel, by decide +kernel, by decide +kernel, by decide +kernel, _, rfl, by decide +kernel, rfl⟩, ⟨by decide +kernel, by decide +kernel, by decide +kernel, by decide +kernel, by decide +kernel, by decide +kernel, by decide +kernel, by decide +kernel, by decide +kernel, _, rfl, by decide +kernel, rfl⟩, ⟨by decide +kernel, by decide +kernel, by decide +kernel, by decide +kernel, by decide +kernel, by decide +kernel, by decide +kernel, by decide +kernel, by decide +kernel, _, rfl, by decide +kernel, rfl⟩, ⟨by decide +kernel, by decide +kernel, by decide +kernel, by decide +kernel, by decide +kernel, by decide +kernel, by decide +kernel, by decide +kernel, by decide +kernel, _, rfl, by decide +kernel, rfl⟩, ⟨by decide +kernel, by decide +kernel, by decide +kernel, by decide +kernel, by decide +kernel, by decide +kernel, by decide +kernel, by decide +kernel, by decide +kernel, _, rfl, by decide +kernel, rfl⟩, ⟨by decide +kernel, by decide +kernel, by decide +kernel, by decide +kernel, by decide +kernel, by decide +kernel, by decide +kernel, by decide +kernel, by decide +kernel, _, rfl, by decide +kernel, rfl⟩, ⟨by decide +kernel, by decide +kernel, by decide +kernel, by decide +kernel, by decide +kernel, by decide +kernel, by decide +kernel, by decide +kernel, by decide +kernel, _, rfl, by decide +kernel, rfl⟩, ⟨by decide +kernel, by decide +kernel, by decide +kernel, by decide +kernel, by decide +kernel, by decide +kernel, by decide +kernel, by decide +kernel, by decide +kernel, _, rfl, by decide +kernel, rfl⟩⟩

/-- States and operands that meet the hypotheses of `CoresRunBlockInstructions`, a line for each clause; what a clause shares with one above stands there. -/
theorem meets_CoresRunBlockInstructions :
    (((aarFields (aw 48 1 1 6 0 0 0 9 0)).mode = 0 ∧ arraysMeet ((coreOn (issued (aw 48 1 1 6 0 0 0 9 0) tileCore) 5 (aw 48 1 1 6 0 0 0 9 0) 20 0).array (aarFields (aw 48 1 1 6 0 0 0 9 0)).d) (2 * ((coreOn (issued (aw 48 1 1 6 0 0 0 9 0) tileCore) 5 (aw 48 1 1 6 0 0 0 9 0) 20 0).count (aarFields (aw 48 1 1 6 0 0 0 9 0)).c (aarFields (aw 48 1 1 6 0 0 0 9 0)).hi).fst) ((coreOn (issued (aw 48 1 1 6 0 0 0 9 0) tileCore) 5 (aw 48 1 1 6 0 0 0 9 0) 20 0).array (aarFields (aw 48 1 1 6 0 0 0 9 0)).b) (2 * ((coreOn (issued (aw 48 1 1 6 0 0 0 9 0) tileCore) 5 (aw 48 1 1 6 0 0 0 9 0) 20 0).count (aarFields (aw 48 1 1 6 0 0 0 9 0)).c (aarFields (aw 48 1 1 6 0 0 0 9 0)).hi).fst) = false ∧ ((coreOn (issued (aw 48 1 1 6 0 0 0 9 0) tileCore) 5 (aw 48 1 1 6 0 0 0 9 0) 20 0).array (aarFields (aw 48 1 1 6 0 0 0 9 0)).d = (coreOn (issued (aw 48 1 1 6 0 0 0 9 0) tileCore) 5 (aw 48 1 1 6 0 0 0 9 0) 20 0).array (aarFields (aw 48 1 1 6 0 0 0 9 0)).a ∨ arraysMeet ((coreOn (issued (aw 48 1 1 6 0 0 0 9 0) tileCore) 5 (aw 48 1 1 6 0 0 0 9 0) 20 0).array (aarFields (aw 48 1 1 6 0 0 0 9 0)).d) (2 * ((coreOn (issued (aw 48 1 1 6 0 0 0 9 0) tileCore) 5 (aw 48 1 1 6 0 0 0 9 0) 20 0).count (aarFields (aw 48 1 1 6 0 0 0 9 0)).c (aarFields (aw 48 1 1 6 0 0 0 9 0)).hi).fst) ((coreOn (issued (aw 48 1 1 6 0 0 0 9 0) tileCore) 5 (aw 48 1 1 6 0 0 0 9 0) 20 0).array (aarFields (aw 48 1 1 6 0 0 0 9 0)).a) (2 * ((coreOn (issued (aw 48 1 1 6 0 0 0 9 0) tileCore) 5 (aw 48 1 1 6 0 0 0 9 0) 20 0).count (aarFields (aw 48 1 1 6 0 0 0 9 0)).c (aarFields (aw 48 1 1 6 0 0 0 9 0)).hi).fst) = false) ∧ (coreOn (issued (aw 48 1 1 6 0 0 0 9 0) tileCore) 5 (aw 48 1 1 6 0 0 0 9 0) 20 0).icnt < 2 ^ 32)
      ∧ ((aarFields (aw 48 6 1 6 0 0 0 9 0)).mode = 0 ∧ arraysMeet ((coreOn (issued (aw 48 6 1 6 0 0 0 9 0) tileCore) 5 (aw 48 6 1 6 0 0 0 9 0) 20 0).array (aarFields (aw 48 6 1 6 0 0 0 9 0)).d) (2 * ((coreOn (issued (aw 48 6 1 6 0 0 0 9 0) tileCore) 5 (aw 48 6 1 6 0 0 0 9 0) 20 0).count (aarFields (aw 48 6 1 6 0 0 0 9 0)).c (aarFields (aw 48 6 1 6 0 0 0 9 0)).hi).fst) ((coreOn (issued (aw 48 6 1 6 0 0 0 9 0) tileCore) 5 (aw 48 6 1 6 0 0 0 9 0) 20 0).array (aarFields (aw 48 6 1 6 0 0 0 9 0)).b) (2 * ((coreOn (issued (aw 48 6 1 6 0 0 0 9 0) tileCore) 5 (aw 48 6 1 6 0 0 0 9 0) 20 0).count (aarFields (aw 48 6 1 6 0 0 0 9 0)).c (aarFields (aw 48 6 1 6 0 0 0 9 0)).hi).fst) = true)
      ∧ ((coreOn (issued (aw 49 6 1 0 0 0 0 64 0) tileCore) 5 (aw 49 6 1 0 0 0 0 64 0) 20 0).array (aarFields (aw 49 6 1 0 0 0 0 64 0)).d = (coreOn (issued (aw 49 6 1 0 0 0 0 64 0) tileCore) 5 (aw 49 6 1 0 0 0 0 64 0) 20 0).array (aarFields (aw 49 6 1 0 0 0 0 64 0)).a ∨ arraysMeet ((coreOn (issued (aw 49 6 1 0 0 0 0 64 0) tileCore) 5 (aw 49 6 1 0 0 0 0 64 0) 20 0).array (aarFields (aw 49 6 1 0 0 0 0 64 0)).d) (4 * (aarFields (aw 49 6 1 0 0 0 0 64 0)).hi) ((coreOn (issued (aw 49 6 1 0 0 0 0 64 0) tileCore) 5 (aw 49 6 1 0 0 0 0 64 0) 20 0).array (aarFields (aw 49 6 1 0 0 0 0 64 0)).a) (4 * (aarFields (aw 49 6 1 0 0 0 0 64 0)).hi) = false)
      ∧ arraysMeet ((coreOn (issued (aw 50 6 7 0 0 0 0 128 0) tileCore) 5 (aw 50 6 7 0 0 0 0 128 0) 20 0).array (aarFields (aw 50 6 7 0 0 0 0 128 0)).d) (2 * (aarFields (aw 50 6 7 0 0 0 0 128 0)).hi) ((coreOn (issued (aw 50 6 7 0 0 0 0 128 0) tileCore) 5 (aw 50 6 7 0 0 0 0 128 0) 20 0).array (aarFields (aw 50 6 7 0 0 0 0 128 0)).a) (2 * (aarFields (aw 50 6 7 0 0 0 0 128 0)).hi) = false
      ∧ arraysMeet ((coreOn (issued (aw 50 6 6 0 0 0 0 128 0) tileCore) 5 (aw 50 6 6 0 0 0 0 128 0) 20 0).array (aarFields (aw 50 6 6 0 0 0 0 128 0)).d) (2 * (aarFields (aw 50 6 6 0 0 0 0 128 0)).hi) ((coreOn (issued (aw 50 6 6 0 0 0 0 128 0) tileCore) 5 (aw 50 6 6 0 0 0 0 128 0) 20 0).array (aarFields (aw 50 6 6 0 0 0 0 128 0)).a) (2 * (aarFields (aw 50 6 6 0 0 0 0 128 0)).hi) = true
      ∧ ((aarFields (aw 51 6 1 0 0 0 3 9 0)).mode = 0 ∧ ((coreOn (issued (aw 51 6 1 0 0 0 3 9 0) tileCore) 5 (aw 51 6 1 0 0 0 3 9 0) 20 0).array (aarFields (aw 51 6 1 0 0 0 3 9 0)).d = (coreOn (issued (aw 51 6 1 0 0 0 3 9 0) tileCore) 5 (aw 51 6 1 0 0 0 3 9 0) 20 0).array (aarFields (aw 51 6 1 0 0 0 3 9 0)).a ∨ arraysMeet ((coreOn (issued (aw 51 6 1 0 0 0 3 9 0) tileCore) 5 (aw 51 6 1 0 0 0 3 9 0) 20 0).array (aarFields (aw 51 6 1 0 0 0 3 9 0)).d) (4 * ((coreOn (issued (aw 51 6 1 0 0 0 3 9 0) tileCore) 5 (aw 51 6 1 0 0 0 3 9 0) 20 0).count (aarFields (aw 51 6 1 0 0 0 3 9 0)).c (aarFields (aw 51 6 1 0 0 0 3 9 0)).hi).fst) ((coreOn (issued (aw 51 6 1 0 0 0 3 9 0) tileCore) 5 (aw 51 6 1 0 0 0 3 9 0) 20 0).array (aarFields (aw 51 6 1 0 0 0 3 9 0)).a) (4 * ((coreOn (issued (aw 51 6 1 0 0 0 3 9 0) tileCore) 5 (aw 51 6 1 0 0 0 3 9 0) 20 0).count (aarFields (aw 51 6 1 0 0 0 3 9 0)).c (aarFields (aw 51 6 1 0 0 0 3 9 0)).hi).fst) = false))
      ∧ ((aarFields (aw 52 6 1 0 0 0 3 9 0)).mode = 0 ∧ (coreOn (issued (aw 52 6 1 0 0 0 3 9 0) tileCore) 5 (aw 52 6 1 0 0 0 3 9 0) 20 0).icnt < 2 ^ 32)
      ∧ ((aarFields (aw 53 6 1 0 0 2 0 9 0)).mode = 2 ∧ ((coreOn (issued (aw 53 6 1 0 0 2 0 9 0) tileCore) 5 (aw 53 6 1 0 0 2 0 9 0) 20 0).count (aarFields (aw 53 6 1 0 0 2 0 9 0)).c (aarFields (aw 53 6 1 0 0 2 0 9 0)).hi).fst ≠ 0)
      ∧ ((aarFields (aw 54 6 1 0 0 2 0 9 0)).mode = 2 ∧ ((coreOn (issued (aw 54 6 1 0 0 2 0 9 0) tileCore) 5 (aw 54 6 1 0 0 2 0 9 0) 20 0).count (aarFields (aw 54 6 1 0 0 2 0 9 0)).c (aarFields (aw 54 6 1 0 0 2 0 9 0)).hi).fst ≠ 0)
      ∧ ((aarFields (aw 53 6 1 0 7 2 0 9 0)).mode = 2 ∧ ((coreOn (issued (aw 53 6 1 0 7 2 0 9 0) tileCore) 5 (aw 53 6 1 0 7 2 0 9 0) 20 0).count (aarFields (aw 53 6 1 0 7 2 0 9 0)).c (aarFields (aw 53 6 1 0 7 2 0 9 0)).hi).fst = 0 ∧ (coreOn (issued (aw 53 6 1 0 7 2 0 9 0) tileCore) 5 (aw 53 6 1 0 7 2 0 9 0) 20 0).icnt < 2 ^ 32)
      ∧ ((aarFields (aw 55 6 1 0 0 0 0 9 0)).mode = 0 ∧ (coreOn (issued (aw 55 6 1 0 0 0 0 9 0) tileCore) 5 (aw 55 6 1 0 0 0 0 9 0) 20 0).icnt < 2 ^ 32)
      ∧ ((coreOn (issued (aw 56 6 1 0 5 0 0 900 0) tileCore) 5 (aw 56 6 1 0 5 0 0 900 0) 20 0).count (aarFields (aw 56 6 1 0 5 0 0 900 0)).c (aarFields (aw 56 6 1 0 5 0 0 900 0)).hi).fst = 16)
    ∧ aarIssues (running (aw 48 1 1 6 0 0 0 9 0) tileCore) 5 (aw 48 1 1 6 0 0 0 9 0) 48 20 (issued (aw 48 1 1 6 0 0 0 9 0) tileCore)
    ∧ aarIssues (running (aw 48 6 1 6 0 0 0 9 0) tileCore) 5 (aw 48 6 1 6 0 0 0 9 0) 48 20 (issued (aw 48 6 1 6 0 0 0 9 0) tileCore)
    ∧ aarIssues (running (aw 49 6 1 0 0 0 0 64 0) tileCore) 5 (aw 49 6 1 0 0 0 0 64 0) 49 20 (issued (aw 49 6 1 0 0 0 0 64 0) tileCore)
    ∧ aarIssues (running (aw 50 6 7 0 0 0 0 128 0) tileCore) 5 (aw 50 6 7 0 0 0 0 128 0) 50 20 (issued (aw 50 6 7 0 0 0 0 128 0) tileCore)
    ∧ aarIssues (running (aw 50 6 6 0 0 0 0 128 0) tileCore) 5 (aw 50 6 6 0 0 0 0 128 0) 50 20 (issued (aw 50 6 6 0 0 0 0 128 0) tileCore)
    ∧ aarIssues (running (aw 51 6 1 0 0 0 3 9 0) tileCore) 5 (aw 51 6 1 0 0 0 3 9 0) 51 20 (issued (aw 51 6 1 0 0 0 3 9 0) tileCore)
    ∧ aarIssues (running (aw 52 6 1 0 0 0 3 9 0) tileCore) 5 (aw 52 6 1 0 0 0 3 9 0) 52 20 (issued (aw 52 6 1 0 0 0 3 9 0) tileCore)
    ∧ aarIssues (running (aw 53 6 1 0 0 2 0 9 0) tileCore) 5 (aw 53 6 1 0 0 2 0 9 0) 53 20 (issued (aw 53 6 1 0 0 2 0 9 0) tileCore)
    ∧ aarIssues (running (aw 54 6 1 0 0 2 0 9 0) tileCore) 5 (aw 54 6 1 0 0 2 0 9 0) 54 20 (issued (aw 54 6 1 0 0 2 0 9 0) tileCore)
    ∧ aarIssues (running (aw 53 6 1 0 7 2 0 9 0) tileCore) 5 (aw 53 6 1 0 7 2 0 9 0) 53 20 (issued (aw 53 6 1 0 7 2 0 9 0) tileCore)
    ∧ aarIssues (running (aw 55 6 1 0 0 0 0 9 0) tileCore) 5 (aw 55 6 1 0 0 0 0 9 0) 55 20 (issued (aw 55 6 1 0 0 0 0 9 0) tileCore)
    ∧ aarIssues (running (aw 56 6 1 0 5 0 0 900 0) tileCore) 5 (aw 56 6 1 0 5 0 0 900 0) 56 20 (issued (aw 56 6 1 0 5 0 0 900 0) tileCore) :=
  ⟨by decide +kernel, ⟨by decide +kernel, by decide +kernel, by decide +kernel, by decide +kernel, by decide +kernel, by decide +kernel, by decide +kernel, by decide +kernel, by decide +kernel, _, rfl, by decide +kernel, rfl⟩, ⟨by decide +kernel, by decide +kernel, by decide +kernel, by decide +kernel, by decide +kernel, by decide +kernel, by decide +kernel, by decide +kernel, by decide +kernel, _, rfl, by decide +kernel, rfl⟩, ⟨by decide +kernel, by decide +kernel, by decide +kernel, by decide +kernel, by decide +kernel, by decide +kernel, by decide +kernel, by decide +kernel, by decide +kernel, _, rfl, by decide +kernel, rfl⟩, ⟨by decide +kernel, by decide +kernel, by decide +kernel, by decide +kernel, by decide +kernel, by decide +kernel, by decide +kernel, by decide +kernel, by decide +kernel, _, rfl, by decide +kernel, rfl⟩, ⟨by decide +kernel, by decide +kernel, by decide +kernel, by decide +kernel, by decide +kernel, by decide +kernel, by decide +kernel, by decide +kernel, by decide +kernel, _, rfl, by decide +kernel, rfl⟩, ⟨by decide +kernel, by decide +kernel, by decide +kernel, by decide +kernel, by decide +kernel, by decide +kernel, by decide +kernel, by decide +kernel, by decide +kernel, _, rfl, by decide +kernel, rfl⟩, ⟨by decide +kernel, by decide +kernel, by decide +kernel, by decide +kernel, by decide +kernel, by decide +kernel, by decide +kernel, by decide +kernel, by decide +kernel, _, rfl, by decide +kernel, rfl⟩, ⟨by decide +kernel, by decide +kernel, by decide +kernel, by decide +kernel, by decide +kernel, by decide +kernel, by decide +kernel, by decide +kernel, by decide +kernel, _, rfl, by decide +kernel, rfl⟩, ⟨by decide +kernel, by decide +kernel, by decide +kernel, by decide +kernel, by decide +kernel, by decide +kernel, by decide +kernel, by decide +kernel, by decide +kernel, _, rfl, by decide +kernel, rfl⟩, ⟨by decide +kernel, by decide +kernel, by decide +kernel, by decide +kernel, by decide +kernel, by decide +kernel, by decide +kernel, by decide +kernel, by decide +kernel, _, rfl, by decide +kernel, rfl⟩, ⟨by decide +kernel, by decide +kernel, by decide +kernel, by decide +kernel, by decide +kernel, by decide +kernel, by decide +kernel, by decide +kernel, by decide +kernel, _, rfl, by decide +kernel, rfl⟩, ⟨by decide +kernel, by decide +kernel, by decide +kernel, by decide +kernel, by decide +kernel, by decide +kernel, by decide +kernel, by decide +kernel, by decide +kernel, _, rfl, by decide +kernel, rfl⟩⟩

/-- States and operands that meet the hypotheses of `ArrayFramesRunTheirCourse`, a line for each clause; what a clause shares with one above stands there. -/
theorem meets_ArrayFramesRunTheirCourse :
    ((5 < 32 ∧ 5 < ((framing { s := scalars : AarCore }).atT 2000).aar.cores.length ∧ ((framing { s := scalars : AarCore }).atT 2000).coreRd 5 (Reg.AAR_C_CTL_EN 5) = 1 ∧ ((framing { s := scalars : AarCore }).atT 2000).newestFrame 5 = some (({ j := 15, sweep := 9, isPartial := false, late := false, dark := false, samples := [(32, 4369, 0), (40, 8738, 0)] : StagedRow }.j + 1 - ((framing { s := scalars : AarCore }).atT 2000).coreL 5) / ((framing { s := scalars : AarCore }).atT 2000).coreH 5) ∧ (((framing { s := scalars : AarCore }).atT 2000).core 5).lastReady = none ∧ (((framing { s := scalars : AarCore }).atT 2000).core 5).frame = none)
      ∧ (5 < ((framing { waiting7 with frame := some { frame7 with k := 3 }, lastReady := some { frame7 with k := 3 } }).atT 2000).aar.cores.length ∧ ((framing { waiting7 with frame := some { frame7 with k := 3 }, lastReady := some { frame7 with k := 3 } }).atT 2000).coreRd 5 (Reg.AAR_C_CTL_EN 5) = 1 ∧ ((framing { waiting7 with frame := some { frame7 with k := 3 }, lastReady := some { frame7 with k := 3 } }).atT 2000).newestFrame 5 = some (({ j := 15, sweep := 9, isPartial := false, late := false, dark := false, samples := [(32, 4369, 0), (40, 8738, 0)] : StagedRow }.j + 1 - ((framing { waiting7 with frame := some { frame7 with k := 3 }, lastReady := some { frame7 with k := 3 } }).atT 2000).coreL 5) / ((framing { waiting7 with frame := some { frame7 with k := 3 }, lastReady := some { frame7 with k := 3 } }).atT 2000).coreH 5) ∧ (((framing { waiting7 with frame := some { frame7 with k := 3 }, lastReady := some { frame7 with k := 3 } }).atT 2000).core 5).frame = some { frame7 with k := 3 } ∧ (((framing { waiting7 with frame := some { frame7 with k := 3 }, lastReady := some { frame7 with k := 3 } }).atT 2000).core 5).lastReady = some { frame7 with k := 3 } ∧ { frame7 with k := 3 }.k + 1 < ({ j := 15, sweep := 9, isPartial := false, late := false, dark := false, samples := [(32, 4369, 0), (40, 8738, 0)] : StagedRow }.j + 1 - ((framing { waiting7 with frame := some { frame7 with k := 3 }, lastReady := some { frame7 with k := 3 } }).atT 2000).coreL 5) / ((framing { waiting7 with frame := some { frame7 with k := 3 }, lastReady := some { frame7 with k := 3 } }).atT 2000).coreH 5)
      ∧ (5 < ((framing waiting7).atT 2000).aar.cores.length ∧ (((framing waiting7).atT 2000).core 5).frame = some frame7 ∧ (((framing waiting7).atT 2000).core 5).fate = FrameFate.run ∧ (((framing waiting7).atT 2000).core 5).skipped = false ∧ (((framing waiting7).atT 2000).core 5).tilesWritten < ((framing waiting7).atT 2000).coreT 5 ∧ (((framing waiting7).atT 2000).core 5).tilesWritten < (((framing waiting7).atT 2000).core 5).tilesRun + 2 ∧ (((framing waiting7).atT 2000).core 5).deadline = none ∧ ((framing waiting7).atT 2000).isolatedAt Block.aar (some 5) = false ∧ ((framing waiting7).atT 2000).coreAcc 5 = false))
    ∧ ((5 < ((framing { waiting7 with needInit := true }).atT 2000).aar.cores.length ∧ (((framing { waiting7 with needInit := true }).atT 2000).core 5).frame = some frame7 ∧ (((framing { waiting7 with needInit := true }).atT 2000).core 5).fate = FrameFate.run ∧ (((framing { waiting7 with needInit := true }).atT 2000).core 5).state = CoreState.waiting ∧ (((framing { waiting7 with needInit := true }).atT 2000).core 5).deadline = none ∧ ((framing { waiting7 with needInit := true }).atT 2000).isolatedAt Block.aar (some 5) = false ∧ (((framing { waiting7 with needInit := true }).atT 2000).core 5).needInit = true)
      ∧ (5 < ((framing { waiting7 with tilesWritten := 1 }).atT 2000).aar.cores.length ∧ (((framing { waiting7 with tilesWritten := 1 }).atT 2000).core 5).frame = some frame7 ∧ (((framing { waiting7 with tilesWritten := 1 }).atT 2000).core 5).fate = FrameFate.run ∧ (((framing { waiting7 with tilesWritten := 1 }).atT 2000).core 5).state = CoreState.waiting ∧ (((framing { waiting7 with tilesWritten := 1 }).atT 2000).core 5).deadline = none ∧ ((framing { waiting7 with tilesWritten := 1 }).atT 2000).isolatedAt Block.aar (some 5) = false ∧ (((framing { waiting7 with tilesWritten := 1 }).atT 2000).core 5).needInit = false ∧ (((framing { waiting7 with tilesWritten := 1 }).atT 2000).core 5).tilesRun < ((framing { waiting7 with tilesWritten := 1 }).atT 2000).coreT 5 ∧ (((framing { waiting7 with tilesWritten := 1 }).atT 2000).core 5).skipped = false ∧ (((framing { waiting7 with tilesWritten := 1 }).atT 2000).core 5).tilesRun < (((framing { waiting7 with tilesWritten := 1 }).atT 2000).core 5).tilesWritten ∧ (((framing { waiting7 with tilesWritten := 1 }).atT 2000).core 5).s.length = 16))
    ∧ ((5 < ((framing { waiting7 with tilesRun := 2, tilesWritten := 2 }).atT 2000).aar.cores.length ∧ (((framing { waiting7 with tilesRun := 2, tilesWritten := 2 }).atT 2000).core 5).frame = some frame7 ∧ (((framing { waiting7 with tilesRun := 2, tilesWritten := 2 }).atT 2000).core 5).fate = FrameFate.run ∧ (((framing { waiting7 with tilesRun := 2, tilesWritten := 2 }).atT 2000).core 5).state = CoreState.waiting ∧ (((framing { waiting7 with tilesRun := 2, tilesWritten := 2 }).atT 2000).core 5).deadline = none ∧ ((framing { waiting7 with tilesRun := 2, tilesWritten := 2 }).atT 2000).isolatedAt Block.aar (some 5) = false ∧ (((framing { waiting7 with tilesRun := 2, tilesWritten := 2 }).atT 2000).core 5).needInit = false ∧ (((framing { waiting7 with tilesRun := 2, tilesWritten := 2 }).atT 2000).core 5).tilesRun = ((framing { waiting7 with tilesRun := 2, tilesWritten := 2 }).atT 2000).coreT 5 ∧ (((framing { waiting7 with tilesRun := 2, tilesWritten := 2 }).atT 2000).core 5).s.length = 16)
      ∧ (5 < ((framing { waiting7 with lastReady := some { frame7 with k := 8 } }).atT 2000).aar.cores.length ∧ (((framing { waiting7 with lastReady := some { frame7 with k := 8 } }).atT 2000).core 5).frame = some frame7 ∧ (((framing { waiting7 with lastReady := some { frame7 with k := 8 } }).atT 2000).core 5).lastReady = some { frame7 with k := 8 } ∧ { frame7 with k := 8 }.k ≠ frame7.k ∧ (((framing { waiting7 with lastReady := some { frame7 with k := 8 } }).atT 2000).core 5).fate = FrameFate.run ∧ storeWf ((framing { waiting7 with lastReady := some { frame7 with k := 8 } }).atT 2000).regs.live = true)
      ∧ (5 < ((framing { waiting7 with affected := true, switchDue := some 9 }).atT 2000).aar.cores.length ∧ (((framing { waiting7 with affected := true, switchDue := some 9 }).atT 2000).core 5).affected = true ∧ (((framing { waiting7 with affected := true, switchDue := some 9 }).atT 2000).core 5).switchDue.isSome = true ∧ (((framing { waiting7 with affected := true, switchDue := some 9 }).atT 2000).core 5).state ≠ CoreState.restarting)
      ∧ (5 < ((constOn { waiting7 with copySince := some 9 }).atT 2000).aar.cores.length ∧ (((constOn { waiting7 with copySince := some 9 }).atT 2000).core 5).copySince.isSome = true ∧ ((constOn { waiting7 with copySince := some 9 }).atT 2000).constRegions 5 = [(64, 64), (0, 0), (0, 0), (0, 0)]))
    ∧ ((5 < ((constOn { waiting7 with reloadSince := some 9 }).atT 2000).aar.cores.length ∧ (((constOn { waiting7 with reloadSince := some 9 }).atT 2000).core 5).reloadSince.isSome = true ∧ ((constOn { waiting7 with reloadSince := some 9 }).atT 2000).constRegions 5 = [(64, 64), (0, 0), (0, 0), (0, 0)])
      ∧ (5 < ((constOn { waiting7 with reloadSince := some 9 }).atT (3 * 10 ^ 9)).aar.cores.length ∧ (((constOn { waiting7 with reloadSince := some 9 }).atT (3 * 10 ^ 9)).core 5).reloadSince = some 9 ∧ 9 + 2 * 10 ^ 9 < ((constOn { waiting7 with reloadSince := some 9 }).atT (3 * 10 ^ 9)).now)
      ∧ (5 < (arrive9.atT 2000).aar.cores.length ∧ (arrive9.atT 2000).aar.arriving = [[(9, 3, { value := 77, invalid := false, frame := 7, fresh := true, core := 5 : FeatureInput })]] ∧ (arrive9.atT 2000).isolatedAt Block.zon (some 9) = false ∧ 9 < (arrive9.atT 2000).zon.units.length ∧ 3 < ((arrive9.atT 2000).zon.units.getD 9 { : ZoneUnit }).f.length)) :=
  ⟨by decide +kernel, by decide +kernel, by decide +kernel, by decide +kernel⟩

/-- States and operands that meet the hypotheses of `ZoneUnitsStepAndReport`, a line for each clause; what a clause shares with one above stands there. -/
theorem meets_ZoneUnitsStepAndReport :
    ((storeWf (zoned.atT 5000).regs.live = true ∧ (zoned.atT 5000).zon.stepDue = some 3 ∧ 3 ≤ (zoned.atT 5000).now ∧ (zoned.atT 5000).chp.retuneDue = none)
      ∧ (storeWf ((zones 1).atT (10 ^ 10)).regs.live = true ∧ ((zones 1).atT (10 ^ 10)).idleDue = true)
      ∧ ((zoned.atT 5000).on Reg.ZON_CTL_EN = true ∧ (zoned.atT 5000).isolated Block.zon = false ∧ (zoned.atT 5000).isolatedAt Block.zon (some 9) = false ∧ List.filter (fretEn (zoned.atT 5000).mems.act) (List.range 256) = [9] ∧ (zoned.atT 5000).zon.resetUnits = [] ∧ (zoned.atT 5000).rdFor (zoned.atT 5000).sweep Reg.ZON_MU_ROLE = 1 ∧ 9 < (zoned.atT 5000).zon.units.length ∧ fretSpd (zoned.atT 5000).mems.act 9 = false ∧ bits (condWord (zoned.atT 5000).mems.act 9 (((zoned.atT 5000).unit 9).latch (zoned.atT 5000).mems.act 9 ((zoned.atT 5000).tiu.units.getD (fretTiu (zoned.atT 5000).mems.act 9) { : TiuUnit }).rate false false (zoned.atT 5000).now).state 0) 63 1 = 1 ∧ outcome (zoned.atT 5000).mems.act 9 (((zoned.atT 5000).unit 9).latch (zoned.atT 5000).mems.act 9 ((zoned.atT 5000).tiu.units.getD (fretTiu (zoned.atT 5000).mems.act 9) { : TiuUnit }).rate false false (zoned.atT 5000).now) (condWord (zoned.atT 5000).mems.act 9 (((zoned.atT 5000).unit 9).latch (zoned.atT 5000).mems.act 9 ((zoned.atT 5000).tiu.units.getD (fretTiu (zoned.atT 5000).mems.act 9) { : TiuUnit }).rate false false (zoned.atT 5000).now).state 0) (zoneInput (((zoned.atT 5000).unit 9).latch (zoned.atT 5000).mems.act 9 ((zoned.atT 5000).tiu.units.getD (fretTiu (zoned.atT 5000).mems.act 9) { : TiuUnit }).rate false false (zoned.atT 5000).now) (zoned.atT 5000).armPin (zoned.atT 5000).zon.fireSeen (bits (condWord (zoned.atT 5000).mems.act 9 (((zoned.atT 5000).unit 9).latch (zoned.atT 5000).mems.act 9 ((zoned.atT 5000).tiu.units.getD (fretTiu (zoned.atT 5000).mems.act 9) { : TiuUnit }).rate false false (zoned.atT 5000).now).state 0) 57 5)) = some true ∧ bits (condWord (zoned.atT 5000).mems.act 9 (((zoned.atT 5000).unit 9).latch (zoned.atT 5000).mems.act 9 ((zoned.atT 5000).tiu.units.getD (fretTiu (zoned.atT 5000).mems.act 9) { : TiuUnit }).rate false false (zoned.atT 5000).now).state 1) 63 1 = 0 ∧ bits (condWord (zoned.atT 5000).mems.act 9 (((zoned.atT 5000).unit 9).latch (zoned.atT 5000).mems.act 9 ((zoned.atT 5000).tiu.units.getD (fretTiu (zoned.atT 5000).mems.act 9) { : TiuUnit }).rate false false (zoned.atT 5000).now).state 2) 63 1 = 0 ∧ bits (condWord (zoned.atT 5000).mems.act 9 (((zoned.atT 5000).unit 9).latch (zoned.atT 5000).mems.act 9 ((zoned.atT 5000).tiu.units.getD (fretTiu (zoned.atT 5000).mems.act 9) { : TiuUnit }).rate false false (zoned.atT 5000).now).state 3) 63 1 = 0 ∧ bits (actWord (zoned.atT 5000).mems.act 9 (((zoned.atT 5000).unit 9).latch (zoned.atT 5000).mems.act 9 ((zoned.atT 5000).tiu.units.getD (fretTiu (zoned.atT 5000).mems.act 9) { : TiuUnit }).rate false false (zoned.atT 5000).now).state 0) 31 1 = 1 ∧ bits (actWord (zoned.atT 5000).mems.act 9 (((zoned.atT 5000).unit 9).latch (zoned.atT 5000).mems.act 9 ((zoned.atT 5000).tiu.units.getD (fretTiu (zoned.atT 5000).mems.act 9) { : TiuUnit }).rate false false (zoned.atT 5000).now).state 0) 4 4 = 1))
    ∧ ((fretEn (zoned.atT 5000).mems.act 9 = true ∧ (¬9 ∈ (zoned.atT 5000).zon.resetUnits) ∧ 1 < ((zoned.atT 5000).unit 9).t.length ∧ 1 < 4 ∧ (latchTimer (((zoned.atT 5000).unit 9).t.getD 1 { : ZoneTimer }) (zoneWord (zoned.atT 5000).mems.act 9 (832 + 4 * 1)) (zoned.atT 5000).now false).state = TimerState.expired)
      ∧ (storeWf ((evented 511).atT 5000).regs.live = true ∧ ((evented 511).atT 5000).zon.waiting = [{ bus := false, zone := 9, code := 7, before := 1, after := 2, cond := 0, info := 0, zseq := 3, sweep := 5, time := 6, value := 8, capture := CaptureField.number 4, log := false : EventRec }] ∧ { bus := false, zone := 9, code := 7, before := 1, after := 2, cond := 0, info := 0, zseq := 3, sweep := 5, time := 6, value := 8, capture := CaptureField.number 4, log := false : EventRec }.capture.code = some 4 ∧ ((evented 511).atT 5000).zon.queue.length < 512 ∧ { bus := false, zone := 9, code := 7, before := 1, after := 2, cond := 0, info := 0, zseq := 3, sweep := 5, time := 6, value := 8, capture := CaptureField.number 4, log := false : EventRec }.log = false)
      ∧ (storeWf ((evented 512).atT 5000).regs.live = true ∧ ((evented 512).atT 5000).zon.waiting = [{ bus := false, zone := 9, code := 7, before := 1, after := 2, cond := 0, info := 0, zseq := 3, sweep := 5, time := 6, value := 8, capture := CaptureField.number 4, log := false : EventRec }] ∧ 512 ≤ ((evented 512).atT 5000).zon.queue.length)) :=
  ⟨by decide +kernel, by decide +kernel⟩

/-- States and operands that meet the hypotheses of `UnitBusesFollowTheirRules`, a line for each clause; what a clause shares with one above stands there. -/
theorem meets_UnitBusesFollowTheirRules :
    ((storeWf ((zones 1).atT 5000).regs.live = true ∧ commandable ((zones 1).atT 5000) Master.jtag Block.zon none ∧ ((zones 1).atT 5000).muRole = 1)
      ∧ (storeWf ((zones 2).atT 5000).regs.live = true ∧ commandable ((zones 2).atT 5000) Master.jtag Block.zon none ∧ ((zones 2).atT 5000).muRole ≠ 1)
      ∧ (storeWf ({ zones 1 with zon := { svc.zon with armDriven := true } }.atT 5000).regs.live = true ∧ commandable ({ zones 1 with zon := { svc.zon with armDriven := true } }.atT 5000) Master.jtag Block.zon none ∧ ({ zones 1 with zon := { svc.zon with armDriven := true } }.atT 5000).muRole = 1 ∧ ({ zones 1 with zon := { svc.zon with armDriven := true } }.atT 5000).zon.armDriven = true ∧ ({ zones 1 with zon := { svc.zon with armDriven := true } }.atT 5000).zon.armExt = false)
      ∧ (storeWf ({ zones 2 with zon := { svc.zon with armExt := true } }.atT 5000).regs.live = true ∧ commandable ({ zones 2 with zon := { svc.zon with armExt := true } }.atT 5000) Master.jtag Block.zon none ∧ ({ zones 2 with zon := { svc.zon with armExt := true } }.atT 5000).muRole ≠ 0 ∧ ({ zones 2 with zon := { svc.zon with armExt := true } }.atT 5000).armPin = true ∧ ({ zones 2 with zon := { svc.zon with armExt := true } }.atT 5000).zon.fireUntil = none)
      ∧ (((zones 2).atT 5000).muRole = 0 ∨ ((zones 2).atT 5000).armPin = false)
      ∧ ((zones 1).atT 5000).zon.fireUntil = none
      ∧ (storeWf ({ zones 1 with zon := { svc.zon with fireUntil := some 5000 } }.atT 5000).regs.live = true ∧ ({ zones 1 with zon := { svc.zon with fireUntil := some 5000 } }.atT 5000).zon.fireUntil = some 5000 ∧ 5000 ≤ ({ zones 1 with zon := { svc.zon with fireUntil := some 5000 } }.atT 5000).now)
      ∧ (((zones 1).atT 5000).zon.fireLowSince = none ∧ ((zones 1).atT 5000).muRole ≠ 0 ∧ ((zones 1).atT 5000).zon.edge = none))
    ∧ ((storeWf ((edged 1 false false).atT 600000).regs.live = true ∧ ((edged 1 false false).atT 600000).zon.edge = some { edge := edge1, armed := false, running := true, cal := false : FireEdge } ∧ { edge := edge1, armed := false, running := true, cal := false : FireEdge }.edge.edgeAt + 500000 ≤ ((edged 1 false false).atT 600000).now ∧ ((edged 1 false false).atT 600000).edgeOk { edge := edge1, armed := false, running := true, cal := false : FireEdge } = false)
      ∧ (storeWf ((edged 2 false true).atT 600000).regs.live = true ∧ ((edged 2 false true).atT 600000).zon.edge = some { edge := edge1, armed := true, running := true, cal := false : FireEdge } ∧ { edge := edge1, armed := true, running := true, cal := false : FireEdge }.edge.edgeAt + 500000 ≤ ((edged 2 false true).atT 600000).now ∧ ((edged 2 false true).atT 600000).edgeOk { edge := edge1, armed := true, running := true, cal := false : FireEdge } = true ∧ { edge := edge1, armed := true, running := true, cal := false : FireEdge }.cal = false ∧ ((edged 2 false true).atT 600000).muRd Reg.ZON_MU_BUSCAP = 1 ∧ ((edged 2 false true).atT 600000).muRole ≠ 1)
      ∧ (storeWf ((edged 1 true true).atT 600000).regs.live = true ∧ ((edged 1 true true).atT 600000).zon.edge = some { edge := edge1, armed := true, running := true, cal := true : FireEdge } ∧ { edge := edge1, armed := true, running := true, cal := true : FireEdge }.edge.edgeAt + 500000 ≤ ((edged 1 true true).atT 600000).now ∧ ((edged 1 true true).atT 600000).edgeOk { edge := edge1, armed := true, running := true, cal := true : FireEdge } = true ∧ { edge := edge1, armed := true, running := true, cal := true : FireEdge }.cal = true)
      ∧ true ≠ ((zones 1).atT 5000).zon.armExt
      ∧ (storeWf ({ zones 1 with zon := { svc.zon with armExt := true, armForeignSince := some edge1 } }.atT (10 ^ 8)).regs.live = true ∧ ({ zones 1 with zon := { svc.zon with armExt := true, armForeignSince := some edge1 } }.atT (10 ^ 8)).zon.armForeignSince = some edge1 ∧ ({ zones 1 with zon := { svc.zon with armExt := true, armForeignSince := some edge1 } }.atT (10 ^ 8)).muRole = 1 ∧ ({ zones 1 with zon := { svc.zon with armExt := true, armForeignSince := some edge1 } }.atT (10 ^ 8)).zon.armDriven = false ∧ ({ zones 1 with zon := { svc.zon with armExt := true, armForeignSince := some edge1 } }.atT (10 ^ 8)).zon.armExt = true ∧ ({ zones 1 with zon := { svc.zon with armExt := true, armForeignSince := some edge1 } }.atT (10 ^ 8)).zon.foreignDeclared = false ∧ edge1.edgeAt + 10 ^ 6 < ({ zones 1 with zon := { svc.zon with armExt := true, armForeignSince := some edge1 } }.atT (10 ^ 8)).now))
    ∧ ((storeWf ({ zones 1 with zon := { svc.zon with fireLowSince := some edge1 } }.atT (10 ^ 11)).regs.live = true ∧ ({ zones 1 with zon := { svc.zon with fireLowSince := some edge1 } }.atT (10 ^ 11)).zon.fireLowSince = some edge1 ∧ ({ zones 1 with zon := { svc.zon with fireLowSince := some edge1 } }.atT (10 ^ 11)).zon.fireStuck = false ∧ edge1.edgeAt + 10 ^ 10 < ({ zones 1 with zon := { svc.zon with fireLowSince := some edge1 } }.atT (10 ^ 11)).now)
      ∧ (storeWf ({ zones 1 with zon := { svc.zon with fireLowSince := some edge1, fireStuck := true } }.atT (10 ^ 11)).regs.live = true ∧ ({ zones 1 with zon := { svc.zon with fireLowSince := some edge1, fireStuck := true } }.atT (10 ^ 11)).zon.fireUntil = none ∧ ({ zones 1 with zon := { svc.zon with fireLowSince := some edge1, fireStuck := true } }.atT (10 ^ 11)).zon.fireLowSince = some edge1)) :=
  ⟨by decide +kernel, by decide +kernel, by decide +kernel⟩

/-- States and operands that meet the hypotheses of `GuardsTripOnWhatTheyWatch`, a line for each clause; what a clause shares with one above stands there. -/
theorem meets_GuardsTripOnWhatTheyWatch :
    ((storeWf (settling.atT 10000).regs.live = true ∧ (settling.atT 10000).gda.stopped = false ∧ ((settling.atT 10000).binPower (binSamples (bin 5) 10000)).snd = 0)
      ∧ (storeWf (g7.atT 60000).regs.live = true ∧ (g7.atT 60000).gda.stopped = false ∧ ((g7.atT 60000).binPower (binSamples (bin 2) 60000)).snd ≠ 0 ∧ ((g7.atT 60000).profileA ((g7.atT 60000).entryA 60000)).fst ≤ powerCode ((g7.atT 60000).binPower (binSamples (bin 2) 60000)).fst ((g7.atT 60000).binPower (binSamples (bin 2) 60000)).snd ∧ powerCode ((g7.atT 60000).binPower (binSamples (bin 2) 60000)).fst ((g7.atT 60000).binPower (binSamples (bin 2) 60000)).snd ≤ ((g7.atT 60000).profileA ((g7.atT 60000).entryA 60000)).snd ∧ ((binSamples (bin 2) 60000).all fun b => !b.clipped) = true)
      ∧ (storeWf ((tunedTo g7 [(1507328, 65539#32)]).atT 60000).regs.live = true ∧ ((tunedTo g7 [(1507328, 65539#32)]).atT 60000).gda.stopped = false ∧ (((tunedTo g7 [(1507328, 65539#32)]).atT 60000).binPower (binSamples (bin 100) 60000)).snd ≠ 0 ∧ (((tunedTo g7 [(1507328, 65539#32)]).atT 60000).profileA (((tunedTo g7 [(1507328, 65539#32)]).atT 60000).entryA 60000)).snd < powerCode (((tunedTo g7 [(1507328, 65539#32)]).atT 60000).binPower (binSamples (bin 100) 60000)).fst (((tunedTo g7 [(1507328, 65539#32)]).atT 60000).binPower (binSamples (bin 100) 60000)).snd ∧ ((binSamples (bin 100) 60000).all fun b => !b.clipped) = true ∧ ((tunedTo g7 [(1507328, 65539#32)]).atT 60000).gda.run + 1 < max 1 (((tunedTo g7 [(1507328, 65539#32)]).atT 60000).rd Reg.GDA_CTL_CONFIRM))
      ∧ (storeWf ({ g7 with gda := { g7.gda with run := 3 } }.atT 60000).regs.live = true ∧ ({ g7 with gda := { g7.gda with run := 3 } }.atT 60000).gda.stopped = false ∧ ({ g7 with gda := { g7.gda with run := 3 } }.atT 60000).gda.state = GuardState.armed ∧ ({ g7 with gda := { g7.gda with run := 3 } }.atT 60000).inRestartWindow 60000 = false ∧ ({ g7 with gda := { g7.gda with run := 3 } }.atT 60000).pwr.enablesOpen = none ∧ (({ g7 with gda := { g7.gda with run := 3 } }.atT 60000).binPower (binSamples (bin 100) 60000)).snd ≠ 0 ∧ (({ g7 with gda := { g7.gda with run := 3 } }.atT 60000).profileA (({ g7 with gda := { g7.gda with run := 3 } }.atT 60000).entryA 60000)).snd < powerCode (({ g7 with gda := { g7.gda with run := 3 } }.atT 60000).binPower (binSamples (bin 100) 60000)).fst (({ g7 with gda := { g7.gda with run := 3 } }.atT 60000).binPower (binSamples (bin 100) 60000)).snd ∧ max 1 (({ g7 with gda := { g7.gda with run := 3 } }.atT 60000).rd Reg.GDA_CTL_CONFIRM) ≤ ({ g7 with gda := { g7.gda with run := 3 } }.atT 60000).gda.run + 1))
    ∧ (((g7.atT 60000).gda.state = GuardState.armed ∧ 300 < 1024 ∧ (g7.atT 60000).rd Reg.GDA_TX_TX_MAX < 300 ∧ max 1 ((g7.atT 60000).rd Reg.GDA_CTL_TX_CONFIRM) ≤ (g7.atT 60000).gda.runTx + 1)
      ∧ (16 < 1024 ∧ 16 ≤ (g7.atT 60000).rd Reg.GDA_TX_TX_MAX ∧ 16 ≤ (g7.atT 60000).rd Reg.GDA_TX_TX_DARK)
      ∧ (storeWf ({ g7 with gdb := { g7.gdb with run := 15 } }.atT 60000).regs.live = true ∧ ({ g7 with gdb := { g7.gdb with run := 15 } }.atT 60000).gdb.stopped = false ∧ ({ g7 with gdb := { g7.gdb with run := 15 } }.atT 60000).gdb.state = GuardState.armed ∧ ({ g7 with gdb := { g7.gdb with run := 15 } }.atT 60000).inRestartWindow 60000 = false ∧ 701 < 1024 ∧ (({ g7 with gdb := { g7.gdb with run := 15 } }.atT 60000).profileB (({ g7 with gdb := { g7.gdb with run := 15 } }.atT 60000).entryB 60000)).snd < 701 ∧ max 1 (min 16 (({ g7 with gdb := { g7.gdb with run := 15 } }.atT 60000).rd Reg.GDB_CTL_CONFIRM)) ≤ ({ g7 with gdb := { g7.gdb with run := 15 } }.atT 60000).gdb.run + 1)
      ∧ ((g7.atT 60000).gdb.stopped = false ∧ 700 < 1024 ∧ ((g7.atT 60000).profileB ((g7.atT 60000).entryB 60000)).fst ≤ 700 ∧ 700 ≤ ((g7.atT 60000).profileB ((g7.atT 60000).entryB 60000)).snd)
      ∧ (g7.atT 60000).guards.intlkHigh ≠ true
      ∧ (storeWf ({ g7 with guards := { g7.guards with intlkHigh := true } }.atT 600000).regs.live = true ∧ ({ g7 with guards := { g7.guards with intlkHigh := true } }.atT 600000).guards.intlkHigh = true ∧ ({ g7 with guards := { g7.guards with intlkHigh := true } }.atT 600000).guards.intlkAt + 200000 ≤ ({ g7 with guards := { g7.guards with intlkHigh := true } }.atT 600000).now ∧ ({ g7 with guards := { g7.guards with intlkHigh := true } }.atT 600000).gdb.stopped = false ∧ ({ g7 with guards := { g7.guards with intlkHigh := true } }.atT 600000).gdb.state = GuardState.armed))
    ∧ ((storeWf (g7.atT (10 ^ 12)).regs.live = true ∧ (g7.atT (10 ^ 12)).guards.intlkHigh = false ∧ (g7.atT (10 ^ 12)).guards.intlkAt + 10 ^ 11 ≤ (g7.atT (10 ^ 12)).now)
      ∧ (storeWf ({ g7 with gdb := { g7.gdb with state := GuardState.tripped } }.atT 600000).regs.live = true ∧ ({ g7 with gdb := { g7.gdb with state := GuardState.tripped } }.atT 600000).gdb.state = GuardState.tripped ∧ ({ g7 with gdb := { g7.gdb with state := GuardState.tripped } }.atT 600000).gda.peer ≠ GuardState.tripped ∧ ({ g7 with gdb := { g7.gdb with state := GuardState.tripped } }.atT 600000).gda.stopped = false ∧ ({ g7 with gdb := { g7.gdb with state := GuardState.tripped } }.atT 600000).gda.state = GuardState.armed)
      ∧ (storeWf ({ g7 with gdb := { g7.gdb with state := GuardState.restart } }.atT 600000).regs.live = true ∧ ({ g7 with gdb := { g7.gdb with state := GuardState.restart } }.atT 600000).gda.state = GuardState.armed ∧ ({ g7 with gdb := { g7.gdb with state := GuardState.restart } }.atT 600000).gdb.state = GuardState.restart ∧ ({ g7 with gdb := { g7.gdb with state := GuardState.restart } }.atT 600000).gdb.stopped = false)
      ∧ (storeWf ({ g7 with gdb := { g7.gdb with stopped := true } }.atT (10 ^ 9)).regs.live = true ∧ (({ g7 with gdb := { g7.gdb with stopped := true } }.atT (10 ^ 9)).guard (otherGuard GuardId.a)).stopped = true ∧ (({ g7 with gdb := { g7.gdb with stopped := true } }.atT (10 ^ 9)).guard GuardId.a).aliveAt + 10 ^ 7 ≤ ({ g7 with gdb := { g7.gdb with stopped := true } }.atT (10 ^ 9)).now ∧ (({ g7 with gdb := { g7.gdb with stopped := true } }.atT (10 ^ 9)).guard GuardId.a).stopped = false ∧ (({ g7 with gdb := { g7.gdb with stopped := true } }.atT (10 ^ 9)).guard GuardId.a).state = GuardState.armed)
      ∧ (storeWf (g7.atT (10 ^ 9)).regs.live = true ∧ ((g7.atT (10 ^ 9)).guard GuardId.a).stopped = false ∧ (g7.atT (10 ^ 9)).pwr.fallback = false ∧ (g7.atT (10 ^ 9)).pwr.enablesOpen = none)) :=
  ⟨by decide +kernel, by decide +kernel, by decide +kernel⟩

/-- States and operands that meet the hypotheses of `GuardCommandsAndRestarts`, a line for each clause; what a clause shares with one above stands there. -/
theorem meets_GuardCommandsAndRestarts :
    ((storeWf (g7.atT 60000).regs.live = true ∧ commandable (g7.atT 60000) Master.jtag (guardBlock GuardId.a) none ∧ ((g7.atT 60000).guard GuardId.a).state = GuardState.armed ∧ ((g7.atT 60000).guard GuardId.a).stopped = false)
      ∧ (storeWf (svc.atT 60000).regs.live = true ∧ commandable (svc.atT 60000) Master.jtag (guardBlock GuardId.a) none ∧ (((svc.atT 60000).guard GuardId.a).state = GuardState.idle ∨ ((svc.atT 60000).guard GuardId.a).state = GuardState.tripped))
      ∧ ((svc.atT 60000).guard GuardId.a).selfTest = none
      ∧ (commandable (g7.atT 60000) Master.jtag (guardBlock GuardId.b) none ∧ (((g7.atT 60000).guard GuardId.b).state = GuardState.restart ∨ ((g7.atT 60000).guard GuardId.b).state = GuardState.armed))
      ∧ (storeWf ((st7 GuardId.a).atT (10 ^ 9)).regs.live = true ∧ (((st7 GuardId.a).atT (10 ^ 9)).guard GuardId.a).selfTest = some 7 ∧ 7 + (if GuardId.a = GuardId.a then 20 else 500) * 10 ^ 6 ≤ ((st7 GuardId.a).atT (10 ^ 9)).now ∧ (((st7 GuardId.a).atT (10 ^ 9)).guard GuardId.a).stopped = false)
      ∧ (storeWf ((st7 GuardId.b).atT (10 ^ 9)).regs.live = true ∧ (((st7 GuardId.b).atT (10 ^ 9)).guard GuardId.b).selfTest = some 7 ∧ 7 + (if GuardId.b = GuardId.a then 20 else 500) * 10 ^ 6 ≤ ((st7 GuardId.b).atT (10 ^ 9)).now ∧ (((st7 GuardId.b).atT (10 ^ 9)).guard GuardId.b).stopped = false)
      ∧ (storeWf (lrn.atT (10 ^ 9)).regs.live = true ∧ commandable (lrn.atT (10 ^ 9)) Master.jtag (guardBlock GuardId.b) none ∧ (lrn.atT (10 ^ 9)).learnRefused GuardId.b = false ∧ (lrn.atT (10 ^ 9)).guards.inSweep = false))
    ∧ ((storeWf (svc.atT (10 ^ 9)).regs.live = true ∧ commandable (svc.atT (10 ^ 9)) Master.jtag (guardBlock GuardId.a) none ∧ (svc.atT (10 ^ 9)).learnRefused GuardId.a = true)
      ∧ (storeWf (lrnd.atT (10 ^ 9)).regs.live = true ∧ (lrnd.atT (10 ^ 9)).gdb.learning = some { pat := 3, left := 0, bins := [(0, 100, 200)] : Learning } ∧ { pat := 3, left := 0, bins := [(0, 100, 200)] : Learning }.left = 0 ∧ { pat := 3, left := 0, bins := [(0, 100, 200)] : Learning }.bins = [(0, 100, 200)] ∧ { pat := 3, left := 0, bins := [(0, 100, 200)] : Learning }.pat < 16 ∧ storeWf (lrnd.atT (10 ^ 9)).regs.stage = true)
      ∧ (commandable (lrnd.atT (10 ^ 9)) Master.jtag (guardBlock GuardId.b) none ∧ ((lrnd.atT (10 ^ 9)).guard GuardId.b).learning = some { pat := 3, left := 0, bins := [(0, 100, 200)] : Learning })
      ∧ (storeWf (restartable.atT (2 * 10 ^ 12)).regs.live = true ∧ commandable (restartable.atT (2 * 10 ^ 12)) Master.jtag Block.gdb none ∧ (restartable.atT (2 * 10 ^ 12)).restartHolds = true ∧ (restartable.atT (2 * 10 ^ 12)).gdb.stopped = false)
      ∧ (commandable (svc.atT (10 ^ 9)) Master.jtag Block.gdb none ∧ (svc.atT (10 ^ 9)).restartHolds = false)
      ∧ (storeWf (restartable.atT (3 * 10 ^ 12)).regs.live = true ∧ (restartable.atT (3 * 10 ^ 12)).on Reg.GDB_RST_AUTO = true ∧ (restartable.atT (3 * 10 ^ 12)).timedCause GuardId.a = true ∧ (restartable.atT (3 * 10 ^ 12)).timedCause GuardId.b = true ∧ (restartable.atT (3 * 10 ^ 12)).mayRestart = true ∧ (restartable.atT (3 * 10 ^ 12)).gdb.stopped = false ∧ max (restartable.atT (3 * 10 ^ 12)).gdb.trippedAt ((restartable.atT (3 * 10 ^ 12)).guards.lastAttempt.getD 0) + max 1 ((restartable.atT (3 * 10 ^ 12)).rd Reg.GDB_RST_INTERVAL) * 10 ^ 12 ≤ (restartable.atT (3 * 10 ^ 12)).now))
    ∧ ((storeWf (attempting.atT (3 * 10 ^ 12)).regs.live = true ∧ (attempting.atT (3 * 10 ^ 12)).nextRestartPluck = some (5 + max 1 ((attempting.atT (3 * 10 ^ 12)).rd Reg.GDA_RST_SETTLE) * ms + (attempting.atT (3 * 10 ^ 12)).guards.plucks * max 4 ((attempting.atT (3 * 10 ^ 12)).rd Reg.GDA_RST_SPACE) * ms) ∧ (attempting.atT (3 * 10 ^ 12)).gda.state = GuardState.restart ∧ 5 + max 1 ((attempting.atT (3 * 10 ^ 12)).rd Reg.GDA_RST_SETTLE) * ms + (attempting.atT (3 * 10 ^ 12)).guards.plucks * max 4 ((attempting.atT (3 * 10 ^ 12)).rd Reg.GDA_RST_SPACE) * ms ≤ (attempting.atT (3 * 10 ^ 12)).now ∧ (attempting.atT (3 * 10 ^ 12)).restartUnable = false)
      ∧ (storeWf ((tunedTo attempting [(1114132, 0#32)]).atT (3 * 10 ^ 12)).regs.live = true ∧ ((tunedTo attempting [(1114132, 0#32)]).atT (3 * 10 ^ 12)).nextRestartPluck = some (5 + max 1 (((tunedTo attempting [(1114132, 0#32)]).atT (3 * 10 ^ 12)).rd Reg.GDA_RST_SETTLE) * ms + ((tunedTo attempting [(1114132, 0#32)]).atT (3 * 10 ^ 12)).guards.plucks * max 4 (((tunedTo attempting [(1114132, 0#32)]).atT (3 * 10 ^ 12)).rd Reg.GDA_RST_SPACE) * ms) ∧ ((tunedTo attempting [(1114132, 0#32)]).atT (3 * 10 ^ 12)).gda.state = GuardState.restart ∧ ((tunedTo attempting [(1114132, 0#32)]).atT (3 * 10 ^ 12)).gdb.state = GuardState.restart ∧ ((tunedTo attempting [(1114132, 0#32)]).atT (3 * 10 ^ 12)).gda.stopped = false ∧ ((tunedTo attempting [(1114132, 0#32)]).atT (3 * 10 ^ 12)).gdb.stopped = false ∧ 5 + max 1 (((tunedTo attempting [(1114132, 0#32)]).atT (3 * 10 ^ 12)).rd Reg.GDA_RST_SETTLE) * ms + ((tunedTo attempting [(1114132, 0#32)]).atT (3 * 10 ^ 12)).guards.plucks * max 4 (((tunedTo attempting [(1114132, 0#32)]).atT (3 * 10 ^ 12)).rd Reg.GDA_RST_SPACE) * ms ≤ ((tunedTo attempting [(1114132, 0#32)]).atT (3 * 10 ^ 12)).now ∧ ((tunedTo attempting [(1114132, 0#32)]).atT (3 * 10 ^ 12)).restartUnable = true)
      ∧ (storeWf ({ attempting with psq := { attempting.psq with pluck := some { pluck5 true with restart := true } }, guards := { attempting.guards with plucks := 15 } }.atT (3 * 10 ^ 12)).regs.live = true ∧ ({ attempting with psq := { attempting.psq with pluck := some { pluck5 true with restart := true } }, guards := { attempting.guards with plucks := 15 } }.atT (3 * 10 ^ 12)).psq.pluck = some { pluck5 true with restart := true } ∧ { pluck5 true with restart := true }.restart = true ∧ { pluck5 true with restart := true }.fired = true ∧ { pluck5 true with restart := true }.windowEnd ≤ ({ attempting with psq := { attempting.psq with pluck := some { pluck5 true with restart := true } }, guards := { attempting.guards with plucks := 15 } }.atT (3 * 10 ^ 12)).now ∧ ({ attempting with psq := { attempting.psq with pluck := some { pluck5 true with restart := true } }, guards := { attempting.guards with plucks := 15 } }.atT (3 * 10 ^ 12)).restartCount ≤ ({ attempting with psq := { attempting.psq with pluck := some { pluck5 true with restart := true } }, guards := { attempting.guards with plucks := 15 } }.atT (3 * 10 ^ 12)).guards.plucks ∧ ({ attempting with psq := { attempting.psq with pluck := some { pluck5 true with restart := true } }, guards := { attempting.guards with plucks := 15 } }.atT (3 * 10 ^ 12)).guards.attemptAt = some 5 ∧ ({ attempting with psq := { attempting.psq with pluck := some { pluck5 true with restart := true } }, guards := { attempting.guards with plucks := 15 } }.atT (3 * 10 ^ 12)).gda.state = GuardState.restart ∧ ({ attempting with psq := { attempting.psq with pluck := some { pluck5 true with restart := true } }, guards := { attempting.guards with plucks := 15 } }.atT (3 * 10 ^ 12)).gda.stopped = false)) :=
  ⟨by decide +kernel, by decide +kernel, by decide +kernel⟩

/-- States and operands that meet the hypotheses of `RingCommitsRowsAndCaptures`, a line for each clause; what a clause shares with one above stands there. -/
theorem meets_RingCommitsRowsAndCaptures :
    ((storeWf (ringed.atT 5000).regs.live = true ∧ (ringed.atT 5000).rng.queue = [{ preset := 0, sweep := 9, slot := 5, fireT := 0, firedAt := 99, isPartial := false, late := true, dark := false, index := 41, samples := [{ pos := 4, value := 4660, subst := false, sat := true, acc := 0 : PflSample }] : PflRow }] ∧ (ringed.atT 5000).isolated Block.rng = false ∧ (ringed.atT 5000).rng.formatAt = none ∧ (ringed.atT 5000).rng.nsNext = none ∧ (ringed.atT 5000).rng.ns ≠ 0 ∧ ((ringed.atT 5000).rng.desc.all fun d => d.state == DescState.free) = true ∧ ((ringed.atT 5000).rng.rows.all fun x => x.slot != (ringed.atT 5000).rng.wslot) = true)
      ∧ (storeWf ((asked req5).atT 5000).regs.live = true ∧ ((asked req5).atT 5000).zon.requests = [req5] ∧ ((asked req5).atT 5000).refusal req5 = 0 ∧ req5.cmd = none ∧ req5.stream = false ∧ List.find? (fun j => (((asked req5).atT 5000).desc j).state == DescState.free) (List.range 64) = some 1 ∧ 1 < ((asked req5).atT 5000).rng.desc.length ∧ (((asked req5).atT 5000).rng.rows.all fun x => decide (x.firedAt < req5.trigAt)) = true)
      ∧ (storeWf ((asked { req5 with pre := 0, post := 0 }).atT 5000).regs.live = true ∧ ((asked { req5 with pre := 0, post := 0 }).atT 5000).zon.requests = [{ req5 with pre := 0, post := 0 }] ∧ ((asked { req5 with pre := 0, post := 0 }).atT 5000).refusal { req5 with pre := 0, post := 0 } ≠ 0 ∧ { req5 with pre := 0, post := 0 }.cmd = none))
    ∧ ((storeWf ((desced stream3).atT 5000).regs.live = true ∧ 3 < ((desced stream3).atT 5000).rng.desc.length ∧ (((desced stream3).atT 5000).desc 3).state = DescState.stream ∧ (((desced stream3).atT 5000).desc 3).trow.isSome = true ∧ (((desced stream3).atT 5000).desc 3).next < (((desced stream3).atT 5000).desc 3).given ∧ (((desced stream3).atT 5000).heldRows (((desced stream3).atT 5000).desc 3).num fun o => o == (((desced stream3).atT 5000).desc 3).offset (((desced stream3).atT 5000).desc 3).next) = false ∧ (((desced stream3).atT 5000).desc 3).next + 1 < (((desced stream3).atT 5000).desc 3).stop)
      ∧ (storeWf ((desced { stream3 with state := DescState.closed }).atT 5000).regs.live = true ∧ 3 < ((desced { stream3 with state := DescState.closed }).atT 5000).rng.desc.length ∧ (((desced { stream3 with state := DescState.closed }).atT 5000).desc 3).state = DescState.closed ∧ (((desced { stream3 with state := DescState.closed }).atT 5000).desc 3).stream = true ∧ (((desced { stream3 with state := DescState.closed }).atT 5000).heldRows (((desced { stream3 with state := DescState.closed }).atT 5000).desc 3).num fun _ => true) = false ∧ ((desced { stream3 with state := DescState.closed }).atT 5000).captureSubs = [])
      ∧ (storeWf ((desced { num := 50331655, state := DescState.wait, pre := 5 : Desc }).atT 5000).regs.live = true ∧ commandable ((desced { num := 50331655, state := DescState.wait, pre := 5 : Desc }).atT 5000) Master.jtag Block.rng none ∧ 3 < ((desced { num := 50331655, state := DescState.wait, pre := 5 : Desc }).atT 5000).rng.desc.length ∧ (((desced { num := 50331655, state := DescState.wait, pre := 5 : Desc }).atT 5000).desc 3).state = DescState.wait ∧ (((desced { num := 50331655, state := DescState.wait, pre := 5 : Desc }).atT 5000).desc 3).trow = none)
      ∧ 8 ≠ (((desced { num := 50331655, state := DescState.wait, pre := 5 : Desc }).atT 5000).desc 3).num % 2 ^ 24
      ∧ (storeWf ((desced { num := 50331655, state := DescState.closed, pre := 5 : Desc }).atT 5000).regs.live = true ∧ commandable ((desced { num := 50331655, state := DescState.closed, pre := 5 : Desc }).atT 5000) Master.jtag Block.rng none ∧ (((desced { num := 50331655, state := DescState.closed, pre := 5 : Desc }).atT 5000).desc 3).state = DescState.closed)) :=
  ⟨by decide +kernel, by decide +kernel⟩

/-- States and operands that meet the hypotheses of `BlocksAndCheckValuesComplete`, a line for each clause; what a clause shares with one above stands there. -/
theorem meets_BlocksAndCheckValuesComplete :
    ((storeWf (blocked.atT (10 ^ 12)).regs.live = true ∧ 2 < (blocked.atT (10 ^ 12)).cmp.ctxs.length ∧ ((blocked.atT (10 ^ 12)).ctx 2).flow = some (FlowRef.read 1 2) ∧ ((blocked.atT (10 ^ 12)).ctx 2).samples ≠ [] ∧ (blocked.atT (10 ^ 12)).rd Reg.CMP_CTL_FLUSH_US ≠ 0 ∧ ((blocked.atT (10 ^ 12)).ctx 2).openAt + (blocked.atT (10 ^ 12)).rd Reg.CMP_CTL_FLUSH_US * 10 ^ 6 ≤ (blocked.atT (10 ^ 12)).now ∧ (blocked.atT (10 ^ 12)).isolated Block.cmp = false)
      ∧ (storeWf ((closedBlock 1).atT 5000).regs.live = true ∧ ((closedBlock 1).atT 5000).cmp.closed = [{ ctx := 2, flow := FlowRef.read 1 2, pred := 1, stride := 1, seq := 4, flush := false, error := false, last := false, samples := List.replicate 1 5, rows := [] : CmpBlock }] ∧ (((closedBlock 1).atT 5000).on Reg.CMP_CTL_VERIFY = false ∨ { ctx := 2, flow := FlowRef.read 1 2, pred := 1, stride := 1, seq := 4, flush := false, error := false, last := false, samples := List.replicate 1 5, rows := [] : CmpBlock }.stored = true))
      ∧ (storeWf ((closedBlock 100).atT 5000).regs.live = true ∧ ((closedBlock 100).atT 5000).cmp.closed = [{ ctx := 2, flow := FlowRef.read 1 2, pred := 1, stride := 1, seq := 4, flush := false, error := false, last := false, samples := List.replicate 100 5, rows := [] : CmpBlock }])
      ∧ (((closedBlock 100).atT 5000).on Reg.CMP_CTL_VERIFY = true ∧ { ctx := 2, flow := FlowRef.read 1 2, pred := 1, stride := 1, seq := 4, flush := false, error := false, last := false, samples := List.replicate 100 5, rows := [] : CmpBlock }.stored = false ∧ { ctx := 2, flow := FlowRef.read 1 2, pred := 1, stride := 1, seq := 4, flush := false, error := false, last := false, samples := List.replicate 100 5, rows := [] : CmpBlock }.error = false ∧ ((closedBlock 100).atT 5000).chp.faults = [])
      ∧ (storeWf (svc.atT 5000).regs.live = true ∧ commandable (svc.atT 5000) Master.jtag Block.cvu (some 2) ∧ (svc.atT 5000).cvuOwned 2 = true)
      ∧ (storeWf ((cvu7 8 { : CvuUnit }).atT 5000).regs.live = true ∧ commandable ((cvu7 8 { : CvuUnit }).atT 5000) Master.jtag Block.cvu (some 7) ∧ ((cvu7 8 { : CvuUnit }).atT 5000).cvuOwned 7 = false ∧ 7 < ((cvu7 8 { : CvuUnit }).atT 5000).cvu.units.length ∧ ((cvu7 8 { : CvuUnit }).atT 5000).rd (Reg.CVU_U_FOLD 7) = 0))
    ∧ ((storeWf ((cvu7 0 { state := CvuState.running, run := 305419896, count := 4294967294 : CvuUnit }).atT 5000).regs.live = true ∧ commandable ((cvu7 0 { state := CvuState.running, run := 305419896, count := 4294967294 : CvuUnit }).atT 5000) Master.jtag Block.cvu (some 7) ∧ ((cvu7 0 { state := CvuState.running, run := 305419896, count := 4294967294 : CvuUnit }).atT 5000).cvuOwned 7 = false ∧ (((cvu7 0 { state := CvuState.running, run := 305419896, count := 4294967294 : CvuUnit }).atT 5000).cvuUnit 7).state = CvuState.running ∧ ((cvu7 0 { state := CvuState.running, run := 305419896, count := 4294967294 : CvuUnit }).atT 5000).rd (Reg.CVU_U_SRC 7) = 0)
      ∧ (storeWf ((cvu7 1 { : CvuUnit }).atT 5000).regs.live = true ∧ commandable ((cvu7 1 { : CvuUnit }).atT 5000) Master.jtag Block.cvu (some 7) ∧ ((cvu7 1 { : CvuUnit }).atT 5000).cvuOwned 7 = false)
      ∧ (storeWf ((cvu7 1 { state := CvuState.running : CvuUnit }).atT 5000).regs.live = true ∧ commandable ((cvu7 1 { state := CvuState.running : CvuUnit }).atT 5000) Master.jtag Block.cvu (some 7) ∧ ((cvu7 1 { state := CvuState.running : CvuUnit }).atT 5000).cvuOwned 7 = false)
      ∧ (storeWf ((cvu7 1 { state := CvuState.running, run := 12302652056653603379 : CvuUnit }).atT 5000).regs.live = true ∧ commandable ((cvu7 1 { state := CvuState.running, run := 12302652056653603379 : CvuUnit }).atT 5000) Master.jtag Block.cvu (some 7) ∧ ((cvu7 1 { state := CvuState.running, run := 12302652056653603379 : CvuUnit }).atT 5000).cvuOwned 7 = false ∧ ((cvu7 1 { state := CvuState.running, run := 12302652056653603379 : CvuUnit }).atT 5000).rd (Reg.CVU_U_POLY 7) = 1 ∧ ((cvu7 1 { state := CvuState.running, run := 12302652056653603379 : CvuUnit }).atT 5000).on (Reg.CVU_U_CMP_EN 7) = false ∧ 7 < ((cvu7 1 { state := CvuState.running, run := 12302652056653603379 : CvuUnit }).atT 5000).cvu.units.length))
    ∧ ((storeWf ((cvu7 32 { state := CvuState.running, run := 4294967295 : CvuUnit }).atT 5000).regs.live = true ∧ commandable ((cvu7 32 { state := CvuState.running, run := 4294967295 : CvuUnit }).atT 5000) Master.jtag Block.cvu (some 7) ∧ ((cvu7 32 { state := CvuState.running, run := 4294967295 : CvuUnit }).atT 5000).cvuOwned 7 = false ∧ ((cvu7 32 { state := CvuState.running, run := 4294967295 : CvuUnit }).atT 5000).rd (Reg.CVU_U_POLY 7) = 0 ∧ ((cvu7 32 { state := CvuState.running, run := 4294967295 : CvuUnit }).atT 5000).on (Reg.CVU_U_CMP_EN 7) = true ∧ 7 < ((cvu7 32 { state := CvuState.running, run := 4294967295 : CvuUnit }).atT 5000).cvu.units.length ∧ 7 < 8 ∧ ((cvu7 32 { state := CvuState.running, run := 4294967295 : CvuUnit }).atT 5000).on (Reg.CVU_U_IRQ_EN 7) = false)
      ∧ (storeWf ((cvu7 9 { state := CvuState.running, run := 4294967280, dram := true : CvuUnit }).atT 5000).regs.live = true ∧ (((cvu7 9 { state := CvuState.running, run := 4294967280, dram := true : CvuUnit }).atT 5000).cvuUnit 7).state = CvuState.running ∧ (((cvu7 9 { state := CvuState.running, run := 4294967280, dram := true : CvuUnit }).atT 5000).cvuUnit 7).dram = true ∧ ((cvu7 9 { state := CvuState.running, run := 4294967280, dram := true : CvuUnit }).atT 5000).isolatedAt Block.cvu (some 7) = false ∧ 7 < ((cvu7 9 { state := CvuState.running, run := 4294967280, dram := true : CvuUnit }).atT 5000).cvu.units.length ∧ ((cvu7 9 { state := CvuState.running, run := 4294967280, dram := true : CvuUnit }).atT 5000).rd (Reg.CVU_U_POLY 7) = 1 ∧ ((cvu7 9 { state := CvuState.running, run := 4294967280, dram := true : CvuUnit }).atT 5000).on (Reg.CVU_U_CMP_EN 7) = false)) :=
  ⟨by decide +kernel, by decide +kernel, by decide +kernel⟩

/-- States and operands that meet the hypotheses of `DramServesItsRequests`, a line for each clause; what a clause shares with one above stands there. -/
theorem meets_DramServesItsRequests :
    ((storeWf ((dram awake).atT 5000).regs.live = true ∧ ((dram awake).atT 5000).dramTakes 65 = true ∧ (((dram awake).atT 5000).subCh (((dram awake).atT 5000).place 65).sub).state = SubState.active ∧ 0 < [1, 2, 3].length ∧ 65 % 64 + [1, 2, 3].length ≤ 64 ∧ (((dram awake).atT 5000).place 65).sub < 4)
      ∧ (((dram awake).atT 5000).dramTakes 70 = true ∧ (((dram awake).atT 5000).subCh (((dram awake).atT 5000).place 70).sub).state = SubState.active ∧ (((dram awake).atT 5000).place 70).sub < ((dram awake).atT 5000).dmc.subs.length)
      ∧ (storeWf (svc.atT 5000).regs.live = true ∧ (svc.atT 5000).dramTakes 70 = false)
      ∧ (storeWf (reading.atT 5000).regs.live = true ∧ ((reading.atT 5000).subCh 0).state = SubState.active ∧ (reading.atT 5000).pickRead 0 = some ({ seq := 4, id := 6, addr := 64, cls := 3, time := 3, data := [9, 8], bad := false : DramReq }, List.filter (fun h => !(h.fst == ((reading.atT 5000).place { seq := 4, id := 6, addr := 64, cls := 3, time := 3, data := [9, 8], bad := false : DramReq }.addr).rank && h.snd.fst == ((reading.atT 5000).place { seq := 4, id := 6, addr := 64, cls := 3, time := 3, data := [9, 8], bad := false : DramReq }.addr).bank)) ((reading.atT 5000).subCh 0).hits) ∧ (List.map (fun c => c.queue) (reading.atT 5000).dmc.subs).flatten = [{ seq := 4, id := 6, addr := 64, cls := 3, time := 3, data := [9, 8], bad := false : DramReq }] ∧ ((reading.atT 5000).dmc.subs.getD 0 { : SubChannel }).queue = [{ seq := 4, id := 6, addr := 64, cls := 3, time := 3, data := [9, 8], bad := false : DramReq }] ∧ { seq := 4, id := 6, addr := 64, cls := 3, time := 3, data := [9, 8], bad := false : DramReq }.served = false ∧ { seq := 4, id := 6, addr := 64, cls := 3, time := 3, data := [9, 8], bad := false : DramReq }.bad = false ∧ 0 < 4 ∧ ((reading.atT 5000).place { seq := 4, id := 6, addr := 64, cls := 3, time := 3, data := [9, 8], bad := false : DramReq }.addr).sub = 0)
      ∧ { seq := 4, id := 6, addr := 64, cls := 3, time := 3, data := [9, 8], bad := false : DramReq }.newer = false
      ∧ storeWf (reading.atT (10 ^ 9)).regs.live = true
      ∧ storeWf (reading.atT (10 ^ 6 + 6)).regs.live = true)
    ∧ (storeWf ((liveTo (dram awake) [(3145760, 257#32)]).atT (10 ^ 15)).regs.live = true ∧ ((liveTo (dram awake) [(3145760, 257#32)]).atT (10 ^ 15)).on Reg.DMC_SCRUB_EN = true ∧ ((liveTo (dram awake) [(3145760, 257#32)]).atT (10 ^ 15)).dmc.closed = false ∧ (((liveTo (dram awake) [(3145760, 257#32)]).atT (10 ^ 15)).subCh (((liveTo (dram awake) [(3145760, 257#32)]).atT (10 ^ 15)).place (((liveTo (dram awake) [(3145760, 257#32)]).atT (10 ^ 15)).dmc.scrubLine * 64)).sub).state = SubState.active ∧ ((liveTo (dram awake) [(3145760, 257#32)]).atT (10 ^ 15)).isolated Block.dmc = false ∧ (((liveTo (dram awake) [(3145760, 257#32)]).atT (10 ^ 15)).place (((liveTo (dram awake) [(3145760, 257#32)]).atT (10 ^ 15)).dmc.scrubLine * 64)).sub < 4 ∧ ((liveTo (dram awake) [(3145760, 257#32)]).atT (10 ^ 15)).dmc.scrubAt + max 1 (((liveTo (dram awake) [(3145760, 257#32)]).atT (10 ^ 15)).rd Reg.DMC_SCRUB_HOURS) * 3600 * 10 ^ 12 / (((liveTo (dram awake) [(3145760, 257#32)]).atT (10 ^ 15)).usableBytes / 64) ≤ ((liveTo (dram awake) [(3145760, 257#32)]).atT (10 ^ 15)).now) :=
  ⟨by decide +kernel, by decide +kernel⟩

/-- States and operands that meet the hypotheses of `DramKeepsItsData`, a line for each clause; what a clause shares with one above stands there. -/
theorem meets_DramKeepsItsData :
    ((3 < 4 ∧ 3 < ((cx awake).atT (10 ^ 9)).dmc.subs.length ∧ 0 < ((cx awake).atT (10 ^ 9)).ranksFitted ∧ 0 < (((cx awake).atT (10 ^ 9)).subCh 3).ranks.length ∧ (((cx awake).atT (10 ^ 9)).subCh 3).state = SubState.active ∧ (((cx awake).atT (10 ^ 9)).rank 3 0).intervalAt + rateInterval (((cx awake).atT (10 ^ 9)).rank 3 0).rate ≤ ((cx awake).atT (10 ^ 9)).now ∧ (((cx awake).atT (10 ^ 9)).rank 3 0).rateNext = none ∧ (((cx awake).atT (10 ^ 9)).rank 3 0).debt = 0 ∧ (((cx awake).atT (10 ^ 9)).rank 3 0).refreshAt = none ∧ (((cx awake).atT (10 ^ 9)).rank 3 0).catchUp = none ∧ ((cx awake).atT (10 ^ 9)).rankWaits 3 0 = false)
      ∧ (3 < ((cx { awake with ranks := [{ refreshAt := some 5 : DramRank }, { : DramRank }] }).atT (10 ^ 9)).dmc.subs.length ∧ 0 < ((cx { awake with ranks := [{ refreshAt := some 5 : DramRank }, { : DramRank }] }).atT (10 ^ 9)).ranksFitted ∧ 0 < (((cx { awake with ranks := [{ refreshAt := some 5 : DramRank }, { : DramRank }] }).atT (10 ^ 9)).subCh 3).ranks.length ∧ (((cx { awake with ranks := [{ refreshAt := some 5 : DramRank }, { : DramRank }] }).atT (10 ^ 9)).subCh 3).state = SubState.active ∧ (((cx { awake with ranks := [{ refreshAt := some 5 : DramRank }, { : DramRank }] }).atT (10 ^ 9)).rank 3 0).refreshAt = some 5 ∧ 5 + ((cx { awake with ranks := [{ refreshAt := some 5 : DramRank }, { : DramRank }] }).atT (10 ^ 9)).tRfc ≤ ((cx { awake with ranks := [{ refreshAt := some 5 : DramRank }, { : DramRank }] }).atT (10 ^ 9)).now ∧ (((cx { awake with ranks := [{ refreshAt := some 5 : DramRank }, { : DramRank }] }).atT (10 ^ 9)).rank 3 0).catchUp = none ∧ (((cx { awake with ranks := [{ refreshAt := some 5 : DramRank }, { : DramRank }] }).atT (10 ^ 9)).rank 3 0).debt = 0)
      ∧ (3 < ((cx awake).atT (10 ^ 11)).dmc.subs.length ∧ 0 < ((cx awake).atT (10 ^ 11)).ranksFitted ∧ 0 < (((cx awake).atT (10 ^ 11)).subCh 3).ranks.length ∧ ((cx awake).atT (10 ^ 11)).dmc.pollAt + (if ((cx awake).atT (10 ^ 11)).fastPoll = true then 2 else 16) * 10 ^ 9 ≤ ((cx awake).atT (10 ^ 11)).now ∧ (((cx awake).atT (10 ^ 11)).subCh 3).state = SubState.active))
    ∧ ((3 < ((cx { awake with ranks := [{ mr4Due := true : DramRank }, { : DramRank }] }).atT (10 ^ 9)).dmc.subs.length ∧ 0 < ((cx { awake with ranks := [{ mr4Due := true : DramRank }, { : DramRank }] }).atT (10 ^ 9)).ranksFitted ∧ 0 < (((cx { awake with ranks := [{ mr4Due := true : DramRank }, { : DramRank }] }).atT (10 ^ 9)).subCh 3).ranks.length ∧ (((cx { awake with ranks := [{ mr4Due := true : DramRank }, { : DramRank }] }).atT (10 ^ 9)).rank 3 0).mr4Due = true ∧ (((cx { awake with ranks := [{ mr4Due := true : DramRank }, { : DramRank }] }).atT (10 ^ 9)).rank 3 0).rate = 0 ∧ (((cx { awake with ranks := [{ mr4Due := true : DramRank }, { : DramRank }] }).atT (10 ^ 9)).rank 3 0).debt = 0)
      ∧ (3 < ((cx { awake with ranks := [{ rate := 1, mr4Due := true : DramRank }, { : DramRank }] }).atT (10 ^ 9)).dmc.subs.length ∧ 0 < ((cx { awake with ranks := [{ rate := 1, mr4Due := true : DramRank }, { : DramRank }] }).atT (10 ^ 9)).ranksFitted ∧ 0 < (((cx { awake with ranks := [{ rate := 1, mr4Due := true : DramRank }, { : DramRank }] }).atT (10 ^ 9)).subCh 3).ranks.length ∧ (((cx { awake with ranks := [{ rate := 1, mr4Due := true : DramRank }, { : DramRank }] }).atT (10 ^ 9)).rank 3 0).mr4Due = true ∧ (((cx { awake with ranks := [{ rate := 1, mr4Due := true : DramRank }, { : DramRank }] }).atT (10 ^ 9)).rank 3 0).rate = 1)
      ∧ (3 < ((cx { awake with tracked := [{ rank := 0, bank := 1, row := 2, count := 3 : TrackedRow }], throttled := [(0, 5), (1, 6)] }).atT (10 ^ 12)).dmc.subs.length ∧ 0 < ((cx { awake with tracked := [{ rank := 0, bank := 1, row := 2, count := 3 : TrackedRow }], throttled := [(0, 5), (1, 6)] }).atT (10 ^ 12)).ranksFitted ∧ 0 < (((cx { awake with tracked := [{ rank := 0, bank := 1, row := 2, count := 3 : TrackedRow }], throttled := [(0, 5), (1, 6)] }).atT (10 ^ 12)).subCh 3).ranks.length ∧ (((cx { awake with tracked := [{ rank := 0, bank := 1, row := 2, count := 3 : TrackedRow }], throttled := [(0, 5), (1, 6)] }).atT (10 ^ 12)).subCh 3).trained = true ∧ (((cx { awake with tracked := [{ rank := 0, bank := 1, row := 2, count := 3 : TrackedRow }], throttled := [(0, 5), (1, 6)] }).atT (10 ^ 12)).rank 3 0).windowAt + rateWindow (((cx { awake with tracked := [{ rank := 0, bank := 1, row := 2, count := 3 : TrackedRow }], throttled := [(0, 5), (1, 6)] }).atT (10 ^ 12)).rank 3 0).rate ≤ ((cx { awake with tracked := [{ rank := 0, bank := 1, row := 2, count := 3 : TrackedRow }], throttled := [(0, 5), (1, 6)] }).atT (10 ^ 12)).now))
    ∧ ((3 < ((liveTo (cx { awake with openRows := [(0, 1, 2, 3), (1, 2, 3, 4)] }) [(3145752, 3#32)]).atT (10 ^ 9)).dmc.subs.length ∧ 0 < ((liveTo (cx { awake with openRows := [(0, 1, 2, 3), (1, 2, 3, 4)] }) [(3145752, 3#32)]).atT (10 ^ 9)).ranksFitted ∧ 0 < (((liveTo (cx { awake with openRows := [(0, 1, 2, 3), (1, 2, 3, 4)] }) [(3145752, 3#32)]).atT (10 ^ 9)).subCh 3).ranks.length ∧ ((liveTo (cx { awake with openRows := [(0, 1, 2, 3), (1, 2, 3, 4)] }) [(3145752, 3#32)]).atT (10 ^ 9)).on Reg.DMC_SR_PD_EN = true ∧ (((liveTo (cx { awake with openRows := [(0, 1, 2, 3), (1, 2, 3, 4)] }) [(3145752, 3#32)]).atT (10 ^ 9)).subCh 3).state = SubState.active ∧ (((liveTo (cx { awake with openRows := [(0, 1, 2, 3), (1, 2, 3, 4)] }) [(3145752, 3#32)]).atT (10 ^ 9)).rank 3 0).debt = 0 ∧ (((liveTo (cx { awake with openRows := [(0, 1, 2, 3), (1, 2, 3, 4)] }) [(3145752, 3#32)]).atT (10 ^ 9)).rank 3 0).refreshAt = none ∧ (((liveTo (cx { awake with openRows := [(0, 1, 2, 3), (1, 2, 3, 4)] }) [(3145752, 3#32)]).atT (10 ^ 9)).rank 3 0).catchUp = none ∧ ((liveTo (cx { awake with openRows := [(0, 1, 2, 3), (1, 2, 3, 4)] }) [(3145752, 3#32)]).atT (10 ^ 9)).rankWaits 3 0 = false ∧ (((liveTo (cx { awake with openRows := [(0, 1, 2, 3), (1, 2, 3, 4)] }) [(3145752, 3#32)]).atT (10 ^ 9)).rank 3 0).usedAt + 128000000 / ((liveTo (cx { awake with openRows := [(0, 1, 2, 3), (1, 2, 3, 4)] }) [(3145752, 3#32)]).atT (10 ^ 9)).dramRate ≤ ((liveTo (cx { awake with openRows := [(0, 1, 2, 3), (1, 2, 3, 4)] }) [(3145752, 3#32)]).atT (10 ^ 9)).now)
      ∧ (3 < ((liveTo (cx { awake with openRows := [(0, 1, 2, 3), (1, 2, 3, 4)] }) [(3145752, 3#32)]).atT (10 ^ 12)).dmc.subs.length ∧ 0 < ((liveTo (cx { awake with openRows := [(0, 1, 2, 3), (1, 2, 3, 4)] }) [(3145752, 3#32)]).atT (10 ^ 12)).ranksFitted ∧ 0 < (((liveTo (cx { awake with openRows := [(0, 1, 2, 3), (1, 2, 3, 4)] }) [(3145752, 3#32)]).atT (10 ^ 12)).subCh 3).ranks.length ∧ ((liveTo (cx { awake with openRows := [(0, 1, 2, 3), (1, 2, 3, 4)] }) [(3145752, 3#32)]).atT (10 ^ 12)).on Reg.DMC_SR_EN = true ∧ (((liveTo (cx { awake with openRows := [(0, 1, 2, 3), (1, 2, 3, 4)] }) [(3145752, 3#32)]).atT (10 ^ 12)).subCh 3).state = SubState.active ∧ (((liveTo (cx { awake with openRows := [(0, 1, 2, 3), (1, 2, 3, 4)] }) [(3145752, 3#32)]).atT (10 ^ 12)).subCh 3).queue = [] ∧ (((liveTo (cx { awake with openRows := [(0, 1, 2, 3), (1, 2, 3, 4)] }) [(3145752, 3#32)]).atT (10 ^ 12)).subCh 3).lastReq + max 1 (((liveTo (cx { awake with openRows := [(0, 1, 2, 3), (1, 2, 3, 4)] }) [(3145752, 3#32)]).atT (10 ^ 12)).rd Reg.DMC_SR_IDLE_US) * 10 ^ 6 ≤ ((liveTo (cx { awake with openRows := [(0, 1, 2, 3), (1, 2, 3, 4)] }) [(3145752, 3#32)]).atT (10 ^ 12)).now ∧ ((((liveTo (cx { awake with openRows := [(0, 1, 2, 3), (1, 2, 3, 4)] }) [(3145752, 3#32)]).atT (10 ^ 12)).subCh 3).ranks.all fun y => y.debt == 0) = true))
    ∧ ((3 < ((cx { awake with state := SubState.srEntry }).atT (10 ^ 12)).dmc.subs.length ∧ 0 < ((cx { awake with state := SubState.srEntry }).atT (10 ^ 12)).ranksFitted ∧ 0 < (((cx { awake with state := SubState.srEntry }).atT (10 ^ 12)).subCh 3).ranks.length ∧ (((cx { awake with state := SubState.srEntry }).atT (10 ^ 12)).subCh 3).state = SubState.srEntry ∧ (((cx { awake with state := SubState.srEntry }).atT (10 ^ 12)).subCh 3).entryAt ≤ ((cx { awake with state := SubState.srEntry }).atT (10 ^ 12)).now ∧ ((((cx { awake with state := SubState.srEntry }).atT (10 ^ 12)).subCh 3).ranks.all fun y => y.debt == 0 && y.refreshAt.isNone) = true ∧ ((cx { awake with state := SubState.srEntry }).atT (10 ^ 12)).maskedSegments = [] ∧ storeWf ((cx { awake with state := SubState.srEntry }).atT (10 ^ 12)).regs.live = true)
      ∧ (3 < (tst.atT (10 ^ 12)).dmc.subs.length ∧ 0 < (tst.atT (10 ^ 12)).ranksFitted ∧ 0 < ((tst.atT (10 ^ 12)).subCh 3).ranks.length ∧ commandable (tst.atT (10 ^ 12)) Master.jtag Block.dmc none ∧ (tst.atT (10 ^ 12)).chp.mode = Mode.test)
      ∧ (3 < ((cx awake).atT (10 ^ 12)).dmc.subs.length ∧ 0 < ((cx awake).atT (10 ^ 12)).ranksFitted ∧ 0 < (((cx awake).atT (10 ^ 12)).subCh 3).ranks.length ∧ commandable ((cx awake).atT (10 ^ 12)) Master.jtag Block.dmc none ∧ ((cx awake).atT (10 ^ 12)).chp.mode ≠ Mode.test)
      ∧ (3 < ({ cx awake with dmc := { (cx awake).dmc with subs := (cx awake).dmc.subs.set 3 { state := SubState.training : SubChannel } } }.atT (10 ^ 12)).dmc.subs.length ∧ 0 < ({ cx awake with dmc := { (cx awake).dmc with subs := (cx awake).dmc.subs.set 3 { state := SubState.training : SubChannel } } }.atT (10 ^ 12)).ranksFitted ∧ 0 < (({ cx awake with dmc := { (cx awake).dmc with subs := (cx awake).dmc.subs.set 3 { state := SubState.training : SubChannel } } }.atT (10 ^ 12)).subCh 3).ranks.length ∧ (({ cx awake with dmc := { (cx awake).dmc with subs := (cx awake).dmc.subs.set 3 { state := SubState.training : SubChannel } } }.atT (10 ^ 12)).subCh 3).state = SubState.training ∧ ({ cx awake with dmc := { (cx awake).dmc with subs := (cx awake).dmc.subs.set 3 { state := SubState.training : SubChannel } } }.atT (10 ^ 12)).dmc.subs.length = 4 ∧ ((({ cx awake with dmc := { (cx awake).dmc with subs := (cx awake).dmc.subs.set 3 { state := SubState.training : SubChannel } } }.atT (10 ^ 12)).dmc.subs.set 3 { : SubChannel }).all fun y => y.state != SubState.training && y.state != SubState.failed) = true))
    ∧ ((3 < ((cx { awake with ranks := [{ retrainDue := true : DramRank }, { : DramRank }] }).atT (10 ^ 12)).dmc.subs.length ∧ 0 < ((cx { awake with ranks := [{ retrainDue := true : DramRank }, { : DramRank }] }).atT (10 ^ 12)).ranksFitted ∧ 0 < (((cx { awake with ranks := [{ retrainDue := true : DramRank }, { : DramRank }] }).atT (10 ^ 12)).subCh 3).ranks.length ∧ (((cx { awake with ranks := [{ retrainDue := true : DramRank }, { : DramRank }] }).atT (10 ^ 12)).chp.mode = Mode.service ∨ ((cx { awake with ranks := [{ retrainDue := true : DramRank }, { : DramRank }] }).atT (10 ^ 12)).chp.mode = Mode.test) ∧ (((cx { awake with ranks := [{ retrainDue := true : DramRank }, { : DramRank }] }).atT (10 ^ 12)).subCh 3).state = SubState.active ∧ (((cx { awake with ranks := [{ retrainDue := true : DramRank }, { : DramRank }] }).atT (10 ^ 12)).rank 3 0).retrainDue = true ∧ 3 ≤ ((cx { awake with ranks := [{ retrainDue := true : DramRank }, { : DramRank }] }).atT (10 ^ 12)).rd Reg.DMC_RETRAIN_DRIFT_PS)
      ∧ ((((cx awake).atT (10 ^ 12)).chp.mode = Mode.service ∨ ((cx awake).atT (10 ^ 12)).chp.mode = Mode.test) ∧ (((cx awake).atT (10 ^ 12)).subCh 3).state = SubState.active ∧ (((cx awake).atT (10 ^ 12)).rank 3 0).zqAt + 64 * 10 ^ 9 ≤ ((cx awake).atT (10 ^ 12)).now)) :=
  ⟨by decide +kernel, by decide +kernel, by decide +kernel, by decide +kernel, by decide +kernel⟩

/-- States and operands that meet the hypotheses of `ReferenceConvertsAndCalibrates`, a line for each clause; what a clause shares with one above stands there. -/
theorem meets_ReferenceConvertsAndCalibrates :
    ((storeWf ((ref4 0 { : Ref }).atT 5000).regs.live = true ∧ ((ref4 0 { : Ref }).atT 5000).on Reg.REF_CTL_EN = true ∧ ((ref4 0 { : Ref }).atT 5000).ref.restarting = false ∧ ((ref4 0 { : Ref }).atT 5000).ref.cycleDone = true ∧ ((ref4 0 { : Ref }).atT 5000).ref.act = RefAct.idle ∧ ((ref4 0 { : Ref }).atT 5000).rd Reg.REF_SEQ_CTL_PERIOD_US = 0 ∧ ((ref4 0 { : Ref }).atT 5000).ref.freeAt ≤ ((ref4 0 { : Ref }).atT 5000).now ∧ ((ref4 0 { : Ref }).atT 5000).on (Reg.REF_SEQ_EN 0) = true ∧ ((ref4 0 { : Ref }).atT 5000).pairedOdd (((ref4 0 { : Ref }).atT 5000).rd (Reg.REF_SEQ_CH 0)) = false)
      ∧ (commandable ((ref4 0 { : Ref }).atT 5000) Master.jtag Block.ref none ∧ ((ref4 0 { : Ref }).atT 5000).rd Reg.REF_INJ_CTL_TRIG = 0 ∧ ((ref4 0 { : Ref }).atT 5000).ref.injPending = false ∧ ((ref4 0 { : Ref }).atT 5000).ref.conv = none ∧ ((ref4 0 { : Ref }).atT 5000).on (Reg.REF_INJ_EN 0) = true ∧ ((ref4 0 { : Ref }).atT 5000).pairedOdd (((ref4 0 { : Ref }).atT 5000).rd (Reg.REF_INJ_CH 0)) = false)
      ∧ (storeWf ((ref4 0 { act := RefAct.injected : Ref }).atT 5000).regs.live = true ∧ commandable ((ref4 0 { act := RefAct.injected : Ref }).atT 5000) Master.jtag Block.ref none ∧ ((ref4 0 { act := RefAct.injected : Ref }).atT 5000).rd Reg.REF_INJ_CTL_TRIG = 0 ∧ ((ref4 0 { act := RefAct.injected : Ref }).atT 5000).ref.restarting = false ∧ ((ref4 0 { act := RefAct.injected : Ref }).atT 5000).on Reg.REF_CTL_EN = true ∧ ((ref4 0 { act := RefAct.injected : Ref }).atT 5000).ref.act = RefAct.injected))
    ∧ ((storeWf ((ref4 2 { tachDue := true : Ref }).atT 5000).regs.live = true ∧ ((ref4 2 { tachDue := true : Ref }).atT 5000).rd Reg.REF_INJ_CTL_TRIG = 2 ∧ ((ref4 2 { tachDue := true : Ref }).atT 5000).ref.tachDue = true ∧ ((ref4 2 { tachDue := true : Ref }).atT 5000).ref.restarting = false ∧ ((ref4 2 { tachDue := true : Ref }).atT 5000).on Reg.REF_CTL_EN = true ∧ ((ref4 2 { tachDue := true : Ref }).atT 5000).ref.act = RefAct.idle ∧ ((ref4 2 { tachDue := true : Ref }).atT 5000).ref.injPending = false ∧ ((ref4 2 { tachDue := true : Ref }).atT 5000).ref.conv = none ∧ ((ref4 2 { tachDue := true : Ref }).atT 5000).on (Reg.REF_INJ_EN 0) = true ∧ ((ref4 2 { tachDue := true : Ref }).atT 5000).pairedOdd (((ref4 2 { tachDue := true : Ref }).atT 5000).rd (Reg.REF_INJ_CH 0)) = false)
      ∧ ((ref4 0 { : Ref }).atT 5000).ref.calPending = false
      ∧ (storeWf ((ref4 0 { : Ref }).atT (10 ^ 13)).regs.live = true ∧ ((ref4 0 { : Ref }).atT (10 ^ 13)).rd Reg.REF_CAL_CTL_PERIOD_S ≠ 0 ∧ ((ref4 0 { : Ref }).atT (10 ^ 13)).ref.calPeriodAt + ((ref4 0 { : Ref }).atT (10 ^ 13)).rd Reg.REF_CAL_CTL_PERIOD_S * 10 ^ 12 ≤ ((ref4 0 { : Ref }).atT (10 ^ 13)).now ∧ ((ref4 0 { : Ref }).atT (10 ^ 13)).isolated Block.ref = false ∧ ((ref4 0 { : Ref }).atT (10 ^ 13)).ref.restarting = false ∧ ((ref4 0 { : Ref }).atT (10 ^ 13)).ref.act = RefAct.idle ∧ ((ref4 0 { : Ref }).atT (10 ^ 13)).ref.calPending = false ∧ ((ref4 0 { : Ref }).atT (10 ^ 13)).ref.conv = none))
    ∧ ((storeWf ((liveTo { svc with ref := { act := RefAct.calibrating : Ref } } []).atT (10 ^ 13)).regs.live = true ∧ ((liveTo { svc with ref := { act := RefAct.calibrating : Ref } } []).atT (10 ^ 13)).ref.act = RefAct.calibrating ∧ ((liveTo { svc with ref := { act := RefAct.calibrating : Ref } } []).atT (10 ^ 13)).ref.calAt + 1536 * 10 ^ 6 ≤ ((liveTo { svc with ref := { act := RefAct.calibrating : Ref } } []).atT (10 ^ 13)).now ∧ ((liveTo { svc with ref := { act := RefAct.calibrating : Ref } } []).atT (10 ^ 13)).ref.injPending = false ∧ ((liveTo { svc with ref := { act := RefAct.calibrating : Ref } } []).atT (10 ^ 13)).ref.cycleDone = true ∧ ((List.range 8).all fun g => (o8.getD g none).isSome && (o8.getD g none).isSome) = true ∧ ((List.range 12).all fun c => !((liveTo { svc with ref := { act := RefAct.calibrating : Ref } } []).atT (10 ^ 13)).excited c) = true ∧ 7 < 8 ∧ o8.getD 7 none = some 12 ∧ 12 < 2 ^ 24)
      ∧ 15 < 16
      ∧ (4 < 12 ∧ 4 < ((ref4 0 { : Ref }).atT 5000).ref.chans.length ∧ ((ref4 0 { : Ref }).atT 5000).excited 4 = true ∧ ((ref4 0 { : Ref }).atT 5000).pairedOdd 4 = false ∧ (((ref4 0 { : Ref }).atT 5000).refChan 4).compliance = false ∧ (((ref4 0 { : Ref }).atT 5000).refChan 4).openWire = false)
      ∧ (storeWf ((ref4 0 { chans := (List.replicate 16 { : RefChan }).set 4 { compliance := true : RefChan } : Ref }).atT 5000).regs.live = true ∧ (((ref4 0 { chans := (List.replicate 16 { : RefChan }).set 4 { compliance := true : RefChan } : Ref }).atT 5000).refChan 4).compliance = true))
    ∧ (storeWf (cvd.atT 5000).regs.live = true ∧ (cvd.atT 5000).ref.conv = some conv4 ∧ conv4.endAt ≤ (cvd.atT 5000).now ∧ conv4.injected = false ∧ conv4.chan < 16 ∧ conv4.chan < (cvd.atT 5000).ref.chans.length ∧ ((cvd.atT 5000).refChan conv4.chan).discard = false ∧ ((cvd.atT 5000).refChan conv4.chan).openWire = false ∧ (cvd.atT 5000).rd (Reg.REF_C_MED conv4.chan) = 0 ∧ (cvd.atT 5000).rd (Reg.REF_C_AUTO conv4.chan) = 0 ∧ (cvd.atT 5000).rd (Reg.REF_C_CURVE conv4.chan) = 0 ∧ (cvd.atT 5000).rd (Reg.REF_OFF conv4.gain) = 0 ∧ (cvd.atT 5000).rd (Reg.REF_GAIN conv4.gain) = 4194304 ∧ conv4.gain < 8 ∧ conv4.chan ≠ 12) :=
  ⟨by decide +kernel, by decide +kernel, by decide +kernel, by decide +kernel⟩

/-- States and operands that meet the hypotheses of `TimeIntervalUnitsMeasure`, a line for each clause; what a clause shares with one above stands there. -/
theorem meets_TimeIntervalUnitsMeasure :
    ((storeWf ((timed 0 { : TiuUnit }).atT 4004000).regs.live = true ∧ ((timed 0 { : TiuUnit }).atT 4004000).tiu.lastEdge.getD 1 none = some 1000 ∧ ((timed 0 { : TiuUnit }).atT 4004000).now / 4000 < 1000 + ((timed 0 { : TiuUnit }).atT 4004000).rd (Reg.TIU_IN_HOLDOFF 1))
      ∧ (storeWf ((timing 0 { state := TiuState.running, startCount := 5 : TiuUnit }).atT 8004000).regs.live = true ∧ 1 < 4 ∧ 2 < 4 ∧ ((timing 0 { state := TiuState.running, startCount := 5 : TiuUnit }).atT 8004000).tiu.units.length = 4 ∧ ((timing 0 { state := TiuState.running, startCount := 5 : TiuUnit }).atT 8004000).tiu.lastEdge.getD 1 none = none ∧ ((timing 0 { state := TiuState.running, startCount := 5 : TiuUnit }).atT 8004000).isolated Block.tiu = false ∧ (((timing 0 { state := TiuState.running, startCount := 5 : TiuUnit }).atT 8004000).tiuUnit 2).state = TiuState.running ∧ (((timing 0 { state := TiuState.running, startCount := 5 : TiuUnit }).atT 8004000).tiuUnit 2).startCount ≤ ((timing 0 { state := TiuState.running, startCount := 5 : TiuUnit }).atT 8004000).now / 4000 ∧ ((timing 0 { state := TiuState.running, startCount := 5 : TiuUnit }).atT 8004000).now / 4000 < (((timing 0 { state := TiuState.running, startCount := 5 : TiuUnit }).atT 8004000).tiuUnit 2).startCount + 2 ^ 32 ∧ ((timing 0 { state := TiuState.running, startCount := 5 : TiuUnit }).atT 8004000).on (Reg.TIU_U_MODE 2) = false ∧ (((timing 0 { state := TiuState.running, startCount := 5 : TiuUnit }).atT 8004000).rd (Reg.TIU_U_START 2) = 1 + if true = true then 0 else 4) ∧ (((timing 0 { state := TiuState.running, startCount := 5 : TiuUnit }).atT 8004000).tiuUnit 2).results = [] ∧ ((timing 0 { state := TiuState.running, startCount := 5 : TiuUnit }).atT 8004000).pwr.fallback = false ∧ (((timing 0 { state := TiuState.running, startCount := 5 : TiuUnit }).atT 8004000).tiuUnit 2).startCount + 4 ≤ ((timing 0 { state := TiuState.running, startCount := 5 : TiuUnit }).atT 8004000).now / 4000))
    ∧ ((storeWf ((timing 1 { state := TiuState.armed : TiuUnit }).atT 8004000).regs.live = true ∧ ((timing 1 { state := TiuState.armed : TiuUnit }).atT 8004000).tiu.units.length = 4 ∧ ((timing 1 { state := TiuState.armed : TiuUnit }).atT 8004000).tiu.lastEdge.getD 1 none = none ∧ ((timing 1 { state := TiuState.armed : TiuUnit }).atT 8004000).isolated Block.tiu = false ∧ (((timing 1 { state := TiuState.armed : TiuUnit }).atT 8004000).tiuUnit 2).state = TiuState.armed ∧ (((timing 1 { state := TiuState.armed : TiuUnit }).atT 8004000).tiuUnit 2).earlyCount = none ∧ ((timing 1 { state := TiuState.armed : TiuUnit }).atT 8004000).on (Reg.TIU_U_MODE 2) = true ∧ (((timing 1 { state := TiuState.armed : TiuUnit }).atT 8004000).rd (Reg.TIU_U_START 2) = 1 + if true = true then 0 else 4) ∧ edgeIs (((timing 1 { state := TiuState.armed : TiuUnit }).atT 8004000).rd (Reg.TIU_U_STOP 2)) 1 true = false)
      ∧ (storeWf ((timing 0 { state := TiuState.running : TiuUnit }).atT (10 ^ 15)).regs.live = true ∧ 2 < ((timing 0 { state := TiuState.running : TiuUnit }).atT (10 ^ 15)).tiu.units.length ∧ (((timing 0 { state := TiuState.running : TiuUnit }).atT (10 ^ 15)).tiuUnit 2).state = TiuState.running ∧ (((timing 0 { state := TiuState.running : TiuUnit }).atT (10 ^ 15)).tiuUnit 2).startCount + 2 ^ 32 ≤ ((timing 0 { state := TiuState.running : TiuUnit }).atT (10 ^ 15)).now / 4000 ∧ ((timing 0 { state := TiuState.running : TiuUnit }).atT (10 ^ 15)).isolated Block.tiu = false)
      ∧ (storeWf ((timed 0 { state := TiuState.running, rateValid := true : TiuUnit }).atT (10 ^ 15)).regs.live = true ∧ (((timed 0 { state := TiuState.running, rateValid := true : TiuUnit }).atT (10 ^ 15)).tiuUnit 2).rateValid = true ∧ ((timed 0 { state := TiuState.running, rateValid := true : TiuUnit }).atT (10 ^ 15)).isolated Block.tiu = false ∧ ((timed 0 { state := TiuState.running, rateValid := true : TiuUnit }).atT (10 ^ 15)).tiu.lastEdge.getD (((timed 0 { state := TiuState.running, rateValid := true : TiuUnit }).atT (10 ^ 15)).rd (Reg.TIU_U_START 2) % 4) none = some 1000 ∧ 1000 * 4000 + max 1 (((timed 0 { state := TiuState.running, rateValid := true : TiuUnit }).atT (10 ^ 15)).rd (Reg.TIU_U_TIMEOUT 2)) * 10 ^ 9 ≤ ((timed 0 { state := TiuState.running, rateValid := true : TiuUnit }).atT (10 ^ 15)).now)
      ∧ (storeWf ((timed 1 { state := TiuState.running, rateValid := true : TiuUnit }).atT (10 ^ 15)).regs.live = true ∧ commandable ((timed 1 { state := TiuState.running, rateValid := true : TiuUnit }).atT (10 ^ 15)) Master.jtag Block.tiu none ∧ ((timed 1 { state := TiuState.running, rateValid := true : TiuUnit }).atT (10 ^ 15)).on (Reg.TIU_U_MODE 2) = true ∧ (((timed 1 { state := TiuState.running, rateValid := true : TiuUnit }).atT (10 ^ 15)).tiuUnit 2).state ≠ TiuState.off))
    ∧ (commandable ((timed 0 { state := TiuState.running, rateValid := true : TiuUnit }).atT (10 ^ 15)) Master.jtag Block.tiu none ∧ (((timed 0 { state := TiuState.running, rateValid := true : TiuUnit }).atT (10 ^ 15)).on (Reg.TIU_U_MODE 2) = false ∨ (((timed 0 { state := TiuState.running, rateValid := true : TiuUnit }).atT (10 ^ 15)).tiuUnit 2).state = TiuState.off)) :=
  ⟨by decide +kernel, by decide +kernel, by decide +kernel⟩

/-- States and operands that meet the hypotheses of `EthernetMacsServeFrames`, a line for each clause; what a clause shares with one above stands there. -/
theorem meets_EthernetMacsServeFrames :
    ((2 < 4 ∧ ((up1 { : EthMac }).atT 5000000).eth.macs.length = 4 ∧ storeWf ((up1 { : EthMac }).atT 5000000).regs.live = true ∧ (((up1 { : EthMac }).atT 5000000).mac 2).state ≠ MacState.up)
      ∧ (1 < 4 ∧ (((up1 { : EthMac }).atT 5000000).mac 1).state = MacState.up ∧ ({ frameOf RxDest.own RxBody.other with fcsOk := false }.fcsOk = false ∨ { frameOf RxDest.own RxBody.other with fcsOk := false }.len < 64 ∨ ((up1 { : EthMac }).atT 5000000).maxFrame 1 < { frameOf RxDest.own RxBody.other with fcsOk := false }.len))
      ∧ ((frameOf RxDest.other RxBody.other).fcsOk = true ∧ 64 ≤ (frameOf RxDest.other RxBody.other).len ∧ (frameOf RxDest.other RxBody.other).len ≤ ((up1 { : EthMac }).atT 5000000).maxFrame 1 ∧ (((up1 { : EthMac }).atT 5000000).vlanOk 1 (frameOf RxDest.other RxBody.other) = false ∨ (frameOf RxDest.other RxBody.other).dest = RxDest.other))
      ∧ (frameTaken ((up1 { : EthMac }).atT 5000000) 1 (frameOf RxDest.broadcast (RxBody.arp 4 9)) ∧ (frameOf RxDest.broadcast (RxBody.arp 4 9)).dest ≠ RxDest.ptp ∧ ((up1 { : EthMac }).atT 5000000).rd (Reg.ETH_M_IP 1) ≠ 0 ∧ (frameOf RxDest.broadcast (RxBody.arp 4 9)).body = RxBody.arp 4 (((up1 { : EthMac }).atT 5000000).rd (Reg.ETH_M_IP 1)))
      ∧ (frameTaken ((up1 { : EthMac }).atT 5000000) 1 (frameOf RxDest.own (RxBody.echo 4 9 true true [1, 2])) ∧ (frameOf RxDest.own (RxBody.echo 4 9 true true [1, 2])).dest = RxDest.own ∧ (frameOf RxDest.own (RxBody.echo 4 9 true true [1, 2])).body = RxBody.echo 4 (((up1 { : EthMac }).atT 5000000).rd (Reg.ETH_M_IP 1)) true true [1, 2] ∧ ((((up1 { : EthMac }).atT 5000000).mac 1).icmpSec ≠ ((up1 { : EthMac }).atT 5000000).now / sec ∨ (((up1 { : EthMac }).atT 5000000).mac 1).icmpCount < 1000)))
    ∧ ((((up1 { tx := [(TxFrame.gratuitousArp, false)], txEnd := 6000000, ptpRx := List.replicate 32 ([], 0), ts := List.replicate 16 (1, 2, 3), icmpCount := 1000 : EthMac }).atT 5000000).eth.macs.length = 4 ∧ storeWf ((up1 { tx := [(TxFrame.gratuitousArp, false)], txEnd := 6000000, ptpRx := List.replicate 32 ([], 0), ts := List.replicate 16 (1, 2, 3), icmpCount := 1000 : EthMac }).atT 5000000).regs.live = true ∧ frameTaken ((up1 { tx := [(TxFrame.gratuitousArp, false)], txEnd := 6000000, ptpRx := List.replicate 32 ([], 0), ts := List.replicate 16 (1, 2, 3), icmpCount := 1000 : EthMac }).atT 5000000) 1 (frameOf RxDest.own (RxBody.echo 4 9 true true [1, 2])) ∧ ((up1 { tx := [(TxFrame.gratuitousArp, false)], txEnd := 6000000, ptpRx := List.replicate 32 ([], 0), ts := List.replicate 16 (1, 2, 3), icmpCount := 1000 : EthMac }).atT 5000000).rd (Reg.ETH_M_IP 1) ≠ 0 ∧ (frameOf RxDest.own (RxBody.echo 4 9 true true [1, 2])).body = RxBody.echo 4 (((up1 { tx := [(TxFrame.gratuitousArp, false)], txEnd := 6000000, ptpRx := List.replicate 32 ([], 0), ts := List.replicate 16 (1, 2, 3), icmpCount := 1000 : EthMac }).atT 5000000).rd (Reg.ETH_M_IP 1)) true true [1, 2] ∧ (((up1 { tx := [(TxFrame.gratuitousArp, false)], txEnd := 6000000, ptpRx := List.replicate 32 ([], 0), ts := List.replicate 16 (1, 2, 3), icmpCount := 1000 : EthMac }).atT 5000000).mac 1).icmpSec = ((up1 { tx := [(TxFrame.gratuitousArp, false)], txEnd := 6000000, ptpRx := List.replicate 32 ([], 0), ts := List.replicate 16 (1, 2, 3), icmpCount := 1000 : EthMac }).atT 5000000).now / sec ∧ 1000 ≤ (((up1 { tx := [(TxFrame.gratuitousArp, false)], txEnd := 6000000, ptpRx := List.replicate 32 ([], 0), ts := List.replicate 16 (1, 2, 3), icmpCount := 1000 : EthMac }).atT 5000000).mac 1).icmpCount)
      ∧ (frameTaken ((up1 { tx := [(TxFrame.gratuitousArp, false)], txEnd := 6000000, ptpRx := List.replicate 32 ([], 0), ts := List.replicate 16 (1, 2, 3), icmpCount := 1000 : EthMac }).atT 5000000) 1 (frameOf RxDest.own (RxBody.udp 4 9 5 47600 true true true [1, 2])) ∧ (frameOf RxDest.own (RxBody.udp 4 9 5 47600 true true true [1, 2])).dest = RxDest.own ∧ (frameOf RxDest.own (RxBody.udp 4 9 5 47600 true true true [1, 2])).body = RxBody.udp 4 (((up1 { tx := [(TxFrame.gratuitousArp, false)], txEnd := 6000000, ptpRx := List.replicate 32 ([], 0), ts := List.replicate 16 (1, 2, 3), icmpCount := 1000 : EthMac }).atT 5000000).rd (Reg.ETH_M_IP 1)) 5 (((up1 { tx := [(TxFrame.gratuitousArp, false)], txEnd := 6000000, ptpRx := List.replicate 32 ([], 0), ts := List.replicate 16 (1, 2, 3), icmpCount := 1000 : EthMac }).atT 5000000).rd Reg.ETH_KP_PORT) true true true [1, 2])
      ∧ (frameTaken ((up1 { : EthMac }).atT 5000000) 1 (frameOf RxDest.ptp (RxBody.udp 4 3758096769 5 319 true true true [1, 2])) ∧ (frameOf RxDest.ptp (RxBody.udp 4 3758096769 5 319 true true true [1, 2])).dest = RxDest.ptp ∧ ((up1 { : EthMac }).atT 5000000).on Reg.ETH_PTP_EN = true ∧ (frameOf RxDest.ptp (RxBody.udp 4 3758096769 5 319 true true true [1, 2])).body = RxBody.udp 4 3758096769 5 319 true true true [1, 2] ∧ (((up1 { : EthMac }).atT 5000000).mac 1).ptpRx.length < 32)
      ∧ (frameTaken ((up1 { tx := [(TxFrame.gratuitousArp, false)], txEnd := 6000000, ptpRx := List.replicate 32 ([], 0), ts := List.replicate 16 (1, 2, 3), icmpCount := 1000 : EthMac }).atT 5000000) 1 (frameOf RxDest.ptp (RxBody.udp 4 3758096769 5 320 true true true [1, 2])) ∧ (frameOf RxDest.ptp (RxBody.udp 4 3758096769 5 320 true true true [1, 2])).dest = RxDest.ptp ∧ ((up1 { tx := [(TxFrame.gratuitousArp, false)], txEnd := 6000000, ptpRx := List.replicate 32 ([], 0), ts := List.replicate 16 (1, 2, 3), icmpCount := 1000 : EthMac }).atT 5000000).on Reg.ETH_PTP_EN = true ∧ (frameOf RxDest.ptp (RxBody.udp 4 3758096769 5 320 true true true [1, 2])).body = RxBody.udp 4 3758096769 5 320 true true true [1, 2] ∧ 32 ≤ (((up1 { tx := [(TxFrame.gratuitousArp, false)], txEnd := 6000000, ptpRx := List.replicate 32 ([], 0), ts := List.replicate 16 (1, 2, 3), icmpCount := 1000 : EthMac }).atT 5000000).mac 1).ptpRx.length)
      ∧ (frameTaken ((up1 { tx := [(TxFrame.gratuitousArp, false)], txEnd := 6000000, ptpRx := List.replicate 32 ([], 0), ts := List.replicate 16 (1, 2, 3), icmpCount := 1000 : EthMac }).atT 5000000) 1 (frameOf RxDest.own (RxBody.udp 4 9 5 320 false true true [1, 2])) ∧ (frameOf RxDest.own (RxBody.udp 4 9 5 320 false true true [1, 2])).body = RxBody.udp 4 9 5 320 false true true [1, 2])
      ∧ (frameTaken ((up1 { tx := [(TxFrame.gratuitousArp, false)], txEnd := 6000000, ptpRx := List.replicate 32 ([], 0), ts := List.replicate 16 (1, 2, 3), icmpCount := 1000 : EthMac }).atT 5000000) 1 (frameOf RxDest.own (RxBody.udp 4 9 5 320 true true false [1, 2])) ∧ (frameOf RxDest.own (RxBody.udp 4 9 5 320 true true false [1, 2])).body = RxBody.udp 4 9 5 320 true true false [1, 2]))
    ∧ ((frameTaken ((up1 { tx := [(TxFrame.gratuitousArp, false)], txEnd := 6000000, ptpRx := List.replicate 32 ([], 0), ts := List.replicate 16 (1, 2, 3), icmpCount := 1000 : EthMac }).atT 5000000) 1 (frameOf RxDest.own RxBody.other) ∧ (frameOf RxDest.own RxBody.other).body = RxBody.other)
      ∧ ((((up1 { tx := [(TxFrame.gratuitousArp, false)], txEnd := 6000000, ptpRx := List.replicate 32 ([], 0), ts := List.replicate 16 (1, 2, 3), icmpCount := 1000 : EthMac }).atT 5000000).mac 1).state = MacState.up ∧ pathUnused ((up1 { tx := [(TxFrame.gratuitousArp, false)], txEnd := 6000000, ptpRx := List.replicate 32 ([], 0), ts := List.replicate 16 (1, 2, 3), icmpCount := 1000 : EthMac }).atT 5000000) 1)
      ∧ (0 < 4 ∧ (coming.atT 5000000).eth.macs.length = 4 ∧ storeWf (coming.atT 5000000).regs.live = true ∧ (coming.atT 5000000).macUsed 0 = true ∧ (coming.atT 5000000).lanesRun = true ∧ ((coming.atT 5000000).mac 0).state ≠ MacState.up ∧ (coming.atT 5000000).isolatedAt Block.eth (some (0 / 2)) = false ∧ (coming.atT 5000000).lan.lanes.length = 4 ∧ (coming.atT 5000000).rd (Reg.ETH_M_IP 0) ≠ 0)
      ∧ commandable ((up1 { tx := [(TxFrame.gratuitousArp, false)], txEnd := 6000000, ptpRx := List.replicate 32 ([], 0), ts := List.replicate 16 (1, 2, 3), icmpCount := 1000 : EthMac }).atT 5000000) Master.jtag Block.eth (some (1 / 2))
      ∧ ((((up1 { : EthMac }).atT 5000000).mac 1).ts.length < 16 ∧ 3 < 2 ^ 16 ∧ 4 < 16)
      ∧ 16 ≤ (((up1 { tx := [(TxFrame.gratuitousArp, false)], txEnd := 6000000, ptpRx := List.replicate 32 ([], 0), ts := List.replicate 16 (1, 2, 3), icmpCount := 1000 : EthMac }).atT 5000000).mac 1).ts.length) :=
  ⟨by decide +kernel, by decide +kernel, by decide +kernel⟩

/-- States and operands that meet the hypotheses of `PeerLinkComesUpAndFallsBack`, a line for each clause; what a clause shares with one above stands there. -/
theorem meets_PeerLinkComesUpAndFallsBack :
    ((((pl { state := LaneState.detect : LanLane } { : LanLane } { state := CourseState.detect : Course }).atT t14).lan.lanes.length = 4 ∧ storeWf ((pl { state := LaneState.detect : LanLane } { : LanLane } { state := CourseState.detect : Course }).atT t14).regs.live = true ∧ ((pl { state := LaneState.detect : LanLane } { : LanLane } { state := CourseState.detect : Course }).atT t14).plLane 2 = true ∧ ((pl { state := LaneState.detect : LanLane } { : LanLane } { state := CourseState.detect : Course }).atT t14).lan.course.state = CourseState.detect ∧ (((pl { state := LaneState.detect : LanLane } { : LanLane } { state := CourseState.detect : Course }).atT t14).lane 2).state = LaneState.detect)
      ∧ (((pl { state := LaneState.active : LanLane } { state := LaneState.lost : LanLane } course2).atT t14).lan.lanes.length = 4 ∧ storeWf ((pl { state := LaneState.active : LanLane } { state := LaneState.lost : LanLane } course2).atT t14).regs.live = true ∧ ((pl { state := LaneState.active : LanLane } { state := LaneState.lost : LanLane } course2).atT t14).plLane 3 = true ∧ ((pl { state := LaneState.active : LanLane } { state := LaneState.lost : LanLane } course2).atT t14).lan.course.state = CourseState.active ∧ (((pl { state := LaneState.active : LanLane } { state := LaneState.lost : LanLane } course2).atT t14).lane 3).state = LaneState.lost)
      ∧ (((pl { state := LaneState.detect : LanLane } { state := LaneState.detect, found := true : LanLane } { state := CourseState.detect, foundAt := some 5 : Course }).atT t14).lan.lanes.length = 4 ∧ storeWf ((pl { state := LaneState.detect : LanLane } { state := LaneState.detect, found := true : LanLane } { state := CourseState.detect, foundAt := some 5 : Course }).atT t14).regs.live = true ∧ ((pl { state := LaneState.detect : LanLane } { state := LaneState.detect, found := true : LanLane } { state := CourseState.detect, foundAt := some 5 : Course }).atT t14).lan.course.state = CourseState.detect ∧ ((pl { state := LaneState.detect : LanLane } { state := LaneState.detect, found := true : LanLane } { state := CourseState.detect, foundAt := some 5 : Course }).atT t14).lan.course.foundAt = some 5 ∧ 5 + ms ≤ ((pl { state := LaneState.detect : LanLane } { state := LaneState.detect, found := true : LanLane } { state := CourseState.detect, foundAt := some 5 : Course }).atT t14).now)
      ∧ (((pl { state := LaneState.detect : LanLane } { state := LaneState.train, taps := [127, 128, 3, 4] : LanLane } { state := CourseState.train : Course }).atT t14).lan.lanes.length = 4 ∧ storeWf ((pl { state := LaneState.detect : LanLane } { state := LaneState.train, taps := [127, 128, 3, 4] : LanLane } { state := CourseState.train : Course }).atT t14).regs.live = true ∧ ((pl { state := LaneState.detect : LanLane } { state := LaneState.train, taps := [127, 128, 3, 4] : LanLane } { state := CourseState.train : Course }).atT t14).plLane 3 = true ∧ (((pl { state := LaneState.detect : LanLane } { state := LaneState.train, taps := [127, 128, 3, 4] : LanLane } { state := CourseState.train : Course }).atT t14).lane 3).state = LaneState.train ∧ Nat.testBit 665 10 = false ∧ Nat.testBit 665 8 = false ∧ (((pl { state := LaneState.detect : LanLane } { state := LaneState.train, taps := [127, 128, 3, 4] : LanLane } { state := CourseState.train : Course }).atT t14).lane 3).taps.length = 4 ∧ 0 < 4))
    ∧ ((((pl { state := LaneState.detect : LanLane } { state := LaneState.train, readyRun := 7, readyTx := 9 : LanLane } { state := CourseState.train : Course }).atT t14).lan.lanes.length = 4 ∧ storeWf ((pl { state := LaneState.detect : LanLane } { state := LaneState.train, readyRun := 7, readyTx := 9 : LanLane } { state := CourseState.train : Course }).atT t14).regs.live = true ∧ ((pl { state := LaneState.detect : LanLane } { state := LaneState.train, readyRun := 7, readyTx := 9 : LanLane } { state := CourseState.train : Course }).atT t14).plLane 3 = true ∧ ((pl { state := LaneState.detect : LanLane } { state := LaneState.train, readyRun := 7, readyTx := 9 : LanLane } { state := CourseState.train : Course }).atT t14).lan.course.state = CourseState.train ∧ ((pl { state := LaneState.detect : LanLane } { state := LaneState.train, readyRun := 7, readyTx := 9 : LanLane } { state := CourseState.train : Course }).atT t14).lanesIn LaneState.train = [3] ∧ Nat.testBit 1177 10 = true ∧ 7 ≤ (((pl { state := LaneState.detect : LanLane } { state := LaneState.train, readyRun := 7, readyTx := 9 : LanLane } { state := CourseState.train : Course }).atT t14).lane 3).readyRun ∧ 7 ≤ (((pl { state := LaneState.detect : LanLane } { state := LaneState.train, readyRun := 7, readyTx := 9 : LanLane } { state := CourseState.train : Course }).atT t14).lane 3).readyTx)
      ∧ ((pl { state := LaneState.detect : LanLane } { state := LaneState.train, readyRun := 7, readyTx := 9 : LanLane } { state := CourseState.train : Course }).atT t14).lan.course.since + 100 * ms ≤ ((pl { state := LaneState.detect : LanLane } { state := LaneState.train, readyRun := 7, readyTx := 9 : LanLane } { state := CourseState.train : Course }).atT t14).now
      ∧ (((pl { state := LaneState.active : LanLane } { state := LaneState.train, readyRun := 7, readyTx := 9 : LanLane } course2).atT t14).lan.lanes.length = 4 ∧ storeWf ((pl { state := LaneState.active : LanLane } { state := LaneState.train, readyRun := 7, readyTx := 9 : LanLane } course2).atT t14).regs.live = true ∧ ((pl { state := LaneState.active : LanLane } { state := LaneState.train, readyRun := 7, readyTx := 9 : LanLane } course2).atT t14).lan.course.state = CourseState.active ∧ ((pl { state := LaneState.active : LanLane } { state := LaneState.train, readyRun := 7, readyTx := 9 : LanLane } course2).atT t14).lanesIn LaneState.train = [3] ∧ (((pl { state := LaneState.active : LanLane } { state := LaneState.train, readyRun := 7, readyTx := 9 : LanLane } course2).atT t14).lane 3).since + 100 * ms ≤ ((pl { state := LaneState.active : LanLane } { state := LaneState.train, readyRun := 7, readyTx := 9 : LanLane } course2).atT t14).now)
      ∧ (((pl { state := LaneState.detect : LanLane } { state := LaneState.lock, goodRun := 7 : LanLane } { state := CourseState.lock : Course }).atT t14).lan.lanes.length = 4 ∧ storeWf ((pl { state := LaneState.detect : LanLane } { state := LaneState.lock, goodRun := 7 : LanLane } { state := CourseState.lock : Course }).atT t14).regs.live = true ∧ ((pl { state := LaneState.detect : LanLane } { state := LaneState.lock, goodRun := 7 : LanLane } { state := CourseState.lock : Course }).atT t14).plLane 3 = true ∧ ((pl { state := LaneState.detect : LanLane } { state := LaneState.lock, goodRun := 7 : LanLane } { state := CourseState.lock : Course }).atT t14).lan.course.state = CourseState.lock ∧ ((pl { state := LaneState.detect : LanLane } { state := LaneState.lock, goodRun := 7 : LanLane } { state := CourseState.lock : Course }).atT t14).lanesIn LaneState.lock = [3] ∧ 7 ≤ (((pl { state := LaneState.detect : LanLane } { state := LaneState.lock, goodRun := 7 : LanLane } { state := CourseState.lock : Course }).atT t14).lane 3).goodRun ∧ 4 < 256))
    ∧ ((((pl { state := LaneState.active, badRun := 3 : LanLane } { state := LaneState.active : LanLane } { course2 with retry := [{ seq := 3, segs := [] : Flit }] }).atT t14).lan.lanes.length = 4 ∧ storeWf ((pl { state := LaneState.active, badRun := 3 : LanLane } { state := LaneState.active : LanLane } { course2 with retry := [{ seq := 3, segs := [] : Flit }] }).atT t14).regs.live = true ∧ ((pl { state := LaneState.active, badRun := 3 : LanLane } { state := LaneState.active : LanLane } { course2 with retry := [{ seq := 3, segs := [] : Flit }] }).atT t14).plLane 2 = true ∧ ((pl { state := LaneState.active, badRun := 3 : LanLane } { state := LaneState.active : LanLane } { course2 with retry := [{ seq := 3, segs := [] : Flit }] }).atT t14).lan.course.state = CourseState.active ∧ (((pl { state := LaneState.active, badRun := 3 : LanLane } { state := LaneState.active : LanLane } { course2 with retry := [{ seq := 3, segs := [] : Flit }] }).atT t14).lane 2).state = LaneState.active ∧ (((pl { state := LaneState.active, badRun := 3 : LanLane } { state := LaneState.active : LanLane } { course2 with retry := [{ seq := 3, segs := [] : Flit }] }).atT t14).lane 2).badRun = 3 ∧ (((pl { state := LaneState.active, badRun := 3 : LanLane } { state := LaneState.active : LanLane } { course2 with retry := [{ seq := 3, segs := [] : Flit }] }).atT t14).lane (5 - 2)).state = LaneState.active)
      ∧ (((pl { state := LaneState.lock : LanLane } { state := LaneState.lock, goodRun := 7 : LanLane } { state := CourseState.lock : Course }).atT t14).lan.lanes.length = 4 ∧ storeWf ((pl { state := LaneState.lock : LanLane } { state := LaneState.lock, goodRun := 7 : LanLane } { state := CourseState.lock : Course }).atT t14).regs.live = true ∧ ((pl { state := LaneState.lock : LanLane } { state := LaneState.lock, goodRun := 7 : LanLane } { state := CourseState.lock : Course }).atT t14).lan.course.state = CourseState.lock ∧ ((pl { state := LaneState.lock : LanLane } { state := LaneState.lock, goodRun := 7 : LanLane } { state := CourseState.lock : Course }).atT t14).lan.course.since + ms ≤ ((pl { state := LaneState.lock : LanLane } { state := LaneState.lock, goodRun := 7 : LanLane } { state := CourseState.lock : Course }).atT t14).now)
      ∧ (((pl { state := LaneState.lock : LanLane } { state := LaneState.lock, goodRun := 7 : LanLane } { state := CourseState.caps : Course }).atT t14).lan.lanes.length = 4 ∧ storeWf ((pl { state := LaneState.lock : LanLane } { state := LaneState.lock, goodRun := 7 : LanLane } { state := CourseState.caps : Course }).atT t14).regs.live = true ∧ ((pl { state := LaneState.lock : LanLane } { state := LaneState.lock, goodRun := 7 : LanLane } { state := CourseState.caps : Course }).atT t14).lan.course.state = CourseState.caps ∧ ((pl { state := LaneState.lock : LanLane } { state := LaneState.lock, goodRun := 7 : LanLane } { state := CourseState.caps : Course }).atT t14).lan.course.capsRx = false ∧ ((pl { state := LaneState.lock : LanLane } { state := LaneState.lock, goodRun := 7 : LanLane } { state := CourseState.caps : Course }).atT t14).lan.course.capsSentAcked = false)
      ∧ (((pl { state := LaneState.lock : LanLane } { state := LaneState.lock, goodRun := 7 : LanLane } { state := CourseState.caps, capsRx := true, capsAcked := true : Course }).atT t14).lan.lanes.length = 4 ∧ storeWf ((pl { state := LaneState.lock : LanLane } { state := LaneState.lock, goodRun := 7 : LanLane } { state := CourseState.caps, capsRx := true, capsAcked := true : Course }).atT t14).regs.live = true ∧ ((pl { state := LaneState.lock : LanLane } { state := LaneState.lock, goodRun := 7 : LanLane } { state := CourseState.caps, capsRx := true, capsAcked := true : Course }).atT t14).lan.course.state = CourseState.caps ∧ ((pl { state := LaneState.lock : LanLane } { state := LaneState.lock, goodRun := 7 : LanLane } { state := CourseState.caps, capsRx := true, capsAcked := true : Course }).atT t14).lan.course.capsRx = true ∧ ((pl { state := LaneState.lock : LanLane } { state := LaneState.lock, goodRun := 7 : LanLane } { state := CourseState.caps, capsRx := true, capsAcked := true : Course }).atT t14).lan.course.capsAcked = true))
    ∧ (((flit 3 0 0 0 [1, 2]).ok = true ∧ (flit 3 0 0 0 [1, 2]).type = 3 ∧ (flit 3 0 0 0 [1, 2]).top = false ∧ (flit 3 0 0 0 [1, 2]).payload.getD 0 0 = 1 ∧ (flit 3 0 0 0 [1, 2]).payload.getD 1 0 ≠ 1)
      ∧ ((pl { state := LaneState.lock : LanLane } { state := LaneState.lock, goodRun := 7 : LanLane } { state := CourseState.caps : Course }).atT t14).lan.course.since + 10 * ms ≤ ((pl { state := LaneState.lock : LanLane } { state := LaneState.lock, goodRun := 7 : LanLane } { state := CourseState.caps : Course }).atT t14).now
      ∧ (((pl { : LanLane } { : LanLane } { hold := true : Course }).atT t14).lan.lanes.length = 4 ∧ storeWf ((pl { : LanLane } { : LanLane } { hold := true : Course }).atT t14).regs.live = true ∧ ((pl { : LanLane } { : LanLane } { hold := true : Course }).atT t14).lan.course.hold = true ∧ ((pl { : LanLane } { : LanLane } { hold := true : Course }).atT t14).lan.course.state = CourseState.down ∧ ((pl { : LanLane } { : LanLane } { hold := true : Course }).atT t14).lan.course.since + sec ≤ ((pl { : LanLane } { : LanLane } { hold := true : Course }).atT t14).now ∧ ((pl { : LanLane } { : LanLane } { hold := true : Course }).atT t14).plEnabled = true)
      ∧ (((plUp { course2 with retry := [{ seq := 3, segs := [] : Flit }] }).atT t14).lan.lanes.length = 4 ∧ storeWf ((plUp { course2 with retry := [{ seq := 3, segs := [] : Flit }] }).atT t14).regs.live = true ∧ ((plUp { course2 with retry := [{ seq := 3, segs := [] : Flit }] }).atT t14).plLane 2 = true ∧ ((plUp { course2 with retry := [{ seq := 3, segs := [] : Flit }] }).atT t14).lan.course.state = CourseState.active ∧ ((plUp { course2 with retry := [{ seq := 3, segs := [] : Flit }] }).atT t14).lan.course.rxQuiet = false ∧ (((plUp { course2 with retry := [{ seq := 3, segs := [] : Flit }] }).atT t14).lane 2).state = LaneState.active ∧ (((plUp { course2 with retry := [{ seq := 3, segs := [] : Flit }] }).atT t14).lane (5 - 2)).state = LaneState.active))
    ∧ ((((pl { state := LaneState.active : LanLane } { state := LaneState.lost : LanLane } { course2 with retry := [{ seq := 3, segs := [] : Flit }] }).atT t14).lan.lanes.length = 4 ∧ storeWf ((pl { state := LaneState.active : LanLane } { state := LaneState.lost : LanLane } { course2 with retry := [{ seq := 3, segs := [] : Flit }] }).atT t14).regs.live = true ∧ ((pl { state := LaneState.active : LanLane } { state := LaneState.lost : LanLane } { course2 with retry := [{ seq := 3, segs := [] : Flit }] }).atT t14).plLane 2 = true ∧ ((pl { state := LaneState.active : LanLane } { state := LaneState.lost : LanLane } { course2 with retry := [{ seq := 3, segs := [] : Flit }] }).atT t14).lan.course.state = CourseState.active ∧ ((pl { state := LaneState.active : LanLane } { state := LaneState.lost : LanLane } { course2 with retry := [{ seq := 3, segs := [] : Flit }] }).atT t14).lan.course.rxQuiet = false ∧ (((pl { state := LaneState.active : LanLane } { state := LaneState.lost : LanLane } { course2 with retry := [{ seq := 3, segs := [] : Flit }] }).atT t14).lane 2).state = LaneState.active ∧ (((pl { state := LaneState.active : LanLane } { state := LaneState.lost : LanLane } { course2 with retry := [{ seq := 3, segs := [] : Flit }] }).atT t14).lane (5 - 2)).state = LaneState.lost ∧ pathUnused ((pl { state := LaneState.active : LanLane } { state := LaneState.lost : LanLane } { course2 with retry := [{ seq := 3, segs := [] : Flit }] }).atT t14) 4)
      ∧ (((pl { state := LaneState.active : LanLane } { state := LaneState.lock, peerLocked := true : LanLane } { course2 with width := 1 }).atT t14).lan.lanes.length = 4 ∧ storeWf ((pl { state := LaneState.active : LanLane } { state := LaneState.lock, peerLocked := true : LanLane } { course2 with width := 1 }).atT t14).regs.live = true ∧ ((pl { state := LaneState.active : LanLane } { state := LaneState.lock, peerLocked := true : LanLane } { course2 with width := 1 }).atT t14).lan.course.state = CourseState.active ∧ ((pl { state := LaneState.active : LanLane } { state := LaneState.lock, peerLocked := true : LanLane } { course2 with width := 1 }).atT t14).lan.course.width = 1 ∧ ((pl { state := LaneState.active : LanLane } { state := LaneState.lock, peerLocked := true : LanLane } { course2 with width := 1 }).atT t14).lan.course.rxWidth = 2 ∧ ((pl { state := LaneState.active : LanLane } { state := LaneState.lock, peerLocked := true : LanLane } { course2 with width := 1 }).atT t14).lanesIn LaneState.lock = [3] ∧ (((pl { state := LaneState.active : LanLane } { state := LaneState.lock, peerLocked := true : LanLane } { course2 with width := 1 }).atT t14).lane 3).peerLocked = true)
      ∧ (((plUp course2).atT t14).lan.lanes.length = 4 ∧ storeWf ((plUp course2).atT t14).regs.live = true ∧ commandable ((plUp course2).atT t14) Master.jtag Block.lan none ∧ ((plUp course2).atT t14).lan.course.state = CourseState.active)
      ∧ (((pl { state := LaneState.dormant : LanLane } { state := LaneState.dormant : LanLane } { state := CourseState.dormant, txQueue := [[1]] : Course }).atT t14).lan.lanes.length = 4 ∧ storeWf ((pl { state := LaneState.dormant : LanLane } { state := LaneState.dormant : LanLane } { state := CourseState.dormant, txQueue := [[1]] : Course }).atT t14).regs.live = true ∧ commandable ((pl { state := LaneState.dormant : LanLane } { state := LaneState.dormant : LanLane } { state := CourseState.dormant, txQueue := [[1]] : Course }).atT t14) Master.jtag Block.lan none ∧ ((pl { state := LaneState.dormant : LanLane } { state := LaneState.dormant : LanLane } { state := CourseState.dormant, txQueue := [[1]] : Course }).atT t14).lan.course.state = CourseState.dormant)) :=
  ⟨by decide +kernel, by decide +kernel, by decide +kernel, by decide +kernel, by decide +kernel⟩

/-- States and operands that meet the hypotheses of `PeerLinkCarriesFlits`, a line for each clause; what a clause shares with one above stands there. -/
theorem meets_PeerLinkCarriesFlits :
    ((((plUp { course2 with retry := [{ seq := 3, segs := [] : Flit }], replayLeft := 1 }).atT t14).lan.lanes.length = 4 ∧ storeWf ((plUp { course2 with retry := [{ seq := 3, segs := [] : Flit }], replayLeft := 1 }).atT t14).regs.live = true ∧ ((plUp { course2 with retry := [{ seq := 3, segs := [] : Flit }], replayLeft := 1 }).atT t14).lan.course.state = CourseState.active ∧ ((plUp { course2 with retry := [{ seq := 3, segs := [] : Flit }], replayLeft := 1 }).atT t14).lan.course.replayLeft ≠ 0 ∧ ((plUp { course2 with retry := [{ seq := 3, segs := [] : Flit }], replayLeft := 1 }).atT t14).lan.course.txQuiet = false)
      ∧ (((plUp { course2 with txQueue := [[1, 2, 3]] }).atT t14).lan.lanes.length = 4 ∧ storeWf ((plUp { course2 with txQueue := [[1, 2, 3]] }).atT t14).regs.live = true ∧ ((plUp { course2 with txQueue := [[1, 2, 3]] }).atT t14).lan.course.state = CourseState.active ∧ ((plUp { course2 with txQueue := [[1, 2, 3]] }).atT t14).lan.course.replayLeft = 0 ∧ ((plUp { course2 with txQueue := [[1, 2, 3]] }).atT t14).lan.course.txQueue = [[1, 2, 3]] ∧ ((plUp { course2 with txQueue := [[1, 2, 3]] }).atT t14).lan.course.txStarted = false ∧ [1, 2, 3] ≠ [] ∧ [1, 2, 3].length ≤ 235 ∧ ((plUp { course2 with txQueue := [[1, 2, 3]] }).atT t14).lan.course.credits ≠ 0 ∧ ((plUp { course2 with txQueue := [[1, 2, 3]] }).atT t14).lan.course.retry.length < 512)
      ∧ (((plUp { course2 with credits := 0, txQueue := [[1, 2, 3]] }).atT t14).lan.lanes.length = 4 ∧ storeWf ((plUp { course2 with credits := 0, txQueue := [[1, 2, 3]] }).atT t14).regs.live = true ∧ ((plUp { course2 with credits := 0, txQueue := [[1, 2, 3]] }).atT t14).lan.course.state = CourseState.active ∧ ((plUp { course2 with credits := 0, txQueue := [[1, 2, 3]] }).atT t14).lan.course.replayLeft = 0 ∧ (((plUp { course2 with credits := 0, txQueue := [[1, 2, 3]] }).atT t14).lan.course.txQueue = [] ∨ ((plUp { course2 with credits := 0, txQueue := [[1, 2, 3]] }).atT t14).lan.course.credits = 0 ∨ 512 ≤ ((plUp { course2 with credits := 0, txQueue := [[1, 2, 3]] }).atT t14).lan.course.retry.length) ∧ ((plUp { course2 with credits := 0, txQueue := [[1, 2, 3]] }).atT t14).lan.course.txQuiet = false))
    ∧ ((((plUp course2).atT t14).lan.lanes.length = 4 ∧ storeWf ((plUp course2).atT t14).regs.live = true ∧ ((plUp course2).atT t14).lan.course.state = CourseState.active ∧ ((flit 5 0 0 0 []).ok = false ∨ 4 ≤ (flit 5 0 0 0 []).type ∨ (flit 5 0 0 0 []).top = true) ∧ ((plUp course2).atT t14).lan.course.nakSent = false)
      ∧ (((plUp { course2 with nakSent := true }).atT t14).lan.lanes.length = 4 ∧ storeWf ((plUp { course2 with nakSent := true }).atT t14).regs.live = true ∧ ((plUp { course2 with nakSent := true }).atT t14).lan.course.state = CourseState.active ∧ ((plUp { course2 with nakSent := true }).atT t14).lan.course.nakSent = true)
      ∧ ((flit 1 12 6 4 (leBytes 2 (3 + 2048) ++ [7, 8, 9] ++ List.replicate 235 0)).ok = true ∧ (flit 1 12 6 4 (leBytes 2 (3 + 2048) ++ [7, 8, 9] ++ List.replicate 235 0)).type = 1 ∧ (flit 1 12 6 4 (leBytes 2 (3 + 2048) ++ [7, 8, 9] ++ List.replicate 235 0)).top = false ∧ (flit 1 12 6 4 (leBytes 2 (3 + 2048) ++ [7, 8, 9] ++ List.replicate 235 0)).seq = ((plUp course2).atT t14).lan.course.nextRx ∧ (flit 1 12 6 4 (leBytes 2 (3 + 2048) ++ [7, 8, 9] ++ List.replicate 235 0)).ack = (((plUp course2).atT t14).lan.course.nextTx + 4095) % 4096 ∧ ((plUp course2).atT t14).lan.course.retry = [] ∧ ((plUp course2).atT t14).lan.course.rxPartial = none ∧ [7, 8, 9] ≠ [] ∧ [7, 8, 9].length ≤ 238 ∧ (flit 1 12 6 4 (leBytes 2 (3 + 2048) ++ [7, 8, 9] ++ List.replicate 235 0)).payload = leBytes 2 ([7, 8, 9].length + 2048) ++ [7, 8, 9] ++ List.replicate (238 - [7, 8, 9].length) 0)
      ∧ ((flit 1 10 6 4 []).ok = true ∧ (flit 1 10 6 4 []).type = 1 ∧ (flit 1 10 6 4 []).top = false ∧ (flit 1 10 6 4 []).seq ≠ ((plUp course2).atT t14).lan.course.nextRx ∧ (((plUp course2).atT t14).lan.course.nextRx + 4095 - (flit 1 10 6 4 []).seq) % 4096 < 2048))
    ∧ (((flit 1 14 6 4 []).ok = true ∧ (flit 1 14 6 4 []).type = 1 ∧ (flit 1 14 6 4 []).top = false ∧ (flit 1 14 6 4 []).seq ≠ ((plUp course2).atT t14).lan.course.nextRx ∧ 2048 ≤ (((plUp course2).atT t14).lan.course.nextRx + 4095 - (flit 1 14 6 4 []).seq) % 4096)
      ∧ (((plUp { course2 with retry := [{ seq := 5, segs := [] : Flit }, { seq := 6, segs := [] : Flit }] }).atT t14).lan.lanes.length = 4 ∧ storeWf ((plUp { course2 with retry := [{ seq := 5, segs := [] : Flit }, { seq := 6, segs := [] : Flit }] }).atT t14).regs.live = true ∧ ((plUp { course2 with retry := [{ seq := 5, segs := [] : Flit }, { seq := 6, segs := [] : Flit }] }).atT t14).lan.course.state = CourseState.active ∧ (flit 0 14 5 4 []).ok = true ∧ (flit 0 14 5 4 []).type = 0 ∧ (flit 0 14 5 4 []).top = false)
      ∧ ((flit 2 14 4 4 []).ok = true ∧ (flit 2 14 4 4 []).type = 2 ∧ (flit 2 14 4 4 []).top = false ∧ (((plUp { course2 with retry := [{ seq := 5, segs := [] : Flit }, { seq := 6, segs := [] : Flit }] }).atT t14).lan.course.retry.all fun x => decide ((x.seq + 4096 - ((flit 2 14 4 4 []).ack + 1)) % 4096 < 2048)) = true ∧ ((plUp { course2 with retry := [{ seq := 5, segs := [] : Flit }, { seq := 6, segs := [] : Flit }] }).atT t14).lan.course.replays < 16)
      ∧ (((plUp { course2 with retry := [{ seq := 5, segs := [] : Flit }, { seq := 6, segs := [] : Flit }] }).atT t14).lan.course.retry ≠ [] ∧ ((plUp { course2 with retry := [{ seq := 5, segs := [] : Flit }, { seq := 6, segs := [] : Flit }] }).atT t14).lan.course.ackAt + 4 * us ≤ ((plUp { course2 with retry := [{ seq := 5, segs := [] : Flit }, { seq := 6, segs := [] : Flit }] }).atT t14).now))
    ∧ ((((plUp { course2 with retry := [{ seq := 5, segs := [] : Flit }, { seq := 6, segs := [] : Flit }], replays := 16 }).atT t14).lan.lanes.length = 4 ∧ storeWf ((plUp { course2 with retry := [{ seq := 5, segs := [] : Flit }, { seq := 6, segs := [] : Flit }], replays := 16 }).atT t14).regs.live = true ∧ ((plUp { course2 with retry := [{ seq := 5, segs := [] : Flit }, { seq := 6, segs := [] : Flit }], replays := 16 }).atT t14).lan.course.state = CourseState.active ∧ ((plUp { course2 with retry := [{ seq := 5, segs := [] : Flit }, { seq := 6, segs := [] : Flit }], replays := 16 }).atT t14).lan.course.retry ≠ [] ∧ ((plUp { course2 with retry := [{ seq := 5, segs := [] : Flit }, { seq := 6, segs := [] : Flit }], replays := 16 }).atT t14).lan.course.ackAt + 4 * us ≤ ((plUp { course2 with retry := [{ seq := 5, segs := [] : Flit }, { seq := 6, segs := [] : Flit }], replays := 16 }).atT t14).now ∧ 16 ≤ ((plUp { course2 with retry := [{ seq := 5, segs := [] : Flit }, { seq := 6, segs := [] : Flit }], replays := 16 }).atT t14).lan.course.replays ∧ pathUnused ((plUp { course2 with retry := [{ seq := 5, segs := [] : Flit }, { seq := 6, segs := [] : Flit }], replays := 16 }).atT t14) 4)
      ∧ (((plUp course2).atT t14).on Reg.LAN_PL_CTL_QUIET_EN = true ∧ ((plUp course2).atT t14).lan.course.txQuiet = false ∧ ((plUp course2).atT t14).lan.course.txQueue = [] ∧ ((plUp course2).atT t14).lan.course.ackOwed = false ∧ ((plUp course2).atT t14).lan.course.busyAt + max 1 (((plUp course2).atT t14).rd Reg.LAN_PL_CTL_QUIET_US) * us ≤ ((plUp course2).atT t14).now)
      ∧ (((liveTo (plUp course2) [(4194368, 2571#32)]).atT t14).lan.lanes.length = 4 ∧ storeWf ((liveTo (plUp course2) [(4194368, 2571#32)]).atT t14).regs.live = true ∧ ((liveTo (plUp course2) [(4194368, 2571#32)]).atT t14).lan.course.state = CourseState.active ∧ (flit 3 9 6 0 [3]).ok = true ∧ (flit 3 9 6 0 [3]).type = 3 ∧ (flit 3 9 6 0 [3]).top = false ∧ (flit 3 9 6 0 [3]).payload.getD 0 0 = 3 ∧ ((liveTo (plUp course2) [(4194368, 2571#32)]).atT t14).on Reg.LAN_PL_CTL_DORMANT_OK = true ∧ ((liveTo (plUp course2) [(4194368, 2571#32)]).atT t14).lan.course.retry = [] ∧ pathUnused ((liveTo (plUp course2) [(4194368, 2571#32)]).atT t14) 4)) :=
  ⟨by decide +kernel, by decide +kernel, by decide +kernel, by decide +kernel⟩

/-- States and operands that meet the hypotheses of `SessionsOpenHoldRankAndClose`, a line for each clause; what a clause shares with one above stands there. -/
theorem meets_SessionsOpenHoldRankAndClose :
    ((((kp sess1).atT t15).kpe.sessions.length = 128 ∧ storeWf ((kp sess1).atT t15).regs.live = true ∧ ((kp sess1).atT t15).kpServes path1 = true ∧ ((bad1 1).unit = if path1.mac < 4 then 0 else 1))
      ∧ (((pl { state := LaneState.active : LanLane } { state := LaneState.active : LanLane } course2).atT t15).kpe.sessions.length = 128 ∧ storeWf ((pl { state := LaneState.active : LanLane } { state := LaneState.active : LanLane } course2).atT t15).regs.live = true ∧ ((pl { state := LaneState.active : LanLane } { state := LaneState.active : LanLane } course2).atT t15).kpServes path4 = true ∧ path4.mac = 4 ∧ (bad1 1).unit ≠ 1)
      ∧ (((kp { sess1 with state := SessState.free }).atT t15).kpe.sessions.length = 128 ∧ storeWf ((kp { sess1 with state := SessState.free }).atT t15).regs.live = true ∧ packetTaken ((kp { sess1 with state := SessState.free }).atT t15) path1 openPkt 1 ∧ openKnown ((kp { sess1 with state := SessState.free }).atT t15) path1 openPkt = false ∧ openTurn ((kp { sess1 with state := SessState.free }).atT t15) ≤ max 1 (((kp { sess1 with state := SessState.free }).atT t15).rd Reg.KPE_CTL_OPEN_RATE) ∧ ((kp { sess1 with state := SessState.free }).atT t15).freeSession = some 0))
    ∧ (((full.atT t15).kpe.sessions.length = 128 ∧ storeWf (full.atT t15).regs.live = true ∧ packetTaken (full.atT t15) path1 openPkt 1 ∧ openKnown (full.atT t15) path1 openPkt = false ∧ openTurn (full.atT t15) ≤ max 1 ((full.atT t15).rd Reg.KPE_CTL_OPEN_RATE) ∧ (full.atT t15).freeSession = none ∧ (full.atT t15).on Reg.KPE_CTL_EVICT = true ∧ (full.atT t15).evictable = some 5 ∧ ((full.atT t15).sess 5).inflight = [] ∧ ((full.atT t15).subsWhere fun y => y.session == 5) = [])
      ∧ (((liveTo full [(4325376, 16385#32)]).atT t15).kpe.sessions.length = 128 ∧ storeWf ((liveTo full [(4325376, 16385#32)]).atT t15).regs.live = true ∧ packetTaken ((liveTo full [(4325376, 16385#32)]).atT t15) path1 openPkt 1 ∧ openKnown ((liveTo full [(4325376, 16385#32)]).atT t15) path1 openPkt = false ∧ (max 1 (((liveTo full [(4325376, 16385#32)]).atT t15).rd Reg.KPE_CTL_OPEN_RATE) < openTurn ((liveTo full [(4325376, 16385#32)]).atT t15) ∨ ((liveTo full [(4325376, 16385#32)]).atT t15).freeSession = none ∧ (((liveTo full [(4325376, 16385#32)]).atT t15).on Reg.KPE_CTL_EVICT = false ∨ ((liveTo full [(4325376, 16385#32)]).atT t15).evictable = none)))
      ∧ ((known.atT t15).kpe.sessions.length = 128 ∧ storeWf (known.atT t15).regs.live = true ∧ packetTaken (known.atT t15) path1 openPkt 1 ∧ openKnown (known.atT t15) path1 openPkt = true))
    ∧ ((((kp { sess1 with unacked := [ctl 3, ctl 4, ctl 5] }).atT t15).kpe.sessions.length = 128 ∧ storeWf ((kp { sess1 with unacked := [ctl 3, ctl 4, ctl 5] }).atT t15).regs.live = true ∧ packetTaken ((kp { sess1 with unacked := [ctl 3, ctl 4, ctl 5] }).atT t15) path1 (packet 8 []) 8 ∧ (packet 8 []).session = 3 ∧ (((kp { sess1 with unacked := [ctl 3, ctl 4, ctl 5] }).atT t15).sess 3).state = SessState.active)
      ∧ (((kp { sess1 with state := SessState.suspended, unacked := [ctl 3, ctl 4, ctl 5] }).atT t15).kpe.sessions.length = 128 ∧ storeWf ((kp { sess1 with state := SessState.suspended, unacked := [ctl 3, ctl 4, ctl 5] }).atT t15).regs.live = true ∧ packetTaken ((kp { sess1 with state := SessState.suspended, unacked := [ctl 3, ctl 4, ctl 5] }).atT t15) path1 (packet 8 []) 8 ∧ (((kp { sess1 with state := SessState.suspended, unacked := [ctl 3, ctl 4, ctl 5] }).atT t15).sess 3).state = SessState.suspended)
      ∧ (({ kp { sess1 with operator := true } with kpe := { (kp sess1).kpe with claim := some { session := 3, time := 5 : Claim } } }.atT t15).kpe.sessions.length = 128 ∧ storeWf ({ kp { sess1 with operator := true } with kpe := { (kp sess1).kpe with claim := some { session := 3, time := 5 : Claim } } }.atT t15).regs.live = true ∧ packetTaken ({ kp { sess1 with operator := true } with kpe := { (kp sess1).kpe with claim := some { session := 3, time := 5 : Claim } } }.atT t15) path1 (packet 10 [7]) 10 ∧ (packet 10 [7]).session = 3 ∧ (({ kp { sess1 with operator := true } with kpe := { (kp sess1).kpe with claim := some { session := 3, time := 5 : Claim } } }.atT t15).sess 3).inflight = [] ∧ (({ kp { sess1 with operator := true } with kpe := { (kp sess1).kpe with claim := some { session := 3, time := 5 : Claim } } }.atT t15).subsWhere fun y => y.session == 3) = [])
      ∧ (packetTaken ((kp sess1).atT t15) path1 (packet 11 [0]) 11 ∧ (packet 11 [0]).session = 3 ∧ (packet 11 [0]).payload.getD 0 0 = 0 ∧ (((kp sess1).atT t15).sess 3).state = SessState.active ∧ (((kp sess1).atT t15).sess 3).operator = false ∧ ((kp sess1).atT t15).kpe.claim = none ∧ ((kp sess1).atT t15).operators < 4 ∧ (((kp sess1).atT t15).sess 3).waiting.any (CtlPayload.isNotify ntClaim) = false))
    ∧ ((({ kp sess1 with kpe := { (kp sess1).kpe with claim := some { session := 2, time := 5 : Claim } } }.atT t15).kpe.sessions.length = 128 ∧ storeWf ({ kp sess1 with kpe := { (kp sess1).kpe with claim := some { session := 2, time := 5 : Claim } } }.atT t15).regs.live = true ∧ packetTaken ({ kp sess1 with kpe := { (kp sess1).kpe with claim := some { session := 2, time := 5 : Claim } } }.atT t15) path1 (packet 11 [0]) 11 ∧ (({ kp sess1 with kpe := { (kp sess1).kpe with claim := some { session := 2, time := 5 : Claim } } }.atT t15).sess 3).state = SessState.active ∧ (({ kp sess1 with kpe := { (kp sess1).kpe with claim := some { session := 2, time := 5 : Claim } } }.atT t15).sess 3).operator = false ∧ (({ kp sess1 with kpe := { (kp sess1).kpe with claim := some { session := 2, time := 5 : Claim } } }.atT t15).sess 3).waiting.any (CtlPayload.isNotify ntClaim) = false ∧ (Option.any (fun j => j != 3) (Option.map (fun c => c.session) ({ kp sess1 with kpe := { (kp sess1).kpe with claim := some { session := 2, time := 5 : Claim } } }.atT t15).kpe.claim) = true ∨ ({ kp sess1 with kpe := { (kp sess1).kpe with claim := some { session := 2, time := 5 : Claim } } }.atT t15).kpe.claim = none ∧ 4 ≤ ({ kp sess1 with kpe := { (kp sess1).kpe with claim := some { session := 2, time := 5 : Claim } } }.atT t15).operators))
      ∧ (((kp { sess1 with operator := true }).atT t15).kpe.sessions.length = 128 ∧ storeWf ((kp { sess1 with operator := true }).atT t15).regs.live = true ∧ packetTaken ((kp { sess1 with operator := true }).atT t15) path1 (packet 11 [1]) 11 ∧ (packet 11 [1]).session = 3 ∧ (packet 11 [1]).payload.getD 0 0 = 1 ∧ (((kp { sess1 with operator := true }).atT t15).sess 3).state = SessState.active ∧ (((kp { sess1 with operator := true }).atT t15).sess 3).waiting.any (CtlPayload.isNotify ntClaim) = false)
      ∧ ((kp sess1).atT t15).kpe.presHigh = !false
      ∧ (((prs (some { session := 3, time := 9 : Claim })).atT t15).kpe.sessions.length = 128 ∧ storeWf ((prs (some { session := 3, time := 9 : Claim })).atT t15).regs.live = true ∧ ((prs (some { session := 3, time := 9 : Claim })).atT t15).kpe.presHigh = false ∧ ((prs (some { session := 3, time := 9 : Claim })).atT t15).kpe.presValid = true ∧ ((prs (some { session := 3, time := 9 : Claim })).atT t15).kpe.presAt + 20 * ms ≤ ((prs (some { session := 3, time := 9 : Claim })).atT t15).now ∧ ((prs (some { session := 3, time := 9 : Claim })).atT t15).kpe.claim = some { session := 3, time := 9 : Claim } ∧ (((prs (some { session := 3, time := 9 : Claim })).atT t15).sess 3).state = SessState.active ∧ ((prs (some { session := 3, time := 9 : Claim })).atT t15).operators < 4))
    ∧ ((((prs none).atT t15).kpe.sessions.length = 128 ∧ storeWf ((prs none).atT t15).regs.live = true ∧ ((prs none).atT t15).kpe.presHigh = false ∧ ((prs none).atT t15).kpe.presValid = true ∧ ((prs none).atT t15).kpe.presAt + 20 * ms ≤ ((prs none).atT t15).now ∧ ((prs none).atT t15).kpe.claim = none)
      ∧ 9 + 60 * sec ≤ ((prs (some { session := 3, time := 9 : Claim })).atT t15).now
      ∧ (((kp { sess1 with unacked := [ctl 3, ctl 4, ctl 5], rounds := 7 }).atT t15).kpe.sessions.length = 128 ∧ storeWf ((kp { sess1 with unacked := [ctl 3, ctl 4, ctl 5], rounds := 7 }).atT t15).regs.live = true ∧ (((kp { sess1 with unacked := [ctl 3, ctl 4, ctl 5], rounds := 7 }).atT t15).sess 3).state = SessState.active ∧ (((kp { sess1 with unacked := [ctl 3, ctl 4, ctl 5], rounds := 7 }).atT t15).sess 3).unacked ≠ [] ∧ (((kp { sess1 with unacked := [ctl 3, ctl 4, ctl 5], rounds := 7 }).atT t15).sess 3).ackAt + ((kp { sess1 with unacked := [ctl 3, ctl 4, ctl 5], rounds := 7 }).atT t15).rto 3 * ms ≤ ((kp { sess1 with unacked := [ctl 3, ctl 4, ctl 5], rounds := 7 }).atT t15).now ∧ ((kp { sess1 with unacked := [ctl 3, ctl 4, ctl 5], rounds := 7 }).atT t15).isolated Block.kpe = false ∧ (((kp { sess1 with unacked := [ctl 3, ctl 4, ctl 5], rounds := 7 }).atT t15).sess 3).rounds < 8 ∧ (((kp { sess1 with unacked := [ctl 3, ctl 4, ctl 5], rounds := 7 }).atT t15).sess 3).paths ≠ [])
      ∧ (((kp { sess1 with unacked := [ctl 3, ctl 4, ctl 5], rounds := 8 }).atT t15).kpe.sessions.length = 128 ∧ storeWf ((kp { sess1 with unacked := [ctl 3, ctl 4, ctl 5], rounds := 8 }).atT t15).regs.live = true ∧ (((kp { sess1 with unacked := [ctl 3, ctl 4, ctl 5], rounds := 8 }).atT t15).sess 3).state = SessState.active ∧ (((kp { sess1 with unacked := [ctl 3, ctl 4, ctl 5], rounds := 8 }).atT t15).sess 3).unacked ≠ [] ∧ (((kp { sess1 with unacked := [ctl 3, ctl 4, ctl 5], rounds := 8 }).atT t15).sess 3).ackAt + ((kp { sess1 with unacked := [ctl 3, ctl 4, ctl 5], rounds := 8 }).atT t15).rto 3 * ms ≤ ((kp { sess1 with unacked := [ctl 3, ctl 4, ctl 5], rounds := 8 }).atT t15).now ∧ ((kp { sess1 with unacked := [ctl 3, ctl 4, ctl 5], rounds := 8 }).atT t15).isolated Block.kpe = false ∧ 8 ≤ (((kp { sess1 with unacked := [ctl 3, ctl 4, ctl 5], rounds := 8 }).atT t15).sess 3).rounds))
    ∧ ((((kp { sess1 with unacked := [ctl 3, ctl 4, ctl 5], rounds := 8 }).atT t15).sess 3).state ≠ SessState.free ∧ (if (((kp { sess1 with unacked := [ctl 3, ctl 4, ctl 5], rounds := 8 }).atT t15).sess 3).state = SessState.suspended then (((kp { sess1 with unacked := [ctl 3, ctl 4, ctl 5], rounds := 8 }).atT t15).sess 3).suspendedAt else (((kp { sess1 with unacked := [ctl 3, ctl 4, ctl 5], rounds := 8 }).atT t15).sess 3).lastAt) + ((kp { sess1 with unacked := [ctl 3, ctl 4, ctl 5], rounds := 8 }).atT t15).keepalive 3 * sec ≤ ((kp { sess1 with unacked := [ctl 3, ctl 4, ctl 5], rounds := 8 }).atT t15).now ∧ (((kp { sess1 with unacked := [ctl 3, ctl 4, ctl 5], rounds := 8 }).atT t15).sess 3).inflight = [] ∧ (((kp { sess1 with unacked := [ctl 3, ctl 4, ctl 5], rounds := 8 }).atT t15).subsWhere fun y => y.session == 3) = []) :=
  ⟨by decide +kernel, by decide +kernel, by decide +kernel, by decide +kernel, by decide +kernel, by decide +kernel⟩

/-- States and operands that meet the hypotheses of `CommandsAreTakenAndCompleted`, a line for each clause; what a clause shares with one above stands there. -/
theorem meets_CommandsAreTakenAndCompleted :
    ((((kp sess1).atT t15).kpe.sessions.length = 128 ∧ storeWf ((kp sess1).atT t15).regs.live = true ∧ commandTaken ((kp sess1).atT t15) path1 (P3 40 1 []) 3 40 1 [])
      ∧ (((kp { sess1 with inflight := List.replicate 32 (cmd1 1 KpArgs.nop) }).atT t15).kpe.sessions.length = 128 ∧ storeWf ((kp { sess1 with inflight := List.replicate 32 (cmd1 1 KpArgs.nop) }).atT t15).regs.live = true ∧ packetTaken ((kp { sess1 with inflight := List.replicate 32 (cmd1 1 KpArgs.nop) }).atT t15) path1 (P3 41 99 []) 3 ∧ (P3 41 99 []).session = 3 ∧ (((kp { sess1 with inflight := List.replicate 32 (cmd1 1 KpArgs.nop) }).atT t15).sess 3).state = SessState.active ∧ 41 = argNat (P3 41 99 []).payload 0 2 ∧ 99 = argNat (P3 41 99 []).payload 2 2 ∧ 41 ≠ 65535 ∧ ((kp { sess1 with inflight := List.replicate 32 (cmd1 1 KpArgs.nop) }).atT t15).cmd 3 41 = none ∧ ((kp { sess1 with inflight := List.replicate 32 (cmd1 1 KpArgs.nop) }).atT t15).cachedTag 3 41 = none ∧ (32 ≤ (((kp { sess1 with inflight := List.replicate 32 (cmd1 1 KpArgs.nop) }).atT t15).sess 3).inflight.length ∨ 128 ≤ ((kp { sess1 with inflight := List.replicate 32 (cmd1 1 KpArgs.nop) }).atT t15).inFlight))
      ∧ (packetTaken ((kp { sess1 with inflight := List.replicate 32 (cmd1 1 KpArgs.nop) }).atT t15) path1 (P3 40 99 []) 3 ∧ (P3 40 99 []).session = 3 ∧ 40 = argNat (P3 40 99 []).payload 0 2 ∧ 99 = argNat (P3 40 99 []).payload 2 2 ∧ 40 ≠ 65535 ∧ ((kp { sess1 with inflight := List.replicate 32 (cmd1 1 KpArgs.nop) }).atT t15).cmd 3 40 = some (cmd1 1 KpArgs.nop)))
    ∧ ((((kp { sess1 with cache := [{ tag := 40, op := 1, time := t15 - sec, payload := CtlPayload.notify 1 2 [3] [] : Cached }] }).atT t15).kpe.sessions.length = 128 ∧ storeWf ((kp { sess1 with cache := [{ tag := 40, op := 1, time := t15 - sec, payload := CtlPayload.notify 1 2 [3] [] : Cached }] }).atT t15).regs.live = true ∧ packetTaken ((kp { sess1 with cache := [{ tag := 40, op := 1, time := t15 - sec, payload := CtlPayload.notify 1 2 [3] [] : Cached }] }).atT t15) path1 (P3 40 1 []) 3 ∧ (P3 40 1 []).session = 3 ∧ (((kp { sess1 with cache := [{ tag := 40, op := 1, time := t15 - sec, payload := CtlPayload.notify 1 2 [3] [] : Cached }] }).atT t15).sess 3).state = SessState.active ∧ 40 = argNat (P3 40 1 []).payload 0 2 ∧ 1 = argNat (P3 40 1 []).payload 2 2 ∧ ((kp { sess1 with cache := [{ tag := 40, op := 1, time := t15 - sec, payload := CtlPayload.notify 1 2 [3] [] : Cached }] }).atT t15).cmd 3 40 = none ∧ ((kp { sess1 with cache := [{ tag := 40, op := 1, time := t15 - sec, payload := CtlPayload.notify 1 2 [3] [] : Cached }] }).atT t15).cachedTag 3 40 = some { tag := 40, op := 1, time := t15 - sec, payload := CtlPayload.notify 1 2 [3] [] : Cached } ∧ { tag := 40, op := 1, time := t15 - sec, payload := CtlPayload.notify 1 2 [3] [] : Cached }.op = 1)
      ∧ (((kpc (cmd1 1 KpArgs.nop)).atT t15).kpe.sessions.length = 128 ∧ storeWf ((kpc (cmd1 1 KpArgs.nop)).atT t15).regs.live = true ∧ mayAct ((kpc (cmd1 1 KpArgs.nop)).atT t15) 3 40 (cmd1 1 KpArgs.nop) ∧ (cmd1 1 KpArgs.nop).args = KpArgs.nop)
      ∧ (((kpc ended1).atT t15).kpe.sessions.length = 128 ∧ storeWf ((kpc ended1).atT t15).regs.live = true ∧ ((kpc ended1).atT t15).cmd 3 40 = some ended1 ∧ ended1.outcome = CmdOutcome.ended Status.complete 3 [4] ∧ ((kpc ended1).atT t15).targetFirst 3 ended1 = false ∧ (((kpc ended1).atT t15).sess 3).state = SessState.active)
      ∧ (((kpc (cmd1 1 KpArgs.nop)).atT t15).cmd 3 40 = some (cmd1 1 KpArgs.nop) ∧ ((cmd1 1 KpArgs.nop).outcome = CmdOutcome.running ∨ ((kpc (cmd1 1 KpArgs.nop)).atT t15).targetFirst 3 (cmd1 1 KpArgs.nop) = true)))
    ∧ ((((kp { sess1 with waiting := [CtlPayload.notify 6 1 [1] [], CtlPayload.notify 7 1 [1] []] }).atT t15).kpe.sessions.length = 128 ∧ storeWf ((kp { sess1 with waiting := [CtlPayload.notify 6 1 [1] [], CtlPayload.notify 7 1 [1] []] }).atT t15).regs.live = true ∧ (((kp { sess1 with waiting := [CtlPayload.notify 6 1 [1] [], CtlPayload.notify 7 1 [1] []] }).atT t15).sess 3).waiting = [CtlPayload.notify 6 1 [1] [], CtlPayload.notify 7 1 [1] []] ∧ (((kp { sess1 with waiting := [CtlPayload.notify 6 1 [1] [], CtlPayload.notify 7 1 [1] []] }).atT t15).sess 3).state = SessState.active ∧ (((kp { sess1 with waiting := [CtlPayload.notify 6 1 [1] [], CtlPayload.notify 7 1 [1] []] }).atT t15).sess 3).unacked.length < ((kp { sess1 with waiting := [CtlPayload.notify 6 1 [1] [], CtlPayload.notify 7 1 [1] []] }).atT t15).window 3 ∧ ((kp { sess1 with waiting := [CtlPayload.notify 6 1 [1] [], CtlPayload.notify 7 1 [1] []] }).atT t15).isolated Block.kpe = false ∧ (((kp { sess1 with waiting := [CtlPayload.notify 6 1 [1] [], CtlPayload.notify 7 1 [1] []] }).atT t15).sess 3).nextSeq < 2 ^ 32 ∧ (((kp { sess1 with waiting := [CtlPayload.notify 6 1 [1] [], CtlPayload.notify 7 1 [1] []] }).atT t15).sess 3).paths ≠ [])
      ∧ (((kp { sess1 with unacked := List.replicate 64 (ctl 3), waiting := [CtlPayload.notify 6 1 [1] [], CtlPayload.notify 7 1 [1] []] }).atT t15).kpe.sessions.length = 128 ∧ storeWf ((kp { sess1 with unacked := List.replicate 64 (ctl 3), waiting := [CtlPayload.notify 6 1 [1] [], CtlPayload.notify 7 1 [1] []] }).atT t15).regs.live = true ∧ (((kp { sess1 with unacked := List.replicate 64 (ctl 3), waiting := [CtlPayload.notify 6 1 [1] [], CtlPayload.notify 7 1 [1] []] }).atT t15).sess 3).waiting ≠ [] ∧ ((kp { sess1 with unacked := List.replicate 64 (ctl 3), waiting := [CtlPayload.notify 6 1 [1] [], CtlPayload.notify 7 1 [1] []] }).atT t15).window 3 ≤ (((kp { sess1 with unacked := List.replicate 64 (ctl 3), waiting := [CtlPayload.notify 6 1 [1] [], CtlPayload.notify 7 1 [1] []] }).atT t15).sess 3).unacked.length)
      ∧ (((kp { sess1 with inflight := [rr, ab 40] }).atT t15).kpe.sessions.length = 128 ∧ storeWf ((kp { sess1 with inflight := [rr, ab 40] }).atT t15).regs.live = true ∧ ((kp { sess1 with inflight := [rr, ab 40] }).atT t15).cmd 3 41 = some (ab 40) ∧ (ab 40).outcome = CmdOutcome.running ∧ (ab 40).args = KpArgs.abort 40 ∧ ((kp { sess1 with inflight := [rr, ab 40] }).atT t15).isolated Block.kpe = false ∧ 40 ≠ 41 ∧ ((kp { sess1 with inflight := [rr, ab 40] }).atT t15).cmd 3 40 = some rr ∧ rr.outcome = CmdOutcome.running ∧ rr.final = none))
    ∧ (((kp { sess1 with inflight := [rr, ab 4] }).atT t15).kpe.sessions.length = 128 ∧ storeWf ((kp { sess1 with inflight := [rr, ab 4] }).atT t15).regs.live = true ∧ ((kp { sess1 with inflight := [rr, ab 4] }).atT t15).cmd 3 41 = some (ab 4) ∧ (ab 4).outcome = CmdOutcome.running ∧ (ab 4).args = KpArgs.abort 4 ∧ ((kp { sess1 with inflight := [rr, ab 4] }).atT t15).isolated Block.kpe = false ∧ (4 = 41 ∨ ((kp { sess1 with inflight := [rr, ab 4] }).atT t15).cmd 3 4 = none)) :=
  ⟨by decide +kernel, by decide +kernel, by decide +kernel, by decide +kernel⟩

/-- States and operands that meet the hypotheses of `RegisterAndMemoryCommandsAct`, a line for each clause; what a clause shares with one above stands there. -/
theorem meets_RegisterAndMemoryCommandsAct :
    ((mayAct (atBus (kpc c1) t15) 3 40 c1 ∧ storeWf (atBus (kpc c1) t15).mems.dram = true ∧ c1.args = KpArgs.regRead [4260168, 1114112, 5, 268435460] ∧ Option.map (fun x => x.outcome) (((begunAt (atBus (kpc c1) t15) 3 40).readMany (Master.session 3) [4260168, 1114112, 5, 268435460]).fst.cmd 3 40) = some CmdOutcome.running)
      ∧ (mayAct (atBus (kpc c2) t15) 3 40 c2 ∧ storeWf (atBus (kpc c2) t15).mems.dram = true ∧ c2.args = KpArgs.regWrite [(4329572, 48#32), (1114112, 5#32), (5, 6#32)] ∧ Option.map (fun x => x.outcome) (((begunAt (atBus (kpc c2) t15) 3 40).writeMany 3 40 [(4329572, 48#32), (1114112, 5#32), (5, 6#32)]).fst.cmd 3 40) = some CmdOutcome.running)
      ∧ (mayAct (atBus (kpc c3) t15) 3 40 c3 ∧ storeWf (atBus (kpc c3) t15).mems.dram = true ∧ c3.args = KpArgs.memRead 0 4260168 8 ∧ c3.final = none ∧ (atBus (kpc c3) t15).dataWaits 3 40 = false ∧ 8 ≤ (atBus (kpc c3) t15).dataRoom 3 / 4 * 4 ∧ c3.next = 0 ∧ 4 ∣ 8 ∧ c3.ctx = none ∧ ((begunAt (atBus (kpc c3) t15) 3 40).readRun (Master.session 3) 4260168 (8 / 4)).snd.snd = false ∧ 8 ≠ 0 ∧ (((begunAt (atBus (kpc c3) t15) 3 40).readRun (Master.session 3) 4260168 (8 / 4)).fst.sess 3).state = SessState.active ∧ (((begunAt (atBus (kpc c3) t15) 3 40).readRun (Master.session 3) 4260168 (8 / 4)).fst.cmd 3 40).isSome = true ∧ ((((begunAt (atBus (kpc c3) t15) 3 40).readRun (Master.session 3) 4260168 (8 / 4)).fst.cmd 3 40).bind fun x => x.ctx) = none))
    ∧ ((mayAct (atBus (dr c4) t15) 3 40 c4 ∧ storeWf (atBus (dr c4) t15).mems.dram = true ∧ c4.args = KpArgs.memRead 1 1152 8 ∧ c4.final = none ∧ (atBus (dr c4) t15).dataWaits 3 40 = false ∧ 8 ≤ (atBus (dr c4) t15).dataRoom 3 / 4 * 4 ∧ c4.next = 0 ∧ c4.ctx = none ∧ c4.poisonAt = none ∧ (atBus (dr c4) t15).dramRun 1152 8 = 8 ∧ (atBus (dr c4) t15).firstPoison 1152 1152 8 = none ∧ ((atBus (dr c4) t15).sess 3).state = SessState.active)
      ∧ (mayAct (atBus (dr c5) t15) 3 40 c5 ∧ storeWf (atBus (dr c5) t15).mems.dram = true ∧ c5.args = KpArgs.memRead 1 1152 8 ∧ c5.final = some (Status.complete, 6) ∧ (atBus (dr c5) t15).dataWaits 3 40 = false)
      ∧ (mayAct (atBus (dr c6) t15) 3 40 c6 ∧ storeWf (atBus (dr c6) t15).mems.dram = true ∧ c6.args = KpArgs.memWrite 0 4329572 (leBytes 4 48 ++ leBytes 4 5) ∧ Option.map (fun x => x.outcome) (((begunAt (atBus (dr c6) t15) 3 40).writeRun 3 40 4329572 (payloadWords (leBytes 4 48 ++ leBytes 4 5))).fst.cmd 3 40) = some CmdOutcome.running))
    ∧ ((mayAct (atBus (dr c7) t15) 3 40 c7 ∧ storeWf (atBus (dr c7) t15).mems.dram = true ∧ c7.args = KpArgs.memWrite 1 1879048208 [5, 6, 7] ∧ 1879048192 ≤ 1879048208 ∧ 1879048208 + [5, 6, 7].length ≤ 2147483648 ∧ (atBus (dr c7) t15).dramRun 1879048208 [5, 6, 7].length = [5, 6, 7].length ∧ 2 < [5, 6, 7].length ∧ (1879048211 < 1879048208 ∨ 1879048208 + [5, 6, 7].length ≤ 1879048211))
      ∧ (mayAct (atBus (dr c8) t15) 3 40 c8 ∧ storeWf (atBus (dr c8) t15).mems.dram = true ∧ c8.args = KpArgs.memWrite 1 2147483646 [5, 6, 7] ∧ (2147483646 < 1879048192 ∨ 2147483648 < 2147483646 + [5, 6, 7].length))
      ∧ (mayAct (atBus (dr c9) t15) 3 40 c9 ∧ storeWf (atBus (dr c9) t15).mems.dram = true ∧ c9.args = KpArgs.load 2147483646 64 ∧ (2147483646 < 1879048192 ∨ 2147483648 < 2147483646 + 64))
      ∧ (mayAct (atBus (dr c10) t15) 3 40 c10 ∧ storeWf (atBus (dr c10) t15).mems.dram = true ∧ c10.args = KpArgs.load 1879048192 64 ∧ 1879048192 ≤ 1879048192 ∧ 1879048192 + 64 ≤ 2147483648 ∧ (atBus (dr c10) t15).dramRun 1879048192 ((atBus (dr c10) t15).loadSpan 1879048192 64) = (atBus (dr c10) t15).loadSpan 1879048192 64 ∧ (atBus (dr c10) t15).firstPoison 1879048192 1879048192 ((atBus (dr c10) t15).loadSpan 1879048192 64) = none ∧ Option.map (fun x => x.outcome) (((begunAt (atBus (dr c10) t15) 3 40).loadImage (Master.session 3) ((atBus (dr c10) t15).dramBytes 1879048192 ((atBus (dr c10) t15).loadSpan 1879048192 64))).fst.cmd 3 40) = some CmdOutcome.running))
    ∧ (mayAct (atBus (dr c11) t15) 3 40 c11 ∧ storeWf (atBus (dr c11) t15).mems.dram = true ∧ c11.args = KpArgs.mode 3 ∧ Option.map (fun x => x.outcome) (((begunAt (atBus (dr c11) t15) 3 40).writeWord (Master.session 3) Reg.CHP_MODE_REQ.addr (Reg.CHP_MODE_REQ.put 0 3)).cmd 3 40) = some CmdOutcome.running) :=
  ⟨by decide +kernel, by decide +kernel, by decide +kernel, by decide +kernel⟩

/-- States and operands that meet the hypotheses of `CaptureAndLogCommandsAct`, a line for each clause; what a clause shares with one above stands there. -/
theorem meets_CaptureAndLogCommandsAct :
    ((mayAct ((kpc d1).atT t15) 3 40 d1 ∧ (((kpc d1).atT t15).sess 3).state = SessState.active ∧ storeWf ((kpc d1).atT t15).regs.live = true ∧ d1.args = KpArgs.capArm 0 5 6 7 8 1 ∧ d1.begun = false ∧ 0 ≤ ((kpc d1).atT t15).devTime + 10 ^ 10)
      ∧ (mayAct ((kpc d2).atT t15) 3 40 d2 ∧ (((kpc d2).atT t15).sess 3).state = SessState.active ∧ storeWf ((kpc d2).atT t15).regs.live = true ∧ d2.args = KpArgs.capArm (10 ^ 12) 5 6 7 8 1 ∧ d2.begun = false ∧ ((kpc d2).atT t15).devTime + 10 ^ 10 < 10 ^ 12)
      ∧ (mayAct ((kpc d3).atT t15) 3 40 d3 ∧ (((kpc d3).atT t15).sess 3).state = SessState.active ∧ storeWf ((kpc d3).atT t15).regs.live = true ∧ d3.args = KpArgs.capAbort 77 ∧ ((kpc d3).atT t15).capture 77 = none)
      ∧ (mayAct ((ringCmd d3 { wt with state := DescState.closed }).atT t15) 3 40 d3 ∧ (((ringCmd d3 { wt with state := DescState.closed }).atT t15).sess 3).state = SessState.active ∧ storeWf ((ringCmd d3 { wt with state := DescState.closed }).atT t15).regs.live = true ∧ ((ringCmd d3 { wt with state := DescState.closed }).atT t15).capture 77 = some 3 ∧ (((ringCmd d3 { wt with state := DescState.closed }).atT t15).desc 3).state = DescState.closed))
    ∧ ((mayAct ((ringCmd d3 wt).atT t15) 3 40 d3 ∧ (((ringCmd d3 wt).atT t15).sess 3).state = SessState.active ∧ storeWf ((ringCmd d3 wt).atT t15).regs.live = true ∧ ((ringCmd d3 wt).atT t15).capture 77 = some 3 ∧ (((ringCmd d3 wt).atT t15).desc 3).state = DescState.wait ∧ 3 < ((ringCmd d3 wt).atT t15).rng.desc.length)
      ∧ (mayAct ((kpc d6).atT t15) 3 40 d6 ∧ (((kpc d6).atT t15).sess 3).state = SessState.active ∧ storeWf ((kpc d6).atT t15).regs.live = true ∧ d6.args = KpArgs.capRelease 77 ∧ ((kpc d6).atT t15).capture 77 = none)
      ∧ (mayAct ((ringCmd d6 { wt with state := DescState.closed }).atT t15) 3 40 d6 ∧ (((ringCmd d6 { wt with state := DescState.closed }).atT t15).sess 3).state = SessState.active ∧ storeWf ((ringCmd d6 { wt with state := DescState.closed }).atT t15).regs.live = true ∧ ((ringCmd d6 { wt with state := DescState.closed }).atT t15).capture 77 = some 3)
      ∧ (mayAct ((kpc d8).atT t15) 3 40 d8 ∧ (((kpc d8).atT t15).sess 3).state = SessState.active ∧ storeWf ((kpc d8).atT t15).regs.live = true ∧ d8.args = KpArgs.capRead 77 0 0 5 30 255 ∧ d8.begun = false ∧ ((kpc d8).atT t15).capture 77 = none))
    ∧ ((mayAct ((ringCmd d8 { wt with stream := true }).atT t15) 3 40 d8 ∧ (((ringCmd d8 { wt with stream := true }).atT t15).sess 3).state = SessState.active ∧ storeWf ((ringCmd d8 { wt with stream := true }).atT t15).regs.live = true ∧ ((ringCmd d8 { wt with stream := true }).atT t15).capture 77 = some 3 ∧ ((((ringCmd d8 { wt with stream := true }).atT t15).desc 3).stream = true ∨ 5 < (((ringCmd d8 { wt with stream := true }).atT t15).desc 3).first ∨ (((ringCmd d8 { wt with stream := true }).atT t15).desc 3).last < 30))
      ∧ (mayAct ((ringCmd d8 wt).atT t15) 3 40 d8 ∧ (((ringCmd d8 wt).atT t15).sess 3).state = SessState.active ∧ storeWf ((ringCmd d8 wt).atT t15).regs.live = true ∧ ((ringCmd d8 wt).atT t15).capture 77 = some 3 ∧ (((ringCmd d8 wt).atT t15).desc 3).stream = false ∧ (((ringCmd d8 wt).atT t15).desc 3).first ≤ 5 ∧ 30 ≤ (((ringCmd d8 wt).atT t15).desc 3).last))
    ∧ ((mayAct ((ringCmd d11 wt11).atT t15) 3 40 d11 ∧ (((ringCmd d11 wt11).atT t15).sess 3).state = SessState.active ∧ storeWf ((ringCmd d11 wt11).atT t15).regs.live = true ∧ d11.args = KpArgs.capRead 77 2 1 5 30 255 ∧ d11.begun = true ∧ d11.ctx = none ∧ d11.final = none ∧ ((ringCmd d11 wt11).atT t15).dataWaits 3 40 = false ∧ d11.next = 2 ∧ d11.stop = 2 + 1 ∧ ((ringCmd d11 wt11).atT t15).capture 77 = some 3 ∧ ((ringCmd d11 wt11).atT t15).capFate 77 d11.mark 2 = RowFate.ready { num := 40, slot := 40, sweep := 8, firedAt := 70 : RingRow } ∧ ((ringCmd d11 wt11).atT t15).badIn { num := 40, slot := 40, sweep := 8, firedAt := 70 : RingRow } 5 30 = 0 ∧ 5 ≤ 30 ∧ 2 * (30 + 1 - 5) ≤ ((ringCmd d11 wt11).atT t15).dataRoom 3)
      ∧ (mayAct ((ringCmd d12 wt11).atT t15) 3 40 d12 ∧ (((ringCmd d12 wt11).atT t15).sess 3).state = SessState.active ∧ storeWf ((ringCmd d12 wt11).atT t15).regs.live = true ∧ d12.args = KpArgs.ringRead 40 1 2 30 255 ∧ d12.begun = false ∧ (2 < ((ringCmd d12 wt11).atT t15).rd Reg.PHS_RANGE_CAPO ∨ ((ringCmd d12 wt11).atT t15).rd Reg.PHS_RANGE_END < 30)))
    ∧ ((mayAct ((ringCmd d13 wt11).atT t15) 3 40 d13 ∧ (((ringCmd d13 wt11).atT t15).sess 3).state = SessState.active ∧ storeWf ((ringCmd d13 wt11).atT t15).regs.live = true ∧ d13.args = KpArgs.ringRead 39 1 5 30 255 ∧ d13.begun = false ∧ ((ringCmd d13 wt11).atT t15).rd Reg.PHS_RANGE_CAPO ≤ 5 ∧ 30 ≤ ((ringCmd d13 wt11).atT t15).rd Reg.PHS_RANGE_END ∧ ((ringCmd d13 wt11).atT t15).ringRow 39 = none ∧ 39 < ((ringCmd d13 wt11).atT t15).rng.wrow)
      ∧ (mayAct ((ringCmd d14 wt11).atT t15) 3 40 d14 ∧ (((ringCmd d14 wt11).atT t15).sess 3).state = SessState.active ∧ storeWf ((ringCmd d14 wt11).atT t15).regs.live = true ∧ d14.args = KpArgs.ringRead 40 1 5 30 255 ∧ d14.begun = false ∧ d14.final = none ∧ ((ringCmd d14 wt11).atT t15).rd Reg.PHS_RANGE_CAPO ≤ 5 ∧ 30 ≤ ((ringCmd d14 wt11).atT t15).rd Reg.PHS_RANGE_END ∧ ((ringCmd d14 wt11).atT t15).ringRow 40 = some { num := 40, slot := 40, sweep := 8, firedAt := 70 : RingRow }))
    ∧ ((mayAct ((ringCmd d15 wt11).atT t15) 3 40 d15 ∧ (((ringCmd d15 wt11).atT t15).sess 3).state = SessState.active ∧ storeWf ((ringCmd d15 wt11).atT t15).regs.live = true ∧ d15.args = KpArgs.ringRead 40 1 5 30 255 ∧ d15.begun = true ∧ d15.ctx = none ∧ d15.final = none ∧ ((ringCmd d15 wt11).atT t15).dataWaits 3 40 = false ∧ d15.next = 0 ∧ d15.stop = 1 ∧ ((ringCmd d15 wt11).atT t15).ringRow 40 = some { num := 40, slot := 40, sweep := 8, firedAt := 70 : RingRow } ∧ ((ringCmd d15 wt11).atT t15).badIn { num := 40, slot := 40, sweep := 8, firedAt := 70 : RingRow } 5 30 = 0 ∧ 2 * (30 + 1 - 5) ≤ ((ringCmd d15 wt11).atT t15).dataRoom 3)
      ∧ (mayAct ((kpc d16).atT t15) 3 40 d16 ∧ (((kpc d16).atT t15).sess 3).state = SessState.active ∧ storeWf ((kpc d16).atT t15).regs.live = true ∧ d16.args = KpArgs.logRead 2 1 ∧ d16.begun = false))
    ∧ (mayAct ({ kpc d17 with evr := { (kpc d17).evr with buf := [(rec5, true)] } }.atT t15) 3 40 d17 ∧ (({ kpc d17 with evr := { (kpc d17).evr with buf := [(rec5, true)] } }.atT t15).sess 3).state = SessState.active ∧ storeWf ({ kpc d17 with evr := { (kpc d17).evr with buf := [(rec5, true)] } }.atT t15).regs.live = true ∧ d17.args = KpArgs.logRead 2 1 ∧ d17.begun = true ∧ d17.final = none ∧ d17.ctx = none ∧ ({ kpc d17 with evr := { (kpc d17).evr with buf := [(rec5, true)] } }.atT t15).dataWaits 3 40 = false ∧ d17.mark = 0 ∧ d17.part = 0 ∧ List.take d17.stop (List.filter (fun r => decide (d17.next ≤ r.seq)) ({ kpc d17 with evr := { (kpc d17).evr with buf := [(rec5, true)] } }.atT t15).evr.held) ≠ [] ∧ d17.stop ≤ ({ kpc d17 with evr := { (kpc d17).evr with buf := [(rec5, true)] } }.atT t15).dataRoom 3 / 32 ∧ (List.take d17.stop (List.filter (fun r => decide (d17.next ≤ r.seq)) ({ kpc d17 with evr := { (kpc d17).evr with buf := [(rec5, true)] } }.atT t15).evr.held)).length = d17.stop) :=
  ⟨by decide +kernel, by decide +kernel, by decide +kernel, by decide +kernel, by decide +kernel, by decide +kernel, by decide +kernel⟩

/-- States and operands that meet the hypotheses of `StreamsAreFormedSentAndDropped`, a line for each clause; what a clause shares with one above stands there. -/
theorem meets_StreamsAreFormedSentAndDropped :
    ((((kpc e1).atT t15).kpe.subs.length = 512 ∧ ((kpc e1).atT t15).kpe.sessions.length = 128 ∧ storeWf ((kpc e1).atT t15).regs.live = true ∧ mayAct ((kpc e1).atT t15) 3 40 e1 ∧ e1.args = KpArgs.subscribe 2 0 255 0 0 5 ∧ 0 < 512 ∧ ((kpc e1).atT t15).sub 0 = none ∧ ((List.range 0).all fun j => (((kpc e1).atT t15).sub j).isSome) = true ∧ (((kpc e1).atT t15).subsWhere fun y => y.session == 3).length < 64 ∧ Option.any (fun k => ((kpc e1).atT t15).overBand k.mac { session := 3, kind := kindOf 2, preset := 0, pred := 255, first := 0, last := 0, maxUs := max 100 (min 1000000 5), gap := !((kpc e1).atT t15).chp.mode.light : Subscription }) (((kpc e1).atT t15).sess 3).path = false)
      ∧ ((fl.atT t15).kpe.subs.length = 512 ∧ (fl.atT t15).kpe.sessions.length = 128 ∧ storeWf (fl.atT t15).regs.live = true ∧ mayAct (fl.atT t15) 3 40 e1 ∧ (((fl.atT t15).kpe.subs.all fun y => y.isSome) = true ∨ 64 ≤ ((fl.atT t15).subsWhere fun y => y.session == 3).length))
      ∧ (((streaming (kpc e3) (sub1 [srow 4 6]) [spkt]).atT t15).kpe.subs.length = 512 ∧ ((streaming (kpc e3) (sub1 [srow 4 6]) [spkt]).atT t15).kpe.sessions.length = 128 ∧ storeWf ((streaming (kpc e3) (sub1 [srow 4 6]) [spkt]).atT t15).regs.live = true ∧ mayAct ((streaming (kpc e3) (sub1 [srow 4 6]) [spkt]).atT t15) 3 40 e3 ∧ e3.args = KpArgs.unsubscribe 0 ∧ ((streaming (kpc e3) (sub1 [srow 4 6]) [spkt]).atT t15).sub 0 = some (sub1 [srow 4 6]) ∧ (sub1 [srow 4 6]).session = 3 ∧ (sub1 [srow 4 6]).ctx = none ∧ ((sub1 [srow 4 6]).kind ≠ StreamKind.capture ∨ (((streaming (kpc e3) (sub1 [srow 4 6]) [spkt]).atT t15).rng.desc.all fun d => d.state != DescState.stream) = true)))
    ∧ ((((streaming (kpc e3) { sub1 [srow 4 6] with session := 9 } [spkt]).atT t15).kpe.subs.length = 512 ∧ ((streaming (kpc e3) { sub1 [srow 4 6] with session := 9 } [spkt]).atT t15).kpe.sessions.length = 128 ∧ storeWf ((streaming (kpc e3) { sub1 [srow 4 6] with session := 9 } [spkt]).atT t15).regs.live = true ∧ mayAct ((streaming (kpc e3) { sub1 [srow 4 6] with session := 9 } [spkt]).atT t15) 3 40 e3 ∧ (((streaming (kpc e3) { sub1 [srow 4 6] with session := 9 } [spkt]).atT t15).sub 0 = none ∨ ((streaming (kpc e3) { sub1 [srow 4 6] with session := 9 } [spkt]).atT t15).sub 0 = some { sub1 [srow 4 6] with session := 9 } ∧ { sub1 [srow 4 6] with session := 9 }.session ≠ 3))
      ∧ (((streaming (kpc e5) { sub1 [srow 4 6] with session := 9 } [spkt]).atT t15).kpe.subs.length = 512 ∧ ((streaming (kpc e5) { sub1 [srow 4 6] with session := 9 } [spkt]).atT t15).kpe.sessions.length = 128 ∧ storeWf ((streaming (kpc e5) { sub1 [srow 4 6] with session := 9 } [spkt]).atT t15).regs.live = true ∧ mayAct ((streaming (kpc e5) { sub1 [srow 4 6] with session := 9 } [spkt]).atT t15) 3 40 e5 ∧ e5.args = KpArgs.flush 0 ∧ (((streaming (kpc e5) { sub1 [srow 4 6] with session := 9 } [spkt]).atT t15).sub 0 = none ∨ ((streaming (kpc e5) { sub1 [srow 4 6] with session := 9 } [spkt]).atT t15).sub 0 = some { sub1 [srow 4 6] with session := 9 } ∧ { sub1 [srow 4 6] with session := 9 }.session ≠ 3)))
    ∧ ((((streaming (kpc e5) (sub1 [srow 4 6]) [spkt]).atT t15).kpe.subs.length = 512 ∧ ((streaming (kpc e5) (sub1 [srow 4 6]) [spkt]).atT t15).kpe.sessions.length = 128 ∧ storeWf ((streaming (kpc e5) (sub1 [srow 4 6]) [spkt]).atT t15).regs.live = true ∧ mayAct ((streaming (kpc e5) (sub1 [srow 4 6]) [spkt]).atT t15) 3 40 e5 ∧ e5.begun = false ∧ ((streaming (kpc e5) (sub1 [srow 4 6]) [spkt]).atT t15).sub 0 = some (sub1 [srow 4 6]) ∧ (sub1 [srow 4 6]).kind = StreamKind.phase ∧ (sub1 [srow 4 6]).preset ≠ 5 ∧ (sub1 [srow 4 6]).rows = [srow 4 6] ∧ (sub1 [srow 4 6]).events = [] ∧ ((streaming (kpc e5) (sub1 [srow 4 6]) [spkt]).atT t15).forms (sub1 [srow 4 6]) = true ∧ (srow 4 6).data.length ≤ ((streaming (kpc e5) (sub1 [srow 4 6]) [spkt]).atT t15).streamRoom 3 ∧ (((streaming (kpc e5) (sub1 [srow 4 6]) [spkt]).atT t15).cmp.closed.any fun b => b.flow == FlowRef.sub 0) = false)
      ∧ (((streaming (kpc e5) { sub1 [srow 4 800, srow 5 800] with gap := true } [spkt]).atT t15).kpe.subs.length = 512 ∧ ((streaming (kpc e5) { sub1 [srow 4 800, srow 5 800] with gap := true } [spkt]).atT t15).kpe.sessions.length = 128 ∧ storeWf ((streaming (kpc e5) { sub1 [srow 4 800, srow 5 800] with gap := true } [spkt]).atT t15).regs.live = true ∧ ((streaming (kpc e5) { sub1 [srow 4 800, srow 5 800] with gap := true } [spkt]).atT t15).isolated Block.kpe = false ∧ ((streaming (kpc e5) { sub1 [srow 4 800, srow 5 800] with gap := true } [spkt]).atT t15).sub 0 = some { sub1 [srow 4 800, srow 5 800] with gap := true } ∧ ((streaming (kpc e5) { sub1 [srow 4 800, srow 5 800] with gap := true } [spkt]).atT t15).forms { sub1 [srow 4 800, srow 5 800] with gap := true } = true ∧ { sub1 [srow 4 800, srow 5 800] with gap := true }.kind = StreamKind.phase ∧ { sub1 [srow 4 800, srow 5 800] with gap := true }.preset ≠ 5 ∧ { sub1 [srow 4 800, srow 5 800] with gap := true }.rows = [srow 4 800, srow 5 800] ∧ (srow 4 800).data.length ≤ ((streaming (kpc e5) { sub1 [srow 4 800, srow 5 800] with gap := true } [spkt]).atT t15).streamRoom { sub1 [srow 4 800, srow 5 800] with gap := true }.session ∧ ((streaming (kpc e5) { sub1 [srow 4 800, srow 5 800] with gap := true } [spkt]).atT t15).streamRoom { sub1 [srow 4 800, srow 5 800] with gap := true }.session < 2 * (srow 4 800).data.length))
    ∧ ((((streaming (kpc e5) (sub1 [srow 4 6, srow 5 6]) [spkt]).atT t15).kpe.subs.length = 512 ∧ ((streaming (kpc e5) (sub1 [srow 4 6, srow 5 6]) [spkt]).atT t15).kpe.sessions.length = 128 ∧ storeWf ((streaming (kpc e5) (sub1 [srow 4 6, srow 5 6]) [spkt]).atT t15).regs.live = true ∧ ((streaming (kpc e5) (sub1 [srow 4 6, srow 5 6]) [spkt]).atT t15).isolated Block.kpe = false ∧ ((streaming (kpc e5) (sub1 [srow 4 6, srow 5 6]) [spkt]).atT t15).sub 0 = some (sub1 [srow 4 6, srow 5 6]) ∧ ((streaming (kpc e5) (sub1 [srow 4 6, srow 5 6]) [spkt]).atT t15).forms (sub1 [srow 4 6, srow 5 6]) = true ∧ (sub1 [srow 4 6, srow 5 6]).kind = StreamKind.phase ∧ (sub1 [srow 4 6, srow 5 6]).rows.length * (Option.map (fun r => r.data.length) (sub1 [srow 4 6, srow 5 6]).rows.head?).getD 0 + (Option.map (fun r => r.data.length) (sub1 [srow 4 6, srow 5 6]).rows.head?).getD 0 ≤ ((streaming (kpc e5) (sub1 [srow 4 6, srow 5 6]) [spkt]).atT t15).streamRoom (sub1 [srow 4 6, srow 5 6]).session ∧ (sub1 [srow 4 6, srow 5 6]).rows ≠ [] ∧ sharing (sub1 [srow 4 6, srow 5 6]) ((sub1 [srow 4 6, srow 5 6]).rows.headD { index := 0, sweep := 0, formedAt := 0, qflags := 0, data := [] : StreamRow }) (sub1 [srow 4 6, srow 5 6]).rows.tail = (sub1 [srow 4 6, srow 5 6]).rows.tail ∧ (Option.map (fun r => r.data.length) (sub1 [srow 4 6, srow 5 6]).rows.head?).getD 0 ≠ 0)
      ∧ (({ streaming (kpc e5) (sub1 [srow 4 6, srow 5 6]) [spkt] with chp := { svc.chp with mode := Mode.recovery } }.atT t15).kpe.subs.length = 512 ∧ ({ streaming (kpc e5) (sub1 [srow 4 6, srow 5 6]) [spkt] with chp := { svc.chp with mode := Mode.recovery } }.atT t15).kpe.sessions.length = 128 ∧ storeWf ({ streaming (kpc e5) (sub1 [srow 4 6, srow 5 6]) [spkt] with chp := { svc.chp with mode := Mode.recovery } }.atT t15).regs.live = true ∧ ({ streaming (kpc e5) (sub1 [srow 4 6, srow 5 6]) [spkt] with chp := { svc.chp with mode := Mode.recovery } }.atT t15).isolated Block.kpe = false ∧ ({ streaming (kpc e5) (sub1 [srow 4 6, srow 5 6]) [spkt] with chp := { svc.chp with mode := Mode.recovery } }.atT t15).sub 0 = some (sub1 [srow 4 6, srow 5 6]) ∧ ({ streaming (kpc e5) (sub1 [srow 4 6, srow 5 6]) [spkt] with chp := { svc.chp with mode := Mode.recovery } }.atT t15).forms (sub1 [srow 4 6, srow 5 6]) = false ∧ ((sub1 [srow 4 6, srow 5 6]).rows ≠ [] ∨ (sub1 [srow 4 6, srow 5 6]).events ≠ []))
      ∧ (((streaming (kpc e5) (sub1 [srow 4 6]) [spkt]).atT t15).isolated Block.kpe = false ∧ (srow 4 6).data.length ≤ ((streaming (kpc e5) (sub1 [srow 4 6]) [spkt]).atT t15).streamRoom (sub1 [srow 4 6]).session ∧ (srow 4 6).formedAt + (sub1 [srow 4 6]).maxUs * us ≤ ((streaming (kpc e5) (sub1 [srow 4 6]) [spkt]).atT t15).now))
    ∧ ((((streaming (kpc e5) (sub1 []) [spkt]).atT t15).kpe.subs.length = 512 ∧ ((streaming (kpc e5) (sub1 []) [spkt]).atT t15).kpe.sessions.length = 128 ∧ storeWf ((streaming (kpc e5) (sub1 []) [spkt]).atT t15).regs.live = true ∧ ((streaming (kpc e5) (sub1 []) [spkt]).atT t15).isolated Block.kpe = false ∧ ((streaming (kpc e5) (sub1 []) [spkt]).atT t15).sub 0 = some (sub1 []) ∧ ((streaming (kpc e5) (sub1 []) [spkt]).atT t15).forms (sub1 []) = true ∧ (sub1 []).rows = [] ∧ (sub1 []).events = [] ∧ ((streaming (kpc e5) (sub1 []) [spkt]).atT t15).kpe.stream = [spkt] ∧ spkt.sub = 0 ∧ spkt.session = (sub1 []).session ∧ (((streaming (kpc e5) (sub1 []) [spkt]).atT t15).sess (sub1 []).session).path = some path1 ∧ ((streaming (kpc e5) (sub1 []) [spkt]).atT t15).pathUp path1.mac = true)
      ∧ (spkt.formedAt + 100 * us ≤ ((streaming (kpc e5) (sub1 []) [spkt]).atT t15).now ∧ (([] : List StreamPacket).all fun y => !(y.sub == 0 && y.seq == spkt.seq)) = true ∧ spkt.session < 128)) :=
  ⟨by decide +kernel, by decide +kernel, by decide +kernel, by decide +kernel, by decide +kernel⟩

/-- States and operands that meet the hypotheses of `ManagementWatchesAndBurns`, a line for each clause; what a clause shares with one above stands there. -/
theorem meets_ManagementWatchesAndBurns :
    ((storeWf (svc.atT t16).regs.live = true ∧ commandable (svc.atT t16) Master.jtag Block.mgc none)
      ∧ ((svc.atT t16).isolated Block.sns = false ∧ 4 < 8 ∧ 5 < 12 ∧ ((List.range 8).all fun i => decide (signed 16 (te.getD i 0) ≤ (svc.atT t16).tcrit)) = true)
      ∧ (signed 16 ((svc.atT t16).rd Reg.SNS_TWARN) < signed 16 (te7.getD 7 0) ∧ signed 16 (te7.getD 7 0) ≤ (svc.atT t16).tcrit ∧ ((List.range 7).all fun i => decide (signed 16 (te7.getD i 0) ≤ signed 16 ((svc.atT t16).rd Reg.SNS_TWARN)) && decide (signed 16 (te7.getD i 0) ≤ (svc.atT t16).tcrit)) = true ∧ (svc.atT t16).sns.warm = List.replicate 8 false ∧ ((List.range 12).all fun r => decide (mv.getD r 0 = railNominal r)) = true)
      ∧ (storeWf ({ svc with sns := { svc.sns with hot := List.replicate 8 true } }.atT t16).regs.live = true ∧ ({ svc with sns := { svc.sns with hot := List.replicate 8 true } }.atT t16).isolated Block.sns = false ∧ 5 < 8 ∧ ({ svc with sns := { svc.sns with hot := List.replicate 8 true } }.atT t16).tcrit < signed 16 (tb.getD 5 0) ∧ ({ svc with sns := { svc.sns with hot := List.replicate 8 true } }.atT t16).sns.hot.getD 5 false = true)
      ∧ (storeWf ((otpSel 20).atT t16).regs.live = true ∧ commandable ((otpSel 20).atT t16) Master.jtag Block.upd none ∧ ((otpSel 20).atT t16).maySeal Master.jtag = true ∧ (4 ≤ ((otpSel 20).atT t16).rd Reg.UPD_OTP_PROG_WORD ∧ ((otpSel 20).atT t16).rd Reg.UPD_OTP_PROG_WORD ≤ 19 ∨ ((otpSel 20).atT t16).rd Reg.UPD_OTP_PROG_WORD = 20) ∧ ((otpSel 20).atT t16).upd.otp.length = 64))
    ∧ ((storeWf ((otpSel 25).atT t16).regs.live = true ∧ commandable ((otpSel 25).atT t16) Master.jtag Block.upd none ∧ ((otpSel 25).atT t16).maySeal Master.jtag = true ∧ (((otpSel 25).atT t16).rd Reg.UPD_OTP_PROG_WORD < 4 ∨ 20 < ((otpSel 25).atT t16).rd Reg.UPD_OTP_PROG_WORD))
      ∧ ((svc.atT t16).isolatedAt Block.upd none = false ∧ (svc.atT t16).mayPriv Master.jtag = true ∧ (svc.atT t16).maySeal Master.jtag = false)) :=
  ⟨by decide +kernel, by decide +kernel⟩

/-- States and operands that meet the hypotheses of `DeviceTimeIsDisciplined`, a line for each clause; what a clause shares with one above stands there. -/
theorem meets_DeviceTimeIsDisciplined :
    ((storeWf ((timed16 0 { : Tim }).atT t16).regs.live = true ∧ commandable ((timed16 0 { : Tim }).atT t16) Master.jtag Block.tim none ∧ (((timed16 0 { : Tim }).atT t16).rd Reg.TIM_MODE ≠ 1 ∨ false = true))
      ∧ (storeWf ((timed16 1 { : Tim }).atT t16).regs.live = true ∧ commandable ((timed16 1 { : Tim }).atT t16) Master.jtag Block.tim none ∧ ((timed16 1 { : Tim }).atT t16).rd Reg.TIM_MODE = 1)
      ∧ (storeWf ((timed16 0 { step := some (5, t16) : Tim }).atT t16).regs.live = true ∧ ((timed16 0 { step := some (5, t16) : Tim }).atT t16).tim.step = some (5, t16) ∧ t16 = ((timed16 0 { step := some (5, t16) : Tim }).atT t16).now ∧ ((timed16 0 { step := some (5, t16) : Tim }).atT t16).rd Reg.TIM_ADJ = 0 ∧ 5 < 2 ^ 64 ∧ ((timed16 0 { step := some (5, t16) : Tim }).atT t16).evr.buf.length < 2048)
      ∧ (storeWf ((timed16 1 { state := ServoState.acquiring, good := 14 : Tim }).atT t16).regs.live = true ∧ ((timed16 1 { state := ServoState.acquiring, good := 14 : Tim }).atT t16).rd Reg.TIM_MODE = 1 ∧ ((timed16 1 { state := ServoState.acquiring, good := 14 : Tim }).atT t16).tim.state = ServoState.acquiring ∧ ((timed16 1 { state := ServoState.acquiring, good := 14 : Tim }).atT t16).tim.good < 15 ∧ (-99).natAbs < ((timed16 1 { state := ServoState.acquiring, good := 14 : Tim }).atT t16).rd Reg.TIM_STEP_NS ∧ -99 ≠ 0 ∧ (-99).natAbs < ((timed16 1 { state := ServoState.acquiring, good := 14 : Tim }).atT t16).rd Reg.TIM_LOCK_NS)
      ∧ (storeWf ((timed16 1 { state := ServoState.acquiring, good := 15 : Tim }).atT t16).regs.live = true ∧ ((timed16 1 { state := ServoState.acquiring, good := 15 : Tim }).atT t16).rd Reg.TIM_MODE = 1 ∧ ((timed16 1 { state := ServoState.acquiring, good := 15 : Tim }).atT t16).tim.state = ServoState.acquiring ∧ ((timed16 1 { state := ServoState.acquiring, good := 15 : Tim }).atT t16).tim.good = 15 ∧ (-99).natAbs < ((timed16 1 { state := ServoState.acquiring, good := 15 : Tim }).atT t16).rd Reg.TIM_LOCK_NS))
    ∧ ((storeWf ((timed16 1 { state := ServoState.locked, bad := 3 : Tim }).atT t16).regs.live = true ∧ ((timed16 1 { state := ServoState.locked, bad := 3 : Tim }).atT t16).rd Reg.TIM_MODE = 1 ∧ ((timed16 1 { state := ServoState.locked, bad := 3 : Tim }).atT t16).tim.state = ServoState.locked ∧ ((timed16 1 { state := ServoState.locked, bad := 3 : Tim }).atT t16).tim.bad = 3 ∧ 4 * ((timed16 1 { state := ServoState.locked, bad := 3 : Tim }).atT t16).rd Reg.TIM_LOCK_NS < (-401).natAbs)
      ∧ ((timed16 1 { state := ServoState.locked, bad := 3 : Tim }).atT t16).tim.syncAt + max 1 (((timed16 1 { state := ServoState.locked, bad := 3 : Tim }).atT t16).rd Reg.TIM_HOLD_S) * sec ≤ ((timed16 1 { state := ServoState.locked, bad := 3 : Tim }).atT t16).now
      ∧ ((timed16 1 { state := ServoState.locked, bad := 3 : Tim }).atT t16).rd Reg.TIM_MODE ≠ 2
      ∧ (storeWf ((timed16 2 { base := 123456789 : Tim }).atT t16).regs.live = true ∧ ((timed16 2 { base := 123456789 : Tim }).atT t16).rd Reg.TIM_MODE = 2 ∧ ((timed16 2 { base := 123456789 : Tim }).atT t16).rd Reg.TIM_STEP_NS ≤ ((((((timed16 2 { base := 123456789 : Tim }).atT t16).devTime + 5 * 10 ^ 8) / 10 ^ 9 * 10 ^ 9 : Nat) : Int) - ↑((timed16 2 { base := 123456789 : Tim }).atT t16).devTime).natAbs ∧ ((timed16 2 { base := 123456789 : Tim }).atT t16).rd Reg.TIM_ADJ = 0 ∧ ((timed16 2 { base := 123456789 : Tim }).atT t16).tim.slew = none)
      ∧ (storeWf ((timed16 2 { slew := some (20, 7) : Tim }).atT t16).regs.live = true ∧ ((timed16 2 { slew := some (20, 7) : Tim }).atT t16).tim.slew = some (20, 7) ∧ 7 ≤ ((timed16 2 { slew := some (20, 7) : Tim }).atT t16).now)) :=
  ⟨by decide +kernel, by decide +kernel⟩

/-- States and operands that meet the hypotheses of `RecorderKeepsItsLog`, a line for each clause; what a clause shares with one above stands there. -/
theorem meets_RecorderKeepsItsLog :
    ((storeWf ((recd { sec := 100, due := [{ kind := 1, code := 4, zone := 5, formed := 6, supp := 7 : RlimKey }] : Evr }).atT t16).regs.live = true ∧ ((recd { sec := 100, due := [{ kind := 1, code := 4, zone := 5, formed := 6, supp := 7 : RlimKey }] : Evr }).atT t16).evr.sec = ((recd { sec := 100, due := [{ kind := 1, code := 4, zone := 5, formed := 6, supp := 7 : RlimKey }] : Evr }).atT t16).now / sec ∧ ((recd { sec := 100, due := [{ kind := 1, code := 4, zone := 5, formed := 6, supp := 7 : RlimKey }] : Evr }).atT t16).evr.due = [{ kind := 1, code := 4, zone := 5, formed := 6, supp := 7 : RlimKey }] ∧ { kind := 1, code := 4, zone := 5, formed := 6, supp := 7 : RlimKey }.zone < 2 ^ 8 ∧ { kind := 1, code := 4, zone := 5, formed := 6, supp := 7 : RlimKey }.code < 2 ^ 16 ∧ { kind := 1, code := 4, zone := 5, formed := 6, supp := 7 : RlimKey }.kind < 2 ^ 8 ∧ { kind := 1, code := 4, zone := 5, formed := 6, supp := 7 : RlimKey }.supp < 2 ^ 32 ∧ ((recd { sec := 100, due := [{ kind := 1, code := 4, zone := 5, formed := 6, supp := 7 : RlimKey }] : Evr }).atT t16).evr.buf.length < 2048)
      ∧ (storeWf ((recd { buf := [(rec16 1, false)] : Evr }).atT t16).regs.live = true ∧ ((recd { buf := [(rec16 1, false)] : Evr }).atT t16).evr.waiting = [rec16 1] ∧ (rec16 1).uptime * 1000 + sec ≤ ((recd { buf := [(rec16 1, false)] : Evr }).atT t16).now ∧ logReady ((recd { buf := [(rec16 1, false)] : Evr }).atT t16))
      ∧ (storeWf ((recd { buf := [(rec16 1, false)], page := some [rec16 1] : Evr }).atT t16).regs.live = true ∧ ((recd { buf := [(rec16 1, false)], page := some [rec16 1] : Evr }).atT t16).evr.page = some [rec16 1] ∧ ((recd { buf := [(rec16 1, false)], page := some [rec16 1] : Evr }).atT t16).evr.writeAt.snd < 255 ∧ ((recd { buf := [(rec16 1, false)], page := some [rec16 1] : Evr }).atT t16).evr.erasePending = false ∧ ((recd { buf := [(rec16 1, false)], page := some [rec16 1] : Evr }).atT t16).evr.urgent = 0 ∧ (List.filter (fun r => ! [rec16 1].any fun x => x.seq == r.seq) ((recd { buf := [(rec16 1, false)], page := some [rec16 1] : Evr }).atT t16).evr.waiting).length < 8 ∧ ((recd { buf := [(rec16 1, false)], page := some [rec16 1] : Evr }).atT t16).evr.writeAt.fst < ((recd { buf := [(rec16 1, false)], page := some [rec16 1] : Evr }).atT t16).logSectors)
      ∧ ((3 = 1 ∨ 3 = 3) ∧ ((recd { buf := [(rec16 1, false)], page := some [rec16 1] : Evr }).atT t16).evr.buf.length < 2048)
      ∧ (storeWf ((recd { buf := [(rec16 1, false)], eraseSector := some 9 : Evr }).atT t16).regs.live = true ∧ ((recd { buf := [(rec16 1, false)], eraseSector := some 9 : Evr }).atT t16).evr.eraseSector = some 9 ∧ ((recd { buf := [(rec16 1, false)], eraseSector := some 9 : Evr }).atT t16).evr.buf.length < 2048))
    ∧ ((storeWf ((recd { log := [page16 3, page16 9], erasing := true, eraseSector := some 9 : Evr }).atT t16).regs.live = true ∧ ((recd { log := [page16 3, page16 9], erasing := true, eraseSector := some 9 : Evr }).atT t16).evr.eraseSector = some 9 ∧ ((recd { log := [page16 3, page16 9], erasing := true, eraseSector := some 9 : Evr }).atT t16).evr.erasing = true)
      ∧ (storeWf ((recd { log := [page16 3, page16 9], erasing := true, erased := 5 : Evr }).atT t16).regs.live = true ∧ ((recd { log := [page16 3, page16 9], erasing := true, erased := 5 : Evr }).atT t16).evr.erasing = true ∧ ((recd { log := [page16 3, page16 9], erasing := true, erased := 5 : Evr }).atT t16).evr.eraseSector = none ∧ ((recd { log := [page16 3, page16 9], erasing := true, erased := 5 : Evr }).atT t16).evr.buf.length < 2048)
      ∧ (storeWf ((recd { log := [page16 3, page16 9] : Evr }).atT t16).regs.live = true ∧ commandable ((recd { log := [page16 3, page16 9] : Evr }).atT t16) Master.jtag Block.evr none ∧ ((recd { log := [page16 3, page16 9] : Evr }).atT t16).evr.erasing = false ∧ ((recd { log := [page16 3, page16 9] : Evr }).atT t16).logSectors ≠ 0 ∧ ((recd { log := [page16 3, page16 9] : Evr }).atT t16).evr.page = none)
      ∧ (storeWf ((recd { page := some [rec16 1] : Evr }).atT t16).regs.live = true ∧ commandable ((recd { page := some [rec16 1] : Evr }).atT t16) Master.jtag Block.evr none ∧ ((recd { page := some [rec16 1] : Evr }).atT t16).evr.erasing = false ∧ ((recd { page := some [rec16 1] : Evr }).atT t16).logSectors ≠ 0 ∧ ((recd { page := some [rec16 1] : Evr }).atT t16).evr.page ≠ none)
      ∧ (storeWf ((recd { erasing := true : Evr }).atT t16).regs.live = true ∧ commandable ((recd { erasing := true : Evr }).atT t16) Master.jtag Block.evr none ∧ ((recd { erasing := true : Evr }).atT t16).evr.erasing = true)) :=
  ⟨by decide +kernel, by decide +kernel⟩

/-- States and operands that meet the hypotheses of `UpdateSubopsAct`, a line for each clause; what a clause shares with one above stands there. -/
theorem meets_UpdateSubopsAct :
    ((mayAct ((updW (upd16 1 0 0 []) u0).atT t16) 3 40 (upd16 1 0 0 []) ∧ (upd16 1 0 0 []).args = KpArgs.update 1 0 0 ([] : List Byte).length [] ∧ updateServed ((updW (upd16 1 0 0 []) u0).atT t16) 1 ∧ 0 < 8388608)
      ∧ (mayAct ((updW (upd16 2 0 8 [5, 6]) { u0 with next := some 8 }).atT t16) 3 40 (upd16 2 0 8 [5, 6]) ∧ (upd16 2 0 8 [5, 6]).args = KpArgs.update 2 0 8 [5, 6].length [5, 6] ∧ updateServed ((updW (upd16 2 0 8 [5, 6]) { u0 with next := some 8 }).atT t16) 2 ∧ storeWf ((updW (upd16 2 0 8 [5, 6]) { u0 with next := some 8 }).atT t16).upd.flash = true ∧ ((updW (upd16 2 0 8 [5, 6]) { u0 with next := some 8 }).atT t16).upd.next = some 8 ∧ 8 + [5, 6].length ≤ 8388608 ∧ 1 < [5, 6].length)
      ∧ (mayAct ((updW (upd16 2 0 8 [5, 6]) { u0 with next := some 9 }).atT t16) 3 40 (upd16 2 0 8 [5, 6]) ∧ updateServed ((updW (upd16 2 0 8 [5, 6]) { u0 with next := some 9 }).atT t16) 2 ∧ ((updW (upd16 2 0 8 [5, 6]) { u0 with next := some 9 }).atT t16).upd.next ≠ some 8)
      ∧ (mayAct ((updW (upd16 3 0 8 []) { u0 with next := some 9 }).atT t16) 3 40 (upd16 3 0 8 []) ∧ (upd16 3 0 8 []).args = KpArgs.update 3 0 8 ([] : List Byte).length [] ∧ updateServed ((updW (upd16 3 0 8 []) { u0 with next := some 9 }).atT t16) 3)
      ∧ (mayAct ((updW (upd16 4 1 8 []) { u0 with verified := true }).atT t16) 3 40 (upd16 4 1 8 []) ∧ (upd16 4 1 8 []).args = KpArgs.update 4 1 8 ([] : List Byte).length [] ∧ updateServed ((updW (upd16 4 1 8 []) { u0 with verified := true }).atT t16) 4 ∧ ((updW (upd16 4 1 8 []) { u0 with verified := true }).atT t16).upd.verified = true ∧ ((updW (upd16 4 1 8 []) { u0 with verified := true }).atT t16).upd.boot.length = 2 ∧ 1 % 2 = 1))
    ∧ ((mayAct ((updW (upd16 4 1 8 []) { u0 with next := some 9 }).atT t16) 3 40 (upd16 4 1 8 []) ∧ updateServed ((updW (upd16 4 1 8 []) { u0 with next := some 9 }).atT t16) 4 ∧ ((updW (upd16 4 1 8 []) { u0 with next := some 9 }).atT t16).upd.verified = false)
      ∧ (mayAct ((updW (upd16 5 1 8 []) { u0 with flash := [(65548, 9)], boot := [{ trial := true, valid := true : BootCopy }, { : BootCopy }], runTrial := true }).atT t16) 3 40 (upd16 5 1 8 []) ∧ (upd16 5 1 8 []).args = KpArgs.update 5 1 8 ([] : List Byte).length [] ∧ updateServed ((updW (upd16 5 1 8 []) { u0 with flash := [(65548, 9)], boot := [{ trial := true, valid := true : BootCopy }, { : BootCopy }], runTrial := true }).atT t16) 5 ∧ ((updW (upd16 5 1 8 []) { u0 with flash := [(65548, 9)], boot := [{ trial := true, valid := true : BootCopy }, { : BootCopy }], runTrial := true }).atT t16).upd.runTrial = true ∧ ((updW (upd16 5 1 8 []) { u0 with flash := [(65548, 9)], boot := [{ trial := true, valid := true : BootCopy }, { : BootCopy }], runTrial := true }).atT t16).bootRecord.trial = true ∧ ((updW (upd16 5 1 8 []) { u0 with flash := [(65548, 9)], boot := [{ trial := true, valid := true : BootCopy }, { : BootCopy }], runTrial := true }).atT t16).bootRecord.active = ((updW (upd16 5 1 8 []) { u0 with flash := [(65548, 9)], boot := [{ trial := true, valid := true : BootCopy }, { : BootCopy }], runTrial := true }).atT t16).upd.runSlot ∧ ((updW (upd16 5 1 8 []) { u0 with flash := [(65548, 9)], boot := [{ trial := true, valid := true : BootCopy }, { : BootCopy }], runTrial := true }).atT t16).upd.boot.length = 2 ∧ ((updW (upd16 5 1 8 []) { u0 with flash := [(65548, 9)], boot := [{ trial := true, valid := true : BootCopy }, { : BootCopy }], runTrial := true }).atT t16).upd.otp.length = 64 ∧ ((updW (upd16 5 1 8 []) { u0 with flash := [(65548, 9)], boot := [{ trial := true, valid := true : BootCopy }, { : BootCopy }], runTrial := true }).atT t16).header ((updW (upd16 5 1 8 []) { u0 with flash := [(65548, 9)], boot := [{ trial := true, valid := true : BootCopy }, { : BootCopy }], runTrial := true }).atT t16).upd.runSlot 12 2 ≤ 128)
      ∧ (mayAct ((updW (upd16 5 1 8 []) u0).atT t16) 3 40 (upd16 5 1 8 []) ∧ updateServed ((updW (upd16 5 1 8 []) u0).atT t16) 5 ∧ (((updW (upd16 5 1 8 []) u0).atT t16).upd.runTrial = false ∨ ((updW (upd16 5 1 8 []) u0).atT t16).bootRecord.trial = false))
      ∧ (mayAct ((updW (upd16 6 1 8 []) u0).atT t16) 3 40 (upd16 6 1 8 []) ∧ (upd16 6 1 8 []).args = KpArgs.update 6 1 8 ([] : List Byte).length [] ∧ updateServed ((updW (upd16 6 1 8 []) u0).atT t16) 6 ∧ ((updW (upd16 6 1 8 []) u0).atT t16).upd.boot.length = 2)
      ∧ (mayAct ((updW (upd16 7 1 8 []) u0).atT t16) 3 40 (upd16 7 1 8 []) ∧ (upd16 7 1 8 []).args = KpArgs.update 7 1 8 ([] : List Byte).length [] ∧ updateServed ((updW (upd16 7 1 8 []) u0).atT t16) 7))
    ∧ ((mayAct ((updW (upd16 8 1 8 (List.replicate 32 7)) u0).atT t16) 3 40 (upd16 8 1 8 (List.replicate 32 7)) ∧ (upd16 8 1 8 (List.replicate 32 7)).args = KpArgs.update 8 1 8 (List.replicate 32 7).length (List.replicate 32 7) ∧ updateServed ((updW (upd16 8 1 8 (List.replicate 32 7)) u0).atT t16) 8)
      ∧ (mayAct ((updW (upd16 9 1 8 []) u0).atT t16) 3 40 (upd16 9 1 8 []) ∧ (upd16 9 1 8 []).args = KpArgs.update 9 1 8 ([] : List Byte).length [] ∧ updateServed ((updW (upd16 9 1 8 []) u0).atT t16) 9)
      ∧ (mayAct ((prW 1).atT t16) 3 40 (upd16 1 0 0 []) ∧ (upd16 1 0 0 []).args = KpArgs.update 1 0 0 0 [] ∧ ((prW 1).atT t16).chp.mode ≠ Mode.service ∧ ((prW 1).atT t16).chp.mode ≠ Mode.recovery)
      ∧ (mayAct ((slW 2).atT t16) 3 40 (upd16 2 0 0 []) ∧ (upd16 2 0 0 []).args = KpArgs.update 2 0 0 0 [] ∧ (((slW 2).atT t16).chp.mode = Mode.service ∨ ((slW 2).atT t16).chp.mode = Mode.recovery) ∧ ((slW 2).atT t16).pwr.sealOpen = false)) :=
  ⟨by decide +kernel, by decide +kernel, by decide +kernel⟩

/-- States and operands that meet the hypotheses of `ResetsKeepWhatTheyKeep`, a line for each clause; what a clause shares with one above stands there. -/
theorem meets_ResetsKeepWhatTheyKeep :
    (3 < 4
      ∧ ((held17 (some 5) none).atT t17).pwr.resetNHigh = none
      ∧ ((worn.atT t17).pwr.clockResetAt = some 6 ∧ 6 ≤ (worn.atT t17).now)
      ∧ ((worn.atT t17).upd.resetAt = some 9 ∧ 9 ≤ (worn.atT t17).now)
      ∧ (((held17 (some 5) (some 6)).atT t17).pwr.inReset = true ∧ ((held17 (some 5) (some 6)).atT t17).pwr.aonUp = true ∧ ((held17 (some 5) (some 6)).atT t17).pwr.testen = false ∧ ((held17 (some 5) (some 6)).atT t17).pwr.railsSince = some 5 ∧ 5 + ms ≤ ((held17 (some 5) (some 6)).atT t17).now ∧ ((held17 (some 5) (some 6)).atT t17).pwr.resetNHigh = some 6 ∧ 6 + ms ≤ ((held17 (some 5) (some 6)).atT t17).now)
      ∧ (Option.all (fun a => decide (a + ms ≤ ((held17 (some 5) none).atT t17).now)) ((held17 (some 5) none).atT t17).pwr.railsSince = false ∨ ((held17 (some 5) none).atT t17).pwr.resetNHigh = none)
      ∧ ((guarded.atT t17).pwr.clocks.getD 0 false = true ∧ (guarded.atT t17).gda.stopped = false ∧ (guarded.atT t17).gdb.stopped = false ∧ (guarded.atT t17).gdb.state = GuardState.armed ∧ (guarded.atT t17).pwr.clockResetAt = none)
      ∧ ((guarded.atT t17).pwr.clocks.getD 1 false = true ∧ (guarded.atT t17).gda.state = GuardState.armed)
      ∧ ((worn.atT t17).pwr.clocks.getD 2 false = true ∧ (worn.atT t17).eth.macs.length = 4))
    ∧ ((1 < 3 ∧ 1 ≠ 0 ∧ ({ worn with pwr := { svc.pwr with clocks := [true, false, true] } }.atT t17).pwr.clocks.length = 3 ∧ ({ worn with pwr := { svc.pwr with clocks := [true, false, true] } }.atT t17).pwr.clocks.getD 1 true = false ∧ ({ worn with pwr := { svc.pwr with clocks := [true, false, true] } }.atT t17).pwr.lostAt.getD 1 0 + ms ≤ ({ worn with pwr := { svc.pwr with clocks := [true, false, true] } }.atT t17).now)
      ∧ (guarded.atT t17).pwr.fallback = false
      ∧ ((guarded.atT t17).pwr.pfailLow = false ∧ (guarded.atT t17).psq.state = TabState.idle ∧ (guarded.atT t17).evr.buf.length < 2000)) :=
  ⟨by decide +kernel, by decide +kernel⟩

/-- States and operands that meet the hypotheses of `BootAndPrepRunTheirSteps`, a line for each clause; what a clause shares with one above stands there. -/
theorem meets_BootAndPrepRunTheirSteps :
    ((((booting { valid := true : BootCopy } 0).atT t17).pwr.inReset = false ∧ ((booting { valid := true : BootCopy } 0).atT t17).chp.mode = Mode.boot ∧ ((booting { valid := true : BootCopy } 0).atT t17).mgc.bootsel = 0 ∧ ((booting { valid := true : BootCopy } 0).atT t17).bootRecord.trial = false ∧ ((booting { valid := true : BootCopy } 0).atT t17).bootRecord.active ≤ 1 ∧ ((booting { valid := true : BootCopy } 0).atT t17).pwr.pfailLow = false ∧ ((booting { valid := true : BootCopy } 0).atT t17).upd.boot.length = 2)
      ∧ (((booting { trial := true, tries := 2, valid := true : BootCopy } 0).atT t17).pwr.inReset = false ∧ ((booting { trial := true, tries := 2, valid := true : BootCopy } 0).atT t17).chp.mode = Mode.boot ∧ ((booting { trial := true, tries := 2, valid := true : BootCopy } 0).atT t17).mgc.bootsel = 0 ∧ ((booting { trial := true, tries := 2, valid := true : BootCopy } 0).atT t17).bootRecord.trial = true ∧ ((booting { trial := true, tries := 2, valid := true : BootCopy } 0).atT t17).bootRecord.tries < 3 ∧ ((booting { trial := true, tries := 2, valid := true : BootCopy } 0).atT t17).pwr.pfailLow = false ∧ ((booting { trial := true, tries := 2, valid := true : BootCopy } 0).atT t17).upd.boot.length = 2)
      ∧ (((booting { trial := true, tries := 3, valid := true : BootCopy } 0).atT t17).pwr.inReset = false ∧ ((booting { trial := true, tries := 3, valid := true : BootCopy } 0).atT t17).chp.mode = Mode.boot ∧ ((booting { trial := true, tries := 3, valid := true : BootCopy } 0).atT t17).mgc.bootsel = 0 ∧ ((booting { trial := true, tries := 3, valid := true : BootCopy } 0).atT t17).bootRecord.trial = true ∧ ((booting { trial := true, tries := 3, valid := true : BootCopy } 0).atT t17).bootRecord.tries = 3 ∧ ((booting { trial := true, tries := 3, valid := true : BootCopy } 0).atT t17).bootRecord.active ≤ 1 ∧ ((booting { trial := true, tries := 3, valid := true : BootCopy } 0).atT t17).pwr.pfailLow = false ∧ ((booting { trial := true, tries := 3, valid := true : BootCopy } 0).atT t17).upd.boot.length = 2))
    ∧ ((((booting { trial := true, tries := 3, valid := true : BootCopy } 3).atT t17).pwr.inReset = false ∧ ((booting { trial := true, tries := 3, valid := true : BootCopy } 3).atT t17).chp.mode = Mode.boot ∧ ((booting { trial := true, tries := 3, valid := true : BootCopy } 3).atT t17).mgc.bootsel = 3)
      ∧ (((prepAt17 0).atT t17).chp.mode = Mode.prep ∧ ((prepAt17 0).atT t17).pwr.prepPassed = 0 ∧ ((prepAt17 0).atT t17).pwr.clocks = [true, true, true])
      ∧ (({ prepAt17 0 with pwr := { (prepAt17 0).pwr with clocks := [false, true, true] } }.atT t17).chp.mode = Mode.prep ∧ ({ prepAt17 0 with pwr := { (prepAt17 0).pwr with clocks := [false, true, true] } }.atT t17).pwr.prepPassed = 0 ∧ ({ prepAt17 0 with pwr := { (prepAt17 0).pwr with clocks := [false, true, true] } }.atT t17).pwr.clocks.getD 0 true = false)
      ∧ (((prepAt17 1).atT t17).chp.mode = Mode.prep ∧ ((prepAt17 1).atT t17).pwr.prepPassed = 1)
      ∧ (((prepAt17 6).atT t17).chp.mode = Mode.prep ∧ ((prepAt17 6).atT t17).pwr.prepPassed = 6)
      ∧ (((prepAt17 7).atT t17).chp.mode = Mode.prep ∧ ((prepAt17 7).atT t17).pwr.prepPassed = 7 ∧ ((prepAt17 7).atT t17).mgc.runs = MorsenRun.firmware ∧ ((prepAt17 7).atT t17).pwr.bootTuned = false ∧ ((prepAt17 7).atT t17).chp.stage ≠ StageState.checking)
      ∧ ((svc.atT t17).chp.mode ≠ Mode.prep ∨ (svc.atT t17).pwr.bootTuned = true))
    ∧ ((((booted BootAct.checking prepDone).atT t17).pwr.bootAct = BootAct.checking ∧ ((booted BootAct.checking prepDone).atT t17).chp.stage = StageState.checked ∧ ((booted BootAct.checking prepDone).atT t17).chp.mode = Mode.prep ∧ ((booted BootAct.checking prepDone).atT t17).pwr.tuning.autoService = true ∧ ((booted BootAct.checking prepDone).atT t17).prepComplete = true ∧ ((booted BootAct.checking prepDone).atT t17).isolatedAt Block.chp none = false ∧ ((booted BootAct.checking prepDone).atT t17).pwr.tuning.autoLight = true ∧ ((booted BootAct.checking prepDone).atT t17).chp.retuneDue = none)
      ∧ (((booted BootAct.checking { prepDone with chp := { prepDone.chp with stage := StageState.failed } }).atT t17).pwr.bootAct = BootAct.checking ∧ ((booted BootAct.checking { prepDone with chp := { prepDone.chp with stage := StageState.failed } }).atT t17).chp.stage = StageState.failed)
      ∧ (((booted BootAct.light restartable).atT t17).pwr.bootAct = BootAct.light ∧ ((booted BootAct.light restartable).atT t17).chp.mode = Mode.service ∧ ((booted BootAct.light restartable).atT t17).restartHolds = true ∧ ((booted BootAct.light restartable).atT t17).pwr.tuning.autoStart = true ∧ ((booted BootAct.light restartable).atT t17).guards.attemptAt = none ∧ ((booted BootAct.light restartable).atT t17).guards.lastAttempt ≠ some ((booted BootAct.light restartable).atT t17).now ∧ ((booted BootAct.light restartable).atT t17).isolatedAt Block.gdb none = false ∧ ((booted BootAct.light restartable).atT t17).chp.retuneDue = none)
      ∧ (((booted BootAct.light svc).atT 5000).pwr.bootAct = BootAct.light ∧ ((booted BootAct.light svc).atT 5000).chp.mode = Mode.service ∧ ((booted BootAct.light svc).atT 5000).restartHolds = false ∧ ((booted BootAct.light svc).atT 5000).now < ((booted BootAct.light svc).atT 5000).pwr.serviceAt + 10 * sec))
    ∧ ((((booted BootAct.start svc).atT t17).pwr.bootAct = BootAct.start ∧ ((booted BootAct.start svc).atT t17).chp.mode = Mode.service ∧ (((booted BootAct.start svc).atT t17).gda.state ≠ GuardState.armed ∨ ((booted BootAct.start svc).atT t17).gdb.state ≠ GuardState.armed))
      ∧ (((booted BootAct.start guarded).atT t17).pwr.bootAct = BootAct.start ∧ ((booted BootAct.start guarded).atT t17).chp.mode = Mode.service ∧ ((booted BootAct.start guarded).atT t17).gda.state = GuardState.armed ∧ ((booted BootAct.start guarded).atT t17).gdb.state = GuardState.armed ∧ ((booted BootAct.start guarded).atT t17).psq.state = TabState.idle ∧ ((booted BootAct.start guarded).atT t17).isolatedAt Block.psq none = false ∧ ((booted BootAct.start guarded).atT t17).chp.safe = false ∧ ((booted BootAct.start guarded).atT t17).chp.retuneDue = none)) :=
  ⟨by decide +kernel, by decide +kernel, by decide +kernel, by decide +kernel⟩

/-- States and operands that meet the hypotheses of `AfterResetBothBanksHoldTheirResetValues`, a line for each clause; what a clause shares with one above stands there. -/
theorem meets_AfterResetBothBanksHoldTheirResetValues :
    (((worn.atT t18).pwr.clockResetAt = some 6 ∧ 6 ≤ (worn.atT t18).now)
      ∧ ((worn.atT t18).upd.resetAt = some 9 ∧ 9 ≤ (worn.atT t18).now)) :=
  by decide +kernel

/-- States and operands that meet the hypotheses of `RefusedAndMissedStageAccessesAreCounted`, a line for each clause; what a clause shares with one above stands there. -/
theorem meets_RefusedAndMissedStageAccessesAreCounted :
    ((storeWf (atBus frozen t18).regs.live = true ∧ (rowX 1048592).tuned = true ∧ (RegRow.maskOf (rowX 1048592) fun f => f.acc == Acc.t) ≠ 0 ∧ (atBus frozen t18).mayPriv Master.morsen = true ∧ ((atBus frozen t18).maySeal Master.morsen = true ∨ ((rowX 1048592).fields.all fun f => !f.sealed) = true) ∧ (atBus frozen t18).stageRefusal = some 7)
      ∧ (placeOf 16777220 = some (Place.mem 1 4 false) ∧ (atBus frozen t18).placeGone (Place.mem 1 4 false) true = false ∧ (1 ≠ 3 ∨ (atBus frozen t18).maySeal Master.morsen = true))
      ∧ (storeWf (atBus svc t18).regs.live = true ∧ (rowX 20).tuned = false)
      ∧ (placeOf 8401024 = some (Place.shadow 128 Block.chp 0 true) ∧ (atBus svc t18).isolated Block.chp = false ∧ (atBus svc t18).jtagShut Master.morsen = false))
    ∧ reaches (atBus frozen t18) Master.morsen 1048592 (rowX 1048592) 1048592 0 false true
    ∧ reaches (atBus svc t18) Master.morsen 8388628 (rowX 20) 20 0 true false
    ∧ reaches (atBus svc t18) Master.morsen 8388628 (rowX 20) 20 0 true true :=
  ⟨by decide +kernel, ⟨_, rfl, by decide +kernel, by decide +kernel⟩, ⟨_, rfl, by decide +kernel, by decide +kernel⟩, ⟨_, rfl, by decide +kernel, by decide +kernel⟩⟩

/-! ### Operands that name nothing -/

/-- Operands beyond their field or their unit: each command is refused as ill-formed (1). -/
theorem test_unfit_1 : (
    [ .registerWrite (.session 128) 0 0 0, .registerWrite .jtag (2 ^ 32) 0 0, .bridgeTimeout (.session 128) 0 0,
      .bridgeTimeout .jtag (2 ^ 32) 0, .setWrite (.session 128) 0 0 0, .setWrite .jtag (2 ^ 32) 0 0,
      .clearWrite (.session 128) 0 0 0, .clearWrite .jtag (2 ^ 32) 0 0, .toggleWrite (.session 128) 0 0 0,
      .toggleWrite .jtag (2 ^ 32) 0 0, .statusClearWrite (.session 128) 0 0 0, .statusClearWrite .jtag (2 ^ 32) 0 0,
      .lowWordRead (.session 128) 0 0, .lowWordRead .jtag (2 ^ 32) 0, .lowWordWrite (.session 128) 0 0 0,
      .lowWordWrite .jtag (2 ^ 32) 0 0, .highWordRead (.session 128) 0 0, .highWordRead .jtag (2 ^ 32) 0,
      .highWordWrite (.session 128) 0 0 0, .highWordWrite .jtag (2 ^ 32) 0 0, .stageWrite (.session 128) 0 0 0,
      .stageWrite .jtag (2 ^ 32) 0 0, .cellErrorDetected .crx (some 4) 0 0 none 0, .cellErrorDetected .crx none 256 0 none 0,
      .blockFault .crx (some 4) 0 0 0, .blockFault .crx none 256 0 0, .blockRestartReady .crx (some 4) 0,
      .restartFailed .crx (some 4) 0, .modeRequest (.session 128) 0 0, .modeRequest .jtag 8 0, .injectGo (.session 128) 0 0,
      .injectGo .jtag (2 ^ 16) 0, .snapshotRequest (.session 128) 0, .snapshotRelease (.session 128) 0 0, .chk (.session 128) 0,
      .applyNext (.session 128) 0, .applyAt (.session 128) 0, .cancel (.session 128) 0, .discard (.session 128) 0,
      .start (.session 128) 0 ] : List Instr).all (fun i => !i.wellFormed) = true := by decide +kernel

/-- Operands beyond their field or their unit: each command is refused as ill-formed (2). -/
theorem test_unfit_2 : (
    [ .haltSweep (.session 128) 0, .haltNow (.session 128) 0, .tabWait (2 ^ 20), .tabWaitu (2 ^ 20), .tabFire 8 0 0,
      .tabFire 0 16 0, .tabFire 0 0 8, .tabGate 8 0, .tabGate 0 (2 ^ 16), .tabRaman 8, .tabSwb 16, .tabSetc 4 0,
      .tabSetc 0 (2 ^ 16), .tabDjnz 4 0, .tabDjnz 0 4096, .tabJmp 4096, .tabEvt 256, .probeEmissionEnd 8 0, .lookWindowEnd 8 0,
      .pluckGo (.session 128) 0 0 0 0, .pluckGo .jtag 8 0 0 0, .pluckGo .jtag 0 16 0 0, .pluckGo .jtag 0 0 256 0,
      .carrierPeriodStart 5 0 0, .ilimTrip 5 0 0, .diagSample 5 0 0, .proofWindowEnd 5 0, .clr (.session 128) 0 0,
      .clr .jtag 5 0, .occLiveWrite (.session 128) 0 0 0, .occLiveWrite .jtag 16 0 0, .gainBinStart 4096 0,
      .overloadStepDown 4 0, .calBlockEnd 4 0 0 [] [] [] 0, .calFactorWrite (.session 128) 0 0 0,
      .calFactorWrite .jtag (2 ^ 32) 0 0, .skewCal (.session 128) 0, .slotLaneSample 0 8 0 false 0 0 0 0 false false 0,
      .pcmLookCompress 0 8 false [] 0, .phsPositionSample 0 8 0 false 0 ] : List Instr).all (fun i => !i.wellFormed) = true := by decide +kernel

/-- Operands beyond their field or their unit: each command is refused as ill-formed (3). -/
theorem test_unfit_3 : (
    [ .frameReady 32 0, .tileWritten 32 [] 0, .runStart 32 0, .aarNop 32 0 0, .aarDone 32 0 0, .aarJmp 32 0 0, .aarBr 32 0 0,
      .aarLoop 32 0 0, .aarSli 32 0 0, .aarSadd 32 0 0, .aarSsub 32 0 0, .aarSmul 32 0 0, .aarSmulq 32 0 0, .aarSshl 32 0 0,
      .aarSshr 32 0 0, .aarSand 32 0 0, .aarSor 32 0 0, .aarSmin 32 0 0, .aarSmax 32 0 0, .aarSld 32 0 0, .aarSst 32 0 0,
      .aarSrd 32 0 0, .aarVld 32 0 0, .aarVst 32 0 0, .aarVmul 32 0 0, .aarVcmul 32 0 0, .aarVadd 32 0 0, .aarVsub 32 0 0,
      .aarVmac 32 0 0, .aarVmacc 32 0 0, .aarAclr 32 0 0, .aarAmov 32 0 0, .aarFout 32 0 0, .aarBwin 32 0 0, .aarBfft 32 0 0,
      .aarBrfft 32 0 0, .aarBpwr 32 0 0, .aarBsum 32 0 0, .aarBmax 32 0 0, .aarBmin 32 0 0 ] : List Instr).all (fun i => !i.wellFormed) = true := by decide +kernel

/-- Operands beyond their field or their unit: each command is refused as ill-formed (4). -/
theorem test_unfit_4 : (
    [ .aarBstat 32 0 0, .aarBmov 32 0 0, .frameOverrun 32 0, .coreSwitch 32 0, .constCopyDone 32 0, .constReloadDone 32 0,
      .reloadFail 32 0, .zoneTimerExpire 256 0 0, .zoneTimerExpire 0 4 0, .armOn (.session 128) 0, .armOff (.session 128) 0,
      .muFire (.session 128) 0, .calFire (.session 128) 0, .trip (.session 128) .a 0, .selftest (.session 128) .a 0,
      .learn (.session 128) .a 0, .learnAbort (.session 128) .a 0, .restart (.session 128) 0, .rowHandover 64 0,
      .captureAbort (.session 128) 0 0 0, .captureAbort .jtag 64 0 0, .captureAbort .jtag 0 (2 ^ 24) 0,
      .captureRelease (.session 128) 0 0 0, .captureRelease .jtag 64 0 0, .captureRelease .jtag 0 (2 ^ 24) 0,
      .cmpFlushTimeout 64 0, .cvuStart (.session 128) 0 0, .cvuStart .jtag 8 0, .cvuFinish (.session 128) 0 0,
      .cvuFinish .jtag 8 0, .cvuReset (.session 128) 0 0, .cvuReset .jtag 8 0, .feed (.session 128) 0 0 0, .feed .jtag 8 0 0,
      .runWrite (.session 128) 0 0 0, .runWrite .jtag 8 0 0, .cvuDramDone 8 0, .dramRequest 0 (2 ^ 32) none 0,
      .dramReadReturn 4 0 0, .dramReadReturn 0 3 0 ] : List Instr).all (fun i => !i.wellFormed) = true := by decide +kernel

/-- Operands beyond their field or their unit: each command is refused as ill-formed (5). -/
theorem test_unfit_5 : (
    [ .refreshInterval 4 0 0, .refreshInterval 0 2 0, .mr4Result 4 0 0 false 0, .mr4Result 0 2 0 false 0,
      .mr4Result 0 0 8 false 0, .refreshComplete 4 0 0, .refreshComplete 0 2 0, .rhWindowEnd 4 0 0, .rhWindowEnd 0 2 0,
      .powerDownEntry 4 0 0, .powerDownEntry 0 2 0, .selfRefreshEntry 4 0, .scrubRead 3 0, .train (.session 128) 0,
      .trainDone 4 0 0, .retrain 4 0 0 false 0, .retrain 0 2 0 false 0, .zqCalibration 4 0 0, .zqCalibration 0 2 0,
      .refInj (.session 128) 0, .refCal (.session 128) 0, .refFactorWrite (.session 128) 0 0 0,
      .refFactorWrite .jtag (2 ^ 32) 0 0, .complianceOpen 12 false 0, .tachEdge 4 false 0, .tiuOverflow 4 0, .rateTimeout 4 0,
      .tiuArm (.session 128) 0 0, .tiuArm .jtag 4 0, .tiuDisarm (.session 128) 0 0, .tiuDisarm .jtag 4 0,
      .frameReceive 4 (frameOf .own .other) 0, .macDown 4 false 0, .macUp 4 false [] 0, .tsPop (.session 128) 0 0,
      .tsPop .jtag 4 0, .plDetectProbe 4 false 0, .plTrainingFrame 4 0 0 false 0, .plCodeword 4 false false 0 0 0 0,
      .plLaneLost 4 0 ] : List Instr).all (fun i => !i.wellFormed) = true := by decide +kernel

/-- Operands beyond their field or their unit: each command is refused as ill-formed (6). -/
theorem test_unfit_6 : (
    [ .plSleep (.session 128) 0, .plWake (.session 128) 0, .kpOpen { path1 with mac := 5 } (packet 0 []) 0,
      .kpCommand { path1 with mac := 5 } (packet 0 []) 0, .kpAck { path1 with mac := 5 } (packet 0 []) 0,
      .kpClose { path1 with mac := 5 } (packet 0 []) 0, .kpClaim { path1 with mac := 5 } (packet 0 []) 0, .kpNop 128 0 0,
      .kpNop 0 (2 ^ 16) 0, .regRead 128 0 0, .regRead 0 (2 ^ 16) 0, .regWrite 128 0 0, .regWrite 0 (2 ^ 16) 0, .memRead 128 0 0,
      .memRead 0 (2 ^ 16) 0, .memWrite 128 0 0, .memWrite 0 (2 ^ 16) 0, .kpLoad 128 0 0, .kpLoad 0 (2 ^ 16) 0,
      .subscribe 128 0 0, .subscribe 0 (2 ^ 16) 0, .unsubscribe 128 0 0, .unsubscribe 0 (2 ^ 16) 0, .kpFlush 128 0 0,
      .kpFlush 0 (2 ^ 16) 0, .capArm 128 0 0, .capArm 0 (2 ^ 16) 0, .capRead 128 0 0, .capRead 0 (2 ^ 16) 0, .capAbort 128 0 0,
      .capAbort 0 (2 ^ 16) 0, .capRelease 128 0 0, .capRelease 0 (2 ^ 16) 0, .ringRead 128 0 0, .ringRead 0 (2 ^ 16) 0,
      .logRead 128 0 0, .logRead 0 (2 ^ 16) 0, .kpMode 128 0 0, .kpMode 0 (2 ^ 16) 0, .kpAbort 128 0 0 ] : List Instr).all (fun i => !i.wellFormed) = true := by decide +kernel

/-- Operands beyond their field or their unit: each command is refused as ill-formed (7). -/
theorem test_unfit_7 : (
    [ .kpAbort 0 (2 ^ 16) 0, .updBegin 128 0 false 0, .updBegin 0 (2 ^ 16) false 0, .updWrite 128 0 false 0,
      .updWrite 0 (2 ^ 16) false 0, .updVerify 128 0 0, .updVerify 0 (2 ^ 16) 0, .updActivate 128 0 0, .updActivate 0 (2 ^ 16) 0,
      .updCommit 128 0 0, .updCommit 0 (2 ^ 16) 0, .updRevert 128 0 0, .updRevert 0 (2 ^ 16) 0, .updStatus 128 0 0,
      .updStatus 0 (2 ^ 16) 0, .updAttest 128 0 0, .updAttest 0 (2 ^ 16) 0, .updLogSign 128 0 0, .updLogSign 0 (2 ^ 16) 0,
      .commandComplete 128 0 0, .commandComplete 0 (2 ^ 16) 0, .controlPacketSend 128 0, .rtoExpiry 128 0,
      .keepaliveExpiry 128 0, .streamPacketForm 512 false 0, .streamFillTimeout 512 false 0, .streamPacketDrop 512 0,
      .kick (.session 128) 0 0, .snsConversion (List.replicate 7 0) (List.replicate 12 0) 0,
      .snsConversion (List.replicate 8 0) (List.replicate 13 0) 0, .railFault 12 0, .timSet (.session 128) 0 false 0,
      .evrErase (.session 128) 0, .otpProgram (.session 128) 0 0, .refClockLost 3 0, .refClockPresent 3 0, .ptpFrameSend 4 0 0 0 ] : List Instr).all (fun i => !i.wellFormed) = true := by decide +kernel

/-- Operands 0, or none: each command is well formed (1). -/
theorem test_fit_1 : (
    [ .registerWrite .jtag 0 0 0, .bridgeTimeout .jtag 0 0, .setWrite .jtag 0 0 0, .clearWrite .jtag 0 0 0,
      .toggleWrite .jtag 0 0 0, .statusClearWrite .jtag 0 0 0, .lowWordRead .jtag 0 0, .lowWordWrite .jtag 0 0 0,
      .highWordRead .jtag 0 0, .highWordWrite .jtag 0 0 0, .stageWrite .jtag 0 0 0, .cellErrorDetected .crx none 0 0 none 0,
      .blockFault .crx none 0 0 0, .blockRestartReady .crx none 0, .restartFailed .crx none 0, .safeClear 0, .safeTimeout 0,
      .watchdogExpiry 0, .modeRequest .jtag 0 0, .injectGo .jtag 0 0, .injectionTaken none 0, .snapshotRequest .jtag 0,
      .snapshotPeriod 0, .snapshotTake 0, .snapshotComplete 0, .snapTimeout 0, .snapshotRelease .jtag 0 0, .snapshotHoldExpiry 0,
      .chk .jtag 0, .checkComplete 0, .occPreload 0, .applyNext .jtag 0, .applyAt .jtag 0, .cancel .jtag 0, .discard .jtag 0,
      .retuneApply 0, .applySkew 0, .copybackDone 0, .stageCopyFault 0, .start .jtag 0, .haltSweep .jtag 0, .haltNow .jtag 0,
      .tabNop, .tabWait 0, .tabWaitu 0, .tabFire 0 0 0, .tabGate 0 0, .tabRaman 0, .tabSwb 0, .tabSetc 0 0, .tabDjnz 0 0,
      .tabJmp 0, .tabEvt 0, .tabHalt, .haltWaitPeriod 0, .undefFetch, .sweepBoundary 0, .syncInEdge 0, .syncMiss 0,
      .probeEmissionEnd 0 0, .tabGateClose 0, .lookWindowEnd 0 0, .pluckGo .jtag 0 0 0 0, .pluckFire 0, .pluckDone 0,
      .carrierPeriodStart 0 0 0, .ilimTrip 0 0 0, .diagSample 0 0 0, .proofWindowEnd 0 0, .clr .jtag 0 0,
      .occLiveWrite .jtag 0 0 0, .occRefresh 0, .occFrameComplete false [] 0, .occLatch 0, .gainBinStart 0 0,
      .overloadStepDown 0 0, .gainStepUp [] 0, .calBlockEnd 0 0 0 [] [] [] 0, .calFactorWrite .jtag 0 0 0, .skewCal .jtag 0 ] : List Instr).all Instr.wellFormed = true := by decide +kernel

/-- Operands 0, or none: each command is well formed (2). -/
theorem test_fit_2 : (
    [ .skewCalDone false [] 0, .pilotBlockEnd 0 [] 0, .slotLaneSample 0 0 0 false 0 0 0 0 false false 0,
      .pcmLookCompress 0 0 false [] 0, .blockLate 0, .phsPositionSample 0 0 0 false 0, .pflLookInput 0, .medianFlush 0,
      .ramanSweepAccumulate 0 [] [] [] [] false 0, .dtsBlockClose 0, .unloadLate 0, .profileComplete 0, .frameReady 0 0,
      .tileWritten 0 [] 0, .runStart 0 0, .aarNop 0 0 0, .aarDone 0 0 0, .aarJmp 0 0 0, .aarBr 0 0 0, .aarLoop 0 0 0,
      .aarSli 0 0 0, .aarSadd 0 0 0, .aarSsub 0 0 0, .aarSmul 0 0 0, .aarSmulq 0 0 0, .aarSshl 0 0 0, .aarSshr 0 0 0,
      .aarSand 0 0 0, .aarSor 0 0 0, .aarSmin 0 0 0, .aarSmax 0 0 0, .aarSld 0 0 0, .aarSst 0 0 0, .aarSrd 0 0 0, .aarVld 0 0 0,
      .aarVst 0 0 0, .aarVmul 0 0 0, .aarVcmul 0 0 0, .aarVadd 0 0 0, .aarVsub 0 0 0, .aarVmac 0 0 0, .aarVmacc 0 0 0,
      .aarAclr 0 0 0, .aarAmov 0 0 0, .aarFout 0 0 0, .aarBwin 0 0 0, .aarBfft 0 0 0, .aarBrfft 0 0 0, .aarBpwr 0 0 0,
      .aarBsum 0 0 0, .aarBmax 0 0 0, .aarBmin 0 0 0, .aarBstat 0 0 0, .aarBmov 0 0 0, .frameOverrun 0 0, .coreSwitch 0 0,
      .constCopyDone 0 0, .constReloadDone 0 0, .reloadFail 0 0, .featureRecordArrival 0, .zoneStep 0, .idleStep 0,
      .zoneTimerExpire 0 0 0, .eventEnqueue 0, .armOn .jtag 0, .armOff .jtag 0, .muFire .jtag 0, .calFire .jtag 0,
      .firePulseEnd 0, .fireEdge false false 0, .fireEdgeAccept 0, .armBusChange false 0, .armForeign 0, .fireStuck 0,
      .powerBin [] 0, .montxSample 0 0, .monrxSample 0 false 0, .intlkChange false 0, .intlkTrip 0, .intlkClosed 0 ] : List Instr).all Instr.wellFormed = true := by decide +kernel

/-- Operands 0, or none: each command is well formed (3). -/
theorem test_fit_3 : (
    [ .peerStatus .a 0, .peerLost .a 0, .enableClockStop .a 0, .trip .jtag .a 0, .selftest .jtag .a 0, .selftestDone .a false 0,
      .learn .jtag .a 0, .learnComplete .a 0, .learnAbort .jtag .a 0, .restart .jtag 0, .timedRestart 0, .restartPluck 0,
      .restartPluckWindowEnd 0, .rowCommit 0, .captureRequest 0, .rowHandover 0 0, .captureAbort .jtag 0 0 0,
      .captureRelease .jtag 0 0 0, .cmpFlushTimeout 0 0, .cmpBlockRelease false 0, .cvuStart .jtag 0 0, .cvuFinish .jtag 0 0,
      .cvuReset .jtag 0 0, .feed .jtag 0 0 0, .runWrite .jtag 0 0 0, .cvuDramDone 0 0, .dramRequest 0 0 none 0,
      .dramReadReturn 0 0 0, .requestAge 0, .rowIdleClose 0, .refreshInterval 0 0 0, .mr4Poll 0, .mr4Result 0 0 0 false 0,
      .refreshComplete 0 0 0, .rhWindowEnd 0 0 0, .powerDownEntry 0 0 0, .selfRefreshEntry 0 0, .scrubRead 0 0, .train .jtag 0,
      .trainDone 0 0 0, .retrain 0 0 0 false 0, .zqCalibration 0 0 0, .sequenceCycleStart 0, .conversionEnd 0 0 0 0,
      .refInj .jtag 0, .injTrigger 0, .refCal .jtag 0, .refCalPeriod 0, .refCalDone [] [] [] 0, .refFactorWrite .jtag 0 0 0,
      .complianceOpen 0 false 0, .tachEdge 0 false 0, .tiuOverflow 0 0, .rateTimeout 0 0, .tiuArm .jtag 0 0,
      .tiuDisarm .jtag 0 0, .frameReceive 0 (frameOf .own .other) 0, .macDown 0 false 0, .macUp 0 false [] 0, .tsPop .jtag 0 0,
      .plDetectProbe 0 false 0, .plTrainStart 0, .plTrainingFrame 0 0 0 false 0, .plTrainTimeout 0,
      .plCodeword 0 false false 0 0 0 0, .plLockTimeout 0, .plCapsSend 0, .plCapsTimeout 0, .plDownHoldEnd 0, .plFlitSend 0,
      .plFlitReceive (flit 0 0 0 0 []) 0, .plReplayTimeout 0, .plLaneLost 0 0, .plWidthRestore 0, .plQuietEntry 0,
      .plSleep .jtag 0, .plWake .jtag 0, .plWakeDetect 0, .kpOpen path1 (packet 0 []) 0, .kpCommand path1 (packet 0 []) 0 ] : List Instr).all Instr.wellFormed = true := by decide +kernel

/-- Operands 0, or none: each command is well formed (4). -/
theorem test_fit_4 : (
    [ .kpAck path1 (packet 0 []) 0, .kpClose path1 (packet 0 []) 0, .kpClaim path1 (packet 0 []) 0, .press false 0,
      .claimTimeout 0, .kpNop 0 0 0, .regRead 0 0 0, .regWrite 0 0 0, .memRead 0 0 0, .memWrite 0 0 0, .kpLoad 0 0 0,
      .subscribe 0 0 0, .unsubscribe 0 0 0, .kpFlush 0 0 0, .capArm 0 0 0, .capRead 0 0 0, .capAbort 0 0 0, .capRelease 0 0 0,
      .ringRead 0 0 0, .logRead 0 0 0, .kpMode 0 0 0, .kpAbort 0 0 0, .updBegin 0 0 false 0, .updWrite 0 0 false 0,
      .updVerify 0 0 0, .updActivate 0 0 0, .updCommit 0 0 0, .updRevert 0 0 0, .updStatus 0 0 0, .updAttest 0 0 0,
      .updLogSign 0 0 0, .updateReset 0, .commandComplete 0 0 0, .controlPacketSend 0 0, .rtoExpiry 0 0, .keepaliveExpiry 0 0,
      .streamPacketForm 0 false 0, .streamFillTimeout 0 false 0, .streamPacketDrop 0 0, .kick .jtag 0 0,
      .snsConversion (List.replicate 8 0) (List.replicate 12 0) 0, .railFault 0 0, .timSet .jtag 0 false 0, .timeStep 0,
      .ptpSync 0 0, .ppsEdge 0, .ptpHoldover 0, .rateLimitSecond 0, .flushTimeout 0, .pageProgrammed 0 0, .evrErase .jtag 0,
      .logErased 0, .otpProgram .jtag 0 0, .powerOn 0, .pinReset false 0, .jtagReset 0, .railReset 0, .refClockLost 0 0,
      .refClockPresent 0 0, .clockReset 0, .crystalFail 0, .resetRelease false 0 0, .bootComplete 0, .prepSteps false 0,
      .bootTuning [] [] false false false 0, .autoService 0, .autoLight 0, .autoStart 0, .pfailLow 0, .pfailRise 0,
      .fireBusRelease 0, .pluckGateClose 0, .timeSlewEnd 0, .sectorEraseDone false 0, .ptpFrameSend 0 0 0 0, .powerDown false 0,
      .sealNChange false 0 ] : List Instr).all Instr.wellFormed = true := by decide +kernel

/-! ### Statements whose hypotheses are about an access, a queue or a length alone -/

/-- An observer's session writes a CHP register: the hypotheses of `OpenMastersChangeNothing`. -/
theorem meets_OpenMastersChangeNothing :
    storeWf (atBus svc 7).regs.live = true ∧ (atBus svc 7).mayPriv (.session 3) = false
    ∧ ∀ r a b fl st, placeOf 0x14 = some (.reg r a b fl st) → openTo (.session 3) a = false := by
  refine ⟨by decide +kernel, by decide +kernel, fun r a b fl st h => ?_⟩
  have h1 : (placeOf 0x14).all (fun p => match p with
    | .reg _ a _ _ _ => !openTo (.session 3) a
    | _ => true) = true := by decide +kernel
  rw [h] at h1
  simpa using h1

/-- A write to a sealed limit while SEAL_N is low: the hypotheses of `SealedFieldsKeepTheirValue`. -/
theorem meets_SealedFieldsKeepTheirValue :
    (atBus svc 7).maySeal .jtag = false ∧ storeWf (atBus svc 7).regs.stage = true
    ∧ (placeOf 0x120014).any (fun p => match p with
      | .reg r _ _ _ _ => r.tuned && r.fields.any (fun f => f.sealed)
      | _ => false) = true := by decide +kernel

/-- A partial line is written to a trained sub-channel: the hypotheses of `DramWritesChangeTheirBytesAlone`. -/
theorem meets_DramWritesChangeTheirBytesAlone :
    storeWf ((dram awake).atT 5000).mems.dram = true ∧ ((dram awake).atT 5000).dramTakes 65 = true
    ∧ (((dram awake).atT 5000).subCh (((dram awake).atT 5000).place 65).sub).state = .active ∧ 65 % 64 + [(1 : Byte), 2, 3].length ≤ 64 := by
  decide +kernel

/-- Two packets, one longer than a flit: the hypotheses of `SegmentsReadBackAsPacked`. -/
theorem meets_SegmentsReadBackAsPacked :
    [List.replicate 300 (5 : Byte), [1, 2]].all (fun p => !p.isEmpty) = true
    ∧ (packSegs 80 240 [List.replicate 300 5, [1, 2]] false).1 = [(List.replicate 238 5, true, false, 0)] := by decide +kernel

/-- A host writes a register: the hypotheses of `EveryStepKeepsTheMemoriesCanonical`. -/
theorem meets_EveryStepKeepsTheMemoriesCanonical :
    canonical svc.regs svc.mems
    ∧ ∃ v, step { svc with pending := [.registerWrite (.session 3) 0x14 7 5] } = .next v :=
  ⟨by unfold canonical; decide +kernel, _, rfl⟩

/-- A fuse word is programmed, and the power comes: the hypotheses of `FusesTimeAndQueueMoveOneWay`. -/
theorem meets_FusesTimeAndQueueMoveOneWay :
    (∃ v, step { svc with pending := [.otpProgram .jtag 5 7, .powerOn 9] } = .next v)
    ∧ ∃ v, step { svc with now := 8, pending := [.powerOn 9] } = .next v := ⟨⟨_, rfl⟩, _, rfl⟩

/-- A mode is requested, and SAFE is cleared: the hypotheses of `ModesAndSafeChangeOnlyAlongTheirPaths`. -/
theorem meets_ModesAndSafeChangeOnlyAlongTheirPaths :
    (∃ v, exec (.modeRequest (.session 3) 3 7) svc = .next v) ∧ inSafe.chp.safe = true ∧ ∃ v, exec (.safeClear 2000000000000) inSafe = .next v :=
  ⟨⟨_, rfl⟩, rfl, ⟨_, rfl⟩⟩

/-! ### Worked figures of the spec -/

/-- The dim pump of R119's figures: 250 kHz, 12 bits, level 40, proof pulses. -/
def dimPump (x : SrcStage) : State :=
  { tunedTo lit [(0x120140, 0x65#32), (0x120144, 2500#32), (0x120148, 40#32), (0x120150, 0x80000000#32), (0x120154, 0x03000100#32)] with
    src := { lit.src with stages := lit.src.stages.set 1 x } }

/-- R337 (11): CRC-32C of ASCII "123456789". -/
theorem test_crc32c : crc32c [0x31, 0x32, 0x33, 0x34, 0x35, 0x36, 0x37, 0x38, 0x39] = 0xE3069283#32 := by decide +kernel

/-- R337 (11): CRC-64 of ASCII "123456789". -/
theorem test_crc64 : crc64From 0 [0x31, 0x32, 0x33, 0x34, 0x35, 0x36, 0x37, 0x38, 0x39] = 0x6C40DF5F0B497347#64 := by decide +kernel

/-- R346 (12), the line of the hub's ring: sub-channel 0, rank 1, bank 6, row 19 599, line 16 of the row. -/
theorem test_dram_place :
    linePlace 2 2247835648 = { sub := 0, rank := 1, bank := 6, row := 19599, col := 16 } := by decide +kernel

/-- R81 (03), the hub's tab: 0x1187_0000 fires slot 3 at sub-tick 7, 64 ticks and 7 sub-ticks after its issue. -/
theorem test_fire_word :
    (match exec (.tabFire 3 0 7) (tunedTo (tab 0x11870000) [(0x11000C, 0x800AA8D0#32)]) with
      | .next v => v.psq.probes.map (fun p => (p.slot, p.fireAt))
      | _ => []) = [(3, 64 * 3200 + 7 * 400)] := by decide +kernel

/-- R83 (03): a word whose operands do not fit their fields is no instruction of the tab, and nothing issues. -/
theorem test_waitu_unfit : exec (.tabWaitu (2 ^ 20)) (tab (2 * 2 ^ 26 + 2 ^ 20)) = .next (tab (2 * 2 ^ 26 + 2 ^ 20)) := rfl

/-- R110, R119 (04), the dim pump: period 0's on-time is a proof pulse of 625 steps, its natural one 24, and the debt 601. -/
theorem test_proof_pulse :
    (match exec (.carrierPeriodStart 1 0 1000005) (dimPump { running := true, per := 2500, bits := 12, setpoint := 40, periodAt := 5 }) with
      | .next v => ((v.stg 1).onTime, (v.stg 1).debt, (v.stg 1).proof)
      | _ => (0, 0, false)) = (625, 601, true) := by decide +kernel

/-- R110 (04), the dim pump: once the debt is down to 15, period 25 pays it and 9 steps are left of its natural 24. -/
theorem test_proof_debt :
    (match exec (.carrierPeriodStart 1 0 1000005) (dimPump { running := true, per := 2500, bits := 12, setpoint := 40, winCount := 25, debt := 15, e := 25 * 100000 % 4096, periodAt := 5 }) with
      | .next v => ((v.stg 1).onTime, (v.stg 1).debt)
      | _ => (0, 0)) = (9, 0) := by decide +kernel

/-- R396 (13), the hub's belt: eight intervals of 1 000 000 counts are a RATE of 0x00FA_0000. -/
theorem test_belt_rate :
    ((tunedTo (timed 0 { state := .running, results := List.replicate 7 1000000 }) [(0x530180, 0x00080001#32)]).tiuRate 2 1000000).rd (Reg.TIU_U_RATE 2)
      = 0x00FA0000 := by decide +kernel

/-- An empty queue: the step idles (log entry 2). -/
theorem test_idle : step State.reset = .next State.reset := rfl


end Sys2Proof.Tests
end

section
/-! The tunings' banks: which operations leave them alone, and what the switch to the staged tuning makes of them (R12, R57, R67). -/

namespace Sys2Proof.Proofs

open Sys2Proof Sys2Proof.Machine Sys2Proof.Safety Sys2Proof.Laws

variable {s t v : State} {n : Nat}

/-- The active, the staged and the former tuning, and every memory, are the same; live words are free. -/
structure SameTunings (s v : State) : Prop where
  tuned : v.regs.tuned = s.regs.tuned
  stage : v.regs.stage = s.regs.stage
  prev : v.regs.prev = s.regs.prev
  mems : v.mems = s.mems

theorem SameTunings.refl : SameTunings s s := ⟨rfl, rfl, rfl, rfl⟩

theorem SameTunings.trans (h : SameTunings s t) (h' : SameTunings t v) : SameTunings s v :=
  ⟨h'.tuned.trans h.tuned, h'.stage.trans h.stage, h'.prev.trans h.prev, h'.mems.trans h.mems⟩

theorem SameTunings.rd (h : SameTunings s v) (f : Field) (hf : f.tuned = true) : v.rd f = s.rd f := by
  unfold State.rd State.tuned
  rw [if_pos hf, if_pos hf, h.tuned]

theorem SameTunings.rdStage (h : SameTunings s v) (f : Field) (hf : f.tuned = true) : v.rdStage f = s.rdStage f := by
  unfold State.rdStage State.stageWord
  rw [if_pos hf, if_pos hf, h.stage]

/-- A step that touches neither register words nor memories. -/
theorem SameTunings.of_only {ps : List Part} (h : SameTunings s t) (ho : onlyParts ps t v) (hr : .regs ∉ ps := by decide)
    (hm : .mems ∉ ps := by decide) : SameTunings s v := by
  have er : v.regs = t.regs := ho .regs hr
  have em : v.mems = t.mems := ho .mems hm
  exact h.trans ⟨by rw [er], by rw [er], by rw [er], em⟩

theorem sameTunings_ite {c : Prop} [Decidable c] {a b : State} (ha : SameTunings s a) (hb : SameTunings s b) :
    SameTunings s (if c then a else b) := by split <;> assumption

theorem sameTunings_foldl {α : Type} {f : State → α → State} {l : List α} (h : SameTunings s t)
    (hf : ∀ t x, SameTunings s t → SameTunings s (f t x)) : SameTunings s (l.foldl f t) := by
  induction l generalizing t with
  | nil => exact h
  | cons x l ih => exact ih (hf t x h)

/-! ### Operations on live words and flags -/

theorem sameTunings_setLive {a : Nat} {x : Word} (h : SameTunings s t) : SameTunings s (t.setLive a x) := h.trans ⟨rfl, rfl, rfl, rfl⟩

theorem sameTunings_setCauses {a : Nat} {x : Word} (h : SameTunings s t) : SameTunings s (t.setCauses a x) := h.trans ⟨rfl, rfl, rfl, rfl⟩

theorem sameTunings_wr {f : Field} {x : Nat} (h : SameTunings s t) : SameTunings s (t.wr f x) :=
  sameTunings_ite (sameTunings_setLive h) (sameTunings_setLive (sameTunings_setLive h))

theorem sameTunings_bump {f : Field} (h : SameTunings s t) : SameTunings s (t.bump f) := sameTunings_wr h

theorem sameTunings_event {fs : List Field} (h : SameTunings s t) : SameTunings s (t.event fs) := by
  cases fs with
  | nil => exact h
  | cons f fs => exact sameTunings_setLive h

theorem sameTunings_eventStands {fs : List Field} (h : SameTunings s t) : SameTunings s (t.eventStands fs) := by
  cases fs with
  | nil => exact h
  | cons f fs => exact sameTunings_setCauses (sameTunings_setLive h)

theorem sameTunings_causeGone {fs : List Field} (h : SameTunings s t) : SameTunings s (t.causeGone fs) := by
  cases fs with
  | nil => exact h
  | cons f fs => exact sameTunings_ite (sameTunings_setCauses h) (sameTunings_setLive (sameTunings_setCauses h))

/-! ### The event recorder -/

theorem sameTunings_mapEvr {f : Evr → Evr} (h : SameTunings s t) : SameTunings s (t.mapEvr f) := h.trans ⟨rfl, rfl, rfl, rfl⟩

theorem sameTunings_setLastWords {r : EvRec} (h : SameTunings s t) : SameTunings s (t.setLastWords r) :=
  sameTunings_wr (sameTunings_wr (sameTunings_wr (sameTunings_wr h)))

theorem sameTunings_startPage (h : SameTunings s t) : SameTunings s t.startPage := by
  unfold State.startPage
  with_reducible repeat' first
    | exact h | apply sameTunings_ite | apply sameTunings_mapEvr | apply sameTunings_causeGone | apply sameTunings_eventStands

theorem sameTunings_enterRecord {kind code detail : Nat} {esc : Bool} (h : SameTunings s t) :
    SameTunings s (t.enterRecord kind code detail esc) := by
  unfold State.enterRecord
  with_reducible repeat' first
    | exact h | apply sameTunings_ite | apply sameTunings_mapEvr | apply sameTunings_setLastWords | apply sameTunings_wr
    | apply sameTunings_bump | apply sameTunings_eventStands

theorem sameTunings_record {kind code detail zone : Nat} {esc : Bool} (h : SameTunings s t) :
    SameTunings s (t.record kind code detail zone esc) := by
  have h1 : SameTunings s t.rollSecond := h.of_only (only_rollSecond only_refl (List.Subset.refl _))
  unfold State.record
  extract_lets s1 z r s2
  have h2 : SameTunings s s2 := h1.trans ⟨rfl, rfl, rfl, rfl⟩
  have form {u : State} (hu : SameTunings s u) : SameTunings s (u.form kind code detail esc) :=
    sameTunings_startPage (sameTunings_enterRecord hu)
  exact sameTunings_ite (form h1) (sameTunings_ite (form h2) (sameTunings_event (sameTunings_bump h2)))

/-! ### What comes before the switch -/

theorem sameTunings_reseat (h : SameTunings s t) : SameTunings s (t.reseat n) := by
  have phs {f : Phs → Phs} : SameTunings s (t.mapPhs f) := h.trans ⟨rfl, rfl, rfl, rfl⟩
  unfold State.reseat
  exact sameTunings_ite (sameTunings_event phs) (sameTunings_ite h (sameTunings_ite phs (sameTunings_event phs)))

theorem sameTunings_refSwitch (h : SameTunings s t) : SameTunings s t.refSwitch := by
  have ref {f : Ref → Ref} : SameTunings s (t.mapRef f) := h.trans ⟨rfl, rfl, rfl, rfl⟩
  unfold State.refSwitch
  exact sameTunings_ite h (sameTunings_foldl ref fun _ _ h => sameTunings_wr h)

theorem sameTunings_clipToNow (h : SameTunings s t) : SameTunings s t.clipToNow := by
  have psy {f : Psy → Psy} : SameTunings s (t.mapPsy f) := h.trans ⟨rfl, rfl, rfl, rfl⟩
  unfold State.clipToNow
  exact sameTunings_ite psy (sameTunings_foldl psy fun _ _ h => sameTunings_bump (sameTunings_event h))

/-- Where PSY counts the samples that clipped (R100). -/
def clipWords : List Nat := [Reg.PSY_STAT_CLIP.addr, Reg.PSY_CLIP_CNT_COUNT.addr]

theorem onlyWords_clips {α : Type} (l : List α) (h : onlyWords clipWords s t) (ht : storeWf t.regs.live = true) :
    onlyWords clipWords s (l.foldl (fun s _ => (s.event [Reg.PSY_STAT_CLIP]).bump Reg.PSY_CLIP_CNT_COUNT) t) := by
  induction l generalizing t with
  | nil => exact h
  | cons x l ih =>
    have he : storeWf (t.event [Reg.PSY_STAT_CLIP]).regs.live = true := wf_event ht _
    exact ih (onlyWords_bump (onlyWords_event h ht _ [] (by decide)) he _ (by decide) (by decide)) (wf_bump he _)

theorem onlyWords_clipToNow (h : storeWf s.regs.live = true) : onlyWords clipWords s s.clipToNow := by
  have psy {f : Psy → Psy} : onlyWords clipWords s (s.mapPsy f) := onlyWords_of_regs (onlyWords_refl _ s) rfl
  unfold State.clipToNow
  extract_lets s' first lo k
  split
  · exact psy
  · exact onlyWords_clips _ psy h

/-- Counting the samples that clipped leaves the sweep's number. -/
theorem clipToNow_sweep (h : storeWf s.regs.live = true) : s.clipToNow.sweep = s.sweep := by
  have live (a : Nat) (ha : a ∉ clipWords) : s.clipToNow.live a = s.live a := ((onlyWords_clipToNow h).1 a ha).1
  unfold State.sweep
  rw [rd_live _ rfl, rd_live _ rfl]
  unfold Field.read
  rw [live _ (by decide), live _ (by decide)]

/-! ### The switch -/

/-- `v` is `s` with the staged tuning active from sweep `n` on. -/
structure Switched (n : Nat) (s v : State) : Prop where
  tuned : v.regs.tuned = s.regs.stage
  stage : v.regs.stage = s.regs.stage
  prev : v.regs.prev = s.regs.tuned
  act : v.mems.act = s.mems.stage
  memStage : v.mems.stage = s.mems.stage
  memPrev : v.mems.prev = s.mems.act
  dram : v.mems.dram = s.mems.dram
  copyback : v.chp.stage = .copyback
  notDue : v.chp.retuneDue = none
  ownsFrom : v.chp.ownsFrom = n

/-- Tunings that were the same before the switch. -/
theorem Switched.after (h : SameTunings s t) (h' : Switched n t v) : Switched n s v :=
  { h' with
    tuned := h'.tuned.trans h.stage, stage := h'.stage.trans h.stage, prev := h'.prev.trans h.tuned
    act := h'.act.trans (by rw [h.mems]), memStage := h'.memStage.trans (by rw [h.mems])
    memPrev := h'.memPrev.trans (by rw [h.mems]), dram := h'.dram.trans (by rw [h.mems]) }

/-- The switch lasts over what leaves the tunings and CHP alone. -/
theorem Switched.keep (h : Switched n s t) (hs : SameTunings t v) (hc : v.chp = t.chp) : Switched n s v where
  tuned := hs.tuned.trans h.tuned
  stage := hs.stage.trans h.stage
  prev := hs.prev.trans h.prev
  act := by rw [hs.mems, h.act]
  memStage := by rw [hs.mems, h.memStage]
  memPrev := by rw [hs.mems, h.memPrev]
  dram := by rw [hs.mems, h.dram]
  copyback := by rw [hc, h.copyback]
  notDue := by rw [hc, h.notDue]
  ownsFrom := by rw [hc, h.ownsFrom]

theorem Switched.keep_only {ps : List Part} (h : Switched n s t) (ho : onlyParts ps t v) (hr : .regs ∉ ps := by decide)
    (hm : .mems ∉ ps := by decide) (hc : .chp ∉ ps := by decide) : Switched n s v :=
  h.keep (SameTunings.refl.of_only ho hr hm) (ho .chp hc)

/-- The assignments of the switch. -/
theorem switched_mapChp {f : Chp → Chp} (hs : (f s.chp).stage = .copyback) (hd : (f s.chp).retuneDue = none) (ho : (f s.chp).ownsFrom = n) :
    Switched n s (((s.mapRegs fun r => { r with prev := r.tuned, tuned := r.stage }).mapMems
      fun m => { m with prev := m.act, act := m.stage }).mapChp f) :=
  ⟨rfl, rfl, rfl, rfl, rfl, rfl, rfl, hs, hd, ho⟩

/-- R67: the switch itself, between what the blocks do before it and what the optics chain does after it. -/
theorem takeStage_switched : Switched n s (s.takeStage n) := by
  unfold State.takeStage
  extract_lets zones cores nco restart pfl s1 s2 s3 s4 s5 s6 s7 s8 s9 s10 s11 s12 s13 s14 s15
  have h1 : SameTunings s s1 := (sameTunings_refSwitch .refl).of_only (only_tiuSwitch only_refl (List.Subset.refl _))
  have h2 : SameTunings s s2 := h1.of_only (only_ringSwitch only_refl (List.Subset.refl _))
  have h3 : SameTunings s s3 := h2.of_only (only_dtsSwitch only_refl (List.Subset.refl _))
  have h4 : SameTunings s s4 := h3.of_only (only_markRetuned only_refl (List.Subset.refl _))
  have h5 : SameTunings s s5 := h4.of_only (only_mapPsy only_refl (List.Subset.refl _))
  have h6 : SameTunings s s6 := h5.of_only (only_mapChn only_refl (List.Subset.refl _))
  have h7 : SameTunings s s7 := h6.of_only (only_mapCrx only_refl (List.Subset.refl _))
  have h8 : SameTunings s s8 := h7.of_only (only_mapPfl only_refl (List.Subset.refl _))
  have h9 : SameTunings s s9 := h8.of_only (only_mapZon only_refl (List.Subset.refl _))
  have h10 : SameTunings s s10 := h9.of_only (only_aarSwitch only_refl (List.Subset.refl _))
  have h11 : SameTunings s s11 := h10.of_only (only_mapOcc only_refl (List.Subset.refl _))
  have h14 : Switched n s s14 := .after h11 (switched_mapChp rfl rfl rfl)
  have h15 : Switched n s s15 := h14.keep_only (only_ite (only_occStart only_refl (List.Subset.refl _)) only_refl)
  exact h15.keep_only (only_ite (only_mapOcc only_refl (List.Subset.refl _)) only_refl)

theorem switchTuning_switched : Switched n s (s.switchTuning n) := .after (sameTunings_reseat .refl) takeStage_switched

/-- Where PSQ stands after a Retune that goes on at `entry`. -/
structure GoesOnAt (entry : Nat) (v : State) : Prop where
  pc : v.psq.pc = entry
  loops : v.psq.loops = [0, 0, 0, 0]
  period : v.psq.period = v.rd Reg.PSQ_PERIOD_TICKS

theorem GoesOnAt.keep {entry : Nat} (h : GoesOnAt entry t) (hs : SameTunings t v) (hp : v.psq = t.psq) : GoesOnAt entry v where
  pc := by rw [hp, h.pc]
  loops := by rw [hp, h.loops]
  period := by rw [hp, h.period, hs.rd _ rfl]

/-- The assignments that send PSQ on. -/
theorem goesOnAt_mapPsq {entry : Nat} {f : Psq → Psq} {g : GuardShared → GuardShared} (hpc : (f t.psq).pc = entry)
    (hl : (f t.psq).loops = [0, 0, 0, 0]) (hp : (f t.psq).period = t.rd Reg.PSQ_PERIOD_TICKS) :
    GoesOnAt entry ((t.mapPsq f).mapGuards g) where
  pc := hpc
  loops := hl
  period := hp.trans (SameTunings.rd ⟨rfl, rfl, rfl, rfl⟩ _ rfl).symm

/-- RETUNE_APPLY: the switch with sweep `n`, and PSQ at the first instruction of it (R97). -/
theorem retune_switched {entry : Nat} : Switched n s (s.retune n entry) ∧ GoesOnAt entry (s.retune n entry) := by
  unfold State.retune
  extract_lets s1 s2 s3 s4 p s5 s6 s7
  have h1 : Switched n s s1 := switchTuning_switched
  have o3 : onlyParts [.regs] s1 s3 :=
    only_event (only_bump (only_wr only_refl (by decide)) (by decide)) (by decide)
  have h3 : Switched n s s3 := h1.keep (sameTunings_event (sameTunings_bump (sameTunings_wr .refl))) (o3 .chp (by decide))
  have o6 : onlyParts [.psq, .guards] s3 s6 :=
    only_mapGuards (only_mapPsq (only_mapPsq only_refl (by decide)) (by decide)) (by decide)
  have h6 : Switched n s s6 := h3.keep_only o6
  have g6 : GoesOnAt entry s6 := goesOnAt_mapPsq rfl rfl rfl
  have t7 : SameTunings s6 s7 := sameTunings_record .refl
  have o7 : onlyParts [.regs, .evr] s6 s7 := only_record only_refl (List.Subset.refl _)
  have on : onlyParts [.kpe] s7 (s7.notify ntApply [n, s7.rd Reg.CHP_TUNING_ID_ID]) := only_notify only_refl (List.Subset.refl _)
  exact ⟨(h6.keep t7 (o7 .chp (by decide))).keep_only on,
    g6.keep (t7.of_only on) ((on .psq (by decide)).trans (o7 .psq (by decide)))⟩

/-- A due Retune: the samples up to the instant are counted under the former tuning, then the switch is made with the present sweep. -/
theorem tuneIfDue_of_due {d : Instant} (hd : s.chp.retuneDue = some d) :
    s.tuneIfDue = s.clipToNow.retune s.clipToNow.sweep (s.clipToNow.rdStage Reg.PSQ_ENTRY_RESUME) := by
  have hc : s.clipToNow.chp = s.chp := only_clipToNow (ps := [.regs, .psy]) only_refl (List.Subset.refl _) .chp (by decide)
  unfold State.tuneIfDue State.retuneIfDue
  rw [hc, hd]
  rfl

/-- Settles O6: the switch (`retune_switched`) after a count of clipped samples that touches neither tuning nor sweep. -/
theorem retuneSwitchesTheWholeTuning : Obligations.RetuneSwitchesTheWholeTuning := by
  unfold Obligations.RetuneSwitchesTheWholeTuning
  intro t d s w hw hd hwf
  have runs : exec (.retuneApply t) s = .next w.tuneIfDue := by
    rw [hw]
    rfl
  have counted : SameTunings w w.clipToNow := sameTunings_clipToNow .refl
  have becomes : w.tuneIfDue = w.clipToNow.retune w.sweep (w.rdStage Reg.PSQ_ENTRY_RESUME) := by
    rw [tuneIfDue_of_due hd, clipToNow_sweep hwf, counted.rdStage _ rfl]
  obtain ⟨switched, goesOn⟩ := retune_switched (s := w.clipToNow) (n := w.sweep) (entry := w.rdStage Reg.PSQ_ENTRY_RESUME)
  have h := switched.after counted
  refine ⟨w.tuneIfDue, runs, ?_⟩
  rw [becomes]
  exact ⟨h.tuned, h.act, h.prev, h.memPrev, h.stage, h.dram, h.copyback, h.notDue, h.ownsFrom, goesOn.pc, goesOn.loops, goesOn.period⟩

/-- Settles O57: the reset state is written out in `State.reset`. -/
theorem resetIsCanonicalAndDark : Obligations.ResetIsCanonicalAndDark := by
  have words : canonical State.reset.regs State.reset.mems := by
    unfold canonical
    decide
  exact ⟨words, rfl, rfl, rfl, rfl, by decide, by decide⟩

end Sys2Proof.Proofs

end

section
/-! Modes and SAFE (R23 to R32, R516, R518): what a command that may change them does, through the one operation that sets a mode, the one
that resets the chip, and what a word write sets going. -/

namespace Sys2Proof.Proofs

open Sys2Proof Sys2Proof.Machine Sys2Proof.Safety Sys2Proof.Laws

variable {s t v : State} {c : ResetCause} {m : Master}

/-- The moves that word writes, requests and escalations make, alone or one after another: from PREP, SERVICE or TEST to SERVICE or
TEST, to RECOVERY, or into a reset; out of SAFE by a reset alone. -/
structure Moves (s v : State) : Prop where
  mode : v.chp.mode = s.chp.mode ∨ (s.chp.mode ∈ [Mode.prep, .service, .test] ∧ v.chp.mode ∈ [Mode.service, .test])
    ∨ v.chp.mode = .recovery ∨ (v.chp.mode = .boot ∧ v.pwr.inReset = true)
  inReset : s.pwr.inReset = true → v.pwr.inReset = true
  safe : s.chp.safe = true → v.chp.safe = true ∨ v.pwr.inReset = true

theorem Moves.of_kept (h : Kept true s v) : Moves s v :=
  have ⟨mode, reset, safe⟩ := h.strict rfl
  ⟨.inl mode, fun hr => reset.trans hr, fun hs => .inl (safe hs)⟩

theorem Moves.refl : Moves s s := .of_kept .refl

/-- Moves compose: no move but a reset leads to BOOT, and a reset lasts. -/
theorem Moves.trans (h : Moves s t) (h' : Moves t v) : Moves s v where
  inReset hr := h'.inReset (h.inReset hr)
  safe hs := (h.safe hs).elim h'.safe fun hr => .inr (h'.inReset hr)
  mode := by
    rcases h'.mode with same | ⟨from', to'⟩ | recovery | reset
    · rw [same]
      rcases h.mode with e | e | e | ⟨e, hr⟩
      · exact .inl e
      · exact .inr (.inl e)
      · exact .inr (.inr (.inl e))
      · exact .inr (.inr (.inr ⟨e, h'.inReset hr⟩))
    · rcases h.mode with e | ⟨hs, -⟩ | e | ⟨e, -⟩
      · exact .inr (.inl ⟨e ▸ from', to'⟩)
      · exact .inr (.inl ⟨hs, to'⟩)
      · simp [e] at from'
      · simp [e] at from'
    · exact .inr (.inr (.inl recovery))
    · exact .inr (.inr (.inr reset))

theorem Moves.kept (h : Moves s t) (hk : Kept true t v) : Moves s v := h.trans (.of_kept hk)

theorem moves_ite {p : Prop} [Decidable p] {a b : State} (ha : Moves s a) (hb : Moves s b) : Moves s (if p then a else b) := by
  split <;> assumption

theorem moves_foldl {α : Type} {f : State → α → State} {l : List α} (hf : ∀ t x, Moves t (f t x)) : Moves s (l.foldl f s) := by
  induction l generalizing s with
  | nil => exact .refl
  | cons x l ih => exact (hf s x).trans ih

theorem moves_foldl_fst {α β : Type} {f : State × β → α → State × β} {l : List α} {p : State × β} (hf : ∀ p x, Moves p.1 (f p x).1) :
    Moves p.1 (l.foldl f p).1 := by
  induction l generalizing p with
  | nil => exact .refl
  | cons x l ih => exact (hf p x).trans ih

/-! ### Resets (R516, R518) -/

/-- The internal reset is asserted, and the mode is BOOT. -/
structure InBoot (v : State) : Prop where
  mode : v.chp.mode = .boot
  inReset : v.pwr.inReset = true

theorem InBoot.kept (h : InBoot t) (hk : Kept true t v) : InBoot v :=
  have ⟨mode, reset, _⟩ := hk.strict rfl
  ⟨mode.trans h.mode, reset.trans h.inReset⟩

theorem InBoot.moves (h : InBoot v) : Moves s v := ⟨.inr (.inr (.inr ⟨h.mode, h.inReset⟩)), fun _ => h.inReset, fun _ => .inr h.inReset⟩

theorem inBoot_chipState : InBoot (s.chipState c) := by
  unfold State.chipState
  extract_lets s' evr pwr r
  have hr : InBoot r := ⟨rfl, rfl⟩
  exact hr.kept (kept_otpMacs (kept_wr .refl))

theorem inBoot_chipReset : InBoot (s.chipReset c) := inBoot_chipState

theorem inBoot_mapPwr {f : Pwr → Pwr} (h : InBoot s) (hf : ∀ p, (f p).inReset = p.inReset) : InBoot (s.mapPwr f) :=
  h.kept (kept_mapPwr .refl (hf _))

theorem inBoot_powerReset : InBoot s.powerReset := inBoot_chipState

theorem kept_mapPwr_inReset {f : Pwr → Pwr} (hf : ∀ p, (f p).inReset = p.inReset) : Kept true s (s.mapPwr f) := kept_mapPwr .refl (hf _)

/-! ### Entering a mode (R23, R25) -/

/-- What entering mode `x` leaves: the mode, and the reset and a SAFE that stands as they were. -/
structure Enters (x : Mode) (s v : State) : Prop where
  mode : v.chp.mode = x
  inReset : v.pwr.inReset = s.pwr.inReset
  safe : s.chp.safe = true → v.chp.safe = true

theorem Enters.kept {x : Mode} (h : Enters x s t) (hk : Kept true t v) : Enters x s v :=
  have ⟨mode, reset, safe⟩ := hk.strict rfl
  ⟨mode.trans h.mode, reset.trans h.inReset, fun hs => safe (h.safe hs)⟩

theorem Enters.after {x : Mode} (hk : Kept true s t) (h : Enters x t v) : Enters x s v :=
  have ⟨_, reset, safe⟩ := hk.strict rfl
  ⟨h.mode, h.inReset.trans reset, fun hs => h.safe (safe hs)⟩

/-- Of all that `setMode` does, one assignment touches the mode. -/
theorem setMode_enters (x : Mode) : Enters x s (s.setMode x) := by
  unfold State.setMode
  extract_lets was s1 s2 s3 s4 s5 s6 s7 s8 s9 s10
  have h1 : Kept true s s1 := kept_ite (kept_leaveService .refl) .refl
  have h2 : Enters x s s2 := .after h1 ⟨rfl, rfl, id⟩
  have h3 : Enters x s s3 := h2.kept (kept_dropStaleFlags .refl)
  have h4 : Enters x s s4 := h3.kept (kept_ite (kept_mapPwr (kept_guardsEnterService .refl) rfl) .refl)
  have h5 : Enters x s s5 := h4.kept (kept_ite (kept_mapChp (kept_wr .refl) rfl id) .refl)
  have h6 : Enters x s s6 := h5.kept (kept_ite (kept_closeDram .refl) .refl)
  have h7 : Enters x s s7 := h6.kept (kept_mapMgc .refl)
  have h8 : Enters x s s8 := h7.kept (kept_ite (kept_mapPwr .refl rfl) .refl)
  exact h8.kept (kept_notify (kept_record (kept_linksFollow .refl)))

theorem moves_setMode {x : Mode} (h : s.chp.mode ∈ [Mode.prep, .service, .test] ∧ x ∈ [Mode.service, .test] ∨ x = .recovery) :
    Moves s (s.setMode x) := by
  obtain ⟨mode, reset, safe⟩ := setMode_enters (s := s) x
  refine ⟨?_, fun hr => reset.trans hr, fun hs => .inl (safe hs)⟩
  rw [mode]
  exact h.elim (fun hp => .inr (.inl hp)) fun hr => .inr (.inr (.inl hr))

theorem moves_recovery : Moves s (s.setMode .recovery) := moves_setMode (.inr rfl)

/-- R25: the table of requests. -/
theorem moves_requestMode {req : Nat} : Moves s (s.requestMode req) := by
  unfold State.requestMode
  split
  next mode =>
    have staged : Kept true s s.activateStaged := kept_activateStaged .refl
    have prep : s.activateStaged.chp.mode = .prep := (staged.strict rfl).1.trans mode
    exact moves_ite ((Moves.of_kept staged).trans (moves_setMode (.inl (by simp [prep])))) (.of_kept (kept_modeRefused .refl))
  next mode => exact moves_setMode (.inl (by simp [mode]))
  next mode => exact moves_setMode (.inl (by simp [mode]))
  next => exact moves_recovery
  next => exact moves_recovery
  next => exact inBoot_chipReset.moves
  next => exact .of_kept (kept_modeRefused .refl)

/-! ### Start-up, SAFE's escalation and the watchdog -/

theorem moves_prepEnd {ok : Bool} : Moves s (s.prepEnd ok) := moves_ite (.of_kept (kept_prepPass .refl)) moves_recovery

theorem moves_prepStep {sramOk : Bool} : Moves s (s.prepStep sramOk) := by
  unfold State.prepStep
  extract_lets begun
  split
  next => exact moves_prepEnd
  next => exact moves_prepEnd
  next => exact moves_ite (.of_kept (kept_prepBegin (kept_beginTraining .refl))) (moves_ite .refl moves_prepEnd)
  next => exact moves_ite (.of_kept (kept_prepBegin (kept_mapCal .refl))) (moves_ite .refl moves_prepEnd)
  next => exact moves_ite (.of_kept (kept_prepBegin (kept_startCal .refl))) (moves_ite .refl moves_prepEnd)
  next => exact moves_ite (.of_kept (kept_prepBegin (kept_beginSelfTest (kept_beginSelfTest .refl)))) (moves_ite .refl moves_prepEnd)
  next => exact .of_kept (kept_linksFollow (kept_prepPass .refl))
  next => exact .refl

theorem moves_toRecovery : Moves s s.toRecovery :=
  moves_ite .refl (moves_ite ((Moves.of_kept (kept_recordBoot (kept_runImage .refl))).trans moves_recovery) moves_recovery)

theorem moves_watchdogBoot : Moves s s.watchdogBoot := by
  have recovers : Moves s (if s.chp.mode = .recovery then s else s.setMode .recovery) := moves_ite .refl moves_recovery
  unfold State.watchdogBoot
  exact moves_ite (recovers.kept (kept_recordBoot (kept_runImage .refl)))
    (moves_ite (recovers.kept (kept_recordBoot (kept_runImage .refl))) (recovers.kept (kept_recordBoot (kept_runImage .refl))))

/-! ### Word writes (R40 to R45): only MODE.REQ moves the mode -/

theorem moves_wroteChp {a : Nat} {x : Word} : Moves s (s.wroteChp m a x) := by
  unfold State.wroteChp
  split
  next => exact moves_requestMode
  next =>
    apply Moves.of_kept
    split
    next => exact kept_startCheck .refl
    next => exact kept_applyNext .refl
    next => exact kept_applyAt .refl
    next => exact kept_cancelApply .refl
    next => exact kept_discard .refl
    next => exact .refl
  next => exact .of_kept (kept_ite (kept_snapRequest .refl) .refl)
  next => exact .of_kept (kept_snapRelease .refl)
  next => exact .of_kept (kept_injectWrite .refl)
  next => exact .refl

/-- A write of a block other than CHP keeps mode and SAFE. -/
theorem kept_wrote_elsewhere {a : Nat} {x : Word} (h : Kept true s t) (ha : a / 0x10000 ≠ 0) : Kept true s (t.wrote m a x) := by
  unfold State.wrote
  split
  next e => exact absurd e ha
  all_goals with_reducible repeat' first
    | exact h | assumption | apply kept_ite | apply kept_calFactor | apply kept_wroteMgmt | apply kept_skewCalCmd | apply kept_clearFault
    | apply kept_armCmd | apply kept_wrotePsq | apply kept_trainCmd | apply kept_trip | apply kept_cancelLearn | apply kept_wroteCvu
    | apply kept_occLive | apply kept_eachBit_cons | apply kept_eachBit_nil | apply kept_muFire | apply kept_calFire
    | apply kept_tsPop | apply kept_tiuTo | apply kept_beginLearn | apply kept_captureOp | apply kept_beginSelfTest | intro _

theorem moves_wrote {a : Nat} {x : Word} : Moves s (s.wrote m a x) := by
  by_cases ha : a / 0x10000 = 0
  · unfold State.wrote
    rw [ha]
    exact moves_wroteChp
  · exact .of_kept (kept_wrote_elsewhere .refl ha)

theorem moves_letIn {r : RegRow} {a : Nat} {x : Word} {op : Word → Word} : Moves s (s.letIn m r a x op) := by
  unfold State.letIn
  extract_lets was s1 s2 k s3
  have h1 : Kept true s s1 := kept_beforeWrite .refl
  have h2 : Kept true s s2 := by
    unfold s2
    split
    · exact kept_ite (kept_store h1) h1
    · exact h1
  have h3 : Moves s s3 := .of_kept (kept_store h2)
  exact moves_ite h3 (moves_ite (h3.kept (kept_timMode .refl)) (h3.trans moves_wrote))

theorem moves_writeLive {r : RegRow} {a : Nat} {x : Word} {op : Word → Word} : Moves s (s.writeLive m r a x op) := by
  unfold State.writeLive
  have denied : Kept true s s.denyPriv := kept_denyPriv .refl
  refine moves_ite (.of_kept (kept_ite (kept_snapRequest denied) denied)) (moves_ite (.of_kept denied)
    (moves_ite .refl (moves_ite (.of_kept (kept_statusWrite .refl)) ?_)))
  exact (Moves.of_kept (kept_ite (kept_denySeal .refl) .refl)).trans moves_letIn

theorem moves_writePlain {r : RegRow} {a : Nat} {x : Word} : Moves s (s.writePlain m r a x) :=
  moves_ite (.of_kept (kept_stageReg .refl)) (moves_ite (.of_kept (kept_setShadow .refl))
    (moves_ite (moves_writeLive.kept (kept_setShadow .refl)) moves_writeLive))

theorem moves_writeFlavoured {r : RegRow} {a fl : Nat} {x : Word} : Moves s (s.writeFlavoured m r a fl x) :=
  moves_ite (.of_kept (kept_bump .refl)) (moves_ite (.of_kept (kept_stageReg .refl)) moves_writeLive)

theorem moves_writeWord {addr : Nat} {x : Word} : Moves s (s.writeWord m addr x) := by
  unfold State.writeWord
  split
  next => exact .of_kept (kept_busErr .refl)
  next p _ =>
    refine moves_ite (.of_kept (kept_busErr .refl)) (moves_ite (.of_kept (kept_done (kept_denyPriv .refl))) ?_)
    split
    next =>
      exact moves_ite (.of_kept (kept_done (kept_writeStage .refl)))
        (moves_ite (moves_writePlain.kept (kept_done .refl)) (moves_writeFlavoured.kept (kept_done .refl)))
    next _ _ _ stage _ =>
      have missed : Kept true s (if stage then s.stageMiss else s) := kept_ite (kept_stageMiss .refl) .refl
      exact .of_kept (kept_ite (kept_done missed) (kept_done (kept_denyPriv missed)))
    next => exact .of_kept (kept_done (kept_stageMem .refl))

/-- A word write that comes after a due Retune, as every access does. -/
theorem moves_access {t : Instant} {addr : Nat} {x : Word} : Moves s ((s.atT t).tuneIfDue.writeWord m addr x) :=
  (Moves.of_kept (kept_tuneIfDue (kept_atT .refl))).trans moves_writeWord

/-! ### Commands of several writes -/

theorem moves_applyBootTuning {b : BootTuning} : Moves s (s.applyBootTuning b) := by
  unfold State.applyBootTuning
  extract_lets s1 s2 s3
  have h1 : Moves s s1 := .of_kept (kept_mapPwr (kept_mapMgc .refl) rfl)
  have h2 : Moves s s2 := h1.trans (moves_foldl fun _ _ => moves_writeWord)
  exact h2.kept (kept_mapMgc (kept_startCheck (kept_loadImage .refl)))

theorem moves_writeMany {n tag : Nat} {ps : List (Nat × Word)} : Moves s (s.writeMany n tag ps).1 := by
  refine moves_foldl_fst (p := (s, [])) fun p x => ?_
  split
  · exact moves_writeWord
  · exact .refl

theorem moves_writeRun {n tag a : Nat} {ws : List Word} : Moves s (s.writeRun n tag a ws).1 := by
  refine moves_foldl_fst (p := (s, 0, false)) fun p x => ?_
  split
  · exact .refl
  · exact moves_writeWord

theorem moves_memWriteTo {n tag space addr : Nat} {bs : List Byte} : Moves s (s.memWriteTo n tag space addr bs) := by
  unfold State.memWriteTo
  refine moves_ite (moves_writeRun.kept (kept_endCmd (kept_commit .refl))) (moves_ite (.of_kept (kept_endCmd .refl)) ?_)
  exact .of_kept (kept_endCmd (kept_commit (kept_ite .refl (kept_dramWrite .refl))))

theorem moves_kpAct {n tag : Nat} {f : InFlight → State → State} (hf : ∀ x t, Moves t (f x t)) : Moves s (s.kpAct n tag f) := by
  unfold State.kpAct
  split
  · exact moves_ite ((Moves.of_kept (kept_mapCmd .refl)).trans (hf _ _)) .refl
  · exact .refl

theorem moves_strobe {b : Block} {u : Option Nat} {sealed : Bool} {f : State → State} (hf : Moves s (f s)) :
    Moves s (s.strobe m b u sealed f) :=
  moves_ite (.of_kept (kept_busErr .refl)) (moves_ite (.of_kept (kept_done (kept_denyPriv .refl)))
    (moves_ite (.of_kept (kept_done (kept_denySeal .refl))) (hf.kept (kept_done .refl))))

/-! ### The rows of the table -/

/-- The next state an outcome answers, if it answers one, has the property. -/
def Answers (P : State → Prop) (o : Host.Outcome State Fault Refusal) : Prop := ∀ v, o = .next v → P v

theorem answers_next {P : State → Prop} (h : P v) : Answers P (.next v) := fun _ e => by cases e; exact h

theorem answers_ite {P : State → Prop} {p : Prop} [Decidable p] {a b : Host.Outcome State Fault Refusal} (ha : Answers P a)
    (hb : Answers P b) : Answers P (if p then a else b) := by split <;> assumption

section Rows

variable {i : Instant} {session tag : Nat}

theorem moves_atT : Moves s (s.atT i) := .of_kept (kept_atT .refl)

theorem moves_execModeRequest {req : Nat} : Answers (Moves s) (execModeRequest m req i s) :=
  answers_next (moves_atT.trans (moves_strobe moves_requestMode))

theorem moves_execSafeTimeout : Answers (Moves s) (execSafeTimeout i s) := by
  unfold execSafeTimeout
  exact answers_ite (answers_next (moves_atT.trans moves_toRecovery)) (answers_next moves_atT)

theorem moves_execWatchdogExpiry : Answers (Moves s) (execWatchdogExpiry i s) := by
  unfold execWatchdogExpiry
  exact answers_ite (answers_next ((moves_atT.kept (kept_resetMorsen (kept_escalate .refl))).trans moves_watchdogBoot))
    (answers_next moves_atT)

theorem moves_execPrepSteps {sramOk : Bool} : Answers (Moves s) (execPrepSteps sramOk i s) := by
  unfold execPrepSteps
  exact answers_next (moves_atT.trans (moves_foldl fun _ _ => moves_ite moves_prepStep .refl))

theorem moves_execBootTuning {ws : List (Nat × Word)} {porhorn : List Byte} {service light start : Bool} :
    Answers (Moves s) (execBootTuning ws porhorn service light start i s) := by
  unfold execBootTuning
  exact answers_ite (answers_next (moves_atT.trans moves_applyBootTuning)) (answers_next moves_atT)

/-- What start-up writes once its next action is noted. -/
theorem moves_bootWrite {a : BootAct} {addr : Nat} {x : Word} : Moves s (((s.atT i).bootNext a).writeWord .morsen addr x) :=
  (moves_atT.kept (kept_bootNext .refl)).trans moves_writeWord

theorem moves_execAutoService : Answers (Moves s) (execAutoService i s) := by
  unfold execAutoService
  exact answers_ite (answers_next moves_atT)
    (answers_ite (answers_next (moves_ite (moves_bootWrite.kept (kept_bootNext .refl)) moves_bootWrite))
      (answers_next (moves_atT.kept (kept_bootNext .refl))))

theorem moves_execAutoLight : Answers (Moves s) (execAutoLight i s) := by
  unfold execAutoLight
  exact answers_ite (answers_next (moves_ite (moves_bootWrite.kept (kept_bootNext .refl)) moves_bootWrite)) (answers_next moves_atT)

theorem moves_execAutoStart : Answers (Moves s) (execAutoStart i s) := by
  unfold execAutoStart
  exact answers_ite (answers_next moves_bootWrite) (answers_next moves_atT)

/-- A command in flight acts after a due Retune. -/
theorem moves_kpCommand {f : InFlight → State → State} (hf : ∀ x t, Moves t (f x t)) :
    Answers (Moves s) (.next ((s.atT i).tuneIfDue.kpAct session tag f)) :=
  answers_next ((moves_atT.kept (kept_tuneIfDue .refl)).trans (moves_kpAct hf))

theorem moves_execRegWrite : Answers (Moves s) (execRegWrite session tag i s) :=
  moves_kpCommand fun x t => by
    split
    · exact moves_writeMany.kept (kept_endCmd (kept_commit .refl))
    · exact .refl

theorem moves_execMemWrite : Answers (Moves s) (execMemWrite session tag i s) :=
  moves_kpCommand fun x t => by
    split
    · exact moves_memWriteTo
    · exact .refl

theorem moves_execKpMode : Answers (Moves s) (execKpMode session tag i s) :=
  moves_kpCommand fun x t => by
    split
    · exact moves_ite (moves_writeWord.kept (kept_endCmd .refl)) (moves_writeWord.kept (kept_endCmd .refl))
    · exact .refl

theorem moves_execUpdateReset : Answers (Moves s) (execUpdateReset i s) := by
  unfold execUpdateReset
  exact answers_ite (answers_next inBoot_chipReset.moves) (answers_next moves_atT)

theorem moves_execClockReset : Answers (Moves s) (execClockReset i s) := by
  unfold execClockReset
  exact answers_ite (answers_next inBoot_chipReset.moves) (answers_next moves_atT)

theorem moves_execJtagReset : Answers (Moves s) (execJtagReset i s) := answers_next inBoot_chipReset.moves

theorem moves_execRailReset : Answers (Moves s) (execRailReset i s) := by
  unfold execRailReset
  exact answers_next (inBoot_mapPwr inBoot_chipReset fun _ => by rfl).moves

theorem moves_execPinReset {low : Bool} : Answers (Moves s) (execPinReset low i s) := by
  unfold execPinReset
  exact answers_ite (answers_next (inBoot_mapPwr inBoot_chipReset fun _ => by rfl).moves)
    (answers_next (moves_atT.kept (kept_mapPwr_inReset fun _ => by rfl)))

theorem moves_execPowerOn : Answers (Moves s) (execPowerOn i s) := answers_next inBoot_powerReset.moves

theorem moves_execPowerDown {others : Bool} : Answers (Moves s) (execPowerDown others i s) := by
  have h : InBoot s.powerReset := inBoot_powerReset
  unfold execPowerDown
  generalize s.powerReset = u at h ⊢
  exact answers_next (inBoot_mapPwr (h.kept (kept_fresh .refl)) fun _ => by rfl).moves

/-! ### The paths as the statement gives them -/

/-- What `ModesAndSafeChangeOnlyAlongTheirPaths` says of one command's step. -/
def FollowsPaths (c : Instr) (s v : State) : Prop :=
  (v.chp.mode = s.chp.mode ∨ (s.chp.mode, v.chp.mode) ∈ [(Mode.boot, .prep), (.prep, .service), (.prep, .test), (.service, .test), (.test, .service)]
    ∨ v.chp.mode = .recovery ∨ (v.chp.mode = .boot ∧ v.pwr.inReset = true))
  ∧ (s.chp.safe = true → v.chp.safe = true ∨ v.pwr.inReset = true ∨ (∃ t, c = .safeClear t ∧ v.chp.isolated = []))

/-- Moves among PREP, SERVICE and TEST, spelt out pair by pair. -/
theorem Moves.followsPaths (h : Moves s v) (c : Instr) : FollowsPaths c s v := by
  refine ⟨?_, fun hs => (h.safe hs).imp_right .inl⟩
  rcases h.mode with same | ⟨from', to'⟩ | recovery | reset
  · exact .inl same
  · generalize s.chp.mode = x at from' ⊢
    generalize v.chp.mode = y at to' ⊢
    simp only [List.mem_cons, List.not_mem_nil, or_false] at from' to'
    rcases from' with rfl | rfl | rfl <;> rcases to' with rfl | rfl <;> simp
  · exact .inr (.inr (.inl recovery))
  · exact .inr (.inr (.inr reset))

theorem Answers.followsPaths {o : Host.Outcome State Fault Refusal} (h : Answers (Moves s) o) {c : Instr} : Answers (FollowsPaths c s) o :=
  fun v e => (h v e).followsPaths c

/-- RESET_RELEASE ends the reset and starts the boot ROM: mode and SAFE stay (R518). -/
theorem followsPaths_execResetRelease {testen : Bool} {bootsel : BitVec 2} {c : Instr} :
    Answers (FollowsPaths c s) (execResetRelease testen bootsel i s) := by
  unfold execResetRelease
  extract_lets s1 rails pin s2 s3 s4 s5
  have kept : Kept true s s1 := kept_atT .refl
  clear_value s1
  have after {v : State} (h : Kept true s2 v) : FollowsPaths c s v :=
    have ⟨mode, _, safe⟩ := h.strict rfl
    have ⟨mode', _, safe'⟩ := kept.strict rfl
    ⟨.inl (mode.trans mode'), fun hs => .inl (safe (safe' hs))⟩
  refine answers_ite (answers_ite (answers_next ((Moves.of_kept (kept_mapPwr kept rfl)).followsPaths c)) (answers_next ?_))
    (answers_next ((Moves.of_kept kept).followsPaths c))
  have h4 : Kept true s2 s4 := kept_mapGuards (kept_mapMgc .refl)
  have h5 : Kept true s2 s5 := kept_foldl h4 fun _ _ h => kept_mapGuard h
  exact after (kept_flushAll h5)

/-- From BOOT to PREP, whatever was done on the way that keeps the mode. -/
theorem followsPaths_prep {c : Instr} (boot : s.chp.mode = .boot) (hk : Kept true s t) : FollowsPaths c s (t.setMode .prep) :=
  have ⟨mode, _, safe⟩ := Enters.after hk (setMode_enters .prep)
  ⟨.inr (.inl (by simp [mode, boot])), fun hs => .inl (safe hs)⟩

/-- BOOT_COMPLETE acts in BOOT alone, out of reset, and enters PREP or RECOVERY (R523). -/
theorem followsPaths_execBootComplete {c : Instr} : Answers (FollowsPaths c s) (execBootComplete i s) := by
  unfold execBootComplete
  extract_lets s1 choice s2 s3 r s4 s5
  have kept : Kept true s s1 := kept_atT .refl
  clear_value s1
  split
  next => exact answers_next ((Moves.of_kept kept).followsPaths c)
  next outside =>
    have boot : s.chp.mode = .boot := by
      rw [← (kept.strict rfl).1]
      simp only [Bool.or_eq_true, bne_iff_ne, not_or] at outside
      exact Decidable.not_not.mp outside.2
    have h2 : Kept true s s2 := kept_foldl kept fun _ _ h => kept_writeBootRecord h
    have h5 : Kept true s s5 := kept_recordBoot (kept_runImage (kept_ite (kept_record h2) h2))
    clear_value s5
    refine answers_ite (answers_next ((Moves.of_kept kept).followsPaths c)) ?_
    split
    next => exact answers_next (followsPaths_prep boot (kept_mapPwr h5 (by rfl)))
    next => exact answers_next (((Moves.of_kept h5).trans moves_recovery).followsPaths c)

/-- SAFE_CLEAR acts with no block isolated alone, and touches neither the mode nor the blocks isolated (R31). -/
theorem followsPaths_execSafeClear : Answers (FollowsPaths (.safeClear i) s) (execSafeClear i s) := by
  unfold execSafeClear
  extract_lets s1 s2
  have kept : Kept true s s1 := kept_atT .refl
  clear_value s1
  split
  next clears =>
    have none : s1.chp.isolated = [] := by
      simp only [Bool.and_eq_true, List.isEmpty_iff] at clears
      exact clears.1.2
    have cleared {u : State} (h : onlyParts [.regs] s2 u) : FollowsPaths (.safeClear i) s u := by
      have chp : u.chp = s2.chp := h .chp (by decide)
      exact ⟨.inl ((congrArg Chp.mode chp).trans (kept.strict rfl).1), fun _ => .inr (.inr ⟨i, rfl, (congrArg Chp.isolated chp).trans none⟩)⟩
    exact answers_next (cleared (only_wr (only_wr (only_causeGone only_refl (by decide)) (by decide)) (by decide)))
  next => exact answers_next ((Moves.of_kept kept).followsPaths _)

end Rows

/-- The commands that may set a mode, clear SAFE or reset the chip: word writes, requests, start-up, SAFE's own rows and the resets. -/
def movesModes : Instr → Bool
  | .registerWrite .. | .setWrite .. | .clearWrite .. | .toggleWrite .. | .statusClearWrite ..
  | .lowWordWrite .. | .highWordWrite .. | .stageWrite .. | .safeClear .. | .safeTimeout .. | .watchdogExpiry ..
  | .modeRequest .. | .regWrite .. | .memWrite .. | .kpMode .. | .updateReset .. | .powerOn .. | .pinReset ..
  | .jtagReset .. | .railReset .. | .clockReset .. | .resetRelease .. | .bootComplete .. | .prepSteps ..
  | .bootTuning .. | .autoService .. | .autoLight .. | .autoStart .. | .powerDown .. => true
  | _ => false

/-- Every other command keeps what `Kept` names, with the mode, the reset and a SAFE that stands at `k = true`: its row's lemma. -/
theorem keeps_exec {k : Bool} (c : Instr) (h : movesModes c = false) : Keeps k s (exec c s) := by
  unfold exec
  cases c with
  | bridgeTimeout => exact kept_execBridgeTimeout .refl
  | lowWordRead => exact kept_execLowWordRead .refl
  | highWordRead => exact kept_execHighWordRead .refl
  | cellErrorDetected => exact kept_execCellErrorDetected .refl
  | blockFault => exact kept_execBlockFault .refl
  | blockRestartReady => exact kept_execBlockRestartReady .refl
  | restartFailed => exact kept_execRestartFailed .refl
  | injectGo => exact kept_execInjectGo .refl
  | injectionTaken => exact kept_execInjectionTaken .refl
  | snapshotRequest => exact kept_execSnapshotRequest .refl
  | snapshotPeriod => exact kept_execSnapshotPeriod .refl
  | snapshotTake => exact kept_execSnapshotTake .refl
  | snapshotComplete => exact kept_execSnapshotComplete .refl
  | snapTimeout => exact kept_execSnapTimeout .refl
  | snapshotRelease => exact kept_execSnapshotRelease .refl
  | snapshotHoldExpiry => exact kept_execSnapshotHoldExpiry .refl
  | chk => exact kept_execChk .refl
  | checkComplete => exact kept_execCheckComplete .refl
  | occPreload => exact kept_execOccPreload .refl
  | applyNext => exact kept_execApplyNext .refl
  | applyAt => exact kept_execApplyAt .refl
  | cancel => exact kept_execCancel .refl
  | discard => exact kept_execDiscard .refl
  | retuneApply => exact kept_execRetuneApply .refl
  | applySkew => exact kept_execApplySkew .refl
  | copybackDone => exact kept_execCopybackDone .refl
  | stageCopyFault => exact kept_execStageCopyFault .refl
  | start => exact kept_execStart .refl
  | haltSweep => exact kept_execHaltSweep .refl
  | haltNow => exact kept_execHaltNow .refl
  | tabNop => exact kept_execTabNop .refl
  | tabWait => exact kept_execTabWait .refl
  | tabWaitu => exact kept_execTabWaitu .refl
  | tabFire => exact kept_execTabFire .refl
  | tabGate => exact kept_execTabGate .refl
  | tabRaman => exact kept_execTabRaman .refl
  | tabSwb => exact kept_execTabSwb .refl
  | tabSetc => exact kept_execTabSetc .refl
  | tabDjnz => exact kept_execTabDjnz .refl
  | tabJmp => exact kept_execTabJmp .refl
  | tabEvt => exact kept_execTabEvt .refl
  | tabHalt => exact kept_execTabHalt .refl
  | haltWaitPeriod => exact kept_execHaltWaitPeriod .refl
  | undefFetch => exact kept_execUndefFetch .refl
  | sweepBoundary => exact kept_execSweepBoundary .refl
  | syncInEdge => exact kept_execSyncInEdge .refl
  | syncMiss => exact kept_execSyncMiss .refl
  | probeEmissionEnd => exact kept_execProbeEmissionEnd .refl
  | tabGateClose => exact kept_execTabGateClose .refl
  | lookWindowEnd => exact kept_execLookWindowEnd .refl
  | pluckGo => exact kept_execPluckGo .refl
  | pluckFire => exact kept_execPluckFire .refl
  | pluckDone => exact kept_execPluckDone .refl
  | carrierPeriodStart => exact kept_execCarrierPeriodStart .refl
  | ilimTrip => exact kept_execIlimTrip .refl
  | diagSample => exact kept_execDiagSample .refl
  | proofWindowEnd => exact kept_execProofWindowEnd .refl
  | clr => exact kept_execClr .refl
  | occLiveWrite => exact kept_execOccLiveWrite .refl
  | occRefresh => exact kept_execOccRefresh .refl
  | occFrameComplete => exact kept_execOccFrameComplete .refl
  | occLatch => exact kept_execOccLatch .refl
  | gainBinStart => exact kept_execGainBinStart .refl
  | overloadStepDown => exact kept_execOverloadStepDown .refl
  | gainStepUp => exact kept_execGainStepUp .refl
  | calBlockEnd => exact kept_execCalBlockEnd .refl
  | calFactorWrite => exact kept_execCalFactorWrite .refl
  | skewCal => exact kept_execSkewCal .refl
  | skewCalDone => exact kept_execSkewCalDone .refl
  | pilotBlockEnd => exact kept_execPilotBlockEnd .refl
  | slotLaneSample => exact kept_execSlotLaneSample .refl
  | pcmLookCompress => exact kept_execPcmLookCompress .refl
  | blockLate => exact kept_execBlockLate .refl
  | phsPositionSample => exact kept_execPhsPositionSample .refl
  | pflLookInput => exact kept_execPflLookInput .refl
  | medianFlush => exact kept_execMedianFlush .refl
  | ramanSweepAccumulate => exact kept_execRamanSweepAccumulate .refl
  | dtsBlockClose => exact kept_execDtsBlockClose .refl
  | unloadLate => exact kept_execUnloadLate .refl
  | profileComplete => exact kept_execProfileComplete .refl
  | frameReady => exact kept_execFrameReady .refl
  | tileWritten => exact kept_execTileWritten .refl
  | runStart => exact kept_execRunStart .refl
  | aarNop => exact kept_execAarNop .refl
  | aarDone => exact kept_execAarDone .refl
  | aarJmp => exact kept_execAarJmp .refl
  | aarBr => exact kept_execAarBr .refl
  | aarLoop => exact kept_execAarLoop .refl
  | aarSli => exact kept_execAarSli .refl
  | aarSadd => exact kept_execAarSadd .refl
  | aarSsub => exact kept_execAarSsub .refl
  | aarSmul => exact kept_execAarSmul .refl
  | aarSmulq => exact kept_execAarSmulq .refl
  | aarSshl => exact kept_execAarSshl .refl
  | aarSshr => exact kept_execAarSshr .refl
  | aarSand => exact kept_execAarSand .refl
  | aarSor => exact kept_execAarSor .refl
  | aarSmin => exact kept_execAarSmin .refl
  | aarSmax => exact kept_execAarSmax .refl
  | aarSld => exact kept_execAarSld .refl
  | aarSst => exact kept_execAarSst .refl
  | aarSrd => exact kept_execAarSrd .refl
  | aarVld => exact kept_execAarVld .refl
  | aarVst => exact kept_execAarVst .refl
  | aarVmul => exact kept_execAarVmul .refl
  | aarVcmul => exact kept_execAarVcmul .refl
  | aarVadd => exact kept_execAarVadd .refl
  | aarVsub => exact kept_execAarVsub .refl
  | aarVmac => exact kept_execAarVmac .refl
  | aarVmacc => exact kept_execAarVmacc .refl
  | aarAclr => exact kept_execAarAclr .refl
  | aarAmov => exact kept_execAarAmov .refl
  | aarFout => exact kept_execAarFout .refl
  | aarBwin => exact kept_execAarBwin .refl
  | aarBfft => exact kept_execAarBfft .refl
  | aarBrfft => exact kept_execAarBrfft .refl
  | aarBpwr => exact kept_execAarBpwr .refl
  | aarBsum => exact kept_execAarBsum .refl
  | aarBmax => exact kept_execAarBmax .refl
  | aarBmin => exact kept_execAarBmin .refl
  | aarBstat => exact kept_execAarBstat .refl
  | aarBmov => exact kept_execAarBmov .refl
  | frameOverrun => exact kept_execFrameOverrun .refl
  | coreSwitch => exact kept_execCoreSwitch .refl
  | constCopyDone => exact kept_execConstCopyDone .refl
  | constReloadDone => exact kept_execConstReloadDone .refl
  | reloadFail => exact kept_execReloadFail .refl
  | featureRecordArrival => exact kept_execFeatureRecordArrival .refl
  | zoneStep => exact kept_execZoneStep .refl
  | idleStep => exact kept_execIdleStep .refl
  | zoneTimerExpire => exact kept_execZoneTimerExpire .refl
  | eventEnqueue => exact kept_execEventEnqueue .refl
  | armOn => exact kept_execArmOn .refl
  | armOff => exact kept_execArmOff .refl
  | muFire => exact kept_execMuFire .refl
  | calFire => exact kept_execCalFire .refl
  | firePulseEnd => exact kept_execFirePulseEnd .refl
  | fireEdge => exact kept_execFireEdge .refl
  | fireEdgeAccept => exact kept_execFireEdgeAccept .refl
  | armBusChange => exact kept_execArmBusChange .refl
  | armForeign => exact kept_execArmForeign .refl
  | fireStuck => exact kept_execFireStuck .refl
  | powerBin => exact kept_execPowerBin .refl
  | montxSample => exact kept_execMontxSample .refl
  | monrxSample => exact kept_execMonrxSample .refl
  | intlkChange => exact kept_execIntlkChange .refl
  | intlkTrip => exact kept_execIntlkTrip .refl
  | intlkClosed => exact kept_execIntlkClosed .refl
  | peerStatus => exact kept_execPeerStatus .refl
  | peerLost => exact kept_execPeerLost .refl
  | enableClockStop => exact kept_execEnableClockStop .refl
  | trip => exact kept_execTrip .refl
  | selftest => exact kept_execSelftest .refl
  | selftestDone => exact kept_execSelftestDone .refl
  | learn => exact kept_execLearn .refl
  | learnComplete => exact kept_execLearnComplete .refl
  | learnAbort => exact kept_execLearnAbort .refl
  | restart => exact kept_execRestart .refl
  | timedRestart => exact kept_execTimedRestart .refl
  | restartPluck => exact kept_execRestartPluck .refl
  | restartPluckWindowEnd => exact kept_execRestartPluckWindowEnd .refl
  | rowCommit => exact kept_execRowCommit .refl
  | captureRequest => exact kept_execCaptureRequest .refl
  | rowHandover => exact kept_execRowHandover .refl
  | captureAbort => exact kept_execCaptureAbort .refl
  | captureRelease => exact kept_execCaptureRelease .refl
  | cmpFlushTimeout => exact kept_execCmpFlushTimeout .refl
  | cmpBlockRelease => exact kept_execCmpBlockRelease .refl
  | cvuStart => exact kept_execCvuStart .refl
  | cvuFinish => exact kept_execCvuFinish .refl
  | cvuReset => exact kept_execCvuReset .refl
  | feed => exact kept_execFeed .refl
  | runWrite => exact kept_execRunWrite .refl
  | cvuDramDone => exact kept_execCvuDramDone .refl
  | dramRequest => exact kept_execDramRequest .refl
  | dramReadReturn => exact kept_execDramReadReturn .refl
  | requestAge => exact kept_execRequestAge .refl
  | rowIdleClose => exact kept_execRowIdleClose .refl
  | refreshInterval => exact kept_execRefreshInterval .refl
  | mr4Poll => exact kept_execMr4Poll .refl
  | mr4Result => exact kept_execMr4Result .refl
  | refreshComplete => exact kept_execRefreshComplete .refl
  | rhWindowEnd => exact kept_execRhWindowEnd .refl
  | powerDownEntry => exact kept_execPowerDownEntry .refl
  | selfRefreshEntry => exact kept_execSelfRefreshEntry .refl
  | scrubRead => exact kept_execScrubRead .refl
  | train => exact kept_execTrain .refl
  | trainDone => exact kept_execTrainDone .refl
  | retrain => exact kept_execRetrain .refl
  | zqCalibration => exact kept_execZqCalibration .refl
  | sequenceCycleStart => exact kept_execSequenceCycleStart .refl
  | conversionEnd => exact kept_execConversionEnd .refl
  | refInj => exact kept_execRefInj .refl
  | injTrigger => exact kept_execInjTrigger .refl
  | refCal => exact kept_execRefCal .refl
  | refCalPeriod => exact kept_execRefCalPeriod .refl
  | refCalDone => exact kept_execRefCalDone .refl
  | refFactorWrite => exact kept_execRefFactorWrite .refl
  | complianceOpen => exact kept_execComplianceOpen .refl
  | tachEdge => exact kept_execTachEdge .refl
  | tiuOverflow => exact kept_execTiuOverflow .refl
  | rateTimeout => exact kept_execRateTimeout .refl
  | tiuArm => exact kept_execTiuArm .refl
  | tiuDisarm => exact kept_execTiuDisarm .refl
  | frameReceive => exact kept_execFrameReceive .refl
  | macDown => exact kept_execMacDown .refl
  | macUp => exact kept_execMacUp .refl
  | tsPop => exact kept_execTsPop .refl
  | plDetectProbe => exact kept_execPlDetectProbe .refl
  | plTrainStart => exact kept_execPlTrainStart .refl
  | plTrainingFrame => exact kept_execPlTrainingFrame .refl
  | plTrainTimeout => exact kept_execPlTrainTimeout .refl
  | plCodeword => exact kept_execPlCodeword .refl
  | plLockTimeout => exact kept_execPlLockTimeout .refl
  | plCapsSend => exact kept_execPlCapsSend .refl
  | plCapsTimeout => exact kept_execPlCapsTimeout .refl
  | plDownHoldEnd => exact kept_execPlDownHoldEnd .refl
  | plFlitSend => exact kept_execPlFlitSend .refl
  | plFlitReceive => exact kept_execPlFlitReceive .refl
  | plReplayTimeout => exact kept_execPlReplayTimeout .refl
  | plLaneLost => exact kept_execPlLaneLost .refl
  | plWidthRestore => exact kept_execPlWidthRestore .refl
  | plQuietEntry => exact kept_execPlQuietEntry .refl
  | plSleep => exact kept_execPlSleep .refl
  | plWake => exact kept_execPlWake .refl
  | plWakeDetect => exact kept_execPlWakeDetect .refl
  | kpOpen => exact kept_execKpOpen .refl
  | kpCommand => exact kept_execKpCommand .refl
  | kpAck => exact kept_execKpAck .refl
  | kpClose => exact kept_execKpClose .refl
  | kpClaim => exact kept_execKpClaim .refl
  | press => exact kept_execPress .refl
  | claimTimeout => exact kept_execClaimTimeout .refl
  | kpNop => exact kept_execKpNop .refl
  | regRead => exact kept_execRegRead .refl
  | memRead => exact kept_execMemRead .refl
  | kpLoad => exact kept_execKpLoad .refl
  | subscribe => exact kept_execSubscribe .refl
  | unsubscribe => exact kept_execUnsubscribe .refl
  | kpFlush => exact kept_execKpFlush .refl
  | capArm => exact kept_execCapArm .refl
  | capRead => exact kept_execCapRead .refl
  | capAbort => exact kept_execCapAbort .refl
  | capRelease => exact kept_execCapRelease .refl
  | ringRead => exact kept_execRingRead .refl
  | logRead => exact kept_execLogRead .refl
  | kpAbort => exact kept_execKpAbort .refl
  | updBegin => exact kept_execUpdBegin .refl
  | updWrite => exact kept_execUpdWrite .refl
  | updVerify => exact kept_execUpdVerify .refl
  | updActivate => exact kept_execUpdActivate .refl
  | updCommit => exact kept_execUpdCommit .refl
  | updRevert => exact kept_execUpdRevert .refl
  | updStatus => exact kept_execUpdStatus .refl
  | updAttest => exact kept_execUpdAttest .refl
  | updLogSign => exact kept_execUpdLogSign .refl
  | commandComplete => exact kept_execCommandComplete .refl
  | controlPacketSend => exact kept_execControlPacketSend .refl
  | rtoExpiry => exact kept_execRtoExpiry .refl
  | keepaliveExpiry => exact kept_execKeepaliveExpiry .refl
  | streamPacketForm => exact kept_execStreamPacketForm .refl
  | streamFillTimeout => exact kept_execStreamFillTimeout .refl
  | streamPacketDrop => exact kept_execStreamPacketDrop .refl
  | kick => exact kept_execKick .refl
  | snsConversion => exact kept_execSnsConversion .refl
  | railFault => exact kept_execRailFault .refl
  | timSet => exact kept_execTimSet .refl
  | timeStep => exact kept_execTimeStep .refl
  | ptpSync => exact kept_execPtpSync .refl
  | ppsEdge => exact kept_execPpsEdge .refl
  | ptpHoldover => exact kept_execPtpHoldover .refl
  | rateLimitSecond => exact kept_execRateLimitSecond .refl
  | flushTimeout => exact kept_execFlushTimeout .refl
  | pageProgrammed => exact kept_execPageProgrammed .refl
  | evrErase => exact kept_execEvrErase .refl
  | logErased => exact kept_execLogErased .refl
  | otpProgram => exact kept_execOtpProgram .refl
  | refClockLost => exact kept_execRefClockLost .refl
  | refClockPresent => exact kept_execRefClockPresent .refl
  | crystalFail => exact kept_execCrystalFail .refl
  | pfailLow => exact kept_execPfailLow .refl
  | pfailRise => exact kept_execPfailRise .refl
  | fireBusRelease => exact kept_execFireBusRelease .refl
  | pluckGateClose => exact kept_execPluckGateClose .refl
  | timeSlewEnd => exact kept_execTimeSlewEnd .refl
  | sectorEraseDone => exact kept_execSectorEraseDone .refl
  | ptpFrameSend => exact kept_execPtpFrameSend .refl
  | sealNChange => exact kept_execSealNChange .refl
  | _ => exact nomatch h

theorem followsPaths_exec (c : Instr) : Answers (FollowsPaths c s) (exec c s) := by
  cases hc : movesModes c with
  | false => exact fun v e => (Moves.of_kept ((keeps_exec c hc).next v e)).followsPaths c
  | true =>
    unfold exec
    cases c with
    | registerWrite | setWrite | clearWrite | toggleWrite | statusClearWrite | lowWordWrite | highWordWrite | stageWrite =>
      exact (answers_next moves_access).followsPaths
    | modeRequest => exact moves_execModeRequest.followsPaths
    | safeTimeout => exact moves_execSafeTimeout.followsPaths
    | watchdogExpiry => exact moves_execWatchdogExpiry.followsPaths
    | prepSteps => exact moves_execPrepSteps.followsPaths
    | bootTuning => exact moves_execBootTuning.followsPaths
    | autoService => exact moves_execAutoService.followsPaths
    | autoLight => exact moves_execAutoLight.followsPaths
    | autoStart => exact moves_execAutoStart.followsPaths
    | regWrite => exact moves_execRegWrite.followsPaths
    | memWrite => exact moves_execMemWrite.followsPaths
    | kpMode => exact moves_execKpMode.followsPaths
    | updateReset => exact moves_execUpdateReset.followsPaths
    | clockReset => exact moves_execClockReset.followsPaths
    | jtagReset => exact moves_execJtagReset.followsPaths
    | railReset => exact moves_execRailReset.followsPaths
    | pinReset => exact moves_execPinReset.followsPaths
    | powerOn => exact moves_execPowerOn.followsPaths
    | powerDown => exact moves_execPowerDown.followsPaths
    | resetRelease => exact followsPaths_execResetRelease
    | bootComplete => exact followsPaths_execBootComplete
    | safeClear => exact followsPaths_execSafeClear
    | _ => exact nomatch hc

/-- Settles O60: `followsPaths_exec`, row by row; all but 29 rows keep the mode, the reset and a SAFE that stands (`keeps_exec`). -/
theorem modesAndSafeChangeOnlyAlongTheirPaths : Obligations.ModesAndSafeChangeOnlyAlongTheirPaths := fun c _ _ => followsPaths_exec c _

end Sys2Proof.Proofs

end

section
/-! The tab sequencer (R73 to R103): how an instruction issues, and what a halt, a sweep boundary, a FIRE and a pluck leave. -/

namespace Sys2Proof.Proofs

open Sys2Proof Sys2Proof.Machine Sys2Proof.Safety Sys2Proof.Laws

variable {s t u v : State} {w : Nat}

/-! ### Reads after writes -/

/-- A tuned field has no live word. -/
theorem rd_wr_tuned (f g : Field) (x : Nat) (hg : g.tuned = true) : (s.wr f x).rd g = s.rd g := by
  simp [State.rd, hg, show (s.wr f x).tuned = s.tuned from funext (tuned_wr s f x)]

theorem onlyWords_mono {as bs : List Nat} (h : onlyWords as s v) (hab : as ⊆ bs) : onlyWords bs s v :=
  ⟨fun a ha => h.1 a fun hm => ha (hab hm), h.2⟩

theorem rd_of_regs (h : v.regs = s.regs) (f : Field) : v.rd f = s.rd f := by
  unfold State.rd State.tuned State.live
  rw [h]

theorem rd_of_onlyWords {as : List Nat} (h : onlyWords as s v) (f : Field) (hw : f.lo + f.width ≤ 32) (ha : f.addr ∉ as) :
    v.rd f = s.rd f := by
  obtain ⟨words, tuned, -⟩ := h
  unfold State.rd
  split
  · exact read_congr f hw _ _ (by unfold State.tuned; rw [tuned])
  · exact read_congr f hw _ _ (words _ ha).1

/-- The two words of PSQ.SWEEP. -/
def sweepWords : List Nat := [0x100028, 0x10002C]

theorem sweep_eq (s : State) : s.sweep = ((s.live 0x100028).toNat + (s.live 0x10002C).toNat * 2 ^ 32) % 2 ^ 48 := by
  unfold State.sweep
  rw [rd_live _ rfl]
  simp [Field.read, Reg.PSQ_SWEEP_SWEEP]

theorem sweep_of_onlyWords {as : List Nat} (h : onlyWords as s v) (ha : ∀ a ∈ sweepWords, a ∉ as) : v.sweep = s.sweep := by
  rw [sweep_eq, sweep_eq, (h.1 0x100028 (ha _ (by decide))).1, (h.1 0x10002C (ha _ (by decide))).1]

theorem sweep_of_regs (h : v.regs = s.regs) : v.sweep = s.sweep :=
  sweep_of_onlyWords (as := []) (onlyWords_of_regs (onlyWords_refl _ _) h) (by decide)

theorem live_wrSweep (h : storeWf s.regs.live = true) (n a : Nat) :
    (s.wr Reg.PSQ_SWEEP_SWEEP n).live a = if a = 0x10002C then BitVec.ofNat 32 (n / 2 ^ 32 % 2 ^ 16)
      else if a = 0x100028 then BitVec.ofNat 32 n else s.live a := by
  unfold State.wr
  rw [if_neg (by decide), live_setLive (wf_setLive h _ _), live_setLive h]
  rfl

theorem sweep_wrSweep (h : storeWf s.regs.live = true) (n : Nat) : (s.wr Reg.PSQ_SWEEP_SWEEP n).sweep = n % 2 ^ 48 := by
  rw [sweep_eq, live_wrSweep h, live_wrSweep h, if_neg (by decide), if_pos rfl, if_pos rfl, BitVec.toNat_ofNat, BitVec.toNat_ofNat]
  omega

theorem onlyWords_wrSweep (h : storeWf s.regs.live = true) (n : Nat) : onlyWords sweepWords s (s.wr Reg.PSQ_SWEEP_SWEEP n) := by
  refine ⟨fun a ha => ⟨?_, rfl⟩, rfl, rfl, rfl, rfl⟩
  obtain ⟨lo, hi⟩ : a ≠ 0x100028 ∧ a ≠ 0x10002C := by simpa [sweepWords] using ha
  rw [live_wrSweep h, if_neg hi, if_neg lo]

/-! ### Halts (R93, R94) -/

/-- The tab of `s` has stopped with cause `c` where it stood, and waits for nothing. -/
structure HaltedBy (c : HaltCause) (s v : State) : Prop where
  state : v.psq.state = .halted
  cause : v.psq.haltCause = c
  pc : v.psq.pc = s.psq.pc
  wait : v.psq.wait = none

theorem haltTab_psq {c : HaltCause} {mid : Bool} : HaltedBy c s (s.haltTab c mid) := by
  unfold State.haltTab
  extract_lets part sw s1 s2 s3 s4
  have h4 : s4.psq = s2.psq := only_haltBlock (ps := [.dts]) only_refl (List.Subset.refl _) .psq (by decide)
  have h1 : s1.psq.pc = s.psq.pc := congrArg Psq.pc (wr_psq _ _ _)
  exact ⟨congrArg Psq.state h4, congrArg Psq.haltCause h4, (congrArg Psq.pc h4).trans h1, congrArg Psq.wait h4⟩

theorem onlyWords_haltTab {c : HaltCause} {mid : Bool} (h : storeWf s.regs.live = true) :
    onlyWords [Reg.PSQ_TIMER_TICK.addr] s (s.haltTab c mid) := by
  unfold State.haltTab
  extract_lets part sw s1 s2 s3 s4
  have h4 : s4.regs = s1.regs := only_haltBlock (ps := [.dts]) only_refl (List.Subset.refl _) .regs (by decide)
  exact onlyWords_of_regs (onlyWords_wr (onlyWords_refl _ _) h _ _ (by decide) (by decide)) h4

/-! ### Issuing an instruction (R81) -/

theorem tabStep_of_issues (h : issues s w u) {fits : Bool} (hf : fits = true) (f : State → State) : s.tabStep fits w f = f u := by
  obtain ⟨i, fetch, hu, runs, word⟩ := h
  simp [State.tabStep, hf, fetch, ← hu, runs, word]

/-- What an instruction's row answers where it issues. -/
theorem next_of_issues (h : issues s w u) {fits : Bool} (hf : fits = true) {f : State → State} (hv : f u = v) :
    (.next (s.tabStep fits w f) : Host.Outcome State Fault Refusal) = .next v := by
  rw [tabStep_of_issues h hf, hv]

theorem settleHalt_wait (h : s.psq.wait = none) : s.settleHalt.psq.wait = none := by
  unfold State.settleHalt
  split
  · split
    · rw [wr_psq, haltTab_psq.wait]
    · exact h
  · exact h

/-- Of what an instant brings, only a halt that was due touches the sequencer. -/
theorem only_atT_settleHalt (i : Instant) : onlyParts [.regs, .tiu, .eth] (s.advance i).settleHalt (s.atT i) := by
  unfold State.atT
  exact only_foldl (only_foldl only_refl fun _ _ h => only_settleEarly h (by decide))
    fun _ _ h => only_ite h (only_drainMac h (by decide))

theorem atT_psq (i : Instant) : (s.atT i).psq = (s.advance i).settleHalt.psq := only_atT_settleHalt i .psq (by decide)

/-- A field `g` of the sequencer after an update, by what the update makes of it. -/
theorem mapPsq_field {α : Type} {f : Psq → Psq} {g h : Psq → α} (hf : ∀ p, g (f p) = h p) : g (s.mapPsq f).psq = h s.psq := hf _

theorem retune_wait {n entry : Nat} : (s.retune n entry).psq.wait = s.psq.wait := by
  unfold State.retune
  extract_lets s1 s2 s3 s4 p s5 s6 s7
  have h1 : s1.psq = s.psq := only_switchTuning only_refl (List.Subset.refl _) .psq (by decide)
  have h3 : s3.psq = s1.psq := by rw [event_psq, bump_psq, wr_psq]
  have h4 : s4.psq.wait = s3.psq.wait := mapPsq_field (g := Psq.wait) fun _ => rfl
  have h5 : s5.psq.wait = s4.psq.wait := mapPsq_field (g := Psq.wait) fun _ => rfl
  have h6 : s6.psq = s5.psq := mapGuards_psq _ _
  have h7 : s7.psq = s6.psq := only_record (ps := [.regs, .evr]) only_refl (List.Subset.refl _) .psq (by decide)
  have h8 : (s7.notify ntApply [n, s7.rd Reg.CHP_TUNING_ID_ID]).psq = s7.psq :=
    only_notify (ps := [.kpe]) only_refl (List.Subset.refl _) .psq (by decide)
  rw [h8, h7, h6, h5, h4, h3, h1]

theorem tuneIfDue_wait : s.tuneIfDue.psq.wait = s.psq.wait := by
  cases hd : s.chp.retuneDue with
  | none => simp [State.tuneIfDue, hd]
  | some d =>
    have hc : s.clipToNow.psq = s.psq := only_clipToNow (ps := [.regs, .psy]) only_refl (List.Subset.refl _) .psq (by decide)
    rw [tuneIfDue_of_due hd, retune_wait, hc]

/-- A tab that issues an instruction does not wait in an SWB. -/
theorem issues_wait (h : issues s w u) : u.psq.wait = none := by
  obtain ⟨i, fetch, hu, -⟩ := h
  have hw : s.psq.wait = none := by
    unfold State.nextFetch at fetch
    split at fetch
    next c => simpa using (Bool.and_eq_true_iff.mp c).2
    next => cases fetch
  rw [hu, tuneIfDue_wait, atT_psq, settleHalt_wait (s := s.advance i) hw]

/-! ### The tab's instructions (R81 to R94) -/

theorem modAt_const {α : Type} (xs : List α) (k : Nat) (a : α) : modAt xs k (fun _ => a) = xs.set k a := by
  induction xs generalizing k with
  | nil => rfl
  | cons x xs ih => cases k with
    | zero => rfl
    | succ k => exact congrArg _ (ih k)

/-- Settles O12: each row of the table where its word issues (`next_of_issues`). -/
theorem tabInstructionsMoveThePc : Obligations.TabInstructionsMoveThePc := by
  unfold Obligations.TabInstructionsMoveThePc
  intro s u
  refine ⟨?nop, ?wait, ?waituAhead, ?waituNow, ?waituLate, ?setc, ?djnzEnds, ?djnzLoops, ?jmp, ?evt, ?halt⟩
  case nop => exact fun h => next_of_issues h rfl rfl
  case wait => exact fun n hn h => next_of_issues h (decide_eq_true hn) rfl
  case waituAhead =>
    intro n hn h ahead
    refine next_of_issues h (decide_eq_true hn) ?_
    simp only [if_pos ahead, if_neg (Nat.lt_asymm ahead)]
    rfl
  case waituNow =>
    intro n hn h now
    refine next_of_issues h (decide_eq_true hn) ?_
    simp only [now, Nat.lt_irrefl, if_false]
    rfl
  case waituLate =>
    intro n hn h late
    refine next_of_issues h (decide_eq_true hn) ?_
    simp only [if_pos late, if_neg (Nat.lt_asymm late)]
    rfl
  case setc =>
    intro k n hk hn h
    refine next_of_issues h (by simp only [hk, hn, decide_true, Bool.and_self]) ?_
    simp only [modAt_const]
    rfl
  case djnzEnds =>
    intro k a hk ha h one
    refine next_of_issues h (by simp only [hk, ha, decide_true, Bool.and_self]) ?_
    simp only [List.getD_eq_getElem?_getD, one, Option.getD_some, modAt_const]
    exact if_pos (by decide)
  case djnzLoops =>
    intro k a c hk ha h count more
    refine next_of_issues h (by simp only [hk, ha, decide_true, Bool.and_self]) ?_
    have left : c - 1 ≠ 0 := by bv_omega
    simp only [List.getD_eq_getElem?_getD, count, Option.getD_some, modAt_const]
    exact if_neg left
  case jmp => exact fun a ha h => next_of_issues h (decide_eq_true ha) rfl
  case evt => exact fun c hc h => next_of_issues h (decide_eq_true hc) rfl
  case halt =>
    intro h
    exact ⟨_, next_of_issues h rfl rfl, haltTab_psq.state, haltTab_psq.cause, haltTab_psq.pc, only_haltTab only_refl (by decide)⟩

/-- What a FIRE leaves: one probe and one look more, both of the slot and at the pin instant. -/
structure OpensLook (slot shape sub : Nat) (s v : State) : Prop where
  probes : v.psq.probes = s.psq.probes ++ [s.probe slot shape 256 (s.pinAt sub) false]
  looks : ∃ g l, v.psq.looks = s.psq.looks.map g ++ [l] ∧ l.slot = slot ∧ l.shape = shape ∧ l.fireAt = s.pinAt sub
    ∧ l.windowEnd = s.pinAt sub + s.psq.period * 3200
  pc : v.psq.pc = s.psq.pc
  issue : v.psq.issue = s.psq.issue

theorem openLook_opens {slot shape sub : Nat} : OpensLook slot shape sub s (s.openLook slot shape sub) := by
  unfold State.openLook
  extract_lets pin off hit atRetune hits look s1 s2
  have h2 : s2.psq = s1.psq := bump_psq _ _
  have h3 : (if hits.isEmpty then s2 else (s2.event [Reg.PSQ_STAT_COLLIDE]).bump Reg.PSQ_COLLIDE_CNT).psq = s1.psq := by
    split
    · exact h2
    · rw [bump_psq, event_psq, h2]
  refine ⟨?_, ?_, ?_, ?_⟩ <;> rw [h3]
  · rfl
  · exact ⟨_, look, rfl, rfl, rfl, rfl, rfl⟩
  · rfl
  · rfl

/-- Settles O13: `openLook_opens` for the FIRE that starts a probe, one branch of the row's meaning for each other clause. -/
theorem tabInstructionsDriveTheLight : Obligations.TabInstructionsDriveTheLight := by
  unfold Obligations.TabInstructionsDriveTheLight
  intro s u
  refine ⟨?fire, ?fireInactive, ?gate, ?raman, ?swbFirst, ?swbWaits⟩
  case fire =>
    intro k p b hk hp hb h on free
    have idle : u.psq.probes.any (fun x => x.slot == k && decide (u.pinAt b < x.endAt)) = false := by
      refine List.any_eq_false.mpr fun x hx => ?_
      rw [Bool.and_eq_true, beq_iff_eq, decide_eq_true_iff]
      exact fun ⟨slot, busy⟩ => Nat.not_le.mpr busy (free x hx slot)
    have opens : OpensLook k p b u (u.openLook k p b) := openLook_opens
    obtain ⟨g, l, looks, slot, shape, fireAt, windowEnd⟩ := opens.looks
    have probes' : ((u.openLook k p b).tabNext 1).psq.probes = _ := opens.probes
    have looks' : ((u.openLook k p b).tabNext 1).psq.looks = _ := looks
    have fires : exec (.tabFire k p b) s = .next ((u.openLook k p b).tabNext 1) :=
      next_of_issues h (by simp only [hk, hp, hb, decide_true, Bool.and_self])
        (by simp only [on, idle, Bool.not_true, Bool.false_eq_true, if_false])
    refine ⟨_, fires, ?_, ?_, ?_, ?_, ?_, ?_, ?_⟩
    · rw [probes', List.dropLast_concat]
    · rw [probes', List.getLast?_concat]; rfl
    · rw [looks', List.length_append, List.length_map]; rfl
    · rw [looks', List.getLast?_concat, Option.map_some, slot, shape, fireAt, windowEnd]; rfl
    · exact congrArg (fun n => (n + 1) % 4096) opens.pc
    · exact congrArg (· + 1) opens.issue
    · exact only_tabNext (only_openLook only_refl (by decide)) (by decide)
  case fireInactive =>
    intro k p b hk hp hb h off
    refine next_of_issues h (by simp only [hk, hp, hb, decide_true, Bool.and_self]) ?_
    simp only [off, Bool.not_false, if_true]
    rfl
  case gate =>
    intro b w hb hw h closed pos
    refine next_of_issues h (by simp only [hb, hw, decide_true, Bool.and_self]) ?_
    simp only [State.mapPsq, closed, if_neg (Nat.ne_of_gt pos)]
    rfl
  case raman =>
    intro b hb h first
    refine next_of_issues h (decide_eq_true hb) ?_
    simp only [first, Bool.false_eq_true, if_false]
    rfl
  case swbFirst =>
    intro pat hp h leads first
    exact next_of_issues h (decide_eq_true hp) ((if_neg (Bool.eq_false_iff.mp leads)).trans (if_pos first))
  case swbWaits =>
    intro pat hp h leads later early
    refine next_of_issues h (decide_eq_true hp) ?_
    simp [leads, later, Nat.not_lt.mpr early, Nat.max_eq_right early, State.mapPsq]

/-! ### The sweep boundary (R88, R90, R94) -/

/-- The live words in which a boundary may count, beside PSQ.SWEEP. -/
def boundaryWords : List Nat := [Reg.SRC_DERATE_NOW_F.addr, Reg.PHS_STAT_RESEAT.addr]

theorem onlyWords_sweepBegins {inst : Nat} (h : storeWf s.regs.live = true) : onlyWords boundaryWords s (s.sweepBegins inst) := by
  unfold State.sweepBegins
  extract_lets n s1 s2 s3 s4 s5 s6
  obtain ⟨w1, wf1⟩ : onlyWords boundaryWords s s1 ∧ storeWf s1.regs.live = true := by
    unfold s1
    split
    · exact ⟨onlyWords_of_regs (onlyWords_wr (onlyWords_refl _ _) h _ _ (by decide) (by decide)) (mapSrc_regs _ _), wf_wr h _ _⟩
    · exact ⟨onlyWords_refl _ _, h⟩
  have h3 : s3.regs = s1.regs :=
    only_ite (ps := [.occ]) (only_occStart (only_mapOcc only_refl (List.Subset.refl _)) (List.Subset.refl _))
      (only_mapOcc only_refl (List.Subset.refl _)) .regs (by decide)
  have w3 : onlyWords boundaryWords s s3 := onlyWords_of_regs w1 h3
  have w4 : onlyWords boundaryWords s s4 := by
    unfold s4
    split
    · exact onlyWords_event (onlyWords_of_regs w3 (mapPhs_regs _ _)) (by rw [mapPhs_regs, h3]; exact wf1) _ _ (by decide)
    · exact w3
  exact onlyWords_of_regs w4 rfl

/-- The sweep that begins at `inst` for the SWB `w`. -/
structure Begins (w : SwbWait) (inst : Nat) (s v : State) : Prop where
  tick0 : v.psq.tick0 = inst
  issue : v.psq.issue = 0
  pat : v.psq.pat = w.pat
  wait : v.psq.wait = none
  pc : v.psq.pc = (s.psq.pc + 1) % 4096
  sweep : v.sweep = (s.sweep + 1) % 2 ^ 48
  words : onlyWords (sweepWords ++ boundaryWords) s v

/-- A halt set for the SWB stops the tab at its boundary, once looks without a Raman trigger are marked and a learning has counted the
sweep. -/
theorem takeBoundary_of_halt {w : SwbWait} {inst : Nat} {c : HaltCause} (h : s.psq.haltAtSwb = some c) :
    ∃ r, s.takeBoundary w inst = r.haltTab c false ∧ onlyParts [.psq, .gda, .gdb] s r := by
  unfold State.takeBoundary
  extract_lets sw s1 s2
  have h2 : s2.psq = s1.psq := only_learnSweep (ps := [.gda, .gdb]) only_refl (List.Subset.refl _) .psq (by decide)
  have waits : s2.psq.haltAtSwb = some c := (congrArg Psq.haltAtSwb h2).trans h
  rw [waits]
  exact ⟨s2, rfl, only_learnSweep (only_mapPsq only_refl (by decide)) (by decide)⟩

theorem takeBoundary_begins {w : SwbWait} {inst : Nat} (h : s.psq.haltAtSwb = none) (hs : storeWf s.regs.live = true) :
    Begins w inst s (s.takeBoundary w inst) := by
  unfold State.takeBoundary
  extract_lets sw s1 s2 n due s3 s4 s5 s6
  have learn : onlyParts [.gda, .gdb] s1 s2 := only_learnSweep only_refl (List.Subset.refl _)
  have psq2 : s2.psq = s1.psq := learn .psq (by decide)
  have regs2 : s2.regs = s.regs := learn .regs (by decide)
  have goesOn : s2.psq.haltAtSwb = none := (congrArg Psq.haltAtSwb psq2).trans h
  have wf2 : storeWf s2.regs.live = true := by rw [regs2]; exact hs
  have psq3 : s3.psq = s2.psq := wr_psq _ _ _
  have pc1 : s1.psq.pc = s.psq.pc := mapPsq_field (g := Psq.pc) fun _ => rfl
  have pc4 : s4.psq.pc = (s3.psq.pc + 1) % 4096 := mapPsq_field (g := Psq.pc) (h := fun p => (p.pc + 1) % 4096) fun _ => rfl
  have due6 : onlyParts [.guards, .chp] s4 s6 :=
    only_ite (only_mapChp (only_mapGuards only_refl (by decide)) (by decide)) (only_mapGuards only_refl (by decide))
  have regs6 : s6.regs = s3.regs := (due6 .regs (by decide)).trans (mapPsq_regs _ _)
  have words3 : onlyWords sweepWords s s3 := onlyWords_trans (onlyWords_of_regs (onlyWords_refl _ _) regs2) (onlyWords_wrSweep wf2 n)
  have words : onlyWords boundaryWords s6 (s6.sweepBegins inst) := onlyWords_sweepBegins (by rw [regs6]; exact wf_wr wf2 _ _)
  have psq : (s6.sweepBegins inst).psq = s4.psq :=
    (only_sweepBegins only_refl (List.Subset.refl _) .psq (by decide)).trans (due6 .psq (by decide))
  have sweep3 : s3.sweep = n % 2 ^ 48 := sweep_wrSweep wf2 n
  rw [goesOn]
  refine ⟨congrArg Psq.tick0 psq, congrArg Psq.issue psq, congrArg Psq.pat psq, congrArg Psq.wait psq, ?pc, ?sweep, ?words⟩
  case pc => rw [psq, pc4, psq3, psq2, pc1]
  case sweep => rw [sweep_of_onlyWords words (by decide), sweep_of_regs regs6, sweep3, Nat.mod_mod]
  case words =>
    exact onlyWords_trans (onlyWords_of_regs (onlyWords_mono words3 (by decide)) regs6) (onlyWords_mono words (by decide))

/-- A boundary whose SWB waits for the timer and is reached is taken. -/
theorem exec_sweepBoundary {t : Instant} {w : SwbWait} (runs : s.psq.state = .running) (waits : s.psq.wait = some w)
    (leads : w.follower = false) (reached : s.boundaryAt w ≤ t) :
    exec (.sweepBoundary t) s = .next ((s.atT (s.boundaryAt w)).takeBoundary w (s.boundaryAt w)) := by
  change execSweepBoundary t s = _
  simp [execSweepBoundary, waits, runs, leads, reached]

theorem exec_sweepBoundary_begins {t : Instant} {w : SwbWait} (runs : s.psq.state = .running) (waits : s.psq.wait = some w)
    (leads : w.follower = false) (reached : s.boundaryAt w ≤ t) (hu : u = s.atT (s.boundaryAt w)) (goesOn : u.psq.haltAtSwb = none)
    (wf : storeWf u.regs.live = true) :
    ∃ v, exec (.sweepBoundary t) s = .next v ∧ Begins w (s.boundaryAt w) u v ∧ v.mems = u.mems := by
  have taken := exec_sweepBoundary runs waits leads reached
  rw [← hu] at taken
  exact ⟨_, taken, takeBoundary_begins goesOn wf, only_takeBoundary only_refl (List.Subset.refl _) .mems (by decide)⟩

theorem exec_sweepBoundary_halts {t : Instant} {w : SwbWait} {c : HaltCause} (runs : s.psq.state = .running) (waits : s.psq.wait = some w)
    (leads : w.follower = false) (reached : s.boundaryAt w ≤ t) (hu : u = s.atT (s.boundaryAt w)) (halt : u.psq.haltAtSwb = some c)
    (wf : storeWf u.regs.live = true) :
    ∃ v, exec (.sweepBoundary t) s = .next v ∧ v.psq.state = .halted ∧ v.psq.haltCause = c ∧ v.sweep = u.sweep ∧ v.mems = u.mems := by
  obtain ⟨r, stops, before⟩ := takeBoundary_of_halt (w := w) (inst := s.boundaryAt w) halt
  have regs : r.regs = u.regs := before .regs (by decide)
  have words := onlyWords_haltTab (c := c) (mid := false) (s := r) (by rw [regs]; exact wf)
  refine ⟨r.haltTab c false, ?_, haltTab_psq.state, haltTab_psq.cause, ?_, ?_⟩
  · rw [exec_sweepBoundary runs waits leads reached, ← hu, stops]
  · rw [sweep_of_onlyWords words (by decide), sweep_of_regs regs]
  · exact (only_haltTab only_refl (List.Subset.refl _) .mems (by decide)).trans (before .mems (by decide))

/-- R90: the first edge that a follower accepts. -/
theorem exec_syncInEdge {t : Instant} (hu : u = s.atT t) (runs : u.psq.state = .running) (follows : u.following = true)
    (first : u.psq.syncEdge = none) (noWait : u.psq.wait = none) (late : u.psq.tick0 + (u.psq.period - 320) * 3200 ≤ t) :
    exec (.syncInEdge t) s = .next { u.wr Reg.PSQ_SYNC_RES_SUB ((t - u.psq.tick0) % 3200 / 400) with
      psq := { u.psq with syncEdge := some t } } := by
  change execSyncInEdge t s = _
  simp [execSyncInEdge, ← hu, State.mapPsq, runs, follows, first, noWait, tick, subTick, late]

theorem exec_syncMiss {t : Instant} {w : SwbWait} {b : Nat} (runs : s.psq.state = .running) (waits : s.psq.wait = some w)
    (follows : w.follower = true) (goesOn : s.psq.haltAtSwb = none) (hb : b = s.psq.tick0 + max w.tick (s.psq.period + 320) * 3200)
    (reached : b ≤ t) :
    exec (.syncMiss t) s = .next ((((s.atT b).event [Reg.PSQ_STAT_SYNC_MISS]).bump Reg.PSQ_SYNC_MISS_CNT).takeBoundary w b) := by
  subst hb
  change execSyncMiss t s = _
  unfold execSyncMiss
  rw [waits]
  exact if_pos (by simp [runs, follows, goesOn, tick, reached])

/-- The boundary for which no edge has come: it begins the next sweep after the miss is counted. -/
theorem syncMiss_begins {b : Nat} {w : SwbWait} (goesOn : u.psq.haltAtSwb = none) (wf : storeWf u.regs.live = true)
    (hv : v = ((u.event [Reg.PSQ_STAT_SYNC_MISS]).bump Reg.PSQ_SYNC_MISS_CNT).takeBoundary w b) :
    v.psq.tick0 = b ∧ v.psq.issue = 0 ∧ v.psq.pat = w.pat ∧ v.sweep = (u.sweep + 1) % 2 ^ 48
      ∧ v.rd Reg.PSQ_SYNC_MISS_CNT = min (u.rd Reg.PSQ_SYNC_MISS_CNT + 1) (2 ^ 32 - 1) := by
  have wfEvent : storeWf (u.event [Reg.PSQ_STAT_SYNC_MISS]).regs.live = true := wf_event wf _
  have words : onlyWords [0x100008, 0x100054] u ((u.event [Reg.PSQ_STAT_SYNC_MISS]).bump Reg.PSQ_SYNC_MISS_CNT) :=
    onlyWords_bump (onlyWords_event (onlyWords_refl _ _) wf _ _ (by decide)) wfEvent _ (by decide) (by decide)
  have count := rd_bump wfEvent Reg.PSQ_SYNC_MISS_CNT rfl (by decide)
  have begins := takeBoundary_begins (w := w) (inst := b)
    (s := (u.event [Reg.PSQ_STAT_SYNC_MISS]).bump Reg.PSQ_SYNC_MISS_CNT)
    (by rw [bump_psq, event_psq, goesOn]) (wf_bump wfEvent _)
  rw [← hv] at begins
  refine ⟨begins.tick0, begins.issue, begins.pat, ?_, ?_⟩
  · rw [begins.sweep, sweep_of_onlyWords words (by decide)]
  · rw [rd_of_onlyWords begins.words _ (by decide) (by decide), count, rd_event_other wf _ _ _ (by decide) (by decide)]
    rfl

/-- R94: a HALT with B = 1 stops the tab at the instant at which the sweep is whole. -/
theorem exec_haltWaitPeriod {t : Instant} (h : issues s (0x3F * 2 ^ 26 + 1) u)
    (whole : u.psq.tick0 + max u.psq.issue u.psq.period * 3200 ≤ t) :
    exec (.haltWaitPeriod t) s
      = .next ((u.advance (u.psq.tick0 + max u.psq.issue u.psq.period * 3200)).learnSweep.haltTab .halt1 false) := by
  have noWait : u.psq.wait = none := issues_wait h
  change execHaltWaitPeriod t s = _
  unfold execHaltWaitPeriod
  rw [tabStep_of_issues h rfl]
  obtain ⟨-, -, -, runs, word⟩ := h
  exact if_pos (by simp [runs, word, noWait, tick, whole])

/-- Settles O15: the boundaries by `takeBoundary_begins` and `takeBoundary_of_halt`, the halt by `exec_haltWaitPeriod`. -/
theorem sweepBoundariesAreTaken : Obligations.SweepBoundariesAreTaken := by
  unfold Obligations.SweepBoundariesAreTaken
  intro t s w runs
  refine ⟨?begins, ?halts, ?edge, ?missed, ?whole⟩
  case begins =>
    intro u waits leads reached hu goesOn wf
    obtain ⟨v, hv, b, mems⟩ := exec_sweepBoundary_begins runs waits leads reached hu goesOn wf
    exact ⟨v, hv, b.tick0, b.issue, b.pat, b.wait, b.pc, b.sweep, mems⟩
  case halts => exact fun u c waits leads reached hu halt wf => exec_sweepBoundary_halts runs waits leads reached hu halt wf
  case edge => exact fun u hu runs follows first noWait late => exec_syncInEdge hu runs follows first noWait late
  case missed =>
    intro u b waits follows halt hb reached hu goesOn wf
    have taken := exec_syncMiss runs waits follows halt hb reached
    rw [← hu] at taken
    exact ⟨_, taken, syncMiss_begins goesOn wf rfl⟩
  case whole =>
    intro u h whole
    have learn : onlyParts [.now, .gda, .gdb] u (u.advance (u.psq.tick0 + max u.psq.issue u.psq.period * 3200)).learnSweep :=
      only_learnSweep (only_advance only_refl (by decide)) (by decide)
    refine ⟨_, exec_haltWaitPeriod h whole, haltTab_psq.state, haltTab_psq.cause, ?_, ?_⟩
    · exact haltTab_psq.pc.trans (congrArg Psq.pc (learn .psq (by decide)))
    · exact (only_haltTab only_refl (List.Subset.refl _) .mems (by decide)).trans (learn .mems (by decide))

/-! ### Plucks (R102, R103) and the ends of gates, looks and probes (R75, R84, R85) -/

theorem strobe_of_commandable {m : Master} {b : Block} {k : Option Nat} {f : State → State} (h : commandable s m b k) :
    s.strobe m b k false f = (f s).done := by
  obtain ⟨here, privileged⟩ := h
  simp [State.strobe, here, privileged]

/-- The registers once a pluck request has been answered with code `c`. -/
def pluckAnswered (s : State) (slot shape scale c : Nat) : State :=
  (((s.wr Reg.PSQ_PLUCK_SLOT slot).wr Reg.PSQ_PLUCK_SHAPE shape).wr Reg.PSQ_PLUCK_SCALE scale).wr Reg.PSQ_PLUCK_RES_CODE c

/-- The words a request is stored in have no part in the answer to it. -/
theorem pluckCode_wr (f : Field) (x slot shape scale : Nat) : (s.wr f x).pluckCode slot shape scale = s.pluckCode slot shape scale := by
  have enabled : (s.wr f x).on (Reg.PSY_SLOT_EN slot) = s.on (Reg.PSY_SLOT_EN slot) := by rw [State.on, rd_wr_tuned _ _ _ rfl, State.on]
  simp [State.pluckCode, enabled]

theorem pluckGo_eq (slot shape scale : Nat) : s.pluckGo slot shape scale =
    if s.pluckCode slot shape scale = 0 then (pluckAnswered s slot shape scale 0).beginPluck slot shape scale false
    else (pluckAnswered s slot shape scale (s.pluckCode slot shape scale)).event [Reg.PSQ_STAT_PLUCK_REFUSED] := by
  simp only [State.pluckGo, State.pluckRequest, pluckCode_wr]
  split
  next h => rw [h]; rfl
  next => rfl

theorem pluckAnswered_psq {slot shape scale c : Nat} : (pluckAnswered s slot shape scale c).psq = s.psq := by simp [pluckAnswered]

theorem wf_pluckAnswered {slot shape scale c : Nat} (h : storeWf s.regs.live = true) :
    storeWf (pluckAnswered s slot shape scale c).regs.live = true := wf_wr (wf_wr (wf_wr (wf_wr h _ _) _ _) _ _) _ _

theorem rd_pluckAnswered {slot shape scale c : Nat} (h : storeWf s.regs.live = true) (hc : c < 8) :
    (pluckAnswered s slot shape scale c).rd Reg.PSQ_PLUCK_RES_CODE = c := by
  unfold pluckAnswered
  rw [rd_wr (wf_wr (wf_wr (wf_wr h _ _) _ _) _ _) _ rfl (by decide)]
  exact Nat.mod_eq_of_lt hc

theorem beginPluck_regs {slot shape scale : Nat} {r : Bool} : (s.beginPluck slot shape scale r).regs = s.regs := mapPsq_regs _ _

/-- The pluck that waits. -/
theorem beginPluck_pluck {slot shape scale : Nat} {r : Bool} :
    (s.beginPluck slot shape scale r).psq.pluck.map (fun y => (y.slot, y.shape, y.scale, y.fired, y.restart))
      = some (slot, shape, scale, false, r) := rfl

theorem exec_pluckGo {m : Master} {k p x : Nat} {t : Instant} (hu : u = s.atT t) (may : commandable u m .psq none) :
    exec (.pluckGo m k p x t) s = .next (u.pluckGo (k % 8) (p % 16) (x % 256)).done := by
  change execPluckGo m k p x t s = _
  unfold execPluckGo
  rw [← hu, strobe_of_commandable may]

theorem clipToNow_of_off (h : s.on Reg.PSY_OUT_DAC_EN = false) :
    s.clipToNow = s.mapPsy (fun p => { p with dacFrom := s.now / 400 * 400 }) := by
  simp [State.clipToNow, h, subTick]

/-- What a pluck's probe leaves when it fires: one probe and one look more, and the pluck fired. -/
structure FiresPluck (y : Pluck) (s v : State) : Prop where
  pluck : v.psq.pluck = some { y with fired := true }
  probes : ∃ x, v.psq.probes = s.psq.probes ++ [x] ∧ (x.slot, x.pluck, x.fireAt) = (y.slot, true, y.fireAt)
  looks : ∃ l, v.psq.looks = s.psq.looks ++ [l] ∧ (l.slot, l.shape, l.pat, l.pluck) = (y.slot, y.shape, 15, true)

theorem firePluck_fires {y : Pluck} : FiresPluck y s (s.firePluck y) := by
  unfold State.firePluck
  extract_lets look s1
  have h : (s1.bump (Reg.PSQ_FIRE_CNT_COUNT y.slot)).psq = s1.psq := bump_psq _ _
  exact ⟨congrArg Psq.pluck h, ⟨_, congrArg Psq.probes h, rfl⟩, ⟨look, congrArg Psq.looks h, rfl⟩⟩

theorem exec_pluckFire {t : Instant} {y : Pluck} (hu : u = s.atT t) (hy : u.psq.pluck = some y) (waits : y.fired = false)
    (due : y.fireAt ≤ u.now) : exec (.pluckFire t) s = .next (u.firePluck y) := by
  change execPluckFire t s = _
  unfold execPluckFire
  rw [← hu]
  simp only [hy]
  exact if_pos (by simp [waits, due])

theorem exec_pluckGateClose {t : Instant} {y : Pluck} (hu : u = s.atT t) (hy : u.psq.pluck = some y) (due : y.closeAt ≤ u.now) :
    exec (.pluckGateClose t) s = .next { u with psq := { u.psq with
      pluck := some { y with gateClosed := true }, gateShut := max u.psq.gateShut y.closeAt } } := by
  change execPluckGateClose t s = _
  unfold execPluckGateClose
  rw [← hu]
  simp only [hy]
  exact if_pos due

theorem exec_pluckDone {t : Instant} {y : Pluck} (hu : u = s.atT t) (hy : u.psq.pluck = some y) (ours : y.restart = false)
    (fired : y.fired = true) (due : y.windowEnd ≤ u.now) :
    exec (.pluckDone t) s = .next
      ((({ u with psq := { u.psq with pluck := none } }).event [Reg.PSQ_STAT_PLUCK_DONE]).bump Reg.PSQ_PLUCK_CNT) := by
  change execPluckDone t s = _
  unfold execPluckDone
  rw [← hu]
  simp only [hy]
  exact if_pos (by simp [ours, fired, due])

theorem exec_tabGateClose {t : Instant} {g : Nat × Nat} (hu : u = s.atT t) (hg : u.psq.gate = some g) (due : g.2 ≤ u.now) :
    exec (.tabGateClose t) s = .next { u with psq := { u.psq with gate := none, gateShut := max u.psq.gateShut g.2 } } := by
  change execTabGateClose t s = _
  unfold execTabGateClose
  rw [← hu]
  simp only [State.mapPsq, hg, Option.bind_some, if_pos due]

theorem exec_probeEmissionEnd {t : Instant} {x : Probe} {xs : List Probe} (hu : u = s.atT t) (hx : u.psq.probes = x :: xs)
    (due : x.endAt ≤ u.now) (off : u.on Reg.PSY_OUT_DAC_EN = false) :
    exec (.probeEmissionEnd x.slot t) s = .next { u with
      psq := { u.psq with probes := xs }, psy := { u.psy with dacFrom := u.now / 400 * 400 } } := by
  change execProbeEmissionEnd x.slot t s = _
  simp [execProbeEmissionEnd, ← hu, hx, due, clipToNow_of_off off, State.mapPsq, State.mapPsy, dropProbe]

/-- The earliest look of a slot is over, and its tag is kept. -/
theorem endLook_cons {l : Look} {ls : List Look} {now : Nat} (opened : l.ended = false) (due : l.windowEnd ≤ now) :
    endLook (l :: ls) l.slot now = { l with ended := true } :: ls := by
  simp [endLook, opened, due]

theorem exec_lookWindowEnd {t : Instant} {k : Nat} (hu : u = s.atT t) :
    ∃ v, exec (.lookWindowEnd k t) s = .next v
      ∧ v.psq.looks = (endLook u.psq.looks k u.now).filter (fun l => !(l.ended && l.windowEnd + 10 * ms ≤ u.now))
      ∧ onlyParts [.psq] u v := by
  refine ⟨_, rfl, ?_, ?_⟩ <;> rw [← hu]
  · rfl
  · exact only_mapPsq only_refl (by decide)

theorem exec_undefFetch (hv : s.nextFetch.map (fun t => (s.atT t).tuneIfDue) = some v) (runs : v.psq.state = .running)
    (undefined : tabDefined v.tabWord = false) : exec .undefFetch s = .next (v.blockFault .psq none 1 0) := by
  obtain ⟨i, fetch, hi⟩ := Option.map_eq_some_iff.mp hv
  change execUndefFetch s = _
  simp [execUndefFetch, fetch, hi, runs, undefined]

/-- Settles O16: the answer to a request by `pluckGo_eq`, each event by its row's own lemma. -/
theorem plucksAndLooksRunTheirCourse : Obligations.PlucksAndLooksRunTheirCourse := by
  unfold Obligations.PlucksAndLooksRunTheirCourse
  intro t s u hu
  refine ⟨?accepted, ?refused, ?fires, ?gateCloses, ?done, ?tabGateCloses, ?emitted, ?lookEnds, ?undefined⟩
  case accepted =>
    intro m k p x may halted serves safe slot free armedA armedB scale shape wf
    have nothing : u.pluckCode (k % 8) (p % 16) (x % 256) = 0 := by
      rcases serves with mode | mode <;>
        simp [State.pluckCode, halted, mode, safe, slot, free, armedA, armedB, scale, shape]
    refine ⟨_, exec_pluckGo hu may, ?_, ?_⟩
    all_goals rw [pluckGo_eq, if_pos nothing]
    · rw [rd_of_regs (done_regs _), rd_of_regs beginPluck_regs, rd_pluckAnswered wf (by decide)]
    · rw [done_psq, beginPluck_pluck]
  case refused =>
    intro m k p x may runs wf
    have running : u.pluckCode (k % 8) (p % 16) (x % 256) = 1 := if_pos runs
    refine ⟨_, exec_pluckGo hu may, ?_, ?_⟩
    all_goals rw [pluckGo_eq, running, if_neg (by decide)]
    · rw [done_psq, event_psq, pluckAnswered_psq]
    · rw [rd_of_regs (done_regs _), rd_event_other (wf_pluckAnswered wf) _ _ _ (by decide) (by decide), rd_pluckAnswered wf (by decide)]
  case fires =>
    intro y hy waits due
    have fires : FiresPluck y u (u.firePluck y) := firePluck_fires
    obtain ⟨x, probes, probe⟩ := fires.probes
    obtain ⟨l, looks, look⟩ := fires.looks
    refine ⟨_, exec_pluckFire hu hy waits due, fires.pluck, ?_, ?_, ?_, ?_, only_firePluck only_refl (by decide)⟩
    · rw [probes, List.dropLast_concat]
    · rw [looks, List.dropLast_concat]
    · rw [probes, List.getLast?_concat, Option.map_some, probe]
    · rw [looks, List.getLast?_concat, Option.map_some, look]
  case gateCloses => exact fun y hy due => exec_pluckGateClose hu hy due
  case done => exact fun y hy ours fired due => exec_pluckDone hu hy ours fired due
  case tabGateCloses => exact fun g hg due => exec_tabGateClose hu hg due
  case emitted =>
    intro k x xs hx hk due off
    exact hk ▸ exec_probeEmissionEnd hu hx due off
  case lookEnds =>
    intro k l ls hl hk opened due kept
    obtain ⟨v, hv, looks, only⟩ := exec_lookWindowEnd (k := k) hu
    refine ⟨v, hv, ?_, only⟩
    have stays : ¬ l.windowEnd + 10 * ms ≤ u.now := Nat.not_le.mpr kept
    rw [looks, hl, ← hk, endLook_cons opened due]
    simp [stays]
  case undefined => exact fun v hv runs undef => exec_undefFetch hv runs undef

end Sys2Proof.Proofs

end

section
/-! The source drive stages (R107 to R123): what a carrier period, a trip, the diagnosis, a proof window and CLR leave of a stage. -/

namespace Sys2Proof.Proofs

open Sys2Proof Sys2Proof.Machine Sys2Proof.Safety Sys2Proof.Laws

variable {s v w : State} {k n : Nat} {t : Instant}

/-! ### Reading a stage -/

theorem modAt_eq_modify {α : Type} (xs : List α) (i : Nat) (f : α → α) : modAt xs i f = xs.modify i f := by
  induction xs generalizing i with
  | nil => simp [modAt]
  | cons x xs ih => cases i <;> simp [modAt, ih]

theorem stg_of_src (h : v.src = s.src) (k : Nat) : v.stg k = s.stg k := by rw [State.stg, h, State.stg]

/-- An update of one stage updates it or, where it is another one or out of range, nothing. -/
theorem stg_mapStg_or (k j : Nat) (f : SrcStage → SrcStage) : (s.mapStg k f).stg j = f (s.stg j) ∨ (s.mapStg k f).stg j = s.stg j := by
  simp only [State.mapStg, State.stg, mapSrc_src, modAt_eq_modify, List.getD_eq_getElem?_getD, List.getElem?_modify]
  cases s.src.stages[j]? with
  | none => exact .inr rfl
  | some x => by_cases h : k = j <;> simp [h]

theorem stg_mapStg (hk : k < s.src.stages.length) (f : SrcStage → SrcStage) : (s.mapStg k f).stg k = f (s.stg k) := by
  simp [State.mapStg, State.stg, modAt_eq_modify, hk]

theorem noteApd_src : s.noteApd.src = s.src := by
  unfold State.noteApd
  split <;> rfl

/-! ### What a fault of a stage brings (R122, R284, R287) -/

/-- No fault of a stage has come or gone, and no stage has started. -/
structure Darker (s v : State) : Prop where
  fault : ∀ k, (v.stg k).fault = (s.stg k).fault
  running : ∀ k, (s.stg k).running = false → (v.stg k).running = false

theorem Darker.of_src (h : v.src = s.src) : Darker s v :=
  ⟨fun k => by rw [stg_of_src h], fun k hr => by rwa [stg_of_src h]⟩

theorem Darker.trans (h : Darker s w) (h' : Darker w v) : Darker s v :=
  ⟨fun k => (h'.fault k).trans (h.fault k), fun k hr => h'.running k (h.running k hr)⟩

theorem darker_ite {p : Prop} [Decidable p] {a b : State} (ha : Darker s a) (hb : Darker s b) : Darker s (if p then a else b) := by
  split <;> assumption

theorem darker_mapStg_stopped (k : Nat) : Darker s (s.mapStg k SrcStage.stopped) := by
  constructor <;> intro j
  · rcases stg_mapStg_or (s := s) k j SrcStage.stopped with h | h <;> rw [h]
    rfl
  · intro hr
    rcases stg_mapStg_or (s := s) k j SrcStage.stopped with h | h <;> rw [h]
    · rfl
    · exact hr

theorem darker_foldl {α : Type} {f : State → α → State} {l : List α} (hf : ∀ u x, Darker u (f u x)) : Darker s (l.foldl f s) := by
  induction l generalizing s with
  | nil => exact .of_src rfl
  | cons x l ih => exact (hf s x).trans ih

theorem darker_stopDarkStages : Darker s s.stopDarkStages :=
  darker_foldl fun _ k => darker_ite (.of_src rfl) (darker_mapStg_stopped k)

theorem followEnables_src : s.followEnables.src = s.stopDarkStages.src := by
  have after : onlyParts [.psq, .cal, .phs, .rmx, .guards] s.stopDarkStages s.followEnables := by
    unfold State.followEnables
    extract_lets s1 s2 s3 s4 s5 s6 s7
    have lit : onlyParts [.psq, .cal, .phs, .rmx, .guards] s1 s2 := only_mapPsq only_refl (by decide)
    have dark : onlyParts [.psq, .cal, .phs, .rmx, .guards] s1 s6 :=
      only_mapCal (only_mapGuards (only_darken only_refl (by decide)) (by decide)) (by decide)
    have lit3 : onlyParts [.psq, .cal, .phs, .rmx, .guards] s1 s3 :=
      only_ite (only_mapRmx (only_mapCal lit (by decide)) (by decide)) lit
    exact only_ite (only_mapGuards lit3 (by decide)) (only_mapRmx (only_mapPhs dark (by decide)) (by decide))
  exact after .src (by decide)

theorem darker_guardEnter {g : GuardId} {st : GuardState} {c : TripCause} : Darker s (s.guardEnter g st c) := by
  unfold State.guardEnter
  extract_lets s1 s2 s3 s4
  have o2 : onlyParts [.regs, .gda, .gdb] s s2 := by
    have o1 : onlyParts [.regs, .gda, .gdb] s s1 := only_mapGuard only_refl (by decide)
    exact only_ite (only_cancelLearn (only_bump (only_event o1 (by decide)) (by decide)) (by decide))
      (only_ite (only_event o1 (by decide)) o1)
  have o3 : onlyParts [.regs, .evr] s2 s3 := only_record only_refl (by decide)
  have o4 : onlyParts [.kpe] s3 s4 := only_notify only_refl (by decide)
  have h4 : s4.src = s.src := ((o4 .src (by decide)).trans (o3 .src (by decide))).trans (o2 .src (by decide))
  have follow : Darker s s4.followEnables :=
    (Darker.of_src h4).trans (darker_stopDarkStages.trans (.of_src followEnables_src))
  exact darker_ite (.of_src rfl) follow

theorem darker_trip {g : GuardId} {c : TripCause} : Darker s (s.trip g c) := by
  have ended (u : State) : Darker u u.endAttempt :=
    .of_src (only_endAttempt (ps := [.psq, .guards]) only_refl (by decide) .src (by decide))
  unfold State.trip
  refine darker_ite (.of_src rfl) ?_
  split
  · exact .of_src rfl
  · exact .of_src rfl
  · extract_lets s1 s2 s3
    have h1 : s1.src = s.src := by
      simp only [s1]
      split
      · exact bump_src _ _
      · rfl
    have h2 : Darker s s2 := (Darker.of_src h1).trans (darker_ite (.of_src (event_src _ _)) (.of_src rfl))
    have h3 : Darker s s3 := h2.trans darker_guardEnter
    exact darker_ite (h3.trans (ended s3)) h3

/-- Stage `k` is in its fault state `f`, and does not switch. -/
structure FaultedBy (k : Nat) (f : StageFault) (v : State) : Prop where
  fault : (v.stg k).fault = f
  running : (v.stg k).running = false

/-- R122: whatever the guard does then, the stage stays in its fault state. -/
theorem stageFault_faults (hk : k < s.src.stages.length) {f : StageFault} : FaultedBy k f (s.stageFault k f) := by
  unfold State.stageFault
  extract_lets s1 s2
  have h1 : FaultedBy k f s1 :=
    ⟨congrArg SrcStage.fault (stg_mapStg hk _), congrArg SrcStage.running (stg_mapStg hk _)⟩
  have h2 : s2.src = s1.src := by rw [event_src, bump_src]
  have apd : ((s2.event [Reg.GDB_STAT_APD_FAULT]).bump Reg.GDB_APD_CNT).noteApd.src = s2.src := by
    rw [noteApd_src, bump_src, event_src]
  have after : Darker s1 (if k < 4 then s2.trip .b .stage else ((s2.event [Reg.GDB_STAT_APD_FAULT]).bump Reg.GDB_APD_CNT).noteApd) :=
    (Darker.of_src h2).trans (darker_ite darker_trip (.of_src apd))
  exact ⟨(after.fault k).trans h1.fault, after.running k h1.running⟩

/-! ### Carrier periods and windows (R110, R120) -/

/-- A stage whose proof window has ended: the window's sums begin anew, and its proof is taken. -/
def windowTaken (x : SrcStage) : SrcStage :=
  { x with
    proven := x.winProven, winEnded := true, winProven := false, winCount := 0
    curSum := 0, curCount := 0, dutySum := 0, dutyTotal := 0 }

theorem windowEnds_src : (s.windowEnds k).src = (s.mapStg k windowTaken).src := by
  unfold State.windowEnds
  extract_lets x was s1 s2 s3 s4
  have h2 : s2.src = s.src := by rw [wr_src, wr_src]
  have h3 : s3.src = (s.mapStg k windowTaken).src := by
    simp only [s3, State.mapStg, mapSrc_src, h2]
    rfl
  have h4 : s4.src = s3.src := by
    simp only [s4]
    split
    · exact event_src _ _
    · rfl
  rw [← h3, ← h4]
  split
  · exact mapRmx_src _ _
  · split
    · exact noteApd_src
    · exact Eq.refl s4.src

theorem stg_windowEnds (hk : k < s.src.stages.length) : (s.windowEnds k).stg k = windowTaken (s.stg k) := by
  rw [stg_of_src windowEnds_src, stg_mapStg hk]

theorem sameTunings_windowEnds : SameTunings s (s.windowEnds k) := by
  unfold State.windowEnds
  extract_lets x was s1 s2 s3 s4
  have h2 : SameTunings s s2 := sameTunings_wr (sameTunings_wr .refl)
  have h3 : SameTunings s s3 := h2.of_only (only_mapStg only_refl (List.Subset.refl _))
  have h4 : SameTunings s s4 := sameTunings_ite (sameTunings_event h3) h3
  exact sameTunings_ite (h4.of_only (only_mapRmx only_refl (List.Subset.refl _)))
    (sameTunings_ite (h4.of_only (only_noteApd only_refl (List.Subset.refl _))) h4)

theorem SameTunings.carrierPer (h : SameTunings s v) (k : Nat) : v.carrierPer k = s.carrierPer k := by
  rw [State.carrierPer, h.rd _ rfl, State.carrierPer]

/-- What the start of a carrier period at `i` leaves of stage `k`. -/
structure PeriodBegins (k : Nat) (i : Instant) (s v : State) : Prop where
  running : (v.stg k).running = true
  periodAt : (v.stg k).periodAt = i
  onTime : (v.stg k).proof = false → (v.stg k).onTime ≤ s.rd (Reg.SRC_STG_LIM_DMAX k) * s.carrierPer k / 65536

/-- R110, R114: a period that is no proof pulse is held to DMAX of its length, the tuned one. -/
theorem carrierPeriod_begins (hk : k < s.src.stages.length) {sense : Nat} {i : Instant} :
    PeriodBegins k i s (s.carrierPeriod k sense i) := by
  unfold State.carrierPeriod
  extract_lets s1 x per bits begun x1 x2 sp current acc lvl raw nat due pay t dmax on_ s2
  have h1 : SameTunings s s1 := sameTunings_ite sameTunings_windowEnds .refl
  have length1 : k < s1.src.stages.length := by
    simp only [s1]
    split
    · rwa [windowEnds_src, State.mapStg, mapSrc_src, modAt_length]
    · exact hk
  have length2 : k < s2.src.stages.length := by
    simp only [s2]
    split
    · rwa [bump_src]
    · exact length1
  have running1 : x1.running = true := by
    simp only [x1]
    split
    · assumption
    · rfl
  have running2 : x2.running = true := by
    simp only [x2]
    split <;> exact running1
  constructor <;> rw [stg_mapStg length2]
  · exact running2
  · intro proof
    have notDue : due = false := proof
    have cut : on_ = min t dmax := if_neg (by simp [notDue])
    rw [← h1.rd _ rfl, ← h1.carrierPer]
    rw [cut]
    exact Nat.min_le_right _ _

/-- R108, R115: a stage that starts ramps from zero. -/
theorem rampTo_zero (target step : Nat) : rampTo 0 target step = min target step := by
  unfold rampTo
  split <;> omega

/-- The first period of a stage ends no window. -/
theorem carrierPeriod_starts (hk : k < s.src.stages.length) (off : (s.stg k).running = false) {sense : Nat} {i : Instant} :
    ((s.carrierPeriod k sense i).stg k).setpoint = min (s.stageTarget k) (max 1 (s.rd (Reg.SRC_STG_ISET_RAMP k)))
      ∧ onlyParts [.src, .regs] s (s.carrierPeriod k sense i) := by
  unfold State.carrierPeriod
  extract_lets s1 x per bits begun x1 x2 sp current acc lvl raw nat due pay t dmax on_ s2
  have e1 : s1 = s := if_neg (by simp [off])
  have zero1 : x1.setpoint = 0 := by
    have e : x1 = { x.started with per := per, bits := bits } := if_neg (by simp [x, e1, off])
    rw [e]
    rfl
  have zero2 : x2.setpoint = 0 := by
    simp only [x2]
    split <;> exact zero1
  have o2 : onlyParts [.src, .regs] s s2 := by
    simp only [s2, e1]
    exact only_ite (only_bump only_refl (by decide)) only_refl
  have length2 : k < s2.src.stages.length := by
    simp only [s2]
    split
    · rwa [bump_src, e1]
    · rwa [e1]
  refine ⟨?_, only_mapStg o2 (by decide)⟩
  rw [stg_mapStg length2]
  change rampTo x2.setpoint (s1.stageTarget k) (max 1 (s1.rd (Reg.SRC_STG_ISET_RAMP k))) = _
  rw [zero2, rampTo_zero, e1]

theorem exec_carrierPeriodStart_starts {sense : Nat} (hw : w = s.atT t) (hk : k ≤ 4) (may : w.stageMay k = true)
    (off : (w.stg k).running = false) : exec (.carrierPeriodStart k sense t) s = .next (w.carrierPeriod k (sense % 4096) w.now) := by
  change execCarrierPeriodStart k sense t s = _
  unfold execCarrierPeriodStart
  simp [← hw, Nat.not_lt.mpr hk, may, off]

theorem exec_carrierPeriodStart_goesOn {sense : Nat} (hw : w = s.atT t) (hk : k ≤ 4) (may : w.stageMay k = true)
    (runs : (w.stg k).running = true) (due : (w.stg k).periodAt + (w.stg k).per * 400 ≤ w.now) :
    exec (.carrierPeriodStart k sense t) s
      = .next (w.carrierPeriod k (sense % 4096) ((w.stg k).periodAt + (w.stg k).per * 400)) := by
  change execCarrierPeriodStart k sense t s = _
  unfold execCarrierPeriodStart
  simp [← hw, Nat.not_lt.mpr hk, may, runs, subTick, due]

theorem exec_carrierPeriodStart_stops {sense : Nat} (hw : w = s.atT t) (hk : k ≤ 4) (mayNot : w.stageMay k = false) :
    exec (.carrierPeriodStart k sense t) s
      = .next (if k = 4 then (w.mapStg k SrcStage.stopped).noteApd else w.mapStg k SrcStage.stopped) := by
  change execCarrierPeriodStart k sense t s = _
  unfold execCarrierPeriodStart
  simp [← hw, Nat.not_lt.mpr hk, mayNot]

/-! ### The comparator and the diagnosis (R112, R118) -/

/-- A stage whose on-time the comparator has ended after `n` steps. -/
def onTimeCut (n : Nat) (x : SrcStage) : SrcStage :=
  { x with onTime := n, cut := x.cut + (x.onTime - n), ilimHit := true, ilimRun := x.ilimRun + 1 }

/-- The machine once the comparator has ended the on-time of stage `k`, before what the stage's faults ask. -/
def comparatorCut (w : State) (k n : Nat) : State := (w.bump (Reg.SRC_STG_ILIM_CNT k)).mapStg k (onTimeCut n)

/-- R112, R118: a trip in the first 625 steps of an on-time planned longer is a short (log entry 25), the sixteenth in a row an overcurrent. -/
theorem exec_ilimTrip (hw : w = s.atT t) (runs : (w.stg k).running = true) (cut : n < (w.stg k).onTime) :
    exec (.ilimTrip k n t) s = .next (
      if 625 ≤ (w.stg k).onTime ∧ n < 625 then (comparatorCut w k n).stageFault k .short
      else if 15 ≤ (w.stg k).ilimRun then (comparatorCut w k n).stageFault k .overcurrent
      else comparatorCut w k n) := by
  change execIlimTrip k n t s = _
  unfold execIlimTrip
  simp only [← hw, runs, cut, decide_true, Bool.and_self, if_true, Bool.and_eq_true, decide_eq_true_eq, Nat.reduceLeDiff,
    apply_ite (Host.Outcome.next (φ := Fault) (ρ := Refusal))]
  rfl

theorem exec_diagSample {i : Nat} (hw : w = s.atT t) (runs : (w.stg k).running = true) (long : 625 ≤ (w.stg k).onTime)
    (due : (w.stg k).periodAt + 250000 ≤ w.now) :
    exec (.diagSample k i t) s = .next (
      if i < w.rd (Reg.SRC_STG_DIAG_OPEN_TH k) then w.stageFault k .openLoad
      else if w.rd (Reg.SRC_STG_DIAG_SHORT_TH k) < i then w.stageFault k .short
      else w.mapStg k (fun x => { x with winProven := true })) := by
  change execDiagSample k i t s = _
  unfold execDiagSample
  simp only [← hw, runs, long, due, subTick, decide_true, Bool.and_self, if_true, Nat.reduceMul,
    apply_ite (Host.Outcome.next (φ := Fault) (ρ := Refusal))]

theorem exec_proofWindowEnd (hw : w = s.atT t) (runs : (w.stg k).running = true) (full : 1024 ≤ (w.stg k).winCount)
    (due : (w.stg k).periodAt + (w.stg k).per * 400 ≤ w.now) : exec (.proofWindowEnd k t) s = .next (w.windowEnds k) := by
  change execProofWindowEnd k t s = _
  unfold execProofWindowEnd
  simp [← hw, runs, full, due, subTick]

theorem exec_clr {m : Master} (hw : w = s.atT t) (may : commandable w m .src none) (faulted : (w.stg k).fault ≠ .none) :
    exec (.clr m k t) s = .next (w.mapStg k (fun x => { x.stopped with fault := .none })).done := by
  change execClr m k t s = _
  unfold execClr
  rw [← hw, strobe_of_commandable may, State.clearFault, if_neg faulted]

/-- Settles O17: each clause by its row's equation, the faults by `stageFault_faults`, the periods by `carrierPeriod_begins`. -/
theorem driveStagesSwitchAndFault : Obligations.DriveStagesSwitchAndFault := by
  unfold Obligations.DriveStagesSwitchAndFault
  intro k t s w hw hk hk4
  have length : k < (w.bump (Reg.SRC_STG_ILIM_CNT k)).src.stages.length := by rwa [bump_src]
  have lengthCut (n : Nat) : k < (comparatorCut w k n).src.stages.length := by
    rw [comparatorCut, State.mapStg, mapSrc_src, modAt_length]
    exact length
  refine ⟨?starts, ?goesOn, ?stops, ?cuts, ?shorts, ?overcurrent, ?diagnosis, ?window, ?clears⟩
  case starts =>
    intro sense may off
    have begins : PeriodBegins k w.now w (w.carrierPeriod k (sense % 4096) w.now) := carrierPeriod_begins hk
    obtain ⟨setpoint, only⟩ := carrierPeriod_starts hk off (sense := sense % 4096) (i := w.now)
    exact ⟨_, exec_carrierPeriodStart_starts hw hk4 may off, begins.running, begins.periodAt, setpoint, begins.onTime, only⟩
  case goesOn =>
    intro sense may runs due
    have begins := carrierPeriod_begins hk (sense := sense % 4096) (i := (w.stg k).periodAt + (w.stg k).per * 400)
    exact ⟨_, exec_carrierPeriodStart_goesOn hw hk4 may runs due, begins.periodAt, begins.onTime, only_carrierPeriod only_refl (by decide)⟩
  case stops =>
    intro sense mayNot
    refine ⟨_, exec_carrierPeriodStart_stops hw hk4 mayNot, ?_, ?_⟩
    · have same : (if k = 4 then (w.mapStg k SrcStage.stopped).noteApd else w.mapStg k SrcStage.stopped).src
          = (w.mapStg k SrcStage.stopped).src := by
        split
        · exact noteApd_src
        · rfl
      rw [stg_of_src same, stg_mapStg hk]
      rfl
    · have stopped : onlyParts [.src, .rmx] w (w.mapStg k SrcStage.stopped) := only_mapStg only_refl (by decide)
      exact only_ite (only_noteApd stopped (by decide)) stopped
  case cuts =>
    intro n runs cut late few
    refine ⟨_, exec_ilimTrip hw runs cut, ?_⟩
    rw [if_neg (by omega), if_neg (by omega)]
    have stage : (comparatorCut w k n).stg k = onTimeCut n (w.stg k) := by
      rw [comparatorCut, stg_mapStg length, stg_of_src (bump_src _ _)]
    rw [stage]
    exact ⟨rfl, runs, rfl, only_mapStg (only_bump only_refl (by decide)) (by decide)⟩
  case shorts =>
    intro n runs early long
    refine ⟨_, exec_ilimTrip hw runs (by omega), ?_⟩
    rw [if_pos ⟨long, early⟩]
    have faults : FaultedBy k .short _ := stageFault_faults (lengthCut n)
    exact ⟨faults.fault, faults.running⟩
  case overcurrent =>
    intro n runs cut late many
    refine ⟨_, exec_ilimTrip hw runs cut, ?_⟩
    rw [if_neg (by omega), if_pos many]
    have faults : FaultedBy k .overcurrent _ := stageFault_faults (lengthCut n)
    exact ⟨faults.fault, faults.running⟩
  case diagnosis =>
    intro i runs long due
    refine ⟨_, exec_diagSample hw runs long due, ?_, ?_, ?_⟩
    · intro below
      rw [if_pos below]
      exact (stageFault_faults hk).fault
    · intro atLeast above
      rw [if_neg (Nat.not_lt.mpr atLeast), if_pos above]
      exact (stageFault_faults hk).fault
    · intro atLeast atMost
      rw [if_neg (Nat.not_lt.mpr atLeast), if_neg (Nat.not_lt.mpr atMost)]
      exact ⟨stg_mapStg hk _, only_mapStg only_refl (by decide)⟩
  case window =>
    intro runs full due
    refine ⟨_, exec_proofWindowEnd hw runs full due, ?_⟩
    rw [stg_windowEnds hk]
    exact ⟨rfl, rfl, rfl, only_windowEnds only_refl (by decide)⟩
  case clears =>
    intro m may faulted
    exact ⟨_, exec_clr hw may faulted, (stg_of_src (done_src _) k).trans (stg_mapStg hk _),
      only_done (only_mapStg only_refl (by decide)) (by decide)⟩

end Sys2Proof.Proofs

end

section
/-! The optics control chain (R125 to R132): when a frame begins, how its contents are judged, and what a latch leaves. -/

namespace Sys2Proof.Proofs

open Sys2Proof Sys2Proof.Machine Sys2Proof.Safety Sys2Proof.Laws

variable {s v w : State} {t : Instant}

/-- R127: a frame of kind `k` begins on a chain that is free. -/
theorem occStart_of_free {k : FrameKind} (free : s.occ.shifting = none) (here : s.isolated .occ = false) :
    s.occStart k = s.mapOcc (fun o => { o with
      shifting := some (k, s.occFrame k), frameAt := s.now, verified := none, resendDue := false }) := by
  simp [State.occStart, free, here]

/-! ### The rows at which a frame begins (R128 to R130) -/

theorem exec_occPreload (hw : w = s.atT t) (wanted : w.occ.preloadWanted = true) (checking : w.chp.stage = .checking)
    (free : w.occ.shifting = none) (here : w.isolated .occ = false) (drivers : w.rdStage Reg.OCC_CTL_LEN ≠ 0) :
    exec (.occPreload t) s = .next ((w.occStart .preload).mapOcc (fun o => { o with preloadWanted := false })) := by
  change execOccPreload t s = _
  unfold execOccPreload
  simp [← hw, wanted, checking, free, here, drivers]

theorem exec_occLiveWrite {m : Master} {i : Nat} {x : Word} (hw : w = s.atT t) (may : commandable w m .occ none) (hi : i < 16) :
    exec (.occLiveWrite m i x t) s = .next ((w.wr (Reg.OCC_LIVE_VAL i) x.toNat).occLive).done := by
  change execOccLiveWrite m i x t s = _
  unfold execOccLiveWrite
  rw [← hw, strobe_of_commandable may, State.liveValue, if_pos hi]

theorem exec_occRefresh (hw : w = s.atT t) (on : w.rd Reg.OCC_CTL_REFRESH ≠ 0) (due : w.rd Reg.OCC_CTL_REFRESH ≤ w.occ.sinceLatch)
    (drivers : w.occLen ≠ 0) (notKept : w.occKept = false) (notChecking : w.chp.stage ≠ .checking) (unverified : w.occ.verified = none) :
    exec (.occRefresh t) s = .next (w.occStart .refresh) := by
  change execOccRefresh t s = _
  unfold execOccRefresh
  simp [← hw, on, due, drivers, notKept, notChecking, unverified]

/-! ### Live writes (R130) -/

theorem occLen_wr (f : Field) (x : Nat) : (s.wr f x).occLen = s.occLen := by
  rw [State.occLen, rd_wr_tuned _ _ _ rfl, State.occLen]

/-- A live write while the chain is free begins its frame. -/
theorem occLive_of_free (notKept : s.occKept = false) (notChecking : s.chp.stage ≠ .checking) (drivers : s.occLen ≠ 0)
    (free : s.occ.shifting = none) : s.occLive = s.occStart .live := by
  simp [State.occLive, notKept, notChecking, drivers, free]

/-- A live write while the chain is kept for a preload is held. -/
theorem occLive_of_kept (kept : s.occKept = true) :
    s.occLive = (s.mapOcc (fun o => { o with held := true })).event [Reg.OCC_STAT_LIVE_HELD] := by
  simp [State.occLive, kept]

theorem occFrame_length : (s.occFrame .live).length = s.occLen := by simp [State.occFrame]

/-- R130: a live word reads as it was written. -/
theorem rd_liveVal {i : Nat} (wf : storeWf s.regs.live = true) (x : Word) :
    (s.wr (Reg.OCC_LIVE_VAL i) x.toNat).rd (Reg.OCC_LIVE_VAL i) = x.toNat := by
  rw [rd_wr wf _ rfl (by simp [Reg.OCC_LIVE_VAL])]
  exact Nat.mod_eq_of_lt x.isLt

/-! ### A frame's end (R127) -/

/-- The words that show the returned contents of a mismatching frame. -/
def returnedWords : List Nat := (List.range 16).map fun i => (Reg.OCC_RB i).addr

theorem onlyWords_foldl_rb (f : Nat → Nat) (l : List Nat) (hl : ∀ i ∈ l, i < 16) (h : onlyWords returnedWords s v)
    (wf : storeWf v.regs.live = true) : onlyWords returnedWords s (l.foldl (fun u i => u.wr (Reg.OCC_RB i) (f i)) v) := by
  induction l generalizing v with
  | nil => exact h
  | cons i l ih =>
    have here : (Reg.OCC_RB i).addr ∈ returnedWords := List.mem_map_of_mem (List.mem_range.mpr (hl i List.mem_cons_self))
    exact ih (fun j hj => hl j (List.mem_cons_of_mem _ hj)) (onlyWords_wr h wf _ _ (by simp [Reg.OCC_RB]) here) (wf_wr wf _ _)

theorem onlyWords_occReturned (wf : storeWf s.regs.live = true) (xs : List (BitVec 16)) :
    onlyWords returnedWords s (s.occReturned xs) :=
  onlyWords_foldl_rb _ _ (fun _ hi => List.mem_range.mp hi) (onlyWords_refl _ _) wf

/-- The frame in the shift registers is `frame`, and nothing is being shifted. -/
def frameShifted (w : State) (frame : List (BitVec 16)) : State :=
  (w.bump Reg.OCC_FRAME_CNT).mapOcc (fun o => { o with shifting := none, shifted := some frame, doneAt := w.now })

/-- A frame that came back with other contents than were sent before it. -/
def frameMismatched (w : State) (k : FrameKind) (frame back : List (BitVec 16)) : State :=
  ((((frameShifted w frame).event [Reg.OCC_STAT_MISMATCH]).bump Reg.OCC_MISMATCH_CNT).occReturned back).mapOcc
    (fun o => { o with streak := o.streak + 1, preloadWanted := k = .preload })

theorem frameMismatched_occ {k : FrameKind} {frame back : List (BitVec 16)} :
    (frameMismatched w k frame back).occ = { w.occ with
      shifting := none, shifted := some frame, doneAt := w.now, streak := w.occ.streak + 1, preloadWanted := k = .preload } := by
  have returned (u : State) : (u.occReturned back).occ = u.occ :=
    only_occReturned (ps := [.regs]) only_refl (by decide) .occ (by decide)
  simp only [frameMismatched, frameShifted, mapOcc_occ, returned, bump_occ, event_occ]

theorem rd_mismatchCnt {k : FrameKind} {frame back : List (BitVec 16)} (wf : storeWf w.regs.live = true) :
    (frameMismatched w k frame back).rd Reg.OCC_MISMATCH_CNT = min (w.rd Reg.OCC_MISMATCH_CNT + 1) (2 ^ 32 - 1) := by
  have wf1 : storeWf (frameShifted w frame).regs.live = true := wf_bump wf _
  have wf2 : storeWf ((frameShifted w frame).event [Reg.OCC_STAT_MISMATCH]).regs.live = true := wf_event wf1 _
  have before : (frameShifted w frame).rd Reg.OCC_MISMATCH_CNT = w.rd Reg.OCC_MISMATCH_CNT :=
    rd_wr_other wf _ _ (by decide) (by decide) (by decide) _
  rw [frameMismatched, rd_of_regs (mapOcc_regs _ _), rd_of_onlyWords (onlyWords_occReturned (wf_bump wf2 _) _) _ (by decide) (by decide),
    rd_bump wf2 _ rfl (by decide), rd_event_other wf1 _ _ _ (by decide) (by decide), before]
  rfl

theorem exec_occFrameComplete_verified {k : FrameKind} {frame back : List (BitVec 16)} (hw : w = s.atT t)
    (shifting : w.occ.shifting = some (k, frame)) (due : w.occ.frameAt + w.occTime frame.length ≤ w.now)
    (right : ∀ x, w.occ.shifted = some x → x = back) (noLive : w.occ.liveWanted = false) :
    exec (.occFrameComplete true back t) s
      = .next ((frameShifted w frame).mapOcc (fun o => { o with streak := 0, verified := some k })) := by
  have good : w.occ.shifted.all (fun x => x == back) = true := by
    simpa [Option.all_eq_true] using right
  change execOccFrameComplete true back t s = _
  unfold execOccFrameComplete
  simp only [← hw, shifting, if_neg (Nat.not_lt.mpr due), good, Bool.not_true, Bool.false_eq_true, if_false]
  exact if_neg (by simp [noLive])

theorem exec_occFrameComplete_mismatched {k : FrameKind} {frame back x : List (BitVec 16)} (hw : w = s.atT t)
    (shifting : w.occ.shifting = some (k, frame)) (due : w.occ.frameAt + w.occTime frame.length ≤ w.now)
    (sent : w.occ.shifted = some x) (differs : x ≠ back) (few : w.occ.streak < 2) :
    exec (.occFrameComplete true back t) s = .next (frameMismatched w k frame back) := by
  have bad : w.occ.shifted.all (fun x => x == back) = false := by simpa [sent] using differs
  have notThird : ¬ 3 ≤ (frameMismatched w k frame back).occ.streak := by
    rw [frameMismatched_occ]
    simp only
    omega
  change execOccFrameComplete true back t s = _
  unfold execOccFrameComplete
  simp only [← hw, shifting, if_neg (Nat.not_lt.mpr due), bad, Bool.not_true, Bool.not_false, Bool.false_eq_true, if_false, if_true]
  exact if_neg notThird

/-! ### The latch (R128, R131, R132) -/

theorem exec_occLatch {k : FrameKind} (hw : w = s.atT t) (verified : w.occ.verified = some k) (may : w.mayLatch k = true) :
    ∃ fs, exec (.occLatch t) s = .next ((w.mapOcc (fun o => { o with
      outputs := o.shifted.getD [], oe := true, verified := none, sinceLatch := 0, retuned := false
      lateLatch := o.lateLatch && k != .afterRetune })).event fs) := by
  change ∃ fs, execOccLatch t s = _
  unfold execOccLatch
  simp only [← hw, verified, may, if_true]
  exact ⟨_, rfl⟩

/-- Settles O18: a frame begins by `occStart_of_free`, ends as its contents say, and is latched. -/
theorem opticsChainShiftsItsFrames : Obligations.OpticsChainShiftsItsFrames := by
  unfold Obligations.OpticsChainShiftsItsFrames
  intro t s w hw wf
  refine ⟨?preload, ?live, ?held, ?refresh, ?verified, ?mismatched, ?latched⟩
  case preload =>
    intro wanted checking free here drivers
    refine ⟨_, exec_occPreload hw wanted checking free here drivers, ?_⟩
    rw [occStart_of_free free here]
    exact ⟨rfl, rfl, rfl, only_mapOcc (only_mapOcc only_refl (by decide)) (by decide)⟩
  case live =>
    intro m i x may notKept notChecking drivers free hi
    refine ⟨_, exec_occLiveWrite hw may hi, ?_⟩
    have begins : (w.wr (Reg.OCC_LIVE_VAL i) x.toNat).occLive = (w.wr (Reg.OCC_LIVE_VAL i) x.toNat).occStart .live := by
      apply occLive_of_free
      · rw [State.occKept, wr_chp]
        exact notKept
      · rwa [wr_chp]
      · rwa [occLen_wr]
      · rwa [wr_occ]
    have here : (w.wr (Reg.OCC_LIVE_VAL i) x.toNat).isolated .occ = false := by
      rw [State.isolated, State.isolatedAt, wr_chp]
      exact may.1
    rw [begins, occStart_of_free (by rwa [wr_occ]) here]
    refine ⟨(rd_of_regs rfl _).trans (rd_liveVal wf x), ?_, ?_⟩
    · simp [occFrame_length, occLen_wr]
    · exact only_done (only_mapOcc (only_wr only_refl (by decide)) (by decide)) (by decide)
  case held =>
    intro m i x may kept hi
    refine ⟨_, exec_occLiveWrite hw may hi, ?_⟩
    have keeps : (w.wr (Reg.OCC_LIVE_VAL i) x.toNat).occKept = true := by
      rw [State.occKept, wr_chp]
      exact kept
    have other : (Reg.OCC_LIVE_VAL i).addr ≠ Reg.OCC_STAT_LIVE_HELD.addr := by
      simp only [Reg.OCC_LIVE_VAL, Reg.OCC_STAT_LIVE_HELD]
      omega
    rw [occLive_of_kept keeps]
    constructor
    · rw [rd_of_regs (done_regs _), rd_event_other ?wf _ _ _ (by simp [Reg.OCC_LIVE_VAL]) (.inr other),
        rd_of_regs (mapOcc_regs _ _), rd_liveVal wf]
      exact wf_wr wf _ _
    · rw [done_occ, event_occ, mapOcc_occ, wr_occ]
  case refresh =>
    intro on due drivers notKept notChecking unverified free here
    refine ⟨_, exec_occRefresh hw on due drivers notKept notChecking unverified, ?_⟩
    rw [occStart_of_free free here]
    exact ⟨rfl, only_mapOcc only_refl (by decide)⟩
  case verified =>
    intro k frame back shifting due right noLive
    exact ⟨_, exec_occFrameComplete_verified hw shifting due right noLive, rfl, rfl, rfl,
      (rd_of_regs rfl _).trans (rd_bump wf _ rfl (by decide)),
      only_mapOcc (only_mapOcc (only_bump only_refl (by decide)) (by decide)) (by decide)⟩
  case mismatched =>
    intro k frame back x shifting due sent differs few
    refine ⟨_, exec_occFrameComplete_mismatched hw shifting due sent differs few, ?_, ?_, rd_mismatchCnt wf, ?_⟩
    · rw [frameMismatched_occ]
    · rw [frameMismatched_occ]
    · have shifted : onlyParts [.occ, .regs] w (frameShifted w frame) := only_mapOcc (only_bump only_refl (by decide)) (by decide)
      exact only_mapOcc (only_occReturned (only_bump (only_event shifted (by decide)) (by decide)) (by decide)) (by decide)
  case latched =>
    intro k frame verified may sent
    obtain ⟨fs, latches⟩ := exec_occLatch hw verified may
    refine ⟨_, latches, ?_, ?_, ?_, ?_, only_event (only_mapOcc only_refl (by decide)) (by decide)⟩
    all_goals rw [event_occ, mapOcc_occ]
    rw [sent]
    rfl

end Sys2Proof.Proofs

end

section
/-! The position engine (R156 to R168): what a look leaves of its position's state and of the sample that it gives. -/

namespace Sys2Proof.Proofs

open Sys2Proof Sys2Proof.Machine Sys2Proof.Safety Sys2Proof.Laws

variable {s v w : State} {x : SlotSample} {l : Look} {t : Instant} {n k p : Nat}

/-! ### Position states -/

theorem getD_modAt {α : Type} {xs : List α} (hk : k < xs.length) (f : α → α) (d : α) :
    (modAt xs k f).getD k d = f (xs.getD k d) := by
  simp [modAt_eq_modify, hk]

theorem posState_of_pos (h : v.phs.pos = s.phs.pos) (p : Nat) : v.posState p = s.posState p := by
  rw [State.posState, h, State.posState]

/-- The state of position `p` is about position `p`. -/
theorem posState_pos (s : State) (p : Nat) : (s.posState p).pos = p := by
  unfold State.posState
  split
  next x found => simpa using List.find?_some found
  next => rfl

/-- A position's state reads as it was put back. -/
theorem posState_setPos (s : State) (y : PosState) : (s.setPos y).posState y.pos = y := by
  have found : (s.setPos y).phs.pos.find? (fun z => z.pos == y.pos) = some y := by
    unfold State.setPos
    rw [mapPhs_phs]
    split
    next held =>
      generalize s.phs.pos = zs at held
      induction zs with
      | nil => simp at held
      | cons z zs ih =>
        by_cases hz : z.pos = y.pos
        · simp [hz]
        · simp only [List.any_cons, beq_eq_false_iff_ne.mpr hz, Bool.false_or] at held
          simpa [hz] using ih held
    next free =>
      have others : s.phs.pos.find? (fun z => z.pos == y.pos) = none := by simpa using free
      simp [others]
  rw [State.posState, found]

/-! ### One look in the range (R158, R161, R162) -/

/-- R156: the polarisation angle of the sample's slot after its look. -/
def lookAngle (s : State) (x : SlotSample) : BitVec 16 :=
  let sl := (s.posState x.p).slots.getD x.slot {}
  if x.isBad (s.rdFor x.sweep Reg.PHS_GAUGE_G) || x.noX || x.noY then sl.th
  else if !sl.seeded then x.combine.angle
  else if x.combine.close then
    sl.th + BitVec.ofInt 16 ((x.combine.angle - sl.th).toInt / 2 ^ max 2 (min 12 (s.rdFor x.sweep Reg.PHS_TRACK_TH_SHIFT)))
  else sl.th

/-- A position's state with slot `k`'s polarisation angle at `th`. -/
def turned (ps : PosState) (k : Nat) (th : BitVec 16) : PosState := { ps with slots := modAt ps.slots k (fun y => { y with th := th }) }

/-- What R162 makes of the sample at its position, with the phase `before` a gauge back. -/
def lookResult (s : State) (x : SlotSample) (before : BitVec 16) : PhsOut :=
  if x.isBad (s.rdFor x.sweep Reg.PHS_GAUGE_G) then (turned (s.posState x.p) x.slot (lookAngle s x)).bad x.slot
  else (turned (s.posState x.p) x.slot (lookAngle s x)).valid x.slot x.combine.pw (x.combine.phase (lookAngle s x) - before)
    (x.noX || x.noY) (s.phsTuning x.sweep)

/-- The position of sample `x` has taken the result `q` of its look, and the look's sample stands last. -/
structure TookLook (x : SlotSample) (l : Look) (q : PhsOut) (s v : State) : Prop where
  state : v.posState x.p = { q.ps with fresh := false }
  sample : v.phs.out.getLast? = some {
    sweep := x.sweep, slot := x.slot, pos := x.p, fireT := l.fireT
    value := if s.reseating (s.posState x.p) x.sweep then 0x8000 else q.out, reset := q.reseed || (s.posState x.p).fresh
    dark := l.darkAt.isSome, isPartial := l.isPartial, late := l.late, collided := l.collided.isSome }

theorem lookResult_pos (s : State) (x : SlotSample) (b : BitVec 16) : (lookResult s x b).ps.pos = x.p := by
  unfold lookResult
  split <;> exact posState_pos s x.p

/-- The stores of a look hold no state of a position. -/
theorem phsDone_phs (s : State) (x : SlotSample) (g : Nat) (ph : BitVec 16) :
    ∃ phases, (s.phsDone x g ph).phs = { s.phs with phases := phases } := by
  unfold State.phsDone
  split <;> exact ⟨_, rfl⟩

/-- R162: a look in the range leaves its result at the position and gives one sample. -/
theorem phsLook_tookLook (lo : s.rdFor x.sweep Reg.PHS_RANGE_CAPO ≤ x.p) (hi : x.p ≤ s.rdFor x.sweep Reg.PHS_RANGE_END)
    (runs : s.phs.restarting = false) (before : BitVec 16) : TookLook x l (lookResult s x before) s (s.phsLook x l before) := by
  unfold State.phsLook
  extract_lets r g u ps sl bad c sh th ph s1 thed below q reseat out s2 after s3 s4
  obtain ⟨phases, done⟩ : ∃ phases, s1.phs = { s.phs with phases := phases } := phsDone_phs s x g ph
  rw [if_neg (Nat.not_lt.mpr lo), if_neg (Nat.not_lt.mpr hi), if_neg (by simp [done, runs])]
  have probed : s4.phs = s3.phs := only_phsProbe (ps := [.regs]) only_refl (by decide) .phs (by decide)
  have confirmed (a : State) : (a.confirm .phs x.sweep).phs = a.phs :=
    only_confirm (ps := [.chp]) only_refl (by decide) .phs (by decide)
  have there : q.ps.pos = x.p := lookResult_pos s x before
  have reseats : reseat = s.reseating (s.posState x.p) x.sweep := by simp only [reseat, State.reseating, done, ps]
  constructor
  · rw [posState_of_pos (s := s3) (by rw [confirmed, mapPhs_phs, probed]), ← there]
    exact posState_setPos s2 { q.ps with fresh := false }
  · rw [confirmed, mapPhs_phs, List.getLast?_concat, ← reseats]
    rfl

/-- A position's series has gone on from `s0` by `i`, with a run of `run` looks that did not move it, and the look's sample reads `value`. -/
structure MovedBy (i : Int) (run : Nat) (value s0 : BitVec 16) (q : PhsOut) : Prop where
  s : q.ps.s = s0 + BitVec.ofInt 16 i
  inc : q.ps.inc = i
  run : q.ps.run = run
  out : q.out = value

theorem TookLook.moves {q : PhsOut} {i : Int} {run : Nat} {value s0 : BitVec 16} (took : TookLook x l q s v) (moved : MovedBy i run value s0 q) :
    (v.posState x.p).s = s0 + BitVec.ofInt 16 i ∧ (v.posState x.p).run = run ∧ (v.posState x.p).inc = i := by
  rw [took.state]
  exact ⟨moved.s, moved.run, moved.inc⟩

/-- R162: at a bad look the series goes on by its last increment. -/
theorem bad_movedBy (ps : PosState) (k : Nat) : MovedBy ps.inc (ps.run + 1) 0x8000 ps.s (ps.bad k) := ⟨rfl, rfl, rfl, rfl⟩

/-- R162: at a look of full weight the series follows the difference, less its slot's offset, held at −0x7FFF. -/
theorem valid_movedBy {ps : PosState} {sl : SlotState} {pw : Nat} {d : BitVec 16} {u : PhsTuning} {e : Int}
    (slot : ps.slots.getD k {} = sl) (seeded : ps.seeded = true) (run : ps.run = 0) (slotSeeded : sl.seeded = true) (faded : sl.faded = 0)
    (active : 1 ≤ u.n) (full : weight pw sl.m u.floor true = 4) (he : e = (d - BitVec.ofInt 16 (sl.o / 256) - ps.s).toInt) :
    MovedBy (max e (-0x7FFF)) 0 (BitVec.ofInt 16 (max e (-0x7FFF))) ps.s (ps.valid k pw d false u) := by
  unfold PosState.valid
  extract_lets sl' seedS s0 seedO w0 w reacq seed o fast m uu err run0 step beyond s1 inc run1 out track a sh o1 sl1
  have hsl : sl' = sl := slot
  have hs0 : s0 = ps.s := by simp [s0, seedS, seeded]
  have hw : w = 4 := by simp [w, w0, hsl, slotSeeded, full]
  have ho : o = sl.o := by simp [o, seed, reacq, hsl, slotSeeded, faded]
  have herr : err = e := by simp only [err, uu, ho, hs0, he]
  have hstep : step = max e (-0x7FFF) := by
    simp only [step, hw, herr]
    omega
  have held : (BitVec.ofInt 16 (max e (-0x7FFF))).toInt = max e (-0x7FFF) := by
    have below : e < 2 ^ 15 := he ▸ BitVec.toInt_lt
    rw [BitVec.toInt_ofInt, Int.bmod_eq_of_le] <;> omega
  have tracked : beyond = false := by simpa [beyond, run0, hw, run] using Nat.ne_of_gt active
  constructor
  case s => simp [s1, tracked, hw, hs0, hstep]
  case inc => simp only [inc, tracked, hw, hstep, held]; rfl
  case run => simp [run1, hw]
  case out => simp [out, tracked, hw, hstep]

/-- The slot's polarisation angle has no part in what the series makes of the phase. -/
theorem valid_turned_movedBy {ps : PosState} {th : BitVec 16} {pw : Nat} {d : BitVec 16} {u : PhsTuning} {e : Int}
    (hk : k < ps.slots.length) (seeded : ps.seeded = true) (run : ps.run = 0) (slotSeeded : (ps.slots.getD k {}).seeded = true)
    (faded : (ps.slots.getD k {}).faded = 0) (active : 1 ≤ u.n) (full : weight pw (ps.slots.getD k {}).m u.floor true = 4)
    (he : e = (d - BitVec.ofInt 16 ((ps.slots.getD k {}).o / 256) - ps.s).toInt) :
    MovedBy (max e (-0x7FFF)) 0 (BitVec.ofInt 16 (max e (-0x7FFF))) ps.s ((turned ps k th).valid k pw d false u) := by
  have slot : (turned ps k th).slots.getD k {} = { ps.slots.getD k {} with th := th } := getD_modAt hk _ _
  exact valid_movedBy (ps := turned ps k th) slot seeded run slotSeeded faded active full he

/-- R156: the polarisations of a valid look of a seeded slot, too far apart in magnitude, leave the slot's angle. -/
theorem lookAngle_kept (seeded : ((s.posState x.p).slots.getD x.slot {}).seeded = true) (apart : x.combine.close = false) :
    lookAngle s x = ((s.posState x.p).slots.getD x.slot {}).th := by
  unfold lookAngle
  extract_lets sl
  simp only [show sl.seeded = true from seeded, apart, Bool.not_true, Bool.false_eq_true, if_false, ite_self]
  rfl

/-- R161: the look of a touched sample is bad. -/
theorem lookResult_touched (touched : x.touched = true) (before : BitVec 16) :
    MovedBy (s.posState x.p).inc ((s.posState x.p).run + 1) 0x8000 (s.posState x.p).s (lookResult s x before) := by
  have bad : x.isBad (s.rdFor x.sweep Reg.PHS_GAUGE_G) = true := by simp [SlotSample.isBad, touched]
  rw [lookResult, if_pos bad]
  exact bad_movedBy (turned (s.posState x.p) x.slot (lookAngle s x)) x.slot

/-! ### The row and its order (R158, R159) -/

section
variable (hw : w = s.atT t)
  (found : w.pcm.outs.find? (fun y => y.sweep == n && y.slot == k && y.p == p && y.pluck == false) = some x)
  (look : w.lookOf n k false = some l) (here : w.isolated .phs = false)
include hw found look here

theorem exec_position_of_earlier (earlier : w.phsInOrder l p = false) :
    exec (.phsPositionSample n k p false t) s = .next w := by
  change execPhsPositionSample n k p false t s = _
  unfold execPhsPositionSample
  simp only [← hw, found, look, here, earlier]
  rfl

theorem exec_position_of_noPhase (inOrder : w.phsInOrder l p = true) (gauge : w.rdFor n Reg.PHS_GAUGE_G ≤ p)
    (noPhase : w.phs.phases.find? (fun y => y.1 == n && y.2.1 == k && y.2.2.1 + w.rdFor n Reg.PHS_GAUGE_G == p) = none) :
    exec (.phsPositionSample n k p false t) s = .next w := by
  change execPhsPositionSample n k p false t s = _
  unfold execPhsPositionSample
  simp only [← hw, found, look, here, inOrder, noPhase, if_neg (Nat.not_lt.mpr gauge)]
  rfl

theorem exec_position_of_phase {b : Nat × Nat × Nat × BitVec 16} (inOrder : w.phsInOrder l p = true)
    (gauge : w.rdFor n Reg.PHS_GAUGE_G ≤ p)
    (phase : w.phs.phases.find? (fun y => y.1 == n && y.2.1 == k && y.2.2.1 + w.rdFor n Reg.PHS_GAUGE_G == p) = some b) :
    exec (.phsPositionSample n k p false t) s = .next (w.phsLook x l b.2.2.2) := by
  change execPhsPositionSample n k p false t s = _
  unfold execPhsPositionSample
  simp only [← hw, found, look, here, inOrder, phase, if_neg (Nat.not_lt.mpr gauge)]
  rfl

end

/-! ### Plucks (R167) -/

/-- R167: a pluck's sample leaves PCM's store, and goes to the pluck stream. -/
theorem only_phsPluck_of_pluck (isPluck : x.pluck = true) : onlyParts [.pcm, .regs, .cmp, .kpe] s (s.phsPluck x l) := by
  have done : onlyParts [.pcm, .regs, .cmp, .kpe] s (s.phsDone x 0 0) := by
    unfold State.phsDone
    extract_lets s1
    rw [if_pos isPluck]
    exact only_mapPcm only_refl (by decide)
  unfold State.phsPluck
  extract_lets s1 c th ph keep
  exact only_ite done (only_givePluck (only_mapKpe done (by decide)) (by decide))

theorem exec_position_of_pluck (hw : w = s.atT t)
    (found : w.pcm.outs.find? (fun y => y.sweep == n && y.slot == k && y.p == p && y.pluck == true) = some x)
    (look : w.lookOf n k true = some l) (here : w.isolated .phs = false) :
    exec (.phsPositionSample n k p true t) s = .next (w.phsPluck x l) := by
  change execPhsPositionSample n k p true t s = _
  unfold execPhsPositionSample
  simp only [← hw, found, look, here]
  rfl

/-- The sample that is found for a sweep, a slot and a position is of them. -/
theorem sample_of_found {pluck : Bool} {xs : List SlotSample}
    (found : xs.find? (fun y => y.sweep == n && y.slot == k && y.p == p && y.pluck == pluck) = some x) :
    n = x.sweep ∧ k = x.slot ∧ p = x.p ∧ x.pluck = pluck := by
  obtain ⟨⟨⟨sweep, slot⟩, pos⟩, tag⟩ : ((x.sweep = n ∧ x.slot = k) ∧ x.p = p) ∧ x.pluck = pluck := by simpa using List.find?_some found
  exact ⟨sweep.symm, slot.symm, pos.symm, tag⟩

/-- Settles O21: a look in the range takes the result of R162 (`phsLook_tookLook`), which moves the series by the last increment
(`lookResult_touched`) or by the difference (`valid_movedBy`). -/
theorem positionsFollowTheirLooks : Obligations.PositionsFollowTheirLooks := by
  unfold Obligations.PositionsFollowTheirLooks
  intro t s w hw n k p x l hk found look here runs
  obtain ⟨rfl, rfl, rfl, -⟩ := sample_of_found found
  refine ⟨?touched, ?full, ?earlier, ?noPhase, ?pluck⟩
  case touched =>
    intro b inOrder gauge _ phase lo hi touched
    have took : TookLook x l _ w _ := phsLook_tookLook lo hi runs b.2.2.2
    have moved := lookResult_touched (s := w) touched b.2.2.2
    obtain ⟨series, run, inc⟩ := took.moves moved
    refine ⟨_, exec_position_of_phase hw found look here inOrder gauge phase, ?_, series, run, inc, only_phsLook only_refl (by decide)⟩
    rw [took.sample, moved.out, ite_self]
    rfl
  case full =>
    intro b e inOrder gauge phase lo hi notBad noX noY notReseating seeded noRun slots slotSeeded faded active full apart he
    have took : TookLook x l _ w _ := phsLook_tookLook lo hi runs b.2.2.2
    have moved : MovedBy (max e (-0x7FFF)) 0 (BitVec.ofInt 16 (max e (-0x7FFF))) (w.posState x.p).s (lookResult w x b.2.2.2) := by
      rw [lookResult, if_neg (by rw [notBad]; decide), noX, noY, Bool.or_self, lookAngle_kept slotSeeded apart]
      exact valid_turned_movedBy (slots ▸ hk) seeded noRun slotSeeded faded active full he
    obtain ⟨series, run, inc⟩ := took.moves moved
    refine ⟨_, exec_position_of_phase hw found look here inOrder gauge phase, ?_, series, run, inc, only_phsLook only_refl (by decide)⟩
    rw [took.sample, moved.out, notReseating]
    rfl
  case earlier => exact exec_position_of_earlier hw found look here
  case noPhase => exact exec_position_of_noPhase hw found look here
  case pluck =>
    intro y m foundPluck lookPluck
    obtain ⟨-, -, -, isPluck⟩ := sample_of_found foundPluck
    have only := only_phsPluck_of_pluck (s := w) (l := m) isPluck
    exact ⟨_, exec_position_of_pluck hw foundPluck lookPluck here, only .phs (by decide), only .pfl (by decide),
      only .rng (by decide), only .psq (by decide)⟩

end Sys2Proof.Proofs

end

section
/-! The filters (R177 to R187, R572): what the delivery of an output row leaves alone, how a look enters PFL, and how a halt's
flush forms what is still owed. -/

namespace Sys2Proof.Proofs

open Sys2Proof Sys2Proof.Machine Sys2Proof.Safety Sys2Proof.Laws

variable {s t u v w : State} {x : PosSample} {l : PflLook} {r : PflRow} {ps qs : List Part} {n i : Nat}

/-! ### Frames, former tunings and wide fields -/

theorem onlyParts_trans (h : onlyParts ps s t) (h' : onlyParts ps t v) : onlyParts ps s v := by
  intro p hp
  have first := h p hp
  have second := h' p hp
  cases p <;> exact Eq.trans second first

theorem onlyParts_mono (h : onlyParts ps s v) (hp : ps ⊆ qs) : onlyParts qs s v := fun p hn => h p fun hm => hn (hp hm)

/-- With the tunings and their sweeps the same, a tuned field reads the same for every sweep (R12). -/
theorem SameTunings.rdFor (h : SameTunings s v) (hc : v.chp = s.chp) (f : Field) (hf : f.tuned = true) : v.rdFor n f = s.rdFor n f := by
  unfold State.rdFor State.prevWord
  rw [h.rd f hf, h.prev, hc]

theorem SameTunings.positions (h : SameTunings s v) (hc : v.chp = s.chp) : v.positions n = s.positions n := by
  unfold State.positions
  rw [h.rdFor hc _ rfl, h.rdFor hc _ rfl]

theorem live_wr_wide (h : storeWf s.regs.live = true) {f : Field} (hw : 32 < f.lo + f.width) (m a : Nat) :
    (s.wr f m).live a = if a = f.addr + 4 then BitVec.ofNat 32 (m / 2 ^ 32 % 2 ^ (f.width - 32))
      else if a = f.addr then BitVec.ofNat 32 m else s.live a := by
  unfold State.wr
  rw [if_neg (by omega), live_setLive (wf_setLive h _ _), live_setLive h]

/-- A field of two words reads as the number written, cut to its width. -/
theorem rd_wr_wide (h : storeWf s.regs.live = true) {f : Field} (ht : f.tuned = false) (hlo : f.lo = 0) (hw : 32 < f.width)
    (hw' : f.width ≤ 64) (m : Nat) : (s.wr f m).rd f = m % 2 ^ f.width := by
  have hi : m / 2 ^ 32 % 2 ^ (f.width - 32) < 2 ^ 32 :=
    Nat.lt_of_lt_of_le (Nat.mod_lt _ (Nat.two_pow_pos _)) (Nat.pow_le_pow_right (by decide) (by omega))
  have split : 2 ^ f.width = 2 ^ 32 * 2 ^ (f.width - 32) := by rw [← Nat.pow_add]; congr 1; omega
  rw [rd_live _ ht, Field.read, if_neg (by omega), hlo, live_wr_wide h (by omega), live_wr_wide h (by omega), if_neg (by omega), if_pos rfl,
    if_pos rfl, BitVec.toNat_ofNat, BitVec.toNat_ofNat, Nat.mod_eq_of_lt hi, Nat.pow_zero, Nat.div_one, Nat.mul_comm _ (2 ^ 32), split,
    ← Nat.mod_mul, Nat.mod_mod]

/-- A field whose words are not among those that change reads as before. -/
theorem rd_wide_of_onlyWords {as : List Nat} (h : onlyWords as s v) (f : Field) (ha : f.addr ∉ as) (ha' : f.addr + 4 ∉ as) :
    v.rd f = s.rd f := by
  obtain ⟨words, tuned, -⟩ := h
  unfold State.rd State.tuned Field.read
  rw [tuned, (words _ ha).1, (words _ ha').1]

/-! ### Counting on live words -/

/-- From `s` to `v` live words at `as` alone have changed. -/
structure CountsIn (as : List Nat) (s v : State) : Prop where
  words : storeWf s.regs.live = true → onlyWords as s v
  wf : storeWf s.regs.live = true → storeWf v.regs.live = true
  tunings : SameTunings s v
  only : onlyParts [.regs] s v

section Counts

variable {as : List Nat} {f : Field}

theorem CountsIn.refl : CountsIn as s s := ⟨fun _ => onlyWords_refl _ _, id, .refl, only_refl⟩

theorem CountsIn.trans (h : CountsIn as s t) (h' : CountsIn as t v) : CountsIn as s v where
  words wf := onlyWords_trans (h.words wf) (h'.words (h.wf wf))
  wf wf := h'.wf (h.wf wf)
  tunings := h.tunings.trans h'.tunings
  only := onlyParts_trans h.only h'.only

theorem countsIn_wr (h : CountsIn as s t) (m : Nat) (hf : f.lo + f.width ≤ 32) (ha : f.addr ∈ as) : CountsIn as s (t.wr f m) :=
  h.trans ⟨fun wf => onlyWords_wr (onlyWords_refl _ _) wf f m hf ha, fun wf => wf_wr wf f m, sameTunings_wr .refl,
    only_wr only_refl (by decide)⟩

theorem countsIn_bumpBy (h : CountsIn as s t) (m : Nat) (hf : f.lo + f.width ≤ 32) (ha : f.addr ∈ as) : CountsIn as s (t.bumpBy f m) :=
  countsIn_wr h _ hf ha

theorem countsIn_events (h : CountsIn as s t) (m : Nat) (ha : f.addr ∈ as) : CountsIn as s (t.events m f) := by
  unfold State.events
  induction List.range m generalizing t with
  | nil => exact h
  | cons k ks ih =>
    exact ih (h.trans ⟨fun wf => onlyWords_event (onlyWords_refl _ _) wf f [] ha, fun wf => wf_event wf _, sameTunings_event .refl,
      only_event only_refl (by decide)⟩)

end Counts

/-- The words of PFL that count looks' inputs and outputs, and of its probe (R190). -/
def pflWords : List Nat :=
  [Reg.PFL_STAT_SAT, Reg.PFL_INV_IN_CNT, Reg.PFL_SUBST_CNT, Reg.PFL_LONG_RUN_CNT, Reg.PFL_BREAK_CNT, Reg.PFL_INV_OUT_CNT 0,
    Reg.PFL_INV_OUT_CNT 1, Reg.PFL_INV_OUT_CNT 2, Reg.PFL_INV_OUT_CNT 3, Reg.PFL_INV_OUT_CNT 4, Reg.PFL_SAT_CNT 1, Reg.PFL_SAT_CNT 2,
    Reg.PFL_SAT_CNT 3, Reg.PFL_SAT_CNT 4, Reg.PFL_PROBE_ACC, Reg.PFL_PROBE_HOLD, Reg.PFL_PROBE_VALID].map Field.addr

theorem countsIn_pflCount (h : CountsIn pflWords s t) (xs : List PosOut) (full : List PflSample) :
    CountsIn pflWords s (t.pflCount xs full) := by
  have counted {u : State} (hu : CountsIn pflWords s u) (p m k : Nat) (hi : (Reg.PFL_INV_OUT_CNT p).addr ∈ pflWords)
      (hs : (Reg.PFL_SAT_CNT p).addr ∈ pflWords) :
      CountsIn pflWords s (((u.bumpBy (Reg.PFL_INV_OUT_CNT p) m).bumpBy (Reg.PFL_SAT_CNT p) k).events k Reg.PFL_STAT_SAT) :=
    countsIn_events (countsIn_bumpBy (countsIn_bumpBy hu m (by simp [Reg.PFL_INV_OUT_CNT]) hi) k (by simp [Reg.PFL_SAT_CNT]) hs) k (by decide)
  unfold State.pflCount
  refine counted (counted (counted (counted ?_ 1 _ _ ?_ ?_) 2 _ _ ?_ ?_) 3 _ _ ?_ ?_) 4 _ _ ?_ ?_
  case refine_1 =>
    exact countsIn_bumpBy (countsIn_events (countsIn_bumpBy (countsIn_bumpBy (countsIn_bumpBy h _ (by decide) (by decide)) _ (by decide)
      (by decide)) _ (by decide) (by decide)) _ (by decide)) _ (by decide) (by decide)
  all_goals decide

theorem countsIn_pflProbe (h : CountsIn pflWords s t) (xs : List PosOut) : CountsIn pflWords s (t.pflProbe xs) := by
  unfold State.pflProbe
  split
  · exact countsIn_wr (countsIn_wr (countsIn_wr h _ (by decide) (by decide)) _ (by decide) (by decide)) _ (by decide) (by decide)
  · exact h

/-! ### What leaves the rows that wait for the ring alone -/

/-- The tunings are the same, and the same rows wait for the ring. -/
structure KeepsRows (s v : State) : Prop where
  tunings : SameTunings s v
  queue : v.rng.queue = s.rng.queue

theorem KeepsRows.refl : KeepsRows s s := ⟨.refl, rfl⟩

theorem KeepsRows.trans (h : KeepsRows s t) (h' : KeepsRows t v) : KeepsRows s v :=
  ⟨h.tunings.trans h'.tunings, h'.queue.trans h.queue⟩

/-- A step that touches neither register words nor memories nor the ring. -/
theorem KeepsRows.of_only (h : KeepsRows s t) (ho : onlyParts ps t v) (hr : .regs ∉ ps := by decide) (hm : .mems ∉ ps := by decide)
    (hg : .rng ∉ ps := by decide) : KeepsRows s v :=
  h.trans ⟨SameTunings.refl.of_only ho hr hm, congrArg Rng.queue (ho .rng hg)⟩

theorem keepsRows_ite {c : Prop} [Decidable c] {a b : State} (ha : KeepsRows s a) (hb : KeepsRows s b) : KeepsRows s (if c then a else b) := by
  split <;> assumption

theorem keepsRows_foldl {α : Type} {f : State → α → State} {xs : List α} (h : KeepsRows s t)
    (hf : ∀ t x, KeepsRows s t → KeepsRows s (f t x)) : KeepsRows s (xs.foldl f t) := by
  induction xs generalizing t with
  | nil => exact h
  | cons x xs ih => exact ih (hf t x h)

theorem keepsRows_bumpBy {f : Field} {m : Nat} (h : KeepsRows s t) : KeepsRows s (t.bumpBy f m) :=
  h.trans ⟨sameTunings_wr .refl, congrArg Rng.queue (only_bumpBy (ps := [.regs]) only_refl (by decide) .rng (by decide))⟩

theorem keepsRows_bump {f : Field} (h : KeepsRows s t) : KeepsRows s (t.bump f) := keepsRows_bumpBy h

theorem keepsRows_event {fs : List Field} (h : KeepsRows s t) : KeepsRows s (t.event fs) :=
  h.trans ⟨sameTunings_event .refl, congrArg Rng.queue (only_event (ps := [.regs]) only_refl (by decide) .rng (by decide))⟩

theorem keepsRows_mapRng {f : Rng → Rng} (h : KeepsRows s t) (hf : ∀ g, (f g).queue = g.queue) : KeepsRows s (t.mapRng f) :=
  h.trans ⟨⟨rfl, rfl, rfl, rfl⟩, hf _⟩

theorem keepsRows_notify {code : Nat} {detail : List Nat} (h : KeepsRows s t) : KeepsRows s (t.notify code detail) :=
  h.of_only (ps := [.kpe]) (only_notify only_refl (by decide))

theorem keepsRows_dropGiven {num off : Nat} (h : KeepsRows s t) : KeepsRows s (t.dropGiven num off) :=
  h.of_only (ps := [.cmp, .kpe]) (only_dropGiven only_refl (by decide))

theorem keepsRows_mapSub {f : Subscription → Subscription} (h : KeepsRows s t) : KeepsRows s (t.mapSub i f) :=
  h.of_only (ps := [.kpe]) (only_mapSub only_refl (by decide))

theorem keepsRows_lost (h : KeepsRows s t) : KeepsRows s (t.lost i) := keepsRows_mapSub h

theorem keepsRows_mapCtx {f : CmpContext → CmpContext} (h : KeepsRows s t) : KeepsRows s (t.mapCtx i f) :=
  h.of_only (ps := [.cmp]) (only_mapCtx only_refl (by decide))

theorem keepsRows_mapCmp {f : Cmp → Cmp} (h : KeepsRows s t) : KeepsRows s (t.mapCmp f) :=
  h.of_only (ps := [.cmp]) (only_mapCmp only_refl (by decide))

theorem keepsRows_closeCtxBlock {flush error last : Bool} (h : KeepsRows s t) : KeepsRows s (t.closeCtxBlock i flush error last) :=
  h.of_only (ps := [.cmp]) (only_closeCtxBlock only_refl (by decide))

theorem keepsRows_mapDesc {f : Desc → Desc} (h : KeepsRows s t) : KeepsRows s (t.mapDesc i f) := keepsRows_mapRng h fun _ => rfl

theorem keepsRows_freeDesc (h : KeepsRows s t) : KeepsRows s (t.freeDesc i) := keepsRows_mapDesc h

theorem keepsRows_closeDesc {r : CapResult} (h : KeepsRows s t) : KeepsRows s (t.closeDesc i r) :=
  keepsRows_notify (keepsRows_event (keepsRows_mapDesc h))

theorem keepsRows_loseDesc {old r : Nat} (h : KeepsRows s t) : KeepsRows s (t.loseDesc i old r) := by
  unfold State.loseDesc
  with_reducible repeat' first
    | exact h | apply keepsRows_ite | apply keepsRows_mapDesc | apply keepsRows_freeDesc | apply keepsRows_event | apply keepsRows_bump
    | apply keepsRows_dropGiven | apply keepsRows_closeDesc

theorem keepsRows_releaseRows {r : Nat} (h : KeepsRows s t) : KeepsRows s (t.releaseRows r) := by
  unfold State.releaseRows
  exact keepsRows_mapRng (keepsRows_foldl h fun _ _ h => keepsRows_loseDesc h) fun _ => rfl

theorem keepsRows_ringFormat (h : KeepsRows s t) : KeepsRows s t.ringFormat := by
  unfold State.ringFormat
  exact keepsRows_event (keepsRows_mapRng (keepsRows_releaseRows h) fun _ => rfl)

theorem keepsRows_ringSettle (h : KeepsRows s t) : KeepsRows s t.ringSettle := by
  unfold State.ringSettle
  split
  · exact keepsRows_ite (keepsRows_ringFormat h) h
  · exact h

theorem keepsRows_feedCtx {row : StreamRow} {xs : List (BitVec 16)} (h : KeepsRows s t) : KeepsRows s (t.feedCtx i row xs) := by
  have counted {u : State} (hu : KeepsRows s u) (m : Nat) (g : Cmp → Cmp) : KeepsRows s ((u.bumpBy Reg.CMP_IN_KIB m).mapCmp g) :=
    keepsRows_mapCmp (keepsRows_bumpBy hu)
  unfold State.feedCtx
  exact keepsRows_ite (keepsRows_closeCtxBlock (counted (keepsRows_mapCtx h) _ _)) (counted (keepsRows_mapCtx h) _ _)

theorem keepsRows_giveRow {row : StreamRow} (h : KeepsRows s t) : KeepsRows s (t.giveRow i row) := by
  unfold State.giveRow
  with_reducible repeat' first
    | exact h | apply keepsRows_ite | apply keepsRows_mapSub | apply keepsRows_mapCtx | apply keepsRows_feedCtx | apply keepsRows_closeCtxBlock
    | apply keepsRows_lost | split

/-! ### Delivery (R187) -/

/-- An output row's consumers past the ring: the array's taps and the streams. -/
def consumers (s : State) (r : PflRow) : State :=
  (((s.tapRow r 0).tapRow r 1).subsWhere (fun x => x.kind == .phase && (x.preset == r.preset || (x.preset == 5 && r.preset == 4)))).foldl
    (fun s i => match s.sub i with
      | some x => s.giveRow i {
          index := r.index, sweep := r.sweep, formedAt := s.now, qflags := r.qflags x.first x.last
          data := r.bytes x.first x.last (x.preset == 5) }
      | none => s) ((s.tapRow r 0).tapRow r 1)

/-- `r` joins the rows that wait for the ring. -/
def toRing (s : State) (r : PflRow) : State := s.mapRng (fun g => { g with queue := g.queue ++ [r] })

theorem deliver_toRing (takes : s.rdFor r.sweep Reg.PFL_TAP_RING = r.preset) (room : s.rng.queue.length < 4) :
    s.deliver r = consumers (toRing s r) r := by
  have fits : ¬ 4 < (toRing s r).rng.queue.length := by
    simp only [toRing, mapRng_rng, List.length_append, List.length_singleton]; omega
  unfold State.deliver
  rw [if_pos takes]
  exact congrArg (consumers · r) (if_neg fits)

theorem deliver_past (passes : s.rdFor r.sweep Reg.PFL_TAP_RING ≠ r.preset) : s.deliver r = consumers s.ringSettle r := by
  unfold State.deliver
  rw [if_neg passes]
  rfl

/-- From `s` to `v` the rows `xs` have been delivered to the ring, where no more than `ps` has changed. -/
structure Delivers (ps : List Part) (xs : List PflRow) (s v : State) : Prop where
  queue : v.rng.queue = s.rng.queue ++ xs
  tunings : SameTunings s v
  only : onlyParts ps s v

theorem Delivers.trans {xs ys : List PflRow} (h : Delivers ps xs s t) (h' : Delivers ps ys t v) : Delivers ps (xs ++ ys) s v where
  queue := by rw [h'.queue, h.queue, List.append_assoc]
  tunings := h.tunings.trans h'.tunings
  only := onlyParts_trans h.only h'.only

theorem KeepsRows.delivers (h : KeepsRows s v) (ho : onlyParts ps s v) : Delivers ps [] s v :=
  ⟨h.queue.trans (List.append_nil _).symm, h.tunings, ho⟩

/-- What a delivery changes besides the ring and the array: all that streams and a ring that settles change, or, with no
stream and a row that waits, nothing. -/
def StreamsIn (ps : List Part) (s : State) : Prop :=
  [.regs, .cmp, .kpe] ⊆ ps ∨ (.kpe ∉ ps ∧ s.kpe.subs.all (fun x => x.isNone) = true ∧ s.rng.queue ≠ [])

theorem StreamsIn.after {xs : List PflRow} (h : StreamsIn ps s) (hd : Delivers ps xs s v) : StreamsIn ps v :=
  h.imp id fun ⟨streams, noStream, waits⟩ => ⟨streams, by rw [hd.only .kpe streams]; exact noStream, by simp [hd.queue, waits]⟩

theorem subsWhere_none (noStream : s.kpe.subs.all (fun x => x.isNone) = true) (p : Subscription → Bool) : s.subsWhere p = [] := by
  unfold State.subsWhere
  rw [List.map_eq_nil_iff, List.filter_eq_nil_iff]
  rintro ⟨o, k⟩ mem
  have empty : o = none := by simpa using List.all_eq_true.mp noStream o (List.fst_mem_of_mem_zipIdx mem)
  simp [empty]

theorem only_taps (hp : [.aar] ⊆ ps) : onlyParts ps s ((s.tapRow r 0).tapRow r 1) := only_tapRow (only_tapRow only_refl hp) hp

theorem delivers_consumers (array : [.aar] ⊆ ps) (streams : StreamsIn ps s) : Delivers ps [] s (consumers s r) := by
  have taps : KeepsRows s ((s.tapRow r 0).tapRow r 1) := KeepsRows.refl.of_only (ps := [.aar]) (only_taps (by decide))
  unfold consumers
  rcases streams with all | ⟨-, noStream, -⟩
  · refine (keepsRows_foldl taps fun t k h => ?_).delivers (only_foldl (only_taps array) fun t k h => ?_)
    · split
      · exact keepsRows_giveRow h
      · exact h
    · split
      · exact only_giveRow h all
      · exact h
  · rw [subsWhere_none (by rw [only_taps (ps := [.aar]) (by decide) .kpe (by decide)]; exact noStream)]
    exact taps.delivers (only_taps array)

theorem delivers_toRing (ring : [.rng] ⊆ ps) : Delivers ps [r] s (toRing s r) :=
  ⟨rfl, ⟨rfl, rfl, rfl, rfl⟩, only_mapRng only_refl ring⟩

/-- The ring's tap takes a row: it waits for the ring. -/
theorem delivers_deliver_toRing (parts : [.rng, .aar] ⊆ ps) (streams : StreamsIn ps (toRing s r))
    (takes : s.rdFor r.sweep Reg.PFL_TAP_RING = r.preset) (room : s.rng.queue.length < 4) : Delivers ps [r] s (s.deliver r) := by
  rw [deliver_toRing takes room]
  exact (delivers_toRing (sub_trans (by decide) parts)).trans (delivers_consumers (sub_trans (by decide) parts) streams)

theorem delivers_ringSettle (ring : [.rng] ⊆ ps) (streams : StreamsIn ps s) : Delivers ps [] s s.ringSettle := by
  refine (keepsRows_ringSettle .refl).delivers ?_
  rcases streams with all | ⟨-, -, waits⟩
  · exact only_ringSettle only_refl (by simp_all)
  · have settled : s.ringSettle = s := by
      unfold State.ringSettle
      split
      · rw [if_neg (by simp [waits])]
      · rfl
    rw [settled]
    exact only_refl

/-- The ring's tap does not take a row: no other row waits for the ring. -/
theorem delivers_deliver_past (parts : [.rng, .aar] ⊆ ps) (streams : StreamsIn ps s)
    (passes : s.rdFor r.sweep Reg.PFL_TAP_RING ≠ r.preset) : Delivers ps [] s (s.deliver r) := by
  have settled := delivers_ringSettle (sub_trans (by decide) parts) streams
  rw [deliver_past passes]
  exact settled.trans (delivers_consumers (sub_trans (by decide) parts) (streams.after settled))

/-! ### The rows of one look -/

/-- The rows of the presets `ds` that are due are delivered in turn. -/
def deliverDue (due : Nat → Bool) (rows : Nat → PflRow) (ds : List Nat) (s : State) : State :=
  ds.foldl (fun s p => if due p then s.deliver (rows p) else s) s

/-- Of these the ring takes the one of its tap's preset `c`. -/
def ringRows (due : Nat → Bool) (rows : Nat → PflRow) (ds : List Nat) (c : Nat) : List PflRow :=
  (ds.filter (fun p => p == c && due p)).map rows

variable {due : Nat → Bool} {rows : Nat → PflRow} {ds : List Nat}

theorem ringRows_length {c : Nat} (once : ds.Nodup) : (ringRows due rows ds c).length ≤ 1 := by
  have one : ds.countP (· == c) ≤ 1 := List.nodup_iff_count.mp once c
  have fewer : ds.countP (fun p => p == c && due p) ≤ ds.countP (· == c) := List.countP_mono_left fun p _ h => (Bool.and_eq_true_iff.mp h).1
  rw [ringRows, List.length_map, ← List.countP_eq_length_filter]
  exact Nat.le_trans fewer one

theorem ringRows_append {ds' : List Nat} {c : Nat} : ringRows due rows (ds ++ ds') c = ringRows due rows ds c ++ ringRows due rows ds' c := by
  simp [ringRows]

/-- `rows` holds the rows of a look of sweep `n`, by preset. -/
def RowsOf (n : Nat) (rows : Nat → PflRow) : Prop := ∀ p, (rows p).preset = p ∧ (rows p).sweep = n

theorem delivers_row {p : Nat} (parts : [.rng, .aar] ⊆ ps) (streams : StreamsIn ps s) (of : RowsOf n rows)
    (room : s.rng.queue.length + (ringRows due rows [p] (s.rdFor n Reg.PFL_TAP_RING)).length ≤ 4) :
    Delivers ps (ringRows due rows [p] (s.rdFor n Reg.PFL_TAP_RING)) s (if due p then s.deliver (rows p) else s) := by
  obtain ⟨preset, sweep⟩ := of p
  by_cases hd : due p = true
  · rw [if_pos hd]
    by_cases takes : p = s.rdFor n Reg.PFL_TAP_RING
    · have one : ringRows due rows [p] (s.rdFor n Reg.PFL_TAP_RING) = [rows p] := by simp [ringRows, ← takes, hd]
      have waits : Delivers ps [rows p] s (toRing s (rows p)) := delivers_toRing (sub_trans (by decide) parts)
      rw [one] at room ⊢
      exact delivers_deliver_toRing parts (streams.after waits) (by rw [sweep, preset, ← takes])
        (by rw [List.length_singleton] at room; omega)
    · have none : ringRows due rows [p] (s.rdFor n Reg.PFL_TAP_RING) = [] := by simp [ringRows, takes]
      rw [none]
      exact delivers_deliver_past parts streams (by rw [sweep, preset]; exact Ne.symm takes)
  · rw [if_neg hd]
    have none : ringRows due rows [p] (s.rdFor n Reg.PFL_TAP_RING) = [] := by simp [ringRows, hd]
    rw [none]
    exact KeepsRows.refl.delivers only_refl

theorem delivers_deliverDue (parts : [.rng, .aar] ⊆ ps) (hc : .chp ∉ ps) (streams : StreamsIn ps s) (of : RowsOf n rows)
    (room : s.rng.queue.length + (ringRows due rows ds (s.rdFor n Reg.PFL_TAP_RING)).length ≤ 4) :
    Delivers ps (ringRows due rows ds (s.rdFor n Reg.PFL_TAP_RING)) s (deliverDue due rows ds s) := by
  induction ds generalizing s with
  | nil => exact KeepsRows.refl.delivers only_refl
  | cons p ds ih =>
    rw [← List.singleton_append, ringRows_append, List.length_append] at room
    have first := delivers_row (due := due) (p := p) parts streams of (by omega)
    have tap := first.tunings.rdFor (n := n) (first.only .chp hc) Reg.PFL_TAP_RING rfl
    have rest := ih (streams.after first) (by rw [tap, first.queue, List.length_append]; omega)
    rw [tap] at rest
    rw [← List.singleton_append, ringRows_append]
    exact first.trans rest

/-! ### The output of one look (R178, R179) -/

/-- The FULL output of a look has been formed. -/
def markFormed (l : PflLook) : PflLook := { l with formed := true }

/-- Look `l`, the `i`th from the latest, has been marked and counted from `s` to `u`, and `rows` are its output rows. -/
structure FormedBy (i : Nat) (l : PflLook) (rows : Nat → PflRow) (s u : State) : Prop where
  looks : u.pfl.looks = modAt s.pfl.looks i markFormed
  words : storeWf s.regs.live = true → onlyWords pflWords s u
  tunings : SameTunings s u
  only : onlyParts [.pfl, .regs] s u
  of : RowsOf l.sweep rows
  slot : (rows 0).slot = l.slot
  full : (rows 0).samples.length = (s.positions l.sweep).length

/-- A look that waits is marked and counted, and its rows that are due are delivered, FULL among them. -/
theorem pflForm_formedBy {feed : Bool} (here : s.pfl.looks[i]? = some l) (waits : l.formed = false) :
    ∃ rows due u, s.pflForm i feed = deliverDue due rows [0, 1, 2, 3, 4] u ∧ due 0 = true ∧ FormedBy i l rows s u := by
  have counted (f : Pfl → Pfl) (xs : List PosOut) (full : List PflSample) :=
    countsIn_pflProbe (countsIn_pflCount (CountsIn.refl (s := s.mapPfl f)) xs full) xs
  have marked (f : Pfl → Pfl) : SameTunings s (s.mapPfl f) := ⟨rfl, rfl, rfl, rfl⟩
  unfold State.pflForm
  rw [here]
  simp only [waits, Bool.false_eq_true, if_false]
  refine ⟨_, _, _, rfl, rfl, ?_, ?_, ?_, ?_, fun p => ⟨rfl, rfl⟩, rfl, ?_⟩
  · rw [(counted _ _ _).only .pfl (by decide)]; rfl
  · exact fun wf => onlyWords_trans (onlyWords_of_regs (onlyWords_refl _ _) rfl) ((counted _ _ _).words wf)
  · exact (marked _).trans (counted _ _ _).tunings
  · exact onlyParts_trans (only_mapPfl only_refl (by decide)) (onlyParts_mono (counted _ _ _).only (by decide))
  · simp

/-! ### A flush (R572) -/

/-- What a flush may change: PFL and what the delivery of rows changes. -/
def flushParts : List Part := [.pfl, .regs, .rng, .aar, .cmp, .kpe]

/-- From `s` to `v` the looks numbered `is` from the latest have been formed, if there are such, with at most one row for the ring each. -/
structure Flushed (is : List Nat) (s v : State) : Prop where
  length : v.pfl.looks.length = s.pfl.looks.length
  formed : ∀ j l, v.pfl.looks[j]? = some l → l.formed = true ∨ (j ∉ is ∧ s.pfl.looks[j]? = some l)
  queue : v.rng.queue.length ≤ s.rng.queue.length + is.countP (· < s.pfl.looks.length)
  only : onlyParts flushParts s v

theorem Flushed.refl : Flushed [] s s := ⟨rfl, fun _ _ h => .inr ⟨List.not_mem_nil, h⟩, Nat.le_add_right _ _, only_refl⟩

theorem Flushed.trans {is js : List Nat} (h : Flushed is s t) (h' : Flushed js t v) : Flushed (is ++ js) s v where
  length := h'.length.trans h.length
  formed j l hv := by
    rcases h'.formed j l hv with done | ⟨hj, ht⟩
    · exact .inl done
    · exact (h.formed j l ht).imp id fun ⟨hi, hs⟩ => ⟨by simp [hi, hj], hs⟩
  queue := by
    have first := h.queue
    have second := h'.queue
    rw [h.length] at second
    rw [List.countP_append]
    omega
  only := onlyParts_trans h.only h'.only

/-- A look that is not there, or has been formed, stays as it is. -/
theorem pflForm_formed {feed : Bool} (formed : ∀ l, s.pfl.looks[i]? = some l → l.formed = true) : s.pflForm i feed = s := by
  unfold State.pflForm
  split
  · rfl
  next l here => exact if_pos (formed l here)

theorem flushed_pflForm {feed : Bool} (room : i < s.pfl.looks.length → s.rng.queue.length < 4) : Flushed [i] s (s.pflForm i feed) := by
  by_cases formed : ∀ l, s.pfl.looks[i]? = some l → l.formed = true
  · rw [pflForm_formed formed]
    refine ⟨rfl, fun j l hl => ?_, Nat.le_add_right _ _, only_refl⟩
    by_cases same : j = i
    · exact .inl (formed l (same ▸ hl))
    · exact .inr ⟨by simpa using same, hl⟩
  · obtain ⟨l, here, waits⟩ : ∃ l, s.pfl.looks[i]? = some l ∧ l.formed = false := by simpa using formed
    have inRange : i < s.pfl.looks.length := (List.getElem?_eq_some_iff.mp here).1
    obtain ⟨rows, due, u, eq, -, formedBy⟩ := pflForm_formedBy (feed := feed) here waits
    have queue : u.rng = s.rng := formedBy.only .rng (by decide)
    have one := ringRows_length (due := due) (rows := rows) (ds := [0, 1, 2, 3, 4]) (c := u.rdFor l.sweep Reg.PFL_TAP_RING) (by decide)
    have free := room inRange
    have delivered := delivers_deliverDue (ps := [.regs, .rng, .aar, .cmp, .kpe]) (due := due) (ds := [0, 1, 2, 3, 4]) (by decide) (by decide)
      (.inl (by decide)) formedBy.of (by rw [queue]; omega)
    have looks : (s.pflForm i feed).pfl.looks = modAt s.pfl.looks i markFormed := by
      rw [eq, delivered.only .pfl (by decide), formedBy.looks]
    refine ⟨by rw [looks, modAt_length], fun j m hm => ?_, ?_, ?_⟩
    · rw [looks, modAt_eq_modify, List.getElem?_modify] at hm
      by_cases same : i = j
      · obtain ⟨k, -, rfl⟩ : ∃ k, s.pfl.looks[j]? = some k ∧ markFormed k = m := by simpa [same] using hm
        exact .inl rfl
      · exact .inr ⟨by simpa using Ne.symm same, by simpa [same] using hm⟩
    · rw [eq, delivered.queue, queue, List.length_append, List.countP_singleton, if_pos (by simpa using inRange)]
      omega
    · rw [eq]
      exact onlyParts_trans (onlyParts_mono formedBy.only (qs := flushParts) (by decide)) (onlyParts_mono delivered.only (by decide))

theorem flushed_foldl {feed : Bool} {is : List Nat} (room : s.rng.queue.length + is.countP (· < s.pfl.looks.length) ≤ 4) :
    Flushed is s (is.foldl (fun s i => s.pflForm i feed) s) := by
  induction is generalizing s with
  | nil => exact .refl
  | cons i is ih =>
    rw [← List.singleton_append, List.countP_append] at room
    have first : Flushed [i] s (s.pflForm i feed) := flushed_pflForm fun inRange => by
      rw [List.countP_singleton, if_pos (by simpa using inRange)] at room
      omega
    have queue := first.queue
    have rest := ih (s := s.pflForm i feed) (by rw [first.length]; omega)
    exact first.trans rest

theorem flushed_all (few : s.pfl.looks.length ≤ 4) (free : s.rng.queue = []) :
    Flushed [4, 3, 2, 1, 0] s ((List.range 5).foldl (fun s k => s.pflForm (4 - k) true) s) := by
  have fits : [4, 3, 2, 1, 0].countP (· < s.pfl.looks.length) ≤ 4 := by
    rw [List.countP_cons_of_neg (by simpa using few)]
    exact List.countP_le_length
  exact flushed_foldl (by rw [free]; simpa using fits)

theorem Flushed.all_formed (h : Flushed [4, 3, 2, 1, 0] s v) (few : s.pfl.looks.length ≤ 4) : v.pfl.looks.all (fun l => l.formed) = true := by
  rw [List.all_eq_true]
  intro l mem
  obtain ⟨j, hj⟩ := List.getElem?_of_mem mem
  have inRange := (List.getElem?_eq_some_iff.mp hj).1
  have length := h.length
  rcases h.formed j l hj with formed | ⟨out, -⟩
  · exact formed
  · simp only [List.mem_cons, List.not_mem_nil, or_false, not_or] at out
    omega

theorem exec_medianFlush {t : Instant} (hw : w = s.atT t) (halted : w.pfl.haltReported = true) (arrived : w.allArrived = true) :
    exec (.medianFlush t) s = .next (((List.range 5).foldl (fun s k => s.pflForm (4 - k) true) w).mapPfl
      (fun q => { q with haltReported := false })) := by
  subst hw
  change execMedianFlush t s = _
  unfold execMedianFlush
  simp only [halted, arrived, Bool.and_self, if_true]

/-! ### A look enters PFL (R178) -/

/-- `l`, with `s`'s count, has become PFL's latest look from `s` to `u`, and waits there for its output. -/
structure LookEntered (l : PflLook) (s u : State) : Prop where
  latest : u.pfl.looks[0]? = some l
  waits : l.formed = false
  count : l.count = s.rd Reg.PFL_LOOK_CNT_COUNT
  counted : storeWf s.regs.live = true → u.rd Reg.PFL_LOOK_CNT_COUNT = (s.rd Reg.PFL_LOOK_CNT_COUNT + 1) % 2 ^ 48
  wf : storeWf s.regs.live = true → storeWf u.regs.live = true
  tunings : SameTunings s u
  only : onlyParts [.pfl, .regs] s u

theorem pflTake_entered (xs : List PosSample) (atLook : s.pfl.resetAtLook = false) (atSweep : s.pfl.resetAtSweep = none) :
    ∃ l u, s.pflTake x xs = (u.pflForm (s.medianHalf x.sweep) true).confirm .pfl x.sweep
      ∧ l.sweep = x.sweep ∧ l.slot = x.slot ∧ LookEntered l s u := by
  have noReset : ¬ (s.pfl.resetAtLook || s.pfl.resetAtSweep.any (fun n => decide (n ≤ x.sweep))) = true := by simp [atLook, atSweep]
  have broken (c k : Nat) : CountsIn pflWords (s.wr Reg.PFL_LOOK_CNT_COUNT c)
      (((s.wr Reg.PFL_LOOK_CNT_COUNT c).bumpBy Reg.PFL_BREAK_CNT k).events k Reg.PFL_STAT_BREAK) :=
    countsIn_events (countsIn_bumpBy .refl _ (by decide) (by decide)) _ (by decide)
  unfold State.pflTake
  rw [if_neg noReset]
  refine ⟨_, _, rfl, rfl, rfl, rfl, rfl, rfl, fun wf => ?_, fun wf => (broken _ _).wf (wf_wr wf _ _), ?_, ?_⟩
  · exact (rd_wide_of_onlyWords ((broken _ _).words (wf_wr wf _ _)) Reg.PFL_LOOK_CNT_COUNT (by decide) (by decide)).trans
      ((rd_wr_wide wf rfl rfl (by decide) (by decide) _).trans (Nat.mod_mod _ _))
  · exact ((sameTunings_wr .refl).trans (broken _ _).tunings).trans ⟨rfl, rfl, rfl, rfl⟩
  · exact only_mapPfl (onlyParts_trans (only_wr only_refl (by decide)) (onlyParts_mono (broken _ _).only (by decide))) (by decide)

/-- With the ring's tap on FULL and no stream, the FULL row waits for the ring, and no other part than the array is touched. -/
theorem delivers_full (of : RowsOf n rows) (isDue : due 0 = true) (noStream : s.kpe.subs.all (fun x => x.isNone) = true)
    (tap : s.rdFor n Reg.PFL_TAP_RING = 0) (room : s.rng.queue.length < 4) :
    Delivers [.rng, .aar] [rows 0] s (deliverDue due rows [0, 1, 2, 3, 4] s) := by
  obtain ⟨preset, sweep⟩ := of 0
  have first : Delivers [.rng, .aar] [rows 0] s (s.deliver (rows 0)) :=
    delivers_deliver_toRing (by decide) (.inr ⟨by decide, noStream, by simp [toRing]⟩) (by rw [sweep, preset, tap]) room
  have streams : StreamsIn [.rng, .aar] (s.deliver (rows 0)) :=
    .inr ⟨by decide, by rw [first.only .kpe (by decide)]; exact noStream, by simp [first.queue]⟩
  have none : ringRows due rows [1, 2, 3, 4] ((s.deliver (rows 0)).rdFor n Reg.PFL_TAP_RING) = [] := by
    rw [first.tunings.rdFor (first.only .chp (by decide)) _ rfl, tap]; rfl
  have rest := delivers_deliverDue (due := due) (ds := [1, 2, 3, 4]) (by decide) (by decide) streams of
    (by rw [none, first.queue, List.length_append, List.length_singleton, List.length_nil]; omega)
  have both := first.trans rest
  rw [none] at both
  have split : deliverDue due rows [0, 1, 2, 3, 4] s = deliverDue due rows [1, 2, 3, 4] (s.deliver (rows 0)) := by
    simp only [deliverDue, List.foldl_cons, isDue, if_true]
  rw [split]
  exact both

/-- A sample of the look of `x`. -/
def ofLook (x y : PosSample) : Bool := y.sweep == x.sweep && y.slot == x.slot && y.fireT == x.fireT

/-- The samples of the look of `x` have left PHS. -/
def lookLeft (s : State) (x : PosSample) : State := s.mapPhs (fun h => { h with out := h.out.filter (fun y => !ofLook x y) })

theorem exec_pflLookInput {t : Instant} (hw : w = s.atT t) (front : w.phs.out.head? = some x)
    (whole : (w.phs.out.filter (ofLook x)).length = (w.positions x.sweep).length) :
    exec (.pflLookInput t) s =
      .next (if w.isolated .pfl then lookLeft w x else (lookLeft w x).pflTake x (w.phs.out.filter (ofLook x))) := by
  obtain ⟨rest, hout⟩ := List.head?_eq_some_iff.mp front
  change execPflLookInput t s = _
  unfold execPflLookInput
  simp only [← hw, hout] at whole ⊢
  exact (if_pos whole).trans (apply_ite Host.Outcome.next _ _ _).symm

/-- What PFL makes of a whole look with the median off: the look counts, its FULL output is formed at once, and its row waits for the ring. -/
structure LookTaken (x : PosSample) (s v : State) : Prop where
  count : storeWf s.regs.live = true → v.rd Reg.PFL_LOOK_CNT_COUNT = (s.rd Reg.PFL_LOOK_CNT_COUNT + 1) % 2 ^ 48
  look : (v.pfl.looks.head?).map (fun q => (q.count, q.sweep, q.slot, q.formed)) = some (s.rd Reg.PFL_LOOK_CNT_COUNT, x.sweep, x.slot, true)
  row : (v.rng.queue.getLast?).map (fun r => (r.preset, r.sweep, r.slot, r.samples.length))
    = some (0, x.sweep, x.slot, (s.positions x.sweep).length)
  only : onlyParts [.pfl, .regs, .rng, .aar, .chp] s v

theorem pflTake_taken {xs : List PosSample} (atLook : s.pfl.resetAtLook = false) (atSweep : s.pfl.resetAtSweep = none)
    (median : s.medianHalf x.sweep = 0) (tap : s.rdFor x.sweep Reg.PFL_TAP_RING = 0) (room : s.rng.queue.length < 4)
    (noStream : s.kpe.subs.all (fun x => x.isNone) = true) : LookTaken x s (s.pflTake x xs) := by
  obtain ⟨l, u, taken, sweep, slot, entered⟩ := pflTake_entered (x := x) xs atLook atSweep
  obtain ⟨rows, due, f, eq, isDue, formed⟩ := pflForm_formedBy (feed := true) entered.latest entered.waits
  have tunings : SameTunings s f := entered.tunings.trans formed.tunings
  have only : onlyParts [.pfl, .regs] s f := onlyParts_trans entered.only formed.only
  have delivered : Delivers [.rng, .aar] [rows 0] f (u.pflForm 0 true) := by
    rw [eq]
    exact delivers_full formed.of isDue (by rw [only .kpe (by decide)]; exact noStream)
      (by rw [sweep, tunings.rdFor (only .chp (by decide)) _ rfl, tap]) (by rw [only .rng (by decide)]; exact room)
  have confirmed : onlyParts [.chp] (u.pflForm 0 true) (s.pflTake x xs) := by
    rw [taken, median]
    exact only_confirm only_refl (by decide)
  obtain ⟨preset, rowSweep⟩ := formed.of 0
  refine ⟨fun wf => ?_, ?_, ?_, ?_⟩
  · rw [rd_of_regs (confirmed .regs (by decide)), rd_of_regs (delivered.only .regs (by decide)),
      rd_wide_of_onlyWords (formed.words (entered.wf wf)) _ (by decide) (by decide), entered.counted wf]
  · rw [confirmed .pfl (by decide), delivered.only .pfl (by decide), formed.looks]
    simp [List.head?_eq_getElem?, modAt_eq_modify, entered.latest, markFormed, entered.count, sweep, slot]
  · rw [confirmed .rng (by decide), delivered.queue, List.getLast?_append]
    simp [preset, rowSweep, formed.slot, formed.full, sweep, slot, entered.tunings.positions (entered.only .chp (by decide))]
  · exact onlyParts_trans (onlyParts_mono only (by decide))
      (onlyParts_trans (onlyParts_mono delivered.only (by decide)) (onlyParts_mono confirmed (by decide)))

/-- Settles O22: a whole look with the median off is taken (`pflTake_taken`), an isolated PFL lets it go (R20, log entry 31), and a flush
forms every look (`flushed_all`), as at most four rows then wait for the ring. -/
theorem filtersTakeWholeLooks : Obligations.FiltersTakeWholeLooks := by
  unfold Obligations.FiltersTakeWholeLooks
  intro t s w hw wf
  refine ⟨?taken, ?isolated, ?flush⟩
  case taken =>
    intro x n front here atLook atSweep hn whole median tap room noStream
    have taken : LookTaken x (lookLeft w x) _ := pflTake_taken (xs := w.phs.out.filter (ofLook x)) atLook atSweep median tap room noStream
    refine ⟨_, exec_pflLookInput hw front (hn.symm.trans whole), ?_⟩
    rw [here, if_neg (by decide)]
    refine ⟨by rw [taken.only .phs (by decide)]; rfl, taken.count wf, taken.look, ?_, ?_⟩
    · rw [whole]
      exact taken.row
    · exact onlyParts_trans (only_mapPhs only_refl (by decide)) (onlyParts_mono taken.only (by decide))
  case isolated =>
    intro x front gone whole
    rw [exec_pflLookInput hw front whole, gone]
    rfl
  case flush =>
    intro halted arrived few free
    have flushed := flushed_all few free
    have ends := exec_medianFlush hw halted arrived
    generalize (List.range 5).foldl _ w = v at flushed ends
    exact ⟨_, ends, rfl, flushed.all_formed few, flushed.only .phs (by decide), flushed.only .psq (by decide)⟩

end Sys2Proof.Proofs

end

section
/-! Raman sweeps, blocks and profiles (R191 to R212): how a sweep is treated, how a block closes, and what a converted block leaves. -/

namespace Sys2Proof.Proofs

open Sys2Proof Sys2Proof.Machine Sys2Proof.Safety Sys2Proof.Laws

variable {s t v w : State} {i : Instant} {as : List Nat} {n : Nat}

/-! ### Live words that change beside other parts -/

/-- From `s` to `v`, of the register words, live words at `as` alone have changed; the other parts are free. -/
structure WordsIn (as : List Nat) (s v : State) : Prop where
  words : storeWf s.regs.live = true → onlyWords as s v
  wf : storeWf s.regs.live = true → storeWf v.regs.live = true

theorem WordsIn.refl : WordsIn as s s := ⟨fun _ => onlyWords_refl _ _, id⟩

theorem WordsIn.trans (h : WordsIn as s t) (h' : WordsIn as t v) : WordsIn as s v :=
  ⟨fun wf => onlyWords_trans (h.words wf) (h'.words (h.wf wf)), fun wf => h'.wf (h.wf wf)⟩

theorem WordsIn.of_regs (h : WordsIn as s t) (hr : v.regs = t.regs) : WordsIn as s v :=
  ⟨fun wf => onlyWords_of_regs (h.words wf) hr, fun wf => by rw [hr]; exact h.wf wf⟩

theorem CountsIn.wordsIn (h : CountsIn as s v) : WordsIn as s v := ⟨h.words, h.wf⟩

theorem wordsIn_ite {c : Prop} [Decidable c] {a b : State} (ha : WordsIn as s a) (hb : WordsIn as s b) :
    WordsIn as s (if c then a else b) := by split <;> assumption

theorem wordsIn_foldl {α : Type} {f : State → α → State} {xs : List α} (h : WordsIn as s t)
    (hf : ∀ t x, WordsIn as s t → WordsIn as s (f t x)) : WordsIn as s (xs.foldl f t) := by
  induction xs generalizing t with
  | nil => exact h
  | cons x xs ih => exact ih (hf t x h)

theorem WordsIn.rd (h : WordsIn as s v) (wf : storeWf s.regs.live = true) (f : Field) (hf : f.lo + f.width ≤ 32) (ha : f.addr ∉ as) :
    v.rd f = s.rd f := rd_of_onlyWords (h.words wf) f hf ha

theorem CountsIn.event (h : CountsIn as s t) (f : Field) (ha : f.addr ∈ as := by decide) : CountsIn as s (t.event [f]) :=
  countsIn_events h 1 ha

/-- A field is written, in one word or in two. -/
theorem CountsIn.wr (h : CountsIn as s t) (f : Field) (m : Nat) (ha : f.addr ∈ as := by decide)
    (ha' : f.lo + f.width ≤ 32 ∨ f.addr + 4 ∈ as := by decide) : CountsIn as s (t.wr f m) := by
  by_cases narrow : f.lo + f.width ≤ 32
  · exact countsIn_wr h m narrow ha
  · have second : f.addr + 4 ∈ as := ha'.resolve_left narrow
    have words : storeWf t.regs.live = true → onlyWords as t (t.wr f m) := fun wf => by
      refine ⟨fun a out => ⟨?_, by rw [State.wr, if_neg narrow]; rfl⟩, by rw [State.wr, if_neg narrow]; exact ⟨rfl, rfl, rfl, rfl⟩⟩
      rw [live_wr_wide wf (by omega), if_neg (fun e : a = f.addr + 4 => out (e ▸ second)), if_neg (fun e : a = f.addr => out (e ▸ ha))]
    exact h.trans ⟨words, fun wf => wf_wr wf f m, sameTunings_wr .refl, only_wr only_refl (by decide)⟩

theorem CountsIn.bump (h : CountsIn as s t) (f : Field) (ha : f.addr ∈ as := by decide)
    (ha' : f.lo + f.width ≤ 32 ∨ f.addr + 4 ∈ as := by decide) : CountsIn as s (t.bump f) := h.wr f _ ha ha'

/-! ### The samples of a sweep (R191, R193) -/

/-- The first `k` samples of `xs`, as 14-bit numbers. -/
def digitised (k : Nat) (xs : List Int) : List Int := (List.range k).map (fun i => clampS 14 (xs.getD i 0))

/-- R191: every sample lies strictly between the ends of the range. -/
def Unclipped (xs : List Int) : Prop := ∀ x ∈ xs, -8192 < x ∧ x < 8191

theorem unclipped_append {xs ys : List Int} : Unclipped (xs ++ ys) ↔ Unclipped xs ∧ Unclipped ys := List.forall_mem_append

theorem unclipped_of_all {xs : List Int} (h : xs.all (fun x => decide (-8192 < x) && decide (x < 8191)) = true) : Unclipped xs := by
  simpa [Unclipped] using h

/-- A sample that was not digitised reads 0. -/
theorem Unclipped.getD {xs : List Int} (h : Unclipped xs) (k : Nat) : -8192 < xs.getD k 0 ∧ xs.getD k 0 < 8191 := by
  rw [List.getD_eq_getElem?_getD]
  cases e : xs[k]? with
  | none => decide
  | some x => exact h x (List.mem_of_getElem? e)

theorem Unclipped.clampS_getD {xs : List Int} (h : Unclipped xs) (k : Nat) : clampS 14 (xs.getD k 0) = xs.getD k 0 := by
  obtain ⟨lo, hi⟩ := h.getD k
  generalize xs.getD k 0 = x at lo hi
  unfold clampS
  omega

theorem unclipped_digitised {xs : List Int} (h : Unclipped xs) (k : Nat) : Unclipped (digitised k xs) := by
  intro x hx
  obtain ⟨j, -, rfl⟩ := List.mem_map.mp hx
  rw [h.clampS_getD]
  exact h.getD j

theorem Unclipped.digitised_eq {xs : List Int} (h : Unclipped xs) {k : Nat} (hk : xs.length = k) : digitised k xs = xs := by
  subst hk
  refine List.ext_getElem (by simp [digitised]) fun j _ hj => ?_
  simp only [digitised, List.getElem_map, List.getElem_range, h.clampS_getD]
  rw [List.getD_eq_getElem?_getD, List.getElem?_eq_getElem hj, Option.getD_some]

theorem Unclipped.no_clips {xs : List Int} (h : Unclipped xs) : (xs.filter clippedSample).length = 0 := by
  rw [List.length_eq_zero_iff, List.filter_eq_nil_iff]
  intro x hx
  obtain ⟨lo, hi⟩ := h x hx
  simp [clippedSample, lo, hi]

/-! ### A sweep is treated (R193 to R195) -/

/-- RMX has treated sweep `n`. -/
def treat (w : State) (n : Nat) : State := w.mapRmx (fun r => { r with treated := some n })

theorem rd_treat (f : Field) : (treat w n).rd f = w.rd f := rd_of_regs rfl f

theorem wf_treat (wf : storeWf w.regs.live = true) : storeWf (treat w n).regs.live = true := wf

/-- What a sweep without clipped samples makes of the machine: it joins its block, or its reason is counted. -/
def sweepInto (w : State) (n : Nat) (x0 x1 y0 y1 : List Int) : Option SkipReason → State
  | some r => (((treat w n).event [Reg.RMX_STAT_SKIP]).bump r.counter).intoBlock n (fun b => b.skip r)
  | none => ((treat w n).bump Reg.RMX_GOOD_CNT).intoBlock n (fun b =>
      b.add (w.rdFor n Reg.DTS_CTL_ACC_LOG2) n (w.sweepSpan n).1 (w.sweepSpan n).2 x0 x1 y0 y1)

theorem exec_ramanSweepAccumulate {b0 b1 y0 y1 : List Int} (hw : w = s.atT i) (on : w.rdFor n Reg.RMX_CTL_EN = 1) (ready : w.ramanReady n = true)
    (rmx : w.isolated .rmx = false) (dts : w.isolated .dts = false) (counted : w.skipped n = false) (unclipped : Unclipped (b0 ++ b1 ++ y0 ++ y1)) :
    exec (.ramanSweepAccumulate n b0 b1 y0 y1 false i) s = .next (sweepInto w n (digitised (w.ramanBins n) b0) (digitised (w.ramanBins n) b1)
      (digitised (2 ^ w.baseLog n) y0) (digitised (2 ^ w.baseLog n) y1) (w.skipReason n false)) := by
  obtain ⟨⟨⟨hb0, hb1⟩, hy0⟩, hy1⟩ : ((Unclipped b0 ∧ Unclipped b1) ∧ Unclipped y0) ∧ Unclipped y1 := by
    simpa only [unclipped_append] using unclipped
  have clips0 := (unclipped_append.mpr ⟨unclipped_digitised hb0 (w.ramanBins n), unclipped_digitised hy0 (2 ^ w.baseLog n)⟩).no_clips
  have clips1 := (unclipped_append.mpr ⟨unclipped_digitised hb1 (w.ramanBins n), unclipped_digitised hy1 (2 ^ w.baseLog n)⟩).no_clips
  have tuning : ((treat w n).bump Reg.RMX_GOOD_CNT).rdFor n Reg.DTS_CTL_ACC_LOG2 = w.rdFor n Reg.DTS_CTL_ACC_LOG2 :=
    (sameTunings_bump .refl : SameTunings (treat w n) _).rdFor (bump_chp _ _) _ rfl
  have counted' : (treat w n).skipped n = false := counted
  unfold digitised at clips0 clips1
  unfold treat at counted' tuning
  change execRamanSweepAccumulate n b0 b1 y0 y1 false i s = _
  unfold execRamanSweepAccumulate
  simp only [← hw, on, ready, rmx, dts, clips0, clips1, counted', tuning, Bool.not_true, Bool.or_false, Bool.false_eq_true, if_false,
    Nat.one_ne_zero, Nat.add_zero, bne_self_eq_false, Bool.and_false]
  cases w.skipReason n false <;> rfl

/-- R195: `f` changes the block in progress where the sweep belongs to it and nothing is being unloaded. -/
theorem intoBlock_inProgress {f : DtsBlock → DtsBlock} {a : Nat} (own : s.rdFor n Reg.DTS_CTL_ACC_LOG2 = a)
    (now : s.rd Reg.DTS_CTL_ACC_LOG2 = a) (active : s.dts.active = true) (unload : s.dts.unload = []) (block : s.dts.blk.block = n / 2 ^ a)
    (counted : s.dts.skipBlock ≠ some (n / 2 ^ a)) :
    s.intoBlock n f = s.mapDts (fun d => { d with blk := f s.dts.blk, active := true, skipBlock := none }) := by
  have stays : s.closeIfOver n = s := by simp [State.closeIfOver, now, block]
  have kept : { s.dts.blk with block := n / 2 ^ a } = s.dts.blk := by rw [← block]
  unfold State.intoBlock
  simp only [own, counted, unload, if_false, List.any_nil, Bool.false_and, Bool.false_eq_true, stays]
  simp only [State.mapDts, active, Bool.true_or, if_true, kept]

/-- A block changes in DTS alone. -/
theorem only_dts_intoBlock (f : DtsBlock → DtsBlock) : onlyParts [.dts] s (s.intoBlock n f) := only_intoBlock only_refl (by decide)

theorem rd_intoBlock (f : DtsBlock → DtsBlock) (g : Field) : (s.intoBlock n f).rd g = s.rd g :=
  rd_of_regs (only_dts_intoBlock f .regs (by decide)) g

theorem intoBlock_rmx (f : DtsBlock → DtsBlock) : (s.intoBlock n f).rmx = s.rmx := only_dts_intoBlock f .rmx (by decide)

theorem sweepInto_treated {x0 x1 y0 y1 : List Int} (why : Option SkipReason) : (sweepInto w n x0 x1 y0 y1 why).rmx.treated = some n := by
  cases why with
  | none => rw [sweepInto, intoBlock_rmx, bump_rmx]; rfl
  | some r => rw [sweepInto, intoBlock_rmx, bump_rmx, event_rmx]; rfl

theorem only_sweepInto {x0 x1 y0 y1 : List Int} (why : Option SkipReason) : onlyParts [.rmx, .dts, .regs] w (sweepInto w n x0 x1 y0 y1 why) := by
  have treated : onlyParts [.rmx, .dts, .regs] w (treat w n) := only_mapRmx only_refl (by decide)
  cases why with
  | none => exact only_intoBlock (only_bump treated (by decide)) (by decide)
  | some r => exact only_intoBlock (only_bump (only_event treated (by decide)) (by decide)) (by decide)

/-- R194: an accumulated sweep counts as good. -/
theorem rd_goodCnt_sweepInto {x0 x1 y0 y1 : List Int} (wf : storeWf w.regs.live = true) :
    (sweepInto w n x0 x1 y0 y1 none).rd Reg.RMX_GOOD_CNT = min (w.rd Reg.RMX_GOOD_CNT + 1) (2 ^ 32 - 1) :=
  (rd_intoBlock _ _).trans ((rd_bump (wf_treat wf) _ rfl (by decide)).trans (by rw [rd_treat]; rfl))

/-- R193: the counter of a reason is a whole live word, apart from RMX's flags and from the count of good sweeps. -/
theorem SkipReason.counter_place (r : SkipReason) : r.counter.tuned = false ∧ r.counter.lo = 0 ∧ r.counter.width = 32
    ∧ r.counter.addr ≠ Reg.RMX_STAT_SKIP.addr ∧ r.counter.addr ≠ Reg.RMX_GOOD_CNT.addr := by
  cases r <;> decide

theorem rd_counter_sweepInto {x0 x1 y0 y1 : List Int} (wf : storeWf w.regs.live = true) (r : SkipReason) :
    (sweepInto w n x0 x1 y0 y1 (some r)).rd r.counter = min (w.rd r.counter + 1) (2 ^ 32 - 1) := by
  obtain ⟨live, lo, width, flags, -⟩ := SkipReason.counter_place r
  have narrow : r.counter.lo + r.counter.width ≤ 32 := by omega
  calc (sweepInto w n x0 x1 y0 y1 (some r)).rd r.counter
      = (((treat w n).event [Reg.RMX_STAT_SKIP]).bump r.counter).rd r.counter := rd_intoBlock _ _
    _ = min (((treat w n).event [Reg.RMX_STAT_SKIP]).rd r.counter + 1) (2 ^ r.counter.width - 1) :=
      rd_bump (wf_event (wf_treat wf) _) _ live narrow
    _ = min (w.rd r.counter + 1) (2 ^ 32 - 1) := by rw [rd_event_other (wf_treat wf) _ _ _ narrow (.inr flags), rd_treat, width]

theorem rd_goodCnt_sweepInto_skipped {x0 x1 y0 y1 : List Int} (wf : storeWf w.regs.live = true) (r : SkipReason) :
    (sweepInto w n x0 x1 y0 y1 (some r)).rd Reg.RMX_GOOD_CNT = w.rd Reg.RMX_GOOD_CNT := by
  obtain ⟨-, lo, width, -, good⟩ := SkipReason.counter_place r
  calc (sweepInto w n x0 x1 y0 y1 (some r)).rd Reg.RMX_GOOD_CNT
      = (((treat w n).event [Reg.RMX_STAT_SKIP]).bump r.counter).rd Reg.RMX_GOOD_CNT := rd_intoBlock _ _
    _ = ((treat w n).event [Reg.RMX_STAT_SKIP]).rd Reg.RMX_GOOD_CNT :=
      rd_wr_other (wf_event (wf_treat wf) _) _ _ (by omega) (by decide) (.inr good.symm) _
    _ = w.rd Reg.RMX_GOOD_CNT := by rw [rd_event_other (wf_treat wf) _ _ _ (by decide) (.inr (by decide)), rd_treat]

/-! ### Blocks close (R196) and unloads run late (R212) -/

theorem exec_dtsBlockClose (hw : w = s.atT i) (active : w.dts.active = true)
    (later : w.sweep / 2 ^ w.rd Reg.DTS_CTL_ACC_LOG2 ≠ w.dts.blk.block) :
    exec (.dtsBlockClose i) s = .next (w.closeBlock false false
      (decide ((w.dts.blk.block + 1) * 2 ^ w.rd Reg.DTS_CTL_ACC_LOG2 - 1 < w.chp.ownsFrom))
      ((w.dts.blk.block + 1) * 2 ^ w.rd Reg.DTS_CTL_ACC_LOG2 - 1) (w.psq.tick0 + w.psq.period * tick)) := by
  change execDtsBlockClose i s = _
  simp [execDtsBlockClose, ← hw, State.closeIfOver, active, later]

/-- The unload that begins as the block in progress closes at the end of its sweeps. -/
def unloadOf (w : State) (old : Bool) (last deadline : Nat) : DtsUnload :=
  { blk := w.dts.blk, a := w.rd Reg.DTS_CTL_ACC_LOG2, old := old, gamma := w.dts.gamma, c0 := w.dts.c0, lastSweep := last, deadline := deadline }

theorem closeBlock_active (active : w.dts.active = true) (old : Bool) (last deadline : Nat) :
    w.closeBlock false false old last deadline
      = w.mapDts (fun d => { d with unload := d.unload ++ [unloadOf w old last deadline], blk := {}, active := false }) := by
  simp [State.closeBlock, active, State.mapDts, unloadOf]

theorem exec_unloadLate {u : DtsUnload} (hw : w = s.atT i) (mem : u ∈ w.dts.unload) (late : u.deadline < w.now)
    (dts : w.isolated .dts = false) : exec (.unloadLate i) s = .next (w.blockFault .dts none 2 0) := by
  change execUnloadLate i s = _
  have some_late : w.dts.unload.any (fun u => decide (u.deadline < w.now)) = true := List.any_eq_true.mpr ⟨u, mem, by simpa using late⟩
  simp [execUnloadLate, ← hw, some_late, dts]

/-! ### The drone, the features and the streams leave the profile's numbers alone (R205 to R210) -/

/-- The words that the drone counts in. -/
def droneWords : List Nat := [Reg.DTS_STAT_DRONE_HELD, Reg.DTS_HOLD_CNT, Reg.DTS_LIMIT_CNT].map Field.addr

/-- What the drone's update leaves: of words its flags and counters alone have changed, and the same unloads wait. -/
structure DroneUpdated (s v : State) : Prop where
  words : WordsIn droneWords s v
  unload : v.dts.unload = s.dts.unload

theorem DroneUpdated.counts (h : DroneUpdated s t) (hc : CountsIn droneWords t v) : DroneUpdated s v :=
  ⟨h.words.trans hc.wordsIn, (congrArg Dts.unload (hc.only .dts (by decide))).trans h.unload⟩

theorem DroneUpdated.of_same (h : DroneUpdated s t) (hr : v.regs = t.regs) (hu : v.dts.unload = t.dts.unload) : DroneUpdated s v :=
  ⟨h.words.of_regs hr, hu.trans h.unload⟩

theorem droneUpdate_updated (u : DtsUnload) (c0 c1 : Option Coil) : DroneUpdated s (s.droneUpdate u c0 c1).1 := by
  unfold State.droneUpdate
  extract_lets was tgt s1
  have unmoved : DroneUpdated s s := ⟨.refl, rfl⟩
  have skipped : DroneUpdated s s1 := by
    simp only [s1]
    split
    · exact unmoved.counts (CountsIn.refl.event _)
    · exact unmoved
  cases tgt with
  | none =>
    dsimp only
    split
    · exact skipped
    · exact (skipped.counts ((CountsIn.refl.event Reg.DTS_STAT_DRONE_HELD).bump Reg.DTS_HOLD_CNT)).of_same rfl rfl
  | some targets =>
    dsimp only
    split
    · exact skipped
    · have limited {t : State} (m : Nat) : CountsIn droneWords t ((t.events m Reg.DTS_STAT_DRONE_LIMIT).bumpBy Reg.DTS_LIMIT_CNT m) :=
        (countsIn_events .refl m (by decide)).wr _ _
      refine DroneUpdated.counts ?_ (limited _)
      exact skipped.of_same rfl rfl

/-- The words that the delivery of a profile's features and rows counts in. -/
def deliveryWords : List Nat := [Reg.ZON_STAT_FEAT_OVW, Reg.ZON_FEAT_OVW_CNT, Reg.CMP_IN_KIB].map Field.addr

theorem wordsIn_giveDts {z : Nat} {x : DtsInput} (h : WordsIn deliveryWords s t) : WordsIn deliveryWords s (t.giveDts z x) := by
  unfold State.giveDts
  extract_lets was t1
  have given : WordsIn deliveryWords s t1 := h.of_regs rfl
  have counted : CountsIn deliveryWords t1 ((t1.event [Reg.ZON_STAT_FEAT_OVW]).bump Reg.ZON_FEAT_OVW_CNT) :=
    (CountsIn.refl.event _).bump _
  exact wordsIn_ite (given.trans counted.wordsIn) given

theorem wordsIn_giveFeatures {temps : List (BitVec 16)} {before : Option (List (BitVec 16))} {old : Bool} (h : WordsIn deliveryWords s t) :
    WordsIn deliveryWords s (t.giveFeatures temps before old) := by
  unfold State.giveFeatures
  exact wordsIn_foldl h fun _ _ h => wordsIn_ite h (wordsIn_giveDts h)

/-- A row's samples enter a compression context: of the words only CMP's count of bytes changes. -/
theorem wordsIn_feedCtx {c : Nat} {row : StreamRow} {xs : List (BitVec 16)} (h : WordsIn deliveryWords s t) :
    WordsIn deliveryWords s (t.feedCtx c row xs) := by
  unfold State.feedCtx
  extract_lets t1 kib m t2
  have entered : WordsIn deliveryWords s t1 := h.of_regs rfl
  have counted : CountsIn deliveryWords t1 (t1.bumpBy Reg.CMP_IN_KIB (kib m)) := CountsIn.refl.wr _ _
  have fed : WordsIn deliveryWords s t2 := (entered.trans counted.wordsIn).of_regs rfl
  exact wordsIn_ite (fed.of_regs (only_closeCtxBlock (ps := [.cmp]) only_refl (by decide) .regs (by decide))) fed

theorem wordsIn_giveRow {k : Nat} {row : StreamRow} (h : WordsIn deliveryWords s t) : WordsIn deliveryWords s (t.giveRow k row) := by
  have closed {v : State} {c : Nat} (h : WordsIn deliveryWords s v) : WordsIn deliveryWords s (v.closeCtxBlock c false false false) :=
    h.of_regs (only_closeCtxBlock (ps := [.cmp]) only_refl (by decide) .regs (by decide))
  unfold State.giveRow
  split
  · exact h
  · refine wordsIn_ite (h.of_regs rfl) ?_
    extract_lets row t1 room words cap
    have begun : WordsIn deliveryWords s t1 := h.of_regs rfl
    split
    · exact begun.of_regs rfl
    · extract_lets ctx other next t2 t3
      have ready : WordsIn deliveryWords s t2 := wordsIn_ite (closed begun) begun
      exact wordsIn_ite (ready.of_regs rfl) (wordsIn_feedCtx (wordsIn_ite (ready.of_regs rfl) ready))

theorem wordsIn_giveTemps {p : DtsProfile} {capo stop : Nat} (h : WordsIn deliveryWords s t) :
    WordsIn deliveryWords s (t.giveTemps p capo stop) := by
  unfold State.giveTemps
  refine wordsIn_foldl h fun t k h => ?_
  split
  · exact wordsIn_giveRow h
  · exact h

/-! ### A profile (R198 to R210) -/

/-- The words of a profile's results but its number and its count. -/
def resultWords : List Nat :=
  [Reg.DTS_PROF_M, Reg.DTS_PROF_BLOCK, Reg.DTS_COIL_T0, Reg.DTS_HOT_TEMP, Reg.DTS_PROBE_AS, Reg.DTS_PROBE_ST, Reg.DTS_PROBE_TEMP,
    Reg.DTS_STAT_PROFILE, Reg.DTS_INV_PROF_CNT].map Field.addr
    ++ [Reg.DTS_PROF_BLOCK, Reg.DTS_PROBE_AS, Reg.DTS_PROBE_ST].map (fun f => f.addr + 4)

/-- A profile's numbers, flags, coils and hottest position are written. -/
theorem countsIn_profileResults (m flags block t0 t1 temp pos : Nat) :
    CountsIn resultWords s (((((((s.wr Reg.DTS_PROF_M m).wr Reg.DTS_PROF_FLAGS flags).wr Reg.DTS_PROF_BLOCK block).wr Reg.DTS_COIL_T0 t0).wr
      Reg.DTS_COIL_T1 t1).wr Reg.DTS_HOT_TEMP temp).wr Reg.DTS_HOT_POS pos) :=
  ((((((CountsIn.refl.wr _ _).wr _ _).wr _ _).wr _ _).wr _ _).wr _ _).wr _ _

/-- A profile's probed position is written, and the profile is flagged. -/
theorem countsIn_profileProbe (h : CountsIn resultWords s t) (as_ st temp : Nat) :
    CountsIn resultWords s ((((t.wr Reg.DTS_PROBE_AS as_).wr Reg.DTS_PROBE_ST st).wr Reg.DTS_PROBE_TEMP temp).event [Reg.DTS_STAT_PROFILE]) :=
  (((h.wr _ _).wr _ _).wr _ _).event _

/-- The next profile is counted and numbered (R209). -/
def numbered (s : State) : State := (s.bump Reg.DTS_PROF_CNT).wr Reg.DTS_PROF_SEQ ((s.bump Reg.DTS_PROF_CNT).rd Reg.DTS_PROF_SEQ + 1)

theorem wf_numbered (wf : storeWf s.regs.live = true) : storeWf (numbered s).regs.live = true := wf_wr (wf_bump wf _) _ _

theorem only_numbered : onlyParts [.regs] s (numbered s) := only_wr (only_bump only_refl (by decide)) (by decide)

theorem rd_profCnt_numbered (wf : storeWf s.regs.live = true) :
    (numbered s).rd Reg.DTS_PROF_CNT = min (s.rd Reg.DTS_PROF_CNT + 1) (2 ^ 32 - 1) :=
  (rd_wr_other (wf_bump wf _) _ _ (by decide) (by decide) (.inr (by decide)) _).trans (rd_bump wf _ rfl (by decide))

theorem rd_profSeq_numbered (wf : storeWf s.regs.live = true) :
    (numbered s).rd Reg.DTS_PROF_SEQ = (s.rd Reg.DTS_PROF_SEQ + 1) % 2 ^ 32 := by
  have uncounted : (s.bump Reg.DTS_PROF_CNT).rd Reg.DTS_PROF_SEQ = s.rd Reg.DTS_PROF_SEQ :=
    rd_wr_other wf _ _ (by decide) (by decide) (.inr (by decide)) _
  exact (rd_wr (wf_bump wf _) _ rfl (by decide) _).trans (by rw [uncounted]; rfl)

/-- The unload `u` has become the next profile from `s` to `v`, numbered and counted. -/
structure Profiled (u : DtsUnload) (s v : State) : Prop where
  unload : v.dts.unload = s.dts.unload
  count : v.rd Reg.DTS_PROF_CNT = min (s.rd Reg.DTS_PROF_CNT + 1) (2 ^ 32 - 1)
  seq : v.rd Reg.DTS_PROF_SEQ = (s.rd Reg.DTS_PROF_SEQ + 1) % 2 ^ 32
  newest : (v.dts.profiles.head?).map (fun p => (p.seq, p.block, p.m, p.lastSweep, p.doneAt))
    = some (v.rd Reg.DTS_PROF_SEQ, u.blk.block, u.blk.m, u.lastSweep, s.now)

/-- The drone, the results' words, the features and the streams all leave the unloads, the profile's number and its count alone. -/
theorem profile_profiled (u : DtsUnload) (wf : storeWf s.regs.live = true) : Profiled u s (s.profile u) := by
  unfold State.profile
  extract_lets capo stop conv temps short c0 c1 r flags s1 s2 s3 s4 s5 hot s6 s7 x s8 s9 s10 s11 before p s12 s13
  have drone : DroneUpdated s r.1 := droneUpdate_updated u c0 c1
  have wf1 : storeWf r.1.regs.live = true := drone.words.wf wf
  have wf2 : storeWf s2.regs.live = true := wf_numbered wf1
  have shown : CountsIn resultWords s2 s11 := by
    have probed : CountsIn resultWords s2 s10 := countsIn_profileProbe (countsIn_profileResults _ _ _ _ _ _ _) _ _ _
    simp only [s11]
    split
    · exact (probed.event _).bump _
    · exact probed
  have tapped : onlyParts [.aar] s12 s13 := only_ite only_refl (only_tapDue only_refl (by decide))
  generalize last : (s13.giveFeatures temps before u.old).giveTemps p capo stop = v
  have given : WordsIn deliveryWords s12 v :=
    last ▸ wordsIn_giveTemps (wordsIn_giveFeatures (WordsIn.refl.of_regs (tapped .regs (by decide))))
  have dts : v.dts = s12.dts := last ▸ only_giveTemps (ps := [.aar, .regs, .zon, .cmp, .kpe])
    (only_giveFeatures (onlyParts_mono tapped (by decide)) (by decide)) (by decide) .dts (by decide)
  have kept (f : Field) (hf : f.lo + f.width ≤ 32) (delivery : f.addr ∉ deliveryWords) (result : f.addr ∉ resultWords) : v.rd f = s2.rd f :=
    (given.rd (shown.wf wf2) f hf delivery).trans (shown.wordsIn.rd wf2 f hf result)
  have seq : v.rd Reg.DTS_PROF_SEQ = s2.rd Reg.DTS_PROF_SEQ := kept _ (by decide) (by decide) (by decide)
  have now : s11.now = s.now :=
    calc s11.now = s2.now := shown.only .now (by decide)
      _ = r.1.now := only_numbered .now (by decide)
      _ = s.now := only_droneUpdate (ps := [.regs, .dts]) only_refl (by decide) .now (by decide)
  refine ⟨?unload, ?count, ?seq, ?newest⟩
  case unload =>
    calc v.dts.unload = s11.dts.unload := by rw [dts]; rfl
      _ = s2.dts.unload := congrArg Dts.unload (shown.only .dts (by decide))
      _ = r.1.dts.unload := congrArg Dts.unload (only_numbered .dts (by decide))
      _ = s.dts.unload := drone.unload
  case count =>
    calc v.rd Reg.DTS_PROF_CNT = s2.rd Reg.DTS_PROF_CNT := kept _ (by decide) (by decide) (by decide)
      _ = min (r.1.rd Reg.DTS_PROF_CNT + 1) (2 ^ 32 - 1) := rd_profCnt_numbered wf1
      _ = min (s.rd Reg.DTS_PROF_CNT + 1) (2 ^ 32 - 1) := by rw [drone.words.rd wf _ (by decide) (by decide)]
  case seq =>
    calc v.rd Reg.DTS_PROF_SEQ = s2.rd Reg.DTS_PROF_SEQ := seq
      _ = (r.1.rd Reg.DTS_PROF_SEQ + 1) % 2 ^ 32 := rd_profSeq_numbered wf1
      _ = (s.rd Reg.DTS_PROF_SEQ + 1) % 2 ^ 32 := by rw [drone.words.rd wf _ (by decide) (by decide)]
  case newest =>
    have head : v.dts.profiles.head? = some p := by rw [dts]; rfl
    have number : p.seq = v.rd Reg.DTS_PROF_SEQ := (shown.wordsIn.rd wf2 _ (by decide) (by decide)).trans seq.symm
    have instant : p.doneAt = s.now := now
    rw [head, Option.map_some, number, instant]

/-- What is left as `u` leaves the unloads for its conversion: the other unloads, and the coils' results that a block still needs (R204). -/
def unloadTaken (w : State) (u : DtsUnload) (rest : List DtsUnload) : State :=
  w.mapDts (fun d => { d with
    unload := rest
    coilRes := d.coilRes.filter (fun r => rest != [] || d.blk.first.any (fun f => decide (f.2 ≤ r.time))
      || u.blk.first.any (fun f => decide (f.2 ≤ r.time))) })

theorem exec_profileComplete {u : DtsUnload} {rest : List DtsUnload} (hw : w = s.atT i) (front : w.dts.unload = u :: rest)
    (on : w.rdOwn u.old Reg.DTS_CTL_EN = 1) : exec (.profileComplete i) s = .next ((unloadTaken w u rest).profile u) := by
  change execProfileComplete i s = _
  unfold execProfileComplete
  simp only [← hw, front]
  exact if_pos on

/-- Settles O23: an unclipped sweep is treated by `sweepInto` (R193 to R195), the block in progress closes at the first boundary into a later
one (R196), and the oldest unload becomes the next profile (`profile_profiled`, R202, R209). -/
theorem ramanSweepsBecomeProfiles : Obligations.RamanSweepsBecomeProfiles := by
  unfold Obligations.RamanSweepsBecomeProfiles
  intro t s w hw wf
  refine ⟨?accumulated, ?skipped, ?closed, ?late, ?profiled⟩
  case accumulated =>
    rintro n b0 b1 y0 y1 a sp on ready rmx dts why counted active unload ha now block keeps rfl hb0 hb1 hy0 hy1 samples
    have unclipped := unclipped_of_all samples
    obtain ⟨⟨⟨ub0, ub1⟩, uy0⟩, uy1⟩ := by simpa only [unclipped_append] using unclipped
    have tunings : SameTunings w ((treat w n).bump Reg.RMX_GOOD_CNT) := sameTunings_bump ⟨rfl, rfl, rfl, rfl⟩
    refine ⟨_, exec_ramanSweepAccumulate hw on ready rmx dts counted unclipped, ?_⟩
    rw [why, ub0.digitised_eq hb0, ub1.digitised_eq hb1, uy0.digitised_eq hy0, uy1.digitised_eq hy1]
    refine ⟨?_, sweepInto_treated none, rd_goodCnt_sweepInto wf, only_sweepInto none⟩
    have good : ((treat w n).bump Reg.RMX_GOOD_CNT).dts = w.dts := bump_dts _ _
    rw [sweepInto, intoBlock_inProgress (a := a) ((tunings.rdFor (bump_chp _ _) _ rfl).trans ha.symm) ((tunings.rd _ rfl).trans now)
      (by rw [good, active]) (by rw [good, unload]) (by rw [good, block]) (by rw [good]; exact keeps), mapDts_dts, good, ha]
  case skipped =>
    intro n b0 b1 y0 y1 r on ready rmx dts why counted samples
    refine ⟨_, exec_ramanSweepAccumulate hw on ready rmx dts counted (unclipped_of_all samples), ?_⟩
    rw [why]
    exact ⟨sweepInto_treated _, rd_counter_sweepInto wf r, rd_goodCnt_sweepInto_skipped wf r, only_sweepInto _⟩
  case closed =>
    intro active later
    refine ⟨_, exec_dtsBlockClose hw active later, ?_⟩
    rw [closeBlock_active active]
    exact ⟨rfl, rfl, by simp [unloadOf, tick], only_mapDts only_refl (by decide)⟩
  case late =>
    intro u mem late dts
    exact exec_unloadLate hw mem late dts
  case profiled =>
    intro u rest front on
    have profiled : Profiled u (unloadTaken w u rest) ((unloadTaken w u rest).profile u) := profile_profiled u wf
    exact ⟨_, exec_profileComplete hw front on, profiled.unload, profiled.count, profiled.seq, profiled.newest,
      only_profile (only_mapDts only_refl (by decide)) (by decide)⟩

end Sys2Proof.Proofs

end

section
/-! Analysis cores (R214 to R216, R228, R230, R234): what an instruction that issues leaves, and the memory, feature and vector instructions. -/

namespace Sys2Proof.Proofs

open Sys2Proof Sys2Proof.Machine Sys2Proof.Safety Sys2Proof.Laws

variable {s u : State} {n i op stall : Nat} {w : BitVec 64} {c c' : AarCore} {x : AarWord}

/-! ### The step of a core -/

theorem atT_aar (t : Instant) : (s.atT t).aar = s.aar :=
  only_atT (ps := [.now, .regs, .psq, .pfl, .dts, .guards, .tiu, .eth]) only_refl (List.Subset.refl _) .aar (by decide)

theorem aarCount_aar (e : AarEv) : (s.aarCount n e).aar = s.aar := only_aarCount (ps := [.regs]) only_refl (List.Subset.refl _) .aar (by decide)

/-- An instruction that issues (R214, R217, R228) leaves its effect on its core, taken as `coreOn` has it, and what it counted. -/
theorem aarStep_of_issues {f : AarWord → AarCore → AarCore × AarEv} (issues : aarIssues s n w op i u) :
    s.aarStep n w op stall f
      = (u.mapCore n fun _ => (f (aarFields w) (coreOn u n w i stall)).1).aarCount n (f (aarFields w) (coreOn u n w i stall)).2 := by
  obtain ⟨fits, -, running, fate, here, fetched, opcode, defined, hi, fr, frame, inTime, rfl⟩ := issues
  have core (t : Instant) : (s.atT t).core n = s.core n := by rw [State.core, State.core, atT_aar]
  unfold State.aarStep
  simp only [frame, ← hi]
  rw [if_pos (by simp [running, fate, fits, fetched, opcode, defined, inTime, here])]
  simp only [coreOn, core, hi, frame]

/-- Where a row's effect makes `c'` of its core, the core becomes `c'`. -/
theorem coreBecomes_of_issues {f : AarWord → AarCore → AarCore × AarEv} (hx : x = aarFields w) (hc : c = coreOn u n w i stall)
    (issues : aarIssues s n w op i u) (effect : (f x c).1 = c') : coreBecomes (.next (s.aarStep n w op stall f)) u n c' := by
  refine ⟨_, congrArg _ (aarStep_of_issues issues), ?_, only_aarCount (only_mapCore only_refl (by decide)) (by decide)⟩
  rw [aarCount_aar, ← hx, ← hc, effect]
  rfl

/-! ### The fields of a word (R228) -/

theorem imm_aarFields (w : BitVec 64) : (aarFields w).imm = w.setWidth 32 := by
  apply BitVec.eq_of_toNat_eq
  simp only [AarWord.imm, aarFields, BitVec.toNat_ofNat, BitVec.toNat_setWidth]
  omega

theorem lo_aarFields (w : BitVec 64) : (aarFields w).lo = w.toNat % 2 ^ 16 := by simp [aarFields]

/-! ### Special registers and features (R228, R234) -/

/-- SRD's special register `k` of core `n`, read `i` core cycles into its frame. -/
def specialReg (c : AarCore) (n i : Nat) : Nat → Nat
  | 0 => c.icnt
  | 1 => n
  | 2 => min i (2 ^ 32 - 1)
  | _ => ((c.frame.map (fun f => f.k)).getD 0) % 2 ^ 32

/-- SRD awaits no result, so it issues at the core's next free cycle, the one it reads. -/
theorem srd_issueAt (issues : aarIssues s n w 0x1D i u) :
    issueAt (aarUse (aarFields w) 1) (s.core n).cyc (s.core n).sReady (s.core n).vReady (s.core n).accReady = i := by
  obtain ⟨-, -, -, -, -, -, opcode, -, rfl, -⟩ := issues
  simp [aarUse, opcode]

theorem srd_becomes (hx : x = aarFields w) (hc : c = coreOn u n w i stall) (issues : aarIssues s n w 0x1D i u) {k : Nat}
    (low : w.toNat % 2 ^ 16 = k) : coreBecomes (exec (.aarSrd n w stall) s) u n
      ((if k / 2 ^ 8 % 2 = 1 then { c with icnt := 0 } else c).setS x.d (BitVec.ofNat 32 (specialReg c n i (k % 16)))) := by
  have lo : x.lo = k := by rw [hx, lo_aarFields, low]
  refine coreBecomes_of_issues hx hc issues ?_
  rw [srd_issueAt issues, ← lo]
  rfl

/-- FOUT's place and INVALID are fields of its word. -/
theorem fout_fields (w : BitVec 64) :
    (aarFields w).lo % 8 = w.toNat % 8 ∧ decide ((aarFields w).lo / 2 ^ 8 % 2 = 1) = w.getLsbD 8 := by
  rw [lo_aarFields]
  refine ⟨by omega, ?_⟩
  rw [BitVec.getLsbD, Nat.testBit_eq_decide_div_mod_eq, decide_eq_decide]
  omega

/-! ### Vector accesses (R216, R228, R230) -/

/-- Four real words without INV, each into I with Q at 0. -/
theorem loadReal_plain (a : Nat) :
    c.loadReal a false = ([(c.rd16 a, 0), (c.rd16 (a + 2), 0), (c.rd16 (a + 4), 0), (c.rd16 (a + 6), 0)], 0) := by
  simp [AarCore.loadReal, List.range_succ]

theorem addInv_zero (fits : c.icnt < 2 ^ 32) : c.addInv 0 = c := by
  rw [AarCore.addInv, Nat.add_zero, Nat.min_eq_left (by omega)]

/-! ### Vector arithmetic (R215) -/

theorem laneMul_plain (p q : Lane) :
    laneMul p q false = (p.1.toInt * q.1.toInt - p.2.toInt * q.2.toInt, p.1.toInt * q.2.toInt + p.2.toInt * q.1.toInt) := rfl

theorem laneMul_conj (p q : Lane) :
    laneMul p q true = (p.1.toInt * q.1.toInt + p.2.toInt * q.2.toInt, p.2.toInt * q.1.toInt - p.1.toInt * q.2.toInt) := by
  simp only [laneMul, if_true, Int.mul_neg, Int.sub_neg, Prod.mk.injEq, true_and]
  omega

/-- Lanes narrowed are each part clamped. -/
theorem narrow_zip {xs ys : List Lane} (g : Lane × Lane → Int × Int) :
    (narrow ((xs.zip ys).map g)).1
      = List.zipWith (fun p q => (BitVec.ofInt 16 (clampS 16 (g (p, q)).1), BitVec.ofInt 16 (clampS 16 (g (p, q)).2))) xs ys := by
  simp [narrow, sat16, List.zip, List.map_zipWith]

/-- A product of lanes, `re` and `im` its exact parts, is shifted and narrowed. -/
theorem vmul_core {conj : Bool} {re im : Lane → Lane → Int} (parts : ∀ p q, laneMul p q conj = (re p q, im p q)) :
    (c.vmul x conj).1 = c.setV x.d (List.zipWith (fun p q => (BitVec.ofInt 16 (clampS 16 (re p q / 2 ^ (15 + x.sh))),
      BitVec.ofInt 16 (clampS 16 (im p q / 2 ^ (15 + x.sh))))) (c.vr x.a) (c.vr x.b)) := by
  simp only [AarCore.vmul, narrow_zip, parts]

/-- Sums of accumulators and products, each held within ±(2⁴⁷ − 1). -/
theorem map_sat48_zip {as : List Int} {xs ys : List Lane} (g : Lane → Lane → Int) (h : Lane × Lane → Int × Int) (part : Int × Int → Int)
    (hg : ∀ p q, part (h (p, q)) = g p q) :
    ((as.zip ((xs.zip ys).map h)).map (fun y => sat48 (y.1 + part y.2))).map (fun y => y.1)
      = List.zipWith (fun a k => max (-(2 ^ 47 - 1)) (min (a + k) (2 ^ 47 - 1))) as (List.zipWith g xs ys) := by
  have products : List.zipWith g xs ys = ((xs.zip ys).map h).map part := by
    simp only [List.zip, List.map_zipWith, hg]
  rw [products, List.zipWith_map_right]
  simp only [sat48, List.zip, List.map_zipWith]

/-- A product of lanes, `re` and `im` its exact parts, joins the accumulators. -/
theorem vmac_core {conj : Bool} {re im : Lane → Lane → Int} (parts : ∀ p q, laneMul p q conj = (re p q, im p q)) :
    (c.vmac x conj).1 = { c with
      accRe := List.zipWith (fun a k => max (-(2 ^ 47 - 1)) (min (a + k) (2 ^ 47 - 1))) c.accRe (List.zipWith re (c.vr x.a) (c.vr x.b))
      accIm := List.zipWith (fun a k => max (-(2 ^ 47 - 1)) (min (a + k) (2 ^ 47 - 1))) c.accIm (List.zipWith im (c.vr x.a) (c.vr x.b)) } := by
  unfold AarCore.vmac
  dsimp only
  rw [map_sat48_zip re _ (fun y => y.1) (by simp [parts]), map_sat48_zip im _ (fun y => y.2) (by simp [parts])]

/-- Lanes added with the factor `k`, which stands for the operation `f` of each part, are shifted and narrowed. -/
theorem vadd_core {k : Int} {f : Int → Int → Int} (hf : ∀ a b, a + k * b = f a b) :
    (c.vadd x k).1 = c.setV x.d (List.zipWith (fun p q => (BitVec.ofInt 16 (clampS 16 (f p.1.toInt q.1.toInt / 2 ^ x.sh)),
      BitVec.ofInt 16 (clampS 16 (f p.2.toInt q.2.toInt / 2 ^ x.sh)))) (c.vr x.a) (c.vr x.b)) := by
  simp only [AarCore.vadd, narrow_zip, hf]

/-- AMOV's sum over the lanes does not depend on its order. -/
theorem foldl_add_eq_foldr_add (xs : List Int) : xs.foldl (fun a b => a + b) 0 = xs.foldr (fun a b => a + b) 0 :=
  List.foldl_eq_apply_foldr.trans (Int.zero_add _)

/-- Settles O25: each row's effect on the core that has moved on (`coreBecomes_of_issues`), the products by `vmul_core` and `vmac_core`,
the sums by `vadd_core`. -/
theorem coresRunVectorInstructions : Obligations.CoresRunVectorInstructions := by
  unfold Obligations.CoresRunVectorInstructions
  intro s u n i stall w c x hx hc
  have imm : x.imm = w.setWidth 32 := by rw [hx, imm_aarFields]
  refine ⟨?sld, ?sst, ?icnt, ?icntCleared, ?number, ?cycles, ?frame, ?feature, ?featureDropped, ?loadComplex, ?loadReal, ?storeReal,
    ?storeComplex, ?vmul, ?vcmul, ?vadd, ?vsub, ?vmac, ?vmacc, ?aclr, ?amovRe, ?amovIm⟩
  case sld =>
    intro issues
    rw [← imm]
    exact coreBecomes_of_issues hx hc issues rfl
  case sst =>
    intro issues
    rw [← imm]
    exact coreBecomes_of_issues hx hc issues rfl
  case icnt => exact fun issues low => srd_becomes hx hc issues low
  case icntCleared => exact fun issues low => srd_becomes hx hc issues low
  case number => exact fun issues low => srd_becomes hx hc issues low
  case cycles => exact fun issues low => srd_becomes hx hc issues low
  case frame =>
    intro f issues low frame
    have number : BitVec.ofNat 32 f.k = BitVec.ofNat 32 (specialReg c n i 3) := BitVec.eq_of_toNat_eq (by simp [specialReg, frame])
    rw [number]
    exact srd_becomes hx hc issues low
  case feature =>
    rintro z issues rfl own
    obtain ⟨place, invalid⟩ := hx ▸ fout_fields w
    refine coreBecomes_of_issues hx hc issues ?_
    rw [← place] at own
    dsimp only
    rw [if_pos own, place, invalid]
  case featureDropped =>
    intro issues other
    obtain ⟨place, -⟩ := hx ▸ fout_fields w
    refine coreBecomes_of_issues hx hc issues ?_
    rw [← place] at other
    dsimp only
    rw [if_neg (ne_true_of_eq_false other)]
  case loadComplex =>
    rintro a issues mode rfl
    exact coreBecomes_of_issues hx hc issues (congrArg Prod.fst (if_pos mode))
  case loadReal =>
    rintro a issues mode rfl fits
    refine coreBecomes_of_issues hx hc issues ?_
    rw [if_neg (by omega)]
    simp only [mode, Nat.reduceBEq, loadReal_plain]
    rw [addInv_zero (c := c.setV _ _) fits]
    rfl
  case storeReal =>
    rintro a issues mode rfl
    refine coreBecomes_of_issues hx hc issues ?_
    dsimp only
    rw [if_neg (by omega)]
    rfl
  case storeComplex =>
    rintro a issues mode rfl
    refine coreBecomes_of_issues hx hc issues ?_
    dsimp only
    rw [if_pos mode]
    rfl
  case vmul => exact fun issues => coreBecomes_of_issues hx hc issues (vmul_core laneMul_plain)
  case vcmul => exact fun issues => coreBecomes_of_issues hx hc issues (vmul_core laneMul_conj)
  case vadd => exact fun issues => coreBecomes_of_issues hx hc issues (vadd_core fun a b => by omega)
  case vsub => exact fun issues => coreBecomes_of_issues hx hc issues (vadd_core fun a b => by omega)
  case vmac => exact fun issues => coreBecomes_of_issues hx hc issues (vmac_core laneMul_plain)
  case vmacc => exact fun issues => coreBecomes_of_issues hx hc issues (vmac_core laneMul_conj)
  case aclr => exact fun issues => coreBecomes_of_issues hx hc issues rfl
  case amovRe =>
    intro issues mode
    rw [← foldl_add_eq_foldr_add]
    refine coreBecomes_of_issues hx hc issues ?_
    rw [if_neg (by omega)]
    rfl
  case amovIm =>
    intro issues mode
    rw [← foldl_add_eq_foldr_add]
    refine coreBecomes_of_issues hx hc issues ?_
    rw [if_pos mode]
    rfl

end Sys2Proof.Proofs

end

section
/-! Zone units (R255 to R267): what a step of all units leaves, how an enabled unit takes an action and reports it, and how records leave for KPE. -/

namespace Sys2Proof.Proofs

open Sys2Proof Sys2Proof.Machine Sys2Proof.Safety Sys2Proof.Laws

variable {s t v w : State} {z : Nat}

/-! ### What the units leave of the step itself (R255, R256, R272) -/

/-- The instants and the sweep of ZON's step, the resets that wait for it, FIRE_SEEN and the bus requests are the same. -/
structure SameStep (s v : State) : Prop where
  due : v.zon.stepDue = s.zon.stepDue
  last : v.zon.lastStep = s.zon.lastStep
  sweep : v.zon.stepSweep = s.zon.stepSweep
  resets : v.zon.resetUnits = s.zon.resetUnits
  seen : v.zon.fireSeen = s.zon.fireSeen
  requests : v.zon.busReq = s.zon.busReq

theorem SameStep.of_zon (h : v.zon = s.zon) : SameStep s v := by constructor <;> rw [h]

theorem SameStep.refl : SameStep s s := .of_zon rfl

theorem SameStep.trans (h : SameStep s t) (h' : SameStep t v) : SameStep s v where
  due := h'.due.trans h.due
  last := h'.last.trans h.last
  sweep := h'.sweep.trans h.sweep
  resets := h'.resets.trans h.resets
  seen := h'.seen.trans h.seen
  requests := h'.requests.trans h.requests

theorem sameStep_ite {c : Prop} [Decidable c] {a b : State} (ha : SameStep s a) (hb : SameStep s b) : SameStep s (if c then a else b) := by
  split <;> assumption

theorem sameStep_mapUnit {f : ZoneUnit → ZoneUnit} : SameStep s (s.mapUnit z f) := ⟨rfl, rfl, rfl, rfl, rfl, rfl⟩

theorem sameStep_armAssert : SameStep s s.armAssert := ⟨rfl, rfl, rfl, rfl, rfl, rfl⟩

theorem sameStep_firePull {cal : Bool} : SameStep s (s.firePull cal) := ⟨rfl, rfl, rfl, rfl, rfl, rfl⟩

theorem sameStep_armRelease : SameStep s s.armRelease := sameStep_ite ⟨rfl, rfl, rfl, rfl, rfl, rfl⟩ .refl

theorem sameStep_armIgnored : SameStep s s.armIgnored := .of_zon (by simp [State.armIgnored])

theorem sameStep_fireSuppressed : SameStep s s.fireSuppressed := .of_zon (by simp [State.fireSuppressed])

theorem emit_zon {e : EventRec} : (s.emit e).zon = { s.zon with waiting := s.zon.waiting ++ [e] } := bump_zon _ _

theorem sameStep_emit {e : EventRec} : SameStep s (s.emit e) := by constructor <;> rw [emit_zon]

theorem sameStep_zoneAction {j a before : Nat} {x : ZoneInput} {idle armed : Bool} {reqs : List CapRequest} :
    SameStep s (s.zoneAction z j a before x idle armed reqs).1 := by
  unfold State.zoneAction
  extract_lets m u n capp cap held asks s1 tag span margin req s2 field bus may s3 bit
  have heldCounted : SameStep s s1 := sameStep_ite (.of_zon (bump_zon _ _)) .refl
  have asked : SameStep s s2 := heldCounted.trans (sameStep_ite ⟨rfl, rfl, rfl, rfl, rfl, rfl⟩ .refl)
  have driven : SameStep s s3 := by
    subst s3
    clear_value may s2 bus
    refine asked.trans ?_
    split
    · exact sameStep_ite sameStep_firePull sameStep_fireSuppressed
    · exact sameStep_ite sameStep_armAssert sameStep_armIgnored
    · exact sameStep_ite sameStep_armRelease sameStep_armIgnored
    · exact .refl
  exact driven.trans (sameStep_ite ((sameStep_mapUnit.trans sameStep_emit).trans (.of_zon (event_zon _ _))) .refl)

theorem sameStep_zoneTakes {st : Nat} {pick : Option Nat} {ins : Nat → ZoneInput} {idle armed : Bool} {reqs : List CapRequest} :
    SameStep s (s.zoneTakes z st pick ins idle armed reqs).1 := by
  cases pick with
  | none => exact .refl
  | some j => exact sameStep_mapUnit.trans sameStep_zoneAction

theorem sameStep_zoneUnitStep {idle armed seen : Bool} {reqs : List CapRequest} :
    SameStep s (s.zoneUnitStep z idle armed seen reqs).1 := by
  unfold State.zoneUnitStep
  extract_lets m tiu spdOk u st conds ins outs v
  clear_value v ins
  exact sameStep_mapUnit.trans sameStep_zoneTakes

theorem sameStep_units {zs : List Nat} {idle armed seen : Bool} {p : State × List CapRequest} (h : SameStep s p.1) :
    SameStep s (zs.foldl (fun p z => State.zoneUnitStep p.1 z idle armed seen p.2) p).1 := by
  induction zs generalizing p with
  | nil => exact h
  | cons z zs ih =>
    have next : SameStep s (State.zoneUnitStep p.1 z idle armed seen p.2).1 := h.trans sameStep_zoneUnitStep
    rw [List.foldl_cons]
    exact ih next

theorem sameStep_mapUnits {zs : List Nat} {f : ZoneUnit → ZoneUnit} : SameStep s (zs.foldl (fun s z => s.mapUnit z f) s) := by
  induction zs generalizing s with
  | nil => exact .refl
  | cons z zs ih => exact sameStep_mapUnit.trans ih

/-! ### Merging (R270, R271) -/

/-- The words that count capture requests. -/
def mergeWords : List Nat := [Reg.ZON_CAP_REQ_CNT, Reg.ZON_MERGE_CNT].map Field.addr

/-- What a merge of requests keeps: the units, and the newest record where it waits for no request. -/
structure Merged (s v : State) : Prop where
  step : SameStep s v
  units : v.zon.units = s.zon.units
  newest : ∀ e, s.zon.waiting.getLast? = some e → e.capture = .none → v.zon.waiting.getLast? = some e
  words : WordsIn mergeWords s v

theorem Merged.refl : Merged s s := ⟨.refl, rfl, fun _ h _ => h, .refl⟩

theorem Merged.trans (h : Merged s t) (h' : Merged t v) : Merged s v :=
  ⟨h.step.trans h'.step, h'.units.trans h.units, fun e last free => h'.newest e (h.newest e last free) free, h.words.trans h'.words⟩

theorem retag_of_none {e : EventRec} (free : e.capture = .none) (tags : List Nat) (tag : Nat) : e.retag tags tag = e := by
  simp [EventRec.retag, free]

/-- One merged request goes to RNG. -/
theorem merged_request (r : CapRequest) (tags : List Nat) (n : Nat) :
    Merged s (((s.mapZon (fun q => { q with
      requests := q.requests ++ [r]
      waiting := q.waiting.map (fun e => e.retag tags r.tag) })).bump Reg.ZON_CAP_REQ_CNT).bumpBy Reg.ZON_MERGE_CNT n) := by
  constructor
  case step => constructor <;> simp
  case units => simp
  case newest =>
    intro e last free
    simp [last, retag_of_none free]
  case words =>
    exact (WordsIn.refl.of_regs (mapZon_regs _ _)).trans (countsIn_bumpBy (CountsIn.refl.bump _) n (by decide) (by decide)).wordsIn

theorem merged_mergeRequests (reqs : List CapRequest) : Merged s (s.mergeRequests reqs) := by
  unfold State.mergeRequests
  extract_lets per gs ms
  clear_value ms
  induction ms generalizing s with
  | nil => exact .refl
  | cons p ms ih => exact (merged_request p.1 p.2 (p.2.length - 1)).trans ih

/-! ### A step of all units (R255, R256, R272) -/

/-- The step's sweep and instant are noted, and ARM is released outside a MASTER. -/
def stepBegun (s : State) : State :=
  let t := s.mapZon (fun q => { q with stepSweep := s.sweep, lastStep := s.now, stepDue := none })
  if t.muRole != 1 then t.armRelease else t

/-- The units whose reset waits are reset. -/
def stepReset (s : State) : State :=
  (s.zon.resetUnits.foldl (fun s z => s.mapUnit z ZoneUnit.cleared) s).mapZon (fun q => { q with resetUnits := [] })

/-- The units that step. -/
def steppingUnits (s : State) : List Nat :=
  if s.on Reg.ZON_CTL_EN && !s.isolated .zon then
    (List.range 256).filter (fun z => fretEn s.mems.act z && !s.isolatedAt .zon (some z)) else []

/-- The units step, one after the other. -/
def stepUnits (s : State) (idle : Bool) : State × List CapRequest :=
  (steppingUnits s).foldl (fun p z => State.zoneUnitStep p.1 z idle s.armPin s.zon.fireSeen p.2) (s, [])

/-- FIRE_SEEN and the bus requests are used up; at an idle step a bus request captures nothing (R256). -/
def stepClosed (s : State) (idle : Bool) (bus : List CapRequest) : State :=
  s.mapZon (fun q => { q with
    fireSeen := false, busReq := []
    waiting := if idle then
        q.waiting.map (fun e => match e.capture with
          | .waiting t => if bus.any (fun b => b.tag == t) then { e with capture := .noSweep } else e
          | _ => e)
      else q.waiting })

theorem zoneSteps_eq (s : State) (idle : Bool) :
    let p := stepReset (stepBegun s)
    let r := stepUnits p idle
    s.zoneSteps idle = (stepClosed r.1 idle p.zon.busReq).mergeRequests (r.2 ++ if idle then [] else p.zon.busReq) := rfl

/-- A step is open: nothing is due, its instant and sweep are noted, and no reset waits. -/
structure StepOpen (s v : State) : Prop where
  due : v.zon.stepDue = none
  last : v.zon.lastStep = s.now
  sweep : v.zon.stepSweep = s.sweep
  resets : v.zon.resetUnits = []

theorem StepOpen.same (h : StepOpen s t) (h' : SameStep t v) : StepOpen s v :=
  ⟨h'.due.trans h.due, h'.last.trans h.last, h'.sweep.trans h.sweep, h'.resets.trans h.resets⟩

theorem stepOpen_stepReset (due : t.zon.stepDue = none) (last : t.zon.lastStep = s.now) (sweep : t.zon.stepSweep = s.sweep) :
    StepOpen s (stepReset t) := by
  have reset : SameStep t (t.zon.resetUnits.foldl (fun s z => s.mapUnit z ZoneUnit.cleared) t) := sameStep_mapUnits
  unfold stepReset
  generalize t.zon.resetUnits.foldl (fun s z => s.mapUnit z ZoneUnit.cleared) t = u at reset
  exact ⟨reset.due.trans due, reset.last.trans last, reset.sweep.trans sweep, rfl⟩

theorem stepOpen_stepBegun : StepOpen s (stepReset (stepBegun s)) := by
  have begun : SameStep (s.mapZon (fun q => { q with stepSweep := s.sweep, lastStep := s.now, stepDue := none })) (stepBegun s) :=
    sameStep_ite sameStep_armRelease .refl
  exact stepOpen_stepReset begun.due begun.last begun.sweep

/-- What every step leaves of ZON: nothing is due, and no bus request or accepted edge is left behind. -/
structure StepTaken (s v : State) : Prop where
  opened : StepOpen s v
  seen : v.zon.fireSeen = false
  requests : v.zon.busReq = []
  only : onlyParts [.zon, .regs] s v

theorem stepClosed_open {idle : Bool} {bus : List CapRequest} (h : StepOpen s t) : StepOpen s (stepClosed t idle bus) :=
  ⟨h.due, h.last, h.sweep, h.resets⟩

theorem zoneSteps_taken {idle : Bool} : StepTaken s (s.zoneSteps idle) := by
  have only : onlyParts [.zon, .regs] s (s.zoneSteps idle) := only_zoneSteps only_refl (by decide)
  have stepped : StepOpen s (stepUnits (stepReset (stepBegun s)) idle).1 := stepOpen_stepBegun.same (sameStep_units .refl)
  rw [zoneSteps_eq] at only ⊢
  exact {
    opened := (stepClosed_open stepped).same (merged_mergeRequests _).step
    seen := (merged_mergeRequests _).step.seen
    requests := (merged_mergeRequests _).step.requests
    only := only }

/-! ### One enabled unit (R251 to R265) -/

theorem unit_mapUnit (hz : z < s.zon.units.length) (f : ZoneUnit → ZoneUnit) : (s.mapUnit z f).unit z = f (s.unit z) :=
  getD_modAt hz f _

theorem unit_of_units (h : v.zon.units = s.zon.units) (z : Nat) : v.unit z = s.unit z := by rw [State.unit, h, State.unit]

theorem mapUnit_units_length (f : ZoneUnit → ZoneUnit) : (s.mapUnit z f).zon.units.length = s.zon.units.length := modAt_length _ _ _

@[simp] theorem mapUnit_mems (f : ZoneUnit → ZoneUnit) : (s.mapUnit z f).mems = s.mems := rfl

@[simp] theorem mapUnit_now (f : ZoneUnit → ZoneUnit) : (s.mapUnit z f).now = s.now := rfl

/-- An effect changes counters and timers alone (R260). -/
theorem effect_zseq (u : ZoneUnit) (target code now : Nat) : (u.effect target code now).zseq = u.zseq := by
  unfold ZoneUnit.effect
  split <;> rfl

/-- The unit as its step latches it (R252, R253). -/
def latched (s : State) (z : Nat) (idle : Bool) : ZoneUnit :=
  let tiu := s.tiu.units.getD (fretTiu s.mems.act z) {}
  (s.unit z).latch s.mems.act z tiu.rate (fretSpd s.mems.act z && tiu.rateValid && !s.pwr.fallback) idle s.now

/-- The words of a state's four conditions (R257). -/
def condWords (s : State) (z st : Nat) : List Nat := (List.range 4).map (fun j => condWord s.mems.act z st j)

/-- The inputs of its four conditions, as the unit has latched them (R251). -/
def condInputs (s : State) (z : Nat) (u : ZoneUnit) (armed seen : Bool) : List ZoneInput :=
  (condWords s z u.state).map (fun w => zoneInput u armed seen (bits w 57 5))

/-- Their outcomes; none: absent or IDLE (R259). -/
def condOutcomes (s : State) (z : Nat) (u : ZoneUnit) (armed seen : Bool) : List (Option Bool) :=
  (List.zip (condWords s z u.state) (condInputs s z u armed seen)).map (fun p =>
    if bits p.1 63 1 = 1 then outcome s.mems.act z u p.1 p.2 else none)

/-- The effect of a condition's word and outcome (R260). -/
def effectOf (now : Nat) (v : ZoneUnit) (p : Nat × Option Bool) : ZoneUnit :=
  match p.2 with
  | some true => v.effect (bits p.1 43 3) (bits p.1 41 2) now
  | some false => v.effect (bits p.1 43 3) (bits p.1 39 2) now
  | none => v

theorem effectOf_true (now : Nat) (v : ZoneUnit) (w : Nat) : effectOf now v (w, some true) = v.effect (bits w 43 3) (bits w 41 2) now := rfl

/-- The unit with the effects of its outcomes. -/
def effected (u : ZoneUnit) (now : Nat) (ws : List Nat) (os : List (Option Bool)) : ZoneUnit := (List.zip ws os).foldl (effectOf now) u

theorem effected_first (u : ZoneUnit) (now a b c d : Nat) :
    effected u now [a, b, c, d] [some true, none, none, none] = u.effect (bits a 43 3) (bits a 41 2) now := by
  rw [← effectOf_true]
  rfl

/-- The number of the condition whose action is taken (R264). -/
def picked (s : State) (z st : Nat) (os : List (Option Bool)) : Option Nat :=
  (List.range 4).find? (fun j => os.getD j none == some true && bits (actWord s.mems.act z st j) 31 1 == 1)

theorem zoneUnitStep_eq (s : State) (z : Nat) (idle armed seen : Bool) (reqs : List CapRequest) :
    s.zoneUnitStep z idle armed seen reqs =
      State.zoneTakes
        (s.mapUnit z (fun _ => effected (latched s z idle) s.now (condWords s z (latched s z idle).state)
          (condOutcomes s z (latched s z idle) armed seen)))
        z (latched s z idle).state (picked s z (latched s z idle).state (condOutcomes s z (latched s z idle) armed seen))
        (fun j => (condInputs s z (latched s z idle) armed seen).getD j (zoneInput (latched s z idle) armed seen 31)) idle armed reqs := rfl

theorem condWords_eq (s : State) (z st : Nat) :
    condWords s z st = [condWord s.mems.act z st 0, condWord s.mems.act z st 1, condWord s.mems.act z st 2, condWord s.mems.act z st 3] := rfl

theorem zoneTakes_some (s : State) (z st j : Nat) (ins : Nat → ZoneInput) (idle armed : Bool) (reqs : List CapRequest) :
    s.zoneTakes z st (some j) ins idle armed reqs
      = (s.mapUnit z (fun u => u.act (actWord s.mems.act z st j) s.now)).zoneAction z j (actWord s.mems.act z st j) st (ins j) idle armed reqs :=
  rfl

/-- The latched unit `u` with the effect of its first condition, which holds (R260). -/
def firstEffect (s : State) (z : Nat) (u : ZoneUnit) : ZoneUnit :=
  u.effect (bits (condWord s.mems.act z u.state 0) 43 3) (bits (condWord s.mems.act z u.state 0) 41 2) s.now

/-- The unit has taken this effect, and then its first action (R261). -/
def firstTaken (s : State) (z : Nat) (u : ZoneUnit) : State :=
  (s.mapUnit z (fun _ => firstEffect s z u)).mapUnit z (fun v => v.act (actWord s.mems.act z u.state 0) s.now)

/-- In the tables `m` the first condition of unit `u`'s state alone is present, and holds on the input `x`; its action is present, records,
captures nothing and drives no bus (R257, R259, R261). -/
structure FirstFires (m : List Host.Cell) (z : Nat) (u : ZoneUnit) (x : ZoneInput) : Prop where
  present : bits (condWord m z u.state 0) 63 1 = 1
  holds : outcome m z u (condWord m z u.state 0) x = some true
  absent1 : bits (condWord m z u.state 1) 63 1 = 0
  absent2 : bits (condWord m z u.state 2) 63 1 = 0
  absent3 : bits (condWord m z u.state 3) 63 1 = 0
  acts : bits (actWord m z u.state 0) 31 1 = 1
  plain : bits (actWord m z u.state 0) 4 4 = 1

/-- Then the first action is the one taken (R264, R265). -/
theorem zoneUnitStep_first {u : ZoneUnit} {idle armed seen : Bool} {reqs : List CapRequest} {x : ZoneInput} (hu : u = latched s z idle)
    (hx : x = zoneInput u armed seen (bits (condWord s.mems.act z u.state 0) 57 5)) (fires : FirstFires s.mems.act z u x) :
    s.zoneUnitStep z idle armed seen reqs
      = (firstTaken s z u).zoneAction z 0 (actWord s.mems.act z u.state 0) u.state x idle armed reqs := by
  have outcomes : condOutcomes s z u armed seen = [some true, none, none, none] := by
    simp [condOutcomes, condInputs, condWords_eq, fires.present, fires.absent1, fires.absent2, fires.absent3, ← hx,
      fires.holds]
  have first : picked s z u.state [some true, none, none, none] = some 0 := by
    simp [picked, show List.range 4 = [0, 1, 2, 3] from rfl, fires.acts]
  have input : (condInputs s z u armed seen).getD 0 (zoneInput u armed seen 31) = x := by
    rw [hx, condInputs, condWords_eq, List.map_cons, List.getD_cons_zero]
  have effect : effected u s.now (condWords s z u.state) [some true, none, none, none] = firstEffect s z u := by
    rw [condWords_eq, effected_first, firstEffect]
  rw [zoneUnitStep_eq, ← hu, outcomes, first, effect, zoneTakes_some, mapUnit_mems, mapUnit_now, input, firstTaken]

/-! ### A plain action's record (R261, R266) -/

/-- The bits of an action that records, captures nothing and drives no bus (R261). -/
theorem bits_plain {a : Nat} (plain : bits a 4 4 = 1) : bits a 4 1 = 1 ∧ bits a 5 1 = 0 ∧ bits a 6 2 = 0 := by
  unfold bits at *
  omega

/-- The unit `z` has its next event number. -/
def numberedUnit (s : State) (z : Nat) : State := s.mapUnit z (fun u => { u with zseq := ((s.unit z).zseq + 1) % 2 ^ 16 })

/-- Such an action numbers the unit's event and emits its record (R266). -/
theorem zoneAction_plain {j a before : Nat} {x : ZoneInput} {idle armed : Bool} {reqs : List CapRequest} (plain : bits a 4 4 = 1) :
    ∃ e, (e.zone, e.code, e.before, e.after, e.sweep, e.value, e.capture)
        = (z, bits a 20 8, before, bits a 0 4, s.sweep, x.value, CaptureField.none)
      ∧ s.zoneAction z j a before x idle armed reqs = (((numberedUnit s z).emit e).event [Reg.ZON_STAT_EVENT], reqs) := by
  obtain ⟨records, captures, drives⟩ := bits_plain plain
  generalize ran : s.zoneAction z j a before x idle armed reqs = r
  unfold State.zoneAction at ran
  extract_lets m u n capp cap held asks s1 tag span margin req s2 field bus may s3 bit seq s4 e s5 at ran
  have noCap : decide cap = false := by simp [cap, captures]
  have noHold : held = false := by simp [held, noCap]
  have noAsk : asks = false := by simp [asks, noCap]
  have h1 : s1 = s := if_neg (by simp [noHold])
  have h2 : s2 = s := (if_neg (by simp [noAsk])).trans h1
  have h3 : s3 = s := by simp only [s3, show bus = 0 from drives]; exact h2
  have noField : field = .none := if_pos (by simp [noCap])
  have h4 : s4 = numberedUnit s z := congrArg (State.mapUnit · z _) h3
  have h5 : s5 = ((numberedUnit s z).emit e).event [Reg.ZON_STAT_EVENT] := by rw [← h4]; exact if_pos records
  refine ⟨e, ?_, ?_⟩
  · rw [← noField]
  · rw [← ran, h5, noAsk]
    rfl

theorem wf_emit (wf : storeWf s.regs.live = true) (e : EventRec) : storeWf (s.emit e).regs.live = true := wf_bump (s := s.mapZon _) wf _

theorem rd_evtCnt_emit (wf : storeWf s.regs.live = true) (e : EventRec) :
    (s.emit e).rd Reg.ZON_EVT_CNT = min (s.rd Reg.ZON_EVT_CNT + 1) (2 ^ 32 - 1) :=
  rd_bump (s := s.mapZon _) wf _ rfl (by decide)

/-- The unit `z` has taken the action `a` of its state `before`, numbered its event and reported it from `s` to `v`. -/
structure Reports (z a before : Nat) (value : BitVec 32) (s v : State) : Prop where
  state : (v.unit z).state = bits a 0 4
  zseq : (v.unit z).zseq = ((s.unit z).zseq + 1) % 2 ^ 16
  newest : ∃ e, v.zon.waiting.getLast? = some e ∧ (e.zone, e.code, e.before, e.after, e.sweep, e.value, e.capture)
    = (z, bits a 20 8, before, bits a 0 4, s.sweep, value, CaptureField.none)
  count : v.rd Reg.ZON_EVT_CNT = min (s.rd Reg.ZON_EVT_CNT + 1) (2 ^ 32 - 1)
  wf : storeWf v.regs.live = true

/-- A report seen from an earlier state with the same registers and event number. -/
theorem Reports.after {a before : Nat} {value : BitVec 32} (regs : t.regs = s.regs) (zseq : (t.unit z).zseq = (s.unit z).zseq)
    (h : Reports z a before value t v) : Reports z a before value s v where
  state := h.state
  zseq := by rw [h.zseq, zseq]
  newest := by rw [← sweep_of_regs regs]; exact h.newest
  count := by rw [h.count, rd_of_regs regs]
  wf := h.wf

/-- A report outlives what keeps the units, the newest record and the event counter. -/
theorem Reports.merged {a before : Nat} {value : BitVec 32} (h : Reports z a before value s t) (hm : Merged t v) :
    Reports z a before value s v where
  state := by rw [unit_of_units hm.units, h.state]
  zseq := by rw [unit_of_units hm.units, h.zseq]
  newest := by
    obtain ⟨e, last, fields⟩ := h.newest
    exact ⟨e, hm.newest e last (congrArg (fun p => p.2.2.2.2.2.2) fields), fields⟩
  count := by rw [hm.words.rd h.wf _ (by decide) (by decide), h.count]
  wf := hm.words.wf h.wf

theorem zoneAction_reports {j a before : Nat} {x : ZoneInput} {idle armed : Bool} {reqs : List CapRequest} (plain : bits a 4 4 = 1)
    (entered : (s.unit z).state = bits a 0 4) (hz : z < s.zon.units.length) (wf : storeWf s.regs.live = true) :
    Reports z a before x.value s (s.zoneAction z j a before x idle armed reqs).1 := by
  obtain ⟨e, fields, run⟩ := zoneAction_plain (s := s) (z := z) (j := j) (before := before) (x := x) (idle := idle) (armed := armed)
    (reqs := reqs) plain
  have wf' : storeWf (numberedUnit s z).regs.live = true := wf
  have zon : (((numberedUnit s z).emit e).event [Reg.ZON_STAT_EVENT]).zon
      = { (numberedUnit s z).zon with waiting := (numberedUnit s z).zon.waiting ++ [e] } := by rw [event_zon, emit_zon]
  have units : (((numberedUnit s z).emit e).event [Reg.ZON_STAT_EVENT]).zon.units = (numberedUnit s z).zon.units := by rw [zon]
  have unit : (((numberedUnit s z).emit e).event [Reg.ZON_STAT_EVENT]).unit z
      = { s.unit z with zseq := ((s.unit z).zseq + 1) % 2 ^ 16 } := by
    rw [unit_of_units units, numberedUnit, unit_mapUnit hz]
  rw [run]
  exact {
    state := (congrArg ZoneUnit.state unit).trans entered
    zseq := congrArg ZoneUnit.zseq unit
    newest := ⟨e, by rw [zon, List.getLast?_concat], fields⟩
    count := by
      rw [rd_event_other (wf_emit wf' e) _ _ _ (by decide) (.inr (by decide)), rd_evtCnt_emit wf']
      rfl
    wf := wf_event (wf_emit wf' e) _ }

theorem firstTaken_unit {u : ZoneUnit} (hz : z < s.zon.units.length) :
    (firstTaken s z u).unit z = (firstEffect s z u).act (actWord s.mems.act z u.state 0) s.now := by
  rw [firstTaken, unit_mapUnit (by rwa [mapUnit_units_length]), unit_mapUnit hz]

theorem firstTaken_units_length {u : ZoneUnit} : (firstTaken s z u).zon.units.length = s.zon.units.length := by
  rw [firstTaken, mapUnit_units_length, mapUnit_units_length]

theorem act_state (u : ZoneUnit) (a now : Nat) : (u.act a now).state = bits a 0 4 := rfl

theorem act_zseq (u : ZoneUnit) (a now : Nat) : (u.act a now).zseq = u.zseq := rfl

theorem latched_zseq (s : State) (z : Nat) (idle : Bool) : (latched s z idle).zseq = (s.unit z).zseq := rfl

/-- A unit whose first condition fires takes and reports its first action. -/
theorem zoneUnitStep_reports {u : ZoneUnit} {idle armed seen : Bool} {reqs : List CapRequest} {x : ZoneInput} (hu : u = latched s z idle)
    (hx : x = zoneInput u armed seen (bits (condWord s.mems.act z u.state 0) 57 5)) (fires : FirstFires s.mems.act z u x)
    (hz : z < s.zon.units.length) (wf : storeWf s.regs.live = true) :
    Reports z (actWord s.mems.act z u.state 0) u.state x.value s (s.zoneUnitStep z idle armed seen reqs).1 := by
  rw [zoneUnitStep_first hu hx fires]
  have entered : ((firstTaken s z u).unit z).state = bits (actWord s.mems.act z u.state 0) 0 4 := by
    rw [firstTaken_unit hz, act_state]
  have zseq : ((firstTaken s z u).unit z).zseq = (s.unit z).zseq := by
    rw [firstTaken_unit hz, act_zseq, firstEffect, effect_zseq, hu, latched_zseq]
  exact Reports.after (t := firstTaken s z u) rfl zseq (zoneAction_reports fires.plain entered (by rwa [firstTaken_units_length]) wf)

/-! ### The step of the one enabled unit (R255, R264) -/

/-- What opening a step leaves for the units: nothing but ZON's own instants, sweep and waiting resets differs. -/
structure Opened (s v : State) : Prop where
  units : v.zon.units = s.zon.units
  arm : v.armPin = s.armPin
  seen : v.zon.fireSeen = s.zon.fireSeen
  only : onlyParts [.zon] s v

/-- At the MASTER, with no reset waiting. -/
theorem opened_master (master : s.rdFor s.sweep Reg.ZON_MU_ROLE = 1) (noReset : s.zon.resetUnits = []) :
    Opened s (stepReset (stepBegun s)) := by
  have begun : stepBegun s = s.mapZon (fun q => { q with stepSweep := s.sweep, lastStep := s.now, stepDue := none }) := by
    have role : (s.mapZon (fun q => { q with stepSweep := s.sweep, lastStep := s.now, stepDue := none })).muRole = 1 := by
      change s.rdFor s.sweep Reg.ZON_MU_ROLE % 3 = 1
      rw [master]
    unfold stepBegun
    exact if_neg (by simp [role])
  rw [begun, stepReset, mapZon_zon, noReset, List.foldl_nil]
  exact ⟨rfl, rfl, rfl, only_mapZon (only_mapZon only_refl (by decide)) (by decide)⟩

theorem steppingUnits_alone (on : s.on Reg.ZON_CTL_EN = true) (zon : s.isolated .zon = false) (here : s.isolatedAt .zon (some z) = false)
    (alone : (List.range 256).filter (fretEn s.mems.act) = [z]) : steppingUnits s = [z] := by
  have both : (List.range 256).filter (fun z => fretEn s.mems.act z && !s.isolatedAt .zon (some z))
      = ((List.range 256).filter (fretEn s.mems.act)).filter (fun z => !s.isolatedAt .zon (some z)) := by
    rw [List.filter_filter]
    simp only [Bool.and_comm]
  rw [steppingUnits, if_pos (by simp [on, zon]), both, alone]
  simp [here]

theorem latched_noSpeed {idle : Bool} (noSpeed : fretSpd s.mems.act z = false) :
    latched s z idle = (s.unit z).latch s.mems.act z (s.tiu.units.getD (fretTiu s.mems.act z) {}).rate false idle s.now := by
  rw [latched, noSpeed]
  rfl

/-- Closing the step keeps the units and the records that wait. -/
theorem reports_stepClosed {a before : Nat} {value : BitVec 32} {bus : List CapRequest} (h : Reports z a before value s t) :
    Reports z a before value s (stepClosed t false bus) := ⟨h.state, h.zseq, h.newest, h.count, h.wf⟩

/-- The unit `z` alone is enabled and steps, at a MASTER with no reset waiting. -/
structure StepsAlone (s : State) (z : Nat) : Prop where
  on : s.on Reg.ZON_CTL_EN = true
  zon : s.isolated .zon = false
  here : s.isolatedAt .zon (some z) = false
  alone : (List.range 256).filter (fretEn s.mems.act) = [z]
  noReset : s.zon.resetUnits = []
  master : s.rdFor s.sweep Reg.ZON_MU_ROLE = 1
  unit : z < s.zon.units.length

/-- A step in which the one enabled unit's first condition fires reports that unit's first action. -/
theorem zoneSteps_reports {u : ZoneUnit} {x : ZoneInput} (steps : StepsAlone s z) (hu : u = latched s z false)
    (hx : x = zoneInput u s.armPin s.zon.fireSeen (bits (condWord s.mems.act z u.state 0) 57 5)) (fires : FirstFires s.mems.act z u x)
    (wf : storeWf s.regs.live = true) : Reports z (actWord s.mems.act z u.state 0) u.state x.value s (s.zoneSteps false) := by
  obtain ⟨on, zon, here, alone, noReset, master, hz⟩ := steps
  have opened := opened_master master noReset
  rw [zoneSteps_eq]
  generalize stepReset (stepBegun s) = p at opened
  have regs : p.regs = s.regs := opened.only .regs (by decide)
  have mems : p.mems = s.mems := opened.only .mems (by decide)
  have chp : p.chp = s.chp := opened.only .chp (by decide)
  have unit : p.unit z = s.unit z := unit_of_units opened.units z
  have latch : latched p z false = latched s z false := by
    rw [latched, latched, unit, mems, show p.tiu = s.tiu from opened.only .tiu (by decide), show p.pwr = s.pwr from opened.only .pwr (by decide),
      show p.now = s.now from opened.only .now (by decide)]
  have steps : steppingUnits p = [z] :=
    steppingUnits_alone (by rw [State.on, rd_of_regs regs]; exact on) (by rw [State.isolated, State.isolatedAt, chp]; exact zon)
      (by rw [State.isolatedAt, chp]; exact here) (by rw [mems]; exact alone)
  have reported : Reports z (actWord s.mems.act z u.state 0) u.state x.value p (stepUnits p false).1 := by
    rw [stepUnits, steps, List.foldl_cons, List.foldl_nil, opened.arm, opened.seen]
    rw [← mems] at hx fires ⊢
    exact zoneUnitStep_reports (hu.trans latch.symm) hx fires (by rwa [opened.units]) (by rwa [regs])
  exact Reports.merged (reports_stepClosed (.after regs (by rw [unit]) reported)) (merged_mergeRequests _)

/-! ### The rows (R255, R256, R263, R266, R267) -/

theorem exec_zoneStep {t : Instant} {b : Nat} (hw : w = s.atT t) (due : w.zon.stepDue = some b) (reached : b ≤ w.now)
    (noRetune : w.chp.retuneDue = none) : exec (.zoneStep t) s = .next (w.zoneSteps false) := by
  change execZoneStep t s = _
  have kept : w.tuneIfDue = w := by
    rw [State.tuneIfDue, noRetune]
    rfl
  simp [execZoneStep, ← hw, due, reached, kept]

theorem exec_idleStep {t : Instant} (hw : w = s.atT t) (due : w.idleDue = true) : exec (.idleStep t) s = .next (w.zoneSteps true) := by
  change execIdleStep t s = _
  simp [execIdleStep, ← hw, due]

theorem exec_zoneTimerExpire {t : Instant} {b k : Nat} {x : ZoneTimer} (hw : w = s.atT t) (due : w.zon.stepDue = some b)
    (enabled : fretEn w.mems.act z = true) (on : w.on Reg.ZON_CTL_EN = true) (here : w.isolatedAt .zon (some z) = false)
    (noReset : z ∉ w.zon.resetUnits) (hk : k < 4)
    (hx : x = latchTimer ((w.unit z).t.getD k {}) (zoneWord w.mems.act z (0x340 + 4 * k)) w.now false) (expired : x.state = .expired) :
    exec (.zoneTimerExpire z k t) s = .next (w.mapUnit z (fun u => { u with t := modAt u.t k (fun _ => x) })) := by
  change execZoneTimerExpire z k t s = _
  unfold execZoneTimerExpire
  rw [← hw]
  simp only [due, Option.isNone_some, ← hx]
  exact if_pos (by simp [enabled, on, here, noReset, hk, expired])

/-- The KPE subscriptions take records; ZON's queue alone is emptied. -/
theorem takeEvents_zon : s.takeEvents.zon = { s.zon with queue := [] } := by
  unfold State.takeEvents
  extract_lets is q t
  have taken : onlyParts [.kpe] s t := only_foldl only_refl fun _ _ h => only_foldl h fun _ _ h => only_giveEvent h (by decide)
  have zon : t.zon = s.zon := taken .zon (by decide)
  rw [mapZon_zon, zon]

/-- The queue takes a record, and marks it where records were lost before it. -/
def enqueued (s : State) (e : EventRec) (r : List EventRec) : State :=
  ((s.mapZon (fun q => { q with waiting := r })).mapZon (fun q => { q with
    queue := q.queue ++ [{ e with lost := s.zon.lostNext }], lostNext := false })).takeEvents

/-- A record is dropped and counted (R267). -/
def dropped (s : State) (r : List EventRec) : State :=
  (((s.mapZon (fun q => { q with waiting := r })).event [Reg.ZON_STAT_EVT_DROP]).bump Reg.ZON_EVT_DROP_CNT).mapZon
    (fun q => { q with lostNext := true })

theorem exec_eventEnqueue_room {t : Instant} {e : EventRec} {r : List EventRec} {c : Nat} (hw : w = s.atT t) (front : w.zon.waiting = e :: r)
    (known : e.capture.code = some c) (room : w.zon.queue.length < 512) (noLog : e.log = false) :
    exec (.eventEnqueue t) s = .next (enqueued w e r) := by
  change execEventEnqueue t s = _
  unfold execEventEnqueue
  simp only [← hw, front, known]
  have notFull : ¬ 512 ≤ w.zon.queue.length := by omega
  simp [notFull, noLog, enqueued]

theorem exec_eventEnqueue_full {t : Instant} {e : EventRec} {r : List EventRec} {c : Nat} (hw : w = s.atT t) (front : w.zon.waiting = e :: r)
    (known : e.capture.code = some c) (full : 512 ≤ w.zon.queue.length) (noLog : e.log = false) :
    exec (.eventEnqueue t) s = .next (dropped w r) := by
  change execEventEnqueue t s = _
  unfold execEventEnqueue
  simp only [← hw, front, known]
  simp [full, noLog, dropped]

theorem dropped_zon {r : List EventRec} : (dropped s r).zon = { s.zon with waiting := r, lostNext := true } := by
  rw [dropped, mapZon_zon, bump_zon, event_zon, mapZon_zon]

theorem rd_dropCnt_dropped {r : List EventRec} (wf : storeWf s.regs.live = true) :
    (dropped s r).rd Reg.ZON_EVT_DROP_CNT = min (s.rd Reg.ZON_EVT_DROP_CNT + 1) (2 ^ 32 - 1) := by
  have wf' : storeWf (s.mapZon (fun q => { q with waiting := r })).regs.live = true := wf
  have count := rd_bump (wf_event wf' [Reg.ZON_STAT_EVT_DROP]) Reg.ZON_EVT_DROP_CNT rfl (by decide)
  rw [rd_event_other wf' _ _ _ (by decide) (.inr (by decide))] at count
  exact count

/-- Settles O28: a step by `zoneSteps_taken`, the one enabled unit by `zoneSteps_reports`, the records by `takeEvents_zon` and `dropped_zon`. -/
theorem zoneUnitsStepAndReport : Obligations.ZoneUnitsStepAndReport := by
  unfold Obligations.ZoneUnitsStepAndReport
  intro t s w hw wf
  refine ⟨?step, ?idle, ?report, ?timer, ?room, ?full⟩
  case step =>
    intro b due reached noRetune
    have taken : StepTaken w (w.zoneSteps false) := zoneSteps_taken
    exact ⟨_, exec_zoneStep hw due reached noRetune, taken.opened.due, taken.opened.last, taken.opened.sweep, taken.seen, taken.requests,
      taken.opened.resets, taken.only⟩
  case idle =>
    intro due
    have taken : StepTaken w (w.zoneSteps true) := zoneSteps_taken
    exact ⟨_, exec_idleStep hw due, taken.opened.due, taken.opened.last, taken.opened.sweep, taken.seen, taken.requests,
      taken.opened.resets, taken.only⟩
  case report =>
    intro b z u st a x due reached noRetune on zon here alone noReset master hz noSpeed hu hst hx ha present holds absent1 absent2 absent3 acts
      plain
    subst hst ha
    have reported := zoneSteps_reports ⟨on, zon, here, alone, noReset, master, hz⟩ (hu.trans (latched_noSpeed noSpeed).symm) hx
      ⟨present, holds, absent1, absent2, absent3, acts, plain⟩ wf
    refine ⟨_, exec_zoneStep hw due reached noRetune, reported.state, reported.zseq, ?_, reported.count, zoneSteps_taken.only⟩
    obtain ⟨e, last, fields⟩ := reported.newest
    simp only [Prod.mk.injEq] at fields
    obtain ⟨zone, code, before, after, sweep, value, capture⟩ := fields
    rw [last, Option.map_some, zone, code, before, after, sweep, value, capture]
    rfl
  case timer =>
    intro b z k x due enabled on here noReset hz hk hk4 hx expired
    refine ⟨_, exec_zoneTimerExpire hw due enabled on here noReset hk4 hx expired, ?_, ?_, only_mapUnit only_refl (by decide)⟩
    · rw [unit_mapUnit hz]
      exact getD_modAt hk _ _
    · rw [unit_mapUnit hz]
  case room =>
    intro e r c front known room noLog
    refine ⟨_, exec_eventEnqueue_room hw front known room noLog, ?_, ?_, ?_⟩
    · rw [enqueued, takeEvents_zon]; rfl
    · rw [enqueued, takeEvents_zon]; rfl
    · exact only_takeEvents (only_mapZon (only_mapZon only_refl (by decide)) (by decide)) (by decide)
  case full =>
    intro e r c front known full noLog
    refine ⟨_, exec_eventEnqueue_full hw front known full noLog, dropped_zon, rd_dropCnt_dropped wf, ?_⟩
    exact only_mapZon (only_bump (only_event (only_mapZon only_refl (by decide)) (by decide)) (by decide)) (by decide)

end Sys2Proof.Proofs

end

section
/-! The ARM and FIRE buses between units (R273 to R281): commands, edges, foreign assertion and a stuck bus. -/

namespace Sys2Proof.Proofs

open Sys2Proof Sys2Proof.Machine Sys2Proof.Safety Sys2Proof.Laws

variable {s v w : State} {t : Instant} {m : Master} {f : FireEdge}

/-! ### Commands (R274, R276, R280) -/

theorem armCmd_master {on : Bool} (master : w.muRole = 1) : w.armCmd on = if on then w.armAssert else w.armRelease := if_pos master

theorem armCmd_other {on : Bool} (other : w.muRole ≠ 1) : w.armCmd on = w.armIgnored := if_neg other

/-- With no other driver, a release leaves nothing foreign to watch for (R275). -/
theorem armRelease_alone (drives : w.zon.armDriven = true) (noOther : w.zon.armExt = false) :
    w.armRelease = { w with zon := { w.zon with armDriven := false, foreignDeclared := false, armForeignSince := none } } := by
  simp [State.armRelease, drives, noOther, State.mapZon]

/-- FIRE, which nobody here pulls, is pulled for FIRE_W (R276). -/
theorem firePull_released (released : w.zon.fireUntil = none) (cal : Bool) :
    w.firePull cal = { w with zon := { w.zon with
      fireUntil := some (w.now + max 1 (w.muRd Reg.ZON_MU_FIRE_W) * 10 ^ 6), fireCal := cal } } := by
  simp [State.firePull, released, us, State.mapZon]

theorem muFire_armed (role : w.muRole ≠ 0) (armed : w.armPin = true) : w.muFire = w.firePull false := if_pos (by simp [role, armed])

theorem muFire_suppressed (barred : w.muRole = 0 ∨ w.armPin = false) : w.muFire = w.fireSuppressed :=
  if_neg (by rcases barred with h | h <;> simp [h])

theorem exec_armOn (hw : w = s.atT t) (may : commandable w m .zon none) : exec (.armOn m t) s = .next (w.armCmd true).done := by
  change execArmOn m t s = _
  rw [execArmOn, ← hw, strobe_of_commandable may]

theorem exec_armOff (hw : w = s.atT t) (may : commandable w m .zon none) : exec (.armOff m t) s = .next (w.armCmd false).done := by
  change execArmOff m t s = _
  rw [execArmOff, ← hw, strobe_of_commandable may]

theorem exec_muFire (hw : w = s.atT t) (may : commandable w m .zon none) : exec (.muFire m t) s = .next w.muFire.done := by
  change execMuFire m t s = _
  rw [execMuFire, ← hw, strobe_of_commandable may]

theorem exec_calFire (hw : w = s.atT t) (may : commandable w m .zon none) (master : w.muRole = 1) :
    exec (.calFire m t) s = .next (w.firePull true).done := by
  change execCalFire m t s = _
  rw [execCalFire, ← hw, strobe_of_commandable may, State.calFire, if_pos master]

theorem exec_firePulseEnd {e : Nat} (hw : w = s.atT t) (pulls : w.zon.fireUntil = some e) (ended : e ≤ w.now) :
    exec (.firePulseEnd t) s = .next { w with zon := { w.zon with fireUntil := none } } := by
  change execFirePulseEnd t s = _
  simp [execFirePulseEnd, ← hw, pulls, ended, State.mapZon]

/-! ### Reports of the bus (R266, R278) -/

/-- The record of a bus event. -/
def busRecord (s : State) (code : Nat) (e : BusEdge) (capture : CaptureField) : EventRec :=
  { bus := true, zone := 0, code := code, before := 0, after := 0, cond := 0, info := 0, zseq := (s.zon.busSeq + 1) % 2 ^ 16
    sweep := (s.convertEdge e).1, time := e.time, value := BitVec.ofInt 32 (s.convertEdge e).2, capture := capture, log := false }

theorem busEvent_zon {code : Nat} {e : BusEdge} {capture : CaptureField} :
    (s.busEvent code e capture).zon
      = { s.zon with busSeq := (s.zon.busSeq + 1) % 2 ^ 16, waiting := s.zon.waiting ++ [busRecord s code e capture] } := by
  rw [State.busEvent, emit_zon]
  rfl

/-- The newest record that waits is the one that a bus event has emitted. -/
theorem newest_busEvent {code : Nat} {e : BusEdge} {capture : CaptureField} :
    (s.busEvent code e capture).zon.waiting.getLast? = some (busRecord s code e capture) := by
  rw [busEvent_zon, List.getLast?_concat]

/-- The one word that a report changes. -/
def reportWords : List Nat := [Reg.ZON_EVT_CNT.addr]

theorem wordsIn_busEvent {code : Nat} {e : BusEdge} {capture : CaptureField} : WordsIn reportWords s (s.busEvent code e capture) := by
  unfold State.busEvent
  extract_lets c n s1
  exact (WordsIn.refl.of_regs rfl : WordsIn reportWords s (s1.mapZon _)).trans (CountsIn.refl.bump (as := reportWords) Reg.ZON_EVT_CNT).wordsIn

theorem sameTunings_mapZon {g : Zon → Zon} (h : SameTunings s v) : SameTunings s (v.mapZon g) := h.trans ⟨rfl, rfl, rfl, rfl⟩

theorem sameTunings_busEvent {code : Nat} {e : BusEdge} {capture : CaptureField} (h : SameTunings s v) :
    SameTunings s (v.busEvent code e capture) := by
  unfold State.busEvent State.emit
  exact sameTunings_bump (sameTunings_mapZon (sameTunings_mapZon h))

/-- The words that ZON.MU_FIRE holds (R278). -/
def fireWords : List Nat := [0x260220, 0x260224, 0x260228, 0x26022C, 0x260230, 0x260234]

theorem countsIn_recordEdge {e : BusEdge} : CountsIn fireWords s (s.recordEdge e) := by
  unfold State.recordEdge
  exact (((CountsIn.refl.wr _ _).wr _ _).wr _ _).wr _ _

theorem recordEdge_zon {e : BusEdge} : (s.recordEdge e).zon = s.zon := by simp [State.recordEdge]

theorem wrapN_mod (k : Nat) (x : Int) : wrapN k x % 2 ^ k = wrapN k x := by
  have pos : (0 : Int) < (2 ^ k : Nat) := by exact_mod_cast Nat.two_pow_pos k
  have low := Int.emod_nonneg x (Int.ne_of_gt pos)
  have high := Int.emod_lt_of_pos x pos
  exact Nat.mod_eq_of_lt (by unfold wrapN; omega)

/-- ZON.MU_FIRE holds the edge from `s` to `v` (R278). -/
structure EdgeRecorded (e : BusEdge) (s v : State) : Prop where
  sweep : v.rd Reg.ZON_MU_FIRE_SWEEP = (s.convertEdge e).1 % 2 ^ 48
  st : v.rd Reg.ZON_MU_FIRE_ST = wrapN 32 (s.convertEdge e).2
  time : v.rd Reg.ZON_MU_FIRE_TIME = e.time % 2 ^ 64

theorem recordEdge_recorded {e : BusEdge} (wf : storeWf s.regs.live = true) : EdgeRecorded e s (s.recordEdge e) := by
  unfold State.recordEdge
  extract_lets c
  have wf1 := wf_wr wf Reg.ZON_MU_FIRE_SWEEP c.1
  have wf2 := wf_wr wf1 Reg.ZON_MU_FIRE_ST (wrapN 32 c.2)
  have wf3 := wf_wr wf2 Reg.ZON_MU_FIRE_RAW (wrapN 32 e.raw)
  have afterSweep : CountsIn [0x260228, 0x26022C, 0x260230, 0x260234] (s.wr Reg.ZON_MU_FIRE_SWEEP c.1) _ :=
    ((CountsIn.refl.wr Reg.ZON_MU_FIRE_ST (wrapN 32 c.2)).wr Reg.ZON_MU_FIRE_RAW (wrapN 32 e.raw)).wr Reg.ZON_MU_FIRE_TIME e.time
  have afterSt : CountsIn [0x26022C, 0x260230, 0x260234] ((s.wr Reg.ZON_MU_FIRE_SWEEP c.1).wr Reg.ZON_MU_FIRE_ST (wrapN 32 c.2)) _ :=
    (CountsIn.refl.wr Reg.ZON_MU_FIRE_RAW (wrapN 32 e.raw)).wr Reg.ZON_MU_FIRE_TIME e.time
  exact {
    sweep := (rd_wide_of_onlyWords (afterSweep.words wf1) _ (by decide) (by decide)).trans (rd_wr_wide wf rfl rfl (by decide) (by decide) _)
    st := (rd_of_onlyWords (afterSt.words wf2) _ (by decide) (by decide)).trans
      ((rd_wr wf1 _ rfl (by decide) _).trans (wrapN_mod 32 _))
    time := rd_wr_wide wf3 rfl rfl (by decide) (by decide) _ }

/-- The record outlives what changes other words. -/
theorem EdgeRecorded.wordsIn {as : List Nat} {e : BusEdge} {t : State} (h : EdgeRecorded e s t) (hv : WordsIn as t v)
    (wf : storeWf t.regs.live = true) (elsewhere : ∀ a ∈ fireWords, a ∉ as) : EdgeRecorded e s v where
  sweep := (rd_wide_of_onlyWords (hv.words wf) _ (elsewhere _ (by decide)) (elsewhere _ (by decide))).trans h.sweep
  st := (rd_of_onlyWords (hv.words wf) _ (by decide) (elsewhere _ (by decide))).trans h.st
  time := (rd_wide_of_onlyWords (hv.words wf) _ (elsewhere _ (by decide)) (elsewhere _ (by decide))).trans h.time

/-! ### Edges of FIRE (R277 to R280) -/

/-- With the tunings and the step's sweep the same, a tuned field of ZON.MU reads the same (R272). -/
theorem muRd_of_tunings (h : SameTunings s v) (hc : v.chp = s.chp) (hz : v.zon.stepSweep = s.zon.stepSweep) (f : Field)
    (hf : f.tuned = true) : v.muRd f = s.muRd f := by
  rw [State.muRd, hz, h.rdFor hc f hf, State.muRd]

/-- A FIRE pulled elsewhere falls, and the edge waits for its acceptance. -/
theorem exec_fireEdge_first {cal : Bool} (hw : w = s.atT t) (high : w.zon.fireLowSince = none) (released : w.zon.fireUntil = none)
    (role : w.muRole ≠ 0) (noneWaits : w.zon.edge = none) :
    exec (.fireEdge true cal t) s = .next { w with zon := { w.zon with
      fireExt := true, fireLowSince := some w.busEdge
      edge := some { edge := w.busEdge, armed := w.armPin, running := w.psq.state == .running, cal := cal } } } := by
  change execFireEdge true cal t s = _
  unfold execFireEdge
  rw [← hw]
  have role' : (w.mapZon (fun q => { q with fireExt := true })).muRole = w.muRole := rfl
  have edge' : (w.mapZon (fun q => { q with fireExt := true })).busEdge = w.busEdge := rfl
  have arm' : (w.mapZon (fun q => { q with fireExt := true })).armPin = w.armPin := rfl
  have running : (w.psq.state == .running) = decide (w.psq.state = .running) := by cases w.psq.state <;> rfl
  rw [running]
  simp only [Bool.not_true, released, Option.isSome_none, Bool.not_false, Bool.and_true, Bool.false_eq_true, ↓reduceIte, high, Bool.or_true,
    role', mapZon_zon, noneWaits, Bool.and_false, role, edge', arm', mapZon_psq]
  simp only [State.mapZon, released]

theorem exec_fireEdgeAccept_rejects (hw : w = s.atT t) (waits : w.zon.edge = some f) (ripe : f.edge.edgeAt + 500000 ≤ w.now)
    (bad : w.edgeOk f = false) :
    exec (.fireEdgeAccept t) s = .next (({ w with zon := { w.zon with edge := none } }).bump Reg.ZON_FIRE_REJ_CNT) := by
  change execFireEdgeAccept t s = _
  unfold execFireEdgeAccept
  simp only [← hw, waits]
  rw [if_neg (Nat.not_lt.mpr ripe), if_pos (by simp [bad])]
  rfl

/-- The edge no longer waits and stands in ZON.MU_FIRE. -/
def edgeTaken (w : State) (f : FireEdge) : State := (w.mapZon (fun q => { q with edge := none })).recordEdge f.edge

theorem exec_fireEdgeAccept_calibrates (hw : w = s.atT t) (waits : w.zon.edge = some f) (ripe : f.edge.edgeAt + 500000 ≤ w.now)
    (ok : w.edgeOk f = true) (cal : f.cal = true) :
    exec (.fireEdgeAccept t) s = .next ((edgeTaken w f).busEvent 4 f.edge .none) := by
  change execFireEdgeAccept t s = _
  unfold execFireEdgeAccept
  simp only [← hw, waits]
  rw [if_neg (Nat.not_lt.mpr ripe), if_neg (by simp [ok]), if_pos cal]
  rfl

/-- The accepted edge is flagged, counted and seen by the next step. -/
def edgeSeen (w : State) (f : FireEdge) : State :=
  (((edgeTaken w f).event [Reg.ZON_STAT_FIRE_EDGE]).bump Reg.ZON_FIRE_EDGE_CNT).mapZon
    (fun q => { q with fireSeen := true, lastEdge := some f.edge.edgeAt })

/-- An accepted edge asks for its capture (R279). -/
def edgeCaptured (w : State) (f : FireEdge) : State :=
  ((edgeSeen w f).busEvent 1 f.edge (.waiting ((edgeSeen w f).busRequest f.edge).tag)).mapZon (fun q => { q with
    busReq := q.busReq ++ [(edgeSeen w f).busRequest f.edge], nextTag := q.nextTag + 1 })

/-- What follows an accepted edge that is no calibration (R278, R279). -/
def edgeReported (w : State) (f : FireEdge) : State :=
  if (edgeSeen w f).muRd Reg.ZON_MU_BUSCAP = 1 then edgeCaptured w f else (edgeSeen w f).busEvent 1 f.edge .none

theorem edgeSeen_zon : (edgeSeen w f).zon = { w.zon with edge := none, fireSeen := true, lastEdge := some f.edge.edgeAt } := by
  rw [edgeSeen, mapZon_zon, bump_zon, event_zon, edgeTaken, recordEdge_zon, mapZon_zon]

theorem edgeSeen_tunings : SameTunings w (edgeSeen w f) :=
  sameTunings_mapZon (sameTunings_bump (sameTunings_event ((sameTunings_mapZon .refl).trans countsIn_recordEdge.tunings)))

theorem only_edgeSeen : onlyParts [.zon, .regs] w (edgeSeen w f) :=
  only_mapZon (only_bump (only_event (only_recordEdge (only_mapZon only_refl (by decide)) (by decide)) (by decide)) (by decide)) (by decide)

theorem edgeCaptured_zon : ∃ r n, (r.zone, r.tag) = (256, w.zon.nextTag) ∧ (edgeCaptured w f).zon = { w.zon with
    edge := none, fireSeen := true, lastEdge := some f.edge.edgeAt, busSeq := n, nextTag := w.zon.nextTag + 1
    waiting := w.zon.waiting ++ [busRecord (edgeSeen w f) 1 f.edge (.waiting r.tag)], busReq := w.zon.busReq ++ [r] } := by
  refine ⟨(edgeSeen w f).busRequest f.edge, (w.zon.busSeq + 1) % 2 ^ 16, ?_, ?_⟩
  · rw [State.busRequest, edgeSeen_zon]
  · rw [edgeCaptured, mapZon_zon, busEvent_zon, edgeSeen_zon]

theorem edgeCaptured_tunings : SameTunings w (edgeCaptured w f) :=
  sameTunings_mapZon (sameTunings_busEvent edgeSeen_tunings)

theorem only_edgeCaptured : onlyParts [.zon, .regs] w (edgeCaptured w f) :=
  only_mapZon (only_busEvent only_edgeSeen (by decide)) (by decide)

theorem exec_fireEdgeAccept_captures (hw : w = s.atT t) (waits : w.zon.edge = some f) (ripe : f.edge.edgeAt + 500000 ≤ w.now)
    (ok : w.edgeOk f = true) (fires : f.cal = false) (captures : w.muRd Reg.ZON_MU_BUSCAP = 1) (other : w.muRole ≠ 1) :
    exec (.fireEdgeAccept t) s = .next (edgeCaptured w f) := by
  have captured : edgeReported w f = edgeCaptured w f :=
    if_pos ((muRd_of_tunings edgeSeen_tunings (only_edgeSeen .chp (by decide)) (by rw [edgeSeen_zon]) _ rfl).trans captures)
  have step : (edgeCaptured w f).zon.stepSweep = w.zon.stepSweep := by
    obtain ⟨r, n, -, zon⟩ := edgeCaptured_zon (w := w) (f := f)
    rw [zon]
  have other' : (edgeCaptured w f).muRole ≠ 1 := by
    rwa [State.muRole, muRd_of_tunings edgeCaptured_tunings (only_edgeCaptured .chp (by decide)) step _ rfl]
  change execFireEdgeAccept t s = _
  unfold execFireEdgeAccept
  simp only [← hw, waits]
  rw [if_neg (Nat.not_lt.mpr ripe), if_neg (by simp [ok]), if_neg (by simp [fires])]
  change Host.Outcome.next (if (edgeReported w f).muRole = 1 && _ then _ else edgeReported w f) = _
  rw [captured, if_neg (by simp [other'])]

theorem wf_edgeTaken (wf : storeWf w.regs.live = true) : storeWf (edgeTaken w f).regs.live = true :=
  countsIn_recordEdge.wf (s := w.mapZon _) wf

theorem edgeTaken_recorded (wf : storeWf w.regs.live = true) : EdgeRecorded f.edge w (edgeTaken w f) := by
  have convert (g : Zon → Zon) : (w.mapZon g).convertEdge f.edge = w.convertEdge f.edge := rfl
  have recorded : EdgeRecorded f.edge (w.mapZon (fun q => { q with edge := none })) (edgeTaken w f) := recordEdge_recorded wf
  exact ⟨recorded.sweep.trans (by rw [convert]), recorded.st.trans (by rw [convert]), recorded.time⟩

/-- The words that flag and count an accepted edge. -/
def acceptWords : List Nat := [Reg.ZON_STAT_FIRE_EDGE.addr, Reg.ZON_FIRE_EDGE_CNT.addr]

theorem wordsIn_edgeSeen : WordsIn acceptWords (edgeTaken w f) (edgeSeen w f) :=
  ((CountsIn.refl.event Reg.ZON_STAT_FIRE_EDGE).bump Reg.ZON_FIRE_EDGE_CNT).wordsIn.of_regs (mapZon_regs _ _)

theorem wordsIn_edgeCaptured : WordsIn reportWords (edgeSeen w f) (edgeCaptured w f) :=
  wordsIn_busEvent.of_regs (mapZon_regs _ _)

theorem edgeCaptured_recorded (wf : storeWf w.regs.live = true) : EdgeRecorded f.edge w (edgeCaptured w f) := by
  have taken := wf_edgeTaken (f := f) wf
  exact ((edgeTaken_recorded wf).wordsIn wordsIn_edgeSeen taken (by decide)).wordsIn wordsIn_edgeCaptured (wordsIn_edgeSeen.wf taken) (by decide)

theorem rd_edgeCnt_edgeCaptured (wf : storeWf w.regs.live = true) :
    (edgeCaptured w f).rd Reg.ZON_FIRE_EDGE_CNT = min (w.rd Reg.ZON_FIRE_EDGE_CNT + 1) (2 ^ 32 - 1) := by
  have wfTaken := wf_edgeTaken (f := f) wf
  have taken : (edgeTaken w f).rd Reg.ZON_FIRE_EDGE_CNT = w.rd Reg.ZON_FIRE_EDGE_CNT :=
    (countsIn_recordEdge.wordsIn.rd (s := w.mapZon _) wf _ (by decide) (by decide)).trans (rd_of_regs (mapZon_regs _ _) _)
  have seen : (edgeSeen w f).rd Reg.ZON_FIRE_EDGE_CNT = min (w.rd Reg.ZON_FIRE_EDGE_CNT + 1) (2 ^ 32 - 1) := by
    rw [edgeSeen, rd_of_regs (mapZon_regs _ _), rd_bump (wf_event wfTaken _) _ rfl (by decide),
      rd_event_other wfTaken _ _ _ (by decide) (.inr (by decide)), taken]
    rfl
  rw [wordsIn_edgeCaptured.rd (wordsIn_edgeSeen.wf wfTaken) _ (by decide) (by decide), seen]

/-! ### ARM pulled elsewhere (R273, R275) -/

theorem exec_armBusChange {e : Bool} (hw : w = s.atT t) (changes : e ≠ w.zon.armExt) :
    exec (.armBusChange e t) s = .next { w with zon := { w.zon with
      armExt := e, foreignDeclared := false, armForeignSince := if e && !w.zon.armDriven then some w.busEdge else none } } := by
  change execArmBusChange e t s = _
  unfold execArmBusChange
  rw [← hw]
  exact if_neg changes

/-- A foreign assertion is flagged and counted. -/
def foreignFlagged (w : State) : State :=
  ((w.event [Reg.ZON_STAT_ARM_FOREIGN]).bump Reg.ZON_ARM_FOREIGN_CNT).mapZon (fun q => { q with foreignDeclared := true })

theorem exec_armForeign {e : BusEdge} (hw : w = s.atT t) (since : w.zon.armForeignSince = some e) (master : w.muRole = 1)
    (drivesNot : w.zon.armDriven = false) (pulled : w.zon.armExt = true) (fresh : w.zon.foreignDeclared = false)
    (late : e.edgeAt + 10 ^ 6 < w.now) : exec (.armForeign t) s = .next ((foreignFlagged w).busEvent 2 e .none) := by
  change execArmForeign t s = _
  unfold execArmForeign
  simp only [← hw, since]
  have late' : e.edgeAt + us < w.now := late
  exact if_pos (by simp [master, drivesNot, pulled, fresh, late'])

theorem foreignFlagged_zon : (foreignFlagged w).zon = { w.zon with foreignDeclared := true } := by
  rw [foreignFlagged, mapZon_zon, bump_zon, event_zon]

theorem wf_foreignFlagged (wf : storeWf w.regs.live = true) : storeWf (foreignFlagged w).regs.live = true := wf_bump (wf_event wf _) _

theorem only_foreignFlagged : onlyParts [.zon, .regs] w (foreignFlagged w) :=
  only_mapZon (only_bump (only_event only_refl (by decide)) (by decide)) (by decide)

theorem rd_foreignCnt_foreignFlagged (wf : storeWf w.regs.live = true) :
    (foreignFlagged w).rd Reg.ZON_ARM_FOREIGN_CNT = min (w.rd Reg.ZON_ARM_FOREIGN_CNT + 1) (2 ^ 32 - 1) := by
  rw [foreignFlagged, rd_of_regs (mapZon_regs _ _), rd_bump (wf_event wf _) _ rfl (by decide),
    rd_event_other wf _ _ _ (by decide) (.inr (by decide))]
  rfl

/-! ### A stuck FIRE and its release (R277, R281) -/

theorem exec_fireStuck {e : BusEdge} (hw : w = s.atT t) (low : w.zon.fireLowSince = some e) (fresh : w.zon.fireStuck = false)
    (late : e.edgeAt + 10 ^ 10 < w.now) :
    exec (.fireStuck t) s = .next ((w.mapZon (fun q => { q with fireStuck := true })).busEvent 3 e .none) := by
  change execFireStuck t s = _
  unfold execFireStuck
  simp only [← hw, low]
  have late' : e.edgeAt + 10 * ms < w.now := late
  exact if_pos (by simp [fresh, late'])

/-- The bus rises, and stays quiet for 1 ms where it was stuck or quiet already. -/
def busRisen (w : State) : State :=
  w.mapZon (fun q => { q with
    fireExt := false, fireLowSince := none, fireStuck := false
    fireQuietUntil := if q.fireStuck || w.now < q.fireQuietUntil then w.now + 10 ^ 9 else q.fireQuietUntil
    edge := q.edge.map (fun f => { f with rose := f.rose || decide (w.now < f.edge.edgeAt + 500000) }) })

theorem exec_fireBusRelease {e : BusEdge} (hw : w = s.atT t) (released : w.zon.fireUntil = none) (low : w.zon.fireLowSince = some e) :
    exec (.fireBusRelease t) s = .next (busRisen w) := by
  change execFireBusRelease t s = _
  unfold execFireBusRelease
  rw [← hw]
  exact if_neg (by simp [released, low])

/-- Settles O29: the commands by what each leaves, an accepted edge by `edgeCaptured_zon` and `edgeCaptured_recorded`, the bus events by
`busEvent_zon`. -/
theorem unitBusesFollowTheirRules : Obligations.UnitBusesFollowTheirRules := by
  unfold Obligations.UnitBusesFollowTheirRules
  intro t s w hw wf
  refine ⟨?armOn, ?ignored, ?armOff, ?fire, ?suppressed, ?calFire, ?pulseEnd, ?falls, ?rejected, ?captured, ?calibrated, ?armChange, ?foreign,
    ?stuck, ?rises⟩
  case armOn =>
    intro m may master
    rw [exec_armOn hw may, armCmd_master master]
    rfl
  case ignored =>
    intro m up may other
    cases up with
    | true => exact (exec_armOn hw may).trans (by rw [armCmd_other other]; rfl)
    | false => exact (exec_armOff hw may).trans (by rw [armCmd_other other]; rfl)
  case armOff =>
    intro m may master drives noOther
    rw [exec_armOff hw may, armCmd_master master, if_neg Bool.false_ne_true, armRelease_alone drives noOther]
  case fire =>
    intro m may role armed released
    rw [exec_muFire hw may, muFire_armed role armed, firePull_released released]
  case suppressed =>
    intro m may barred
    rw [exec_muFire hw may, muFire_suppressed barred]
    rfl
  case calFire =>
    intro m may master released
    rw [exec_calFire hw may master, firePull_released released]
  case pulseEnd => exact fun e pulls ended => exec_firePulseEnd hw pulls ended
  case falls => exact fun cal high released role noneWaits => exec_fireEdge_first hw high released role noneWaits
  case rejected => exact fun f waits ripe bad => exec_fireEdgeAccept_rejects hw waits ripe bad
  case captured =>
    intro f waits ripe ok fires captures other
    obtain ⟨r, n, request, zon⟩ := edgeCaptured_zon (w := w) (f := f)
    have recorded : EdgeRecorded f.edge w (edgeCaptured w f) := edgeCaptured_recorded wf
    refine ⟨_, exec_fireEdgeAccept_captures hw waits ripe ok fires captures other, ?_, ?_, ?_, recorded.sweep, recorded.st,
      rd_edgeCnt_edgeCaptured wf, ?_, ?_, only_edgeCaptured⟩
    · rw [zon]
    · rw [zon]
    · rw [zon]
    · rw [zon, List.getLast?_concat, ← request]
      rfl
    · rw [zon, List.getLast?_concat]
      rfl
  case calibrated =>
    intro f waits ripe ok cal
    have taken : (edgeTaken w f).zon = { w.zon with edge := none } := by rw [edgeTaken, recordEdge_zon, mapZon_zon]
    have recorded : EdgeRecorded f.edge w ((edgeTaken w f).busEvent 4 f.edge .none) :=
      (edgeTaken_recorded wf).wordsIn wordsIn_busEvent (wf_edgeTaken wf) (by decide)
    refine ⟨_, exec_fireEdgeAccept_calibrates hw waits ripe ok cal, ?_, ?_, ?_, recorded.time, ?_, ?_⟩
    · rw [busEvent_zon, taken]
    · rw [busEvent_zon, taken]
    · rw [busEvent_zon, taken]
    · rw [newest_busEvent]
      rfl
    · exact only_busEvent (only_recordEdge (only_mapZon only_refl (by decide)) (by decide)) (by decide)
  case armChange => exact fun e changes => exec_armBusChange hw changes
  case foreign =>
    intro e since master drivesNot pulled fresh late
    refine ⟨_, exec_armForeign hw since master drivesNot pulled fresh late, ?_, ?_, ?_, only_busEvent only_foreignFlagged (by decide)⟩
    · rw [busEvent_zon, foreignFlagged_zon]
    · rw [wordsIn_busEvent.rd (wf_foreignFlagged wf) _ (by decide) (by decide), rd_foreignCnt_foreignFlagged wf]
    · rw [newest_busEvent]
      rfl
  case stuck =>
    intro e low fresh late
    refine ⟨_, exec_fireStuck hw low fresh late, ?_, ?_, only_busEvent (only_mapZon only_refl (by decide)) (by decide)⟩
    · rw [busEvent_zon, mapZon_zon]
    · rw [newest_busEvent]
      rfl
  case rises =>
    intro e released low
    refine ⟨_, exec_fireBusRelease hw released low, rfl, rfl, rfl, ?_, only_mapZon only_refl (by decide)⟩
    intro stuck
    exact if_pos (by simp [stuck])

end Sys2Proof.Proofs

end

section
/-! The guards' state machines (R284 to R290, R299, R300, R304, R573): what entering a state, a trip and an enable that drops leave of each
guard, of the attempt in progress and of the live words. -/

namespace Sys2Proof.Proofs

open Sys2Proof Sys2Proof.Machine Sys2Proof.Safety Sys2Proof.Laws

variable {s t u v w : State} {g : GuardId} {c : TripCause} {ps : List Part} {as : List Nat}

/-! ### Reading a guard -/

theorem guard_of_only (h : onlyParts ps s v) (g : GuardId) (ha : .gda ∉ ps := by decide) (hb : .gdb ∉ ps := by decide) :
    v.guard g = s.guard g := by
  cases g with
  | a => exact h .gda ha
  | b => exact h .gdb hb

theorem guard_mapGuard (f : Guard → Guard) : (s.mapGuard g f).guard g = f (s.guard g) := by cases g <;> rfl

theorem guard_mapGuard_other (f : Guard → Guard) : (s.mapGuard g f).guard (otherGuard g) = s.guard (otherGuard g) := by cases g <;> rfl

theorem guard_done (g : GuardId) : s.done.guard g = s.guard g := by cases g <;> rfl

/-! ### Learnings (R300) -/

theorem cancelLearn_of_learning {l : Learning} (h : (s.guard g).learning = some l) :
    s.cancelLearn g = (s.mapGuard g (fun x => { x with learning := none })).event
      [guardStat g Reg.GDA_STAT_LEARN_CANCEL Reg.GDB_STAT_LEARN_CANCEL] := by
  simp only [State.cancelLearn, h]

theorem cancelLearn_of_none (h : (s.guard g).learning = none) : s.cancelLearn g = s := by simp only [State.cancelLearn, h]

theorem guard_cancelLearn : (s.cancelLearn g).guard g = { s.guard g with learning := none } := by
  cases h : (s.guard g).learning with
  | none => rw [cancelLearn_of_none h, ← h]
  | some l => rw [cancelLearn_of_learning h, guard_of_only (only_event only_refl (List.Subset.refl _)), guard_mapGuard]

theorem guard_cancelLearn_other : (s.cancelLearn g).guard (otherGuard g) = s.guard (otherGuard g) := by
  cases h : (s.guard g).learning with
  | none => rw [cancelLearn_of_none h]
  | some l => rw [cancelLearn_of_learning h, guard_of_only (only_event only_refl (List.Subset.refl _)), guard_mapGuard_other]

/-! ### The attempt in progress (R96, R302, R303) -/

/-- The guards' shared part is the same but for how long the light has been removed, and so is the pluck that waits. -/
structure SameAttempt (s v : State) : Prop where
  shared : ∃ d, v.guards = { s.guards with darkSince := d }
  pluck : v.psq.pluck = s.psq.pluck

theorem SameAttempt.of_only (h : onlyParts ps s v) (hg : .guards ∉ ps := by decide) (hp : .psq ∉ ps := by decide) : SameAttempt s v where
  shared := ⟨s.guards.darkSince, h .guards hg⟩
  pluck := congrArg Psq.pluck (h .psq hp)

theorem SameAttempt.trans (h : SameAttempt s t) (h' : SameAttempt t v) : SameAttempt s v where
  shared := by
    obtain ⟨d, first⟩ := h.shared
    obtain ⟨e, second⟩ := h'.shared
    exact ⟨e, by rw [second, first]⟩
  pluck := h'.pluck.trans h.pluck

theorem SameAttempt.attemptAt (h : SameAttempt s v) : v.guards.attemptAt = s.guards.attemptAt := by
  obtain ⟨d, same⟩ := h.shared
  rw [same]

theorem SameAttempt.lastAttempt (h : SameAttempt s v) : v.guards.lastAttempt = s.guards.lastAttempt := by
  obtain ⟨d, same⟩ := h.shared
  rw [same]

theorem SameAttempt.plucks (h : SameAttempt s v) : v.guards.plucks = s.guards.plucks := by
  obtain ⟨d, same⟩ := h.shared
  rw [same]

theorem sameAttempt_followEnables : SameAttempt s s.followEnables := by
  have stages : SameAttempt s s.stopDarkStages := .of_only (only_stopDarkStages only_refl (List.Subset.refl _))
  refine stages.trans ?_
  unfold State.followEnables
  extract_lets s1 s2 s3 s4 s5 s6 s7
  have lit : s3.guards = s1.guards ∧ s3.psq.pluck = s1.psq.pluck := by
    simp only [s3]
    split <;> exact ⟨rfl, rfl⟩
  split
  · exact ⟨⟨none, by rw [mapGuards_guards, lit.1]⟩, lit.2⟩
  · exact ⟨⟨_, rfl⟩, rfl⟩

/-! ### Entering a state (R287, R573) -/

/-- A guard that has entered a state with a cause at an instant: an entry into TRIPPED takes both and cancels a learning. -/
def enteredGuard (x : Guard) (st : GuardState) (c : TripCause) (now : Instant) : Guard :=
  if st = .tripped then { x with state := st, cause := c, trippedAt := now, learning := none } else { x with state := st }

theorem enteredGuard_state (x : Guard) (st : GuardState) (c : TripCause) (now : Instant) : (enteredGuard x st c now).state = st := by
  unfold enteredGuard
  split <;> rfl

/-- From `s` to `v` guard `g` has become `x`; the other guard and the attempt in progress are the same. -/
structure Becomes (g : GuardId) (x : Guard) (s v : State) : Prop where
  guard : v.guard g = x
  other : v.guard (otherGuard g) = s.guard (otherGuard g)
  attempt : SameAttempt s v

theorem Becomes.after_only {x : Guard} (h : Becomes g x u v) (ho : onlyParts ps s u) (ha : .gda ∉ ps := by decide)
    (hb : .gdb ∉ ps := by decide) (hg : .guards ∉ ps := by decide) (hp : .psq ∉ ps := by decide) : Becomes g x s v where
  guard := h.guard
  other := h.other.trans (guard_of_only ho _ ha hb)
  attempt := (SameAttempt.of_only ho hg hp).trans h.attempt

theorem Becomes.then_only {x : Guard} (h : Becomes g x s u) (ho : onlyParts ps u v) (ha : .gda ∉ ps := by decide)
    (hb : .gdb ∉ ps := by decide) (hg : .guards ∉ ps := by decide) (hp : .psq ∉ ps := by decide) : Becomes g x s v where
  guard := (guard_of_only ho _ ha hb).trans h.guard
  other := (guard_of_only ho _ ha hb).trans h.other
  attempt := h.attempt.trans (.of_only ho hg hp)

theorem becomes_mapGuard (f : Guard → Guard) : Becomes g (f (s.guard g)) s (s.mapGuard g f) where
  guard := guard_mapGuard f
  other := guard_mapGuard_other f
  attempt := .of_only (only_mapGuard only_refl (List.Subset.refl _))

theorem becomes_followEnables : Becomes g (s.guard g) s s.followEnables where
  guard := guard_of_only (only_followEnables only_refl (List.Subset.refl _)) g
  other := guard_of_only (only_followEnables only_refl (List.Subset.refl _)) _
  attempt := sameAttempt_followEnables

theorem Becomes.trans {x y : Guard} (h : Becomes g x s u) (h' : Becomes g y u v) : Becomes g y s v where
  guard := h'.guard
  other := h'.other.trans h.other
  attempt := h.attempt.trans h'.attempt

theorem becomes_cancelLearn : Becomes g { s.guard g with learning := none } s (s.cancelLearn g) where
  guard := guard_cancelLearn
  other := guard_cancelLearn_other
  attempt := .of_only (only_cancelLearn only_refl (List.Subset.refl _))

/-- R285: a guard with a clock enters the state, and the other one is left alone. -/
theorem guardEnter_becomes (st : GuardState) (runs : (s.guard g).stopped = false) :
    Becomes g (enteredGuard (s.guard g) st c s.now) s (s.guardEnter g st c) := by
  unfold State.guardEnter
  rw [if_neg (by simp [runs])]
  extract_lets s1 s2 s3 s4
  have h1 : Becomes g _ s s1 := becomes_mapGuard _
  have h2 : Becomes g (enteredGuard (s.guard g) st c s.now) s s2 := by
    simp only [s2]
    by_cases trips : st = .tripped
    · have counted : onlyParts [.regs] s1 ((s1.event [guardStat g Reg.GDA_STAT_TRIP Reg.GDB_STAT_TRIP]).bump
          (guardStat g Reg.GDA_TRIP_CNT Reg.GDB_TRIP_CNT)) := only_bump (only_event only_refl (by decide)) (by decide)
      have cancelled := (h1.then_only counted).trans becomes_cancelLearn
      rw [if_pos trips]
      rw [guard_of_only counted, h1.guard] at cancelled
      simpa [enteredGuard, trips] using cancelled
    · rw [if_neg trips]
      have entered : Becomes g (enteredGuard (s.guard g) st c s.now) s s1 := by simpa [enteredGuard, trips] using h1
      split
      · exact entered.then_only (only_event only_refl (List.Subset.refl _))
      · exact entered
  have told : onlyParts [.regs, .evr, .kpe] s2 s4 := only_notify (only_record only_refl (by decide)) (by decide)
  have h4 : Becomes g (enteredGuard (s.guard g) st c s.now) s s4 := h2.then_only told
  have follow : Becomes g (s4.guard g) s4 s4.followEnables := becomes_followEnables
  rw [h4.guard] at follow
  exact h4.trans follow

/-! ### Trips (R287, R304, R573) -/

theorem trip_of_dark (dark : (s.guard g).state = .idle ∨ (s.guard g).state = .tripped) : s.trip g c = s := by
  unfold State.trip
  split
  · rfl
  · rcases dark with h | h <;> simp only [h]

/-- A trip of a guard that gives light: it enters TRIPPED once its counters have moved, and a trip in RESTART ends the attempt. -/
theorem trip_of_light (runs : (s.guard g).stopped = false) (light : (s.guard g).state = .armed ∨ (s.guard g).state = .restart) :
    ∃ u, onlyParts [.regs] s u ∧ s.trip g c =
      if (s.guard g).state = .restart then (u.guardEnter g .tripped c).endAttempt else u.guardEnter g .tripped c := by
  unfold State.trip
  rw [if_neg (by simp [runs])]
  extract_lets s1 s2
  have counted : onlyParts [.regs] s s1 := by
    simp only [s1]
    split
    · exact only_bump only_refl (List.Subset.refl _)
    · exact only_refl
  have flagged : onlyParts [.regs] s s2 := only_ite (only_event counted (List.Subset.refl _)) counted
  refine ⟨s2, flagged, ?_⟩
  rcases light with h | h <;> simp only [h] <;> rfl

theorem trip_becomes_of_armed (runs : (s.guard g).stopped = false) (armed : (s.guard g).state = .armed) :
    Becomes g (enteredGuard (s.guard g) .tripped c s.now) s (s.trip g c) := by
  obtain ⟨u, counted, eq⟩ := trip_of_light (c := c) runs (.inl armed)
  have same : u.guard g = s.guard g := guard_of_only counted g
  have now : u.now = s.now := counted .now (by decide)
  have entered := (guardEnter_becomes (c := c) .tripped (by rw [same]; exact runs)).after_only counted
  rw [same, now] at entered
  rwa [eq, if_neg (by simp [armed])]

theorem endAttempt_guards : s.endAttempt.guards = { s.guards with attemptAt := none, plucks := 0 } := by
  unfold State.endAttempt
  extract_lets s1
  split <;> rfl

theorem guard_endAttempt (g : GuardId) : s.endAttempt.guard g = s.guard g :=
  guard_of_only (only_endAttempt only_refl (List.Subset.refl _)) g

/-- What a trip in RESTART leaves of the guards. -/
structure RestartTripped (g : GuardId) (c : TripCause) (s v : State) : Prop where
  guard : v.guard g = enteredGuard (s.guard g) .tripped c s.now
  other : v.guard (otherGuard g) = s.guard (otherGuard g)

theorem trip_of_restart (runs : (s.guard g).stopped = false) (restart : (s.guard g).state = .restart) :
    RestartTripped g c s (s.trip g c) := by
  obtain ⟨u, counted, eq⟩ := trip_of_light (c := c) runs (.inr restart)
  have same : u.guard g = s.guard g := guard_of_only counted g
  have now : u.now = s.now := counted .now (by decide)
  have entered := (guardEnter_becomes (c := c) .tripped (by rw [same]; exact runs)).after_only counted
  rw [same, now] at entered
  rw [eq, if_pos restart]
  exact ⟨(guard_endAttempt g).trans entered.guard, (guard_endAttempt _).trans entered.other⟩

/-- R304: an attempt of both guards that fails trips both, and is over. -/
structure AttemptFailed (s v : State) : Prop where
  gda : v.gda = enteredGuard s.gda .tripped .restartFail s.now
  gdb : v.gdb = enteredGuard s.gdb .tripped .restartFail s.now
  ended : v.guards.attemptAt = none

theorem failAttempt_of_restart (runsA : s.gda.stopped = false) (runsB : s.gdb.stopped = false) (restartA : s.gda.state = .restart)
    (restartB : s.gdb.state = .restart) : AttemptFailed s s.failAttempt := by
  have first : RestartTripped .a .restartFail s (s.trip .a .restartFail) := trip_of_restart (g := .a) runsA restartA
  have gdb : (s.trip .a .restartFail).gdb = s.gdb := first.other
  have now : (s.trip .a .restartFail).now = s.now := only_trip only_refl (List.Subset.refl _) .now (by decide)
  have second := trip_of_restart (s := s.trip .a .restartFail) (g := .b) (c := .restartFail) (by rw [State.guard, gdb]; exact runsB)
    (by rw [State.guard, gdb]; exact restartB)
  have hb : ((s.trip .a .restartFail).trip .b .restartFail).gdb = enteredGuard s.gdb .tripped .restartFail s.now := by
    rw [← gdb, ← now]
    exact second.guard
  exact ⟨(guard_endAttempt .a).trans (second.other.trans first.guard), (guard_endAttempt .b).trans hb,
    congrArg GuardShared.attemptAt endAttempt_guards⟩

/-! ### Enables (R284 to R286) -/

theorem enabled_of_dark {l : EnLine} (known : s.pwr.enablesOpen = none)
    (dark : (s.guard g).stopped = true ∨ (s.guard g).state = .tripped) : s.enabled l = false := by
  have absent : s.presents g l = false := by
    unfold State.presents
    rcases dark with h | h <;> simp [known, h]
  cases g <;> simp [State.enabled, absent]

/-! ### Live words under the event recorder (R489 to R497) -/

/-- From `s` to `v`, of the live words those at `as` alone have changed; standing causes and the other parts are free. -/
structure LiveIn (as : List Nat) (s v : State) : Prop where
  words : storeWf s.regs.live = true → ∀ a, a ∉ as → v.live a = s.live a
  wf : storeWf s.regs.live = true → storeWf v.regs.live = true

theorem LiveIn.refl : LiveIn as s s := ⟨fun _ _ _ => rfl, id⟩

theorem LiveIn.trans (h : LiveIn as s t) (h' : LiveIn as t v) : LiveIn as s v :=
  ⟨fun wf a out => (h'.words (h.wf wf) a out).trans (h.words wf a out), fun wf => h'.wf (h.wf wf)⟩

theorem LiveIn.of_live (h : LiveIn as s t) (hr : v.regs.live = t.regs.live) : LiveIn as s v :=
  h.trans ⟨fun _ a _ => by rw [State.live, hr, State.live], fun wf => by rwa [hr]⟩

theorem WordsIn.liveIn (h : WordsIn as s v) : LiveIn as s v := ⟨fun wf a out => ((h.words wf).1 a out).1, h.wf⟩

theorem liveIn_ite {p : Prop} [Decidable p] {a b : State} (ha : LiveIn as s a) (hb : LiveIn as s b) : LiveIn as s (if p then a else b) := by
  split <;> assumption

theorem LiveIn.setLive (h : LiveIn as s t) (a : Nat) (x : Word) (ha : a ∈ as := by decide) : LiveIn as s (t.setLive a x) :=
  h.trans ⟨fun wf b out => by rw [live_setLive wf, if_neg (fun e : b = a => out (e ▸ ha))], fun wf => wf_setLive wf a x⟩

theorem LiveIn.wr (h : LiveIn as s t) (f : Field) (n : Nat) (ha : f.addr ∈ as := by decide)
    (ha' : f.lo + f.width ≤ 32 ∨ f.addr + 4 ∈ as := by decide) : LiveIn as s (t.wr f n) :=
  h.trans (CountsIn.refl.wr f n ha ha').wordsIn.liveIn

theorem LiveIn.event (h : LiveIn as s t) (f : Field) (ha : f.addr ∈ as := by decide) : LiveIn as s (t.event [f]) := h.setLive _ _ ha

theorem LiveIn.eventStands (h : LiveIn as s t) (f : Field) (ha : f.addr ∈ as := by decide) : LiveIn as s (t.eventStands [f]) :=
  (h.setLive _ _ ha).of_live rfl

theorem LiveIn.causeGone (h : LiveIn as s t) (f : Field) (ha : f.addr ∈ as := by decide) : LiveIn as s (t.causeGone [f]) :=
  have gone : LiveIn as s (t.setCauses f.addr (Store.get t.regs.causes f.addr &&& ~~~(flagMask [f]))) := h.of_live rfl
  liveIn_ite gone (gone.setLive _ _ ha)

theorem LiveIn.rd (h : LiveIn as s v) (wf : storeWf s.regs.live = true) {f : Field} (ht : f.tuned = false) (hf : f.lo + f.width ≤ 32)
    (ha : f.addr ∉ as) : v.rd f = s.rd f := by
  rw [rd_live _ ht, rd_live _ ht]
  exact read_congr f hf _ _ (h.words wf _ ha)

/-- The live words of the event recorder that a record may move. -/
def recorderWords : List Nat := [0x540004, 0x540010, 0x540040, 0x540044, 0x540048, 0x54004C, 0x540080, 0x540084, 0x540088]

theorem liveIn_startPage : LiveIn recorderWords s s.startPage := by
  unfold State.startPage
  extract_lets e
  exact liveIn_ite .refl (liveIn_ite .refl (liveIn_ite
    (liveIn_ite ((LiveIn.refl.causeGone Reg.EVR_STAT_LOG_FULL).of_live rfl) (liveIn_ite (LiveIn.refl.eventStands Reg.EVR_STAT_LOG_FULL) .refl))
    (liveIn_ite .refl (LiveIn.refl.of_live rfl))))

theorem liveIn_setLastWords {r : EvRec} : LiveIn recorderWords s (s.setLastWords r) :=
  (((LiveIn.refl.wr (Reg.EVR_LW 0) _).wr (Reg.EVR_LW 1) _).wr (Reg.EVR_LW 2) _).wr (Reg.EVR_LW 3) _

theorem liveIn_enterRecord {kind code detail : Nat} {esc : Bool} : LiveIn recorderWords s (s.enterRecord kind code detail esc) := by
  unfold State.enterRecord
  extract_lets flags r s1 s2 media s3
  have h1 : LiveIn recorderWords s s1 := LiveIn.refl.of_live rfl
  have h2 : LiveIn recorderWords s s2 := (h1.wr Reg.EVR_REC_CNT _).wr Reg.EVR_NEXT_SEQ _
  have h3 : LiveIn recorderWords s s3 := liveIn_ite (liveIn_ite h2 (h2.trans liveIn_setLastWords)) h2
  exact liveIn_ite ((LiveIn.refl.wr Reg.EVR_DROP_CNT _).eventStands Reg.EVR_STAT_SRAM_FULL) (liveIn_ite (h3.of_live rfl) h3)

theorem liveIn_record {kind code detail zone : Nat} {esc : Bool} : LiveIn recorderWords s (s.record kind code detail zone esc) := by
  unfold State.record
  extract_lets s1 z r s2
  have form (x : State) : LiveIn recorderWords x (x.form kind code detail esc) := liveIn_enterRecord.trans liveIn_startPage
  have rolled : s1.regs = s.regs := only_rollSecond (ps := [.evr]) only_refl (List.Subset.refl _) .regs (by decide)
  have h1 : LiveIn recorderWords s s1 := LiveIn.refl.of_live (by rw [rolled])
  have h2 : LiveIn recorderWords s s2 := h1.of_live rfl
  exact liveIn_ite (h1.trans (form s1))
    (liveIn_ite (h2.trans (form s2)) ((h2.wr Reg.EVR_SUPP_CNT _).event Reg.EVR_STAT_RATE_LIMITED))

end Sys2Proof.Proofs

end

section
/-! What the guards watch (R285, R289 to R294, R304, R573): power bins, the monitors, the interlock, and the guards' status to each other. -/

namespace Sys2Proof.Proofs

open Sys2Proof Sys2Proof.Machine Sys2Proof.Safety Sys2Proof.Laws

variable {s v w x : State} {g : GuardId} {t : Instant} {adc : List (List Int)} {c : Nat}

/-! ### Which limits apply (R295, R311) -/

theorem entryA_congr (psq : v.psq = s.psq) (guards : v.guards = s.guards) (state : v.gda.state = s.gda.state) (sweep : v.sweep = s.sweep) :
    v.entryA t = s.entryA t := by
  simp only [State.entryA, State.pluckWindow, psq, guards, state, sweep]

theorem entryB_congr (psq : v.psq = s.psq) (guards : v.guards = s.guards) (state : v.gdb.state = s.gdb.state) (sweep : v.sweep = s.sweep) :
    v.entryB t = s.entryB t := by
  simp only [State.entryB, State.pluckWindow, psq, guards, state, sweep]

theorem profileA_congr (mems : v.mems = s.mems) (chp : v.chp = s.chp) (e : Entry) : v.profileA e = s.profileA e := by
  simp only [State.profileA, State.memFor, State.prevMem, State.memWord, mems, chp]

theorem profileB_congr (mems : v.mems = s.mems) (chp : v.chp = s.chp) (e : Entry) : v.profileB e = s.profileB e := by
  simp only [State.profileB, State.memFor, State.prevMem, State.memWord, mems, chp]

/-- Outside a restart pluck's window a violation trips the guard (R291, R293, R304). -/
theorem violation_eq_trip {cause : TripCause} (outside : s.inRestartWindow t = false) : s.violation g cause t = s.trip g cause := by
  simp [State.violation, outside]

theorem learnValue_eq_mapGuard (i n : Nat) :
    ∃ f : Option Learning → Option Learning, s.learnValue g i n = s.mapGuard g (fun y => { y with learning := f y.learning }) := by
  unfold State.learnValue
  split
  · exact ⟨id, by cases g <;> rfl⟩
  · exact ⟨_, rfl⟩

theorem only_learnValue_a (i n : Nat) : onlyParts [.gda] s (s.learnValue .a i n) := by
  obtain ⟨f, eq⟩ := learnValue_eq_mapGuard (s := s) (g := .a) i n
  rw [eq]
  exact only_mapGda only_refl (by decide)

theorem only_learnValue_b (i n : Nat) : onlyParts [.gdb] s (s.learnValue .b i n) := by
  obtain ⟨f, eq⟩ := learnValue_eq_mapGuard (s := s) (g := .b) i n
  rw [eq]
  exact only_mapGdb only_refl (by decide)

theorem guard_learnValue (i n : Nat) :
    (s.learnValue g i n).guard g = { s.guard g with learning := ((s.learnValue g i n).guard g).learning } := by
  obtain ⟨f, eq⟩ := learnValue_eq_mapGuard (s := s) (g := g) i n
  rw [eq, guard_mapGuard]

/-! ### Power bins (R291) -/

theorem countClips_of_unclipped {bs : List BinSample} (unclipped : bs.all (fun b => !b.clipped) = true) : s.countClips bs = s := by
  have noClip : bs.filter BinSample.clipped = [] := by simpa using unclipped
  rw [State.countClips, noClip, List.foldl_nil]

theorem wf_countClips {bs : List BinSample} (wf : storeWf s.regs.live = true) : storeWf (s.countClips bs).regs.live = true := by
  unfold State.countClips
  induction bs.filter BinSample.clipped generalizing s with
  | nil => exact wf
  | cons b bs ih => exact ih (wf_bump (wf_event wf _) _)

theorem sweep_wrMonPc (wf : storeWf s.regs.live = true) (pc : Nat) : (s.wr Reg.GDA_MON_PC pc).sweep = s.sweep :=
  sweep_of_onlyWords (onlyWords_wr (onlyWords_refl [0x170028] _) wf _ _ (by decide) (by decide)) (by decide)

theorem profileA_wrMonPc (wf : storeWf s.regs.live = true) (pc : Nat) :
    (s.wr Reg.GDA_MON_PC pc).profileA ((s.wr Reg.GDA_MON_PC pc).entryA t) = s.profileA (s.entryA t) := by
  have same : onlyParts [.regs] s (s.wr Reg.GDA_MON_PC pc) := only_wr only_refl (by decide)
  rw [profileA_congr (same .mems (by decide)) (same .chp (by decide)), entryA_congr (same .psq (by decide)) (same .guards (by decide))
    (congrArg Guard.state (same .gda (by decide))) (sweep_wrMonPc wf pc)]

theorem exec_powerBin_empty (hw : w = s.atT t) (runs : w.gda.stopped = false) (noSample : (w.binPower (binSamples adc t)).2 = 0) :
    exec (.powerBin adc t) s = .next ((w.countClips (binSamples adc t)).wr Reg.GDA_MON_PC 0) := by
  change execPowerBin adc t s = _
  simp [execPowerBin, ← hw, runs, noSample, powerCode]

/-- Without a clipped sample no channel is overloaded (R138, R291). -/
theorem exec_powerBin_unclipped {r : Nat × Nat} (hw : w = s.atT t) (runs : w.gda.stopped = false)
    (hr : r = w.binPower (binSamples adc t)) (sampled : r.2 ≠ 0) (unclipped : (binSamples adc t).all (fun b => !b.clipped) = true) :
    exec (.powerBin adc t) s = .next ((w.wr Reg.GDA_MON_PC (powerCode r.1 r.2)).checkBin (powerCode r.1 r.2) false t) := by
  have light (p : BinSample → Bool) (q : BinSample → Bool) :
      (binSamples adc t).filter (fun b => p b && b.clipped && q b) = [] := by
    rw [List.filter_eq_nil_iff]
    intro b mem
    have clear := List.all_eq_true.mp unclipped b mem
    simp at clear
    simp [clear]
  have calm : (List.range 4).any (fun _ => false) = false := rfl
  change execPowerBin adc t s = _
  simp [execPowerBin, ← hw, ← hr, runs, sampled, countClips_of_unclipped unclipped, light, calm]

/-- What a bin within its limits leaves. -/
structure BinWithin (s v : State) : Prop where
  run : v.gda.run = 0
  state : v.gda.state = s.gda.state
  only : onlyParts [.gda] s v

theorem checkBin_within {pc : Nat} (lo : (s.profileA (s.entryA t)).1 ≤ pc) (hi : pc ≤ (s.profileA (s.entryA t)).2) :
    BinWithin s (s.checkBin pc false t) := by
  have eq : s.checkBin pc false t = (s.mapGda (fun y => { y with run := 0 })).learnValue .a (s.entryA t).index pc := by
    simp [State.checkBin, Nat.not_lt.mpr lo, Nat.not_lt.mpr hi]
  obtain ⟨f, learns⟩ := learnValue_eq_mapGuard (s := s.mapGda (fun y => { y with run := 0 })) (g := .a) (s.entryA t).index pc
  rw [eq, learns]
  exact ⟨rfl, rfl, only_mapGda (only_mapGda only_refl (by decide)) (by decide)⟩

/-- What a bin above HI leaves before its run is judged. -/
structure BinHigh (s v : State) : Prop where
  guard : v.gda = { s.gda with run := s.gda.run + 1, learning := v.gda.learning }
  only : onlyParts [.gda, .regs] s v
  highCnt : storeWf s.regs.live = true → v.rd Reg.GDA_HIGH_CNT = min (s.rd Reg.GDA_HIGH_CNT + 1) (2 ^ 32 - 1)

theorem checkBin_high {pc : Nat} (hi : (s.profileA (s.entryA t)).2 < pc) :
    ∃ x, BinHigh s x ∧ s.checkBin pc false t =
      if max 1 (s.rd Reg.GDA_CTL_CONFIRM) ≤ s.gda.run + 1 then x.violation .a .high t else x := by
  unfold State.checkBin
  extract_lets e p low high s1 s2 n s3 s4
  have isHigh : high = true := by simp [high, p, e, hi]
  have h1 : SameTunings s s1 ∧ onlyParts [.regs] s s1 := by
    simp only [s1]
    split
    · exact ⟨sameTunings_bump .refl, only_bump only_refl (by decide)⟩
    · exact ⟨.refl, only_refl⟩
  have e2 : s2 = s1.bump Reg.GDA_HIGH_CNT := if_pos isHigh
  have o2 : onlyParts [.regs] s s2 := e2 ▸ only_bump h1.2 (by decide)
  have hn : n = s.gda.run + 1 := by
    simp only [n, isHigh, Bool.or_true, if_true]
    rw [o2 .gda (by decide)]
  have h4 : s4.gda = { s2.gda with run := n, learning := s4.gda.learning } := guard_learnValue (s := s3) (g := .a) e.index pc
  have o4 : onlyParts [.gda] s2 s4 := onlyParts_trans (only_mapGda only_refl (by decide)) (only_learnValue_a e.index pc)
  have confirm : s4.rd Reg.GDA_CTL_CONFIRM = s.rd Reg.GDA_CTL_CONFIRM := by
    rw [rd_of_regs (o4 .regs (by decide)), e2, (sameTunings_bump (f := Reg.GDA_HIGH_CNT) .refl).rd _ rfl, h1.1.rd _ rfl]
  refine ⟨s4, ⟨?_, ?_, ?_⟩, ?_⟩
  · rw [h4, hn, o2 .gda (by decide)]
  · exact onlyParts_trans (onlyParts_mono o2 (by decide)) (onlyParts_mono o4 (by decide))
  · intro wf
    have lowCounted : WordsIn [Reg.GDA_LOW_CNT.addr] s s1 := wordsIn_ite (CountsIn.refl.bump Reg.GDA_LOW_CNT).wordsIn .refl
    rw [rd_of_regs (o4 .regs (by decide)), e2, rd_bump (lowCounted.wf wf) _ rfl (by decide), lowCounted.rd wf _ (by decide) (by decide)]
    rfl
  · simp [isHigh, confirm, hn]

/-- A bin above HI, counted from the state it finds. -/
theorem powerBin_high {r : Nat × Nat} (hw : w = s.atT t) (wf : storeWf w.regs.live = true) (runs : w.gda.stopped = false)
    (hr : r = w.binPower (binSamples adc t)) (sampled : r.2 ≠ 0) (unclipped : (binSamples adc t).all (fun b => !b.clipped) = true)
    (hi : (w.profileA (w.entryA t)).2 < powerCode r.1 r.2) :
    ∃ x, BinHigh w x ∧ exec (.powerBin adc t) s =
      .next (if max 1 (w.rd Reg.GDA_CTL_CONFIRM) ≤ w.gda.run + 1 then x.violation .a .high t else x) := by
  rw [← profileA_wrMonPc wf (powerCode r.1 r.2)] at hi
  obtain ⟨x, bin, eq⟩ := checkBin_high hi
  have told : onlyParts [.regs] w (w.wr Reg.GDA_MON_PC (powerCode r.1 r.2)) := only_wr only_refl (by decide)
  have gda := told .gda (by decide)
  refine ⟨x, ⟨?_, ?_, ?_⟩, ?_⟩
  · rw [bin.guard, gda]
  · exact onlyParts_trans (onlyParts_mono told (by decide)) bin.only
  · intro wf
    rw [bin.highCnt (wf_wr wf _ _), rd_wr_other wf _ _ (by decide) (by decide) (.inr (by decide))]
  · rw [exec_powerBin_unclipped hw runs hr sampled unclipped, eq, rd_wr_tuned _ _ _ rfl, gda]

/-! ### MONTX (R292) -/

/-- GDA once a sample of MONTX has been told and both its runs counted. -/
def txJudged (s : State) (code : Nat) (high leak : Bool) : State :=
  (s.wr Reg.GDA_MON_TX code).mapGda (fun y => { y with
    runTx := if high then y.runTx + 1 else 0, runLeak := if leak then y.runLeak + 1 else 0 })

theorem rd_txJudged {high leak : Bool} (f : Field) (tuned : f.tuned = true) : (txJudged s c high leak).rd f = s.rd f :=
  rd_wr_tuned _ _ _ tuned

theorem only_txJudged {high leak : Bool} : onlyParts [.gda, .regs] s (txJudged s c high leak) :=
  only_mapGda (only_wr only_refl (by decide)) (by decide)

theorem exec_montxSample_high (hw : w = s.atT t) (runs : w.gda.stopped = false) (hc : c < 1024) (high : w.rd Reg.GDA_TX_TX_MAX < c)
    (confirmed : max 1 (w.rd Reg.GDA_CTL_TX_CONFIRM) ≤ w.gda.runTx + 1) :
    ∃ leak, exec (.montxSample c t) s = .next ((txJudged w c true leak).trip .a .txHigh) := by
  change ∃ leak, execMontxSample c t s = _
  unfold execMontxSample
  rw [← hw, Nat.mod_eq_of_lt hc, if_neg (by simp [runs])]
  extract_lets code s1 hi leak s2 n
  have isHigh : hi = true := by simp [hi, s1, code, rd_wr_tuned _ _ _ (rfl : Reg.GDA_TX_TX_MAX.tuned = true), high]
  have judged : s2 = txJudged w c true leak := by simp only [s2, isHigh]; rfl
  have reached : n ≤ s2.gda.runTx := by
    simp only [n]
    rw [judged, rd_txJudged _ rfl]
    simpa [txJudged] using confirmed
  refine ⟨leak, ?_⟩
  rw [if_pos (by simp [isHigh, reached]), judged]

theorem exec_montxSample_dark (hw : w = s.atT t) (runs : w.gda.stopped = false) (hc : c < 1024) (low : c ≤ w.rd Reg.GDA_TX_TX_MAX)
    (dark : c ≤ w.rd Reg.GDA_TX_TX_DARK) : exec (.montxSample c t) s = .next (txJudged w c false false) := by
  change execMontxSample c t s = _
  unfold execMontxSample
  rw [← hw, Nat.mod_eq_of_lt hc, if_neg (by simp [runs])]
  extract_lets code s1 hi leak s2 n
  have notHigh : hi = false := by simp [hi, s1, code, rd_wr_tuned _ _ _ (rfl : Reg.GDA_TX_TX_MAX.tuned = true), low]
  have noLeak : leak = false := by simp [leak, s1, code, rd_wr_tuned _ _ _ (rfl : Reg.GDA_TX_TX_DARK.tuned = true), dark]
  rw [if_neg (by simp [notHigh]), if_neg (by simp [noLeak])]
  simp only [s2, notHigh, noLeak]
  rfl

/-! ### MONRX (R293) -/

/-- What a sample of MONRX leaves before it is judged: it may have been told, and learned. -/
structure RxTold (s v : State) : Prop where
  guard : v.gdb = { s.gdb with learning := v.gdb.learning }
  only : onlyParts [.gdb, .regs] s v
  tunings : SameTunings s v
  words : WordsIn [Reg.GDB_MON_RX.addr] s v

/-- GDB once both its runs have been counted. -/
def rxJudged (s : State) (high low : Bool) : State :=
  s.mapGdb (fun y => { y with run := if high then y.run + 1 else 0, runLow := if low then y.runLow + 1 else 0 })

/-- What follows from a sample of MONRX that has been told (R293). -/
def rxChecked (s : State) (code : Nat) (t : Instant) : State :=
  let e := s.entryB t
  let high := decide ((s.profileB e).2 < code)
  let low := e.lo && decide ((s.profileB e).1 != 0 && code < (s.profileB e).1)
  let v := rxJudged s high low
  let n := max 1 (min 16 (v.rd Reg.GDB_CTL_CONFIRM))
  if high && n ≤ v.gdb.run then v.violation .b .rxHigh t
  else if low && n ≤ v.gdb.runLow then v.violation .b .rxLow t
  else v

theorem exec_monrxSample {conv : Bool} (hw : w = s.atT t) (runs : w.gdb.stopped = false) (hc : c < 1024) :
    ∃ x, RxTold w x ∧ (conv = true → storeWf w.regs.live = true → x.rd Reg.GDB_MON_RX = c)
      ∧ exec (.monrxSample c conv t) s = .next (rxChecked x c t) := by
  change ∃ x, _ ∧ _ ∧ execMonrxSample c conv t s = _
  unfold execMonrxSample
  rw [← hw, Nat.mod_eq_of_lt hc, if_neg (by simp [runs])]
  extract_lets code s1 s2 e p high low s3 n
  have h1 : CountsIn [Reg.GDB_MON_RX.addr] w s1 := by
    simp only [s1]
    split
    · exact CountsIn.refl.wr Reg.GDB_MON_RX c
    · exact .refl
  have learned : s2 = s1 ∨ s2 = s1.learnValue .b 0 c := by
    simp only [s2]
    split
    · split
      · exact .inr rfl
      · exact .inl rfl
    · exact .inl rfl
  have h2 : onlyParts [.gdb] s1 s2 ∧ s2.gdb = { s1.gdb with learning := s2.gdb.learning } := by
    rcases learned with eq | eq <;> rw [eq]
    · exact ⟨only_refl, rfl⟩
    · exact ⟨only_learnValue_b 0 c, guard_learnValue (g := .b) 0 c⟩
  obtain ⟨o2, g2⟩ := h2
  refine ⟨s2, ⟨?_, ?_, ?_, ?_⟩, ?_, ?_⟩
  · rw [g2, h1.only .gdb (by decide)]
  · exact onlyParts_trans (onlyParts_mono h1.only (by decide)) (onlyParts_mono o2 (by decide))
  · exact h1.tunings.of_only o2
  · exact h1.wordsIn.of_regs (o2 .regs (by decide))
  · intro told wf
    have e1 : s1 = w.wr Reg.GDB_MON_RX c := if_pos told
    rw [rd_of_regs (o2 .regs (by decide)), e1, rd_wr wf _ rfl (by decide)]
    exact Nat.mod_eq_of_lt hc
  · rw [rxChecked, apply_ite Host.Outcome.next, apply_ite Host.Outcome.next]
    rfl

theorem RxTold.profileB (h : RxTold w x) (wf : storeWf w.regs.live = true) : x.profileB (x.entryB t) = w.profileB (w.entryB t) := by
  have state : x.gdb.state = w.gdb.state := by rw [h.guard]
  rw [profileB_congr (h.only .mems (by decide)) (h.only .chp (by decide)), entryB_congr (h.only .psq (by decide)) (h.only .guards (by decide))
    state (sweep_of_onlyWords (h.words.words wf) (by decide))]

theorem inRestartWindow_congr (psq : v.psq = s.psq) : v.inRestartWindow t = s.inRestartWindow t := by
  simp only [State.inRestartWindow, State.pluckWindow, psq]

theorem only_rxJudged {high low : Bool} : onlyParts [.gdb] s (rxJudged s high low) := only_mapGdb only_refl (by decide)

theorem rxChecked_high (outside : s.inRestartWindow t = false) (high : (s.profileB (s.entryB t)).2 < c)
    (confirmed : max 1 (min 16 (s.rd Reg.GDB_CTL_CONFIRM)) ≤ s.gdb.run + 1) :
    ∃ low, rxChecked s c t = (rxJudged s true low).trip .b .rxHigh := by
  unfold rxChecked
  extract_lets e isHigh low v n
  have hHigh : isHigh = true := by simp [isHigh, e, high]
  have judged : v = rxJudged s true low := by simp only [v, hHigh]
  have reached : n ≤ v.gdb.run := by
    simp only [n]
    rw [judged, rd_of_regs (only_rxJudged .regs (by decide))]
    exact confirmed
  refine ⟨low, ?_⟩
  rw [if_pos (by simp [hHigh, reached]), judged]
  exact violation_eq_trip ((inRestartWindow_congr (only_rxJudged .psq (by decide))).trans outside)

theorem rxChecked_within (lo : (s.profileB (s.entryB t)).1 ≤ c) (hi : c ≤ (s.profileB (s.entryB t)).2) :
    rxChecked s c t = rxJudged s false false := by
  simp [rxChecked, Nat.not_lt.mpr lo, Nat.not_lt.mpr hi]

/-! ### The interlock (R294) -/

theorem exec_intlkChange {hi : Bool} (hw : w = s.atT t) (changes : w.guards.intlkHigh ≠ hi) :
    exec (.intlkChange hi t) s = .next { w with guards := { w.guards with
      intlkHigh := hi, intlkAt := w.now, intlkClosed := if hi then false else w.guards.intlkClosed } } := by
  change execIntlkChange hi t s = _
  simp [execIntlkChange, ← hw, changes, State.mapGuards]

theorem exec_intlkTrip (hw : w = s.atT t) (high : w.guards.intlkHigh = true) (long : w.guards.intlkAt + 200000 ≤ w.now) :
    exec (.intlkTrip t) s = .next (w.trip .b .intlk) := by
  change execIntlkTrip t s = _
  simp [execIntlkTrip, ← hw, high, long]

theorem exec_intlkClosed (hw : w = s.atT t) (low : w.guards.intlkHigh = false) (long : w.guards.intlkAt + 10 ^ 11 ≤ w.now) :
    exec (.intlkClosed t) s = .next { w with guards := { w.guards with intlkClosed := true } } := by
  have closes : w.guards.intlkAt + 100 * ms ≤ w.now := long
  change execIntlkClosed t s = _
  simp [execIntlkClosed, ← hw, low, closes, State.mapGuards]

/-! ### The other guard (R285, R289) -/

theorem exec_peerStatus_follow (hw : w = s.atT t) (tripped : (w.guard (otherGuard g)).state = .tripped)
    (news : (w.guard g).peer ≠ .tripped) :
    exec (.peerStatus g t) s = .next ((w.mapGuard g (fun y => { y with peer := .tripped })).trip g .follow) := by
  change execPeerStatus g t s = _
  simp [execPeerStatus, ← hw, tripped, news]

theorem exec_peerStatus_arms (hw : w = s.atT t) (armed : w.gda.state = .armed) (restart : w.gdb.state = .restart) :
    exec (.peerStatus .b t) s = .next ((w.mapGuard .b (fun y => { y with peer := .armed })).guardEnter .b .armed .none) := by
  change execPeerStatus .b t s = _
  simp [execPeerStatus, ← hw, otherGuard, State.guard, State.mapGuard, armed, restart]

theorem exec_peerLost (hw : w = s.atT t) (lost : (w.guard (otherGuard g)).stopped = true) (long : (w.guard g).aliveAt + 10 ^ 7 ≤ w.now) :
    exec (.peerLost g t) s = .next (w.trip g .peerLost) := by
  have silent : (w.guard g).aliveAt + 10 * us ≤ w.now := long
  change execPeerLost g t s = _
  simp [execPeerLost, ← hw, lost, silent]

theorem exec_enableClockStop (hw : w = s.atT t) (main : w.pwr.fallback = false) :
    exec (.enableClockStop g t) s = .next (w.stopGuard g) := by
  change execEnableClockStop g t s = _
  simp [execEnableClockStop, ← hw, main]

/-- What a guard's clock that stops leaves of the guards. -/
structure ClockStopped (g : GuardId) (s v : State) : Prop where
  guard : v.guard g = { s.guard g with stopped := true }
  other : v.guard (otherGuard g) = { s.guard (otherGuard g) with aliveAt := s.now }
  only : onlyParts [.gda, .gdb, .src, .psq, .guards, .cal, .phs, .rmx] s v

theorem stopGuard_stops (runs : (s.guard g).stopped = false) : ClockStopped g s (s.stopGuard g) := by
  unfold State.stopGuard
  rw [if_neg (by simp [runs])]
  extract_lets s1
  have same (k : GuardId) : s1.followEnables.guard k = s1.guard k :=
    guard_of_only (only_followEnables only_refl (List.Subset.refl _)) k
  refine ⟨?_, ?_, only_followEnables (only_mapGuard (only_mapGuard only_refl (by decide)) (by decide)) (by decide)⟩
  · rw [same]
    cases g <;> rfl
  · rw [same]
    cases g <;> rfl

/-- Settles O30: a bin or a sample by what it leaves before its run is judged (`checkBin_high`, `txJudged`, `rxJudged`), and the trip that
follows by `trip_becomes_of_armed`. -/
theorem guardsTripOnWhatTheyWatch : Obligations.GuardsTripOnWhatTheyWatch := by
  unfold Obligations.GuardsTripOnWhatTheyWatch
  intro t s w hw wf
  refine ⟨?binEmpty, ?binWithin, ?binHigh, ?binTrips, ?txTrips, ?txDark, ?rxTrips, ?rxWithin, ?intlkChanges, ?intlkTrips, ?intlkCloses,
    ?follows, ?arms, ?peerLost, ?clockStops⟩
  case binEmpty =>
    intro adc runs noSample
    refine ⟨_, exec_powerBin_empty hw runs noSample, rd_wr (wf_countClips wf) _ rfl (by decide) 0, ?_⟩
    exact only_wr (only_countClips only_refl (by decide)) (by decide)
  case binWithin =>
    intro adc r pc p runs hr sampled hpc hp lo hi unclipped
    subst hpc hp
    rw [← profileA_wrMonPc wf (powerCode r.1 r.2)] at lo hi
    have within := checkBin_within lo hi
    have told : onlyParts [.regs] w (w.wr Reg.GDA_MON_PC (powerCode r.1 r.2)) := only_wr only_refl (by decide)
    refine ⟨_, exec_powerBin_unclipped hw runs hr sampled unclipped, within.run, ?_, ?_, ?_⟩
    · rw [within.state, told .gda (by decide)]
    · rw [rd_of_regs (within.only .regs (by decide))]
      exact rd_wr wf _ rfl (by decide) _
    · exact onlyParts_trans (onlyParts_mono told (by decide)) (onlyParts_mono within.only (by decide))
  case binHigh =>
    intro adc r pc p runs hr sampled hpc hp hi unclipped short
    subst hpc hp
    obtain ⟨x, bin, eq⟩ := powerBin_high hw wf runs hr sampled unclipped hi
    refine ⟨x, eq.trans (by rw [if_neg (by omega)]), ?_, ?_, bin.highCnt wf, bin.only⟩
    · rw [bin.guard]
    · rw [bin.guard]
  case binTrips =>
    intro adc r pc p runs armed outside known hr sampled hpc hp hi unclipped confirmed
    subst hpc hp
    obtain ⟨x, bin, eq⟩ := powerBin_high hw wf runs hr sampled unclipped hi
    have now : x.now = w.now := bin.only .now (by decide)
    have trips := trip_becomes_of_armed (s := x) (g := .a) (c := .high) (by rw [State.guard, bin.guard]; exact runs)
      (by rw [State.guard, bin.guard]; exact armed)
    have after : onlyParts [.regs, .psq, .src, .cal, .phs, .rmx, .gda, .gdb, .guards, .kpe, .evr] w (x.trip .a .high) :=
      only_trip (onlyParts_mono bin.only (by decide)) (by decide)
    have outside' : x.inRestartWindow t = false := (inRestartWindow_congr (bin.only .psq (by decide))).trans outside
    refine ⟨x.trip .a .high, eq.trans (by rw [if_pos confirmed, violation_eq_trip outside']), congrArg Guard.state trips.guard,
      congrArg Guard.cause trips.guard, (congrArg Guard.trippedAt trips.guard).trans now, ?_, ?_, after .chp (by decide)⟩
    · exact enabled_of_dark (g := .a) ((congrArg Pwr.enablesOpen (after .pwr (by decide))).trans known)
        (.inr (congrArg Guard.state trips.guard))
    · exact trips.other.trans (bin.only .gdb (by decide))
  case txTrips =>
    intro c runs armed hc high confirmed
    obtain ⟨leak, eq⟩ := exec_montxSample_high hw runs hc high confirmed
    have judged : onlyParts [.gda, .regs] w (txJudged w c true leak) := only_txJudged
    have gda : (txJudged w c true leak).gda = { w.gda with
        runTx := w.gda.runTx + 1, runLeak := if leak then w.gda.runLeak + 1 else 0 } := by simp [txJudged]
    have trips := trip_becomes_of_armed (s := txJudged w c true leak) (g := .a) (c := .txHigh) (by rw [State.guard, gda]; exact runs)
      (by rw [State.guard, gda]; exact armed)
    refine ⟨_, eq, congrArg Guard.state trips.guard, congrArg Guard.cause trips.guard, trips.other.trans (judged .gdb (by decide)), ?_⟩
    exact (only_trip only_refl (List.Subset.refl _) .chp (by decide)).trans (judged .chp (by decide))
  case txDark =>
    intro c runs hc low dark
    refine ⟨_, exec_montxSample_dark hw runs hc low dark, ?_, ?_, only_txJudged⟩
    · exact (rd_wr wf Reg.GDA_MON_TX rfl (by decide) c).trans (Nat.mod_eq_of_lt hc)
    · simp [txJudged]
  case rxTrips =>
    intro c p runs armed outside hc hp high confirmed
    subst hp
    obtain ⟨x, told, -, eq⟩ := exec_monrxSample (conv := false) hw runs hc
    have run : x.gdb.run = w.gdb.run := by rw [told.guard]
    obtain ⟨low, checked⟩ := rxChecked_high (s := x) (c := c) (t := t) ((inRestartWindow_congr (told.only .psq (by decide))).trans outside)
      (by rw [told.profileB wf]; exact high) (by rw [told.tunings.rd _ rfl, run]; exact confirmed)
    have judged : onlyParts [.gdb, .regs] w (rxJudged x true low) :=
      onlyParts_trans told.only (onlyParts_mono only_rxJudged (by decide))
    have trips := trip_becomes_of_armed (s := rxJudged x true low) (g := .b) (c := .rxHigh)
      (show x.gdb.stopped = false by rw [told.guard]; exact runs) (show x.gdb.state = .armed by rw [told.guard]; exact armed)
    refine ⟨_, eq.trans (by rw [checked]), congrArg Guard.state trips.guard, congrArg Guard.cause trips.guard,
      trips.other.trans (judged .gda (by decide)), ?_⟩
    exact (only_trip only_refl (List.Subset.refl _) .chp (by decide)).trans (judged .chp (by decide))
  case rxWithin =>
    intro c p runs hc hp lo hi
    subst hp
    obtain ⟨x, told, mon, eq⟩ := exec_monrxSample (conv := true) hw runs hc
    rw [← told.profileB wf] at lo hi
    refine ⟨rxJudged x false false, eq.trans (by rw [rxChecked_within lo hi]), mon rfl wf, rfl, rfl, ?_, ?_⟩
    · exact (show x.gdb.state = w.gdb.state by rw [told.guard])
    · exact onlyParts_trans told.only (onlyParts_mono only_rxJudged (by decide))
  case intlkChanges => exact fun hi changes => exec_intlkChange hw changes
  case intlkTrips =>
    intro high long runs armed
    have trips : Becomes .b _ w (w.trip .b .intlk) := trip_becomes_of_armed (g := .b) runs armed
    exact ⟨_, exec_intlkTrip hw high long, congrArg Guard.state trips.guard, congrArg Guard.cause trips.guard, trips.other⟩
  case intlkCloses => exact fun low long => exec_intlkClosed hw low long
  case follows =>
    intro tripped news runs armed
    have trips := trip_becomes_of_armed (s := w.mapGuard .a (fun y => { y with peer := .tripped })) (g := .a) (c := .follow) runs armed
    exact ⟨_, exec_peerStatus_follow (g := .a) hw tripped news, congrArg Guard.state trips.guard, congrArg Guard.cause trips.guard,
      congrArg Guard.peer trips.guard, trips.other⟩
  case arms =>
    intro armed restart runs
    have enters := guardEnter_becomes (s := w.mapGuard .b (fun y => { y with peer := .armed })) (g := .b) (c := .none) .armed runs
    exact ⟨_, exec_peerStatus_arms hw armed restart, congrArg Guard.state enters.guard, congrArg Guard.peer enters.guard, enters.other⟩
  case peerLost =>
    intro g lost long runs armed
    have trips : Becomes g _ w (w.trip g .peerLost) := trip_becomes_of_armed runs armed
    exact ⟨_, exec_peerLost hw lost long, congrArg Guard.state trips.guard, congrArg Guard.cause trips.guard⟩
  case clockStops =>
    intro g runs main known
    have stops : ClockStopped g w (w.stopGuard g) := stopGuard_stops runs
    have stopped : ((w.stopGuard g).guard g).stopped = true := congrArg Guard.stopped stops.guard
    have known' : (w.stopGuard g).pwr.enablesOpen = none := (congrArg Pwr.enablesOpen (stops.only .pwr (by decide))).trans known
    exact ⟨_, exec_enableClockStop hw main, stopped, by rw [stops.guard], congrArg Guard.aliveAt stops.other,
      enabled_of_dark known' (.inl stopped), enabled_of_dark known' (.inl stopped), stops.only⟩

end Sys2Proof.Proofs

end

section
/-! Commands to the guards, learnings and restarts (R287, R288, R299 to R307). -/

namespace Sys2Proof.Proofs

open Sys2Proof Sys2Proof.Machine Sys2Proof.Safety Sys2Proof.Laws

variable {s v w : State} {g : GuardId} {t : Instant} {m : Master}

/-! ### TRIP and SELFTEST (R288, R307) -/

theorem exec_trip (hw : w = s.atT t) (may : commandable w m (guardBlock g) none) : exec (.trip m g t) s = .next (w.trip g .cmd).done := by
  change execTrip m g t s = _
  rw [execTrip, ← hw, strobe_of_commandable may]

theorem exec_selftest (hw : w = s.atT t) (may : commandable w m (guardBlock g) none) :
    exec (.selftest m g t) s = .next (w.beginSelfTest g).done := by
  change execSelftest m g t s = _
  rw [execSelftest, ← hw, strobe_of_commandable may]

theorem beginSelfTest_of_dark (dark : (w.guard g).state = .idle ∨ (w.guard g).state = .tripped) (free : (w.guard g).selfTest = none) :
    w.beginSelfTest g = w.mapGuard g (fun y => { y with selfTest := some w.now }) :=
  if_pos (by rcases dark with h | h <;> simp [h, free])

theorem beginSelfTest_of_light (light : (w.guard g).state = .restart ∨ (w.guard g).state = .armed) : w.beginSelfTest g = w.guardRefuses g :=
  if_neg (by rcases light with h | h <;> simp [h])

/-- R307, R310: a self-test ends with its flag set; one that failed is a fault of the guard (cause 3). -/
theorem exec_selftestDone {a : Nat} (ok : Bool) (hw : w = s.atT t) (tests : (w.guard g).selfTest = some a)
    (long : a + (if g = .a then 20 else 500) * 10 ^ 6 ≤ w.now) (runs : (w.guard g).stopped = false) :
    exec (.selftestDone g ok t) s = .next (
      let v := (w.mapGuard g (fun y => { y with selfTest := none, stOk := y.stOk || ok })).event
        [guardStat g Reg.GDA_STAT_SELFTEST_DONE Reg.GDB_STAT_SELFTEST_DONE]
      if ok then v else v.blockFault (guardBlock g) none 3 0) := by
  have ripe : ¬ w.now < a + selfTestTime g := by
    have time : selfTestTime g = (if g = .a then 20 else 500) * 10 ^ 6 := by cases g <;> rfl
    rw [time]
    exact Nat.not_lt.mpr long
  change execSelftestDone g ok t s = _
  simp [execSelftestDone, ← hw, tests, ripe, runs]

/-! ### Learnings (R299, R300) -/

theorem exec_learn (hw : w = s.atT t) (may : commandable w m (guardBlock g) none) : exec (.learn m g t) s = .next (w.beginLearn g).done := by
  change execLearn m g t s = _
  rw [execLearn, ← hw, strobe_of_commandable may]

theorem exec_learnAbort (hw : w = s.atT t) (may : commandable w m (guardBlock g) none) :
    exec (.learnAbort m g t) s = .next (w.cancelLearn g).done := by
  change execLearnAbort m g t s = _
  rw [execLearnAbort, ← hw, strobe_of_commandable may]

/-- Between two sweeps nothing of the present one is left out of the count (R568). -/
theorem beginLearn_between (may : w.learnRefused g = false) (between : w.guards.inSweep = false) :
    w.beginLearn g = w.mapGuard g (fun y => { y with learning := some {
      pat := w.rd (if g = .a then Reg.GDA_LEARN_PAT else Reg.GDB_LEARN_PAT)
      left := 2 ^ max 6 (min 16 (w.rd (if g = .a then Reg.GDA_LEARN_LOG2S else Reg.GDB_LEARN_LOG2S)))
      dark := false } }) := by
  simp [State.beginLearn, may, between]

/-- A learning whose sweeps are all counted, once its profile stands in the stage. -/
def learningDone (s : State) (g : GuardId) (l : Learning) : State :=
  (((s.writeLearned g l).stageTo .dirty).mapGuard g (fun y => { y with learning := none })).event
    [guardStat g Reg.GDA_STAT_LEARN_DONE Reg.GDB_STAT_LEARN_DONE]

theorem exec_learnComplete {l : Learning} (hw : w = s.atT t) (learns : (w.guard g).learning = some l) (all : l.left = 0) :
    exec (.learnComplete g t) s = .next (learningDone w g l) := by
  change execLearnComplete g t s = _
  simp only [execLearnComplete, ← hw, learns]
  exact if_pos all

/-- What a change of the stage state to DIRTY leaves. -/
structure Dirtied (s v : State) : Prop where
  stage : v.chp.stage = .dirty
  only : onlyParts [.chp, .occ] s v

theorem stageTo_dirty : Dirtied s (s.stageTo .dirty) := by
  unfold State.stageTo
  extract_lets was s1 s2
  have h1 : onlyParts [.chp, .occ] s s1 := only_mapChp only_refl (by decide)
  have e2 : s2 = s1 := rfl
  have release : onlyParts [.occ] s1 s1.occRelease := only_occRelease only_refl (by decide)
  rw [e2]
  split
  · exact ⟨congrArg Chp.stage (release .chp (by decide)), onlyParts_trans h1 (onlyParts_mono release (by decide))⟩
  · exact ⟨rfl, h1⟩

theorem stageWord_setStage (wf : storeWf s.regs.stage = true) (a b : Nat) (x : Word) :
    (s.setStage a x).stageWord b = if b = a then x else s.stageWord b := by
  unfold State.stageWord State.setStage
  simp only [get_set wf]
  split
  next h => rw [h, BitVec.xor_assoc, BitVec.xor_self, BitVec.xor_zero]
  next => rfl

theorem read_oneBit {f : Field} (oneBit : f.width = 1) (fits : f.lo < 32) (words : Nat → Word) :
    f.read words = ((words f.addr).getLsbD f.lo).toNat := by
  unfold Field.read
  rw [if_pos (by omega), oneBit, Nat.pow_one, ← Nat.toNat_testBit]
  rfl

/-- A flag set in its staged word reads one. -/
theorem rdStage_setStage_bit (wf : storeWf s.regs.stage = true) {f : Field} (tuned : f.tuned = true) {k : Nat} (fits : f.lo + k < 32) :
    (s.setStage f.addr (s.stageWord f.addr ||| (f.bit k).mask)).rdStage (f.bit k) = 1 := by
  have set : (f.bit k).mask.getLsbD (f.bit k).lo = true := by
    rw [mask_bit (f.bit k) (Nat.succ_le_of_lt fits)]
    simp [Field.bit]
  rw [State.rdStage, if_pos (show (f.bit k).tuned = true from tuned), read_oneBit rfl fits,
    stageWord_setStage wf, if_pos (show (f.bit k).addr = f.addr from rfl), BitVec.getLsbD_or, set, Bool.or_true]
  rfl

/-- GDB's profile of one pattern from the least and the greatest code of its learning (R299). -/
def learnedB (s : State) (l : Learning) (lo hi : Nat) : State :=
  s.mapMems (fun y => { y with
    stage := Store.setWord y.stage (profileBase + 0x10000 + 4 * l.pat)
      (BitVec.ofNat 32 (lo - s.rd Reg.GDB_LEARN_MLO + min 1023 (hi + s.rd Reg.GDB_LEARN_MHI) * 2 ^ 16)) })

theorem writeLearned_b {l : Learning} {i lo hi : Nat} {rest : List (Nat × Nat × Nat)} (bins : l.bins = (i, lo, hi) :: rest) :
    s.writeLearned .b l = (learnedB s l lo hi).setStage Reg.GDB_PVALID_VALID.addr
      ((learnedB s l lo hi).stageWord Reg.GDB_PVALID_VALID.addr ||| (Reg.GDB_PVALID_VALID.bit l.pat).mask) := by
  simp only [State.writeLearned, bins]
  rfl

/-- What a learning of GDB that is done leaves: its profile in the stage, valid, and the stage DIRTY. -/
structure ProfileLearned (l : Learning) (lo hi : Nat) (s v : State) : Prop where
  gdb : v.gdb = { s.gdb with learning := none }
  stage : v.chp.stage = .dirty
  profile : v.mems.stage = Store.setWord s.mems.stage (profileBase + 0x10000 + 4 * l.pat)
    (BitVec.ofNat 32 (lo - s.rd Reg.GDB_LEARN_MLO + min 1023 (hi + s.rd Reg.GDB_LEARN_MHI) * 2 ^ 16))
  valid : v.rdStage (Reg.GDB_PVALID_VALID.bit l.pat) = 1
  only : onlyParts [.gdb, .mems, .regs, .chp, .occ] s v

theorem learningDone_b {l : Learning} {i lo hi : Nat} {rest : List (Nat × Nat × Nat)} (bins : l.bins = (i, lo, hi) :: rest)
    (pat : l.pat < 16) (wf : storeWf s.regs.stage = true) : ProfileLearned l lo hi s (learningDone s .b l) := by
  unfold learningDone
  have valid : (s.writeLearned .b l).rdStage (Reg.GDB_PVALID_VALID.bit l.pat) = 1 := by
    rw [writeLearned_b bins]
    exact rdStage_setStage_bit wf rfl (by change 0 + l.pat < 32; omega)
  have dirty : Dirtied (s.writeLearned .b l) ((s.writeLearned .b l).stageTo .dirty) := stageTo_dirty
  have written : onlyParts [.regs, .mems] s (s.writeLearned .b l) := only_writeLearned only_refl (List.Subset.refl _)
  have profile : (s.writeLearned .b l).mems.stage = Store.setWord s.mems.stage (profileBase + 0x10000 + 4 * l.pat)
      (BitVec.ofNat 32 (lo - s.rd Reg.GDB_LEARN_MLO + min 1023 (hi + s.rd Reg.GDB_LEARN_MHI) * 2 ^ 16)) := by
    rw [writeLearned_b bins]
    rfl
  generalize s.writeLearned .b l = x at *
  generalize x.stageTo .dirty = y at *
  have toY : onlyParts [.mems, .regs, .chp, .occ] s y :=
    onlyParts_trans (onlyParts_mono written (by decide)) (onlyParts_mono dirty.only (by decide))
  have tunings : SameTunings x ((y.mapGuard .b (fun z => { z with learning := none })).event
      [guardStat .b Reg.GDA_STAT_LEARN_DONE Reg.GDB_STAT_LEARN_DONE]) :=
    sameTunings_event ((SameTunings.refl.of_only dirty.only).of_only (only_mapGuard only_refl (List.Subset.refl _)))
  refine ⟨?_, ?_, ?_, ?_, only_event (only_mapGdb (onlyParts_mono toY (by decide)) (by decide)) (by decide)⟩
  · rw [event_gdb, State.mapGuard, mapGdb_gdb, toY .gdb (by decide)]
  · rw [event_chp, State.mapGuard, mapGdb_chp, dirty.stage]
  · rw [tunings.mems, profile]
  · rw [tunings.rdStage _ rfl, valid]

/-! ### Restarts (R301 to R306) -/

/-- What the start of an attempt leaves. -/
structure AttemptStarts (s v : State) : Prop where
  attemptAt : v.guards.attemptAt = some s.now
  lastAttempt : v.guards.lastAttempt = some s.now
  plucks : v.guards.plucks = 0
  gdb : v.gdb.state = .restart
  gda : v.gda = s.gda
  counted : storeWf s.regs.live = true → v.rd Reg.GDB_ATTEMPT_CNT = min (s.rd Reg.GDB_ATTEMPT_CNT + 1) (2 ^ 32 - 1)

/-- Of the live words, entering RESTART moves those of its record alone (R490). -/
theorem liveIn_guardEnter_restart {c : TripCause} : LiveIn recorderWords s (s.guardEnter g .restart c) := by
  unfold State.guardEnter
  extract_lets s1 s2 s3 s4
  have h2 : s2.regs = s.regs := only_mapGuard (ps := [.gda, .gdb]) only_refl (List.Subset.refl _) .regs (by decide)
  have h3 : LiveIn recorderWords s s3 := (LiveIn.refl.of_live (by rw [h2])).trans liveIn_record
  have told : onlyParts [.kpe, .psq, .src, .cal, .phs, .rmx, .guards] s3 s4.followEnables :=
    only_followEnables (only_notify only_refl (by decide)) (by decide)
  exact liveIn_ite .refl (h3.of_live (by rw [told .regs (by decide)]))

theorem startAttempt_starts (runs : s.gdb.stopped = false) : AttemptStarts s s.startAttempt := by
  unfold State.startAttempt
  extract_lets s1
  have begun : Becomes .b _ (s1.bump Reg.GDB_ATTEMPT_CNT) _ := guardEnter_becomes (c := .none) .restart runs
  have counted : onlyParts [.regs] s1 (s1.bump Reg.GDB_ATTEMPT_CNT) := only_bump only_refl (by decide)
  have attempt : SameAttempt s1 _ := (SameAttempt.of_only counted).trans begun.attempt
  refine ⟨attempt.attemptAt, attempt.lastAttempt, attempt.plucks, ?_, begun.other.trans (counted .gda (by decide)), fun wf => ?_⟩
  · exact (congrArg Guard.state begun.guard).trans (enteredGuard_state _ _ _ _)
  · have entered := liveIn_guardEnter_restart (s := s1.bump Reg.GDB_ATTEMPT_CNT) (g := .b) (c := .none)
    exact (entered.rd (wf_bump (s := s1) wf _) (f := Reg.GDB_ATTEMPT_CNT) rfl (by decide) (by decide)).trans
      (rd_bump (s := s1) wf _ rfl (by decide))

theorem exec_restart (hw : w = s.atT t) (may : commandable w m .gdb none) : exec (.restart m t) s = .next w.restartCmd.done := by
  change execRestart m t s = _
  rw [execRestart, ← hw, strobe_of_commandable may]

theorem exec_timedRestart (hw : w = s.atT t) (auto : w.on Reg.GDB_RST_AUTO = true) (causeA : w.timedCause .a = true)
    (causeB : w.timedCause .b = true) (may : w.mayRestart = true)
    (due : max w.gdb.trippedAt (w.guards.lastAttempt.getD 0) + max 1 (w.rd Reg.GDB_RST_INTERVAL) * 10 ^ 12 ≤ w.now) :
    exec (.timedRestart t) s = .next w.startAttempt := by
  have ripe : max w.gdb.trippedAt (w.guards.lastAttempt.getD 0) + max 1 (w.rd Reg.GDB_RST_INTERVAL) * sec ≤ w.now := due
  change execTimedRestart t s = _
  simp only [execTimedRestart, ← hw]
  exact if_pos (by simp [auto, causeA, causeB, may, ripe])

theorem exec_restartPluck {a : Nat} (hw : w = s.atT t) (next : w.nextRestartPluck = some a) (restart : w.gda.state = .restart)
    (due : a ≤ w.now) :
    exec (.restartPluck t) s = .next (if w.restartUnable then w.failAttempt
      else (w.mapGuards (fun y => { y with plucks := y.plucks + 1 })).beginPluck (w.rd Reg.GDA_RST_SLOT) (w.rd Reg.GDA_RST_SHAPE)
        (w.rd Reg.GDA_RST_SCALE) true) := by
  change execRestartPluck t s = _
  unfold execRestartPluck
  rw [← hw]
  dsimp only
  rw [next]
  dsimp only
  rw [if_neg (by simp [restart, due])]
  split <;> rfl

/-- The machine once the window of the last restart pluck has ended: the attempt is over (R304). -/
def lastWindowEnded (s : State) (p : Pluck) : State :=
  (s.mapPsq (fun q => { q with pluck := none, gateShut := max q.gateShut p.closeAt })).mapGuards
    (fun y => { y with attemptAt := none, plucks := 0 })

theorem exec_restartPluckWindowEnd {p : Pluck} {a : Nat} (hw : w = s.atT t) (hp : w.psq.pluck = some p) (ours : p.restart = true)
    (fired : p.fired = true) (ended : p.windowEnd ≤ w.now) (last : w.restartCount ≤ w.guards.plucks)
    (attempt : w.guards.attemptAt = some a) (restart : w.gda.state = .restart) :
    exec (.restartPluckWindowEnd t) s = .next ((lastWindowEnded w p).guardEnter .a .armed .none) := by
  change execRestartPluckWindowEnd t s = _
  unfold execRestartPluckWindowEnd
  rw [← hw]
  dsimp only
  rw [hp]
  dsimp only
  rw [if_pos (by simp [ours, fired, ended])]
  have may : (decide (w.restartCount ≤ w.guards.plucks) && w.guards.attemptAt.isSome && decide (w.gda.state = .restart)) = true := by
    simp [last, attempt, restart]
  exact if_pos may

/-- Settles O31: each command by its answer (`strobe_of_commandable`), a learning of GDB by `learningDone_b`, an attempt by
`startAttempt_starts` and `failAttempt_of_restart`, and GDA's return to ARMED by `guardEnter_becomes`. -/
theorem guardCommandsAndRestarts : Obligations.GuardCommandsAndRestarts := by
  unfold Obligations.GuardCommandsAndRestarts
  intro t s w hw wf
  refine ⟨?tripArmed, ?tripDark, ?tests, ?testRefused, ?testPasses, ?testFails, ?learns, ?learnRefused, ?learnt, ?learnAborts, ?restarts,
    ?restartRefused, ?timed, ?plucks, ?unable, ?lastWindow⟩
  case tripArmed =>
    intro m g may armed runs
    have tripped := (guard_done g).trans (trip_becomes_of_armed (c := .cmd) runs armed).guard
    exact ⟨_, exec_trip hw may, congrArg Guard.state tripped, congrArg Guard.cause tripped, congrArg Guard.trippedAt tripped,
      only_done (only_trip only_refl (by decide)) (by decide)⟩
  case tripDark =>
    intro m g may dark
    rw [exec_trip hw may, trip_of_dark dark]
  case tests =>
    intro m g may dark free
    rw [exec_selftest hw may, beginSelfTest_of_dark dark free]
  case testRefused =>
    intro m g may light
    rw [exec_selftest hw may, beginSelfTest_of_light light]
    rfl
  case testPasses =>
    intro g a tests long runs
    rw [exec_selftestDone true hw tests long runs]
    simp only [Bool.or_true, if_true]
  case testFails =>
    intro g a tests long runs
    rw [exec_selftestDone false hw tests long runs]
    simp only [Bool.or_false]
    rfl
  case learns =>
    intro m g may allowed between
    refine ⟨_, exec_learn hw may, ?_, ?_⟩
    · rw [guard_done, beginLearn_between allowed between, guard_mapGuard]
      rfl
    · rw [beginLearn_between allowed between]
      exact only_done (only_mapGuard only_refl (by decide)) (by decide)
  case learnRefused =>
    intro m g may refused
    rw [exec_learn hw may, State.beginLearn, if_pos refused]
    rfl
  case learnt =>
    intro l learning all bins pat stageWf
    have learned : ProfileLearned l 100 200 w (learningDone w .b l) := learningDone_b bins pat stageWf
    exact ⟨_, exec_learnComplete (g := .b) hw learning all, learned.gdb, learned.stage, learned.profile, learned.valid, learned.only⟩
  case learnAborts =>
    intro m g l may learning
    rw [exec_learnAbort hw may, cancelLearn_of_learning learning]
  case restarts =>
    intro m may holds runs
    have starts : AttemptStarts w w.startAttempt := startAttempt_starts runs
    refine ⟨w.startAttempt.done, ?_, starts.attemptAt, starts.lastAttempt, starts.plucks, starts.gdb, starts.gda, starts.counted wf⟩
    rw [exec_restart hw may, State.restartCmd, if_pos holds]
  case restartRefused =>
    intro m may holdsNot
    rw [exec_restart hw may, State.restartCmd, if_neg (by simp [holdsNot])]
    rfl
  case timed =>
    intro auto causeA causeB may runs due
    have starts : AttemptStarts w w.startAttempt := startAttempt_starts runs
    exact ⟨_, exec_timedRestart hw auto causeA causeB may due, starts.attemptAt, starts.gdb, starts.gda⟩
  case plucks =>
    intro a next restart due able
    refine ⟨_, (exec_restartPluck hw next restart due).trans (by rw [if_neg (by simp [able])]), rfl, rfl, ?_⟩
    exact only_beginPluck (only_mapGuards only_refl (by decide)) (by decide)
  case unable =>
    intro a next restartA restartB runsA runsB due unable
    have fails : AttemptFailed w w.failAttempt := failAttempt_of_restart runsA runsB restartA restartB
    exact ⟨_, (exec_restartPluck hw next restartA due).trans (by rw [if_pos unable]), congrArg Guard.state fails.gda,
      congrArg Guard.state fails.gdb, congrArg Guard.cause fails.gda, congrArg Guard.cause fails.gdb, fails.ended⟩
  case lastWindow =>
    intro p a hp ours fired ended last attempt restart runs
    have arms := guardEnter_becomes (s := lastWindowEnded w p) (g := .a) (c := .none) .armed runs
    exact ⟨_, exec_restartPluckWindowEnd hw hp ours fired ended last attempt restart, congrArg Guard.state arms.guard, arms.attempt.pluck,
      arms.attempt.attemptAt, arms.attempt.plucks, arms.other⟩

end Sys2Proof.Proofs

end

section
/-! Compression is lossless (R332, R333): the decoder undoes the zigzag code, the predictions, the codes of the residuals and their groups, and the
packing into bytes, each in turn. -/

namespace Sys2Proof.Proofs

open Sys2Proof Sys2Proof.Machine Sys2Proof.Safety Sys2Proof.Laws

variable {pred stride k n i j : Nat} {xs us : List (BitVec 16)} {u r : BitVec 16} {bs rest : List Bool}

/-! ### The zigzag code (R332) -/

/-- R332: the zigzag code of a residual. -/
def zigzag (r : BitVec 16) : BitVec 16 := (r <<< 1) ^^^ (if r.toNat < 2 ^ 15 then 0 else 0xFFFF)

theorem zigzag_of_nonneg (small : r.toNat < 2 ^ 15) : zigzag r = r <<< 1 := by
  rw [zigzag, if_pos small]
  exact BitVec.xor_zero

theorem zigzag_of_neg (large : ¬ r.toNat < 2 ^ 15) : zigzag r = ~~~(r <<< 1) := by
  rw [zigzag, if_neg large]
  exact BitVec.xor_allOnes

theorem unzigzag_zigzag (r : BitVec 16) : unzigzag (zigzag r) = r := by
  by_cases small : r.toNat < 2 ^ 15
  · have even : r <<< 1 &&& 1 = 0 := by ext i hi; cases i <;> simp
    rw [zigzag_of_nonneg small, unzigzag, even]
    apply BitVec.eq_of_toNat_eq
    simp
    omega
  · have odd : ~~~(r <<< 1) &&& 1 = 1 := by ext i hi; cases i <;> simp
    have sign : r.getLsbD 15 = true := by
      rw [BitVec.getLsbD, Nat.testBit_eq_decide_div_mod_eq, decide_eq_true_eq]
      omega
    have ones : (0 : BitVec 16) - 1 = BitVec.allOnes 16 := by decide
    rw [zigzag_of_neg small, unzigzag, odd, ones, BitVec.xor_allOnes]
    apply BitVec.eq_of_getLsbD_eq
    intro i hi
    obtain low | rfl : i < 15 ∨ i = 15 := by omega
    · simp [hi, show 1 + i < 16 by omega]
    · simp [sign]

/-! ### The predictions (R332) -/

/-- R332: the sample `j` back from the end; 0 before the first one. -/
def delayed (j : Nat) (xs : List (BitVec 16)) : BitVec 16 := if xs.length < j then 0 else xs.getD (xs.length - j) 0

theorem getElem_delayed (hj : 0 < j) (hi : i < xs.length) :
    (List.replicate j 0 ++ xs)[i]'(by simp; omega) = delayed j (xs.take i) := by
  have length : (xs.take i).length = i := List.length_take_of_le hi.le
  rw [delayed, length, List.getElem_append]
  split
  next early =>
    rw [if_pos (by simpa using early), List.getElem_replicate]
  next late =>
    have hji : j ≤ i := by simpa using late
    have back : i - j < i := by omega
    rw [if_neg (by omega)]
    simp [List.getD, back, List.getElem?_eq_getElem (show i - j < xs.length by omega)]

/-- R332: the predictions of a block's samples, in their order. -/
def predictions (pred stride : Nat) (xs : List (BitVec 16)) : List (BitVec 16) :=
  let back (k : Nat) : List (BitVec 16) := List.replicate k 0 ++ xs
  if pred % 4 = 0 then xs.map (fun _ => 0)
  else if pred % 4 = 1 then back 1
  else if pred % 4 = 2 then back stride
  else List.zipWith (fun a b => a - b) (List.zipWith (fun a b => a + b) (back 1) (back stride)) (back (stride + 1))

theorem cmpResiduals_eq :
    cmpResiduals pred stride xs = (List.zipWith (fun x p => x - p) xs (predictions pred stride xs)).map zigzag := rfl

theorem length_predictions : xs.length ≤ (predictions pred stride xs).length := by
  unfold predictions
  split_ifs <;> simp

theorem getElem_predictions (hs : 0 < stride) (hi : i < xs.length) :
    (predictions pred stride xs)[i]'(Nat.lt_of_lt_of_le hi length_predictions) = predicted pred stride (xs.take i) := by
  have four : pred % 4 = 0 ∨ pred % 4 = 1 ∨ pred % 4 = 2 ∨ pred % 4 = 3 := by omega
  rcases four with h | h | h | h <;> simp only [predictions, predicted, h]
  · simp
  · exact getElem_delayed Nat.one_pos hi
  · exact getElem_delayed hs hi
  · simp only [Nat.reduceEqDiff, if_false, List.getElem_zipWith, getElem_delayed Nat.one_pos hi, getElem_delayed hs hi,
      getElem_delayed (Nat.succ_pos stride) hi]
    rfl

@[simp] theorem length_cmpResiduals : (cmpResiduals pred stride xs).length = xs.length := by
  simpa [cmpResiduals_eq] using length_predictions

theorem getElem_cmpResiduals (hs : 0 < stride) (hi : i < xs.length) :
    (cmpResiduals pred stride xs)[i]'(by simpa) = zigzag (xs[i] - predicted pred stride (xs.take i)) := by
  simp only [cmpResiduals_eq, List.getElem_map, List.getElem_zipWith, getElem_predictions hs hi]

theorem unpredict_concat : unpredict pred stride (us ++ [u]) =
    unpredict pred stride us ++ [unzigzag u + predicted pred stride (unpredict pred stride us)] := List.foldl_append

/-- R332: each sample comes back from its residual and the samples before it. -/
theorem unpredict_take_cmpResiduals (hs : 0 < stride) (hi : i ≤ xs.length) :
    unpredict pred stride ((cmpResiduals pred stride xs).take i) = xs.take i := by
  induction i with
  | zero => rfl
  | succ i ih =>
    have here : i < (cmpResiduals pred stride xs).length := by rw [length_cmpResiduals]; omega
    rw [← List.take_append_getElem here, unpredict_concat, ih (by omega), getElem_cmpResiduals hs hi, unzigzag_zigzag, BitVec.sub_add_cancel,
      List.take_append_getElem hi]

theorem unpredict_cmpResiduals (hs : 0 < stride) : unpredict pred stride (cmpResiduals pred stride xs) = xs := by
  have all := unpredict_take_cmpResiduals (pred := pred) hs (le_refl xs.length)
  rwa [List.take_length, ← length_cmpResiduals (pred := pred) (stride := stride), List.take_length] at all

/-! ### Numbers as bits (R333) -/

theorem bitsOf_succ (n v : Nat) : bitsOf (n + 1) v = bitsOf n (v / 2) ++ [v % 2 == 1] := by
  have halved (i : Nat) (hi : i < n) : v / 2 ^ (n - i) = v / 2 / 2 ^ (n - 1 - i) := by
    rw [Nat.div_div_eq_div_mul, ← Nat.pow_succ']
    congr 2
    omega
  simp +contextual [bitsOf, List.range_succ, halved]

theorem bitsVal_concat (bs : List Bool) (b : Bool) : bitsVal (bs ++ [b]) = 2 * bitsVal bs + b.toNat := by
  cases b <;> simp [bitsVal]

@[simp] theorem length_bitsOf (n v : Nat) : (bitsOf n v).length = n := by simp [bitsOf]

theorem bitsVal_bitsOf {v : Nat} (hv : v < 2 ^ n) : bitsVal (bitsOf n v) = v := by
  induction n generalizing v with
  | zero => simp_all [bitsOf, bitsVal]
  | succ n ih =>
    rw [bitsOf_succ, bitsVal_concat, ih (by omega)]
    rcases Nat.mod_two_eq_zero_or_one v with h | h <;> simp [h] <;> omega

theorem bitsOf_bitsVal (bs : List Bool) : bitsOf bs.length (bitsVal bs) = bs := by
  induction bs using List.reverseRecOn with
  | nil => rfl
  | append_singleton bs b ih =>
    rw [List.length_append, List.length_singleton, bitsOf_succ, bitsVal_concat]
    cases b
    · simpa using ih
    · simpa [Nat.mul_add_div] using ih

theorem bitsVal_lt (bs : List Bool) : bitsVal bs < 2 ^ bs.length := by
  induction bs using List.reverseRecOn with
  | nil => decide
  | append_singleton bs b ih =>
    have bit : b.toNat < 2 := b.toNat_lt
    rw [bitsVal_concat, List.length_append, List.length_singleton, Nat.pow_succ]
    omega

/-! ### The code of one residual (R333) -/

theorem ofNat_bitsVal_bitsOf (u : BitVec 16) : BitVec.ofNat 16 (bitsVal (bitsOf 16 u.toNat)) = u := by
  rw [bitsVal_bitsOf u.isLt, BitVec.ofNat_toNat, BitVec.setWidth_eq]

/-- A quotient in unary, closed by a 0. -/
theorem takeWhile_unary (q : Nat) (bs : List Bool) : (List.replicate q true ++ false :: bs).takeWhile (fun b => b) = List.replicate q true := by
  simp

/-- The escape begins with at least 24 ones. -/
theorem length_takeWhile_escape (bs : List Bool) : 24 ≤ ((List.replicate 24 true ++ bs).takeWhile (fun b => b)).length := by
  rw [List.takeWhile_append_of_pos (by simp)]
  simp

theorem readCode_raw : readCode 15 (bitsOf 16 u.toNat ++ rest) = (u, rest) := by
  simp [readCode, ofNat_bitsVal_bitsOf]

theorem readCode_short {q m : Nat} (hk : k ≠ 15) (hq : q < 24) (hm : m < 2 ^ k) :
    readCode k (List.replicate q true ++ false :: (bitsOf k m ++ rest)) = (BitVec.ofNat 16 (q * 2 ^ k + m), rest) := by
  have past (xs : List Bool) : (List.replicate q true ++ false :: xs).drop (q + 1) = xs := by
    simp [List.drop_append]
  simp only [readCode, takeWhile_unary, List.length_replicate, hk, if_false, Nat.not_le.mpr hq, past, ← List.drop_drop]
  simp [bitsVal_bitsOf hm]

theorem readCode_escape (hk : k ≠ 15) : readCode k (List.replicate 24 true ++ (bitsOf 16 u.toNat ++ rest)) = (u, rest) := by
  simp only [readCode, hk, if_false, length_takeWhile_escape, if_true, List.drop_left' List.length_replicate]
  simp [ofNat_bitsVal_bitsOf]

theorem readCode_cmpCode : readCode k (cmpCode k u ++ rest) = (u, rest) := by
  unfold cmpCode
  split_ifs with raw short
  · rw [raw, readCode_raw]
  · have whole : u.toNat / 2 ^ k * 2 ^ k + u.toNat % 2 ^ k = u.toNat := Nat.div_add_mod' _ _
    simp only [List.append_assoc, List.cons_append, List.nil_append]
    rw [readCode_short raw short (Nat.mod_lt _ (Nat.two_pow_pos k)), whole, BitVec.ofNat_toNat, BitVec.setWidth_eq]
  · rw [List.append_assoc, readCode_escape raw]

theorem readCodes_cmpGroupBits (us : List (BitVec 16)) : readCodes k us.length (cmpGroupBits k us ++ rest) = (us, rest) := by
  induction us with
  | nil => rfl
  | cons u us ih =>
    have step : cmpGroupBits k (u :: us) ++ rest = cmpCode k u ++ (cmpGroupBits k us ++ rest) := by simp [cmpGroupBits]
    rw [step, List.length_cons, readCodes, readCode_cmpCode, ih]

/-! ### Groups (R333) -/

theorem cmpBestK_lt (us : List (BitVec 16)) : cmpBestK us < 16 := by
  unfold cmpBestK
  refine List.foldlRecOn (motive := (· < 16)) _ _ (by decide) fun b hb k hk => ?_
  split
  · exact List.mem_range.mp hk
  · exact hb

theorem readGroups_cmpGroups (fits : us.length ≤ 16 * n) : readGroups n us.length (cmpGroups n us ++ rest) = us := by
  induction n generalizing us with
  | zero => simp_all [readGroups]
  | succ n ih =>
    unfold readGroups cmpGroups
    by_cases none : us = []
    · simp [none]
    · have some : us.length ≠ 0 := by simpa using none
      have group : min 16 us.length = (us.take 16).length := List.length_take.symm
      have rest' : us.length - 16 = (us.drop 16).length := List.length_drop.symm
      simp only [List.isEmpty_iff, none, some, if_false, List.append_assoc]
      rw [List.take_left' (length_bitsOf _ _), List.drop_left' (length_bitsOf _ _), bitsVal_bitsOf (cmpBestK_lt _), group, readCodes_cmpGroupBits,
        rest', ih (by rw [List.length_drop]; omega), List.take_append_drop]

/-! ### Bytes (R333) -/

/-- The bits of the first byte that bits fill; zeros where there are none. -/
def firstByte (bs : List Bool) : List Bool := (List.range 8).map (fun i => bs.getD i false)

@[simp] theorem length_firstByte (bs : List Bool) : (firstByte bs).length = 8 := by simp [firstByte]

theorem firstByte_append_drop (bs : List Bool) : firstByte bs ++ bs.drop 8 = bs ++ List.replicate (8 - bs.length) false := by
  apply List.ext_getElem
  · simp; omega
  · intro i h h'
    rw [List.length_append, length_firstByte, List.length_drop] at h
    by_cases byte : i < 8 <;> by_cases given : i < bs.length
    · simp [firstByte, byte, given]
    · simp [firstByte, List.getElem_append, byte, given]
    · simp [List.getElem_append, byte, given, Nat.add_sub_cancel' (Nat.le_of_not_lt byte)]
    · omega

theorem unpackBits_cons (b : Byte) (r : List Byte) : unpackBits (b :: r) = bitsOf 8 b.toNat ++ unpackBits r := by
  have bit (i : Nat) : b.getLsbD (7 - i) = (b.toNat / 2 ^ (7 - i) % 2 == 1) := by
    rw [BitVec.getLsbD, Nat.testBit_eq_decide_div_mod_eq]
    rfl
  simp [unpackBits, bitsOf, bit]

theorem bitsOf_firstByte (bs : List Bool) : bitsOf 8 (BitVec.ofNat 8 (bitsVal (firstByte bs))).toNat = firstByte bs := by
  have small : bitsVal (firstByte bs) < 2 ^ 8 := by
    simpa using bitsVal_lt (firstByte bs)
  rw [BitVec.toNat_ofNat, Nat.mod_eq_of_lt small, ← length_firstByte bs, bitsOf_bitsVal]

theorem packBits_succ (hb : bs ≠ []) : packBits (n + 1) bs = BitVec.ofNat 8 (bitsVal (firstByte bs)) :: packBits n (bs.drop 8) := by
  rw [packBits, if_neg (by simpa using hb), bitsVal, firstByte, List.foldl_map]

theorem unpackBits_packBits (fits : bs.length ≤ 8 * n) : ∃ pad, unpackBits (packBits n bs) = bs ++ pad := by
  induction n generalizing bs with
  | zero => exact ⟨[], by simp_all [packBits, unpackBits]⟩
  | succ n ih =>
    by_cases none : bs = []
    · exact ⟨[], by simp [none, packBits, unpackBits]⟩
    · obtain ⟨pad, rest⟩ := ih (bs := bs.drop 8) (by rw [List.length_drop]; omega)
      exact ⟨List.replicate (8 - bs.length) false ++ pad, by
        rw [packBits_succ none, unpackBits_cons, bitsOf_firstByte, rest, ← List.append_assoc, firstByte_append_drop, List.append_assoc]⟩

/-- Settles O34: the decoder undoes the packing (`unpackBits_packBits`), the groups (`readGroups_cmpGroups`) and the predictions
(`unpredict_cmpResiduals`). -/
theorem compressionIsLossless : Obligations.CompressionIsLossless := by
  unfold Obligations.CompressionIsLossless
  intro pred stride xs hs
  obtain ⟨pad, packed⟩ := unpackBits_packBits (bs := cmpGroups (xs.length / 16 + 1) (cmpResiduals pred stride xs))
    (n := (cmpGroups (xs.length / 16 + 1) (cmpResiduals pred stride xs)).length / 8 + 1) (by omega)
  have groups := readGroups_cmpGroups (n := xs.length / 16 + 1) (us := cmpResiduals pred stride xs) (rest := pad)
    (by rw [length_cmpResiduals]; omega)
  rw [length_cmpResiduals] at groups
  rw [payloadSamples, cmpPayload, packed, groups, unpredict_cmpResiduals hs]

end Sys2Proof.Proofs

end

section
/-! The ring and its captures (R312 to R328): a row's commit, the answer to a capture request, hand-overs, and the ends of captures. -/

namespace Sys2Proof.Proofs

open Sys2Proof Sys2Proof.Machine Sys2Proof.Safety Sys2Proof.Laws

variable {s v w : State} {t : Instant} {m : Master} {i : Nat} {q : CapRequest} {f : Desc → Desc}

/-! ### Descriptors (R320) -/

theorem modAt_congr {α : Type} {xs : List α} {k : Nat} {f g : α → α} {d : α} (h : f (xs.getD k d) = g (xs.getD k d)) :
    modAt xs k f = modAt xs k g := by
  induction xs generalizing k with
  | nil => rfl
  | cons x xs ih =>
    cases k with
    | zero => exact congrArg (· :: xs) h
    | succ k => exact congrArg (x :: ·) (ih h)

theorem modAt_self {α : Type} {xs : List α} {k : Nat} {f : α → α} {d : α} (h : f (xs.getD k d) = xs.getD k d) : modAt xs k f = xs := by
  rw [modAt_congr (g := id) h, modAt_eq_modify, List.modify_id]

theorem eraseIdx_modAt {α : Type} (xs : List α) (k : Nat) (f : α → α) : (modAt xs k f).eraseIdx k = xs.eraseIdx k := by
  induction xs generalizing k with
  | nil => rfl
  | cons x xs ih =>
    cases k with
    | zero => rfl
    | succ k => exact congrArg (x :: ·) (ih k)

theorem desc_mapDesc (hi : i < s.rng.desc.length) : (s.mapDesc i f).desc i = f (s.desc i) := getD_modAt hi f _

theorem desc_free (free : s.rng.desc.all (fun d => d.state == .free) = true) (i : Nat) : (s.desc i).state = .free := by
  rw [State.desc, List.getD_eq_getElem?_getD]
  cases entry : s.rng.desc[i]? with
  | none => rfl
  | some d => simpa using List.all_eq_true.mp free d (List.mem_of_getElem? entry)

/-! ### A row's commit (R312 to R319) -/

theorem cutStreams_of_free (free : s.rng.desc.all (fun d => d.state == .free) = true) : s.cutStreams = s :=
  List.foldl_fixed' (fun k => if_neg (by simp [desc_free free k])) _

theorem commitDesc_of_free (free : (s.desc i).state = .free) (n f : Nat) : s.commitDesc n f i = s := if_pos (by simp [free])

theorem reuseSlot_of_unused (unused : s.rng.rows.all (fun x => x.slot != s.rng.wslot) = true) : s.reuseSlot = s := by
  have noRow : s.rng.rows.find? (fun r => r.slot == s.rng.wslot) = none := by
    rw [List.find?_eq_none]
    intro r mem
    simpa using List.all_eq_true.mp unused r mem
  rw [State.reuseSlot, noRow]

theorem nextSlot_of_same (same : s.rng.nsNext = none) :
    s.nextSlot = s.mapRng (fun g => { g with wslot := if g.ns ≤ s.rng.wslot + 1 then 0 else s.rng.wslot + 1 }) := by
  rw [State.nextSlot, same]

theorem ringSettle_of_same (same : s.rng.formatAt = none) : s.ringSettle = s := by rw [State.ringSettle, same]

/-- The oldest row that waits stands in its slot's lines and is committed. -/
def rowCommitted (w : State) (r : PflRow) (rest : List PflRow) : State :=
  ((w.mapRng (fun g => { g with queue := rest })).dramWrite (ringBase + w.rng.wslot * w.rng.lpr * 64) (w.rowBytes r)).mapRng (fun g => { g with
    wrow := (w.rng.wrow + 1) % 2 ^ 48, wslot := if w.rng.ns ≤ w.rng.wslot + 1 then 0 else w.rng.wslot + 1
    rows := w.rng.rows ++ [{ num := w.rng.wrow, slot := w.rng.wslot, sweep := r.sweep, firedAt := r.firedAt }] })

/-- Where no capture is open and neither format nor length changes. -/
structure CommitsPlainly (w : State) : Prop where
  here : w.isolated .rng = false
  format : w.rng.formatAt = none
  length : w.rng.nsNext = none
  rows : w.rng.ns ≠ 0
  free : w.rng.desc.all (fun d => d.state == .free) = true
  unused : w.rng.rows.all (fun x => x.slot != w.rng.wslot) = true

theorem rowCommitted_rng {r : PflRow} {rest : List PflRow} : (rowCommitted w r rest).rng = { w.rng with
    queue := rest, wrow := (w.rng.wrow + 1) % 2 ^ 48, wslot := if w.rng.ns ≤ w.rng.wslot + 1 then 0 else w.rng.wslot + 1
    rows := w.rng.rows ++ [{ num := w.rng.wrow, slot := w.rng.wslot, sweep := r.sweep, firedAt := r.firedAt }] } := rfl

theorem exec_rowCommit {r : PflRow} {rest : List PflRow} (hw : w = s.atT t) (oldest : w.rng.queue = r :: rest) (plain : CommitsPlainly w) :
    exec (.rowCommit t) s = .next (rowCommitted w r rest) := by
  obtain ⟨here, format, length, rows, free, unused⟩ := plain
  have ready : (w.mapRng (fun g => { g with queue := rest })).cutStreams.reuseSlot = w.mapRng (fun g => { g with queue := rest }) := by
    rw [cutStreams_of_free (by exact free), reuseSlot_of_unused (by exact unused)]
  have settled (f n : Nat) : ((List.range 64).foldl (fun s i => s.commitDesc n f i) (rowCommitted w r rest)).ringSettle = rowCommitted w r rest := by
    have free' : (rowCommitted w r rest).rng.desc.all (fun d => d.state == .free) = true := by rw [rowCommitted_rng]; exact free
    have format' : (rowCommitted w r rest).rng.formatAt = none := by rw [rowCommitted_rng]; exact format
    rw [List.foldl_fixed' (fun k => commitDesc_of_free (desc_free free' k) n f), ringSettle_of_same format']
  change execRowCommit t s = _
  unfold execRowCommit
  simp only [← hw, oldest, here, format, Option.any_none, Bool.false_eq_true, if_false]
  rw [if_neg (by exact rows), ready, nextSlot_of_same (by exact length)]
  exact congrArg Host.Outcome.next (settled _ _)

/-! ### Capture requests (R320 to R322) -/

/-- What the descriptor of an accepted store capture holds. -/
def acceptedDesc (s : State) (q : CapRequest) : Desc :=
  { num := s.rng.nextNum, state := .wait, stream := false
    source := if q.zone = 256 then 1 else if q.zone = 257 then 2 else 0, zone := if q.zone < 256 then q.zone else 0
    first := q.first, last := q.last, pre := s.sweepsToRows q.pre, post := s.sweepsToRows q.post
    trigAt := q.trigAt, oldest := s.rng.oldestRow, session := q.cmd.map (fun c => c.1) }

/-- A store capture has taken descriptor `i` and the next number. -/
def captureAccepted (s : State) (q : CapRequest) (i : Nat) : State :=
  ((s.mapRng (fun r => { r with nextNum := nextCapNum s.rng.nextNum })).mapDesc i (fun _ => acceptedDesc s q)).bump Reg.RNG_CAP_CNT

theorem captureAccepted_rng : (captureAccepted s q i).rng =
    { s.rng with nextNum := nextCapNum s.rng.nextNum, desc := modAt s.rng.desc i (fun _ => acceptedDesc s q) } := by
  rw [captureAccepted, bump_rng]
  rfl

theorem only_captureAccepted : onlyParts [.rng, .regs] s (captureAccepted s q i) :=
  only_bump (only_mapDesc (only_mapRng only_refl (by decide)) (by decide)) (by decide)

theorem captureAccepted_desc (hi : i < s.rng.desc.length) : (captureAccepted s q i).desc i = acceptedDesc s q := by
  rw [State.desc, captureAccepted_rng]
  exact getD_modAt hi _ _

theorem captureAccepted_count (wf : storeWf s.regs.live = true) :
    (captureAccepted s q i).rd Reg.RNG_CAP_CNT = min (s.rd Reg.RNG_CAP_CNT + 1) (2 ^ 32 - 1) :=
  rd_bump (s := (s.mapRng (fun r => { r with nextNum := nextCapNum s.rng.nextNum })).mapDesc i (fun _ => acceptedDesc s q)) wf _ rfl (by decide)

/-- A store capture whose trigger row has yet to come. -/
theorem acceptCapture_store (store : q.stream = false) (free : (List.range 64).find? (fun j => (s.desc j).state == .free) = some i)
    (later : s.rng.rows.all (fun x => decide (x.firedAt < q.trigAt)) = true) :
    s.acceptCapture q = (captureAccepted s q i, s.rng.nextNum) := by
  have noRow : (captureAccepted s q i).rng.rows.find? (fun r => decide (q.trigAt ≤ r.firedAt)) = none := by
    rw [captureAccepted_rng, List.find?_eq_none]
    intro r mem
    simpa using List.all_eq_true.mp later r mem
  unfold State.acceptCapture
  simp only [free, store, Bool.false_eq_true, if_false]
  change (match (captureAccepted s q i).rng.rows.find? (fun r => decide (q.trigAt ≤ r.firedAt)) with
    | some r => ((captureAccepted s q i).fixWindow i r.num, s.rng.nextNum)
    | none => (captureAccepted s q i, s.rng.nextNum)) = _
  rw [noRow]

/-- The requests without their oldest. -/
def requestTaken (w : State) (r : List CapRequest) : State := w.mapZon (fun z => { z with requests := r })

theorem refusal_requestTaken {r : List CapRequest} : (requestTaken w r).refusal q = w.refusal q := rfl

theorem exec_captureRequest_accepts {r : List CapRequest} (hw : w = s.atT t) (oldest : w.zon.requests = q :: r) (takes : w.refusal q = 0)
    (zone : q.cmd = none) (store : q.stream = false) (free : (List.range 64).find? (fun j => (w.desc j).state == .free) = some i)
    (later : w.rng.rows.all (fun x => decide (x.firedAt < q.trigAt)) = true) :
    exec (.captureRequest t) s = .next ((captureAccepted (requestTaken w r) q i).resolveRequest q.tag (.number w.rng.nextNum)) := by
  have accepts := acceptCapture_store (s := requestTaken w r) store free later
  change execCaptureRequest t s = _
  unfold execCaptureRequest
  simp only [← hw, oldest]
  change (if (requestTaken w r).refusal q = 0 then _ else _) = _
  rw [if_pos (refusal_requestTaken.trans takes)]
  change (match q.cmd with | some k => _ | none => _) = _
  rw [zone]
  exact congrArg (fun p : State × Nat => Host.Outcome.next (p.1.resolveRequest q.tag (.number p.2))) accepts

/-- A request is refused with a code: it is flagged and counted. -/
def captureRefused (s : State) (c : Nat) : State :=
  ((s.wr Reg.RNG_REFUSE_CODE c).bump Reg.RNG_REFUSE_CNT).event [Reg.RNG_STAT_REFUSED]

/-- A zone's request is refused: ZON flags and counts it too (R322). -/
def zoneRefused (s : State) (tag c : Nat) : State :=
  (((captureRefused s c).resolveRequest tag .refused).bump Reg.ZON_REFUSED_CNT).event [Reg.ZON_STAT_CAP_REFUSED]

theorem exec_captureRequest_refuses {r : List CapRequest} (hw : w = s.atT t) (oldest : w.zon.requests = q :: r) (refuses : w.refusal q ≠ 0)
    (zone : q.cmd = none) : exec (.captureRequest t) s = .next (zoneRefused (requestTaken w r) q.tag (w.refusal q)) := by
  change execCaptureRequest t s = _
  unfold execCaptureRequest
  simp only [← hw, oldest]
  change (if (requestTaken w r).refusal q = 0 then _ else _) = _
  rw [refusal_requestTaken, if_neg refuses]
  simp only [zone]
  rfl

theorem refusal_le (s : State) (q : CapRequest) : s.refusal q ≤ 9 := by
  have one {p : Prop} [Decidable p] {a b : Nat} (ha : a ≤ 9) (hb : b ≤ 9) : (if p then a else b) ≤ 9 := by split <;> assumption
  unfold State.refusal
  extract_lets pre post room
  iterate 9 refine one (by decide) ?_
  decide

/-- What a refusal of a zone's request leaves. -/
structure ZoneRefused (c : Nat) (s v : State) : Prop where
  code : v.rd Reg.RNG_REFUSE_CODE = c
  count : v.rd Reg.RNG_REFUSE_CNT = min (s.rd Reg.RNG_REFUSE_CNT + 1) (2 ^ 32 - 1)
  zoneCount : v.rd Reg.ZON_REFUSED_CNT = min (s.rd Reg.ZON_REFUSED_CNT + 1) (2 ^ 32 - 1)
  only : onlyParts [.zon, .regs] s v

theorem captureRefused_code (wf : storeWf s.regs.live = true) {c : Nat} (small : c < 16) :
    (captureRefused s c).rd Reg.RNG_REFUSE_CODE = c := by
  have wf1 := wf_wr wf Reg.RNG_REFUSE_CODE c
  have after : CountsIn [Reg.RNG_REFUSE_CNT.addr, Reg.RNG_STAT_REFUSED.addr] (s.wr Reg.RNG_REFUSE_CODE c) (captureRefused s c) :=
    (CountsIn.refl.bump Reg.RNG_REFUSE_CNT).event Reg.RNG_STAT_REFUSED
  rw [after.wordsIn.rd wf1 _ (by decide) (by decide), rd_wr wf _ rfl (by decide)]
  exact Nat.mod_eq_of_lt small

theorem captureRefused_count (wf : storeWf s.regs.live = true) {c : Nat} :
    (captureRefused s c).rd Reg.RNG_REFUSE_CNT = min (s.rd Reg.RNG_REFUSE_CNT + 1) (2 ^ 32 - 1) := by
  have wf1 := wf_wr wf Reg.RNG_REFUSE_CODE c
  rw [captureRefused, rd_event_other (wf_bump wf1 _) _ _ _ (by decide) (.inr (by decide)), rd_bump wf1 _ rfl (by decide),
    rd_wr_other wf _ _ (by decide) (by decide) (.inr (by decide))]
  rfl

theorem countsIn_captureRefused {c : Nat} :
    CountsIn [Reg.RNG_REFUSE_CODE.addr, Reg.RNG_REFUSE_CNT.addr, Reg.RNG_STAT_REFUSED.addr] s (captureRefused s c) :=
  ((CountsIn.refl.wr Reg.RNG_REFUSE_CODE c).bump Reg.RNG_REFUSE_CNT).event Reg.RNG_STAT_REFUSED

theorem zoneRefused_of_small (wf : storeWf s.regs.live = true) {tag c : Nat} (small : c < 16) : ZoneRefused c s (zoneRefused s tag c) := by
  have refused := countsIn_captureRefused (s := s) (c := c)
  have wf1 : storeWf ((captureRefused s c).resolveRequest tag .refused).regs.live = true := refused.wf wf
  have same : ((captureRefused s c).resolveRequest tag .refused).regs = (captureRefused s c).regs := rfl
  have zone : CountsIn [Reg.ZON_REFUSED_CNT.addr, Reg.ZON_STAT_CAP_REFUSED.addr] ((captureRefused s c).resolveRequest tag .refused)
      (zoneRefused s tag c) := (CountsIn.refl.bump Reg.ZON_REFUSED_CNT).event Reg.ZON_STAT_CAP_REFUSED
  exact {
    code := by rw [zone.wordsIn.rd wf1 _ (by decide) (by decide), rd_of_regs same, captureRefused_code wf small]
    count := by rw [zone.wordsIn.rd wf1 _ (by decide) (by decide), rd_of_regs same, captureRefused_count wf]
    zoneCount := by
      rw [zoneRefused, rd_event_other (wf_bump wf1 _) _ _ _ (by decide) (.inr (by decide)), rd_bump wf1 _ rfl (by decide), rd_of_regs same,
        refused.wordsIn.rd wf _ (by decide) (by decide)]
      rfl
    only := onlyParts_trans (onlyParts_mono refused.only (by decide))
      (onlyParts_trans (only_resolveRequest only_refl (by decide)) (onlyParts_mono zone.only (by decide))) }

/-! ### Hand-overs of a stream capture (R325, R469) -/

theorem handRow_rng : (s.handRow i).rng =
    { s.rng with desc := modAt s.rng.desc i (fun d => { d with next := d.next + 1, rows := d.rows + 1 }) } := rfl

theorem desc_handRow (hi : i < s.rng.desc.length) :
    (s.handRow i).desc i = { s.desc i with next := (s.desc i).next + 1, rows := (s.desc i).rows + 1 } := by
  rw [State.desc, handRow_rng]
  exact getD_modAt hi _ _

/-- A stream capture whose window is not over stays open. -/
theorem settleDesc_stream (stream : (s.desc i).state = .stream) (more : (s.desc i).next < (s.desc i).stop) : s.settleDesc i = s :=
  if_neg (by simp [stream, more])

theorem exec_rowHandover_row (hw : w = s.atT t) (hi : i < w.rng.desc.length) (stream : (w.desc i).state = .stream)
    (known : (w.desc i).trow.isSome = true) (given : (w.desc i).next < (w.desc i).given)
    (packed : w.heldRows (w.desc i).num (fun o => o == (w.desc i).offset (w.desc i).next) = false)
    (more : (w.desc i).next + 1 < (w.desc i).stop) : exec (.rowHandover i t) s = .next (w.handRow i) := by
  have stillOpen : (w.handRow i).settleDesc i = w.handRow i := by
    refine settleDesc_stream ?_ ?_ <;> rw [desc_handRow hi]
    · exact stream
    · exact more
  change execRowHandover i t s = _
  unfold execRowHandover
  simp only [← hw, stream, known, given, packed, stillOpen]
  rfl

/-- With no CAPTURE subscription, the completion record goes to nobody, and the descriptor is free (R320, R469). -/
def handedOver (w : State) (i : Nat) : State :=
  (w.mapKpe (fun k => { k with capCrc := k.capCrc.filter (fun c => c.1 != (w.desc i).num) })).freeDesc i

theorem exec_rowHandover_completion (hw : w = s.atT t) (closed : (w.desc i).state = .closed) (stream : (w.desc i).stream = true)
    (packed : w.heldRows (w.desc i).num (fun _ => true) = false) (nobody : w.captureSubs = []) :
    exec (.rowHandover i t) s = .next (handedOver w i) := by
  change execRowHandover i t s = _
  unfold execRowHandover
  simp only [← hw, closed, stream, packed, nobody]
  rfl

/-! ### Aborts and releases (R328) -/

theorem mark_num (d : Desc) (first count kind : Nat) : (d.mark first count kind).num = d.num := by
  unfold Desc.mark
  extract_lets ends
  split_ifs <;> rfl

/-- The window's rest from offset `o` on is mapped ABORTED. -/
def abortMark (o : Nat) (d : Desc) : Desc := d.mark o (d.pre + d.post - o) 5

/-- A capture that waits is aborted, its map marked from some offset on (R327). -/
theorem abortDesc_of_wait (waits : (s.desc i).state = .wait) :
    ∃ o, s.abortDesc i = ((s.mapDesc i (abortMark o)).bump Reg.RNG_ABORT_CNT).closeDesc i .aborted := by
  unfold State.abortDesc
  simp only [waits, decide_true, Bool.true_or, if_true, reduceCtorEq, if_false]
  exact ⟨_, rfl⟩

/-- What the abort of capture `i` leaves. -/
structure Aborted (i : Nat) (s v : State) : Prop where
  state : (v.desc i).state = .closed
  result : (v.desc i).result = .aborted
  num : (v.desc i).num = (s.desc i).num
  others : v.rng.desc.eraseIdx i = s.rng.desc.eraseIdx i
  count : v.rd Reg.RNG_ABORT_CNT = min (s.rd Reg.RNG_ABORT_CNT + 1) (2 ^ 32 - 1)
  only : onlyParts [.rng, .regs, .kpe] s v

/-- A descriptor closed with a result. -/
def closedWith (r : CapResult) (d : Desc) : Desc := { d with state := .closed, result := r }

theorem closeDesc_rng {r : CapResult} : (s.closeDesc i r).rng = { s.rng with desc := modAt s.rng.desc i (closedWith r) } := by
  have told : (s.closeDesc i r).rng = ((s.mapDesc i (closedWith r)).event [Reg.RNG_STAT_CAP_DONE]).rng :=
    only_notify (ps := [.kpe]) only_refl (by decide) .rng (by decide)
  rw [told, event_rng]
  rfl

theorem abortDesc_aborted (wf : storeWf s.regs.live = true) (hi : i < s.rng.desc.length) (waits : (s.desc i).state = .wait) :
    Aborted i s (s.abortDesc i) := by
  have only : onlyParts [.rng, .regs, .kpe] s (s.abortDesc i) := only_abortDesc only_refl (by decide)
  obtain ⟨o, run⟩ := abortDesc_of_wait waits
  rw [run] at only ⊢
  have rng : (((s.mapDesc i (abortMark o)).bump Reg.RNG_ABORT_CNT).closeDesc i .aborted).rng.desc
      = modAt (modAt s.rng.desc i (abortMark o)) i (closedWith .aborted) := by
    rw [closeDesc_rng, bump_rng]
    rfl
  have desc : (((s.mapDesc i (abortMark o)).bump Reg.RNG_ABORT_CNT).closeDesc i .aborted).desc i
      = closedWith .aborted (abortMark o (s.desc i)) := by
    rw [State.desc, rng, getD_modAt (by rwa [modAt_length]), getD_modAt hi]
    rfl
  have wf1 : storeWf (s.mapDesc i (abortMark o)).regs.live = true := wf
  exact {
    state := congrArg Desc.state desc
    result := congrArg Desc.result desc
    num := (congrArg Desc.num desc).trans (mark_num _ _ _ _)
    others := by rw [rng, eraseIdx_modAt, eraseIdx_modAt]
    count := by
      have told : onlyParts [.kpe] ((((s.mapDesc i (abortMark o)).bump Reg.RNG_ABORT_CNT).mapDesc i (closedWith .aborted)).event
          [Reg.RNG_STAT_CAP_DONE]) (((s.mapDesc i (abortMark o)).bump Reg.RNG_ABORT_CNT).closeDesc i .aborted) :=
        only_notify only_refl (by decide)
      have wf2 : storeWf (((s.mapDesc i (abortMark o)).bump Reg.RNG_ABORT_CNT).mapDesc i (closedWith .aborted)).regs.live = true :=
        wf_bump wf1 _
      rw [rd_of_regs (told .regs (by decide)), rd_event_other wf2 _ _ _ (by decide) (.inr (by decide))]
      exact rd_bump wf1 _ rfl (by decide)
    only := only }

theorem captureOp_other {n op : Nat} (other : n ≠ (s.desc i).num % 2 ^ 24) : s.captureOp i op n = s :=
  if_pos (by simpa using Ne.symm other)

theorem captureOp_abort : s.captureOp i 1 ((s.desc i).num % 2 ^ 24) = s.abortDesc i := by
  simp [State.captureOp]

theorem captureOp_release (closed : (s.desc i).state = .closed) : s.captureOp i 2 ((s.desc i).num % 2 ^ 24) = s.freeDesc i := by
  simp [State.captureOp, State.releaseDesc, closed]

theorem exec_captureAbort {n : Nat} (hw : w = s.atT t) (may : commandable w m .rng none) :
    exec (.captureAbort m i n t) s = .next (w.captureOp i 1 n).done := by
  change execCaptureAbort m i n t s = _
  rw [execCaptureAbort, ← hw, strobe_of_commandable may]

theorem exec_captureRelease {n : Nat} (hw : w = s.atT t) (may : commandable w m .rng none) :
    exec (.captureRelease m i n t) s = .next (w.captureOp i 2 n).done := by
  change execCaptureRelease m i n t s = _
  rw [execCaptureRelease, ← hw, strobe_of_commandable may]

/-- Settles O32: the commit by `rowCommitted`, requests by `captureAccepted` and `zoneRefused`, hand-overs by `handRow_rng`, aborts and releases
by `captureOp`'s two branches. The lowest free descriptor is the model's choice (log entries 13 and 48). -/
theorem ringCommitsRowsAndCaptures : Obligations.RingCommitsRowsAndCaptures := by
  unfold Obligations.RingCommitsRowsAndCaptures
  intro t s w hw wf
  refine ⟨?commits, ?accepts, ?refuses, ?hands, ?completes, ?aborts, ?ignores, ?releases⟩
  case commits =>
    intro r rest oldest here format length rows free unused
    refine ⟨_, exec_rowCommit hw oldest ⟨here, format, length, rows, free, unused⟩, rowCommitted_rng, rfl, ?_⟩
    exact only_mapRng (only_dramWrite (only_mapRng only_refl (by decide)) (by decide)) (by decide)
  case accepts =>
    intro q r i oldest takes zone store free hi later
    have desc : (captureAccepted (requestTaken w r) q i).desc i = acceptedDesc (requestTaken w r) q := captureAccepted_desc hi
    have only : onlyParts [.rng, .regs] (requestTaken w r) (captureAccepted (requestTaken w r) q i) := only_captureAccepted
    have zon : (captureAccepted (requestTaken w r) q i).zon = (requestTaken w r).zon := only .zon (by decide)
    have rng := captureAccepted_rng (s := requestTaken w r) (q := q) (i := i)
    have count : (captureAccepted (requestTaken w r) q i).rd Reg.RNG_CAP_CNT = min ((requestTaken w r).rd Reg.RNG_CAP_CNT + 1) (2 ^ 32 - 1) :=
      captureAccepted_count wf
    refine ⟨_, exec_captureRequest_accepts hw oldest takes zone store free later, congrArg Zon.requests zon,
      congrArg Desc.num desc, congrArg Desc.state desc, congrArg Desc.first desc, congrArg Desc.last desc, congrArg Desc.trigAt desc,
      congrArg Desc.trow desc, congrArg Rng.nextNum rng, count, ?_⟩
    exact only_resolveRequest (onlyParts_trans (only_mapZon only_refl (by decide)) (onlyParts_mono only (by decide))) (by decide)
  case refuses =>
    intro q r oldest refuses zone
    have refused : ZoneRefused (w.refusal q) (requestTaken w r) (zoneRefused (requestTaken w r) q.tag (w.refusal q)) :=
      zoneRefused_of_small (s := requestTaken w r) wf (Nat.lt_of_le_of_lt (refusal_le w q) (by decide))
    refine ⟨_, exec_captureRequest_refuses hw oldest refuses zone, ?_, refused.only .rng (by decide), refused.code, refused.count,
      refused.zoneCount, onlyParts_trans (only_mapZon only_refl (by decide)) refused.only⟩
    rw [zoneRefused, event_zon, bump_zon]
    exact congrArg Zon.requests (countsIn_captureRefused.only .zon (by decide))
  case hands =>
    intro d hd stream known given packed more
    exact ⟨_, exec_rowHandover_row hw hd stream known given packed more, desc_handRow hd, only_handRow only_refl (by decide)⟩
  case completes =>
    intro d hd closed stream packed nobody
    exact ⟨_, exec_rowHandover_completion hw closed stream packed nobody, desc_mapDesc hd,
      only_freeDesc (only_mapKpe only_refl (by decide)) (by decide)⟩
  case aborts =>
    intro m d may hd waits _
    have aborted := abortDesc_aborted wf hd waits
    refine ⟨_, exec_captureAbort hw may, ?_⟩
    rw [captureOp_abort]
    exact ⟨aborted.state, aborted.result, aborted.num, aborted.count,
      only_done (onlyParts_mono aborted.only (by decide)) (by decide)⟩
  case ignores =>
    intro m d n rel may other
    cases rel with
    | false => rw [if_neg (by decide), exec_captureAbort hw may, captureOp_other other]
    | true => rw [if_pos rfl, exec_captureRelease hw may, captureOp_other other]
  case releases =>
    intro m d may closed
    rw [exec_captureRelease hw may, captureOp_release closed]
    rfl

end Sys2Proof.Proofs

end

section
/-! Commands on captures, the ring and the log (R454 to R457, R498): how a command in flight acts and ends, and what a read's DATA packets hold. -/

namespace Sys2Proof.Proofs

open Sys2Proof Sys2Proof.Machine Sys2Proof.Safety Sys2Proof.Laws

variable {s v w : State} {t : Instant} {n k tag i num base a z detail : Nat} {c d : InFlight} {st : Status} {result bytes : List Byte}

/-! ### Commands in flight (R447, R458) -/

theorem sess_mapSess (hn : n < s.kpe.sessions.length) (f : Session → Session) : (s.mapSess n f).sess n = f (s.sess n) := getD_modAt hn f _

theorem sess_of_kpe (h : v.kpe = s.kpe) (n : Nat) : v.sess n = s.sess n := by rw [State.sess, h, State.sess]

theorem cmd_of_kpe (h : v.kpe = s.kpe) (n tag : Nat) : v.cmd n tag = s.cmd n tag := by rw [State.cmd, sess_of_kpe h, State.cmd]

/-- A session with a command in flight is one of the sessions. -/
theorem lt_of_cmd (flies : s.cmd n tag = some c) : n < s.kpe.sessions.length := by
  by_contra beyond
  have free : s.sess n = {} := by
    rw [State.sess, List.getD_eq_default _ _ (Nat.not_lt.mp beyond)]
  simp [State.cmd, free] at flies

theorem tag_of_cmd (flies : s.cmd n tag = some c) : c.tag = tag := by simpa using List.find?_some flies

theorem cmd_mapCmd (flies : s.cmd n tag = some c) {f : InFlight → InFlight} (keeps : ∀ x, (f x).tag = x.tag) :
    (s.mapCmd n tag f).cmd n tag = some (f c) := by
  have same : ((fun x : InFlight => x.tag == tag) ∘ fun x => if x.tag = tag then f x else x) = fun x => x.tag == tag := by
    funext x
    by_cases h : x.tag = tag <;> simp [h, keeps]
  rw [State.cmd, State.mapCmd, sess_mapSess (lt_of_cmd flies), List.find?_map, same]
  change Option.map _ (s.cmd n tag) = _
  rw [flies, Option.map_some, if_pos (tag_of_cmd flies)]

/-- What leaves every session's commands alone leaves a command. -/
theorem cmd_mapSess {f : Session → Session} (keeps : ∀ x, (f x).inflight = x.inflight) : (s.mapSess k f).cmd n tag = s.cmd n tag := by
  have same : ((s.mapSess k f).sess n).inflight = (s.sess n).inflight := by
    simp only [State.sess, State.mapSess, mapKpe_kpe, modAt_eq_modify, List.getD_eq_getElem?_getD, List.getElem?_modify]
    cases s.kpe.sessions[n]? with
    | none => rfl
    | some x => by_cases h : k = n <;> simp [h, keeps]
  rw [State.cmd, same, State.cmd]

theorem cmd_notify {code : Nat} {items : List Nat} : (s.notify code items).cmd n tag = s.cmd n tag := by
  have one (u : State) (k : Nat) : (u.notifyOne k code items).cmd n tag = u.cmd n tag := cmd_mapSess fun x => by split <;> rfl
  unfold State.notify
  generalize s.usedSessions = ns
  induction ns generalizing s with
  | nil => rfl
  | cons k ns ih =>
    rw [List.foldl_cons, ih]
    split
    · exact one s k
    · rfl

theorem kpAct_of_mayAct (may : mayAct w n tag c) (f : InFlight → State → State) : w.kpAct n tag f = f c (begunAt w n tag) := by
  obtain ⟨flies, running, turn, here⟩ := may
  have going : c.running = true := by rw [InFlight.running, running]
  simp only [State.kpAct, flies, going, turn, here]
  rfl

theorem cmd_begunAt (may : mayAct w n tag c) : (begunAt w n tag).cmd n tag = some { c with begun := true } :=
  cmd_mapCmd (s := w) may.1 fun _ => rfl

theorem only_begunAt : onlyParts [.kpe] w (begunAt w n tag) := only_mapCmd (t := w) only_refl (by decide)

theorem sess_begunAt (may : mayAct w n tag c) : (begunAt w n tag).sess n =
    { w.sess n with inflight := (w.sess n).inflight.map (fun x => if x.tag = tag then { x with begun := true } else x) } :=
  sess_mapSess (s := w) (lt_of_cmd may.1) _

theorem ends_endCmd (flies : s.cmd n tag = some c) (running : c.outcome = .running) :
    ends (s.endCmd n tag st detail result) n tag st detail result := by
  rw [ends, State.endCmd, cmd_mapCmd flies fun x => by split <;> rfl, running]
  rfl

theorem begunAt_ends (may : mayAct w n tag c) :
    ends ((begunAt w n tag).endCmd n tag st detail result) n tag st detail result := ends_endCmd (cmd_begunAt may) may.2.1

theorem only_begunAt_endCmd : onlyParts [.kpe] w ((begunAt w n tag).endCmd n tag st detail result) := only_endCmd only_begunAt (by decide)

/-! ### Captures (R328, R454, R457) -/

/-- The request that CAP_ARM makes of RNG (R454). -/
def armRequest (s : State) (n tag tr a z pre post m : Nat) : CapRequest :=
  { tag := s.zon.nextTag, zone := 257
    trigAt := ((s.now : Int) + if tr = 0 then 0 else ((tr : Int) - s.devTime) * 1000).toNat
    cmd := some (n, tag), pre := pre, post := post, first := a, last := z, stream := m == 1, members := [] }

/-- The request has joined those that wait. -/
def captureAsked (s : State) (q : CapRequest) : State :=
  s.mapZon (fun x => { x with requests := x.requests ++ [q], nextTag := x.nextTag + 1 })

theorem armCapture_near {tr pre post m : Nat} (near : tr ≤ s.devTime + 10 ^ 10) :
    s.armCapture n tag tr a z pre post m = captureAsked s (armRequest s n tag tr a z pre post m) := if_neg (Nat.not_lt.mpr near)

theorem armCapture_far {tr pre post m : Nat} (far : s.devTime + 10 ^ 10 < tr) :
    s.armCapture n tag tr a z pre post m = s.endCmd n tag .badRequest 0 [] := if_pos far

theorem exec_capArm {tr pre post m : Nat} (hw : w = s.atT t) (may : mayAct w n tag c) (args : c.args = .capArm tr a z pre post m)
    (first : c.begun = false) : exec (.capArm n tag t) s = .next ((begunAt w n tag).armCapture n tag tr a z pre post m) := by
  change execCapArm n tag t s = _
  rw [execCapArm, ← hw, kpAct_of_mayAct may]
  simp only [args, first, Bool.false_eq_true, if_false]

/-- What CAP_ABORT does with capture `num` (R457). -/
def capAborted (s : State) (n tag num : Nat) : State :=
  match s.capture num with
  | none => s.endCmd n tag .notFound 0 []
  | some i =>
    if (s.desc i).state = .closed then s.endCmd n tag .alreadyClosed 0 []
    else (s.abortDesc i).endCmd n tag .complete 0 []

theorem exec_capAbort (hw : w = s.atT t) (may : mayAct w n tag c) (args : c.args = .capAbort num) :
    exec (.capAbort n tag t) s = .next (capAborted (begunAt w n tag) n tag num) := by
  change execCapAbort n tag t s = _
  rw [execCapAbort, ← hw, kpAct_of_mayAct may]
  simp only [args]
  rfl

theorem capAborted_unknown (unknown : s.capture num = none) : capAborted s n tag num = s.endCmd n tag .notFound 0 [] := by
  rw [capAborted, unknown]

theorem capAborted_closed (known : s.capture num = some i) (closed : (s.desc i).state = .closed) :
    capAborted s n tag num = s.endCmd n tag .alreadyClosed 0 [] := by
  simp only [capAborted, known, closed, if_true]

theorem capAborted_wait (known : s.capture num = some i) (waits : (s.desc i).state = .wait) :
    capAborted s n tag num = (s.abortDesc i).endCmd n tag .complete 0 [] := by
  simp only [capAborted, known, waits, reduceCtorEq, if_false]

theorem cmd_abortDesc_of_wait (waits : (s.desc i).state = .wait) : (s.abortDesc i).cmd n tag = s.cmd n tag := by
  obtain ⟨o, run⟩ := abortDesc_of_wait waits
  rw [run, State.closeDesc, cmd_notify]
  exact cmd_of_kpe (by rw [event_kpe]; exact bump_kpe _ _) n tag

/-- What CAP_RELEASE does with capture `num` (R457). -/
def capReleased (s : State) (n tag num : Nat) : State :=
  match s.capture num with
  | none => s.endCmd n tag .notFound 0 []
  | some i =>
    if (s.desc i).state = .closed then (s.releaseDesc i).endCmd n tag .complete 0 []
    else s.endCmd n tag .captureOpen 0 []

theorem exec_capRelease (hw : w = s.atT t) (may : mayAct w n tag c) (args : c.args = .capRelease num) :
    exec (.capRelease n tag t) s = .next (capReleased (begunAt w n tag) n tag num) := by
  change execCapRelease n tag t s = _
  rw [execCapRelease, ← hw, kpAct_of_mayAct may]
  simp only [args]
  rfl

theorem capReleased_unknown (unknown : s.capture num = none) : capReleased s n tag num = s.endCmd n tag .notFound 0 [] := by
  rw [capReleased, unknown]

/-- A CLOSED descriptor, freed; any other, as it is. -/
def freeClosed (d : Desc) : Desc := if d.state = .closed then { d with state := .free } else d

/-- A capture that is held is freed if it is CLOSED, and the command says which it was. -/
theorem capReleased_known (known : s.capture num = some i) : capReleased s n tag num =
    (s.mapDesc i freeClosed).endCmd n tag (if (s.desc i).state = .closed then .complete else .captureOpen) 0 [] := by
  by_cases closed : (s.desc i).state = .closed
  · have freed : modAt s.rng.desc i (fun d => { d with state := .free }) = modAt s.rng.desc i freeClosed :=
      modAt_congr (d := {}) (if_pos closed).symm
    simp only [capReleased, known, closed, if_true, State.releaseDesc, State.freeDesc, State.mapDesc, State.mapRng, freed]
  · have kept : modAt s.rng.desc i freeClosed = s.rng.desc := modAt_self (d := {}) (if_neg closed)
    simp only [capReleased, known, closed, if_false, State.mapDesc, State.mapRng, kept]

/-! ### DATA (R456, R458) -/

@[simp] theorem length_sampleBytes (xs : List (BitVec 16)) : (sampleBytes xs).length = 2 * xs.length := by
  induction xs with
  | nil => rfl
  | cons x xs ih =>
    rw [sampleBytes, List.flatMap_cons, List.length_append, ← sampleBytes, ih, List.length_cons, leBytes, List.length_map, List.length_range]
    omega

theorem cmd_formData {flags rows off : Nat} : (s.formData n tag flags rows off bytes).cmd k i = s.cmd k i := by
  unfold State.formData
  split
  · rfl
  · exact cmd_mapSess fun x => by split <;> rfl

/-- A packet of some bytes joins the end of an ACTIVE session's queue. -/
theorem waiting_formData {flags rows off : Nat} (hn : n < s.kpe.sessions.length) (active : (s.sess n).state = .active) (filled : bytes ≠ []) :
    ((s.formData n tag flags rows off bytes).sess n).waiting = (s.sess n).waiting ++ [.data tag flags rows off bytes bytes] := by
  rw [State.formData, if_neg (by simpa using filled), State.queueCtl, sess_mapSess hn, active]
  rfl

theorem waiting_mapCmd (flies : s.cmd n tag = some c) (f : InFlight → InFlight) : ((s.mapCmd n tag f).sess n).waiting = (s.sess n).waiting := by
  rw [State.mapCmd, sess_mapSess (lt_of_cmd flies)]

/-- The session's ring read of a tag is no longer in progress (R318). -/
def readDropped (s : State) (n tag : Nat) : State :=
  s.mapRng (fun r => { r with reads := r.reads.filter (fun y => !(y.1 == n && y.2.1 == tag)) })

/-- A read whose DATA packets have all been formed. -/
def allFormed (st : Status) (detail : Nat) (c : InFlight) : InFlight := { c with final := some (st, detail), ctx := none }

/-- A read without a context ends once its bytes are committed. -/
theorem finishRead_of_noCtx (flies : s.cmd n tag = some c) (plain : c.ctx = none) :
    s.finishRead n tag st detail = (readDropped s n tag).mapCmd n tag (allFormed st detail) := by
  have here : ((readDropped s n tag).cmd n tag).bind (fun c => c.ctx) = none := by
    change (s.cmd n tag).bind (fun c => c.ctx) = none
    rw [flies]
    exact plain
  change (match ((readDropped s n tag).cmd n tag).bind (fun c => c.ctx) with
    | some i => (readDropped s n tag).endCtx i
    | none => readDropped s n tag).mapCmd n tag (allFormed st detail) = _
  rw [here]

/-- From `s` to `v` a read has formed its last DATA packet `p`, and will end with this status and DETAIL. -/
structure FormedLast (n tag : Nat) (st : Status) (detail : Nat) (p : CtlPayload) (s v : State) : Prop where
  final : (v.cmd n tag).bind (fun x => x.final) = some (st, detail)
  packet : (v.sess n).waiting.getLast? = some p
  only : onlyParts [.kpe, .rng] s v

/-- A read's last DATA packet is formed, the command moved on by `f`, and the read finished. -/
def lastFormed (s : State) (n tag rows off : Nat) (bytes : List Byte) (f : InFlight → InFlight) (detail : Nat) : State :=
  ((s.formData n tag 0 rows off bytes).mapCmd n tag f).finishRead n tag .complete detail

theorem lastFormed_formedLast {rows off : Nat} {f : InFlight → InFlight} (flies : s.cmd n tag = some c) (active : (s.sess n).state = .active)
    (plain : c.ctx = none) (filled : bytes ≠ []) (tags : ∀ x, (f x).tag = x.tag) (ctxs : ∀ x, (f x).ctx = x.ctx) :
    FormedLast n tag .complete detail (.data tag 0 rows off bytes bytes) s (lastFormed s n tag rows off bytes f detail) := by
  have formed : (s.formData n tag 0 rows off bytes).cmd n tag = some c := cmd_formData.trans flies
  have moved := cmd_mapCmd formed tags
  have moved' : (readDropped ((s.formData n tag 0 rows off bytes).mapCmd n tag f) n tag).cmd n tag = some (f c) := moved
  rw [lastFormed, finishRead_of_noCtx moved ((ctxs c).trans plain)]
  exact {
    final := by rw [cmd_mapCmd moved' (f := allFormed .complete detail) fun _ => rfl]; rfl
    packet := by
      rw [waiting_mapCmd moved']
      change (((s.formData n tag 0 rows off bytes).mapCmd n tag f).sess n).waiting.getLast? = _
      rw [waiting_mapCmd formed, waiting_formData (lt_of_cmd flies) active filled, List.getLast?_concat]
    only := only_mapCmd (only_mapRng (only_mapCmd (only_formData only_refl (by decide)) (by decide)) (by decide)) (by decide) }

/-- A read that has no DATA packet on its way and is not finished makes its next step. -/
theorem readStep_of_going {f : State → State} (going : c.final = none) (sent : s.dataWaits n tag = false) : s.readStep n tag c f = f s := by
  simp [State.readStep, going, sent]

theorem dataWaits_begunAt (may : mayAct w n tag c) : (begunAt w n tag).dataWaits n tag = w.dataWaits n tag := by
  rw [State.dataWaits, sess_begunAt may]
  rfl

theorem dataRoom_begunAt (may : mayAct w n tag c) : (begunAt w n tag).dataRoom n = w.dataRoom n := by
  rw [State.dataRoom, sess_begunAt may]
  rfl

theorem state_begunAt (may : mayAct w n tag c) : ((begunAt w n tag).sess n).state = (w.sess n).state := by rw [sess_begunAt may]

/-! ### Row reads (R455, R456) -/

/-- Past offset `o` of a read. -/
def rowDone (o : Nat) (c : InFlight) : InFlight := { c with next := o + 1, part := 0 }

theorem rowSamples_ne_nil (s : State) (r : RingRow) (order : a ≤ z) : sampleBytes (s.rowSamples r a z) ≠ [] := by
  have filled : 0 < (sampleBytes (s.rowSamples r a z)).length := by
    rw [length_sampleBytes, State.rowSamples, List.length_map, List.length_range]
    omega
  exact List.ne_nil_of_length_pos filled

theorem formRows_one {r : RingRow} {o room : Nat} (fits : 2 * (z + 1 - a) ≤ room) : s.formRows n tag c [r] o base a z room =
    (s.formData n tag 0 1 ((o - base) * (2 * (z + 1 - a))) (sampleBytes (s.rowSamples r a z))).mapCmd n tag (rowDone o) := by
  simp only [State.formRows, fits, if_true, List.flatMap_cons, List.flatMap_nil, List.append_nil]
  rfl

/-- A read of one more row, which is there and clean, forms it whole and finishes. -/
theorem rowStep_last {r : RingRow} {of : Option Nat} {fate : State → Nat → RowFate} (flies : s.cmd n tag = some d) (stop : d.stop = c.stop)
    (plain : c.ctx = none) (one : c.stop = c.next + 1) (ready : fate s c.next = .ready r) (clean : s.badIn r a z = 0)
    (fits : 2 * (z + 1 - a) ≤ s.dataRoom n) :
    s.rowStep n tag c of base a z fate =
      lastFormed s n tag 1 ((c.next - base) * (2 * (z + 1 - a))) (sampleBytes (s.rowSamples r a z)) (rowDone c.next) 0 := by
  have length : c.stop - c.next = 1 := by omega
  have here : pastSkips (fate s) (c.stop - c.next) c.next = c.next := by simp [length, pastSkips, ready]
  have rows : readyRows (fate s) (min (c.stop - c.next) (max 1 (s.dataRoom n / (2 * (z + 1 - a))))) c.next = [r] := by
    rw [length, Nat.min_eq_left (Nat.le_max_left _ _)]
    simp [readyRows, ready]
  have read : s.readLines of (c.next + 0) r a z = s := by simp [State.readLines, clean]
  have moved : ((s.formData n tag 0 1 ((c.next - base) * (2 * (z + 1 - a))) (sampleBytes (s.rowSamples r a z))).mapCmd n tag
      (rowDone c.next)).cmd n tag = some (rowDone c.next d) := cmd_mapCmd (cmd_formData.trans flies) fun _ => rfl
  have done : (rowDone c.next d).stop - (rowDone c.next d).next = 0 := by
    simp only [rowDone, stop, one, Nat.sub_self]
  unfold State.rowStep
  simp only [here, rows, ready, plain, List.zipIdx_cons, List.zipIdx_nil, List.foldl_cons, List.foldl_nil, read, formRows_one fits, moved, done,
    pastSkips]
  rw [if_neg (by omega), if_pos (by simp only [rowDone]; omega)]
  rfl

/-- A row read that asks for no compression takes no context. -/
theorem readCtx_plain {width : Nat} : s.readCtx n tag 0xFF width = s := if_pos (by simp)

/-- What CAP_READ does (R455). -/
def capReadStep (s : State) (n tag : Nat) (c : InFlight) (num base a z : Nat) : State :=
  s.readStep n tag c (fun s => s.rowStep n tag c (some num) base a z (fun s o => s.capFate num c.mark o))

theorem exec_capRead_begins {pred : Nat} (hw : w = s.atT t) (may : mayAct w n tag c) (args : c.args = .capRead num base k a z pred)
    (first : c.begun = false) : exec (.capRead n tag t) s = .next ((begunAt w n tag).capReadBegin n tag num base k a z pred) := by
  change execCapRead n tag t s = _
  rw [execCapRead, ← hw, kpAct_of_mayAct may]
  simp only [args, first, Bool.false_eq_true, if_false]

theorem exec_capRead_steps {pred : Nat} (hw : w = s.atT t) (may : mayAct w n tag c) (args : c.args = .capRead num base k a z pred)
    (more : c.begun = true) : exec (.capRead n tag t) s = .next (capReadStep (begunAt w n tag) n tag c num base a z) := by
  change execCapRead n tag t s = _
  rw [execCapRead, ← hw, kpAct_of_mayAct may]
  simp only [args, more, if_true]
  rfl

theorem capReadBegin_unknown {pred : Nat} (unknown : s.capture num = none) :
    s.capReadBegin n tag num base k a z pred = s.endCmd n tag .notFound 0 [] := by
  rw [State.capReadBegin, unknown]

theorem capReadBegin_bad {pred : Nat} (known : s.capture num = some i)
    (bad : (s.desc i).stream = true ∨ a < (s.desc i).first ∨ (s.desc i).last < z) :
    s.capReadBegin n tag num base k a z pred = s.endCmd n tag .badRequest 0 [] := by
  simp only [State.capReadBegin, known]
  exact if_pos (by rcases bad with h | h | h <;> simp [h])

/-- A read that starts at `first`, with this bound: the offset past its last row, or the records of a LOG_READ. -/
def rowsFrom (first stop : Nat) (c : InFlight) : InFlight := { c with next := first, stop := stop }

/-- Of a capture, with the oldest row retained at acceptance. -/
def captureRows (first stop mark : Nat) (c : InFlight) : InFlight := { c with next := first, stop := stop, mark := mark }

/-- An accepted CAP_READ goes from `base` to the rows' end, at most `k` of them. -/
theorem capReadBegin_plain (known : s.capture num = some i) (store : (s.desc i).stream = false) (low : (s.desc i).first ≤ a)
    (high : z ≤ (s.desc i).last) :
    s.capReadBegin n tag num base k a z 0xFF = s.mapCmd n tag (captureRows base
      (if k = 0 then (s.desc i).pre + (s.desc i).post else min ((s.desc i).pre + (s.desc i).post) (base + k)) s.rng.oldestRow) := by
  simp only [State.capReadBegin, known, readCtx_plain]
  exact if_neg (by simp [store, low, high])

/-- What RING_READ does (R318, R455). -/
def ringReadStep (s : State) (n tag : Nat) (c : InFlight) (row a z : Nat) : State :=
  s.readStep n tag c (fun s => (s.rowStep n tag c none 0 a z (fun s o => s.ringFate row o)).noteRead n tag row)

theorem exec_ringRead_begins {row pred : Nat} (hw : w = s.atT t) (may : mayAct w n tag c) (args : c.args = .ringRead row k a z pred)
    (first : c.begun = false) : exec (.ringRead n tag t) s = .next ((begunAt w n tag).ringReadBegin n tag row k a z pred) := by
  change execRingRead n tag t s = _
  rw [execRingRead, ← hw, kpAct_of_mayAct may]
  simp only [args, first, Bool.false_eq_true, if_false]

theorem exec_ringRead_steps {row pred : Nat} (hw : w = s.atT t) (may : mayAct w n tag c) (args : c.args = .ringRead row k a z pred)
    (more : c.begun = true) : exec (.ringRead n tag t) s = .next (ringReadStep (begunAt w n tag) n tag c row a z) := by
  change execRingRead n tag t s = _
  rw [execRingRead, ← hw, kpAct_of_mayAct may]
  simp only [args, more, if_true]
  rfl

theorem ringReadBegin_bad {row pred : Nat} (bad : a < s.rd Reg.PHS_RANGE_CAPO ∨ s.rd Reg.PHS_RANGE_END < z) :
    s.ringReadBegin n tag row k a z pred = s.endCmd n tag .badRequest 0 [] := if_pos (by simpa using bad)

theorem ringFate_ready {row o : Nat} {r : RingRow} (held : s.ringRow (row + o) = some r) : s.ringFate row o = .ready r := by
  rw [State.ringFate, held]

theorem ringFate_lost {row o : Nat} (gone : s.ringRow (row + o) = none) (old : row + o < s.rng.wrow) : s.ringFate row o = .lost := by
  rw [State.ringFate, gone]
  exact if_neg (Nat.not_le.mpr old)

theorem ringReadBegin_lost {row pred : Nat} (low : s.rd Reg.PHS_RANGE_CAPO ≤ a) (high : z ≤ s.rd Reg.PHS_RANGE_END)
    (lost : s.ringFate row 0 = .lost) : s.ringReadBegin n tag row k a z pred = s.endCmd n tag .dataOverwritten 0 [] := by
  rw [State.ringReadBegin, if_neg (by simp [low, high]), if_pos lost]

/-- A RING_READ of `k` rows has been accepted, and notes the first row that it needs (R318). -/
def ringReadBegun (s : State) (n tag row k : Nat) : State :=
  (s.mapCmd n tag (rowsFrom 0 k)).mapRng (fun r => { r with
    reads := r.reads.filter (fun y => !(y.1 == n && y.2.1 == tag)) ++ [(n, tag, row)] })

theorem ringReadBegin_plain {row : Nat} {r : RingRow} (flies : s.cmd n tag = some c) (going : c.final = none)
    (low : s.rd Reg.PHS_RANGE_CAPO ≤ a) (high : z ≤ s.rd Reg.PHS_RANGE_END) (ready : s.ringFate row 0 = .ready r) :
    s.ringReadBegin n tag row k a z 0xFF = ringReadBegun s n tag row k := by
  have started : (s.mapCmd n tag (rowsFrom 0 k)).cmd n tag = some (rowsFrom 0 k c) := cmd_mapCmd flies fun _ => rfl
  have going' : (rowsFrom 0 k c).final = none := going
  rw [State.ringReadBegin, if_neg (by simp [low, high]), if_neg (by simp [ready]), readCtx_plain]
  change (s.mapCmd n tag (rowsFrom 0 k)).noteRead n tag row = _
  simp only [State.noteRead, started, going', Option.isSome_none, Bool.false_eq_true, if_false]
  rfl

theorem noteRead_of_final {row : Nat} {x : Status × Nat} (final : (s.cmd n tag).bind (fun x => x.final) = some x) : s.noteRead n tag row = s := by
  obtain ⟨c, flies, ended⟩ := Option.bind_eq_some_iff.mp final
  simp [State.noteRead, flies, ended]

/-! ### LOG_READ (R498) -/

/-- What LOG_READ does (R455, R498). -/
def logReadStep (s : State) (n tag : Nat) (c : InFlight) : State := s.readStep n tag c (fun s => s.logStep n tag c)

theorem exec_logRead_begins (hw : w = s.atT t) (may : mayAct w n tag c) (args : c.args = .logRead base k) (first : c.begun = false) :
    exec (.logRead n tag t) s = .next ((begunAt w n tag).mapCmd n tag (rowsFrom base k)) := by
  change execLogRead n tag t s = _
  rw [execLogRead, ← hw, kpAct_of_mayAct may]
  simp only [args, first, Bool.false_eq_true, if_false]
  rfl

theorem exec_logRead_steps (hw : w = s.atT t) (may : mayAct w n tag c) (args : c.args = .logRead base k) (more : c.begun = true) :
    exec (.logRead n tag t) s = .next (logReadStep (begunAt w n tag) n tag c) := by
  change execLogRead n tag t s = _
  rw [execLogRead, ← hw, kpAct_of_mayAct may]
  simp only [args, more, if_true]
  rfl

/-- The records held from a sequence number on, at most `m`. -/
def recordsFrom (s : State) (first m : Nat) : List EvRec := (s.evr.held.filter (fun r => decide (first ≤ r.seq))).take m

/-- Past `m` records, the last with sequence number `q`. -/
def recordsDone (q m detail : Nat) (c : InFlight) : InFlight :=
  { c with next := q + 1, stop := c.stop - m, part := detail, mark := c.mark + m }

/-- The DETAIL of a LOG_READ: records before the first one delivered were erased. -/
def goneDetail (first : Nat) (recs : List EvRec) : Nat := if recs.head?.any (fun r => decide (max 1 first < r.seq)) then 1 else 0

/-- All the records asked for are held and fit one packet. -/
theorem logStep_last {recs : List EvRec} (fresh : c.mark = 0) (noDetail : c.part = 0) (hr : recs = recordsFrom s c.next c.stop) (filled : recs ≠ [])
    (fits : c.stop ≤ s.dataRoom n / 32) (all : recs.length = c.stop) :
    ∃ q, s.logStep n tag c = lastFormed s n tag recs.length 0 (recs.flatMap EvRec.bytes) (recordsDone q recs.length (goneDetail c.next recs))
      (goneDetail c.next recs) := by
  obtain ⟨r, last⟩ : ∃ r, recs.getLast? = some r := ⟨_, List.getLast?_eq_some_getLast filled⟩
  unfold State.logStep
  extract_lets taken gone told
  have whole : taken = recs := by
    simp only [taken, Nat.min_eq_left fits, hr]
    rfl
  have erased : told = goneDetail c.next recs := by
    simp only [told, gone, whole]
    cases recs <;> simp [goneDetail, fresh, noDetail]
  clear_value told gone taken
  simp only [whole, erased, last, fresh, Nat.mul_zero]
  exact ⟨r.seq, if_pos (by simp [all])⟩

theorem records_ne_nil {recs : List EvRec} (filled : recs ≠ []) : recs.flatMap EvRec.bytes ≠ [] := by
  obtain ⟨r, rs, rfl⟩ := List.exists_cons_of_ne_nil filled
  simp [EvRec.bytes, leBytes]

/-! ### The reads' last packets (R456, R498) -/

/-- The DATA packet of one row's samples. -/
def rowPacket (w : State) (tag : Nat) (r : RingRow) (a z : Nat) : CtlPayload :=
  .data tag 0 1 0 (sampleBytes (w.rowSamples r a z)) (sampleBytes (w.rowSamples r a z))

/-- A command's own packet formed after it has begun. -/
theorem FormedLast.ofBegun {p : CtlPayload} (h : FormedLast n tag st detail p (begunAt w n tag) v) : FormedLast n tag st detail p w v :=
  ⟨h.final, h.packet, onlyParts_trans (onlyParts_mono only_begunAt (by decide)) h.only⟩

/-- A row that is there and clean, with one row left to read, is the read's last packet. -/
theorem rowFormed_formedLast {r : RingRow} (may : mayAct w n tag c) (active : (w.sess n).state = .active) (plain : c.ctx = none) (order : a ≤ z) :
    FormedLast n tag .complete 0 (rowPacket w tag r a z) w
      (lastFormed (begunAt w n tag) n tag 1 0 (sampleBytes ((begunAt w n tag).rowSamples r a z)) (rowDone c.next) 0) :=
  FormedLast.ofBegun (lastFormed_formedLast (cmd_begunAt may) ((state_begunAt may).trans active) plain (rowSamples_ne_nil w r order)
    (fun _ => rfl) fun _ => rfl)

/-- The next row of a read is its last, is there and clean, and fits a packet. -/
structure LastRow (w : State) (n tag : Nat) (c : InFlight) (r : RingRow) (a z : Nat) : Prop where
  plain : c.ctx = none
  going : c.final = none
  sent : w.dataWaits n tag = false
  one : c.stop = c.next + 1
  clean : w.badIn r a z = 0
  order : a ≤ z
  fits : 2 * (z + 1 - a) ≤ w.dataRoom n

theorem rowStep_lastRow {r : RingRow} {of : Option Nat} {fate : State → Nat → RowFate} (may : mayAct w n tag c) (last : LastRow w n tag c r a z)
    (start : c.next = base) (ready : fate (begunAt w n tag) c.next = .ready r) : (begunAt w n tag).rowStep n tag c of base a z fate =
      lastFormed (begunAt w n tag) n tag 1 0 (sampleBytes ((begunAt w n tag).rowSamples r a z)) (rowDone c.next) 0 := by
  rw [rowStep_last (cmd_begunAt may) (c := c) rfl last.plain last.one ready last.clean (by rw [dataRoom_begunAt may]; exact last.fits), start,
    Nat.sub_self, Nat.zero_mul]

theorem capReadStep_last {r : RingRow} (may : mayAct w n tag c) (active : (w.sess n).state = .active) (last : LastRow w n tag c r a z)
    (start : c.next = base) (ready : w.capFate num c.mark c.next = .ready r) :
    FormedLast n tag .complete 0 (rowPacket w tag r a z) w (capReadStep (begunAt w n tag) n tag c num base a z) := by
  rw [capReadStep, readStep_of_going last.going (by rw [dataWaits_begunAt may, last.sent]), rowStep_lastRow may last start ready]
  exact rowFormed_formedLast may active last.plain last.order

theorem ringReadStep_last {row : Nat} {r : RingRow} (may : mayAct w n tag c) (active : (w.sess n).state = .active) (last : LastRow w n tag c r a z)
    (start : c.next = 0) (held : w.ringRow row = some r) :
    FormedLast n tag .complete 0 (rowPacket w tag r a z) w (ringReadStep (begunAt w n tag) n tag c row a z) := by
  have formed : FormedLast n tag .complete 0 (rowPacket w tag r a z) w _ := rowFormed_formedLast may active last.plain last.order
  have ready : (begunAt w n tag).ringFate row c.next = .ready r := by rw [start]; exact ringFate_ready held
  rw [ringReadStep, readStep_of_going last.going (by rw [dataWaits_begunAt may, last.sent]), rowStep_lastRow may last start ready,
    noteRead_of_final formed.final]
  exact formed

theorem logReadStep_last {recs : List EvRec} (may : mayAct w n tag c) (active : (w.sess n).state = .active) (plain : c.ctx = none)
    (going : c.final = none) (sent : w.dataWaits n tag = false) (fresh : c.mark = 0) (noDetail : c.part = 0)
    (hr : recs = recordsFrom w c.next c.stop) (filled : recs ≠ []) (fits : c.stop ≤ w.dataRoom n / 32) (all : recs.length = c.stop) :
    FormedLast n tag .complete (goneDetail c.next recs) (.data tag 0 recs.length 0 (recs.flatMap EvRec.bytes) (recs.flatMap EvRec.bytes)) w
      (logReadStep (begunAt w n tag) n tag c) := by
  obtain ⟨q, step⟩ := logStep_last (s := begunAt w n tag) (n := n) (tag := tag) fresh noDetail hr filled (by rwa [dataRoom_begunAt may]) all
  rw [logReadStep, readStep_of_going going (by rw [dataWaits_begunAt may, sent]), step]
  exact FormedLast.ofBegun (lastFormed_formedLast (cmd_begunAt may) ((state_begunAt may).trans active) plain (records_ne_nil filled)
    (fun _ => rfl) fun _ => rfl)

/-- Settles O47: each command by what it does with what it finds (`armCapture_near`, `capAborted`, `capReleased`, `capReadBegin_plain`,
`ringReadBegin_plain`), and a read's last packet by `FormedLast`. CAP_READ's window is the capture's (log entry 13), and ROWS counts records in
LOG_READ's DATA (log entry 39). -/
theorem captureAndLogCommandsAct : Obligations.CaptureAndLogCommandsAct := by
  unfold Obligations.CaptureAndLogCommandsAct
  intro t s w n tag c hw may active wf
  have begun := cmd_begunAt may
  have running : c.outcome = .running := may.2.1
  have endedWith {st : Status} : ends ((begunAt w n tag).endCmd n tag st 0 []) n tag st 0 [] ∧
      onlyParts [.kpe] w ((begunAt w n tag).endCmd n tag st 0 []) := ⟨begunAt_ends may, only_begunAt_endCmd⟩
  refine ⟨?arms, ?armsFar, ?abortsUnknown, ?abortsClosed, ?abortsOpen, ?releasesUnknown, ?releases, ?readsUnknown, ?readsBad, ?reads, ?readsRow,
    ?ringBad, ?ringLost, ?ringReads, ?ringRow, ?logReads, ?logRecords⟩
  case arms =>
    intro tr a z pre post m args first near
    refine ⟨_, (exec_capArm hw may args first).trans (congrArg _ (armCapture_near near)), rfl, List.dropLast_concat, ?_, ?_, ?_,
      only_mapZon (onlyParts_mono only_begunAt (by decide)) (by decide)⟩
    · exact congrArg _ List.getLast?_concat
    · intro now
      subst now
      exact congrArg _ List.getLast?_concat
    · exact (congrArg _ begun).trans (by simp [running])
  case armsFar =>
    intro tr a z pre post m args first far
    exact ⟨_, (exec_capArm hw may args first).trans (congrArg _ (armCapture_far far)), endedWith⟩
  case abortsUnknown =>
    intro num args unknown
    exact ⟨_, (exec_capAbort hw may args).trans (congrArg _ (capAborted_unknown unknown)), endedWith⟩
  case abortsClosed =>
    intro num i args known closed
    exact ⟨_, (exec_capAbort hw may args).trans (congrArg _ (capAborted_closed known closed)), endedWith⟩
  case abortsOpen =>
    intro num i args known waits hi
    have aborted : Aborted i (begunAt w n tag) ((begunAt w n tag).abortDesc i) := abortDesc_aborted wf hi waits
    exact ⟨_, (exec_capAbort hw may args).trans (congrArg _ (capAborted_wait known waits)),
      ends_endCmd ((cmd_abortDesc_of_wait (s := begunAt w n tag) waits).trans begun) running, aborted.state, aborted.result, aborted.others,
      aborted.count, only_endCmd (onlyParts_trans (onlyParts_mono only_begunAt (by decide)) (onlyParts_mono aborted.only (by decide))) (by decide)⟩
  case releasesUnknown =>
    intro num args unknown
    exact ⟨_, (exec_capRelease hw may args).trans (congrArg _ (capReleased_unknown unknown)), endedWith⟩
  case releases =>
    intro num i args known
    exact ⟨_, (exec_capRelease hw may args).trans (congrArg _ (capReleased_known known)), ends_endCmd (s := State.mapDesc _ _ _) begun running, rfl,
      only_endCmd (only_mapDesc (onlyParts_mono only_begunAt (by decide)) (by decide)) (by decide)⟩
  case readsUnknown =>
    intro num base k a z pred args first unknown
    exact ⟨_, (exec_capRead_begins hw may args first).trans (congrArg _ (capReadBegin_unknown unknown)), endedWith⟩
  case readsBad =>
    intro num base k a z pred i args first known bad
    exact ⟨_, (exec_capRead_begins hw may args first).trans (congrArg _ (capReadBegin_bad known bad)), endedWith⟩
  case reads =>
    intro num base k a z i args first known store low high
    refine ⟨_, (exec_capRead_begins hw may args first).trans (congrArg _ (capReadBegin_plain known store low high)),
      only_mapCmd only_begunAt (by decide), ?_⟩
    rw [cmd_mapCmd begun (f := captureRows _ _ _) fun _ => rfl, Option.map_some]
    simp only [captureRows, running]
    rfl
  case readsRow =>
    intro num base k a z i r args more plain going sent start stop _ ready clean order fits
    have formed := capReadStep_last may active ⟨plain, going, sent, by rw [stop, start], clean, order, fits⟩ start (by rwa [start])
    exact ⟨_, exec_capRead_steps hw may args more, formed.final, formed.only, formed.packet⟩
  case ringBad =>
    intro row k a z pred args first bad
    exact ⟨_, (exec_ringRead_begins hw may args first).trans (congrArg _ (ringReadBegin_bad bad)), endedWith⟩
  case ringLost =>
    intro row k a z pred args first low high gone old
    exact ⟨_, (exec_ringRead_begins hw may args first).trans (congrArg _ (ringReadBegin_lost low high (ringFate_lost gone old))), endedWith⟩
  case ringReads =>
    intro row k a z r args first going low high held
    have started : (ringReadBegun (begunAt w n tag) n tag row k).cmd n tag = some (rowsFrom 0 k { c with begun := true }) :=
      cmd_mapCmd begun fun _ => rfl
    refine ⟨_, (exec_ringRead_begins hw may args first).trans (congrArg _ (ringReadBegin_plain begun going low high (ringFate_ready held))), ?_,
      List.getLast?_concat, only_mapRng (onlyParts_mono (only_mapCmd only_begunAt (by decide)) (by decide)) (by decide)⟩
    rw [started, Option.map_some]
    simp only [rowsFrom, running]
  case ringRow =>
    intro row a z r args more plain going sent start stop held clean order fits
    have formed := ringReadStep_last may active ⟨plain, going, sent, by rw [stop, start], clean, order, fits⟩ start held
    exact ⟨_, exec_ringRead_steps hw may args more, formed.final, formed.only, formed.packet⟩
  case logReads =>
    intro base k args first
    exact ⟨_, exec_logRead_begins hw may args first, congrArg _ (cmd_mapCmd (f := rowsFrom base k) begun fun _ => rfl),
      only_mapCmd only_begunAt (by decide)⟩
  case logRecords =>
    intro base k recs args more going plain sent fresh noDetail hr filled fits all
    have formed := logReadStep_last may active plain going sent fresh noDetail hr filled fits all
    exact ⟨_, exec_logRead_steps hw may args more, formed.only, formed.final, formed.packet⟩

end Sys2Proof.Proofs

end

section
/-! The step of the queue (log entry 2), and what no command undoes: fuses, time and the queue's order (R482, R504). -/

namespace Sys2Proof.Proofs

open Sys2Proof Sys2Proof.Machine Sys2Proof.Safety Sys2Proof.Laws

variable {s v : State}

/-- Settles O1: `step` is `exec` of the front command with the rest of the queue, which is what stands before the front was put there. -/
theorem stepRunsFrontCommand : Obligations.StepRunsFrontCommand := by
  unfold Obligations.StepRunsFrontCommand
  refine fun c s => ⟨rfl, fun idle => ?_⟩
  unfold step
  rw [idle]

/-- The supply of the always-on part comes or goes, and uptime starts at 0 again (R482). -/
def cyclesPower : Instr → Bool
  | .powerOn .. | .powerDown .. => true
  | _ => false

/-- Every command but a power cycle keeps what `Kept` names: those that move no mode by `keeps_exec`, the others by their row's lemma. -/
theorem kept_exec (c : Instr) (h : cyclesPower c = false) : Keeps false s (exec c s) := by
  cases hc : movesModes c with
  | false => exact keeps_exec c hc
  | true =>
    unfold exec
    cases c with
    | registerWrite => exact kept_execRegisterWrite .refl
    | setWrite => exact kept_execSetWrite .refl
    | clearWrite => exact kept_execClearWrite .refl
    | toggleWrite => exact kept_execToggleWrite .refl
    | statusClearWrite => exact kept_execStatusClearWrite .refl
    | lowWordWrite => exact kept_execLowWordWrite .refl
    | highWordWrite => exact kept_execHighWordWrite .refl
    | stageWrite => exact kept_execStageWrite .refl
    | safeClear => exact kept_execSafeClear .refl
    | safeTimeout => exact kept_execSafeTimeout .refl
    | watchdogExpiry => exact kept_execWatchdogExpiry .refl
    | modeRequest => exact kept_execModeRequest .refl
    | regWrite => exact kept_execRegWrite .refl
    | memWrite => exact kept_execMemWrite .refl
    | kpMode => exact kept_execKpMode .refl
    | updateReset => exact kept_execUpdateReset .refl
    | pinReset => exact kept_execPinReset .refl
    | jtagReset => exact kept_execJtagReset .refl
    | railReset => exact kept_execRailReset .refl
    | clockReset => exact kept_execClockReset .refl
    | resetRelease => exact kept_execResetRelease .refl
    | bootComplete => exact kept_execBootComplete .refl
    | prepSteps => exact kept_execPrepSteps .refl
    | bootTuning => exact kept_execBootTuning .refl
    | autoService => exact kept_execAutoService .refl
    | autoLight => exact kept_execAutoLight .refl
    | autoStart => exact kept_execAutoStart .refl
    | powerOn | powerDown => exact nomatch h
    | _ => exact nomatch hc

/-- A command leaves the queue and the fuses that are blown, whatever uptime starts from; uptime itself runs on but at a power cycle. -/
theorem exec_kept {c : Instr} (e : exec c s = .next v) :
    (∃ n, Kept false { s with now := n } v) ∧ (s.now ≤ v.now ∨ ∃ t, c = .powerOn t ∨ ∃ o, c = .powerDown o t) := by
  cases hc : cyclesPower c with
  | false =>
    have kept := (kept_exec c hc).next v e
    exact ⟨⟨s.now, kept⟩, .inl kept.now⟩
  | true =>
    cases c with
    | powerOn t => exact ⟨⟨0, (kept_execPowerOn (n := t)).next v e⟩, .inr ⟨t, .inl rfl⟩⟩
    | powerDown o t => exact ⟨⟨0, (kept_execPowerDown (n := t)).next v e⟩, .inr ⟨t, .inr ⟨o, rfl⟩⟩⟩
    | _ => exact nomatch hc

/-- Settles O59: `exec_kept` of the command at the front, with the queue behind it. -/
theorem fusesTimeAndQueueMoveOneWay : Obligations.FusesTimeAndQueueMoveOneWay := by
  unfold Obligations.FusesTimeAndQueueMoveOneWay
  intro s v e
  unfold step at e
  split at e
  next empty =>
    cases e
    exact ⟨by rw [empty]; rfl, rfl, fun _ _ => id, .inl (Nat.le_refl _)⟩
  next c rest front =>
    obtain ⟨⟨n, kept⟩, time⟩ := exec_kept e
    rw [front]
    refine ⟨kept.pending, kept.otpLen, kept.otp, time.imp id ?_⟩
    rintro ⟨t, rfl | ⟨o, rfl⟩⟩
    · exact ⟨t, .inl rfl⟩
    · exact ⟨t, .inr ⟨o, rfl⟩⟩

end Sys2Proof.Proofs
end

section
/-! Segments of the Peer Link (R413, R415): what a sender packs into a payload is what a receiver reads from it. -/

namespace Sys2Proof.Proofs

open Sys2Proof Sys2Proof.Machine Sys2Proof.Safety Sys2Proof.Laws

/-- A segment that the sender forms: 1 to 238 bytes on CH 0. -/
structure IsSegment (g : List Byte × Bool × Bool × Nat) : Prop where
  some : 0 < g.1.length
  fits : g.1.length ≤ 238
  channel : g.2.2.2 = 0

/-! ### Reading a run of segments -/

theorem readSegs_zeros (m z : Nat) : readSegs m (List.replicate z 0) = some [] := by
  match m, z with
  | 0, z => simp [readSegs]
  | m + 1, 0 => simp [readSegs]
  | m + 1, 1 => simp [readSegs]
  | m + 1, z + 2 => simp [readSegs, List.replicate_succ]

/-- A header of LEN, SOP and EOP, and what a receiver takes from its two bytes (R415). -/
theorem header_fields (len : Nat) (sop eop : Bool) (fits : len ≤ 238) :
    let h := len + (if sop then 2048 else 0) + (if eop then 4096 else 0)
    h < 8192 ∧ h % 2048 = len ∧ h.testBit 11 = sop ∧ h.testBit 12 = eop := by
  have bit (h k : Nat) : h.testBit k = decide (h / 2 ^ k % 2 = 1) := Nat.testBit_eq_decide_div_mod_eq
  simp only [bit]
  cases sop <;> cases eop <;> simp <;> omega

theorem leBytes_two (h : Nat) : leBytes 2 h = [BitVec.ofNat 8 h, BitVec.ofNat 8 (h / 256)] := by
  simp [leBytes, List.range_succ]

theorem readSegs_segWire {gs : List (List Byte × Bool × Bool × Nat)} {m : Nat} (z : Nat) (form : ∀ g ∈ gs, IsSegment g) (enough : gs.length ≤ m) :
    readSegs m (segWire gs ++ List.replicate z 0) = some gs := by
  induction gs generalizing m with
  | nil => exact readSegs_zeros m z
  | cons g gs ih =>
    obtain ⟨bs, sop, eop, ch⟩ := g
    obtain ⟨some_, fits, channel⟩ := form _ List.mem_cons_self
    obtain ⟨m, rfl⟩ : ∃ k, m = k + 1 := ⟨m - 1, by simp at enough; omega⟩
    have rest := ih (m := m) (fun g hg => form g (List.mem_cons_of_mem _ hg)) (by simpa using enough)
    simp only at some_ fits channel
    subst channel
    have field := header_fields bs.length sop eop fits
    simp only at field
    have wire : segWire ((bs, sop, eop, 0) :: gs) ++ List.replicate z 0
        = leBytes 2 (bs.length + (if sop then 2048 else 0) + (if eop then 4096 else 0)) ++ (bs ++ (segWire gs ++ List.replicate z 0)) := by
      simp [segWire]
    rw [wire]
    generalize bs.length + (if sop then 2048 else 0) + (if eop then 4096 else 0) = h at field
    obtain ⟨small, len, bit11, bit12⟩ := field
    have low : (BitVec.ofNat 8 h).toNat + 256 * (BitVec.ofNat 8 (h / 256)).toNat = h := by
      simp only [BitVec.toNat_ofNat]
      omega
    have noChannel : h / 8192 = 0 := Nat.div_eq_of_lt small
    have used : ¬ h = 0 := by rintro rfl; simp at len; omega
    simp only [leBytes_two, List.cons_append, List.nil_append, readSegs, low, len, if_neg used, List.length_append]
    rw [if_neg (by simp [List.ne_nil_of_length_pos some_, fits]), List.drop_left, List.take_left, rest, bit11, bit12, noChannel]
    rfl

/-! ### Packing the waiting packets -/

/-- What a run of segments for `room` bytes is, formed from the waiting packets `q` in at most `n` segments, with `left` still to send. -/
structure Packs (n room : Nat) (q : List (List Byte)) (segs : List (List Byte × Bool × Bool × Nat)) (left : List (List Byte)) : Prop where
  form : ∀ g ∈ segs, IsSegment g
  count : segs.length ≤ n
  fits : (segWire segs).length ≤ room
  bytes : segs.flatMap (fun g => g.1) ++ left.flatten = q.flatten
  left : ∀ p ∈ left, p ≠ []

theorem Packs.none {n room : Nat} {q : List (List Byte)} (some : ∀ p ∈ q, p ≠ []) : Packs n room q [] q :=
  ⟨by simp, by simp, by simp [segWire], by simp, some⟩

theorem packSegs_packs (n room : Nat) (q : List (List Byte)) (begun : Bool) (some : ∀ p ∈ q, p ≠ []) :
    Packs n room q (packSegs n room q begun).1 (packSegs n room q begun).2.1 := by
  induction n generalizing room q begun with
  | zero => cases q <;> exact .none some
  | succ n ih =>
    cases q with
    | nil => exact .none some
    | cons p r =>
      unfold packSegs
      by_cases full : room < 3
      · rw [if_pos full]
        exact .none some
      rw [if_neg full]
      extract_lets k whole x
      have hp : 0 < p.length := List.length_pos_iff.mpr (some p List.mem_cons_self)
      have hk : 0 < k ∧ k ≤ 238 ∧ k ≤ room - 2 ∧ k ≤ p.length := by omega
      have taken : (p.take k).length = k := by simp; omega
      have rest : Packs n (room - 2 - k) (if whole then r else p.drop k :: r) x.1 x.2.1 := by
        refine ih _ _ _ ?_
        split
        · exact fun y hy => some y (List.mem_cons_of_mem _ hy)
        next more =>
          have : k ≠ p.length := by simpa [whole] using more
          refine List.forall_mem_cons.mpr ⟨List.ne_nil_of_length_pos ?_, fun y hy => some y (List.mem_cons_of_mem _ hy)⟩
          rw [List.length_drop]
          omega
      have goesOn : p.take k ++ (if whole then r else p.drop k :: r).flatten = (p :: r).flatten := by
        split
        next ends =>
          have all : p.take k = p := List.take_of_length_le (by simp [whole] at ends; omega)
          rw [all, List.flatten_cons]
        · rw [List.flatten_cons, List.flatten_cons, ← List.append_assoc, List.take_append_drop]
      exact
        { form := List.forall_mem_cons.mpr ⟨⟨by rw [taken]; omega, by rw [taken]; omega, rfl⟩, rest.form⟩
          count := by simpa using rest.count
          fits := by
            have := rest.fits
            simp only [segWire, List.flatMap_cons, List.length_append, taken, leBytes_two, List.length_cons, List.length_nil] at this ⊢
            omega
          bytes := by rw [List.flatMap_cons, List.append_assoc, rest.bytes, goesOn]
          left := rest.left }

theorem all_nonempty_iff (q : List (List Byte)) : q.all (fun p => !p.isEmpty) = true ↔ ∀ p ∈ q, p ≠ [] := by simp

/-- Settles O43: what is packed (`packSegs_packs`) are segments, and a run of segments reads back (`readSegs_segWire`). -/
theorem segmentsReadBackAsPacked : Obligations.SegmentsReadBackAsPacked := by
  unfold Obligations.SegmentsReadBackAsPacked
  intro q begun segs left after some packed
  have packs := packSegs_packs 80 240 q begun ((all_nonempty_iff q).mp some)
  rw [packed] at packs
  refine ⟨packs.fits, readSegs_segWire _ packs.form ?_, packs.bytes, (all_nonempty_iff left).mpr packs.left⟩
  have : segs.length ≤ 80 := packs.count
  omega

end Sys2Proof.Proofs
end

section
/-! DRAM (R344 to R354): what a burst leaves of its sub-channel, what a write leaves of the memory, and how a read is picked and returned. -/

namespace Sys2Proof.Proofs

open Sys2Proof Sys2Proof.Machine Sys2Proof.Safety Sys2Proof.Laws

variable {s t u v w : State} {ps : List Part} {i : Instant} {k r id a : Nat} {p : LinePlace} {bs : List Byte} {q : DramReq}

/-! ### Bytes and undefined ranges (R347, R362) -/

/-- Bytes written read back, and all others read as before. -/
theorem get_setBytes {st : Store 8} (h : storeWf st = true) (a x : Nat) (bs : List Byte) :
    Store.get (Store.setBytes st a bs) x = if a ≤ x ∧ x < a + bs.length then bs.getD (x - a) 0 else Store.get st x := by
  induction bs generalizing st a with
  | nil => rw [if_neg (by simp)]; rfl
  | cons b bs ih =>
    rw [Store.setBytes, ih (storeWf_set h a b), get_set h, List.length_cons]
    by_cases here : x = a
    · subst here
      rw [if_neg (by omega), if_pos rfl, if_pos (by omega), Nat.sub_self, List.getD_cons_zero]
    · by_cases inside : a + 1 ≤ x ∧ x < a + 1 + bs.length
      · obtain ⟨d, rfl⟩ : ∃ d, x = a + 1 + d := ⟨x - (a + 1), by omega⟩
        rw [if_pos inside, if_pos (by omega), Nat.add_sub_cancel_left, show a + 1 + d - a = d + 1 by omega, List.getD_cons_succ]
      · rw [if_neg inside, if_neg here, if_neg (by omega)]

/-- The draw that a byte comes from, where its contents are undefined. -/
def drawOf (rs : List LostRange) (x : Nat) : Option Nat := (rs.find? (fun y => y.holds x)).map (fun y => y.draw)

theorem dramByte_eq (s : State) (x : Nat) :
    s.dramByte x = ((drawOf s.dmc.lost x).map (fun d => Config.dramByte d x)).getD (Store.get s.mems.dram x) := by
  unfold State.dramByte drawOf
  cases s.dmc.lost.find? (fun y => y.holds x) <;> rfl

theorem dramByte_congr (lost : v.dmc.lost = s.dmc.lost) (mems : v.mems = s.mems) (x : Nat) : v.dramByte x = s.dramByte x := by
  unfold State.dramByte
  rw [lost, mems]

theorem drawOf_append (xs ys : List LostRange) (x : Nat) : drawOf (xs ++ ys) x = (drawOf xs x).or (drawOf ys x) := by
  unfold drawOf
  rw [List.find?_append]
  cases xs.find? (fun y => y.holds x) <;> rfl

theorem drawOf_nil (x : Nat) : drawOf [] x = none := rfl

theorem drawOf_singleton (y : LostRange) (x : Nat) :
    drawOf [y] x = if y.lo ≤ x ∧ x < y.hi ∧ y.sub.all (fun k => decide (x / 1792 % 4 = k)) = true then some y.draw else none := by
  have holds : y.holds x = true ↔ y.lo ≤ x ∧ x < y.hi ∧ y.sub.all (fun k => decide (x / 1792 % 4 = k)) = true := by
    simp only [LostRange.holds, Bool.and_eq_true, decide_eq_true_eq, and_assoc]
  unfold drawOf
  split
  next h => simp [holds.2 h]
  next h => simp [mt holds.1 h]

/-- Cutting `lo` to `hi` out of a range leaves its other addresses, with their draw, and none between. -/
theorem drawOf_cut (y : LostRange) (lo hi x : Nat) :
    drawOf (y.cut lo hi) x = if lo ≤ x ∧ x < hi then none else drawOf [y] x := by
  unfold LostRange.cut
  split
  next apart =>
    simp only [Bool.or_eq_true, decide_eq_true_eq] at apart
    rw [drawOf_singleton]
    grind
  next =>
    have left : drawOf (if y.lo < lo then [{ y with hi := lo }] else []) x = if x < lo ∧ x < y.hi then drawOf [y] x else none := by
      grind [drawOf_singleton, drawOf_nil]
    have right : drawOf (if hi < y.hi then [{ y with lo := hi }] else []) x = if hi ≤ x ∧ y.lo ≤ x then drawOf [y] x else none := by
      grind [drawOf_singleton, drawOf_nil]
    rw [drawOf_append, left, right, drawOf_singleton]
    grind

theorem drawOf_cutAll (rs : List LostRange) (lo hi x : Nat) :
    drawOf (rs.flatMap (fun y => y.cut lo hi)) x = if lo ≤ x ∧ x < hi then none else drawOf rs x := by
  induction rs with
  | nil => exact (ite_self none).symm
  | cons y rs ih =>
    rw [List.flatMap_cons, drawOf_append, ih, drawOf_cut, show y :: rs = [y] ++ rs from rfl, drawOf_append]
    split <;> rfl

theorem dramByte_dramWrite (h : storeWf s.mems.dram = true) (a x : Nat) (bs : List Byte) :
    (s.dramWrite a bs).dramByte x = if a ≤ x ∧ x < a + bs.length then bs.getD (x - a) 0 else s.dramByte x := by
  rw [dramByte_eq, dramByte_eq]
  change ((drawOf (s.dmc.lost.flatMap (fun y => y.cut a (a + bs.length))) x).map _).getD (Store.get (Store.setBytes s.mems.dram a bs) x) = _
  rw [drawOf_cutAll, get_setBytes h]
  split <;> rfl

theorem mem_poison_dramWrite (s : State) (a l : Nat) (bs : List Byte) :
    l ∈ (s.dramWrite a bs).dmc.poison ↔ l ∈ s.dmc.poison ∧ ¬(a ≤ 64 * l ∧ 64 * l + 64 ≤ a + bs.length) := by
  change l ∈ List.filter _ s.dmc.poison ↔ _
  rw [List.mem_filter, ← Bool.decide_and, Bool.not_eq_true', decide_eq_false_iff_not]

/-! ### Sub-channels -/

theorem subCh_mapSubCh (hk : k < s.dmc.subs.length) (f : SubChannel → SubChannel) : (s.mapSubCh k f).subCh k = f (s.subCh k) :=
  getD_modAt hk f _

theorem subCh_of_dmc (h : v.dmc.subs = s.dmc.subs) (k : Nat) : v.subCh k = s.subCh k := by rw [State.subCh, h, State.subCh]

/-- A sub-channel that is not untrained is one of the sub-channels. -/
theorem lt_of_active (active : (s.subCh k).state = .active) : k < s.dmc.subs.length := by
  by_contra beyond
  rw [State.subCh, List.getD_eq_default _ _ (Nat.not_lt.mp beyond)] at active
  cases active

theorem modAt_modAt {α : Type} (xs : List α) (k : Nat) (f g : α → α) : modAt (modAt xs k f) k g = modAt xs k (fun x => g (f x)) := by
  simp only [modAt_eq_modify, List.modify_modify_eq]
  rfl

theorem map_modAt_comm {α β : Type} {g : α → β} {f : α → α} {f' : β → β} (comm : ∀ x, g (f x) = f' (g x)) (xs : List α) (k : Nat) :
    (modAt xs k f).map g = modAt (xs.map g) k f' := by
  induction xs generalizing k with
  | nil => rfl
  | cons x xs ih => cases k with
    | zero => simp [modAt, comm]
    | succ k => simp [modAt, ih]

theorem map_modAt {α β : Type} {g : α → β} {f : α → α} (keeps : ∀ x, g (f x) = g x) (xs : List α) (k : Nat) :
    (modAt xs k f).map g = xs.map g := by
  rw [map_modAt_comm (f' := id) keeps, modAt_eq_modify, List.modify_id]

/-- A sub-channel to whose rank `r` a request has come. -/
def requested (now r : Nat) (c : SubChannel) : SubChannel :=
  { c with lastReq := now, ranks := modAt c.ranks r (fun x => { x with powerDown := false, usedAt := now }) }

/-- A request wakes an ACTIVE sub-channel from nothing but its rank's power-down (R359, R360). -/
theorem wakeDram_of_active (active : (s.subCh k).state = .active) (r : Nat) : s.wakeDram k r = s.mapSubCh k (requested s.now r) := by
  unfold State.wakeDram
  simp only [active]
  simp only [State.mapRank, State.mapSubCh, State.mapDmc, modAt_modAt]
  rfl

/-! ### Bank accesses (R351, R353, R354) -/

/-- A sub-channel without what its bank accesses note. -/
def forgetRows (c : SubChannel) : SubChannel := { c with openRows := [], tracked := [], nrefs := [], acts := [], throttled := [], lastAct := [] }

/-- The live words in which bank accesses of sub-channel `k` are counted. -/
def bankWords (k : Nat) : List Nat := [Reg.DMC_STAT_NREF, Reg.DMC_ACT_CNT k, Reg.DMC_NREF_CNT k, Reg.DMC_THR_CNT k].map Field.addr

/-- From `s` to `v` banks of sub-channel `k` have been accessed: nothing else in DMC differs. -/
structure BankUsed (k : Nat) (s v : State) : Prop where
  live : LiveIn (bankWords k) s v
  rest : { v.dmc with subs := [] } = { s.dmc with subs := [] }
  subs : v.dmc.subs.map forgetRows = s.dmc.subs.map forgetRows

theorem BankUsed.refl : BankUsed k s s := ⟨.refl, rfl, rfl⟩

theorem BankUsed.mapSubCh {j : Nat} {f : SubChannel → SubChannel} (h : BankUsed k s t) (keeps : ∀ c, forgetRows (f c) = forgetRows c := by intro; rfl) :
    BankUsed k s (t.mapSubCh j f) :=
  ⟨h.live.of_live rfl, h.rest, (map_modAt keeps _ _).trans h.subs⟩

theorem BankUsed.of_live (h : BankUsed k s t) (live : LiveIn (bankWords k) t v) (dmc : v.dmc = t.dmc) : BankUsed k s v :=
  ⟨h.live.trans live, by rw [dmc, h.rest], by rw [dmc, h.subs]⟩

theorem BankUsed.bumpBy (h : BankUsed k s t) (f : Field) (n : Nat) (ha : f.addr ∈ bankWords k) (hf : f.lo + f.width ≤ 32) :
    BankUsed k s (t.bumpBy f n) :=
  h.of_live (LiveIn.refl.wr f _ ha (.inl hf)) (bumpBy_dmc _ _ _)

theorem BankUsed.event (h : BankUsed k s t) (f : Field) (ha : f.addr ∈ bankWords k) : BankUsed k s (t.event [f]) :=
  h.of_live (LiveIn.refl.event f ha) (event_dmc _ _)

theorem bankUsed_ite {c : Prop} [Decidable c] {x y : State} (hx : BankUsed k s x) (hy : BankUsed k s y) : BankUsed k s (if c then x else y) := by
  split <;> assumption

theorem bankUsed_throttle (h : BankUsed k s t) (p : LinePlace) : BankUsed k s (t.throttle k p) := by
  unfold State.throttle
  refine bankUsed_ite ?_ h
  split
  next id _ =>
    refine bankUsed_ite h (.event (.bumpBy (.mapSubCh h) _ 1 ?_ Nat.le.refl) _ ?_) <;> simp [bankWords, Reg.DMC_STAT_THROTTLE, Reg.DMC_STAT_NREF]
  next => exact h

theorem bankUsed_neighbourRefresh (h : BankUsed k s t) (p : LinePlace) : BankUsed k s (t.neighbourRefresh k p) := by
  unfold State.neighbourRefresh
  extract_lets n s1 s2
  have h1 : BankUsed k s s1 := h.mapSubCh
  have h2 : BankUsed k s s2 := by
    refine .event (.bumpBy (.bumpBy h1 _ 1 ?_ Nat.le.refl) _ n ?_ Nat.le.refl) _ ?_ <;> simp [bankWords]
  exact bankUsed_throttle h2 p

theorem bankUsed_bankAccess (id : Nat) (p : LinePlace) : BankUsed p.sub s (s.bankAccess id p) := by
  unfold State.bankAccess
  extract_lets k was s1 tr s2 s3
  have h1 : BankUsed k s s1 := BankUsed.refl.mapSubCh
  have h2 : BankUsed k s s2 := h1.mapSubCh
  have h3 : BankUsed k s s3 := h2.bumpBy (Reg.DMC_ACT_CNT k) 1 (by simp [bankWords]) Nat.le.refl
  exact bankUsed_ite h1 (bankUsed_ite (bankUsed_neighbourRefresh h3 p) h3)

/-! ### Writes (R347, R351) -/

/-- An arriving request drops the responses of the last instant and wakes its rank. -/
def arrived (s : State) (p : LinePlace) : State := (s.mapDmc (fun d => { d with resp := [] })).mapSubCh p.sub (requested s.now p.rank)

theorem wakeDram_arrived (active : (s.subCh p.sub).state = .active) :
    (s.mapDmc (fun d => { d with resp := [] })).wakeDram p.sub p.rank = arrived s p := by
  rw [wakeDram_of_active (by exact active)]
  rfl

/-- A write to an ACTIVE sub-channel before its burst: a write of less than a line reads the line first. -/
def merged (s : State) (a : Nat) (bs : List Byte) : State :=
  ((if bs.length < 64 then (arrived s (s.place a)).bump (Reg.DMC_RD_CNT (s.place a).sub) else arrived s (s.place a)).noteWrite a).dramWrite a bs

/-- A write to an ACTIVE sub-channel. -/
def written (s : State) (id a : Nat) (bs : List Byte) : State :=
  (((merged s a bs).bankAccess id (s.place a)).bump (Reg.DMC_WR_CNT (s.place a).sub)).done

theorem place_of_regs (h : v.regs = s.regs) (a : Nat) : v.place a = s.place a := by
  unfold State.place State.ranksFitted
  rw [rd_of_regs h]

theorem exec_dramWrite {x : Instant} (hw : w = s.atT x) (takes : w.dramTakes a = true) (active : (w.subCh (w.place a).sub).state = .active)
    (within : a % 64 + bs.length ≤ 64) : exec (.dramRequest id a (some bs) x) s = .next (written w id a bs) := by
  have whole : bs.take (64 - a % 64) = bs := List.take_of_length_le (by omega)
  generalize hw' : w.mapDmc (fun d => { d with resp := [] }) = w'
  have place : w'.place a = w.place a := by rw [← hw']; rfl
  have takes' : w'.dramTakes a = true := by rw [← hw']; exact takes
  have wakes : w'.wakeDram (w.place a).sub (w.place a).rank = arrived w (w.place a) := by rw [← hw', wakeDram_arrived active]
  change execDramRequest id a (some bs) x s = _
  unfold execDramRequest
  simp only [← hw, hw', takes', if_true, place, wakes, whole]
  rfl

theorem BankUsed.keeps {α : Type} (h : BankUsed k s v) (f : Dmc → α) (blind : ∀ d, f d = f { d with subs := [] } := by intro; rfl) :
    f v.dmc = f s.dmc := by
  rw [blind, h.rest, ← blind]

theorem mems_merged (w : State) (a : Nat) (bs : List Byte) : (merged w a bs).mems = (w.dramWrite a bs).mems := by
  unfold merged
  split <;> rfl

theorem dmc_written_keeps {α : Type} (f : Dmc → α) (w : State) (id a : Nat) (bs : List Byte)
    (blind : ∀ d, f d = f { d with subs := [] } := by intro; rfl) : f (written w id a bs).dmc = f (merged w a bs).dmc := by
  have bank := (bankUsed_bankAccess (s := merged w a bs) id (w.place a)).keeps f blind
  rwa [← bump_dmc _ (Reg.DMC_WR_CNT (w.place a).sub), ← done_dmc] at bank

theorem lost_merged (w : State) (a : Nat) (bs : List Byte) : (merged w a bs).dmc.lost = (w.dramWrite a bs).dmc.lost := by
  unfold merged
  split <;> rfl

theorem poison_merged (w : State) (a : Nat) (bs : List Byte) : (merged w a bs).dmc.poison = (w.dramWrite a bs).dmc.poison := by
  unfold merged
  split <;> rfl

theorem resp_merged (w : State) (a : Nat) (bs : List Byte) : (merged w a bs).dmc.resp = [] := by
  unfold merged
  split <;> rfl

theorem nextSeq_merged (w : State) (a : Nat) (bs : List Byte) : (merged w a bs).dmc.nextSeq = w.dmc.nextSeq := by
  unfold merged
  split <;> rfl

theorem mems_written (w : State) (id a : Nat) (bs : List Byte) : (written w id a bs).mems = (w.dramWrite a bs).mems :=
  (only_bankAccess (ps := [.regs, .dmc]) only_refl (by decide) .mems (by decide)).trans (mems_merged w a bs)

/-- Settles O36. -/
theorem dramWritesChangeTheirBytesAlone : Obligations.DramWritesChangeTheirBytesAlone := by
  rintro t s w v id a bs hw hm takes active within hv
  obtain rfl : written w id a bs = v := Host.Outcome.next.inj ((exec_dramWrite hw takes active within).symm.trans hv)
  have mems := mems_written w id a bs
  have lost := (dmc_written_keeps Dmc.lost w id a bs).trans (lost_merged w a bs)
  have poison := (dmc_written_keeps Dmc.poison w id a bs).trans (poison_merged w a bs)
  have reads (x : Nat) : (written w id a bs).dramByte x = if a ≤ x ∧ x < a + bs.length then bs.getD (x - a) 0 else w.dramByte x := by
    rw [dramByte_congr lost mems, dramByte_dramWrite hm]
  refine ⟨fun i hi => ?_, fun x hx => ?_, fun l => ?_, ?_⟩
  · rw [reads, if_pos (by omega), Nat.add_sub_cancel_left]
  · rw [reads, if_neg (by omega)]
  · rw [poison, mem_poison_dramWrite]
  · rw [mems]
    exact storeWf_setBytes hm a bs

/-! ### Requests and their service (R347 to R352) -/

theorem liveIn_mono {as bs : List Nat} (h : LiveIn as s v) (sub : as ⊆ bs) : LiveIn bs s v :=
  ⟨fun wf a out => h.words wf a (fun mem => out (sub mem)), h.wf⟩

/-- The live words in which a burst of a write is counted, its own count apart. -/
def burstWords (k : Nat) : List Nat := (Reg.DMC_RD_CNT k).addr :: bankWords k

theorem liveIn_merged (w : State) (a : Nat) (bs : List Byte) : LiveIn (burstWords (w.place a).sub) w (merged w a bs) := by
  have arrives : LiveIn (burstWords (w.place a).sub) w (arrived w (w.place a)) := LiveIn.refl.of_live rfl
  exact (liveIn_ite (arrives.wr _ _ List.mem_cons_self (.inl Nat.le.refl)) arrives).of_live rfl

theorem wrCnt_notMem_burstWords (k : Nat) : (Reg.DMC_WR_CNT k).addr ∉ burstWords k := by
  simp [burstWords, bankWords, Reg.DMC_STAT_NREF, Reg.DMC_WR_CNT, Reg.DMC_RD_CNT, Reg.DMC_ACT_CNT, Reg.DMC_NREF_CNT, Reg.DMC_THR_CNT]
  omega

theorem rdCnt_notMem_bankWords (k : Nat) : (Reg.DMC_RD_CNT k).addr ∉ bankWords k := by
  simp [bankWords, Reg.DMC_STAT_NREF, Reg.DMC_RD_CNT, Reg.DMC_ACT_CNT, Reg.DMC_NREF_CNT, Reg.DMC_THR_CNT]
  omega

theorem rd_written (wf : storeWf w.regs.live = true) (id a : Nat) (bs : List Byte) :
    (written w id a bs).rd (Reg.DMC_WR_CNT (w.place a).sub) = min (w.rd (Reg.DMC_WR_CNT (w.place a).sub) + 1) (2 ^ 32 - 1) := by
  have burst : LiveIn (burstWords (w.place a).sub) w ((merged w a bs).bankAccess id (w.place a)) :=
    (liveIn_merged w a bs).trans (liveIn_mono (bankUsed_bankAccess id (w.place a)).live (List.subset_cons_self _ _))
  rw [← burst.rd wf rfl Nat.le.refl (wrCnt_notMem_burstWords _)]
  exact (rd_of_regs (done_regs _) _).trans (rd_bump (burst.wf wf) _ rfl Nat.le.refl)

theorem only_arrived (w : State) (p : LinePlace) : onlyParts [.dmc] w (arrived w p) :=
  only_mapSubCh (only_mapDmc only_refl (by decide)) (by decide)

theorem only_merged (w : State) (a : Nat) (bs : List Byte) : onlyParts [.mems, .dmc, .regs, .bus] w (merged w a bs) := by
  have arrives : onlyParts [.mems, .dmc, .regs, .bus] w (arrived w (w.place a)) :=
    onlyParts_mono (only_arrived _ _) (by decide)
  exact only_dramWrite (only_noteWrite (only_ite (only_bump arrives (by decide)) arrives) (by decide)) (by decide)

theorem only_written (w : State) (id a : Nat) (bs : List Byte) : onlyParts [.mems, .dmc, .regs, .bus] w (written w id a bs) :=
  only_done (only_bump (only_bankAccess (only_merged w a bs) (by decide)) (by decide)) (by decide)

/-- A read of a line that waits, as it is accepted (R347, R350). -/
def newRead (w : State) (id a : Nat) : DramReq :=
  { seq := w.dmc.nextSeq, id := id, addr := a, cls := startClass id, time := w.now, data := w.dramBytes a 64, bad := w.lineBad a }

/-- A read of an ACTIVE sub-channel, accepted. -/
def accepted (w : State) (p : LinePlace) (q : DramReq) : State :=
  (((arrived w p).mapSubCh p.sub (fun c => { c with queue := c.queue ++ [q] })).mapDmc (fun d => { d with nextSeq := d.nextSeq + 1 })).done

theorem exec_dramRead {x : Instant} (hw : w = s.atT x) (takes : w.dramTakes a = true) (active : (w.subCh (w.place a).sub).state = .active) :
    exec (.dramRequest id a none x) s = .next (accepted w (w.place a) (newRead w id (a / 64 * 64))) := by
  generalize hw' : w.mapDmc (fun d => { d with resp := [] }) = w'
  have place : w'.place a = w.place a := by rw [← hw']; rfl
  have takes' : w'.dramTakes a = true := by rw [← hw']; exact takes
  have wakes : w'.wakeDram (w.place a).sub (w.place a).rank = arrived w (w.place a) := by rw [← hw', wakeDram_arrived active]
  change execDramRequest id a none x s = _
  unfold execDramRequest
  simp only [← hw, hw', takes', if_true, place, wakes]
  rfl

theorem subCh_accepted (fitted : p.sub < w.dmc.subs.length) (q : DramReq) :
    (accepted w p q).subCh p.sub = { requested w.now p.rank (w.subCh p.sub) with queue := (w.subCh p.sub).queue ++ [q] } := by
  have arrives : p.sub < (arrived w p).dmc.subs.length := by
    rw [show (arrived w p).dmc.subs = modAt w.dmc.subs p.sub (requested w.now p.rank) from rfl, modAt_length]
    exact fitted
  have woken : (arrived w p).subCh p.sub = requested w.now p.rank (w.subCh p.sub) := getD_modAt fitted _ _
  calc (accepted w p q).subCh p.sub
      = ((arrived w p).mapSubCh p.sub (fun c => { c with queue := c.queue ++ [q] })).subCh p.sub := rfl
    _ = _ := by rw [subCh_mapSubCh arrives, woken]; rfl

theorem nextSeq_accepted (w : State) (p : LinePlace) (q : DramReq) : (accepted w p q).dmc.nextSeq = w.dmc.nextSeq + 1 := rfl

theorem only_accepted (w : State) (p : LinePlace) (q : DramReq) : onlyParts [.dmc, .bus] w (accepted w p q) :=
  only_done (only_mapDmc (only_mapSubCh (onlyParts_mono (only_arrived w p) (by decide)) (by decide)) (by decide)) (by decide)

theorem exec_dramRequest_refused {x : Instant} {d : Option (List Byte)} (hw : w = s.atT x) (refused : w.dramTakes a = false) :
    exec (.dramRequest id a d x) s = .next ({ w with dmc := { w.dmc with resp := [] } }).busErr := by
  have refused' : (w.mapDmc (fun d => { d with resp := [] })).dramTakes a = false := refused
  change execDramRequest id a d x s = _
  unfold execDramRequest
  simp only [← hw, refused', Bool.false_eq_true, if_false]
  rfl

/-! ### Reads returned (R348, R351, R352) -/

/-- The requests that wait, by sub-channel. -/
def queues (s : State) : List (List DramReq) := s.dmc.subs.map (fun c => c.queue)

theorem queues_mapSubCh {f : SubChannel → SubChannel} {g : List DramReq → List DramReq} (h : ∀ c, (f c).queue = g c.queue) (v : State) (k : Nat) :
    queues (v.mapSubCh k f) = modAt (queues v) k g :=
  map_modAt_comm (g := fun c : SubChannel => c.queue) h _ _

theorem queues_of_bankUsed (h : BankUsed k s v) : queues v = queues s := by
  have same := congrArg (List.map (fun c => c.queue)) h.subs
  rwa [List.map_map, List.map_map] at same

/-- Where one request alone waits, a change of its sub-channel's requests changes that request. -/
theorem flatten_modAt_sole {α : Type} {xs : List (List α)} {k : Nat} {q : α} (sole : xs.flatten = [q]) (hk : xs.getD k [] = [q]) (f : α → α) :
    (modAt xs k (fun l => l.map f)).flatten = [f q] := by
  induction xs generalizing k with
  | nil => cases sole
  | cons x xs ih => cases k with
    | zero =>
      obtain rfl : x = [q] := hk
      have rest : xs.flatten = [] := by simpa using sole
      simp [modAt, rest]
    | succ k =>
      have later : xs.getD k [] = [q] := hk
      have : xs.flatten ≠ [] := by
        intro none
        rw [List.flatten_eq_nil_iff] at none
        by_cases inside : k < xs.length
        · rw [List.getD_eq_getElem _ _ inside, none _ (List.getElem_mem inside)] at later
          cases later
        · rw [List.getD_eq_default _ _ (Nat.not_lt.mp inside)] at later
          cases later
      obtain rfl : x = [] := by
        by_contra some
        simp_all [List.append_eq_singleton_iff]
      simpa [modAt] using ih (by simpa using sole) later

theorem oldestRead_sole (sole : (queues s).flatten = [q]) : s.oldestRead q.id = some q := by
  unfold State.oldestRead
  rw [show s.dmc.subs.flatMap (fun c => c.queue.filter (fun x => x.id == q.id)) = [q] by
    rw [← List.filter_flatMap, List.flatMap_def]
    change List.filter _ (queues s).flatten = _
    simp [sole]]
  rfl

/-- The one waiting read, served, is delivered (R352). -/
theorem deliverReads_sole (sole : (queues s).flatten = [q]) (done : q.served = true) :
    s.deliverReads q.id ((s.dmc.subs.map (fun c => c.queue.length)).foldl (· + ·) 0) = s.mapDmc (fun d => { d with
      resp := d.resp ++ [{ id := q.id, addr := q.addr, data := q.data, poison := q.ue }]
      subs := d.subs.map (fun c => { c with queue := c.queue.filter (fun x => x.seq != q.seq) }) }) := by
  have one : (s.dmc.subs.map (fun c => c.queue.length)).foldl (· + ·) 0 = 1 := by
    rw [← List.sum_eq_foldl_nat, show s.dmc.subs.map (fun c => c.queue.length) = (queues s).map List.length by
      rw [queues, List.map_map]; rfl, ← List.length_flatten, sole]
    rfl
  rw [one, State.deliverReads, oldestRead_sole sole]
  simp only [done, if_true, State.deliverReads]

theorem pickRead_congr (hs : v.dmc.subs = s.dmc.subs) (hr : v.regs = s.regs) (ht : v.now = s.now) : v.pickRead k = s.pickRead k := by
  have place (a : Nat) : v.place a = s.place a := place_of_regs hr a
  unfold State.pickRead State.servable State.heldBack State.rank
  simp only [subCh_of_dmc hs, place, rd_of_regs hr, ht]

/-- A read has been picked: the responses of the last instant are dropped, and its bank's row hits noted. -/
def readPicked (w : State) (k : Nat) (hits : List (Nat × Nat × Nat)) : State :=
  (w.mapDmc (fun d => { d with resp := [] })).mapSubCh k (fun c => { c with hits := hits })

/-- The picked read's burst. -/
def burst (w : State) (k : Nat) (q : DramReq) (hits : List (Nat × Nat × Nat)) : State :=
  ((readPicked w k hits).bankAccess q.id (w.place q.addr)).bump (Reg.DMC_RD_CNT k)

/-- The picked read is served, with an uncorrectable error or none, and what can return returns (R352). -/
def returned (v : State) (k : Nat) (q : DramReq) (ue : Bool) : State :=
  let v' := v.mapSubCh k (fun c => { c with
    lastReq := v.now
    queue := c.queue.map (fun x => if x.seq = q.seq then { x with served := true, ue := ue } else x) })
  v'.deliverReads q.id ((v'.dmc.subs.map (fun c => c.queue.length)).foldl (· + ·) 0)

theorem exec_dramReadReturn {x : Instant} {err : Nat} {hits : List (Nat × Nat × Nat)} (hw : w = s.atT x) (active : (w.subCh k).state = .active)
    (pick : w.pickRead k = some (q, hits)) : exec (.dramReadReturn k err x) s = .next (returned
      (if q.bad || err = 2 then
        (if q.newer then burst w k q hits else (burst w k q hits).markBad q.addr).badLine k q.id q.addr
      else if err = 1 then (burst w k q hits).correctedLine k q.newer else burst w k q hits) k q (q.bad || err = 2)) := by
  generalize hw' : w.mapDmc (fun d => { d with resp := [] }) = w'
  have active' : (w'.subCh k).state = .active := by rw [← hw']; exact active
  have pick' : w'.pickRead k = some (q, hits) := by rw [← hw']; exact (pickRead_congr (v := w.mapDmc _) (s := w) rfl rfl rfl).trans pick
  have place : w'.place q.addr = w.place q.addr := by rw [← hw']; rfl
  change execDramReadReturn k err x s = _
  unfold execDramReadReturn burst readPicked
  simp only [← hw, hw', active', pick', if_true, place]
  rfl

/-- The picked read is the only one that waits, in sub-channel `k`. -/
structure Sole (w : State) (k : Nat) (q : DramReq) : Prop where
  all : (queues w).flatten = [q]
  here : (queues w).getD k [] = [q]

theorem Sole.of_queues (h : Sole w k q) (same : queues v = queues w) : Sole v k q := ⟨by rw [same, h.all], by rw [same, h.here]⟩

section
variable {hits : List (Nat × Nat × Nat)}

/-- The burst of a read of sub-channel `k`, its count apart. -/
theorem bankUsed_burst (at_ : (w.place q.addr).sub = k) (hits : List (Nat × Nat × Nat)) :
    BankUsed k (readPicked w k hits) ((readPicked w k hits).bankAccess q.id (w.place q.addr)) :=
  at_ ▸ bankUsed_bankAccess q.id (w.place q.addr)

theorem queues_burst (at_ : (w.place q.addr).sub = k) (hits : List (Nat × Nat × Nat)) : queues (burst w k q hits) = queues w := by
  have same : queues (readPicked w k hits) = queues w := by
    rw [readPicked, queues_mapSubCh (g := id) (by exact fun _ => rfl), modAt_eq_modify, List.modify_id]
    rfl
  rw [queues, burst, bump_dmc]
  exact (queues_of_bankUsed (bankUsed_burst at_ hits)).trans same

theorem dmc_burst_keeps {α : Type} (f : Dmc → α) (at_ : (w.place q.addr).sub = k) (hits : List (Nat × Nat × Nat))
    (blind : ∀ d, f d = f { d with subs := [] } := by intro; rfl) : f (burst w k q hits).dmc = f { w.dmc with resp := [] } := by
  rw [burst, bump_dmc, (bankUsed_burst at_ hits).keeps f blind, blind, blind { w.dmc with resp := [] }]
  rfl

theorem liveIn_burst (at_ : (w.place q.addr).sub = k) (hits : List (Nat × Nat × Nat)) :
    LiveIn (bankWords k) w ((readPicked w k hits).bankAccess q.id (w.place q.addr)) :=
  have pick : LiveIn (bankWords k) w (readPicked w k hits) := LiveIn.refl.of_live rfl
  pick.trans (bankUsed_burst at_ hits).live

theorem rd_burst (at_ : (w.place q.addr).sub = k) (hits : List (Nat × Nat × Nat)) (wf : storeWf w.regs.live = true) :
    (burst w k q hits).rd (Reg.DMC_RD_CNT k) = min (w.rd (Reg.DMC_RD_CNT k) + 1) (2 ^ 32 - 1) := by
  have bank := liveIn_burst at_ hits
  rw [← bank.rd wf rfl Nat.le.refl (rdCnt_notMem_bankWords k)]
  exact rd_bump (bank.wf wf) _ rfl Nat.le.refl

theorem only_burst (w : State) (k : Nat) (q : DramReq) (hits : List (Nat × Nat × Nat)) : onlyParts [.dmc, .regs] w (burst w k q hits) := by
  have pick : onlyParts [.dmc, .regs] w (readPicked w k hits) := only_mapSubCh (only_mapDmc only_refl (by decide)) (by decide)
  exact only_bump (only_bankAccess pick (by decide)) (by decide)

end

/-- The request when it has been served. -/
def DramReq.done (q : DramReq) (ue : Bool) : DramReq := { q with served := true, ue := ue }

/-- A sub-channel whose request `q` has been served. -/
def serve (now : Nat) (q : DramReq) (ue : Bool) (c : SubChannel) : SubChannel :=
  { c with lastReq := now, queue := c.queue.map (fun x => if x.seq = q.seq then DramReq.done x ue else x) }

/-- The response to a read that has been served, which waits no longer. -/
def deliver (q : DramReq) (d : Dmc) : Dmc :=
  { d with
    resp := d.resp ++ [{ id := q.id, addr := q.addr, data := q.data, poison := q.ue }]
    subs := d.subs.map (fun c => { c with queue := c.queue.filter (fun x => x.seq != q.seq) }) }

theorem queues_serve (sole : Sole v k q) (ue : Bool) : (queues (v.mapSubCh k (serve v.now q ue))).flatten = [DramReq.done q ue] := by
  have queued : queues (v.mapSubCh k (serve v.now q ue))
      = modAt (queues v) k (fun l => l.map (fun x => if x.seq = q.seq then DramReq.done x ue else x)) :=
    queues_mapSubCh (f := serve v.now q ue) (fun _ => rfl) v k
  rw [queued, flatten_modAt_sole sole.all sole.here, if_pos rfl]

theorem returned_sole (sole : Sole v k q) (ue : Bool) :
    returned v k q ue = (v.mapSubCh k (serve v.now q ue)).mapDmc (deliver (DramReq.done q ue)) :=
  deliverReads_sole (q := DramReq.done q ue) (queues_serve sole ue) rfl

theorem queues_deliver (v : State) (q : DramReq) :
    queues (v.mapDmc (deliver q)) = (queues v).map (List.filter (fun x => x.seq != q.seq)) := by
  change List.map _ (List.map _ _) = List.map _ (List.map _ _)
  rw [List.map_map, List.map_map]
  rfl

theorem queue_of_queues (none : (queues v).flatten = []) (k : Nat) : (v.subCh k).queue = [] := by
  by_cases inside : k < v.dmc.subs.length
  · rw [State.subCh, List.getD_eq_getElem _ _ inside]
    exact List.flatten_eq_nil_iff.1 none _ (List.mem_map_of_mem (List.getElem_mem inside))
  · rw [State.subCh, List.getD_eq_default _ _ (Nat.not_lt.mp inside)]

theorem queue_returned (sole : Sole v k q) (ue : Bool) : ((returned v k q ue).subCh k).queue = [] := by
  refine queue_of_queues ?_ k
  rw [returned_sole sole, queues_deliver, ← List.filter_flatten, queues_serve sole]
  simp [DramReq.done]

theorem resp_returned (sole : Sole v k q) (ue : Bool) :
    (returned v k q ue).dmc.resp = v.dmc.resp ++ [{ id := q.id, addr := q.addr, data := q.data, poison := ue }] := by
  rw [returned_sole sole]
  rfl

theorem poison_returned (sole : Sole v k q) (ue : Bool) : (returned v k q ue).dmc.poison = v.dmc.poison := by
  rw [returned_sole sole]
  rfl

theorem only_returned (h : onlyParts ps w v) (hp : [.dmc] ⊆ ps) (k : Nat) (q : DramReq) (ue : Bool) : onlyParts ps w (returned v k q ue) :=
  only_deliverReads (only_mapSubCh h hp) hp

theorem rd_returned (v : State) (k : Nat) (q : DramReq) (ue : Bool) (f : Field) : (returned v k q ue).rd f = v.rd f :=
  rd_of_regs (only_returned (ps := [.dmc]) only_refl (by decide) k q ue .regs (by decide)) f

theorem queue_getD {c : List DramReq} (h : (w.dmc.subs.getD k {}).queue = c) : (queues w).getD k [] = c := by
  rw [← h, queues]
  simp only [List.getD_eq_getElem?_getD, List.getElem?_map]
  cases w.dmc.subs[k]? <;> rfl

/-- A line read with an uncorrectable error is marked, counted and recorded (R348). -/
def marked (v : State) (k : Nat) (q : DramReq) : State := (v.markBad q.addr).badLine k q.id q.addr

theorem dmc_badLine (v : State) (k id a : Nat) : (v.badLine k id a).dmc = v.dmc :=
  only_badLine (ps := [.regs, .evr]) only_refl (by decide) .dmc (by decide)

theorem mem_poison_marked (v : State) (k : Nat) (q : DramReq) : q.addr / 64 ∈ (marked v k q).dmc.poison := by
  rw [marked, dmc_badLine, State.markBad]
  split
  next stood => exact List.mem_of_elem_eq_true stood
  next => exact List.mem_append_right _ (List.mem_singleton_self _)

theorem queues_marked (v : State) (k : Nat) (q : DramReq) : queues (marked v k q) = queues v := by
  rw [queues, marked, dmc_badLine, State.markBad]
  split <;> rfl

theorem resp_marked (v : State) (k : Nat) (q : DramReq) : (marked v k q).dmc.resp = v.dmc.resp := by
  rw [marked, dmc_badLine, State.markBad]
  split <;> rfl

theorem exec_dramReadReturn_good {x : Instant} {hits : List (Nat × Nat × Nat)} (hw : w = s.atT x) (active : (w.subCh k).state = .active)
    (pick : w.pickRead k = some (q, hits)) (good : q.bad = false) :
    exec (.dramReadReturn k 0 x) s = .next (returned (burst w k q hits) k q false) := by
  rw [exec_dramReadReturn hw active pick, good]
  rfl

theorem exec_dramReadReturn_bad {x : Instant} {hits : List (Nat × Nat × Nat)} (hw : w = s.atT x) (active : (w.subCh k).state = .active)
    (pick : w.pickRead k = some (q, hits)) (older : q.newer = false) :
    exec (.dramReadReturn k 2 x) s = .next (returned (marked (burst w k q hits) k q) k q true) := by
  rw [exec_dramReadReturn hw active pick, older, marked]
  simp only [decide_true, Bool.or_true, if_true, Bool.false_eq_true, if_false]

/-- The live words in which a line with an uncorrectable error is reported, its count apart. -/
def badLineWords : List Nat := [Reg.DMC_STAT_UE.addr, Reg.DMC_UE_ADDR_ADDR.addr, Reg.DMC_UE_ADDR_ADDR.addr + 4, Reg.DMC_UE_REQ_ID.addr] ++ recorderWords

theorem ueCnt_notMem_badLineWords (low : k < 4) : (Reg.DMC_UE_CNT k).addr ∉ badLineWords := by
  simp [badLineWords, recorderWords, Reg.DMC_STAT_UE, Reg.DMC_UE_ADDR_ADDR, Reg.DMC_UE_REQ_ID, Reg.DMC_UE_CNT]
  omega

theorem rd_badLine (low : k < 4) (wf : storeWf v.regs.live = true) (id a : Nat) :
    (v.badLine k id a).rd (Reg.DMC_UE_CNT k) = min (v.rd (Reg.DMC_UE_CNT k) + 1) (2 ^ 32 - 1) := by
  have report : LiveIn badLineWords (v.bump (Reg.DMC_UE_CNT k)) (v.badLine k id a) := by
    refine LiveIn.trans ?_ (liveIn_mono liveIn_record (List.subset_append_right _ _))
    exact ((LiveIn.refl.event _ (by decide)).wr _ _ (by decide) (by decide)).wr _ _ (by decide) (by decide)
  rw [report.rd (wf_bump wf _) rfl Nat.le.refl (ueCnt_notMem_badLineWords low)]
  exact rd_bump wf _ rfl Nat.le.refl

theorem ueCnt_notMem_bankWords (k : Nat) : (Reg.DMC_UE_CNT k).addr ∉ (Reg.DMC_RD_CNT k).addr :: bankWords k := by
  simp [bankWords, Reg.DMC_STAT_NREF, Reg.DMC_UE_CNT, Reg.DMC_RD_CNT, Reg.DMC_ACT_CNT, Reg.DMC_NREF_CNT, Reg.DMC_THR_CNT]
  omega

theorem rd_marked_burst (at_ : (w.place q.addr).sub = k) (hits : List (Nat × Nat × Nat)) (low : k < 4) (wf : storeWf w.regs.live = true) :
    (marked (burst w k q hits) k q).rd (Reg.DMC_UE_CNT k) = min (w.rd (Reg.DMC_UE_CNT k) + 1) (2 ^ 32 - 1) := by
  have read : LiveIn ((Reg.DMC_RD_CNT k).addr :: bankWords k) w (burst w k q hits) :=
    (liveIn_mono (liveIn_burst at_ hits) (List.subset_cons_self _ _)).wr (Reg.DMC_RD_CNT k) _ List.mem_cons_self (.inl Nat.le.refl)
  have marks : LiveIn ((Reg.DMC_RD_CNT k).addr :: bankWords k) w ((burst w k q hits).markBad q.addr) := by
    unfold State.markBad
    exact liveIn_ite read (read.of_live rfl)
  rw [marked, rd_badLine low (marks.wf wf), marks.rd wf rfl Nat.le.refl (ueCnt_notMem_bankWords k)]

theorem only_marked (h : onlyParts ps w v) (hp : [.dmc, .regs, .evr] ⊆ ps) (k : Nat) (q : DramReq) : onlyParts ps w (marked v k q) :=
  only_badLine (only_markBad h (List.Subset.trans (by decide) hp)) (List.Subset.trans (by decide) hp)

/-! ### Ageing, idle rows and scrub (R349, R351) -/

/-- A request as it is after ageing at `now` (R351). -/
def aged (now : Nat) (q : DramReq) : DramReq := if 2 ≤ q.cls && q.time + 10 * us ≤ now then { q with cls := 1 } else q

/-- The sub-channels of DMC changed by `f`. -/
def mapSubs (w : State) (f : SubChannel → SubChannel) : State := w.mapDmc (fun d => { d with subs := d.subs.map f })

theorem only_mapSubs (w : State) (f : SubChannel → SubChannel) : onlyParts [.dmc] w (mapSubs w f) := only_mapDmc only_refl (by decide)

theorem exec_requestAge {x : Instant} (hw : w = s.atT x) :
    exec (.requestAge x) s = .next (mapSubs w (fun c => { c with queue := c.queue.map (aged w.now) })) := by
  rw [hw]
  rfl

theorem aged_settled (now : Nat) (q : DramReq) : (decide ((aged now q).cls < 2) || decide (now < (aged now q).time + 10 ^ 7)) = true := by
  unfold aged us
  split
  next => rfl
  next young =>
    simp only [Bool.and_eq_true, decide_eq_true_eq, Bool.or_eq_true] at young ⊢
    omega

theorem aged_apart_from_cls (now : Nat) (q : DramReq) : { aged now q with cls := 0 } = { q with cls := 0 } := by
  unfold aged
  split <;> rfl

theorem exec_rowIdleClose {x : Instant} (hw : w = s.atT x) :
    exec (.rowIdleClose x) s = .next (mapSubs w (fun c => { c with openRows := c.openRows.filter (fun o => w.now < o.2.2.2 + us) })) := by
  rw [hw]
  rfl

/-- Scrub moves on to `line` (R349). -/
def scrubbed (w : State) (line : Nat) : State := w.mapDmc (fun d => { d with scrubAt := w.now, scrubLine := line })

/-- Scrub has read the line at `p` of an ACTIVE sub-channel without an error. -/
def scrubRead (w : State) (n : Nat) (p : LinePlace) : State :=
  (((scrubbed w n).mapSubCh p.sub (requested w.now p.rank)).bankAccess 9 p).bump (Reg.DMC_RD_CNT p.sub)

theorem scrubRead_keeps {α : Type} (f : Dmc → α) (w : State) (n : Nat) (p : LinePlace) (blind : ∀ d, f d = f { d with subs := [] } := by intro; rfl) :
    f (scrubRead w n p).dmc = f (scrubbed w n).dmc := by
  have bank := (bankUsed_bankAccess (s := (scrubbed w n).mapSubCh p.sub (requested w.now p.rank)) 9 p).keeps f blind
  rw [scrubRead, bump_dmc, bank, blind, blind (scrubbed w n).dmc]
  rfl

theorem rd_scrubRead (wf : storeWf w.regs.live = true) (n : Nat) (p : LinePlace) :
    (scrubRead w n p).rd (Reg.DMC_RD_CNT p.sub) = min (w.rd (Reg.DMC_RD_CNT p.sub) + 1) (2 ^ 32 - 1) := by
  have awake : LiveIn (bankWords p.sub) w ((scrubbed w n).mapSubCh p.sub (requested w.now p.rank)) := LiveIn.refl.of_live rfl
  have bank := awake.trans (bankUsed_bankAccess 9 p).live
  rw [← bank.rd wf rfl Nat.le.refl (rdCnt_notMem_bankWords p.sub)]
  exact rd_bump (bank.wf wf) _ rfl Nat.le.refl

theorem only_scrubRead (w : State) (n : Nat) (p : LinePlace) : onlyParts [.dmc, .regs] w (scrubRead w n p) := by
  have awake : onlyParts [.dmc, .regs] w ((scrubbed w n).mapSubCh p.sub (requested w.now p.rank)) :=
    only_mapSubCh (only_mapDmc only_refl (by decide)) (by decide)
  exact only_bump (only_bankAccess awake (by decide)) (by decide)

theorem subCh_scrubbed (w : State) (n k : Nat) : (scrubbed w n).subCh k = w.subCh k := rfl

theorem isolated_scrubbed (w : State) (n : Nat) (b : Block) : (scrubbed w n).isolated b = w.isolated b := rfl

theorem wakeDram_scrubbed (active : (w.subCh p.sub).state = .active) (n : Nat) :
    (scrubbed w n).wakeDram p.sub p.rank = (scrubbed w n).mapSubCh p.sub (requested w.now p.rank) :=
  wakeDram_of_active (s := scrubbed w n) active p.rank

theorem exec_scrubRead {x : Instant} (hw : w = s.atT x) (on : w.on Reg.DMC_SCRUB_EN = true) (open_ : w.dmc.closed = false)
    (active : (w.subCh (w.place (w.dmc.scrubLine * 64)).sub).state = .active) (here : w.isolated .dmc = false)
    (due : w.dmc.scrubAt + max 1 (w.rd Reg.DMC_SCRUB_HOURS) * 3600 * sec / (w.usableBytes / 64) ≤ w.now) :
    exec (.scrubRead 0 x) s = .next (scrubRead w ((w.dmc.scrubLine + 1) % (w.usableBytes / 64)) (w.place (w.dmc.scrubLine * 64))) := by
  generalize hp : w.place (w.dmc.scrubLine * 64) = p at active ⊢
  generalize hn : (w.dmc.scrubLine + 1) % (w.usableBytes / 64) = n
  have ready : (((scrubbed w n).subCh p.sub).trained && ((scrubbed w n).subCh p.sub).state != .selfRefresh && !(scrubbed w n).isolated .dmc) = true := by
    rw [isolated_scrubbed, here, SubChannel.trained, subCh_scrubbed, active]
    rfl
  have wakes := wakeDram_scrubbed active n
  have moves : w.mapDmc (fun d => { d with scrubAt := w.now, scrubLine := (d.scrubLine + 1) % (w.usableBytes / 64) }) = scrubbed w n := by
    simp only [scrubbed, State.mapDmc, hn]
  change execScrubRead 0 x s = _
  unfold execScrubRead scrubRead
  simp only [← hw, moves, on, open_, Bool.not_false, Bool.and_self, decide_eq_true due, if_true, hp, ready, wakes, Nat.zero_ne_one, decide_false,
    Bool.false_and, Bool.false_eq_true, if_false, (by decide : (0 : Nat) ≠ 2)]

/-- Settles O35. -/
theorem dramServesItsRequests : Obligations.DramServesItsRequests := by
  intro t s w hw wf
  refine ⟨?_, ?_, fun id a d refused => exec_dramRequest_refused hw refused, ?_, ?_, ?_, ?_, ?_⟩
  · rintro id a bs p takes rfl active some within low
    exact ⟨_, exec_dramWrite hw takes active within, mems_written _ _ _ _, rd_written wf id a bs,
      (dmc_written_keeps Dmc.resp _ id a bs).trans (resp_merged _ a bs), (dmc_written_keeps Dmc.nextSeq _ id a bs).trans (nextSeq_merged _ a bs),
      only_written w id a bs⟩
  · rintro id a p takes rfl active fitted
    refine ⟨_, exec_dramRead hw takes active, nextSeq_accepted _ _ _, ?_, only_accepted _ _ _⟩
    rw [subCh_accepted fitted, List.getLast?_concat]
    rfl
  · intro k q h active pick sole here served good low at_
    have waits : Sole (burst w k q h) k q := (Sole.mk sole (queue_getD here)).of_queues (queues_burst at_ h)
    refine ⟨_, exec_dramReadReturn_good hw active pick good, ?_, queue_returned waits false, ?_, ?_, ?_⟩
    · rw [resp_returned waits, dmc_burst_keeps Dmc.resp at_]
      rfl
    · rw [rd_returned]
      exact rd_burst at_ h wf
    · exact only_returned (only_burst w k q h) (by decide) k q false .mems (by decide)
    · exact only_returned (only_burst w k q h) (by decide) k q false
  · intro k q h active pick sole here served older low at_
    have waits : Sole (marked (burst w k q h) k q) k q :=
      (Sole.mk sole (queue_getD here)).of_queues ((queues_marked _ _ _).trans (queues_burst at_ h))
    have only : onlyParts [.dmc, .regs, .evr] w (marked (burst w k q h) k q) := only_marked (onlyParts_mono (only_burst w k q h) (by decide)) (by decide) k q
    refine ⟨_, exec_dramReadReturn_bad hw active pick older, ?_, ?_, ?_, ?_, ?_⟩
    · rw [resp_returned waits, resp_marked, dmc_burst_keeps Dmc.resp at_]
      rfl
    · rw [poison_returned waits]
      exact mem_poison_marked _ k q
    · rw [rd_returned]
      exact rd_marked_burst at_ h low wf
    · exact only_returned only (by decide) k q true .mems (by decide)
    · exact only_returned only (by decide) k q true
  · refine ⟨_, exec_requestAge hw, only_mapSubs _ _, ?_, ?_⟩
    · change List.all (List.map _ _) _ = true
      simp only [List.all_map, List.all_eq_true, Function.comp_apply]
      exact fun c _ q _ => aged_settled w.now q
    · change List.map _ (List.map _ _) = _
      simp only [List.map_map, Function.comp_def, aged_apart_from_cls]
  · refine ⟨_, exec_rowIdleClose hw, only_mapSubs _ _, ?_, ?_⟩
    · change List.map _ (List.map _ _) = _
      simp only [List.map_map, Function.comp_def]
      rfl
    · change List.map _ (List.map _ _) = _
      simp only [List.map_map, Function.comp_def]
  · rintro p on open_ rfl active here low due
    refine ⟨_, exec_scrubRead hw on open_ active here due, ?_, ?_, ?_, ?_⟩
    · exact scrubRead_keeps Dmc.scrubAt w _ _
    · exact (scrubRead_keeps Dmc.scrubLine w _ _).trans rfl
    · exact rd_scrubRead wf _ _
    · exact only_scrubRead w _ _

end Sys2Proof.Proofs
end

section
/-! Refresh, power states and training of DRAM (R353 to R365): what each leaves of a rank of a sub-channel. -/

namespace Sys2Proof.Proofs

open Sys2Proof Sys2Proof.Machine Sys2Proof.Safety Sys2Proof.Laws

variable {s t u v w : State} {i : Instant} {k r : Nat}

/-! ### Ranks -/

/-- Sub-channel `k` has a rank `r`. -/
structure HasRank (s : State) (k r : Nat) : Prop where
  sub : k < s.dmc.subs.length
  rank : r < (s.subCh k).ranks.length

theorem length_mapSubCh (s : State) (k : Nat) (f : SubChannel → SubChannel) : (s.mapSubCh k f).dmc.subs.length = s.dmc.subs.length :=
  modAt_length _ _ _

theorem rank_mapRank (has : HasRank s k r) (f : DramRank → DramRank) : (s.mapRank k r f).rank k r = f (s.rank k r) := by
  rw [State.rank, State.mapRank, subCh_mapSubCh has.sub]
  exact getD_modAt has.rank f _

theorem HasRank.mapRank (has : HasRank s k r) (f : DramRank → DramRank) : HasRank (s.mapRank k r f) k r where
  sub := by rw [State.mapRank, length_mapSubCh]; exact has.sub
  rank := by rw [State.mapRank, subCh_mapSubCh has.sub]; simpa only [modAt_length] using has.rank

theorem HasRank.mapSubCh (has : HasRank s k r) {f : SubChannel → SubChannel} (keeps : (f (s.subCh k)).ranks = (s.subCh k).ranks) :
    HasRank (s.mapSubCh k f) k r where
  sub := by rw [length_mapSubCh]; exact has.sub
  rank := by rw [subCh_mapSubCh has.sub, keeps]; exact has.rank

theorem rank_mapSubCh (has : HasRank s k r) {f : SubChannel → SubChannel} (keeps : (f (s.subCh k)).ranks = (s.subCh k).ranks) :
    (s.mapSubCh k f).rank k r = s.rank k r := by
  rw [State.rank, subCh_mapSubCh has.sub, keeps, State.rank]

theorem HasRank.precharge (has : HasRank s k r) (j : Nat) : HasRank (s.precharge k j) k r := has.mapSubCh rfl

theorem rank_precharge (has : HasRank s k r) (j : Nat) : (s.precharge k j).rank k r = s.rank k r := rank_mapSubCh has rfl

theorem rank_of_dmc (h : v.dmc = s.dmc) (k r : Nat) : v.rank k r = s.rank k r := by
  rw [State.rank, subCh_of_dmc (congrArg Dmc.subs h), State.rank]

theorem HasRank.of_dmc (has : HasRank s k r) (h : v.dmc = s.dmc) : HasRank v k r where
  sub := by rw [h]; exact has.sub
  rank := by rw [subCh_of_dmc (congrArg Dmc.subs h)]; exact has.rank

theorem rankWaits_mapRank (hk : k < s.dmc.subs.length) (f : DramRank → DramRank) (j : Nat) : (s.mapRank k r f).rankWaits k j = s.rankWaits k j := by
  have place (a : Nat) : (s.mapRank k r f).place a = s.place a := place_of_regs rfl a
  rw [State.rankWaits, State.mapRank, subCh_mapSubCh hk]
  rfl

/-! ### Refresh (R355 to R357) -/

theorem payDebt_of_paid (paid : (s.rank k r).debt = 0) (now : Nat) : s.payDebt k r now = s := by
  simp [State.payDebt, paid]

theorem payDebt_of_idle (some : (s.rank k r).debt ≠ 0) (free : (s.rank k r).refreshAt = none) (calm : (s.rank k r).catchUp = none)
    (idle : s.rankWaits k r = false) (now : Nat) : s.payDebt k r now = s.issueRefresh k r now := by
  simp [State.payDebt, some, free, calm, idle]

theorem rank_issueRefresh (has : HasRank s k r) (now : Nat) : (s.issueRefresh k r now).rank k r = { s.rank k r with
    debt := (s.rank k r).debt - 1, refreshAt := some now, powerDown := false
    lastOfBurst := (s.rank k r).catchUp.isSome && (s.rank k r).debt ≤ 1 } := by
  rw [State.issueRefresh, rank_of_dmc (bump_dmc _ _), rank_mapRank (has.precharge r), rank_precharge has]

theorem exec_refreshInterval (hw : w = s.atT i) (has : HasRank w k r) (active : (w.subCh k).state = .active) (fitted : r < w.ranksFitted)
    (due : (w.rank k r).intervalAt + rateInterval (w.rank k r).rate ≤ w.now) (steady : (w.rank k r).rateNext = none)
    (paid : (w.rank k r).debt = 0) :
    exec (.refreshInterval k r i) s = .next ((w.mapRank k r (fun y => { y with
      debt := y.debt + 1, intervalAt := (w.rank k r).intervalAt + rateInterval (w.rank k r).rate })).payDebt k r w.now) := by
  have one : ((w.mapRank k r (fun y => { y with
      debt := y.debt + 1, intervalAt := (w.rank k r).intervalAt + rateInterval (w.rank k r).rate })).rank k r).debt = 1 := by
    rw [rank_mapRank has, paid]
  have within (a : Nat) : ¬(a + 1 < 1) := by omega
  change execRefreshInterval k r i s = _
  unfold execRefreshInterval
  simp only [← hw, active, steady, fitted, due, one, within, decide_true, Bool.true_or, Bool.and_self, if_true, decide_false, Bool.and_false,
    Bool.false_eq_true, if_false]
  rfl

theorem exec_refreshComplete {a : Nat} (hw : w = s.atT i) (has : HasRank w k r) (active : (w.subCh k).state = .active)
    (begun : (w.rank k r).refreshAt = some a) (ended : a + w.tRfc ≤ w.now) (calm : (w.rank k r).catchUp = none) (paid : (w.rank k r).debt = 0) :
    exec (.refreshComplete k r i) s = .next (w.mapRank k r (fun y => { y with refreshAt := none })) := by
  have awake : ((w.mapRank k r (fun y => { y with refreshAt := none })).subCh k).state = .active := by
    rw [State.mapRank, subCh_mapSubCh has.sub, active]
  have paid' : ((w.mapRank k r (fun y => { y with refreshAt := none })).rank k r).debt = 0 := by rw [rank_mapRank has, paid]
  have stays : ¬SubState.active = SubState.srEntry := by decide
  change execRefreshComplete k r i s = _
  unfold execRefreshComplete
  simp only [← hw, begun, ended, if_true, awake, stays, if_false, calm, payDebt_of_paid paid']

theorem refreshInterval_pays (hw : w = s.atT i) (has : HasRank w k r) (active : (w.subCh k).state = .active) (fitted : r < w.ranksFitted)
    (due : (w.rank k r).intervalAt + rateInterval (w.rank k r).rate ≤ w.now) (steady : (w.rank k r).rateNext = none)
    (paid : (w.rank k r).debt = 0) (free : (w.rank k r).refreshAt = none) (calm : (w.rank k r).catchUp = none) (idle : w.rankWaits k r = false) :
    ∃ v, exec (.refreshInterval k r i) s = .next v
      ∧ v.rank k r = { w.rank k r with
          intervalAt := (w.rank k r).intervalAt + rateInterval (w.rank k r).rate, refreshAt := some w.now, powerDown := false, lastOfBurst := false }
      ∧ onlyParts [.dmc, .regs] w v := by
  refine ⟨_, exec_refreshInterval hw has active fitted due steady paid, ?_, only_payDebt (only_mapRank only_refl (by decide)) (by decide)⟩
  rw [payDebt_of_idle, rank_issueRefresh (has.mapRank _), rank_mapRank has]
  · simp [paid, calm]
  · simp [rank_mapRank has]
  · rw [rank_mapRank has]; exact free
  · rw [rank_mapRank has]; exact calm
  · rw [rankWaits_mapRank has.sub]; exact idle

/-! ### MR4 (R356, R357) -/

theorem exec_mr4Poll (hw : w = s.atT i) (due : w.dmc.pollAt + (if w.fastPoll then 2 else 16) * 10 ^ 9 ≤ w.now) :
    exec (.mr4Poll i) s = .next (w.mapDmc (fun d => { d with
      pollAt := w.now
      subs := d.subs.map (fun c =>
        if c.state = .active || c.state = .srEntry then
          { c with ranks := (c.ranks.take w.ranksFitted).map (fun x => { x with mr4Due := true }) ++ c.ranks.drop w.ranksFitted }
        else c) })) := by
  have due' : w.dmc.pollAt + (if w.fastPoll = true then 2 * ms else 16 * ms) ≤ w.now := by
    simp only [ms]
    split at due <;> simp_all
  change execMr4Poll i s = _
  unfold execMr4Poll
  simp only [← hw, due', if_true]

theorem getD_map_lt {α β : Type} {xs : List α} (hk : k < xs.length) (f : α → β) (d : β) (d' : α) :
    (xs.map f).getD k d = f (xs.getD k d') := by
  simp [hk]

/-- In a list whose first `n` entries are changed by `f`, an entry among them is. -/
theorem getD_take_map {α : Type} {xs : List α} {n r : Nat} (hn : r < n) (hr : r < xs.length) (f : α → α) (d : α) :
    ((xs.take n).map f ++ xs.drop n).getD r d = f (xs.getD r d) := by
  have inside : r < ((xs.take n).map f).length := by simpa using ⟨hn, hr⟩
  rw [List.getD_append _ _ _ _ inside, List.getD_eq_getElem _ _ inside, List.getD_eq_getElem _ _ hr]
  simp

/-- An MR4 read of a rank has returned `code`. -/
def mr4Read (w : State) (k r code : Nat) : State := (w.mapRank k r (fun y => { y with mr4Due := false })).wr Reg.DMC_RATE_LAST_MR4 code

theorem HasRank.mr4Read (has : HasRank w k r) (code : Nat) : HasRank (mr4Read w k r code) k r := (has.mapRank _).of_dmc (wr_dmc _ _ _)

theorem rank_mr4Read (has : HasRank w k r) (code : Nat) : (mr4Read w k r code).rank k r = { w.rank k r with mr4Due := false } := by
  rw [Proofs.mr4Read, rank_of_dmc (wr_dmc _ _ _), rank_mapRank has]

theorem only_mr4Read (w : State) (k r code : Nat) : onlyParts [.dmc, .regs] w (mr4Read w k r code) :=
  only_wr (only_mapRank only_refl (by decide)) (by decide)

section
variable (hw : w = s.atT i) (due : (w.rank k r).mr4Due = true)
include hw due

theorem exec_mr4Result_higher (higher : rateFactor (w.rank k r).rate < rateFactor 1) :
    exec (.mr4Result k r 4 true i) s = .next ((mr4Read w k r 4).catchUp k r 1) := by
  change execMr4Result k r 4 true i s = _
  unfold execMr4Result
  simp only [← hw, due, if_true, Bool.not_true, Bool.false_eq_true, if_false, mr4Rate, higher, (by decide : ¬(4 : Nat) = 0), (by decide : ¬(4 : Nat) = 7)]
  rfl

theorem exec_mr4Result_lower (lower : rateFactor 0 < rateFactor (w.rank k r).rate) :
    exec (.mr4Result k r 3 true i) s = .next ((mr4Read w k r 3).mapRank k r (fun y => { y with rateNext := some 0 })) := by
  have order : ¬rateFactor (w.rank k r).rate < rateFactor 0 := Nat.lt_asymm lower
  change execMr4Result k r 3 true i s = _
  unfold execMr4Result
  simp only [← hw, due, if_true, Bool.not_true, Bool.false_eq_true, if_false, mr4Rate, lower, order, (by decide : ¬(3 : Nat) = 0), (by decide : ¬(3 : Nat) = 7)]
  rfl

theorem exec_mr4Result_invalid (code : Nat) : exec (.mr4Result k r code false i) s
    = .next ((w.mapRank k r (fun y => { y with mr4Due := false })).blockFault .dmc none 3 0) := by
  change execMr4Result k r code false i s = _
  unfold execMr4Result
  simp only [← hw, due, if_true, Bool.not_false]

end

theorem rank_catchUp (has : HasRank s k r) (paid : (s.rank k r).debt = 0) (rate : Nat) :
    (s.catchUp k r rate).rank k r = { s.rank k r with rate := rate, rateNext := none, retrainDue := true } := by
  have raised : HasRank (s.mapRank k r (fun x => { x with rate := rate, rateNext := none, retrainDue := true })) k r := has.mapRank _
  have rank : ((((s.mapRank k r (fun x => { x with rate := rate, rateNext := none, retrainDue := true })).precharge k r).bump
      (Reg.DMC_CATCHUP_CNT k)).event [Reg.DMC_STAT_RATE_UP]).rank k r = { s.rank k r with rate := rate, rateNext := none, retrainDue := true } := by
    rw [rank_of_dmc (event_dmc _ _), rank_of_dmc (bump_dmc _ _), rank_precharge raised, rank_mapRank has]
  rw [State.catchUp]
  simp only [rank, paid, if_true]

/-! ### The refresh window, power-down and self-refresh (R353, R359, R360, R363) -/

/-- A sub-channel without what its refresh window had tracked of rank `r`. -/
def forgetRank (r : Nat) (c : SubChannel) : SubChannel :=
  { c with
    tracked := c.tracked.filter (fun y => y.rank != r), nrefs := c.nrefs.filter (fun y => y.1 != r)
    acts := c.acts.filter (fun y => y.1 != r), throttled := c.throttled.filter (fun y => y.1 != r) }

theorem exec_rhWindowEnd (hw : w = s.atT i) (trained : (w.subCh k).trained = true)
    (due : (w.rank k r).windowAt + rateWindow (w.rank k r).rate ≤ w.now) :
    exec (.rhWindowEnd k r i) s = .next ((w.mapSubCh k (forgetRank r)).mapRank k r (fun y => { y with
        windowAt := (w.rank k r).windowAt + rateWindow (w.rank k r).rate })) := by
  change execRhWindowEnd k r i s = _
  unfold execRhWindowEnd
  simp only [← hw, trained, due, decide_true, Bool.and_self, if_true]
  rfl

theorem exec_powerDownEntry (hw : w = s.atT i) (on : w.on Reg.DMC_SR_PD_EN = true) (active : (w.subCh k).state = .active) (fitted : r < w.ranksFitted)
    (paid : (w.rank k r).debt = 0) (free : (w.rank k r).refreshAt = none) (calm : (w.rank k r).catchUp = none) (idle : w.rankWaits k r = false)
    (due : (w.rank k r).usedAt + 128000000 / w.dramRate ≤ w.now) :
    exec (.powerDownEntry k r i) s = .next ((w.precharge k r).mapRank k r (fun y => { y with powerDown := true })) := by
  change execPowerDownEntry k r i s = _
  unfold execPowerDownEntry
  simp only [← hw, on, active, fitted, paid, free, calm, idle, due, Option.isNone_none, decide_true, Bool.not_false, Bool.and_self, if_true]

theorem payDebts_of_paid (paid : (s.subCh k).ranks.all (fun y => y.debt == 0) = true) (rs : List Nat) :
    rs.foldl (fun s r => s.payDebt k r s.now) s = s := by
  have each (r : Nat) : (s.rank k r).debt = 0 := by
    rw [State.rank]
    by_cases inside : r < (s.subCh k).ranks.length
    · rw [List.getD_eq_getElem _ _ inside]
      exact eq_of_beq (List.all_eq_true.1 paid _ (List.getElem_mem inside))
    · rw [List.getD_eq_default _ _ (Nat.not_lt.mp inside)]
  induction rs with
  | nil => rfl
  | cons r rs ih => rw [List.foldl_cons, payDebt_of_paid (each r), ih]

theorem exec_selfRefreshEntry_begin (hw : w = s.atT i) (hk : k < w.dmc.subs.length) (on : w.on Reg.DMC_SR_EN = true) (active : (w.subCh k).state = .active)
    (empty : (w.subCh k).queue = []) (due : (w.subCh k).lastReq + max 1 (w.rd Reg.DMC_SR_IDLE_US) * us ≤ w.now)
    (paid : (w.subCh k).ranks.all (fun y => y.debt == 0) = true) :
    exec (.selfRefreshEntry k i) s = .next (w.mapSubCh k (fun c => { c with state := .srEntry, entryAt := w.now + 21000, openRows := [] })) := by
  have paid' : ((w.mapSubCh k (fun c => { c with state := .srEntry, entryAt := w.now + 21000, openRows := [] })).subCh k).ranks.all
      (fun y => y.debt == 0) = true := by rw [subCh_mapSubCh hk]; exact paid
  change execSelfRefreshEntry k i s = _
  unfold execSelfRefreshEntry
  simp only [← hw, on, active, empty, due, List.all_nil, decide_true, Bool.and_self, if_true]
  exact congrArg _ (payDebts_of_paid paid' _)

theorem exec_selfRefreshEntry_end (hw : w = s.atT i) (entering : (w.subCh k).state = .srEntry) (due : (w.subCh k).entryAt ≤ w.now)
    (paid : (w.subCh k).ranks.all (fun y => y.debt == 0 && y.refreshAt.isNone) = true) :
    exec (.selfRefreshEntry k i) s = .next (w.enterSelfRefresh k) := by
  have fitted : ((w.subCh k).ranks.take w.ranksFitted).all (fun y => y.debt == 0 && y.refreshAt.isNone) = true :=
    List.all_eq_true.2 (fun x mem => List.all_eq_true.1 paid x (List.mem_of_mem_take mem))
  have past : ¬SubState.srEntry = SubState.active := by decide
  change execSelfRefreshEntry k i s = _
  unfold execSelfRefreshEntry
  simp only [← hw, entering, past, if_false, if_true, due, fitted, decide_true, Bool.and_self]

theorem enterSelfRefresh_of_unmasked (none_ : s.maskedSegments = []) : s.enterSelfRefresh k = (s.mapSubCh k (fun c => { c with
    state := .selfRefresh, masked := [], openRows := []
    ranks := c.ranks.map (fun x => { x with debt := 0, refreshAt := none, catchUp := none, lastOfBurst := false
                                            mr4Due := false, powerDown := false }) })).bump (Reg.DMC_SR_CNT k) := by
  rw [State.enterSelfRefresh]
  simp only [none_, List.foldl_nil]

/-! ### Training and retraining (R362, R364, R365) -/

/-- A word that is not made zero is the only one at or below its address that reads otherwise, in a store in any form. -/
theorem get_set_below {n : Nat} (st : Store n) {a b : Nat} (below : b < a) {x : BitVec n} (nz : x ≠ 0) :
    Store.get (Store.set st a x) b = Store.get st b := by
  induction st with
  | nil =>
    rw [Store.set, if_neg nz]
    exact if_pos below
  | cons e st ih =>
    obtain ⟨c, y⟩ := e
    rw [Store.set]
    simp only [if_neg nz]
    rcases Nat.lt_trichotomy a c with low | rfl | high
    · rw [if_pos low, Store.get, if_pos below, Store.get, if_pos (by omega)]
    · rw [if_neg (Nat.lt_irrefl a), if_pos rfl, Store.get, if_pos below, Store.get, if_pos below]
    · rw [if_neg (by omega), if_neg (by omega), Store.get, Store.get, ih]

theorem rd_wr_below (s : State) {f g : Field} (hf : f.lo + f.width ≤ 32) (hg : g.lo + g.width ≤ 32) (below : g.addr < f.addr) (x : Nat)
    (nz : f.put (s.live f.addr) x ^^^ Reg.resetWord f.addr ≠ 0) : (s.wr f x).rd g = s.rd g := by
  have words : (s.wr f x).live g.addr = s.live g.addr := by
    rw [State.wr, if_pos hf]
    exact congrArg (· ^^^ Reg.resetWord g.addr) (get_set_below _ below nz)
  have tunings : (s.wr f x).tuned = s.tuned := funext (tuned_wr s f x)
  rw [State.rd, State.rd, tunings, read_congr g hg _ _ words]

theorem resetWord_trainRes (k : Nat) : Reg.resetWord (Reg.DMC_TRAIN_RES k).addr = 0 := by
  change Reg.resetWord 0x30002c = 0
  decide

/-- The result of a training that has not failed does not make its word zero. -/
theorem put_trainRes (low : k < 4) (x : Word) : (Reg.DMC_TRAIN_RES k).put x 1 ^^^ Reg.resetWord (Reg.DMC_TRAIN_RES k).addr ≠ 0 := by
  rw [resetWord_trainRes, show (0 : Word) = 0#32 from rfl, BitVec.xor_zero]
  intro zero
  have one := read_put (Reg.DMC_TRAIN_RES k) (by simp only [Reg.DMC_TRAIN_RES]; omega) (fun _ => (Reg.DMC_TRAIN_RES k).put x 1) x 1 rfl
  rw [zero, Field.read, if_pos (by simp only [Reg.DMC_TRAIN_RES]; omega)] at one
  simp [Reg.DMC_TRAIN_RES] at one

theorem exec_train {m : Master} (hw : w = s.atT i) (able : commandable w m .dmc none) : exec (.train m i) s = .next w.trainCmd.done := by
  change Host.Outcome.next ((s.atT i).strobe m .dmc none false State.trainCmd) = _
  rw [← hw, strobe_of_commandable able]

theorem beginTraining_trains (w : State) : w.beginTraining.dmc.subs.all (fun y => y.state == .training) = true := by
  change (w.dmc.subs.map (fun _ => ({ state := .training } : SubChannel))).all _ = true
  simp

/-- A sub-channel as a training that has not failed leaves it. -/
def ready (now : Nat) (ranks : List DramRank) (c : SubChannel) : SubChannel := { c with state := .active, ranks := ranks, lastReq := now }

/-- The training of sub-channel `k` has not failed. -/
def subTrained (w : State) (k : Nat) : State := (w.mapSubCh k (ready w.now (w.freshRanks k))).wr (Reg.DMC_TRAIN_RES k) 1

/-- DRAM's `n` bytes are undefined, and none is poisoned. -/
def undefinedDram (v : State) (n : Nat) : State := (v.mapDmc (fun d => { d with lost := [], poison := [] })).loseDram 0 n none

section
variable (v : State) (n : Nat)

theorem subs_undefinedDram : (undefinedDram v n).dmc.subs = v.dmc.subs := rfl

theorem poison_undefinedDram : (undefinedDram v n).dmc.poison = [] := rfl

theorem lost_undefinedDram : (undefinedDram v n).dmc.lost = [{ lo := 0, hi := n, sub := none, draw := v.fresh }] := rfl

theorem fresh_undefinedDram : (undefinedDram v n).fresh = v.fresh + 1 := rfl

end

theorem only_undefinedDram {ps : List Part} (h : onlyParts ps w v) (hp : [.mems, .dmc, .fresh] ⊆ ps) (n : Nat) : onlyParts ps w (undefinedDram v n) :=
  only_loseDram (only_mapDmc h (List.Subset.trans (by decide) hp)) hp

theorem fresh_subTrained (w : State) (k : Nat) : (subTrained w k).fresh = w.fresh := wr_fresh _ _ _

theorem usableBytes_subTrained (low : k < 4) : (subTrained w k).usableBytes = w.usableBytes := by
  have cfg (g : Field) (hg : g.lo + g.width ≤ 32) (ha : g.addr < 0x30002c) : (subTrained w k).rd g = w.rd g :=
    (rd_wr_below _ (by simp only [Reg.DMC_TRAIN_RES]; omega) hg ha 1 (put_trainRes low _)).trans (rd_of_regs rfl g)
  rw [State.usableBytes, State.fittedGiB, State.dens, State.ranksFitted, cfg _ (by decide) (by decide), cfg _ (by decide) (by decide)]
  rfl

theorem all_set {α : Type} {xs : List α} {k : Nat} {a b : α} {q : α → Bool} (others : (xs.set k a).all q = true) (hb : q b = true) :
    (xs.set k b).all q = true := by
  rw [List.all_eq_true] at others ⊢
  intro x mem
  rw [← List.set_set a] at mem
  rcases List.mem_or_eq_of_mem_set mem with old | rfl
  · exact others x old
  · exact hb

theorem subs_subTrained (w : State) (k : Nat) : (subTrained w k).dmc.subs = w.dmc.subs.set k (ready w.now (w.freshRanks k) (w.subCh k)) := by
  rw [subTrained, wr_dmc]
  exact (modAt_congr (g := fun _ => ready w.now (w.freshRanks k) (w.subCh k)) (d := {}) rfl).trans (modAt_const _ _ _)

theorem exec_trainDone_last (hw : w = s.atT i) (training : (w.subCh k).state = .training)
    (last : (w.dmc.subs.set k {}).all (fun y => y.state != .training && y.state != .failed) = true) :
    exec (.trainDone k 1 i) s = .next ((undefinedDram (subTrained w k) (subTrained w k).usableBytes).event [Reg.DMC_STAT_TRAIN_DONE]) := by
  have done : ((subTrained w k).dmc.subs).all (fun y => y.state != .training && y.state != .failed) = true := by
    rw [subs_subTrained]
    exact all_set last rfl
  have none_in (st : SubState) (out : st = .training ∨ st = .failed) : (subTrained w k).dmc.subs.any (fun c => c.state == st) = false := by
    rw [List.any_eq_false]
    intro c mem same
    have apart := List.all_eq_true.1 done c mem
    rcases out with rfl | rfl <;> simp_all
  have untrained := none_in .training (.inl rfl)
  have failed : (undefinedDram (subTrained w k) (subTrained w k).usableBytes).dmc.subs.any (fun c => c.state == .failed) = false :=
    none_in .failed (.inr rfl)
  change execTrainDone k 1 i s = _
  unfold execTrainDone
  simp only [← hw, training, if_true]
  change (if (subTrained w k).dmc.subs.any (fun c => c.state == .training) = true then _ else
    if (undefinedDram (subTrained w k) (subTrained w k).usableBytes).dmc.subs.any (fun c => c.state == .failed) = true then _ else _) = _
  rw [untrained, failed]
  rfl

theorem exec_retrain (hw : w = s.atT i) {drift : Nat} (mode : w.chp.mode = .service ∨ w.chp.mode = .test) (active : (w.subCh k).state = .active)
    (fitted : r < w.ranksFitted) (due : (w.rank k r).retrainDue = true) (near : drift ≤ w.rd Reg.DMC_RETRAIN_DRIFT_PS) :
    ∃ next, exec (.retrain k r drift true i) s = .next ((w.precharge k r).mapRank k r (fun y =>
      { y with retrainDue := false, retrainAt := next, retrainTo := w.now + 400000, powerDown := false })) := by
  have mode' : (decide (w.chp.mode = .service) || decide (w.chp.mode = .test)) = true := by simpa using mode
  have close : ¬w.rd Reg.DMC_RETRAIN_DRIFT_PS < drift := Nat.not_lt.mpr near
  change ∃ next, execRetrain k r drift true i s = _
  unfold execRetrain
  simp only [← hw, mode', active, fitted, due, close, decide_true, Bool.and_self, Bool.true_or, if_true, if_false]
  exact ⟨_, rfl⟩

theorem exec_zqCalibration (hw : w = s.atT i) (mode : w.chp.mode = .service ∨ w.chp.mode = .test) (active : (w.subCh k).state = .active)
    (due : (w.rank k r).zqAt + 64 * ms ≤ w.now) :
    exec (.zqCalibration k r i) s = .next (w.mapRank k r (fun y => { y with zqAt := w.now })) := by
  have mode' : (decide (w.chp.mode = .service) || decide (w.chp.mode = .test)) = true := by simpa using mode
  change execZqCalibration k r i s = _
  unfold execZqCalibration
  simp only [← hw, mode', active, due, decide_true, Bool.and_self, if_true]

/-- Settles O37. -/
theorem dramKeepsItsData : Obligations.DramKeepsItsData := by
  intro t s w k r c x hw low hk fitted hr hc hx
  subst hc hx
  have has : HasRank w k r := ⟨hk, hr⟩
  refine ⟨?_, ?_, ?_, ?_, ?_, ?_, ?_, ?_, ?_, ?_, ?_, ?_, ?_, ?_, ?_⟩
  · intro active due steady paid free calm idle
    exact refreshInterval_pays hw has active fitted due steady paid free calm idle
  · intro a active begun ended calm paid
    exact ⟨_, exec_refreshComplete hw has active begun ended calm paid, rank_mapRank has _, only_mapRank only_refl (by decide)⟩
  · intro due active
    refine ⟨_, exec_mr4Poll hw due, rfl, ?_, only_mapDmc only_refl (by decide)⟩
    rw [State.rank, State.subCh]
    change List.getD (SubChannel.ranks (List.getD (List.map _ w.dmc.subs) k {})) r {} = _
    rw [getD_map_lt hk _ _ {}, if_pos (by rw [show w.dmc.subs.getD k {} = w.subCh k from rfl, active]; rfl)]
    exact getD_take_map fitted hr _ _
  · intro due normal paid
    refine ⟨_, exec_mr4Result_higher hw due (by rw [normal]; decide), ?_, only_catchUp (only_mr4Read w k r 4) (by decide)⟩
    rw [rank_catchUp (has.mr4Read 4) (by rw [rank_mr4Read has]; exact paid), rank_mr4Read has]
  · intro due twice
    refine ⟨_, exec_mr4Result_lower hw due (by rw [twice]; decide), ?_, only_mapRank (only_mr4Read w k r 3) (by decide)⟩
    rw [rank_mapRank (has.mr4Read 3), rank_mr4Read has]
  · exact fun due => exec_mr4Result_invalid hw due 3
  · intro trained due
    have kept : HasRank (w.mapSubCh k (forgetRank r)) k r := has.mapSubCh rfl
    refine ⟨_, exec_rhWindowEnd hw trained due, ?_, ?_, ?_, only_mapRank (only_mapSubCh only_refl (by decide)) (by decide)⟩
    · rw [State.mapRank, subCh_mapSubCh kept.sub, subCh_mapSubCh hk]; rfl
    · rw [State.mapRank, subCh_mapSubCh kept.sub, subCh_mapSubCh hk]; rfl
    · rw [rank_mapRank kept]
  · intro on active paid free calm idle due
    refine ⟨_, exec_powerDownEntry hw on active fitted paid free calm idle due, ?_, ?_, only_mapRank (only_precharge only_refl (by decide)) (by decide)⟩
    · rw [rank_mapRank (has.precharge r), rank_precharge has]
    · rw [State.mapRank, subCh_mapSubCh (has.precharge r).sub, State.precharge, subCh_mapSubCh hk]
  · intro on active empty due paid
    exact ⟨_, exec_selfRefreshEntry_begin hw hk on active empty due paid, subCh_mapSubCh hk _, only_mapSubCh only_refl (by decide)⟩
  · intro entering due paid unmasked wf
    refine ⟨_, exec_selfRefreshEntry_end hw entering due paid, ?_⟩
    rw [enterSelfRefresh_of_unmasked unmasked]
    refine ⟨?_, ?_, bump_mems _ _, (rd_bump wf _ rfl Nat.le.refl).trans rfl, only_bump (only_mapSubCh only_refl (by decide)) (by decide)⟩
    all_goals rw [subCh_of_dmc (congrArg Dmc.subs (bump_dmc _ _)), subCh_mapSubCh hk]
  · intro m able test
    refine ⟨_, exec_train hw able, ?_, ?_⟩
    · rw [State.trainCmd, if_pos test]
      exact beginTraining_trains w
    · exact only_done (only_trainCmd only_refl (by decide)) (by decide)
  · intro m able other
    rw [exec_train hw able, State.trainCmd, if_neg other]
  · intro training four last
    refine ⟨_, exec_trainDone_last hw training last, ?_, ?_, ?_, ?_, ?_⟩
    · rw [subCh_of_dmc (congrArg Dmc.subs (event_dmc _ _)), subCh_of_dmc (subs_undefinedDram _ _), subTrained, subCh_of_dmc (congrArg Dmc.subs (wr_dmc _ _ _)),
        subCh_mapSubCh hk]
      rfl
    · rw [event_dmc, poison_undefinedDram]
    · rw [event_dmc, lost_undefinedDram, usableBytes_subTrained low, fresh_subTrained]
    · rw [event_fresh, fresh_undefinedDram, fresh_subTrained]
    · exact only_event (only_undefinedDram (only_wr (only_mapSubCh only_refl (by decide)) (by decide)) (by decide) _) (by decide)
  · intro drift mode active due near
    obtain ⟨next, run⟩ := exec_retrain hw mode active fitted due near
    refine ⟨_, run, ?_, ?_, only_mapRank (only_precharge only_refl (by decide)) (by decide)⟩
    all_goals rw [rank_mapRank (has.precharge r)]
  · exact fun mode active due => exec_zqCalibration hw mode active due

end Sys2Proof.Proofs
end

section
/-! The record that the event recorder forms (R489 to R497), and the log's addresses: a sector number has no bound in the model's state, and the
48 bits of DETAIL hold an address's low bits alone. -/

namespace Sys2Proof.Proofs

open Sys2Proof Sys2Proof.Machine Sys2Proof.Safety Sys2Proof.Laws

variable {s t u v w : State} {i : Instant} {kind code detail zone : Nat} {esc : Bool}

/-! ### The record formed -/

/-- The record that is formed now. -/
def recordNow (s : State) (kind code detail : Nat) (esc : Bool) : EvRec :=
  { seq := s.rd Reg.EVR_NEXT_SEQ, kind := kind
    flags := (if esc then 1 else 0) + (if s.tim.timeSet then 0 else 2) + (if s.tim.state = .holdover then 4 else 0)
    code := code, uptime := s.uptimeNs, time := s.devTime, detail := detail % 2 ^ 64 }

theorem buf_startPage (s : State) : s.startPage.evr.buf = s.evr.buf := by
  unfold State.startPage
  extract_lets e
  repeat' split
  all_goals simp only [mapEvr_evr, causeGone_evr, eventStands_evr]

theorem waiting_lt (room : s.evr.buf.length < 2048) : ¬2048 ≤ s.evr.waiting.length := by
  have some : s.evr.waiting.length ≤ s.evr.buf.length := by
    rw [Evr.waiting, List.length_map]
    exact List.length_filter_le _ _
  omega

theorem setLastWords_evr (s : State) (r : EvRec) : (s.setLastWords r).evr = s.evr := by simp [State.setLastWords]

theorem buf_enterRecord (room : s.evr.buf.length < 2048) :
    (s.enterRecord kind code detail esc).evr.buf = s.evr.buf ++ [(recordNow s kind code detail esc, false)] := by
  unfold State.enterRecord
  rw [if_neg (by simp [waiting_lt room])]
  extract_lets flags r s1 s2 media s3
  have h1 : s1.evr.buf = s.evr.buf ++ [(recordNow s kind code detail esc, false)] := by
    simp only [s1, mapEvr_evr, Evr.enter, if_pos room]
    rfl
  have h2 : s2.evr.buf = s1.evr.buf := by simp [s2]
  have h3 : s3.evr.buf = s2.evr.buf := by
    simp only [s3]
    repeat' split
    all_goals simp only [setLastWords_evr]
  rw [← h1, ← h2, ← h3]
  split <;> rfl

theorem buf_rollSecond (s : State) : s.rollSecond.evr.buf = s.evr.buf := by
  unfold State.rollSecond
  extract_lets now
  split <;> rfl

/-- Device time is a function of the disciplined time's own state, TIM.ADJ and SLEW_PPM (R482, R485, R486). -/
theorem devTime_congr (tim : v.tim = s.tim) (now : v.now = s.now) (adj : v.rd Reg.TIM_ADJ = s.rd Reg.TIM_ADJ)
    (ppm : v.rd Reg.TIM_SLEW_PPM = s.rd Reg.TIM_SLEW_PPM) : v.devTime = s.devTime := by
  simp only [State.devTime, State.adjNs, State.slewNs, tim, now, adj, ppm]

theorem recordNow_congr (regs : v.regs = s.regs) (tim : v.tim = s.tim) (now : v.now = s.now) :
    recordNow v kind code detail esc = recordNow s kind code detail esc := by
  simp only [recordNow, State.uptimeNs, rd_of_regs regs, tim, now, devTime_congr tim now (rd_of_regs regs _) (rd_of_regs regs _)]

theorem record_of_exempt (s : State) (exempt : exemptCodes.contains code = true) : s.record 1 code detail = s.rollSecond.form 1 code detail false := by
  rw [State.record]
  simp only [exempt, decide_true, Bool.and_self, Bool.true_or, if_true]

/-- A record that is never rate-limited enters the retained buffer while that has room (R490, R492, R493). -/
theorem buf_record (room : s.evr.buf.length < 2048) (exempt : exemptCodes.contains code = true) :
    (s.record 1 code detail).evr.buf = s.evr.buf ++ [(recordNow s 1 code detail false, false)] := by
  have rolled : onlyParts [.evr] s s.rollSecond := only_rollSecond only_refl (by decide)
  rw [record_of_exempt s exempt, State.form, buf_startPage, buf_enterRecord (by rwa [buf_rollSecond]), buf_rollSecond,
    recordNow_congr (rolled .regs (by decide)) (rolled .tim (by decide)) (rolled .now (by decide))]

theorem newest_record (room : s.evr.buf.length < 2048) (exempt : exemptCodes.contains code = true) :
    newest (s.record 1 code detail) = some (1, code, detail % 2 ^ 64) := by
  rw [newest, buf_record room exempt, List.getLast?_concat]
  rfl

/-! ### The log (R494, R496) -/

theorem exec_sectorEraseDone_failed {k : Nat} (hw : w = s.atT i) (erases : w.evr.eraseSector = some k) :
    exec (.sectorEraseDone false i) s = .next (w.sealLog (logAddr (k, 0)) 2) := by
  change execSectorEraseDone false i s = _
  unfold execSectorEraseDone
  simp only [← hw, erases, Bool.not_false, if_true]

theorem newest_sealLog (room : s.evr.buf.length < 2048) (addr k : Nat) :
    newest (s.sealLog addr k) = some (1, evMediaFault, (addr + k * 2 ^ 32) % 2 ^ 64) := by
  rw [State.sealLog]
  exact newest_record (by rwa [eventStands_evr]) rfl

/-- A recorder in the midst of an erase of a sector whose address takes more than DETAIL's 64 bits. -/
def farErase : State := { State.reset with evr := { eraseSector := some (2 ^ 48) } }

/-- Refutes O51: DETAIL is 64 bits, and nothing in the statement bounds the number of the sector whose erase fails. -/
theorem not_recorderKeepsItsLog : ¬Obligations.RecorderKeepsItsLog := by
  intro holds
  have here : onlyParts [.now, .regs, .psq, .pfl, .dts, .guards, .tiu, .eth] farErase (farErase.atT 0) := only_atT only_refl (List.Subset.refl _)
  have evr : (farErase.atT 0).evr = { eraseSector := some (2 ^ 48) } := here .evr (by decide)
  have room : (farErase.atT 0).evr.buf.length < 2048 := by rw [evr]; decide
  obtain ⟨-, -, -, -, erase, -⟩ := holds 0 farErase _ rfl (by decide +kernel)
  obtain ⟨v, run, -, -, last, -⟩ := erase (2 ^ 48) (by rw [evr]) room
  obtain rfl := Host.Outcome.next.inj ((exec_sectorEraseDone_failed rfl (by rw [evr])).symm.trans run)
  rw [newest_sealLog room] at last
  exact absurd last (by decide)

end Sys2Proof.Proofs
end

section
/-! Device time (R482 to R487): steps, slews, the servo's lock and PPS. -/

namespace Sys2Proof.Proofs

open Sys2Proof Sys2Proof.Machine Sys2Proof.Safety Sys2Proof.Laws

variable {s t u v w : State} {i : Instant} {as : List Nat} {d : Int}

/-! ### Device time -/

theorem devTime_lt (s : State) : s.devTime < 2 ^ 64 := by
  rw [State.devTime]
  omega

/-- Device time set down anew reads the same, once nothing is added to it. -/
theorem devTime_of_base (base : v.tim.base = s.devTime) (at_ : v.tim.baseAt = v.now) (still : v.slewNs = 0) : v.devTime = s.devTime := by
  have small := devTime_lt s
  have rate : v.adjNs 0 = 0 := by simp only [State.adjNs, Nat.cast_zero, zero_mul, Int.zero_ediv]
  conv_lhs => unfold State.devTime
  simp only [base, at_, Nat.sub_self, Nat.zero_div, still, rate]
  omega

theorem devTime_of_step (s : State) (x : Option (Nat × Nat)) : (s.mapTim (fun y => { y with step := x })).devTime = s.devTime := rfl

theorem rd_mapTim (s : State) (g : Tim → Tim) (f : Field) : (s.mapTim g).rd f = s.rd f := rfl

/-- What slews or a change of the servo's state keeps of time: device time's own words. -/
theorem devTime_of_live (h : LiveIn as s v) (wf : storeWf s.regs.live = true) (tim : v.tim = s.tim) (now : v.now = s.now)
    (adj : Reg.TIM_ADJ.addr ∉ as := by decide) (ppm : Reg.TIM_SLEW_PPM.addr ∉ as := by decide) : v.devTime = s.devTime :=
  devTime_congr tim now (h.rd wf rfl (by decide) adj) (h.rd wf rfl (by decide) ppm)

/-! ### Steps (R484) -/

theorem realign_eq (s : State) : s.realign = (s.now / 10 ^ 6 + 1) * 10 ^ 6 := by
  simp only [State.realign, us]
  norm_num

theorem exec_timSet {m : Master} {x : BitVec 64} {servo : Bool} (hw : w = s.atT i) (able : commandable w m .tim none) :
    exec (.timSet m x servo i) s = .next (w.setTime x.toNat servo).done := by
  change Host.Outcome.next ((s.atT i).strobe m .tim none false (fun s => s.setTime x.toNat servo)) = _
  rw [← hw, strobe_of_commandable able]

/-- Device time has stepped to `x`, not yet recorded. -/
def stepped (w : State) (x : Nat) : State :=
  ((w.mapTim (fun y => { y with base := x, baseAt := w.now, slew := none, step := none, timeSet := true })).bump Reg.TIM_STEP_CNT).event
    [Reg.TIM_STAT_CLOCK_SET]

theorem exec_timeStep {x : Nat} (hw : w = s.atT i) (due : w.tim.step = some (x, w.now)) :
    exec (.timeStep i) s = .next ((stepped w x).record 1 evClockSet w.devTime) := by
  change execTimeStep i s = _
  unfold execTimeStep
  simp only [← hw, due, Nat.le_refl, if_true]
  rfl

theorem tim_stepped (w : State) (x : Nat) :
    (stepped w x).tim = { w.tim with base := x, baseAt := w.now, slew := none, step := none, timeSet := true } := by
  rw [stepped, event_tim, bump_tim, mapTim_tim]

theorem now_stepped (w : State) (x : Nat) : (stepped w x).now = w.now := by
  rw [stepped, event_now, bump_now]
  rfl

theorem devTime_stepped {x : Nat} (small : x < 2 ^ 64) : (stepped w x).devTime = x := by
  simp only [State.devTime, State.slewNs, State.adjNs, tim_stepped, now_stepped, Nat.sub_self, Nat.zero_div]
  simp only [Nat.cast_zero, zero_mul, Int.zero_ediv, add_zero]
  omega

theorem liveIn_stepped (w : State) (x : Nat) : LiveIn [Reg.TIM_STEP_CNT.addr, Reg.TIM_STAT_CLOCK_SET.addr] w (stepped w x) := by
  have base : LiveIn [Reg.TIM_STEP_CNT.addr, Reg.TIM_STAT_CLOCK_SET.addr] w
      (w.mapTim (fun y => { y with base := x, baseAt := w.now, slew := none, step := none, timeSet := true })) := LiveIn.refl.of_live rfl
  exact (base.wr _ _).event _

theorem record_tim (s : State) (kind code detail zone : Nat) (esc : Bool) : (s.record kind code detail zone esc).tim = s.tim :=
  only_record (ps := [.regs, .evr]) only_refl (by decide) .tim (by decide)

theorem record_now (s : State) (kind code detail zone : Nat) (esc : Bool) : (s.record kind code detail zone esc).now = s.now :=
  only_record (ps := [.regs, .evr]) only_refl (by decide) .now (by decide)

theorem devTime_record (wf : storeWf s.regs.live = true) (kind code detail zone : Nat) (esc : Bool) :
    (s.record kind code detail zone esc).devTime = s.devTime :=
  devTime_of_live liveIn_record wf (record_tim _ _ _ _ _ _) (record_now _ _ _ _ _ _)

theorem rd_stepCnt_stepped (wf : storeWf w.regs.live = true) (x : Nat) :
    (stepped w x).rd Reg.TIM_STEP_CNT = min (w.rd Reg.TIM_STEP_CNT + 1) (2 ^ 32 - 1) := by
  have wf' : storeWf (w.mapTim (fun y => { y with base := x, baseAt := w.now, slew := none, step := none, timeSet := true })).regs.live = true := wf
  rw [stepped, rd_event_other (wf_bump wf' _) _ _ _ (by decide) (.inr (by decide)), rd_bump wf' _ rfl (by decide)]
  rfl

theorem only_stepped (w : State) (x : Nat) : onlyParts [.tim, .regs, .evr] w (stepped w x) :=
  only_event (only_bump (only_mapTim only_refl (by decide)) (by decide)) (by decide)

/-! ### Offsets (R486, R487) -/

/-- An offset below STEP.NS and not 0 is slewed away (R486). -/
theorem correctTime_of_small (small : d.natAbs < s.rd Reg.TIM_STEP_NS) (some_ : d ≠ 0) : s.correctTime d = s.rebaseTime.mapTim (fun x =>
    { x with slew := some (d, s.rebaseTime.now + d.natAbs * 1000000000 / max 1 (s.rebaseTime.rd Reg.TIM_SLEW_PPM)) }) := by
  rw [State.correctTime, if_pos small]
  simp only [if_neg some_]

theorem correctTime_of_large (large : s.rd Reg.TIM_STEP_NS ≤ d.natAbs) :
    s.correctTime d = s.mapTim (fun x => { x with step := some (((((s.devTimeAt s.realign : Nat) : Int) + d) % 2 ^ 64).toNat, s.realign) }) := by
  rw [State.correctTime, if_neg (Nat.not_lt.mpr large)]

/-- What a correction keeps of the servo: its state and its counts. -/
theorem correctTime_keeps {α : Type} (f : Tim → α) (s : State) (d : Int)
    (blind : ∀ x, f x = f { x with base := 0, baseAt := 0, slew := none, step := none } := by intro; rfl) : f (s.correctTime d).tim = f s.tim := by
  rw [State.correctTime]
  split
  · rw [blind, blind s.tim]; rfl
  · rw [blind, blind s.tim]; rfl

/-- The servo in MODE 1 has noted an offset (R486, R487). -/
def noted (w : State) (d : Int) : State :=
  (w.wr Reg.TIM_OFFSET (wrapN 32 d)).mapTim (fun x => { x with
    state := if x.state = .free then .acquiring else x.state, syncAt := w.now
    good := if d.natAbs < w.rd Reg.TIM_LOCK_NS then x.good + 1 else 0
    bad := if 4 * w.rd Reg.TIM_LOCK_NS < d.natAbs then x.bad + 1 else 0 })

theorem exec_ptpSync (hw : w = s.atT i) (mode : w.rd Reg.TIM_MODE = 1) : exec (.ptpSync d i) s = .next (
    if (noted w d).tim.state = .locked then if 4 ≤ (noted w d).tim.bad then (noted w d).loseLock 2 else (noted w d).correctTime d
    else if 16 ≤ (noted w d).tim.good then
      ((((noted w d).mapTim (fun x => { x with state := .locked })).event [Reg.TIM_STAT_LOCK]).record 1 evPtpLock (wrapN 64 d)).correctTime d
    else if (noted w d).tim.state = .holdover then noted w d else (noted w d).correctTime d) := by
  have one : ¬w.rd Reg.TIM_MODE ≠ 1 := not_not.mpr mode
  have now : (w.wr Reg.TIM_OFFSET (wrapN 32 d)).now = w.now := wr_now _ _ _
  change execPtpSync d i s = _
  unfold execPtpSync
  simp only [← hw, one, if_false, now]
  simp only [apply_ite Host.Outcome.next]
  rfl

/-- The live word that the servo's note of an offset moves. -/
theorem liveIn_noted (w : State) (d : Int) : LiveIn [Reg.TIM_OFFSET.addr] w (noted w d) := by
  have offset : LiveIn [Reg.TIM_OFFSET.addr] w (w.wr Reg.TIM_OFFSET (wrapN 32 d)) := LiveIn.refl.wr _ _
  exact offset.of_live rfl

theorem rd_noted (wf : storeWf w.regs.live = true) (f : Field) (ht : f.tuned = false) (hf : f.lo + f.width ≤ 32)
    (ha : f.addr ∉ [Reg.TIM_OFFSET.addr]) : (noted w d).rd f = w.rd f := (liveIn_noted w d).rd wf ht hf ha

theorem rd_offset_noted (wf : storeWf w.regs.live = true) (d : Int) : (noted w d).rd Reg.TIM_OFFSET = (d % 2 ^ 32).toNat := by
  have written : (noted w d).rd Reg.TIM_OFFSET = wrapN 32 d % 2 ^ 32 :=
    (rd_of_regs (v := noted w d) (s := w.wr Reg.TIM_OFFSET (wrapN 32 d)) rfl _).trans (rd_wr wf _ rfl (by decide) _)
  rw [written, wrapN_mod]
  rfl

theorem tim_noted (w : State) (d : Int) : (noted w d).tim = { w.tim with
    state := if w.tim.state = .free then .acquiring else w.tim.state, syncAt := w.now
    good := if d.natAbs < w.rd Reg.TIM_LOCK_NS then w.tim.good + 1 else 0
    bad := if 4 * w.rd Reg.TIM_LOCK_NS < d.natAbs then w.tim.bad + 1 else 0 } := by
  rw [noted, mapTim_tim, wr_tim]

theorem now_noted (w : State) (d : Int) : (noted w d).now = w.now := by
  rw [noted, mapTim_now, wr_now]

theorem devTime_noted (wf : storeWf w.regs.live = true) (d : Int) : (noted w d).devTime = w.devTime := by
  have adj := rd_noted (d := d) wf Reg.TIM_ADJ rfl (by decide) (by decide)
  have ppm := rd_noted (d := d) wf Reg.TIM_SLEW_PPM rfl (by decide) (by decide)
  simp only [State.devTime, State.adjNs, State.slewNs, tim_noted, now_noted, adj, ppm]

theorem only_noted (w : State) (d : Int) : onlyParts [.tim, .regs] w (noted w d) :=
  only_mapTim (only_wr only_refl (by decide)) (by decide)

/-- A slew adds nothing at the instant at which it begins. -/
theorem slewNs_begun {e : Nat} (slew : s.tim.slew = some (d, e)) (at_ : s.tim.baseAt = s.now) (later : s.now < e) : s.slewNs = 0 := by
  simp only [State.slewNs, slew, at_, Nat.sub_self, Nat.zero_div, Nat.cast_zero, zero_mul, Int.zero_ediv, if_neg (Nat.not_le.mpr later)]
  split <;> omega

theorem devTime_rebaseTime_slew (s : State) {e : Nat} (later : s.now < e) :
    (s.rebaseTime.mapTim (fun x => { x with slew := some (d, e) })).devTime = s.devTime :=
  devTime_of_base rfl rfl (slewNs_begun rfl rfl later)

/-- A lost lock (R487). -/
theorem tim_loseLock (s : State) (why : Nat) : (s.loseLock why).tim = { s.tim with state := .holdover, good := 0, bad := 0 } := by
  rw [State.loseLock, record_tim, bump_tim, event_tim, mapTim_tim]

theorem liveIn_loseLock (s : State) (why : Nat) :
    LiveIn (recorderWords ++ [Reg.TIM_STAT_LOST.addr, Reg.TIM_LOST_CNT.addr]) s (s.loseLock why) := by
  have free : LiveIn (recorderWords ++ [Reg.TIM_STAT_LOST.addr, Reg.TIM_LOST_CNT.addr]) s
      (s.mapTim (fun x => { x with state := .holdover, good := 0, bad := 0 })) := LiveIn.refl.of_live rfl
  exact ((free.event Reg.TIM_STAT_LOST).wr Reg.TIM_LOST_CNT _).trans (liveIn_mono liveIn_record (List.subset_append_left _ _))

theorem rd_lostCnt_loseLock (wf : storeWf s.regs.live = true) (why : Nat) :
    (s.loseLock why).rd Reg.TIM_LOST_CNT = min (s.rd Reg.TIM_LOST_CNT + 1) (2 ^ 32 - 1) := by
  have wf' : storeWf (s.mapTim (fun x => { x with state := .holdover, good := 0, bad := 0 })).regs.live = true := wf
  rw [State.loseLock, liveIn_record.rd (wf_bump (wf_event wf' _) _) rfl (by decide) (by decide), rd_bump (wf_event wf' _) _ rfl (by decide),
    rd_event_other wf' _ _ _ (by decide) (.inr (by decide))]
  rfl

theorem only_loseLock' (s : State) (why : Nat) : onlyParts [.tim, .regs, .evr] s (s.loseLock why) := only_loseLock only_refl (by decide)

theorem devTime_loseLock (wf : storeWf s.regs.live = true) (why : Nat) : (s.loseLock why).devTime = s.devTime := by
  have adj := (liveIn_loseLock s why).rd wf (f := Reg.TIM_ADJ) rfl (by decide) (by decide)
  have ppm := (liveIn_loseLock s why).rd wf (f := Reg.TIM_SLEW_PPM) rfl (by decide) (by decide)
  have now : (s.loseLock why).now = s.now := only_loseLock' s why .now (by decide)
  simp only [State.devTime, State.adjNs, State.slewNs, tim_loseLock, now, adj, ppm]

/-- The servo has locked, and has recorded it (R487). -/
def locked (w : State) (d : Int) : State :=
  (((noted w d).mapTim (fun x => { x with state := .locked })).event [Reg.TIM_STAT_LOCK]).record 1 evPtpLock (wrapN 64 d)

theorem tim_locked (w : State) (d : Int) : (locked w d).tim = { (noted w d).tim with state := .locked } := by
  rw [locked, record_tim, event_tim, mapTim_tim]

theorem only_locked (w : State) (d : Int) : onlyParts [.tim, .regs, .evr] w (locked w d) :=
  only_record (only_event (only_mapTim (onlyParts_mono (only_noted w d) (by decide)) (by decide)) (by decide)) (by decide)

/-- An offset that leaves the servo acquiring is noted and slewed away. -/
theorem ptpSync_acquires (hw : w = s.atT i) (wf : storeWf w.regs.live = true) (mode : w.rd Reg.TIM_MODE = 1) (acquiring : w.tim.state = .acquiring)
    (few : w.tim.good < 15) (small : d.natAbs < w.rd Reg.TIM_STEP_NS) (some_ : d ≠ 0) (near : d.natAbs < w.rd Reg.TIM_LOCK_NS) :
    ∃ v, exec (.ptpSync d i) s = .next v ∧ v.tim.state = .acquiring ∧ v.tim.good = w.tim.good + 1 ∧ v.tim.bad = 0 ∧ v.tim.syncAt = w.now
      ∧ v.rd Reg.TIM_OFFSET = (d % 2 ^ 32).toNat ∧ v.tim.step = w.tim.step
      ∧ v.tim.slew = some (d, w.now + d.natAbs * 10 ^ 9 / max 1 (w.rd Reg.TIM_SLEW_PPM)) ∧ v.devTime = w.devTime ∧ onlyParts [.tim, .regs] w v := by
  have state : (noted w d).tim.state = .acquiring := by rw [tim_noted, acquiring]; rfl
  have good : (noted w d).tim.good = w.tim.good + 1 := by rw [tim_noted]; exact if_pos near
  have bad : (noted w d).tim.bad = 0 := by rw [tim_noted]; exact if_neg (by omega)
  have ppm : (noted w d).rebaseTime.rd Reg.TIM_SLEW_PPM = w.rd Reg.TIM_SLEW_PPM :=
    (rd_of_regs rfl _).trans (rd_noted wf _ rfl (by decide) (by decide))
  have run : exec (.ptpSync d i) s = .next ((noted w d).correctTime d) := by
    rw [exec_ptpSync hw mode, state, good, if_neg (by decide), if_neg (by omega), if_neg (by decide)]
  have later : w.now < w.now + d.natAbs * 1000000000 / max 1 (w.rd Reg.TIM_SLEW_PPM) := by
    have slow : w.rd Reg.TIM_SLEW_PPM < 2 ^ 8 := rd_lt w Reg.TIM_SLEW_PPM
    have : 0 < d.natAbs * 1000000000 / max 1 (w.rd Reg.TIM_SLEW_PPM) := by
      refine Nat.div_pos ?_ (by omega)
      have : max 1 (w.rd Reg.TIM_SLEW_PPM) ≤ 256 := by omega
      omega
    exact Nat.lt_add_of_pos_right this
  refine ⟨_, run, ?_, ?_, ?_, ?_, ?_, ?_, ?_, ?_, only_correctTime (only_noted w d) (by decide)⟩
  · rw [correctTime_keeps Tim.state, state]
  · rw [correctTime_keeps Tim.good, good]
  · rw [correctTime_keeps Tim.bad, bad]
  · rw [correctTime_keeps Tim.syncAt, tim_noted]
  all_goals
    rw [correctTime_of_small (by rwa [rd_noted wf _ rfl (by decide) (by decide)]) some_, ppm]
    simp only [show (noted w d).rebaseTime.now = w.now from now_noted w d]
  · exact (rd_of_regs rfl _).trans (rd_offset_noted wf d)
  · change (noted w d).tim.step = _
    rw [tim_noted]
  · rfl
  · exact (devTime_rebaseTime_slew _ (by rwa [now_noted])).trans (devTime_noted wf d)

/-- Sixteen Sync messages in a row below LOCK_NS lock the servo (R487). -/
theorem ptpSync_locks (hw : w = s.atT i) (mode : w.rd Reg.TIM_MODE = 1) (acquiring : w.tim.state = .acquiring)
    (enough : w.tim.good = 15) (near : d.natAbs < w.rd Reg.TIM_LOCK_NS) :
    ∃ v, exec (.ptpSync d i) s = .next v ∧ v.tim.state = .locked ∧ v.tim.good = 16 ∧ onlyParts [.tim, .regs, .evr] w v := by
  have state : (noted w d).tim.state = .acquiring := by rw [tim_noted, acquiring]; rfl
  have good : (noted w d).tim.good = 16 := by rw [tim_noted, enough]; exact if_pos near
  have run : exec (.ptpSync d i) s = .next ((locked w d).correctTime d) := by
    rw [exec_ptpSync hw mode, state, good, if_neg (by decide), if_pos (by decide), locked]
  refine ⟨_, run, ?_, ?_, only_correctTime (only_locked w d) (by decide)⟩
  · rw [correctTime_keeps Tim.state, tim_locked]
  · rw [correctTime_keeps Tim.good, tim_locked, good]

/-- The fourth Sync message in a row above four times LOCK_NS loses the lock (R487). -/
theorem ptpSync_loses (hw : w = s.atT i) (wf : storeWf w.regs.live = true) (mode : w.rd Reg.TIM_MODE = 1) (lock : w.tim.state = .locked)
    (three : w.tim.bad = 3) (far : 4 * w.rd Reg.TIM_LOCK_NS < d.natAbs) :
    ∃ v, exec (.ptpSync d i) s = .next v ∧ v.tim.state = .holdover ∧ v.tim.step = w.tim.step ∧ v.devTime = w.devTime
      ∧ v.rd Reg.TIM_LOST_CNT = min (w.rd Reg.TIM_LOST_CNT + 1) (2 ^ 32 - 1) ∧ onlyParts [.tim, .regs, .evr] w v := by
  have state : (noted w d).tim.state = .locked := by rw [tim_noted, lock]; rfl
  have bad : (noted w d).tim.bad = 4 := by rw [tim_noted, three]; exact if_pos far
  have wf' := (liveIn_noted w d).wf wf
  have run : exec (.ptpSync d i) s = .next ((noted w d).loseLock 2) := by
    rw [exec_ptpSync hw mode, state, bad, if_pos rfl, if_pos (Nat.le_refl 4)]
  refine ⟨_, run, ?_, ?_, ?_, ?_, onlyParts_trans (onlyParts_mono (only_noted w d) (by decide)) (only_loseLock' _ _)⟩
  · rw [tim_loseLock]
  · rw [tim_loseLock, tim_noted]
  · rw [devTime_loseLock wf', devTime_noted wf]
  · rw [rd_lostCnt_loseLock wf', rd_noted wf _ rfl (by decide) (by decide)]

theorem exec_ptpHoldover (hw : w = s.atT i) (mode : w.rd Reg.TIM_MODE = 1) (lock : w.tim.state = .locked)
    (quiet : w.tim.syncAt + max 1 (w.rd Reg.TIM_HOLD_S) * sec ≤ w.now) : exec (.ptpHoldover i) s = .next (w.loseLock 1) := by
  change execPtpHoldover i s = _
  unfold execPtpHoldover
  simp only [← hw, mode, lock, quiet, decide_true, Bool.and_self, if_true]

/-! ### PPS and the end of a slew (R486) -/

/-- A rising edge of PPS has been timestamped. -/
def stamped (w : State) : State := w.wr Reg.TIM_PPS_TIME w.devTime

theorem liveIn_stamped (w : State) : LiveIn [Reg.TIM_PPS_TIME.addr, Reg.TIM_PPS_TIME.addr + 4] w (stamped w) := LiveIn.refl.wr _ _

theorem rd_stamped (wf : storeWf w.regs.live = true) : (stamped w).rd Reg.TIM_PPS_TIME = w.devTime := by
  rw [stamped, rd_wr_wide wf rfl rfl (by decide) (by decide)]
  exact Nat.mod_eq_of_lt (devTime_lt w)

theorem exec_ppsEdge_stamps (hw : w = s.atT i) (wf : storeWf w.regs.live = true) (mode : w.rd Reg.TIM_MODE ≠ 2) :
    exec (.ppsEdge i) s = .next (stamped w) := by
  have mode' : (w.wr Reg.TIM_PPS_TIME w.devTime).rd Reg.TIM_MODE ≠ 2 := by
    rwa [← stamped, (liveIn_stamped w).rd wf rfl (by decide) (by decide)]
  change execPpsEdge i s = _
  unfold execPpsEdge
  simp only [← hw, mode', if_false]
  rfl

/-- What device time lacks to the nearest whole second. -/
def toSecond (w : State) : Int := ((w.devTime + 500000000) / 1000000000 * 1000000000 : Nat) - (w.devTime : Int)

/-- An edge of PPS has been timestamped, and its offset noted. -/
def measured (w : State) : State := (stamped w).wr Reg.TIM_OFFSET (wrapN 32 (toSecond w))

theorem exec_ppsEdge_corrects (hw : w = s.atT i) (wf : storeWf w.regs.live = true) (mode : w.rd Reg.TIM_MODE = 2) :
    exec (.ppsEdge i) s = .next ((measured w).correctTime (toSecond w)) := by
  have mode' : (w.wr Reg.TIM_PPS_TIME w.devTime).rd Reg.TIM_MODE = 2 := by
    rwa [← stamped, (liveIn_stamped w).rd wf rfl (by decide) (by decide)]
  change execPpsEdge i s = _
  unfold execPpsEdge
  simp only [← hw, mode', if_true]
  rfl

theorem liveIn_measured (w : State) :
    LiveIn [Reg.TIM_PPS_TIME.addr, Reg.TIM_PPS_TIME.addr + 4, Reg.TIM_OFFSET.addr] w (measured w) :=
  (LiveIn.refl.wr _ _).wr _ _

theorem tim_measured (w : State) : (measured w).tim = w.tim := by rw [measured, stamped, wr_tim, wr_tim]

theorem now_measured (w : State) : (measured w).now = w.now := by rw [measured, stamped, wr_now, wr_now]

theorem devTime_measured (wf : storeWf w.regs.live = true) : (measured w).devTime = w.devTime :=
  devTime_of_live (liveIn_measured w) wf (tim_measured w) (now_measured w)

theorem rd_ppsTime_measured (wf : storeWf w.regs.live = true) : (measured w).rd Reg.TIM_PPS_TIME = w.devTime := by
  have offset : WordsIn [Reg.TIM_OFFSET.addr] (stamped w) (measured w) := (CountsIn.refl.wr _ _).wordsIn
  rw [rd_wide_of_onlyWords (offset.words ((liveIn_stamped w).wf wf)) _ (by decide) (by decide), rd_stamped wf]

theorem rd_offset_measured (wf : storeWf w.regs.live = true) : (measured w).rd Reg.TIM_OFFSET = (toSecond w % 2 ^ 32).toNat := by
  rw [measured, rd_wr ((liveIn_stamped w).wf wf) _ rfl (by decide)]
  exact wrapN_mod 32 _

theorem only_measured (w : State) : onlyParts [.tim, .regs] w (measured w) := only_wr (only_wr only_refl (by decide)) (by decide)

theorem exec_timeSlewEnd {e : Nat} (hw : w = s.atT i) (slews : w.tim.slew = some (d, e)) (ended : e ≤ w.now) :
    exec (.timeSlewEnd i) s = .next (w.rebaseTime.mapTim (fun x => { x with slew := none })) := by
  change execTimeSlewEnd i s = _
  unfold execTimeSlewEnd
  simp only [← hw, slews, ended, if_true]

/-- Settles O50. -/
theorem deviceTimeIsDisciplined : Obligations.DeviceTimeIsDisciplined := by
  intro t s w hw wf
  refine ⟨?_, ?_, ?_, fun d mode acquiring few small some_ near => ptpSync_acquires hw wf mode acquiring few small some_ near,
    fun d mode acquiring enough near => ptpSync_locks hw mode acquiring enough near,
    fun d mode lock three far => ptpSync_loses hw wf mode lock three far, ?_, ?_, ?_, ?_⟩
  · intro m x servo able free
    rw [exec_timSet hw able, State.setTime, if_neg, realign_eq]
    · rfl
    · rcases free with other | rfl
      · simp [other]
      · simp
  · intro m x able mode
    rw [exec_timSet hw able, State.setTime, if_pos (by simp [mode])]
  · rintro x a due rfl adj small room
    have wf' := (liveIn_stepped w x).wf wf
    have room' : (stepped w x).evr.buf.length < 2048 := by rwa [stepped, event_evr, bump_evr]
    refine ⟨_, exec_timeStep hw due, ?_, ?_, ?_, ?_, ?_, ?_, ?_, ?_, only_record (only_stepped w x) (by decide)⟩
    · rw [devTime_record wf', devTime_stepped small]
    · rw [record_tim, tim_stepped]
    · rw [record_tim, tim_stepped]
    · rw [record_tim, tim_stepped]
    · rw [record_now, now_stepped]
    · rw [newest_record room' rfl, Nat.mod_eq_of_lt (devTime_lt w)]
      rfl
    · rw [buf_record room' rfl, List.getLast?_concat]
      exact congrArg some (devTime_stepped small)
    · rw [liveIn_record.rd wf' rfl (by decide) (by decide), rd_stepCnt_stepped wf]
  · intro mode lock quiet
    refine ⟨_, exec_ptpHoldover hw mode lock quiet, ?_, devTime_loseLock wf 1, rd_lostCnt_loseLock wf 1, only_loseLock' w 1⟩
    rw [tim_loseLock]
  · intro mode
    exact ⟨_, exec_ppsEdge_stamps hw wf mode, rd_stamped wf, wr_tim _ _ _, only_wr only_refl (by decide)⟩
  · intro d mode hd large adj still
    obtain rfl : d = toSecond w := by rw [hd, toSecond]; norm_num
    have large' : (measured w).rd Reg.TIM_STEP_NS ≤ (toSecond w).natAbs := by
      rwa [(liveIn_measured w).rd wf rfl (by decide) (by decide)]
    refine ⟨_, exec_ppsEdge_corrects hw wf mode, ?_, ?_, ?_, ?_, only_correctTime (only_measured w) (by decide)⟩
    all_goals rw [correctTime_of_large large']
    · rw [rd_mapTim, rd_ppsTime_measured wf]
    · rw [rd_mapTim, rd_offset_measured wf]
    · rw [realign_eq, now_measured]
      rfl
    · rw [devTime_of_step, devTime_measured wf]
  · intro d e slews ended
    refine ⟨_, exec_timeSlewEnd hw slews ended, rfl, devTime_of_base rfl rfl rfl, rfl, only_mapTim (only_rebaseTime only_refl (by decide)) (by decide)⟩

end Sys2Proof.Proofs
end

section
/-! Time-interval units (R392 to R396): each unit has its own words and its own state, so what an edge does to one is left alone by the others. -/

namespace Sys2Proof.Proofs

open Sys2Proof Sys2Proof.Machine Sys2Proof.Safety Sys2Proof.Laws

variable {s t u v w : State} {i : Instant} {as : List Nat} {n c j k : Nat} {up : Bool}

/-- A field of 64 bits reads as before where neither of its words has moved. -/
theorem LiveIn.rd_wide (h : LiveIn as s v) (wf : storeWf s.regs.live = true) {f : Field} (ht : f.tuned = false) (ha : f.addr ∉ as)
    (ha' : f.addr + 4 ∉ as) : v.rd f = s.rd f := by
  rw [rd_live _ ht, rd_live _ ht, Field.read, Field.read, h.words wf _ ha, h.words wf _ ha']

/-- A field of the same word whose bits are others reads as before. -/
theorem rd_wr_beside (h : storeWf s.regs.live = true) {f g : Field} (hf : f.lo + f.width ≤ 32) (hg : g.lo + g.width ≤ 32) (ht : g.tuned = false)
    (same : g.addr = f.addr) (beside : g.lo + g.width ≤ f.lo ∨ f.lo + f.width ≤ g.lo) (x : Nat) : (s.wr f x).rd g = s.rd g := by
  rw [rd_live _ ht, rd_live _ ht]
  apply Nat.eq_of_testBit_eq
  intro b
  rw [read_bit g hg, read_bit g hg, live_wr h f hf, if_pos same, put_bit f hf, same]
  by_cases inside : b < g.width
  · rw [if_neg (by omega)]
  · simp [inside]

/-! ### What a unit does alone -/

/-- The live words of unit `k`. -/
def unitWords (k : Nat) : List Nat := List.range' (0x530110 + 64 * k) 48

theorem mem_unitWords {a : Nat} : a ∈ unitWords k ↔ 0x530110 + 64 * k ≤ a ∧ a < 0x530140 + 64 * k := by
  rw [unitWords, List.mem_range'_1]
  omega

/-- From `s` to `v` unit `k` has acted, and nothing but it. -/
structure UnitActs (k : Nat) (s v : State) : Prop where
  live : LiveIn (0x530000 :: unitWords k) s v
  tuned : v.tuned = s.tuned
  others : ∀ j, j ≠ k → v.tiuUnit j = s.tiuUnit j
  length : v.tiu.units.length = s.tiu.units.length
  lastEdge : v.tiu.lastEdge = s.tiu.lastEdge
  only : onlyParts [.tiu, .regs] s v

theorem UnitActs.refl : UnitActs k s s := ⟨.refl, rfl, fun _ _ => rfl, rfl, rfl, only_refl⟩

theorem UnitActs.trans (h : UnitActs k s t) (h' : UnitActs k t v) : UnitActs k s v :=
  ⟨h.live.trans h'.live, h'.tuned.trans h.tuned, fun j hj => (h'.others j hj).trans (h.others j hj), h'.length.trans h.length,
    h'.lastEdge.trans h.lastEdge, onlyParts_trans h.only h'.only⟩

theorem UnitActs.of_tiu (h : UnitActs k s t) (live : LiveIn (0x530000 :: unitWords k) t v) (tuned : v.tuned = t.tuned) (tiu : v.tiu = t.tiu)
    (only : onlyParts [.tiu, .regs] t v) : UnitActs k s v :=
  h.trans ⟨live, tuned, fun j _ => by rw [State.tiuUnit, tiu, State.tiuUnit], by rw [tiu], by rw [tiu], only⟩

theorem UnitActs.wr (h : UnitActs k s t) (f : Field) (x : Nat) (ha : f.addr ∈ unitWords k) (ha' : f.lo + f.width ≤ 32 ∨ f.addr + 4 ∈ unitWords k) :
    UnitActs k s (t.wr f x) :=
  h.of_tiu (LiveIn.refl.wr f x (List.mem_cons_of_mem _ ha) (ha'.imp_right (List.mem_cons_of_mem _))) (funext (tuned_wr t f x)) (wr_tiu _ _ _)
    (only_wr only_refl (by decide))

theorem UnitActs.bump (h : UnitActs k s t) (f : Field) (ha : f.addr ∈ unitWords k) (hf : f.lo + f.width ≤ 32) : UnitActs k s (t.bump f) :=
  h.wr f _ ha (.inl hf)

theorem UnitActs.event (h : UnitActs k s t) (fs : List Field) (f : Field) (hf : f.addr = 0x530000) : UnitActs k s (t.event (f :: fs)) :=
  h.of_tiu (LiveIn.refl.setLive f.addr _ (by rw [hf]; exact List.mem_cons_self)) rfl (event_tiu _ _) (only_event only_refl (by decide))

theorem tiuUnit_mapTiuUnit_other (s : State) (f : TiuUnit → TiuUnit) (hj : j ≠ k) : (s.mapTiuUnit k f).tiuUnit j = s.tiuUnit j := by
  change (modAt s.tiu.units k f).getD j {} = s.tiu.units.getD j {}
  rw [modAt_eq_modify, List.getD_eq_getElem?_getD, List.getElem?_modify, List.getD_eq_getElem?_getD]
  simp only [if_neg (Ne.symm hj)]
  cases s.tiu.units[j]? <;> rfl

theorem tiuUnit_mapTiuUnit (hk : k < s.tiu.units.length) (f : TiuUnit → TiuUnit) : (s.mapTiuUnit k f).tiuUnit k = f (s.tiuUnit k) :=
  getD_modAt hk f _

theorem UnitActs.mapUnit (h : UnitActs k s t) (f : TiuUnit → TiuUnit) : UnitActs k s (t.mapTiuUnit k f) :=
  h.trans ⟨LiveIn.refl.of_live rfl, rfl, fun _ hj => tiuUnit_mapTiuUnit_other t f hj, modAt_length _ _ _, rfl, only_mapTiu only_refl (by decide)⟩

theorem UnitActs.ite {p : Prop} [Decidable p] {a b : State} (ha : UnitActs k s a) (hb : UnitActs k s b) : UnitActs k s (if p then a else b) := by
  split <;> assumption

theorem unitActs_tiuOverflow (h : UnitActs k s t) : UnitActs k s (t.tiuOverflow k) := by
  unfold State.tiuOverflow
  refine (((((h.wr _ _ ?_ (.inl Nat.le.refl)).wr _ _ ?_ (.inl ?_)).wr _ _ ?_ (.inl ?_)).event _ _ ?_).bump _ ?_ Nat.le.refl).mapUnit _
  all_goals simp [mem_unitWords, Reg.TIU_U_RESULT, Reg.TIU_U_OVF, Reg.TIU_U_SUB_RES, Reg.TIU_U_OVF_CNT, Field.bit, Reg.TIU_STAT_OVF]

theorem unitActs_tiuRate (h : UnitActs k s t) (result : Nat) : UnitActs k s (t.tiuRate k result) := by
  unfold State.tiuRate
  refine ((h.wr _ _ ?_ (.inl Nat.le.refl)).wr _ _ ?_ (.inl ?_)).mapUnit _
  all_goals simp [mem_unitWords, Reg.TIU_U_RATE, Reg.TIU_U_RATE_SAT]

theorem unitActs_tiuComplete (h : UnitActs k s t) (c : Nat) (sub : Bool) : UnitActs k s (t.tiuComplete k c sub) := by
  unfold State.tiuComplete
  extract_lets x result s1 s2 s3
  have h1 : UnitActs k s s1 := by
    refine ((h.wr _ _ ?_ (.inl Nat.le.refl)).wr _ _ ?_ (.inr ?_)).wr _ _ ?_ (.inr ?_)
    all_goals
      simp only [mem_unitWords, Reg.TIU_U_RESULT, Reg.TIU_U_START_TIME, Reg.TIU_U_STOP_TIME]
      omega
  have h2 : UnitActs k s s2 := by
    refine (h1.wr _ _ ?_ (.inl ?_)).wr _ _ ?_ (.inl ?_)
    all_goals simp [mem_unitWords, Reg.TIU_U_OVF, Reg.TIU_U_SUB_RES]
  have h3 : UnitActs k s s3 :=
    .ite ((h2.event _ _ rfl).bump _ (by simp [mem_unitWords, Reg.TIU_U_SUBRES_CNT]) Nat.le.refl) (h2.event _ _ rfl)
  exact h3.bump _ (by simp [mem_unitWords, Reg.TIU_U_MEAS_CNT]) Nat.le.refl

theorem unitActs_tiuStart (h : UnitActs k s t) (c : Nat) : UnitActs k s (t.tiuStart k c) := h.mapUnit _

theorem unitActs_tiuStartEdge (h : UnitActs k s t) (c : Nat) : UnitActs k s (t.tiuStartEdge k c) := by
  unfold State.tiuStartEdge
  extract_lets x s1 s2
  have h1 : UnitActs k s s1 := unitActs_tiuStart h c
  exact .ite (.ite (.ite ((unitActs_tiuComplete h1 c true).mapUnit _) h1) h)
    (.ite (unitActs_tiuStart (unitActs_tiuRate (unitActs_tiuComplete h c false) _) c) (unitActs_tiuStart h c))

theorem unitActs_tiuStopEdge (h : UnitActs k s t) (c : Nat) : UnitActs k s (t.tiuStopEdge k c) := by
  unfold State.tiuStopEdge
  extract_lets x
  split
  · exact (unitActs_tiuComplete h c _).mapUnit _
  · exact h.mapUnit _
  · exact (h.event _ _ rfl).bump _ (by simp [mem_unitWords, Reg.TIU_U_EARLY_CNT]) Nat.le.refl
  · exact h

/-- An edge acts on each unit alone (R393). -/
theorem unitActs_tiuEdge (s : State) (n : Nat) (up : Bool) (c k : Nat) : UnitActs k s (s.tiuEdge n up c k) := by
  unfold State.tiuEdge
  extract_lets x s1 isStart isStop was s2
  have h1 : UnitActs k s s1 := .ite (unitActs_tiuOverflow .refl) .refl
  have h2 : UnitActs k s s2 := .ite (unitActs_tiuStartEdge h1 c) h1
  exact .ite .refl (.ite (unitActs_tiuStopEdge h2 c) h2)

/-! ### The other units at an edge -/

/-- From `s` to `v` other units than `k` may have acted: what unit `k` reads and keeps is the same. -/
structure UnitKept (k : Nat) (s v : State) : Prop where
  words : storeWf s.regs.live = true → ∀ a, a ∈ unitWords k → v.live a = s.live a
  wf : storeWf s.regs.live = true → storeWf v.regs.live = true
  time : storeWf s.regs.live = true → v.devTime = s.devTime
  tuned : v.tuned = s.tuned
  unit : v.tiuUnit k = s.tiuUnit k
  length : v.tiu.units.length = s.tiu.units.length
  lastEdge : v.tiu.lastEdge = s.tiu.lastEdge
  only : onlyParts [.tiu, .regs] s v

theorem UnitKept.refl : UnitKept k s s := ⟨fun _ _ _ => rfl, id, fun _ => rfl, rfl, rfl, rfl, rfl, only_refl⟩

theorem UnitKept.trans (h : UnitKept k s t) (h' : UnitKept k t v) : UnitKept k s v :=
  ⟨fun wf a mem => (h'.words (h.wf wf) a mem).trans (h.words wf a mem), fun wf => h'.wf (h.wf wf),
    fun wf => (h'.time (h.wf wf)).trans (h.time wf), h'.tuned.trans h.tuned, h'.unit.trans h.unit, h'.length.trans h.length,
    h'.lastEdge.trans h.lastEdge, onlyParts_trans h.only h'.only⟩

theorem UnitActs.time (h : UnitActs j s v) (low : j < 4) (wf : storeWf s.regs.live = true) : v.devTime = s.devTime := by
  refine devTime_of_live h.live wf (h.only .tim (by decide)) (h.only .now (by decide)) ?_ ?_
  all_goals
    rw [List.mem_cons, mem_unitWords]
    simp only [Reg.TIM_ADJ, Reg.TIM_SLEW_PPM]
    omega

theorem UnitActs.kept (h : UnitActs j s v) (low : j < 4) (hj : k ≠ j) : UnitKept k s v where
  words wf a mem := by
    refine h.live.words wf a ?_
    rw [mem_unitWords] at mem
    rw [List.mem_cons, mem_unitWords]
    omega
  wf := h.live.wf
  time := h.time low
  tuned := h.tuned
  unit := h.others k hj
  length := h.length
  lastEdge := h.lastEdge
  only := h.only

theorem unitKept_edges {ks : List Nat} (away : k ∉ ks) (low : ∀ j ∈ ks, j < 4) (s : State) (n : Nat) (up : Bool) (c : Nat) :
    UnitKept k s (ks.foldl (fun s j => s.tiuEdge n up c j) s) := by
  induction ks generalizing s with
  | nil => exact .refl
  | cons j ks ih =>
    have first : UnitKept k s (s.tiuEdge n up c j) :=
      (unitActs_tiuEdge s n up c j).kept (low j List.mem_cons_self) (fun e => away (e ▸ List.mem_cons_self))
    exact first.trans (ih (fun mem => away (List.mem_cons_of_mem _ mem)) (fun x mem => low x (List.mem_cons_of_mem _ mem)) _)

/-- What all units do at an edge is, for one of them, what it does alone. -/
theorem edges_of_unit (low : k < 4) (s : State) (n : Nat) (up : Bool) (c : Nat) :
    ∃ before, UnitKept k s before ∧ UnitKept k (before.tiuEdge n up c k) ((List.range 4).foldl (fun s j => s.tiuEdge n up c j) s) := by
  obtain ⟨pre, post, split⟩ := List.append_of_mem (List.mem_range.2 low)
  have nodup : (pre ++ k :: post).Nodup := split ▸ List.nodup_range
  have each (j : Nat) (mem : j ∈ pre ++ k :: post) : j < 4 := List.mem_range.1 (split ▸ mem)
  rw [List.nodup_middle, List.nodup_cons, List.mem_append, not_or] at nodup
  obtain ⟨⟨before, after⟩, -⟩ := nodup
  refine ⟨pre.foldl (fun s j => s.tiuEdge n up c j) s, unitKept_edges before (fun j mem => each j (List.mem_append_left _ mem)) s n up c, ?_⟩
  rw [split, List.foldl_append, List.foldl_cons]
  exact unitKept_edges after (fun j mem => each j (List.mem_append_right _ (List.mem_cons_of_mem _ mem))) _ n up c

theorem rd_mapTiuUnit (s : State) (f : TiuUnit → TiuUnit) (g : Field) : (s.mapTiuUnit k f).rd g = s.rd g := rfl

/-! ### An interval that ends, and the rate (R393, R396) -/

theorem rd_of_tuned (tuned : v.tuned = s.tuned) {f : Field} (hf : f.tuned = true) : v.rd f = s.rd f := by
  rw [State.rd, State.rd, if_pos hf, if_pos hf, tuned]

theorem on_of_tuned (tuned : v.tuned = s.tuned) {f : Field} (hf : f.tuned = true) : v.on f = s.on f := by
  rw [State.on, rd_of_tuned tuned hf, State.on]

/-- The results of a unit's interval, up to its count. -/
def completing (s : State) (k c : Nat) : State :=
  ((((((s.wr (Reg.TIU_U_RESULT k) (c - (s.tiuUnit k).startCount)).wr (Reg.TIU_U_START_TIME k) (s.tiuUnit k).startTime).wr (Reg.TIU_U_STOP_TIME k)
    s.devTime).wr (Reg.TIU_U_OVF k) 0).wr (Reg.TIU_U_SUB_RES k) 0).event [Reg.TIU_STAT_DONE.bit k])

theorem tiuComplete_plain (s : State) (k c : Nat) : s.tiuComplete k c false = (completing s k c).bump (Reg.TIU_U_MEAS_CNT k) := rfl

/-- The words that an interval's completion writes, its result and its count apart. -/
def completedWords (k : Nat) : List Nat :=
  [0x530120 + 64 * k, 0x530120 + 64 * k + 4, 0x530128 + 64 * k, 0x530128 + 64 * k + 4, 0x530114 + 64 * k, 0x530000]

theorem liveIn_completing (s : State) (k c : Nat) :
    LiveIn (completedWords k) (s.wr (Reg.TIU_U_RESULT k) (c - (s.tiuUnit k).startCount)) (completing s k c) := by
  unfold completing
  refine ((((LiveIn.refl.wr _ _ ?_ (.inr ?_)).wr _ _ ?_ (.inr ?_)).wr _ _ ?_ (.inl ?_)).wr _ _ ?_ (.inl ?_)).event _ ?_
  all_goals simp [completedWords, Reg.TIU_U_START_TIME, Reg.TIU_U_STOP_TIME, Reg.TIU_U_OVF, Reg.TIU_U_SUB_RES, Reg.TIU_STAT_DONE, Field.bit]

theorem rd_result_tiuComplete (wf : storeWf s.regs.live = true) (k c : Nat) :
    (s.tiuComplete k c false).rd (Reg.TIU_U_RESULT k) = (c - (s.tiuUnit k).startCount) % 2 ^ 32 := by
  have complete := liveIn_completing s k c
  have wf1 := wf_wr wf (Reg.TIU_U_RESULT k) (c - (s.tiuUnit k).startCount)
  have apart : (Reg.TIU_U_RESULT k).addr ∉ completedWords k := by
    simp [completedWords, Reg.TIU_U_RESULT]
    omega
  rw [tiuComplete_plain, State.bump, State.bumpBy, rd_wr_other (complete.wf wf1) _ _ Nat.le.refl Nat.le.refl
    (.inr (by simp [Reg.TIU_U_RESULT, Reg.TIU_U_MEAS_CNT])), complete.rd wf1 rfl Nat.le.refl apart]
  exact rd_wr wf _ rfl Nat.le.refl _

theorem rd_meas_tiuComplete (wf : storeWf s.regs.live = true) (k c : Nat) :
    (s.tiuComplete k c false).rd (Reg.TIU_U_MEAS_CNT k) = min (s.rd (Reg.TIU_U_MEAS_CNT k) + 1) (2 ^ 32 - 1) := by
  have complete := liveIn_completing s k c
  have wf1 := wf_wr wf (Reg.TIU_U_RESULT k) (c - (s.tiuUnit k).startCount)
  have apart : (Reg.TIU_U_MEAS_CNT k).addr ∉ completedWords k := by
    simp [completedWords, Reg.TIU_U_MEAS_CNT]
    omega
  rw [tiuComplete_plain, rd_bump (complete.wf wf1) _ rfl Nat.le.refl, complete.rd wf1 rfl Nat.le.refl apart,
    rd_wr_other wf _ _ Nat.le.refl Nat.le.refl (.inr (by simp [Reg.TIU_U_RESULT, Reg.TIU_U_MEAS_CNT]))]
  rfl

theorem rd_stop_tiuComplete (wf : storeWf s.regs.live = true) (k c : Nat) :
    (s.tiuComplete k c false).rd (Reg.TIU_U_STOP_TIME k) = s.devTime := by
  have wf3 := wf_wr (wf_wr wf (Reg.TIU_U_RESULT k) (c - (s.tiuUnit k).startCount)) (Reg.TIU_U_START_TIME k) (s.tiuUnit k).startTime
  have rest : LiveIn [0x530114 + 64 * k, 0x530000, 0x530130 + 64 * k] (((s.wr (Reg.TIU_U_RESULT k) (c - (s.tiuUnit k).startCount)).wr
      (Reg.TIU_U_START_TIME k) (s.tiuUnit k).startTime).wr (Reg.TIU_U_STOP_TIME k) s.devTime) (s.tiuComplete k c false) := by
    rw [tiuComplete_plain, completing]
    refine (((LiveIn.refl.wr _ _ ?_ (.inl ?_)).wr _ _ ?_ (.inl ?_)).event _ ?_).wr (Reg.TIU_U_MEAS_CNT k) _ ?_ (.inl ?_)
    all_goals simp [Reg.TIU_U_OVF, Reg.TIU_U_SUB_RES, Reg.TIU_STAT_DONE, Field.bit, Reg.TIU_U_MEAS_CNT]
  rw [rest.rd_wide (wf_wr wf3 _ _) rfl, rd_wr_wide wf3 rfl rfl (by simp [Reg.TIU_U_STOP_TIME]) (by simp [Reg.TIU_U_STOP_TIME])]
  · exact Nat.mod_eq_of_lt (devTime_lt s)
  all_goals
    simp [Reg.TIU_U_STOP_TIME]
    omega

theorem tiu_tiuComplete (s : State) (k c : Nat) (sub : Bool) : (s.tiuComplete k c sub).tiu = s.tiu :=
  only_tiuComplete (ps := [.regs]) only_refl (by decide) .tiu (by decide)

/-- The first rate since it became invalid is that of one interval. -/
theorem tiuRate_first {r : Nat} (first : (s.tiuUnit k).results = []) (some_ : r ≠ 0) :
    ∃ sat f, s.tiuRate k r = ((s.wr (Reg.TIU_U_RATE k) (min (250000000 * 65536 / r) 0xFFFFFFFF)).wr (Reg.TIU_U_RATE_SAT k) sat).mapTiuUnit k f
      ∧ ∀ x, (f x).state = x.state := by
  have one : min (max 1 (s.rd (Reg.TIU_U_NAVG k))) 1 = 1 := by omega
  have all : [r].take 255 = [r] := rfl
  have single : [r].take 1 = [r] := rfl
  have sum : [r].foldl (· + ·) 0 = r := Nat.zero_add r
  unfold State.tiuRate
  simp only [first, all, List.length_singleton, one, single, sum]
  rw [if_neg some_, Nat.one_mul]
  generalize 250000000 * 65536 / r = q
  exact ⟨_, _, rfl, fun _ => rfl⟩

theorem rd_rate_written (wf : storeWf s.regs.live = true) (q sat : Nat) (f : TiuUnit → TiuUnit) :
    (((s.wr (Reg.TIU_U_RATE k) (min q 0xFFFFFFFF)).wr (Reg.TIU_U_RATE_SAT k) sat).mapTiuUnit k f).rd (Reg.TIU_U_RATE k) = min q 0xFFFFFFFF := by
  have small : min q 0xFFFFFFFF < 2 ^ 32 := by omega
  have apart : (Reg.TIU_U_RATE k).addr ≠ (Reg.TIU_U_RATE_SAT k).addr := by simp [Reg.TIU_U_RATE, Reg.TIU_U_RATE_SAT]
  rw [rd_mapTiuUnit, rd_wr_other (wf_wr wf _ _) _ _ (by simp [Reg.TIU_U_RATE_SAT]) Nat.le.refl (.inr apart), rd_wr wf _ rfl Nat.le.refl]
  exact Nat.mod_eq_of_lt small

theorem rd_rate_tiuRate (wf : storeWf s.regs.live = true) {r : Nat} (first : (s.tiuUnit k).results = []) (some_ : r ≠ 0) :
    (s.tiuRate k r).rd (Reg.TIU_U_RATE k) = min (250000000 * 65536 / r) 0xFFFFFFFF := by
  obtain ⟨sat, f, rate, -⟩ := tiuRate_first (s := s) first some_
  rw [rate, rd_rate_written wf]

/-- The words that a rate writes. -/
theorem LiveIn.mapTiuUnit (h : LiveIn as s t) (j : Nat) (f : TiuUnit → TiuUnit) : LiveIn as s (t.mapTiuUnit j f) := h.of_live rfl

theorem liveIn_tiuRate (s : State) (k r : Nat) : LiveIn [(Reg.TIU_U_RATE k).addr, (Reg.TIU_U_RATE_SAT k).addr] s (s.tiuRate k r) := by
  unfold State.tiuRate
  refine ((LiveIn.refl.wr _ _ ?_ (.inl Nat.le.refl)).wr _ _ ?_ (.inl ?_)).mapTiuUnit _ _
  all_goals simp [Reg.TIU_U_RATE_SAT]

/-! ### What an edge does to the unit it starts (R393) -/

/-- A PERIOD unit that runs completes its interval at its start edge, and starts the next. -/
theorem tiuEdge_period (running : (s.tiuUnit k).state = .running) (within : c < (s.tiuUnit k).startCount + 2 ^ 32)
    (period : s.on (Reg.TIU_U_MODE k) = false) (starts : edgeIs (s.rd (Reg.TIU_U_START k)) n up = true) :
    s.tiuEdge n up c k = ((s.tiuComplete k c false).tiuRate k (c - (s.tiuUnit k).startCount)).tiuStart k c := by
  have on : ¬(TiuState.running = TiuState.off) := by decide
  have short : ¬(s.tiuUnit k).startCount + 2 ^ 32 ≤ c := Nat.not_le.mpr within
  unfold State.tiuEdge State.tiuStartEdge
  simp only [running, on, if_false, short, decide_false, Bool.and_false, Bool.false_eq_true, State.tiuInterval, period, starts, if_true, Bool.false_and]

/-- An ARMED INTERVAL unit starts at its start edge. -/
theorem tiuEdge_interval (armed : (s.tiuUnit k).state = .armed) (calm : (s.tiuUnit k).earlyCount = none)
    (interval : s.on (Reg.TIU_U_MODE k) = true) (starts : edgeIs (s.rd (Reg.TIU_U_START k)) n up = true)
    (goes : edgeIs (s.rd (Reg.TIU_U_STOP k)) n up = false) : s.tiuEdge n up c k = s.tiuStart k c := by
  have on : ¬(TiuState.armed = TiuState.off) := by decide
  have still : ¬(TiuState.armed = TiuState.running) := by decide
  unfold State.tiuEdge State.tiuStartEdge
  simp only [armed, on, still, if_false, decide_false, Bool.false_and, Bool.false_eq_true, State.tiuInterval, interval, starts, goes, if_true,
    Bool.and_false, calm, reduceCtorEq]

/-- The start edge that a START field names (R393). -/
theorem edgeIs_start (low : n < 4) (up : Bool) : edgeIs (n + (if up then 0 else 4)) n up = true := by
  unfold edgeIs
  cases up
  · have h1 : (n + 4) % 4 = n := by omega
    simp [h1]
  · have h1 : n % 4 = n := by omega
    have h2 : n / 4 = 0 := by omega
    simp [h1, h2]

/-- An accepted edge on input `n`: its count is kept, and the injected sequence may take it (R378, R392). -/
def edgeAccepted (w : State) (n c : Nat) : State :=
  if (w.mapTiu (fun x => { x with lastEdge := modAt x.lastEdge n (fun _ => some c) })).rd Reg.REF_INJ_CTL_TRIG = n + 1 then
    (w.mapTiu (fun x => { x with lastEdge := modAt x.lastEdge n (fun _ => some c) })).mapRef (fun r => { r with tachDue := true })
  else w.mapTiu (fun x => { x with lastEdge := modAt x.lastEdge n (fun _ => some c) })

theorem exec_tachEdge (hw : w = s.atT i) (low : n < 4) (first : w.tiu.lastEdge.getD n none = none) (here : w.isolated .tiu = false) :
    exec (.tachEdge n up i) s = .next ((List.range 4).foldl (fun s j => s.tiuEdge n up (w.now / 4000) j) (edgeAccepted w n (w.now / 4000))) := by
  have input : ¬4 ≤ n := Nat.not_le.mpr low
  change execTachEdge n up i s = _
  unfold execTachEdge
  simp only [← hw, first, here, input, decide_false, Bool.or_self, Bool.false_eq_true, if_false]
  rfl

theorem exec_tachEdge_ignored {l : Nat} (hw : w = s.atT i) (last : w.tiu.lastEdge.getD n none = some l)
    (soon : w.now / 4000 < l + w.rd (Reg.TIU_IN_HOLDOFF n)) : exec (.tachEdge n up i) s = .next w := by
  change execTachEdge n up i s = _
  unfold execTachEdge
  simp only [← hw, last, soon, decide_true, Bool.or_true, Bool.true_or, if_true]

section
variable (w n c)

theorem regs_edgeAccepted : (edgeAccepted w n c).regs = w.regs := by unfold edgeAccepted; split <;> rfl

theorem tuned_edgeAccepted : (edgeAccepted w n c).tuned = w.tuned := by unfold edgeAccepted; split <;> rfl

theorem tiuUnit_edgeAccepted (k : Nat) : (edgeAccepted w n c).tiuUnit k = w.tiuUnit k := by unfold edgeAccepted; split <;> rfl

theorem lastEdge_edgeAccepted : (edgeAccepted w n c).tiu.lastEdge = modAt w.tiu.lastEdge n (fun _ => some c) := by
  unfold edgeAccepted; split <;> rfl

theorem units_edgeAccepted : (edgeAccepted w n c).tiu.units = w.tiu.units := by unfold edgeAccepted; split <;> rfl

theorem devTime_edgeAccepted : (edgeAccepted w n c).devTime = w.devTime := by unfold edgeAccepted; split <;> rfl

theorem only_edgeAccepted : onlyParts [.tiu, .regs, .ref] w (edgeAccepted w n c) :=
  only_ite (only_mapRef (only_mapTiu only_refl (by decide)) (by decide)) (only_mapTiu only_refl (by decide))

end

/-- What unit `k` was at the edge, it is when its turn comes; and what its turn leaves, stays. -/
structure EdgeAt (w : State) (n : Nat) (up : Bool) (c k : Nat) (before v : State) : Prop where
  kept : UnitKept k (edgeAccepted w n c) before
  turn : UnitKept k (before.tiuEdge n up c k) v

theorem edgeAt (low : k < 4) (w : State) (n : Nat) (up : Bool) (c : Nat) :
    ∃ before, EdgeAt w n up c k before ((List.range 4).foldl (fun s j => s.tiuEdge n up c j) (edgeAccepted w n c)) := by
  obtain ⟨before, kept, turn⟩ := edges_of_unit low (edgeAccepted w n c) n up c
  exact ⟨before, kept, turn⟩

section
variable {before : State} (at_ : EdgeAt w n up c k before v)
include at_

theorem EdgeAt.unit : before.tiuUnit k = w.tiuUnit k := at_.kept.unit.trans (tiuUnit_edgeAccepted w n c k)

theorem EdgeAt.rd_tuned {f : Field} (hf : f.tuned = true) : before.rd f = w.rd f :=
  rd_of_tuned (at_.kept.tuned.trans (tuned_edgeAccepted w n c)) hf

theorem EdgeAt.on_tuned {f : Field} (hf : f.tuned = true) : before.on f = w.on f :=
  on_of_tuned (at_.kept.tuned.trans (tuned_edgeAccepted w n c)) hf

theorem EdgeAt.wf (wf : storeWf w.regs.live = true) : storeWf before.regs.live = true := at_.kept.wf (by rwa [regs_edgeAccepted])

theorem EdgeAt.length : before.tiu.units.length = w.tiu.units.length := at_.kept.length.trans (by rw [units_edgeAccepted])

theorem EdgeAt.time (wf : storeWf w.regs.live = true) : before.devTime = w.devTime :=
  (at_.kept.time (by rwa [regs_edgeAccepted])).trans (devTime_edgeAccepted w n c)

theorem EdgeAt.lastEdge : v.tiu.lastEdge = modAt w.tiu.lastEdge n (fun _ => some c) :=
  at_.turn.lastEdge.trans ((unitActs_tiuEdge before n up c k).lastEdge.trans (at_.kept.lastEdge.trans (lastEdge_edgeAccepted w n c)))

theorem EdgeAt.only : onlyParts [.tiu, .regs, .ref] w v :=
  onlyParts_trans (only_edgeAccepted w n c) (onlyParts_mono (onlyParts_trans at_.kept.only
    (onlyParts_trans (unitActs_tiuEdge before n up c k).only at_.turn.only)) (by decide))

theorem EdgeAt.rd_before (wf : storeWf w.regs.live = true) {f : Field} (ht : f.tuned = false) (hf : f.lo + f.width ≤ 32) (ha : f.addr ∈ unitWords k) :
    before.rd f = w.rd f := by
  rw [rd_live _ ht, rd_live _ ht]
  refine read_congr f hf _ _ ((at_.kept.words (by rwa [regs_edgeAccepted]) _ ha).trans ?_)
  rw [State.live, regs_edgeAccepted, State.live]

theorem EdgeAt.rd_after (wf : storeWf w.regs.live = true) {f : Field} (ht : f.tuned = false) (ha : f.addr ∈ unitWords k)
    (ha' : f.lo + f.width ≤ 32 ∨ f.addr + 4 ∈ unitWords k) : v.rd f = (before.tiuEdge n up c k).rd f := by
  have wf' := (unitActs_tiuEdge before n up c k).live.wf (at_.wf wf)
  rcases ha' with narrow | wide
  · rw [rd_live _ ht, rd_live _ ht]
    exact read_congr f narrow _ _ (at_.turn.words wf' _ ha)
  · rw [rd_live _ ht, rd_live _ ht, Field.read, Field.read, at_.turn.words wf' _ ha, at_.turn.words wf' _ wide]

end

/-- The start edge of a PERIOD unit that runs ends its interval and starts the next (R393, R396). -/
theorem EdgeAt.period {before : State} (at_ : EdgeAt w n up c k before v) (wf : storeWf w.regs.live = true) (low : n < 4)
    (fitted : k < w.tiu.units.length) (running : (w.tiuUnit k).state = .running) (started : (w.tiuUnit k).startCount + 4 ≤ c)
    (within : c < (w.tiuUnit k).startCount + 2 ^ 32) (period : w.on (Reg.TIU_U_MODE k) = false)
    (starts : w.rd (Reg.TIU_U_START k) = n + (if up then 0 else 4)) (first : (w.tiuUnit k).results = []) :
    v.rd (Reg.TIU_U_RESULT k) = c - (w.tiuUnit k).startCount ∧ (v.tiuUnit k).state = .running ∧ (v.tiuUnit k).startCount = c
      ∧ v.rd (Reg.TIU_U_RATE k) = min (250000000 * 65536 / (c - (w.tiuUnit k).startCount)) 0xFFFFFFFF
      ∧ v.rd (Reg.TIU_U_STOP_TIME k) = w.devTime
      ∧ v.rd (Reg.TIU_U_MEAS_CNT k) = min (w.rd (Reg.TIU_U_MEAS_CNT k) + 1) (2 ^ 32 - 1) := by
  have wf' := at_.wf wf
  have complete : UnitActs k before (before.tiuComplete k c false) := unitActs_tiuComplete .refl c false
  have wfc := complete.live.wf wf'
  have unit : (before.tiuComplete k c false).tiuUnit k = w.tiuUnit k := by
    rw [State.tiuUnit, tiu_tiuComplete]
    exact at_.unit
  have turn : before.tiuEdge n up c k = ((before.tiuComplete k c false).tiuRate k (c - (w.tiuUnit k).startCount)).tiuStart k c := by
    rw [tiuEdge_period (by rwa [at_.unit]) (by rwa [at_.unit]) (by rw [at_.on_tuned rfl, period])
      (by rw [at_.rd_tuned rfl, starts]; exact edgeIs_start low up), at_.unit]
  have length : k < ((before.tiuComplete k c false).tiuRate k (c - (w.tiuUnit k).startCount)).tiu.units.length := by
    rw [(unitActs_tiuRate .refl _).length, complete.length, at_.length]
    exact fitted
  have last : v.tiuUnit k = (((before.tiuComplete k c false).tiuRate k (c - (w.tiuUnit k).startCount)).tiuStart k c).tiuUnit k := by
    rw [at_.turn.unit, turn]
  have rated {f : Field} (ht : f.tuned = false) (ha : f.addr ∈ unitWords k) (ha' : f.lo + f.width ≤ 32 ∨ f.addr + 4 ∈ unitWords k) :
      v.rd f = ((before.tiuComplete k c false).tiuRate k (c - (w.tiuUnit k).startCount)).rd f := by
    rw [at_.rd_after wf ht ha ha', turn, State.tiuStart, rd_mapTiuUnit]
  have some_ : c - (w.tiuUnit k).startCount ≠ 0 := by omega
  have rate := liveIn_tiuRate (before.tiuComplete k c false) k (c - (w.tiuUnit k).startCount)
  refine ⟨?_, ?_, ?_, ?_, ?_, ?_⟩
  · rw [rated rfl (by simp [mem_unitWords, Reg.TIU_U_RESULT]) (.inl Nat.le.refl),
      rate.rd wfc rfl Nat.le.refl (by simp [Reg.TIU_U_RESULT, Reg.TIU_U_RATE, Reg.TIU_U_RATE_SAT]), rd_result_tiuComplete wf', at_.unit]
    exact Nat.mod_eq_of_lt (by omega)
  · rw [last, State.tiuStart, tiuUnit_mapTiuUnit length]
  · rw [last, State.tiuStart, tiuUnit_mapTiuUnit length]
  · exact (rated rfl (by simp [mem_unitWords, Reg.TIU_U_RATE]) (.inl Nat.le.refl)).trans (rd_rate_tiuRate wfc (by rw [unit, first]) some_)
  · rw [rated rfl (by simp [mem_unitWords, Reg.TIU_U_STOP_TIME]) (.inr (by simp only [mem_unitWords, Reg.TIU_U_STOP_TIME]; omega)),
      rate.rd_wide wfc rfl (by simp [Reg.TIU_U_STOP_TIME, Reg.TIU_U_RATE, Reg.TIU_U_RATE_SAT])
        (by simp only [Reg.TIU_U_STOP_TIME, Reg.TIU_U_RATE, Reg.TIU_U_RATE_SAT, List.mem_cons, List.not_mem_nil, or_false]; omega),
      rd_stop_tiuComplete wf', at_.time wf]
  · rw [rated rfl (by simp [mem_unitWords, Reg.TIU_U_MEAS_CNT]) (.inl Nat.le.refl),
      rate.rd wfc rfl Nat.le.refl (by simp [Reg.TIU_U_MEAS_CNT, Reg.TIU_U_RATE, Reg.TIU_U_RATE_SAT]), rd_meas_tiuComplete wf',
      at_.rd_before wf rfl Nat.le.refl (by simp [mem_unitWords, Reg.TIU_U_MEAS_CNT])]

/-! ### Overflow, stale rates, ARM and DISARM (R393, R395, R396) -/

theorem exec_tiuOverflow (hw : w = s.atT i) (running : (w.tiuUnit k).state = .running) (long : (w.tiuUnit k).startCount + 2 ^ 32 ≤ w.now / 4000)
    (here : w.isolated .tiu = false) : exec (.tiuOverflow k i) s = .next (w.tiuOverflow k) := by
  change execTiuOverflow k i s = _
  unfold execTiuOverflow
  simp only [← hw, running, long, here, decide_true, Bool.not_false, Bool.and_self, if_true]

/-- The results of an interval that has overflowed. -/
def overflowed (w : State) (k : Nat) : State :=
  ((w.wr (Reg.TIU_U_RESULT k) 0xFFFFFFFF).wr (Reg.TIU_U_OVF k) 1).wr (Reg.TIU_U_SUB_RES k) 0

theorem tiuOverflow_eq (w : State) (k : Nat) : ∃ rest, rest ≠ TiuState.running ∧ w.tiuOverflow k =
    (((overflowed w k).event [Reg.TIU_STAT_OVF.bit k]).bump (Reg.TIU_U_OVF_CNT k)).mapTiuUnit k (fun x =>
      { x with state := rest, rateValid := false, results := [] }) := by
  refine ⟨_, ?_, rfl⟩
  unfold State.tiuRest
  repeat' split
  all_goals decide

/-- The live words of a unit's results that an overflow writes. -/
theorem rd_tiuOverflow (wf : storeWf w.regs.live = true) (k : Nat) :
    (w.tiuOverflow k).rd (Reg.TIU_U_RESULT k) = 0xFFFFFFFF ∧ (w.tiuOverflow k).rd (Reg.TIU_U_OVF k) = 1
      ∧ (w.tiuOverflow k).rd (Reg.TIU_U_OVF_CNT k) = min (w.rd (Reg.TIU_U_OVF_CNT k) + 1) (2 ^ 32 - 1) := by
  obtain ⟨rest, -, ovf⟩ := tiuOverflow_eq w k
  have wf1 := wf_wr wf (Reg.TIU_U_RESULT k) 0xFFFFFFFF
  have wf2 := wf_wr wf1 (Reg.TIU_U_OVF k) 1
  have wf3 : storeWf (overflowed w k).regs.live = true := wf_wr wf2 _ _
  have reported : LiveIn [0x530000, (Reg.TIU_U_OVF_CNT k).addr] (overflowed w k)
      (((overflowed w k).event [Reg.TIU_STAT_OVF.bit k]).bump (Reg.TIU_U_OVF_CNT k)) :=
    (LiveIn.refl.event (Reg.TIU_STAT_OVF.bit k) (by simp [Field.bit, Reg.TIU_STAT_OVF])).wr (Reg.TIU_U_OVF_CNT k) _ (by simp) (.inl Nat.le.refl)
  have rd (f : Field) : (w.tiuOverflow k).rd f = (((overflowed w k).event [Reg.TIU_STAT_OVF.bit k]).bump (Reg.TIU_U_OVF_CNT k)).rd f := by
    rw [ovf, rd_mapTiuUnit]
  refine ⟨?_, ?_, ?_⟩
  · rw [rd, reported.rd wf3 rfl Nat.le.refl (by simp [Reg.TIU_U_RESULT, Reg.TIU_U_OVF_CNT]; omega), overflowed,
      rd_wr_other wf2 _ _ (by simp [Reg.TIU_U_SUB_RES]) Nat.le.refl (.inr (by simp [Reg.TIU_U_RESULT, Reg.TIU_U_SUB_RES])),
      rd_wr_other wf1 _ _ (by simp [Reg.TIU_U_OVF]) Nat.le.refl (.inr (by simp [Reg.TIU_U_RESULT, Reg.TIU_U_OVF])), rd_wr wf _ rfl Nat.le.refl]
    exact Nat.mod_eq_of_lt (show 0xFFFFFFFF < 2 ^ 32 by norm_num)
  · rw [rd, reported.rd wf3 rfl (by simp [Reg.TIU_U_OVF]) (by simp [Reg.TIU_U_OVF, Reg.TIU_U_OVF_CNT]; omega), overflowed,
      rd_wr_beside (f := Reg.TIU_U_SUB_RES k) (g := Reg.TIU_U_OVF k) wf2 (by simp [Reg.TIU_U_SUB_RES]) (by simp [Reg.TIU_U_OVF]) rfl rfl (.inr (by simp [Reg.TIU_U_SUB_RES, Reg.TIU_U_OVF])),
      rd_wr wf1 _ rfl (by simp [Reg.TIU_U_OVF])]
    rfl
  · have before : LiveIn [(Reg.TIU_U_RESULT k).addr, (Reg.TIU_U_OVF k).addr, 0x530000] w ((overflowed w k).event [Reg.TIU_STAT_OVF.bit k]) := by
      unfold overflowed
      refine (((LiveIn.refl.wr _ _ ?_ (.inl Nat.le.refl)).wr _ _ ?_ (.inl ?_)).wr _ _ ?_ (.inl ?_)).event _ ?_
      all_goals simp [Reg.TIU_U_OVF, Reg.TIU_U_SUB_RES, Reg.TIU_STAT_OVF, Field.bit]
    rw [rd, rd_bump (wf_event wf3 _) _ rfl Nat.le.refl,
      before.rd wf rfl Nat.le.refl (by simp [Reg.TIU_U_OVF_CNT, Reg.TIU_U_RESULT, Reg.TIU_U_OVF]; omega)]
    rfl

theorem tiuUnit_tiuOverflow (hk : k < w.tiu.units.length) :
    ((w.tiuOverflow k).tiuUnit k).rateValid = false ∧ ((w.tiuOverflow k).tiuUnit k).state ≠ .running := by
  obtain ⟨rest, idle, ovf⟩ := tiuOverflow_eq w k
  have length : k < (((overflowed w k).event [Reg.TIU_STAT_OVF.bit k]).bump (Reg.TIU_U_OVF_CNT k)).tiu.units.length := by
    rw [bump_tiu, event_tiu, overflowed, wr_tiu, wr_tiu, wr_tiu]
    exact hk
  rw [ovf, tiuUnit_mapTiuUnit length]
  exact ⟨rfl, idle⟩

theorem exec_rateTimeout {l : Nat} (hw : w = s.atT i) (valid : (w.tiuUnit k).rateValid = true) (here : w.isolated .tiu = false)
    (last : w.tiu.lastEdge.getD (w.rd (Reg.TIU_U_START k) % 4) none = some l)
    (long : l * 4000 + max 1 (w.rd (Reg.TIU_U_TIMEOUT k)) * ms ≤ w.now) :
    exec (.rateTimeout k i) s = .next ((w.mapTiuUnit k (fun x => { x with rateValid := false, results := [] })).event [Reg.TIU_STAT_STALE.bit k]) := by
  change execRateTimeout k i s = _
  unfold execRateTimeout
  simp only [← hw, valid, here, last, long, decide_true, Bool.not_false, Bool.and_self, if_true]

theorem exec_tiuArm {m : Master} (hw : w = s.atT i) (able : commandable w m .tiu none) :
    exec (.tiuArm m k i) s = .next (w.tiuTo k .armed).done ∧ exec (.tiuDisarm m k i) s = .next (w.tiuTo k .idle).done := by
  constructor
  · change Host.Outcome.next ((s.atT i).strobe m .tiu none false (fun s => s.tiuTo k .armed)) = _
    rw [← hw, strobe_of_commandable able]
  · change Host.Outcome.next ((s.atT i).strobe m .tiu none false (fun s => s.tiuTo k .idle)) = _
    rw [← hw, strobe_of_commandable able]

/-- Settles O39. -/
theorem timeIntervalUnitsMeasure : Obligations.TimeIntervalUnitsMeasure := by
  intro t s w hw wf
  refine ⟨fun n up l last soon => exec_tachEdge_ignored hw last soon, ?_, ?_, ?_, fun u l valid here last long => exec_rateTimeout hw valid here last long,
    ?_, ?_⟩
  · rintro n up u x c low fitted four first here rfl rfl running - within period starts fresh - started
    obtain ⟨before, at_⟩ := edgeAt fitted w n up (w.now / 4000)
    obtain ⟨result, state, count, rate, stop, measured⟩ := at_.period wf low (by omega) running started within period starts fresh
    exact ⟨_, exec_tachEdge hw low first here, result, state, count, rate, stop.trans (Nat.mod_eq_of_lt (devTime_lt w)).symm, measured,
      at_.lastEdge, at_.only⟩
  · rintro n up u x c low fitted four first here rfl rfl armed calm interval starts goes
    obtain ⟨before, at_⟩ := edgeAt fitted w n up (w.now / 4000)
    have turn : before.tiuEdge n up (w.now / 4000) u = before.tiuStart u (w.now / 4000) :=
      tiuEdge_interval (by rwa [at_.unit]) (by rwa [at_.unit]) (by rw [at_.on_tuned rfl, interval])
        (by rw [at_.rd_tuned rfl, starts]; exact edgeIs_start low up) (by rwa [at_.rd_tuned rfl])
    have last := at_.turn.unit
    rw [turn, State.tiuStart, tiuUnit_mapTiuUnit (by rw [at_.length]; omega)] at last
    refine ⟨_, exec_tachEdge hw low first here, by rw [last], by rw [last], ?_, at_.only⟩
    have mem : (Reg.TIU_U_RESULT u).addr ∈ unitWords u := by simp [mem_unitWords, Reg.TIU_U_RESULT]
    rw [at_.rd_after wf rfl mem (.inl Nat.le.refl), turn, State.tiuStart, rd_mapTiuUnit, at_.rd_before wf rfl Nat.le.refl mem]
  · intro u low fitted running long here
    obtain ⟨result, ovf, count⟩ := rd_tiuOverflow wf u
    obtain ⟨stale, idle⟩ := tiuUnit_tiuOverflow fitted
    exact ⟨_, exec_tiuOverflow hw running long here, result, ovf, stale, idle, count, only_tiuOverflow only_refl (by decide)⟩
  · intro m u able interval on
    have mode : w.tiuInterval u = true := interval
    obtain ⟨arm, disarm⟩ := exec_tiuArm (k := u) hw able
    rw [arm, disarm, State.tiuTo, State.tiuTo, if_pos (by simp [mode, on]), if_pos (by simp [mode, on])]
    exact ⟨rfl, rfl⟩
  · intro m u able still
    have mode : (w.tiuInterval u && (w.tiuUnit u).state != .off) = false := by
      rcases still with period | off
      · rw [State.tiuInterval, period]; rfl
      · rw [off, bne_self_eq_false, Bool.and_false]
    obtain ⟨arm, disarm⟩ := exec_tiuArm (k := u) hw able
    rw [arm, disarm, State.tiuTo, State.tiuTo, mode]
    exact ⟨rfl, rfl⟩

end Sys2Proof.Proofs
end

section
/-! The reference converter (R369 to R391): the sequences and calibrations, and how a result is published. -/

namespace Sys2Proof.Proofs

open Sys2Proof Sys2Proof.Machine Sys2Proof.Safety Sys2Proof.Laws

variable {s t u v w : State} {i : Instant} {as : List Nat} {m : Master} {c k p n : Nat}

/-! ### A conversion begins (R374, R377, R378) -/

/-- The conversion that begins for channel `c`. -/
def conversionAt (s : State) (c p : Nat) (inj : Bool) (at_ : Nat) : Conversion :=
  { chan := c, preset := p, injected := inj, startAt := at_, endAt := at_ + (presetConv p).2, gain := s.gainOf c }

theorem beginConversion_ref (s : State) (c p at_ : Nat) (inj : Bool) :
    (s.beginConversion c p inj at_).ref.act = (if inj then .injected else .regular)
      ∧ (s.beginConversion c p inj at_).ref.conv = some (conversionAt s c p inj at_) := ⟨rfl, rfl⟩

theorem seqLen_pos (s : State) : ∃ n, s.seqLen = n + 1 := ⟨s.seqLen - 1, by unfold State.seqLen; omega⟩

theorem injLen_pos (s : State) : ∃ n, s.injLen = n + 1 := ⟨s.injLen - 1, by unfold State.injLen; omega⟩

theorem regularFrom_first (on : s.on (Reg.REF_SEQ_EN k) = true) (single : s.pairedOdd (s.rd (Reg.REF_SEQ_CH k)) = false) (at_ n : Nat) :
    s.regularFrom k at_ (n + 1)
      = (s.mapRef (fun r => { r with entry := k })).beginConversion (s.rd (Reg.REF_SEQ_CH k)) (s.rd (Reg.REF_SEQ_PRESET k)) false at_ := by
  rw [State.regularFrom, on, single]
  rfl

theorem injectedFrom_first (on : s.on (Reg.REF_INJ_EN k) = true) (single : s.pairedOdd (s.rd (Reg.REF_INJ_CH k)) = false) (at_ n : Nat) :
    s.injectedFrom k at_ (n + 1)
      = (s.mapRef (fun r => { r with injEntry := k })).beginConversion (s.rd (Reg.REF_INJ_CH k)) (s.rd (Reg.REF_INJ_PRESET k)) true at_ := by
  rw [State.injectedFrom, on, single]
  rfl

/-- The state with the next cycle begun. -/
def cycleBegun (w : State) : State := w.mapRef (fun r => { r with cycleAt := w.ref.freeAt, cycleDone := false, entry := 0 })

theorem exec_sequenceCycleStart (hw : w = s.atT i) (on : w.on Reg.REF_CTL_EN = true) (up : w.ref.restarting = false) (done : w.ref.cycleDone = true)
    (idle : w.ref.act = .idle) (free : w.rd Reg.REF_SEQ_CTL_PERIOD_US = 0) (due : w.ref.freeAt ≤ w.now) :
    exec (.sequenceCycleStart i) s = .next ((cycleBegun w).regularFrom 0 w.ref.freeAt (cycleBegun w).seqLen) := by
  change execSequenceCycleStart i s = _
  unfold execSequenceCycleStart
  simp only [← hw, on, up, done, idle, free, due, decide_true, Bool.not_false, Bool.and_self, if_true]
  rfl

/-- The cycle of the regular sequence begins with its first entry. -/
theorem cycle_begins (on : w.on (Reg.REF_SEQ_EN 0) = true) (single : w.pairedOdd (w.rd (Reg.REF_SEQ_CH 0)) = false) :
    (cycleBegun w).regularFrom 0 w.ref.freeAt (cycleBegun w).seqLen
      = ((cycleBegun w).mapRef (fun r => { r with entry := 0 })).beginConversion (w.rd (Reg.REF_SEQ_CH 0)) (w.rd (Reg.REF_SEQ_PRESET 0)) false
          w.ref.freeAt := by
  obtain ⟨n, len⟩ := seqLen_pos (cycleBegun w)
  rw [len, regularFrom_first (s := cycleBegun w) on single]
  rfl

/-! ### The injected sequence (R378, R382) -/

/-- The state with the injected sequence begun now. -/
def injectionBegun (s : State) : State :=
  ((s.mapRef (fun r => { r with injPending := false })).mapRef (fun r => { r with injEntry := 0 })).beginConversion (s.rd (Reg.REF_INJ_CH 0))
    (s.rd (Reg.REF_INJ_PRESET 0)) true s.now

theorem injTrigger_of_idle (up : s.ref.restarting = false) (on : s.on Reg.REF_CTL_EN = true) (idle : s.ref.act = .idle)
    (none_ : s.ref.injPending = false) (free : s.ref.conv = none) (first : s.on (Reg.REF_INJ_EN 0) = true)
    (single : s.pairedOdd (s.rd (Reg.REF_INJ_CH 0)) = false) : s.injTrigger = injectionBegun s := by
  have now : s.preemptAt = s.now := by rw [State.preemptAt, free]
  obtain ⟨n, len⟩ := injLen_pos s
  have begun : s.beginInjected s.now = injectionBegun s := by
    rw [State.beginInjected, len, injectedFrom_first (s := s.mapRef (fun r => { r with injPending := false })) first single]
    rfl
  rw [← begun, ← now]
  simp [State.injTrigger, up, on, idle, none_]

theorem injTrigger_missed (up : s.ref.restarting = false) (on : s.on Reg.REF_CTL_EN = true) (busy : s.ref.act = .injected) :
    s.injTrigger = (s.event [Reg.REF_STAT_INJ_MISS]).bump Reg.REF_INJ_MISS_CNT := by
  simp [State.injTrigger, up, on, busy]

theorem exec_refInj (hw : w = s.atT i) (able : commandable w m .ref none) (cmd : w.rd Reg.REF_INJ_CTL_TRIG = 0) :
    exec (.refInj m i) s = .next w.injTrigger.done := by
  change Host.Outcome.next ((s.atT i).strobe m .ref none false State.refInj) = _
  rw [← hw, strobe_of_commandable able, State.refInj, cmd]
  rfl

theorem exec_injTrigger_tach (hw : w = s.atT i) (trig : w.rd Reg.REF_INJ_CTL_TRIG = 2) (due : w.ref.tachDue = true) :
    exec (.injTrigger i) s = .next (w.mapRef (fun r => { r with tachDue := false })).injTrigger := by
  change execInjTrigger i s = _
  unfold execInjTrigger
  simp [← hw, trig, due]

theorem only_injectionBegun (s : State) : onlyParts [.ref] s (injectionBegun s) :=
  only_beginConversion (only_mapRef (only_mapRef only_refl (by decide)) (by decide)) (by decide)

theorem injectionBegun_ref (s : State) :
    (injectionBegun s).ref.act = .injected ∧ (injectionBegun s).ref.tachDue = s.ref.tachDue
      ∧ ((injectionBegun s).ref.conv.map (fun x => (x.chan, x.injected, x.startAt))) = some (s.rd (Reg.REF_INJ_CH 0), true, s.now) := ⟨rfl, rfl, rfl⟩

/-! ### Self-calibration (R381, R382) -/

theorem startCal_of_idle (up : s.ref.restarting = false) (idle : s.ref.act = .idle) (none_ : s.ref.calPending = false) (free : s.ref.conv = none) :
    s.startCal = { s with ref := { s.ref with restarts := 0, act := .calibrating, calAt := s.now } } := by
  have now : (s.mapRef (fun r => { r with restarts := 0 })).preemptAt = s.now := by
    change (match s.ref.conv with | some c => s.stepBoundary c.startAt us | none => s.now) = s.now
    rw [free]
  have begun : s.startCal = (s.mapRef (fun r => { r with restarts := 0 })).beginCal s.now := by
    simp [State.startCal, up, idle, none_, now]
  have kept : { s.ref with restarts := 0, act := .calibrating, conv := none, calPending := false, calAt := s.now }
      = { s.ref with restarts := 0, act := .calibrating, calAt := s.now } := by
    rw [Ref.mk.injEq]
    simp only [none_, free, and_self]
  rw [begun]
  exact congrArg (fun r => { s with ref := r }) kept

theorem exec_refCal (hw : w = s.atT i) (able : commandable w m .ref none) : exec (.refCal m i) s = .next w.startCal.done := by
  change Host.Outcome.next ((s.atT i).strobe m .ref none false (fun s => s.startCal)) = _
  rw [← hw, strobe_of_commandable able]

theorem exec_refCalPeriod (hw : w = s.atT i) (on : w.rd Reg.REF_CAL_CTL_PERIOD_S ≠ 0)
    (due : w.ref.calPeriodAt + w.rd Reg.REF_CAL_CTL_PERIOD_S * sec ≤ w.now) (here : w.isolated .ref = false) :
    exec (.refCalPeriod i) s = .next (w.mapRef (fun r => { r with calPeriodAt := w.now })).startCal := by
  change execRefCalPeriod i s = _
  unfold execRefCalPeriod
  simp only [← hw, bne_iff_ne.2 on, due, here, decide_true, Bool.not_false, Bool.and_self, if_true]

/-- A calibration's factor enters where it is within its limit. -/
def putFactor (f : Nat → Field) (xs : List (Option Nat)) (s : State) (k : Nat) : State :=
  match xs.getD k none with
  | some v => s.wr (f k) v
  | none => s

theorem putFactor_words (wf : storeWf s.regs.live = true) {f : Nat → Field} {xs : List (Option Nat)} (k : Nat) (narrow : (f k).lo + (f k).width ≤ 32) :
    storeWf (putFactor f xs s k).regs.live = true ∧ ∀ a, a ≠ (f k).addr → (putFactor f xs s k).live a = s.live a := by
  unfold putFactor
  split
  · next x _ =>
    have put : LiveIn [(f k).addr] s (s.wr (f k) x) := LiveIn.refl.wr _ _ List.mem_cons_self (.inl narrow)
    exact ⟨put.wf wf, fun a ha => put.words wf a (by rwa [List.mem_singleton])⟩
  · exact ⟨wf, fun _ _ => rfl⟩

/-- The factors of the gain codes: code `k`'s stands in its own word. -/
structure FactorWords (f : Nat → Field) : Prop where
  live : ∀ k, (f k).tuned = false
  narrow : ∀ k, (f k).lo + (f k).width ≤ 32
  apart : ∀ j k, j ≠ k → (f j).addr ≠ (f k).addr

theorem putFactors_words {f : Nat → Field} (words : FactorWords f) (xs : List (Option Nat)) (ks : List Nat) (wf : storeWf s.regs.live = true) :
    storeWf (ks.foldl (putFactor f xs) s).regs.live = true
      ∧ ∀ a, (∀ k ∈ ks, a ≠ (f k).addr) → (ks.foldl (putFactor f xs) s).live a = s.live a := by
  induction ks generalizing s with
  | nil => exact ⟨wf, fun _ _ => rfl⟩
  | cons k ks ih =>
    obtain ⟨wf', first⟩ := putFactor_words (f := f) (xs := xs) wf k (words.narrow k)
    obtain ⟨wf'', rest⟩ := ih wf'
    exact ⟨wf'', fun a out => (rest a (fun j hj => out j (List.mem_cons_of_mem _ hj))).trans (first a (out k List.mem_cons_self))⟩

theorem rd_putFactors_other {f : Nat → Field} (words : FactorWords f) (xs : List (Option Nat)) (ks : List Nat) (wf : storeWf s.regs.live = true)
    {g : Field} (ht : g.tuned = false) (hg : g.lo + g.width ≤ 32) (out : ∀ k ∈ ks, g.addr ≠ (f k).addr) :
    (ks.foldl (putFactor f xs) s).rd g = s.rd g := by
  rw [rd_live _ ht, rd_live _ ht]
  exact read_congr g hg _ _ ((putFactors_words words xs ks wf).2 _ out)

theorem rd_putFactors {f : Nat → Field} (words : FactorWords f) {xs : List (Option Nat)} {ks : List Nat} (wf : storeWf s.regs.live = true)
    (once : ks.Nodup) (mem : k ∈ ks) {x : Nat} (within : xs.getD k none = some x) (fits : x < 2 ^ (f k).width) :
    (ks.foldl (putFactor f xs) s).rd (f k) = x := by
  obtain ⟨pre, post, rfl⟩ := List.append_of_mem mem
  rw [List.nodup_middle, List.nodup_cons, List.mem_append, not_or] at once
  obtain ⟨⟨-, after⟩, -⟩ := once
  have wf1 := (putFactors_words words xs pre wf).1
  rw [List.foldl_append, List.foldl_cons,
    rd_putFactors_other words xs post (putFactor_words wf1 k (words.narrow k)).1 (words.live k) (words.narrow k)
      (fun j hj => words.apart k j (fun e => after (e ▸ hj))), putFactor, within]
  exact (rd_wr wf1 _ (words.live k) (words.narrow k) _).trans (Nat.mod_eq_of_lt fits)

theorem tuned_putFactors (f : Nat → Field) (xs : List (Option Nat)) (ks : List Nat) (s : State) :
    (ks.foldl (putFactor f xs) s).tuned = s.tuned ∧ (ks.foldl (putFactor f xs) s).ref = s.ref := by
  induction ks generalizing s with
  | nil => exact ⟨rfl, rfl⟩
  | cons k ks ih =>
    have first : (putFactor f xs s k).tuned = s.tuned ∧ (putFactor f xs s k).ref = s.ref := by
      unfold putFactor
      split
      · exact ⟨funext (tuned_wr _ _ _), wr_ref _ _ _⟩
      · exact ⟨rfl, rfl⟩
    exact ⟨(ih _).1.trans first.1, (ih _).2.trans first.2⟩

theorem only_putFactors (f : Nat → Field) (xs : List (Option Nat)) (ks : List Nat) : onlyParts [.regs] s (ks.foldl (putFactor f xs) s) := by
  refine only_foldl only_refl (fun t k h => ?_)
  unfold putFactor
  split
  · exact only_wr h (by decide)
  · exact h

theorem factorWords_off : FactorWords Reg.REF_OFF :=
  ⟨fun _ => rfl, fun _ => Nat.le_of_ble_eq_true rfl, fun j k h => by simp only [Reg.REF_OFF]; omega⟩

theorem factorWords_gain : FactorWords Reg.REF_GAIN :=
  ⟨fun _ => rfl, fun _ => Nat.le_of_ble_eq_true rfl, fun j k h => by simp only [Reg.REF_GAIN]; omega⟩

/-- The state with the factors of a calibration entered. -/
def factorsEntered (w : State) (off gain : List (Option Nat)) : State :=
  (List.range 8).foldl (putFactor Reg.REF_GAIN gain) ((List.range 8).foldl (putFactor Reg.REF_OFF off) w)

/-- The state after a calibration all of whose factors were within their limits. -/
def calibrated (w : State) (off gain : List (Option Nat)) : State :=
  (((factorsEntered w off gain).bump Reg.REF_CAL_CNT).event [Reg.REF_STAT_CAL_DONE]).mapRef (fun r =>
    { r with act := .idle, calOk := true })

theorem calibrated_ref (w : State) (off gain : List (Option Nat)) : (calibrated w off gain).ref = { w.ref with act := .idle, calOk := true } := by
  have entered : (factorsEntered w off gain).ref = w.ref := (tuned_putFactors _ _ _ _).2.trans (tuned_putFactors _ _ _ _).2
  change { (((factorsEntered w off gain).bump Reg.REF_CAL_CNT).event [Reg.REF_STAT_CAL_DONE]).ref with act := RefAct.idle, calOk := true } = _
  rw [event_ref, bump_ref, entered]

theorem resumeRegular_done (done : s.ref.cycleDone = true) (at_ : Nat) :
    s.resumeRegular at_ = s.mapRef (fun r => { r with act := .idle, conv := none, freeAt := at_ }) := by
  simp [State.resumeRegular, done]

theorem factors_good {off gain : List (Option Nat)}
    (all : (List.range 8).all (fun g => (off.getD g none).isSome && (gain.getD g none).isSome) = true) :
    (List.range 8).any (fun g => (off.getD g none).isNone || (gain.getD g none).isNone) = false := by
  rw [List.any_eq_false]
  intro g mem
  have both := List.all_eq_true.1 all g mem
  rw [Bool.and_eq_true] at both
  rw [Option.isNone_eq_false_iff.2 both.1, Option.isNone_eq_false_iff.2 both.2]
  exact Bool.false_ne_true

theorem sources_still (still : (List.range 12).all (fun c => !w.excited c) = true) : (List.range 12).filter (fun c => w.excited c) = [] := by
  rw [List.filter_eq_nil_iff]
  intro c mem
  simpa using List.all_eq_true.1 still c mem

theorem exec_refCalDone {off gain iexc : List (Option Nat)} (hw : w = s.atT i) (act : w.ref.act = .calibrating)
    (due : w.ref.calAt + 1536 * us ≤ w.now) (none_ : w.ref.injPending = false) (done : w.ref.cycleDone = true)
    (all : (List.range 8).all (fun g => (off.getD g none).isSome && (gain.getD g none).isSome) = true)
    (still : (List.range 12).all (fun c => !w.excited c) = true) :
    exec (.refCalDone off gain iexc i) s = .next ((calibrated w off gain).mapRef (fun r =>
      { r with act := .idle, conv := none, freeAt := w.ref.calAt + 1536 * us })) := by
  change execRefCalDone off gain iexc i s = _
  have ref := calibrated_ref w off gain
  have quiet : (calibrated w off gain).ref.injPending = false := by rw [ref]; exact none_
  rw [← resumeRegular_done (by rw [ref]; exact done)]
  unfold execRefCalDone
  simp only [← hw, act, due, decide_true, Bool.and_self, if_true, sources_still still, factors_good all, List.any_nil, Bool.or_false, List.foldl_nil,
    Bool.not_false]
  exact congrArg Host.Outcome.next (if_neg (Bool.eq_false_iff.1 quiet))

theorem rd_calibrated {off gain : List (Option Nat)} {g a b : Nat} (wf : storeWf w.regs.live = true) (low : g < 8)
    (hoff : off.getD g none = some a) (hgain : gain.getD g none = some b) (ha : a < 2 ^ 24) (hb : b < 2 ^ 24) :
    (calibrated w off gain).rd (Reg.REF_OFF g) = a ∧ (calibrated w off gain).rd (Reg.REF_GAIN g) = b
      ∧ (calibrated w off gain).rd Reg.REF_CAL_CNT = min (w.rd Reg.REF_CAL_CNT + 1) (2 ^ 32 - 1) := by
  have wf1 := (putFactors_words factorWords_off off (List.range 8) wf).1
  have wf2 : storeWf (factorsEntered w off gain).regs.live = true := (putFactors_words factorWords_gain gain (List.range 8) wf1).1
  have reported : LiveIn [0x520090, 0x520004] (factorsEntered w off gain) (calibrated w off gain) :=
    ((LiveIn.refl.wr Reg.REF_CAL_CNT _).event Reg.REF_STAT_CAL_DONE).of_live rfl
  have mem := List.mem_range.2 low
  refine ⟨?_, ?_, ?_⟩
  · rw [reported.rd wf2 rfl (by simp [Reg.REF_OFF]) (by simp only [Reg.REF_OFF, List.mem_cons, List.not_mem_nil, or_false]; omega), factorsEntered,
      rd_putFactors_other factorWords_gain _ _ wf1 rfl (by simp [Reg.REF_OFF])
        (fun k hk => by rw [List.mem_range] at hk; simp only [Reg.REF_OFF, Reg.REF_GAIN]; omega)]
    exact rd_putFactors factorWords_off wf List.nodup_range mem hoff ha
  · rw [reported.rd wf2 rfl (by simp [Reg.REF_GAIN]) (by simp only [Reg.REF_GAIN, List.mem_cons, List.not_mem_nil, or_false]; omega)]
    exact rd_putFactors factorWords_gain wf1 List.nodup_range mem hgain hb
  · have counted : (calibrated w off gain).rd Reg.REF_CAL_CNT = ((factorsEntered w off gain).bump Reg.REF_CAL_CNT).rd Reg.REF_CAL_CNT :=
      rd_event_other (wf_bump wf2 _) _ _ _ (Nat.le_refl _) (.inr (by decide))
    rw [counted, rd_bump wf2 _ rfl (Nat.le_refl _), factorsEntered,
      rd_putFactors_other factorWords_gain _ _ wf1 rfl (Nat.le_refl _) (fun k _ => by simp only [Reg.REF_CAL_CNT, Reg.REF_GAIN]; omega),
      rd_putFactors_other factorWords_off _ _ wf rfl (Nat.le_refl _) (fun k _ => by simp only [Reg.REF_CAL_CNT, Reg.REF_OFF]; omega)]
    rfl

theorem only_calibrated (w : State) (off gain : List (Option Nat)) : onlyParts [.ref, .regs] w (calibrated w off gain) :=
  only_mapRef (only_event (only_bump (onlyParts_mono (onlyParts_trans (only_putFactors _ _ _) (only_putFactors _ _ _)) (by decide)) (by decide))
    (by decide)) (by decide)

theorem factorMask_gain (low : k < 16) : factorMask (0x520800 + 4 * k) = some 0xFFFFFF#32 := by
  rw [factorMask, if_neg (by omega), if_pos (by simp; omega)]
  rfl

theorem exec_refFactorWrite {x : Word} (hw : w = s.atT i) (able : commandable w m .ref none) (low : k < 16) :
    exec (.refFactorWrite m (0x520800 + 4 * k) x i) s = .next (w.setLive (0x520800 + 4 * k) (x &&& 0xFFFFFF#32)).done := by
  change Host.Outcome.next ((s.atT i).strobe m .ref none false (fun s => s.refFactor (0x520800 + 4 * k) x)) = _
  rw [← hw, strobe_of_commandable able, State.refFactor, factorMask_gain low]

/-! ### A result is published (R374, R386, R388 to R391) -/

/-- What a published result may move beyond its channel's own words: the status words of REF and SRC and the derating factor. No channel changes. -/
structure Notified (s v : State) : Prop where
  live : LiveIn [0x520004, 0x120000, 0x120018] s v
  tuned : v.tuned = s.tuned
  chans : v.ref.chans = s.ref.chans

theorem Notified.refl : Notified s s := ⟨.refl, rfl, rfl⟩

theorem Notified.trans (h : Notified s t) (h' : Notified t v) : Notified s v :=
  ⟨h.live.trans h'.live, h'.tuned.trans h.tuned, h'.chans.trans h.chans⟩

theorem Notified.of_regs (h : Notified s t) (regs : v.regs = t.regs) (chans : v.ref.chans = t.ref.chans) : Notified s v :=
  h.trans ⟨LiveIn.refl.of_live (by rw [regs]), by funext a; rw [State.tuned, regs, State.tuned], chans⟩

theorem Notified.event (h : Notified s t) (f : Field) (hf : f.addr ∈ [0x520004, 0x120000, 0x120018]) : Notified s (t.event [f]) :=
  h.trans ⟨LiveIn.refl.event f hf, funext (tuned_event _ _), by rw [event_ref]⟩

theorem Notified.ite {p : Prop} [Decidable p] {a b : State} (ha : Notified s a) (hb : Notified s b) : Notified s (if p then a else b) := by
  split <;> assumption

theorem notified_windows (lin : Option Int) : Notified s (s.windows c lin) := by
  unfold State.windows
  extract_lets put up down r s1
  have held : Notified s s1 := Notified.refl.of_regs rfl rfl
  exact .ite held (held.event _ (by decide))

theorem notified_switchFallback : Notified s (s.switchFallback k) := by
  unfold State.switchFallback
  extract_lets was s1
  have moved : Notified s s1 := Notified.refl.of_regs rfl rfl
  exact .ite moved (moved.event _ (by decide))

theorem notified_switchResult (lin : Option Int) : Notified s (s.switchResult k lin) := by
  unfold State.switchResult
  split
  · exact notified_switchFallback
  · extract_lets b on was s1
    have moved : Notified s s1 := Notified.refl.of_regs rfl rfl
    exact .ite moved (moved.event _ (by decide))

theorem notified_derate (lin : Option Int) : Notified s (s.derate c lin) := by
  unfold State.derate
  extract_lets f s1
  have flagged : Notified s s1 := .ite
    ⟨LiveIn.refl.eventStands Reg.SRC_STAT_DERATE_INVALID, rfl, by rw [eventStands_ref]⟩
    ⟨LiveIn.refl.causeGone Reg.SRC_STAT_DERATE_INVALID, by unfold State.causeGone; dsimp only; split <;> rfl, by rw [causeGone_ref]⟩
  refine .ite .refl (.ite (flagged.of_regs rfl rfl) (flagged.trans ?_))
  exact ⟨(LiveIn.refl.wr Reg.SRC_DERATE_NOW_F _).of_live rfl, funext (tuned_wr _ _ _), by rw [mapSrc_ref, wr_ref]⟩

theorem notified_switches {ks : List Nat} (lin : Option Int) :
    Notified s (ks.foldl (fun s k => if s.on (Reg.REF_SW_EN k) && s.rd (Reg.REF_SW_CH k) = c then s.switchResult k lin else s) s) := by
  induction ks generalizing s with
  | nil => exact .refl
  | cons k ks ih => exact Notified.trans (.ite (notified_switchResult lin) .refl) ih

/-- A channel's own result registers. -/
def resultEntered (s : State) (c : Nat) (lin : Int) (inj : Bool) (at_ : Nat) : State :=
  (((s.wr (Reg.REF_C_LIN c) (wrapN 32 lin)).wr (Reg.REF_C_INJ c) (if inj then 1 else 0)).wr (Reg.REF_C_RSEQ c)
    ((s.rd (Reg.REF_C_RSEQ c) + 1) % 65536)).wr (Reg.REF_C_TIME c)
    ((((s.wr (Reg.REF_C_LIN c) (wrapN 32 lin)).wr (Reg.REF_C_INJ c) (if inj then 1 else 0)).wr (Reg.REF_C_RSEQ c)
      ((s.rd (Reg.REF_C_RSEQ c) + 1) % 65536)).devTimeAt at_)

theorem notified_publish (s : State) (c : Nat) (reason : Reason) (lin : Int) (inj : Bool) (at_ : Nat) :
    Notified (resultEntered (s.mapRefChan c (fun x => { x with reason := reason, lin := lin })) c lin inj at_) (s.publish c reason lin inj at_) := by
  unfold State.publish
  extract_lets s1 s2 s3 ok s4 s5 s6
  have windows : Notified s3 s4 := notified_windows ok
  have switches : Notified s3 s5 := windows.trans (notified_switches ok)
  have coil : Notified s3 s6 := switches.of_regs rfl rfl
  exact coil.trans (notified_derate _)

/-- The live words of a channel's result. -/
def chanWords (c : Nat) : List Nat := [0x520118 + 64 * c, 0x52011C + 64 * c, 0x520120 + 64 * c, 0x520124 + 64 * c]

theorem liveIn_resultEntered (s : State) (c : Nat) (lin : Int) (inj : Bool) (at_ : Nat) :
    LiveIn (chanWords c) s (resultEntered s c lin inj at_) := by
  unfold resultEntered
  refine (((LiveIn.refl.wr _ _ ?_ (.inl ?_)).wr _ _ ?_ (.inl ?_)).wr _ _ ?_ (.inl ?_)).wr _ _ ?_ (.inr ?_)
  all_goals simp [chanWords, Reg.REF_C_LIN, Reg.REF_C_INJ, Reg.REF_C_RSEQ, Reg.REF_C_TIME]
  omega

theorem tuned_resultEntered (s : State) (c : Nat) (lin : Int) (inj : Bool) (at_ : Nat) : (resultEntered s c lin inj at_).tuned = s.tuned := by
  funext a
  simp only [resultEntered, tuned_wr]

theorem ref_resultEntered (s : State) (c : Nat) (lin : Int) (inj : Bool) (at_ : Nat) : (resultEntered s c lin inj at_).ref = s.ref := by
  simp only [resultEntered, wr_ref]

theorem rd_rseq_resultEntered (wf : storeWf s.regs.live = true) (c : Nat) (lin : Int) (inj : Bool) (at_ : Nat) :
    (resultEntered s c lin inj at_).rd (Reg.REF_C_RSEQ c) = (s.rd (Reg.REF_C_RSEQ c) + 1) % 65536 := by
  have wf1 := wf_wr (wf_wr wf (Reg.REF_C_LIN c) (wrapN 32 lin)) (Reg.REF_C_INJ c) (if inj then 1 else 0)
  have wf2 := wf_wr wf1 (Reg.REF_C_RSEQ c) ((s.rd (Reg.REF_C_RSEQ c) + 1) % 65536)
  have timed (x : State) (n : Nat) : LiveIn [0x520120 + 64 * c, 0x520124 + 64 * c] x (x.wr (Reg.REF_C_TIME c) n) :=
    LiveIn.refl.wr _ _ List.mem_cons_self (.inr (by simp only [Reg.REF_C_TIME, List.mem_cons, List.not_mem_nil, or_false]; omega))
  rw [resultEntered, (timed _ _).rd wf2 rfl (by simp [Reg.REF_C_RSEQ])
    (by simp only [Reg.REF_C_RSEQ, List.mem_cons, List.not_mem_nil, or_false]; omega), rd_wr wf1 _ rfl (by simp [Reg.REF_C_RSEQ])]
  exact Nat.mod_eq_of_lt (Nat.mod_lt _ (by decide))

theorem refChan_mapRefChan (fitted : c < s.ref.chans.length) (f : RefChan → RefChan) : (s.mapRefChan c f).refChan c = f (s.refChan c) :=
  getD_modAt fitted f _

theorem refChan_of_chans (h : v.ref.chans = s.ref.chans) (c : Nat) : v.refChan c = s.refChan c := by
  rw [State.refChan, h, State.refChan]

/-- What channel `c` publishes, and what it leaves alone. -/
structure Publishes (s : State) (c : Nat) (reason : Reason) (lin : Int) (v : State) : Prop where
  live : LiveIn (chanWords c ++ [0x520004, 0x120000, 0x120018]) s v
  tuned : v.tuned = s.tuned
  chans : v.ref.chans = modAt s.ref.chans c (fun x => { x with reason := reason, lin := lin })
  counted : storeWf s.regs.live = true → v.rd (Reg.REF_C_RSEQ c) = (s.rd (Reg.REF_C_RSEQ c) + 1) % 65536

theorem publishes (s : State) (c : Nat) (reason : Reason) (lin : Int) (inj : Bool) (at_ : Nat) :
    Publishes s c reason lin (s.publish c reason lin inj at_) where
  live := by
    have entered := (LiveIn.refl.of_live (s := s) (v := s.mapRefChan c (fun x => { x with reason := reason, lin := lin })) rfl).trans
      (liveIn_resultEntered _ c lin inj at_)
    exact (liveIn_mono entered (List.subset_append_left _ _)).trans
      (liveIn_mono (notified_publish s c reason lin inj at_).live (List.subset_append_right _ _))
  tuned := (notified_publish s c reason lin inj at_).tuned.trans (tuned_resultEntered _ _ _ _ _)
  chans := (notified_publish s c reason lin inj at_).chans.trans (by rw [ref_resultEntered]; rfl)
  counted wf := by
    have wf' : storeWf (s.mapRefChan c (fun x => { x with reason := reason, lin := lin })).regs.live = true := wf
    have entered := liveIn_resultEntered (s.mapRefChan c (fun x => { x with reason := reason, lin := lin })) c lin inj at_
    rw [(notified_publish s c reason lin inj at_).live.rd (entered.wf wf') rfl (by simp [Reg.REF_C_RSEQ])
      (by simp only [Reg.REF_C_RSEQ, List.mem_cons, List.not_mem_nil, or_false]; omega), rd_rseq_resultEntered wf']
    rfl

theorem Publishes.refChan {reason : Reason} {lin : Int} (h : Publishes s c reason lin v) (fitted : c < s.ref.chans.length) :
    v.refChan c = { s.refChan c with reason := reason, lin := lin } := by
  rw [State.refChan, h.chans, getD_modAt fitted]
  rfl

/-! ### The compliance monitor (R371, R383, R385) -/

/-- The channel of a source whose compliance fails is marked. -/
def openMarked (w : State) (c : Nat) : State :=
  (w.mapRefChan c (fun x => { x with compliance := true, complianceAt := w.now })).mapRefChan c (fun x =>
    { x with openWire := true, history := [], good := 0 })

/-- OPEN is raised on a channel that carried none. -/
def openRaised (w : State) (c : Nat) : State := ((openMarked w c).eventStands [Reg.REF_STAT_OPEN]).bump (Reg.REF_C_OPEN_CNT c)

theorem exec_complianceOpen (hw : w = s.atT i) (fitted : c < w.ref.chans.length) (runs : w.excited c = true) (single : w.pairedOdd c = false)
    (well : (w.refChan c).compliance = false) (joined : (w.refChan c).openWire = false) (up : w.ref.restarting = false) (free : w.ref.conv = none) :
    exec (.complianceOpen c true i) s = .next ((openRaised w c).publishOpen c false (openRaised w c).now) := by
  change execComplianceOpen c true i s = _
  have raise : (w.mapRefChan c (fun x => { x with compliance := true, complianceAt := w.now })).raiseOpen c = openRaised w c := by
    have still : ((w.mapRefChan c (fun x => { x with compliance := true, complianceAt := w.now })).refChan c).openWire = false := by
      rw [refChan_mapRefChan fitted]
      exact joined
    rw [State.raiseOpen, still]
    rfl
  have ref : (openRaised w c).ref.restarting = false ∧ (openRaised w c).ref.conv = none := by
    rw [openRaised, bump_ref, eventStands_ref]
    exact ⟨up, free⟩
  unfold execComplianceOpen
  simp only [← hw, runs, single, well, Bool.not_false, Bool.and_self, if_true, raise, ref.1, ref.2]
  rfl

theorem exec_complianceOpen_off (hw : w = s.atT i) (flagged : (w.refChan c).compliance = true) :
    exec (.complianceOpen c false i) s = .next (w.mapRefChan c (fun x => { x with compliance := false, complianceAt := w.now })) := by
  change execComplianceOpen c false i s = _
  unfold execComplianceOpen
  simp only [← hw, flagged, Bool.not_false, Bool.and_self, if_true]
  rfl

theorem refChan_openRaised (fitted : c < w.ref.chans.length) :
    (openRaised w c).refChan c = { w.refChan c with compliance := true, complianceAt := w.now, openWire := true, history := [], good := 0 } := by
  have length : c < (w.mapRefChan c (fun x => { x with compliance := true, complianceAt := w.now })).ref.chans.length := by
    change c < (modAt _ _ _).length
    rwa [modAt_length]
  rw [refChan_of_chans (s := openMarked w c) (by rw [openRaised, bump_ref, eventStands_ref]), openMarked, refChan_mapRefChan length,
    refChan_mapRefChan fitted]

theorem length_openRaised (w : State) (c : Nat) : (openRaised w c).ref.chans.length = w.ref.chans.length := by
  rw [openRaised, bump_ref, eventStands_ref]
  exact (modAt_length _ _ _).trans (modAt_length _ _ _)

theorem openRaised_words (wf : storeWf w.regs.live = true) (c : Nat) : storeWf (openRaised w c).regs.live = true
    ∧ (openRaised w c).rd (Reg.REF_C_OPEN_CNT c) = min (w.rd (Reg.REF_C_OPEN_CNT c) + 1) (2 ^ 32 - 1) := by
  have flagged (x : State) : LiveIn [0x520004] x (x.eventStands [Reg.REF_STAT_OPEN]) := LiveIn.refl.eventStands _
  have wf' := (flagged (openMarked w c)).wf wf
  refine ⟨wf_bump wf' _, ?_⟩
  rw [openRaised, rd_bump wf' _ rfl (Nat.le_refl _), (flagged (openMarked w c)).rd wf rfl (Nat.le_refl _)
    (by simp only [Reg.REF_C_OPEN_CNT, List.mem_singleton]; omega)]
  rfl

theorem only_openRaised (w : State) (c : Nat) : onlyParts [.ref, .regs] w (openRaised w c) :=
  only_bump (only_eventStands (only_mapRef (only_mapRef only_refl (by decide)) (by decide)) (by decide)) (by decide)

/-- A source whose compliance fails opens its wire (R371, R383, R385). -/
theorem publishOpen_openRaised (wf : storeWf w.regs.live = true) (fitted : c < w.ref.chans.length) (at_ : Nat) :
    ∃ v, (openRaised w c).publishOpen c false at_ = v ∧ (v.refChan c).openWire = true ∧ (v.refChan c).compliance = true
      ∧ (v.refChan c).reason = .openWire ∧ v.rd (Reg.REF_C_OPEN_CNT c) = min (w.rd (Reg.REF_C_OPEN_CNT c) + 1) (2 ^ 32 - 1)
      ∧ onlyParts [.ref, .regs, .dts, .src, .fresh] w v := by
  have words := openRaised_words wf c
  have out := publishes { openRaised w c with fresh := (openRaised w c).fresh + 1 } c .openWire
    (signed 32 (Config.refOpen (openRaised w c).fresh).toNat) false at_
  have chan := out.refChan (by rw [length_openRaised]; exact fitted)
  have before : ({ openRaised w c with fresh := (openRaised w c).fresh + 1 } : State).refChan c = (openRaised w c).refChan c := rfl
  rw [before, refChan_openRaised fitted] at chan
  refine ⟨_, rfl, ?_, ?_, ?_, ?_, onlyParts_trans (onlyParts_mono (only_openRaised w c) (by decide)) (only_publishOpen only_refl (by decide))⟩
  · exact congrArg RefChan.openWire chan
  · exact congrArg RefChan.compliance chan
  · exact congrArg RefChan.reason chan
  · refine (out.live.rd words.1 rfl (Nat.le_refl _) ?_).trans words.2
    simp only [Reg.REF_C_OPEN_CNT, chanWords, List.cons_append, List.nil_append, List.mem_cons, List.not_mem_nil, or_false]
    omega

/-! ### A conversion ends (R372 to R376, R383 to R388) -/

/-- What a conversion's end enters before its result is published. -/
structure Entered (s : State) (c : Nat) (raw g : Nat) (v : State) : Prop where
  wf : storeWf s.regs.live = true → storeWf v.regs.live = true
  raw : storeWf s.regs.live = true → v.rd (Reg.REF_C_RAW c) = raw % 2 ^ 24
  gain : storeWf s.regs.live = true → v.rd (Reg.REF_C_G c) = g % 2 ^ 3
  counted : storeWf s.regs.live = true → v.rd (Reg.REF_C_CONV_CNT c) = min (s.rd (Reg.REF_C_CONV_CNT c) + 1) (2 ^ 32 - 1)
  rseq : storeWf s.regs.live = true → v.rd (Reg.REF_C_RSEQ c) = s.rd (Reg.REF_C_RSEQ c)
  tuned : v.tuned = s.tuned

theorem entered (s : State) (c raw g : Nat) :
    Entered s c raw g (((s.wr (Reg.REF_C_RAW c) raw).wr (Reg.REF_C_G c) g).bump (Reg.REF_C_CONV_CNT c)) where
  wf wf := wf_bump (wf_wr (wf_wr wf _ _) _ _) _
  raw wf := by
    have wf1 := wf_wr wf (Reg.REF_C_RAW c) raw
    rw [State.bump, State.bumpBy, rd_wr_other (wf_wr wf1 _ _) _ _ (by simp [Reg.REF_C_CONV_CNT]) (by simp [Reg.REF_C_RAW])
      (.inr (by simp [Reg.REF_C_RAW, Reg.REF_C_CONV_CNT])),
      rd_wr_beside (f := Reg.REF_C_G c) (g := Reg.REF_C_RAW c) wf1 (by simp [Reg.REF_C_G]) (by simp [Reg.REF_C_RAW]) rfl rfl
        (.inl (by simp [Reg.REF_C_RAW, Reg.REF_C_G]))]
    exact rd_wr wf _ rfl (by simp [Reg.REF_C_RAW]) _
  gain wf := by
    have wf1 := wf_wr wf (Reg.REF_C_RAW c) raw
    rw [State.bump, State.bumpBy, rd_wr_other (wf_wr wf1 _ _) _ _ (by simp [Reg.REF_C_CONV_CNT]) (by simp [Reg.REF_C_G])
      (.inr (by simp [Reg.REF_C_G, Reg.REF_C_CONV_CNT]))]
    exact rd_wr wf1 _ rfl (by simp [Reg.REF_C_G]) _
  counted wf := by
    have wf1 := wf_wr wf (Reg.REF_C_RAW c) raw
    rw [rd_bump (wf_wr wf1 _ _) _ rfl (Nat.le_refl _), rd_wr_other wf1 _ _ (by simp [Reg.REF_C_G]) (Nat.le_refl _)
      (.inr (by simp [Reg.REF_C_G, Reg.REF_C_CONV_CNT])), rd_wr_other wf _ _ (by simp [Reg.REF_C_RAW]) (Nat.le_refl _)
      (.inr (by simp [Reg.REF_C_RAW, Reg.REF_C_CONV_CNT]))]
    rfl
  rseq wf := by
    have wf1 := wf_wr wf (Reg.REF_C_RAW c) raw
    rw [State.bump, State.bumpBy, rd_wr_other (wf_wr wf1 _ _) _ _ (by simp [Reg.REF_C_CONV_CNT]) (by simp [Reg.REF_C_RSEQ])
      (.inr (by simp [Reg.REF_C_RSEQ, Reg.REF_C_CONV_CNT])), rd_wr_other wf1 _ _ (by simp [Reg.REF_C_G]) (by simp [Reg.REF_C_RSEQ])
      (.inr (by simp [Reg.REF_C_G, Reg.REF_C_RSEQ])), rd_wr_other wf _ _ (by simp [Reg.REF_C_RAW]) (by simp [Reg.REF_C_RSEQ])
      (.inr (by simp [Reg.REF_C_RAW, Reg.REF_C_RSEQ]))]
  tuned := by
    funext a
    rw [State.bump, State.bumpBy, tuned_wr, tuned_wr, tuned_wr]

theorem Entered.of_regs {raw g : Nat} (h : Entered t c raw g v) (before : t.regs = s.regs) (after : u.regs = v.regs) : Entered s c raw g u where
  wf wf := by rw [after]; exact h.wf (by rwa [before])
  raw wf := by rw [rd_of_regs after]; exact h.raw (by rwa [before])
  gain wf := by rw [rd_of_regs after]; exact h.gain (by rwa [before])
  counted wf := by rw [rd_of_regs after, ← rd_of_regs before]; exact h.counted (by rwa [before])
  rseq wf := by rw [rd_of_regs after, ← rd_of_regs before]; exact h.rseq (by rwa [before])
  tuned := by
    funext a
    rw [State.tuned, after, State.tuned, ← before]
    exact congrFun h.tuned a

theorem autoRange_fixed (fixed : s.rd (Reg.REF_C_AUTO c) = 0) (g : Nat) (beyond : Bool) (raw : Option Int) :
    s.autoRange c g beyond raw = s.mapRefChan c (fun x => { x with gain := some (s.rd (Reg.REF_C_GAIN c)), lowRun := 0 }) := by
  unfold State.autoRange
  rw [if_pos (by rw [State.on, fixed]; rfl)]

theorem curveOf_volt (die : c ≠ 12) (volt : s.rd (Reg.REF_C_CURVE c) = 0) : s.curveOf c = 0 := by
  rw [State.curveOf, if_neg die, volt]
  simp

theorem linearise_volt (die : c ≠ 12) (volt : s.rd (Reg.REF_C_CURVE c) = 0) (raw : Int) (g : Nat) : (s.linearise c raw g).2 = .valid := by
  rw [State.linearise, curveOf_volt die volt]
  rfl

/-- A channel without OPEN, curve and ranging publishes its conversion as VALID. -/
theorem publish_plain (joined : (s.refChan c).openWire = false) (auto : s.rd (Reg.REF_C_AUTO c) = 0) (volt : s.rd (Reg.REF_C_CURVE c) = 0)
    (die : c ≠ 12) (med : Int) (g at_ : Nat) (inj : Bool) (raw : Option Int) :
    ∃ lin to_, (if (s.refChan c).openWire then s.publishOpen c inj at_
        else { s with fresh := s.fresh + 1 }.publish c (s.linearise c med g).2 (s.linearise c med g).1 inj at_).autoRange c g false raw
      = ({ s with fresh := s.fresh + 1 }.publish c .valid lin inj at_).mapRefChan c (fun y => { y with gain := to_, lowRun := 0 }) := by
  have tuned := (publishes { s with fresh := s.fresh + 1 } c .valid (s.linearise c med g).1 inj at_).tuned
  rw [if_neg (Bool.eq_false_iff.1 joined), linearise_volt die volt]
  exact ⟨_, _, autoRange_fixed ((rd_of_tuned tuned rfl).trans auto) _ _ _⟩

/-- A conversion without clipping, OPEN, median or ranging enters its corrected RAW and publishes it (R372, R381, R386). -/
theorem endConversion_plain {x : Conversion} (sum : Int) (fitted : x.chan < s.ref.chans.length) (kept : (s.refChan x.chan).discard = false)
    (joined : (s.refChan x.chan).openWire = false) (med : s.rd (Reg.REF_C_MED x.chan) = 0) (auto : s.rd (Reg.REF_C_AUTO x.chan) = 0)
    (volt : s.rd (Reg.REF_C_CURVE x.chan) = 0) (off : s.rd (Reg.REF_OFF x.gain) = 0) (gain : s.rd (Reg.REF_GAIN x.gain) = 0x400000)
    (die : x.chan ≠ 12) :
    ∃ pre lin g, s.endConversion x sum 0 0 = (pre.publish x.chan .valid lin x.injected x.endAt).mapRefChan x.chan (fun y =>
        { y with gain := g, lowRun := 0 })
      ∧ Entered s x.chan (wrapN 24 ((sum * 64).tdiv (presetConv x.preset).1)) x.gain pre
      ∧ pre.ref.chans.length = s.ref.chans.length := by
  unfold State.endConversion
  extract_lets c n y beyond burn s1 s2 y2 clear good mends s3 sr s4 raw k holds s5 hist med' s6 s7 openNow r s8
  have hburn : burn = false := by simp [burn]
  have h1 : s1 = s := if_neg Bool.false_ne_true
  have h2 : s2 = s := (if_neg (by rw [hburn]; exact Bool.false_ne_true)).trans h1
  have hgood : good = false := by
    have open2 : y2.openWire = false := by rw [show y2 = s2.refChan c from rfl, h2]; exact joined
    simp only [good, open2, Bool.false_and]
  have hmends : mends = false := by rw [show mends = (good && y2.good = 3) from rfl, hgood, Bool.false_and]
  have h4 : s4 = s3 := if_neg (by rw [hmends]; exact Bool.false_ne_true)
  have regs4 : s4.regs = s.regs := by rw [h4, show s3.regs = s2.regs from rfl, h2]
  have rd4 (f : Field) : s4.rd f = s.rd f := rd_of_regs regs4 f
  have hraw : raw = (sum * 64).tdiv n := by
    rw [show raw = s4.rawOf x.gain n sum from rfl, State.rawOf, rd4, rd4, off, gain]
    rfl
  have hk : k = 0 := by
    rw [show k = s4.medianLen c from rfl, State.medianLen, rd4, show s.rd (Reg.REF_C_MED c) = 0 from med]
    rfl
  have len3 : s3.ref.chans.length = s.ref.chans.length := by
    rw [show s3.ref.chans.length = s2.ref.chans.length from modAt_length _ _ _, h2]
  have chan4 : (s4.refChan c).openWire = false := by
    rw [h4, refChan_mapRefChan (by rw [h2]; exact fitted), h2, show (s.refChan c).openWire = false from joined, Bool.false_and]
  have held : s5.regs = s.regs ∧ s5.ref.chans.length = s.ref.chans.length ∧ (s5.refChan c).openWire = false := by
    unfold s5
    split
    · refine ⟨regs4, (modAt_length _ _ _).trans (by rw [h4, len3]), ?_⟩
      rw [refChan_mapRefChan (by rw [h4, len3]; exact fitted)]
      exact chan4
    · exact ⟨regs4, by rw [h4, len3], chan4⟩
  obtain ⟨regs5, len5, chan5⟩ := held
  have hmed : med' = (sum * 64).tdiv n := (if_pos (by rw [hk]; rfl)).trans hraw
  have enter : Entered s c (wrapN 24 ((sum * 64).tdiv n)) x.gain s7 := by
    rw [← hmed]
    exact (entered s5 c (wrapN 24 med') x.gain).of_regs regs5 rfl
  have ref7 : s7.ref = s5.ref := by rw [bump_ref, wr_ref, wr_ref]
  have hopen : openNow = false :=
    (congrArg RefChan.openWire (refChan_of_chans (v := s7) (s := s5) (by rw [ref7]) c)).trans chan5
  obtain ⟨lin, g, fin⟩ := publish_plain (s := s7) (c := c) hopen (by rw [rd_of_tuned enter.tuned rfl]; exact auto)
    (by rw [rd_of_tuned enter.tuned rfl]; exact volt) die med' x.gain x.endAt x.injected (if openNow then none else some raw)
  exact ⟨_, lin, g, (if_neg (Bool.eq_false_iff.1 kept)).trans fin, enter.of_regs rfl rfl, (congrArg (fun r : Ref => r.chans.length) ref7).trans len5⟩

/-- From `s` to `v` the sequence has gone on: channel `c` keeps its reason, and of the words only SKIP_CNT may move. -/
structure GoesOn (c : Nat) (s v : State) : Prop where
  live : LiveIn [0x5200A4] s v
  reason : (v.refChan c).reason = (s.refChan c).reason

theorem reason_mapRefChan (f : RefChan → RefChan) (kept : ∀ x, (f x).reason = x.reason) (j c : Nat) :
    ((s.mapRefChan j f).refChan c).reason = (s.refChan c).reason := by
  change ((modAt s.ref.chans j f).getD c {}).reason = (s.ref.chans.getD c {}).reason
  rw [modAt_eq_modify, List.getD_eq_getElem?_getD, List.getElem?_modify, List.getD_eq_getElem?_getD]
  cases s.ref.chans[c]? with
  | none => rfl
  | some x =>
    by_cases here : j = c
    · simp [here, kept]
    · simp [here]

theorem goesOn_regularFrom (s : State) (e at_ n : Nat) : GoesOn c s (s.regularFrom e at_ n) := by
  induction n generalizing s e with
  | zero => exact ⟨LiveIn.refl.of_live rfl, rfl⟩
  | succ n ih =>
    unfold State.regularFrom
    split
    · exact ih s (e + 1)
    · split
      · have next := ih (s.bump Reg.REF_SKIP_CNT) (e + 1)
        refine ⟨(LiveIn.refl.wr Reg.REF_SKIP_CNT _).trans next.live, next.reason.trans ?_⟩
        rw [refChan_of_chans (s := s) (by rw [bump_ref])]
      · exact ⟨LiveIn.refl.of_live rfl, reason_mapRefChan (s := s.mapRef _) (fun x => { x with discard := false }) (fun _ => rfl) _ c⟩

/-- Where the sequence goes on after a regular conversion. -/
def afterRegular (s : State) (at_ : Nat) : State :=
  if s.on Reg.REF_CTL_EN then s.regularFrom (s.ref.entry + 1) at_ (s.seqLen - (s.ref.entry + 1))
  else s.mapRef (fun r => { r with act := .idle, conv := none, entry := 0, cycleDone := true, freeAt := at_ })

theorem goesOn_afterRegular (s : State) (at_ : Nat) : GoesOn c s (afterRegular s at_) := by
  unfold afterRegular
  split
  · exact goesOn_regularFrom _ _ _ _
  · exact ⟨LiveIn.refl.of_live rfl, rfl⟩

theorem only_afterRegular (s : State) (at_ : Nat) : onlyParts [.ref, .regs] s (afterRegular s at_) := by
  unfold afterRegular
  split
  · exact only_regularFrom only_refl (by decide)
  · exact only_mapRef only_refl (by decide)

theorem exec_conversionEnd {x : Conversion} (hw : w = s.atT i) (conv : w.ref.conv = some x) (due : x.endAt ≤ w.now) (regular : x.injected = false)
    (sum : Int) (high low : Nat) :
    exec (.conversionEnd sum high low i) s = .next (afterRegular (w.endConversion x sum high low) x.endAt) := by
  change execConversionEnd sum high low i s = _
  unfold execConversionEnd afterRegular
  simp only [← hw, conv, due, if_true, regular, Bool.false_eq_true, if_false]
  split <;> rfl

/-- A conversion without clipping is published as VALID, and the sequence goes on (R372, R377, R386). -/
theorem conversion_publishes {x : Conversion} (wf : storeWf w.regs.live = true) (sum : Int) (fitted : x.chan < w.ref.chans.length)
    (kept : (w.refChan x.chan).discard = false) (joined : (w.refChan x.chan).openWire = false) (med : w.rd (Reg.REF_C_MED x.chan) = 0)
    (auto : w.rd (Reg.REF_C_AUTO x.chan) = 0) (volt : w.rd (Reg.REF_C_CURVE x.chan) = 0) (off : w.rd (Reg.REF_OFF x.gain) = 0)
    (gain : w.rd (Reg.REF_GAIN x.gain) = 0x400000) (die : x.chan ≠ 12) (code : x.gain < 8) :
    ∃ v, afterRegular (w.endConversion x sum 0 0) x.endAt = v
      ∧ v.rd (Reg.REF_C_RAW x.chan) = wrapN 24 ((sum * 64).tdiv (presetConv x.preset).1) ∧ v.rd (Reg.REF_C_G x.chan) = x.gain
      ∧ (v.refChan x.chan).reason = .valid ∧ v.rd (Reg.REF_C_RSEQ x.chan) = (w.rd (Reg.REF_C_RSEQ x.chan) + 1) % 65536
      ∧ v.rd (Reg.REF_C_CONV_CNT x.chan) = min (w.rd (Reg.REF_C_CONV_CNT x.chan) + 1) (2 ^ 32 - 1) := by
  obtain ⟨pre, lin, g, ends, enter, length⟩ := endConversion_plain sum fitted kept joined med auto volt off gain die
  have out := publishes pre x.chan .valid lin x.injected x.endAt
  have on_ := goesOn_afterRegular (c := x.chan) (w.endConversion x sum 0 0) x.endAt
  have wf1 := enter.wf wf
  have wf2 := out.live.wf wf1
  have rest (f : Field) (ht : f.tuned = false) (hf : f.lo + f.width ≤ 32) (ha : f.addr ∉ [0x5200A4]) :
      (afterRegular (w.endConversion x sum 0 0) x.endAt).rd f = (pre.publish x.chan .valid lin x.injected x.endAt).rd f := by
    rw [on_.live.rd (by rw [ends]; exact wf2) ht hf ha, ends]
    rfl
  refine ⟨_, rfl, ?_, ?_, ?_, ?_, ?_⟩
  · rw [rest _ rfl (by simp [Reg.REF_C_RAW]) (by simp only [Reg.REF_C_RAW, List.mem_singleton]; omega), out.live.rd wf1 rfl (by simp [Reg.REF_C_RAW])
      (by simp only [Reg.REF_C_RAW, chanWords, List.cons_append, List.nil_append, List.mem_cons, List.not_mem_nil, or_false]; omega), enter.raw wf]
    exact wrapN_mod _ _
  · rw [rest _ rfl (by simp [Reg.REF_C_G]) (by simp only [Reg.REF_C_G, List.mem_singleton]; omega), out.live.rd wf1 rfl (by simp [Reg.REF_C_G])
      (by simp only [Reg.REF_C_G, chanWords, List.cons_append, List.nil_append, List.mem_cons, List.not_mem_nil, or_false]; omega), enter.gain wf]
    exact Nat.mod_eq_of_lt code
  · rw [on_.reason, ends, reason_mapRefChan (fun y => { y with gain := g, lowRun := 0 }) (fun _ => rfl),
      out.refChan (by rw [length]; exact fitted)]
  · rw [rest _ rfl (by simp [Reg.REF_C_RSEQ]) (by simp only [Reg.REF_C_RSEQ, List.mem_singleton]; omega), out.counted wf1, enter.rseq wf]
  · rw [rest _ rfl (Nat.le_refl _) (by simp only [Reg.REF_C_CONV_CNT, List.mem_singleton]; omega), out.live.rd wf1 rfl (Nat.le_refl _)
      (by simp only [Reg.REF_C_CONV_CNT, chanWords, List.cons_append, List.nil_append, List.mem_cons, List.not_mem_nil, or_false]; omega),
      enter.counted wf]

/-- Settles O38: every sequence goes on with its first entry that runs, and a published result moves no words but its own and the consumers'. -/
theorem referenceConvertsAndCalibrates : Obligations.ReferenceConvertsAndCalibrates := by
  intro t s w hw wf
  refine ⟨?_, ?_, ?_, ?_, ?_, ?_, ?_, ?_, ?_, fun c flagged => exec_complianceOpen_off hw flagged, ?_⟩
  · rintro c p on up done idle free due first rfl single rfl
    refine ⟨_, exec_sequenceCycleStart hw on up done idle free due, ?_⟩
    rw [cycle_begins first single]
    exact ⟨rfl, rfl, rfl, rfl, rfl, only_beginConversion (only_mapRef (only_mapRef only_refl (by decide)) (by decide)) (by decide)⟩
  · rintro m c able cmd up on idle still free first rfl single
    obtain ⟨act, -, conv⟩ := injectionBegun_ref w
    exact ⟨(injectionBegun w).done, by rw [exec_refInj hw able cmd, injTrigger_of_idle up on idle still free first single], act, conv,
      only_done (onlyParts_mono (only_injectionBegun w) (by decide)) (by decide)⟩
  · intro m able cmd up on busy
    rw [exec_refInj hw able cmd, injTrigger_missed up on busy]
  · rintro c trig due up on idle still free first rfl single
    obtain ⟨act, seen, conv⟩ := injectionBegun_ref (w.mapRef (fun r => { r with tachDue := false }))
    refine ⟨_, exec_injTrigger_tach hw trig due, ?_⟩
    rw [injTrigger_of_idle (s := w.mapRef (fun r => { r with tachDue := false })) up on idle still free first single]
    exact ⟨act, seen, conv, onlyParts_trans (only_mapRef only_refl (by decide)) (only_injectionBegun _)⟩
  · intro m able up idle still free
    rw [exec_refCal hw able, startCal_of_idle up idle still free]
  · intro on due here up idle still free
    rw [exec_refCalPeriod hw on due here, startCal_of_idle (s := w.mapRef (fun r => { r with calPeriodAt := w.now })) up idle still free]
    rfl
  · intro off gain iexc g a b act due still done all quiet low hoff hgain ha hb
    obtain ⟨offset, factor, count⟩ := rd_calibrated wf low hoff hgain ha hb
    refine ⟨_, exec_refCalDone hw act due still done all quiet, offset, factor, rfl, ?_, count,
      only_mapRef (only_calibrated w off gain) (by decide)⟩
    exact congrArg Ref.calOk (calibrated_ref w off gain)
  · intro m g x able low
    refine ⟨_, exec_refFactorWrite hw able low, ?_, only_done (only_setLive only_refl (by decide)) (by decide)⟩
    exact (live_setLive wf _ _ _).trans (if_pos rfl)
  · intro c low fitted runs single well joined up free
    obtain ⟨v, rfl, opened⟩ := publishOpen_openRaised wf fitted (openRaised w c).now
    exact ⟨_, exec_complianceOpen hw fitted runs single well joined up free, opened⟩
  · rintro sum x n conv due regular - fitted rfl kept joined med auto volt off gain code die
    obtain ⟨v, rfl, raw, g, reason, rseq, count⟩ := conversion_publishes wf sum fitted kept joined med auto volt off gain die code
    exact ⟨_, exec_conversionEnd hw conv due regular sum 0 0, raw, g, reason, rseq, count, onlyParts_trans
      (only_endConversion only_refl (by decide)) (onlyParts_mono (only_afterRegular _ _) (by decide))⟩

end Sys2Proof.Proofs
end

section
/-! Ethernet MACs (R403 to R407): what an accepted frame does, and how a MAC goes down and comes up. -/

namespace Sys2Proof.Proofs

open Sys2Proof Sys2Proof.Machine Sys2Proof.Safety Sys2Proof.Laws

variable {s t u v w : State} {i : Instant} {m n j : Nat} {f : RxFrame}

/-! ### A MAC's own entry -/

theorem mac_mapMac (fitted : m < s.eth.macs.length) (g : EthMac → EthMac) : (s.mapMac m g).mac m = g (s.mac m) := getD_modAt fitted g _

theorem mac_mapMac_other (g : EthMac → EthMac) (hj : j ≠ m) : (s.mapMac m g).mac j = s.mac j := by
  change (modAt s.eth.macs m g).getD j {} = s.eth.macs.getD j {}
  rw [modAt_eq_modify, List.getD_eq_getElem?_getD, List.getElem?_modify, List.getD_eq_getElem?_getD]
  simp only [if_neg (Ne.symm hj)]
  cases s.eth.macs[j]? <;> rfl

theorem mac_of_eth (h : v.eth = s.eth) (m : Nat) : v.mac m = s.mac m := by rw [State.mac, h, State.mac]

/-- No frame of MAC `m` that has ended is still in its queue. -/
def Drained (m : Nat) (s : State) : Prop := (s.mac m).tx = [] ∨ s.now < (s.mac m).txEnd

theorem Drained.congr (h : Drained m s) (mac : v.mac m = s.mac m) (now : v.now = s.now) : Drained m v := by
  rwa [Drained, mac, now]

/-- The state with the frame at the head of MAC `m`'s queue sent: `r` is the rest, and `e` the end of the next one. -/
def frameSent (s : State) (m : Nat) (r : List (TxFrame × Bool)) (e : Nat) : State :=
  (s.bump (Reg.ETH_M_TX_FRAME_CNT m)).mapMac m (fun x => { x with tx := r, txEnd := e })

theorem drainMac_ended {x : TxFrame × Bool} {r : List (TxFrame × Bool)} (queue : (s.mac m).tx = x :: r) (ended : (s.mac m).txEnd ≤ s.now) (n : Nat) :
    ∃ e, s.drainMac m (n + 1) = (frameSent s m r e).drainMac m n := by
  rw [State.drainMac]
  dsimp only
  rw [queue]
  exact ⟨_, if_pos ended⟩

theorem drainMac_drained (h : Drained m s) (n : Nat) : s.drainMac m n = s := by
  cases n with
  | zero => rfl
  | succ n =>
    rw [State.drainMac]
    dsimp only
    rcases h with empty | going
    · rw [empty]
    · split
      · rfl
      · exact if_neg (Nat.not_le.2 going)

theorem drained_of_length_zero (none_ : (s.mac m).tx.length ≤ 0) : Drained m s := .inl (List.length_eq_zero_iff.1 (Nat.le_zero.1 none_))

/-- A MAC is drained, or the head of its queue has ended. -/
theorem drained_or_ended (m : Nat) (s : State) : Drained m s ∨ ∃ x r, (s.mac m).tx = x :: r ∧ (s.mac m).txEnd ≤ s.now := by
  by_cases going : s.now < (s.mac m).txEnd
  · exact .inl (.inr going)
  · cases queue : (s.mac m).tx with
    | nil => exact .inl (.inl queue)
    | cons x r => exact .inr ⟨x, r, rfl, Nat.not_lt.1 going⟩

/-- A drain of MAC `m` leaves the other MACs and the instant alone. -/
theorem drainMac_other (hj : j ≠ m) (n : Nat) (s : State) : (s.drainMac m n).mac j = s.mac j ∧ (s.drainMac m n).now = s.now := by
  induction n generalizing s with
  | zero => exact ⟨rfl, rfl⟩
  | succ n ih =>
    rcases drained_or_ended m s with done | ⟨x, r, queue, ended⟩
    · rw [drainMac_drained done]
      exact ⟨rfl, rfl⟩
    · obtain ⟨e, step⟩ := drainMac_ended queue ended n
      rw [step]
      exact ⟨(ih _).1.trans ((mac_mapMac_other _ hj).trans (mac_of_eth (bump_eth _ _) j)), (ih _).2.trans (bump_now _ _)⟩

theorem fitted_of_tx {x : TxFrame × Bool} {r : List (TxFrame × Bool)} (queue : (s.mac m).tx = x :: r) : m < s.eth.macs.length := by
  by_contra out
  rw [State.mac, List.getD_eq_getElem?_getD, List.getElem?_eq_none (by omega)] at queue
  exact absurd queue (by simp)

theorem drained_drainMac (n : Nat) (s : State) (all : (s.mac m).tx.length ≤ n) : Drained m (s.drainMac m n) := by
  induction n generalizing s with
  | zero => exact drained_of_length_zero all
  | succ n ih =>
    rcases drained_or_ended m s with done | ⟨x, r, queue, ended⟩
    · rwa [drainMac_drained done]
    · obtain ⟨e, step⟩ := drainMac_ended queue ended n
      rw [step]
      refine ih _ ?_
      rw [frameSent, mac_mapMac (by rw [bump_eth]; exact fitted_of_tx queue)]
      rw [queue, List.length_cons] at all
      exact Nat.le_of_succ_le_succ all

/-- The frames of MAC `m` that have ended leave it. -/
def drainOne (s : State) (m : Nat) : State := if (s.mac m).tx.isEmpty then s else s.drainMac m (s.mac m).tx.length

theorem drained_drainOne (s : State) (m : Nat) : Drained m (drainOne s m) := by
  unfold drainOne
  split
  · next empty => exact .inl (List.isEmpty_iff.1 empty)
  · exact drained_drainMac _ _ (Nat.le_refl _)

theorem drained_drainOne_other (h : Drained m s) (hj : m ≠ j) : Drained m (drainOne s j) := by
  unfold drainOne
  split
  · exact h
  · exact h.congr (drainMac_other hj _ _).1 (drainMac_other hj _ _).2

theorem drained_drainAll {ms : List Nat} (mem : m ∈ ms) (s : State) : Drained m (ms.foldl drainOne s) := by
  induction ms using List.reverseRecOn with
  | nil => cases mem
  | append_singleton ms k ih =>
    rw [List.foldl_append, List.foldl_cons, List.foldl_nil]
    by_cases here : m = k
    · rw [here]
      exact drained_drainOne _ _
    · exact drained_drainOne_other (ih ((List.mem_append.1 mem).resolve_right (by simpa using here))) here

/-- At the instant of a command every frame that has ended has left its MAC. -/
theorem drained_atT (hw : w = s.atT i) (low : m < 4) : Drained m w := by
  have all : w = (List.range 4).foldl drainOne ((List.range 4).foldl (fun s u => s.settleEarly u) (s.advance i).settleHalt) := by
    rw [hw, State.atT]
    rfl
  rw [all]
  exact drained_drainAll (List.mem_range.2 low) _

/-! ### Received frames (R403 to R406) -/

theorem exec_frameReceive (hw : w = s.atT i) (m : Nat) (f : RxFrame) : exec (.frameReceive m f i) s = .next (
    if (w.mac m).state ≠ .up then w
    else if !f.fcsOk || f.len < 64 || w.maxFrame m < f.len then w.rxError m
    else if !w.vlanOk m f || f.dest = .other then w.rxFilter m
    else (w.bump (Reg.ETH_M_RX_FRAME_CNT m)).rxBody m f) := by
  change execFrameReceive m f i s = _
  unfold execFrameReceive
  simp only [← hw]
  split
  · rfl
  · split
    · rfl
    · split <;> rfl

theorem exec_frameReceive_taken (hw : w = s.atT i) (taken : frameTaken w m f) :
    exec (.frameReceive m f i) s = .next ((w.bump (Reg.ETH_M_RX_FRAME_CNT m)).rxBody m f) := by
  obtain ⟨up, fcs, long, short, vlan, dest⟩ := taken
  rw [exec_frameReceive hw, if_neg (by rw [up]; simp), if_neg (by simp [fcs]; omega), if_neg (by simp [vlan, dest])]

/-- The state with an accepted frame counted. -/
def frameCounted (w : State) (m : Nat) : State := w.bump (Reg.ETH_M_RX_FRAME_CNT m)

theorem rd_frameCounted_other (wf : storeWf w.regs.live = true) (m : Nat) {g : Field} (hg : g.lo + g.width ≤ 32)
    (ha : g.addr ≠ (Reg.ETH_M_RX_FRAME_CNT m).addr) : (frameCounted w m).rd g = w.rd g :=
  rd_wr_other wf _ _ (Nat.le_refl _) hg (.inr ha) _

theorem ip_frameCounted (wf : storeWf w.regs.live = true) (m : Nat) : (frameCounted w m).rd (Reg.ETH_M_IP m) = w.rd (Reg.ETH_M_IP m) :=
  rd_frameCounted_other wf m (Nat.le_refl _) (by simp [Reg.ETH_M_IP, Reg.ETH_M_RX_FRAME_CNT])

theorem mac_frameCounted (w : State) (m j : Nat) : (frameCounted w m).mac j = w.mac j := mac_of_eth (bump_eth _ _) j

theorem drained_frameCounted (h : Drained m w) : Drained m (frameCounted w m) := h.congr (mac_frameCounted w m m) (bump_now _ _)

theorem macSend_up (up : (s.mac m).state = .up) (done : Drained m s) (g : TxFrame) (ctl : Bool) :
    s.macSend m g ctl = s.mapMac m (fun x => { x with
      tx := txInsert x.tx g ctl, txEnd := if x.tx.isEmpty then s.now + s.frameTime m g else x.txEnd }) := by
  rw [State.macSend, if_pos up, drainMac_drained done]

theorem getLast_txInsert (q : List (TxFrame × Bool)) (g : TxFrame) : (txInsert q g false).getLast? = some (g, false) := by
  cases q with
  | nil => rfl
  | cons x r =>
    rw [txInsert, if_neg Bool.false_ne_true, ← List.cons_append]
    exact List.getLast?_concat

/-- A frame that a MAC queues is the last of its queue, and its other state is kept. -/
theorem macSend_queues (fitted : m < s.eth.macs.length) (up : (s.mac m).state = .up) (done : Drained m s) (g : TxFrame) :
    ((s.macSend m g false).mac m).tx.getLast? = some (g, false) ∧ ((s.macSend m g false).mac m).icmpSec = (s.mac m).icmpSec
      ∧ ((s.macSend m g false).mac m).icmpCount = (s.mac m).icmpCount ∧ ((s.macSend m g false).mac m).state = .up
      ∧ ((s.macSend m g false).mac m).hiSer = (s.mac m).hiSer ∧ (s.macSend m g false).regs = s.regs ∧ (s.macSend m g false).lan = s.lan := by
  rw [macSend_up up done, mac_mapMac fitted]
  exact ⟨getLast_txInsert _ _, rfl, rfl, up, rfl, rfl, rfl⟩

theorem rd_counted {g : Field} (wf : storeWf w.regs.live = true) (ht : g.tuned = false) (hg : g.lo + g.width ≤ 32) (regs : v.regs = (w.bump g).regs) :
    v.rd g = min (w.rd g + 1) (2 ^ g.width - 1) := by
  rw [rd_of_regs regs, rd_bump wf g ht hg]

/-- An ARP request for the MAC's IP is answered. -/
theorem rxBody_arp {asker : Nat} (wf : storeWf w.regs.live = true) (dest : f.dest ≠ .ptp) (ip : w.rd (Reg.ETH_M_IP m) ≠ 0)
    (body : f.body = .arp asker (w.rd (Reg.ETH_M_IP m))) :
    (frameCounted w m).rxBody m f = (frameCounted w m).macSend m (.arpReply f.eth asker) false := by
  rw [State.rxBody, body, ip_frameCounted wf]
  exact if_neg (by simp [dest, ip])

/-- An echo request to the MAC's IP is answered within the rate. -/
theorem rxBody_echo {src : Nat} {data : List Byte} (wf : storeWf w.regs.live = true) (dest : f.dest = .own) (ip : w.rd (Reg.ETH_M_IP m) ≠ 0)
    (body : f.body = .echo src (w.rd (Reg.ETH_M_IP m)) true true data) :
    (frameCounted w m).rxBody m f = (frameCounted w m).echo m f.eth src data := by
  rw [State.rxBody, body, ip_frameCounted wf]
  dsimp only
  rw [if_neg (by simp [dest, ip])]
  rfl

/-- The echo replies of the present second so far. -/
def echoTurn (w : State) (m : Nat) : Nat := if (w.mac m).icmpSec = w.now / sec then (w.mac m).icmpCount else 0

theorem echo_within (within : echoTurn s m < 1000) (e ip : Nat) (data : List Byte) :
    s.echo m e ip data = (s.mapMac m (fun x => { x with icmpSec := s.now / sec, icmpCount := echoTurn s m + 1 })).macSend m
      (.echoReply e ip data) false := if_pos within

theorem echo_beyond (beyond : 1000 ≤ echoTurn s m) (e ip : Nat) (data : List Byte) :
    s.echo m e ip data = s.bump (Reg.ETH_M_ICMP_DROP_CNT m) := if_neg (Nat.not_lt.2 beyond)

theorem echoTurn_frameCounted (w : State) (m : Nat) : echoTurn (frameCounted w m) m = echoTurn w m := by
  rw [echoTurn, mac_frameCounted, frameCounted, bump_now, echoTurn]

/-- What an accepted echo request within the rate leaves. -/
theorem echo_answers {src : Nat} {data : List Byte} (wf : storeWf w.regs.live = true) (fitted : m < w.eth.macs.length)
    (up : (w.mac m).state = .up) (done : Drained m w) (within : echoTurn w m < 1000) (e : Nat) :
    ∃ v, (frameCounted w m).echo m e src data = v ∧ (v.mac m).tx.getLast? = some (.echoReply e src data, false)
      ∧ (v.mac m).icmpSec = w.now / sec ∧ (v.mac m).icmpCount = echoTurn w m + 1
      ∧ v.rd (Reg.ETH_M_RX_FRAME_CNT m) = min (w.rd (Reg.ETH_M_RX_FRAME_CNT m) + 1) (2 ^ 32 - 1) ∧ onlyParts [.eth, .regs] w v := by
  have counted := drained_frameCounted done
  have fitted' : m < (frameCounted w m).eth.macs.length := by rw [frameCounted, bump_eth]; exact fitted
  rw [echo_within (by rw [echoTurn_frameCounted]; exact within), echoTurn_frameCounted]
  have mac := mac_mapMac fitted' (fun x => { x with icmpSec := (frameCounted w m).now / sec, icmpCount := echoTurn w m + 1 })
  have done' : Drained m ((frameCounted w m).mapMac m (fun x => { x with icmpSec := (frameCounted w m).now / sec, icmpCount := echoTurn w m + 1 })) := by
    rw [Drained, mac]
    exact counted
  obtain ⟨last, second, count, -, -, regs, -⟩ := macSend_queues (by exact (modAt_length _ _ _).symm ▸ fitted')
    (by rw [mac]; exact (congrArg EthMac.state (mac_frameCounted w m m)).trans up) done' (.echoReply e src data)
  rw [mac] at second count
  refine ⟨_, rfl, last, second.trans (by rw [frameCounted, bump_now]), count, rd_counted wf rfl (Nat.le_refl _) regs, ?_⟩
  exact only_macSend (only_mapMac (only_bump only_refl (by decide)) (by decide)) (by decide)

/-- A datagram to the MAC's IP and the KP port is left to KPE. -/
theorem rxBody_kp {src sport : Nat} {data : List Byte} (wf : storeWf w.regs.live = true) (dest : f.dest = .own) (ip : w.rd (Reg.ETH_M_IP m) ≠ 0)
    (body : f.body = .udp src (w.rd (Reg.ETH_M_IP m)) sport (w.rd Reg.ETH_KP_PORT) true true true data) :
    (frameCounted w m).rxBody m f = frameCounted w m := by
  have port : (frameCounted w m).rd Reg.ETH_KP_PORT = w.rd Reg.ETH_KP_PORT :=
    rd_frameCounted_other wf m (by decide) (by simp only [Reg.ETH_KP_PORT, Reg.ETH_M_RX_FRAME_CNT]; omega)
  rw [State.rxBody, body, ip_frameCounted wf, port]
  simp [dest, ip]

/-- A PTP datagram enters its queue where PTP is on. -/
theorem rxBody_ptp {src sport port : Nat} {data : List Byte} (wf : storeWf w.regs.live = true) (dest : f.dest = .ptp) (on : w.on Reg.ETH_PTP_EN = true)
    (hport : port = 319 ∨ port = 320) (body : f.body = .udp src 0xE0000181 sport port true true true data) :
    (frameCounted w m).rxBody m f = (frameCounted w m).ptpReceive m data := by
  have en : (frameCounted w m).on Reg.ETH_PTP_EN = true := by
    rw [State.on, rd_frameCounted_other wf m (by decide) (by simp only [Reg.ETH_PTP_EN, Reg.ETH_M_RX_FRAME_CNT]; omega)]
    exact on
  rw [State.rxBody, body]
  rcases hport with rfl | rfl <;> simp [dest, en]

theorem rxBody_fragment {src dst sport dport : Nat} {hdr sum : Bool} {data : List Byte} (body : f.body = .udp src dst sport dport false hdr sum data) :
    (frameCounted w m).rxBody m f = (frameCounted w m).rxFilter m := by
  rw [State.rxBody, body]
  rfl

theorem rxBody_badSum {src dst sport dport : Nat} {hdr : Bool} {data : List Byte} (body : f.body = .udp src dst sport dport true hdr false data) :
    (frameCounted w m).rxBody m f = (frameCounted w m).rxError m := by
  rw [State.rxBody, body]
  dsimp only
  rw [if_neg (by simp), if_pos (by simp)]

theorem rxBody_other (body : f.body = .other) : (frameCounted w m).rxBody m f = (frameCounted w m).rxFilter m := by
  rw [State.rxBody, body]

theorem liveIn_frameCounted (w : State) (m : Nat) : LiveIn [(Reg.ETH_M_RX_FRAME_CNT m).addr] w (frameCounted w m) :=
  LiveIn.refl.wr _ _ List.mem_cons_self (.inl (Nat.le_refl _))

theorem ptpReceive_room {data : List Byte} (wf : storeWf w.regs.live = true) (low : m < 4) (room : (w.mac m).ptpRx.length < 32) :
    (frameCounted w m).ptpReceive m data = (frameCounted w m).mapMac m (fun x =>
      { x with ptpRx := x.ptpRx ++ [(data, (w.devTime : Int) - w.rd (Reg.ETH_M_RXLAT m))] }) := by
  have time : (frameCounted w m).devTime = w.devTime := devTime_of_live (liveIn_frameCounted w m) wf (bump_tim _ _) (bump_now _ _)
    (by simp only [Reg.TIM_ADJ, Reg.ETH_M_RX_FRAME_CNT, List.mem_singleton]; omega)
    (by simp only [Reg.TIM_SLEW_PPM, Reg.ETH_M_RX_FRAME_CNT, List.mem_singleton]; omega)
  rw [State.ptpReceive, mac_frameCounted, if_neg (Nat.not_le.2 room), time,
    rd_frameCounted_other wf m (g := Reg.ETH_M_RXLAT m) (by simp [Reg.ETH_M_RXLAT]) (by simp [Reg.ETH_M_RXLAT, Reg.ETH_M_RX_FRAME_CNT])]

theorem ptpReceive_full {data : List Byte} (full : 32 ≤ (w.mac m).ptpRx.length) :
    (frameCounted w m).ptpReceive m data = ((frameCounted w m).bump (Reg.ETH_M_PTP_DROP_CNT m)).event [Reg.ETH_STAT_PTP_DROP] := by
  rw [State.ptpReceive, mac_frameCounted, if_pos full]

/-! ### A MAC goes down (R407) -/

/-- With no ACTIVE session on a path, none moves or is suspended. -/
theorem failover_unused (unused : pathUnused s m) : s.failover m = s := by
  have still (n : Nat) : ((s.sess n).state == .active && (s.sess n).path.any (fun k => k.mac == m)) = false := by
    rw [State.sess, List.getD_eq_getElem?_getD]
    cases here : s.kpe.sessions[n]? with
    | none => rfl
    | some x => 
      have idle := List.all_eq_true.1 unused x (List.mem_of_getElem? here)
      rwa [Bool.not_eq_true'] at idle
  unfold State.failover
  generalize s.usedSessions = ns
  induction ns with
  | nil => rfl
  | cons n ns ih =>
    rw [List.foldl_cons]
    dsimp only
    rw [if_neg]
    · exact ih
    · have out := still n
      simp only [Bool.and_eq_true, decide_eq_true_eq]
      rintro ⟨act, path⟩
      rw [act, path] at out
      exact absurd out (by decide)

/-- The counts and the report of a MAC that goes down. -/
def downCounted (w : State) (m : Nat) : State :=
  ((w.bumpBy (Reg.ETH_M_TX_DISCARD_CNT m) (w.mac m).tx.length).bump (Reg.ETH_M_LINK_DOWN_CNT m)).event [Reg.ETH_STAT_DOWN.bit m]

/-- Where a MAC's bring-up starts. -/
def bringUp (w : State) (m : Nat) : MacState := if w.on (Reg.ETH_CFG_AN_EN (m / 2)) then .an else .train

/-- Lanes that probe anew. -/
def lanesProbe (s : State) (ns : List Nat) : State :=
  s.mapLan (fun l => { l with lanes := l.lanes.zipIdx.map (fun (x, n) =>
    if ns.contains n then { x with state := .detect, since := s.now, signal := false } else x) })

theorem macDown_up (up : (w.mac m).state = .up) (done : Drained m w) (unused : pathUnused w m) :
    w.macDown m = (lanesProbe (downCounted w m) ((downCounted w m).macLanes m)).mapMac m (fun x =>
      { x with state := bringUp (downCounted w m) m, tx := [] }) := by
  have kpe : (downCounted w m).kpe = w.kpe := by rw [downCounted, State.bumpBy, event_kpe, bump_kpe, wr_kpe]
  rw [State.macDown, if_pos up, drainMac_drained done]
  exact failover_unused (by rw [pathUnused]; exact (congrArg Kpe.sessions kpe).symm ▸ unused)

theorem exec_macDown (hw : w = s.atT i) (m : Nat) (hi : Bool) : exec (.macDown m hi i) s = .next ((w.macDown m).mapMac m (fun x => { x with hiSer := hi })) := by
  rw [hw]
  rfl

theorem liveIn_downCounted (w : State) (m : Nat) :
    LiveIn [(Reg.ETH_M_TX_DISCARD_CNT m).addr, (Reg.ETH_M_LINK_DOWN_CNT m).addr, 0x410004] w (downCounted w m) :=
  ((LiveIn.refl.wr (Reg.ETH_M_TX_DISCARD_CNT m) _ (by simp) (.inl (Nat.le_refl _))).wr (Reg.ETH_M_LINK_DOWN_CNT m) _ (by simp)
    (.inl (Nat.le_refl _))).event (Reg.ETH_STAT_DOWN.bit m) (by simp [Reg.ETH_STAT_DOWN, Field.bit])

theorem rd_downCounted (wf : storeWf w.regs.live = true) (m : Nat) :
    (downCounted w m).rd (Reg.ETH_M_TX_DISCARD_CNT m) = min (w.rd (Reg.ETH_M_TX_DISCARD_CNT m) + (w.mac m).tx.length) (2 ^ 32 - 1)
      ∧ (downCounted w m).rd (Reg.ETH_M_LINK_DOWN_CNT m) = min (w.rd (Reg.ETH_M_LINK_DOWN_CNT m) + 1) (2 ^ 32 - 1) := by
  have wf1 : storeWf (w.bumpBy (Reg.ETH_M_TX_DISCARD_CNT m) (w.mac m).tx.length).regs.live = true := wf_wr wf _ _
  have wf2 := wf_bump wf1 (Reg.ETH_M_LINK_DOWN_CNT m)
  constructor
  · rw [downCounted, rd_event_other wf2 _ _ _ (by simp [Reg.ETH_M_TX_DISCARD_CNT])
      (.inr (by simp only [Reg.ETH_M_TX_DISCARD_CNT, Reg.ETH_STAT_DOWN, Field.bit]; omega)),
      State.bump, State.bumpBy, rd_wr_other wf1 _ _ (Nat.le_refl _) (Nat.le_refl _)
        (.inr (by simp [Reg.ETH_M_TX_DISCARD_CNT, Reg.ETH_M_LINK_DOWN_CNT])), State.bumpBy]
    exact (rd_wr wf _ rfl (Nat.le_refl _) _).trans (Nat.mod_eq_of_lt (Nat.lt_of_le_of_lt (Nat.min_le_right _ _) (Nat.sub_lt (Nat.two_pow_pos _) Nat.one_pos)))
  · rw [downCounted, rd_event_other wf2 _ _ _ (by simp [Reg.ETH_M_LINK_DOWN_CNT])
      (.inr (by simp only [Reg.ETH_M_LINK_DOWN_CNT, Reg.ETH_STAT_DOWN, Field.bit]; omega)), rd_bump wf1 _ rfl (Nat.le_refl _), State.bumpBy,
      rd_wr_other wf _ _ (Nat.le_refl _) (Nat.le_refl _) (.inr (by simp [Reg.ETH_M_TX_DISCARD_CNT, Reg.ETH_M_LINK_DOWN_CNT]))]
    rfl

/-- The port's settings stand in ETH.CFG, which no count touches. -/
theorem cfg_downCounted (wf : storeWf w.regs.live = true) (low : m < 4) :
    bringUp (downCounted w m) m = bringUp w m ∧ (downCounted w m).macLanes m = w.macLanes m := by
  have live (g : Field) (ht : g.tuned = false) (ha : g.addr = 0x410000) (hg : g.lo + g.width ≤ 32) : (downCounted w m).on g = w.on g := by
    have out : g.addr ∉ [(Reg.ETH_M_TX_DISCARD_CNT m).addr, (Reg.ETH_M_LINK_DOWN_CNT m).addr, 0x410004] := by
      rw [ha]
      simp only [Reg.ETH_M_TX_DISCARD_CNT, Reg.ETH_M_LINK_DOWN_CNT, List.mem_cons, List.not_mem_nil, or_false]
      omega
    rw [State.on, (liveIn_downCounted w m).rd wf ht hg out, State.on]
  constructor
  · rw [bringUp, live _ rfl rfl (by simp only [Reg.ETH_CFG_AN_EN]; omega), bringUp]
  · rw [State.macLanes, State.split, live _ rfl rfl (by simp only [Reg.ETH_CFG_MODE]; omega), State.macLanes, State.split]

theorem lane_of_lan (h : v.lan = s.lan) (n : Nat) : v.lane n = s.lane n := by rw [State.lane, h, State.lane]

theorem getD_zipIdx_map {α : Type} {xs : List α} (g : α × Nat → α) (d : α) (hn : n < xs.length) : (xs.zipIdx.map g).getD n d = g (xs.getD n d, n) := by
  simp [hn]

theorem lane_lanesProbe {ns : List Nat} (mem : n ∈ ns) (fitted : n < s.lan.lanes.length) :
    ((lanesProbe s ns).lane n).state = .detect ∧ ((lanesProbe s ns).lane n).signal = false := by
  have lane : (lanesProbe s ns).lane n = { s.lane n with state := .detect, since := s.now, signal := false } := by
    refine (getD_zipIdx_map _ _ fitted).trans (if_pos ?_)
    exact List.contains_iff_mem.2 mem
  rw [lane]
  exact ⟨rfl, rfl⟩

/-- The state of a MAC, its lanes and its counts once it has gone down. -/
def downed (w : State) (m : Nat) (hi : Bool) : State :=
  ((lanesProbe (downCounted w m) (w.macLanes m)).mapMac m (fun x => { x with state := bringUp w m, tx := [] })).mapMac m (fun x =>
    { x with hiSer := hi })

theorem exec_macDown_up (hw : w = s.atT i) (wf : storeWf w.regs.live = true) (low : m < 4) (up : (w.mac m).state = .up) (unused : pathUnused w m)
    (hi : Bool) : exec (.macDown m hi i) s = .next (downed w m hi) := by
  obtain ⟨start, lanes⟩ := cfg_downCounted wf low
  rw [exec_macDown hw, macDown_up up (drained_atT hw low) unused, start, lanes, downed]

theorem eth_downed (w : State) (m : Nat) (hi : Bool) :
    (downed w m hi).eth = { w.eth with macs := modAt w.eth.macs m (fun x => { x with state := bringUp w m, tx := [], hiSer := hi }) } := by
  have eth : (lanesProbe (downCounted w m) (w.macLanes m)).eth = w.eth := by
    change (downCounted w m).eth = w.eth
    rw [downCounted, State.bumpBy, event_eth, bump_eth, wr_eth]
  change Eth.mk (modAt (modAt (lanesProbe (downCounted w m) (w.macLanes m)).eth.macs m _) m _) = _
  rw [modAt_modAt, eth]

theorem lan_downed (w : State) (m : Nat) (hi : Bool) : (downed w m hi).lan = (lanesProbe (downCounted w m) (w.macLanes m)).lan := by
  rw [downed, State.mapMac, State.mapMac, mapEth_lan, mapEth_lan]

theorem rd_downed (w : State) (m : Nat) (hi : Bool) (g : Field) : (downed w m hi).rd g = (downCounted w m).rd g :=
  rd_of_regs (by rw [downed, State.mapMac, State.mapMac, mapEth_regs, mapEth_regs, lanesProbe, mapLan_regs]) g

theorem only_downed (w : State) (m : Nat) (hi : Bool) : onlyParts [.eth, .lan, .regs] w (downed w m hi) :=
  only_mapMac (only_mapMac (only_mapLan (only_event (only_bump (only_bumpBy only_refl (by decide)) (by decide)) (by decide)) (by decide)) (by decide))
    (by decide)

theorem lanes_downed (w : State) (m : Nat) (hi : Bool) : (w.macLanes m).all (fun n => decide (w.lan.lanes.length ≤ n)
    || (((downed w m hi).lane n).state == .detect && !((downed w m hi).lane n).signal)) = true := by
  rw [List.all_eq_true]
  intro n mem
  by_cases out : w.lan.lanes.length ≤ n
  · rw [decide_eq_true out, Bool.true_or]
  · have length : (downCounted w m).lan = w.lan := by rw [downCounted, State.bumpBy, event_lan, bump_lan, wr_lan]
    obtain ⟨state, signal⟩ := lane_lanesProbe mem (s := downCounted w m) (by rw [length]; exact Nat.lt_of_not_le out)
    have lane := lane_of_lan (lan_downed w m hi) n
    rw [lane, state, signal]
    exact Bool.or_true _

/-! ### A MAC comes up (R400, R401, R405, R407) -/

/-- Lane `n` has been trained to the taps `x`. -/
def laneTrained (s : State) (n x : Nat) : State := ((s.laneTo n .active).bump (Reg.LAN_TRAIN_CNT n)).wr (Reg.LAN_TXEQ n) x

theorem liveIn_laneTrained (s : State) (n x : Nat) : LiveIn [(Reg.LAN_TRAIN_CNT n).addr, (Reg.LAN_TXEQ n).addr] s (laneTrained s n x) :=
  ((LiveIn.refl.of_live (s := s) (v := s.laneTo n .active) rfl).wr (Reg.LAN_TRAIN_CNT n) _ List.mem_cons_self (.inl (Nat.le_refl _))).wr (Reg.LAN_TXEQ n) _
    (List.mem_cons_of_mem _ List.mem_cons_self) (.inl (Nat.le_refl _))

theorem lan_laneTrained (s : State) (n x : Nat) : (laneTrained s n x).lan = (s.laneTo n .active).lan := by rw [laneTrained, wr_lan, bump_lan]

theorem eth_laneTrained (s : State) (n x : Nat) : (laneTrained s n x).eth = s.eth := by
  rw [laneTrained, wr_eth, bump_eth]
  rfl

theorem length_laneTrained (s : State) (n x : Nat) : (laneTrained s n x).lan.lanes.length = s.lan.lanes.length := by
  rw [lan_laneTrained]
  exact modAt_length _ _ _

theorem state_laneTrained (fitted : n < s.lan.lanes.length) (x : Nat) : ((laneTrained s n x).lane n).state = .active := by
  rw [lane_of_lan (lan_laneTrained s n x)]
  exact congrArg LanLane.state (getD_modAt fitted _ _)

theorem state_laneTrained_other (hj : j ≠ n) (s : State) (x : Nat) : ((laneTrained s n x).lane j).state = (s.lane j).state := by
  rw [lane_of_lan (lan_laneTrained s n x)]
  change ((modAt s.lan.lanes n _).getD j {}).state = (s.lan.lanes.getD j {}).state
  rw [modAt_eq_modify, List.getD_eq_getElem?_getD, List.getElem?_modify, List.getD_eq_getElem?_getD]
  simp only [if_neg (Ne.symm hj)]
  cases s.lan.lanes[j]? <;> rfl

theorem train_laneTrained (wf : storeWf s.regs.live = true) (low : n < 4) (x : Nat) :
    (laneTrained s n x).rd (Reg.LAN_TRAIN_CNT n) = min (s.rd (Reg.LAN_TRAIN_CNT n) + 1) (2 ^ 32 - 1) := by
  have wf1 : storeWf (s.laneTo n .active).regs.live = true := wf
  rw [laneTrained, rd_wr_other (wf_bump wf1 _) _ _ (Nat.le_refl _) (Nat.le_refl _) (.inr (by simp only [Reg.LAN_TRAIN_CNT, Reg.LAN_TXEQ]; omega)),
    rd_bump wf1 _ rfl (Nat.le_refl _)]
  rfl

theorem train_laneTrained_other (wf : storeWf s.regs.live = true) (low : n < 4) (hj : j ≠ n) (x : Nat) :
    (laneTrained s n x).rd (Reg.LAN_TRAIN_CNT j) = s.rd (Reg.LAN_TRAIN_CNT j) := by
  refine (liveIn_laneTrained s n x).rd wf rfl (Nat.le_refl _) ?_
  simp only [Reg.LAN_TRAIN_CNT, Reg.LAN_TXEQ, List.mem_cons, List.not_mem_nil, or_false]
  omega

/-- The lanes `ns` have been trained, with `taps` in order. -/
def lanesTrained (taps : List (BitVec 32)) (ns : List (Nat × Nat)) (s : State) : State :=
  ns.foldl (fun s k => laneTrained s k.1 (taps.getD k.2 0).toNat) s

theorem only_lanesTrained (taps : List (BitVec 32)) (ns : List (Nat × Nat)) (s : State) : onlyParts [.lan, .regs] s (lanesTrained taps ns s) :=
  only_foldl only_refl (fun t _ h => only_wr (only_bump (only_laneTo h (by decide)) (by decide)) (by decide))

/-- What training leaves for the lanes trained, and what it leaves alone. -/
structure Trained (ns : List Nat) (s v : State) : Prop where
  wf : storeWf v.regs.live = true
  length : v.lan.lanes.length = s.lan.lanes.length
  eth : v.eth = s.eth
  state : ∀ n ∈ ns, (v.lane n).state = .active
  count : ∀ n ∈ ns, v.rd (Reg.LAN_TRAIN_CNT n) = min (s.rd (Reg.LAN_TRAIN_CNT n) + 1) (2 ^ 32 - 1)
  other : ∀ n, n ∉ ns → v.rd (Reg.LAN_TRAIN_CNT n) = s.rd (Reg.LAN_TRAIN_CNT n)
  away : ∀ g : Field, g.tuned = false → g.lo + g.width ≤ 32 → 0x400200 ≤ g.addr → v.rd g = s.rd g

theorem trained_lanesTrained (taps : List (BitVec 32)) {ns : List (Nat × Nat)} (once : (ns.map Prod.fst).Nodup)
    (low : ∀ n ∈ ns.map Prod.fst, n < 4) (fitted : ∀ n ∈ ns.map Prod.fst, n < s.lan.lanes.length) (wf : storeWf s.regs.live = true) :
    Trained (ns.map Prod.fst) s (lanesTrained taps ns s) := by
  induction ns using List.reverseRecOn with
  | nil => exact ⟨wf, rfl, rfl, fun _ mem => absurd mem List.not_mem_nil, fun _ mem => absurd mem List.not_mem_nil, fun _ _ => rfl, fun _ _ _ _ => rfl⟩
  | append_singleton ns k ih =>
    rw [List.map_append, List.map_singleton] at once low fitted ⊢
    have apart := (List.nodup_append.1 once).2.2
    obtain ⟨wf', length, eth, state, count, other, away⟩ := ih (List.nodup_append.1 once).1
      (fun n mem => low n (List.mem_append_left _ mem)) (fun n mem => fitted n (List.mem_append_left _ mem))
    have step : lanesTrained taps (ns ++ [k]) s = laneTrained (lanesTrained taps ns s) k.1 (taps.getD k.2 0).toNat := by
      rw [lanesTrained, List.foldl_append]
      rfl
    have last : k.1 ∈ ns.map Prod.fst ++ [k.1] := List.mem_append_right _ (List.mem_singleton_self _)
    have words := liveIn_laneTrained (lanesTrained taps ns s) k.1 (taps.getD k.2 0).toNat
    have fresh : k.1 ∉ ns.map Prod.fst := fun mem => apart _ mem _ (List.mem_singleton_self _) rfl
    rw [step]
    refine ⟨words.wf wf', (length_laneTrained _ _ _).trans length, (eth_laneTrained _ _ _).trans eth, ?_, ?_, ?_, ?_⟩
    · intro n mem
      rcases List.mem_append.1 mem with old | new
      · have moved : n ≠ k.1 := fun e => fresh (e ▸ old)
        rw [state_laneTrained_other moved, state n old]
      · rw [List.mem_singleton.1 new]
        exact state_laneTrained (by rw [length]; exact fitted _ last) _
    · intro n mem
      rcases List.mem_append.1 mem with old | new
      · have moved : n ≠ k.1 := fun e => fresh (e ▸ old)
        rw [train_laneTrained_other wf' (low _ last) moved, count n old]
      · rw [List.mem_singleton.1 new, train_laneTrained wf' (low _ last), other _ fresh]
    · intro n out
      have moved : n ≠ k.1 := fun e => out (by rw [e]; exact last)
      rw [train_laneTrained_other wf' (low _ last) moved, other n (fun mem => out (List.mem_append_left _ mem))]
    · intro g ht hg ha
      rw [words.rd wf' ht hg, away g ht hg ha]
      have := low _ last
      simp only [Reg.LAN_TRAIN_CNT, Reg.LAN_TXEQ, List.mem_cons, List.not_mem_nil, or_false]
      omega

/-- The lanes of a MAC that the mode uses are lanes of the device, each once. -/
theorem macLanes_low (used : w.macUsed m = true) : (w.macLanes m).Nodup ∧ ∀ n ∈ w.macLanes m, n < 4 := by
  unfold State.macUsed at used
  unfold State.macLanes
  cases hs : w.split m with
  | true =>
    simp only [Bool.and_eq_true, decide_eq_true_eq] at used
    simp [used.1.1]
  | false =>
    simp only [hs, Bool.or_false, Bool.and_eq_true, decide_eq_true_eq] at used
    simp
    omega

/-- Lanes that carry a signal, with the precoding they were trained to. -/
def lanesSignal (s : State) (ns : List Nat) (preTx preRx : Bool) : State :=
  s.mapLan (fun l => { l with lanes := l.lanes.zipIdx.map (fun (x, n) =>
    if ns.contains n then { x with signal := true, preTx := preTx, preRx := preRx } else x) })

theorem lane_lanesSignal {ns : List Nat} (mem : n ∈ ns) (fitted : n < s.lan.lanes.length) (preTx preRx : Bool) :
    (lanesSignal s ns preTx preRx).lane n = { s.lane n with signal := true, preTx := preTx, preRx := preRx } :=
  (getD_zipIdx_map _ _ fitted).trans (if_pos (List.contains_iff_mem.2 mem))

/-- A MAC that has come up, before its gratuitous ARP. -/
def cameUp (w : State) (m : Nat) (pre : Bool) (taps : List (BitVec 32)) : State :=
  ((lanesSignal (lanesTrained taps (w.macLanes m).zipIdx w) (w.macLanes m) pre (w.on (Reg.ETH_CFG_PRECODE (m / 2)))).mapMac m (fun x =>
    { x with state := .up, hiSer := false })).event [Reg.ETH_STAT_UP.bit m]

theorem exec_macUp {pre : Bool} {taps : List (BitVec 32)} (hw : w = s.atT i) (used : w.macUsed m = true) (run : w.lanesRun = true)
    (down : (w.mac m).state ≠ .up) (here : w.isolatedAt .eth (some (m / 2)) = false) :
    exec (.macUp m pre taps i) s = .next (if (cameUp w m pre taps).rd (Reg.ETH_M_IP m) = 0 then cameUp w m pre taps
      else (cameUp w m pre taps).macSend m .gratuitousArp false) := by
  change execMacUp m pre taps i s = _
  unfold execMacUp
  simp only [← hw, used, run, down, here, Bool.and_self, Bool.not_false, ne_eq, not_false_eq_true, decide_true, if_true]
  rfl

/-- What a MAC's bring-up leaves. -/
theorem cameUp_words (wf : storeWf w.regs.live = true) (used : w.macUsed m = true) (four : w.lan.lanes.length = 4) (pre : Bool)
    (taps : List (BitVec 32)) :
    (cameUp w m pre taps).eth = { w.eth with macs := modAt w.eth.macs m (fun x => { x with state := .up, hiSer := false }) }
      ∧ (cameUp w m pre taps).rd (Reg.ETH_M_IP m) = w.rd (Reg.ETH_M_IP m)
      ∧ ∀ n ∈ w.macLanes m, ((cameUp w m pre taps).lane n).state = .active ∧ ((cameUp w m pre taps).lane n).signal = true
        ∧ ((cameUp w m pre taps).lane n).preTx = pre
        ∧ (cameUp w m pre taps).rd (Reg.LAN_TRAIN_CNT n) = min (w.rd (Reg.LAN_TRAIN_CNT n) + 1) (2 ^ 32 - 1) := by
  obtain ⟨once, low⟩ := macLanes_low used
  have names : (w.macLanes m).zipIdx.map Prod.fst = w.macLanes m := List.zipIdx_map_fst _ _
  have trained := trained_lanesTrained taps (ns := (w.macLanes m).zipIdx) (by rwa [names]) (by rwa [names]) (by rwa [names, four]) wf
  rw [names] at trained
  have rd {g : Field} (hg : g.lo + g.width ≤ 32) (ha : g.addr ≠ 0x410004) :
      (cameUp w m pre taps).rd g = (lanesTrained taps (w.macLanes m).zipIdx w).rd g := by
    rw [cameUp, rd_event_other (by exact trained.wf) _ _ _ hg (.inr ha)]
    exact rd_of_regs (by rw [State.mapMac, mapEth_regs, lanesSignal, mapLan_regs]) g
  refine ⟨?_, ?_, fun n mem => ?_⟩
  · rw [cameUp, event_eth]
    rw [← trained.eth]
    rfl
  · rw [rd (by simp [Reg.ETH_M_IP]) (by simp only [Reg.ETH_M_IP]; omega)]
    exact trained.away _ rfl (by simp [Reg.ETH_M_IP]) (by simp only [Reg.ETH_M_IP]; omega)
  · have lane : (cameUp w m pre taps).lane n = { (lanesTrained taps (w.macLanes m).zipIdx w).lane n with
        signal := true, preTx := pre, preRx := w.on (Reg.ETH_CFG_PRECODE (m / 2)) } := by
      rw [← lane_lanesSignal mem (by rw [trained.length, four]; exact low n mem)]
      exact lane_of_lan (by rw [cameUp, event_lan, State.mapMac, mapEth_lan]) n
    refine ⟨?_, ?_, ?_, ?_⟩
    · rw [lane]
      exact trained.state n mem
    · rw [lane]
    · rw [lane]
    · rw [rd (Nat.le_refl _) (by have := low n mem; simp only [Reg.LAN_TRAIN_CNT]; omega)]
      exact trained.count n mem

theorem only_cameUp (w : State) (m : Nat) (pre : Bool) (taps : List (BitVec 32)) : onlyParts [.eth, .lan, .regs] w (cameUp w m pre taps) :=
  only_event (only_mapMac (only_mapLan (onlyParts_mono (only_lanesTrained _ _ _) (by decide)) (by decide)) (by decide)) (by decide)

theorem now_cameUp (w : State) (m : Nat) (pre : Bool) (taps : List (BitVec 32)) : (cameUp w m pre taps).now = w.now :=
  only_cameUp w m pre taps .now (by decide)

/-! ### Transmit timestamps (R406) -/

theorem exec_tsPop {mr : Master} (hw : w = s.atT i) (able : commandable w mr .eth (some (m / 2))) : exec (.tsPop mr m i) s = .next (w.tsPop m).done := by
  change Host.Outcome.next ((s.atT i).strobe mr .eth (some (m / 2)) false (fun s => s.tsPop m)) = _
  rw [← hw, strobe_of_commandable able]

/-- The state with a transmitted frame counted. -/
def txCounted (w : State) (m : Nat) : State := w.bump (Reg.ETH_M_TX_FRAME_CNT m)

theorem exec_ptpFrameSend {q y : Nat} (hw : w = s.atT i) (up : (w.mac m).state = .up) (on : w.on Reg.ETH_PTP_EN = true) :
    exec (.ptpFrameSend m q y i) s = .next (if 16 ≤ (w.mac m).ts.length then (txCounted w m).event [Reg.ETH_STAT_TS_OVF]
      else (txCounted w m).mapMac m (fun x => { x with
        ts := x.ts ++ [(q % 2 ^ 16, y % 16, (txCounted w m).devTime + (txCounted w m).rd (Reg.ETH_M_TXLAT m))] })) := by
  change execPtpFrameSend m q y i s = _
  have mac : ((w.bump (Reg.ETH_M_TX_FRAME_CNT m)).mac m) = w.mac m := mac_of_eth (bump_eth _ _) m
  unfold execPtpFrameSend
  simp only [← hw, up, on, decide_true, Bool.and_self, if_true, mac]
  split <;> rfl

theorem txCounted_words (wf : storeWf w.regs.live = true) (low : m < 4) :
    (txCounted w m).devTime = w.devTime ∧ (txCounted w m).rd (Reg.ETH_M_TXLAT m) = w.rd (Reg.ETH_M_TXLAT m) := by
  have counted : LiveIn [(Reg.ETH_M_TX_FRAME_CNT m).addr] w (txCounted w m) := LiveIn.refl.wr _ _ List.mem_cons_self (.inl (Nat.le_refl _))
  refine ⟨devTime_of_live counted wf (bump_tim _ _) (bump_now _ _) ?_ ?_, counted.rd wf rfl (by simp [Reg.ETH_M_TXLAT]) ?_⟩
  all_goals
    simp only [Reg.TIM_ADJ, Reg.TIM_SLEW_PPM, Reg.ETH_M_TXLAT, Reg.ETH_M_TX_FRAME_CNT, List.mem_singleton]
    omega

/-- Settles O40: every frame that has ended has left its MAC at the instant of a command, so a queue there is what waits. -/
theorem ethernetMacsServeFrames : Obligations.EthernetMacsServeFrames := by
  intro t s w m hw low four wf
  have fitted : m < w.eth.macs.length := by rw [four]; exact low
  have done := drained_atT hw low
  refine ⟨?_, ?_, ?_, ?_, ?_, ?_, ?_, ?_, ?_, ?_, ?_, ?_, ?_, ?_, ?_, ?_, ?_⟩
  · intro f down
    rw [exec_frameReceive hw, if_pos down]
  · intro f up bad
    rw [exec_frameReceive hw, if_neg (by rw [up]; simp), if_pos]
    · rfl
    · rcases bad with fcs | short | long
      · simp [fcs]
      · simp [short]
      · simp [long]
  · intro f up fcs long short bad
    rw [exec_frameReceive hw, if_neg (by rw [up]; simp), if_neg (by simp [fcs]; omega), if_pos]
    · rfl
    · rcases bad with vlan | dest
      · simp [vlan]
      · simp [dest]
  · intro f asker taken dest ip body
    have up : ((frameCounted w m).mac m).state = .up := (congrArg EthMac.state (mac_frameCounted w m m)).trans taken.1
    obtain ⟨last, -, -, -, -, regs, -⟩ := macSend_queues (s := frameCounted w m) (by rw [frameCounted, bump_eth]; exact fitted) up
      (drained_frameCounted done) (.arpReply f.eth asker)
    refine ⟨_, (exec_frameReceive_taken hw taken).trans (congrArg _ (rxBody_arp wf dest ip body)), last, rd_counted wf rfl (Nat.le_refl _) regs, ?_⟩
    exact only_macSend (only_bump only_refl (by decide)) (by decide)
  · intro f src data taken dest ip body within
    have turn : echoTurn w m < 1000 := by
      unfold echoTurn
      rcases within with fresh | few
      · rw [if_neg fresh]; decide
      · split
        · exact few
        · decide
    obtain ⟨v, rfl, answered⟩ := echo_answers (src := src) (data := data) wf fitted taken.1 done turn f.eth
    exact ⟨_, (exec_frameReceive_taken hw taken).trans (congrArg _ (rxBody_echo wf dest ip body)), answered⟩
  · intro f src data taken dest ip body same many
    rw [exec_frameReceive_taken hw taken]
    refine congrArg _ ((rxBody_echo wf dest ip body).trans (echo_beyond ?_ _ _ _))
    rw [echoTurn_frameCounted, echoTurn, if_pos same]
    exact many
  · intro f src sport data taken dest ip body
    exact (exec_frameReceive_taken hw taken).trans (congrArg _ (rxBody_kp wf dest ip body))
  · intro f src sport data taken dest on body room
    refine ⟨_, (exec_frameReceive_taken hw taken).trans (congrArg _ ((rxBody_ptp wf dest on (.inl rfl) body).trans (ptpReceive_room wf low room))), ?_,
      rd_counted wf rfl (Nat.le_refl _) rfl, only_mapMac (only_bump only_refl (by decide)) (by decide)⟩
    change Eth.mk (modAt (frameCounted w m).eth.macs m _) = _
    rw [frameCounted, bump_eth]
  · intro f src sport data taken dest on body full
    exact (exec_frameReceive_taken hw taken).trans (congrArg _ ((rxBody_ptp wf dest on (.inr rfl) body).trans (ptpReceive_full full)))
  · intro f src dst sport dport hdr sum data taken body
    exact (exec_frameReceive_taken hw taken).trans (congrArg _ (rxBody_fragment body))
  · intro f src dst sport dport hdr data taken body
    exact (exec_frameReceive_taken hw taken).trans (congrArg _ (rxBody_badSum body))
  · intro f taken body
    exact (exec_frameReceive_taken hw taken).trans (congrArg _ (rxBody_other body))
  · intro hi up unused
    have mac : (downed w m hi).mac m = { w.mac m with state := bringUp w m, tx := [], hiSer := hi } := by
      rw [State.mac, eth_downed]
      exact getD_modAt fitted _ _
    obtain ⟨discarded, downs⟩ := rd_downCounted wf m
    refine ⟨_, exec_macDown_up hw wf low up unused hi, congrArg EthMac.state mac, congrArg EthMac.tx mac, congrArg EthMac.hiSer mac,
      (rd_downed w m hi _).trans discarded, (rd_downed w m hi _).trans downs,
      ?_, lanes_downed w m hi, only_downed w m hi⟩
    rw [eth_downed, mac]
  · intro pre taps used run down here lanes ip
    obtain ⟨eth, addr, trained⟩ := cameUp_words wf used lanes pre taps
    have mac : (cameUp w m pre taps).mac m = { w.mac m with state := .up, hiSer := false } := by
      rw [State.mac, eth]
      exact getD_modAt fitted _ _
    have quiet : Drained m (cameUp w m pre taps) := by
      rw [Drained, mac, now_cameUp]
      exact done
    obtain ⟨last, -, -, up, ser, regs, lan⟩ := macSend_queues (s := cameUp w m pre taps)
      (by rw [eth]; exact (modAt_length _ _ _).symm ▸ fitted) (congrArg EthMac.state mac) quiet .gratuitousArp
    refine ⟨_, (exec_macUp hw used run down here).trans (congrArg _ (if_neg (by rw [addr]; exact ip))), up,
      ser.trans (congrArg EthMac.hiSer mac), last, ?_, only_macSend (only_cameUp w m pre taps) (by decide)⟩
    rw [List.all_eq_true]
    intro n mem
    obtain ⟨act, signal, tx, count⟩ := trained n mem
    rw [lane_of_lan lan, rd_of_regs regs, act, signal, tx, count]
    simp
  · intro mr able
    exact exec_tsPop hw able
  · intro q y up on room hq hy
    obtain ⟨time, lat⟩ := txCounted_words wf low
    refine ⟨_, (exec_ptpFrameSend hw up on).trans (congrArg _ (if_neg (Nat.not_le.2 room))), ?_, rd_counted wf rfl (Nat.le_refl _) rfl,
      only_mapMac (only_bump only_refl (by decide)) (by decide)⟩
    rw [time, lat, Nat.mod_eq_of_lt hq, Nat.mod_eq_of_lt hy]
    change Eth.mk (modAt (txCounted w m).eth.macs m _) = _
    rw [txCounted, bump_eth]
  · intro q y up on full
    exact (exec_ptpFrameSend hw up on).trans (congrArg _ (if_pos full))

end Sys2Proof.Proofs
end

section
/-! The Peer Link's course (R408 to R423): its lanes, the states it goes through, and what a lost lane leaves. -/

namespace Sys2Proof.Proofs

open Sys2Proof Sys2Proof.Machine Sys2Proof.Safety Sys2Proof.Laws

variable {s t u v w : State} {i : Instant} {n j k : Nat} {ns : List Nat} {m : Master}

/-! ### Lanes -/

/-- A lane that enters a state at an instant. -/
def laneIn (st : LaneState) (at_ : Nat) (l : LanLane) : LanLane :=
  { l with
    state := st, since := at_, signal := l.signal && st != .detect && st != .lost && st != .off && st != .dormant
    readyRun := 0, readyTx := 0, goodRun := 0, locked := false, peerLocked := false, badRun := 0
    badAt := [], found := l.found && st != .detect && st != .lost && st != .off && st != .dormant }

theorem lane_mapLane (fitted : n < s.lan.lanes.length) (f : LanLane → LanLane) : (s.mapLane n f).lane n = f (s.lane n) := getD_modAt fitted f _

theorem lane_mapLane_other (hj : j ≠ n) (f : LanLane → LanLane) : (s.mapLane n f).lane j = s.lane j := by
  change (modAt s.lan.lanes n f).getD j {} = s.lan.lanes.getD j {}
  rw [modAt_eq_modify, List.getD_eq_getElem?_getD, List.getElem?_modify, List.getD_eq_getElem?_getD]
  simp only [if_neg (Ne.symm hj)]
  cases s.lan.lanes[j]? <;> rfl

theorem mapLane_congr {f g : LanLane → LanLane} (h : f (s.lane n) = g (s.lane n)) : s.mapLane n f = s.mapLane n g :=
  congrArg (fun ls => ({ s with lan := { lanes := ls, course := s.lan.course } } : State)) (modAt_congr (d := {}) h)

theorem lane_laneTo (fitted : n < s.lan.lanes.length) (st : LaneState) : (s.laneTo n st).lane n = laneIn st s.now (s.lane n) :=
  lane_mapLane fitted _

theorem lane_laneTo_other (hj : j ≠ n) (st : LaneState) : (s.laneTo n st).lane j = s.lane j := lane_mapLane_other hj _

theorem length_mapLane (s : State) (n : Nat) (f : LanLane → LanLane) : (s.mapLane n f).lan.lanes.length = s.lan.lanes.length := modAt_length _ _ _

theorem length_laneTo (s : State) (n : Nat) (st : LaneState) : (s.laneTo n st).lan.lanes.length = s.lan.lanes.length := modAt_length _ _ _

/-- The lanes of the Peer Link are 2 and 3, and each is the other's other lane. -/
theorem plLane_iff (h : w.plLane n = true) : n = 2 ∨ n = 3 := by
  rw [State.plLane, Bool.and_eq_true, courseLanes] at h
  simpa using h.1

theorem other_lane (h : w.plLane n = true) : 5 - n ≠ n ∧ n < 4 ∧ 5 - n < 4 := by
  rcases plLane_iff h with rfl | rfl <;> decide

theorem mem_courseLanes_of_plLane (h : w.plLane n = true) : n ∈ courseLanes := by
  rcases plLane_iff h with rfl | rfl <;> decide

theorem mem_lanesIn {st : LaneState} : n ∈ s.lanesIn st ↔ n ∈ courseLanes ∧ (s.lane n).state = st := by
  rw [State.lanesIn, List.mem_filter, beq_iff_eq]

theorem courseLanes_low (h : n ∈ courseLanes) : n < 4 := by
  rw [courseLanes] at h
  simp at h
  omega

/-- From `s` to `v` the lanes `ns` have entered the state `st`, and nothing else has changed. -/
structure LanesMoved (ns : List Nat) (st : LaneState) (s v : State) : Prop where
  course : v.lan.course = s.lan.course
  length : v.lan.lanes.length = s.lan.lanes.length
  entered : ∀ n ∈ ns, n < s.lan.lanes.length → (v.lane n).state = st ∧ (v.lane n).since = s.now
  other : ∀ n, n ∉ ns → v.lane n = s.lane n
  regs : v.regs = s.regs
  only : onlyParts [.lan] s v

theorem lanesMoved (ns : List Nat) (st : LaneState) (s : State) : LanesMoved ns st s (ns.foldl (fun s n => s.laneTo n st) s) := by
  induction ns using List.reverseRecOn with
  | nil => exact ⟨rfl, rfl, fun _ mem => absurd mem List.not_mem_nil, fun _ _ => rfl, rfl, only_refl⟩
  | append_singleton ns k ih =>
    obtain ⟨course, length, entered, other, regs, only⟩ := ih
    rw [List.foldl_append, List.foldl_cons, List.foldl_nil]
    refine ⟨course, (length_laneTo _ _ _).trans length, fun n mem fitted => ?_, fun n out => ?_, regs, only_laneTo only (by decide)⟩
    · by_cases here : n = k
      · subst here
        rw [lane_laneTo (by rw [length]; exact fitted)]
        exact ⟨rfl, only .now (by decide)⟩
      · rw [lane_laneTo_other here]
        exact entered n ((List.mem_append.1 mem).resolve_right (by simpa using here)) fitted
    · rw [List.mem_append, List.mem_singleton, not_or] at out
      rw [lane_laneTo_other out.2, other n out.1]

/-! ### The course's states -/

/-- A course that enters a state at an instant. -/
def courseIn (st : CourseState) (at_ : Nat) (c : Course) : Course :=
  { c with
    state := st
    since := at_
    foundAt := if st = .detect then none else c.foundAt
    peerRxLocked := if st = .lock then false else c.peerRxLocked
    capsRx := if st = .caps then false else c.capsRx
    capsAcked := if st = .caps then false else c.capsAcked
    capsSentAcked := if st = .caps then false else c.capsSentAcked
    width := if st = .active then c.width else 0
    rxWidth := if st = .active then c.rxWidth else 0
    txQuiet := false
    rxQuiet := false
    dormantReq := false }

/-- A course that is not ACTIVE enters a state unseen by KPE. -/
theorem courseTo_idle (idle : s.lan.course.state ≠ .active) (st : CourseState) : s.courseTo st = s.mapCourse (courseIn st s.now) := by
  unfold State.courseTo
  dsimp only
  rw [if_neg (by simp [idle])]
  rfl

/-- A course that leaves ACTIVE reports it; no session is moved where none is reached over it. -/
theorem courseTo_leaves {st : CourseState} (act : s.lan.course.state = .active) (away : st ≠ .active) (unused : pathUnused s 4) :
    s.courseTo st = (s.mapCourse (courseIn st s.now)).event [Reg.LAN_STAT_PL_LEFT] := by
  unfold State.courseTo
  dsimp only
  rw [if_pos (by simp [act, away])]
  refine failover_unused ?_
  rw [pathUnused, event_kpe]
  exact unused

/-- Every lane of the course probes. -/
theorem courseDetect_idle (idle : s.lan.course.state ≠ .active) :
    LanesMoved courseLanes .detect (s.mapCourse (courseIn .detect s.now)) s.courseDetect := by
  rw [State.courseDetect, courseTo_idle idle]
  exact lanesMoved _ _ _

theorem only_courseDetect_idle (idle : s.lan.course.state ≠ .active) : onlyParts [.lan] s s.courseDetect :=
  onlyParts_trans (only_mapCourse only_refl (by decide)) (courseDetect_idle idle).only

theorem course_courseDetect (idle : s.lan.course.state ≠ .active) : s.courseDetect.lan.course = courseIn .detect s.now s.lan.course :=
  (courseDetect_idle idle).course

theorem lanes_courseDetect (idle : s.lan.course.state ≠ .active) (four : s.lan.lanes.length = 4) :
    ∀ n ∈ courseLanes, (s.courseDetect.lane n).state = .detect := by
  intro n mem
  refine ((courseDetect_idle idle).entered n mem ?_).1
  change n < s.lan.lanes.length
  rw [four]
  exact courseLanes_low mem

/-- The lanes found go to TRAIN. -/
def trainFound (s : State) : State := courseLanes.foldl (fun s n => if (s.lane n).found then s.laneTo n .train else s) s

theorem trainFound_only (s : State) : onlyParts [.lan] s (trainFound s) := by
  refine only_foldl only_refl (fun t n h => ?_)
  split
  · exact only_laneTo h (by decide)
  · exact h

theorem trainFound_course (s : State) : (trainFound s).lan.course = s.lan.course := by
  refine List.foldlRecOn courseLanes _ (motive := fun v : State => v.lan.course = s.lan.course) rfl (fun t h n _ => ?_)
  split
  · exact h
  · exact h

/-- One lane of the course, where it was found. -/
def trainOne (s : State) (n : Nat) : State := if (s.lane n).found then s.laneTo n .train else s

theorem trainFound_eq (s : State) : trainFound s = trainOne (trainOne s 2) 3 := rfl

theorem lane_trainOne_other (hj : j ≠ n) (s : State) : (trainOne s n).lane j = s.lane j := by
  unfold trainOne
  split
  · exact lane_laneTo_other hj _
  · rfl

theorem lane_trainOne (fitted : n < s.lan.lanes.length) :
    (trainOne s n).lane n = if (s.lane n).found then laneIn .train s.now (s.lane n) else s.lane n := by
  unfold trainOne
  split
  · exact lane_laneTo fitted _
  · rfl

theorem trainOne_kept (s : State) (n : Nat) : (trainOne s n).now = s.now ∧ (trainOne s n).lan.lanes.length = s.lan.lanes.length := by
  unfold trainOne
  split
  · exact ⟨rfl, length_laneTo _ _ _⟩
  · exact ⟨rfl, rfl⟩

theorem lane_trainFound (four : s.lan.lanes.length = 4) (mem : n ∈ courseLanes) :
    (trainFound s).lane n = if (s.lane n).found then laneIn .train s.now (s.lane n) else s.lane n := by
  obtain ⟨now, length⟩ := trainOne_kept s 2
  rw [courseLanes, List.mem_cons, List.mem_singleton] at mem
  rw [trainFound_eq]
  rcases mem with rfl | rfl
  · rw [lane_trainOne_other (by decide), lane_trainOne (by rw [four]; decide)]
  · rw [lane_trainOne (by rw [length, four]; decide), lane_trainOne_other (by decide), now]

theorem courseTrain_idle (idle : s.lan.course.state ≠ .active) : s.courseTrain = trainFound (s.mapCourse (courseIn .train s.now)) := by
  rw [State.courseTrain, courseTo_idle idle]
  rfl

theorem only_courseTrain_idle (idle : s.lan.course.state ≠ .active) : onlyParts [.lan] s s.courseTrain := by
  rw [courseTrain_idle idle]
  exact onlyParts_trans (only_mapCourse only_refl (by decide)) (trainFound_only _)

theorem course_courseTrain (idle : s.lan.course.state ≠ .active) : s.courseTrain.lan.course = courseIn .train s.now s.lan.course := by
  rw [courseTrain_idle idle, trainFound_course]
  rfl

/-! ### DETECT and TRAIN (R408 to R410, R421) -/

theorem exec_plDetectProbe (hw : w = s.atT i) (lane : w.plLane n = true) (probing : w.lan.course.state = .detect) (unfound : (w.lane n).state = .detect) :
    exec (.plDetectProbe n true i) s = .next ((w.mapLane n (fun l => { l with found := true })).mapCourse (fun c =>
      { c with foundAt := c.foundAt.or (some w.now) })) := by
  change execPlDetectProbe n true i s = _
  unfold execPlDetectProbe
  simp only [← hw, lane, probing, unfound, Bool.not_true, Bool.or_self, Bool.false_eq_true, if_false, decide_true, Bool.and_self, if_true]

theorem or_some_eq {α : Type} (a : Option α) (b : α) : a.or (some b) = some (a.getD b) := by
  cases a <;> rfl

theorem exec_plDetectProbe_lost (hw : w = s.atT i) (lane : w.plLane n = true) (act : w.lan.course.state = .active) (lost : (w.lane n).state = .lost) :
    exec (.plDetectProbe n true i) s = .next ((w.laneTo n .train).mapLane n (fun l => { l with found := true })) := by
  change execPlDetectProbe n true i s = _
  unfold execPlDetectProbe
  simp [← hw, lane, act, lost]

theorem exec_plTrainStart {a : Nat} (hw : w = s.atT i) (probing : w.lan.course.state = .detect) (found : w.lan.course.foundAt = some a)
    (due : a + ms ≤ w.now) : exec (.plTrainStart i) s = .next w.courseTrain := by
  change execPlTrainStart i s = _
  have long : w.lan.course.foundAt.any (fun f => decide (f + ms ≤ w.now)) = true := by
    rw [found, Option.any_some, decide_eq_true due]
  unfold execPlTrainStart
  simp only [← hw, probing, long, decide_true, Bool.and_self, if_true]

/-- A lane in TRAIN that has heard a training frame. -/
def heardLane (control status : Nat) (ready : Bool) (l : LanLane) : LanLane :=
  { l with
    taps := tapsAfter l.taps control, signal := true, preTx := control.testBit 9, preRx := status.testBit 8
    readyRun := if control.testBit 10 then l.readyRun + 1 else 0
    readyTx := if ready then l.readyTx + 1 else 0 }

/-- The state with a training frame heard on lane `n`. -/
def frameHeard (w : State) (n control status : Nat) (ready : Bool) : State :=
  (w.mapLane n (heardLane control status ready)).wr (Reg.LAN_TXEQ n) (leNat (tapsAfter (w.lane n).taps control))

theorem exec_plTrainingFrame {control status : Nat} {ready : Bool} (hw : w = s.atT i) (lane : w.plLane n = true) (train : (w.lane n).state = .train) :
    exec (.plTrainingFrame n control status ready i) s = .next (frameHeard w n control status ready).trainedLanes := by
  have heard : w.mapLane n (fun l => { l with
      taps := tapsAfter (w.lane n).taps control, signal := true, preTx := control.testBit 9, preRx := status.testBit 8
      readyRun := if control.testBit 10 then l.readyRun + 1 else 0
      readyTx := if ready then l.readyTx + 1 else 0 }) = w.mapLane n (heardLane control status ready) := by
    exact mapLane_congr rfl
  change execPlTrainingFrame n control status ready i s = _
  unfold execPlTrainingFrame
  simp only [← hw, lane, train, decide_true, Bool.and_self, if_true, heard]
  rfl

theorem lane_frameHeard (four : w.lan.lanes.length = 4) (low : n < 4) (control status : Nat) (ready : Bool) :
    (frameHeard w n control status ready).lane n = heardLane control status ready (w.lane n) := by
  rw [frameHeard, lane_of_lan (wr_lan _ _ _), lane_mapLane (by rw [four]; exact low)]

theorem course_frameHeard (w : State) (n control status : Nat) (ready : Bool) : (frameHeard w n control status ready).lan.course = w.lan.course := by
  rw [frameHeard, wr_lan]
  rfl

theorem length_frameHeard (w : State) (n control status : Nat) (ready : Bool) :
    (frameHeard w n control status ready).lan.lanes.length = w.lan.lanes.length := by
  rw [frameHeard, wr_lan]
  exact length_mapLane _ _ _

theorem only_frameHeard (w : State) (n control status : Nat) (ready : Bool) : onlyParts [.lan, .regs] w (frameHeard w n control status ready) :=
  only_wr (only_mapLane only_refl (by decide)) (by decide)

theorem wf_frameHeard (wf : storeWf w.regs.live = true) (n control status : Nat) (ready : Bool) :
    storeWf (frameHeard w n control status ready).regs.live = true := wf_wr (s := w.mapLane n _) wf _ _

/-- Each tap takes one step of its request. -/
theorem getD_tapsAfter {taps : List (BitVec 8)} {control : Nat} (plain : control.testBit 8 = false) (low : k < taps.length) :
    (tapsAfter taps control).getD k 0 = tapStep (taps.getD k 0) (control / 4 ^ k % 4) := by
  rw [tapsAfter, plain, if_neg Bool.false_ne_true]
  exact getD_zipIdx_map _ _ low

theorem length_tapsAfter {taps : List (BitVec 8)} {control : Nat} (plain : control.testBit 8 = false) :
    (tapsAfter taps control).length = taps.length := by
  rw [tapsAfter, plain, if_neg Bool.false_ne_true, List.length_map, List.length_zipIdx]

theorem tapStep_eq (tap : BitVec 8) (r : Nat) : tapStep tap r
    = (if r = 1 ∧ tap ≠ 0x7F then tap + 1 else if r = 2 ∧ tap ≠ 0x80 then tap - 1 else tap) := by
  unfold tapStep
  by_cases one : r = 1
  · subst one
    by_cases top : tap = 0x7F <;> simp [top]
  · by_cases two : r = 2
    · subst two
      by_cases bottom : tap = 0x80 <;> simp [bottom]
    · simp [one, two]

theorem leNat_lt (bs : List Byte) : leNat bs < 2 ^ (8 * bs.length) := by
  induction bs with
  | nil => exact Nat.one_pos
  | cons b bs ih =>
    have low := b.isLt
    rw [leNat, List.length_cons, Nat.mul_succ, Nat.pow_add]
    omega

/-- A trained lane goes to LOCK and is counted. -/
def laneLocks (s : State) (n : Nat) : State := (s.laneTo n .lock).bump (Reg.LAN_TRAIN_CNT n)

/-- The lanes that are ready to lock. -/
def readyLanes (s : State) : List Nat := courseLanes.filter (fun n => (s.lane n).state == .train && (s.lane n).ready)

theorem trainedLanes_eq (s : State) : s.trainedLanes =
    if s.lan.course.state = .train then
      if courseLanes.all (fun n => (s.lane n).state != .train || (s.lane n).ready) && !(readyLanes s).isEmpty then
        (readyLanes s).foldl laneLocks (s.courseTo .lock)
      else s
    else if s.lan.course.state = .active then (readyLanes s).foldl laneLocks s
    else s := rfl

theorem lane_laneLocks_other (hj : j ≠ n) (s : State) : (laneLocks s n).lane j = s.lane j := by
  rw [laneLocks, lane_of_lan (bump_lan _ _), lane_laneTo_other hj]

theorem rd_laneLocks (wf : storeWf s.regs.live = true) {g : Field} (hg : g.lo + g.width ≤ 32)
    (ha : g.addr ≠ (Reg.LAN_TRAIN_CNT n).addr) : (laneLocks s n).rd g = s.rd g :=
  rd_wr_other (s := s.laneTo n .lock) wf _ _ (Nat.le_refl _) hg (.inr ha) _

/-- A lane that is not ready trains on, whatever the others do. -/
theorem trainedLanes_unready (wf : storeWf s.regs.live = true) (mem : n ∈ courseLanes) (train : (s.lane n).state = .train)
    (unready : (s.lane n).ready = false) :
    s.trainedLanes.lane n = s.lane n ∧ s.trainedLanes.rd (Reg.LAN_TXEQ n) = s.rd (Reg.LAN_TXEQ n) ∧ onlyParts [.lan, .regs] s s.trainedLanes := by
  have fold : ∀ v, v = (readyLanes s).foldl laneLocks s → storeWf v.regs.live = true ∧ v.lane n = s.lane n
      ∧ v.rd (Reg.LAN_TXEQ n) = s.rd (Reg.LAN_TXEQ n) ∧ onlyParts [.lan, .regs] s v := by
    rintro v rfl
    refine List.foldlRecOn (readyLanes s) laneLocks (motive := fun v : State => storeWf v.regs.live = true ∧ v.lane n = s.lane n
      ∧ v.rd (Reg.LAN_TXEQ n) = s.rd (Reg.LAN_TXEQ n) ∧ onlyParts [.lan, .regs] s v) ⟨wf, rfl, rfl, only_refl⟩ ?_
    rintro t ⟨wft, lane, eq, only⟩ k ready
    have apart : n ≠ k := by
      rintro rfl
      have both := (List.mem_filter.1 ready).2
      rw [unready, Bool.and_false] at both
      exact Bool.false_ne_true both
    have low := courseLanes_low mem
    refine ⟨wf_bump (s := t.laneTo k .lock) wft _, (lane_laneLocks_other apart t).trans lane, (rd_laneLocks wft (Nat.le_refl _) ?_).trans eq,
      only_bump (only_laneTo only (by decide)) (by decide)⟩
    simp only [Reg.LAN_TXEQ, Reg.LAN_TRAIN_CNT]
    omega
  obtain ⟨-, lane, eq, only⟩ := fold _ rfl
  have waits : courseLanes.all (fun n => (s.lane n).state != .train || (s.lane n).ready) = false := by
    rw [List.all_eq_false]
    exact ⟨n, mem, by simp [train, unready]⟩
  rw [trainedLanes_eq, waits, Bool.false_and, if_neg Bool.false_ne_true]
  split
  · exact ⟨rfl, rfl, only_refl⟩
  · split
    · exact ⟨lane, eq, only⟩
    · exact ⟨rfl, rfl, only_refl⟩

theorem readyLanes_last (last : s.lanesIn .train = [n]) (ready : (s.lane n).ready = true) : readyLanes s = [n] := by
  have split : readyLanes s = (s.lanesIn .train).filter (fun n => (s.lane n).ready) := by
    rw [readyLanes, State.lanesIn, List.filter_filter]
    simp only [Bool.and_comm]
  rw [split, last]
  simp [ready]

/-- With the last lane ready the course locks. -/
theorem trainedLanes_last (train : s.lan.course.state = .train) (last : s.lanesIn .train = [n]) (ready : (s.lane n).ready = true) :
    s.trainedLanes = laneLocks (s.mapCourse (courseIn .lock s.now)) n := by
  have all : courseLanes.all (fun n => (s.lane n).state != .train || (s.lane n).ready) = true := by
    rw [List.all_eq_true]
    intro k mem
    by_cases trains : (s.lane k).state = .train
    · have here : k ∈ [n] := last ▸ mem_lanesIn.2 ⟨mem, trains⟩
      rw [List.mem_singleton.1 here, ready, Bool.or_true]
    · simp [trains]
  rw [trainedLanes_eq, if_pos train, all, readyLanes_last last ready, if_pos (by rfl), courseTo_idle (by rw [train]; decide)]
  rfl

/-! ### Training that takes too long (R408, R410) -/

/-- The lanes `ns` have failed to train. -/
def failsCounted (ns : List Nat) (s : State) : State := ns.foldl (fun s n => s.bump (Reg.LAN_TRAIN_FAIL_CNT n)) s

/-- Each failure is counted once, and nothing else changes. -/
theorem failsCounted_words (once : ns.Nodup) (wf : storeWf s.regs.live = true) :
    storeWf (failsCounted ns s).regs.live = true ∧ (failsCounted ns s).lan = s.lan ∧ onlyParts [.regs] s (failsCounted ns s)
      ∧ ∀ n, (failsCounted ns s).rd (Reg.LAN_TRAIN_FAIL_CNT n)
        = if n ∈ ns then min (s.rd (Reg.LAN_TRAIN_FAIL_CNT n) + 1) (2 ^ 32 - 1) else s.rd (Reg.LAN_TRAIN_FAIL_CNT n) := by
  induction ns using List.reverseRecOn with
  | nil => exact ⟨wf, rfl, only_refl, fun n => (if_neg List.not_mem_nil).symm⟩
  | append_singleton ns k ih =>
    have fresh : k ∉ ns := fun mem => (List.nodup_append.1 once).2.2 _ mem _ (List.mem_singleton_self _) rfl
    obtain ⟨wf', lan, only, count⟩ := ih (List.nodup_append.1 once).1
    have step : failsCounted (ns ++ [k]) s = (failsCounted ns s).bump (Reg.LAN_TRAIN_FAIL_CNT k) := by
      rw [failsCounted, List.foldl_append]
      rfl
    rw [step]
    refine ⟨wf_bump wf' _, (bump_lan _ _).trans lan, only_bump only (by decide), fun n => ?_⟩
    by_cases here : n = k
    · subst here
      rw [rd_bump wf' _ rfl (Nat.le_refl _), count, if_neg fresh, if_pos (by simp)]
      rfl
    · rw [State.bump, State.bumpBy, rd_wr_other wf' _ _ (Nat.le_refl _) (Nat.le_refl _)
        (.inr (by simp only [Reg.LAN_TRAIN_FAIL_CNT]; omega)), count]
      simp [here]

theorem nodup_lanesIn (s : State) (st : LaneState) : (s.lanesIn st).Nodup := List.Nodup.filter _ (by decide)

theorem exec_plTrainTimeout (hw : w = s.atT i) (train : w.lan.course.state = .train) (late : w.lan.course.since + 100 * ms ≤ w.now) :
    exec (.plTrainTimeout i) s = .next (failsCounted (w.lanesIn .train) w).courseDetect := by
  change execPlTrainTimeout i s = _
  unfold execPlTrainTimeout
  simp only [← hw, train, late, decide_true, Bool.and_self, if_true]
  rfl

theorem exec_plTrainTimeout_alone (hw : w = s.atT i) (act : w.lan.course.state = .active) (alone : w.lanesIn .train = [n])
    (late : (w.lane n).since + 100 * ms ≤ w.now) :
    exec (.plTrainTimeout i) s = .next ((w.laneTo n .lost).bump (Reg.LAN_TRAIN_FAIL_CNT n)) := by
  have one : (w.lanesIn .train).filter (fun n => decide ((w.lane n).since + 100 * ms ≤ w.now)) = [n] := by
    rw [alone, List.filter_cons, List.filter_nil, decide_eq_true late, if_pos rfl]
  change execPlTrainTimeout i s = _
  unfold execPlTrainTimeout
  simp only [← hw, act, one, List.foldl_cons, List.foldl_nil, reduceCtorEq, decide_false, Bool.false_and, Bool.false_eq_true, if_false, if_true]

/-! ### LOCK (R411, R412, R420, R421) -/

/-- A lane that has received a codeword. -/
def wordLane (ok spare : Bool) (flags index now : Nat) (l : LanLane) : LanLane :=
  { l with
    signal := true
    peerLocked := if ok && spare then flags.testBit 1 else l.peerLocked
    spareIdx := if ok && spare then index % 256 else l.spareIdx
    goodRun := if ok then l.goodRun + 1 else 0
    badRun := if ok then 0 else l.badRun + 1
    badAt := if ok then l.badAt else now :: l.badAt.filter (fun a => now < a + 100 * us) }

/-- The state with a good SPARE codeword received on lane `n`, which has then seen enough of them. -/
def spareHeard (w : State) (n flags index corrected : Nat) : State :=
  (((w.bumpBy (Reg.LAN_CORR_CNT n) corrected).mapLane n (wordLane true true flags index w.now)).mapCourse (fun c =>
    { c with peerRxLocked := flags.testBit 0 })).mapLane n (fun l => { l with locked := l.locked || decide (8 ≤ l.goodRun) })

theorem exec_plCodeword_lock {flags index corrected : Nat} (hw : w = s.atT i) (lane : w.plLane n = true)
    (lock : (w.lane n).state = .lock) :
    exec (.plCodeword n true true flags index corrected i) s = .next (spareHeard w n flags index corrected).lockedCourse := by
  change execPlCodeword n true true flags index corrected i s = _
  unfold execPlCodeword
  simp only [← hw, lane, lock, Bool.not_true, decide_true, Bool.true_or, Bool.or_self, Bool.false_eq_true, if_false, if_true, Bool.and_self,
    Bool.and_false, Bool.false_and]
  rfl

theorem state_mapLane {f : LanLane → LanLane} (kept : ∀ l, (f l).state = l.state) (s : State) (n k : Nat) :
    ((s.mapLane n f).lane k).state = (s.lane k).state := by
  change ((modAt s.lan.lanes n f).getD k {}).state = (s.lan.lanes.getD k {}).state
  rw [modAt_eq_modify, List.getD_eq_getElem?_getD, List.getElem?_modify, List.getD_eq_getElem?_getD]
  cases s.lan.lanes[k]? with
  | none => rfl
  | some x =>
    by_cases here : n = k
    · simp [here, kept]
    · simp [here]

theorem lanesIn_congr (h : ∀ k ∈ courseLanes, (v.lane k).state = (s.lane k).state) (st : LaneState) : v.lanesIn st = s.lanesIn st :=
  List.filter_congr (fun k mem => by rw [h k mem])

theorem lane_mapCourse (s : State) (f : Course → Course) (n : Nat) : (s.mapCourse f).lane n = s.lane n := rfl

theorem length_mapCourse (s : State) (f : Course → Course) : (s.mapCourse f).lan.lanes.length = s.lan.lanes.length := rfl

/-- What a good SPARE codeword leaves of the lane and the course. -/
theorem spareHeard_lan (four : w.lan.lanes.length = 4) (low : n < 4) (flags index corrected : Nat) :
    (spareHeard w n flags index corrected).lane n = { wordLane true true flags index w.now (w.lane n) with
        locked := (w.lane n).locked || decide (8 ≤ (w.lane n).goodRun + 1) }
      ∧ (spareHeard w n flags index corrected).lan.course = { w.lan.course with peerRxLocked := flags.testBit 0 }
      ∧ ∀ st, (spareHeard w n flags index corrected).lanesIn st = w.lanesIn st := by
  have lan : (w.bumpBy (Reg.LAN_CORR_CNT n) corrected).lan = w.lan := by rw [State.bumpBy, wr_lan]
  have length : n < (w.bumpBy (Reg.LAN_CORR_CNT n) corrected).lan.lanes.length := by rw [lan, four]; exact low
  refine ⟨?_, ?_, fun st => lanesIn_congr (fun k _ => ?_) st⟩
  · rw [spareHeard, lane_mapLane (by rw [length_mapCourse, length_mapLane]; exact length), lane_mapCourse, lane_mapLane length, lane_of_lan lan]
    rfl
  · change { (w.bumpBy (Reg.LAN_CORR_CNT n) corrected).lan.course with peerRxLocked := flags.testBit 0 } = _
    rw [lan]
  · refine (state_mapLane (f := fun l => { l with locked := l.locked || decide (8 ≤ l.goodRun) }) (fun _ => rfl) _ n k).trans ?_
    rw [lane_mapCourse]
    refine (state_mapLane (f := wordLane true true flags index w.now) (fun _ => rfl) _ n k).trans ?_
    rw [lane_of_lan lan]

theorem only_spareHeard (w : State) (n flags index corrected : Nat) : onlyParts [.lan, .regs] w (spareHeard w n flags index corrected) :=
  only_mapLane (only_mapCourse (only_mapLane (only_bumpBy only_refl (by decide)) (by decide)) (by decide)) (by decide)

theorem rd_corr (wf : storeWf w.regs.live = true) (n flags index corrected : Nat) :
    (spareHeard w n flags index corrected).rd (Reg.LAN_CORR_CNT n) = min (w.rd (Reg.LAN_CORR_CNT n) + corrected) (2 ^ 32 - 1) :=
  (rd_wr wf (Reg.LAN_CORR_CNT n) rfl (Nat.le_refl _) _).trans
    (Nat.mod_eq_of_lt (Nat.lt_of_le_of_lt (Nat.min_le_right _ _) (Nat.sub_lt (Nat.two_pow_pos _) Nat.one_pos)))

/-- The course goes to CAPS with its last lane locked and RX_LOCKED from the peer, and waits without. -/
theorem lockedCourse_of_one (course : s.lan.course.state = .lock) (one : s.lanesIn .lock = [n]) (locked : (s.lane n).locked = true) :
    s.lockedCourse = if s.lan.course.peerRxLocked then s.mapCourse (courseIn .caps s.now) else s := by
  rw [State.lockedCourse, one]
  cases peer : s.lan.course.peerRxLocked
  · simp
  · simp [course, locked, courseTo_idle]

/-- What became of a course that leaves LOCK, or waits there. -/
theorem lockedCourse_lan (course : s.lan.course.state = .lock) (one : s.lanesIn .lock = [n]) (locked : (s.lane n).locked = true) :
    s.lockedCourse.lan.course.state = (if s.lan.course.peerRxLocked then .caps else .lock) ∧ s.lockedCourse.lane n = s.lane n
      ∧ s.lockedCourse.regs = s.regs ∧ onlyParts [.lan] s s.lockedCourse := by
  rw [lockedCourse_of_one course one locked]
  split
  · exact ⟨rfl, rfl, rfl, only_mapCourse only_refl (by decide)⟩
  · exact ⟨course, rfl, rfl, only_refl⟩

/-! ### A lane of an ACTIVE course that is lost (R420) -/

/-- The loss of a lane is counted and reported, and the lane is LOST. -/
def lossSeen (s : State) (n : Nat) : State := ((s.bump (Reg.LAN_LOCK_LOSS_CNT n)).event [Reg.LAN_STAT_LOSS.bit n]).laneTo n .lost

/-- The course goes on at width 1, with a replay. -/
def degraded (s : State) : State :=
  ((s.bump Reg.LAN_DEGRADE_CNT).event [Reg.LAN_STAT_DEGRADE]).replayAll.mapCourse (fun c => { c with width := min 1 c.width, rxWidth := min 1 c.rxWidth })

theorem laneLost_eq (act : s.lan.course.state = .active) (mem : n ∈ courseLanes) :
    s.laneLost n = if ((lossSeen s n).lanesIn .active).isEmpty && ((lossSeen s n).lanesIn .quiet).isEmpty then (lossSeen s n).courseDetect
      else degraded (lossSeen s n) := by
  have act' : ((s.bump (Reg.LAN_LOCK_LOSS_CNT n)).event [Reg.LAN_STAT_LOSS.bit n]).lan.course.state = .active := by
    rw [event_lan, bump_lan]
    exact act
  unfold State.laneLost
  dsimp only
  rw [if_pos (by rw [act', List.contains_iff_mem.2 mem]; rfl)]
  rfl

theorem lan_lossSeen (s : State) (n : Nat) : (lossSeen s n).lan.course = s.lan.course ∧ (lossSeen s n).lan.lanes.length = s.lan.lanes.length := by
  have lan : ((s.bump (Reg.LAN_LOCK_LOSS_CNT n)).event [Reg.LAN_STAT_LOSS.bit n]).lan = s.lan := by rw [event_lan, bump_lan]
  refine ⟨?_, ?_⟩
  · rw [lossSeen, show ∀ x : State, (x.laneTo n .lost).lan.course = x.lan.course from fun _ => rfl, lan]
  · rw [lossSeen, length_laneTo, lan]

theorem state_lossSeen (fitted : n < s.lan.lanes.length) : ((lossSeen s n).lane n).state = .lost := by
  rw [lossSeen, lane_laneTo (by rw [event_lan, bump_lan]; exact fitted)]
  rfl

theorem lane_lossSeen_other (hj : j ≠ n) (s : State) : (lossSeen s n).lane j = s.lane j := by
  rw [lossSeen, lane_laneTo_other hj, lane_of_lan (s := s) (by rw [event_lan, bump_lan])]

theorem liveIn_lossSeen (s : State) (n : Nat) : LiveIn [(Reg.LAN_LOCK_LOSS_CNT n).addr, 0x400004] s (lossSeen s n) :=
  ((LiveIn.refl.wr (Reg.LAN_LOCK_LOSS_CNT n) _ (by simp) (.inl (Nat.le_refl _))).event (Reg.LAN_STAT_LOSS.bit n)
    (by simp [Reg.LAN_STAT_LOSS, Field.bit])).of_live rfl

theorem rd_lossSeen (wf : storeWf s.regs.live = true) (n : Nat) :
    (lossSeen s n).rd (Reg.LAN_LOCK_LOSS_CNT n) = min (s.rd (Reg.LAN_LOCK_LOSS_CNT n) + 1) (2 ^ 32 - 1) := by
  refine (rd_event_other (wf_bump wf _) (Reg.LAN_STAT_LOSS.bit n) (Reg.LAN_LOCK_LOSS_CNT n) [] (Nat.le_refl _) (.inr ?_)).trans (rd_bump wf _ rfl (Nat.le_refl _))
  simp only [Reg.LAN_LOCK_LOSS_CNT, Reg.LAN_STAT_LOSS, Field.bit]
  omega

theorem liveIn_degraded (s : State) : LiveIn [0x400090, 0x400004] s (degraded s) :=
  ((LiveIn.refl.wr Reg.LAN_DEGRADE_CNT _).event Reg.LAN_STAT_DEGRADE).of_live rfl

theorem rd_degraded (wf : storeWf s.regs.live = true) : (degraded s).rd Reg.LAN_DEGRADE_CNT = min (s.rd Reg.LAN_DEGRADE_CNT + 1) (2 ^ 32 - 1) :=
  (rd_event_other (wf_bump wf _) Reg.LAN_STAT_DEGRADE Reg.LAN_DEGRADE_CNT [] (Nat.le_refl _) (.inr (by decide))).trans
    (rd_bump wf _ rfl (Nat.le_refl _))

theorem lan_degraded (s : State) : (degraded s).lan = { s.lan with course := { s.lan.course with
    replayLeft := s.lan.course.retry.length, width := min 1 s.lan.course.width, rxWidth := min 1 s.lan.course.rxWidth } } := by
  have lan : ((s.bump Reg.LAN_DEGRADE_CNT).event [Reg.LAN_STAT_DEGRADE]).lan = s.lan := by rw [event_lan, bump_lan]
  have step (x : State) : (x.replayAll.mapCourse (fun c => { c with width := min 1 c.width, rxWidth := min 1 c.rxWidth })).lan
      = { x.lan with course := { x.lan.course with
        replayLeft := x.lan.course.retry.length, width := min 1 x.lan.course.width, rxWidth := min 1 x.lan.course.rxWidth } } := rfl
  rw [degraded, step, lan]

/-- A lane that is lost while the other is ACTIVE leaves the course on the other (R420). -/
theorem laneLost_degrades (act : s.lan.course.state = .active) (mem : n ∈ courseLanes) (alive : j ∈ courseLanes) (hj : j ≠ n)
    (other : (s.lane j).state = .active) : s.laneLost n = degraded (lossSeen s n) := by
  have left : j ∈ (lossSeen s n).lanesIn .active := mem_lanesIn.2 ⟨alive, by rw [lane_lossSeen_other hj]; exact other⟩
  rw [laneLost_eq act mem, List.isEmpty_eq_false_iff.2 (List.ne_nil_of_mem left), Bool.false_and, if_neg Bool.false_ne_true]

/-- What a lost lane leaves. -/
theorem laneLost_leaves (wf : storeWf s.regs.live = true) (four : s.lan.lanes.length = 4) (low : n < 4) (hj : j ≠ n) :
    (degraded (lossSeen s n)).lan.course = { s.lan.course with
        replayLeft := s.lan.course.retry.length, width := min 1 s.lan.course.width, rxWidth := min 1 s.lan.course.rxWidth }
      ∧ ((degraded (lossSeen s n)).lane n).state = .lost ∧ (degraded (lossSeen s n)).lane j = s.lane j
      ∧ (degraded (lossSeen s n)).rd (Reg.LAN_LOCK_LOSS_CNT n) = min (s.rd (Reg.LAN_LOCK_LOSS_CNT n) + 1) (2 ^ 32 - 1)
      ∧ (degraded (lossSeen s n)).rd Reg.LAN_DEGRADE_CNT = min (s.rd Reg.LAN_DEGRADE_CNT + 1) (2 ^ 32 - 1)
      ∧ onlyParts [.lan, .regs] s (degraded (lossSeen s n)) := by
  have lan := lan_degraded (lossSeen s n)
  have lane (k : Nat) : (degraded (lossSeen s n)).lane k = (lossSeen s n).lane k := by rw [State.lane, lan, State.lane]
  have wf' := (liveIn_lossSeen s n).wf wf
  refine ⟨by rw [lan, (lan_lossSeen s n).1], ?_, ?_, ?_, ?_, ?_⟩
  · rw [lane, state_lossSeen (by rw [four]; exact low)]
  · rw [lane, lane_lossSeen_other hj]
  · rw [(liveIn_degraded _).rd wf' rfl (Nat.le_refl _) (by simp only [Reg.LAN_LOCK_LOSS_CNT, List.mem_cons, List.not_mem_nil, or_false]; omega),
      rd_lossSeen wf]
  · rw [rd_degraded wf', (liveIn_lossSeen s n).rd wf rfl (Nat.le_refl _)
      (by simp only [Reg.LAN_DEGRADE_CNT, Reg.LAN_LOCK_LOSS_CNT, List.mem_cons, List.not_mem_nil, or_false]; omega)]
  · exact only_mapCourse (only_replayAll (only_event (only_bump (only_laneTo (only_event (only_bump only_refl (by decide)) (by decide)) (by decide))
      (by decide)) (by decide)) (by decide)) (by decide)

/-- The state with an uncorrectable codeword received on lane `n`. -/
def badHeard (w : State) (n flags index : Nat) : State :=
  (w.bump (Reg.LAN_UNCORR_CNT n)).mapLane n (wordLane false false flags index w.now)

theorem exec_plCodeword_bad {flags index corrected : Nat} (hw : w = s.atT i) (lane : w.plLane n = true) (four : w.lan.lanes.length = 4)
    (course : w.lan.course.state = .active) (act : (w.lane n).state = .active) (run : (w.lane n).badRun = 3) :
    exec (.plCodeword n false false flags index corrected i) s = .next ((badHeard w n flags index).laneLost n) := by
  have fitted : n < (w.bump (Reg.LAN_UNCORR_CNT n)).lan.lanes.length := by rw [bump_lan, four]; exact (other_lane lane).2.1
  have course' : (badHeard w n flags index).lan.course.state = .active := by
    change (w.bump (Reg.LAN_UNCORR_CNT n)).lan.course.state = .active
    rw [bump_lan, course]
  have run' : ((badHeard w n flags index).lane n).badRun = 4 := by
    rw [badHeard, lane_mapLane fitted, lane_of_lan (bump_lan _ _)]
    change (w.lane n).badRun + 1 = 4
    rw [run]
  change execPlCodeword n false false flags index corrected i s = _
  unfold execPlCodeword
  rw [← hw]
  dsimp only
  rw [if_neg (by simp [lane, act]), if_neg (by rw [act]; decide)]
  exact if_pos (by
    change ((badHeard w n flags index).lan.course.state = .active && (4 ≤ ((badHeard w n flags index).lane n).badRun
      || 64 ≤ ((badHeard w n flags index).lane n).badAt.length)) = true
    rw [course', run']
    rfl)

theorem badHeard_lan (lane : w.plLane n = true) : (badHeard w n k j).lan.course = w.lan.course
    ∧ (badHeard w n k j).lan.lanes.length = w.lan.lanes.length ∧ (badHeard w n k j).lane (5 - n) = w.lane (5 - n) := by
  have lan : (w.bump (Reg.LAN_UNCORR_CNT n)).lan = w.lan := bump_lan _ _
  refine ⟨(congrArg Lan.course lan : (w.bump (Reg.LAN_UNCORR_CNT n)).lan.course = w.lan.course), ?_, ?_⟩
  · rw [badHeard, length_mapLane, lan]
  · rw [badHeard, lane_mapLane_other (other_lane lane).1, lane_of_lan lan]

theorem only_badHeard (w : State) (n k j : Nat) : onlyParts [.lan, .regs] w (badHeard w n k j) :=
  only_mapLane (only_bump only_refl (by decide)) (by decide)

theorem exec_plLaneLost (hw : w = s.atT i) (lane : w.plLane n = true) (course : w.lan.course.state = .active) (loud : w.lan.course.rxQuiet = false)
    (act : (w.lane n).state = .active) : exec (.plLaneLost n i) s = .next (w.laneLost n) := by
  change execPlLaneLost n i s = _
  unfold execPlLaneLost
  simp only [← hw, lane, course, loud, act, decide_true, Bool.not_false, Bool.true_or, Bool.and_self, if_true]

theorem exec_plLockTimeout (hw : w = s.atT i) (lock : w.lan.course.state = .lock) (late : w.lan.course.since + ms ≤ w.now) :
    exec (.plLockTimeout i) s = .next w.courseTrain := by
  change execPlLockTimeout i s = _
  unfold execPlLockTimeout
  simp only [← hw, lock, late, decide_true, Bool.and_self, if_true]

/-- The last lane of a course that is lost takes it back to DETECT, and its retry buffer is kept (R419, R420). -/
theorem laneLost_last (act : s.lan.course.state = .active) (lane : s.plLane n = true) (four : s.lan.lanes.length = 4)
    (other : (s.lane (5 - n)).state = .lost) (unused : pathUnused s 4) :
    (s.laneLost n).lan.course.state = .detect ∧ (s.laneLost n).lan.course.retry = s.lan.course.retry ∧ onlyParts [.lan, .regs] s (s.laneLost n) := by
  obtain ⟨apart, low, low'⟩ := other_lane lane
  have gone (k : Nat) (mem : k ∈ courseLanes) : ((lossSeen s n).lane k).state = .lost := by
    by_cases here : k = n
    · rw [here, state_lossSeen (by rw [four]; exact low)]
    · have there : k = 5 - n := by
        rw [courseLanes, List.mem_cons, List.mem_singleton] at mem
        rcases plLane_iff lane with rfl | rfl <;> omega
      rw [there, lane_lossSeen_other apart, other]
  have none_ (st : LaneState) (h : st ≠ .lost) : (lossSeen s n).lanesIn st = [] := by
    rw [List.eq_nil_iff_forall_not_mem]
    intro k mem
    obtain ⟨mem, state⟩ := mem_lanesIn.1 mem
    exact h (state.symm.trans (gone k mem))
  have only : onlyParts [.lan, .regs] s (lossSeen s n) :=
    only_laneTo (only_event (only_bump only_refl (by decide)) (by decide)) (by decide)
  have course := (lan_lossSeen s n).1
  have leaves : (lossSeen s n).courseTo .detect = ((lossSeen s n).mapCourse (courseIn .detect (lossSeen s n).now)).event [Reg.LAN_STAT_PL_LEFT] :=
    courseTo_leaves (by rw [course, act]) (by decide) (by
      rw [pathUnused, show (lossSeen s n).kpe = s.kpe from only .kpe (by decide)]
      exact unused)
  have moved := lanesMoved courseLanes .detect (((lossSeen s n).mapCourse (courseIn .detect (lossSeen s n).now)).event [Reg.LAN_STAT_PL_LEFT])
  rw [laneLost_eq act (mem_courseLanes_of_plLane lane), none_ .active (by decide), none_ .quiet (by decide), if_pos (by rfl), State.courseDetect, leaves,
    moved.course, event_lan]
  refine ⟨rfl, ?_, onlyParts_trans (only_event (only_mapCourse only (by decide)) (by decide)) (onlyParts_mono moved.only (by decide))⟩
  change (lossSeen s n).lan.course.retry = _
  rw [course]

/-! ### CAPS (R416, R419) -/

theorem exec_plCapsSend (hw : w = s.atT i) (caps : w.lan.course.state = .caps) :
    exec (.plCapsSend i) s = .next ((w.sendCtrlFlit 3 w.capsBytes).mapCourse (fun c => { c with capsSentAcked := c.capsSentAcked || c.capsRx })).capsDone := by
  change execPlCapsSend i s = _
  unfold execPlCapsSend
  simp only [← hw, caps, if_true]

theorem ctrlTx_sendCtrlFlit (s : State) (type : Nat) (payload : List Byte) :
    (s.sendCtrlFlit type payload).lan.course.ctrlTx.getLast? = some (type, (s.lan.course.nextRx + 4095) % 4096, payload) := List.getLast?_concat

theorem capsDone_waits (wait : s.lan.course.capsAcked = false ∨ s.lan.course.capsSentAcked = false) : s.capsDone = s := by
  rw [State.capsDone]
  refine if_neg ?_
  rcases wait with h | h
  · simp [h]
  · simp [h]

/-- A course that enters ACTIVE. -/
def courseActive (width now : Nat) (c : Course) : Course :=
  { c with width := width, rxWidth := width, busyAt := now, ackAt := now, replays := 0, nakSent := false }

theorem capsDone_active (caps : s.lan.course.state = .caps) (acked : s.lan.course.capsAcked = true) (sent : s.lan.course.capsSentAcked = true) :
    ∃ v, s.capsDone = (v.mapCourse (courseActive (s.lanesIn .lock).length v.now)).event [Reg.LAN_STAT_PL_ACTIVE]
      ∧ LanesMoved (s.lanesIn .lock) .active (s.mapCourse (courseIn .active s.now)) v := by
  refine ⟨_, ?_, lanesMoved _ _ _⟩
  rw [State.capsDone, if_pos (by simp [caps, acked, sent]), courseTo_idle (by rw [caps]; decide)]
  rfl

theorem exec_plCapsTimeout (hw : w = s.atT i) (caps : w.lan.course.state = .caps) (late : w.lan.course.since + 10 * ms ≤ w.now) :
    exec (.plCapsTimeout i) s = .next w.courseDetect := by
  change execPlCapsTimeout i s = _
  unfold execPlCapsTimeout
  simp only [← hw, caps, late, decide_true, Bool.and_self, if_true]

theorem exec_plDownHoldEnd (hw : w = s.atT i) (hold : w.lan.course.hold = true) (late : w.lan.course.since + sec ≤ w.now) :
    exec (.plDownHoldEnd i) s = .next (w.mapCourse (fun c => { c with hold := false })).courseFollow := by
  change execPlDownHoldEnd i s = _
  unfold execPlDownHoldEnd
  simp only [← hw, hold, late, decide_true, Bool.and_self, if_true]

theorem courseFollow_starts (on : s.plEnabled = true) (down : s.lan.course.state = .down) (free : s.lan.course.hold = false) :
    s.courseFollow = s.courseDetect := by
  rw [State.courseFollow, if_pos on, if_pos (by simp [down, free])]

/-- A CTRL flit received in CAPS. -/
theorem exec_plFlitReceive_caps {f : RxFlit} (hw : w = s.atT i) (caps : w.lan.course.state = .caps) (ok : f.ok = true) (type : f.type = 3)
    (top : f.top = false) : exec (.plFlitReceive f i) s = .next ((w.mapCourse (fun c => { c with rxQuiet := false })).ctrlFlit f.payload) := by
  change execPlFlitReceive f i s = _
  unfold execPlFlitReceive
  simp [← hw, caps, ok, type, top]

/-- A course that another version of the peer takes DOWN. -/
def refused (s : State) : State :=
  ((courseLanes.foldl (fun s n => s.laneTo n .off) (s.mapCourse (courseIn .down s.now))).mapCourse (fun c => { c with hold := true })).event
    [Reg.LAN_STAT_CAPS_FAIL]

theorem ctrlFlit_version {p : List Byte} (caps : s.lan.course.state = .caps) (first : p.getD 0 0 = 1) (version : p.getD 1 0 ≠ 1) :
    s.ctrlFlit p = refused s := by
  have at1 : leNat ((p.drop 1).take 1) ≠ 1 := by
    intro one
    apply version
    match p with
    | [] => exact absurd one (by decide)
    | [_] => exact absurd one Nat.zero_ne_one
    | _ :: b :: r =>
      have value : b.toNat = 1 := by
        change b.toNat + 256 * 0 = 1 at one
        omega
      exact BitVec.eq_of_toNat_eq value
  have head : (p.headD 0).toNat = 1 := by
    have same : p.headD 0 = p.getD 0 0 := by cases p <;> rfl
    rw [same, first]
    rfl
  rw [State.ctrlFlit, head, State.capsReceive]
  dsimp only
  rw [if_neg (by simp [caps]), if_pos at1, courseTo_idle (by rw [caps]; decide)]
  rfl

/-! ### Width, QUIET and DORMANT (R421 to R423) -/

/-- The course is back at width 2. -/
def restored (w : State) : State :=
  ((w.mapCourse (fun c => { c with width := 2 })).bump Reg.LAN_RESTORE_CNT).event [Reg.LAN_STAT_RESTORE]

theorem lan_restored (w : State) : (restored w).lan = { w.lan with course := { w.lan.course with width := 2 } } := by
  rw [restored, event_lan, bump_lan]
  rfl

theorem exec_plWidthRestore (hw : w = s.atT i) (act : w.lan.course.state = .active) (one : w.lan.course.width = 1) (rx : w.lan.course.rxWidth = 2)
    (lock : w.lanesIn .lock = [n]) (peer : (w.lane n).peerLocked = true) : exec (.plWidthRestore i) s = .next ((restored w).laneTo n .active) := by
  have found : (w.lanesIn .lock).find? (fun n => (w.lane n).peerLocked) = some n := by
    rw [lock, List.find?_singleton, peer, if_pos rfl]
  have wide : (restored w).lan.course.rxWidth = 2 := by
    rw [lan_restored]
    exact rx
  change execPlWidthRestore i s = _
  unfold execPlWidthRestore
  simp only [← hw, found, act, one, decide_true, Bool.and_self, if_true]
  exact congrArg _ (if_pos wide)

theorem rd_restored (wf : storeWf w.regs.live = true) : (restored w).rd Reg.LAN_RESTORE_CNT = min (w.rd Reg.LAN_RESTORE_CNT + 1) (2 ^ 32 - 1) :=
  (rd_event_other (wf_bump (s := w.mapCourse _) wf _) Reg.LAN_STAT_RESTORE Reg.LAN_RESTORE_CNT [] (Nat.le_refl _) (.inr (by decide))).trans
    (rd_bump (s := w.mapCourse _) wf _ rfl (Nat.le_refl _))

theorem exec_plSleep (hw : w = s.atT i) (able : commandable w m .lan none) (act : w.lan.course.state = .active) :
    exec (.plSleep m i) s = .next ((w.sendCtrlFlit 3 [3]).mapCourse (fun c => { c with dormantReq := true })).done := by
  change Host.Outcome.next ((s.atT i).strobe m .lan none false State.plSleep) = _
  rw [← hw, strobe_of_commandable able, State.plSleep, if_pos act]

theorem exec_plWake (hw : w = s.atT i) (able : commandable w m .lan none) (dormant : w.lan.course.state = .dormant) :
    exec (.plWake m i) s = .next w.courseDetect.done := by
  change Host.Outcome.next ((s.atT i).strobe m .lan none false State.plWake) = _
  rw [← hw, strobe_of_commandable able, State.plWake, if_pos dormant]

theorem exec_plWakeDetect (hw : w = s.atT i) (dormant : w.lan.course.state = .dormant) : exec (.plWakeDetect i) s = .next w.courseDetect := by
  change execPlWakeDetect i s = _
  unfold execPlWakeDetect
  simp only [← hw, dormant, if_true]

/-- A DORMANT course that wakes keeps its queue. -/
theorem courseDetect_dormant (dormant : w.lan.course.state = .dormant) :
    w.courseDetect.lan.course.state = .detect ∧ w.courseDetect.lan.course.txQueue = w.lan.course.txQueue ∧ onlyParts [.lan] w w.courseDetect := by
  have idle : w.lan.course.state ≠ .active := by rw [dormant]; decide
  refine ⟨?_, ?_, only_courseDetect_idle idle⟩
  · rw [course_courseDetect idle]
    rfl
  · rw [course_courseDetect idle]
    rfl

/-- Settles O41: what enters a state of the course is written out once, and each command is one such entry with its own tests and counts. -/
theorem peerLinkComesUpAndFallsBack : Obligations.PeerLinkComesUpAndFallsBack := by
  intro t s w hw four wf
  have fitted (n : Nat) (low : n < 4) : n < w.lan.lanes.length := by rw [four]; exact low
  refine ⟨?_, ?_, ?_, ?_, ?_, ?_, ?_, ?_, ?_, ?_, ?_, ?_, ?_, ?_, ?_, ?_, ?_, ?_, ?_, ?_, ?_⟩
  · intro n lane probing unfound
    rw [exec_plDetectProbe hw lane probing unfound, ← or_some_eq]
    rfl
  · intro n lane act lost
    obtain ⟨apart, low, -⟩ := other_lane lane
    have here : ((w.laneTo n .train).mapLane n (fun l => { l with found := true })).lane n = { laneIn .train w.now (w.lane n) with found := true } := by
      rw [lane_mapLane (by rw [length_laneTo]; exact fitted n low), lane_laneTo (fitted n low)]
    refine ⟨_, exec_plDetectProbe_lost hw lane act lost, by rw [here]; rfl, by rw [here]; rfl, by rw [here], rfl, ?_,
      only_mapLane (only_laneTo only_refl (by decide)) (by decide)⟩
    rw [lane_mapLane_other apart, lane_laneTo_other apart]
  · intro a probing found due
    have idle : w.lan.course.state ≠ .active := by rw [probing]; decide
    have course := course_courseTrain idle
    refine ⟨_, exec_plTrainStart hw probing found due, by rw [course]; rfl, by rw [course]; rfl, ?_, only_courseTrain_idle idle⟩
    rw [List.all_eq_true]
    intro n mem
    have lane := lane_trainFound (s := w.mapCourse (courseIn .train w.now)) four mem
    rw [← courseTrain_idle idle] at lane
    rw [lane, lane_mapCourse]
    split
    · exact Bool.and_eq_true_iff.2 ⟨rfl, beq_self_eq_true _⟩
    · exact beq_self_eq_true _
  · intro n control status r k lane train alone plain taps low
    obtain ⟨-, fit, -⟩ := other_lane lane
    have heard := lane_frameHeard (w := w) four fit control status r
    have run : ((frameHeard w n control status r).lane n).readyRun = 0 := by
      rw [heard, heardLane, alone]
      rfl
    have state : ((frameHeard w n control status r).lane n).state = .train := by
      rw [heard]
      exact train
    obtain ⟨kept, eq, only⟩ := trainedLanes_unready (wf_frameHeard wf n control status r) (mem_courseLanes_of_plLane lane) state
      (by rw [LanLane.ready, run]; rfl)
    have after : (frameHeard w n control status r).trainedLanes.lane n = heardLane control status r (w.lane n) := kept.trans heard
    refine ⟨_, exec_plTrainingFrame hw lane train, ?_, by rw [kept, state], by rw [kept, run], by rw [after]; rfl, by rw [after]; rfl,
      by rw [after]; rfl, ?_, onlyParts_trans (only_frameHeard w n control status r) only⟩
    · rw [after]
      exact (getD_tapsAfter plain (by rw [taps]; exact low)).trans (tapStep_eq _ _)
    · rw [eq, after]
      refine (rd_wr (s := w.mapLane n _) wf (Reg.LAN_TXEQ n) rfl (Nat.le_refl _) _).trans (Nat.mod_eq_of_lt ?_)
      have short := leNat_lt (tapsAfter (w.lane n).taps control)
      rwa [length_tapsAfter plain, taps] at short
  · intro n control status lane train alone bit run tx
    obtain ⟨-, fit, -⟩ := other_lane lane
    have trains : (w.lane n).state = .train := (mem_lanesIn.1 (alone ▸ List.mem_singleton_self n)).2
    have heard := lane_frameHeard (w := w) four fit control status true
    have course := course_frameHeard w n control status true
    have ready : ((frameHeard w n control status true).lane n).ready = true := by
      rw [heard, LanLane.ready, heardLane, bit]
      simp
      omega
    have lanes : (frameHeard w n control status true).lanesIn .train = [n] := by
      rw [← alone]
      refine lanesIn_congr (fun k _ => ?_) _
      rw [frameHeard, lane_of_lan (wr_lan _ _ _)]
      exact state_mapLane (f := heardLane control status true) (fun _ => rfl) w n k
    have last := trainedLanes_last (by rw [course, train]) lanes ready
    refine ⟨_, (exec_plTrainingFrame hw lane trains).trans (congrArg _ last), ?_, ?_, ?_, onlyParts_trans (only_frameHeard w n control status true)
      (only_bump (only_laneTo (only_mapCourse only_refl (by decide)) (by decide)) (by decide))⟩
    · rw [laneLocks, bump_lan]
      rfl
    · rw [laneLocks, lane_of_lan (bump_lan _ _), lane_laneTo (by rw [length_mapCourse, length_frameHeard]; exact fitted n fit)]
      rfl
    · refine (rd_bump (s := ((frameHeard w n control status true).mapCourse _).laneTo n .lock) (wf_frameHeard wf n control status true) _ rfl
        (Nat.le_refl _)).trans ?_
      refine congrArg (fun x => min (x + 1) (2 ^ 32 - 1)) ?_
      exact rd_wr_other (s := w.mapLane n _) wf _ _ (Nat.le_refl _) (Nat.le_refl _)
        (.inr (by simp only [Reg.LAN_TRAIN_CNT, Reg.LAN_TXEQ]; omega)) _
  · intro train late
    obtain ⟨-, lan, only, count⟩ := failsCounted_words (nodup_lanesIn w .train) wf
    have idle : (failsCounted (w.lanesIn .train) w).lan.course.state ≠ .active := by rw [lan, train]; decide
    have four' : (failsCounted (w.lanesIn .train) w).lan.lanes.length = 4 := by rw [lan, four]
    refine ⟨_, exec_plTrainTimeout hw train late, by rw [course_courseDetect idle]; rfl, ?_,
      onlyParts_trans (onlyParts_mono only (by decide)) (onlyParts_mono (only_courseDetect_idle idle) (by decide))⟩
    rw [List.all_eq_true]
    intro n mem
    rw [lanes_courseDetect idle four' n mem, rd_of_regs (courseDetect_idle idle).regs]
    change (_ && (failsCounted (w.lanesIn .train) w).rd _ == _) = true
    rw [count]
    have low := rd_lt w (Reg.LAN_TRAIN_FAIL_CNT n)
    by_cases here : n ∈ w.lanesIn .train
    · rw [if_pos here, if_pos (mem_lanesIn.1 here).2]
      simp
    · rw [if_neg here, if_neg (fun st => here (mem_lanesIn.2 ⟨mem, st⟩))]
      have bound : w.rd (Reg.LAN_TRAIN_FAIL_CNT n) < 2 ^ 32 := low
      simp
      omega
  · intro n act alone late
    have mem := mem_lanesIn.1 (alone ▸ List.mem_singleton_self n)
    refine ⟨_, exec_plTrainTimeout_alone hw act alone late, by rw [bump_lan]; rfl, ?_, (rd_bump (s := w.laneTo n .lost) wf _ rfl (Nat.le_refl _)).trans rfl,
      only_bump (only_laneTo only_refl (by decide)) (by decide)⟩
    rw [lane_of_lan (bump_lan _ _), lane_laneTo (fitted n (courseLanes_low mem.1))]
    rfl
  · intro n flags k c lane course alone run low
    have lock : (w.lane n).state = .lock := (mem_lanesIn.1 (alone ▸ List.mem_singleton_self n)).2
    obtain ⟨here, link, lanes⟩ := spareHeard_lan (w := w) four (other_lane lane).2.1 flags k c
    obtain ⟨state, kept, regs, only⟩ := lockedCourse_lan (s := spareHeard w n flags k c) (by rw [link]; exact course) (by rw [lanes, alone])
      (by rw [here]; simp; omega)
    refine ⟨_, exec_plCodeword_lock hw lane lock, by rw [state, link], ?_, ?_, ?_, ?_, onlyParts_trans (only_spareHeard w n flags k c)
      (onlyParts_mono only (by decide))⟩
    · rw [kept, here]
      simp
      omega
    · rw [kept, here]
      exact Nat.mod_eq_of_lt low
    · rw [kept, here]
      rfl
    · rw [rd_of_regs regs, rd_corr wf]
  · intro n k c lane course act run alive
    obtain ⟨apart, low, -⟩ := other_lane lane
    obtain ⟨link, length, other⟩ := badHeard_lan (k := k) (j := 0) lane
    have wf' : storeWf (badHeard w n k 0).regs.live = true := wf_bump wf _
    have lost := laneLost_degrades (s := badHeard w n k 0) (j := 5 - n) (by rw [link]; exact course) (mem_courseLanes_of_plLane lane)
      (by rcases plLane_iff lane with rfl | rfl <;> decide) apart (by rw [other]; exact alive)
    obtain ⟨left, state, there, -, degrade, only⟩ := laneLost_leaves (s := badHeard w n k 0) (j := 5 - n) wf' (by rw [length, four]) low apart
    refine ⟨_, (exec_plCodeword_bad hw lane four course act run).trans (congrArg _ lost), ?_, state, ?_, ?_, ?_, there.trans other, ?_, ?_,
      onlyParts_trans (only_badHeard w n k 0) only⟩
    · rw [left, link]
      exact course
    · rw [left, link]
    · rw [left, link]
    · rw [left, link]
    · rw [(liveIn_degraded _).rd ((liveIn_lossSeen _ n).wf wf') rfl (Nat.le_refl _)
        (by simp only [Reg.LAN_UNCORR_CNT, List.mem_cons, List.not_mem_nil, or_false]; omega), (liveIn_lossSeen _ n).rd wf' rfl (Nat.le_refl _)
        (by simp only [Reg.LAN_UNCORR_CNT, Reg.LAN_LOCK_LOSS_CNT, List.mem_cons, List.not_mem_nil, or_false]; omega)]
      exact rd_bump wf _ rfl (Nat.le_refl _)
    · rw [degrade]
      refine congrArg (fun x => min (x + 1) (2 ^ 32 - 1)) ?_
      exact rd_wr_other wf _ _ (Nat.le_refl _) (Nat.le_refl _) (.inr (by simp only [Reg.LAN_DEGRADE_CNT, Reg.LAN_UNCORR_CNT]; omega)) _
  · intro lock late
    have idle : w.lan.course.state ≠ .active := by rw [lock]; decide
    have course := course_courseTrain idle
    exact ⟨_, exec_plLockTimeout hw lock late, by rw [course]; rfl, by rw [course]; rfl, only_courseTrain_idle idle⟩
  · intro caps rx sent
    have waits := capsDone_waits (s := (w.sendCtrlFlit 3 w.capsBytes).mapCourse (fun c => { c with capsSentAcked := c.capsSentAcked || c.capsRx }))
      (.inr (by
        change (w.lan.course.capsSentAcked || w.lan.course.capsRx) = false
        rw [sent, rx]
        rfl))
    refine ⟨_, (exec_plCapsSend hw caps).trans (congrArg _ waits), caps, rfl, ?_, only_mapCourse (only_mapCourse only_refl (by decide)) (by decide)⟩
    refine (ctrlTx_sendCtrlFlit w 3 w.capsBytes).trans ?_
    rw [State.capsBytes, rx, if_neg Bool.false_ne_true, List.append_assoc _ (leBytes 1 0) (leBytes 1 0)]
    rfl
  · intro caps rx acked
    obtain ⟨v, done, moved⟩ := capsDone_active
      (s := (w.sendCtrlFlit 3 w.capsBytes).mapCourse (fun c => { c with capsSentAcked := c.capsSentAcked || c.capsRx })) caps acked (by
        change (w.lan.course.capsSentAcked || w.lan.course.capsRx) = true
        rw [rx, Bool.or_true])
    refine ⟨_, (exec_plCapsSend hw caps).trans (congrArg _ done), ?_, ?_, ?_, ?_, only_event (only_mapCourse (onlyParts_trans
      (only_mapCourse (only_mapCourse (only_mapCourse only_refl (by decide)) (by decide)) (by decide)) (onlyParts_mono moved.only (by decide)))
      (by decide)) (by decide)⟩
    · rw [event_lan]
      exact congrArg Course.state moved.course
    · rw [event_lan]
      rfl
    · have kept := congrArg Course.retry moved.course
      rw [event_lan]
      exact kept
    · rw [List.all_eq_true]
      intro n mem
      rw [lane_of_lan (event_lan _ _), lane_mapCourse, (moved.entered n mem (fitted n (courseLanes_low (mem_lanesIn.1 mem).1))).1]
      rfl
  · intro f caps ok type top first version
    have moved := lanesMoved courseLanes .off ((w.mapCourse (fun c => { c with rxQuiet := false })).mapCourse (courseIn .down w.now))
    refine ⟨_, (exec_plFlitReceive_caps hw caps ok type top).trans (congrArg _ (ctrlFlit_version caps first version)), ?_, ?_, ?_, ?_,
      only_event (only_mapCourse (onlyParts_trans (only_mapCourse (only_mapCourse only_refl (by decide)) (by decide))
        (onlyParts_mono moved.only (by decide))) (by decide)) (by decide)⟩
    · rw [refused, event_lan]
      exact congrArg Course.state moved.course
    · rw [refused, event_lan]
      rfl
    · rw [refused, event_lan]
      exact congrArg Course.since moved.course
    · rw [List.all_eq_true]
      intro n mem
      rw [refused, lane_of_lan (event_lan _ _), lane_mapCourse]
      exact beq_iff_eq.2 (moved.entered n mem (fitted n (courseLanes_low mem))).1
  · intro caps late
    have idle : w.lan.course.state ≠ .active := by rw [caps]; decide
    refine ⟨_, exec_plCapsTimeout hw caps late, by rw [course_courseDetect idle]; rfl, ?_, only_courseDetect_idle idle⟩
    rw [List.all_eq_true]
    intro n mem
    exact beq_iff_eq.2 (lanes_courseDetect idle four n mem)
  · intro hold down late on
    have idle : (w.mapCourse (fun c => { c with hold := false })).lan.course.state ≠ .active := by
      change w.lan.course.state ≠ .active
      rw [down]
      decide
    have starts := courseFollow_starts (s := w.mapCourse (fun c => { c with hold := false })) on down rfl
    refine ⟨_, (exec_plDownHoldEnd hw hold late).trans (congrArg _ starts), by rw [course_courseDetect idle]; rfl, by rw [course_courseDetect idle]; rfl,
      onlyParts_trans (only_mapCourse only_refl (by decide)) (only_courseDetect_idle idle)⟩
  · intro n lane course loud act alive
    obtain ⟨apart, low, -⟩ := other_lane lane
    have lost := laneLost_degrades (j := 5 - n) course (mem_courseLanes_of_plLane lane) (by rcases plLane_iff lane with rfl | rfl <;> decide) apart alive
    obtain ⟨left, state, -, loss, -, only⟩ := laneLost_leaves (j := 5 - n) wf four low apart
    exact ⟨_, (exec_plLaneLost hw lane course loud act).trans (congrArg _ lost), by rw [left]; exact course, state, by rw [left], by rw [left], loss, only⟩
  · intro n lane course loud act other unused
    exact ⟨_, exec_plLaneLost hw lane course loud act, laneLost_last course lane four other unused⟩
  · intro n act one rx lock peer
    have mem := mem_lanesIn.1 (lock ▸ List.mem_singleton_self n)
    have lan := lan_restored w
    refine ⟨_, exec_plWidthRestore hw act one rx lock peer, congrArg Lan.course lan, ?_, rd_restored wf, only_laneTo (only_event (only_bump
      (only_mapCourse only_refl (by decide)) (by decide)) (by decide)) (by decide)⟩
    rw [lane_laneTo (by rw [lan]; exact fitted n (courseLanes_low mem.1))]
    rfl
  · intro m able act
    refine ⟨_, exec_plSleep hw able act, rfl, act, ctrlTx_sendCtrlFlit w 3 [3], only_done (only_mapCourse (only_mapCourse only_refl (by decide))
      (by decide)) (by decide)⟩
  · intro m able dormant
    obtain ⟨state, queue, only⟩ := courseDetect_dormant dormant
    exact ⟨_, exec_plWake hw able dormant, state, queue, only_done (onlyParts_mono only (by decide)) (by decide)⟩
  · intro dormant
    exact ⟨_, exec_plWakeDetect hw dormant, courseDetect_dormant dormant⟩

end Sys2Proof.Proofs
end

section
/-! The Peer Link's flits (R413 to R419, R422, R423): what is sent, what is taken, and what is replayed. -/

namespace Sys2Proof.Proofs

open Sys2Proof Sys2Proof.Machine Sys2Proof.Safety Sys2Proof.Laws

variable {s t u v w : State} {i : Instant} {n : Nat} {f : RxFlit}

/-! ### Flits that are sent (R413, R417, R418) -/

/-- A course that sends a flit which leaves QUIET and returns what is owed. -/
def returning (now : Nat) (c : Course) : Course :=
  { c with ackOwed := false, crdOwed := c.crdOwed - min 15 c.crdOwed, busyAt := now, txQuiet := false }

theorem exec_plFlitSend_replay (hw : w = s.atT i) (act : w.lan.course.state = .active) (left : w.lan.course.replayLeft ≠ 0)
    (loud : w.lan.course.txQuiet = false) :
    exec (.plFlitSend i) s = .next ((w.bump Reg.LAN_REPLAY_CNT).mapCourse (fun c => { returning w.now c with replayLeft := c.replayLeft - 1 })) := by
  change execPlFlitSend i s = _
  unfold execPlFlitSend
  simp only [← hw, act, left, loud, ne_eq, not_true_eq_false, not_false_eq_true, if_false, if_true, Bool.false_eq_true]
  rfl

/-- A sender has nothing to send as DATA, or may not. -/
theorem exec_plFlitSend_idle (hw : w = s.atT i) (act : w.lan.course.state = .active) (left : w.lan.course.replayLeft = 0)
    (held : w.lan.course.txQueue = [] ∨ w.lan.course.credits = 0 ∨ 512 ≤ w.lan.course.retry.length) (loud : w.lan.course.txQuiet = false) :
    exec (.plFlitSend i) s = .next (w.sendCtrlFlit 0 []) := by
  have blocked : (!w.lan.course.txQueue.isEmpty && decide (w.lan.course.credits ≠ 0) && decide (w.lan.course.retry.length < 512)) = false := by
    rcases held with h | h | h
    · simp [h]
    · simp [h]
    · simp [Nat.not_lt.2 h]
  change execPlFlitSend i s = _
  unfold execPlFlitSend
  simp only [← hw, act, left, loud, blocked, ne_eq, not_true_eq_false, if_false, Bool.false_eq_true]

/-- A sender within its credits and its retry buffer packs the waiting packets. -/
theorem exec_plFlitSend_data (hw : w = s.atT i) (act : w.lan.course.state = .active) (left : w.lan.course.replayLeft = 0)
    (waits : w.lan.course.txQueue ≠ []) (credit : w.lan.course.credits ≠ 0) (room : w.lan.course.retry.length < 512) :
    ∃ woken, (woken = w ∨ woken = (w.lanesIn .quiet).foldl (fun s n => s.laneTo n .active) w) ∧
      exec (.plFlitSend i) s = .next ((woken.bump Reg.LAN_TX_DATA_CNT).mapCourse (fun c => { returning w.now c with
        retry := c.retry ++ [{ seq := c.nextTx, segs := (packSegs 80 240 w.lan.course.txQueue w.lan.course.txStarted).1 }]
        nextTx := (c.nextTx + 1) % 4096, credits := c.credits - 1
        txQueue := (packSegs 80 240 w.lan.course.txQueue w.lan.course.txStarted).2.1
        txStarted := (packSegs 80 240 w.lan.course.txQueue w.lan.course.txStarted).2.2
        ackAt := if c.retry.isEmpty then w.now else c.ackAt })) := by
  refine ⟨if w.lan.course.txQuiet then (w.lanesIn .quiet).foldl (fun s n => s.laneTo n .active) w else w, ?_, ?_⟩
  · split
    · exact .inr rfl
    · exact .inl rfl
  · change execPlFlitSend i s = _
    unfold execPlFlitSend
    simp only [← hw, act, left, credit, room, List.isEmpty_eq_false_iff.2 waits, ne_eq, not_true_eq_false, not_false_eq_true, if_false, if_true,
      Bool.not_false, decide_true, Bool.and_self]
    rfl

/-- A packet of 235 bytes or fewer goes whole into one flit. -/
theorem packSegs_one {p : List Byte} (short : p.length ≤ 235) : packSegs 80 240 [p] false = ([(p, true, true, 0)], [], false) := by
  have all : min 238 (min 238 p.length) = p.length := by omega
  have fits : ¬ (240 : Nat) < 3 := by decide
  have rest (k : Nat) : packSegs 79 k [] false = ([], [], false) := by simp [packSegs]
  rw [packSegs]
  dsimp only
  rw [if_neg fits, all, List.take_length, if_pos (by simp), decide_eq_true rfl, Bool.not_true, rest]
  rfl

/-! ### Flits that are taken (R413, R414, R418) -/

/-- The state with a good flit's header taken in ACTIVE. -/
def headTaken (w : State) (f : RxFlit) : State := (w.mapCourse (fun c => { c with rxQuiet := false })).takeAck f.ack f.crd

theorem exec_plFlitReceive_bad (hw : w = s.atT i) (act : w.lan.course.state = .active) (bad : f.ok = false ∨ 4 ≤ f.type ∨ f.top = true) :
    exec (.plFlitReceive f i) s = .next (w.bump Reg.LAN_CRC_CNT).nak := by
  have draws : (!f.ok || decide (4 ≤ f.type) || f.top) = true := by
    rcases bad with h | h | h
    · simp [h]
    · simp [h]
    · simp [h]
  change execPlFlitReceive f i s = _
  unfold execPlFlitReceive
  simp only [← hw, act, draws, if_true, decide_true, Bool.or_true, Bool.not_true, Bool.false_eq_true, if_false]

/-- What a good flit does, by its type. -/
def goodFlit (s : State) (f : RxFlit) : State :=
  match f.type with
  | 1 => s.dataFlit f
  | 2 => s.replay
  | 3 => s.ctrlFlit f.payload
  | _ => s

theorem exec_plFlitReceive_good (hw : w = s.atT i) (act : w.lan.course.state = .active) (ok : f.ok = true) (top : f.top = false) (low : f.type < 4) :
    exec (.plFlitReceive f i) s = .next (goodFlit (headTaken w f) f) := by
  have good : (!f.ok || decide (4 ≤ f.type) || f.top) = false := by simp [ok, top, low]
  change execPlFlitReceive f i s = _
  unfold execPlFlitReceive goodFlit
  simp only [← hw, act, good, if_true, decide_true, Bool.or_true, Bool.not_true, Bool.false_eq_true, if_false]
  generalize f.type = k
  rcases k with _ | _ | _ | _ | k <;> rfl

theorem exec_plFlitReceive_data (hw : w = s.atT i) (act : w.lan.course.state = .active) (ok : f.ok = true) (top : f.top = false) (type : f.type = 1) :
    exec (.plFlitReceive f i) s = .next ((headTaken w f).dataFlit f) := by
  rw [exec_plFlitReceive_good hw act ok top (by rw [type]; decide), goodFlit, type]
  rfl

theorem exec_plFlitReceive_nak (hw : w = s.atT i) (act : w.lan.course.state = .active) (ok : f.ok = true) (top : f.top = false) (type : f.type = 2) :
    exec (.plFlitReceive f i) s = .next (headTaken w f).replay := by
  rw [exec_plFlitReceive_good hw act ok top (by rw [type]; decide), goodFlit, type]
  rfl

theorem exec_plFlitReceive_ctrl (hw : w = s.atT i) (act : w.lan.course.state = .active) (ok : f.ok = true) (top : f.top = false) (type : f.type = 3) :
    exec (.plFlitReceive f i) s = .next ((headTaken w f).ctrlFlit f.payload) := by
  rw [exec_plFlitReceive_good hw act ok top (by rw [type]; decide), goodFlit, type]
  rfl

theorem exec_plFlitReceive_idle (hw : w = s.atT i) (act : w.lan.course.state = .active) (ok : f.ok = true) (top : f.top = false) (type : f.type = 0) :
    exec (.plFlitReceive f i) s = .next (headTaken w f) := by
  rw [exec_plFlitReceive_good hw act ok top (by rw [type]; decide), goodFlit, type]
  rfl

theorem rd_mapCourse (s : State) (g : Course → Course) (x : Field) : (s.mapCourse g).rd x = s.rd x := rfl

theorem course_mapCourse (s : State) (g : Course → Course) : (s.mapCourse g).lan.course = g s.lan.course := rfl

theorem nak_sends (act : s.lan.course.state = .active) (first : s.lan.course.nakSent = false) :
    s.nak = ((s.sendCtrlFlit 2 []).bump Reg.LAN_NAK_CNT).mapCourse (fun c => { c with nakSent := true }) := by
  rw [State.nak, if_neg (by simp [act, first])]

theorem nak_once (sent : s.lan.course.nakSent = true) : s.nak = s := by
  rw [State.nak, if_pos (by rw [sent, Bool.true_or])]

/-- What the first NAK leaves. -/
theorem nak_leaves (wf : storeWf s.regs.live = true) (act : s.lan.course.state = .active) (first : s.lan.course.nakSent = false) :
    s.nak.lan.course.nakSent = true ∧ s.nak.lan.course.nextRx = s.lan.course.nextRx
      ∧ s.nak.lan.course.ctrlTx.getLast? = some (2, (s.lan.course.nextRx + 4095) % 4096, [])
      ∧ s.nak.rd Reg.LAN_NAK_CNT = min (s.rd Reg.LAN_NAK_CNT + 1) (2 ^ 32 - 1) ∧ LiveIn [0x400088] s s.nak ∧ onlyParts [.lan, .regs] s s.nak := by
  have lan : ((s.sendCtrlFlit 2 []).bump Reg.LAN_NAK_CNT).lan = (s.sendCtrlFlit 2 []).lan := bump_lan _ _
  have counted : ((s.sendCtrlFlit 2 []).bump Reg.LAN_NAK_CNT).rd Reg.LAN_NAK_CNT = min (s.rd Reg.LAN_NAK_CNT + 1) (2 ^ 32 - 1) :=
    rd_bump (s := s.sendCtrlFlit 2 []) wf _ rfl (Nat.le_refl _)
  have live : LiveIn [0x400088] s ((s.sendCtrlFlit 2 []).bump Reg.LAN_NAK_CNT) :=
    (LiveIn.refl.of_live (s := s) (v := s.sendCtrlFlit 2 []) rfl).wr Reg.LAN_NAK_CNT _
  rw [nak_sends act first]
  have expected : ((s.sendCtrlFlit 2 []).bump Reg.LAN_NAK_CNT).lan.course.nextRx = s.lan.course.nextRx := by
    rw [lan]
    rfl
  have queued : ((s.sendCtrlFlit 2 []).bump Reg.LAN_NAK_CNT).lan.course.ctrlTx.getLast? = some (2, (s.lan.course.nextRx + 4095) % 4096, []) :=
    (congrArg (fun l : Lan => l.course.ctrlTx.getLast?) lan).trans (ctrlTx_sendCtrlFlit s 2 [])
  refine ⟨rfl, expected, queued, counted, live.of_live rfl, only_mapCourse (only_bump (only_mapCourse only_refl (by decide)) (by decide)) (by decide)⟩

theorem headTaken_course (w : State) (f : RxFlit) : (headTaken w f).lan.course.state = w.lan.course.state
    ∧ (headTaken w f).lan.course.nextRx = w.lan.course.nextRx ∧ (headTaken w f).lan.course.nakSent = w.lan.course.nakSent
    ∧ (headTaken w f).lan.course.ctrlTx = w.lan.course.ctrlTx ∧ (headTaken w f).lan.course.rxPartial = w.lan.course.rxPartial
    ∧ (headTaken w f).lan.course.crdOwed = w.lan.course.crdOwed ∧ (headTaken w f).lan.course.credits = w.lan.course.credits + f.crd
    ∧ (headTaken w f).lan.course.rxQuiet = false ∧ (headTaken w f).regs = w.regs
    ∧ (headTaken w f).lan.course.retry = w.lan.course.retry.filter (fun x => decide ((x.seq + 4096 - (f.ack + 1)) % 4096 < 2048)) :=
  ⟨rfl, rfl, rfl, rfl, rfl, rfl, rfl, rfl, rfl, rfl⟩

theorem only_headTaken (w : State) (f : RxFlit) : onlyParts [.lan] w (headTaken w f) :=
  only_mapCourse (only_mapCourse only_refl (by decide)) (by decide)

/-- The expected DATA flit is accepted. -/
def dataAccepted (s : State) : State :=
  (s.bump Reg.LAN_RX_DATA_CNT).mapCourse (fun c =>
    { c with nextRx := (c.nextRx + 1) % 4096, nakSent := false, ackOwed := true, crdOwed := c.crdOwed + 1 })

theorem dataFlit_expected {gs : List (List Byte × Bool × Bool × Nat)} (act : s.lan.course.state = .active) (next : f.seq = s.lan.course.nextRx)
    (read : readSegs 121 f.payload = some gs) : s.dataFlit f = gs.foldl (fun s g => s.takeSegment g) (dataAccepted s) := by
  rw [State.dataFlit]
  dsimp only
  rw [if_neg (by simp [act]), if_pos next, read]
  rfl

theorem dataFlit_again (act : s.lan.course.state = .active) (other : f.seq ≠ s.lan.course.nextRx)
    (old : (s.lan.course.nextRx + 4095 - f.seq) % 4096 < 2048) : s.dataFlit f = s.mapCourse (fun c => { c with ackOwed := true }) := by
  rw [State.dataFlit]
  dsimp only
  rw [if_neg (by simp [act]), if_neg other, if_pos old]

theorem dataFlit_early (act : s.lan.course.state = .active) (other : f.seq ≠ s.lan.course.nextRx)
    (early : 2048 ≤ (s.lan.course.nextRx + 4095 - f.seq) % 4096) : s.dataFlit f = s.nak := by
  rw [State.dataFlit]
  dsimp only
  rw [if_neg (by simp [act]), if_neg other, if_neg (Nat.not_lt.2 early)]

/-- The segment that begins a packet is kept until the packet ends. -/
theorem takeSegment_begins {bs : List Byte} (none_ : s.lan.course.rxPartial = none) (short : bs.length ≤ 238) :
    s.takeSegment (bs, true, false, 0) = s.mapCourse (fun c => { c with rxPartial := some bs }) := by
  have whole : [] ++ bs = bs := List.nil_append bs
  rw [State.takeSegment, none_]
  dsimp only
  rw [if_neg (by simp), Option.getD_none, whole, if_neg (by omega), if_neg Bool.false_ne_true]

/-- The payload of one segment that begins a packet. -/
theorem readSegs_begin {bs : List Byte} (some_ : bs ≠ []) (short : bs.length ≤ 238) :
    readSegs 121 (leBytes 2 (bs.length + 2048) ++ bs ++ List.replicate (238 - bs.length) 0) = some [(bs, true, false, 0)] := by
  have wire : segWire [(bs, true, false, 0)] = leBytes 2 (bs.length + 2048) ++ bs := by simp [segWire]
  rw [← wire]
  refine readSegs_segWire _ (fun g mem => ?_) (Nat.le_of_ble_eq_true rfl)
  rw [List.mem_singleton.1 mem]
  exact ⟨List.length_pos_iff.2 some_, short, rfl⟩

/-! ### Replays (R417, R418) -/

theorem replay_again (few : s.lan.course.replays < 16) :
    s.replay = s.mapCourse (fun c => { c with replayLeft := c.retry.length, replays := c.replays + 1, ackAt := s.now }) := by
  rw [State.replay, if_neg (Nat.not_le.2 few)]
  rfl

theorem exec_plReplayTimeout (hw : w = s.atT i) (act : w.lan.course.state = .active) (unacked : w.lan.course.retry ≠ [])
    (late : w.lan.course.ackAt + 4 * us ≤ w.now) : exec (.plReplayTimeout i) s = .next w.replay := by
  change execPlReplayTimeout i s = _
  unfold execPlReplayTimeout
  simp only [← hw, act, late, List.isEmpty_eq_false_iff.2 unacked, decide_true, Bool.not_false, Bool.and_self, if_true]

/-- The exhausted replays are counted and reported. -/
def replaysExhausted (s : State) : State := (s.bump Reg.LAN_RETRY_EXH_CNT).event [Reg.LAN_STAT_RETRY_EXH]

/-- The course leaves ACTIVE for TRAIN with its replays exhausted. -/
def retrains (s : State) : State := ((replaysExhausted s).mapCourse (courseIn .train s.now)).event [Reg.LAN_STAT_PL_LEFT]

/-- After 16 replays the course trains again with its retry buffer kept. -/
theorem replay_exhausted (act : s.lan.course.state = .active) (many : 16 ≤ s.lan.course.replays) (unused : pathUnused s 4) :
    s.replay = (trainFound (retrains s)).mapCourse (fun c =>
      { c with replays := 0, replayLeft := 0 }) := by
  have lan : (replaysExhausted s).lan = s.lan := by rw [replaysExhausted, event_lan, bump_lan]
  have now : (replaysExhausted s).now = s.now := by rw [replaysExhausted, event_now, bump_now]
  have kpe : (replaysExhausted s).kpe = s.kpe := by rw [replaysExhausted, event_kpe, bump_kpe]
  have leaves := courseTo_leaves (s := replaysExhausted s) (st := .train) (by rw [lan, act]) (by decide) (by rw [pathUnused, kpe]; exact unused)
  have train : (replaysExhausted s).courseTrain = trainFound ((replaysExhausted s).courseTo .train) := rfl
  rw [State.replay, if_pos many]
  change (replaysExhausted s).courseTrain.mapCourse _ = _
  rw [train, leaves, now, retrains]

/-- What exhausted replays leave. -/
theorem exec_plReplayTimeout_exhausted (hw : w = s.atT i) (wf : storeWf w.regs.live = true) (act : w.lan.course.state = .active)
    (unacked : w.lan.course.retry ≠ []) (late : w.lan.course.ackAt + 4 * us ≤ w.now) (many : 16 ≤ w.lan.course.replays) (unused : pathUnused w 4) :
    ∃ v, exec (.plReplayTimeout i) s = .next v ∧ v.lan.course.state = .train ∧ v.lan.course.retry = w.lan.course.retry ∧ v.lan.course.replays = 0
      ∧ v.rd Reg.LAN_RETRY_EXH_CNT = min (w.rd Reg.LAN_RETRY_EXH_CNT + 1) (2 ^ 32 - 1) ∧ onlyParts [.lan, .regs] w v := by
  have wf' : storeWf (replaysExhausted w).regs.live = true := wf_event (wf_bump wf _) _
  have counted : (replaysExhausted w).rd Reg.LAN_RETRY_EXH_CNT = min (w.rd Reg.LAN_RETRY_EXH_CNT + 1) (2 ^ 32 - 1) :=
    (rd_event_other (wf_bump wf _) _ _ _ (Nat.le_refl _) (.inr (by decide))).trans (rd_bump wf _ rfl (Nat.le_refl _))
  have course : (retrains w).lan.course = courseIn .train w.now w.lan.course := by
    rw [retrains, event_lan, course_mapCourse, replaysExhausted, event_lan, bump_lan]
  have link := (trainFound_course (retrains w)).trans course
  have regs : (trainFound (retrains w)).regs = (retrains w).regs := trainFound_only _ .regs (by decide)
  have kept : (retrains w).rd Reg.LAN_RETRY_EXH_CNT = (replaysExhausted w).rd Reg.LAN_RETRY_EXH_CNT :=
    rd_event_other (s := (replaysExhausted w).mapCourse _) wf' _ _ _ (Nat.le_refl _) (.inr (by decide))
  refine ⟨_, (exec_plReplayTimeout hw act unacked late).trans (congrArg _ (replay_exhausted act many unused)), ?_, ?_, rfl, ?_, ?_⟩
  · rw [course_mapCourse, link]
    rfl
  · rw [course_mapCourse, link]
    rfl
  · rw [rd_mapCourse, rd_of_regs regs, kept, counted]
  · exact only_mapCourse (onlyParts_trans (only_event (only_mapCourse (only_event (only_bump only_refl (by decide)) (by decide)) (by decide)) (by decide))
      (onlyParts_mono (trainFound_only _) (by decide))) (by decide)

/-! ### QUIET and DORMANT (R422, R423) -/

/-- The state with QUIET sent. -/
def quietSent (w : State) : State := (w.sendCtrlFlit 3 [2]).mapCourse (fun c => { c with txQuiet := true })

theorem exec_plQuietEntry (hw : w = s.atT i) (act : w.lan.course.state = .active) (on : w.on Reg.LAN_PL_CTL_QUIET_EN = true)
    (loud : w.lan.course.txQuiet = false) (acked : w.lan.course.retry = []) (none_ : w.lan.course.txQueue = []) (owed : w.lan.course.ackOwed = false)
    (long : w.lan.course.busyAt + max 1 (w.rd Reg.LAN_PL_CTL_QUIET_US) * us ≤ w.now) :
    exec (.plQuietEntry i) s = .next (((quietSent w).lanesIn .active).foldl (fun s n => s.laneTo n .quiet) (quietSent w)) := by
  change execPlQuietEntry i s = _
  unfold execPlQuietEntry
  simp only [← hw, act, on, loud, acked, none_, owed, long, decide_true, Bool.not_false, Bool.and_self, if_true, List.isEmpty_nil]
  rfl

/-- DORMANT_REQ is agreed to where it may be. -/
theorem ctrlFlit_dormant {p : List Byte} (act : s.lan.course.state = .active) (first : p.getD 0 0 = 3) (may : s.on Reg.LAN_PL_CTL_DORMANT_OK = true)
    (acked : s.lan.course.retry = []) : s.ctrlFlit p = (s.sendCtrlFlit 3 [4]).courseDormant := by
  have head : (p.headD 0).toNat = 3 := by
    have same : p.headD 0 = p.getD 0 0 := by cases p <;> rfl
    rw [same, first]
    rfl
  rw [State.ctrlFlit, head]
  exact (if_neg (by simp [act])).trans (if_pos (by rw [may, acked]; rfl))

/-- Both ends agree: the course and its lanes are DORMANT. -/
theorem courseDormant_leaves (act : s.lan.course.state = .active) (unused : pathUnused s 4) :
    LanesMoved courseLanes .dormant ((s.mapCourse (courseIn .dormant s.now)).event [Reg.LAN_STAT_PL_LEFT]) s.courseDormant := by
  rw [State.courseDormant, courseTo_leaves act (by decide) unused]
  exact lanesMoved _ _ _

/-- Settles O42: every flit that is sent or taken is one change of the course, written out, and what a segment, a NAK and a replay add to it. -/
theorem peerLinkCarriesFlits : Obligations.PeerLinkCarriesFlits := by
  rintro t s w c hw four rfl wf
  refine ⟨?_, ?_, ?_, ?_, ?_, ?_, ?_, ?_, ?_, ?_, ?_, ?_, ?_, ?_⟩
  · intro act left loud
    have lan : (w.bump Reg.LAN_REPLAY_CNT).lan = w.lan := bump_lan _ _
    have sent : ((w.bump Reg.LAN_REPLAY_CNT).mapCourse (fun c => { returning w.now c with replayLeft := c.replayLeft - 1 })).lan.course
        = { returning w.now w.lan.course with replayLeft := w.lan.course.replayLeft - 1 } := by
      rw [course_mapCourse, lan]
    refine ⟨_, exec_plFlitSend_replay hw act left loud, by rw [sent], by rw [sent]; rfl, by rw [sent]; rfl, by rw [sent]; rfl,
      rd_counted wf rfl (Nat.le_refl _) rfl, only_mapCourse (only_bump only_refl (by decide)) (by decide)⟩
  · rintro p r act left queue begun some_ short rfl credit room
    obtain ⟨woken, wake, sent⟩ := exec_plFlitSend_data hw act left (by rw [queue]; exact List.cons_ne_nil _ _) credit room
    have woke : woken.lan.course = w.lan.course ∧ woken.regs = w.regs ∧ onlyParts [.lan] w woken := by
      rcases wake with rfl | rfl
      · exact ⟨rfl, rfl, only_refl⟩
      · have moved := lanesMoved (w.lanesIn .quiet) .active w
        exact ⟨moved.course, moved.regs, moved.only⟩
    obtain ⟨course, regs, only⟩ := woke
    have same : (woken.bump Reg.LAN_TX_DATA_CNT).lan.course = w.lan.course := by rw [bump_lan, course]
    rw [queue, begun, packSegs_one short] at sent
    refine ⟨_, sent, ?_, ?_, ?_, rfl, rfl, ?_, only_mapCourse (only_bump (onlyParts_mono only (by decide)) (by decide)) (by decide)⟩
    · exact congrArg (fun c : Course => c.retry ++ [{ seq := c.nextTx, segs := [(p, true, true, 0)] }]) same
    · exact congrArg (fun c : Course => (c.nextTx + 1) % 4096) same
    · exact congrArg (fun c : Course => c.credits - 1) same
    · refine (rd_counted (w := woken) (by rw [regs]; exact wf) rfl (Nat.le_refl _) rfl).trans ?_
      rw [rd_of_regs regs]
      rfl
  · intro act left held loud
    exact ⟨_, exec_plFlitSend_idle hw act left held loud, ctrlTx_sendCtrlFlit w 0 [], rfl, rfl, rfl, only_mapCourse only_refl (by decide)⟩
  · intro f act bad first
    have wf' := wf_bump wf Reg.LAN_CRC_CNT
    have lan : (w.bump Reg.LAN_CRC_CNT).lan = w.lan := bump_lan _ _
    obtain ⟨sent, expected, queued, count, live, only⟩ := nak_leaves wf' (by rw [lan]; exact act) (by rw [lan]; exact first)
    refine ⟨_, exec_plFlitReceive_bad hw act bad, sent, by rw [expected, lan], by rw [queued, lan], ?_, ?_,
      onlyParts_trans (only_bump only_refl (by decide)) only⟩
    · rw [live.rd wf' rfl (Nat.le_refl _) (by decide)]
      exact rd_bump wf _ rfl (Nat.le_refl _)
    · rw [count, State.bump, State.bumpBy, rd_wr_other wf _ _ (Nat.le_refl _) (Nat.le_refl _) (.inr (by decide))]
  · intro f act bad sent
    rw [exec_plFlitReceive_bad hw act bad, nak_once (by rw [bump_lan]; exact sent)]
  · intro f bs act ok type top seq ack acked none_ some_ short payload
    obtain ⟨state, next, -, -, partial_, crd, credits, -, regs, -⟩ := headTaken_course w f
    have lan : ((headTaken w f).bump Reg.LAN_RX_DATA_CNT).lan = (headTaken w f).lan := bump_lan _ _
    have accepted : (dataAccepted (headTaken w f)).lan.course = { (headTaken w f).lan.course with
        nextRx := ((headTaken w f).lan.course.nextRx + 1) % 4096, nakSent := false, ackOwed := true
        crdOwed := (headTaken w f).lan.course.crdOwed + 1 } := by
      rw [← lan]
      rfl
    have read : (headTaken w f).dataFlit f = (dataAccepted (headTaken w f)).mapCourse (fun c => { c with rxPartial := some bs }) := by
      rw [dataFlit_expected (by rw [state, act]) (by rw [next, seq]) (by rw [payload]; exact readSegs_begin some_ short), List.foldl_cons, List.foldl_nil,
        takeSegment_begins (by rw [accepted]; exact partial_.trans none_) short]
    refine ⟨_, (exec_plFlitReceive_data hw act ok top type).trans (congrArg _ read), ?_, rfl, ?_, ?_, ?_, ?_, ?_, only_mapCourse (only_mapCourse (only_bump
      (onlyParts_mono (only_headTaken w f) (by decide)) (by decide)) (by decide)) (by decide)⟩
    · exact (congrArg Course.nextRx accepted).trans (by rw [next])
    · exact (congrArg Course.credits accepted).trans credits
    · exact congrArg Course.nakSent accepted
    · exact congrArg Course.ackOwed accepted
    · exact (congrArg Course.crdOwed accepted).trans (by rw [crd])
    · refine (rd_counted (w := headTaken w f) wf rfl (Nat.le_refl _) rfl).trans ?_
      rw [rd_of_regs regs]
      rfl
  · intro f act ok type top other old
    exact ⟨_, (exec_plFlitReceive_data hw act ok top type).trans (congrArg _ (dataFlit_again (s := headTaken w f) act other old)), rfl, rfl, rfl, rfl, only_mapCourse (only_headTaken w f) (by decide)⟩
  · intro f act ok type top other early first
    obtain ⟨sent, expected, queued, -, -, only⟩ := nak_leaves (s := headTaken w f) wf act first
    exact ⟨_, (exec_plFlitReceive_data hw act ok top type).trans (congrArg _ (dataFlit_early (s := headTaken w f) act other early)), expected, sent, queued,
      onlyParts_trans (onlyParts_mono (only_headTaken w f) (by decide)) only⟩
  · intro f act ok type top
    exact ⟨_, exec_plFlitReceive_idle hw act ok top type, rfl, rfl, rfl, rfl, only_headTaken w f⟩
  · intro f act ok type top none_ few
    have keep : w.lan.course.retry.filter (fun x => decide ((x.seq + 4096 - (f.ack + 1)) % 4096 < 2048)) = w.lan.course.retry :=
      List.filter_eq_self.2 (List.all_eq_true.1 none_)
    have replays : (headTaken w f).lan.course.replays = w.lan.course.replays := by
      change (if (w.lan.course.retry.filter _).length < w.lan.course.retry.length then 0 else w.lan.course.replays) = _
      rw [keep, if_neg (Nat.lt_irrefl _)]
    refine ⟨_, (exec_plFlitReceive_nak hw act ok top type).trans (congrArg _ (replay_again (by rw [replays]; exact few))), ?_, keep, ?_, rfl,
      only_mapCourse (only_headTaken w f) (by decide)⟩
    · exact congrArg List.length keep
    · exact congrArg (· + 1) replays
  · intro act unacked late few
    rw [exec_plReplayTimeout hw act unacked late, replay_again few]
    rfl
  · intro act unacked late many unused
    exact exec_plReplayTimeout_exhausted hw wf act unacked late many unused
  · intro act on loud acked none_ owed long
    have lanes : (quietSent w).lanesIn .active = w.lanesIn .active := rfl
    have moved := lanesMoved ((quietSent w).lanesIn .active) .quiet (quietSent w)
    refine ⟨_, exec_plQuietEntry hw act on loud acked none_ owed long, ?_, ?_, ?_,
      onlyParts_trans (only_mapCourse (only_mapCourse only_refl (by decide)) (by decide)) moved.only⟩
    · rw [moved.course]
      rfl
    · rw [moved.course]
      exact ctrlTx_sendCtrlFlit w 3 [2]
    · rw [List.all_eq_true]
      intro n mem
      have low : n < (quietSent w).lan.lanes.length := by
        change n < w.lan.lanes.length
        rw [four]
        exact courseLanes_low (mem_lanesIn.1 mem).1
      exact beq_iff_eq.2 (moved.entered n (by rw [lanes]; exact mem) low).1
  · intro f act ok type top first may acked unused
    have empty : (headTaken w f).lan.course.retry = [] := by
      rw [(headTaken_course w f).2.2.2.2.2.2.2.2.2, acked]
      rfl
    have moved := courseDormant_leaves (s := (headTaken w f).sendCtrlFlit 3 [4]) act unused
    refine ⟨_, (exec_plFlitReceive_ctrl hw act ok top type).trans (congrArg _ (ctrlFlit_dormant (s := headTaken w f) act first may empty)), ?_, ?_, ?_, onlyParts_trans
      (only_event (only_mapCourse (only_mapCourse (onlyParts_mono (only_headTaken w f) (by decide)) (by decide)) (by decide)) (by decide))
      (onlyParts_mono moved.only (by decide))⟩
    · rw [moved.course, event_lan]
      rfl
    · rw [moved.course, event_lan]
      exact ctrlTx_sendCtrlFlit (headTaken w f) 3 [4]
    · rw [List.all_eq_true]
      intro n mem
      refine beq_iff_eq.2 (moved.entered n mem ?_).1
      rw [event_lan]
      change n < w.lan.lanes.length
      rw [four]
      exact courseLanes_low mem

end Sys2Proof.Proofs
end

section
/-! Commands that reach registers, memory and tunings (R451 to R453, R457): what a command that has acted leaves, and how far its accesses go. -/

namespace Sys2Proof.Proofs

open Sys2Proof Sys2Proof.Machine Sys2Proof.Safety Sys2Proof.Laws

variable {s v w b : State} {t : Instant} {n tag k a len detail : Nat} {c d : InFlight} {st : Status} {result bytes bs : List Byte}

/-! ### What a command leaves that commits and ends (R458, R459) -/

/-- The command commits `k` bytes and ends. -/
def committedEnd (s : State) (n tag k : Nat) (st : Status) (detail : Nat) (result : List Byte) : State :=
  (s.commit n tag k).endCmd n tag st detail result

theorem cmd_endCmd (flies : s.cmd n tag = some c) (running : c.outcome = .running) :
    (s.endCmd n tag st detail result).cmd n tag = some { c with outcome := .ended st detail result } := by
  rw [State.endCmd, cmd_mapCmd flies fun x => by split <;> rfl, running]

theorem cmd_committedEnd (flies : s.cmd n tag = some c) (running : c.outcome = .running) : (committedEnd s n tag k st detail result).cmd n tag =
    some { c with bytes := c.bytes + k, outcome := .ended st detail result } := by
  have committed : (s.commit n tag k).cmd n tag = some { c with bytes := c.bytes + k } := cmd_mapCmd flies fun _ => rfl
  rw [committedEnd, cmd_endCmd committed running]

theorem committedEnd_ends (runs : (s.cmd n tag).map (fun x => x.outcome) = some .running) :
    ends (committedEnd s n tag k st detail result) n tag st detail result := by
  obtain ⟨c, flies, running⟩ := Option.map_eq_some_iff.1 runs
  rw [ends, cmd_committedEnd flies running]
  rfl

theorem bytes_committedEnd (runs : (s.cmd n tag).map (fun x => x.outcome) = some .running) :
    ((committedEnd s n tag k st detail result).cmd n tag).map (fun x => x.bytes) = (s.cmd n tag).map (fun x => x.bytes + k) := by
  obtain ⟨c, flies, running⟩ := Option.map_eq_some_iff.1 runs
  rw [cmd_committedEnd flies running, flies]
  rfl

theorem only_committedEnd : onlyParts [.kpe] s (committedEnd s n tag k st detail result) :=
  only_endCmd (only_mapCmd only_refl (by decide)) (by decide)

theorem running_begunAt (may : mayAct w n tag c) : ((begunAt w n tag).cmd n tag).map (fun x => x.outcome) = some .running := by
  rw [cmd_begunAt may]
  exact congrArg some may.2.1

/-! ### Registers (R451) -/

theorem exec_regRead {as : List Nat} (hw : w = atBus s t) (may : mayAct w n tag c) (args : c.args = .regRead as) :
    exec (.regRead n tag t) s = .next (committedEnd ((begunAt w n tag).readMany (.session n) as).1 n tag (4 * as.length) .complete 0
      (((begunAt w n tag).readMany (.session n) as).2.1.flatMap (fun x => leBytes 4 x.toNat) ++
        errBitmap ((begunAt w n tag).readMany (.session n) as).2.2)) := by
  change execRegRead n tag t s = _
  rw [execRegRead, ← atBus, ← hw, kpAct_of_mayAct may]
  simp only [args]
  rfl

/-- Each access of a REG_READ has its bit in the bitmap. -/
theorem length_readMany (s : State) (m : Master) (as : List Nat) : (s.readMany m as).2.2.length = as.length := by
  suffices grows : ∀ r : State × List Word × List Bool, (as.foldl (fun r a => ((r.1.readWord m a), r.2.1 ++ [(r.1.readWord m a).bus.data],
      r.2.2 ++ [(r.1.readWord m a).bus.error])) r).2.2.length = r.2.2.length + as.length from (grows (s, [], [])).trans (Nat.zero_add _)
  induction as with
  | nil => intro r; rfl
  | cons a as ih =>
    intro r
    rw [List.foldl_cons, ih, List.length_append, List.length_singleton, List.length_cons, Nat.add_right_comm, Nat.add_assoc]

theorem exec_regWrite {ps : List (Nat × Word)} (hw : w = atBus s t) (may : mayAct w n tag c) (args : c.args = .regWrite ps) :
    exec (.regWrite n tag t) s = .next (committedEnd ((begunAt w n tag).writeMany n tag ps).1 n tag (8 * ps.length) .complete 0
      (errBitmap ((begunAt w n tag).writeMany n tag ps).2)) := by
  change execRegWrite n tag t s = _
  rw [execRegWrite, ← atBus, ← hw, kpAct_of_mayAct may]
  simp only [args]
  rfl

/-- One pair of a REG_WRITE. -/
def writeOne (n tag : Nat) (r : State × List Bool) (p : Nat × Word) : State × List Bool :=
  if (r.1.cmd n tag).isSome then (r.1.writeWord (.session n) p.1 p.2, r.2 ++ [(r.1.writeWord (.session n) p.1 p.2).bus.error]) else r

theorem writeMany_eq (s : State) (ps : List (Nat × Word)) : s.writeMany n tag ps = ps.foldl (writeOne n tag) (s, []) := rfl

/-- Once the command is gone, no more pairs are written. -/
theorem writeMany_stops {r : State × List Bool} (gone : (r.1.cmd n tag).isSome = false) (ps : List (Nat × Word)) :
    ps.foldl (writeOne n tag) r = r := by
  induction ps with
  | nil => rfl
  | cons p ps ih => rw [List.foldl_cons, writeOne, if_neg (by simp [gone]), ih]

/-- A REG_WRITE that has not been cut short has written every pair. -/
theorem length_writeMany {ps : List (Nat × Word)} (lives : ((s.writeMany n tag ps).1.cmd n tag).isSome = true) :
    (s.writeMany n tag ps).2.length = ps.length := by
  suffices grows : ∀ r : State × List Bool, ((ps.foldl (writeOne n tag) r).1.cmd n tag).isSome = true →
      (ps.foldl (writeOne n tag) r).2.length = r.2.length + ps.length from (grows (s, []) lives).trans (Nat.zero_add _)
  clear lives
  induction ps with
  | nil => intro r _; rfl
  | cons p ps ih =>
    intro r lives
    cases here : (r.1.cmd n tag).isSome with
    | false => rw [writeMany_stops here, here] at lives; cases lives
    | true =>
      rw [List.foldl_cons] at lives ⊢
      rw [ih _ lives, writeOne, if_pos here, List.length_append, List.length_singleton, List.length_cons, Nat.add_right_comm, Nat.add_assoc]

/-! ### MEM_READ (R452) -/

/-- What MEM_READ does once it has begun. -/
def memReadStep (s : State) (n tag : Nat) (c : InFlight) (space a len : Nat) : State :=
  s.readStep n tag c (fun s => if space = 0 then s.memReadWords n tag c a len else s.memReadDram n tag c a len)

theorem exec_memRead {space : Nat} (hw : w = atBus s t) (may : mayAct w n tag c) (args : c.args = .memRead space a len) :
    exec (.memRead n tag t) s = .next (memReadStep (begunAt w n tag) n tag c space a len) := by
  change execMemRead n tag t s = _
  rw [execMemRead, ← atBus, ← hw, kpAct_of_mayAct may]
  simp only [args]
  rfl

/-- One word of a MEM_READ. -/
def readNext (m : Master) (a : Nat) (r : State × List Byte × Bool) (i : Nat) : State × List Byte × Bool :=
  if r.2.2 then r
  else if (r.1.readWord m (a + 4 * i)).bus.error then (r.1.readWord m (a + 4 * i), r.2.1, true)
  else (r.1.readWord m (a + 4 * i), r.2.1 ++ leBytes 4 (r.1.readWord m (a + 4 * i)).bus.data.toNat, false)

theorem readRun_eq (s : State) (m : Master) (a k : Nat) : s.readRun m a k = (List.range k).foldl (readNext m a) (s, [], false) := rfl

theorem readNext_error {m : Master} {r : State × List Byte × Bool} (failed : r.2.2 = true) (i : Nat) : readNext m a r i = r := if_pos failed

/-- Words read without a BUS_ERROR are four bytes each. -/
theorem length_readRun {m : Master} (clean : (s.readRun m a k).2.2 = false) : (s.readRun m a k).2.1.length = 4 * k := by
  rw [readRun_eq] at clean ⊢
  induction k with
  | zero => rfl
  | succ k ih =>
    rw [List.range_succ, List.foldl_concat] at clean ⊢
    cases before : ((List.range k).foldl (readNext m a) (s, [], false)).2.2 with
    | true => rw [readNext_error before, before] at clean; cases clean
    | false =>
      have length := ih before
      rw [readNext, if_neg (by simp [before])] at clean ⊢
      split at clean
      next => cases clean
      next ok => rw [if_neg ok, List.length_append, length, leBytes, List.length_map, List.length_range]; omega

/-- Past all the bytes of a MEM_READ of registers. -/
def wordsDone (next : Nat) (c : InFlight) : InFlight := { c with next := next }

/-- Words that fit one packet, read without a BUS_ERROR, are the read's last packet. -/
theorem memReadWords_last {r : State × List Byte × Bool} (start : c.next = 0) (words : 4 ∣ len) (fits : len ≤ s.dataRoom n / 4 * 4)
    (hr : r = s.readRun (.session n) a (len / 4)) (clean : r.2.2 = false) :
    s.memReadWords n tag c a len = lastFormed r.1 n tag 0 0 r.2.1 (wordsDone len) 0 := by
  have all : min (s.dataRoom n / 4) ((len - 0) / 4) = len / 4 := by omega
  have length : r.2.1.length = len := by
    rw [hr, length_readRun (by rw [← hr, clean])]
    omega
  unfold State.memReadWords
  simp only [all, start, Nat.add_zero, ← hr, Nat.zero_add, length, clean, Bool.false_eq_true, Nat.le_refl, if_false, if_true]
  rfl

/-- `k` bytes of a MEM_READ of DRAM further, without poison. -/
def bytesDone (k : Nat) (c : InFlight) : InFlight := { c with next := c.next + k, poisonAt := none }

/-- Bytes that fit one packet, all of which DMC delivers without poison, are the read's last packet. -/
theorem memReadDram_last (start : c.next = 0) (fits : len ≤ s.dataRoom n / 4 * 4) (unmarked : c.poisonAt = none) (runs : s.dramRun a len = len)
    (clean : s.firstPoison a a len = none) :
    s.memReadDram n tag c a len = lastFormed s n tag 0 0 (s.dramBytes a len) (bytesDone len) 0 := by
  have all : min (s.dataRoom n / 4 * 4) len = len := Nat.min_eq_right fits
  unfold State.memReadDram
  simp only [start, Nat.add_zero, Nat.sub_zero, all, runs, clean, unmarked, Nat.zero_add, Nat.lt_irrefl, Nat.le_refl, if_false, if_true, Option.or_none]
  rfl

/-- A read whose DATA has all been sent ends with the status it was given; one of memory has no RESULT. -/
theorem memReadStep_ends {space : Nat} (may : mayAct w n tag c) (args : c.args = .memRead space a len) (done : c.final = some (.complete, detail))
    (sent : w.dataWaits n tag = false) :
    memReadStep (begunAt w n tag) n tag c space a len = (begunAt w n tag).endCmd n tag .complete detail [] := by
  have noResult : (begunAt w n tag).readResult c = [] := by rw [State.readResult, args]
  simp only [memReadStep, State.readStep, State.endRead, done, Option.isSome_some, if_true, dataWaits_begunAt may, sent, Bool.false_eq_true, if_false,
    noResult]

/-! ### MEM_WRITE (R452) -/

theorem exec_memWrite {space : Nat} (hw : w = atBus s t) (may : mayAct w n tag c) (args : c.args = .memWrite space a bs) :
    exec (.memWrite n tag t) s = .next ((begunAt w n tag).memWriteTo n tag space a bs) := by
  change execMemWrite n tag t s = _
  rw [execMemWrite, ← atBus, ← hw, kpAct_of_mayAct may]
  simp only [args]

theorem memWriteTo_words {r : State × Nat × Bool} (hr : r = s.writeRun n tag a (payloadWords bs)) :
    s.memWriteTo n tag 0 a bs = committedEnd r.1 n tag (4 * r.2.1) (if r.2.2 then .busError else .complete) 0 [] := by
  rw [State.memWriteTo, if_pos rfl, hr]
  rfl

theorem memWriteTo_outside (out : inUpload a bs.length = false) : s.memWriteTo n tag 1 a bs = s.endCmd n tag .range 0 [] := by
  rw [State.memWriteTo, if_neg Nat.one_ne_zero, out]
  rfl

/-- The data of a MEM_WRITE are in DRAM; no data leave it as it is. -/
def uploaded (s : State) (a : Nat) (bs : List Byte) : State := if bs.length = 0 then s else s.dramWrite a bs

theorem memWriteTo_upload (inside : inUpload a bs.length = true) (runs : s.dramRun a bs.length = bs.length) :
    s.memWriteTo n tag 1 a bs = committedEnd (uploaded s a bs) n tag bs.length .complete 0 [] := by
  rw [State.memWriteTo, if_neg Nat.one_ne_zero, inside]
  simp only [runs, List.take_length, Nat.lt_irrefl, if_false, Bool.not_true, Bool.false_eq_true]
  rfl

theorem kpe_uploaded : (uploaded s a bs).kpe = s.kpe := by
  unfold uploaded
  split <;> rfl

theorem dramByte_uploaded (h : storeWf s.mems.dram = true) (x : Nat) :
    (uploaded s a bs).dramByte x = if a ≤ x ∧ x < a + bs.length then bs.getD (x - a) 0 else s.dramByte x := by
  unfold uploaded
  split
  next empty => rw [if_neg (by omega)]
  next => exact dramByte_dramWrite h a x bs

theorem inUpload_true {len : Nat} (low : 0x70000000 ≤ a) (high : a + len ≤ 0x80000000) : inUpload a len = true := by
  rw [inUpload, decide_eq_true low, decide_eq_true high]
  rfl

theorem inUpload_false {len : Nat} (out : a < 0x70000000 ∨ 0x80000000 < a + len) : inUpload a len = false := by
  rw [inUpload]
  obtain low | high := out
  · rw [decide_eq_false (Nat.not_le.2 low), Bool.false_and]
  · rw [decide_eq_false (p := a + len ≤ 0x80000000) (Nat.not_le.2 high), Bool.and_false]

/-! ### LOAD (R453) -/

theorem exec_kpLoad (hw : w = atBus s t) (may : mayAct w n tag c) (args : c.args = .load a len) :
    exec (.kpLoad n tag t) s = .next ((begunAt w n tag).loadFrom n tag a len) := by
  change execKpLoad n tag t s = _
  rw [execKpLoad, ← atBus, ← hw, kpAct_of_mayAct may]
  simp only [args]

theorem loadFrom_outside (out : inUpload a len = false) : s.loadFrom n tag a len = s.endCmd n tag .range 0 [] := by
  simp only [State.loadFrom, out, Bool.not_false, if_true]

/-- The status of a LOAD, by what became of the image. -/
def loadStatus (e : LoadEnd) : Status :=
  match e with
  | .done => .complete | .bad => .imageBad | .busError => .busError | .refused => .stageRefused

/-- The DETAIL of a LOAD: the refusal's code, where the stage refused it. -/
def loadDetail (e : LoadEnd) (s : State) : Nat :=
  match e with
  | .refused => s.rd Reg.CHP_TSTAT_REFUSAL
  | _ => 0

theorem loadFrom_inside {q : Nat} {r : State × LoadEnd × Nat} (inside : inUpload a len = true) (hq : q = s.loadSpan a len)
    (runs : s.dramRun a q = q) (clean : s.firstPoison a a q = none) (hr : r = s.loadImage (.session n) (s.dramBytes a q)) :
    s.loadFrom n tag a len = committedEnd r.1 n tag r.2.2 (loadStatus r.2.1) (loadDetail r.2.1 r.1) [] := by
  simp only [State.loadFrom, inside, ← hq, runs, clean, ← hr, Bool.not_true, Bool.false_eq_true, Nat.lt_irrefl, Option.isSome_none, if_false]
  obtain ⟨u, e, done⟩ := r
  cases e <;> rfl

/-! ### MODE (R457) -/

/-- What MODE does, CHP.MODE.REQ having been written from mode `was`. -/
def modeAnswered (s : State) (n tag m : Nat) (was : Mode) : State :=
  s.endCmd n tag (if s.chp.mode ≠ was ∧ s.chp.mode.code = m then .complete else .refused)
    (if s.chp.mode ≠ was ∧ s.chp.mode.code = m then 0 else s.chp.mode.code) (leBytes 1 s.chp.mode.code)

theorem exec_kpMode {m : Nat} (hw : w = atBus s t) (may : mayAct w n tag c) (args : c.args = .mode m) :
    exec (.kpMode n tag t) s = .next (modeAnswered
      ((begunAt w n tag).writeWord (.session n) Reg.CHP_MODE_REQ.addr (Reg.CHP_MODE_REQ.put 0 m)) n tag m w.chp.mode) := by
  change execKpMode n tag t s = _
  rw [execKpMode, ← atBus, ← hw, kpAct_of_mayAct may]
  simp only [args]
  generalize (begunAt w n tag).writeWord (.session n) Reg.CHP_MODE_REQ.addr (Reg.CHP_MODE_REQ.put 0 m) = u
  have was : (begunAt w n tag).chp.mode = w.chp.mode := rfl
  rw [was, modeAnswered]
  by_cases became : u.chp.mode ≠ w.chp.mode ∧ u.chp.mode.code = m
  · obtain ⟨moved, rfl⟩ := became
    simp [moved]
  · have other : (u.chp.mode != w.chp.mode && decide (u.chp.mode.code = m)) = false := by
      rwa [← Bool.not_eq_true, Bool.and_eq_true, bne_iff_ne, decide_eq_true_eq]
    simp only [other, became, Bool.false_eq_true, if_false]

/-- Settles O46: each command by what it leaves once its accesses are made (`committedEnd`), and a read's last packet by `FormedLast`. MODE's
answer and the order of LOAD's tests are the model's (log entry 27). -/
theorem registerAndMemoryCommandsAct : Obligations.RegisterAndMemoryCommandsAct := by
  unfold Obligations.RegisterAndMemoryCommandsAct
  rintro t s w b n tag c hw may rfl hd
  have runs := running_begunAt may
  have begun := cmd_begunAt may
  refine ⟨?regReads, ?regWrites, ?readsWords, ?readsDram, ?readsEnd, ?writesWords, ?uploads, ?uploadsOut, ?loadsOut, ?loads, ?modes⟩
  case regReads =>
    rintro as r args rfl going
    exact ⟨_, exec_regRead hw may args, length_readMany _ _ _, committedEnd_ends going, only_committedEnd⟩
  case regWrites =>
    rintro ps r args rfl going
    refine ⟨_, exec_regWrite hw may args, length_writeMany ?_, committedEnd_ends going, only_committedEnd⟩
    rw [← Option.isSome_map, going]
    rfl
  case readsWords =>
    intro a len r args fresh sent fits start words plain hr clean filled active lives bare
    obtain ⟨d, flies⟩ := Option.isSome_iff_exists.1 lives
    have length : r.2.1.length = len := by
      rw [hr, length_readRun (by rw [← hr, clean])]
      omega
    have formed : FormedLast n tag .complete 0 (.data tag 0 0 0 r.2.1 r.2.1) r.1 (lastFormed r.1 n tag 0 0 r.2.1 (wordsDone len) 0) :=
      lastFormed_formedLast flies active (by rw [flies] at bare; exact bare) (List.ne_nil_of_length_pos (by omega)) (fun _ => rfl) fun _ => rfl
    refine ⟨_, (exec_memRead hw may args).trans (congrArg _ ?_), formed.packet, formed.final, formed.only⟩
    rw [memReadStep, readStep_of_going fresh (by rw [dataWaits_begunAt may, sent]), if_pos rfl,
      memReadWords_last start words (by rwa [dataRoom_begunAt may]) hr clean]
  case readsDram =>
    intro a len args fresh sent fits start plain unmarked whole clean filled active
    have data : w.dramBytes a len ≠ [] := by simpa [State.dramBytes] using filled
    have formed : FormedLast n tag .complete 0 (.data tag 0 0 0 (w.dramBytes a len) (w.dramBytes a len)) w _ :=
      FormedLast.ofBegun (lastFormed_formedLast begun ((state_begunAt may).trans active) plain data (f := bytesDone len) (fun _ => rfl) fun _ => rfl)
    refine ⟨_, (exec_memRead hw may args).trans (congrArg _ ?_), formed.packet, formed.final, formed.only⟩
    rw [memReadStep, readStep_of_going fresh (by rw [dataWaits_begunAt may, sent]), if_neg Nat.one_ne_zero]
    exact memReadDram_last (s := begunAt w n tag) start (by rwa [dataRoom_begunAt may]) unmarked whole clean
  case readsEnd =>
    intro space a len d args done sent
    exact ⟨_, (exec_memRead hw may args).trans (congrArg _ (memReadStep_ends may args done sent)), begunAt_ends may, only_begunAt_endCmd⟩
  case writesWords =>
    intro a bs r args hr going
    exact ⟨_, (exec_memWrite hw may args).trans (congrArg _ (memWriteTo_words hr)), committedEnd_ends going, bytes_committedEnd going,
      only_committedEnd⟩
  case uploads =>
    intro a bs i x args low high whole hi hx
    have going : ((uploaded (begunAt w n tag) a bs).cmd n tag).map (fun x => x.outcome) = some .running := by rwa [cmd_of_kpe kpe_uploaded]
    have byte (y : Nat) : (uploaded (begunAt w n tag) a bs).dramByte y = if a ≤ y ∧ y < a + bs.length then bs.getD (y - a) 0 else w.dramByte y :=
      dramByte_uploaded (s := begunAt w n tag) hd y
    have only : onlyParts [.kpe, .mems, .dmc] w (uploaded (begunAt w n tag) a bs) :=
      only_ite (onlyParts_mono only_begunAt (by decide)) (only_dramWrite (onlyParts_mono only_begunAt (by decide)) (by decide))
    refine ⟨_, (exec_memWrite hw may args).trans (congrArg _ (memWriteTo_upload (inUpload_true low high) whole)), committedEnd_ends going,
      ?_, ?_, ?_, onlyParts_trans only (onlyParts_mono only_committedEnd (by decide))⟩
    · exact (byte _).trans (by rw [if_pos (by omega), Nat.add_sub_cancel_left])
    · exact (byte _).trans (if_neg (by omega))
    · rw [bytes_committedEnd going, cmd_of_kpe kpe_uploaded, begun]
      rfl
  case uploadsOut =>
    intro a bs args out
    exact ⟨_, (exec_memWrite hw may args).trans (congrArg _ (memWriteTo_outside (inUpload_false out))), begunAt_ends may, only_begunAt_endCmd⟩
  case loadsOut =>
    intro a len args out
    exact ⟨_, (exec_kpLoad hw may args).trans (congrArg _ (loadFrom_outside (inUpload_false out))), begunAt_ends may, only_begunAt_endCmd⟩
  case loads =>
    intro a len q r args low high hq whole clean hr going
    have loaded := loadFrom_inside (s := begunAt w n tag) (n := n) (tag := tag) (inUpload_true low high) hq whole clean hr
    refine ⟨_, (exec_kpLoad hw may args).trans (congrArg _ loaded), only_committedEnd, bytes_committedEnd going, ?_⟩
    exact committedEnd_ends going
  case modes =>
    rintro m r args rfl going
    obtain ⟨d, flies, running⟩ := Option.map_eq_some_iff.1 going
    exact ⟨_, exec_kpMode hw may args, only_endCmd only_refl (by decide), ends_endCmd flies running⟩

end Sys2Proof.Proofs

end

section
/-! A session that closes, on a part whose list of capture descriptors is longer than the 64 that RNG has: the abort of stream captures (R436) goes
over 64 descriptors, and nothing in the statement bounds the list. -/

namespace Sys2Proof.Proofs

open Sys2Proof Sys2Proof.Machine Sys2Proof.Safety Sys2Proof.Laws

/-- A host's address on MAC 1. -/
def hostPath : KpPath := { mac := 1, ip := 0x0A000001, port := 5000, eth := 0xABC }

/-- A CLOSE of session 3, without its check value. -/
def bareClose : KpPacket :=
  { magic := 0x504B, version := 1, type := 10, session := 3, unit := 0, flags := 0, cookie := 77, seq := 9, ack := 5, length := 0, time := 0
    payload := [], chk := 0 }

/-- A CLOSE of session 3. -/
def hostClose : KpPacket := { bareClose with chk := kpChk bareClose }

/-- Session 3 is ACTIVE on MAC 1, and descriptor 64, one more than RNG has, streams for it. -/
def streamBeyond : State :=
  { State.reset with
    chp := { State.reset.chp with mode := .service }
    eth := { State.reset.eth with macs := State.reset.eth.macs.set 1 { state := .up } }
    kpe := { State.reset.kpe with sessions := State.reset.kpe.sessions.set 3 { state := .active, paths := [hostPath], cookie := 77 } }
    rng := { State.reset.rng with desc := List.replicate 64 {} ++ [{ state := .stream, stream := true, session := some 3 }] } }

/-- The state that a command leaves. -/
def stateAfter (s : State) (c : Instr) : State :=
  match exec c s with
  | .next v => v
  | _ => s

theorem stateAfter_of_next {s v : State} {c : Instr} (run : exec c s = .next v) : stateAfter s c = v := by rw [stateAfter, run]

/-- KPE takes the CLOSE of a session that has no command in flight and no subscription. -/
theorem hostClose_taken : packetTaken (streamBeyond.atT 0) hostPath hostClose 10 ∧ ((streamBeyond.atT 0).sess 3).inflight = [] ∧
    (streamBeyond.atT 0).subsWhere (fun y => y.session == 3) = [] := by decide +kernel

theorem streamBeyond_wf : (streamBeyond.atT 0).kpe.sessions.length = 128 ∧ storeWf (streamBeyond.atT 0).regs.live = true := by decide +kernel

/-- Past the session's end descriptor 64 still streams for it. -/
theorem streamBeyond_streams : (stateAfter streamBeyond (.kpClose hostPath hostClose 0)).rng.desc.all
    (fun d => !(d.state == .stream && d.session == some 3)) = false := by decide +kernel

/-- Refutes O44: on CLOSE the session's stream captures in descriptors 0 to 63 are aborted, and the statement's list has no bound. -/
theorem not_sessionsOpenHoldRankAndClose : ¬Obligations.SessionsOpenHoldRankAndClose := by
  intro holds
  obtain ⟨fitted, wf⟩ := streamBeyond_wf
  obtain ⟨taken, idle, unsubscribed⟩ := hostClose_taken
  obtain ⟨-, -, -, -, -, -, -, -, closes, -⟩ := holds 0 streamBeyond _ hostPath hostClose 3 rfl fitted wf
  obtain ⟨v, run, -, -, ended⟩ := closes taken rfl idle unsubscribed
  rw [← stateAfter_of_next run] at ended
  exact Bool.false_ne_true (streamBeyond_streams.symm.trans ended)

end Sys2Proof.Proofs

end

section
/-! The Kanas protocol's packets and commands (R429 to R450, R458, R459): what a packet that KPE hears leaves of its session, what a packet sent
leaves of the registers, and how a command is taken, answered, completed and aborted. -/

namespace Sys2Proof.Proofs

open Sys2Proof Sys2Proof.Machine Sys2Proof.Safety Sys2Proof.Laws

variable {s u v w : State} {t : Instant} {k j : KpPath} {p : KpPacket} {q : CtlPayload} {n m i tag op detail type : Nat} {args bytes result : List Byte}
  {c d : InFlight} {st : Status} {g : Field} {f : Session → Session}

/-! ### Packets on the wire (R405, R433, R438) -/

/-- The live words in which MACs count the frames they have sent. -/
def frameWords : List Nat := (List.range 4).map (fun m => (Reg.ETH_M_TX_FRAME_CNT m).addr)

theorem liveIn_drainMac (low : m < 4) (i : Nat) (s : State) : LiveIn frameWords s (s.drainMac m i) := by
  induction i generalizing s with
  | zero => exact .refl
  | succ i ih =>
    rw [State.drainMac]
    split
    · exact .refl
    · have counted : LiveIn frameWords s (s.bump (Reg.ETH_M_TX_FRAME_CNT m)) :=
        .wr .refl (Reg.ETH_M_TX_FRAME_CNT m) _ (List.mem_map.2 ⟨m, List.mem_range.2 low, rfl⟩) (.inl (Nat.le_refl _))
      refine liveIn_ite (LiveIn.trans (counted.of_live ?_) (ih _)) .refl
      rfl

theorem liveIn_macSend (low : m < 4) (x : TxFrame) (ctl : Bool) : LiveIn frameWords s (s.macSend m x ctl) :=
  liveIn_ite ((liveIn_drainMac low _ s).of_live rfl) .refl

theorem liveIn_plQueue : LiveIn frameWords s (s.plQueue bytes) := by
  unfold State.plQueue
  exact liveIn_ite (LiveIn.refl.of_live rfl) (LiveIn.refl.of_live rfl)

/-- A KP packet sent is counted by KPE, and then by MACs alone. -/
theorem liveIn_sendOn (ctl : Bool) : LiveIn frameWords (s.bump Reg.KPE_TX_PKT_CNT) (s.sendOn k ctl bytes) := by
  unfold State.sendOn
  by_cases low : k.mac < 4
  · simp only [low, if_true]
    exact liveIn_macSend low _ _
  · simp only [low, if_false]
    exact liveIn_plQueue

theorem wf_sendOn (wf : storeWf s.regs.live = true) (ctl : Bool) : storeWf (s.sendOn k ctl bytes).regs.live = true :=
  (liveIn_sendOn ctl).wf (wf_bump wf _)

theorem rd_sendOn (wf : storeWf s.regs.live = true) (ctl : Bool) :
    (s.sendOn k ctl bytes).rd Reg.KPE_TX_PKT_CNT = min (s.rd Reg.KPE_TX_PKT_CNT + 1) (2 ^ 32 - 1) :=
  ((liveIn_sendOn ctl).rd (wf_bump wf _) rfl (Nat.le_refl _) (by decide)).trans (rd_bump wf _ rfl (Nat.le_refl _))

theorem rd_sendOn_other (wf : storeWf s.regs.live = true) (ctl : Bool) (live : g.tuned = false) (narrow : g.lo + g.width ≤ 32)
    (other : g.addr ≠ Reg.KPE_TX_PKT_CNT.addr) (noFrame : g.addr ∉ frameWords) : (s.sendOn k ctl bytes).rd g = s.rd g :=
  ((liveIn_sendOn ctl).rd (wf_bump wf _) live narrow noFrame).trans (rd_wr_other wf _ _ (Nat.le_refl _) narrow (.inr other) _)

theorem kpe_sendOn (ctl : Bool) : (s.sendOn k ctl bytes).kpe = s.kpe := only_sendOn only_refl (List.Subset.refl _) .kpe (by decide)

/-- A word of KPE's own block counts no frames. -/
theorem notMem_frameWords (high : 0x420000 ≤ g.addr) : g.addr ∉ frameWords := by
  rintro mem
  obtain ⟨m, hm, same⟩ := List.mem_map.1 mem
  have low := List.mem_range.1 hm
  have far : (Reg.ETH_M_TX_FRAME_CNT m).addr = 0x410404 + 64 * m := rfl
  omega

/-! ### Sessions -/

/-- A session that is not free is one of the sessions. -/
theorem lt_of_used (used : (s.sess n).state ≠ .free) : n < s.kpe.sessions.length := by
  by_contra beyond
  exact used (congrArg Session.state (List.getD_eq_default _ _ (Nat.not_lt.mp beyond)))

theorem lt_of_active_session (active : (s.sess n).state = .active) : n < s.kpe.sessions.length := lt_of_used (by rw [active]; decide)

theorem sess_queueCtl (active : (s.sess n).state = .active) :
    (s.queueCtl n q).sess n = { s.sess n with waiting := (s.sess n).waiting ++ [q] } := by
  rw [State.queueCtl, sess_mapSess (lt_of_active_session active), if_neg (by rw [active]; decide)]

theorem eraseIdx_mapSess : (s.mapSess n f).kpe.sessions.eraseIdx n = s.kpe.sessions.eraseIdx n := eraseIdx_modAt _ _ _

theorem eraseIdx_mapCmd {h : InFlight → InFlight} : (s.mapCmd n tag h).kpe.sessions.eraseIdx n = s.kpe.sessions.eraseIdx n := eraseIdx_mapSess

theorem eraseIdx_queueCtl : (s.queueCtl n q).kpe.sessions.eraseIdx n = s.kpe.sessions.eraseIdx n := eraseIdx_mapSess

theorem eraseIdx_endCmd : (s.endCmd n tag st detail result).kpe.sessions.eraseIdx n = s.kpe.sessions.eraseIdx n := eraseIdx_mapSess

/-! ### A packet of an ACTIVE session is heard (R433, R435, R438) -/

/-- The packets before `ack` are acknowledged, and ACK has advanced if there were any. -/
def ackedTo (now ack : Nat) (x : Session) : Session :=
  if x.unacked.any (fun y => acked ack y.seq) then { x with unacked := x.unacked.filter (fun y => !acked ack y.seq), ackAt := now, rounds := 0 } else x

/-- The session's packet has come on path `k`. -/
def pathNoted (now : Nat) (k : KpPath) (unit : Nat) (x : Session) : Session :=
  { x with paths := if x.dual then k :: x.paths.filter (fun j => j.mac != k.mac) else [k], lastAt := now, unit := unit }

/-- An ACTIVE session that has been heard. -/
def heardSession (now : Nat) (k : KpPath) (p : KpPacket) (x : Session) : Session := ackedTo now p.ack (pathNoted now k p.unit x)

theorem heard_of_active (active : (s.sess p.session).state = .active) : s.heard k p = s.mapSess p.session (heardSession s.now k p) := by
  unfold State.heard
  simp only [active, reduceCtorEq, if_false]
  simp only [State.ackCtl, State.mapSess, State.mapKpe, modAt_modAt]
  rfl

section Fields

variable (now ack : Nat) (x : Session)

theorem ackedTo_state : (ackedTo now ack x).state = x.state := by unfold ackedTo; split <;> rfl
theorem ackedTo_paths : (ackedTo now ack x).paths = x.paths := by unfold ackedTo; split <;> rfl
theorem ackedTo_operator : (ackedTo now ack x).operator = x.operator := by unfold ackedTo; split <;> rfl
theorem ackedTo_waiting : (ackedTo now ack x).waiting = x.waiting := by unfold ackedTo; split <;> rfl
theorem ackedTo_inflight : (ackedTo now ack x).inflight = x.inflight := by unfold ackedTo; split <;> rfl
theorem ackedTo_cache : (ackedTo now ack x).cache = x.cache := by unfold ackedTo; split <;> rfl

end Fields

/-- KPE counts a packet that it takes, and hears the session. -/
def hears (w : State) (k : KpPath) (p : KpPacket) : State := (w.bump Reg.KPE_RX_PKT_CNT).mapSess p.session (heardSession w.now k p)

/-- `u` is `w` once KPE has taken a packet of session `n` on path `k`. -/
structure Heard (n : Nat) (k : KpPath) (w u : State) : Prop where
  state : (u.sess n).state = (w.sess n).state
  path : (u.sess n).path = some k
  operator : (u.sess n).operator = (w.sess n).operator
  waiting : (u.sess n).waiting = (w.sess n).waiting
  inflight : (u.sess n).inflight = (w.sess n).inflight
  cache : (u.sess n).cache = (w.sess n).cache
  others : u.kpe.sessions.eraseIdx n = w.kpe.sessions.eraseIdx n
  flying : u.inFlight = w.inFlight
  mode : u.chp = w.chp
  now : u.now = w.now
  live : LiveIn [Reg.KPE_RX_PKT_CNT.addr] w u
  only : onlyParts [.kpe, .regs] w u

theorem inFlight_mapSess (keeps : ∀ x, (f x).inflight = x.inflight) : (s.mapSess n f).inFlight = s.inFlight := by
  have counts (xs : List Session) (a : Nat) : xs.foldl (fun a x => a + x.inflight.length) a
      = (xs.map (fun x => x.inflight.length)).foldl (fun a l => a + l) a := List.foldl_map.symm
  unfold State.inFlight
  rw [counts, counts]
  exact congrArg (fun ls => List.foldl (fun a l => a + l) 0 ls) (map_modAt (fun x => by rw [keeps]) _ _)

theorem sess_hears (fitted : p.session < w.kpe.sessions.length) :
    (hears w k p).sess p.session = heardSession w.now k p (w.sess p.session) := by
  rw [hears, sess_mapSess (by rwa [bump_kpe]), sess_of_kpe (bump_kpe _ _)]

theorem heard_hears (active : (w.sess p.session).state = .active) : Heard p.session k w (hears w k p) := by
  have here := sess_hears (k := k) (lt_of_active_session active)
  have inflight (x : Session) : (heardSession w.now k p x).inflight = x.inflight := ackedTo_inflight _ _ _
  have flies : (w.bump Reg.KPE_RX_PKT_CNT).inFlight = w.inFlight := by rw [State.inFlight, bump_kpe, State.inFlight]
  exact {
    state := by rw [here]; exact ackedTo_state _ _ _
    path := by
      rw [here, Session.path, heardSession, ackedTo_paths, pathNoted]
      dsimp only
      split <;> rfl
    operator := by rw [here]; exact ackedTo_operator _ _ _
    waiting := by rw [here]; exact ackedTo_waiting _ _ _
    inflight := by rw [here]; exact ackedTo_inflight _ _ _
    cache := by rw [here]; exact ackedTo_cache _ _ _
    others := eraseIdx_mapSess.trans (by rw [bump_kpe])
    flying := (inFlight_mapSess inflight).trans flies
    mode := bump_chp _ _
    now := bump_now _ _
    live := (LiveIn.refl.wr Reg.KPE_RX_PKT_CNT _ (by decide) (.inl (Nat.le_refl _))).of_live rfl
    only := only_mapSess (only_bump only_refl (by decide)) (by decide) }

/-- A counter of KPE that a packet taken does not count in reads as before. -/
theorem Heard.rd (h : Heard n k w u) (wf : storeWf w.regs.live = true) {g : Field} (live : g.tuned = false) (narrow : g.lo + g.width ≤ 32)
    (other : g.addr ≠ Reg.KPE_RX_PKT_CNT.addr) : u.rd g = w.rd g := h.live.rd wf live narrow (by simpa using other)

theorem Heard.cmd (h : Heard n k w u) (tag : Nat) : u.cmd n tag = w.cmd n tag := by rw [State.cmd, h.inflight, State.cmd]

theorem Heard.cachedTag (h : Heard n k w u) (tag : Nat) : u.cachedTag n tag = w.cachedTag n tag := by
  rw [State.cachedTag, h.cache, h.now, State.cachedTag]

theorem Heard.counted (h : Heard n k w u) (wf : storeWf w.regs.live = true) {g : Field} (live : g.tuned = false) (narrow : g.lo + g.width ≤ 32)
    (other : g.addr ≠ Reg.KPE_RX_PKT_CNT.addr) : (u.bump g).rd g = min (w.rd g + 1) (2 ^ g.width - 1) := by
  rw [rd_bump (h.live.wf wf) g live narrow, h.rd wf live narrow other]

/-! ### A COMMAND is taken (R429, R437, R444 to R450) -/

theorem kpTake_taken (taken : packetTaken w k p type) (act : State → State) : w.kpTake k p type act = act (w.bump Reg.KPE_RX_PKT_CNT) := by
  obtain ⟨serves, unit, good⟩ := taken
  by_cases low : k.mac < 4 <;> simp [State.kpTake, serves, unit, good, low]

theorem exec_kpCommand (hw : w = s.atT t) (taken : packetTaken w k p 3) (active : (w.sess p.session).state = .active) :
    exec (.kpCommand k p t) s = .next ((hears w k p).commandPacket p.session (argNat p.payload 0 2) (argNat p.payload 2 2) (p.payload.drop 4)) := by
  have here : ((w.bump Reg.KPE_RX_PKT_CNT).sess p.session).state = .active := by rw [sess_of_kpe (bump_kpe _ _), active]
  change execKpCommand k p t s = _
  rw [execKpCommand, ← hw, kpTake_taken taken, heard_of_active here, bump_now]
  rfl

/-- What becomes of a command that is taken: it is turned away with a status, or runs. -/
def takenOutcome (o : Option Status) : CmdOutcome :=
  match o with
  | some st => .ended st 0 []
  | none => .running

/-- A command that is in flight from now on. -/
def newCommand (u : State) (n tag op : Nat) (args : List Byte) : InFlight :=
  { tag := tag, op := op, args := (parseArgs op args).getD .nop, outcome := takenOutcome (u.turnedAway n op (parseArgs op args)) }

/-- The command joins those in flight. -/
def commandEntered (u : State) (n : Nat) (c : InFlight) : State :=
  (u.bump (Reg.KPE_S_RX_CMD_CNT n)).mapSess n (fun x => { x with inflight := x.inflight ++ [c] })

theorem commandPacket_new (given : tag ≠ 0xFFFF) (unknown : u.cmd n tag = none) (fresh : u.cachedTag n tag = none)
    (few : (u.sess n).inflight.length < 32) (room : u.inFlight < 128) :
    u.commandPacket n tag op args = commandEntered u n (newCommand u n tag op args) := by
  have within : (decide (32 ≤ (u.sess n).inflight.length) || decide (128 ≤ u.inFlight)) = false := by
    rw [decide_eq_false (Nat.not_le.2 few), decide_eq_false (Nat.not_le.2 room), Bool.or_false]
  simp only [State.commandPacket, given, if_false, unknown, fresh, within, Bool.false_eq_true]
  rfl

theorem commandPacket_busy (given : tag ≠ 0xFFFF) (unknown : u.cmd n tag = none) (fresh : u.cachedTag n tag = none)
    (full : 32 ≤ (u.sess n).inflight.length ∨ 128 ≤ u.inFlight) :
    u.commandPacket n tag op args = (u.bump Reg.KPE_BUSY_CNT).answerNow n tag op .busy := by
  have beyond : (decide (32 ≤ (u.sess n).inflight.length) || decide (128 ≤ u.inFlight)) = true := by simpa using full
  simp only [State.commandPacket, given, if_false, unknown, fresh, beyond, if_true]

theorem commandPacket_conflict (given : tag ≠ 0xFFFF) (known : u.cmd n tag = some c) (other : c.op ≠ op) :
    u.commandPacket n tag op args = (u.bump (Reg.KPE_S_DUP_CNT n)).answerNow n tag op .tagConflict := by
  simp only [State.commandPacket, given, if_false, known, bne_iff_ne.2 other, if_true]

/-- The answer RUNNING of R444. -/
def runningSent (u : State) (k : KpPath) (n tag op : Nat) : State :=
  u.sendUnseq k 5 n (u.sess n).unit (u.sess n).cookie (leBytes 2 tag ++ leBytes 2 op)

theorem commandPacket_running (given : tag ≠ 0xFFFF) (known : u.cmd n tag = some c) (path : (u.sess n).path = some k) :
    u.commandPacket n tag c.op args = runningSent (u.bump (Reg.KPE_S_DUP_CNT n)) k n tag c.op := by
  have path' : ((u.bump (Reg.KPE_S_DUP_CNT n)).sess n).path = some k := by rw [sess_of_kpe (bump_kpe _ _), path]
  simp only [State.commandPacket, given, if_false, known, bne_self_eq_false, Bool.false_eq_true, path']
  rfl

theorem commandPacket_cached {x : Cached} (given : tag ≠ 0xFFFF) (unknown : u.cmd n tag = none) (held : u.cachedTag n tag = some x) :
    u.commandPacket n tag x.op args = (u.bump (Reg.KPE_S_DUP_CNT n)).queueCtl n x.payload := by
  simp only [State.commandPacket, given, if_false, unknown, held, bne_self_eq_false, Bool.false_eq_true]

/-- The order in which a command is turned away (log entry 27). -/
theorem takenOutcome_turnedAway (a : Option KpArgs) : takenOutcome (u.turnedAway n op a) =
    (if op = 0 ∨ 0x12 < op then CmdOutcome.ended .badOpcode 0 []
      else if u.chp.mode = .recovery ∧ ¬(op = 0x02 ∨ op = 0x0F ∨ op = 0x10 ∨ op = 0x11) then .ended .wrongMode 0 []
      else if (op = 0x05 ∨ op = 0x06 ∨ op = 0x0A ∨ op = 0x0C ∨ op = 0x0D ∨ op = 0x10 ∨ op = 0x11) ∧ (u.sess n).operator = false then .ended .rank 0 []
      else if a = none then .ended .badRequest 0 []
      else .running) := by
  have opcode : (decide (op = 0) || decide (0x12 < op)) = true ↔ op = 0 ∨ 0x12 < op := by simp
  have mode : (decide (u.chp.mode = .recovery) && !inRecovery.contains op) = true ↔
      u.chp.mode = .recovery ∧ ¬(op = 0x02 ∨ op = 0x0F ∨ op = 0x10 ∨ op = 0x11) := by simp [inRecovery]
  have rank : (rankP.contains op && !(u.sess n).operator) = true ↔
      (op = 0x05 ∨ op = 0x06 ∨ op = 0x0A ∨ op = 0x0C ∨ op = 0x0D ∨ op = 0x10 ∨ op = 0x11) ∧ (u.sess n).operator = false := by simp [rankP]
  simp only [State.turnedAway, opcode, mode, rank, Option.isNone_iff_eq_none, apply_ite takenOutcome]
  rfl

theorem sess_commandEntered (fitted : n < u.kpe.sessions.length) :
    (commandEntered u n c).sess n = { u.sess n with inflight := (u.sess n).inflight ++ [c] } := by
  rw [commandEntered, sess_mapSess (by rwa [bump_kpe]), sess_of_kpe (bump_kpe _ _)]

/-- A completion that answers at once joins the queue, uncached. -/
theorem sess_answerNow (active : (u.sess n).state = .active) : (u.answerNow n tag op st).sess n =
    { u.sess n with waiting := (u.sess n).waiting ++ [.completion tag op st 0 0 0 u.lastWords []] } := sess_queueCtl active

theorem completed_answerNow (active : (u.sess n).state = .active) :
    ((u.answerNow n tag op st).sess n).waiting.getLast?.bind completionOf = some (tag, op, st, 0, 0, []) := by
  rw [sess_answerNow active, List.getLast?_concat]
  rfl

theorem only_counted (h : onlyParts [.kpe, .regs] w u) (g : Field) : onlyParts [.kpe, .regs] w (u.bump g) := only_bump h (by decide)

/-- A COMMAND that joins those in flight. -/
theorem entered_commandEntered (heard : Heard n k w u) (active : (w.sess n).state = .active) (wf : storeWf w.regs.live = true) :
    ((commandEntered u n c).sess n).inflight = (w.sess n).inflight ++ [c] ∧ ((commandEntered u n c).sess n).waiting = (w.sess n).waiting
      ∧ (commandEntered u n c).rd (Reg.KPE_S_RX_CMD_CNT n) = min (w.rd (Reg.KPE_S_RX_CMD_CNT n) + 1) (2 ^ 32 - 1)
      ∧ (commandEntered u n c).kpe.sessions.eraseIdx n = w.kpe.sessions.eraseIdx n ∧ onlyParts [.kpe, .regs] w (commandEntered u n c) := by
  have fitted : n < u.kpe.sessions.length := lt_of_active_session (heard.state.trans active)
  have count := heard.counted wf (g := Reg.KPE_S_RX_CMD_CNT n) rfl (Nat.le_refl _) (by simp only [Reg.KPE_S_RX_CMD_CNT, Reg.KPE_RX_PKT_CNT]; omega)
  refine ⟨?_, ?_, count, eraseIdx_mapSess.trans (by rw [bump_kpe, heard.others]), only_mapSess (only_counted heard.only _) (by decide)⟩
  · rw [sess_commandEntered fitted, heard.inflight]
  · rw [sess_commandEntered fitted, heard.waiting]

/-- A KPE counter of the session is neither the packets taken nor the packets sent. -/
theorem dupCnt_addr (n : Nat) : (Reg.KPE_S_DUP_CNT n).addr ≠ Reg.KPE_RX_PKT_CNT.addr ∧ (Reg.KPE_S_DUP_CNT n).addr ≠ Reg.KPE_TX_PKT_CNT.addr ∧
    0x420000 ≤ (Reg.KPE_S_DUP_CNT n).addr := by
  simp only [Reg.KPE_S_DUP_CNT, Reg.KPE_RX_PKT_CNT, Reg.KPE_TX_PKT_CNT]
  omega

section Answers

variable (heard : Heard n k w u) (active : (w.sess n).state = .active) (wf : storeWf w.regs.live = true)
include heard

include active in
/-- A counter more, the session is ACTIVE still, and as it was heard. -/
theorem Heard.active_bump (g : Field) : ((u.bump g).sess n).state = .active := by rw [sess_of_kpe (bump_kpe _ _), heard.state, active]

include active in
theorem Heard.inflight_answerNow (g : Field) : (((u.bump g).answerNow n tag op st).sess n).inflight = (w.sess n).inflight := by
  rw [sess_answerNow (heard.active_bump active g), sess_of_kpe (bump_kpe _ _), heard.inflight]

include active in
theorem Heard.cache_answerNow (g : Field) : (((u.bump g).answerNow n tag op st).sess n).cache = (w.sess n).cache := by
  rw [sess_answerNow (heard.active_bump active g), sess_of_kpe (bump_kpe _ _), heard.cache]

theorem Heard.only_answerNow (g : Field) : onlyParts [.kpe, .regs] w ((u.bump g).answerNow n tag op st) :=
  Laws.only_answerNow (only_counted heard.only g) (by decide)

include wf

theorem Heard.dupCounted : (u.bump (Reg.KPE_S_DUP_CNT n)).rd (Reg.KPE_S_DUP_CNT n) = min (w.rd (Reg.KPE_S_DUP_CNT n) + 1) (2 ^ 32 - 1) :=
  heard.counted wf rfl (Nat.le_refl _) (dupCnt_addr n).1

/-- RUNNING counts as a packet sent, and the command received as a duplicate. -/
theorem Heard.runningSent_counted (j : KpPath) :
    (runningSent (u.bump (Reg.KPE_S_DUP_CNT n)) j n tag op).rd Reg.KPE_TX_PKT_CNT = min (w.rd Reg.KPE_TX_PKT_CNT + 1) (2 ^ 32 - 1) ∧
      (runningSent (u.bump (Reg.KPE_S_DUP_CNT n)) j n tag op).rd (Reg.KPE_S_DUP_CNT n) = min (w.rd (Reg.KPE_S_DUP_CNT n) + 1) (2 ^ 32 - 1) := by
  obtain ⟨-, noTx, high⟩ := dupCnt_addr n
  generalize hx : u.bump (Reg.KPE_S_DUP_CNT n) = x
  have wf' : storeWf x.regs.live = true := hx ▸ wf_bump (heard.live.wf wf) _
  have sent : x.rd Reg.KPE_TX_PKT_CNT = w.rd Reg.KPE_TX_PKT_CNT := by
    rw [← hx, State.bump, State.bumpBy, rd_wr_other (heard.live.wf wf) _ _ (Nat.le_refl _) (Nat.le_refl _) (.inr noTx.symm),
      heard.rd wf rfl (Nat.le_refl _) (by decide)]
  have dup : x.rd (Reg.KPE_S_DUP_CNT n) = _ := hx ▸ heard.dupCounted wf
  have regs : { x with fresh := x.fresh + 1 }.regs = x.regs := rfl
  rw [runningSent, State.sendUnseq]
  generalize { x with fresh := x.fresh + 1 } = y at regs
  have wfy : storeWf y.regs.live = true := regs ▸ wf'
  exact ⟨by rw [rd_sendOn wfy, rd_of_regs regs, sent],
    by rw [rd_sendOn_other wfy true rfl (Nat.le_refl _) noTx (notMem_frameWords high), rd_of_regs regs, dup]⟩

end Answers

theorem inflight_runningSent : ((runningSent u k n tag op).sess n).inflight = (u.sess n).inflight := by
  rw [runningSent, State.sendUnseq, sess_of_kpe (kpe_sendOn true)]
  rfl

/-! ### Completions (R444, R446, R458) -/

/-- The COMPLETION of a command that has ended. -/
def completionPacket (w : State) (tag : Nat) (c : InFlight) (st : Status) (detail : Nat) (result : List Byte) : CtlPayload :=
  .completion tag c.op st detail c.bytes (if w.ownsCvu then c.crc else 0) w.lastWords result

/-- The session without the command, which is in its cache. -/
def cachedSession (w : State) (tag : Nat) (c : InFlight) (q : CtlPayload) (x : Session) : Session :=
  { x with inflight := x.inflight.filter (fun y => y.tag != tag), cache := cacheIn x.cache { tag := tag, op := c.op, time := w.now, payload := q } }

/-- The command has passed its session's ordering point. -/
def completedCommand (w : State) (n tag : Nat) (c : InFlight) (q : CtlPayload) : State := (w.mapSess n (cachedSession w tag c q)).queueCtl n q

theorem exec_commandComplete (hw : w = s.atT t) (flies : w.cmd n tag = some c) (ended : c.outcome = .ended st detail result)
    (first : w.targetFirst n c = false) :
    exec (.commandComplete n tag t) s = .next (completedCommand w n tag c (completionPacket w tag c st detail result)) := by
  change execCommandComplete n tag t s = _
  unfold execCommandComplete
  simp only [← hw, flies, ended, first, Bool.false_eq_true, if_false]
  rfl

theorem exec_commandComplete_waits (hw : w = s.atT t) (flies : w.cmd n tag = some c) (waits : c.outcome = .running ∨ w.targetFirst n c = true) :
    exec (.commandComplete n tag t) s = .next w := by
  change execCommandComplete n tag t s = _
  unfold execCommandComplete
  simp only [← hw, flies]
  cases outcome : c.outcome with
  | running => rfl
  | ended =>
    have first : w.targetFirst n c = true := waits.resolve_left (by rw [outcome]; exact fun h => nomatch h)
    simp only [first, if_true]

theorem sess_completedCommand (active : (w.sess n).state = .active) : (completedCommand w n tag c q).sess n =
    { cachedSession w tag c q (w.sess n) with waiting := (w.sess n).waiting ++ [q] } := by
  have mapped : (w.mapSess n (cachedSession w tag c q)).sess n = cachedSession w tag c q (w.sess n) := sess_mapSess (lt_of_active_session active) _
  rw [completedCommand, sess_queueCtl (by rw [mapped]; exact active), mapped]
  rfl

theorem length_cacheIn (xs : List Cached) (x : Cached) : (cacheIn xs x).length ≤ 64 := by
  rw [cacheIn, List.length_drop]
  omega

theorem getLast_cacheIn (xs : List Cached) (x : Cached) : (cacheIn xs x).getLast? = some x := by
  rw [cacheIn, List.getLast?_drop, if_neg, List.getLast?_concat]
  rw [List.length_append, List.length_singleton]
  omega

/-! ### The control flow (R438, R459) -/

/-- The oldest waiting packet has the next SEQ, and awaits its ACK. -/
def numberedNext (now : Nat) (y : CtlPacket) (r : List CtlPayload) (x : Session) : Session :=
  { x with waiting := r, unacked := x.unacked ++ [y], nextSeq := (x.nextSeq + 1) % 2 ^ 32, ackAt := if x.unacked.isEmpty then now else x.ackAt }

theorem sess_numbered : ((s.numbered n q).sess n).waiting = (s.sess n).waiting ∧ ((s.numbered n q).sess n).unacked = (s.sess n).unacked ∧
    ((s.numbered n q).sess n).nextSeq = (s.sess n).nextSeq := by
  cases q with
  | completion => unfold State.numbered; dsimp only; split <;> exact ⟨rfl, rfl, rfl⟩
  | notify => exact ⟨rfl, rfl, rfl⟩
  | data tag =>
    by_cases fitted : n < s.kpe.sessions.length
    · rw [State.numbered, State.mapCmd, sess_mapSess fitted]
      exact ⟨rfl, rfl, rfl⟩
    · have same (h : Session → Session) : (s.mapSess n h).sess n = s.sess n := by
        rw [State.sess, State.mapSess, mapKpe_kpe, List.getD_eq_default _ _ (by rw [modAt_length]; omega), State.sess,
          List.getD_eq_default _ _ (by omega)]
      rw [State.numbered, State.mapCmd, same]
      exact ⟨rfl, rfl, rfl⟩

/-- The next packet of session `n`. -/
def nextPacket (w : State) (n : Nat) (q : CtlPayload) : CtlPacket := { seq := (w.sess n).nextSeq, payload := q }

/-- The next packet is numbered and goes out on path `k`. -/
def pumped (w : State) (n : Nat) (k : KpPath) (q : CtlPayload) (r : List CtlPayload) : State :=
  (w.mapSess n (numberedNext w.now (nextPacket w n q) r)).sendOn k true
    ((w.mapSess n (numberedNext w.now (nextPacket w n q) r)).kpPacket q.wire.1 n (w.sess n).unit (w.sess n).cookie (w.sess n).nextSeq q.wire.2)

theorem pumpOne_sends {r : List CtlPayload} (waits : (w.sess n).waiting = q :: r) (active : (w.sess n).state = .active)
    (room : (w.sess n).unacked.length < w.window n) (path : (w.sess n).path = some k) : w.pumpOne n = pumped w n k q r := by
  have mapped : (w.mapSess n (numberedNext w.now (nextPacket w n q) r)).sess n = numberedNext w.now (nextPacket w n q) r (w.sess n) :=
    sess_mapSess (lt_of_active_session active) _
  have path' : (numberedNext w.now (nextPacket w n q) r (w.sess n)).path = some k := path
  unfold State.pumpOne
  simp only [waits, active, room, decide_true, Bool.and_self, if_true]
  change (w.mapSess n (numberedNext w.now (nextPacket w n q) r)).sendCtl n (nextPacket w n q) = _
  unfold State.sendCtl
  simp only [mapped, path']
  rfl

theorem sess_pumped {r : List CtlPayload} (fitted : n < w.kpe.sessions.length) :
    (pumped w n k q r).sess n = numberedNext w.now (nextPacket w n q) r (w.sess n) := by
  rw [pumped, sess_of_kpe (kpe_sendOn true), sess_mapSess fitted]

theorem only_pumped {r : List CtlPayload} : onlyParts [.kpe, .regs, .eth, .lan] w (pumped w n k q r) :=
  only_sendOn (only_mapSess only_refl (by decide)) (by decide)

theorem pumpOne_waits (full : w.window n ≤ (w.sess n).unacked.length) : w.pumpOne n = w := by
  unfold State.pumpOne
  dsimp only
  split
  · rfl
  · simp [Nat.not_lt.2 full]

/-- The packet has gone out and its number counts. -/
theorem exec_controlPacketSend {r : List CtlPayload} (hw : w = s.atT t) (here : w.isolated .kpe = false) (waits : (w.sess n).waiting = q :: r)
    (active : (w.sess n).state = .active) (room : (w.sess n).unacked.length < w.window n) (path : (w.sess n).path = some k)
    (_narrow : (w.sess n).nextSeq < 2 ^ 32) : exec (.controlPacketSend n t) s = .next ((pumped w n k q r).numbered n q) := by
  have moved : ((w.sess n).nextSeq + 1) % 2 ^ 32 ≠ (w.sess n).nextSeq := by omega
  have next : ((pumped w n k q r).sess n).nextSeq = ((w.sess n).nextSeq + 1) % 2 ^ 32 := by
    rw [sess_pumped (lt_of_active_session active)]
    rfl
  change execControlPacketSend n t s = _
  unfold execControlPacketSend
  simp only [← hw, here, Bool.false_eq_true, if_false, waits, pumpOne_sends waits active room path, next, bne_iff_ne.2 moved, if_true]

theorem exec_controlPacketSend_waits (hw : w = s.atT t) (full : w.window n ≤ (w.sess n).unacked.length) :
    exec (.controlPacketSend n t) s = .next w := by
  change execControlPacketSend n t s = _
  unfold execControlPacketSend
  simp only [← hw, pumpOne_waits full, bne_self_eq_false, Bool.false_eq_true, if_false]
  split
  · rfl
  · split <;> rfl

/-! ### ABORT (R458) -/

theorem cmd_mapCmd_other (other : i ≠ tag) {h : InFlight → InFlight} (keeps : ∀ x, (h x).tag = x.tag) :
    (s.mapCmd n tag h).cmd n i = s.cmd n i := by
  have same : ((fun x : InFlight => x.tag == i) ∘ fun x => if x.tag = tag then h x else x) = fun x => x.tag == i := by
    funext x
    by_cases here : x.tag = tag <;> simp [here, keeps]
  by_cases fitted : n < s.kpe.sessions.length
  · rw [State.cmd, State.mapCmd, sess_mapSess fitted, List.find?_map, same]
    change Option.map _ (s.cmd n i) = s.cmd n i
    cases flies : s.cmd n i with
    | none => rfl
    | some x => rw [Option.map_some, if_neg (by rw [tag_of_cmd flies]; exact other)]
  · have beyond : s.kpe.sessions.length ≤ n := Nat.not_lt.1 fitted
    have kept : (s.mapCmd n tag h).sess n = s.sess n := by
      rw [State.sess, State.mapCmd, State.mapSess, mapKpe_kpe, List.getD_eq_default _ _ (by rwa [modAt_length]), State.sess,
        List.getD_eq_default _ _ beyond]
    rw [State.cmd, kept, State.cmd]

theorem cmd_endCmd_other (other : i ≠ tag) : (s.endCmd n tag st detail result).cmd n i = s.cmd n i :=
  cmd_mapCmd_other other fun x => by split <;> rfl

/-- The command holds no context any more. -/
def ctxDropped (s : State) (n tag : Nat) : State :=
  match (s.cmd n tag).bind (fun c => c.ctx) with
  | some i => (s.mapCtx i (fun _ => {})).mapCmd n tag (fun c => { c with ctx := none })
  | none => s

/-- What a command that is cut short leaves of the commands in flight: it holds no context. -/
theorem cmd_dropCmd : (s.dropCmd n tag).cmd n i = (ctxDropped s n tag).cmd n i := by
  unfold State.dropCmd
  extract_lets s1 s2 s3 s4
  have kpe : s4.kpe = s1.kpe := by rw [mapZon_kpe, mapRng_kpe, mapCmp_kpe]
  refine (cmd_mapSess ?_).trans (cmd_of_kpe kpe n i)
  intro x
  rfl

theorem cmd_dropCmd_other (other : i ≠ tag) : (s.dropCmd n tag).cmd n i = s.cmd n i := by
  rw [cmd_dropCmd, ctxDropped]
  split
  · exact cmd_mapCmd_other (s := State.mapCtx _ _ _) other fun _ => rfl
  · rfl

theorem cmd_dropCmd_same (flies : s.cmd n tag = some d) : ∃ x, (s.dropCmd n tag).cmd n tag = some { d with ctx := x } := by
  rw [cmd_dropCmd, ctxDropped]
  split
  · exact ⟨none, cmd_mapCmd (s := State.mapCtx _ _ _) flies fun _ => rfl⟩
  · exact ⟨d.ctx, flies⟩

theorem eraseIdx_dropCmd : (s.dropCmd n tag).kpe.sessions.eraseIdx n = s.kpe.sessions.eraseIdx n := by
  have freed : (ctxDropped s n tag).kpe.sessions.eraseIdx n = s.kpe.sessions.eraseIdx n := by
    rw [ctxDropped]
    split
    · exact eraseIdx_mapCmd
    · rfl
  unfold State.dropCmd
  extract_lets s1 s2 s3 s4
  have kpe : s4.kpe = s1.kpe := by rw [mapZon_kpe, mapRng_kpe, mapCmp_kpe]
  rw [eraseIdx_mapSess, kpe]
  exact freed

theorem exec_kpAbort (hw : w = s.atT t) (flies : w.cmd n tag = some c) (running : c.outcome = .running) (args : c.args = .abort i)
    (here : w.isolated .kpe = false) : exec (.kpAbort n tag t) s = .next (w.abortCmd n tag i) := by
  have going : c.running = true := by rw [InFlight.running, running]
  change execKpAbort n tag t s = _
  unfold execKpAbort
  simp only [← hw, flies, args, going, here, Bool.not_false, Bool.and_self, if_true]

/-- The target ends ABORTED, and the ABORT completes. -/
def abortedCommand (w : State) (n tag i : Nat) : State :=
  ((w.dropCmd n i).endCmd n i .aborted 0 []).endCmd n tag .complete 0 []

theorem abortCmd_running (other : i ≠ tag) (flies : w.cmd n i = some d) (running : d.outcome = .running) (going : d.final = none) :
    w.abortCmd n tag i = abortedCommand w n tag i := by
  have runs : d.running = true := by rw [InFlight.running, running]
  simp only [State.abortCmd, flies, other, runs, going, decide_false, Bool.not_true, Bool.or_self, Bool.false_eq_true, if_false, Option.isSome_none,
    Bool.false_and]
  rfl

theorem abortCmd_unknown (gone : i = tag ∨ w.cmd n i = none) : w.abortCmd n tag i = w.endCmd n tag .notFound 0 [] := by
  unfold State.abortCmd
  split
  next => rfl
  next d flies =>
    have self : i = tag := gone.resolve_right (by rw [flies]; exact Option.some_ne_none d)
    simp only [self, decide_true, Bool.true_or, if_true]

/-- What an ABORT of a running command leaves. -/
theorem abortedCommand_ends (self : w.cmd n tag = some c) (running : c.outcome = .running) (other : i ≠ tag) (flies : w.cmd n i = some d)
    (runs : d.outcome = .running) : ends (abortedCommand w n tag i) n i .aborted 0 [] ∧ ends (abortedCommand w n tag i) n tag .complete 0 [] ∧
      ((abortedCommand w n tag i).cmd n i).map (fun x => x.bytes) = some d.bytes ∧
      (abortedCommand w n tag i).kpe.sessions.eraseIdx n = w.kpe.sessions.eraseIdx n ∧ onlyParts [.kpe, .cmp, .rng, .zon] w (abortedCommand w n tag i) := by
  obtain ⟨x, dropped⟩ := cmd_dropCmd_same flies
  have ended : (abortedCommand w n tag i).cmd n i = some { d with ctx := x, outcome := .ended .aborted 0 [] } := by
    rw [abortedCommand, cmd_endCmd_other other, cmd_endCmd dropped runs]
  have kept : ((w.dropCmd n i).endCmd n i .aborted 0 []).cmd n tag = some c := by
    rw [cmd_endCmd_other other.symm, cmd_dropCmd_other other.symm, self]
  refine ⟨congrArg _ ended, ends_endCmd kept running, congrArg _ ended, ?_,
    only_endCmd (only_endCmd (only_dropCmd only_refl (by decide)) (by decide)) (by decide)⟩
  rw [abortedCommand, eraseIdx_endCmd, eraseIdx_endCmd, eraseIdx_dropCmd]

/-- Settles O45: a packet heard (`Heard`) and what a command then meets (`commandPacket_new` and its neighbours), a completion
(`completedCommand`), the next packet sent (`pumped`), and an ABORT (`abortCmd_running`, `abortCmd_unknown`). The order in which a command is turned
away is the model's (log entry 27). -/
theorem commandsAreTakenAndCompleted : Obligations.CommandsAreTakenAndCompleted := by
  unfold Obligations.CommandsAreTakenAndCompleted
  intro t s w k p n tag op args c hw fitted wf
  refine ⟨?takes, ?busy, ?flying, ?cached, ?nops, ?completes, ?waits, ?sends, ?blocked, ?aborts, ?abortsNone⟩
  case takes =>
    rintro a o ⟨taken, rfl, active, rfl, rfl, rfl, given, unknown, fresh, few, room⟩ rfl ho
    have heard := heard_hears (k := k) active
    have new := commandPacket_new (args := p.payload.drop 4) (op := argNat p.payload 2 2) given ((heard.cmd _).trans unknown)
      ((heard.cachedTag _).trans fresh) (by rwa [heard.inflight]) (by rwa [heard.flying])
    have same : newCommand (hears w k p) p.session (argNat p.payload 0 2) (argNat p.payload 2 2) (p.payload.drop 4)
        = { tag := argNat p.payload 0 2, op := argNat p.payload 2 2, args := (parseArgs (argNat p.payload 2 2) (p.payload.drop 4)).getD .nop
            outcome := o } := by
      rw [newCommand, takenOutcome_turnedAway, heard.mode, heard.operator, ← ho]
    rw [same] at new
    exact ⟨_, (exec_kpCommand hw taken active).trans (congrArg _ new), entered_commandEntered heard active wf⟩
  case busy =>
    rintro taken rfl active rfl rfl given unknown fresh full
    have heard := heard_hears (k := k) active
    have busy := commandPacket_busy (args := p.payload.drop 4) (op := argNat p.payload 2 2) given ((heard.cmd _).trans unknown)
      ((heard.cachedTag _).trans fresh) (by rwa [heard.inflight, heard.flying])
    exact ⟨_, (exec_kpCommand hw taken active).trans (congrArg _ busy), heard.inflight_answerNow active _, heard.cache_answerNow active _,
      completed_answerNow (heard.active_bump active _), heard.counted wf rfl (Nat.le_refl _) (by decide), heard.only_answerNow _⟩
  case flying =>
    rintro taken rfl active rfl rfl given known
    have heard := heard_hears (k := k) active
    have known' := (heard.cmd _).trans known
    by_cases same : c.op = argNat p.payload 2 2
    · have running := commandPacket_running (args := p.payload.drop 4) given known' heard.path
      rw [same] at running
      obtain ⟨sent, dup⟩ := heard.runningSent_counted (tag := argNat p.payload 0 2) (op := argNat p.payload 2 2) wf k
      refine ⟨_, (exec_kpCommand hw taken active).trans (congrArg _ running), ?_, fun other => absurd same other, fun _ => sent, dup,
        only_sendUnseq (onlyParts_mono (only_counted heard.only _) (by decide)) (by decide)⟩
      rw [inflight_runningSent, sess_of_kpe (bump_kpe _ _), heard.inflight]
    · exact ⟨_, (exec_kpCommand hw taken active).trans (congrArg _ (commandPacket_conflict given known' same)), heard.inflight_answerNow active _,
        fun _ => completed_answerNow (heard.active_bump active _), fun again => absurd again same, heard.dupCounted wf,
        onlyParts_mono (heard.only_answerNow _) (by decide)⟩
  case cached =>
    rintro x taken rfl active rfl rfl given unknown held same
    have heard := heard_hears (k := k) active
    have again := commandPacket_cached (args := p.payload.drop 4) given ((heard.cmd _).trans unknown) ((heard.cachedTag _).trans held)
    rw [same] at again
    have here := sess_of_kpe (bump_kpe (hears w k p) (Reg.KPE_S_DUP_CNT p.session)) p.session
    refine ⟨_, (exec_kpCommand hw taken active).trans (congrArg _ again), ?_, ?_, heard.dupCounted wf,
      only_queueCtl (only_counted heard.only _) (by decide)⟩
    · rw [sess_queueCtl (heard.active_bump active _), here, heard.inflight]
    · rw [sess_queueCtl (heard.active_bump active _), here, heard.waiting]
  case nops =>
    intro may args
    refine ⟨(begunAt w n tag).endCmd n tag .complete 0 [], ?_, begunAt_ends may, eraseIdx_endCmd.trans (eraseIdx_mapSess (s := w)), only_begunAt_endCmd⟩
    change execKpNop n tag t s = _
    rw [execKpNop, ← hw, kpAct_of_mayAct may]
    simp only [args]
  case completes =>
    intro st d r flies ended first active
    have after := sess_completedCommand (tag := tag) (c := c) (q := completionPacket w tag c st d r) active
    refine ⟨_, exec_commandComplete hw flies ended first, ?_, ?_, ?_, ?_, eraseIdx_queueCtl.trans eraseIdx_mapSess,
      only_queueCtl (only_mapSess only_refl (by decide)) (by decide)⟩
    · rw [after]
      rfl
    · rw [after, List.getLast?_concat]
      rfl
    · rw [after]
      exact congrArg _ (getLast_cacheIn _ _)
    · rw [after]
      exact length_cacheIn _ _
  case waits =>
    intro flies waits
    exact exec_commandComplete_waits hw flies waits
  case sends =>
    intro x r waits active room here narrow paths
    obtain ⟨k, path⟩ : ∃ k, (w.sess n).path = some k := Option.isSome_iff_exists.1 (List.isSome_head?.2 paths)
    have after := sess_pumped (w := w) (k := k) (q := x) (r := r) (lt_of_active_session active)
    obtain ⟨waiting, unacked, next⟩ := sess_numbered (s := pumped w n k x r) (n := n) (q := x)
    have only : onlyParts [.kpe, .upd] (pumped w n k x r) ((pumped w n k x r).numbered n x) := Laws.only_numbered only_refl (by decide)
    refine ⟨_, exec_controlPacketSend hw here waits active room path narrow, waiting.trans (congrArg Session.waiting after),
      unacked.trans (congrArg Session.unacked after), next.trans (congrArg Session.nextSeq after), ?_,
      onlyParts_trans (onlyParts_mono only_pumped (by decide)) (onlyParts_mono only (by decide))⟩
    rw [rd_of_regs (only .regs (by decide))]
    exact rd_sendOn (s := w.mapSess n _) wf true
  case blocked =>
    intro _ full
    exact exec_controlPacketSend_waits hw full
  case aborts =>
    intro g d flies running args here other target runs going
    exact ⟨_, (exec_kpAbort hw flies running args here).trans (congrArg _ (abortCmd_running other target runs going)),
      abortedCommand_ends flies running other target runs⟩
  case abortsNone =>
    intro g flies running args here gone
    exact ⟨_, (exec_kpAbort hw flies running args here).trans (congrArg _ (abortCmd_unknown gone)), ends_endCmd flies running, eraseIdx_endCmd,
      only_endCmd only_refl (by decide)⟩

end Sys2Proof.Proofs

end

section
/-! Stream subscriptions (R461 to R470): how one is entered and removed, what the packet of a row holds, and what becomes of a formed packet. -/

namespace Sys2Proof.Proofs

open Sys2Proof Sys2Proof.Machine Sys2Proof.Safety Sys2Proof.Laws

variable {s u v w : State} {t : Instant} {k : KpPath} {n m i tag : Nat} {c : InFlight} {x y : Subscription} {r : StreamRow} {rest : List StreamRow}
  {p : StreamPacket} {due : Bool}

/-! ### SUBSCRIBE (R461, R462) -/

/-- What leaves every session's paths alone leaves a session's path. -/
theorem path_mapSess {f : Session → Session} (keeps : ∀ x, (f x).paths = x.paths) : ((s.mapSess n f).sess m).path = (s.sess m).path := by
  simp only [Session.path, State.sess, State.mapSess, mapKpe_kpe, modAt_eq_modify, List.getD_eq_getElem?_getD, List.getElem?_modify]
  cases s.kpe.sessions[m]? with
  | none => rfl
  | some x => by_cases h : n = m <;> simp [h, keeps]

theorem path_begunAt : ((begunAt w n tag).sess m).path = (w.sess m).path := path_mapSess (s := w) fun _ => rfl

theorem overBand_begunAt : (begunAt w n tag).overBand m x = w.overBand m x := by
  unfold State.overBand
  simp only [path_begunAt]
  rfl

/-- What SUBSCRIBE asks for (R461). -/
def askedFor (w : State) (n kind preset pred first last maxUs : Nat) : Subscription :=
  { session := n, kind := kindOf kind, preset := preset, pred := pred, first := first, last := last
    maxUs := max 100 (min 1000000 maxUs), gap := !w.chp.mode.light }

/-- The lowest free subscription (log entries 27 and 48). -/
def freeSub (s : State) : Option Nat := (List.range 512).find? (fun i => (s.sub i).isNone)

/-- What SUBSCRIBE does with what it asks for, where `free` is what is free. -/
def subscribeStep (s : State) (n tag : Nat) (x : Subscription) (free : Option Nat) : State :=
  match free with
  | some i =>
    if 64 ≤ (s.subsWhere (fun y => y.session == n)).length then s.endCmd n tag .noResource 0 []
    else if (s.sess n).path.any (fun k => s.overBand k.mac x) then s.endCmd n tag .noBandwidth 0 []
    else (s.subscribeTo i x).endCmd n tag .complete 0 (leBytes 2 i)
  | none => s.endCmd n tag .noResource 0 []

theorem exec_subscribe {kd pr pred a z mx : Nat} (hw : w = s.atT t) (may : mayAct w n tag c) (args : c.args = .subscribe kd pr pred a z mx) :
    exec (.subscribe n tag t) s =
      .next (subscribeStep (begunAt w n tag) n tag (askedFor w n kd pr pred a z mx) (freeSub (begunAt w n tag))) := by
  change execSubscribe n tag t s = _
  rw [execSubscribe, ← hw, kpAct_of_mayAct may]
  simp only [args]
  rw [← freeSub]
  cases freeSub (begunAt w n tag) <;> rfl

/-- Subscription `i` is `x`. -/
def subscribed (s : State) (i : Nat) (x : Subscription) : State := s.mapKpe (fun e => { e with subs := modAt e.subs i (fun _ => some x) })

theorem sub_subscribed (fitted : i < s.kpe.subs.length) : (subscribed s i x).sub i = some x := getD_modAt fitted _ _

theorem freeSub_lowest (at_ : i < 512) (free : s.sub i = none) (lowest : (List.range i).all (fun j => (s.sub j).isSome) = true) :
    freeSub s = some i := by
  rw [freeSub, List.find?_range_eq_some]
  refine ⟨by rw [free]; rfl, List.mem_range.2 at_, fun j below => ?_⟩
  have used := List.all_eq_true.1 lowest j (List.mem_range.2 below)
  rwa [Option.not_isNone]

theorem subscribeStep_takes (few : (s.subsWhere (fun y => y.session == n)).length < 64)
    (room : (s.sess n).path.any (fun k => s.overBand k.mac x) = false) (plain : x.pred = 0xFF) :
    subscribeStep s n tag x (some i) = (subscribed s i x).endCmd n tag .complete 0 (leBytes 2 i) := by
  have entered : s.subscribeTo i x = subscribed s i x := if_pos plain
  simp only [subscribeStep, Nat.not_le.2 few, room, entered, Bool.false_eq_true, if_false]

theorem freeSub_full (full : s.kpe.subs.all (fun y => y.isSome) = true) (fitted : s.kpe.subs.length = 512) : freeSub s = none := by
  rw [freeSub, List.find?_eq_none]
  intro i mem
  have here : i < s.kpe.subs.length := by rw [fitted]; exact List.mem_range.1 mem
  have used := List.all_eq_true.1 full _ (List.getElem_mem here)
  rw [State.sub, List.getD_eq_getElem _ _ here, ← Option.not_isSome, used]
  exact Bool.false_ne_true

theorem subscribeStep_many (many : 64 ≤ (s.subsWhere (fun y => y.session == n)).length) (free : Option Nat) :
    subscribeStep s n tag x free = s.endCmd n tag .noResource 0 [] := by
  cases free with
  | none => rfl
  | some i => exact if_pos many

/-! ### UNSUBSCRIBE and FLUSH of no subscription of the session's own (R448) -/

theorem ownSub_other (other : s.sub i = none ∨ (s.sub i = some x ∧ x.session ≠ n)) : s.ownSub n i = false := by
  rcases other with absent | ⟨held, foreign⟩
  · rw [State.ownSub, absent]
    rfl
  · rw [State.ownSub, held]
    exact beq_false_of_ne foreign

theorem ownSub_own (held : s.sub i = some x) (own : x.session = n) : s.ownSub n i = true := by
  rw [State.ownSub, held]
  exact beq_iff_eq.2 own

/-- What UNSUBSCRIBE does. -/
def unsubscribeStep (s : State) (n tag i : Nat) : State :=
  if s.ownSub n i then (s.endSub i).endCmd n tag .complete 0 [] else s.endCmd n tag .notFound 0 []

theorem exec_unsubscribe (hw : w = s.atT t) (may : mayAct w n tag c) (args : c.args = .unsubscribe i) :
    exec (.unsubscribe n tag t) s = .next (unsubscribeStep (begunAt w n tag) n tag i) := by
  change execUnsubscribe n tag t s = _
  rw [execUnsubscribe, ← hw, kpAct_of_mayAct may]
  simp only [args]
  rfl

/-- What FLUSH does; it flushes when it has begun. -/
def flushStep (s : State) (n tag i : Nat) (begun : Bool) : State :=
  if !s.ownSub n i then s.endCmd n tag .notFound 0 []
  else if (if begun then s else s.flushSub i).cmp.closed.any (fun b => b.flow == .sub i) then (if begun then s else s.flushSub i)
  else (if begun then s else s.flushSub i).endCmd n tag .complete 0 []

theorem exec_kpFlush (hw : w = s.atT t) (may : mayAct w n tag c) (args : c.args = .flush i) :
    exec (.kpFlush n tag t) s = .next (flushStep (begunAt w n tag) n tag i c.begun) := by
  change execKpFlush n tag t s = _
  rw [execKpFlush, ← hw, kpAct_of_mayAct may]
  simp only [args]
  rfl

/-! ### A subscription ends (R436, R448) -/

/-- Subscription `i` is gone, with its blocks and its formed packets. -/
def unsubscribed (s : State) (i : Nat) : State :=
  (s.mapCmp (fun m => { m with closed := m.closed.filter (fun b => b.flow != .sub i) })).mapKpe (fun e => { e with
    subs := modAt e.subs i (fun _ => none), stream := e.stream.filter (fun p => p.sub != i) })

/-- Where no descriptor streams, no stream capture is aborted. -/
theorem abortStreams_idle (idle : s.rng.desc.all (fun d => d.state != .stream) = true) (q : Desc → Bool) : s.abortStreams q = s := by
  have quiet (i : Nat) : (s.desc i).state ≠ .stream := by
    rw [State.desc, List.getD_eq_getElem?_getD]
    cases here : s.rng.desc[i]? with
    | none => exact DescState.noConfusion
    | some d => exact bne_iff_ne.1 (List.all_eq_true.1 idle d (List.mem_of_getElem? here))
  unfold State.abortStreams
  generalize List.range 64 = is
  induction is with
  | nil => rfl
  | cons i is ih => rw [List.foldl_cons, if_neg (by simp [quiet i]), ih]

theorem endSub_plain (held : s.sub i = some x) (plain : x.ctx = none)
    (idle : x.kind ≠ .capture ∨ s.rng.desc.all (fun d => d.state != .stream) = true) : s.endSub i = unsubscribed s i := by
  unfold State.endSub
  simp only [held, plain]
  change (if _ then (unsubscribed s i).abortStreams _ else unsubscribed s i) = _
  rcases idle with other | quiet
  · rw [if_neg (by simp [other])]
  · rw [abortStreams_idle (s := unsubscribed s i) quiet, ite_self]

/-! ### The packet of one row (R463 to R466) -/

theorem sub_mapSub (fitted : i < s.kpe.subs.length) (f : Subscription → Subscription) : (s.mapSub i f).sub i = (s.sub i).map f := getD_modAt fitted _ _

/-- The stream packet of one row of a PHASE subscription. -/
def packetOf (s : State) (i : Nat) (x : Subscription) (r : StreamRow) : StreamPacket :=
  { sub := i, session := x.session, seq := x.seq, time := s.devTime, kind := .phase, preset := x.preset
    qflags := (0 ||| r.qflags) ||| (if x.gap then 64 else 0) ||| 0 ||| (if r.retuned then 512 else 0) ||| (if x.noContext then 256 else 0)
    pos0 := x.first, npos := x.last + 1 - x.first, nrows := 1, kflags := 0, index := r.index, sweep := r.sweep, data := r.data, formedAt := s.now }

/-- The next packet's number; its GAP is told. -/
def numberedSub (x : Subscription) : Subscription := { x with seq := (x.seq + 1) % 2 ^ 32, gap := false }

/-- Subscription `i`'s first row has become a packet. -/
def rowFormed (s : State) (i : Nat) (x : Subscription) (r : StreamRow) : State :=
  ((s.mapKpe (fun e => { e with stream := e.stream ++ [packetOf s i x r] })).mapSub i numberedSub).mapSub i (fun y => { y with rows := y.rows.drop 1 })

/-- A row that fits a packet goes alone where no second one would fit, or where it is the only one and due. -/
theorem formRowPacket_one (held : s.sub i = some x) (kind : x.kind = .phase) (rows : x.rows = r :: rest) (fits : r.data.length ≤ s.streamRoom x.session)
    (alone : s.streamRoom x.session < 2 * r.data.length ∨ (due = true ∧ rest = [])) : s.formRowPacket i x due = rowFormed s i x r := by
  have single (small : s.streamRoom x.session < 2 * r.data.length) : max 1 (s.streamRoom x.session / max 1 r.data.length) = 1 := by
    have quotient : s.streamRoom x.session / max 1 r.data.length < 2 := Nat.div_lt_of_lt_mul (by omega)
    omega
  have taken : (r :: sharing x r rest).take (max 1 (s.streamRoom x.session / max 1 r.data.length)) = [r] := by
    rcases alone with small | ⟨-, rfl⟩
    · rw [single small]
      rfl
    · obtain ⟨k, more⟩ : ∃ k, max 1 (s.streamRoom x.session / max 1 r.data.length) = k + 1 := ⟨_, (Nat.sub_add_cancel (Nat.le_max_left 1 _)).symm⟩
      rw [more, List.take_succ_cons, sharing, List.take_nil]
  have goes : due = true ∨ max 1 (s.streamRoom x.session / max 1 r.data.length) ≤ (r :: sharing x r rest).length := by
    rcases alone with small | ⟨now, -⟩
    · exact .inr (by rw [single small, List.length_cons]; omega)
    · exact .inl now
  unfold State.formRowPacket
  simp only [rows, Nat.not_lt.2 fits, if_false, taken]
  rw [if_neg (by rcases goes with now | full <;> simp_all)]
  simp only [List.flatMap_cons, List.flatMap_nil, List.append_nil, State.packetSpan, kind, State.profileFlags, reduceCtorEq, if_false,
    State.formPacket, held]
  rfl

theorem stream_rowFormed : (rowFormed s i x r).kpe.stream = s.kpe.stream ++ [packetOf s i x r] := rfl

theorem sub_rowFormed (held : s.sub i = some x) (fitted : i < s.kpe.subs.length) :
    (rowFormed s i x r).sub i = some { numberedSub x with rows := x.rows.drop 1 } := by
  have fitted' : i < (modAt s.kpe.subs i (fun o => o.map numberedSub)).length := by rwa [modAt_length]
  have numbers : ((s.mapKpe (fun e => { e with stream := e.stream ++ [packetOf s i x r] })).mapSub i numberedSub).sub i = some (numberedSub x) :=
    (sub_mapSub (s := s.mapKpe _) fitted _).trans (congrArg (Option.map numberedSub) held)
  rw [rowFormed, sub_mapSub fitted', numbers]
  rfl

theorem cmd_of_sessions (h : v.kpe.sessions = s.kpe.sessions) : v.cmd n tag = s.cmd n tag := by
  rw [State.cmd, State.sess, h, State.cmd, State.sess]

theorem cmd_rowFormed : (rowFormed s i x r).cmd n tag = s.cmd n tag :=
  cmd_of_sessions (by rw [rowFormed, State.mapSub, State.mapSub, mapKpe_kpe, mapKpe_kpe, mapKpe_kpe])

theorem cmp_rowFormed : (rowFormed s i x r).cmp = s.cmp := by rw [rowFormed, State.mapSub, State.mapSub, mapKpe_cmp, mapKpe_cmp, mapKpe_cmp]

theorem only_rowFormed : onlyParts [.kpe] s (rowFormed s i x r) :=
  only_mapSub (only_mapSub (only_mapKpe only_refl (by decide)) (by decide)) (by decide)

/-- GAP is bit 6 of QFLAGS (R464). -/
theorem gap_packetOf : (packetOf s i x r).qflags.testBit 6 = (x.gap || r.qflags.testBit 6) := by
  have gap : Nat.testBit 64 6 = true := by decide
  have retuned : Nat.testBit 512 6 = false := by decide
  have noContext : Nat.testBit 256 6 = false := by decide
  simp [packetOf, Nat.testBit_or, apply_ite (fun q => Nat.testBit q 6), gap, retuned, noContext, Bool.or_comm]

/-! ### STREAM_PACKET_FORM and STREAM_FILL_TIMEOUT (R466 to R470) -/

/-- The formed packets go out where the path accepts. -/
def sentIf (s : State) (i : Nat) (accepts : Bool) : State := if accepts then s.sendStreams i else s

theorem exec_streamPacketForm {accepts : Bool} (hw : w = s.atT t) (here : w.isolated .kpe = false) :
    exec (.streamPacketForm i accepts t) s = .next (sentIf (w.formNext i false) i accepts) := by
  change execStreamPacketForm i accepts t s = _
  unfold execStreamPacketForm
  simp only [← hw, here, Bool.false_eq_true, if_false]
  rfl

theorem formNext_phase (held : s.sub i = some x) (forms : s.forms x = true) (kind : x.kind = .phase) : s.formNext i due = s.formRowPacket i x due := by
  simp only [State.formNext, held, forms, kind, Bool.not_true, Bool.false_eq_true, reduceCtorEq, if_false]

/-- Rows that all share a packet with room for one more wait. -/
theorem formRowPacket_waits (kind : x.kind = .phase) (rows : x.rows = r :: rest) (room : x.rows.length * r.data.length + r.data.length ≤ s.streamRoom x.session)
    (share : sharing x r rest = rest) (filled : r.data.length ≠ 0) : s.formRowPacket i x false = s := by
  have fits : r.data.length ≤ s.streamRoom x.session := Nat.le_trans (Nat.le_add_left _ _) room
  have size : max 1 r.data.length = r.data.length := Nat.max_eq_right (Nat.one_le_iff_ne_zero.2 filled)
  have more : x.rows.length + 1 ≤ s.streamRoom x.session / r.data.length := by
    rwa [Nat.le_div_iff_mul_le (Nat.pos_of_ne_zero filled), Nat.add_mul, Nat.one_mul]
  have all : (r :: rest).length = x.rows.length := by rw [rows]
  have waits : ¬(max 1 (s.streamRoom x.session / r.data.length) ≤ x.rows.length) := by omega
  unfold State.formRowPacket
  simp only [rows] at all waits ⊢
  simp only [share, size, waits, kind, Nat.not_lt.2 fits, Nat.lt_irrefl, decide_false, Bool.or_self, reduceCtorEq, Bool.not_false, Bool.and_self,
    if_true, if_false]

/-- While nothing is formed, what waits is lost, and GAP is owed (R468, R470). -/
def gapOwed (y : Subscription) : Subscription := { y with rows := [], events := [], gap := true }

theorem formNext_loses (held : s.sub i = some x) (idle : s.forms x = false) (waits : x.rows ≠ [] ∨ x.events ≠ []) :
    s.formNext i due = s.mapSub i gapOwed := by
  have held' : (x.rows.isEmpty && x.events.isEmpty) = false := by
    rw [Bool.and_eq_false_iff, List.isEmpty_eq_false_iff, List.isEmpty_eq_false_iff]
    exact waits
  simp only [State.formNext, held, idle, Bool.not_false, if_true, State.loseWaiting, held', Bool.false_eq_true, if_false]
  rfl

theorem formNext_empty (held : s.sub i = some x) (forms : s.forms x = true) (rows : x.rows = []) (events : x.events = []) : s.formNext i due = s := by
  have noEvents : s.formEvents i x due = s := by simp [State.formEvents, events]
  have noRows : s.formRowPacket i x due = s := by rw [State.formRowPacket, rows]
  simp only [State.formNext, held, forms, noEvents, noRows, Bool.not_true, Bool.false_eq_true, if_false, ite_self]

/-- MAX_US has passed since the subscription's first row was formed, and the rows go as they are. -/
theorem exec_streamFillTimeout {accepts : Bool} (hw : w = s.atT t) (here : w.isolated .kpe = false) (held : w.sub i = some x) (rows : x.rows = [r])
    (old : r.formedAt + x.maxUs * us ≤ w.now) (plain : x.ctx = none) :
    exec (.streamFillTimeout i accepts t) s = .next (sentIf (w.formNext i true) i accepts) := by
  have first : x.rows.head?.any (fun r => decide (r.formedAt + x.maxUs * us ≤ w.now)) = true := by
    rw [rows, List.head?_cons, Option.any_some, decide_eq_true old]
  have fill : w.fillDue x = true := by
    rw [State.fillDue]
    dsimp only
    rw [first, Bool.true_or, Bool.true_or]
  change execStreamFillTimeout i accepts t s = _
  unfold execStreamFillTimeout
  simp only [← hw, held, here, fill, plain, Bool.not_true, Bool.or_self, Bool.false_eq_true, if_false]
  rfl

/-! ### Formed packets are sent, or dropped (R466, R468) -/

/-- The only formed packet goes out on path `k`. -/
def streamSent (s : State) (k : KpPath) (p : StreamPacket) : State :=
  (s.mapKpe (fun e => { e with stream := e.stream.filter (fun q => !(q.sub == p.sub && q.seq == p.seq)) })).sendOn k false
    ((s.mapKpe (fun e => { e with stream := e.stream.filter (fun q => !(q.sub == p.sub && q.seq == p.seq)) })).kpPacket 9 p.session
      (s.sess p.session).unit (s.sess p.session).cookie p.seq p.payload)

theorem sendStreams_one (only : s.kpe.stream = [p]) (sub : p.sub = i) (active : (s.sess p.session).state = .active)
    (path : (s.sess p.session).path = some k) (up : s.pathUp k.mac = true) : s.sendStreams i = streamSent s k p := by
  have mine : [p].filter (fun q => q.sub == i) = [p] := by simp [sub]
  unfold State.sendStreams
  rw [only, mine, List.foldl_cons, List.foldl_nil]
  simp only [path, active, up, decide_true, Bool.and_self, if_true]
  rfl

theorem streamSent_sends (wf : storeWf s.regs.live = true) (only : s.kpe.stream = [p]) : (streamSent s k p).kpe.stream = []
    ∧ (streamSent s k p).rd Reg.KPE_TX_PKT_CNT = min (s.rd Reg.KPE_TX_PKT_CNT + 1) (2 ^ 32 - 1)
    ∧ onlyParts [.kpe, .regs, .eth, .lan] s (streamSent s k p) := by
  refine ⟨?_, rd_sendOn (s := s.mapKpe _) wf false, only_sendOn (only_mapKpe only_refl (by decide)) (by decide)⟩
  rw [streamSent, kpe_sendOn, mapKpe_kpe]
  dsimp only
  rw [only, List.filter_cons_of_neg (by simp), List.filter_nil]

/-- The subscription's oldest formed packet is dropped and counted, and GAP is owed. -/
def streamDropped (s : State) (i : Nat) (p : StreamPacket) : State :=
  ((s.mapKpe (fun e => { e with stream := e.stream.filter (fun q => !(q.sub == i && q.seq == p.seq)) })).bump
    (Reg.KPE_S_STREAM_DROP_CNT p.session)).lost i

theorem exec_streamPacketDrop {q : List StreamPacket} (hw : w = s.atT t) (oldest : w.kpe.stream = p :: q) (sub : p.sub = i)
    (late : p.formedAt + 100 * us ≤ w.now) : exec (.streamPacketDrop i t) s = .next (streamDropped w i p) := by
  have found : w.kpe.stream.find? (fun p => p.sub == i) = some p := by simp [oldest, sub]
  change execStreamPacketDrop i t s = _
  unfold execStreamPacketDrop
  simp only [← hw, found, late, if_true]
  rfl

theorem stream_streamDropped {q : List StreamPacket} (oldest : s.kpe.stream = p :: q) (sub : p.sub = i)
    (others : q.all (fun y => !(y.sub == i && y.seq == p.seq)) = true) : (streamDropped s i p).kpe.stream = q := by
  have kept : q.filter (fun y => !(y.sub == i && y.seq == p.seq)) = q := List.filter_eq_self.2 (List.all_eq_true.1 others)
  have stream : (streamDropped s i p).kpe.stream = s.kpe.stream.filter (fun y => !(y.sub == i && y.seq == p.seq)) := by
    rw [streamDropped, State.lost, State.mapSub, mapKpe_kpe, bump_kpe, mapKpe_kpe]
  rw [stream, oldest, List.filter_cons_of_neg (by simp [sub]), kept]

theorem sub_streamDropped (held : s.sub i = some x) (fitted : i < s.kpe.subs.length) : (streamDropped s i p).sub i = some { x with gap := true } := by
  generalize hv : (s.mapKpe (fun e => { e with stream := e.stream.filter (fun q => !(q.sub == i && q.seq == p.seq)) })).bump
    (Reg.KPE_S_STREAM_DROP_CNT p.session) = v
  have subs : v.kpe.subs = s.kpe.subs := by rw [← hv, bump_kpe, mapKpe_kpe]
  have held' : v.sub i = some x := by rw [State.sub, subs]; exact held
  rw [streamDropped, hv, State.lost, sub_mapSub (by rwa [subs]), held']
  rfl

theorem rd_streamDropped (wf : storeWf s.regs.live = true) : (streamDropped s i p).rd (Reg.KPE_S_STREAM_DROP_CNT p.session) =
    min (s.rd (Reg.KPE_S_STREAM_DROP_CNT p.session) + 1) (2 ^ 32 - 1) :=
  rd_bump (s := s.mapKpe _) wf (Reg.KPE_S_STREAM_DROP_CNT p.session) rfl (Nat.le_refl _)

/-! ### FLUSH (R467) -/

theorem streamRoom_begunAt : (begunAt w n tag).streamRoom m = w.streamRoom m := by
  rw [State.streamRoom, path_begunAt]
  rfl

theorem forms_begunAt (may : mayAct w n tag c) (own : x.session = n) : (begunAt w n tag).forms x = w.forms x := by
  rw [State.forms, own, state_begunAt may, ← own]
  rfl

/-- A subscription whose only row is uncompressed has it formed by FLUSH. -/
theorem flushSub_one (held : s.sub i = some x) (forms : s.forms x = true) (kind : x.kind = .phase) (rows : x.rows = [r]) (events : x.events = [])
    (plain : x.ctx = none) (fits : r.data.length ≤ s.streamRoom x.session) : s.flushSub i = rowFormed s i x r := by
  have one : (List.range (x.rows.length + x.events.length)).foldl (fun s _ => s.formNext i true) s = rowFormed s i x r := by
    rw [rows, events]
    exact (formNext_phase held forms kind).trans (formRowPacket_one held kind rows fits (.inr ⟨rfl, rfl⟩))
  simp only [State.flushSub, held, plain, one]

theorem flushStep_other (other : s.ownSub n i = false) (begun : Bool) : flushStep s n tag i begun = s.endCmd n tag .notFound 0 [] := by
  rw [flushStep, other]
  rfl

theorem flushStep_one (own : s.ownSub n i = true) (flushed : s.flushSub i = v) (released : v.cmp.closed.any (fun b => b.flow == .sub i) = false) :
    flushStep s n tag i false = v.endCmd n tag .complete 0 [] := by
  simp only [flushStep, own, flushed, released, Bool.not_true, Bool.false_eq_true, if_false]

/-- What the packet of one row leaves of its subscription and of the packets that wait. -/
theorem rowFormed_forms (held : s.sub i = some x) (fitted : i < s.kpe.subs.length) :
    ((rowFormed s i x r).sub i).map (fun y => (y.rows, y.seq, y.gap)) = some (x.rows.drop 1, (x.seq + 1) % 2 ^ 32, false) ∧
      ((rowFormed s i x r).kpe.stream.getLast?) = some (packetOf s i x r) := by
  rw [sub_rowFormed held fitted, stream_rowFormed, List.getLast?_concat]
  exact ⟨rfl, rfl⟩

/-- FLUSH of a subscription whose only row is uncompressed completes, the row's packet formed. -/
theorem flushStep_row (may : mayAct w n tag c) (held : w.sub i = some x) (own : x.session = n) (forms : w.forms x = true) (kind : x.kind = .phase)
    (rows : x.rows = [r]) (events : x.events = []) (plain : x.ctx = none) (fits : r.data.length ≤ w.streamRoom n)
    (released : w.cmp.closed.any (fun b => b.flow == .sub i) = false) : flushStep (begunAt w n tag) n tag i false =
      (rowFormed (begunAt w n tag) i x r).endCmd n tag .complete 0 [] :=
  flushStep_one (ownSub_own (s := begunAt w n tag) held own)
    (flushSub_one held (by rw [forms_begunAt may own, forms]) kind rows events plain (by rwa [streamRoom_begunAt, own])) (by rwa [cmp_rowFormed])

/-- Settles O48: SUBSCRIBE and UNSUBSCRIBE (`subscribeStep`, `unsubscribeStep`), the packet of a row (`rowFormed`), what is lost (`gapOwed`), and a formed
packet sent or dropped (`streamSent`, `streamDropped`). The lowest free subscription is the model's choice (log entries 27 and 48), and so is the GAP of
a subscription made outside SERVICE and TEST (log entry 39). -/
theorem streamsAreFormedSentAndDropped : Obligations.StreamsAreFormedSentAndDropped := by
  unfold Obligations.StreamsAreFormedSentAndDropped
  intro t s w n tag i c x hw fitted _ wf
  refine ⟨?subscribes, ?subscribesNot, ?unsubscribes, ?unsubscribesNot, ?flushesNot, ?flushes, ?forms, ?holds, ?loses, ?fills, ?sends, ?drops⟩
  case subscribes =>
    intro kd pr a z mx may args at_ free lowest few hx room
    have asked : askedFor w n kd pr 0xFF a z mx = x := hx.symm
    have band : ((begunAt w n tag).sess n).path.any (fun k => (begunAt w n tag).overBand k.mac x) = false := by
      simp only [path_begunAt, overBand_begunAt, room]
    have step := (exec_subscribe hw may args).trans (congrArg _ (by
      rw [asked, freeSub_lowest (s := begunAt w n tag) at_ free lowest,
        subscribeStep_takes (s := begunAt w n tag) few band (by rw [hx])]))
    have begun : (subscribed (begunAt w n tag) i x).cmd n tag = some { c with begun := true } := cmd_begunAt may
    exact ⟨_, step, sub_subscribed (s := begunAt w n tag) (fitted ▸ at_), eraseIdx_modAt _ _ _, ends_endCmd begun may.2.1,
      only_endCmd (only_mapKpe only_begunAt (by decide)) (by decide)⟩
  case subscribesNot =>
    intro kd pr pred a z mx may args full
    have refused : subscribeStep (begunAt w n tag) n tag (askedFor w n kd pr pred a z mx) (freeSub (begunAt w n tag))
        = (begunAt w n tag).endCmd n tag .noResource 0 [] := by
      rcases full with all | many
      · rw [freeSub_full (s := begunAt w n tag) all fitted]
        rfl
      · exact subscribeStep_many (s := begunAt w n tag) many _
    exact ⟨_, (exec_subscribe hw may args).trans (congrArg _ refused), begunAt_ends may, rfl, only_begunAt_endCmd⟩
  case unsubscribes =>
    intro may args held own plain at_ idle
    have step : unsubscribeStep (begunAt w n tag) n tag i = (unsubscribed (begunAt w n tag) i).endCmd n tag .complete 0 [] := by
      rw [unsubscribeStep, if_pos (ownSub_own (s := begunAt w n tag) held own), endSub_plain (s := begunAt w n tag) held plain idle]
    have begun : (unsubscribed (begunAt w n tag) i).cmd n tag = some { c with begun := true } := cmd_begunAt may
    have gone : (unsubscribed (begunAt w n tag) i).sub i = none := getD_modAt (by rw [mapCmp_kpe]; exact fitted ▸ at_) _ _
    exact ⟨_, (exec_unsubscribe hw may args).trans (congrArg _ step), gone, eraseIdx_modAt _ _ _, rfl, ends_endCmd begun may.2.1,
      only_endCmd (only_mapKpe (only_mapCmp (onlyParts_mono only_begunAt (by decide)) (by decide)) (by decide)) (by decide)⟩
  case unsubscribesNot =>
    intro may args other
    have step : unsubscribeStep (begunAt w n tag) n tag i = (begunAt w n tag).endCmd n tag .notFound 0 [] := by
      rw [unsubscribeStep, ownSub_other (s := begunAt w n tag) other, if_neg Bool.false_ne_true]
    exact ⟨_, (exec_unsubscribe hw may args).trans (congrArg _ step), begunAt_ends may, rfl, only_begunAt_endCmd⟩
  case flushesNot =>
    intro may args other
    exact ⟨_, (exec_kpFlush hw may args).trans (congrArg _ (flushStep_other (ownSub_other (s := begunAt w n tag) other) _)), begunAt_ends may, rfl,
      only_begunAt_endCmd⟩
  case flushes =>
    intro r may args first held own plain kind _ rows events forms fits at_ released
    have step := flushStep_row may held own forms kind rows events plain fits released
    obtain ⟨sub, last⟩ := rowFormed_forms (s := begunAt w n tag) (r := r) held (fitted ▸ at_)
    have begun : (rowFormed (begunAt w n tag) i x r).cmd n tag = some { c with begun := true } := cmd_rowFormed.trans (cmd_begunAt may)
    rw [rows] at sub
    refine ⟨_, (exec_kpFlush hw may args).trans (congrArg _ (by rw [first, step])), ends_endCmd begun may.2.1, ?_, ?_,
      only_endCmd (onlyParts_trans only_begunAt only_rowFormed) (by decide)⟩
    · have counted := congrArg (Option.map (fun q => (q.1, q.2.1))) sub
      rwa [Option.map_map] at counted
    · exact congrArg (Option.map (fun q => (q.sub, q.seq, q.nrows, q.data))) last
  case forms =>
    intro r rest here held forms kind _ rows at_ fits single
    have formed : w.formNext i false = rowFormed w i x r :=
      (formNext_phase held forms kind).trans (formRowPacket_one held kind rows fits (.inl single))
    obtain ⟨sub, last⟩ := rowFormed_forms (r := r) held (fitted ▸ at_)
    rw [rows] at sub
    refine ⟨_, (exec_streamPacketForm hw here).trans (congrArg _ (congrArg (fun u => sentIf u i false) formed)), sub, ?_, ?_, ?_, only_rowFormed⟩
    · exact List.dropLast_concat
    · exact congrArg (Option.map (fun q => (q.sub, q.session, q.seq, q.nrows, q.index, q.sweep))) last
    · refine (congrArg (Option.map (fun q => (q.data, q.formedAt, q.qflags.testBit 6))) last).trans ?_
      rw [Option.map_some, gap_packetOf]
      rfl
  case holds =>
    intro here held forms kind room waiting share filled
    obtain ⟨r, rest, rows⟩ := List.exists_cons_of_ne_nil waiting
    simp only [rows, List.head?_cons, Option.map_some, Option.getD_some, List.headD_cons, List.tail_cons] at room share filled
    have waits : w.formNext i false = w :=
      (formNext_phase held forms kind).trans (formRowPacket_waits kind rows (by rw [rows]; exact room) share filled)
    exact (exec_streamPacketForm hw here).trans (congrArg _ (congrArg (fun u => sentIf u i false) waits))
  case loses =>
    intro here held idle waits at_
    exact (exec_streamPacketForm hw here).trans (congrArg _ (congrArg (fun u => sentIf u i false) (formNext_loses held idle waits)))
  case fills =>
    intro r here held forms kind _ rows plain at_ fits old
    have formed : w.formNext i true = rowFormed w i x r :=
      (formNext_phase held forms kind).trans (formRowPacket_one held kind rows fits (.inr ⟨rfl, rfl⟩))
    obtain ⟨sub, last⟩ := rowFormed_forms (r := r) held (fitted ▸ at_)
    rw [rows] at sub
    refine ⟨_, (exec_streamFillTimeout hw here held rows old plain).trans (congrArg _ (congrArg (fun u => sentIf u i false) formed)), ?_, ?_,
      only_rowFormed⟩
    · have counted := congrArg (Option.map (fun q => (q.1, q.2.1))) sub
      rwa [Option.map_map] at counted
    · exact congrArg (Option.map (fun q => (q.sub, q.seq, q.nrows, q.data))) last
  case sends =>
    intro q k here held forms rows events only sub session path up
    have active : (w.sess q.session).state = .active := by
      rw [session]
      rw [State.forms, Bool.and_eq_true, beq_iff_eq] at forms
      exact forms.2
    have sent : sentIf (w.formNext i false) i true = streamSent w k q := by
      rw [formNext_empty held forms rows events, sentIf, if_pos rfl, sendStreams_one only sub active (by rw [session, path]) up]
    exact ⟨_, (exec_streamPacketForm hw here).trans (congrArg _ sent), streamSent_sends wf only⟩
  case drops =>
    intro q r held oldest sub late others at_ _
    exact ⟨_, exec_streamPacketDrop hw oldest sub late, stream_streamDropped oldest sub others, sub_streamDropped held (fitted ▸ at_),
      rd_streamDropped wf, only_lost (only_bump (only_mapKpe only_refl (by decide)) (by decide)) (by decide)⟩

end Sys2Proof.Proofs

end
